-- ==== Sys2Proof/Word.lean ====
section
/-!
DEFINITION. The word types of the model: a byte as the spec's messages and records hold it, and the sparse table
(keys strictly rising) in which every repeated thing of the device is kept. The operations over them stand in
Sys2Proof/Machine/Tab.lean and Sys2Proof/Machine/Bits.lean.
-/
namespace Sys2Proof

/-- One byte of a value, a message or a record. -/
abbrev Byte := BitVec 8

/-- A sparse table: keys strictly rising, an absent key meaning the reader's default. -/
abbrev Tab (α : Type) := List (Nat × α)

end Sys2Proof
end

