-- ==== Sys2Proof/Syntax.lean ====
section
/-!
DEFINITION. The commands of the block: one constructor of `Instr` for each row of spec/opcode_table.json, with what
comes from outside as its operands, and the small records those operands are made of.
-/
namespace Sys2Proof

/-- What every client message carries beside its body (R102, Table 4-3; R96): the connection it came on, the header
fields VERSION, LENGTH and REQUEST_ID, the SET and QUEUE flags, and the site-time offset of its last byte in the
frame (the stamp of R18). -/
structure Client where
  conn : Nat
  version : Nat
  length : Nat
  reqId : Nat
  shadow : Bool
  queue : Bool
  offset : Nat
  /-- The message's OP where it is none of Table 4-4; `none` where it is the row's own. -/
  badOp : Option Nat
deriving DecidableEq, Repr

/-- The body of a WRITE (Table 4-4): index, sub-index, declared type code and the value's bytes. -/
structure WItem where
  index : Nat
  sub : Nat
  type : Nat
  bytes : List Byte
deriving DecidableEq, Repr

/-- A received PTP Announce (Table 2-2): the sender's identity, the fields the best master clock algorithm compares,
its currentUtcOffset and leap indicators, and the domain. -/
structure Announce where
  clockId : Nat
  priority1 : Nat
  clockClass : Nat
  accuracy : Nat
  variance : Nat
  priority2 : Nat
  stepsRemoved : Nat
  domain : Nat
  utcOffset : Int
  leap61 : Bool
  leap59 : Bool
deriving DecidableEq, Repr

/-- A peer delay message (R31): a request of the neighbour, or its response, which completes an exchange of the device with the path
delay it gives in ns. -/
inductive PdelayMsg where
  | request
  | response (delay : Nat)
deriving DecidableEq, Repr

/-- A frame received on a CAN channel (R135, R138, R141): the channel, whether it is an ISO CAN FD frame with an 11-bit base identifier,
its identifier, its data, and the offset in ns of its start-of-frame bit in the frame of site time. What the message says is read from
the identifier and the data. -/
structure CanRx where
  ch : Fin 4
  iso : Bool
  id : Nat
  data : List Byte
  sof : Nat
deriving DecidableEq, Repr

/-- A two-phase message (R53) as a peer or a Eusor node sends it: the unit reference of its sender (Table 2-6), GROUP_ID and the low 32
bits of the SFN. On the module bus it is the frame it came in, and these are read from the frame (R158). -/
structure TwoPhase where
  unit : Nat
  group : Nat
  sfnLow : Nat
  frame : Option CanRx
deriving DecidableEq, Repr

/-- A client connection at the end of its TLS handshake (R101, R425): the interface, the anchor its chain ends at
(none without a chain), whether the chain is inside its validity periods, the certificate's digest, the client's
identity, and the TCP port it was opened to. -/
structure ConnOpen where
  service : Bool
  anchor : Option Nat
  valid : Bool
  digest : Nat
  identity : List Byte
  port : Nat
deriving DecidableEq, Repr

/-- STATUS of an outlet module (Table 6-7) or of a front-end unit (Table 6-8, in `power` and `capLimiting`): the
fields of both tables, those a kind does not send at 0, as they are read from its data. -/
structure UnitStatus where
  volts : Nat
  amps : Int
  limit : Nat
  outlet : Nat
  available : Bool
  zero : Bool
  switched : Bool
  derated : Bool
  faultActive : Bool
  fast : Bool
  capLimiting : Bool
  power : Int
  lastLaunch : Nat
  temp : Int
  seq : Nat
deriving DecidableEq, Repr

/-- An XFER body (R155). -/
structure XferBody where
  tag : Nat
  status : Nat
  index : Nat
  sub : Nat
  type : Nat
  offset : Nat
  total : Nat
  value : List Byte
deriving DecidableEq, Repr


/-- What the vehicle declares in DC_ChargeParameterDiscoveryReq and in a loop request (R174, R178): power in W, currents
in 0.1 A, voltage in 0.1 V, the state of charge where it reports one, and whether it asks to discharge. -/
structure EvParams where
  maxPower : Nat
  maxCurrent : Nat
  maxVoltage : Nat
  targetCurrent : Nat
  maxDischargePower : Nat
  maxDischargeCurrent : Nat
  soc : Option Nat
  discharge : Bool
  /-- The vehicle reports an error code (Table 7-5, code 21). -/
  error : Bool
deriving DecidableEq, Repr

/-- A namespace the vehicle offers in the application-protocol handshake (R166). -/
structure Namespace where
  dc : Bool
  major : Nat
  minor : Nat
deriving DecidableEq, Repr

/-- AUTH_RESPONSE (Table 7-4). -/
structure Decision where
  number : Nat
  result : Nat
  cls : Nat
  account : Nat
deriving DecidableEq, Repr

/-- A copy of a Prebex frame at one radio (R237, R240): the signal strength in dBm, the payload, and the CRC-24 that came with it. -/
structure AirCopy where
  rssi : Int
  bytes : List Byte
  crc : Nat
deriving DecidableEq, Repr

/-- What each of the two radios received in a slot (R240). -/
structure Air where
  copy0 : Option AirCopy
  copy1 : Option AirCopy
deriving DecidableEq, Repr

/-- A monitor's report (Table 10-6). -/
structure Report where
  scale : Fin 4
  alarm : Bool
  ack : Bool
  owDone : Bool
  owOpen : Bool
  retry : Bool
  noBeacon : Bool
  base : Nat
  offsets : List Nat
  aux : Nat
deriving DecidableEq, Repr

/-- A join (Table 10-8). -/
structure Join where
  uid : Nat
  string : Nat
  cells : Nat
  version : Nat
  kind : Nat
  fw : Nat
deriving DecidableEq, Repr


/-- One conversion of a channel in a window: the slice that made it (0–8 bank 2d, 9–17 bank 2d + 1 of die d), its
raw code (R307), and its stamp, the offset within the frame in units of 2.5 ns (R316). -/
structure Conv where
  slice : Nat
  code : Int
  at_ : Nat
deriving DecidableEq, Repr

/-- What a result block is formed from for one channel of one die (R14, R314): its conversions of the window, whether
the common mode left its range at any of them, whether the sequence check failed, and how many values were held
by a capture (R318); and, of the captured channel, the capture samples that fall in the window, which its minimum and maximum include. -/
structure Window where
  ch : Nat
  convs : List Conv
  common : Bool
  sequence : Bool
  held : Nat
  samples : List Conv
deriving DecidableEq, Repr

/-- What a spare finds in its dwell (R308, R322): its own offset in 1/256 LSB, gain in ppm and skew in 0.01 ns, and
the difference between references A and B in ppm. -/
structure SpareCal where
  offset : Int
  gain : Int
  skew : Int
  refDiff : Nat
deriving DecidableEq, Repr

/-- What a check finds of a slice (R308, R309): against the spare that shadows it, the differences in offset (1/256 LSB), gain (ppm) and skew
(0.01 ns); as spare, its own skew (0.01 ns) and whether its offset or gain lies outside the trim range; in its housekeeping slots, the zero
in LSB and reference A's deviation in ppm, of the last cycles, newest first. -/
inductive SliceCheck where
  | shadow (offset gain skew : Int)
  | reference (skew : Int) (outside : Bool)
  | housekeeping (zero refA : List Int)
deriving DecidableEq, Repr

/-- The samples of a finished capture (R319): the instant of the first sample relative to the trigger, corrected codes
before the trigger and during the capture, and whether one of them is a full-scale code. -/
structure CaptureData where
  firstNs : Int
  pre : List Int
  main : List Int
  saturated : Bool
deriving DecidableEq, Repr

/-- How a result block comes in on a sample link (R11, R14, R17): its CRC checks, the frame and cycle of the window it is stamped
with, and its arrival in ns after the tick that closed that window. -/
structure BlockIn where
  crc : Bool
  sfn : Nat
  cycle : Nat
  arrived : Nat
deriving DecidableEq, Repr

/-- A metering die's flush on a power cut (R348): die, time it took in ns, its conversions of the running cycle up to the
recognition. -/
structure Flush where
  die : Fin 2
  ns : Nat
  ws : List Window
deriving DecidableEq, Repr


/-- One channel of the power die's status packet (R12, R374): current of the cycle in mA, channel temperature in
0.1 °C, whether a limit episode is in progress, and the current in the last 100 µs of an on-pulse that ended in the cycle (R384). -/
structure LcSample where
  ch : Nat
  current : Nat
  temp : Int
  limiting : Bool
  pulse : Option Nat
deriving DecidableEq, Repr

/-- The energy a clamp absorbed at a turn-off in µJ (R383). -/
structure Clamp where
  ch : Nat
  energy : Nat
deriving DecidableEq, Repr

/-- What the power die status packet of a cycle carries (R12): its channels, VAUX of both halves in mV and the case
reference of both halves in 0.1 °C, the shift of their load ground in mV (R390), and the clamps of turn-offs that no other command
tells (R383). -/
structure PowerStatus where
  chans : List LcSample
  vauxA : Int
  vauxB : Int
  caseA : Int
  caseB : Int
  groundA : Nat
  groundB : Nat
  clamps : List Clamp
deriving DecidableEq, Repr

/-- What a channel test measures (R385): the reading at the test current of 1 A in mA; the test currents in mA at which the replicas of the
current limit and of the short-circuit comparator tripped; channel temperature less case reference in 0.1 K; leakage in nA. -/
structure LcCheck where
  reading : Nat
  limitAt : Option Nat
  shortAt : Option Nat
  apart : Int
  leak : Nat
deriving DecidableEq, Repr

/-- A remote point in a poll reply (Table 17-4): its F32 pattern and its sampling instant in µs from the period's start. -/
structure NodePoint where
  point : Nat
  value : Nat
  instant : Int
deriving DecidableEq, Repr

/-- A neighbour in a NEIGHBOURS report (Table 17-4): node or 0xFF for the device, mean rates in both directions. -/
structure Neighbour where
  node : Nat
  rateOut : Nat
  rateBack : Nat
deriving DecidableEq, Repr

/-- A segment's tone map (R400): the segment, 4-bit codes of carriers 86 to 1,191, and FEC rate 5/8 instead of 1/2. -/
structure SegMap where
  seg : Nat
  codes : List Byte
  fec58 : Bool
deriving DecidableEq, Repr

/-- A TONE_MAP message (R400): the ends of the segments in 1/24 of the mains cycle, and the maps it brings. -/
structure ToneMap where
  ends : List Nat
  maps : List SegMap
deriving DecidableEq, Repr

/-- A JOIN (R407, R427): UID, connection (line to line), version, ZC offset in µs, its tag, the sender of the beacon heard (0xFF the device),
and the node's nonce for the link key. -/
structure NodeJoin where
  uid : Nat
  lineToLine : Bool
  version : Nat
  zc : Int
  tag : List Byte
  via : Nat
  nonce : Nat
deriving DecidableEq, Repr

/-- One KY half's attempt at the PUF root (R413): it succeeded, PUF_MARGIN in ‰, and the cause where it failed. -/
structure RootTry where
  good : Bool
  margin : Nat
  cause : Nat
deriving DecidableEq, Repr

/-- A stored entry whose copy slots failed their CRC in both arrays (R94): its table (0 RO and RW entries, 1 active set, 2 shadow
set), its key, and which of its two slots failed. -/
structure CopyLoss where
  table : Fin 3
  key : Nat
  a : Bool
  b : Bool
deriving DecidableEq, Repr

/-- What a control die's boot found (R94, R335, R413, R415, R472, R484): half A's attempt, half B's where A failed;
the SHA-384 of the first and the second boot stage, the main image and each legal image; each main slot's image check; each metering die's legal image check; where each metering die took its
registers from (0 its own store, 1 ST, 2 the other die); the sump record's check; copies lost; milliseconds on the backup counter
since its last write. -/
structure BootReport where
  rootA : RootTry
  rootB : Option RootTry
  boot1 : List Byte
  boot2 : List Byte
  main : List Byte
  legalM0 : List Byte
  legalM1 : List Byte
  slot0 : Bool
  slot1 : Bool
  legal0 : Bool
  legal1 : Bool
  regs0 : Fin 3
  regs1 : Fin 3
  sumpOk : Bool
  losses : List CopyLoss
  elapsed : Nat
deriving DecidableEq, Repr

/-- What the KY halves measure (R428): loops that mismatch, bit n for loop n, VBKP in mV, the die temperature in 0.1 °C, and whether a backup
oscillator has stopped. -/
structure KyIn where
  loops : Nat
  vbkp : Nat
  temp : Int
  stopped : Bool
deriving DecidableEq, Repr

/-- What a cycle tick brings (R13, R12, R138, R193): the power die status packet of the cycle, busy time in ns of each CAN channel
since the last tick, the time the loop engine's run takes in ns and the loop it stopped before, and the pins and links of the outlets. -/
structure TickIn where
  power : PowerStatus
  busy : List Nat
  engineNs : Nat
  engineStop : Option Nat
  /-- ESTOP_N is low (R185), and the T1S links that are up, bit n for outlet n (Table 7-6). -/
  estop : Bool
  t1s : Nat
  /-- Rope returns that had a rising edge in the cycle that ended, bit n for string n (R251). -/
  ropes : Nat
  /-- LEGAL_SEAL reads open at M0 and at M1 (R344). -/
  seal0 : Bool
  seal1 : Bool
  /-- The KY halves' tamper loops and environment (R428, R433). -/
  ky : KyIn
deriving DecidableEq, Repr


/-- The commands: those with operands in the order of the table, then those without. (Lean's runtime builds a constructor with fields
only among the first 245; the last eleven with operands, rare ones, can be reasoned about but not built by compiled code.) -/
inductive Instr where
  /-- CYCLE_TICK (R13). The cycle tick starts a 50 µs cycle and its fixed schedule of window close, loops, command forming, latch and mirror window. -/
  | cycleTick (t : TickIn)
  /-- DEADLINE_MISS (R17). A cycle, frame, sweep or interval task has not finished by its tick, so the previous output is kept and the miss is counted. -/
  | deadlineMiss (die : Fin 6) (half : Fin 2) (task : Nat) (period : Nat) (overrun : Nat)
  /-- TICK_LINE_CHANGE (R13). The followed tick line deviates by more than 100 ns or misses a tick, and every die changes to the other line in the same cycle. -/
  | tickLineChange (deviation : Option Nat)
  /-- RESULT_BLOCK (R15). A metering die's per-cycle result block reaches a control die, and each channel's control source is chosen from the dies' validity flags. -/
  | resultBlock (die : Fin 2) (b : BlockIn) (ws : List Window)
  /-- COMMAND_PACKET (R12). The power die receives a command packet, checks the watchdog service word and latches it at 34.0 µs when it comes from the active die. -/
  | commandPacket (die : Fin 2) (crc : Bool) (word : Bool) (clamps : List Clamp)
  /-- FAILSAFE_TIMEOUT (R16). Four consecutive cycles pass without a valid command packet, and the power die applies the stored fail-safe state of every output. -/
  | failsafeTimeout (clamps : List Clamp)
  /-- TEST_QUEUE_START (R23). A queued test starts at the first idle window of its target that is long enough for it. -/
  | testQueueStart (slot : Fin 32)
  /-- TEST_EXPIRED (R23). A queued test has not started within TEST_QUEUE_EXPIRY, so it is removed and event 0xC021 is raised. -/
  | testExpired (slot : Fin 32)
  /-- PTP_SYNC (R28). A PTP Sync message from the selected upstream clock is received and used for acquisition and locking. -/
  | ptpSync (port : Fin 2) (offset : Int)
  /-- PTP_ANNOUNCE (R27). A PTP Announce message is received and the best master clock algorithm selects the clock to follow. -/
  | ptpAnnounce (port : Fin 2) (a : Announce)
  /-- PTP_PDELAY (R31). A peer delay message is exchanged on a port under the peer-to-peer delay mechanism. -/
  | ptpPdelay (port : Fin 2) (m : PdelayMsg)
  /-- ANNOUNCE_TIMEOUT (R28). Three announce intervals pass with no announce from the selected clock, and site time leaves LOCKED for HOLDOVER. -/
  | announceTimeout (port : Fin 2)
  /-- TIME_SET (R35). A write to TIME_SET is accepted or refused, and the correction is applied at the following boundary by slew or step. -/
  | timeSet (c : Client) (sfn : Nat) (ns : Nat)
  /-- ACTION_ARM (R44). A CONTROL write of 1 arms a scheduled action after the checks of R44. -/
  | actionArm (c : Client) (i : Nat)
  /-- ACTION_CANCEL (R48). A CONTROL write of 2 cancels a scheduled action locally or through the two-phase protocol. -/
  | actionCancel (c : Client) (i : Nat)
  /-- ACTION_FREE (R510). A CONTROL write of 3 returns an ended scheduled action to FREE. -/
  | actionFree (c : Client) (i : Nat)
  /-- ANNOUNCE_POINT (R54). At S − ANNOUNCE_LEAD the device sends ANNOUNCE to every participant of an action spanning several units. -/
  | announcePoint (i : Fin 1024)
  /-- ANNOUNCE_REPEAT (R54). Every 100 frames ANNOUNCE is repeated to each participant that has not answered. -/
  | announceRepeat (i : Fin 1024)
  /-- DECIDE_POINT (R54). At S − DECIDE_LEAD the device sends GO when all participants are READY, or CANCEL otherwise. -/
  | decidePoint (i : Fin 1024)
  /-- GO_REPEAT (R54). Every 100 frames GO is repeated to each participant that has not sent GO_ACK. -/
  | goRepeat (i : Fin 1024)
  /-- CANCEL_GUARD_POINT (R54). At S − CANCEL_GUARD the action is locked when every GO_ACK is held, or cancelled otherwise. -/
  | cancelGuardPoint (i : Fin 1024)
  /-- CANCEL_REPEAT (R55). Every 100 frames until S, CANCEL is repeated to each participant that has not sent CANCEL_ACK. -/
  | cancelRepeat (i : Fin 1024)
  /-- DONE_CHECK_POINT (R54). At S + 100 frames the device checks each participant's DONE status. -/
  | doneCheckPoint (i : Fin 1024)
  /-- READY (R54). A participant's READY answer is received and processed at the next boundary. -/
  | ready (i : Fin 1024) (m : TwoPhase)
  /-- NOT_READY (R54). A participant's NOT_READY before S − CANCEL_GUARD cancels the action at every participant. -/
  | notReady (i : Fin 1024) (m : TwoPhase) (reason : Nat)
  /-- GO_ACK (R54). A participant's GO_ACK is received and counted toward locking the action. -/
  | goAck (i : Fin 1024) (m : TwoPhase)
  /-- CANCEL_ACK (R55). A participant's CANCEL_ACK is received, and repetition of CANCEL to it stops. -/
  | cancelAck (i : Fin 1024) (m : TwoPhase)
  /-- DONE (R53). A participant's DONE with its execution status is received. -/
  | done (i : Fin 1024) (m : TwoPhase) (status : Nat)
  /-- CYCLE_MIRROR (R61). The standby receives the cycle state in the mirror window, checks its digest and acknowledges it. -/
  | cycleMirror (crc : Bool) (digest : Bool) (diverged : Option Nat) (selfTest : Bool)
  /-- MIRROR_MISS (R63). A cycle or frame mirror fails or is not acknowledged, so event 0xC032 is raised and the standby uses its own state. -/
  | mirrorMiss (frame : Bool)
  /-- FRAME_MIRROR (R62). The frame mirror stream completes in cycle 19, and the standby applies it when the frame digest checks. -/
  | frameMirror (crc : Bool) (digest : Bool)
  /-- SELF_DIAGNOSED_FAULT (R66). A control die detects a condition of Table 3-3 and yields, stops, or reports it when no standby is synchronised. -/
  | selfDiagnosedFault (die : Fin 2) (code : Fin 11)
  /-- YIELD (R67). A YIELD packet is received by the standby and the power die, which keeps its diagnostic code. -/
  | yield (die : Fin 2) (code : Nat) (ok : Bool)
  /-- TAKE (R69). The power die receives a TAKE packet and accepts or refuses it. -/
  | take (die : Fin 2) (ok : Bool)
  /-- SWAP_REQUEST (R74). A write of 1 to SWAP_REQUEST asks for a planned switch-over at the next boundary. -/
  | swapRequest (c : Client)
  /-- DIE_RESTART (R77). A die that stopped or yielded restarts itself. -/
  | dieRestart (die : Fin 2)
  /-- RESYNC_START (R78). A restarted die that passed its self-test begins resynchronisation, and event 0xC034 is raised. -/
  | resyncStart (die : Fin 2)
  /-- RESYNC_REQUEST (R77). A write of 1 clears a failed control die's restart count and starts it. -/
  | resyncRequest (c : Client)
  /-- DIE_BOOT_COMPLETE (R59). A control die completes its start sequence, reproduces the outputs read back and takes control. -/
  | dieBootComplete (die : Fin 2) (b : BootReport)
  /-- METER_DISAGREE (R80). The dies' window means for a channel differ by more than 0.5 % for 20 cycles, and the spare-slice check begins. -/
  | meterDisagree (ch : Fin 96)
  /-- SPARE_CHECK_DONE (R80). The 8-cycle spare-slice check ends, and the outcome flags one die, both dies or neither. -/
  | spareCheckDone (ch : Fin 96) (m0Bad : Bool) (m1Bad : Bool)
  /-- METER_DIE_FAULT (R81). A metering die fails, and control takes every channel from the other die. -/
  | meterDieFault (m1 : Bool) (diag : Nat)
  /-- CONNECTION_OPEN (R101). A client's TLS handshake completes, and the connection is accepted with the role of its anchor, or closed. -/
  | connectionOpen (conn : Nat) (o : ConnOpen)
  /-- CONNECTION_CLOSE (R101). A client connection closes. -/
  | connectionClose (conn : Nat)
  /-- READ (R20). A READ operation is answered from the state after the last completed cycle. -/
  | read (c : Client) (index : Nat) (sub : Nat)
  /-- WRITE (R97). A WRITE to an entry with no row of its own is checked on receipt and applied or refused at step 2 of the next boundary. -/
  | write (c : Client) (w : WItem)
  /-- WRITE_GROUP (R98). A group of 1–32 writes is checked and applied all together or not at all. -/
  | writeGroup (c : Client) (ws : List WItem)
  /-- READ_SEGMENT (R99). A segment of a long value is read from one snapshot. -/
  | readSegment (c : Client) (index : Nat) (sub : Nat) (start : Nat)
  /-- WRITE_SEGMENT (R99). A segment of a long value is collected and, at the last segment, treated as one write. -/
  | writeSegment (c : Client) (w : WItem) (start : Nat) (total : Nat) (more : Bool)
  /-- SEGMENT_TIMEOUT (R99). No segment arrives for SEGMENT_TIMEOUT, so the tag is freed and the transfer answered CANCELLED. -/
  | segmentTimeout (tag : Fin 256)
  /-- DESCRIBE (R84). A DESCRIBE operation returns an entry's type, access, persistence, maximum length and name. -/
  | describe (c : Client) (index : Nat) (sub : Nat)
  /-- EVENT_READ (R103). An EVENT_READ returns up to 36 log records from the requested sequence. -/
  | eventRead (c : Client) (first : Nat) (count : Nat)
  /-- EVENT_SUBSCRIBE (R103). A connection subscribes to events of at least a severity, or ends its subscription. -/
  | eventSubscribe (c : Client) (severity : Nat)
  /-- EVENT_NOTIFY (R103). In the frame after an event, it is sent to each subscribed connection, and a subscription that falls 256 behind is ended. -/
  | eventNotify (conn : Nat) (delivered : Nat)
  /-- SET_SWAP_NOW (R88). A write of 1 requests a swap of the configuration sets at the next boundary. -/
  | setSwapNow (c : Client)
  /-- SHADOW_COPY (R92). A write of 1 sets every shadow value to its active value. -/
  | shadowCopy (c : Client)
  /-- SHADOW_DEFAULTS (R92). A write of 1 sets every RWS shadow value to its default. -/
  | shadowDefaults (c : Client)
  /-- ALLOCATOR_RUN (R115). At cycle 1 the allocator freezes its inputs and computes ceilings, supply, grants and module moves. -/
  | allocatorRun (us : Nat)
  /-- ACK (R148). An outlet module's ACK of a set-point or command is received. -/
  | ack (r : CanRx)
  /-- MODULE_ACK_MISSING (R121). No acknowledgement arrived by cycle 12, so event 0x2002 is raised and the message is sent again. -/
  | moduleAckMissing (m : Fin 64)
  /-- MODULE_ENABLE (R121). A write of 0 ramps the module to 0 and disables it, ending any reservation. -/
  | moduleEnable (c : Client) (m : Nat) (v : Nat)
  /-- MODULE_MOVE_FAILED (R130). No switched flag within 40 frames, or 3 unacknowledged sends, so the module becomes UNAVAILABLE. -/
  | moduleMoveFailed (m : Fin 64)
  /-- FE_OVER_CAP (R126). A front-end unit reports above 102 % of its cap for 3 frames and is given grant 0. -/
  | feOverCap (f : Fin 16)
  /-- FE_ENABLE (R126). A write of 0 and then 1 returns an OVER_CAP front-end unit to service. -/
  | feEnable (c : Client) (f : Nat) (v : Nat)
  /-- FAULT (R152). A unit's FAULT message is received, and UNIT_FAULT and event 0xA106 follow. -/
  | fault (r : CanRx)
  /-- STATUS (R149). A unit's STATUS message is received and recorded. -/
  | status (r : CanRx)
  /-- XFER_RESPONSE (R155). A unit's response to a device dictionary transfer is received. -/
  | xferResponse (r : CanRx)
  /-- XFER_REQUEST (R155). A unit's dictionary request is received and answered under the module-bus access rules. -/
  | xferRequest (r : CanRx)
  /-- XFER_TIMEOUT (R155). A unit does not answer within 10 frames; the request is resent, and after 3 sends ended CANCELLED. -/
  | xferTimeout (tag : Fin 256)
  /-- TX_REPORT (R139). A one-shot transmission ends with SENT, NOT_STARTED, ERROR or NO_ACK. -/
  | txReport (ch : Fin 4) (cls : Fin 8) (sub : Fin 8) (node : Fin 32) (outcome : Fin 4) (start : Int) (data : List Byte)
  /-- CAN_ERROR_PASSIVE (R140). A channel enters error-passive, and event 0xA101 is raised. -/
  | canErrorPassive (ch : Fin 4) (tx : Nat) (rx : Nat)
  /-- CAN_BUS_OFF (R140). A channel goes bus-off, and event 0xA102 is raised. -/
  | canBusOff (ch : Fin 4)
  /-- BUS_OFF_RECOVERY (R140). After 128 occurrences of 11 recessive bits the controller rejoins. -/
  | busOffRecovery (ch : Fin 4)
  /-- BUSOFF_HOLD_END (R140). BUSOFF_HOLD expires and the held channel rejoins. -/
  | busoffHoldEnd (ch : Fin 4)
  /-- UNIT_STATUS_MISSING (R151). A unit's status is missing for its allowance, and the allocator takes it out of service. -/
  | unitStatusMissing (unit : Fin 80)
  /-- UNIT_CHANNEL_CHANGE (R161). A unit is moved to its alternate attachment, and event 0xA108 is raised. -/
  | unitChannelChange (unit : Fin 80)
  /-- UNIT_TEST (R157). A write of 1 asks a unit for its maker-defined self-test. -/
  | unitTest (c : Client) (unit : Nat) (v : Nat)
  /-- UNIT_TEST_LATE (R157). SELF_TEST_TIME + 100 frames pass without a result, which is LATE. -/
  | unitTestLate (unit : Fin 80)
  /-- PLUG_IN_RECOGNISED (R168). The confirmation reading has stayed in CONNECTED for 20 frames; the session enters CONNECTED and the lock is commanded on. -/
  | plugInRecognised (o : Fin 8)
  /-- CONFIRMATION_LOSS (R168). The confirmation reading leaves CONNECTED for 3 cycles during a session. -/
  | confirmationLoss (o : Fin 8)
  /-- DISCOVERY_REQUEST (R164). An SECC discovery request is answered with the address, port and TLS option. -/
  | discoveryRequest (o : Fin 8) (tls : Bool)
  /-- TLS_HANDSHAKE (R165). The vehicle TLS handshake completes or fails, a failure ending the session with SECURITY_FAILURE. -/
  | tlsHandshake (o : Fin 8) (good : Bool) (cert : Bool)
  /-- APP_PROTOCOL_HANDSHAKE (R166). The vehicle's application-protocol handshake is accepted or refused. -/
  | appProtocolHandshake (o : Fin 8) (offered : List Namespace)
  /-- DIE_HALF_RESTORED (R82). A failed power or link die half becomes healthy again, so UNPOWERED phases return to SHED, cause 16 clears and the half's outlets take sessions again. -/
  | dieHalfRestored (half : Fin 8)
  /-- SERVICE_DISCOVERY_REQ (R167). The vehicle's service discovery or selection request is answered with the DC service, and DC_BPT when BPT_ENABLE is 1, in the supported control modes. -/
  | serviceDiscoveryReq (o : Fin 8) (select : Option Nat) (mode : Fin 2)
  /-- SESSION_SETUP_REQ (R170). SessionSetupReq increments SESSION_COUNTER, sets the session number and ID, and raises 0x3001. -/
  | sessionSetupReq (o : Fin 8) (random : Nat)
  /-- AUTHORIZATION_REQ (R171). AuthorizationReq fills AUTH_KIND and AUTH_IDENTITY and is answered Ongoing until the decision. -/
  | authorizationReq (o : Fin 8) (pnc : Bool) (chainOk : Bool) (contract : List Byte)
  /-- DC_CHARGE_PARAMETER_DISCOVERY (R174). After parameter discovery the session asks the allocator for modules. -/
  | dcChargeParameterDiscovery (o : Fin 8) (p : EvParams)
  /-- DC_CABLE_CHECK_REQ (R175). DC_CableCheckReq starts the cable check once a module is assigned, or is answered Ongoing. -/
  | dcCableCheckReq (o : Fin 8)
  /-- CABLE_CHECK_PASS (R175). The outlet voltage and insulation have held for 1 s, so the cable check passes. -/
  | cableCheckPass (o : Fin 8)
  /-- DC_PRE_CHARGE_REQ (R176). DC_PreChargeReq sends TARGET MODE 1 at the vehicle's target voltage. -/
  | dcPreChargeReq (o : Fin 8) (target : Nat)
  /-- POWER_DELIVERY_REQ_START (R176). PowerDeliveryReq Start enters TRANSFER, or is refused when the voltage misses the target. -/
  | powerDeliveryReqStart (o : Fin 8)
  /-- POWER_DELIVERY_REQ_STANDBY (R181). PowerDeliveryReq Standby pauses the session at zero current. -/
  | powerDeliveryReqStandby (o : Fin 8)
  /-- POWER_DELIVERY_REQ_STOP (R182). PowerDeliveryReq Stop ends the session COMPLETED_BY_VEHICLE. -/
  | powerDeliveryReqStop (o : Fin 8)
  /-- SESSION_STOP_REQ (R182). SessionStopReq Terminate ends the session and is answered in RELEASE. -/
  | sessionStopReq (o : Fin 8)
  /-- LOOP_REQUEST (R178). A vehicle loop request is received and answered with present values and limits. -/
  | loopRequest (o : Fin 8) (p : EvParams)
  /-- DC_WELDING_DETECTION_REQ (R188). DC_WeldingDetectionReq is answered with the outlet voltage. -/
  | dcWeldingDetectionReq (o : Fin 8) (finished : Bool)
  /-- CERTIFICATE_INSTALLATION_REQ (R426). A CertificateInstallationReq is answered with the failure response code. -/
  | certificateInstallationReq (o : Fin 8)
  /-- AUTH_RESPONSE (R172). The client's authorisation decision is checked and applied. -/
  | authResponse (c : Client) (o : Nat) (d : Decision)
  /-- EIM_TOKEN (R171). A write reports the External Identification Means token for the session. -/
  | eimToken (c : Client) (o : Nat) (token : List Byte)
  /-- AUTH_TIMEOUT (R173). No decision within AUTH_TIMEOUT, so the session ends or is accepted under AUTH_OFFLINE_POLICY. -/
  | authTimeout (o : Fin 8)
  /-- SESSION_STATE_LIMIT (R169). A session state exceeds its limit of Table 7-3, and the session ends with the reason given. -/
  | sessionStateLimit (o : Fin 8)
  /-- INSULATION_TRIP (R177). Insulation stays below ISO_FAULT × voltage for 10 frames, which is a trip. -/
  | insulationTrip (o : Fin 8)
  /-- OUTLET_TRIP (R184). An over-voltage, over-current or module-fault condition of Table 7-6 starts a fast stop. -/
  | outletTrip (o : Fin 8) (k : Fin 3)
  /-- LINK_LOST (R184). The T1S link is down for 10 frames or the loop requests fall silent, ending the session. -/
  | linkLost (o : Fin 8) (silence : Bool)
  /-- STOP_REQUEST (R183). A STOP_REQUEST write ends the session with an operator or local stop. -/
  | stopRequest (c : Client) (o : Nat) (v : Nat)
  /-- OUTLET_RESET (R188). A write of 1 moves a FAULTED outlet to IDLE when the coupler is open and no weld remains. -/
  | outletReset (c : Client) (o : Nat) (v : Nat)
  /-- OUTLET_ENABLE (R163). A write to OUTLET_ENABLE is checked against the outlet's resources and applied. -/
  | outletEnable (c : Client) (o : Nat) (v : Nat)
  /-- CONTACTOR_OPEN (R184). The outlet current has stayed below 5 A for 2 cycles during a stop, so the contactor opens. -/
  | contactorOpen (o : Fin 8)
  /-- FORCED_OPEN (R184). STOP_TIMEOUT or FORCED_OPEN_DELAY passes first, so the contactor is opened anyway. -/
  | forcedOpen (o : Fin 8)
  /-- ESTOP_RESET (R186). A write of 1 ends the emergency stop once ESTOP_N is high. -/
  | estopReset (c : Client) (v : Nat)
  /-- WELDING_CHECK (R188). At 500 ms after the open command the module side is compared with the vehicle side. -/
  | weldingCheck (o : Fin 8)
  /-- RELEASE_LOCK_OFF (R189). The outlet voltage falls below 60 V in RELEASE, so the lock turns off and the session record is written. -/
  | releaseLockOff (o : Fin 8)
  /-- COUPLER_RELEASED (R189). The coupler reads OPEN for 20 frames and the outlet returns to IDLE, FAULTED or UNAVAILABLE. -/
  | couplerReleased (o : Fin 8)
  /-- LOOP_SATURATED (R198). SAT_FRAMES reaches 1,000, and event 0x7003 is raised. -/
  | loopSaturated (l : Fin 64)
  /-- LOOP_RESET (R200). A write of 1 clears a loop fault and presets its states. -/
  | loopReset (c : Client) (l : Nat) (v : Nat)
  /-- CABLE_OVER_TEMP (R209). Conductor or pin temperature exceeds its trip level for its count, so the cable trips. -/
  | cableOverTemp (o : Fin 8) (pin : Bool)
  /-- COOLANT_FLOW_LOW (R205). With pump duty at least 0.2 for 5 s and flow below FLOW_MIN, FLOW_LOW is set. -/
  | coolantFlowLow (o : Fin 8)
  /-- COOLANT_FLOW_RESTORED (R205). Flow has been at or above FLOW_MIN for 5 s, so FLOW_LOW clears. -/
  | coolantFlowRestored (o : Fin 8)
  /-- GROUP_RANGE_RETURN (R212). V_L has been in range for 20 frames, so the group returns to RUN. -/
  | groupRangeReturn (g : Fin 8)
  /-- PHASE_FIRE (R214). The summed current estimate falls to the valley threshold and the phase at the rotation pointer fires. -/
  | phaseFire (g : Fin 8) (at_ : Nat)
  /-- PHASE_IMBALANCE (R216). A phase holds its trim at a bound for 1,000 frames, and event 0x6003 is raised. -/
  | phaseImbalance (p : Fin 32)
  /-- PHASE_FAST_TRIP (R226). A phase comparator crosses its threshold, so both gates go off within 300 ns. -/
  | phaseFastTrip (p : Fin 32)
  /-- FAST_TRIP_HOLD_END (R227). After FAST_TRIP_HOLD frames a tripped phase is marked for adding. -/
  | fastTripHoldEnd (p : Fin 32)
  /-- GROUP_RESET (R228). A write of 1 returns a TRIPPED group to READY. -/
  | groupReset (c : Client) (g : Nat) (v : Nat)
  /-- PHASE_FAILED (R231). A phase meets a condition of Table 9-2, so it is disabled at the latch and event 0x6001 is raised. -/
  | phaseFailed (p : Fin 32)
  /-- PHASE_OVERLOAD (R229). A phase exceeds 1.1 × rating for OVERLOAD_TIME and becomes FAILED. -/
  | phaseOverload (p : Fin 32)
  /-- STEP_HOLD_END (R225). SHED_DELAY frames after a load step, STEP_HOLD clears. -/
  | stepHoldEnd (g : Fin 8)
  /-- GROUP_STOP_COMPLETE (R221). The group current falls below 2 % or 2 frames pass, so every gate goes off and the group is READY. -/
  | groupStopComplete (g : Fin 8)
  /-- PHASE_TEST (R232). A write of 1 asks for a single-firing test of a phase. -/
  | phaseTest (c : Client) (p : Nat) (v : Nat)
  /-- PHASE_TEST_DONE (R232). The phase test ends, and its result and event 0x6004 follow. -/
  | phaseTestDone (p : Fin 32) (comparator : Bool)
  /-- PHASE_RESET (R232). A write of 1 moves a FAILED phase to SHED when its conditions allow. -/
  | phaseReset (c : Client) (p : Nat) (v : Nat)
  /-- REPORT (R243). A monitor's report is received in its data or retry slot. -/
  | report (k : Fin 256) (a : Air)
  /-- MONITOR_JOIN (R245). An unenrolled monitor's join is received in a join slot. -/
  | monitorJoin (n : Fin 8) (a : Air)
  /-- ROPE_CLOSED (R251). The carrier has been present at ROPE_RET for 20 frames, so ROPE_STATE is CLOSED. -/
  | ropeClosed (n : Fin 8)
  /-- ROPE_OPEN (R251). No carrier edge for 250 µs while CLOSED, so the hardware path opens the string. -/
  | ropeOpen (n : Fin 8)
  /-- ROPE_COILS_OFF (R274). One millisecond after the rope opened, the power die turns off the string's three coils. -/
  | ropeCoilsOff (n : Fin 8)
  /-- ROPE_WAKE (R261). A wake burst arrives at ROPE_RET, and event 0x5107 is raised. -/
  | ropeWake (n : Fin 8)
  /-- LOST_MONITOR_WAKE_BURST (R249). Every 10 s while a monitor is LOST, a wake burst is sent on its string's rope. -/
  | lostMonitorWakeBurst (k : Fin 256)
  /-- ALARM_RESET (R252). A write of 1 sends RESET_ALARM to a monitor with a latched alarm. -/
  | alarmReset (c : Client) (k : Nat) (v : Nat)
  /-- ROPE_REENUMERATE (R253). A write of 1 starts enumeration of a string with every contactor open. -/
  | ropeReenumerate (c : Client) (n : Nat) (v : Nat)
  /-- ENUM_WAKE_BURST (R253). After the carrier has been off 10 ms, the wake burst goes out on ROPE_OUT. -/
  | enumWakeBurst (n : Fin 8)
  /-- ENUM_CARRIER_START (R253). After 24 sweeps of beacons the carrier starts and the string's join slot opens. -/
  | enumCarrierStart (n : Fin 8)
  /-- ENUM_FAIL (R254). No join arrives for 2 s before the carrier returns, so enumeration fails. -/
  | enumFail (n : Fin 8)
  /-- ACCEPT_REPLACEMENT (R255). A write of 1 stores a replacement monitor's UID and lets enumeration continue. -/
  | acceptReplacement (c : Client) (n : Nat) (v : Nat)
  /-- SERVICE_DEMANDED (R259). At BREAK_SFN + 86,400,000 the device requests disconnection for service. -/
  | serviceDemanded (k : Fin 256)
  /-- MONITOR_TEST (R260). A write of 1 tests every wire of a monitor, one per sweep. -/
  | monitorTest (c : Client) (k : Nat) (v : Nat)
  /-- STRING_CONNECT_START (R265). Every precondition holds at a boundary, so a string connection starts. -/
  | stringConnectStart (n : Fin 8)
  /-- STRING_CONNECT_STEP (R266). A connection step reaches its duration or pass condition, and the sequence moves on or fails. -/
  | stringConnectStep (n : Fin 8)
  /-- STRING_REQUEST (R265). A write of STRING_REQUEST asks to connect, or with 0 opens the string with cause 1. -/
  | stringRequest (c : Client) (n : Nat) (v : Nat)
  /-- STRING_DERATE (R270). A write sets or clears the operator derating cause. -/
  | stringDerate (c : Client) (n : Nat) (v : Nat)
  /-- STRING_OVER_CURRENT (R271). String current exceeds STRING_I_TRIP for 10 cycles, opening the string with cause 6. -/
  | stringOverCurrent (n : Fin 8)
  /-- STRING_INSULATION_FAULT (R271). Insulation stays below STR_ISO_FAULT × V_P for ISO_FAULT_TIME, opening the string. -/
  | stringInsulationFault (n : Fin 8)
  /-- STRING_CURRENT_SENSE_LOST (R271). STRING_I_MCH is invalid in both dies for 20 cycles, opening the string. -/
  | stringCurrentSenseLost (n : Fin 8)
  /-- STRING_CAUSE_CLEARED (R271). A non-latching disconnection cause meets its clearing time and no longer blocks reconnection. -/
  | stringCauseCleared (n : Fin 8) (cause : Fin 17)
  /-- STRING_COILS_OFF (R272). The string current has been below OPEN_CURRENT for 2 cycles, so all three coils turn off. -/
  | stringCoilsOff (n : Fin 8)
  /-- STRING_FORCED_OPEN (R272). OPEN_TIMEOUT passes first, so the coils are turned off anyway. -/
  | stringForcedOpen (n : Fin 8)
  /-- WELD_CHECK_END (R273). WELD_CHECK_TIME passes and V_C shows whether a main contactor is welded. -/
  | weldCheckEnd (n : Fin 8)
  /-- STRING_RESET (R279). A write of 1 moves a LOCKED_OUT string to OPEN. -/
  | stringReset (c : Client) (n : Nat) (v : Nat)
  /-- STRING_TEST (R280). A write of 1 runs connection steps 1–3 as a weld test. -/
  | stringTest (c : Client) (n : Nat) (v : Nat)
  /-- STRING_TEST_DONE (R280). The string test ends, and its result and event 0x400B follow. -/
  | stringTestDone (n : Fin 8)
  /-- EST_RESET (R302). A write of 1 resets every cell's learned values. -/
  | estReset (c : Client) (n : Nat) (v : Nat)
  /-- SPARE_DWELL_END (R308). The spare's dwell ends and it takes the slots of the next slice in rotation. -/
  | spareDwellEnd (bank : Fin 4) (r : SpareCal)
  /-- SLOT_TABLE_REBUILD (R310). At the next frame boundary after n falls, the slot table is rebuilt. -/
  | slotTableRebuild (die : Fin 2)
  /-- CAPTURE_TRIGGER (R317). An armed capture triggers on its level or a forced trigger, and starts or is refused. -/
  | captureTrigger (x : Nat) (ns : Nat)
  /-- CAPTURE_FORCE (R317). A write of 1 forces a capture at the first slot of the applying frame. -/
  | captureForce (c : Client) (v : Nat)
  /-- CAPTURE_DONE (R319). A capture's 4,000 samples are taken; the record is sent, stored and event 0x8021 is raised. -/
  | captureDone (d : CaptureData)
  /-- CAL_ZERO (R320). An MCH_CAL_REQUEST with COMMAND ZERO starts a zero calibration of a channel. -/
  | calZero (c : Client) (ch : Nat) (dies : Nat) (reference : Nat)
  /-- CAL_SPAN (R320). An MCH_CAL_REQUEST with COMMAND SPAN starts a span calibration against REFERENCE. -/
  | calSpan (c : Client) (ch : Nat) (dies : Nat) (reference : Nat)
  /-- CAL_RESTORE (R320). An MCH_CAL_REQUEST with COMMAND RESTORE resets the calibration to zero offset and unit gain. -/
  | calRestore (c : Client) (ch : Nat) (dies : Nat) (reference : Nat)
  /-- CAL_DONE (R321). A calibration's frames end, and its values are stored or refused. -/
  | calDone (ch : Fin 96)
  /-- MCH_OPEN_TEST (R323). A write of 1 starts the open-input test of a channel. -/
  | mchOpenTest (c : Client) (ch : Nat) (v : Nat)
  /-- OPEN_TEST_DONE (R323). The open-input test ends, and event 0x8104 is raised. -/
  | openTestDone (ch : Fin 96) (pos neg : Nat)
  /-- METER_COMMIT (R334). At cycle 19 each metering die adds the frame's energy to its registers and commits them. -/
  | meterCommit (die : Fin 2) (ws : List Window)
  /-- CROSS_RESET (R341). A write of 1 with the seal open returns a point to AGREE on M0. -/
  | crossReset (c : Client) (pt : Nat) (v : Nat)
  /-- PEAK_RESET (R338). A write of 1 clears PEAK_I and PEAK_SFN. -/
  | peakReset (c : Client) (pt : Nat) (v : Nat)
  /-- OVERCURRENT (R338). Over-current lasts OC_TIME, so OC_COUNT is incremented and event 0x8036 is raised. -/
  | overcurrent (pt : Fin 17) (leg : Fin 3)
  /-- OVERCURRENT_END (R338). The current falls back after over-current, and event 0x8037 is raised. -/
  | overcurrentEnd (pt : Fin 17) (leg : Fin 3)
  /-- LEGAL_SEAL_CHANGE (R344). A seal level has held for 20 frames, so the seal opens or closes and is logged. -/
  | legalSealChange (opened : Bool)
  /-- LEGAL_LOG_ARCHIVE (R347). A write with the seal open frees legal log records up to a sequence. -/
  | legalLogArchive (c : Client) (seq : Nat)
  /-- DISPLAY_FRAME (R343). Every DISPLAY_PERIOD the display die sends the next display item. -/
  | displayFrame (busy : Bool)
  /-- DISPLAY_BUSY_TIMEOUT (R498). DISP_BUSY stays high for 100 ms, so the frame is sent or dropped. -/
  | displayBusyTimeout (busy : Bool)
  /-- PFW_ASSERT (R482). PFW_N is low for 1 µs, so the dies flush to the sump and the legal stores. -/
  | pfwAssert (offset : Nat) (flushes : List Flush)
  /-- METER_STOP (R348). At 4.8 ms after recognition a metering die stops conversion, commits and writes a stop mark. -/
  | meterStop (die : Fin 2) (ws : List Window)
  /-- BILLING_CLOSE (R363). A write of 1 closes the billing period at the next boundary. -/
  | billingClose (c : Client) (v : Nat)
  /-- CREDIT_TOPUP (R369). A top-up write adds its amount to an account's balance. -/
  | creditTopup (c : Client) (a : Nat) (amount : Int) (reference : Nat)
  /-- READING_REQUEST (R370). A write of 1 issues a KIND 3 signed reading record for the point. -/
  | readingRequest (c : Client) (pt : Nat) (v : Nat)
  /-- LC_COMMAND (R377). A client write of a channel command is accepted only when the client owns the channel. -/
  | lcCommand (c : Client) (ch : Nat) (v : Nat)
  /-- LC_DUTY (R377). A client write of a channel duty is accepted only when the client owns the channel. -/
  | lcDuty (c : Client) (ch : Nat) (v : Nat)
  /-- LC_PULL_IN_END (R375). LC_PULL_IN_TIME ends, and a COIL channel changes to its hold duty. -/
  | lcPullInEnd (ch : Fin 40)
  /-- LC_SHORT_CIRCUIT (R379). Channel current reaches 20 A, so the gate goes off within 2 µs. -/
  | lcShortCircuit (ch : Fin 40) (peak : Nat) (clamp : Nat)
  /-- LC_LIMIT_TIMEOUT (R379). A current-limit episode reaches LC_LIMIT_TIME, so the channel turns off. -/
  | lcLimitTimeout (ch : Fin 40) (peak : Nat) (clamp : Nat)
  /-- LC_OVERLOAD (R379). The frame-mean current exceeds LC_I_MAX for 1 s, so the channel turns off. -/
  | lcOverload (ch : Fin 40) (clamp : Nat)
  /-- LC_THERMAL_LATCH (R380). The channel temperature rise or absolute temperature exceeds its limit, so the gate goes off. -/
  | lcThermalLatch (ch : Fin 40) (rise : Nat) (temp : Int) (clamp : Nat)
  /-- LC_THERMAL_CLEAR (R380). The thermal latch clears, and the channel resumes its command. -/
  | lcThermalClear (ch : Fin 40) (rise : Nat) (temp : Int)
  /-- LC_RETRY (R381). The retry wait ends, and the channel turns on again when still commanded. -/
  | lcRetry (ch : Fin 40)
  /-- LC_RETRY_BUDGET_RESET (R381). The channel has been on for LC_RETRY_CLEAR_TIME since its last episode, so LC_RETRIES_USED returns to 0. -/
  | lcRetryBudgetReset (ch : Fin 40)
  /-- LC_RESET (R382). A write of 1 clears LATCHED_OFF, CLAMP_LOCKOUT and the retry counts. -/
  | lcReset (c : Client) (ch : Nat) (v : Nat)
  /-- LC_OPEN_LOAD (R384). The current stays below LC_OPEN_LOAD_I for LC_OPEN_LOAD_TIME, so OPEN_LOAD is set. -/
  | lcOpenLoad (ch : Fin 40)
  /-- LC_OPEN_LOAD_CLEAR (R384). The current stays above the threshold for LC_OPEN_LOAD_TIME, so OPEN_LOAD clears. -/
  | lcOpenLoadClear (ch : Fin 40)
  /-- LC_TEST (R385). A write of 1 tests a channel without energising its load. -/
  | lcTest (c : Client) (ch : Nat) (v : Nat)
  /-- LC_TEST_DONE (R385). The 20 ms channel test ends, and event 0x900B is raised. -/
  | lcTestDone (ch : Fin 40) (x : LcCheck)
  /-- HALF_OVERLOAD (R374). A half's channel currents exceed 24 A for 1 s, and event 0x9047 is raised. -/
  | halfOverload (half : Fin 2)
  /-- VAUX_UNDERVOLTAGE (R390). VAUX falls below 8.5 V, so the half's channels are cut off. -/
  | vauxUndervoltage (half : Fin 2) (mv : Int)
  /-- VAUX_OVERVOLTAGE (R390). VAUX rises above 38 V for a hold, or above 48 V for a cut-off. -/
  | vauxOvervoltage (half : Fin 2) (mv : Int)
  /-- LOAD_GROUND_LOST (R390). The load ground shifts more than 1 V from device ground, so the half is cut off. -/
  | loadGroundLost (half : Fin 2) (mv : Nat)
  /-- VAUX_RECOVERY (R390). A supply condition has recovered for 10 ms, and the lower ranks resume. -/
  | vauxRecovery (half : Fin 2) (cond : Fin 5)
  /-- BEACON_PERIOD_START (R395). Every second positive zero crossing starts a beacon period, with the beacon and scheduled polls. -/
  | beaconPeriodStart (offset : Nat) (c1 : Nat) (c2 : Nat) (heard : Bool)
  /-- ZC_LOST (R395). No zero crossing arrives within 10 % of its instant, so the periods run at nominal length. -/
  | zcLost (measured : Nat)
  /-- POLL_REPLY (R402). A node's poll reply with load, zero-crossing offset and points is received. -/
  | pollReply (e : Fin 128) (data : List Byte)
  /-- POLL_FAIL (R403). A poll reply is missing or fails its CRC, so the poll is retried. -/
  | pollFail (e : Fin 128) (dir : Fin 2)
  /-- DATA_FRAME (R394). A data frame is received and answered with a selective acknowledgement. -/
  | dataFrame (e : Fin 128) (start : Nat) (blocks : List (List Byte))
  /-- SELECTIVE_ACK (R394). A selective acknowledgement is received, and unacknowledged blocks are resent. -/
  | selectiveAck (e : Fin 128) (mask : Nat)
  /-- TONE_MAP (R400). A TONE_MAP message is received and its maps apply from the next beacon period. -/
  | toneMap (e : Fin 128) (m : ToneMap)
  /-- JOIN (R407). A node's JOIN is checked and the node admitted or refused. -/
  | join (j : NodeJoin)
  /-- LOAD_REQUEST (R409). A node's load request is granted or deferred against the phase imbalance. -/
  | loadRequest (e : Fin 128) (watts : Nat) (essential : Bool)
  /-- LOAD_DEFER_EXPIRY (R409). AUX_DEFER_MAX passes for a deferred request, so it is granted. -/
  | loadDeferExpiry (e : Fin 128)
  /-- KEY_UPDATE (R421). A KEY_UPDATE message writes, generates or erases a grotto slot key. -/
  | keyUpdate (c : Client) (k : Nat) (msg : List Byte)
  /-- KEY_CHALLENGE (R422). A 32-byte challenge asks for a proof made with the pending key. -/
  | keyChallenge (c : Client) (k : Nat) (v : List Byte)
  /-- KEY_CONFIRM (R422). A matching confirm makes the pending key active and erases the old one. -/
  | keyConfirm (c : Client) (k : Nat) (v : Nat)
  /-- SLOT_CERT (R422). A certificate chain is written for an active or pending slot key. -/
  | slotCert (c : Client) (k : Nat) (v : List Byte)
  /-- KEY_PENDING_EXPIRED (R422). A pending key is not confirmed within KEY_PENDING_TIMEOUT and is erased. -/
  | keyPendingExpired (k : Fin 64)
  /-- TAMPER (R429). A tamper is recognised, `run` comparisons of a loop after its pattern left it, and KY zeroises as configured. -/
  | tamper (cause : Fin 7) (run : Nat) (k : KyIn)
  /-- SLOT_MANIFEST (R437). A manifest is written to an image slot and checked. -/
  | slotManifest (c : Client) (i : Nat) (v : List Byte)
  /-- SLOT_BLOCK (R438). An image block is written and checked against the block table. -/
  | slotBlock (c : Client) (i : Nat) (v : List Byte)
  /-- SLOT_ERASE (R439). A write of 1 empties a RECEIVING or VERIFIED slot. -/
  | slotErase (c : Client) (i : Nat) (v : Nat)
  /-- PREPARE_START (R440). At the preparation point the standby restarts from the staged image. -/
  | prepareStart (i : Fin 1024)
  /-- PREPARE_FAILED (R441). A preparation step fails or exceeds 3,000 frames, and the standby returns to the running image. -/
  | prepareFailed (step : Fin 4) (status : Nat)
  /-- FW_CONFIRM (R445). A write of 1 confirms the trial image. -/
  | fwConfirm (c : Client) (v : Nat)
  /-- FW_FALLBACK (R445). A write of 1 falls back to the old image by a planned switch-over. -/
  | fwFallback (c : Client) (v : Nat)
  /-- RECOVERY_BOOT (R448). A write restarts both control dies from a verified main slot. -/
  | recoveryBoot (c : Client) (v : Nat)
  /-- STREAM_READY (R457). A READY on STRM_IN brings the streaming link UP or restarts it. -/
  | streamReady (msg : List Byte)
  /-- STREAM_CREDIT (R456). A CREDIT on STRM_IN frees blocks. -/
  | streamCredit (msg : List Byte)
  /-- STREAM_MASK (R459). A write enables or disables streams, discarding the buffers of those cleared. -/
  | streamMask (c : Client) (v : Nat)
  /-- SERVICE_LINK_CHANGE (R461). The service port link goes up, down or is refused. -/
  | serviceLinkChange (v : Fin 3)
  /-- RECOVERY_ENTER (R464). A write of 1 restarts both control dies into RECOVERY. -/
  | recoveryEnter (c : Client) (v : Nat)
  /-- RECOVERY_EXIT (R474). A write of 1 restarts both control dies from RECOVERY or TEST into START. -/
  | recoveryExit (c : Client) (v : Nat)
  /-- TEST_ENTER (R475). A write of 1 in RECOVERY enters TEST at the next boundary. -/
  | testEnter (c : Client) (v : Nat)
  /-- SUPPLY_FAULT (R466). A supply domain leaves its window with the effect of Table 21-1. -/
  | supplyFault (dom : Fin 15) (mv : Nat)
  /-- SUPPLY_RESTORED (R466). A supply domain has been back in its window for 10 ms. -/
  | supplyRestored (dom : Fin 15) (mv : Nat) (ms : Nat)
  /-- SIDE_RESET_RELEASE (R467). A side has been in its windows for 10 ms with RST_N high, so its dies leave reset. -/
  | sideResetRelease (sideB : Bool)
  /-- SLEEP_REQUEST (R476). A write of 1 asks for SLEEP, opening strings and broadcasting SLEEP. -/
  | sleepRequest (c : Client) (v : Nat)
  /-- SHIP_REQUEST (R480). A write of 1 asks for SHIP, opening strings and broadcasting SHIP. -/
  | shipRequest (c : Client) (v : Nat)
  /-- SHIP_ENTRY (R480). The stores and stop marks complete, so the state becomes SHIP and SUPPLY_EN falls. -/
  | shipEntry (flushes : List Flush)
  /-- DIE_HALF_FAULT (R82). A power die half (or its serial watchdog), a link die half, a key die half or an ST array fails, and event 0xC011 is raised with the responses of Table 3-5. -/
  | dieHalfFault (half : Fin 8) (watchdog : Bool) (diag : Nat)
  /-- SIPHON_LANE_LOSS (R65). A Siphon lane fails, and the mirror changes to digest mode or loses synchronisation. -/
  | siphonLaneLoss (lane : Fin 3)
  /-- SPARE_CHECK_REPEAT (R80). Every 1,000 frames a die repeats the spare check on a channel it has flagged. -/
  | spareCheckRepeat (ch : Fin 96) (m1 : Bool) (agrees : Bool)
  /-- PEER_CONNECT (R104). The device connects as a client to an enabled Ethernet peer. -/
  | peerConnect (e : Fin 32) (accepted : Bool)
  /-- SENSE_BREAK_TIMEOUT (R258). No open-wire result within 10 sweeps of a suspicion confirms the break. -/
  | senseBreakTimeout (k : Fin 256) (wire : Fin 17)
  /-- SLICE_RETIRED (R309). A slice fails its shadow check, calibration or housekeeping, and is retired. -/
  | sliceRetired (bank : Fin 4) (slice : Fin 9) (c : SliceCheck)
  /-- VAUX_REVERSED (R390). VAUX falls below −0.5 V with VIO present, so the half is cut off. -/
  | vauxReversed (half : Fin 2) (mv : Int)
  /-- TONE_MAP_AGE_EXPIRY (R401). A map exceeds TM_MAX_AGE and is marked stale. -/
  | toneMapAgeExpiry (e : Fin 128) (dir : Fin 2) (seg : Fin 6)
  /-- MODEM_HANDOVER (R399). The listening modem becomes active at the next period start. -/
  | modemHandover (cause : Fin 3)
  /-- SOUNDING (R400). A node's sounding in the contention region is received, and the device measures each carrier's signal-to-noise ratio and sends a TONE_MAP. -/
  | sounding (e : Fin 128) (ends : List Nat) (snr : List (List Int))
  /-- CONTENTION_ACCESS (R405). The device's random backoff in the contention region counts down after 80 µs idle and it transmits, doubling CW after a collision or a missing acknowledgement. -/
  | contentionAccess (e : Fin 128) (start : Nat) (failed : Bool)
  /-- LEGAL_IMAGE_LOAD_DONE (R449). Each metering die completes loading a legal image into its inactive bank and KY measures it against the declared measurement. -/
  | legalImageLoadDone (die : Fin 2) (digest : List Byte)
  /-- FRAME_BOUNDARY (R19). At cycle 0 of a new frame the device processes internal events, applies stamped requests and launches grants in the order of R19. -/
  | frameBoundary
  /-- PTP_SYNC_TRANSMIT (R32). As grandmaster the device sends Sync and Announce on each port every 1 s. -/
  | ptpSyncTransmit
  /-- TIME_STEP (R37). A stepped correction takes effect at the boundary after the applying one, renumbering frames and raising event 0x1011. -/
  | timeStep
  /-- STEP_LAST_DAY_END (R37). Twenty-four hours after a step, STEP_LAST_DAY clears. -/
  | stepLastDayEnd
  /-- LEAP_SECOND (R33). The UTC instant of a leap second arrives; UTC changes, and event 0x1015 is raised. -/
  | leapSecond
  /-- BACKUP_COUNTER_WRITE (R34). Every 60 s while time is LOCKED or SET, site time is written to the key die's backup counter. -/
  | backupCounterWrite
  /-- ACTION_EXECUTION (R45). At cycle 0 of its SFN an armed action executes in the order of R45. -/
  | actionExecution
  /-- SWITCH_OVER (R71). At the next cycle 0 after an accepted TAKE, the device records the new active die and raises event 0xC030. -/
  | switchOver
  /-- PLANNED_SWITCH_OVER (R74). At the swap boundary the old active die yields and the standby takes control with no cycle lost. -/
  | plannedSwitchOver
  /-- RESYNC_PHASE_DONE (R78). A resynchronisation phase completes and the next begins, ending with MIRROR_SYNC set and event 0xC035. -/
  | resyncPhaseDone
  /-- RESYNC_FAILED (R79). A resynchronisation phase exceeds its limit or fails, and event 0xC036 is raised. -/
  | resyncFailed
  /-- RESYNC_RETRY (R79). One second after a failed attempt, resynchronisation is tried again. -/
  | resyncRetry
  /-- PREFERRED_DIE_TIMEOUT (R59). PREFERRED_DIE has not completed boot within 5 s of the other die, so the other becomes active. -/
  | preferredDieTimeout
  /-- SET_SWAP (R88). At step 3 of a boundary the shadow set is checked and exchanged with the active set. -/
  | setSwap
  /-- LIMIT_RECHECK (R117). At cycle 12 the allocator rereads string, cable and fault limits and lowers grants before publication. -/
  | limitRecheck
  /-- GRANT_PUBLISH (R118). At cycle 13 the allocator publishes its grants, decreases for N+2 and increases for N+3. -/
  | grantPublish
  /-- SETPOINT_TRANSMIT (R145). In cycles 14–18 the device sends SETPOINT blocks for the launch frame. -/
  | setpointTransmit
  /-- GRANT_LAUNCH (R118). At cycle 0 of its launch frame a published grant takes effect. -/
  | grantLaunch
  /-- IMPORT_OVER_LIMIT (R126). Metered import exceeds the limit by 1 % for 3 frames, so front-end grants are lowered. -/
  | importOverLimit
  /-- EMERGENCY_STOP (R185). ESTOP_N is low for 2 cycles, so every outlet with a session gets a fast stop. -/
  | emergencyStop
  /-- ESTOP_FORCED_OPEN (R185). FORCED_OPEN_DELAY after recognition, each power die half opens every contactor channel. -/
  | estopForcedOpen
  /-- ESTOP_RELEASE (R186). ESTOP_N returns high, and the outlets await reset. -/
  | estopRelease
  /-- ESTOP_AUTO_RESET (R186). With ESTOP_AUTO_RESET set, the emergency stop ends 1 s after ESTOP_N returns high. -/
  | estopAutoReset
  /-- SWEEP_START (R239). At each SFN divisible by 50 a sweep starts and both radios send the beacon. -/
  | sweepStart
  /-- RETRY_CALL (R244). At 44,050 µs the device sends the retry call naming the monitors whose reports were missed. -/
  | retryCall
  /-- SWEEP_PUBLISH (R248). At frame 50w + 52 the results of sweep w are published. -/
  | sweepPublish
  /-- ESTIMATE_COMMIT (R284). At cycle 0 of frame 50w + 60 the estimator's new cell values commit together. -/
  | estimateCommit
  /-- BALANCE_SELECTION (R299). Every 60 s the device chooses bleeds and sends BALANCE commands. -/
  | balanceSelection
  /-- ESTIMATOR_STORE (R300). Estimator state and learned values are written to ST on their periods. -/
  | estimatorStore
  /-- CROSS_CHECK_WINDOW (R339). Every CROSS_WINDOW frames the two dies compare their energy sums for each point. -/
  | crossCheckWindow
  /-- PFW_RELEASE (R483). PFW_N returns high, and the device carries on. -/
  | pfwRelease
  /-- CALENDAR_ACTIVATION (R356). Meter time passes a calendar's CAL_ACTIVATE, so it becomes active. -/
  | calendarActivation
  /-- INTERVAL_CLOSE (R359). The interval index changes, so the interval closes and its profile record is written. -/
  | intervalClose
  /-- BILLING_PERIOD_CLOSE (R363). Local time reaches the billing day and hour, so the period closes with a snapshot. -/
  | billingPeriodClose
  /-- ROUTE_COMPUTATION (R406). Every ROUTE_PERIOD the device computes least-cost routes and sends changes. -/
  | routeComputation
  /-- AUX_IMBALANCE (R409). The imbalance exceeds the limit for 60 s, and event 0xA209 is raised. -/
  | auxImbalance
  /-- REWRAP_DONE (R423). KY finishes re-wrapping sealed data for a verified main image. -/
  | rewrapDone
  /-- KEYS_REDERIVED (R430). After ZEROISE_KEYS the PUF root is rebuilt and the derived keys return. -/
  | keysRederived
  /-- PREPARE_DONE (R441). The converting resynchronisation completes, so the action is PREPARED. -/
  | prepareDone
  /-- TRIAL_TIME_EXPIRY (R445). TRIAL_TIME is reached, and the trial is confirmed or falls back by TRIAL_POLICY. -/
  | trialTimeExpiry
  /-- LEGAL_ACTIVATION_M0 (R450). At S + LEGAL_STAGGER, M0 changes to the new legal bank. -/
  | legalActivationM0
  /-- STREAM_LINK_DOWN (R457). No valid message for 1 ms returns the link to WAITING. -/
  | streamLinkDown
  /-- STREAM_STALLED (R458). No credit for 10 ms while UP, so PORT_STATE reads STALLED. -/
  | streamStalled
  /-- BLOCK_TRANSMIT (R460). A credit and a ready block let the port send the next block. -/
  | blockTransmit
  /-- DISCOVERY_DATAGRAM (R462). A UDP datagram to port 4848 is answered with the identity block. -/
  | discoveryDatagram
  /-- RST_N_ASSERT (R468). RST_N is low for 10 µs, resetting every die except KY and opening the outputs. -/
  | rstNAssert
  /-- SLEEP_ENTRY (R476). Every string is open and the broadcast done, so the carriers stop and the state becomes SLEEP. -/
  | sleepEntry
  /-- WAKE_CARRIER_START (R478). Twenty-four sweeps after a wake the rope carriers start. -/
  | wakeCarrierStart
  /-- SHIP_WAKE (R481). SHIP_WAKE is above its threshold for 100 ms, so SUPPLY_EN rises and the device starts. -/
  | shipWake (mv : Nat) (ms : Nat)
  /-- REFCLK_LOST (R489). REFCLK stops or leaves ±500 ppm, so every die changes to the internal oscillator. -/
  | refclkLost (gap : Nat) (ppm : Int) (us : Nat)
  /-- REFCLK_RESTORED (R489). REFCLK has been valid for 1 s, so the device changes back at a frame boundary. -/
  | refclkRestored (ms : Nat)
deriving DecidableEq, Repr

end Sys2Proof
end

