-- ==== Sys2Proof/Decode.lean ====
section
/-!
DEFINITION. Commands as table words. spec/opcode_table.json gives no row of this hardware any bits: its commands reach the
block as messages, register writes and signals, not as words. So no word spells a command.
-/
namespace Sys2Proof

/-- The command a table word spells: none, for no row of the table has bits. -/
def decodeTableWord (_nbits _w : Nat) : Option Instr := none

end Sys2Proof
end

