-- ==== Sys2Proof/Config.lean ====
section
/-!
DEFINITION. What the spec leaves open or an implementation fixes: opaque constants without a body, so that no proof
can rest on a value of theirs. Each is named in the assumption log.
-/
namespace Sys2Proof

/-- A value the spec leaves open (a counter that leaves its format, a result it does not state): applied to the
state's counter `free`, reduced by the reader to the width it needs. Log entry 1. -/
opaque Config.freeValue : Nat → Nat

/-- Whether bytes are a DER X.509 certificate (R426): the spec names the format and leaves its decoding to X.509. Log
entry 4. -/
opaque Config.isCertificate : List Byte → Bool

/-- What the device's own PTP data set holds beyond the priorities and class the spec gives (R27, R31): its clock
accuracy, offset variance and clock identity. Log entry 5. -/
opaque Config.clockAccuracy : Nat
opaque Config.clockVariance : Nat
opaque Config.clockIdentity : Nat

/-- The highest minor version of the ISO 15118-20 DC namespace the device holds (R166): the spec gives none. -/
opaque Config.protocolMinor : Nat

/-- The MAC address of a T1S port (R164): the spec gives none. Log entry 85. -/
opaque Config.portMac : Nat → BitVec 48

/-- The text of a display item from its number and values (R343): the spec fixes neither wording nor number format. Log entry
6. -/
opaque Config.displayText : Nat → List Int → List Byte

/-- The PUF root and the recovery root, 256 bits each (R411): secrets the TRNG made at the first start. Log entry 7. -/
opaque Config.pufRoot : List Byte
opaque Config.recoveryRoot : List Byte

/-- The signature a private key makes over bytes (R371, R424): algorithm of Table 18-4, private key, bytes. Log entry 7. -/
opaque Config.signature : Nat → List Byte → List Byte → List Byte

/-- The cryptographic functions the spec names and leaves to their own standards (R420 to R427, R434): the AES-GCM tag under key and
nonce over bytes; the tag of a JOIN under a node key over its UID, connection, version, ZC offset, network and period number;
the plain text AES-GCM opens under key, nonce and additional data from cipher text and tag, none when the tag fails; the secret ECDH P-384 makes of a
private and a public key; the public key of key material under
an algorithm; a proof made with key material over bytes; the public key of a certificate chain's leaf; whether a P-384
signature over bytes verifies under a public key; the public keys for main and legal images fused into KY. Log entry 8. -/
opaque Config.gcmTag : List Byte → List Byte → List Byte → List Byte
opaque Config.joinTag : List Byte → Nat → Bool → Nat → Int → Nat → Nat → List Byte
opaque Config.gcmOpen : List Byte → List Byte → List Byte → List Byte → List Byte → Option (List Byte)
opaque Config.ecdh : List Byte → List Byte → List Byte
opaque Config.publicOf : Nat → List Byte → List Byte
opaque Config.proof : Nat → List Byte → List Byte → List Byte
opaque Config.certKey : List Byte → List Byte
opaque Config.verifies : List Byte → List Byte → List Byte → Bool
opaque Config.imageKey : Nat → List Byte

/-- STATE_FORMAT of the main image in force at manufacture and the format of the legal store (R437): the spec gives neither. Log entry
10. -/
opaque Config.stateFormat : Nat
opaque Config.legalFormat : Nat

/-- LEGAL_CHECK_VALUE of the legal image in force at manufacture (R342): the spec gives no image. Log entry 10. -/
opaque Config.legalCheck : Nat

/-- The identity and recovery certificates made at manufacture, and the DER forms of one the device issues: the part to be signed, of key (0
transport, 1 device TLS, 2 meter M0, 3 meter M1), serial, public key and what its subject carries; and the whole, with its signature (R424). Log
entry 7. -/
opaque Config.identityCert : List Byte
opaque Config.recoveryCert : List Byte
opaque Config.certBody : Nat → Nat → List Byte → List Nat → List Byte
opaque Config.certificate : List Byte → List Byte → List Byte

/-- The device's link-local address on the service port as text, from DEVICE_ID (R461). Log entry 7. -/
opaque Config.serviceAddress : Nat → List Byte

/-- What a receiver makes of a sounding (R400): the highest modulation code of a carrier whose expected block error stays below
1 % at a signal-to-noise ratio, and whether a segment takes FEC rate 5/8. The spec gives no error curve. Log entry 9. -/
opaque Config.carrierCode : Bool → Int → Nat
opaque Config.mapFec : List Int → Bool

/-- The taps of the 255-tap filter that delays a voltage by 90° (R327): the spec bounds its gain and gives no coefficient. Log entry
81. -/
opaque Config.quadratureTap : Nat → Rat

end Sys2Proof
end

