-- ==== Sys2Proof/Machine/Bits.lean ====
section
/-!
DEFINITION. Bit fields, widths, byte order and the small arithmetic the spec's records use: least significant byte
first on every interface (R85), bit 0 in the first byte.
-/
namespace Sys2Proof.Machine

/-- An unsigned number reduced to `w` bits. -/
def low (w n : Nat) : Nat := n % 2 ^ w

/-- A signed number as the `w`-bit two's complement word. -/
def word (w : Nat) (i : Int) : Nat := (i % (2 ^ w : Nat)).toNat

/-- The signed number a `w`-bit two's complement word holds. -/
def signed (w n : Nat) : Int := if low w n < 2 ^ (w - 1) then (low w n : Int) else (low w n : Int) - (2 ^ w : Nat)

/-- Bits [lo+w-1:lo] of `n`. -/
def field (n lo w : Nat) : Nat := n / 2 ^ lo % 2 ^ w

/-- Bit `i` of `n`. -/
def bit (n i : Nat) : Bool := n / 2 ^ i % 2 == 1

/-- `n` with bit `i` set to `b`. -/
def setBit (n i : Nat) (b : Bool) : Nat :=
  if bit n i == b then n else if b then n + 2 ^ i else n - 2 ^ i

/-- `n` with bits [lo+w-1:lo] replaced by `v`. -/
def setField (n lo w v : Nat) : Nat := n - field n lo w * 2 ^ lo + low w v * 2 ^ lo

/-- One bit as a number. -/
def b2n (b : Bool) : Nat := if b then 1 else 0

/-- A word made of fields, each at its lowest bit with its width. -/
def pack (fs : List (Nat × Nat × Nat)) : Nat := fs.foldl (fun a f => a + low f.2.1 f.2.2 * 2 ^ f.1) 0

/-- The bits of `n` that are set, as their indices below `w`. -/
def bitsOf (w n : Nat) : List Nat := (List.range w).filter (bit n)

/-- The number with the bits of the list set. -/
def ofBits (l : List Nat) : Nat := l.foldl (fun a i => setBit a i true) 0

/-- `n` as `k` bytes, least significant first (R85). -/
def leBytes : Nat → Nat → List Byte
  | 0, _ => []
  | k + 1, n => BitVec.ofNat 8 n :: leBytes k (n / 256)

/-- The number that bytes hold, least significant first (R85). -/
def leNat : List Byte → Nat
  | [] => 0
  | b :: r => b.toNat + 256 * leNat r

/-- Bytes `i` to `i + k - 1` as a number. -/
def leAt (bs : List Byte) (i k : Nat) : Nat := leNat ((bs.drop i).take k)

/-- A list cut or filled with zero bytes to `n` bytes. -/
def fitBytes (n : Nat) (bs : List Byte) : List Byte := (bs ++ List.replicate n 0#8).take n

/-- Integer division rounded up. -/
def cdiv (a b : Nat) : Nat := (a + b - 1) / b

/-- Integer part toward minus infinity of a rational. -/
def ratFloor (q : Rat) : Int := q.num / q.den

/-- Nearest integer of a rational, halves away from zero. -/
def ratRound (q : Rat) : Int :=
  if q < 0 then -(ratFloor (-q + 1 / 2)) else ratFloor (q + 1 / 2)

/-- Absolute value of a rational. -/
def ratAbs (q : Rat) : Rat := if q < 0 then -q else q

/-- An element put before the first one it may precede. -/
def insertBy {α : Type} (le : α → α → Bool) (a : α) : List α → List α
  | [] => [a]
  | b :: l => if le a b then a :: b :: l else b :: insertBy le a l

/-- A list in the order `le`, elements equal in it in the order in which they stood. -/
def sortBy {α : Type} (le : α → α → Bool) : List α → List α
  | [] => []
  | a :: l => insertBy le a (sortBy le l)

/-- The text of ASCII codes as bytes. -/
def asciiBytes (l : List Nat) : List Byte := l.map (BitVec.ofNat 8)

/-- The characters of a text as bytes (the texts of the spec are ASCII). -/
def textBytes (t : String) : List Byte := t.toList.map (fun c => BitVec.ofNat 8 c.toNat)

end Sys2Proof.Machine
end

