-- ==== Sys2Proof/Machine/F32.lean ====
section
/-!
DEFINITION. IEEE 754 binary32 (type F32, Table 4-1) as bit patterns: the exact rational a pattern stands for, and the
pattern nearest a rational, ties to even. Arithmetic of the loop engine rounds after every operation (R196).
-/
namespace Sys2Proof.Machine

/-- A NaN or an infinity. -/
def F32.special (b : Nat) : Bool := field b 23 8 == 255

/-- A subnormal pattern. -/
def F32.subnormal (b : Nat) : Bool := field b 23 8 == 0 && field b 0 23 != 0

/-- A power of two with a signed exponent. -/
def pow2 (e : Int) : Rat := if e < 0 then 1 / ((2 ^ (-e).toNat : Nat) : Rat) else ((2 ^ e.toNat : Nat) : Rat)

/-- The exact value of a finite pattern. A NaN or an infinity, which no entry accepts (R85), reads as 0 here; who
computes with one checks `F32.special` first. -/
def F32.toRat (b : Nat) : Rat :=
  let m := field b 0 23
  let e := field b 23 8
  let q : Rat :=
    if e == 255 then 0
    else if e == 0 then (m : Rat) * pow2 (-149)
    else ((m + 2 ^ 23 : Nat) : Rat) * pow2 ((e : Int) - 150)
  if bit b 31 then -q else q

/-- Half-even rounding of a non-negative fraction n/d. -/
def roundHalfEven (n d : Nat) : Nat :=
  let q := n / d
  let r := n % d
  if 2 * r < d then q else if 2 * r > d then q + 1 else if q % 2 == 0 then q else q + 1

/-- The pattern nearest a rational, ties to even; beyond the finite range, the infinity of its sign. -/
def F32.ofRat (q : Rat) : Nat :=
  let n := q.num.natAbs
  let d := q.den
  if n == 0 then 0
  else
    let e0 : Int := (Nat.log2 n : Int) - (Nat.log2 d : Int)
    let below : Bool := if e0 < 0 then decide (n * 2 ^ (-e0).toNat < d) else decide (n < d * 2 ^ e0.toNat)
    let e1 : Int := if below then e0 - 1 else e0
    let e : Int := max e1 (-126)
    let sh : Int := 23 - e
    let m : Nat := if sh < 0 then roundHalfEven n (d * 2 ^ (-sh).toNat) else roundHalfEven (n * 2 ^ sh.toNat) d
    let bits : Nat := (e + 126).toNat * 2 ^ 23 + m
    let mag : Nat := if bits ≥ 0x7F800000 then 0x7F800000 else bits
    if q < 0 then mag + 2 ^ 31 else mag

/-- A NaN; the quiet NaN that an invalid operation answers. -/
def F32.isNaN (b : Nat) : Bool := F32.special b && field b 0 23 != 0
def F32.nan : Nat := 0x7FC00000

/-- The zero and the infinity of a sign. -/
def F32.zero (neg : Bool) : Nat := if neg then 2 ^ 31 else 0
def F32.inf (neg : Bool) : Nat := 0x7F800000 + F32.zero neg

/-- An exact result rounded once; `neg` is the sign of a result that is zero. -/
def F32.round (neg : Bool) (q : Rat) : Nat := if q == 0 then F32.zero neg else F32.ofRat q

/-- The opposite number. -/
def F32.neg (b : Nat) : Nat := if bit b 31 then b - 2 ^ 31 else b + 2 ^ 31

/-- Sum: opposite infinities have none; an exact zero is negative only of two negative zeros. -/
def F32.add (a b : Nat) : Nat :=
  if F32.isNaN a || F32.isNaN b then F32.nan
  else if F32.special a then (if F32.special b && bit a 31 != bit b 31 then F32.nan else a)
  else if F32.special b then b
  else F32.round (bit a 31 && bit b 31) (F32.toRat a + F32.toRat b)

/-- Difference. -/
def F32.sub (a b : Nat) : Nat := F32.add a (F32.neg b)

/-- Product: an infinity times zero has none; the sign is that of the two signs together. -/
def F32.mul (a b : Nat) : Nat :=
  let neg := bit a 31 != bit b 31
  if F32.isNaN a || F32.isNaN b then F32.nan
  else if F32.special a || F32.special b then
    (if (!F32.special a && F32.toRat a == 0) || (!F32.special b && F32.toRat b == 0) then F32.nan else F32.inf neg)
  else F32.round neg (F32.toRat a * F32.toRat b)

/-- Quotient: 0/0 and ∞/∞ have none; a number over zero is infinite. -/
def F32.div (a b : Nat) : Nat :=
  let neg := bit a 31 != bit b 31
  if F32.isNaN a || F32.isNaN b || (F32.special a && F32.special b) then F32.nan
  else if F32.special a then F32.inf neg
  else if F32.special b then F32.zero neg
  else if F32.toRat b == 0 then (if F32.toRat a == 0 then F32.nan else F32.inf neg)
  else F32.round neg (F32.toRat a / F32.toRat b)

/-- One number is below another, an infinity beyond every finite one, the two zeros equal; a NaN is below nothing. -/
def F32.lt (a b : Nat) : Bool :=
  let key (x : Nat) : Int := if bit x 31 then -(low 31 x : Int) else (low 31 x : Int)
  !F32.isNaN a && !F32.isNaN b && decide (key a < key b)

/-- The lesser and the greater of two patterns. -/
def F32.min (a b : Nat) : Nat := if F32.lt b a then b else a
def F32.max (a b : Nat) : Nat := if F32.lt a b then b else a

/-- Fixed-point Taylor sum of e^(−y), 0 ≤ y < 1, in units of 2^(−96): term, its number, terms left. -/
def expTerms : Nat → Nat → Int → Int → Int
  | 0, _, _, _ => 0
  | k + 1, n, term, y => term + expTerms k (n + 1) (-(term * y / 2 ^ 96 / (n + 1 : Int))) y

/-- e^(−x) for x ≥ 0 with an error far below one part in 2^24: x is halved until it is below 1, and the result squared
as often. -/
def expNeg (x : Rat) : Rat :=
  if 120 < x then 0
  else
    let n := 7
    let y : Int := ratFloor (x / 128 * ((2 ^ 96 : Nat) : Rat))
    let e := expTerms 30 0 (2 ^ 96) y
    let sq := (List.range n).foldl (fun (a : Int) _ => a * a / 2 ^ 96) e
    (sq : Rat) / ((2 ^ 96 : Nat) : Rat)

/-- Whole square root by Newton's iteration from above, with fuel. -/
def isqrtFrom : Nat → Nat → Nat → Nat
  | 0, _, x => x
  | k + 1, n, x =>
    let y := (x + n / x) / 2
    if y < x then isqrtFrom k n y else x

/-- The largest whole number whose square is at most `n`. -/
def isqrt (n : Nat) : Nat := if n == 0 then 0 else isqrtFrom 128 n (2 ^ (Nat.log2 n / 2 + 1))

end Sys2Proof.Machine
end

