-- ==== Sys2Proof/Machine/State.lean ====
section
/-!
DEFINITION. The state of the SKE-6408 as plain data, the reasons a step can stop, and the machine right after reset.
Every dictionary entry stands in `cells` (RO, RW), `actSet` and `shdSet` (RWS, LEG: the active and the shadow
configuration set, R87) under the key index × 256 + sub-index, an absent key reading as the entry's default; what
the spec gives the device beyond its entries stands in the structures below, chapter by chapter.
-/
namespace Sys2Proof.Machine
open Sys2Proof

/-- Client and peer roles of Table 4-2, in ascending privilege. -/
inductive Role where
  | reader | operator | engineer | service
deriving DecidableEq, Repr

/-- A value of the dictionary: a number (BOOL to I64; an F32 as its bit pattern) or bytes (TIME64, STR, BLOB, REC). -/
inductive Val where
  | num (n : Int)
  | bytes (b : List Byte)
deriving DecidableEq, Repr

/-- The ports messages leave by. -/
inductive Port where
  | client | peer | ptp | power | siphon | can | vehicle | prebex | rope | eusor | stream | display | service
deriving DecidableEq, Repr

/-- The kinds of message the device sends, by the spec's own names. -/
inductive MsgKind where
  | answer | eventNotify
  | announce | ready | go | cancel
  | sync | announcePtp | pdelay
  | yield | take | mirrorAck | powerStatus
  | frameMark | setpoint | moduleTarget | switchOutlet | capWrite | xferRequest | xferResponse | unitTest | contactorCommand
  | reply | discovery
  | beacon | retryCall | command | wakeBurst | carrier
  | clearFault
  | poll | selectiveAck | toneMap | route | joinReply | loadGrant | data
  | block | streamHello | record
  | displayFrame
  | identity
  | beaconKey | sounding
deriving DecidableEq, Repr

/-- One message sent: by which port, to whom (a connection, a unit reference, an outlet, a node), what, with its
numbers and its bytes. -/
structure Msg where
  port : Port
  dest : Nat
  kind : MsgKind
  args : List Int
  body : List Byte
deriving DecidableEq, Repr

/-- An event of the spec's event tables: its code and severity. -/
structure EvKind where
  code : Nat
  severity : Nat
deriving DecidableEq, Repr

/-- The event record of Table 4-7 with its log sequence (R108). -/
structure EventRec where
  seq : Nat
  sfn : Nat
  cycle : Nat
  code : Nat
  instNo : Nat
  severity : Nat
  onBehalf : Bool
  timeStepped : Bool
  timeError : Bool
  param1 : Nat
  param2 : Nat
deriving DecidableEq, Repr

/-- The event log and the limit of 64 events a cycle (R107, R108). -/
structure EventSt where
  /-- The log, newest record first. -/
  log : List EventRec
  /-- Events raised in the present cycle. -/
  count : Nat
  /-- Events dropped and not yet reported, and the cycle of the drop. -/
  dropped : Nat
  dropCycle : Nat
  /-- Records raised in this frame, and in the frame before (what EVENT_NOTIFY sends), newest first. -/
  fresh : List EventRec
  due : List EventRec
  /-- EVENT_LOG_OVERWRITTEN. -/
  overwritten : Nat
deriving DecidableEq, Repr

/-- A client connection of the dictionary service (R101), with its subscription (R103): the lowest severity asked for
and the records not yet delivered on it. -/
structure Conn where
  service : Bool
  role : Role
  identity : List Byte
  digest : Nat
  subscription : Option Nat
  behind : List EventRec
deriving DecidableEq, Repr

/-- A write or group that passed its receipt checks and waits for its boundary (R97, R19): its stamp, its tag, and
what it writes. -/
structure Held where
  stamp : Nat
  offset : Nat
  tag : Nat
  conn : Nat
  role : Role
  service : Bool
  identity : List Byte
  reqId : Nat
  op : Nat
  shadow : Bool
  queue : Bool
  items : List WItem
deriving DecidableEq, Repr

/-- An answer kept for replay (R100): who asked, under which request ID, what exactly, and what was answered. -/
structure Kept where
  identity : List Byte
  reqId : Nat
  op : Nat
  shadow : Bool
  queue : Bool
  items : List WItem
  status : Nat
  body : List Byte
  at_ : Nat
deriving DecidableEq, Repr

/-- A segmented transfer in progress (R99): a read holds the snapshot, a write what it has collected. -/
structure Segment where
  tag : Nat
  conn : Nat
  reqId : Nat
  write : Bool
  item : WItem
  total : Nat
  data : List Byte
  last : Nat
deriving DecidableEq, Repr

/-- The transaction engine of the link die (R96 to R100). Client tags are 0–239; the device's own transfers use
240–255 and are listed with connection number `none`. `step` places a boundary within R19. -/
structure EngineSt where
  tags : List (Nat × Option Nat)
  held : List Held
  kept : List Kept
  segments : List Segment
  conns : Tab Conn
  /-- The step of R19 the boundary of the running frame has done: 0 none yet or past cycle 0, 2 the requests, 3 the swap, 4 the actions,
  5 the grants. -/
  step : Nat
  /-- The control work of cycle 0, which waits for the boundary sequence of R19 to complete (R88, R218). -/
  work : Option TickIn
deriving DecidableEq, Repr

/-- A SET_SWAP_NOW request waiting for the swap of its boundary (R88): its tag and answer data, and its position in a
group; `none` for a scheduled WRITE. -/
structure SwapAsk where
  client : Option Held
  position : Nat
deriving DecidableEq, Repr

/-- A queued test (R23): the queue slot it holds, the TARGET of the entry written, the value, the frame count at
which it was queued and who asked. -/
structure QTest where
  slot : Nat
  target : Nat
  value : List Byte
  since : Nat
deriving DecidableEq, Repr

/-- What runs as a test, by the TARGET of the entry that asked for it (R22, R23): the queue slot when it was queued,
and the tick count at its start. -/
structure RunTest where
  target : Nat
  slot : Option Nat
  since : Nat
deriving DecidableEq, Repr

/-- One copy slot of a P entry (R93, R94): value and sequence; `none` when no valid copy stands in either array. -/
structure PSlots where
  a : Option (Nat × Val)
  b : Option (Nat × Val)
deriving DecidableEq, Repr

/-- The states of site time (Table 2-1), in the order of their codes. -/
inductive TimeState where
  | unset | set | acquiring | locked | holdover
deriving DecidableEq, Repr

/-- Site time beyond its count: state, error, correction under way, and what PTP holds (R27 to R37). -/
structure TimeSt where
  state : TimeState
  /-- Upstream port of TIME_STATUS: 0 none, 1 port 0, 2 port 1. -/
  upstream : Nat
  /-- The selected upstream clock. -/
  master : Option Announce
  /-- Consecutive Sync messages with an offset below 1 µs. -/
  syncRun : Nat
  /-- Tick of the last Announce of the selected clock heard on each port. -/
  heard0 : Option Nat
  heard1 : Option Nat
  /-- The last 16 peer delays of each port, newest first, in ns. -/
  delays0 : List Nat
  delays1 : List Nat
  /-- Estimated time error in picoseconds (R29 adds REFCLK_STABILITY ps a frame). -/
  errorPs : Nat
  /-- TIME_ERROR_HIGH as last evaluated. -/
  errorHigh : Bool
  /-- Correction still to be slewed, in ns. -/
  slewNs : Int
  /-- Correction that steps at the boundary after the one that applied it (R37): ns, and the tick of that boundary. -/
  stepNs : Option (Int × Nat)
  /-- Corrections of the last 24 h: the tick count of acceptance and the magnitude in ns (R36). -/
  corrections : List (Nat × Nat)
  /-- Start tick of the STEP_LAST_DAY period. -/
  stepDay : Option Nat
  /-- TIME_ERROR_HIGH was set by the start and its event is due at the first boundary (R29). -/
  errorDue : Bool
  /-- Time has been set or locked since the start, or came from a valid backup counter (R51). -/
  known : Bool
  /-- Step flags still to go out: frame mark of each CAN channel (a bit each), Eusor beacon, Prebex beacon (R40). -/
  flagMark : Nat
  flagEusor : Bool
  flagPrebex : Bool
  /-- Key die's backup counter (R34): valid, the site frame and error written, the tick of the write. -/
  backupValid : Bool
  backupSfn : Nat
  backupErrorPs : Nat
  backupTick : Nat
  /-- The last SFN stored in ST. -/
  storedSfn : Nat
deriving DecidableEq, Repr

/-- A participant of a group action as the coordinator sees it (R54). -/
structure Part where
  unit : Nat
  ready : Bool
  goAck : Bool
  cancelAck : Bool
  done : Option Nat
deriving DecidableEq, Repr

/-- What the coordinator holds of an action that spans several units beyond its dictionary fields: the participants,
whether a CANCEL has been sent, whether it is locked, and the result that goes with it. -/
structure GroupAct where
  /-- The action it belongs to: GROUP_ID and SFN, kept when the table's entry is freed (R55). -/
  gid : Nat
  sfn : Nat
  parts : List Part
  announced : Bool
  cancelSent : Bool
  locked : Bool
  lastSent : Nat
deriving DecidableEq, Repr

/-- How a control die stands (Table 1-9): off or starting, synchronised standby, active, failed. -/
inductive Standing where
  | off | standby | active | failed
deriving DecidableEq, Repr

/-- A switch-over accepted by the power die and not yet recorded (R71). -/
structure Switch where
  sfn : Nat
  cycle : Nat
  cause : Nat
  fromDie : Nat
  toDie : Nat
  gap : Nat
  diag : Nat
deriving DecidableEq, Repr

/-- A resynchronisation under way (R78): which die, which phase of Table 3-4, when attempt and phase began. -/
structure Resync where
  die : Nat
  phase : Nat
  started : Nat
  phaseStart : Nat
  attempt : Nat
deriving DecidableEq, Repr

/-- The control die pair, the metering dies and the die halves (Table 1-9; R58 to R82). -/
structure DieSt where
  ca : Standing
  cb : Standing
  mirrorSync : Bool
  /-- Siphon lanes working: bits 0 and 1. -/
  lanes : Nat
  /-- Consecutive failed frame mirrors, and consecutive cycles of divergence (R63, R64). -/
  frameMisses : Nat
  diverged : Nat
  /-- The switch-over awaiting the next cycle 0, and the frame of a planned swap (R71, R74). -/
  switch : Option Switch
  swapAt : Option Nat
  /-- A control die that has gone quiet: die, diagnostic code its YIELD carries (0 without one), class (R66, R67). -/
  quiet : Option (Nat × Nat × Nat)
  /-- The standby sends TAKE in the next cycle; the cycle mirror of this cycle failed or was missing (R68). -/
  takeDue : Bool
  mirrorMissed : Bool
  /-- A stop or yield that found no synchronised standby: die, code kept by the power die, class (R67, R76). -/
  unserved : Option (Nat × Nat × Nat)
  /-- Ticks of the stops and yields of each control die in the last 24 h, and the restart limit reached (R77). -/
  stopsA : List Nat
  stopsB : List Nat
  blockedA : Bool
  blockedB : Bool
  /-- Tick at which each control die completed its boot. -/
  bootA : Option Nat
  bootB : Option Nat
  resync : Option Resync
  resyncFails : Nat
  /-- A failed attempt's die and the tick from which it is tried again (R79). -/
  resyncRetry : Option (Nat × Nat)
  /-- Frame in which a switch-over was accepted: no grant set is published and no deadline counted in it (R72). -/
  switchFrame : Option Nat
  m0Running : Bool
  m1Running : Bool
  m0Failed : Bool
  m1Failed : Bool
  pwA : Bool
  pwB : Bool
  lkA : Bool
  lkB : Bool
  kyA : Bool
  kyB : Bool
  st0 : Bool
  st1 : Bool
  /-- The tick line followed: false from LK half A, true from LK half B (R13). -/
  tickB : Bool
  /-- Deadline misses by die and task: the tick and the run of consecutive ones (R17). -/
  misses : Tab (Nat × Nat)
  /-- Channels each metering die has flagged after a spare check (R80). -/
  flagged0 : List Nat
  flagged1 : List Nat
  /-- Channels on which a METER_DISAGREE spare check runs, with the difference reported. -/
  spareChecks : List (Nat × Nat)
  /-- Consecutive cycles the dies' means of a channel have stood apart; the tick at which the check of a channel began; the tick of the last
  check of a flagged channel by 2 × channel + die (R80). -/
  apart : Tab Nat
  checkFrom : Tab Nat
  checkedAt : Tab Nat
  /-- Measurement of the main image each control die booted (R78). -/
  imageA : List Byte
  imageB : List Byte
deriving DecidableEq, Repr

/-- What the power die holds for arbitration and fail-safe (R12, R16, R67 to R70). -/
structure PowerSt where
  /-- The control die it holds as active: 0 CA, 1 CB. -/
  active : Nat
  /-- The last YIELD received from each die: its code and the tick of its receipt. -/
  yieldA : Option (Nat × Nat)
  yieldB : Option (Nat × Nat)
  /-- Consecutive cycles without a latched command, and whether this cycle has latched one. -/
  silent : Nat
  latched : Bool
  /-- Standby packets counted in the present frame. -/
  standbyPackets : Nat
deriving DecidableEq, Repr

/-- A set-point sent to a unit: the frame count of its launch, its value, the frame count in which it was sent, and
whether it has been acknowledged (R120, R121). -/
structure Sent where
  launch : Nat
  value : Int
  frame : Nat
  acked : Bool
deriving DecidableEq, Repr

/-- A COMMAND sent to a module (R153, R121): SUB, SEQ, its six body bytes, the frame count of the last send (`none`
while it waits for its window), sends so far, and whether it has been acknowledged. -/
structure Cmd where
  sub : Nat
  seq : Nat
  body : List Byte
  frame : Option Nat
  sends : Nat
  acked : Bool
deriving DecidableEq, Repr

/-- What a module is on its way to: its outlet, none, or DISABLED. -/
inductive MoveKind where
  | assign | move | release | disable
deriving DecidableEq, Repr

/-- A module under way (R128 to R130, Table 5-4): from and to (0xFF for none), the step (0 ramp-down, 1 switch, 2
ramp-up), the frame counts in which the move and the step began, and the grant the ramp started from. -/
structure Move where
  kind : MoveKind
  fromOutlet : Nat
  toOutlet : Nat
  step : Nat
  started : Nat
  stepAt : Nat
  base : Int
  /-- Ramp steps published (ramp-down) or released (ramp-up), and the frame count in which the last one launches. -/
  ramps : Nat
  lastAt : Nat
deriving DecidableEq, Repr

/-- The grants of one unit (R118 to R121), keyed by frame count of launch: what will apply, the increase that waits for
its release check, what has been sent (newest first), whether a lost set-point is to be sent again, the commands, the
next SEQ, and the move under way. Modules are 0–63, front-end imports 64–79, front-end exports 80–95, strings 96–103. -/
structure UnitGrant where
  plan : Tab Int
  rise : Option (Nat × Int)
  sent : List Sent
  resend : Bool
  cmds : List Cmd
  seq : Nat
  move : Option Move
  movedAt : Option Nat
  /-- Consecutive frames without an acknowledgement that was due. -/
  missFrames : Nat
  /-- The grant in force is to be sent again: the unit's first frame on another channel (R161), or after a time step (R162). -/
  restate : Bool
  /-- Its last set-point entry was of KIND 1 (R150). -/
  fast : Bool
deriving DecidableEq, Repr

/-- A run of the allocator waiting for cycle 13 (R111 to R117): what it grants each module, string, front-end unit
(import, export) and the inputs the recheck compares. -/
structure Run where
  modules : Tab Int
  strings : Tab Int
  imports : Tab Int
  exports : Tab Int
  budget : Int
  rGrid : Int
  imp : Int
  need : Int
  drawn : Int
  cables : Tab Rat
  stringDis : Tab Int
  stringChg : Tab Int
  short : Bool
  shortAny : Bool
  /-- Full shares of the modules in RAMP_UP (R130), and the moves the run plans (R129): module, from and to. -/
  full : Tab Int
  moves : List (Nat × Nat × Nat)
deriving DecidableEq, Repr

/-- A unit on the module bus as its messages show it (R149 to R157): modules 0–63, front-end units 64–79. -/
structure UnitSt where
  heard : Bool
  /-- Frame count of the last STATUS. -/
  at_ : Nat
  missing : Bool
  volts : Nat
  amps : Int
  limit : Nat
  outlet : Nat
  available : Bool
  zero : Bool
  switched : Bool
  derated : Bool
  faultActive : Bool
  fast : Bool
  capLimiting : Bool
  power : Int
  lastLaunch : Nat
  temp : Int
  seq : Nat
  /-- Consecutive status reports with ZERO_CURRENT. -/
  zeroRun : Nat
  /-- Active faults, code and severity, most recent first (R152). -/
  faults : List (Nat × Nat)
  /-- PROFILE_VERSION, UNIT_KIND and REACH as read (R156). -/
  profile : Option Nat
  kind : Option Nat
  reach : Option Nat
  /-- The alternate attachment is in use (R161). -/
  alt : Bool
  /-- Its last switch failed (R128, R130): UNAVAILABLE until it has reported AVAILABLE 0, has been missing or disabled. -/
  moveFailed : Bool
  /-- The first frame count in which a status was due and did not arrive (R151). -/
  due : Option Nat
deriving DecidableEq, Repr

/-- The allocator (chapter 5): grants by unit, the run awaiting publication, the bus supply published by frame count of
launch, outlet session requests, runs of over-limit frames, faults reported since cycle 1, withheld at the last check. -/
structure AllocSt where
  units : Tab UnitGrant
  run : Option Run
  room : Tab Int
  /-- Session current ceiling and maximum power of an outlet as last delivered (R178, R174). -/
  ceilings : Tab Rat
  importOver : Nat
  feOver : Tab Nat
  /-- Front-end units taken out of service until FE_ENABLE is written 0 and then 1 (R126), and the 0 seen. -/
  feOut : List Nat
  feRearm : List Nat
  faulted : List Nat
  withheld : Bool
  /-- A part of FE imports held down by R126: thousandths of the limit. -/
  importScale : Option (Nat × Nat)
  /-- What the run of the frame reads of the units and of the front-end units' confirmed caps: as they stood at the end of the frame
  before (R111, Table 5-1). -/
  seenUnits : Tab UnitSt
  seenCaps : Tab Nat
  /-- The frame count in which set-point blocks last went out (R145). -/
  sentAt : Option Nat
deriving DecidableEq, Repr

/-- A device transfer to a unit (R155): tag, unit, READ or WRITE, index, sub-index, type, value, the frame count of the
last send and the sends so far. -/
structure Xfer where
  tag : Nat
  unit : Nat
  write : Bool
  index : Nat
  sub : Nat
  type : Nat
  value : List Byte
  frame : Nat
  sends : Nat
  /-- OFFSET of the segment asked for, and what has come of a read (R155). -/
  offset : Nat
  got : List Byte
deriving DecidableEq, Repr

/-- A unit self-test (R157): the unit, its SELF_TEST_TIME once read, the frame count of its start, whether its request
was queued, and whether an abort has been decided. -/
structure UnitTestSt where
  unit : Nat
  time : Option Nat
  started : Nat
  asked : Option Held
  running : Bool
deriving DecidableEq, Repr

/-- The bit timing of one phase (R136): prescaler, quanta a bit, TSEG1, TSEG2 and SJW. -/
structure BitTiming where
  prescaler : Nat
  quanta : Nat
  tseg1 : Nat
  tseg2 : Nat
  sjw : Nat
deriving DecidableEq, Repr

/-- An entry of a receive ring (R138): the frame as the row that reads it holds it (identifier, data, start-of-frame offset), the frame it
came in, and the channel's error state. -/
structure RingEntry where
  row : Instr
  sfn : Nat
  state : Nat
deriving DecidableEq, Repr

/-- A CAN channel (R135 to R143): ticks of the bus-offs of the last second, the tick at which a hold ends, entries lost
in this frame, the SEQUENCE of its blocks, the frame count and offset of the last mark sent, and the frame count up to
which it is silent after a change of rate. -/
structure CanSt where
  busoffs : List Nat
  hold : Option Nat
  lost : Nat
  seq : Nat
  mark : Option (Nat × Int)
  silent : Nat
  /-- Busy time in ns of the present frame, and of the last 1,000 frames, newest first (BUS_LOAD). -/
  busy : Nat
  busyLog : List Nat
  /-- The receive-all ring, oldest first: what no control die has drained (R138). -/
  ring : List RingEntry
  /-- Set-point blocks of the frame by index, and those to be sent once more in cycle 19 (Table 6-3). -/
  blocks : Tab Msg
  again : List Msg
  /-- Bit timing of both phases and the offset of the transmitter delay compensation in data quanta (R136). -/
  nominal : BitTiming
  data : BitTiming
  tdc : Nat
deriving DecidableEq, Repr

/-- The module bus (chapter 6). -/
structure BusSt where
  units : Tab UnitSt
  xfers : List Xfer
  tests : List UnitTestSt
  cans : Tab CanSt
  /-- Units and caps pending confirmation (R123): front-end unit, export, old cap. -/
  caps : List (Nat × Bool × Nat)
  /-- SET_SWAP actions waiting for both pending caps to be answered before ANNOUNCE (R159): action and answers due. -/
  pendingCaps : List (Nat × Nat)
  /-- Device messages that wait for a window of Table 6-3, each with the first frame count it may go in. -/
  queue : List (Nat × Msg)
  /-- Units whose BUS_CHANNEL the operator has written since the last swap (R161). -/
  rehome : List Nat
  /-- The link die was served by a control die in the previous frame (CTRL_LOST). -/
  served : Bool
deriving DecidableEq, Repr

/-- What an outlet holds of its session beyond its entries (R163 to R192). Ticks unless said otherwise. -/
structure Sess where
  /-- The state of Table 7-3 as it stands; SESSION_STATE shows it from the next cycle 0 (R169). -/
  state : Nat
  /-- Ticks of the plug-in and of entering the present state; frame of the plug-in. -/
  plugAt : Nat
  stateAt : Nat
  startSfn : Nat
  /-- The number of R170 (0 before SessionSetupReq) and the random half of the SessionID. -/
  number : Nat
  idLow : Nat
  /-- Its SessionSetupReq has been answered (R167, R170). -/
  setup : Bool
  /-- A source has ended it, and its commit point has passed (R182); the reasons and the frame of the commit. -/
  committed : Bool
  ended : Bool
  reason : Nat
  secondary : Nat
  endSfn : Nat
  /-- Authorisation: a decision applied, made offline, contract chain verified, account bound, EIM_TOKEN. -/
  decided : Bool
  offline : Bool
  verified : Bool
  account : Nat
  token : List Byte
  /-- Modules asked for. -/
  wanted : Nat
  /-- Cable check: since when voltage and resistance have held, passed; insulation warned; pre-charge target. -/
  bandSince : Option Nat
  passed : Bool
  warned : Bool
  target : Nat
  /-- Tick of the last loop request and whether it asks to discharge; last TARGET result in 0.1 A and its modules. -/
  loopAt : Nat
  discharge : Bool
  lastResult : Nat
  lastModules : List Nat
  /-- The contactor: commanded closed, frames of closing and opening, registers at both, tick of the open command, vehicle
  side at 60 V or more then. -/
  closed : Bool
  closeSfn : Nat
  openSfn : Nat
  delivered0 : Nat
  received0 : Nat
  delivered1 : Nat
  received1 : Nat
  openAt : Nat
  vehicleHigh : Bool
  /-- The stop under way is fast; the two halves of WELDING_CHECK are done. -/
  fast : Bool
  ownCheck : Bool
  vehicleCheck : Bool
  /-- Flags of the record. -/
  marked : Bool
  welded : Bool
  switchover : Bool
  stepped : Bool
  /-- The outlet goes to FAULTED after release; the record is written; SessionStopReq waits for its answer. -/
  faultAfter : Bool
  recorded : Bool
  stopAsked : Bool
deriving DecidableEq, Repr

/-- What an outlet's line and sensors have shown in a row, in cycles: the confirmation reading in CONNECTED, in OPEN, outside CONNECTED (R168);
insulation below ISO_FAULT × voltage (R177); voltage and current above the trips, current below 5 A (R184, Table 7-6); the T1S link down.
And the contexts of the vehicle's connection in the link die's table, TCP and TLS, with whether the vehicle gave its certificate
(R165). -/
structure LineSt where
  connected : Nat
  open_ : Nat
  lost : Nat
  iso : Nat
  overV : Nat
  overI : Nat
  lowI : Nat
  down : Nat
  tcp : Bool
  tls : Bool
  cert : Bool
deriving DecidableEq, Repr

/-- The outlets (chapter 7): sessions, their lines, the session log, ESTOP_N: cycles low, as recognised. -/
structure OutletsSt where
  sess : Tab Sess
  lines : Tab LineSt
  estopRun : Nat
  /-- The session log, newest first: sequence and record. -/
  log : List (Nat × List Byte)
  estopLow : Bool
  estopLatched : Bool
  /-- Tick at which ESTOP_N returned high; ticks at which the halves of the power die open contactors, each by its own store (R185). -/
  estopHighAt : Option Nat
  estopOpenA : Option Nat
  estopOpenB : Option Nat
deriving DecidableEq, Repr

/-- A loop of the engine (R196 to R201), F32 patterns: section states, integrator, last output, and the flags and
count of LOOP_STATUS; `preset` asks the first run after a swap to set the integrator (SWAP_INIT 1); `told` says the saturation has been reported. -/
structure LoopSt where
  s1 : List Nat
  s2 : List Nat
  i : Nat
  out : Nat
  ran : Bool
  satHigh : Bool
  satLow : Bool
  slew : Bool
  invalid : Bool
  fault : Bool
  missed : Bool
  satFrames : Nat
  preset : Bool
  told : Bool
deriving DecidableEq, Repr

/-- An outlet cable beyond its entries (R203 to R209): last valid current, supply and ambient temperature as F32
patterns, sensor faults (a bit each), flow alarm, derating as last reported in 0.1 A, DEADLINE_MISSED, initialised; cycles in a row the
conductor and the pin have been above their trip levels (R209); the ticks since which the pump has run at a duty of 0.2 or more and the
flow has been at or above FLOW_MIN (R205). -/
structure CableSt where
  amps : Nat
  supply : Nat
  ambient : Nat
  faults : Nat
  flowLow : Bool
  overTemp : Bool
  reported : Option Nat
  missed : Bool
  started : Bool
  condRun : Nat
  pinRun : Nat
  pumpAt : Option Nat
  flowAt : Option Nat
deriving DecidableEq, Repr

/-- A phase as the modulator holds it beyond its entries (R211 to R232): the group and firing position it took into the
ring, firings done while ADDING, the current estimate in A and its integral over the window, valid up to an instant in
steps of 2.5 ns since reset, the instants at which its high-side switch goes off and its low-side switch turns on; ticks
of its trips, of the last one; the state before a test, a test passed since its failure; frames at a trim bound, reported;
ticks on within the present hour; fired in the present window; consecutive cycles of each condition of Table 9-2, and above
1.1 × its rating. -/
structure PhaseSt where
  grp : Nat
  pos : Nat
  adds : Nat
  est : Rat
  area : Rat
  at_ : Nat
  offAt : Nat
  lowAt : Nat
  trips : List Nat
  tripFrame : Nat
  prior : Nat
  passed : Bool
  trimRun : Nat
  trimTold : Bool
  onTicks : Nat
  fired : Bool
  sick : List Nat
  overRun : Nat
  /-- Tick of its last change of PHASE_STATE. -/
  since : Nat
  /-- The latch has given it its place in the ring; its trim and inductance as last latched (R213, Table 9-3). -/
  ready : Bool
  trim : Rat
  ind : Rat
  /-- Slopes of its estimate in A a step with its high-side and with its low-side switch on, since its last firing; both 0 before one. -/
  up : Rat
  down : Rat
deriving DecidableEq, Repr

/-- A group as the control and power dies hold it (R212 to R228): state of Table 9-7, P_CMD and I_CMD before rounding,
flags of the load line, whether T_ON is bounded; the phase marked for shedding, since when shedding was wanted, the tick
STEP_HOLD ends, the tick of the stop command, the phase fired last, n_av as last reported, the last phase trip (phase and
tick), phases tripped together, firings in the present frame, consecutive frames in range. -/
structure GroupSt where
  st : Nat
  pCmd : Rat
  iCmd : Rat
  clampedDis : Bool
  clampedChg : Bool
  llActive : Bool
  tonClamped : Bool
  shed : Option Nat
  shedSince : Option Nat
  stepHold : Option Nat
  stopAt : Option Nat
  ptr : Nat
  nAv : Nat
  trip : Option (Nat × Nat)
  firings : Nat
  inFrames : Nat
  /-- Started, and not latched since (R221). -/
  fresh : Bool
  /-- Rails, DEAD_TIME and MIN_OFF as last latched (R213, Table 9-3). -/
  vh : Rat
  vl : Rat
  dead : Nat
  minOff : Nat
  /-- Every gate goes off at the next latch (R272, cause 6). -/
  cut : Bool
deriving DecidableEq, Repr

/-- A remote point as last reported: its F32 pattern and the tick of its sampling instant (R199). -/
structure RemotePoint where
  value : Nat
  sampled : Nat
deriving DecidableEq, Repr

/-- A wire suspected (R258): the wire, the sweep of the suspicion, the bound in 100 µV. -/
structure Suspect where
  wire : Nat
  sweep : Nat
  bound : Int
deriving DecidableEq, Repr

/-- A monitor beyond its entries (R243 to R260): the report of the sweep named; consecutive sweeps received; the low half
of a stack value with its sweep, and the sweep of the last whole one; alarm latched, its cause, CARRIER_IN of the latest
item 7, that item's bleeding bit; suspicions; wires not suspected again until a tick; cells whose fault was reported;
tick of the last 0x500B; the wire whose test it has accepted, that test's result; MONITOR_TEST under way (wires found
open); tick of the last wake burst; MONITOR_LOSING requested; sensors whose last item was a temperature. -/
structure MonSt where
  got : Option (Nat × Report)
  okRun : Nat
  stackLow : Option (Nat × Nat)
  stackAt : Option Nat
  alarm : Bool
  cause : Nat
  carrierIn : Bool
  bleeding : Bool
  suspects : List Suspect
  quiet : List (Nat × Nat)
  told : List Nat
  mismatchAt : Option Nat
  wire : Option Nat
  result : Option (Nat × Bool)
  test : Option Nat
  burstAt : Nat
  losing : Bool
  tempMask : Nat
deriving DecidableEq, Repr

/-- A command for monitors (R242): opcode, monitor index, argument bytes, broadcast, beacons it has gone out in, and
whether it is in the present beacon. -/
structure MonCmd where
  op : Nat
  mon : Nat
  args : List Byte
  broadcast : Bool
  sends : Nat
  aired : Bool
deriving DecidableEq, Repr

/-- The string current over one sweep's sampling span (R247): sum, count, lowest and highest value, all windows valid. -/
structure Span where
  sum : Rat
  n : Nat
  lo : Rat
  hi : Rat
  valid : Bool
deriving DecidableEq, Repr

/-- A string's rope and sweeps (R247 to R256): the carrier goes out; phase of an enumeration (0 none, 1 reset, 2 woken,
3 joining), since when; monitors and cells joined, tick of the last join; a replacement held; the last sweep was partial;
the span of the sweep under way and of the one before; the sweep until which an ALARM is awaited for 0x5101. -/
structure RopeSt where
  carrier : Bool
  phase : Nat
  phaseAt : Nat
  joined : Nat
  cells : Nat
  joinAt : Nat
  held : Option (Nat × Join)
  partialLast : Bool
  span : Span
  spanLast : Span
  alarmTill : Option Nat
  /-- Cycles since the last rising edge at ROPE_RET, 5 when longer; cycles in a row with one less than 250 µs ago (R251). -/
  gap : Nat
  run : Nat
deriving DecidableEq, Repr

/-- The pack radio (R238 to R242): sweep under way and its channel, sweep to be published and its channel; the map in
force, the next one and the sweep at which it takes effect; channels excluded, until a tick; outcomes of the last data
slots of each channel; commands; open join slots; SAMPLE_START and AVG_WINDOW of the sweep under way. -/
structure RadioSt where
  cur : Option (Nat × Nat)
  due : Option (Nat × Nat)
  map : Nat
  next : Nat
  switchAt : Option Nat
  excluded : List (Nat × Nat)
  slots : Tab (List Bool)
  cmds : List MonCmd
  joinMask : Nat
  start : Nat
  window : Nat
  /-- The monitors the retry call of a sweep named, a bit each (R244). -/
  retry : Option (Nat × Nat)
deriving DecidableEq, Repr

/-- A string beyond its entries (R265 to R280). Ticks unless said otherwise: the step of Table 11-1 or of a test (0 none),
its start, start of the pre-charge; V_C0; a rise seen in the step, the rises a test found; the pre-charge's duration in ms;
the coils in use (positive, negative, pre-charge); consecutive cycles below OPEN_CURRENT, above STRING_I_TRIP, with an
invalid current; since when the current is valid, the insulation below the fault limit, at or above the warning limit;
insulation warned in this connection; consecutive sweeps with causes 3, 4, 5; active causes; the latching cause; the cause
of the opening; start of OPENING; the last opening; the state's start; pre-charge failures; a test passed since the weld;
the channel behind cause 16; when the power die turns the coils off; HW_OPENED; WELD_UNCHECKED; the power limits before
rounding down; what set the current limits and the limits; no temperature, told; the group waits for the first sweep. -/
structure StrSt where
  step : Nat
  stepAt : Nat
  preAt : Nat
  vc0 : Rat
  rose : Bool
  rises : Nat
  preMs : Nat
  coils : List Nat
  lowRun : Nat
  overRun : Nat
  badRun : Nat
  validSince : Option Nat
  isoLow : Option Nat
  isoGood : Option Nat
  isoWarned : Bool
  high : Nat
  low : Nat
  hot : Nat
  causes : List Nat
  lock : Nat
  why : Nat
  openAt : Nat
  lastOpen : Option Nat
  stateAt : Nat
  fails : List Nat
  tested : Bool
  latched : Option Nat
  ropeOff : Option Nat
  hwOpened : Bool
  unchecked : Bool
  limDis : Rat
  limChg : Rat
  cellDis : Nat
  cellChg : Nat
  srcDis : Nat
  srcChg : Nat
  noTemp : Bool
  startLate : Bool
  /-- The cycle in which the step's coil went off (steps 2 and 5), and the cycle in which step 4 reached its voltage (R266). -/
  offAt : Option Nat
  reached : Option Nat
  /-- The rope opened with no control die to record it: 1, and 2 once the power die has turned driven coils off (R274). -/
  hwDue : Nat
deriving DecidableEq, Repr

/-- A cell as the estimator holds it (R285 to R302), per cent, Ah, V, Ω and °C: published track and counter track; bleed
since the last run, and taken into the run; the three resistances and the matrix P by rows; learning pairs accepted; their
flags; capacity; disagreement count; the last run's voltage, temperature and whether it was valid; the capacity anchor with
its tick, and the charge counted since; a count gap to settle; confidence; a reset marked (cause), an anchoring due after it;
bleed commanded, its end tick. -/
structure CellSt where
  soc : Rat
  count : Rat
  bleed : Rat
  bleedRun : Rat
  theta : List Rat
  p : List Rat
  pairs : Nat
  rLearned : Bool
  qLearned : Bool
  q : Rat
  disagree : Nat
  volts : Rat
  temp : Rat
  valid : Bool
  anchor : Option (Rat × Nat)
  since : Rat
  gap : Bool
  conf : Rat
  reset : Bool
  anchorDue : Bool
  bleedTill : Option Nat
  /-- What of the excess a bleed was commanded for is still to be bled, in Ah (R299). -/
  owed : Rat
deriving DecidableEq, Repr

/-- What a run of the estimator takes from a sweep (R284, R289, R294). -/
structure EstRun where
  sweep : Nat
  amps : Rat
  x1 : Rat
  x2 : Rat
  lo : Rat
  hi : Rat
  ampsOk : Bool
  complete : Bool
deriving DecidableEq, Repr

/-- The estimator of a string: charge counted since the last run, and taken into the run (Ah); branch currents now and at
the end of the last span; the run to commit and the one before; a count gap (frames missed so far, since the last run,
since the last re-anchor); frames at rest, anchored in this rest; |I_f| of the last 60 s, newest first; parts of a mAh not
yet in the lifetime counters; runs since the last store; the last BALANCE selection's tick; cells whose health has crossed; the
cell whose periodic store is next. -/
structure EstSt where
  charge : Rat
  chargeRun : Rat
  x1 : Rat
  x2 : Rat
  spanX1 : Rat
  spanX2 : Rat
  run : Option EstRun
  prev : Option EstRun
  gapFrames : Nat
  gapRun : Bool
  gapOpen : Bool
  rest : Nat
  rested : Bool
  recent : List Rat
  partDis : Rat
  partChg : Rat
  runs : Nat
  balanceAt : Nat
  healthLow : List Nat
  storeNext : Nat
deriving DecidableEq, Repr

/-- One metering die's side of a channel (R314): minimum and maximum of its last window as F32 patterns, the mean of u
in volts, consecutive invalid windows, the tick of the last sequence failure, the latched self-test failure (cause 2),
a full-scale code in the window, conversions made. -/
structure DieChan where
  lo : Nat
  hi : Nat
  u : Rat
  invalidRun : Nat
  sequence : Option Nat
  latched : Bool
  saturated : Bool
  conversions : Nat
  /-- The window the values stand for, as the count of ticks of its cycle (R14). -/
  at_ : Nat
  /-- The bank whose slices convert the channel (R306). -/
  bank : Nat
deriving DecidableEq, Repr

/-- A channel as the dies and the control die hold it: both dies' windows, and the control source's frame mean being
formed and last formed, with whether every window of it was valid. -/
structure ChanSt where
  d0 : DieChan
  d1 : DieChan
  acc : Rat
  accN : Nat
  accOk : Bool
  mean : Rat
  meanOk : Bool
deriving DecidableEq, Repr

/-- A bank of slices (R306 to R309): its spare and the tick its dwell began. -/
structure Bank where
  spare : Option Nat
  dwell : Nat
deriving DecidableEq, Repr

/-- A capture in progress (R317, R318). -/
structure Capture where
  die : Nat
  ch : Nat
  forced : Bool
  sfn : Nat
  ns : Nat
  x : Nat
deriving DecidableEq, Repr

/-- A system calibration in progress (R320): what was asked, and for each die the frame means of u so far, newest
first, and the frame being formed. -/
structure Calib where
  ch : Nat
  command : Nat
  dies : Nat
  reference : Nat
  frames : Nat
  means0 : List Rat
  means1 : List Rat
  acc0 : Rat
  acc1 : Rat
  n0 : Nat
  n1 : Nat
deriving DecidableEq, Repr

/-- The measurement side of the two metering dies (chapter 13): channels, banks, the active slices each slot table was
built for, a rebuild due at the next boundary, the SLOW rate in force, captures and calibrations. -/
structure MeasSt where
  chans : Tab ChanSt
  banks : Tab Bank
  slots0 : Nat
  slots1 : Nat
  rebuild0 : Bool
  rebuild1 : Bool
  reduced0 : Bool
  reduced1 : Bool
  capture : Option Capture
  /-- Tick until which triggers are refused (CAPTURE_HOLDOFF). -/
  captureHold : Nat
  /-- The last 16 capture records by number, newest first. -/
  captures : List (Nat × List Byte)
  calibs : List Calib
  /-- A valid result block of the running window has come from each die (R15). -/
  came0 : Bool
  came1 : Bool
  /-- Cycles in a row without a valid result block of each die (R81). -/
  silent0 : Nat
  silent1 : Nat
  /-- Slices retired since the die's start, by 9 × bank + slice: tick and cause (R309). -/
  gone : Tab (Nat × Nat)
  /-- The last capture: its die and the tick it ended (Table 13-8). -/
  lastCap : Option (Nat × Nat)
deriving DecidableEq, Repr

/-- A current conversion on its way through the metering engine (R327): its instant in units of 2.5 ns since the first frame, its
value in A, and the spacing Δt it stands for in s. -/
structure Sample where
  at_ : Nat
  amps : Rat
  dt : Rat
deriving DecidableEq, Repr

/-- The metering engine of one current and voltage channel pair of a point on one die (R327, R328): the last voltage conversions and
the last values of u⊥, newest first, each with its instant; current conversions no two voltage conversions bracket yet, and those no
two values of u⊥ bracket yet; the instants of the last conversions taken in. Since the last commit: Σ u i Δt, Σ u⊥ i Δt, Σ i² Δt,
and number and sum of the current conversions. In the running frame: squares and numbers of both, and those of the 200 ms before it;
U_rms and I_rms as last formed. -/
structure LegEng where
  us : List (Nat × Rat)
  qs : List (Nat × Rat)
  wait : List Sample
  waitQ : List Sample
  lastU : Nat
  lastI : Nat
  p : Rat
  q : Rat
  ii : Rat
  n : Nat
  sum : Rat
  u2 : Rat
  nu : Nat
  i2 : Rat
  ni : Nat
  past : List (Rat × Nat × Rat × Nat)
  uRms : Rat
  iRms : Rat
deriving DecidableEq, Repr

/-- A point on one metering die (R332, R333, R358): the 14 registers and the tariff registers of registers 0 and 1 in mWh,
whole with their fractions; the present frame's increments; the sums of the cross-check window's counted frames for the
quantity sets of R339; the current of each leg as last committed; the engine of each leg (R327). -/
structure MeterPt where
  regs : List Rat
  rates0 : List Rat
  rates1 : List Rat
  incs : List Rat
  win : List Rat
  amps : List Rat
  /-- The metering engine of each leg. -/
  legs : List LegEng
deriving DecidableEq, Repr

/-- A die's values of a point at one instant (R370, R371): frame, meter time in s, registers 0 and 1, tariff registers of
register 0, the rate and the calendar in force, and the billing period in progress. -/
structure Mark where
  sfn : Nat
  mt : Nat
  r0 : Nat
  r1 : Nat
  rates : List Nat
  rate : Nat
  calendar : Nat
  period : Nat
deriving DecidableEq, Repr

/-- A metering point shared by the dies (R338 to R340, R370): largest current magnitude of the present frame; the frame is
not counted in the cross-check; frames counted in the window; consecutive agreeing and disagreeing windows; set and
difference in ppm of the last disagreement; FLAGS of Table 15-8 collected over the session and over the billing period;
marks of each die at the session's closing and opening commits and at the last period close; register 0 at the last
interval close; tick at which the point last was energised. -/
structure PointSt where
  peak : Rat
  excluded : Bool
  counted : Nat
  agree : Nat
  disagree : Nat
  setNo : Nat
  ppm : Nat
  sesFlags : Nat
  perFlags : Nat
  close0 : Mark
  close1 : Mark
  open0 : Mark
  open1 : Mark
  per0 : Mark
  per1 : Mark
  lastReg : Nat
  liveAt : Nat
deriving DecidableEq, Repr

/-- An over-current of a leg (R338): the tick it began, whether it stands, the tick it ended, whether it was reported. -/
structure OverSt where
  since : Nat
  now : Bool
  till : Nat
  told : Bool
deriving DecidableEq, Repr

/-- LEGAL_SEAL at a metering die (R344): the level it has recognised as open, and the frames in a row in which the pin read otherwise. -/
structure SealSt where
  opened : Bool
  run : Nat
deriving DecidableEq, Repr

/-- The last commit of a metering die (R334, R348): its frame, its instant in ns since the first frame, and whether it carries a flush mark. -/
structure CommitSt where
  sfn : Nat
  ns : Nat
  flush : Bool
deriving DecidableEq, Repr

/-- The legal side of the metering dies (R340 to R349): the legal log, newest first, its last record and sequence; openings
of the seal; frames of the cross-check window; channels whose calibration came into force in this frame; the tick and offset
of a PFW_N recognition in force, the dies stopped since; a loss found at the last start; the display's next item, the tick of
its last one and an item that waits for DISP_BUSY since a tick. -/
structure LegalSt where
  /-- The seal as each die reads it (R344). -/
  seal0 : SealSt
  seal1 : SealSt
  /-- The last commit of each die (R334, R349), and commits at the end of every cycle since a power cut (R348). -/
  last0 : CommitSt
  last1 : CommitSt
  cycling : Bool
  log : List (Nat × List Byte)
  last : List Byte
  seq : Nat
  openings : Nat
  crossFrames : Nat
  calNow : List Nat
  pfw : Option (Nat × Nat)
  stop0 : Bool
  stop1 : Bool
  loss : Bool
  item : Nat
  itemAt : Nat
  busy : Option Nat
deriving DecidableEq, Repr

/-- A prepaid account beyond its entries (R366): exact balance, energy delivered in mWh, credit used. -/
structure AccountSt where
  balance : Rat
  delivered : Rat
  used : Rat
deriving DecidableEq, Repr

/-- A signed record that waits for the meter keys (R430), or as issued: point, kind, signing die, body with the sequence and
key fields still 0. -/
structure Unsigned where
  pt : Nat
  kind : Nat
  die : Nat
  body : List Byte
deriving DecidableEq, Repr

/-- Billing (R352 to R372): the frame count in which meter time was last formed and its value at the boundary before; it
stands still; index of the open interval and the header bits from bit 104 it carries; SFN of the frame before; a step or a
restart that the next close settles; the profile ring, newest first: sequence, J (low 32 bits) and
record; local time up to which period ends have been settled, day of the last close, tick of the last close; snapshots;
signed records; records waiting for keys; accounts. -/
structure BillSt where
  mtFrame : Option Nat
  mtPrev : Nat
  still : Bool
  index : Option Nat
  bits : Nat
  lastSfn : Nat
  stepped : Bool
  restarted : Bool
  profile : List (Nat × Nat × List Byte)
  profileSeq : Nat
  settled : Int
  lastDay : Option Int
  closedAt : Option Nat
  snaps : List (Nat × List Byte)
  signed : List (Nat × List Byte)
  signedSeq : Nat
  unsigned : List Unsigned
  accounts : Tab AccountSt
deriving DecidableEq, Repr

/-- A load channel as the control die commands it and as the power die holds it (R375 to R389): command and duty of
the control die, what the power die last latched, the gate, ticks of its turn-on and turn-off, pull-in, the protective
states, and what holds it off from outside. -/
structure LcSt where
  /-- Command and duty (in 1/1,024) the control die forms for the next packet, and what the power die latched. -/
  cmd : Bool
  duty : Nat
  got : Bool
  gotDuty : Nat
  /-- The gate is on, or pulses; ticks of the last turn-on and turn-off. -/
  on : Bool
  onAt : Nat
  offAt : Nat
  pullIn : Bool
  limiting : Bool
  /-- Start of the unbroken time on since the last limit episode ended (R381). -/
  span : Option Nat
  thermal : Bool
  /-- Ticks at which the latch set, for the thermal count of the last 10 min (R380). -/
  thermals : List Nat
  lockout : Bool
  latchedOff : Bool
  cause : Nat
  /-- Tick at which the retry wait ends (R381). -/
  wait : Option Nat
  openLoad : Bool
  weld : Bool
  /-- Held off by the rope interlock (R274) or an emergency stop (R185). -/
  rope : Bool
  estop : Bool
  /-- Clamp bucket in µJ and the tick it was last drained to (R383). -/
  bucket : Rat
  bucketAt : Nat
  /-- Sum of the currents of the present frame in mA. -/
  sum : Nat
  /-- The duty commanded, before it is quantised (R204). -/
  asked : Rat
  /-- Tick of the first status packet of the limit episode in progress (R379), and frames in a row with a mean current above LC_I_MAX. -/
  limAt : Nat
  hot : Nat
  /-- Measured on-time in µs with the current on the other side of LC_OPEN_LOAD_I than OPEN_LOAD says, and the current last measured in mA (R384). -/
  openT : Nat
  level : Nat
deriving DecidableEq, Repr

/-- One item of a half's fail-safe store (R387): channel, kind (0 plain, 1 outlet contactor, 2 pre-charge coil, 3 main
coil), fail-safe state and duty in 1/1,024. -/
structure FailItem where
  ch : Nat
  kind : Nat
  state : Nat
  duty : Nat
deriving DecidableEq, Repr

/-- A power die half (R387, R388, R390): its fail-safe store and FORCED_OPEN_DELAY, whether fail-safe is applied and
since when, the supply conditions in force, consecutive frames above 24 A and whether they have been reported (R374). -/
structure HalfSt where
  store : List FailItem
  openDelay : Nat
  failsafe : Bool
  failSince : Nat
  under : Bool
  surge : Bool
  dump : Bool
  ground : Bool
  reversed : Bool
  heavy : Nat
  told : Bool
  /-- The half's serial watchdog has failed (R82). -/
  watchdog : Bool
  /-- The coil channels of the half's four strings, as the last swap wrote them (R274): main-positive, main-negative, pre-charge. -/
  strCoils : List (List Nat)
  /-- Cycles in a row with VAUX at least 9.0 V, with VAUX at most 36 V, and with the load ground shift below 0.5 V (R390). -/
  okLow : Nat
  okHigh : Nat
  okGround : Nat
deriving DecidableEq, Repr

/-- A tone map's segment on one direction of a link (R400, R401): its map (`none` uses ROBUST), the tick it came into force, the
beacon period from which it is stale, the outcomes of its last 8 blocks (newest first), and consecutive failed control
transmissions. -/
structure SegSt where
  map : Option SegMap
  at_ : Nat
  stale : Option Nat
  blocks : List Bool
  failed : Nat
deriving DecidableEq, Repr

/-- The tone maps of one direction of a link (R400): ends of its segments, the segments, and maps received that a later beacon
period takes into force. -/
structure LinkMap where
  ends : List Nat
  segs : Tab SegSt
  next : Option (Nat × ToneMap)
deriving DecidableEq, Repr

/-- A message on its way to a node in the contention region (R394, R405): its kind (0 tone map, 1 sounding, 2 request for a
sounding, 3 admission, 4 data), its bytes, blocks not yet acknowledged (number, resends), the blocks of the last access
with their segments, and the tone map it brings. -/
structure Flow where
  node : Nat
  kind : Nat
  body : List Byte
  blocks : List (Nat × Nat)
  aired : List (Nat × Nat)
  cw : Nat
  map : Option ToneMap
deriving DecidableEq, Repr

/-- A node beyond its entries (R397 to R409): period number its next poll is due in; consecutive failed polls and exchanges;
retries of this period; messages of the poll sent and not answered; neighbours as reported; a neighbour report has been asked
for; the route it changes to, its cost, and the period from which it is used once answered; both directions' tone maps
(0 toward the node); points published; its link key and both frame counters; the start of its poll's first slot in ns from the
period's start. -/
structure NodeSt where
  due : Nat
  runs : Nat
  retries : Nat
  polled : Bool
  sent : List (Nat × List Byte)
  near : List Neighbour
  asked : Bool
  routeNext : Option (List Nat × Nat × Option Nat)
  out : LinkMap
  back : LinkMap
  pts : List Nat
  link : List Byte
  txCount : Nat
  rxCount : Nat
  slotAt : Nat
deriving DecidableEq, Repr

/-- A load start that waits (R409): node, power, essential, tick of its arrival, granted and waiting for the node's poll. -/
structure LoadAsk where
  node : Nat
  watts : Nat
  at_ : Nat
deriving DecidableEq, Repr

/-- The powerline network beyond its entries (R393 to R410): nodes; messages for the nodes' next polls (node, frame count of
their making, type, body); flows; loads deferred, in order of arrival; the period count (48 bits) and the one in which routes
were last computed; start tick of the present period and its length in ns; the mains reference is lost, valid crossings since;
active modem, a handover due with its cause; poll and reserve slots used; tick of the last overrun event; proxies, in order;
since when the imbalance exceeds the limit, told; failures of links (parent × 256 + node); the beacon key in use and the one to
come with the period count from which it serves; periods in a row in which the listening modem heard no valid B0 (R399). -/
structure EusorSt where
  nodes : Tab NodeSt
  queue : List (Nat × Nat × Nat × List Byte)
  flows : List Flow
  loads : List LoadAsk
  count : Nat
  routedAt : Nat
  startTick : Nat
  periodNs : Nat
  lost : Bool
  crossings : Nat
  modem : Nat
  handover : Option Nat
  used : Nat
  reserve : Nat
  overrunAt : Option Nat
  proxies : List Nat
  heavySince : Option Nat
  heavyTold : Bool
  links : Tab Nat
  key : List Byte
  keyNext : Option (Nat × List Byte)
  deaf : Nat
deriving DecidableEq, Repr

/-- A key of a grotto slot (R418, R422): its material (an AES key, or a private key), made on the device, and the certificate
chain held with it. -/
structure KeyMat where
  material : List Byte
  generated : Bool
  cert : List Byte
deriving DecidableEq, Repr

/-- A grotto slot (R418 to R422): usage and algorithm, the active and the pending key, KEY_COUNTER, frame at which the active
key took effect, tick at which the pending key was applied, and the challenge whose response is due or given. -/
structure SlotSt where
  usage : Nat
  alg : Nat
  active : Option KeyMat
  pending : Option KeyMat
  counter : Nat
  activeSfn : Nat
  pendingAt : Nat
  challenge : Option (List Byte)
deriving DecidableEq, Repr

/-- Keys (R411 to R433): slots; the derived keys are held; ZEROISE_ALL has burnt the roots; the tick of a zeroise whose keys
have not returned; a zeroise since start; mismatching and watched loops; environment alarm; the watch had a gap; the declared
measurement under which everything is wrapped too; the public key each certificate was issued for, by key; epoch
fuses burnt; the sealed grotto image in ST and the keys it is sealed under, the present one first (R418, R423); KY halves that have failed, a bit
each (R414); KY's own log of tampers, newest first, and how many of them the event log does not hold yet: cause, action, epoch after (R429). -/
structure KeySt where
  slots : Tab SlotSt
  held : Bool
  burnt : Bool
  lostAt : Option Nat
  zeroised : Bool
  loops : Nat
  watched : Nat
  env : Bool
  gap : Bool
  rewrap : Option (List Byte)
  issued : Tab (List Byte)
  epoch : Nat
  stored : Tab SlotSt
  seals : List (List Byte)
  lost : Nat
  log : List (Nat × Nat × Nat)
  untold : Nat
deriving DecidableEq, Repr

/-- An image slot (R434 to R438): its manifest and the blocks stored, by index. -/
structure FwSlot where
  manifest : List Byte
  blocks : Tab (List Byte)
deriving DecidableEq, Repr

/-- A preparation (R440, R449): slot, action, frame count of its start; done; of a legal image which dies have loaded it; its conversion has failed. -/
structure Prep where
  slot : Nat
  action : Nat
  since : Nat
  done : Bool
  loaded0 : Bool
  loaded1 : Bool
  failed : Bool
deriving DecidableEq, Repr

/-- A trial (R443 to R446): its slot, the slot that ran before, its action, the die on the new image, seconds left, the tick they
were last counted down at, and the fallback asked for at the next boundary with its cause. -/
structure Trial where
  slot : Nat
  old : Nat
  action : Nat
  die : Nat
  left : Nat
  tick : Nat
  back : Option Nat
deriving DecidableEq, Repr

/-- The stagger of a legal activation (R450): slot, old slot, action, SFN at which M0 changes. -/
structure Stagger where
  slot : Nat
  old : Nat
  action : Nat
  till : Nat
deriving DecidableEq, Repr

/-- Firmware update (R434 to R453): slots; preparations of a main and a legal image; the trial; frame count in which the last trial
ended (so that a request that meets it is ALREADY_DONE); the old die still restarts after a confirmation; the legal stagger; the
legal slot each metering die runs; the slot whose re-wrap is under way; the anti-rollback fuses; format of the running image's state
(0 before an update: Config.stateFormat); actions whose preparation point has passed, with their SFNs (R440). -/
structure FwSt where
  slots : Tab FwSlot
  main : Option Prep
  legal : Option Prep
  trial : Option Trial
  ended : Option Nat
  confirming : Bool
  stagger : Option Stagger
  bank0 : Nat
  bank1 : Nat
  wrapping : Option Nat
  rollMain : Nat
  rollLegal : Nat
  format : Nat
  started : List (Nat × Nat)
deriving DecidableEq, Repr

/-- A stream of the streaming port (R455 to R460): records in its buffer, oldest first; blocks of the first one sent; block count;
GAP and RESENT due on the next block; since when a block has been ready; records dropped and not yet reported, tick of the
last report; frame count from which it produces. -/
structure StreamQ where
  recs : List (List Byte)
  pos : Nat
  seq : Nat
  gap : Bool
  resent : Bool
  since : Option Nat
  drops : Nat
  dropAt : Option Nat
  from_ : Nat
deriving DecidableEq, Repr

/-- The streaming port (R454 to R460): its streams; blocks sent and freed since READY; tick of the last valid message; since when
no credit has been available; what the present frame's records are formed from: result windows, bus entries, and the radio
frames received (sweep, bytes); ns of the running cycle and beyond it that the lanes are taken. -/
structure StreamSt where
  qs : Tab StreamQ
  sent : Nat
  freed : Nat
  heard : Nat
  dry : Option Nat
  windows : List Byte
  cycles : Nat
  busNow : List (List Byte)
  raw : List (Nat × List Byte)
  busy : Nat
deriving DecidableEq, Repr

/-- A sump record (R482, R484): its frame, entries not yet stored as (key, sequence, value) of RO and RW entries and of the two stores of
sets, the set pointer, the estimator record, the events of the frame and the allocator's acknowledgement ledger. -/
structure Sump where
  sfn : Nat
  cells : List (Nat × Nat × Val)
  act : List (Nat × Nat × Val)
  shd : List (Nat × Nat × Val)
  ptr : Bool
  cellSts : Tab CellSt
  ests : Tab EstSt
  events : List EventRec
  ledger : Tab (List Sent)
deriving DecidableEq, Repr

/-- Supplies and states (R466 to R485): domains in their windows by bit of SUPPLY_STATUS; sides out of reset; tick of the last
release from reset; SLEEP or SHIP asked for; the state a start goes to instead of DEGRADED (RECOVERY, SLEEP); sump and whether the
last start applied one; KY halves failed at the last start; the tick at which a wake's carriers start, the tick at which the SLEEP or
SHIP broadcast was made; SUPPLY_EN; the frame count after which TEST begins; LAST_START_CAUSE of the next start;
the tick at which RST_N turns the outputs off; strings it opened; the state before OFF, until it is reported; a wake (source, instance)
that waits for SLEEP; the tick of the last wake, until its ropes are closed; a die that has booted and waits for the preferred one, with
its report (R59). -/
structure PlantSt where
  inWindow : Nat
  sideA : Bool
  sideB : Bool
  released : Nat
  sleep : Bool
  ship : Bool
  toRecovery : Bool
  toSleep : Bool
  sump : Option Sump
  sumpDone : Bool
  kyBad : Nat
  carrierAt : Option Nat
  broadcastAt : Option Nat
  supplyEn : Bool
  testAt : Option Nat
  startCause : Nat
  rstAt : Option Nat
  rstStrings : List Nat
  offFrom : Option Nat
  wakeDue : Option (Nat × Nat)
  wokenAt : Option Nat
  waitingBoot : Option (Nat × BootReport)
deriving DecidableEq, Repr

/-- The cycle state of Table 3-1 as the standby holds it (R61): the cycle it stands for, loops, cables, phases and their groups, load
channels, channel sources and last values, the events of the cycle, requests that wait for the boundary, and the grant set. -/
structure CycleImg where
  sfn : Nat
  cycle : Nat
  loops : Tab LoopSt
  cables : Tab CableSt
  legs : Tab PhaseSt
  convs : Tab GroupSt
  lc : Tab LcSt
  chans : Tab ChanSt
  events : List EventRec
  held : List Held
  units : Tab UnitGrant
deriving DecidableEq, Repr

/-- The frame state of Table 3-2 as the standby holds it (R62): the frame it stands for, the dictionary's RO and RW values and both
sets, answers kept, the estimators, sessions, allocator, units on the bus, monitors, and the two-phase actions. -/
structure FrameImg where
  sfn : Nat
  cells : Tab Val
  actSet : Tab Val
  shdSet : Tab Val
  kept : List Kept
  cellSts : Tab CellSt
  ests : Tab EstSt
  outlets : OutletsSt
  alloc : AllocSt
  units : Tab UnitSt
  xfers : List Xfer
  mons : Tab MonSt
  groups : Tab GroupAct
deriving DecidableEq, Repr

/-- What the mirror has brought the standby and what a switch-over needs of it (R61 to R63, R72, R73): both images; the blocks of a
failed frame mirror are due again; the requests applied and the messages received since the frame state held was formed (none of
them consumed yet); messages to be delivered again. -/
structure MirrorSt where
  cycle : Option CycleImg
  frame : Option FrameImg
  resend : Bool
  applied : List Held
  inbox : List Instr
  again : List Instr
  /-- The message that takes effect now is delivered again. -/
  replay : Bool
deriving DecidableEq, Repr

/-- What a read finds (R20): the dictionary as it stood after the last completed cycle. -/
structure Seen where
  ticks : Nat
  cells : Tab Val
  actSet : Tab Val
  shdSet : Tab Val
  points : Tab RemotePoint
  captures : List (Nat × List Byte)
deriving DecidableEq, Repr

/-- Why a step stops with a fault. No meaning of this model raises one: the spec names no condition in which the
block stops for good. Safe: an unused reason lets no false claim be proved. -/
inductive Fault where
  /-- Raised by no meaning; kept so that the outcome type has a fault to name. Safe. -/
  | halted
deriving DecidableEq, Repr

/-- Why a step is refused. -/
inductive Refusal where
  /-- Raised by the dispatch for a command that has no meaning in this model yet. Safe: the model stops. -/
  | notModelled (mnemonic : String)
deriving DecidableEq, Repr

/-- The machine. -/
@[ext]
structure State where
  /-- Commands waiting, first in, first out. -/
  pending : List Instr
  /-- Cycles since reset: the count of REFCLK ticks, which no renumbering of frames touches. -/
  ticks : Nat
  /-- Site frame number and cycle within the frame. -/
  sfn : Nat
  cycle : Nat
  /-- Counter of the free values taken (the model's own field: log entry 1). -/
  free : Nat
  /-- Values of RO and RW entries, and of the active and the shadow set, where they differ from their defaults. -/
  cells : Tab Val
  actSet : Tab Val
  shdSet : Tab Val
  /-- The configuration digests are to be computed again at the next cycle 0 (R91). -/
  digestStale : Bool
  /-- The copy slots of P entries in ST: RO and RW entries and the two stores of a configuration set (R93, R94). -/
  nvCells : Tab PSlots
  nvSet0 : Tab PSlots
  nvSet1 : Tab PSlots
  /-- The set pointer: the active set is the one of store 1; and the pointer as ST holds it (R95). -/
  setPtr : Bool
  nvPtr : Bool
  /-- P writes of this frame not yet in ST, oldest first: table (0 entries, 1 and 2 the stores of the sets), key, value. -/
  writes : List (Nat × Nat × Val)
  /-- Messages sent in the present cycle, oldest first, and messages that wait for the frame mirror (R73). -/
  out : List Msg
  waiting : List Msg
  ev : EventSt
  tx : EngineSt
  /-- Swap requests of this boundary and of the next (R88). -/
  swapAsks : List SwapAsk
  swapNext : List SwapAsk
  tests : List QTest
  running : List RunTest
  time : TimeSt
  groups : Tab GroupAct
  die : DieSt
  pw : PowerSt
  alloc : AllocSt
  bus : BusSt
  outlets : OutletsSt
  loops : Tab LoopSt
  cables : Tab CableSt
  legs : Tab PhaseSt
  convs : Tab GroupSt
  /-- Remote points by node × 256 + point. -/
  points : Tab RemotePoint
  mons : Tab MonSt
  ropes : Tab RopeSt
  radio : RadioSt
  strs : Tab StrSt
  /-- Cells by monitor × 16 + cell. -/
  cellSts : Tab CellSt
  ests : Tab EstSt
  /-- What ST holds of both (R300). -/
  nvCellSts : Tab CellSt
  nvEsts : Tab EstSt
  meas : MeasSt
  /-- Points by die × 17 + point; points; over-currents by point × 4 + leg. -/
  meters : Tab MeterPt
  mpoints : Tab PointSt
  overs : Tab OverSt
  legal : LegalSt
  bill : BillSt
  lc : Tab LcSt
  halfA : HalfSt
  halfB : HalfSt
  eus : EusorSt
  keys : KeySt
  fw : FwSt
  stream : StreamSt
  plant : PlantSt
  mirror : MirrorSt
  seen : Seen
deriving DecidableEq, Repr

/-- The machine right after reset: every entry at its default, DEVICE_STATE START (R465), every queue, log and table
empty, and every register the spec gives no reset value at the value log entry 2 names. -/
def State.reset : State where
  pending := []
  ticks := 0
  sfn := 0
  cycle := 0
  free := 0
  cells := []
  actSet := []
  shdSet := []
  digestStale := true
  nvCells := []
  nvSet0 := []
  nvSet1 := []
  setPtr := false
  nvPtr := false
  writes := []
  out := []
  waiting := []
  ev := { log := [], count := 0, dropped := 0, dropCycle := 0, fresh := [], due := [], overwritten := 0 }
  tx := { tags := [], held := [], kept := [], segments := [], conns := [], step := 0, work := none }
  swapAsks := []
  swapNext := []
  tests := []
  running := []
  time := { state := .unset, upstream := 0, master := none, syncRun := 0, heard0 := none, heard1 := none, delays0 := [],
            delays1 := [], errorPs := 0, errorHigh := false, slewNs := 0, stepNs := none, corrections := [],
            stepDay := none, errorDue := false, known := false, flagMark := 0, flagEusor := false, flagPrebex := false,
            backupValid := false, backupSfn := 0, backupErrorPs := 0, backupTick := 0, storedSfn := 0 }
  groups := []
  die := { ca := .off, cb := .off, mirrorSync := false, lanes := 3, frameMisses := 0, diverged := 0, switch := none,
           swapAt := none, quiet := none, takeDue := false, mirrorMissed := false, unserved := none, stopsA := [], stopsB := [], blockedA := false, blockedB := false,
           bootA := none, bootB := none, resync := none, resyncFails := 0, resyncRetry := none, switchFrame := none,
           m0Running := false, m1Running := false, m0Failed := false, m1Failed := false, pwA := false, pwB := false,
           lkA := false, lkB := false, kyA := false, kyB := false, st0 := false, st1 := false, tickB := false,
           misses := [], flagged0 := [], flagged1 := [], spareChecks := [], apart := [], checkFrom := [], checkedAt := []
           imageA := [], imageB := [] }
  pw := { active := 0, yieldA := none, yieldB := none, silent := 0, latched := false, standbyPackets := 0 }
  alloc := { units := [], run := none, room := [], ceilings := [], importOver := 0, feOver := [], feOut := [], feRearm := [],
             faulted := [], withheld := false, importScale := none, seenUnits := [], seenCaps := [], sentAt := none }
  bus := { units := [], xfers := [], tests := [], cans := [], caps := [], pendingCaps := [], queue := [], rehome := [], served := false }
  outlets := { sess := [], lines := [], estopRun := 0, log := [], estopLow := false, estopLatched := false, estopHighAt := none,
               estopOpenA := none, estopOpenB := none }
  loops := []
  cables := []
  legs := []
  convs := []
  points := []
  mons := []
  ropes := []
  radio := { cur := none, due := none, map := 0xFFFFF, next := 0xFFFFF, switchAt := none, excluded := [], slots := [], cmds := [],
             joinMask := 0, start := 20, window := 4, retry := none }
  strs := []
  cellSts := []
  ests := []
  nvCellSts := []
  nvEsts := []
  meas := { chans := [], banks := [], slots0 := 16, slots1 := 16, rebuild0 := false, rebuild1 := false, reduced0 := false,
            reduced1 := false, capture := none, captureHold := 0, captures := [], calibs := [], came0 := false, came1 := false
            silent0 := 0, silent1 := 0, gone := [], lastCap := none }
  meters := []
  mpoints := []
  overs := []
  legal := { seal0 := ⟨false, 0⟩, seal1 := ⟨false, 0⟩, last0 := ⟨0, 0, false⟩, last1 := ⟨0, 0, false⟩, cycling := false, log := [], last := List.replicate 40 0#8, seq := 0, openings := 0, crossFrames := 0, calNow := [], pfw := none,
             stop0 := false, stop1 := false, loss := false, item := 0, itemAt := 0, busy := none }
  bill := { mtFrame := none, mtPrev := 0, still := false, index := none, bits := 0, lastSfn := 0, stepped := false, restarted := false, profile := [],
            profileSeq := 0, settled := 0, lastDay := none, closedAt := none, snaps := [], signed := [], signedSeq := 0, unsigned := [],
            accounts := [] }
  lc := []
  halfA := { store := [], openDelay := 30, failsafe := false, failSince := 0, under := false, surge := false, dump := false,
             ground := false, reversed := false, heavy := 0, told := false, watchdog := false, strCoils := [], okLow := 0, okHigh := 0, okGround := 0 }
  halfB := { store := [], openDelay := 30, failsafe := false, failSince := 0, under := false, surge := false, dump := false,
             ground := false, reversed := false, heavy := 0, told := false, watchdog := false, strCoils := [], okLow := 0, okHigh := 0, okGround := 0 }
  eus := { nodes := [], queue := [], flows := [], loads := [], count := 0, routedAt := 0, startTick := 0, periodNs := 0,
           lost := false, crossings := 0, modem := 0, handover := none, used := 0, reserve := 0, overrunAt := none, proxies := [],
           heavySince := none, heavyTold := false, links := [], key := [], keyNext := none, deaf := 0 }
  keys := { slots := [], held := false, burnt := false, lostAt := none, zeroised := false, loops := 0, watched := 0, env := false,
            gap := false, rewrap := none, issued := [], epoch := 0, stored := [], seals := [], lost := 0, log := [], untold := 0 }
  fw := { slots := [], main := none, legal := none, trial := none, ended := none, confirming := false, stagger := none, bank0 := 2, bank1 := 2, wrapping := none,
          rollMain := 0, rollLegal := 0, format := 0, started := [] }
  stream := { qs := [], sent := 0, freed := 0, heard := 0, dry := none, windows := [], cycles := 0, busNow := [], raw := [], busy := 0 }
  plant := { inWindow := 0, sideA := false, sideB := false, released := 0, sleep := false, ship := false, toRecovery := false, toSleep := false,
             sump := none, sumpDone := false, kyBad := 0, carrierAt := none, broadcastAt := none, supplyEn := true, testAt := none,
             startCause := 0, rstAt := none, rstStrings := [], offFrom := none,
             wakeDue := none, wokenAt := none, waitingBoot := none }
  mirror := { cycle := none, frame := none, resend := false, applied := [], inbox := [], again := [], replay := false }
  seen := { ticks := 0, cells := [], actSet := [], shdSet := [], points := [], captures := [] }

end Sys2Proof.Machine
end

