-- ==== Sys2Proof/Machine/Tab.lean ====
section
/-!
DEFINITION. Operations on sparse tables: keys strictly rising, one entry a key.
-/
namespace Sys2Proof.Machine

/-- What the table holds at `k`. -/
def Tab.find {α : Type} : Tab α → Nat → Option α
  | [], _ => none
  | (i, v) :: r, k => if i == k then some v else Tab.find r k

/-- What the table holds at `k`, `d` when nothing is listed there. -/
def Tab.get {α : Type} (d : α) (t : Tab α) (k : Nat) : α := (Tab.find t k).getD d

/-- The table with `v` at `k`. -/
def Tab.set {α : Type} : Tab α → Nat → α → Tab α
  | [], k, v => [(k, v)]
  | (i, w) :: r, k, v =>
    if k < i then (k, v) :: (i, w) :: r
    else if k == i then (k, v) :: r
    else (i, w) :: Tab.set r k v

/-- The table with nothing at `k`. -/
def Tab.erase {α : Type} : Tab α → Nat → Tab α
  | [], _ => []
  | (i, w) :: r, k => if i == k then Tab.erase r k else (i, w) :: Tab.erase r k

/-- The keys listed. -/
def Tab.keys {α : Type} (t : Tab α) : List Nat := t.map Prod.fst

/-- The canonical form: keys strictly rising. -/
def Tab.wf {α : Type} : Tab α → Bool
  | [] => true
  | [_] => true
  | (i, _) :: (j, w) :: r => decide (i < j) && Tab.wf ((j, w) :: r)

end Sys2Proof.Machine
end

