-- ==== Sys2Proof/Machine/Dictionary.lean ====
section
/-!
DEFINITION. The object dictionary (R84 to R87): what an entry is, where its values stand, and the typed reads and
writes every other file goes through.
-/
namespace Sys2Proof.Machine
open Sys2Proof

/-- Types of Table 4-1, in the order of their codes. -/
inductive EType where
  | bool | u8 | u16 | u32 | u64 | i16 | i32 | i64 | f32 | time64 | str | blob | record
deriving DecidableEq, Repr

/-- Access classes, in the order of the DESCRIBE codes. -/
inductive Access where
  | ro | rw | wo | rws | leg
deriving DecidableEq, Repr

/-- Persistence (R93), in the order of the DESCRIBE codes. -/
inductive Persist where
  | volatile | persistent | legal
deriving DecidableEq, Repr

/-- The accepted range a chapter states for an entry. -/
inductive Range where
  /-- Every value of the type. -/
  | any
  | between (lo hi : Int)
  | betweenOr (lo hi x : Int)
  | oneOf (l : List Int)
  /-- An F32 between two bounds; above 0; at 0 or above. -/
  | fbetween (lo hi : Rat)
  | fabove
  | fnonneg
  /-- A TIME64 whose offset is below 1,000,000 ns. -/
  | time64
  /-- Exactly so many bytes (another length is TYPE). -/
  | len (n : Nat)
  /-- At most so many bytes. -/
  | maxLen (n : Nat)
  /-- An IPv6 address in text form, or nothing. -/
  | ipv6
  /-- A U32 whose four bytes are each at most `hi` or equal to `x`. -/
  | bytesBetweenOr (hi x : Nat)
  /-- A DER certificate of at most so many bytes, or nothing. -/
  | derMax (n : Nat)
  /-- A loop source or target word (R197): kinds allowed. -/
  | source (kinds : List Nat)
deriving DecidableEq, Repr

/-- The default a table gives an entry: the same for every instance; rising by `k` per instance; one value for instance
0 and another for the rest; or instance by instance. -/
inductive Dflt where
  | same (v : Val)
  | rising (v k : Int)
  | first (v rest : Val)
  | each (l : List Int)
deriving DecidableEq, Repr

/-- One row of an entry table: name, index of instance 0, number of instances, first sub-index, how many sub-indices
it spans and their step, type, access, default, persistence, range, greatest length. -/
structure Entry where
  name : String
  base : Nat
  count : Nat
  sub : Nat
  subs : Nat
  step : Nat
  type : EType
  access : Access
  dflt : Dflt
  persist : Persist
  range : Range
  maxLen : Nat
deriving DecidableEq, Repr

/-- The key of instance `n`, sub-entry `j`: index × 256 + sub-index. -/
def Entry.key (e : Entry) (n : Nat := 0) (j : Nat := 0) : Nat := (e.base + n) * 256 + e.sub + j * e.step

/-- The TARGET layout of R42 is the same number: [23:8] index, [7:0] sub-index. -/
def Entry.target (e : Entry) (n : Nat := 0) (j : Nat := 0) : Nat := e.key n j

/-- The default of instance `n`. -/
def Entry.default (e : Entry) (n : Nat) : Val :=
  match e.dflt with
  | .same v => v
  | .rising v k => .num (v + k * n)
  | .first v rest => if n = 0 then v else rest
  | .each l => .num (l[n]?.getD 0)

/-- An entry held twice, in the active and the shadow set (R87). -/
def Entry.inSets (e : Entry) : Bool := e.access == .rws || e.access == .leg

/-- The number a value holds; bytes read as 0. -/
def Val.toInt : Val → Int
  | .num n => n
  | .bytes _ => 0

/-- The bytes a value holds; a number reads as none. -/
def Val.toBytes : Val → List Byte
  | .num _ => []
  | .bytes b => b

/-- The value in force (the active set for RWS and LEG). -/
def State.val (s : State) (e : Entry) (n : Nat := 0) (j : Nat := 0) : Val :=
  Tab.get (e.default n) (if e.inSets then s.actSet else s.cells) (e.key n j)

/-- The shadow value of an RWS or LEG entry. -/
def State.shadowVal (s : State) (e : Entry) (n : Nat := 0) (j : Nat := 0) : Val :=
  Tab.get (e.default n) s.shdSet (e.key n j)

/-- The value in force as an integer, a natural number, a truth value, bytes, an F32 pattern and its exact value. -/
def State.int (s : State) (e : Entry) (n : Nat := 0) (j : Nat := 0) : Int := (s.val e n j).toInt
def State.nat (s : State) (e : Entry) (n : Nat := 0) (j : Nat := 0) : Nat := (s.int e n j).toNat
def State.flag (s : State) (e : Entry) (n : Nat := 0) (j : Nat := 0) : Bool := s.int e n j != 0
def State.bytes (s : State) (e : Entry) (n : Nat := 0) (j : Nat := 0) : List Byte := (s.val e n j).toBytes
def State.rat (s : State) (e : Entry) (n : Nat := 0) (j : Nat := 0) : Rat := F32.toRat (s.nat e n j)

/-- The table with the value at its key, nothing listed where it equals the default. -/
def Tab.putVal (t : Tab Val) (e : Entry) (n j : Nat) (v : Val) : Tab Val :=
  if v = e.default n then Tab.erase t (e.key n j) else Tab.set t (e.key n j) v

/-- Entries the estimator stores on its own periods (R300). -/
def estimatorEntry (e : Entry) : Bool := e.base == 0x5000 && decide (0x50 ≤ e.sub) && decide (e.sub ≤ 0xA0)

/-- The store of ST that holds the active set, and the one that holds the shadow set (R95). -/
def State.actStore (s : State) : Nat := 1 + b2n s.setPtr
def State.shdStore (s : State) : Nat := 2 - b2n s.setPtr

/-- The writes of the frame with one more: a P entry's goes to its next copy slot by cycle 19 (R94, R95). -/
def State.noteWrite (s : State) (table : Nat) (e : Entry) (n j : Nat) (v : Val) : List (Nat × Nat × Val) :=
  if e.persist == .persistent && !estimatorEntry e then s.writes ++ [(table, e.key n j, v)] else s.writes

/-- Write the value in force. -/
def State.put (s : State) (e : Entry) (n j : Nat) (v : Val) : State :=
  if e.inSets then
    { s with actSet := Tab.putVal s.actSet e n j v, digestStale := true, writes := s.noteWrite s.actStore e n j v }
  else { s with cells := Tab.putVal s.cells e n j v, writes := s.noteWrite 0 e n j v }

/-- Write the shadow value. -/
def State.putShadow (s : State) (e : Entry) (n j : Nat) (v : Val) : State :=
  { s with shdSet := Tab.putVal s.shdSet e n j v, digestStale := true, writes := s.noteWrite s.shdStore e n j v }

/-- Write a number, a truth value, bytes, or the F32 nearest a rational. -/
def State.setInt (s : State) (e : Entry) (n : Nat) (v : Int) (j : Nat := 0) : State := s.put e n j (.num v)
def State.setNat (s : State) (e : Entry) (n : Nat) (v : Nat) (j : Nat := 0) : State := s.put e n j (.num v)
def State.setFlag (s : State) (e : Entry) (n : Nat) (v : Bool) (j : Nat := 0) : State := s.put e n j (.num (b2n v))
def State.setBytes (s : State) (e : Entry) (n : Nat) (v : List Byte) (j : Nat := 0) : State := s.put e n j (.bytes v)
def State.setRat (s : State) (e : Entry) (n : Nat) (v : Rat) (j : Nat := 0) : State := s.put e n j (.num (F32.ofRat v))

/-- The width in bits of a fixed-size number type; 0 for the others. -/
def EType.bits : EType → Nat
  | .bool => 8 | .u8 => 8 | .u16 => 16 | .u32 => 32 | .u64 => 64
  | .i16 => 16 | .i32 => 32 | .i64 => 64 | .f32 => 32
  | .time64 => 0 | .str => 0 | .blob => 0 | .record => 0

/-- Types held as numbers. -/
def EType.isNum (t : EType) : Bool := t.bits != 0

/-- The signed types. -/
def EType.isSigned : EType → Bool
  | .i16 => true | .i32 => true | .i64 => true | _ => false

/-- The type code of Table 4-1. -/
def EType.code : EType → Nat
  | .bool => 0 | .u8 => 1 | .u16 => 2 | .u32 => 3 | .u64 => 4 | .i16 => 5 | .i32 => 6 | .i64 => 7 | .f32 => 8
  | .time64 => 9 | .str => 10 | .blob => 11 | .record => 12

/-- The access and persistence codes of a DESCRIBE response (Table 4-4). -/
def Access.code : Access → Nat
  | .ro => 0 | .rw => 1 | .wo => 2 | .rws => 3 | .leg => 4
def Persist.code : Persist → Nat
  | .volatile => 0 | .persistent => 1 | .legal => 2

/-- Greatest length in bytes of a value of the entry (DESCRIBE). -/
def Entry.maxLength (e : Entry) : Nat :=
  if e.type.isNum then e.type.bits / 8 else if e.type == .time64 then 12 else e.maxLen

/-- A value as it is sent, least significant byte first (R85). -/
def Entry.encode (e : Entry) (v : Val) : List Byte :=
  match v with
  | .num n => if e.type.isNum then leBytes (e.type.bits / 8) (word e.type.bits n) else []
  | .bytes b => b

/-- The value a written byte string holds under the entry's type (length already checked). -/
def Entry.decode (e : Entry) (bs : List Byte) : Val :=
  if e.type.isNum then
    (if e.type.isSigned then .num (signed e.type.bits (leNat bs)) else .num (leNat bs))
  else .bytes bs

/-- A TIME64 of site frame and offset (Table 4-1). -/
def time64 (sfn ns : Nat) : List Byte := leBytes 8 sfn ++ leBytes 4 ns

end Sys2Proof.Machine
end

