-- ==== Sys2Proof/Machine/Entries.lean ====
section
/-!
DEFINITION. The entries of the object dictionary, one definition per row of the entry tables of the spec's
chapters (Tables 0-2, 1-8, 2-4, 2-9, 3-6, 4-8, 5-6, 5-7, 6-11, 6-12, 7-1, 7-9, 7-10, 8-7 to 8-9, 9-4, 9-5, 10-15,
10-17, 10-18, 11-5, 12-4, 12-6, 13-7, 13-9, 13-11, 14-9, 14-10, 15-10, 15-12 to 15-14, 16-6, 16-9, 17-6, 17-8, 18-8,
19-4, 20-4, 21-8, 22-13), with the accepted ranges those chapters state. A per-instance block is one definition
(R8); a run of sub-indices is one definition with a count and a step.
-/
namespace Sys2Proof.Machine


/-! Table 0-2 (00_scope.md). -/

def Ent.VENDOR_NAME : Entry :=
  ⟨"VENDOR_NAME", 0x1000, 1, 0x01, 1, 1, .str, .ro, (.same (.bytes [75, 110, 97, 106, 111])), .volatile, .any, 255⟩
def Ent.PART_NUMBER : Entry :=
  ⟨"PART_NUMBER", 0x1000, 1, 0x02, 1, 1, .str, .ro, (.same (.bytes [83, 75, 69, 45, 54, 52, 48, 56])), .volatile, .any, 255⟩
def Ent.SILICON_REVISION : Entry :=
  ⟨"SILICON_REVISION", 0x1000, 1, 0x03, 1, 1, .str, .ro, (.same (.bytes [66, 49])), .volatile, .any, 255⟩
def Ent.FW_MAIN_VERSION : Entry :=
  ⟨"FW_MAIN_VERSION", 0x1000, 1, 0x04, 1, 1, .u16, .ro, (.same (.num 516)), .volatile, .any, 0⟩
def Ent.FW_LEGAL_VERSION : Entry :=
  ⟨"FW_LEGAL_VERSION", 0x1000, 1, 0x05, 1, 1, .u16, .ro, (.same (.num 258)), .volatile, .any, 0⟩
def Ent.MODULE_PROFILE_VERSION : Entry :=
  ⟨"MODULE_PROFILE_VERSION", 0x1000, 1, 0x06, 1, 1, .u8, .ro, (.same (.num 2)), .volatile, .any, 0⟩
def Ent.PREBEX_VERSION : Entry :=
  ⟨"PREBEX_VERSION", 0x1000, 1, 0x07, 1, 1, .u8, .ro, (.same (.num 3)), .volatile, .any, 0⟩
def Ent.EUSOR_VERSION : Entry :=
  ⟨"EUSOR_VERSION", 0x1000, 1, 0x08, 1, 1, .u8, .ro, (.same (.num 1)), .volatile, .any, 0⟩

/-! Table 1-8 (01_architecture.md). -/

def Ent.ACTIVE_CONTROL_DIE : Entry :=
  ⟨"ACTIVE_CONTROL_DIE", 0xC000, 1, 0x01, 1, 1, .u8, .ro, (.same (.num 0)), .volatile, .any, 0⟩
def Ent.DIE_STATUS : Entry :=
  ⟨"DIE_STATUS", 0xC000, 1, 0x02, 1, 1, .u32, .ro, (.same (.num 0)), .volatile, .any, 0⟩
def Ent.DEADLINE_MISS_COUNT : Entry :=
  ⟨"DEADLINE_MISS_COUNT", 0xC000, 1, 0x03, 1, 1, .u32, .ro, (.same (.num 0)), .volatile, .any, 0⟩
def Ent.STANDBY_PACKET_COUNT : Entry :=
  ⟨"STANDBY_PACKET_COUNT", 0xC000, 1, 0x04, 1, 1, .u32, .ro, (.same (.num 0)), .volatile, .any, 0⟩
def Ent.TEST_QUEUE_DEPTH : Entry :=
  ⟨"TEST_QUEUE_DEPTH", 0xC000, 1, 0x05, 1, 1, .u8, .ro, (.same (.num 0)), .volatile, .any, 0⟩
def Ent.TEST_QUEUE_EXPIRY : Entry :=
  ⟨"TEST_QUEUE_EXPIRY", 0xC000, 1, 0x06, 1, 1, .u32, .rw, (.same (.num 86400)), .persistent, .between 60 2592000, 0⟩

/-! Table 2-4 (02_site_frame.md). -/

def Ent.ACTION_STATE : Entry :=
  ⟨"STATE", 0xE000, 1024, 0x01, 1, 1, .u8, .ro, (.same (.num 0)), .persistent, .any, 0⟩
def Ent.ACTION_CONTROL : Entry :=
  ⟨"CONTROL", 0xE000, 1024, 0x02, 1, 1, .u8, .wo, (.same (.num 0)), .volatile, .between 1 3, 0⟩
def Ent.ACTION_SFN : Entry :=
  ⟨"SFN", 0xE000, 1024, 0x03, 1, 1, .u64, .rw, (.same (.num 0)), .persistent, .any, 0⟩
def Ent.ACTION_TYPE : Entry :=
  ⟨"TYPE", 0xE000, 1024, 0x04, 1, 1, .u8, .rw, (.same (.num 1)), .persistent, .any, 0⟩
def Ent.ACTION_TARGET : Entry :=
  ⟨"TARGET", 0xE000, 1024, 0x05, 1, 1, .u32, .rw, (.same (.num 0)), .persistent, .any, 0⟩
def Ent.ACTION_VALUE : Entry :=
  ⟨"VALUE", 0xE000, 1024, 0x06, 1, 1, .blob, .rw, (.same (.bytes [])), .persistent, .maxLen 64, 64⟩
def Ent.ACTION_ORDER : Entry :=
  ⟨"ORDER", 0xE000, 1024, 0x07, 1, 1, .u8, .rw, (.same (.num 128)), .persistent, .any, 0⟩
def Ent.ACTION_LATE_POLICY : Entry :=
  ⟨"LATE_POLICY", 0xE000, 1024, 0x08, 1, 1, .u8, .rw, (.same (.num 1)), .persistent, (.oneOf [0, 1]), 0⟩
def Ent.ACTION_LATE_WINDOW : Entry :=
  ⟨"LATE_WINDOW", 0xE000, 1024, 0x09, 1, 1, .u32, .rw, (.same (.num 1000)), .persistent, .any, 0⟩
def Ent.ACTION_GROUP_ID : Entry :=
  ⟨"GROUP_ID", 0xE000, 1024, 0x0A, 1, 1, .u16, .rw, (.same (.num 0)), .persistent, .any, 0⟩
def Ent.ACTION_PARTICIPANTS : Entry :=
  ⟨"PARTICIPANTS", 0xE000, 1024, 0x0B, 1, 1, .blob, .rw, (.same (.bytes [])), .persistent, .maxLen 256, 256⟩
def Ent.ACTION_ANNOUNCE_LEAD : Entry :=
  ⟨"ANNOUNCE_LEAD", 0xE000, 1024, 0x0C, 1, 1, .u32, .rw, (.same (.num 10000)), .persistent, .any, 0⟩
def Ent.ACTION_DECIDE_LEAD : Entry :=
  ⟨"DECIDE_LEAD", 0xE000, 1024, 0x0D, 1, 1, .u32, .rw, (.same (.num 2000)), .persistent, .any, 0⟩
def Ent.ACTION_CANCEL_GUARD : Entry :=
  ⟨"CANCEL_GUARD", 0xE000, 1024, 0x0E, 1, 1, .u32, .rw, (.same (.num 500)), .persistent, .any, 0⟩
def Ent.ACTION_RESULT : Entry :=
  ⟨"RESULT", 0xE000, 1024, 0x0F, 1, 1, .u16, .ro, (.same (.num 0)), .persistent, .any, 0⟩
def Ent.ACTION_EXEC_SFN : Entry :=
  ⟨"EXEC_SFN", 0xE000, 1024, 0x10, 1, 1, .u64, .ro, (.same (.num 0)), .persistent, .any, 0⟩

/-! Table 2-9 (02_site_frame.md). -/

def Ent.SITE_TIME : Entry :=
  ⟨"SITE_TIME", 0x1010, 1, 0x01, 1, 1, .time64, .ro, (.same (.bytes (List.replicate 12 0))), .volatile, .any, 0⟩
def Ent.TIME_STATUS : Entry :=
  ⟨"TIME_STATUS", 0x1010, 1, 0x02, 1, 1, .u32, .ro, (.same (.num 0xF80000)), .volatile, .any, 0⟩
def Ent.TIME_SOURCE_MODE : Entry :=
  ⟨"TIME_SOURCE_MODE", 0x1010, 1, 0x03, 1, 1, .u8, .rws, (.same (.num 1)), .persistent, .between 0 2, 0⟩
def Ent.TIME_SET : Entry :=
  ⟨"TIME_SET", 0x1010, 1, 0x04, 1, 1, .time64, .wo, (.same (.bytes (List.replicate 12 0))), .volatile, .time64, 0⟩
def Ent.TAI_UTC_OFFSET : Entry :=
  ⟨"TAI_UTC_OFFSET", 0x1010, 1, 0x05, 1, 1, .i16, .rw, (.same (.num 37)), .persistent, .any, 0⟩
def Ent.LEAP_PENDING : Entry :=
  ⟨"LEAP_PENDING", 0x1010, 1, 0x06, 1, 1, .i16, .rw, (.same (.num 0)), .persistent, .oneOf [(-1), 0, 1], 0⟩
def Ent.EST_TIME_ERROR : Entry :=
  ⟨"EST_TIME_ERROR", 0x1010, 1, 0x07, 1, 1, .u32, .ro, (.same (.num 0)), .volatile, .any, 0⟩
def Ent.HOLDOVER_ERROR_LIMIT : Entry :=
  ⟨"HOLDOVER_ERROR_LIMIT", 0x1010, 1, 0x08, 1, 1, .u32, .rw, (.same (.num 100000)), .persistent, .between 1 10000000, 0⟩
def Ent.REFCLK_STABILITY : Entry :=
  ⟨"REFCLK_STABILITY", 0x1010, 1, 0x09, 1, 1, .u32, .rws, (.same (.num 1000)), .persistent, .between 10 100000, 0⟩
def Ent.PTP_DOMAIN : Entry :=
  ⟨"PTP_DOMAIN", 0x1010, 1, 0x0A, 1, 1, .u8, .rws, (.same (.num 0)), .persistent, .any, 0⟩
def Ent.PTP_PRIORITY1 : Entry :=
  ⟨"PTP_PRIORITY1", 0x1010, 1, 0x0B, 1, 1, .u8, .rws, (.same (.num 128)), .persistent, .any, 0⟩
def Ent.PTP_PRIORITY2 : Entry :=
  ⟨"PTP_PRIORITY2", 0x1010, 1, 0x0C, 1, 1, .u8, .rws, (.same (.num 128)), .persistent, .any, 0⟩
def Ent.CORRECTION_24H : Entry :=
  ⟨"CORRECTION_24H", 0x1010, 1, 0x0D, 1, 1, .u32, .ro, (.same (.num 0)), .volatile, .any, 0⟩
def Ent.ACTIONS_ARMED : Entry :=
  ⟨"ACTIONS_ARMED", 0x1011, 1, 0x01, 1, 1, .u16, .ro, (.same (.num 0)), .volatile, .any, 0⟩
def Ent.GROUP_ACTIONS_ARMED : Entry :=
  ⟨"GROUP_ACTIONS_ARMED", 0x1011, 1, 0x02, 1, 1, .u8, .ro, (.same (.num 0)), .volatile, .any, 0⟩

/-! Table 3-6 (03_die_pair_failover.md). -/

def Ent.SWITCHOVER_COUNT : Entry :=
  ⟨"SWITCHOVER_COUNT", 0xC001, 1, 0x01, 1, 1, .u32, .ro, (.same (.num 0)), .persistent, .any, 0⟩
def Ent.LAST_SWITCHOVER : Entry :=
  ⟨"LAST_SWITCHOVER", 0xC001, 1, 0x02, 1, 1, .record, .ro, (.same (.bytes (List.replicate 16 0))), .persistent, .any, 16⟩
def Ent.SWAP_REQUEST : Entry :=
  ⟨"SWAP_REQUEST", 0xC001, 1, 0x03, 1, 1, .u8, .rw, (.same (.num 0)), .volatile, .between 0 1, 0⟩
def Ent.PREFERRED_DIE : Entry :=
  ⟨"PREFERRED_DIE", 0xC001, 1, 0x04, 1, 1, .u8, .rws, (.same (.num 0)), .persistent, .between 0 1, 0⟩
def Ent.RESYNC_REQUEST : Entry :=
  ⟨"RESYNC_REQUEST", 0xC001, 1, 0x05, 1, 1, .u8, .rw, (.same (.num 0)), .volatile, .between 0 1, 0⟩
def Ent.RESTART_LIMIT : Entry :=
  ⟨"RESTART_LIMIT", 0xC001, 1, 0x06, 1, 1, .u8, .rw, (.same (.num 3)), .persistent, .between 1 10, 0⟩
def Ent.MIRROR_MISS_COUNT : Entry :=
  ⟨"MIRROR_MISS_COUNT", 0xC001, 1, 0x07, 1, 1, .u32, .ro, (.same (.num 0)), .volatile, .any, 0⟩
def Ent.DIVERGENCE_COUNT : Entry :=
  ⟨"DIVERGENCE_COUNT", 0xC001, 1, 0x08, 1, 1, .u32, .ro, (.same (.num 0)), .volatile, .any, 0⟩

/-! Table 4-8 (04_object_dictionary.md). -/

def Ent.CONFIG_SEQUENCE : Entry :=
  ⟨"CONFIG_SEQUENCE", 0x1020, 1, 0x01, 1, 1, .u32, .ro, (.same (.num 0)), .persistent, .any, 0⟩
def Ent.ACTIVE_DIGEST : Entry :=
  ⟨"ACTIVE_DIGEST", 0x1020, 1, 0x02, 1, 1, .u32, .ro, (.same (.num 0)), .volatile, .any, 0⟩
def Ent.SHADOW_DIGEST : Entry :=
  ⟨"SHADOW_DIGEST", 0x1020, 1, 0x03, 1, 1, .u32, .ro, (.same (.num 0)), .volatile, .any, 0⟩
def Ent.SHADOW_DIRTY : Entry :=
  ⟨"SHADOW_DIRTY", 0x1020, 1, 0x04, 1, 1, .bool, .ro, (.same (.num 0)), .volatile, .any, 0⟩
def Ent.SET_SWAP_NOW : Entry :=
  ⟨"SET_SWAP_NOW", 0x1020, 1, 0x05, 1, 1, .u8, .rw, (.same (.num 0)), .volatile, .between 0 1, 0⟩
def Ent.SHADOW_COPY : Entry :=
  ⟨"SHADOW_COPY", 0x1020, 1, 0x06, 1, 1, .u8, .rw, (.same (.num 0)), .volatile, .between 0 1, 0⟩
def Ent.SHADOW_DEFAULTS : Entry :=
  ⟨"SHADOW_DEFAULTS", 0x1020, 1, 0x07, 1, 1, .u8, .rw, (.same (.num 0)), .volatile, .between 0 1, 0⟩
def Ent.LAST_SWAP : Entry :=
  ⟨"LAST_SWAP", 0x1020, 1, 0x08, 1, 1, .time64, .ro, (.same (.bytes (List.replicate 12 0))), .persistent, .any, 0⟩
def Ent.SWAP_REFUSED_ENTRY : Entry :=
  ⟨"SWAP_REFUSED_ENTRY", 0x1020, 1, 0x09, 1, 1, .u32, .ro, (.same (.num 0)), .volatile, .any, 0⟩
def Ent.SWAP_REFUSED_STATUS : Entry :=
  ⟨"SWAP_REFUSED_STATUS", 0x1020, 1, 0x0A, 1, 1, .u16, .ro, (.same (.num 0)), .volatile, .any, 0⟩
def Ent.TAGS_IN_USE : Entry :=
  ⟨"TAGS_IN_USE", 0x1030, 1, 0x01, 1, 1, .u16, .ro, (.same (.num 0)), .volatile, .any, 0⟩
def Ent.TAGS_HIGH_WATER : Entry :=
  ⟨"TAGS_HIGH_WATER", 0x1030, 1, 0x02, 1, 1, .u16, .ro, (.same (.num 0)), .volatile, .any, 0⟩
def Ent.BUSY_REFUSALS : Entry :=
  ⟨"BUSY_REFUSALS", 0x1030, 1, 0x03, 1, 1, .u32, .ro, (.same (.num 0)), .volatile, .any, 0⟩
def Ent.CLIENT_CONNECTIONS : Entry :=
  ⟨"CLIENT_CONNECTIONS", 0x1030, 1, 0x04, 1, 1, .u8, .ro, (.same (.num 0)), .volatile, .any, 0⟩
def Ent.DICT_PORT : Entry :=
  ⟨"DICT_PORT", 0x1030, 1, 0x05, 1, 1, .u16, .rws, (.same (.num 4847)), .persistent, .between 1024 65535, 0⟩
def Ent.SEGMENT_TIMEOUT : Entry :=
  ⟨"SEGMENT_TIMEOUT", 0x1030, 1, 0x06, 1, 1, .u16, .rw, (.same (.num 1000)), .persistent, .between 100 10000, 0⟩
def Ent.REPLAY_WINDOW : Entry :=
  ⟨"REPLAY_WINDOW", 0x1030, 1, 0x07, 1, 1, .u16, .rw, (.same (.num 10)), .persistent, .between 1 600, 0⟩
def Ent.PEER_ADDRESS : Entry :=
  ⟨"PEER_ADDRESS", 0x1040, 32, 0x01, 1, 1, .str, .rws, (.same (.bytes [])), .persistent, .ipv6, 255⟩
def Ent.PEER_PORT : Entry :=
  ⟨"PEER_PORT", 0x1040, 32, 0x02, 1, 1, .u16, .rws, (.same (.num 4847)), .persistent, .any, 0⟩
def Ent.PEER_ENABLED : Entry :=
  ⟨"PEER_ENABLED", 0x1040, 32, 0x03, 1, 1, .bool, .rws, (.same (.num 0)), .persistent, .any, 0⟩
def Ent.PEER_STATE : Entry :=
  ⟨"PEER_STATE", 0x1040, 32, 0x04, 1, 1, .u8, .ro, (.same (.num 0)), .volatile, .any, 0⟩
def Ent.EVENT_LOG_NEWEST : Entry :=
  ⟨"EVENT_LOG_NEWEST", 0xC100, 1, 0x01, 1, 1, .u32, .ro, (.same (.num 0)), .persistent, .any, 0⟩
def Ent.EVENT_LOG_OLDEST : Entry :=
  ⟨"EVENT_LOG_OLDEST", 0xC100, 1, 0x02, 1, 1, .u32, .ro, (.same (.num 0)), .persistent, .any, 0⟩
def Ent.EVENT_LOG_CAPACITY : Entry :=
  ⟨"EVENT_LOG_CAPACITY", 0xC100, 1, 0x03, 1, 1, .u32, .ro, (.same (.num 262144)), .volatile, .any, 0⟩
def Ent.EVENT_LOG_OVERWRITTEN : Entry :=
  ⟨"EVENT_LOG_OVERWRITTEN", 0xC100, 1, 0x04, 1, 1, .u32, .ro, (.same (.num 0)), .persistent, .any, 0⟩

/-! Table 5-6 (05_power_allocator.md). -/

def Ent.GRID_IMPORT_LIMIT : Entry :=
  ⟨"GRID_IMPORT_LIMIT", 0x2000, 1, 0x01, 1, 1, .u32, .rws, (.same (.num 24000000)), .persistent, .between 0 24000000, 0⟩
def Ent.GRID_EXPORT_LIMIT : Entry :=
  ⟨"GRID_EXPORT_LIMIT", 0x2000, 1, 0x02, 1, 1, .u32, .rws, (.same (.num 0)), .persistent, .between 0 24000000, 0⟩
def Ent.GRID_IMPORT_TARGET : Entry :=
  ⟨"GRID_IMPORT_TARGET", 0x2000, 1, 0x03, 1, 1, .u32, .rw, (.same (.num 24000000)), .persistent, .between 0 24000000, 0⟩
def Ent.GRID_EXPORT_TARGET : Entry :=
  ⟨"GRID_EXPORT_TARGET", 0x2000, 1, 0x04, 1, 1, .u32, .rw, (.same (.num 0)), .persistent, .between 0 24000000, 0⟩
def Ent.MISMATCH_RESERVE : Entry :=
  ⟨"MISMATCH_RESERVE", 0x2000, 1, 0x05, 1, 1, .u32, .rws, (.same (.num 500000)), .persistent, .between 0 4000000, 0⟩
def Ent.MODULE_LOSS_ALLOWANCE : Entry :=
  ⟨"MODULE_LOSS_ALLOWANCE", 0x2000, 1, 0x06, 1, 1, .u16, .rws, (.same (.num 25)), .persistent, .between 0 100, 0⟩
def Ent.STRING_RAMP_RATE : Entry :=
  ⟨"STRING_RAMP_RATE", 0x2000, 1, 0x07, 1, 1, .u32, .rws, (.same (.num 100000)), .persistent, .between 10000 250000, 0⟩
def Ent.STORE_CHARGE_LIMIT : Entry :=
  ⟨"STORE_CHARGE_LIMIT", 0x2000, 1, 0x08, 1, 1, .u32, .rw, (.same (.num 8000000)), .persistent, .between 0 8000000, 0⟩
def Ent.MODULE_RAMP_FRAMES : Entry :=
  ⟨"MODULE_RAMP_FRAMES", 0x2000, 1, 0x09, 1, 1, .u8, .rws, (.same (.num 20)), .persistent, .between 20 200, 0⟩
def Ent.MOVE_HOLDOFF : Entry :=
  ⟨"MOVE_HOLDOFF", 0x2000, 1, 0x0A, 1, 1, .u16, .rws, (.same (.num 20)), .persistent, .between 0 1000, 0⟩
def Ent.MOVE_MIN_GAIN : Entry :=
  ⟨"MOVE_MIN_GAIN", 0x2000, 1, 0x0B, 1, 1, .u32, .rws, (.same (.num 200000)), .persistent, .between 0 3750000, 0⟩
def Ent.MAX_CONCURRENT_MOVES : Entry :=
  ⟨"MAX_CONCURRENT_MOVES", 0x2000, 1, 0x0C, 1, 1, .u8, .rws, (.same (.num 8)), .persistent, .between 1 16, 0⟩
def Ent.ACK_MISS_LIMIT : Entry :=
  ⟨"ACK_MISS_LIMIT", 0x2000, 1, 0x0D, 1, 1, .u8, .rws, (.same (.num 10)), .persistent, .between 3 100, 0⟩
def Ent.ALLOC_STATUS : Entry :=
  ⟨"ALLOC_STATUS", 0x2000, 1, 0x0E, 1, 1, .u32, .ro, (.same (.num 0)), .volatile, .any, 0⟩
def Ent.ALLOC_COMPUTE_LAST : Entry :=
  ⟨"ALLOC_COMPUTE_LAST", 0x2000, 1, 0x0F, 1, 1, .u16, .ro, (.same (.num 0)), .volatile, .any, 0⟩
def Ent.ALLOC_COMPUTE_MAX : Entry :=
  ⟨"ALLOC_COMPUTE_MAX", 0x2000, 1, 0x10, 1, 1, .u16, .ro, (.same (.num 0)), .volatile, .any, 0⟩
def Ent.SITE_DEMAND : Entry :=
  ⟨"SITE_DEMAND", 0x2000, 1, 0x11, 1, 1, .u32, .ro, (.same (.num 0)), .volatile, .any, 0⟩
def Ent.SITE_SUPPLY : Entry :=
  ⟨"SITE_SUPPLY", 0x2000, 1, 0x12, 1, 1, .u32, .ro, (.same (.num 0)), .volatile, .any, 0⟩
def Ent.SITE_GRANTED : Entry :=
  ⟨"SITE_GRANTED", 0x2000, 1, 0x13, 1, 1, .u32, .ro, (.same (.num 0)), .volatile, .any, 0⟩
def Ent.WITHHELD_COUNT : Entry :=
  ⟨"WITHHELD_COUNT", 0x2000, 1, 0x14, 1, 1, .u32, .ro, (.same (.num 0)), .volatile, .any, 0⟩
def Ent.LAST_PUBLISH_SFN : Entry :=
  ⟨"LAST_PUBLISH_SFN", 0x2000, 1, 0x15, 1, 1, .u64, .ro, (.same (.num 0)), .volatile, .any, 0⟩
def Ent.STRING_GRANT : Entry :=
  ⟨"STRING_GRANT", 0x2010, 1, 0x01, 8, 1, .i32, .ro, (.same (.num 0)), .volatile, .any, 0⟩

/-! Table 5-7 (05_power_allocator.md). -/

def Ent.CLASS : Entry :=
  ⟨"CLASS", 0x2100, 8, 0x20, 1, 1, .u8, .rw, (.same (.num 2)), .volatile, .between 0 3, 0⟩
def Ent.WEIGHT : Entry :=
  ⟨"WEIGHT", 0x2100, 8, 0x21, 1, 1, .u8, .rws, (.same (.num 16)), .persistent, .between 1 255, 0⟩
def Ent.OUTLET_POWER_LIMIT : Entry :=
  ⟨"OUTLET_POWER_LIMIT", 0x2100, 8, 0x22, 1, 1, .u32, .rws, (.same (.num 3750000)), .persistent, .between 0 3750000, 0⟩
def Ent.REQUEST_POWER : Entry :=
  ⟨"REQUEST_POWER", 0x2100, 8, 0x23, 1, 1, .i32, .ro, (.same (.num 0)), .volatile, .any, 0⟩
def Ent.CEILING : Entry :=
  ⟨"CEILING", 0x2100, 8, 0x24, 1, 1, .i32, .ro, (.same (.num 0)), .volatile, .any, 0⟩
def Ent.GRANT : Entry :=
  ⟨"GRANT", 0x2100, 8, 0x25, 1, 1, .i32, .ro, (.same (.num 0)), .volatile, .any, 0⟩
def Ent.LIMITED_BY : Entry :=
  ⟨"LIMITED_BY", 0x2100, 8, 0x26, 1, 1, .u8, .ro, (.same (.num 0)), .volatile, .any, 0⟩
def Ent.MODULES_ASSIGNED : Entry :=
  ⟨"MODULES_ASSIGNED", 0x2100, 8, 0x27, 1, 1, .u64, .ro, (.same (.num 0)), .volatile, .any, 0⟩
def Ent.REACH_MASK : Entry :=
  ⟨"REACH_MASK", 0x2200, 64, 0x20, 1, 1, .u8, .rws, (.same (.num 0)), .persistent, .any, 0⟩
def Ent.MODULE_ENABLE : Entry :=
  ⟨"MODULE_ENABLE", 0x2200, 64, 0x21, 1, 1, .bool, .rw, (.same (.num 1)), .persistent, .any, 0⟩
def Ent.MODULE_STATE : Entry :=
  ⟨"MODULE_STATE", 0x2200, 64, 0x22, 1, 1, .u8, .ro, (.same (.num 0)), .volatile, .any, 0⟩
def Ent.ASSIGNED_OUTLET : Entry :=
  ⟨"ASSIGNED_OUTLET", 0x2200, 64, 0x23, 1, 1, .u8, .ro, (.same (.num 255)), .volatile, .any, 0⟩
def Ent.MODULE_GRANT : Entry :=
  ⟨"MODULE_GRANT", 0x2200, 64, 0x24, 1, 1, .i32, .ro, (.same (.num 0)), .volatile, .any, 0⟩
def Ent.ACK_SFN : Entry :=
  ⟨"ACK_SFN", 0x2200, 64, 0x25, 1, 1, .u64, .ro, (.same (.num 0)), .volatile, .any, 0⟩
def Ent.ACK_MISS : Entry :=
  ⟨"ACK_MISS", 0x2200, 64, 0x26, 1, 1, .u8, .ro, (.same (.num 0)), .volatile, .any, 0⟩
def Ent.FE_HARD_CAP_IMPORT : Entry :=
  ⟨"FE_HARD_CAP_IMPORT", 0x2300, 16, 0x20, 1, 1, .u32, .rws, (.same (.num 1500000)), .persistent, .between 0 1500000, 0⟩
def Ent.FE_HARD_CAP_EXPORT : Entry :=
  ⟨"FE_HARD_CAP_EXPORT", 0x2300, 16, 0x21, 1, 1, .u32, .rws, (.same (.num 0)), .persistent, .between 0 1500000, 0⟩
def Ent.FE_ENABLE : Entry :=
  ⟨"FE_ENABLE", 0x2300, 16, 0x22, 1, 1, .bool, .rw, (.same (.num 1)), .persistent, .any, 0⟩
def Ent.FE_STATE : Entry :=
  ⟨"FE_STATE", 0x2300, 16, 0x23, 1, 1, .u8, .ro, (.same (.num 0)), .volatile, .any, 0⟩
def Ent.FE_GRANT : Entry :=
  ⟨"FE_GRANT", 0x2300, 16, 0x24, 1, 1, .i32, .ro, (.same (.num 0)), .volatile, .any, 0⟩
def Ent.FE_CAP_CONFIRMED : Entry :=
  ⟨"FE_CAP_CONFIRMED", 0x2300, 16, 0x25, 1, 1, .u32, .ro, (.same (.num 0)), .volatile, .any, 0⟩

/-! Table 6-11 (06_module_bus.md). -/

def Ent.BITRATE_NOMINAL : Entry :=
  ⟨"BITRATE_NOMINAL", 0xA100, 4, 0x01, 1, 1, .u32, .rws, (.same (.num 1000000)), .persistent, .oneOf [500000, 1000000], 0⟩
def Ent.BITRATE_DATA : Entry :=
  ⟨"BITRATE_DATA", 0xA100, 4, 0x02, 1, 1, .u32, .rws, (.same (.num 8000000)), .persistent, .oneOf [2000000, 4000000, 5000000, 8000000], 0⟩
def Ent.SAMPLE_POINT_NOMINAL : Entry :=
  ⟨"SAMPLE_POINT_NOMINAL", 0xA100, 4, 0x03, 1, 1, .u16, .rws, (.same (.num 800)), .persistent, .between 750 875, 0⟩
def Ent.SAMPLE_POINT_DATA : Entry :=
  ⟨"SAMPLE_POINT_DATA", 0xA100, 4, 0x04, 1, 1, .u16, .rws, (.same (.num 800)), .persistent, .between 600 800, 0⟩
def Ent.CHANNEL_ENABLE : Entry :=
  ⟨"CHANNEL_ENABLE", 0xA100, 4, 0x05, 1, 1, .bool, .rws, (.same (.num 1)), .persistent, .any, 0⟩
def Ent.STATUS_DIVIDER : Entry :=
  ⟨"STATUS_DIVIDER", 0xA100, 4, 0x06, 1, 1, .u8, .rws, (.same (.num 4)), .persistent, .between 1 8, 0⟩
def Ent.BUSOFF_HOLD : Entry :=
  ⟨"BUSOFF_HOLD", 0xA100, 4, 0x07, 1, 1, .u16, .rw, (.same (.num 1000)), .persistent, .between 100 60000, 0⟩
def Ent.CHANNEL_STATE : Entry :=
  ⟨"CHANNEL_STATE", 0xA100, 4, 0x08, 1, 1, .u8, .ro, (.same (.num 0)), .volatile, .any, 0⟩
def Ent.TX_ERROR_COUNT : Entry :=
  ⟨"TX_ERROR_COUNT", 0xA100, 4, 0x09, 1, 1, .u8, .ro, (.same (.num 0)), .volatile, .any, 0⟩
def Ent.RX_ERROR_COUNT : Entry :=
  ⟨"RX_ERROR_COUNT", 0xA100, 4, 0x0A, 1, 1, .u8, .ro, (.same (.num 0)), .volatile, .any, 0⟩
def Ent.BUSOFF_COUNT : Entry :=
  ⟨"BUSOFF_COUNT", 0xA100, 4, 0x0B, 1, 1, .u32, .ro, (.same (.num 0)), .volatile, .any, 0⟩
def Ent.RX_OVERFLOW : Entry :=
  ⟨"RX_OVERFLOW", 0xA100, 4, 0x0C, 1, 1, .u32, .ro, (.same (.num 0)), .volatile, .any, 0⟩
def Ent.RX_IGNORED : Entry :=
  ⟨"RX_IGNORED", 0xA100, 4, 0x0D, 1, 1, .u32, .ro, (.same (.num 0)), .volatile, .any, 0⟩
def Ent.TX_DROPPED : Entry :=
  ⟨"TX_DROPPED", 0xA100, 4, 0x0E, 1, 1, .u32, .ro, (.same (.num 0)), .volatile, .any, 0⟩
def Ent.BUS_LOAD : Entry :=
  ⟨"BUS_LOAD", 0xA100, 4, 0x0F, 1, 1, .u8, .ro, (.same (.num 0)), .volatile, .any, 0⟩

/-! Table 6-12 (06_module_bus.md). -/

def Ent.MODULE_BUS_CHANNEL : Entry :=
  ⟨"BUS_CHANNEL", 0x2200, 64, 0x30, 1, 1, .u8, .rws, (.same (.num 255)), .persistent, .any, 0⟩
def Ent.FE_BUS_CHANNEL : Entry :=
  ⟨"BUS_CHANNEL", 0x2300, 16, 0x30, 1, 1, .u8, .rws, (.same (.num 255)), .persistent, .any, 0⟩
def Ent.MODULE_BUS_NODE : Entry :=
  ⟨"BUS_NODE", 0x2200, 64, 0x31, 1, 1, .u8, .rws, (.same (.num 255)), .persistent, .any, 0⟩
def Ent.FE_BUS_NODE : Entry :=
  ⟨"BUS_NODE", 0x2300, 16, 0x31, 1, 1, .u8, .rws, (.same (.num 255)), .persistent, .any, 0⟩
def Ent.MODULE_BUS_ALT_CHANNEL : Entry :=
  ⟨"BUS_ALT_CHANNEL", 0x2200, 64, 0x32, 1, 1, .u8, .rws, (.same (.num 255)), .persistent, .any, 0⟩
def Ent.FE_BUS_ALT_CHANNEL : Entry :=
  ⟨"BUS_ALT_CHANNEL", 0x2300, 16, 0x32, 1, 1, .u8, .rws, (.same (.num 255)), .persistent, .any, 0⟩
def Ent.MODULE_BUS_ALT_NODE : Entry :=
  ⟨"BUS_ALT_NODE", 0x2200, 64, 0x33, 1, 1, .u8, .rws, (.same (.num 255)), .persistent, .any, 0⟩
def Ent.FE_BUS_ALT_NODE : Entry :=
  ⟨"BUS_ALT_NODE", 0x2300, 16, 0x33, 1, 1, .u8, .rws, (.same (.num 255)), .persistent, .any, 0⟩
def Ent.MODULE_BUS_IN_USE : Entry :=
  ⟨"BUS_IN_USE", 0x2200, 64, 0x34, 1, 1, .u8, .ro, (.same (.num 255)), .volatile, .any, 0⟩
def Ent.FE_BUS_IN_USE : Entry :=
  ⟨"BUS_IN_USE", 0x2300, 16, 0x34, 1, 1, .u8, .ro, (.same (.num 255)), .volatile, .any, 0⟩
def Ent.MODULE_LAST_STATUS_SFN : Entry :=
  ⟨"LAST_STATUS_SFN", 0x2200, 64, 0x35, 1, 1, .u64, .ro, (.same (.num 0)), .volatile, .any, 0⟩
def Ent.FE_LAST_STATUS_SFN : Entry :=
  ⟨"LAST_STATUS_SFN", 0x2300, 16, 0x35, 1, 1, .u64, .ro, (.same (.num 0)), .volatile, .any, 0⟩
def Ent.MODULE_UNIT_FAULT : Entry :=
  ⟨"UNIT_FAULT", 0x2200, 64, 0x36, 1, 1, .u16, .ro, (.same (.num 0)), .volatile, .any, 0⟩
def Ent.FE_UNIT_FAULT : Entry :=
  ⟨"UNIT_FAULT", 0x2300, 16, 0x36, 1, 1, .u16, .ro, (.same (.num 0)), .volatile, .any, 0⟩
def Ent.MODULE_UNIT_TEST : Entry :=
  ⟨"UNIT_TEST", 0x2200, 64, 0x37, 1, 1, .u8, .wo, (.same (.num 0)), .volatile, .oneOf [1], 0⟩
def Ent.FE_UNIT_TEST : Entry :=
  ⟨"UNIT_TEST", 0x2300, 16, 0x37, 1, 1, .u8, .wo, (.same (.num 0)), .volatile, .oneOf [1], 0⟩
def Ent.MODULE_UNIT_TEST_RESULT : Entry :=
  ⟨"UNIT_TEST_RESULT", 0x2200, 64, 0x38, 1, 1, .u16, .ro, (.same (.num 0)), .volatile, .any, 0⟩
def Ent.FE_UNIT_TEST_RESULT : Entry :=
  ⟨"UNIT_TEST_RESULT", 0x2300, 16, 0x38, 1, 1, .u16, .ro, (.same (.num 0)), .volatile, .any, 0⟩

/-! Table 7-1 (07_vessel_sessions.md). -/

def Ent.OUTLET_ENABLE : Entry :=
  ⟨"OUTLET_ENABLE", 0x2100, 8, 0x01, 1, 1, .bool, .rw, (.same (.num 0)), .persistent, .any, 0⟩
def Ent.CONTACTOR_CHANNEL : Entry :=
  ⟨"CONTACTOR_CHANNEL", 0x2100, 8, 0x02, 1, 1, .u8, .rws, (.same (.num 255)), .persistent, .betweenOr 0 39 255, 0⟩
def Ent.LOCK_CHANNEL : Entry :=
  ⟨"LOCK_CHANNEL", 0x2100, 8, 0x03, 1, 1, .u8, .rws, (.same (.num 255)), .persistent, .betweenOr 0 39 255, 0⟩
def Ent.CONFIRM_MCH : Entry :=
  ⟨"CONFIRM_MCH", 0x2100, 8, 0x04, 1, 1, .u8, .rws, (.same (.num 255)), .persistent, .betweenOr 0 95 255, 0⟩
def Ent.VOLTAGE_MCH : Entry :=
  ⟨"VOLTAGE_MCH", 0x2100, 8, 0x05, 1, 1, .u8, .rws, (.same (.num 255)), .persistent, .betweenOr 0 95 255, 0⟩
def Ent.CURRENT_MCH : Entry :=
  ⟨"CURRENT_MCH", 0x2100, 8, 0x06, 1, 1, .u8, .rws, (.same (.num 255)), .persistent, .betweenOr 0 95 255, 0⟩
def Ent.IMD_MCH : Entry :=
  ⟨"IMD_MCH", 0x2100, 8, 0x07, 1, 1, .u8, .rws, (.same (.num 255)), .persistent, .betweenOr 0 95 255, 0⟩
def Ent.SESSION_TCP_PORT : Entry :=
  ⟨"SESSION_TCP_PORT", 0x2100, 8, 0x08, 1, 1, .u16, .rws, (.rising 50000 1), .persistent, .between 49152 65535, 0⟩

/-! Table 7-9 (07_vessel_sessions.md). -/

def Ent.SESSION_STATE : Entry :=
  ⟨"SESSION_STATE", 0x3000, 8, 0x01, 1, 1, .u8, .ro, (.same (.num 0)), .volatile, .any, 0⟩
def Ent.SESSION_NUMBER : Entry :=
  ⟨"SESSION_NUMBER", 0x3000, 8, 0x02, 1, 1, .u32, .ro, (.same (.num 0)), .volatile, .any, 0⟩
def Ent.STOP_REQUEST : Entry :=
  ⟨"STOP_REQUEST", 0x3000, 8, 0x03, 1, 1, .u8, .wo, (.same (.num 0)), .volatile, .between 1 2, 0⟩
def Ent.AUTH_KIND : Entry :=
  ⟨"AUTH_KIND", 0x3000, 8, 0x04, 1, 1, .u8, .ro, (.same (.num 0)), .volatile, .any, 0⟩
def Ent.AUTH_IDENTITY : Entry :=
  ⟨"AUTH_IDENTITY", 0x3000, 8, 0x05, 1, 1, .str, .ro, (.same (.bytes [])), .volatile, .any, 255⟩
def Ent.AUTH_RESPONSE : Entry :=
  ⟨"AUTH_RESPONSE", 0x3000, 8, 0x06, 1, 1, .record, .wo, (.same (.bytes (List.replicate 8 0))), .volatile, .any, 8⟩
def Ent.EIM_TOKEN : Entry :=
  ⟨"EIM_TOKEN", 0x3000, 8, 0x07, 1, 1, .str, .wo, (.same (.bytes [])), .volatile, .any, 255⟩
def Ent.CONTROL_MODE : Entry :=
  ⟨"CONTROL_MODE", 0x3000, 8, 0x08, 1, 1, .u8, .ro, (.same (.num 0)), .volatile, .any, 0⟩
def Ent.SERVICE : Entry :=
  ⟨"SERVICE", 0x3000, 8, 0x09, 1, 1, .u8, .ro, (.same (.num 0)), .volatile, .any, 0⟩
def Ent.EV_MAX_POWER : Entry :=
  ⟨"EV_MAX_POWER", 0x3000, 8, 0x0A, 1, 1, .u32, .ro, (.same (.num 0)), .volatile, .any, 0⟩
def Ent.EV_MAX_CURRENT : Entry :=
  ⟨"EV_MAX_CURRENT", 0x3000, 8, 0x0B, 1, 1, .u16, .ro, (.same (.num 0)), .volatile, .any, 0⟩
def Ent.EV_MAX_VOLTAGE : Entry :=
  ⟨"EV_MAX_VOLTAGE", 0x3000, 8, 0x0C, 1, 1, .u16, .ro, (.same (.num 0)), .volatile, .any, 0⟩
def Ent.EV_TARGET_CURRENT : Entry :=
  ⟨"EV_TARGET_CURRENT", 0x3000, 8, 0x0D, 1, 1, .u16, .ro, (.same (.num 0)), .volatile, .any, 0⟩
def Ent.EV_MAX_DISCHARGE_POWER : Entry :=
  ⟨"EV_MAX_DISCHARGE_POWER", 0x3000, 8, 0x0E, 1, 1, .u32, .ro, (.same (.num 0)), .volatile, .any, 0⟩
def Ent.EV_MAX_DISCHARGE_CURRENT : Entry :=
  ⟨"EV_MAX_DISCHARGE_CURRENT", 0x3000, 8, 0x0F, 1, 1, .u16, .ro, (.same (.num 0)), .volatile, .any, 0⟩
def Ent.EV_SOC : Entry :=
  ⟨"EV_SOC", 0x3000, 8, 0x10, 1, 1, .u8, .ro, (.same (.num 255)), .volatile, .any, 0⟩
def Ent.PRESENT_VOLTAGE : Entry :=
  ⟨"PRESENT_VOLTAGE", 0x3000, 8, 0x11, 1, 1, .u16, .ro, (.same (.num 0)), .volatile, .any, 0⟩
def Ent.PRESENT_CURRENT : Entry :=
  ⟨"PRESENT_CURRENT", 0x3000, 8, 0x12, 1, 1, .i16, .ro, (.same (.num 0)), .volatile, .any, 0⟩
def Ent.INSULATION_LAST : Entry :=
  ⟨"INSULATION_LAST", 0x3000, 8, 0x13, 1, 1, .u32, .ro, (.same (.num 0)), .volatile, .any, 0⟩
def Ent.BPT_ENABLE : Entry :=
  ⟨"BPT_ENABLE", 0x3000, 8, 0x14, 1, 1, .bool, .rws, (.same (.num 0)), .persistent, .any, 0⟩
def Ent.OUTLET_FAULT_LATCH : Entry :=
  ⟨"OUTLET_FAULT_LATCH", 0x3000, 8, 0x15, 1, 1, .bool, .rws, (.same (.num 0)), .persistent, .any, 0⟩
def Ent.OUTLET_RESET : Entry :=
  ⟨"OUTLET_RESET", 0x3000, 8, 0x16, 1, 1, .u8, .wo, (.same (.num 0)), .volatile, .oneOf [1], 0⟩
def Ent.LAST_END_REASON : Entry :=
  ⟨"LAST_END_REASON", 0x3000, 8, 0x17, 1, 1, .u8, .ro, (.same (.num 255)), .persistent, .any, 0⟩

/-! Table 7-10 (07_vessel_sessions.md). -/

def Ent.SETUP_TIMEOUT : Entry :=
  ⟨"SETUP_TIMEOUT", 0x3010, 1, 0x01, 1, 1, .u16, .rws, (.same (.num 20000)), .persistent, .between 5000 60000, 0⟩
def Ent.AUTH_TIMEOUT : Entry :=
  ⟨"AUTH_TIMEOUT", 0x3010, 1, 0x02, 1, 1, .u16, .rws, (.same (.num 60)), .persistent, .between 5 600, 0⟩
def Ent.AUTH_OFFLINE_POLICY : Entry :=
  ⟨"AUTH_OFFLINE_POLICY", 0x3010, 1, 0x03, 1, 1, .u8, .rws, (.same (.num 0)), .persistent, .between 0 2, 0⟩
def Ent.AUTH_DEFAULT_CLASS : Entry :=
  ⟨"AUTH_DEFAULT_CLASS", 0x3010, 1, 0x04, 1, 1, .u8, .rws, (.same (.num 2)), .persistent, .between 0 3, 0⟩
def Ent.MODULE_WAIT_TIMEOUT : Entry :=
  ⟨"MODULE_WAIT_TIMEOUT", 0x3010, 1, 0x05, 1, 1, .u16, .rws, (.same (.num 60)), .persistent, .between 5 600, 0⟩
def Ent.CABLE_CHECK_TIMEOUT : Entry :=
  ⟨"CABLE_CHECK_TIMEOUT", 0x3010, 1, 0x06, 1, 1, .u16, .rws, (.same (.num 40)), .persistent, .between 10 120, 0⟩
def Ent.PRECHARGE_TIMEOUT : Entry :=
  ⟨"PRECHARGE_TIMEOUT", 0x3010, 1, 0x07, 1, 1, .u16, .rws, (.same (.num 10)), .persistent, .between 2 60, 0⟩
def Ent.LOOP_SILENCE_TIMEOUT : Entry :=
  ⟨"LOOP_SILENCE_TIMEOUT", 0x3010, 1, 0x08, 1, 1, .u16, .rws, (.same (.num 2000)), .persistent, .between 500 5000, 0⟩
def Ent.PAUSE_LIMIT : Entry :=
  ⟨"PAUSE_LIMIT", 0x3010, 1, 0x09, 1, 1, .u16, .rws, (.same (.num 0)), .persistent, .between 0 1440, 0⟩
def Ent.STOP_TIMEOUT : Entry :=
  ⟨"STOP_TIMEOUT", 0x3010, 1, 0x0A, 1, 1, .u16, .rws, (.same (.num 500)), .persistent, .between 100 5000, 0⟩
def Ent.FORCED_OPEN_DELAY : Entry :=
  ⟨"FORCED_OPEN_DELAY", 0x3010, 1, 0x0B, 1, 1, .u8, .rws, (.same (.num 30)), .persistent, .between 10 200, 0⟩
def Ent.ISO_WARN : Entry :=
  ⟨"ISO_WARN", 0x3010, 1, 0x0C, 1, 1, .u16, .rws, (.same (.num 500)), .persistent, .between 100 1000, 0⟩
def Ent.ISO_FAULT : Entry :=
  ⟨"ISO_FAULT", 0x3010, 1, 0x0D, 1, 1, .u16, .rws, (.same (.num 100)), .persistent, .between 50 500, 0⟩
def Ent.IMD_FULL_SCALE : Entry :=
  ⟨"IMD_FULL_SCALE", 0x3010, 1, 0x0E, 1, 1, .u32, .rws, (.same (.num 10000)), .persistent, .any, 0⟩
def Ent.CONFIRM_LOW : Entry :=
  ⟨"CONFIRM_LOW", 0x3010, 1, 0x0F, 1, 1, .u16, .rws, (.same (.num 2000)), .persistent, .between 0 5000, 0⟩
def Ent.CONFIRM_HIGH : Entry :=
  ⟨"CONFIRM_HIGH", 0x3010, 1, 0x10, 1, 1, .u16, .rws, (.same (.num 3000)), .persistent, .between 0 5000, 0⟩
def Ent.CONFIRM_OPEN : Entry :=
  ⟨"CONFIRM_OPEN", 0x3010, 1, 0x11, 1, 1, .u16, .rws, (.same (.num 4500)), .persistent, .between 0 5000, 0⟩
def Ent.ESTOP_STATE : Entry :=
  ⟨"ESTOP_STATE", 0x3010, 1, 0x12, 1, 1, .bool, .ro, (.same (.num 0)), .volatile, .any, 0⟩
def Ent.ESTOP_RESET : Entry :=
  ⟨"ESTOP_RESET", 0x3010, 1, 0x13, 1, 1, .u8, .wo, (.same (.num 0)), .volatile, .oneOf [1], 0⟩
def Ent.ESTOP_AUTO_RESET : Entry :=
  ⟨"ESTOP_AUTO_RESET", 0x3010, 1, 0x14, 1, 1, .bool, .rws, (.same (.num 0)), .persistent, .any, 0⟩
def Ent.SESSION_COUNTER : Entry :=
  ⟨"SESSION_COUNTER", 0x3010, 1, 0x15, 1, 1, .u32, .ro, (.same (.num 0)), .persistent, .any, 0⟩
def Ent.SESSION_LOG_NEWEST : Entry :=
  ⟨"SESSION_LOG_NEWEST", 0x3020, 1, 0x01, 1, 1, .u32, .ro, (.same (.num 0)), .persistent, .any, 0⟩
def Ent.SESSION_LOG_OLDEST : Entry :=
  ⟨"SESSION_LOG_OLDEST", 0x3020, 1, 0x02, 1, 1, .u32, .ro, (.same (.num 0)), .persistent, .any, 0⟩
def Ent.SESSION_LOG_SELECT : Entry :=
  ⟨"SESSION_LOG_SELECT", 0x3020, 1, 0x03, 1, 1, .u32, .rw, (.same (.num 0)), .volatile, .any, 0⟩
def Ent.SESSION_LOG_RECORD : Entry :=
  ⟨"SESSION_LOG_RECORD", 0x3020, 1, 0x04, 1, 1, .record, .ro, (.same (.bytes (List.replicate 72 0))), .persistent, .any, 72⟩

/-! Table 8-7 (08_loop_engine_cooling.md). -/

def Ent.LOOP_ENABLE : Entry :=
  ⟨"LOOP_ENABLE", 0x7000, 64, 0x01, 1, 1, .bool, .rws, (.same (.num 0)), .persistent, .any, 0⟩
def Ent.LOOP_DIVIDER : Entry :=
  ⟨"DIVIDER", 0x7000, 64, 0x02, 1, 1, .u8, .rws, (.same (.num 1)), .persistent, .any, 0⟩
def Ent.LOOP_PHASE : Entry :=
  ⟨"PHASE", 0x7000, 64, 0x03, 1, 1, .u8, .rws, (.same (.num 0)), .persistent, .any, 0⟩
def Ent.REF_SOURCE : Entry :=
  ⟨"REF_SOURCE", 0x7000, 64, 0x04, 1, 1, .u32, .rws, (.same (.num 0)), .persistent, .any, 0⟩
def Ent.FB_SOURCE : Entry :=
  ⟨"FB_SOURCE", 0x7000, 64, 0x05, 1, 1, .u32, .rws, (.same (.num 0)), .persistent, .any, 0⟩
def Ent.FF_SOURCE : Entry :=
  ⟨"FF_SOURCE", 0x7000, 64, 0x06, 1, 1, .u32, .rws, (.same (.num 0)), .persistent, .any, 0⟩
def Ent.OUT_TARGET : Entry :=
  ⟨"OUT_TARGET", 0x7000, 64, 0x07, 1, 1, .u32, .rws, (.same (.num 0)), .persistent, .any, 0⟩
def Ent.LOOP_SETPOINT : Entry :=
  ⟨"SETPOINT", 0x7000, 64, 0x08, 1, 1, .f32, .rw, (.same (.num 0)), .persistent, .any, 0⟩
def Ent.LOOP_KP : Entry :=
  ⟨"KP", 0x7000, 64, 0x09, 1, 1, .f32, .rws, (.same (.num 0)), .persistent, .any, 0⟩
def Ent.LOOP_KI : Entry :=
  ⟨"KI", 0x7000, 64, 0x0A, 1, 1, .f32, .rws, (.same (.num 0)), .persistent, .any, 0⟩
def Ent.LOOP_KFF : Entry :=
  ⟨"KFF", 0x7000, 64, 0x0B, 1, 1, .f32, .rws, (.same (.num 0)), .persistent, .any, 0⟩
def Ent.LOOP_OUT_MIN : Entry :=
  ⟨"OUT_MIN", 0x7000, 64, 0x0C, 1, 1, .f32, .rws, (.same (.num 0)), .persistent, .any, 0⟩
def Ent.LOOP_OUT_MAX : Entry :=
  ⟨"OUT_MAX", 0x7000, 64, 0x0D, 1, 1, .f32, .rws, (.same (.num 0)), .persistent, .any, 0⟩
def Ent.SLEW_MAX : Entry :=
  ⟨"SLEW_MAX", 0x7000, 64, 0x0E, 1, 1, .f32, .rws, (.same (.num 0)), .persistent, .fnonneg, 0⟩
def Ent.AW_MODE : Entry :=
  ⟨"AW_MODE", 0x7000, 64, 0x0F, 1, 1, .u8, .rws, (.same (.num 0)), .persistent, .between 0 1, 0⟩
def Ent.KAW : Entry :=
  ⟨"KAW", 0x7000, 64, 0x10, 1, 1, .f32, .rws, (.same (.num 0)), .persistent, .fnonneg, 0⟩
def Ent.SECTION_COUNT : Entry :=
  ⟨"SECTION_COUNT", 0x7000, 64, 0x11, 1, 1, .u8, .rws, (.same (.num 0)), .persistent, .any, 0⟩
def Ent.SWAP_INIT : Entry :=
  ⟨"SWAP_INIT", 0x7000, 64, 0x12, 1, 1, .u8, .rws, (.same (.num 1)), .persistent, .between 0 1, 0⟩
def Ent.LOOP_STATUS : Entry :=
  ⟨"LOOP_STATUS", 0x7000, 64, 0x13, 1, 1, .u32, .ro, (.same (.num 0)), .volatile, .any, 0⟩
def Ent.LOOP_OUTPUT : Entry :=
  ⟨"LOOP_OUTPUT", 0x7000, 64, 0x14, 1, 1, .f32, .ro, (.same (.num 0)), .volatile, .any, 0⟩
def Ent.LOOP_ERROR : Entry :=
  ⟨"LOOP_ERROR", 0x7000, 64, 0x15, 1, 1, .f32, .ro, (.same (.num 0)), .volatile, .any, 0⟩
def Ent.LOOP_INTEGRATOR : Entry :=
  ⟨"LOOP_INTEGRATOR", 0x7000, 64, 0x16, 1, 1, .f32, .ro, (.same (.num 0)), .volatile, .any, 0⟩
def Ent.LOOP_RESET : Entry :=
  ⟨"LOOP_RESET", 0x7000, 64, 0x17, 1, 1, .u8, .wo, (.same (.num 0)), .volatile, .oneOf [1], 0⟩
def Ent.LOOP_B0 : Entry :=
  ⟨"B0", 0x7000, 64, 0x20, 8, 5, .f32, .rws, (.same (.num 1065353216)), .persistent, .any, 0⟩
def Ent.LOOP_B1 : Entry :=
  ⟨"B1", 0x7000, 64, 0x21, 8, 5, .f32, .rws, (.same (.num 0)), .persistent, .any, 0⟩
def Ent.LOOP_B2 : Entry :=
  ⟨"B2", 0x7000, 64, 0x22, 8, 5, .f32, .rws, (.same (.num 0)), .persistent, .any, 0⟩
def Ent.LOOP_A1 : Entry :=
  ⟨"A1", 0x7000, 64, 0x23, 8, 5, .f32, .rws, (.same (.num 0)), .persistent, .any, 0⟩
def Ent.LOOP_A2 : Entry :=
  ⟨"A2", 0x7000, 64, 0x24, 8, 5, .f32, .rws, (.same (.num 0)), .persistent, .any, 0⟩

/-! Table 8-8 (08_loop_engine_cooling.md). -/

def Ent.ENGINE_TIME_LAST : Entry :=
  ⟨"ENGINE_TIME_LAST", 0x7040, 1, 0x01, 1, 1, .u16, .ro, (.same (.num 0)), .volatile, .any, 0⟩
def Ent.ENGINE_TIME_MAX : Entry :=
  ⟨"ENGINE_TIME_MAX", 0x7040, 1, 0x02, 1, 1, .u16, .ro, (.same (.num 0)), .volatile, .any, 0⟩
def Ent.LOOPS_ENABLED : Entry :=
  ⟨"LOOPS_ENABLED", 0x7040, 1, 0x03, 1, 1, .u8, .ro, (.same (.num 0)), .volatile, .any, 0⟩
def Ent.SECTIONS_ENABLED : Entry :=
  ⟨"SECTIONS_ENABLED", 0x7040, 1, 0x04, 1, 1, .u16, .ro, (.same (.num 0)), .volatile, .any, 0⟩
def Ent.COEFF_CRC : Entry :=
  ⟨"COEFF_CRC", 0x7040, 1, 0x05, 1, 1, .u32, .ro, (.same (.num 0)), .volatile, .any, 0⟩

/-! Table 8-9 (08_loop_engine_cooling.md). -/

def Ent.CABLE_R20 : Entry :=
  ⟨"CABLE_R20", 0x2100, 8, 0x40, 1, 1, .f32, .rws, (.same (.num 970045207)), .persistent, .fabove, 0⟩
def Ent.CABLE_ALPHA : Entry :=
  ⟨"CABLE_ALPHA", 0x2100, 8, 0x41, 1, 1, .f32, .rws, (.same (.num 998295355)), .persistent, .fbetween 0 (1 / 100), 0⟩
def Ent.CABLE_C_COND : Entry :=
  ⟨"CABLE_C_COND", 0x2100, 8, 0x42, 1, 1, .f32, .rws, (.same (.num 1157234688)), .persistent, .fabove, 0⟩
def Ent.CABLE_R_CW : Entry :=
  ⟨"CABLE_R_CW", 0x2100, 8, 0x43, 1, 1, .f32, .rws, (.same (.num 1008981770)), .persistent, .fabove, 0⟩
def Ent.CABLE_C_COOL : Entry :=
  ⟨"CABLE_C_COOL", 0x2100, 8, 0x44, 1, 1, .f32, .rws, (.same (.num 1174011904)), .persistent, .fabove, 0⟩
def Ent.CABLE_R_WA : Entry :=
  ⟨"CABLE_R_WA", 0x2100, 8, 0x45, 1, 1, .f32, .rws, (.same (.num 1056964608)), .persistent, .fabove, 0⟩
def Ent.COOLANT_HEAT_CAP : Entry :=
  ⟨"COOLANT_HEAT_CAP", 0x2100, 8, 0x46, 1, 1, .f32, .rws, (.same (.num 1163984896)), .persistent, .fabove, 0⟩
def Ent.CABLE_T_LIMIT : Entry :=
  ⟨"CABLE_T_LIMIT", 0x2100, 8, 0x47, 1, 1, .f32, .rws, (.same (.num 1119092736)), .persistent, .fbetween 40 120, 0⟩
def Ent.CABLE_TRIP_TEMP : Entry :=
  ⟨"CABLE_TRIP_TEMP", 0x2100, 8, 0x48, 1, 1, .f32, .rws, (.same (.num 1120403456)), .persistent, .fbetween 50 150, 0⟩
def Ent.PIN_TRIP_TEMP : Entry :=
  ⟨"PIN_TRIP_TEMP", 0x2100, 8, 0x49, 1, 1, .f32, .rws, (.same (.num 1119092736)), .persistent, .fbetween 50 150, 0⟩
def Ent.CABLE_HORIZON : Entry :=
  ⟨"CABLE_HORIZON", 0x2100, 8, 0x4A, 1, 1, .u16, .rws, (.same (.num 60)), .persistent, .between 5 600, 0⟩
def Ent.CABLE_LIMIT_RISE : Entry :=
  ⟨"CABLE_LIMIT_RISE", 0x2100, 8, 0x4B, 1, 1, .u16, .rws, (.same (.num 100)), .persistent, .between 10 3000, 0⟩
def Ent.OBS_GAIN : Entry :=
  ⟨"OBS_GAIN", 0x2100, 8, 0x4C, 1, 1, .f32, .rws, (.same (.num 1028443341)), .persistent, .fbetween 0 10, 0⟩
def Ent.SUPPLY_TEMP_SOURCE : Entry :=
  ⟨"SUPPLY_TEMP_SOURCE", 0x2100, 8, 0x4D, 1, 1, .u32, .rws, (.same (.num 0)), .persistent, .source [0, 1, 6], 0⟩
def Ent.RETURN_TEMP_SOURCE : Entry :=
  ⟨"RETURN_TEMP_SOURCE", 0x2100, 8, 0x4E, 1, 1, .u32, .rws, (.same (.num 0)), .persistent, .source [0, 1, 6], 0⟩
def Ent.PIN_TEMP_SOURCE : Entry :=
  ⟨"PIN_TEMP_SOURCE", 0x2100, 8, 0x4F, 1, 1, .u32, .rws, (.same (.num 0)), .persistent, .source [0, 1, 6], 0⟩
def Ent.AMBIENT_SOURCE : Entry :=
  ⟨"AMBIENT_SOURCE", 0x2100, 8, 0x50, 1, 1, .u32, .rws, (.same (.num 0)), .persistent, .source [0, 1, 6], 0⟩
def Ent.FLOW_SOURCE : Entry :=
  ⟨"FLOW_SOURCE", 0x2100, 8, 0x51, 1, 1, .u32, .rws, (.same (.num 0)), .persistent, .source [0, 1, 6], 0⟩
def Ent.PUMP_CHANNEL : Entry :=
  ⟨"PUMP_CHANNEL", 0x2100, 8, 0x52, 1, 1, .u8, .rws, (.same (.num 255)), .persistent, .betweenOr 0 39 255, 0⟩
def Ent.FLOW_PER_DUTY : Entry :=
  ⟨"FLOW_PER_DUTY", 0x2100, 8, 0x53, 1, 1, .f32, .rws, (.same (.num 0)), .persistent, .fbetween 0 1000, 0⟩
def Ent.FLOW_MIN : Entry :=
  ⟨"FLOW_MIN", 0x2100, 8, 0x54, 1, 1, .f32, .rws, (.same (.num 1084227584)), .persistent, .fbetween 0 1000, 0⟩
def Ent.SENSOR_MARGIN : Entry :=
  ⟨"SENSOR_MARGIN", 0x2100, 8, 0x55, 1, 1, .f32, .rws, (.same (.num 1092616192)), .persistent, .fbetween 0 40, 0⟩
def Ent.REMOTE_MAX_AGE : Entry :=
  ⟨"REMOTE_MAX_AGE", 0x2100, 8, 0x56, 1, 1, .u16, .rws, (.same (.num 500)), .persistent, .between 100 5000, 0⟩
def Ent.CABLE_STATUS : Entry :=
  ⟨"CABLE_STATUS", 0x2100, 8, 0x57, 1, 1, .u32, .ro, (.same (.num 0)), .volatile, .any, 0⟩
def Ent.T_COND : Entry :=
  ⟨"T_COND", 0x2100, 8, 0x58, 1, 1, .f32, .ro, (.same (.num 0)), .volatile, .any, 0⟩
def Ent.T_COOL : Entry :=
  ⟨"T_COOL", 0x2100, 8, 0x59, 1, 1, .f32, .ro, (.same (.num 0)), .volatile, .any, 0⟩
def Ent.T_COND_PRED : Entry :=
  ⟨"T_COND_PRED", 0x2100, 8, 0x5A, 1, 1, .f32, .ro, (.same (.num 0)), .volatile, .any, 0⟩
def Ent.CABLE_CURRENT_LIMIT : Entry :=
  ⟨"CABLE_CURRENT_LIMIT", 0x2100, 8, 0x5B, 1, 1, .f32, .ro, (.same (.num 0)), .volatile, .any, 0⟩
def Ent.COOLANT_FLOW : Entry :=
  ⟨"COOLANT_FLOW", 0x2100, 8, 0x5C, 1, 1, .f32, .ro, (.same (.num 0)), .volatile, .any, 0⟩
def Ent.T_COND_PEAK : Entry :=
  ⟨"T_COND_PEAK", 0x2100, 8, 0x5D, 1, 1, .f32, .ro, (.same (.num 0)), .volatile, .any, 0⟩

/-! Table 9-4 (09_string_converter.md). -/

def Ent.PHASE_GROUP : Entry :=
  ⟨"PHASE_GROUP", 0x6000, 32, 0x01, 1, 1, .u8, .rws, (.same (.num 255)), .persistent, .betweenOr 0 7 255, 0⟩
def Ent.FIRE_POSITION : Entry :=
  ⟨"FIRE_POSITION", 0x6000, 32, 0x02, 1, 1, .u8, .rws, (.same (.num 0)), .persistent, .between 0 7, 0⟩
def Ent.L_PHASE : Entry :=
  ⟨"L_PHASE", 0x6000, 32, 0x03, 1, 1, .f32, .rws, (.same (.num 970045207)), .persistent, .fbetween (1 / 1000000) (1 / 100), 0⟩
def Ent.PHASE_I_MCH : Entry :=
  ⟨"PHASE_I_MCH", 0x6000, 32, 0x04, 1, 1, .u8, .rws, (.same (.num 255)), .persistent, .betweenOr 0 95 255, 0⟩
def Ent.PHI_SCALE : Entry :=
  ⟨"PHI_SCALE", 0x6000, 32, 0x05, 1, 1, .f32, .rws, (.same (.num 1120403456)), .persistent, .fabove, 0⟩
def Ent.PHI_TRIP : Entry :=
  ⟨"PHI_TRIP", 0x6000, 32, 0x06, 1, 1, .f32, .rws, (.same (.num 1132068864)), .persistent, .any, 0⟩
def Ent.PHASE_STATE : Entry :=
  ⟨"PHASE_STATE", 0x6000, 32, 0x07, 1, 1, .u8, .ro, (.same (.num 0)), .volatile, .any, 0⟩
def Ent.PHASE_CAUSE : Entry :=
  ⟨"PHASE_CAUSE", 0x6000, 32, 0x08, 1, 1, .u8, .ro, (.same (.num 0)), .volatile, .any, 0⟩
def Ent.PHASE_CURRENT : Entry :=
  ⟨"PHASE_CURRENT", 0x6000, 32, 0x09, 1, 1, .f32, .ro, (.same (.num 0)), .volatile, .any, 0⟩
def Ent.PHASE_TRIM : Entry :=
  ⟨"PHASE_TRIM", 0x6000, 32, 0x0A, 1, 1, .f32, .ro, (.same (.num 0)), .volatile, .any, 0⟩
def Ent.FAST_TRIP_COUNT : Entry :=
  ⟨"FAST_TRIP_COUNT", 0x6000, 32, 0x0B, 1, 1, .u32, .ro, (.same (.num 0)), .persistent, .any, 0⟩
def Ent.PHASE_ON_HOURS : Entry :=
  ⟨"PHASE_ON_HOURS", 0x6000, 32, 0x0C, 1, 1, .u32, .ro, (.same (.num 0)), .persistent, .any, 0⟩
def Ent.PHASE_RESET : Entry :=
  ⟨"PHASE_RESET", 0x6000, 32, 0x0D, 1, 1, .u8, .wo, (.same (.num 0)), .volatile, .oneOf [1], 0⟩
def Ent.PHASE_TEST : Entry :=
  ⟨"PHASE_TEST", 0x6000, 32, 0x0E, 1, 1, .u8, .wo, (.same (.num 0)), .volatile, .oneOf [1], 0⟩
def Ent.PHASE_TEST_RESULT : Entry :=
  ⟨"PHASE_TEST_RESULT", 0x6000, 32, 0x0F, 1, 1, .u16, .ro, (.same (.num 0)), .volatile, .any, 0⟩

/-! Table 9-5 (09_string_converter.md). -/

def Ent.GROUP_ENABLE : Entry :=
  ⟨"GROUP_ENABLE", 0x6100, 8, 0x01, 1, 1, .bool, .rws, (.same (.num 0)), .persistent, .any, 0⟩
def Ent.HIGH_SIDE : Entry :=
  ⟨"HIGH_SIDE", 0x6100, 8, 0x02, 1, 1, .u8, .rws, (.same (.num 0)), .persistent, .between 0 1, 0⟩
def Ent.BUS_V_MCH : Entry :=
  ⟨"BUS_V_MCH", 0x6100, 8, 0x03, 1, 1, .u8, .rws, (.same (.num 255)), .persistent, .betweenOr 0 95 255, 0⟩
def Ent.STRING_SIDE_V_MCH : Entry :=
  ⟨"STRING_SIDE_V_MCH", 0x6100, 8, 0x04, 1, 1, .u8, .rws, (.same (.num 255)), .persistent, .betweenOr 0 95 255, 0⟩
def Ent.F_SW : Entry :=
  ⟨"F_SW", 0x6100, 8, 0x05, 1, 1, .u32, .rws, (.same (.num 20000)), .persistent, .between 8000 60000, 0⟩
def Ent.DEAD_TIME : Entry :=
  ⟨"DEAD_TIME", 0x6100, 8, 0x06, 1, 1, .u16, .rws, (.same (.num 200)), .persistent, .between 50 2000, 0⟩
def Ent.MIN_OFF : Entry :=
  ⟨"MIN_OFF", 0x6100, 8, 0x07, 1, 1, .u16, .rws, (.same (.num 2000)), .persistent, .between 500 10000, 0⟩
def Ent.PHASE_I_RATED : Entry :=
  ⟨"PHASE_I_RATED", 0x6100, 8, 0x08, 1, 1, .f32, .rws, (.same (.num 1123680256)), .persistent, .fbetween 1 1000, 0⟩
def Ent.CONV_RATING : Entry :=
  ⟨"CONV_RATING", 0x6100, 8, 0x09, 1, 1, .u32, .rws, (.same (.num 1000000)), .persistent, .between 0 1000000, 0⟩
def Ent.MIN_PHASES : Entry :=
  ⟨"MIN_PHASES", 0x6100, 8, 0x0A, 1, 1, .u8, .rws, (.same (.num 2)), .persistent, .between 1 8, 0⟩
def Ent.SHED_ENABLE : Entry :=
  ⟨"SHED_ENABLE", 0x6100, 8, 0x0B, 1, 1, .bool, .rws, (.same (.num 1)), .persistent, .any, 0⟩
def Ent.ADD_FRACTION : Entry :=
  ⟨"ADD_FRACTION", 0x6100, 8, 0x0C, 1, 1, .u16, .rws, (.same (.num 700)), .persistent, .between 100 1000, 0⟩
def Ent.SHED_FRACTION : Entry :=
  ⟨"SHED_FRACTION", 0x6100, 8, 0x0D, 1, 1, .u16, .rws, (.same (.num 500)), .persistent, .between 0 900, 0⟩
def Ent.SHED_DELAY : Entry :=
  ⟨"SHED_DELAY", 0x6100, 8, 0x0E, 1, 1, .u16, .rws, (.same (.num 20)), .persistent, .between 1 10000, 0⟩
def Ent.READD_RAMP : Entry :=
  ⟨"READD_RAMP", 0x6100, 8, 0x0F, 1, 1, .u8, .rws, (.same (.num 8)), .persistent, .between 1 64, 0⟩
def Ent.STEP_DETECT : Entry :=
  ⟨"STEP_DETECT", 0x6100, 8, 0x10, 1, 1, .u16, .rws, (.same (.num 200)), .persistent, .between 10 1000, 0⟩
def Ent.LL_V0 : Entry :=
  ⟨"LL_V0", 0x6100, 8, 0x11, 1, 1, .f32, .rws, (.same (.num 1153138688)), .persistent, .fbetween 100 2000, 0⟩
def Ent.LL_GAIN : Entry :=
  ⟨"LL_GAIN", 0x6100, 8, 0x12, 1, 1, .f32, .rws, (.same (.num 1187205120)), .persistent, .fbetween 0 1000000, 0⟩
def Ent.LL_DEADBAND : Entry :=
  ⟨"LL_DEADBAND", 0x6100, 8, 0x13, 1, 1, .f32, .rws, (.same (.num 1084227584)), .persistent, .fbetween 0 100, 0⟩
def Ent.BALANCE_GAIN : Entry :=
  ⟨"BALANCE_GAIN", 0x6100, 8, 0x14, 1, 1, .f32, .rws, (.same (.num 1065353216)), .persistent, .fbetween 0 10, 0⟩
def Ent.OVERLOAD_TIME : Entry :=
  ⟨"OVERLOAD_TIME", 0x6100, 8, 0x15, 1, 1, .u16, .rws, (.same (.num 100)), .persistent, .between 10 10000, 0⟩
def Ent.FAST_TRIP_HOLD : Entry :=
  ⟨"FAST_TRIP_HOLD", 0x6100, 8, 0x16, 1, 1, .u16, .rws, (.same (.num 100)), .persistent, .between 10 10000, 0⟩
def Ent.FAST_RETRY_LIMIT : Entry :=
  ⟨"FAST_RETRY_LIMIT", 0x6100, 8, 0x17, 1, 1, .u8, .rws, (.same (.num 3)), .persistent, .between 1 10, 0⟩
def Ent.GROUP_STATUS : Entry :=
  ⟨"GROUP_STATUS", 0x6100, 8, 0x18, 1, 1, .u32, .ro, (.same (.num 0)), .volatile, .any, 0⟩
def Ent.P_CMD : Entry :=
  ⟨"P_CMD", 0x6100, 8, 0x19, 1, 1, .i32, .ro, (.same (.num 0)), .volatile, .any, 0⟩
def Ent.I_REF : Entry :=
  ⟨"I_REF", 0x6100, 8, 0x1A, 1, 1, .f32, .ro, (.same (.num 0)), .volatile, .any, 0⟩
def Ent.T_ON_TICKS : Entry :=
  ⟨"T_ON_TICKS", 0x6100, 8, 0x1B, 1, 1, .u32, .ro, (.same (.num 0)), .volatile, .any, 0⟩
def Ent.SW_FREQ : Entry :=
  ⟨"SW_FREQ", 0x6100, 8, 0x1C, 1, 1, .f32, .ro, (.same (.num 0)), .volatile, .any, 0⟩
def Ent.GROUP_LIMIT_DIS : Entry :=
  ⟨"GROUP_LIMIT_DIS", 0x6100, 8, 0x1D, 1, 1, .u32, .ro, (.same (.num 0)), .volatile, .any, 0⟩
def Ent.GROUP_LIMIT_CHG : Entry :=
  ⟨"GROUP_LIMIT_CHG", 0x6100, 8, 0x1E, 1, 1, .u32, .ro, (.same (.num 0)), .volatile, .any, 0⟩
def Ent.PHASES_ON : Entry :=
  ⟨"PHASES_ON", 0x6100, 8, 0x1F, 1, 1, .u32, .ro, (.same (.num 0)), .volatile, .any, 0⟩
def Ent.GROUP_RESET : Entry :=
  ⟨"GROUP_RESET", 0x6100, 8, 0x20, 1, 1, .u8, .wo, (.same (.num 0)), .volatile, .oneOf [1], 0⟩
def Ent.STEP_COUNT : Entry :=
  ⟨"STEP_COUNT", 0x6100, 8, 0x21, 1, 1, .u32, .ro, (.same (.num 0)), .volatile, .any, 0⟩
def Ent.SHED_COUNT : Entry :=
  ⟨"SHED_COUNT", 0x6100, 8, 0x22, 1, 1, .u32, .ro, (.same (.num 0)), .volatile, .any, 0⟩

/-! Table 10-15 (10_prebex_monitoring.md). -/

def Ent.MONITOR_STATE : Entry :=
  ⟨"MONITOR_STATE", 0x5000, 256, 0x01, 1, 1, .u8, .ro, (.same (.num 0)), .volatile, .any, 0⟩
def Ent.MONITOR_UID : Entry :=
  ⟨"MONITOR_UID", 0x5000, 256, 0x02, 1, 1, .u64, .ro, (.same (.num 0)), .persistent, .any, 0⟩
def Ent.MONITOR_STRING : Entry :=
  ⟨"MONITOR_STRING", 0x5000, 256, 0x03, 1, 1, .u8, .ro, (.same (.num 255)), .persistent, .any, 0⟩
def Ent.POSITION : Entry :=
  ⟨"POSITION", 0x5000, 256, 0x04, 1, 1, .u8, .ro, (.same (.num 255)), .persistent, .any, 0⟩
def Ent.CELL_COUNT : Entry :=
  ⟨"CELL_COUNT", 0x5000, 256, 0x05, 1, 1, .u8, .ro, (.same (.num 0)), .persistent, .any, 0⟩
def Ent.MONITOR_KIND : Entry :=
  ⟨"MONITOR_KIND", 0x5000, 256, 0x06, 1, 1, .u8, .ro, (.same (.num 0)), .persistent, .any, 0⟩
def Ent.MONITOR_FW : Entry :=
  ⟨"MONITOR_FW", 0x5000, 256, 0x07, 1, 1, .u16, .ro, (.same (.num 0)), .persistent, .any, 0⟩
def Ent.MISS_COUNT : Entry :=
  ⟨"MISS_COUNT", 0x5000, 256, 0x08, 1, 1, .u16, .ro, (.same (.num 0)), .volatile, .any, 0⟩
def Ent.LAST_SWEEP_SFN : Entry :=
  ⟨"LAST_SWEEP_SFN", 0x5000, 256, 0x09, 1, 1, .u64, .ro, (.same (.num 0)), .volatile, .any, 0⟩
def Ent.RSSI_0 : Entry :=
  ⟨"RSSI_0", 0x5000, 256, 0x0A, 1, 1, .i16, .ro, (.same (.num 0)), .volatile, .any, 0⟩
def Ent.RSSI_1 : Entry :=
  ⟨"RSSI_1", 0x5000, 256, 0x0B, 1, 1, .i16, .ro, (.same (.num 0)), .volatile, .any, 0⟩
def Ent.STACK_V : Entry :=
  ⟨"STACK_V", 0x5000, 256, 0x0C, 1, 1, .u16, .ro, (.same (.num 0)), .volatile, .any, 0⟩
def Ent.DIAG_CODE : Entry :=
  ⟨"DIAG_CODE", 0x5000, 256, 0x0D, 1, 1, .u8, .ro, (.same (.num 0)), .volatile, .any, 0⟩
def Ent.CELL_FLAGS : Entry :=
  ⟨"CELL_FLAGS", 0x5000, 256, 0x0E, 1, 1, .u32, .ro, (.same (.num 4294967295)), .volatile, .any, 0⟩
def Ent.SUSPECT_WIRES : Entry :=
  ⟨"SUSPECT_WIRES", 0x5000, 256, 0x0F, 1, 1, .u32, .ro, (.same (.num 0)), .volatile, .any, 0⟩
def Ent.WIRE_STATE : Entry :=
  ⟨"WIRE_STATE", 0x5000, 256, 0x10, 1, 1, .u32, .ro, (.same (.num 0)), .persistent, .any, 0⟩
def Ent.BREAK_SFN : Entry :=
  ⟨"BREAK_SFN", 0x5000, 256, 0x11, 1, 1, .u64, .ro, (.same (.num 0)), .persistent, .any, 0⟩
def Ent.ALARM_RESET : Entry :=
  ⟨"ALARM_RESET", 0x5000, 256, 0x12, 1, 1, .u8, .wo, (.same (.num 0)), .volatile, .oneOf [1], 0⟩
def Ent.MONITOR_TEST : Entry :=
  ⟨"MONITOR_TEST", 0x5000, 256, 0x13, 1, 1, .u8, .wo, (.same (.num 0)), .volatile, .oneOf [1], 0⟩
def Ent.MONITOR_TEST_RESULT : Entry :=
  ⟨"MONITOR_TEST_RESULT", 0x5000, 256, 0x14, 1, 1, .u16, .ro, (.same (.num 0)), .volatile, .any, 0⟩
def Ent.CELL_V : Entry :=
  ⟨"CELL_V", 0x5000, 256, 0x20, 16, 1, .u16, .ro, (.same (.num 0)), .volatile, .any, 0⟩
def Ent.TEMP : Entry :=
  ⟨"TEMP", 0x5000, 256, 0x30, 4, 1, .i16, .ro, (.same (.num 0)), .volatile, .any, 0⟩
def Ent.CELL_BOUND : Entry :=
  ⟨"CELL_BOUND", 0x5000, 256, 0x40, 16, 1, .u16, .ro, (.same (.num 0)), .volatile, .any, 0⟩

/-! Table 10-17 (10_prebex_monitoring.md). -/

def Ent.MONITOR_FIRST : Entry :=
  ⟨"MONITOR_FIRST", 0x5100, 8, 0x01, 1, 1, .u8, .rws, (.rising 0 32), .persistent, .any, 0⟩
def Ent.MONITOR_COUNT : Entry :=
  ⟨"MONITOR_COUNT", 0x5100, 8, 0x02, 1, 1, .u8, .rws, (.same (.num 0)), .persistent, .between 0 32, 0⟩
def Ent.ROPE_STATE : Entry :=
  ⟨"ROPE_STATE", 0x5100, 8, 0x03, 1, 1, .u8, .ro, (.same (.num 0)), .volatile, .any, 0⟩
def Ent.SWEEP_STATUS : Entry :=
  ⟨"SWEEP_STATUS", 0x5100, 8, 0x04, 1, 1, .u32, .ro, (.same (.num 0)), .volatile, .any, 0⟩
def Ent.SWEEP_CURRENT : Entry :=
  ⟨"SWEEP_CURRENT", 0x5100, 8, 0x05, 1, 1, .f32, .ro, (.same (.num 0)), .volatile, .any, 0⟩
def Ent.SWEEP_SFN : Entry :=
  ⟨"SWEEP_SFN", 0x5100, 8, 0x06, 1, 1, .u64, .ro, (.same (.num 0)), .volatile, .any, 0⟩
def Ent.PARTIAL_COUNT : Entry :=
  ⟨"PARTIAL_COUNT", 0x5100, 8, 0x07, 1, 1, .u32, .ro, (.same (.num 0)), .volatile, .any, 0⟩
def Ent.CELL_OV_LOCAL : Entry :=
  ⟨"CELL_OV_LOCAL", 0x5100, 8, 0x08, 1, 1, .u16, .rws, (.same (.num 4300)), .persistent, .between 1000 5000, 0⟩
def Ent.CELL_UV_LOCAL : Entry :=
  ⟨"CELL_UV_LOCAL", 0x5100, 8, 0x09, 1, 1, .u16, .rws, (.same (.num 2500)), .persistent, .between 500 4500, 0⟩
def Ent.CELL_OT_LOCAL : Entry :=
  ⟨"CELL_OT_LOCAL", 0x5100, 8, 0x0A, 1, 1, .i16, .rws, (.same (.num 70)), .persistent, .between 20 120, 0⟩
def Ent.MONITOR_LOCK : Entry :=
  ⟨"MONITOR_LOCK", 0x5100, 8, 0x0B, 1, 1, .bool, .rws, (.same (.num 1)), .persistent, .any, 0⟩
def Ent.ACCEPT_REPLACEMENT : Entry :=
  ⟨"ACCEPT_REPLACEMENT", 0x5100, 8, 0x0C, 1, 1, .u8, .wo, (.same (.num 0)), .volatile, .oneOf [1], 0⟩
def Ent.ROPE_REENUMERATE : Entry :=
  ⟨"ROPE_REENUMERATE", 0x5100, 8, 0x0D, 1, 1, .u8, .wo, (.same (.num 0)), .volatile, .oneOf [1], 0⟩
def Ent.CELLS_FITTED : Entry :=
  ⟨"CELLS_FITTED", 0x5100, 8, 0x0E, 1, 1, .u16, .ro, (.same (.num 0)), .volatile, .any, 0⟩

/-! Table 10-18 (10_prebex_monitoring.md). -/

def Ent.NETWORK_ID : Entry :=
  ⟨"NETWORK_ID", 0x5180, 1, 0x01, 1, 1, .u16, .rws, (.same (.num 1)), .persistent, .between 1 65534, 0⟩
def Ent.HOP_MAP : Entry :=
  ⟨"HOP_MAP", 0x5180, 1, 0x02, 1, 1, .u32, .rws, (.same (.num 1048575)), .persistent, .any, 0⟩
def Ent.HOP_MAP_IN_USE : Entry :=
  ⟨"HOP_MAP_IN_USE", 0x5180, 1, 0x03, 1, 1, .u32, .ro, (.same (.num 1048575)), .volatile, .any, 0⟩
def Ent.RF_TX_POWER : Entry :=
  ⟨"RF_TX_POWER", 0x5180, 1, 0x04, 1, 1, .u8, .rws, (.same (.num 10)), .persistent, .between 0 10, 0⟩
def Ent.SAMPLE_START : Entry :=
  ⟨"SAMPLE_START", 0x5180, 1, 0x05, 1, 1, .u8, .rws, (.same (.num 20)), .persistent, .between 16 99, 0⟩
def Ent.AVG_WINDOW : Entry :=
  ⟨"AVG_WINDOW", 0x5180, 1, 0x06, 1, 1, .u8, .rws, (.same (.num 4)), .persistent, .between 1 84, 0⟩
def Ent.BEACON_LOSS_TIMEOUT : Entry :=
  ⟨"BEACON_LOSS_TIMEOUT", 0x5180, 1, 0x07, 1, 1, .u16, .rws, (.same (.num 30)), .persistent, .between 5 300, 0⟩
def Ent.SLEEP_CHECK_PERIOD : Entry :=
  ⟨"SLEEP_CHECK_PERIOD", 0x5180, 1, 0x08, 1, 1, .u16, .rws, (.same (.num 60)), .persistent, .between 10 3600, 0⟩
def Ent.BREAK_DELTA : Entry :=
  ⟨"BREAK_DELTA", 0x5180, 1, 0x09, 1, 1, .u16, .rws, (.same (.num 50)), .persistent, .between 10 500, 0⟩
def Ent.PAIR_TOL : Entry :=
  ⟨"PAIR_TOL", 0x5180, 1, 0x0A, 1, 1, .u16, .rws, (.same (.num 10)), .persistent, .between 1 100, 0⟩
def Ent.STACK_TOL : Entry :=
  ⟨"STACK_TOL", 0x5180, 1, 0x0B, 1, 1, .u16, .rws, (.same (.num 50)), .persistent, .between 10 1000, 0⟩
def Ent.STRING_TOL : Entry :=
  ⟨"STRING_TOL", 0x5180, 1, 0x0C, 1, 1, .u16, .rws, (.same (.num 5000)), .persistent, .between 500 50000, 0⟩
def Ent.RX_OK_0 : Entry :=
  ⟨"RX_OK_0", 0x5180, 1, 0x0D, 1, 1, .u32, .ro, (.same (.num 0)), .volatile, .any, 0⟩
def Ent.RX_OK_1 : Entry :=
  ⟨"RX_OK_1", 0x5180, 1, 0x0E, 1, 1, .u32, .ro, (.same (.num 0)), .volatile, .any, 0⟩
def Ent.RX_CONFLICT : Entry :=
  ⟨"RX_CONFLICT", 0x5180, 1, 0x0F, 1, 1, .u32, .ro, (.same (.num 0)), .volatile, .any, 0⟩

/-! Table 11-5 (11_string_master.md). -/

def Ent.STRING_ENABLE : Entry :=
  ⟨"STRING_ENABLE", 0x4000, 8, 0x01, 1, 1, .bool, .rws, (.same (.num 0)), .persistent, .any, 0⟩
def Ent.STRING_REQUEST : Entry :=
  ⟨"STRING_REQUEST", 0x4000, 8, 0x02, 1, 1, .bool, .rw, (.same (.num 0)), .persistent, .any, 0⟩
def Ent.STRING_STATE : Entry :=
  ⟨"STRING_STATE", 0x4000, 8, 0x03, 1, 1, .u8, .ro, (.same (.num 0)), .volatile, .any, 0⟩
def Ent.POS_CHANNEL : Entry :=
  ⟨"POS_CHANNEL", 0x4000, 8, 0x04, 1, 1, .u8, .rws, (.same (.num 255)), .persistent, .betweenOr 0 39 255, 0⟩
def Ent.NEG_CHANNEL : Entry :=
  ⟨"NEG_CHANNEL", 0x4000, 8, 0x05, 1, 1, .u8, .rws, (.same (.num 255)), .persistent, .betweenOr 0 39 255, 0⟩
def Ent.PRE_CHANNEL : Entry :=
  ⟨"PRE_CHANNEL", 0x4000, 8, 0x06, 1, 1, .u8, .rws, (.same (.num 255)), .persistent, .betweenOr 0 39 255, 0⟩
def Ent.STRING_V_MCH : Entry :=
  ⟨"STRING_V_MCH", 0x4000, 8, 0x07, 1, 1, .u8, .rws, (.same (.num 255)), .persistent, .betweenOr 0 95 255, 0⟩
def Ent.STRING_I_MCH : Entry :=
  ⟨"STRING_I_MCH", 0x4000, 8, 0x08, 1, 1, .u8, .rws, (.same (.num 255)), .persistent, .betweenOr 0 95 255, 0⟩
def Ent.STRING_IMD_MCH : Entry :=
  ⟨"STRING_IMD_MCH", 0x4000, 8, 0x09, 1, 1, .u8, .rws, (.same (.num 255)), .persistent, .betweenOr 0 95 255, 0⟩
def Ent.CELL_V_MAX : Entry :=
  ⟨"CELL_V_MAX", 0x4000, 8, 0x0A, 1, 1, .u16, .rws, (.same (.num 4150)), .persistent, .between 1000 5000, 0⟩
def Ent.CELL_V_MIN : Entry :=
  ⟨"CELL_V_MIN", 0x4000, 8, 0x0B, 1, 1, .u16, .rws, (.same (.num 2900)), .persistent, .between 1000 5000, 0⟩
def Ent.CELL_V_TRIP_HIGH : Entry :=
  ⟨"CELL_V_TRIP_HIGH", 0x4000, 8, 0x0C, 1, 1, .u16, .rws, (.same (.num 4250)), .persistent, .between 1000 5000, 0⟩
def Ent.CELL_V_TRIP_LOW : Entry :=
  ⟨"CELL_V_TRIP_LOW", 0x4000, 8, 0x0D, 1, 1, .u16, .rws, (.same (.num 2700)), .persistent, .between 1000 5000, 0⟩
def Ent.CELL_T_TRIP : Entry :=
  ⟨"CELL_T_TRIP", 0x4000, 8, 0x0E, 1, 1, .i16, .rws, (.same (.num 60)), .persistent, .between 20 120, 0⟩
def Ent.STRING_I_TRIP : Entry :=
  ⟨"STRING_I_TRIP", 0x4000, 8, 0x0F, 1, 1, .f32, .rws, (.same (.num 1153138688)), .persistent, .fbetween 10 5000, 0⟩
def Ent.I_DIS_TABLE : Entry :=
  ⟨"I_DIS_TABLE", 0x4000, 8, 0x10, 1, 1, .blob, .rws, (.same (.bytes [236, 255, 200, 0, 246, 255, 144, 1, 0, 0, 32, 3, 10, 0, 176, 4, 25, 0, 220, 5, 40, 0, 220, 5, 50, 0, 232, 3, 60, 0, 0, 0])), .persistent, .len 32, 32⟩
def Ent.I_CHG_TABLE : Entry :=
  ⟨"I_CHG_TABLE", 0x4000, 8, 0x11, 1, 1, .blob, .rws, (.same (.bytes [236, 255, 0, 0, 246, 255, 0, 0, 0, 0, 100, 0, 10, 0, 244, 1, 25, 0, 176, 4, 40, 0, 176, 4, 50, 0, 88, 2, 60, 0, 0, 0])), .persistent, .len 32, 32⟩
def Ent.R_DEFAULT : Entry :=
  ⟨"R_DEFAULT", 0x4000, 8, 0x12, 1, 1, .f32, .rws, (.same (.num 973279855)), .persistent, .fbetween (1 / 100000) (1 / 10), 0⟩
def Ent.UNKNOWN_MARGIN : Entry :=
  ⟨"UNKNOWN_MARGIN", 0x4000, 8, 0x13, 1, 1, .u16, .rws, (.same (.num 100)), .persistent, .between 0 1000, 0⟩
def Ent.DERATE_FACTOR : Entry :=
  ⟨"DERATE_FACTOR", 0x4000, 8, 0x14, 1, 1, .u16, .rws, (.same (.num 500)), .persistent, .between 0 1000, 0⟩
def Ent.STRING_DERATE : Entry :=
  ⟨"STRING_DERATE", 0x4000, 8, 0x15, 1, 1, .bool, .rw, (.same (.num 0)), .persistent, .any, 0⟩
def Ent.LIMIT_RISE : Entry :=
  ⟨"LIMIT_RISE", 0x4000, 8, 0x16, 1, 1, .u32, .rws, (.same (.num 200000)), .persistent, .between 1000 1000000, 0⟩
def Ent.PRECHARGE_DONE : Entry :=
  ⟨"PRECHARGE_DONE", 0x4000, 8, 0x17, 1, 1, .u16, .rws, (.same (.num 20)), .persistent, .between 5 100, 0⟩
def Ent.PRECHARGE_T_MIN : Entry :=
  ⟨"PRECHARGE_T_MIN", 0x4000, 8, 0x18, 1, 1, .u16, .rws, (.same (.num 20)), .persistent, .between 0 1000, 0⟩
def Ent.PRECHARGE_T_MAX : Entry :=
  ⟨"PRECHARGE_T_MAX", 0x4000, 8, 0x19, 1, 1, .u16, .rws, (.same (.num 2000)), .persistent, .between 100 10000, 0⟩
def Ent.PRECHARGE_ATTEMPTS : Entry :=
  ⟨"PRECHARGE_ATTEMPTS", 0x4000, 8, 0x1A, 1, 1, .u8, .rws, (.same (.num 3)), .persistent, .between 1 10, 0⟩
def Ent.OPEN_CURRENT : Entry :=
  ⟨"OPEN_CURRENT", 0x4000, 8, 0x1B, 1, 1, .f32, .rws, (.same (.num 1092616192)), .persistent, .fbetween 1 100, 0⟩
def Ent.OPEN_TIMEOUT : Entry :=
  ⟨"OPEN_TIMEOUT", 0x4000, 8, 0x1C, 1, 1, .u16, .rws, (.same (.num 100)), .persistent, .between 20 1000, 0⟩
def Ent.WELD_CHECK_TIME : Entry :=
  ⟨"WELD_CHECK_TIME", 0x4000, 8, 0x1D, 1, 1, .u16, .rws, (.same (.num 1000)), .persistent, .between 100 10000, 0⟩
def Ent.STR_ISO_WARN : Entry :=
  ⟨"STR_ISO_WARN", 0x4000, 8, 0x1E, 1, 1, .u16, .rws, (.same (.num 500)), .persistent, .between 50 1000, 0⟩
def Ent.STR_ISO_FAULT : Entry :=
  ⟨"STR_ISO_FAULT", 0x4000, 8, 0x1F, 1, 1, .u16, .rws, (.same (.num 100)), .persistent, .between 50 1000, 0⟩
def Ent.STR_IMD_FULL_SCALE : Entry :=
  ⟨"STR_IMD_FULL_SCALE", 0x4000, 8, 0x20, 1, 1, .u32, .rws, (.same (.num 10000)), .persistent, .any, 0⟩
def Ent.ISO_FAULT_TIME : Entry :=
  ⟨"ISO_FAULT_TIME", 0x4000, 8, 0x21, 1, 1, .u16, .rws, (.same (.num 10)), .persistent, .between 1 600, 0⟩
def Ent.RECONNECT_HOLDOFF : Entry :=
  ⟨"RECONNECT_HOLDOFF", 0x4000, 8, 0x22, 1, 1, .u16, .rws, (.same (.num 10)), .persistent, .between 1 3600, 0⟩
def Ent.STRING_FAILSAFE : Entry :=
  ⟨"STRING_FAILSAFE", 0x4000, 8, 0x23, 1, 1, .u8, .rws, (.same (.num 1)), .persistent, .between 0 1, 0⟩
def Ent.STRING_RESET : Entry :=
  ⟨"STRING_RESET", 0x4000, 8, 0x24, 1, 1, .u8, .wo, (.same (.num 0)), .volatile, .oneOf [1], 0⟩
def Ent.STRING_TEST : Entry :=
  ⟨"STRING_TEST", 0x4000, 8, 0x25, 1, 1, .u8, .wo, (.same (.num 0)), .volatile, .oneOf [1], 0⟩
def Ent.STRING_TEST_RESULT : Entry :=
  ⟨"STRING_TEST_RESULT", 0x4000, 8, 0x26, 1, 1, .u16, .ro, (.same (.num 0)), .volatile, .any, 0⟩
def Ent.STRING_STATUS : Entry :=
  ⟨"STRING_STATUS", 0x4000, 8, 0x27, 1, 1, .u32, .ro, (.same (.num 0)), .volatile, .any, 0⟩
def Ent.STRING_LIMIT_DIS : Entry :=
  ⟨"STRING_LIMIT_DIS", 0x4000, 8, 0x28, 1, 1, .u32, .ro, (.same (.num 0)), .volatile, .any, 0⟩
def Ent.STRING_LIMIT_CHG : Entry :=
  ⟨"STRING_LIMIT_CHG", 0x4000, 8, 0x29, 1, 1, .u32, .ro, (.same (.num 0)), .volatile, .any, 0⟩
def Ent.I_LIMIT_DIS : Entry :=
  ⟨"I_LIMIT_DIS", 0x4000, 8, 0x2A, 1, 1, .f32, .ro, (.same (.num 0)), .volatile, .any, 0⟩
def Ent.I_LIMIT_CHG : Entry :=
  ⟨"I_LIMIT_CHG", 0x4000, 8, 0x2B, 1, 1, .f32, .ro, (.same (.num 0)), .volatile, .any, 0⟩
def Ent.STRING_VOLTAGE : Entry :=
  ⟨"STRING_VOLTAGE", 0x4000, 8, 0x2C, 1, 1, .f32, .ro, (.same (.num 0)), .volatile, .any, 0⟩
def Ent.STRING_CURRENT : Entry :=
  ⟨"STRING_CURRENT", 0x4000, 8, 0x2D, 1, 1, .f32, .ro, (.same (.num 0)), .volatile, .any, 0⟩
def Ent.CONVERTER_SIDE_V : Entry :=
  ⟨"CONVERTER_SIDE_V", 0x4000, 8, 0x2E, 1, 1, .f32, .ro, (.same (.num 0)), .volatile, .any, 0⟩
def Ent.DERATE_CAUSES : Entry :=
  ⟨"DERATE_CAUSES", 0x4000, 8, 0x2F, 1, 1, .u16, .ro, (.same (.num 0)), .volatile, .any, 0⟩
def Ent.LAST_OPEN_CAUSE : Entry :=
  ⟨"LAST_OPEN_CAUSE", 0x4000, 8, 0x30, 1, 1, .u8, .ro, (.same (.num 0)), .persistent, .any, 0⟩
def Ent.LAST_OPEN_SFN : Entry :=
  ⟨"LAST_OPEN_SFN", 0x4000, 8, 0x31, 1, 1, .u64, .ro, (.same (.num 0)), .persistent, .any, 0⟩
def Ent.CONNECT_COUNT : Entry :=
  ⟨"CONNECT_COUNT", 0x4000, 8, 0x32, 1, 1, .u32, .ro, (.same (.num 0)), .persistent, .any, 0⟩
def Ent.INSULATION_STR : Entry :=
  ⟨"INSULATION_STR", 0x4000, 8, 0x33, 1, 1, .u32, .ro, (.same (.num 0)), .volatile, .any, 0⟩

/-! Table 12-4 (12_state_estimation.md). -/

def Ent.OCV_TABLE : Entry :=
  ⟨"OCV_TABLE", 0x4000, 8, 0x40, 1, 1, .blob, .rws, (.same (.bytes ([246, 255, 10, 0, 25, 0, 45, 0] ++ (List.replicate 4 [184, 11, 228, 12, 92, 13, 172, 13, 232, 13, 16, 14, 46, 14, 76, 14, 106, 14, 136, 14, 166, 14, 206, 14, 246, 14, 30, 15, 70, 15, 110, 15, 150, 15, 190, 15, 230, 15, 14, 16, 54, 16]).flatten))), .persistent, .len 176, 176⟩
def Ent.CAP_RATE_TABLE : Entry :=
  ⟨"CAP_RATE_TABLE", 0x4000, 8, 0x41, 1, 1, .blob, .rws, (.same (.bytes [246, 255, 10, 0, 25, 0, 45, 0, 20, 0, 50, 0, 100, 0, 200, 0, 82, 3, 52, 3, 12, 3, 188, 2, 192, 3, 182, 3, 162, 3, 112, 3, 232, 3, 222, 3, 212, 3, 182, 3, 232, 3, 232, 3, 222, 3, 202, 3])), .persistent, .len 48, 48⟩
def Ent.R_TEMP_TABLE : Entry :=
  ⟨"R_TEMP_TABLE", 0x4000, 8, 0x42, 1, 1, .blob, .rws, (.same (.bytes [236, 255, 160, 15, 246, 255, 240, 10, 0, 0, 208, 7, 10, 0, 120, 5, 25, 0, 232, 3, 40, 0, 32, 3, 50, 0, 238, 2, 60, 0, 188, 2])), .persistent, .len 32, 32⟩
def Ent.Q_RATED : Entry :=
  ⟨"Q_RATED", 0x4000, 8, 0x43, 1, 1, .u32, .rws, (.same (.num 280000)), .persistent, .between 1000 2000000, 0⟩
def Ent.TAU1 : Entry :=
  ⟨"TAU1", 0x4000, 8, 0x44, 1, 1, .f32, .rws, (.same (.num 1065353216)), .persistent, .fbetween (1 / 20) 3600, 0⟩
def Ent.TAU2 : Entry :=
  ⟨"TAU2", 0x4000, 8, 0x45, 1, 1, .f32, .rws, (.same (.num 1114636288)), .persistent, .fbetween (1 / 20) 3600, 0⟩
def Ent.CHARGE_EFFICIENCY : Entry :=
  ⟨"CHARGE_EFFICIENCY", 0x4000, 8, 0x46, 1, 1, .u16, .rws, (.same (.num 999)), .persistent, .between 900 1000, 0⟩
def Ent.FUSION_GAIN : Entry :=
  ⟨"FUSION_GAIN", 0x4000, 8, 0x47, 1, 1, .f32, .rws, (.same (.num 990057071)), .persistent, .fbetween 0 (1 / 10), 0⟩
def Ent.CONF_HIGH : Entry :=
  ⟨"CONF_HIGH", 0x4000, 8, 0x48, 1, 1, .u16, .rws, (.same (.num 600)), .persistent, .between 100 1000, 0⟩
def Ent.SLOPE_FULL : Entry :=
  ⟨"SLOPE_FULL", 0x4000, 8, 0x49, 1, 1, .u16, .rws, (.same (.num 10)), .persistent, .between 1 100, 0⟩
def Ent.CORR_LIMIT : Entry :=
  ⟨"CORR_LIMIT", 0x4000, 8, 0x4A, 1, 1, .u16, .rws, (.same (.num 500)), .persistent, .between 50 2000, 0⟩
def Ent.DISAGREE_LIMIT : Entry :=
  ⟨"DISAGREE_LIMIT", 0x4000, 8, 0x4B, 1, 1, .u16, .rws, (.same (.num 800)), .persistent, .between 100 5000, 0⟩
def Ent.DISAGREE_TIME : Entry :=
  ⟨"DISAGREE_TIME", 0x4000, 8, 0x4C, 1, 1, .u16, .rws, (.same (.num 60)), .persistent, .between 5 3600, 0⟩
def Ent.STEP_MIN : Entry :=
  ⟨"STEP_MIN", 0x4000, 8, 0x4D, 1, 1, .f32, .rws, (.same (.num 1112014848)), .persistent, .fbetween 5 1000, 0⟩
def Ent.RLS_FORGET : Entry :=
  ⟨"RLS_FORGET", 0x4000, 8, 0x4E, 1, 1, .f32, .rws, (.same (.num 1065336439)), .persistent, .fbetween (9 / 10) 1, 0⟩
def Ent.CAP_MIN_SWING : Entry :=
  ⟨"CAP_MIN_SWING", 0x4000, 8, 0x4F, 1, 1, .u16, .rws, (.same (.num 4000)), .persistent, .between 1000 9000, 0⟩
def Ent.CAP_GAIN : Entry :=
  ⟨"CAP_GAIN", 0x4000, 8, 0x50, 1, 1, .u16, .rws, (.same (.num 100)), .persistent, .between 1 1000, 0⟩
def Ent.REST_TIME : Entry :=
  ⟨"REST_TIME", 0x4000, 8, 0x51, 1, 1, .u16, .rws, (.same (.num 3600)), .persistent, .between 60 86400, 0⟩
def Ent.BALANCE_ENABLE : Entry :=
  ⟨"BALANCE_ENABLE", 0x4000, 8, 0x52, 1, 1, .bool, .rws, (.same (.num 0)), .persistent, .any, 0⟩
def Ent.BALANCE_MODE : Entry :=
  ⟨"BALANCE_MODE", 0x4000, 8, 0x53, 1, 1, .u8, .rws, (.same (.num 0)), .persistent, .between 0 1, 0⟩
def Ent.BALANCE_AH_MIN : Entry :=
  ⟨"BALANCE_AH_MIN", 0x4000, 8, 0x54, 1, 1, .u32, .rws, (.same (.num 500)), .persistent, .between 10 100000, 0⟩
def Ent.BLEED_CURRENT : Entry :=
  ⟨"BLEED_CURRENT", 0x4000, 8, 0x55, 1, 1, .u16, .rws, (.same (.num 200)), .persistent, .between 1 5000, 0⟩
def Ent.BALANCE_MAX_TIME : Entry :=
  ⟨"BALANCE_MAX_TIME", 0x4000, 8, 0x56, 1, 1, .u16, .rws, (.same (.num 600)), .persistent, .between 1 3600, 0⟩
def Ent.SOH_WARN : Entry :=
  ⟨"SOH_WARN", 0x4000, 8, 0x57, 1, 1, .u16, .rws, (.same (.num 800)), .persistent, .between 100 1000, 0⟩
def Ent.RES_WARN : Entry :=
  ⟨"RES_WARN", 0x4000, 8, 0x58, 1, 1, .u16, .rws, (.same (.num 2000)), .persistent, .between 1000 10000, 0⟩
def Ent.STRING_SOC : Entry :=
  ⟨"STRING_SOC", 0x4000, 8, 0x59, 1, 1, .u16, .ro, (.same (.num 0)), .volatile, .any, 0⟩
def Ent.STRING_AH_AVAILABLE : Entry :=
  ⟨"STRING_AH_AVAILABLE", 0x4000, 8, 0x5A, 1, 1, .u32, .ro, (.same (.num 0)), .volatile, .any, 0⟩
def Ent.STRING_AH_USABLE : Entry :=
  ⟨"STRING_AH_USABLE", 0x4000, 8, 0x5B, 1, 1, .u32, .ro, (.same (.num 0)), .volatile, .any, 0⟩
def Ent.STRING_AH_TO_FULL : Entry :=
  ⟨"STRING_AH_TO_FULL", 0x4000, 8, 0x5C, 1, 1, .u32, .ro, (.same (.num 0)), .volatile, .any, 0⟩
def Ent.STRING_SOH : Entry :=
  ⟨"STRING_SOH", 0x4000, 8, 0x5D, 1, 1, .u16, .ro, (.same (.num 1000)), .volatile, .any, 0⟩
def Ent.EST_STATUS : Entry :=
  ⟨"EST_STATUS", 0x4000, 8, 0x5E, 1, 1, .u32, .ro, (.same (.num 0)), .volatile, .any, 0⟩
def Ent.EST_RESET : Entry :=
  ⟨"EST_RESET", 0x4000, 8, 0x5F, 1, 1, .u8, .wo, (.same (.num 0)), .volatile, .oneOf [1], 0⟩
def Ent.DISAGREE_COUNT : Entry :=
  ⟨"DISAGREE_COUNT", 0x4000, 8, 0x60, 1, 1, .u32, .ro, (.same (.num 0)), .persistent, .any, 0⟩
def Ent.LIFETIME_AH_DIS : Entry :=
  ⟨"LIFETIME_AH_DIS", 0x4000, 8, 0x61, 1, 1, .u64, .ro, (.same (.num 0)), .persistent, .any, 0⟩
def Ent.LIFETIME_AH_CHG : Entry :=
  ⟨"LIFETIME_AH_CHG", 0x4000, 8, 0x62, 1, 1, .u64, .ro, (.same (.num 0)), .persistent, .any, 0⟩
def Ent.REJECT_COUNT : Entry :=
  ⟨"REJECT_COUNT", 0x4000, 8, 0x63, 1, 1, .u32, .ro, (.same (.num 0)), .volatile, .any, 0⟩

/-! Table 12-6 (12_state_estimation.md). -/

def Ent.CELL_SOC : Entry :=
  ⟨"CELL_SOC", 0x5000, 256, 0x50, 16, 1, .u16, .ro, (.same (.num 0)), .persistent, .any, 0⟩
def Ent.CELL_Q : Entry :=
  ⟨"CELL_Q", 0x5000, 256, 0x60, 16, 1, .u32, .ro, (.same (.num 280000)), .persistent, .any, 0⟩
def Ent.CELL_R0 : Entry :=
  ⟨"CELL_R0", 0x5000, 256, 0x70, 16, 1, .f32, .ro, (.same (.num 964891247)), .persistent, .any, 0⟩
def Ent.CELL_R1 : Entry :=
  ⟨"CELL_R1", 0x5000, 256, 0x80, 16, 1, .f32, .ro, (.same (.num 956502639)), .persistent, .any, 0⟩
def Ent.CELL_R2 : Entry :=
  ⟨"CELL_R2", 0x5000, 256, 0x90, 16, 1, .f32, .ro, (.same (.num 956502639)), .persistent, .any, 0⟩
def Ent.LEARN_STATUS : Entry :=
  ⟨"LEARN_STATUS", 0x5000, 256, 0xA0, 16, 1, .u32, .ro, (.same (.num 0)), .persistent, .any, 0⟩
def Ent.CELL_R_LIMIT : Entry :=
  ⟨"CELL_R_LIMIT", 0x5000, 256, 0xB0, 16, 1, .f32, .ro, (.same (.num 973279855)), .volatile, .any, 0⟩

/-! Table 13-7 (13_measurement.md). -/

def Ent.MCH_CLASS : Entry :=
  ⟨"MCH_CLASS", 0x8100, 96, 0x01, 1, 1, .u8, .rws, (.same (.num 0)), .persistent, .between 0 3, 0⟩
def Ent.MCH_RANGE : Entry :=
  ⟨"MCH_RANGE", 0x8100, 96, 0x02, 1, 1, .u8, .leg, (.same (.num 0)), .persistent, .between 0 3, 0⟩
def Ent.MCH_LEGAL : Entry :=
  ⟨"MCH_LEGAL", 0x8100, 96, 0x03, 1, 1, .bool, .leg, (.same (.num 0)), .persistent, .any, 0⟩
def Ent.MCH_SENSOR_SCALE : Entry :=
  ⟨"MCH_SENSOR_SCALE", 0x8100, 96, 0x04, 1, 1, .f32, .leg, (.same (.num 1065353216)), .persistent, .any, 0⟩
def Ent.MCH_SENSOR_OFFSET : Entry :=
  ⟨"MCH_SENSOR_OFFSET", 0x8100, 96, 0x05, 1, 1, .f32, .leg, (.same (.num 0)), .persistent, .any, 0⟩
def Ent.MCH_VALUE : Entry :=
  ⟨"MCH_VALUE", 0x8100, 96, 0x06, 1, 1, .f32, .ro, (.same (.num 0)), .volatile, .any, 0⟩
def Ent.MCH_MIN : Entry :=
  ⟨"MCH_MIN", 0x8100, 96, 0x07, 1, 1, .f32, .ro, (.same (.num 0)), .volatile, .any, 0⟩
def Ent.MCH_MAX : Entry :=
  ⟨"MCH_MAX", 0x8100, 96, 0x08, 1, 1, .f32, .ro, (.same (.num 0)), .volatile, .any, 0⟩
def Ent.MCH_VALUE_M0 : Entry :=
  ⟨"MCH_VALUE_M0", 0x8100, 96, 0x09, 1, 1, .f32, .ro, (.same (.num 0)), .volatile, .any, 0⟩
def Ent.MCH_VALUE_M1 : Entry :=
  ⟨"MCH_VALUE_M1", 0x8100, 96, 0x0A, 1, 1, .f32, .ro, (.same (.num 0)), .volatile, .any, 0⟩
def Ent.MCH_STATUS : Entry :=
  ⟨"MCH_STATUS", 0x8100, 96, 0x0B, 1, 1, .u32, .ro, (.same (.num 0)), .volatile, .any, 0⟩
def Ent.CAL_ZERO_M0 : Entry :=
  ⟨"CAL_ZERO_M0", 0x8100, 96, 0x0C, 1, 1, .f32, .ro, (.same (.num 0)), .legal, .any, 0⟩
def Ent.CAL_GAIN_M0 : Entry :=
  ⟨"CAL_GAIN_M0", 0x8100, 96, 0x0D, 1, 1, .f32, .ro, (.same (.num 1065353216)), .legal, .any, 0⟩
def Ent.CAL_ZERO_M1 : Entry :=
  ⟨"CAL_ZERO_M1", 0x8100, 96, 0x0E, 1, 1, .f32, .ro, (.same (.num 0)), .legal, .any, 0⟩
def Ent.CAL_GAIN_M1 : Entry :=
  ⟨"CAL_GAIN_M1", 0x8100, 96, 0x0F, 1, 1, .f32, .ro, (.same (.num 1065353216)), .legal, .any, 0⟩
def Ent.MCH_CAL_REQUEST : Entry :=
  ⟨"MCH_CAL_REQUEST", 0x8100, 96, 0x10, 1, 1, .record, .wo, (.same (.bytes (List.replicate 8 0))), .volatile, .any, 8⟩
def Ent.MCH_CAL_RESULT : Entry :=
  ⟨"MCH_CAL_RESULT", 0x8100, 96, 0x11, 1, 1, .u16, .ro, (.same (.num 0)), .volatile, .any, 0⟩
def Ent.CAL_SFN : Entry :=
  ⟨"CAL_SFN", 0x8100, 96, 0x12, 1, 1, .u64, .ro, (.same (.num 0)), .legal, .any, 0⟩
def Ent.MCH_STAGGER : Entry :=
  ⟨"MCH_STAGGER", 0x8100, 96, 0x13, 1, 1, .i16, .ro, (.same (.num 0)), .volatile, .any, 0⟩
def Ent.MCH_OPEN_TEST : Entry :=
  ⟨"MCH_OPEN_TEST", 0x8100, 96, 0x14, 1, 1, .u8, .wo, (.same (.num 0)), .volatile, .oneOf [1], 0⟩
def Ent.MCH_TEST_RESULT : Entry :=
  ⟨"MCH_TEST_RESULT", 0x8100, 96, 0x15, 1, 1, .u16, .ro, (.same (.num 0)), .volatile, .any, 0⟩

/-! Table 13-9 (13_measurement.md). -/

def Ent.BANK_STATUS : Entry :=
  ⟨"BANK_STATUS", 0x8010, 4, 0x01, 1, 1, .u32, .ro, (.same (.num 0)), .volatile, .any, 0⟩
def Ent.SLICE_CORRECTION : Entry :=
  ⟨"SLICE_CORRECTION", 0x8010, 4, 0x02, 1, 1, .blob, .ro, (.same (.bytes (List.replicate 108 0))), .volatile, .any, 108⟩
def Ent.RETIRED_MASK : Entry :=
  ⟨"RETIRED_MASK", 0x8010, 4, 0x03, 1, 1, .u16, .ro, (.same (.num 0)), .persistent, .any, 0⟩
def Ent.ROTATIONS : Entry :=
  ⟨"ROTATIONS", 0x8010, 4, 0x04, 1, 1, .u32, .ro, (.same (.num 0)), .volatile, .any, 0⟩

/-! Table 13-11 (13_measurement.md). -/

def Ent.SPARE_DWELL : Entry :=
  ⟨"SPARE_DWELL", 0x8020, 1, 0x01, 1, 1, .u16, .rws, (.same (.num 100)), .persistent, .between 50 10000, 0⟩
def Ent.CAL_FRAMES : Entry :=
  ⟨"CAL_FRAMES", 0x8020, 1, 0x02, 1, 1, .u16, .rws, (.same (.num 1000)), .persistent, .between 100 10000, 0⟩
def Ent.DEMAND_M0 : Entry :=
  ⟨"DEMAND_M0", 0x8020, 1, 0x03, 1, 1, .u16, .ro, (.same (.num 0)), .volatile, .any, 0⟩
def Ent.DEMAND_M1 : Entry :=
  ⟨"DEMAND_M1", 0x8020, 1, 0x04, 1, 1, .u16, .ro, (.same (.num 0)), .volatile, .any, 0⟩
def Ent.CAPTURE_CHANNEL : Entry :=
  ⟨"CAPTURE_CHANNEL", 0x8020, 1, 0x05, 1, 1, .u8, .rws, (.same (.num 0)), .persistent, .between 0 95, 0⟩
def Ent.CAPTURE_LEVEL : Entry :=
  ⟨"CAPTURE_LEVEL", 0x8020, 1, 0x06, 1, 1, .f32, .rws, (.same (.num 0)), .persistent, .fnonneg, 0⟩
def Ent.CAPTURE_ARM : Entry :=
  ⟨"CAPTURE_ARM", 0x8020, 1, 0x07, 1, 1, .bool, .rw, (.same (.num 0)), .persistent, .any, 0⟩
def Ent.CAPTURE_FORCE : Entry :=
  ⟨"CAPTURE_FORCE", 0x8020, 1, 0x08, 1, 1, .u8, .wo, (.same (.num 0)), .volatile, .oneOf [1], 0⟩
def Ent.CAPTURE_HOLDOFF : Entry :=
  ⟨"CAPTURE_HOLDOFF", 0x8020, 1, 0x09, 1, 1, .u16, .rws, (.same (.num 100)), .persistent, .between 10 60000, 0⟩
def Ent.CAPTURE_COUNT : Entry :=
  ⟨"CAPTURE_COUNT", 0x8020, 1, 0x0A, 1, 1, .u32, .ro, (.same (.num 0)), .persistent, .any, 0⟩
def Ent.CAPTURE_REFUSED : Entry :=
  ⟨"CAPTURE_REFUSED", 0x8020, 1, 0x0B, 1, 1, .u32, .ro, (.same (.num 0)), .volatile, .any, 0⟩
def Ent.CAPTURE_SELECT : Entry :=
  ⟨"CAPTURE_SELECT", 0x8020, 1, 0x0C, 1, 1, .u32, .rw, (.same (.num 0)), .volatile, .any, 0⟩
def Ent.CAPTURE_RECORD : Entry :=
  ⟨"CAPTURE_RECORD", 0x8020, 1, 0x0D, 1, 1, .blob, .ro, (.same (.bytes [])), .volatile, .any, 65535⟩
def Ent.HELD_CONVERSIONS : Entry :=
  ⟨"HELD_CONVERSIONS", 0x8020, 1, 0x0E, 1, 1, .u32, .ro, (.same (.num 0)), .volatile, .any, 0⟩

/-! Table 14-9 (14_legal_metering.md). -/

def Ent.LEGAL_SEAL_STATE : Entry :=
  ⟨"LEGAL_SEAL_STATE", 0x8000, 1, 0x01, 1, 1, .bool, .ro, (.same (.num 0)), .volatile, .any, 0⟩
def Ent.LEGAL_CHECK_VALUE : Entry :=
  ⟨"LEGAL_CHECK_VALUE", 0x8000, 1, 0x02, 1, 1, .u32, .ro, (.same (.num 0)), .volatile, .any, 0⟩
def Ent.LEGAL_CHECK_VALUE_M1 : Entry :=
  ⟨"LEGAL_CHECK_VALUE_M1", 0x8000, 1, 0x03, 1, 1, .u32, .ro, (.same (.num 0)), .volatile, .any, 0⟩
def Ent.GRID_FREQUENCY : Entry :=
  ⟨"GRID_FREQUENCY", 0x8000, 1, 0x04, 1, 1, .u8, .leg, (.same (.num 50)), .persistent, .oneOf [50, 60], 0⟩
def Ent.CROSS_WINDOW : Entry :=
  ⟨"CROSS_WINDOW", 0x8000, 1, 0x05, 1, 1, .u16, .leg, (.same (.num 1000)), .persistent, .between 100 60000, 0⟩
def Ent.CROSS_TOL_ACTIVE : Entry :=
  ⟨"CROSS_TOL_ACTIVE", 0x8000, 1, 0x06, 1, 1, .u16, .leg, (.same (.num 2000)), .persistent, .between 500 20000, 0⟩
def Ent.CROSS_TOL_REACTIVE : Entry :=
  ⟨"CROSS_TOL_REACTIVE", 0x8000, 1, 0x07, 1, 1, .u16, .leg, (.same (.num 5000)), .persistent, .between 500 20000, 0⟩
def Ent.LEGAL_LOG_NEWEST : Entry :=
  ⟨"LEGAL_LOG_NEWEST", 0x8000, 1, 0x08, 1, 1, .u32, .ro, (.same (.num 0)), .legal, .any, 0⟩
def Ent.LEGAL_LOG_OLDEST : Entry :=
  ⟨"LEGAL_LOG_OLDEST", 0x8000, 1, 0x09, 1, 1, .u32, .ro, (.same (.num 0)), .legal, .any, 0⟩
def Ent.LEGAL_LOG_SELECT : Entry :=
  ⟨"LEGAL_LOG_SELECT", 0x8000, 1, 0x0A, 1, 1, .u32, .rw, (.same (.num 0)), .volatile, .any, 0⟩
def Ent.LEGAL_LOG_RECORD : Entry :=
  ⟨"LEGAL_LOG_RECORD", 0x8000, 1, 0x0B, 1, 1, .record, .ro, (.same (.bytes (List.replicate 40 0))), .legal, .any, 40⟩
def Ent.LEGAL_LOG_ARCHIVE : Entry :=
  ⟨"LEGAL_LOG_ARCHIVE", 0x8000, 1, 0x0C, 1, 1, .u32, .wo, (.same (.num 0)), .volatile, .any, 0⟩
def Ent.LEGAL_LOG_LOST : Entry :=
  ⟨"LEGAL_LOG_LOST", 0x8000, 1, 0x0D, 1, 1, .u32, .ro, (.same (.num 0)), .legal, .any, 0⟩
def Ent.METER_STATUS : Entry :=
  ⟨"METER_STATUS", 0x8000, 1, 0x0E, 1, 1, .u32, .ro, (.same (.num 0)), .volatile, .any, 0⟩
def Ent.LAST_COMMIT_SFN : Entry :=
  ⟨"LAST_COMMIT_SFN", 0x8000, 1, 0x0F, 1, 1, .u64, .ro, (.same (.num 0)), .volatile, .any, 0⟩
def Ent.DISPLAY_PERIOD : Entry :=
  ⟨"DISPLAY_PERIOD", 0x8000, 1, 0x10, 1, 1, .u8, .rw, (.same (.num 10)), .persistent, .between 2 60, 0⟩

/-! Table 14-10 (14_legal_metering.md). -/

def Ent.POINT_ENABLE : Entry :=
  ⟨"POINT_ENABLE", 0x8200, 17, 0x01, 1, 1, .bool, .leg, (.same (.num 0)), .persistent, .any, 0⟩
def Ent.POINT_KIND : Entry :=
  ⟨"POINT_KIND", 0x8200, 17, 0x02, 1, 1, .u8, .ro, (.each [0, 1, 1, 1, 1, 1, 1, 1, 1, 2, 2, 2, 2, 2, 2, 2, 2]), .volatile, .any, 0⟩
def Ent.CONNECTION : Entry :=
  ⟨"CONNECTION", 0x8200, 17, 0x03, 1, 1, .u8, .leg, (.same (.num 0)), .persistent, .between 0 1, 0⟩
def Ent.U_CHANNELS : Entry :=
  ⟨"U_CHANNELS", 0x8200, 17, 0x04, 1, 1, .u32, .leg, (.same (.num 4294967295)), .persistent, .bytesBetweenOr 95 255, 0⟩
def Ent.I_CHANNELS : Entry :=
  ⟨"I_CHANNELS", 0x8200, 17, 0x05, 1, 1, .u32, .leg, (.same (.num 4294967295)), .persistent, .bytesBetweenOr 95 255, 0⟩
def Ent.U_NOMINAL : Entry :=
  ⟨"U_NOMINAL", 0x8200, 17, 0x06, 1, 1, .f32, .leg, (.same (.num 0)), .persistent, .any, 0⟩
def Ent.I_NOMINAL : Entry :=
  ⟨"I_NOMINAL", 0x8200, 17, 0x07, 1, 1, .f32, .leg, (.same (.num 0)), .persistent, .any, 0⟩
def Ent.I_START_FRACTION : Entry :=
  ⟨"I_START_FRACTION", 0x8200, 17, 0x08, 1, 1, .u16, .leg, (.same (.num 1)), .persistent, .between 1 10, 0⟩
def Ent.R_TRANSFER : Entry :=
  ⟨"R_TRANSFER", 0x8200, 17, 0x09, 1, 1, .f32, .leg, (.same (.num 0)), .persistent, .fbetween 0 (1 / 10), 0⟩
def Ent.OC_LEVEL : Entry :=
  ⟨"OC_LEVEL", 0x8200, 17, 0x0A, 1, 1, .u16, .leg, (.same (.num 1200)), .persistent, .between 1000 5000, 0⟩
def Ent.OC_TIME : Entry :=
  ⟨"OC_TIME", 0x8200, 17, 0x0B, 1, 1, .u16, .leg, (.same (.num 100)), .persistent, .between 10 60000, 0⟩
def Ent.BILLING_SOURCE : Entry :=
  ⟨"BILLING_SOURCE", 0x8200, 17, 0x0C, 1, 1, .u8, .ro, (.same (.num 0)), .legal, .any, 0⟩
def Ent.CROSS_STATE : Entry :=
  ⟨"CROSS_STATE", 0x8200, 17, 0x0D, 1, 1, .u8, .ro, (.same (.num 0)), .volatile, .any, 0⟩
def Ent.PEAK_I : Entry :=
  ⟨"PEAK_I", 0x8200, 17, 0x0E, 1, 1, .f32, .ro, (.same (.num 0)), .legal, .any, 0⟩
def Ent.PEAK_SFN : Entry :=
  ⟨"PEAK_SFN", 0x8200, 17, 0x0F, 1, 1, .u64, .ro, (.same (.num 0)), .legal, .any, 0⟩
def Ent.PEAK_RESET : Entry :=
  ⟨"PEAK_RESET", 0x8200, 17, 0x10, 1, 1, .u8, .wo, (.same (.num 0)), .volatile, .oneOf [1], 0⟩
def Ent.POWER_P : Entry :=
  ⟨"POWER_P", 0x8200, 17, 0x11, 1, 1, .f32, .ro, (.same (.num 0)), .volatile, .any, 0⟩
def Ent.POWER_Q : Entry :=
  ⟨"POWER_Q", 0x8200, 17, 0x12, 1, 1, .f32, .ro, (.same (.num 0)), .volatile, .any, 0⟩
def Ent.OC_COUNT : Entry :=
  ⟨"OC_COUNT", 0x8200, 17, 0x13, 1, 1, .u32, .ro, (.same (.num 0)), .legal, .any, 0⟩
def Ent.CROSS_RESET : Entry :=
  ⟨"CROSS_RESET", 0x8200, 17, 0x14, 1, 1, .u8, .wo, (.same (.num 0)), .volatile, .oneOf [1], 0⟩
def Ent.REGISTER_M0 : Entry :=
  ⟨"REGISTER_M0", 0x8200, 17, 0x20, 14, 1, .u64, .ro, (.same (.num 0)), .legal, .any, 0⟩
def Ent.REGISTER_M1 : Entry :=
  ⟨"REGISTER_M1", 0x8200, 17, 0x40, 14, 1, .u64, .ro, (.same (.num 0)), .legal, .any, 0⟩
def Ent.REGISTER : Entry :=
  ⟨"REGISTER", 0x8200, 17, 0x60, 14, 1, .u64, .ro, (.same (.num 0)), .volatile, .any, 0⟩

/-! Table 15-10 (15_billing.md). -/

def Ent.METER_TIME : Entry :=
  ⟨"METER_TIME", 0x8800, 1, 0x01, 1, 1, .u64, .ro, (.same (.num 0)), .legal, .any, 0⟩
def Ent.METER_TIME_S : Entry :=
  ⟨"METER_TIME_S", 0x8800, 1, 0x02, 1, 1, .u32, .ro, (.same (.num 0)), .volatile, .any, 0⟩
def Ent.LOCAL_OFFSET : Entry :=
  ⟨"LOCAL_OFFSET", 0x8800, 1, 0x03, 1, 1, .i16, .rw, (.same (.num 0)), .persistent, .between (-720) 840, 0⟩
def Ent.ACTIVE_CALENDAR : Entry :=
  ⟨"ACTIVE_CALENDAR", 0x8800, 1, 0x04, 1, 1, .u8, .ro, (.same (.num 0)), .legal, .any, 0⟩
def Ent.ACTIVE_RATE : Entry :=
  ⟨"ACTIVE_RATE", 0x8800, 1, 0x05, 1, 1, .u8, .ro, (.same (.num 1)), .volatile, .any, 0⟩
def Ent.BILLING_DAY : Entry :=
  ⟨"BILLING_DAY", 0x8800, 1, 0x06, 1, 1, .u8, .rws, (.same (.num 1)), .persistent, .between 1 28, 0⟩
def Ent.BILLING_HOUR : Entry :=
  ⟨"BILLING_HOUR", 0x8800, 1, 0x07, 1, 1, .u8, .rws, (.same (.num 0)), .persistent, .between 0 23, 0⟩
def Ent.BILLING_CLOSE : Entry :=
  ⟨"BILLING_CLOSE", 0x8800, 1, 0x08, 1, 1, .u8, .wo, (.same (.num 0)), .volatile, .oneOf [1], 0⟩
def Ent.PERIOD_NUMBER : Entry :=
  ⟨"PERIOD_NUMBER", 0x8800, 1, 0x09, 1, 1, .u32, .ro, (.same (.num 0)), .legal, .any, 0⟩
def Ent.BILLING_STATUS : Entry :=
  ⟨"BILLING_STATUS", 0x8800, 1, 0x0A, 1, 1, .u32, .ro, (.same (.num 0)), .volatile, .any, 0⟩
def Ent.RATE_PRICES : Entry :=
  ⟨"RATE_PRICES", 0x8800, 1, 0x0B, 1, 1, .blob, .rws, (.same (.bytes (List.replicate 64 0))), .persistent, .len 64, 64⟩
def Ent.FRIENDLY_MASK : Entry :=
  ⟨"FRIENDLY_MASK", 0x8800, 1, 0x0C, 1, 1, .blob, .rws, (.same (.bytes (List.replicate 21 0))), .persistent, .len 21, 21⟩
def Ent.PROFILE_CHANNELS : Entry :=
  ⟨"PROFILE_CHANNELS", 0x8800, 1, 0x0D, 1, 1, .blob, .rws, (.same (.bytes [0, 0, 1, 0, 2, 0, 3, 0, 4, 0, 5, 0, 6, 0, 7, 0, 8, 0, 9, 0, 10, 0, 11, 0, 12, 0, 13, 0, 0, 1, 0, 2, 0, 3, 0, 4, 0, 5, 0, 6, 0, 7, 0, 8, 0, 9, 0, 10, 0, 11, 0, 12, 0, 13, 0, 14, 0, 15, 0, 16, 1, 1, 1, 2, 1, 3, 1, 4, 1, 5, 1, 6, 1, 7, 1, 8, 1, 9, 1, 10, 1, 11, 1, 12, 1, 13, 1, 14, 1, 15, 1, 16, 255, 255, 255, 255])), .persistent, .len 96, 96⟩
def Ent.PROFILE_NEWEST : Entry :=
  ⟨"PROFILE_NEWEST", 0x8800, 1, 0x0E, 1, 1, .u32, .ro, (.same (.num 0)), .persistent, .any, 0⟩
def Ent.PROFILE_OLDEST : Entry :=
  ⟨"PROFILE_OLDEST", 0x8800, 1, 0x0F, 1, 1, .u32, .ro, (.same (.num 0)), .persistent, .any, 0⟩
def Ent.PROFILE_SELECT : Entry :=
  ⟨"PROFILE_SELECT", 0x8800, 1, 0x10, 1, 1, .u32, .rw, (.same (.num 0)), .volatile, .any, 0⟩
def Ent.PROFILE_RECORD : Entry :=
  ⟨"PROFILE_RECORD", 0x8800, 1, 0x11, 1, 1, .blob, .ro, (.same (.bytes (List.replicate 400 0))), .legal, .any, 400⟩
def Ent.SNAPSHOT_SELECT : Entry :=
  ⟨"SNAPSHOT_SELECT", 0x8800, 1, 0x12, 1, 1, .u32, .rw, (.same (.num 0)), .volatile, .any, 0⟩
def Ent.SNAPSHOT_RECORD : Entry :=
  ⟨"SNAPSHOT_RECORD", 0x8800, 1, 0x13, 1, 1, .blob, .ro, (.same (.bytes (List.replicate 3568 0))), .legal, .any, 3568⟩
def Ent.SIGN_ALGORITHM : Entry :=
  ⟨"SIGN_ALGORITHM", 0x8800, 1, 0x14, 1, 1, .u8, .leg, (.same (.num 1)), .persistent, .between 1 2, 0⟩
def Ent.SIGNED_NEWEST : Entry :=
  ⟨"SIGNED_NEWEST", 0x8800, 1, 0x15, 1, 1, .u32, .ro, (.same (.num 0)), .persistent, .any, 0⟩
def Ent.SIGNED_OLDEST : Entry :=
  ⟨"SIGNED_OLDEST", 0x8800, 1, 0x16, 1, 1, .u32, .ro, (.same (.num 0)), .persistent, .any, 0⟩
def Ent.SIGNED_SELECT : Entry :=
  ⟨"SIGNED_SELECT", 0x8800, 1, 0x17, 1, 1, .u32, .rw, (.same (.num 0)), .volatile, .any, 0⟩
def Ent.SIGNED_RECORD : Entry :=
  ⟨"SIGNED_RECORD", 0x8800, 1, 0x18, 1, 1, .blob, .ro, (.same (.bytes [])), .legal, .any, 65535⟩
def Ent.SIGNED_OVERWRITTEN : Entry :=
  ⟨"SIGNED_OVERWRITTEN", 0x8800, 1, 0x19, 1, 1, .u32, .ro, (.same (.num 0)), .persistent, .any, 0⟩
def Ent.STANDSTILL_LEFT : Entry :=
  ⟨"STANDSTILL_LEFT", 0x8800, 1, 0x1A, 1, 1, .u32, .ro, (.same (.num 0)), .volatile, .any, 0⟩

/-! Table 15-12 (15_billing.md). -/

def Ent.CAL_SEASONS : Entry :=
  ⟨"CAL_SEASONS", 0x8810, 4, 0x01, 1, 1, .blob, .rws, (.first (.bytes ([1, 1] ++ List.replicate 34 0)) (.bytes (List.replicate 36 0))), .persistent, .len 36, 36⟩
def Ent.CAL_DAY_PROFILES : Entry :=
  ⟨"CAL_DAY_PROFILES", 0x8810, 4, 0x02, 1, 1, .blob, .rws, (.first (.bytes ([0, 0, 1] ++ (List.replicate 95 [0xFF, 0xFF, 0]).flatten)) (.bytes (List.replicate 96 [0xFF, 0xFF, 0]).flatten)), .persistent, .len 288, 288⟩
def Ent.CAL_SPECIAL_DAYS : Entry :=
  ⟨"CAL_SPECIAL_DAYS", 0x8810, 4, 0x03, 1, 1, .blob, .rws, (.same (.bytes (List.replicate 160 0))), .persistent, .len 160, 160⟩
def Ent.CAL_ACTIVATE : Entry :=
  ⟨"CAL_ACTIVATE", 0x8810, 4, 0x04, 1, 1, .u32, .rws, (.same (.num 0)), .persistent, .any, 0⟩
def Ent.CAL_NAME : Entry :=
  ⟨"CAL_NAME", 0x8810, 4, 0x05, 1, 1, .str, .rws, (.same (.bytes [])), .persistent, .any, 255⟩

/-! Table 15-13 (15_billing.md). -/

def Ent.TARIFF_REG0 : Entry :=
  ⟨"TARIFF_REG0", 0x8840, 17, 0x01, 8, 1, .u64, .ro, (.same (.num 0)), .legal, .any, 0⟩
def Ent.TARIFF_REG1 : Entry :=
  ⟨"TARIFF_REG1", 0x8840, 17, 0x11, 8, 1, .u64, .ro, (.same (.num 0)), .legal, .any, 0⟩
def Ent.MAX_DEMAND : Entry :=
  ⟨"MAX_DEMAND", 0x8840, 17, 0x21, 8, 1, .u32, .ro, (.same (.num 0)), .legal, .any, 0⟩
def Ent.MAX_DEMAND_TIME : Entry :=
  ⟨"MAX_DEMAND_TIME", 0x8840, 17, 0x31, 8, 1, .u32, .ro, (.same (.num 0)), .legal, .any, 0⟩
def Ent.LAST_DEMAND : Entry :=
  ⟨"LAST_DEMAND", 0x8840, 17, 0x40, 1, 1, .u32, .ro, (.same (.num 0)), .volatile, .any, 0⟩
def Ent.VIEW_32 : Entry :=
  ⟨"VIEW_32", 0x8840, 17, 0x50, 14, 1, .u32, .ro, (.same (.num 0)), .volatile, .any, 0⟩
def Ent.VIEW_READ_PERIOD : Entry :=
  ⟨"VIEW_READ_PERIOD", 0x8840, 17, 0x60, 1, 1, .u32, .ro, (.same (.num 0)), .volatile, .any, 0⟩
def Ent.READING_REQUEST : Entry :=
  ⟨"READING_REQUEST", 0x8840, 17, 0x61, 1, 1, .u8, .wo, (.same (.num 0)), .volatile, .oneOf [1], 0⟩

/-! Table 15-14 (15_billing.md). -/

def Ent.ACCOUNT_ENABLE : Entry :=
  ⟨"ACCOUNT_ENABLE", 0x8A00, 256, 0x01, 1, 1, .bool, .rw, (.same (.num 0)), .persistent, .any, 0⟩
def Ent.BALANCE : Entry :=
  ⟨"BALANCE", 0x8A00, 256, 0x02, 1, 1, .i64, .ro, (.same (.num 0)), .persistent, .any, 0⟩
def Ent.CREDIT_TOPUP : Entry :=
  ⟨"CREDIT_TOPUP", 0x8A00, 256, 0x03, 1, 1, .record, .wo, (.same (.bytes (List.replicate 12 0))), .volatile, .any, 12⟩
def Ent.LAST_TOPUP_REF : Entry :=
  ⟨"LAST_TOPUP_REF", 0x8A00, 256, 0x04, 1, 1, .u32, .ro, (.same (.num 0)), .persistent, .any, 0⟩
def Ent.LOW_CREDIT : Entry :=
  ⟨"LOW_CREDIT", 0x8A00, 256, 0x05, 1, 1, .u32, .rw, (.same (.num 0)), .persistent, .between 0 4000000000, 0⟩
def Ent.EMERGENCY_ENABLE : Entry :=
  ⟨"EMERGENCY_ENABLE", 0x8A00, 256, 0x06, 1, 1, .bool, .rw, (.same (.num 0)), .persistent, .any, 0⟩
def Ent.EMERGENCY_CREDIT : Entry :=
  ⟨"EMERGENCY_CREDIT", 0x8A00, 256, 0x07, 1, 1, .u32, .rw, (.same (.num 0)), .persistent, .between 0 4000000000, 0⟩
def Ent.FRIENDLY_ENABLE : Entry :=
  ⟨"FRIENDLY_ENABLE", 0x8A00, 256, 0x08, 1, 1, .bool, .rw, (.same (.num 0)), .persistent, .any, 0⟩
def Ent.FRIENDLY_DEBT_LIMIT : Entry :=
  ⟨"FRIENDLY_DEBT_LIMIT", 0x8A00, 256, 0x09, 1, 1, .u32, .rw, (.same (.num 0)), .persistent, .between 0 4000000000, 0⟩
def Ent.PROTECT_UNTIL : Entry :=
  ⟨"PROTECT_UNTIL", 0x8A00, 256, 0x0A, 1, 1, .time64, .rw, (.same (.bytes (List.replicate 12 0))), .persistent, .time64, 0⟩
def Ent.ACCOUNT_STATE : Entry :=
  ⟨"ACCOUNT_STATE", 0x8A00, 256, 0x0B, 1, 1, .u8, .ro, (.same (.num 0)), .volatile, .any, 0⟩
def Ent.SESSIONS_ACTIVE : Entry :=
  ⟨"SESSIONS_ACTIVE", 0x8A00, 256, 0x0C, 1, 1, .u8, .ro, (.same (.num 0)), .volatile, .any, 0⟩
def Ent.ENERGY_DELIVERED : Entry :=
  ⟨"ENERGY_DELIVERED", 0x8A00, 256, 0x0D, 1, 1, .u64, .ro, (.same (.num 0)), .persistent, .any, 0⟩
def Ent.CREDIT_USED : Entry :=
  ⟨"CREDIT_USED", 0x8A00, 256, 0x0E, 1, 1, .u64, .ro, (.same (.num 0)), .persistent, .any, 0⟩

/-! Table 16-6 (16_load_switches.md). -/

def Ent.LC_MODE : Entry :=
  ⟨"LC_MODE", 0x9000, 40, 0x01, 1, 1, .u8, .rws, (.same (.num 0)), .persistent, .between 0 3, 0⟩
def Ent.LC_COMMAND : Entry :=
  ⟨"LC_COMMAND", 0x9000, 40, 0x02, 1, 1, .u8, .rw, (.same (.num 0)), .volatile, .between 0 1, 0⟩
def Ent.LC_DUTY : Entry :=
  ⟨"LC_DUTY", 0x9000, 40, 0x03, 1, 1, .f32, .rw, (.same (.num 0)), .volatile, .fbetween 0 1, 0⟩
def Ent.LC_PWM_FREQ : Entry :=
  ⟨"LC_PWM_FREQ", 0x9000, 40, 0x04, 1, 1, .u16, .rws, (.same (.num 100)), .persistent, .between 25 400, 0⟩
def Ent.LC_PULL_IN_TIME : Entry :=
  ⟨"LC_PULL_IN_TIME", 0x9000, 40, 0x05, 1, 1, .u16, .rws, (.same (.num 200)), .persistent, .between 10 5000, 0⟩
def Ent.LC_HOLD_DUTY : Entry :=
  ⟨"LC_HOLD_DUTY", 0x9000, 40, 0x06, 1, 1, .u16, .rws, (.same (.num 500)), .persistent, .between 0 1000, 0⟩
def Ent.LC_FAILSAFE : Entry :=
  ⟨"LC_FAILSAFE", 0x9000, 40, 0x07, 1, 1, .u8, .rws, (.same (.num 0)), .persistent, .between 0 3, 0⟩
def Ent.LC_FAILSAFE_DUTY : Entry :=
  ⟨"LC_FAILSAFE_DUTY", 0x9000, 40, 0x08, 1, 1, .u16, .rws, (.same (.num 0)), .persistent, .between 0 1000, 0⟩
def Ent.LC_LIMIT_TIME : Entry :=
  ⟨"LC_LIMIT_TIME", 0x9000, 40, 0x09, 1, 1, .u16, .rws, (.same (.num 2000)), .persistent, .between 100 10000, 0⟩
def Ent.LC_I_MAX : Entry :=
  ⟨"LC_I_MAX", 0x9000, 40, 0x0A, 1, 1, .f32, .rws, (.same (.num 1077936128)), .persistent, .fbetween (1 / 10) 3, 0⟩
def Ent.LC_RETRY_LIMIT : Entry :=
  ⟨"LC_RETRY_LIMIT", 0x9000, 40, 0x0B, 1, 1, .u8, .rws, (.same (.num 3)), .persistent, .between 0 10, 0⟩
def Ent.LC_RETRY_DELAY : Entry :=
  ⟨"LC_RETRY_DELAY", 0x9000, 40, 0x0C, 1, 1, .u16, .rws, (.same (.num 100)), .persistent, .between 10 10000, 0⟩
def Ent.LC_RETRY_CLEAR_TIME : Entry :=
  ⟨"LC_RETRY_CLEAR_TIME", 0x9000, 40, 0x0D, 1, 1, .u16, .rws, (.same (.num 100)), .persistent, .between 10 10000, 0⟩
def Ent.LC_OPEN_LOAD_I : Entry :=
  ⟨"LC_OPEN_LOAD_I", 0x9000, 40, 0x0E, 1, 1, .u16, .rws, (.same (.num 20)), .persistent, .between 0 1000, 0⟩
def Ent.LC_OPEN_LOAD_TIME : Entry :=
  ⟨"LC_OPEN_LOAD_TIME", 0x9000, 40, 0x0F, 1, 1, .u16, .rws, (.same (.num 100)), .persistent, .between 10 10000, 0⟩
def Ent.LC_CLAMP_BUDGET : Entry :=
  ⟨"LC_CLAMP_BUDGET", 0x9000, 40, 0x10, 1, 1, .u16, .rws, (.same (.num 600)), .persistent, .between 50 1000, 0⟩
def Ent.LC_CLAMP_LEAK : Entry :=
  ⟨"LC_CLAMP_LEAK", 0x9000, 40, 0x11, 1, 1, .u16, .rws, (.same (.num 20)), .persistent, .between 1 1000, 0⟩
def Ent.LC_STATE : Entry :=
  ⟨"LC_STATE", 0x9000, 40, 0x12, 1, 1, .u8, .ro, (.same (.num 0)), .volatile, .any, 0⟩
def Ent.LC_STATUS : Entry :=
  ⟨"LC_STATUS", 0x9000, 40, 0x13, 1, 1, .u32, .ro, (.same (.num 0)), .volatile, .any, 0⟩
def Ent.LC_OWNER : Entry :=
  ⟨"LC_OWNER", 0x9000, 40, 0x14, 1, 1, .u8, .ro, (.same (.num 0)), .volatile, .any, 0⟩
def Ent.LC_CURRENT : Entry :=
  ⟨"LC_CURRENT", 0x9000, 40, 0x15, 1, 1, .f32, .ro, (.same (.num 0)), .volatile, .any, 0⟩
def Ent.LC_TEMP_RISE : Entry :=
  ⟨"LC_TEMP_RISE", 0x9000, 40, 0x16, 1, 1, .f32, .ro, (.same (.num 0)), .volatile, .any, 0⟩
def Ent.LC_CLAMP_ENERGY : Entry :=
  ⟨"LC_CLAMP_ENERGY", 0x9000, 40, 0x17, 1, 1, .f32, .ro, (.same (.num 0)), .volatile, .any, 0⟩
def Ent.LC_RETRIES_USED : Entry :=
  ⟨"LC_RETRIES_USED", 0x9000, 40, 0x18, 1, 1, .u8, .ro, (.same (.num 0)), .volatile, .any, 0⟩
def Ent.LC_RESET : Entry :=
  ⟨"LC_RESET", 0x9000, 40, 0x19, 1, 1, .u8, .wo, (.same (.num 0)), .volatile, .oneOf [1], 0⟩
def Ent.LC_TRIP_COUNT : Entry :=
  ⟨"LC_TRIP_COUNT", 0x9000, 40, 0x1A, 1, 1, .u32, .ro, (.same (.num 0)), .persistent, .any, 0⟩
def Ent.LC_TEST : Entry :=
  ⟨"LC_TEST", 0x9000, 40, 0x1B, 1, 1, .u8, .wo, (.same (.num 0)), .volatile, .oneOf [1], 0⟩
def Ent.LC_TEST_RESULT : Entry :=
  ⟨"LC_TEST_RESULT", 0x9000, 40, 0x1C, 1, 1, .u16, .ro, (.same (.num 0)), .volatile, .any, 0⟩

/-! Table 16-9 (16_load_switches.md). -/

def Ent.HALF_CURRENT_A : Entry :=
  ⟨"HALF_CURRENT_A", 0x9040, 1, 0x01, 1, 1, .f32, .ro, (.same (.num 0)), .volatile, .any, 0⟩
def Ent.HALF_CURRENT_B : Entry :=
  ⟨"HALF_CURRENT_B", 0x9040, 1, 0x02, 1, 1, .f32, .ro, (.same (.num 0)), .volatile, .any, 0⟩
def Ent.VAUX_A : Entry :=
  ⟨"VAUX_A", 0x9040, 1, 0x03, 1, 1, .f32, .ro, (.same (.num 0)), .volatile, .any, 0⟩
def Ent.VAUX_B : Entry :=
  ⟨"VAUX_B", 0x9040, 1, 0x04, 1, 1, .f32, .ro, (.same (.num 0)), .volatile, .any, 0⟩
def Ent.CONDUCTION_LOSS : Entry :=
  ⟨"CONDUCTION_LOSS", 0x9040, 1, 0x05, 1, 1, .f32, .ro, (.same (.num 0)), .volatile, .any, 0⟩
def Ent.FAILSAFE_ACTIVE : Entry :=
  ⟨"FAILSAFE_ACTIVE", 0x9040, 1, 0x06, 1, 1, .u8, .ro, (.same (.num 0)), .volatile, .any, 0⟩
def Ent.FAILSAFE_COUNT : Entry :=
  ⟨"FAILSAFE_COUNT", 0x9040, 1, 0x07, 1, 1, .u32, .ro, (.same (.num 0)), .persistent, .any, 0⟩
def Ent.WATCHDOG_REJECTS : Entry :=
  ⟨"WATCHDOG_REJECTS", 0x9040, 1, 0x08, 1, 1, .u32, .ro, (.same (.num 0)), .volatile, .any, 0⟩

/-! Table 17-6 (17_eusor_powerline.md). -/

def Ent.EUSOR_ENABLE : Entry :=
  ⟨"EUSOR_ENABLE", 0xA180, 1, 0x01, 1, 1, .bool, .rws, (.same (.num 0)), .persistent, .any, 0⟩
def Ent.EUSOR_NETWORK_ID : Entry :=
  ⟨"EUSOR_NETWORK_ID", 0xA180, 1, 0x02, 1, 1, .u16, .rws, (.same (.num 1)), .persistent, .between 1 65534, 0⟩
def Ent.EUSOR_MAINS_FREQ : Entry :=
  ⟨"EUSOR_MAINS_FREQ", 0xA180, 1, 0x03, 1, 1, .u8, .rws, (.same (.num 50)), .persistent, .oneOf [50, 60], 0⟩
def Ent.NOTCH_MASK : Entry :=
  ⟨"NOTCH_MASK", 0xA180, 1, 0x04, 1, 1, .blob, .rws, (.same (.bytes (List.replicate 139 0))), .persistent, .len 139, 139⟩
def Ent.HOP_PENALTY : Entry :=
  ⟨"HOP_PENALTY", 0xA180, 1, 0x05, 1, 1, .u16, .rws, (.same (.num 10)), .persistent, .between 0 1000, 0⟩
def Ent.ROUTE_PERIOD : Entry :=
  ⟨"ROUTE_PERIOD", 0xA180, 1, 0x06, 1, 1, .u16, .rws, (.same (.num 25)), .persistent, .between 5 1000, 0⟩
def Ent.TM_MAX_AGE : Entry :=
  ⟨"TM_MAX_AGE", 0xA180, 1, 0x07, 1, 1, .u16, .rws, (.same (.num 30)), .persistent, .between 5 600, 0⟩
def Ent.AUX_IMBALANCE_LIMIT : Entry :=
  ⟨"AUX_IMBALANCE_LIMIT", 0xA180, 1, 0x08, 1, 1, .u32, .rws, (.same (.num 20000)), .persistent, .between 1000 1000000, 0⟩
def Ent.AUX_DEFER_MAX : Entry :=
  ⟨"AUX_DEFER_MAX", 0xA180, 1, 0x09, 1, 1, .u16, .rws, (.same (.num 600)), .persistent, .between 0 3600, 0⟩
def Ent.PHASE_LOAD_L1 : Entry :=
  ⟨"PHASE_LOAD_L1", 0xA180, 1, 0x0A, 1, 1, .u32, .ro, (.same (.num 0)), .volatile, .any, 0⟩
def Ent.PHASE_LOAD_L2 : Entry :=
  ⟨"PHASE_LOAD_L2", 0xA180, 1, 0x0B, 1, 1, .u32, .ro, (.same (.num 0)), .volatile, .any, 0⟩
def Ent.PHASE_LOAD_L3 : Entry :=
  ⟨"PHASE_LOAD_L3", 0xA180, 1, 0x0C, 1, 1, .u32, .ro, (.same (.num 0)), .volatile, .any, 0⟩
def Ent.BEACON_PERIOD_NS : Entry :=
  ⟨"BEACON_PERIOD_NS", 0xA180, 1, 0x0D, 1, 1, .u32, .ro, (.same (.num 0)), .volatile, .any, 0⟩
def Ent.EUSOR_STATUS : Entry :=
  ⟨"EUSOR_STATUS", 0xA180, 1, 0x0E, 1, 1, .u32, .ro, (.same (.num 0)), .volatile, .any, 0⟩

/-! Table 17-8 (17_eusor_powerline.md). -/

def Ent.NODE_UID : Entry :=
  ⟨"NODE_UID", 0xA200, 128, 0x01, 1, 1, .u64, .rws, (.same (.num 0)), .persistent, .between 0 281474976710655, 0⟩
def Ent.NODE_ENABLE : Entry :=
  ⟨"NODE_ENABLE", 0xA200, 128, 0x02, 1, 1, .bool, .rws, (.same (.num 0)), .persistent, .any, 0⟩
def Ent.POLL_PERIOD : Entry :=
  ⟨"POLL_PERIOD", 0xA200, 128, 0x03, 1, 1, .u8, .rws, (.same (.num 1)), .persistent, .between 1 16, 0⟩
def Ent.NODE_STATE : Entry :=
  ⟨"NODE_STATE", 0xA200, 128, 0x04, 1, 1, .u8, .ro, (.same (.num 0)), .volatile, .any, 0⟩
def Ent.NODE_STATUS : Entry :=
  ⟨"NODE_STATUS", 0xA200, 128, 0x05, 1, 1, .u32, .ro, (.same (.num 0)), .volatile, .any, 0⟩
def Ent.HOPS : Entry :=
  ⟨"HOPS", 0xA200, 128, 0x06, 1, 1, .u8, .ro, (.same (.num 0)), .volatile, .any, 0⟩
def Ent.ROUTE : Entry :=
  ⟨"ROUTE", 0xA200, 128, 0x07, 1, 1, .blob, .ro, (.same (.bytes [])), .volatile, .any, 65535⟩
def Ent.ROUTE_COST : Entry :=
  ⟨"ROUTE_COST", 0xA200, 128, 0x08, 1, 1, .u16, .ro, (.same (.num 0)), .volatile, .any, 0⟩
def Ent.AUX_LOAD : Entry :=
  ⟨"AUX_LOAD", 0xA200, 128, 0x09, 1, 1, .u32, .ro, (.same (.num 0)), .volatile, .any, 0⟩
def Ent.NODE_BLOCKS_SENT : Entry :=
  ⟨"BLOCKS_SENT", 0xA200, 128, 0x0A, 1, 1, .u32, .ro, (.same (.num 0)), .volatile, .any, 0⟩
def Ent.BLOCKS_RESENT : Entry :=
  ⟨"BLOCKS_RESENT", 0xA200, 128, 0x0B, 1, 1, .u32, .ro, (.same (.num 0)), .volatile, .any, 0⟩
def Ent.POLL_FAILS : Entry :=
  ⟨"POLL_FAILS", 0xA200, 128, 0x0C, 1, 1, .u32, .ro, (.same (.num 0)), .volatile, .any, 0⟩
def Ent.POINT_SELECT : Entry :=
  ⟨"POINT_SELECT", 0xA200, 128, 0x0D, 1, 1, .u8, .rw, (.same (.num 0)), .volatile, .any, 0⟩
def Ent.POINT_VALUE : Entry :=
  ⟨"POINT_VALUE", 0xA200, 128, 0x0E, 1, 1, .f32, .ro, (.same (.num 0)), .volatile, .any, 0⟩
def Ent.POINT_AGE : Entry :=
  ⟨"POINT_AGE", 0xA200, 128, 0x0F, 1, 1, .u32, .ro, (.same (.num 0)), .volatile, .any, 0⟩

/-! Table 18-8 (18_keys_security.md). -/

def Ent.DEVICE_ID : Entry :=
  ⟨"DEVICE_ID", 0xB000, 1, 0x01, 1, 1, .u64, .ro, (.same (.num 0)), .volatile, .any, 0⟩
def Ent.IDENTITY_CERT : Entry :=
  ⟨"IDENTITY_CERT", 0xB000, 1, 0x02, 1, 1, .blob, .ro, (.same (.bytes [])), .persistent, .any, 65535⟩
def Ent.RECOVERY_CERT : Entry :=
  ⟨"RECOVERY_CERT", 0xB000, 1, 0x03, 1, 1, .blob, .ro, (.same (.bytes [])), .persistent, .any, 65535⟩
def Ent.TRANSPORT_CERT : Entry :=
  ⟨"TRANSPORT_CERT", 0xB000, 1, 0x04, 1, 1, .blob, .ro, (.same (.bytes [])), .volatile, .any, 65535⟩
def Ent.DEVICE_TLS_CERT : Entry :=
  ⟨"DEVICE_TLS_CERT", 0xB000, 1, 0x05, 1, 1, .blob, .ro, (.same (.bytes [])), .volatile, .any, 65535⟩
def Ent.METER_CERT_M0 : Entry :=
  ⟨"METER_CERT_M0", 0xB000, 1, 0x06, 1, 1, .blob, .ro, (.same (.bytes [])), .volatile, .any, 65535⟩
def Ent.METER_CERT_M1 : Entry :=
  ⟨"METER_CERT_M1", 0xB000, 1, 0x07, 1, 1, .blob, .ro, (.same (.bytes [])), .volatile, .any, 65535⟩
def Ent.MEAS_BOOT : Entry :=
  ⟨"MEAS_BOOT", 0xB000, 1, 0x08, 1, 1, .blob, .ro, (.same (.bytes (List.replicate 48 0))), .volatile, .any, 48⟩
def Ent.MEAS_MAIN : Entry :=
  ⟨"MEAS_MAIN", 0xB000, 1, 0x09, 1, 1, .blob, .ro, (.same (.bytes (List.replicate 48 0))), .volatile, .any, 48⟩
def Ent.MEAS_LEGAL_M0 : Entry :=
  ⟨"MEAS_LEGAL_M0", 0xB000, 1, 0x0A, 1, 1, .blob, .ro, (.same (.bytes (List.replicate 48 0))), .volatile, .any, 48⟩
def Ent.MEAS_LEGAL_M1 : Entry :=
  ⟨"MEAS_LEGAL_M1", 0xB000, 1, 0x0B, 1, 1, .blob, .ro, (.same (.bytes (List.replicate 48 0))), .volatile, .any, 48⟩
def Ent.KY_SERVING : Entry :=
  ⟨"KY_SERVING", 0xB000, 1, 0x0C, 1, 1, .u8, .ro, (.same (.num 0)), .volatile, .any, 0⟩
def Ent.PUF_MARGIN : Entry :=
  ⟨"PUF_MARGIN", 0xB000, 1, 0x0D, 1, 1, .u16, .ro, (.same (.num 0)), .volatile, .any, 0⟩
def Ent.ZEROISE_EPOCH : Entry :=
  ⟨"ZEROISE_EPOCH", 0xB000, 1, 0x0E, 1, 1, .u8, .ro, (.same (.num 0)), .volatile, .any, 0⟩
def Ent.KEY_WRITE_MODE : Entry :=
  ⟨"KEY_WRITE_MODE", 0xB000, 1, 0x0F, 1, 1, .u8, .rws, (.same (.num 1)), .persistent, .between 0 1, 0⟩
def Ent.KEY_PENDING_TIMEOUT : Entry :=
  ⟨"KEY_PENDING_TIMEOUT", 0xB000, 1, 0x10, 1, 1, .u16, .rw, (.same (.num 3600)), .persistent, .between 60 65535, 0⟩
def Ent.REWRAP_STATE : Entry :=
  ⟨"REWRAP_STATE", 0xB000, 1, 0x11, 1, 1, .u8, .ro, (.same (.num 0)), .volatile, .any, 0⟩
def Ent.TAMPER_STATUS : Entry :=
  ⟨"TAMPER_STATUS", 0xB000, 1, 0x12, 1, 1, .u32, .ro, (.same (.num 0)), .volatile, .any, 0⟩
def Ent.SECC_SLOT : Entry :=
  ⟨"SECC_SLOT", 0xB010, 1, 0x01, 8, 1, .u8, .rws, (.same (.num 255)), .persistent, .betweenOr 0 63 255, 0⟩
def Ent.TAMPER_CONFIG : Entry :=
  ⟨"TAMPER_CONFIG", 0xB020, 1, 0x01, 4, 1, .u8, .rws, (.same (.num 1)), .persistent, .between 0 3, 0⟩
def Ent.TAMPER_ENV_ACTION : Entry :=
  ⟨"TAMPER_ENV_ACTION", 0xB020, 1, 0x05, 1, 1, .u8, .rws, (.same (.num 1)), .persistent, .between 0 3, 0⟩
def Ent.ANCHOR_CERT : Entry :=
  ⟨"ANCHOR_CERT", 0xB040, 16, 0x01, 1, 1, .blob, .rws, (.same (.bytes [])), .persistent, .derMax 2048, 2048⟩
def Ent.ANCHOR_ROLE : Entry :=
  ⟨"ANCHOR_ROLE", 0xB040, 16, 0x02, 1, 1, .u8, .rws, (.same (.num 0)), .persistent, .between 0 5, 0⟩
def Ent.ANCHOR_ENABLE : Entry :=
  ⟨"ANCHOR_ENABLE", 0xB040, 16, 0x03, 1, 1, .bool, .rws, (.same (.num 0)), .persistent, .any, 0⟩
def Ent.SLOT_INFO : Entry :=
  ⟨"SLOT_INFO", 0xB100, 64, 0x01, 1, 1, .record, .ro, (.same (.bytes (List.replicate 32 0))), .persistent, .any, 32⟩
def Ent.SLOT_PUBLIC : Entry :=
  ⟨"SLOT_PUBLIC", 0xB100, 64, 0x02, 1, 1, .blob, .ro, (.same (.bytes [])), .persistent, .any, 65535⟩
def Ent.SLOT_CERT : Entry :=
  ⟨"SLOT_CERT", 0xB100, 64, 0x03, 1, 1, .blob, .rw, (.same (.bytes [])), .persistent, .any, 65535⟩
def Ent.KEY_UPDATE : Entry :=
  ⟨"KEY_UPDATE", 0xB100, 64, 0x04, 1, 1, .blob, .wo, (.same (.bytes [])), .volatile, .len 320, 320⟩
def Ent.KEY_CHALLENGE : Entry :=
  ⟨"KEY_CHALLENGE", 0xB100, 64, 0x05, 1, 1, .blob, .wo, (.same (.bytes [])), .volatile, .len 32, 32⟩
def Ent.KEY_RESPONSE : Entry :=
  ⟨"KEY_RESPONSE", 0xB100, 64, 0x06, 1, 1, .blob, .ro, (.same (.bytes [])), .volatile, .any, 65535⟩
def Ent.KEY_CONFIRM : Entry :=
  ⟨"KEY_CONFIRM", 0xB100, 64, 0x07, 1, 1, .u64, .wo, (.same (.num 0)), .volatile, .any, 0⟩
def Ent.PENDING_PUBLIC : Entry :=
  ⟨"PENDING_PUBLIC", 0xB100, 64, 0x08, 1, 1, .blob, .ro, (.same (.bytes [])), .volatile, .any, 65535⟩

/-! Table 19-4 (19_firmware_update.md). -/

def Ent.FW_UPDATE_STATUS : Entry :=
  ⟨"FW_UPDATE_STATUS", 0xD000, 1, 0x01, 1, 1, .u32, .ro, (.same (.num 0)), .volatile, .any, 0⟩
def Ent.RUNNING_SLOT : Entry :=
  ⟨"RUNNING_SLOT", 0xD000, 1, 0x02, 1, 1, .u8, .ro, (.same (.num 0)), .persistent, .any, 0⟩
def Ent.RUNNING_LEGAL_SLOT : Entry :=
  ⟨"RUNNING_LEGAL_SLOT", 0xD000, 1, 0x03, 1, 1, .u8, .ro, (.same (.num 2)), .persistent, .any, 0⟩
def Ent.STATE_FORMAT : Entry :=
  ⟨"STATE_FORMAT", 0xD000, 1, 0x04, 1, 1, .u16, .ro, (.same (.num 0)), .volatile, .any, 0⟩
def Ent.ROLLBACK_MAIN : Entry :=
  ⟨"ROLLBACK_MAIN", 0xD000, 1, 0x05, 1, 1, .u8, .ro, (.same (.num 0)), .volatile, .any, 0⟩
def Ent.ROLLBACK_LEGAL : Entry :=
  ⟨"ROLLBACK_LEGAL", 0xD000, 1, 0x06, 1, 1, .u8, .ro, (.same (.num 0)), .volatile, .any, 0⟩
def Ent.PREPARE_LEAD : Entry :=
  ⟨"PREPARE_LEAD", 0xD000, 1, 0x07, 1, 1, .u32, .rws, (.same (.num 5000)), .persistent, .between 3000 600000, 0⟩
def Ent.TRIAL_TIME : Entry :=
  ⟨"TRIAL_TIME", 0xD000, 1, 0x08, 1, 1, .u32, .rws, (.same (.num 3600)), .persistent, .between 60 604800, 0⟩
def Ent.TRIAL_POLICY : Entry :=
  ⟨"TRIAL_POLICY", 0xD000, 1, 0x09, 1, 1, .u8, .rws, (.same (.num 0)), .persistent, .between 0 1, 0⟩
def Ent.TRIAL_LEFT : Entry :=
  ⟨"TRIAL_LEFT", 0xD000, 1, 0x0A, 1, 1, .u32, .ro, (.same (.num 0)), .volatile, .any, 0⟩
def Ent.FW_CONFIRM : Entry :=
  ⟨"FW_CONFIRM", 0xD000, 1, 0x0B, 1, 1, .u8, .wo, (.same (.num 0)), .volatile, .oneOf [1], 0⟩
def Ent.FW_FALLBACK : Entry :=
  ⟨"FW_FALLBACK", 0xD000, 1, 0x0C, 1, 1, .u8, .wo, (.same (.num 0)), .volatile, .oneOf [1], 0⟩
def Ent.LEGAL_STAGGER : Entry :=
  ⟨"LEGAL_STAGGER", 0xD000, 1, 0x0D, 1, 1, .u32, .leg, (.same (.num 60000)), .persistent, .between 1000 3600000, 0⟩
def Ent.RECOVERY_BOOT : Entry :=
  ⟨"RECOVERY_BOOT", 0xD000, 1, 0x0E, 1, 1, .u8, .wo, (.same (.num 0)), .volatile, .between 0 3, 0⟩
def Ent.SLOT_STATE : Entry :=
  ⟨"SLOT_STATE", 0xD010, 4, 0x01, 1, 1, .u8, .ro, (.same (.num 0)), .persistent, .any, 0⟩
def Ent.SLOT_MANIFEST : Entry :=
  ⟨"SLOT_MANIFEST", 0xD010, 4, 0x02, 1, 1, .blob, .wo, (.same (.bytes [])), .volatile, .any, 4448⟩
def Ent.SLOT_BLOCK : Entry :=
  ⟨"SLOT_BLOCK", 0xD010, 4, 0x03, 1, 1, .blob, .wo, (.same (.bytes [])), .volatile, .any, 32770⟩
def Ent.SLOT_VERSION : Entry :=
  ⟨"SLOT_VERSION", 0xD010, 4, 0x04, 1, 1, .u16, .ro, (.same (.num 0)), .persistent, .any, 0⟩
def Ent.SLOT_BLOCKS_OK : Entry :=
  ⟨"SLOT_BLOCKS_OK", 0xD010, 4, 0x05, 1, 1, .u16, .ro, (.same (.num 0)), .persistent, .any, 0⟩
def Ent.SLOT_MEASUREMENT : Entry :=
  ⟨"SLOT_MEASUREMENT", 0xD010, 4, 0x06, 1, 1, .blob, .ro, (.same (.bytes (List.replicate 48 0))), .persistent, .any, 48⟩
def Ent.SLOT_ERASE : Entry :=
  ⟨"SLOT_ERASE", 0xD010, 4, 0x07, 1, 1, .u8, .wo, (.same (.num 0)), .volatile, .oneOf [1], 0⟩
def Ent.SLOT_RESULT : Entry :=
  ⟨"SLOT_RESULT", 0xD010, 4, 0x08, 1, 1, .u16, .ro, (.same (.num 0)), .volatile, .any, 0⟩

/-! Table 20-4 (20_streaming_service_ports.md). -/

def Ent.STREAM_ENABLE : Entry :=
  ⟨"STREAM_ENABLE", 0xA300, 1, 0x01, 1, 1, .bool, .rws, (.same (.num 0)), .persistent, .any, 0⟩
def Ent.STREAM_MASK : Entry :=
  ⟨"STREAM_MASK", 0xA300, 1, 0x02, 1, 1, .u8, .rw, (.same (.num 0)), .persistent, .between 0 127, 0⟩
def Ent.BUS_MIRROR_CHANNELS : Entry :=
  ⟨"BUS_MIRROR_CHANNELS", 0xA300, 1, 0x03, 1, 1, .u8, .rw, (.same (.num 15)), .persistent, .between 0 15, 0⟩
def Ent.WINDOW_DIES : Entry :=
  ⟨"WINDOW_DIES", 0xA300, 1, 0x04, 1, 1, .u8, .rw, (.same (.num 1)), .persistent, .oneOf [1, 2, 3], 0⟩
def Ent.PORT_STATE : Entry :=
  ⟨"PORT_STATE", 0xA300, 1, 0x05, 1, 1, .u8, .ro, (.same (.num 0)), .volatile, .any, 0⟩
def Ent.CREDITS_AVAILABLE : Entry :=
  ⟨"CREDITS_AVAILABLE", 0xA300, 1, 0x06, 1, 1, .u8, .ro, (.same (.num 0)), .volatile, .any, 0⟩
def Ent.STREAM_BLOCKS_SENT : Entry :=
  ⟨"BLOCKS_SENT", 0xA300, 1, 0x07, 1, 1, .u64, .ro, (.same (.num 0)), .volatile, .any, 0⟩
def Ent.IN_ERRORS : Entry :=
  ⟨"IN_ERRORS", 0xA300, 1, 0x08, 1, 1, .u32, .ro, (.same (.num 0)), .volatile, .any, 0⟩
def Ent.STREAM_DROPPED : Entry :=
  ⟨"STREAM_DROPPED", 0xA300, 1, 0x11, 7, 1, .u32, .ro, (.same (.num 0)), .volatile, .any, 0⟩
def Ent.SERVICE_PORT_ENABLE : Entry :=
  ⟨"SERVICE_PORT_ENABLE", 0xA310, 1, 0x01, 1, 1, .bool, .rws, (.same (.num 1)), .persistent, .any, 0⟩
def Ent.SERVICE_PHY_ADDR : Entry :=
  ⟨"SERVICE_PHY_ADDR", 0xA310, 1, 0x02, 1, 1, .u8, .rws, (.same (.num 0)), .persistent, .between 0 31, 0⟩
def Ent.SERVICE_LINK : Entry :=
  ⟨"SERVICE_LINK", 0xA310, 1, 0x03, 1, 1, .u8, .ro, (.same (.num 0)), .volatile, .any, 0⟩
def Ent.SERVICE_ADDRESS : Entry :=
  ⟨"SERVICE_ADDRESS", 0xA310, 1, 0x04, 1, 1, .str, .ro, (.same (.bytes [])), .volatile, .any, 255⟩
def Ent.RECOVERY_ENTER : Entry :=
  ⟨"RECOVERY_ENTER", 0xA310, 1, 0x05, 1, 1, .u8, .wo, (.same (.num 0)), .volatile, .oneOf [1], 0⟩

/-! Table 21-8 (21_power_up_states.md). -/

def Ent.DEVICE_STATE : Entry :=
  ⟨"DEVICE_STATE", 0xC002, 1, 0x01, 1, 1, .u8, .ro, (.same (.num 3)), .volatile, .any, 0⟩
def Ent.DEVICE_STATUS : Entry :=
  ⟨"DEVICE_STATUS", 0xC002, 1, 0x02, 1, 1, .u32, .ro, (.same (.num 3)), .volatile, .any, 0⟩
def Ent.SUPPLY_STATUS : Entry :=
  ⟨"SUPPLY_STATUS", 0xC002, 1, 0x03, 1, 1, .u32, .ro, (.same (.num 0)), .volatile, .any, 0⟩
def Ent.SLEEP_REQUEST : Entry :=
  ⟨"SLEEP_REQUEST", 0xC002, 1, 0x04, 1, 1, .bool, .rw, (.same (.num 0)), .volatile, .any, 0⟩
def Ent.SHIP_REQUEST : Entry :=
  ⟨"SHIP_REQUEST", 0xC002, 1, 0x05, 1, 1, .u8, .wo, (.same (.num 0)), .volatile, .oneOf [1], 0⟩
def Ent.RECOVERY_EXIT : Entry :=
  ⟨"RECOVERY_EXIT", 0xC002, 1, 0x06, 1, 1, .u8, .wo, (.same (.num 0)), .volatile, .oneOf [1], 0⟩
def Ent.TEST_ENTER : Entry :=
  ⟨"TEST_ENTER", 0xC002, 1, 0x07, 1, 1, .u8, .wo, (.same (.num 0)), .volatile, .oneOf [1], 0⟩
def Ent.START_COUNT : Entry :=
  ⟨"START_COUNT", 0xC002, 1, 0x08, 1, 1, .u32, .ro, (.same (.num 0)), .persistent, .any, 0⟩
def Ent.LAST_START_CAUSE : Entry :=
  ⟨"LAST_START_CAUSE", 0xC002, 1, 0x09, 1, 1, .u8, .ro, (.same (.num 0)), .persistent, .any, 0⟩
def Ent.BOOT_TIME : Entry :=
  ⟨"BOOT_TIME", 0xC002, 1, 0x0A, 1, 1, .u32, .ro, (.same (.num 0)), .volatile, .any, 0⟩
def Ent.FLUSH_COUNT : Entry :=
  ⟨"FLUSH_COUNT", 0xC002, 1, 0x0B, 1, 1, .u32, .ro, (.same (.num 0)), .persistent, .any, 0⟩
def Ent.LAST_FLUSH_SFN : Entry :=
  ⟨"LAST_FLUSH_SFN", 0xC002, 1, 0x0C, 1, 1, .u64, .ro, (.same (.num 0)), .persistent, .any, 0⟩

/-! Table 22-13 (22_electrical_package.md). -/

def Ent.ETH_TX_DELAY_0 : Entry :=
  ⟨"ETH_TX_DELAY_0", 0xA000, 1, 0x01, 1, 1, .u16, .rws, (.same (.num 0)), .persistent, .between 0 5000, 0⟩
def Ent.ETH_RX_DELAY_0 : Entry :=
  ⟨"ETH_RX_DELAY_0", 0xA000, 1, 0x02, 1, 1, .u16, .rws, (.same (.num 0)), .persistent, .between 0 5000, 0⟩
def Ent.ETH_TX_DELAY_1 : Entry :=
  ⟨"ETH_TX_DELAY_1", 0xA000, 1, 0x03, 1, 1, .u16, .rws, (.same (.num 0)), .persistent, .between 0 5000, 0⟩
def Ent.ETH_RX_DELAY_1 : Entry :=
  ⟨"ETH_RX_DELAY_1", 0xA000, 1, 0x04, 1, 1, .u16, .rws, (.same (.num 0)), .persistent, .between 0 5000, 0⟩
def Ent.REFCLK_STATE : Entry :=
  ⟨"REFCLK_STATE", 0xC000, 1, 0x07, 1, 1, .u8, .ro, (.same (.num 0)), .volatile, .any, 0⟩

def Ent.piece1 : List Entry :=
  [Ent.VENDOR_NAME, Ent.PART_NUMBER, Ent.SILICON_REVISION, Ent.FW_MAIN_VERSION, Ent.FW_LEGAL_VERSION, Ent.MODULE_PROFILE_VERSION, Ent.PREBEX_VERSION, Ent.EUSOR_VERSION, Ent.SITE_TIME, Ent.TIME_STATUS, Ent.TIME_SOURCE_MODE, Ent.TIME_SET, Ent.TAI_UTC_OFFSET, Ent.LEAP_PENDING, Ent.EST_TIME_ERROR, Ent.HOLDOVER_ERROR_LIMIT, Ent.REFCLK_STABILITY, Ent.PTP_DOMAIN, Ent.PTP_PRIORITY1, Ent.PTP_PRIORITY2, Ent.CORRECTION_24H, Ent.ACTIONS_ARMED, Ent.GROUP_ACTIONS_ARMED, Ent.CONFIG_SEQUENCE, Ent.ACTIVE_DIGEST, Ent.SHADOW_DIGEST, Ent.SHADOW_DIRTY, Ent.SET_SWAP_NOW, Ent.SHADOW_COPY, Ent.SHADOW_DEFAULTS, Ent.LAST_SWAP, Ent.SWAP_REFUSED_ENTRY, Ent.SWAP_REFUSED_STATUS, Ent.TAGS_IN_USE, Ent.TAGS_HIGH_WATER, Ent.BUSY_REFUSALS, Ent.CLIENT_CONNECTIONS, Ent.DICT_PORT, Ent.SEGMENT_TIMEOUT, Ent.REPLAY_WINDOW]
def Ent.piece2 : List Entry :=
  [Ent.PEER_ADDRESS, Ent.PEER_PORT, Ent.PEER_ENABLED, Ent.PEER_STATE, Ent.GRID_IMPORT_LIMIT, Ent.GRID_EXPORT_LIMIT, Ent.GRID_IMPORT_TARGET, Ent.GRID_EXPORT_TARGET, Ent.MISMATCH_RESERVE, Ent.MODULE_LOSS_ALLOWANCE, Ent.STRING_RAMP_RATE, Ent.STORE_CHARGE_LIMIT, Ent.MODULE_RAMP_FRAMES, Ent.MOVE_HOLDOFF, Ent.MOVE_MIN_GAIN, Ent.MAX_CONCURRENT_MOVES, Ent.ACK_MISS_LIMIT, Ent.ALLOC_STATUS, Ent.ALLOC_COMPUTE_LAST, Ent.ALLOC_COMPUTE_MAX, Ent.SITE_DEMAND, Ent.SITE_SUPPLY, Ent.SITE_GRANTED, Ent.WITHHELD_COUNT, Ent.LAST_PUBLISH_SFN, Ent.STRING_GRANT, Ent.OUTLET_ENABLE, Ent.CONTACTOR_CHANNEL, Ent.LOCK_CHANNEL, Ent.CONFIRM_MCH, Ent.VOLTAGE_MCH, Ent.CURRENT_MCH, Ent.IMD_MCH, Ent.SESSION_TCP_PORT, Ent.CLASS, Ent.WEIGHT, Ent.OUTLET_POWER_LIMIT, Ent.REQUEST_POWER, Ent.CEILING, Ent.GRANT]
def Ent.piece3 : List Entry :=
  [Ent.LIMITED_BY, Ent.MODULES_ASSIGNED, Ent.CABLE_R20, Ent.CABLE_ALPHA, Ent.CABLE_C_COND, Ent.CABLE_R_CW, Ent.CABLE_C_COOL, Ent.CABLE_R_WA, Ent.COOLANT_HEAT_CAP, Ent.CABLE_T_LIMIT, Ent.CABLE_TRIP_TEMP, Ent.PIN_TRIP_TEMP, Ent.CABLE_HORIZON, Ent.CABLE_LIMIT_RISE, Ent.OBS_GAIN, Ent.SUPPLY_TEMP_SOURCE, Ent.RETURN_TEMP_SOURCE, Ent.PIN_TEMP_SOURCE, Ent.AMBIENT_SOURCE, Ent.FLOW_SOURCE, Ent.PUMP_CHANNEL, Ent.FLOW_PER_DUTY, Ent.FLOW_MIN, Ent.SENSOR_MARGIN, Ent.REMOTE_MAX_AGE, Ent.CABLE_STATUS, Ent.T_COND, Ent.T_COOL, Ent.T_COND_PRED, Ent.CABLE_CURRENT_LIMIT, Ent.COOLANT_FLOW, Ent.T_COND_PEAK, Ent.REACH_MASK, Ent.MODULE_ENABLE, Ent.MODULE_STATE, Ent.ASSIGNED_OUTLET, Ent.MODULE_GRANT, Ent.ACK_SFN, Ent.ACK_MISS, Ent.MODULE_BUS_CHANNEL]
def Ent.piece4 : List Entry :=
  [Ent.MODULE_BUS_NODE, Ent.MODULE_BUS_ALT_CHANNEL, Ent.MODULE_BUS_ALT_NODE, Ent.MODULE_BUS_IN_USE, Ent.MODULE_LAST_STATUS_SFN, Ent.MODULE_UNIT_FAULT, Ent.MODULE_UNIT_TEST, Ent.MODULE_UNIT_TEST_RESULT, Ent.FE_HARD_CAP_IMPORT, Ent.FE_HARD_CAP_EXPORT, Ent.FE_ENABLE, Ent.FE_STATE, Ent.FE_GRANT, Ent.FE_CAP_CONFIRMED, Ent.FE_BUS_CHANNEL, Ent.FE_BUS_NODE, Ent.FE_BUS_ALT_CHANNEL, Ent.FE_BUS_ALT_NODE, Ent.FE_BUS_IN_USE, Ent.FE_LAST_STATUS_SFN, Ent.FE_UNIT_FAULT, Ent.FE_UNIT_TEST, Ent.FE_UNIT_TEST_RESULT, Ent.SESSION_STATE, Ent.SESSION_NUMBER, Ent.STOP_REQUEST, Ent.AUTH_KIND, Ent.AUTH_IDENTITY, Ent.AUTH_RESPONSE, Ent.EIM_TOKEN, Ent.CONTROL_MODE, Ent.SERVICE, Ent.EV_MAX_POWER, Ent.EV_MAX_CURRENT, Ent.EV_MAX_VOLTAGE, Ent.EV_TARGET_CURRENT, Ent.EV_MAX_DISCHARGE_POWER, Ent.EV_MAX_DISCHARGE_CURRENT, Ent.EV_SOC, Ent.PRESENT_VOLTAGE]
def Ent.piece5 : List Entry :=
  [Ent.PRESENT_CURRENT, Ent.INSULATION_LAST, Ent.BPT_ENABLE, Ent.OUTLET_FAULT_LATCH, Ent.OUTLET_RESET, Ent.LAST_END_REASON, Ent.SETUP_TIMEOUT, Ent.AUTH_TIMEOUT, Ent.AUTH_OFFLINE_POLICY, Ent.AUTH_DEFAULT_CLASS, Ent.MODULE_WAIT_TIMEOUT, Ent.CABLE_CHECK_TIMEOUT, Ent.PRECHARGE_TIMEOUT, Ent.LOOP_SILENCE_TIMEOUT, Ent.PAUSE_LIMIT, Ent.STOP_TIMEOUT, Ent.FORCED_OPEN_DELAY, Ent.ISO_WARN, Ent.ISO_FAULT, Ent.IMD_FULL_SCALE, Ent.CONFIRM_LOW, Ent.CONFIRM_HIGH, Ent.CONFIRM_OPEN, Ent.ESTOP_STATE, Ent.ESTOP_RESET, Ent.ESTOP_AUTO_RESET, Ent.SESSION_COUNTER, Ent.SESSION_LOG_NEWEST, Ent.SESSION_LOG_OLDEST, Ent.SESSION_LOG_SELECT, Ent.SESSION_LOG_RECORD, Ent.STRING_ENABLE, Ent.STRING_REQUEST, Ent.STRING_STATE, Ent.POS_CHANNEL, Ent.NEG_CHANNEL, Ent.PRE_CHANNEL, Ent.STRING_V_MCH, Ent.STRING_I_MCH, Ent.STRING_IMD_MCH]
def Ent.piece6 : List Entry :=
  [Ent.CELL_V_MAX, Ent.CELL_V_MIN, Ent.CELL_V_TRIP_HIGH, Ent.CELL_V_TRIP_LOW, Ent.CELL_T_TRIP, Ent.STRING_I_TRIP, Ent.I_DIS_TABLE, Ent.I_CHG_TABLE, Ent.R_DEFAULT, Ent.UNKNOWN_MARGIN, Ent.DERATE_FACTOR, Ent.STRING_DERATE, Ent.LIMIT_RISE, Ent.PRECHARGE_DONE, Ent.PRECHARGE_T_MIN, Ent.PRECHARGE_T_MAX, Ent.PRECHARGE_ATTEMPTS, Ent.OPEN_CURRENT, Ent.OPEN_TIMEOUT, Ent.WELD_CHECK_TIME, Ent.STR_ISO_WARN, Ent.STR_ISO_FAULT, Ent.STR_IMD_FULL_SCALE, Ent.ISO_FAULT_TIME, Ent.RECONNECT_HOLDOFF, Ent.STRING_FAILSAFE, Ent.STRING_RESET, Ent.STRING_TEST, Ent.STRING_TEST_RESULT, Ent.STRING_STATUS, Ent.STRING_LIMIT_DIS, Ent.STRING_LIMIT_CHG, Ent.I_LIMIT_DIS, Ent.I_LIMIT_CHG, Ent.STRING_VOLTAGE, Ent.STRING_CURRENT, Ent.CONVERTER_SIDE_V, Ent.DERATE_CAUSES, Ent.LAST_OPEN_CAUSE, Ent.LAST_OPEN_SFN]
def Ent.piece7 : List Entry :=
  [Ent.CONNECT_COUNT, Ent.INSULATION_STR, Ent.OCV_TABLE, Ent.CAP_RATE_TABLE, Ent.R_TEMP_TABLE, Ent.Q_RATED, Ent.TAU1, Ent.TAU2, Ent.CHARGE_EFFICIENCY, Ent.FUSION_GAIN, Ent.CONF_HIGH, Ent.SLOPE_FULL, Ent.CORR_LIMIT, Ent.DISAGREE_LIMIT, Ent.DISAGREE_TIME, Ent.STEP_MIN, Ent.RLS_FORGET, Ent.CAP_MIN_SWING, Ent.CAP_GAIN, Ent.REST_TIME, Ent.BALANCE_ENABLE, Ent.BALANCE_MODE, Ent.BALANCE_AH_MIN, Ent.BLEED_CURRENT, Ent.BALANCE_MAX_TIME, Ent.SOH_WARN, Ent.RES_WARN, Ent.STRING_SOC, Ent.STRING_AH_AVAILABLE, Ent.STRING_AH_USABLE, Ent.STRING_AH_TO_FULL, Ent.STRING_SOH, Ent.EST_STATUS, Ent.EST_RESET, Ent.DISAGREE_COUNT, Ent.LIFETIME_AH_DIS, Ent.LIFETIME_AH_CHG, Ent.REJECT_COUNT, Ent.MONITOR_STATE, Ent.MONITOR_UID]
def Ent.piece8 : List Entry :=
  [Ent.MONITOR_STRING, Ent.POSITION, Ent.CELL_COUNT, Ent.MONITOR_KIND, Ent.MONITOR_FW, Ent.MISS_COUNT, Ent.LAST_SWEEP_SFN, Ent.RSSI_0, Ent.RSSI_1, Ent.STACK_V, Ent.DIAG_CODE, Ent.CELL_FLAGS, Ent.SUSPECT_WIRES, Ent.WIRE_STATE, Ent.BREAK_SFN, Ent.ALARM_RESET, Ent.MONITOR_TEST, Ent.MONITOR_TEST_RESULT, Ent.CELL_V, Ent.TEMP, Ent.CELL_BOUND, Ent.CELL_SOC, Ent.CELL_Q, Ent.CELL_R0, Ent.CELL_R1, Ent.CELL_R2, Ent.LEARN_STATUS, Ent.CELL_R_LIMIT, Ent.MONITOR_FIRST, Ent.MONITOR_COUNT, Ent.ROPE_STATE, Ent.SWEEP_STATUS, Ent.SWEEP_CURRENT, Ent.SWEEP_SFN, Ent.PARTIAL_COUNT, Ent.CELL_OV_LOCAL, Ent.CELL_UV_LOCAL, Ent.CELL_OT_LOCAL, Ent.MONITOR_LOCK, Ent.ACCEPT_REPLACEMENT]
def Ent.piece9 : List Entry :=
  [Ent.ROPE_REENUMERATE, Ent.CELLS_FITTED, Ent.NETWORK_ID, Ent.HOP_MAP, Ent.HOP_MAP_IN_USE, Ent.RF_TX_POWER, Ent.SAMPLE_START, Ent.AVG_WINDOW, Ent.BEACON_LOSS_TIMEOUT, Ent.SLEEP_CHECK_PERIOD, Ent.BREAK_DELTA, Ent.PAIR_TOL, Ent.STACK_TOL, Ent.STRING_TOL, Ent.RX_OK_0, Ent.RX_OK_1, Ent.RX_CONFLICT, Ent.PHASE_GROUP, Ent.FIRE_POSITION, Ent.L_PHASE, Ent.PHASE_I_MCH, Ent.PHI_SCALE, Ent.PHI_TRIP, Ent.PHASE_STATE, Ent.PHASE_CAUSE, Ent.PHASE_CURRENT, Ent.PHASE_TRIM, Ent.FAST_TRIP_COUNT, Ent.PHASE_ON_HOURS, Ent.PHASE_RESET, Ent.PHASE_TEST, Ent.PHASE_TEST_RESULT, Ent.GROUP_ENABLE, Ent.HIGH_SIDE, Ent.BUS_V_MCH, Ent.STRING_SIDE_V_MCH, Ent.F_SW, Ent.DEAD_TIME, Ent.MIN_OFF, Ent.PHASE_I_RATED]
def Ent.piece10 : List Entry :=
  [Ent.CONV_RATING, Ent.MIN_PHASES, Ent.SHED_ENABLE, Ent.ADD_FRACTION, Ent.SHED_FRACTION, Ent.SHED_DELAY, Ent.READD_RAMP, Ent.STEP_DETECT, Ent.LL_V0, Ent.LL_GAIN, Ent.LL_DEADBAND, Ent.BALANCE_GAIN, Ent.OVERLOAD_TIME, Ent.FAST_TRIP_HOLD, Ent.FAST_RETRY_LIMIT, Ent.GROUP_STATUS, Ent.P_CMD, Ent.I_REF, Ent.T_ON_TICKS, Ent.SW_FREQ, Ent.GROUP_LIMIT_DIS, Ent.GROUP_LIMIT_CHG, Ent.PHASES_ON, Ent.GROUP_RESET, Ent.STEP_COUNT, Ent.SHED_COUNT, Ent.LOOP_ENABLE, Ent.LOOP_DIVIDER, Ent.LOOP_PHASE, Ent.REF_SOURCE, Ent.FB_SOURCE, Ent.FF_SOURCE, Ent.OUT_TARGET, Ent.LOOP_SETPOINT, Ent.LOOP_KP, Ent.LOOP_KI, Ent.LOOP_KFF, Ent.LOOP_OUT_MIN, Ent.LOOP_OUT_MAX, Ent.SLEW_MAX]
def Ent.piece11 : List Entry :=
  [Ent.AW_MODE, Ent.KAW, Ent.SECTION_COUNT, Ent.SWAP_INIT, Ent.LOOP_STATUS, Ent.LOOP_OUTPUT, Ent.LOOP_ERROR, Ent.LOOP_INTEGRATOR, Ent.LOOP_RESET, Ent.LOOP_B0, Ent.LOOP_B1, Ent.LOOP_B2, Ent.LOOP_A1, Ent.LOOP_A2, Ent.ENGINE_TIME_LAST, Ent.ENGINE_TIME_MAX, Ent.LOOPS_ENABLED, Ent.SECTIONS_ENABLED, Ent.COEFF_CRC, Ent.LEGAL_SEAL_STATE, Ent.LEGAL_CHECK_VALUE, Ent.LEGAL_CHECK_VALUE_M1, Ent.GRID_FREQUENCY, Ent.CROSS_WINDOW, Ent.CROSS_TOL_ACTIVE, Ent.CROSS_TOL_REACTIVE, Ent.LEGAL_LOG_NEWEST, Ent.LEGAL_LOG_OLDEST, Ent.LEGAL_LOG_SELECT, Ent.LEGAL_LOG_RECORD, Ent.LEGAL_LOG_ARCHIVE, Ent.LEGAL_LOG_LOST, Ent.METER_STATUS, Ent.LAST_COMMIT_SFN, Ent.DISPLAY_PERIOD, Ent.BANK_STATUS, Ent.SLICE_CORRECTION, Ent.RETIRED_MASK, Ent.ROTATIONS, Ent.SPARE_DWELL]
def Ent.piece12 : List Entry :=
  [Ent.CAL_FRAMES, Ent.DEMAND_M0, Ent.DEMAND_M1, Ent.CAPTURE_CHANNEL, Ent.CAPTURE_LEVEL, Ent.CAPTURE_ARM, Ent.CAPTURE_FORCE, Ent.CAPTURE_HOLDOFF, Ent.CAPTURE_COUNT, Ent.CAPTURE_REFUSED, Ent.CAPTURE_SELECT, Ent.CAPTURE_RECORD, Ent.HELD_CONVERSIONS, Ent.MCH_CLASS, Ent.MCH_RANGE, Ent.MCH_LEGAL, Ent.MCH_SENSOR_SCALE, Ent.MCH_SENSOR_OFFSET, Ent.MCH_VALUE, Ent.MCH_MIN, Ent.MCH_MAX, Ent.MCH_VALUE_M0, Ent.MCH_VALUE_M1, Ent.MCH_STATUS, Ent.CAL_ZERO_M0, Ent.CAL_GAIN_M0, Ent.CAL_ZERO_M1, Ent.CAL_GAIN_M1, Ent.MCH_CAL_REQUEST, Ent.MCH_CAL_RESULT, Ent.CAL_SFN, Ent.MCH_STAGGER, Ent.MCH_OPEN_TEST, Ent.MCH_TEST_RESULT, Ent.POINT_ENABLE, Ent.POINT_KIND, Ent.CONNECTION, Ent.U_CHANNELS, Ent.I_CHANNELS, Ent.U_NOMINAL]
def Ent.piece13 : List Entry :=
  [Ent.I_NOMINAL, Ent.I_START_FRACTION, Ent.R_TRANSFER, Ent.OC_LEVEL, Ent.OC_TIME, Ent.BILLING_SOURCE, Ent.CROSS_STATE, Ent.PEAK_I, Ent.PEAK_SFN, Ent.PEAK_RESET, Ent.POWER_P, Ent.POWER_Q, Ent.OC_COUNT, Ent.CROSS_RESET, Ent.REGISTER_M0, Ent.REGISTER_M1, Ent.REGISTER, Ent.METER_TIME, Ent.METER_TIME_S, Ent.LOCAL_OFFSET, Ent.ACTIVE_CALENDAR, Ent.ACTIVE_RATE, Ent.BILLING_DAY, Ent.BILLING_HOUR, Ent.BILLING_CLOSE, Ent.PERIOD_NUMBER, Ent.BILLING_STATUS, Ent.RATE_PRICES, Ent.FRIENDLY_MASK, Ent.PROFILE_CHANNELS, Ent.PROFILE_NEWEST, Ent.PROFILE_OLDEST, Ent.PROFILE_SELECT, Ent.PROFILE_RECORD, Ent.SNAPSHOT_SELECT, Ent.SNAPSHOT_RECORD, Ent.SIGN_ALGORITHM, Ent.SIGNED_NEWEST, Ent.SIGNED_OLDEST, Ent.SIGNED_SELECT]
def Ent.piece14 : List Entry :=
  [Ent.SIGNED_RECORD, Ent.SIGNED_OVERWRITTEN, Ent.STANDSTILL_LEFT, Ent.CAL_SEASONS, Ent.CAL_DAY_PROFILES, Ent.CAL_SPECIAL_DAYS, Ent.CAL_ACTIVATE, Ent.CAL_NAME, Ent.TARIFF_REG0, Ent.TARIFF_REG1, Ent.MAX_DEMAND, Ent.MAX_DEMAND_TIME, Ent.LAST_DEMAND, Ent.VIEW_32, Ent.VIEW_READ_PERIOD, Ent.READING_REQUEST, Ent.ACCOUNT_ENABLE, Ent.BALANCE, Ent.CREDIT_TOPUP, Ent.LAST_TOPUP_REF, Ent.LOW_CREDIT, Ent.EMERGENCY_ENABLE, Ent.EMERGENCY_CREDIT, Ent.FRIENDLY_ENABLE, Ent.FRIENDLY_DEBT_LIMIT, Ent.PROTECT_UNTIL, Ent.ACCOUNT_STATE, Ent.SESSIONS_ACTIVE, Ent.ENERGY_DELIVERED, Ent.CREDIT_USED, Ent.LC_MODE, Ent.LC_COMMAND, Ent.LC_DUTY, Ent.LC_PWM_FREQ, Ent.LC_PULL_IN_TIME, Ent.LC_HOLD_DUTY, Ent.LC_FAILSAFE, Ent.LC_FAILSAFE_DUTY, Ent.LC_LIMIT_TIME, Ent.LC_I_MAX]
def Ent.piece15 : List Entry :=
  [Ent.LC_RETRY_LIMIT, Ent.LC_RETRY_DELAY, Ent.LC_RETRY_CLEAR_TIME, Ent.LC_OPEN_LOAD_I, Ent.LC_OPEN_LOAD_TIME, Ent.LC_CLAMP_BUDGET, Ent.LC_CLAMP_LEAK, Ent.LC_STATE, Ent.LC_STATUS, Ent.LC_OWNER, Ent.LC_CURRENT, Ent.LC_TEMP_RISE, Ent.LC_CLAMP_ENERGY, Ent.LC_RETRIES_USED, Ent.LC_RESET, Ent.LC_TRIP_COUNT, Ent.LC_TEST, Ent.LC_TEST_RESULT, Ent.HALF_CURRENT_A, Ent.HALF_CURRENT_B, Ent.VAUX_A, Ent.VAUX_B, Ent.CONDUCTION_LOSS, Ent.FAILSAFE_ACTIVE, Ent.FAILSAFE_COUNT, Ent.WATCHDOG_REJECTS, Ent.ETH_TX_DELAY_0, Ent.ETH_RX_DELAY_0, Ent.ETH_TX_DELAY_1, Ent.ETH_RX_DELAY_1, Ent.BITRATE_NOMINAL, Ent.BITRATE_DATA, Ent.SAMPLE_POINT_NOMINAL, Ent.SAMPLE_POINT_DATA, Ent.CHANNEL_ENABLE, Ent.STATUS_DIVIDER, Ent.BUSOFF_HOLD, Ent.CHANNEL_STATE, Ent.TX_ERROR_COUNT, Ent.RX_ERROR_COUNT]
def Ent.piece16 : List Entry :=
  [Ent.BUSOFF_COUNT, Ent.RX_OVERFLOW, Ent.RX_IGNORED, Ent.TX_DROPPED, Ent.BUS_LOAD, Ent.EUSOR_ENABLE, Ent.EUSOR_NETWORK_ID, Ent.EUSOR_MAINS_FREQ, Ent.NOTCH_MASK, Ent.HOP_PENALTY, Ent.ROUTE_PERIOD, Ent.TM_MAX_AGE, Ent.AUX_IMBALANCE_LIMIT, Ent.AUX_DEFER_MAX, Ent.PHASE_LOAD_L1, Ent.PHASE_LOAD_L2, Ent.PHASE_LOAD_L3, Ent.BEACON_PERIOD_NS, Ent.EUSOR_STATUS, Ent.NODE_UID, Ent.NODE_ENABLE, Ent.POLL_PERIOD, Ent.NODE_STATE, Ent.NODE_STATUS, Ent.HOPS, Ent.ROUTE, Ent.ROUTE_COST, Ent.AUX_LOAD, Ent.NODE_BLOCKS_SENT, Ent.BLOCKS_RESENT, Ent.POLL_FAILS, Ent.POINT_SELECT, Ent.POINT_VALUE, Ent.POINT_AGE, Ent.STREAM_ENABLE, Ent.STREAM_MASK, Ent.BUS_MIRROR_CHANNELS, Ent.WINDOW_DIES, Ent.PORT_STATE, Ent.CREDITS_AVAILABLE]
def Ent.piece17 : List Entry :=
  [Ent.STREAM_BLOCKS_SENT, Ent.IN_ERRORS, Ent.STREAM_DROPPED, Ent.SERVICE_PORT_ENABLE, Ent.SERVICE_PHY_ADDR, Ent.SERVICE_LINK, Ent.SERVICE_ADDRESS, Ent.RECOVERY_ENTER, Ent.DEVICE_ID, Ent.IDENTITY_CERT, Ent.RECOVERY_CERT, Ent.TRANSPORT_CERT, Ent.DEVICE_TLS_CERT, Ent.METER_CERT_M0, Ent.METER_CERT_M1, Ent.MEAS_BOOT, Ent.MEAS_MAIN, Ent.MEAS_LEGAL_M0, Ent.MEAS_LEGAL_M1, Ent.KY_SERVING, Ent.PUF_MARGIN, Ent.ZEROISE_EPOCH, Ent.KEY_WRITE_MODE, Ent.KEY_PENDING_TIMEOUT, Ent.REWRAP_STATE, Ent.TAMPER_STATUS, Ent.SECC_SLOT, Ent.TAMPER_CONFIG, Ent.TAMPER_ENV_ACTION, Ent.ANCHOR_CERT, Ent.ANCHOR_ROLE, Ent.ANCHOR_ENABLE, Ent.SLOT_INFO, Ent.SLOT_PUBLIC, Ent.SLOT_CERT, Ent.KEY_UPDATE, Ent.KEY_CHALLENGE, Ent.KEY_RESPONSE, Ent.KEY_CONFIRM, Ent.PENDING_PUBLIC]
def Ent.piece18 : List Entry :=
  [Ent.ACTIVE_CONTROL_DIE, Ent.DIE_STATUS, Ent.DEADLINE_MISS_COUNT, Ent.STANDBY_PACKET_COUNT, Ent.TEST_QUEUE_DEPTH, Ent.TEST_QUEUE_EXPIRY, Ent.REFCLK_STATE, Ent.SWITCHOVER_COUNT, Ent.LAST_SWITCHOVER, Ent.SWAP_REQUEST, Ent.PREFERRED_DIE, Ent.RESYNC_REQUEST, Ent.RESTART_LIMIT, Ent.MIRROR_MISS_COUNT, Ent.DIVERGENCE_COUNT, Ent.DEVICE_STATE, Ent.DEVICE_STATUS, Ent.SUPPLY_STATUS, Ent.SLEEP_REQUEST, Ent.SHIP_REQUEST, Ent.RECOVERY_EXIT, Ent.TEST_ENTER, Ent.START_COUNT, Ent.LAST_START_CAUSE, Ent.BOOT_TIME, Ent.FLUSH_COUNT, Ent.LAST_FLUSH_SFN, Ent.EVENT_LOG_NEWEST, Ent.EVENT_LOG_OLDEST, Ent.EVENT_LOG_CAPACITY, Ent.EVENT_LOG_OVERWRITTEN, Ent.FW_UPDATE_STATUS, Ent.RUNNING_SLOT, Ent.RUNNING_LEGAL_SLOT, Ent.STATE_FORMAT, Ent.ROLLBACK_MAIN, Ent.ROLLBACK_LEGAL, Ent.PREPARE_LEAD, Ent.TRIAL_TIME, Ent.TRIAL_POLICY]
def Ent.piece19 : List Entry :=
  [Ent.TRIAL_LEFT, Ent.FW_CONFIRM, Ent.FW_FALLBACK, Ent.LEGAL_STAGGER, Ent.RECOVERY_BOOT, Ent.SLOT_STATE, Ent.SLOT_MANIFEST, Ent.SLOT_BLOCK, Ent.SLOT_VERSION, Ent.SLOT_BLOCKS_OK, Ent.SLOT_MEASUREMENT, Ent.SLOT_ERASE, Ent.SLOT_RESULT, Ent.ACTION_STATE, Ent.ACTION_CONTROL, Ent.ACTION_SFN, Ent.ACTION_TYPE, Ent.ACTION_TARGET, Ent.ACTION_VALUE, Ent.ACTION_ORDER, Ent.ACTION_LATE_POLICY, Ent.ACTION_LATE_WINDOW, Ent.ACTION_GROUP_ID, Ent.ACTION_PARTICIPANTS, Ent.ACTION_ANNOUNCE_LEAD, Ent.ACTION_DECIDE_LEAD, Ent.ACTION_CANCEL_GUARD, Ent.ACTION_RESULT, Ent.ACTION_EXEC_SFN]

/-- Every entry of the dictionary, in ascending index and sub-index order of its first instance. -/
def Ent.all : List Entry :=
  Ent.piece1 ++ Ent.piece2 ++ Ent.piece3 ++ Ent.piece4 ++ Ent.piece5 ++ Ent.piece6 ++ Ent.piece7 ++ Ent.piece8 ++ Ent.piece9 ++ Ent.piece10 ++ Ent.piece11 ++ Ent.piece12 ++ Ent.piece13 ++ Ent.piece14 ++ Ent.piece15 ++ Ent.piece16 ++ Ent.piece17 ++ Ent.piece18 ++ Ent.piece19

end Sys2Proof.Machine
end

