-- ==== Sys2Proof/Machine/Events.lean ====
section
/-!
DEFINITION. The events of the device, one definition per row of the spec's event tables: code and severity
(0 INFO, 1 WARN, 2 FAULT, 3 TRIP, Table 4-7).
-/
namespace Sys2Proof.Machine

/-! 01_architecture.md -/
def Evt.DEADLINE_MISS : EvKind := ⟨0xC010, 1⟩
def Evt.DIE_HALF_FAULT : EvKind := ⟨0xC011, 2⟩
def Evt.SAMPLE_SOURCE_CHANGE : EvKind := ⟨0xC012, 0⟩
def Evt.STANDBY_PACKET : EvKind := ⟨0xC013, 1⟩
def Evt.TICK_LINE_CHANGE : EvKind := ⟨0xC014, 1⟩
def Evt.TEST_DONE : EvKind := ⟨0xC020, 0⟩
def Evt.TEST_EXPIRED : EvKind := ⟨0xC021, 0⟩
/-! 02_site_frame.md -/
def Evt.TIME_STATE_CHANGE : EvKind := ⟨0x1010, 0⟩
def Evt.TIME_SHIFT : EvKind := ⟨0x1011, 1⟩
def Evt.TIME_ERROR_HIGH : EvKind := ⟨0x1012, 2⟩
def Evt.LEAP_SECOND : EvKind := ⟨0x1015, 0⟩
def Evt.ACTION_EXECUTED : EvKind := ⟨0xE001, 0⟩
def Evt.ACTION_LATE : EvKind := ⟨0xE002, 1⟩
def Evt.ACTION_FAILED : EvKind := ⟨0xE003, 1⟩
def Evt.ACTION_CANCELLED : EvKind := ⟨0xE004, 0⟩
def Evt.UNIT_NOT_READY : EvKind := ⟨0xE005, 1⟩
def Evt.GROUP_SPLIT : EvKind := ⟨0xE006, 2⟩
/-! 03_die_pair_failover.md -/
def Evt.SWITCH_OVER : EvKind := ⟨0xC030, 1⟩
def Evt.DIE_YIELD : EvKind := ⟨0xC031, 2⟩
def Evt.MIRROR_MISS : EvKind := ⟨0xC032, 1⟩
def Evt.STANDBY_DIVERGENCE : EvKind := ⟨0xC033, 1⟩
def Evt.RESYNC_START : EvKind := ⟨0xC034, 0⟩
def Evt.RESYNC_DONE : EvKind := ⟨0xC035, 0⟩
def Evt.RESYNC_FAILED : EvKind := ⟨0xC036, 2⟩
def Evt.SIPHON_LANE_LOSS : EvKind := ⟨0xC037, 2⟩
def Evt.METER_DIE_FAULT : EvKind := ⟨0xC038, 2⟩
def Evt.METER_DISAGREE : EvKind := ⟨0xC039, 1⟩
def Evt.DIE_RESTART_LIMIT : EvKind := ⟨0xC03A, 2⟩
def Evt.TAKE_REFUSED : EvKind := ⟨0xC03B, 1⟩
def Evt.SWAP_ABANDONED : EvKind := ⟨0xC03C, 1⟩
/-! 04_object_dictionary.md -/
def Evt.SET_SWAPPED : EvKind := ⟨0x1020, 0⟩
def Evt.SWAP_REFUSED : EvKind := ⟨0x1021, 1⟩
def Evt.PERSIST_RECOVERED : EvKind := ⟨0x1022, 1⟩
def Evt.PERSIST_LOST : EvKind := ⟨0x1023, 2⟩
def Evt.EVENT_OVERFLOW : EvKind := ⟨0xC101, 1⟩
/-! 05_power_allocator.md -/
def Evt.INCREASE_WITHHELD : EvKind := ⟨0x2001, 0⟩
def Evt.MODULE_ACK_MISSING : EvKind := ⟨0x2002, 1⟩
def Evt.MODULE_UNRESPONSIVE : EvKind := ⟨0x2003, 2⟩
def Evt.MODULE_MOVE_START : EvKind := ⟨0x2004, 0⟩
def Evt.MODULE_MOVE_DONE : EvKind := ⟨0x2005, 0⟩
def Evt.MODULE_MOVE_FAILED : EvKind := ⟨0x2006, 1⟩
def Evt.IMPORT_OVER_LIMIT : EvKind := ⟨0x2007, 2⟩
def Evt.FE_OVER_CAP : EvKind := ⟨0x2008, 2⟩
def Evt.FE_CAP_CONFIRMED : EvKind := ⟨0x2009, 0⟩
def Evt.LIMIT_CLAMP : EvKind := ⟨0x200A, 0⟩
/-! 06_module_bus.md -/
def Evt.CAN_ERROR_PASSIVE : EvKind := ⟨0xA101, 1⟩
def Evt.CAN_BUS_OFF : EvKind := ⟨0xA102, 2⟩
def Evt.CAN_BUS_HELD : EvKind := ⟨0xA103, 2⟩
def Evt.CAN_RX_OVERFLOW : EvKind := ⟨0xA104, 1⟩
def Evt.UNIT_FAULT_REPORT : EvKind := ⟨0xA106, 1⟩
def Evt.UNIT_STATUS_MISSING : EvKind := ⟨0xA107, 1⟩
def Evt.UNIT_CHANNEL_CHANGE : EvKind := ⟨0xA108, 1⟩
def Evt.UNIT_PROFILE_MISMATCH : EvKind := ⟨0xA109, 2⟩
def Evt.UNIT_TEST_DONE : EvKind := ⟨0xA10A, 0⟩
/-! 07_vessel_sessions.md -/
def Evt.SESSION_START : EvKind := ⟨0x3001, 0⟩
def Evt.AUTH_REQUEST : EvKind := ⟨0x3002, 0⟩
def Evt.SESSION_END : EvKind := ⟨0x3003, 0⟩
def Evt.PROTOCOL_REFUSED : EvKind := ⟨0x3004, 1⟩
def Evt.CABLE_CHECK_FAIL : EvKind := ⟨0x3005, 1⟩
def Evt.INSULATION_WARNING : EvKind := ⟨0x3006, 1⟩
def Evt.PRECHARGE_FAIL : EvKind := ⟨0x3007, 1⟩
def Evt.EMERGENCY_STOP : EvKind := ⟨0x3008, 3⟩
def Evt.UNPLUGGED_UNDER_LOAD : EvKind := ⟨0x3009, 3⟩
def Evt.CONTACTOR_WELDED : EvKind := ⟨0x300A, 2⟩
def Evt.LINK_LOST : EvKind := ⟨0x300B, 1⟩
def Evt.OUTLET_TRIP : EvKind := ⟨0x300C, 3⟩
def Evt.FORCED_OPEN : EvKind := ⟨0x300D, 2⟩
/-! 08_loop_engine_cooling.md -/
def Evt.LOOP_INPUT_INVALID : EvKind := ⟨0x7001, 1⟩
def Evt.LOOP_FAULT : EvKind := ⟨0x7002, 2⟩
def Evt.LOOP_SATURATED : EvKind := ⟨0x7003, 0⟩
def Evt.CABLE_DERATE : EvKind := ⟨0x2101, 0⟩
def Evt.CABLE_OVER_TEMP : EvKind := ⟨0x2102, 3⟩
def Evt.CABLE_SENSOR_FAULT : EvKind := ⟨0x2103, 1⟩
def Evt.COOLANT_FLOW_LOW : EvKind := ⟨0x2104, 2⟩
def Evt.CABLE_MODEL_INIT : EvKind := ⟨0x2105, 0⟩
/-! 09_string_converter.md -/
def Evt.PHASE_FAILED : EvKind := ⟨0x6001, 2⟩
def Evt.PHASE_FAST_TRIP : EvKind := ⟨0x6002, 1⟩
def Evt.PHASE_IMBALANCE : EvKind := ⟨0x6003, 1⟩
def Evt.PHASE_TEST_RESULT : EvKind := ⟨0x6004, 0⟩
def Evt.GROUP_LIMIT_CHANGE : EvKind := ⟨0x6101, 0⟩
def Evt.GROUP_TRIP : EvKind := ⟨0x6103, 3⟩
def Evt.GROUP_OUT_OF_RANGE : EvKind := ⟨0x6104, 1⟩
/-! 10_prebex_monitoring.md -/
def Evt.MONITOR_MISSING : EvKind := ⟨0x5001, 1⟩
def Evt.MONITOR_LOST : EvKind := ⟨0x5002, 2⟩
def Evt.MONITOR_RETURNED : EvKind := ⟨0x5003, 0⟩
def Evt.SENSE_SUSPECT : EvKind := ⟨0x5004, 1⟩
def Evt.SENSE_BREAK : EvKind := ⟨0x5005, 2⟩
def Evt.SENSE_CLEARED : EvKind := ⟨0x5006, 0⟩
def Evt.CELL_FAULT_SEEN : EvKind := ⟨0x5007, 1⟩
def Evt.MONITOR_REPLACED : EvKind := ⟨0x5009, 1⟩
def Evt.MONITOR_TEST_DONE : EvKind := ⟨0x500A, 0⟩
def Evt.STACK_MISMATCH : EvKind := ⟨0x500B, 1⟩
def Evt.COMMAND_UNACKED : EvKind := ⟨0x500C, 1⟩
def Evt.ROPE_OPEN : EvKind := ⟨0x5101, 3⟩
def Evt.ENUM_DONE : EvKind := ⟨0x5103, 0⟩
def Evt.ENUM_FAIL : EvKind := ⟨0x5104, 2⟩
def Evt.SWEEP_PARTIAL : EvKind := ⟨0x5105, 0⟩
def Evt.SERVICE_DEMANDED : EvKind := ⟨0x5106, 2⟩
def Evt.ROPE_WAKE : EvKind := ⟨0x5107, 0⟩
def Evt.CHANNEL_EXCLUDED : EvKind := ⟨0x5181, 0⟩
/-! 11_string_master.md -/
def Evt.STRING_CONNECTED : EvKind := ⟨0x4001, 0⟩
def Evt.STRING_OPENED : EvKind := ⟨0x4002, 1⟩
def Evt.STRING_TRIPPED : EvKind := ⟨0x4003, 3⟩
def Evt.STRING_CONTACTOR_WELDED : EvKind := ⟨0x4004, 2⟩
def Evt.STRING_PRECHARGE_FAIL : EvKind := ⟨0x4005, 1⟩
def Evt.STRING_FORCED_OPEN : EvKind := ⟨0x4006, 2⟩
def Evt.STRING_DERATE : EvKind := ⟨0x4007, 0⟩
def Evt.STRING_INSULATION_WARNING : EvKind := ⟨0x4008, 1⟩
def Evt.STRING_LOCKED_OUT : EvKind := ⟨0x4009, 2⟩
def Evt.STRING_IMD_FAILED : EvKind := ⟨0x400A, 1⟩
def Evt.STRING_TEST_DONE : EvKind := ⟨0x400B, 0⟩
/-! 12_state_estimation.md -/
def Evt.SOC_DISAGREE : EvKind := ⟨0x4011, 1⟩
def Evt.SOC_REST_ANCHOR : EvKind := ⟨0x4012, 0⟩
def Evt.CAPACITY_LEARNED : EvKind := ⟨0x4013, 0⟩
def Evt.HEALTH_LOW : EvKind := ⟨0x4014, 1⟩
def Evt.CELL_STATE_RESET : EvKind := ⟨0x4015, 0⟩
def Evt.COUNT_GAP : EvKind := ⟨0x4016, 1⟩
/-! 13_measurement.md -/
def Evt.SLICE_RETIRED : EvKind := ⟨0x8011, 2⟩
def Evt.BANK_NO_SPARE : EvKind := ⟨0x8012, 1⟩
def Evt.REDUCED_RATE : EvKind := ⟨0x8013, 1⟩
def Evt.REFERENCE_DISAGREE : EvKind := ⟨0x8014, 2⟩
def Evt.CAPTURE_DONE : EvKind := ⟨0x8021, 0⟩
def Evt.CAPTURE_REFUSED : EvKind := ⟨0x8022, 1⟩
def Evt.CHANNEL_INVALID : EvKind := ⟨0x8101, 1⟩
def Evt.CHANNEL_VALID : EvKind := ⟨0x8102, 0⟩
def Evt.CAL_DONE : EvKind := ⟨0x8103, 0⟩
def Evt.OPEN_TEST_DONE : EvKind := ⟨0x8104, 0⟩
/-! 14_legal_metering.md -/
def Evt.LEGAL_SEAL_OPEN : EvKind := ⟨0x8031, 1⟩
def Evt.LEGAL_SEAL_CLOSED : EvKind := ⟨0x8032, 0⟩
def Evt.CROSS_DISAGREE : EvKind := ⟨0x8033, 1⟩
def Evt.BILLING_SOURCE_CHANGE : EvKind := ⟨0x8034, 1⟩
def Evt.CROSS_DISPUTED : EvKind := ⟨0x8035, 2⟩
def Evt.OVERCURRENT : EvKind := ⟨0x8036, 1⟩
def Evt.OVERCURRENT_END : EvKind := ⟨0x8037, 0⟩
def Evt.POWER_FAIL_FLUSH : EvKind := ⟨0x8038, 0⟩
def Evt.ENERGY_LOSS_POSSIBLE : EvKind := ⟨0x8039, 1⟩
def Evt.LEGAL_LOG_LOW : EvKind := ⟨0x803A, 1⟩
def Evt.LEGAL_LOG_FULL : EvKind := ⟨0x803B, 2⟩
def Evt.REGISTER_RESTORED : EvKind := ⟨0x803C, 1⟩
/-! 15_billing.md -/
def Evt.METER_TIME_STANDSTILL : EvKind := ⟨0x8801, 1⟩
def Evt.CALENDAR_ACTIVATED : EvKind := ⟨0x8802, 0⟩
def Evt.RATE_CHANGE : EvKind := ⟨0x8803, 0⟩
def Evt.INTERVALS_FLAGGED : EvKind := ⟨0x8804, 1⟩
def Evt.PERIOD_CLOSED : EvKind := ⟨0x8805, 0⟩
def Evt.SIGNED_RECORD : EvKind := ⟨0x8806, 0⟩
def Evt.CREDIT_LOW : EvKind := ⟨0x8A01, 0⟩
def Evt.EMERGENCY_CREDIT : EvKind := ⟨0x8A02, 1⟩
def Evt.CREDIT_EXHAUSTED : EvKind := ⟨0x8A03, 1⟩
def Evt.CREDIT_TOPUP : EvKind := ⟨0x8A04, 0⟩
def Evt.CREDIT_HOLD : EvKind := ⟨0x8A05, 0⟩
/-! 16_load_switches.md -/
def Evt.LC_SHORT_CIRCUIT : EvKind := ⟨0x9001, 1⟩
def Evt.LC_LIMIT_TIMEOUT : EvKind := ⟨0x9002, 1⟩
def Evt.LC_OVERLOAD : EvKind := ⟨0x9003, 1⟩
def Evt.LC_RETRY_EXHAUSTED : EvKind := ⟨0x9004, 2⟩
def Evt.LC_THERMAL_LATCH : EvKind := ⟨0x9005, 1⟩
def Evt.LC_THERMAL_CLEAR : EvKind := ⟨0x9006, 0⟩
def Evt.LC_CLAMP_LOCKOUT : EvKind := ⟨0x9007, 2⟩
def Evt.LC_OPEN_LOAD : EvKind := ⟨0x9008, 1⟩
def Evt.LC_OPEN_LOAD_CLEAR : EvKind := ⟨0x9009, 0⟩
def Evt.LC_RESET_DONE : EvKind := ⟨0x900A, 0⟩
def Evt.LC_TEST_DONE : EvKind := ⟨0x900B, 0⟩
def Evt.LC_FAILSAFE_APPLIED : EvKind := ⟨0x9041, 2⟩
def Evt.LC_FAILSAFE_ENDED : EvKind := ⟨0x9042, 0⟩
def Evt.VAUX_UNDERVOLTAGE : EvKind := ⟨0x9043, 1⟩
def Evt.VAUX_OVERVOLTAGE : EvKind := ⟨0x9044, 1⟩
def Evt.VAUX_REVERSED : EvKind := ⟨0x9045, 2⟩
def Evt.LOAD_GROUND_LOST : EvKind := ⟨0x9046, 2⟩
def Evt.HALF_OVERLOAD : EvKind := ⟨0x9047, 1⟩
/-! 17_eusor_powerline.md -/
def Evt.NODE_ADMITTED : EvKind := ⟨0xA201, 0⟩
def Evt.NODE_REFUSED : EvKind := ⟨0xA202, 1⟩
def Evt.NODE_LOST : EvKind := ⟨0xA203, 1⟩
def Evt.ROUTE_CHANGE : EvKind := ⟨0xA204, 0⟩
def Evt.POLL_OVERRUN : EvKind := ⟨0xA205, 1⟩
def Evt.TONE_MAP_RENEGOTIATED : EvKind := ⟨0xA206, 0⟩
def Evt.ZC_LOST : EvKind := ⟨0xA207, 1⟩
def Evt.MODEM_HANDOVER : EvKind := ⟨0xA208, 1⟩
def Evt.AUX_IMBALANCE : EvKind := ⟨0xA209, 1⟩
def Evt.LOAD_DEFERRED : EvKind := ⟨0xA20A, 0⟩
def Evt.NODE_UNREACHABLE : EvKind := ⟨0xA20B, 1⟩
/-! 18_keys_security.md -/
def Evt.ROOT_REBUILT : EvKind := ⟨0xB001, 0⟩
def Evt.PUF_MARGIN_LOW : EvKind := ⟨0xB002, 1⟩
def Evt.ROOT_FAILED : EvKind := ⟨0xB003, 2⟩
def Evt.KEY_WRITTEN : EvKind := ⟨0xB005, 0⟩
def Evt.KEY_PENDING : EvKind := ⟨0xB006, 0⟩
def Evt.KEY_REFUSED : EvKind := ⟨0xB007, 1⟩
def Evt.KEY_PENDING_EXPIRED : EvKind := ⟨0xB008, 0⟩
def Evt.REWRAP_DONE : EvKind := ⟨0xB009, 0⟩
def Evt.TAMPER : EvKind := ⟨0xB00A, 3⟩
def Evt.KEYS_REDERIVED : EvKind := ⟨0xB00B, 0⟩
def Evt.TAMPER_UNWATCHED : EvKind := ⟨0xB00C, 1⟩
def Evt.EPOCHS_LOW : EvKind := ⟨0xB00D, 1⟩
def Evt.CERT_ISSUED : EvKind := ⟨0xB00E, 0⟩
def Evt.CLIENT_REFUSED : EvKind := ⟨0xB00F, 1⟩
/-! 19_firmware_update.md -/
def Evt.IMAGE_VERIFIED : EvKind := ⟨0xD001, 0⟩
def Evt.IMAGE_REFUSED : EvKind := ⟨0xD002, 1⟩
def Evt.PREPARE_DONE : EvKind := ⟨0xD003, 0⟩
def Evt.PREPARE_FAILED : EvKind := ⟨0xD004, 2⟩
def Evt.TRIAL_STARTED : EvKind := ⟨0xD005, 0⟩
def Evt.FW_CONFIRMED : EvKind := ⟨0xD006, 0⟩
def Evt.FW_FALLBACK : EvKind := ⟨0xD007, 1⟩
def Evt.LEGAL_ACTIVATED : EvKind := ⟨0xD008, 0⟩
def Evt.LEGAL_ACTIVATION_FAILED : EvKind := ⟨0xD009, 2⟩
/-! 20_streaming_service_ports.md -/
def Evt.STREAM_LINK_UP : EvKind := ⟨0xA301, 0⟩
def Evt.STREAM_LINK_DOWN : EvKind := ⟨0xA302, 1⟩
def Evt.STREAM_DROP : EvKind := ⟨0xA303, 1⟩
def Evt.SERVICE_LINK_CHANGE : EvKind := ⟨0xA311, 0⟩
def Evt.RECOVERY_REQUESTED : EvKind := ⟨0xA312, 1⟩
/-! 21_power_up_states.md -/
def Evt.STATE_CHANGE : EvKind := ⟨0xC040, 0⟩
def Evt.SUPPLY_FAULT : EvKind := ⟨0xC041, 2⟩
def Evt.SUPPLY_RESTORED : EvKind := ⟨0xC042, 0⟩
def Evt.SUMP_APPLIED : EvKind := ⟨0xC043, 0⟩
def Evt.DEVICE_WAKE : EvKind := ⟨0xC044, 0⟩
def Evt.POWER_FAIL : EvKind := ⟨0xC045, 1⟩
def Evt.SUMP_LOST : EvKind := ⟨0xC046, 2⟩
/-! 22_electrical_package.md -/
def Evt.REFCLK_LOST : EvKind := ⟨0xC015, 2⟩
def Evt.REFCLK_RESTORED : EvKind := ⟨0xC016, 0⟩

end Sys2Proof.Machine
end

