-- ==== Sys2Proof/Machine/Ops.lean ====
section
/-!
DEFINITION. The operations every family shares: raising an event (R107, R108), sending a message, taking a free
value, counting a counter up, and the status codes of R106.
-/
namespace Sys2Proof.Machine
open Sys2Proof

/-- Status codes of Table 4-6. -/
def St.OK : Nat := 0
def St.ALREADY_DONE : Nat := 1
def St.BUSY : Nat := 2
def St.LATE : Nat := 3
def St.DENIED_ACCESS : Nat := 4
def St.DENIED_SEAL : Nat := 5
def St.RANGE : Nat := 6
def St.TYPE : Nat := 7
def St.NO_ENTRY : Nat := 8
def St.NOT_IN_SET : Nat := 9
def St.CONFLICT : Nat := 10
def St.NOT_SUPPORTED : Nat := 11
def St.CANCELLED : Nat := 12

/-- A failure whose status the spec does not state: a free one of Table 4-6 other than OK. -/
def freeStatus (f : Nat) : Nat := 1 + f % 12

/-- Device states of Table 21-2. -/
def Dev.OFF : Nat := 0
def Dev.SHIP : Nat := 1
def Dev.SLEEP : Nat := 2
def Dev.START : Nat := 3
def Dev.RUN : Nat := 4
def Dev.DEGRADED : Nat := 5
def Dev.RECOVERY : Nat := 6
def Dev.TEST : Nat := 7

/-- A parameter that names nothing. -/
def none32 : Nat := 0xFFFFFFFF

/-- Apply a change to a state where a condition holds. -/
def State.when (s : State) (c : Bool) (f : State → State) : State := if c then f s else s

/-- Apply a change for each element in order. -/
def State.each {α : Type} (s : State) (l : List α) (f : State → α → State) : State := l.foldl f s

/-- Take a free value (log entry 1): the state's counter advances, the value is unconstrained. -/
def State.takeFree (s : State) : Nat × State := (Config.freeValue s.free, { s with free := s.free + 1 })

/-- A free rational: any quotient, from three free values. -/
def State.takeFreeRat (s : State) : Rat × State :=
  let (a, s1) := s.takeFree
  let (b, s2) := s1.takeFree
  let (c, s3) := s2.takeFree
  (((a : Int) - (b : Int) : Int) / ((c + 1 : Nat) : Rat), s3)

/-- The sequence that follows `n` in a numbered log (R509): after 0xFFFF_FFFF it continues at 1. -/
def nextSeq (n : Nat) : Nat := if n ≥ 0xFFFFFFFF then 1 else n + 1

/-- Capacity of the event log (EVENT_LOG_CAPACITY). -/
def eventCapacity : Nat := 262144

/-- Append a record to the event log, the oldest giving way when it is full (R108). -/
def EventSt.append (e : EventSt) (r : EventRec) : EventSt :=
  let full := decide (e.log.length ≥ eventCapacity)
  { e with log := r :: (if full then e.log.dropLast else e.log),
           overwritten := if full then e.overwritten + 1 else e.overwritten,
           fresh := r :: e.fresh, count := e.count + 1 }

/-- The record of an event raised now (Table 4-7). -/
def State.record (s : State) (onBehalf : Bool) (k : EvKind) (inst p1 p2 : Nat) : EventRec :=
  { seq := nextSeq ((s.ev.log.head?.map EventRec.seq).getD 0), sfn := s.sfn, cycle := s.cycle, code := k.code,
    instNo := low 16 inst, severity := k.severity, onBehalf := onBehalf, timeStepped := s.time.stepDay.isSome,
    timeError := s.time.errorHigh, param1 := low 32 p1, param2 := low 32 p2 }

/-- Raise an event, or count it as dropped when 64 were raised in this cycle (R107). -/
def State.raiseWith (s : State) (onBehalf : Bool) (k : EvKind) (inst p1 p2 : Nat) : State :=
  if s.ev.count < 64 then { s with ev := s.ev.append (s.record onBehalf k inst p1 p2) }
  else { s with ev := { s.ev with dropped := s.ev.dropped + 1, dropCycle := s.cycle } }

/-- Raise an event on the device's own behalf. -/
def State.raise (s : State) (k : EvKind) (inst : Nat := 0) (p1 : Nat := 0) (p2 : Nat := 0) : State :=
  s.raiseWith false k inst p1 p2

/-- The event record as its 24 bytes (Table 4-7). -/
def EventRec.bytes (r : EventRec) : List Byte :=
  leBytes 8 r.sfn ++ leBytes 2 r.code ++ leBytes 2 r.instNo ++
    leBytes 4 (pack [(0, 5, r.cycle), (5, 2, r.severity), (7, 1, b2n r.onBehalf), (8, 1, b2n r.timeStepped),
      (9, 1, b2n r.timeError)]) ++ leBytes 4 r.param1 ++ leBytes 4 r.param2

/-- Send a message at once. -/
def State.send (s : State) (m : Msg) : State := { s with out := s.out ++ [m] }

/-- Give a message to the link die, which holds it until the frame mirror behind it has completed (R73). -/
def State.sendHeld (s : State) (m : Msg) : State := { s with waiting := s.waiting ++ [m] }

/-- The link die keeps a received message as not consumed until the frame mirror behind it has completed (R73); without a synchronised
standby none is kept. -/
def State.noteIn (s : State) (i : Instr) : State :=
  if s.die.mirrorSync then { s with mirror := { s.mirror with inbox := s.mirror.inbox ++ [i] } } else s

/-- Count an unsigned counter entry up. Where the sum leaves the entry's width the spec states no value: a free one
(log entry 1). -/
def State.bump (s : State) (e : Entry) (n : Nat := 0) (j : Nat := 0) (by_ : Nat := 1) : State :=
  let v := s.nat e n j + by_
  if v < 2 ^ e.type.bits then s.setNat e n v j
  else let (f, s') := s.takeFree; s'.setNat e n (low e.type.bits f) j

/-- Write an unsigned entry; a value that leaves its width is unstated: a free one (log entry 1). -/
def State.fitNat (s : State) (e : Entry) (n : Nat) (v : Nat) (j : Nat := 0) : State :=
  if v < 2 ^ e.type.bits then s.setNat e n v j
  else let (f, s') := s.takeFree; s'.setNat e n (low e.type.bits f) j

/-- Write a signed or unsigned entry; a value outside its format is unstated: a free one (log entry 1). -/
def State.fitInt (s : State) (e : Entry) (n : Nat) (v : Int) (j : Nat := 0) : State :=
  let w := e.type.bits
  let ok := if e.type.isSigned then decide (-(2 ^ (w - 1) : Int) ≤ v ∧ v < (2 ^ (w - 1) : Int))
            else decide (0 ≤ v ∧ v < (2 ^ w : Int))
  if ok then s.setInt e n v j
  else
    let (f, s') := s.takeFree
    s'.setInt e n (if e.type.isSigned then signed w (low w f) else (low w f : Int)) j

/-- Frames since reset. -/
def State.frames (s : State) : Nat := s.ticks / 20

/-- Ticks of a duration in milliseconds (20 cycles a frame of 1 ms) and in seconds. -/
def msTicks (ms : Nat) : Nat := ms * 20
def secTicks (sec : Nat) : Nat := sec * 20000

/-- Ticks of 24 h. -/
def dayTicks : Nat := 86400 * 20000

/-- A task of a die was reported late at this tick (R17): its output is not put out. -/
def State.late (s : State) (task : Nat) : Bool := s.die.misses.any (fun x => x.1 % 65536 == task && x.2.1 == s.ticks)

/-- The device is in RUN or DEGRADED. -/
def State.serving (s : State) : Bool :=
  s.nat Ent.DEVICE_STATE == Dev.RUN || s.nat Ent.DEVICE_STATE == Dev.DEGRADED

/-- A control die serves: one is active and has not gone quiet, or the other has taken over (R67, R69). -/
def State.controlUp (s : State) : Bool :=
  (s.die.ca == .active || s.die.cb == .active) && (s.die.quiet.isNone || s.die.switch.isSome)

/-- A change of every session that exists: its state is none of IDLE, FAULTED, UNAVAILABLE (Table 7-3). -/
def State.eachSession (s : State) (f : Sess → Sess) : State :=
  let live (k : Sess) : Bool := k.state != 0 && k.state != 13 && k.state != 14
  { s with outlets := { s.outlets with sess := s.outlets.sess.map (fun p => (p.1, if live p.2 then f p.2 else p.2)) } }

/-- Every command answers a next state unless its own meaning says otherwise. -/
def ok (s : State) : Host.Outcome State Fault Refusal := .next s

end Sys2Proof.Machine
end

