-- ==== Sys2Proof/Machine/Engine.lean ====
section
/-!
DEFINITION. The transaction engine (R84 to R102): finding an entry, the receipt checks of R97 and R22, tags, answers
and replay. What a write does to the device is in the families and in Sys2Proof/Machine/Apply.lean.
-/
namespace Sys2Proof.Machine
open Sys2Proof

/-- An entry found by index and sub-index: its definition, instance and sub-entry. -/
structure Found where
  e : Entry
  n : Nat
  j : Nat
deriving DecidableEq, Repr

/-- The row of a dictionary entry that covers a sub-index of an index. -/
def Entry.covers (e : Entry) (index sub : Nat) : Bool :=
  decide (e.base ≤ index) && decide (index < e.base + e.count) && decide (e.sub ≤ sub) &&
    (sub - e.sub) % e.step == 0 && decide ((sub - e.sub) / e.step < e.subs)

/-- Find an entry; `none` answers NO_ENTRY (R7, R8, R84). -/
def findEntry (index sub : Nat) : Option Found :=
  (Ent.all.find? (fun e => e.covers index sub)).map (fun e => ⟨e, index - e.base, (sub - e.sub) / e.step⟩)

/-- The highest sub-index present at an index (R84); `none` for an index with no entries. -/
def highestSub (index : Nat) : Option Nat :=
  let l := (Ent.all.filter (fun e => decide (e.base ≤ index) && decide (index < e.base + e.count))).map
    (fun e => e.sub + (e.subs - 1) * e.step)
  l.foldl (fun a x => match a with | none => some x | some y => some (max x y)) none

/-- Table 4-2: a role may write an entry of an access class. -/
def Role.mayWrite (r : Role) (a : Access) : Bool :=
  match a with
  | .ro => false
  | .rw | .wo => r != .reader
  | .rws | .leg => r == .engineer || r == .service

/-- A group of one to four hexadecimal digits. -/
def hexGroup (g : List Byte) : Bool :=
  decide (1 ≤ g.length) && decide (g.length ≤ 4) &&
    g.all (fun b => (decide (48 ≤ b.toNat) && decide (b.toNat ≤ 57)) || (decide (65 ≤ b.toNat) && decide (b.toNat ≤ 70)) ||
      (decide (97 ≤ b.toNat) && decide (b.toNat ≤ 102)))

/-- Split bytes at a separator. -/
def splitAtByte (sep : Nat) (bs : List Byte) : List (List Byte) :=
  bs.foldr (fun b acc => if b.toNat == sep then [] :: acc else
    match acc with
    | g :: r => (b :: g) :: r
    | [] => [[b]]) [[]]

/-- The text of an IPv6 address: eight groups, or fewer with one run of zeros written "::". -/
def ipv6Text (bs : List Byte) : Bool :=
  let gs := splitAtByte 58 bs
  let full := gs.filter (fun g => g.length != 0)
  let empties := gs.length - full.length
  full.all hexGroup &&
    ((empties == 0 && gs.length == 8) ||
     (empties == 1 && decide (full.length ≤ 7) && gs.head?.map List.length != some 0 && gs.getLast?.map List.length != some 0) ||
     (empties == 2 && decide (full.length ≤ 7) && decide (1 ≤ full.length) &&
        ((gs.take 2).all (fun g => g.length == 0) || (gs.drop (gs.length - 2)).all (fun g => g.length == 0))) ||
     (empties == 3 && full.length == 0))

/-- TYPE check of R85 and of the entries with a fixed length. -/
def Entry.typeOk (e : Entry) (w : WItem) : Bool :=
  w.type == e.type.code &&
    (if e.type.isNum then w.bytes.length == e.type.bits / 8
     else match e.type with
       | .time64 => w.bytes.length == 12
       | .record => w.bytes.length == e.maxLen
       | _ => match e.range with
         | .len n => w.bytes.length == n
         | _ => true)

/-- A cable's source names an instance and a quantity of its kind (Tables 8-3, 8-9). -/
def sourceNamed (b : Nat) : Bool :=
  match field b 24 8 with
  | 0 => field b 0 24 == 0
  | 1 => decide (field b 0 16 < 96) && decide (field b 16 8 ≤ 2)
  | _ => decide (field b 0 16 < 128)

/-- RANGE check of a value of the right type. -/
def Entry.rangeOk (e : Entry) (v : Val) : Bool :=
  match v with
  | .num n =>
    let okType := match e.type with
      | .bool => n == 0 || n == 1
      | .f32 => !F32.special n.toNat && !F32.subnormal n.toNat
      | _ => true
    let q := F32.toRat n.toNat
    okType && (match e.range with
      | .between lo hi => decide (lo ≤ n) && decide (n ≤ hi)
      | .betweenOr lo hi x => (decide (lo ≤ n) && decide (n ≤ hi)) || n == x
      | .oneOf l => l.contains n
      | .fbetween lo hi => decide (lo ≤ q) && decide (q ≤ hi)
      | .fabove => decide (0 < q)
      | .fnonneg => decide (0 ≤ q)
      | .bytesBetweenOr hi x => (leBytes 4 n.toNat).all (fun b => decide (b.toNat ≤ hi) || b.toNat == x)
      | .source kinds => kinds.contains (field n.toNat 24 8) && sourceNamed n.toNat
      | _ => true)
  | .bytes b =>
    (match e.type with
      | .time64 => decide (leAt b 8 4 < 1000000)
      | .str => decide (b.length ≤ 255)
      | .blob => decide (b.length ≤ e.maxLen)
      | _ => true) &&
    (match e.range with
      | .ipv6 => b.length == 0 || ipv6Text b
      | .maxLen n => decide (b.length ≤ n)
      | .derMax n => decide (b.length ≤ n) && (b.length == 0 || Config.isCertificate b)
      | _ => true)

/-- Entries only a SERVICE connection writes (R425, R428): an anchor whose role is 3 in either set or becomes 3, and
the tamper actions. -/
def State.serviceOnly (s : State) (e : Entry) (n : Nat) (w : WItem) : Bool :=
  (e.base == 0xB040 && (s.nat Ent.ANCHOR_ROLE n == 3 || (s.shadowVal Ent.ANCHOR_ROLE n).toInt == 3 ||
    (e.sub == 2 && leNat w.bytes == 3))) || e.base == 0xB020

/-- Writes an entry's own rule forbids a connection (port: the service port): staging (R436), RECOVERY_ENTER, RECOVERY_EXIT and
TEST_ENTER (R464, R474, R475), SHIP_REQUEST (R480), and key writes in mode 1 (R420). -/
def State.connDenied (s : State) (r : Role) (port : Bool) (e : Entry) (n : Nat) (w : WItem) : Bool :=
  let staging := (e.base == 0xD010 && [2, 3, 7].contains e.sub) || (e.base == 0xD000 && e.sub == 0x0E)
  let recovery := (e.base == 0xA310 && e.sub == 5) || (e.base == 0xC002 && (e.sub == 6 || e.sub == 7))
  let ship := e.base == 0xC002 && e.sub == 5
  let key := e.base == 0xB100 && [4, 5, 7].contains e.sub && s.nat Ent.KEY_WRITE_MODE == 1
  (r != .service && s.serviceOnly e n w) || (staging && !(r == .service || (r == .engineer && port))) ||
    (recovery && !(r == .service && port)) || ((ship || key) && r == .operator)

/-- A grid target stands at or below its active limit (R125). -/
def State.targetOk (s : State) (e : Entry) (v : Val) : Bool :=
  if e == Ent.GRID_IMPORT_TARGET then decide (v.toInt ≤ s.int Ent.GRID_IMPORT_LIMIT)
  else if e == Ent.GRID_EXPORT_TARGET then decide (v.toInt ≤ s.int Ent.GRID_EXPORT_LIMIT)
  else true

/-- Checks 2 to 6 of R97 for an entry found, in their order; 0 when all pass. -/
def State.entryStatus (s : State) (r : Role) (port shadow : Bool) (e : Entry) (n : Nat) (w : WItem) : Nat :=
  if (e.inSets && !shadow) || ((e.access == .rw || e.access == .wo) && shadow) then St.NOT_IN_SET
  else if !r.mayWrite e.access then St.DENIED_ACCESS
  else if s.connDenied r port e n w then St.DENIED_ACCESS
  else if e.access == .leg && !s.flag Ent.LEGAL_SEAL_STATE then St.DENIED_SEAL
  else if !e.typeOk w then St.TYPE
  else if !e.rangeOk (e.decode w.bytes) || !s.targetOk e (e.decode w.bytes) then St.RANGE
  else St.OK

/-- Checks 1 to 6 of R97 on receipt. -/
def State.receiptStatus (s : State) (r : Role) (port shadow : Bool) (w : WItem) : Nat :=
  match findEntry w.index w.sub with
  | some f => s.entryStatus r port shadow f.e f.n w
  | none => if w.sub == 0 && (highestSub w.index).isSome then St.DENIED_ACCESS else St.NO_ENTRY

/-- States of an action (R42). -/
def Act.FREE : Nat := 0
def Act.ARMED : Nat := 1
def Act.ANNOUNCED : Nat := 2
def Act.GO : Nat := 3
def Act.EXECUTED : Nat := 4
def Act.CANCELLED : Nat := 5
def Act.FAILED : Nat := 6
def Act.LATE : Nat := 7

/-- Action types (Table 2-5). -/
def ActType.WRITE : Nat := 1
def ActType.SET_SWAP : Nat := 2
def ActType.TARIFF_SWITCH : Nat := 3
def ActType.FW_ACTIVATE : Nat := 4
def ActType.MARK : Nat := 5

/-- Fields of action `i`. -/
def State.aState (s : State) (i : Nat) : Nat := s.nat Ent.ACTION_STATE i
def State.aSfn (s : State) (i : Nat) : Nat := s.nat Ent.ACTION_SFN i
def State.aType (s : State) (i : Nat) : Nat := s.nat Ent.ACTION_TYPE i
def State.aGroup (s : State) (i : Nat) : Nat := s.nat Ent.ACTION_GROUP_ID i

/-- Actions whose STATE is ARMED, ANNOUNCED or GO, in ascending index: STATE is listed where it is not FREE. -/
def State.armed (s : State) : List Nat :=
  s.cells.filterMap (fun c =>
    if decide (0xE000 * 256 ≤ c.1) && decide (c.1 < 0xE400 * 256) && c.1 % 256 == 1 &&
        (c.2 == .num 1 || c.2 == .num 2 || c.2 == .num 3)
    then some (c.1 / 256 - 0xE000) else none)

/-- The lowest free client tag, within the connection's quota of 64 (R96). -/
def EngineSt.freeTag (t : EngineSt) (conn : Nat) : Option Nat :=
  if (t.tags.filter (fun x => x.2 == some conn)).length ≥ 64 then none
  else (List.range 240).find? (fun i => !(t.tags.any (fun x => x.1 == i)))

/-- The lowest free tag of the device's own transfers, 240–255. -/
def EngineSt.ownTag (t : EngineSt) : Option Nat :=
  ((List.range 16).map (· + 240)).find? (fun i => !(t.tags.any (fun x => x.1 == i)))

/-- Occupy a tag, TAGS_IN_USE and TAGS_HIGH_WATER following. -/
def State.takeTag (s : State) (tag : Nat) (conn : Option Nat) : State :=
  let s1 := { s with tx := { s.tx with tags := (tag, conn) :: s.tx.tags } }
  let n := s1.tx.tags.length
  (s1.setNat Ent.TAGS_IN_USE 0 n).when (decide (n > s.nat Ent.TAGS_HIGH_WATER)) (fun z => z.setNat Ent.TAGS_HIGH_WATER 0 n)

/-- Release a tag. -/
def State.dropTag (s : State) (tag : Nat) : State :=
  let s1 := { s with tx := { s.tx with tags := s.tx.tags.filter (fun x => x.1 != tag) } }
  s1.setNat Ent.TAGS_IN_USE 0 s1.tx.tags.length

/-- An answer (R102, Table 4-3): its arguments are the header's fields in their order, VERSION, OP with bit 7 set, LENGTH, REQUEST_ID,
STATUS, TAG (0xFFFF for none), SET, QUEUE, MORE and REPLAY. -/
def answerMsg (conn op reqId status tag : Nat) (replay : Bool) (body : List Byte) (more : Bool := false) : Msg :=
  ⟨.client, conn, .answer, [1, (op + 128 : Int), body.length, reqId, status, tag, 0, 0, b2n more, b2n replay], body⟩

/-- Operations of Table 4-4. -/
def Op.READ : Nat := 1
def Op.WRITE : Nat := 2
def Op.WRITE_GROUP : Nat := 3
def Op.READ_SEGMENT : Nat := 4
def Op.WRITE_SEGMENT : Nat := 5
def Op.DESCRIBE : Nat := 6
def Op.EVENT_READ : Nat := 7
def Op.EVENT_SUBSCRIBE : Nat := 8

/-- Keep an answer for replay (R100): at most 64 a client, none past REPLAY_WINDOW. -/
def State.keep (s : State) (k : Kept) : State :=
  let window := secTicks (s.nat Ent.REPLAY_WINDOW)
  let live := s.tx.kept.filter (fun x => decide (s.ticks ≤ x.at_ + window))
  let mine := (live.filter (fun x => x.identity == k.identity)).take 63
  let others := live.filter (fun x => x.identity != k.identity)
  { s with tx := { s.tx with kept := k :: mine ++ others } }

/-- The kept answer to a request ID of a client, within REPLAY_WINDOW. -/
def State.keptFor (s : State) (identity : List Byte) (reqId : Nat) : Option Kept :=
  s.tx.kept.find? (fun x => x.identity == identity && x.reqId == reqId &&
    decide (s.ticks ≤ x.at_ + secTicks (s.nat Ent.REPLAY_WINDOW)))

/-- Header check of R102: 0 when VERSION, OP and LENGTH pass. -/
def headerStatus (c : Client) : Nat :=
  if c.version != 1 || c.badOp.isSome then St.NOT_SUPPORTED else if c.length > 2048 then St.RANGE else St.OK

/-- The answer to a message whose header does not pass (R102): nothing else is done. -/
def State.badHeader (s : State) (c : Client) (op : Nat) : State :=
  s.send (answerMsg c.conn (c.badOp.getD op) c.reqId (headerStatus c) 0xFFFF false [])

/-- R105, R475: in RECOVERY only the service port serves, and only three ranges; in TEST the service port serves them all. -/
def State.barred (s : State) (service : Bool) (index : Nat) : Bool :=
  (s.nat Ent.DEVICE_STATE == Dev.RECOVERY && (!service || !(index / 4096 == 1 || index / 4096 == 12 || index / 4096 == 13))) ||
    (s.nat Ent.DEVICE_STATE == Dev.TEST && !service)

/-- Answer at once and release the tag; the answer to a write, group or command is kept (R97, R100). -/
def State.refuse (s : State) (h : Held) (status : Nat) (body : List Byte) : State :=
  ((s.send (answerMsg h.conn h.op h.reqId status h.tag false body)).dropTag h.tag).keep
    ⟨h.identity, h.reqId, h.op, h.shadow, h.queue, h.items, status, body, s.ticks⟩

/-- Give an answer to the link die for release after cycle 19 (R73, R97); the tag stays until then. -/
def State.answerLater (s : State) (h : Held) (status : Nat) (body : List Byte) : State :=
  (s.sendHeld (answerMsg h.conn h.op h.reqId status h.tag false body)).keep
    ⟨h.identity, h.reqId, h.op, h.shadow, h.queue, h.items, status, body, s.ticks⟩

/-- A request that passed its receipt checks waits for its boundary (R97). -/
def State.hold (s : State) (h : Held) : State := { s with tx := { s.tx with held := s.tx.held ++ [h] } }

/-- Step 2 of R19 is under way: requests apply. -/
def State.applying (s : State) : Bool := s.cycle == 0 && s.tx.step == 2

/-- A request that applies now stands among those a lost frame would have to apply again (R73). -/
def State.noteApplied (s : State) (h : Held) : State := { s with mirror := { s.mirror with applied := s.mirror.applied ++ [h] } }

/-- Take a client's write, group or command in: connection, header, replay, the receipt checks `check` (the state a
refusal leaves, a status and the body of its answer), and last a tag (R96, R97, R100, R102). `go` receives the state with the tag taken and the request as the engine holds it. -/
def State.receiveRequest (s : State) (c : Client) (op : Nat) (items : List WItem) (check : State → Held → State × Nat × List Byte)
    (go : State → Held → State) : State :=
  match Tab.find s.tx.conns c.conn with
  | none => s
  | some k =>
    if (headerStatus c) != St.OK then s.badHeader c op
    else match s.keptFor k.identity c.reqId with
      | some x =>
        if x.op == op && x.shadow == c.shadow && x.queue == c.queue && x.items == items
        then s.send (answerMsg c.conn op c.reqId x.status 0xFFFF true x.body)
        else s.send (answerMsg c.conn op c.reqId St.CONFLICT 0xFFFF false [])
      | none =>
        let h (t : Nat) : Held := ⟨s.sfn, c.offset, t, c.conn, k.role, k.service, k.identity, c.reqId, op, c.shadow, c.queue, items⟩
        match s.tx.freeTag c.conn with
        | none =>
          let r := check s (h 0xFFFF)
          if r.2.1 != St.OK then r.1.refuse (h 0xFFFF) r.2.1 r.2.2
          else (s.send (answerMsg c.conn op c.reqId St.BUSY 0xFFFF false [])).bump Ent.BUSY_REFUSALS
        | some t =>
          let s1 := s.takeTag t (some c.conn)
          let r := check s1 (h t)
          if r.2.1 != St.OK then r.1.refuse (h t) r.2.1 r.2.2 else go s1 (h t)

/-- The WRITE body of an entry's instance with a value. -/
def Entry.item (e : Entry) (n : Nat) (v : Val) (j : Nat := 0) : WItem :=
  ⟨e.base + n, e.sub + j * e.step, e.type.code, e.encode v⟩

/-- The receipt checks of a client's write of an entry that is a command of its own (R97, R105). -/
def State.clientReceipt (s : State) (e : Entry) (n : Nat) (w : WItem) (h : Held) : Nat :=
  if s.barred h.service (e.base + n) then St.NOT_SUPPORTED
  else if e.count ≤ n then St.NO_ENTRY
  else s.entryStatus h.role h.service h.shadow e n w

/-- A client's write of one entry (log entry 3): the receipt checks of R97 in their order; then, at step 2 of the boundary, the
effect `act`, whose status is answered after cycle 19; received at any other time it waits for its boundary (R19). -/
def State.clientCommand (s : State) (c : Client) (e : Entry) (n : Nat) (v : Val) (act : State → State × Nat)
    (j : Nat := 0) : State :=
  s.receiveRequest c Op.WRITE [e.item n v j] (fun s1 h => (s1, s1.clientReceipt e n (e.item n v j) h, [])) fun s1 h =>
    if s1.applying then let r := act (s1.noteApplied h); r.1.answerLater h r.2 [] else s1.hold h

end Sys2Proof.Machine
end

