-- ==== Sys2Proof/Machine/Streams.lean ====
section
/-!
DEFINITION. Records for the streaming port (R459): what the other families hand to it. Its rows stand in
Sys2Proof/Machine/StreamRows.lean.
-/
namespace Sys2Proof.Machine
open Sys2Proof

/-- PORT_STATE (R457). -/
def Port.OFF : Nat := 0
def Port.WAITING : Nat := 1
def Port.UP : Nat := 2
def Port.STALLED : Nat := 3

/-- A stream before anything. -/
def StreamQ.empty : StreamQ := ⟨[], 0, 0, false, false, none, 0, none, 0⟩
def State.strm (s : State) (t : Nat) : StreamQ := Tab.get StreamQ.empty s.stream.qs t
def State.setStrm (s : State) (t : Nat) (q : StreamQ) : State := { s with stream := { s.stream with qs := Tab.set s.stream.qs t q } }

/-- A stream's buffer in bytes: 128 KiB. -/
def streamRoom : Nat := 131072

/-- Report dropped records (R459): at most once a second and stream. -/
def State.reportDrops (s : State) (t : Nat) : State :=
  let q := s.strm t
  let due := match q.dropAt with | some k => decide (s.ticks ≥ k + secTicks 1) | none => true
  if due && q.drops != 0 then
    (s.setStrm t { q with drops := 0, dropAt := some s.ticks }).raise Evt.STREAM_DROP t q.drops (s.nat Ent.STREAM_DROPPED 0 (t - 1))
  else s

/-- A record of a stream (R459): it enters the buffer whole, or is dropped and counted with GAP on the next block. A stream not in
STREAM_MASK produces nothing; with link die half B down its buffers are lost (R465). -/
def State.streamRecord (s : State) (t : Nat) (r : List Byte) : State :=
  let q := s.strm t
  if !bit (s.nat Ent.STREAM_MASK) (t - 1) || decide (s.frames < q.from_) then s
  else if !s.die.lkB then s.setStrm t { q with gap := true }
  else if (q.recs.map List.length).sum + r.length ≤ streamRoom then
    s.setStrm t { q with recs := q.recs ++ [r], since := some (q.since.getD s.ticks) }
  else ((s.bump Ent.STREAM_DROPPED 0 (t - 1)).setStrm t { q with gap := true, drops := q.drops + 1 }).reportDrops t

/-- A record the application cores produce (R73, Table 20-3): the link die holds it until cycle 19 releases it. -/
def State.holdRecord (s : State) (t : Nat) (r : List Byte) : State :=
  if !bit (s.nat Ent.STREAM_MASK) (t - 1) || decide (s.frames < (s.strm t).from_) then s else s.sendHeld ⟨.stream, t, .record, [], r⟩

/-- LOG_RECORDS (Table 20-2): kind 1 session, 2 legal, 3 signed; those of the metering dies, legal and signed, are held by nothing. -/
def State.streamLog (s : State) (kind : Nat) (r : List Byte) : State :=
  let x := leBytes 1 kind ++ [0#8] ++ leBytes 2 r.length ++ r
  if kind == 1 then s.holdRecord 2 x else s.streamRecord 2 x

/-- EVENTS (Table 20-2): the events of the frame before, at cycle 0. -/
def State.streamEvents (s : State) : State :=
  let l := s.ev.due.reverse
  if l.isEmpty then s
  else s.holdRecord 1 (leBytes 2 l.length ++ l.flatMap (fun r => leBytes 4 r.seq ++ r.bytes))

/-- A receive-ring entry of BUS_MIRROR (Table 20-2), kept until the frame's record is formed. -/
def State.mirrorBus (s : State) (ch state id : Nat) (own : Bool) (sof : Nat) (data : List Byte) : State :=
  if bit (s.nat Ent.STREAM_MASK) 5 && bit (s.nat Ent.BUS_MIRROR_CHANNELS) ch then
    let e := leBytes 1 ch ++ leBytes 1 state ++ leBytes 2 id ++ leBytes 1 data.length ++ leBytes 1 (b2n own) ++ [0#8, 0#8] ++
      time64 s.sfn sof ++ fitBytes 64 data
    { s with stream := { s.stream with busNow := s.stream.busNow ++ [e] } }
  else s

/-- BUS_MIRROR of the frame that ends. -/
def State.streamBus (s : State) : State :=
  let l := s.stream.busNow
  let s1 := { s with stream := { s.stream with busNow := [] } }
  if l.isEmpty then s1 else s1.streamRecord 6 l.flatten

/-- A radio frame received, for RAW_SWEEP (Table 20-2): radio, slot code, RSSI, CRC, payload. -/
def State.noteRaw (s : State) (w radio slot : Nat) (rssi : Int) (good : Bool) (raw : List Byte) : State :=
  if bit (s.nat Ent.STREAM_MASK) 4 then
    let e := leBytes 1 radio ++ leBytes 1 slot ++ leBytes 1 (word 8 rssi) ++ leBytes 1 (b2n good) ++ fitBytes 24 raw
    { s with stream := { s.stream with raw := s.stream.raw ++ [(w, e)] } }
  else s

/-- RAW_SWEEP of sweep `w`, with its results (R248). -/
def State.streamSweep (s : State) (w : Nat) : State :=
  let l := (s.stream.raw.filter (fun x => x.1 == w)).map Prod.snd
  let s1 := { s with stream := { s.stream with raw := s.stream.raw.filter (fun x => decide (x.1 > w)) } }
  s1.streamRecord 5 (leBytes 8 (50 * w) ++ leBytes 2 l.length ++ l.flatten)

end Sys2Proof.Machine
end

