-- ==== Sys2Proof/Machine/ModuleBus.lean ====
section
/-!
DEFINITION. The module bus (R135 to R162): attachments, the windows of Table 6-3, frame marks, set-point blocks,
commands and dictionary transfers, as the other files use them. Its rows stand in Sys2Proof/Machine/BusRows.lean.
-/
namespace Sys2Proof.Machine
open Sys2Proof

/-- MODULE_STATE and FE_STATE (Table 5-7). -/
def Mod.UNAVAILABLE : Nat := 0
def Mod.IDLE : Nat := 1
def Mod.ASSIGNED : Nat := 2
def Mod.RAMP_DOWN : Nat := 3
def Mod.SWITCHING : Nat := 4
def Mod.RAMP_UP : Nat := 5
def Mod.UNRESPONSIVE : Nat := 6
def Mod.DISABLED : Nat := 7
def Mod.TESTING : Nat := 8
def Fe.UNAVAILABLE : Nat := 0
def Fe.AVAILABLE : Nat := 1
def Fe.CAP_PENDING : Nat := 2
def Fe.OVER_CAP : Nat := 3
def Fe.DISABLED : Nat := 4
def Fe.TESTING : Nat := 5

/-- CHANNEL_STATE (Table 6-11). -/
def Can.OFF : Nat := 0
def Can.ERROR_ACTIVE : Nat := 1
def Can.ERROR_PASSIVE : Nat := 2
def Can.BUS_OFF : Nat := 3
def Can.HELD : Nat := 4

/-- A unit before anything is heard of it. -/
def UnitSt.none : UnitSt :=
  ⟨false, 0, false, 0, 0, 0, 0xFF, false, false, false, false, false, false, false, 0, 0, 0, 0, 0, [], Option.none, Option.none,
   Option.none, false, false, Option.none⟩

/-- What is held of a unit: outlet modules are 0–63, front-end unit f is 64 + f, as the events number them. -/
def State.unitSt (s : State) (u : Nat) : UnitSt := Tab.get UnitSt.none s.bus.units u
def State.setUnitSt (s : State) (u : Nat) (x : UnitSt) : State := { s with bus := { s.bus with units := Tab.set s.bus.units u x } }

/-- A per-unit entry (Table 6-12) of a module or a front-end unit. -/
def State.unitNat (s : State) (m f : Entry) (u : Nat) : Nat := if u < 64 then s.nat m u else s.nat f (u - 64)
def State.setUnitNat (s : State) (m f : Entry) (u v : Nat) : State := if u < 64 then s.setNat m u v else s.setNat f (u - 64) v

/-- A unit is fitted (Table 6-12). -/
def State.fitted (s : State) (u : Nat) : Bool := s.unitNat Ent.MODULE_BUS_CHANNEL Ent.FE_BUS_CHANNEL u != 0xFF

/-- The channel and node a unit is reached by: its alternate while that is in use (R161). -/
def State.unitChannel (s : State) (u : Nat) : Nat :=
  if (s.unitSt u).alt then s.unitNat Ent.MODULE_BUS_ALT_CHANNEL Ent.FE_BUS_ALT_CHANNEL u
  else s.unitNat Ent.MODULE_BUS_CHANNEL Ent.FE_BUS_CHANNEL u
def State.unitNode (s : State) (u : Nat) : Nat :=
  if (s.unitSt u).alt then s.unitNat Ent.MODULE_BUS_ALT_NODE Ent.FE_BUS_ALT_NODE u
  else s.unitNat Ent.MODULE_BUS_NODE Ent.FE_BUS_NODE u

/-- The unit at a channel and node, by its primary or alternate attachment (R137, R161). -/
def State.unitAt (s : State) (ch node : Nat) : Option Nat :=
  (List.range 80).find? fun u =>
    s.fitted u &&
    ((s.unitNat Ent.MODULE_BUS_CHANNEL Ent.FE_BUS_CHANNEL u == ch && s.unitNat Ent.MODULE_BUS_NODE Ent.FE_BUS_NODE u == node) ||
     (s.unitNat Ent.MODULE_BUS_ALT_CHANNEL Ent.FE_BUS_ALT_CHANNEL u == ch &&
      s.unitNat Ent.MODULE_BUS_ALT_NODE Ent.FE_BUS_ALT_NODE u == node))

/-- The bit timing of a rate and sample point (R136): time quanta of the 80 MHz clock behind the prescaler. -/
def bitTiming (rate point : Nat) : BitTiming :=
  let p := if rate == 500000 then 2 else 1
  let n := 80000000 / (p * rate)
  let t := (ratRound ((n * point : Nat) / 1000 : Rat)).toNat - 1
  ⟨p, n, t, n - 1 - t, n - 1 - t⟩

/-- A channel before anything, with the default bit timing (Table 6-1). -/
def CanSt.none : CanSt :=
  ⟨[], Option.none, 0, 0, Option.none, 0, 0, [], [], [], [], ⟨1, 80, 63, 16, 16⟩, ⟨1, 10, 7, 2, 2⟩, 8⟩

/-- What is held of a channel. -/
def State.can (s : State) (ch : Nat) : CanSt := Tab.get CanSt.none s.bus.cans ch
def State.setCan (s : State) (ch : Nat) (x : CanSt) : State := { s with bus := { s.bus with cans := Tab.set s.bus.cans ch x } }

/-- The channel carries frames: enabled, its link die half healthy (channels 0, 1 on half A), not off the bus, and past
the silence of a change of rate (R136, R140). -/
def State.canUp (s : State) (ch : Nat) : Bool :=
  let st := s.nat Ent.CHANNEL_STATE ch
  decide (ch < 4) && s.flag Ent.CHANNEL_ENABLE ch && (if ch < 2 then s.die.lkA else s.die.lkB) &&
    (st == Can.ERROR_ACTIVE || st == Can.ERROR_PASSIVE) && decide ((s.can ch).silent ≤ s.frames)

/-- CAN_STB_n is high while the channel is OFF or HELD (Table 22-6). -/
def State.canStandby (s : State) (ch : Nat) : Bool := s.nat Ent.CHANNEL_STATE ch == Can.OFF || s.nat Ent.CHANNEL_STATE ch == Can.HELD

/-- A channel initialises with the bit timing of its rates and sample points; the offset of the transmitter delay compensation is TSEG1 + 1
data quanta (R136). -/
def State.initBus (s : State) (ch : Nat) : State :=
  let d := bitTiming (s.nat Ent.BITRATE_DATA ch) (s.nat Ent.SAMPLE_POINT_DATA ch)
  s.setCan ch { s.can ch with
    nominal := bitTiming (s.nat Ent.BITRATE_NOMINAL ch) (s.nat Ent.SAMPLE_POINT_NOMINAL ch), data := d, tdc := d.tseg1 + 1 }

/-- CHANNEL_STATE follows CHANNEL_ENABLE and the channel's link die half: OFF while either is down, ERROR_ACTIVE once both are up. -/
def State.placeBus (s : State) : State :=
  s.each (List.range 4) fun z ch =>
    let up := z.flag Ent.CHANNEL_ENABLE ch && (if ch < 2 then z.die.lkA else z.die.lkB)
    if !up then ((z.setNat Ent.CHANNEL_STATE ch Can.OFF).setCan ch { z.can ch with busoffs := [], hold := none })
    else z.when (z.nat Ent.CHANNEL_STATE ch == Can.OFF) (fun y => (y.initBus ch).setNat Ent.CHANNEL_STATE ch Can.ERROR_ACTIVE)

/-- A swap that changes a channel's rates or sample points silences it for at most 2 frames (R136): how many is a free value
(log entry 1). -/
def State.silenceBus (s old : State) : State :=
  let moved (ch : Nat) : Bool :=
    [Ent.BITRATE_NOMINAL, Ent.BITRATE_DATA, Ent.SAMPLE_POINT_NOMINAL, Ent.SAMPLE_POINT_DATA].any (fun e => s.nat e ch != old.nat e ch)
  s.each ((List.range 4).filter moved) fun z ch =>
    let (f, z1) := z.takeFree
    (z1.setCan ch { z1.can ch with silent := z1.frames + f % 3 }).initBus ch

/-- A window of Table 6-3 is open for a device message of so many data bytes: in cycle 0 behind the frame mark, in cycle 14 behind the
set-point blocks. -/
def State.windowOpen (s : State) (len : Nat) : Bool :=
  let c := s.cycle
  (c == 0 && s.tx.step != 0) || (decide (1 ≤ c) && decide (c ≤ 11)) || (c == 12 && decide (len ≤ 16)) ||
    (c == 14 && s.alloc.sentAt == some s.frames) || (decide (15 ≤ c) && decide (c ≤ 18))

/-- A device message may start now: its channel carries frames and its window is open (R140, R142). -/
def State.maySend (s : State) (m : Msg) : Bool := s.canUp m.dest && s.windowOpen m.body.length

/-- A message that another one behind it in the queue makes void: the same one, or an earlier COMMAND of its SUB or request of its
identifier to the same unit (R121, R155). -/
def Msg.stands (m x : Msg) : Bool :=
  x == m || (x.kind == m.kind && x.args == m.args && x.dest == m.dest &&
    [MsgKind.moduleTarget, .switchOutlet, .clearFault].contains m.kind)

/-- Keep a device message for a window, from the frame of a count on (R142). -/
def State.enqueue (s : State) (from_ : Nat) (m : Msg) : State :=
  { s with bus := { s.bus with queue := s.bus.queue.filter (fun p => !m.stands p.2) ++ [(from_, m)] } }

/-- Put a device message on the bus in the present window, or keep it for the next (R142). -/
def State.sendBus (s : State) (m : Msg) : State := if s.maySend m then s.send m else s.enqueue s.frames m

/-- Send what waited, as far as the present window takes it. -/
def State.flushBus (s : State) : State :=
  let ready (p : Nat × Msg) : Bool := decide (p.1 ≤ s.frames) && s.maySend p.2
  { s with out := s.out ++ (s.bus.queue.filter ready).map Prod.snd, bus := { s.bus with queue := s.bus.queue.filter (fun p => !ready p) } }

/-- What waits for a unit goes to the channel and node it is reached by from now on (R161). -/
def State.rerouteBus (s : State) (u : Nat) : State :=
  let move (m : Msg) : Msg :=
    match m.args with
    | id :: v :: r => if v == (u : Int) then { m with dest := s.unitChannel u, args := (id / 32 * 32 + s.unitNode u) :: v :: r } else m
    | _ => m
  { s with bus := { s.bus with queue := s.bus.queue.map (fun p => (p.1, move p.2)) } }

/-- BUS_IN_USE (Table 6-12): the channel a fitted unit is reached by. The operator's write of BUS_CHANNEL moves a unit back to its
primary at the swap that carries it (R161). -/
def State.placeUnits (s : State) : State :=
  let s1 := s.each s.bus.rehome (fun z u => z.setUnitSt u { z.unitSt u with alt := false })
  ({ s1 with bus := { s1.bus with rehome := [] } }).each (List.range 80) (fun z u =>
    let ch := if z.fitted u then z.unitChannel u else 0xFF
    z.when (z.unitNat Ent.MODULE_BUS_IN_USE Ent.FE_BUS_IN_USE u != ch) (fun y => y.setUnitNat Ent.MODULE_BUS_IN_USE Ent.FE_BUS_IN_USE u ch))

/-- The operator's write of BUS_CHANNEL in the shadow set (R161). -/
def State.noteRehome (s : State) (e : Entry) (n : Nat) : State :=
  if e.sub == 0x30 && (e.base == 0x2200 || e.base == 0x2300) then
    { s with bus := { s.bus with rehome := (if e.base == 0x2200 then n else 64 + n) :: s.bus.rehome } } else s

/-- CAN identifier of a class, SUB and node (R141). -/
def canId (cls sub node : Nat) : Nat := pack [(0, 5, node), (5, 3, sub), (8, 3, cls)]

/-- The data bytes of a GROUP message: filled with zeros to a length of CAN FD, at least the 12 of Table 6-2 (log entry 83). -/
def canFill (bs : List Byte) : List Byte :=
  match [12, 16, 20, 24, 32, 48, 64].find? (fun n => decide (bs.length ≤ n)) with
  | some n => fitBytes n bs
  | none => bs.take 64

/-- The body of a frame mark (Table 6-5); PREV counts at most 255 frames back. -/
def State.markBody (s : State) (ch : Nat) : List Byte :=
  let k := s.can ch
  let (corr, prev) : Int × Nat := match k.mark with
    | some (f, ns) => if s.frames - f ≤ 255 then (ns, s.frames - f) else (0, 0)
    | none => (0, 0)
  leBytes 8 s.sfn ++ leBytes 4 (word 32 corr) ++
    leBytes 4 (pack [(0, 1, b2n (bit s.time.flagMark ch)), (1, 1, b2n (s.time.slewNs != 0)), (2, 1, b2n s.time.errorHigh),
      (3, 1, b2n (!s.bus.served)), (8, 8, 2), (16, 4, s.nat Ent.STATUS_DIVIDER ch), (20, 2, ch), (24, 8, prev)])

/-- FRAME_MARK (R143): on every channel that is up, at cycle 0; the step flag of a channel stands until a mark has gone out there (R40). -/
def State.sendMarks (s : State) : State :=
  s.each (List.range 4) fun z ch =>
    if z.canUp ch then
      let y := z.send ⟨.can, ch, .frameMark, [(canId 0 0 31 : Int)], z.markBody ch⟩
      { y with time := { y.time with flagMark := setBit y.time.flagMark ch false } }
    else z

/-- A unit's grants and commands. -/
def UnitGrant.none : UnitGrant := ⟨[], Option.none, [], false, [], 0, Option.none, Option.none, 0, false, false⟩
def State.grants (s : State) (u : Nat) : UnitGrant := Tab.get UnitGrant.none s.alloc.units u
def State.setGrants (s : State) (u : Nat) (g : UnitGrant) : State := { s with alloc := { s.alloc with units := Tab.set s.alloc.units u g } }

/-- The COMMAND frame of a command to a module (R153). -/
def State.commandMsg (s : State) (m : Nat) (c : Cmd) : Msg :=
  ⟨.can, s.unitChannel m, if c.sub == 0 then .moduleTarget else if c.sub == 1 then .switchOutlet else .clearFault, [(canId 4 c.sub (s.unitNode m) : Int), m],
   leBytes 1 c.seq ++ [0#8] ++ c.body⟩

/-- Send a new COMMAND to a module with the next SEQ; it stands in the place of an earlier one of the same SUB (R121). -/
def State.command (s : State) (m sub : Nat) (body : List Byte) : State :=
  let g := s.grants m
  let c : Cmd := ⟨sub, low 8 g.seq, body, some s.frames, 1, false⟩
  let s1 := s.setGrants m { g with cmds := c :: g.cmds.filter (fun x => x.sub != sub), seq := low 8 (g.seq + 1) }
  s1.sendBus (s1.commandMsg m c)

/-- TARGET (R153): mode, voltage in 0.1 V, current in 0.1 A. -/
def State.target (s : State) (m mode volts amps : Nat) : State :=
  s.command m 0 (leBytes 1 mode ++ [0#8] ++ leBytes 2 volts ++ leBytes 2 amps)

/-- SWITCH (R153): the outlet, or 0xFF to open. -/
def State.switchModule (s : State) (m outlet : Nat) : State := s.command m 1 (leBytes 1 outlet ++ List.replicate 5 0#8)

/-- CLEAR_FAULT (R153): the code to clear, or 0 for all latched faults. The spec names no occasion on which the device sends it of its own accord. -/
def State.clearFault (s : State) (m code : Nat) : State := s.command m 2 (leBytes 1 code ++ List.replicate 5 0#8)

/-- The bytes of an XFER (R155), filled to 64. -/
def xferBytes (op tag status index sub type offset total : Nat) (value : List Byte) : List Byte :=
  fitBytes 64 (leBytes 1 op ++ leBytes 1 tag ++ leBytes 2 status ++ leBytes 2 index ++ leBytes 1 sub ++ leBytes 1 type ++
    leBytes 2 offset ++ leBytes 2 total ++ value)

/-- A device request on the bus (SUB 0): the segment at its OFFSET, of a write at most 52 bytes of the value (R155). -/
def State.xferMsg (s : State) (x : Xfer) : Msg :=
  ⟨.can, s.unitChannel x.unit, .xferRequest, [(canId 7 0 (s.unitNode x.unit) : Int), x.unit],
   xferBytes (if x.write then 2 else 1) x.tag 0 x.index x.sub x.type x.offset x.value.length ((x.value.drop x.offset).take 52)⟩

/-- Start a device transfer to a unit (R155); without a free tag of 240–255 it waits, marked by tag 256. -/
def State.startXfer (s : State) (u : Nat) (write : Bool) (index sub type : Nat) (value : List Byte) : State :=
  match s.tx.ownTag with
  | some t =>
    let x : Xfer := ⟨t, u, write, index, sub, type, value, s.frames, 1, 0, []⟩
    let s1 := { s with bus := { s.bus with xfers := s.bus.xfers ++ [x] } }
    (s1.takeTag t none).sendBus (s1.xferMsg x)
  | none => { s with bus := { s.bus with xfers := s.bus.xfers ++ [⟨256, u, write, index, sub, type, value, s.frames, 0, 0, []⟩] } }

/-- End a device transfer: its tag is free, and the first waiting transfer takes it. -/
def State.endXfer (s : State) (tag : Nat) : State :=
  let s1 := ({ s with bus := { s.bus with xfers := s.bus.xfers.filter (fun x => x.tag != tag) } }).dropTag tag
  match s1.bus.xfers.find? (fun x => x.tag == 256) with
  | none => s1
  | some x =>
    let rest := s1.bus.xfers.erase x
    let s2 := { s1 with bus := { s1.bus with xfers := rest } }
    s2.startXfer x.unit x.write x.index x.sub x.type x.value

/-- Write a front-end unit's cap (R123): HARD_CAP_IMPORT or HARD_CAP_EXPORT. -/
def State.writeCap (s : State) (f : Nat) (exp : Bool) : State :=
  let v := s.nat (if exp then Ent.FE_HARD_CAP_EXPORT else Ent.FE_HARD_CAP_IMPORT) f
  s.startXfer (64 + f) true 2 (if exp then 2 else 1) EType.u32.code (leBytes 4 v)

/-- A cap becomes pending (R123): FE_STATE shows it until the unit confirms, and the lower of old and new bounds the grants. -/
def State.holdCap (s : State) (f : Nat) (exp : Bool) (old : Nat) : State :=
  let s1 := { s with bus := { s.bus with caps := s.bus.caps.filter (fun (x : Nat × Bool × Nat) => !(x.1 == f && x.2.1 == exp)) ++ [(f, exp, old)] } }
  if s1.nat Ent.FE_STATE f == Fe.AVAILABLE then s1.setNat Ent.FE_STATE f Fe.CAP_PENDING else s1

/-- A cap that a swap changed is pending and written to its unit (R123). -/
def State.pendCap (s : State) (f : Nat) (exp : Bool) (old : Nat) : State := (s.holdCap f exp old).writeCap f exp

/-- A cap is confirmed (R123, R159): the import cap shows in FE_CAP_CONFIRMED and raises 0x2009. -/
def State.confirmCap (s : State) (f : Nat) (exp : Bool) : State :=
  let caps := s.bus.caps.filter (fun x => !(x.1 == f && x.2.1 == exp))
  let s1 := { s with bus := { s.bus with caps := caps } }
  let s2 := if !(caps.any (fun x => x.1 == f)) && s1.nat Ent.FE_STATE f == Fe.CAP_PENDING then s1.setNat Ent.FE_STATE f Fe.AVAILABLE else s1
  if exp then s2
  else
    let old := s2.nat Ent.FE_CAP_CONFIRMED f
    let new := s2.nat Ent.FE_HARD_CAP_IMPORT f
    (s2.setNat Ent.FE_CAP_CONFIRMED f new).raise Evt.FE_CAP_CONFIRMED f new old

/-- Read the parameters of the profile check from a unit that has appeared (R156). -/
def State.checkProfile (s : State) (u : Nat) : State :=
  let s1 := (s.startXfer u false 1 1 EType.u8.code []).startXfer u false 1 2 EType.u8.code []
  if u < 64 then s1.startXfer u false 1 5 EType.u8.code [] else s1

/-- The profile check of a unit has passed (R156): version 2 and the kind of its block. -/
def State.profileOk (s : State) (u : Nat) : Bool :=
  (s.unitSt u).profile == some 2 && (s.unitSt u).kind == some (if u < 64 then 1 else 2)

/-- A fault of severity 2 is active at the unit (R152). -/
def UnitSt.outputOff (x : UnitSt) : Bool := x.faults.any (fun p => p.2 == 2)

/-- The unit may serve: fitted, heard, not missing, available, profile passed, no fault of severity 2. -/
def State.unitReady (s : State) (u : Nat) : Bool :=
  let x := s.unitSt u
  s.fitted u && x.heard && !x.missing && x.available && !x.moveFailed && s.profileOk u && !x.outputOff

/-- UNIT_FAULT: the code of the active fault of highest severity, the most recent among equals (R152). -/
def UnitSt.worst (x : UnitSt) : Nat :=
  let top := x.faults.foldl (fun a p => max a p.2) 0
  match x.faults.find? (fun p => p.2 == top) with
  | some p => p.1
  | .none => 0

/-- Capacity of a receive ring (R138). -/
def ringCapacity : Nat := 1024

/-- A valid frame enters the channel's ring (R138), the oldest entry giving way when it is full, and the bus mirror. -/
def State.ringPut (s : State) (r : CanRx) (row : Instr) : State :=
  let ch := r.ch.val
  let st := s.nat Ent.CHANNEL_STATE ch
  let s1 := s.mirrorBus ch st r.id false r.sof r.data
  let k := s1.can ch
  let full := decide (ringCapacity ≤ k.ring.length)
  let s2 := s1.setCan ch { k with ring := (if full then k.ring.drop 1 else k.ring) ++ [⟨row, s.sfn, st⟩], lost := k.lost + b2n full }
  s2.when full (fun z => z.bump Ent.RX_OVERFLOW ch)

/-- The active control die drains the rings (R138): what came while none served takes effect in its order. -/
def State.drainRings (s : State) : State :=
  s.each (List.range 4) fun z ch =>
    let l := (z.can ch).ring.map RingEntry.row
    if l.isEmpty then z
    else l.foldl State.noteIn ({ z.setCan ch { z.can ch with ring := [] } with mirror := { z.mirror with again := z.mirror.again ++ l } })

/-- A frame taken from a ring (R141): one whose SUB or length Table 6-2 does not have is counted in RX_IGNORED; `go` takes the sending
unit. -/
def State.hear (s : State) (r : CanRx) (fits : Bool) (go : State → Nat → State) : State :=
  if !fits then s.bump Ent.RX_IGNORED r.ch.val
  else match s.unitAt r.ch.val (r.id % 32) with
    | some u => go s u
    | none => s

/-- A frame on a channel (R135, R138, R140): on a channel that is off nothing arrives, a frame that is no FD frame of the profile is
counted and ignored, any other enters the ring and, with a control die serving, takes effect at once. A frame delivered again after a
switch-over has been through the ring. -/
def State.receive (s : State) (row : Instr) (r : CanRx) (fits : Bool) (go : State → Nat → State) : State :=
  let ch := r.ch.val
  if s.mirror.replay then s.hear r fits go
  else if !s.canUp ch then s
  else if !r.iso then s.bump Ent.RX_IGNORED ch
  else
    let s1 := s.ringPut r row
    if !s1.controlUp || (s1.can ch).ring.length != 1 then s1
    else ((s1.setCan ch { s1.can ch with ring := [] }).noteIn row).hear r fits go

/-- A received frame is the message of a class and SUB of Table 6-2, of at least `lo` and at most `hi` data bytes, from a unit's node. -/
def frameIs (r : CanRx) (cls sub lo hi : Nat) : Bool :=
  field r.id 8 3 == cls && field r.id 5 3 == sub && decide (lo ≤ r.data.length) && decide (r.data.length ≤ hi)

/-- STATUS of an outlet module (Table 6-7) and of a front-end unit (Table 6-8). -/
def moduleStatus (d : List Byte) : UnitStatus :=
  let b := leAt d 7 1
  { volts := leAt d 0 2, amps := signed 16 (leAt d 2 2), limit := leAt d 4 2, outlet := leAt d 6 1, available := bit b 0, zero := bit b 1,
    switched := bit b 2, derated := bit b 3, faultActive := bit b 4, fast := bit b 5, capLimiting := false, power := 0,
    lastLaunch := leAt d 8 2, temp := signed 8 (leAt d 10 1), seq := leAt d 11 1 }
def feStatus (d : List Byte) : UnitStatus :=
  let b := leAt d 8 1
  { volts := leAt d 0 2, amps := 0, limit := 0, outlet := 0xFF, available := bit b 0, zero := false, switched := false, derated := false,
    faultActive := bit b 2, fast := false, capLimiting := bit b 1, power := signed 32 (leAt d 2 4), lastLaunch := leAt d 6 2,
    temp := signed 8 (leAt d 9 1), seq := leAt d 10 1 }

/-- The body of an XFER as received (R155): OP, and the fields with the value bytes the segment carries. -/
def xferOp (d : List Byte) : Nat := leAt d 0 1
def xferOf (d : List Byte) : XferBody :=
  let offset := leAt d 8 2
  let total := leAt d 10 2
  ⟨leAt d 1 1, leAt d 2 2, leAt d 4 2, leAt d 6 1, leAt d 7 1, offset, total, (d.drop 12).take (min 52 (total - offset))⟩

/-- A status of a unit was due in a frame (R150): of a front-end unit always; of a module by its node and the divider, and in every frame
while its last entry was of KIND 1, a fault is active or its switch is moving. -/
def State.statusDue (s : State) (u sfn : Nat) : Bool :=
  let d := s.nat Ent.STATUS_DIVIDER (s.unitChannel u)
  decide (64 ≤ u) || sfn % d == s.unitNode u % d || (s.grants u).fast || !(s.unitSt u).faults.isEmpty ||
    (match (s.grants u).move with | some k => k.step == 1 | none => false)

/-- At the end of a frame: the first frame in which a status was due and did not arrive (R151). -/
def State.watchStatus (s : State) : State :=
  s.each ((List.range 80).filter s.fitted) fun z u =>
    let x := z.unitSt u
    let f := z.frames - 1
    if x.heard && decide (f ≤ x.at_) then z.when x.due.isSome (fun y => y.setUnitSt u { x with due := none })
    else z.when (x.due.isNone && z.statusDue u (z.sfn - 1)) (fun y => y.setUnitSt u { x with due := some f })

end Sys2Proof.Machine
end

