-- ==== Sys2Proof/Machine/Actions.lean ====
section
/-!
DEFINITION. The scheduled-action table (R41 to R56, R510) but for execution: arming, cancelling, freeing, and the
two-phase protocol of an action that spans several units; the decision point (R442) is in Sys2Proof/Machine/Firmware.lean, execution in
Sys2Proof/Machine/Apply.lean.
-/
namespace Sys2Proof.Machine
open Sys2Proof

/-- Unit references of a PARTICIPANTS list, two bytes each (R52). -/
def unitRefs : List Byte → List Nat
  | a :: b :: r => (a.toNat + 256 * b.toNat) :: unitRefs r
  | _ => []

/-- A unit is present (R52, Table 2-6). -/
def State.unitPresent (s : State) (u : Nat) : Bool :=
  let n := u % 4096
  match u / 4096 with
  | 1 => decide (n < 64) && s.nat Ent.MODULE_BUS_CHANNEL n != 0xFF
  | 2 => decide (n < 16) && s.nat Ent.FE_BUS_CHANNEL n != 0xFF
  | 3 => decide (n < 128) && s.flag Ent.NODE_ENABLE n
  | 4 => decide (n < 32) && s.flag Ent.PEER_ENABLED n
  | _ => false

/-- Whether PARTICIPANTS passes the check of R52. -/
def State.participantsOk (s : State) (bs : List Byte) : Bool :=
  let us := unitRefs bs
  bs.length % 2 == 0 && !us.isEmpty && decide (us.length ≤ 128) && decide us.Nodup && us.all s.unitPresent

/-- Whether VALUE has the length Table 2-5 gives the type (R44 check 5). -/
def valueLengthOk (type len : Nat) : Bool :=
  if type == ActType.SET_SWAP then len == 0
  else if type == ActType.TARIFF_SWITCH then len == 1
  else if type == ActType.FW_ACTIVATE then len == 4
  else decide (len ≤ 8)

/-- The status of an arm request applied at the boundary into the present frame (R44). -/
def State.armStatus (s : State) (i : Nat) : Nat :=
  let sfn := s.aSfn i
  let ty := s.aType i
  let tgt := s.nat Ent.ACTION_TARGET i
  let value := s.bytes Ent.ACTION_VALUE i
  let found := if tgt / 2 ^ 24 == 0 then findEntry (tgt / 256) (tgt % 256) else none
  let same := s.armed.filter (fun k => s.aSfn k == sfn)
  let ann := s.nat Ent.ACTION_ANNOUNCE_LEAD i
  let dec := s.nat Ent.ACTION_DECIDE_LEAD i
  let guard := s.nat Ent.ACTION_CANCEL_GUARD i
  if sfn < s.sfn then St.LATE
  else if ty < 1 || ty > 5 then St.RANGE
  else if ty == ActType.WRITE && found.isNone then St.NO_ENTRY
  else if ty != ActType.WRITE && tgt != 0 then St.RANGE
  else if ty == ActType.WRITE && !(match found with | some f => f.e.access == .rw | none => false) then St.DENIED_ACCESS
  else if ty == ActType.WRITE && !(match found with
      | some f => f.e.typeOk ⟨tgt / 256, tgt % 256, f.e.type.code, value⟩
      | none => false) then St.TYPE
  else if ty != ActType.WRITE && !valueLengthOk ty value.length then St.TYPE
  else if (ty == ActType.SET_SWAP && same.any (fun k => s.aType k == ActType.SET_SWAP)) || decide (same.length ≥ 64) then St.CONFLICT
  else if s.aGroup i == 0 then St.OK
  else if sfn < s.sfn + ann then St.LATE
  else if !(decide (ann > dec) && decide (dec > guard) && decide (guard ≥ 100)) then St.RANGE
  else if !s.participantsOk (s.bytes Ent.ACTION_PARTICIPANTS i) then St.RANGE
  else if (s.armed.filter (fun k => s.aGroup k != 0)).length ≥ 32 then St.BUSY
  else St.OK

/-- A CONTROL write of 1 (R44, Table 2-12). -/
def applyArm (i : Nat) (s : State) : State × Nat :=
  let st := s.aState i
  if st == Act.FREE then
    let r := s.armStatus i
    if r != St.OK then (s, r)
    else
      let s1 := s.setNat Ent.ACTION_STATE i Act.ARMED
      if s.aGroup i == 0 then (s1, St.OK)
      else
        let parts := (unitRefs (s.bytes Ent.ACTION_PARTICIPANTS i)).map (fun u => (⟨u, false, false, false, none⟩ : Part))
        ({ s1 with groups := Tab.set s1.groups i ⟨s.aGroup i, s.aSfn i, parts, false, false, false, 0⟩ }, St.OK)
  else if st ≤ Act.GO then (s, St.ALREADY_DONE)
  else (s, St.CONFLICT)

/-- OP codes of the two-phase messages (Table 4-4, in the order of Table 2-7). -/
def Two.ANNOUNCE : Nat := 0x10
def Two.GO : Nat := 0x13
def Two.CANCEL : Nat := 0x15

/-- The coordinator's record of action `i`. A record whose entry was freed while CANCEL is still repeated stands under a key beyond
the table, i + 1,024 k (R55). -/
def State.group (s : State) (i : Nat) : GroupAct := Tab.get ⟨0, 0, [], false, false, false, 0⟩ s.groups i

def State.setGroup (s : State) (i : Nat) (g : GroupAct) : State := { s with groups := Tab.set s.groups i g }

/-- The records that belong to action `i`: its own, and those of its entry's earlier uses that still repeat CANCEL. -/
def State.records (s : State) (i : Nat) : List Nat := (s.groups.map Prod.fst).filter (fun k => k % 1024 == i)

/-- The common 8 bytes of every two-phase body (R104, R158). -/
def State.twoPhaseHead (s : State) (i : Nat) : List Byte := leBytes 2 (s.group i).gid ++ [0#8, 0#8] ++ leBytes 4 (s.group i).sfn

/-- The bodies of a two-phase message to a unit: to an Ethernet peer Table 4-5; on the module bus R158, ANNOUNCE in parts of 48
bytes of VALUE; to a Eusor node U8 SUB and the body of R158 with ANNOUNCE in one part (Table 17-4). -/
def State.twoPhaseBodies (s : State) (key u op : Nat) : List (List Byte) :=
  let i := key % 1024
  let base := s.twoPhaseHead key
  let v := s.bytes Ent.ACTION_VALUE i
  let head (part : Nat) : List Byte :=
    [BitVec.ofNat 8 (s.aType i), BitVec.ofNat 8 v.length, BitVec.ofNat 8 part, 0#8]
  let tgt := leBytes 4 (s.nat Ent.ACTION_TARGET i)
  match u / 4096 with
  | 4 => [if op == Two.ANNOUNCE then base ++ head 0 ++ v else base]
  | 3 => [[BitVec.ofNat 8 (op - 0x10)] ++ base ++ (if op == Two.ANNOUNCE then head 0 ++ tgt ++ v else [])]
  | _ =>
    if op != Two.ANNOUNCE then [base]
    else if v.length ≤ 48 then [base ++ head 0 ++ tgt ++ v]
    else [base ++ head 0 ++ tgt ++ v.take 48, base ++ head 1 ++ tgt ++ v.drop 48]

def twoKind (op : Nat) : MsgKind := if op == Two.ANNOUNCE then .announce else if op == Two.GO then .go else .cancel

/-- A two-phase message to one unit: to a Eusor node in its next poll (R404); else the link die holds it for the mirror (R73), to
a peer with TAG 0xFFFF and the table index as REQUEST_ID (R104), on the bus under the identifier of class 6 (R141). -/
def State.sendPhase (s : State) (i op u : Nat) (b : List Byte) : State :=
  match u / 4096 with
  | 3 => { s with eus := { s.eus with queue := s.eus.queue ++ [(u % 4096, s.frames, 3, b)] } }
  | 4 => s.sendHeld ⟨.peer, u % 4096, twoKind op, [(op : Int), (i % 1024 : Nat), 0xFFFF], b⟩
  | t =>
    let n := if t == 2 then 64 + u % 4096 else u % 4096
    s.sendHeld ⟨.can, s.unitChannel n, twoKind op, [(canId 6 (op - 0x10) (s.unitNode n) : Int), n], canFill b⟩

/-- Send a two-phase message to units. -/
def State.sendTwoPhase (s : State) (i op : Nat) (units : List Nat) : State :=
  s.each units (fun z u => z.each (z.twoPhaseBodies i u op) (fun y b => y.sendPhase i op u b))

/-- Raise an event of the action table (R47): the instance is the index, parameter 1 the low 32 bits of SFN. -/
def State.actionEvent (s : State) (k : EvKind) (i p2 : Nat) : State := s.raise k i (low 32 (s.aSfn i)) p2

/-- An action becomes CANCELLED with a result (R48). -/
def State.cancelAction (s : State) (i result : Nat) : State :=
  ((s.setNat Ent.ACTION_STATE i Act.CANCELLED).setNat Ent.ACTION_RESULT i result).actionEvent Evt.ACTION_CANCELLED i result

/-- Cancel by the two-phase protocol: CANCEL to every participant, then CANCELLED. -/
def State.cancelGroup (s : State) (i result : Nat) : State :=
  let g := s.group i
  ((s.sendTwoPhase i Two.CANCEL (g.parts.map Part.unit)).setGroup i
    { g with cancelSent := true, lastSent := s.frames }).cancelAction i result

/-- A CONTROL write of 2 (R48, R55, Table 2-12). -/
def applyCancel (i : Nat) (s : State) : State × Nat :=
  let st := s.aState i
  if st == Act.FREE then (s, St.CONFLICT)
  else if st > Act.GO then (s, St.ALREADY_DONE)
  else if s.aGroup i == 0 then (s.cancelAction i St.CANCELLED, St.OK)
  else if s.sfn + s.nat Ent.ACTION_CANCEL_GUARD i < s.aSfn i then (s.cancelGroup i St.CANCELLED, St.OK)
  else if s.sfn ≤ s.aSfn i then (s, St.LATE)
  else (s, St.ALREADY_DONE)

/-- The entry of an action is freed: a record that still repeats CANCEL, because its SFN is to come, goes to a key of its own (R55). -/
def State.dropGroup (s : State) (i : Nat) : State :=
  let g := s.group i
  let rest := { s with groups := Tab.erase s.groups i }
  if g.cancelSent && decide (s.sfn < g.sfn) then
    match ((List.range 1024).map (fun k => i + 1024 * (k + 1))).find? (fun k => (Tab.find s.groups k).isNone) with
    | some k => rest.setGroup k g
    | none => rest
  else rest

/-- A CONTROL write of 3 (Table 2-12). -/
def applyFree (i : Nat) (s : State) : State × Nat :=
  let st := s.aState i
  if st == Act.FREE then (s, St.ALREADY_DONE)
  else if st ≤ Act.GO then (s, St.CONFLICT)
  else ((s.setNat Ent.ACTION_STATE i Act.FREE).dropGroup i, St.OK)

/-- ACTION_ARM (R44). -/
def execActionArm (c : Client) (i : Nat) (s : State) : Host.Outcome State Fault Refusal :=
  ok (s.clientCommand c Ent.ACTION_CONTROL i (.num 1) (applyArm i))

/-- ACTION_CANCEL (R48). -/
def execActionCancel (c : Client) (i : Nat) (s : State) : Host.Outcome State Fault Refusal :=
  ok (s.clientCommand c Ent.ACTION_CONTROL i (.num 2) (applyCancel i))

/-- ACTION_FREE (R510). -/
def execActionFree (c : Client) (i : Nat) (s : State) : Host.Outcome State Fault Refusal :=
  ok (s.clientCommand c Ent.ACTION_CONTROL i (.num 3) (applyFree i))

/-- ANNOUNCE to every participant; the action is ANNOUNCED. -/
def State.announce (s : State) (i : Nat) : State :=
  let g := s.group i
  ((s.setNat Ent.ACTION_STATE i Act.ANNOUNCED).sendTwoPhase i Two.ANNOUNCE (g.parts.map Part.unit)).setGroup i
    { g with announced := true, lastSent := s.frames }

/-- Front-end units among the participants of an action (Table 2-6). -/
def State.feParts (s : State) (i : Nat) : List Nat :=
  ((s.group i).parts.map Part.unit).filterMap (fun u => if u / 4096 == 2 then some (u % 4096) else none)

/-- R159: the shadow caps go to PENDING_CAP_IMPORT and PENDING_CAP_EXPORT of each front-end participant. -/
def State.writePendingCaps (s : State) (i : Nat) : State :=
  let fs := s.feParts i
  let s1 := s.each fs (fun z f =>
    (z.startXfer (64 + f) true 2 3 EType.u32.code (Ent.FE_HARD_CAP_IMPORT.encode (z.shadowVal Ent.FE_HARD_CAP_IMPORT f))).startXfer
      (64 + f) true 2 4 EType.u32.code (Ent.FE_HARD_CAP_EXPORT.encode (z.shadowVal Ent.FE_HARD_CAP_EXPORT f)))
  { s1 with bus := { s1.bus with pendingCaps := s1.bus.pendingCaps ++ [(i, 2 * fs.length)] } }

/-- A pending cap of a unit has been answered OK; the last one of an action lets its ANNOUNCE go (R159). -/
def State.pendingCapDone (s : State) (f : Nat) : State :=
  match s.bus.pendingCaps.find? (fun p => (s.feParts p.1).contains f) with
  | none => s
  | some (i, n) =>
    let rest := s.bus.pendingCaps.filter (fun p => p.1 != i)
    if n ≤ 1 then
      let s1 := { s with bus := { s.bus with pendingCaps := rest } }
      if s1.aState i == Act.ARMED then s1.announce i else s1
    else { s with bus := { s.bus with pendingCaps := (i, n - 1) :: rest } }

/-- ANNOUNCE_POINT (R54, R159): at S − ANNOUNCE_LEAD ANNOUNCE goes to every participant; a SET_SWAP first writes the
pending caps of its front-end units and announces when both are answered. -/
def execAnnouncePoint (i : Fin 1024) (s : State) : Host.Outcome State Fault Refusal :=
  if s.aState i == Act.ARMED && s.aGroup i != 0 && decide (s.aSfn i ≤ s.sfn + s.nat Ent.ACTION_ANNOUNCE_LEAD i) && decide (s.sfn < s.aSfn i) &&
      !(s.bus.pendingCaps.any (fun p => p.1 == i.val)) then
    if s.aType i == ActType.SET_SWAP && !(s.feParts i).isEmpty then ok (s.writePendingCaps i) else ok (s.announce i)
  else ok s

/-- Repeat a message every 100 frames to the participants that have not answered. -/
def State.repeatTo (s : State) (i op : Nat) (silent : Part → Bool) : State :=
  let g := s.group i
  if s.frames ≥ g.lastSent + 100 then
    (s.sendTwoPhase i op ((g.parts.filter silent).map Part.unit)).setGroup i { g with lastSent := s.frames }
  else s

/-- ANNOUNCE_REPEAT (R54). -/
def execAnnounceRepeat (i : Fin 1024) (s : State) : Host.Outcome State Fault Refusal :=
  if s.aState i == Act.ANNOUNCED then ok (s.repeatTo i Two.ANNOUNCE (fun p => !p.ready)) else ok s

/-- Raise UNIT_NOT_READY for each of the units, with a reason. -/
def State.notReady (s : State) (i : Nat) (units : List Nat) (reason : Nat) : State :=
  s.each units (fun z u => z.raise Evt.UNIT_NOT_READY i u reason)

/-- GO_REPEAT (R54). -/
def execGoRepeat (i : Fin 1024) (s : State) : Host.Outcome State Fault Refusal :=
  if s.aState i == Act.GO && !(s.group i).locked then ok (s.repeatTo i Two.GO (fun p => !p.goAck)) else ok s

/-- CANCEL_GUARD_POINT (R54): all GO_ACK locks the action; a missing one cancels it. -/
def execCancelGuardPoint (i : Fin 1024) (s : State) : Host.Outcome State Fault Refusal :=
  let g := s.group i
  if s.aState i == Act.GO && !g.locked && decide (s.aSfn i ≤ s.sfn + s.nat Ent.ACTION_CANCEL_GUARD i) then
    if g.parts.all Part.goAck then ok (s.setGroup i { g with locked := true })
    else ok ((s.notReady i ((g.parts.filter (fun p => !p.goAck)).map Part.unit) St.BUSY).cancelGroup i St.BUSY)
  else ok s

/-- CANCEL_REPEAT (R55): until S, to each participant without CANCEL_ACK. -/
def execCancelRepeat (i : Fin 1024) (s : State) : Host.Outcome State Fault Refusal :=
  ok (s.each (s.records i) (fun z k =>
    if (z.group k).cancelSent && decide (z.sfn < (z.group k).sfn) then z.repeatTo k Two.CANCEL (fun p => !p.cancelAck)
    else if 1024 ≤ k then { z with groups := Tab.erase z.groups k } else z))

/-- DONE_CHECK_POINT (R54): at S + 100 frames a DONE other than OK, or a missing one, raises GROUP_SPLIT. -/
def execDoneCheckPoint (i : Fin 1024) (s : State) : Host.Outcome State Fault Refusal :=
  let g := s.group i
  if s.aState i == Act.EXECUTED && s.aGroup i != 0 && decide (s.sfn ≥ s.aSfn i + 100) then
    let s1 := s.each (g.parts.filter (fun p => p.done != some St.OK)) (fun z p =>
      z.raise Evt.GROUP_SPLIT i p.unit (p.done.getD St.LATE))
    ok { s1 with groups := Tab.erase s1.groups i }
  else ok s

/-- A participant's answer is for this action: GROUP_ID, the low 32 bits of SFN, and a unit of the list (R53). -/
def State.answers (s : State) (i : Nat) (m : TwoPhase) : Bool :=
  s.aGroup i == m.group && m.group != 0 && low 32 (s.aSfn i) == m.sfnLow && (s.group i).parts.any (fun p => p.unit == m.unit)

/-- Note something of one participant. -/
def State.notePart (s : State) (i : Nat) (unit : Nat) (f : Part → Part) : State :=
  let g := s.group i
  s.setGroup i { g with parts := g.parts.map (fun p => if p.unit == unit then f p else p) }

/-- An answer of a participant comes in: from a unit on the module bus as a GROUP frame of a SUB, whose sender, GROUP_ID and SFN are read from
it (R158); from a peer or a node as it is. -/
def State.hearPhase (s : State) (row : Instr) (sub : Nat) (m : TwoPhase) (go : State → TwoPhase → State) : State :=
  match m.frame with
  | none => go (s.noteIn row) m
  | some r => s.receive row r (frameIs r 6 sub 12 64) (fun z u =>
      go z ⟨if u < 64 then 0x1000 + u else 0x2000 + (u - 64), leAt r.data 0 2, leAt r.data 4 4, none⟩)

/-- The reason or status of a NOT_READY or DONE: of a GROUP frame its bytes 8 and 9 (R158). -/
def twoCode (m : TwoPhase) (given : Nat) : Nat := match m.frame with | some r => leAt r.data 8 2 | none => low 16 given

/-- READY (R54), processed at step 1 of the boundary. -/
def execReady (i : Fin 1024) (m : TwoPhase) (s : State) : Host.Outcome State Fault Refusal :=
  ok (s.hearPhase (.ready i m) 1 m fun z a =>
    if z.answers i a && z.aState i == Act.ANNOUNCED then z.notePart i a.unit (fun p => { p with ready := true }) else z)

/-- NOT_READY (R54): before S − CANCEL_GUARD it cancels the action at every participant, its reason as RESULT. -/
def execNotReady (i : Fin 1024) (m : TwoPhase) (reason : Nat) (s : State) : Host.Outcome State Fault Refusal :=
  ok (s.hearPhase (.notReady i m reason) 2 m fun z a =>
    if z.answers i a && (z.aState i == Act.ANNOUNCED || z.aState i == Act.GO) && decide (z.sfn + z.nat Ent.ACTION_CANCEL_GUARD i ≤ z.aSfn i) && !(z.group i).locked then
      (z.notReady i [a.unit] (twoCode m reason)).cancelGroup i (twoCode m reason)
    else z)

/-- GO_ACK (R54). -/
def execGoAck (i : Fin 1024) (m : TwoPhase) (s : State) : Host.Outcome State Fault Refusal :=
  ok (s.hearPhase (.goAck i m) 4 m fun z a =>
    if z.answers i a && z.aState i == Act.GO then z.notePart i a.unit (fun p => { p with goAck := true }) else z)

/-- CANCEL_ACK (R55): for the record of GROUP_ID and SFN it names. -/
def execCancelAck (i : Fin 1024) (m : TwoPhase) (s : State) : Host.Outcome State Fault Refusal :=
  ok (s.hearPhase (.cancelAck i m) 6 m fun z a =>
    z.each ((z.records i).filter (fun k => (z.group k).gid == a.group && low 32 (z.group k).sfn == a.sfnLow))
      (fun y k => y.notePart k a.unit (fun p => { p with cancelAck := true })))

/-- DONE (R53, R159): a front-end unit's DONE with OK to a SET_SWAP confirms its caps. -/
def execDone (i : Fin 1024) (m : TwoPhase) (status : Nat) (s : State) : Host.Outcome State Fault Refusal :=
  ok (s.hearPhase (.done i m status) 7 m fun z a =>
    if z.answers i a then
      let s1 := z.notePart i a.unit (fun p => { p with done := some (twoCode m status) })
      if z.aType i == ActType.SET_SWAP && a.unit / 4096 == 2 && twoCode m status == St.OK && decide (a.unit % 4096 < 16) then
        (s1.confirmCap (a.unit % 4096) true).confirmCap (a.unit % 4096) false
      else s1
    else z)

end Sys2Proof.Machine
end

