-- ==== Sys2Proof/Machine/Sha.lean ====
section
/-!
DEFINITION. SHA-256 and SHA-384 (FIPS 180-4) and CRC-32, which the spec names for its digests, chains, roots and check values.
-/
namespace Sys2Proof.Machine

/-- A long word cut into `n` words of `w` bits, the first from its most significant bits. -/
def wordsOf (w n x : Nat) : List Nat := (List.range n).map (fun i => field x (w * (n - 1 - i)) w)

/-- Bytes, most significant first, as a number. -/
def beNat (bs : List Byte) : Nat := bs.foldl (fun a b => a * 256 + b.toNat) 0

/-- A number as `k` bytes, most significant first. -/
def beBytes (k n : Nat) : List Byte := (leBytes k n).reverse

/-- What distinguishes the two hashes of FIPS 180-4: the width of a word; the rotations of the two mixings of a round; the rotations and the shift of
the two mixings of the schedule; the round constants and the initial hash, each as one long word of fractional bits of the cube roots and square
roots of primes. -/
structure Sha2 where
  width : Nat
  up0 : List Nat
  up1 : List Nat
  low0 : List Nat × Nat
  low1 : List Nat × Nat
  rounds : Nat
  roots3 : Nat
  roots2 : Nat

def sha2For256 : Sha2 where
  width := 32
  up0 := [2, 13, 22]
  up1 := [6, 11, 25]
  low0 := ([7, 18], 3)
  low1 := ([17, 19], 10)
  rounds := 64
  roots3 := 0x428a2f9871374491b5c0fbcfe9b5dba53956c25b59f111f1923f82a4ab1c5ed5d807aa9812835b01243185be550c7dc372be5d7480deb1fe9bdc06a7c19bf174e49b69c1efbe47860fc19dc6240ca1cc2de92c6f4a7484aa5cb0a9dc76f988da983e5152a831c66db00327c8bf597fc7c6e00bf3d5a7914706ca63511429296727b70a852e1b21384d2c6dfc53380d13650a7354766a0abb81c2c92e92722c85a2bfe8a1a81a664bc24b8b70c76c51a3d192e819d6990624f40e3585106aa07019a4c1161e376c082748774c34b0bcb5391c0cb34ed8aa4a5b9cca4f682e6ff3748f82ee78a5636f84c878148cc7020890befffaa4506cebbef9a3f7c67178f2
  roots2 := 0x6a09e667bb67ae853c6ef372a54ff53a510e527f9b05688c1f83d9ab5be0cd19

def sha2For384 : Sha2 where
  width := 64
  up0 := [28, 34, 39]
  up1 := [14, 18, 41]
  low0 := ([1, 8], 7)
  low1 := ([19, 61], 6)
  rounds := 80
  roots3 := 0x428a2f98d728ae227137449123ef65cdb5c0fbcfec4d3b2fe9b5dba58189dbbc3956c25bf348b53859f111f1b605d019923f82a4af194f9bab1c5ed5da6d8118d807aa98a303024212835b0145706fbe243185be4ee4b28c550c7dc3d5ffb4e272be5d74f27b896f80deb1fe3b1696b19bdc06a725c71235c19bf174cf692694e49b69c19ef14ad2efbe4786384f25e30fc19dc68b8cd5b5240ca1cc77ac9c652de92c6f592b02754a7484aa6ea6e4835cb0a9dcbd41fbd476f988da831153b5983e5152ee66dfaba831c66d2db43210b00327c898fb213fbf597fc7beef0ee4c6e00bf33da88fc2d5a79147930aa72506ca6351e003826f142929670a0e6e7027b70a8546d22ffc2e1b21385c26c9264d2c6dfc5ac42aed53380d139d95b3df650a73548baf63de766a0abb3c77b2a881c2c92e47edaee692722c851482353ba2bfe8a14cf10364a81a664bbc423001c24b8b70d0f89791c76c51a30654be30d192e819d6ef5218d69906245565a910f40e35855771202a106aa07032bbd1b819a4c116b8d2d0c81e376c085141ab532748774cdf8eeb9934b0bcb5e19b48a8391c0cb3c5c95a634ed8aa4ae3418acb5b9cca4f7763e373682e6ff3d6b2b8a3748f82ee5defb2fc78a5636f43172f6084c87814a1f0ab728cc702081a6439ec90befffa23631e28a4506cebde82bde9bef9a3f7b2c67915c67178f2e372532bca273eceea26619cd186b8c721c0c207eada7dd6cde0eb1ef57d4f7fee6ed17806f067aa72176fba0a637dc5a2c898a6113f9804bef90dae1b710b35131c471b28db77f523047d8432caab7b40c724933c9ebe0a15c9bebc431d67c49c100d4c4cc5d4becb3e42b6597f299cfc657e2a5fcb6fab3ad6faec6c44198c4a475817
  roots2 := 0xcbbb9d5dc1059ed8629a292a367cd5079159015a3070dd17152fecd8f70e593967332667ffc00b318eb44a8768581511db0c2e0d64f98fa747b5481dbefa4fa4

/-- The exclusive or of a word's rotations to the right. -/
def Sha2.mix (p : Sha2) (rs : List Nat) (x : Nat) : Nat :=
  rs.foldl (fun a r => a ^^^ (x / 2 ^ r + low r x * 2 ^ (p.width - r))) 0

/-- A mixing of the schedule: rotations and one shift. -/
def Sha2.stir (p : Sha2) (m : List Nat × Nat) (x : Nat) : Nat := p.mix m.1 x ^^^ (x / 2 ^ m.2)

/-- The word of the schedule that follows the sixteen of the window, the oldest first. -/
def Sha2.nextWord (p : Sha2) (w : List Nat) : Nat :=
  low p.width (w.getD 0 0 + p.stir p.low0 (w.getD 1 0) + w.getD 9 0 + p.stir p.low1 (w.getD 14 0))

/-- The eight working variables of a round. -/
structure ShaVars where
  a : Nat
  b : Nat
  c : Nat
  d : Nat
  e : Nat
  f : Nat
  g : Nat
  h : Nat

/-- A round with its constant and its word of the schedule. -/
def Sha2.turn (p : Sha2) (v : ShaVars) (k w : Nat) : ShaVars :=
  let choose := v.g ^^^ (v.e &&& (v.f ^^^ v.g))
  let most := (v.a &&& (v.b ||| v.c)) ||| (v.b &&& v.c)
  let t := v.h + p.mix p.up1 v.e + choose + k + w
  { a := low p.width (t + p.mix p.up0 v.a + most), b := v.a, c := v.b, d := v.c, e := low p.width (v.d + t), f := v.e, g := v.f, h := v.g }

/-- All rounds: the constants left, the window of the schedule. -/
def Sha2.turns (p : Sha2) : List Nat → List Nat → ShaVars → ShaVars
  | [], _, v => v
  | k :: ks, w, v => p.turns ks (w.drop 1 ++ [p.nextWord w]) (p.turn v k (w.getD 0 0))

/-- The hash, eight words, after a block given as one long word. -/
def Sha2.absorb (p : Sha2) (hash : List Nat) (block : Nat) : List Nat :=
  let at_ (i : Nat) : Nat := hash.getD i 0
  let v := p.turns (wordsOf p.width p.rounds p.roots3) (wordsOf p.width 16 block) ⟨at_ 0, at_ 1, at_ 2, at_ 3, at_ 4, at_ 5, at_ 6, at_ 7⟩
  (hash.zip [v.a, v.b, v.c, v.d, v.e, v.f, v.g, v.h]).map (fun x => low p.width (x.1 + x.2))

/-- The message with its padding and its length in bits, as one long word of `blocks` blocks of 16 words. -/
def Sha2.blocks (p : Sha2) (m : List Byte) : Nat := (m.length + p.width / 4) / (2 * p.width) + 1
def Sha2.padded (p : Sha2) (m : List Byte) : Nat :=
  (beNat m * 2 + 1) * 2 ^ (16 * p.width * p.blocks m - 8 * m.length - 1) + 8 * m.length

/-- The first `n` words of the hash of a message, as bytes. -/
def Sha2.hash (p : Sha2) (n : Nat) (m : List Byte) : List Byte :=
  (((wordsOf (16 * p.width) (p.blocks m) (p.padded m)).foldl p.absorb (wordsOf p.width 8 p.roots2)).take n).flatMap (beBytes (p.width / 8))

/-- SHA-256 and SHA-384 of a byte string. -/
def sha256 (m : List Byte) : List Byte := sha2For256.hash 8 m
def sha384 (m : List Byte) : List Byte := sha2For384.hash 6 m

/-- HMAC over a hash with blocks of `b` bytes. -/
def hmacWith (h : List Byte → List Byte) (b : Nat) (key msg : List Byte) : List Byte :=
  let k := fitBytes b (if key.length > b then h key else key)
  h (k.map (fun x => x ^^^ 0x5C#8) ++ h (k.map (fun x => x ^^^ 0x36#8) ++ msg))
def hmac256 : List Byte → List Byte → List Byte := hmacWith sha256 64
def hmac384 : List Byte → List Byte → List Byte := hmacWith sha384 128

/-- HKDF with SHA-384 (RFC 5869) for at most 96 bytes: Expand(Extract(salt, key), info, n), two blocks of 48. -/
def hkdf384 (key salt info : List Byte) (n : Nat) : List Byte :=
  let prk := hmac384 salt key
  let t1 := hmac384 prk (info ++ [1#8])
  if n ≤ 48 then t1.take n else (t1 ++ hmac384 prk (t1 ++ info ++ [2#8])).take n

/-- CRC-32 (reflected, polynomial 0x04C11DB7, initial value and final inversion all ones): one bit, one byte, a string. -/
def crcBit (c : Nat) : Nat := if c % 2 == 1 then (c / 2) ^^^ 0xEDB88320 else c / 2
def crcByte (c : Nat) (b : Byte) : Nat := crcBit (crcBit (crcBit (crcBit (crcBit (crcBit (crcBit (crcBit (c ^^^ b.toNat))))))))
def crc32 (m : List Byte) : Nat := m.foldl crcByte 0xFFFFFFFF ^^^ 0xFFFFFFFF

end Sys2Proof.Machine
end

