-- ==== Sys2Proof/Machine/Legal.lean ====
section
/-!
DEFINITION. What the legal side shares (R333, R340, R345 to R347): metering points and their registers, the legal log,
and the change of a point's billing source. The commands of legal metering stand in Sys2Proof/Machine/Metering.lean.
-/
namespace Sys2Proof.Machine
open Sys2Proof

/-- Cross-check states of a point (Table 14-5). -/
def Cross.AGREE : Nat := 0
def Cross.DISAGREE : Nat := 1
def Cross.RESOLVED : Nat := 2
def Cross.DISPUTED : Nat := 3
def Cross.SINGLE : Nat := 4

/-- A point on a die, and a point, before anything was metered. -/
def MeterPt.none : MeterPt := ⟨[], [], [], [], [], [], []⟩
def Mark.none : Mark := ⟨0, 0, 0, 0, [], 0, 0, 0⟩
def PointSt.none : PointSt :=
  ⟨0, false, 0, 0, 0, 0, 0, 0, 0, .none, .none, .none, .none, .none, .none, 0, 0⟩

/-- What a die holds of a point, and what both share. -/
def State.meter (s : State) (d pt : Nat) : MeterPt := Tab.get MeterPt.none s.meters (17 * d + pt)
def State.setMeter (s : State) (d pt : Nat) (k : MeterPt) : State := { s with meters := Tab.set s.meters (17 * d + pt) k }
def State.mpoint (s : State) (pt : Nat) : PointSt := Tab.get PointSt.none s.mpoints pt
def State.setPoint (s : State) (pt : Nat) (k : PointSt) : State := { s with mpoints := Tab.set s.mpoints pt k }

/-- Add to one place of a list of sums, which counts as zero beyond its end. -/
def addAt (l : List Rat) (r : Nat) (x : Rat) : List Rat :=
  if l.length ≤ r then l ++ List.replicate (r - l.length) 0 ++ [x] else l.set r (l.getD r 0 + x)

/-- The whole part of an energy register. -/
def wholeOf (q : Rat) : Nat := (ratFloor q).toNat
def MeterPt.reg (k : MeterPt) (r : Nat) : Nat := wholeOf (k.regs.getD r 0)

/-- The billing source of a point: 0 M0, 1 M1 (R340). -/
def State.billSource (s : State) (pt : Nat) : Nat := s.nat Ent.BILLING_SOURCE pt

/-- The register views of a point (R332, R358, R365): both dies' registers, and those of the billing source. -/
def State.showPoint (s : State) (pt : Nat) : State :=
  let src := s.meter (s.billSource pt) pt
  let s1 := s.each (List.range 14) (fun z r =>
    (((z.fitNat Ent.REGISTER_M0 pt ((s.meter 0 pt).reg r) r).fitNat Ent.REGISTER_M1 pt ((s.meter 1 pt).reg r) r).fitNat Ent.REGISTER
      pt (src.reg r) r).setNat Ent.VIEW_32 pt (src.reg r / 1000 % 2 ^ 32) r)
  s1.each (List.range 8) (fun z k =>
    (z.fitNat Ent.TARIFF_REG0 pt (wholeOf (src.rates0.getD k 0)) k).fitNat Ent.TARIFF_REG1 pt (wholeOf (src.rates1.getD k 0)) k)

/-- Capacity of a die's legal log (R347). -/
def legalCapacity : Nat := 4096

/-- Free places of the legal log, LOG_LOW and LOG_FULL (R347). -/
def State.legalFree (s : State) : Nat := legalCapacity - s.legal.log.length
def State.legalLow (s : State) : Bool := decide (s.legalFree < 64)
def State.legalFull (s : State) : Bool := s.legalFree == 0

/-- LEGAL_LOG_NEWEST and LEGAL_LOG_OLDEST follow the log (R509). -/
def State.showLegal (s : State) : State :=
  (s.setNat Ent.LEGAL_LOG_NEWEST 0 ((s.legal.log.head?.map Prod.fst).getD 0)).setNat Ent.LEGAL_LOG_OLDEST 0
    ((s.legal.log.getLast?.map Prod.fst).getD 0)

/-- Enter a record in the legal log of both dies (R345 to R347, Table 14-6); one that finds no place is counted as lost.
The last 64 places take every kind but 4. -/
def State.legalLog (s : State) (kind origin object p1 p2 : Nat) : State :=
  if s.legalFull || (kind == 4 && s.legalLow) then s.bump Ent.LEGAL_LOG_LOST
  else
    let seq := nextSeq s.legal.seq
    let r := leBytes 4 seq ++ leBytes 8 s.sfn ++ leBytes 4 (s.nat Ent.METER_TIME_S) ++ leBytes 1 kind ++ leBytes 1 origin ++
      leBytes 2 object ++ leBytes 4 p1 ++ leBytes 4 p2 ++ leBytes 4 0 ++ (sha256 s.legal.last).take 8
    let s1 := ({ s with legal := { s.legal with log := (seq, r) :: s.legal.log, last := r, seq := seq } }.showLegal).streamLog 2 r
    let s2 := s1.when (s1.legalFree == 63) (fun z => z.raise Evt.LEGAL_LOG_LOW 0 z.legalFree 0)
    s2.when s2.legalFull (fun z => z.raise Evt.LEGAL_LOG_FULL 0 (z.nat Ent.LEGAL_LOG_LOST) 0)

/-- A used channel of PROFILE_CHANNELS names the point (R361). -/
def State.profiled (s : State) (pt : Nat) : Bool :=
  let b := s.bytes Ent.PROFILE_CHANNELS
  (List.range 48).any (fun i => leAt b (2 * i + 1) 1 == pt && leAt b (2 * i) 2 != 0xFFFF)

/-- Set a bit of the header the open interval will carry, counted from bit 104 (Table 15-2). -/
def State.markInterval (s : State) (i : Nat) : State := { s with bill := { s.bill with bits := setBit s.bill.bits i true } }

/-- Set a flag of Table 15-8 for the session and the period of a point. -/
def State.markPoint (s : State) (pt i : Nat) : State :=
  let k := s.mpoint pt
  s.setPoint pt { k with sesFlags := setBit k.sesFlags i true, perFlags := setBit k.perFlags i true }

/-- The energies a session's record takes when its point's source changes: the new die's own (R192, R373). -/
def State.resumeSession (s : State) (pt d : Nat) : State :=
  if pt < 1 ∨ 8 < pt then s
  else match Tab.find s.outlets.sess (pt - 1) with
    | none => s
    | some k =>
      let p := s.mpoint pt
      let a := if d == 0 then p.close0 else p.close1
      let b := if d == 0 then p.open0 else p.open1
      let k1 := { k with delivered0 := a.r0, received0 := a.r1, delivered1 := b.r0, received1 := b.r1 }
      { s with outlets := { s.outlets with sess := Tab.set s.outlets.sess (pt - 1) k1 } }

/-- Enter a change or reset of a point's source in the legal log with both dies' register 0 (R340, kind 6). -/
def State.logSource (s : State) (pt : Nat) : State :=
  s.legalLog 6 4 pt (low 32 ((s.meter 0 pt).reg 0)) (low 32 ((s.meter 1 pt).reg 0))

/-- BILLING_SOURCE of a point changes: the event with its cause, the views, the flags of the spans that hold the frame. -/
def State.setSource (s : State) (pt d cause : Nat) : State :=
  if s.billSource pt == d then s
  else
    let s1 := (((s.setNat Ent.BILLING_SOURCE pt d).raise Evt.BILLING_SOURCE_CHANGE pt d cause).markPoint pt 3).resumeSession pt d
    (s1.when (s1.profiled pt) (fun z => z.markInterval 9)).showPoint pt

/-- Enabled metering points. -/
def State.enabledPoints (s : State) : List Nat := (List.range 17).filter (fun pt => s.flag Ent.POINT_ENABLE pt)

/-- The stagger of a legal activation is abandoned (R451): M0 does not change, M1 restarts on its old bank with its registers, and the
new slot stays VERIFIED. Cause 0 M1 failed, 1 a point DISPUTED. -/
def State.abandonStagger (s : State) (cause : Nat) : State :=
  match s.fw.stagger with
  | none => s
  | some g =>
    let s1 := ({ s with fw := { s.fw with stagger := none, bank1 := g.old } }.setBytes Ent.MEAS_LEGAL_M1 0 (s.bytes Ent.MEAS_LEGAL_M0)).setNat
      Ent.LEGAL_CHECK_VALUE_M1 0 (s.nat Ent.LEGAL_CHECK_VALUE)
    (s1.raise Evt.LEGAL_ACTIVATION_FAILED 3 cause (s.nat Ent.FW_LEGAL_VERSION)).legalLog 5 3 0xFFFF (s.nat Ent.FW_LEGAL_VERSION)
      (s.nat Ent.LEGAL_CHECK_VALUE)

/-- A metering die has failed (R340): the legal log says so, and every enabled point bills from the surviving die. -/
def State.metersSingle (s : State) (d diag : Nat) : State :=
  let other := 1 - d
  let alive := if other == 0 then !s.die.m0Failed else !s.die.m1Failed
  let s1 := (s.legalLog 8 (2 + other) 0xFFFF (2 + d) (low 32 diag)).each s.enabledPoints (fun z pt =>
    let z1 := z.setNat Ent.CROSS_STATE pt Cross.SINGLE
    if alive && z1.billSource pt == d then (z1.setSource pt other 1).logSource pt else z1)
  s1.when (d == 1) (fun z => z.abandonStagger 0)

end Sys2Proof.Machine
end

