-- ==== Sys2Proof/Machine/Measurement.lean ====
section
/-!
DEFINITION. Channel values (R14, R15, R306 to R319, R322): correction and scaling of conversions, validity, the source
control consumers use, spare slices, retirement, the slot table and fault capture.
-/
namespace Sys2Proof.Machine
open Sys2Proof

/-- A die's side of a channel before any window. -/
def DieChan.none : DieChan := ⟨0, 0, 0, 0, Option.none, false, false, 0, 0, 0⟩

/-- A channel before any window. -/
def ChanSt.none : ChanSt := ⟨DieChan.none, DieChan.none, 0, 0, true, 0, false⟩

/-- What is held of a channel. -/
def State.chanSt (s : State) (ch : Nat) : ChanSt := Tab.get ChanSt.none s.meas.chans ch

/-- Write what is held of a channel. -/
def State.setChanSt (s : State) (ch : Nat) (c : ChanSt) : State :=
  { s with meas := { s.meas with chans := Tab.set s.meas.chans ch c } }

/-- Die `d`'s side of a channel. -/
def ChanSt.die (c : ChanSt) (d : Nat) : DieChan := if d == 0 then c.d0 else c.d1
def ChanSt.setDie (c : ChanSt) (d : Nat) (x : DieChan) : ChanSt := if d == 0 then { c with d0 := x } else { c with d1 := x }

/-- A valid window of the control source (R15): VALID of the die SOURCE names in MCH_STATUS. -/
def State.chanValid (s : State) (ch : Nat) : Bool :=
  let m := s.nat Ent.MCH_STATUS ch
  decide (ch < 96) && (if bit m 2 then bit m 1 else bit m 0)

/-- The value control consumers take, its window minimum and maximum, and its mean over the last frame. -/
def State.chan (s : State) (ch : Nat) : Rat := s.rat Ent.MCH_VALUE ch
def State.chanMin (s : State) (ch : Nat) : Rat := s.rat Ent.MCH_MIN ch
def State.chanMax (s : State) (ch : Nat) : Rat := s.rat Ent.MCH_MAX ch
def State.chanMean (s : State) (ch : Nat) : Rat := (s.chanSt ch).mean
def State.chanMeanOk (s : State) (ch : Nat) : Bool := (s.chanSt ch).meanOk

/-- A metering die is running; it is failed (R81). -/
def State.meterRunning (s : State) (d : Nat) : Bool := if d == 0 then s.die.m0Running else s.die.m1Running
def State.meterFailed (s : State) (d : Nat) : Bool := if d == 0 then s.die.m0Failed else s.die.m1Failed

/-- The spare of a bank, and the ticks its dwell began. -/
def State.bank (s : State) (b : Nat) : Bank := Tab.get ⟨none, 0⟩ s.meas.banks b
def State.setBank (s : State) (b : Nat) (x : Bank) : State := { s with meas := { s.meas with banks := Tab.set s.meas.banks b x } }

/-- A slice of a bank is retired. -/
def State.retired (s : State) (b i : Nat) : Bool := bit (s.nat Ent.RETIRED_MASK b) i

/-- The active slices of a bank (R306). -/
def State.activeSlices (s : State) (b : Nat) : List Nat :=
  (List.range 9).filter (fun i => !s.retired b i && (s.bank b).spare != some i)

/-- A spare check of R80 is running. -/
def State.shadowHeld (s : State) (b : Nat) : Bool := !s.die.spareChecks.isEmpty && (s.bank b).spare.isSome

/-- BANK_STATUS (Table 13-10). -/
def State.showBank (s : State) (b : Nat) : State :=
  s.setNat Ent.BANK_STATUS b (pack [(0, 9, ofBits (s.activeSlices b)), (9, 9, s.nat Ent.RETIRED_MASK b),
    (18, 4, (s.bank b).spare.getD 15), (22, 1, b2n (s.bank b).spare.isNone), (23, 1, b2n (s.shadowHeld b))])

/-- At the start of a metering die its banks begin with the lowest slice that is not retired as spare; a bank that
would be left with fewer than 8 active slices has none (R308, R309). -/
def State.startBanks (s : State) (d : Nat) : State :=
  s.each [2 * d, 2 * d + 1] fun z b =>
    let alive := (List.range 9).filter (fun i => !z.retired b i)
    (z.setBank b ⟨if alive.length == 9 then alive.head? else none, z.ticks⟩).showBank b

/-- Active slices of a die: n of R306. -/
def State.dieSlices (s : State) (d : Nat) : Nat := (s.activeSlices (2 * d)).length + (s.activeSlices (2 * d + 1)).length

/-- Conversions per cycle of a class (Table 13-2), METER taking the SLOW count at the reduced rate (R310). -/
def classCount (cls : Nat) (reduced : Bool) : Nat :=
  match cls with
  | 1 => 80
  | 2 => if reduced then 10 else 20
  | 3 => 10
  | _ => 0

/-- The demand of the channels of a configuration set (R312). -/
def demandOf (cls : Nat → Nat) (reduced : Bool) : Nat :=
  (List.range 96).foldl (fun a ch => a + classCount (cls ch) reduced) 0

/-- The SLOW rate is in force on a die. -/
def State.reduced (s : State) (d : Nat) : Bool := if d == 0 then s.meas.reduced0 else s.meas.reduced1

/-- Full scale of a range in volts (Table 13-1). -/
def fullScale (range : Nat) : Rat :=
  match range with
  | 0 => 1024 / 100
  | 1 => 256 / 100
  | 2 => 64 / 100
  | _ => 16 / 100

/-- OFFSET, GAIN and SKEW of a slice from SLICE_CORRECTION. -/
def State.correction (s : State) (b i : Nat) : Int × Int × Int :=
  let bs := fitBytes 108 (s.bytes Ent.SLICE_CORRECTION b)
  (signed 32 (leAt bs (12 * i) 4), signed 32 (leAt bs (12 * i + 4) 4), signed 32 (leAt bs (12 * i + 8) 4))

/-- SLICE_CORRECTION with the three values of one slice. -/
def State.setCorrection (s : State) (b i : Nat) (offset gain skew : Int) : State :=
  let bs := fitBytes 108 (s.bytes Ent.SLICE_CORRECTION b)
  s.setBytes Ent.SLICE_CORRECTION b
    (bs.take (12 * i) ++ leBytes 4 (word 32 offset) ++ leBytes 4 (word 32 gain) ++ leBytes 4 (word 32 skew) ++
      bs.drop (12 * i + 12))

/-- The corrected code of a conversion (R307). -/
def State.corrected (s : State) (d : Nat) (c : Conv) : Rat :=
  let (off, gain, _) := s.correction (2 * d + c.slice / 9) (c.slice % 9)
  ((c.code : Rat) - (off : Rat) / 256) * (1 + (gain : Rat) / 1000000)

/-- The calibration of a channel on a die. -/
def State.calZero (s : State) (d ch : Nat) : Rat := s.rat (if d == 0 then Ent.CAL_ZERO_M0 else Ent.CAL_ZERO_M1) ch
def State.calGain (s : State) (d ch : Nat) : Rat := s.rat (if d == 0 then Ent.CAL_GAIN_M0 else Ent.CAL_GAIN_M1) ch

/-- Volts at the input from a corrected code, and the engineering value from volts (R311). -/
def State.volts (s : State) (ch : Nat) (code : Rat) : Rat := code * fullScale (s.nat Ent.MCH_RANGE ch) / 32768
def State.engineering (s : State) (d ch : Nat) (u : Rat) : Rat :=
  s.rat Ent.MCH_SENSOR_SCALE ch * s.calGain d ch * (u - s.calZero d ch) + s.rat Ent.MCH_SENSOR_OFFSET ch

/-- Smallest and largest of a list, and its mean. -/
def ratMin (l : List Rat) : Rat := match l with | [] => 0 | x :: r => r.foldl (fun a b => if b < a then b else a) x
def ratMax (l : List Rat) : Rat := match l with | [] => 0 | x :: r => r.foldl (fun a b => if a < b then b else a) x
def ratSum (l : List Rat) : Rat := l.foldl (fun a b => a + b) 0
def ratMean (l : List Rat) : Rat := if l.isEmpty then 0 else ratSum l / (l.length : Rat)

/-- A capture overlaps the die's last window: it runs, or it ended in the cycle before (Table 13-8). -/
def State.capturing (s : State) (d : Nat) : Bool :=
  (match s.meas.capture with | some c => c.die == d | none => false) ||
    (match s.meas.lastCap with | some (e, t) => e == d && decide (s.ticks ≤ t + 1) | none => false)

/-- A slice's conversion counts in the window that has just closed (R309): a retired slice's does not, but for those it made before a
shadow check retired it. -/
def State.sliceCounts (s : State) (d : Nat) (c : Conv) : Bool :=
  let b := 2 * d + c.slice / 9
  let i := c.slice % 9
  !s.retired b i || (match Tab.find s.meas.gone (9 * b + i) with
    | some (t, cause) => decide (s.ticks ≤ t + (if cause == 4 then 0 else 1))
    | none => false)

/-- The cause a window is invalid for, in the order of R314; `none` for a valid window. -/
def State.windowCause (s : State) (d : Nat) (w : Window) (latched : Bool) : Option Nat :=
  let cls := s.nat Ent.MCH_CLASS w.ch
  let due := classCount cls (s.reduced d)
  let flagged := if d == 0 then s.die.flagged0 else s.die.flagged1
  if cls == 0 then some 6
  else if s.meterFailed d then some 3
  else if latched then some 2
  else if flagged.contains w.ch then some 5
  else if w.sequence then some 4
  else if w.common then some 0
  else if decide (2 * w.convs.length < due) || decide (2 * w.held > due) then some 1
  else none

/-- MCH_STATUS (Table 13-8) from what is held of the channel; SOURCE and the flags of both dies are given. -/
def State.showChan (s : State) (ch : Nat) (v0 v1 source : Bool) (c0 c1 : Nat) : State :=
  let c := s.chanSt ch
  let src := c.die (b2n source)
  s.setNat Ent.MCH_STATUS ch
    (pack [(0, 1, b2n v0), (1, 1, b2n v1), (2, 1, b2n source), (3, 1, b2n src.saturated),
      (4, 1, b2n (s.meas.calibs.any (fun k => k.ch == ch) || s.running.any (fun r => r.target == Ent.MCH_OPEN_TEST.target ch))),
      (5, 1, b2n (s.reduced (b2n source) && s.nat Ent.MCH_CLASS ch == 2)), (6, 1, b2n (s.flag Ent.MCH_LEGAL ch)),
      (7, 1, b2n (s.capturing (b2n source))), (8, 3, c0), (11, 3, c1), (16, 16, src.conversions)])

/-- The control source of a channel after new flags (R15): M0 while valid, else M1 while valid, else unchanged. A change
raises 0xC012 with M0's flags. -/
def State.chooseSource (s : State) (ch : Nat) (v0 v1 : Bool) (c0 c1 : Nat) : State :=
  let old := bit (s.nat Ent.MCH_STATUS ch) 2
  let src := if v0 then false else if v1 then true else old
  let s1 := s.showChan ch v0 v1 src c0 c1
  let s2 := s1.when (src != old) fun z =>
    z.raise Evt.SAMPLE_SOURCE_CHANGE ch (b2n src) (pack [(0, 1, b2n v0), (8, 3, c0)])
  let k := (s2.chanSt ch).die (b2n src)
  ((s2.setNat Ent.MCH_VALUE ch (s2.nat (if src then Ent.MCH_VALUE_M1 else Ent.MCH_VALUE_M0) ch)).setNat Ent.MCH_MIN ch k.lo).setNat
    Ent.MCH_MAX ch k.hi

/-- A calibration in progress takes the mean of u of a window; twenty windows make a frame (R320). -/
def Calib.window (k : Calib) (d : Nat) (u : Rat) : Calib :=
  if !bit k.dies d then k
  else if d == 0 then
    if k.n0 + 1 ≥ 20 then { k with means0 := ((k.acc0 + u) / 20) :: k.means0, acc0 := 0, n0 := 0 }
    else { k with acc0 := k.acc0 + u, n0 := k.n0 + 1 }
  else if k.n1 + 1 ≥ 20 then { k with means1 := ((k.acc1 + u) / 20) :: k.means1, acc1 := 0, n1 := 0 }
  else { k with acc1 := k.acc1 + u, n1 := k.n1 + 1 }

/-- A die's window for every channel (R14, R314): the conversions that count of those its block brings; a channel it brings nothing of has
made none. One that is OFF and shows it already stays as it is. -/
def State.windowsOf (s : State) (d : Nat) (ws : List Window) : List Window :=
  let live := ws.map (fun w => { w with convs := w.convs.filter (fun c => s.sliceCounts d c) })
  let shown (ch : Nat) : Bool :=
    s.nat Ent.MCH_CLASS ch == 0 && !bit (s.nat Ent.MCH_STATUS ch) d && field (s.nat Ent.MCH_STATUS ch) (8 + 3 * d) 3 == 6
  live ++ ((List.range 96).filter (fun ch => !ws.any (fun w => w.ch == ch) && !shown ch)).map (fun ch => ⟨ch, [], false, false, 0, []⟩)

/-- One channel of a result block (R307, R311, R314): its die's flag and values; the source follows once both dies' blocks are in. -/
def State.takeWindow (s : State) (d : Nat) (w : Window) : State :=
  if w.ch ≥ 96 then s
  else
    let c := s.chanSt w.ch
    let k := c.die d
    let again := match k.sequence with | some t => decide (s.ticks < t + secTicks 1) | none => false
    let latched := k.latched || (w.sequence && again)
    let cause := s.windowCause d w latched
    let ok := cause.isNone
    let off := s.nat Ent.MCH_CLASS w.ch == 0
    let m := s.nat Ent.MCH_STATUS w.ch
    let was := bit m d
    let us := w.convs.map (fun x => s.volts w.ch (s.corrected d x))
    let xs := us.map (s.engineering d w.ch)
    let all := xs ++ w.samples.map (fun x => s.engineering d w.ch (s.volts w.ch (s.corrected d x)))
    let e := if d == 0 then Ent.MCH_VALUE_M0 else Ent.MCH_VALUE_M1
    let k1 : DieChan :=
      { lo := if all.isEmpty then k.lo else F32.ofRat (ratMin all), hi := if all.isEmpty then k.hi else F32.ofRat (ratMax all)
        u := if us.isEmpty then k.u else ratMean us
        invalidRun := if ok || off then 0 else if was || decide (k.invalidRun > 0) then k.invalidRun + 1 else 0
        sequence := if w.sequence then some s.ticks else k.sequence
        latched := latched
        saturated := (w.convs ++ w.samples).any (fun x => x.code == -32768 || x.code == 32767)
        conversions := w.convs.length, at_ := s.ticks
        bank := match w.convs with | x :: _ => 2 * d + x.slice / 9 | [] => k.bank }
    let s1 := s.setChanSt w.ch (c.setDie d k1)
    let s2 := if xs.isEmpty then s1 else s1.setRat e w.ch (ratMean xs)
    let s3 := if was && !ok && !off then s2.raise Evt.CHANNEL_INVALID w.ch (2 + d) (cause.getD 0)
              else if !was && ok && decide (k.invalidRun > 0) then s2.raise Evt.CHANNEL_VALID w.ch (2 + d) k.invalidRun
              else s2
    let s4 := { s3 with meas := { s3.meas with
      calibs := s3.meas.calibs.map (fun (q : Calib) => if q.ch == w.ch then q.window d k1.u else q) } }
    let s5 := if w.held == 0 then s4 else s4.bump Ent.HELD_CONVERSIONS 0 0 w.held
    let code := cause.getD 0
    if d == 0 then s5.showChan w.ch ok (bit m 1) (bit m 2) code (field m 11 3)
    else s5.showChan w.ch (bit m 0) ok (bit m 2) (field m 8 3) code

/-- The control source of every channel from the flags of both dies (R15). -/
def State.chooseSources (s : State) : State :=
  s.each (s.meas.chans.map Prod.fst) fun z ch =>
    let m := z.nat Ent.MCH_STATUS ch
    z.chooseSource ch (bit m 0) (bit m 1) (field m 8 3) (field m 11 3)

/-- At the end of a cycle every channel's frame mean takes the window control has in use; the window of cycle 19
arrives in cycle 0, where the frame's mean is complete (R14, Table 1-3). -/
def State.accumulate (s : State) : State :=
  { s with meas := { s.meas with chans := s.meas.chans.map fun p =>
      let c := p.2
      let acc := c.acc + s.chan p.1
      let okNow := c.accOk && s.chanValid p.1
      if s.cycle == 0 then
        (p.1, { c with acc := 0, accN := 0, accOk := true, mean := acc / ((c.accN + 1 : Nat) : Rat), meanOk := okNow })
      else (p.1, { c with acc := acc, accN := c.accN + 1, accOk := okNow }) } }

/-- A channel is invalid in a failed die with cause 3, and R15 picks the source anew. -/
def State.invalidateDie (s : State) (d : Nat) : State :=
  s.each (s.meas.chans.map Prod.fst) fun z ch =>
    let m := z.nat Ent.MCH_STATUS ch
    if d == 0 then z.chooseSource ch false (bit m 1) 3 (field m 11 3) else z.chooseSource ch (bit m 0) false (field m 8 3) 3

/-- A metering die fails (R81): its field reads failed, the event names it, control takes every channel from the other die,
and so does billing. -/
def State.failMeter (s : State) (d diag : Nat) : State :=
  if s.meterFailed d then s
  else
    let s1 := if d == 0 then { s with die := { s.die with m0Failed := true } } else { s with die := { s.die with m1Failed := true } }
    ((s1.raise Evt.METER_DIE_FAULT (2 + d) diag 0).invalidateDie d).metersSingle d diag

/-- A metering die fails for a cause to which the spec gives no diagnostic code: a free one (log entry 1). -/
def State.failMeterFree (s : State) (d : Nat) : State :=
  if s.meterFailed d then s
  else
    let (f, z) := s.takeFree
    z.failMeter d (low 32 f)

/-- The slice that follows in rotation: the next higher one not retired, else the lowest (R308). -/
def State.nextSpare (s : State) (b i : Nat) : Option Nat :=
  let alive := (List.range 9).filter (fun k => !s.retired b k)
  match alive.find? (fun k => decide (k > i)) with
  | some k => some k
  | none => alive.head?

/-- MCH_STAGGER as a slot table is built (R313): the spec bounds it by ±250 ns and leaves the value to the build, a free one (log
entry 1); a channel that is OFF has none. -/
def State.buildSlots (s : State) : State :=
  s.each (List.range 96) fun z ch =>
    if z.nat Ent.MCH_CLASS ch == 0 then z.setInt Ent.MCH_STAGGER ch 0
    else
      let (f, z1) := z.takeFree
      z1.setInt Ent.MCH_STAGGER ch (((f % 501 : Nat) : Int) - 250)

/-- Mark a die's slot table to be rebuilt at the next frame boundary. -/
def State.askRebuild (s : State) (d : Nat) : State :=
  if d == 0 then { s with meas := { s.meas with rebuild0 := true } } else { s with meas := { s.meas with rebuild1 := true } }

/-- A slice is retired (R309): it never converts again; the spare, when there is one, takes its slots, and a bank that has just lost its
spare says so. -/
def State.retireSlice (s : State) (b i cause : Nat) : State :=
  if s.retired b i then s
  else
    let had := (s.bank b).spare
    let n0 := s.dieSlices (b / 2)
    let s0 := { s with meas := { s.meas with gone := Tab.set s.meas.gone (9 * b + i) (s.ticks, cause) } }
    let s1 := (s0.setNat Ent.RETIRED_MASK b (setBit (s0.nat Ent.RETIRED_MASK b) i true)).raise Evt.SLICE_RETIRED b i cause
    let s2 := (s1.setBank b ⟨none, s.ticks⟩).showBank b
    let s3 := s2.when had.isSome (fun z => z.raise Evt.BANK_NO_SPARE b (z.activeSlices b).length 0)
    s3.when (s3.dieSlices (b / 2) < n0) (fun z => z.askRebuild (b / 2))

/-- The cause a check gives for retiring a slice (R309), if any: 0 offset beyond 8 LSB, 1 gain beyond 500 ppm, 2 skew beyond 1 ns against
the spare; 3 its own correction outside its trim range, ±2 ns for the skew (R307); 4 the zero beyond ±16 LSB or reference A beyond ±0.1 % in
3 consecutive cycles. -/
def retireCause : SliceCheck → Option Nat
  | .shadow o g k => if o.natAbs > 2048 then some 0 else if g.natAbs > 500 then some 1 else if k.natAbs > 100 then some 2 else none
  | .reference k out => if out || decide (k.natAbs > 200) then some 3 else none
  | .housekeeping z r =>
    let three (l : List Int) (most : Nat) : Bool := decide (3 ≤ l.length) && (l.take 3).all (fun x => decide (x.natAbs > most))
    if three z 16 || three r 1000 then some 4 else none

/-- A slice stands where a check of the kind is made (R308): shadowed by a spare, itself the spare, or active. -/
def State.checkable (s : State) (b i : Nat) : SliceCheck → Bool
  | .shadow _ _ _ => (s.activeSlices b).contains i && (s.bank b).spare.isSome
  | .reference _ _ => (s.bank b).spare == some i
  | .housekeeping _ _ => (s.activeSlices b).contains i

/-- SLICE_RETIRED (R309): a check of a slice of a running die. -/
def execSliceRetired (bank : Fin 4) (slice : Fin 9) (c : SliceCheck) (s : State) : Host.Outcome State Fault Refusal :=
  let b := bank.val
  match retireCause c with
  | some cause => if s.meterRunning (b / 2) && s.checkable b slice.val c then ok (s.retireSlice b slice.val cause) else ok s
  | none => ok s

/-- SPARE_DWELL_END (R308, R309, R322): at cycle 0 of the first frame after the dwell the spare takes over with its new corrections and the
next slice becomes the spare; a spare whose skew lies outside its trim is retired instead. References that disagree by more than 0.05 % fail
the die. A dwell whose frame a spare check interrupted lasts a frame longer (R324). -/
def execSpareDwellEnd (bank : Fin 4) (r : SpareCal) (s : State) : Host.Outcome State Fault Refusal :=
  let b := bank.val
  match (s.bank b).spare with
  | none => ok s
  | some i =>
    if s.cycle != 0 || decide (s.ticks < (s.bank b).dwell + 20 * s.nat Ent.SPARE_DWELL) then ok s
    else
      let s3 :=
        if r.skew.natAbs > 200 then s.retireSlice b i 3
        else
          let s1 := s.setCorrection b i r.offset r.gain r.skew
          let next := s1.nextSpare b i
          ((s1.setBank b ⟨next, s.ticks⟩).showBank b).when (next.getD 0 ≤ i) (fun z => z.bump Ent.ROTATIONS b)
      if r.refDiff > 500 then ok ((s3.raise Evt.REFERENCE_DISAGREE (2 + b / 2) r.refDiff 0).failMeterFree (b / 2)) else ok s3

/-- A die's slot table is built (R310, R312): a demand beyond the capacity takes METER channels to the SLOW rate, and one that is still beyond
it fails the die. -/
def State.rebuildSlots (s : State) (d : Nat) : State :=
  let n := s.dieSlices d
  let full := demandOf (fun ch => s.nat Ent.MCH_CLASS ch) false
  let slow := demandOf (fun ch => s.nat Ent.MCH_CLASS ch) true
  let fits := decide (full ≤ 240 * n)
  let m := s.meas
  let s1 := if d == 0 then { s with meas := { m with rebuild0 := false, slots0 := n, reduced0 := !fits } }
            else { s with meas := { m with rebuild1 := false, slots1 := n, reduced1 := !fits } }
  let s2 := s1.fitNat (if d == 0 then Ent.DEMAND_M0 else Ent.DEMAND_M1) 0 (if fits then full else slow)
  if fits then s2.buildSlots
  else
    let s3 := s2.raise Evt.REDUCED_RATE (2 + d) (240 * n) full
    if slow ≤ 240 * n then s3.buildSlots else s3.failMeterFree d

/-- SLOT_TABLE_REBUILD (R310): at the boundary after n fell. -/
def execSlotTableRebuild (die : Fin 2) (s : State) : Host.Outcome State Fault Refusal :=
  let d := die.val
  if !(if d == 0 then s.meas.rebuild0 else s.meas.rebuild1) || s.cycle != 0 then ok s else ok (s.rebuildSlots d)

/-- A trigger is refused (R317). -/
def State.refuseCapture (s : State) (reason : Nat) : State :=
  (s.bump Ent.CAPTURE_REFUSED).raise Evt.CAPTURE_REFUSED (s.nat Ent.CAPTURE_CHANNEL) reason 0

/-- A die no control consumer takes a channel from: the one that is not the source of any listed channel (R317). -/
def State.idleDie (s : State) : Option Nat :=
  let srcM1 := s.meas.chans.any (fun p => bit (s.nat Ent.MCH_STATUS p.1) 2)
  let srcM0 := s.meas.chans.any (fun p => !bit (s.nat Ent.MCH_STATUS p.1) 2)
  let valid (d : Nat) : Bool := s.meterRunning d && !s.meterFailed d
  if !srcM1 && valid 1 && valid 0 then some 1 else if !srcM0 && valid 0 && valid 1 then some 0 else none

/-- Act on a capture trigger: start on the die R317 allows, or refuse it. -/
def State.trigger (s : State) (forced : Bool) (ns x : Nat) : State :=
  if s.ticks < s.meas.captureHold || s.meas.capture.isSome then s.refuseCapture 2
  else match s.idleDie with
    | none => s.refuseCapture 0
    | some d =>
      if (s.activeSlices (2 * d)).length != 8 || (s.activeSlices (2 * d + 1)).length != 8 ||
          (if d == 0 then s.meas.rebuild0 else s.meas.rebuild1) then s.refuseCapture 1
      else { s with meas := { s.meas with capture := some ⟨d, s.nat Ent.CAPTURE_CHANNEL, forced, s.sfn, ns, x⟩ } }

/-- CAPTURE_TRIGGER (R317): a conversion of CAPTURE_CHANNEL at or beyond CAPTURE_LEVEL while CAPTURE_ARM is 1. -/
def execCaptureTrigger (x : Nat) (ns : Nat) (s : State) : Host.Outcome State Fault Refusal :=
  if s.flag Ent.CAPTURE_ARM && !F32.special x && decide (s.rat Ent.CAPTURE_LEVEL ≤ ratAbs (F32.toRat x)) then
    ok (s.trigger false ns (low 32 x))
  else ok s

/-- A write of CAPTURE_FORCE applied at the boundary (R317): while armed it triggers at the first slot of the frame. -/
def applyCaptureForce (s : State) : State × Nat :=
  if s.flag Ent.CAPTURE_ARM then (s.trigger true 0 (s.nat Ent.MCH_VALUE (s.nat Ent.CAPTURE_CHANNEL)), St.OK) else (s, St.OK)

/-- CAPTURE_FORCE (R317). -/
def execCaptureForce (c : Client) (v : Nat) (s : State) : Host.Outcome State Fault Refusal :=
  ok (s.clientCommand c Ent.CAPTURE_FORCE 0 (.num v) applyCaptureForce)

/-- The capture record (Table 13-3). -/
def State.captureRecord (s : State) (k : Capture) (d : CaptureData) : List Byte :=
  let perCode := s.rat Ent.MCH_SENSOR_SCALE k.ch * s.calGain k.die k.ch * fullScale (s.nat Ent.MCH_RANGE k.ch) / 32768
  leBytes 8 k.sfn ++ leBytes 4 k.ns ++ leBytes 1 k.ch ++ leBytes 1 (2 + k.die) ++
    leBytes 1 (pack [(0, 1, b2n k.forced), (1, 1, b2n d.saturated)]) ++ [0#8] ++ leBytes 4 (word 32 d.firstNs) ++
    leBytes 2 d.pre.length ++ leBytes 2 d.main.length ++ leBytes 4 (F32.ofRat perCode) ++
    leBytes 4 (F32.ofRat (s.engineering k.die k.ch 0)) ++ (d.pre ++ d.main).flatMap (fun c => leBytes 2 (word 16 c))

/-- CAPTURE_DONE (R319): the record is stored (the last 16 are kept), and triggers are refused for CAPTURE_HOLDOFF. -/
def execCaptureDone (d : CaptureData) (s : State) : Host.Outcome State Fault Refusal :=
  match s.meas.capture with
  | none => ok s
  | some k =>
    let s1 := s.bump Ent.CAPTURE_COUNT
    let n := s1.nat Ent.CAPTURE_COUNT
    let r := s1.captureRecord k d
    let rec16 := ((n, r) :: s1.meas.captures).take 16
    let s2 := { s1 with meas := { s1.meas with capture := none, captures := rec16, lastCap := some (k.die, s.ticks),
                                                captureHold := s.ticks + 20 * s.nat Ent.CAPTURE_HOLDOFF } }
    ok ((s2.raise Evt.CAPTURE_DONE k.ch n k.x).streamRecord 4 r)

end Sys2Proof.Machine
end

