-- ==== Sys2Proof/Machine/Tests.lean ====
section
/-!
DEFINITION. Tests on resources in service (R21 to R25): the checks of a test request, the queue of 32, the end of a
test and its abort on demand; and the tick lines (R13).
-/
namespace Sys2Proof.Machine
open Sys2Proof

/-- A test of any kind is running on the entry's instance. -/
def State.testing (s : State) (e : Entry) (n : Nat) (j : Nat := 0) : Bool :=
  s.running.any (fun r => r.target == e.target n j)

/-- The lowest free queue slot. Which of the 32 a queued test takes is not stated, nor whether it keeps it while it runs: the lowest free one, free
again at the start (DESIGN CHOICE, log entry 82). -/
def State.testSlot (s : State) : Option Nat :=
  (List.range 32).find? (fun i => !(s.tests.any (fun t => t.slot == i)))

/-- TEST_QUEUE_DEPTH follows the queue. -/
def State.setTests (s : State) (l : List QTest) : State :=
  ({ s with tests := l }).setNat Ent.TEST_QUEUE_DEPTH 0 l.length

/-- Note a test as running; the families add what it does to the resource. -/
def State.beginTest (s : State) (target : Nat) (slot : Option Nat) : State :=
  { s with running := ⟨target, slot, s.ticks⟩ :: s.running }

/-- A test ends with a status: a queued one raises TEST_DONE (R23). -/
def State.endTest (s : State) (target status : Nat) : State :=
  match s.running.find? (fun r => r.target == target) with
  | none => s
  | some r =>
    let s1 := { s with running := s.running.filter (fun x => x.target != target) }
    match r.slot with
    | some q => s1.raise Evt.TEST_DONE q target status
    | none => s1

/-- R22 checks 3 and 4 and the start of a test: in service gives CONFLICT, or queues when the request asks for it. -/
def State.testOrQueue (s : State) (target : Nat) (value : List Byte) (queue inService : Bool)
    (start : State → Option Nat → State) : State × Nat :=
  if inService || s.running.any (fun r => r.target == target) then
    if !queue then (s, St.CONFLICT)
    else match s.testSlot with
      | none => (s, St.BUSY)
      | some q => (s.setTests (s.tests ++ [⟨q, target, value, s.ticks⟩]), St.OK)
  else (start s none, St.OK)

/-- A metering channel is demanded (R24, R25): an open-input test or a calibration of a channel that is not legal ends
CANCELLED. -/
def State.cancelChannel (s : State) (ch : Nat) : State :=
  let s1 := if s.testing Ent.MCH_OPEN_TEST ch then
      (s.endTest (Ent.MCH_OPEN_TEST.target ch) St.CANCELLED).setNat Ent.MCH_TEST_RESULT ch St.CANCELLED
    else s
  match s1.meas.calibs.find? (fun k => k.ch == ch) with
  | none => s1
  | some k =>
    if s1.flag Ent.MCH_LEGAL ch then s1
    else
      let s2 := { s1 with meas := { s1.meas with calibs := s1.meas.calibs.filter (fun x => x.ch != ch) } }
      ((s2.endTest (Ent.MCH_CAL_REQUEST.target ch) St.CANCELLED).setNat Ent.MCH_CAL_RESULT ch St.CANCELLED).raise Evt.CAL_DONE ch
        St.CANCELLED (k.command + 256 * k.dies)

/-- TEST_EXPIRED (R23): a queued test that has not started within TEST_QUEUE_EXPIRY is removed. -/
def execTestExpired (slot : Fin 32) (s : State) : Host.Outcome State Fault Refusal :=
  match s.tests.find? (fun t => t.slot == slot.val) with
  | some t =>
    if s.ticks ≥ t.since + secTicks (s.nat Ent.TEST_QUEUE_EXPIRY) then
      ok ((s.setTests (s.tests.filter (fun x => x.slot != slot.val))).raise Evt.TEST_EXPIRED slot.val t.target St.CANCELLED)
    else ok s
  | none => ok s

/-- Every die changes to the other tick line (R13), with its event. -/
def State.changeTickLine (s : State) (deviation : Nat) : State :=
  let b := !s.die.tickB
  ({ s with die := { s.die with tickB := b } }).raise Evt.TICK_LINE_CHANGE (b2n b) deviation 0

/-- TICK_LINE_CHANGE (R13): a deviation above 100 ns, or a missed tick (`none`), moves every die to the other line. -/
def execTickLineChange (deviation : Option Nat) (s : State) : Host.Outcome State Fault Refusal :=
  if deviation.getD (2 ^ 32) > 100 then ok (s.changeTickLine (deviation.getD none32)) else ok s

end Sys2Proof.Machine
end

