-- ==== Sys2Proof/Machine/Allocator.lean ====
section
/-!
DEFINITION. The site power allocator (R109 to R134): capacities, ceilings, supply, water-filling, string shares, module
moves, publication and the release check. Its rows stand in Sys2Proof/Machine/AllocRows.lean.
-/
namespace Sys2Proof.Machine
open Sys2Proof

/-- What the run of a frame reads of the units and of the confirmed caps is frozen at the end of the frame before (R111, Table 5-1);
fault reports that come later are left to the recheck of cycle 12 (R117). -/
def State.freeze (s : State) : State :=
  { s with alloc := { s.alloc with seenUnits := s.bus.units, seenCaps := (List.range 16).map (fun f => (f, s.nat Ent.FE_CAP_CONFIRMED f)),
                                   faulted := [] } }

/-- The state with the units as the run of the frame sees them. -/
def State.atFreeze (s : State) : State := { s with bus := { s.bus with units := s.alloc.seenUnits } }

/-- The confirmed cap of a front-end unit as the run of the frame sees it. -/
def State.confirmed (s : State) (f : Nat) : Nat := Tab.get 0 s.alloc.seenCaps f

/-- Bus draw of a grant, and the largest grant a bus share carries (R110). -/
def State.busDraw (s : State) (g : Int) : Int := if g ≤ 0 then 0 else g + (cdiv (g.toNat * s.nat Ent.MODULE_LOSS_ALLOWANCE) 1000 : Nat)
def State.busGrant (s : State) (b : Int) : Int := if b ≤ 0 then 0 else (b.toNat * 1000 / (1000 + s.nat Ent.MODULE_LOSS_ALLOWANCE) : Nat)

/-- Equal parts of an amount over `n` places in order, rounded down, the remainder 1 W at a time to the first (R110). -/
def equalParts (g : Int) (n : Nat) : List Int :=
  (List.range n).map fun i => if n == 0 then 0 else ((g.toNat / n + b2n (decide (i < g.toNat % n)) : Nat) : Int)

/-- The grant that will hold in the frame of a count: the latest planned value at or before it, else the one in force. -/
def planAt (now : Int) (plan : Tab Int) (f : Nat) : Int :=
  plan.foldl (fun a p => if p.1 ≤ f then p.2 else a) now

/-- Unit numbers of grants: modules 0–63, front-end imports 64–79, exports 80–95, strings 96–103. -/
def feImport (f : Nat) : Nat := 64 + f
def feExport (f : Nat) : Nat := 80 + f
def stringUnit (n : Nat) : Nat := 96 + n

/-- The grant in force of a unit. Front-end exports stand in the plan alone, at the oldest key. -/
def State.inForce (s : State) (u : Nat) : Int :=
  if u < 64 then s.int Ent.MODULE_GRANT u
  else if u < 80 then s.int Ent.FE_GRANT (u - 64)
  else if u < 96 then (match (s.grants u).plan with | (f, v) :: _ => if f ≤ s.frames then v else 0 | [] => 0)
  else s.int Ent.STRING_GRANT 0 (u - 96)

/-- The grant planned for a unit in the frame of a count. -/
def State.planned (s : State) (u f : Nat) : Int := planAt (s.inForce u) (s.grants u).plan f

/-- Modules by their assigned outlet. -/
def State.modulesOf (s : State) (o : Nat) : List Nat := (List.range 64).filter (fun m => s.nat Ent.ASSIGNED_OUTLET m == o)

/-- The session current ceiling last delivered, in A. -/
def State.sessionCeiling (s : State) (o : Nat) : Rat := Tab.get 0 s.alloc.ceilings o

/-- The outlet voltage: mean over the last frame. -/
def State.outletVolts (s : State) (o : Nat) : Rat := s.chanMean (s.nat Ent.VOLTAGE_MCH o)

/-- Capacity of a module at a voltage (R113). -/
def State.capacity (s : State) (m : Nat) (v : Rat) : Int :=
  min 375000 (ratFloor (((s.unitSt m).limit : Rat) / 10 * v))

/-- A module may serve an outlet: ready, reaching it, and neither disabled, unresponsive nor under test. -/
def State.reaches (s : State) (m o : Nat) : Bool :=
  let st := s.nat Ent.MODULE_STATE m
  bit (s.nat Ent.REACH_MASK m) o && s.unitReady m && st != Mod.UNAVAILABLE && st != Mod.DISABLED && st != Mod.TESTING && st != Mod.UNRESPONSIVE

/-- Smallest of a list of values with their LIMITED_BY codes; the lowest code among equals (R113). -/
def lowestTerm (l : List (Int × Nat)) : Int × Nat :=
  match l with
  | [] => (0, 0)
  | x :: r => r.foldl (fun a y => if y.1 < a.1 then y else a) x

/-- The ceiling of an outlet and the term that set it (R113). For a discharging request the magnitude is bounded. -/
def State.ceiling (s : State) (o : Nat) : Int × Nat :=
  let v := s.outletVolts o
  let req := s.int Ent.REQUEST_POWER o
  let cap := ((List.range 64).filter (fun m => s.reaches m o)).foldl (fun a m => a + s.capacity m v) 0
  lowestTerm [((req.natAbs : Int), 0), (s.int Ent.OUTLET_POWER_LIMIT o, 1), (ratFloor (v * 3000), 1),
    (ratFloor (v * s.rat Ent.CABLE_CURRENT_LIMIT o), 2), (ratFloor (v * s.sessionCeiling o), 3), (cap, 4)]

/-- Frames of a ramp (Table 5-4). -/
def State.rampFrames (s : State) : Nat := s.nat Ent.MODULE_RAMP_FRAMES

/-- Capacity a module gives its outlet in a run: whole when ASSIGNED; a module under way counts toward neither outlet (R115, R129). -/
def State.runCapacity (s : State) (m : Nat) (v : Rat) : Int :=
  if s.unitReady m && s.nat Ent.MODULE_STATE m == Mod.ASSIGNED then s.capacity m v else 0

/-- Capacity of the modules ASSIGNED to an outlet. -/
def State.assignedCapacity (s : State) (o : Nat) : Int :=
  (s.modulesOf o).foldl (fun a m => a + s.runCapacity m (s.outletVolts o)) 0

/-- Weighted water-filling within one class (R115): outlet, weight and need, with the budget; the gifts and what is left. -/
def fill : Nat → List (Nat × Nat × Rat) → Rat → List (Nat × Rat) × Rat
  | 0, _, b => ([], b)
  | k + 1, set, b =>
    if set.isEmpty || decide (b ≤ 0) then ([], b)
    else
      let w := set.foldl (fun a x => a + x.2.1) (0 : Nat)
      let unit := b / (w : Rat)
      let capped := set.filter (fun x => decide (x.2.2 ≤ unit * (x.2.1 : Rat)))
      if capped.isEmpty then (set.map (fun x => (x.1, unit * (x.2.1 : Rat))), 0)
      else
        let b1 := capped.foldl (fun a x => a - x.2.2) b
        let rest := set.filter (fun x => !decide (x.2.2 ≤ unit * (x.2.1 : Rat)))
        let (gs, b2) := fill k rest b1
        (capped.map (fun x => (x.1, x.2.2)) ++ gs, b2)

/-- Allocation over classes 0 to 3 in strict order (R112, R115). -/
def State.allocate (s : State) (need : Nat → Int) (budget : Rat) : List (Nat × Rat) × Rat :=
  (List.range 4).foldl (fun acc c =>
    let set := ((List.range 8).filter (fun o => s.nat Ent.CLASS o == c && decide (0 < need o))).map
      (fun o => (o, s.nat Ent.WEIGHT o, ((need o : Int) : Rat)))
    let (gs, b) := fill 9 set acc.2
    (acc.1 ++ gs, b)) ([], budget)

/-- What an allocation gives an outlet. -/
def gift (l : List (Nat × Rat)) (o : Nat) : Rat := match l.find? (fun x => x.1 == o) with | some x => x.2 | none => 0

/-- Strings that are CONNECTED. -/
def State.connectedStrings (s : State) : List Nat := (List.range 8).filter (fun n => s.nat Ent.STRING_STATE n == 5)

/-- FE_STATE as the allocator sees a front-end unit (Table 5-7). -/
def State.feState (s : State) (f : Nat) : Nat :=
  if !s.flag Ent.FE_ENABLE f then Fe.DISABLED
  else if s.alloc.feOut.contains f then Fe.OVER_CAP
  else if s.bus.tests.any (fun t => t.unit == 64 + f) then Fe.TESTING
  else if !s.unitReady (64 + f) then Fe.UNAVAILABLE
  else if s.bus.caps.any (fun x => x.1 == f) then Fe.CAP_PENDING
  else Fe.AVAILABLE

/-- A front-end unit supplies. -/
def State.feServes (s : State) (f : Nat) : Bool := s.feState f == Fe.AVAILABLE || s.feState f == Fe.CAP_PENDING

/-- A cap that bounds a unit's grant: the lower of old and new while one is pending (R123). `cap` is the bound besides. -/
def State.feCap (s : State) (f : Nat) (exp : Bool) (cap : Nat) : Nat :=
  match s.bus.caps.find? (fun x => x.1 == f && x.2.1 == exp) with
  | some x => min cap (min x.2.2 (s.nat (if exp then Ent.FE_HARD_CAP_EXPORT else Ent.FE_HARD_CAP_IMPORT) f))
  | none => cap

/-- MODULE_STATE of a module that is not under way, unresponsive or disabled: as its unit and assignment say. -/
def State.restState (s : State) (m : Nat) : Nat :=
  if s.bus.tests.any (fun t => t.unit == m) then Mod.TESTING
  else if !s.unitReady m then Mod.UNAVAILABLE
  else if s.nat Ent.ASSIGNED_OUTLET m < 8 then Mod.ASSIGNED
  else Mod.IDLE

/-- Refresh MODULE_STATE from the unit, its move and its enable. -/
def State.refreshModule (s : State) (m : Nat) : State :=
  let st := s.nat Ent.MODULE_STATE m
  let g := s.grants m
  if st == Mod.UNRESPONSIVE then s
  else if !s.flag Ent.MODULE_ENABLE m && g.move.isNone then s.setNat Ent.MODULE_STATE m Mod.DISABLED
  else match g.move with
    | some k =>
      if !s.unitReady m && k.kind != .disable then s
      else s.setNat Ent.MODULE_STATE m (if k.step == 0 then Mod.RAMP_DOWN else if k.step == 1 then Mod.SWITCHING else Mod.RAMP_UP)
    | none => s.setNat Ent.MODULE_STATE m (s.restState m)

/-- Begin a module's way: its record, state and outlet. -/
def State.startMove (s : State) (m : Nat) (kind : MoveKind) (src dst step : Nat) : State :=
  let g := s.grants m
  let s1 := s.setGrants m { g with move := some ⟨kind, src, dst, step, s.frames, s.frames, s.planned m (s.frames + 2), 0, s.frames⟩ }
  (s1.setNat Ent.ASSIGNED_OUTLET m (if step == 0 && src < 8 then src else if dst < 8 then dst else 0xFF)).setNat
    Ent.MODULE_STATE m (if step == 0 then Mod.RAMP_DOWN else Mod.SWITCHING)

/-- Abort a unit's self-test because the unit is demanded (R157, R24). -/
def State.abortUnitTest (s : State) (u : Nat) : State :=
  match s.bus.tests.find? (fun t => t.unit == u) with
  | none => s
  | some t =>
    let target := if u < 64 then Ent.MODULE_UNIT_TEST.target u else Ent.FE_UNIT_TEST.target (u - 64)
    let s1 := { s with bus := { s.bus with tests := s.bus.tests.filter (fun x => x.unit != u) } }
    let s2 := if t.running then s1.startXfer u true 3 1 EType.u8.code [0#8] else s1
    let s3 := s2.setUnitNat Ent.MODULE_UNIT_TEST_RESULT Ent.FE_UNIT_TEST_RESULT u St.CANCELLED
    let s4 := (s3.endTest target St.CANCELLED).raise Evt.UNIT_TEST_DONE u St.CANCELLED (s.frames - t.started)
    if u < 64 then s4.setNat Ent.MODULE_STATE u (s4.restState u) else s4.setNat Ent.FE_STATE (u - 64) (s4.feState (u - 64))

/-- Free modules that reach an outlet, lowest number first; a module under test is demanded when none is free. -/
def State.freeModules (s : State) (o : Nat) : List Nat :=
  (List.range 64).filter (fun m => s.nat Ent.MODULE_STATE m == Mod.IDLE && s.reaches m o)

/-- R128: assign up to `n` more free modules to an outlet, each by way of SWITCHING. -/
def State.assignModules (s : State) (o n : Nat) : State :=
  let free := (s.freeModules o).take n
  let s1 := s.each free (fun z m => (z.startMove m .assign 0xFF o 1).switchModule m o)
  if free.length < n then
    match (List.range 64).find? (fun m => s.nat Ent.MODULE_STATE m == Mod.TESTING && bit (s.nat Ent.REACH_MASK m) o) with
    | some m => s1.abortUnitTest m
    | none => s1
  else s1

/-- A decrease of one unit for the next launch two frames ahead; a pending increase lapses. -/
def State.decreaseTo (s : State) (u : Nat) (v : Int) : State :=
  let g := s.grants u
  s.setGrants u { g with plan := Tab.set (g.plan.filter (fun p => p.1 ≤ s.frames + 2)) (s.frames + 2) v, rise := none }

/-- R128 at the end of a session: its modules ramp to 0 and are then switched off the outlet. -/
def State.releaseModules (s : State) (o : Nat) : State :=
  s.each (s.modulesOf o) fun z m =>
    if z.nat Ent.MODULE_STATE m == Mod.DISABLED then z.setNat Ent.ASSIGNED_OUTLET m 0xFF
    else (z.startMove m .release o 0xFF 0).decreaseTo m 0

/-- The bound on a grant's step in one frame. -/
def stepTo (prev want rate : Int) : Int := if want > prev + rate then prev + rate else if want < prev - rate then prev - rate else want

/-- The next ramp-down value of a module under way: base × (R − k) / R (Table 5-4). -/
def Move.rampDown (k : Move) (r : Nat) : Int := k.base * ((r - min r (k.ramps + 1) : Nat) : Int) / (r : Int)

/-- Modules of an outlet that share its grant: ASSIGNED and ready, or in RAMP_UP. -/
def State.sharers (s : State) (o : Nat) : List Nat :=
  (s.modulesOf o).filter (fun m => s.unitReady m && (s.nat Ent.MODULE_STATE m == Mod.ASSIGNED || s.nat Ent.MODULE_STATE m == Mod.RAMP_UP))

/-- Ramp-up steps a module will have had released at cycle 13: those so far and one that waits for its release check. -/
def State.rampsDue (s : State) (m : Nat) : Nat :=
  match (s.grants m).move with
  | some k => k.ramps + b2n (s.grants m).rise.isSome
  | none => s.rampFrames

/-- The part of its full share a module in RAMP_UP holds after so many steps (Table 5-4). -/
def State.rampPart (s : State) (share : Int) (steps : Nat) : Int :=
  share * ((min s.rampFrames steps : Nat) : Int) / (s.rampFrames : Int)

/-- The full shares of an outlet grant: equal parts over the modules that share it, the remainder to the lowest-numbered (R110). -/
def State.fullShares (s : State) (o : Nat) (g : Int) : List (Nat × Int) :=
  (s.sharers o).zip (equalParts g (s.sharers o).length)

/-- The grant of one outlet over its modules (R110, R130): a module in RAMP_UP has the next step of its share, what it does not yet take goes to
the others in equal parts. -/
def State.splitOutlet (s : State) (o : Nat) (g : Int) : List (Nat × Int) :=
  let all := s.fullShares o g
  let isUp (m : Nat) : Bool := s.nat Ent.MODULE_STATE m == Mod.RAMP_UP
  let ups := (all.filter (fun x => isUp x.1)).map (fun x => (x.1, s.rampPart x.2 (s.rampsDue x.1 + 1)))
  let full := (s.sharers o).filter (fun m => !isUp m)
  let rest := g - ups.foldl (fun a x => a + x.2) 0
  ups ++ full.zip (equalParts rest full.length)

/-- Candidates for a move to an outlet (R129), best first. -/
def State.moveCandidate (s : State) (o : Nat) (desired : Nat → Int) : Option Nat :=
  let free := s.freeModules o
  let rested (m : Nat) : Bool := match (s.grants m).movedAt with
    | some f => decide (s.frames ≥ f + s.nat Ent.MOVE_HOLDOFF)
    | none => true
  let from_ (d : Nat) : Option Nat :=
    ((s.modulesOf d).filter (fun m => s.nat Ent.MODULE_STATE m == Mod.ASSIGNED && s.reaches m o && rested m)).getLast?
  let others := (List.range 8).filter (fun d => d != o)
  let spare := (List.range 5).flatMap (fun c => others.filter (fun d => s.nat Ent.CLASS d == c &&
    (match from_ d with
     | some m => decide (desired d + s.busDraw (s.capacity m (s.outletVolts d)) ≤ s.busDraw (s.assignedCapacity d))
     | none => false)))
  let lower := ((List.range 5).reverse.flatMap fun c =>
    sortBy (fun a b => decide (s.nat Ent.WEIGHT a < s.nat Ent.WEIGHT b) || (s.nat Ent.WEIGHT a == s.nat Ent.WEIGHT b && decide (b ≤ a)))
      (others.filter (fun d => s.nat Ent.CLASS d == c && decide (s.nat Ent.CLASS o < c) && (from_ d).isSome)))
  match free.filter rested with
  | m :: _ => some m
  | [] =>
    match spare with
    | d :: _ => from_ d
    | [] => match lower with
      | d :: _ => from_ d
      | [] => none

/-- Moves under way. -/
def State.movesActive (s : State) : Nat :=
  (s.alloc.units.filter (fun p => match p.2.move with | some k => k.kind == .move | none => false)).length

/-- A move begins (R130), at its publication: an IDLE module at the switch step. -/
def State.beginMove (s : State) (p : Nat × Nat × Nat) : State :=
  let (m, src, o) := p
  (s.startMove m .move src o (if src < 8 then 0 else 1)).raise Evt.MODULE_MOVE_START m (if src < 8 then src else 0xFF) o

/-- An outlet whose desired power its modules cannot carry by MOVE_MIN_GAIN, while fewer than MAX_CONCURRENT_MOVES moves are under way
(R129). -/
def State.lacksModules (s : State) (desired : Nat → Int) (o : Nat) : Bool :=
  decide (0 < desired o) && decide (desired o ≥ s.busDraw (s.assignedCapacity o) + s.int Ent.MOVE_MIN_GAIN) &&
    decide (s.movesActive < s.nat Ent.MAX_CONCURRENT_MOVES)

/-- R129: at most one move for each outlet that lacks modules, each planned on the state in which those before it have begun. -/
def State.planMoves (s : State) (desired : Nat → Int) : List (Nat × Nat × Nat) :=
  ((List.range 8).foldl (fun (acc : State × List (Nat × Nat × Nat)) o =>
    match (if acc.1.lacksModules desired o then acc.1.moveCandidate o desired else none) with
    | some m =>
      let p := (m, acc.1.nat Ent.ASSIGNED_OUTLET m, o)
      (acc.1.beginMove p, acc.2 ++ [p])
    | none => acc) (s, [])).2

/-- A module under test is needed when an outlet that lacks modules finds none to move (R157, R24): its test is aborted. -/
def State.freeTested (s : State) (desired : Nat → Int) : State :=
  s.each (List.range 8) fun z o =>
    if z.lacksModules desired o && (z.moveCandidate o desired).isNone then
      match (List.range 64).find? (fun m => z.nat Ent.MODULE_STATE m == Mod.TESTING && bit (z.nat Ent.REACH_MASK m) o) with
      | some m => z.abortUnitTest m
      | none => z
    else z

/-- A module's way, one frame on (Table 5-4), at cycle 1: zero current confirmed takes it to SWITCHING, a switched flag
to RAMP_UP or its end, the launch of the last ramp-up step to its full share. -/
def State.advanceMove (s : State) (m : Nat) : State :=
  let g := s.grants m
  let x := s.unitSt m
  match g.move with
  | none => s
  | some k =>
    let zero := s.inForce m == 0 && s.planned m (s.frames + 3) == 0 && g.rise.isNone
    if k.step == 0 then
      if zero && decide (2 ≤ x.zeroRun) then
        match k.kind with
        | .disable => (s.setGrants m { g with move := none }).setNat Ent.MODULE_STATE m Mod.DISABLED
        | .release =>
          let s1 := s.setGrants m { g with move := some { k with step := 1, stepAt := s.frames } }
          (s1.setNat Ent.MODULE_STATE m Mod.SWITCHING).setNat Ent.ASSIGNED_OUTLET m 0xFF
        | _ =>
          let s1 := s.setGrants m { g with move := some { k with step := 1, stepAt := s.frames } }
          (s1.setNat Ent.MODULE_STATE m Mod.SWITCHING).setNat Ent.ASSIGNED_OUTLET m k.toOutlet
      else s
    else if k.step == 1 then
      match k.kind with
      | .release =>
        if x.outlet == 0xFF then (s.setGrants m { g with move := none }).setNat Ent.MODULE_STATE m (s.restState m) else s
      | .assign =>
        if x.switched && x.outlet == k.toOutlet then (s.setGrants m { g with move := none }).setNat Ent.MODULE_STATE m Mod.ASSIGNED else s
      | _ =>
        if x.switched && x.outlet == k.toOutlet then
          (s.setGrants m { g with move := some { k with step := 2, stepAt := s.frames, ramps := 0 } }).setNat Ent.MODULE_STATE m Mod.RAMP_UP
        else s
    else if k.ramps ≥ s.rampFrames && decide (k.lastAt ≤ s.frames) then
      ((s.setGrants m { g with move := none, movedAt := some s.frames }).setNat Ent.MODULE_STATE m Mod.ASSIGNED).raise
        Evt.MODULE_MOVE_DONE m (s.frames - k.started) k.toOutlet
    else s

/-- The mean grid import of the last frame in W (POWER_P of point 0). -/
def State.gridImport (s : State) : Rat := s.rat Ent.POWER_P 0

/-- Shares of an amount in proportion to weights, rounded as asked. -/
def shares (amount : Int) (ws : List (Nat × Int)) (up : Bool) : List (Nat × Int) :=
  let total := ws.foldl (fun a x => a + x.2) 0
  ws.map fun x =>
    (x.1, if total ≤ 0 then 0
          else if up then ((cdiv (amount.toNat * x.2.toNat) total.toNat : Nat) : Int)
          else ((amount.toNat * x.2.toNat / total.toNat : Nat) : Int))

/-- The supply side of a run (R114): front-end units that serve, the sum of their confirmed caps, imp, the reserve held
on strings and on the grid, the connected strings and the sum of their discharge limits. -/
structure Supply where
  fes : List Nat
  caps : Nat
  imp : Int
  rStr : Int
  rGrid : Int
  strs : List Nat
  h : Int

/-- R114 from the state. -/
def State.supply (s : State) : Supply :=
  let fes := (List.range 16).filter s.feServes
  let caps : Nat := fes.foldl (fun a f => a + s.confirmed f) 0
  let imp : Int := min (min (s.int Ent.GRID_IMPORT_TARGET) (s.int Ent.GRID_IMPORT_LIMIT)) caps
  let h : Int := s.connectedStrings.foldl (fun a n => a + s.int Ent.STRING_LIMIT_DIS n) 0
  let reserve := s.int Ent.MISMATCH_RESERVE
  ⟨fes, caps, imp, min reserve h, reserve - min reserve h, s.connectedStrings, h⟩

/-- A string's grant in force. -/
def State.stringPrev (s : State) (n : Nat) : Int := s.int Ent.STRING_GRANT 0 n

/-- What a connected string offers: a[s] of R114. -/
def State.offer (s : State) (p : Supply) (n : Nat) : Int :=
  let dis := s.int Ent.STRING_LIMIT_DIS n
  if p.h ≤ 0 then 0
  else max 0 (min (dis - ((cdiv (p.rStr.toNat * dis.toNat) p.h.toNat : Nat) : Int))
    (max 0 (s.stringPrev n) + s.int Ent.STRING_RAMP_RATE))

/-- Bus-side need of an outlet (R113); a discharging or silent one needs nothing. -/
def State.needOf (s : State) (o : Nat) : Int :=
  if 0 < s.int Ent.REQUEST_POWER o then s.busDraw (s.ceiling o).1 else 0

/-- Bus-side need an outlet's assigned modules can carry: eff of R115. -/
def State.effOf (s : State) (o : Nat) : Int := min (s.needOf o) (s.busDraw (s.assignedCapacity o))

/-- Sum over the outlets. -/
def overOutlets (f : Nat → Int) : Int := (List.range 8).foldl (fun a o => a + f o) 0

/-- Export the site allows (R127). -/
def State.exportRoom (s : State) : Int :=
  let caps : Nat := (List.range 16).foldl (fun a f => a + s.nat Ent.FE_HARD_CAP_EXPORT f) 0
  min (min (s.int Ent.GRID_EXPORT_TARGET) (s.int Ent.GRID_EXPORT_LIMIT)) (caps : Int)

/-- The connected strings that may charge in a run: those whose grant in force is 0 or a charge (R115). -/
def State.chargers (s : State) (p : Supply) : List Nat := p.strs.filter (fun n => decide (s.stringPrev n ≤ 0))

/-- Charge the strings can take in a frame (R115, R127): each its share of STORE_CHARGE_LIMIT, within its limit and ramp. -/
def State.chargeRoom (s : State) (p : Supply) : Int :=
  (shares (s.int Ent.STORE_CHARGE_LIMIT) ((s.chargers p).map (fun n => (n, s.int Ent.STRING_LIMIT_CHG n))) false).foldl
    (fun a x => a + max 0 (min x.2 (min (s.int Ent.STRING_LIMIT_CHG x.1) (s.int Ent.STRING_RAMP_RATE - s.stringPrev x.1)))) 0

/-- What each discharging outlet is granted, up to what the sinks take (R127). -/
def State.bptGrants (s : State) (p : Supply) : List (Nat × Int) :=
  let sources := (List.range 8).filter (fun o => decide (s.int Ent.REQUEST_POWER o < 0))
  let step (acc : List (Nat × Int) × Int) (o : Nat) : List (Nat × Int) × Int :=
    let g := max 0 (min (min (s.ceiling o).1 (s.assignedCapacity o)) acc.2)
    (acc.1 ++ [(o, g)], acc.2 - g)
  (sources.foldl step ([], max 0 (overOutlets s.effOf + s.chargeRoom p + s.exportRoom))).1

/-- A value listed for a number, 0 when none is. -/
def listed (l : List (Nat × Int)) (n : Nat) : Int := match l.find? (fun x => x.1 == n) with | some x => x.2 | none => 0

/-- The outlet grant that results from the second allocation; a discharging outlet's is negative. -/
def State.grantOf (s : State) (bpt : List (Nat × Int)) (actual : List (Nat × Rat)) (o : Nat) : Int :=
  if s.int Ent.REQUEST_POWER o < 0 then -(listed bpt o) else s.busGrant (ratFloor (gift actual o))

/-- The strings' grants (R115, R116): a deficit split in proportion to the offers, else charge from the surplus. -/
def State.stringGrants (s : State) (p : Supply) (deficit surplus : Int) : List (Nat × Int) :=
  let rate := s.int Ent.STRING_RAMP_RATE
  let dis (n : Nat) : Int := s.int Ent.STRING_LIMIT_DIS n
  let chg (n : Nat) : Int := s.int Ent.STRING_LIMIT_CHG n
  if deficit > 0 then
    (shares deficit (p.strs.map (fun n => (n, s.offer p n))) true).map
      (fun x => (x.1, max (-(chg x.1)) (min (stepTo (s.stringPrev x.1) x.2 rate) (dis x.1))))
  else
    let q : Int := max 0 (min surplus (s.int Ent.STORE_CHARGE_LIMIT))
    let c := s.chargers p
    let cs := (shares q (c.map (fun n => (n, chg n))) false).map (fun x =>
      (x.1, max (-(chg x.1)) (stepTo (s.stringPrev x.1) (-(min x.2 (chg x.1))) rate)))
    cs ++ (p.strs.filter (fun n => decide (0 < s.stringPrev n))).map
      (fun n => (n, max 0 (min (s.stringPrev n - rate) (dis n))))

/-- The grants of an outlet's modules: a positive grant by R110, a negative one in equal parts. -/
def State.moduleShares (s : State) (o : Nat) (g : Int) : List (Nat × Int) :=
  if g < 0 then
    let ms := (s.modulesOf o).filter (fun m => s.unitReady m && s.nat Ent.MODULE_STATE m == Mod.ASSIGNED)
    ms.zip ((equalParts (-g) ms.length).map (fun x => -x))
  else s.splitOutlet o g

/-- What a module under way is granted: its next ramp-down step, or 0 while it is switched. -/
def State.wayGrant (s : State) (m : Nat) : Option Int :=
  match (s.grants m).move with
  | some k =>
    if k.step == 0 then some (if k.kind == .move then k.rampDown s.rampFrames else 0)
    else if k.step == 1 then some 0 else none
  | none => none

/-- Front-end imports of a run (R124), held down while R126 asks for it. -/
def State.importGrants (s : State) (p : Supply) (scale : Option (Nat × Nat)) : List (Nat × Int) :=
  (List.range 16).map fun f =>
    let g : Nat := if p.fes.contains f && p.caps != 0 then
      s.feCap f false (min (p.imp.toNat * s.confirmed f / p.caps) (s.confirmed f)) else 0
    let h : Nat := match scale with
      | some (a, b) => if b == 0 then g else g * a / b
      | none => g
    (f, (h : Int))

/-- Front-end exports of a run (R124). -/
def State.exportGrants (s : State) (p : Supply) : List (Nat × Int) :=
  let total : Nat := (min (s.int Ent.GRID_EXPORT_TARGET) (s.int Ent.GRID_EXPORT_LIMIT)).toNat
  (List.range 16).map fun f =>
    (f, ((if p.fes.contains f && p.caps != 0 then s.feCap f true (total * s.confirmed f / p.caps) else 0 : Nat) : Int))

/-- LIMITED_BY of an outlet (R113): the term of the ceiling, or the stage that cut the grant below it. -/
def State.limitedBy (s : State) (actual : List (Nat × Rat)) (g : Int) (o : Nat) : Nat :=
  let c := s.ceiling o
  let eff : Rat := ((s.effOf o : Int) : Rat)
  if 0 < s.int Ent.REQUEST_POWER o ∧ g < c.1 then
    if gift actual o < eff then 5 else if s.effOf o < s.needOf o then 4 else c.2
  else c.2

/-- An outlet is below its ceiling for want of supply. -/
def State.starved (s : State) (actual : List (Nat × Rat)) (g : Int) (o : Nat) : Bool :=
  decide (0 < s.int Ent.REQUEST_POWER o) && s.limitedBy actual g o == 5

/-- Cycle 1: what the units and moves have come to before a run (R130, Table 5-7). -/
def State.refreshUnits (s : State) : State :=
  ((s.each (List.range 64) (fun z m => z.refreshModule m)).each (List.range 64) (fun z m => z.advanceMove m)).each
    (List.range 16) (fun z f => z.setNat Ent.FE_STATE f (z.feState f))

/-- A front-end unit under test is needed when supply falls short for want of its cap (R157, R24). -/
def State.freeTestedFe (s : State) (p : Supply) (short : Bool) : State :=
  if short && p.imp == (p.caps : Int) then
    match (List.range 16).find? (fun f => s.feState f == Fe.TESTING && s.confirmed f != 0) with
    | some f => s.abortUnitTest (64 + f)
    | none => s
  else s

/-- What a run computes from the inputs as they stand (R111 to R117, R124, R127 to R129). -/
structure Plan where
  supply : Supply
  bpt : List (Nat × Int)
  budget : Int
  desired : List (Nat × Rat)
  actual : List (Nat × Rat)

/-- The allocations of a run (R114, R115, R127): the budget, with what discharging vessels give the outlets, desired and actual. -/
def State.plan (s : State) : Plan :=
  let p := s.supply
  let bpt := s.bptGrants p
  let bptOutlets := min (bpt.foldl (fun a x => a + x.2) 0) (overOutlets s.effOf)
  let budget : Int := p.imp - p.rGrid + p.strs.foldl (fun a n => a + s.offer p n) 0 + bptOutlets
  ⟨p, bpt, budget, (s.allocate s.needOf ((budget : Int) : Rat)).1, (s.allocate s.effOf ((budget : Int) : Rat)).1⟩

/-- The outlet grants of a plan, and the power they draw from the bus. -/
def State.granted (s : State) (k : Plan) (o : Nat) : Int := s.grantOf k.bpt k.actual o
def State.drawn (s : State) (k : Plan) : Int := overOutlets (fun o => s.busDraw (s.granted k o))

/-- What the run of the frame publishes at cycle 13. -/
def State.runOf (s : State) (k : Plan) (scale : Option (Nat × Nat)) : Run :=
  let p := k.supply
  let bptSum : Int := k.bpt.foldl (fun a x => a + x.2) 0
  let free := p.imp - p.rGrid + min bptSum (overOutlets s.effOf)
  let strs := s.stringGrants p (max 0 (s.drawn k - free)) (p.imp - p.rGrid + bptSum - s.drawn k)
  let moves := s.planMoves (fun o => ratFloor (gift k.desired o))
  let sM := s.each moves State.beginMove
  let mods := (List.range 8).flatMap (fun o => s.moduleShares o (s.granted k o))
  let short (o : Nat) : Bool := s.starved k.actual (s.granted k o) o
  { modules := (List.range 64).map (fun m => (m, (sM.wayGrant m).getD (listed mods m)))
    strings := (List.range 8).map (fun n => (n, listed strs n))
    imports := s.importGrants p scale, exports := s.exportGrants p
    budget := k.budget, rGrid := p.rGrid, imp := p.imp, need := overOutlets s.needOf, drawn := s.drawn k
    cables := (List.range 8).map (fun o => (o, s.rat Ent.CABLE_CURRENT_LIMIT o))
    stringDis := (List.range 8).map (fun n => (n, s.int Ent.STRING_LIMIT_DIS n))
    stringChg := (List.range 8).map (fun n => (n, s.int Ent.STRING_LIMIT_CHG n))
    short := (List.range 8).any (fun o => short o && decide (s.nat Ent.CLASS o ≤ 1))
    shortAny := (List.range 8).any short
    full := ((List.range 8).flatMap (fun o => s.fullShares o (s.granted k o))).filter (fun x => s.nat Ent.MODULE_STATE x.1 == Mod.RAMP_UP)
    moves := moves }

/-- CEILING and LIMITED_BY of the outlets, and the sums of the run (R113, Table 5-6). -/
def State.showRun (s : State) (v : State) (k : Plan) : State :=
  let s1 := s.each (List.range 8) (fun z o =>
    (z.setInt Ent.CEILING o (if v.int Ent.REQUEST_POWER o < 0 then -(v.ceiling o).1 else (v.ceiling o).1)).setNat
      Ent.LIMITED_BY o (v.limitedBy k.actual (v.granted k o) o))
  ((s1.fitNat Ent.SITE_DEMAND 0 (overOutlets v.needOf).toNat).fitNat Ent.SITE_SUPPLY 0 k.budget.toNat).fitNat Ent.SITE_GRANTED 0 (v.drawn k).toNat

/-- The run of the allocator (R111 to R117, R124, R127 to R129): computed on the units as they stood at the end of the frame before;
what it finds takes effect at its publication, but for a test that a demand ends. -/
def State.allocatorRun (s0 : State) : State :=
  let s1 := s0.atFreeze.refreshUnits
  let k := s1.plan
  let scale : Option (Nat × Nat) :=
    if s1.gridImport ≤ ((s1.int Ent.GRID_IMPORT_LIMIT : Int) : Rat) then none else s1.alloc.importScale
  let run := s1.runOf k scale
  let s2 := ((s1.showRun s1 k).freeTested (fun o => ratFloor (gift k.desired o))).freeTestedFe k.supply run.shortAny
  { s2 with alloc := { s2.alloc with run := some run, importScale := scale }, bus := { s2.bus with units := s0.bus.units } }

/-- One unit's new grant into its plan (R118): a fall launches two frames ahead, a rise three; a change of sign is a
fall to 0 and a rise from 0. A rise waits for the release check (R119, R120). -/
def State.publishUnit (s : State) (u : Nat) (v : Int) : State :=
  let f := s.frames
  let g := s.grants u
  let p := s.planned u (f + 2)
  let raise (g1 : UnitGrant) : UnitGrant := { g1 with rise := if v == 0 then none else some (f + 3, v) }
  if v == p then s.setGrants u { g with rise := none }
  else if (decide (v < 0) && decide (0 < p)) || (decide (0 < v) && decide (p < 0)) then
    s.setGrants u (raise { g with plan := Tab.set (g.plan.filter (fun x => x.1 ≤ f + 2)) (f + 2) 0 })
  else if v.natAbs < p.natAbs then
    s.setGrants u { g with plan := Tab.set (g.plan.filter (fun x => x.1 ≤ f + 2)) (f + 2) v, rise := none }
  else s.setGrants u (raise g)

/-- A[u] of R120 for a module: its last acknowledged grant and every later unacknowledged one, the largest. -/
def State.counted (s : State) (m : Nat) : Int :=
  let g := s.grants m
  let rec go : List Sent → Int
    | [] => 0
    | x :: r => if x.acked then x.value else max x.value (go r)
  max 0 (go g.sent)

/-- A[u] for a charging string: the largest charge magnitude in force or published for later. -/
def State.countedCharge (s : State) (n : Nat) : Int :=
  let u := stringUnit n
  ((s.grants u).plan.map Prod.snd).foldl (fun a v => max a (-v)) (max 0 (-(s.inForce u)))

/-- The ledger of R120 before any increase. -/
def State.ledger (s : State) : Int :=
  (List.range 8).foldl (fun a o => a + s.busDraw ((s.modulesOf o).foldl (fun b m => b + s.counted m) 0)) 0 +
    (List.range 8).foldl (fun a n => a + s.countedCharge n) 0

/-- Decreases among set-points sent, newest first, that have not been acknowledged: each against the one sent before it. -/
def unackedFalls : List Sent → Nat
  | x :: y :: r => b2n (!x.acked && decide (x.value.natAbs < y.value.natAbs)) + unackedFalls (y :: r)
  | _ => 0

/-- Decreases not acknowledged (Table 5-9). -/
def State.unackedCount (s : State) : Nat := (List.range 64).foldl (fun a m => a + unackedFalls (s.grants m).sent) 0

/-- Outlets in the order of the release check: class, weight descending, index. -/
def State.releaseOrder (s : State) : List Nat :=
  sortBy (fun a b =>
    decide (s.nat Ent.CLASS a < s.nat Ent.CLASS b) ||
    (s.nat Ent.CLASS a == s.nat Ent.CLASS b && (decide (s.nat Ent.WEIGHT b < s.nat Ent.WEIGHT a) ||
      (s.nat Ent.WEIGHT a == s.nat Ent.WEIGHT b && decide (a ≤ b))))) (List.range 8)

/-- A released or lapsed rise of one unit; a ramp-up step released whole is one step on (R130). -/
def State.settleRise (s : State) (u : Nat) (launch : Nat) (v : Option Int) : State :=
  let g := s.grants u
  let whole := v.isSome && v == g.rise.map Prod.snd
  s.setGrants u { g with rise := none, plan := match v with | some x => Tab.set g.plan launch x | none => g.plan
                         move := g.move.map (fun k => if whole && k.step == 2 then { k with ramps := k.ramps + 1, lastAt := launch } else k) }

/-- An increase withheld in whole or part (R120). -/
def State.noteWithheld (s : State) (inst : Nat) (w : Int) : State :=
  let s1 := { s with alloc := { s.alloc with withheld := true } }
  (s1.bump Ent.WITHHELD_COUNT).raise Evt.INCREASE_WITHHELD inst w.natAbs s.unackedCount

/-- The release check of one outlet: `acc` carries the state and the ledger. -/
def State.releaseOutlet (room : Int) (all : Bool) (acc : State × Int) (o : Nat) : State × Int :=
  let (s, ledger) := acc
  let f := s.frames + 2
  let ms := s.modulesOf o
  let rising := ms.filter (fun m => match (s.grants m).rise with | some (l, _) => l == f | none => false)
  if rising.isEmpty then (s, ledger)
  else
    let val (m : Nat) : Int := match (s.grants m).rise with | some (_, v) => v | none => 0
    let base := ms.foldl (fun a m => a + s.planned m f) 0
    let still := (ms.filter (fun m => !rising.contains m)).foldl (fun a m => a + s.planned m f) 0
    let full := still + rising.foldl (fun a m => a + val m) 0
    let counted := s.busDraw base
    let inc := s.busDraw full - counted
    let stuck := ms.any (fun m => s.nat Ent.MODULE_STATE m == Mod.UNRESPONSIVE)
    let r := if all || stuck then 0 else min inc (max 0 (room - ledger))
    if all || stuck then
      ((s.each rising (fun z m => z.settleRise m f none)).setNat Ent.LIMITED_BY o 6 |>.noteWithheld o (full - base), ledger)
    else if r == inc then (s.each rising (fun z m => z.settleRise m f (some (val m))), ledger + r)
    else if r ≤ 0 then
      ((s.each rising (fun z m => z.settleRise m f none)).setNat Ent.LIMITED_BY o 6 |>.noteWithheld o (full - base), ledger)
    else
      let g := max base (s.busGrant (counted + r))
      let parts := rising.zip (equalParts (g - still) rising.length)
      let s1 := s.each parts (fun z p =>
        let v := min p.2 (val p.1)
        z.settleRise p.1 f (if v > s.planned p.1 f then some v else none))
      ((s1.setNat Ent.LIMITED_BY o 6).noteWithheld o (full - g), ledger + r)

/-- The release check of one string; a discharge is supply and not subject to the ledger. -/
def State.releaseString (room : Int) (all : Bool) (acc : State × Int) (n : Nat) : State × Int :=
  let (s, ledger) := acc
  let f := s.frames + 2
  let u := stringUnit n
  match (s.grants u).rise with
  | none => (s, ledger)
  | some (l, v) =>
    if l != f then (s, ledger)
    else
      let base := s.planned u f
      let inc := ((v - base).natAbs : Int)
      let r := if all then 0 else if 0 < v then inc else min inc (max 0 (room - ledger))
      let taken := if 0 < v then 0 else r
      if all || (r ≤ 0 && inc != 0) then ((s.settleRise u f none).noteWithheld (8 + n) inc, ledger)
      else if r == inc then (s.settleRise u f (some v), ledger + taken)
      else ((s.settleRise u f (some (base - r))).noteWithheld (8 + n) (inc - r), ledger + taken)

/-- The release of one front-end grant, which is supply (R120). Withheld in the frame of a switch-over it is counted; Table 5-9 gives it no
instance, so no event names it (log entry 84). -/
def State.releaseFe (all : Bool) (s : State) (u : Nat) : State :=
  match (s.grants u).rise with
  | none => s
  | some (l, v) =>
    if l != s.frames + 2 then s
    else if all then
      let s1 := s.settleRise u l none
      ({ s1 with alloc := { s1.alloc with withheld := true } }).bump Ent.WITHHELD_COUNT
    else s.settleRise u l (some v)

/-- The release check of cycle 13 (R120); in the frame of a switch-over everything is withheld whole (R131). -/
def State.releaseCheck (s : State) : State :=
  let all := s.die.switchFrame == some s.sfn
  let room := Tab.get 0 s.alloc.room (s.frames + 2)
  let s0 := { s with alloc := { s.alloc with withheld := false } }
  let a := s0.releaseOrder.foldl (State.releaseOutlet room all) (s0, s0.ledger)
  ((List.range 8).foldl (State.releaseString room all) a).1.each ((List.range 32).map (fun k => 64 + k)) (State.releaseFe all)

/-- One module's new grant (R118, R130): a module in RAMP_UP is at most one step on from the steps released; a step that needs no rise is
held at once. -/
def State.publishModule (s : State) (r : Run) (m : Nat) (v : Int) : State :=
  match (s.grants m).move with
  | none => s.publishUnit m v
  | some k =>
    if k.step == 0 then
      let s1 := s.publishUnit m v
      s1.setGrants m { s1.grants m with move := some { k with ramps := k.ramps + 1, lastAt := s.frames + 2 } }
    else if k.step == 1 then s.publishUnit m v
    else
      let x := (s.rampPart (Tab.get 0 r.full m) (k.ramps + 1))
      let s1 := s.publishUnit m (if v < x then v else x)
      if (s1.grants m).rise.isSome then s1
      else s1.setGrants m { s1.grants m with move := some { k with ramps := k.ramps + 1, lastAt := s.frames + 3 } }

/-- A planned move still stands at cycle 13: the module is where it was taken from. -/
def State.moveStands (s : State) (p : Nat × Nat × Nat) : Bool :=
  s.nat Ent.ASSIGNED_OUTLET p.1 == p.2.1 && s.nat Ent.MODULE_STATE p.1 == (if p.2.1 < 8 then Mod.ASSIGNED else Mod.IDLE)

/-- Publication at cycle 13 (R118, R119): moves begin, every unit has its new grant, the supply is noted for its launch frame. -/
def State.publishRun (s : State) (r : Run) : State :=
  let s0 := s.each (r.moves.filter s.moveStands) State.beginMove
  let s1 := s0.each r.modules (fun z p => z.publishModule r p.1 p.2)
  let s2 := s1.each r.imports (fun z p => z.publishUnit (feImport p.1) p.2)
  let s3 := s2.each r.exports (fun z p => z.publishUnit (feExport p.1) p.2)
  let s4 := s3.each r.strings (fun z p => z.publishUnit (stringUnit p.1) p.2)
  let room := Tab.set (s4.alloc.room.filter (fun p => decide (s.frames ≤ p.1))) (s.frames + 3) r.budget
  ({ s4 with alloc := { s4.alloc with room := room } }).setNat Ent.LAST_PUBLISH_SFN 0 s.sfn

/-- LOAD_PERCENT (R133). -/
def loadPercent (need budget : Int) : Nat :=
  if budget ≤ 0 then (if need > 0 then 255 else 0) else min 255 (100 * need.toNat / budget.toNat)

/-- ALLOC_STATUS (Table 5-8), at every cycle 13 (R134). -/
def State.showAlloc (s : State) (published : Bool) (r : Option Run) : State :=
  let old := s.nat Ent.ALLOC_STATUS
  let exporting := (List.range 16).any (fun f => s.inForce (feExport f) != 0 || s.planned (feExport f) (s.frames + 3) != 0)
  let (short, resGrid, bind, load) : Bool × Bool × Bool × Nat := match r with
    | some x => (x.short, decide (0 < x.rGrid), x.imp == s.int Ent.GRID_IMPORT_TARGET && x.shortAny, loadPercent x.need x.budget)
    | none => (bit old 2, bit old 3, bit old 4, field old 16 8)
  s.setNat Ent.ALLOC_STATUS 0
    (pack [(0, 1, b2n published), (1, 1, b2n s.alloc.withheld), (2, 1, b2n short), (3, 1, b2n resGrid), (4, 1, b2n bind),
      (5, 1, b2n (!s.bus.caps.isEmpty)), (6, 1, b2n exporting), (8, 5, s.movesActive), (16, 8, load)])

end Sys2Proof.Machine
end

