-- ==== Sys2Proof/Machine/Converter.lean ====
section
/-!
DEFINITION. String converter phase control (R211 to R235): groups and phases, the load line, limits, constant on-time
modulation, shedding, adding, steps and failures. Its rows stand in Sys2Proof/Machine/ConverterRows.lean.
-/
namespace Sys2Proof.Machine
open Sys2Proof

/-- STATE of GROUP_STATUS (Table 9-7) and PHASE_STATE (Table 9-4). -/
def Grp.OFF : Nat := 0
def Grp.READY : Nat := 1
def Grp.RUN : Nat := 2
def Grp.STOPPING : Nat := 3
def Grp.TRIPPED : Nat := 4
def Grp.OUT_OF_RANGE : Nat := 5
def Pha.UNASSIGNED : Nat := 0
def Pha.OFF : Nat := 1
def Pha.ON : Nat := 2
def Pha.SHED : Nat := 3
def Pha.ADDING : Nat := 4
def Pha.TRIPPED : Nat := 5
def Pha.FAILED : Nat := 6
def Pha.UNPOWERED : Nat := 7
def Pha.TESTING : Nat := 8

/-- A phase and a group before anything has happened. -/
def PhaseSt.none : PhaseSt := ⟨0xFF, 0, 0, 0, 0, 0, 0, 0, [], 0, 0, false, 0, false, 0, false, [], 0, 0, false, 0, 0, 0, 0⟩
def GroupSt.none : GroupSt := ⟨0, 0, 0, false, false, false, false, .none, .none, .none, .none, 0, 0, .none, 0, 0, false, 0, 0, 0, 0, false⟩

def State.leg (s : State) (p : Nat) : PhaseSt := Tab.get PhaseSt.none s.legs p
def State.setLeg (s : State) (p : Nat) (k : PhaseSt) : State := { s with legs := Tab.set s.legs p k }
def State.conv (s : State) (g : Nat) : GroupSt := Tab.get GroupSt.none s.convs g
def State.setConv (s : State) (g : Nat) (k : GroupSt) : State := { s with convs := Tab.set s.convs g k }

/-- PHASE_STATE. -/
def State.phase (s : State) (p : Nat) : Nat := s.nat Ent.PHASE_STATE p
def State.setPhase (s : State) (p st : Nat) : State :=
  if s.phase p == st then s else (s.setLeg p { s.leg p with since := s.ticks }).setNat Ent.PHASE_STATE p st

/-- A phase is in the firing ring. -/
def State.firing (s : State) (p : Nat) : Bool := s.phase p == Pha.ON || s.phase p == Pha.ADDING

/-- Group and position of a phase: what it took into the ring while it is there (R233), else what the active set says. -/
def State.phaseGroup (s : State) (p : Nat) : Nat := if s.firing p then (s.leg p).grp else s.nat Ent.PHASE_GROUP p
def State.phasePos (s : State) (p : Nat) : Nat := if s.firing p then (s.leg p).pos else s.nat Ent.FIRE_POSITION p

/-- The phases of a group; those in its ring, in firing order (R215). -/
def State.phasesOf (s : State) (g : Nat) : List Nat := (List.range 32).filter (fun p => s.phaseGroup p == g)
def State.ring (s : State) (g : Nat) : List Nat :=
  sortBy (fun a b => decide (s.phasePos a < s.phasePos b) || (s.phasePos a == s.phasePos b && decide (a ≤ b)))
    ((s.phasesOf g).filter s.firing)

/-- The phases of the ring the modulator fires: those the latch has brought in (R224). -/
def State.lit (s : State) (g : Nat) : List Nat := (s.ring g).filter (fun p => (s.leg p).ready)

/-- n_av of R219: phases in ON, ADDING or SHED. -/
def State.nAv (s : State) (g : Nat) : Nat :=
  ((s.phasesOf g).filter (fun p => s.firing p || s.phase p == Pha.SHED)).length

/-- Rails (R211): bus and string side, and the high and the low one. -/
def State.vBus (s : State) (g : Nat) : Rat := s.chan (s.nat Ent.BUS_V_MCH g)
def State.vString (s : State) (g : Nat) : Rat := s.chan (s.nat Ent.STRING_SIDE_V_MCH g)
def State.vHigh (s : State) (g : Nat) : Rat := if s.nat Ent.HIGH_SIDE g == 0 then s.vBus g else s.vString g
def State.vLow (s : State) (g : Nat) : Rat := if s.nat Ent.HIGH_SIDE g == 0 then s.vString g else s.vBus g

/-- 1 or −1: discharge sign from the sign toward the low-side rail (R211). -/
def State.sign (s : State) (g : Nat) : Rat := if s.nat Ent.HIGH_SIDE g == 0 then -1 else 1

/-- Window mean and frame mean of a phase's sensor, toward the low-side rail. -/
def State.legAmps (s : State) (p : Nat) : Rat := s.chan (s.nat Ent.PHASE_I_MCH p)
def State.legMean (s : State) (p : Nat) : Rat := s.chanMean (s.nat Ent.PHASE_I_MCH p)

/-- The group current: sum of the phases' window means in discharge sign. -/
def State.groupAmps (s : State) (g : Nat) : Rat := s.sign g * ratSum ((s.phasesOf g).map s.legAmps)

/-- V_L lies in the range in which a group runs (R212). -/
def State.inRange (s : State) (g : Nat) : Bool :=
  decide (50 ≤ s.vLow g) && decide (s.vLow g ≤ 95 / 100 * s.vHigh g)

/-- The output of the enabled loop that targets a quantity of a group (Table 8-4). -/
def State.groupTarget (s : State) (g q : Nat) : Option Rat :=
  ((List.range 64).find? (fun l => s.flag Ent.LOOP_ENABLE l && field (s.nat Ent.OUT_TARGET l) 24 8 == 2 &&
    field (s.nat Ent.OUT_TARGET l) 16 8 == q && field (s.nat Ent.OUT_TARGET l) 0 16 == g)).map (fun l => s.rat Ent.LOOP_OUTPUT l)

/-- Group limit (R219); 0 outside the range (R212). -/
def State.groupLimit (s : State) (g : Nat) : Nat :=
  if (s.conv g).st == Grp.OUT_OF_RANGE then 0
  else
    let most := ((s.nAv g : Nat) : Rat) * s.rat Ent.PHASE_I_RATED g * s.vLow g
    min (s.nat Ent.CONV_RATING g) (ratFloor most).toNat

/-- GROUP_STATUS (Table 9-7) and PHASES_ON. -/
def State.showGroup (s : State) (g : Nat) : State :=
  let k := s.conv g
  let ps := s.phasesOf g
  let on := ps.filter s.firing
  let lost := ps.any (fun p => s.phase p == Pha.TRIPPED || s.phase p == Pha.FAILED || s.phase p == Pha.UNPOWERED)
  (s.setNat Ent.GROUP_STATUS g
    (pack [(0, 3, k.st), (3, 1, b2n k.clampedDis), (4, 1, b2n k.clampedChg), (5, 1, b2n k.llActive), (6, 1, b2n k.shed.isSome),
      (7, 1, b2n k.stepHold.isSome), (8, 1, b2n k.tonClamped), (9, 1, b2n lost), (16, 8, on.length), (24, 8, s.nAv g)])).setNat
    Ent.PHASES_ON g (ofBits on)

/-- A string before anything has happened. -/
def StrSt.none : StrSt :=
  { step := 0, stepAt := 0, preAt := 0, vc0 := 0, rose := false, rises := 0, preMs := 0, coils := [], lowRun := 0, overRun := 0,
    badRun := 0, validSince := .none, isoLow := .none, isoGood := .none, isoWarned := false, high := 0, low := 0, hot := 0,
    causes := [], lock := 0, why := 0, openAt := 0, lastOpen := .none, stateAt := 0, fails := [], tested := false,
    latched := .none, ropeOff := .none, hwOpened := false, unchecked := false, limDis := 0, limChg := 0, cellDis := 0,
    cellChg := 0, srcDis := 3, srcChg := 3, noTemp := false, startLate := false, offAt := .none, reached := .none, hwDue := 0 }

def State.str (s : State) (n : Nat) : StrSt := Tab.get StrSt.none s.strs n
def State.setStr (s : State) (n : Nat) (k : StrSt) : State := { s with strs := Tab.set s.strs n k }

/-- A fall of the group's limit reaches the string's limits in the same cycle (R269). -/
def State.followLimit (s : State) (g l : Nat) : State :=
  let k := s.str g
  let k1 := if (l : Rat) < k.limDis then { k with limDis := l, srcDis := 2 } else k
  let k2 := if (l : Rat) < k.limChg then { k1 with limChg := l, srcChg := 2 } else k1
  ((s.setNat Ent.STRING_LIMIT_DIS g (min l (s.nat Ent.STRING_LIMIT_DIS g))).setNat Ent.STRING_LIMIT_CHG g
    (min l (s.nat Ent.STRING_LIMIT_CHG g))).setStr g k2

/-- The limits of a group in this cycle, and 0x6101 when n_av has changed (R219); its string's limits follow a fall. -/
def State.groupLimits (s : State) (g : Nat) : State :=
  let l := s.groupLimit g
  let n := s.nAv g
  let s1 := ((s.setNat Ent.GROUP_LIMIT_DIS g l).setNat Ent.GROUP_LIMIT_CHG g l).followLimit g l
  if n == (s.conv g).nAv then s1
  else (s1.setConv g { s1.conv g with nAv := n }).raise Evt.GROUP_LIMIT_CHANGE g l n

/-- The load line of one running group (R218). -/
def State.loadLine (s : State) (g : Nat) : State :=
  let k := s.conv g
  if k.st != Grp.RUN then s
  else
    let dv := s.rat Ent.LL_V0 g - s.vBus g
    let band := s.rat Ent.LL_DEADBAND g
    let act := decide (band < ratAbs dv)
    let ll : Rat := if act then s.rat Ent.LL_GAIN g * (if dv < 0 then dv + band else dv - band) else 0
    let lim (a b : Entry) : Rat := ((min (s.nat a g) (s.nat b g) : Nat) : Rat)
    let dis := lim Ent.GROUP_LIMIT_DIS Ent.STRING_LIMIT_DIS
    let chg := lim Ent.GROUP_LIMIT_CHG Ent.STRING_LIMIT_CHG
    let want : Rat := ((s.int Ent.STRING_GRANT 0 g : Int) : Rat) + ll + (s.groupTarget g 1).getD 0
    let low : Rat := if want < -chg then -chg else want
    let p : Rat := if dis < low then dis else low
    let v := s.vLow g
    (s.setConv g { k with pCmd := p, iCmd := if v == 0 then 0 else p / v, clampedDis := decide (p < want),
                          clampedChg := decide (want < p), llActive := act }).fitInt Ent.P_CMD g (ratRound p)

/-- A phase test is aborted because the phase is demanded (R232, R24). -/
def State.cancelPhaseTest (s : State) (p : Nat) : State :=
  if s.phase p == Pha.TESTING then
    (((s.endTest (Ent.PHASE_TEST.target p) St.CANCELLED).setNat Ent.PHASE_TEST_RESULT p St.CANCELLED).setPhase p (s.leg p).prior).raise
      Evt.PHASE_TEST_RESULT p St.CANCELLED 0
  else s

/-- Every gate of a group off: a test on a phase of it ends CANCELLED, and its phases in the ring or shed go OFF. -/
def State.gatesOff (s : State) (g st : Nat) : State :=
  let s0 := s.each (s.phasesOf g) (fun z p => z.cancelPhaseTest p)
  let ps := (s0.phasesOf g).filter (fun p => s0.firing p || s0.phase p == Pha.SHED)
  let s1 := s0.each ps (fun z p => z.setPhase p Pha.OFF)
  ((s1.setConv g { s1.conv g with st := st, cut := false, shed := none, shedSince := none, stepHold := none, stopAt := none, pCmd := 0, iCmd := 0,
                                  clampedDis := false, clampedChg := false, llActive := false }).setNat Ent.I_REF g 0).setInt Ent.P_CMD g 0

/-- The range watch of a cycle (R212); the gates go off at the next latch. -/
def State.rangeWatch (s : State) (g : Nat) : State :=
  if (s.conv g).st == Grp.RUN && !s.inRange g then
    ((s.setConv g { s.conv g with st := Grp.OUT_OF_RANGE }).raise Evt.GROUP_OUT_OF_RANGE g (tenth (s.vLow g)) (tenth (s.vHigh g)))
  else if s.inRange g then s
  else s.setConv g { s.conv g with inFrames := 0 }
where tenth (q : Rat) : Nat := word 32 (ratRound (q * 10))

/-- The conditions of Table 9-2 in table order, as they stand in a window in which the phase has fired. -/
def State.sickNow (s : State) (g p : Nat) : List Bool :=
  let ch := s.nat Ent.PHASE_I_MCH p
  let st := s.chanSt ch
  let rated := s.rat Ent.PHASE_I_RATED g
  let firing := (s.ring g).length
  let share : Rat := if firing == 0 then 0 else ratAbs (ratSum ((s.phasesOf g).map s.legAmps)) / (firing : Rat)
  let swing := s.chanMax ch - s.chanMin ch
  let ripple := ratAbs (s.vHigh g - s.vLow g) * ((s.nat Ent.T_ON_TICKS g : Nat) : Rat) / 400000000 * (1 + s.rat Ent.PHASE_TRIM p) / s.rat Ent.L_PHASE p
  let idle := decide (rated / 10 ≤ share) && decide (ratAbs (s.legAmps p) < share / 5)
  let flat := decide (swing < rated / 100)
  [st.d0.saturated || st.d1.saturated, !s.chanValid ch, idle && flat, flat && !idle,
    decide (swing < ripple / 2) || decide (ripple * 3 / 2 < swing), idle]

/-- The failure watch of a phase in a cycle (R229, R230). -/
def State.watchPhase (s : State) (g p : Nat) : State :=
  let k := s.leg p
  let now := if s.phase p == Pha.ON && k.fired then s.sickNow g p else []
  let sick := (List.range 6).map (fun i => if now.getD i false then k.sick.getD i 0 + 1 else 0)
  let hot := s.firing p && decide (11 / 10 * s.rat Ent.PHASE_I_RATED g < ratAbs (s.legAmps p))
  s.setLeg p { k with fired := false, sick := sick, overRun := if hot then k.overRun + 1 else 0 }

/-- The cycle's work of a group at 4.0 µs, once its string's limits stand: load line, phase currents, the failure watch. -/
def State.groupCycle (s : State) (g : Nat) : State :=
  let s1 := s.loadLine g
  s1.each (s1.phasesOf g) (fun z p => (z.setRat Ent.PHASE_CURRENT p (z.sign g * z.legAmps p)).watchPhase g p)

/-- Nominal on-time in steps of 2.5 ns before its bounds (R213). -/
def State.onTime (s : State) (g : Nat) : Int :=
  let v := s.vHigh g
  if v ≤ 0 then 0 else ratRound (s.vLow g / (v * ((s.nat Ent.F_SW g : Nat) : Rat)) * 400000000)

/-- T_ON_TICKS of a latch. -/
def State.latchOnTime (s : State) (g : Nat) : State :=
  let t := s.onTime g
  let b : Int := max 400 (min 40000 t)
  (s.setConv g { s.conv g with tonClamped := t != b }).setNat Ent.T_ON_TICKS g b.toNat

/-- Hours a phase has been on, for the order of adding and shedding. -/
def State.hours (s : State) (p : Nat) : Nat := s.nat Ent.PHASE_ON_HOURS p

/-- Phases fewest hours first, in ring order among equals (R221, R222). -/
def State.byHours (s : State) (l : List Nat) : List Nat :=
  sortBy (fun a b => decide (s.hours a < s.hours b) || (s.hours a == s.hours b &&
    (decide (s.phasePos a < s.phasePos b) || (s.phasePos a == s.phasePos b && decide (a ≤ b))))) l

/-- Steps of 2.5 ns since reset at the present cycle's start. -/
def State.steps (s : State) : Nat := s.ticks * 20000

/-- A phase enters the ring: in ADDING with its ramp before it, or ON at a start. -/
def State.enterRing (s : State) (p st : Nat) : State :=
  (s.setLeg p { s.leg p with grp := s.nat Ent.PHASE_GROUP p, pos := s.nat Ent.FIRE_POSITION p, adds := 0, est := 0, area := 0,
                             at_ := s.steps, offAt := 0, lowAt := 0, ready := false, up := 0, down := 0 }).setPhase p st

/-- Phases of a group that can be added: shed, or shed and under test. -/
def State.addable (s : State) (g : Nat) : List Nat :=
  s.byHours ((s.phasesOf g).filter (fun p => s.phase p == Pha.SHED || (s.phase p == Pha.TESTING && (s.leg p).prior == Pha.SHED)))

/-- Mark phases for adding (R224). -/
def State.addPhases (s : State) (l : List Nat) : State := s.each l (fun z p => (z.cancelPhaseTest p).enterRing p Pha.ADDING)

/-- A start of a group (R221): I_REF 0 until the next latch, at which the modulator takes it up, and MIN_PHASES phases ON, those of fewest
hours; the others SHED. -/
def State.startGroup (s : State) (g : Nat) : State :=
  if (s.conv g).st != Grp.READY && (s.conv g).st != Grp.OUT_OF_RANGE then s
  else
    let ps := s.byHours ((s.phasesOf g).filter (fun p => s.phase p == Pha.OFF || s.phase p == Pha.SHED))
    let n := if s.flag Ent.SHED_ENABLE g then s.nat Ent.MIN_PHASES g else ps.length
    let s1 := s.each (ps.take n) (fun z p => z.enterRing p Pha.ON)
    let s2 := s1.each (ps.drop n) (fun z p => z.setPhase p Pha.SHED)
    (s2.setConv g { s2.conv g with st := Grp.RUN, shed := none, shedSince := none, stepHold := none, stopAt := none, fresh := true }).setNat Ent.I_REF g 0

/-- A stop of a group (R221). -/
def State.stopGroup (s : State) (g : Nat) : State :=
  if (s.conv g).st == Grp.RUN then
    (s.setConv g { s.conv g with st := Grp.STOPPING, stopAt := some s.ticks, pCmd := 0, iCmd := 0 }).setInt Ent.P_CMD g 0
  else if (s.conv g).st == Grp.OUT_OF_RANGE then s.gatesOff g Grp.READY
  else s

/-- A stop without the STOPPING ramp (R272, cause 6): every gate goes off at the next latch. -/
def State.cutGroup (s : State) (g : Nat) : State :=
  let s1 := s.stopGroup g
  if (s1.conv g).st == Grp.STOPPING then s1.setConv g { s1.conv g with cut := true } else s1

/-- The hardware path or a string's opening turns every gate off in the same clock (R221). -/
def State.disconnectGroup (s : State) (g : Nat) : State :=
  let st := (s.conv g).st
  if st == Grp.RUN || st == Grp.STOPPING || st == Grp.OUT_OF_RANGE then s.gatesOff g Grp.READY else s

/-- What the latch bounds I_REF to (R219): the loop on quantity 0, else I_CMD. -/
def State.iRefOf (s : State) (g : Nat) : Rat :=
  let k := s.conv g
  if k.st != Grp.RUN || k.fresh then 0
  else
    let v := s.vLow g
    let i := (s.groupTarget g 0).getD k.iCmd
    let a : Rat := ((s.nAv g : Nat) : Rat) * s.rat Ent.PHASE_I_RATED g
    let b : Rat := if 0 < v then ((s.nat Ent.CONV_RATING g : Nat) : Rat) / v else a
    let m := if a < b then a else b
    if i < -m then -m else if m < i then m else i

/-- A thousandth of a configuration value. -/
def State.permille (s : State) (e : Entry) (g : Nat) : Rat := ((s.nat e g : Nat) : Rat) / 1000

/-- n_need of R222. -/
def State.nNeed (s : State) (g : Nat) (i : Rat) : Nat :=
  let per := s.permille Ent.ADD_FRACTION g * s.rat Ent.PHASE_I_RATED g
  let n : Nat := if 0 < per then (-(ratFloor (-(ratAbs i / per)))).toNat else 8
  max (s.nat Ent.MIN_PHASES g) n

/-- A load step (R225). -/
def State.loadStep (s : State) (g : Nat) : State :=
  let s1 := s.addPhases (s.addable g)
  (s1.setConv g { s1.conv g with shed := none, shedSince := none
                                 stepHold := some (s.ticks + 20 * s.nat Ent.SHED_DELAY g) }).bump Ent.STEP_COUNT g

/-- Shedding and adding at a latch (R222). -/
def State.shedOrAdd (s : State) (g : Nat) (i : Rat) : State :=
  if !s.flag Ent.SHED_ENABLE g then s.addPhases (s.addable g)
  else
    let k := s.conv g
    let on := (s.ring g).length
    let need := s.nNeed g i
    let few := decide (ratAbs i < ((on : Rat) - 1) * s.permille Ent.SHED_FRACTION g * s.rat Ent.PHASE_I_RATED g)
    if need > on then
      let s1 := s.addPhases ((s.addable g).take (need - on))
      s1.setConv g { s1.conv g with shedSince := none }
    else if k.stepHold.isNone && decide (on > s.nat Ent.MIN_PHASES g) && few then
      let since := k.shedSince.getD s.ticks
      if k.shed.isNone && decide (s.ticks ≥ since + 20 * s.nat Ent.SHED_DELAY g) then
        s.setConv g { k with shedSince := some s.ticks
                             shed := (s.byHours ((s.phasesOf g).filter (fun p => s.phase p == Pha.ON))).getLast? }
      else s.setConv g { k with shedSince := some since }
    else s.setConv g { k with shedSince := none }

/-- What the latch gives the modulator (R213, Table 9-3): rails, dead time and least off-time of the group, trim and inductance of each of
its phases in the ring, each from its next firing. -/
def State.latchValues (s : State) (g : Nat) : State :=
  let s1 := s.setConv g { s.conv g with fresh := false, vh := s.vHigh g, vl := s.vLow g, dead := s.nat Ent.DEAD_TIME g, minOff := s.nat Ent.MIN_OFF g }
  s1.each (s1.ring g) (fun z p => z.setLeg p { z.leg p with ready := true, trim := z.rat Ent.PHASE_TRIM p, ind := z.rat Ent.L_PHASE p })

/-- The latch of a group at 34.0 µs (R212, R213, R219, R222, R225, R235, R272). -/
def State.latchGroup (s : State) (g : Nat) : State :=
  let old := s.rat Ent.I_REF g
  let i := s.iRefOf g
  let s1 := (s.setRat Ent.I_REF g i).latchOnTime g
  if (s.conv g).st == Grp.OUT_OF_RANGE then (s1.gatesOff g Grp.OUT_OF_RANGE).showGroup g
  else if (s.conv g).cut then (s1.gatesOff g Grp.READY).showGroup g
  else if (s.conv g).st != Grp.RUN || (s.conv g).fresh then (s1.latchValues g).showGroup g
  else
    let rated := s.rat Ent.PHASE_I_RATED g
    let step := decide (s.permille Ent.STEP_DETECT g * ((s.nAv g : Nat) : Rat) * rated < ratAbs (i - old))
    let s2 := if step then s1.loadStep g else s1
    ((s2.shedOrAdd g i).latchValues g).showGroup g

/-- One stretch of a phase's estimate and its integral. -/
def PhaseSt.run (k : PhaseSt) (slope : Rat) (till : Nat) : PhaseSt :=
  let d : Rat := ((till - k.at_ : Nat) : Rat)
  { k with est := k.est + slope * d, area := k.area + k.est * d + slope * d * d / 2, at_ := max till k.at_ }

/-- A phase's estimate brought to an instant: the high side until `offAt`, the low side from there. -/
def State.runLeg (s : State) (p till : Nat) : State :=
  let k := s.leg p
  let k1 := if k.at_ < k.offAt then k.run k.up (min till k.offAt) else k
  s.setLeg p (k1.run k.down till)

/-- The latch anchors each estimate to the window's measured mean (R214): shifted by that mean less the estimate's own
over the window. -/
def State.anchorGroup (s : State) (g : Nat) : State :=
  s.each (s.ring g) fun z p =>
    let z1 := z.runLeg p z.steps
    let k := z1.leg p
    z1.setLeg p { k with est := k.est + z1.legAmps p - k.area / 20000, area := 0 }

/-- The firing's on-time in steps (R213, R224). -/
def State.fireTime (s : State) (g p : Nat) : Nat :=
  let base : Rat := ((s.nat Ent.T_ON_TICKS g : Nat) : Rat) * (1 + (s.leg p).trim)
  if s.phase p == Pha.ADDING then
    let r := s.nat Ent.READD_RAMP g
    max 400 (ratRound (base * (((s.leg p).adds + 1 : Nat) : Rat) / (r : Rat))).toNat
  else (ratRound base).toNat

/-- The phase fires (R213, R224): its estimate runs up to now, its switches' instants are set, an added phase's ramp goes
on. -/
def State.fire (s : State) (g p now : Nat) : State :=
  let s1 := s.runLeg p now
  let t := s1.fireTime g p
  let k := s1.leg p
  let done := s1.phase p == Pha.ADDING && decide (k.adds + 1 ≥ s.nat Ent.READD_RAMP g)
  let c0 := s.conv g
  let per (v : Rat) : Rat := if k.ind == 0 then 0 else v / k.ind / 400000000
  let s2 := s1.setLeg p { k with offAt := now + t, lowAt := now + t + cdiv (c0.dead * 2) 5
                                 up := per (c0.vh - c0.vl), down := per (-c0.vl)
                                 adds := if s1.phase p == Pha.ADDING then k.adds + 1 else k.adds, fired := true }
  let c := s2.conv g
  let s3 := s2.setConv g { c with ptr := p, firings := c.firings + 1 }
  if done then s3.setPhase p Pha.ON else s3

/-- The phase at the rotation pointer: the one that follows the last fired in ring order, whether that one is still in the ring or not
(R215). -/
def State.nextPhase (s : State) (g : Nat) : Option Nat :=
  let r := s.lit g
  let last := (s.conv g).ptr
  let after (p : Nat) : Bool := decide (s.phasePos last < s.phasePos p) || (s.phasePos p == s.phasePos last && decide (last < p))
  match r.find? after with
  | some p => some p
  | none => r.head?

/-- A phase is lost to its ring (R231): FAILED with its cause, the event, and a shed still pending dropped when the
phases ON number no more than n_need (R233); the group limits and the command fall in the same cycle. -/
def State.failPhase (s : State) (p cause st : Nat) : State :=
  let g := s.phaseGroup p
  let s0 := s.cancelPhaseTest p
  let sp := s0.setPhase p st
  let s1 := ((sp.setNat Ent.PHASE_CAUSE p cause).setLeg p { sp.leg p with passed := false }).raise
    Evt.PHASE_FAILED p cause (word 32 (ratRound (s.sign g * s.legAmps p * 10)))
  let k := s1.conv g
  let drop := k.shed == some p || decide (((s1.ring g).filter (fun q => s1.phase q == Pha.ON)).length ≤ s1.nNeed g (s1.rat Ent.I_REF g))
  if g < 8 then ((s1.setConv g { k with shed := if drop then none else k.shed }).groupLimits g).loadLine g else s1

/-- Where phases stand outside a run: UNASSIGNED without a group, OFF in a group that is not running, SHED in one that
is; a phase of a half that is healthy again returns to SHED (R232). -/
def State.placePhase (s : State) (p : Nat) : State :=
  let st := s.phase p
  let g := s.phaseGroup p
  if s.firing p || st == Pha.TESTING then s
  else if s.nat Ent.PHASE_GROUP p == 0xFF then s.setPhase p Pha.UNASSIGNED
  else if st == Pha.UNASSIGNED then s.setPhase p (if (s.conv g).st == Grp.RUN then Pha.SHED else Pha.OFF)
  else if st == Pha.UNPOWERED && s.die.pwA && decide (p < 16) then (s.setPhase p Pha.SHED).setNat Ent.PHASE_CAUSE p 0
  else if st == Pha.UNPOWERED && s.die.pwB && decide (16 ≤ p) then (s.setPhase p Pha.SHED).setNat Ent.PHASE_CAUSE p 0
  else s

/-- GROUP_ENABLE as a swap leaves it (R221, R233). -/
def State.placeGroup (s : State) (g : Nat) : State :=
  let st := (s.conv g).st
  if s.flag Ent.GROUP_ENABLE g then (if st == Grp.OFF then s.setConv g { s.conv g with st := Grp.READY } else s)
  else if st == Grp.RUN then s.stopGroup g
  else if st == Grp.STOPPING then s
  else s.setConv g { s.conv g with st := Grp.OFF }

/-- Phases and groups at a frame boundary. -/
def State.placeConverters (s : State) : State :=
  (s.each (List.range 8) (fun z g => z.placeGroup g)).each (List.range 32) (fun z p => z.placePhase p)

/-- Every phase of a power die half is without power (R217, R231). -/
def State.unpowerHalf (s : State) (h : Nat) : State :=
  s.each ((List.range 16).map (· + 16 * h)) fun z p =>
    if z.phase p == Pha.UNASSIGNED || z.phase p == Pha.UNPOWERED then z else z.failPhase p 7 Pha.UNPOWERED

/-- Trim of a phase, once a frame (R216). -/
def State.balance (s : State) (g p : Nat) : State :=
  let r := (s.ring g).length
  let share : Rat := if r == 0 then 0 else ratSum ((s.phasesOf g).map s.legMean) / (r : Rat)
  let rated := s.rat Ent.PHASE_I_RATED g
  let t := s.rat Ent.PHASE_TRIM p + (if rated == 0 then 0 else s.rat Ent.BALANCE_GAIN g / 1000 * (share - s.legMean p) / rated)
  let b : Rat := if t < -1 / 10 then -1 / 10 else if 1 / 10 < t then 1 / 10 else t
  let k := s.leg p
  let at_ := b == 1 / 10 || b == -1 / 10
  (s.setRat Ent.PHASE_TRIM p b).setLeg p { k with trimRun := if at_ then k.trimRun + 1 else 0, trimTold := at_ && k.trimTold }

/-- A phase's time on: 20 cycles a frame, in whole hours (Table 9-4). -/
def State.countHours (s : State) (p : Nat) : State :=
  let k := s.leg p
  let t := k.onTicks + 20
  if t ≥ secTicks 3600 then (s.setLeg p { k with onTicks := t - secTicks 3600 }).bump Ent.PHASE_ON_HOURS p
  else s.setLeg p { k with onTicks := t }

/-- The frame's work of a group: trims and hours of firing phases, and SW_FREQ as the mean of the frame's firings. -/
def State.groupFrame (s : State) (g : Nat) : State :=
  let r := s.ring g
  let k := s.conv g
  let f : Rat := if r.isEmpty then 0 else ((k.firings * 1000 : Nat) : Rat) / (r.length : Rat)
  let s1 := (s.setRat Ent.SW_FREQ g f).setConv g { k with firings := 0, inFrames := k.inFrames + 1 }
  (s1.each r (fun z p => z.balance g p)).each r (fun z p => z.countHours p)

/-- KIND 5 quantities (Table 9-1). -/
def State.groupQuantity (s : State) (g q : Nat) : Option Nat :=
  match q with
  | 0 => some (F32.ofRat (s.conv g).pCmd)
  | 1 => some (F32.ofRat (s.conv g).iCmd)
  | 2 => some (F32.ofRat (s.groupAmps g))
  | 3 => some (F32.ofRat (s.vBus g))
  | 4 => some (F32.ofRat (s.vLow g))
  | 5 => some (F32.ofRat ((s.nat Ent.GROUP_LIMIT_DIS g : Nat) : Rat))
  | 6 => some (F32.ofRat (((s.ring g).length : Nat) : Rat))
  | _ => none

end Sys2Proof.Machine
end

