-- ==== Sys2Proof/Machine/LoadSwitch.lean ====
section
/-!
DEFINITION. Load channels (R374 to R392): owners, commands, the fail-safe store, and the ranks of Table 16-3 that
decide an output. The rows of the chapter stand in Sys2Proof/Machine/LoadRows.lean.
-/
namespace Sys2Proof.Machine
open Sys2Proof

/-- A load channel after power-up. -/
def LcSt.none : LcSt :=
  ⟨false, 0, false, 0, false, 0, 0, false, false, Option.none, false, [], false, false, 0, Option.none, false, false, false,
   false, 0, 0, 0, 0, 0, 0, 0, 0⟩

/-- What is held of a channel. -/
def State.lcs (s : State) (c : Nat) : LcSt := Tab.get LcSt.none s.lc c
def State.setLc (s : State) (c : Nat) (k : LcSt) : State := { s with lc := Tab.set s.lc c k }

/-- A power die half: 0 A (channels 0–19), 1 B (channels 20–39). -/
def State.half (s : State) (h : Nat) : HalfSt := if h == 0 then s.halfA else s.halfB
def State.setHalf (s : State) (h : Nat) (x : HalfSt) : State := if h == 0 then { s with halfA := x } else { s with halfB := x }

/-- A half is powered and healthy. -/
def State.pwOk (s : State) (h : Nat) : Bool := if h == 0 then s.die.pwA else s.die.pwB

/-- Channels of the configuration set a reader names with `get`, kept apart by owner (R377). -/
def ownerOf (get : Entry → Nat → Nat) (c : Nat) : Nat :=
  if (List.range 8).any (fun n => get Ent.CONTACTOR_CHANNEL n == c) then 1
  else if (List.range 8).any (fun n => get Ent.LOCK_CHANNEL n == c) then 2
  else if (List.range 8).any (fun n => get Ent.POS_CHANNEL n == c || get Ent.NEG_CHANNEL n == c || get Ent.PRE_CHANNEL n == c) then 3
  else if (List.range 64).any (fun l => get Ent.LOOP_ENABLE l == 1 && field (get Ent.OUT_TARGET l) 24 8 == 1 &&
      field (get Ent.OUT_TARGET l) 0 16 == c) then 4
  else 0

/-- The owner of a channel in the active set (R377). -/
def State.lcOwner (s : State) (c : Nat) : Nat := ownerOf (fun e n => s.nat e n) c

/-- The string a channel drives a coil of. -/
def State.coilString (s : State) (c : Nat) : Option Nat :=
  (List.range 8).find? (fun n => s.nat Ent.POS_CHANNEL n == c || s.nat Ent.NEG_CHANNEL n == c || s.nat Ent.PRE_CHANNEL n == c)

/-- A duty between 0 and 1 in steps of 1/1,024 (R376), clamped (Table 8-4). -/
def dutySteps (q : Rat) : Nat := (ratRound ((if q < 0 then 0 else if 1 < q then 1 else q) * 1024)).toNat

/-- The duty that results from the shortest pulses R376 allows, at a frequency in Hz. -/
def pulseDuty (freq d : Nat) : Nat :=
  if d * 1000000 < 50 * 1024 * freq then 0
  else if (1024 - d) * 1000000 < 50 * 1024 * freq then 1024 else d

/-- Fail-safe states a half stores for its channels (R387, Table 16-2), from the active set. -/
def State.failItems (s : State) (h : Nat) : List FailItem :=
  (List.range 20).map fun i =>
    let c := 20 * h + i
    let duty := s.nat Ent.LC_FAILSAFE_DUTY c * 1024 / 1000
    match s.coilString c with
    | some n =>
      if s.nat Ent.PRE_CHANNEL n == c then ⟨c, 2, 0, 0⟩
      else ⟨c, 3, if s.nat Ent.STRING_FAILSAFE n == 0 then 0 else 2, 0⟩
    | none => ⟨c, b2n (s.lcOwner c == 1), s.nat Ent.LC_FAILSAFE c, duty⟩

/-- The coil channels the active set gives a string: main-positive, main-negative, pre-charge. -/
def State.coilsOf (s : State) (n : Nat) : List Nat := [s.nat Ent.POS_CHANNEL n, s.nat Ent.NEG_CHANNEL n, s.nat Ent.PRE_CHANNEL n]

/-- The string whose coil a channel drives in its half's store (R274). -/
def State.heldCoil (s : State) (c : Nat) : Option Nat :=
  ((List.range 4).find? (fun i => ((s.half (c / 20)).strCoils.getD i []).contains c)).map (fun i => 4 * (c / 20) + i)

/-- Rewrite both halves' fail-safe stores and show the owners (R274, R387: at every swap and at start). -/
def State.loadStores (s : State) : State :=
  let put (z : State) (h : Nat) : State :=
    z.setHalf h { z.half h with store := z.failItems h, openDelay := z.nat Ent.FORCED_OPEN_DELAY
                                strCoils := (List.range 4).map (fun i => z.coilsOf (4 * h + i)) }
  (put (put s 0) 1).each (List.range 40) (fun z c => z.setNat Ent.LC_OWNER c (z.lcOwner c))

/-- Supply cut-off of a half (Table 16-4). -/
def HalfSt.cut (h : HalfSt) : Bool := h.under || h.dump || h.ground || h.reversed

/-- The rope of a channel's string is not closed: the interlock of R274, from which a driven coil is free for the 1 ms that follows the
opening. -/
def State.ropeHolds (s : State) (c : Nat) (k : LcSt) : Bool :=
  match s.heldCoil c with
  | some n => s.nat Ent.ROPE_STATE n != 2 && (k.rope || !k.on || (s.str n).ropeOff.isNone)
  | none => false

/-- What the half's fail-safe store asks of a channel: on, duty. -/
def State.failWant (s : State) (c : Nat) (k : LcSt) : Bool × Nat :=
  match (s.half (c / 20)).store.find? (fun i => i.ch == c) with
  | some i =>
    if i.kind == 2 then (false, 0)
    else match i.state with
      | 0 => (false, 0)
      | 1 => (true, 1024)
      | 2 => (if s.nat Ent.LC_MODE c == 2 then decide (0 < pulseDuty (s.nat Ent.LC_PWM_FREQ c) k.gotDuty) else k.got, k.gotDuty)
      | _ => (decide (0 < pulseDuty (s.nat Ent.LC_PWM_FREQ c) i.duty), i.duty)
  | none => (false, 0)

/-- What the latched command asks of a channel: on, duty (R375). A PWM duty too short for a pulse asks for none (R376). -/
def State.cmdWant (s : State) (c : Nat) (k : LcSt) : Bool × Nat :=
  match s.nat Ent.LC_MODE c with
  | 0 => (false, 0)
  | 2 => (decide (0 < pulseDuty (s.nat Ent.LC_PWM_FREQ c) k.gotDuty), k.gotDuty)
  | _ => (k.got, 1024)

/-- Ranks 1 to 6 of Table 16-3 that hold a channel off, as the LC_STATE they show. -/
def State.heldOff (s : State) (c : Nat) (k : LcSt) : Option Nat :=
  let h := c / 20
  if !s.pwOk h then some 10
  else if (s.half h).cut then some 8
  else if k.thermal then some 5
  else if k.lockout then some 7
  else if k.latchedOff then some 6
  else if k.wait.isSome then some 4
  else if s.ropeHolds c k then some 8
  else if k.estop then some 8
  else none

/-- A running channel test is cancelled because the channel is demanded on (R385, R24). -/
def State.cancelLcTest (s : State) (c : Nat) : State :=
  if s.testing Ent.LC_TEST c then
    ((s.endTest (Ent.LC_TEST.target c) St.CANCELLED).setNat Ent.LC_TEST_RESULT c St.CANCELLED).raise Evt.LC_TEST_DONE c St.CANCELLED 0
  else s

/-- Decide a channel's output by the highest rank that applies (R389) and show LC_STATE; a turn-on starts a new pull-in
and a new span, a turn-off ends the span. -/
def State.lcUpdate (s : State) (c : Nat) : State :=
  let k := s.lcs c
  let h := s.half (c / 20)
  let mode := s.nat Ent.LC_MODE c
  let (want, _) := if h.failsafe then s.failWant c k else s.cmdWant c k
  match s.heldOff c k with
  | some code =>
    (s.setLc c { k with on := false, offAt := if k.on then s.ticks else k.offAt, pullIn := false, limiting := false,
                        span := none }).setNat Ent.LC_STATE c code
  | none =>
    let blocked := h.surge && (!k.on || mode == 2)
    let on := want && !blocked
    let s0 := if on then s.cancelLcTest c else s
    let pull := mode == 3 && on && (if k.on then k.pullIn else true)
    let k1 := { k with on := on, onAt := if on && !k.on then s.ticks else k.onAt
                       offAt := if !on && k.on then s.ticks else k.offAt
                       pullIn := pull
                       span := if on then (if k.on then k.span else some s.ticks) else none
                       limiting := k.limiting && on }
    (s0.setLc c k1).setNat Ent.LC_STATE c
      (if h.failsafe then 9 else if mode == 0 then 0 else if !on then 1
       else if mode == 2 || (mode == 3 && !pull) then 3 else 2)

/-- The duty in force in 1/1,024: full in SWITCH and in pull-in, the hold duty of a COIL, the PWM duty after R376. -/
def State.dutyApplied (s : State) (c : Nat) : Nat :=
  let k := s.lcs c
  let f := s.nat Ent.LC_PWM_FREQ c
  if !k.on then 0
  else match s.nat Ent.LC_MODE c with
    | 2 =>
      let h := s.half (c / 20)
      pulseDuty f (if h.failsafe then (s.failWant c k).2 else k.gotDuty)
    | 3 => if k.pullIn then 1024 else pulseDuty f (s.nat Ent.LC_HOLD_DUTY c * 1024 / 1000)
    | _ => 1024

/-- The bucket drained to the present tick at LC_CLAMP_LEAK, in µJ: 1 mW is 0.05 µJ a cycle (R383). -/
def State.bucketNow (s : State) (c : Nat) : Rat :=
  let k := s.lcs c
  let left := k.bucket - (s.nat Ent.LC_CLAMP_LEAK c : Rat) * ((s.ticks - k.bucketAt : Nat) : Rat) / 20
  if left < 0 then 0 else left

/-- LC_STATUS (Table 16-8), refreshed at every cycle 0 (R392), with LC_CLAMP_ENERGY. -/
def State.showLc (s : State) (c : Nat) : State :=
  let k := s.lcs c
  let h := s.half (c / 20)
  (s.setNat Ent.LC_STATUS c
    (pack [(0, 1, b2n k.on), (1, 1, b2n k.limiting), (2, 1, b2n k.thermal), (3, 1, b2n k.openLoad), (4, 1, b2n k.lockout),
      (5, 1, b2n k.latchedOff), (6, 1, b2n h.surge), (7, 1, b2n h.failsafe), (8, 1, b2n k.pullIn), (9, 1, b2n k.weld),
      (10, 2, k.cause), (16, 10, s.dutyApplied c)])).setRat Ent.LC_CLAMP_ENERGY c (s.bucketNow c / 1000)

/-- The control die commands a channel on or off; the power die latches it with the next packet (R375). -/
def State.lcCommand (s : State) (c : Nat) (on : Bool) : State :=
  if c < 40 then s.setLc c { s.lcs c with cmd := on } else s

/-- The control die sets a channel's duty for the next packet. -/
def State.lcDuty (s : State) (c : Nat) (q : Rat) : State :=
  if c < 40 then s.setLc c { s.lcs c with duty := dutySteps q, asked := if q < 0 then 0 else if 1 < q then 1 else q } else s

/-- The channel's gate is on. -/
def State.lcOn (s : State) (c : Nat) : Bool := (s.lcs c).on

/-- Set or clear WELD_FLAG (R391). -/
def State.setWeld (s : State) (c : Nat) (b : Bool) : State :=
  if c < 40 then s.setLc c { s.lcs c with weld := b } else s

end Sys2Proof.Machine
end

