-- ==== Sys2Proof/Machine/Outlets.lean ====
section
/-!
DEFINITION. Outlets and charging sessions (R163 to R192): states, targets, the cable check, ends and stops, the
contactor, the emergency stop and the session record. Its rows stand in Sys2Proof/Machine/OutletRows.lean.
-/
namespace Sys2Proof.Machine
open Sys2Proof

/-- SESSION_STATE (Table 7-3). -/
def Ses.IDLE : Nat := 0
def Ses.CONNECTED : Nat := 1
def Ses.HANDSHAKE : Nat := 2
def Ses.SETUP : Nat := 3
def Ses.AUTHORISING : Nat := 4
def Ses.PARAMETERS : Nat := 5
def Ses.CABLE_CHECK : Nat := 6
def Ses.PRE_CHARGE : Nat := 7
def Ses.TRANSFER : Nat := 8
def Ses.PAUSED : Nat := 9
def Ses.STOPPING : Nat := 10
def Ses.WELDING_CHECK : Nat := 11
def Ses.RELEASE : Nat := 12
def Ses.FAULTED : Nat := 13
def Ses.UNAVAILABLE : Nat := 14

/-- END_REASON (Table 7-5). -/
def End.COMPLETED_BY_VEHICLE : Nat := 0
def End.STOPPED_BY_OPERATOR : Nat := 1
def End.STOPPED_LOCALLY : Nat := 2
def End.AUTH_REFUSED : Nat := 3
def End.AUTH_TIMEOUT : Nat := 4
def End.PROTOCOL_NOT_SUPPORTED : Nat := 5
def End.SEQUENCE_TIMEOUT : Nat := 6
def End.SECURITY_FAILURE : Nat := 7
def End.NO_MODULES : Nat := 8
def End.INSULATION_FAULT : Nat := 9
def End.PRECHARGE_FAILED : Nat := 10
def End.EMERGENCY_STOP : Nat := 11
def End.LINK_LOST : Nat := 12
def End.UNPLUGGED : Nat := 13
def End.OVER_VOLTAGE : Nat := 14
def End.OVER_CURRENT : Nat := 15
def End.MODULE_FAULT : Nat := 16
def End.CABLE_OVER_TEMPERATURE : Nat := 17
def End.CREDIT_EXHAUSTED : Nat := 18
def End.CONTROLLER_RESTART : Nat := 19
def End.OUTLET_UNAVAILABLE : Nat := 20
def End.VEHICLE_ERROR : Nat := 21

/-- A session of which nothing has happened yet. -/
def Sess.none : Sess :=
  { state := 0, plugAt := 0, stateAt := 0, startSfn := 0, number := 0, idLow := 0, setup := false, committed := false, ended := false, reason := 0xFF, secondary := 0xFF,
    endSfn := 0, decided := false, offline := false, verified := false, account := 0xFFFF, token := [], wanted := 0,
    bandSince := Option.none, passed := false, warned := false, target := 0, loopAt := 0, discharge := false, lastResult := 0,
    lastModules := [], closed := false, closeSfn := 0, openSfn := 0, delivered0 := 0, received0 := 0, delivered1 := 0,
    received1 := 0, openAt := 0, vehicleHigh := false, fast := false, ownCheck := false, vehicleCheck := false,
    marked := false, welded := false, switchover := false, stepped := false, faultAfter := false, recorded := false,
    stopAsked := false }

/-- What is held of an outlet's session, and its state. -/
def State.sess (s : State) (o : Nat) : Sess := Tab.get Sess.none s.outlets.sess o
def State.setSess (s : State) (o : Nat) (k : Sess) : State :=
  { s with outlets := { s.outlets with sess := Tab.set s.outlets.sess o k } }
def State.sesState (s : State) (o : Nat) : Nat := (s.sess o).state

/-- What is held of an outlet's line. -/
def LineSt.none : LineSt := ⟨0, 0, 0, 0, 0, 0, 0, 0, false, false, false⟩
def State.line (s : State) (o : Nat) : LineSt := Tab.get LineSt.none s.outlets.lines o
def State.setLine (s : State) (o : Nat) (k : LineSt) : State :=
  { s with outlets := { s.outlets with lines := Tab.set s.outlets.lines o k } }

/-- The vehicle's connection stands in the context table (R165). -/
def State.linked (s : State) (o : Nat) : Bool := (s.line o).tcp && (s.line o).tls

/-- The connection is closed, or its context lost (R165, R166). -/
def State.closeLink (s : State) (o : Nat) : State := s.setLine o { s.line o with tcp := false, tls := false, cert := false }

/-- A session exists: from plug-in until the coupler is released. -/
def State.sesLive (s : State) (o : Nat) : Bool :=
  let st := s.sesState o
  st != Ses.IDLE && st != Ses.FAULTED && st != Ses.UNAVAILABLE

/-- SESSION_STATE is IDLE, FAULTED or UNAVAILABLE (R464, R476). -/
def State.outletIdle (s : State) (o : Nat) : Bool :=
  s.sesState o == Ses.IDLE || s.sesState o == Ses.FAULTED || s.sesState o == Ses.UNAVAILABLE

/-- Enter a state (R169). -/
def State.enter (s : State) (o st : Nat) : State :=
  s.setSess o { s.sess o with state := st, stateAt := s.ticks }

/-- SESSION_STATE at a cycle 0 (R169). -/
def State.showSession (s : State) (o : Nat) : State := s.setNat Ent.SESSION_STATE o (s.sesState o)

/-- Outlet voltage in V and current in A as the last window means. -/
def State.oVolts (s : State) (o : Nat) : Rat := s.chan (s.nat Ent.VOLTAGE_MCH o)
def State.oAmps (s : State) (o : Nat) : Rat := s.chan (s.nat Ent.CURRENT_MCH o)

/-- A magnitude in tenths, rounded. -/
def tenths (q : Rat) : Nat := (ratRound (ratAbs q * 10)).toNat

/-- The confirmation band (Table 7-2): 0 OPEN, 1 CONNECTED, 2 FAULT. -/
def State.band (s : State) (o : Nat) : Nat :=
  let mv := s.chan (s.nat Ent.CONFIRM_MCH o) * 1000
  if ((s.nat Ent.CONFIRM_OPEN : Nat) : Rat) ≤ mv then 0
  else if ((s.nat Ent.CONFIRM_LOW : Nat) : Rat) ≤ mv ∧ mv ≤ ((s.nat Ent.CONFIRM_HIGH : Nat) : Rat) then 1
  else 2

/-- A legal calibration holds one of the outlet's metering channels (R25). -/
def State.outletCalibrating (s : State) (o : Nat) : Bool :=
  s.meas.calibs.any (fun k => s.flag Ent.MCH_LEGAL k.ch &&
    (k.ch == s.nat Ent.VOLTAGE_MCH o || k.ch == s.nat Ent.CURRENT_MCH o || k.ch == s.nat Ent.CONFIRM_MCH o ||
      k.ch == s.nat Ent.IMD_MCH o))

/-- A cause of UNAVAILABLE holds (Table 7-3, R475). -/
def State.unavailableCause (s : State) (o : Nat) : Bool :=
  !s.flag Ent.OUTLET_ENABLE o || s.outlets.estopLatched || s.outletCalibrating o ||
    s.nat Ent.DEVICE_STATE == Dev.TEST

/-- IDLE becomes UNAVAILABLE while a cause holds; UNAVAILABLE returns to IDLE once it has cleared and the coupler is
unplugged. -/
def State.refreshOutlet (s : State) (o : Nat) : State :=
  let st := s.sesState o
  if st == Ses.IDLE && s.unavailableCause o then s.enter o Ses.UNAVAILABLE
  else if st == Ses.UNAVAILABLE && !s.unavailableCause o && s.band o == 0 then s.enter o Ses.IDLE
  else s

/-- A module is ASSIGNED. -/
def State.steady (s : State) (m : Nat) : Bool := s.nat Ent.MODULE_STATE m == Mod.ASSIGNED

/-- TARGET to every module assigned to an outlet (R153). -/
def State.targetAll (s : State) (o mode volts amps : Nat) : State :=
  s.each (s.modulesOf o) (fun z m => z.target m mode volts amps)

/-- A reply to the vehicle (log entry 20): its message, the response (0 OK, 1 failure, 2 sequence error), the processing
status (0 finished, 1 ongoing) and its values. The application cores produce it, so the link die holds it (R73). -/
def State.toVehicle (s : State) (o msg response ongoing : Nat) (values : List Int) : State :=
  s.sendHeld ⟨.vehicle, o, .reply, [(msg : Int), response, ongoing] ++ values, []⟩

/-- The messages of the vehicle link, numbered for replies. -/
def Req.SUPPORTED_PROTOCOL : Nat := 0
def Req.SESSION_SETUP : Nat := 1
def Req.AUTHORIZATION : Nat := 2
def Req.SERVICE_DISCOVERY : Nat := 3
def Req.PARAMETER_DISCOVERY : Nat := 4
def Req.CABLE_CHECK : Nat := 5
def Req.PRE_CHARGE : Nat := 6
def Req.POWER_DELIVERY : Nat := 7
def Req.LOOP : Nat := 8
def Req.WELDING_DETECTION : Nat := 9
def Req.SESSION_STOP : Nat := 10
def Req.CERTIFICATE_INSTALLATION : Nat := 11

/-- The outlet's registers DELIVERED and RECEIVED as billed (Table 14-3). -/
def State.outletDelivered (s : State) (o : Nat) : Nat := s.nat Ent.REGISTER (1 + o) 0
def State.outletReceived (s : State) (o : Nat) : Nat := s.nat Ent.REGISTER (1 + o) 1

/-- Close the output contactor: commanded on, the frame and the registers noted; the commit of cycle 19 of this frame
writes the registers anew (R192). -/
def State.closeContactor (s : State) (o : Nat) : State :=
  (s.lcCommand (s.nat Ent.CONTACTOR_CHANNEL o) true).setSess o
    { s.sess o with closed := true, closeSfn := s.sfn, delivered0 := s.outletDelivered o, received0 := s.outletReceived o }

/-- WELDING_CHECK is complete: RELEASE. -/
def State.leaveWelding (s : State) (o : Nat) : State :=
  let k := s.sess o
  if s.sesState o == Ses.WELDING_CHECK && k.ownCheck && k.vehicleCheck then s.enter o Ses.RELEASE else s

/-- The reservation of unresponsive modules ends when the contactor opens (R121). -/
def State.endReservations (s : State) (o : Nat) : State :=
  s.each ((s.modulesOf o).filter (fun m => s.nat Ent.MODULE_STATE m == Mod.UNRESPONSIVE)) fun z m =>
    let g := z.grants m
    (z.setGrants m { g with sent := [], cmds := [], resend := false, missFrames := 0, move := none }).setNat Ent.MODULE_STATE m
      (z.restState m)

/-- Open the output contactor: WELDING_CHECK begins; its own check is skipped when the vehicle side already reads below
60 V (R188). -/
def State.openContactor (s : State) (o : Nat) : State :=
  let high := decide (60 ≤ s.oVolts o)
  let s1 := (s.lcCommand (s.nat Ent.CONTACTOR_CHANNEL o) false).setSess o
    { s.sess o with closed := false, openSfn := s.sfn, openAt := s.ticks, vehicleHigh := high, ownCheck := !high,
                    delivered1 := s.outletDelivered o, received1 := s.outletReceived o }
  ((s1.enter o Ses.WELDING_CHECK).endReservations o).leaveWelding o

/-- The session delivers nothing to the allocator (R178). -/
def State.deliverNothing (s : State) (o : Nat) : State :=
  s.setInt Ent.REQUEST_POWER o 0

/-- A source has set END_REASON (R183); the end is of the frame in which it is stamped (R182). -/
def State.takeEnd (s : State) (o reason : Nat) : State :=
  s.setSess o { s.sess o with committed := true, reason := reason, endSfn := s.sfn }

/-- The commit point of an end (R182, R192): the boundary of the frame in which its source stood. -/
def State.commitEnd (s : State) (o : Nat) : State :=
  let k := s.sess o
  if k.committed && !k.ended then
    ((s.setSess o { k with ended := true }).setNat Ent.LAST_END_REASON o k.reason).raise Evt.SESSION_END o k.number
      (pack [(0, 8, k.reason), (8, 8, k.secondary)])
  else s
def State.commitEnds (s : State) : State := s.each (List.range 8) State.commitEnd

/-- A stop becomes or starts as fast (R184): MODE 0 to every assigned module at once, and FORCED_OPEN_DELAY from now. -/
def State.goFast (s : State) (o : Nat) : State :=
  (s.setSess o { s.sess o with fast := true, stateAt := s.ticks }).targetAll o 0 0 0

/-- A source ends the session (R182, R183): the first sets the reason, which commits at the boundary; the next sets SECONDARY_REASON; each still takes its
protective action, so a fast one overrides a normal stop. With the contactor closed the session goes to STOPPING,
otherwise to RELEASE. -/
def State.endSession (s : State) (o reason : Nat) (fast : Bool) : State :=
  let k := s.sess o
  if !s.sesLive o then s
  else if k.committed then
    let s1 := if k.secondary == 0xFF && !k.recorded then s.setSess o { k with secondary := reason } else s
    if fast && !k.fast && s.sesState o == Ses.STOPPING then s1.goFast o else s1
  else
    let s1 := (s.takeEnd o reason).deliverNothing o
    if k.closed then
      let s2 := s1.enter o Ses.STOPPING
      if fast then s2.goFast o else s2.targetAll o 2 (s.nat Ent.EV_MAX_VOLTAGE o) 0
    else s1.enter o Ses.RELEASE

/-- A trip of Table 7-6: its event, FAULTED after release with OUTLET_FAULT_LATCH, a fast stop. -/
def State.noteTrip (s : State) (o : Nat) : State :=
  if s.flag Ent.OUTLET_FAULT_LATCH o then s.setSess o { s.sess o with faultAfter := true } else s
def State.trip (s : State) (o reason value : Nat) : State :=
  ((s.raise Evt.OUTLET_TRIP o reason value).noteTrip o).endSession o reason true

/-- A request comes over the vehicle's connection in a session, and is answered only in the states that allow it; elsewhere the answer is
the sequence error and the session ends VEHICLE_ERROR (R167). -/
def State.onRequest (s : State) (row : Instr) (o msg : Nat) (states : List Nat) (go : State → State) : State :=
  let s1 := s.noteIn row
  if !s1.sesLive o || !s1.linked o then s1
  else if states.contains (s1.sesState o) then go s1
  else (s1.toVehicle o msg 2 0 []).endSession o End.VEHICLE_ERROR false

/-- Present voltage and current as replies report them, in tenths. -/
def State.present (s : State) (o : Nat) : List Int := [(tenths (s.oVolts o) : Int), ratRound (s.oAmps o * 10)]

/-- Write what the vehicle declares; a value beyond its entry's format is unstated. -/
def State.setEv (s : State) (o : Nat) (p : EvParams) : State :=
  let s1 := ((s.fitNat Ent.EV_MAX_POWER o p.maxPower).fitNat Ent.EV_MAX_CURRENT o p.maxCurrent).fitNat Ent.EV_MAX_VOLTAGE o p.maxVoltage
  let s2 := ((s1.fitNat Ent.EV_TARGET_CURRENT o p.targetCurrent).fitNat Ent.EV_MAX_DISCHARGE_POWER o p.maxDischargePower).fitNat
    Ent.EV_MAX_DISCHARGE_CURRENT o p.maxDischargeCurrent
  match p.soc with
  | some x => s2.fitNat Ent.EV_SOC o x
  | none => s2

/-- CABLE_CHECK_VOLTAGE in V (R175). -/
def State.checkVolts (s : State) (o : Nat) : Rat :=
  let v : Rat := ((s.nat Ent.EV_MAX_VOLTAGE o : Nat) : Rat) / 10
  if v < 1250 then v else 1250

/-- Loop current of the insulation monitor in mA, and the resistance in kΩ (R175). -/
def State.imdLoop (s : State) (o : Nat) : Rat := s.chan (s.nat Ent.IMD_MCH o)
def State.insulation (s : State) (o : Nat) : Rat := (s.imdLoop o - 4) / 16 * ((s.nat Ent.IMD_FULL_SCALE : Nat) : Rat)

/-- A resistance in kΩ as events and INSULATION_LAST show it: whole kΩ, not below 0. -/
def kohms (r : Rat) : Nat := (ratFloor r).toNat

/-- A threshold of so many Ω/V at a voltage, in kΩ. -/
def isoLimit (ohmsPerVolt : Nat) (v : Rat) : Rat := ((ohmsPerVolt : Nat) : Rat) * v / 1000

/-- The cable check fails (R175). -/
def State.failCableCheck (s : State) (o : Nat) : State :=
  (s.raise Evt.CABLE_CHECK_FAIL o (kohms (s.insulation o)) (tenths (s.oVolts o))).endSession o End.INSULATION_FAULT true

/-- One cycle of the cable check (R175): INSULATION_LAST, the failures that end it at once, and since when voltage and
resistance hold. -/
def State.cableCheckCycle (s : State) (o : Nat) : State :=
  if s.sesState o != Ses.CABLE_CHECK || (s.sess o).committed then s
  else
    let v := s.checkVolts o
    let r := s.insulation o
    let i := s.imdLoop o
    let s1 := s.fitNat Ent.INSULATION_LAST o (kohms r)
    if i < 36 / 10 ∨ 21 < i ∨ r < isoLimit (s.nat Ent.ISO_FAULT) v then
      if (s.sess o).passed then s1 else s1.failCableCheck o
    else
      let good := decide (ratAbs (s.oVolts o - v) ≤ v / 50) && decide (isoLimit (s.nat Ent.ISO_WARN) v ≤ r)
      let k := s1.sess o
      s1.setSess o { k with bandSince := if good then (if k.bandSince.isSome then k.bandSince else some s.ticks) else none }

/-- Insulation below ISO_WARN × voltage, once a session, from CABLE_CHECK until the contactor opens (R177). -/
def State.insulationWarning (s : State) (o : Nat) : State :=
  let k := s.sess o
  if k.closed && !k.warned && decide (s.insulation o < isoLimit (s.nat Ent.ISO_WARN) (s.oVolts o)) then
    (s.setSess o { k with warned := true }).raise Evt.INSULATION_WARNING o (kohms (s.insulation o)) (tenths (s.oVolts o))
  else s

/-- What the session delivers to the allocator at the end of cycle 19 (R178): request in W and ceiling in A. -/
def State.deliver (s : State) (o : Nat) : State :=
  if s.sesState o != Ses.TRANSFER then s.setInt Ent.REQUEST_POWER o 0
  else
    let v := s.outletVolts o
    let a (e : Entry) : Rat := ((s.nat e o : Nat) : Rat) / 10
    let w (e : Entry) : Rat := ((s.nat e o : Nat) : Rat)
    let lesser (x y : Rat) : Rat := if x < y then x else y
    let k := s.sess o
    let (req, ceil) : Rat × Rat :=
      if k.discharge then
        if s.flag Ent.BPT_ENABLE o && s.nat Ent.SERVICE o == 1 then
          (-(lesser (w Ent.EV_MAX_DISCHARGE_POWER) (v * a Ent.EV_MAX_DISCHARGE_CURRENT)), a Ent.EV_MAX_DISCHARGE_CURRENT)
        else (0, a Ent.EV_MAX_CURRENT)
      else if s.nat Ent.CONTROL_MODE o == 1 then (v * a Ent.EV_TARGET_CURRENT, a Ent.EV_TARGET_CURRENT)
      else (lesser (w Ent.EV_MAX_POWER) (v * a Ent.EV_MAX_CURRENT), a Ent.EV_MAX_CURRENT)
    let s1 := s.fitInt Ent.REQUEST_POWER o (if req < 0 then -(ratFloor (-req)) else ratFloor req)
    { s1 with alloc := { s1.alloc with ceilings := Tab.set s1.alloc.ceilings o ceil } }

/-- I of R179 in tenths of A. With no outlet voltage GRANT / V has no value the spec states: a free one. -/
def State.targetResult (s : State) (o : Nat) : Nat × State :=
  let v := s.outletVolts o
  let lesser (x y : Rat) : Rat := if x < y then x else y
  let base := lesser (lesser 3000 (s.rat Ent.CABLE_CURRENT_LIMIT o)) (s.sessionCeiling o)
  let g : Rat := (((s.int Ent.GRANT o).natAbs : Nat) : Rat)
  if 0 < v then ((ratFloor (lesser base (g / v) * 10)).toNat, s)
  else let (f, s1) := s.takeFree; (min (low 16 f) (ratFloor (base * 10)).toNat, s1)

/-- R179 in TRANSFER: TARGET MODE 2 to every module that is not moving when the result changes by more than 1 % or the modules do. -/
def State.updateTargets (s : State) (o : Nat) : State :=
  if s.sesState o != Ses.TRANSFER || (s.sess o).committed then s
  else
    let ms := (s.modulesOf o).filter (fun m => (s.grants m).move.isNone)
    let (i, s1) := s.targetResult o
    let k := s1.sess o
    let moved := decide (100 * (max i k.lastResult - min i k.lastResult) > k.lastResult)
    if ms.isEmpty || (!moved && ms == k.lastModules) then s1
    else
      (s1.setSess o { k with lastResult := i, lastModules := ms }).each ms
        (fun z m => z.target m 2 (z.nat Ent.EV_MAX_VOLTAGE o) (i / ms.length))

/-- Modules a session asks for (R128, R174). -/
def State.modulesWanted (s : State) (o : Nat) : Nat :=
  max 1 (cdiv (min (s.nat Ent.EV_MAX_POWER o) (s.nat Ent.OUTLET_POWER_LIMIT o)) 375000)

/-- A session that asked and has no module yet is served when one is free (R128). -/
def State.serveWaiting (s : State) (o : Nat) : State :=
  let k := s.sess o
  if s.sesState o == Ses.PARAMETERS && decide (0 < k.wanted) && (s.modulesOf o).isEmpty then s.assignModules o k.wanted else s

/-- An authorisation is accepted (R172, R173). -/
def State.acceptAuth (s : State) (o cls account : Nat) (offline : Bool) : State :=
  let s1 := s.setSess o { s.sess o with decided := true, offline := offline, account := account }
  (s1.setNat Ent.CLASS o cls).enter o Ses.PARAMETERS

/-- The channels an outlet names. -/
def State.outletChannels (s : State) (o : Nat) : List Nat :=
  [s.nat Ent.CONTACTOR_CHANNEL o, s.nat Ent.LOCK_CHANNEL o]
def State.outletMchs (s : State) (o : Nat) : List Nat :=
  [s.nat Ent.CONFIRM_MCH o, s.nat Ent.VOLTAGE_MCH o, s.nat Ent.CURRENT_MCH o, s.nat Ent.IMD_MCH o]

/-- Tests on what an outlet uses are cancelled when a vehicle plugs in (Table 7-7, R24). -/
def State.cancelOutletTests (s : State) (o : Nat) : State :=
  (s.each (s.outletChannels o) (fun z c => z.cancelLcTest c)).each (s.outletMchs o) (fun z ch => z.cancelChannel ch)

/-- The session's entries begin anew with a session. -/
def State.clearEv (s : State) (o : Nat) : State :=
  let s1 := ((s.setNat Ent.AUTH_KIND o 0).setBytes Ent.AUTH_IDENTITY o []).setNat Ent.CONTROL_MODE o 0
  let s2 := s1.setNat Ent.SERVICE o 0
  let s3 := s2.each [Ent.EV_MAX_POWER, Ent.EV_MAX_CURRENT, Ent.EV_MAX_VOLTAGE, Ent.EV_TARGET_CURRENT, Ent.EV_MAX_DISCHARGE_POWER,
    Ent.EV_MAX_DISCHARGE_CURRENT] (fun z e => z.setNat e o 0)
  s3.setNat Ent.EV_SOC o 0xFF

/-- The session record (Table 7-8). -/
def State.sessionRecord (s : State) (o : Nat) : List Byte :=
  let k := s.sess o
  let kind := s.nat Ent.AUTH_KIND o
  let digest : List Byte := if kind == 0 then List.replicate 8 0#8 else (sha256 (s.bytes Ent.AUTH_IDENTITY o)).take 8
  let rx := k.received1 - k.received0
  leBytes 4 k.number ++ leBytes 1 o ++ leBytes 1 k.reason ++ leBytes 1 k.secondary ++
    leBytes 1 (pack [(0, 1, b2n (decide (0 < rx))), (1, 1, b2n (kind == 2)), (2, 1, b2n k.marked), (3, 1, b2n k.welded),
      (4, 1, b2n k.switchover), (5, 1, b2n (k.stepped || s.time.stepDay.isSome)), (6, 1, b2n k.offline)]) ++
    leBytes 8 k.startSfn ++ leBytes 8 k.closeSfn ++ leBytes 8 k.endSfn ++ leBytes 8 (k.delivered1 - k.delivered0) ++
    leBytes 8 rx ++ leBytes 2 k.account ++ leBytes 1 (s.nat Ent.CLASS o) ++ leBytes 1 kind ++ leBytes 4 0 ++ digest ++
    leBytes 8 k.openSfn

/-- Write the record to the session log of 8,192 (R192, R509). -/
def State.logSession (s : State) (o : Nat) : State :=
  let seq := nextSeq ((s.outlets.log.head?.map Prod.fst).getD 0)
  let r := s.sessionRecord o
  let l := ((seq, r) :: s.outlets.log).take 8192
  let s1 := ({ s with outlets := { s.outlets with log := l } }).streamLog 1 r
  (s1.setNat Ent.SESSION_LOG_NEWEST 0 seq).setNat Ent.SESSION_LOG_OLDEST 0 ((l.getLast?.map Prod.fst).getD 0)

/-- The record SESSION_LOG_SELECT names, shown in SESSION_LOG_RECORD; RANGE outside the log. -/
def applySessionLogSelect (seq : Nat) (s : State) : State × Nat :=
  match s.outlets.log.find? (fun x => x.1 == seq) with
  | some x => ((s.setNat Ent.SESSION_LOG_SELECT 0 seq).setBytes Ent.SESSION_LOG_RECORD 0 x.2, St.OK)
  | none => (s, St.RANGE)

/-- Resources of an outlet: its load and metering channels are all fitted, and none is one of another enabled outlet
(R163). -/
def resourcesOf (get : Entry → Nat → Nat) (o : Nat) : List Nat × List Nat :=
  ([get Ent.CONTACTOR_CHANNEL o, get Ent.LOCK_CHANNEL o],
   [get Ent.CONFIRM_MCH o, get Ent.VOLTAGE_MCH o, get Ent.CURRENT_MCH o, get Ent.IMD_MCH o])

def State.outletResourcesOk (s : State) (o : Nat) : Bool :=
  let r := resourcesOf (fun e n => s.nat e n) o
  r.1.all (fun c => c != 0xFF) && r.2.all (fun c => c != 0xFF) && decide r.1.Nodup && decide r.2.Nodup &&
    (List.range 8).all (fun p => p == o || !s.flag Ent.OUTLET_ENABLE p ||
      (let q := resourcesOf (fun e n => s.nat e n) p
       r.1.all (fun c => !q.1.contains c) && r.2.all (fun c => !q.2.contains c)))

/-- A write of OUTLET_ENABLE (R163). -/
def applyOutletEnable (o : Nat) (v : Int) (s : State) : State × Nat :=
  if v != 0 && !s.outletResourcesOk o then (s, St.CONFLICT)
  else ((s.setInt Ent.OUTLET_ENABLE o v).refreshOutlet o, St.OK)

/-- A write of STOP_REQUEST (R183); its range is 1 and 2. -/
def applyStopRequest (o : Nat) (v : Int) (s : State) : State × Nat :=
  if !s.sesLive o then (s, St.CONFLICT)
  else if (s.sess o).committed then (s, St.ALREADY_DONE)
  else (s.endSession o v.toNat false, St.OK)

/-- A write of OUTLET_RESET (R188, Table 7-9): FAULTED leaves when the coupler reads OPEN and no weld is reported. -/
def applyOutletReset (o : Nat) (s : State) : State × Nat :=
  if s.sesState o == Ses.FAULTED && s.band o == 0 && !(s.lcs (s.nat Ent.CONTACTOR_CHANNEL o)).weld then
    ((s.enter o Ses.IDLE).refreshOutlet o, St.OK)
  else (s, St.CONFLICT)

/-- A write of EIM_TOKEN: the token last reported, also that of the session in progress until it is decided (R171). -/
def applyEimToken (o : Nat) (t : List Byte) (s : State) : State × Nat :=
  let s1 := s.setSess o { s.sess o with token := t }
  (if s.sesLive o && s.nat Ent.AUTH_KIND o == 1 && !(s.sess o).decided then s1.setBytes Ent.AUTH_IDENTITY o t else s1, St.OK)

/-- The bytes of AUTH_RESPONSE (Table 7-4). -/
def decisionBytes (d : Decision) : List Byte :=
  leBytes 4 d.number ++ leBytes 1 d.result ++ leBytes 1 d.cls ++ leBytes 2 d.account

/-- The decision a record holds. -/
def decisionOf (b : List Byte) : Decision := ⟨leAt b 0 4, leAt b 4 1, leAt b 5 1, leAt b 6 2⟩

/-- A decision applied (R172); until SessionSetupReq SESSION_NUMBER is that of the outlet's last session, which has ended. Before the AuthorizationReq there is nothing to decide: CONFLICT. -/
def applyAuthResponse (o : Nat) (d : Decision) (s : State) : State × Nat :=
  let k := s.sess o
  let n := s.nat Ent.SESSION_NUMBER o
  if d.number < n then (s, St.ALREADY_DONE)
  else if n < d.number then (s, St.CONFLICT)
  else if !s.sesLive o || !k.setup || k.decided || k.committed then (s, St.ALREADY_DONE)
  else if d.result > 1 || (d.cls > 3 && d.cls != 0xFF) || (d.account > 255 && d.account != 0xFFFF) then (s, St.RANGE)
  else if s.sesState o != Ses.AUTHORISING then (s, St.CONFLICT)
  else if d.result == 1 then ((s.setSess o { k with decided := true }).endSession o End.AUTH_REFUSED false, St.OK)
  else (s.acceptAuth o (if d.cls == 0xFF then s.nat Ent.AUTH_DEFAULT_CLASS else d.cls) d.account false, St.OK)

/-- Outlets with a session, as a bit mask. -/
def State.sessionMask (s : State) : Nat := ofBits ((List.range 8).filter s.sesLive)

/-- End of an emergency stop (R186). The power die's own opening is not recalled by it (R185). -/
def State.clearEstop (s : State) : State :=
  let s1 := { s with outlets := { s.outlets with estopLatched := false, estopHighAt := none } }
  let s2 := (s1.setNat Ent.ESTOP_STATE 0 0).raise Evt.EMERGENCY_STOP 8 0 s.sessionMask
  (s2.each (List.range 40) (fun z c => if (z.lcs c).estop then (z.setLc c { z.lcs c with estop := false }).lcUpdate c else z)).each
    (List.range 8) (fun z o => z.refreshOutlet o)

/-- A write of ESTOP_RESET (R186). -/
def applyEstopReset (s : State) : State × Nat :=
  if s.outlets.estopLow then (s, St.CONFLICT)
  else if !s.outlets.estopLatched then (s, St.ALREADY_DONE)
  else (s.clearEstop, St.OK)

/-- Every session ends CONTROLLER_RESTART, of one that has ended it is a later source (R76, R183, R191): a closed contactor is
reproduced and then opened by way of STOPPING, and Terminate goes out on each vehicle connection still held. -/
def State.restartSessions (s : State) : State :=
  s.each ((List.range 8).filter s.sesLive) fun z o =>
    let y := (z.endSession o End.CONTROLLER_RESTART false).commitEnd o
    y.when (y.linked o) (fun x => x.toVehicle o Req.LOOP 0 0 [1])

/-- The T1S link of an outlet is lost, and its contexts with it: outlets 0–3 with link die half A, 4–7 with half B (R163). -/
def State.linkDown (s0 : State) (o : Nat) : State :=
  let s := s0.closeLink o
  if s.sesLive o && !(s.sess o).recorded then
    ((s.raise Evt.LINK_LOST o 0 (s.sess o).number).noteTrip o).endSession o End.LINK_LOST true
  else s

/-- Trips of Table 7-6 as they stand in a cycle: over-voltage, over-current. -/
def State.overVolts (s : State) (o : Nat) : Bool :=
  let vmax : Rat := ((s.nat Ent.EV_MAX_VOLTAGE o : Nat) : Rat) / 10 * 102 / 100
  decide ((if vmax < 1300 then vmax else 1300) < s.oVolts o)
def State.overAmps (s : State) (o : Nat) : Bool :=
  let ceil := s.sessionCeiling o
  decide ((if ceil < 3000 then ceil else 3000) * 105 / 100 + 10 < ratAbs (s.oAmps o))

/-- Insulation below ISO_FAULT × voltage (R177). -/
def State.isoBelow (s : State) (o : Nat) : Bool := decide (s.insulation o < isoLimit (s.nat Ent.ISO_FAULT) (s.oVolts o))

/-- Cycles in a row of what the outlet's line shows (R168, R177, R184, Table 7-6), with the T1S links of the tick. -/
def State.watchLine (s : State) (t1s o : Nat) : State :=
  if s.nat Ent.CONFIRM_MCH o == 0xFF then s
  else
    let k := s.line o
    let b := s.band o
    let shut := (s.sess o).closed
    let run (n : Nat) (c : Bool) : Nat := if c then n + 1 else 0
    s.setLine o { k with
      connected := run k.connected (b == 1), open_ := run k.open_ (b == 0), lost := run k.lost (b != 1)
      iso := run k.iso (shut && s.isoBelow o), overV := run k.overV (shut && s.overVolts o), overI := run k.overI (shut && s.overAmps o)
      lowI := run k.lowI (shut && decide (ratAbs (s.oAmps o) < 5)), down := run k.down (!bit t1s o) }

/-- The outlets' lines in a cycle. -/
def State.watchLines (s : State) (t1s : Nat) : State := s.each (List.range 8) (fun z o => z.watchLine t1s o)

/-- The cycles of 20 frames and of 10 frames. -/
def frames20 : Nat := 400
def frames10 : Nat := 200

/-- The IPv6 link-local address of a T1S port (R164): fe80::/64 with the interface identifier its MAC address gives (PRESUMED, log
entry 85). -/
def portAddress (o : Nat) : List Byte :=
  let mac := ((List.range 6).reverse.map (fun i => BitVec.ofNat 8 ((Config.portMac o).toNat / 256 ^ i)))
  let flip (b : Byte) : Byte := BitVec.ofNat 8 (setBit b.toNat 1 (!bit b.toNat 1))
  [0xFE#8, 0x80#8] ++ List.replicate 6 0#8 ++ (mac.take 1).map flip ++ (mac.drop 1).take 2 ++ [0xFF#8, 0xFE#8] ++ mac.drop 3

end Sys2Proof.Machine
end

