-- ==== Sys2Proof/Machine/AllocRows.lean ====
section
/-!
DEFINITION. The rows of the site power allocator (R111 to R131) and the set-points of the module bus (R145).
-/
namespace Sys2Proof.Machine
open Sys2Proof

/-- ALLOCATOR_RUN (R111 to R117): the run of cycle 1, with the time it took; a session that waits for a module is
served when one is free (R128). -/
def execAllocatorRun (us : Nat) (s : State) : Host.Outcome State Fault Refusal :=
  if !s.controlUp || s.cycle != 1 then ok s
  else
    let s1 := s.allocatorRun
    let s2 := s1.each (List.range 8) (fun z o => z.serveWaiting o)
    let s3 := s2.fitNat Ent.ALLOC_COMPUTE_LAST 0 us
    ok (s3.when (decide (us > s.nat Ent.ALLOC_COMPUTE_MAX)) (fun z => z.fitNat Ent.ALLOC_COMPUTE_MAX 0 us))

/-- What a run grants an outlet. -/
def State.runOutlet (s : State) (r : Run) (o : Nat) : Int := (s.modulesOf o).foldl (fun a m => a + Tab.get 0 r.modules m) 0

/-- The run with an outlet's grant lowered to `g`: modules that ramp down keep their steps as far as `g` carries them, the others share
what is left (R110). -/
def State.lowerOutlet (s : State) (r : Run) (o : Nat) (g : Int) : Run :=
  let way := (s.modulesOf o).filter (fun m => (s.wayGrant m).isSome)
  let held := way.foldl (fun a m => a + (Tab.get 0 r.modules m).natAbs) (0 : Nat)
  let cut : List (Nat × Int) :=
    if held ≤ g.natAbs then s.atFreeze.moduleShares o (if g < 0 then g + held else g - held)
    else ((s.modulesOf o).filter (fun m => !way.contains m)).map (fun m => (m, 0)) ++
      way.zip ((equalParts g.natAbs way.length).map (fun x => if g < 0 then -x else x))
  let smaller (m : Nat) (v : Int) : Int := if v.natAbs < (Tab.get 0 r.modules m).natAbs then v else Tab.get 0 r.modules m
  { r with modules := cut.foldl (fun t p => Tab.set t p.1 (smaller p.1 p.2)) r.modules }

/-- A reduction of R117 and its event. -/
def State.clamp (s : State) (inst : Nat) (cut : Int) (source : Nat) : State := s.raise Evt.LIMIT_CLAMP inst (word 32 cut) source

/-- A reduction of an outlet's grant; LIMITED_BY names the stage that cut it (R113): 5 SUPPLY for a string's shortfall, 2 CABLE, 4 MODULES
for a unit fault. -/
def State.clampOutlet (s : State) (o : Nat) (cut : Int) (source : Nat) : State :=
  (s.clamp o cut source).setNat Ent.LIMITED_BY o (if source == 0 then 5 else if source == 1 then 2 else 4)

/-- Cut an outlet's grant by a bus-side shortfall, as far as it goes; the state with the event, the run and what is left. -/
def State.cutOutlet (acc : State × Run × Int) (o : Nat) : State × Run × Int :=
  let (s, r, d) := acc
  let g := s.runOutlet r o
  if d ≤ 0 ∨ g ≤ 0 then acc
  else
    let b := s.busDraw g
    let g1 := s.busGrant (b - d)
    let r1 := { s.lowerOutlet r o g1 with short := r.short || decide (s.nat Ent.CLASS o ≤ 1), shortAny := true }
    (s.clampOutlet o (g - g1) 0, r1, d - (b - s.busDraw g1))

/-- Outlets in reverse class order, lowest weight first, then highest index (R117). -/
def State.cutOrder (s : State) : List Nat :=
  sortBy (fun a b =>
    decide (s.nat Ent.CLASS b < s.nat Ent.CLASS a) ||
    (s.nat Ent.CLASS a == s.nat Ent.CLASS b && (decide (s.nat Ent.WEIGHT a < s.nat Ent.WEIGHT b) ||
      (s.nat Ent.WEIGHT a == s.nat Ent.WEIGHT b && decide (b ≤ a))))) (List.range 8)

/-- One string's limits read again (R117): its grant is held inside them, a lost discharge adds to the shortfall. -/
def State.recheckString (acc : State × Run × Int) (n : Nat) : State × Run × Int :=
  let (s, r, d) := acc
  let g := Tab.get 0 r.strings n
  let dis : Int := s.int Ent.STRING_LIMIT_DIS n
  let chg : Int := s.int Ent.STRING_LIMIT_CHG n
  if dis < Tab.get 0 r.stringDis n ∧ dis < g then
    (s.clamp (8 + n) (g - dis) 0, { r with strings := Tab.set r.strings n dis }, d + (g - dis))
  else if chg < Tab.get 0 r.stringChg n ∧ g < -chg then
    (s.clamp (8 + n) (-chg - g) 0, { r with strings := Tab.set r.strings n (-chg) }, d)
  else acc

/-- One outlet's cable read again. -/
def State.recheckCable (acc : State × Run) (o : Nat) : State × Run :=
  let (s, r) := acc
  let limit := s.rat Ent.CABLE_CURRENT_LIMIT o
  let g := s.runOutlet r o
  let most : Int := max 0 (ratFloor (s.outletVolts o * limit))
  if limit < Tab.get 0 r.cables o ∧ most < g.natAbs then
    (s.clampOutlet o ((g.natAbs : Int) - most) 1, s.lowerOutlet r o (if g < 0 then -most else most))
  else acc

/-- A unit whose fault has arrived since cycle 1: its grant becomes 0. -/
def State.recheckUnit (acc : State × Run) (u : Nat) : State × Run :=
  let (s, r) := acc
  if u < 64 then
    let g := Tab.get 0 r.modules u
    let o := s.nat Ent.ASSIGNED_OUTLET u
    (if g != 0 && decide (o < 8) then s.clampOutlet o (g.natAbs : Int) 2 else s, { r with modules := Tab.set r.modules u 0 })
  else
    let f := u - 64
    let cut := Tab.get 0 r.imports f != 0 || Tab.get 0 r.exports f != 0
    (if cut then s.clamp (16 + f) (s.inForce (feImport f)) 2 else s, { r with imports := Tab.set r.imports f 0, exports := Tab.set r.exports f 0 })

/-- LIMIT_RECHECK (R117), in cycle 12. -/
def execLimitRecheck (s : State) : Host.Outcome State Fault Refusal :=
  match (if s.controlUp && s.cycle == 12 then s.alloc.run else none) with
  | none => ok s
  | some r =>
    let (s1, r1, d) := (List.range 8).foldl State.recheckString (s, r, 0)
    let (s2, r2, _) := s1.cutOrder.foldl State.cutOutlet (s1, r1, d)
    let a := (List.range 8).foldl State.recheckCable (s2, r2)
    let (s3, r3) := s.alloc.faulted.foldl State.recheckUnit a
    ok { s3 with alloc := { s3.alloc with run := some r3, faulted := [] } }

/-- GRANT_PUBLISH (R118 to R120, R131, R134): the release check, then publication of a run that finished; in the frame of
a switch-over nothing is published. -/
def execGrantPublish (s : State) : Host.Outcome State Fault Refusal :=
  if !s.controlUp || s.cycle != 13 then ok s
  else
    let s1 := s.releaseCheck
    let r := if s.die.switchFrame == some s.sfn || s.late 0x0200 then none else s1.alloc.run
    let s2 := match r with | some x => s1.publishRun x | none => s1
    ok (({ s2 with alloc := { s2.alloc with run := none } }).showAlloc r.isSome r)

/-- An entry of a SETPOINT block (Table 6-6). -/
def setpointEntry (value : Int) (kind node : Nat) : Nat := pack [(0, 25, word 25 value), (25, 2, kind), (27, 5, node)]

/-- A set-point to a front-end unit whose acknowledgement is overdue: its LAST_LAUNCH can name the launch frame from that frame on, so
the deadline of R121 is counted from there (log entry 84). -/
def State.feLate (s : State) (u : Nat) : Bool :=
  match (s.grants u).sent with
  | x :: _ => !x.acked && decide (x.launch + 1 ≤ s.frames)
  | [] => false

/-- What of a unit's grants goes out in this frame for launch two frames ahead (R145): number of the grant, unit, value and KIND. A grant
in force that is to be restated goes first as KIND 0, 2 or 3 (R161, R162); an export grant that is sent again takes the import
grant with it, whose launch frame LAST_LAUNCH names (log entry 84). -/
def State.dueSetpoints (s : State) (ch : Nat) : List (Nat × Nat × Int × Nat) :=
  let f := s.frames
  let due (u unit base kind : Nat) (late : Bool) : List (Nat × Nat × Int × Nat) :=
    let v := s.planned u (f + 2)
    let again := (s.grants u).restate
    (if again then [(u, unit, s.inForce u, base)] else []) ++
      (if v != s.planned u (f + 1) || (s.grants u).resend || late || (again && v != s.inForce u) then [(u, unit, v, kind)] else [])
  (List.range 80).flatMap fun u =>
    if !s.fitted u || s.unitChannel u != ch then []
    else if u < 64 then due u u 0 (b2n (s.grants u).move.isSome) false
    else due u u 2 2 (s.feLate u || s.feLate (u + 16)) ++ due (u + 16) u 3 3 (s.feLate (u + 16))

/-- Note a set-point as sent. -/
def State.noteSent (s : State) (u : Nat) (v : Int) (kind : Nat) : State :=
  let g := s.grants u
  s.setGrants u { g with sent := (⟨s.frames + 2, v, s.frames, false⟩ : Sent) :: g.sent, resend := false, restate := false, fast := kind == 1 }

/-- The set-point blocks of entries on a channel (R145): 15 entries each. -/
def State.blocks (s : State) (ch seq : Nat) (l : List (Nat × Nat × Int × Nat)) : Tab Msg :=
  let entries := l.map (fun x => setpointEntry x.2.2.1 x.2.2.2 (s.unitNode x.2.1))
  let n := cdiv l.length 15
  (List.range n).map fun i =>
    let part := (entries.drop (15 * i)).take 15
    let full := part ++ List.replicate (15 - part.length) 0xFFFFFFFF
    (i, ⟨.can, ch, .setpoint, [(canId 2 i 31 : Int)],
      leBytes 2 (low 16 (s.sfn + 2)) ++ leBytes 1 (i + 16 * n) ++ leBytes 1 seq ++ full.flatMap (leBytes 4)⟩)

/-- SETPOINT blocks of one channel, at most two. On a channel that is off the units receive nothing: what was due counts as sent without an
acknowledgement, and R121 follows (R140). -/
def State.sendBlocks (s : State) (ch : Nat) : State :=
  let l := (s.dueSetpoints ch).take 30
  if l.isEmpty then s
  else
    let k := s.can ch
    let bs := if s.canUp ch then s.blocks ch k.seq l else []
    let s1 := s.setCan ch { k with seq := if bs.isEmpty then k.seq else low 8 (k.seq + 1), blocks := bs, again := [] }
    (s1.each bs (fun z b => z.send b.2)).each l (fun z x => z.noteSent x.1 x.2.2.1 x.2.2.2)

/-- A module's commands in this frame (R121, R130): the SWITCH of a move that has reached its switch step; a lost
SWITCH again every 10 frames, 3 sends in all; a lost TARGET or CLEAR_FAULT with its SEQ unchanged. -/
def State.sendCommands (s : State) (m : Nat) : State :=
  let g := s.grants m
  let s1 := match g.move with
    | some k =>
      if k.step == 1 && !(g.cmds.any (fun c => c.sub == 1 && decide ((c.frame.getD 0) ≥ k.stepAt))) then
        s.switchModule m (if k.toOutlet < 8 then k.toOutlet else 0xFF)
      else s
    | none => s
  let again (c : Cmd) : Bool := !c.acked && (match c.frame with
    | some f => if c.sub == 1 then decide (f + 10 ≤ s.frames) && decide (c.sends < 3) else decide (f + 1 ≤ s.frames)
    | none => true)
  let g1 := s1.grants m
  let s2 := s1.setGrants m { g1 with cmds := g1.cmds.map (fun (c : Cmd) =>
    if again c then { c with frame := some s.frames, sends := c.sends + 1 } else c) }
  s2.each (g1.cmds.filter again) (fun z c => z.sendBus (z.commandMsg m c))

/-- SETPOINT_TRANSMIT (R142, R145, R121, R130): once a frame in cycles 14–18, the blocks first, then the commands and what else waits. -/
def execSetpointTransmit (s : State) : Host.Outcome State Fault Refusal :=
  if !s.controlUp || decide (s.cycle < 14) || decide (18 < s.cycle) || s.alloc.sentAt == some s.frames then ok s
  else
    let s1 := s.each (List.range 4) (fun z ch => z.sendBlocks ch)
    let s2 := { s1 with alloc := { s1.alloc with sentAt := some s1.frames } }
    ok (s2.each ((List.range 64).filter s.fitted) (fun z m => z.sendCommands m)).flushBus

/-- Make the grant planned for this frame the grant in force, and drop what has passed from the plan. -/
def State.launchUnit (s : State) (u : Nat) : State :=
  let g := s.grants u
  let due := g.plan.filter (fun p => decide (p.1 ≤ s.frames))
  match due.getLast? with
  | none => s
  | some (f, v) =>
    let rest := g.plan.filter (fun p => decide (s.frames < p.1))
    if u < 64 then (s.setGrants u { g with plan := rest }).setInt Ent.MODULE_GRANT u v
    else if u < 80 then (s.setGrants u { g with plan := rest }).setInt Ent.FE_GRANT (u - 64) v
    else if u < 96 then s.setGrants u { g with plan := (f, v) :: rest }
    else (s.setGrants u { g with plan := rest }).setInt Ent.STRING_GRANT 0 v (u - 96)

/-- GRANT and MODULES_ASSIGNED of an outlet. -/
def State.showOutletGrant (s : State) (o : Nat) : State :=
  let ms := s.modulesOf o
  (s.setInt Ent.GRANT o (ms.foldl (fun a m => a + s.int Ent.MODULE_GRANT m) 0)).setNat Ent.MODULES_ASSIGNED o (ofBits ms)

/-- GRANT_LAUNCH (R19, R118, R179): step 5 of the boundary, after step 4: what was published for this frame is in force, and the
sessions' targets follow. -/
def execGrantLaunch (s : State) : Host.Outcome State Fault Refusal :=
  if s.cycle != 0 || s.tx.step != 4 then ok s
  else
  let s1 := { s with tx := { s.tx with step := 5 } }.each (s.alloc.units.map Prod.fst) (fun z u => z.launchUnit u)
  let s2 := s1.each (List.range 8) (fun z o => z.showOutletGrant o)
  ok (if s2.controlUp then s2.each (List.range 8) (fun z o => z.updateTargets o) else s2)

/-- Messages to a module whose acknowledgement was due by cycle 12 of this frame (R121): parameter 1 of each event. -/
def State.unacked (s : State) (m : Nat) : List Nat :=
  let g := s.grants m
  let f := s.frames
  let sp := match g.sent with
    | x :: _ => if !x.acked && x.frame + 1 == f then [low 32 (s.sfn + x.launch - f)] else []
    | [] => []
  sp ++ (g.cmds.filter (fun c => !c.acked && (match c.frame with | some k => k + 1 == f | none => false))).map
    (fun c => setBit c.seq 31 true)

/-- MODULE_ACK_MISSING (R121), from cycle 12 on: each message counted and reported, a set-point to be sent again; after ACK_MISS_LIMIT such
frames the module is UNRESPONSIVE. -/
def execModuleAckMissing (m : Fin 64) (s : State) : Host.Outcome State Fault Refusal :=
  let l := s.unacked m
  if l.isEmpty || decide (s.cycle < 12) then ok s
  else
    let s1 := s.each l (fun z p => let y := z.bump Ent.ACK_MISS m; y.raise Evt.MODULE_ACK_MISSING m p (y.nat Ent.ACK_MISS m))
    let g := s1.grants m
    let lost := match g.sent with | x :: _ => !x.acked && x.frame + 1 == s.frames | [] => false
    let n := g.missFrames + 1
    let s2 := s1.setGrants m { g with missFrames := n, resend := g.resend || lost }
    if n ≥ s.nat Ent.ACK_MISS_LIMIT && s2.nat Ent.MODULE_STATE m != Mod.UNRESPONSIVE then
      ok ((s2.setNat Ent.MODULE_STATE m Mod.UNRESPONSIVE).raise Evt.MODULE_UNRESPONSIVE m (word 32 (s2.counted m))
        (s2.nat Ent.ASSIGNED_OUTLET m))
    else ok s2

/-- A write of MODULE_ENABLE (Table 5-7, R121): 0 ramps the module to 0 and then disables it. -/
def applyModuleEnable (m : Nat) (v : Int) (s : State) : State × Nat :=
  let s1 := s.setInt Ent.MODULE_ENABLE m v
  let st := s.nat Ent.MODULE_STATE m
  if v == 0 then
    if st == Mod.DISABLED then (s1, St.OK)
    else if st == Mod.UNRESPONSIVE then
      let g := s1.grants m
      ((s1.setGrants m { g with sent := [], cmds := [], resend := false, missFrames := 0, move := none, rise := none }).setNat
        Ent.MODULE_STATE m Mod.DISABLED, St.OK)
    else if s.inForce m == 0 && s.planned m (s.frames + 3) == 0 && (s.grants m).rise.isNone && (s.grants m).move.isNone &&
        s.nat Ent.ASSIGNED_OUTLET m ≥ 8 then
      let s2 := if st == Mod.TESTING then s1.abortUnitTest m else s1
      (s2.setNat Ent.MODULE_STATE m Mod.DISABLED, St.OK)
    else ((s1.startMove m .disable (s.nat Ent.ASSIGNED_OUTLET m) 0xFF 0).decreaseTo m 0, St.OK)
  else if st == Mod.DISABLED then
    let s2 := s1.setUnitSt m { s1.unitSt m with moveFailed := false }
    (s2.setNat Ent.MODULE_STATE m (s2.restState m), St.OK)
  else (s1, St.OK)

/-- MODULE_ENABLE. -/
def execModuleEnable (c : Client) (m : Nat) (v : Nat) (s : State) : Host.Outcome State Fault Refusal :=
  ok (s.clientCommand c Ent.MODULE_ENABLE m (.num v) (applyModuleEnable m v))

/-- The switch of a module under way has failed: 40 frames without SWITCHED, or 3 sends 10 frames apart unacknowledged. -/
def State.switchFailed (s : State) (m : Nat) : Bool :=
  let g := s.grants m
  match g.move with
  | some k =>
    k.step == 1 && (decide (s.frames ≥ k.stepAt + 40) || g.cmds.any (fun c => c.sub == 1 && !c.acked && decide (c.sends ≥ 3) &&
      decide (s.frames ≥ c.frame.getD 0 + 10)))
  | none => false

/-- MODULE_MOVE_FAILED (R128, R130): the module becomes UNAVAILABLE (log entry 31) and leaves the
session; another free module takes its place. The status reported with the event is not stated: a free one of Table 4-6. -/
def execModuleMoveFailed (m : Fin 64) (s : State) : Host.Outcome State Fault Refusal :=
  if !s.switchFailed m then ok s
  else
    let g := s.grants m
    let (f, s0) := s.takeFree
    let s1 := s0.raise Evt.MODULE_MOVE_FAILED m 1 (freeStatus f)
    let moved : Bool := match g.move with | some k => k.kind == .move | none => false
    let s2 := (s1.setGrants m { g with move := none, cmds := g.cmds.filter (fun c => c.sub != 1),
                                       movedAt := if moved then some s.frames else g.movedAt }).setUnitSt m
      { s1.unitSt m with moveFailed := true }
    let s3 := (s2.setNat Ent.MODULE_STATE m Mod.UNAVAILABLE).setNat Ent.ASSIGNED_OUTLET m 0xFF
    match g.move with
    | some k => if k.kind == .assign && decide (k.toOutlet < 8) then ok (s3.assignModules k.toOutlet 1) else ok s3
    | none => ok s3

/-- IMPORT_OVER_LIMIT (R126): 3 frames above 101 % of GRID_IMPORT_LIMIT; every front-end grant is lowered in proportion. -/
def execImportOverLimit (s : State) : Host.Outcome State Fault Refusal :=
  if s.alloc.importOver < 3 then ok s
  else
    let imp := (ratFloor s.gridImport).toNat
    let limit := s.nat Ent.GRID_IMPORT_LIMIT
    let s1 := s.raise Evt.IMPORT_OVER_LIMIT 0 (imp / 1000) (limit / 1000)
    let s2 := { s1 with alloc := { s1.alloc with importScale := some (limit, imp), importOver := 0 } }
    ok (s2.each (List.range 16) fun z f =>
      let g := (z.inForce (feImport f)).toNat
      if g == 0 || imp == 0 then z else z.decreaseTo (feImport f) ((g * limit / imp : Nat) : Int))

/-- FE_OVER_CAP (R126). -/
def execFeOverCap (f : Fin 16) (s : State) : Host.Outcome State Fault Refusal :=
  if Tab.get 0 s.alloc.feOver f < 3 || s.alloc.feOut.contains f.val then ok s
  else
    let s1 := s.raise Evt.FE_OVER_CAP f (word 32 (s.unitSt (64 + f)).power) (s.nat Ent.FE_CAP_CONFIRMED f)
    let s2 := { s1 with alloc := { s1.alloc with feOut := f.val :: s1.alloc.feOut } }
    ok (((s2.decreaseTo (feImport f) 0).decreaseTo (feExport f) 0).setNat Ent.FE_STATE f (s2.feState f))

/-- A write of FE_ENABLE (R126): 0 and then 1 returns a unit that was over its cap. -/
def applyFeEnable (f : Nat) (v : Int) (s : State) : State × Nat :=
  let s1 := s.setInt Ent.FE_ENABLE f v
  let a := s1.alloc
  if v == 0 then
    let s2 := { s1 with alloc := { a with feRearm := if a.feOut.contains f then f :: a.feRearm.filter (fun x => x != f) else a.feRearm } }
    (((s2.decreaseTo (feImport f) 0).decreaseTo (feExport f) 0).setNat Ent.FE_STATE f (s2.feState f), St.OK)
  else
    let s2 := if a.feRearm.contains f then
      { s1 with alloc := { a with feRearm := a.feRearm.filter (fun x => x != f), feOut := a.feOut.filter (fun x => x != f) } } else s1
    (s2.setNat Ent.FE_STATE f (s2.feState f), St.OK)

/-- FE_ENABLE. -/
def execFeEnable (c : Client) (f : Nat) (v : Nat) (s : State) : Host.Outcome State Fault Refusal :=
  ok (s.clientCommand c Ent.FE_ENABLE f (.num v) (applyFeEnable f v))

end Sys2Proof.Machine
end

