-- ==== Sys2Proof/Machine/Loops.lean ====
section
/-!
DEFINITION. The loop engine and the cable models (R193 to R210): bindings, loops, faults and presets, the two-node cable
model, its prediction, limit and trips; with the commands of the chapter.
-/
namespace Sys2Proof.Machine
open Sys2Proof

/-- Fields of a binding (Table 8-2). -/
def Bind.inst (b : Nat) : Nat := field b 0 16
def Bind.quantity (b : Nat) : Nat := field b 16 8
def Bind.kind (b : Nat) : Nat := field b 24 8

/-- A loop and a cable before any run. -/
def LoopSt.none : LoopSt :=
  ⟨List.replicate 8 0, List.replicate 8 0, 0, 0, false, false, false, false, false, false, false, 0, false, false⟩
def CableSt.none : CableSt := ⟨0, 0, 0, 0, false, false, Option.none, false, false, 0, 0, Option.none, Option.none⟩
def State.loop (s : State) (l : Nat) : LoopSt := Tab.get LoopSt.none s.loops l
def State.setLoop (s : State) (l : Nat) (k : LoopSt) : State := { s with loops := Tab.set s.loops l k }
def State.cable (s : State) (o : Nat) : CableSt := Tab.get CableSt.none s.cables o
def State.setCable (s : State) (o : Nat) (k : CableSt) : State := { s with cables := Tab.set s.cables o k }

/-- The sensor bindings of a cable in the order of Table 8-5: supply, return, ambient, flow, pin. -/
def cableSources : List Entry :=
  [Ent.SUPPLY_TEMP_SOURCE, Ent.RETURN_TEMP_SOURCE, Ent.AMBIENT_SOURCE, Ent.FLOW_SOURCE, Ent.PIN_TEMP_SOURCE]

/-- Greatest age in ticks of a remote point a loop reads (R199): REMOTE_MAX_AGE of the first outlet that names it (log entry 66), else
500 ms. A cable's sensor takes that of its own outlet. -/
def State.maxAge (s : State) (b : Nat) : Nat :=
  match (List.range 8).find? (fun o => cableSources.any (fun e => s.nat e o == b)) with
  | some o => msTicks (s.nat Ent.REMOTE_MAX_AGE o)
  | none => msTicks 500

/-- The value of a source (Table 8-3) as an F32 pattern, a remote point at most `age` ticks old; `none` where it is invalid (R199). -/
def State.source (s : State) (age b : Nat) : Option Nat :=
  let i := Bind.inst b
  let q := Bind.quantity b
  let v : Option Nat := match Bind.kind b with
    | 0 => some 0
    | 1 => if s.chanValid i then some (s.nat (if q == 1 then Ent.MCH_MIN else if q == 2 then Ent.MCH_MAX else Ent.MCH_VALUE) i) else none
    | 2 => if (s.loop i).fault then none else some (s.nat Ent.LOOP_OUTPUT i)
    | 3 => some (s.nat Ent.LOOP_SETPOINT i)
    | 4 => some (s.nat (match q with
        | 0 => Ent.T_COND | 1 => Ent.T_COOL | 2 => Ent.T_COND_PRED | 3 => Ent.CABLE_CURRENT_LIMIT | _ => Ent.COOLANT_FLOW) i)
    | 5 => s.groupQuantity i q
    | 6 => match Tab.find s.points (i * 256 + q) with
      | some r => if s.ticks ≤ r.sampled + age then some r.value else none
      | none => none
    | _ => none
  v.bind (fun x => if F32.special x then none else some x)

/-- An input of a loop. -/
def State.loopInput (s : State) (b : Nat) : Option Nat := s.source (s.maxAge b) b

/-- LOOP_STATUS (Table 8-1) and what is shown of a loop. -/
def State.showLoop (s : State) (l : Nat) : State :=
  let k := s.loop l
  (((s.setNat Ent.LOOP_STATUS l
    (pack [(0, 1, b2n (s.flag Ent.LOOP_ENABLE l)), (1, 1, b2n k.ran), (2, 1, b2n k.satHigh), (3, 1, b2n k.satLow), (4, 1, b2n k.slew),
      (5, 1, b2n k.invalid), (6, 1, b2n k.fault), (7, 1, b2n k.missed), (16, 16, k.satFrames)])).setNat Ent.LOOP_OUTPUT l k.out).setNat
    Ent.LOOP_INTEGRATOR l k.i)

/-- Beyond 10³⁰ or not finite (R200). -/
def tooLarge (b : Nat) : Bool := F32.special b || decide ((10 ^ 30 : Nat) < ratAbs (F32.toRat b))

/-- One biquad section (R196): x in, the section's output and new states. -/
def biquad (b0 b1 b2 a1 a2 x z1 z2 : Nat) : Nat × Nat × Nat :=
  let v := F32.add (F32.mul b0 x) z1
  (v, F32.add (F32.sub (F32.mul b1 x) (F32.mul a1 v)) z2, F32.sub (F32.mul b2 x) (F32.mul a2 v))

/-- The cascade: what comes out, the new states, and the first section whose state is not finite. -/
def State.cascade (s : State) (l : Nat) (k : LoopSt) (e : Nat) : Nat × List (Nat × Nat) × Option Nat :=
  (List.range (s.nat Ent.SECTION_COUNT l)).foldl (fun (acc : Nat × List (Nat × Nat) × Option Nat) j =>
    let c (q : Entry) : Nat := s.nat q l j
    let (v, n1, n2) := biquad (c Ent.LOOP_B0) (c Ent.LOOP_B1) (c Ent.LOOP_B2) (c Ent.LOOP_A1) (c Ent.LOOP_A2) acc.1
      (k.s1.getD j 0) (k.s2.getD j 0)
    (v, acc.2.1 ++ [(n1, n2)], if acc.2.2.isNone && (tooLarge n1 || tooLarge n2) then some j else acc.2.2)) (e, [], none)

/-- The period T of a loop in seconds. -/
def State.loopPeriod (s : State) (l : Nat) : Nat := F32.ofRat (((s.nat Ent.LOOP_DIVIDER l : Nat) : Rat) / 20000)

/-- What a run of a loop computes (R196) from e and f: u, uc, the new integrator, clamped high or low, slew limited. -/
def State.loopLaw (s : State) (l : Nat) (k : LoopSt) (x f : Nat) : Nat × Nat × Nat × Bool × Bool × Bool :=
  let c (e : Entry) : Nat := s.nat e l
  let t := s.loopPeriod l
  let ff := F32.mul (c Ent.LOOP_KFF) f
  let p := F32.mul (c Ent.LOOP_KP) x
  let lo := c Ent.LOOP_OUT_MIN
  let hi := c Ent.LOOP_OUT_MAX
  let i := if k.preset then F32.min hi (F32.max lo (F32.sub (F32.sub k.out p) ff)) else k.i
  let u := F32.add (F32.add p i) ff
  let u1 := F32.min hi (F32.max lo u)
  let d := F32.mul (c Ent.SLEW_MAX) t
  let u2 := if 0 < F32.toRat (c Ent.SLEW_MAX) then F32.min (F32.add k.out d) (F32.max (F32.sub k.out d) u1) else u1
  let step := F32.mul (F32.mul (c Ent.LOOP_KI) t) x
  let (uq, xq, cq) := (F32.toRat u, F32.toRat x, F32.toRat u2)
  let hold := (decide (cq < uq) && decide (0 < xq)) || (decide (uq < cq) && decide (xq < 0))
  let i1 := if c Ent.AW_MODE == 0 then (if hold then i else F32.add i step)
    else F32.add (F32.add i step) (F32.mul (F32.mul (c Ent.KAW) t) (F32.sub u2 u))
  (u, u2, i1, decide (F32.toRat hi < uq), decide (uq < F32.toRat lo), decide (F32.toRat u2 ≠ F32.toRat u1))

/-- A loop latches LOOP_FAULT and keeps its last output (R200). -/
def State.faultLoop (s : State) (l : Nat) (k : LoopSt) (sec : Nat) : State :=
  (s.setLoop l { k with fault := true, ran := true }).raise Evt.LOOP_FAULT l sec s.cycle

/-- The output goes to its target (Table 8-4). -/
def State.driveTarget (s : State) (l out : Nat) : State :=
  let b := s.nat Ent.OUT_TARGET l
  if Bind.kind b == 1 then s.lcDuty (Bind.inst b) (F32.toRat out) else s

/-- One loop that is due (R196, R199, R200). -/
def State.runLoop (s : State) (l : Nat) : State :=
  let k := s.loop l
  if k.fault then s.setLoop l { k with ran := false, missed := false }
  else
    let ins := [s.nat Ent.REF_SOURCE l, s.nat Ent.FB_SOURCE l, s.nat Ent.FF_SOURCE l]
    match ins.find? (fun b => (s.loopInput b).isNone) with
    | some b =>
      let s1 := s.setLoop l { k with invalid := true, ran := false, missed := false }
      if k.invalid then s1 else s1.raise Evt.LOOP_INPUT_INVALID l b 0
    | none =>
      let at_ (i : Nat) : Nat := (s.loopInput (ins.getD i 0)).getD 0
      let e := F32.sub (at_ 0) (at_ 1)
      let (x, states, bad) := s.cascade l k e
      let (u, uc, i1, hi, lo, slew) := s.loopLaw l k x (at_ 2)
      let k1 := { k with invalid := false, missed := false }
      let s1 := s.setNat Ent.LOOP_ERROR l e
      match bad with
      | some sec => s1.faultLoop l k1 sec
      | none =>
        if tooLarge i1 || tooLarge u then s1.faultLoop l k1 8
        else
          let z1 := states.map Prod.fst ++ k.s1.drop states.length
          let z2 := states.map Prod.snd ++ k.s2.drop states.length
          ((s1.setLoop l { k1 with s1 := z1, s2 := z2, i := i1, out := uc, ran := true, satHigh := hi, satLow := lo, slew := slew
                                   preset := false }).setNat Ent.LOOP_OUTPUT l uc).driveTarget l uc

/-- A loop is due in this cycle (R197). -/
def State.loopDue (s : State) (l : Nat) : Bool :=
  s.flag Ent.LOOP_ENABLE l && s.cycle % max 1 (s.nat Ent.LOOP_DIVIDER l) == s.nat Ent.LOOP_PHASE l

/-- Duty commanded on the pump channel of a cable, between 0 and 1, before it is quantised. -/
def State.pumpDuty (s : State) (o : Nat) : Rat :=
  let c := s.nat Ent.PUMP_CHANNEL o
  let k := s.lcs c
  if c ≥ 40 then 0
  else if s.nat Ent.LC_MODE c == 2 then k.asked else if k.cmd then 1 else 0

/-- A sensor of a cable: set, and its value where it is valid and within the range of R204. -/
def State.cableSensor (s : State) (o n : Nat) : Bool × Option Nat :=
  let b := s.nat (cableSources.getD n Ent.SUPPLY_TEMP_SOURCE) o
  let (lo, hi) : Rat × Rat := if n == 3 then (0, 1000) else (-40, 150)
  (Bind.kind b != 0, (s.source (msTicks (s.nat Ent.REMOTE_MAX_AGE o)) b).bind (fun v => if lo ≤ F32.toRat v ∧ F32.toRat v ≤ hi then some v else none))

/-- CABLE_SENSOR_FAULT (R204): the mask of faulty sensors, each new one reported once. -/
def State.cableFaults (s : State) (o : Nat) : State :=
  let bad := (List.range 5).filter (fun n => (s.cableSensor o n).1 && (s.cableSensor o n).2.isNone)
  let k := s.cable o
  let s1 := s.each (bad.filter (fun n => !bit k.faults n)) fun z n =>
    z.raise Evt.CABLE_SENSOR_FAULT o n (z.nat (cableSources.getD n Ent.SUPPLY_TEMP_SOURCE) o)
  s1.setCable o { k with faults := ofBits bad }

/-- COOLANT_FLOW (R204, R205): measured where FLOW_SOURCE is set and valid, else from the pump's duty; 0 under FLOW_LOW. -/
def State.coolantFlow (s : State) (o : Nat) : Nat :=
  let (set, v) := s.cableSensor o 3
  if (s.cable o).flowLow then 0
  else match set, v with
    | true, some x => x
    | _, _ => F32.mul (s.nat Ent.FLOW_PER_DUTY o) (F32.ofRat (s.pumpDuty o))

/-- A temperature as events report it, in 0.1 °C. -/
def deci (b : Nat) : Nat := word 32 (ratRound (F32.toRat b * 10))

/-- T_supply, T_return (where measured), T_ambient and the pin (where measured), as the model takes them in a cycle. -/
def State.cableTemps (s : State) (o : Nat) : Nat × Option Nat × Nat × Option Nat :=
  let get (n : Nat) : Option Nat := let (set, v) := s.cableSensor o n; if set then v else none
  let k := s.cable o
  let supply := if (s.cableSensor o 0).1 then (get 0).getD k.supply else 0
  (supply, get 1, if (s.cableSensor o 2).1 then (get 2).getD supply else 0, get 4)

/-- R206: a model without history. -/
def State.initCable (s : State) (o : Nat) : State :=
  let (supply, ret, _, pin) := s.cableTemps o
  let cool := ret.getD supply
  let cond := F32.add (match pin with | some p => F32.max cool p | none => cool) (s.nat Ent.SENSOR_MARGIN o)
  let s1 := (s.setNat Ent.T_COOL o cool).setNat Ent.T_COND o cond
  (s1.setCable o { s1.cable o with started := true }).raise Evt.CABLE_MODEL_INIT o (deci cond) (deci cool)

/-- 50 µs. -/
def tsF32 : Nat := F32.ofRat (1 / 20000)

/-- Loss P of the conductor (R203). -/
def State.cableLoss (s : State) (o amps cond : Nat) : Nat :=
  let r := F32.mul (s.nat Ent.CABLE_R20 o) (F32.add (F32.ofRat 1) (F32.mul (s.nat Ent.CABLE_ALPHA o) (F32.sub cond (F32.ofRat 20))))
  F32.mul (F32.mul amps amps) r

/-- One step of the two nodes (R203): the new T_COND and T_COOL. -/
def State.cableNodes (s : State) (o p cond cool flow supply : Nat) (ret : Option Nat) (amb : Nat) : Nat × Nat :=
  let c (e : Entry) : Nat := s.nat e o
  let qcw := F32.div (F32.sub cond cool) (c Ent.CABLE_R_CW)
  let g := F32.div (F32.mul flow (c Ent.COOLANT_HEAT_CAP)) (F32.ofRat 60)
  let qflow := F32.mul g (F32.sub cool supply)
  let qamb := F32.div (F32.sub cool amb) (c Ent.CABLE_R_WA)
  let cond1 := F32.add cond (F32.div (F32.mul tsF32 (F32.sub p qcw)) (c Ent.CABLE_C_COND))
  let cool1 := F32.add cool (F32.div (F32.mul tsF32 (F32.sub (F32.sub qcw qflow) qamb)) (c Ent.CABLE_C_COOL))
  match ret with
  | some t => (cond1, F32.add cool1 (F32.mul (F32.mul tsF32 (c Ent.OBS_GAIN)) (F32.sub t cool1)))
  | none => (cond1, cool1)

/-- T_LIM_EFF (R204, Table 8-5): lowered once by SENSOR_MARGIN for a supply, return or pin fault. -/
def State.limitTemp (s : State) (o : Nat) : Nat :=
  let f := (s.cable o).faults
  if bit f 0 || bit f 1 || bit f 4 then F32.sub (s.nat Ent.CABLE_T_LIMIT o) (s.nat Ent.SENSOR_MARGIN o) else s.nat Ent.CABLE_T_LIMIT o

/-- k of R207. -/
def State.horizonK (s : State) (o : Nat) : Nat :=
  let tau := F32.toRat (F32.mul (s.nat Ent.CABLE_C_COND o) (s.nat Ent.CABLE_R_CW o))
  if tau ≤ 0 then 0 else F32.ofRat (expNeg (((s.nat Ent.CABLE_HORIZON o : Nat) : Rat) / tau))

/-- I_raw of R207 in 0.1 A from D / (R_lim × R_CW), bounded to 3,000 A. -/
def rawTenths (q : Nat) : Nat :=
  let v := F32.toRat q
  if F32.special q ∨ 9000000 ≤ v then 30000 else isqrt (ratFloor (v * 100)).toNat

/-- Prediction and I_raw (R207): T_COND_PRED and I_raw in 0.1 A. Where 1 − k is 0 the spec states no D: a free value. -/
def State.predict (s : State) (o p cond cool : Nat) : Nat × Nat × State :=
  let k := s.horizonK o
  let tlim := s.limitTemp o
  let tss := F32.add cool (F32.mul p (s.nat Ent.CABLE_R_CW o))
  let pred := F32.add tss (F32.mul (F32.sub cond tss) k)
  let rlim := F32.mul (s.nat Ent.CABLE_R20 o)
    (F32.add (F32.ofRat 1) (F32.mul (s.nat Ent.CABLE_ALPHA o) (F32.sub tlim (F32.ofRat 20))))
  let den := F32.sub (F32.ofRat 1) k
  if F32.toRat den ≤ 0 then
    let (f, s1) := s.takeFree
    (pred, f % 30001, s1)
  else
    let d := F32.div (F32.sub (F32.sub tlim cool) (F32.mul (F32.sub cond cool) k)) den
    let raw := if F32.toRat d ≤ 0 then 0 else rawTenths (F32.div d (F32.mul rlim (s.nat Ent.CABLE_R_CW o)))
    (pred, raw, s)

/-- CABLE_DERATE (R208): below 3,000 A, at each further fall of 300 A from the last report, and at the return. -/
def State.derate (s : State) (o : Nat) : State :=
  let lim := s.rat Ent.CABLE_CURRENT_LIMIT o
  let t := (ratRound (lim * 10)).toNat
  let k := s.cable o
  let pred := deci (s.nat Ent.T_COND_PRED o)
  match k.reported with
  | none => if lim < 3000 then (s.setCable o { k with reported := some t }).raise Evt.CABLE_DERATE o t pred else s
  | some r =>
    if 3000 ≤ lim then (s.setCable o { k with reported := none }).raise Evt.CABLE_DERATE o 30000 pred
    else if t + 3000 ≤ r then (s.setCable o { k with reported := some t }).raise Evt.CABLE_DERATE o t pred
    else s

/-- CABLE_STATUS (Table 8-10). -/
def State.showCable (s : State) (o : Nat) : State :=
  let k := s.cable o
  s.setNat Ent.CABLE_STATUS o
    (pack [(0, 1, b2n (decide (s.rat Ent.CABLE_CURRENT_LIMIT o < 3000))), (1, 1, b2n k.overTemp), (2, 1, b2n k.flowLow), (3, 5, k.faults),
      (8, 1, b2n k.missed), (9, 1, b2n k.started)])

/-- OVER_TEMP clears 10 K below the trip levels (R209). -/
def State.overTempNow (s : State) (o : Nat) (cond : Nat) (pin : Option Nat) : Bool :=
  let coolPin := match pin with
    | some p => decide (F32.toRat p ≤ s.rat Ent.PIN_TRIP_TEMP o - 10)
    | none => true
  (s.cable o).overTemp && !(decide (F32.toRat cond ≤ s.rat Ent.CABLE_TRIP_TEMP o - 10) && coolPin)

/-- The limit of this cycle (R207, R209): down at once, up at CABLE_LIMIT_RISE from what it was (0.0 before the first run), 0 under
OVER_TEMP. -/
def State.newLimit (s : State) (o raw : Nat) (hot : Bool) : Nat :=
  let r := F32.ofRat ((raw : Rat) / 10)
  let old := s.nat Ent.CABLE_CURRENT_LIMIT o
  if hot then 0
  else if F32.lt r old then r
  else F32.min r (F32.add old (F32.mul (F32.ofRat ((s.nat Ent.CABLE_LIMIT_RISE o : Nat) : Rat)) tsF32))

/-- A temperature that has left the format has no value the spec states: a free one that is finite. -/
def State.finite (s : State) (b : Nat) : Nat × State :=
  if F32.special b then let (f, s1) := s.takeFree; (f % 0x7F800000, s1) else (b, s)

/-- What lasts in a cable at the end of a cycle: conductor and pin above their trip levels (R209), the pump's duty and the measured flow
high enough (R205). -/
def State.cableSpans (s : State) (o cond : Nat) (pin : Option Nat) : State :=
  let k := s.cable o
  let above (t : Nat) (e : Entry) : Bool := decide (s.rat e o < F32.toRat t)
  let flow := (s.cableSensor o 3).1 && (match (s.cableSensor o 3).2 with | some f => decide (s.rat Ent.FLOW_MIN o ≤ F32.toRat f) | none => false)
  let pinHot := match pin with | some p => above p Ent.PIN_TRIP_TEMP | none => false
  s.setCable o
    { k with condRun := if above cond Ent.CABLE_TRIP_TEMP then k.condRun + 1 else 0
             pinRun := if pinHot then k.pinRun + 1 else 0
             pumpAt := if 1 / 5 ≤ s.pumpDuty o then some (k.pumpAt.getD s.ticks) else none
             flowAt := if flow then some (k.flowAt.getD s.ticks) else none }

/-- The cable model of one outlet in a cycle (R203 to R209). -/
def State.runCable (s : State) (o : Nat) : State :=
  let s0 := s.cableFaults o
  let s1 := if (s0.cable o).started then s0 else s0.initCable o
  let (supply, ret, amb, pin) := s1.cableTemps o
  let ch := s1.nat Ent.CURRENT_MCH o
  let amps := if s1.chanValid ch then s1.nat Ent.MCH_VALUE ch else (s1.cable o).amps
  let flow := s1.coolantFlow o
  let p := s1.cableLoss o amps (s1.nat Ent.T_COND o)
  let (c0, w0) := s1.cableNodes o p (s1.nat Ent.T_COND o) (s1.nat Ent.T_COOL o) flow supply ret amb
  let (cond, s2) := s1.finite c0
  let (cool, s3) := s2.finite w0
  let (pr, raw, s4) := s3.predict o p cond cool
  let (pred, s5) := s4.finite pr
  let hot := s5.overTempNow o cond pin
  let lim := s5.newLimit o raw hot
  let s6 := s5.setCable o { s5.cable o with amps := amps, supply := supply, ambient := amb, overTemp := hot, missed := false }
  let s7 := (((s6.setNat Ent.T_COND o cond).setNat Ent.T_COOL o cool).setNat Ent.T_COND_PRED o pred).setNat Ent.CABLE_CURRENT_LIMIT o lim
  let s8 := s7.setNat Ent.T_COND_PEAK o (F32.max cond (s7.nat Ent.T_COND_PEAK o))
  let (fl, s9) := s8.finite flow
  let s10 := (((s9.setNat Ent.COOLANT_FLOW o fl).cableSpans o cond pin).derate o).showCable o
  if F32.toRat lim < s.rat Ent.CABLE_CURRENT_LIMIT o then s10.updateTargets o else s10

/-- The model of an outlet runs (R203). -/
def State.cableRuns (s : State) (o : Nat) : Bool := s.flag Ent.OUTLET_ENABLE o || s.sesLive o

/-- The task that had not finished at 28.0 µs (R195): the first cable model not run, or the first loop; with the period of its task in
cycles. -/
def State.engineMissed (s : State) (stop : Option Nat) : Option (Nat × Nat) :=
  match stop with
  | none => none
  | some k =>
    match ((List.range 8).filter s.cableRuns).find? (fun o => decide (k ≤ o)), ((List.range 64).filter s.loopDue).find? (fun l => decide (k ≤ 8 + l)) with
    | some o, _ => some (0x06F0 + o, 1)
    | none, some l => some (0x0700 + l, max 1 (s.nat Ent.LOOP_DIVIDER l))
    | none, none => none

/-- The engine's window of a cycle (R193 to R195): cable models in outlet order, then the loops due in ascending index, up
to where it stopped; what was not run keeps its state and shows DEADLINE_MISSED. Positions 0–7 are cables, 8 + l loops. -/
def State.runEngine (s : State) (ns : Nat) (stop : Option Nat) : State :=
  let past (i : Nat) : Bool := match stop with | some k => decide (k ≤ i) | none => false
  let s1 := s.each ((List.range 8).filter s.cableRuns) fun z o =>
    if past o then (z.setCable o { z.cable o with missed := true }).showCable o else z.runCable o
  let ls := (List.range 64).filter (fun l => s.flag Ent.LOOP_ENABLE l)
  let s2 := s1.each ls fun z l =>
    if !z.loopDue l then z.setLoop l { z.loop l with ran := false, missed := false }
    else if past (8 + l) then z.setLoop l { z.loop l with ran := false, missed := true }
    else z.runLoop l
  let s3 := s2.each ls (fun z l => z.showLoop l)
  let s4 := s3.fitNat Ent.ENGINE_TIME_LAST 0 ns
  s4.when (decide (ns > s.nat Ent.ENGINE_TIME_MAX)) (fun z => z.fitNat Ent.ENGINE_TIME_MAX 0 ns)

/-- SAT_FRAMES, once a frame (Table 8-1). -/
def State.countSaturation (s : State) : State :=
  s.each ((List.range 64).filter (fun l => s.flag Ent.LOOP_ENABLE l)) fun z l =>
    let k := z.loop l
    let sat := k.satHigh || k.satLow
    (z.setLoop l { k with satFrames := if sat then min 65535 (k.satFrames + 1) else 0, told := sat && k.told }).showLoop l

/-- Coefficients R201 names, of a loop in a set. -/
def loopCoefficients (get : Entry → Nat → Nat → Nat) (l : Nat) : List Nat :=
  [Ent.LOOP_KP, Ent.LOOP_KI, Ent.LOOP_KFF, Ent.SECTION_COUNT].map (fun e => get e l 0) ++
    [Ent.LOOP_B0, Ent.LOOP_B1, Ent.LOOP_B2, Ent.LOOP_A1, Ent.LOOP_A2].flatMap (fun e => (List.range 8).map (get e l))

/-- What a swap does to a loop (R201): `old` is the state before it. COEFF_CRC's layout is not stated: a free value. -/
def State.swapLoop (s old : State) (l : Nat) : State :=
  let on := s.flag Ent.LOOP_ENABLE l
  let was := old.flag Ent.LOOP_ENABLE l
  let k := s.loop l
  let zero := List.replicate 8 0
  if on && !was then
    let lo := s.rat Ent.LOOP_OUT_MIN l
    let i := if lo ≤ 0 ∧ 0 ≤ s.rat Ent.LOOP_OUT_MAX l then 0 else s.nat Ent.LOOP_OUT_MIN l
    (s.setLoop l { LoopSt.none with i := i, out := k.out, fault := k.fault }).showLoop l
  else if !on && was then
    (s.setLoop l { k with ran := false, satHigh := false, satLow := false, slew := false, invalid := false, satFrames := 0 }).showLoop l
  else if on && loopCoefficients (fun e n j => s.nat e n j) l != loopCoefficients (fun e n j => old.nat e n j) l &&
      s.nat Ent.SWAP_INIT l == 1 then
    s.setLoop l { k with s1 := zero, s2 := zero, preset := true }
  else s

/-- The enabled loop that targets a load channel (Table 8-4). -/
def State.dutyLoop (s : State) (c : Nat) : Option Nat :=
  (List.range 64).find? (fun l => s.flag Ent.LOOP_ENABLE l && Bind.kind (s.nat Ent.OUT_TARGET l) == 1 && Bind.inst (s.nat Ent.OUT_TARGET l) == c)

/-- A load channel at a swap that changes the loop that targets it: the loop's output as it stands, or LC_DUTY where none targets it
(R201, R375). -/
def State.retarget (s old : State) (c : Nat) : State :=
  if s.dutyLoop c == old.dutyLoop c then s
  else match s.dutyLoop c with
    | some l => s.lcDuty c (s.rat Ent.LOOP_OUTPUT l)
    | none => s.lcDuty c (s.rat Ent.LC_DUTY c)

/-- Every loop at a swap, with the engine's counts. -/
def State.swapLoops (s old : State) : State :=
  let s1 := (s.each (List.range 64) (fun z l => z.swapLoop old l)).each (List.range 40) (fun z c => z.retarget old c)
  let ls := (List.range 64).filter (fun l => s1.flag Ent.LOOP_ENABLE l)
  let (f, s2) := s1.takeFree
  ((s2.setNat Ent.LOOPS_ENABLED 0 ls.length).setNat Ent.SECTIONS_ENABLED 0
    (ls.foldl (fun a l => a + s1.nat Ent.SECTION_COUNT l) 0)).setNat Ent.COEFF_CRC 0 (low 32 f)

/-- LOOP_SATURATED (R198): SAT_FRAMES has reached 1,000. -/
def execLoopSaturated (l : Fin 64) (s : State) : Host.Outcome State Fault Refusal :=
  let k := s.loop l
  if decide (k.satFrames ≥ 1000) && !k.told then
    ok ((s.setLoop l { k with told := true }).raise Evt.LOOP_SATURATED l k.out (b2n k.satHigh))
  else ok s

/-- A write of 1 to LOOP_RESET (R200): zero sections, the integrator at the held output less KFF × f. -/
def applyLoopReset (l : Nat) (s : State) : State × Nat :=
  let k := s.loop l
  if !k.fault then (s, St.ALREADY_DONE)
  else
    let f := (s.loopInput (s.nat Ent.FF_SOURCE l)).getD 0
    let i := F32.sub k.out (F32.mul (s.nat Ent.LOOP_KFF l) f)
    let (i1, s1) := s.finite i
    ((s1.setLoop l { k with fault := false, s1 := List.replicate 8 0, s2 := List.replicate 8 0, i := i1, preset := false }).showLoop l, St.OK)

/-- LOOP_RESET. -/
def execLoopReset (c : Client) (l : Nat) (v : Nat) (s : State) : Host.Outcome State Fault Refusal :=
  ok (s.clientCommand c Ent.LOOP_RESET l (.num v) (applyLoopReset l))

/-- CABLE_OVER_TEMP (R209): the conductor has been above its trip level for 20 frames, or the pin for 10. -/
def execCableOverTemp (o : Fin 8) (pin : Bool) (s : State) : Host.Outcome State Fault Refusal :=
  let k := s.cable o
  let (_, _, _, pv) := s.cableTemps o
  let t := if pin then pv.getD 0 else s.nat Ent.T_COND o
  let limit := if pin then s.rat Ent.PIN_TRIP_TEMP o else s.rat Ent.CABLE_TRIP_TEMP o
  if k.overTemp || !s.cableRuns o || (pin && pv.isNone) || decide (F32.toRat t ≤ limit) || decide ((if pin then k.pinRun else k.condRun) < (if pin then msTicks 10 else msTicks 20)) then ok s
  else
    let s1 := ((s.setCable o { k with overTemp := true }).setNat Ent.CABLE_CURRENT_LIMIT o 0).raise Evt.CABLE_OVER_TEMP o (deci t) (b2n pin)
    ok ((s1.showCable o).endSession o End.CABLE_OVER_TEMPERATURE false)

/-- Flow as FLOW_SOURCE measures it. -/
def State.measuredFlow (s : State) (o : Nat) : Option Rat :=
  let (set, v) := s.cableSensor o 3
  if set then v.map F32.toRat else none

/-- A condition has lasted 5 s. -/
def State.lasts5 (s : State) (since : Option Nat) : Bool := match since with | some t => decide (t + secTicks 5 ≤ s.ticks) | none => false

/-- COOLANT_FLOW_LOW (R205): the pump has been at a duty of 0.2 or more for 5 s and the measured flow is below FLOW_MIN. -/
def execCoolantFlowLow (o : Fin 8) (s : State) : Host.Outcome State Fault Refusal :=
  match s.measuredFlow o with
  | some f =>
    if !(s.cable o).flowLow && s.lasts5 (s.cable o).pumpAt && decide (1 / 5 ≤ s.pumpDuty o) && decide (f < s.rat Ent.FLOW_MIN o) then
      let s1 := (s.setCable o { s.cable o with flowLow := true }).raise Evt.COOLANT_FLOW_LOW o (tenths f)
        (ratRound (s.pumpDuty o * 1000)).toNat
      ok (s1.showCable o)
    else ok s
  | none => ok s

/-- COOLANT_FLOW_RESTORED (R205): the flow has been at or above FLOW_MIN for 5 s. -/
def execCoolantFlowRestored (o : Fin 8) (s : State) : Host.Outcome State Fault Refusal :=
  match s.measuredFlow o with
  | some f =>
    if (s.cable o).flowLow && s.lasts5 (s.cable o).flowAt && decide (s.rat Ent.FLOW_MIN o ≤ f) then
      ok ((s.setCable o { s.cable o with flowLow := false }).showCable o)
    else ok s
  | none => ok s

end Sys2Proof.Machine
end

