-- ==== Sys2Proof/Machine/Cells.lean ====
section
/-!
DEFINITION. Monitors and cells as the string master, the radio and the estimator share them (R236, R242, R302): what is
held of each, which belong to a string, readings in volts, and the queue of commands.
-/
namespace Sys2Proof.Machine
open Sys2Proof

/-- MONITOR_STATE (Table 10-15), ROPE_STATE (R251), cell codes (Table 10-16). -/
def Mon.NOT_FITTED : Nat := 0
def Mon.UNENROLLED : Nat := 1
def Mon.OK : Nat := 2
def Mon.MISSING : Nat := 3
def Mon.LOSING : Nat := 4
def Mon.LOST : Nat := 5
def Mon.SLEEPING : Nat := 6
def Rope.OFF : Nat := 0
def Rope.ENUMERATING : Nat := 1
def Rope.CLOSED : Nat := 2
def Rope.OPEN : Nat := 3
def Rope.FAILED : Nat := 4
def Cell.VALID : Nat := 0
def Cell.MISSING : Nat := 1
def Cell.UNKNOWN : Nat := 2
def Cell.NOT_FITTED : Nat := 3

def MonSt.none : MonSt :=
  ⟨.none, 0, .none, .none, false, 0, true, false, [], [], [], .none, .none, .none, .none, 0, false, 0⟩
def Span.none : Span := ⟨0, 0, 0, 0, true⟩
def RopeSt.none : RopeSt := ⟨false, 0, 0, 0, 0, 0, .none, false, Span.none, Span.none, .none, 5, 0⟩
def CellSt.none : CellSt :=
  ⟨0, 0, 0, 0, [], [], 0, false, false, 0, 0, 0, 0, false, .none, 0, false, 0, false, false, .none, 0⟩

def State.mon (s : State) (k : Nat) : MonSt := Tab.get MonSt.none s.mons k
def State.setMon (s : State) (k : Nat) (m : MonSt) : State := { s with mons := Tab.set s.mons k m }
def State.rope (s : State) (n : Nat) : RopeSt := Tab.get RopeSt.none s.ropes n
def State.setRope (s : State) (n : Nat) (r : RopeSt) : State := { s with ropes := Tab.set s.ropes n r }
def State.cell (s : State) (k j : Nat) : CellSt := Tab.get CellSt.none s.cellSts (k * 16 + j)
def State.setCell (s : State) (k j : Nat) (c : CellSt) : State := { s with cellSts := Tab.set s.cellSts (k * 16 + j) c }
def State.setRadio (s : State) (r : RadioSt) : State := { s with radio := r }

/-- ROPE_RET carries the carrier: a rising edge within 250 µs (R251). -/
def State.ropeSeen (s : State) (n : Nat) : Bool := decide ((s.rope n).gap < 5)

/-- The power die watches the rope returns in every cycle (R251). -/
def State.watchRopes (s : State) (edges : Nat) : State :=
  s.each (List.range 8) fun z n =>
    let r := z.rope n
    let gap := if bit edges n then 0 else min 5 (r.gap + 1)
    z.setRope n { r with gap := gap, run := if gap < 5 then r.run + 1 else 0 }

/-- The carrier on ROPE_OUT starts or stops: a square wave of 100 + 4s µs (Table 10-11). -/
def carrierMsg (n : Nat) (on : Bool) : Msg := ⟨.rope, n, .carrier, [b2n on, 100 + 4 * (n : Int)], []⟩

/-- The indices a string owns (R236). -/
def State.monitorsOf (s : State) (n : Nat) : List Nat :=
  ((List.range (s.nat Ent.MONITOR_COUNT n)).map (· + s.nat Ent.MONITOR_FIRST n)).filter (fun k => decide (k < 256))

/-- The string that owns an index. -/
def State.stringOf (s : State) (k : Nat) : Option Nat := (List.range 8).find? (fun n => (s.monitorsOf n).contains k)

/-- A monitor is enrolled. -/
def State.enrolled (s : State) (k : Nat) : Bool :=
  let m := s.nat Ent.MONITOR_STATE k
  m != Mon.NOT_FITTED && m != Mon.UNENROLLED
def State.enrolledOf (s : State) (n : Nat) : List Nat := (s.monitorsOf n).filter s.enrolled

/-- Cells fitted to a monitor, and to a string: monitor and cell. -/
def State.fittedCells (s : State) (k : Nat) : Nat := min 16 (s.nat Ent.CELL_COUNT k)
def State.cellsOf (s : State) (n : Nat) : List (Nat × Nat) :=
  (s.enrolledOf n).flatMap (fun k => (List.range (s.fittedCells k)).map (fun j => (k, j)))

/-- A cell's code in CELL_FLAGS. -/
def State.cellCode (s : State) (k j : Nat) : Nat := field (s.nat Ent.CELL_FLAGS k) (2 * j) 2
def State.setCellCode (s : State) (k j c : Nat) : State :=
  s.setNat Ent.CELL_FLAGS k (setField (s.nat Ent.CELL_FLAGS k) (2 * j) 2 c)

/-- A cell's number in its string (R236). -/
def State.cellNumber (s : State) (n k j : Nat) : Nat :=
  ((s.cellsOf n).takeWhile (fun c => !(c.1 == k && c.2 == j))).length

/-- A cell's reading in volts; the sum of a string's cells. -/
def State.cellVolts (s : State) (k j : Nat) : Rat := ((s.nat Ent.CELL_V k j : Nat) : Rat) / 10000
def State.cellSum (s : State) (n : Nat) : Rat := ratSum ((s.cellsOf n).map (fun c => s.cellVolts c.1 c.2))

/-- Valid temperatures of a monitor in 0.1 °C: sensors whose last item was one, while the monitor reports. -/
def State.temps (s : State) (k : Nat) : List Int :=
  if s.nat Ent.MONITOR_STATE k != Mon.OK then [] else (bitsOf 4 (s.mon k).tempMask).map (fun i => s.int Ent.TEMP k i)
def State.tempsOf (s : State) (n : Nat) : List Int := (s.enrolledOf n).flatMap s.temps

/-- Queue a command for monitors (R242). -/
def State.tellMonitor (s : State) (op k : Nat) (args : List Byte) : State :=
  s.setRadio { s.radio with cmds := s.radio.cmds ++ [⟨op, k, args, false, 0, false⟩] }
def State.tellAll (s : State) (op : Nat) (args : List Byte) : State :=
  s.setRadio { s.radio with cmds := s.radio.cmds ++ [⟨op, 0, args, true, 0, false⟩] }

/-- SET_PARAM 1 to 5 for one monitor (Table 10-5). -/
def State.sendParams (s : State) (n k : Nat) : State :=
  let vs := [s.nat Ent.CELL_OV_LOCAL n, s.nat Ent.CELL_UV_LOCAL n, word 32 (s.int Ent.CELL_OT_LOCAL n),
    s.nat Ent.BEACON_LOSS_TIMEOUT, s.nat Ent.SLEEP_CHECK_PERIOD]
  s.each (vs.zipIdx 1) (fun z v => z.tellMonitor 3 k (leBytes 1 v.2 ++ leBytes 4 v.1))

/-- Parameters a swap has changed go to every monitor concerned (R242). -/
def State.resendParams (s old : State) : State :=
  s.each (List.range 8) fun z n =>
    let changed := [Ent.CELL_OV_LOCAL, Ent.CELL_UV_LOCAL, Ent.CELL_OT_LOCAL].any (fun e => z.int e n != old.int e n) ||
      [Ent.BEACON_LOSS_TIMEOUT, Ent.SLEEP_CHECK_PERIOD].any (fun e => z.int e != old.int e)
    if changed then z.each (z.enrolledOf n) (fun y k => y.sendParams n k) else z

/-- At a start and at a swap: a monitor in the range of a string is at least UNENROLLED, any other NOT_FITTED (Table 10-15). -/
def State.placeMonitors (s : State) : State :=
  s.each (List.range 256) (fun z k =>
    let m := z.nat Ent.MONITOR_STATE k
    match z.stringOf k with
    | some _ => if m == Mon.NOT_FITTED then z.setNat Ent.MONITOR_STATE k Mon.UNENROLLED else z
    | none => if m == Mon.NOT_FITTED then z else z.setNat Ent.MONITOR_STATE k Mon.NOT_FITTED)

/-- The temperature at a place of a table of 8 points of I16 temperature and U16 value (R282), linear between points, end
values held (R268). -/
def tablePoint (b : List Byte) (i : Nat) : Int × Nat := (signed 16 (leAt b (4 * i) 2), leAt b (4 * i + 2) 2)
def interpolate : List (Rat × Rat) → Rat → Rat
  | [], _ => 0
  | [p], _ => p.2
  | p :: q :: r, t =>
    if t ≤ p.1 then p.2
    else if t ≤ q.1 then p.2 + (q.2 - p.2) * (t - p.1) / (q.1 - p.1)
    else interpolate (q :: r) t
def tableAt (b : List Byte) (t : Rat) : Rat :=
  interpolate ((List.range 8).map (fun i => let p := tablePoint b i; (((p.1 : Int) : Rat), ((p.2 : Nat) : Rat)))) t

/-- A cell with the learned values of R302; a capacity of 0 stands for Q_RATED. -/
def CellSt.fresh (c : CellSt) (q : Rat) : CellSt :=
  { c with theta := [], p := [], pairs := 0, rLearned := false, qLearned := false, q := q, anchor := .none, since := 0, disagree := 0
           valid := false, anchorDue := true }

/-- The learned values of a string's cell return to their initial values (R302). -/
def State.resetCell (s : State) (k j : Nat) : State := s.setCell k j { (s.cell k j).fresh 0 with reset := true }

/-- A monitor's test is cancelled when its string is demanded (R260). -/
def State.cancelMonitorTest (s : State) (k : Nat) : State :=
  match (s.mon k).test with
  | none => s
  | some _ =>
    let s1 := s.setMon k { s.mon k with test := none }
    let s2 := s1.setRadio { s1.radio with cmds := s1.radio.cmds.filter (fun c => !(c.op == 2 && c.mon == k && !c.broadcast && !c.aired)) }
    ((s2.endTest (Ent.MONITOR_TEST.target k) St.CANCELLED).setNat Ent.MONITOR_TEST_RESULT k St.CANCELLED).raise
      Evt.MONITOR_TEST_DONE k St.CANCELLED (s2.nat Ent.WIRE_STATE k)

end Sys2Proof.Machine
end

