-- ==== Sys2Proof/Machine/DiePair.lean ====
section
/-!
DEFINITION. The control die pair (R58 to R83): mirroring, self-diagnosis, switch-over, restart and
resynchronisation; the spare check of disagreeing metering dies (R80).
-/
namespace Sys2Proof.Machine
open Sys2Proof

/-- The standing of a control die. -/
def State.standing (s : State) (die : Nat) : Standing := if die == 0 then s.die.ca else s.die.cb

def State.setStanding (s : State) (die : Nat) (x : Standing) : State :=
  if die == 0 then { s with die := { s.die with ca := x } } else { s with die := { s.die with cb := x } }

/-- The active control die as recorded. -/
def State.activeDie (s : State) : Nat := s.nat Ent.ACTIVE_CONTROL_DIE

/-- Codes of Table 1-9. -/
def Standing.code : Standing → Nat
  | .off => 0 | .standby => 1 | .active => 2 | .failed => 3

/-- The control die fields and MIRROR_SYNC of DIE_STATUS as they stand now (Table 1-9). -/
def State.showDies (s : State) : State :=
  let v := s.nat Ent.DIE_STATUS
  s.setNat Ent.DIE_STATUS 0 (pack [(0, 2, s.die.ca.code), (2, 2, s.die.cb.code), (4, 12, field v 4 12), (16, 1, b2n s.die.mirrorSync),
    (17, 15, field v 17 15)])

/-- The recovering die discards its partial copy when the active die goes (R79): it boots again, and no attempt waits. -/
def State.endResync (s : State) : State :=
  let d := s.die
  { s with die := { d with
      resync := none, resyncRetry := none
      bootA := if (d.resync.map Resync.die) == some 0 then none else d.bootA
      bootB := if (d.resync.map Resync.die) == some 1 then none else d.bootB } }

/-- A die that has gone quiet finds no synchronised standby to take over (R67, R76): its fault waits for the die that takes control. -/
def State.strand (s : State) : State :=
  match s.die.quiet, s.die.switch with
  | some (d, code, cls), none =>
    ({ s with die := { s.die with quiet := none, unserved := some (d, code, cls), switchFrame := some s.sfn } }.setStanding d .failed).endResync
  | _, _ => s

/-- The standby loses its step with the active die (R60): its field reads 0b00, and nothing held for a switch-over serves any more. -/
def State.loseSync (s : State) : State :=
  let other := 1 - s.activeDie
  let s1 := { s with die := { s.die with mirrorSync := false }, mirror := { s.mirror with applied := [], inbox := [] } }
  (if s.standing other == .standby then s1.setStanding other .off else s1).strand

/-- The cycle state the active die sends whole in a mirror window (R61, Table 3-1). -/
def State.cycleImage (s : State) : CycleImg :=
  ⟨s.sfn, s.cycle, s.loops, s.cables, s.legs, s.convs, s.lc, s.meas.chans, s.ev.log.take s.ev.count, s.tx.held, s.alloc.units⟩

/-- The frame state (R62, Table 3-2). -/
def State.frameImage (s : State) : FrameImg :=
  ⟨s.sfn, s.cells, s.actSet, s.shdSet, s.tx.kept, s.cellSts, s.ests, s.outlets, s.alloc, s.bus.units, s.bus.xfers, s.mons, s.groups⟩

/-- The standby holds the cycle state: the mirrored one, or what its own engine computed from the same inputs (R63). -/
def State.holdCycle (s : State) : State := { s with mirror := { s.mirror with cycle := some s.cycleImage } }

/-- The standby holds the frame state whole, as it stands at the end of the frame (R62). -/
def State.holdFrame (s : State) : State := { s with mirror := { s.mirror with frame := some s.frameImage } }

/-- The active die has gone quiet: it sends neither command packet nor mirror (R66, R67). -/
def State.isQuiet (s : State) (die : Nat) : Bool := match s.die.quiet with | some q => q.1 == die | none => false

/-- A main image is being prepared on the standby (R441). -/
def State.preparingMain (s : State) : Bool := (s.fw.main.map Prep.done) == some false

/-- A resynchronisation attempt fails (R79): tried again after 1 s; after 3 failed attempts the die is failed until RESYNC_REQUEST. One that converts to a
new image fails the preparation instead (R441). -/
def State.failResync (s : State) : State :=
  match s.die.resync with
  | none => s
  | some r =>
    if s.preparingMain then
      { s with die := { s.die with resync := none }, fw := { s.fw with main := s.fw.main.map (fun (p : Prep) => { p with failed := true }) } }
    else
    let s1 := ({ s with die := { s.die with resync := none, resyncFails := r.attempt } }).raise Evt.RESYNC_FAILED r.die r.phase r.attempt
    if r.attempt ≥ 3 then
      let s2 := s1.setStanding r.die .failed
      if r.die == 0 then { s2 with die := { s2.die with blockedA := true } } else { s2 with die := { s2.die with blockedB := true } }
    else { s1 with die := { s1.die with resyncRetry := some (r.die, s.ticks + secTicks 1) } }

/-- The standby compares its own command packet with the mirrored one (R64): `w` is the first word that differs, and three mismatches in a row
run its self-test. The spec does not say that a passed self-test leaves the count standing: the run of mismatches begins anew (DESIGN CHOICE,
log entry 81). -/
def State.diverge (s : State) (w : Nat) (selfTest : Bool) : State :=
  let standby := 1 - s.activeDie
  let n := s.die.diverged + 1
  let s1 := { s with die := { s.die with diverged := n } }.bump Ent.DIVERGENCE_COUNT
  if n < 3 then s1
  else if selfTest then { s1 with die := { s1.die with diverged := 0 } }.raise Evt.STANDBY_DIVERGENCE standby n w
  else ({ s1 with die := { s1.die with diverged := 0 } }.loseSync).setStanding standby .failed

/-- CYCLE_MIRROR (R61, R64, R65, Table 3-4): `crc` and `digest` say whether the packets and the digest check, `diverged` is the first word in
which the command packets differ. A good block is acknowledged and held. On one lane the digest alone comes: the standby keeps its own
state, and a digest that differs ends its step. In the check phase of a resynchronisation a mismatch fails the phase. The comparison is
suspended while the standby runs another image. -/
def execCycleMirror (crc digest : Bool) (diverged : Option Nat) (selfTest : Bool) (s : State) : Host.Outcome State Fault Refusal :=
  let ack (z : State) : State := z.send ⟨.siphon, z.activeDie, .mirrorAck, [z.sfn, z.cycle], []⟩
  let other := s.fw.trial.isSome || (s.fw.main.map Prep.done) == some true
  if !crc || s.isQuiet s.activeDie then ok s
  else if (s.die.resync.map Resync.phase) == some 3 then ok (if diverged.isSome || !digest then s.failResync else ack s.holdCycle)
  else if !s.die.mirrorSync then ok s
  else if !digest then ok (if s.die.lanes == 3 then s else s.loseSync)
  else
    let s1 := ack s.holdCycle
    match (if other || s.die.lanes != 3 then none else diverged) with
    | none => ok { s1 with die := { s1.die with diverged := 0 } }
    | some w => ok (s1.diverge w selfTest)

/-- MIRROR_MISS (R63): a failed or unacknowledged mirror; the standby goes on with the cycle state its own engine computed,
or keeps the frame state it holds while the blocks are sent again; two failed frame mirrors in a row end synchronisation. -/
def execMirrorMiss (frame : Bool) (s : State) : Host.Outcome State Fault Refusal :=
  let s1 := (s.bump Ent.MIRROR_MISS_COUNT).raise Evt.MIRROR_MISS (1 - s.activeDie) (b2n frame) s.cycle
  if frame then
    let n := s.die.frameMisses + 1
    let s2 := { s1 with die := { s1.die with frameMisses := n } }
    let s3 := { s2 with mirror := { s2.mirror with resend := true } }
    if n ≥ 2 then ok s3.loseSync else ok s3
  else ok ({ s1 with die := { s1.die with mirrorMissed := true } }.when s1.die.mirrorSync State.holdCycle)

/-- Release what the link die holds (R73): an answer also gives its tag back, a bus message takes the next window (Table 6-3), a record enters its stream. -/
def State.release (s : State) : State :=
  let s1 := { s with waiting := [] }
  s1.each s.waiting (fun z m =>
    let z1 := if m.port == .stream then z.streamRecord m.dest m.body else if m.port == .can then { z with bus := { z.bus with queue := z.bus.queue ++ [(z.frames, m)] } } else z.send m
    match m.kind, m.args with
    | .answer, _ :: _ :: _ :: _ :: _ :: tag :: _ => z1.dropTag tag.toNat
    | _, _ => z1)

/-- What a frame mirror covers is done with: the requests applied and the messages received up to it are consumed (R73). -/
def State.consume (s : State) : State := { s with mirror := { s.mirror with resend := false, applied := [], inbox := [] } }

/-- FRAME_MIRROR (R62, R73): the stream completes in cycle 19. A frame state whose packets and digest check is applied whole, the messages it
covers are released and those received are consumed; any other leaves the frame state as it was. -/
def execFrameMirror (crc digest : Bool) (s : State) : Host.Outcome State Fault Refusal :=
  if !s.die.mirrorSync || !crc || !digest || s.cycle != 19 || s.isQuiet s.activeDie then ok s
  else ok ({ s with die := { s.die with frameMisses := 0 } }.holdFrame.consume.release)

/-- Number of Siphon lanes working. -/
def State.lanesUp (s : State) : Nat := b2n (bit s.die.lanes 0) + b2n (bit s.die.lanes 1)

/-- SIPHON_LANE_LOSS (R65): lane 0, 1, or 2 for both; one lane carries the mirror in digest mode, without a lane the standby loses
synchronisation and a resynchronisation fails. -/
def execSiphonLaneLoss (lane : Fin 3) (s : State) : Host.Outcome State Fault Refusal :=
  let l := if lane.val == 2 then 0 else setBit s.die.lanes lane.val false
  let s1 := { s with die := { s.die with lanes := l } }
  let s2 := s1.raise Evt.SIPHON_LANE_LOSS 0 lane.val s1.lanesUp
  if l == 0 then ok s2.loseSync.failResync else ok s2

/-- Stops and yields of a die in the last 24 h. -/
def State.recentStops (s : State) (die : Nat) : List Nat :=
  (if die == 0 then s.die.stopsA else s.die.stopsB).filter (fun t => decide (s.ticks < t + dayTicks))

/-- Count a stop or yield of a die (R77): with RESTART_LIMIT restarts already made in 24 h it stays failed. -/
def State.countStop (s : State) (die : Nat) : State :=
  let recent := s.recentStops die
  let limit := s.nat Ent.RESTART_LIMIT
  let block := decide (recent.length ≥ limit)
  let l := s.ticks :: recent
  let s1 := if die == 0 then { s with die := { s.die with stopsA := l, blockedA := s.die.blockedA || block } }
            else { s with die := { s.die with stopsB := l, blockedB := s.die.blockedB || block } }
  if block then s1.raise Evt.DIE_RESTART_LIMIT die l.length limit else s1

/-- Class of a Table 3-3 condition: 1 stop, 0 yield. -/
def diagClass (code : Nat) : Nat := if code ≤ 4 then 1 else 0

/-- A YIELD packet goes out on the power link and the Siphon link (R67). -/
def State.sendYield (s : State) (die code : Nat) : State :=
  (s.send ⟨.power, die, .yield, [(code : Int)], []⟩).send ⟨.siphon, 1 - die, .yield, [(code : Int)], []⟩

/-- A control die detects a condition of Table 3-3 (R66, R67, R77). Codes 3 and 4 (supply, tick) silence the die, so
no YIELD goes out (Table 3-5). A condition of the standby is recorded at once and on its behalf, with the class of Table 3-3: R66 and R67 speak
of the active die, and Table 3-5 names the event alone (DESIGN CHOICE, log entry 81). -/
def State.selfDiagnose (s : State) (die code : Nat) : State :=
  let cls := diagClass code
  let speaks := decide (code != 3) && decide (code != 4)
  match s.standing die with
  | .active =>
    if s.isQuiet die then s
    else if cls == 0 && !s.die.mirrorSync then s.raise Evt.DIE_YIELD die code 2
    else
      let s1 := { s with die := { s.die with quiet := some (die, if speaks then code else 0, cls) } }
      let s2 := (if speaks then s1.sendYield die code else s1).countStop die
      if s.die.mirrorSync then s2 else s2.strand
  | .standby => ((s.loseSync.setStanding die .failed).raiseWith true Evt.DIE_YIELD die code cls).countStop die
  | _ => s

/-- YIELD (R67, R68): the power die keeps the code; a synchronised standby sends TAKE in the next cycle. -/
def execYield (die : Fin 2) (code : Nat) (ok_ : Bool) (s : State) : Host.Outcome State Fault Refusal :=
  if !ok_ then ok s
  else
    let y := some (low 32 code, s.ticks)
    let s1 := if die.val == 0 then { s with pw := { s.pw with yieldA := y } } else { s with pw := { s.pw with yieldB := y } }
    if s.die.mirrorSync && s.pw.active == die.val then ok { s1 with die := { s1.die with takeDue := true } } else ok s1

/-- The YIELD the power die holds from its active die, received in this or the previous cycle (R69). -/
def State.freshYield (s : State) : Option Nat :=
  match (if s.pw.active == 0 then s.pw.yieldA else s.pw.yieldB) with
  | some (code, t) => if s.ticks ≤ t + 1 then some code else none
  | none => none

/-- Indices whose read-only values the application cores form (Table 3-2): grants and units, sessions, the battery side, the radio and rope
side. -/
def appIndex (i : Nat) : Bool :=
  (0x2000 ≤ i && i < 0x2100) || (0x2200 ≤ i && i < 0x2400) || (0x3000 ≤ i && i < 0x3100) || (0x5000 ≤ i && i < 0x5200) || 0xE000 ≤ i

/-- A value that belongs to the frame state: an application value, or an entry a client writes. -/
def appKey (k : Nat) : Bool :=
  appIndex (k / 256) || (match findEntry (k / 256) (k % 256) with | some x => x.e.access == .rw | none => false)

/-- The new active die resumes application work from the frame state of the last completed frame (R72): the work of the lost frame is
dropped, the requests it applied wait again, its messages are never released, and those it received are delivered again (R73). The cycle
state, the published grants among it, goes on. -/
def State.resumeFrame (s : State) : State :=
  match s.mirror.frame with
  | none => s
  | some f =>
    let o := s.outlets
    { s with
      cells := (f.cells.filter (fun x => appKey x.1)).foldl (fun t x => Tab.set t x.1 x.2) (s.cells.filter (fun x => !appKey x.1))
      actSet := f.actSet, shdSet := f.shdSet, digestStale := true
      tx := { s.tx with kept := f.kept, held := s.mirror.applied ++ s.tx.held }
      cellSts := f.cellSts, ests := f.ests
      outlets :=
        { f.outlets with
          lines := o.lines, estopRun := o.estopRun, estopLow := o.estopLow, estopLatched := o.estopLatched,
          estopHighAt := o.estopHighAt, estopOpenA := o.estopOpenA, estopOpenB := o.estopOpenB }
      alloc := { f.alloc with units := s.alloc.units, room := s.alloc.room, run := none }
      bus := { s.bus with units := f.units, xfers := f.xfers }
      mons := f.mons, groups := f.groups, waiting := []
      mirror := { s.mirror with applied := [], inbox := [], again := s.mirror.inbox } }

/-- LAST_SWITCHOVER (Table 3-7). -/
def switchRecord (w : Switch) : List Byte :=
  leBytes 8 w.sfn ++ leBytes 4 (pack [(0, 5, w.cycle), (5, 2, w.cause), (7, 1, w.fromDie), (8, 1, w.toDie), (9, 2, w.gap)]) ++
    leBytes 4 w.diag

/-- What every switch-over records (R71), the record of a session among it (Table 7-8). -/
def State.noteSwitch (s : State) (w : Switch) : State :=
  ((((s.eachSession (fun k => { k with switchover := true })).setNat Ent.ACTIVE_CONTROL_DIE 0 w.toDie).bump Ent.SWITCHOVER_COUNT).setBytes Ent.LAST_SWITCHOVER 0 (switchRecord w)).raise
    Evt.SWITCH_OVER w.toDie w.cause w.gap

/-- What a switch-over records at the next cycle 0 after acceptance (R71, R67): the fault on the old die's behalf, and the new
active die. -/
def State.settleSwitch (s : State) (w : Switch) : State :=
  let (code, cls) : Nat × Nat := match s.die.quiet with
    | some (_, c, k) => (c, k)
    | none => (w.diag, if w.cause == 1 then 1 else 0)
  let s1 := ((s.setStanding w.fromDie .failed).setStanding w.toDie .active)
  let s2 := { s1 with die := { s1.die with mirrorSync := false, switch := none, quiet := none } }
  let s3 := if w.cause == 1 && s.die.quiet.isNone then s2.countStop w.fromDie else s2
  ((s3.raiseWith true Evt.DIE_YIELD w.fromDie code cls).noteSwitch w).showDies

/-- A write of SWAP_REQUEST at step 2 (R74): the swap is at the next boundary, held as the count of frames, which no step
of site time renumbers. -/
def applySwapRequest (v : Int) (s : State) : State × Nat :=
  if v == 0 then (s, St.OK)
  else if !s.die.mirrorSync then (s, St.CONFLICT)
  else ({ s with die := { s.die with swapAt := some (s.frames + 1) } }, St.OK)

/-- SWAP_REQUEST (R74). -/
def execSwapRequest (c : Client) (s : State) : Host.Outcome State Fault Refusal :=
  ok (s.clientCommand c Ent.SWAP_REQUEST 0 (.num 1) (applySwapRequest 1))

/-- The planned switch-over itself (R71, R74, R75): YIELD with code 0, which the power die keeps, and TAKE in one cycle 0,
nothing held back. -/
def State.plannedSwitch (s : State) : State :=
  let old := s.activeDie
  let new := 1 - old
  let s1 := ((s.sendYield old 0).send ⟨.power, new, .take, [], []⟩)
  let s2 := (s1.setStanding old .standby).setStanding new .active
  let y := some (0, s.ticks)
  let s3 := { s2 with pw := { s2.pw with active := new, latched := true, silent := 0, yieldA := if old == 0 then y else s2.pw.yieldA
                                         yieldB := if old == 0 then s2.pw.yieldB else y }
                      die := { s2.die with switchFrame := some s.sfn } }
  (s3.noteSwitch ⟨s.sfn, 0, 2, old, new, 0, 0⟩).showDies

/-- PLANNED_SWITCH_OVER (R74): at the swap boundary, or abandoned when MIRROR_SYNC has fallen. -/
def execPlannedSwitchOver (s : State) : Host.Outcome State Fault Refusal :=
  match s.die.swapAt with
  | none => ok s
  | some f =>
    if s.cycle != 0 || s.frames < f then ok s
    else
      let s1 := { s with die := { s.die with swapAt := none } }
      if !s.die.mirrorSync then ok (s1.raise Evt.SWAP_ABANDONED s.activeDie (low 32 s.sfn) 0)
      else ok s1.plannedSwitch

/-- Whether a die is held failed by the restart limit or by three failed resynchronisations. -/
def State.blocked (s : State) (die : Nat) : Bool := if die == 0 then s.die.blockedA else s.die.blockedB

/-- A die that restarts has not completed its boot. -/
def State.unboot (s : State) (die : Nat) : State :=
  if die == 0 then { s with die := { s.die with bootA := none } } else { s with die := { s.die with bootB := none } }

/-- A die has completed its boot; the measurement of the image it booted. -/
def State.booted (s : State) (die : Nat) : Bool := if die == 0 then s.die.bootA.isSome else s.die.bootB.isSome
def State.imageOf (s : State) (die : Nat) : List Byte := if die == 0 then s.die.imageA else s.die.imageB

/-- A die runs the image it is to run beside the active one: the same (R78), in a preparation the staged image (R441), in a trial the old or the new
one (R443, R446). -/
def State.imageFits (s : State) (die : Nat) : Bool :=
  let slotMeas (i : Nat) : List Byte := s.bytes Ent.SLOT_MEASUREMENT i
  match s.fw.trial, s.fw.main with
  | some t, _ => s.imageOf die == slotMeas (if die == t.die then t.slot else t.old)
  | none, some p => s.imageOf die == slotMeas p.slot
  | none, none => s.die.imageA == s.die.imageB

/-- DIE_RESTART (R77). -/
def execDieRestart (die : Fin 2) (s : State) : Host.Outcome State Fault Refusal :=
  if s.standing die.val == .failed && !s.blocked die.val then ok ((s.setStanding die.val .off).unboot die.val) else ok s

/-- Begin a resynchronisation attempt (R78). -/
def State.startResync (s : State) (die : Nat) : State :=
  let a := s.die.resyncFails + 1
  ({ s with die := { s.die with resync := some ⟨die, 0, s.ticks, s.ticks, a⟩, resyncRetry := none } }).raise
    Evt.RESYNC_START die a s.lanesUp

/-- RESYNC_START (R78, R79): a restarted die that has booted and passed its self-test and runs the image it is to run; not before the
1 s after a failed attempt. In SLEEP the standby stays powered down (R477). -/
def execResyncStart (die : Fin 2) (s : State) : Host.Outcome State Fault Refusal :=
  if s.standing die.val == .off && s.standing (1 - die.val) == .active && s.die.resync.isNone && s.die.lanes != 0 &&
      !s.blocked die.val && s.booted die.val && s.imageFits die.val && (match s.die.resyncRetry with | some r => decide (r.2 ≤ s.ticks) | none => true) &&
      s.nat Ent.DEVICE_STATE != Dev.SLEEP then ok (s.startResync die.val) else ok s

/-- RESYNC_PHASE_DONE (R78, Table 3-4): after the check phase MIRROR_SYNC is set; that of a preparation ends with PREPARE_DONE (R441). -/
def execResyncPhaseDone (s : State) : Host.Outcome State Fault Refusal :=
  match s.die.resync with
  | none => ok s
  | some r =>
    if r.phase ≥ 3 && s.preparingMain then ok s
    else if r.phase < 3 then ok { s with die := { s.die with resync := some { r with phase := r.phase + 1, phaseStart := s.ticks } } }
    else
      let s1 := s.setStanding r.die .standby
      let s2 := { s1 with die := { s1.die with resync := none, resyncFails := 0, mirrorSync := true, frameMisses := 0, diverged := 0 } }.holdFrame.consume
      ok (s2.raise Evt.RESYNC_DONE r.die ((s.ticks - r.started) / 20) r.attempt)

/-- RESYNC_FAILED (R79). -/
def execResyncFailed (s : State) : Host.Outcome State Fault Refusal := ok s.failResync

/-- Frames a phase of Table 3-4 may take on two lanes, and all of them together. -/
def resyncLimit (phase : Nat) : Nat := match phase with | 0 => 40 | 1 => 100 | 2 => 1 | _ => 20
def resyncTotal : Nat := 200

/-- Each cycle: a resynchronisation past a limit of Table 3-4, which one lane doubles, fails (R78, R79). -/
def State.watchResync (s : State) : State :=
  match s.die.resync with
  | none => s
  | some r =>
    let k := if s.lanesUp == 1 then 40 else 20
    if decide (r.phaseStart + k * resyncLimit r.phase < s.ticks) || decide (r.started + k * resyncTotal < s.ticks) then s.failResync else s

/-- RESYNC_RETRY (R79). -/
def execResyncRetry (s : State) : Host.Outcome State Fault Refusal :=
  match s.die.resyncRetry with
  | some (die, t) =>
    if s.ticks ≥ t && s.die.resync.isNone && s.standing die == .off && s.standing (1 - die) == .active && s.die.lanes != 0 then ok (s.startResync die)
    else ok s
  | none => ok s

/-- A write of RESYNC_REQUEST (Table 3-6): clears a failed die's restart count and starts it. -/
def applyResyncRequest (v : Int) (s : State) : State × Nat :=
  if v == 0 then (s, St.OK)
  else if s.die.mirrorSync then (s, St.ALREADY_DONE)
  else
    let s1 := if s.die.ca == .failed then
      { s with die := { s.die with ca := .off, stopsA := [], blockedA := false, resyncFails := 0, bootA := none } } else s
    let s2 := if s1.die.cb == .failed then
      { s1 with die := { s1.die with cb := .off, stopsB := [], blockedB := false, resyncFails := 0, bootB := none } } else s1
    (s2, St.OK)

/-- RESYNC_REQUEST (R77). -/
def execResyncRequest (c : Client) (s : State) : Host.Outcome State Fault Refusal :=
  ok (s.clientCommand c Ent.RESYNC_REQUEST 0 (.num 1) (applyResyncRequest 1))

/-- DIE_STATUS (Table 1-9), the metering die fields and SOURCE_M1 given by the measurement side. -/
def State.dieStatus (s : State) (m0 m1 : Nat) (sourceM1 : Bool) : Nat :=
  let d := s.die
  pack [(0, 2, d.ca.code), (2, 2, d.cb.code), (4, 2, m0), (6, 2, m1), (8, 1, b2n d.pwA), (9, 1, b2n d.pwB),
    (10, 1, b2n d.lkA), (11, 1, b2n d.lkB), (12, 1, b2n d.kyA), (13, 1, b2n d.kyB), (14, 1, b2n d.st0), (15, 1, b2n d.st1),
    (16, 1, b2n d.mirrorSync), (17, 1, b2n d.tickB), (18, 1, b2n sourceM1)]

end Sys2Proof.Machine
end

