-- ==== Sys2Proof/Machine/Device.lean ====
section
/-!
DEFINITION. The device state (R469 to R471, Table 21-9): its changes, the causes of DEGRADED, a start of both control dies, and
the wake from SLEEP (R478).
-/
namespace Sys2Proof.Machine
open Sys2Proof

def State.devState (s : State) : Nat := s.nat Ent.DEVICE_STATE

/-- The causes of Table 21-4 that stand now. A standby powered down in SLEEP is none (R477). -/
def State.causesNow (s : State) : Nat :=
  let d := s.die
  pack [(0, 1, b2n (!d.mirrorSync && s.devState != Dev.SLEEP)), (1, 1, b2n (d.m0Failed || d.m1Failed)), (2, 1, b2n (!(d.pwA && d.pwB))),
    (3, 1, b2n (!(d.lkA && d.lkB))), (4, 1, b2n (!(d.st0 && d.st1))), (5, 1, b2n (s.plant.kyBad != 0)),
    (6, 1, b2n (!(s.plant.sideA && s.plant.sideB) || (List.range 12).any (fun d => !bit s.plant.inWindow d)))]

/-- DEVICE_STATUS (Table 21-9) with the causes given; with those it shows already. -/
def State.showDevice (s : State) (causes : Nat) : State :=
  s.setNat Ent.DEVICE_STATUS 0 (pack [(0, 3, s.devState), (3, 1, b2n s.plant.sleep), (4, 1, b2n s.plant.ship),
    (5, 1, b2n s.legal.pfw.isSome), (6, 1, b2n s.plant.sumpDone), (8, 7, causes), (16, 4, s.nat Ent.LAST_START_CAUSE)])
def State.causes (s : State) : Nat := field (s.nat Ent.DEVICE_STATUS) 8 7
def State.refreshDevice (s : State) : State := s.showDevice s.causes

/-- DEVICE_STATE changes, with its event (R469). -/
def State.setDevice (s : State) (st : Nat) : State :=
  let old := s.devState
  if old == st then s.refreshDevice
  else ((s.setNat Ent.DEVICE_STATE 0 st).raise Evt.STATE_CHANGE 0 old st).refreshDevice

/-- Each cycle: a cause that arises shows at once, one that clears at cycle 0, and RUN and DEGRADED follow (R470, R471). -/
def State.deviceCycle (s : State) : State :=
  let now := s.causesNow
  let old := s.causes
  let c := if s.cycle == 0 then now else ofBits ((List.range 7).filter (fun i => bit old i || bit now i))
  let s1 := if c == old then s else s.showDevice c
  if s1.devState == Dev.RUN && c != 0 then s1.setDevice Dev.DEGRADED
  else if s1.devState == Dev.DEGRADED && c == 0 then s1.setDevice Dev.RUN
  else s1

/-- Both control dies restart (R470): a preparation in progress is lost (R447), and the next start has the cause given. -/
def State.restartBoth (s : State) (cause : Nat) : State :=
  let s1 := { s with
    die := { s.die with ca := .off, cb := .off, mirrorSync := false, resync := none, resyncRetry := none, bootA := none, bootB := none,
                        switch := none, swapAt := none, quiet := none, takeDue := false, unserved := none }
    fw := { s.fw with main := none, legal := none }
    plant := { s.plant with startCause := cause, released := s.ticks, sleep := false, ship := false, carrierAt := none
                            broadcastAt := none, wakeDue := none, wokenAt := none, testAt := none } }
  s1.setDevice Dev.START

/-- The device wakes (R478, Table 21-6). While SLEEP is only pending (R485) a rope burst waits for SLEEP, any other source ends
the request. -/
def State.wake (s : State) (source inst : Nat) : State :=
  if s.devState == Dev.SLEEP then
    let s1 := (s.setFlag Ent.SLEEP_REQUEST 0 false).raise Evt.DEVICE_WAKE inst source 0
    let s2 := s1.each ((List.range 8).filter (fun n => decide (0 < s1.nat Ent.MONITOR_COUNT n))) (fun z n => z.send ⟨.rope, n, .wakeBurst, [], []⟩)
    { s2 with plant := { s2.plant with carrierAt := some (s2.ticks + msTicks 1200), wokenAt := some s2.ticks, wakeDue := none } }.setDevice Dev.DEGRADED
  else if s.plant.sleep then
    if source == 0 then { s with plant := { s.plant with wakeDue := some (source, inst) } }
    else ({ s with plant := { s.plant with sleep := false, broadcastAt := none, wakeDue := none } }.setFlag Ent.SLEEP_REQUEST 0 false |>.raise
      Evt.DEVICE_WAKE inst source 0).refreshDevice
  else s

end Sys2Proof.Machine
end

