-- ==== Sys2Proof/Machine/Strings.lean ====
section
/-!
DEFINITION. The string master (R263 to R283): connection, limits, derating, causes and openings, the hardware path, the
insulation monitor, restart, reset and test, with the rows of its chapter.
-/
namespace Sys2Proof.Machine
open Sys2Proof

/-- STRING_STATE (Table 11-5). -/
def Str.DISABLED : Nat := 0
def Str.OPEN : Nat := 1
def Str.CHECKING : Nat := 2
def Str.PRECHARGING : Nat := 3
def Str.CLOSING : Nat := 4
def Str.CONNECTED : Nat := 5
def Str.OPENING : Nat := 6
def Str.WELD_CHECK : Nat := 7
def Str.LOCKED_OUT : Nat := 8
def Str.TESTING : Nat := 9

def State.strState (s : State) (n : Nat) : Nat := s.nat Ent.STRING_STATE n
def State.enterStr (s : State) (n st : Nat) : State :=
  (s.setNat Ent.STRING_STATE n st).setStr n { s.str n with stateAt := s.ticks }

/-- V_P, the string current in discharge sign, V_C and V_FLOOR (R263, R273). -/
def State.strVolts (s : State) (n : Nat) : Rat := s.chan (s.nat Ent.STRING_V_MCH n)
def State.strAmps (s : State) (n : Nat) : Rat := s.chan (s.nat Ent.STRING_I_MCH n)
def State.strFloor (s : State) (n : Nat) : Rat := if s.nat Ent.HIGH_SIDE n == 0 then 0 else s.vBus n
def tenthWord (q : Rat) : Nat := word 32 (ratRound (q * 10))

/-- A string in use: STRING_ENABLE and GROUP_ENABLE. -/
def State.strEnabled (s : State) (n : Nat) : Bool := s.flag Ent.STRING_ENABLE n && s.flag Ent.GROUP_ENABLE n

/-- The insulation monitor's loop in mA, whether it works, and the insulation in kΩ (R275); a channel invalid in both dies counts as a
failed monitor (log entry 64). -/
def State.strLoop (s : State) (n : Nat) : Rat := s.chan (s.nat Ent.STRING_IMD_MCH n)
def State.strImdOk (s : State) (n : Nat) : Bool :=
  s.chanValid (s.nat Ent.STRING_IMD_MCH n) && decide (36 / 10 ≤ s.strLoop n) && decide (s.strLoop n ≤ 21)
def State.strIso (s : State) (n : Nat) : Rat := (s.strLoop n - 4) / 16 * ((s.nat Ent.STR_IMD_FULL_SCALE n : Nat) : Rat)
/-- A limit in Ω/V at the string's voltage, in kΩ. -/
def State.isoAt (s : State) (e : Entry) (n : Nat) : Rat := ((s.nat e n : Nat) : Rat) * s.strVolts n / 1000

/-- The coil channels in use: those of the connection, else those of the active set. -/
def State.coilsInUse (s : State) (n : Nat) : List Nat := if (s.str n).coils.isEmpty then s.coilsOf n else (s.str n).coils

/-- Command the three coils. -/
def State.setCoils (s : State) (n : Nat) (pos neg pre : Bool) : State :=
  s.each ((s.coilsInUse n).zip [pos, neg, pre]) (fun z c => z.lcCommand c.1 c.2)

/-- Causes that latch by themselves (Table 11-2). -/
def latching (c : Nat) : Bool := (2 ≤ c && c ≤ 6) || c == 13

/-- A non-latching cause has met its clearing condition (Table 11-2). -/
def State.causeCleared (s : State) (n c : Nat) : Bool :=
  let k := s.str n
  match c with
  | 7 => (s.conv n).st == Grp.READY
  | 8 => (s.enrolledOf n).all (fun m => s.nat Ent.MONITOR_STATE m == Mon.OK && decide ((s.mon m).okRun ≥ 20))
  | 9 => (s.enrolledOf n).all (fun m => s.nat Ent.WIRE_STATE m == 0)
  | 10 => match k.isoGood with | some t => decide (s.ticks ≥ t + secTicks 60) | none => false
  | 11 => match k.validSince with | some t => decide (s.ticks ≥ t + secTicks 1) | none => false
  | 14 => s.strEnabled n
  | 15 => s.serving && !s.plant.sleep && !s.plant.ship
  | 16 => s.pwOk (n / 4) && (match k.latched with | some c => !(s.lcs c).latchedOff && !(s.lcs c).lockout | none => true)
  | _ => false

/-- Causes still active. -/
def State.activeCauses (s : State) (n : Nat) : List Nat := (s.str n).causes.filter (fun c => latching c || c == 12 || !s.causeCleared n c)

/-- A cell's voltages for limits and trips (R268): lower and upper, in volts. -/
def State.cellBounds (s : State) (n : Nat) (c : Nat × Nat) : Rat × Rat :=
  if s.cellCode c.1 c.2 == Cell.UNKNOWN then
    let half : Rat := ((s.nat Ent.CELL_BOUND c.1 c.2 : Nat) : Rat) / 20000
    let m : Rat := ((s.nat Ent.UNKNOWN_MARGIN n : Nat) : Rat) / 1000
    (half - m, half + m)
  else (s.cellVolts c.1 c.2, s.cellVolts c.1 c.2)

def State.milli (s : State) (e : Entry) (n : Nat) : Rat := ((s.nat e n : Nat) : Rat) / 1000

/-- VALID and UNKNOWN cells whose voltage lies above the high or below the low trip, as mV. -/
def State.watchedCells (s : State) (n : Nat) : List (Rat × Rat) :=
  ((s.cellsOf n).filter (fun c => s.cellCode c.1 c.2 == Cell.VALID || s.cellCode c.1 c.2 == Cell.UNKNOWN)).map (s.cellBounds n)
def State.highCells (s : State) (n : Nat) : List Rat := ((s.watchedCells n).map Prod.snd).filter (fun v => decide (s.milli Ent.CELL_V_TRIP_HIGH n < v))
def State.lowCells (s : State) (n : Nat) : List Rat := ((s.watchedCells n).map Prod.fst).filter (fun v => decide (v < s.milli Ent.CELL_V_TRIP_LOW n))
def State.hotTemps (s : State) (n : Nat) : List Int := (s.tempsOf n).filter (fun t => decide (t > s.int Ent.CELL_T_TRIP n * 10))

/-- Metering channels of a string. -/
def State.stringMchs (s : State) (n : Nat) : List Nat :=
  [s.nat Ent.STRING_V_MCH n, s.nat Ent.STRING_I_MCH n, s.nat Ent.STRING_IMD_MCH n]

/-- A legal calibration holds one of a string's channels (R25). -/
def State.stringCalibrating (s : State) (n : Nat) : Bool :=
  s.meas.calibs.any (fun k => s.flag Ent.MCH_LEGAL k.ch && (s.stringMchs n).contains k.ch)

/-- The preconditions of R265 but for STRING_STATE and RECONNECT_HOLDOFF. -/
def State.mayConnect (s : State) (n : Nat) (group : Bool) : Bool :=
  s.flag Ent.STRING_ENABLE n && s.flag Ent.STRING_REQUEST n && s.serving && !s.plant.sleep && !s.plant.ship && s.nat Ent.ROPE_STATE n == Rope.CLOSED &&
    bit (s.nat Ent.SWEEP_STATUS n) 0 &&
    (s.enrolledOf n).all (fun k => s.nat Ent.MONITOR_STATE k != Mon.LOSING && s.nat Ent.MONITOR_STATE k != Mon.LOST) &&
    (s.highCells n).isEmpty && (s.lowCells n).isEmpty && (s.hotTemps n).isEmpty &&
    s.strImdOk n && decide (s.isoAt Ent.STR_ISO_WARN n ≤ s.strIso n) &&
    (!group || (s.conv n).st == Grp.READY) && (s.activeCauses n).isEmpty && !s.stringCalibrating n

/-- RECONNECT_HOLDOFF has passed since the last opening. -/
def State.holdoffOver (s : State) (n : Nat) : Bool :=
  match (s.str n).lastOpen with
  | some t => decide (s.ticks ≥ t + secTicks (s.nat Ent.RECONNECT_HOLDOFF n))
  | none => true

/-- Whether a string stands in the steps of a connection, and whether it may carry current. -/
def connecting (st : Nat) : Bool := st == Str.CHECKING || st == Str.PRECHARGING || st == Str.CLOSING
def carrying (st : Nat) : Bool := connecting st || st == Str.CONNECTED || st == Str.OPENING

/-- Both power limits 0 (R269). -/
def State.zeroLimits (s : State) (n : Nat) : State :=
  ((s.setNat Ent.STRING_LIMIT_DIS n 0).setNat Ent.STRING_LIMIT_CHG n 0).setStr n
    { s.str n with limDis := 0, limChg := 0, srcDis := 3, srcChg := 3 }

/-- Where a string comes to rest (R271, R273): LOCKED_OUT with a latching cause, else OPEN or DISABLED. -/
def State.settleString (s : State) (n : Nat) : State :=
  let k := s.str n
  let s1 := s.setStr n { k with step := 0, coils := []
                                causes := k.causes.filter (fun c => c != 1 && !(c == 14 && s.strEnabled n)) }
  if k.lock != 0 then
    if s.strState n == Str.LOCKED_OUT then s1
    else (s1.enterStr n Str.LOCKED_OUT).raise Evt.STRING_LOCKED_OUT n k.lock 0
  else s1.enterStr n (if s.strEnabled n then Str.OPEN else Str.DISABLED)

/-- All three coils go off; the weld check of R273 follows when it is due. -/
def State.openCoils (s : State) (n : Nat) (hw : Bool) : State :=
  let s1 := ((s.setCoils n false false false).disconnectGroup n).zeroLimits n
  let s2 := s1.setStr n { s1.str n with step := 0, lastOpen := some s.ticks, hwOpened := hw, ropeOff := none, startLate := false }
  if 60 ≤ s.strVolts n - s.strFloor n then s2.enterStr n Str.WELD_CHECK else s2.settleString n

/-- The first cause of an opening (R271). -/
def State.noteOpening (s : State) (n c : Nat) : State :=
  ((s.setNat Ent.LAST_OPEN_CAUSE n c).setNat Ent.LAST_OPEN_SFN n s.sfn).setStr n { s.str n with why := c, openAt := s.ticks }

/-- Among causes of one cycle the hardware path comes first, then the lowest code (R271). -/
def causeBefore (a b : Nat) : Bool := a != b && (a == 2 || (b != 2 && decide (a < b)))

/-- A cause becomes active (R271, R272, R281): its event, and the opening by its path; a cause of the cycle in which the opening began may
come before the one it began with. -/
def State.stringCause (s : State) (n c value : Nat) : State :=
  let k := s.str n
  let st := s.strState n
  if (s.activeCauses n).contains c || st == Str.DISABLED then s
  else
    let s1 := s.setStr n { k with causes := sortBy (fun a b => decide (a ≤ b)) (k.causes.filter (fun x => x != c) ++ [c])
                                  lock := if latching c && k.lock == 0 then c else k.lock }
    let s2 := if 2 ≤ c ∧ c ≤ 6 then s1.raise Evt.STRING_TRIPPED n c value
              else if c == 12 || c == 13 then s1 else s1.raise Evt.STRING_OPENED n c (tenthWord (s.strAmps n))
    if connecting st then
      let s3 := s2.noteOpening n c
      if c == 2 then (s3.enterStr n Str.OPENING).setStr n { s3.str n with stateAt := s.ticks, lowRun := 0, step := 0 }
      else s3.openCoils n false
    else if st == Str.CONNECTED then
      let s3 := (s2.noteOpening n c).zeroLimits n
      if c == 16 then s3.openCoils n false
      else
        let s4 := s3.enterStr n Str.OPENING
        let s5 := s4.setStr n { s4.str n with lowRun := 0 }
        if c == 2 then s5.disconnectGroup n else if c == 6 then s5.cutGroup n else s5.stopGroup n
    else
      let s3 := s2.when (k.why != 0 && k.openAt == s.ticks && causeBefore c k.why) (fun z => z.noteOpening n c)
      if st == Str.OPENING && c == 16 then s3.openCoils n false
      else if st == Str.OPEN && latching c then s3.settleString n
      else if st == Str.OPENING && c == 6 then s3.cutGroup n
      else s3

/-- The derating causes as they stand (Table 11-3), and their change (R270). -/
def State.derateMask (s : State) (n : Nat) : Nat :=
  pack [(0, 1, b2n ((s.enrolledOf n).any (fun k => (s.mon k).losing))),
    (1, 1, b2n ((s.enrolledOf n).any (fun k => s.nat Ent.WIRE_STATE k != 0))),
    (2, 1, b2n (s.nat Ent.STRING_IMD_MCH n != 0xFF && !s.strImdOk n)), (3, 1, b2n (s.flag Ent.STRING_DERATE n))]
def State.refreshDerate (s : State) (n : Nat) : State :=
  let old := s.nat Ent.DERATE_CAUSES n
  let new := s.derateMask n
  if new == old then s else (s.setNat Ent.DERATE_CAUSES n new).raise Evt.STRING_DERATE n new old

/-- A current rounded down to 0.1 A; a current limit read back to its tenth. -/
def downTenth (q : Rat) : Rat := ((ratFloor (q * 10) : Int) : Rat) / 10
def State.tenthOf (s : State) (e : Entry) (n : Nat) : Rat := ((ratRound (s.rat e n * 10) : Int) : Rat) / 10

/-- A cell's temperature in °C (R285); `none` when no sensor gives one. -/
def State.cellTemp (s : State) (n k j : Nat) : Option Rat :=
  let mean (l : List Int) : Rat := ratMean (l.map (fun (t : Int) => (t : Rat) / 10))
  let okNow := s.nat Ent.MONITOR_STATE k == Mon.OK
  if okNow && bit (s.mon k).tempMask (j / 4) then some ((s.int Ent.TEMP k (j / 4) : Rat) / 10)
  else if !(s.temps k).isEmpty then some (mean (s.temps k))
  else if !(s.tempsOf n).isEmpty then some (mean (s.tempsOf n))
  else none

/-- The resistance R268 uses for a cell (R284, R295): the one of the last commit; before the first commit after a start, the learned values as
stored at the cell's present temperature. -/
def State.cellOhms (s : State) (n : Nat) (c : Nat × Nat) : Rat :=
  let k := s.cell c.1 c.2
  if !k.rLearned then s.rat Ent.R_DEFAULT n
  else if (Tab.find s.ests n).any (fun e => e.prev.isSome) then s.rat Ent.CELL_R_LIMIT c.1 c.2
  else tableAt (s.bytes Ent.R_TEMP_TABLE n) ((s.cellTemp n c.1 c.2).getD k.temp) / 1000 * (k.theta.getD 0 0 + k.theta.getD 1 0)

/-- One direction's current limit with what set it (R268): 0 cell voltage, 1 temperature. -/
def State.currentLimit (s : State) (n : Nat) (volts : Rat) (table : Entry) : Rat × Nat :=
  let ts := (s.tempsOf n).map (fun (t : Int) => (t : Rat) / 10)
  let b := s.bytes table n
  let lo := tableAt b (ratMin ts)
  let hi := tableAt b (ratMax ts)
  let t : Rat := if ts.isEmpty then 0 else if hi < lo then hi else lo
  let v : Rat := if volts < 0 then 0 else volts
  let f : Rat := if s.nat Ent.DERATE_CAUSES n == 0 then 1 else s.milli Ent.DERATE_FACTOR n
  (downTenth ((if t < v then t else v) * f), if t < v then 1 else 0)

/-- The cell-based current limits at a publication (R268). -/
def State.sweepLimits (s : State) (n : Nat) : State :=
  let cells := s.cellsOf n
  let k := s.str n
  let none_ := (s.tempsOf n).isEmpty
  let s1 := (s.setStr n { k with noTemp := none_ }).when (none_ && !k.noTemp)
    (fun z => z.raise Evt.STRING_DERATE n 0xFFFF (z.nat Ent.DERATE_CAUSES n))
  if bit (s.nat Ent.SWEEP_STATUS n) 2 || cells.isEmpty then s1
  else
    let i := s.rat Ent.SWEEP_CURRENT n
    let dis := ratMin (cells.map (fun c => ((s.cellBounds n c).1 - s.milli Ent.CELL_V_MIN n) / s.cellOhms n c)) + i
    let chg := ratMin (cells.map (fun c => (s.milli Ent.CELL_V_MAX n - (s.cellBounds n c).2) / s.cellOhms n c)) - i
    let d := s.currentLimit n dis Ent.I_DIS_TABLE
    let c := s.currentLimit n chg Ent.I_CHG_TABLE
    ((s1.setRat Ent.I_LIMIT_DIS n d.1).setRat Ent.I_LIMIT_CHG n c.1).setStr n { s1.str n with cellDis := d.2, cellChg := c.2 }

/-- Cell trips of a publication (Table 11-2, causes 3 to 5): two consecutive sweeps. -/
def State.sweepTrips (s : State) (n : Nat) : State :=
  let k := s.str n
  let on := carrying (s.strState n)
  let hi := s.highCells n
  let lo := s.lowCells n
  let hot := s.hotTemps n
  let count (old : Nat) (bad : Bool) : Nat := if on && bad then old + 1 else 0
  let k1 := { k with high := count k.high (!hi.isEmpty), low := count k.low (!lo.isEmpty), hot := count k.hot (!hot.isEmpty) }
  let s1 := s.setStr n k1
  let s2 := if k1.high ≥ 2 then s1.stringCause n 3 (word 32 (ratRound (ratMax hi * 1000))) else s1
  let s3 := if k1.low ≥ 2 then s2.stringCause n 4 (word 32 (ratRound (ratMin lo * 1000))) else s2
  if k1.hot ≥ 2 then s3.stringCause n 5 (word 32 (hot.foldl max 0)) else s3

/-- One power limit in one cycle (R269): a lower value at once, a higher one by LIMIT_RISE; what set it. -/
def State.powerLimit (s : State) (n : Nat) (group amps : Entry) (old : Rat) (src : Nat) : Rat × Nat :=
  let c : Rat := ((ratFloor (s.tenthOf amps n * s.strVolts n) : Int) : Rat)
  let cell : Rat := if c < 0 then 0 else c
  let g : Rat := ((s.nat group n : Nat) : Rat)
  let t := if g < cell then g else cell
  let up := old + ((s.nat Ent.LIMIT_RISE n : Nat) : Rat) / 20000
  (if up < t then up else t, if g < cell then 2 else src)

/-- The string limits of a cycle (R269). -/
def State.stringLimits (s : State) (n : Nat) : State :=
  if s.strState n != Str.CONNECTED || !(s.activeCauses n).isEmpty then s.zeroLimits n
  else
    let k := s.str n
    let d := s.powerLimit n Ent.GROUP_LIMIT_DIS Ent.I_LIMIT_DIS k.limDis k.cellDis
    let c := s.powerLimit n Ent.GROUP_LIMIT_CHG Ent.I_LIMIT_CHG k.limChg k.cellChg
    ((s.setNat Ent.STRING_LIMIT_DIS n (ratFloor d.1).toNat).setNat Ent.STRING_LIMIT_CHG n (ratFloor c.1).toNat).setStr n
      { k with limDis := d.1, limChg := c.1, srcDis := d.2, srcChg := c.2 }

/-- The insulation monitor of a cycle, whatever the state of its string (R275); without a channel named there is none. -/
def State.stringIso (s : State) (n : Nat) : State :=
  if s.nat Ent.STRING_IMD_MCH n == 0xFF then s.refreshDerate n
  else if !s.strImdOk n then
    ((s.when (!bit (s.nat Ent.DERATE_CAUSES n) 2)
        (fun z => z.raise Evt.STRING_IMD_FAILED n (word 32 (ratRound (z.strLoop n * 1000))) 0)).refreshDerate n).setStr n
      { s.str n with isoLow := none, isoGood := none }
  else
    let k := s.str n
    let r := s.strIso n
    let below := decide (r < s.isoAt Ent.STR_ISO_FAULT n)
    let warn := decide (r < s.isoAt Ent.STR_ISO_WARN n)
    let tell := warn && s.strState n == Str.CONNECTED && !k.isoWarned
    let k1 := { k with isoLow := if below then some (k.isoLow.getD s.ticks) else none
                       isoGood := if warn then none else some (k.isoGood.getD s.ticks)
                       isoWarned := k.isoWarned || tell }
    let s1 := (s.refreshDerate n).setStr n k1
    let kohm := (ratRound (if r < 0 then 0 else r)).toNat
    (s1.fitNat Ent.INSULATION_STR n kohm).when tell
      (fun z => z.raise Evt.STRING_INSULATION_WARNING n kohm (tenthWord (z.strVolts n)))

/-- The filters of the string current in a cycle (Table 11-2, R272). -/
def State.stringAmps (s : State) (n : Nat) : State :=
  let k := s.str n
  let good := s.chanValid (s.nat Ent.STRING_I_MCH n)
  let i := ratAbs (s.strAmps n)
  s.setStr n { k with
    overRun := if carrying (s.strState n) && good && decide (s.rat Ent.STRING_I_TRIP n < i) then k.overRun + 1 else 0
    badRun := if s.strEnabled n && !good then k.badRun + 1 else 0
    validSince := if good then some (k.validSince.getD s.ticks) else none
    lowRun := if s.strState n == Str.OPENING && good && decide (i < s.rat Ent.OPEN_CURRENT n) then k.lowRun + 1 else 0 }

/-- V_C rises (R266). -/
def State.risesNow (s : State) (n : Nat) : Bool :=
  let k := s.str n
  decide ((s.strVolts n - k.vc0) / 2 < s.vString n - k.vc0)

/-- V_P − V_C is within PRECHARGE_DONE. -/
def State.charged (s : State) (n : Nat) : Bool :=
  decide (s.strVolts n - s.vString n ≤ s.milli Ent.PRECHARGE_DONE n * s.strVolts n)

/-- The control die's cycle of a string: readings shown, filters, a rise or a full pre-charge noted, a lost precondition (R266), limits. An
abort with a coil on is an opening, which R273 follows (log entry 64). -/
def State.stringCycle (s : State) (n : Nat) : State :=
  let s1 := ((s.setRat Ent.STRING_VOLTAGE n (s.strVolts n)).setRat Ent.STRING_CURRENT n (s.strAmps n)).setRat
    Ent.CONVERTER_SIDE_V n (s.vString n)
  let s2 := (s1.stringAmps n).stringIso n
  let k := s2.str n
  let s3 := if (k.step == 2 || k.step == 3) && s2.risesNow n then s2.setStr n { k with rose := true }
            else if k.step == 4 && k.reached.isNone && s2.strState n == Str.PRECHARGING && s2.charged n then
              s2.setStr n { k with reached := some s2.ticks }
            else s2
  let s4 := if connecting (s3.strState n) && !s3.mayConnect n true then
      (if k.step ≤ 1 then s3.settleString n else s3.openCoils n false) else s3
  s4.stringLimits n

/-- STRING_STATUS (Table 11-7). -/
def State.showString (s : State) (n : Nat) : State :=
  let k := s.str n
  let on := (s.coilsInUse n).map s.lcOn
  let act := s.activeCauses n
  let fails := (k.fails.filter (fun t => decide (s.ticks < t + secTicks 600))).length
  s.setNat Ent.STRING_STATUS n
    (pack [(0, 1, b2n (on.getD 0 false)), (1, 1, b2n (on.getD 1 false)), (2, 1, b2n (on.getD 2 false)),
      (3, 1, b2n (s.nat Ent.DERATE_CAUSES n != 0)), (4, 1, b2n (s.strState n == Str.LOCKED_OUT)), (5, 1, b2n k.hwOpened),
      (6, 1, b2n (act.isEmpty && !s.holdoffOver n)), (7, 1, b2n (s.strImdOk n)), (8, 1, b2n k.unchecked), (9, 2, k.srcDis),
      (11, 2, k.srcChg), (16, 8, act.headD 0), (24, 8, min 255 fails)])

/-- A step of Table 11-1 begins. -/
def State.startStep (s : State) (n step : Nat) : State :=
  s.setStr n { s.str n with step := step, stepAt := s.ticks, rose := false, offAt := none, reached := none }

/-- A coil of the step under way goes off; the time from there is kept. -/
def State.endCoil (s : State) (n : Nat) (pos neg : Bool) : State :=
  (s.setCoils n pos neg false).setStr n { s.str n with offAt := some s.ticks }

/-- A running string test is aborted because its string is demanded (R280, R24). -/
def State.cancelStringTest (s : State) (n : Nat) : State :=
  if s.strState n == Str.TESTING then
    let s1 := ((s.setCoils n false false false).endTest (Ent.STRING_TEST.target n) St.CANCELLED).setNat Ent.STRING_TEST_RESULT n St.CANCELLED
    (s1.raise Evt.STRING_TEST_DONE n St.CANCELLED (s.str n).rises).settleString n
  else s

/-- STRING_CONNECT_START (R265), at a frame boundary; a test on the string or its monitors gives way (R24). -/
def execStringConnectStart (n : Fin 8) (s : State) : Host.Outcome State Fault Refusal :=
  let m := n.val
  if s.cycle == 0 && s.mayConnect m true && s.holdoffOver m && (s.strState m == Str.OPEN || (s.strState m == Str.TESTING && (s.str m).lock == 0)) then
    let s1 := (s.each (s.monitorsOf m) (fun z k => z.cancelMonitorTest k)).each (s.stringMchs m) (fun z c => z.cancelChannel c)
    let s2 := (s1.cancelStringTest m).enterStr m Str.CHECKING
    ok ((s2.setStr m { s2.str m with coils := s2.coilsOf m, unchecked := false, hwOpened := false, preMs := 0 }).startStep m 1)
  else ok s

/-- A weld found in steps 2 or 3 (R266): part 0 main-negative, 1 positive path. -/
def State.weldFound (s : State) (n part : Nat) : State :=
  let s1 := (s.raise Evt.STRING_CONTACTOR_WELDED n part (tenthWord (s.vString n))).noteOpening n 13
  let k := s1.str n
  let s2 := s1.setStr n { k with causes := (k.causes.filter (· != 13)) ++ [13], lock := if k.lock == 0 then 13 else k.lock, tested := false
                                 lastOpen := some s.ticks }
  ((s2.setCoils n false false false).disconnectGroup n).settleString n

/-- A pre-charge fails (R267). -/
def State.prechargeFail (s : State) (n reason : Nat) : State :=
  let k := s.str n
  let fails := s.ticks :: k.fails.filter (fun t => decide (s.ticks < t + secTicks 600))
  let s1 := (s.raise Evt.STRING_PRECHARGE_FAIL n reason ((s.ticks - k.preAt) / 20)).noteOpening n 12
  let lock := decide (fails.length ≥ s.nat Ent.PRECHARGE_ATTEMPTS n)
  let k1 := s1.str n
  (s1.setStr n { k1 with fails := fails, causes := if lock then k1.causes ++ [12] else k1.causes
                         lock := if lock && k1.lock == 0 then 12 else k1.lock }).openCoils n false

/-- Step 4 begins: main-negative and pre-charge. -/
def State.startPrecharge (s : State) (n : Nat) (unchecked : Bool) : State :=
  let s1 := ((s.setCoils n false true true).enterStr n Str.PRECHARGING).startStep n 4
  s1.setStr n { s1.str n with preAt := s.ticks, unchecked := unchecked }

/-- The string is connected (R267). -/
def State.connected (s : State) (n : Nat) : State :=
  let s1 := ((s.enterStr n Str.CONNECTED).zeroLimits n).raise Evt.STRING_CONNECTED n (s.str n).preMs (tenthWord (s.strVolts n))
  ((s1.bump Ent.CONNECT_COUNT n).setStr n { s1.str n with step := 0, isoWarned := false }).startGroup n

/-- Step 1 has run its time: in a connection a mismatch aborts, in a test it is not judged by a status the spec states. -/
def State.endStep1 (s : State) (n : Nat) : State :=
  let test := s.strState n == Str.TESTING
  let v := s.strVolts n
  let vc := s.vString n
  if !test && decide (((s.nat Ent.STRING_TOL : Nat) : Rat) / 1000 < ratAbs (v - s.cellSum n)) then s.settleString n
  else
    let s1 := s.setStr n { s.str n with vc0 := vc }
    if v - vc < 60 then (if test then s1.startStep n 4 else s1.startPrecharge n true)
    else (s1.setCoils n false false true).startStep n 2

/-- STRING_CONNECT_STEP (R266, R267, R280): the step under way is judged by the time it has run. -/
def execStringConnectStep (n : Fin 8) (s : State) : Host.Outcome State Fault Refusal :=
  let m := n.val
  let k := s.str m
  let test := s.strState m == Str.TESTING
  let e := s.ticks - k.stepAt
  let up := k.rose || s.risesNow m
  if !test && !connecting (s.strState m) then ok s
  else match k.step with
    | 1 => if e ≥ msTicks 100 then ok (s.endStep1 m) else ok s
    | 2 =>
      if up && !test then ok (s.weldFound m 0)
      else match k.offAt with
        | none => if e ≥ msTicks 100 then ok (s.endCoil m false false) else ok s
        | some t =>
          if s.ticks < t + msTicks 20 then ok s
          else
            let s1 := (s.setCoils m false true false).startStep m 3
            ok (if up then s1.setStr m { s1.str m with rises := setBit k.rises 0 true } else s1)
    | 3 =>
      if up && !test then ok (s.weldFound m 1)
      else if e ≥ msTicks 100 then
        if test then
          let s1 := (s.setCoils m false false false).startStep m 4
          ok (if up then s1.setStr m { s1.str m with rises := setBit k.rises 1 true } else s1)
        else ok (s.startPrecharge m false)
      else ok s
    | 4 =>
      if test then ok s
      else if s.charged m || k.reached.isSome then
        if k.reached.getD s.ticks - k.stepAt < msTicks (s.nat Ent.PRECHARGE_T_MIN m) then ok (s.prechargeFail m 0)
        else
          let s1 := ((s.setCoils m true true true).enterStr m Str.CLOSING).startStep m 5
          ok (s1.setStr m { s1.str m with preMs := e / 20 })
      else if e ≥ msTicks (s.nat Ent.PRECHARGE_T_MAX m) then ok (s.prechargeFail m 1)
      else ok s
    | 5 =>
      match k.offAt with
      | none => if e ≥ msTicks 30 then ok (s.endCoil m true true) else ok s
      | some t =>
        if s.ticks < t + msTicks 20 then ok s
        else if s.charged m then ok (s.connected m)
        else ok (s.prechargeFail m 2)
    | _ => ok s

/-- A write of STRING_REQUEST (R265, R281); a write of 1 wakes the device (R478). -/
def applyStringRequest (n : Nat) (v : Int) (s : State) : State × Nat :=
  let s1 := s.setInt Ent.STRING_REQUEST n v
  if v == 0 then
    (if connecting (s.strState n) || s.strState n == Str.CONNECTED then s1.stringCause n 1 0 else s1, St.OK)
  else (s1.wake 3 n, St.OK)

/-- STRING_REQUEST (R265). -/
def execStringRequest (c : Client) (n : Nat) (v : Nat) (s : State) : Host.Outcome State Fault Refusal :=
  ok (s.clientCommand c Ent.STRING_REQUEST n (.num v) (applyStringRequest n v))

/-- A write of STRING_DERATE (R270). -/
def applyStringDerate (n : Nat) (v : Int) (s : State) : State × Nat :=
  ((s.setInt Ent.STRING_DERATE n v).refreshDerate n, St.OK)

/-- STRING_DERATE (R270). -/
def execStringDerate (c : Client) (n : Nat) (v : Nat) (s : State) : Host.Outcome State Fault Refusal :=
  ok (s.clientCommand c Ent.STRING_DERATE n (.num v) (applyStringDerate n v))

/-- STRING_OVER_CURRENT (cause 6). -/
def execStringOverCurrent (n : Fin 8) (s : State) : Host.Outcome State Fault Refusal :=
  if (s.str n.val).overRun ≥ 10 then ok (s.stringCause n.val 6 (tenthWord (ratAbs (s.strAmps n.val)))) else ok s

/-- STRING_INSULATION_FAULT (cause 10). -/
def execStringInsulationFault (n : Fin 8) (s : State) : Host.Outcome State Fault Refusal :=
  match (s.str n.val).isoLow with
  | some t => if s.ticks ≥ t + secTicks (s.nat Ent.ISO_FAULT_TIME n.val) then ok (s.stringCause n.val 10 0) else ok s
  | none => ok s

/-- STRING_CURRENT_SENSE_LOST (cause 11). -/
def execStringCurrentSenseLost (n : Fin 8) (s : State) : Host.Outcome State Fault Refusal :=
  if (s.str n.val).badRun ≥ 20 then ok (s.stringCause n.val 11 0) else ok s

/-- STRING_CAUSE_CLEARED (Table 11-2). -/
def execStringCauseCleared (n : Fin 8) (cause : Fin 17) (s : State) : Host.Outcome State Fault Refusal :=
  let k := s.str n.val
  if s.causeCleared n.val cause.val && !latching cause.val then
    ok (s.setStr n.val { k with causes := k.causes.filter (· != cause.val), latched := if cause.val == 16 then none else k.latched })
  else ok s

/-- STRING_COILS_OFF (R272): two cycles below OPEN_CURRENT. -/
def execStringCoilsOff (n : Fin 8) (s : State) : Host.Outcome State Fault Refusal :=
  let k := s.str n.val
  if s.strState n.val == Str.OPENING && k.ropeOff.isNone && decide (k.lowRun ≥ 2) then ok (s.openCoils n.val false) else ok s

/-- STRING_FORCED_OPEN (R272): OPEN_TIMEOUT passes first. -/
def execStringForcedOpen (n : Fin 8) (s : State) : Host.Outcome State Fault Refusal :=
  let k := s.str n.val
  if s.strState n.val == Str.OPENING && k.ropeOff.isNone && decide (s.ticks ≥ k.openAt + msTicks (s.nat Ent.OPEN_TIMEOUT n.val)) then
    ok ((s.raise Evt.STRING_FORCED_OPEN n.val (tenthWord (s.strAmps n.val)) k.why).openCoils n.val false)
  else ok s

/-- WELD_CHECK_END (R273). -/
def execWeldCheckEnd (n : Fin 8) (s : State) : Host.Outcome State Fault Refusal :=
  let m := n.val
  let k := s.str m
  if s.strState m == Str.WELD_CHECK && decide (s.ticks ≥ k.stateAt + msTicks (s.nat Ent.WELD_CHECK_TIME m)) then
    let f := s.strFloor m
    if (s.strVolts m - f) / 2 < s.vString m - f then
      let s1 := ((s.raise Evt.STRING_CONTACTOR_WELDED m 2 (tenthWord (s.vString m))).setWeld ((s.coilsInUse m).getD 0 0xFF) true).setWeld
        ((s.coilsInUse m).getD 1 0xFF) true
      ok ((s1.setStr m { k with causes := (k.causes.filter (· != 13)) ++ [13], lock := if k.lock == 0 then 13 else k.lock
                                tested := false }).settleString m)
    else ok (s.settleString m)
  else ok s

/-- The rope of a string opens (R274): the power die turns the group's gates off at once and its coils off 1 ms later; a
control die that serves records cause 2. -/
def State.ropeOpens (s : State) (n : Nat) : State :=
  let s1 := (s.disconnectGroup n).setStr n { s.str n with ropeOff := some (s.ticks + 20) }
  if s.controlUp then s1.stringCause n 2 0 else s1.setStr n { s1.str n with hwDue := 1 }

/-- The coil channels of a string as its half holds them (R274). -/
def State.heldCoils (s : State) (n : Nat) : List Nat := ((s.half (n / 4)).strCoils.getD (n % 4) []).filter (fun c => decide (c < 40))

/-- ROPE_COILS_OFF (R274): 1 ms after the rope opened, whatever is commanded. -/
def execRopeCoilsOff (n : Fin 8) (s : State) : Host.Outcome State Fault Refusal :=
  let m := n.val
  match (s.str m).ropeOff with
  | some t =>
    if s.ticks ≥ t then
      let driven := (s.heldCoils m).any s.lcOn
      let s0 := s.setStr m { s.str m with ropeOff := none }
      let s1 := s0.each (s0.heldCoils m) (fun z c => (z.setLc c { z.lcs c with rope := true }).lcUpdate c)
      let k := s1.str m
      if s.controlUp && s.strState m == Str.OPENING then ok (s1.openCoils m true)
      else ok (s1.setStr m { k with hwOpened := k.hwOpened || driven, hwDue := if k.hwDue == 1 && driven then 2 else k.hwDue })
    else ok s
  | none => ok s

/-- The rope is whole again: the interlock lets the coils go (R274). -/
def State.ropeCloses (s : State) (n : Nat) : State :=
  let s1 := s.setStr n { s.str n with ropeOff := none }
  s1.each (s1.heldCoils n) (fun z c => (z.setLc c { z.lcs c with rope := false }).lcUpdate c)

/-- A write of STRING_RESET (R279). -/
def applyStringReset (n : Nat) (s : State) : State × Nat :=
  let k := s.str n
  if s.strState n != Str.LOCKED_OUT then (s, St.ALREADY_DONE)
  else
    let present (c : Nat) : Bool := match c with
      | 2 => s.nat Ent.ROPE_STATE n != Rope.CLOSED
      | 3 => !(s.highCells n).isEmpty
      | 4 => !(s.lowCells n).isEmpty
      | 5 => !(s.hotTemps n).isEmpty
      | 6 => !s.chanValid (s.nat Ent.STRING_I_MCH n) || decide (s.rat Ent.STRING_I_TRIP n < ratAbs (s.strAmps n))
      | 13 => !k.tested
      | 12 => !(s.setStr n { k with causes := k.causes.filter (fun c => !latching c && c != 12) }).mayConnect n true
      | _ => false
    if k.causes.any (fun c => (latching c || c == 12) && present c) then (s, St.CONFLICT)
    else
      let s1 := s.setStr n { k with lock := 0, causes := k.causes.filter (fun c => !latching c && c != 12), fails := [] }
      (s1.enterStr n (if s.strEnabled n then Str.OPEN else Str.DISABLED), St.OK)

/-- STRING_RESET (R279). -/
def execStringReset (c : Client) (n : Nat) (v : Nat) (s : State) : Host.Outcome State Fault Refusal :=
  ok (s.clientCommand c Ent.STRING_RESET n (.num v) (applyStringReset n))

/-- A string test begins (R280). -/
def State.startStringTest (s : State) (n : Nat) (slot : Option Nat) : State :=
  let s1 := (s.beginTest (Ent.STRING_TEST.target n) slot).enterStr n Str.TESTING
  (s1.setStr n { s1.str n with coils := s1.coilsOf n, rises := 0 }).startStep n 1

/-- The string is in service for the purpose of a test (R280, Table 1-7). -/
def State.strInService (s : State) (n : Nat) : Bool :=
  carrying (s.strState n) || s.strState n == Str.WELD_CHECK || (s.coilsInUse n).any s.lcOn

/-- A write of STRING_TEST (R280). -/
def applyStringTest (n : Nat) (v : Nat) (queue : Bool) (s : State) : State × Nat :=
  s.testOrQueue (Ent.STRING_TEST.target n) (leBytes 1 v) queue (s.strInService n) (fun z slot => z.startStringTest n slot)

/-- STRING_TEST (R280). -/
def execStringTest (c : Client) (n : Nat) (v : Nat) (s : State) : Host.Outcome State Fault Refusal :=
  ok (s.clientCommand c Ent.STRING_TEST n (.num v) (applyStringTest n v c.queue))

/-- A test that passed clears the weld condition of R279 and with it WELD_FLAG on the main coils (R391; log entry 64). -/
def State.clearWeld (s : State) (n : Nat) : State :=
  ((s.setWeld ((s.coilsInUse n).getD 0 0xFF) false).setWeld ((s.coilsInUse n).getD 1 0xFF) false).setStr n { s.str n with tested := true }

/-- STRING_TEST_DONE (R280): steps 1 to 3 have run. -/
def execStringTestDone (n : Fin 8) (s : State) : Host.Outcome State Fault Refusal :=
  let m := n.val
  let k := s.str m
  if s.strState m == Str.TESTING && k.step == 4 then
    let st := if k.rises == 0 then St.OK else St.RANGE
    let s1 := ((s.setCoils m false false false).endTest (Ent.STRING_TEST.target m) st).setNat Ent.STRING_TEST_RESULT m st
    let s2 := (s1.raise Evt.STRING_TEST_DONE m st k.rises).when (st == St.OK) (fun z => z.clearWeld m)
    ok (s2.settleString m)
  else ok s

/-- A swap changes strings (R281): disabling, and a change of a coil channel of a string in use, open it with cause 14. -/
def State.placeStrings (s old : State) : State :=
  s.each (List.range 8) fun z n =>
    let st := z.strState n
    let moved := z.coilsOf n != old.coilsOf n
    if (connecting st || st == Str.CONNECTED) && (!z.strEnabled n || moved) then z.stringCause n 14 0
    else if st == Str.TESTING && (!z.strEnabled n || moved) then (z.cancelStringTest n).stringCause n 14 0
    else if st == Str.OPEN && !z.strEnabled n then z.enterStr n Str.DISABLED
    else if st == Str.DISABLED && z.strEnabled n then
      (z.setStr n { z.str n with causes := [] }).enterStr n Str.OPEN
    else z

/-- A control die that resumes settles each string by its coils (R277), and its causes and timers begin anew; a rope that opened meanwhile
is recorded (R274). -/
def State.restartStrings (s : State) : State :=
  s.each (List.range 8) fun z n =>
    let cs := z.coilsOf n
    let on := cs.map (fun c => decide (c < 40) && z.lcOn c)
    let k := z.str n
    let z0 := z.setStr n { StrSt.none with coils := cs, ropeOff := k.ropeOff, hwOpened := k.hwOpened }
    if k.hwDue == 2 then ((z0.enterStr n Str.CONNECTED).stringCause n 2 0).openCoils n true
    else
      let z1 :=
        if on == [true, true, false] then
          let y := z0.enterStr n Str.CONNECTED
          y.setStr n { y.str n with startLate := true }
        else if on.any id then (z0.enterStr n Str.CONNECTED).stringCause n 1 0
        else z0.settleString n
      z1.when (k.hwDue == 1) (fun y => y.stringCause n 2 0)

end Sys2Proof.Machine
end

