-- ==== Sys2Proof/Machine/LoadRows.lean ====
section
/-!
DEFINITION. The commands of the protected load switch channels (R374 to R392), command packets and fail-safe (R12,
R16, R386 to R388) among them.
-/
namespace Sys2Proof.Machine
open Sys2Proof

/-- Channels of a half. -/
def halfChannels (h : Nat) : List Nat := (List.range 20).map (· + 20 * h)

/-- A turn-off's clamp energy joins the channel's bucket; a single clamp above 300 mJ or a bucket above its budget locks
the channel out (R383). -/
def State.absorb (s : State) (x : Clamp) : State :=
  if 40 ≤ x.ch then s
  else
    let b := s.bucketNow x.ch + ((x.energy : Nat) : Rat)
    let s1 := s.setLc x.ch { s.lcs x.ch with bucket := b, bucketAt := s.ticks }
    if (x.energy > 300000 || decide (((s.nat Ent.LC_CLAMP_BUDGET x.ch * 1000 : Nat) : Rat) < b)) && !(s.lcs x.ch).lockout then
      ((s1.setLc x.ch { s1.lcs x.ch with lockout := true }).raise Evt.LC_CLAMP_LOCKOUT x.ch (ratRound (((x.energy : Nat) : Rat) / 1000)).toNat
        (ratRound (b / 1000)).toNat).lcUpdate x.ch
    else s1

/-- Fail-safe of a half ends with the first valid packet, which reproduces the outputs read back (R76, R388); not while its serial watchdog
is failed (R82). -/
def State.endFailsafe (s : State) (h : Nat) : State :=
  let x := s.half h
  if !x.failsafe || x.watchdog then s
  else
    let s1 := s.each (halfChannels h) (fun z c =>
      let k := z.lcs c
      let d := if k.on then (s.failWant c k).2 else 0
      z.setLc c { k with cmd := k.on, duty := d, asked := (d : Rat) / 1024 })
    ((s1.setHalf h { x with failsafe := false }).setNat Ent.FAILSAFE_ACTIVE 0 (setBit (s.nat Ent.FAILSAFE_ACTIVE 0) h false)).raise
      Evt.LC_FAILSAFE_ENDED h ((s.ticks - x.failSince) / 20) 0

/-- The latch of load channels at 34.0 µs (R375). -/
def State.latchChannels (s : State) : State :=
  s.each (List.range 40) (fun z c => (z.setLc c { z.lcs c with got := (z.lcs c).cmd, gotDuty := (z.lcs c).duty }).lcUpdate c)

/-- The power die counts a packet of the standby (R12). -/
def State.countStandby (s : State) : State :=
  ({ s with pw := { s.pw with standbyPackets := s.pw.standbyPackets + 1 } }).bump Ent.STANDBY_PACKET_COUNT

/-- The power die latches the active die's packet at 34.0 µs, for channels and groups (R12, R375); fail-safe ends. -/
def State.latchPacket (s : State) (clamps : List Clamp) : State :=
  let s1 := ({ s with pw := { s.pw with latched := true, silent := 0 } }.endFailsafe 0).endFailsafe 1
  let s2 := s1.latchChannels.each clamps State.absorb
  s2.each (List.range 8) (fun z g => (z.anchorGroup g).latchGroup g)

/-- A half applies its fail-safe states (R16, R388). -/
def State.applyFailsafe (s : State) (h : Nat) : State :=
  if (s.half h).failsafe || !s.pwOk h then s
  else
    let cs := halfChannels h
    let s1 := s.setHalf h { s.half h with failsafe := true, failSince := s.ticks }
    let s2 := s1.each cs (fun z c => z.lcUpdate c)
    let changed := cs.filter (fun c => s.lcOn c != s2.lcOn c || s.dutyApplied c != s2.dutyApplied c)
    let s3 := (s2.setNat Ent.FAILSAFE_ACTIVE 0 (setBit (s.nat Ent.FAILSAFE_ACTIVE 0) h true)).bump Ent.FAILSAFE_COUNT
    s3.raise Evt.LC_FAILSAFE_APPLIED h s.pw.silent (ofBits (changed.map (· - 20 * h)))

/-- Gates of every running group off (R217). -/
def State.allGatesOff (s : State) : State := s.each (List.range 8) (fun z g => z.disconnectGroup g)

/-- The serial watchdog of a half fails (R82): the half applies its fail-safe states, and the gates of the groups it drives go off. -/
def State.failWatchdog (s : State) (h : Nat) : State :=
  let s1 := (s.applyFailsafe h).each ((List.range 8).filter (fun g => (s.phasesOf g).any (fun p => p / 16 == h))) (fun z g => z.disconnectGroup g)
  s1.setHalf h { s1.half h with watchdog := true }

/-- FAILSAFE_TIMEOUT (R16): four consecutive cycles without a valid command packet. -/
def execFailsafeTimeout (clamps : List Clamp) (s : State) : Host.Outcome State Fault Refusal :=
  if s.pw.silent < 4 then ok s
  else ok ((((s.applyFailsafe 0).applyFailsafe 1).allGatesOff).each clamps State.absorb)

/-- A write of LC_COMMAND (R375, R377). -/
def applyLcCommand (c : Nat) (v : Nat) (s : State) : State × Nat :=
  if s.lcOwner c != 0 then (s, St.CONFLICT) else ((s.setNat Ent.LC_COMMAND c v).lcCommand c (v == 1), St.OK)

/-- A write of LC_DUTY, as an F32 pattern (R375, R377). -/
def applyLcDuty (c : Nat) (v : Nat) (s : State) : State × Nat :=
  if s.lcOwner c != 0 then (s, St.CONFLICT) else ((s.setNat Ent.LC_DUTY c v).lcDuty c (F32.toRat v), St.OK)

/-- LC_COMMAND (R377). -/
def execLcCommand (c : Client) (ch : Nat) (v : Nat) (s : State) : Host.Outcome State Fault Refusal :=
  ok (s.clientCommand c Ent.LC_COMMAND ch (.num v) (applyLcCommand ch v))

/-- LC_DUTY (R377). -/
def execLcDuty (c : Client) (ch : Nat) (v : Nat) (s : State) : Host.Outcome State Fault Refusal :=
  ok (s.clientCommand c Ent.LC_DUTY ch (.num v) (applyLcDuty ch v))

/-- LC_PULL_IN_END (R375). -/
def execLcPullInEnd (ch : Fin 40) (s : State) : Host.Outcome State Fault Refusal :=
  let k := s.lcs ch.val
  if k.on && k.pullIn && decide (s.ticks ≥ k.onAt + msTicks (s.nat Ent.LC_PULL_IN_TIME ch.val)) then
    ok ((s.setLc ch.val { k with pullIn := false }).lcUpdate ch.val)
  else ok s

/-- A protective latch reaches the channel's owner (R391): an outlet's session ends by fast stop and the outlet goes to
FAULTED after release; a string opens by cause 16 until the channel is reset. -/
def State.latchOwner (s : State) (c : Nat) : State :=
  match (List.range 8).find? (fun o => s.nat Ent.CONTACTOR_CHANNEL o == c || s.nat Ent.LOCK_CHANNEL o == c) with
  | some o =>
    if s.sesLive o then (s.setSess o { s.sess o with faultAfter := true }).endSession o End.MODULE_FAULT true else s
  | none =>
    match s.coilString c with
    | some n => (s.setStr n { s.str n with latched := some c }).stringCause n 16 0
    | none => s

/-- The channel becomes LATCHED_OFF (R381). -/
def State.latchOff (s : State) (c cause : Nat) : State :=
  if (s.lcs c).latchedOff then s
  else (((s.setLc c { s.lcs c with latchedOff := true, cause := cause, wait := none }).raise Evt.LC_RETRY_EXHAUSTED c cause
    (s.nat Ent.LC_TRIP_COUNT c)).lcUpdate c).latchOwner c

/-- Retries the channel is allowed: none for an outlet contactor or a string coil (R381). -/
def State.retryLimit (s : State) (c : Nat) : Nat :=
  if s.lcOwner c == 1 || s.lcOwner c == 3 then 0 else s.nat Ent.LC_RETRY_LIMIT c

/-- A protective shutdown (R379, R381): the thermal latch wins; otherwise the retry is counted, the channel waits or
latches, and its clamp energy is taken. -/
def State.shutDown (s : State) (c cause : Nat) (kind : EvKind) (value clamp : Nat) : State :=
  let k := s.lcs c
  if !k.on || k.thermal then s
  else
    let n := s.nat Ent.LC_RETRIES_USED c + 1
    let s1 := ((s.bump Ent.LC_RETRIES_USED c).bump Ent.LC_TRIP_COUNT c).raise kind c n value
    let s2 := if n > s.retryLimit c then s1.latchOff c cause
      else (s1.setLc c { s1.lcs c with wait := some (s.ticks + msTicks (s.nat Ent.LC_RETRY_DELAY c * 2 ^ (n - 1))) }).lcUpdate c
    s2.absorb ⟨c, clamp⟩

/-- LC_SHORT_CIRCUIT (R379): the current reached 20 A. -/
def execLcShortCircuit (ch : Fin 40) (peak : Nat) (clamp : Nat) (s : State) : Host.Outcome State Fault Refusal :=
  if peak < 20000 then ok s else ok (s.shutDown ch.val 0 Evt.LC_SHORT_CIRCUIT peak clamp)

/-- LC_LIMIT_TIMEOUT (R379): the limit episode in progress reached LC_LIMIT_TIME; it began in the cycle its first status packet tells of. -/
def execLcLimitTimeout (ch : Fin 40) (peak : Nat) (clamp : Nat) (s : State) : Host.Outcome State Fault Refusal :=
  let k := s.lcs ch.val
  if !k.limiting || decide ((s.ticks + 2 - k.limAt) * 50 < s.nat Ent.LC_LIMIT_TIME ch.val) then ok s
  else ok (s.shutDown ch.val 1 Evt.LC_LIMIT_TIMEOUT peak clamp)

/-- LC_OVERLOAD (R379): the frame mean has exceeded LC_I_MAX for 1,000 consecutive frames. -/
def execLcOverload (ch : Fin 40) (clamp : Nat) (s : State) : Host.Outcome State Fault Refusal :=
  if 1000 ≤ (s.lcs ch.val).hot then
    ok (s.shutDown ch.val 2 Evt.LC_OVERLOAD (ratRound (s.rat Ent.LC_CURRENT ch.val * 1000)).toNat clamp)
  else ok s

/-- LC_THERMAL_LATCH (R380): rise in 0.1 K, channel temperature in 0.1 °C; the fifth setting in 10 min latches the channel
off with cause 3. -/
def execLcThermalLatch (ch : Fin 40) (rise : Nat) (temp : Int) (clamp : Nat) (s : State) : Host.Outcome State Fault Refusal :=
  let c := ch.val
  let k := s.lcs c
  if k.thermal || !(decide (rise > 600) || decide (temp ≥ 1700)) then ok s
  else
    let sets := s.ticks :: k.thermals.filter (fun t => decide (s.ticks < t + secTicks 600))
    let s1 := ((s.setLc c { k with thermal := true, thermals := sets }).raise Evt.LC_THERMAL_LATCH c rise (word 32 temp)).lcUpdate c
    let s2 := if k.on then s1.absorb ⟨c, clamp⟩ else s1
    ok (if sets.length ≥ 5 then s2.latchOff c 3 else s2)

/-- LC_THERMAL_CLEAR (R380): at a rise of at most 40 K and at most 150 °C the channel resumes its command; a retry the latch held off is made
now (R381). -/
def execLcThermalClear (ch : Fin 40) (rise : Nat) (temp : Int) (s : State) : Host.Outcome State Fault Refusal :=
  let c := ch.val
  let k := s.lcs c
  if !k.thermal || decide (rise > 400) || decide (temp > 1500) then ok s
  else
    let count := (k.thermals.filter (fun t => decide (s.ticks < t + secTicks 600))).length
    let wait := match k.wait with | some t => if t ≤ s.ticks then none else some t | none => none
    ok (((s.setLc c { k with thermal := false, wait := wait }).raise Evt.LC_THERMAL_CLEAR c rise count).lcUpdate c)

/-- LC_RETRY (R381). -/
def execLcRetry (ch : Fin 40) (s : State) : Host.Outcome State Fault Refusal :=
  let k := s.lcs ch.val
  match k.wait with
  | some t => if t ≤ s.ticks && !k.thermal then ok ((s.setLc ch.val { k with wait := none }).lcUpdate ch.val) else ok s
  | none => ok s

/-- LC_RETRY_BUDGET_RESET (R381). -/
def execLcRetryBudgetReset (ch : Fin 40) (s : State) : Host.Outcome State Fault Refusal :=
  let k := s.lcs ch.val
  match k.span with
  | some t =>
    if k.on && !k.limiting && decide (s.ticks ≥ t + msTicks (s.nat Ent.LC_RETRY_CLEAR_TIME ch.val)) then
      ok (s.setNat Ent.LC_RETRIES_USED ch.val 0)
    else ok s
  | none => ok s

/-- The function that owns a channel has accepted its own reset of a weld: its outlet is not FAULTED, its string not
LOCKED_OUT (R188, R279, R382). -/
def State.ownerReset (s : State) (c : Nat) : Bool :=
  (List.range 8).all (fun o => !(s.nat Ent.CONTACTOR_CHANNEL o == c && s.sesState o == Ses.FAULTED)) &&
    (match s.coilString c with | some n => s.strState n != Str.LOCKED_OUT | none => true)

/-- A write of LC_RESET (R382). -/
def applyLcReset (c : Nat) (s : State) : State × Nat :=
  let k := s.lcs c
  let used := s.nat Ent.LC_RETRIES_USED c
  let s0 := if s.ownerReset c then s.setWeld c false else s
  if k.thermal || decide (((s.nat Ent.LC_CLAMP_BUDGET c * 250 : Nat) : Rat) < s.bucketNow c) then (s, St.CONFLICT)
  else if !k.latchedOff && !k.lockout && used == 0 then (s0, St.ALREADY_DONE)
  else
    let s1 := s0.setLc c { s0.lcs c with latchedOff := false, lockout := false, thermals := [] }
    (((s1.setNat Ent.LC_RETRIES_USED c 0).raise Evt.LC_RESET_DONE c (s.nat Ent.LC_STATE c) used).lcUpdate c, St.OK)

/-- LC_RESET (R382). -/
def execLcReset (c : Client) (ch : Nat) (v : Nat) (s : State) : Host.Outcome State Fault Refusal :=
  ok (s.clientCommand c Ent.LC_RESET ch (.num v) (applyLcReset ch))

/-- The current has stood on the other side of LC_OPEN_LOAD_I for LC_OPEN_LOAD_TIME of measured on-time (R384). -/
def State.openLoadDue (s : State) (c : Nat) : Bool := decide (s.nat Ent.LC_OPEN_LOAD_TIME c * 1000 ≤ (s.lcs c).openT)

/-- LC_OPEN_LOAD (R384). -/
def execLcOpenLoad (ch : Fin 40) (s : State) : Host.Outcome State Fault Refusal :=
  let k := s.lcs ch.val
  if !k.openLoad && s.openLoadDue ch.val then
    ok ((s.setLc ch.val { k with openLoad := true, openT := 0 }).raise Evt.LC_OPEN_LOAD ch.val k.level 0)
  else ok s

/-- LC_OPEN_LOAD_CLEAR (R384). -/
def execLcOpenLoadClear (ch : Fin 40) (s : State) : Host.Outcome State Fault Refusal :=
  let k := s.lcs ch.val
  if k.openLoad && s.openLoadDue ch.val then
    ok ((s.setLc ch.val { k with openLoad := false, openT := 0 }).raise Evt.LC_OPEN_LOAD_CLEAR ch.val k.level 0)
  else ok s

/-- A current measured over `us` µs of on-time joins the span of R384, or ends it. -/
def LcSt.measured (k : LcSt) (level us limit : Nat) : LcSt :=
  let other := if k.openLoad then decide (limit < level) else decide (level < limit)
  { k with level := level, openT := if other then k.openT + us else 0 }

/-- A channel is commanded on: by its owner for the next packet, or by a scheduled WRITE due within the 20 ms of a test (R385). -/
def State.lcOrdered (s : State) (c : Nat) : Bool :=
  let k := s.lcs c
  (match s.nat Ent.LC_MODE c with | 0 => false | 2 => decide (0 < k.duty) | _ => k.cmd) ||
    s.armed.any (fun i => s.aType i == ActType.WRITE && decide (s.aSfn i ≤ s.sfn + 20) && leNat (s.bytes Ent.ACTION_VALUE i) != 0 &&
      (s.nat Ent.ACTION_TARGET i == Ent.LC_COMMAND.target c || s.nat Ent.ACTION_TARGET i == Ent.LC_DUTY.target c))

/-- A channel outside its idle window: on, commanded on within the test's duration, or off for less than 50 ms (R385, Table 1-7). -/
def State.lcInService (s : State) (c : Nat) : Bool :=
  (s.lcs c).on || s.lcOrdered c || decide (s.ticks < (s.lcs c).offAt + msTicks 50)

/-- A write of LC_TEST (R385). -/
def applyLcTest (c : Nat) (v : Nat) (queue : Bool) (s : State) : State × Nat :=
  s.testOrQueue (Ent.LC_TEST.target c) (leBytes 1 v) queue (s.lcInService c) (fun z slot => z.beginTest (Ent.LC_TEST.target c) slot)

/-- LC_TEST (R385). -/
def execLcTest (c : Client) (ch : Nat) (v : Nat) (s : State) : Host.Outcome State Fault Refusal :=
  ok (s.clientCommand c Ent.LC_TEST ch (.num v) (applyLcTest ch v c.queue))

/-- The first step of a channel test that fails, 0 when all pass (R385; limits of Table 22-5). -/
def failingStep (x : LcCheck) : Nat :=
  let within (t : Option Nat) (a b : Nat) : Bool := match t with | some v => decide (a ≤ v) && decide (v ≤ b) | none => false
  if x.reading < 950 || 1050 < x.reading then 1
  else if !within x.limitAt 10800 13200 || !within x.shortAt 18000 22000 then 2
  else if 50 < x.apart.natAbs then 3
  else if 5000 < x.leak then 4
  else 0

/-- LC_TEST_DONE (R385): 20 ms after the start, with what the test measured. -/
def execLcTestDone (ch : Fin 40) (x : LcCheck) (s : State) : Host.Outcome State Fault Refusal :=
  let t := Ent.LC_TEST.target ch.val
  match s.running.find? (fun r => r.target == t) with
  | some r =>
    if s.ticks ≥ r.since + msTicks 20 then
      let st := if failingStep x == 0 then St.OK else St.RANGE
      ok (((s.endTest t st).setNat Ent.LC_TEST_RESULT ch.val st).raise Evt.LC_TEST_DONE ch.val st (failingStep x))
    else ok s
  | none => ok s

/-- HALF_OVERLOAD (R374): the frame-mean sum of a half has exceeded 24 A for 1,000 consecutive frames. -/
def execHalfOverload (half : Fin 2) (s : State) : Host.Outcome State Fault Refusal :=
  let x := s.half half.val
  let sum := s.rat (if half.val == 0 then Ent.HALF_CURRENT_A else Ent.HALF_CURRENT_B) 0
  if x.heavy ≥ 1000 && !x.told then
    ok ((s.setHalf half.val { x with told := true }).raise Evt.HALF_OVERLOAD half.val (ratRound (sum * 1000)).toNat 0)
  else ok s

/-- A supply condition of a half is set or cleared, and its channels follow (R390). -/
def State.supplyChange (s : State) (h : Nat) (x : HalfSt) : State :=
  (s.setHalf h x).each (halfChannels h) (fun z c => z.lcUpdate c)

/-- A condition that sets in: the 10 ms of its recovery are counted from now. -/
def HalfSt.struck (x : HalfSt) : HalfSt := { x with okLow := 0, okHigh := 0, okGround := 0 }

/-- VAUX_UNDERVOLTAGE (R390): below 8.5 V. -/
def execVauxUndervoltage (half : Fin 2) (mv : Int) (s : State) : Host.Outcome State Fault Refusal :=
  let x := s.half half.val
  if mv ≥ 8500 || x.under then ok s
  else ok ((s.raise Evt.VAUX_UNDERVOLTAGE half.val (word 32 mv) 0).supplyChange half.val { x.struck with under := true })

/-- VAUX_OVERVOLTAGE (R390): above 38 V a hold, above 48 V a cut-off. -/
def execVauxOvervoltage (half : Fin 2) (mv : Int) (s : State) : Host.Outcome State Fault Refusal :=
  let x := s.half half.val
  if mv > 48000 && !x.dump then
    ok ((s.raise Evt.VAUX_OVERVOLTAGE half.val (word 32 mv) 1).supplyChange half.val { x.struck with surge := true, dump := true })
  else if mv > 38000 && !x.surge then
    ok ((s.raise Evt.VAUX_OVERVOLTAGE half.val (word 32 mv) 0).supplyChange half.val { x.struck with surge := true })
  else ok s

/-- LOAD_GROUND_LOST (R390): the load ground stands more than 1 V from device ground. -/
def execLoadGroundLost (half : Fin 2) (mv : Nat) (s : State) : Host.Outcome State Fault Refusal :=
  let x := s.half half.val
  if mv ≤ 1000 || x.ground then ok s
  else ok ((s.raise Evt.LOAD_GROUND_LOST half.val mv 0).supplyChange half.val { x.struck with ground := true })

/-- VAUX_REVERSED (R390): below −0.5 V while VIO is present. -/
def execVauxReversed (half : Fin 2) (mv : Int) (s : State) : Host.Outcome State Fault Refusal :=
  let x := s.half half.val
  if mv ≥ -500 || x.reversed then ok s
  else ok ((s.raise Evt.VAUX_REVERSED half.val (word 32 mv) 0).supplyChange half.val { x.struck with reversed := true })

/-- VAUX_RECOVERY (R390): a condition (0 undervoltage, 1 hold, 2 load dump, 3 load ground, 4 reversal) has recovered for
10 ms (Table 16-4), and the lower ranks resume. -/
def execVauxRecovery (half : Fin 2) (cond : Fin 5) (s : State) : Host.Outcome State Fault Refusal :=
  let x := s.half half.val
  let held := match cond.val with | 0 | 4 => x.okLow | 1 | 2 => x.okHigh | _ => x.okGround
  if held < msTicks 10 then ok s
  else ok (s.supplyChange half.val
    (match cond.val with
     | 0 => { x with under := false }
     | 1 => { x with surge := false }
     | 2 => { x with dump := false }
     | 3 => { x with ground := false }
     | _ => { x with reversed := false }))

/-- The current a status packet brings for R384, with the on-time it stands for in µs: a channel steadily on gives the cycle's, a pulsing one the
last 100 µs of a pulse of at least 500 µs. -/
def State.onLevel (s : State) (x : LcSample) : Option (Nat × Nat) :=
  let d := s.dutyApplied x.ch
  if d == 1024 then some (x.current, 50)
  else
    let us := d * 1000000 / (1024 * s.nat Ent.LC_PWM_FREQ x.ch)
    if d == 0 || decide (us < 500) then none else x.pulse.map (fun v => (v, us))

/-- A half's supply as the status packet of a cycle tells it: the runs of R390's recoveries. -/
def HalfSt.supply (x : HalfSt) (mv : Int) (ground : Nat) : HalfSt :=
  { x with okLow := if 9000 ≤ mv then x.okLow + 1 else 0, okHigh := if mv ≤ 36000 then x.okHigh + 1 else 0
           okGround := if ground < 500 then x.okGround + 1 else 0 }

/-- The power die status packet of a cycle (R12, R374, R380, R381, R384, R390): currents join the frame's sums and the open-load spans, a limit
episode begins or ends (its end starts a new span), rises and VAUX are shown, clamps are counted. -/
def State.takePower (s : State) (p : PowerStatus) : State :=
  let s0 := (s.setHalf 0 ((s.half 0).supply p.vauxA p.groundA)).setHalf 1 ((s.half 1).supply p.vauxB p.groundB)
  let s1 := (s0.each p.clamps State.absorb).each (p.chans.filter (fun x => decide (x.ch < 40))) (fun z x =>
    let k := z.lcs x.ch
    let span := if k.limiting && !x.limiting && k.on then some z.ticks else k.span
    let limits := x.limiting && k.on
    let k1 := { k with
      sum := k.sum + x.current, limiting := limits, span := span, limAt := if limits && !k.limiting then z.ticks else k.limAt }
    (z.setLc x.ch (match z.onLevel x with
      | some (level, us) => k1.measured level us (z.nat Ent.LC_OPEN_LOAD_I x.ch)
      | none => k1)).setRat Ent.LC_TEMP_RISE x.ch
      (((x.temp - (if x.ch < 20 then p.caseA else p.caseB) : Int) : Rat) / 10))
  (s1.setRat Ent.VAUX_A 0 ((p.vauxA : Rat) / 1000)).setRat Ent.VAUX_B 0 ((p.vauxB : Rat) / 1000)

/-- Sum of a half's frame means, with the run of frames above 24 A (R374). -/
def State.halfFrame (s : State) (h : Nat) : State :=
  let e := if h == 0 then Ent.HALF_CURRENT_A else Ent.HALF_CURRENT_B
  let sum : Nat := (halfChannels h).foldl (fun a c => a + (s.lcs c).sum) 0
  let x := s.half h
  let above := decide (sum > 24000 * 20)
  (s.setRat e 0 (((sum : Nat) : Rat) / 20000)).setHalf h { x with heavy := if above then x.heavy + 1 else 0, told := x.told && above }

/-- The frame's figures of the load channels (R374, R392). The spec states no formula for CONDUCTION_LOSS: a free value
(log entry 1). -/
def State.lcFrame (s : State) : State :=
  let s1 := (s.halfFrame 0).halfFrame 1
  let s2 := s1.each (List.range 40) (fun z c =>
    let k := z.lcs c
    let above := k.on && decide (z.rat Ent.LC_I_MAX c * 20000 < ((k.sum : Nat) : Rat))
    ((z.setLc c { k with sum := 0, hot := if above then k.hot + 1 else 0 }).setRat Ent.LC_CURRENT c (((k.sum : Nat) : Rat) / 20000)).showLc c)
  let (f, s3) := s2.takeFree
  s3.setNat Ent.CONDUCTION_LOSS 0 (low 32 f)

/-- A swap changing LC_MODE or an owner of a channel that is on (R391): the new mode applies from cycle 0; a change to COIL
starts a pull-in, a change to DISABLED turns the channel off. -/
def State.placeChannels (s old : State) : State :=
  s.each (List.range 40) fun z c =>
    let k := z.lcs c
    let m := z.nat Ent.LC_MODE c
    if m == old.nat Ent.LC_MODE c then z
    else (z.setLc c (if m == 3 && k.on then { k with pullIn := true, onAt := z.ticks } else { k with pullIn := false })).lcUpdate c

end Sys2Proof.Machine
end

