-- ==== Sys2Proof/Machine/MeterEngine.lean ====
section
/-!
DEFINITION. The metering engine of a die (R327, R328): every conversion of a point's channels, paired by interpolation, delayed by 90°
for the reactive energy, and summed until the commit; and the result block, which brings the conversions of a window.
-/
namespace Sys2Proof.Machine
open Sys2Proof

/-- Channels of a point: the used bytes of U_CHANNELS and I_CHANNELS (R325), and the pairs of voltage and current channel. -/
def channelBytes (v : Nat) : List Nat := ((List.range 4).map (fun i => field v (8 * i) 8)).filter (fun c => decide (c < 96))
def State.pointAmpsCh (s : State) (pt : Nat) : List Nat := channelBytes (s.nat Ent.I_CHANNELS pt)
def State.pointChannels (s : State) (pt : Nat) : List Nat := channelBytes (s.nat Ent.U_CHANNELS pt) ++ s.pointAmpsCh pt
def State.pairsOf (s : State) (pt : Nat) : List (Nat × Nat) := (channelBytes (s.nat Ent.U_CHANNELS pt)).zip (s.pointAmpsCh pt)

/-- √x to 2⁻³² of its unit. -/
def sqrtRat (x : Rat) : Rat := ((isqrt (ratFloor (x * 2 ^ 64)).toNat : Nat) : Rat) / 2 ^ 32

/-- A metering die meters: it runs, has not failed and has not stopped on a power cut. -/
def State.metering (s : State) (d : Nat) : Bool :=
  s.meterRunning d && !s.meterFailed d && !(if d == 0 then s.legal.stop0 else s.legal.stop1)

/-- A leg before any conversion. -/
def LegEng.none : LegEng := ⟨[], [], [], [], 0, 0, 0, 0, 0, 0, 0, 0, 0, 0, 0, [], 0, 0⟩

/-- The value at an instant by linear interpolation between the two values, newest first, that bracket it (R327). -/
def between : List (Nat × Rat) → Nat → Option Rat
  | [], _ => none
  | [a], t => if t == a.1 then some a.2 else none
  | a :: b :: r, t =>
    if decide (b.1 < t) && decide (t ≤ a.1) then some (b.2 + (a.2 - b.2) * ((t - b.1 : Nat) : Rat) / ((a.1 - b.1 : Nat) : Rat))
    else between (b :: r) t

/-- The current conversions that two voltages bracket, each with the voltage at its instant. -/
def bracketed (vs : List (Nat × Rat)) (l : List Sample) : List (Rat × Sample) :=
  l.filterMap (fun x => (between vs x.at_).map (fun u => (u, x)))

/-- The current conversions that wait for the next voltage: those later than the newest. One earlier than every voltage has none. -/
def unbracketed (vs : List (Nat × Rat)) (l : List Sample) : List Sample :=
  l.filter (fun x => match vs with | v :: _ => decide (v.1 < x.at_) | [] => true)

/-- Taps of the quadrature filter, and its group delay in voltage conversions (R327). -/
def quadTaps : Nat := 255
def quadDelay : Nat := 127

/-- A voltage conversion joins the leg; with 255 of them the filter gives u⊥ at the instant its group delay names (AC only). -/
def LegEng.addVolts (ac : Bool) (k : LegEng) (x : Nat × Rat) : LegEng :=
  let us := (x :: k.us).take quadTaps
  { k with
    us := us
    qs := if ac && us.length == quadTaps then
        ((us.getD quadDelay (0, 0)).1, ratSum ((us.zip (List.range quadTaps)).map (fun y => Config.quadratureTap y.2 * y.1.2))) :: k.qs
      else k.qs
    lastU := x.1 + 1, u2 := k.u2 + x.2 * x.2, nu := k.nu + 1 }

/-- A current conversion joins the leg. -/
def LegEng.addAmps (ac : Bool) (k : LegEng) (x : Sample) : LegEng :=
  { k with wait := k.wait ++ [x], waitQ := if ac then k.waitQ ++ [x] else [], lastI := x.at_ + 1, n := k.n + 1, sum := k.sum + x.amps
           i2 := k.i2 + x.amps * x.amps, ni := k.ni + 1 }

/-- The products of the conversions that are bracketed join the sums, exactly (R327, R328, R330). -/
def LegEng.settle (k : LegEng) : LegEng :=
  let ps := bracketed k.us k.wait
  { k with
    p := k.p + ratSum (ps.map (fun x => x.1 * x.2.amps * x.2.dt))
    ii := k.ii + ratSum (ps.map (fun x => x.2.amps * x.2.amps * x.2.dt))
    q := k.q + ratSum ((bracketed k.qs k.waitQ).map (fun x => x.1 * x.2.amps * x.2.dt))
    wait := unbracketed k.us k.wait, waitQ := unbracketed k.qs k.waitQ, qs := k.qs.take 1 }

/-- Conversions of a leg's voltage and current, each list in order of its instants, enter once each. -/
def LegEng.feed (k : LegEng) (ac : Bool) (us : List (Nat × Rat)) (is : List Sample) : LegEng :=
  let k1 := (us.filter (fun x => decide (k.lastU ≤ x.1))).foldl (LegEng.addVolts ac) k
  ((is.filter (fun x => decide (k.lastI ≤ x.at_))).foldl (LegEng.addAmps ac) k1).settle

/-- The conversions of a channel in the windows given: the instant of each, and its engineering value on a die (R311, R316). -/
def State.conversions (s : State) (d ch : Nat) (ws : List Window) : List (Nat × Rat) :=
  (ws.filter (fun w => w.ch == ch)).flatMap (fun w =>
    w.convs.map (fun c => (s.frames * 400000 + c.at_, s.engineering d ch (s.volts ch (s.corrected d c)))))

/-- The spacing of a channel's conversions in s (R312, R313). -/
def State.spacing (s : State) (d ch : Nat) : Rat := 1 / ((20000 * classCount (s.nat Ent.MCH_CLASS ch) (s.reduced d) : Nat) : Rat)

/-- A die's metering engine takes the conversions of its windows into every enabled point (R327). -/
def State.feedMeter (s : State) (d : Nat) (ws : List Window) : State :=
  if !s.metering d then s
  else s.each s.enabledPoints (fun z pt =>
    let m := z.meter d pt
    let legs := ((List.range (z.pairsOf pt).length).zip (z.pairsOf pt)).map (fun x =>
      (m.legs.getD x.1 LegEng.none).feed (pt == 0) (z.conversions d x.2.1 ws)
        ((z.conversions d x.2.2 ws).map (fun c => ⟨c.1, c.2, z.spacing d x.2.2⟩)))
    z.setMeter d pt { m with legs := legs })

/-- One leg of a metering point over the span a die commits (R327, R328, R330). Grid point: a phase's active and reactive
energy in J, its U_rms in V and its I_rms in A (three-wire: the elements U12 I1 and U32 I3). DC point: the sums of u i Δt
in J and of i² Δt in A² s, U_rms of the span and the mean current in A. -/
structure Leg where
  p : Rat
  q : Rat
  u : Rat
  i : Rat
deriving DecidableEq, Repr

/-- A whole frame ends (R328): its squares join those of the 200 ms, and U_rms and I_rms are formed over them. -/
def LegEng.endFrame (k : LegEng) : LegEng :=
  let past := ((k.u2, k.nu, k.i2, k.ni) :: k.past).take 200
  let rms (sq : Rat) (n : Nat) : Rat := if n == 0 then 0 else sqrtRat (sq / (n : Rat))
  { k with past := past, u2 := 0, nu := 0, i2 := 0, ni := 0
           uRms := rms (ratSum (past.map (fun x => x.1))) (past.map (fun x => x.2.1)).sum
           iRms := rms (ratSum (past.map (fun x => x.2.2.1))) (past.map (fun x => x.2.2.2)).sum }

/-- What a leg brings to a commit. -/
def LegEng.leg (k : LegEng) (ac : Bool) : Leg :=
  if ac then ⟨k.p, k.q, k.uRms, k.iRms⟩ else ⟨k.p, k.ii, k.uRms, if k.n == 0 then 0 else k.sum / (k.n : Rat)⟩

/-- The sums begin anew after a commit; the mean of the current is that of the frame (R336). -/
def LegEng.cleared (k : LegEng) (frameEnd : Bool) : LegEng :=
  { k with p := 0, q := 0, ii := 0, n := if frameEnd then 0 else k.n, sum := if frameEnd then 0 else k.sum }

/-- A result block of the running window is acted on (R11, R14): its CRC checks and its stamp is the window's. -/
def State.blockGood (s : State) (b : BlockIn) : Bool := b.crc && b.sfn == s.sfn && b.cycle == s.cycle

/-- A block that arrives after 4.0 µs (R17): control keeps the values it has, the miss is reported and counted; the third in a row fails
the die. The spec gives the task no identifier: a free value. -/
def State.lateBlock (s : State) (d overrun : Nat) : State :=
  let key := (8 + d) * 65536
  let before := Tab.get (0, 0) s.die.misses key
  let run := (if before.1 + 1 == s.ticks then before.2 else 0) + 1
  let (f, s1) := { s with die := { s.die with misses := Tab.set s.die.misses key (s.ticks, run) } }.takeFree
  let s1a := if d == 0 then { s1 with meas := { s1.meas with silent0 := 0 } } else { s1 with meas := { s1.meas with silent1 := 0 } }
  let s2 := (s1a.raise Evt.DEADLINE_MISS (2 + d) (low 16 f) (low 32 overrun)).bump Ent.DEADLINE_MISS_COUNT
  if run == 3 then s2.failMeter d 6 else s2

/-- The block of die `d` for the running window is in. -/
def State.cameBlock (s : State) (d : Nat) : State :=
  if d == 0 then { s with meas := { s.meas with came0 := true } } else { s with meas := { s.meas with came1 := true } }

/-- The blocks of both dies are in, as far as they run. -/
def State.blocksIn (s : State) : Bool :=
  (s.meas.came0 || !s.meterRunning 0 || s.meterFailed 0) && (s.meas.came1 || !s.meterRunning 1 || s.meterFailed 1)

/-- RESULT_BLOCK (R11, R14, R15, R314, R327): the die's own meter takes its conversions; control takes the windows of a good block in
time, and picks each channel's source once the blocks of both dies are in. -/
def execResultBlock (die : Fin 2) (b : BlockIn) (ws : List Window) (s : State) : Host.Outcome State Fault Refusal :=
  let d := die.val
  let s1 := s.feedMeter d (s.windowsOf d ws)
  if !s.meterRunning d || s.meterFailed d || !s.blockGood b then ok s1
  else if 4000 < b.arrived then ok (s1.lateBlock d (b.arrived - 4000))
  else
    let s2 := (s1.each (s1.windowsOf d ws) (fun z w => z.takeWindow d w)).cameBlock d
    ok (s2.when s2.blocksIn State.chooseSources)

/-- How far the dies' window means of a channel stand apart, in 0.01 % of its full scale (R80); none unless both windows are this cycle's. -/
def State.apartBy (s : State) (ch : Nat) : Option Rat :=
  let c := s.chanSt ch
  let fs := ratAbs (s.rat Ent.MCH_SENSOR_SCALE ch) * fullScale (s.nat Ent.MCH_RANGE ch)
  if c.d0.at_ == s.ticks && c.d1.at_ == s.ticks && s.meas.came0 && s.meas.came1 && decide (0 < fs) then
    some (ratAbs (s.rat Ent.MCH_VALUE_M0 ch - s.rat Ent.MCH_VALUE_M1 ch) / fs * 10000)
  else none

/-- The active control die compares the dies every cycle (R80): a run of cycles in which they differ by more than 0.5 %. -/
def State.compareDies (s : State) : State :=
  let runs := s.meas.chans.filterMap (fun p => match s.apartBy p.1 with
    | some q => if 50 < q then some (p.1, Tab.get 0 s.die.apart p.1 + 1) else none
    | none => none)
  { s with die := { s.die with apart := runs } }

/-- Cycles in a row in which a running die delivered no valid block (R81): the fourth fails it. -/
def State.countSilence (s : State) : State :=
  let run (d : Nat) (came : Bool) (n : Nat) : Nat := if came || !s.controlUp || !s.meterRunning d || s.meterFailed d then 0 else n + 1
  let n0 := run 0 s.meas.came0 s.meas.silent0
  let n1 := run 1 s.meas.came1 s.meas.silent1
  let s1 := { s with meas := { s.meas with silent0 := n0, silent1 := n1 } }
  (s1.when (n0 ≥ 4) (fun z => z.failMeterFree 0)).when (n1 ≥ 4) (fun z => z.failMeterFree 1)

/-- The window ends: where only one die's block came the sources are picked from it, and the next window's blocks are awaited. -/
def State.closeWindow (s : State) : State :=
  let s1 := s.when ((s.meas.came0 || s.meas.came1) && !s.blocksIn) State.chooseSources
  let s2 := s1.compareDies.countSilence
  { s2 with meas := { s2.meas with came0 := false, came1 := false } }

end Sys2Proof.Machine
end

