-- ==== Sys2Proof/Machine/Metering.lean ====
section
/-!
DEFINITION. Legal metering (R325 to R351): commits, the cross-check of the two dies, peaks and over-current, the seal, the
log's archive, the display, and the metering dies' part in a power cut.
-/
namespace Sys2Proof.Machine
open Sys2Proof

/-- I_START of a point (R336). -/
def State.startAmps (s : State) (pt : Nat) : Rat :=
  ((s.nat Ent.I_START_FRACTION pt : Nat) : Rat) / 1000 * s.rat Ent.I_NOMINAL pt

/-- Joules as mWh. -/
def milliWattHours (joules : Rat) : Rat := joules * 5 / 18

/-- The legs of the grid point that reach the starting level; one below it contributes 0 to every total (R336). -/
def State.startedLegs (s : State) (legs : List Leg) : List Leg :=
  legs.map (fun x => if x.i < s.startAmps 0 then (⟨0, 0, 0, 0⟩ : Leg) else x)

/-- Register increments of a grid point over a span of seconds (R328, R329, R336, Table 14-2). -/
def State.gridIncs (s : State) (legs : List Leg) (span : Rat) : List (Nat × Rat) :=
  let ls := s.startedLegs legs
  let ep := milliWattHours (ratSum (ls.map Leg.p))
  let eq := milliWattHours (ratSum (ls.map Leg.q))
  let three := s.nat Ent.CONNECTION 0 == 1
  let es := if three then sqrtRat (ep * ep + eq * eq) else milliWattHours (ratSum (ls.map (fun x => x.u * x.i)) * span)
  let phases := if three then []
    else ((ls.take 3).zip [8, 10, 12]).map (fun x =>
      let e := milliWattHours x.1.p
      if 0 ≤ e then (x.2, e) else (x.2 + 1, -e))
  [(if 0 ≤ ep then 0 else 1, ratAbs ep), (if 0 ≤ ep then 6 else 7, es),
   (if 0 ≤ eq then (if 0 ≤ ep then 2 else 3) else (if 0 ≤ ep then 5 else 4), ratAbs eq)] ++ phases

/-- Register increments of a DC point (R330, R331, R336). -/
def State.dcIncs (s : State) (pt : Nat) (legs : List Leg) : List (Nat × Rat) :=
  match legs with
  | [] => []
  | x :: _ =>
    if ratAbs x.i < s.startAmps pt then []
    else
      let eu := milliWattHours x.p
      let ec := milliWattHours (x.p - x.q * s.rat Ent.R_TRANSFER pt)
      if pt ≤ 8 then [(if 0 ≤ ec then 0 else 1, ratAbs ec), (if 0 ≤ eu then 2 else 3, ratAbs eu)]
      else [(if 0 ≤ eu then 0 else 1, ratAbs eu)]

/-- Add an increment to a register, to the present frame's increments and, for registers 0 and 1, to the tariff register of
the rate in force (R333, R358). -/
def MeterPt.add (k : MeterPt) (rate : Nat) (x : Nat × Rat) : MeterPt :=
  { k with regs := addAt k.regs x.1 x.2, incs := addAt k.incs x.1 x.2
           rates0 := if x.1 == 0 then addAt k.rates0 (rate - 1) x.2 else k.rates0
           rates1 := if x.1 == 1 then addAt k.rates1 (rate - 1) x.2 else k.rates1 }

/-- A die's values of a point now. -/
def State.markOf (s : State) (d pt : Nat) : Mark :=
  let k := s.meter d pt
  ⟨s.sfn, s.nat Ent.METER_TIME_S, k.reg 0, k.reg 1, (List.range 8).map (fun i => wholeOf (k.rates0.getD i 0)),
    s.nat Ent.ACTIVE_RATE, s.nat Ent.ACTIVE_CALENDAR, s.nat Ent.PERIOD_NUMBER⟩

/-- The commits of the frames in which an outlet's contactor closed and opened keep the session's values (R192, R370). -/
def State.markSession (s : State) (d pt : Nat) : State :=
  if pt < 1 ∨ 8 < pt then s
  else
    let o := pt - 1
    let k := s.sess o
    let m := s.markOf d pt
    let own := s.billSource pt == d
    let s1 := if k.closeSfn == s.sfn && k.closeSfn != 0 then
        let p := s.mpoint pt
        let p1 := if d == 0 then { p with close0 := m } else { p with close1 := m }
        let z := s.setPoint pt (if own then { p1 with sesFlags := 0 } else p1)
        if own then z.setSess o { k with delivered0 := m.r0, received0 := m.r1 } else z
      else s
    if k.openSfn == s.sfn && k.openSfn != 0 then
      let p := s1.mpoint pt
      let z := s1.setPoint pt (if d == 0 then { p with open0 := m } else { p with open1 := m })
      if own then z.setSess o { z.sess o with delivered1 := m.r0, received1 := m.r1 } else z
    else s1

/-- The over-current watch of a leg (R338). -/
def State.watchOver (s : State) (pt leg : Nat) (amps : Rat) : State :=
  let key := 4 * pt + leg
  let high := decide (((s.nat Ent.OC_LEVEL pt : Nat) : Rat) / 1000 * s.rat Ent.I_NOMINAL pt < ratAbs amps)
  match Tab.find s.overs key with
  | some x =>
    if high then { s with overs := Tab.set s.overs key { x with now := true } }
    else if x.told then (if x.now then { s with overs := Tab.set s.overs key { x with now := false, till := s.ticks } } else s)
    else { s with overs := Tab.erase s.overs key }
  | none => if high then { s with overs := Tab.set s.overs key ⟨s.ticks, true, 0, false⟩ } else s

/-- What the billing source of a point shows at its commit: power, peak, over-current (R328, R338). POWER_P of a DC point is its uncompensated
E over the frame (log entry 89). -/
def State.showCommit (s : State) (pt : Nat) (legs : List Leg) (frameEnd : Bool) : State :=
  let p := s.mpoint pt
  let s1 := if frameEnd then
      if pt == 0 then (s.setRat Ent.POWER_P pt (ratSum ((s.startedLegs legs).map Leg.p) * 1000)).setRat Ent.POWER_Q pt
        (ratSum ((s.startedLegs legs).map Leg.q) * 1000)
      else (s.setRat Ent.POWER_P pt (ratSum (legs.map Leg.p) * 1000)).setRat Ent.POWER_Q pt 0
    else s
  let s2 := if s.rat Ent.PEAK_I pt < p.peak then (s1.setRat Ent.PEAK_I pt p.peak).setNat Ent.PEAK_SFN pt s.sfn else s1
  (s2.setPoint pt { s2.mpoint pt with peak := 0 }).each ((List.range legs.length).zip (legs.map Leg.i))
    (fun z x => z.watchOver pt x.1 x.2)

/-- A die commits one point: what its engine has summed since the last commit, over `span` s, goes to the registers (R329, R330, R333, R358). -/
def State.commitPoint (s : State) (d : Nat) (span : Rat) (frameEnd : Bool) (pt : Nat) : State :=
  let m := s.meter d pt
  let engines := if frameEnd then m.legs.map LegEng.endFrame else m.legs
  let legs := engines.map (fun k => k.leg (pt == 0))
  let incs := if pt == 0 then s.gridIncs legs span else s.dcIncs pt legs
  let k := incs.foldl (fun a x => a.add (s.nat Ent.ACTIVE_RATE) x) m
  let s1 := (s.setMeter d pt { k with amps := legs.map Leg.i, legs := engines.map (fun e => e.cleared frameEnd) }).showPoint pt
  let s2 := s1.markSession d pt
  if s.billSource pt == d then s2.showCommit pt legs frameEnd else s2

/-- The last commit of a die (R334). -/
def State.commitOf (s : State) (d : Nat) : CommitSt := if d == 0 then s.legal.last0 else s.legal.last1
def State.setCommit (s : State) (d : Nat) (k : CommitSt) : State :=
  if d == 0 then { s with legal := { s.legal with last0 := k } } else { s with legal := { s.legal with last1 := k } }

/-- The instant, in ns since the first frame, `off` ns into the running cycle. -/
def State.instant (s : State) (off : Nat) : Nat := s.ticks * 50000 + off

/-- A die takes the conversions given and commits every enabled point at the instant `now` (R327, R334); the span of a frame commit is 1 ms,
that of any other the time since the last commit. A flush mark stands until the next frame commit (R349). -/
def State.commitDie (s : State) (d now : Nat) (frameEnd flush : Bool) (ws : List Window) : State :=
  let k := s.commitOf d
  let span : Rat := if s.legal.cycling || flush then ((now - k.ns : Nat) : Rat) / 1000000000 else 1 / 1000
  let s1 := s.feedMeter d (s.windowsOf d ws)
  ((s1.each s1.enabledPoints (fun z pt => z.commitPoint d span frameEnd pt)).setCommit d
    ⟨s.sfn, now, flush || (k.flush && s.legal.cycling)⟩).setNat Ent.LAST_COMMIT_SFN 0 s.sfn

/-- A die commits at the end of the running cycle (R334, R348): at cycle 19, and after a power cut at the end of every cycle from the one after
the recognition until the boundary at which it returns to frame commits. -/
def State.commitsNow (s : State) : Bool :=
  s.cycle == 19 || (s.legal.cycling && (match s.legal.pfw with | some (t, _) => decide (t < s.ticks) | none => true))

/-- METER_COMMIT (R334, R348), with the conversions of the running cycle that no result block has brought yet; once a cycle. -/
def execMeterCommit (die : Fin 2) (ws : List Window) (s : State) : Host.Outcome State Fault Refusal :=
  let d := die.val
  let now := s.instant 50000
  if s.metering d && s.commitsNow && decide ((s.commitOf d).ns < now) then ok (s.commitDie d now (s.cycle == 19) false ws) else ok s

/-- A metered point is energised (Table 1-7): a string with a coil on, any other point with a voltage of 60 V or more. -/
def State.energised (s : State) (pt : Nat) : Bool :=
  if 9 ≤ pt then (s.coilsOf (pt - 9)).any s.lcOn
  else
    let chans := if pt == 0 then channelBytes (s.nat Ent.U_CHANNELS 0) else [s.nat Ent.VOLTAGE_MCH (pt - 1)]
    chans.any (fun ch => decide (60 ≤ ratAbs (s.chanMin ch)) || decide (60 ≤ ratAbs (s.chanMax ch)))

/-- Each cycle: when every point last was energised. -/
def State.energyCycle (s : State) : State :=
  s.each ((List.range 17).filter s.energised) (fun z pt => z.setPoint pt { z.mpoint pt with liveAt := z.ticks })

/-- Each cycle: the largest window magnitude of a point's currents in its source die joins the frame's peak, and a capture or
an invalid channel takes the frame out of the cross-check (R338, R339). -/
def State.pointCycle (s : State) : State :=
  s.each s.enabledPoints fun z pt =>
    let k := z.mpoint pt
    let d := z.billSource pt
    let tops := (z.pointAmpsCh pt).flatMap (fun ch =>
      let c := (z.chanSt ch).die d
      [ratAbs (F32.toRat c.lo), ratAbs (F32.toRat c.hi)])
    let bad := z.meas.capture.isSome || z.legal.pfw.isSome ||
      (z.pointChannels pt).any (fun ch => z.nat Ent.MCH_STATUS ch % 4 != 3)
    z.setPoint pt { k with peak := ratMax (k.peak :: tops), excluded := k.excluded || bad }

/-- Quantity sets the cross-check compares (R339), by their registers. -/
def crossSets (pt : Nat) : List (List Nat) := if pt == 0 then [[0], [1], [2, 3, 4]] else [[0], [1]]

/-- The frame joins the cross-check window of a point when it counts, and its increments are spent (R339). -/
def State.crossFrame (s : State) : State :=
  let counts (pt : Nat) : Bool := !(s.mpoint pt).excluded && !s.die.m0Failed && !s.die.m1Failed && !(s.pointChannels pt).any (fun c => s.legal.calNow.contains c)
  let s1 := s.each s.enabledPoints (fun z pt =>
    let k := z.mpoint pt
    let z1 := z.setPoint pt { k with excluded := false, counted := if counts pt then k.counted + 1 else k.counted }
    if !counts pt then z1
    else z1.each [0, 1] (fun y d =>
      let m := y.meter d pt
      let sums := ((List.range 3).zip (crossSets pt)).map (fun x => (x.1, ratSum (x.2.map (fun r => m.incs.getD r 0))))
      y.setMeter d pt { m with win := sums.foldl (fun a x => addAt a x.1 x.2) m.win }))
  { s1 with meters := s1.meters.map (fun p => (p.1, { p.2 with incs := [] }))
            legal := { s1.legal with calNow := [], crossFrames := s1.legal.crossFrames + 1 } }

/-- Phases of a point for R339 and R365: 3 four-wire, 2 three-wire, 1 DC. -/
def State.phasesOfPoint (s : State) (pt : Nat) : Nat := if pt != 0 then 1 else if s.nat Ent.CONNECTION 0 == 1 then 2 else 3

/-- The first quantity set of a window in which the dies disagree, with the difference in ppm (R339). -/
def State.windowDiff (s : State) (pt : Nat) : Option (Nat × Nat) :=
  let w0 := (s.meter 0 pt).win
  let w1 := (s.meter 1 pt).win
  let floor_ := milliWattHours (s.startAmps pt * s.rat Ent.U_NOMINAL pt * ((s.phasesOfPoint pt * s.nat Ent.CROSS_WINDOW : Nat) : Rat) / 1000)
  ((List.range (crossSets pt).length).map (fun i =>
      let e0 := w0.getD i 0
      let e1 := w1.getD i 0
      let tol : Rat := ((s.nat (if i == 2 then Ent.CROSS_TOL_REACTIVE else Ent.CROSS_TOL_ACTIVE) : Nat) : Rat) / 1000000
      let top := if e0 < e1 then e1 else e0
      (i, ratAbs (e0 - e1), top, decide (tol * top + floor_ < ratAbs (e0 - e1))))).findSome? (fun x =>
    if x.2.2.2 then some (x.1, if x.2.2.1 == 0 then 0 else (ratRound (x.2.1 / x.2.2.1 * 1000000)).toNat) else none)

/-- A die has a spare in the bank that converts a channel (R80, R322). -/
def State.spareFor (s : State) (d ch : Nat) : Bool := (s.bank ((s.chanSt ch).die d).bank).spare.isSome

/-- A check of R80 takes a die's spare in the channel's bank for 8 cycles; the dwell frame it interrupts is repeated (R324). -/
def State.holdSpare (s : State) (ch d : Nat) : State :=
  let b := ((s.chanSt ch).die d).bank
  let k := s.bank b
  if k.spare.isSome then (s.setBank b { k with dwell := k.dwell + 20 }).showBank b else s

/-- BANK_STATUS of every bank after a check. -/
def State.showBanks (s : State) : State := s.each [0, 1, 2, 3] State.showBank

/-- The window of a point is judged (R339, R340): three disagreeing windows start the spare check on its channels, sixty
agreeing ones return it to AGREE. -/
def State.judgeWindow (s : State) (pt : Nat) : State :=
  let k := s.mpoint pt
  let clear (z : State) : State :=
    (z.each [0, 1] (fun y d => y.setMeter d pt { y.meter d pt with win := [] })).setPoint pt { z.mpoint pt with counted := 0 }
  let st := s.nat Ent.CROSS_STATE pt
  if 2 * k.counted < s.nat Ent.CROSS_WINDOW || st == Cross.SINGLE then clear s
  else match s.windowDiff pt with
    | some (i, ppm) =>
      let s1 := clear (s.setPoint pt { k with agree := 0, disagree := k.disagree + 1, setNo := i, ppm := ppm })
      if st == Cross.AGREE && decide (k.disagree + 1 ≥ 3) then
        let s2 := (s1.setNat Ent.CROSS_STATE pt Cross.DISAGREE).raise Evt.CROSS_DISAGREE pt i ppm
        let fresh := (s.pointChannels pt).filter (fun c => !s.die.spareChecks.any (fun x => x.1 == c))
        let s3 := { s2 with die := { s2.die with
          spareChecks := s2.die.spareChecks ++ fresh.map (fun c => (c, 0))
          checkFrom := fresh.foldl (fun (t : Tab Nat) (c : Nat) => Tab.set t c s.ticks) s2.die.checkFrom } }
        s3.each fresh (fun z c => (z.holdSpare c 0).holdSpare c 1)
      else s1
    | none =>
      let s1 := clear (s.setPoint pt { k with agree := k.agree + 1, disagree := 0 })
      if (st == Cross.RESOLVED || st == Cross.DISPUTED) && decide (k.agree + 1 ≥ 60) then s1.setNat Ent.CROSS_STATE pt Cross.AGREE else s1

/-- CROSS_CHECK_WINDOW (R339): every CROSS_WINDOW frames. -/
def execCrossCheckWindow (s : State) : Host.Outcome State Fault Refusal :=
  if s.legal.crossFrames < s.nat Ent.CROSS_WINDOW then ok s
  else
    let s1 := s.each s.enabledPoints (fun z pt => z.judgeWindow pt)
    ok { s1 with legal := { s1.legal with crossFrames := 0 } }

/-- The spare checks of a DISAGREE point are done (R340): exactly one die flagged resolves it to the other, anything else
leaves it DISPUTED. -/
def State.resolvePoint (s : State) (pt : Nat) : State :=
  let cs := s.pointChannels pt
  if s.nat Ent.CROSS_STATE pt != Cross.DISAGREE || cs.any (fun c => s.die.spareChecks.any (fun x => x.1 == c)) then s
  else
    let bad0 := cs.any (fun c => s.die.flagged0.contains c)
    let bad1 := cs.any (fun c => s.die.flagged1.contains c)
    if bad0 != bad1 then
      let d := if bad0 then 0 else 1
      let s1 := s.setNat Ent.CROSS_STATE pt Cross.RESOLVED
      if s.billSource pt == d then (s1.setSource pt (1 - d) 0).logSource pt else s1
    else
      let k := s.mpoint pt
      (((s.setNat Ent.CROSS_STATE pt Cross.DISPUTED).raise Evt.CROSS_DISPUTED pt k.setNo k.ppm).legalLog 7 4 pt k.setNo k.ppm).abandonStagger 1

/-- METER_DISAGREE (R80): the dies' means have stood apart for 20 cycles; the first event names no die and the spare check begins. -/
def execMeterDisagree (ch : Fin 96) (s : State) : Host.Outcome State Fault Refusal :=
  let c := ch.val
  let d := s.die
  if Tab.get 0 d.apart c < 20 then ok s
  else
    let fs := ratAbs (s.rat Ent.MCH_SENSOR_SCALE c) * fullScale (s.nat Ent.MCH_RANGE c)
    let diff := (ratRound (ratAbs (s.rat Ent.MCH_VALUE_M0 c - s.rat Ent.MCH_VALUE_M1 c) / fs * 10000)).toNat
    let s1 := { s with die := { d with
      spareChecks := (c, diff) :: d.spareChecks.filter (fun x => x.1 != c), apart := Tab.erase d.apart c, checkFrom := Tab.set d.checkFrom c s.ticks } }
    ok (((s1.holdSpare c 0).holdSpare c 1).raise Evt.METER_DISAGREE c diff none32)

/-- SPARE_CHECK_DONE (R80, R322, R340): after 8 cycles, whose spare disagrees with its own slices decides who flags the channel; a die without a
spare in its bank counts as agreeing with itself. A point that waited for the check is settled. -/
def execSpareCheckDone (ch : Fin 96) (m0Bad : Bool) (m1Bad : Bool) (s : State) : Host.Outcome State Fault Refusal :=
  let c := ch.val
  match s.die.spareChecks.find? (fun x => x.1 == c) with
  | none => ok s
  | some (_, diff) =>
    let d := s.die
    if s.ticks < Tab.get 0 d.checkFrom c + 8 then ok s
    else
      let bad0 := m0Bad && s.spareFor 0 c
      let bad1 := m1Bad && s.spareFor 1 c
      let mark (b : Bool) (k : Nat) (t : Tab Nat) : Tab Nat := if b then Tab.set t (2 * c + k) s.ticks else t
      let d1 := { d with
        spareChecks := d.spareChecks.filter (fun x => x.1 != c), checkFrom := Tab.erase d.checkFrom c
        checkedAt := mark bad1 1 (mark bad0 0 d.checkedAt)
        flagged0 := if bad0 then c :: d.flagged0.filter (· != c) else d.flagged0
        flagged1 := if bad1 then c :: d.flagged1.filter (· != c) else d.flagged1 }
      let outcome := if bad0 && bad1 then 2 else if bad0 then 0 else if bad1 then 1 else none32
      let s1 := { s with die := d1 }.showBanks.raise Evt.METER_DISAGREE c diff outcome
      ok (s1.each s1.enabledPoints (fun z pt => z.resolvePoint pt))

/-- SPARE_CHECK_REPEAT (R80): once every 1,000 frames a die with a spare checks a channel it has flagged again, and clears the flag at the first
check in which the spare agrees. -/
def execSpareCheckRepeat (ch : Fin 96) (m1 : Bool) (agrees : Bool) (s : State) : Host.Outcome State Fault Refusal :=
  let c := ch.val
  let d := s.die
  let k := 2 * c + b2n m1
  if !(if m1 then d.flagged1 else d.flagged0).contains c || !s.spareFor (b2n m1) c || decide (s.ticks < Tab.get 0 d.checkedAt k + 20000) then ok s
  else
  let s := s.holdSpare c (b2n m1)
  if !agrees then ok { s with die := { d with checkedAt := Tab.set d.checkedAt k s.ticks } }
  else if m1 then ok { s with die := { d with flagged1 := d.flagged1.filter (· != c), checkedAt := Tab.erase d.checkedAt k } }
  else ok { s with die := { d with flagged0 := d.flagged0.filter (· != c), checkedAt := Tab.erase d.checkedAt k } }

/-- A write of CROSS_RESET (R341). -/
def applyCrossReset (pt : Nat) (s : State) : State × Nat :=
  if !s.flag Ent.LEGAL_SEAL_STATE then (s, St.CONFLICT)
  else if s.nat Ent.CROSS_STATE pt == Cross.AGREE && s.billSource pt == 0 then (s, St.ALREADY_DONE)
  else
    let s1 := (s.setNat Ent.CROSS_STATE pt Cross.AGREE).setPoint pt { s.mpoint pt with agree := 0, disagree := 0 }
    let s2 := if s.meterRunning 0 && !s.meterFailed 0 then s1.setSource pt 0 2 else s1
    (s2.logSource pt, St.OK)

/-- CROSS_RESET (R341). -/
def execCrossReset (c : Client) (pt : Nat) (v : Nat) (s : State) : Host.Outcome State Fault Refusal :=
  ok (s.clientCommand c Ent.CROSS_RESET pt (.num v) (applyCrossReset pt))

/-- A write of PEAK_RESET (R338). -/
def applyPeakReset (pt : Nat) (s : State) : State × Nat := ((s.setNat Ent.PEAK_I pt 0).setNat Ent.PEAK_SFN pt 0, St.OK)

/-- PEAK_RESET (R338). -/
def execPeakReset (c : Client) (pt : Nat) (v : Nat) (s : State) : Host.Outcome State Fault Refusal :=
  ok (s.clientCommand c Ent.PEAK_RESET pt (.num v) (applyPeakReset pt))

/-- The phase an event names for a leg: 0 for DC, 1 to 3 for AC (the elements of a three-wire point carry phases 1 and 3). -/
def State.legPhase (s : State) (pt leg : Nat) : Nat :=
  if pt != 0 then 0 else if s.nat Ent.CONNECTION 0 == 1 then 2 * leg + 1 else leg + 1

/-- OVERCURRENT (R338): the over-current has lasted OC_TIME. -/
def execOvercurrent (pt : Fin 17) (leg : Fin 3) (s : State) : Host.Outcome State Fault Refusal :=
  let key := 4 * pt.val + leg.val
  match Tab.find s.overs key with
  | some x =>
    if x.now && !x.told && decide (s.ticks ≥ x.since + msTicks (s.nat Ent.OC_TIME pt.val)) then
      let amps := (s.meter (s.billSource pt.val) pt.val).amps.getD leg.val 0
      let s1 := { s with overs := Tab.set s.overs key { x with told := true } }
      ok ((s1.bump Ent.OC_COUNT pt.val).raise Evt.OVERCURRENT pt.val (s.legPhase pt.val leg.val) (ratRound (ratAbs amps * 10)).toNat)
    else ok s
  | none => ok s

/-- OVERCURRENT_END (R338): the current has fallen back. -/
def execOvercurrentEnd (pt : Fin 17) (leg : Fin 3) (s : State) : Host.Outcome State Fault Refusal :=
  let key := 4 * pt.val + leg.val
  match Tab.find s.overs key with
  | some x =>
    if x.told && !x.now then
      ok ({ s with overs := Tab.erase s.overs key }.raise Evt.OVERCURRENT_END pt.val (s.legPhase pt.val leg.val) ((x.till - x.since) / 20))
    else ok s
  | none => ok s

/-- A die's reading of the seal in a frame (R344): another level than the recognised one is recognised when it has held for 20 frames. -/
def SealSt.read (k : SealSt) (open_ : Bool) : SealSt :=
  if open_ == k.opened then { k with run := 0 } else if k.run + 1 < 20 then { k with run := k.run + 1 } else ⟨open_, 0⟩

/-- Each frame the running metering dies read LEGAL_SEAL (R344); one that does not run has recognised nothing. -/
def State.watchSeal (s : State) (r0 r1 : Bool) : State :=
  let reads (d : Nat) (k : SealSt) (r : Bool) : SealSt := if s.meterRunning d && !s.meterFailed d then k.read r else ⟨false, 0⟩
  if s.cycle != 0 then s
  else { s with legal := { s.legal with seal0 := reads 0 s.legal.seal0 r0, seal1 := reads 1 s.legal.seal1 r1 } }

/-- The seal counts as open while either die reads it open (R344). -/
def State.sealOpen (s : State) : Bool := s.legal.seal0.opened || s.legal.seal1.opened

/-- LEGAL_SEAL_CHANGE (R344): a level has held for 20 consecutive frames. -/
def execLegalSealChange (opened : Bool) (s : State) : Host.Outcome State Fault Refusal :=
  if s.flag Ent.LEGAL_SEAL_STATE == opened || s.sealOpen != opened then ok s
  else
    let n := if opened then s.legal.openings + 1 else s.legal.openings
    let s1 := { s with legal := { s.legal with openings := n } }.setFlag Ent.LEGAL_SEAL_STATE 0 opened
    let s2 := s1.raise (if opened then Evt.LEGAL_SEAL_OPEN else Evt.LEGAL_SEAL_CLOSED) 0 n 0
    ok (s2.legalLog (if opened then 1 else 2) 4 0xFFFF n 0)

/-- A write of LEGAL_LOG_ARCHIVE (R347). -/
def applyLegalLogArchive (seq : Nat) (s : State) : State × Nat :=
  if !s.flag Ent.LEGAL_SEAL_STATE then (s, St.CONFLICT)
  else if !s.legal.log.any (fun x => x.1 == seq) then (s, St.RANGE)
  else
    let kept := s.legal.log.takeWhile (fun x => x.1 != seq)
    let freed := s.legal.log.length - kept.length
    let s1 := { s with legal := { s.legal with log := kept } }.showLegal
    (s1.legalLog 13 4 0xFFFF seq freed, St.OK)

/-- LEGAL_LOG_ARCHIVE (R347). -/
def execLegalLogArchive (c : Client) (seq : Nat) (s : State) : Host.Outcome State Fault Refusal :=
  ok (s.clientCommand c Ent.LEGAL_LOG_ARCHIVE 0 (.num seq) (applyLegalLogArchive seq))

/-- A write of LEGAL_LOG_SELECT: the record named shows in LEGAL_LOG_RECORD (R345). -/
def applyLegalLogSelect (seq : Nat) (s : State) : State × Nat :=
  match s.legal.log.find? (fun x => x.1 == seq) with
  | some x => ((s.setNat Ent.LEGAL_LOG_SELECT 0 seq).setBytes Ent.LEGAL_LOG_RECORD 0 x.2, St.OK)
  | none => (s, St.RANGE)

/-- METER_STATUS (R351); POWER_FAIL_ACTIVE falls with the stop that ends step 3 of R348. -/
def State.meterStatus (s : State) : Nat :=
  pack [(0, 1, b2n (s.flag Ent.LEGAL_SEAL_STATE)), (1, 1, b2n (s.metering 0)), (2, 1, b2n (s.metering 1)),
    (3, 1, b2n (s.nat Ent.LEGAL_CHECK_VALUE == s.nat Ent.LEGAL_CHECK_VALUE_M1)), (4, 1, b2n s.legalLow), (5, 1, b2n s.legalFull),
    (6, 1, b2n (s.legal.pfw.isSome && (s.metering 0 || s.metering 1))), (7, 1, b2n s.legal.loss),
    (8, 1, b2n ((List.range 17).any (fun pt => s.nat Ent.CROSS_STATE pt == Cross.DISPUTED))),
    (9, 1, b2n ((List.range 17).any (fun pt => s.billSource pt == 1)))]

/-- The items of the display in their rotation (R343): item number and point. -/
def State.displayItems (s : State) : List (Nat × Nat) :=
  [(1, 0xFFFF), (2, 0xFFFF), (3, 0)] ++ ((List.range 8).filter (fun o => s.flag Ent.OUTLET_ENABLE o)).map (fun o => (4, o + 1))

/-- The values an item shows. -/
def State.displayValues (s : State) (item pt : Nat) : List Int :=
  match item with
  | 1 => [s.int Ent.FW_LEGAL_VERSION, s.int Ent.LEGAL_CHECK_VALUE, s.int Ent.LEGAL_CHECK_VALUE_M1]
  | 2 => [s.int Ent.LEGAL_SEAL_STATE, s.int Ent.METER_STATUS]
  | 3 => [s.int Ent.REGISTER 0 0, s.int Ent.REGISTER 0 1]
  | _ =>
    let o := pt - 1
    s.int Ent.REGISTER pt 0 ::
      (if s.sesState o == Ses.TRANSFER then [s.int Ent.REGISTER pt 0 - ((s.sess o).delivered0 : Int)] else [])

/-- A byte as a character of the display's text. -/
def asciiByte (n : Nat) : Byte := BitVec.ofNat 8 n

/-- A hexadecimal digit, and a 32-bit value as two groups of four of them (R343). -/
def hexDigit (n : Nat) : Byte := asciiByte (if n < 10 then 48 + n else 55 + n)
def hexGroups (v : Nat) : List Byte :=
  let g (k : Nat) : List Byte := [12, 8, 4, 0].map (fun i => hexDigit (field v (16 * k + i) 4))
  g 1 ++ [asciiByte 32] ++ g 0

/-- "LOG FULL" (R347). -/
def logFullText : List Byte := [76, 79, 71, 32, 70, 85, 76, 76].map asciiByte

/-- The text of an item: what R343 and R347 spell out, beside the wording, which they leave open (Config.displayText). -/
def State.displayText (s : State) (item : Nat) (vs : List Int) : List Byte :=
  match item with
  | 1 => Config.displayText 1 (vs.take 1) ++ (vs.drop 1).flatMap (fun v => asciiByte 32 :: hexGroups v.toNat)
  | 2 => (if s.legalFull then logFullText ++ [asciiByte 32] else []) ++ Config.displayText 2 vs
  | _ => Config.displayText item vs

/-- The die that drives the display (R343): M0, or M1 while M0 is failed; none while it does not run. -/
def State.displayDie (s : State) : Option Nat :=
  let d := b2n s.die.m0Failed
  if s.meterRunning d && !s.meterFailed d then some d else none

/-- The next display item is sent, or passed over, and the rotation goes on (R343, R498). -/
def State.displayNext (s : State) (sent : Bool) : State :=
  let items := s.displayItems
  let (item, pt) := items.getD (s.legal.item % items.length) (1, 0xFFFF)
  let die := b2n s.die.m0Failed
  let disputed := pt != 0xFFFF && s.nat Ent.CROSS_STATE pt == Cross.DISPUTED
  let vs := s.displayValues item pt
  let text := (s.displayText item vs ++ List.replicate 60 32#8).take 60
  let body := leBytes 1 item ++ leBytes 1 (pack [(0, 1, b2n (s.flag Ent.LEGAL_SEAL_STATE)), (1, 1, b2n disputed), (2, 1, die)]) ++
    leBytes 2 pt ++ text
  let s1 := { s with legal := { s.legal with item := (s.legal.item + 1) % items.length, busy := none } }
  if sent then s1.send ⟨.display, die, .displayFrame, vs, body⟩ else s1

/-- DISPLAY_FRAME (R343): every DISPLAY_PERIOD, unless DISP_BUSY holds it. -/
def execDisplayFrame (busy : Bool) (s : State) : Host.Outcome State Fault Refusal :=
  if s.displayDie.isNone || decide (s.ticks < s.legal.itemAt + secTicks (s.nat Ent.DISPLAY_PERIOD)) then ok s
  else
    let s1 := { s with legal := { s.legal with itemAt := s.ticks } }
    ok (if busy then { s1 with legal := { s1.legal with busy := some s.ticks } } else s1.displayNext true)

/-- DISPLAY_BUSY_TIMEOUT (R498): the frame goes when DISP_BUSY falls, and is dropped after 100 ms. -/
def execDisplayBusyTimeout (busy : Bool) (s : State) : Host.Outcome State Fault Refusal :=
  match s.legal.busy with
  | some t => if !busy then ok (s.displayNext true) else if s.ticks ≥ t + msTicks 100 then ok (s.displayNext false) else ok s
  | none => ok s

/-- The metering dies' flush on a power cut (R348 step 1): energy up to the recognition, event and legal log kind 9; the frame leaves the
cross-check (R339). -/
def State.flushDie (s : State) (offset : Nat) (f : Flush) : State :=
  let d := f.die.val
  if !s.metering d then s
  else
    let s1 := (s.commitDie d (s.instant (offset - 50000 * s.cycle)) false true f.ws).each s.enabledPoints (fun z pt =>
      z.setPoint pt { z.mpoint pt with excluded := true })
    (s1.raise Evt.POWER_FAIL_FLUSH (2 + d) offset f.ns).legalLog 9 (2 + d) 0xFFFF (low 32 offset) 0

/-- METER_STOP (R348 step 3): 4.8 ms after recognition the die stops, commits and writes a stop mark. -/
def execMeterStop (die : Fin 2) (ws : List Window) (s : State) : Host.Outcome State Fault Refusal :=
  let d := die.val
  match s.legal.pfw with
  | some (t, off) =>
    if s.ticks ≥ t + 96 && s.metering d then
      let s1 := s.commitDie d (s.instant (off % 50000)) false false ws
      let s2 := if d == 0 then { s1 with legal := { s1.legal with stop0 := true } } else { s1 with legal := { s1.legal with stop1 := true } }
      ok ((s2.legalLog 9 (2 + d) 0xFFFF (low 32 off) 1).markInterval 1)
    else ok s
  | none => ok s

/-- A session in TRANSFER carries INTERVAL_MARKED (R190, R349). -/
def State.markSessions (s : State) : State :=
  s.each ((List.range 8).filter (fun o => s.sesState o == Ses.TRANSFER)) (fun z o => z.setSess o { z.sess o with marked := true })

/-- PFW_N is back (R348 step 4): the gap of a die stopped meanwhile is logged and marked; it meters again from the next frame. -/
def State.resumeMeters (s : State) : State :=
  let off := match s.legal.pfw with | some x => x.2 | none => 0
  let gap (z : State) (d : Nat) : State := ((z.legalLog 9 (2 + d) 0xFFFF (low 32 off) 0).markInterval 1).markSessions
  let s1 := s.when s.legal.stop0 (fun z => gap z 0)
  let s2 := s1.when s.legal.stop1 (fun z => gap z 1)
  { s2 with legal := { s2.legal with pfw := none } }

/-- A die that stopped meters again: what its engine held before the stop joins nothing. -/
def State.meterAgain (s : State) (d : Nat) : State :=
  (if d == 0 then { s with legal := { s.legal with stop0 := false } } else { s with legal := { s.legal with stop1 := false } }).each (List.range 17)
    (fun z pt => z.setMeter d pt { z.meter d pt with legs := [] })

/-- At a boundary with PFW_N high (R348 step 4): back to frame commits, and a stopped die that still runs meters on. -/
def State.meterFrame (s : State) : State :=
  if s.legal.pfw.isSome then s
  else
    let s1 := { s with legal := { s.legal with cycling := false } }
    (s1.when (s1.legal.stop0 && s1.meterRunning 0) (fun z => z.meterAgain 0)).when (s1.legal.stop1 && s1.meterRunning 1) (fun z => z.meterAgain 1)

/-- METER_DIE_FAULT (R81, R340). -/
def execMeterDieFault (m1 : Bool) (diag : Nat) (s : State) : Host.Outcome State Fault Refusal :=
  if s.meterRunning (b2n m1) then ok (s.failMeter (b2n m1) diag) else ok s

end Sys2Proof.Machine
end

