-- ==== Sys2Proof/Machine/Calibration.lean ====
section
/-!
DEFINITION. System calibration and the open-input test of a metering channel (R320 to R323).
-/
namespace Sys2Proof.Machine
open Sys2Proof

/-- Points whose metered quantity a channel carries: its own metering point, and the outlet or string that names it. -/
def State.pointsOfChannel (s : State) (ch : Nat) : List Nat :=
  (List.range 17).filter (fun pt =>
    if pt == 0 then (s.pointChannels 0).contains ch
    else if pt ≤ 8 then (s.outletMchs (pt - 1)).contains ch
    else (s.stringMchs (pt - 9)).contains ch)

/-- A control consumer reads the channel: a session, a string that may carry current, a phase or group that runs, or an
enabled loop bound to it. -/
def State.chanConsumed (s : State) (ch : Nat) : Bool :=
  (List.range 8).any (fun o => s.sesLive o && (s.outletMchs o).contains ch) ||
  (List.range 8).any (fun n => carrying (s.strState n) && (s.stringMchs n).contains ch) ||
  (List.range 32).any (fun p => s.nat Ent.PHASE_I_MCH p == ch && s.firing p) ||
  (List.range 8).any (fun g => (s.nat Ent.BUS_V_MCH g == ch || s.nat Ent.STRING_SIDE_V_MCH g == ch) && (s.conv g).st != Grp.READY &&
    s.flag Ent.GROUP_ENABLE g) ||
  (List.range 64).any (fun l => s.flag Ent.LOOP_ENABLE l &&
    [s.nat Ent.REF_SOURCE l, s.nat Ent.FB_SOURCE l, s.nat Ent.FF_SOURCE l].any (fun b => Bind.kind b == 1 && Bind.inst b == ch))

/-- A channel outside its idle window (Table 1-7): read by a consumer, or its metered point energised within 60 s. -/
def State.chanInService (s : State) (ch : Nat) : Bool :=
  s.chanConsumed ch || (s.pointsOfChannel ch).any (fun pt => decide (s.ticks < (s.mpoint pt).liveAt + secTicks 60))

/-- A channel under test that a consumer begins to read is demanded (R24). -/
def State.watchChannels (s : State) : State :=
  s.each ((List.range 96).filter (fun ch => s.meas.calibs.any (fun k => k.ch == ch) || s.testing Ent.MCH_OPEN_TEST ch))
    (fun z ch => z.when (z.chanConsumed ch) (fun y => y.cancelChannel ch))

/-- A test of either kind runs on a channel. -/
def State.chanTested (s : State) (ch : Nat) : Bool := s.testing Ent.MCH_OPEN_TEST ch || s.testing Ent.MCH_CAL_REQUEST ch

/-- The bytes of MCH_CAL_REQUEST (Table 13-4). -/
def calBytes (command dies reference : Nat) : List Byte := leBytes 4 (command + 256 * dies) ++ leBytes 4 reference

/-- A calibration begins: the outlet of a legal channel leaves availability (R25). -/
def State.startCal (s : State) (ch command dies reference : Nat) (slot : Option Nat) : State :=
  let k : Calib := ⟨ch, command, dies, reference, if command == 3 then 1 else s.nat Ent.CAL_FRAMES, [], [], 0, 0, 0, 0⟩
  let s1 := { s with meas := { s.meas with calibs := k :: s.meas.calibs } }.beginTest (Ent.MCH_CAL_REQUEST.target ch) slot
  s1.each (List.range 8) (fun z o => z.refreshOutlet o)

/-- A write of MCH_CAL_REQUEST (R320, R22, R25, R347): COMMAND 1 ZERO, 2 SPAN, 3 RESTORE. -/
def applyCal (ch command dies reference : Nat) (queue : Bool) (s : State) : State × Nat :=
  if command < 1 ∨ 3 < command ∨ dies < 1 ∨ 3 < dies ∨ F32.special (low 32 reference) then (s, St.RANGE)
  else if s.flag Ent.MCH_LEGAL ch && !s.flag Ent.LEGAL_SEAL_STATE then (s, St.DENIED_SEAL)
  else if s.flag Ent.MCH_LEGAL ch && s.legalLow then (s, St.BUSY)
  else s.testOrQueue (Ent.MCH_CAL_REQUEST.target ch) (calBytes command dies reference) queue (s.chanInService ch || s.chanTested ch)
    (fun z slot => z.startCal ch command dies reference slot)

/-- CAL_ZERO (R320). -/
def execCalZero (c : Client) (ch : Nat) (dies : Nat) (reference : Nat) (s : State) : Host.Outcome State Fault Refusal :=
  ok (s.clientCommand c Ent.MCH_CAL_REQUEST ch (.bytes (calBytes 1 dies reference)) (applyCal ch 1 dies reference c.queue))

/-- CAL_SPAN (R320). -/
def execCalSpan (c : Client) (ch : Nat) (dies : Nat) (reference : Nat) (s : State) : Host.Outcome State Fault Refusal :=
  ok (s.clientCommand c Ent.MCH_CAL_REQUEST ch (.bytes (calBytes 2 dies reference)) (applyCal ch 2 dies reference c.queue))

/-- CAL_RESTORE (R320). -/
def execCalRestore (c : Client) (ch : Nat) (dies : Nat) (reference : Nat) (s : State) : Host.Outcome State Fault Refusal :=
  ok (s.clientCommand c Ent.MCH_CAL_REQUEST ch (.bytes (calBytes 3 dies reference)) (applyCal ch 3 dies reference c.queue))

/-- Frame means of one die of a calibration. -/
def Calib.means (k : Calib) (d : Nat) : List Rat := (if d == 0 then k.means0 else k.means1).take k.frames

/-- Dies a calibration names. -/
def Calib.named (k : Calib) : List Nat := [0, 1].filter (fun d => bit k.dies d)

/-- The variance of a list. -/
def variance (l : List Rat) : Rat := let m := ratMean l; ratMean (l.map (fun x => (x - m) * (x - m)))

/-- The result of a calibration for one die: zero and gain, and whether R321 accepts it. -/
def State.calResult (s : State) (k : Calib) (d : Nat) : Rat × Rat × Bool :=
  let fs := fullScale (s.nat Ent.MCH_RANGE k.ch)
  let u := ratMean (k.means d)
  let zero := s.calZero d k.ch
  let steady := decide (variance (k.means d) ≤ (fs / 2000) * (fs / 2000))
  if k.command == 1 then (u, s.calGain d k.ch, steady && decide (ratAbs u ≤ fs / 50))
  else if k.command == 2 then
    let base := s.rat Ent.MCH_SENSOR_SCALE k.ch * (u - zero)
    let gain := if base == 0 then 0 else (F32.toRat k.reference - s.rat Ent.MCH_SENSOR_OFFSET k.ch) / base
    (zero, gain, steady && decide (fs / 10 ≤ ratAbs (u - zero)) && decide (95 / 100 ≤ gain) && decide (gain ≤ 105 / 100))
  else (0, 1, true)

/-- Both dies named agree within 0.2 % (R321). -/
def State.calAgrees (s : State) (k : Calib) : Bool :=
  if k.dies != 3 then true
  else
    let a := s.calResult k 0
    let b := s.calResult k 1
    let fs := fullScale (s.nat Ent.MCH_RANGE k.ch)
    (k.command != 1 || decide (ratAbs (a.1 - b.1) ≤ fs / 500)) && (k.command != 2 || decide (ratAbs (a.2.1 - b.2.1) ≤ 1 / 500))

/-- Store a calibration's values of one die. -/
def State.storeCal (s : State) (k : Calib) (d : Nat) : State :=
  let r := s.calResult k d
  (s.setRat (if d == 0 then Ent.CAL_ZERO_M0 else Ent.CAL_ZERO_M1) k.ch r.1).setRat (if d == 0 then Ent.CAL_GAIN_M0 else Ent.CAL_GAIN_M1)
    k.ch r.2.1

/-- The end of a calibration with a status: result, event, the outlet's availability. -/
def State.endCal (s : State) (k : Calib) (st : Nat) : State :=
  let s1 := { s with meas := { s.meas with calibs := s.meas.calibs.filter (fun x => x.ch != k.ch) } }
  let s2 := ((s1.endTest (Ent.MCH_CAL_REQUEST.target k.ch) st).setNat Ent.MCH_CAL_RESULT k.ch st).raise Evt.CAL_DONE k.ch st (k.command + 256 * k.dies)
  s2.each (List.range 8) (fun z o => z.refreshOutlet o)

/-- CAL_DONE (R321): at the boundary after the frame with which every die named has its frames. -/
def execCalDone (ch : Fin 96) (s : State) : Host.Outcome State Fault Refusal :=
  match s.meas.calibs.find? (fun k => k.ch == ch.val) with
  | none => ok s
  | some k =>
    if s.cycle != 0 || !k.named.all (fun d => decide (k.frames ≤ (k.means d).length)) then ok s
    else if !(k.named.all (fun d => (s.calResult k d).2.2) && s.calAgrees k) then ok (s.endCal k St.RANGE)
    else
      let s1 := (s.each k.named (fun z d => z.storeCal k d)).setNat Ent.CAL_SFN k.ch s.sfn
      let s2 := { s1 with legal := { s1.legal with calNow := k.ch :: s1.legal.calNow } }
      let first := if bit k.dies 0 then 0 else 1
      let s3 := s2.when (s.flag Ent.MCH_LEGAL k.ch) (fun z =>
        z.legalLog 4 (if k.dies == 3 then 4 else 2 + first) k.ch (k.command + 256 * k.dies)
          (z.nat (if first == 0 then Ent.CAL_GAIN_M0 else Ent.CAL_GAIN_M1) k.ch))
      ok (s3.endCal k St.OK)

/-- A write of MCH_OPEN_TEST (R323). -/
def applyMchOpenTest (ch : Nat) (v : Nat) (queue : Bool) (s : State) : State × Nat :=
  s.testOrQueue (Ent.MCH_OPEN_TEST.target ch) (leBytes 1 v) queue (s.chanInService ch || s.chanTested ch)
    (fun z slot => z.beginTest (Ent.MCH_OPEN_TEST.target ch) slot)

/-- MCH_OPEN_TEST (R323). -/
def execMchOpenTest (c : Client) (ch : Nat) (v : Nat) (s : State) : Host.Outcome State Fault Refusal :=
  ok (s.clientCommand c Ent.MCH_OPEN_TEST ch (.num v) (applyMchOpenTest ch v c.queue))

/-- OPEN_TEST_DONE (R323): after 10 frames for each input, the movement of the reading in µV under 1 µA into the positive and into the
negative input; beyond 50 mV the input is open. -/
def execOpenTestDone (ch : Fin 96) (pos neg : Nat) (s : State) : Host.Outcome State Fault Refusal :=
  let t := Ent.MCH_OPEN_TEST.target ch.val
  match s.running.find? (fun r => r.target == t) with
  | some r =>
    if s.ticks ≥ r.since + 400 then
      let found := pack [(0, 1, b2n (decide (50000 < pos))), (1, 1, b2n (decide (50000 < neg)))]
      let st := if found == 0 then St.OK else St.RANGE
      ok (((s.endTest t st).setNat Ent.MCH_TEST_RESULT ch.val st).raise Evt.OPEN_TEST_DONE ch.val st found)
    else ok s
  | none => ok s

/-- A swap that changes the class or range of a channel ends its calibration, and the slot tables' demand follows (R312,
R324). -/
def State.placeMeasurement (s old : State) : State :=
  let gone := s.meas.calibs.filter (fun k =>
    s.nat Ent.MCH_CLASS k.ch != old.nat Ent.MCH_CLASS k.ch || s.nat Ent.MCH_RANGE k.ch != old.nat Ent.MCH_RANGE k.ch)
  let s1 := s.each gone (fun z k => z.endCal k St.CANCELLED)
  let moved := (List.range 96).any (fun ch => s.nat Ent.MCH_CLASS ch != old.nat Ent.MCH_CLASS ch || s.nat Ent.MCH_RANGE ch != old.nat Ent.MCH_RANGE ch)
  let s2 := (s1.fitNat Ent.DEMAND_M0 0 (demandOf (fun ch => s1.nat Ent.MCH_CLASS ch) s1.meas.reduced0)).fitNat Ent.DEMAND_M1 0
    (demandOf (fun ch => s1.nat Ent.MCH_CLASS ch) s1.meas.reduced1)
  s2.when moved (fun z => z.each ([0, 1].filter (fun d => z.meterRunning d && !z.meterFailed d)) State.rebuildSlots)

end Sys2Proof.Machine
end

