-- ==== Sys2Proof/Machine/Prebex.lean ====
section
/-!
DEFINITION. Prebex frames (R237 to R245): the sync word and CRC-24 of a frame, what the radios send, the slots of a sweep, and the fields of
a report and of a join.
-/
namespace Sys2Proof.Machine
open Sys2Proof

/-- One bit into the CRC-24 register, its most significant bit first (Table 10-1). -/
def crc24Bit (reg : Nat) (b : Bool) : Nat :=
  let next := low 24 (2 * reg)
  if bit reg 23 != b then next ^^^ 0x864CFB else next

/-- CRC-24 of a payload, its bytes least significant bit first, for a network and a slot code (Table 10-1). -/
def crc24 (network slot : Nat) (bs : List Byte) : Nat :=
  (bs.flatMap (fun b => (List.range 8).map (bit b.toNat))).foldl crc24Bit (256 * low 16 network + low 8 slot)

/-- The sync word of the site's frames. -/
def State.syncWord (s : State) : Nat := 0x9E5B0000 + s.nat Ent.NETWORK_ID

/-- A frame a radio sends, with slot code 0xFF: its channel's frequency in MHz, RF_TX_POWER in dBm, sync word and CRC-24 (Table 10-1). -/
def State.airMsg (s : State) (radio ch : Nat) (kind : MsgKind) (body : List Byte) : Msg :=
  ⟨.prebex, radio, kind,
    [2404 + 4 * (ch : Int), (s.nat Ent.RF_TX_POWER : Int), (s.syncWord : Int), (crc24 (s.nat Ent.NETWORK_ID) 0xFF body : Int)], body⟩

/-- Cycles from the start of sweep `w`. -/
def State.sweepCycle (s : State) (w : Nat) : Nat := (s.sfn - 50 * w) * 20 + s.cycle

/-- A slot of 150 µs that starts `at_` cycles after the sweep's start is under way (Table 10-2). -/
def State.inSlot (s : State) (w at_ : Nat) : Bool :=
  decide (50 * w ≤ s.sfn) && decide (at_ ≤ s.sweepCycle w) && decide (s.sweepCycle w < at_ + 3)

/-- A join slot is open (R244): S_26 + s of a string whose JOIN_MASK bit is set. -/
def State.joinSlot (s : State) (i : Nat) : Bool := decide (26 ≤ i) && bit s.radio.joinMask (i - 26)

/-- The spare slot of a monitor the retry call named (R244): its rank among those named; none beyond S_33 or in a join slot. -/
def State.retrySlot (s : State) (w k : Nat) : Option Nat :=
  match s.radio.retry with
  | some (v, mask) =>
    let i := (bitsOf k mask).length
    if v == w && bit mask k && decide (i ≤ 33) && !s.joinSlot i then some i else none
  | none => none

/-- Monitor `k` may report now: its data slot D_k or its retry slot S_i (Table 10-2). -/
def State.reportSlot (s : State) (w k : Nat) : Bool :=
  s.inSlot w (112 + 3 * k) || (match s.retrySlot w k with | some i => s.inSlot w (890 + 3 * i) | none => false)

/-- A copy of a frame is valid: its CRC checks (R240). -/
def State.copyOk (s : State) (slot : Nat) (c : AirCopy) : Bool := c.crc == crc24 (s.nat Ent.NETWORK_ID) slot c.bytes

/-- A report's fields (Table 10-6). -/
def reportOf (b : List Byte) : Report :=
  let n := leNat b
  { scale := ⟨field n 0 2 % 4, Nat.mod_lt _ (by decide)⟩, alarm := bit n 2, ack := bit n 3, owDone := bit n 4, owOpen := bit n 5, retry := bit n 6,
    noBeacon := bit n 7, base := field n 8 16, offsets := (List.range 16).map (fun j => field n (24 + 10 * j) 10), aux := field n 184 8 }

/-- A join's fields (Table 10-8). -/
def joinOf (b : List Byte) : Join :=
  let n := leNat b
  ⟨field n 0 48, field n 48 8, field n 56 8, field n 64 8, field n 72 8, field n 80 16⟩

end Sys2Proof.Machine
end

