-- ==== Sys2Proof/Machine/Monitors.lean ====
section
/-!
DEFINITION. Cell monitoring over Prebex and the rope line (R236 to R262): beacons and commands, reports, joins, the
results of a sweep, sense-wire breaks, enumeration, with the rows of the chapter but for SWEEP_PUBLISH (Estimator.lean) and
ROPE_WAKE (Power.lean).
-/
namespace Sys2Proof.Machine
open Sys2Proof

/-- Commands of Table 10-4. -/
def Com.ASSIGN : Nat := 1
def Com.OPEN_WIRE_TEST : Nat := 2
def Com.BALANCE : Nat := 4
def Com.RESET_ALARM : Nat := 5
def Com.SLEEP : Nat := 6
def Com.SHIP : Nat := 7
def Com.ENUM_RESET : Nat := 8

/-- The channel of sweep `w` under a map (R238). -/
def hopChannel (map w : Nat) : Nat :=
  let c := bitsOf 20 map
  c.getD (7 * w % max 1 c.length) 0

/-- The map wanted: HOP_MAP less the excluded channels, at least 15 staying in use (R238). -/
def State.wantedMap (s : State) (ex : List (Nat × Nat)) : Nat :=
  let l := (bitsOf 20 (s.nat Ent.HOP_MAP)).filter (fun c => !ex.any (fun x => x.1 == c))
  if l.length < 15 then s.nat Ent.HOP_MAP else ofBits l

/-- The hop map at the start of sweep `w`: readmission after 60 s, a change in force, a change to announce in 20 beacons. -/
def State.hop (s : State) (w : Nat) : State :=
  let r := s.radio
  let ex := r.excluded.filter (fun x => decide (s.ticks < x.2))
  let r1 := match r.switchAt with
    | some k => if w ≥ k then { r with map := r.next, switchAt := none, excluded := ex } else { r with excluded := ex }
    | none => { r with excluded := ex }
  let want := s.wantedMap ex
  let r2 := if r1.switchAt.isNone && want != r1.map then { r1 with next := want, switchAt := some (w + 20) } else r1
  (s.setRadio r2).setNat Ent.HOP_MAP_IN_USE 0 r2.map

/-- Commands of the sweep before are settled (R242): broadcasts go out three times, addressed ones up to three. -/
def State.settleCommands (s : State) : State :=
  let over_ (c : MonCmd) : Bool := c.aired && decide (c.sends ≥ 3)
  let gone := s.radio.cmds.filter (fun c => over_ c && !c.broadcast)
  let kept := (s.radio.cmds.filter (fun c => !over_ c)).map (fun (c : MonCmd) => { c with aired := false })
  (s.setRadio { s.radio with cmds := kept }).each gone (fun z c => z.raise Evt.COMMAND_UNACKED c.mon c.op c.sends)

/-- The commands of one beacon: the first four, one open-wire test a monitor. -/
def pickCommands : Nat → List Nat → List MonCmd → List MonCmd
  | _, _, [] => []
  | 0, _, l => l
  | m + 1, busy, c :: r =>
    if c.op == Com.OPEN_WIRE_TEST && busy.contains c.mon then c :: pickCommands (m + 1) busy r
    else { c with aired := true, sends := c.sends + 1 } :: pickCommands m (if c.op == Com.OPEN_WIRE_TEST then c.mon :: busy else busy) r

/-- A command record (R242) as a number of 88 bits. -/
def MonCmd.record (c : MonCmd) : Nat :=
  leNat (leBytes 1 (pack [(0, 7, c.op), (7, 1, b2n c.broadcast)]) ++ leBytes 1 c.mon ++ fitBytes 9 c.args)

/-- The beacon payload (Table 10-3). MAP_SWITCH without a change pending is the value `idle`. -/
def State.beacon (s : State) (copy idle : Nat) : List Byte :=
  let r := s.radio
  let cs := (r.cmds.filter MonCmd.aired).map MonCmd.record
  let change := r.switchAt.isSome
  leBytes 64 (pack ([(0, 64, s.sfn), (64, 8, r.start), (72, 8, r.window), (80, 20, r.map), (104, 20, if change then r.next else r.map),
    (128, 8, match r.switchAt with | some k => k | none => idle), (136, 1, b2n s.time.flagPrebex),
    (137, 1, b2n s.time.errorHigh), (138, 1, copy), (144, 8, r.joinMask)] ++
    (cs.zipIdx).map (fun c => (160 + 88 * c.2, 88, c.1))))

/-- SWEEP_START (R239, R246): at a frame whose number is a multiple of 50, after its boundary, while the device serves. -/
def execSweepStart (s : State) : Host.Outcome State Fault Refusal :=
  if s.cycle == 0 && s.tx.step == 5 && s.sfn % 50 == 0 && s.serving then
    let w := s.sfn / 50
    let (idle, sf) := s.takeFree
    let s1 := (sf.settleCommands).hop w
    let r := s1.radio
    let ch := hopChannel r.map w
    let s2 := s1.setRadio { r with cur := some (w, ch), due := r.cur, cmds := pickCommands 4 [] r.cmds
                                   start := s1.nat Ent.SAMPLE_START, window := s1.nat Ent.AVG_WINDOW }
    let s3 := s2.each (List.range 8) (fun z n => z.setRope n { z.rope n with span := Span.none, spanLast := (z.rope n).span })
    let s4 := s3.when s3.die.lkA (fun z => z.send (z.airMsg 0 ch .beacon (z.beacon 0 idle)))
    let s5 := s4.when s4.die.lkB (fun z => z.send (z.airMsg 1 ch .beacon (z.beacon 1 idle)))
    ok { s5 with time := { s5.time with flagPrebex := s5.time.flagPrebex && !s5.die.lkA && !s5.die.lkB } }
  else ok s

/-- The string current over the span of the sweep under way (R247): the window just closed, in every cycle. -/
def State.spanCycle (s : State) : State :=
  match s.radio.cur with
  | none => s
  | some (w, _) =>
    let off := (s.sfn - 50 * w) * 20 + s.cycle
    if s.sfn ≥ 50 * w && s.radio.start < off && off ≤ s.radio.start + s.radio.window then
      s.each (List.range 8) fun z n =>
        let p := (z.rope n).span
        let i := z.strAmps n
        let lo := z.chanMin (z.nat Ent.STRING_I_MCH n)
        let hi := z.chanMax (z.nat Ent.STRING_I_MCH n)
        let first := p.n == 0
        let q : Span := ⟨p.sum + i, p.n + 1, if first || lo < p.lo then lo else p.lo, if first || p.hi < hi then hi else p.hi,
          p.valid && z.chanValid (z.nat Ent.STRING_I_MCH n)⟩
        z.setRope n { z.rope n with span := q }
    else s

/-- Cells a wire adjoins, of a monitor with `n` cells (R257). -/
def wireCells (n wire : Nat) : List Nat :=
  if wire == 0 then [0] else if wire ≥ n then [n - 1] else [wire - 1, wire]

/-- Wires suspected or confirmed broken. -/
def State.badWires (s : State) (k : Nat) : List Nat :=
  bitsOf 17 (s.nat Ent.WIRE_STATE k) ++ (s.mon k).suspects.map Suspect.wire
def State.unknownCell (s : State) (k j : Nat) : Bool :=
  (s.badWires k).any (fun w => (wireCells (s.fittedCells k) w).contains j)

/-- Sum of a monitor's cells in 100 µV; its stack value in 100 µV when one no older than 8 sweeps stands. -/
def State.monitorSum (s : State) (k : Nat) : Int :=
  ((List.range (s.fittedCells k)).map (fun j => (s.nat Ent.CELL_V k j : Int))).foldl (· + ·) 0
def State.stackNow (s : State) (k w : Nat) : Option Int :=
  match (s.mon k).stackAt with
  | some a => if w ≤ a + 8 then some ((s.nat Ent.STACK_V k : Int) * 20) else none
  | none => none

/-- The bound a broken wire leaves (R258): the pair sum, or for an end wire stack less the other cells. -/
def State.wireBound (s : State) (k w wire : Nat) : Option Int :=
  match wireCells (s.fittedCells k) wire with
  | [j] => (s.stackNow k w).map (fun st => st - (s.monitorSum k - (s.nat Ent.CELL_V k j : Int)))
  | [i, j] => some ((s.nat Ent.CELL_V k i : Int) + (s.nat Ent.CELL_V k j : Int))
  | _ => none

/-- Mark the cells of a bad wire UNKNOWN with their bound. -/
def State.markWire (s : State) (k w wire : Nat) : State :=
  let b := s.wireBound k w wire
  s.each (wireCells (s.fittedCells k) wire) fun z j =>
    let z1 := z.setCellCode k j Cell.UNKNOWN
    match b with
    | some v => z1.fitInt Ent.CELL_BOUND k v j
    | none => z1

/-- The results of a valid report (R243, R248): cells, temperatures, stack halves, diagnostic code. -/
def State.takeReport (s : State) (k w : Nat) (r : Report) : State :=
  let s1 := s.each (List.range (s.fittedCells k)) fun z j =>
    let v := r.base + r.offsets.getD j 0 * 4 ^ r.scale.val
    let z1 := z.fitNat Ent.CELL_V k v j
    if z1.unknownCell k j then z1 else (z1.setCellCode k j Cell.VALID).setNat Ent.CELL_BOUND k (z1.nat Ent.CELL_V k j) j
  let m := s1.mon k
  let s2 := match w % 8 with
    | 4 => s1.setMon k { m with stackLow := some (w, r.aux) }
    | 5 =>
      match m.stackLow with
      | some (a, lo) =>
        if a + 1 == w then (s1.setNat Ent.STACK_V k (low 8 lo + 256 * low 8 r.aux)).setMon k { m with stackAt := some w } else s1
      | none => s1
    | 6 => s1.setNat Ent.DIAG_CODE k (low 8 r.aux)
    | 7 => s1
    | i =>
      if low 8 r.aux == 0xFF then s1.setMon k { m with tempMask := setBit m.tempMask i false }
      else (s1.setInt Ent.TEMP k (((low 8 r.aux : Nat) : Int) * 10 - 400) i).setMon k { m with tempMask := setBit m.tempMask i true }
  s2.each (s2.badWires k) (fun z wire => z.markWire k w wire)

/-- A monitor's sweep (R248, R249, Table 10-10): received or missed. -/
def State.monitorSweep (s : State) (n w k : Nat) : State :=
  let m := s.mon k
  let st := s.nat Ent.MONITOR_STATE k
  let report := match m.got with | some (v, r) => if v == w then some r else none | none => none
  match report with
  | some r =>
    let missed := s.nat Ent.MISS_COUNT k
    let run := m.okRun + 1
    let s1 := (s.setMon k { m with okRun := run, losing := m.losing && decide (run < 20) }).setNat Ent.MISS_COUNT k 0
    let s2 := (s1.setNat Ent.MONITOR_STATE k Mon.OK).setNat Ent.LAST_SWEEP_SFN k (50 * w)
    (s2.when (st == Mon.LOSING || st == Mon.LOST) (fun z => z.raise Evt.MONITOR_RETURNED k missed n)).takeReport k w r
  | none =>
    let s1 := (s.setMon k { m with okRun := 0 }).bump Ent.MISS_COUNT k
    let c := s1.nat Ent.MISS_COUNT k
    let s2 := s1.setNat Ent.MONITOR_STATE k (if c ≥ 20 then Mon.LOST else if c ≥ 3 then Mon.LOSING else Mon.MISSING)
    let s3 := s2.each (List.range (s.fittedCells k)) (fun z j => if z.cellCode k j == Cell.VALID then z.setCellCode k j Cell.MISSING else z)
    let s4 := s3.when (c == 3) (fun z => (z.setMon k { z.mon k with losing := true }).raise Evt.MONITOR_MISSING k c n)
    s4.when (c == 20) (fun z => (z.setMon k { z.mon k with burstAt := z.ticks }).raise Evt.MONITOR_LOST k c n |>.send ⟨.rope, n, .wakeBurst, [], []⟩)

/-- The median of readings (R257). -/
def median (l : List Rat) : Rat :=
  let r := sortBy (fun a b => decide (a ≤ b)) l
  let n := r.length
  if n == 0 then 0 else if n % 2 == 1 then r.getD (n / 2) 0 else (r.getD (n / 2 - 1) 0 + r.getD (n / 2) 0) / 2

/-- A wire newly suspected (R258). -/
def State.suspect (s : State) (k w wire : Nat) : State :=
  let m := s.mon k
  let known := (s.badWires k).contains wire
  let quiet := m.quiet.any (fun q => q.1 == wire && decide (s.ticks < q.2))
  if known || quiet then s
  else
    let b := (s.wireBound k w wire).getD 0
    let s1 := s.setMon k { m with suspects := m.suspects ++ [⟨wire, w, b⟩] }
    let s2 := (s1.setNat Ent.SUSPECT_WIRES k (setBit (s1.nat Ent.SUSPECT_WIRES k) wire true)).markWire k w wire
    (s2.raise Evt.SENSE_SUSPECT k wire (word 32 b)).tellMonitor Com.OPEN_WIRE_TEST k (leBytes 1 wire)

/-- What a report's pattern shows (Table 10-12), in table order: inner wires, an end wire, faulty cells, inconsistent. -/
structure Finding where
  inner : List Nat
  outer : Option Nat
  faults : List Nat
  odd : Bool
deriving DecidableEq, Repr

/-- |string voltage − Σ| within STRING_TOL, Σ in 100 µV. -/
def State.stringAgrees (s : State) (n : Nat) (sum : Int) : Bool :=
  decide (ratAbs (s.strVolts n - (sum : Rat) / 10000) ≤ ((s.nat Ent.STRING_TOL : Nat) : Rat) / 1000)

/-- Readings of a monitor as deviations from their median, in 100 µV. -/
def State.deviations (s : State) (k : Nat) : List Rat :=
  let v := (List.range (s.fittedCells k)).map (fun j => ((s.nat Ent.CELL_V k j : Nat) : Rat))
  v.map (fun x => x - median v)

/-- Classification of a valid report (R257). -/
def State.classify (s : State) (n w k scale : Nat) : Finding :=
  let d := s.deviations k
  let c := d.length
  let at_ (j : Nat) : Rat := d.getD j 0
  let delta : Rat := ((s.nat Ent.BREAK_DELTA * 10 : Nat) : Rat)
  let stack := s.stackNow k w
  let diff := stack.map (fun st => st - s.monitorSum k)
  let tol : Int := (s.nat Ent.STACK_TOL * 10 : Nat)
  let stackOk := match diff with | some x => decide (x.natAbs ≤ tol.natAbs) | none => false
  let stackBad := match diff with | some x => decide (x.natAbs > tol.natAbs) | none => false
  let sum := ((s.enrolledOf n).map s.monitorSum).foldl (· + ·) 0
  let stringOk := s.stringAgrees n sum
  let pair : Rat := ((s.nat Ent.PAIR_TOL * 10 + 2 * 4 ^ scale : Nat) : Rat)
  let big (x : Rat) : Bool := decide (delta ≤ ratAbs x)
  let inner := if stackOk && stringOk then
      (List.range c).filter (fun j => decide (1 ≤ j) && decide (at_ (j - 1) * at_ j < 0) && big (at_ (j - 1)) && big (at_ j) &&
        decide (ratAbs (at_ (j - 1) + at_ j) ≤ pair))
    else []
  let top := ratMax (d.map ratAbs)
  let wholes := (s.enrolledOf n).map (fun m => s.stackNow m w)
  let wholesOk := wholes.all Option.isSome && s.stringAgrees n ((wholes.map (fun o => o.getD 0)).foldl (· + ·) 0)
  let outer := if stackBad && wholesOk && c != 0 then
      (if ratAbs (at_ 0) == top then some 0 else if ratAbs (at_ (c - 1)) == top then some c else none) else none
  let off (j : Nat) : Bool := decide (delta ≤ ratAbs (at_ j))
  let pairsOff (j : Nat) : Bool :=
    (j == 0 || big (at_ (j - 1) + at_ j)) && (decide (j + 1 ≥ c) || big (at_ j + at_ (j + 1)))
  let faults := if stackOk && stringOk then (List.range c).filter (fun j => off j && pairsOff j) else []
  { inner := inner, outer := if inner.isEmpty then outer else none,
    faults := if inner.isEmpty && outer.isNone then faults else [],
    odd := (stackBad || !stringOk) && inner.isEmpty && outer.isNone }

/-- A confirmed break whose pattern has gone is tested by the device itself (R259). -/
def State.retestWires (s : State) (k : Nat) (f : Finding) : State :=
  s.each (bitsOf 17 (s.nat Ent.WIRE_STATE k)) fun z wire =>
    let seen := f.inner.contains wire || f.outer == some wire
    let asked := z.radio.cmds.any (fun c => c.op == Com.OPEN_WIRE_TEST && c.mon == k && c.args == leBytes 1 wire) || (z.mon k).wire == some wire
    if seen || asked then z else z.tellMonitor Com.OPEN_WIRE_TEST k (leBytes 1 wire)

/-- The classification's responses (Table 10-12). -/
def State.respond (s : State) (n w k : Nat) (f : Finding) : State :=
  let s1 := s.each f.inner (fun z j => z.suspect k w j)
  let s2 := match f.outer with | some j => s1.suspect k w j | none => s1
  let fresh := f.faults.filter (fun j => !(s2.mon k).told.contains j)
  let s3 := s2.each fresh (fun z j => z.raise Evt.CELL_FAULT_SEEN k j (word 32 (ratRound ((z.deviations k).getD j 0))))
  let s4 := s3.setMon k { s3.mon k with told := f.faults }
  let hour := match (s4.mon k).mismatchAt with | some t => decide (s4.ticks ≥ t + secTicks 3600) | none => true
  let s5 := if f.odd && hour then
      let sum := ((s4.enrolledOf n).map s4.monitorSum).foldl (· + ·) 0
      let p1 : Int := ((s4.stackNow k w).getD (s4.monitorSum k) - s4.monitorSum k) / 10
      let p2 : Int := ratRound (s4.strVolts n * 1000 - (sum : Rat) / 10)
      (s4.setMon k { s4.mon k with mismatchAt := some s4.ticks }).raise Evt.STACK_MISMATCH k (word 32 p1) (word 32 p2)
    else s4
  s5.retestWires k f

/-- A break is confirmed (R258). -/
def State.confirmBreak (s : State) (k wire : Nat) : State :=
  match (s.mon k).suspects.find? (fun x => x.wire == wire) with
  | none => s
  | some x =>
    let s1 := (s.setNat Ent.WIRE_STATE k (setBit (s.nat Ent.WIRE_STATE k) wire true)).setNat Ent.BREAK_SFN k s.sfn
    (s1.setMon k { s.mon k with suspects := (s.mon k).suspects.filter (fun y => y.wire != wire) }).raise
      Evt.SENSE_BREAK k wire (word 32 x.bound)

/-- A test found the wire intact (R258, R259). -/
def State.clearWire (s : State) (k wire : Nat) : State :=
  if !(s.badWires k).contains wire then s
  else
    let m := s.mon k
    let s1 := (s.setNat Ent.WIRE_STATE k (setBit (s.nat Ent.WIRE_STATE k) wire false)).setNat Ent.SUSPECT_WIRES k
      (setBit (s.nat Ent.SUSPECT_WIRES k) wire false)
    let s2 := (s1.setMon k { m with suspects := m.suspects.filter (fun y => y.wire != wire)
                                    quiet := (wire, s.ticks + secTicks 60) :: m.quiet.filter (fun q => q.1 != wire) }).raise Evt.SENSE_CLEARED k wire 0
    s2.each (wireCells (s2.fittedCells k) wire) fun z j =>
      if z.unknownCell k j then z
      else (z.setCellCode k j (if z.nat Ent.MONITOR_STATE k == Mon.OK then Cell.VALID else Cell.MISSING)).setNat Ent.CELL_BOUND k
        (z.nat Ent.CELL_V k j) j

/-- The result of an open-wire test at the publication of the report that carries it. -/
def State.wireResult (s : State) (k : Nat) : State :=
  match (s.mon k).result with
  | none => s
  | some (wire, open_) =>
    let s1 := s.setMon k { s.mon k with result := none }
    if open_ then s1.confirmBreak k wire else s1.clearWire k wire

/-- SWEEP_STATUS and the sweep's figures of a string (Table 10-9). -/
def State.showSweep (s : State) (n w : Nat) : State :=
  let ks := s.enrolledOf n
  let missing := (ks.filter (fun k => s.nat Ent.MONITOR_STATE k != Mon.OK)).length
  let p := if (s.radio.cur.map Prod.fst) == some w then (s.rope n).span else (s.rope n).spanLast
  let bad := !p.valid || p.n == 0
  let round := ks.any (fun k => (s.mon k).stackAt == some w)
  let s1 := s.setNat Ent.SWEEP_STATUS n
    (pack [(0, 1, b2n (missing == 0)), (1, 1, b2n (missing != 0)), (2, 1, b2n bad), (3, 1, b2n round), (8, 8, missing), (16, 16, w)])
  let s2 := (s1.setNat Ent.SWEEP_SFN n (50 * w)).when (!bad) (fun z => z.setRat Ent.SWEEP_CURRENT n (p.sum / ((p.n : Nat) : Rat)))
  let s3 := s2.when (missing != 0) (fun z => z.bump Ent.PARTIAL_COUNT n)
  let s4 := s3.when (missing != 0 && !(s.rope n).partialLast) (fun z => z.raise Evt.SWEEP_PARTIAL n missing (low 32 w))
  s4.setRope n { s4.rope n with partialLast := missing != 0 }

/-- 0x5101 for a rope that opened (R251): its alarming monitor, and the first position without carrier. -/
def State.ropeEvent (s : State) (n alarming : Nat) : State :=
  let pos := match (s.enrolledOf n).find? (fun k => !(s.mon k).carrierIn) with
    | some k => s.nat Ent.POSITION k
    | none => none32
  (s.setRope n { s.rope n with alarmTill := none }).raise Evt.ROPE_OPEN n alarming pos

/-- The publication of sweep `w` for one string (R248): monitors, status, sense wires, then derating, limits and trips. -/
def State.publishString (s : State) (n w : Nat) : State :=
  if s.nat Ent.MONITOR_COUNT n == 0 then s
  else
    let s1 := s.each (s.enrolledOf n) (fun z k => z.monitorSweep n w k)
    let s2 := s1.showSweep n w
    let ks := (s2.enrolledOf n).filter (fun k => s2.nat Ent.MONITOR_STATE k == Mon.OK)
    let s3 := s2.each ks (fun z k => z.wireResult k)
    let s4 := s3.each ks (fun z k =>
      let scale := match (z.mon k).got with | some (_, r) => r.scale.val | none => 0
      z.respond n w k (z.classify n w k scale))
    let s5 := match (s4.rope n).alarmTill with | some t => if w ≥ t then s4.ropeEvent n 0xFFFF else s4 | none => s4
    let s6 := ((s5.refreshDerate n).sweepLimits n).sweepTrips n
    let lost := (s6.enrolledOf n).any (fun k => s6.nat Ent.MONITOR_STATE k == Mon.LOST)
    let s7 := if lost && s6.strEnabled n then s6.stringCause n 8 0 else s6
    if (s7.str n).startLate && s7.strState n == Str.CONNECTED then (s7.setStr n { s7.str n with startLate := false }).startGroup n else s7

/-- Outcomes of the sweep's data slots, and channels excluded (R238): more than 20 % of the last 500 failed. -/
def State.judgeChannel (s : State) (w ch : Nat) : State :=
  let all := (List.range 8).flatMap s.enrolledOf
  let res := all.map (fun k => match (s.mon k).got with | some (v, r) => v == w && !r.retry | none => false)
  let l := (res ++ Tab.get [] s.radio.slots ch).take 500
  let s1 := s.setRadio { s.radio with slots := Tab.set s.radio.slots ch l }
  let bad := (l.filter (fun b => !b)).length
  let inUse := bitsOf 20 (s1.wantedMap s1.radio.excluded)
  if l.length ≥ 500 && bad * 5 > l.length && inUse.contains ch && inUse.length > 15 then
    let s2 := s1.setRadio { s1.radio with excluded := (ch, s1.ticks + secTicks 60) :: s1.radio.excluded, slots := Tab.set s1.radio.slots ch [] }
    s2.raise Evt.CHANNEL_EXCLUDED ch (bad * 1000 / l.length) (inUse.length - 1)
  else s1

/-- MONITOR_TEST has reported its last wire (R260). -/
def State.endMonitorTest (s : State) (k mask : Nat) : State :=
  let s1 := s.setMon k { s.mon k with test := none }
  let old := s1.nat Ent.WIRE_STATE k
  let s2 := s1.each ((List.range 17).filter (fun w => !bit mask w)) (fun z w => z.clearWire k w)
  let s3 := (s2.setNat Ent.WIRE_STATE k mask).when (mask != 0 && mask != old) (fun z => z.setNat Ent.BREAK_SFN k z.sfn)
  let st := if mask == 0 then St.OK else St.RANGE
  ((s3.endTest (Ent.MONITOR_TEST.target k) st).setNat Ent.MONITOR_TEST_RESULT k st).raise Evt.MONITOR_TEST_DONE k st mask

/-- An open-wire result arrives (R242, R260): a monitor test takes it at once, a suspicion at publication. -/
def State.noteResult (s : State) (k : Nat) (r : Report) : State :=
  match (s.mon k).wire with
  | some wire =>
    if !r.owDone then s
    else
      let s1 := s.setMon k { s.mon k with wire := none, result := some (wire, r.owOpen) }
      match (s1.mon k).test with
      | some mask =>
        let m2 := setBit mask wire r.owOpen
        let s2 := s1.setMon k { s1.mon k with test := some m2, result := none }
        if wire ≥ s2.fittedCells k then s2.endMonitorTest k m2 else s2
      | none => s1
  | none => s

/-- CMD_ACK: every command addressed to the monitor in this beacon is accepted (R242). -/
def State.noteAck (s : State) (k : Nat) : State :=
  let mine (c : MonCmd) : Bool := c.aired && !c.broadcast && c.mon == k
  let wire := (s.radio.cmds.find? (fun c => mine c && c.op == Com.OPEN_WIRE_TEST)).map (fun c => leNat c.args)
  let s1 := s.setRadio { s.radio with cmds := s.radio.cmds.filter (fun c => !mine c) }
  match wire with
  | some w =>
    let s2 := s1.setMon k { s1.mon k with wire := some w }
    if (s2.mon k).test.isSome && decide (w < s2.fittedCells k) then s2.tellMonitor Com.OPEN_WIRE_TEST k (leBytes 1 (w + 1)) else s2
  | none => s1

/-- A frame of Prebex as received (R240, Table 20-2): raw copies, counters, conflict; the payload where it is valid. The slot code is
the monitor's index, 0xFF for a join. -/
def State.air (s : State) (a : Air) (slot : Nat) : State × Option (List Byte) :=
  let c0 := if s.die.lkA then a.copy0 else none
  let c1 := if s.die.lkB then a.copy1 else none
  let w := (s.radio.cur.map Prod.fst).getD 0
  let hear (z : State) (radio : Nat) (c : Option AirCopy) (ok_ : Entry) : State :=
    match c with
    | some x => (z.noteRaw w radio slot x.rssi (z.copyOk slot x) x.bytes).when (z.copyOk slot x) (fun y => y.bump ok_)
    | none => z
  let s1 := hear (hear s 0 c0 Ent.RX_OK_0) 1 c1 Ent.RX_OK_1
  match c0.filter (s.copyOk slot), c1.filter (s.copyOk slot) with
  | some x, some y => if x.bytes == y.bytes then (s1, some x.bytes) else (s1.bump Ent.RX_CONFLICT, none)
  | some x, none => (s1, some x.bytes)
  | none, some y => (s1, some y.bytes)
  | none, none => (s1, none)

/-- The signal strength of a monitor at each radio that received it (R240). -/
def State.noteRssi (s : State) (k : Nat) (a : Air) : State :=
  let set (z : State) (up : Bool) (c : Option AirCopy) (e : Entry) : State :=
    match c with
    | some x => z.when (up && s.copyOk k x) (fun y => y.setInt e k (signed 16 (word 16 x.rssi)))
    | none => z
  set (set s s.die.lkA a.copy0 Ent.RSSI_0) s.die.lkB a.copy1 Ent.RSSI_1

/-- A monitor's valid report in sweep `w` (R242, R243, R251). -/
def State.takeFrame (s : State) (w k : Nat) (r : Report) : State :=
  let m := s.mon k
  let item7 := w % 8 == 7
  let s1 := s.setMon k { m with got := some (w, r), alarm := r.alarm
                                cause := if item7 then field r.aux 0 4 else m.cause
                                bleeding := if item7 then bit r.aux 4 else m.bleeding
                                carrierIn := if item7 then bit r.aux 5 else m.carrierIn }
  let s2 := s1.noteResult k r
  let s3 := if r.ack then s2.noteAck k else s2
  let n := s3.nat Ent.MONITOR_STRING k
  if r.alarm && decide (n < 8) && (s3.rope n).alarmTill.isSome then s3.ropeEvent n k else s3

/-- REPORT (R240, R243): a frame in the monitor's data slot, or in its retry slot. -/
def execReport (k : Fin 256) (a : Air) (s : State) : Host.Outcome State Fault Refusal :=
  match s.radio.cur with
  | none => ok s
  | some (w, _) =>
    if !s.enrolled k.val || !s.reportSlot w k.val then ok s
    else match s.air a k.val with
      | (s1, none) => ok s1
      | (s1, some b) => ok ((s1.noteRssi k.val a).takeFrame w k.val (reportOf b))

/-- RETRY_CALL (R244), in slot C0 at 44,050 µs and C1 at 44,250 µs of the sweep. -/
def execRetryCall (s : State) : Host.Outcome State Fault Refusal :=
  match s.radio.cur with
  | none => ok s
  | some (w, ch) =>
    if s.sweepCycle w != 881 then ok s
    else
    let missed := ((List.range 256).filter s.enrolled).filter (fun k => ((s.mon k).got.map Prod.fst) != some w)
    let body := leBytes 36 (pack [(0, 16, w), (16, 256, ofBits missed), (272, 8, s.radio.joinMask)])
    let s0 := s.setRadio { s.radio with retry := some (w, ofBits missed) }
    let s1 := s0.when s0.die.lkA (fun z => z.send (z.airMsg 0 ch .retryCall body))
    ok (s1.when s1.die.lkB (fun z => z.send (z.airMsg 1 ch .retryCall body)))

/-- The join slot of a string. -/
def State.setJoin (s : State) (n : Nat) (b : Bool) : State := s.setRadio { s.radio with joinMask := setBit s.radio.joinMask n b }

/-- Enumeration of a string ends FAILED (R254). -/
def State.failEnum (s : State) (n cause : Nat) : State :=
  let r := s.rope n
  (((s.setNat Ent.ROPE_STATE n Rope.FAILED).setJoin n false).setRope n { r with phase := if cause == 6 then r.phase else 0 }).raise
    Evt.ENUM_FAIL n cause r.joined

/-- A monitor is enrolled (R253, R255): its identity is stored, ASSIGN follows, a replaced monitor's cells start anew. -/
def State.enrol (s : State) (n k pos : Nat) (j : Join) : State :=
  let old := s.nat Ent.MONITOR_UID k
  let cells := min 16 j.cells
  let s1 := ((((s.setNat Ent.MONITOR_UID k j.uid).setNat Ent.MONITOR_STRING k n).setNat Ent.POSITION k pos).setNat Ent.CELL_COUNT k cells)
  let s2 := ((s1.setNat Ent.MONITOR_KIND k (low 8 j.kind)).setNat Ent.MONITOR_FW k (low 16 j.fw)).setNat Ent.MONITOR_STATE k Mon.OK
  let flags := ofBits ((List.range 16).flatMap (fun i => if i < cells then [2 * i] else [2 * i, 2 * i + 1]))
  let s3 := ((s2.setNat Ent.MISS_COUNT k 0).setNat Ent.CELL_FLAGS k flags).setMon k MonSt.none
  let s4 := s3.tellMonitor Com.ASSIGN k (leBytes 6 j.uid ++ leBytes 1 n ++ leBytes 1 pos)
  let r := s4.rope n
  let s5 := s4.setRope n { r with joined := r.joined + 1, cells := r.cells + cells, joinAt := s.ticks, held := none }
  if old != 0 && old != j.uid then
    (s5.each (List.range cells) (fun z i => z.resetCell k i)).raise Evt.CELL_STATE_RESET n (s5.cellNumber n k 0) 0
  else s5

/-- A join takes an index, unless it replaces a monitor under MONITOR_LOCK (R255). -/
def State.admitMonitor (s : State) (n k pos : Nat) (j : Join) : State :=
  let old := s.nat Ent.MONITOR_UID k
  if old != 0 && old != j.uid then
    let s1 := s.raise Evt.MONITOR_REPLACED k (low 32 old) (low 32 j.uid)
    if s1.flag Ent.MONITOR_LOCK n then (s1.failEnum n 6).setRope n { s1.rope n with held := some (k, j) }
    else s1.enrol n k pos j
  else s.enrol n k pos j

/-- A rejoin while the rope is open (R256). -/
def State.rejoin (s : State) (n : Nat) (j : Join) : State :=
  let ks := s.monitorsOf n
  match ks.find? (fun k => s.nat Ent.MONITOR_UID k == j.uid) with
  | some k => (s.enrol n k (s.nat Ent.POSITION k) j).sendParams n k
  | none =>
    match ks.filter (fun k => s.nat Ent.MONITOR_STATE k == Mon.LOST) with
    | [k] => (s.admitMonitor n k (s.nat Ent.POSITION k) j).sendParams n k
    | _ => s.failEnum n 5

/-- A valid join in the join slot of string `m` (R253 to R256). -/
def State.takeJoin (s : State) (m : Nat) (j : Join) : State :=
  if j.string != m then s.failEnum m 3
  else if j.version != 3 then s.failEnum m 4
  else if s.nat Ent.ROPE_STATE m == Rope.OPEN then s.rejoin m j
  else if s.nat Ent.ROPE_STATE m == Rope.ENUMERATING then
    let r := s.rope m
    if r.joined ≥ s.nat Ent.MONITOR_COUNT m then s.failEnum m 1
    else s.admitMonitor m (s.nat Ent.MONITOR_FIRST m + r.joined) r.joined j
  else s

/-- MONITOR_JOIN (R245, R253): a frame in the join slot S_26 + n of a string whose join slot is open. -/
def execMonitorJoin (n : Fin 8) (a : Air) (s : State) : Host.Outcome State Fault Refusal :=
  match s.radio.cur with
  | none => ok s
  | some (w, _) =>
    if !bit s.radio.joinMask n.val || !s.inSlot w (890 + 3 * (26 + n.val)) then ok s
    else match s.air a 0xFF with
      | (s1, none) => ok s1
      | (s1, some b) => ok (s1.takeJoin n.val (joinOf b))

/-- Enumeration has closed the rope (R253, R254). -/
def State.endEnum (s : State) (n : Nat) : State :=
  let r := s.rope n
  let total := (List.range 8).foldl (fun a m => a + (if m == n then r.cells else (s.cellsOf m).length)) 0
  if r.joined != s.nat Ent.MONITOR_COUNT n then s.failEnum n 1
  else if r.cells > 416 || total > 3328 then s.failEnum n 2
  else
    let s1 := ((s.setNat Ent.ROPE_STATE n Rope.CLOSED).setJoin n false).setRope n { r with phase := 0 }
    let s2 := s1.each (s1.enrolledOf n) (fun z k => z.sendParams n k)
    (s2.setNat Ent.CELLS_FITTED n r.cells).raise Evt.ENUM_DONE n r.joined r.cells

/-- ROPE_CLOSED (R251): the carrier has been present for 20 frames. -/
def execRopeClosed (n : Fin 8) (s : State) : Host.Outcome State Fault Refusal :=
  let m := n.val
  let st := s.nat Ent.ROPE_STATE m
  if (s.rope m).run < msTicks 20 then ok s
  else if st == Rope.ENUMERATING then ok ((s.endEnum m).ropeCloses m)
  else if st == Rope.OPEN || (st == Rope.OFF && (s.rope m).phase == 0) then
    ok (((s.setNat Ent.ROPE_STATE m Rope.CLOSED).setJoin m false).ropeCloses m)
  else ok s

/-- ROPE_OPEN (R251, R274): no rising edge for 250 µs; the hardware path opens the string; the event waits for the alarming monitor, two sweeps at
most. -/
def execRopeOpen (n : Fin 8) (s : State) : Host.Outcome State Fault Refusal :=
  let m := n.val
  if s.nat Ent.ROPE_STATE m != Rope.CLOSED || s.ropeSeen m then ok s
  else
    let s1 := ((s.setNat Ent.ROPE_STATE m Rope.OPEN).setJoin m true).ropeOpens m
    match (s1.enrolledOf m).find? (fun k => (s1.mon k).alarm) with
    | some k => ok (s1.ropeEvent m k)
    | none =>
      match s1.radio.cur with
      | some (w, _) => ok (s1.setRope m { s1.rope m with alarmTill := some (w + 1) })
      | none => ok (s1.ropeEvent m 0xFFFF)

/-- LOST_MONITOR_WAKE_BURST (R249). -/
def execLostMonitorWakeBurst (k : Fin 256) (s : State) : Host.Outcome State Fault Refusal :=
  let m := s.mon k.val
  if s.nat Ent.MONITOR_STATE k.val == Mon.LOST && decide (s.ticks ≥ m.burstAt + secTicks 10) then
    ok ((s.setMon k.val { m with burstAt := s.ticks }).send ⟨.rope, s.nat Ent.MONITOR_STRING k.val, .wakeBurst, [], []⟩)
  else ok s

/-- The monitor's latest readings lie beyond the hysteresis of R252. -/
def State.beyondLimits (s : State) (n k : Nat) : Bool :=
  let ov := s.nat Ent.CELL_OV_LOCAL n
  let uv := s.nat Ent.CELL_UV_LOCAL n
  (List.range (s.fittedCells k)).any (fun j =>
    let v := s.nat Ent.CELL_V k j
    decide (v + 500 > ov * 10) || decide (v < uv * 10 + 500)) ||
  (bitsOf 4 (s.mon k).tempMask).any (fun i => decide (s.int Ent.TEMP k i + 50 > s.int Ent.CELL_OT_LOCAL n * 10))

/-- A write of ALARM_RESET (R252). -/
def applyAlarmReset (k : Nat) (s : State) : State × Nat :=
  if !(s.mon k).alarm then (s, St.ALREADY_DONE)
  else
    match s.stringOf k with
    | some n => if s.beyondLimits n k then (s, St.CONFLICT) else (s.tellMonitor Com.RESET_ALARM k [], St.OK)
    | none => (s.tellMonitor Com.RESET_ALARM k [], St.OK)

/-- ALARM_RESET (R252). -/
def execAlarmReset (c : Client) (k : Nat) (v : Nat) (s : State) : Host.Outcome State Fault Refusal :=
  ok (s.clientCommand c Ent.ALARM_RESET k (.num v) (applyAlarmReset k))

/-- Enumeration of a string starts (R253): its monitors drop their enrolment, the carrier stops. -/
def State.startEnum (s : State) (n : Nat) : State :=
  let s1 := s.each (s.monitorsOf n) (fun z k => z.setNat Ent.MONITOR_STATE k Mon.UNENROLLED)
  let r := s1.rope n
  let s2 := ((s1.setRope n { r with carrier := false, phase := 1, phaseAt := s.ticks, joined := 0, cells := 0, held := none, alarmTill := none }).setNat
    Ent.ROPE_STATE n Rope.OFF).setJoin n false
  (s2.tellAll Com.ENUM_RESET (leBytes 1 n)).send (carrierMsg n false)

/-- A write of ROPE_REENUMERATE (R253). -/
def applyRopeReenumerate (n : Nat) (s : State) : State × Nat :=
  if (s.coilsInUse n).any s.lcOn then (s, St.CONFLICT) else (s.startEnum n, St.OK)

/-- ROPE_REENUMERATE (R253). -/
def execRopeReenumerate (c : Client) (n : Nat) (v : Nat) (s : State) : Host.Outcome State Fault Refusal :=
  ok (s.clientCommand c Ent.ROPE_REENUMERATE n (.num v) (applyRopeReenumerate n))

/-- ENUM_WAKE_BURST (R253): ENUM_RESET has gone out in three beacons and the carrier has been off 10 ms. -/
def execEnumWakeBurst (n : Fin 8) (s : State) : Host.Outcome State Fault Refusal :=
  let m := n.val
  let r := s.rope m
  let asked := s.radio.cmds.any (fun c => c.op == Com.ENUM_RESET && c.args == leBytes 1 m && decide (c.sends < 3))
  if r.phase == 1 && decide (s.ticks ≥ r.phaseAt + msTicks 10) && !asked then
    ok ((s.setRope m { r with phase := 2, phaseAt := s.ticks }).send ⟨.rope, m, .wakeBurst, [], []⟩)
  else ok s

/-- ENUM_CARRIER_START (R253): 24 sweeps of beacons have run. -/
def execEnumCarrierStart (n : Fin 8) (s : State) : Host.Outcome State Fault Refusal :=
  let m := n.val
  let r := s.rope m
  if r.phase == 2 && decide (s.ticks ≥ r.phaseAt + msTicks 1200) then
    let s1 := (s.setRope m { r with phase := 3, phaseAt := s.ticks, joinAt := s.ticks, carrier := true }).setNat Ent.ROPE_STATE m Rope.ENUMERATING
    ok ((s1.setJoin m true).send (carrierMsg m true))
  else ok s

/-- ENUM_FAIL (R254, cause 0): no join for 2 s before the carrier returns. -/
def execEnumFail (n : Fin 8) (s : State) : Host.Outcome State Fault Refusal :=
  let m := n.val
  if s.nat Ent.ROPE_STATE m == Rope.ENUMERATING && decide (s.ticks ≥ (s.rope m).joinAt + secTicks 2) then ok (s.failEnum m 0) else ok s

/-- A write of ACCEPT_REPLACEMENT (R255): the new UID is stored and enumeration goes on. -/
def applyAcceptReplacement (n : Nat) (s : State) : State × Nat :=
  let r := s.rope n
  match r.held with
  | some (k, j) =>
    let back := if r.phase == 3 then Rope.ENUMERATING else Rope.OPEN
    let pos := if r.phase == 3 then r.joined else s.nat Ent.POSITION k
    let s1 := (s.enrol n k pos j).setNat Ent.ROPE_STATE n back
    (((s1.setJoin n true).when (r.phase != 3) (fun z => z.sendParams n k)), St.OK)
  | none => (s, St.ALREADY_DONE)

/-- ACCEPT_REPLACEMENT (R255). -/
def execAcceptReplacement (c : Client) (n : Nat) (v : Nat) (s : State) : Host.Outcome State Fault Refusal :=
  ok (s.clientCommand c Ent.ACCEPT_REPLACEMENT n (.num v) (applyAcceptReplacement n))

/-- SENSE_BREAK_TIMEOUT (R258): no result within 10 sweeps of the suspicion. -/
def execSenseBreakTimeout (k : Fin 256) (wire : Fin 17) (s : State) : Host.Outcome State Fault Refusal :=
  match (s.mon k.val).suspects.find? (fun x => x.wire == wire.val), s.radio.cur with
  | some x, some (w, _) =>
    if w ≥ x.sweep + 10 then
      let s1 := s.confirmBreak k.val wire.val
      ok (match s1.stringOf k.val with | some n => s1.refreshDerate n | none => s1)
    else ok s
  | _, _ => ok s

/-- SERVICE_DEMANDED (R259): 24 h after a break was confirmed. -/
def execServiceDemanded (k : Fin 256) (s : State) : Host.Outcome State Fault Refusal :=
  let wires := bitsOf 17 (s.nat Ent.WIRE_STATE k.val)
  match s.stringOf k.val with
  | some n =>
    if !wires.isEmpty && decide (s.sfn ≥ s.nat Ent.BREAK_SFN k.val + 86400000) && !(s.str n).causes.contains 9 then
      ok ((s.raise Evt.SERVICE_DEMANDED n k.val (wires.headD 0)).stringCause n 9 0)
    else ok s
  | none => ok s

/-- A monitor test begins with wire 0 (R260). -/
def State.startMonitorTest (s : State) (k : Nat) (slot : Option Nat) : State :=
  let s1 := (s.beginTest (Ent.MONITOR_TEST.target k) slot).setMon k { s.mon k with test := some 0 }
  s1.tellMonitor Com.OPEN_WIRE_TEST k (leBytes 1 0)

/-- A write of MONITOR_TEST (R260): the idle window is the string disconnected. -/
def applyMonitorTest (k : Nat) (v : Nat) (queue : Bool) (s : State) : State × Nat :=
  let busy := match s.stringOf k with
    | some n => carrying (s.strState n) || s.strState n == Str.WELD_CHECK
    | none => false
  s.testOrQueue (Ent.MONITOR_TEST.target k) (leBytes 1 v) queue busy (fun z slot => z.startMonitorTest k slot)

/-- MONITOR_TEST (R260). -/
def execMonitorTest (c : Client) (k : Nat) (v : Nat) (s : State) : Host.Outcome State Fault Refusal :=
  ok (s.clientCommand c Ent.MONITOR_TEST k (.num v) (applyMonitorTest k v c.queue))

end Sys2Proof.Machine
end

