-- ==== Sys2Proof/Machine/Persist.lean ====
section
/-!
DEFINITION. Persistence (R93 to R95): the two copy slots of a P entry in ST, written in turn, and what a start reads.
-/
namespace Sys2Proof.Machine
open Sys2Proof

/-- Sequence `a` is later than `b`, modulo 2³² (R94). -/
def seqLater (a b : Nat) : Bool :=
  let d := (a + 2 ^ 32 - b % 2 ^ 32) % 2 ^ 32
  decide (1 ≤ d) && decide (d ≤ 2 ^ 31 - 1)

/-- The valid copy with the later sequence. -/
def PSlots.newest (p : PSlots) : Option (Nat × Val) :=
  match p.a, p.b with
  | some x, some y => if seqLater y.1 x.1 then some y else some x
  | some x, none => some x
  | none, y => y

/-- A write goes to the slot that does not hold the newest copy, with the sequence after it (R94). -/
def PSlots.write (p : PSlots) (v : Val) : PSlots :=
  match p.newest with
  | none => { p with a := some (1, v) }
  | some (q, _) =>
    let n := (q + 1) % 2 ^ 32
    if (p.a.map Prod.fst) == some q then { p with b := some (n, v) } else { p with a := some (n, v) }

/-- A write of a value to ST (R94). -/
def storeVal (t : Tab PSlots) (key : Nat) (v : Val) : Tab PSlots := Tab.set t key ((Tab.get ⟨none, none⟩ t key).write v)

/-- The entry a key belongs to, when it persists and is stored at each change. -/
def storedEntry (key : Nat) : Option Found :=
  (findEntry (key / 256) (key % 256)).bind (fun f => if f.e.persist == .persistent && !estimatorEntry f.e then some f else none)

/-- One table of values against its slots: a P value that no write of the frame stored is stored where its newest copy differs. -/
def storeTable (vals : Tab Val) (nv : Tab PSlots) : Tab PSlots :=
  let keys := Tab.keys vals ++ (Tab.keys nv).filter (fun k => (Tab.find vals k).isNone)
  keys.foldl (fun t k => match storedEntry k with
    | some f =>
      let v := (Tab.find vals k).getD (f.e.default f.n)
      if ((Tab.get ⟨none, none⟩ t k).newest.map Prod.snd) == some v then t else storeVal t k v
    | none => t) nv

/-- The values of the store `k` of a set. -/
def State.setStored (s : State) (k : Bool) : Tab Val := if s.setPtr == k then s.actSet else s.shdSet

/-- P writes, a swap and the set pointer stand in ST by cycle 19 of the frame in which they apply (R94, R95): each write in its turn takes the
next slot and sequence. -/
def State.persistFrame (s : State) : State :=
  let run (k : Nat) (nv : Tab PSlots) : Tab PSlots := (s.writes.filter (fun w => w.1 == k)).foldl (fun t w => storeVal t w.2.1 w.2.2) nv
  { s with nvCells := storeTable s.cells (run 0 s.nvCells), nvSet0 := storeTable (s.setStored false) (run 1 s.nvSet0)
           nvSet1 := storeTable (s.setStored true) (run 2 s.nvSet1), nvPtr := s.setPtr, writes := [] }

/-- The store of ST that holds the active set, and the one that holds the shadow set. -/
def State.nvAct (s : State) : Tab PSlots := if s.nvPtr then s.nvSet1 else s.nvSet0
def State.nvShd (s : State) : Tab PSlots := if s.nvPtr then s.nvSet0 else s.nvSet1

/-- Values a start takes from ST (R94): the newest copy of each, nothing (the default) where none is valid. -/
def loadTable (nv : Tab PSlots) : Tab Val :=
  nv.filterMap (fun p => match p.2.newest, findEntry (p.1 / 256) (p.1 % 256) with
    | some v, some f => if v.2 = f.e.default f.n then none else some (p.1, v.2)
    | _, _ => none)

/-- The persistence of the entry a key belongs to. -/
def keyPersist (key : Nat) : Persist := ((findEntry (key / 256) (key % 256)).map (fun f => f.e.persist)).getD .volatile

/-- Read-only volatile entries that show what dies other than the control dies hold, which a restart of the control dies alone leaves
running and showing: PW (ropes, phases, channels), M0 and M1, LK (radio, bus, powerline, ports, transaction engine) and KY. -/
def heldElsewhere (key : Nat) : Bool :=
  let i := key / 256
  (match findEntry i (key % 256) with | some f => f.e.access == .ro | none => false) &&
    ((0x5000 ≤ i && i < 0x7000) || (0x8000 ≤ i && i < 0xC000) || i == 0x1030 || (0x1040 ≤ i && i < 0x1060) || i == 0xC002 || i == 0xC100 ||
      (0xD010 ≤ i && i < 0xD014) || key == Ent.DIE_STATUS.key || key == Ent.STANDBY_PACKET_COUNT.key || key == Ent.REFCLK_STATE.key)

/-- Volatile entries that a start of every die keeps: the certificates issued, which only a change of key renews (R424), the seal, which is
an input, and the session entries of outlets whose session is still to be ended (R191). -/
def keptAtStart (live : Nat → Bool) (key : Nat) : Bool :=
  (0xB00004 ≤ key && key ≤ 0xB00007) || key == Ent.LEGAL_SEAL_STATE.key || (0x3000 ≤ key / 256 && key / 256 < 0x3008 && live (key / 256 - 0x3000))

/-- A start (R93): volatile entries take their defaults, but for those of dies that did not restart; persistent ones take
their newest copies; the legal store stands. -/
def State.loadPersistent (s : State) (full : Bool) (live : Nat → Bool) : State :=
  let kept := s.cells.filter (fun (x : Nat × Val) => keyPersist x.1 == .legal || keptAtStart live x.1 || (!full && keyPersist x.1 == .volatile && heldElsewhere x.1))
  { s with cells := (loadTable s.nvCells).foldl (fun (t : Tab Val) (x : Nat × Val) => Tab.set t x.1 x.2) kept
           actSet := loadTable s.nvAct, shdSet := loadTable s.nvShd, setPtr := s.nvPtr, writes := [], digestStale := true }

/-- What of a table is stored nowhere yet, as the sump takes it (R482): key, sequence and value of the newest copy that `nv` lacks. -/
def unstored (stored nv : Tab PSlots) : List (Nat × Nat × Val) :=
  stored.filterMap (fun x => match x.2.newest with
    | some v => if (Tab.get ⟨none, none⟩ nv x.1).newest == some v then none else some (x.1, v.1, v.2)
    | none => none)

/-- A sump entry is applied when its sequence is later than both slots (R484): the table and the number applied. -/
def applySumpTable (l : List (Nat × Nat × Val)) (nv : Tab PSlots) (vals : Tab Val) : Tab Val × Nat :=
  l.foldl (fun (acc : Tab Val × Nat) (x : Nat × Nat × Val) =>
    let p := Tab.get ⟨none, none⟩ nv x.1
    let later (o : Option (Nat × Val)) : Bool := match o with | some y => seqLater x.2.1 y.1 | none => true
    match storedEntry x.1 with
    | some f =>
      if later p.a && later p.b then
        (if x.2.2 = f.e.default f.n then Tab.erase acc.1 x.1 else Tab.set acc.1 x.1 x.2.2, acc.2 + 1)
      else acc
    | none => acc) (vals, 0)

end Sys2Proof.Machine
end

