-- ==== Sys2Proof/Machine/Estimator.lean ====
section
/-!
DEFINITION. State of charge, health and learned values (R284 to R305): charge counting, the run for each published sweep,
its commit, balancing, storing and reset; and SWEEP_PUBLISH, which starts the run.
-/
namespace Sys2Proof.Machine
open Sys2Proof

/-- The estimator of a string before anything has happened. -/
def EstSt.none : EstSt :=
  { charge := 0, chargeRun := 0, x1 := 0, x2 := 0, spanX1 := 0, spanX2 := 0, run := .none, prev := .none, gapFrames := 0, gapRun := false,
    gapOpen := false, rest := 0, rested := false, recent := [], partDis := 0, partChg := 0, runs := 0, balanceAt := 0, healthLow := [],
    storeNext := 0 }
def State.est (s : State) (n : Nat) : EstSt := Tab.get EstSt.none s.ests n
def State.setEst (s : State) (n : Nat) (k : EstSt) : State := { s with ests := Tab.set s.ests n k }

/-- Strings whose current is measured. -/
def State.measuredStrings (s : State) : List Nat := (List.range 8).filter (fun n => decide (s.nat Ent.STRING_I_MCH n < 96))

/-- Rated capacity in Ah; a cell's capacity; its resistances and matrix, initial until learned (R295, R302). -/
def State.qRated (s : State) (n : Nat) : Rat := s.milli Ent.Q_RATED n
def State.cellQ (s : State) (n : Nat) (c : CellSt) : Rat := if c.q == 0 then s.qRated n else c.q
def State.cellTheta (s : State) (n : Nat) (c : CellSt) : List Rat :=
  let r := s.rat Ent.R_DEFAULT n
  if c.theta.isEmpty then [r / 2, r / 4, r / 4] else c.theta
def State.cellP (s : State) (n : Nat) (c : CellSt) : List Rat :=
  let r := s.rat Ent.R_DEFAULT n
  if c.p.isEmpty then [r * r, 0, 0, 0, r * r, 0, 0, 0, r * r] else c.p

/-- |STRING_CURRENT| at 1 A or more, or unknown, ends a rest (R293): in every cycle. -/
def State.restCycle (s : State) : State :=
  s.each s.measuredStrings fun z n =>
    if z.chanValid (z.nat Ent.STRING_I_MCH n) && decide (ratAbs (z.strAmps n) < 1) then z
    else if (z.est n).rest == 0 && !(z.est n).rested then z else z.setEst n { z.est n with rest := 0, rested := false }

/-- Add to a lifetime counter in whole mAh, a part being carried. -/
def State.addLifetime (s : State) (e : Entry) (n : Nat) (part : Rat) : State × Rat :=
  let w := (ratFloor part).toNat
  (if w == 0 then s else s.bump e n 0 w, part - ((w : Nat) : Rat))

/-- Bleed of one frame in Ah (R286). -/
def State.bleedFrame (s : State) (n : Nat) : Rat :=
  let pause : Rat := (((s.nat Ent.AVG_WINDOW * 50 + 200 : Nat) : Rat)) / 50000
  s.milli Ent.BLEED_CURRENT n / 3600000 * (1 - pause)

/-- One frame of counting (R286, R289): `sfn` is the frame just ended. -/
def State.countFrame (s : State) (sfn n : Nat) : State :=
  let k := s.est n
  let ch := s.nat Ent.STRING_I_MCH n
  let gone (k : EstSt) : EstSt := { k with gapFrames := k.gapFrames + 1, gapRun := true, gapOpen := true }
  let bled := s.each (s.cellsOf n) (fun z c => match (z.cell c.1 c.2).bleedTill with
    | some t =>
      let y := z.cell c.1 c.2
      if z.ticks ≤ t then z.setCell c.1 c.2 { y with bleed := y.bleed + z.bleedFrame n, owed := y.owed - z.bleedFrame n } else z
    | none => z)
  if !s.chanMeanOk ch then
    let s1 := (bled.setEst n (gone k)).setNat Ent.EST_STATUS n (setBit (s.nat Ent.EST_STATUS n) 1 true)
    if k.gapFrames != 0 then s1
    else s1.each (s1.cellsOf n) (fun z c => z.setCell c.1 c.2 { z.cell c.1 c.2 with gap := true, anchor := none })
  else
    let i := s.chanMean ch
    let q : Rat := if 0 ≤ i then i / 3600000 else i * s.milli Ent.CHARGE_EFFICIENCY n / 3600000
    let f (x tau : Rat) : Rat := let d := expNeg (1 / 1000 / tau); x * d + (1 - d) * i
    let x1 := f k.x1 (s.rat Ent.TAU1 n)
    let x2 := f k.x2 (s.rat Ent.TAU2 n)
    let dis : Rat := k.partDis + (if 0 ≤ i then q * 1000 else 0)
    let chg : Rat := k.partChg + (if 0 ≤ i then 0 else -q * 1000)
    let (s1, pd) := bled.addLifetime Ent.LIFETIME_AH_DIS n dis
    let (s2, pc) := s1.addLifetime Ent.LIFETIME_AH_CHG n chg
    let s3 := s2.when (k.gapFrames != 0) (fun z => z.raise Evt.COUNT_GAP n k.gapFrames 0)
    let ended := match s.radio.cur with
      | some (w, _) => sfn == 50 * w + (s.radio.start + s.radio.window - 1) / 20
      | none => false
    s3.setEst n { k with charge := k.charge + q, x1 := x1, x2 := x2, partDis := pd, partChg := pc, gapFrames := 0
                         spanX1 := if ended then x1 else k.spanX1, spanX2 := if ended then x2 else k.spanX2
                         recent := (ratAbs i :: k.recent).take 60000, rest := k.rest + 1 }

/-- CHARGE_COUNT: every measured string's frame. -/
def State.chargeCount (s : State) : State := s.each s.measuredStrings (fun z n => z.countFrame (z.sfn - 1) n)

/-- The run of a published sweep takes its inputs (R284, R287). -/
def State.startRun (s : State) (n w : Nat) : State :=
  let k := s.est n
  let p := if (s.radio.cur.map Prod.fst) == some w then (s.rope n).span else (s.rope n).spanLast
  let run : EstRun := ⟨w, s.rat Ent.SWEEP_CURRENT n, k.spanX1, k.spanX2, p.lo, p.hi, !bit (s.nat Ent.SWEEP_STATUS n) 2,
    bit (s.nat Ent.SWEEP_STATUS n) 0⟩
  let s1 := s.setEst n { k with chargeRun := k.chargeRun + k.charge, charge := 0, run := some run }
  s1.each (s1.cellsOf n) (fun z c =>
    z.setCell c.1 c.2 { z.cell c.1 c.2 with bleedRun := (z.cell c.1 c.2).bleedRun + (z.cell c.1 c.2).bleed, bleed := 0 })

/-- SWEEP_PUBLISH (R248): at cycle 0 of frame 50w + 52. -/
def execSweepPublish (s : State) : Host.Outcome State Fault Refusal :=
  let pick := match s.radio.due, s.radio.cur with
    | some d, _ => if s.sfn == 50 * d.1 + 52 then some d else none
    | none, some d => if s.sfn == 50 * d.1 + 52 then some d else none
    | none, none => none
  match pick with
  | none => ok s
  | some (w, ch) =>
    if s.cycle != 0 then ok s
    else
      let now := (List.range 8).filter (fun n => !s.late (0x0500 + n))
      let s1 := (s.each now (fun z n => z.publishString n w)).streamSweep w
      let s2 := s1.each (now.filter (fun n => s1.nat Ent.MONITOR_COUNT n != 0)) (fun z n => z.startRun n w)
      let s3 := s2.judgeChannel w ch
      ok (s3.setRadio { s3.radio with due := none, cur := if (s3.radio.cur.map Prod.fst) == some w then none else s3.radio.cur })

/-- OCV_TABLE at a temperature (R288): the column of 21 voltages in mV, and whether the temperature lies in the table. -/
def ocvColumn (b : List Byte) (t : Rat) : List Rat × Bool :=
  let temp (i : Nat) : Rat := ((signed 16 (leAt b (2 * i) 2) : Int) : Rat)
  let col (c : Nat) : List Rat := (List.range 21).map (fun i => ((leAt b (8 + 42 * c + 2 * i) 2 : Nat) : Rat))
  let inside := decide (temp 0 ≤ t) && decide (t ≤ temp 3)
  let i := if t ≤ temp 1 then 0 else if t ≤ temp 2 then 1 else 2
  let d := temp (i + 1) - temp i
  let w : Rat := if d == 0 then 0 else (t - temp i) / d
  (((col i).zip (col (i + 1))).map (fun p => p.1 + (p.2 - p.1) * w), inside)

/-- State of charge in % of a rest voltage in mV, with the slope of its segment in mV per % (R288). -/
def ocvSoc (col : List Rat) (mv : Rat) : Rat × Rat :=
  let v (i : Nat) : Rat := col.getD i 0
  let i := ((List.range 20).find? (fun i => decide (mv ≤ v (i + 1)))).getD 19
  let d := v (i + 1) - v i
  let s := if mv ≤ v 0 then 0 else if v 20 ≤ mv then 100 else ((i : Nat) : Rat) * 5 + 5 * (mv - v i) / d
  (s, d / 5)

/-- Rest voltage in mV of a state of charge in %. -/
def ocvVolts (col : List Rat) (soc : Rat) : Rat :=
  let i := min 19 (ratFloor (soc / 5)).toNat
  let v (i : Nat) : Rat := col.getD i 0
  v i + (v (i + 1) - v i) * (soc - ((i : Nat) : Rat) * 5) / 5

/-- A number between two bounds. -/
def clampRat (lo hi q : Rat) : Rat := if q < lo then lo else if hi < q then hi else q

/-- Dot product, and a matrix of three rows times a vector. -/
def dot (a b : List Rat) : Rat := ratSum ((a.zip b).map (fun p => p.1 * p.2))
def matVec (p v : List Rat) : List Rat := [dot (p.take 3) v, dot ((p.drop 3).take 3) v, dot (p.drop 6) v]

/-- What a run sees of one cell: temperature, its column, voltage, rest-voltage state of charge, factors of c_v. -/
structure CellView where
  temp : Rat
  tempOk : Bool
  inside : Bool
  col : List Rat
  f : Rat
  volts : Rat
  soc : Rat
  slope : Rat
  conf : Rat
  valid : Bool
deriving DecidableEq, Repr

/-- The view of a cell in a run (R285, R288 to R290). -/
def State.viewCell (s : State) (n : Nat) (r : EstRun) (k j : Nat) : CellView :=
  let c := s.cell k j
  let t := s.cellTemp n k j
  let temp := t.getD c.temp
  let o := ocvColumn (s.bytes Ent.OCV_TABLE n) temp
  let f := tableAt (s.bytes Ent.R_TEMP_TABLE n) temp / 1000
  let th := s.cellTheta n c
  let v := s.cellVolts k j
  let corr := f * dot th [r.amps, r.x1, r.x2]
  let sv := ocvSoc o.1 ((v + corr) * 1000)
  let valid := s.cellCode k j == Cell.VALID
  let slope := clampRat 0 1 (sv.2 / ((s.nat Ent.SLOPE_FULL n : Nat) : Rat))
  let cur := clampRat 0 1 (1 - ratAbs corr / s.milli Ent.CORR_LIMIT n)
  let par : Rat := if c.rLearned then 1 else 1 / 2
  { temp := temp, tempOk := t.isSome, inside := o.2, col := o.1, f := f, volts := v, soc := sv.1, slope := slope,
    conf := if !valid || !r.ampsOk || t.isNone || !o.2 then 0 else slope * cur * par, valid := valid }

/-- Counting of a run (R287): both tracks, bounded; the cell's charge in Ah. -/
def State.countCell (s : State) (n : Nat) (c : CellSt) : CellSt × Rat :=
  let d := (s.est n).chargeRun + c.bleedRun
  let move (x : Rat) : Rat := clampRat 0 100 (x - 100 * d / s.cellQ n c)
  ({ c with soc := move c.soc, count := move c.count, bleedRun := 0, since := c.since + d }, d)

/-- A learning pair (R294). -/
def State.learns (s : State) (n : Nat) (r : EstRun) (c : CellSt) (v : CellView) : Bool :=
  match (s.est n).prev with
  | none => false
  | some p =>
    let di := ratAbs (r.amps - p.amps)
    p.sweep + 1 == r.sweep && v.valid && c.valid && !(s.est n).gapRun && r.ampsOk && p.ampsOk && v.tempOk &&
      decide (s.rat Ent.STEP_MIN n ≤ di) && decide (ratAbs (v.temp - c.temp) ≤ 1) &&
      decide (r.hi - r.lo ≤ di / 10) && decide (p.hi - p.lo ≤ di / 10)

/-- OCV after the counted charge less OCV before it, in mV (R295); at a temperature outside the table R288 states no OCV: a free value. -/
def State.ocvMoved (s : State) (c old : CellSt) (v : CellView) : Rat × State :=
  if v.inside then (ocvVolts v.col c.soc - ocvVolts v.col old.soc, s) else s.takeFreeRat

/-- One step of recursive least squares (R295), from the change of OCV in mV: the cell, and whether the pair was rejected. -/
def State.learn (s : State) (n : Nat) (r p : EstRun) (c old : CellSt) (v : CellView) (moved : Rat) : CellSt × Bool :=
  let phi := [v.f * (r.amps - p.amps), v.f * (r.x1 - p.x1), v.f * (r.x2 - p.x2)]
  let th := s.cellTheta n c
  let m := s.cellP n c
  let y := moved / 1000 - (v.volts - old.volts)
  let e := y - dot phi th
  let g := s.rat Ent.RLS_FORGET n
  let rd := s.rat Ent.R_DEFAULT n
  if c.rLearned && decide (1 / 100 < ratAbs e) then (c, true)
  else
    let mp := matVec m phi
    let k := mp.map (fun x => x / (g / 1000000 + dot phi mp))
    let th2 := (th.zip k).map (fun q => clampRat 0 (20 * rd) (q.1 + q.2 * e))
    let row := matVec [m.getD 0 0, m.getD 3 0, m.getD 6 0, m.getD 1 0, m.getD 4 0, m.getD 7 0, m.getD 2 0, m.getD 5 0, m.getD 8 0] phi
    let m2 := (List.range 9).map (fun i => (m.getD i 0 - k.getD (i / 3) 0 * row.getD (i % 3) 0) / g)
    let tr := m2.getD 0 0 + m2.getD 4 0 + m2.getD 8 0
    let m3 := if 3 * rd * rd < tr then m2.map (fun x => x * (3 * rd * rd) / tr) else m2
    let n2 := min 65535 (c.pairs + 1)
    ({ c with theta := th2, p := m3, pairs := n2, rLearned := c.rLearned || decide (n2 ≥ 20) }, false)

/-- The capacity anchor (R296): the cell, and whether its capacity was learned. -/
def State.learnQ (s : State) (n : Nat) (c : CellSt) (v : CellView) : CellSt × Bool :=
  let fresh : CellSt := { c with anchor := some (v.soc, s.ticks), since := 0 }
  if v.conf < s.milli Ent.CONF_HIGH n then (c, false)
  else match c.anchor with
    | none => (fresh, false)
    | some (a, t) =>
      let swing := ratAbs (v.soc - a)
      if s.ticks > t + 7 * dayTicks then (fresh, false)
      else if swing * 100 < ((s.nat Ent.CAP_MIN_SWING n : Nat) : Rat) then (c, false)
      else
        let q := s.cellQ n c
        let m := ratAbs c.since * 100 / swing
        let d := clampRat (-q / 20) (q / 20) (s.milli Ent.CAP_GAIN n * (m - q))
        let rated := s.qRated n
        ({ fresh with q := clampRat (rated / 2) (rated * 12 / 10) (q + d), qLearned := true }, true)

/-- Both tracks take the voltage's state of charge. -/
def CellSt.anchored (c : CellSt) (soc : Rat) : CellSt := { c with soc := soc, count := soc, disagree := 0 }

/-- Hundredths of a per cent, signed, as a parameter. -/
def centi (q : Rat) : Nat := word 32 (ratRound (q * 100))

/-- Anchoring of a run (R292, R293, R302, Table 12-3). -/
def State.anchorCell (s : State) (n k j : Nat) (c : CellSt) (v : CellView) (resting : Bool) : State × CellSt :=
  let high := decide (s.milli Ent.CONF_HIGH n ≤ v.conf)
  let steep := v.valid && v.inside && decide (s.milli Ent.CONF_HIGH n ≤ v.slope)
  let diff := c.count - v.soc
  let apart := high && decide (((s.nat Ent.DISAGREE_LIMIT n : Nat) : Rat) / 100 < ratAbs diff)
  let m := if apart then c.disagree + 1 else 0
  if resting && steep then (s, { c.anchored v.soc with gap := false, anchorDue := false })
  else if c.anchorDue && steep then (s, { c.anchored v.soc with gap := false, anchorDue := false })
  else if c.gap && high then (s, { c.anchored v.soc with gap := false })
  else if m ≥ s.nat Ent.DISAGREE_TIME n * 20 + 1 then
    ((s.bump Ent.DISAGREE_COUNT n).raise Evt.SOC_DISAGREE n (s.cellNumber n k j) (centi diff), c.anchored v.soc)
  else (s, { c with disagree := m })

/-- Health in ‰ (R297). -/
def State.sohOf (s : State) (n : Nat) (c : CellSt) : Nat := (ratRound (1000 * s.cellQ n c / s.qRated n)).toNat
def State.resRatio (s : State) (n : Nat) (c : CellSt) : Nat :=
  let th := s.cellTheta n c
  (ratRound (1000 * (th.getD 0 0 + th.getD 1 0) / s.rat Ent.R_DEFAULT n)).toNat

/-- The entries of a cell after a commit (Table 12-6, Table 12-8). -/
def State.showCell (s : State) (n k j : Nat) (v : CellView) : State :=
  let c := s.cell k j
  let th := s.cellTheta n c
  let bleeding := match c.bleedTill with | some t => decide (s.ticks ≤ t) | none => false
  let limit := if c.rLearned then v.f * (th.getD 0 0 + th.getD 1 0) else s.rat Ent.R_DEFAULT n
  ((((((s.setNat Ent.CELL_SOC k (ratRound (c.soc * 100)).toNat j).setNat Ent.CELL_Q k (ratRound (s.cellQ n c * 1000)).toNat j).setRat
    Ent.CELL_R0 k (th.getD 0 0) j).setRat Ent.CELL_R1 k (th.getD 1 0) j).setRat Ent.CELL_R2 k (th.getD 2 0) j).setNat Ent.LEARN_STATUS k
    (pack [(0, 10, (ratRound (v.conf * 1000)).toNat), (10, 1, b2n c.rLearned), (11, 1, b2n c.qLearned), (12, 1, b2n (c.disagree != 0)),
      (13, 1, b2n bleeding), (16, 16, c.pairs)]) j).setRat Ent.CELL_R_LIMIT k limit j

/-- HEALTH_LOW of one cell (R297), told when one of its two values crosses its limit. -/
def State.healthCell (s : State) (n k j : Nat) : State :=
  let c := s.cell k j
  let a := s.sohOf n c
  let r := s.resRatio n c
  let watch (z : State) (key : Nat) (low_ : Bool) : State :=
    let e := z.est n
    if low_ && !e.healthLow.contains key then
      (z.setEst n { e with healthLow := key :: e.healthLow }).raise Evt.HEALTH_LOW n (z.cellNumber n k j) (pack [(0, 16, a), (16, 16, r)])
    else if !low_ && e.healthLow.contains key then z.setEst n { e with healthLow := e.healthLow.filter (· != key) }
    else z
  watch (watch s (2 * (k * 16 + j)) (decide (a < s.nat Ent.SOH_WARN n))) (2 * (k * 16 + j) + 1) (decide (r > s.nat Ent.RES_WARN n))

/-- The run's work on one cell, in the order of R287, R291, R295, R296 and Table 12-3. -/
def State.runCell (s : State) (n : Nat) (r : EstRun) (resting : Bool) (k j : Nat) : State :=
  let old := s.cell k j
  let v := s.viewCell n r k j
  let run0 := match (s.est n).prev with | some p => p.sweep + 1 == r.sweep | none => false
  let (c1, _) := s.countCell n { old with disagree := if run0 then old.disagree else 0 }
  let ((c2, bad), s0) := match (s.est n).prev with
    | some p =>
      if s.learns n r old v then
        let (d, z) := s.ocvMoved c1 old v
        (s.learn n r p c1 old v d, z)
      else ((c1, false), s)
    | none => ((c1, false), s)
  let s1 := s0.when bad (fun z => z.bump Ent.REJECT_COUNT n)
  let c3 : CellSt := { c2 with soc := c2.soc + s.rat Ent.FUSION_GAIN n * v.conf * (v.soc - c2.soc), conf := v.conf }
  let (c4, learned) := s1.learnQ n c3 v
  let s2 := s1.when learned (fun z => z.raise Evt.CAPACITY_LEARNED n (z.cellNumber n k j) (ratRound (c4.q * 1000)).toNat)
  let (s3, c5) := s2.anchorCell n k j c4 v resting
  let s4 := s3.setCell k j { c5 with volts := v.volts, temp := v.temp, valid := v.valid }
  (s4.showCell n k j v).healthCell n k j

/-- CAP_RATE_TABLE at a temperature and a rate in C (R298), in ‰, bilinear, end values held. -/
def capRate (b : List Byte) (t rate : Rat) : Rat :=
  let temp (i : Nat) : Rat := ((signed 16 (leAt b (2 * i) 2) : Int) : Rat)
  let rat_ (i : Nat) : Rat := ((leAt b (8 + 2 * i) 2 : Nat) : Rat) / 100
  let row (i : Nat) : Rat := interpolate ((List.range 4).map (fun c => (rat_ c, ((leAt b (16 + 8 * i + 2 * c) 2 : Nat) : Rat)))) rate
  interpolate ((List.range 4).map (fun i => (temp i, row i))) t

/-- mAh of a quantity in Ah. -/
def mAh (q : Rat) : Nat := (ratRound (q * 1000)).toNat

/-- The string figures of a commit (R298); values the spec leaves without a result are free. -/
def State.stringFigures (s : State) (n : Nat) : State :=
  let cs := (s.cellsOf n).map (fun c => s.cell c.1 c.2)
  if cs.isEmpty then s
  else
    let avail := ratMin (cs.map (fun c => c.soc / 100 * s.cellQ n c))
    let full := ratMin (cs.map (fun c => (1 - c.soc / 100) * s.cellQ n c))
    let ts := s.tempsOf n
    let rate := ratMean (s.est n).recent / ratMin (cs.map (s.cellQ n))
    let (fs, sf) := s.takeFree
    let (fu, sg) := sf.takeFree
    let soc := if avail + full == 0 then low 16 fs else (ratRound (avail / (avail + full) * 10000)).toNat
    let tmin : Rat := ratMin (ts.map (fun (t : Int) => (t : Rat) / 10))
    let usable := if ts.isEmpty then low 32 fu else mAh (avail * capRate (s.bytes Ent.CAP_RATE_TABLE n) tmin rate / 1000)
    let soh := (cs.map (s.sohOf n)).foldl min 65535
    ((((sg.fitNat Ent.STRING_AH_AVAILABLE n (mAh avail)).fitNat Ent.STRING_AH_TO_FULL n (mAh full)).setNat Ent.STRING_SOC n soc).setNat
      Ent.STRING_AH_USABLE n usable).setNat Ent.STRING_SOH n soh

/-- EST_STATUS (Table 12-9). -/
def State.showEst (s : State) (n : Nat) : State :=
  let cs := (s.cellsOf n).map (fun c => s.cell c.1 c.2)
  let bleeding := cs.any (fun c => match c.bleedTill with | some t => decide (s.ticks ≤ t) | none => false)
  let high := (cs.filter (fun c => decide (s.milli Ent.CONF_HIGH n ≤ c.conf))).length
  s.setNat Ent.EST_STATUS n
    (pack [(0, 1, 1), (1, 1, b2n (s.est n).gapOpen), (2, 1, b2n bleeding), (3, 1, b2n (!(s.est n).healthLow.isEmpty)),
      (4, 1, b2n (cs.any (fun c => c.disagree != 0))), (5, 1, b2n (cs.any (fun c => !c.rLearned))), (16, 16, high)])

/-- A learned value has changed by 0.5 % or more since its last write (R300). -/
def movedHalf (old new : Rat) : Bool := decide (ratAbs old / 200 ≤ ratAbs (new - old)) && new != old

/-- A half of ST takes writes. -/
def State.stored (s : State) : Bool := s.die.st0 || s.die.st1

/-- A cell's learned entries go to ST. -/
def State.storeLearned (s : State) (k j : Nat) : State :=
  let put (t : Tab PSlots) (e : Entry) : Tab PSlots := storeVal t (e.key k j) (s.val e k j)
  let t := [Ent.CELL_Q, Ent.CELL_R0, Ent.CELL_R1, Ent.CELL_R2, Ent.LEARN_STATUS].foldl put s.nvCells
  let old := Tab.get CellSt.none s.nvCellSts (k * 16 + j)
  let c := s.cell k j
  { s with nvCells := t
           nvCellSts := Tab.set s.nvCellSts (k * 16 + j)
             { old with theta := c.theta, p := c.p, pairs := c.pairs, rLearned := c.rLearned, qLearned := c.qLearned, q := c.q } }

/-- A learned value of a cell has moved by 0.5 % since its last write (R300). -/
def State.learnedMoved (s : State) (n : Nat) (c : Nat × Nat) : Bool :=
  let old := Tab.get CellSt.none s.nvCellSts (c.1 * 16 + c.2)
  let new := s.cell c.1 c.2
  movedHalf (s.cellQ n old) (s.cellQ n new) || ((s.cellTheta n old).zip (s.cellTheta n new)).any (fun p => movedHalf p.1 p.2)

/-- Cells marked by a reset take the initial values, from the active set in force at the run (R302). -/
def State.fillReset (s : State) (n : Nat) (c : Nat × Nat) : State :=
  let k := s.cell c.1 c.2
  if k.reset then s.setCell c.1 c.2 { k.fresh (s.qRated n) with reset := false } else s

/-- The commit of one string's run. -/
def State.commitRun (s : State) (n : Nat) (r : EstRun) : State :=
  let e := s.est n
  let resting := r.complete && r.ampsOk && !e.rested && decide (e.rest ≥ s.nat Ent.REST_TIME n * 1000) && decide (ratAbs r.amps < 1)
  let cells := s.cellsOf n
  let s0 := s.each cells (fun z c => z.fillReset n c)
  let count := (cells.filter (fun c =>
    let v := s0.viewCell n r c.1 c.2
    v.valid && v.inside && decide (s.milli Ent.CONF_HIGH n ≤ v.slope))).length
  let s1 := s0.each cells (fun z c => z.runCell n r resting c.1 c.2)
  let s2 := s1.when resting (fun z => z.raise Evt.SOC_REST_ANCHOR n count (e.rest / 1000))
  let gap := cells.any (fun c => (s2.cell c.1 c.2).gap)
  let s3 := s2.setEst n { s2.est n with prev := some r, run := none, chargeRun := 0, gapRun := false, gapOpen := e.gapFrames != 0 || gap
                                        rested := e.rested || resting, runs := (s2.est n).runs + 1 }
  let s4 := (s3.stringFigures n).showEst n
  s4.when s4.stored (fun z => z.each cells (fun y c => if y.learnedMoved n c then y.storeLearned c.1 c.2 else y))

/-- ESTIMATE_COMMIT (R284): at cycle 0 of frame 50w + 60, every string's run at once. -/
def execEstimateCommit (s : State) : Host.Outcome State Fault Refusal :=
  if s.cycle != 0 then ok s
  else ok (s.each (List.range 8) (fun z n => match (z.est n).run with
    | some r =>
      if z.sfn != 50 * r.sweep + 60 then z
      else if z.late (0x0540 + n) then
        (z.setEst n { z.est n with run := none }).setNat Ent.EST_STATUS n (setBit (z.nat Ent.EST_STATUS n) 0 false)
      else z.commitRun n r
    | none => z))

/-- Excess of each VALID cell in Ah (R299). -/
def State.excess (s : State) (n : Nat) : List ((Nat × Nat) × Rat) :=
  let cs := s.cellsOf n
  let amount (c : Nat × Nat) : Rat :=
    let k := s.cell c.1 c.2
    (if s.nat Ent.BALANCE_MODE n == 0 then 1 - k.soc / 100 else k.soc / 100) * s.cellQ n k
  let xs := cs.map amount
  let ref := if s.nat Ent.BALANCE_MODE n == 0 then ratMax xs else ratMin xs
  ((cs.filter (fun c => s.cellCode c.1 c.2 == Cell.VALID)).map
    (fun c => (c, if s.nat Ent.BALANCE_MODE n == 0 then ref - amount c else amount c - ref))).filter
    (fun p => decide (s.milli Ent.BALANCE_AH_MIN n ≤ p.2))

/-- The bleeds of one string (R299): one BALANCE command for each monitor concerned, a mask of 0 where none remains. -/
def State.balanceString (s : State) (n : Nat) : State :=
  let ex := s.excess n
  let amps := s.milli Ent.BLEED_CURRENT n
  let secs (q : Rat) : Nat := min (s.nat Ent.BALANCE_MAX_TIME n) (ratRound (q * 3600 / amps)).toNat
  s.each (s.enrolledOf n) fun z k =>
    let mine := ex.filter (fun p => p.1.1 == k)
    let was := (List.range 16).any (fun j => (z.cell k j).bleedTill.isSome)
    let time := (mine.map (fun p => secs p.2)).foldl max 0
    let z1 := z.each (List.range (z.fittedCells k)) (fun y j =>
      match mine.find? (fun p => p.1.2 == j) with
      | some p => y.setCell k j { y.cell k j with bleedTill := some (y.ticks + secTicks time), owed := p.2 }
      | none => y.setCell k j { y.cell k j with bleedTill := none, owed := 0 })
    if mine.isEmpty then (if was then z1.tellMonitor Com.BALANCE k (leBytes 2 0 ++ leBytes 2 0) else z1)
    else z1.tellMonitor Com.BALANCE k (leBytes 2 (ofBits (mine.map (fun p => p.1.2))) ++ leBytes 2 time)

/-- BALANCE_SELECTION (R299): every 60 s, for each string that balances and whose last sweep was COMPLETE. -/
def execBalanceSelection (s : State) : Host.Outcome State Fault Refusal :=
  if !s.serving then ok s
  else ok (s.each (List.range 8) (fun z n =>
    let e := z.est n
    if z.flag Ent.BALANCE_ENABLE n && bit (z.nat Ent.SWEEP_STATUS n) 0 && (e.balanceAt == 0 || decide (z.ticks ≥ e.balanceAt + secTicks 60)) then
      (z.balanceString n).setEst n { e with balanceAt := z.ticks }
    else z))

/-- A bleed ends early (R299): its cell's excess is bled, or the cell is no longer VALID; the new mask goes out. -/
def State.trimBleeds (s : State) (n : Nat) : State :=
  s.each (s.enrolledOf n) fun z k =>
    let on := (List.range (z.fittedCells k)).filter (fun j => (z.cell k j).bleedTill.isSome)
    let left := on.filter (fun j => z.cellCode k j == Cell.VALID && decide (0 < (z.cell k j).owed) && (match (z.cell k j).bleedTill with | some t => decide (z.ticks ≤ t) | none => false))
    if on == left then z
    else
      let z1 := z.each (on.filter (fun j => !left.contains j)) (fun y j => y.setCell k j { y.cell k j with bleedTill := none })
      let time := (left.map (fun j => match (z1.cell k j).bleedTill with | some t => (t - z1.ticks) / 20000 | none => 0)).foldl max 0
      z1.tellMonitor Com.BALANCE k (leBytes 2 (ofBits left) ++ leBytes 2 time)

/-- CELL_SOC and the record of a cell go to ST. -/
def State.storeRecord (s : State) (k j : Nat) : State :=
  let old := Tab.get CellSt.none s.nvCellSts (k * 16 + j)
  let c := s.cell k j
  { s with nvCells := storeVal s.nvCells (Ent.CELL_SOC.key k j) (s.val Ent.CELL_SOC k j)
           nvCellSts := Tab.set s.nvCellSts (k * 16 + j)
             { old with soc := c.soc, count := c.count, anchor := c.anchor, since := c.since, disagree := c.disagree } }

/-- The store of one string (R300): the record, and one cell's learned values in turn. -/
def State.storeString (s : State) (n : Nat) : State :=
  let cells := s.cellsOf n
  let e := s.est n
  let s1 := s.each cells (fun z c => z.storeRecord c.1 c.2)
  let s2 := { s1 with nvEsts := Tab.set s1.nvEsts n { EstSt.none with x1 := e.x1, x2 := e.x2 } }
  let turn := cells[e.storeNext % max 1 cells.length]?
  let s3 := s2.each cells (fun z c => if turn == some c then z.storeLearned c.1 c.2 else z)
  s3.setEst n { s3.est n with runs := 0, storeNext := (e.storeNext + 1) % max 1 cells.length }

/-- ESTIMATOR_STORE (R300): every 20 runs of a string. -/
def execEstimatorStore (s : State) : Host.Outcome State Fault Refusal :=
  ok (s.each (List.range 8) (fun z n => if (z.est n).runs ≥ 20 && z.stored then z.storeString n else z))

/-- A write of EST_RESET (R302): the cells are marked; their values are filled in at the next run. -/
def applyEstReset (n : Nat) (s : State) : State × Nat :=
  let cs := s.cellsOf n
  let first := match cs with | c :: _ => s.cellNumber n c.1 c.2 | [] => 0
  ((s.each cs (fun z c => z.setCell c.1 c.2 { z.cell c.1 c.2 with reset := true })).raise Evt.CELL_STATE_RESET n first 1, St.OK)

/-- EST_RESET (R302). -/
def execEstReset (c : Client) (n : Nat) (v : Nat) (s : State) : Host.Outcome State Fault Refusal :=
  ok (s.clientCommand c Ent.EST_RESET n (.num v) (applyEstReset n))

/-- What the estimator takes from ST at a start (R301): cells and branch currents. -/
def State.loadEstimator (s : State) : State := { s with cellSts := s.nvCellSts, ests := s.nvEsts }

/-- Cells of which a start found both copies of a learned value lost begin anew (R302, cause 2); `old` holds the slots before the start. -/
def State.startCells (s : State) (old : Tab PSlots) : State :=
  let lost (c : Nat × Nat) : Bool := [Ent.CELL_Q, Ent.CELL_R0, Ent.CELL_R1, Ent.CELL_R2, Ent.LEARN_STATUS].any
    (fun e => (Tab.find old (e.key c.1 c.2)).isSome && (Tab.find s.nvCells (e.key c.1 c.2)).isNone)
  s.each (List.range 8) fun z n =>
    match (z.cellsOf n).filter lost with
    | [] => z
    | c :: l => (z.each (c :: l) (fun y x => y.resetCell x.1 x.2)).raise Evt.CELL_STATE_RESET n (z.cellNumber n c.1 c.2) 2

end Sys2Proof.Machine
end

