-- ==== Sys2Proof/Machine/Reading.lean ====
section
/-!
DEFINITION. Reading an entry (R84 to R87, Table 4-2) and describing one (Table 4-4), as the dictionary service, the module bus
and the powerline share it.
-/
namespace Sys2Proof.Machine
open Sys2Proof

/-- POINT_VALUE and POINT_AGE of a node whose POINT_SELECT names a point it does not publish (Table 17-8). -/
def State.unpublished (s : State) (e : Entry) (n : Nat) : Bool :=
  decide (e.base = 0xA200) && (decide (e.sub = 0x0E) || decide (e.sub = 0x0F)) &&
    (Tab.find s.points (n * 256 + s.nat Ent.POINT_SELECT n)).isNone

/-- Values formed as they are read: a node's point and its age in µs (R403, Table 17-8), the capture selected (R319). -/
def State.pointRead (s : State) (e : Entry) (n : Nat) : Option Val :=
  if e.base = 0xA200 && e.sub = 0x0E then
    (Tab.find s.points (n * 256 + s.nat Ent.POINT_SELECT n)).map (fun p => .num p.value)
  else if e.base = 0xA200 && e.sub = 0x0F then
    (Tab.find s.points (n * 256 + s.nat Ent.POINT_SELECT n)).map (fun p => .num (((s.ticks - p.sampled) * 50 % 2 ^ 32 : Nat) : Int))
  else if e.base = 0x8020 && e.sub = 0x0D then
    (s.meas.captures.find? (fun x => x.1 == s.nat Ent.CAPTURE_SELECT)).map (fun x => .bytes x.2)
  else none

/-- CAPTURE_RECORD while CAPTURE_SELECT names no stored capture (Table 13-9). -/
def State.noCapture (s : State) (e : Entry) : Bool :=
  decide (e.base = 0x8020) && decide (e.sub = 0x0D) && !s.meas.captures.any (fun x => x.1 == s.nat Ent.CAPTURE_SELECT)

/-- What the device keeps for reads at the end of a cycle (R20). -/
def State.keepSeen (s : State) : State :=
  { s with seen := { ticks := s.ticks, cells := s.cells, actSet := s.actSet, shdSet := s.shdSet, points := s.points,
                     captures := s.meas.captures } }

/-- The state a read is answered from: the dictionary after the last completed cycle (R20). -/
def State.asRead (s : State) : State :=
  { s with ticks := s.seen.ticks, cells := s.seen.cells, actSet := s.seen.actSet, shdSet := s.seen.shdSet, points := s.seen.points,
           meas := { s.meas with captures := s.seen.captures } }

/-- What a read returns: status, type code and value bytes. A write-only entry returns DENIED_ACCESS, the shadow set of an entry
without a shadow value NOT_IN_SET; RO entries are read whatever the set. -/
def State.readEntry (s : State) (shadow : Bool) (index sub : Nat) : Nat × Nat × List Byte :=
  match findEntry index sub with
  | none =>
    match highestSub index with
    | none => (St.NO_ENTRY, 0, [])
    | some h => if sub == 0 then (St.OK, EType.u8.code, [BitVec.ofNat 8 h]) else (St.NO_ENTRY, 0, [])
  | some f =>
    if f.e.access == .wo then (St.DENIED_ACCESS, 0, [])
    else if shadow && (f.e.access == .rw) then (St.NOT_IN_SET, 0, [])
    else if s.unpublished f.e f.n then (St.NO_ENTRY, 0, [])
    else if s.noCapture f.e then (St.RANGE, 0, [])
    else
      let v := if shadow && f.e.inSets then s.shadowVal f.e f.n f.j else (s.pointRead f.e f.n).getD (s.val f.e f.n f.j)
      (St.OK, f.e.type.code, f.e.encode v)

/-- The answer to a unit's dictionary request on the module bus or the powerline (R155, "Access over the module bus"): reads of
0x1000–0x10FF and of the unit's own block, everything else DENIED_ACCESS. The first 52 bytes from OFFSET go in one message. -/
def State.unitRead (s : State) (own : Nat) (write : Bool) (b : XferBody) : XferBody :=
  let index := low 16 b.index
  let r : Nat × Nat × List Byte :=
    if write then (St.DENIED_ACCESS, 0, [])
    else if decide (0x1000 ≤ index ∧ index ≤ 0x10FF) || index == own then s.asRead.readEntry false index (low 8 b.sub)
    else (St.DENIED_ACCESS, 0, [])
  { b with status := r.1, type := if r.1 == St.OK then r.2.1 else b.type, total := r.2.2.length,
           value := (r.2.2.drop b.offset).take 52 }

/-- The 64 bytes of an XFER body (R155). -/
def xferBody (b : XferBody) (op : Nat) : List Byte :=
  fitBytes 64 (leBytes 1 op ++ leBytes 1 b.tag ++ leBytes 2 b.status ++ leBytes 2 b.index ++ leBytes 1 b.sub ++ leBytes 1 b.type ++
    leBytes 2 b.offset ++ leBytes 2 b.total ++ b.value)

/-- The body of a DESCRIBE response (R84, Table 4-4): type, access, persistence, greatest length, name. -/
def describeEntry (index sub : Nat) : Nat × List Byte :=
  match findEntry index sub with
  | some f => (St.OK, leBytes 1 f.e.type.code ++ leBytes 1 f.e.access.code ++ leBytes 1 f.e.persist.code ++ [0#8] ++
      leBytes 2 f.e.maxLength ++ textBytes f.e.name)
  | none =>
    if sub == 0 && (highestSub index).isSome then
      (St.OK, [1#8, 0#8, 0#8, 0#8, 1#8, 0#8] ++ textBytes "HIGHEST_SUB")
    else (St.NO_ENTRY, [])

end Sys2Proof.Machine
end

