-- ==== Sys2Proof/Machine/Eusor.lean ====
section
/-!
DEFINITION. The powerline network (R393 to R410): nodes and their state, tone maps, routes, the phase load and the flows of the
contention region. Its rows stand in Sys2Proof/Machine/EusorRows.lean.
-/
namespace Sys2Proof.Machine
open Sys2Proof

/-- NODE_STATE (Table 17-8). -/
def Node.NOT_CONFIGURED : Nat := 0
def Node.ABSENT : Nat := 1
def Node.ADMITTING : Nat := 2
def Node.ONLINE : Nat := 3
def Node.LOST : Nat := 4
def Node.UNREACHABLE : Nat := 5

/-- A segment without a map, a link without maps, a node not admitted. -/
def SegSt.none : SegSt := ⟨.none, 0, .none, [], 0⟩
def LinkMap.none : LinkMap := ⟨[24], [], .none⟩
def NodeSt.none : NodeSt := ⟨0, 0, 0, false, [], [], false, .none, .none, .none, [], [], 0, 0, 0⟩
def State.node (s : State) (e : Nat) : NodeSt := Tab.get NodeSt.none s.eus.nodes e
def State.setNode (s : State) (e : Nat) (k : NodeSt) : State := { s with eus := { s.eus with nodes := Tab.set s.eus.nodes e k } }
def State.nodeState (s : State) (e : Nat) : Nat := s.nat Ent.NODE_STATE e

/-- Active key of the grotto slot of a single usage (R418). -/
def State.keyOf (s : State) (usage : Nat) : Option (List Byte) :=
  ((s.keys.slots.find? (fun x => x.2.usage == usage && x.2.active.isSome)).bind (fun x => x.2.active)).map KeyMat.material

/-- The key of a node and the beacon key (R427). -/
def nodeKey (admission : List Byte) (uid : Nat) : List Byte := hmac256 admission (textBytes "SKE-6408 eusor join" ++ leBytes 6 uid)
/-- The link key of a node (R427): the salt is the device nonce ‖ the node nonce. -/
def linkKey (node : List Byte) (device own : Nat) : List Byte :=
  hkdf384 node (leBytes 8 device ++ leBytes 8 own) (textBytes "SKE-6408 eusor link") 32
def beaconKey (network : List Byte) : List Byte := hkdf384 network [] (textBytes "SKE-6408 eusor beacon") 32

/-- The half whose modem is active works, and transmission is allowed: EUSOR_ENABLE, a network key (R429). -/
def State.modemUp (s : State) : Bool := if s.eus.modem == 0 then s.die.lkA else s.die.lkB
/-- The listener becomes active at the next period start if its half works (R399). -/
def State.askHandover (s : State) (cause : Nat) : State :=
  if s.flag Ent.EUSOR_ENABLE && (if s.eus.modem == 0 then s.die.lkB else s.die.lkA) && s.eus.handover.isNone then
    { s with eus := { s.eus with handover := some cause } }
  else s
def State.eusorOn (s : State) : Bool := s.flag Ent.EUSOR_ENABLE && s.modemUp && (s.keyOf 3).isSome

/-- Nominal length of a beacon period in ns: two mains cycles (R395). -/
def State.nominalPeriod (s : State) : Nat := if s.nat Ent.EUSOR_MAINS_FREQ == 60 then 33333333 else 40000000

/-- Hops of a node: the length of its route, at least one. -/
def State.hopsOf (s : State) (e : Nat) : Nat := max 1 (s.nat Ent.HOPS e)

/-- Bits a carrier carries under its modulation code (Table 17-1). -/
def codeBits : Nat → Nat
  | 0 => 0 | 1 => 1 | 2 => 2 | 3 => 3 | 4 => 4 | 5 => 6 | 6 => 8 | 7 => 10 | _ => 0

/-- Carrier i (86 + i) is notched (Table 17-1). -/
def State.notched (s : State) (i : Nat) : Bool := bit (leNat ((s.bytes Ent.NOTCH_MASK).drop (i / 8) |>.take 1)) (i % 8)

/-- Carriers not notched. -/
def State.carriers (s : State) : List Nat := (List.range 1106).filter (fun i => !s.notched i)

/-- The 4-bit code of carrier i in a map. -/
def segCode (m : SegMap) (i : Nat) : Nat := field (leNat ((m.codes.drop (i / 2)).take 1)) (4 * (i % 2)) 4

/-- Rate of a map, or of ROBUST, in Mbit/s (Table 17-1): bits of a symbol of 140/3 µs. -/
def State.mapRate (s : State) (m : Option SegMap) : Rat :=
  match m with
  | some x => ((s.carriers.map (fun i => codeBits (segCode x i))).sum : Nat) * (if x.fec58 then (5 / 8 : Rat) else 1 / 2) * 3 / 140
  | none => (2 * s.carriers.length : Nat) * (1 / 10 : Rat) * 3 / 140

/-- The segment's map in force: none while stale (R401). -/
def SegSt.now (g : SegSt) (count : Nat) : Option SegMap :=
  match g.stale with
  | some p => if decide (p ≤ count) then .none else g.map
  | .none => g.map

def LinkMap.seg (l : LinkMap) (i : Nat) : SegSt := Tab.get SegSt.none l.segs i
def LinkMap.setSeg (l : LinkMap) (i : Nat) (g : SegSt) : LinkMap := { l with segs := Tab.set l.segs i g }

/-- Length of a mains cycle in ns as the running period has it (R395). -/
def State.mainsCycle (s : State) : Nat := (if s.eus.periodNs == 0 then s.nominalPeriod else s.eus.periodNs) / 2

/-- The segment in which an instant of the period lies, in ns from its start (R400). -/
def State.segAt (s : State) (l : LinkMap) (t : Nat) : Nat :=
  let c := max 1 s.mainsCycle
  l.ends.findIdx (fun e => decide (24 * (t % c) < e * c))

/-- The time a block of 520 bytes takes on the map of a segment, in ns, rounded up; none on a map that carries nothing (R394, R400). -/
def State.blockNs (s : State) (l : LinkMap) (seg : Nat) : Option Nat :=
  let r := s.mapRate ((l.seg seg).now s.eus.count)
  if 0 < r then some (-(ratFloor (-(4160000 / r)))).toNat else none

/-- Blocks one after the other from an instant on, each in the segment in which it starts, as many as end by `limit`: with the segments. -/
def State.airPlan (s : State) (l : LinkMap) {α : Type} : List α → Nat → Nat → List (α × Nat)
  | [], _, _ => []
  | b :: rest, t, limit =>
    let seg := s.segAt l t
    match s.blockNs l seg with
    | some d => if t + d ≤ limit then (b, seg) :: s.airPlan l rest (t + d) limit else []
    | .none => []

/-- Frame head and guard in ns (Tables 17-1 and 17-2); the acknowledgement that must end before the guard is taken as a frame head (log
entry 91). -/
def frameHead : Nat := 94667
def State.dataLimit (s : State) : Nat := 2 * s.mainsCycle - 400000 - frameHead

/-- A block of 520 bytes: sequence, data length, data, CRC-32 (R394). -/
def dataBlock (seq : Nat) (data : List Byte) : List Byte :=
  let b := leBytes 2 (low 12 seq) ++ leBytes 2 data.length ++ fitBytes 512 data
  b ++ leBytes 4 (crc32 b)

/-- A short transmission of one block (R394): sequence, data length, data and their CRC-32. -/
def shortBlock (seq : Nat) (data : List Byte) : List Byte :=
  let b := leBytes 2 (low 12 seq) ++ leBytes 2 data.length ++ data
  b ++ leBytes 4 (crc32 b)

/-- The CRC of a received block checks. -/
def blockOk (b : List Byte) : Bool := b.length == 520 && leAt b 516 4 == crc32 (b.take 516)

/-- A mains cycle within ±5 % of the nominal frequency; 0 stands for a crossing that did not arrive (R395). -/
def State.mainsOk (s : State) (ns : Nat) : Bool :=
  let n := s.nominalPeriod / 2
  decide (100 * n ≤ 105 * ns) && decide (95 * ns ≤ 100 * n)

/-- Mean rate of one direction, weighted over the segments by their length (R406). -/
def State.linkRate (s : State) (l : LinkMap) : Rat :=
  ((List.range l.ends.length).map (fun i =>
    ((l.ends.getD i 24 - (if i == 0 then 0 else l.ends.getD (i - 1) 0) : Nat) : Rat) / 24 * s.mapRate ((l.seg i).now s.eus.count))).sum

/-- NODE_STATUS shows which segments use ROBUST in either direction and the rate toward the node (Table 17-9). -/
def State.showLink (s : State) (e : Nat) : State :=
  let k := s.node e
  let n := max k.out.ends.length k.back.ends.length
  let robust := ofBits ((List.range n).filter (fun i =>
    ((k.out.seg i).now s.eus.count).isNone || ((k.back.seg i).now s.eus.count).isNone))
  let w := setField (setField (s.nat Ent.NODE_STATUS e) 8 6 robust) 16 16 ((ratRound (10 * s.linkRate k.out)).toNat)
  s.setNat Ent.NODE_STATUS e w

/-- Nodes by state. -/
def State.nodesOnline (s : State) : List Nat := (List.range 128).filter (fun e => s.nodeState e == Node.ONLINE)

/-- EUSOR_STATUS (Table 17-7). -/
def State.showEusor (s : State) : State :=
  let overrun := match s.eus.overrunAt with | some t => decide (s.ticks < t + secTicks 60) | none => false
  s.setNat Ent.EUSOR_STATUS 0 (pack [(0, 1, s.eus.modem), (1, 1, b2n s.eus.lost), (2, 1, b2n overrun), (3, 5, s.eus.proxies.length),
    (8, 8, s.nodesOnline.length), (16, 6, s.eus.used)])

/-- The phase of a ZC offset (R408), with the period measured. -/
def State.phaseOf (s : State) (lineToLine : Bool) (zc : Int) : Nat :=
  let cycle : Rat := (if s.eus.periodNs == 0 then s.nominalPeriod else s.eus.periodNs : Nat) / 2000
  let q : Rat := (zc : Rat) / cycle
  let angle : Rat := 360 * (q - ratFloor q)
  let near (a : Rat) : Bool :=
    let d := ratAbs (angle - a)
    decide ((if d > 180 then 360 - d else d) ≤ 20)
  if lineToLine then (if near 30 then 4 else if near 150 then 5 else if near 270 then 6 else 0)
  else if near 0 then 1 else if near 120 then 2 else if near 240 then 3 else 0

/-- The phases a node's load counts to (R409). -/
def phasesOf : Nat → List Nat
  | 1 => [1] | 2 => [2] | 3 => [3] | 4 => [1, 2] | 5 => [2, 3] | 6 => [3, 1] | _ => []
def State.nodePhase (s : State) (e : Nat) : Nat := field (s.nat Ent.NODE_STATUS e) 0 3

/-- A node's load split over its phases, as loads of phases 1, 2 and 3. -/
def splitLoad (phase : Nat) (w : Rat) : List Rat :=
  let ps := phasesOf phase
  [1, 2, 3].map (fun p => if ps.contains p then w / ps.length else 0)

/-- Phase loads from every ONLINE node's AUX_LOAD, in W (R409). -/
def State.phaseLoads (s : State) : List Rat :=
  s.nodesOnline.foldl (fun a e => a.zipWith (· + ·) (splitLoad (s.nodePhase e) (s.nat Ent.AUX_LOAD e))) [0, 0, 0]

/-- Highest minus lowest. -/
def imbalanceOf (l : List Rat) : Rat := l.foldl max 0 - l.foldl min (l.headD 0)

/-- PHASE_LOAD_L1 to L3 follow, and with them since when the imbalance has been above the limit (R409). -/
def State.formLoads (s : State) : State :=
  let l := s.phaseLoads
  let s1 := ((s.fitNat Ent.PHASE_LOAD_L1 0 (ratFloor (l.getD 0 0)).toNat).fitNat Ent.PHASE_LOAD_L2 0 (ratFloor (l.getD 1 0)).toNat).fitNat
    Ent.PHASE_LOAD_L3 0 (ratFloor (l.getD 2 0)).toNat
  let high := decide (imbalanceOf l > s.nat Ent.AUX_IMBALANCE_LIMIT)
  { s1 with eus := { s1.eus with heavySince := if high then some (s1.eus.heavySince.getD s1.ticks) else none,
                                 heavyTold := high && s1.eus.heavyTold } }

/-- A load start fits (R409): the phase is unknown, or the imbalance with it stays at or below the limit. -/
def State.loadFits (s : State) (e watts : Nat) : Bool :=
  s.nodePhase e == 0 ||
    decide (imbalanceOf (s.phaseLoads.zipWith (· + ·) (splitLoad (s.nodePhase e) watts)) ≤ s.nat Ent.AUX_IMBALANCE_LIMIT)

/-- A message for a node's next poll (R402, R404). -/
def State.toNode (s : State) (e type : Nat) (body : List Byte) : State :=
  { s with eus := { s.eus with queue := s.eus.queue ++ [(e, s.frames, type, body)] } }

/-- A message as it stands in a block: TYPE, LENGTH, body. -/
def nodeItem (t : Nat × List Byte) : List Byte := leBytes 1 t.1 ++ leBytes 1 t.2.length ++ t.2

/-- Cut a message into blocks of 512 bytes, by number (R394). -/
def blocksOf (n : Nat) : List (Nat × Nat) := (List.range (max 1 (cdiv n 512))).map (fun i => (i, 0))

/-- A message for the contention region (R405): CW starts at 8 for tone maps, soundings and joins, at 16 for other data. -/
def State.startFlow (s : State) (e kind : Nat) (body : List Byte) (m : Option ToneMap := none) : State :=
  { s with eus := { s.eus with flows := s.eus.flows ++ [⟨e, kind, body, blocksOf body.length, [], if kind == 4 then 16 else 8, m⟩] } }

/-- Mark a segment's map stale (R401): from the next period ROBUST in that segment only, and the link sounds again: toward the
node the device sends a sounding, toward the device it asks for one. -/
def State.markStale (s : State) (e : Nat) (back : Bool) (seg : Nat) : State :=
  let k := s.node e
  let l := if back then k.back else k.out
  let g := l.seg seg
  if g.map.isNone || g.stale.isSome then s
  else
    let l1 := l.setSeg seg { g with stale := some (s.eus.count + 1) }
    (s.setNode e (if back then { k with back := l1 } else { k with out := l1 })).startFlow e (if back then 2 else 1) []

/-- Enter the outcome of a block in its segment (R401): 3 of the last 8 failed make the map stale. -/
def State.noteBlock (s : State) (e : Nat) (back : Bool) (seg : Nat) (good : Bool) : State :=
  let k := s.node e
  let l := if back then k.back else k.out
  let g := l.seg seg
  let g1 := { g with blocks := (good :: g.blocks).take 8 }
  let l1 := l.setSeg seg g1
  let s1 := s.setNode e (if back then { k with back := l1 } else { k with out := l1 })
  if decide ((g1.blocks.filter (fun b => !b)).length ≥ 3) then s1.markStale e back seg else s1

/-- Enter the outcome of a control transmission (R401): two failed in a row make the map stale. -/
def State.noteControl (s : State) (e : Nat) (back : Bool) (seg : Nat) (good : Bool) : State :=
  let s0 := s.noteBlock e back seg good
  let k := s0.node e
  let l := if back then k.back else k.out
  let g := l.seg seg
  let g1 := { g with failed := if good then 0 else g.failed + 1 }
  let l1 := l.setSeg seg g1
  let s1 := s0.setNode e (if back then { k with back := l1 } else { k with out := l1 })
  if decide (g1.failed ≥ 2) then s1.markStale e back seg else s1

/-- Block failures of a segment in ‰ of the outcomes kept. -/
def SegSt.share (g : SegSt) : Nat :=
  if g.blocks.isEmpty then 0 else (g.blocks.filter (fun b => !b)).length * 1000 / g.blocks.length

/-- Maps acknowledged in this period serve from the next one; each raises its event (R400, R401). -/
def State.acceptMap (s : State) (e : Nat) (back : Bool) (m : ToneMap) : State :=
  let k := s.node e
  let l := if back then k.back else k.out
  let l1 := { l with next := some (s.eus.count + 1, m) }
  let s1 := s.setNode e (if back then { k with back := l1 } else { k with out := l1 })
  s1.each m.maps (fun z x => z.raise Evt.TONE_MAP_RENEGOTIATED e (pack [(0, 8, x.seg), (8, 1, b2n back)]) (l.seg x.seg).share)

/-- Take maps into force at a period's start (R400): another division drops the old maps. -/
def LinkMap.begin (l : LinkMap) (count ticks : Nat) : LinkMap :=
  match l.next with
  | .none => l
  | .some (p, m) =>
    if p > count then l
    else
      let base : LinkMap := if l.ends == m.ends then l else ⟨m.ends, [], .none⟩
      let l1 : LinkMap := m.maps.foldl (fun (a : LinkMap) x =>
        let g := a.seg x.seg
        a.setSeg x.seg { g with map := some x, at_ := ticks, stale := .none, blocks := [], failed := 0 }) base
      { l1 with next := .none }

/-! Routes (R406). -/

/-- A link's cost: ⌈1,000 / r⌉ + HOP_PENALTY, r the lower of its directions' mean rates (in 0.1 Mbit/s here). -/
def State.linkCost (s : State) (rate : Nat) : Nat := cdiv 10000 rate + s.nat Ent.HOP_PENALTY

/-- The lower rate of the link between two ends as reported: by either end, the lower of the reports; `none` without one. -/
def State.rateBetween (s : State) (a b : Nat) : Option Nat :=
  let from_ (x y : Nat) : List Nat :=
    if x ≥ 128 then [] else ((s.node x).near.filter (fun n => n.node == y)).map (fun n => min n.rateOut n.rateBack)
  match (from_ a b ++ from_ b a).filter (fun r => decide (0 < r)) with
  | [] => none
  | r :: rest => some (rest.foldl min r)

/-- One more hop: of the routes found and their extensions by the allowed relays, the cheapest to each node (lower index of the
last relay on equal cost). -/
def State.routeRound (s : State) (relays targets : List Nat) (found : Tab (Nat × List Nat)) : Tab (Nat × List Nat) :=
  targets.foldl (fun acc n =>
    let options := (0xFF :: relays).filterMap (fun p =>
      if p == n then none
      else match s.rateBetween p n, (if p == 0xFF then some (0, []) else Tab.find found p) with
        | some r, some (c, path) => if path.contains n || decide (path.length ≥ 8) then none else some (c + s.linkCost r, path ++ [n])
        | _, _ => none)
    options.foldl (fun (a : Tab (Nat × List Nat)) o => match Tab.find a n with
      | some x => if decide (o.1 < x.1) then Tab.set a n o else a
      | none => Tab.set a n o) acc) found

/-- Least-cost routes of at most 8 hops over the allowed relays: cost and nodes from the device outward. -/
def State.routes (s : State) (relays targets : List Nat) : Tab (Nat × List Nat) :=
  (List.range 8).foldl (fun a _ => s.routeRound relays targets a) []

/-- The route in use. -/
def State.routeOf (s : State) (e : Nat) : List Nat := (s.bytes Ent.ROUTE e).map (fun b => b.toNat)

/-- Links of a route by their ends. -/
def routeLinks (r : List Nat) : List Nat := ((0xFF :: r).zip r).map (fun x => x.1 * 256 + x.2)

/-- Cost of the route in use with the present reports, or as shown when a link is not reported. -/
def State.presentCost (s : State) (e : Nat) : Nat :=
  let costs := (routeLinks (s.routeOf e)).map (fun l => (s.rateBetween (l / 256) (l % 256)).map s.linkCost)
  if costs.all Option.isSome then (costs.map (fun c => c.getD 0)).sum else s.nat Ent.ROUTE_COST e

/-- Relays a set of routes needs. -/
def relaysOf (rs : List (List Nat)) : List Nat :=
  (List.range 128).filter (fun e => rs.any (fun r => (r.dropLast).contains e))

/-- Proxies (R397): nodes that are the parent of another, in ascending level, then ascending index. -/
def State.proxyList (s : State) : List Nat :=
  let ps := relaysOf ((List.range 128).map s.routeOf)
  (List.range 9).flatMap (fun h => ps.filter (fun e => s.nat Ent.HOPS e == h))

/-- PROXY_MAP and the PROXY bits follow the routes. -/
def State.showProxies (s : State) : State :=
  let ps := s.proxyList.take 16
  ({ s with eus := { s.eus with proxies := ps } }).each (List.range 128) (fun z e =>
    if bit (z.nat Ent.NODE_STATUS e) 4 == ps.contains e then z
    else z.setNat Ent.NODE_STATUS e (setBit (z.nat Ent.NODE_STATUS e) 4 (ps.contains e)))

/-- A route comes into use (R406). -/
def State.useRoute (s : State) (e : Nat) (r : List Nat) (cost : Nat) : State :=
  (((s.setBytes Ent.ROUTE e (r.map (BitVec.ofNat 8))).setNat Ent.HOPS e r.length).fitNat Ent.ROUTE_COST e cost).showProxies

/-- Set a node's state, and the online count with it. -/
def State.setNodeState (s : State) (e st : Nat) : State := (s.setNat Ent.NODE_STATE e st).showEusor

/-- A node's link ends (R410). -/
def State.dropNode (s : State) (e st : Nat) : State :=
  let s1 := { s with
    points := s.points.filter (fun p => p.1 / 256 != e)
    eus := { s.eus with nodes := Tab.erase s.eus.nodes e, queue := s.eus.queue.filter (fun q => q.1 != e),
                        flows := s.eus.flows.filter (fun f => f.node != e), loads := s.eus.loads.filter (fun l => l.node != e) } }
  let s2 := (((((s1.setBytes Ent.ROUTE e []).setNat Ent.HOPS e 0).setNat Ent.ROUTE_COST e 0).setNat Ent.AUX_LOAD e 0).setNat
    Ent.NODE_STATUS e 0).showProxies
  (s2.setNodeState e st).formLoads

/-- At a start and at a swap (Table 17-8): a node not enabled is NOT_CONFIGURED, an enabled one without a link ABSENT; a node
whose UID changed loses its link. -/
def State.placeNodes (s : State) (changed : Nat → Bool) : State :=
  s.each (List.range 128) (fun z e =>
    if !z.flag Ent.NODE_ENABLE e then (if z.nodeState e == Node.NOT_CONFIGURED then z else z.dropNode e Node.NOT_CONFIGURED)
    else if z.nodeState e == Node.NOT_CONFIGURED || changed e then z.dropNode e Node.ABSENT
    else z)

/-- At a start the period count resumes 1,000 above its stored value (R427), and no node is admitted. -/
def State.startEusor (s : State) : State :=
  let s1 := { s with eus := { s.eus with count := (s.eus.count + 1000) % 2 ^ 48, modem := if s.die.lkA then 0 else 1, handover := none,
                                         lost := false, crossings := 0, used := 0, reserve := 0, overrunAt := none } }
  let s2 := s1.each (List.range 128) (fun z e => if z.nodeState e == Node.NOT_CONFIGURED then z else z.dropNode e Node.ABSENT)
  s2.placeNodes (fun _ => false)

/-- A new EUSOR_NETWORK key has committed (R427): each ONLINE node is sent the new beacon key in its next poll; it serves 64
periods later. The spec gives the message no type: it goes as a message of its own kind. -/
def State.renewBeaconKey (s : State) : State :=
  match s.keyOf 3 with
  | none => { s with eus := { s.eus with key := [], keyNext := none } }
  | some k =>
    let b := beaconKey k
    if s.eus.key.isEmpty then { s with eus := { s.eus with key := b, keyNext := none } }
    else { s with eus := { s.eus with keyNext := some (s.eus.count + 64, b) } }.each s.nodesOnline (fun z e => z.toNode e 0 b)

end Sys2Proof.Machine
end

