-- ==== Sys2Proof/Machine/Calendar.lean ====
section
/-!
DEFINITION. Meter time and local time (R352, R353), dates, calendars and the rate they give (R354 to R356).
-/
namespace Sys2Proof.Machine
open Sys2Proof

/-- UTC in ms since 2000-01-01 that the present frame's number gives (R352). -/
def State.utcMs (s : State) : Int := (s.sfn : Int) - 1000 * s.int Ent.TAI_UTC_OFFSET

/-- A metering die runs and has not failed. -/
def State.metersUp (s : State) : Bool := (s.die.m0Running && !s.die.m0Failed) || (s.die.m1Running && !s.die.m1Failed)

/-- Meter time is formed once a frame, by the metering dies (R352); a standstill that begins raises its event (R353). -/
def State.formTime (s : State) : State :=
  if s.bill.mtFrame == some s.frames || !s.metersUp then s
  else
    let old := s.nat Ent.METER_TIME
    let u := s.utcMs
    let still := decide (u < (old : Int))
    let mt := if still then old else u.toNat
    let left := if still then ((old : Int) - u).toNat else 0
    let s1 := { s with bill := { s.bill with mtFrame := some s.frames, mtPrev := old, still := still } }
    let s2 := ((s1.setNat Ent.METER_TIME 0 mt).fitNat Ent.METER_TIME_S 0 (mt / 1000)).setNat Ent.STANDSTILL_LEFT 0 (min left 0xFFFFFFFF)
    s2.when (still && !s.bill.still) (fun z => z.raise Evt.METER_TIME_STANDSTILL 0 (min left 0xFFFFFFFF) (low 32 s.sfn))

/-- Local time L in ms (R353). -/
def State.localMs (s : State) : Int := (s.nat Ent.METER_TIME : Int) + 60000 * s.int Ent.LOCAL_OFFSET

/-- Day number and weekday (0 Monday) of a local time (R353). -/
def dayOf (l : Int) : Int := l / 86400000
def weekdayOf (l : Int) : Nat := ((dayOf l + 5) % 7).toNat
def minuteOf (l : Int) : Nat := (l % 86400000).toNat / 60000
def hourOf (l : Int) : Nat := (l % 86400000).toNat / 3600000

/-- Year, month and day of a day number from 2000-01-01, in the proleptic Gregorian calendar. -/
def civil (d : Int) : Int × Nat × Nat :=
  let z := d + 730425
  let era := z / 146097
  let doe := (z - era * 146097).toNat
  let yoe := (doe - doe / 1460 + doe / 36524 - doe / 146096) / 365
  let doy := doe - (365 * yoe + yoe / 4 - yoe / 100)
  let mp := (5 * doy + 2) / 153
  let m := if mp < 10 then mp + 3 else mp - 9
  (era * 400 + (yoe : Int) + (if m ≤ 2 then 1 else 0), m, doy - (153 * mp + 2) / 5 + 1)

/-- The day number of a date. -/
def dayNumber (y : Int) (m d : Nat) : Int :=
  let y1 := if m ≤ 2 then y - 1 else y
  let era := y1 / 400
  let yoe := (y1 - era * 400).toNat
  let doy := (153 * (if 2 < m then m - 3 else m + 9) + 2) / 5 + d - 1
  era * 146097 + ((yoe * 365 + yoe / 4 - yoe / 100 + doy : Nat) : Int) - 730425

/-- A season, a switch point and a special day of a calendar (Table 15-1). -/
structure Season where
  month : Nat
  day : Nat
  week : List Nat
structure SwitchPoint where
  minute : Nat
  rate : Nat
structure SpecialDay where
  year : Nat
  month : Nat
  day : Nat
  profile : Nat

/-- Used seasons, switch points of a profile and special days of calendar `c`. -/
def State.seasons (s : State) (c : Nat) : List Season :=
  let b := s.bytes Ent.CAL_SEASONS c
  ((List.range 4).map (fun i => (⟨leAt b (9 * i) 1, leAt b (9 * i + 1) 1, (List.range 7).map (fun j => leAt b (9 * i + 2 + j) 1)⟩ : Season))).filter
    (fun x => x.month != 0)
def State.switchPoints (s : State) (c p : Nat) : List SwitchPoint :=
  let b := s.bytes Ent.CAL_DAY_PROFILES c
  if b.length < 288 then []
  else ((List.range 12).map (fun i => (⟨leAt b (36 * p + 3 * i) 2, leAt b (36 * p + 3 * i + 2) 1⟩ : SwitchPoint))).filter
    (fun x => x.minute != 0xFFFF)
def State.specialDays (s : State) (c : Nat) : List SpecialDay :=
  let b := s.bytes Ent.CAL_SPECIAL_DAYS c
  ((List.range 32).map (fun i => (⟨leAt b (5 * i) 2, leAt b (5 * i + 2) 1, leAt b (5 * i + 3) 1, leAt b (5 * i + 4) 1⟩ : SpecialDay))).filter
    (fun x => x.month != 0)

/-- The element with the largest key. -/
def latest {α : Type} (key : α → Nat) (l : List α) : Option α :=
  l.foldl (fun a x => match a with | none => some x | some y => if key y ≤ key x then some x else some y) none

/-- The rate calendar `c` gives at a local time (R355). -/
def State.calendarRate (s : State) (c : Nat) (l : Int) : Option Nat :=
  let (y, m, d) := civil (dayOf l)
  let ss := s.seasons c
  let key (x : Season) : Nat := 32 * x.month + x.day
  let season : Option Season := match latest key (ss.filter (fun x => decide (key x ≤ 32 * m + d))) with
    | some x => some x
    | none => latest key ss
  let special := (s.specialDays c).find? (fun x => (x.year == 0 || (x.year : Int) == y) && x.month == m && x.day == d)
  let profile : Option Nat := match special with
    | some x => some x.profile
    | none => season.map (fun (x : Season) => x.week.getD (weekdayOf l) 0)
  profile.bind (fun p =>
    let ps := s.switchPoints c p
    let now := match latest SwitchPoint.minute (ps.filter (fun x => decide (x.minute ≤ minuteOf l))) with
      | some x => some x
      | none => latest SwitchPoint.minute ps
    now.map SwitchPoint.rate)

/-- A calendar is valid (R355). -/
def State.calendarValid (s : State) (c : Nat) : Bool :=
  let ss := s.seasons c
  !ss.isEmpty && (ss.flatMap Season.week ++ (s.specialDays c).map SpecialDay.profile).all (fun p => !(s.switchPoints c p).isEmpty)

/-- Every field of a calendar lies in its range (Table 15-1, R357). -/
def State.calendarInRange (s : State) (c : Nat) : Bool :=
  (s.seasons c).all (fun x => decide (x.month ≤ 12) && decide (1 ≤ x.day) && decide (x.day ≤ 31) && x.week.all (fun p => decide (p ≤ 7))) &&
  (List.range 8).all (fun p => (s.switchPoints c p).all (fun x => decide (x.minute ≤ 1439) && decide (1 ≤ x.rate) && decide (x.rate ≤ 8))) &&
  (s.specialDays c).all (fun x => decide (x.month ≤ 12) && decide (1 ≤ x.day) && decide (x.day ≤ 31) && decide (x.profile ≤ 7))

/-- The rate in force is evaluated at step 4; a standstill keeps it (R353, R356). -/
def State.evalRate (s : State) : State :=
  if s.bill.still then s
  else match s.calendarRate (s.nat Ent.ACTIVE_CALENDAR) s.localMs with
    | none => s
    | some r =>
      let old := s.nat Ent.ACTIVE_RATE
      if r == old then s else (s.setNat Ent.ACTIVE_RATE 0 r).raise Evt.RATE_CHANGE 0 r old

/-- A calendar becomes active: cause 0 its activation time, 1 a TARIFF_SWITCH (R356). -/
def State.activate (s : State) (c cause : Nat) : State :=
  if s.nat Ent.ACTIVE_CALENDAR == c then s
  else (s.setNat Ent.ACTIVE_CALENDAR 0 c).raise Evt.CALENDAR_ACTIVATED 0 c cause

/-- Calendars whose activation time lies in (MT_prev, MT], with that time (R356). -/
def State.activationsDue (s : State) : List (Nat × Nat) :=
  ((List.range 4).map (fun c => (s.nat Ent.CAL_ACTIVATE c, c))).filter
    (fun x => x.1 != 0 && decide (s.bill.mtPrev / 1000 < x.1) && decide (x.1 ≤ s.nat Ent.METER_TIME / 1000))

/-- Step 4 ahead of the actions (R356): every calendar whose time lies in (MT_prev, MT] becomes active, in ascending time, and the rate is
evaluated. Done again at the same boundary it changes nothing. -/
def State.calendarStep (s : State) : State :=
  if s.bill.still || !s.metersUp then s
  else
    let order := sortBy (fun x y => decide (x.1 ≤ y.1)) s.activationsDue
    let s1 := s.each order (fun z x => z.activate x.2 0)
    { s1 with bill := { s1.bill with mtPrev := s1.nat Ent.METER_TIME } }.evalRate

/-- CALENDAR_ACTIVATION (R356), after the swap of the boundary. -/
def execCalendarActivation (s : State) : Host.Outcome State Fault Refusal :=
  if s.cycle != 0 || s.tx.step != 3 then ok s else ok s.calendarStep

/-- A TARIFF_SWITCH action (R45, R356): a calendar above 3 or invalid gives RANGE. -/
def applyTariffSwitch (c : Nat) (s : State) : State × Nat :=
  if 3 < c || !s.calendarValid c then (s, St.RANGE) else ((s.activate c 1).evalRate, St.OK)

end Sys2Proof.Machine
end

