-- ==== Sys2Proof/Machine/Billing.lean ====
section
/-!
DEFINITION. Intervals, demand and the load profile, billing periods, signed records, prepaid accounts (R358 to R373).
-/
namespace Sys2Proof.Machine
open Sys2Proof

/-- The interval index of the present frame (R359). -/
def State.intervalNow (s : State) : Nat := (s.utcMs / 900000).toNat

/-- The channel values of a profile record (R361). -/
def State.profileValues (s : State) : List Byte :=
  let b := s.bytes Ent.PROFILE_CHANNELS
  (List.range 48).flatMap fun i =>
    let v := leAt b (2 * i) 2
    if v == 0xFFFF then List.replicate 8 0xFF#8 else leBytes 8 (s.nat Ent.REGISTER (v / 256) (v % 256))

/-- Write a profile record (Table 15-2); its header bits are counted from bit 104. -/
def State.writeProfile (s : State) (sfnClose j bits : Nat) (values : List Byte) : State :=
  let seq := nextSeq s.bill.profileSeq
  let repeated := s.bill.profile.any (fun x => x.2.1 == low 32 j)
  let b1 := if repeated then setBit bits 4 true else bits
  let b2 := if field b1 1 6 == 0 then setBit b1 0 true else b1
  let r := leBytes 8 sfnClose ++ leBytes 4 j ++ leBytes 1 (s.nat Ent.ACTIVE_RATE) ++ leBytes 2 b2 ++ leBytes 1 0 ++ values
  let l := ((seq, low 32 j, r) :: s.bill.profile).take 38400
  let s1 := ({ s with bill := { s.bill with profile := l, profileSeq := seq } }).streamRecord 3 r
  (s1.setNat Ent.PROFILE_NEWEST 0 seq).setNat Ent.PROFILE_OLDEST 0 ((l.getLast?.map Prod.fst).getD 0)

/-- Header bits of the newest profile record. -/
def State.newestBits (s : State) : Nat := match s.bill.profile with | x :: _ => leAt x.2.2 13 2 | [] => 0

/-- Demand of the closed interval at a point (R360). -/
def State.closeDemand (s : State) (bits pt : Nat) : State :=
  let k := s.mpoint pt
  let now := s.nat Ent.REGISTER pt 0
  let w : Int := (((now : Int) - k.lastReg) * 4).fdiv 1000
  let s1 := (s.fitInt Ent.LAST_DEMAND pt w).setPoint pt { k with lastReg := now }
  let rate := s.nat Ent.ACTIVE_RATE - 1
  if field bits 1 3 == 0 && field bits 5 2 == 0 && decide ((s.nat Ent.MAX_DEMAND pt rate : Int) < w) then
    (s1.fitInt Ent.MAX_DEMAND pt w rate).setNat Ent.MAX_DEMAND_TIME pt (s.nat Ent.METER_TIME_S) rate
  else s1

/-- Records of intervals no value stands for: the last 38,400 of those from `a` up to before `b` (R362). -/
def State.emptyIntervals (s : State) (a b bit_ : Nat) : State :=
  let n := b - a
  let skip := n - 38400
  let s0 := { s with bill := { s.bill with profileSeq := Nat.repeat nextSeq (min skip 0xFFFFFFFF) s.bill.profileSeq } }
  s0.each ((List.range (min n 38400)).map (· + a + skip)) (fun z j =>
    z.writeProfile (((j + 1 : Nat) : Int) * 900000 - 1 + 1000 * s.int Ent.TAI_UTC_OFFSET).toNat j (setBit 0 bit_ true)
      ((List.replicate 48 (List.replicate 8 0xFF#8)).flatten))

/-- The open interval closes (R359 to R362): its record and demands, records for intervals a step or an outage passed over,
and the next interval with the bits it begins with. -/
def State.closeInterval (s : State) (j now : Nat) : State :=
  let b := s.bill
  let bits0 := if b.stepped then setBit b.bits 5 true else b.bits
  let bits := if b.restarted then setBit bits0 1 true else bits0
  let s1 := (s.writeProfile b.lastSfn j bits s.profileValues)
  let s2 := s1.each (List.range 17) (fun z pt => z.closeDemand (s1.newestBits) pt)
  let s3 := if b.restarted then s2.emptyIntervals (j + 1) now 2 else if b.stepped then s2.emptyIntervals (j + 1) now 3 else s2
  let passed := if b.restarted || b.stepped then now - (j + 1) else 0
  let flagged := b2n (field s1.newestBits 1 6 != 0) + passed
  let fresh := (if b.stepped then setBit 0 5 true else 0)
  let s4 := { s3 with bill := { s3.bill with index := some now, stepped := false, restarted := false
                                             bits := if b.restarted then setBit fresh 1 true else fresh } }
  s4.when (0 < flagged) (fun z => z.raise Evt.INTERVALS_FLAGGED 0 flagged (low 11 s3.newestBits))

/-- At step 1 of a boundary, before anything of the new frame (R359): a new interval index, a step or a restart closes the open interval. -/
def State.intervalStep (s : State) : State :=
  match s.bill.index with
  | none => s
  | some j => if s.intervalNow != j || s.bill.stepped || s.bill.restarted then s.closeInterval j s.intervalNow else s

/-- INTERVAL_CLOSE (R359, R362): at step 1 of R19, by the metering dies. -/
def execIntervalClose (s : State) : Host.Outcome State Fault Refusal :=
  if s.cycle != 0 || s.tx.step != 0 || !s.metersUp then ok s else ok s.formTime.intervalStep

/-- Header bits the present frame gives the open interval (Table 15-2), and its index at the first boundary. -/
def State.intervalFrame (s : State) : State :=
  let disputed := (List.range 17).any (fun pt => s.profiled pt && s.nat Ent.CROSS_STATE pt == Cross.DISPUTED)
  let s1 := { s with bill := { s.bill with index := some (s.bill.index.getD s.intervalNow), lastSfn := s.sfn } }
  ((s1.when (s.flag Ent.LEGAL_SEAL_STATE) (fun z => z.markInterval 7)).when disputed (fun z => z.markInterval 8)).when
    (s.time.errorHigh || s.time.state == .unset) (fun z => z.markInterval 10)

/-- Flags of Table 15-8 the present frame gives a point's spans. -/
def State.spanFrame (s : State) : State :=
  let sealBroken := s.flag Ent.LEGAL_SEAL_STATE
  let time := s.time.errorHigh || s.time.state == .unset
  let marked := bit s.bill.bits 1 || bit s.bill.bits 2 || bit s.bill.bits 6
  s.each s.enabledPoints fun z pt =>
    let st := z.nat Ent.CROSS_STATE pt
    (((((z.when sealBroken (fun y => y.markPoint pt 0)).when (st == Cross.DISPUTED) (fun y => y.markPoint pt 1)).when (st == Cross.SINGLE)
      (fun y => y.markPoint pt 2)).when time (fun y => y.markPoint pt 4)).when s.bill.still (fun y => y.markPoint pt 5)).when marked
      (fun y => y.markPoint pt 6)

/-- Order of a curve, by the algorithm of Table 18-4: 2 P-256, 3 P-384 (PRESUMED from FIPS 186, log entry 7), and the bytes of a private key. -/
def curveOrder (alg : Nat) : Nat :=
  if alg == 2 then 0xFFFFFFFF00000000FFFFFFFFFFFFFFFFBCE6FAADA7179E84F3B9CAC2FC632551
  else 0xFFFFFFFFFFFFFFFFFFFFFFFFFFFFFFFFFFFFFFFFFFFFFFFFC7634D81F4372DDF581A0DB248B0A77AECEC196ACCC52973
def curveBytes (alg : Nat) : Nat := if alg == 2 then 32 else 48

/-- A derived private key (R416): d = (OKM mod (n − 1)) + 1, with OKM 64 bits longer than the order n. -/
def derivedKey (alg : Nat) (root salt info : List Byte) : List Byte :=
  beBytes (curveBytes alg) (beNat (hkdf384 root salt info (curveBytes alg + 8)) % (curveOrder alg - 1) + 1)

/-- 48 zero bytes, and the keys of Table 18-2 that stay the same across firmware changes: 0 identity, 1 transport, 2 device TLS; the recovery key. -/
def z48 : List Byte := List.replicate 48 0#8
def deviceKey (k : Nat) : List Byte :=
  derivedKey 3 Config.pufRoot z48 (textBytes (match k with | 0 => "SKE-6408 identity" | 1 => "SKE-6408 transport" | _ => "SKE-6408 device tls"))
def recoveryKey : List Byte := derivedKey 3 Config.recoveryRoot z48 (textBytes "SKE-6408 recovery")

/-- SEAL_KEY of a main measurement and an epoch (R416): an AES key. -/
def sealKey (boot main : List Byte) (epoch : Nat) : List Byte :=
  hkdf384 Config.pufRoot (boot ++ main) (textBytes "SKE-6408 seal" ++ leBytes 1 epoch) 32

/-- A metering die's key on the curve SIGN_ALGORITHM names (1 P-256, 2 P-384), and its public key (R416, R424). -/
def State.meterKey (s : State) (d : Nat) : List Byte :=
  derivedKey (s.nat Ent.SIGN_ALGORITHM + 1) Config.pufRoot
    (s.bytes Ent.MEAS_BOOT ++ s.bytes (if d == 0 then Ent.MEAS_LEGAL_M0 else Ent.MEAS_LEGAL_M1)) (textBytes "SKE-6408 meter" ++ leBytes 1 (2 + d))
def State.meterPublic (s : State) (d : Nat) : List Byte := Config.publicOf (s.nat Ent.SIGN_ALGORITHM + 1) (s.meterKey d)

/-- Number, sign and store a record (R371, R372). -/
def State.signRecord (s : State) (u : Unsigned) : State :=
  let seq := nextSeq s.bill.signedSeq
  let alg := s.nat Ent.SIGN_ALGORITHM
  let body := u.body.take 4 ++ leBytes 4 seq ++ (sha256 (s.meterPublic u.die)).take 8 ++ u.body.drop 16
  let r := body ++ fitBytes (if alg == 2 then 96 else 64) (Config.signature (alg + 1) (s.meterKey u.die) body)
  let full := decide (s.bill.signed.length ≥ 16384)
  let l := ((seq, r) :: s.bill.signed).take 16384
  let s1 := ({ s with bill := { s.bill with signed := l, signedSeq := seq } }).streamLog 3 r
  let s2 := (s1.setNat Ent.SIGNED_NEWEST 0 seq).setNat Ent.SIGNED_OLDEST 0 ((l.getLast?.map Prod.fst).getD 0)
  (s2.when full (fun z => z.bump Ent.SIGNED_OVERWRITTEN)).raise Evt.SIGNED_RECORD u.pt seq (u.kind + 256 * u.pt)

/-- Issue a record, or hold it until the meter keys return (R430). -/
def State.issueRecord (s : State) (u : Unsigned) : State :=
  if s.keys.held then s.signRecord u else { s with bill := { s.bill with unsigned := s.bill.unsigned ++ [u] } }

/-- The records that waited for the meter keys. -/
def State.issueWaiting (s : State) : State :=
  ({ s with bill := { s.bill with unsigned := [] } }).each s.bill.unsigned (fun z u => z.signRecord u)

/-- What a signed record says beyond its marks (Table 15-7). -/
structure RecordExtra where
  session : Nat
  account : Nat
  digest : List Byte
  demand : Nat
  demandTime : Nat
  period : Nat
  rates : List Nat
  flags : Nat

/-- The 192-byte body of a signed record (Table 15-7), sequence and key still 0. -/
def State.recordBody (s : State) (kind pt die : Nat) (a b : Mark) (x : RecordExtra) : List Byte :=
  let flags := pack [(0, 7, x.flags), (7, 1, b2n s.legalFull), (8, 1, b2n (decide (1 ≤ pt) && decide (pt ≤ 8) && decide (0 < s.rat Ent.R_TRANSFER pt))),
    (9, 1, x.flags / 512)]
  leBytes 1 1 ++ leBytes 1 kind ++ leBytes 2 flags ++ leBytes 4 0 ++ leBytes 8 0 ++ leBytes 2 (s.nat Ent.FW_LEGAL_VERSION) ++ leBytes 1 pt ++
    leBytes 1 (2 + die) ++ leBytes 4 (s.nat (if die == 0 then Ent.LEGAL_CHECK_VALUE else Ent.LEGAL_CHECK_VALUE_M1)) ++ leBytes 8 a.sfn ++
    leBytes 8 b.sfn ++ leBytes 4 a.mt ++ leBytes 4 b.mt ++ leBytes 8 a.r0 ++ leBytes 8 b.r0 ++ leBytes 8 a.r1 ++ leBytes 8 b.r1 ++
    leBytes 4 x.session ++ leBytes 2 x.account ++ leBytes 1 b.rate ++ leBytes 1 b.calendar ++
    fitBytes 8 x.digest ++ leBytes 4 x.demand ++ leBytes 4 x.demandTime ++ leBytes 4 x.period ++ leBytes 1 (s.nat Ent.SIGN_ALGORITHM) ++
    leBytes 3 0 ++ (List.range 8).flatMap (fun i => leBytes 8 (x.rates.getD i 0)) ++ leBytes 16 0

/-- The record of a session whose contactor closed (R370, KIND 1). -/
def State.signSession (s : State) (o : Nat) : State :=
  let k := s.sess o
  if k.closeSfn == 0 then s
  else
    let pt := o + 1
    let p := s.mpoint pt
    let d := s.billSource pt
    let a := if d == 0 then p.close0 else p.close1
    let b := if d == 0 then p.open0 else p.open1
    let digest := if s.nat Ent.AUTH_KIND o == 0 then [] else (sha256 (s.bytes Ent.AUTH_IDENTITY o)).take 8
    let rates := (List.range 8).map (fun i => b.rates.getD i 0 - a.rates.getD i 0)
    s.issueRecord ⟨pt, 1, d, s.recordBody 1 pt d a b
      ⟨k.number, k.account, digest, 0, 0, b.period, rates, p.sesFlags + (if k.offline then 512 else 0)⟩⟩

/-- Highest MAX_DEMAND of the period at a point, with its time. -/
def State.topDemand (s : State) (pt : Nat) : Nat × Nat :=
  (List.range 8).foldl (fun a k =>
    if a.1 < s.nat Ent.MAX_DEMAND pt k then (s.nat Ent.MAX_DEMAND pt k, s.nat Ent.MAX_DEMAND_TIME pt k) else a) (0, 0)

/-- The record of a closed period (R370, KIND 2): start values are those of the previous close. -/
def State.signPeriod (s : State) (period : Nat) (tops : List (Nat × Nat)) (pt : Nat) : State :=
  let p := s.mpoint pt
  let d := s.billSource pt
  let a := if d == 0 then p.per0 else p.per1
  let b := s.markOf d pt
  let top := tops.getD pt (0, 0)
  s.issueRecord ⟨pt, 2, d, s.recordBody 2 pt d a b ⟨0, 0xFFFF, [], top.1, top.2, period, b.rates, p.perFlags⟩⟩

/-- A point's next period begins with the values of this close. -/
def State.markPeriod (s : State) (pt : Nat) : State :=
  s.setPoint pt { s.mpoint pt with per0 := s.markOf 0 pt, per1 := s.markOf 1 pt, perFlags := 0 }

/-- The reading of a point (R370, KIND 3). -/
def State.signReading (s : State) (pt : Nat) : State :=
  let d := s.billSource pt
  let m := s.markOf d pt
  let st := s.nat Ent.CROSS_STATE pt
  let flags := pack [(0, 1, b2n (s.flag Ent.LEGAL_SEAL_STATE)), (1, 1, b2n (st == Cross.DISPUTED)), (2, 1, b2n (st == Cross.SINGLE)),
    (4, 1, b2n (s.time.errorHigh || s.time.state == .unset)), (5, 1, b2n s.bill.still), (6, 1, b2n (bit s.bill.bits 1 || bit s.bill.bits 2 || bit s.bill.bits 6))]
  s.issueRecord ⟨pt, 3, d, s.recordBody 3 pt d m m ⟨0, 0xFFFF, [], 0, 0, m.period, m.rates, flags⟩⟩

/-- A write of READING_REQUEST (R370). -/
def applyReadingRequest (pt : Nat) (s : State) : State × Nat :=
  if s.flag Ent.POINT_ENABLE pt then (s.signReading pt, St.OK) else (s, St.CONFLICT)

/-- READING_REQUEST (R370). -/
def execReadingRequest (c : Client) (pt : Nat) (v : Nat) (s : State) : Host.Outcome State Fault Refusal :=
  ok (s.clientCommand c Ent.READING_REQUEST pt (.num v) (applyReadingRequest pt))

/-- One point of a snapshot (Table 15-3). -/
def State.snapshotPoint (s : State) (pt : Nat) : List Byte :=
  leBytes 8 (s.nat Ent.REGISTER pt 0) ++ leBytes 8 (s.nat Ent.REGISTER pt 1) ++
    (List.range 8).flatMap (fun k => leBytes 8 (s.nat Ent.TARIFF_REG0 pt k)) ++ (List.range 8).flatMap (fun k => leBytes 8 (s.nat Ent.TARIFF_REG1 pt k)) ++
    (List.range 8).flatMap (fun k => leBytes 4 (s.nat Ent.MAX_DEMAND pt k)) ++ (List.range 8).flatMap (fun k => leBytes 4 (s.nat Ent.MAX_DEMAND_TIME pt k))

/-- A billing period closes (R364): cause 0 the calendar, 1 BILLING_CLOSE; `ends` period ends reached. -/
def State.closePeriod (s : State) (cause ends : Nat) : State :=
  let n := s.nat Ent.PERIOD_NUMBER
  let snap := leBytes 4 n ++ leBytes 4 (s.nat Ent.METER_TIME_S) ++ leBytes 8 s.sfn ++ leBytes 1 cause ++ leBytes 1 (min ends 255) ++
    leBytes 1 (s.nat Ent.ACTIVE_CALENDAR) ++ List.replicate 13 0#8 ++ (List.range 17).flatMap s.snapshotPoint
  let tops := (List.range 17).map s.topDemand
  let s1 := { s with bill := { s.bill with snaps := ((n, snap) :: s.bill.snaps).take 120, closedAt := some s.frames } }.bump Ent.PERIOD_NUMBER
  let s2 := s1.each (List.range 17) (fun z pt => z.each (List.range 8) (fun y k => (y.setNat Ent.MAX_DEMAND pt 0 k).setNat Ent.MAX_DEMAND_TIME pt 0 k))
  ((s2.each s2.enabledPoints (fun z pt => z.signPeriod n tops pt)).each (List.range 17) State.markPeriod).raise Evt.PERIOD_CLOSED 0 (s1.nat Ent.PERIOD_NUMBER) cause

/-- Period ends reached up to a local time, counted from an arbitrary origin (R363). -/
def State.endsUpTo (s : State) (l : Int) : Int :=
  let (y, m, _) := civil (dayOf l)
  let at_ := dayNumber y m (s.nat Ent.BILLING_DAY) * 86400000 + ((s.nat Ent.BILLING_HOUR * 3600000 : Nat) : Int)
  y * 12 + (m : Int) + (if at_ ≤ l then 1 else 0)

/-- BILLING_PERIOD_CLOSE (R363): at step 1 of R19, after any interval close of the boundary, when at least one period end lies between the last
one settled and now. An end on a local date that has had its close passes without one. -/
def execBillingPeriodClose (s : State) : Host.Outcome State Fault Refusal :=
  if s.cycle != 0 || s.tx.step != 0 || !s.metersUp then ok s
  else
    let s0 := s.formTime.intervalStep
    let l := s0.localMs
    let n := s0.endsUpTo l - s0.endsUpTo s0.bill.settled
    if s0.bill.still || n ≤ 0 then ok s0
    else
      let s1 := { s0 with bill := { s0.bill with settled := l, lastDay := some (dayOf l) } }
      if s0.bill.lastDay == some (dayOf l) then ok s1 else ok (s1.closePeriod 0 n.toNat)

/-- A write of BILLING_CLOSE (R363). No period closes in a standstill (R353): CONFLICT (log entry 90). -/
def applyBillingClose (s : State) : State × Nat :=
  if s.bill.closedAt == some s.frames then (s, St.ALREADY_DONE)
  else if s.bill.still then (s, St.CONFLICT)
  else (s.closePeriod 1 0, St.OK)

/-- BILLING_CLOSE (R363). -/
def execBillingClose (c : Client) (v : Nat) (s : State) : Host.Outcome State Fault Refusal :=
  ok (s.clientCommand c Ent.BILLING_CLOSE 0 (.num v) applyBillingClose)

/-- Writes of PROFILE_SELECT, SNAPSHOT_SELECT and SIGNED_SELECT (R361, R364, R372): the record named shows, RANGE where none is
held. -/
def applyProfileSelect (seq : Nat) (s : State) : State × Nat :=
  match s.bill.profile.find? (fun x => x.1 == seq) with
  | some x => ((s.setNat Ent.PROFILE_SELECT 0 seq).setBytes Ent.PROFILE_RECORD 0 x.2.2, St.OK)
  | none => (s, St.RANGE)
def applySnapshotSelect (n : Nat) (s : State) : State × Nat :=
  match s.bill.snaps.find? (fun x => x.1 == n) with
  | some x => ((s.setNat Ent.SNAPSHOT_SELECT 0 n).setBytes Ent.SNAPSHOT_RECORD 0 x.2, St.OK)
  | none => (s, St.RANGE)
def applySignedSelect (seq : Nat) (s : State) : State × Nat :=
  match s.bill.signed.find? (fun x => x.1 == seq) with
  | some x => ((s.setNat Ent.SIGNED_SELECT 0 seq).setBytes Ent.SIGNED_RECORD 0 x.2, St.OK)
  | none => (s, St.RANGE)

/-- VIEW_READ_PERIOD of a point (R365). -/
def State.showReadPeriod (s : State) (pt : Nat) : State :=
  let p := 144 / 100 * ((s.phasesOfPoint pt : Nat) : Rat) * s.rat Ent.U_NOMINAL pt * s.rat Ent.I_NOMINAL pt
  if p ≤ 0 then s.setNat Ent.VIEW_READ_PERIOD pt 0 else s.fitNat Ent.VIEW_READ_PERIOD pt (ratFloor (2 ^ 32 * 3600 / p)).toNat

/-- BILLING_STATUS (Table 15-11). -/
def State.billingStatus (s : State) : Nat :=
  pack [(0, 1, b2n s.bill.still), (1, 1, b2n ((List.range 4).any (fun c => decide (s.nat Ent.METER_TIME_S < s.nat Ent.CAL_ACTIVATE c)))),
    (2, 1, b2n (s.bill.bits / 2 != 0)), (3, 1, b2n (s.time.state == .unset)), (4, 4, s.nat Ent.ACTIVE_RATE), (8, 2, s.nat Ent.ACTIVE_CALENDAR)]

/-- Account states (Table 15-5). -/
def Acct.DISABLED : Nat := 0
def Acct.NORMAL : Nat := 1
def Acct.LOW : Nat := 2
def Acct.EMERGENCY : Nat := 3
def Acct.HELD : Nat := 4
def Acct.EXHAUSTED : Nat := 5

/-- What is held of an account. -/
def State.acct (s : State) (a : Nat) : AccountSt := Tab.get ⟨0, 0, 0⟩ s.bill.accounts a
def State.setAcct (s : State) (a : Nat) (k : AccountSt) : State :=
  let s1 := { s with bill := { s.bill with accounts := Tab.set s.bill.accounts a k } }
  ((s1.fitInt Ent.BALANCE a (ratFloor k.balance)).fitNat Ent.ENERGY_DELIVERED a (wholeOf k.delivered)).fitNat Ent.CREDIT_USED a (wholeOf k.used)

/-- Outlets whose session is bound to an account (R366). -/
def State.boundTo (s : State) (a : Nat) : List Nat :=
  (List.range 8).filter (fun o => s.sesLive o && (s.sess o).decided && (s.sess o).account == a)

/-- The price in credit units per kWh of a rate: delivered or received (RATE_PRICES). -/
def State.price (s : State) (rate : Nat) (received : Bool) : Rat :=
  ((leAt (s.bytes Ent.RATE_PRICES) (8 * (rate - 1) + 4 * b2n received) 4 : Nat) : Rat)

/-- The frame's debit of a bound session (R366): from the closing of its contactor to its opening. -/
def State.debit (s : State) (o : Nat) : State :=
  let k := s.sess o
  if !(k.decided && decide (k.account < 256)) || k.closeSfn == 0 || !(k.closed || decide (s.bill.lastSfn ≤ k.openSfn)) then s
  else
    let m := s.meter (s.billSource (o + 1)) (o + 1)
    let dl := m.incs.getD 0 0
    let rx := m.incs.getD 1 0
    let rate := s.nat Ent.ACTIVE_RATE
    let out := dl * s.price rate false / 1000000
    let x := s.acct k.account
    s.setAcct k.account { x with balance := x.balance + rx * s.price rate true / 1000000 - out, delivered := x.delivered + dl, used := x.used + out }

/-- A bound session is held (R367). -/
def State.heldSession (s : State) (a o : Nat) : Bool :=
  let t := s.bytes Ent.PROTECT_UNTIL a
  let l := s.localMs
  s.nat Ent.CLASS o == 0 || decide (s.sfn * 2 ^ 32 < leAt t 0 8 * 2 ^ 32 + leAt t 8 4) ||
    (s.flag Ent.FRIENDLY_ENABLE a && bit (leNat (s.bytes Ent.FRIENDLY_MASK)) (24 * weekdayOf l + hourOf l) &&
      decide (-((s.nat Ent.FRIENDLY_DEBT_LIMIT a : Nat) : Rat) < (s.acct a).balance))

/-- ACCOUNT_STATE as Table 15-5 gives it. -/
def State.accountState (s : State) (a : Nat) (anyHeld : Bool) : Nat :=
  let b := (s.acct a).balance
  let x : Rat := if s.flag Ent.EMERGENCY_ENABLE a then -((s.nat Ent.EMERGENCY_CREDIT a : Nat) : Rat) else 0
  if !s.flag Ent.ACCOUNT_ENABLE a then Acct.DISABLED
  else if b ≤ x then (if anyHeld then Acct.HELD else Acct.EXHAUSTED)
  else if b ≤ 0 then Acct.EMERGENCY
  else if b ≤ ((s.nat Ent.LOW_CREDIT a : Nat) : Rat) then Acct.LOW
  else Acct.NORMAL

/-- A balance as a saturated signed 32-bit parameter. -/
def saturate32 (i : Int) : Nat := word 32 (max (-2147483648) (min 2147483647 i))

/-- A session ends CREDIT_EXHAUSTED, stamped in the frame before (R368). -/
def State.exhaust (s : State) (o : Nat) : State :=
  if (s.sess o).committed then s
  else
    let s1 := s.endSession o End.CREDIT_EXHAUSTED false
    s1.setSess o { s1.sess o with endSfn := s.bill.lastSfn }

/-- The state of an account is set, its event raised, its sessions ended (R368). -/
def State.settleAccount (s : State) (a : Nat) : State :=
  let bound := s.boundTo a
  let held := bound.filter (fun o => s.heldSession a o)
  let loose := bound.filter (fun o => !held.contains o && !(s.sess o).committed)
  let st := s.accountState a (!held.isEmpty)
  let s1 := (s.setNat Ent.SESSIONS_ACTIVE a (ofBits bound)).setNat Ent.ACCOUNT_STATE a st
  let bal := saturate32 (ratFloor (s.acct a).balance)
  let ends := st == Acct.DISABLED || st == Acct.HELD || st == Acct.EXHAUSTED
  let s2 := if st == s.nat Ent.ACCOUNT_STATE a then s1
    else match st with
      | 0 => s1.raise Evt.CREDIT_EXHAUSTED a bal (ofBits loose)
      | 2 => s1.raise Evt.CREDIT_LOW a bal (ofBits bound)
      | 3 => s1.raise Evt.EMERGENCY_CREDIT a bal (ofBits bound)
      | 4 => s1.raise Evt.CREDIT_HOLD a bal (ofBits held)
      | 5 => s1.raise Evt.CREDIT_EXHAUSTED a bal (ofBits loose)
      | _ => s1
  if ends then s2.each loose (fun z o => z.exhaust o) else s2

/-- ACCOUNT_UPDATE (R366, R368): at step 1 every session's debit in outlet order, then every account's state. -/
def State.accountUpdate (s : State) : State :=
  (s.each (List.range 8) (fun z o => z.debit o)).each (List.range 256) (fun z a => z.settleAccount a)

/-- The bytes of CREDIT_TOPUP (Table 15-6). -/
def topupBytes (amount : Int) (reference : Nat) : List Byte := leBytes 8 (word 64 amount) ++ leBytes 4 reference

/-- A write of CREDIT_TOPUP (R369). -/
def applyCreditTopup (a : Nat) (amount : Int) (reference : Nat) (s : State) : State × Nat :=
  if !s.flag Ent.ACCOUNT_ENABLE a then (s, St.CONFLICT)
  else if reference == s.nat Ent.LAST_TOPUP_REF a then (s, St.ALREADY_DONE)
  else if amount == 0 || decide (amount.natAbs > 10 ^ 12) then (s, St.RANGE)
  else
    let k := s.acct a
    let s1 := (s.setAcct a { k with balance := k.balance + (amount : Rat) }).setNat Ent.LAST_TOPUP_REF a reference
    (s1.raise Evt.CREDIT_TOPUP a reference (word 32 amount), St.OK)

/-- CREDIT_TOPUP (R369). -/
def execCreditTopup (c : Client) (a : Nat) (amount : Int) (reference : Nat) (s : State) : Host.Outcome State Fault Refusal :=
  ok (s.clientCommand c Ent.CREDIT_TOPUP a (.bytes (topupBytes amount reference)) (applyCreditTopup a (signed 64 (word 64 amount)) (low 32 reference)))

/-- A write of PROTECT_UNTIL (R367): none, or at most 72 h after the boundary. -/
def applyProtectUntil (a : Nat) (b : List Byte) (s : State) : State × Nat :=
  if leNat b != 0 && decide ((s.sfn + 259200000) * 2 ^ 32 < leAt b 0 8 * 2 ^ 32 + leAt b 8 4) then (s, St.RANGE)
  else (s.setBytes Ent.PROTECT_UNTIL a b, St.OK)

/-- FRIENDLY_DEBT_LIMIT stands at or above EMERGENCY_CREDIT (R367). -/
def State.debtOrder (s : State) (a : Nat) : Bool := decide (s.nat Ent.EMERGENCY_CREDIT a ≤ s.nat Ent.FRIENDLY_DEBT_LIMIT a)

end Sys2Proof.Machine
end

