-- ==== Sys2Proof/Machine/EusorRows.lean ====
section
/-!
DEFINITION. The commands of the powerline network (R393 to R410).
-/
namespace Sys2Proof.Machine
open Sys2Proof

/-- Participants of actions from ANNOUNCE until their DONE are polled in every period (R404). -/
def State.inAction (s : State) (e : Nat) : Bool :=
  s.groups.any (fun g => g.2.announced && g.2.parts.any (fun p => p.unit == 0x3000 + e && p.done.isNone) &&
    decide (s.aState g.1 ≤ Act.EXECUTED))

/-- Nodes polled (R402, R403): enabled, ONLINE, LOST, or ADMITTING; due in this period, in due order, then by index. -/
def State.duePolls (s : State) : List Nat :=
  let ns := (List.range 128).filter (fun e =>
    let st := s.nodeState e
    s.flag Ent.NODE_ENABLE e && (st == Node.ONLINE || st == Node.LOST || st == Node.ADMITTING) &&
      (decide ((s.node e).due ≤ s.eus.count) || s.inAction e))
  let dues := sortBy (fun a b => decide (a ≤ b)) (ns.map (fun e => min s.eus.count (s.node e).due)).eraseDups
  dues.flatMap (fun d => ns.filter (fun e => min s.eus.count (s.node e).due == d))

/-- Load starts granted in a node's poll (R409): those deferred that fit now. -/
def State.grantLoads (s : State) (e : Nat) : State :=
  s.each (s.eus.loads.filter (fun l => l.node == e)) (fun z l =>
    if z.loadFits e l.watts then
      ({ z with eus := { z.eus with loads := z.eus.loads.filter (fun x => x != l) } }).toNode e 0x05 (leBytes 4 l.watts)
    else z)

/-- What goes in a node's poll (R402, R404): what a failed poll gave back, then what was queued before this frame (R73), as far
as a block holds it. -/
def State.pollItems (s : State) (e : Nat) : List (Nat × List Byte) :=
  let ready := (s.node e).sent ++ (s.eus.queue.filter (fun q => q.1 == e && decide (q.2.1 < s.frames))).map (fun q => q.2.2)
  (ready.foldl (fun (a : List (Nat × List Byte) × Nat) x =>
    let n := a.2 + 2 + x.2.length
    if n ≤ 508 then (a.1 ++ [x], n) else a) ([], 0)).1

/-- Send a poll: a POLL message, asking for a neighbour report once in each ROUTE_PERIOD, then the messages. -/
def State.sendPoll (s : State) (e : Nat) (slot : Nat) (retry : Bool) : State :=
  let k := s.node e
  let body := nodeItem (1, [if k.asked then 0#8 else 1#8]) ++ k.sent.flatMap nodeItem
  let at_ := (if retry then 20600000 else 6800000) + 300000 * slot
  (s.setNode e { k with polled := true, txCount := k.txCount + 1, slotAt := at_ }).send
    ⟨.eusor, e, .poll, [(slot : Int), (s.hopsOf e : Int), (b2n retry : Int)], shortBlock k.txCount body⟩

/-- The segments in which the node's own poll and its reply start (R402): the last of the poll's slots, the first of the reply's. -/
def State.pollSeg (s : State) (e : Nat) : Nat := s.segAt (s.node e).out ((s.node e).slotAt + 300000 * (s.hopsOf e - 1))
def State.replySeg (s : State) (e : Nat) : Nat := s.segAt (s.node e).back ((s.node e).slotAt + 300000 * s.hopsOf e)

/-- Poll a node in its slots. -/
def State.pollNode (s : State) (e : Nat) : State :=
  let s1 := s.grantLoads e
  let items := s1.pollItems e
  let k := s1.node e
  let gone := items.drop k.sent.length
  let rest := gone.foldl (fun (q : List (Nat × Nat × Nat × List Byte)) x => q.erase ((q.find? (fun y => y.1 == e && y.2.2 == x)).getD (0, 0, 0, [])))
    s1.eus.queue
  let s2 := { s1 with eus := { s1.eus with queue := rest, used := s1.eus.used + 2 * s1.hopsOf e } }
  (s2.setNode e { k with sent := items, retries := 0, due := s2.eus.count + s2.nat Ent.POLL_PERIOD e }).sendPoll e s1.eus.used false

/-- Poll nodes in order while the 46 slots hold them; slots due beyond them set POLL_OVERRUN, the event at most once a minute. -/
def State.pollAll (s : State) : State :=
  let due := s.duePolls
  let want := (due.map (fun e => 2 * s.hopsOf e)).sum
  let s1 := (due.foldl (fun (a : State × Bool) e =>
    if a.2 && decide (a.1.eus.used + 2 * a.1.hopsOf e ≤ 46) then (a.1.pollNode e, true) else (a.1, false)) (s, true)).1
  if want ≤ 46 then s1
  else match s.eus.overrunAt with
    | some t => if s.ticks < t + secTicks 60 then s1
                else ({ s1 with eus := { s1.eus with overrunAt := some s.ticks } }).raise Evt.POLL_OVERRUN 0 want 46
    | none => ({ s1 with eus := { s1.eus with overrunAt := some s.ticks } }).raise Evt.POLL_OVERRUN 0 want 46

/-- The beacon payload without its tag (Table 17-3). -/
def State.beaconBody (s : State) (offset : Nat) : List Byte :=
  leBytes 8 s.sfn ++ leBytes 4 offset ++ leBytes 4 s.eus.periodNs ++ [0#8, 0xFF#8] ++
    leBytes 2 (pack [(0, 1, b2n s.time.flagEusor), (1, 1, b2n s.time.errorHigh), (2, 1, b2n s.eus.lost), (3, 1, s.eus.modem)]) ++
    leBytes 2 (s.nat Ent.EUSOR_NETWORK_ID) ++ leBytes 2 (low 16 s.eus.count) ++
    (List.range 16).map (fun i => BitVec.ofNat 8 (s.eus.proxies.getD i 0xFF)) ++ List.replicate 16 0#8

/-- The device beacon with the first 8 bytes of its tag: nonce the period count, SENDER, LEVEL and 4 zero bytes (R427). -/
def State.sendBeacon (s : State) (offset : Nat) : State :=
  let b := s.beaconBody offset
  let nonce := leBytes 6 s.eus.count ++ [0xFF#8, 0#8, 0#8, 0#8, 0#8, 0#8]
  let s1 := s.send ⟨.eusor, 0xFF, .beacon, [(s.eus.count : Int)], b ++ (fitBytes 8 (Config.gcmTag s.eus.key nonce b))⟩
  { s1 with time := { s1.time with flagEusor := false } }

/-- The mains reference at a period's start, from the lengths of the two mains cycles that ended (R395): ZC_LOST clears after 10 valid crossings
in a row. -/
def State.takeMains (s : State) (c1 c2 : Nat) : State :=
  let good := s.mainsOk c1 && s.mainsOk c2
  let n := if good then s.eus.crossings + 2 else b2n (s.mainsOk c2)
  let lost := s.eus.lost && decide (n < 10)
  let len := if lost || !good then s.nominalPeriod else c1 + c2
  ({ s with eus := { s.eus with lost := lost, crossings := if lost then n else 0, periodNs := len, startTick := s.ticks } }).setNat
    Ent.BEACON_PERIOD_NS 0 len

/-- What serves from this period on: the other modem, tone maps, answered routes, the next beacon key (R399, R400, R406, R427). -/
def State.beginPeriod (s : State) : State :=
  let s0 := { s with eus := { s.eus with count := (s.eus.count + 1) % 2 ^ 48, used := 0, reserve := 0 } }
  let s1 := match s0.eus.handover with
    | none => s0
    | some cause =>
      let m := 1 - s0.eus.modem
      ({ s0 with eus := { s0.eus with modem := m, handover := none, deaf := 0 } }).raise Evt.MODEM_HANDOVER m cause 0
  let key := match s1.eus.keyNext with
    | some (p, b) => if p ≤ s1.eus.count then (b, none) else (s1.eus.key, some (p, b))
    | none => ((if s1.eus.key.isEmpty then ((s1.keyOf 3).map beaconKey).getD [] else s1.eus.key), none)
  let s2 := { s1 with eus := { s1.eus with key := key.1, keyNext := key.2 } }
  s2.each (Tab.keys s2.eus.nodes) (fun z e =>
    let k := z.node e
    let k1 := { k with out := k.out.begin z.eus.count z.ticks, back := k.back.begin z.eus.count z.ticks, retries := 0, polled := false }
    let z1 := z.setNode e k1
    match k1.routeNext with
    | some (r, c, some p) =>
      if p ≤ z1.eus.count then
        ((z1.setNode e { k1 with routeNext := none }).useRoute e r c).raise Evt.ROUTE_CHANGE e r.length c
      else z1
    | _ => z1.showLink e)

/-- BEACON_PERIOD_START (R395 to R397, R399, R402): the mains cycles measured (0 where a crossing did not arrive) and whether the listening
modem heard the B0 of the period that ended; what serves from now on, the device beacon, the polls. -/
def execBeaconPeriodStart (offset : Nat) (c1 : Nat) (c2 : Nat) (heard : Bool) (s : State) : Host.Outcome State Fault Refusal :=
  if !s.flag Ent.EUSOR_ENABLE then ok s
  else
    let s0 := { s with eus := { s.eus with deaf := if heard then 0 else s.eus.deaf + 1 } }
    let s1 := (s0.takeMains c1 c2).beginPeriod
    if !s1.eusorOn then ok s1.showEusor else ok (((s1.sendBeacon (offset % 1000000)).pollAll).showEusor)

/-- ZC_LOST (R395): no crossing within 10 % of its instant, or the frequency outside ±5 %, by the mains cycle measured in µs. -/
def execZcLost (measured : Nat) (s : State) : Host.Outcome State Fault Refusal :=
  if !s.flag Ent.EUSOR_ENABLE || s.mainsOk (1000 * measured) then ok s
  else if s.eus.lost then ok { s with eus := { s.eus with crossings := 0 } }
  else ok (({ s with eus := { s.eus with lost := true, crossings := 0, periodNs := s.nominalPeriod } }).showEusor.raise Evt.ZC_LOST 0 measured 0)

/-- Take a node's points (R403): each with the tick of its sampling instant. -/
def State.takePoints (s : State) (e : Nat) (pts : List NodePoint) : State :=
  s.each pts (fun z p =>
    let at_ : Int := (s.eus.startTick : Int) + p.instant / 50
    let k := z.node e
    ({ z with points := Tab.set z.points (e * 256 + p.point % 256) ⟨low 32 p.value, at_.toNat⟩ }).setNode e
      { k with pts := if k.pts.contains p.point then k.pts else p.point :: k.pts })

/-- A good reply (R402, R403, R407): what the poll carried has arrived, a new route is answered, an ADMITTING or LOST node is
ONLINE. -/
def State.goodReply (s : State) (e : Nat) : State :=
  let k := s.node e
  let rn := match k.routeNext with
    | some (r, c, none) => if k.sent.any (fun x => x.1 == 0x07) then some (r, c, some (s.eus.count + 1)) else some (r, c, none)
    | x => x
  let s1 := s.setNode e { k with runs := 0, sent := [], polled := false, routeNext := rn, rxCount := k.rxCount + 1 }
  let s2 := { s1 with eus := { s1.eus with links := (routeLinks (s.routeOf e)).foldl (fun t l => Tab.erase t l) s1.eus.links } }
  let st := s2.nodeState e
  if st == Node.ADMITTING then
    (s2.setNodeState e Node.ONLINE).raise Evt.NODE_ADMITTED e (low 32 (s2.nat Ent.NODE_UID e)) (s2.nat Ent.HOPS e)
  else if st == Node.LOST then s2.setNodeState e Node.ONLINE
  else s2

/-- The messages of a short block's data (R402): TYPE and body of each, as far as they are whole. -/
def nodeMessages : Nat → List Byte → List (Nat × List Byte)
  | 0, _ => []
  | n + 1, d =>
    let len := leAt d 1 1
    if d.length < 2 + len then [] else (leAt d 0 1, (d.drop 2).take len) :: nodeMessages n (d.drop (2 + len))

/-- A POLL_REPLY message (Table 17-4): AUX_LOAD, phase and points of the node. -/
def State.takeReply (s : State) (e : Nat) (b : List Byte) : State :=
  let s1 := (s.fitNat Ent.AUX_LOAD e (leAt b 0 2 * 10)).setNat Ent.NODE_STATUS e
    (setField (s.nat Ent.NODE_STATUS e) 0 3 (s.phaseOf (bit (s.nat Ent.NODE_STATUS e) 3) (signed 16 (leAt b 2 2))))
  let pts := (List.range (leAt b 4 1)).filterMap (fun i =>
    if 5 + 9 * (i + 1) ≤ b.length then some (⟨leAt b (5 + 9 * i) 1, leAt b (6 + 9 * i) 4, signed 32 (leAt b (10 + 9 * i) 4)⟩ : NodePoint) else none)
  (s1.takePoints e pts).formLoads

/-- A message of a node's reply that is acted on at once: POLL_REPLY, NEIGHBOURS, XFER. LOAD_REQUEST and GROUP have commands of their own. -/
def State.nodeMessage (s : State) (e : Nat) (m : Nat × List Byte) : State :=
  match m.1 with
  | 0x02 => s.takeReply e m.2
  | 0x06 =>
    let k := s.node e
    let near := (List.range (min 8 (leAt m.2 0 1))).filterMap (fun i =>
      if 1 + 5 * (i + 1) ≤ m.2.length then some (⟨leAt m.2 (1 + 5 * i) 1, leAt m.2 (2 + 5 * i) 2, leAt m.2 (4 + 5 * i) 2⟩ : Neighbour) else none)
    s.setNode e { k with near := near, asked := true }
  | 0x08 =>
    let op := xferOp m.2
    if m.2.length == 64 && (op == 1 || op == 2) then
      s.toNode e 0x08 (xferBody (s.unitRead (0xA200 + e) (op == 2) (xferOf m.2)) (op + 0x80))
    else s
  | _ => s

/-- POLL_REPLY (R402, R403, R408, R409): a reply whose CRC checks, with the messages of its block. -/
def execPollReply (e : Fin 128) (data : List Byte) (s : State) : Host.Outcome State Fault Refusal :=
  if !(s.node e).polled then ok s
  else
    let s1 := ((s.noteControl e false (s.pollSeg e) true).noteControl e true (s.replySeg e) true).goodReply e
    ok ((s1.each (nodeMessages 256 data) (fun z m => z.nodeMessage e m)).showLink e)

/-- POLL_FAIL (R403, R401, R406): the failure counts for the node, its segment and the links of its route; the poll is retried
in the reserve slots, at most twice a period, else its messages go in the node's next poll and the poll has failed; ten failed polls in a row
make the node LOST. `dir` 0 the poll, 1 the reply. -/
def execPollFail (e : Fin 128) (dir : Fin 2) (s : State) : Host.Outcome State Fault Refusal :=
  if !(s.node e).polled then ok s
  else
    let seg := if dir.val == 1 then s.replySeg e else s.pollSeg e
    let s0 := (s.noteControl e (dir.val == 1) seg false).bump Ent.POLL_FAILS e
    let s1 := { s0 with eus := { s0.eus with links := (routeLinks (s.routeOf e)).foldl (fun t l => Tab.set t l (Tab.get 0 t l + 1)) s0.eus.links } }
    let k := s1.node e
    let need := 2 * s1.hopsOf e
    if k.retries < 2 && decide (s1.eus.reserve + need ≤ 8) then
      let s2 := { s1 with eus := { s1.eus with reserve := s1.eus.reserve + need } }
      ok ((s2.setNode e { k with retries := k.retries + 1 }).sendPoll e s1.eus.reserve true)
    else
      let s2 := s1.setNode e { k with runs := k.runs + 1, polled := false }
      if k.runs + 1 == 10 && (s2.nodeState e == Node.ONLINE || s2.nodeState e == Node.ADMITTING) then
        ok (((s2.setNodeState e Node.LOST).formLoads).raise Evt.NODE_LOST e (k.runs + 1) (s2.nat Ent.HOPS e))
      else ok s2

/-- DATA_FRAME (R394, R401): the blocks of a frame whose first begins `start` ns into the period, answered in the same access with bit i set for
each block i whose CRC checked. -/
def execDataFrame (e : Fin 128) (start : Nat) (blocks : List (List Byte)) (s : State) : Host.Outcome State Fault Refusal :=
  if s.nodeState e < Node.ADMITTING || !s.eusorOn then ok s
  else
    let bs := blocks.take 32
    let plan := s.airPlan (s.node e).back bs start (2 * s.mainsCycle)
    let s1 := s.each plan (fun z b => z.noteBlock e true b.2 (blockOk b.1))
    let mask := ofBits ((bs.zipIdx).filterMap (fun b => if blockOk b.1 then some b.2 else none))
    let k := s1.node e
    ok (((s1.setNode e { k with rxCount := k.rxCount + 1, txCount := k.txCount + 1 }).send
      ⟨.eusor, e, .selectiveAck, [(mask : Int)], leBytes 4 mask⟩).showLink e)

/-- What a flow's completion brings: an acknowledged TONE_MAP serves from the next period (R400). -/
def State.flowDone (s : State) (f : Flow) : State :=
  match f.kind, f.map with
  | 0, some m => s.acceptMap f.node true m
  | _, _ => s

/-- The flow whose access is on air to a node. -/
def State.airedFlow (s : State) (e : Nat) : Option Flow := s.eus.flows.find? (fun f => f.node == e && !f.aired.isEmpty)

/-- Settle an access (R394, R405): blocks acknowledged leave the flow, each of the others has one more resend behind it and after
3 resends ends the message with CANCELLED; CW starts again after a success and doubles, up to 64, after a failure. -/
def State.settleAccess (s : State) (f : Flow) (got : Nat → Bool) (failed : Bool) : State :=
  let acked := (f.aired.zipIdx).filterMap (fun x => if got x.2 then some x.1.1 else none)
  let again : List (Nat × Nat) := (f.blocks.filter (fun b => !acked.contains b.1)).map (fun b =>
    if f.aired.any (fun a => a.1 == b.1) then (b.1, b.2 + 1) else b)
  let base := if f.kind == 4 then 16 else 8
  let g : Flow := { f with blocks := again, aired := [], cw := if failed then min 64 (f.cw * 2) else base }
  let s1 := (f.aired.zipIdx).foldl (fun z x => if failed then z else z.noteBlock f.node false x.1.2 (got x.2)) s
  let spent := again.any (fun b => decide (b.2 > 3))
  let rest := s1.eus.flows.filter (fun x => x != f)
  if again.isEmpty then ({ s1 with eus := { s1.eus with flows := s1.eus.flows.erase f } }).flowDone f
  else if spent then
    ({ s1 with eus := { s1.eus with flows := rest } }).send ⟨.eusor, f.node, .cancel, [(St.CANCELLED : Int), (f.kind : Int)], []⟩
  else { s1 with eus := { s1.eus with flows := s1.eus.flows.map (fun (x : Flow) => if x == f then g else x) } }

/-- SELECTIVE_ACK (R394): only the blocks not acknowledged are sent again, in the next access. -/
def execSelectiveAck (e : Fin 128) (mask : Nat) (s : State) : Host.Outcome State Fault Refusal :=
  match s.airedFlow e with
  | none => ok s
  | some f => ok ((s.settleAccess f (fun i => bit mask i) false).showLink e)

/-- The message kind of a flow. -/
def flowKind : Nat → MsgKind
  | 0 => .toneMap | 1 => .sounding | 2 => .sounding | 3 => .joinReply | _ => .data

/-- CONTENTION_ACCESS (R405): `start` ns into the period, in the contention region, after 80 µs of idle and a random backoff of 0 to CW − 1 slots
the node's oldest flow goes out with up to 32 blocks, as many as end with their acknowledgement before the guard, each in the segment in which it
starts; a collision or a missing acknowledgement doubles CW. Soundings carry no blocks and end with their access. -/
def execContentionAccess (e : Fin 128) (start : Nat) (failed : Bool) (s : State) : Host.Outcome State Fault Refusal :=
  if !s.eusorOn then ok s
  else match (match s.airedFlow e with | some f => some f | none => s.eus.flows.find? (fun f => f.node == e.val)) with
  | none => ok s
  | some f =>
    if failed && !f.aired.isEmpty then ok (s.settleAccess f (fun _ => false) true)
    else if !f.aired.isEmpty || decide (start < 23000000) then ok s
    else
      let sounds := f.kind == 1 || f.kind == 2
      let air := if sounds then [] else s.airPlan (s.node e).out (f.blocks.take 32) (start + frameHead) s.dataLimit
      if air.isEmpty && !sounds then ok s
      else
      let (draw, s0) := s.takeFree
      let slot := draw % f.cw
      if failed then
        ok { s0 with eus := { s0.eus with flows := s0.eus.flows.map (fun (x : Flow) => if x == f then { f with cw := min 64 (f.cw * 2) } else x) } }
      else
        let resent := (air.filter (fun x => decide (0 < x.1.2))).length
        let k := s0.node e
        let s1 := (((s0.bump Ent.NODE_BLOCKS_SENT e 0 air.length).bump Ent.BLOCKS_RESENT e 0 resent).setNode e { k with txCount := k.txCount + 1 }).send
          ⟨.eusor, e, flowKind f.kind, (slot : Int) :: (f.kind : Int) :: air.map (fun x => (x.1.1 : Int)),
            air.flatMap (fun x => dataBlock x.1.1 ((f.body.drop (512 * x.1.1)).take 512))⟩
        if sounds then ok { s1 with eus := { s1.eus with flows := s1.eus.flows.erase f } }
        else
          let g : Flow := { f with aired := air.map (fun x => (x.1.1, x.2)) }
          ok { s1 with eus := { s1.eus with flows := s1.eus.flows.map (fun (x : Flow) => if x == f then g else x) } }

/-- Bytes of a TONE_MAP message: the device's own order, since the spec gives none (ends, then each map). -/
def toneMapBytes (m : ToneMap) : List Byte :=
  leBytes 1 m.ends.length ++ m.ends.flatMap (leBytes 1) ++ m.maps.flatMap (fun x => leBytes 1 x.seg ++ leBytes 1 (b2n x.fec58) ++ x.codes)

/-- TONE_MAP (R400): maps for what the device sends to the node, from the first period after the acknowledgement. -/
def execToneMap (e : Fin 128) (m : ToneMap) (s : State) : Host.Outcome State Fault Refusal :=
  if s.nodeState e < Node.ADMITTING || !s.eusorOn then ok s
  else
    let s1 := s.acceptMap e false m
    let mask : Nat := 2 ^ (cdiv (toneMapBytes m).length 512) - 1
    ok (s1.send ⟨.eusor, e, .selectiveAck, [(mask : Int)], leBytes 4 mask⟩)

/-- TONE_MAP_AGE_EXPIRY (R401): a map older than TM_MAX_AGE is stale. -/
def execToneMapAgeExpiry (e : Fin 128) (dir : Fin 2) (seg : Fin 6) (s : State) : Host.Outcome State Fault Refusal :=
  let k := s.node e
  let g := (if dir.val == 1 then k.back else k.out).seg seg.val
  if g.map.isSome && decide (s.ticks > g.at_ + secTicks (s.nat Ent.TM_MAX_AGE)) then ok (s.markStale e (dir.val == 1) seg.val) else ok s

/-- Codes of a segment from the signal-to-noise ratio of each carrier, packed four bits each; notched carriers are off. -/
def State.codesFor (s : State) (fec58 : Bool) (snr : List Int) : List Byte :=
  (List.range 553).map (fun j =>
    let c (i : Nat) : Nat := if s.notched i then 0 else min 7 (Config.carrierCode fec58 (snr.getD i 0))
    BitVec.ofNat 8 (c (2 * j) + 16 * c (2 * j + 1)))

/-- SOUNDING (R400): the device measures the node's sounding and sends the maps of the segments that need one. -/
def execSounding (e : Fin 128) (ends : List Nat) (snr : List (List Int)) (s : State) : Host.Outcome State Fault Refusal :=
  if s.nodeState e < Node.ADMITTING || !s.eusorOn then ok s
  else
    let k := s.node e
    let all := k.back.ends != ends
    let need := (List.range (min 6 ends.length)).filter (fun i => all || (k.back.seg i).map.isNone || (k.back.seg i).stale.isSome)
    let maps := need.map (fun i =>
      let x := snr.getD i []
      let fec := Config.mapFec x
      (⟨i, s.codesFor fec x, fec⟩ : SegMap))
    let m : ToneMap := ⟨ends, maps⟩
    ok (s.startFlow e 0 (toneMapBytes m) (some m))

/-- Send a node a new route in its next poll (R406). -/
def State.sendRoute (s : State) (e : Nat) (r : List Nat) (cost : Nat) : State :=
  (s.setNode e { (s.node e) with routeNext := some (r, cost, none) }).toNode e 0x07 (leBytes 1 r.length ++ r.map (BitVec.ofNat 8))

/-- One node's route (R406, R397): the least-cost one when its relays keep the proxies at 16 or fewer, else the least-cost one over
the proxies in use; it changes below 0.8 of the present cost or after a link failed 3 exchanges in a row. -/
def State.reroute (s : State) (all : Tab (Nat × List Nat)) (e : Nat) : State :=
  match Tab.find all e with
  | none => s
  | some best =>
    let needs (r : List Nat) : Nat := (s.proxyList ++ (r.dropLast.filter (fun x => !s.proxyList.contains x))).length
    let pick := if needs best.2 ≤ 16 then some best else Tab.find (s.routes s.proxyList s.nodesOnline) e
    match pick with
    | none => (s.setNodeState e Node.UNREACHABLE).raise Evt.NODE_UNREACHABLE e best.2.length s.proxyList.length
    | some (cost, r) =>
      let broken := (routeLinks (s.routeOf e)).any (fun l => decide (Tab.get 0 s.eus.links l ≥ 3))
      if r == s.routeOf e then s.fitNat Ent.ROUTE_COST e cost
      else if broken || decide (10 * cost < 8 * s.presentCost e) then s.sendRoute e r cost
      else s

/-- ROUTE_COMPUTATION (R406): every ROUTE_PERIOD periods the routes of the ONLINE nodes. -/
def execRouteComputation (s : State) : Host.Outcome State Fault Refusal :=
  if !s.flag Ent.EUSOR_ENABLE || s.eus.count < s.eus.routedAt + s.nat Ent.ROUTE_PERIOD then ok s
  else
    let all := s.routes s.nodesOnline s.nodesOnline
    let s1 := s.each s.nodesOnline (fun z e => z.reroute all e)
    let s2 := { s1 with eus := { s1.eus with routedAt := s1.eus.count } }
    ok (s2.each (Tab.keys s2.eus.nodes) (fun z e => z.setNode e { (z.node e) with asked := false }))

/-- Admit a node (R407): the old link ends, its entry's index, its link key (R427), sounding both ways, a route by the sender of the beacon it
heard, the beacon key. -/
def State.admitNode (s : State) (e : Nat) (j : NodeJoin) : State :=
  let s0 := s.dropNode e Node.ADMITTING
  let (nonce, s1) := s0.takeFree
  let r := if j.via < 128 then s1.routeOf j.via ++ [e] else [e]
  let robust := (ratFloor (10 * s1.mapRate none)).toNat
  let cost := (if j.via < 128 then s1.nat Ent.ROUTE_COST j.via else 0) + s1.linkCost robust
  let node := ((s1.keyOf 4).map (fun k => nodeKey k (low 48 j.uid))).getD []
  let s2 := s1.setNode e { NodeSt.none with link := linkKey node nonce j.nonce, due := s1.eus.count + 1 }
  let s3 := s2.setNat Ent.NODE_STATUS e (pack [(0, 3, s2.phaseOf j.lineToLine j.zc), (3, 1, b2n j.lineToLine)])
  ((((s3.useRoute e r cost).startFlow e 3 (leBytes 1 e ++ leBytes 8 nonce ++ s3.eus.key)).startFlow e 1 []).startFlow e 2 []).showLink e

/-- JOIN (R407, R427): authentication, version, UID of an enabled entry; a refusal is reported, an accepted node is ADMITTING;
one that only a seventeenth proxy could reach is UNREACHABLE (R397). -/
def execJoin (j : NodeJoin) (s : State) : Host.Outcome State Fault Refusal :=
  if !s.eusorOn then ok s
  else
    let uid := low 48 j.uid
    let refuse (st : Nat) : State := s.raise Evt.NODE_REFUSED 0xFFFF (low 32 uid) st
    let good := match s.keyOf 4 with
      | some k => Config.joinTag (nodeKey k uid) uid j.lineToLine j.version j.zc (s.nat Ent.EUSOR_NETWORK_ID) (low 16 s.eus.count) == j.tag
      | none => false
    if !good then ok (refuse St.DENIED_ACCESS)
    else if j.version != 1 then ok (refuse St.NOT_SUPPORTED)
    else match (List.range 128).find? (fun e => s.flag Ent.NODE_ENABLE e && s.nat Ent.NODE_UID e == uid) with
      | none => ok (refuse St.NO_ENTRY)
      | some e =>
        if decide (j.via < 128) && !s.proxyList.contains j.via && decide (s.proxyList.length ≥ 16) then
          ok ((s.dropNode e Node.UNREACHABLE).raise Evt.NODE_UNREACHABLE e ((s.routeOf j.via).length + 1) s.proxyList.length)
        else ok (s.admitNode e j)

/-- LOAD_REQUEST (R409): granted in the node's next poll, or deferred. -/
def execLoadRequest (e : Fin 128) (watts : Nat) (essential : Bool) (s : State) : Host.Outcome State Fault Refusal :=
  if s.nodeState e != Node.ONLINE then ok s
  else
    let w := low 32 watts
    let s1 := { s with eus := { s.eus with loads := s.eus.loads.filter (fun l => l.node != e.val) } }
    if essential || s1.loadFits e w then ok (s1.toNode e 0x05 (leBytes 4 w))
    else ok (({ s1 with eus := { s1.eus with loads := s1.eus.loads ++ [(⟨e.val, w, s.ticks⟩ : LoadAsk)] } }).raise Evt.LOAD_DEFERRED e w
      (ratFloor (imbalanceOf s.phaseLoads)).toNat)

/-- LOAD_DEFER_EXPIRY (R409): AUX_DEFER_MAX after its arrival the request is granted. -/
def execLoadDeferExpiry (e : Fin 128) (s : State) : Host.Outcome State Fault Refusal :=
  match s.eus.loads.find? (fun l => l.node == e.val) with
  | none => ok s
  | some l =>
    if s.ticks < l.at_ + secTicks (s.nat Ent.AUX_DEFER_MAX) then ok s
    else ok (({ s with eus := { s.eus with loads := s.eus.loads.filter (fun x => x != l) } }).toNode e 0x05 (leBytes 4 l.watts))

/-- AUX_IMBALANCE (R409): the imbalance has been above the limit for 60 s. -/
def execAuxImbalance (s : State) : Host.Outcome State Fault Refusal :=
  match s.eus.heavySince with
  | none => ok s
  | some t =>
    let l := s.phaseLoads
    let top := l.foldl max 0
    let ph := (l.findIdx (fun x => decide (x = top))) + 1
    if s.eus.heavyTold || s.ticks < t + secTicks 60 then ok s
    else ok (({ s with eus := { s.eus with heavyTold := true } }).raise Evt.AUX_IMBALANCE 0 ph (ratFloor (imbalanceOf l)).toNat)

/-- MODEM_HANDOVER (R399): the listener becomes active at the next period start, if its half works: with cause 0 when the active half has failed,
with cause 1 when it has heard no valid B0 in 2 consecutive periods, with cause 2 on the active modem's own self-check. -/
def execModemHandover (cause : Fin 3) (s : State) : Host.Outcome State Fault Refusal :=
  if (cause.val == 0 && s.modemUp) || (cause.val == 1 && decide (s.eus.deaf < 2)) then ok s else ok (s.askHandover cause.val)

end Sys2Proof.Machine
end

