-- ==== Sys2Proof/Machine/Keys.lean ====
section
/-!
DEFINITION. Keys, identity and tamper response (R411 to R433): grotto slots and how they are written, certificates, zeroise.
-/
namespace Sys2Proof.Machine
open Sys2Proof

/-- An empty slot, and a slot. -/
def SlotSt.empty : SlotSt := ⟨0, 0, none, none, 0, 0, 0, none⟩
def State.slot (s : State) (k : Nat) : SlotSt := Tab.get SlotSt.empty s.keys.slots k

/-- What a KEY_ID is taken over (R419): the public key, or the AES key itself; KEY_ID is the first 8 bytes of its SHA-256. -/
def publicKey (alg : Nat) (k : KeyMat) : List Byte := if alg == 1 then k.material else Config.publicOf alg k.material
def keyId (alg : Nat) (k : Option KeyMat) : Nat := match k with | some x => leAt (sha256 (publicKey alg x)) 0 8 | none => 0

/-- SLOT_INFO (Table 18-4). -/
def State.slotInfo (s : State) (q : SlotSt) : List Byte :=
  let st := match q.active, q.pending with
    | none, none => 0 | some _, none => 1 | some _, some _ => 2 | none, some _ => 3
  leBytes 8 (pack [(0, 8, q.usage), (8, 8, q.alg), (16, 2, st), (18, 1, b2n ((q.active.map KeyMat.generated).getD false)),
    (19, 1, b2n (s.keys.rewrap.isSome && q.usage != 0)), (32, 32, q.counter)]) ++ leBytes 8 (keyId q.alg q.active) ++
    leBytes 8 (keyId q.alg q.pending) ++ leBytes 8 q.activeSfn

/-- The public parts of a slot as its entries show them; AES keys show nothing. -/
def State.showSlot (s : State) (k : Nat) : State :=
  let q := s.slot k
  let pub (x : Option KeyMat) : List Byte := match x with | some m => if q.alg == 1 then [] else publicKey q.alg m | none => []
  (((s.setBytes Ent.SLOT_INFO k (s.slotInfo q)).setBytes Ent.SLOT_PUBLIC k (pub q.active)).setBytes Ent.SLOT_CERT k
    ((q.active.map KeyMat.cert).getD [])).setBytes Ent.PENDING_PUBLIC k (pub q.pending)

/-- Change a slot. A slot that holds nothing keeps its KEY_COUNTER (R421). -/
def State.setSlot (s : State) (k : Nat) (q : SlotSt) : State :=
  let q1 : SlotSt := if q.active.isNone && q.pending.isNone then { q with usage := 0, alg := 0, activeSfn := 0 } else q
  ({ s with keys := { s.keys with slots := Tab.set s.keys.slots k q1 } }).showSlot k

/-- The pairs of Table 18-3: usage and algorithm. -/
def pairOk (usage alg : Nat) : Bool :=
  (usage == 1 && (alg == 2 || alg == 3)) || (usage == 2 && (alg == 4 || alg == 5)) || ((usage == 3 || usage == 4) && alg == 1)

/-- Usages of which the device holds one slot at most (R418). -/
def singleUsage (u : Nat) : Bool := u == 1 || u == 3 || u == 4

/-- Bytes of a key of an algorithm. -/
def keyLength : Nat → Nat
  | 1 => 32 | 2 => 32 | 3 => 48 | 4 => 66 | 5 => 57 | _ => 0

/-- Fields of a KEY_UPDATE (Table 18-5). -/
def kuUsage (m : List Byte) : Nat := leAt m 2 1
def kuAlg (m : List Byte) : Nat := leAt m 3 1
def kuGenerate (m : List Byte) : Bool := bit (leAt m 4 1) 0
def kuErase (m : List Byte) : Bool := bit (leAt m 4 1) 1
def kuCounter (m : List Byte) : Nat := leAt m 8 4

/-- The enabled KEY_MANAGER anchor an ISSUER_ID names. -/
def State.issuerKey (s : State) (id : List Byte) : Option (List Byte) :=
  ((List.range 16).find? (fun x => s.flag Ent.ANCHOR_ENABLE x && s.nat Ent.ANCHOR_ROLE x == 4 &&
    (sha256 (Config.certKey (s.bytes Ent.ANCHOR_CERT x))).take 8 == id)).map (fun x => Config.certKey (s.bytes Ent.ANCHOR_CERT x))

/-- The key material a KEY_UPDATE carries (R420): AES-256-GCM with a zero nonce under the key that HKDF makes of the ECDH secret of EPHEMERAL and
TRANSPORT_KEY. -/
def State.unwrap (s : State) (m : List Byte) : Option (List Byte) :=
  let key := hkdf384 (Config.ecdh (deviceKey 1) ((m.drop 28).take 97)) (leBytes 8 (s.nat Ent.DEVICE_ID))
    (textBytes "SKE-6408 key transport" ++ (m.drop 1).take 1 ++ (m.drop 8).take 4) 32
  Config.gcmOpen key (List.replicate 12 0#8) (m.take 128) ((m.drop 128).take 80) ((m.drop 208).take 16)

/-- The checks of R421 in their order (form and slot number first, as values outside Table 18-5: RANGE). -/
def State.keyStatus (s : State) (k : Nat) (m : List Byte) : Nat :=
  let q := s.slot k
  let u := kuUsage m
  let mode := s.nat Ent.KEY_WRITE_MODE
  if leAt m 0 1 != 1 || leAt m 1 1 != k || decide (leAt m 4 1 > 3) then St.RANGE
  else if !(pairOk u (kuAlg m) || (kuErase m && u == 0)) then St.RANGE
  else if singleUsage u && !kuErase m && s.keys.slots.any (fun x => x.1 != k && x.2.usage == u) then St.RANGE
  else if mode == 0 && leAt m 12 8 != s.nat Ent.DEVICE_ID then St.DENIED_ACCESS
  else if mode == 0 && (s.issuerKey ((m.drop 20).take 8)).isNone then St.DENIED_ACCESS
  else if mode == 0 && !Config.verifies ((s.issuerKey ((m.drop 20).take 8)).getD []) (m.take 224) (m.drop 224) then St.DENIED_ACCESS
  else if mode == 0 && (kuCounter m / 2 ^ 26 != s.nat Ent.ZEROISE_EPOCH || decide (kuCounter m ≤ q.counter)) then St.CONFLICT
  else if !kuGenerate m && !kuErase m && (!s.keys.held || (s.unwrap m).isNone) then St.DENIED_ACCESS
  else if q.usage != 0 && q.usage != u && !kuErase m then St.CONFLICT
  else if mode == 1 && q.pending.isSome then St.CONFLICT
  else St.OK

/-- The key a message brings, or one made on the device (R420): a free value of the algorithm's length. -/
def State.keyFrom (s : State) (m : List Byte) : KeyMat × State :=
  if kuGenerate m then
    let (f, s1) := s.takeFree
    (⟨leBytes (keyLength (kuAlg m)) f, true, []⟩, s1)
  else (⟨((s.unwrap m).getD []).take (keyLength (kuAlg m)), false, []⟩, s)

/-- A key has committed: the beacon key follows an EUSOR_NETWORK slot (R427). -/
def State.keyCommitted (s : State) (k mode usage : Nat) : State :=
  let s1 := s.raise Evt.KEY_WRITTEN k mode (low 32 (keyId (s.slot k).alg (s.slot k).active))
  if usage == 3 then s1.renewBeaconKey else s1

/-- A KEY_UPDATE at step 2 (R421, R422): refused with its event, or in mode 0 the key is active and in mode 1 pending; ERASE empties
the slot in either mode. -/
def applyKeyUpdate (k : Nat) (m : List Byte) (s : State) : State × Nat :=
  let st := s.keyStatus k m
  let mode := s.nat Ent.KEY_WRITE_MODE
  let q := s.slot k
  if st != St.OK then (s.raise Evt.KEY_REFUSED k st (kuCounter m), st)
  else if kuErase m then
    let c := if mode == 0 then kuCounter m else q.counter
    (((s.setSlot k { q with active := none, pending := none, counter := c, challenge := none }).setBytes Ent.KEY_RESPONSE k []).keyCommitted
      k mode q.usage, St.OK)
  else
    let (key, s1) := s.keyFrom m
    if mode == 0 then
      ((s1.setSlot k { q with usage := kuUsage m, alg := kuAlg m, active := some key, counter := kuCounter m, activeSfn := s1.sfn }).keyCommitted
        k 0 (kuUsage m), St.OK)
    else
      let s2 := (s1.setSlot k { q with usage := kuUsage m, alg := kuAlg m, pending := some key, pendingAt := s1.ticks, challenge := none }).setBytes
        Ent.KEY_RESPONSE k []
      (s2.raise Evt.KEY_PENDING k (low 32 (keyId (kuAlg m) (some key))) 0, St.OK)

/-- KEY_UPDATE (R420, R421): checked on receipt, where a refusal is answered at once, and again as it applies. -/
def execKeyUpdate (c : Client) (k : Nat) (msg : List Byte) (s : State) : Host.Outcome State Fault Refusal :=
  let e := Ent.KEY_UPDATE
  let w := e.item k (.bytes msg)
  ok (s.receiveRequest c Op.WRITE [w] (fun s1 h =>
    let st := s1.clientReceipt e k w h
    let r := applyKeyUpdate k msg s1
    if st != St.OK then (s1, st, []) else if r.2 != St.OK then (r.1, r.2, []) else (s1, St.OK, [])) fun s1 h =>
      if s1.applying then
        let r := applyKeyUpdate k msg (s1.noteApplied h)
        r.1.answerLater h r.2 []
      else s1.hold h)

/-- A challenge at step 2 (R422): the response stands by cycle 0 of the next frame. -/
def applyKeyChallenge (k : Nat) (v : List Byte) (s : State) : State × Nat :=
  ((s.setSlot k { s.slot k with challenge := some v }).setBytes Ent.KEY_RESPONSE k [], St.OK)

/-- KEY_CHALLENGE (R422). -/
def execKeyChallenge (c : Client) (k : Nat) (v : List Byte) (s : State) : Host.Outcome State Fault Refusal :=
  ok (s.clientCommand c Ent.KEY_CHALLENGE k (.bytes v) (applyKeyChallenge k v))

/-- Proofs due at cycle 0 (R422): made with the pending key over "SKE-6408 challenge" ‖ challenge. -/
def State.answerChallenges (s : State) : State :=
  s.each s.keys.slots (fun z x =>
    match x.2.challenge, x.2.pending with
    | some v, some key =>
      let msg := textBytes "SKE-6408 challenge" ++ v
      let p := if x.2.alg == 1 then hmac256 key.material msg else Config.proof x.2.alg key.material msg
      (z.setSlot x.1 { z.slot x.1 with challenge := none }).setBytes Ent.KEY_RESPONSE x.1 p
    | some _, none => z.setSlot x.1 { z.slot x.1 with challenge := none }
    | none, _ => z)

/-- A confirm at step 2 (R422). -/
def applyKeyConfirm (k v : Nat) (s : State) : State × Nat :=
  let q := s.slot k
  let r := s.bytes Ent.KEY_RESPONSE k
  match q.pending with
  | none => (s, St.CONFLICT)
  | some key =>
    if r.isEmpty || ((q.usage == 1 || q.usage == 2) && key.cert.isEmpty) then (s, St.CONFLICT)
    else if v != leAt (sha256 r) 0 8 then (s, St.RANGE)
    else
      let s1 := (s.setSlot k { q with active := some key, pending := none, counter := low 32 (q.counter + 1), activeSfn := s.sfn }).setBytes
        Ent.KEY_RESPONSE k []
      (s1.keyCommitted k 1 q.usage, St.OK)

/-- KEY_CONFIRM (R422). -/
def execKeyConfirm (c : Client) (k : Nat) (v : Nat) (s : State) : Host.Outcome State Fault Refusal :=
  ok (s.clientCommand c Ent.KEY_CONFIRM k (.num v) (applyKeyConfirm k v))

/-- A certificate at step 2 (R422): for the active or the pending key, by its leaf's public key. -/
def applySlotCert (k : Nat) (v : List Byte) (s : State) : State × Nat :=
  let q := s.slot k
  let leaf := Config.certKey v
  let fits (x : Option KeyMat) : Bool := match x with | some m => q.alg != 1 && publicKey q.alg m == leaf | none => false
  let with_ (x : Option KeyMat) : Option KeyMat := x.map (fun (m : KeyMat) => { m with cert := v })
  if fits q.active then (s.setSlot k { q with active := with_ q.active }, St.OK)
  else if fits q.pending then (s.setSlot k { q with pending := with_ q.pending }, St.OK)
  else (s, St.RANGE)

/-- SLOT_CERT (R422). -/
def execSlotCert (c : Client) (k : Nat) (v : List Byte) (s : State) : Host.Outcome State Fault Refusal :=
  ok (s.clientCommand c Ent.SLOT_CERT k (.bytes v) (applySlotCert k v))

/-- KEY_PENDING_EXPIRED (R422): KEY_PENDING_TIMEOUT after its application the pending key is erased. -/
def execKeyPendingExpired (k : Fin 64) (s : State) : Host.Outcome State Fault Refusal :=
  let q := s.slot k
  if q.pending.isSome && decide (s.ticks ≥ q.pendingAt + secTicks (s.nat Ent.KEY_PENDING_TIMEOUT)) then
    ok (((s.setSlot k { q with pending := none, challenge := none }).setBytes Ent.KEY_RESPONSE k []).raise Evt.KEY_PENDING_EXPIRED k
      (low 32 (keyId q.alg q.pending)) 0)
  else ok s

/-- A measurement extended from 48 zero bytes with the digests of its stages (R415). -/
def measureOf (ds : List (List Byte)) : List Byte := ds.foldl (fun m d => sha384 (m ++ d)) z48

/-- The declared measurement of a manifest: SHA-384(Z48 ‖ IMAGE_DIGEST) (R434). -/
def declared (manifest : List Byte) : List Byte := measureOf [(manifest.drop 32).take 48]

/-- REWRAP_DONE (R423): a verified main image's declared measurement wraps everything too; every slot shows it. -/
def execRewrapDone (s : State) : Host.Outcome State Fault Refusal :=
  match s.fw.wrapping with
  | none => ok s
  | some i =>
    if !s.keys.held then ok s
    else
      let d := declared (Tab.get ⟨[], []⟩ s.fw.slots i).manifest
      let s1 := { s with fw := { s.fw with wrapping := none }, keys := { s.keys with
        rewrap := some d, seals := s.keys.seals.take 1 ++ [sealKey (s.bytes Ent.MEAS_BOOT) d s.keys.epoch] } }
      let s2 := (s1.setNat Ent.REWRAP_STATE 0 1).each (Tab.keys s1.keys.slots) (fun z k => z.showSlot k)
      ok (s2.raise Evt.REWRAP_DONE 0 ((s2.keys.slots.filter (fun x => x.2.usage != 0)).length) (leAt d 0 4))

/-- One wrapping is erased (R423): at confirmation the old one (`keep`), at fallback the new one. -/
def State.endRewrap (s : State) (keep : Bool) : State :=
  let l := s.keys.seals
  let s1 := { s with fw := { s.fw with wrapping := none }
                     keys := { s.keys with rewrap := none, seals := if keep && s.keys.rewrap.isSome then l.drop (l.length - 1) else l.take 1 } }
  (s1.setNat Ent.REWRAP_STATE 0 0).each (Tab.keys s1.keys.slots) (fun z k => z.showSlot k)

/-- TAMPER_STATUS (Table 18-9). -/
def State.tamperStatus (s : State) : Nat :=
  pack [(0, 4, s.keys.loops), (4, 4, s.keys.watched), (8, 1, b2n s.keys.zeroised), (9, 1, b2n s.keys.gap), (10, 1, b2n s.keys.env),
    (16, 6, 63 - s.keys.epoch)]
def State.showTamper (s : State) : State := s.setNat Ent.TAMPER_STATUS 0 s.tamperStatus

/-- What zeroise clears (Table 18-6) and what follows (R430): derived keys, slots, Eusor keys and wrappings go, sessions end fast with
SECURITY_FAILURE, dictionary connections close. ZEROISE_ALL burns the roots for good. The sealed image stays, unreadable through the epoch. -/
def State.zeroise (s : State) (all : Bool) : State :=
  let ks := Tab.keys s.keys.slots
  let s1 := { s with
    keys := { s.keys with slots := [], held := false, burnt := s.keys.burnt || all, lostAt := some s.ticks, zeroised := true,
                          rewrap := none, epoch := min 63 (s.keys.epoch + 1) }
    eus := { s.eus with key := [], keyNext := none }
    fw := { s.fw with wrapping := none }
    tx := { s.tx with conns := [] } }
  let s2 := (s1.each ks (fun z k => (z.showSlot k).setBytes Ent.KEY_RESPONSE k [])).setNat Ent.REWRAP_STATE 0 0
  let s3 := s2.setNat Ent.ZEROISE_EPOCH 0 s2.keys.epoch
  s3.each (List.range 8) (fun z o => if z.sesLive o then z.endSession o End.SECURITY_FAILURE true else z)

/-- Keys are held by no die and the grotto is closed (Table 18-1): OFF, SHIP, RECOVERY and TEST. -/
def State.closeKeys (s : State) : State := { s with keys := { s.keys with slots := [], held := false } }

/-- The grotto image is sealed in ST in the frame of a change (R418). -/
def State.sealGrotto (s : State) : State :=
  if s.keys.held then { s with keys := { s.keys with stored := s.keys.slots } } else s

/-- The PUF root is back, so SEAL_KEY is: a sealed image made under it opens, any other does not (R416, R418). -/
def State.openGrotto (s : State) : State :=
  let key := sealKey (s.bytes Ent.MEAS_BOOT) (s.bytes Ent.MEAS_MAIN) s.keys.epoch
  let s1 := { s with keys := if s.keys.seals.contains key then { s.keys with slots := s.keys.stored, held := true }
                             else { s.keys with slots := [], stored := [], seals := [key], held := true } }
  s1.each (Tab.keys s.keys.stored) (fun z k => z.showSlot k)

/-- KY half h works and watches its loops (R414, R428). -/
def State.kyWatches (s : State) (h : Nat) : Bool := !bit s.keys.lost h

/-- The condition of a tamper cause in what KY measures (R428): two consecutive mismatches of a loop whose half works; VBKP above 3.9 V; a die
temperature outside −50 °C to 140 °C; the stop of a backup oscillator. -/
def State.tampered (s : State) (c run : Nat) (k : KyIn) : Bool :=
  if c < 4 then s.kyWatches (c / 2) && bit k.loops c && decide (run ≥ 2)
  else (s.kyWatches 0 || s.kyWatches 1) && (match c with
    | 4 => decide (k.vbkp > 3900)
    | 5 => decide (k.temp < -500 ∨ k.temp > 1400)
    | _ => k.stopped)

/-- Mismatching loops and the environment as KY sees them (R433). -/
def State.watchKy (s : State) (k : KyIn) : State :=
  { s with keys := { s.keys with
      loops := ofBits ((List.range 4).filter (fun n => bit k.loops n && s.kyWatches (n / 2)))
      env := [4, 5, 6].any (fun c => s.tampered c 0 k) } }

/-- A tamper in the event log (R429), and few epochs left after a burn (R430). -/
def State.tellTamper (s : State) (x : Nat × Nat × Nat) : State :=
  let s1 := s.raise Evt.TAMPER x.1 x.2.1 x.2.2
  s1.when ((x.2.1 == 1 || x.2.1 == 2) && decide (x.2.2 > 55)) (fun z => z.raise Evt.EPOCHS_LOW 0 (63 - x.2.2) 0)

/-- KY's own log takes a tamper; its event goes out at once, or at the next start where the other dies are unpowered (R429). -/
def State.noteTamper (s : State) (c act : Nat) : State :=
  let x := (c, act, s.keys.epoch)
  let st := s.nat Ent.DEVICE_STATE
  let dark := st == Dev.OFF || st == Dev.SHIP
  let s1 := { s with keys := { s.keys with log := x :: s.keys.log, untold := if dark then s.keys.untold + 1 else s.keys.untold } }
  if dark then s1 else s1.tellTamper x

/-- Tampers that came while the other dies were unpowered enter the event log, the oldest first (R429). -/
def State.tellTampers (s : State) : State :=
  ({ s with keys := { s.keys with untold := 0 } }).each (s.keys.log.take s.keys.untold).reverse State.tellTamper

/-- TAMPER (R428 to R430): a loop's mismatch (0–3, watched by its KY half) or an environment condition (4–6), with the action
configured; without an epoch left action 1 acts as 2. -/
def execTamper (cause : Fin 7) (run : Nat) (k : KyIn) (s : State) : Host.Outcome State Fault Refusal :=
  let c := cause.val
  if !s.tampered c run k then ok s
  else
    let s1 := s.watchKy k
    let cfg := if c < 4 then s.nat Ent.TAMPER_CONFIG 0 c else s.nat Ent.TAMPER_ENV_ACTION
    let act := if cfg == 1 && s.keys.epoch ≥ 63 then 2 else cfg
    if act == 0 then ok s1
    else if act == 3 then ok (s1.noteTamper c 3)
    else ok ((s1.zeroise (act == 2)).noteTamper c act)

/-- Issue a certificate where its key has changed (R424): serial the SFN, no expiry, the subject of a meter key with its die, image version and check
value, signed under IDENTITY_KEY. Keys: 0 transport, 1 device TLS, 2 and 3 meter. -/
def State.issueCert (s : State) (key : Nat) : State :=
  let pub := if key < 2 then Config.publicOf 3 (deviceKey (key + 1)) else s.meterPublic (key - 2)
  let subject := match key with
    | 2 => [2, s.nat Ent.FW_LEGAL_VERSION, s.nat Ent.LEGAL_CHECK_VALUE]
    | 3 => [3, s.nat Ent.FW_LEGAL_VERSION, s.nat Ent.LEGAL_CHECK_VALUE_M1]
    | _ => []
  let body := Config.certBody key s.sfn pub subject
  if (Tab.find s.keys.issued key) == some pub then s
  else
    let e := match key with | 0 => Ent.TRANSPORT_CERT | 1 => Ent.DEVICE_TLS_CERT | 2 => Ent.METER_CERT_M0 | _ => Ent.METER_CERT_M1
    ((({ s with keys := { s.keys with issued := Tab.set s.keys.issued key pub } }).setBytes e 0 (Config.certificate body (Config.signature 3 (deviceKey 0) body)))).raise
      Evt.CERT_ISSUED key (low 32 s.sfn) 0

/-- KEYS_REDERIVED (R430): after ZEROISE_KEYS the derived keys return, with an empty grotto, certificates follow, and the signed records that waited are
issued. -/
def execKeysRederived (s : State) : Host.Outcome State Fault Refusal :=
  match s.keys.lostAt with
  | none => ok s
  | some t =>
    let st := s.nat Ent.DEVICE_STATE
    if s.keys.burnt || [Dev.OFF, Dev.SHIP, Dev.RECOVERY, Dev.TEST].contains st then ok s
    else
      let s1 := ({ s with keys := { s.keys with lostAt := none } }).openGrotto
      let s2 := s1.each [0, 1, 2, 3] (fun z k => z.issueCert k)
      ok (s2.issueWaiting.raise Evt.KEYS_REDERIVED 0 ((s.ticks - t) / 20) s2.keys.epoch)

/-- The check of vehicle key slots at a swap (Table 18-8): SECC_SLOT names 0xFF or an active SECC slot. -/
def State.seccSlotOk (s : State) (k : Nat) : Bool :=
  k == 0xFF || ((s.slot k).usage == 2 && (s.slot k).active.isSome)

end Sys2Proof.Machine
end

