-- ==== Sys2Proof/Machine/Firmware.lean ====
section
/-!
DEFINITION. Firmware update (R434 to R453): staging, preparation, activation, the trial and its ends, the legal image, and the
switch-over that can start or end a trial.
-/
namespace Sys2Proof.Machine
open Sys2Proof

/-- Slot states (Table 19-4). -/
def Img.EMPTY : Nat := 0
def Img.RECEIVING : Nat := 1
def Img.VERIFIED : Nat := 2
def Img.RUNNING : Nat := 3
def Img.TRIAL : Nat := 4
def Img.FALLBACK : Nat := 5

/-- A slot and its manifest. -/
def State.fslot (s : State) (i : Nat) : FwSlot := Tab.get ⟨[], []⟩ s.fw.slots i
def State.setFslot (s : State) (i : Nat) (x : FwSlot) : State := { s with fw := { s.fw with slots := Tab.set s.fw.slots i x } }
def State.manifest (s : State) (i : Nat) : List Byte := (s.fslot i).manifest

/-- Fields of a manifest (Table 19-1). -/
def mfVersion (m : List Byte) : Nat := leAt m 2 2
def mfFormat (m : List Byte) : Nat := leAt m 6 2
def mfLength (m : List Byte) : Nat := leAt m 8 4
def mfBlocks (m : List Byte) : Nat := leAt m 12 2
def mfRollback (m : List Byte) : Nat := leAt m 14 1
def mfCheck (m : List Byte) : Nat := leAt m 80 4
def mfBlockHash (m : List Byte) (k : Nat) : List Byte := (m.drop (256 + 32 * k)).take 32

/-- Greatest block length, blocks and bytes of an image, by slot (R434). -/
def blockSize : Nat := 32768
def maxBlocks (slot : Nat) : Nat := if slot < 2 then 128 else 16

/-- Length of block `k` of an image. -/
def mfBlockLen (m : List Byte) (k : Nat) : Nat := min blockSize (mfLength m - blockSize * k)

/-- Check 3 of R437: format, silicon, counts and lengths. -/
def mfForm (slot : Nat) (m : List Byte) : Bool :=
  leAt m 0 1 == 1 && leAt m 1 1 == (if slot < 2 then 1 else 2) && (m.drop 16).take 2 == asciiBytes [66, 49] &&
    decide (1 ≤ mfBlocks m) && decide (mfBlocks m ≤ maxBlocks slot) && decide (1 ≤ mfLength m) && cdiv (mfLength m) blockSize == mfBlocks m &&
    m.length == 256 + 32 * mfBlocks m + 96

/-- A preparation is in progress on a slot. -/
def State.preparing (s : State) (i : Nat) : Bool :=
  (match s.fw.main with | some p => p.slot == i | none => false) || (match s.fw.legal with | some p => p.slot == i | none => false) ||
    (match s.fw.stagger with | some g => g.slot == i | none => false)

/-- FW_UPDATE_STATUS (Table 19-5). -/
def State.showFw (s : State) : State :=
  let f := s.fw
  let prep := match f.main with | some p => some p | none => f.legal
  let phase := if f.trial.isSome then 3 else if f.stagger.isSome then 5 else if f.confirming then 4
    else match prep with | some p => (if p.done then 2 else 1) | none => 0
  let action := match f.trial, f.stagger, prep with
    | some t, _, _ => t.action
    | none, some g, _ => g.action
    | none, none, some p => p.action
    | none, none, none => 0
  let old := if f.format == 0 then low 16 Config.stateFormat else f.format
  let dual := match f.trial with | some t => mfFormat (s.manifest t.slot) != old | none => false
  let newer := match f.main with | some p => p.done && f.trial.isNone | none => false
  s.setNat Ent.FW_UPDATE_STATUS 0 (pack [(0, 3, phase), (3, 1, b2n dual), (4, 1, b2n newer), (8, 10, action)])

/-- The new wrapping goes with the content of a slot (R439). -/
def State.dropWrapping (s : State) (i : Nat) : State :=
  if s.fw.wrapping == some i || (s.keys.rewrap.isSome && s.keys.rewrap == some (declared (s.manifest i))) then s.endRewrap false else s

/-- A slot is emptied. -/
def State.emptySlot (s : State) (i : Nat) : State :=
  let s1 := s.dropWrapping i
  ((({ s1 with fw := { s1.fw with slots := Tab.erase s1.fw.slots i } }.setNat Ent.SLOT_STATE i Img.EMPTY).setNat Ent.SLOT_VERSION i 0).setNat
    Ent.SLOT_BLOCKS_OK i 0).setBytes Ent.SLOT_MEASUREMENT i (List.replicate 48 0#8)

/-- The checks of R437 in their order. -/
def State.manifestStatus (s : State) (i : Nat) (m : List Byte) : Nat :=
  let st := s.nat Ent.SLOT_STATE i
  let kind := leAt m 1 1
  if st ≥ Img.RUNNING || s.preparing i then St.CONFLICT
  else if (kind == 1 && decide (i ≥ 2)) || (kind == 2 && decide (i < 2)) then St.RANGE
  else if !mfForm i m then St.NOT_SUPPORTED
  else if (m.drop 24).take 8 != (sha256 (Config.imageKey kind)).take 8 ||
      !Config.verifies (Config.imageKey kind) (m.take (m.length - 96)) (m.drop (m.length - 96)) then St.DENIED_ACCESS
  else if mfRollback m < (if kind == 1 then s.fw.rollMain else s.fw.rollLegal) then St.RANGE
  else if kind == 1 && decide (leAt m 4 2 > s.nat Ent.FW_MAIN_VERSION) then St.NOT_SUPPORTED
  else if kind == 2 && mfFormat m != low 16 Config.legalFormat then St.NOT_SUPPORTED
  else if kind == 2 && !s.flag Ent.LEGAL_SEAL_STATE then St.DENIED_SEAL
  else if kind == 2 && s.legalLow then St.BUSY
  else St.OK

/-- A manifest at step 2 (R437): it replaces the slot's content. -/
def applySlotManifest (i : Nat) (m : List Byte) (s : State) : State × Nat :=
  let st := s.manifestStatus i m
  if st != St.OK then (s.setNat Ent.SLOT_RESULT i st, st)
  else
    let s1 := (((s.emptySlot i).setFslot i ⟨m, []⟩).setNat Ent.SLOT_STATE i Img.RECEIVING).setNat Ent.SLOT_VERSION i (mfVersion m)
    ((s1.setBytes Ent.SLOT_MEASUREMENT i (declared m)).setNat Ent.SLOT_RESULT i St.OK, St.OK)

/-- SLOT_MANIFEST (R437). -/
def execSlotManifest (c : Client) (i : Nat) (v : List Byte) (s : State) : Host.Outcome State Fault Refusal :=
  ok (s.clientCommand c Ent.SLOT_MANIFEST i (.bytes v) (applySlotManifest i v))

/-- The last missing block is stored (R438): the whole image's digest decides. -/
def State.finishImage (s : State) (i : Nat) : State :=
  let x := s.fslot i
  let image := (List.range (mfBlocks x.manifest)).flatMap (fun k => (Tab.find x.blocks k).getD [])
  if sha384 image == (x.manifest.drop 32).take 48 then
    let s1 := (s.setNat Ent.SLOT_STATE i Img.VERIFIED).raise Evt.IMAGE_VERIFIED i (mfVersion x.manifest) (leAt (declared x.manifest) 0 4)
    if i < 2 then { s1 with fw := { s1.fw with wrapping := some i } } else s1
  else ((s.emptySlot i).setNat Ent.SLOT_RESULT i St.RANGE).raise Evt.IMAGE_REFUSED i St.RANGE 0xFFFF

/-- A block at step 2 (R438): U16 index, then data. -/
def applySlotBlock (i : Nat) (v : List Byte) (s : State) : State × Nat :=
  let x := s.fslot i
  let m := x.manifest
  let k := leAt v 0 2
  let data := v.drop 2
  if s.nat Ent.SLOT_STATE i != Img.RECEIVING then (s.setNat Ent.SLOT_RESULT i St.CONFLICT, St.CONFLICT)
  else if v.length < 2 || decide (k ≥ mfBlocks m) || data.length != mfBlockLen m k then (s.setNat Ent.SLOT_RESULT i St.RANGE, St.RANGE)
  else if sha256 data != mfBlockHash m k then
    ((s.setNat Ent.SLOT_RESULT i St.RANGE).raise Evt.IMAGE_REFUSED i St.RANGE k, St.RANGE)
  else if (Tab.find x.blocks k).isSome then (s.setNat Ent.SLOT_RESULT i St.OK, St.OK)
  else
    let bs := Tab.set x.blocks k data
    let s1 := ((s.setFslot i ⟨m, bs⟩).setNat Ent.SLOT_BLOCKS_OK i bs.length).setNat Ent.SLOT_RESULT i St.OK
    (if bs.length == mfBlocks m then s1.finishImage i else s1, St.OK)

/-- SLOT_BLOCK (R438). -/
def execSlotBlock (c : Client) (i : Nat) (v : List Byte) (s : State) : Host.Outcome State Fault Refusal :=
  ok (s.clientCommand c Ent.SLOT_BLOCK i (.bytes v) (applySlotBlock i v))

/-- A write of SLOT_ERASE (R439); a slot named by an armed activation is erased too (Table 19-3). -/
def applySlotErase (i : Nat) (s : State) : State × Nat :=
  let st := s.nat Ent.SLOT_STATE i
  if st == Img.EMPTY then (s, St.ALREADY_DONE)
  else if st == Img.RECEIVING || st == Img.VERIFIED then ((s.emptySlot i).setNat Ent.SLOT_RESULT i St.OK, St.OK)
  else (s, St.CONFLICT)

/-- SLOT_ERASE (R439). -/
def execSlotErase (c : Client) (i : Nat) (v : Nat) (s : State) : Host.Outcome State Fault Refusal :=
  ok (s.clientCommand c Ent.SLOT_ERASE i (.num v) (applySlotErase i))

/-- The slot an FW_ACTIVATE names (Table 2-5). -/
def State.actSlot (s : State) (a : Nat) : Nat := leNat (s.bytes Ent.ACTION_VALUE a)

/-- A preparation of a main image fails (R441): step 1 boot, 2 conversion. The standby restarts on the running image. -/
def State.failPrep (s : State) (p : Prep) (step status : Nat) : State :=
  let s1 := (s.loseSync.setStanding (1 - s.activeDie) .off).unboot (1 - s.activeDie)
  let s2 := { s1 with die := { s1.die with resync := none, resyncFails := 0 }, fw := { s1.fw with main := none } }
  s2.showFw.raise Evt.PREPARE_FAILED p.slot step status

/-- A legal image does not load or does not measure as declared (R449). -/
def State.failLegal (s : State) (p : Prep) (status : Nat) : State :=
  { s with fw := { s.fw with legal := none } }.showFw.raise Evt.PREPARE_FAILED p.slot 3 status

/-- More than 3,000 frames since the start of a preparation that is not done (R441, R449). -/
def State.prepLate (s : State) (p : Prep) : Bool := !p.done && decide (s.frames > p.since + 3000)

/-- Each cycle: preparations whose conversion failed or that are late fail (R441, R449); the status is not stated (a free one of Table 4-6, log
entry 1). -/
def State.watchPrep (s : State) : State :=
  let s1 := match s.fw.main with
    | some p =>
      if p.failed || s.prepLate p then
        let (f, z) := s.takeFree
        z.failPrep p (if p.failed || s.booted (1 - s.activeDie) then 2 else 1) (freeStatus f)
      else s
    | none => s
  match s1.fw.legal with
  | some p =>
    if s1.prepLate p then
      let (f, z) := s1.takeFree
      z.failLegal p (freeStatus f)
    else s1
  | none => s1

/-- PREPARE_START (R440, R449): at S − ANNOUNCE_LEAD, or S − PREPARE_LEAD for a local action; the standby restarts from the slot's
image, or both metering dies begin to load. A preparation starts once or not at all. A VALUE that names no slot fails at the start like a slot that
is not VERIFIED; the event's instance is one of the slots 0–3 (Table 19-6), and which is not stated: a free value (log entry 81). -/
def execPrepareStart (i : Fin 1024) (s : State) : Host.Outcome State Fault Refusal :=
  let a := i.val
  let slot := s.actSlot a
  let lead := if s.aGroup a == 0 then s.nat Ent.PREPARE_LEAD else s.nat Ent.ACTION_ANNOUNCE_LEAD a
  if s.aType a != ActType.FW_ACTIVATE || !(s.armed.contains a) || decide (s.aSfn a > s.sfn + lead) || decide (s.aSfn a ≤ s.sfn) ||
      s.fw.started.contains (a, s.aSfn a) then ok s
  else
    let s0 := { s with fw := { s.fw with started := (a, s.aSfn a) :: s.fw.started.filter (fun x => s.armed.contains x.1 && s.aSfn x.1 == x.2) } }
    let main := decide (slot < 2)
    let good := decide (slot < 4) && s.nat Ent.SLOT_STATE slot == Img.VERIFIED &&
      (if main then s.die.mirrorSync && s.fw.main.isNone else s.fw.legal.isNone && s.fw.stagger.isNone)
    if !good then
      let (f, s1) := s0.takeFree
      ok (if slot < 4 then s0.raise Evt.PREPARE_FAILED slot 0 St.CONFLICT else s1.raise Evt.PREPARE_FAILED (low 2 f) 0 St.CONFLICT)
    else
      let p : Prep := ⟨slot, a, s.frames, false, false, false, false⟩
      if main then
        let s1 := (s0.loseSync.setStanding (1 - s.activeDie) .off).unboot (1 - s.activeDie)
        ok { s1 with fw := { s1.fw with main := some p } }.showFw
      else ok { s0 with fw := { s0.fw with legal := some p } }.showFw

/-- PREPARE_DONE (R441): the standby has booted the staged image and the check phase of the converting resynchronisation is complete, within 3,000
frames of the start. -/
def execPrepareDone (s : State) : Host.Outcome State Fault Refusal :=
  match s.fw.main, s.die.resync with
  | some p, some r =>
    if p.done || s.prepLate p || r.phase < 3 then ok s
    else
      let s1 := s.setStanding r.die .standby
      let s2 := { s1 with die := { s1.die with mirrorSync := true, resync := none, resyncFails := 0, frameMisses := 0, diverged := 0 }
                          fw := { s1.fw with main := some { p with done := true } } }
      ok (s2.holdFrame.consume.showFw.raise Evt.PREPARE_DONE p.slot (s.frames - p.since) (mfFormat (s.manifest p.slot)))
  | _, _ => ok s

/-- PREPARE_FAILED (R441, R449): a step fails, 1 boot, 2 conversion, 3 the load of a legal image. -/
def execPrepareFailed (step : Fin 4) (status : Nat) (s : State) : Host.Outcome State Fault Refusal :=
  match step.val, s.fw.main, s.fw.legal with
  | 3, _, some p => ok (s.failLegal p status)
  | 1, some p, _ | 2, some p, _ => if s.fw.trial.isSome then ok s else ok (s.failPrep p step.val status)
  | _, _, _ => ok s

/-- LEGAL_IMAGE_LOAD_DONE (R449): a die has loaded the image and KY measured it against the declared measurement; the status of a mismatch is not
stated (a free one of Table 4-6, log entry 1). -/
def execLegalImageLoadDone (die : Fin 2) (digest : List Byte) (s : State) : Host.Outcome State Fault Refusal :=
  match s.fw.legal with
  | none => ok s
  | some p =>
    if measureOf [digest] != s.bytes Ent.SLOT_MEASUREMENT p.slot then
      let (f, s1) := s.takeFree
      ok (s1.failLegal p (freeStatus f))
    else
      let q := if die.val == 0 then { p with loaded0 := true } else { p with loaded1 := true }
      ok { s with fw := { s.fw with legal := some { q with done := q.loaded0 && q.loaded1 } } }.showFw

/-- The trial starts on the die now active (R443): its slot is TRIAL, the slot that ran FALLBACK. -/
def State.beginTrial (s : State) (p : Prep) : State :=
  let m := s.manifest p.slot
  let old := s.nat Ent.RUNNING_SLOT
  let was := s.nat Ent.FW_MAIN_VERSION
  let secs := s.nat Ent.TRIAL_TIME
  let s1 := { s with fw := { s.fw with trial := some ⟨p.slot, old, p.action, s.activeDie, secs, s.ticks, none⟩, ended := none, confirming := false } }
  let s2 := ((s1.setNat Ent.SLOT_STATE p.slot Img.TRIAL).setNat Ent.SLOT_STATE old Img.FALLBACK).setNat Ent.SLOT_VERSION old was
  let s3 := ((s2.setNat Ent.FW_MAIN_VERSION 0 (mfVersion m)).setNat Ent.STATE_FORMAT 0 (mfFormat m)).setBytes Ent.MEAS_MAIN 0 (declared m)
  let s4 := if s.activeDie == 0 then { s3 with die := { s3.die with imageA := declared m } } else { s3 with die := { s3.die with imageB := declared m } }
  (s4.setNat Ent.TRIAL_LEFT 0 secs).showFw.raise Evt.TRIAL_STARTED p.slot (mfVersion m) was

/-- A trial ends: what both ends share. The die given restarts and resynchronises under R78. -/
def State.closeTrial (s : State) (t : Trial) (die : Nat) (confirmed : Bool) : State :=
  let s1 := (if s.standing die == .failed then s else s.setStanding die .off).unboot die
  let s2 := { s1 with
    fw := { s1.fw with trial := none, main := none, ended := some s.frames, confirming := confirmed
                       format := if confirmed then mfFormat (s.manifest t.slot) else s1.fw.format }
    die := { s1.die with mirrorSync := false, resync := none, resyncFails := 0 } }
  ((s2.endRewrap confirmed).setNat Ent.TRIAL_LEFT 0 0)

/-- The trial is confirmed (Table 19-2): cause 0 a client, 1 the time. -/
def State.confirmTrial (s : State) (t : Trial) (cause : Nat) : State :=
  let v := mfVersion (s.manifest t.slot)
  let s1 := s.closeTrial t (1 - t.die) true
  let s2 := ((s1.setNat Ent.SLOT_STATE t.slot Img.RUNNING).setNat Ent.RUNNING_SLOT 0 t.slot).emptySlot t.old
  let level := max s2.fw.rollMain (mfRollback (s2.manifest t.slot))
  let s3 := { s2 with fw := { s2.fw with rollMain := level } }.setNat Ent.ROLLBACK_MAIN 0 level
  s3.showFw.raise Evt.FW_CONFIRMED t.slot v cause

/-- The old image is the running one again (Table 19-2): cause 0 a client, 1 a fault, 2 the time, 3 a start failure. -/
def State.fallBack (s : State) (t : Trial) (cause : Nat) : State :=
  let s1 := s.closeTrial t t.die false
  let s2 := (s1.setNat Ent.SLOT_STATE t.old Img.RUNNING).setNat Ent.SLOT_STATE t.slot Img.VERIFIED
  let v := s2.nat Ent.SLOT_VERSION t.old
  let fmt := if s2.fw.format == 0 then low 16 Config.stateFormat else s2.fw.format
  let s3 := ((s2.setNat Ent.RUNNING_SLOT 0 t.old).setNat Ent.FW_MAIN_VERSION 0 v).setNat Ent.STATE_FORMAT 0 fmt
  (s3.setBytes Ent.MEAS_MAIN 0 (s3.bytes Ent.SLOT_MEASUREMENT t.old)).showFw.raise Evt.FW_FALLBACK t.slot v cause

/-- At a boundary: the fallback asked for before it, by a planned switch-over (R445). Without a synchronised old die a client's is
abandoned as R74 has it, and the time's waits. -/
def State.fallbackBoundary (s : State) : State :=
  match s.fw.trial with
  | some t =>
    match t.back with
    | some cause =>
      if s.die.mirrorSync then s.plannedSwitch.fallBack t cause
      else if cause == 0 then
        ({ s with fw := { s.fw with trial := some { t with back := none } } }).raise Evt.SWAP_ABANDONED s.activeDie (low 32 s.sfn) 0
      else s
    | none => s
  | none => s

/-- What a request of either kind meets (R445): a trial that has ended, none, or the trial. -/
def State.trialStatus (s : State) : Nat :=
  match s.fw.trial with
  | some t => if t.back.isSome then St.ALREADY_DONE else St.OK
  | none => if s.fw.ended == some s.frames then St.ALREADY_DONE else St.CONFLICT

/-- A write of FW_CONFIRM (R445). -/
def applyFwConfirm (s : State) : State × Nat :=
  let st := s.trialStatus
  match s.fw.trial with
  | some t => if st == St.OK then (s.confirmTrial t 0, st) else (s, st)
  | none => (s, st)

/-- FW_CONFIRM (R445). -/
def execFwConfirm (c : Client) (v : Nat) (s : State) : Host.Outcome State Fault Refusal :=
  ok (s.clientCommand c Ent.FW_CONFIRM 0 (.num v) applyFwConfirm)

/-- A write of FW_FALLBACK (R445, R74): the planned switch-over follows at the next boundary. -/
def applyFwFallback (s : State) : State × Nat :=
  let st := s.trialStatus
  match s.fw.trial with
  | some t =>
    if st != St.OK then (s, st)
    else if !s.die.mirrorSync then (s, St.CONFLICT)
    else ({ s with fw := { s.fw with trial := some { t with back := some 0 } } }, St.OK)
  | none => (s, st)

/-- FW_FALLBACK (R445). -/
def execFwFallback (c : Client) (v : Nat) (s : State) : Host.Outcome State Fault Refusal :=
  ok (s.clientCommand c Ent.FW_FALLBACK 0 (.num v) applyFwFallback)

/-- TRIAL_LEFT counts down, and the confirmation's last restart shows, at a boundary. -/
def State.trialFrame (s : State) : State :=
  let s0 := if s.fw.confirming && s.die.mirrorSync then { s with fw := { s.fw with confirming := false } }.showFw else s
  match s0.fw.trial with
  | some t =>
    if s0.ticks ≥ t.tick + secTicks 1 && decide (0 < t.left) then
      { s0 with fw := { s0.fw with trial := some { t with left := t.left - 1, tick := t.tick + secTicks 1 } } }.setNat Ent.TRIAL_LEFT 0 (t.left - 1)
    else s0
  | none => s0

/-- TRIAL_TIME_EXPIRY (R445): by TRIAL_POLICY the trial is confirmed, or a planned switch-over back follows. -/
def execTrialTimeExpiry (s : State) : Host.Outcome State Fault Refusal :=
  match s.fw.trial with
  | some t =>
    if t.back.isSome || t.left != 0 then ok s
    else if s.nat Ent.TRIAL_POLICY == 1 then ok (s.confirmTrial t 1)
    else ok { s with fw := { s.fw with trial := some { t with back := some 2 } } }
  | none => ok s

/-- SWITCH_OVER (R71): recorded at the next cycle 0 after acceptance. A switch-over away from the trial's die is the fallback on a
fault (Table 19-2); one to a standby that is PREPARED starts its trial (Table 19-3). -/
def execSwitchOver (s : State) : Host.Outcome State Fault Refusal :=
  match s.die.switch with
  | none => ok s
  | some w =>
    if s.cycle != 0 then ok s
    else
      let s1 := s.settleSwitch w
      match s.fw.trial, s.fw.main with
      | some t, _ => if w.fromDie == t.die then ok (s1.fallBack t 1) else ok s1
      | none, some p => if p.done then ok (s1.beginTrial p) else ok s1
      | none, none => ok s1

/-- A metering die changes to the bank of a slot (R450). -/
def State.changeBank (s : State) (d slot : Nat) : State :=
  let m := s.manifest slot
  let s1 := if d == 0 then
      ({ s with fw := { s.fw with bank0 := slot } }.setBytes Ent.MEAS_LEGAL_M0 0 (declared m)).setNat Ent.LEGAL_CHECK_VALUE 0 (mfCheck m)
    else ({ s with fw := { s.fw with bank1 := slot } }.setBytes Ent.MEAS_LEGAL_M1 0 (declared m)).setNat Ent.LEGAL_CHECK_VALUE_M1 0 (mfCheck m)
  ((s1.when s1.keys.held (fun z => z.issueCert (2 + d))).legalLog 5 (2 + d) 0xFFFF (mfVersion m) (mfCheck m)).raise
    Evt.LEGAL_ACTIVATED (2 + d) (mfVersion m) (mfCheck m)

/-- LEGAL_ACTIVATION_M0 (R450): at the boundary of S + LEGAL_STAGGER M0 changes and the slot is the running one. -/
def execLegalActivationM0 (s : State) : Host.Outcome State Fault Refusal :=
  match s.fw.stagger with
  | none => ok s
  | some g =>
    if s.cycle != 0 || s.sfn < g.till then ok s
    else
      let m := s.manifest g.slot
      let level := max s.fw.rollLegal (mfRollback m)
      let s1 := (s.changeBank 0 g.slot).setNat Ent.FW_LEGAL_VERSION 0 (mfVersion m)
      let s2 := { s1 with fw := { s1.fw with stagger := none, rollLegal := level } }.setNat Ent.ROLLBACK_LEGAL 0 level
      ok (((s2.setNat Ent.SLOT_STATE g.slot Img.RUNNING).setNat Ent.SLOT_STATE g.old Img.VERIFIED).setNat Ent.RUNNING_LEGAL_SLOT 0 g.slot).showFw

/-- M1 changes at S and the stagger begins (R450). -/
def State.activateLegal (s : State) (p : Prep) : State :=
  let s1 := s.changeBank 1 p.slot
  let s2 := { s1 with fw := { s1.fw with legal := none, stagger := some ⟨p.slot, s.nat Ent.RUNNING_LEGAL_SLOT, p.action,
    s.sfn + s.nat Ent.LEGAL_STAGGER⟩ } }
  (s2.when s2.die.m1Failed (fun z => z.abandonStagger 0)).showFw

/-- An FW_ACTIVATE at step 4 of its boundary (R442 to R444, R450, R452): its RESULT. -/
def State.activateFw (s : State) (a : Nat) : State × Nat :=
  let slot := s.actSlot a
  let main := decide (slot < 2)
  let twin := (List.range 1024).any (fun k => k != a && s.aState k == Act.EXECUTED && s.aType k == ActType.FW_ACTIVATE &&
    s.aSfn k == s.aSfn a && decide (s.actSlot k < 2) == main)
  if twin then (s, St.CONFLICT)
  else if main then
    match s.fw.trial, s.fw.main with
    | some t, some p => if p.action == a && t.slot == p.slot then ({ s with fw := { s.fw with main := none } }.showFw, St.OK) else (s, St.CONFLICT)
    | some _, none => (s, St.CONFLICT)
    | none, some p =>
      if p.action == a && p.done && s.die.mirrorSync then
        (({ s with fw := { s.fw with main := none } }.plannedSwitch).beginTrial p, St.OK)
      else if p.action == a then (({ s with fw := { s.fw with main := none } }).showFw, St.BUSY)
      else (s, St.BUSY)
    | none, none => (s, St.BUSY)
  else
    match s.fw.legal with
    | some p => if p.action == a && p.done then (s.activateLegal p, St.OK)
      else if p.action == a then ({ s with fw := { s.fw with legal := none } }.showFw, St.BUSY) else (s, St.BUSY)
    | none => (s, St.BUSY)

/-- Whether an action that is due may go on at S − DECIDE_LEAD (R442): an FW_ACTIVATE only when it is PREPARED. -/
def State.prepared (s : State) (a : Nat) : Bool :=
  let mine (p : Option Prep) : Bool := match p with | some q => q.action == a && q.done | none => false
  s.aType a != ActType.FW_ACTIVATE || (mine s.fw.main && s.die.mirrorSync) || mine s.fw.legal ||
    (match s.fw.trial with | some t => t.action == a | none => false)

/-- DECIDE_POINT (R54, R442): all READY, and an activation PREPARED, sends GO; otherwise each silent unit is reported and the action
cancelled. A SET_SWAP whose pending caps have not all been answered is not announced yet, so every unit is silent (R159). -/
def execDecidePoint (i : Fin 1024) (s : State) : Host.Outcome State Fault Refusal :=
  let g := s.group i
  if s.aState i == Act.ARMED && s.aGroup i != 0 && s.bus.pendingCaps.any (fun p => p.1 == i.val) &&
      decide (s.aSfn i ≤ s.sfn + s.nat Ent.ACTION_DECIDE_LEAD i) then
    let s1 := { s with bus := { s.bus with pendingCaps := s.bus.pendingCaps.filter (fun p => p.1 != i.val) } }
    ok ((s1.notReady i (g.parts.map Part.unit) St.BUSY).cancelGroup i St.BUSY)
  else if s.aState i == Act.ANNOUNCED && decide (s.aSfn i ≤ s.sfn + s.nat Ent.ACTION_DECIDE_LEAD i) then
    if g.parts.all Part.ready && s.prepared i then
      ok (((s.setNat Ent.ACTION_STATE i Act.GO).sendTwoPhase i Two.GO (g.parts.map Part.unit)).setGroup i { g with lastSent := s.frames })
    else ok ((s.notReady i ((g.parts.filter (fun p => !p.ready)).map Part.unit) St.BUSY).cancelGroup i St.BUSY)
  else ok s

/-- A write of RECOVERY_BOOT (R448): both control dies restart from the slot, which is the running one at once. -/
def applyRecoveryBoot (v : Nat) (s : State) : State × Nat :=
  if v ≥ 2 then (s, St.RANGE)
  else if !(s.devState == Dev.RECOVERY || s.devState == Dev.TEST) || s.nat Ent.SLOT_STATE v != Img.VERIFIED then (s, St.CONFLICT)
  else
    let m := s.manifest v
    let old := s.nat Ent.RUNNING_SLOT
    let level := max s.fw.rollMain (mfRollback m)
    let s1 := { s.endRewrap (s.keys.rewrap == some (declared m)) with fw := { s.fw with rollMain := level, trial := none, format := mfFormat m, wrapping := none } }.setNat
      Ent.ROLLBACK_MAIN 0 level
    let s2 := ((s1.setNat Ent.SLOT_STATE v Img.RUNNING).setNat Ent.RUNNING_SLOT 0 v).setNat Ent.FW_MAIN_VERSION 0 (mfVersion m)
    let s3 := if old == v || decide (old ≥ 2) then s2
      else if mfRollback (s.manifest old) ≥ level then s2.setNat Ent.SLOT_STATE old Img.VERIFIED else s2.emptySlot old
    ({ s3 with plant := { s3.plant with toRecovery := false } }.restartBoth 4, St.OK)

/-- RECOVERY_BOOT (R448). -/
def execRecoveryBoot (c : Client) (v : Nat) (s : State) : Host.Outcome State Fault Refusal :=
  ok (s.clientCommand c Ent.RECOVERY_BOOT 0 (.num v) (applyRecoveryBoot v))

end Sys2Proof.Machine
end

