-- ==== Sys2Proof/Machine/SiteTime.lean ====
section
/-!
DEFINITION. Site time (R27 to R40): states, error estimate, PTP, leap seconds, corrections by slew and step, and the
backup counter.
-/
namespace Sys2Proof.Machine
open Sys2Proof

/-- Codes of Table 2-1. -/
def TimeState.code : TimeState → Nat
  | .unset => 0 | .set => 1 | .acquiring => 2 | .locked => 3 | .holdover => 4

/-- The device is PTP grandmaster (R27): always in mode 0, without a better upstream clock in mode 1, never in 2. -/
def State.isGrandmaster (s : State) : Bool :=
  s.nat Ent.TIME_SOURCE_MODE == 0 || (s.nat Ent.TIME_SOURCE_MODE == 1 && s.time.master.isNone)

/-- The error estimate on entering a state (R29). -/
def entryErrorPs (t : TimeState) (old : Nat) : Nat :=
  match t with
  | .locked => 1000000
  | .set => 0
  | _ => old

/-- Move to a state of site time, raising TIME_STATE_CHANGE where it changes (R28). -/
def State.setTimeState (s : State) (t : TimeState) : State :=
  let s1 := { s with time := { s.time with state := t, errorPs := entryErrorPs t s.time.errorPs
                                           known := s.time.known || t == .set || t == .locked } }
  if s.time.state = t then s1 else s1.raise Evt.TIME_STATE_CHANGE 0 s.time.state.code t.code

/-- TIME_ERROR_HIGH (R29): set, with its event, when the estimate comes to exceed the limit, or set by a start whose event is due;
cleared at or below it. -/
def State.evalTimeError (s : State) : State :=
  let limit := s.nat Ent.HOLDOVER_ERROR_LIMIT * 1000000
  let high := decide (s.time.errorPs > limit)
  let s1 := { s with time := { s.time with errorHigh := high, errorDue := false } }
  if high && (!s.time.errorHigh || s.time.errorDue) then
    s1.raise Evt.TIME_ERROR_HIGH 0 (s.time.errorPs / 1000000) (s.nat Ent.HOLDOVER_ERROR_LIMIT)
  else s1

/-- clockClass announced (Table 2-2). -/
def State.clockClass (s : State) : Nat :=
  match s.time.state with
  | .set | .locked => 13
  | .holdover => if s.time.errorHigh then 52 else 7
  | .unset | .acquiring => 248

/-- CLOCK_CLASS of TIME_STATUS: announced, or received when following. -/
def State.shownClass (s : State) : Nat :=
  match s.time.master with
  | some a => a.clockClass
  | none => s.clockClass

/-- Variation of the last peer delays: greatest less least. -/
def delayVariation (l : List Nat) : Option Nat :=
  match l with
  | [] => none
  | d :: r => some (r.foldl max d - r.foldl min d)

/-- The port followed on selection (R32): the lower peer delay variation, the port heard where they do not differ. -/
def State.bestPort (s : State) (heard : Fin 2) : Nat :=
  match delayVariation s.time.delays0, delayVariation s.time.delays1 with
  | some a, some b => if a < b then 0 else if b < a then 1 else heard.val
  | _, _ => heard.val

/-- Whether data set `a` is better than `b` in the best master clock algorithm: the fields in order, less is better. -/
def betterClock : List Nat → List Nat → Bool
  | x :: xs, y :: ys => decide (x < y) || (x == y && betterClock xs ys)
  | _, _ => false

def announceKey (a : Announce) : List Nat :=
  [a.priority1, a.clockClass, a.accuracy, a.variance, a.priority2, a.clockId, a.stepsRemoved]

/-- The device's own data set in that comparison. -/
def State.ownKey (s : State) : List Nat :=
  [s.nat Ent.PTP_PRIORITY1, s.clockClass, Config.clockAccuracy, Config.clockVariance, s.nat Ent.PTP_PRIORITY2,
    Config.clockIdentity, 0]

/-- The device gives up the clock it follows: LOCKED becomes HOLDOVER; an acquisition under way stays ACQUIRING without a clock. -/
def State.loseMaster (s : State) : State :=
  let s1 := { s with time := { s.time with master := none, upstream := 0, syncRun := 0, heard0 := none, heard1 := none } }
  if s.time.state == .locked then s1.setTimeState .holdover else s1

/-- A new active set: in mode 0 the device follows no clock (R27). -/
def State.placeTime (s : State) : State :=
  s.when (s.nat Ent.TIME_SOURCE_MODE == 0 && s.time.master.isSome) State.loseMaster

/-- PTP_ANNOUNCE (R27, R31, R33): the best master clock algorithm selects the clock to follow; a selected clock's
offset and leap indicators are taken over. In mode 1 a followed clock that is no longer better than the device's own is given up. -/
def execPtpAnnounce (port : Fin 2) (a : Announce) (s : State) : Host.Outcome State Fault Refusal :=
  let mode := s.nat Ent.TIME_SOURCE_MODE
  if mode == 0 || a.domain != s.nat Ent.PTP_DOMAIN then ok s
  else
    let same := match s.time.master with
      | some m => m.clockId == a.clockId
      | none => false
    let better := match s.time.master with
      | some m => betterClock (announceKey a) (announceKey m)
      | none => mode == 2 || betterClock (announceKey a) s.ownKey
    if same && mode == 1 && !betterClock (announceKey a) s.ownKey then ok s.loseMaster
    else if !(same || better) then ok s
    else
      let t := s.time
      let t1 : TimeSt := { t with
        master := some a
        upstream := if same then t.upstream else s.bestPort port + 1
        syncRun := if same then t.syncRun else 0
        heard0 := if port.val == 0 then some s.ticks else if same then t.heard0 else none
        heard1 := if port.val == 1 then some s.ticks else if same then t.heard1 else none }
      let s1 := { s with time := t1 }
      let s2 := if same && (t.state == .locked || t.state == .acquiring) then s1 else s1.setTimeState .acquiring
      let leap : Int := if a.leap61 then 1 else if a.leap59 then -1 else 0
      ok ((s2.fitInt Ent.TAI_UTC_OFFSET 0 a.utcOffset).setInt Ent.LEAP_PENDING 0 leap)

/-- Corrections counted at this instant (R36): those of the last 24 h. -/
def State.liveCorrections (s : State) : List (Nat × Nat) :=
  s.time.corrections.filter (fun c => decide (s.ticks < c.1 + dayTicks))

/-- The sum of their magnitudes in ns. -/
def corrSum (l : List (Nat × Nat)) : Nat := l.foldl (fun a c => a + c.2) 0

/-- Apply a correction of `d` ns at this boundary (R36, R37): by slew when both bounds of 30 s hold, else by a step at
the next boundary; an unfinished slew is dropped. -/
def State.correct (s : State) (d : Int) : State :=
  let live := s.liveCorrections
  let mag := d.natAbs
  let slews := decide (mag ≤ 30000000000) && decide (mag + corrSum live ≤ 30000000000)
  let counted := (s.ticks, mag) :: live
  let s1 := { s with time := { s.time with
    corrections := counted
    slewNs := if slews then d else 0
    stepNs := if slews then s.time.stepNs else some (d, s.ticks) } }
  s1.fitNat Ent.CORRECTION_24H 0 (corrSum counted / 1000000)

/-- PTP_SYNC (R28, R36): while acquiring, 16 consecutive offsets below 1 µs lock; a larger one is corrected as R36
says. The offset is site time less the upstream clock's time. -/
def execPtpSync (port : Fin 2) (offset : Int) (s : State) : Host.Outcome State Fault Refusal :=
  if s.nat Ent.TIME_SOURCE_MODE == 0 || s.time.master.isNone || s.time.upstream != port.val + 1 || s.time.state != .acquiring then ok s
  else if offset.natAbs < 1000 then
    let s1 := { s with time := { s.time with syncRun := s.time.syncRun + 1 } }
    if s1.time.syncRun ≥ 16 then ok ((s1.setTimeState .locked).evalTimeError) else ok s1
  else
    let s1 := { s with time := { s.time with syncRun := 0 } }
    if s.time.slewNs == 0 && s.time.stepNs.isNone then ok (s1.correct (-offset)) else ok s1

/-- The link die half of an Ethernet port works: port 0 on half A, port 1 on half B (Table 3-5). -/
def State.portUp (s : State) (p : Nat) : Bool := if p == 0 then s.die.lkA else s.die.lkB

/-- PTP_PDELAY (R31, R32): a neighbour's request is answered on its port; a response completes an exchange of the device's own, and its
path delay joins the last 16. -/
def execPtpPdelay (port : Fin 2) (m : PdelayMsg) (s : State) : Host.Outcome State Fault Refusal :=
  match m with
  | .request =>
    ok (s.when (s.portUp port) (fun z => z.send ⟨.ptp, port, .pdelay, [s.nat Ent.PTP_DOMAIN, 1, s.sfn, s.cycle * 50000], []⟩))
  | .response delay =>
    if port.val == 0 then ok { s with time := { s.time with delays0 := (delay :: s.time.delays0).take 16 } }
    else ok { s with time := { s.time with delays1 := (delay :: s.time.delays1).take 16 } }

/-- Pdelay_Req on each port, every second (R31, Table 2-2). -/
def State.sendPdelays (s : State) : State :=
  s.when (s.ticks % 20000 == 0) fun z =>
    z.each ([0, 1].filter z.portUp) (fun y p => y.send ⟨.ptp, p, .pdelay, [y.nat Ent.PTP_DOMAIN, 0], []⟩)

/-- ANNOUNCE_TIMEOUT (R28, R32): the selected clock has been silent on the port for 3 announce intervals. The other
port serves where it still hears the clock; otherwise the clock is given up, and LOCKED becomes HOLDOVER. -/
def execAnnounceTimeout (port : Fin 2) (s : State) : Host.Outcome State Fault Refusal :=
  if s.time.master.isNone || s.time.upstream != port.val + 1 then ok s
  else
    let other := if port.val == 0 then s.time.heard1 else s.time.heard0
    let alive := match other with
      | some t => decide (s.ticks ≤ t + secTicks 3)
      | none => false
    if alive then ok { s with time := { s.time with upstream := 2 - port.val } } else ok s.loseMaster

/-- PTP_SYNC_TRANSMIT (R32, Table 2-2): as grandmaster, a Sync (two-step, with its follow-up time) and an Announce on
each port whose link die half works. The Announce carries the clock's data set: domain, priority1, clockClass, accuracy, variance,
priority2, identity, stepsRemoved, timeSource, currentUtcOffset and the leap indicators. -/
def execPtpSyncTransmit (s : State) : Host.Outcome State Fault Refusal :=
  if !s.isGrandmaster then ok s
  else
    let ann : List Int := [s.nat Ent.PTP_DOMAIN, s.nat Ent.PTP_PRIORITY1, s.clockClass, Config.clockAccuracy,
      Config.clockVariance, s.nat Ent.PTP_PRIORITY2, Config.clockIdentity, 0, 0xA0,
      s.int Ent.TAI_UTC_OFFSET, b2n (decide (s.int Ent.LEAP_PENDING > 0)), b2n (decide (s.int Ent.LEAP_PENDING < 0))]
    ok (s.each ([0, 1].filter s.portUp) (fun z p =>
      (z.send ⟨.ptp, p, .sync, [s.nat Ent.PTP_DOMAIN, s.sfn, s.cycle * 50000], []⟩).send ⟨.ptp, p, .announcePtp, ann, []⟩))

/-- The condition under which TIME_SET is accepted (R35). -/
def State.timeSetAllowed (s : State) : Bool :=
  s.nat Ent.TIME_SOURCE_MODE == 0 || (s.nat Ent.TIME_SOURCE_MODE == 1 && s.isGrandmaster)

/-- A TIME_SET at step 2 of the boundary into the present frame (R35): the correction is written time less site time
at that boundary. -/
def applyTimeSet (sfn ns : Nat) (s : State) : State × Nat :=
  if !s.timeSetAllowed then (s, St.CONFLICT)
  else
    let d : Int := ((sfn : Int) - s.sfn) * 1000000 + ns
    (((s.correct d).setTimeState .set).evalTimeError, St.OK)

/-- TIME_SET (R35). -/
def execTimeSet (c : Client) (sfn : Nat) (ns : Nat) (s : State) : Host.Outcome State Fault Refusal :=
  ok (s.clientCommand c Ent.TIME_SET 0 (.bytes (time64 sfn ns)) (applyTimeSet sfn ns))

/-- In the first frame of a new SFN the grant in force of every unit is sent again (R162). -/
def State.restateAll (s : State) : State :=
  s.each ((List.range 80).filter s.fitted) fun z u =>
    let y := z.setGrants u { z.grants u with restate := true }
    if 64 ≤ u then y.setGrants (u + 16) { y.grants (u + 16) with restate := true } else y

/-- TIME_STEP (R37, R40): at the boundary after the applying one the frames are renumbered by the correction rounded
to whole frames, halves away from zero; the remainder is slewed. Sweeps under way are abandoned (R248). -/
def execTimeStep (s : State) : Host.Outcome State Fault Refusal :=
  match s.time.stepNs with
  | none => ok s
  | some (d, t) =>
    if s.cycle != 0 || s.ticks < t + 20 then ok s
    else
      let k : Int := ratRound ((d : Rat) / 1000000)
      let ms : Int := max (-2147483647) (min 2147483647 k)
      let s1 := { s with
        sfn := ((s.sfn : Int) + k).toNat % 2 ^ 64
        time := { s.time with stepNs := none, stepDay := some s.ticks, slewNs := d - k * 1000000,
                              flagMark := 15, flagEusor := true, flagPrebex := true }
        radio := { s.radio with cur := none, due := none } }
      let s2 := ((s1.eachSession (fun k => { k with stepped := true })).restateAll.raise Evt.TIME_SHIFT 0 (word 32 ms) (low 32 (s.sfn + (2 ^ 64 - 1)))).legalLog 11 4 0xFFFF (word 32 ms)
        (low 32 (s.sfn + (2 ^ 64 - 1)))
      ok ({ s2 with bill := { s2.bill with stepped := true } }.each s.enabledPoints (fun z pt => z.markPoint pt 5))

/-- STEP_LAST_DAY_END (R37): 24 h after a step the flag clears. -/
def execStepLastDayEnd (s : State) : Host.Outcome State Fault Refusal :=
  match s.time.stepDay with
  | some t => if s.ticks ≥ t + dayTicks then ok { s with time := { s.time with stepDay := none } } else ok s
  | none => ok s

/-- LEAP_SECOND (R33): UTC changes and nothing else; LEAP_PENDING clears. -/
def execLeapSecond (s : State) : Host.Outcome State Fault Refusal :=
  let l := s.int Ent.LEAP_PENDING
  if l == 0 then ok s
  else
    let s1 := (s.fitInt Ent.TAI_UTC_OFFSET 0 (s.int Ent.TAI_UTC_OFFSET + l)).setInt Ent.LEAP_PENDING 0 0
    ok (s1.raise Evt.LEAP_SECOND 0 (word 32 l) (word 32 (s1.int Ent.TAI_UTC_OFFSET)))

/-- Write site time to the key die's backup counter (R34). -/
def State.writeBackup (s : State) : State :=
  { s with time := { s.time with backupValid := true, backupSfn := s.sfn, backupErrorPs := s.time.errorPs, backupTick := s.ticks } }

/-- BACKUP_COUNTER_WRITE (R34): while site time is LOCKED or SET. -/
def execBackupCounterWrite (s : State) : Host.Outcome State Fault Refusal :=
  if s.time.state == .locked || s.time.state == .set then ok s.writeBackup else ok s

/-- One frame of site time at a boundary (R29, R36, R489): the error grows in HOLDOVER and SET, on the internal
oscillator by at least 50,000 ppb, the slew moves by at most
350 ns, corrections older than 24 h leave the sum. -/
def State.frameTime (s : State) : State :=
  let grow := s.time.state == .holdover || s.time.state == .set
  let e := if grow then s.time.errorPs + max (s.nat Ent.REFCLK_STABILITY) (if s.nat Ent.REFCLK_STATE == 1 then 50000 else 0) else s.time.errorPs
  let d : Int := max (-350) (min 350 s.time.slewNs)
  let live := s.liveCorrections
  let s1 := { s with time := { s.time with errorPs := e, slewNs := s.time.slewNs - d, corrections := live, storedSfn := s.sfn } }
  ((s1.fitNat Ent.CORRECTION_24H 0 (corrSum live / 1000000)).fitNat Ent.EST_TIME_ERROR 0 (e / 1000)).evalTimeError

/-- TIME_STATUS (Table 2-10). -/
def State.timeStatus (s : State) : Nat :=
  pack [(0, 3, s.time.state.code), (3, 1, b2n s.isGrandmaster), (4, 2, s.time.upstream),
    (6, 1, b2n (s.time.slewNs != 0)), (7, 1, b2n s.die.tickB), (8, 1, b2n (s.int Ent.LEAP_PENDING != 0)),
    (9, 1, b2n s.time.stepDay.isSome), (10, 1, b2n s.time.errorHigh), (16, 8, s.shownClass)]

end Sys2Proof.Machine
end

