-- ==== Sys2Proof/Machine/Connections.lean ====
section
/-!
DEFINITION. Client connections, event delivery and the commands on the configuration sets (R88, R92, R101 to R104).
-/
namespace Sys2Proof.Machine
open Sys2Proof

/-- The role an anchor grants (R425): ANCHOR_ROLE 0 READER to 3 SERVICE. -/
def roleOf : Nat → Option Role
  | 0 => some .reader
  | 1 => some .operator
  | 2 => some .engineer
  | 3 => some .service
  | _ => none

/-- RECOVERY or TEST. -/
def State.inRecovery (s : State) : Bool := s.nat Ent.DEVICE_STATE == Dev.RECOVERY || s.nat Ent.DEVICE_STATE == Dev.TEST

/-- The role a chain to an anchor takes: 16 is the Knajo service root, which counts in RECOVERY and TEST only, where READER and
OPERATOR anchors count for nothing (R425, R463). -/
def State.chainRole (s : State) (x : Nat) : Option Role :=
  if x == 16 then (if s.inRecovery then some .service else none)
  else if x > 16 then none
  else match roleOf (s.nat Ent.ANCHOR_ROLE x) with
    | some r => if s.inRecovery && (r == .reader || r == .operator) then none else some r
    | none => none

/-- The cause for which a chain is refused (R425): 0 no chain to an anchor of a client role, 1 anchor disabled,
2 outside validity, which is not checked while site time is UNSET. -/
def State.chainRefusal (s : State) (o : ConnOpen) : Option Nat :=
  match o.anchor with
  | none => some 0
  | some x =>
    if (s.chainRole x).isNone then some 0
    else if x < 16 && !s.flag Ent.ANCHOR_ENABLE x then some 1
    else if s.time.state != .unset && !o.valid then some 2
    else none

/-- The dictionary service answers on an interface (R412, R430, R462, R463): the key it presents is held, the service port is served
with link die half A, in RECOVERY and TEST whatever SERVICE_PORT_ENABLE says, site Ethernet is not. -/
def State.mayServe (s : State) (service : Bool) : Bool :=
  let st := s.nat Ent.DEVICE_STATE
  if st == Dev.RECOVERY || st == Dev.TEST then service && s.die.lkA && !s.keys.burnt
  else s.keys.held && (!service || (s.die.lkA && s.flag Ent.SERVICE_PORT_ENABLE))

/-- CONNECTION_OPEN (R101, R425): the service listens on DICT_PORT of the active set, on both interfaces; at most 16 connections on site Ethernet and 1 on the service port; one beyond them,
or one whose chain is refused, is closed. -/
def execConnectionOpen (conn : Nat) (o : ConnOpen) (s : State) : Host.Outcome State Fault Refusal :=
  let same := (s.tx.conns.filter (fun k => k.2.service == o.service)).length
  if !s.mayServe o.service || o.port != s.nat Ent.DICT_PORT then ok s
  else match s.chainRefusal o with
  | some cause => ok (s.raise Evt.CLIENT_REFUSED (b2n o.service) cause (low 32 o.digest))
  | none =>
    if (Tab.find s.tx.conns conn).isSome || same ≥ (if o.service then 1 else 16) then ok s
    else match o.anchor.bind s.chainRole with
      | none => ok s
      | some r => ok { s with tx := { s.tx with conns := Tab.set s.tx.conns conn ⟨o.service, r, o.identity, o.digest, none, []⟩ } }

/-- CONNECTION_CLOSE (R101): the connection goes; what it asked for goes on, and kept answers stay (R100). -/
def execConnectionClose (conn : Nat) (s : State) : Host.Outcome State Fault Refusal :=
  ok { s with tx := { s.tx with conns := Tab.erase s.tx.conns conn } }

/-- PEER_CONNECT (R104): the device connects to an enabled peer as a client. -/
def execPeerConnect (e : Fin 32) (accepted : Bool) (s : State) : Host.Outcome State Fault Refusal :=
  if s.flag Ent.PEER_ENABLED e then ok (s.setNat Ent.PEER_STATE e (if accepted then 2 else 3))
  else ok (s.setNat Ent.PEER_STATE e 0)

/-- PEER_STATE follows PEER_ENABLED (R104): a peer just enabled is being connected to. -/
def State.placePeers (s : State) : State :=
  s.each (List.range 32) fun z e =>
    if !z.flag Ent.PEER_ENABLED e then z.setNat Ent.PEER_STATE e 0
    else z.when (z.nat Ent.PEER_STATE e == 0) (fun y => y.setNat Ent.PEER_STATE e 1)

/-- A client operation that changes nothing and is answered at once: connection, header and tag (R96, R102). -/
def State.admitQuery (s : State) (c : Client) (op : Nat) (go : State → Conn → Nat → State) : State :=
  match Tab.find s.tx.conns c.conn with
  | none => s
  | some k =>
    if (headerStatus c) != St.OK then s.badHeader c op
    else match s.tx.freeTag c.conn with
      | none => (s.send (answerMsg c.conn op c.reqId St.BUSY 0xFFFF false [])).bump Ent.BUSY_REFUSALS
      | some t => (go (s.takeTag t (some c.conn)) k t).dropTag t

/-- Answer a query. -/
def State.reply (s : State) (c : Client) (op tag status : Nat) (body : List Byte) (more : Bool := false) : State :=
  s.send (answerMsg c.conn op c.reqId status tag false body more)

/-- Steps from one log sequence to another: after 0xFFFF_FFFF follows 1 (R509). -/
def seqSteps (a b : Nat) : Nat := (b + 0xFFFFFFFF - a % 0xFFFFFFFF) % 0xFFFFFFFF

/-- The log records of an EVENT_READ, oldest first, from the sequence asked for; from the oldest where that is older (R103). A sequence beyond
the newest by less than half the numbers is later than every record. -/
def EventSt.from_ (e : EventSt) (first count : Nat) : List EventRec :=
  let l := e.log.reverse
  match l.head?, e.log.head? with
  | some o, some n =>
    let at_ := seqSteps o.seq first
    if first == 0 then l.take count
    else if at_ ≤ seqSteps o.seq n.seq then (l.drop at_).take count
    else if seqSteps n.seq first < 0x80000000 then [] else l.take count
  | _, _ => []

/-- Records as an EVENT_READ response carries them. -/
def recordBody (l : List EventRec) : List Byte := l.foldr (fun r acc => leBytes 4 r.seq ++ r.bytes ++ acc) []

/-- EVENT_READ (R103): up to 36 records from the requested sequence, from the oldest where that is gone. -/
def execEventRead (c : Client) (first : Nat) (count : Nat) (s : State) : Host.Outcome State Fault Refusal :=
  ok (s.admitQuery c Op.EVENT_READ fun s1 _ t =>
    if count > 36 then s1.reply c Op.EVENT_READ t St.RANGE []
    else s1.reply c Op.EVENT_READ t St.OK (recordBody (s1.ev.from_ first count)))

/-- EVENT_SUBSCRIBE (Table 4-4): a lowest severity 0–3, or 0xFF to end. -/
def execEventSubscribe (c : Client) (severity : Nat) (s : State) : Host.Outcome State Fault Refusal :=
  ok (s.admitQuery c Op.EVENT_SUBSCRIBE fun s1 k t =>
    if severity > 3 && severity != 0xFF then s1.reply c Op.EVENT_SUBSCRIBE t St.RANGE []
    else
      let sub := if severity == 0xFF then none else some severity
      let k1 := { k with subscription := sub, behind := if severity == 0xFF then [] else k.behind }
      ({ s1 with tx := { s1.tx with conns := Tab.set s1.tx.conns c.conn k1 } }).reply c Op.EVENT_SUBSCRIBE t St.OK [])

/-- Give the events of the frame before to every subscription (R103), as a frame begins; those of its own cycle 0 wait. -/
def State.queueNotifications (s : State) : State :=
  let due := s.ev.fresh.filter (fun r => r.sfn != s.sfn)
  { s with
    ev := { s.ev with fresh := s.ev.fresh.filter (fun r => r.sfn == s.sfn), due := due }
    tx := { s.tx with conns := s.tx.conns.map (fun k => match k.2.subscription with
      | some sev => (k.1, { k.2 with behind := k.2.behind ++ (due.reverse).filter (fun r => decide (sev ≤ r.severity)) })
      | none => k) } }

/-- EVENT_NOTIFY (R103): the connection takes up to `delivered` of the records waiting on it, at most 36 a
notification; more than 256 waiting ends the subscription with status CANCELLED. -/
def execEventNotify (conn : Nat) (delivered : Nat) (s : State) : Host.Outcome State Fault Refusal :=
  match Tab.find s.tx.conns conn with
  | none => ok s
  | some k =>
    if k.subscription.isNone then ok s
    else if k.behind.length > 256 then
      ok (({ s with tx := { s.tx with conns := Tab.set s.tx.conns conn { k with subscription := none, behind := [] } } }).send
        ⟨.client, conn, .eventNotify, [(St.CANCELLED : Int)], []⟩)
    else
      let n := min 36 delivered
      ok (({ s with tx := { s.tx with conns := Tab.set s.tx.conns conn { k with behind := k.behind.drop n } } }).send
        ⟨.client, conn, .eventNotify, [(St.OK : Int)], recordBody (k.behind.take n)⟩)

/-- SET_SWAP_NOW (R88): a swap is asked for at this boundary's step 3; the answer is the swap's status. -/
def execSetSwapNow (c : Client) (s : State) : Host.Outcome State Fault Refusal :=
  let e := Ent.SET_SWAP_NOW
  ok (s.receiveRequest c Op.WRITE [e.item 0 (.num 1)] (fun s1 h => (s1, s1.clientReceipt e 0 (e.item 0 (.num 1)) h, [])) fun s1 h =>
    if s1.applying then { s1.noteApplied h with swapAsks := s1.swapAsks ++ [⟨some h, 0⟩] } else s1.hold h)

/-- The writes of a frame in which the shadow set changes from one table to another: every P value that stood or stands apart from its default. -/
def State.rewrite (s : State) (old new : Tab Val) : List (Nat × Nat × Val) :=
  (Tab.keys old ++ (Tab.keys new).filter (fun k => (Tab.find old k).isNone)).foldl (fun l k =>
    match findEntry (k / 256) (k % 256) with
    | some f => if f.e.persist == .persistent then l ++ [(s.shdStore, k, (Tab.find new k).getD (f.e.default f.n))] else l
    | none => l) s.writes

/-- A write of 1 to SHADOW_COPY at step 2 (R92). -/
def applyShadowCopy (v : Int) (s : State) : State × Nat :=
  if v == 0 then (s, St.OK) else ({ s with shdSet := s.actSet, digestStale := true, writes := s.rewrite s.shdSet s.actSet }, St.OK)

/-- Whether the entry at a key is an LEG one. -/
def isLegKey (k : Nat) : Bool :=
  match findEntry (k / 256) (k % 256) with
  | some f => f.e.access == .leg
  | none => false

/-- A write of 1 to SHADOW_DEFAULTS at step 2 (R92): RWS shadow values go to their defaults, LEG ones stay. -/
def applyShadowDefaults (v : Int) (s : State) : State × Nat :=
  if v == 0 then (s, St.OK)
  else
    let t := s.shdSet.filter (fun x => isLegKey x.1)
    ({ s with shdSet := t, digestStale := true, writes := s.rewrite (s.shdSet.filter (fun x => !isLegKey x.1)) t }, St.OK)

/-- SHADOW_COPY (R92). -/
def execShadowCopy (c : Client) (s : State) : Host.Outcome State Fault Refusal :=
  ok (s.clientCommand c Ent.SHADOW_COPY 0 (.num 1) (applyShadowCopy 1))

/-- SHADOW_DEFAULTS (R92). -/
def execShadowDefaults (c : Client) (s : State) : Host.Outcome State Fault Refusal :=
  ok (s.clientCommand c Ent.SHADOW_DEFAULTS 0 (.num 1) (applyShadowDefaults 1))

end Sys2Proof.Machine
end

