-- ==== Sys2Proof/Machine/StreamRows.lean ====
section
/-!
DEFINITION. The streaming port's link and blocks, and the service port (R454 to R465).
-/
namespace Sys2Proof.Machine
open Sys2Proof

/-- Blocks sent and not freed, modulo 2³², and CREDITS_AVAILABLE (R458). -/
def StreamSt.inFlight (x : StreamSt) : Nat := (x.sent + 2 ^ 32 - x.freed % 2 ^ 32) % 2 ^ 32
def State.credits (s : State) : Nat := 64 - s.stream.inFlight
def State.showCredits (s : State) : State := s.setNat Ent.CREDITS_AVAILABLE 0 s.credits

def State.portState (s : State) : Nat := s.nat Ent.PORT_STATE
def State.linkUp (s : State) : Bool := s.portState == Port.UP || s.portState == Port.STALLED

/-- A record in progress is sent again from its first block, marked RESENT (R457). -/
def StreamQ.again (q : StreamQ) : StreamQ := if q.pos == 0 then q else { q with pos := 0, resent := true }

/-- A message on STRM_IN (R456): its TYPE and FREED, none when its CRC fails or its TYPE is unknown. -/
def strmMessage (m : List Byte) : Option (Nat × Nat) :=
  let ty := leAt m 0 1
  if m.length == 12 && crc32 (m.take 8) == leAt m 8 4 && (ty == 1 || ty == 2) then some (ty, leAt m 4 4) else none

/-- A READY (R457): the link comes up, or restarts. Its FREED is 0 by the definition of FREED and sets nothing. -/
def State.strmReady (s : State) : State :=
  let again := s.linkUp
  let st := { s.stream with qs := s.stream.qs.map (fun (x : Nat × StreamQ) => (x.1, x.2.again)), sent := 0, freed := 0, heard := s.ticks, dry := none }
  let s1 := ({ s with stream := st }.setNat Ent.STREAM_BLOCKS_SENT 0 0).setNat Ent.PORT_STATE 0 Port.UP
  s1.showCredits.raise Evt.STREAM_LINK_UP 0 (b2n again) 0

/-- A CREDIT (R456, R458): FREED moves on; below the last one, or above the blocks sent, it is ignored and counted. -/
def State.strmCredit (s : State) (freed : Nat) : State :=
  if (freed + 2 ^ 32 - s.stream.freed % 2 ^ 32) % 2 ^ 32 > s.stream.inFlight then s.bump Ent.IN_ERRORS
  else if !s.linkUp then s
  else
    let s1 := { s with stream := { s.stream with freed := freed, heard := s.ticks } }.showCredits
    if s1.credits == 0 then s1
    else { s1 with stream := { s1.stream with dry := none } }.setNat Ent.PORT_STATE 0 Port.UP

/-- What STRM_IN brings (R454, R456): nothing while the port is off. -/
def State.strmIn (s : State) (m : List Byte) : State :=
  if s.portState == Port.OFF || !s.die.lkB then s
  else match strmMessage m with
    | none => s.bump Ent.IN_ERRORS
    | some (1, _) => s.strmReady
    | some (_, freed) => s.strmCredit freed

/-- STREAM_READY (R456, R457): a message on STRM_IN. -/
def execStreamReady (msg : List Byte) (s : State) : Host.Outcome State Fault Refusal := ok (s.strmIn msg)

/-- STREAM_CREDIT (R456, R458): a message on STRM_IN. -/
def execStreamCredit (msg : List Byte) (s : State) : Host.Outcome State Fault Refusal := ok (s.strmIn msg)

/-- STREAM_LINK_DOWN (R457): no valid message for 1 ms. -/
def execStreamLinkDown (s : State) : Host.Outcome State Fault Refusal :=
  if s.linkUp && decide (s.ticks ≥ s.stream.heard + msTicks 1) then
    ok ((s.setNat Ent.PORT_STATE 0 Port.WAITING).raise Evt.STREAM_LINK_DOWN 0 (low 32 (s.nat Ent.STREAM_BLOCKS_SENT)) (s.nat Ent.IN_ERRORS))
  else ok s

/-- STREAM_STALLED (R458): no credit for 10 ms. -/
def execStreamStalled (s : State) : Host.Outcome State Fault Refusal :=
  match s.stream.dry with
  | some t => if s.portState == Port.UP && decide (s.ticks ≥ t + msTicks 10) then ok (s.setNat Ent.PORT_STATE 0 Port.STALLED) else ok s
  | none => ok s

/-- The stream the next block comes from (R460): one that has waited 1 ms, the longest waiting first, else the lowest. -/
def State.nextStream (s : State) : Option Nat :=
  let ready := (s.stream.qs.filter (fun x => !x.2.recs.isEmpty)).map (fun x => (x.1, x.2.since.getD s.ticks))
  let late := ready.filter (fun x => decide (s.ticks ≥ x.2 + msTicks 1))
  match late.foldl (fun (a : Option (Nat × Nat)) x => match a with | some y => if x.2 < y.2 then some x else some y | none => some x) none with
  | some x => some x.1
  | none => ready.head?.map Prod.fst

/-- A block (Table 20-1, R455): header, payload, CRC-32. -/
def blockBytes (t : Nat) (q : StreamQ) (r : List Byte) : List Byte :=
  let data := (r.drop (256 * q.pos)).take 256
  let last := decide (256 * (q.pos + 1) ≥ r.length)
  let head := pack [(0, 8, t), (8, 1, b2n (q.pos == 0)), (9, 1, b2n last), (10, 1, b2n q.gap), (11, 1, b2n q.resent), (16, 16, data.length),
    (32, 32, q.seq)]
  let body := leBytes 8 head ++ fitBytes 256 data
  body ++ leBytes 4 (crc32 body)

/-- A stream after one of its blocks went out. -/
def StreamQ.sentBlock (q : StreamQ) (r : List Byte) (now : Nat) : StreamQ :=
  let last := decide (256 * (q.pos + 1) ≥ r.length)
  let rest := if last then q.recs.tail else q.recs
  { q with recs := rest, pos := if last then 0 else q.pos + 1, seq := (q.seq + 1) % 2 ^ 32, gap := false, resent := q.resent && !last
           since := if rest.isEmpty then none else some now }

/-- Time of a block on the lanes: 70 character periods of 16 ns (R455). -/
def blockTime : Nat := 1120

/-- The characters of lane l in a block (R455), as 8b/10b octets: K27.7, byte n of the block on lane n mod 4, K29.7, K28.5. -/
def laneChars (b : List Byte) (l : Nat) : List Byte :=
  [0xFB#8] ++ (List.range 67).map (fun k => b.getD (4 * k + l) 0#8) ++ [0xFD#8, 0xBC#8]

/-- BLOCK_TRANSMIT (R455, R458, R460): the port takes its next block while it has credit and the lanes are free in the running cycle. -/
def execBlockTransmit (s : State) : Host.Outcome State Fault Refusal :=
  if s.portState != Port.UP || !s.die.lkB || s.credits == 0 || decide (s.stream.busy ≥ 50000) then ok s
  else match s.nextStream with
    | none => ok s
    | some t =>
      let q := s.strm t
      match q.recs with
      | [] => ok s
      | r :: _ =>
        let s1 := (s.setStrm t (q.sentBlock r s.ticks)).send ⟨.stream, t, .block, [], (List.range 4).flatMap (laneChars (blockBytes t q r))⟩
        let s2 := ({ s1 with stream := { s1.stream with sent := (s1.stream.sent + 1) % 2 ^ 32, busy := s1.stream.busy + blockTime } }.bump Ent.STREAM_BLOCKS_SENT).showCredits
        ok (if s2.credits == 0 then { s2 with stream := { s2.stream with dry := some s2.ticks } } else s2)

/-- A write of STREAM_MASK (R459): a bit cleared discards its stream's buffer, a bit set produces from this frame on. -/
def applyStreamMask (v : Nat) (s : State) : State × Nat :=
  let old := s.nat Ent.STREAM_MASK
  let s1 := s.setNat Ent.STREAM_MASK 0 v
  (s1.each ((List.range 7).map (· + 1)) (fun z t =>
    let q := z.strm t
    let was := bit old (t - 1)
    let is_ := bit v (t - 1)
    if was && !is_ then z.setStrm t { q with recs := [], pos := 0, resent := false, since := none }
    else if is_ && !was then z.setStrm t { q with from_ := z.frames } else z), St.OK)

/-- STREAM_MASK (R459). -/
def execStreamMask (c : Client) (v : Nat) (s : State) : Host.Outcome State Fault Refusal :=
  ok (s.clientCommand c Ent.STREAM_MASK 0 (.num v) (applyStreamMask v))

/-- The windows of the cycle that ends, for WINDOWS (Table 20-2): per named die the validity mask, then mean, minimum and maximum of
each channel. -/
def State.noteWindows (s : State) : State :=
  if !bit (s.nat Ent.STREAM_MASK) 6 then { s with stream := { s.stream with windows := [], cycles := 0 } }
  else
    let dies := (List.range 2).filter (fun d => bit (s.nat Ent.WINDOW_DIES) d)
    let one (d : Nat) : List Byte :=
      leBytes 12 (ofBits ((List.range 96).filter (fun ch => bit (s.nat Ent.MCH_STATUS ch) d))) ++
        (List.range 96).flatMap (fun ch =>
          let k := (s.chanSt ch).die d
          leBytes 4 (s.nat (if d == 0 then Ent.MCH_VALUE_M0 else Ent.MCH_VALUE_M1) ch) ++ leBytes 4 k.lo ++ leBytes 4 k.hi)
    { s with stream := { s.stream with windows := s.stream.windows ++ dies.flatMap one, cycles := s.stream.cycles + 1 } }

/-- WINDOWS of the frame that ended, whose frame number is given; that of a frame with a switch-over is not produced (R465). -/
def State.streamWindows (s : State) (sfn : Nat) : State :=
  let l := s.stream.windows
  let n := s.stream.cycles
  let s1 := { s with stream := { s.stream with windows := [], cycles := 0 } }
  if n != 20 then s1
  else if s.die.switchFrame == some sfn then s1.setStrm 7 { s1.strm 7 with gap := true }
  else s1.streamRecord 7 (leBytes 8 sfn ++ leBytes 1 (s.nat Ent.WINDOW_DIES) ++ List.replicate 7 0#8 ++ l)

/-- PORT_STATE after a swap, a start or a change of link die half B (R454, R457, R465): buffers are lost with the half. -/
def State.placePort (s : State) : State :=
  let on := s.flag Ent.STREAM_ENABLE && s.die.lkB
  let s1 := if s.die.lkB then s
    else { s with stream := { s.stream with qs := s.stream.qs.map (fun (x : Nat × StreamQ) => (x.1, { x.2 with recs := [], pos := 0, since := none, resent := false, gap := true })) } }
  if on then (if s1.portState == Port.OFF then s1.setNat Ent.PORT_STATE 0 Port.WAITING else s1)
  else s1.setNat Ent.PORT_STATE 0 Port.OFF

/-- SERVICE_LINK_CHANGE (R461). -/
def execServiceLinkChange (v : Fin 3) (s : State) : Host.Outcome State Fault Refusal :=
  if s.nat Ent.SERVICE_LINK == v.val then ok s
  else ok ((s.setNat Ent.SERVICE_LINK 0 v.val).raise Evt.SERVICE_LINK_CHANGE 0 v.val 0)

/-- The answer of the discovery service (R462). -/
def State.discoveryAnswer (s : State) : List Byte :=
  leBytes 8 (s.nat Ent.DEVICE_ID) ++ fitBytes 16 (s.bytes Ent.PART_NUMBER) ++ leBytes 2 (s.nat Ent.FW_MAIN_VERSION) ++
    leBytes 2 (s.nat Ent.FW_LEGAL_VERSION) ++ leBytes 1 s.devState ++ [0#8, 0#8, 0#8] ++ (sha256 (s.bytes Ent.IDENTITY_CERT)).take 16

/-- DISCOVERY_DATAGRAM (R462): served while SERVICE_PORT_ENABLE is 1, and always in RECOVERY and TEST. -/
def execDiscoveryDatagram (s : State) : Host.Outcome State Fault Refusal :=
  if s.die.lkA && (s.flag Ent.SERVICE_PORT_ENABLE || s.inRecovery) then ok (s.send ⟨.service, 0, .discovery, [], s.discoveryAnswer⟩) else ok s

/-- Every string rests with its coils off, and no outlet has a session (R464). -/
def State.atRest (s : State) : Bool :=
  (List.range 8).all (fun n => (s.strState n == Str.DISABLED || s.strState n == Str.OPEN || s.strState n == Str.LOCKED_OUT) &&
    !(s.coilsInUse n).any s.lcOn) && (List.range 8).all s.outletIdle

/-- A write of RECOVERY_ENTER (R464): accepted, it is reported with the certificate of the connection, and after cycle 19 both control
dies restart into RECOVERY. -/
def applyRecoveryEnter (digest : Nat) (s : State) : State × Nat :=
  if !s.atRest then (s, St.CONFLICT)
  else ({ s with plant := { s.plant with toRecovery := true } }.raise Evt.RECOVERY_REQUESTED 0 (low 32 digest) 0, St.OK)

/-- RECOVERY_ENTER (R464). -/
def execRecoveryEnter (c : Client) (v : Nat) (s : State) : Host.Outcome State Fault Refusal :=
  let digest := ((Tab.find s.tx.conns c.conn).map Conn.digest).getD 0
  ok (s.clientCommand c Ent.RECOVERY_ENTER 0 (.num v) (applyRecoveryEnter digest))

end Sys2Proof.Machine
end

