-- ==== Sys2Proof/Machine/Power.lean ====
section
/-!
DEFINITION. Supplies, die halves and device states (R466 to R485, R489): domains, sides, the resets, SLEEP, SHIP, RECOVERY and TEST, the
power-fail flush. The start itself stands in Sys2Proof/Machine/Start.lean.
-/
namespace Sys2Proof.Machine
open Sys2Proof

/-- The domains of a side, as bits of SUPPLY_STATUS (R467). -/
def sideDomains (x : Nat) : List Nat := [x, 2 + x, 4 + x, 6 + x, 8 + x, 10 + x]
def vbkpBit : Nat := 14

/-- Windows of the domains in mV (Table 21-1); of VAUX the under-voltage and over-voltage levels of Table 16-4. -/
def supplyWindow (d : Nat) : Nat × Nat :=
  match d / 2 with
  | 0 | 4 => (760, 840)
  | 1 | 5 => (1710, 1890)
  | 2 | 3 => (3135, 3465)
  | 6 => (8500, 38000)
  | _ => (2500, 3600)
def inSupplyWindow (d mv : Nat) : Bool := decide ((supplyWindow d).1 ≤ mv) && decide (mv ≤ (supplyWindow d).2)
def State.inWin (s : State) (d : Nat) : Bool := bit s.plant.inWindow d
def State.setWin (s : State) (m : Nat) : State := { s with plant := { s.plant with inWindow := m } }.setNat Ent.SUPPLY_STATUS 0 m
def State.sideUp (s : State) (x : Nat) : Bool := if x == 0 then s.plant.sideA else s.plant.sideB
def State.setSide (s : State) (x : Nat) (b : Bool) : State :=
  if x == 0 then { s with plant := { s.plant with sideA := b } } else { s with plant := { s.plant with sideB := b } }

/-- Health of a half of the power, link and state dies. -/
def State.setPw (s : State) (h : Nat) (b : Bool) : State :=
  if h == 0 then { s with die := { s.die with pwA := b } } else { s with die := { s.die with pwB := b } }
def State.setLk (s : State) (h : Nat) (b : Bool) : State :=
  if h == 0 then { s with die := { s.die with lkA := b } } else { s with die := { s.die with lkB := b } }
def State.setSt (s : State) (h : Nat) (b : Bool) : State :=
  if h == 0 then { s with die := { s.die with st0 := b } } else { s with die := { s.die with st1 := b } }
def State.lkUp (s : State) (h : Nat) : Bool := if h == 0 then s.die.lkA else s.die.lkB
def State.stUp (s : State) (h : Nat) : Bool := if h == 0 then s.die.st0 else s.die.st1

/-- Strings with a contactor coil on a power die half. -/
def State.stringsOn (s : State) (h : Nat) : List Nat :=
  (List.range 8).filter (fun n => (s.coilsInUse n).any (fun c => decide (c < 40) && c / 20 == h))

/-- A power die half goes unpowered (Table 3-5): its phases, its channels and the coils on it; its strings open. -/
def State.losePw (s : State) (h : Nat) : State :=
  let s1 := ((s.setPw h false).unpowerHalf h).each (halfChannels h) (fun z c => z.lcUpdate c)
  s1.each ((s1.stringsOn h).filter (fun n => carrying (s1.strState n))) (fun z n => z.stringCause n 16 0)

/-- A link die half goes quiet (Table 3-5): the sessions of its outlets end, the service port goes with half A, the streaming port with
half B; the tick line and the Eusor modem change to the other half (R13, R399). -/
def State.loseLk (s : State) (h : Nat) : State :=
  let s1 := (s.setLk h false).each ((List.range 4).map (· + 4 * h)) (fun z o => z.linkDown o)
  let s2 := if h == 0 then { s1 with tx := { s1.tx with conns := s1.tx.conns.filter (fun (x : Nat × Conn) => !x.2.service) } } else s1
  let s3 := s2.when (s2.die.tickB == (h == 1)) (fun z => z.changeTickLine none32)
  (s3.when (s3.eus.modem == h) (fun z => z.askHandover 0)).placePort

/-- A die half fails, with its event (Table 3-5): 0 and 1 PW, 2 and 3 LK, 4 and 5 KY (its loops go unwatched; seen at the next start only, R414), 6 and 7 ST. -/
def State.halfFault (s : State) (half diag : Nat) : State :=
  let h := half % 2
  let told (z : State) : State := z.raise Evt.DIE_HALF_FAULT (4 + half / 2) h diag
  match half / 2 with
  | 0 => if s.pwOk h then told (s.losePw h) else s
  | 1 => if s.lkUp h then told (s.loseLk h) else s
  | 2 => { s with keys := { s.keys with lost := setBit s.keys.lost h true } }
  | _ => if s.stUp h then told (s.setSt h false) else s

/-- DIE_HALF_FAULT (R82): a half, or (`watchdog`) the serial watchdog of a PW half alone. -/
def execDieHalfFault (half : Fin 8) (watchdog : Bool) (diag : Nat) (s : State) : Host.Outcome State Fault Refusal :=
  if watchdog && decide (half.val < 2) then
    if s.pwOk half.val && !(s.half half.val).watchdog then ok ((s.raise Evt.DIE_HALF_FAULT 4 half.val diag).failWatchdog half.val) else ok s
  else ok (s.halfFault half.val diag)

/-- DIE_HALF_RESTORED (R82): a half whose side is up works again, or its watchdog does; a KY half's return shows at the next start. -/
def execDieHalfRestored (half : Fin 8) (s : State) : Host.Outcome State Fault Refusal :=
  let h := half.val % 2
  if !s.sideUp h then ok s
  else match half.val / 2 with
    | 0 => if (s.half h).watchdog then ok (s.setHalf h { s.half h with watchdog := false })
      else if s.pwOk h then ok s else ok ((s.setPw h true).each (halfChannels h) (fun z c => z.lcUpdate c))
    | 1 => ok (s.setLk h true).placePort
    | 2 => ok { s with keys := { s.keys with lost := setBit s.keys.lost h false } }
    | _ => ok (s.setSt h true)

/-- A stop of the only serving control die takes the device to START (Table 21-3, R76); from SLEEP it will return there. In RECOVERY and TEST the
state stays (R470). -/
def State.afterStop (s : State) : State :=
  if s.die.unserved.isSome && (s.serving || s.devState == Dev.SLEEP) then
    { s with plant := { s.plant with startCause := 5, released := s.ticks, toSleep := s.devState == Dev.SLEEP } }.setDevice Dev.START
  else s

/-- SELF_DIAGNOSED_FAULT (R66, R76). -/
def execSelfDiagnosedFault (die : Fin 2) (code : Fin 11) (s : State) : Host.Outcome State Fault Refusal :=
  if code.val == 0 then ok s else ok (s.selfDiagnose die.val code.val).afterStop

/-- The outputs of the dies that lost power, and what stood on the control dies. -/
def State.darken (s : State) : State :=
  let s1 := { s with die := { s.die with
    ca := .off, cb := .off, mirrorSync := false, m0Running := false, m1Running := false, m0Failed := false, m1Failed := false
    pwA := false, pwB := false, lkA := false, lkB := false, st0 := false, st1 := false, resync := none, resyncRetry := none
    switch := none, swapAt := none, quiet := none, takeDue := false, unserved := none, bootA := none, bootB := none } }
  let s2 := { s1 with plant := { s1.plant with sideA := false, sideB := false, waitingBoot := none, testAt := none, carrierAt := none
                                               broadcastAt := none, wakeDue := none, wokenAt := none, rstAt := none }
                      tx := { s1.tx with conns := [] } }
  ((((s2.unpowerHalf 0).unpowerHalf 1).allGatesOff).closeKeys).each (List.range 40) (fun z c => z.lcUpdate c)

/-- OFF (Table 21-3): told at the next start. -/
def State.goOff (s : State) : State :=
  let s1 := s.darken
  ({ s1 with plant := { s1.plant with offFrom := some s.devState, sleep := false, ship := false, toSleep := false, toRecovery := false
                                      startCause := 0, supplyEn := s1.inWin vbkpBit } }.setNat Ent.DEVICE_STATE 0 Dev.OFF).refreshDevice

/-- A side's VCORE or VIO leaves (Table 21-1): control die stop condition, metering die failed, ST array fault. -/
def State.loseSide (s : State) (x : Nat) : State :=
  let s1 := ((s.setSide x false).selfDiagnose x 3).afterStop
  (s1.when (s1.meterRunning x) (fun z => z.failMeter x 3)).halfFault (6 + x) 3

/-- What a domain that leaves its window does (Table 21-1). -/
def State.domainEffect (s : State) (d mv : Nat) : State :=
  let x := d % 2
  match d / 2 with
  | 0 => s.loseSide x
  | 1 => (s.loseSide x).halfFault x 3
  | 2 | 4 => s.halfFault (2 + x) 3
  | 3 => s.when (s.meterRunning x) (fun z => z.failMeter x 3)
  | 7 => if mv < 2300 then { s with time := { s.time with backupValid := false } } else s
  | _ => s

/-- No side has both its VCORE and its VIO. -/
def State.allLost (s : State) : Bool := [0, 1].all (fun x => !(s.inWin x && s.inWin (2 + x)))

/-- SUPPLY_FAULT (R466): the domain's bit falls, its event goes out where dies run to raise it, and its effect follows; with no side
left the device is OFF, as is one in SHIP without VBKP (R479). VBKP that falls on below 2.3 V invalidates the backup counter (R34). -/
def execSupplyFault (dom : Fin 15) (mv : Nat) (s : State) : Host.Outcome State Fault Refusal :=
  let d := dom.val
  let st := s.devState
  if inSupplyWindow d mv then ok s
  else if !s.inWin d then
    if d == vbkpBit && decide (mv < 2300) then
      let s1 := { s with time := { s.time with backupValid := false } }
      ok (if st == Dev.SHIP then s1.goOff else s1)
    else ok s
  else
    let s1 := s.setWin (setBit s.plant.inWindow d false)
    if st == Dev.OFF || st == Dev.SHIP then
      let s2 := if d == vbkpBit && mv < 2300 then { s1 with time := { s1.time with backupValid := false } } else s1
      ok (if st == Dev.SHIP && d == vbkpBit then s2.goOff else s2)
    else
      let s2 := (s1.when (s.plant.sideA || s.plant.sideB) (fun z => z.raise Evt.SUPPLY_FAULT d mv 0)).domainEffect d mv
      let lost := s.inWin d && d < 4 && s2.allLost && !s.allLost
      ok (if lost then s2.goOff else s2)

/-- SUPPLY_RESTORED (R466): the domain has been back in its window for `ms`, 10 at least; its event goes out where dies run to raise it. -/
def execSupplyRestored (dom : Fin 15) (mv ms : Nat) (s : State) : Host.Outcome State Fault Refusal :=
  let d := dom.val
  if s.inWin d || !inSupplyWindow d mv || decide (ms < 10) then ok s
  else
    let s1 := s.setWin (setBit s.plant.inWindow d true)
    let s2 := if d == vbkpBit && s.devState == Dev.OFF then { s1 with plant := { s1.plant with supplyEn := true } } else s1
    ok (s2.when (s.plant.sideA || s.plant.sideB) (fun z => z.raise Evt.SUPPLY_RESTORED d mv 0))

/-- SIDE_RESET_RELEASE (R467): its dies leave reset; the first side takes the device out of OFF and SHIP (Table 21-3). -/
def execSideResetRelease (sideB : Bool) (s : State) : Host.Outcome State Fault Refusal :=
  let x := b2n sideB
  if s.sideUp x || !s.plant.supplyEn || !s.inWin vbkpBit || !(sideDomains x).all s.inWin then ok s
  else
    let s1 := (((s.setSide x true).setPw x true).setLk x true).setSt x true
    let s2 := if x == 0 then { s1 with die := { s1.die with ca := .off, m0Running := false, m0Failed := false } }
              else { s1 with die := { s1.die with cb := .off, m1Running := false, m1Failed := false } }
    let s3 := { s2 with plant := { s2.plant with released := s.ticks } }
    let old := s.devState
    if old == Dev.OFF || old == Dev.SHIP then
      let s4 := match s3.plant.offFrom with
        | some o => ({ s3 with plant := { s3.plant with offFrom := none } }).when (o != Dev.OFF) (fun z => z.raise Evt.STATE_CHANGE 0 o Dev.OFF)
        | none => s3
      ok (s4.setDevice Dev.START)
    else ok s3.placePort

/-- RST_N_ASSERT (R468): every gate goes off at once, every other output 1 ms later; every die but KY is reset. -/
def execRstNAssert (s : State) : Host.Outcome State Fault Refusal :=
  if s.devState == Dev.OFF || s.devState == Dev.SHIP then ok s
  else
    let closed := (List.range 8).filter (fun n => (s.coilsInUse n).any s.lcOn)
    let s1 := s.allGatesOff.restartBoth 1
    ok { s1 with
      die := { s1.die with m0Running := false, m1Running := false, m0Failed := false, m1Failed := false, lkA := false, lkB := false
                           st0 := false, st1 := false }
      tx := { s1.tx with conns := [] }
      plant := { s1.plant with sideA := false, sideB := false, waitingBoot := none, toSleep := false, rstAt := some (s.ticks + 20)
                               rstStrings := closed } }

/-- The 1 ms of a reset has passed: every output of the power die is off (R468). -/
def State.resetOutputs (s : State) : State :=
  match s.plant.rstAt with
  | none => s
  | some t =>
    if s.ticks < t then s
    else
      let s1 := (s.setPw 0 false).setPw 1 false
      let s2 := s1.each (List.range 40) (fun z c => (z.setLc c { z.lcs c with cmd := false, duty := 0, got := false, gotDuty := 0 }).lcUpdate c)
      let s3 := (s2.setPw 0 s.plant.sideA).setPw 1 s.plant.sideB
      { s3 with plant := { s3.plant with rstAt := none } }

/-- What stands against a request of SLEEP or SHIP (R476, R480, R485). -/
def State.restConflict (s : State) : Bool :=
  !s.serving || s.plant.sleep || s.plant.ship || !(List.range 8).all s.outletIdle || field (s.nat Ent.FW_UPDATE_STATUS) 0 3 != 0

/-- Steps 1 and 2 of R476 and R480: connected strings open with cause 15, and the broadcast goes out. -/
def State.beginRest (s : State) (op : Nat) : State :=
  let s1 := s.each ((List.range 8).filter (fun n => connecting (s.strState n) || s.strState n == Str.CONNECTED)) (fun z n => z.stringCause n 15 0)
  let s2 := s1.tellAll op []
  { s2 with plant := { s2.plant with broadcastAt := some s.ticks } }.refreshDevice

/-- A write of SLEEP_REQUEST (R476, R478): 1 asks for SLEEP, 0 wakes or ends the request. -/
def applySleepRequest (v : Int) (s : State) : State × Nat :=
  if v == 0 then ((s.setFlag Ent.SLEEP_REQUEST 0 false).wake 2 0, St.OK)
  else if s.restConflict then (s, St.CONFLICT)
  else (({ s with plant := { s.plant with sleep := true } }.setFlag Ent.SLEEP_REQUEST 0 true).beginRest Com.SLEEP, St.OK)

/-- SLEEP_REQUEST (R476). -/
def execSleepRequest (c : Client) (v : Nat) (s : State) : Host.Outcome State Fault Refusal :=
  ok (s.clientCommand c Ent.SLEEP_REQUEST 0 (.num v) (applySleepRequest v))

/-- Strings at rest and the broadcast in its three beacons. -/
def State.readyToRest (s : State) (op : Nat) : Bool :=
  (List.range 8).all (fun n => s.strState n == Str.DISABLED || s.strState n == Str.OPEN || s.strState n == Str.LOCKED_OUT) &&
    !s.radio.cmds.any (fun c => c.op == op && decide (c.sends < 3))

/-- The carriers of all ropes stop and their monitors sleep (R251, R476). -/
def State.stopRopes (s : State) : State :=
  s.each ((List.range 8).filter (fun n => decide (0 < s.nat Ent.MONITOR_COUNT n))) fun z n =>
    let z1 := ((z.setRope n { z.rope n with carrier := false, phase := 0 }).setNat Ent.ROPE_STATE n Rope.OFF).setJoin n false
    (z1.each (z1.enrolledOf n) (fun y k => y.setNat Ent.MONITOR_STATE k Mon.SLEEPING)).send (carrierMsg n false)

/-- SLEEP_ENTRY (R476, R477): carriers and beacons stop, bleeding ends, the standby powers down; a rope burst that came meanwhile wakes
the device (R485). -/
def execSleepEntry (s : State) : Host.Outcome State Fault Refusal :=
  if !s.plant.sleep || !s.serving || !s.readyToRest Com.SLEEP then ok s
  else
    let s1 := s.stopRopes
    let s2 := { s1 with
      radio := { s1.radio with cur := none, due := none }
      cellSts := s1.cellSts.map (fun (x : Nat × CellSt) => (x.1, { x.2 with bleedTill := none }))
      die := { s1.die with mirrorSync := false, resync := none, resyncRetry := none }
      plant := { s1.plant with sleep := false, broadcastAt := none } }
    let s3 := (s2.setStanding (1 - s2.activeDie) .off).setDevice Dev.SLEEP
    match s3.plant.wakeDue with
    | some w => ok (s3.wake w.1 w.2)
    | none => ok s3

/-- WAKE_CARRIER_START (R478): 24 sweeps after a wake the carriers start. -/
def execWakeCarrierStart (s : State) : Host.Outcome State Fault Refusal :=
  match s.plant.carrierAt with
  | none => ok s
  | some t =>
    if s.ticks < t || !s.serving then ok s
    else
      let s1 := { s with plant := { s.plant with carrierAt := none } }
      ok (s1.each ((List.range 8).filter (fun n => decide (0 < s.nat Ent.MONITOR_COUNT n) && (s.rope n).phase == 0 && !(s.rope n).carrier))
        (fun z n => (z.setRope n { z.rope n with carrier := true }).send (carrierMsg n true)))

/-- At a boundary: a rope not CLOSED 5 s after a wake is enumerated (R478). -/
def State.wokenFrame (s : State) : State :=
  match s.plant.wokenAt with
  | none => s
  | some t =>
    if s.ticks < t + secTicks 5 then s
    else
      let s1 := { s with plant := { s.plant with wokenAt := none } }
      s1.each ((List.range 8).filter (fun n => decide (0 < s.nat Ent.MONITOR_COUNT n) && s.nat Ent.ROPE_STATE n != Rope.CLOSED &&
        (s.rope n).phase == 0)) (fun z n => z.startEnum n)

/-- ROPE_WAKE (R261, R478): a wake burst at ROPE_RET_s in SLEEP, or while SLEEP is pending (R485). -/
def execRopeWake (n : Fin 8) (s : State) : Host.Outcome State Fault Refusal :=
  if s.devState == Dev.SLEEP || s.plant.sleep then ok ((s.raise Evt.ROPE_WAKE n.val 0 0).wake 0 n.val) else ok s

/-- A write of SHIP_REQUEST (R480). -/
def applyShipRequest (s : State) : State × Nat :=
  if s.restConflict then (s, St.CONFLICT)
  else ({ s with plant := { s.plant with ship := true } }.beginRest Com.SHIP, St.OK)

/-- SHIP_REQUEST (R480). -/
def execShipRequest (c : Client) (v : Nat) (s : State) : Host.Outcome State Fault Refusal :=
  ok (s.clientCommand c Ent.SHIP_REQUEST 0 (.num v) applyShipRequest)

/-- A metering die's clean stop (R348 step 3, R480 step 4). -/
def State.stopMeter (s : State) (d : Nat) : State :=
  if !s.metering d then s
  else
    let s1 := s.legalLog 9 (2 + d) 0xFFFF (s.cycle * 50000) 1
    if d == 0 then { s1 with legal := { s1.legal with stop0 := true } } else { s1 with legal := { s1.legal with stop1 := true } }

/-- SHIP_ENTRY (R480): stores complete, KY takes the time, the metering dies commit and stop, and SUPPLY_EN falls. -/
def execShipEntry (flushes : List Flush) (s : State) : Host.Outcome State Fault Refusal :=
  if !s.plant.ship || !s.serving || !s.readyToRest Com.SHIP then ok s
  else
    let s1 := s.stopRopes.persistFrame.sealGrotto.writeBackup
    let s2 := s1.each flushes (fun z f => if z.metering f.die.val then z.commitDie f.die.val (z.instant 50000) false true f.ws else z)
    let s3 := ((s2.stopMeter 0).stopMeter 1).persistFrame
    let s4 := ({ s3 with plant := { s3.plant with ship := false, broadcastAt := none } }.setDevice Dev.SHIP).darken
    ok ({ s4 with plant := { s4.plant with supplyEn := false } }.setWin (if s.inWin vbkpBit then 2 ^ vbkpBit else 0)).refreshDevice

/-- SHIP_WAKE (R481, R499): the input has been above 1.20 V for 100 ms; SUPPLY_EN rises, and the start that follows has LAST_START_CAUSE 2. -/
def execShipWake (mv ms : Nat) (s : State) : Host.Outcome State Fault Refusal :=
  if s.devState == Dev.SHIP && decide (1200 < mv) && decide (100 ≤ ms) then ok { s with plant := { s.plant with supplyEn := true, startCause := 2 } } else ok s

/-- A write of RECOVERY_EXIT (R474). -/
def applyRecoveryExit (s : State) : State × Nat :=
  if !s.inRecovery || s.keys.burnt then (s, St.CONFLICT)
  else ({ s with plant := { s.plant with toRecovery := false } }.restartBoth 3, St.OK)

/-- RECOVERY_EXIT (R474). -/
def execRecoveryExit (c : Client) (v : Nat) (s : State) : Host.Outcome State Fault Refusal :=
  ok (s.clientCommand c Ent.RECOVERY_EXIT 0 (.num v) applyRecoveryExit)

/-- A write of TEST_ENTER (R475): TEST begins at the next boundary. -/
def applyTestEnter (s : State) : State × Nat :=
  if s.devState != Dev.RECOVERY then (s, St.CONFLICT)
  else ({ s with plant := { s.plant with testAt := some (s.frames + 1) } }, St.OK)

/-- TEST_ENTER (R475). -/
def execTestEnter (c : Client) (v : Nat) (s : State) : Host.Outcome State Fault Refusal :=
  ok (s.clientCommand c Ent.TEST_ENTER 0 (.num v) applyTestEnter)

/-- At a boundary: TEST begins (R475). -/
def State.testFrame (s : State) : State :=
  match s.plant.testAt with
  | some f =>
    if s.frames < f then s
    else
      let s1 := { s with plant := { s.plant with testAt := none } }
      s1.when (s1.devState == Dev.RECOVERY) (fun z => z.setDevice Dev.TEST)
  | none => s

/-- REFCLK_LOST (R489): no edge for 200 ns, or `us` microseconds, 10 at least, outside ±500 ppm. -/
def execRefclkLost (gap : Nat) (ppm : Int) (us : Nat) (s : State) : Host.Outcome State Fault Refusal :=
  if s.nat Ent.REFCLK_STATE == 1 || !(decide (200 ≤ gap) || (decide (500 < ppm.natAbs) && decide (10 ≤ us))) then ok s else ok ((s.setNat Ent.REFCLK_STATE 0 1).raise Evt.REFCLK_LOST 0 0 0)

/-- REFCLK_RESTORED (R489): at a frame boundary, once it has been valid for `ms`, 1,000 at least. -/
def execRefclkRestored (ms : Nat) (s : State) : Host.Outcome State Fault Refusal :=
  if s.nat Ent.REFCLK_STATE == 1 && s.cycle == 0 && decide (1000 ≤ ms) then ok ((s.setNat Ent.REFCLK_STATE 0 0).raise Evt.REFCLK_RESTORED 0 0 0) else ok s

/-- The sump record of the serving control die (R482): P values, both sets, the estimator record, the event log's tail and what the allocator has sent
and not seen superseded. The event log stands whole in the model, and the spec does not say what a start takes from the ledger: nothing (log entry
92). -/
def State.sumpNow (s : State) : Sump :=
  let z := s.persistFrame
  ⟨s.sfn, unstored z.nvCells s.nvCells, unstored z.nvSet0 s.nvSet0, unstored z.nvSet1 s.nvSet1, s.setPtr, s.cellSts, s.ests, s.ev.fresh, s.alloc.units.map (fun x => (x.1, x.2.sent))⟩

/-- PFW_ASSERT (R482, R348): the metering dies flush, the serving control die writes the sump, KY takes the time. No output changes. -/
def execPfwAssert (offset : Nat) (flushes : List Flush) (s : State) : Host.Outcome State Fault Refusal :=
  if s.legal.pfw.isSome || s.devState == Dev.OFF || s.devState == Dev.SHIP then ok s
  else
    let s1 := s.each flushes (fun z f => z.flushDie offset f)
    let s2 := ({ s1 with legal := { s1.legal with pfw := some (s.ticks, offset), cycling := true } }).writeBackup.refreshDevice
    if !(s.die.ca == .active || s.die.cb == .active) then ok s2
    else
      let s3 := ((s2.bump Ent.FLUSH_COUNT).setNat Ent.LAST_FLUSH_SFN 0 s.sfn).raise Evt.POWER_FAIL 0 offset 0
      ok { s3 with plant := { s3.plant with sump := some s3.sumpNow } }

/-- PFW_RELEASE (R483, R348 step 4). -/
def execPfwRelease (s : State) : Host.Outcome State Fault Refusal :=
  if s.legal.pfw.isSome then ok s.resumeMeters.refreshDevice else ok s

end Sys2Proof.Machine
end

