-- ==== Sys2Proof/Machine/Start.lean ====
section
/-!
DEFINITION. The start (R472 to R474): what a control die that completes its boot does before it takes control, for a start of the whole
device and for a restart of the control dies alone (R76): stored values (R94), sump (R484), site time (R34), roots and keys (R413 to R424),
images (R447), the metering dies (R335, R342, R349), and the outputs read back.
-/
namespace Sys2Proof.Machine
open Sys2Proof

/-- The copies a boot found lost (R94): one slot of an entry, or both. -/
def State.loseCopy (s : State) (x : CopyLoss) : State :=
  let k := match x.table.val with | 0 => 0 | 1 => 1 + b2n s.nvPtr | _ => 2 - b2n s.nvPtr
  let nv := match k with | 0 => s.nvCells | 1 => s.nvSet0 | _ => s.nvSet1
  match Tab.find nv x.key with
  | none => s
  | some p =>
    let q : PSlots := ⟨if x.a then none else p.a, if x.b then none else p.b⟩
    let set_ (z : State) (t : Tab PSlots) : State := match k with | 0 => { z with nvCells := t } | 1 => { z with nvSet0 := t } | _ => { z with nvSet1 := t }
    let inst := if x.table.val == 2 then 1 else 0
    if q == p then s
    else match q.newest with
      | some v => (set_ s (Tab.set nv x.key q)).raise Evt.PERSIST_RECOVERED inst x.key v.1
      | none => (set_ s (Tab.erase nv x.key)).raise Evt.PERSIST_LOST inst x.key 0

/-- The sump (R484): entries later than both their slots apply, and the estimator record; a record that does not check is lost. -/
def State.applySump (s : State) (good : Bool) : State :=
  match s.plant.sump with
  | none => { s with plant := { s.plant with sumpDone := false } }
  | some r =>
    let s0 := { s with plant := { s.plant with sump := none, sumpDone := good } }
    if !good then s0.raise Evt.SUMP_LOST 0 0 0
    else
      let c := applySumpTable r.cells s.nvCells s0.cells
      let a := applySumpTable r.act s.nvSet0 (s0.setStored false)
      let h := applySumpTable r.shd s.nvSet1 (s0.setStored true)
      { s0 with cells := c.1, actSet := if r.ptr then h.1 else a.1, shdSet := if r.ptr then a.1 else h.1, setPtr := r.ptr, nvCellSts := r.cellSts, nvEsts := r.ests, digestStale := true }.raise
        Evt.SUMP_APPLIED 0 (c.2 + a.2 + h.2) (low 32 r.sfn)

/-- Site time at a start (R34), from the backup counter or one frame after the last one stored; a change of STATE is reported (R28), and
an error above the limit sets its flag at once and its event at the first boundary (R29). -/
def State.startTime (s : State) (elapsed : Nat) : State :=
  let t := s.time
  let valid := t.backupValid
  let e := if valid then t.backupErrorPs + elapsed * 100000 else 0
  let high := decide (e > s.nat Ent.HOLDOVER_ERROR_LIMIT * 1000000)
  let s1 := { s with
    sfn := if valid then t.backupSfn + elapsed else t.storedSfn + 1
    time := { t with state := if valid then .holdover else .unset, upstream := 0, master := none, syncRun := 0, heard0 := none, heard1 := none
                     delays0 := [], delays1 := [], errorPs := e, errorHigh := high, errorDue := high, known := valid
                     slewNs := 0, stepNs := none, backupSfn := if valid then t.backupSfn + elapsed else t.backupSfn
                     backupErrorPs := if valid then t.backupErrorPs + elapsed * 100000 else t.backupErrorPs, backupTick := s.ticks } }
  let s2 := s1.fitNat Ent.EST_TIME_ERROR 0 (e / 1000)
  if s1.time.state = t.state then s2 else s2.raise Evt.TIME_STATE_CHANGE 0 t.state.code s1.time.state.code

/-- Rest of the strings over the time without service (R293, R301), counted when site time was valid before and after. -/
def State.startRest (s : State) (before : TimeState) (last : Nat) : State :=
  let off := if before != .unset && s.time.state != .unset then s.sfn - last else 0
  s.each s.measuredStrings (fun z n => z.setEst n { z.est n with rest := off, rested := false })

/-- One KY half's attempt (R413). -/
def State.rootAttempt (s : State) (half : Nat) (r : RootTry) : State :=
  if r.good then
    let s1 := ((s.setNat Ent.KY_SERVING 0 half).fitNat Ent.PUF_MARGIN 0 r.margin).raise Evt.ROOT_REBUILT half r.margin 0
    s1.when (decide (r.margin > 600)) (fun z => z.raise Evt.PUF_MARGIN_LOW half r.margin 0)
  else s

/-- The root, half A first, half B when A fails (R413); a half that has failed rebuilds none. A device whose roots are burnt, that goes to RECOVERY by
request or goes on in RECOVERY or TEST rebuilds none (Table 18-1). -/
def State.startRoots (s : State) (b0 : BootReport) : State :=
  let b := { b0 with rootA := { b0.rootA with good := b0.rootA.good && s.kyWatches 0 }
                     rootB := b0.rootB.map (fun (r : RootTry) => { r with good := r.good && s.kyWatches 1 }) }
  let bGood := (b.rootB.map RootTry.good).getD false
  let failed := !b.rootA.good && !bGood
  if s.keys.burnt || s.plant.toRecovery || s.devState == Dev.RECOVERY || s.devState == Dev.TEST then s.closeKeys
  else
    let s1 := s.rootAttempt 0 b.rootA
    let s2 := if b.rootA.good then s1 else match b.rootB with | some r => s1.rootAttempt 1 r | none => s1
    let s3 := if failed then
        let z := s2.raise Evt.ROOT_FAILED 0 b.rootA.cause b.rootA.margin
        match b.rootB with | some r => z.raise Evt.ROOT_FAILED 1 r.cause r.margin | none => z
      else s2
    let badB := !s.kyWatches 1 || (b.rootB.map (fun (r : RootTry) => !r.good)).getD false
    let s4 := { s3 with keys := { s3.keys with lostAt := none }
                        plant := { s3.plant with kyBad := pack [(0, 1, b2n (!b.rootA.good)), (1, 1, b2n badB)] }
                        die := { s3.die with kyA := b.rootA.good, kyB := !badB } }
    if failed then s4.closeKeys else s4.openGrotto

/-- The four measurements of a start (R415). -/
def bootMeasure (b : BootReport) : List Byte := measureOf [b.boot1, b.boot2]
def mainMeasure (b : BootReport) : List Byte := measureOf [b.main]
def legalMeasure (b : BootReport) (d : Nat) : List Byte := measureOf [if d == 0 then b.legalM0 else b.legalM1]

/-- Identity, measurements, epoch, what KY watches and the tampers it has kept (R414, R415, R424, R428, R429, R431, Table 18-8). -/
def State.startIdentity (s : State) (b : BootReport) : State :=
  let id := leAt (sha256 (Config.publicOf 3 (deviceKey 0))) 0 8
  let s1 := ((s.setNat Ent.DEVICE_ID 0 id).setBytes Ent.IDENTITY_CERT 0 Config.identityCert).setBytes Ent.RECOVERY_CERT 0 Config.recoveryCert
  let s2 := ((s1.setBytes Ent.MEAS_BOOT 0 (bootMeasure b)).setBytes Ent.MEAS_MAIN 0 (mainMeasure b)).setBytes Ent.SERVICE_ADDRESS 0 (Config.serviceAddress id)
  let s3 := (s2.setNat Ent.ZEROISE_EPOCH 0 s2.keys.epoch).tellTampers
  let gap := !s3.time.backupValid
  let watched := ofBits ((List.range 4).filter (fun n => s3.kyWatches (n / 2)))
  ({ s3 with keys := { s3.keys with zeroised := false, watched := watched, gap := gap } }).when gap (fun z => z.raise Evt.TAMPER_UNWATCHED 0 0 0)

/-- The certificates whose keys have changed, and the signed records that waited (R417, R424, R430). -/
def State.startKeys (s : State) : State :=
  if !s.keys.held then s.showTamper
  else ((s.each [0, 1, 2, 3] (fun z k => z.issueCert k)).showTamper).issueWaiting

/-- A slot that runs and was never staged holds the image of manufacture, at the versions of Table 0-2. -/
def State.factorySlot (s : State) (slot version : Nat) (meas : List Byte) : State :=
  if s.nat Ent.SLOT_STATE slot != Img.EMPTY then s
  else ((s.setNat Ent.SLOT_STATE slot Img.RUNNING).setNat Ent.SLOT_VERSION slot version).setBytes Ent.SLOT_MEASUREMENT slot meas

/-- Images at a start (R447): in a trial each die starts its own; a trial slot that fails its check or its measurement ends the trial (cause 3). -/
def State.startImages (s : State) (die : Nat) (b : BootReport) : State :=
  let good (i : Nat) : Bool := if i == 0 then b.slot0 else b.slot1
  let s1 := (s.factorySlot (s.nat Ent.RUNNING_SLOT) 0x0204 (mainMeasure b)).factorySlot (s.nat Ent.RUNNING_LEGAL_SLOT) 0x0102 (legalMeasure b 0)
  let s2 := match s1.fw.trial with
    | some t => if good t.slot && (die != t.die || mainMeasure b == s1.bytes Ent.SLOT_MEASUREMENT t.slot) then s1 else s1.fallBack t 3
    | none => s1
  let run := match s2.fw.trial with | some t => if die == t.die then t.slot else t.old | none => s2.nat Ent.RUNNING_SLOT
  let old := if s2.fw.format == 0 then low 16 Config.stateFormat else s2.fw.format
  let fmt := match s2.fw.trial with | some t => if die == t.die then mfFormat (s2.manifest t.slot) else old | none => old
  let s3 := ((s2.setNat Ent.FW_MAIN_VERSION 0 (s2.nat Ent.SLOT_VERSION run)).setNat Ent.STATE_FORMAT 0 fmt).setNat Ent.TRIAL_LEFT 0
    ((s2.fw.trial.map Trial.left).getD 0)
  let s4 := { s3 with fw := { s3.fw with main := none, legal := none, trial := s3.fw.trial.map (fun (t : Trial) => { t with tick := s.ticks }) } }
  (((s4.setNat Ent.ROLLBACK_MAIN 0 s4.fw.rollMain).setNat Ent.ROLLBACK_LEGAL 0 s4.fw.rollLegal).setNat Ent.FW_LEGAL_VERSION 0
    (s4.nat Ent.SLOT_VERSION s4.fw.bank0)).showFw

/-- Check value of the legal image a metering die runs (R342). -/
def State.checkValue (s : State) (bank : Nat) : Nat := if (s.manifest bank).isEmpty then low 32 Config.legalCheck else mfCheck (s.manifest bank)

/-- What a metering die's last commit tells (R349): kind 10, and the loss that may have been. -/
def State.lastCommit (s : State) (d : Nat) : State :=
  let last := (s.commitOf d).sfn
  let clean := last == 0 || (if d == 0 then s.legal.stop0 else s.legal.stop1)
  let s1 := s.legalLog 10 (2 + d) 0xFFFF (low 32 last) (b2n clean)
  if clean then s1
  else
    let s2 := (s1.raise Evt.ENERGY_LOSS_POSSIBLE (2 + d) (low 32 last) (b2n (!(s.commitOf d).flush))).markInterval 6
    { s2 with legal := { s2.legal with loss := true } }.markSessions

/-- Where a metering die's registers came from (R335): its own store, ST, or the other die. -/
def State.restoreRegs (s : State) (d src : Nat) : State :=
  let last := (s.commitOf (if src == 2 then 1 - d else d)).sfn
  if src == 0 then s
  else
    let s1 := if src == 2 then s.each (List.range 17) (fun z pt =>
        let o := z.meter (1 - d) pt
        z.setMeter d pt { z.meter d pt with regs := o.regs, rates0 := o.rates0, rates1 := o.rates1 }) else s
    ((s1.raise Evt.REGISTER_RESTORED (2 + d) src (low 32 last)).legalLog 12 (2 + d) 0xFFFF src (low 32 last)).each (List.range 17)
      (fun z pt => z.showPoint pt)

/-- No metering die is failed any more: points in SINGLE start again in AGREE (Table 14-5). -/
def State.leaveSingle (s : State) : State :=
  if s.die.m0Failed || s.die.m1Failed then s
  else s.each ((List.range 17).filter (fun pt => s.nat Ent.CROSS_STATE pt == Cross.SINGLE)) (fun z pt =>
    (z.setNat Ent.CROSS_STATE pt Cross.AGREE).setPoint pt { z.mpoint pt with agree := 0, disagree := 0 })

/-- A metering die starts (R335, R342, R349): an image that fails its check never meters, and its die is failed (the diagnostic code is
not stated: free, log entry 1). -/
def State.startMeter (s : State) (d : Nat) (b : BootReport) : State :=
  let good := if d == 0 then b.legal0 else b.legal1
  let s1 := if d == 0 then ({ s with die := { s.die with m0Running := true, m0Failed := false } }.setBytes Ent.MEAS_LEGAL_M0 0 (legalMeasure b 0)).setNat
        Ent.LEGAL_CHECK_VALUE 0 (s.checkValue s.fw.bank0)
    else ({ s with die := { s.die with m1Running := true, m1Failed := false } }.setBytes Ent.MEAS_LEGAL_M1 0 (legalMeasure b 1)).setNat
        Ent.LEGAL_CHECK_VALUE_M1 0 (s.checkValue s.fw.bank1)
  let s1a := if d == 0 then { s1 with die := { s1.die with flagged0 := [] } } else { s1 with die := { s1.die with flagged1 := [] } }
  let s2 := ((s1a.startBanks d).each (List.range 17) (fun z pt => z.setMeter d pt { z.meter d pt with legs := [] })).restoreRegs d (if d == 0 then b.regs0.val else b.regs1.val)
  let s3 := ((s2.lastCommit d).meterAgain d).leaveSingle
  if good then s3
  else
    let (f, z) := s3.takeFree
    z.failMeter d (low 32 f)

/-- The metering dies whose side is up and that do not run start. -/
def State.startMeters (s : State) (b : BootReport) : State :=
  let up := [0, 1].filter (fun d => s.sideUp d && !s.meterRunning d)
  let both := !s.meterRunning 0 && !s.meterRunning 1
  let s0 := { s with legal := { s.legal with
    loss := if up.isEmpty then s.legal.loss else false
    pfw := if both then none else s.legal.pfw, cycling := if both then false else s.legal.cycling } }
  s0.each up (fun z d => (z.startMeter d b).when (!(z.startMeter d b).meterFailed d) (fun y => y.rebuildSlots d))

/-- What the control dies held and lost (R76): the allocator's grants, unit reports and requests on the module bus, loops, cables, tests
and windows under way. A group action goes on from its entries, its READY reports to be had again; a cancelled one goes on repeating CANCEL
until its SFN (R55). -/
def State.dropControl (s : State) : State :=
  let parts (i : Nat) : GroupAct :=
    let go := s.aState i == Act.GO
    let gone := s.aState i == Act.CANCELLED
    ⟨s.aGroup i, s.aSfn i, (unitRefs (s.bytes Ent.ACTION_PARTICIPANTS i)).map (fun u => (⟨u, go, false, false, none⟩ : Part)),
      s.aState i != Act.ARMED, gone, false, s.frames⟩
  let gs := (List.range 1024).filter (fun i => s.aGroup i != 0 && ((1 ≤ s.aState i && s.aState i ≤ Act.GO) || s.aState i == Act.CANCELLED))
  { s with alloc := State.reset.alloc, bus := { State.reset.bus with cans := s.bus.cans }, loops := [], cables := [], points := [], tests := [], running := []
           groups := gs.map (fun i => (i, parts i)), stream := { s.stream with windows := [], cycles := 0, busNow := [], raw := [] } }

/-- What a start of every die loses besides. -/
def State.dropAll (s : State) : State :=
  let r := State.reset
  let ends := s.outlets.sess
  { s with tx := r.tx, swapAsks := [], swapNext := [], waiting := [], lc := [], halfA := r.halfA, halfB := r.halfB, convs := [], legs := [], strs := []
           ropes := s.ropes.map (fun x => (x.1, { RopeSt.none with gap := x.2.gap, run := x.2.run })), radio := { r.radio with map := s.nat Ent.HOP_MAP, next := s.nat Ent.HOP_MAP }, mons := [], stream := r.stream, overs := []
           meas := { r.meas with captures := s.meas.captures }, bill := { s.bill with restarted := true, stepped := false, mtFrame := none }
           outlets := { r.outlets with sess := ends, log := s.outlets.log }, pw := r.pw
           time := { s.time with corrections := [], stepDay := none, flagMark := 0, flagEusor := false, flagPrebex := false }
           eus := { s.eus with queue := [], flows := [], loads := [] }
           die := { s.die with lanes := 3, frameMisses := 0, diverged := 0, stopsA := [], stopsB := [], blockedA := false, blockedB := false
                               resyncFails := 0, tickB := false, misses := [], flagged0 := [], flagged1 := [], spareChecks := [], mirrorMissed := false, apart := [], checkFrom := [], checkedAt := [] }
           mirror := r.mirror }

/-- The outputs a recovery program commands (R474): coils and outlet contactors off, every other channel at its fail-safe state with
HOLD taken as OFF. -/
def State.recoveryOutputs (s : State) : State :=
  let s1 := s.allGatesOff.each (List.range 40) fun z c =>
    let fs := z.nat Ent.LC_FAILSAFE c
    let on := (z.coilString c).isNone && z.lcOwner c != 1 && (fs == 1 || fs == 3)
    let d := if fs == 3 then z.nat Ent.LC_FAILSAFE_DUTY c * 1024 / 1000 else 1024
    z.setLc c { z.lcs c with cmd := on, duty := d, asked := (d : Rat) / 1024 }
  s1.each (List.range 8) (fun z n => z.enterStr n (if z.strEnabled n then Str.OPEN else Str.DISABLED))

/-- A start with the carrier at ROPE_RET does not enumerate (R256): the stored map holds, and the rope is CLOSED. -/
def State.takeMap (s : State) (n : Nat) : State :=
  let ks := (s.monitorsOf n).filter (fun k => !s.enrolled k && s.nat Ent.MONITOR_UID k != 0)
  let s1 := s.each ks (fun z k => z.setNat Ent.MONITOR_STATE k Mon.OK)
  s1.when (s1.nat Ent.ROPE_STATE n == Rope.OFF) (fun z =>
    ((z.setNat Ent.ROPE_STATE n Rope.CLOSED).setRope n { z.rope n with carrier := true }).ropeCloses n)

/-- The outputs read back and what follows from them (R76, R277, R191, R468): fail-safe stores, channels, converters, strings, sessions. -/
def State.adoptOutputs (s : State) (full : Bool) : State :=
  let s1 := (s.loadStores.placeMonitors.each (List.range 40) (fun z c =>
    let k := z.lcs c
    let d := if k.on then k.gotDuty else 0
    (z.setLc c { k with cmd := k.on, duty := d, asked := (d : Rat) / 1024 }).lcUpdate c)).placeConverters
  let s2 := s1.restartStrings.restartSessions
  let s3 := s2.each s.plant.rstStrings (fun z n => (z.enterStr n Str.CONNECTED).stringCause n 16 0)
  let s4 := { s3 with plant := { s3.plant with rstStrings := [] } }
  (s4.each ((List.range 8).filter (fun n => decide (0 < s4.nat Ent.MONITOR_COUNT n))) (fun z n =>
    if z.ropeSeen n then z.takeMap n else z.when full (fun y => y.startEnum n))).each (List.range 8) (fun z o => z.refreshOutlet o)

/-- A control die takes control at the end of its start (R59, R472); one that follows a stop in RECOVERY or TEST goes on there (R470). A stop that
found no standby is told with the code the power die kept (R67). -/
def State.takeControl (s : State) (die : Nat) (b : BootReport) : State :=
  let cause := s.plant.startCause
  let full := decide (cause ≤ 2)
  let before := s.time.state
  let lastSfn := s.time.storedSfn
  let s1 := (s.each b.losses State.loseCopy).loadPersistent full s.sesLive
  let s2 := (if full then s1.dropAll else s1).applySump b.sumpOk
  let s3 := ((s2.dropControl.startTime b.elapsed).loadEstimator.startCells s.nvCells).startRest before lastSfn
  let s4 := (s3.startIdentity b).startRoots b
  let s5 := (s4.startImages die b).startMeters b
  let s6 := { s5.startKeys with
    pw := { s5.pw with active := die, silent := 0, latched := false }
    mirror := State.reset.mirror
    plant := { s5.plant with waitingBoot := none, toSleep := false, toRecovery := false, startCause := 5 } }
  let s7 := (((s6.setStanding die .active).setNat Ent.ACTIVE_CONTROL_DIE 0 die).bump Ent.START_COUNT).setNat Ent.LAST_START_CAUSE 0 cause
  let s8 := (s7.placeUnits.fitNat Ent.BOOT_TIME 0 ((s.ticks - s.plant.released) / 20)).setWin s.plant.inWindow
  let s9 := match s8.die.unserved with
    | some (d, _, cls) =>
      let kept := ((if d == 0 then s.pw.yieldA else s.pw.yieldB).map Prod.fst).getD 0
      { s8 with die := { s8.die with unserved := none, quiet := none } }.raiseWith (d != die) Evt.DIE_YIELD d kept cls
    | none => s8
  let recover := !s9.keys.held || (!b.slot0 && !b.slot1)
  let st := s.devState
  if st == Dev.RECOVERY || st == Dev.TEST then s9.loadStores.recoveryOutputs.restartSessions.placePort.refreshDevice
  else if recover then ((s9.loadStores.recoveryOutputs.restartSessions.placePort).closeKeys).setDevice Dev.RECOVERY
  else
    let z := ((s9.startEusor.placeNodes (fun _ => false)).adoptOutputs full).placePort
    z.setDevice (if s.plant.toSleep then Dev.SLEEP else Dev.DEGRADED)

/-- PREFERRED_DIE as ST holds it before a start has read it. -/
def State.preferredDie (s : State) : Nat :=
  ((Tab.find (loadTable s.nvAct) (Ent.PREFERRED_DIE.key 0)).map (fun v => v.toInt.toNat)).getD 0

/-- DIE_BOOT_COMPLETE (R59, R472): beside an active die it waits for its resynchronisation, and its side's metering die starts, and one that is to run a
staged image fails the preparation with any other (R441); the
preferred die takes control, another waits for it; after a stop without a standby the first die takes control (R76, R79). -/
def execDieBootComplete (die : Fin 2) (b : BootReport) (s : State) : Host.Outcome State Fault Refusal :=
  let d := die.val
  if !s.sideUp d || s.standing d != .off || s.blocked d then ok s
  else
    let s0 := if d == 0 then { s with die := { s.die with bootA := some s.ticks, imageA := mainMeasure b } }
      else { s with die := { s.die with bootB := some s.ticks, imageB := mainMeasure b } }
    if s.standing (1 - d) == .active then
      let s1 := if s.meterRunning d then s0 else s0.startMeter d b
      match s1.fw.main with
      | some p =>
        if !p.done && s1.fw.trial.isNone && mainMeasure b != s1.bytes Ent.SLOT_MEASUREMENT p.slot then
          let (f, z) := s1.takeFree
          ok (z.failPrep p 1 (freeStatus f))
        else ok s1
      | none => ok s1
    else if s.devState != Dev.START && s.die.unserved.isNone then ok s
    else if s.plant.startCause == 5 || s.devState != Dev.START || s.preferredDie == d then ok (s0.takeControl d b)
    else ok { s0 with plant := { s0.plant with waitingBoot := some (d, b) } }

/-- PREFERRED_DIE_TIMEOUT (R59): 5 s after the other die's boot. -/
def execPreferredDieTimeout (s : State) : Host.Outcome State Fault Refusal :=
  match s.plant.waitingBoot with
  | none => ok s
  | some (d, b) =>
    let at_ := if d == 0 then s.die.bootA else s.die.bootB
    match at_ with
    | some t => if s.devState == Dev.START && s.standing d == .off && s.sideUp d && decide (s.ticks ≥ t + secTicks 5) then ok (s.takeControl d b) else ok s
    | none => ok s

end Sys2Proof.Machine
end

