-- ==== Sys2Proof/Machine/Constraints.lean ====
section
/-!
DEFINITION. The cross-entry constraints a set swap checks (R89), group by group in the order of R89, over a candidate
state `c` whose active set is the shadow set under test. Each answers the TARGET (R42) of the first entry that fails.
-/
namespace Sys2Proof.Machine
open Sys2Proof

/-- The first of `n` instances of an entry that fails a check, as a TARGET. -/
def failAt (n : Nat) (e : Entry) (bad : Nat → Bool) (j : Nat := 0) : Option Nat :=
  ((List.range n).find? bad).map (fun i => e.target i j)

/-- A list names something twice. -/
def repeats (l : List Nat) : Bool := !decide l.Nodup

/-- The channel numbers of a list that name a channel. -/
def namedOf (l : List Nat) : List Nat := l.filter (fun x => x != 0xFF)

/-- Group 1: site limits (R122). -/
def State.limitFails (c : State) : List (Option Nat) :=
  let sum (e : Entry) : Nat := ((List.range 16).map (fun f => c.nat e f)).sum
  [failAt 1 Ent.GRID_IMPORT_LIMIT (fun _ => decide (c.nat Ent.GRID_IMPORT_LIMIT < sum Ent.FE_HARD_CAP_IMPORT)),
   failAt 1 Ent.GRID_EXPORT_LIMIT (fun _ => decide (c.nat Ent.GRID_EXPORT_LIMIT < sum Ent.FE_HARD_CAP_EXPORT)),
   failAt 64 Ent.REACH_MASK (fun m => decide (4 < ((List.range 8).filter (fun o => bit (c.nat Ent.REACH_MASK m) o)).length))]

/-- Attachments of the fitted units: unit (modules 0–63, front-end units 64–79), channel and node, alternates included
(R137). -/
def State.attachments (c : State) : List (Nat × Nat × Nat) :=
  let of (u : Nat) (ch node ach anode : Nat) : List (Nat × Nat × Nat) :=
    if ch == 0xFF then [] else (u, ch, node) :: (if ach == 0xFF then [] else [(u, ach, anode)])
  (List.range 64).flatMap (fun m => of m (c.nat Ent.MODULE_BUS_CHANNEL m) (c.nat Ent.MODULE_BUS_NODE m)
      (c.nat Ent.MODULE_BUS_ALT_CHANNEL m) (c.nat Ent.MODULE_BUS_ALT_NODE m)) ++
    (List.range 16).flatMap (fun f => of (64 + f) (c.nat Ent.FE_BUS_CHANNEL f) (c.nat Ent.FE_BUS_NODE f)
      (c.nat Ent.FE_BUS_ALT_CHANNEL f) (c.nat Ent.FE_BUS_ALT_NODE f))

/-- An attachment's node is outside the range of its kind, or another unit's attachment holds the same channel and node. -/
def nodeFault (l : List (Nat × Nat × Nat)) (x : Nat × Nat × Nat) : Bool :=
  (if x.1 < 64 then decide (15 < x.2.2) else !(decide (16 ≤ x.2.2) && decide (x.2.2 ≤ 19))) ||
    l.any (fun y => y.2 == x.2 && y.1 != x.1)

/-- Group 2: module bus nodes and channel loads (R137). -/
def State.busFails (c : State) : List (Option Nat) :=
  let l := c.attachments
  let bad (u : Nat) : Bool := (l.filter (fun x => x.1 == u)).any (nodeFault l)
  let load (ch : Nat) (kind : Nat → Bool) : Nat := (l.filter (fun x => x.2.1 == ch && kind x.1)).length
  [failAt 64 Ent.MODULE_BUS_NODE bad, failAt 16 Ent.FE_BUS_NODE (fun f => bad (64 + f)),
   failAt 4 Ent.BITRATE_NOMINAL (fun ch =>
     let fast := c.nat Ent.BITRATE_NOMINAL ch == 1000000
     decide ((if fast then 16 else 8) < load ch (fun u => decide (u < 64))) ||
       decide ((if fast then 4 else 2) < load ch (fun u => decide (64 ≤ u))))]

/-- Group 3: outlet resources (R163). -/
def State.outletFails (c : State) : List (Option Nat) :=
  let r (o : Nat) := resourcesOf (fun e n => c.nat e n) o
  let clash (o : Nat) : Bool :=
    repeats (namedOf (r o).1) || repeats (namedOf (r o).2) ||
      (List.range 8).any (fun p => p != o &&
        ((namedOf (r o).1).any (fun x => (r p).1.contains x) || (namedOf (r o).2).any (fun x => (r p).2.contains x)))
  [failAt 8 Ent.CONTACTOR_CHANNEL clash,
   failAt 8 Ent.CONTACTOR_CHANNEL (fun o => c.flag Ent.OUTLET_ENABLE o && ((r o).1.contains 0xFF || (r o).2.contains 0xFF))]

/-- Group 4: the session entries (Table 7-10); group 5: the cable limit (Table 8-9). -/
def State.sessionFails (c : State) : List (Option Nat) :=
  [failAt 1 Ent.ISO_FAULT (fun _ => decide (c.nat Ent.ISO_WARN ≤ c.nat Ent.ISO_FAULT)),
   failAt 1 Ent.CONFIRM_LOW (fun _ => !(decide (c.nat Ent.CONFIRM_LOW < c.nat Ent.CONFIRM_HIGH) &&
     decide (c.nat Ent.CONFIRM_HIGH < c.nat Ent.CONFIRM_OPEN))),
   failAt 8 Ent.CABLE_T_LIMIT (fun o => decide (c.rat Ent.CABLE_TRIP_TEMP o ≤ c.rat Ent.CABLE_T_LIMIT o))]

/-- A source binding names an instance and a quantity of its kind (Tables 8-3, 9-1). -/
def sourceValid (b : Nat) : Bool :=
  let i := Bind.inst b
  let q := Bind.quantity b
  match Bind.kind b with
  | 0 => i == 0 && q == 0
  | 1 => decide (i < 96) && decide (q ≤ 2)
  | 2 => decide (i < 64) && q == 0
  | 3 => decide (i < 64) && q == 0
  | 4 => decide (i < 8) && decide (q ≤ 4)
  | 5 => decide (i < 8) && decide (q ≤ 6)
  | 6 => decide (i < 128)
  | _ => false

/-- Load channels that loops name as their targets. -/
def State.loopChannels (c : State) : List Nat :=
  ((List.range 64).filter (fun l => Bind.kind (c.nat Ent.OUT_TARGET l) == 1)).map (fun l => Bind.inst (c.nat Ent.OUT_TARGET l))

/-- A loop's source fails: it names no valid source, its own output, or a loop whose DIVIDER its own does not divide
(R197, R202). -/
def State.sourceBad (c : State) (e : Entry) (l : Nat) : Bool :=
  let b := c.nat e l
  let src := c.nat Ent.LOOP_DIVIDER (Bind.inst b)
  !sourceValid b || (Bind.kind b == 2 && (Bind.inst b == l || src % c.nat Ent.LOOP_DIVIDER l != 0))

/-- Group 6: loops (R202). -/
def State.loopFails (c : State) : List (Option Nat) :=
  let shared (l : Nat) : Bool := c.flag Ent.LOOP_ENABLE l && Bind.kind (c.nat Ent.OUT_TARGET l) != 0 &&
    (List.range 64).any (fun m => m != l && c.flag Ent.LOOP_ENABLE m && c.nat Ent.OUT_TARGET m == c.nat Ent.OUT_TARGET l)
  let outletChans := (List.range 8).flatMap (fun o => [c.nat Ent.CONTACTOR_CHANNEL o, c.nat Ent.LOCK_CHANNEL o])
  let unstable (l k : Nat) : Bool := decide (k < c.nat Ent.SECTION_COUNT l) &&
    !(decide (ratAbs (c.rat Ent.LOOP_A2 l k) < 1) && decide (ratAbs (c.rat Ent.LOOP_A1 l k) < 1 + c.rat Ent.LOOP_A2 l k))
  [failAt 64 Ent.LOOP_DIVIDER (fun l => !([1, 2, 4, 5, 10, 20].contains (c.nat Ent.LOOP_DIVIDER l)) ||
     decide (c.nat Ent.LOOP_DIVIDER l ≤ c.nat Ent.LOOP_PHASE l)),
   (List.range 64).findSome? (fun l =>
     ([Ent.REF_SOURCE, Ent.FB_SOURCE, Ent.FF_SOURCE].find? (fun e => c.sourceBad e l)).map (fun e => e.target l)),
   failAt 64 Ent.OUT_TARGET (fun l => shared l ||
     (Bind.kind (c.nat Ent.OUT_TARGET l) == 1 && outletChans.contains (Bind.inst (c.nat Ent.OUT_TARGET l)))),
   failAt 64 Ent.LOOP_OUT_MIN (fun l => decide (c.rat Ent.LOOP_OUT_MAX l < c.rat Ent.LOOP_OUT_MIN l)),
   failAt 64 Ent.SECTION_COUNT (fun l => decide (8 < c.nat Ent.SECTION_COUNT l)),
   (List.range 64).findSome? (fun l => ((List.range 8).find? (unstable l)).map (fun k => Ent.LOOP_A1.target l k))]

/-- Group 7: phases and groups (R234, R492). -/
def State.phaseFails (c : State) : List (Option Nat) :=
  let grp (p : Nat) : Nat := c.nat Ent.PHASE_GROUP p
  let of (g : Nat) : List Nat := (List.range 32).filter (fun p => grp p == g)
  let volts (p : Nat) : Rat := c.rat Ent.PHI_TRIP p / c.rat Ent.PHI_SCALE p
  let all := namedOf ((List.range 32).map (fun p => c.nat Ent.PHASE_I_MCH p) ++
    (List.range 8).flatMap (fun g => [c.nat Ent.BUS_V_MCH g, c.nat Ent.STRING_SIDE_V_MCH g]))
  let lacks (g : Nat) : Bool := decide ((of g).length < c.nat Ent.MIN_PHASES g) || c.nat Ent.BUS_V_MCH g == 0xFF ||
    c.nat Ent.STRING_SIDE_V_MCH g == 0xFF || (of g).any (fun p => c.nat Ent.PHASE_I_MCH p == 0xFF)
  [failAt 32 Ent.PHASE_GROUP (fun p => grp p != 0xFF && decide (8 < (of (grp p)).length)),
   failAt 32 Ent.PHI_TRIP (fun p =>
     (grp p != 0xFF && decide (c.rat Ent.PHI_TRIP p ≤ 11 / 10 * c.rat Ent.PHASE_I_RATED (grp p))) ||
       decide (volts p < 1 / 10) || decide (4 < volts p)),
   failAt 8 Ent.GROUP_ENABLE (fun g => (c.flag Ent.GROUP_ENABLE g && lacks g) || repeats all),
   failAt 8 Ent.ADD_FRACTION (fun g => decide (c.nat Ent.ADD_FRACTION g ≤ c.nat Ent.SHED_FRACTION g))]

/-- Group 8: cell monitoring (R236). -/
def State.monitorFails (c : State) : List (Option Nat) :=
  let lo (n : Nat) : Nat := c.nat Ent.MONITOR_FIRST n
  let hi (n : Nat) : Nat := lo n + c.nat Ent.MONITOR_COUNT n
  let map := c.nat Ent.HOP_MAP
  [failAt 8 Ent.MONITOR_COUNT (fun n => decide (lo n < hi n) && (decide (256 < hi n) ||
     (List.range 8).any (fun m => m != n && decide (lo n < hi m) && decide (lo m < hi n) && decide (lo m < hi m)))),
   failAt 8 Ent.CELL_OV_LOCAL (fun n => decide (c.nat Ent.CELL_OV_LOCAL n ≤ c.nat Ent.CELL_UV_LOCAL n)),
   failAt 1 Ent.HOP_MAP (fun _ => decide (2 ^ 20 ≤ map) || decide (((List.range 20).filter (bit map)).length < 15)),
   failAt 1 Ent.AVG_WINDOW (fun _ => decide (100 < c.nat Ent.SAMPLE_START + c.nat Ent.AVG_WINDOW))]

/-- A table of `n` points whose I16 temperatures rise strictly. -/
def tempsRise (b : List Byte) (n step : Nat) : Bool :=
  (List.range (n - 1)).all (fun i => decide (signed 16 (leAt b (step * i) 2) < signed 16 (leAt b (step * (i + 1)) 2)))

/-- U16 values that rise strictly. -/
def valuesRise (b : List Byte) (start n : Nat) : Bool :=
  (List.range (n - 1)).all (fun i => decide (leAt b (start + 2 * i) 2 < leAt b (start + 2 * i + 2) 2))

/-- Group 9: strings (R264). Items 1 to 3 bind enabled strings. -/
def State.stringFails (c : State) : List (Option Nat) :=
  let on (n : Nat) : Bool := c.flag Ent.STRING_ENABLE n
  let coils (n : Nat) : List Nat := [c.nat Ent.POS_CHANNEL n, c.nat Ent.NEG_CHANNEL n, c.nat Ent.PRE_CHANNEL n]
  let others (n : Nat) : List Nat := ((List.range 8).filter (fun m => m != n)).flatMap coils ++
    (List.range 8).flatMap (fun o => [c.nat Ent.CONTACTOR_CHANNEL o, c.nat Ent.LOCK_CHANNEL o, c.nat Ent.PUMP_CHANNEL o]) ++
    c.loopChannels
  let mchs (n : Nat) : List Nat := [c.nat Ent.STRING_V_MCH n, c.nat Ent.STRING_I_MCH n, c.nat Ent.STRING_IMD_MCH n]
  let taken (n : Nat) : List Nat := ((List.range 8).filter (fun m => m != n)).flatMap mchs ++
    (List.range 8).flatMap (fun o => (resourcesOf (fun e k => c.nat e k) o).2) ++
    (List.range 32).map (fun p => c.nat Ent.PHASE_I_MCH p) ++
    (List.range 8).flatMap (fun g => [c.nat Ent.BUS_V_MCH g, c.nat Ent.STRING_SIDE_V_MCH g])
  let ordered (n : Nat) : Bool := decide (c.nat Ent.CELL_UV_LOCAL n < c.nat Ent.CELL_V_TRIP_LOW n) &&
    decide (c.nat Ent.CELL_V_TRIP_LOW n < c.nat Ent.CELL_V_MIN n) && decide (c.nat Ent.CELL_V_MIN n < c.nat Ent.CELL_V_MAX n) &&
    decide (c.nat Ent.CELL_V_MAX n < c.nat Ent.CELL_V_TRIP_HIGH n) && decide (c.nat Ent.CELL_V_TRIP_HIGH n < c.nat Ent.CELL_OV_LOCAL n) &&
    decide (c.int Ent.CELL_T_TRIP n < c.int Ent.CELL_OT_LOCAL n)
  [failAt 8 Ent.STRING_ENABLE (fun n => on n && !c.flag Ent.GROUP_ENABLE n),
   failAt 8 Ent.POS_CHANNEL (fun n => on n && (repeats (coils n) || !(coils n).all (fun x => x / 20 == n / 4 && decide (x < 40)) ||
     (coils n).any (fun x => (others n).contains x))),
   failAt 8 Ent.STRING_V_MCH (fun n => on n && ((mchs n).contains 0xFF || ((mchs n).take 2).any (fun x => (taken n).contains x))),
   failAt 8 Ent.CELL_V_MAX (fun n => !ordered n),
   (List.range 8).findSome? (fun n =>
     ([Ent.I_DIS_TABLE, Ent.I_CHG_TABLE].find? (fun e => !tempsRise (c.bytes e n) 8 4)).map (fun e => e.target n)),
   failAt 8 Ent.STR_ISO_FAULT (fun n => decide (c.nat Ent.STR_ISO_WARN n ≤ c.nat Ent.STR_ISO_FAULT n))]

/-- Group 10: estimation (R304). -/
def State.estimationFails (c : State) : List (Option Nat) :=
  let inRange (b : List Byte) (start n step lo hi : Nat) : Bool :=
    (List.range n).all (fun i => decide (lo ≤ leAt b (start + step * i) 2) && decide (leAt b (start + step * i) 2 ≤ hi))
  [failAt 8 Ent.OCV_TABLE (fun n => let b := c.bytes Ent.OCV_TABLE n
     !(tempsRise b 4 2 && (List.range 4).all (fun k => valuesRise b (8 + 42 * k) 21))),
   failAt 8 Ent.CAP_RATE_TABLE (fun n => let b := c.bytes Ent.CAP_RATE_TABLE n
     !(tempsRise b 4 2 && valuesRise b 8 4 && inRange b 16 16 2 1 1000)),
   failAt 8 Ent.R_TEMP_TABLE (fun n => let b := c.bytes Ent.R_TEMP_TABLE n
     !(tempsRise b 8 4 && inRange b 2 8 4 100 10000)),
   failAt 8 Ent.TAU1 (fun n => decide (c.rat Ent.TAU2 n ≤ c.rat Ent.TAU1 n))]

/-- Group 11: measurement channels (R315). -/
def State.channelFails (c : State) : List (Option Nat) :=
  let room := min 3840 (240 * min (c.dieSlices 0) (c.dieSlices 1))
  [failAt 1 Ent.MCH_CLASS (fun _ => decide (room < demandOf (fun ch => c.nat Ent.MCH_CLASS ch) false)),
   failAt 96 Ent.MCH_LEGAL (fun ch => c.flag Ent.MCH_LEGAL ch && !([1, 2].contains (c.nat Ent.MCH_CLASS ch))),
   failAt 96 Ent.MCH_SENSOR_SCALE (fun ch => decide (c.rat Ent.MCH_SENSOR_SCALE ch = 0)),
   failAt 1 Ent.CAPTURE_CHANNEL (fun _ => c.nat Ent.MCH_CLASS (c.nat Ent.CAPTURE_CHANNEL) == 0)]

/-- The channels a point's connection requires, from the low byte up (Table 14-1). -/
def pointNeeds (c : State) (pt : Nat) : List Nat × List Nat :=
  let n := if pt == 0 then (if c.nat Ent.CONNECTION 0 == 1 then 2 else 3) else 1
  ((List.range n).map (fun i => field (c.nat Ent.U_CHANNELS pt) (8 * i) 8),
   (List.range n).map (fun i => field (c.nat Ent.I_CHANNELS pt) (8 * i) 8))

/-- Engineering value of a channel at full scale, calibration aside (R311). -/
def State.fullValue (c : State) (ch : Nat) : Rat :=
  ratAbs (c.rat Ent.MCH_SENSOR_SCALE ch) * fullScale (c.nat Ent.MCH_RANGE ch) + c.rat Ent.MCH_SENSOR_OFFSET ch

/-- Group 12: metering points (R326). Item 2 binds enabled points. -/
def State.pointFails (c : State) : List (Option Nat) :=
  let on (pt : Nat) : Bool := c.flag Ent.POINT_ENABLE pt
  let needs (pt : Nat) : List Nat := (pointNeeds c pt).1 ++ (pointNeeds c pt).2
  let elsewhere (pt : Nat) : List Nat := ((List.range 17).filter (fun x => x != pt && on x)).flatMap c.pointChannels
  let own (pt : Nat) : List Nat :=
    if pt ≤ 8 then [c.nat Ent.VOLTAGE_MCH (pt - 1), c.nat Ent.CURRENT_MCH (pt - 1)]
    else [c.nat Ent.STRING_V_MCH (pt - 9), c.nat Ent.STRING_I_MCH (pt - 9)]
  [failAt 17 Ent.POINT_ENABLE (fun pt => on pt &&
     ((needs pt).any (fun ch => decide (96 ≤ ch)) || (c.pointChannels pt).any (fun ch => !c.flag Ent.MCH_LEGAL ch) ||
       (c.pointChannels pt).any (fun ch => (elsewhere pt).contains ch) ||
       (pt != 0 && (needs pt != own pt || (c.pointChannels pt).length != 2)))),
   failAt 17 Ent.I_NOMINAL (fun pt => on pt &&
     (decide (c.rat Ent.U_NOMINAL pt ≤ 0) || decide (c.rat Ent.I_NOMINAL pt ≤ 0) ||
       (pointNeeds c pt).1.any (fun ch => decide (c.fullValue ch < 6 / 5 * c.rat Ent.U_NOMINAL pt)) ||
       (pointNeeds c pt).2.any (fun ch => decide (c.fullValue ch < 6 / 5 * c.rat Ent.I_NOMINAL pt)))),
   failAt 17 Ent.R_TRANSFER (fun pt => (pt == 0 || decide (9 ≤ pt)) && decide (c.rat Ent.R_TRANSFER pt ≠ 0))]

/-- Group 13: billing (R357). -/
def State.billingFails (c : State) : List (Option Nat) :=
  let b := c.bytes Ent.PROFILE_CHANNELS
  [failAt 1 Ent.PROFILE_CHANNELS (fun _ => (List.range 48).any (fun i => leAt b (2 * i) 2 != 0xFFFF &&
     (decide (16 < leAt b (2 * i + 1) 1) || decide (13 < leAt b (2 * i) 1)))),
   failAt 4 Ent.CAL_SEASONS (fun k => !c.calendarInRange k ||
     ((c.nat Ent.ACTIVE_CALENDAR == k || c.nat Ent.CAL_ACTIVATE k != 0) && !c.calendarValid k))]

/-- Group 14: load channels (R378). -/
def State.loadFails (c : State) : List (Option Nat) :=
  let owner (ch : Nat) : Nat := ownerOf (fun e n => c.nat e n) ch
  let modes (o : Nat) : List Nat := match o with
    | 1 | 3 => [1, 3]
    | 2 => [1]
    | 4 => [2]
    | _ => [0, 1, 2, 3]
  let named (e : Entry) (ch : Nat) : Bool := (List.range 8).any (fun o => c.nat e o == ch)
  [failAt 40 Ent.LC_MODE (fun ch => !(modes (owner ch)).contains (c.nat Ent.LC_MODE ch)),
   failAt 40 Ent.LC_FAILSAFE (fun ch => (named Ent.LOCK_CHANNEL ch && c.nat Ent.LC_FAILSAFE ch == 0) ||
     (named Ent.PUMP_CHANNEL ch && c.nat Ent.LC_FAILSAFE ch != 1) ||
     (c.nat Ent.LC_FAILSAFE ch == 3 && c.nat Ent.LC_MODE ch != 2))]

/-- Group 15: Eusor node identities (Table 17-8); group 16: vehicle key slots (Table 18-8). -/
def State.identityFails (c : State) : List (Option Nat) :=
  [failAt 128 Ent.NODE_UID (fun n => c.flag Ent.NODE_ENABLE n &&
     (List.range 128).any (fun m => m != n && c.flag Ent.NODE_ENABLE m && c.nat Ent.NODE_UID m == c.nat Ent.NODE_UID n)),
   ((List.range 8).find? (fun n => !c.seccSlotOk (c.nat Ent.SECC_SLOT 0 n))).map (fun n => Ent.SECC_SLOT.target 0 n)]

/-- The first constraint the shadow set fails, as the TARGET of its entry (R89); every failure is RANGE. -/
def State.swapFails (s : State) : Option Nat :=
  let c := { s with actSet := s.shdSet }
  (c.limitFails ++ c.busFails ++ c.outletFails ++ c.sessionFails ++ c.loopFails ++ c.phaseFails ++ c.monitorFails ++
    c.stringFails ++ c.estimationFails ++ c.channelFails ++ c.pointFails ++ c.billingFails ++ c.loadFails ++
    c.identityFails).findSome? id

end Sys2Proof.Machine
end

