-- ==== Sys2Proof/Machine/ConverterRows.lean ====
section
/-!
DEFINITION. The commands of string converter phase control (R211 to R235).
-/
namespace Sys2Proof.Machine
open Sys2Proof

/-- GROUP_RANGE_RETURN (R212): V_L has been in range for 20 consecutive frames. -/
def execGroupRangeReturn (g : Fin 8) (s : State) : Host.Outcome State Fault Refusal :=
  let k := s.conv g.val
  if k.st == Grp.OUT_OF_RANGE && s.inRange g.val && decide (k.inFrames ≥ 20) then ok (s.startGroup g.val) else ok s

/-- ΔI_g of R214: `n` equal interleaved ripples of the pointer phase. -/
def State.groupRipple (s : State) (g p n : Nat) : Rat :=
  let vh := (s.conv g).vh
  let vl := (s.conv g).vl
  if vh ≤ 0 || vl ≤ 0 || n == 0 || (s.leg p).ind ≤ 0 then 0
  else
    let d := vl / vh
    let t := ((s.nat Ent.T_ON_TICKS g : Nat) : Rat) / 400000000 / d
    let m : Rat := ((ratFloor ((n : Rat) * d) : Int) : Rat)
    vh * t / (s.leg p).ind * (d - m / (n : Rat)) * (m + 1 - (n : Rat) * d)

/-- Σ î_p has fallen to the valley threshold at an instant (R214). -/
def State.atValley (s : State) (g p now : Nat) : Bool :=
  let r := s.lit g
  let s1 := s.each r (fun z q => z.runLeg q now)
  decide (ratSum (r.map (fun q => (s1.leg q).est)) ≤ s.sign g * s.rat Ent.I_REF g - s.groupRipple g p r.length / 2)

/-- The pointer phase is marked for shedding: it leaves the ring and the firing goes on (R223). -/
def State.shedNow (s : State) (g p : Nat) : State :=
  let s1 := (s.setPhase p Pha.SHED).setConv g { s.conv g with shed := none }
  s1.bump Ent.SHED_COUNT g

/-- PHASE_FIRE (R214, R215, R223): `at_` is the instant in steps of 2.5 ns from the start of the cycle. -/
def execPhaseFire (g : Fin 8) (at_ : Nat) (s : State) : Host.Outcome State Fault Refusal :=
  let m := g.val
  let now := s.steps + at_
  let st := (s.conv m).st
  if st != Grp.RUN && st != Grp.STOPPING && st != Grp.OUT_OF_RANGE then ok s
  else match s.nextPhase m with
    | none => ok s
    | some p =>
      if !s.atValley m p now then ok s
      else
        let s1 := if (s.conv m).shed == some p then s.shedNow m p else s
        let q := if (s.conv m).shed == some p then ((s.lit m).dropWhile (fun x => x != p)).drop 1 ++ (s1.lit m) else [p]
        match q with
        | [] => ok s1
        | x :: _ =>
          let off := cdiv ((s.conv m).minOff * 2) 5
          if (s1.leg x).lowAt + off ≤ now then ok (s1.fire m x now) else ok s1

/-- PHASE_IMBALANCE (R216): the trim has stood at a bound for 1,000 frames. -/
def execPhaseImbalance (p : Fin 32) (s : State) : Host.Outcome State Fault Refusal :=
  let k := s.leg p.val
  if k.trimRun ≥ 1000 && !k.trimTold then
    ok ((s.setLeg p.val { k with trimTold := true }).raise Evt.PHASE_IMBALANCE p.val (s.nat Ent.PHASE_TRIM p.val)
      (word 32 (ratRound (s.sign (s.phaseGroup p.val) * s.legMean p.val * 10))))
  else ok s

/-- The group trips on phase `m` (R228); its string opens by cause 7. -/
def State.tripGroup (s : State) (g m : Nat) : State :=
  let mask := ofBits ((s.phasesOf g).filter (fun p => s.phase p == Pha.TRIPPED || p == m))
  ((s.gatesOff g Grp.TRIPPED).raise Evt.GROUP_TRIP g mask s.cycle).stringCause g 7 0

/-- PHASE_FAST_TRIP (R226 to R228, R233). -/
def execPhaseFastTrip (p : Fin 32) (s : State) : Host.Outcome State Fault Refusal :=
  let m := p.val
  let g := s.phaseGroup m
  let st := s.phase m
  if !(s.firing m || st == Pha.SHED || st == Pha.TESTING) || g ≥ 8 then ok s
  else
    let s0 := (s.cancelPhaseTest m).bump Ent.FAST_TRIP_COUNT m
    let k := s0.leg m
    let trips := s.ticks :: k.trips.filter (fun t => decide (s.ticks < t + secTicks 10))
    let s1 := (s0.setPhase m Pha.TRIPPED).setLeg m { k with trips := trips, tripFrame := s.frames, offAt := 0 }
    let c := s1.conv g
    let second := match c.trip with | some (q, t) => q != m && decide (s.ticks ≤ t + 1) | none => false
    let shed := if c.shed == some m then none else c.shed
    let s2 := (s1.setConv g { c with trip := some (m, s.ticks), shed := shed }).when (c.shed == some m) (fun z => z.bump Ent.SHED_COUNT g)
    let s3 := ((s2.raise Evt.PHASE_FAST_TRIP m trips.length g).groupLimits g).loadLine g
    let s4 := if trips.length ≥ s.nat Ent.FAST_RETRY_LIMIT g then s3.failPhase m 8 Pha.FAILED else s3
    ok (if second && c.st != Grp.TRIPPED then s4.tripGroup g m else s4)

/-- FAST_TRIP_HOLD_END (R227). -/
def execFastTripHoldEnd (p : Fin 32) (s : State) : Host.Outcome State Fault Refusal :=
  let m := p.val
  let g := s.nat Ent.PHASE_GROUP m
  if s.phase m == Pha.TRIPPED && decide (s.frames ≥ (s.leg m).tripFrame + s.nat Ent.FAST_TRIP_HOLD g) then
    (if (s.conv g).st == Grp.RUN then ok (s.addPhases [m]) else if (s.conv g).st == Grp.TRIPPED then ok s else ok (s.setPhase m Pha.OFF))
  else ok s

/-- A write of GROUP_RESET (R228). -/
def applyGroupReset (g : Nat) (s : State) : State × Nat :=
  if (s.phasesOf g).any (fun p => decide (s.rat Ent.PHI_TRIP p < ratAbs (s.legAmps p))) then (s, St.CONFLICT)
  else if (s.conv g).st != Grp.TRIPPED then (s, St.ALREADY_DONE)
  else
    let s1 := s.each ((s.phasesOf g).filter (fun p => s.phase p == Pha.TRIPPED)) (fun z p => z.setPhase p Pha.OFF)
    (s1.setConv g { s1.conv g with st := if s.flag Ent.GROUP_ENABLE g then Grp.READY else Grp.OFF, trip := none }, St.OK)

/-- GROUP_RESET (R228). -/
def execGroupReset (c : Client) (g : Nat) (v : Nat) (s : State) : Host.Outcome State Fault Refusal :=
  ok (s.clientCommand c Ent.GROUP_RESET g (.num v) (applyGroupReset g))

/-- The cause of a phase that has met a condition of Table 9-2 long enough, in table order. -/
def sickCause (l : List Nat) : Option Nat :=
  (((l.zip [2, 2, 20, 20, 20, 20]).zip [3, 4, 1, 2, 5, 1]).find? (fun x => decide (x.1.1 ≥ x.1.2))).map Prod.snd

/-- PHASE_FAILED (R230, R231). -/
def execPhaseFailed (p : Fin 32) (s : State) : Host.Outcome State Fault Refusal :=
  match sickCause (s.leg p.val).sick with
  | some c => if s.phase p.val == Pha.ON then ok (s.failPhase p.val c Pha.FAILED) else ok s
  | none => ok s

/-- PHASE_OVERLOAD (R229). -/
def execPhaseOverload (p : Fin 32) (s : State) : Host.Outcome State Fault Refusal :=
  let g := s.phaseGroup p.val
  if s.firing p.val && decide ((s.leg p.val).overRun ≥ msTicks (s.nat Ent.OVERLOAD_TIME g)) then ok (s.failPhase p.val 6 Pha.FAILED) else ok s

/-- STEP_HOLD_END (R225). -/
def execStepHoldEnd (g : Fin 8) (s : State) : Host.Outcome State Fault Refusal :=
  match (s.conv g.val).stepHold with
  | some t => if s.ticks ≥ t then ok (s.setConv g.val { s.conv g.val with stepHold := none }) else ok s
  | none => ok s

/-- GROUP_STOP_COMPLETE (R221): below 2 % of its rating, or 2 frames after the command. -/
def execGroupStopComplete (g : Fin 8) (s : State) : Host.Outcome State Fault Refusal :=
  let m := g.val
  match (s.conv m).stopAt with
  | some t =>
    let low_ := decide (ratAbs (s.groupAmps m) < ((s.nAv m : Nat) : Rat) * s.rat Ent.PHASE_I_RATED m / 50)
    if (s.conv m).st == Grp.STOPPING && (low_ || decide (s.ticks ≥ t + 40)) then ok (s.gatesOff m Grp.READY) else ok s
  | none => ok s

/-- A phase test begins (R232). -/
def State.startPhaseTest (s : State) (p : Nat) (slot : Option Nat) : State :=
  ((s.setLeg p { s.leg p with prior := s.phase p }).beginTest (Ent.PHASE_TEST.target p) slot).setPhase p Pha.TESTING

/-- A phase outside its idle window: SHED or FAILED for at least 1 frame while its group is in RUN (R232). -/
def State.phaseInService (s : State) (p : Nat) : Bool :=
  !((s.phase p == Pha.SHED || s.phase p == Pha.FAILED) && (s.conv (s.phaseGroup p)).st == Grp.RUN) || decide (s.ticks < (s.leg p).since + 20)

/-- A write of PHASE_TEST (R232). -/
def applyPhaseTest (p : Nat) (v : Nat) (queue : Bool) (s : State) : State × Nat :=
  s.testOrQueue (Ent.PHASE_TEST.target p) (leBytes 1 v) queue (s.phaseInService p) (fun z slot => z.startPhaseTest p slot)

/-- PHASE_TEST (R232). -/
def execPhaseTest (c : Client) (p : Nat) (v : Nat) (s : State) : Host.Outcome State Fault Refusal :=
  ok (s.clientCommand c Ent.PHASE_TEST p (.num v) (applyPhaseTest p v c.queue))

/-- PHASE_TEST_DONE (R232): the window maximum against the predicted peak, and whether the comparator agrees. -/
def execPhaseTestDone (p : Fin 32) (comparator : Bool) (s : State) : Host.Outcome State Fault Refusal :=
  let m := p.val
  if s.phase m != Pha.TESTING then ok s
  else
    let g := s.phaseGroup m
    let want := (s.vHigh g - s.vLow g) * 2 / 1000000 / s.rat Ent.L_PHASE m
    let got := s.chanMax (s.nat Ent.PHASE_I_MCH m)
    let good := comparator && decide (ratAbs (got - want) ≤ ratAbs want * 3 / 10)
    let st := if good then St.OK else St.RANGE
    let k := s.leg m
    let s1 := ((s.endTest (Ent.PHASE_TEST.target m) st).setNat Ent.PHASE_TEST_RESULT m st).setPhase m k.prior
    ok ((s1.setLeg m { s1.leg m with passed := k.passed || good }).raise Evt.PHASE_TEST_RESULT m st (word 32 (ratRound (got * 10))))

/-- A write of PHASE_RESET (R232). -/
def applyPhaseReset (p : Nat) (s : State) : State × Nat :=
  if s.phase p != Pha.FAILED then (s, St.ALREADY_DONE)
  else if (s.leg p).passed || (s.conv (s.phaseGroup p)).st != Grp.RUN then
    (((s.setPhase p Pha.SHED).setNat Ent.PHASE_CAUSE p 0).setLeg p { (s.setPhase p Pha.SHED).leg p with trips := [], sick := [], overRun := 0 }, St.OK)
  else (s, St.CONFLICT)

/-- PHASE_RESET (R232). -/
def execPhaseReset (c : Client) (p : Nat) (v : Nat) (s : State) : Host.Outcome State Fault Refusal :=
  ok (s.clientCommand c Ent.PHASE_RESET p (.num v) (applyPhaseReset p))

end Sys2Proof.Machine
end

