-- ==== Sys2Proof/Machine/OutletRows.lean ====
section
/-!
DEFINITION. The commands of the outlets: the vehicle's messages, the limits and trips of a session, the emergency
stop and the client's writes (R163 to R192).
-/
namespace Sys2Proof.Machine
open Sys2Proof

/-- Start a session at plug-in (R168, R169, R190). -/
def State.plugIn (s : State) (o : Nat) : State :=
  let s1 := { s with alloc := { s.alloc with ceilings := Tab.erase s.alloc.ceilings o } }
  (((s1.closeLink o).cancelOutletTests o).clearEv o).setSess o
    { Sess.none with plugAt := s.ticks, stateAt := s.ticks, startSfn := s.sfn, stepped := s.time.stepDay.isSome,
                     token := (s.sess o).token }
    |>.setNat Ent.T_COND_PEAK o (s.nat Ent.T_COND o)

/-- The outlet is UNAVAILABLE for a legal calibration alone (Table 7-7). -/
def State.onlyCalibrating (s : State) (o : Nat) : Bool :=
  s.outletCalibrating o && s.flag Ent.OUTLET_ENABLE o && !s.outlets.estopLatched && s.nat Ent.DEVICE_STATE != Dev.TEST

/-- PLUG_IN_RECOGNISED (R168, R478): 20 frames in CONNECTED; it wakes the device. From IDLE the lock goes on and the session enters CONNECTED; while
UNAVAILABLE the session ends at once with OUTLET_UNAVAILABLE (Table 7-5), but during a legal calibration only at its SessionSetupReq
(Table 7-7). An outlet
without its link die half takes no session (Table 3-5), nor does a device whose main image does not run. -/
def execPlugInRecognised (o : Fin 8) (s : State) : Host.Outcome State Fault Refusal :=
  let st := s.sesState o
  let served := (if o.val < 4 then s.die.lkA else s.die.lkB) && decide (Dev.SLEEP ≤ s.devState) && s.devState != Dev.RECOVERY
  if !served || decide ((s.line o).connected < frames20) then ok s
  else if st == Ses.IDLE || (st == Ses.UNAVAILABLE && s.onlyCalibrating o) then
    ok ((((s.plugIn o).lcCommand (s.nat Ent.LOCK_CHANNEL o) true).enter o Ses.CONNECTED).wake 1 o)
  else if st == Ses.UNAVAILABLE then ok ((((s.plugIn o).enter o Ses.CONNECTED).endSession o End.OUTLET_UNAVAILABLE false).wake 1 o)
  else ok s

/-- CONFIRMATION_LOSS (R168, R187), 3 cycles outside CONNECTED: with the contactor closed a fast stop and event 0x3009. -/
def execConfirmationLoss (o : Fin 8) (s : State) : Host.Outcome State Fault Refusal :=
  if !s.sesLive o || (s.sess o).recorded || decide ((s.line o).lost < 3) then ok s
  else if (s.sess o).closed then
    ok ((s.raise Evt.UNPLUGGED_UNDER_LOAD o (tenths (s.oAmps o)) (s.sess o).number).endSession o End.UNPLUGGED true)
  else ok (s.endSession o End.UNPLUGGED false)

/-- DISCOVERY_REQUEST (R164): answered with the port's address, SESSION_TCP_PORT and TLS, whatever it asks for. -/
def execDiscoveryRequest (o : Fin 8) (tls : Bool) (s : State) : Host.Outcome State Fault Refusal :=
  let s1 := (s.noteIn (.discoveryRequest o tls)).sendHeld ⟨.vehicle, o, .discovery, [(s.nat Ent.SESSION_TCP_PORT o : Int), 1], portAddress o⟩
  if s.sesState o == Ses.CONNECTED then ok (s1.enter o Ses.HANDSHAKE) else ok s1

/-- SECC_SLOT of the outlet names an active SECC slot (R426, Tables 18-3 and 18-4). -/
def State.seccReady (s : State) (o : Nat) : Bool :=
  let k := s.nat Ent.SECC_SLOT 0 o
  let info := s.bytes Ent.SLOT_INFO k
  decide (k < 64) && leAt info 0 1 == 2 && (field (leAt info 2 1) 0 2 == 1 || field (leAt info 2 1) 0 2 == 2)

/-- TLS_HANDSHAKE (R165, R426): the connection takes its contexts, with whether the vehicle gave its certificate; a failure leaves none and ends
the session SECURITY_FAILURE. -/
def execTlsHandshake (o : Fin 8) (good : Bool) (cert : Bool) (s : State) : Host.Outcome State Fault Refusal :=
  let s1 := s.noteIn (.tlsHandshake o good cert)
  if !s1.sesLive o then ok s1
  else if !good || !s.seccReady o then ok ((s1.closeLink o).endSession o End.SECURITY_FAILURE false)
  else ok (s1.setLine o { s1.line o with tcp := true, tls := true, cert := cert })

/-- The highest minor version of the DC namespace, major 1, that both sides hold (R166). -/
def commonMinor (l : List Namespace) : Option Nat :=
  let ms := (l.filter (fun n => n.dc && n.major == 1 && decide (n.minor ≤ Config.protocolMinor))).map Namespace.minor
  match ms with
  | [] => none
  | x :: r => some (r.foldl max x)

/-- APP_PROTOCOL_HANDSHAKE (R166, R6). -/
def execAppProtocolHandshake (o : Fin 8) (offered : List Namespace) (s : State) : Host.Outcome State Fault Refusal :=
  ok (s.onRequest (.appProtocolHandshake o offered) o Req.SUPPORTED_PROTOCOL [Ses.HANDSHAKE] fun z =>
    match commonMinor offered with
    | some m => (z.toVehicle o Req.SUPPORTED_PROTOCOL 0 0 [1, m]).enter o Ses.SETUP
    | none => (((z.toVehicle o Req.SUPPORTED_PROTOCOL 1 0 []).closeLink o).raise Evt.PROTOCOL_REFUSED o offered.length 0).endSession o
        End.PROTOCOL_NOT_SUPPORTED false)

/-- The states of SETUP and after in which a request behind SessionSetupReq is allowed (R167): not before its SessionSetupReq. -/
def State.afterSetup (s : State) (o : Nat) (states : List Nat) : List Nat := if (s.sess o).setup then states else []

/-- SERVICE_DISCOVERY_REQ (R167): the services offered, bit 0 DC and bit 1 DC_BPT, with both control modes and both
identification modes; a selection sets SERVICE and CONTROL_MODE, one of a service not offered fails. -/
def execServiceDiscoveryReq (o : Fin 8) (select : Option Nat) (mode : Fin 2) (s : State) : Host.Outcome State Fault Refusal :=
  ok (s.onRequest (.serviceDiscoveryReq o select mode) o Req.SERVICE_DISCOVERY (s.afterSetup o [Ses.SETUP, Ses.AUTHORISING, Ses.PARAMETERS]) fun z =>
    let bpt := z.flag Ent.BPT_ENABLE o
    match select with
    | none => z.toVehicle o Req.SERVICE_DISCOVERY 0 0 [1 + 2 * b2n bpt, 3, 3]
    | some k =>
      if k == 0 || (k == 1 && bpt) then
        ((z.setNat Ent.SERVICE o k).setNat Ent.CONTROL_MODE o mode.val).toVehicle o Req.SERVICE_DISCOVERY 0 0 []
      else z.toVehicle o Req.SERVICE_DISCOVERY 1 0 [])

/-- SESSION_SETUP_REQ (R170): SESSION_COUNTER goes up, the number and SessionID are set, event 0x3001. At an outlet that is
unavailable the answer is the failure code (Table 7-7). -/
def execSessionSetupReq (o : Fin 8) (random : Nat) (s : State) : Host.Outcome State Fault Refusal :=
  if s.sesLive o && s.linked o && (s.sess o).committed && (s.sess o).reason == End.OUTLET_UNAVAILABLE then
    ok ((s.noteIn (.sessionSetupReq o random)).toVehicle o Req.SESSION_SETUP 1 0 [])
  else ok (s.onRequest (.sessionSetupReq o random) o Req.SESSION_SETUP (if (s.sess o).setup then [] else [Ses.SETUP]) fun z =>
    if z.outletCalibrating o then (z.toVehicle o Req.SESSION_SETUP 1 0 []).endSession o End.OUTLET_UNAVAILABLE false
    else
      let z1 := z.bump Ent.SESSION_COUNTER
      let n := z1.nat Ent.SESSION_COUNTER
      let r := low 32 random
      let z2 := (z1.setNat Ent.SESSION_NUMBER o n).setSess o { z1.sess o with number := n, idLow := r, setup := true }
      (z2.raise Evt.SESSION_START o n r).toVehicle o Req.SESSION_SETUP 0 0 [n, r])

/-- AUTHORIZATION_REQ (R171, R426): the first fills AUTH_KIND and AUTH_IDENTITY; until the decision applies the answer is
Ongoing. A Plug & Charge chain that does not verify ends the session. -/
def execAuthorizationReq (o : Fin 8) (pnc : Bool) (chainOk : Bool) (contract : List Byte) (s : State) :
    Host.Outcome State Fault Refusal :=
  ok (s.onRequest (.authorizationReq o pnc chainOk contract) o Req.AUTHORIZATION (s.afterSetup o [Ses.SETUP, Ses.AUTHORISING, Ses.PARAMETERS]) fun z =>
    if z.sesState o == Ses.PARAMETERS then z.toVehicle o Req.AUTHORIZATION 0 0 []
    else if z.sesState o == Ses.AUTHORISING then z.toVehicle o Req.AUTHORIZATION 0 1 []
    else
      let kind := if pnc then 2 else 1
      let chain := chainOk && (z.line o).cert && z.time.state != .unset
      let id := if pnc then (if chain then contract else []) else (z.sess o).token
      let z1 := (z.setNat Ent.AUTH_KIND o kind).setBytes Ent.AUTH_IDENTITY o id
      let z2 := (z1.raise Evt.AUTH_REQUEST o (z1.sess o).number kind).setSess o { z1.sess o with verified := pnc && chain }
      if pnc && !chain then (z2.toVehicle o Req.AUTHORIZATION 1 0 []).endSession o End.SECURITY_FAILURE false
      else (z2.enter o Ses.AUTHORISING).toVehicle o Req.AUTHORIZATION 0 1 [])

/-- An error code from the vehicle ends the session (Table 7-5). -/
def State.vehicleError (s : State) (o : Nat) (p : EvParams) : State := if p.error then s.endSession o End.VEHICLE_ERROR false else s

/-- DC_CHARGE_PARAMETER_DISCOVERY (R174): the vehicle's limits are taken and the session asks for modules. -/
def execDcChargeParameterDiscovery (o : Fin 8) (p : EvParams) (s : State) : Host.Outcome State Fault Refusal :=
  ok (s.onRequest (.dcChargeParameterDiscovery o p) o Req.PARAMETER_DISCOVERY [Ses.PARAMETERS] fun z =>
    let z1 := z.setEv o p
    let n := z1.modulesWanted o
    let z2 := (z1.setSess o { z1.sess o with wanted := n }).assignModules o (n - (z1.modulesOf o).length)
    (z2.toVehicle o Req.PARAMETER_DISCOVERY 0 0 [3000, 12500]).vehicleError o p)

/-- DC_CABLE_CHECK_REQ (R174, R175): Ongoing until a module is ASSIGNED; then the contactor closes and TARGET MODE 1 goes
to every assigned module. -/
def execDcCableCheckReq (o : Fin 8) (s : State) : Host.Outcome State Fault Refusal :=
  ok (s.onRequest (.dcCableCheckReq o) o Req.CABLE_CHECK [Ses.PARAMETERS, Ses.CABLE_CHECK] fun z =>
    if z.sesState o == Ses.CABLE_CHECK then z.toVehicle o Req.CABLE_CHECK 0 (b2n (!(z.sess o).passed)) (z.present o)
    else if ((z.modulesOf o).filter z.steady).isEmpty then z.toVehicle o Req.CABLE_CHECK 0 1 (z.present o)
    else
      (((z.closeContactor o).enter o Ses.CABLE_CHECK).targetAll o 1 (ratFloor (z.checkVolts o * 10)).toNat 5).toVehicle o
        Req.CABLE_CHECK 0 1 (z.present o))

/-- CABLE_CHECK_PASS (R175): voltage and resistance have held for 1 s. -/
def execCableCheckPass (o : Fin 8) (s : State) : Host.Outcome State Fault Refusal :=
  match (s.sess o).bandSince with
  | some t =>
    if s.sesState o == Ses.CABLE_CHECK && decide (s.ticks ≥ t + secTicks 1) then ok (s.setSess o { s.sess o with passed := true })
    else ok s
  | none => ok s

/-- DC_PRE_CHARGE_REQ (R176, R181): TARGET MODE 1 at the vehicle's target voltage, 2.0 A. -/
def execDcPreChargeReq (o : Fin 8) (target : Nat) (s : State) : Host.Outcome State Fault Refusal :=
  ok (s.onRequest (.dcPreChargeReq o target) o Req.PRE_CHARGE
    (if s.sesState o == Ses.CABLE_CHECK && !(s.sess o).passed then [] else [Ses.CABLE_CHECK, Ses.PRE_CHARGE, Ses.PAUSED]) fun z =>
      let again := z.sesState o == Ses.PRE_CHARGE && (z.sess o).target == low 16 target
      let z1 := if z.sesState o == Ses.PRE_CHARGE then z else z.enter o Ses.PRE_CHARGE
      let z2 := z1.setSess o { z1.sess o with target := low 16 target }
      (if again then z2 else z2.targetAll o 1 (low 16 target) 20).toVehicle o Req.PRE_CHARGE 0 0 (z.present o))

/-- POWER_DELIVERY_REQ_START (R176, R181): TRANSFER; refused when the outlet is more than 20 V from the pre-charge target. -/
def execPowerDeliveryReqStart (o : Fin 8) (s : State) : Host.Outcome State Fault Refusal :=
  ok (s.onRequest (.powerDeliveryReqStart o) o Req.POWER_DELIVERY [Ses.PRE_CHARGE, Ses.PAUSED] fun z =>
    let k := z.sess o
    if z.sesState o == Ses.PRE_CHARGE && decide (20 < ratAbs (z.oVolts o - ((k.target : Nat) : Rat) / 10)) then
      ((z.toVehicle o Req.POWER_DELIVERY 1 0 []).raise Evt.PRECHARGE_FAIL o (tenths (z.oVolts o)) k.target).endSession o
        End.PRECHARGE_FAILED true
    else
      ((z.setSess o { k with loopAt := z.ticks, discharge := false, lastResult := 0, lastModules := [] }).enter o
        Ses.TRANSFER).toVehicle o Req.POWER_DELIVERY 0 0 [])

/-- POWER_DELIVERY_REQ_STANDBY (R181): PAUSED at zero current. -/
def execPowerDeliveryReqStandby (o : Fin 8) (s : State) : Host.Outcome State Fault Refusal :=
  ok (s.onRequest (.powerDeliveryReqStandby o) o Req.POWER_DELIVERY [Ses.TRANSFER] fun z =>
    (((z.enter o Ses.PAUSED).deliverNothing o).targetAll o 2 (z.nat Ent.EV_MAX_VOLTAGE o) 0).toVehicle o Req.POWER_DELIVERY 0 0 [])

/-- POWER_DELIVERY_REQ_STOP (R182): the session ends COMPLETED_BY_VEHICLE. -/
def execPowerDeliveryReqStop (o : Fin 8) (s : State) : Host.Outcome State Fault Refusal :=
  ok (s.onRequest (.powerDeliveryReqStop o) o Req.POWER_DELIVERY
    [Ses.PRE_CHARGE, Ses.TRANSFER, Ses.PAUSED, Ses.STOPPING, Ses.WELDING_CHECK, Ses.RELEASE] fun z =>
      let z1 := z.toVehicle o Req.POWER_DELIVERY 0 0 []
      if (z.sess o).reason == End.COMPLETED_BY_VEHICLE then z1 else z1.endSession o End.COMPLETED_BY_VEHICLE false)

/-- SESSION_STOP_REQ (R182, R189): Terminate; answered in RELEASE, and it completes the vehicle's welding detection. -/
def execSessionStopReq (o : Fin 8) (s : State) : Host.Outcome State Fault Refusal :=
  let s0 := s.noteIn (.sessionStopReq o)
  if !s0.sesLive o || !s0.linked o then ok s0
  else
    let s1 := if (s0.sess o).committed then s0 else s0.endSession o End.COMPLETED_BY_VEHICLE false
    if (s1.sess o).recorded then ok (s1.toVehicle o Req.SESSION_STOP 0 0 [])
    else ok ((s1.setSess o { s1.sess o with stopAsked := true, vehicleCheck := true }).leaveWelding o)

/-- LOOP_REQUEST (R178, R180): what the vehicle asks for is taken, and the present values and limits are reported, with
Terminate once the end has committed. -/
def execLoopRequest (o : Fin 8) (p : EvParams) (s : State) : Host.Outcome State Fault Refusal :=
  ok (s.onRequest (.loopRequest o p) o Req.LOOP [Ses.TRANSFER, Ses.PAUSED, Ses.STOPPING, Ses.WELDING_CHECK, Ses.RELEASE] fun z =>
    let z1 := if z.sesState o == Ses.TRANSFER then
        let y := z.setEv o p
        y.setSess o { y.sess o with loopAt := z.ticks, discharge := p.discharge }
      else z
    let cable := z.rat Ent.CABLE_CURRENT_LIMIT o
    let most : Rat := if cable < 3000 then cable else 3000
    (z1.toVehicle o Req.LOOP 0 0 (z.present o ++ [z.int Ent.GRANT o, ratFloor (most * 10), 12500, b2n (z.sess o).ended])).vehicleError o p)

/-- DC_WELDING_DETECTION_REQ (R188): answered with the outlet voltage; finished completes the vehicle's half. -/
def execDcWeldingDetectionReq (o : Fin 8) (finished : Bool) (s : State) : Host.Outcome State Fault Refusal :=
  ok (s.onRequest (.dcWeldingDetectionReq o finished) o Req.WELDING_DETECTION [Ses.STOPPING, Ses.WELDING_CHECK, Ses.RELEASE] fun z =>
    let z1 := z.toVehicle o Req.WELDING_DETECTION 0 0 [(tenths (z.oVolts o) : Int)]
    if finished then (z1.setSess o { z1.sess o with vehicleCheck := true }).leaveWelding o else z1)

/-- CERTIFICATE_INSTALLATION_REQ (R426): answered with the failure response code. -/
def execCertificateInstallationReq (o : Fin 8) (s : State) : Host.Outcome State Fault Refusal :=
  let s1 := s.noteIn (.certificateInstallationReq o)
  if s1.sesLive o && s1.linked o then ok (s1.toVehicle o Req.CERTIFICATE_INSTALLATION 1 0 []) else ok s1

/-- AUTH_RESPONSE (R172). -/
def execAuthResponse (c : Client) (o : Nat) (d : Decision) (s : State) : Host.Outcome State Fault Refusal :=
  ok (s.clientCommand c Ent.AUTH_RESPONSE o (.bytes (decisionBytes d)) (applyAuthResponse o (decisionOf (decisionBytes d))))

/-- EIM_TOKEN (R171). -/
def execEimToken (c : Client) (o : Nat) (token : List Byte) (s : State) : Host.Outcome State Fault Refusal :=
  ok (s.clientCommand c Ent.EIM_TOKEN o (.bytes token) (applyEimToken o token))

/-- No decision within AUTH_TIMEOUT (R173). -/
def State.authTimeout (s : State) (o : Nat) : State :=
  let policy := s.nat Ent.AUTH_OFFLINE_POLICY
  if policy == 2 || (policy == 1 && (s.sess o).verified) then s.acceptAuth o (s.nat Ent.AUTH_DEFAULT_CLASS) 0xFFFF true
  else s.endSession o End.AUTH_TIMEOUT false

/-- AUTH_TIMEOUT (R173). -/
def execAuthTimeout (o : Fin 8) (s : State) : Host.Outcome State Fault Refusal :=
  if s.sesState o == Ses.AUTHORISING && decide (s.ticks ≥ (s.sess o).stateAt + secTicks (s.nat Ent.AUTH_TIMEOUT)) then
    ok (s.authTimeout o)
  else ok s

/-- Loop requests have been silent for LOOP_SILENCE_TIMEOUT (Table 7-6). -/
def State.loopSilence (s : State) (o : Nat) : State :=
  if s.sesState o == Ses.TRANSFER && decide (s.ticks ≥ (s.sess o).loopAt + msTicks (s.nat Ent.LOOP_SILENCE_TIMEOUT)) then
    ((s.raise Evt.LINK_LOST o 1 (s.sess o).number).noteTrip o).endSession o End.LINK_LOST false
  else s

/-- FORCED_OPEN's limit has passed (R184): the contactor opens anyway. -/
def State.forceOpen (s : State) (o : Nat) : State :=
  let k := s.sess o
  let limit := if k.fast then s.nat Ent.FORCED_OPEN_DELAY else s.nat Ent.STOP_TIMEOUT
  if s.sesState o == Ses.STOPPING && decide (s.ticks ≥ k.stateAt + msTicks limit) then
    (s.openContactor o).raise Evt.FORCED_OPEN o (tenths (s.oAmps o)) k.number
  else s

/-- SESSION_STATE_LIMIT (Table 7-3). -/
def execSessionStateLimit (o : Fin 8) (s : State) : Host.Outcome State Fault Refusal :=
  let k := s.sess o
  let past (from_ d : Nat) : Bool := decide (s.ticks ≥ from_ + d)
  let setup := past k.plugAt (msTicks (s.nat Ent.SETUP_TIMEOUT))
  match s.sesState o with
  | 1 => if setup then ok (s.endSession o End.SEQUENCE_TIMEOUT false) else ok s
  | 2 => if setup then ok (s.endSession o End.SEQUENCE_TIMEOUT false) else ok s
  | 3 => if setup then ok (s.endSession o End.SEQUENCE_TIMEOUT false) else ok s
  | 4 => if past k.stateAt (secTicks (s.nat Ent.AUTH_TIMEOUT)) then ok (s.authTimeout o) else ok s
  | 5 => if past k.stateAt (secTicks (s.nat Ent.MODULE_WAIT_TIMEOUT)) then ok (s.endSession o End.NO_MODULES false) else ok s
  | 6 => if past k.stateAt (secTicks (s.nat Ent.CABLE_CHECK_TIMEOUT)) then ok (s.failCableCheck o) else ok s
  | 7 => if past k.stateAt (secTicks (s.nat Ent.PRECHARGE_TIMEOUT)) then ok (s.endSession o End.PRECHARGE_FAILED true) else ok s
  | 8 => ok (s.loopSilence o)
  | 9 => if s.nat Ent.PAUSE_LIMIT != 0 && past k.stateAt (secTicks (60 * s.nat Ent.PAUSE_LIMIT)) then
      ok (s.endSession o End.SEQUENCE_TIMEOUT false) else ok s
  | 10 => ok (s.forceOpen o)
  | 11 => if past k.stateAt (secTicks 10) then ok (s.enter o Ses.RELEASE) else ok s
  | _ => ok s

/-- INSULATION_TRIP (R177): below ISO_FAULT × voltage for 10 frames while the contactor is closed. -/
def execInsulationTrip (o : Fin 8) (s : State) : Host.Outcome State Fault Refusal :=
  if (s.sess o).closed && decide (frames10 ≤ (s.line o).iso) then ok (s.trip o End.INSULATION_FAULT (kohms (s.insulation o)))
  else ok s

/-- OUTLET_TRIP (Table 7-6): 0 over-voltage for 2 cycles, 1 over-current for 10 frames, 2 every assigned module faulted or unresponsive. The value
reported for the last has no meaning the spec states: a free one. -/
def execOutletTrip (o : Fin 8) (k : Fin 3) (s : State) : Host.Outcome State Fault Refusal :=
  if !(s.sess o).closed then ok s
  else
    let v := s.oVolts o
    let i := ratAbs (s.oAmps o)
    let ms := s.modulesOf o
    match k.val with
    | 0 => if 2 ≤ (s.line o).overV then ok (s.trip o End.OVER_VOLTAGE (tenths v)) else ok s
    | 1 => if frames10 ≤ (s.line o).overI then ok (s.trip o End.OVER_CURRENT (tenths i)) else ok s
    | _ =>
      if !ms.isEmpty && ms.all (fun m => (s.unitSt m).outputOff || s.nat Ent.MODULE_STATE m == Mod.UNRESPONSIVE) then
        let (f, s1) := s.takeFree
        ok (s1.trip o End.MODULE_FAULT (low 32 f))
      else ok s

/-- LINK_LOST (Table 7-6): the T1S link down for 10 frames, or the loop requests silent. -/
def execLinkLost (o : Fin 8) (silence : Bool) (s : State) : Host.Outcome State Fault Refusal :=
  if silence then ok (s.loopSilence o) else if frames10 ≤ (s.line o).down then ok (s.linkDown o) else ok s

/-- STOP_REQUEST (R183). -/
def execStopRequest (c : Client) (o : Nat) (v : Nat) (s : State) : Host.Outcome State Fault Refusal :=
  ok (s.clientCommand c Ent.STOP_REQUEST o (.num v) (applyStopRequest o v))

/-- OUTLET_RESET (R188, Table 7-9). -/
def execOutletReset (c : Client) (o : Nat) (v : Nat) (s : State) : Host.Outcome State Fault Refusal :=
  ok (s.clientCommand c Ent.OUTLET_RESET o (.num v) (applyOutletReset o))

/-- OUTLET_ENABLE (R163). -/
def execOutletEnable (c : Client) (o : Nat) (v : Nat) (s : State) : Host.Outcome State Fault Refusal :=
  ok (s.clientCommand c Ent.OUTLET_ENABLE o (.num v) (applyOutletEnable o v))

/-- CONTACTOR_OPEN (R184): the current has stayed below 5 A for 2 cycles of a stop. -/
def execContactorOpen (o : Fin 8) (s : State) : Host.Outcome State Fault Refusal :=
  if s.sesState o == Ses.STOPPING && decide (2 ≤ (s.line o).lowI) then ok (s.openContactor o) else ok s

/-- FORCED_OPEN (R184). -/
def execForcedOpen (o : Fin 8) (s : State) : Host.Outcome State Fault Refusal := ok (s.forceOpen o)

/-- EMERGENCY_STOP (R185): ESTOP_N low for 2 cycles. The control die starts a fast stop on every outlet with a session; each half of the
power die will open the contactor channels FORCED_OPEN_DELAY, as its own store holds it, after recognition. -/
def execEmergencyStop (s : State) : Host.Outcome State Fault Refusal :=
  if s.outlets.estopLow || decide (s.outlets.estopRun < 2) then ok s
  else
    let s1 := { s with outlets := { s.outlets with estopLow := true, estopLatched := true, estopHighAt := none
                                                   estopOpenA := some (s.ticks + msTicks s.halfA.openDelay)
                                                   estopOpenB := some (s.ticks + msTicks s.halfB.openDelay) } }
    let s2 := (s1.setNat Ent.ESTOP_STATE 0 1).raise Evt.EMERGENCY_STOP 8 1 s.sessionMask
    let s3 := s2.each ((List.range 8).filter s.sesLive) (fun z o => z.endSession o End.EMERGENCY_STOP true)
    ok (s3.each (List.range 8) (fun z o => z.refreshOutlet o))

/-- A half of the power die opens every channel its store names as an output contactor, whatever it is commanded (R185): it stays open until the
reset, or, where the reset came first, until it is commanded anew. -/
def State.estopOpen (s : State) (h : Nat) : State :=
  if !s.pwOk h then s
  else s.each ((s.half h).store.filter (fun i => i.kind == 1)) fun z i =>
    let k := z.lcs i.ch
    (z.setLc i.ch (if z.outlets.estopLatched then { k with estop := true } else { k with cmd := false })).lcUpdate i.ch

/-- ESTOP_FORCED_OPEN (R185): each power die half opens the contactor channels when its delay has passed. -/
def execEstopForcedOpen (s : State) : Host.Outcome State Fault Refusal :=
  let due (t : Option Nat) : Bool := match t with | some x => decide (x ≤ s.ticks) | none => false
  let a := due s.outlets.estopOpenA
  let b := due s.outlets.estopOpenB
  let s1 := { s with outlets := { s.outlets with estopOpenA := if a then none else s.outlets.estopOpenA
                                                 estopOpenB := if b then none else s.outlets.estopOpenB } }
  ok ((s1.when a (fun z => z.estopOpen 0)).when b (fun z => z.estopOpen 1))

/-- ESTOP_RELEASE (R186): ESTOP_N returns high. -/
def execEstopRelease (s : State) : Host.Outcome State Fault Refusal :=
  if s.outlets.estopLow && s.outlets.estopRun == 0 then
    ok { s with outlets := { s.outlets with estopLow := false, estopHighAt := some s.ticks } }
  else ok s

/-- ESTOP_RESET (R186). -/
def execEstopReset (c : Client) (v : Nat) (s : State) : Host.Outcome State Fault Refusal :=
  ok (s.clientCommand c Ent.ESTOP_RESET 0 (.num v) applyEstopReset)

/-- ESTOP_AUTO_RESET (R186): ESTOP_N has been high for 1 s. -/
def execEstopAutoReset (s : State) : Host.Outcome State Fault Refusal :=
  match s.outlets.estopHighAt with
  | some t =>
    if s.flag Ent.ESTOP_AUTO_RESET && s.outlets.estopLatched && !s.outlets.estopLow && decide (s.ticks ≥ t + secTicks 1) then
      ok s.clearEstop
    else ok s
  | none => ok s

/-- The largest module-side voltage at an outlet, in 0.1 V. -/
def State.moduleSide (s : State) (o : Nat) : Nat := (s.modulesOf o).foldl (fun a m => max a (s.unitSt m).volts) 0

/-- WELDING_CHECK (R188): 500 ms after the open command, while the vehicle side reads more than 60 V, a module above half
of it says the contactor is welded. -/
def execWeldingCheck (o : Fin 8) (s : State) : Host.Outcome State Fault Refusal :=
  let k := s.sess o
  if s.sesState o == Ses.WELDING_CHECK && !k.ownCheck && decide (s.ticks ≥ k.openAt + msTicks 500) then
    let v := s.oVolts o
    let m := s.moduleSide o
    let welded := decide (60 < v) && decide (v / 2 < ((m : Nat) : Rat) / 10)
    let s1 := s.setSess o { k with ownCheck := true, welded := k.welded || welded, faultAfter := k.faultAfter || welded }
    let s2 := if welded then
        ((s1.raise Evt.CONTACTOR_WELDED o (tenths v) m).setWeld (s.nat Ent.CONTACTOR_CHANNEL o) true).targetAll o 0 0 0
      else s1
    ok (s2.leaveWelding o)
  else ok s

/-- RELEASE_LOCK_OFF (R189, R192, R128): below 60 V in RELEASE the lock turns off, SessionStopReq is answered, the record
is written and the modules are returned. -/
def execReleaseLockOff (o : Fin 8) (s : State) : Host.Outcome State Fault Refusal :=
  let k := s.sess o
  if s.sesState o == Ses.RELEASE && k.ended && !k.recorded && decide (s.oVolts o < 60) then
    let s1 := s.lcCommand (s.nat Ent.LOCK_CHANNEL o) false
    let s2 := if k.stopAsked then s1.toVehicle o Req.SESSION_STOP 0 0 [] else s1
    let s3 := ((s2.logSession o).signSession o).setSess o { s2.sess o with recorded := true }
    ok (s3.releaseModules o)
  else ok s

/-- COUPLER_RELEASED (R189, Table 7-3): 20 frames OPEN. -/
def execCouplerReleased (o : Fin 8) (s : State) : Host.Outcome State Fault Refusal :=
  let k := s.sess o
  if (s.line o).open_ < frames20 then ok s
  else if s.sesState o == Ses.RELEASE && k.recorded then
    ok (((s.closeLink o).setSess o { k with stopAsked := false }).enter o
      (if k.faultAfter then Ses.FAULTED else if s.unavailableCause o then Ses.UNAVAILABLE else Ses.IDLE))
  else if s.sesState o == Ses.UNAVAILABLE && !s.unavailableCause o then ok (s.enter o Ses.IDLE)
  else ok s

end Sys2Proof.Machine
end

