-- ==== Sys2Proof/Machine/BusRows.lean ====
section
/-!
DEFINITION. The rows of the module bus (R135 to R162): what the device does with received frames, transmission reports,
bus-off, missing status, alternate channels and unit self-tests.
-/
namespace Sys2Proof.Machine
open Sys2Proof

/-- Note an acknowledged set-point: the one sent for the launch frame whose low 16 bits are given. -/
def State.ackSetpoint (s : State) (u ref : Nat) : State :=
  let g := s.grants u
  let sfnOf (l : Nat) : Nat := s.sfn + l - s.frames
  match g.sent.find? (fun x => low 16 (sfnOf x.launch) == low 16 ref) with
  | none => s
  | some x =>
    let sent := g.sent.map (fun y => if y.launch == x.launch && y.frame == x.frame then { y with acked := true } else y)
    let cut := sent.takeWhile (fun y => !y.acked) ++ (sent.dropWhile (fun y => !y.acked)).take 1
    let s1 := s.setGrants u { g with sent := cut, missFrames := 0, resend := g.resend && !((cut.head?.map Sent.acked).getD true) }
    if u < 64 then (s1.setNat Ent.ACK_SFN u (sfnOf x.launch)).setNat Ent.ACK_MISS u 0 else s1

/-- An UNRESPONSIVE module is heard again: its reservation ends (R121). -/
def State.endUnresponsive (s : State) (m : Nat) : State :=
  if s.nat Ent.MODULE_STATE m == Mod.UNRESPONSIVE then
    let g := s.grants m
    (s.setGrants m { g with missFrames := 0 }).setNat Ent.MODULE_STATE m
      (match g.move with
       | some k => if k.step == 0 then Mod.RAMP_DOWN else if k.step == 1 then Mod.SWITCHING else Mod.RAMP_UP
       | none => s.restState m)
  else s

/-- ACK (R148): of a set-point by its LAUNCH, of a command by its SEQ; the value sent counts whatever RESULT says. -/
def execAck (r : CanRx) (s : State) : Host.Outcome State Fault Refusal :=
  let ref := leAt r.data 0 2
  ok (s.receive (.ack r) r (frameIs r 3 0 4 4) fun s1 u =>
    if u ≥ 64 then s1
    else if leAt r.data 2 1 == 1 then
      let g := s1.grants u
      if g.cmds.any (fun c => c.seq == low 8 ref) then
        (((s1.setGrants u { g with cmds := g.cmds.map (fun c => if c.seq == low 8 ref then { c with acked := true } else c),
                                    missFrames := 0 }).setNat Ent.ACK_MISS u 0).endUnresponsive u)
      else s1
    else (s1.ackSetpoint u ref).endUnresponsive u)

/-- The result of a unit self-test (R157): shown, reported and the unit back at rest. -/
def State.finishUnitTest (s : State) (u status : Nat) : State :=
  match s.bus.tests.find? (fun t => t.unit == u) with
  | none => s
  | some t =>
    let target := if u < 64 then Ent.MODULE_UNIT_TEST.target u else Ent.FE_UNIT_TEST.target (u - 64)
    let s1 := { s with bus := { s.bus with tests := s.bus.tests.filter (fun x => x.unit != u) } }
    let s2 := (s1.setUnitNat Ent.MODULE_UNIT_TEST_RESULT Ent.FE_UNIT_TEST_RESULT u status).raise Evt.UNIT_TEST_DONE u status (s.frames - t.started)
    let s3 := s2.endTest target status
    if u < 64 then s3.setNat Ent.MODULE_STATE u (s3.restState u) else s3.setNat Ent.FE_STATE (u - 64) (s3.feState (u - 64))

/-- What a STATUS says of its unit (R149, R151). -/
def UnitSt.report (x : UnitSt) (st : UnitStatus) (frames : Nat) : UnitSt :=
  { x with
    heard := true, at_ := frames, missing := false, due := Option.none, volts := st.volts, amps := st.amps, limit := st.limit
    outlet := st.outlet, available := st.available, zero := st.zero, switched := st.switched, derated := st.derated
    faultActive := st.faultActive, fast := st.fast, capLimiting := st.capLimiting, power := st.power
    lastLaunch := st.lastLaunch, temp := st.temp, seq := st.seq
    zeroRun := if st.zero then x.zeroRun + 1 else 0, moveFailed := x.moveFailed && st.available && !x.missing }

/-- LAST_LAUNCH (R148, R121): to a front-end unit it acknowledges the set-points of that launch frame; an UNRESPONSIVE module it frees when it
names the launch frame of the latest grant sent to it. -/
def State.readLaunch (s : State) (u launch : Nat) : State :=
  if 64 ≤ u then (s.ackSetpoint u launch).ackSetpoint (u + 16) launch
  else
    match (s.grants u).sent with
    | x :: _ =>
      if s.nat Ent.MODULE_STATE u == Mod.UNRESPONSIVE && low 16 (s.sfn + x.launch - s.frames) == launch
      then (s.ackSetpoint u launch).endUnresponsive u else s
    | [] => s

/-- The first AVAILABLE after a self-test asks for its result (R157). -/
def State.askResult (s : State) (u : Nat) (available : Bool) : State :=
  match s.bus.tests.find? (fun t => t.unit == u) with
  | some t =>
    if t.running && available && !(s.bus.xfers.any (fun q => q.unit == u && q.index == 3 && q.sub == 2)) then
      s.startXfer u false 3 2 EType.u16.code []
    else s
  | none => s

/-- STATUS (R149, R151, R156, R157): recorded; a unit that appears has its profile read. -/
def execStatus (r : CanRx) (s : State) : Host.Outcome State Fault Refusal :=
  ok (s.receive (.status r) r (frameIs r 5 0 12 12) fun s1 u =>
    let st := if u < 64 then moduleStatus r.data else feStatus r.data
    let x := s1.unitSt u
    let s2 := (s1.setUnitSt u (x.report st s1.frames)).setUnitNat Ent.MODULE_LAST_STATUS_SFN Ent.FE_LAST_STATUS_SFN u s1.sfn
    let s3 := if !x.heard || x.missing then s2.checkProfile u else s2
    (s3.readLaunch u st.lastLaunch).askResult u st.available)

/-- FAULT (R152): the list of active faults, UNIT_FAULT, and the event on a first report, a change of severity and a
clearing; severity 2 is a unit fault for the allocator. -/
def execFault (r : CanRx) (s : State) : Host.Outcome State Fault Refusal :=
  let code := leAt r.data 0 2
  let severity := leAt r.data 2 1
  ok (s.receive (.fault r) r (frameIs r 1 0 8 8) fun s1 u =>
    let x := s1.unitSt u
    let old := x.faults.find? (fun p => p.1 == code)
    let rest := x.faults.filter (fun p => p.1 != code)
    let isNew : Bool := match old with
      | none => severity != 3
      | some p => p.2 != severity
    let fs := if severity == 3 then rest else if isNew then (code, severity) :: rest else x.faults
    let x1 := { x with faults := fs }
    let s2 := (s1.setUnitSt u x1).setUnitNat Ent.MODULE_UNIT_FAULT Ent.FE_UNIT_FAULT u x1.worst
    let s3 := if isNew then s2.raise Evt.UNIT_FAULT_REPORT u (pack [(0, 16, code), (16, 8, severity)]) (leAt r.data 4 4) else s2
    if severity == 2 && isNew then { s3 with alloc := { s3.alloc with faulted := s3.alloc.faulted ++ [u] } } else s3)

/-- What an answer of a unit does (R123, R156, R157, R159). -/
def State.xferAnswer (s : State) (x : Xfer) (status : Nat) (value : Nat) : State :=
  let u := x.unit
  let q := s.unitSt u
  match x.write, x.index, x.sub with
  | false, 1, 1 =>
    let s1 := s.setUnitSt u { q with profile := some value }
    if status != St.OK || value != 2 then s1.raise Evt.UNIT_PROFILE_MISMATCH u value 1 else s1
  | false, 1, 2 =>
    let s1 := s.setUnitSt u { q with kind := some value }
    let s2 := if status != St.OK || value != (if u < 64 then 1 else 2) then s1.raise Evt.UNIT_PROFILE_MISMATCH u value 2 else s1
    if decide (64 ≤ u) && s2.profileOk u then (s2.writeCap (u - 64) false).writeCap (u - 64) true else s2
  | false, 1, 5 =>
    let s1 := s.setUnitSt u { q with reach := some value }
    if status != St.OK || (List.range 8).any (fun n => bit (s.nat Ent.REACH_MASK u) n && !bit value n)
    then s1.raise Evt.UNIT_PROFILE_MISMATCH u value 5 else s1
  | true, 2, 1 => if status == St.OK then s.confirmCap (u - 64) false else s
  | true, 2, 2 => if status == St.OK then s.confirmCap (u - 64) true else s
  | true, 2, 3 => if status == St.OK then s.pendingCapDone (u - 64) else s
  | true, 2, 4 => if status == St.OK then s.pendingCapDone (u - 64) else s
  | false, 3, 3 =>
    match s.bus.tests.find? (fun t => t.unit == u) with
    | none => s
    | some t =>
      if status != St.OK then
        let s1 := { s with bus := { s.bus with tests := s.bus.tests.filter (fun y => y.unit != u) } }
        let target := if u < 64 then Ent.MODULE_UNIT_TEST.target u else Ent.FE_UNIT_TEST.target (u - 64)
        let s2 := s1.endTest target (if status == St.NO_ENTRY then St.NOT_SUPPORTED else status)
        match t.asked with
        | some h => s2.answerLater h (if status == St.NO_ENTRY then St.NOT_SUPPORTED else status) []
        | none => s2
      else
        let s1 := { s with bus := { s.bus with tests := s.bus.tests.map (fun (y : UnitTestSt) =>
          if y.unit == u then { y with time := some value, started := s.frames, asked := none } else y) } }
        let s2 := match t.asked with | some h => s1.answerLater h St.OK [] | none => s1
        (s2.setUnitNat Ent.MODULE_STATE Ent.FE_STATE u (if u < 64 then Mod.TESTING else Fe.TESTING)).startXfer u true 3 1 EType.u8.code [1#8]
  | true, 3, 1 =>
    { s with bus := { s.bus with tests := s.bus.tests.map (fun (y : UnitTestSt) => if y.unit == u then { y with running := true } else y) } }
  | false, 3, 2 => s.finishUnitTest u (if status == St.OK then low 16 value else status)
  | _, _, _ => s

/-- A device transfer goes on with its next segment (R155). -/
def State.nextSegment (s : State) (x : Xfer) (offset : Nat) (got : List Byte) : State :=
  let y := { x with offset := offset, got := got, frame := s.frames, sends := 1 }
  let s1 := { s with bus := { s.bus with xfers := s.bus.xfers.map (fun (q : Xfer) => if q.tag == x.tag then y else q) } }
  s1.sendBus (s1.xferMsg y)

/-- A segment of an answer (R155): it joins what has come; the last one, whose OFFSET and length make TOTAL, ends the transfer. A segment out of
its place is no answer. -/
def State.xferSegment (s : State) (x : Xfer) (b : XferBody) : State :=
  if b.status != St.OK then (s.endXfer x.tag).xferAnswer x b.status 0
  else if x.write then
    if x.offset + 52 < x.value.length then s.nextSegment x (x.offset + 52) [] else (s.endXfer x.tag).xferAnswer x b.status 0
  else if b.offset != x.got.length then s
  else
    let got := x.got ++ b.value
    if got.length < b.total && !b.value.isEmpty then s.nextSegment x got.length got
    else (s.endXfer x.tag).xferAnswer x b.status (leNat got)

/-- XFER_RESPONSE (R155): the answer to the transfer that holds the tag. -/
def execXferResponse (r : CanRx) (s : State) : Host.Outcome State Fault Refusal :=
  let b := xferOf r.data
  ok (s.receive (.xferResponse r) r (frameIs r 7 1 64 64) fun s1 u =>
    match s1.bus.xfers.find? (fun x => x.tag == b.tag && x.unit == u && x.index == b.index && x.sub == b.sub &&
        xferOp r.data == (if x.write then 0x82 else 0x81)) with
    | none => s1
    | some x => s1.xferSegment x b)

/-- XFER_TIMEOUT (R155): 10 frames without an answer; the request is sent up to 3 times, then ended CANCELLED. -/
def execXferTimeout (tag : Fin 256) (s : State) : Host.Outcome State Fault Refusal :=
  match s.bus.xfers.find? (fun x => x.tag == tag.val) with
  | none => ok s
  | some x =>
    if s.frames < x.frame + 10 then ok s
    else if x.sends < 3 then
      let y := { x with frame := s.frames, sends := x.sends + 1 }
      let s1 := { s with bus := { s.bus with xfers := s.bus.xfers.map (fun (q : Xfer) => if q.tag == x.tag then y else q) } }
      ok (s1.sendBus (s1.xferMsg y))
    else
      let s1 := s.endXfer x.tag
      if x.index == 3 then
        match s1.bus.tests.find? (fun t => t.unit == x.unit) with
        | some t => match t.asked with
          | some _ => ok (s1.xferAnswer ⟨x.tag, x.unit, false, 3, 3, 0, [], 0, 0, 0, []⟩ St.CANCELLED 0)
          | none => ok (s1.finishUnitTest x.unit St.CANCELLED)
        | none => ok s1
      else ok s1

/-- A block that was not sent goes once more in cycle 19 of its frame (Table 6-3). -/
def State.blockAgain (s : State) (ch index : Nat) : State :=
  let k := s.can ch
  match (if s.alloc.sentAt == some s.frames then Tab.find k.blocks index else none) with
  | none => s
  | some m =>
    if s.cycle == 19 then (s.setCan ch { k with blocks := Tab.erase k.blocks index }).when (s.canUp ch) (fun z => z.send m)
    else s.setCan ch { k with blocks := Tab.erase k.blocks index, again := k.again ++ [m] }

/-- What a device message to a unit was, by its class and SUB (Table 6-2); a COMMAND or request that has been answered or has another in its
place is not sent again. -/
def State.sentKind (s : State) (u cls sub : Nat) (data : List Byte) : Option MsgKind :=
  match cls, sub with
  | 4, _ =>
    if (s.grants u).cmds.any (fun c => c.sub == sub && c.seq == leAt data 0 1 && !c.acked) then
      some (if sub == 0 then .moduleTarget else if sub == 1 then .switchOutlet else .clearFault)
    else none
  | 6, 0 => some .announce
  | 6, 3 => some .go
  | 6, 5 => some .cancel
  | 7, 0 => if s.bus.xfers.any (fun x => x.unit == u && x.tag == leAt data 1 1) then some .xferRequest else none
  | 7, 3 => some .xferResponse
  | _, _ => none

/-- TX_REPORT (R139, Table 6-3, Table 20-2): SENT enters the bus mirror and dates a mark; any other report is counted. A COMMAND, XFER or GROUP goes
again in the next frame, a set-point block in cycle 19, a mark not at all. -/
def execTxReport (ch : Fin 4) (cls : Fin 8) (sub : Fin 8) (node : Fin 32) (outcome : Fin 4) (start : Int) (data : List Byte) (s : State) :
    Host.Outcome State Fault Refusal :=
  if outcome.val == 0 then
    let s1 := s.mirrorBus ch.val (s.nat Ent.CHANNEL_STATE ch) (canId cls.val sub.val node.val) true start.toNat data
    if cls.val == 0 then ok (s1.setCan ch { s1.can ch with mark := some (s1.frames, start) }) else ok s1
  else
    let s1 := s.bump Ent.TX_DROPPED ch
    if cls.val == 2 then ok (s1.blockAgain ch.val sub.val)
    else match s1.unitAt ch node with
      | none => ok s1
      | some u => match s1.sentKind u cls.val sub.val data with
        | some k => ok (s1.enqueue (s1.frames + 1) ⟨.can, ch.val, k, [(canId cls.val sub.val node.val : Int), u], data⟩)
        | none => ok s1

/-- CAN_ERROR_PASSIVE (R140). -/
def execCanErrorPassive (ch : Fin 4) (tx : Nat) (rx : Nat) (s : State) : Host.Outcome State Fault Refusal :=
  ok ((((s.setNat Ent.CHANNEL_STATE ch Can.ERROR_PASSIVE).setNat Ent.TX_ERROR_COUNT ch (low 8 tx)).setNat Ent.RX_ERROR_COUNT ch (low 8 rx)).raise
    Evt.CAN_ERROR_PASSIVE ch (low 8 tx) (low 8 rx))

/-- CAN_BUS_OFF (R140): the third within 1 s holds the channel off for BUSOFF_HOLD. -/
def execCanBusOff (ch : Fin 4) (s : State) : Host.Outcome State Fault Refusal :=
  let k := s.can ch
  let recent := s.ticks :: k.busoffs.filter (fun t => decide (s.ticks < t + secTicks 1))
  let s1 := s.bump Ent.BUSOFF_COUNT ch
  let s2 := s1.raise Evt.CAN_BUS_OFF ch (s1.nat Ent.BUSOFF_COUNT ch) 0
  if recent.length ≥ 3 then
    let hold := s.nat Ent.BUSOFF_HOLD ch
    ok (((s2.setCan ch { k with busoffs := [], hold := some (s.ticks + msTicks hold) }).setNat Ent.CHANNEL_STATE ch Can.HELD).raise
      Evt.CAN_BUS_HELD ch hold 0)
  else ok ((s2.setCan ch { k with busoffs := recent }).setNat Ent.CHANNEL_STATE ch Can.BUS_OFF)

/-- BUS_OFF_RECOVERY (R140). -/
def execBusOffRecovery (ch : Fin 4) (s : State) : Host.Outcome State Fault Refusal :=
  if s.nat Ent.CHANNEL_STATE ch == Can.BUS_OFF then ok (s.setNat Ent.CHANNEL_STATE ch Can.ERROR_ACTIVE) else ok s

/-- BUSOFF_HOLD_END (R140). -/
def execBusoffHoldEnd (ch : Fin 4) (s : State) : Host.Outcome State Fault Refusal :=
  let k := s.can ch
  match k.hold with
  | some t =>
    if s.ticks ≥ t then ok ((s.setCan ch { k with hold := none }).setNat Ent.CHANNEL_STATE ch Can.ERROR_ACTIVE) else ok s
  | none => ok s

/-- Frames of the allowance for a unit's status (R151). -/
def State.statusAllowance (s : State) (u : Nat) : Nat := if u < 64 then 3 * s.nat Ent.STATUS_DIVIDER (s.unitChannel u) else 3

/-- A unit's status has been missing for so many frames (R151). -/
def State.missingFor (s : State) (u n : Nat) : Bool := match (s.unitSt u).due with | some d => decide (s.frames ≥ d + n) | none => false

/-- UNIT_STATUS_MISSING (R151): the unit is taken out of service. -/
def execUnitStatusMissing (unit : Fin 80) (s : State) : Host.Outcome State Fault Refusal :=
  let u := unit.val
  let x := s.unitSt u
  if s.fitted u && !x.missing && s.missingFor u (s.statusAllowance u) then
    let s1 := (s.setUnitSt u { x with missing := true }).raise Evt.UNIT_STATUS_MISSING u (s.frames - x.due.getD 0) (s.unitChannel u)
    ok (if u < 64 then s1.refreshModule u else s1.setNat Ent.FE_STATE (u - 64) (s1.feState (u - 64)))
  else ok s

/-- A channel is off under R140, or its link die half has failed (R161). -/
def State.busLost (s : State) (ch : Nat) : Bool :=
  let st := s.nat Ent.CHANNEL_STATE ch
  st == Can.BUS_OFF || st == Can.HELD || !(if ch < 2 then s.die.lkA else s.die.lkB)

/-- UNIT_CHANNEL_CHANGE (R161): to the alternate attachment, when the primary is off or the status has been missing for
10 frames while the alternate works; what waits for the unit follows it, and its grant in force is sent there in the first frame. -/
def execUnitChannelChange (unit : Fin 80) (s : State) : Host.Outcome State Fault Refusal :=
  let u := unit.val
  let ac := s.unitNat Ent.MODULE_BUS_ALT_CHANNEL Ent.FE_BUS_ALT_CHANNEL u
  let an := s.unitNat Ent.MODULE_BUS_ALT_NODE Ent.FE_BUS_ALT_NODE u
  let primary := s.unitNat Ent.MODULE_BUS_CHANNEL Ent.FE_BUS_CHANNEL u
  if s.fitted u && !(s.unitSt u).alt && ac != 0xFF && s.canUp ac && (s.busLost primary || s.missingFor u 10) then
    let s1 := (s.setUnitSt u { s.unitSt u with alt := true }).setUnitNat Ent.MODULE_BUS_IN_USE Ent.FE_BUS_IN_USE u ac
    let s2 := (s1.rerouteBus u).raise Evt.UNIT_CHANNEL_CHANGE u ac an
    ok (s2.setGrants u { s2.grants u with restate := true })
  else ok s

/-- A unit is in service for a self-test (Table 1-7, R157). -/
def State.unitInService (s : State) (u : Nat) : Bool :=
  if u < 64 then s.nat Ent.MODULE_STATE u != Mod.IDLE
  else s.inForce (feImport (u - 64)) != 0 || s.planned (feImport (u - 64)) (s.frames + 3) != 0 ||
    s.inForce (feExport (u - 64)) != 0 || s.planned (feExport (u - 64)) (s.frames + 3) != 0

/-- Start a unit self-test: SELF_TEST_TIME is read first, and the answer waits for it (R157). -/
def State.startUnitTest (s : State) (u : Nat) (asked : Option Held) (slot : Option Nat) : State :=
  let target := if u < 64 then Ent.MODULE_UNIT_TEST.target u else Ent.FE_UNIT_TEST.target (u - 64)
  let s1 := s.beginTest target slot
  let s2 := { s1 with bus := { s1.bus with tests := s1.bus.tests ++ [(⟨u, none, s.frames, asked, false⟩ : UnitTestSt)] } }
  s2.startXfer u false 3 3 EType.u16.code []

/-- A UNIT_TEST write that passed its receipt checks, applied: R22 checks 3 and 4, else the test starts. -/
def State.askUnitTest (s : State) (u : Nat) (h : Held) (value : List Byte) : State :=
  let target := if u < 64 then Ent.MODULE_UNIT_TEST.target u else Ent.FE_UNIT_TEST.target (u - 64)
  if s.unitInService u || s.running.any (fun r => r.target == target) then
    let r := s.testOrQueue target value h.queue true (fun z _ => z)
    r.1.answerLater h r.2 []
  else s.startUnitTest u (some h) none

/-- UNIT_TEST (R157): `unit` numbers modules from 0 and front-end units from 64. -/
def execUnitTest (c : Client) (unit : Nat) (v : Nat) (s : State) : Host.Outcome State Fault Refusal :=
  let e := if unit < 64 then Ent.MODULE_UNIT_TEST else Ent.FE_UNIT_TEST
  let n := if unit < 64 then unit else unit - 64
  ok (s.receiveRequest c Op.WRITE [e.item n (.num v)] (fun s1 h => (s1, s1.clientReceipt e n (e.item n (.num v)) h, [])) fun s1 h =>
    if s1.applying then (s1.noteApplied h).askUnitTest unit h (leBytes 1 v) else s1.hold h)

/-- UNIT_TEST_LATE (R157): SELF_TEST_TIME + 100 frames have passed. -/
def execUnitTestLate (unit : Fin 80) (s : State) : Host.Outcome State Fault Refusal :=
  match s.bus.tests.find? (fun t => t.unit == unit.val) with
  | some t => match t.time with
    | some n => if s.frames ≥ t.started + n + 100 then ok (s.finishUnitTest unit.val St.LATE) else ok s
    | none => ok s
  | none => ok s

end Sys2Proof.Machine
end

