-- ==== Sys2Proof/Machine/Requests.lean ====
section
/-!
DEFINITION. The client operations of the dictionary service that name no command of their own (R20, R84, R96 to R100):
reads, descriptions, generic writes and groups as they are received, segmented transfers, and a unit's dictionary
request on the module bus (R155). What a held write does at its boundary is in Sys2Proof/Machine/Apply.lean.
-/
namespace Sys2Proof.Machine
open Sys2Proof

/-- The longest value one message moves; a longer one goes in segments (R99). -/
def messageLimit : Nat := 1024

/-- A READ response (Table 4-4). -/
def readBody (type : Nat) (value : List Byte) (total : Nat) : List Byte :=
  leBytes 1 type ++ [0#8] ++ leBytes 2 total ++ value

/-- READ (R20): answered at once from the state after the last completed cycle. -/
def execRead (c : Client) (index : Nat) (sub : Nat) (s : State) : Host.Outcome State Fault Refusal :=
  ok (s.admitQuery c Op.READ fun s1 k t =>
    if s1.barred k.service index then s1.reply c Op.READ t St.NOT_SUPPORTED []
    else
      let r := s1.asRead.readEntry c.shadow index sub
      if r.1 != St.OK then s1.reply c Op.READ t r.1 []
      else if messageLimit < r.2.2.length then s1.reply c Op.READ t St.RANGE []
      else s1.reply c Op.READ t St.OK (readBody r.2.1 r.2.2 r.2.2.length))

/-- DESCRIBE (R84). -/
def execDescribe (c : Client) (index : Nat) (sub : Nat) (s : State) : Host.Outcome State Fault Refusal :=
  ok (s.admitQuery c Op.DESCRIBE fun s1 k t =>
    if s1.barred k.service index then s1.reply c Op.DESCRIBE t St.NOT_SUPPORTED []
    else let r := describeEntry index sub; s1.reply c Op.DESCRIBE t r.1 r.2)

/-- Refusals a command's own rule makes on receipt beside those of R97: OUTLET_ENABLE (R163) and KEY_UPDATE (R421). -/
def State.ownReceipt (s : State) (f : Found) (w : WItem) : Nat :=
  if f.e == Ent.OUTLET_ENABLE then (if leNat w.bytes != 0 && !s.outletResourcesOk f.n then St.CONFLICT else St.OK)
  else if f.e == Ent.KEY_UPDATE then (applyKeyUpdate f.n w.bytes s).2
  else St.OK

/-- Every check made on receipt of a write (R97, R105), for one item. -/
def State.itemReceipt (s : State) (h : Held) (w : WItem) : Nat :=
  if s.barred h.service w.index then St.NOT_SUPPORTED
  else
    let st := s.receiptStatus h.role h.service h.shadow w
    if st != St.OK then st
    else match findEntry w.index w.sub with
      | some f => s.ownReceipt f w
      | none => St.OK

/-- What a refusal on receipt leaves beside its answer: the event of a refused KEY_UPDATE (R421). -/
def State.receiptNote (s : State) (h : Held) (w : WItem) : State :=
  if s.barred h.service w.index || s.receiptStatus h.role h.service h.shadow w != St.OK then s
  else match findEntry w.index w.sub with
    | some f =>
      if f.e == Ent.KEY_UPDATE && (applyKeyUpdate f.n w.bytes s).2 != St.OK then (applyKeyUpdate f.n w.bytes s).1 else s
    | none => s

/-- WRITE (R97): refused at once, or held for step 2 of the next boundary. -/
def execWrite (c : Client) (w : WItem) (s : State) : Host.Outcome State Fault Refusal :=
  ok (s.receiveRequest c Op.WRITE [w] (fun s1 h =>
    let st := s1.itemReceipt h w
    (s1.receiptNote h w, if st != St.OK then st else if messageLimit < w.bytes.length then St.RANGE else St.OK, [])) State.hold)

/-- The first item of a group that fails a check: its status and its position. -/
def firstFail (check : WItem → Nat) : List WItem → Nat → Option (Nat × Nat)
  | [], _ => none
  | w :: r, i => if check w != St.OK then some (check w, i) else firstFail check r (i + 1)

/-- WRITE_GROUP (R98): 1 to 32 items, every one checked on receipt. -/
def execWriteGroup (c : Client) (ws : List WItem) (s : State) : Host.Outcome State Fault Refusal :=
  ok (s.receiveRequest c Op.WRITE_GROUP ws (fun s1 h =>
    if ws.isEmpty || decide (32 < ws.length) then (s1, St.RANGE, [0xFF#8])
    else match firstFail (s1.itemReceipt h) ws 0 with
      | some (st, i) => (s1, st, leBytes 1 i)
      | none => (s1, St.OK, [])) State.hold)

/-- The segmented transfer of a connection under a request ID. -/
def State.segment (s : State) (c : Client) (write : Bool) : Option Segment :=
  s.tx.segments.find? (fun x => x.conn == c.conn && x.reqId == c.reqId && x.write == write)

/-- Put a transfer among those in progress, or take it out. -/
def State.setSegment (s : State) (x : Segment) : State :=
  { s with tx := { s.tx with segments := x :: s.tx.segments.filter (fun y => y.tag != x.tag) } }
def State.endSegment (s : State) (tag : Nat) : State :=
  ({ s with tx := { s.tx with segments := s.tx.segments.filter (fun y => y.tag != tag) } }).dropTag tag

/-- One segment of a read's snapshot; the last one frees the tag (R96, R99). -/
def State.readPart (s : State) (c : Client) (x : Segment) (start : Nat) : State :=
  if x.data.length < start then (s.reply c Op.READ_SEGMENT x.tag St.RANGE []).setSegment { x with last := s.ticks }
  else
    let part := (x.data.drop start).take messageLimit
    let s1 := s.reply c Op.READ_SEGMENT x.tag St.OK
      (readBody x.item.type part part.length ++ leBytes 4 start ++ leBytes 4 x.data.length) (decide (start + part.length < x.data.length))
    if start + part.length = x.data.length then s1.endSegment x.tag else s1.setSegment { x with last := s.ticks }

/-- READ_SEGMENT (R99): the first segment takes the snapshot and the tag. -/
def execReadSegment (c : Client) (index : Nat) (sub : Nat) (start : Nat) (s : State) : Host.Outcome State Fault Refusal :=
  match Tab.find s.tx.conns c.conn with
  | none => ok s
  | some k =>
    if headerStatus c != St.OK then ok (s.badHeader c Op.READ_SEGMENT)
    else match s.segment c false with
      | some x => ok (s.readPart c x start)
      | none =>
        match s.tx.freeTag c.conn with
        | none => ok ((s.send (answerMsg c.conn Op.READ_SEGMENT c.reqId St.BUSY 0xFFFF false [])).bump Ent.BUSY_REFUSALS)
        | some t =>
          let s1 := s.takeTag t (some c.conn)
          let r := s1.asRead.readEntry c.shadow index sub
          let st := if s1.barred k.service index then St.NOT_SUPPORTED else r.1
          if st != St.OK then ok ((s1.reply c Op.READ_SEGMENT t st []).dropTag t)
          else ok (s1.readPart c ⟨t, c.conn, c.reqId, false, ⟨index, sub, r.2.1, []⟩, r.2.2.length, r.2.2, s.ticks⟩ start)

/-- The last segment of a write has come: the whole value is one write (R99, R100). -/
def State.wholeWrite (s : State) (c : Client) (k : Conn) (x : Segment) : State :=
  let w : WItem := { x.item with bytes := x.data }
  let h : Held := ⟨s.sfn, c.offset, x.tag, c.conn, k.role, k.service, k.identity, c.reqId, Op.WRITE_SEGMENT, c.shadow, c.queue, [w]⟩
  let s1 := { s with tx := { s.tx with segments := s.tx.segments.filter (fun y => y.tag != x.tag) } }
  match s1.keptFor k.identity c.reqId with
  | some y =>
    let same := y.op == Op.WRITE_SEGMENT && y.shadow == c.shadow && y.queue == c.queue && y.items == [w]
    (s1.send (answerMsg c.conn Op.WRITE_SEGMENT c.reqId (if same then y.status else St.CONFLICT) x.tag same (if same then y.body else []))).dropTag x.tag
  | none =>
    if x.data.length != x.total then s1.refuse h St.RANGE []
    else
      let st := s1.itemReceipt h w
      if st != St.OK then s1.refuse h st [] else s1.hold h

/-- A segment of a write joins its transfer. A segment that is too long or out of its place ends the transfer with RANGE. -/
def State.writePart (s : State) (c : Client) (k : Conn) (x : Segment) (w : WItem) (start : Nat) (more : Bool) : State :=
  let fits := decide (w.bytes.length ≤ messageLimit) && start == x.data.length && w.index == x.item.index &&
    w.sub == x.item.sub && decide (x.data.length + w.bytes.length ≤ x.total)
  if !fits then (s.reply c Op.WRITE_SEGMENT x.tag St.RANGE []).endSegment x.tag
  else
    let y := { x with data := x.data ++ w.bytes, last := s.ticks }
    if more then (s.reply c Op.WRITE_SEGMENT x.tag St.OK []).setSegment y else s.wholeWrite c k y

/-- WRITE_SEGMENT (R99): segments are collected in order of their offsets; the last one makes the write. -/
def execWriteSegment (c : Client) (w : WItem) (start : Nat) (total : Nat) (more : Bool) (s : State) :
    Host.Outcome State Fault Refusal :=
  match Tab.find s.tx.conns c.conn with
  | none => ok s
  | some k =>
    if headerStatus c != St.OK then ok (s.badHeader c Op.WRITE_SEGMENT)
    else match s.segment c true with
      | some x => ok (s.writePart c k x w start more)
      | none =>
        match s.tx.freeTag c.conn with
        | none => ok ((s.send (answerMsg c.conn Op.WRITE_SEGMENT c.reqId St.BUSY 0xFFFF false [])).bump Ent.BUSY_REFUSALS)
        | some t =>
          ok ((s.takeTag t (some c.conn)).writePart c k ⟨t, c.conn, c.reqId, true, { w with bytes := [] }, total, [], s.ticks⟩ w start more)

/-- SEGMENT_TIMEOUT (R99): the tag is freed and the transfer answered CANCELLED. -/
def execSegmentTimeout (tag : Fin 256) (s : State) : Host.Outcome State Fault Refusal :=
  match s.tx.segments.find? (fun x => x.tag == tag.val) with
  | none => ok s
  | some x =>
    if s.ticks ≥ x.last + msTicks (s.nat Ent.SEGMENT_TIMEOUT) then
      ok ((s.send (answerMsg x.conn (if x.write then Op.WRITE_SEGMENT else Op.READ_SEGMENT) x.reqId St.CANCELLED x.tag false [])).endSegment x.tag)
    else ok s

/-- XFER_REQUEST (R155): a unit's dictionary request is answered under "Access over the module bus". -/
def execXferRequest (r : CanRx) (s : State) : Host.Outcome State Fault Refusal :=
  let b := xferOf r.data
  let op := xferOp r.data
  ok (s.receive (.xferRequest r) r (frameIs r 7 2 64 64 && (op == 1 || op == 2)) fun s1 u =>
    let own := if u < 64 then 0x2200 + u else 0x2300 + (u - 64)
    s1.sendBus ⟨.can, s1.unitChannel u, .xferResponse, [(canId 7 3 (s1.unitNode u) : Int), u],
      xferBody (s1.unitRead own (op == 2) b) (op + 0x80)⟩)

end Sys2Proof.Machine
end

