-- ==== Sys2Proof/Machine/Apply.lean ====
section
/-!
DEFINITION. Steps 2 to 4 of a boundary (R19): a held write or group applied (R97, R98), the set swap (R88 to R91), the
scheduled actions (R45 to R51), and a queued test's start (R23). One dispatcher gives every written entry the effect its
own command has.
-/
namespace Sys2Proof.Machine
open Sys2Proof

/-- UNIT_TEST within a group or a queue (R98, R157): the result goes by its event. -/
def applyUnitTest (u : Nat) (queue : Bool) (s : State) : State × Nat :=
  let target := if u < 64 then Ent.MODULE_UNIT_TEST.target u else Ent.FE_UNIT_TEST.target (u - 64)
  s.testOrQueue target [1#8] queue (s.unitInService u) (fun z slot => z.startUnitTest u none slot)

/-- What a write of an entry that is its own command does, by the entry's key of instance 0 (index × 256 + sub-index);
any other RW entry takes its value. -/
def applyEntry (f : Found) (v : Val) (queue : Bool) (digest : Nat) (s : State) : State × Nat :=
  let n := f.n
  let x := v.toInt
  let u := x.toNat
  let b := v.toBytes
  match f.e.key with
  | 0xE00002 => if u == 1 then applyArm n s else if u == 2 then applyCancel n s else applyFree n s
  | 0x101004 => applyTimeSet (leAt b 0 8) (leAt b 8 4) s
  | 0xC00103 => applySwapRequest x s
  | 0xC00105 => applyResyncRequest x s
  | 0x102005 => (if x == 0 then s else { s with swapNext := s.swapNext ++ [⟨none, 0⟩] }, St.OK)
  | 0x102006 => applyShadowCopy x s
  | 0x102007 => applyShadowDefaults x s
  | 0x220021 => applyModuleEnable n x s
  | 0x230022 => applyFeEnable n x s
  | 0x220037 => applyUnitTest n queue s
  | 0x230037 => applyUnitTest (64 + n) queue s
  | 0x210001 => applyOutletEnable n x s
  | 0x300003 => applyStopRequest n x s
  | 0x300006 => applyAuthResponse n (decisionOf b) s
  | 0x300007 => applyEimToken n b s
  | 0x300016 => applyOutletReset n s
  | 0x301013 => applyEstopReset s
  | 0x302003 => applySessionLogSelect u s
  | 0x700017 => applyLoopReset n s
  | 0x60000D => applyPhaseReset n s
  | 0x60000E => applyPhaseTest n u queue s
  | 0x610020 => applyGroupReset n s
  | 0x500012 => applyAlarmReset n s
  | 0x500013 => applyMonitorTest n u queue s
  | 0x51000C => applyAcceptReplacement n s
  | 0x51000D => applyRopeReenumerate n s
  | 0x400002 => applyStringRequest n x s
  | 0x400015 => applyStringDerate n x s
  | 0x400024 => applyStringReset n s
  | 0x400025 => applyStringTest n u queue s
  | 0x40005F => applyEstReset n s
  | 0x810010 => applyCal n (leAt b 0 1) (leAt b 1 1) (leAt b 4 4) queue s
  | 0x810014 => applyMchOpenTest n u queue s
  | 0x802008 => applyCaptureForce s
  | 0x80000A => applyLegalLogSelect u s
  | 0x80000C => applyLegalLogArchive u s
  | 0x820010 => applyPeakReset n s
  | 0x820014 => applyCrossReset n s
  | 0x880008 => applyBillingClose s
  | 0x884061 => applyReadingRequest n s
  | 0x880010 => applyProfileSelect u s
  | 0x880012 => applySnapshotSelect u s
  | 0x880017 => applySignedSelect u s
  | 0x8A0003 => applyCreditTopup n (signed 64 (leAt b 0 8)) (leAt b 8 4) s
  | 0x8A000A => applyProtectUntil n b s
  | 0x900002 => applyLcCommand n u s
  | 0x900003 => applyLcDuty n u s
  | 0x900019 => applyLcReset n s
  | 0x90001B => applyLcTest n u queue s
  | 0xB10004 => applyKeyUpdate n b s
  | 0xB10005 => applyKeyChallenge n b s
  | 0xB10007 => applyKeyConfirm n u s
  | 0xB10003 => applySlotCert n b s
  | 0xD01002 => applySlotManifest n b s
  | 0xD01003 => applySlotBlock n b s
  | 0xD01007 => applySlotErase n s
  | 0xD0000B => applyFwConfirm s
  | 0xD0000C => applyFwFallback s
  | 0xD0000E => applyRecoveryBoot u s
  | 0xA31005 => applyRecoveryEnter digest s
  | 0xC00206 => applyRecoveryExit s
  | 0xC00205 => applyShipRequest s
  | 0xC00204 => applySleepRequest x s
  | 0xC00207 => applyTestEnter s
  | 0xA30002 => applyStreamMask u s
  | _ => (s.put f.e n f.j v, St.OK)

/-- A write applied (R87, R41, R347): the shadow value of an RWS or LEG entry (an LEG one is BUSY while the legal log is
low), a field of a scheduled action that is FREE, or the entry itself. -/
def State.applyWrite (s : State) (f : Found) (v : Val) (queue : Bool) (digest : Nat) : State × Nat :=
  if f.e.inSets then
    (if f.e.access == .leg && s.legalLow then (s, St.BUSY) else ((s.putShadow f.e f.n f.j v).noteRehome f.e f.n, St.OK))
  else if f.e.base = 0xE000 && f.e.sub != 2 && s.aState f.n != Act.FREE then (s, St.CONFLICT)
  else applyEntry f v queue digest s

/-- A cross-entry rule a write could break: FRIENDLY_DEBT_LIMIT below EMERGENCY_CREDIT (R367). -/
def State.leavesDebt (s : State) (w : WItem) : Bool :=
  decide (0x8A00 ≤ w.index ∧ w.index < 0x8B00) && (w.sub == Ent.EMERGENCY_CREDIT.sub || w.sub == Ent.FRIENDLY_DEBT_LIMIT.sub) &&
    !s.debtOrder (w.index - 0x8A00)

/-- One item at step 2: checks 3, 4, 6 and 7 of R97 again, then its effect. -/
def State.applyItem (s : State) (h : Held) (w : WItem) : State × Nat :=
  match findEntry w.index w.sub with
  | none => (s, St.NO_ENTRY)
  | some f =>
    let st := s.entryStatus h.role h.service h.shadow f.e f.n w
    if st != St.OK then (s, st)
    else s.applyWrite f (f.e.decode w.bytes) h.queue (((Tab.find s.tx.conns h.conn).map Conn.digest).getD 0)

/-- A SET_SWAP_NOW item that asks for a swap (R88). -/
def asksSwap (w : WItem) : Bool := w.index == 0x1020 && w.sub == 5 && leNat w.bytes == 1

/-- The items of a group in order, on a copy of the state (R98): what they make of it, the first refusal with its position, and
the position of an item that asks for a swap. -/
def groupItems (h : Held) : List WItem → Nat → State → Option Nat → State × Option (Nat × Nat) × Option Nat
  | [], _, s, swap => (s, none, swap)
  | w :: r, i, s, swap =>
    if asksSwap w then
      (let st := s.itemReceipt h w
       if st != St.OK then (s, some (st, i), swap) else groupItems h r (i + 1) s (some (swap.getD i)))
    else
      let a := s.applyItem h w
      if a.2 != St.OK then (a.1, some (a.2, i), swap) else groupItems h r (i + 1) a.1 swap

/-- A group at its place in the stamp order (R98): all items or none. -/
def State.applyGroup (s : State) (h : Held) : State :=
  let r := groupItems h h.items 0 s none
  let fault := match r.2.1 with
    | some x => some x
    | none => firstFail (fun w => if r.1.leavesDebt w then St.RANGE else St.OK) h.items 0
  match fault with
  | some (st, i) => s.answerLater h st (leBytes 1 i)
  | none =>
    match r.2.2 with
    | some p => { r.1 with swapAsks := r.1.swapAsks ++ [⟨some h, p⟩] }
    | none => r.1.answerLater h St.OK [0xFF#8]

/-- A single write at its place in the stamp order. A SET_SWAP_NOW waits for step 3; a UNIT_TEST is answered when its unit has
answered (R157). -/
def State.applySingle (s : State) (h : Held) (w : WItem) : State :=
  match findEntry w.index w.sub with
  | none => s.answerLater h St.NO_ENTRY []
  | some f =>
    let st := s.entryStatus h.role h.service h.shadow f.e f.n w
    if st != St.OK then s.answerLater h st []
    else if asksSwap w then { s with swapAsks := s.swapAsks ++ [⟨some h, 0⟩] }
    else if f.e == Ent.MODULE_UNIT_TEST then s.askUnitTest f.n h w.bytes
    else if f.e == Ent.FE_UNIT_TEST then s.askUnitTest (64 + f.n) h w.bytes
    else
      let a := s.applyItem h w
      if a.1.leavesDebt w then s.answerLater h St.RANGE [] else a.1.answerLater h a.2 []

/-- A held request applies (R19 step 2). -/
def State.applyHeld (s : State) (h : Held) : State :=
  if h.op == Op.WRITE_GROUP then s.applyGroup h
  else match h.items with
    | w :: _ => s.applySingle h w
    | [] => s

/-- Held requests in stamp order, equal stamps in order of tag (R19). -/
def stampOrder (a b : Held) : Bool :=
  decide (a.stamp < b.stamp) || (a.stamp == b.stamp && (decide (a.offset < b.offset) || (a.offset == b.offset && decide (a.tag ≤ b.tag))))

/-- Step 2 of R19: every held request; each stands among those a lost frame would have to apply again (R73). -/
def State.applyRequests (s : State) : State :=
  ({ s with tx := { s.tx with held := [] }, mirror := { s.mirror with applied := s.mirror.applied ++ s.tx.held } }).each (sortBy stampOrder s.tx.held) State.applyHeld

/-- Every RWS and LEG value of a set, in ascending index and sub-index order (R91). -/
def setKeys : List (Nat × Entry × Nat × Nat) :=
  ((Ent.all.filter Entry.inSets).flatMap (fun e =>
    (List.range e.count).flatMap (fun n => (List.range e.subs).map (fun j => (e.key n j, e, n, j))))).mergeSort
      (fun a b => decide (a.1 ≤ b.1))

/-- One value as a digest takes it (R91). -/
def digestBytes (e : Entry) (k : Nat) (v : Val) : List Byte :=
  leBytes 2 (k / 256) ++ leBytes 1 (k % 256) ++
    (if e.type == .str || e.type == .blob then leBytes 2 (e.encode v).length else []) ++ e.encode v

/-- The digest of a set (R91). -/
def setDigest (t : Tab Val) : Nat :=
  crc32 (setKeys.flatMap (fun x => digestBytes x.2.1 x.1 (Tab.get (x.2.1.default x.2.2.1) t x.1)))

/-- Both digests and SHADOW_DIRTY, when a value of either set changed (R91). -/
def State.digests (s : State) : State :=
  if s.digestStale then
    let a := setDigest s.actSet
    let b := setDigest s.shdSet
    { ((s.setNat Ent.ACTIVE_DIGEST 0 a).setNat Ent.SHADOW_DIGEST 0 b).setFlag Ent.SHADOW_DIRTY 0 (a != b) with digestStale := false }
  else s

/-- Where a scheduled action stands at the present boundary (R45, R49, R51). -/
inductive Due where
  | no
  | onTime
  | late
  | tooLate
deriving DecidableEq, Repr

/-- The device runs its table of actions (R49, Table 21-7): a control die serves, in RUN, DEGRADED or SLEEP. -/
def State.acting (s : State) : Bool := s.controlUp && (s.serving || s.nat Ent.DEVICE_STATE == Dev.SLEEP)

/-- How action `i` stands: local ARMED and group GO actions execute at their SFN; a late one by the table of R49. While the device is not
running nothing executes (R49), nor until time has been set or locked after an UNSET start (R51). -/
def State.due (s : State) (i : Nat) : Due :=
  let st := s.aState i
  let sfn := s.aSfn i
  if !s.acting || !s.time.known || s.sfn < sfn then .no
  else if s.aGroup i == 0 then
    if st != Act.ARMED then .no
    else if sfn == s.sfn then .onTime
    else if s.nat Ent.ACTION_LATE_POLICY i == 1 && decide (s.sfn ≤ sfn + s.nat Ent.ACTION_LATE_WINDOW i) then .late
    else .tooLate
  else if st == Act.GO then (if sfn == s.sfn then .onTime else .late)
  else if sfn < s.sfn && (st == Act.ARMED || st == Act.ANNOUNCED) then .tooLate
  else .no

/-- An action ends with the status of its execution (R47, R49): EXECUTED on OK, a late one saying so first, and FAILED otherwise. -/
def State.endAction (s : State) (i status : Nat) (late : Bool) : State :=
  if status == St.OK then
    let s0 := s.when late (fun z => z.actionEvent Evt.ACTION_LATE i St.OK)
    let s1 := ((s0.setNat Ent.ACTION_STATE i Act.EXECUTED).setNat Ent.ACTION_RESULT i St.OK).setNat Ent.ACTION_EXEC_SFN i s.sfn
    if s.aType i == ActType.MARK then
      let b := s.bytes Ent.ACTION_VALUE i
      s1.raise Evt.ACTION_EXECUTED i (leNat (b.take 4)) (leNat ((b.drop 4).take 4))
    else s1.actionEvent Evt.ACTION_EXECUTED i St.OK
  else ((s.setNat Ent.ACTION_STATE i Act.FAILED).setNat Ent.ACTION_RESULT i status).actionEvent Evt.ACTION_FAILED i status

/-- A late action that does not execute (R49): LATE, and CANCEL to the participants of one that spans several units. -/
def State.missAction (s : State) (i : Nat) : State :=
  let s1 := ((s.setNat Ent.ACTION_STATE i Act.LATE).setNat Ent.ACTION_RESULT i St.LATE).actionEvent Evt.ACTION_LATE i St.LATE
  if s.aGroup i == 0 then s1
  else
    let g := s.group i
    (s1.sendTwoPhase i Two.CANCEL (g.parts.map Part.unit)).setGroup i { g with cancelSent := true, lastSent := s.frames }

/-- What an action of step 4 does (Table 2-5): its status. -/
def State.doAction (s : State) (i : Nat) : State × Nat :=
  let b := s.bytes Ent.ACTION_VALUE i
  let ty := s.aType i
  if ty == ActType.WRITE then
    let t := s.nat Ent.ACTION_TARGET i
    match findEntry (t / 256) (t % 256) with
    | none => (s, St.NO_ENTRY)
    | some f =>
      let v := f.e.decode b
      if !f.e.rangeOk v || !s.targetOk f.e v then (s, St.RANGE)
      else
        let a := s.applyWrite f v false 0
        if a.1.leavesDebt ⟨t / 256, t % 256, 0, []⟩ then (s, St.RANGE) else a
  else if ty == ActType.TARIFF_SWITCH then applyTariffSwitch (leNat b) s
  else if ty == ActType.FW_ACTIVATE then s.activateFw i
  else (s, St.OK)

/-- Execute one action of step 4. -/
def State.execAction (s : State) (i : Nat) (late : Bool) : State :=
  let r := s.doAction i
  if r.2 == St.OK then r.1.endAction i St.OK late else r.1.endAction i r.2 late

/-- The place of an action in the order of R45: tariff switches, then writes and marks by ORDER, then activations, a legal
slot's before a main slot's. -/
def State.rank (s : State) (i : Nat) : Nat :=
  let ty := s.aType i
  if ty == ActType.TARIFF_SWITCH then 0
  else if ty == ActType.FW_ACTIVATE then (if s.actSlot i < 2 then 301 else 300)
  else 1 + s.nat Ent.ACTION_ORDER i

/-- Actions in the order of R45. -/
def State.inOrder (s : State) (l : List Nat) : List Nat :=
  sortBy (fun a b => decide (s.rank a < s.rank b) || (s.rank a == s.rank b && decide (a ≤ b))) l

/-- Late actions in the order in which they are taken: those of several units, then by SFN and index (R49). -/
def State.lateOrder (s : State) (l : List Nat) : List Nat :=
  let before (a b : Nat) : Bool := decide (s.aSfn a < s.aSfn b) || (s.aSfn a == s.aSfn b && decide (a ≤ b))
  sortBy before (l.filter (fun i => s.aGroup i != 0)) ++ sortBy before (l.filter (fun i => s.aGroup i == 0))

/-- A step of the boundary is done (R19). -/
def State.atStep (s : State) (k : Nat) : State := { s with tx := { s.tx with step := k } }

/-- ACTION_EXECUTION (R45 to R51, R356): step 4 of the boundary, after step 3 (R19), the calendar and the rate first. At most 64 actions execute, late ones in the places the due ones
leave and ahead of them. -/
def execActionExecution (s : State) : Host.Outcome State Fault Refusal :=
  if s.cycle != 0 || s.tx.step != 3 then ok s
  else
  let here := s.armed.filter (fun i => s.aType i != ActType.SET_SWAP)
  let due := here.filter (fun i => s.due i == .onTime)
  let late := (s.lateOrder (here.filter (fun i => s.due i == .late))).take (64 - due.length)
  let gone := s.armed.filter (fun i => s.due i == .tooLate)
  let s1 := (s.calendarStep.atStep 4).each gone State.missAction
  let s2 := s1.each (s.inOrder late) (fun z i => z.execAction i true)
  ok (s2.each (s.inOrder due) (fun z i => z.execAction i false)).commitEnds

/-- The answer to a request for a swap (R88, R98). -/
def State.answerSwap (s : State) (a : SwapAsk) (status : Nat) : State :=
  match a.client with
  | none => s
  | some h =>
    s.answerLater h status (if h.op == Op.WRITE_GROUP then (if status == St.OK then [0xFF#8] else leBytes 1 a.position) else [])

/-- The new active set differs from the old in an LEG entry. -/
def legDiffers (old new : Tab Val) : Bool :=
  let keys := ((Tab.keys old ++ Tab.keys new).filter isLegKey)
  keys.any (fun k => Tab.find old k != Tab.find new k)

/-- Every consumer takes the new active set from cycle 0 of the swap frame (R88); `old` is the state before the exchange. A
hard cap that changed is pending, and written to its unit (R123) unless an action with that unit has written it (R159). -/
def State.adoptSet (s old : State) (carried : List Nat) : State :=
  let s1 := ((s.swapLoops old).loadStores.placeChannels old).placeConverters
  let s2 := ((s1.placeStrings old).placeMonitors.resendParams old).placeMeasurement old
  let s3 := (s2.placeNodes (fun e => s.nat Ent.NODE_UID e != old.nat Ent.NODE_UID e)).placePort
  let s4 := s3.placeUnits.each ((List.range 16).filter (fun f => s.fitted (64 + f))) (fun z f =>
    let cap (y : State) (exp : Bool) (e : Entry) : State :=
      y.when (y.nat e f != old.nat e f) (fun x =>
        if carried.contains f then x.holdCap f exp (old.nat e f) else x.pendCap f exp (old.nat e f))
    cap (cap z false Ent.FE_HARD_CAP_IMPORT) true Ent.FE_HARD_CAP_EXPORT)
  let s5 := ((s4.silenceBus old).placeBus).placePeers
  s5.placeTime.each (List.range 17) State.showReadPeriod

/-- The exchange itself (R88, R90): the set pointer changes, and each set stays in its store (R95). -/
def State.exchange (s : State) (carried : List Nat) : State :=
  let s1 := { s with actSet := s.shdSet, shdSet := s.actSet, setPtr := !s.setPtr, digestStale := true }
  let s2 := ((s1.bump Ent.CONFIG_SEQUENCE).setBytes Ent.LAST_SWAP 0 (time64 s.sfn 0)).digests
  let s3 := (s2.setFlag Ent.SHADOW_DIRTY 0 false).raise Evt.SET_SWAPPED 0 (s2.nat Ent.CONFIG_SEQUENCE) (s2.nat Ent.ACTIVE_DIGEST)
  let s4 := s3.when (legDiffers s.actSet s.shdSet) (fun z =>
    z.legalLog 3 4 0xFFFF (z.nat Ent.CONFIG_SEQUENCE) (z.nat Ent.ACTIVE_DIGEST))
  s4.adoptSet s carried

/-- SET_SWAP actions whose frame has come. -/
def State.swapActions (s : State) : List Nat :=
  s.armed.filter (fun i => s.aType i == ActType.SET_SWAP && (s.due i == .onTime || s.due i == .late))

/-- SET_SWAP (R88 to R90): step 3 of the boundary, after step 2 (R19): the one swap for every request and action that asks for one, made
or refused. -/
def execSetSwap (s : State) : Host.Outcome State Fault Refusal :=
  let acts := s.swapActions
  if s.cycle != 0 || s.tx.step == 0 || 3 ≤ s.tx.step then ok s
  else if s.tx.step == 1 || (s.swapAsks.isEmpty && acts.isEmpty) then ok (s.atStep 3)
  else
    let asks := s.swapAsks
    let s0 := { s.atStep 3 with swapAsks := [] }
    let r : State × Nat := match s0.swapFails with
      | some t => (((s0.setNat Ent.SWAP_REFUSED_ENTRY 0 t).setNat Ent.SWAP_REFUSED_STATUS 0 St.RANGE).raise Evt.SWAP_REFUSED 0 t St.RANGE, St.RANGE)
      | none => (s0.exchange (acts.flatMap s.feParts), St.OK)
    let s1 := r.1.each asks (fun z a => z.answerSwap a r.2)
    ok (s1.each acts (fun z i => z.endAction i r.2 (s.due i == .late)))

/-- Whether what a queued test would take is in service or under test (Table 1-7). -/
def State.testBusy (s : State) (f : Found) : Bool :=
  let n := f.n
  s.running.any (fun r => r.target == f.e.target n f.j) ||
  (if f.e == Ent.MCH_CAL_REQUEST || f.e == Ent.MCH_OPEN_TEST then s.chanInService n || s.chanTested n
   else if f.e == Ent.PHASE_TEST then s.phaseInService n
   else if f.e == Ent.LC_TEST then s.lcInService n
   else if f.e == Ent.STRING_TEST then s.strInService n
   else if f.e == Ent.MONITOR_TEST then
     (match s.stringOf n with
      | some k => carrying (s.strState k) || s.strState k == Str.WELD_CHECK
      | none => false)
   else if f.e == Ent.MODULE_UNIT_TEST then s.unitInService n
   else if f.e == Ent.FE_UNIT_TEST then s.unitInService (64 + n)
   else true)

/-- Start a queued test on its target, under its queue slot. -/
def State.startQueued (s : State) (f : Found) (q : QTest) : State :=
  let n := f.n
  if f.e == Ent.MCH_CAL_REQUEST then s.startCal n (leAt q.value 0 1) (leAt q.value 1 1) (leAt q.value 4 4) (some q.slot)
  else if f.e == Ent.PHASE_TEST then s.startPhaseTest n (some q.slot)
  else if f.e == Ent.STRING_TEST then s.startStringTest n (some q.slot)
  else if f.e == Ent.MONITOR_TEST then s.startMonitorTest n (some q.slot)
  else if f.e == Ent.MODULE_UNIT_TEST then s.startUnitTest n none (some q.slot)
  else if f.e == Ent.FE_UNIT_TEST then s.startUnitTest (64 + n) none (some q.slot)
  else s.beginTest q.target (some q.slot)

/-- TEST_QUEUE_START (R23): the queued test's target has come to its idle window. -/
def execTestQueueStart (slot : Fin 32) (s : State) : Host.Outcome State Fault Refusal :=
  match s.tests.find? (fun t => t.slot == slot.val) with
  | none => ok s
  | some q =>
    match findEntry (q.target / 256) (q.target % 256) with
    | none => ok s
    | some f =>
      if s.testBusy f then ok s
      else ok ((s.setTests (s.tests.filter (fun x => x.slot != slot.val))).startQueued f q)

end Sys2Proof.Machine
end

