-- ==== Sys2Proof/Machine/ControlCycle.lean ====
section
/-!
DEFINITION. The control work of a cycle (Table 1-4, R193, R218), a missed deadline (R17), and the packets that reach the power die: the
command packet (R12) and TAKE (R69).
-/
namespace Sys2Proof.Machine
open Sys2Proof

/-- Three misses in a row of one task are a self-diagnosed fault of its die (R17): code 6 of Table 3-3 for a control die; a metering die
fails, and so does the half of a power or link die. -/
def State.missedThrice (s : State) (die half : Nat) : State :=
  match die with
  | 0 | 1 => s.selfDiagnose die 6
  | 2 | 3 => s.failMeter (die - 2) 6
  | d => s.halfFault (2 * (d - 4) + half) 6

/-- A task has missed its tick (R17): the output due stays as it was, the miss is reported and counted, once a tick; a task that misses
three ticks of its period in a row is a fault of its die. The frame of a switch-over is not counted (R72). -/
def State.missDeadline (s : State) (die half task period overrun : Nat) : State :=
  let task := low 16 task
  let key := die * 65536 + task
  let before := Tab.get (0, 0) s.die.misses key
  let next := decide (0 < period) && decide (before.1 + period = s.ticks)
  let exempt := s.die.switchFrame == some s.sfn
  let run := (if next then before.2 else 0) + b2n (!exempt)
  let s1 := { s with die := { s.die with misses := Tab.set s.die.misses key (s.ticks, run) } }
  if Tab.find s.die.misses key == some (s.ticks, before.2) then s
  else if exempt then s1
  else
    let s2 := (s1.raise Evt.DEADLINE_MISS die task (low 32 overrun)).bump Ent.DEADLINE_MISS_COUNT
    if run == 3 then s2.missedThrice die half else s2

/-- The engine's window, 4.0 µs to 28.0 µs, in ns. -/
def engineWindow : Nat := 24000

/-- The control work of a cycle, with a control die serving: at 4.0 µs the groups' limits, the strings' (R269) and the load line they bound
(R218), then the engine (R193, R195), whose sources the groups' quantities are. -/
def State.controlCycle (s : State) (t : TickIn) : State :=
  let s1 := (s.watchLines t.t1s).watchChannels.spanCycle.restCycle
  let s2 := (s1.each (List.range 8) State.cableCheckCycle).each (List.range 8) State.insulationWarning
  let s2a := (s2.each (List.range 8) (fun z g => (z.rangeWatch g).groupLimits g)).each (List.range 8) State.stringCycle
  let s3 := s2a.each (List.range 8) State.groupCycle
  let s4 := match s3.engineMissed t.engineStop with
    | some (task, period) => s3.missDeadline s3.activeDie 0 task period (t.engineNs - engineWindow)
    | none => s3
  (s4.runEngine t.engineNs t.engineStop).pointCycle.energyCycle

/-- The work of cycle 0 that waited for its boundary is done (R88, R218), before the command packet is formed. -/
def State.runWork (s : State) : State :=
  match s.tx.work with
  | none => s
  | some t => { s with tx := { s.tx with work := none } }.when s.controlUp (fun z => z.controlCycle t)

/-- The control work of a cycle at its tick; that of cycle 0 waits for the swap, the actions and the grants of its boundary. -/
def State.workOrHold (s : State) (t : TickIn) : State :=
  if s.cycle == 0 then { s with tx := { s.tx with work := some t } } else s.controlCycle t

/-- COMMAND_PACKET (R11, R12, R66, R386): a packet whose CRC fails is discarded, and a die that has gone quiet sends none. One of the
standby is counted and reported and not acted on, whatever its service word; one of the active die with a wrong word is counted as a
watchdog reject; a valid one is latched. -/
def execCommandPacket (die : Fin 2) (crc : Bool) (word : Bool) (clamps : List Clamp) (s : State) : Host.Outcome State Fault Refusal :=
  let s := s.runWork
  if !crc || s.isQuiet die.val then ok s
  else if die.val != s.pw.active then
    let s1 := s.countStandby
    ok (s1.raise Evt.STANDBY_PACKET die.val s1.pw.standbyPackets 0)
  else if !word then ok (s.bump Ent.WATCHDOG_REJECTS)
  else ok (s.latchPacket clamps)

/-- The delay of vehicle messages at a switch-over, which no limit of Table 7-3 counts (R191): at most 2 frames, taken whole (log entry
85). -/
def switchDelay : Nat := msTicks 2

/-- TAKE (R69, R71, R72): accepted on a fresh YIELD, or with no packet from the active die in this cycle; the packet that came with it is latched
and the new die resumes from the frame state it holds. Any other is counted as a standby packet and refused. -/
def execTake (die : Fin 2) (ok_ : Bool) (s : State) : Host.Outcome State Fault Refusal :=
  let s := s.runWork
  if !ok_ then ok s
  else if die.val != s.pw.active && (s.freshYield.isSome || !s.pw.latched) then
    let cause := if s.freshYield.isSome then 0 else 1
    let w : Switch := ⟨s.sfn, s.cycle, cause, s.pw.active, die.val, min 1 s.pw.silent, s.freshYield.getD 0⟩
    let late (k : Sess) : Sess := { k with plugAt := k.plugAt + switchDelay, stateAt := k.stateAt + switchDelay, loopAt := k.loopAt + switchDelay }
    let s1 := ((s.when s.die.mirrorSync State.resumeFrame).eachSession late).latchPacket []
    ok { s1 with pw := { s1.pw with active := die.val }
                 die := { s1.die with switch := some w, switchFrame := some s.sfn, takeDue := false } }
  else ok (s.countStandby.raise Evt.TAKE_REFUSED die.val (low 32 s.sfn) s.cycle)

end Sys2Proof.Machine
end

