-- ==== Sys2Proof/Machine/Cycle.lean ====
section
/-!
DEFINITION. The cycle (R12 to R17, Tables 1-3 to 1-5), the frame boundary (R19) and a missed deadline (R17). What a cycle and a
frame do is listed here in order; each part is written with its own chapter.
-/
namespace Sys2Proof.Machine
open Sys2Proof

/-- The RO entries that show what the state holds elsewhere, as a read finds them after the cycle (R20). -/
def State.showCycle (s : State) : State :=
  let armed := s.armed
  let s1 := (((s.setBytes Ent.SITE_TIME 0 (time64 s.sfn (s.cycle * 50000))).setNat Ent.ACTIONS_ARMED 0 armed.length).setNat
    Ent.GROUP_ACTIONS_ARMED 0 (armed.filter (fun i => s.aGroup i != 0)).length).setNat Ent.CLIENT_CONNECTIONS 0 s.tx.conns.length
  let s2 := ((s1.setNat Ent.EVENT_LOG_NEWEST 0 ((s.ev.log.head?.map EventRec.seq).getD 0)).setNat
    Ent.EVENT_LOG_OLDEST 0 ((s.ev.log.getLast?.map EventRec.seq).getD 0)).fitNat Ent.EVENT_LOG_OVERWRITTEN 0 s.ev.overwritten
  let s3 := s2.setNat Ent.BILLING_STATUS 0 s2.billingStatus
  s3.each (List.range 8) (fun z o => (z.fitInt Ent.PRESENT_VOLTAGE o ((z.present o).getD 0 0)).fitInt Ent.PRESENT_CURRENT o ((z.present o).getD 1 0))

/-- How a metering die stands (Table 1-9): 0 off or starting, 1 valid, 2 valid with channel faults, which also stands for the reduced rate
and for a bank without a spare (R324), 3 failed. -/
def State.meterCode (s : State) (d : Nat) : Nat :=
  if s.meterFailed d then 3
  else if !s.meterRunning d then 0
  else if s.meas.chans.any (fun p => !bit (s.nat Ent.MCH_STATUS p.1) d && s.nat Ent.MCH_CLASS p.1 != 0) || s.reduced d ||
      [2 * d, 2 * d + 1].any (fun b => (s.bank b).spare.isNone) then 2 else 1

/-- DIE_STATUS, TIME_STATUS and METER_STATUS, at every cycle 0 (R26, R57, R351). -/
def State.showFrame (s : State) : State :=
  let sourceM1 := s.meas.chans.any (fun p => bit (s.nat Ent.MCH_STATUS p.1) 2)
  (s.setNat Ent.DIE_STATUS 0 (s.dieStatus (s.meterCode 0) (s.meterCode 1) sourceM1)).setNat Ent.TIME_STATUS 0 s.timeStatus
    |>.setNat Ent.METER_STATUS 0 s.meterStatus

/-- What stands at the end of a cycle: the windows for the stream; in cycle 19 what the sessions deliver (R178), the messages that no
mirror covers because no standby is synchronised (R73), the P values in ST (R95), and the restart into RECOVERY (R464). -/
def State.endCycle (s : State) : State :=
  let s1 := s.noteWindows
  if s1.cycle != 19 then s1
  else
    let s2 := s1.freeze.when s1.controlUp (fun z => z.each (List.range 8) State.deliver)
    let s2a := s2.when ((s2.mirror.frame.map FrameImg.sfn) == some s2.sfn) State.holdFrame
    let s3 := (s2a.when (!s2a.die.mirrorSync) (fun z => z.consume.release)).when (s2a.die.st0 || s2a.die.st1) (fun z => z.persistFrame.sealGrotto)
    if s3.plant.toRecovery then
      let s4 := { s3 with plant := { s3.plant with toRecovery := false } }
      let st := s4.devState
      s4.when (st != Dev.START && st != Dev.RECOVERY && st != Dev.TEST) (fun z => z.restartBoth 3)
    else s3

/-- The tick: the next cycle, and with the twentieth the next frame; what the last cycle sent is gone, and events it dropped are
reported (R107). -/
def State.advance (s : State) : State :=
  let c := (s.cycle + 1) % 20
  let s1 := { s with ticks := s.ticks + 1, cycle := c, sfn := if c == 0 then (s.sfn + 1) % 2 ^ 64 else s.sfn, out := []
                     ev := { s.ev with count := 0 }, tx := { s.tx with step := 0 }, stream := { s.stream with busy := s.stream.busy - 50000 } }
  if s.ev.dropped == 0 then s1
  else ({ s1 with ev := { s1.ev with dropped := 0 } }).raise Evt.EVENT_OVERFLOW s1.activeDie s.ev.dropped s.ev.dropCycle

/-- The power die returns its status packet to both control dies (R12, R67): whether it latched a command in the cycle, the die it holds
as active, and the last YIELD code of each. It counts cycles without a latched packet (R16), and a synchronised standby sends TAKE after a YIELD or after a cycle
in which its mirror failed and nothing was latched (R68). -/
def State.watchCommand (s : State) : State :=
  let standby := 1 - s.activeDie
  let powered := s.plant.rstAt.isNone && (s.plant.sideA || s.plant.sideB)
  let take := (s.die.takeDue || (s.die.mirrorMissed && !s.pw.latched)) && s.die.mirrorSync && s.standing standby == .standby
  let told (d : Nat) : Msg := ⟨.power, d, .powerStatus,
    [b2n s.pw.latched, s.pw.active, ((s.pw.yieldA.map Prod.fst).getD 0 : Nat), ((s.pw.yieldB.map Prod.fst).getD 0 : Nat)], []⟩
  let s0 := s.when powered (fun z => (z.send (told 0)).send (told 1))
  let s1 := s0.when take (fun z => z.send ⟨.power, standby, .take, [], []⟩)
  { s1 with pw := { s1.pw with silent := if s.pw.latched || !powered then 0 else s.pw.silent + 1, latched := false }
            die := { s1.die with takeDue := false, mirrorMissed := false } }

/-- Bus time of the cycle on each CAN channel, as its controller measured it. -/
def State.addBusy (s : State) (busy : List Nat) : State :=
  s.each (List.range 4) (fun z ch => z.setCan ch { z.can ch with busy := (z.can ch).busy + busy.getD ch 0 })

/-- Set-point blocks that were not sent go once more in cycle 19 (Table 6-3). -/
def State.resendBlocks (s : State) : State :=
  if s.cycle != 19 then s
  else s.each (List.range 4) fun z ch =>
    let l := (z.can ch).again
    if l.isEmpty then z else (z.setCan ch { z.can ch with again := [] }).when (z.canUp ch) (fun y => y.each l State.send)

/-- CYCLE_TICK (R13, R14, R16, R107, R193): the end of the cycle that was, the tick, and the work of the one that begins; that of cycle 0 waits
for the frame boundary. The result blocks of its window stand already. -/
def execCycleTick (t : TickIn) (s : State) : Host.Outcome State Fault Refusal :=
  let s1 := s.runWork.endCycle.closeWindow.keepSeen.advance.watchResync.watchPrep.afterStop
  let s2 := ((s1.resetOutputs.watchCommand.flushBus.takePower t.power).addBusy t.busy).watchRopes t.ropes |>.accumulate
  let s2a := { s2 with outlets := { s2.outlets with estopRun := if t.estop then s2.outlets.estopRun + 1 else 0 } }
  let s2b := (s2a.watchSeal t.seal0 t.seal1).watchKy t.ky
  let s3 := (s2b.when s2b.controlUp (fun z => z.resendBlocks.drainRings.workOrHold t)).deviceCycle
  let s4 := if s3.cycle == 0 then { s3.lcFrame with pw := { s3.lcFrame.pw with standbyPackets := 0 } } else s3
  ok s4.showCycle.sendPdelays

/-- Frames in a row in which the metered import exceeded GRID_IMPORT_LIMIT by more than 1 % (R126). -/
def State.watchImport (s : State) : State :=
  let above := decide (((s.int Ent.GRID_IMPORT_LIMIT : Int) : Rat) * 101 / 100 < s.gridImport)
  { s with alloc := { s.alloc with importOver := if above then s.alloc.importOver + 1 else 0 } }

/-- Front-end units that reported more than 102 % of their confirmed cap in the frame that ended: frames in a row (R126). -/
def State.watchCaps (s : State) : State :=
  let hot := (List.range 16).filterMap fun f =>
    let x := s.unitSt (64 + f)
    if x.heard && decide (s.frames ≤ x.at_ + 1) && decide (100 * x.power > 102 * (s.nat Ent.FE_CAP_CONFIRMED f : Int)) then
      some (f, Tab.get 0 s.alloc.feOver f + 1) else none
  { s with alloc := { s.alloc with feOver := hot } }

/-- BUS_LOAD, the busy share of the last 1,000 frames of 1,000,000 ns (Table 6-11), and the losses of the frame that ended (R138). -/
def State.busFrame (s : State) : State :=
  s.each (List.range 4) fun z ch =>
    let k := z.can ch
    let l := (k.busy :: k.busyLog).take 1000
    ((z.setCan ch { k with busy := 0, busyLog := l, lost := 0 }).when (k.lost != 0) (fun y => y.raise Evt.CAN_RX_OVERFLOW ch k.lost 0)).fitNat Ent.BUS_LOAD ch (l.sum / (l.length * 10000))

/-- The records of the frame that ended, for the streams (R459). -/
def State.streamFrame (s : State) : State :=
  ((s.each ((List.range 7).map (· + 1)) State.reportDrops).streamEvents.streamBus).streamWindows (if s.time.stepDay == some s.ticks then s.bill.lastSfn else s.sfn - 1)

/-- Step 1 of R19, the internal events of the frame that ended, in the order of the chapters. -/
def State.internalFrame (s : State) : State :=
  let s1 := s.fallbackBoundary.chargeCount.accountUpdate.crossFrame.meterFrame.intervalFrame.spanFrame
  let s2 := (s1.watchImport.watchCaps.watchStatus.each (List.range 8) State.trimBleeds).each (List.range 8) State.showString
  let s3 := ((s2.each (List.range 8) State.groupFrame).countSaturation.placeConverters).each (List.range 8) State.refreshOutlet
  let s4 := s3.trialFrame.testFrame.wokenFrame.answerChallenges.showTamper.commitEnds
  s4.when s4.keys.held (fun z => (z.issueCert 2).issueCert 3)

/-- FRAME_BOUNDARY (R19): steps 1 and 2 at cycle 0; the swap, the actions and the grants that follow are SET_SWAP, ACTION_EXECUTION
and GRANT_LAUNCH, in this order. Without a control die site time, the metering dies, the bus and the streams of the link die go on. -/
def execFrameBoundary (s : State) : Host.Outcome State Fault Refusal :=
  if s.cycle != 0 || s.tx.step != 0 then ok s
  else
    let s1 := (s.queueNotifications.streamFrame.formTime.frameTime).atStep 1
    if !s.controlUp then
      let s2 := s1.crossFrame.meterFrame.intervalFrame.spanFrame.placeBus.sendMarks.flushBus.busFrame
      ok { s2.showFrame with bus := { s2.showFrame.bus with served := false } }
    else
      let s2 := s1.internalFrame.atStep 2
      let s3 := ({ s2 with swapAsks := s2.swapAsks ++ s2.swapNext, swapNext := [] }.applyRequests).commitEnds.digests
      let s5 := s3.placeBus.placePeers.sendMarks.flushBus.busFrame.showFrame.each (List.range 8) State.showSession
      ok { s5 with bus := { s5.bus with served := true } }

/-- DEADLINE_MISS (R17, R131, R195, R248, R284): a task of a die has not finished by its tick. The loop engine's own misses are told by
the cycle tick. -/
def execDeadlineMiss (die : Fin 6) (half : Fin 2) (task period overrun : Nat) (s : State) : Host.Outcome State Fault Refusal :=
  ok (s.missDeadline die half task period overrun)

end Sys2Proof.Machine
end

