-- ==== Sys2Proof/Machine/Dispatch.lean ====
section
/-!
DEFINITION. The dispatch of a command to its meaning: one arm per constructor of `Instr`, each one direct call.
-/
namespace Sys2Proof.Machine
open Sys2Proof

def exec (i : Instr) (s : State) : Host.Outcome State Fault Refusal :=
  match i with
  | .cycleTick t => Sys2Proof.Machine.execCycleTick t s
  | .deadlineMiss die half task period overrun => Sys2Proof.Machine.execDeadlineMiss die half task period overrun s
  | .tickLineChange deviation => Sys2Proof.Machine.execTickLineChange deviation s
  | .resultBlock die b ws => Sys2Proof.Machine.execResultBlock die b ws s
  | .commandPacket die crc word clamps => Sys2Proof.Machine.execCommandPacket die crc word clamps s
  | .failsafeTimeout clamps => Sys2Proof.Machine.execFailsafeTimeout clamps s
  | .testQueueStart slot => Sys2Proof.Machine.execTestQueueStart slot s
  | .testExpired slot => Sys2Proof.Machine.execTestExpired slot s
  | .ptpSync port offset => Sys2Proof.Machine.execPtpSync port offset s
  | .ptpAnnounce port a => Sys2Proof.Machine.execPtpAnnounce port a s
  | .ptpPdelay port m => Sys2Proof.Machine.execPtpPdelay port m s
  | .announceTimeout port => Sys2Proof.Machine.execAnnounceTimeout port s
  | .timeSet c sfn ns => Sys2Proof.Machine.execTimeSet c sfn ns s
  | .actionArm c ix => Sys2Proof.Machine.execActionArm c ix s
  | .actionCancel c ix => Sys2Proof.Machine.execActionCancel c ix s
  | .actionFree c ix => Sys2Proof.Machine.execActionFree c ix s
  | .announcePoint ix => Sys2Proof.Machine.execAnnouncePoint ix s
  | .announceRepeat ix => Sys2Proof.Machine.execAnnounceRepeat ix s
  | .decidePoint ix => Sys2Proof.Machine.execDecidePoint ix s
  | .goRepeat ix => Sys2Proof.Machine.execGoRepeat ix s
  | .cancelGuardPoint ix => Sys2Proof.Machine.execCancelGuardPoint ix s
  | .cancelRepeat ix => Sys2Proof.Machine.execCancelRepeat ix s
  | .doneCheckPoint ix => Sys2Proof.Machine.execDoneCheckPoint ix s
  | .ready ix m => Sys2Proof.Machine.execReady ix m s
  | .notReady ix m reason => Sys2Proof.Machine.execNotReady ix m reason s
  | .goAck ix m => Sys2Proof.Machine.execGoAck ix m s
  | .cancelAck ix m => Sys2Proof.Machine.execCancelAck ix m s
  | .done ix m status => Sys2Proof.Machine.execDone ix m status s
  | .cycleMirror crc digest diverged selfTest => Sys2Proof.Machine.execCycleMirror crc digest diverged selfTest s
  | .mirrorMiss frame => Sys2Proof.Machine.execMirrorMiss frame s
  | .frameMirror crc digest => Sys2Proof.Machine.execFrameMirror crc digest s
  | .selfDiagnosedFault die code => Sys2Proof.Machine.execSelfDiagnosedFault die code s
  | .yield die code ok => Sys2Proof.Machine.execYield die code ok s
  | .take die ok => Sys2Proof.Machine.execTake die ok s
  | .swapRequest c => Sys2Proof.Machine.execSwapRequest c s
  | .dieRestart die => Sys2Proof.Machine.execDieRestart die s
  | .resyncStart die => Sys2Proof.Machine.execResyncStart die s
  | .resyncRequest c => Sys2Proof.Machine.execResyncRequest c s
  | .dieBootComplete die b => Sys2Proof.Machine.execDieBootComplete die b s
  | .meterDisagree ch => Sys2Proof.Machine.execMeterDisagree ch s
  | .spareCheckDone ch m0Bad m1Bad => Sys2Proof.Machine.execSpareCheckDone ch m0Bad m1Bad s
  | .meterDieFault m1 diag => Sys2Proof.Machine.execMeterDieFault m1 diag s
  | .connectionOpen conn o => Sys2Proof.Machine.execConnectionOpen conn o s
  | .connectionClose conn => Sys2Proof.Machine.execConnectionClose conn s
  | .read c index sub => Sys2Proof.Machine.execRead c index sub s
  | .write c w => Sys2Proof.Machine.execWrite c w s
  | .writeGroup c ws => Sys2Proof.Machine.execWriteGroup c ws s
  | .readSegment c index sub start => Sys2Proof.Machine.execReadSegment c index sub start s
  | .writeSegment c w start total more => Sys2Proof.Machine.execWriteSegment c w start total more s
  | .segmentTimeout tag => Sys2Proof.Machine.execSegmentTimeout tag s
  | .describe c index sub => Sys2Proof.Machine.execDescribe c index sub s
  | .eventRead c first count => Sys2Proof.Machine.execEventRead c first count s
  | .eventSubscribe c severity => Sys2Proof.Machine.execEventSubscribe c severity s
  | .eventNotify conn delivered => Sys2Proof.Machine.execEventNotify conn delivered s
  | .setSwapNow c => Sys2Proof.Machine.execSetSwapNow c s
  | .shadowCopy c => Sys2Proof.Machine.execShadowCopy c s
  | .shadowDefaults c => Sys2Proof.Machine.execShadowDefaults c s
  | .allocatorRun us => Sys2Proof.Machine.execAllocatorRun us s
  | .ack r => Sys2Proof.Machine.execAck r s
  | .moduleAckMissing m => Sys2Proof.Machine.execModuleAckMissing m s
  | .moduleEnable c m v => Sys2Proof.Machine.execModuleEnable c m v s
  | .moduleMoveFailed m => Sys2Proof.Machine.execModuleMoveFailed m s
  | .feOverCap f => Sys2Proof.Machine.execFeOverCap f s
  | .feEnable c f v => Sys2Proof.Machine.execFeEnable c f v s
  | .fault r => Sys2Proof.Machine.execFault r s
  | .status r => Sys2Proof.Machine.execStatus r s
  | .xferResponse r => Sys2Proof.Machine.execXferResponse r s
  | .xferRequest r => Sys2Proof.Machine.execXferRequest r s
  | .xferTimeout tag => Sys2Proof.Machine.execXferTimeout tag s
  | .txReport ch cls sub node outcome start data => Sys2Proof.Machine.execTxReport ch cls sub node outcome start data s
  | .canErrorPassive ch tx rx => Sys2Proof.Machine.execCanErrorPassive ch tx rx s
  | .canBusOff ch => Sys2Proof.Machine.execCanBusOff ch s
  | .busOffRecovery ch => Sys2Proof.Machine.execBusOffRecovery ch s
  | .busoffHoldEnd ch => Sys2Proof.Machine.execBusoffHoldEnd ch s
  | .unitStatusMissing unit => Sys2Proof.Machine.execUnitStatusMissing unit s
  | .unitChannelChange unit => Sys2Proof.Machine.execUnitChannelChange unit s
  | .unitTest c unit v => Sys2Proof.Machine.execUnitTest c unit v s
  | .unitTestLate unit => Sys2Proof.Machine.execUnitTestLate unit s
  | .plugInRecognised o => Sys2Proof.Machine.execPlugInRecognised o s
  | .confirmationLoss o => Sys2Proof.Machine.execConfirmationLoss o s
  | .discoveryRequest o tls => Sys2Proof.Machine.execDiscoveryRequest o tls s
  | .tlsHandshake o good cert => Sys2Proof.Machine.execTlsHandshake o good cert s
  | .appProtocolHandshake o offered => Sys2Proof.Machine.execAppProtocolHandshake o offered s
  | .sessionSetupReq o random => Sys2Proof.Machine.execSessionSetupReq o random s
  | .authorizationReq o pnc chainOk contract => Sys2Proof.Machine.execAuthorizationReq o pnc chainOk contract s
  | .dcChargeParameterDiscovery o p => Sys2Proof.Machine.execDcChargeParameterDiscovery o p s
  | .dcCableCheckReq o => Sys2Proof.Machine.execDcCableCheckReq o s
  | .cableCheckPass o => Sys2Proof.Machine.execCableCheckPass o s
  | .dcPreChargeReq o target => Sys2Proof.Machine.execDcPreChargeReq o target s
  | .powerDeliveryReqStart o => Sys2Proof.Machine.execPowerDeliveryReqStart o s
  | .powerDeliveryReqStandby o => Sys2Proof.Machine.execPowerDeliveryReqStandby o s
  | .powerDeliveryReqStop o => Sys2Proof.Machine.execPowerDeliveryReqStop o s
  | .sessionStopReq o => Sys2Proof.Machine.execSessionStopReq o s
  | .loopRequest o p => Sys2Proof.Machine.execLoopRequest o p s
  | .dcWeldingDetectionReq o finished => Sys2Proof.Machine.execDcWeldingDetectionReq o finished s
  | .certificateInstallationReq o => Sys2Proof.Machine.execCertificateInstallationReq o s
  | .authResponse c o d => Sys2Proof.Machine.execAuthResponse c o d s
  | .eimToken c o token => Sys2Proof.Machine.execEimToken c o token s
  | .authTimeout o => Sys2Proof.Machine.execAuthTimeout o s
  | .sessionStateLimit o => Sys2Proof.Machine.execSessionStateLimit o s
  | .insulationTrip o => Sys2Proof.Machine.execInsulationTrip o s
  | .outletTrip o k => Sys2Proof.Machine.execOutletTrip o k s
  | .linkLost o silence => Sys2Proof.Machine.execLinkLost o silence s
  | .stopRequest c o v => Sys2Proof.Machine.execStopRequest c o v s
  | .outletReset c o v => Sys2Proof.Machine.execOutletReset c o v s
  | .outletEnable c o v => Sys2Proof.Machine.execOutletEnable c o v s
  | .contactorOpen o => Sys2Proof.Machine.execContactorOpen o s
  | .forcedOpen o => Sys2Proof.Machine.execForcedOpen o s
  | .estopReset c v => Sys2Proof.Machine.execEstopReset c v s
  | .weldingCheck o => Sys2Proof.Machine.execWeldingCheck o s
  | .releaseLockOff o => Sys2Proof.Machine.execReleaseLockOff o s
  | .couplerReleased o => Sys2Proof.Machine.execCouplerReleased o s
  | .loopSaturated l => Sys2Proof.Machine.execLoopSaturated l s
  | .loopReset c l v => Sys2Proof.Machine.execLoopReset c l v s
  | .cableOverTemp o pin => Sys2Proof.Machine.execCableOverTemp o pin s
  | .coolantFlowLow o => Sys2Proof.Machine.execCoolantFlowLow o s
  | .coolantFlowRestored o => Sys2Proof.Machine.execCoolantFlowRestored o s
  | .groupRangeReturn g => Sys2Proof.Machine.execGroupRangeReturn g s
  | .phaseFire g at_ => Sys2Proof.Machine.execPhaseFire g at_ s
  | .phaseImbalance p => Sys2Proof.Machine.execPhaseImbalance p s
  | .phaseFastTrip p => Sys2Proof.Machine.execPhaseFastTrip p s
  | .fastTripHoldEnd p => Sys2Proof.Machine.execFastTripHoldEnd p s
  | .groupReset c g v => Sys2Proof.Machine.execGroupReset c g v s
  | .phaseFailed p => Sys2Proof.Machine.execPhaseFailed p s
  | .phaseOverload p => Sys2Proof.Machine.execPhaseOverload p s
  | .stepHoldEnd g => Sys2Proof.Machine.execStepHoldEnd g s
  | .groupStopComplete g => Sys2Proof.Machine.execGroupStopComplete g s
  | .phaseTest c p v => Sys2Proof.Machine.execPhaseTest c p v s
  | .phaseTestDone p comparator => Sys2Proof.Machine.execPhaseTestDone p comparator s
  | .phaseReset c p v => Sys2Proof.Machine.execPhaseReset c p v s
  | .report k a => Sys2Proof.Machine.execReport k a s
  | .monitorJoin n a => Sys2Proof.Machine.execMonitorJoin n a s
  | .ropeClosed n => Sys2Proof.Machine.execRopeClosed n s
  | .ropeOpen n => Sys2Proof.Machine.execRopeOpen n s
  | .ropeCoilsOff n => Sys2Proof.Machine.execRopeCoilsOff n s
  | .ropeWake n => Sys2Proof.Machine.execRopeWake n s
  | .lostMonitorWakeBurst k => Sys2Proof.Machine.execLostMonitorWakeBurst k s
  | .alarmReset c k v => Sys2Proof.Machine.execAlarmReset c k v s
  | .ropeReenumerate c n v => Sys2Proof.Machine.execRopeReenumerate c n v s
  | .enumWakeBurst n => Sys2Proof.Machine.execEnumWakeBurst n s
  | .enumCarrierStart n => Sys2Proof.Machine.execEnumCarrierStart n s
  | .enumFail n => Sys2Proof.Machine.execEnumFail n s
  | .acceptReplacement c n v => Sys2Proof.Machine.execAcceptReplacement c n v s
  | .serviceDemanded k => Sys2Proof.Machine.execServiceDemanded k s
  | .monitorTest c k v => Sys2Proof.Machine.execMonitorTest c k v s
  | .stringConnectStart n => Sys2Proof.Machine.execStringConnectStart n s
  | .stringConnectStep n => Sys2Proof.Machine.execStringConnectStep n s
  | .stringRequest c n v => Sys2Proof.Machine.execStringRequest c n v s
  | .stringDerate c n v => Sys2Proof.Machine.execStringDerate c n v s
  | .stringOverCurrent n => Sys2Proof.Machine.execStringOverCurrent n s
  | .stringInsulationFault n => Sys2Proof.Machine.execStringInsulationFault n s
  | .stringCurrentSenseLost n => Sys2Proof.Machine.execStringCurrentSenseLost n s
  | .stringCauseCleared n cause => Sys2Proof.Machine.execStringCauseCleared n cause s
  | .stringCoilsOff n => Sys2Proof.Machine.execStringCoilsOff n s
  | .stringForcedOpen n => Sys2Proof.Machine.execStringForcedOpen n s
  | .weldCheckEnd n => Sys2Proof.Machine.execWeldCheckEnd n s
  | .stringReset c n v => Sys2Proof.Machine.execStringReset c n v s
  | .stringTest c n v => Sys2Proof.Machine.execStringTest c n v s
  | .stringTestDone n => Sys2Proof.Machine.execStringTestDone n s
  | .estReset c n v => Sys2Proof.Machine.execEstReset c n v s
  | .spareDwellEnd bank r => Sys2Proof.Machine.execSpareDwellEnd bank r s
  | .slotTableRebuild die => Sys2Proof.Machine.execSlotTableRebuild die s
  | .captureTrigger x ns => Sys2Proof.Machine.execCaptureTrigger x ns s
  | .captureForce c v => Sys2Proof.Machine.execCaptureForce c v s
  | .captureDone d => Sys2Proof.Machine.execCaptureDone d s
  | .calZero c ch dies reference => Sys2Proof.Machine.execCalZero c ch dies reference s
  | .calSpan c ch dies reference => Sys2Proof.Machine.execCalSpan c ch dies reference s
  | .calRestore c ch dies reference => Sys2Proof.Machine.execCalRestore c ch dies reference s
  | .calDone ch => Sys2Proof.Machine.execCalDone ch s
  | .mchOpenTest c ch v => Sys2Proof.Machine.execMchOpenTest c ch v s
  | .openTestDone ch pos neg => Sys2Proof.Machine.execOpenTestDone ch pos neg s
  | .meterCommit die ws => Sys2Proof.Machine.execMeterCommit die ws s
  | .crossReset c pt v => Sys2Proof.Machine.execCrossReset c pt v s
  | .peakReset c pt v => Sys2Proof.Machine.execPeakReset c pt v s
  | .overcurrent pt leg => Sys2Proof.Machine.execOvercurrent pt leg s
  | .overcurrentEnd pt leg => Sys2Proof.Machine.execOvercurrentEnd pt leg s
  | .legalSealChange opened => Sys2Proof.Machine.execLegalSealChange opened s
  | .legalLogArchive c seq => Sys2Proof.Machine.execLegalLogArchive c seq s
  | .displayFrame busy => Sys2Proof.Machine.execDisplayFrame busy s
  | .displayBusyTimeout busy => Sys2Proof.Machine.execDisplayBusyTimeout busy s
  | .pfwAssert offset flushes => Sys2Proof.Machine.execPfwAssert offset flushes s
  | .meterStop die ws => Sys2Proof.Machine.execMeterStop die ws s
  | .billingClose c v => Sys2Proof.Machine.execBillingClose c v s
  | .creditTopup c a amount reference => Sys2Proof.Machine.execCreditTopup c a amount reference s
  | .readingRequest c pt v => Sys2Proof.Machine.execReadingRequest c pt v s
  | .lcCommand c ch v => Sys2Proof.Machine.execLcCommand c ch v s
  | .lcDuty c ch v => Sys2Proof.Machine.execLcDuty c ch v s
  | .lcPullInEnd ch => Sys2Proof.Machine.execLcPullInEnd ch s
  | .lcShortCircuit ch peak clamp => Sys2Proof.Machine.execLcShortCircuit ch peak clamp s
  | .lcLimitTimeout ch peak clamp => Sys2Proof.Machine.execLcLimitTimeout ch peak clamp s
  | .lcOverload ch clamp => Sys2Proof.Machine.execLcOverload ch clamp s
  | .lcThermalLatch ch rise temp clamp => Sys2Proof.Machine.execLcThermalLatch ch rise temp clamp s
  | .lcThermalClear ch rise temp => Sys2Proof.Machine.execLcThermalClear ch rise temp s
  | .lcRetry ch => Sys2Proof.Machine.execLcRetry ch s
  | .lcRetryBudgetReset ch => Sys2Proof.Machine.execLcRetryBudgetReset ch s
  | .lcReset c ch v => Sys2Proof.Machine.execLcReset c ch v s
  | .lcOpenLoad ch => Sys2Proof.Machine.execLcOpenLoad ch s
  | .lcOpenLoadClear ch => Sys2Proof.Machine.execLcOpenLoadClear ch s
  | .lcTest c ch v => Sys2Proof.Machine.execLcTest c ch v s
  | .lcTestDone ch x => Sys2Proof.Machine.execLcTestDone ch x s
  | .halfOverload half => Sys2Proof.Machine.execHalfOverload half s
  | .vauxUndervoltage half mv => Sys2Proof.Machine.execVauxUndervoltage half mv s
  | .vauxOvervoltage half mv => Sys2Proof.Machine.execVauxOvervoltage half mv s
  | .loadGroundLost half mv => Sys2Proof.Machine.execLoadGroundLost half mv s
  | .vauxRecovery half cond => Sys2Proof.Machine.execVauxRecovery half cond s
  | .beaconPeriodStart offset c1 c2 heard => Sys2Proof.Machine.execBeaconPeriodStart offset c1 c2 heard s
  | .zcLost measured => Sys2Proof.Machine.execZcLost measured s
  | .pollReply e data => Sys2Proof.Machine.execPollReply e data s
  | .pollFail e dir => Sys2Proof.Machine.execPollFail e dir s
  | .dataFrame e start blocks => Sys2Proof.Machine.execDataFrame e start blocks s
  | .selectiveAck e mask => Sys2Proof.Machine.execSelectiveAck e mask s
  | .toneMap e m => Sys2Proof.Machine.execToneMap e m s
  | .join j => Sys2Proof.Machine.execJoin j s
  | .loadRequest e watts essential => Sys2Proof.Machine.execLoadRequest e watts essential s
  | .loadDeferExpiry e => Sys2Proof.Machine.execLoadDeferExpiry e s
  | .keyUpdate c k msg => Sys2Proof.Machine.execKeyUpdate c k msg s
  | .keyChallenge c k v => Sys2Proof.Machine.execKeyChallenge c k v s
  | .keyConfirm c k v => Sys2Proof.Machine.execKeyConfirm c k v s
  | .slotCert c k v => Sys2Proof.Machine.execSlotCert c k v s
  | .keyPendingExpired k => Sys2Proof.Machine.execKeyPendingExpired k s
  | .tamper cause run k => Sys2Proof.Machine.execTamper cause run k s
  | .slotManifest c ix v => Sys2Proof.Machine.execSlotManifest c ix v s
  | .slotBlock c ix v => Sys2Proof.Machine.execSlotBlock c ix v s
  | .slotErase c ix v => Sys2Proof.Machine.execSlotErase c ix v s
  | .prepareStart ix => Sys2Proof.Machine.execPrepareStart ix s
  | .prepareFailed step status => Sys2Proof.Machine.execPrepareFailed step status s
  | .fwConfirm c v => Sys2Proof.Machine.execFwConfirm c v s
  | .fwFallback c v => Sys2Proof.Machine.execFwFallback c v s
  | .recoveryBoot c v => Sys2Proof.Machine.execRecoveryBoot c v s
  | .streamReady msg => Sys2Proof.Machine.execStreamReady msg s
  | .streamCredit msg => Sys2Proof.Machine.execStreamCredit msg s
  | .streamMask c v => Sys2Proof.Machine.execStreamMask c v s
  | .serviceLinkChange v => Sys2Proof.Machine.execServiceLinkChange v s
  | .recoveryEnter c v => Sys2Proof.Machine.execRecoveryEnter c v s
  | .recoveryExit c v => Sys2Proof.Machine.execRecoveryExit c v s
  | .testEnter c v => Sys2Proof.Machine.execTestEnter c v s
  | .supplyFault dom mv => Sys2Proof.Machine.execSupplyFault dom mv s
  | .supplyRestored dom mv ms => Sys2Proof.Machine.execSupplyRestored dom mv ms s
  | .sideResetRelease sideB => Sys2Proof.Machine.execSideResetRelease sideB s
  | .sleepRequest c v => Sys2Proof.Machine.execSleepRequest c v s
  | .shipRequest c v => Sys2Proof.Machine.execShipRequest c v s
  | .shipEntry flushes => Sys2Proof.Machine.execShipEntry flushes s
  | .dieHalfFault half watchdog diag => Sys2Proof.Machine.execDieHalfFault half watchdog diag s
  | .dieHalfRestored half => Sys2Proof.Machine.execDieHalfRestored half s
  | .serviceDiscoveryReq o select mode => Sys2Proof.Machine.execServiceDiscoveryReq o select mode s
  | .siphonLaneLoss lane => Sys2Proof.Machine.execSiphonLaneLoss lane s
  | .spareCheckRepeat ch m1 agrees => Sys2Proof.Machine.execSpareCheckRepeat ch m1 agrees s
  | .peerConnect e accepted => Sys2Proof.Machine.execPeerConnect e accepted s
  | .senseBreakTimeout k wire => Sys2Proof.Machine.execSenseBreakTimeout k wire s
  | .sliceRetired bank slice c => Sys2Proof.Machine.execSliceRetired bank slice c s
  | .vauxReversed half mv => Sys2Proof.Machine.execVauxReversed half mv s
  | .toneMapAgeExpiry e dir seg => Sys2Proof.Machine.execToneMapAgeExpiry e dir seg s
  | .modemHandover cause => Sys2Proof.Machine.execModemHandover cause s
  | .sounding e ends snr => Sys2Proof.Machine.execSounding e ends snr s
  | .contentionAccess e start failed => Sys2Proof.Machine.execContentionAccess e start failed s
  | .legalImageLoadDone die digest => Sys2Proof.Machine.execLegalImageLoadDone die digest s
  | .frameBoundary => Sys2Proof.Machine.execFrameBoundary s
  | .ptpSyncTransmit => Sys2Proof.Machine.execPtpSyncTransmit s
  | .timeStep => Sys2Proof.Machine.execTimeStep s
  | .stepLastDayEnd => Sys2Proof.Machine.execStepLastDayEnd s
  | .leapSecond => Sys2Proof.Machine.execLeapSecond s
  | .backupCounterWrite => Sys2Proof.Machine.execBackupCounterWrite s
  | .actionExecution => Sys2Proof.Machine.execActionExecution s
  | .switchOver => Sys2Proof.Machine.execSwitchOver s
  | .plannedSwitchOver => Sys2Proof.Machine.execPlannedSwitchOver s
  | .resyncPhaseDone => Sys2Proof.Machine.execResyncPhaseDone s
  | .resyncFailed => Sys2Proof.Machine.execResyncFailed s
  | .resyncRetry => Sys2Proof.Machine.execResyncRetry s
  | .preferredDieTimeout => Sys2Proof.Machine.execPreferredDieTimeout s
  | .setSwap => Sys2Proof.Machine.execSetSwap s
  | .limitRecheck => Sys2Proof.Machine.execLimitRecheck s
  | .grantPublish => Sys2Proof.Machine.execGrantPublish s
  | .setpointTransmit => Sys2Proof.Machine.execSetpointTransmit s
  | .grantLaunch => Sys2Proof.Machine.execGrantLaunch s
  | .importOverLimit => Sys2Proof.Machine.execImportOverLimit s
  | .emergencyStop => Sys2Proof.Machine.execEmergencyStop s
  | .estopForcedOpen => Sys2Proof.Machine.execEstopForcedOpen s
  | .estopRelease => Sys2Proof.Machine.execEstopRelease s
  | .estopAutoReset => Sys2Proof.Machine.execEstopAutoReset s
  | .sweepStart => Sys2Proof.Machine.execSweepStart s
  | .retryCall => Sys2Proof.Machine.execRetryCall s
  | .sweepPublish => Sys2Proof.Machine.execSweepPublish s
  | .estimateCommit => Sys2Proof.Machine.execEstimateCommit s
  | .balanceSelection => Sys2Proof.Machine.execBalanceSelection s
  | .estimatorStore => Sys2Proof.Machine.execEstimatorStore s
  | .crossCheckWindow => Sys2Proof.Machine.execCrossCheckWindow s
  | .pfwRelease => Sys2Proof.Machine.execPfwRelease s
  | .calendarActivation => Sys2Proof.Machine.execCalendarActivation s
  | .intervalClose => Sys2Proof.Machine.execIntervalClose s
  | .billingPeriodClose => Sys2Proof.Machine.execBillingPeriodClose s
  | .routeComputation => Sys2Proof.Machine.execRouteComputation s
  | .auxImbalance => Sys2Proof.Machine.execAuxImbalance s
  | .rewrapDone => Sys2Proof.Machine.execRewrapDone s
  | .keysRederived => Sys2Proof.Machine.execKeysRederived s
  | .prepareDone => Sys2Proof.Machine.execPrepareDone s
  | .trialTimeExpiry => Sys2Proof.Machine.execTrialTimeExpiry s
  | .legalActivationM0 => Sys2Proof.Machine.execLegalActivationM0 s
  | .streamLinkDown => Sys2Proof.Machine.execStreamLinkDown s
  | .streamStalled => Sys2Proof.Machine.execStreamStalled s
  | .blockTransmit => Sys2Proof.Machine.execBlockTransmit s
  | .discoveryDatagram => Sys2Proof.Machine.execDiscoveryDatagram s
  | .rstNAssert => Sys2Proof.Machine.execRstNAssert s
  | .sleepEntry => Sys2Proof.Machine.execSleepEntry s
  | .wakeCarrierStart => Sys2Proof.Machine.execWakeCarrierStart s
  | .shipWake mv ms => Sys2Proof.Machine.execShipWake mv ms s
  | .refclkLost gap ppm us => Sys2Proof.Machine.execRefclkLost gap ppm us s
  | .refclkRestored ms => Sys2Proof.Machine.execRefclkRestored ms s

end Sys2Proof.Machine
end

