-- ==== Sys2Proof/Machine/Replay.lean ====
section
/-!
DEFINITION. Delivery of a received message to the new active die after a switch-over (R73).
-/
namespace Sys2Proof.Machine
open Sys2Proof

/-- A message of a lost frame is delivered again to the new active die (R73). -/
def deliverAgain (m : Instr) (s : State) : Host.Outcome State Fault Refusal :=
  match exec m { s with mirror := { s.mirror with replay := true } } with
  | .next t => .next { t with mirror := { t.mirror with replay := false } }
  | x => x

end Sys2Proof.Machine
end

