-- ==== Sys2Proof/Machine/Step.lean ====
section
/-!
DEFINITION. One step of the block: the command at the front of the queue takes effect; an empty queue idles.
-/
namespace Sys2Proof.Machine
open Sys2Proof

/-- One step: the first waiting command runs on the state with the queue's rest. With nothing waiting the messages a
switch-over left to be delivered again follow one by one (R73), and then the block idles (DESIGN CHOICE, log entry 12): the tick of the clock is a command of the table. -/
def step (s : State) : Host.Outcome State Fault Refusal :=
  match s.pending with
  | c :: rest => exec c { s with pending := rest }
  | [] =>
    match s.mirror.again with
    | [] => .next s
    | m :: rest => deliverAgain m { s with mirror := { s.mirror with again := rest } }

/-- The state with the command of a table word put first in its queue; unchanged where the word spells none. -/
def State.withFetchWord (s : State) (nbits w : Nat) : State :=
  match decodeTableWord nbits w with
  | none => s
  | some c => { s with pending := c :: s.pending }

end Sys2Proof.Machine
end

