-- ==== Sys2Proof/Safety.lean ====
section
/-!
DEFINITION. The terms in which the statements speak: a client's write that the engine takes in, the answer it gets, an event
raised, and the invariant of the counters every frame of the device rests on.
-/
namespace Sys2Proof.Machine
open Sys2Proof

/-- The cycle is in step with the clock (R13, R14): the count of ticks since the power-up, modulo the 20 cycles of a frame. -/
def State.inStep (s : State) : Prop := s.cycle = s.ticks % 20

/-- A safe run: no step of it faults or refuses. -/
def SafeStep (s : State) : Prop := ∃ t, step s = .next t

/-- The state in which an accepted request takes effect: its tag is occupied (R96), and the request stands among those a lost frame
would apply again (R73). -/
def State.taken (s : State) (h : Held) : State := (s.takeTag h.tag (some h.conn)).noteApplied h

/-- The engine accepts a client's write of one entry as the request `h`, at step 2 of a boundary (R19): the connection is open, the
header passes (R102), the request ID is new (R100), a tag is free (R96), and every receipt check of R97 passes. -/
def State.accepts (s : State) (c : Client) (e : Entry) (n : Nat) (v : Val) (h : Held) (j : Nat := 0) : Prop :=
  ∃ k t, Tab.find s.tx.conns c.conn = some k ∧ headerStatus c = St.OK ∧ s.keptFor k.identity c.reqId = none ∧
    s.tx.freeTag c.conn = some t ∧ s.applying = true ∧
    h = ⟨s.sfn, c.offset, t, c.conn, k.role, k.service, k.identity, c.reqId, Op.WRITE, c.shadow, c.queue, [e.item n v j]⟩ ∧
    (s.takeTag t (some c.conn)).clientReceipt e n (e.item n v j) h = St.OK

/-- A query of a client is taken in (R96, R102) with tag `t`. -/
def State.acceptsQuery (s : State) (c : Client) (k : Conn) (t : Nat) : Prop :=
  Tab.find s.tx.conns c.conn = some k ∧ headerStatus c = St.OK ∧ s.tx.freeTag c.conn = some t

/-- The answer to a request with a status, without data. -/
def Held.answer (h : Held) (status : Nat) : Msg := answerMsg h.conn h.op h.reqId status h.tag false []

/-- The last message given to the link die answers `h` with a status: it leaves when its frame is mirrored (R73). -/
def State.repliesWith (t : State) (h : Held) (status : Nat) : Prop := t.waiting.getLast? = some (h.answer status)

/-- The last message given to the link die is a reply to the vehicle at an outlet (log entry 20). -/
def State.tellsVehicle (t : State) (o msg response ongoing : Nat) (values : List Int) : Prop :=
  t.waiting.getLast? = some ⟨.vehicle, o, .reply, [(msg : Int), response, ongoing] ++ values, []⟩

/-- The session at an outlet has the end reason of a source that came first, and stands in a state (R182, R183). -/
def State.endedBy (t : State) (o reason st : Nat) : Prop :=
  (t.sess o).committed = true ∧ (t.sess o).reason = reason ∧ t.sesState o = st

/-- The device hears a frame of a unit on the module bus: its channel is up, the frame is one of CAN FD, a control die serves and finds
the channel's ring empty, and the sender is `u` (R135, R138, R141). -/
def State.hears (s : State) (r : CanRx) (u : Nat) : Prop :=
  s.canUp r.ch.val = true ∧ r.iso = true ∧ s.controlUp = true ∧ (s.can r.ch.val).ring = [] ∧ s.mirror.replay = false ∧
    s.unitAt r.ch.val (r.id % 32) = some u

/-- A message stands among those sent in this cycle or among those that wait for a window of the module bus. -/
def State.onBus (t : State) (m : Msg) : Prop := m ∈ t.out ∨ ∃ f, (f, m) ∈ t.bus.queue

/-- The event log of `t` is that of `s` with one event more, or one more dropped (R107). -/
def State.raised (s t : State) (k : EvKind) (inst p1 p2 : Nat) : Prop := t.ev = (s.raise k inst p1 p2).ev

/-- The newest event of `t`. -/
def State.newest (t : State) (k : EvKind) (inst p1 p2 : Nat) : Prop :=
  ∃ r, t.ev.log.head? = some r ∧ r.code = k.code ∧ r.severity = k.severity ∧ r.instNo = inst ∧ r.param1 = p1 ∧ r.param2 = p2

/-- The dictionary's own values are the same but at the keys listed. -/
def State.cellsKept (s t : State) (keys : List Nat) : Prop := ∀ k, k ∉ keys → Tab.find t.cells k = Tab.find s.cells k

/-- A calibration of channel `ch` has begun for a client's request (R321): answered OK, it runs and its target is under test. -/
def State.startsCal (s t : State) (h : Held) (ch command dies reference : Nat) : Prop :=
  t.repliesWith h St.OK ∧
    t.meas.calibs = ⟨ch, command, dies, reference, if command = 3 then 1 else s.nat Ent.CAL_FRAMES, [], [], 0, 0, 0, 0⟩ :: s.meas.calibs ∧
    t.running = ⟨Ent.MCH_CAL_REQUEST.target ch, none, s.ticks⟩ :: s.running

/-- A request is refused with a status and nothing measured or under test changes (R22). -/
def State.refusesCal (s t : State) (h : Held) (status : Nat) : Prop :=
  t.repliesWith h status ∧ t.meas = s.meas ∧ t.running = s.running

/-- A channel may be calibrated: no seal forbids it and no test runs on it (R22, R321). -/
def State.mayCal (s : State) (ch dies : Nat) : Prop :=
  (1 ≤ dies ∧ dies ≤ 3) ∧ (s.flag Ent.MCH_LEGAL ch = false ∨ (s.flag Ent.LEGAL_SEAL_STATE = true ∧ s.legalLow = false)) ∧
    s.chanTested ch = false

/-- A protective shutdown of a load channel by a cause (R379, R380): off, a retry and a trip counted; within the retries it waits,
doubling with each; beyond them it is latched off. -/
def State.shutFor (s t : State) (ch cause : Nat) : Prop :=
  let n := s.nat Ent.LC_RETRIES_USED ch + 1
  (t.lcs ch).on = false ∧ t.nat Ent.LC_RETRIES_USED ch = n ∧ t.nat Ent.LC_TRIP_COUNT ch = s.nat Ent.LC_TRIP_COUNT ch + 1 ∧
    (n ≤ s.retryLimit ch → (t.lcs ch).wait = some (s.ticks + msTicks (s.nat Ent.LC_RETRY_DELAY ch * 2 ^ (n - 1))) ∧
      (t.lcs ch).latchedOff = false) ∧
    (s.retryLimit ch < n → (t.lcs ch).latchedOff = true ∧ (t.lcs ch).cause = cause)

/-- Room for another event in this cycle (R107). -/
def State.mayRaise (s : State) : Prop := s.ev.count < 64

end Sys2Proof.Machine
end

