-- ==== Sys2Proof/Certificates/Slice0/Obligations.lean ====
section
/-!
DEFINITION. The statements for the provers, family by family: what a command of the device answers, what its next state holds
and what it leaves alone, by the spec's rules. A clause about a command names the conditions of the spec under which it takes
effect, in terms of the state and the operands alone. A frame is written as an equation: the next state with the parts that may
change put back is the state before.
-/
open Sys2Proof Sys2Proof.Machine

/-- For every command c, every rest of a queue and every state s: with c in front, step of s is exec of c on s with the
queue's rest. With nothing waiting, a message that a switch-over left to be delivered again is delivered (R73), and with
none left step answers s itself (DESIGN CHOICE, log entry 12). -/
def Obligations.StepRunsTheFrontCommand : Prop :=
  ∀ (s : State),
    (∀ (c : Instr) (rest : List Instr), step { s with pending := c :: rest } = exec c { s with pending := rest }) ∧
    (∀ (m : Instr) (rest : List Instr), s.pending = [] → s.mirror.again = m :: rest →
      step s = deliverAgain m { s with mirror := { s.mirror with again := rest } }) ∧
    (s.pending = [] → s.mirror.again = [] → step s = .next s)

/-- State.reset waits for no command, is in START with site time UNSET, lists no entry value (so each entry reads its
default), has sent nothing and holds no request, event or connection; its cycle is in step with its count of ticks.
Where the spec gives no reset value the value is the model's (log entry 2). -/
def Obligations.ResetIsStartWithNothingPending : Prop :=
  State.reset.pending = [] ∧ State.reset.nat Ent.DEVICE_STATE = Dev.START ∧ State.reset.time.state = .unset ∧
    State.reset.cells = [] ∧ State.reset.actSet = [] ∧ State.reset.shdSet = [] ∧ State.reset.out = [] ∧
    State.reset.waiting = [] ∧ State.reset.ev.log = [] ∧ State.reset.tx.conns = [] ∧
    (∀ (e : Entry) (n j : Nat), State.reset.val e n j = e.default n) ∧ State.reset.inStep

/-- CYCLE_TICK answers a next state whose SITE_TIME entry shows its own site frame and the offset of its cycle.
FRAME_BOUNDARY at cycle 0 answers a next state in which the link die is marked served exactly when a control die
serves, and step 2 of the boundary is under way; at another cycle, and a second time in a cycle, it changes nothing.
DEADLINE_MISS outside the frame of a switch-over, of a task not reported in this cycle before, notes the miss with the
run of its task, and (short of the third in a row) raises its event and counts DEADLINE_MISS_COUNT up, changing nothing
else; in the frame of a switch-over it is noted without event. -/
def Obligations.TickAdvancesTheClock : Prop :=
  ∀ (s : State),
    (∀ (i : TickIn), ∃ t, exec (.cycleTick i) s = .next t ∧ t.bytes Ent.SITE_TIME = time64 t.sfn (t.cycle * 50000) ∧ t.tx.step = 0) ∧
    (s.cycle = 0 → s.tx.step = 0 → ∃ t, exec .frameBoundary s = .next t ∧ t.bus.served = s.controlUp ∧
      (s.controlUp = true → t.tx.step = 2)) ∧
    (s.cycle ≠ 0 ∨ s.tx.step ≠ 0 → exec .frameBoundary s = .next s) ∧
    (∀ (die : Fin 6) (half : Fin 2) (task period overrun : Nat),
      let key := die.val * 65536 + low 16 task
      let before := Tab.get (0, 0) s.die.misses key
      let last := if 0 < period ∧ before.1 + period = s.ticks then before.2 else 0
      (Tab.find s.die.misses key).map Prod.fst ≠ some s.ticks →
      (s.die.switchFrame ≠ some s.sfn → last ≠ 2 → s.nat Ent.DEADLINE_MISS_COUNT + 1 < 2 ^ 32 →
        ∃ t, exec (.deadlineMiss die half task period overrun) s = .next t ∧ Tab.find t.die.misses key = some (s.ticks, last + 1) ∧
          t.nat Ent.DEADLINE_MISS_COUNT = s.nat Ent.DEADLINE_MISS_COUNT + 1 ∧
          s.raised t Evt.DEADLINE_MISS die.val (low 16 task) (low 32 overrun) ∧
          s.cellsKept t [Ent.DEADLINE_MISS_COUNT.key] ∧
          { t with ev := s.ev, cells := s.cells, writes := s.writes, die := s.die } = s) ∧
      (s.die.switchFrame = some s.sfn →
        ∃ t, exec (.deadlineMiss die half task period overrun) s = .next t ∧ Tab.find t.die.misses key = some (s.ticks, last) ∧
          { t with die := s.die } = s))

/-- In mode 2, with no clock followed, and in mode 1 where it is better than the device's own, an Announce of the device's
domain is followed: site time is ACQUIRING and LEAP_PENDING takes its indicator; in mode 0 and from another domain an
Announce changes nothing. The sixteenth consecutive Sync below 1 µs locks, with an error estimate of 1 µs; a larger
offset begins the count anew and, with no correction under way, is corrected by R36. A neighbour's request is answered
on its port, and a path delay joins its port's last sixteen. When the clock followed has been silent and the other port
has not heard it for 3 s, it is given up, LOCKED becoming HOLDOVER; an acquisition under way stays ACQUIRING (DESIGN
CHOICE, log entry 93). -/
def Obligations.SiteTimeEntersItsStates : Prop :=
  ∀ (s : State),
    (∀ (port : Fin 2) (a : Announce),
      a.domain = s.nat Ent.PTP_DOMAIN → s.time.master = none →
      s.nat Ent.TIME_SOURCE_MODE = 2 ∨ (s.nat Ent.TIME_SOURCE_MODE = 1 ∧ betterClock (announceKey a) s.ownKey = true) →
      ∃ t, exec (.ptpAnnounce port a) s = .next t ∧ t.time.master = some a ∧ t.time.state = .acquiring ∧ t.time.syncRun = 0 ∧
        t.int Ent.LEAP_PENDING = (if a.leap61 then 1 else if a.leap59 then -1 else 0) ∧
        s.cellsKept t [Ent.LEAP_PENDING.key, Ent.TAI_UTC_OFFSET.key] ∧
        { t with time := s.time, cells := s.cells, writes := s.writes, ev := s.ev, free := s.free } = s) ∧
    (∀ (port : Fin 2) (a : Announce), s.nat Ent.TIME_SOURCE_MODE = 0 ∨ a.domain ≠ s.nat Ent.PTP_DOMAIN →
      exec (.ptpAnnounce port a) s = .next s) ∧
    (∀ (port : Fin 2) (offset : Int),
      s.nat Ent.TIME_SOURCE_MODE ≠ 0 → s.time.master.isSome → s.time.upstream = port.val + 1 → s.time.state = .acquiring →
      (offset.natAbs < 1000 → 15 ≤ s.time.syncRun →
        ∃ t, exec (.ptpSync port offset) s = .next t ∧ t.time.state = .locked ∧ t.time.errorPs = 1000000 ∧
          { t with time := s.time, ev := s.ev } = s) ∧
      (offset.natAbs < 1000 → s.time.syncRun < 15 →
        exec (.ptpSync port offset) s = .next { s with time := { s.time with syncRun := s.time.syncRun + 1 } }) ∧
      (1000 ≤ offset.natAbs → s.time.slewNs ≠ 0 ∨ s.time.stepNs.isSome →
        exec (.ptpSync port offset) s = .next { s with time := { s.time with syncRun := 0 } }) ∧
      (1000 ≤ offset.natAbs → s.time.slewNs = 0 → s.time.stepNs = none →
        ∃ t, exec (.ptpSync port offset) s = .next t ∧ t.time.syncRun = 0 ∧ t.time.state = .acquiring ∧
          (if offset.natAbs ≤ 30000000000 ∧ offset.natAbs + corrSum s.liveCorrections ≤ 30000000000
           then t.time.slewNs = -offset ∧ t.time.stepNs = none
           else t.time.slewNs = 0 ∧ t.time.stepNs = some (-offset, s.ticks)) ∧
          s.cellsKept t [Ent.CORRECTION_24H.key] ∧
          { t with time := s.time, cells := s.cells, writes := s.writes, free := s.free } = s)) ∧
    (∀ (port : Fin 2), s.portUp port = true →
      exec (.ptpPdelay port .request) s =
        .next { s with out := s.out ++ [⟨.ptp, port, .pdelay, [s.nat Ent.PTP_DOMAIN, 1, s.sfn, s.cycle * 50000], []⟩] }) ∧
    (∀ (delay : Nat),
      (∃ t, exec (.ptpPdelay 0 (.response delay)) s = .next t ∧ t.time.delays0 = (delay :: s.time.delays0).take 16 ∧
        { t with time := { t.time with delays0 := s.time.delays0 } } = s) ∧
      (∃ t, exec (.ptpPdelay 1 (.response delay)) s = .next t ∧ t.time.delays1 = (delay :: s.time.delays1).take 16 ∧
        { t with time := { t.time with delays1 := s.time.delays1 } } = s)) ∧
    (∀ (port : Fin 2), s.time.master.isSome → s.time.upstream = port.val + 1 →
      let other := if port.val = 0 then s.time.heard1 else s.time.heard0
      ((∀ h, other = some h → h + 60000 < s.ticks) → s.time.state = .locked →
        ∃ t, exec (.announceTimeout port) s = .next t ∧ t.time.state = .holdover ∧ t.time.master = none ∧ t.time.upstream = 0 ∧
          s.raised t Evt.TIME_STATE_CHANGE 0 3 4 ∧ { t with time := s.time, ev := s.ev } = s) ∧
      ((∀ h, other = some h → h + 60000 < s.ticks) → s.time.state ≠ .locked →
        ∃ t, exec (.announceTimeout port) s = .next t ∧ t.time.state = s.time.state ∧ t.time.master = none ∧ t.time.upstream = 0 ∧
          { t with time := s.time } = s) ∧
      (∀ h, other = some h → s.ticks ≤ h + 60000 →
        exec (.announceTimeout port) s = .next { s with time := { s.time with upstream := 2 - port.val } }))

/-- An accepted TIME_SET where R35 allows it (mode 0, or mode 1 with no clock followed) answers OK and leaves site time
SET. The correction is written time less site time; when it and the sum of the day's corrections with it stay within 30
s it is slewed, otherwise it steps at the boundary after this one. Otherwise the answer is CONFLICT. Nothing outside
site time, its entry, the event log, the engine and its answers changes. -/
def Obligations.TimeSetStartsACorrection : Prop :=
  ∀ (s : State) (c : Client) (sfn ns : Nat) (h : Held), s.accepts c Ent.TIME_SET 0 (.bytes (time64 sfn ns)) h →
    ((s.nat Ent.TIME_SOURCE_MODE = 0 ∨ (s.nat Ent.TIME_SOURCE_MODE = 1 ∧ s.time.master = none)) →
      let d : Int := ((sfn : Int) - s.sfn) * 1000000 + ns
      ∃ t, exec (.timeSet c sfn ns) s = .next t ∧ t.time.state = .set ∧ t.repliesWith h St.OK ∧
        (if d.natAbs ≤ 30000000000 ∧ d.natAbs + corrSum s.liveCorrections ≤ 30000000000
         then t.time.slewNs = d ∧ t.time.stepNs = s.time.stepNs
         else t.time.slewNs = 0 ∧ t.time.stepNs = some (d, s.ticks)) ∧
        { t with tx := s.tx, cells := s.cells, writes := s.writes, time := s.time, ev := s.ev, waiting := s.waiting, free := s.free,
                 mirror := s.mirror } = s) ∧
    (¬(s.nat Ent.TIME_SOURCE_MODE = 0 ∨ (s.nat Ent.TIME_SOURCE_MODE = 1 ∧ s.time.master = none)) →
      ∃ t, exec (.timeSet c sfn ns) s = .next t ∧ t.repliesWith h St.CONFLICT ∧ t.time = s.time ∧
        { t with tx := s.tx, cells := s.cells, waiting := s.waiting, mirror := s.mirror } = s)

/-- At the boundary after the applying one a step renumbers the frame by the correction rounded to whole frames, sets
STEP_LAST_DAY and leaves the remainder to be slewed; 24 h later the flag ends. A leap second changes TAI_UTC_OFFSET and
clears LEAP_PENDING and nothing else. The backup counter takes site time and error while site time is LOCKED or SET. A
grandmaster sends Sync and Announce on each port whose link die half works; another device sends nothing. -/
def Obligations.TimeStepRenumbersTheFrames : Prop :=
  ∀ (s : State),
    (∀ (d : Int) (b : Nat), s.time.stepNs = some (d, b) → s.cycle = 0 → b + 20 ≤ s.ticks →
      ∃ t, exec .timeStep s = .next t ∧ t.sfn = ((s.sfn : Int) + ratRound ((d : Rat) / 1000000)).toNat % 2 ^ 64 ∧
        t.time.stepNs = none ∧ t.time.stepDay = some s.ticks ∧ t.time.slewNs = d - ratRound ((d : Rat) / 1000000) * 1000000 ∧
        t.time.flagMark = 15 ∧ t.time.flagEusor = true ∧ t.time.flagPrebex = true ∧ t.radio.cur = none ∧
        t.bill.stepped = true) ∧
    (∀ (b : Nat), s.time.stepDay = some b → b + 86400 * 20000 ≤ s.ticks →
      exec .stepLastDayEnd s = .next { s with time := { s.time with stepDay := none } }) ∧
    (s.int Ent.LEAP_PENDING ≠ 0 → -32768 ≤ s.int Ent.TAI_UTC_OFFSET + s.int Ent.LEAP_PENDING →
      s.int Ent.TAI_UTC_OFFSET + s.int Ent.LEAP_PENDING ≤ 32767 →
      ∃ t, exec .leapSecond s = .next t ∧ t.int Ent.TAI_UTC_OFFSET = s.int Ent.TAI_UTC_OFFSET + s.int Ent.LEAP_PENDING ∧
        t.int Ent.LEAP_PENDING = 0 ∧ t.sfn = s.sfn ∧ t.time = s.time ∧
        s.cellsKept t [Ent.LEAP_PENDING.key, Ent.TAI_UTC_OFFSET.key] ∧ { t with cells := s.cells, writes := s.writes, ev := s.ev } = s) ∧
    (s.time.state = .locked ∨ s.time.state = .set →
      ∃ t, exec .backupCounterWrite s = .next t ∧ t.time.backupValid = true ∧ t.time.backupSfn = s.sfn ∧
        t.time.backupErrorPs = s.time.errorPs ∧ t.time.backupTick = s.ticks ∧ { t with time := s.time } = s) ∧
    (s.isGrandmaster = true →
      ∃ t, exec .ptpSyncTransmit s = .next t ∧ t.out.length = s.out.length + 2 * (b2n s.die.lkA + b2n s.die.lkB) ∧
        (∀ p, p = 0 ∨ p = 1 → s.portUp p = true →
          ⟨.ptp, p, .sync, [(s.nat Ent.PTP_DOMAIN : Int), s.sfn, s.cycle * 50000], []⟩ ∈ t.out ∧
          ∃ m ∈ t.out, m.port = .ptp ∧ m.dest = p ∧ m.kind = .announcePtp ∧ m.args.take 3 = [(s.nat Ent.PTP_DOMAIN : Int), s.nat Ent.PTP_PRIORITY1, s.clockClass]) ∧
        { t with out := s.out } = s) ∧
    (s.isGrandmaster = false → exec .ptpSyncTransmit s = .next s)

/-- An accepted CONTROL write of 1 to a FREE action whose arm checks pass makes it ARMED; of 2 to an armed action of no
group makes it CANCELLED with RESULT CANCELLED and its event; of 3 to an action that has ended makes it FREE. Each
answers OK and changes no other value of the dictionary than the action's own and the counts of tags. Arming an action
that is already armed answers ALREADY_DONE and freeing it CONFLICT. -/
def Obligations.ScheduledActionsAreArmedCancelledFreed : Prop :=
  ∀ (s : State) (c : Client) (i : Nat) (h : Held),
    (s.accepts c Ent.ACTION_CONTROL i (.num 1) h → s.aState i = Act.FREE → s.aGroup i = 0 → (s.taken h).armStatus i = St.OK →
      ∃ t, exec (.actionArm c i) s = .next t ∧ t.aState i = Act.ARMED ∧ t.repliesWith h St.OK ∧
        s.cellsKept t [Ent.ACTION_STATE.key i, Ent.TAGS_IN_USE.key, Ent.TAGS_HIGH_WATER.key] ∧
        { t with tx := s.tx, cells := s.cells, writes := s.writes, waiting := s.waiting, mirror := s.mirror } = s) ∧
    (s.accepts c Ent.ACTION_CONTROL i (.num 1) h → s.aState i = Act.ARMED →
      ∃ t, exec (.actionArm c i) s = .next t ∧ t.repliesWith h St.ALREADY_DONE ∧ t.aState i = Act.ARMED) ∧
    (s.accepts c Ent.ACTION_CONTROL i (.num 2) h → s.aState i = Act.ARMED → s.aGroup i = 0 →
      ∃ t, exec (.actionCancel c i) s = .next t ∧ t.aState i = Act.CANCELLED ∧ t.nat Ent.ACTION_RESULT i = St.CANCELLED ∧
        s.raised t Evt.ACTION_CANCELLED i (low 32 (s.aSfn i)) St.CANCELLED ∧ t.repliesWith h St.OK ∧
        s.cellsKept t [Ent.ACTION_STATE.key i, Ent.ACTION_RESULT.key i, Ent.TAGS_IN_USE.key, Ent.TAGS_HIGH_WATER.key] ∧
        { t with tx := s.tx, cells := s.cells, writes := s.writes, ev := s.ev, waiting := s.waiting, mirror := s.mirror } = s) ∧
    (s.accepts c Ent.ACTION_CONTROL i (.num 3) h → Act.GO < s.aState i →
      ∃ t, exec (.actionFree c i) s = .next t ∧ t.aState i = Act.FREE ∧ t.repliesWith h St.OK ∧
        s.cellsKept t [Ent.ACTION_STATE.key i, Ent.TAGS_IN_USE.key, Ent.TAGS_HIGH_WATER.key] ∧
        { t with tx := s.tx, cells := s.cells, writes := s.writes, groups := s.groups, waiting := s.waiting, mirror := s.mirror } = s) ∧
    (s.accepts c Ent.ACTION_CONTROL i (.num 3) h → s.aState i = Act.ARMED →
      ∃ t, exec (.actionFree c i) s = .next t ∧ t.repliesWith h St.CONFLICT ∧ t.aState i = Act.ARMED)

/-- For a message of a peer or a node that answers action i (group, low 32 bits of SFN and unit agree), READY while
ANNOUNCED, GO_ACK while GO, and DONE of an action other than SET_SWAP mark that participant, CANCEL_ACK marks it in the
records of its group and frame, and nothing changes but the coordinator's record and what the link die keeps for the
mirror. NOT_READY while ANNOUNCED or GO, no later than the cancel guard and before the action is locked, cancels it with
the reason as RESULT. A message that answers no action is kept for the mirror and changes nothing else. The same of a
GROUP frame that the device hears from a unit on the module bus, whose group, SFN, sender and code are read from it. -/
def Obligations.TwoPhaseAnswersAreNoted : Prop :=
  ∀ (s : State) (i : Fin 1024) (m : TwoPhase),
    (m.frame = none →
      (s.answers i m = true →
        (s.aState i = Act.ANNOUNCED →
          ∃ t, exec (.ready i m) s = .next t ∧
            (t.group i).parts = (s.group i).parts.map (fun p => if p.unit = m.unit then { p with ready := true } else p) ∧
            { t with groups := s.groups, mirror := s.mirror } = s) ∧
        (s.aState i = Act.GO →
          ∃ t, exec (.goAck i m) s = .next t ∧
            (t.group i).parts = (s.group i).parts.map (fun p => if p.unit = m.unit then { p with goAck := true } else p) ∧
            { t with groups := s.groups, mirror := s.mirror } = s) ∧
        (∀ status : Nat, s.aType i ≠ ActType.SET_SWAP →
          ∃ t, exec (.done i m status) s = .next t ∧
            (t.group i).parts = (s.group i).parts.map (fun p => if p.unit = m.unit then { p with done := some (low 16 status) } else p) ∧
            { t with groups := s.groups, mirror := s.mirror } = s) ∧
        (∀ reason : Nat, s.aState i = Act.ANNOUNCED ∨ s.aState i = Act.GO →
          s.sfn + s.nat Ent.ACTION_CANCEL_GUARD i ≤ s.aSfn i → (s.group i).locked = false →
          ∃ t, exec (.notReady i m reason) s = .next t ∧ t.aState i = Act.CANCELLED ∧ t.nat Ent.ACTION_RESULT i = low 16 reason ∧
            (t.group i).cancelSent = true ∧ s.cellsKept t [Ent.ACTION_STATE.key i, Ent.ACTION_RESULT.key i])) ∧
      (∀ k, k ∈ s.records i → (s.group k).gid = m.group → low 32 (s.group k).sfn = m.sfnLow →
        ∃ t, exec (.cancelAck i m) s = .next t ∧
          (t.group k).parts = (s.group k).parts.map (fun p => if p.unit = m.unit then { p with cancelAck := true } else p) ∧
          { t with groups := s.groups, mirror := s.mirror } = s) ∧
      (s.answers i m = false →
        exec (.ready i m) s = .next (s.noteIn (.ready i m)) ∧ exec (.goAck i m) s = .next (s.noteIn (.goAck i m)) ∧
          (∀ x : Nat, exec (.done i m x) s = .next (s.noteIn (.done i m x)) ∧
            exec (.notReady i m x) s = .next (s.noteIn (.notReady i m x))))) ∧
    (∀ (r : CanRx) (u : Nat), m.frame = some r → s.hears r u →
      let a : TwoPhase := ⟨if u < 64 then 0x1000 + u else 0x2000 + (u - 64), leAt r.data 0 2, leAt r.data 4 4, none⟩
      (s.answers i a = true → s.aState i = Act.ANNOUNCED → frameIs r 6 1 12 64 = true →
        ∃ t, exec (.ready i m) s = .next t ∧
          (t.group i).parts = (s.group i).parts.map (fun p => if p.unit = a.unit then { p with ready := true } else p) ∧
          { t with groups := s.groups, mirror := s.mirror, bus := s.bus, stream := s.stream } = s) ∧
      (s.answers i a = true → s.aState i = Act.ANNOUNCED ∨ s.aState i = Act.GO → frameIs r 6 2 12 64 = true →
        s.sfn + s.nat Ent.ACTION_CANCEL_GUARD i ≤ s.aSfn i → (s.group i).locked = false →
        ∀ x : Nat, ∃ t, exec (.notReady i m x) s = .next t ∧ t.aState i = Act.CANCELLED ∧ t.nat Ent.ACTION_RESULT i = leAt r.data 8 2) ∧
      (s.answers i a = true → s.aState i = Act.GO → frameIs r 6 4 12 64 = true →
        ∃ t, exec (.goAck i m) s = .next t ∧
          (t.group i).parts = (s.group i).parts.map (fun p => if p.unit = a.unit then { p with goAck := true } else p)) ∧
      (frameIs r 6 6 12 64 = true → ∀ k, k ∈ s.records i → (s.group k).gid = a.group → low 32 (s.group k).sfn = a.sfnLow →
        ∃ t, exec (.cancelAck i m) s = .next t ∧
          (t.group k).parts = (s.group k).parts.map (fun p => if p.unit = a.unit then { p with cancelAck := true } else p)) ∧
      (s.answers i a = true → s.aType i ≠ ActType.SET_SWAP → frameIs r 6 7 12 64 = true →
        ∀ x : Nat, ∃ t, exec (.done i m x) s = .next t ∧
          (t.group i).parts = (s.group i).parts.map (fun p => if p.unit = a.unit then { p with done := some (leAt r.data 8 2) } else p)))

/-- At S less ANNOUNCE_LEAD an armed action of several units is ANNOUNCED, its ANNOUNCE given out; a SET_SWAP with
front-end units first writes their pending caps and stays ARMED. At S less DECIDE_LEAD it goes to GO when every
participant is ready and what it needs here is prepared, else it is CANCELLED with RESULT BUSY, as is a SET_SWAP whose
pending caps are not all answered. At the cancel guard it is locked when every participant has acknowledged GO, else
CANCELLED with BUSY. 100 frames after S the coordinator's record of an executed action ends, without an event when
every DONE was OK. -/
def Obligations.TwoPhasePointsOfTheCoordinator : Prop :=
  ∀ (s : State) (i : Fin 1024),
    (s.aState i = Act.ARMED → s.aGroup i ≠ 0 → s.aSfn i ≤ s.sfn + s.nat Ent.ACTION_ANNOUNCE_LEAD i → s.sfn < s.aSfn i →
      s.bus.pendingCaps.any (fun p => p.1 == i.val) = false →
      (s.aType i ≠ ActType.SET_SWAP ∨ s.feParts i = [] →
        ∃ t, exec (.announcePoint i) s = .next t ∧ t.aState i = Act.ANNOUNCED ∧ (t.group i).announced = true ∧
          (t.group i).lastSent = s.frames ∧ s.cellsKept t [Ent.ACTION_STATE.key i] ∧
          { t with cells := s.cells, writes := s.writes, groups := s.groups, waiting := s.waiting, eus := s.eus } = s) ∧
      (s.aType i = ActType.SET_SWAP → s.feParts i ≠ [] →
        ∃ t, exec (.announcePoint i) s = .next t ∧ t.aState i = Act.ARMED ∧ t.groups = s.groups ∧
          t.bus.pendingCaps = s.bus.pendingCaps ++ [(i.val, 2 * (s.feParts i).length)])) ∧
    (s.aState i = Act.ANNOUNCED → s.aSfn i ≤ s.sfn + s.nat Ent.ACTION_DECIDE_LEAD i →
      ((s.group i).parts.all Part.ready = true → s.prepared i = true →
        ∃ t, exec (.decidePoint i) s = .next t ∧ t.aState i = Act.GO ∧ (t.group i).lastSent = s.frames ∧
          s.cellsKept t [Ent.ACTION_STATE.key i] ∧
          { t with cells := s.cells, writes := s.writes, groups := s.groups, waiting := s.waiting, eus := s.eus } = s) ∧
      ((s.group i).parts.all Part.ready = false ∨ s.prepared i = false →
        ∃ t, exec (.decidePoint i) s = .next t ∧ t.aState i = Act.CANCELLED ∧ t.nat Ent.ACTION_RESULT i = St.BUSY ∧
          (t.group i).cancelSent = true ∧ s.cellsKept t [Ent.ACTION_STATE.key i, Ent.ACTION_RESULT.key i])) ∧
    (s.aState i = Act.ARMED → s.aGroup i ≠ 0 → s.aSfn i ≤ s.sfn + s.nat Ent.ACTION_DECIDE_LEAD i →
      s.bus.pendingCaps.any (fun p => p.1 == i.val) = true →
      ∃ t, exec (.decidePoint i) s = .next t ∧ t.aState i = Act.CANCELLED ∧ t.nat Ent.ACTION_RESULT i = St.BUSY ∧
        t.bus.pendingCaps.any (fun p => p.1 == i.val) = false) ∧
    (s.aState i = Act.GO → (s.group i).locked = false → s.aSfn i ≤ s.sfn + s.nat Ent.ACTION_CANCEL_GUARD i →
      ((s.group i).parts.all Part.goAck = true →
        ∃ t, exec (.cancelGuardPoint i) s = .next t ∧ (t.group i).locked = true ∧ { t with groups := s.groups } = s) ∧
      ((s.group i).parts.all Part.goAck = false →
        ∃ t, exec (.cancelGuardPoint i) s = .next t ∧ t.aState i = Act.CANCELLED ∧ t.nat Ent.ACTION_RESULT i = St.BUSY ∧
          (t.group i).cancelSent = true)) ∧
    (s.aState i = Act.EXECUTED → s.aGroup i ≠ 0 → s.aSfn i + 100 ≤ s.sfn →
      ∃ t, exec (.doneCheckPoint i) s = .next t ∧ t.groups = Tab.erase s.groups i ∧
        ((∀ p ∈ (s.group i).parts, p.done = some St.OK) → t.ev = s.ev) ∧ { t with groups := s.groups, ev := s.ev } = s)

/-- When 100 frames have passed since the last message of an action that is ANNOUNCED (or GO and not locked, or cancelled
before S), the message goes again to each participant on the network that has not answered it, and the frame of sending
is noted; nothing changes but what is sent and the coordinator's record. Before that nothing changes. A unit of the
module bus gets the message under its channel and identifier. -/
def Obligations.TwoPhaseMessagesAreRepeated : Prop :=
  ∀ (s : State) (i : Fin 1024),
    (s.aState i = Act.ANNOUNCED → (s.group i).lastSent + 100 ≤ s.frames →
      ∃ t, exec (.announceRepeat i) s = .next t ∧ (t.group i).lastSent = s.frames ∧
        (∀ p ∈ (s.group i).parts, p.ready = false → p.unit / 4096 = 4 →
          ∃ m ∈ t.waiting, m.port = .peer ∧ m.dest = p.unit % 4096 ∧ m.kind = .announce) ∧
        (∀ p ∈ (s.group i).parts, p.ready = false → p.unit / 4096 = 1 →
          ∃ m ∈ t.waiting, m.port = .can ∧ m.dest = s.unitChannel (p.unit % 4096) ∧ m.kind = .announce) ∧
        { t with groups := s.groups, waiting := s.waiting, eus := s.eus } = s) ∧
    (s.aState i = Act.ANNOUNCED → s.frames < (s.group i).lastSent + 100 → exec (.announceRepeat i) s = .next s) ∧
    (s.aState i = Act.GO → (s.group i).locked = false → (s.group i).lastSent + 100 ≤ s.frames →
      ∃ t, exec (.goRepeat i) s = .next t ∧ (t.group i).lastSent = s.frames ∧
        (∀ p ∈ (s.group i).parts, p.goAck = false → p.unit / 4096 = 4 →
          ∃ m ∈ t.waiting, m.port = .peer ∧ m.dest = p.unit % 4096 ∧ m.kind = .go) ∧
        (∀ p ∈ (s.group i).parts, p.goAck = false → p.unit / 4096 = 1 →
          ∃ m ∈ t.waiting, m.port = .can ∧ m.dest = s.unitChannel (p.unit % 4096) ∧ m.kind = .go) ∧
        { t with groups := s.groups, waiting := s.waiting, eus := s.eus } = s) ∧
    (s.aState i = Act.GO → (s.group i).locked = false → s.frames < (s.group i).lastSent + 100 → exec (.goRepeat i) s = .next s) ∧
    ((s.group i).cancelSent = true → s.sfn < (s.group i).sfn → (s.group i).lastSent + 100 ≤ s.frames → s.records i = [i.val] →
      ∃ t, exec (.cancelRepeat i) s = .next t ∧ (t.group i).lastSent = s.frames ∧
        (∀ p ∈ (s.group i).parts, p.cancelAck = false → p.unit / 4096 = 4 →
          ∃ m ∈ t.waiting, m.port = .peer ∧ m.dest = p.unit % 4096 ∧ m.kind = .cancel) ∧
        { t with groups := s.groups, waiting := s.waiting, eus := s.eus } = s)

/-- At step 3 of the boundary SET_SWAP answers the last request of the boundary OK and changes the set pointer when every
constraint holds, and RANGE, leaving both sets, when one fails; a SET_SWAP action whose frame has come ends EXECUTED or
FAILED with it. At step 4, with one action armed, a MARK of no group whose frame has come, on a device that runs its
table and has had site time set, ACTION_EXECUTION makes it EXECUTED with RESULT OK and EXEC_SFN the present frame. With
site time never set no action executes. Out of their place both change nothing. A queued test that has waited for
TEST_QUEUE_EXPIRY is removed with its event; one whose target is idle leaves the queue when it starts. A tick line off
by more than 100 ns, or silent, is left for the other. -/
def Obligations.BoundaryActionsAndSwapEnd : Prop :=
  ∀ (s : State),
    (∀ i : Nat, s.cycle = 0 → s.tx.step = 3 → s.armed = [i] → s.aState i = Act.ARMED → s.aType i = ActType.MARK → s.aGroup i = 0 →
      s.aSfn i = s.sfn → s.acting = true → s.time.known = true →
      (∃ t, exec .actionExecution s = .next t ∧ t.aState i = Act.EXECUTED ∧ t.nat Ent.ACTION_RESULT i = St.OK ∧
        t.nat Ent.ACTION_EXEC_SFN i = s.sfn ∧ t.tx.step = 4) ∧
      (s.bill.still = true → s.outlets.sess = [] →
        ∃ t, exec .actionExecution s = .next t ∧
          s.cellsKept t [Ent.ACTION_STATE.key i, Ent.ACTION_RESULT.key i, Ent.ACTION_EXEC_SFN.key i] ∧
          { t with cells := s.cells, writes := s.writes, ev := s.ev, tx := s.tx } = s)) ∧
    (s.cycle = 0 → s.tx.step = 3 → s.time.known = false → s.bill.still = true → s.outlets.sess = [] →
      exec .actionExecution s = .next (s.atStep 4)) ∧
    (s.cycle ≠ 0 ∨ s.tx.step ≠ 3 → exec .actionExecution s = .next s) ∧
    (∀ (l : List SwapAsk) (h : Held) (k : Nat), s.cycle = 0 → s.tx.step = 2 → s.swapAsks = l ++ [⟨some h, k⟩] → h.op = Op.WRITE →
      let fails := ({ s.atStep 3 with swapAsks := [] } : State).swapFails.isSome
      ∃ t, exec .setSwap s = .next t ∧ t.repliesWith h (if fails then St.RANGE else St.OK) ∧ t.swapAsks = [] ∧ t.tx.step = 3 ∧
        (if fails then t.actSet = s.actSet ∧ t.shdSet = s.shdSet ∧ t.setPtr = s.setPtr else t.setPtr = !s.setPtr) ∧
        (∀ i ∈ s.swapActions, t.aState i = if fails then Act.FAILED else Act.EXECUTED)) ∧
    (s.cycle ≠ 0 ∨ s.tx.step = 0 ∨ 3 ≤ s.tx.step → exec .setSwap s = .next s) ∧
    (∀ (slot : Fin 32) (q : QTest), s.tests.find? (fun x => x.slot == slot.val) = some q →
      (q.since + s.nat Ent.TEST_QUEUE_EXPIRY * 20000 ≤ s.ticks →
        ∃ t, exec (.testExpired slot) s = .next t ∧ t.tests = s.tests.filter (fun x => x.slot != slot.val) ∧
          t.nat Ent.TEST_QUEUE_DEPTH = t.tests.length ∧ s.raised t Evt.TEST_EXPIRED slot.val q.target St.CANCELLED ∧
          s.cellsKept t [Ent.TEST_QUEUE_DEPTH.key] ∧ { t with tests := s.tests, cells := s.cells, ev := s.ev } = s) ∧
      (∀ f : Found, findEntry (q.target / 256) (q.target % 256) = some f → s.testBusy f = false →
        ∃ t, exec (.testQueueStart slot) s = .next t ∧ t.tests = s.tests.filter (fun x => x.slot != slot.val) ∧
          (f.e = Ent.MCH_OPEN_TEST ∨ f.e = Ent.LC_TEST → ⟨q.target, some q.slot, s.ticks⟩ ∈ t.running)) ∧
      (∀ f : Found, findEntry (q.target / 256) (q.target % 256) = some f → s.testBusy f = true →
        exec (.testQueueStart slot) s = .next s)) ∧
    (∀ dev : Option Nat, (∀ d, dev = some d → 100 < d) →
      ∃ t, exec (.tickLineChange dev) s = .next t ∧ t.die.tickB = !s.die.tickB ∧
        s.raised t Evt.TICK_LINE_CHANGE (if s.die.tickB then 0 else 1) (dev.getD 0xFFFFFFFF) 0 ∧
        { t with ev := s.ev, die := { t.die with tickB := s.die.tickB } } = s) ∧
    (∀ d : Nat, d ≤ 100 → exec (.tickLineChange (some d)) s = .next s)

/-- With the standby synchronised on two lanes, running the same image, a checked cycle mirror is acknowledged and held;
without difference it ends the count of divergence, with one it counts it, and at the third in a row a standby that
fails its self-test is held failed. A mirror that does not check, or comes from a die gone quiet, changes nothing. A
checked frame mirror at the end of cycle 19 is held whole, ends the count of misses and releases what was held for it; at
another time, or unchecked, it changes nothing. A missed cycle mirror is counted with its event and makes the standby
watch for TAKE. The second missed frame mirror in a row, and the loss of both lanes, clear MIRROR_SYNC; the loss of one
lane leaves it. -/
def Obligations.MirrorsKeepTheStandbyInStep : Prop :=
  ∀ (s : State),
    (s.die.mirrorSync = true → s.isQuiet s.activeDie = false → s.die.resync.map Resync.phase ≠ some 3 → s.die.lanes = 3 →
      s.fw.trial = none → s.fw.main.map Prep.done ≠ some true →
      (∀ selfTest : Bool, exec (.cycleMirror true true none selfTest) s =
        .next { s.holdCycle with die := { s.die with diverged := 0 }, out := s.out ++ [⟨.siphon, s.activeDie, .mirrorAck, [(s.sfn : Int), s.cycle], []⟩] }) ∧
      (∀ (w : Nat) (selfTest : Bool), s.nat Ent.DIVERGENCE_COUNT + 1 < 2 ^ 32 →
        ∃ t, exec (.cycleMirror true true (some w) selfTest) s = .next t ∧
          t.nat Ent.DIVERGENCE_COUNT = s.nat Ent.DIVERGENCE_COUNT + 1 ∧ t.mirror.cycle = some s.cycleImage ∧
          (s.die.diverged < 2 → t.die.diverged = s.die.diverged + 1 ∧ t.die.mirrorSync = true ∧ t.ev = s.ev) ∧
          (2 ≤ s.die.diverged → t.die.diverged = 0 ∧
            (if selfTest then t.die.mirrorSync = true ∧ s.raised t Evt.STANDBY_DIVERGENCE (1 - s.activeDie) (s.die.diverged + 1) w
             else t.die.mirrorSync = false ∧ t.standing (1 - s.activeDie) = .failed))) ∧
      (∀ (d : Option Nat) (x : Bool), exec (.cycleMirror true false d x) s = .next s)) ∧
    (s.die.mirrorSync = true → s.isQuiet s.activeDie = false → s.die.resync.map Resync.phase ≠ some 3 → s.die.lanes ≠ 3 →
      ∀ (d : Option Nat) (x : Bool), ∃ t, exec (.cycleMirror true false d x) s = .next t ∧ t.die.mirrorSync = false) ∧
    (∀ (g : Bool) (d : Option Nat) (x : Bool), exec (.cycleMirror false g d x) s = .next s) ∧
    (s.isQuiet s.activeDie = true → ∀ (c g : Bool) (d : Option Nat) (x : Bool), exec (.cycleMirror c g d x) s = .next s) ∧
    (s.die.mirrorSync = true → s.cycle = 19 → s.isQuiet s.activeDie = false →
      ∃ t, exec (.frameMirror true true) s = .next t ∧ t.waiting = [] ∧ t.die.frameMisses = 0 ∧ t.mirror.frame = some s.frameImage ∧
        t.mirror.applied = [] ∧ t.mirror.inbox = [] ∧
        (∀ m ∈ s.waiting, m.port ≠ .can → m.port ≠ .stream → m ∈ t.out) ∧ (∀ m ∈ s.waiting, m.port = .can → ∃ f, (f, m) ∈ t.bus.queue)) ∧
    (∀ c g : Bool, c = false ∨ g = false ∨ s.cycle ≠ 19 ∨ s.die.mirrorSync = false → exec (.frameMirror c g) s = .next s) ∧
    (s.nat Ent.MIRROR_MISS_COUNT + 1 < 2 ^ 32 →
      ∃ t, exec (.mirrorMiss false) s = .next t ∧ t.die.mirrorMissed = true ∧
        t.nat Ent.MIRROR_MISS_COUNT = s.nat Ent.MIRROR_MISS_COUNT + 1 ∧ s.raised t Evt.MIRROR_MISS (1 - s.activeDie) 0 s.cycle ∧
        s.cellsKept t [Ent.MIRROR_MISS_COUNT.key] ∧
        { t with cells := s.cells, writes := s.writes, ev := s.ev, die := s.die, mirror := s.mirror } = s) ∧
    (s.die.frameMisses = 0 → ∃ t, exec (.mirrorMiss true) s = .next t ∧ t.die.mirrorSync = s.die.mirrorSync ∧ t.die.frameMisses = 1 ∧
      t.mirror.resend = true ∧ t.mirror.frame = s.mirror.frame) ∧
    (1 ≤ s.die.frameMisses → ∃ t, exec (.mirrorMiss true) s = .next t ∧ t.die.mirrorSync = false ∧ t.die.frameMisses = s.die.frameMisses + 1) ∧
    (∃ t, exec (.siphonLaneLoss 2) s = .next t ∧ t.die.lanes = 0 ∧ t.die.mirrorSync = false ∧
      (s.die.resync = none → s.raised t Evt.SIPHON_LANE_LOSS 0 2 0 ∧
        { t with ev := s.ev, die := s.die, mirror := s.mirror } = s)) ∧
    (∀ lane : Fin 3, lane.val < 2 → setBit s.die.lanes lane false ≠ 0 →
      ∃ t, exec (.siphonLaneLoss lane) s = .next t ∧ t.die.lanes = setBit s.die.lanes lane false ∧
        s.raised t Evt.SIPHON_LANE_LOSS 0 lane t.lanesUp ∧ { t with ev := s.ev, die := { t.die with lanes := s.die.lanes } } = s)

/-- A YIELD that checks is kept with its tick and, from the active die with a synchronised standby, makes TAKE due; one
that does not check changes nothing. A TAKE of the other die is accepted after a fresh YIELD or in a cycle without a
packet: the power die then holds it as active and latches its packet, and with a synchronised standby that holds a frame
state the work of the lost frame is dropped, its messages are not released, the requests it applied wait again and those
it received are delivered again. Any other is counted and refused, and one that does not check does nothing. A condition
of Table 3-3 in the active die with a synchronised standby makes it quiet, with its code; one in the standby fails the
standby. At the cycle 0 after acceptance SWITCH_OVER records the new active die and LAST_SWITCHOVER. What stands in the
cycle before a TAKE (the work of its cycle 0) is done first. -/
def Obligations.PowerDieArbitrates : Prop :=
  ∀ (s : State),
    (∀ (die : Fin 2) (code : Nat),
      (∃ t, exec (.yield die code true) s = .next t ∧
        (if die.val = 0 then t.pw.yieldA else t.pw.yieldB) = some (low 32 code, s.ticks) ∧
        (s.die.mirrorSync = true → s.pw.active = die.val → t.die.takeDue = true) ∧ { t with pw := s.pw, die := s.die } = s) ∧
      exec (.yield die code false) s = .next s) ∧
    (let u := s.runWork
     (∀ (die : Fin 2), die.val ≠ u.pw.active → u.freshYield.isSome ∨ u.pw.latched = false →
      ∃ t, exec (.take die true) s = .next t ∧ t.pw.active = die.val ∧ t.pw.silent = 0 ∧ t.pw.latched = true ∧
        t.die.switchFrame = some t.sfn ∧ t.die.takeDue = false ∧
        t.die.switch = some ⟨u.sfn, u.cycle, if u.freshYield.isSome then 0 else 1, u.pw.active, die.val, min 1 u.pw.silent, u.freshYield.getD 0⟩ ∧
        (u.die.mirrorSync = true → ∀ f, u.mirror.frame = some f →
          t.waiting = [] ∧ t.tx.held = u.mirror.applied ++ u.tx.held ∧ t.mirror.again = u.mirror.inbox ∧ t.actSet = f.actSet)) ∧
     (∀ (die : Fin 2), die.val = u.pw.active ∨ (u.freshYield = none ∧ u.pw.latched = true) → u.nat Ent.STANDBY_PACKET_COUNT + 1 < 2 ^ 32 →
      ∃ t, exec (.take die true) s = .next t ∧ t.nat Ent.STANDBY_PACKET_COUNT = u.nat Ent.STANDBY_PACKET_COUNT + 1 ∧
        u.raised t Evt.TAKE_REFUSED die.val (low 32 u.sfn) u.cycle ∧
        { t with cells := u.cells, writes := u.writes, ev := u.ev, pw := u.pw } = u) ∧
     (∀ die : Fin 2, exec (.take die false) s = .next u)) ∧
    (∀ (die : Fin 2) (code : Fin 11), code.val ≠ 0 → s.die.unserved = none →
      (s.standing die.val = .active → s.isQuiet die.val = false → s.die.mirrorSync = true →
        ∃ t, exec (.selfDiagnosedFault die code) s = .next t ∧
          t.die.quiet = some (die.val, if code.val = 3 ∨ code.val = 4 then 0 else code.val, if code.val ≤ 4 then 1 else 0) ∧
          t.cells = s.cells) ∧
      (s.standing die.val = .active → s.isQuiet die.val = false → s.die.mirrorSync = false → 4 < code.val →
        ∃ t, exec (.selfDiagnosedFault die code) s = .next t ∧ s.raised t Evt.DIE_YIELD die.val code.val 2 ∧ { t with ev := s.ev } = s) ∧
      (s.standing die.val = .standby → s.die.quiet = none →
        ∃ t, exec (.selfDiagnosedFault die code) s = .next t ∧ t.standing die.val = .failed ∧ t.die.mirrorSync = false ∧ t.cells = s.cells)) ∧
    (∀ w : Switch, s.die.switch = some w → s.cycle = 0 → s.fw.trial = none → (∀ p, s.fw.main = some p → p.done = false) →
      ∃ t, exec .switchOver s = .next t ∧ t.nat Ent.ACTIVE_CONTROL_DIE = w.toDie ∧ t.standing w.toDie = .active ∧ t.die.switch = none ∧
        t.die.mirrorSync = false ∧ t.bytes Ent.LAST_SWITCHOVER = switchRecord w)

/-- An accepted SWAP_REQUEST answers OK and sets the swap for the next frame when MIRROR_SYNC stands, and answers CONFLICT
and plans nothing otherwise. At that boundary the other die becomes active, recorded in ACTIVE_CONTROL_DIE and held by
the power die beside the YIELD of code 0, and the old one standby; when MIRROR_SYNC has fallen the swap is abandoned with
event 0xC03C and nothing else. -/
def Obligations.PlannedSwitchOverSwapsTheDies : Prop :=
  ∀ (s : State),
    (∀ (c : Client) (h : Held), s.accepts c Ent.SWAP_REQUEST 0 (.num 1) h →
      (s.die.mirrorSync = true →
        ∃ t, exec (.swapRequest c) s = .next t ∧ t.die.swapAt = some (s.frames + 1) ∧ t.repliesWith h St.OK ∧
          { t with tx := s.tx, cells := s.cells, waiting := s.waiting, mirror := s.mirror, die := { t.die with swapAt := s.die.swapAt } } = s) ∧
      (s.die.mirrorSync = false →
        ∃ t, exec (.swapRequest c) s = .next t ∧ t.die = s.die ∧ t.repliesWith h St.CONFLICT ∧
          { t with tx := s.tx, cells := s.cells, waiting := s.waiting, mirror := s.mirror } = s)) ∧
    (∀ f : Nat, s.die.swapAt = some f → s.cycle = 0 → f ≤ s.frames →
      (s.die.mirrorSync = true → s.activeDie ≤ 1 →
        ∃ t, exec .plannedSwitchOver s = .next t ∧ t.nat Ent.ACTIVE_CONTROL_DIE = 1 - s.activeDie ∧ t.pw.active = 1 - s.activeDie ∧
          (if s.activeDie = 0 then t.pw.yieldA else t.pw.yieldB) = some (0, s.ticks) ∧
          t.standing (1 - s.activeDie) = .active ∧ t.standing s.activeDie = .standby ∧ t.die.swapAt = none ∧ t.die.mirrorSync = true) ∧
      (s.die.mirrorSync = false →
        ∃ t, exec .plannedSwitchOver s = .next t ∧ t.die.swapAt = none ∧ s.raised t Evt.SWAP_ABANDONED s.activeDie (low 32 s.sfn) 0 ∧
          { t with ev := s.ev, die := { t.die with swapAt := s.die.swapAt } } = s)) ∧
    (∀ f : Nat, s.die.swapAt = some f → s.frames < f → exec .plannedSwitchOver s = .next s)

/-- A failed die that may restart goes to starting. A started die that has booted the image it is to run, beside an active
one, begins an attempt at phase 0, counted from the failures before, not before the second after a failed one. Each
phase done begins the next; after the check phase, outside a preparation, the die is standby and MIRROR_SYNC is set, with
event 0xC035. A failed attempt is tried again after 1 s, and the third leaves the die failed; one of a preparation fails
the preparation. An accepted RESYNC_REQUEST restarts a failed die A and clears its count; with MIRROR_SYNC set it answers
ALREADY_DONE. -/
def Obligations.ResynchronisationRunsItsPhases : Prop :=
  ∀ (s : State),
    (∀ die : Fin 2, s.standing die.val = .failed → s.blocked die.val = false →
      ∃ t, exec (.dieRestart die) s = .next t ∧ t.standing die.val = .off ∧ t.booted die.val = false ∧
        t.standing (1 - die.val) = s.standing (1 - die.val) ∧
        { t with die := { t.die with ca := s.die.ca, cb := s.die.cb, bootA := s.die.bootA, bootB := s.die.bootB } } = s) ∧
    (∀ die : Fin 2, s.standing die.val = .off → s.standing (1 - die.val) = .active → s.die.resync = none → s.die.lanes ≠ 0 →
      s.blocked die.val = false → s.booted die.val = true → s.imageFits die.val = true → (∀ r, s.die.resyncRetry = some r → r.2 ≤ s.ticks) →
      s.nat Ent.DEVICE_STATE ≠ Dev.SLEEP →
      ∃ t, exec (.resyncStart die) s = .next t ∧ t.die.resync = some ⟨die.val, 0, s.ticks, s.ticks, s.die.resyncFails + 1⟩ ∧
        s.raised t Evt.RESYNC_START die.val (s.die.resyncFails + 1) s.lanesUp ∧ { t with ev := s.ev, die := s.die } = s) ∧
    (∀ r : Resync, s.die.resync = some r → r.phase < 3 →
      exec .resyncPhaseDone s = .next { s with die := { s.die with resync := some { r with phase := r.phase + 1, phaseStart := s.ticks } } }) ∧
    (∀ r : Resync, s.die.resync = some r → 3 ≤ r.phase → s.preparingMain = false →
      ∃ t, exec .resyncPhaseDone s = .next t ∧ t.standing r.die = .standby ∧ t.die.mirrorSync = true ∧ t.die.resync = none ∧
        s.raised t Evt.RESYNC_DONE r.die ((s.ticks - r.started) / 20) r.attempt ∧ { t with ev := s.ev, die := s.die, mirror := s.mirror } = s) ∧
    (∀ r : Resync, s.die.resync = some r →
      (s.preparingMain = false →
        ∃ t, exec .resyncFailed s = .next t ∧ t.die.resync = none ∧ s.raised t Evt.RESYNC_FAILED r.die r.phase r.attempt ∧
          (if r.attempt < 3 then t.die.resyncRetry = some (r.die, s.ticks + 20000) else t.standing r.die = .failed) ∧
          { t with ev := s.ev, die := s.die } = s) ∧
      (s.preparingMain = true →
        ∃ t, exec .resyncFailed s = .next t ∧ t.die.resync = none ∧ t.fw.main = s.fw.main.map (fun p => { p with failed := true }) ∧
          { t with die := s.die, fw := s.fw } = s)) ∧
    (∀ die b : Nat, s.die.resyncRetry = some (die, b) → b ≤ s.ticks → s.die.resync = none → s.standing die = .off →
      s.standing (1 - die) = .active → s.die.lanes ≠ 0 →
      ∃ t, exec .resyncRetry s = .next t ∧ t.die.resync = some ⟨die, 0, s.ticks, s.ticks, s.die.resyncFails + 1⟩ ∧ t.die.resyncRetry = none ∧
        { t with ev := s.ev, die := s.die } = s) ∧
    (∀ (c : Client) (h : Held), s.accepts c Ent.RESYNC_REQUEST 0 (.num 1) h →
      (s.die.mirrorSync = false → s.die.ca = .failed →
        ∃ t, exec (.resyncRequest c) s = .next t ∧ t.die.ca = .off ∧ t.die.stopsA = [] ∧ t.die.blockedA = false ∧ t.repliesWith h St.OK ∧
          { t with tx := s.tx, cells := s.cells, waiting := s.waiting, mirror := s.mirror, die := s.die } = s) ∧
      (s.die.mirrorSync = true →
        ∃ t, exec (.resyncRequest c) s = .next t ∧ t.die = s.die ∧ t.repliesWith h St.ALREADY_DONE))

/-- A die whose side is up and that is neither failed nor blocked notes its boot and image: beside an active die (its
metering die running, no image prepared) nothing more happens; in START the preferred die takes control and leaves START
for RECOVERY, DEGRADED or SLEEP, and another waits for it. When the preferred die has not come within 5 s the waiting die
takes control. A fault of a PW, LK or ST half marks it failed with its event, one of a PW half's serial watchdog leaves
it powered at its fail-safe states; a KY half's is noted without event. What has been restored, its side up, works
again. -/
def Obligations.StartsAndHalvesOfDies : Prop :=
  ∀ (s : State),
    (∀ (die : Fin 2) (b : BootReport), s.sideUp die.val = true → s.standing die.val = .off → s.blocked die.val = false →
      (s.standing (1 - die.val) = .active → s.meterRunning die.val = true → s.fw.main = none →
        ∃ t, exec (.dieBootComplete die b) s = .next t ∧ (if die.val = 0 then t.die.bootA else t.die.bootB) = some s.ticks ∧
          t.imageOf die.val = mainMeasure b ∧
          { t with die := { t.die with bootA := s.die.bootA, bootB := s.die.bootB, imageA := s.die.imageA, imageB := s.die.imageB } } = s) ∧
      (s.standing (1 - die.val) ≠ .active → s.devState = Dev.START → (s.plant.startCause = 5 ∨ s.preferredDie = die.val) →
        ∃ t, exec (.dieBootComplete die b) s = .next t ∧ t.standing die.val = .active ∧
          (t.devState = Dev.RECOVERY ∨ t.devState = (if s.plant.toSleep then Dev.SLEEP else Dev.DEGRADED))) ∧
      (s.standing (1 - die.val) ≠ .active → s.devState = Dev.START → s.plant.startCause ≠ 5 → s.preferredDie ≠ die.val →
        ∃ t, exec (.dieBootComplete die b) s = .next t ∧ t.plant.waitingBoot = some (die.val, b) ∧
          { t with die := { t.die with bootA := s.die.bootA, bootB := s.die.bootB, imageA := s.die.imageA, imageB := s.die.imageB },
                   plant := { t.plant with waitingBoot := s.plant.waitingBoot } } = s)) ∧
    (∀ (d : Nat) (b : BootReport) (a : Nat), s.plant.waitingBoot = some (d, b) → (if d = 0 then s.die.bootA else s.die.bootB) = some a →
      s.devState = Dev.START → s.standing d = .off → s.sideUp d = true → a + 5 * 20000 ≤ s.ticks →
      ∃ t, exec .preferredDieTimeout s = .next t ∧
        (t.devState = Dev.RECOVERY ∨ t.devState = (if s.plant.toSleep then Dev.SLEEP else Dev.DEGRADED))) ∧
    (∀ (half : Fin 8) (diag : Nat),
      let h := half.val % 2
      (∀ w : Bool, 6 ≤ half.val → s.stUp h = true →
        ∃ t, exec (.dieHalfFault half w diag) s = .next t ∧ t.stUp h = false ∧ s.raised t Evt.DIE_HALF_FAULT 7 h diag ∧
          { t with ev := s.ev, die := { t.die with st0 := s.die.st0, st1 := s.die.st1 } } = s) ∧
      (∀ w : Bool, half.val / 2 = 1 → s.lkUp h = true →
        ∃ t, exec (.dieHalfFault half w diag) s = .next t ∧ t.lkUp h = false) ∧
      (∀ w : Bool, half.val / 2 = 2 →
        exec (.dieHalfFault half w diag) s = .next { s with keys := { s.keys with lost := setBit s.keys.lost h true } }) ∧
      (half.val < 2 → s.pwOk h = true →
        (∃ t, exec (.dieHalfFault half false diag) s = .next t ∧ t.pwOk h = false ∧ t.pwOk (1 - h) = s.pwOk (1 - h)) ∧
        ((s.half h).watchdog = false →
          ∃ t, exec (.dieHalfFault half true diag) s = .next t ∧ t.pwOk h = true ∧ (t.half h).watchdog = true)) ∧
      (s.sideUp h = true →
        (6 ≤ half.val →
          ∃ t, exec (.dieHalfRestored half) s = .next t ∧ t.stUp h = true ∧
            { t with die := { t.die with st0 := s.die.st0, st1 := s.die.st1 } } = s) ∧
        (half.val / 2 = 1 → ∃ t, exec (.dieHalfRestored half) s = .next t ∧ t.lkUp h = true) ∧
        (half.val / 2 = 2 → exec (.dieHalfRestored half) s = .next { s with keys := { s.keys with lost := setBit s.keys.lost h false } }) ∧
        (half.val < 2 →
          ((s.half h).watchdog = true → ∃ t, exec (.dieHalfRestored half) s = .next t ∧ (t.half h).watchdog = false ∧ t.die = s.die) ∧
          ((s.half h).watchdog = false → ∃ t, exec (.dieHalfRestored half) s = .next t ∧ t.pwOk h = true))))

/-- When the means of the two dies have stood apart for 20 cycles a spare check begins on the channel, with event 0xC039
that names no die; a shorter run begins none. When the check, of 8 cycles, is done it leaves the list, and the channel is
flagged on the die that has a spare in the channel's bank and disagrees with it. The check is repeated every 1,000 frames,
and a flag clears at the first one in which the spare agrees. A running metering die that fails is held failed and the
other keeps its standing. -/
def Obligations.MeteringDiesAreCompared : Prop :=
  ∀ (s : State),
    (∀ (ch : Fin 96), 20 ≤ Tab.get 0 s.die.apart ch.val →
      ∃ t, exec (.meterDisagree ch) s = .next t ∧ (∃ diff, (ch.val, diff) ∈ t.die.spareChecks ∧
        (s.mayRaise → t.newest Evt.METER_DISAGREE ch.val (low 32 diff) 0xFFFFFFFF)) ∧
        t.die.apart = Tab.erase s.die.apart ch.val ∧ t.die.checkFrom = Tab.set s.die.checkFrom ch.val s.ticks ∧ t.actSet = s.actSet ∧ t.meters = s.meters) ∧
    (∀ (ch : Fin 96), Tab.get 0 s.die.apart ch.val < 20 → exec (.meterDisagree ch) s = .next s) ∧
    (∀ (ch : Fin 96) (m0Bad m1Bad : Bool) (diff : Nat), s.die.spareChecks.find? (fun x => x.1 == ch.val) = some (ch.val, diff) →
      Tab.get 0 s.die.checkFrom ch.val + 8 ≤ s.ticks →
      ∃ t, exec (.spareCheckDone ch m0Bad m1Bad) s = .next t ∧ (∀ x ∈ t.die.spareChecks, x.1 ≠ ch.val) ∧
        (m0Bad = true → s.spareFor 0 ch.val = true → ch.val ∈ t.die.flagged0) ∧
        (m1Bad = true → s.spareFor 1 ch.val = true → ch.val ∈ t.die.flagged1) ∧
        (m0Bad = false ∨ s.spareFor 0 ch.val = false → t.die.flagged0 = s.die.flagged0) ∧
        (m1Bad = false ∨ s.spareFor 1 ch.val = false → t.die.flagged1 = s.die.flagged1) ∧ t.actSet = s.actSet) ∧
    (∀ (ch : Fin 96) (m1 : Bool),
      ch.val ∈ (if m1 then s.die.flagged1 else s.die.flagged0) → s.spareFor (b2n m1) ch.val = true →
      Tab.get 0 s.die.checkedAt (2 * ch.val + b2n m1) + 20000 ≤ s.ticks →
      (∃ t, exec (.spareCheckRepeat ch m1 true) s = .next t ∧
        (if m1 then t.die.flagged1 = s.die.flagged1.filter (· != ch.val) ∧ t.die.flagged0 = s.die.flagged0
         else t.die.flagged0 = s.die.flagged0.filter (· != ch.val) ∧ t.die.flagged1 = s.die.flagged1)) ∧
      (∃ t, exec (.spareCheckRepeat ch m1 false) s = .next t ∧ t.die.flagged0 = s.die.flagged0 ∧ t.die.flagged1 = s.die.flagged1 ∧
        Tab.get 0 t.die.checkedAt (2 * ch.val + b2n m1) = s.ticks)) ∧
    (∀ (m1 : Bool) (diag : Nat), s.meterRunning (b2n m1) = true → s.meterFailed (b2n m1) = false →
      ∃ t, exec (.meterDieFault m1 diag) s = .next t ∧ t.meterFailed (b2n m1) = true ∧ t.meterFailed (1 - b2n m1) = s.meterFailed (1 - b2n m1))

/-- With an open connection, a good header and a free tag, READ of an entry the connection may read answers OK with its
value after the last completed cycle, and of one it may not with the status of the check; DESCRIBE of an entry answers OK with its description, EVENT_READ of up to 36 records answers OK with
those from the sequence asked for, and EVENT_SUBSCRIBE answers OK and stores the lowest severity. The tag is free
again, and both configuration sets and the log stay as they were. -/
def Obligations.QueriesAreAnsweredAtOnce : Prop :=
  ∀ (s : State) (c : Client) (k : Conn) (tag : Nat), s.acceptsQuery c k tag →
    (∀ (index sub : Nat), let s1 := s.takeTag tag (some c.conn)
      s1.barred k.service index = false → (s1.asRead.readEntry c.shadow index sub).1 = St.OK →
      (s1.asRead.readEntry c.shadow index sub).2.2.length ≤ 1024 →
      ∃ t, exec (.read c index sub) s = .next t ∧
        t.out = s.out ++ [answerMsg c.conn Op.READ c.reqId St.OK tag false
          (readBody (s1.asRead.readEntry c.shadow index sub).2.1 (s1.asRead.readEntry c.shadow index sub).2.2 (s1.asRead.readEntry c.shadow index sub).2.2.length)] ∧
        (∀ x ∈ t.tx.tags, x.1 ≠ tag) ∧ { t with out := s.out, tx := s.tx, cells := s.cells } = s) ∧
    (∀ (index sub : Nat), let s1 := s.takeTag tag (some c.conn)
      s1.barred k.service index = false → (s1.asRead.readEntry c.shadow index sub).1 ≠ St.OK →
      ∃ t, exec (.read c index sub) s = .next t ∧
        t.out = s.out ++ [answerMsg c.conn Op.READ c.reqId (s1.asRead.readEntry c.shadow index sub).1 tag false []] ∧
        { t with out := s.out, tx := s.tx, cells := s.cells } = s) ∧
    (∀ (index sub : Nat), (s.takeTag tag (some c.conn)).barred k.service index = false →
      ∃ t, exec (.describe c index sub) s = .next t ∧
        t.out = s.out ++ [answerMsg c.conn Op.DESCRIBE c.reqId (describeEntry index sub).1 tag false (describeEntry index sub).2] ∧
        (∀ x ∈ t.tx.tags, x.1 ≠ tag) ∧ { t with out := s.out, tx := s.tx, cells := s.cells } = s) ∧
    (∀ (first count : Nat), count ≤ 36 →
      ∃ t, exec (.eventRead c first count) s = .next t ∧
        t.out = s.out ++ [answerMsg c.conn Op.EVENT_READ c.reqId St.OK tag false (recordBody (s.ev.from_ first count))] ∧
        { t with out := s.out, tx := s.tx, cells := s.cells } = s) ∧
    (∀ severity : Nat, severity ≤ 3 →
      ∃ t k1, exec (.eventSubscribe c severity) s = .next t ∧ Tab.find t.tx.conns c.conn = some k1 ∧ k1.subscription = some severity ∧
        t.out = s.out ++ [answerMsg c.conn Op.EVENT_SUBSCRIBE c.reqId St.OK tag false []] ∧
        { t with out := s.out, tx := s.tx, cells := s.cells } = s)

/-- An accepted connection's WRITE whose item passes every receipt check is held, its tag stays taken, and no value, set or
message changes. One whose item fails is answered at once with the status of the check, and nothing is held. A group of
1 to 32 items that all pass is held whole; an empty group, or one of more than 32 items, answers RANGE. A command written outside step 2 of a
boundary, its checks passed, is held in the same way. -/
def Obligations.WritesWaitForTheirBoundary : Prop :=
  ∀ (s : State) (c : Client) (k : Conn) (tag : Nat),
    Tab.find s.tx.conns c.conn = some k → headerStatus c = St.OK → s.keptFor k.identity c.reqId = none → s.tx.freeTag c.conn = some tag →
    let s1 := s.takeTag tag (some c.conn)
    let h (op : Nat) (ws : List WItem) : Held := ⟨s.sfn, c.offset, tag, c.conn, k.role, k.service, k.identity, c.reqId, op, c.shadow, c.queue, ws⟩
    (∀ w : WItem, w.bytes.length ≤ 1024 → s1.itemReceipt (h Op.WRITE [w]) w = St.OK →
      ∃ t, exec (.write c w) s = .next t ∧ t.tx.held = s.tx.held ++ [h Op.WRITE [w]] ∧ t.tx.tags = (tag, some c.conn) :: s.tx.tags ∧
        s.cellsKept t [Ent.TAGS_IN_USE.key, Ent.TAGS_HIGH_WATER.key] ∧ { t with tx := s.tx, cells := s.cells } = s) ∧
    (∀ w : WItem, s1.itemReceipt (h Op.WRITE [w]) w ≠ St.OK →
      ∃ t, exec (.write c w) s = .next t ∧ t.tx.held = s.tx.held ∧
        t.out = s.out ++ [answerMsg c.conn Op.WRITE c.reqId (s1.itemReceipt (h Op.WRITE [w]) w) tag false []] ∧
        { t with tx := s.tx, cells := s.cells, out := s.out } = s) ∧
    (∀ ws : List WItem, ws ≠ [] → ws.length ≤ 32 → (∀ w ∈ ws, s1.itemReceipt (h Op.WRITE_GROUP ws) w = St.OK) →
      ∃ t, exec (.writeGroup c ws) s = .next t ∧ t.tx.held = s.tx.held ++ [h Op.WRITE_GROUP ws] ∧
        { t with tx := s.tx, cells := s.cells } = s) ∧
    (∀ ws : List WItem, (ws = [] ∨ 32 < ws.length) →
      ∃ t, exec (.writeGroup c ws) s = .next t ∧ t.tx.held = s.tx.held ∧
        t.out = s.out ++ [answerMsg c.conn Op.WRITE_GROUP c.reqId St.RANGE tag false [0xFF#8]]) ∧
    (∀ (e : Entry) (n : Nat) (v : Val), s.applying = false → s1.clientReceipt e n (e.item n v) (h Op.WRITE [e.item n v]) = St.OK →
      let held : State := { s1 with tx := { s1.tx with held := s.tx.held ++ [h Op.WRITE [e.item n v]] } }
      (∀ sfn ns : Nat, e = Ent.TIME_SET → n = 0 → v = .bytes (time64 sfn ns) → exec (.timeSet c sfn ns) s = .next held) ∧
      (e = Ent.ACTION_CONTROL → v = .num 1 → exec (.actionArm c n) s = .next held) ∧
      (e = Ent.SWAP_REQUEST → n = 0 → v = .num 1 → exec (.swapRequest c) s = .next held) ∧
      (e = Ent.SHADOW_COPY → n = 0 → v = .num 1 → exec (.shadowCopy c) s = .next held) ∧
      (e = Ent.SET_SWAP_NOW → n = 0 → v = .num 1 → exec (.setSwapNow c) s = .next held) ∧
      (∀ o x : Nat, e = Ent.STOP_REQUEST → n = o → v = .num x → exec (.stopRequest c o x) s = .next held))

/-- With no transfer of its request ID under way, READ_SEGMENT at offset 0 of an entry that may be read answers OK with up
to 1,024 bytes from the snapshot; a first WRITE_SEGMENT that is not the last keeps its bytes under a tag and answers
OK. A transfer silent for SEGMENT_TIMEOUT is answered CANCELLED and gone. Neither configuration set changes. -/
def Obligations.SegmentsMoveLongValues : Prop :=
  ∀ (s : State),
    (∀ (c : Client) (k : Conn) (tag index sub : Nat), s.acceptsQuery c k tag → s.segment c false = none →
      let s1 := s.takeTag tag (some c.conn)
      s1.barred k.service index = false → (s1.asRead.readEntry c.shadow index sub).1 = St.OK →
      let v := (s1.asRead.readEntry c.shadow index sub).2.2
      ∃ t, exec (.readSegment c index sub 0) s = .next t ∧
        t.out = s.out ++ [answerMsg c.conn Op.READ_SEGMENT c.reqId St.OK tag false
          (readBody (s1.asRead.readEntry c.shadow index sub).2.1 (v.take 1024) (v.take 1024).length ++ leBytes 4 0 ++ leBytes 4 v.length)
          (decide ((v.take 1024).length < v.length))] ∧
        { t with out := s.out, tx := s.tx, cells := s.cells } = s) ∧
    (∀ (c : Client) (k : Conn) (tag total : Nat) (w : WItem), s.acceptsQuery c k tag → s.segment c true = none →
      w.bytes.length ≤ 1024 → w.bytes.length ≤ total →
      ∃ t x, exec (.writeSegment c w 0 total true) s = .next t ∧ x ∈ t.tx.segments ∧ x.tag = tag ∧ x.data = w.bytes ∧ x.total = total ∧
        t.out = s.out ++ [answerMsg c.conn Op.WRITE_SEGMENT c.reqId St.OK tag false []] ∧
        { t with out := s.out, tx := s.tx, cells := s.cells } = s) ∧
    (∀ (tag : Fin 256) (x : Segment), s.tx.segments.find? (fun y => y.tag == tag.val) = some x →
      x.last + s.nat Ent.SEGMENT_TIMEOUT * 20 ≤ s.ticks →
      ∃ t, exec (.segmentTimeout tag) s = .next t ∧ (∀ y ∈ t.tx.segments, y.tag ≠ x.tag) ∧ (∀ y ∈ t.tx.tags, y.1 ≠ x.tag) ∧
        t.out = s.out ++ [answerMsg x.conn (if x.write then Op.WRITE_SEGMENT else Op.READ_SEGMENT) x.reqId St.CANCELLED x.tag false []] ∧
        { t with out := s.out, tx := s.tx, cells := s.cells } = s)

/-- On a served interface, on the dictionary port, a chain that is accepted opens a connection with its anchor's role while fewer than 16 (on the
service port 1) stand, and one that is refused raises event 0xB00F and opens none. On another port nothing is opened. Closing takes the connection away
and nothing else. A notification takes up to 36 of the records waiting; more than 256 waiting ends the subscription
with status CANCELLED. An enabled peer's connection shows in PEER_STATE. -/
def Obligations.ConnectionsAndSubscriptions : Prop :=
  ∀ (s : State),
    (∀ (conn : Nat) (o : ConnOpen) (r : Role), s.mayServe o.service = true → o.port = s.nat Ent.DICT_PORT → s.chainRefusal o = none →
      Tab.find s.tx.conns conn = none →
      o.anchor.bind s.chainRole = some r →
      (s.tx.conns.filter (fun k => k.2.service == o.service)).length < (if o.service then 1 else 16) →
      ∃ t, exec (.connectionOpen conn o) s = .next t ∧ Tab.find t.tx.conns conn = some ⟨o.service, r, o.identity, o.digest, none, []⟩ ∧
        (∀ j, j ≠ conn → Tab.find t.tx.conns j = Tab.find s.tx.conns j) ∧ { t with tx := { t.tx with conns := s.tx.conns } } = s) ∧
    (∀ (conn cause : Nat) (o : ConnOpen), s.mayServe o.service = true → o.port = s.nat Ent.DICT_PORT →
      s.chainRefusal o = some cause →
      ∃ t, exec (.connectionOpen conn o) s = .next t ∧ t.tx = s.tx ∧ s.raised t Evt.CLIENT_REFUSED (b2n o.service) cause (low 32 o.digest) ∧
        { t with ev := s.ev } = s) ∧
    (∀ (conn : Nat) (o : ConnOpen), s.mayServe o.service = false ∨ o.port ≠ s.nat Ent.DICT_PORT → exec (.connectionOpen conn o) s = .next s) ∧
    (∀ conn : Nat, ∃ t, exec (.connectionClose conn) s = .next t ∧ Tab.find t.tx.conns conn = none ∧
      (∀ j, j ≠ conn → Tab.find t.tx.conns j = Tab.find s.tx.conns j) ∧ { t with tx := { t.tx with conns := s.tx.conns } } = s) ∧
    (∀ (conn delivered : Nat) (k : Conn), Tab.find s.tx.conns conn = some k → k.subscription.isSome →
      ∃ t, exec (.eventNotify conn delivered) s = .next t ∧
        (if 256 < k.behind.length
         then Tab.find t.tx.conns conn = some { k with subscription := none, behind := [] } ∧
           t.out = s.out ++ [⟨.client, conn, .eventNotify, [(St.CANCELLED : Int)], []⟩]
         else Tab.find t.tx.conns conn = some { k with behind := k.behind.drop (min 36 delivered) } ∧
           t.out = s.out ++ [⟨.client, conn, .eventNotify, [(St.OK : Int)], recordBody (k.behind.take (min 36 delivered))⟩]) ∧
        { t with tx := { t.tx with conns := s.tx.conns }, out := s.out } = s) ∧
    (∀ (e : Fin 32) (accepted : Bool), s.flag Ent.PEER_ENABLED e = true →
      ∃ t, exec (.peerConnect e accepted) s = .next t ∧ t.nat Ent.PEER_STATE e = (if accepted then 2 else 3) ∧
        s.cellsKept t [Ent.PEER_STATE.key e] ∧ { t with cells := s.cells } = s) ∧
    (∀ (e : Fin 32) (accepted : Bool), s.flag Ent.PEER_ENABLED e = false →
      ∃ t, exec (.peerConnect e accepted) s = .next t ∧ t.nat Ent.PEER_STATE e = 0 ∧
        s.cellsKept t [Ent.PEER_STATE.key e] ∧ { t with cells := s.cells } = s)

/-- An accepted SHADOW_COPY answers OK and leaves the shadow set equal to the active one. An accepted SHADOW_DEFAULTS
answers OK, and in the shadow set only values of LEG entries remain listed, so that every RWS entry reads its default.
The active set changes in neither. An accepted SET_SWAP_NOW places the request among those of this boundary and answers
nothing yet. -/
def Obligations.ShadowSetCommands : Prop :=
  ∀ (s : State) (c : Client) (h : Held),
    (s.accepts c Ent.SHADOW_COPY 0 (.num 1) h →
      ∃ t, exec (.shadowCopy c) s = .next t ∧ t.shdSet = s.actSet ∧ t.actSet = s.actSet ∧ t.repliesWith h St.OK ∧
        { t with tx := s.tx, cells := s.cells, waiting := s.waiting, mirror := s.mirror, writes := s.writes, shdSet := s.shdSet, digestStale := s.digestStale } = s) ∧
    (s.accepts c Ent.SHADOW_DEFAULTS 0 (.num 1) h →
      ∃ t, exec (.shadowDefaults c) s = .next t ∧ t.shdSet = s.shdSet.filter (fun x => isLegKey x.1) ∧ t.actSet = s.actSet ∧
        t.repliesWith h St.OK ∧
        { t with tx := s.tx, cells := s.cells, waiting := s.waiting, mirror := s.mirror, writes := s.writes, shdSet := s.shdSet, digestStale := s.digestStale } = s) ∧
    (s.accepts c Ent.SET_SWAP_NOW 0 (.num 1) h →
      ∃ t, exec (.setSwapNow c) s = .next t ∧ t.swapAsks = s.swapAsks ++ [⟨some h, 0⟩] ∧
        { t with tx := s.tx, cells := s.cells, mirror := s.mirror, swapAsks := s.swapAsks } = s)

/-- With a control die serving, a run in cycle 1 shows its compute time, the recheck of cycle 12 leaves no reported fault
open and the run's grant of each module reported faulty 0, publication in cycle 13 takes the run away, and from cycle 14
to 18, once a frame, the set-points due on each channel that carries frames go out. At step 5 of the boundary a module
whose only planned grant has come due holds it as MODULE_GRANT (grants are kept for units 0 to 103). Out of its place
each of them changes nothing. -/
def Obligations.AllocatorRunsChecksAndPublishes : Prop :=
  ∀ (s : State),
    (∀ us : Nat, s.controlUp = true → s.cycle = 1 → us < 2 ^ Ent.ALLOC_COMPUTE_LAST.type.bits →
      ∃ t, exec (.allocatorRun us) s = .next t ∧ t.alloc.run.isSome ∧ t.nat Ent.ALLOC_COMPUTE_LAST = us ∧
        (s.nat Ent.ALLOC_COMPUTE_MAX < us → t.nat Ent.ALLOC_COMPUTE_MAX = us)) ∧
    (∀ us : Nat, s.controlUp = false ∨ s.cycle ≠ 1 → exec (.allocatorRun us) s = .next s) ∧
    (∀ r : Run, s.alloc.run = some r → s.controlUp = true → s.cycle = 12 →
      ∃ t r1, exec .limitRecheck s = .next t ∧ t.alloc.run = some r1 ∧ t.alloc.faulted = [] ∧
        (∀ u ∈ s.alloc.faulted, u < 64 → Tab.get 0 r1.modules u = 0)) ∧
    (s.controlUp = false ∨ s.cycle ≠ 12 ∨ s.alloc.run = none → exec .limitRecheck s = .next s) ∧
    (s.controlUp = true → s.cycle = 13 → ∃ t, exec .grantPublish s = .next t ∧ t.alloc.run = none) ∧
    (s.controlUp = false ∨ s.cycle ≠ 13 → exec .grantPublish s = .next s) ∧
    (∀ ch : Nat, s.controlUp = true → 14 ≤ s.cycle → s.cycle ≤ 18 → s.alloc.sentAt ≠ some s.frames →
      ch < 4 → s.canUp ch = true → s.dueSetpoints ch ≠ [] →
      ∃ t m, exec .setpointTransmit s = .next t ∧ t.alloc.sentAt = some s.frames ∧ m ∈ t.out ∧ m.port = .can ∧ m.dest = ch ∧ m.kind = .setpoint) ∧
    (s.controlUp = false ∨ s.cycle < 14 ∨ 18 < s.cycle ∨ s.alloc.sentAt = some s.frames → exec .setpointTransmit s = .next s) ∧
    (∀ (u f : Nat) (v : Int) (g : UnitGrant), s.cycle = 0 → s.tx.step = 4 →
      u < 64 → Tab.find s.alloc.units u = some g → g.plan = [(f, v)] → f ≤ s.frames → (∀ x ∈ s.alloc.units, x.1 < 104) →
      ∃ t, exec .grantLaunch s = .next t ∧ t.int Ent.MODULE_GRANT u = v ∧ t.tx.step = 5) ∧
    (s.cycle ≠ 0 ∨ s.tx.step ≠ 4 → exec .grantLaunch s = .next s)

/-- From cycle 12 on a frame with an unacknowledged message is counted, and at ACK_MISS_LIMIT the module is UNRESPONSIVE. An accepted
MODULE_ENABLE takes its value and answers OK; 0 written to an UNRESPONSIVE module makes it DISABLED. A failed move
leaves the module UNAVAILABLE. Import over the limit for 3 frames is noted and the count ends. A front-end unit over
its cap for 3 frames is put out, with its event, and returns when FE_ENABLE is written 1 after 0. -/
def Obligations.ModulesAndFrontEndsLeaveService : Prop :=
  ∀ (s : State),
    (∀ m : Fin 64, s.unacked m ≠ [] → 12 ≤ s.cycle →
      ∃ t, exec (.moduleAckMissing m) s = .next t ∧ (t.grants m).missFrames = (s.grants m).missFrames + 1 ∧
        (s.nat Ent.ACK_MISS_LIMIT ≤ (s.grants m).missFrames + 1 → s.nat Ent.MODULE_STATE m ≠ Mod.UNRESPONSIVE →
          t.nat Ent.MODULE_STATE m = Mod.UNRESPONSIVE)) ∧
    (∀ (c : Client) (m v : Nat) (h : Held), s.accepts c Ent.MODULE_ENABLE m (.num v) h → v ≤ 1 →
      ∃ t, exec (.moduleEnable c m v) s = .next t ∧ t.nat Ent.MODULE_ENABLE m = v ∧ t.repliesWith h St.OK ∧
        (v = 0 → s.nat Ent.MODULE_STATE m = Mod.UNRESPONSIVE → t.nat Ent.MODULE_STATE m = Mod.DISABLED)) ∧
    (∀ m : Fin 64, s.switchFailed m = true →
      ∃ t, exec (.moduleMoveFailed m) s = .next t ∧ (t.unitSt m).moveFailed = true ∧
        (∀ k, (s.grants m).move = some k → k.kind ≠ .assign →
          t.nat Ent.MODULE_STATE m = Mod.UNAVAILABLE ∧ t.nat Ent.ASSIGNED_OUTLET m = 0xFF ∧ (t.grants m).move = none)) ∧
    (3 ≤ s.alloc.importOver →
      ∃ t, exec .importOverLimit s = .next t ∧ t.alloc.importOver = 0 ∧
        t.alloc.importScale = some (s.nat Ent.GRID_IMPORT_LIMIT, (ratFloor s.gridImport).toNat) ∧
        { t with ev := s.ev, alloc := s.alloc } = s) ∧
    (∀ f : Fin 16, 3 ≤ Tab.get 0 s.alloc.feOver f → f.val ∉ s.alloc.feOut →
      ∃ t, exec (.feOverCap f) s = .next t ∧ f.val ∈ t.alloc.feOut ∧
        s.raised t Evt.FE_OVER_CAP f (word 32 (s.unitSt (64 + f)).power) (s.nat Ent.FE_CAP_CONFIRMED f) ∧
        s.cellsKept t [Ent.FE_STATE.key f] ∧ { t with ev := s.ev, alloc := s.alloc, cells := s.cells } = s) ∧
    (∀ (c : Client) (f v : Nat) (h : Held), s.accepts c Ent.FE_ENABLE f (.num v) h → v ≤ 1 →
      ∃ t, exec (.feEnable c f v) s = .next t ∧ t.nat Ent.FE_ENABLE f = v ∧ t.repliesWith h St.OK ∧
        (v = 0 → f ∈ s.alloc.feOut → f ∈ t.alloc.feRearm) ∧ (v = 1 → f ∈ s.alloc.feRearm → f ∉ t.alloc.feOut))

/-- An acknowledgement of a module's command marks it and ends the count of misses; one of a set-point is shown with its
frame; a status is recorded with its frame and ends a missing unit; a first fault report joins the active list, and a
report of severity 3 leaves it; the answer to a REACH read is noted; a unit's request is answered on its channel, a read
with the value of the last completed cycle and a write with DENIED_ACCESS. On a channel that is off nothing arrives. -/
def Obligations.UnitMessagesAreTakenIn : Prop :=
  ∀ (s : State) (r : CanRx),
    (∀ u : Nat, s.hears r u →
      (frameIs r 3 0 4 4 = true → u < 64 →
        (leAt r.data 2 1 = 1 → (∃ c ∈ (s.grants u).cmds, c.seq = low 8 (leAt r.data 0 2)) →
          ∃ t, exec (.ack r) s = .next t ∧ (∀ c ∈ (t.grants u).cmds, c.seq = low 8 (leAt r.data 0 2) → c.acked = true) ∧
            (t.grants u).missFrames = 0 ∧ t.nat Ent.ACK_MISS u = 0) ∧
        (∀ x : Sent, leAt r.data 2 1 ≠ 1 →
          (s.grants u).sent.find? (fun y => low 16 (s.sfn + y.launch - s.frames) == low 16 (leAt r.data 0 2)) = some x →
          ∃ t, exec (.ack r) s = .next t ∧ t.nat Ent.ACK_SFN u = s.sfn + x.launch - s.frames ∧ t.nat Ent.ACK_MISS u = 0 ∧
            (t.grants u).missFrames = 0)) ∧
      (frameIs r 5 0 12 12 = true →
        let st := if u < 64 then moduleStatus r.data else feStatus r.data
        ∃ t, exec (.status r) s = .next t ∧ t.unitSt u = (s.unitSt u).report st s.frames ∧
          t.unitNat Ent.MODULE_LAST_STATUS_SFN Ent.FE_LAST_STATUS_SFN u = s.sfn ∧
          ((s.unitSt u).heard = true → (s.unitSt u).missing = false → 64 ≤ u ∨ s.nat Ent.MODULE_STATE u ≠ Mod.UNRESPONSIVE → t.ev = s.ev)) ∧
      (frameIs r 1 0 8 8 = true → (∀ p ∈ (s.unitSt u).faults, p.1 ≠ leAt r.data 0 2) →
        ∃ t, exec (.fault r) s = .next t ∧
          (t.unitSt u).faults = (if leAt r.data 2 1 = 3 then (s.unitSt u).faults else (leAt r.data 0 2, leAt r.data 2 1) :: (s.unitSt u).faults) ∧
          (leAt r.data 2 1 = 2 → u ∈ t.alloc.faulted)) ∧
      (∀ x : Xfer, frameIs r 7 1 64 64 = true → xferOp r.data = 0x81 →
        let b := xferOf r.data
        s.bus.xfers.find? (fun y => y.tag == b.tag && y.unit == u && y.index == b.index && y.sub == b.sub &&
          xferOp r.data == (if y.write then 0x82 else 0x81)) = some x →
        b.status = St.OK → b.offset = x.got.length → b.total ≤ (x.got ++ b.value).length → x.index = 1 → x.sub = 5 →
        ∃ t, exec (.xferResponse r) s = .next t ∧ (t.unitSt u).reach = some (leNat (x.got ++ b.value))) ∧
      (frameIs r 7 2 64 64 = true →
        let b := xferOf r.data
        (xferOp r.data = 2 →
          ∃ t m, exec (.xferRequest r) s = .next t ∧ t.onBus m ∧ m.kind = .xferResponse ∧ m.dest = s.unitChannel u ∧
            m.body = xferBody { b with status := St.DENIED_ACCESS, total := 0, value := [] } 0x82 ∧ t.cells = s.cells) ∧
        (xferOp r.data = 1 →
          ∃ t m, exec (.xferRequest r) s = .next t ∧ t.onBus m ∧ m.kind = .xferResponse ∧ m.dest = s.unitChannel u ∧ t.cells = s.cells))) ∧
    (s.mirror.replay = false → s.canUp r.ch.val = false →
      exec (.ack r) s = .next s ∧ exec (.status r) s = .next s ∧ exec (.fault r) s = .next s ∧ exec (.xferResponse r) s = .next s ∧
        exec (.xferRequest r) s = .next s)

/-- A report other than SENT counts TX_DROPPED; a COMMAND, GROUP or XFER so reported goes again in the next frame, a
set-point block in cycle 19; SENT of a frame mark dates it. Error-passive shows in
CHANNEL_STATE with both counters. A bus-off is counted and leaves the channel BUS_OFF, the third within 1 s HELD for
BUSOFF_HOLD. Recovery, and the end of the hold, return it to ERROR_ACTIVE. A request unanswered for 10 frames goes
again, up to 3 times in all, and then ends. -/
def Obligations.BusChannelsAndTheirErrors : Prop :=
  ∀ (s : State),
    (∀ (ch : Fin 4) (cls sub : Fin 8) (node : Fin 32) (outcome : Fin 4) (start : Int) (data : List Byte), outcome.val ≠ 0 →
      cls.val ≠ 2 → s.unitAt ch node = none → s.nat Ent.TX_DROPPED ch + 1 < 2 ^ Ent.TX_DROPPED.type.bits →
      ∃ t, exec (.txReport ch cls sub node outcome start data) s = .next t ∧ t.nat Ent.TX_DROPPED ch = s.nat Ent.TX_DROPPED ch + 1 ∧
        s.cellsKept t [Ent.TX_DROPPED.key ch] ∧ { t with cells := s.cells } = s) ∧
    (∀ (ch : Fin 4) (cls sub : Fin 8) (node : Fin 32) (outcome : Fin 4) (start : Int) (data : List Byte) (u : Nat) (k : MsgKind),
      outcome.val ≠ 0 → cls.val ≠ 2 → s.unitAt ch node = some u → s.sentKind u cls sub data = some k →
      s.nat Ent.TX_DROPPED ch + 1 < 2 ^ Ent.TX_DROPPED.type.bits →
      ∃ t, exec (.txReport ch cls sub node outcome start data) s = .next t ∧ t.nat Ent.TX_DROPPED ch = s.nat Ent.TX_DROPPED ch + 1 ∧
        (s.frames + 1, ⟨.can, ch.val, k, [(canId cls.val sub.val node.val : Int), u], data⟩) ∈ t.bus.queue ∧
        { t with cells := s.cells, bus := s.bus } = s) ∧
    (∀ (ch : Fin 4) (sub : Fin 8) (node : Fin 32) (outcome : Fin 4) (start : Int) (data : List Byte) (m : Msg),
      outcome.val ≠ 0 → s.alloc.sentAt = some s.frames → Tab.find (s.can ch).blocks sub = some m → s.cycle ≠ 19 →
      s.nat Ent.TX_DROPPED ch + 1 < 2 ^ Ent.TX_DROPPED.type.bits →
      ∃ t, exec (.txReport ch 2 sub node outcome start data) s = .next t ∧ t.nat Ent.TX_DROPPED ch = s.nat Ent.TX_DROPPED ch + 1 ∧
        (t.can ch).again = (s.can ch).again ++ [m] ∧ { t with cells := s.cells, bus := s.bus } = s) ∧
    (∀ (ch : Fin 4) (sub : Fin 8) (node : Fin 32) (start : Int) (data : List Byte),
      ∃ t, exec (.txReport ch 0 sub node 0 start data) s = .next t ∧ (t.can ch).mark = some (s.frames, start) ∧
        { t with bus := s.bus, stream := s.stream } = s) ∧
    (∀ (ch : Fin 4) (tx rx : Nat),
      ∃ t, exec (.canErrorPassive ch tx rx) s = .next t ∧ t.nat Ent.CHANNEL_STATE ch = Can.ERROR_PASSIVE ∧
        t.nat Ent.TX_ERROR_COUNT ch = low 8 tx ∧ t.nat Ent.RX_ERROR_COUNT ch = low 8 rx ∧
        s.raised t Evt.CAN_ERROR_PASSIVE ch (low 8 tx) (low 8 rx) ∧ { t with cells := s.cells, ev := s.ev } = s) ∧
    (∀ ch : Fin 4, s.nat Ent.BUSOFF_COUNT ch + 1 < 2 ^ Ent.BUSOFF_COUNT.type.bits →
      let recent := s.ticks :: (s.can ch).busoffs.filter (fun b => decide (s.ticks < b + 20000))
      ∃ t, exec (.canBusOff ch) s = .next t ∧ t.nat Ent.BUSOFF_COUNT ch = s.nat Ent.BUSOFF_COUNT ch + 1 ∧
        (recent.length < 3 → t.nat Ent.CHANNEL_STATE ch = Can.BUS_OFF ∧ (t.can ch).busoffs = recent) ∧
        (3 ≤ recent.length → t.nat Ent.CHANNEL_STATE ch = Can.HELD ∧ (t.can ch).hold = some (s.ticks + s.nat Ent.BUSOFF_HOLD ch * 20)) ∧
        { t with cells := s.cells, ev := s.ev, bus := s.bus } = s) ∧
    (∀ ch : Fin 4, s.nat Ent.CHANNEL_STATE ch = Can.BUS_OFF →
      ∃ t, exec (.busOffRecovery ch) s = .next t ∧ t.nat Ent.CHANNEL_STATE ch = Can.ERROR_ACTIVE ∧
        s.cellsKept t [Ent.CHANNEL_STATE.key ch] ∧ { t with cells := s.cells } = s) ∧
    (∀ (ch : Fin 4) (b : Nat), (s.can ch).hold = some b → b ≤ s.ticks →
      ∃ t, exec (.busoffHoldEnd ch) s = .next t ∧ t.nat Ent.CHANNEL_STATE ch = Can.ERROR_ACTIVE ∧ (t.can ch).hold = none ∧
        s.cellsKept t [Ent.CHANNEL_STATE.key ch] ∧ { t with cells := s.cells, bus := s.bus } = s) ∧
    (∀ (tag : Fin 256) (x : Xfer), s.bus.xfers.find? (fun y => y.tag == tag.val) = some x → x.frame + 10 ≤ s.frames → x.sends < 3 →
      ∃ t, exec (.xferTimeout tag) s = .next t ∧ t.onBus (s.xferMsg { x with frame := s.frames, sends := x.sends + 1 }) ∧
        { x with frame := s.frames, sends := x.sends + 1 } ∈ t.bus.xfers ∧ { t with bus := s.bus, out := s.out } = s) ∧
    (∀ (tag : Fin 256) (x : Xfer), s.bus.xfers.find? (fun y => y.tag == tag.val) = some x → x.frame + 10 ≤ s.frames → 3 ≤ x.sends → x.index ≠ 3 →
      exec (.xferTimeout tag) s = .next (s.endXfer x.tag))

/-- A fitted unit whose status has been due past its allowance is missing, with event 0xA107. One whose primary channel is
off, or whose status has been missing for 10 frames, and whose alternate works moves to the alternate, with event 0xA108,
and its grant in force is sent there. An accepted UNIT_TEST of an idle unit, module or front-end unit, starts by reading
its test time and waits with its answer; in service without the queue flag it answers CONFLICT. A test past its time by
100 frames ends with LATE. -/
def Obligations.UnitsGoMissingMoveAndAreTested : Prop :=
  ∀ (s : State),
    (∀ (unit : Fin 80), s.fitted unit.val = true → (s.unitSt unit.val).missing = false →
      s.missingFor unit.val (s.statusAllowance unit.val) = true →
      ∃ t, exec (.unitStatusMissing unit) s = .next t ∧ (t.unitSt unit.val).missing = true ∧
        s.raised t Evt.UNIT_STATUS_MISSING unit.val (s.frames - (s.unitSt unit.val).due.getD 0) (s.unitChannel unit.val) ∧
        { t with cells := s.cells, ev := s.ev, bus := s.bus } = s) ∧
    (∀ (unit : Fin 80), s.missingFor unit.val (s.statusAllowance unit.val) = false → exec (.unitStatusMissing unit) s = .next s) ∧
    (∀ (unit : Fin 80), s.fitted unit.val = true → (s.unitSt unit.val).alt = false →
      let ac := s.unitNat Ent.MODULE_BUS_ALT_CHANNEL Ent.FE_BUS_ALT_CHANNEL unit.val
      ac ≠ 0xFF → s.canUp ac = true →
      s.busLost (s.unitNat Ent.MODULE_BUS_CHANNEL Ent.FE_BUS_CHANNEL unit.val) = true ∨ s.missingFor unit.val 10 = true →
      ∃ t, exec (.unitChannelChange unit) s = .next t ∧ (t.unitSt unit.val).alt = true ∧ (t.grants unit.val).restate = true ∧
        t.unitNat Ent.MODULE_BUS_IN_USE Ent.FE_BUS_IN_USE unit.val = ac ∧
        { t with cells := s.cells, ev := s.ev, bus := s.bus, alloc := s.alloc } = s) ∧
    (∀ (c : Client) (m v : Nat) (h : Held), m < 64 → s.accepts c Ent.MODULE_UNIT_TEST m (.num v) h →
      (∀ r ∈ s.running, r.target ≠ Ent.MODULE_UNIT_TEST.target m) →
      (s.nat Ent.MODULE_STATE m = Mod.IDLE →
        ∃ t, exec (.unitTest c m v) s = .next t ∧ ⟨m, none, s.frames, some h, false⟩ ∈ t.bus.tests ∧
          (∃ x ∈ t.bus.xfers, x.unit = m ∧ x.write = false ∧ x.index = 3 ∧ x.sub = 3)) ∧
      (s.nat Ent.MODULE_STATE m ≠ Mod.IDLE → c.queue = false →
        ∃ t, exec (.unitTest c m v) s = .next t ∧ t.repliesWith h St.CONFLICT ∧ t.bus = s.bus)) ∧
    (∀ (c : Client) (f v : Nat) (h : Held), f < 16 → s.accepts c Ent.FE_UNIT_TEST f (.num v) h →
      (∀ r ∈ s.running, r.target ≠ Ent.FE_UNIT_TEST.target f) → s.unitInService (64 + f) = false →
      ∃ t, exec (.unitTest c (64 + f) v) s = .next t ∧ ⟨64 + f, none, s.frames, some h, false⟩ ∈ t.bus.tests ∧
        (∃ x ∈ t.bus.xfers, x.unit = 64 + f ∧ x.write = false ∧ x.index = 3 ∧ x.sub = 3)) ∧
    (∀ (unit : Fin 80) (x : UnitTestSt) (n : Nat), s.bus.tests.find? (fun y => y.unit == unit.val) = some x → x.time = some n →
      x.started + n + 100 ≤ s.frames →
      ∃ t, exec (.unitTestLate unit) s = .next t ∧ (∀ y ∈ t.bus.tests, y.unit ≠ unit.val) ∧
        t.unitNat Ent.MODULE_UNIT_TEST_RESULT Ent.FE_UNIT_TEST_RESULT unit.val = St.LATE)

/-- A plug-in recognised for 20 frames at an idle served outlet, or at one unavailable for a legal calibration alone, starts a session
in CONNECTED; at one unavailable otherwise the session ends at once with OUTLET_UNAVAILABLE. Discovery is answered with the port's
address and enters HANDSHAKE; a handshake that is good gives the connection its contexts, one that fails ends the session with
SECURITY_FAILURE; over the connection the highest common minor version is agreed, else PROTOCOL_NOT_SUPPORTED; session setup counts
SESSION_COUNTER, numbers the session and raises SESSION_START; service discovery lists the services or takes one offered; loss of
confirmation for 3 cycles under load is a fast stop with event 0x3009. A request out of its state is answered with the sequence error
and ends the session VEHICLE_ERROR. -/
def Obligations.SessionsAreSetUp : Prop :=
  ∀ (s : State) (o : Fin 8),
    (s.sesState o = Ses.IDLE ∨ (s.sesState o = Ses.UNAVAILABLE ∧ s.onlyCalibrating o = true) →
      (if o.val < 4 then s.die.lkA else s.die.lkB) = true → Dev.SLEEP ≤ s.devState → s.devState ≠ Dev.RECOVERY →
      frames20 ≤ (s.line o).connected →
      ∃ t, exec (.plugInRecognised o) s = .next t ∧ t.sesState o = Ses.CONNECTED ∧ (t.sess o).plugAt = s.ticks ∧
        (t.sess o).startSfn = s.sfn ∧ (t.sess o).committed = false ∧ t.nat Ent.EV_SOC o = 0xFF ∧ t.nat Ent.AUTH_KIND o = 0) ∧
    (s.sesState o = Ses.UNAVAILABLE → s.onlyCalibrating o = false → (if o.val < 4 then s.die.lkA else s.die.lkB) = true →
      Dev.SLEEP ≤ s.devState → s.devState ≠ Dev.RECOVERY → frames20 ≤ (s.line o).connected →
      ∃ t, exec (.plugInRecognised o) s = .next t ∧ t.endedBy o End.OUTLET_UNAVAILABLE Ses.RELEASE) ∧
    (∀ tls : Bool,
      ∃ t, exec (.discoveryRequest o tls) s = .next t ∧
        t.sesState o = (if s.sesState o = Ses.CONNECTED then Ses.HANDSHAKE else s.sesState o) ∧
        t.waiting = s.waiting ++ [⟨.vehicle, o, .discovery, [(s.nat Ent.SESSION_TCP_PORT o : Int), 1], portAddress o⟩] ∧
        { t with outlets := s.outlets, waiting := s.waiting, mirror := s.mirror } = s) ∧
    (∀ good cert : Bool, s.sesLive o = true → (s.sess o).committed = false → (s.sess o).closed = false →
      ∃ t, exec (.tlsHandshake o good cert) s = .next t ∧
        (good = true → s.seccReady o = true → t.linked o = true ∧ (t.line o).cert = cert ∧ t.sess o = s.sess o ∧
          { t with outlets := s.outlets, mirror := s.mirror } = s) ∧
        (good = false ∨ s.seccReady o = false → t.endedBy o End.SECURITY_FAILURE Ses.RELEASE ∧ t.linked o = false)) ∧
    (∀ l : List Namespace, s.sesState o = Ses.HANDSHAKE → s.linked o = true →
      (∀ m, commonMinor l = some m →
        ∃ t, exec (.appProtocolHandshake o l) s = .next t ∧ t.sesState o = Ses.SETUP ∧
          t.tellsVehicle o Req.SUPPORTED_PROTOCOL 0 0 [1, m] ∧
          { t with outlets := s.outlets, waiting := s.waiting, mirror := s.mirror } = s) ∧
      (commonMinor l = none → (s.sess o).committed = false → (s.sess o).closed = false →
        ∃ t, exec (.appProtocolHandshake o l) s = .next t ∧ t.endedBy o End.PROTOCOL_NOT_SUPPORTED Ses.RELEASE ∧
          t.linked o = false ∧ t.tellsVehicle o Req.SUPPORTED_PROTOCOL 1 0 [] ∧
          s.raised t Evt.PROTOCOL_REFUSED o l.length 0)) ∧
    (∀ l : List Namespace, s.sesLive o = true → s.linked o = true → s.sesState o ≠ Ses.HANDSHAKE → (s.sess o).committed = false →
      (s.sess o).closed = false →
      ∃ t, exec (.appProtocolHandshake o l) s = .next t ∧ t.endedBy o End.VEHICLE_ERROR Ses.RELEASE ∧
        t.tellsVehicle o Req.SUPPORTED_PROTOCOL 2 0 []) ∧
    (∀ l : List Namespace, s.sesLive o = true → s.linked o = false →
      ∃ t, exec (.appProtocolHandshake o l) s = .next t ∧ { t with mirror := s.mirror } = s) ∧
    (∀ random : Nat, s.sesState o = Ses.SETUP → s.linked o = true → (s.sess o).setup = false → (s.sess o).committed = false →
      s.outletCalibrating o = false → s.nat Ent.SESSION_COUNTER + 1 < 2 ^ Ent.SESSION_COUNTER.type.bits →
      let n := s.nat Ent.SESSION_COUNTER + 1
      ∃ t, exec (.sessionSetupReq o random) s = .next t ∧ t.nat Ent.SESSION_COUNTER = n ∧ t.nat Ent.SESSION_NUMBER o = n ∧
        (t.sess o).number = n ∧ (t.sess o).setup = true ∧ s.raised t Evt.SESSION_START o n (low 32 random) ∧
        t.tellsVehicle o Req.SESSION_SETUP 0 0 [(n : Int), low 32 random]) ∧
    (∀ (select : Option Nat) (mode : Fin 2), s.sesState o = Ses.SETUP → s.linked o = true → (s.sess o).setup = true →
      ∃ t, exec (.serviceDiscoveryReq o select mode) s = .next t ∧
        (select = none → t.tellsVehicle o Req.SERVICE_DISCOVERY 0 0 [1 + 2 * b2n (s.flag Ent.BPT_ENABLE o), 3, 3] ∧
          { t with waiting := s.waiting, mirror := s.mirror } = s) ∧
        (∀ k, select = some k → k = 0 ∨ (k = 1 ∧ s.flag Ent.BPT_ENABLE o = true) →
          t.nat Ent.SERVICE o = k ∧ t.nat Ent.CONTROL_MODE o = mode ∧ t.tellsVehicle o Req.SERVICE_DISCOVERY 0 0 []) ∧
        (∀ k, select = some k → k ≠ 0 → ¬ (k = 1 ∧ s.flag Ent.BPT_ENABLE o = true) →
          t.tellsVehicle o Req.SERVICE_DISCOVERY 1 0 [] ∧ { t with waiting := s.waiting, mirror := s.mirror } = s)) ∧
    (s.sesLive o = true → (s.sess o).recorded = false → (s.sess o).committed = false → 3 ≤ (s.line o).lost →
      ∃ t, exec (.confirmationLoss o) s = .next t ∧
        t.endedBy o End.UNPLUGGED (if (s.sess o).closed then Ses.STOPPING else Ses.RELEASE) ∧
        ((s.sess o).closed = true → (t.sess o).fast = true ∧
          s.raised t Evt.UNPLUGGED_UNDER_LOAD o (tenths (s.oAmps o)) (s.sess o).number)) ∧
    ((s.line o).lost < 3 → exec (.confirmationLoss o) s = .next s)

/-- The first authorization request shows its kind, raises AUTH_REQUEST and waits in AUTHORISING; a decision for the
session moves it on to PARAMETERS with its class, or ends it AUTH_REFUSED; without a decision the offline policy
accepts or the session ends AUTH_TIMEOUT. The vehicle's parameters are taken and answered. The cable check is Ongoing
until a module is assigned, then closes the contactor, and passes when voltage and resistance have held for 1 s.
Certificate installation is answered with the failure code. -/
def Obligations.SessionsAreAuthorisedAndChecked : Prop :=
  ∀ (s : State) (o : Fin 8),
    (∀ (ok_ : Bool) (contract : List Byte), s.sesState o = Ses.SETUP → s.linked o = true → (s.sess o).setup = true →
      ∃ t, exec (.authorizationReq o false ok_ contract) s = .next t ∧ t.sesState o = Ses.AUTHORISING ∧ t.nat Ent.AUTH_KIND o = 1 ∧
        t.bytes Ent.AUTH_IDENTITY o = (s.sess o).token ∧ s.raised t Evt.AUTH_REQUEST o (s.sess o).number 1 ∧
        t.tellsVehicle o Req.AUTHORIZATION 0 1 []) ∧
    (∀ (ok_ : Bool) (contract : List Byte), s.sesState o = Ses.SETUP → s.linked o = true → (s.sess o).setup = true →
      (ok_ = true → (s.line o).cert = true → s.time.state ≠ .unset →
        ∃ t, exec (.authorizationReq o true ok_ contract) s = .next t ∧ t.sesState o = Ses.AUTHORISING ∧ t.nat Ent.AUTH_KIND o = 2 ∧
          t.bytes Ent.AUTH_IDENTITY o = contract ∧ (t.sess o).verified = true ∧
          s.raised t Evt.AUTH_REQUEST o (s.sess o).number 2 ∧ t.tellsVehicle o Req.AUTHORIZATION 0 1 []) ∧
      (ok_ = false ∨ (s.line o).cert = false ∨ s.time.state = .unset → (s.sess o).committed = false → (s.sess o).closed = false →
        ∃ t, exec (.authorizationReq o true ok_ contract) s = .next t ∧ t.endedBy o End.SECURITY_FAILURE Ses.RELEASE ∧
          t.tellsVehicle o Req.AUTHORIZATION 1 0 [])) ∧
    (∀ (c : Client) (token : List Byte) (h : Held), s.accepts c Ent.EIM_TOKEN o (.bytes token) h →
      ∃ t, exec (.eimToken c o token) s = .next t ∧ (t.sess o).token = token ∧ t.repliesWith h St.OK ∧
        (s.sesLive o = true → s.nat Ent.AUTH_KIND o = 1 → (s.sess o).decided = false → t.bytes Ent.AUTH_IDENTITY o = token)) ∧
    (∀ (c : Client) (d : Decision) (h : Held), s.accepts c Ent.AUTH_RESPONSE o (.bytes (decisionBytes d)) h →
      d.number < 2 ^ 32 → d.result ≤ 1 → d.cls ≤ 3 ∨ d.cls = 0xFF → d.account ≤ 255 ∨ d.account = 0xFFFF →
      ∃ t, exec (.authResponse c o d) s = .next t ∧
        (d.number < s.nat Ent.SESSION_NUMBER o ∨ (d.number = s.nat Ent.SESSION_NUMBER o ∧
            (s.sesLive o = false ∨ (s.sess o).setup = false ∨ (s.sess o).decided = true ∨ (s.sess o).committed = true)) →
          t.repliesWith h St.ALREADY_DONE ∧ t.outlets = s.outlets) ∧
        (s.nat Ent.SESSION_NUMBER o < d.number → t.repliesWith h St.CONFLICT ∧ t.outlets = s.outlets) ∧
        (d.number = s.nat Ent.SESSION_NUMBER o → s.sesState o = Ses.AUTHORISING → (s.sess o).setup = true →
          (s.sess o).decided = false → (s.sess o).committed = false →
          (d.result = 0 → t.sesState o = Ses.PARAMETERS ∧ (t.sess o).account = d.account ∧ t.repliesWith h St.OK ∧
            t.nat Ent.CLASS o = (if d.cls = 0xFF then s.nat Ent.AUTH_DEFAULT_CLASS else d.cls)) ∧
          (d.result = 1 → (s.sess o).closed = false → t.endedBy o End.AUTH_REFUSED Ses.RELEASE ∧ t.repliesWith h St.OK))) ∧
    (s.sesState o = Ses.AUTHORISING → (s.sess o).committed = false → (s.sess o).closed = false →
      (s.sess o).stateAt + secTicks (s.nat Ent.AUTH_TIMEOUT) ≤ s.ticks →
      ∃ t, exec (.authTimeout o) s = .next t ∧
        (s.nat Ent.AUTH_OFFLINE_POLICY = 2 ∨ (s.nat Ent.AUTH_OFFLINE_POLICY = 1 ∧ (s.sess o).verified = true) →
          t.sesState o = Ses.PARAMETERS ∧ t.nat Ent.CLASS o = s.nat Ent.AUTH_DEFAULT_CLASS ∧ (t.sess o).offline = true) ∧
        (s.nat Ent.AUTH_OFFLINE_POLICY = 0 ∨ (s.nat Ent.AUTH_OFFLINE_POLICY = 1 ∧ (s.sess o).verified = false) →
          t.endedBy o End.AUTH_TIMEOUT Ses.RELEASE)) ∧
    (∀ p : EvParams, s.sesState o = Ses.PARAMETERS → s.linked o = true → p.maxPower < 2 ^ Ent.EV_MAX_POWER.type.bits →
      ∃ t, exec (.dcChargeParameterDiscovery o p) s = .next t ∧ t.nat Ent.EV_MAX_POWER o = p.maxPower ∧
        (t.sess o).wanted = max 1 (cdiv (min p.maxPower (s.nat Ent.OUTLET_POWER_LIMIT o)) 375000) ∧
        t.tellsVehicle o Req.PARAMETER_DISCOVERY 0 0 [3000, 12500] ∧
        (p.error = true → (s.sess o).committed = false → (s.sess o).closed = false → t.endedBy o End.VEHICLE_ERROR Ses.RELEASE)) ∧
    (s.sesState o = Ses.PARAMETERS → s.linked o = true →
      ∃ t, exec (.dcCableCheckReq o) s = .next t ∧ t.tellsVehicle o Req.CABLE_CHECK 0 1 (s.present o) ∧
        ((s.modulesOf o).filter s.steady = [] → { t with waiting := s.waiting, mirror := s.mirror } = s) ∧
        ((s.modulesOf o).filter s.steady ≠ [] → t.sesState o = Ses.CABLE_CHECK ∧ (t.sess o).closed = true ∧ (t.sess o).closeSfn = s.sfn)) ∧
    (s.sesState o = Ses.CABLE_CHECK → s.linked o = true →
      ∃ t, exec (.dcCableCheckReq o) s = .next t ∧ t.tellsVehicle o Req.CABLE_CHECK 0 (b2n (!(s.sess o).passed)) (s.present o) ∧
        { t with waiting := s.waiting, mirror := s.mirror } = s) ∧
    (∀ b : Nat, (s.sess o).bandSince = some b → s.sesState o = Ses.CABLE_CHECK → b + secTicks 1 ≤ s.ticks →
      ∃ t, exec (.cableCheckPass o) s = .next t ∧ t.sess o = { s.sess o with passed := true } ∧ { t with outlets := s.outlets } = s) ∧
    (s.sesLive o = true → s.linked o = true →
      ∃ t, exec (.certificateInstallationReq o) s = .next t ∧ t.tellsVehicle o Req.CERTIFICATE_INSTALLATION 1 0 [] ∧
        { t with waiting := s.waiting, mirror := s.mirror } = s)

/-- Pre-charge is entered with its target once the cable check has passed, and from PAUSED; a start within 20 V of the target enters
TRANSFER, one further off ends PRECHARGE_FAILED, and from PAUSED it resumes; standby pauses with no request for power; stop ends
COMPLETED_BY_VEHICLE; a loop request in TRANSFER is noted and answered with voltage, current, grant, limits and whether
to terminate, and an error the vehicle reports ends the session VEHICLE_ERROR; welding detection is answered with the outlet
voltage; a session stop is noted and commits the end. -/
def Obligations.SessionsTransferAndPause : Prop :=
  ∀ (s : State) (o : Fin 8), s.linked o = true →
    (∀ target : Nat, (s.sesState o = Ses.CABLE_CHECK ∧ (s.sess o).passed = true) ∨ s.sesState o = Ses.PAUSED →
      ∃ t, exec (.dcPreChargeReq o target) s = .next t ∧ t.sesState o = Ses.PRE_CHARGE ∧ (t.sess o).target = low 16 target ∧
        (t.sess o).stateAt = s.ticks ∧ t.tellsVehicle o Req.PRE_CHARGE 0 0 (s.present o)) ∧
    (s.sesState o = Ses.PRE_CHARGE →
      let off := ratAbs (s.oVolts o - (((s.sess o).target : Nat) : Rat) / 10)
      (off ≤ 20 → ∃ t, exec (.powerDeliveryReqStart o) s = .next t ∧ t.sesState o = Ses.TRANSFER ∧ (t.sess o).loopAt = s.ticks ∧
        t.tellsVehicle o Req.POWER_DELIVERY 0 0 [] ∧ { t with outlets := s.outlets, waiting := s.waiting, mirror := s.mirror } = s) ∧
      (20 < off → (s.sess o).committed = false → (s.sess o).closed = true →
        ∃ t, exec (.powerDeliveryReqStart o) s = .next t ∧ t.endedBy o End.PRECHARGE_FAILED Ses.STOPPING ∧
          s.raised t Evt.PRECHARGE_FAIL o (tenths (s.oVolts o)) (s.sess o).target)) ∧
    (s.sesState o = Ses.PAUSED →
      ∃ t, exec (.powerDeliveryReqStart o) s = .next t ∧ t.sesState o = Ses.TRANSFER ∧ (t.sess o).loopAt = s.ticks ∧
        t.tellsVehicle o Req.POWER_DELIVERY 0 0 []) ∧
    (s.sesState o = Ses.TRANSFER →
      ∃ t, exec (.powerDeliveryReqStandby o) s = .next t ∧ t.sesState o = Ses.PAUSED ∧ t.int Ent.REQUEST_POWER o = 0 ∧
        t.tellsVehicle o Req.POWER_DELIVERY 0 0 []) ∧
    (s.sesState o = Ses.PRE_CHARGE ∨ s.sesState o = Ses.TRANSFER ∨ s.sesState o = Ses.PAUSED → (s.sess o).committed = false →
      (s.sess o).reason = 0xFF → (s.sess o).closed = true →
      ∃ t, exec (.powerDeliveryReqStop o) s = .next t ∧ t.endedBy o End.COMPLETED_BY_VEHICLE Ses.STOPPING ∧
        t.tellsVehicle o Req.POWER_DELIVERY 0 0 []) ∧
    (∀ p : EvParams, s.sesState o = Ses.TRANSFER →
      ∃ t, exec (.loopRequest o p) s = .next t ∧ (t.sess o).loopAt = s.ticks ∧ (t.sess o).discharge = p.discharge ∧
        (p.error = false → t.sesState o = Ses.TRANSFER) ∧
        (p.error = true → (s.sess o).committed = false → (s.sess o).closed = true → t.endedBy o End.VEHICLE_ERROR Ses.STOPPING) ∧
        t.tellsVehicle o Req.LOOP 0 0 (s.present o ++ [s.int Ent.GRANT o,
          ratFloor ((if s.rat Ent.CABLE_CURRENT_LIMIT o < 3000 then s.rat Ent.CABLE_CURRENT_LIMIT o else 3000) * 10), 12500,
          b2n (s.sess o).ended])) ∧
    (∀ finished : Bool, s.sesState o = Ses.STOPPING ∨ s.sesState o = Ses.RELEASE ∨ s.sesState o = Ses.WELDING_CHECK →
      ∃ t, exec (.dcWeldingDetectionReq o finished) s = .next t ∧
        t.tellsVehicle o Req.WELDING_DETECTION 0 0 [(tenths (s.oVolts o) : Int)] ∧
        (t.sess o).vehicleCheck = (finished || (s.sess o).vehicleCheck) ∧
        t.sesState o = (if s.sesState o = Ses.WELDING_CHECK ∧ finished = true ∧ (s.sess o).ownCheck = true then Ses.RELEASE
          else s.sesState o)) ∧
    (s.sesLive o = true → (s.sess o).committed = false → (s.sess o).recorded = false → (s.sess o).closed = true →
      ∃ t, exec (.sessionStopReq o) s = .next t ∧ t.endedBy o End.COMPLETED_BY_VEHICLE Ses.STOPPING ∧ (t.sess o).stopAsked = true ∧
        (t.sess o).vehicleCheck = true)

/-- A limit of Table 7-3 passed ends the session with its reason. Insulation below ISO_FAULT for 10 frames, over-voltage for 2 cycles,
over-current for 10 frames and every module faulted raise OUTLET_TRIP and start a fast stop; a link down for 10 frames and silent
loop requests raise LINK_LOST. An accepted STOP_REQUEST ends the session; with none it answers CONFLICT, after an end ALREADY_DONE.
Below 5 A for 2 cycles, or at the limit of the stop, the contactor opens into WELDING_CHECK (or RELEASE when both checks are done),
and after 500 ms a module side above half the outlet voltage is a weld. -/
def Obligations.SessionsAreTrippedAndStopped : Prop :=
  ∀ (s : State) (o : Fin 8),
    (s.sesState o = Ses.CONNECTED ∨ s.sesState o = Ses.HANDSHAKE ∨ s.sesState o = Ses.SETUP → (s.sess o).committed = false →
      (s.sess o).closed = false → (s.sess o).plugAt + msTicks (s.nat Ent.SETUP_TIMEOUT) ≤ s.ticks →
      ∃ t, exec (.sessionStateLimit o) s = .next t ∧ t.endedBy o End.SEQUENCE_TIMEOUT Ses.RELEASE) ∧
    (s.sesState o = Ses.PARAMETERS → (s.sess o).committed = false → (s.sess o).closed = false →
      (s.sess o).stateAt + secTicks (s.nat Ent.MODULE_WAIT_TIMEOUT) ≤ s.ticks →
      ∃ t, exec (.sessionStateLimit o) s = .next t ∧ t.endedBy o End.NO_MODULES Ses.RELEASE) ∧
    (s.sesState o = Ses.WELDING_CHECK → (s.sess o).stateAt + secTicks 10 ≤ s.ticks →
      ∃ t, exec (.sessionStateLimit o) s = .next t ∧ t.sesState o = Ses.RELEASE ∧ { t with outlets := s.outlets } = s) ∧
    (s.sesLive o = true → (s.sess o).committed = false → (s.sess o).closed = true →
      (frames10 ≤ (s.line o).iso →
        ∃ t, exec (.insulationTrip o) s = .next t ∧ t.endedBy o End.INSULATION_FAULT Ses.STOPPING ∧ (t.sess o).fast = true ∧
          s.raised t Evt.OUTLET_TRIP o End.INSULATION_FAULT (kohms (s.insulation o))) ∧
      (2 ≤ (s.line o).overV →
        ∃ t, exec (.outletTrip o 0) s = .next t ∧ t.endedBy o End.OVER_VOLTAGE Ses.STOPPING ∧ (t.sess o).fast = true ∧
          s.raised t Evt.OUTLET_TRIP o End.OVER_VOLTAGE (tenths (s.oVolts o))) ∧
      (frames10 ≤ (s.line o).overI →
        ∃ t, exec (.outletTrip o 1) s = .next t ∧ t.endedBy o End.OVER_CURRENT Ses.STOPPING ∧ (t.sess o).fast = true ∧
          s.raised t Evt.OUTLET_TRIP o End.OVER_CURRENT (tenths (s.oAmps o))) ∧
      (s.modulesOf o ≠ [] →
        (∀ m ∈ s.modulesOf o, (s.unitSt m).outputOff = true ∨ s.nat Ent.MODULE_STATE m = Mod.UNRESPONSIVE) →
        ∃ t, exec (.outletTrip o 2) s = .next t ∧ t.endedBy o End.MODULE_FAULT Ses.STOPPING ∧ t.free = s.free + 1) ∧
      (frames10 ≤ (s.line o).down → (s.sess o).recorded = false →
        ∃ t, exec (.linkLost o false) s = .next t ∧ t.endedBy o End.LINK_LOST Ses.STOPPING ∧ (t.sess o).fast = true ∧
          t.linked o = false ∧ s.raised t Evt.LINK_LOST o 0 (s.sess o).number) ∧
      (s.sesState o = Ses.TRANSFER → (s.sess o).loopAt + msTicks (s.nat Ent.LOOP_SILENCE_TIMEOUT) ≤ s.ticks →
        ∃ t, exec (.linkLost o true) s = .next t ∧ t.endedBy o End.LINK_LOST Ses.STOPPING ∧
          s.raised t Evt.LINK_LOST o 1 (s.sess o).number)) ∧
    (∀ (c : Client) (v : Nat) (h : Held), s.accepts c Ent.STOP_REQUEST o (.num v) h →
      ∃ t, exec (.stopRequest c o v) s = .next t ∧
        (s.sesLive o = false → t.repliesWith h St.CONFLICT ∧ t.outlets = s.outlets) ∧
        (s.sesLive o = true → (s.sess o).committed = true → t.repliesWith h St.ALREADY_DONE ∧ t.outlets = s.outlets) ∧
        (s.sesLive o = true → (s.sess o).committed = false → t.repliesWith h St.OK ∧
          t.endedBy o v (if (s.sess o).closed then Ses.STOPPING else Ses.RELEASE))) ∧
    (s.sesState o = Ses.STOPPING → 2 ≤ (s.line o).lowI →
      ∃ t, exec (.contactorOpen o) s = .next t ∧ (t.sess o).closed = false ∧ (t.sess o).openSfn = s.sfn ∧
        (t.sess o).delivered1 = s.outletDelivered o ∧
        t.sesState o = (if s.oVolts o < 60 ∧ (s.sess o).vehicleCheck = true then Ses.RELEASE else Ses.WELDING_CHECK)) ∧
    (s.sesState o = Ses.STOPPING →
      (s.sess o).stateAt + msTicks (if (s.sess o).fast then s.nat Ent.FORCED_OPEN_DELAY else s.nat Ent.STOP_TIMEOUT) ≤ s.ticks →
      ∃ t, exec (.forcedOpen o) s = .next t ∧ (t.sess o).closed = false ∧
        s.raised t Evt.FORCED_OPEN o (tenths (s.oAmps o)) (s.sess o).number) ∧
    (s.sesState o = Ses.WELDING_CHECK → (s.sess o).ownCheck = false → (s.sess o).openAt + msTicks 500 ≤ s.ticks →
      ∃ t, exec (.weldingCheck o) s = .next t ∧ (t.sess o).ownCheck = true ∧
        (60 < s.oVolts o → s.oVolts o / 2 < ((s.moduleSide o : Nat) : Rat) / 10 →
          (t.sess o).welded = true ∧ (t.sess o).faultAfter = true ∧
          s.raised t Evt.CONTACTOR_WELDED o (tenths (s.oVolts o)) (s.moduleSide o)) ∧
        (s.oVolts o ≤ 60 ∨ ((s.moduleSide o : Nat) : Rat) / 10 ≤ s.oVolts o / 2 → (t.sess o).welded = (s.sess o).welded ∧ t.ev = s.ev))

/-- Below 60 V in RELEASE the session is recorded; the coupler open for 20 frames, the outlet is FAULTED, UNAVAILABLE or IDLE.
OUTLET_RESET of an outlet not FAULTED answers CONFLICT; OUTLET_ENABLE without its resources answers CONFLICT. ESTOP_N
low for 2 cycles latches the stop, raises EMERGENCY_STOP and arms the forced opening of each half; at its time a half opens the
channels its store names as contactors; release notes the tick; a reset while it is low answers CONFLICT, with nothing latched
ALREADY_DONE, else clears the latch; with ESTOP_AUTO_RESET it clears after 1 s. -/
def Obligations.OutletsAreReleasedAndTheEmergencyStopActs : Prop :=
  ∀ (s : State),
    (∀ o : Fin 8, s.sesState o = Ses.RELEASE → (s.sess o).ended = true → (s.sess o).recorded = false → s.oVolts o < 60 →
      ∃ t, exec (.releaseLockOff o) s = .next t ∧ (t.sess o).recorded = true ∧ t.sesState o = Ses.RELEASE ∧
        t.outlets.log.head?.map Prod.snd = some ((if (s.sess o).stopAsked then
          (s.lcCommand (s.nat Ent.LOCK_CHANNEL o) false).toVehicle o Req.SESSION_STOP 0 0 []
          else s.lcCommand (s.nat Ent.LOCK_CHANNEL o) false).sessionRecord o)) ∧
    (∀ o : Fin 8, s.sesState o = Ses.RELEASE → (s.sess o).recorded = true → frames20 ≤ (s.line o).open_ →
      ∃ t, exec (.couplerReleased o) s = .next t ∧ (t.sess o).stopAsked = false ∧ t.linked o = false ∧
        { t with outlets := s.outlets } = s ∧
        t.sesState o = (if (s.sess o).faultAfter then Ses.FAULTED else if s.unavailableCause o then Ses.UNAVAILABLE else Ses.IDLE)) ∧
    (∀ o : Fin 8, s.sesState o = Ses.UNAVAILABLE → s.unavailableCause o = false → frames20 ≤ (s.line o).open_ →
      ∃ t, exec (.couplerReleased o) s = .next t ∧ t.sesState o = Ses.IDLE ∧ { t with outlets := s.outlets } = s) ∧
    (∀ o : Fin 8, (s.line o).open_ < frames20 → exec (.couplerReleased o) s = .next s) ∧
    (∀ (c : Client) (o : Fin 8) (v : Nat) (h : Held), s.accepts c Ent.OUTLET_RESET o (.num v) h →
      (s.sesState o ≠ Ses.FAULTED ∨ s.band o ≠ 0 ∨ (s.lcs (s.nat Ent.CONTACTOR_CHANNEL o)).weld = true →
        ∃ t, exec (.outletReset c o v) s = .next t ∧ t.repliesWith h St.CONFLICT ∧ t.outlets = s.outlets) ∧
      (s.sesState o = Ses.FAULTED → s.band o = 0 → (s.lcs (s.nat Ent.CONTACTOR_CHANNEL o)).weld = false →
        ∃ t, exec (.outletReset c o v) s = .next t ∧ t.repliesWith h St.OK ∧
          t.sesState o = (if s.unavailableCause o then Ses.UNAVAILABLE else Ses.IDLE))) ∧
    (∀ (c : Client) (o : Fin 8) (v : Nat) (h : Held), s.accepts c Ent.OUTLET_ENABLE o (.num v) h →
      (v = 0 → ∃ t, exec (.outletEnable c o v) s = .next t ∧ t.repliesWith h St.OK ∧ t.nat Ent.OUTLET_ENABLE o = 0 ∧
        (s.sesState o = Ses.IDLE → t.sesState o = Ses.UNAVAILABLE)) ∧
      (v ≠ 0 → s.outletResourcesOk o = true →
        ∃ t, exec (.outletEnable c o v) s = .next t ∧ t.repliesWith h St.OK ∧ t.nat Ent.OUTLET_ENABLE o = v) ∧
      (v ≠ 0 → s.outletResourcesOk o = false →
        ∃ t, exec (.outletEnable c o v) s = .next t ∧ t.repliesWith h St.CONFLICT ∧ t.actSet = s.actSet)) ∧
    (s.outlets.estopLow = false → 2 ≤ s.outlets.estopRun →
      ∃ t, exec .emergencyStop s = .next t ∧ t.outlets.estopLow = true ∧ t.outlets.estopLatched = true ∧
        t.outlets.estopOpenA = some (s.ticks + msTicks s.halfA.openDelay) ∧
        t.outlets.estopOpenB = some (s.ticks + msTicks s.halfB.openDelay) ∧ t.nat Ent.ESTOP_STATE = 1 ∧
        s.raised t Evt.EMERGENCY_STOP 8 1 s.sessionMask ∧
        (∀ o, o < 8 → s.sesLive o = true → (s.sess o).committed = false → (s.sess o).closed = true →
          t.endedBy o End.EMERGENCY_STOP Ses.STOPPING ∧ (t.sess o).fast = true)) ∧
    (∀ b : Nat, s.outlets.estopOpenA = some b → b ≤ s.ticks → s.outlets.estopLatched = true →
      ∃ t, exec .estopForcedOpen s = .next t ∧ t.outlets.estopOpenA = none ∧
        (s.pwOk 0 = true → ∀ i ∈ s.halfA.store, i.kind = 1 → (t.lcs i.ch).estop = true)) ∧
    (∀ b : Nat, s.outlets.estopOpenB = some b → b ≤ s.ticks → s.outlets.estopLatched = true →
      ∃ t, exec .estopForcedOpen s = .next t ∧ t.outlets.estopOpenB = none ∧
        (s.pwOk 1 = true → ∀ i ∈ s.halfB.store, i.kind = 1 → (t.lcs i.ch).estop = true)) ∧
    (s.outlets.estopLow = true → s.outlets.estopRun = 0 →
      ∃ t, exec .estopRelease s = .next t ∧ t.outlets.estopLow = false ∧ t.outlets.estopHighAt = some s.ticks ∧
        { t with outlets := s.outlets } = s) ∧
    (∀ (c : Client) (v : Nat) (h : Held), s.accepts c Ent.ESTOP_RESET 0 (.num v) h →
      (s.outlets.estopLow = true →
        ∃ t, exec (.estopReset c v) s = .next t ∧ t.repliesWith h St.CONFLICT ∧ t.outlets = s.outlets) ∧
      (s.outlets.estopLow = false → s.outlets.estopLatched = false →
        ∃ t, exec (.estopReset c v) s = .next t ∧ t.repliesWith h St.ALREADY_DONE ∧ t.outlets = s.outlets) ∧
      (s.outlets.estopLow = false → s.outlets.estopLatched = true →
        ∃ t, exec (.estopReset c v) s = .next t ∧ t.repliesWith h St.OK ∧ t.outlets.estopLatched = false ∧
          t.nat Ent.ESTOP_STATE = 0)) ∧
    (∀ b : Nat, s.outlets.estopHighAt = some b → s.flag Ent.ESTOP_AUTO_RESET = true → s.outlets.estopLatched = true →
      s.outlets.estopLow = false → b + secTicks 1 ≤ s.ticks →
      ∃ t, exec .estopAutoReset s = .next t ∧ t.outlets.estopLatched = false ∧ t.nat Ent.ESTOP_STATE = 0)

/-- Saturation of 1,000 frames is reported once. LOOP_RESET of a faulted loop clears the fault and zeroes its sections; of
a sound one it answers ALREADY_DONE. A conductor above its trip level for 20 frames, or a pin for 10, brings the cable's limit to 0,
raises CABLE_OVER_TEMP and ends a live session CABLE_OVER_TEMPERATURE. Coolant below FLOW_MIN with the pump at 0.2 or more for 5 s
is reported, and flow restored for 5 s ends that. -/
def Obligations.LoopsAndCablesReport : Prop :=
  ∀ (s : State),
    (∀ l : Fin 64, 1000 ≤ (s.loop l).satFrames → (s.loop l).told = false →
      ∃ t, exec (.loopSaturated l) s = .next t ∧ t.loop l = { s.loop l with told := true } ∧
        s.raised t Evt.LOOP_SATURATED l (s.loop l).out (b2n (s.loop l).satHigh) ∧ { t with ev := s.ev, loops := s.loops } = s) ∧
    (∀ (c : Client) (l v : Nat) (h : Held), s.accepts c Ent.LOOP_RESET l (.num v) h →
      ((s.loop l).fault = false → ∃ t, exec (.loopReset c l v) s = .next t ∧ t.repliesWith h St.ALREADY_DONE ∧ t.loops = s.loops) ∧
      ((s.loop l).fault = true → ∃ t, exec (.loopReset c l v) s = .next t ∧ t.repliesWith h St.OK ∧ (t.loop l).fault = false ∧
        (t.loop l).s1 = List.replicate 8 0 ∧ (t.loop l).s2 = List.replicate 8 0 ∧ (t.loop l).out = (s.loop l).out ∧
        (t.loop l).preset = false)) ∧
    (∀ o : Fin 8, (s.cable o).overTemp = false → s.cableRuns o = true →
      (s.rat Ent.CABLE_TRIP_TEMP o < F32.toRat (s.nat Ent.T_COND o) → msTicks 20 ≤ (s.cable o).condRun →
        ∃ t, exec (.cableOverTemp o false) s = .next t ∧ (t.cable o).overTemp = true ∧ t.nat Ent.CABLE_CURRENT_LIMIT o = 0 ∧
          s.raised t Evt.CABLE_OVER_TEMP o (deci (s.nat Ent.T_COND o)) 0 ∧
          (s.sesLive o = true → (s.sess o).committed = false →
            t.endedBy o End.CABLE_OVER_TEMPERATURE (if (s.sess o).closed then Ses.STOPPING else Ses.RELEASE))) ∧
      (∀ p : Nat, (s.cableTemps o).2.2.2 = some p → s.rat Ent.PIN_TRIP_TEMP o < F32.toRat p → msTicks 10 ≤ (s.cable o).pinRun →
        ∃ t, exec (.cableOverTemp o true) s = .next t ∧ (t.cable o).overTemp = true ∧ t.nat Ent.CABLE_CURRENT_LIMIT o = 0 ∧
          s.raised t Evt.CABLE_OVER_TEMP o (deci p) 1)) ∧
    (∀ (o : Fin 8) (f : Rat), s.measuredFlow o = some f → (s.cable o).flowLow = false → s.lasts5 (s.cable o).pumpAt = true →
      1 / 5 ≤ s.pumpDuty o → f < s.rat Ent.FLOW_MIN o →
      ∃ t, exec (.coolantFlowLow o) s = .next t ∧ (t.cable o).flowLow = true ∧
        s.raised t Evt.COOLANT_FLOW_LOW o (tenths f) (ratRound (s.pumpDuty o * 1000)).toNat ∧
        s.cellsKept t [Ent.CABLE_STATUS.key o] ∧ { t with ev := s.ev, cells := s.cells, cables := s.cables } = s) ∧
    (∀ (o : Fin 8) (f : Rat), s.measuredFlow o = some f → (s.cable o).flowLow = true → s.lasts5 (s.cable o).flowAt = true →
      s.rat Ent.FLOW_MIN o ≤ f →
      ∃ t, exec (.coolantFlowRestored o) s = .next t ∧ (t.cable o).flowLow = false ∧
        s.cellsKept t [Ent.CABLE_STATUS.key o] ∧ { t with cells := s.cells, cables := s.cables } = s)

/-- A group back in range for 20 frames runs again with I_REF 0. The phase that follows the last fired fires when the
valley is reached and its switch has been low for MIN_OFF, and becomes the pointer. A trim at its bound for 1,000 frames is reported
once. The step hold ends at its tick. A stop is complete 2 frames after the command, or once the group current is small: READY, I_REF
and P_CMD 0. GROUP_RESET answers CONFLICT while a phase carries current, ALREADY_DONE when not tripped, else the group is READY (OFF
when disabled). -/
def Obligations.GroupsRunAndFire : Prop :=
  ∀ (s : State) (g : Fin 8),
    ((s.conv g).st = Grp.OUT_OF_RANGE → s.inRange g = true → 20 ≤ (s.conv g).inFrames →
      ∃ t, exec (.groupRangeReturn g) s = .next t ∧ (t.conv g).st = Grp.RUN ∧ t.nat Ent.I_REF g = 0) ∧
    (∀ (at_ p : Nat), (s.conv g).st = Grp.RUN ∨ (s.conv g).st = Grp.STOPPING ∨ (s.conv g).st = Grp.OUT_OF_RANGE →
      s.nextPhase g = some p → s.atValley g p (s.steps + at_) = true →
      (s.conv g).shed ≠ some p → (s.leg p).lowAt + cdiv ((s.conv g).minOff * 2) 5 ≤ s.steps + at_ →
      ∃ t, exec (.phaseFire g at_) s = .next t ∧ (t.conv g).ptr = p ∧ (t.conv g).firings = (s.conv g).firings + 1 ∧
        (t.leg p).fired = true ∧ (t.leg p).lowAt = (t.leg p).offAt + cdiv ((s.conv g).dead * 2) 5 ∧
        s.steps + at_ ≤ (t.leg p).offAt ∧ t.ev = s.ev) ∧
    (∀ p : Fin 32, 1000 ≤ (s.leg p).trimRun → (s.leg p).trimTold = false →
      ∃ t, exec (.phaseImbalance p) s = .next t ∧ t.leg p = { s.leg p with trimTold := true } ∧
        s.raised t Evt.PHASE_IMBALANCE p (s.nat Ent.PHASE_TRIM p) (word 32 (ratRound (s.sign (s.phaseGroup p) * s.legMean p * 10))) ∧
        { t with ev := s.ev, legs := s.legs } = s) ∧
    (∀ b : Nat, (s.conv g).stepHold = some b → b ≤ s.ticks →
      ∃ t, exec (.stepHoldEnd g) s = .next t ∧ t.conv g = { s.conv g with stepHold := none } ∧ { t with convs := s.convs } = s) ∧
    (∀ b : Nat, (s.conv g).stopAt = some b → (s.conv g).st = Grp.STOPPING →
      b + 40 ≤ s.ticks ∨ ratAbs (s.groupAmps g) < ((s.nAv g : Nat) : Rat) * s.rat Ent.PHASE_I_RATED g / 50 →
      ∃ t, exec (.groupStopComplete g) s = .next t ∧ (t.conv g).st = Grp.READY ∧ (t.conv g).stopAt = none ∧ t.nat Ent.I_REF g = 0 ∧
        t.int Ent.P_CMD g = 0) ∧
    (∀ (c : Client) (v : Nat) (h : Held), s.accepts c Ent.GROUP_RESET g (.num v) h →
      ((∃ p ∈ s.phasesOf g, s.rat Ent.PHI_TRIP p < ratAbs (s.legAmps p)) →
        ∃ t, exec (.groupReset c g v) s = .next t ∧ t.repliesWith h St.CONFLICT ∧ t.convs = s.convs) ∧
      ((∀ p ∈ s.phasesOf g, ¬ s.rat Ent.PHI_TRIP p < ratAbs (s.legAmps p)) → (s.conv g).st ≠ Grp.TRIPPED →
        ∃ t, exec (.groupReset c g v) s = .next t ∧ t.repliesWith h St.ALREADY_DONE ∧ t.convs = s.convs) ∧
      ((∀ p ∈ s.phasesOf g, ¬ s.rat Ent.PHI_TRIP p < ratAbs (s.legAmps p)) → (s.conv g).st = Grp.TRIPPED →
        ∃ t, exec (.groupReset c g v) s = .next t ∧ t.repliesWith h St.OK ∧ (t.conv g).trip = none ∧
          (t.conv g).st = (if s.flag Ent.GROUP_ENABLE g then Grp.READY else Grp.OFF) ∧
          (∀ p ∈ s.phasesOf g, s.phase p = Pha.TRIPPED → t.phase p = Pha.OFF)))

/-- A fast trip of a phase in the ring is counted and leaves it TRIPPED, with its event and its number within 10 s; after
the hold it is added again when its group runs, OFF when the group neither runs nor is tripped. A phase sick long
enough, or overloaded for OVERLOAD_TIME, is FAILED with its cause and event. An idle phase is put under test; one in
service answers CONFLICT. A test returns the phase with its result: OK when the window maximum lies within 30 % of the prediction and
the comparator agrees, else RANGE. A FAILED phase that has passed a test, or whose group does not run, is SHED again on reset; one
that has not answers CONFLICT; one not failed answers ALREADY_DONE. -/
def Obligations.PhasesTripFailAndAreTested : Prop :=
  ∀ (s : State) (p : Fin 32),
    (s.firing p = true → s.phaseGroup p < 8 → s.nat Ent.FAST_TRIP_COUNT p + 1 < 2 ^ Ent.FAST_TRIP_COUNT.type.bits →
      (s.conv (s.phaseGroup p)).trip = none →
      let trips := s.ticks :: (s.leg p).trips.filter (fun b => decide (s.ticks < b + secTicks 10))
      trips.length < s.nat Ent.FAST_RETRY_LIMIT (s.phaseGroup p) →
      ∃ t, exec (.phaseFastTrip p) s = .next t ∧ t.phase p = Pha.TRIPPED ∧ (t.leg p).trips = trips ∧ (t.leg p).tripFrame = s.frames ∧
        t.nat Ent.FAST_TRIP_COUNT p = s.nat Ent.FAST_TRIP_COUNT p + 1 ∧
        (s.mayRaise → ∃ q ∈ t.ev.log, q.code = Evt.PHASE_FAST_TRIP.code ∧ q.instNo = p ∧ q.param1 = trips.length ∧ q.param2 = s.phaseGroup p) ∧
        (t.conv (s.phaseGroup p)).trip = some (p.val, s.ticks)) ∧
    (s.phase p = Pha.TRIPPED → (s.leg p).tripFrame + s.nat Ent.FAST_TRIP_HOLD (s.nat Ent.PHASE_GROUP p) ≤ s.frames →
      let g := s.nat Ent.PHASE_GROUP p
      ∃ t, exec (.fastTripHoldEnd p) s = .next t ∧
        ((s.conv g).st = Grp.RUN → t.phase p = Pha.ADDING ∧ (t.leg p).adds = 0) ∧ ((s.conv g).st = Grp.TRIPPED → t = s) ∧
        ((s.conv g).st ≠ Grp.RUN → (s.conv g).st ≠ Grp.TRIPPED →
          t.phase p = Pha.OFF ∧ s.cellsKept t [Ent.PHASE_STATE.key p] ∧ { t with cells := s.cells, legs := s.legs } = s)) ∧
    (∀ cause : Nat, sickCause (s.leg p).sick = some cause → s.phase p = Pha.ON →
      ∃ t, exec (.phaseFailed p) s = .next t ∧ t.phase p = Pha.FAILED ∧ t.nat Ent.PHASE_CAUSE p = cause ∧
        (s.mayRaise → ∃ q ∈ t.ev.log, q.code = Evt.PHASE_FAILED.code ∧ q.instNo = p ∧ q.param1 = cause ∧
          q.param2 = word 32 (ratRound (s.sign (s.phaseGroup p) * s.legAmps p * 10)))) ∧
    (s.firing p = true → msTicks (s.nat Ent.OVERLOAD_TIME (s.phaseGroup p)) ≤ (s.leg p).overRun →
      ∃ t, exec (.phaseOverload p) s = .next t ∧ t.phase p = Pha.FAILED ∧ t.nat Ent.PHASE_CAUSE p = 6 ∧ (t.leg p).passed = false) ∧
    (∀ (c : Client) (v : Nat) (h : Held), s.accepts c Ent.PHASE_TEST p (.num v) h →
      (∀ r ∈ s.running, r.target ≠ Ent.PHASE_TEST.target p) →
      (s.phaseInService p = false → ∃ t, exec (.phaseTest c p v) s = .next t ∧ t.repliesWith h St.OK ∧ t.phase p = Pha.TESTING ∧
        (t.leg p).prior = s.phase p ∧ t.running = ⟨Ent.PHASE_TEST.target p, none, s.ticks⟩ :: s.running) ∧
      (s.phaseInService p = true → c.queue = false →
        ∃ t, exec (.phaseTest c p v) s = .next t ∧ t.repliesWith h St.CONFLICT ∧ t.running = s.running ∧ t.legs = s.legs)) ∧
    (∀ comparator : Bool, s.phase p = Pha.TESTING →
      let want := (s.vHigh (s.phaseGroup p) - s.vLow (s.phaseGroup p)) * 2 / 1000000 / s.rat Ent.L_PHASE p
      let got := s.chanMax (s.nat Ent.PHASE_I_MCH p)
      let good := comparator = true ∧ ratAbs (got - want) ≤ ratAbs want * 3 / 10
      ∃ t, exec (.phaseTestDone p comparator) s = .next t ∧ t.phase p = (s.leg p).prior ∧
        (good → t.nat Ent.PHASE_TEST_RESULT p = St.OK ∧ (t.leg p).passed = true) ∧
        (¬ good → t.nat Ent.PHASE_TEST_RESULT p = St.RANGE ∧ (t.leg p).passed = (s.leg p).passed)) ∧
    (∀ (c : Client) (v : Nat) (h : Held), s.accepts c Ent.PHASE_RESET p (.num v) h →
      (s.phase p ≠ Pha.FAILED → ∃ t, exec (.phaseReset c p v) s = .next t ∧ t.repliesWith h St.ALREADY_DONE ∧ t.legs = s.legs) ∧
      (s.phase p = Pha.FAILED → (s.leg p).passed = true ∨ (s.conv (s.phaseGroup p)).st ≠ Grp.RUN →
        ∃ t, exec (.phaseReset c p v) s = .next t ∧ t.repliesWith h St.OK ∧ t.phase p = Pha.SHED ∧ t.nat Ent.PHASE_CAUSE p = 0 ∧
          (t.leg p).trips = []) ∧
      (s.phase p = Pha.FAILED → (s.leg p).passed = false → (s.conv (s.phaseGroup p)).st = Grp.RUN →
        ∃ t, exec (.phaseReset c p v) s = .next t ∧ t.repliesWith h St.CONFLICT ∧ t.legs = s.legs))

/-- After the boundary of a frame whose number is a multiple of 50 a serving device starts sweep w = SFN/50 on its hop channel and
sends its beacons. In its slot a report a radio receives with a CRC that checks is counted and held, its alarm with it, and one that
acknowledges takes the monitor's aired commands away. The retry call names every enrolled monitor not heard, 44.05 ms into the sweep. A
join in its slot enrols the next index in enumeration; of the wrong string it fails the enumeration. Publication takes the sweep away. A
lost monitor's rope gets a wake burst every 10 s. -/
def Obligations.SweepsAreCalledReportedAndPublished : Prop :=
  ∀ (s : State),
    (s.cycle = 0 → s.tx.step = 5 → s.sfn % 50 = 0 → s.serving = true →
      ∃ t, exec .sweepStart s = .next t ∧ t.radio.cur = some (s.sfn / 50, hopChannel t.radio.map (s.sfn / 50)) ∧
        t.radio.due = s.radio.cur ∧ t.radio.start = s.nat Ent.SAMPLE_START ∧ t.radio.window = s.nat Ent.AVG_WINDOW ∧
        t.nat Ent.HOP_MAP_IN_USE = t.radio.map ∧
        (s.die.lkA = true ∨ s.die.lkB = true → t.time.flagPrebex = false) ∧
        (s.die.lkA = true → ∃ m ∈ t.out, m.port = .prebex ∧ m.dest = 0 ∧ m.kind = .beacon) ∧
        (s.die.lkB = true → ∃ m ∈ t.out, m.port = .prebex ∧ m.dest = 1 ∧ m.kind = .beacon)) ∧
    (∀ (k : Fin 256) (a : Air) (w ch : Nat), s.radio.cur = some (w, ch) → s.enrolled k = true → s.reportSlot w k = true →
      ∃ t, exec (.report k a) s = .next t ∧
        (∀ b : List Byte, (s.air a k).2 = some b → (t.mon k).got = some (w, reportOf b) ∧ (t.mon k).alarm = (reportOf b).alarm ∧
          ((reportOf b).ack = true → (s.mon k).wire = none →
            ∀ c ∈ t.radio.cmds, c.aired = true → c.broadcast = false → c.mon ≠ k.val)) ∧
        ((s.air a k).2 = none → t = (s.air a k).1) ∧
        (∀ x : AirCopy, a.copy0 = some x → a.copy1 = none → s.copyOk k x = true → s.die.lkA = true →
          s.nat Ent.RX_OK_0 + 1 < 2 ^ Ent.RX_OK_0.type.bits →
          t.nat Ent.RX_OK_0 = s.nat Ent.RX_OK_0 + 1 ∧ t.int Ent.RSSI_0 k = signed 16 (word 16 x.rssi))) ∧
    (∀ (w ch : Nat), s.radio.cur = some (w, ch) → s.sweepCycle w = 881 →
      let missed := ((List.range 256).filter s.enrolled).filter (fun k => ((s.mon k).got.map Prod.fst) != some w)
      let body := leBytes 36 (pack [(0, 16, w), (16, 256, ofBits missed), (272, 8, s.radio.joinMask)])
      ∃ t, exec .retryCall s = .next t ∧ t.radio.retry = some (w, ofBits missed) ∧
        (s.die.lkA = true → s.airMsg 0 ch .retryCall body ∈ t.out) ∧ (s.die.lkB = true → s.airMsg 1 ch .retryCall body ∈ t.out) ∧
        { t with out := s.out, radio := s.radio } = s) ∧
    (∀ (n : Fin 8) (a : Air) (b : List Byte) (w ch : Nat), s.radio.cur = some (w, ch) → bit s.radio.joinMask n = true →
      s.inSlot w (890 + 3 * (26 + n)) = true → (s.air a 0xFF).2 = some b →
      ((joinOf b).string ≠ n.val ∨ (joinOf b).version ≠ 3 →
        ∃ t, exec (.monitorJoin n a) s = .next t ∧ t.nat Ent.ROPE_STATE n = Rope.FAILED) ∧
      (∀ k : Nat, k = s.nat Ent.MONITOR_FIRST n + (s.rope n).joined → k < 256 → (joinOf b).string = n.val → (joinOf b).version = 3 →
        s.nat Ent.ROPE_STATE n = Rope.ENUMERATING → (s.rope n).joined < s.nat Ent.MONITOR_COUNT n →
        s.nat Ent.MONITOR_UID k = 0 ∨ s.nat Ent.MONITOR_UID k = (joinOf b).uid ∨ s.flag Ent.MONITOR_LOCK n = false →
        ∃ t, exec (.monitorJoin n a) s = .next t ∧ t.nat Ent.MONITOR_UID k = (joinOf b).uid ∧ t.nat Ent.MONITOR_STATE k = Mon.OK ∧
          t.nat Ent.MONITOR_STRING k = n ∧ t.nat Ent.CELL_COUNT k = min 16 (joinOf b).cells ∧
          (t.rope n).joined = (s.rope n).joined + 1)) ∧
    (∀ (w ch : Nat), s.cycle = 0 → s.radio.due = some (w, ch) → s.sfn = 50 * w + 52 →
      ∃ t, exec .sweepPublish s = .next t ∧ t.radio.due = none ∧
        ((∀ n, n < 8 → s.nat Ent.MONITOR_COUNT n = 0) →
          { t with radio := s.radio, stream := s.stream, cells := s.cells, ev := s.ev, free := s.free } = s)) ∧
    (∀ k : Fin 256, s.nat Ent.MONITOR_STATE k = Mon.LOST → (s.mon k).burstAt + secTicks 10 ≤ s.ticks →
      ∃ t, exec (.lostMonitorWakeBurst k) s = .next t ∧ (t.mon k).burstAt = s.ticks ∧
        t.out = s.out ++ [⟨.rope, s.nat Ent.MONITOR_STRING k, .wakeBurst, [], []⟩] ∧ { t with mons := s.mons, out := s.out } = s)

/-- An open rope whose carrier has stood for 20 frames closes and lets its string's coils go; a closed one without a rising edge for
250 µs opens and opens its join slot, and 1 ms later the coils of a string are held off. A wake burst wakes the device from SLEEP.
Re-enumeration unenrols the string's monitors and stops the carrier, unless a contactor is on (CONFLICT); the wake burst, the carrier's
start and the failure after 2 s without a join follow at their times. A replacement held is enrolled; with none held the answer is
ALREADY_DONE. -/
def Obligations.RopesCloseOpenAndEnumerate : Prop :=
  ∀ (s : State) (n : Fin 8),
    (msTicks 20 ≤ (s.rope n).run → s.nat Ent.ROPE_STATE n = Rope.OPEN ∨ (s.nat Ent.ROPE_STATE n = Rope.OFF ∧ (s.rope n).phase = 0) →
      ∃ t, exec (.ropeClosed n) s = .next t ∧ t.nat Ent.ROPE_STATE n = Rope.CLOSED ∧
        t.radio.joinMask = setBit s.radio.joinMask n false ∧ (t.str n).ropeOff = none ∧
        (∀ c ∈ s.coilsInUse n, c < 40 → (t.lcs c).rope = false)) ∧
    (msTicks 20 ≤ (s.rope n).run → s.nat Ent.ROPE_STATE n = Rope.ENUMERATING →
      (s.rope n).joined = s.nat Ent.MONITOR_COUNT n → (s.rope n).cells ≤ 416 →
      (List.range 8).foldl (fun a m => a + (if m == n.val then (s.rope n).cells else (s.cellsOf m).length)) 0 ≤ 3328 →
      ∃ t, exec (.ropeClosed n) s = .next t ∧ t.nat Ent.ROPE_STATE n = Rope.CLOSED ∧ t.nat Ent.CELLS_FITTED n = (s.rope n).cells ∧
        s.raised t Evt.ENUM_DONE n (s.rope n).joined (s.rope n).cells) ∧
    (s.nat Ent.ROPE_STATE n = Rope.CLOSED → s.ropeSeen n = false →
      ∃ t, exec (.ropeOpen n) s = .next t ∧ t.nat Ent.ROPE_STATE n = Rope.OPEN ∧
        t.radio.joinMask = setBit s.radio.joinMask n true ∧ (t.str n).ropeOff = some (s.ticks + 20)) ∧
    (∀ b : Nat, (s.str n).ropeOff = some b → b ≤ s.ticks →
      ∃ t, exec (.ropeCoilsOff n) s = .next t ∧ (t.str n).ropeOff = none ∧
        (∀ c ∈ s.heldCoils n, c < 40 → (t.lcs c).rope = true)) ∧
    (s.devState = Dev.SLEEP →
      ∃ t, exec (.ropeWake n) s = .next t ∧ t.devState = Dev.DEGRADED ∧ t.flag Ent.SLEEP_REQUEST = false ∧
        t.plant.carrierAt = some (s.ticks + msTicks 1200)) ∧
    (∀ (c : Client) (v : Nat) (h : Held), s.accepts c Ent.ROPE_REENUMERATE n (.num v) h →
      ((∃ x ∈ s.coilsInUse n, s.lcOn x = true) →
        ∃ t, exec (.ropeReenumerate c n v) s = .next t ∧ t.repliesWith h St.CONFLICT ∧ t.ropes = s.ropes ∧ t.radio = s.radio) ∧
      ((∀ x ∈ s.coilsInUse n, s.lcOn x = false) →
        ∃ t, exec (.ropeReenumerate c n v) s = .next t ∧ t.repliesWith h St.OK ∧ t.nat Ent.ROPE_STATE n = Rope.OFF ∧
          (t.rope n).phase = 1 ∧ (t.rope n).phaseAt = s.ticks ∧ (t.rope n).carrier = false ∧
          (∀ k ∈ s.monitorsOf n, t.nat Ent.MONITOR_STATE k = Mon.UNENROLLED) ∧
          t.out = s.out ++ [carrierMsg n false])) ∧
    ((s.rope n).phase = 1 → (s.rope n).phaseAt + msTicks 10 ≤ s.ticks →
      (∀ c ∈ s.radio.cmds, c.op = Com.ENUM_RESET → c.args = leBytes 1 n → 3 ≤ c.sends) →
      ∃ t, exec (.enumWakeBurst n) s = .next t ∧ t.rope n = { s.rope n with phase := 2, phaseAt := s.ticks } ∧
        t.out = s.out ++ [⟨.rope, n, .wakeBurst, [], []⟩] ∧ { t with ropes := s.ropes, out := s.out } = s) ∧
    ((s.rope n).phase = 2 → (s.rope n).phaseAt + msTicks 1200 ≤ s.ticks →
      ∃ t, exec (.enumCarrierStart n) s = .next t ∧ (t.rope n).phase = 3 ∧ (t.rope n).carrier = true ∧ (t.rope n).joinAt = s.ticks ∧
        t.nat Ent.ROPE_STATE n = Rope.ENUMERATING ∧ t.out = s.out ++ [carrierMsg n true] ∧
        s.cellsKept t [Ent.ROPE_STATE.key n]) ∧
    (s.nat Ent.ROPE_STATE n = Rope.ENUMERATING → (s.rope n).joinAt + secTicks 2 ≤ s.ticks →
      ∃ t, exec (.enumFail n) s = .next t ∧ t.nat Ent.ROPE_STATE n = Rope.FAILED ∧ (t.rope n).phase = 0 ∧
        s.raised t Evt.ENUM_FAIL n 0 (s.rope n).joined) ∧
    (∀ (c : Client) (v : Nat) (h : Held), s.accepts c Ent.ACCEPT_REPLACEMENT n (.num v) h →
      ((s.rope n).held = none →
        ∃ t, exec (.acceptReplacement c n v) s = .next t ∧ t.repliesWith h St.ALREADY_DONE ∧ t.ropes = s.ropes) ∧
      (∀ (k : Nat) (j : Join), (s.rope n).held = some (k, j) → k < 256 →
        ∃ t, exec (.acceptReplacement c n v) s = .next t ∧ t.repliesWith h St.OK ∧ t.nat Ent.MONITOR_UID k = j.uid ∧
          (t.rope n).held = none ∧ t.nat Ent.ROPE_STATE n = (if (s.rope n).phase = 3 then Rope.ENUMERATING else Rope.OPEN)))

/-- ALARM_RESET of a monitor without alarm answers ALREADY_DONE, of one beyond its limits CONFLICT, else the command is
queued for it. A monitor test begins with wire 0 when its string is disconnected or it belongs to none, and answers CONFLICT when the
string is connected. A suspicion without result for 10 sweeps is a confirmed break: wire, frame and event. A wire broken for 24 h
demands service of its string, cause 9. -/
def Obligations.MonitorsAreResetTestedAndJudged : Prop :=
  ∀ (s : State) (k : Fin 256),
    (∀ (c : Client) (v : Nat) (h : Held), s.accepts c Ent.ALARM_RESET k (.num v) h →
      ((s.mon k).alarm = false →
        ∃ t, exec (.alarmReset c k v) s = .next t ∧ t.repliesWith h St.ALREADY_DONE ∧ t.radio = s.radio) ∧
      (∀ n, (s.mon k).alarm = true → s.stringOf k = some n → s.beyondLimits n k = true →
        ∃ t, exec (.alarmReset c k v) s = .next t ∧ t.repliesWith h St.CONFLICT ∧ t.radio = s.radio) ∧
      ((s.mon k).alarm = true → (∀ n, s.stringOf k = some n → s.beyondLimits n k = false) →
        ∃ t, exec (.alarmReset c k v) s = .next t ∧ t.repliesWith h St.OK ∧
          t.radio.cmds = s.radio.cmds ++ [⟨Com.RESET_ALARM, k, [], false, 0, false⟩])) ∧
    (∀ (c : Client) (v : Nat) (h : Held), s.accepts c Ent.MONITOR_TEST k (.num v) h →
      (∀ r ∈ s.running, r.target ≠ Ent.MONITOR_TEST.target k) →
      ((∀ n, s.stringOf k = some n → carrying (s.strState n) = false ∧ s.strState n ≠ Str.WELD_CHECK) →
        ∃ t, exec (.monitorTest c k v) s = .next t ∧ t.repliesWith h St.OK ∧ (t.mon k).test = some 0 ∧
          t.running = ⟨Ent.MONITOR_TEST.target k, none, s.ticks⟩ :: s.running ∧
          t.radio.cmds = s.radio.cmds ++ [⟨Com.OPEN_WIRE_TEST, k, leBytes 1 0, false, 0, false⟩]) ∧
      (∀ n, s.stringOf k = some n → s.strState n = Str.CONNECTED → c.queue = false →
        ∃ t, exec (.monitorTest c k v) s = .next t ∧ t.repliesWith h St.CONFLICT ∧ t.mons = s.mons ∧ t.running = s.running)) ∧
    (∀ (wire : Fin 17) (x : Suspect) (w ch : Nat), (s.mon k).suspects.find? (fun y => y.wire == wire.val) = some x →
      s.radio.cur = some (w, ch) → x.sweep + 10 ≤ w →
      ∃ t, exec (.senseBreakTimeout k wire) s = .next t ∧ t.nat Ent.WIRE_STATE k = setBit (s.nat Ent.WIRE_STATE k) wire true ∧
        t.nat Ent.BREAK_SFN k = s.sfn ∧ (∀ y ∈ (t.mon k).suspects, y.wire ≠ wire.val) ∧
        (s.stringOf k = none → s.raised t Evt.SENSE_BREAK k wire (word 32 x.bound))) ∧
    (∀ n, s.stringOf k = some n → bitsOf 17 (s.nat Ent.WIRE_STATE k) ≠ [] → s.nat Ent.BREAK_SFN k + 86400000 ≤ s.sfn →
      9 ∉ (s.str n).causes →
      ∃ t, exec (.serviceDemanded k) s = .next t ∧
        (s.strState n = Str.DISABLED →
          s.raised t Evt.SERVICE_DEMANDED n k ((bitsOf 17 (s.nat Ent.WIRE_STATE k)).headD 0) ∧ { t with ev := s.ev } = s) ∧
        (s.strState n ≠ Str.DISABLED → 9 ∈ (t.str n).causes))

/-- An accepted request is held; 0 on a connected string opens it. At a boundary a string whose preconditions hold begins
step 1; a voltage that disagrees with its cells ends the connection, a difference below 60 V starts pre-charge
unchecked; a rise in step 2 or 3 is a weld; charged not before the least time it closes, and once the pre-charge coil has been off for
20 ms and it is still charged it is CONNECTED and counted. Two cycles below OPEN_CURRENT, or OPEN_TIMEOUT, turn the coils off into
WELD_CHECK; a voltage that stays locks the string out by cause 13, else it is OPEN. -/
def Obligations.StringsConnectAndOpen : Prop :=
  ∀ (s : State) (n : Fin 8),
    (∀ (c : Client) (h : Held), s.accepts c Ent.STRING_REQUEST n (.num 0) h →
      ∃ t, exec (.stringRequest c n 0) s = .next t ∧ t.repliesWith h St.OK ∧ t.flag Ent.STRING_REQUEST n = false ∧
        (s.strState n = Str.CONNECTED → 1 ∉ (s.str n).causes →
          t.strState n = Str.OPENING ∧ (t.str n).why = 1 ∧ (t.str n).openAt = s.ticks ∧ t.nat Ent.LAST_OPEN_SFN n = s.sfn)) ∧
    (∀ (c : Client) (h : Held), s.accepts c Ent.STRING_REQUEST n (.num 1) h →
      ∃ t, exec (.stringRequest c n 1) s = .next t ∧ t.repliesWith h St.OK ∧ t.flag Ent.STRING_REQUEST n = true ∧
        (s.devState ≠ Dev.SLEEP → t.strs = s.strs)) ∧
    (∀ (c : Client) (v : Nat) (h : Held), s.accepts c Ent.STRING_DERATE n (.num v) h →
      ∃ t, exec (.stringDerate c n v) s = .next t ∧ t.repliesWith h St.OK ∧ t.int Ent.STRING_DERATE n = v ∧ t.strs = s.strs) ∧
    (s.cycle = 0 → s.mayConnect n true = true → s.holdoffOver n = true → s.strState n = Str.OPEN →
      ∃ t, exec (.stringConnectStart n) s = .next t ∧ t.strState n = Str.CHECKING ∧ (t.str n).step = 1 ∧ (t.str n).stepAt = s.ticks ∧
        (t.str n).coils = s.coilsOf n) ∧
    ((s.str n).step = 1 → s.strState n = Str.CHECKING → (s.str n).stepAt + msTicks 100 ≤ s.ticks →
      let off := ratAbs (s.strVolts n - s.cellSum n)
      (((s.nat Ent.STRING_TOL : Nat) : Rat) / 1000 < off → (s.str n).lock = 0 → s.strEnabled n = true →
        ∃ t, exec (.stringConnectStep n) s = .next t ∧ t.strState n = Str.OPEN ∧ (t.str n).step = 0) ∧
      (off ≤ ((s.nat Ent.STRING_TOL : Nat) : Rat) / 1000 → s.strVolts n - s.vString n < 60 →
        ∃ t, exec (.stringConnectStep n) s = .next t ∧ t.strState n = Str.PRECHARGING ∧ (t.str n).step = 4 ∧ (t.str n).unchecked = true) ∧
      (off ≤ ((s.nat Ent.STRING_TOL : Nat) : Rat) / 1000 → 60 ≤ s.strVolts n - s.vString n →
        ∃ t, exec (.stringConnectStep n) s = .next t ∧ t.strState n = Str.CHECKING ∧ (t.str n).step = 2 ∧ (t.str n).vc0 = s.vString n)) ∧
    ((s.str n).step = 2 ∨ (s.str n).step = 3 → s.strState n = Str.CHECKING → (s.str n).rose = true ∨ s.risesNow n = true →
      (s.str n).lock = 0 →
      ∃ t, exec (.stringConnectStep n) s = .next t ∧ t.strState n = Str.LOCKED_OUT ∧ (t.str n).lock = 13 ∧
        t.nat Ent.LAST_OPEN_CAUSE n = 13) ∧
    ((s.str n).step = 3 → s.strState n = Str.CHECKING → (s.str n).rose = false → s.risesNow n = false →
      (s.str n).stepAt + msTicks 100 ≤ s.ticks →
      ∃ t, exec (.stringConnectStep n) s = .next t ∧ t.strState n = Str.PRECHARGING ∧ (t.str n).step = 4 ∧ (t.str n).preAt = s.ticks) ∧
    ((s.str n).step = 4 → s.strState n = Str.PRECHARGING → s.charged n = true → (s.str n).reached = none →
      (s.str n).stepAt + msTicks (s.nat Ent.PRECHARGE_T_MIN n) ≤ s.ticks →
      ∃ t, exec (.stringConnectStep n) s = .next t ∧ t.strState n = Str.CLOSING ∧ (t.str n).step = 5 ∧
        (t.str n).preMs = (s.ticks - (s.str n).stepAt) / 20) ∧
    (∀ b : Nat, (s.str n).step = 5 → s.strState n = Str.CLOSING → s.charged n = true → (s.str n).offAt = some b →
      b + msTicks 20 ≤ s.ticks → s.nat Ent.CONNECT_COUNT n + 1 < 2 ^ Ent.CONNECT_COUNT.type.bits →
      ∃ t, exec (.stringConnectStep n) s = .next t ∧ t.strState n = Str.CONNECTED ∧
        t.nat Ent.CONNECT_COUNT n = s.nat Ent.CONNECT_COUNT n + 1 ∧
        s.raised t Evt.STRING_CONNECTED n (s.str n).preMs (tenthWord (s.strVolts n))) ∧
    (s.strState n = Str.OPENING → (s.str n).ropeOff = none → 60 ≤ s.strVolts n - s.strFloor n →
      (2 ≤ (s.str n).lowRun → ∃ t, exec (.stringCoilsOff n) s = .next t ∧ t.strState n = Str.WELD_CHECK ∧
        (t.str n).lastOpen = some s.ticks ∧ t.nat Ent.STRING_LIMIT_DIS n = 0 ∧ t.nat Ent.STRING_LIMIT_CHG n = 0) ∧
      ((s.str n).openAt + msTicks (s.nat Ent.OPEN_TIMEOUT n) ≤ s.ticks →
        ∃ t, exec (.stringForcedOpen n) s = .next t ∧ t.strState n = Str.WELD_CHECK ∧
          (s.mayRaise → ∃ q ∈ t.ev.log, q.code = Evt.STRING_FORCED_OPEN.code ∧ q.instNo = n ∧ q.param1 = tenthWord (s.strAmps n) ∧
            q.param2 = (s.str n).why))) ∧
    (s.strState n = Str.WELD_CHECK → (s.str n).stateAt + msTicks (s.nat Ent.WELD_CHECK_TIME n) ≤ s.ticks → (s.str n).lock = 0 →
      ((s.strVolts n - s.strFloor n) / 2 < s.vString n - s.strFloor n →
        ∃ t, exec (.weldCheckEnd n) s = .next t ∧ t.strState n = Str.LOCKED_OUT ∧ (t.str n).lock = 13 ∧ 13 ∈ (t.str n).causes ∧
          (t.str n).tested = false) ∧
      (s.vString n - s.strFloor n ≤ (s.strVolts n - s.strFloor n) / 2 →
        ∃ t, exec (.weldCheckEnd n) s = .next t ∧ t.strState n = (if s.strEnabled n then Str.OPEN else Str.DISABLED) ∧ t.ev = s.ev))

/-- On a connected string over-current (cause 6, which latches and is reported), a lasting insulation fault (10) and a lost
current channel (11) each begin an opening. A cause that does not latch goes once it has cleared. STRING_RESET answers
ALREADY_DONE unless locked out, CONFLICT while a weld is untested, else the lock goes. An idle string is put under
test, one in service answers CONFLICT; a test without a rise ends OK, one with a rise RANGE. -/
def Obligations.StringsTripAndAreReset : Prop :=
  ∀ (s : State) (n : Fin 8),
    (s.strState n = Str.CONNECTED →
      (10 ≤ (s.str n).overRun → 6 ∉ (s.str n).causes → (s.str n).lock = 0 →
        ∃ t, exec (.stringOverCurrent n) s = .next t ∧ t.strState n = Str.OPENING ∧ 6 ∈ (t.str n).causes ∧ (t.str n).lock = 6 ∧
          t.nat Ent.LAST_OPEN_CAUSE n = 6) ∧
      (∀ b : Nat, (s.str n).isoLow = some b → b + secTicks (s.nat Ent.ISO_FAULT_TIME n) ≤ s.ticks → 10 ∉ (s.str n).causes →
        ∃ t, exec (.stringInsulationFault n) s = .next t ∧ t.strState n = Str.OPENING ∧ 10 ∈ (t.str n).causes ∧ (t.str n).why = 10) ∧
      (20 ≤ (s.str n).badRun → 11 ∉ (s.str n).causes →
        ∃ t, exec (.stringCurrentSenseLost n) s = .next t ∧ t.strState n = Str.OPENING ∧ 11 ∈ (t.str n).causes ∧
          t.nat Ent.LAST_OPEN_CAUSE n = 11)) ∧
    (∀ cause : Fin 17, s.causeCleared n cause = true → latching cause = false →
      ∃ t, exec (.stringCauseCleared n cause) s = .next t ∧ cause.val ∉ (t.str n).causes ∧ { t with strs := s.strs } = s) ∧
    (∀ (c : Client) (v : Nat) (h : Held), s.accepts c Ent.STRING_RESET n (.num v) h →
      (s.strState n ≠ Str.LOCKED_OUT →
        ∃ t, exec (.stringReset c n v) s = .next t ∧ t.repliesWith h St.ALREADY_DONE ∧ t.strs = s.strs) ∧
      (s.strState n = Str.LOCKED_OUT → 13 ∈ (s.str n).causes → (s.str n).tested = false →
        ∃ t, exec (.stringReset c n v) s = .next t ∧ t.repliesWith h St.CONFLICT ∧ t.strs = s.strs) ∧
      (s.strState n = Str.LOCKED_OUT → (∀ x ∈ (s.str n).causes, x = 13 ∨ (latching x = false ∧ x ≠ 12)) →
        (13 ∈ (s.str n).causes → (s.str n).tested = true) →
        ∃ t, exec (.stringReset c n v) s = .next t ∧ t.repliesWith h St.OK ∧ (t.str n).lock = 0 ∧ (t.str n).fails = [] ∧
          t.strState n = (if s.strEnabled n then Str.OPEN else Str.DISABLED))) ∧
    (∀ (c : Client) (v : Nat) (h : Held), s.accepts c Ent.STRING_TEST n (.num v) h →
      (∀ r ∈ s.running, r.target ≠ Ent.STRING_TEST.target n) →
      (s.strInService n = false →
        ∃ t, exec (.stringTest c n v) s = .next t ∧ t.repliesWith h St.OK ∧ t.strState n = Str.TESTING ∧ (t.str n).step = 1 ∧
          t.running = ⟨Ent.STRING_TEST.target n, none, s.ticks⟩ :: s.running) ∧
      (s.strInService n = true → c.queue = false →
        ∃ t, exec (.stringTest c n v) s = .next t ∧ t.repliesWith h St.CONFLICT ∧ t.strs = s.strs ∧ t.running = s.running)) ∧
    (s.strState n = Str.TESTING → (s.str n).step = 4 →
      ∃ t, exec (.stringTestDone n) s = .next t ∧
        t.nat Ent.STRING_TEST_RESULT n = (if (s.str n).rises = 0 then St.OK else St.RANGE) ∧
        ((s.str n).rises = 0 → (t.str n).tested = true) ∧
        ((s.str n).lock = 0 → t.strState n = (if s.strEnabled n then Str.OPEN else Str.DISABLED)) ∧
        ((s.str n).lock ≠ 0 → t.strState n = Str.LOCKED_OUT))

/-- An accepted EST_RESET marks every cell of the string and answers OK. At cycle 0 of frame 50w + 60 a run becomes the
previous one and is over. A string that balances and whose last sweep was complete is selected, and its 60 s begin. A
string whose 20 runs are done is stored while a half of ST works and counts anew; the others wait. -/
def Obligations.EstimatesAreCommittedAndStored : Prop :=
  ∀ (s : State),
    (∀ (c : Client) (n v : Nat) (h : Held), s.accepts c Ent.EST_RESET n (.num v) h →
      ∃ t, exec (.estReset c n v) s = .next t ∧ t.repliesWith h St.OK ∧
        (∀ p ∈ s.cellsOf n, t.cell p.1 p.2 = { s.cell p.1 p.2 with reset := true }) ∧
        s.raised t Evt.CELL_STATE_RESET n (match s.cellsOf n with | p :: _ => s.cellNumber n p.1 p.2 | [] => 0) 1) ∧
    (s.cycle = 0 →
      ∃ t, exec .estimateCommit s = .next t ∧ t.ticks = s.ticks ∧
        ∀ (n : Fin 8) (r : EstRun), (s.est n).run = some r → s.sfn = 50 * r.sweep + 60 → s.late (0x0540 + n) = false →
          (∀ m, m < 8 → m ≠ n.val → (s.est m).run = none) → (t.est n).run = none ∧ (t.est n).prev = some r) ∧
    (s.serving = true →
      ∃ t, exec .balanceSelection s = .next t ∧ ∀ n, n < 8 → s.flag Ent.BALANCE_ENABLE n = true →
        bit (s.nat Ent.SWEEP_STATUS n) 0 = true → (s.est n).balanceAt = 0 ∨ (s.est n).balanceAt + secTicks 60 ≤ s.ticks →
        (t.est n).balanceAt = s.ticks) ∧
    (∃ t, exec .estimatorStore s = .next t ∧ ∀ n, n < 8 →
      (20 ≤ (s.est n).runs → s.stored = true → (t.est n).runs = 0 ∧ (t.est n).x1 = (s.est n).x1) ∧
      ((s.est n).runs < 20 ∨ s.stored = false → t.est n = s.est n))

/-- The windows of a running die's result block are taken into their channels when its CRC checks and its stamp is the running window's;
one that comes late is a deadline miss and is not taken, one that fails its check or stamp is not acted on. A dwell that ends passes the
spare on. A table due for rebuilding is built at the boundary when the demand fits. A slice a check fails is retired, with event
SLICE_RETIRED. A trigger at the level starts a capture on the idle die, and is refused within the hold-off; a forced
one does the same when armed. A capture done is counted, kept, and begins the hold-off. -/
def Obligations.ConversionsBanksAndCaptures : Prop :=
  ∀ (s : State),
    (∀ (die : Fin 2) (b : BlockIn) (ws : List Window), s.meterRunning die = true → s.meterFailed die = false →
      (s.blockGood b = true → b.arrived ≤ 4000 →
        ∃ t, exec (.resultBlock die b ws) s = .next t ∧
          ∀ w ∈ ws, w.ch < 96 → ws.filter (fun x => x.ch == w.ch) = [w] →
            ((t.chanSt w.ch).die die).conversions = (w.convs.filter (fun c => s.sliceCounts die c)).length ∧
            ((t.chanSt w.ch).die die).at_ = s.ticks ∧
            (w.sequence = true → ((t.chanSt w.ch).die die).sequence = some s.ticks)) ∧
      (s.blockGood b = true → 4000 < b.arrived → s.nat Ent.DEADLINE_MISS_COUNT + 1 < 2 ^ Ent.DEADLINE_MISS_COUNT.type.bits →
        ∃ t, exec (.resultBlock die b ws) s = .next t ∧ t.nat Ent.DEADLINE_MISS_COUNT = s.nat Ent.DEADLINE_MISS_COUNT + 1 ∧
          t.meas.chans = s.meas.chans) ∧
      (s.blockGood b = false → ∃ t, exec (.resultBlock die b ws) s = .next t ∧ { t with meters := s.meters } = s)) ∧
    (∀ (bank : Fin 4) (r : SpareCal) (i : Nat), (s.bank bank).spare = some i → s.cycle = 0 →
      (s.bank bank).dwell + 20 * s.nat Ent.SPARE_DWELL ≤ s.ticks → r.skew.natAbs ≤ 200 →
      ∃ t, exec (.spareDwellEnd bank r) s = .next t ∧ t.bank bank = ⟨s.nextSpare bank i, s.ticks⟩ ∧
        (r.refDiff ≤ 500 → t.ev = s.ev ∧ t.die = s.die) ∧
        (500 < r.refDiff → s.meterFailed (bank / 2) = false → t.meterFailed (bank / 2) = true)) ∧
    (∀ die : Fin 2, (if die.val = 0 then s.meas.rebuild0 else s.meas.rebuild1) = true → s.cycle = 0 →
      let full := demandOf (fun ch => s.nat Ent.MCH_CLASS ch) false
      ∃ t, exec (.slotTableRebuild die) s = .next t ∧ (if die.val = 0 then t.meas.rebuild0 else t.meas.rebuild1) = false ∧
        (full ≤ 240 * s.dieSlices die → full < 2 ^ Ent.DEMAND_M0.type.bits →
          t.nat (if die.val = 0 then Ent.DEMAND_M0 else Ent.DEMAND_M1) = full ∧ t.ev = s.ev ∧
          (∀ ch, ch < 96 → s.nat Ent.MCH_CLASS ch = 0 → t.int Ent.MCH_STAGGER ch = 0)) ∧
        (240 * s.dieSlices die < full → (if die.val = 0 then t.meas.reduced0 else t.meas.reduced1) = true)) ∧
    (∀ (bank : Fin 4) (slice : Fin 9) (k : SliceCheck) (cause : Nat), retireCause k = some cause → s.meterRunning (bank / 2) = true →
      s.checkable bank slice k = true → s.retired bank slice = false →
      ∃ t, exec (.sliceRetired bank slice k) s = .next t ∧
        t.nat Ent.RETIRED_MASK bank = setBit (s.nat Ent.RETIRED_MASK bank) slice true ∧ t.bank bank = ⟨none, s.ticks⟩ ∧
        Tab.find t.meas.gone (9 * bank + slice) = some (s.ticks, cause)) ∧
    (∀ (x ns d : Nat), s.flag Ent.CAPTURE_ARM = true → F32.special x = false → s.rat Ent.CAPTURE_LEVEL ≤ ratAbs (F32.toRat x) →
      (s.ticks < s.meas.captureHold ∨ s.meas.capture.isSome = true → ∃ t, exec (.captureTrigger x ns) s = .next t ∧ t.meas = s.meas ∧
        s.raised t Evt.CAPTURE_REFUSED (s.nat Ent.CAPTURE_CHANNEL) 2 0) ∧
      (s.meas.captureHold ≤ s.ticks → s.meas.capture = none → s.idleDie = some d → (s.activeSlices (2 * d)).length = 8 →
        (s.activeSlices (2 * d + 1)).length = 8 → s.meas.rebuild0 = false → s.meas.rebuild1 = false →
        ∃ t, exec (.captureTrigger x ns) s = .next t ∧
          t.meas.capture = some ⟨d, s.nat Ent.CAPTURE_CHANNEL, false, s.sfn, ns, low 32 x⟩ ∧ { t with meas := s.meas } = s)) ∧
    (∀ (c : Client) (v : Nat) (h : Held), s.accepts c Ent.CAPTURE_FORCE 0 (.num v) h →
      ∃ t, exec (.captureForce c v) s = .next t ∧ t.repliesWith h St.OK ∧
        (s.flag Ent.CAPTURE_ARM = false → t.meas = s.meas ∧ t.ev = s.ev) ∧
        (∀ d, s.flag Ent.CAPTURE_ARM = true → s.meas.captureHold ≤ s.ticks → s.meas.capture = none → s.idleDie = some d →
          (s.activeSlices (2 * d)).length = 8 → (s.activeSlices (2 * d + 1)).length = 8 → s.meas.rebuild0 = false →
          s.meas.rebuild1 = false →
          t.meas.capture = some ⟨d, s.nat Ent.CAPTURE_CHANNEL, true, s.sfn, 0, s.nat Ent.MCH_VALUE (s.nat Ent.CAPTURE_CHANNEL)⟩)) ∧
    (∀ (d : CaptureData) (k : Capture), s.meas.capture = some k → s.nat Ent.CAPTURE_COUNT + 1 < 2 ^ Ent.CAPTURE_COUNT.type.bits →
      ∃ t, exec (.captureDone d) s = .next t ∧ t.meas.capture = none ∧ t.nat Ent.CAPTURE_COUNT = s.nat Ent.CAPTURE_COUNT + 1 ∧
        t.meas.captureHold = s.ticks + 20 * s.nat Ent.CAPTURE_HOLDOFF ∧
        t.meas.captures.head?.map Prod.fst = some (s.nat Ent.CAPTURE_COUNT + 1) ∧ t.meas.captures.length ≤ 16)

/-- A calibration that names no die answers RANGE; one of a legal channel under its seal DENIED_SEAL; one of an idle
channel starts with its command and answers OK; a channel in service answers CONFLICT: so each of CAL_ZERO, CAL_SPAN and CAL_RESTORE.
When at a boundary every die named has its frames it is over, its result shown. An open-input test of an idle channel runs, and after 400
ticks ends with what the movement of each input shows. -/
def Obligations.ChannelsAreCalibratedAndTested : Prop :=
  ∀ (s : State),
    (∀ (c : Client) (ch dies reference : Nat) (h : Held), F32.special (low 32 reference) = false →
      (s.accepts c Ent.MCH_CAL_REQUEST ch (.bytes (calBytes 1 dies reference)) h →
        (s.mayCal ch dies → s.chanInService ch = false → ∃ t, exec (.calZero c ch dies reference) s = .next t ∧ s.startsCal t h ch 1 dies reference) ∧
        (s.mayCal ch dies → s.flag Ent.MCH_LEGAL ch = false → s.chanInService ch = true → c.queue = false →
          ∃ t, exec (.calZero c ch dies reference) s = .next t ∧ s.refusesCal t h St.CONFLICT) ∧
        (¬ (1 ≤ dies ∧ dies ≤ 3) → ∃ t, exec (.calZero c ch dies reference) s = .next t ∧ s.refusesCal t h St.RANGE) ∧
        (1 ≤ dies → dies ≤ 3 → s.flag Ent.MCH_LEGAL ch = true → s.flag Ent.LEGAL_SEAL_STATE = false →
          ∃ t, exec (.calZero c ch dies reference) s = .next t ∧ s.refusesCal t h St.DENIED_SEAL)) ∧
      (s.accepts c Ent.MCH_CAL_REQUEST ch (.bytes (calBytes 2 dies reference)) h →
        (s.mayCal ch dies → s.chanInService ch = false → ∃ t, exec (.calSpan c ch dies reference) s = .next t ∧ s.startsCal t h ch 2 dies reference) ∧
        (s.mayCal ch dies → s.flag Ent.MCH_LEGAL ch = false → s.chanInService ch = true → c.queue = false →
          ∃ t, exec (.calSpan c ch dies reference) s = .next t ∧ s.refusesCal t h St.CONFLICT) ∧
        (¬ (1 ≤ dies ∧ dies ≤ 3) → ∃ t, exec (.calSpan c ch dies reference) s = .next t ∧ s.refusesCal t h St.RANGE) ∧
        (1 ≤ dies → dies ≤ 3 → s.flag Ent.MCH_LEGAL ch = true → s.flag Ent.LEGAL_SEAL_STATE = false →
          ∃ t, exec (.calSpan c ch dies reference) s = .next t ∧ s.refusesCal t h St.DENIED_SEAL)) ∧
      (s.accepts c Ent.MCH_CAL_REQUEST ch (.bytes (calBytes 3 dies reference)) h →
        (s.mayCal ch dies → s.chanInService ch = false → ∃ t, exec (.calRestore c ch dies reference) s = .next t ∧ s.startsCal t h ch 3 dies reference) ∧
        (s.mayCal ch dies → s.flag Ent.MCH_LEGAL ch = false → s.chanInService ch = true → c.queue = false →
          ∃ t, exec (.calRestore c ch dies reference) s = .next t ∧ s.refusesCal t h St.CONFLICT) ∧
        (¬ (1 ≤ dies ∧ dies ≤ 3) → ∃ t, exec (.calRestore c ch dies reference) s = .next t ∧ s.refusesCal t h St.RANGE) ∧
        (1 ≤ dies → dies ≤ 3 → s.flag Ent.MCH_LEGAL ch = true → s.flag Ent.LEGAL_SEAL_STATE = false →
          ∃ t, exec (.calRestore c ch dies reference) s = .next t ∧ s.refusesCal t h St.DENIED_SEAL))) ∧
    (∀ (ch : Fin 96) (k : Calib), s.meas.calibs.find? (fun x => x.ch == ch.val) = some k → s.cycle = 0 →
      (∀ d ∈ k.named, k.frames ≤ (k.means d).length) →
      ∃ t, exec (.calDone ch) s = .next t ∧ (∀ x ∈ t.meas.calibs, x.ch ≠ ch.val) ∧
        ((∃ d ∈ k.named, (s.calResult k d).2.2 = false) → t.nat Ent.MCH_CAL_RESULT ch = St.RANGE) ∧
        ((∀ d ∈ k.named, (s.calResult k d).2.2 = true) → s.calAgrees k = true →
          t.nat Ent.MCH_CAL_RESULT ch = St.OK ∧ t.nat Ent.CAL_SFN ch = s.sfn)) ∧
    (∀ (c : Client) (ch v : Nat) (h : Held), s.accepts c Ent.MCH_OPEN_TEST ch (.num v) h → s.chanTested ch = false →
      (s.chanInService ch = false → ∃ t, exec (.mchOpenTest c ch v) s = .next t ∧ t.repliesWith h St.OK ∧
        t.running = ⟨Ent.MCH_OPEN_TEST.target ch, none, s.ticks⟩ :: s.running ∧ t.meas = s.meas) ∧
      (s.chanInService ch = true → c.queue = false →
        ∃ t, exec (.mchOpenTest c ch v) s = .next t ∧ t.repliesWith h St.CONFLICT ∧ t.running = s.running)) ∧
    (∀ (ch : Fin 96) (pos neg : Nat) (r : RunTest), s.running.find? (fun x => x.target == Ent.MCH_OPEN_TEST.target ch) = some r →
      r.since + 400 ≤ s.ticks →
      let open_ := b2n (decide (50000 < pos)) + 2 * b2n (decide (50000 < neg))
      ∃ t, exec (.openTestDone ch pos neg) s = .next t ∧ (∀ x ∈ t.running, x.target ≠ Ent.MCH_OPEN_TEST.target ch) ∧
        t.nat Ent.MCH_TEST_RESULT ch = (if open_ = 0 then St.OK else St.RANGE) ∧
        (r.slot = none → s.raised t Evt.OPEN_TEST_DONE ch (if open_ = 0 then St.OK else St.RANGE) open_))

/-- A metering die commits at the end of cycle 19, or of every cycle after a power cut, dated by LAST_COMMIT_SFN; one that does not meter
commits nothing. After CROSS_WINDOW frames the windows are judged and
begin anew. A peak reset clears the peak. An over-current that lasts OC_TIME is counted and reported once, and its end
reported. A power cut writes the backup time and the sump, stops a die 4.8 ms later with a last commit, and its release
ends the cut. -/
def Obligations.MetersCommitCompareAndFlush : Prop :=
  ∀ (s : State),
    (∀ (die : Fin 2) (ws : List Window),
      (s.metering die = true → s.commitsNow = true → (s.commitOf die).ns < s.instant 50000 →
        ∃ t, exec (.meterCommit die ws) s = .next t ∧ t.nat Ent.LAST_COMMIT_SFN = s.sfn ∧ (t.commitOf die).ns = s.instant 50000 ∧
          (t.commitOf die).sfn = s.sfn) ∧
      (s.metering die = false → exec (.meterCommit die ws) s = .next s)) ∧
    (∃ t, exec .crossCheckWindow s = .next t ∧ (s.legal.crossFrames < s.nat Ent.CROSS_WINDOW → t = s) ∧
      (s.nat Ent.CROSS_WINDOW ≤ s.legal.crossFrames → t.legal = { s.legal with crossFrames := 0 })) ∧
    (∀ (c : Client) (pt v : Nat) (h : Held), s.accepts c Ent.PEAK_RESET pt (.num v) h →
      ∃ t, exec (.peakReset c pt v) s = .next t ∧ t.repliesWith h St.OK ∧ t.nat Ent.PEAK_I pt = 0 ∧ t.nat Ent.PEAK_SFN pt = 0) ∧
    (∀ (pt : Fin 17) (leg : Fin 3) (x : OverSt), Tab.find s.overs (4 * pt.val + leg.val) = some x →
      (x.now = true → x.told = false → x.since + msTicks (s.nat Ent.OC_TIME pt) ≤ s.ticks →
        s.nat Ent.OC_COUNT pt + 1 < 2 ^ Ent.OC_COUNT.type.bits →
        ∃ t, exec (.overcurrent pt leg) s = .next t ∧ t.nat Ent.OC_COUNT pt = s.nat Ent.OC_COUNT pt + 1 ∧
          Tab.find t.overs (4 * pt.val + leg.val) = some { x with told := true } ∧
          s.raised t Evt.OVERCURRENT pt (s.legPhase pt leg)
            (ratRound (ratAbs ((s.meter (s.billSource pt) pt).amps.getD leg 0) * 10)).toNat ∧
          s.cellsKept t [Ent.OC_COUNT.key pt]) ∧
      (x.told = true → x.now = false →
        ∃ t, exec (.overcurrentEnd pt leg) s = .next t ∧ Tab.find t.overs (4 * pt.val + leg.val) = none ∧
          s.raised t Evt.OVERCURRENT_END pt (s.legPhase pt leg) ((x.till - x.since) / 20) ∧
          { t with ev := s.ev, overs := s.overs } = s)) ∧
    (∀ (offset : Nat) (flushes : List Flush), s.legal.pfw = none → s.devState ≠ Dev.OFF → s.devState ≠ Dev.SHIP →
      s.die.ca = .active ∨ s.die.cb = .active →
      ∃ t, exec (.pfwAssert offset flushes) s = .next t ∧ t.legal.pfw = some (s.ticks, offset) ∧ t.legal.cycling = true ∧
        t.time.backupSfn = s.sfn ∧ t.nat Ent.LAST_FLUSH_SFN = s.sfn ∧ t.plant.sump.isSome = true) ∧
    (∀ (die : Fin 2) (ws : List Window) (b off : Nat), s.legal.pfw = some (b, off) → b + 96 ≤ s.ticks → s.metering die = true →
      ∃ t, exec (.meterStop die ws) s = .next t ∧ (if die.val = 0 then t.legal.stop0 else t.legal.stop1) = true ∧
        t.nat Ent.LAST_COMMIT_SFN = s.sfn ∧ bit t.bill.bits 1 = true) ∧
    (s.legal.pfw.isSome = true →
      ∃ t, exec .pfwRelease s = .next t ∧ t.legal.pfw = none ∧ t.legal.stop0 = s.legal.stop0 ∧ t.legal.stop1 = s.legal.stop1)

/-- A level of the legal seal that has held shows in LEGAL_SEAL_STATE, an opening is counted, and the same level again changes nothing.
Archiving under the seal answers CONFLICT, of a record not in the log RANGE, else the records up to it leave and the
younger ones stay. A display frame goes every DISPLAY_PERIOD while the die that drives the display runs; while the display is busy it
waits, and is dropped after 100 ms. -/
def Obligations.LegalLogSealAndDisplay : Prop :=
  ∀ (s : State),
    (∀ opened : Bool, s.sealOpen = opened → ∃ t, exec (.legalSealChange opened) s = .next t ∧ t.flag Ent.LEGAL_SEAL_STATE = opened ∧
      (s.flag Ent.LEGAL_SEAL_STATE = opened → t = s) ∧
      (s.flag Ent.LEGAL_SEAL_STATE ≠ opened → t.legal.openings = s.legal.openings + b2n opened)) ∧
    (∀ opened : Bool, s.sealOpen ≠ opened → exec (.legalSealChange opened) s = .next s) ∧
    (∀ (c : Client) (seq : Nat) (h : Held), s.accepts c Ent.LEGAL_LOG_ARCHIVE 0 (.num seq) h →
      (s.flag Ent.LEGAL_SEAL_STATE = false →
        ∃ t, exec (.legalLogArchive c seq) s = .next t ∧ t.repliesWith h St.CONFLICT ∧ t.legal = s.legal) ∧
      (s.flag Ent.LEGAL_SEAL_STATE = true → (∀ x ∈ s.legal.log, x.1 ≠ seq) →
        ∃ t, exec (.legalLogArchive c seq) s = .next t ∧ t.repliesWith h St.RANGE ∧ t.legal = s.legal) ∧
      (s.flag Ent.LEGAL_SEAL_STATE = true → (∃ x ∈ s.legal.log, x.1 = seq) →
        ∃ t, exec (.legalLogArchive c seq) s = .next t ∧ t.repliesWith h St.OK ∧
          (∀ x ∈ s.legal.log.takeWhile (fun y => y.1 != seq), x ∈ t.legal.log) ∧
          t.legal.log.length ≤ (s.legal.log.takeWhile (fun y => y.1 != seq)).length + 1)) ∧
    (∀ d : Nat, s.displayDie = some d → s.legal.itemAt + secTicks (s.nat Ent.DISPLAY_PERIOD) ≤ s.ticks →
      (∃ t m, exec (.displayFrame false) s = .next t ∧ t.out = s.out ++ [m] ∧ m.port = .display ∧ m.kind = .displayFrame ∧
        m.dest = d ∧ t.legal.itemAt = s.ticks ∧ t.legal.item = (s.legal.item + 1) % s.displayItems.length ∧
        { t with legal := s.legal, out := s.out } = s) ∧
      (∃ t, exec (.displayFrame true) s = .next t ∧ t.legal = { s.legal with itemAt := s.ticks, busy := some s.ticks } ∧
        { t with legal := s.legal } = s)) ∧
    (∀ b : Nat, s.legal.busy = some b →
      (∃ t m, exec (.displayBusyTimeout false) s = .next t ∧ t.out = s.out ++ [m] ∧ m.port = .display ∧ t.legal.busy = none) ∧
      (b + msTicks 100 ≤ s.ticks → ∃ t, exec (.displayBusyTimeout true) s = .next t ∧ t.out = s.out ∧ t.legal.busy = none ∧
        t.legal.item = (s.legal.item + 1) % s.displayItems.length) ∧
      (s.ticks < b + msTicks 100 → ∃ t, exec (.displayBusyTimeout true) s = .next t ∧ t = s))

/-- BILLING_CLOSE closes the period and counts PERIOD_NUMBER, a second one in the frame answers ALREADY_DONE, one in a standstill
CONFLICT (the model's choice, log entry 90); at step 1 a period end reached closes it once on its local date, and a new interval closes
the open one. After the swap a calendar due becomes active. A credit
of a disabled account answers CONFLICT, of a reference used ALREADY_DONE, of 0 or above the bound RANGE, else it is
added. A reading of a point not enabled answers CONFLICT. -/
def Obligations.BillingPeriodsIntervalsAndCredit : Prop :=
  ∀ (s : State),
    (∀ (c : Client) (v : Nat) (h : Held), s.accepts c Ent.BILLING_CLOSE 0 (.num v) h →
      (s.bill.closedAt = some s.frames →
        ∃ t, exec (.billingClose c v) s = .next t ∧ t.repliesWith h St.ALREADY_DONE ∧ t.bill = s.bill) ∧
      (s.bill.closedAt ≠ some s.frames → s.bill.still = true →
        ∃ t, exec (.billingClose c v) s = .next t ∧ t.repliesWith h St.CONFLICT ∧ t.bill = s.bill) ∧
      (s.bill.closedAt ≠ some s.frames → s.bill.still = false → s.nat Ent.PERIOD_NUMBER + 1 < 2 ^ Ent.PERIOD_NUMBER.type.bits →
        ∃ t, exec (.billingClose c v) s = .next t ∧ t.repliesWith h St.OK ∧ t.bill.closedAt = some s.frames ∧
          t.nat Ent.PERIOD_NUMBER = s.nat Ent.PERIOD_NUMBER + 1 ∧
          t.bill.snaps.head?.map Prod.fst = some (s.nat Ent.PERIOD_NUMBER))) ∧
    (s.cycle = 0 → s.tx.step = 0 → s.metersUp = true →
      let z := s.formTime.intervalStep
      z.bill.still = false → z.endsUpTo z.bill.settled < z.endsUpTo z.localMs → z.bill.lastDay ≠ some (dayOf z.localMs) →
      z.nat Ent.PERIOD_NUMBER + 1 < 2 ^ Ent.PERIOD_NUMBER.type.bits →
      ∃ t, exec .billingPeriodClose s = .next t ∧ t.bill.settled = z.localMs ∧ t.bill.lastDay = some (dayOf z.localMs) ∧
        t.bill.closedAt = some s.frames ∧ t.nat Ent.PERIOD_NUMBER = z.nat Ent.PERIOD_NUMBER + 1) ∧
    (s.cycle = 0 → s.tx.step = 0 → s.metersUp = true →
      ∃ t, exec .intervalClose s = .next t ∧
        (∀ j : Nat, s.bill.index = some j → s.formTime.intervalNow ≠ j ∨ s.bill.stepped = true ∨ s.bill.restarted = true →
          t.bill.index = some s.formTime.intervalNow ∧ t.bill.stepped = false ∧ t.bill.restarted = false) ∧
        (∀ j : Nat, s.bill.index = some j → s.formTime.intervalNow = j → s.bill.stepped = false → s.bill.restarted = false →
          t = s.formTime)) ∧
    (s.cycle = 0 → s.tx.step = 3 → s.bill.still = false → s.metersUp = true →
      ∃ t, exec .calendarActivation s = .next t ∧ t.bill.mtPrev = s.nat Ent.METER_TIME ∧
        ∀ (x c : Nat), s.activationsDue = [(x, c)] → t.nat Ent.ACTIVE_CALENDAR = c) ∧
    (∀ (c : Client) (a : Nat) (amount : Int) (reference : Nat) (h : Held),
      s.accepts c Ent.CREDIT_TOPUP a (.bytes (topupBytes amount reference)) h → amount.natAbs < 2 ^ 63 → reference < 2 ^ 32 →
      (s.flag Ent.ACCOUNT_ENABLE a = false →
        ∃ t, exec (.creditTopup c a amount reference) s = .next t ∧ t.repliesWith h St.CONFLICT ∧ t.bill = s.bill) ∧
      (s.flag Ent.ACCOUNT_ENABLE a = true → reference = s.nat Ent.LAST_TOPUP_REF a →
        ∃ t, exec (.creditTopup c a amount reference) s = .next t ∧ t.repliesWith h St.ALREADY_DONE ∧ t.bill = s.bill) ∧
      (s.flag Ent.ACCOUNT_ENABLE a = true → reference ≠ s.nat Ent.LAST_TOPUP_REF a →
        (amount = 0 ∨ 10 ^ 12 < amount.natAbs →
          ∃ t, exec (.creditTopup c a amount reference) s = .next t ∧ t.repliesWith h St.RANGE ∧ t.bill = s.bill) ∧
        (amount ≠ 0 → amount.natAbs ≤ 10 ^ 12 →
          ∃ t, exec (.creditTopup c a amount reference) s = .next t ∧ t.repliesWith h St.OK ∧
            (t.acct a).balance = (s.acct a).balance + (amount : Rat) ∧ t.nat Ent.LAST_TOPUP_REF a = reference ∧
            s.raised t Evt.CREDIT_TOPUP a reference (word 32 amount)))) ∧
    (∀ (c : Client) (pt v : Nat) (h : Held), s.accepts c Ent.READING_REQUEST pt (.num v) h →
      (s.flag Ent.POINT_ENABLE pt = false →
        ∃ t, exec (.readingRequest c pt v) s = .next t ∧ t.repliesWith h St.CONFLICT ∧ t.bill = s.bill) ∧
      (s.flag Ent.POINT_ENABLE pt = true →
        ∃ t, exec (.readingRequest c pt v) s = .next t ∧ t.repliesWith h St.OK ∧
          (s.keys.held = false → t.bill.unsigned.length = s.bill.unsigned.length + 1)))

/-- A packet that fails its CRC changes nothing beside the control work of the cycle; the standby's is counted and reported; the active
die's with a wrong service word is counted; a valid one ends the silence and latches every channel's command and duty. After four silent
cycles a healthy half applies its fail-safe states. A write of LC_COMMAND or LC_DUTY to a channel with an owner answers CONFLICT, else it
is taken. A pull-in ends, a retry's wait ends, and an unbroken time on clears the retries. -/
def Obligations.PacketsCommandTheLoadChannels : Prop :=
  ∀ (s : State),
    (∀ (die : Fin 2) (crc word : Bool) (clamps : List Clamp),
      let z := s.runWork
      ∃ t, exec (.commandPacket die crc word clamps) s = .next t ∧
        (crc = false ∨ z.isQuiet die.val = true → t = z) ∧
        (crc = true → z.isQuiet die.val = false → die.val ≠ z.pw.active →
          z.nat Ent.STANDBY_PACKET_COUNT + 1 < 2 ^ Ent.STANDBY_PACKET_COUNT.type.bits →
          t.pw = { z.pw with standbyPackets := z.pw.standbyPackets + 1 } ∧
          t.nat Ent.STANDBY_PACKET_COUNT = z.nat Ent.STANDBY_PACKET_COUNT + 1 ∧
          z.raised t Evt.STANDBY_PACKET die (z.pw.standbyPackets + 1) 0 ∧ { t with pw := z.pw, cells := z.cells, ev := z.ev } = z) ∧
        (crc = true → z.isQuiet die.val = false → die.val = z.pw.active → word = false →
          z.nat Ent.WATCHDOG_REJECTS + 1 < 2 ^ Ent.WATCHDOG_REJECTS.type.bits →
          t.nat Ent.WATCHDOG_REJECTS = z.nat Ent.WATCHDOG_REJECTS + 1 ∧
          z.cellsKept t [Ent.WATCHDOG_REJECTS.key] ∧ { t with cells := z.cells } = z) ∧
        (crc = true → z.isQuiet die.val = false → die.val = z.pw.active → word = true →
          t.pw = { z.pw with latched := true, silent := 0 } ∧
          (z.halfA.failsafe = false → z.halfB.failsafe = false →
            ∀ c, c < 40 → (t.lcs c).got = (z.lcs c).cmd ∧ (t.lcs c).gotDuty = (z.lcs c).duty))) ∧
    (∀ clamps : List Clamp, ∃ t, exec (.failsafeTimeout clamps) s = .next t ∧ (s.pw.silent < 4 → t = s) ∧
      (4 ≤ s.pw.silent → s.pwOk 0 = true → s.halfA.failsafe = false →
        t.halfA.failsafe = true ∧ t.halfA.failSince = s.ticks ∧ bit (t.nat Ent.FAILSAFE_ACTIVE) 0 = true)) ∧
    (∀ (c : Client) (ch v : Nat) (h : Held), s.accepts c Ent.LC_COMMAND ch (.num v) h → ch < 40 →
      (s.lcOwner ch ≠ 0 → ∃ t, exec (.lcCommand c ch v) s = .next t ∧ t.repliesWith h St.CONFLICT ∧ t.lc = s.lc) ∧
      (s.lcOwner ch = 0 → ∃ t, exec (.lcCommand c ch v) s = .next t ∧ t.repliesWith h St.OK ∧ t.nat Ent.LC_COMMAND ch = v ∧
        t.lcs ch = { s.lcs ch with cmd := v == 1 })) ∧
    (∀ (c : Client) (ch v : Nat) (h : Held), s.accepts c Ent.LC_DUTY ch (.num v) h → ch < 40 →
      (s.lcOwner ch ≠ 0 → ∃ t, exec (.lcDuty c ch v) s = .next t ∧ t.repliesWith h St.CONFLICT ∧ t.lc = s.lc) ∧
      (s.lcOwner ch = 0 → ∃ t, exec (.lcDuty c ch v) s = .next t ∧ t.repliesWith h St.OK ∧
        (t.lcs ch).duty = dutySteps (F32.toRat v))) ∧
    (∀ ch : Fin 40, (s.lcs ch).on = true → (s.lcs ch).pullIn = true → (s.lcs ch).onAt + msTicks (s.nat Ent.LC_PULL_IN_TIME ch) ≤ s.ticks →
      ∃ t, exec (.lcPullInEnd ch) s = .next t ∧ (t.lcs ch).pullIn = false) ∧
    (∀ (ch : Fin 40) (b : Nat), (s.lcs ch).wait = some b → b ≤ s.ticks → (s.lcs ch).thermal = false →
      ∃ t, exec (.lcRetry ch) s = .next t ∧ (t.lcs ch).wait = none) ∧
    (∀ (ch : Fin 40) (b : Nat), (s.lcs ch).span = some b → (s.lcs ch).on = true → (s.lcs ch).limiting = false →
      b + msTicks (s.nat Ent.LC_RETRY_CLEAR_TIME ch) ≤ s.ticks →
      ∃ t, exec (.lcRetryBudgetReset ch) s = .next t ∧ t.nat Ent.LC_RETRIES_USED ch = 0 ∧
        s.cellsKept t [Ent.LC_RETRIES_USED.key ch] ∧ { t with cells := s.cells } = s)

/-- Each protective shutdown of a channel that is on, by a short circuit at 20 A, a limit episode that lasts LC_LIMIT_TIME or an overload of
1,000 frames, counts a retry and a trip; within its retries the channel is off and waits, doubling with each, beyond them it is latched off
with its cause. A rise above 60 K or 170 °C sets the thermal latch and turns the channel off, the fifth within 10 min latches it off; at
40 K and 150 °C the latch clears. LC_RESET answers CONFLICT while the thermal latch is set, ALREADY_DONE with nothing to reset, else the
latches and the retries are cleared. -/
def Obligations.LoadChannelsShutDownAndAreReset : Prop :=
  ∀ (s : State) (ch : Fin 40),
    ((s.lcs ch).on = true → (s.lcs ch).thermal = false → (s.lcs ch).latchedOff = false →
      s.nat Ent.LC_RETRIES_USED ch + 1 < 2 ^ Ent.LC_RETRIES_USED.type.bits →
      s.nat Ent.LC_TRIP_COUNT ch + 1 < 2 ^ Ent.LC_TRIP_COUNT.type.bits →
      (∀ peak clamp : Nat, 20000 ≤ peak → ∃ t, exec (.lcShortCircuit ch peak clamp) s = .next t ∧ s.shutFor t ch 0) ∧
      (∀ peak clamp : Nat, (s.lcs ch).limiting = true → s.nat Ent.LC_LIMIT_TIME ch ≤ (s.ticks + 2 - (s.lcs ch).limAt) * 50 →
        ∃ t, exec (.lcLimitTimeout ch peak clamp) s = .next t ∧ s.shutFor t ch 1) ∧
      (∀ clamp : Nat, 1000 ≤ (s.lcs ch).hot → ∃ t, exec (.lcOverload ch clamp) s = .next t ∧ s.shutFor t ch 2)) ∧
    (∀ (rise : Nat) (temp : Int) (clamp : Nat), (s.lcs ch).thermal = false → 600 < rise ∨ 1700 ≤ temp →
      let sets := s.ticks :: (s.lcs ch).thermals.filter (fun b => decide (s.ticks < b + secTicks 600))
      ∃ t, exec (.lcThermalLatch ch rise temp clamp) s = .next t ∧ (t.lcs ch).thermal = true ∧ (t.lcs ch).on = false ∧
        (t.lcs ch).thermals = sets ∧ (5 ≤ sets.length → (t.lcs ch).latchedOff = true)) ∧
    (∀ (rise : Nat) (temp : Int), (s.lcs ch).thermal = true → rise ≤ 400 → temp ≤ 1500 →
      ∃ t, exec (.lcThermalClear ch rise temp) s = .next t ∧ (t.lcs ch).thermal = false ∧ (t.lcs ch).latchedOff = (s.lcs ch).latchedOff) ∧
    (∀ (c : Client) (v : Nat) (h : Held), s.accepts c Ent.LC_RESET ch (.num v) h →
      ((s.lcs ch).thermal = true → ∃ t, exec (.lcReset c ch v) s = .next t ∧ t.repliesWith h St.CONFLICT ∧ t.lc = s.lc) ∧
      ((s.lcs ch).thermal = false → s.bucketNow ch ≤ ((s.nat Ent.LC_CLAMP_BUDGET ch * 250 : Nat) : Rat) →
        (((s.lcs ch).latchedOff = true ∨ (s.lcs ch).lockout = true ∨ s.nat Ent.LC_RETRIES_USED ch ≠ 0) →
          ∃ t, exec (.lcReset c ch v) s = .next t ∧ t.repliesWith h St.OK ∧ (t.lcs ch).latchedOff = false ∧
            (t.lcs ch).lockout = false ∧ t.nat Ent.LC_RETRIES_USED ch = 0) ∧
        ((s.lcs ch).latchedOff = false → (s.lcs ch).lockout = false → s.nat Ent.LC_RETRIES_USED ch = 0 →
          ∃ t, exec (.lcReset c ch v) s = .next t ∧ t.repliesWith h St.ALREADY_DONE)))

/-- An open load whose current has stood below its level for LC_OPEN_LOAD_TIME of on-time is noted with its event once, and clears. A
channel off for 50 ms is put under test, one in service
answers CONFLICT; the test ends after 20 ms with the first failing step. A half above 24 A for 1,000 frames is reported
once. Undervoltage, a load dump, a lost ground and reversal turn every channel of the half off, with their event; above
38 V the half holds. Recovery for 10 ms clears the condition named and no other. -/
def Obligations.LoadChannelsAreWatchedAndSupplied : Prop :=
  ∀ (s : State),
    (∀ ch : Fin 40, s.openLoadDue ch = true →
      ((s.lcs ch).openLoad = false →
        ∃ t, exec (.lcOpenLoad ch) s = .next t ∧ t.lcs ch = { s.lcs ch with openLoad := true, openT := 0 } ∧
          s.raised t Evt.LC_OPEN_LOAD ch (s.lcs ch).level 0 ∧ { t with lc := s.lc, ev := s.ev } = s) ∧
      ((s.lcs ch).openLoad = true →
        ∃ t, exec (.lcOpenLoadClear ch) s = .next t ∧ t.lcs ch = { s.lcs ch with openLoad := false, openT := 0 } ∧
          s.raised t Evt.LC_OPEN_LOAD_CLEAR ch (s.lcs ch).level 0 ∧ { t with lc := s.lc, ev := s.ev } = s)) ∧
    (∀ (c : Client) (ch v : Nat) (h : Held), s.accepts c Ent.LC_TEST ch (.num v) h →
      (∀ r ∈ s.running, r.target ≠ Ent.LC_TEST.target ch) →
      (s.lcInService ch = false → ∃ t, exec (.lcTest c ch v) s = .next t ∧ t.repliesWith h St.OK ∧
        t.running = ⟨Ent.LC_TEST.target ch, none, s.ticks⟩ :: s.running ∧ t.lc = s.lc) ∧
      (s.lcInService ch = true → c.queue = false →
        ∃ t, exec (.lcTest c ch v) s = .next t ∧ t.repliesWith h St.CONFLICT ∧ t.running = s.running)) ∧
    (∀ (ch : Fin 40) (x : LcCheck) (r : RunTest), s.running.find? (fun y => y.target == Ent.LC_TEST.target ch) = some r →
      r.since + msTicks 20 ≤ s.ticks →
      ∃ t, exec (.lcTestDone ch x) s = .next t ∧ (∀ y ∈ t.running, y.target ≠ Ent.LC_TEST.target ch) ∧
        t.nat Ent.LC_TEST_RESULT ch = (if failingStep x = 0 then St.OK else St.RANGE) ∧
        (r.slot = none → s.raised t Evt.LC_TEST_DONE ch (if failingStep x = 0 then St.OK else St.RANGE) (failingStep x))) ∧
    (∀ half : Fin 2,
      (1000 ≤ (s.half half).heavy → (s.half half).told = false →
        ∃ t, exec (.halfOverload half) s = .next t ∧ t.half half = { s.half half with told := true } ∧
          s.raised t Evt.HALF_OVERLOAD half
            (ratRound (s.rat (if half.val = 0 then Ent.HALF_CURRENT_A else Ent.HALF_CURRENT_B) 0 * 1000)).toNat 0 ∧
          { t with halfA := s.halfA, halfB := s.halfB, ev := s.ev } = s) ∧
      (∀ mv : Int, mv < 8500 → (s.half half).under = false →
        ∃ t, exec (.vauxUndervoltage half mv) s = .next t ∧ t.half half = { (s.half half).struck with under := true } ∧
          (∀ c, c < 40 → c / 20 = half.val → (t.lcs c).on = false) ∧ s.raised t Evt.VAUX_UNDERVOLTAGE half (word 32 mv) 0) ∧
      (∀ mv : Int, 48000 < mv → (s.half half).dump = false →
        ∃ t, exec (.vauxOvervoltage half mv) s = .next t ∧ t.half half = { (s.half half).struck with surge := true, dump := true } ∧
          (∀ c, c < 40 → c / 20 = half.val → (t.lcs c).on = false) ∧ s.raised t Evt.VAUX_OVERVOLTAGE half (word 32 mv) 1) ∧
      (∀ mv : Int, 38000 < mv → mv ≤ 48000 → (s.half half).surge = false →
        ∃ t, exec (.vauxOvervoltage half mv) s = .next t ∧ t.half half = { (s.half half).struck with surge := true }) ∧
      (∀ mv : Int, mv < -500 → (s.half half).reversed = false →
        ∃ t, exec (.vauxReversed half mv) s = .next t ∧ t.half half = { (s.half half).struck with reversed := true } ∧
          (∀ c, c < 40 → c / 20 = half.val → (t.lcs c).on = false) ∧ s.raised t Evt.VAUX_REVERSED half (word 32 mv) 0) ∧
      (∀ mv : Nat, 1000 < mv → (s.half half).ground = false →
        ∃ t, exec (.loadGroundLost half mv) s = .next t ∧ t.half half = { (s.half half).struck with ground := true } ∧
          (∀ c, c < 40 → c / 20 = half.val → (t.lcs c).on = false) ∧ s.raised t Evt.LOAD_GROUND_LOST half mv 0) ∧
      (msTicks 10 ≤ (s.half half).okLow →
        (∃ t, exec (.vauxRecovery half 0) s = .next t ∧ t.half half = { s.half half with under := false }) ∧
        (∃ t, exec (.vauxRecovery half 4) s = .next t ∧ t.half half = { s.half half with reversed := false })) ∧
      (msTicks 10 ≤ (s.half half).okHigh →
        (∃ t, exec (.vauxRecovery half 1) s = .next t ∧ t.half half = { s.half half with surge := false }) ∧
        (∃ t, exec (.vauxRecovery half 2) s = .next t ∧ t.half half = { s.half half with dump := false })) ∧
      (msTicks 10 ≤ (s.half half).okGround →
        ∃ t, exec (.vauxRecovery half 3) s = .next t ∧ t.half half = { s.half half with ground := false }))

/-- A period start of an enabled network counts the period, brings a pending handover into effect and, with a modem and a
key, sends the beacon; disabled it changes nothing. A mains cycle out of range loses the crossings, reported once. A reply to no poll
changes nothing; one to a poll ends it, and a lost node is online. A failed poll is counted and retried while the reserve holds
it. A data frame is answered with the good blocks; blocks not acknowledged stay for another send. An access in the contention region sends
the blocks that end before the guard, and a collision doubles CW. -/
def Obligations.PowerlinePeriodsPollsAndAccesses : Prop :=
  ∀ (s : State),
    (∀ (offset c1 c2 : Nat) (heard : Bool), ∃ t, exec (.beaconPeriodStart offset c1 c2 heard) s = .next t ∧
      (s.flag Ent.EUSOR_ENABLE = false → t = s) ∧
      (s.flag Ent.EUSOR_ENABLE = true → t.eus.count = (s.eus.count + 1) % 2 ^ 48 ∧ t.eus.startTick = s.ticks ∧
        (s.eus.handover.isSome = true → t.eus.modem = 1 - s.eus.modem ∧ t.eus.handover = none) ∧
        (s.eus.handover = none → s.modemUp = true → (s.keyOf 3).isSome = true →
          t.time.flagEusor = false ∧ ∃ m ∈ t.out, m.port = .eusor ∧ m.dest = 0xFF ∧ m.kind = .beacon))) ∧
    (∀ measured : Nat, s.flag Ent.EUSOR_ENABLE = true → s.mainsOk (1000 * measured) = false →
      (s.eus.lost = false → ∃ t, exec (.zcLost measured) s = .next t ∧
        t.eus = { s.eus with lost := true, crossings := 0, periodNs := s.nominalPeriod } ∧ s.raised t Evt.ZC_LOST 0 measured 0 ∧
        s.cellsKept t [Ent.EUSOR_STATUS.key]) ∧
      (s.eus.lost = true → ∃ t, exec (.zcLost measured) s = .next t ∧ t = { s with eus := { s.eus with crossings := 0 } })) ∧
    (∀ (e : Fin 128) (data : List Byte), ∃ t, exec (.pollReply e data) s = .next t ∧ ((s.node e).polled = false → t = s) ∧
      ((s.node e).polled = true → (t.node e).polled = false ∧ (t.node e).runs = 0 ∧
        (s.nodeState e = Node.LOST → t.nodeState e = Node.ONLINE))) ∧
    (∀ (e : Fin 128) (dir : Fin 2),
      ((s.node e).polled = false → ∃ t, exec (.pollFail e dir) s = .next t ∧ t = s) ∧
      ((s.node e).polled = true → s.nat Ent.POLL_FAILS e + 1 < 2 ^ Ent.POLL_FAILS.type.bits →
        ∃ t, exec (.pollFail e dir) s = .next t ∧ t.nat Ent.POLL_FAILS e = s.nat Ent.POLL_FAILS e + 1 ∧
          ((s.node e).retries < 2 → s.eus.reserve + 2 * s.hopsOf e ≤ 8 →
            (t.node e).retries = (s.node e).retries + 1 ∧ (t.node e).polled = true ∧ t.eus.reserve = s.eus.reserve + 2 * s.hopsOf e) ∧
          (2 ≤ (s.node e).retries → (t.node e).runs = (s.node e).runs + 1 ∧ (t.node e).polled = false))) ∧
    (∀ (e : Fin 128) (start : Nat) (blocks : List (List Byte)), Node.ADMITTING ≤ s.nodeState e → s.eusorOn = true →
      let mask := ofBits (((blocks.take 32).zipIdx).filterMap (fun b => if blockOk b.1 then some b.2 else none))
      ∃ t, exec (.dataFrame e start blocks) s = .next t ∧ t.out = s.out ++ [⟨.eusor, e, .selectiveAck, [(mask : Int)], leBytes 4 mask⟩]) ∧
    (∀ (e : Fin 128) (mask : Nat),
      (s.airedFlow e = none → ∃ t, exec (.selectiveAck e mask) s = .next t ∧ { t with cells := s.cells } = s) ∧
      (∀ f : Flow, s.airedFlow e = some f →
        let acked := (f.aired.zipIdx).filterMap (fun x => if bit mask x.2 then some x.1.1 else none)
        let again : List (Nat × Nat) := (f.blocks.filter (fun b => !acked.contains b.1)).map (fun b =>
          if f.aired.any (fun a => a.1 == b.1) then (b.1, b.2 + 1) else b)
        ∃ t, exec (.selectiveAck e mask) s = .next t ∧
          (again ≠ [] → (∀ b ∈ again, b.2 ≤ 3) →
            { f with blocks := again, aired := [], cw := if f.kind = 4 then 16 else 8 } ∈ t.eus.flows ∧ t.out = s.out))) ∧
    (∀ (e : Fin 128) (start : Nat) (f : Flow), s.eusorOn = true → s.airedFlow e = none →
      s.eus.flows.find? (fun x => x.node == e.val) = some f → 23000000 ≤ start →
      let air := s.airPlan (s.node e).out (f.blocks.take 32) (start + frameHead) s.dataLimit
      (f.kind ≠ 1 → f.kind ≠ 2 → air ≠ [] →
        (∃ t, exec (.contentionAccess e start true) s = .next t ∧ { f with cw := min 64 (f.cw * 2) } ∈ t.eus.flows ∧ t.out = s.out ∧
          t.free = s.free + 1) ∧
        (∃ t m, exec (.contentionAccess e start false) s = .next t ∧ t.out = s.out ++ [m] ∧ m.port = .eusor ∧ m.dest = e.val ∧
          m.kind = flowKind f.kind ∧ { f with aired := air.map (fun x => (x.1.1, x.2)) } ∈ t.eus.flows)) ∧
      (f.kind = 1 ∨ f.kind = 2 →
        ∃ t m, exec (.contentionAccess e start false) s = .next t ∧ t.out = s.out ++ [m] ∧ m.port = .eusor ∧ m.dest = e.val ∧
          m.kind = .sounding ∧ t.eus.flows = s.eus.flows.erase f)) ∧
    (∀ cause : Fin 3, s.flag Ent.EUSOR_ENABLE = true → (if s.eus.modem = 0 then s.die.lkB else s.die.lkA) = true →
      s.eus.handover = none → (cause.val = 0 → s.modemUp = false) → (cause.val = 1 → 2 ≤ s.eus.deaf) →
      ∃ t, exec (.modemHandover cause) s = .next t ∧ t = { s with eus := { s.eus with handover := some cause.val } })

/-- A join without the join key is refused DENIED_ACCESS, of another version NOT_SUPPORTED, of no entry NO_ENTRY, of an enabled entry with
direct hearing it is ADMITTING. A tone map serves from the next period and is acknowledged; an aged one is stale and sounds
again; a sounding is answered by a message of maps. Routes are computed every ROUTE_PERIOD. A load request is granted
in the next poll when essential, deferred with its event when it does not fit, and granted when its time has passed. An
imbalance of 60 s is reported once. -/
def Obligations.PowerlineNodesJoinAndAskForLoads : Prop :=
  ∀ (s : State),
    (∀ j : NodeJoin, s.eusorOn = true →
      (s.keyOf 4 = none → ∃ t, exec (.join j) s = .next t ∧
        s.raised t Evt.NODE_REFUSED 0xFFFF (low 32 (low 48 j.uid)) St.DENIED_ACCESS ∧ { t with ev := s.ev } = s) ∧
      (∀ k, s.keyOf 4 = some k →
        Config.joinTag (nodeKey k (low 48 j.uid)) (low 48 j.uid) j.lineToLine j.version j.zc (s.nat Ent.EUSOR_NETWORK_ID)
          (low 16 s.eus.count) = j.tag →
        (j.version ≠ 1 → ∃ t, exec (.join j) s = .next t ∧
          s.raised t Evt.NODE_REFUSED 0xFFFF (low 32 (low 48 j.uid)) St.NOT_SUPPORTED ∧ { t with ev := s.ev } = s) ∧
        (j.version = 1 → (∀ x, x < 128 → s.flag Ent.NODE_ENABLE x = true → s.nat Ent.NODE_UID x ≠ low 48 j.uid) →
          ∃ t, exec (.join j) s = .next t ∧
            s.raised t Evt.NODE_REFUSED 0xFFFF (low 32 (low 48 j.uid)) St.NO_ENTRY ∧ { t with ev := s.ev } = s) ∧
        (∀ e, j.version = 1 → 128 ≤ j.via →
          (List.range 128).find? (fun x => s.flag Ent.NODE_ENABLE x && s.nat Ent.NODE_UID x == low 48 j.uid) = some e →
          ∃ t, exec (.join j) s = .next t ∧ t.nodeState e = Node.ADMITTING ∧ (t.node e).due = s.eus.count + 1 ∧
            t.bytes Ent.ROUTE e = [BitVec.ofNat 8 e] ∧ t.nat Ent.HOPS e = 1))) ∧
    (∀ (e : Fin 128) (m : ToneMap), Node.ADMITTING ≤ s.nodeState e → s.eusorOn = true →
      ∃ t x, exec (.toneMap e m) s = .next t ∧ (t.node e).out.next = some (s.eus.count + 1, m) ∧ t.out = s.out ++ [x] ∧
        x.port = .eusor ∧ x.dest = e.val ∧ x.kind = .selectiveAck) ∧
    (∀ (e : Fin 128) (dir : Fin 2) (seg : Fin 6),
      let dirs (z : State) : LinkMap := if dir.val = 1 then (z.node e).back else (z.node e).out
      ((dirs s).seg seg).map.isSome = true → ((dirs s).seg seg).at_ + secTicks (s.nat Ent.TM_MAX_AGE) < s.ticks →
      ∃ t, exec (.toneMapAgeExpiry e dir seg) s = .next t ∧ ((dirs t).seg seg).stale.isSome = true ∧
        (((dirs s).seg seg).stale = none → ((dirs t).seg seg).stale = some (s.eus.count + 1) ∧
          ∃ f, t.eus.flows = s.eus.flows ++ [f] ∧ f.node = e.val ∧ f.kind = 1 + dir.val)) ∧
    (∀ (e : Fin 128) (ends : List Nat) (snr : List (List Int)), Node.ADMITTING ≤ s.nodeState e → s.eusorOn = true →
      ∃ t f, exec (.sounding e ends snr) s = .next t ∧ t.eus.flows = s.eus.flows ++ [f] ∧ f.node = e.val ∧ f.kind = 0 ∧
        f.map.map ToneMap.ends = some ends ∧ { t with eus := s.eus } = s) ∧
    (∃ t, exec .routeComputation s = .next t ∧
      (s.flag Ent.EUSOR_ENABLE = false ∨ s.eus.count < s.eus.routedAt + s.nat Ent.ROUTE_PERIOD → t = s) ∧
      (s.flag Ent.EUSOR_ENABLE = true → s.eus.routedAt + s.nat Ent.ROUTE_PERIOD ≤ s.eus.count →
        t.eus.routedAt = s.eus.count ∧ ∀ e ∈ Tab.keys t.eus.nodes, (t.node e).asked = false)) ∧
    (∀ (e : Fin 128) (watts : Nat), s.nodeState e = Node.ONLINE →
      let others := s.eus.loads.filter (fun l => l.node != e.val)
      let granted : EusorSt := { s.eus with loads := others, queue := s.eus.queue ++ [(e.val, s.frames, 0x05, leBytes 4 (low 32 watts))] }
      (∃ t, exec (.loadRequest e watts true) s = .next t ∧ t.eus = granted ∧ { t with eus := s.eus } = s) ∧
      ({ s with eus := { s.eus with loads := others } }.loadFits e (low 32 watts) = true →
        ∃ t, exec (.loadRequest e watts false) s = .next t ∧ t.eus = granted ∧ { t with eus := s.eus } = s) ∧
      ({ s with eus := { s.eus with loads := others } }.loadFits e (low 32 watts) = false →
        ∃ t, exec (.loadRequest e watts false) s = .next t ∧
          t.eus = { s.eus with loads := others ++ [⟨e.val, low 32 watts, s.ticks⟩] } ∧
          s.raised t Evt.LOAD_DEFERRED e (low 32 watts) (ratFloor (imbalanceOf s.phaseLoads)).toNat ∧
          { t with eus := s.eus, ev := s.ev } = s)) ∧
    (∀ (e : Fin 128) (l : LoadAsk), s.eus.loads.find? (fun x => x.node == e.val) = some l →
      l.at_ + secTicks (s.nat Ent.AUX_DEFER_MAX) ≤ s.ticks →
      let others := s.eus.loads.filter (fun x => x != l)
      ∃ t, exec (.loadDeferExpiry e) s = .next t ∧
        t.eus = { s.eus with loads := others, queue := s.eus.queue ++ [(e.val, s.frames, 0x05, leBytes 4 l.watts)] } ∧
        { t with eus := s.eus } = s) ∧
    (∀ b : Nat, s.eus.heavySince = some b → s.eus.heavyTold = false → b + secTicks 60 ≤ s.ticks →
      let top := s.phaseLoads.foldl max 0
      ∃ t, exec .auxImbalance s = .next t ∧ t.eus = { s.eus with heavyTold := true } ∧
        s.raised t Evt.AUX_IMBALANCE 0 (s.phaseLoads.findIdx (fun x => decide (x = top)) + 1)
          (ratFloor (imbalanceOf s.phaseLoads)).toNat ∧ { t with eus := s.eus, ev := s.ev } = s)

/-- A key update that fails a check changes no slot, is answered with its status and raises KEY_REFUSED; one that passes makes its key active
under a signed update, pending under dual control, or empties the slot when it erases. A challenge is held; a confirm without a pending key, a
response or a needed certificate answers CONFLICT, of another value RANGE, else the pending key is active; a certificate is taken by the key it
fits, else RANGE. A pending key expires with its event. A tamper cause whose condition holds acts as configured: it is not acted on, it is
logged, or the keys are lost and the epoch moves, with ZEROISE_ALL for good. A rewrap done shows; lost keys return where the device runs and
the roots stand. -/
def Obligations.KeySlotsAndTamper : Prop :=
  ∀ (s : State),
    (∀ (c : Client) (k : Nat) (msg : List Byte) (h : Held), s.accepts c Ent.KEY_UPDATE k (.bytes msg) h → k < 64 →
      let st := s.keyStatus k msg
      (st ≠ St.OK → ∃ t, exec (.keyUpdate c k msg) s = .next t ∧ t.keys = s.keys ∧
        t.out.getLast? = some (h.answer st) ∧ s.raised t Evt.KEY_REFUSED k st (kuCounter msg)) ∧
      (st = St.OK → kuErase msg = true →
        ∃ t, exec (.keyUpdate c k msg) s = .next t ∧ t.repliesWith h St.OK ∧ (t.slot k).active = none ∧ (t.slot k).pending = none ∧
          (t.slot k).usage = 0 ∧ (t.slot k).counter = (if s.nat Ent.KEY_WRITE_MODE = 0 then kuCounter msg else (s.slot k).counter)) ∧
      (st = St.OK → kuErase msg = false → s.nat Ent.KEY_WRITE_MODE = 0 →
        ∃ t, exec (.keyUpdate c k msg) s = .next t ∧ t.repliesWith h St.OK ∧ (t.slot k).active.isSome = true ∧
          (t.slot k).usage = kuUsage msg ∧ (t.slot k).alg = kuAlg msg ∧ (t.slot k).counter = kuCounter msg ∧ (t.slot k).activeSfn = s.sfn) ∧
      (st = St.OK → kuErase msg = false → s.nat Ent.KEY_WRITE_MODE ≠ 0 →
        ∃ t, exec (.keyUpdate c k msg) s = .next t ∧ t.repliesWith h St.OK ∧ (t.slot k).pending.isSome = true ∧
          (t.slot k).pendingAt = s.ticks ∧ (t.slot k).active = (s.slot k).active)) ∧
    (∀ (c : Client) (k : Nat) (v : List Byte) (h : Held), s.accepts c Ent.KEY_CHALLENGE k (.bytes v) h → k < 64 →
      ∃ t, exec (.keyChallenge c k v) s = .next t ∧ t.repliesWith h St.OK ∧ (t.slot k).challenge = some v ∧
        (t.slot k).active = (s.slot k).active ∧ (t.slot k).pending = (s.slot k).pending ∧ (t.slot k).counter = (s.slot k).counter ∧
        t.bytes Ent.KEY_RESPONSE k = []) ∧
    (∀ (c : Client) (k v : Nat) (h : Held), s.accepts c Ent.KEY_CONFIRM k (.num v) h → k < 64 →
      ((s.slot k).pending = none → ∃ t, exec (.keyConfirm c k v) s = .next t ∧ t.repliesWith h St.CONFLICT ∧ t.keys = s.keys) ∧
      (∀ m : KeyMat, (s.slot k).pending = some m →
        (s.bytes Ent.KEY_RESPONSE k = [] ∨ (((s.slot k).usage = 1 ∨ (s.slot k).usage = 2) ∧ m.cert = []) →
          ∃ t, exec (.keyConfirm c k v) s = .next t ∧ t.repliesWith h St.CONFLICT ∧ t.keys = s.keys) ∧
        (s.bytes Ent.KEY_RESPONSE k ≠ [] → ((s.slot k).usage ≠ 1 ∧ (s.slot k).usage ≠ 2) ∨ m.cert ≠ [] →
          (v ≠ leAt (sha256 (s.bytes Ent.KEY_RESPONSE k)) 0 8 →
            ∃ t, exec (.keyConfirm c k v) s = .next t ∧ t.repliesWith h St.RANGE ∧ t.keys = s.keys) ∧
          (v = leAt (sha256 (s.bytes Ent.KEY_RESPONSE k)) 0 8 →
            ∃ t, exec (.keyConfirm c k v) s = .next t ∧ t.repliesWith h St.OK ∧ (t.slot k).active = some m ∧ (t.slot k).pending = none ∧
              (t.slot k).counter = low 32 ((s.slot k).counter + 1))))) ∧
    (∀ (c : Client) (k : Nat) (v : List Byte) (h : Held), s.accepts c Ent.SLOT_CERT k (.bytes v) h → k < 64 →
      let fits (x : Option KeyMat) : Bool := (x.map (fun m => (s.slot k).alg != 1 && publicKey (s.slot k).alg m == Config.certKey v)).getD false
      (fits (s.slot k).active = true → ∃ t, exec (.slotCert c k v) s = .next t ∧ t.repliesWith h St.OK ∧
        (t.slot k).active = (s.slot k).active.map (fun m => { m with cert := v }) ∧ (t.slot k).pending = (s.slot k).pending) ∧
      (fits (s.slot k).active = false → fits (s.slot k).pending = true → ∃ t, exec (.slotCert c k v) s = .next t ∧ t.repliesWith h St.OK ∧
        (t.slot k).active = (s.slot k).active ∧ (t.slot k).pending = (s.slot k).pending.map (fun m => { m with cert := v })) ∧
      (fits (s.slot k).active = false → fits (s.slot k).pending = false →
        ∃ t, exec (.slotCert c k v) s = .next t ∧ t.repliesWith h St.RANGE ∧ t.keys = s.keys)) ∧
    (∀ k : Fin 64, (s.slot k).pending.isSome = true → (s.slot k).pendingAt + secTicks (s.nat Ent.KEY_PENDING_TIMEOUT) ≤ s.ticks →
      ∃ t, exec (.keyPendingExpired k) s = .next t ∧ (t.slot k).pending = none ∧ (t.slot k).challenge = none ∧
        (t.slot k).active = (s.slot k).active ∧ (t.slot k).counter = (s.slot k).counter ∧
        s.raised t Evt.KEY_PENDING_EXPIRED k (low 32 (keyId (s.slot k).alg (s.slot k).pending)) 0) ∧
    (∀ (cause : Fin 7) (run : Nat) (k : KyIn),
      let cfg := if cause.val < 4 then s.nat Ent.TAMPER_CONFIG 0 cause else s.nat Ent.TAMPER_ENV_ACTION
      let w := s.watchKy k
      (s.tampered cause run k = false → ∃ t, exec (.tamper cause run k) s = .next t ∧ t = s) ∧
      (s.tampered cause run k = true →
        (cfg = 0 → ∃ t, exec (.tamper cause run k) s = .next t ∧ t = w) ∧
        (cfg = 3 → s.devState ≠ Dev.OFF → s.devState ≠ Dev.SHIP → ∃ t, exec (.tamper cause run k) s = .next t ∧
          t.keys = { w.keys with log := (cause.val, 3, s.keys.epoch) :: s.keys.log } ∧ s.raised t Evt.TAMPER cause 3 s.keys.epoch ∧
          { t with keys := s.keys, ev := s.ev } = s) ∧
        (cfg = 1 ∨ cfg = 2 → ∃ t, exec (.tamper cause run k) s = .next t ∧ t.keys.slots = [] ∧ t.keys.held = false ∧
          t.keys.zeroised = true ∧ t.keys.epoch = min 63 (s.keys.epoch + 1) ∧ t.keys.lostAt = some s.ticks ∧ t.tx.conns = [] ∧
          t.eus.key = [] ∧ (cfg = 2 → t.keys.burnt = true) ∧ (cfg = 1 → s.keys.epoch < 63 → t.keys.burnt = s.keys.burnt)))) ∧
    (∀ i : Nat, s.fw.wrapping = some i → s.keys.held = true →
      ∃ t, exec .rewrapDone s = .next t ∧ t.fw = { s.fw with wrapping := none } ∧ t.nat Ent.REWRAP_STATE = 1 ∧
        t.keys = { s.keys with rewrap := some (declared (s.manifest i)),
                               seals := s.keys.seals.take 1 ++ [sealKey (s.bytes Ent.MEAS_BOOT) (declared (s.manifest i)) s.keys.epoch] }) ∧
    (∀ b : Nat, s.keys.lostAt = some b → ∃ t, exec .keysRederived s = .next t ∧
      (s.keys.burnt = true ∨ s.devState = Dev.OFF ∨ s.devState = Dev.SHIP ∨ s.inRecovery = true → t = s) ∧
      (s.keys.burnt = false → s.devState ≠ Dev.OFF → s.devState ≠ Dev.SHIP → s.inRecovery = false →
        t.keys.held = true ∧ t.keys.lostAt = none ∧ t.bill.unsigned = []))

/-- A manifest that passes makes its slot RECEIVING, one that fails is answered with its status. A block answers CONFLICT
unless the slot is RECEIVING, RANGE beyond the image or with another digest, else it is stored and counted; the last one makes the slot
VERIFIED when the whole image has its digest, else the slot is emptied. Erasure empties a slot that is not in use. A preparation starts once,
from a VERIFIED slot with the mirror in step or with no other legal one under way, else it fails with CONFLICT; done within 3,000 frames the
standby is in step; failed it is over. The loads of both dies, measured as declared, make a legal preparation done. -/
def Obligations.ImagesAreReceivedAndPrepared : Prop :=
  ∀ (s : State),
    (∀ (c : Client) (i : Nat) (v : List Byte) (h : Held), s.accepts c Ent.SLOT_MANIFEST i (.bytes v) h → i < 4 →
      let st := s.manifestStatus i v
      ∃ t, exec (.slotManifest c i v) s = .next t ∧ t.repliesWith h st ∧ t.nat Ent.SLOT_RESULT i = st ∧
        (st ≠ St.OK → t.fw = s.fw) ∧
        (st = St.OK → t.nat Ent.SLOT_STATE i = Img.RECEIVING ∧ t.fslot i = ⟨v, []⟩ ∧ t.nat Ent.SLOT_VERSION i = mfVersion v ∧
          t.nat Ent.SLOT_BLOCKS_OK i = 0 ∧ t.bytes Ent.SLOT_MEASUREMENT i = declared v)) ∧
    (∀ (c : Client) (i : Nat) (v : List Byte) (h : Held), s.accepts c Ent.SLOT_BLOCK i (.bytes v) h → i < 4 →
      let k := leAt v 0 2
      let m := s.manifest i
      (s.nat Ent.SLOT_STATE i ≠ Img.RECEIVING →
        ∃ t, exec (.slotBlock c i v) s = .next t ∧ t.repliesWith h St.CONFLICT ∧ t.fw = s.fw) ∧
      (s.nat Ent.SLOT_STATE i = Img.RECEIVING → v.length < 2 ∨ mfBlocks m ≤ k ∨ (v.drop 2).length ≠ mfBlockLen m k →
        ∃ t, exec (.slotBlock c i v) s = .next t ∧ t.repliesWith h St.RANGE ∧ t.fw = s.fw) ∧
      (s.nat Ent.SLOT_STATE i = Img.RECEIVING → 2 ≤ v.length → k < mfBlocks m → (v.drop 2).length = mfBlockLen m k →
        (sha256 (v.drop 2) ≠ mfBlockHash m k →
          ∃ t, exec (.slotBlock c i v) s = .next t ∧ t.repliesWith h St.RANGE ∧ t.fw = s.fw ∧ s.raised t Evt.IMAGE_REFUSED i St.RANGE k) ∧
        (sha256 (v.drop 2) = mfBlockHash m k → (Tab.find (s.fslot i).blocks k).isSome = true →
          ∃ t, exec (.slotBlock c i v) s = .next t ∧ t.repliesWith h St.OK ∧ t.fw = s.fw) ∧
        (sha256 (v.drop 2) = mfBlockHash m k → Tab.find (s.fslot i).blocks k = none →
          let bs := Tab.set (s.fslot i).blocks k (v.drop 2)
          let image := (List.range (mfBlocks m)).flatMap (fun j => (Tab.find bs j).getD [])
          (bs.length ≠ mfBlocks m → ∃ t, exec (.slotBlock c i v) s = .next t ∧ t.repliesWith h St.OK ∧ t.fslot i = ⟨m, bs⟩ ∧
            t.nat Ent.SLOT_BLOCKS_OK i = bs.length) ∧
          (bs.length = mfBlocks m → sha384 image = (m.drop 32).take 48 →
            ∃ t, exec (.slotBlock c i v) s = .next t ∧ t.repliesWith h St.OK ∧ t.fslot i = ⟨m, bs⟩ ∧ t.nat Ent.SLOT_STATE i = Img.VERIFIED ∧
              s.raised t Evt.IMAGE_VERIFIED i (mfVersion m) (leAt (declared m) 0 4)) ∧
          (bs.length = mfBlocks m → sha384 image ≠ (m.drop 32).take 48 →
            ∃ t, exec (.slotBlock c i v) s = .next t ∧ t.repliesWith h St.OK ∧ t.fslot i = ⟨[], []⟩ ∧ t.nat Ent.SLOT_STATE i = Img.EMPTY ∧
              s.raised t Evt.IMAGE_REFUSED i St.RANGE 0xFFFF)))) ∧
    (∀ (c : Client) (i v : Nat) (h : Held), s.accepts c Ent.SLOT_ERASE i (.num v) h → i < 4 →
      (s.nat Ent.SLOT_STATE i = Img.EMPTY →
        ∃ t, exec (.slotErase c i v) s = .next t ∧ t.repliesWith h St.ALREADY_DONE ∧ t.fw = s.fw) ∧
      (s.nat Ent.SLOT_STATE i = Img.RECEIVING ∨ s.nat Ent.SLOT_STATE i = Img.VERIFIED →
        ∃ t, exec (.slotErase c i v) s = .next t ∧ t.repliesWith h St.OK ∧ t.nat Ent.SLOT_STATE i = Img.EMPTY ∧ t.fslot i = ⟨[], []⟩) ∧
      (Img.RUNNING ≤ s.nat Ent.SLOT_STATE i →
        ∃ t, exec (.slotErase c i v) s = .next t ∧ t.repliesWith h St.CONFLICT ∧ t.fw = s.fw)) ∧
    (∀ i : Fin 1024, s.aType i = ActType.FW_ACTIVATE → i.val ∈ s.armed →
      s.aSfn i ≤ s.sfn + (if s.aGroup i = 0 then s.nat Ent.PREPARE_LEAD else s.nat Ent.ACTION_ANNOUNCE_LEAD i) →
      s.sfn < s.aSfn i → (i.val, s.aSfn i) ∉ s.fw.started →
      let p : Prep := ⟨s.actSlot i, i, s.frames, false, false, false, false⟩
      (s.actSlot i < 2 → s.nat Ent.SLOT_STATE (s.actSlot i) = Img.VERIFIED → s.die.mirrorSync = true → s.fw.main = none →
        ∃ t, exec (.prepareStart i) s = .next t ∧ t.fw = { s.fw with main := some p, started := t.fw.started } ∧
          (i.val, s.aSfn i) ∈ t.fw.started ∧ t.die.mirrorSync = false ∧ t.ev = s.ev) ∧
      (2 ≤ s.actSlot i → s.actSlot i < 4 → s.nat Ent.SLOT_STATE (s.actSlot i) = Img.VERIFIED → s.fw.legal = none → s.fw.stagger = none →
        ∃ t, exec (.prepareStart i) s = .next t ∧ t.fw = { s.fw with legal := some p, started := t.fw.started } ∧
          (i.val, s.aSfn i) ∈ t.fw.started ∧ t.die = s.die ∧ t.ev = s.ev) ∧
      (s.actSlot i < 4 → s.nat Ent.SLOT_STATE (s.actSlot i) ≠ Img.VERIFIED →
        ∃ t, exec (.prepareStart i) s = .next t ∧ s.raised t Evt.PREPARE_FAILED (s.actSlot i) 0 St.CONFLICT ∧
          (i.val, s.aSfn i) ∈ t.fw.started ∧ { t with ev := s.ev, fw := { t.fw with started := s.fw.started } } = s)) ∧
    (∀ p : Prep, s.fw.main = some p →
      (∀ r : Resync, s.die.resync = some r → 3 ≤ r.phase → p.done = false → s.frames ≤ p.since + 3000 →
        ∃ t, exec .prepareDone s = .next t ∧ t.fw = { s.fw with main := some { p with done := true } } ∧ t.die.mirrorSync = true ∧
          t.die.resync = none ∧ s.raised t Evt.PREPARE_DONE p.slot (s.frames - p.since) (mfFormat (s.manifest p.slot))) ∧
      (∀ (step : Fin 4) (status : Nat), s.fw.trial = none → step.val = 1 ∨ step.val = 2 →
        ∃ t, exec (.prepareFailed step status) s = .next t ∧ t.fw = { s.fw with main := none } ∧ t.die.mirrorSync = false ∧
          s.raised t Evt.PREPARE_FAILED p.slot step status)) ∧
    (∀ p : Prep, s.fw.legal = some p →
      (∀ status : Nat, ∃ t, exec (.prepareFailed 3 status) s = .next t ∧ t.fw = { s.fw with legal := none } ∧
        s.raised t Evt.PREPARE_FAILED p.slot 3 status) ∧
      (∀ (die : Fin 2) (digest : List Byte),
        (measureOf [digest] = s.bytes Ent.SLOT_MEASUREMENT p.slot →
          ∃ t, exec (.legalImageLoadDone die digest) s = .next t ∧ t.ev = s.ev ∧
            (die.val = 0 → t.fw = { s.fw with legal := some { p with loaded0 := true, done := p.loaded1 } }) ∧
            (die.val = 1 → t.fw = { s.fw with legal := some { p with loaded1 := true, done := p.loaded0 } })) ∧
        (measureOf [digest] ≠ s.bytes Ent.SLOT_MEASUREMENT p.slot →
          ∃ t, exec (.legalImageLoadDone die digest) s = .next t ∧ t.fw = { s.fw with legal := none } ∧ t.free = s.free + 1)))

/-- Without a trial FW_CONFIRM and FW_FALLBACK answer what R445 gives, with one that goes back already ALREADY_DONE. A trial confirmed ends,
and its slot is the running one. A fallback is due, unless the mirror is out of step (CONFLICT). At its time a trial is confirmed or falls
back by TRIAL_POLICY. RECOVERY_BOOT outside RECOVERY and TEST, or from a slot that is not VERIFIED, answers CONFLICT, else the slot runs and
both control dies restart. At the stagger's end M0 changes and the legal slot is the running one. -/
def Obligations.TrialsEndAndImagesRun : Prop :=
  ∀ (s : State),
    (∀ (c : Client) (v : Nat) (h : Held), s.accepts c Ent.FW_CONFIRM 0 (.num v) h →
      (s.fw.trial = none → ∃ t, exec (.fwConfirm c v) s = .next t ∧ t.fw = s.fw ∧
        t.repliesWith h (if s.fw.ended = some s.frames then St.ALREADY_DONE else St.CONFLICT)) ∧
      (∀ x : Trial, s.fw.trial = some x →
        (x.back.isSome = true → ∃ t, exec (.fwConfirm c v) s = .next t ∧ t.fw = s.fw ∧ t.repliesWith h St.ALREADY_DONE) ∧
        (x.back = none → x.slot < 2 → x.old < 2 → x.slot ≠ x.old →
          ∃ t, exec (.fwConfirm c v) s = .next t ∧ t.repliesWith h St.OK ∧ t.fw.trial = none ∧ t.fw.ended = some s.frames ∧
            t.nat Ent.RUNNING_SLOT = x.slot ∧ t.nat Ent.SLOT_STATE x.slot = Img.RUNNING ∧ t.nat Ent.SLOT_STATE x.old = Img.EMPTY))) ∧
    (∀ (c : Client) (v : Nat) (h : Held), s.accepts c Ent.FW_FALLBACK 0 (.num v) h →
      (s.fw.trial = none → ∃ t, exec (.fwFallback c v) s = .next t ∧ t.fw = s.fw ∧
        t.repliesWith h (if s.fw.ended = some s.frames then St.ALREADY_DONE else St.CONFLICT)) ∧
      (∀ x : Trial, s.fw.trial = some x →
        (x.back.isSome = true → ∃ t, exec (.fwFallback c v) s = .next t ∧ t.fw = s.fw ∧ t.repliesWith h St.ALREADY_DONE) ∧
        (x.back = none → s.die.mirrorSync = false →
          ∃ t, exec (.fwFallback c v) s = .next t ∧ t.repliesWith h St.CONFLICT ∧ t.fw = s.fw) ∧
        (x.back = none → s.die.mirrorSync = true → ∃ t, exec (.fwFallback c v) s = .next t ∧ t.repliesWith h St.OK ∧
          t.fw = { s.fw with trial := some { x with back := some 0 } }))) ∧
    (∀ x : Trial, s.fw.trial = some x → x.back = none → x.left = 0 →
      (s.nat Ent.TRIAL_POLICY ≠ 1 → ∃ t, exec .trialTimeExpiry s = .next t ∧
        t = { s with fw := { s.fw with trial := some { x with back := some 2 } } }) ∧
      (s.nat Ent.TRIAL_POLICY = 1 → x.slot ≠ x.old → ∃ t, exec .trialTimeExpiry s = .next t ∧ t.fw.trial = none ∧ t.nat Ent.RUNNING_SLOT = x.slot ∧
        s.raised t Evt.FW_CONFIRMED x.slot (mfVersion (s.manifest x.slot)) 1)) ∧
    (∀ (c : Client) (v : Nat) (h : Held), s.accepts c Ent.RECOVERY_BOOT 0 (.num v) h → v < 2 →
      (s.inRecovery = false ∨ s.nat Ent.SLOT_STATE v ≠ Img.VERIFIED →
        ∃ t, exec (.recoveryBoot c v) s = .next t ∧ t.repliesWith h St.CONFLICT ∧ t.fw = s.fw ∧ t.die = s.die) ∧
      (s.inRecovery = true → s.nat Ent.SLOT_STATE v = Img.VERIFIED →
        ∃ t, exec (.recoveryBoot c v) s = .next t ∧ t.repliesWith h St.OK ∧ t.nat Ent.RUNNING_SLOT = v ∧
          t.nat Ent.SLOT_STATE v = Img.RUNNING ∧ t.nat Ent.FW_MAIN_VERSION = mfVersion (s.manifest v) ∧ t.fw.format = mfFormat (s.manifest v) ∧
          t.fw.trial = none ∧ t.die.ca = .off ∧ t.die.cb = .off ∧ t.plant.startCause = 4 ∧ t.devState = Dev.START)) ∧
    (∀ g : Stagger, s.fw.stagger = some g → s.cycle = 0 → g.till ≤ s.sfn → g.slot < 4 → g.old < 4 → g.slot ≠ g.old →
      ∃ t, exec .legalActivationM0 s = .next t ∧ t.fw.stagger = none ∧ t.fw.bank0 = g.slot ∧ t.nat Ent.RUNNING_LEGAL_SLOT = g.slot ∧
        t.nat Ent.FW_LEGAL_VERSION = mfVersion (s.manifest g.slot) ∧ t.nat Ent.SLOT_STATE g.slot = Img.RUNNING ∧
        t.nat Ent.SLOT_STATE g.old = Img.VERIFIED)

/-- A message on STRM_IN that fails its CRC or has another type is counted, whichever row brings it. A READY brings the port up with its counts
at 0 and its event. A credit within the blocks sent moves FREED on and, when credit remains, the port is up; one beyond them is counted. A
cleared mask bit discards its buffer. Silence of 1 ms takes the link down, no credit for 10 ms stalls it. A block goes on the four lanes while
there is credit and the lanes are free. The service link's change is told once, discovery is answered where served, and RECOVERY_ENTER needs
the device at rest. -/
def Obligations.StreamsFlowAndServiceAnswers : Prop :=
  ∀ (s : State),
    (s.die.lkB = true → s.portState ≠ Port.OFF → ∀ msg : List Byte,
      (strmMessage msg = none → s.nat Ent.IN_ERRORS + 1 < 2 ^ Ent.IN_ERRORS.type.bits →
        (∃ t, exec (.streamReady msg) s = .next t ∧ t.nat Ent.IN_ERRORS = s.nat Ent.IN_ERRORS + 1 ∧ s.cellsKept t [Ent.IN_ERRORS.key] ∧
          { t with cells := s.cells } = s) ∧
        (∃ t, exec (.streamCredit msg) s = .next t ∧ t.nat Ent.IN_ERRORS = s.nat Ent.IN_ERRORS + 1 ∧ s.cellsKept t [Ent.IN_ERRORS.key] ∧
          { t with cells := s.cells } = s)) ∧
      (∀ freed : Nat, strmMessage msg = some (1, freed) →
        ∃ t, exec (.streamReady msg) s = .next t ∧ t.portState = Port.UP ∧ t.stream.sent = 0 ∧ t.stream.freed = 0 ∧
          t.stream.heard = s.ticks ∧ t.nat Ent.STREAM_BLOCKS_SENT = 0 ∧ s.raised t Evt.STREAM_LINK_UP 0 (b2n s.linkUp) 0) ∧
      (∀ freed : Nat, strmMessage msg = some (2, freed) → s.linkUp = true →
        ((freed + 2 ^ 32 - s.stream.freed % 2 ^ 32) % 2 ^ 32 ≤ s.stream.inFlight →
          ∃ t, exec (.streamCredit msg) s = .next t ∧ t.stream.freed = freed ∧ t.stream.heard = s.ticks ∧
            t.nat Ent.CREDITS_AVAILABLE = t.credits ∧ (t.credits ≠ 0 → t.portState = Port.UP ∧ t.stream.dry = none) ∧ t.ev = s.ev) ∧
        (s.stream.inFlight < (freed + 2 ^ 32 - s.stream.freed % 2 ^ 32) % 2 ^ 32 → s.nat Ent.IN_ERRORS + 1 < 2 ^ Ent.IN_ERRORS.type.bits →
          ∃ t, exec (.streamCredit msg) s = .next t ∧ t.nat Ent.IN_ERRORS = s.nat Ent.IN_ERRORS + 1 ∧ t.stream = s.stream))) ∧
    (∀ (c : Client) (v : Nat) (h : Held), s.accepts c Ent.STREAM_MASK 0 (.num v) h →
      ∃ t, exec (.streamMask c v) s = .next t ∧ t.repliesWith h St.OK ∧ t.nat Ent.STREAM_MASK = v ∧
        (∀ k, 1 ≤ k → k ≤ 7 → bit (s.nat Ent.STREAM_MASK) (k - 1) = true → bit v (k - 1) = false → (t.strm k).recs = []) ∧
        (∀ k, 1 ≤ k → k ≤ 7 → bit (s.nat Ent.STREAM_MASK) (k - 1) = bit v (k - 1) → t.strm k = s.strm k)) ∧
    (s.linkUp = true → s.stream.heard + msTicks 1 ≤ s.ticks →
      ∃ t, exec .streamLinkDown s = .next t ∧ t.portState = Port.WAITING ∧
        s.raised t Evt.STREAM_LINK_DOWN 0 (low 32 (s.nat Ent.STREAM_BLOCKS_SENT)) (s.nat Ent.IN_ERRORS) ∧
        s.cellsKept t [Ent.PORT_STATE.key] ∧ { t with cells := s.cells, ev := s.ev } = s) ∧
    (∀ b : Nat, s.stream.dry = some b → s.portState = Port.UP → b + msTicks 10 ≤ s.ticks →
      ∃ t, exec .streamStalled s = .next t ∧ t.portState = Port.STALLED ∧ s.cellsKept t [Ent.PORT_STATE.key] ∧
        { t with cells := s.cells } = s) ∧
    (∀ (k : Nat) (r : List Byte) (rest : List (List Byte)), s.portState = Port.UP → s.die.lkB = true → s.credits ≠ 0 →
      s.stream.busy < 50000 → s.nextStream = some k → (s.strm k).recs = r :: rest →
      ∃ t, exec .blockTransmit s = .next t ∧
        t.out = s.out ++ [⟨.stream, k, .block, [], (List.range 4).flatMap (laneChars (blockBytes k (s.strm k) r))⟩] ∧
        t.stream.sent = (s.stream.sent + 1) % 2 ^ 32 ∧ t.stream.busy = s.stream.busy + 1120 ∧ t.strm k = (s.strm k).sentBlock r s.ticks) ∧
    (∀ v : Fin 3, (s.nat Ent.SERVICE_LINK = v → ∃ t, exec (.serviceLinkChange v) s = .next t ∧ t = s) ∧
      (s.nat Ent.SERVICE_LINK ≠ v → ∃ t, exec (.serviceLinkChange v) s = .next t ∧ t.nat Ent.SERVICE_LINK = v ∧
        s.raised t Evt.SERVICE_LINK_CHANGE 0 v 0 ∧ s.cellsKept t [Ent.SERVICE_LINK.key] ∧ { t with cells := s.cells, ev := s.ev } = s)) ∧
    (s.die.lkA = true → s.flag Ent.SERVICE_PORT_ENABLE = true ∨ s.inRecovery = true →
      ∃ t, exec .discoveryDatagram s = .next t ∧ t = s.send ⟨.service, 0, .discovery, [], s.discoveryAnswer⟩) ∧
    (∀ (c : Client) (v : Nat) (h : Held), s.accepts c Ent.RECOVERY_ENTER 0 (.num v) h →
      (s.atRest = false → ∃ t, exec (.recoveryEnter c v) s = .next t ∧ t.repliesWith h St.CONFLICT ∧ t.plant = s.plant) ∧
      (s.atRest = true → ∃ t, exec (.recoveryEnter c v) s = .next t ∧ t.repliesWith h St.OK ∧
        t.plant = { s.plant with toRecovery := true } ∧
        s.raised t Evt.RECOVERY_REQUESTED 0 (low 32 (((Tab.find s.tx.conns c.conn).map Conn.digest).getD 0)) 0))

/-- A domain that leaves its window shows it and takes with it what it supplies, one back in it for 10 ms shows it again, with their events
where a side is up. A side
whose domains are whole leaves reset, the first out of OFF into START. RST_N turns the dies off into START with its
cause. RECOVERY_EXIT outside RECOVERY and TEST answers CONFLICT, else both control dies restart; TEST_ENTER outside
RECOVERY answers CONFLICT, else TEST begins at the next boundary. The reference clock's loss and return are told once. -/
def Obligations.SuppliesResetsAndClocks : Prop :=
  ∀ (s : State),
    (∀ (dom : Fin 15) (mv : Nat),
      (inSupplyWindow dom mv = true → ∃ t, exec (.supplyFault dom mv) s = .next t ∧ t = s) ∧
      (inSupplyWindow dom mv = false → s.inWin dom = false → dom.val < 14 → ∃ t, exec (.supplyFault dom mv) s = .next t ∧ t = s) ∧
      (inSupplyWindow dom mv = false → s.inWin dom = true → s.devState ≠ Dev.OFF → s.devState ≠ Dev.SHIP →
        s.plant.sideA = true ∨ s.plant.sideB = true →
        (dom.val < 4 → ∃ t, exec (.supplyFault dom mv) s = .next t ∧ t.inWin dom = false ∧ t.sideUp (dom.val % 2) = false ∧
          (s.allLost = false → { s with plant := { s.plant with inWindow := setBit s.plant.inWindow dom false } }.allLost = true →
            t.devState = Dev.OFF)) ∧
        (dom.val / 2 = 2 ∨ dom.val / 2 = 4 → ∃ t, exec (.supplyFault dom mv) s = .next t ∧ t.inWin dom = false ∧
          t.nat Ent.SUPPLY_STATUS = t.plant.inWindow ∧ t.lkUp (dom.val % 2) = false) ∧
        (dom.val / 2 = 3 → ∃ t, exec (.supplyFault dom mv) s = .next t ∧ t.inWin dom = false ∧
          t.nat Ent.SUPPLY_STATUS = t.plant.inWindow ∧ (s.meterRunning (dom.val % 2) = true → t.meterFailed (dom.val % 2) = true)) ∧
        (10 ≤ dom.val → dom.val < 14 → ∃ t, exec (.supplyFault dom mv) s = .next t ∧ t.inWin dom = false ∧
          t.nat Ent.SUPPLY_STATUS = t.plant.inWindow ∧ s.raised t Evt.SUPPLY_FAULT dom mv 0 ∧
          { t with plant := s.plant, cells := s.cells, ev := s.ev } = s) ∧
        (dom.val = 14 → ∃ t, exec (.supplyFault dom mv) s = .next t ∧ t.inWin dom = false ∧ t.nat Ent.SUPPLY_STATUS = t.plant.inWindow ∧
          (mv < 2300 → t.time.backupValid = false) ∧ (2300 ≤ mv → t.time = s.time) ∧ s.raised t Evt.SUPPLY_FAULT dom mv 0 ∧
          { t with plant := s.plant, cells := s.cells, ev := s.ev, time := s.time } = s))) ∧
    (∀ (dom : Fin 15) (mv ms : Nat),
      (s.inWin dom = true ∨ inSupplyWindow dom mv = false ∨ ms < 10 → ∃ t, exec (.supplyRestored dom mv ms) s = .next t ∧ t = s) ∧
      (s.inWin dom = false → inSupplyWindow dom mv = true → 10 ≤ ms → ∃ t, exec (.supplyRestored dom mv ms) s = .next t ∧
        t.inWin dom = true ∧ t.nat Ent.SUPPLY_STATUS = t.plant.inWindow ∧
        (s.plant.sideA = true ∨ s.plant.sideB = true → s.raised t Evt.SUPPLY_RESTORED dom mv 0) ∧
        { t with plant := s.plant, cells := s.cells, ev := s.ev } = s)) ∧
    (∀ sideB : Bool, s.sideUp (b2n sideB) = false → s.plant.supplyEn = true → s.inWin vbkpBit = true →
      (sideDomains (b2n sideB)).all s.inWin = true → s.devState = Dev.OFF →
      ∃ t, exec (.sideResetRelease sideB) s = .next t ∧ t.sideUp (b2n sideB) = true ∧ t.devState = Dev.START ∧
        t.plant.released = s.ticks ∧ t.plant.offFrom = none) ∧
    (s.devState ≠ Dev.OFF → s.devState ≠ Dev.SHIP →
      ∃ t, exec .rstNAssert s = .next t ∧ t.devState = Dev.START ∧ t.die.ca = .off ∧ t.die.cb = .off ∧ t.die.lkA = false ∧
        t.die.lkB = false ∧ t.plant.startCause = 1 ∧ t.plant.rstAt = some (s.ticks + 20) ∧ t.tx.conns = [] ∧ t.keys = s.keys) ∧
    (∀ (c : Client) (v : Nat) (h : Held), s.accepts c Ent.RECOVERY_EXIT 0 (.num v) h →
      (s.inRecovery = false → ∃ t, exec (.recoveryExit c v) s = .next t ∧ t.repliesWith h St.CONFLICT ∧ t.plant = s.plant) ∧
      (s.inRecovery = true → s.keys.burnt = false →
        ∃ t, exec (.recoveryExit c v) s = .next t ∧ t.repliesWith h St.OK ∧ t.devState = Dev.START ∧ t.plant.startCause = 3 ∧
          t.plant.toRecovery = false ∧ t.die.ca = .off ∧ t.die.cb = .off)) ∧
    (∀ (c : Client) (v : Nat) (h : Held), s.accepts c Ent.TEST_ENTER 0 (.num v) h →
      (s.devState ≠ Dev.RECOVERY → ∃ t, exec (.testEnter c v) s = .next t ∧ t.repliesWith h St.CONFLICT ∧ t.plant = s.plant) ∧
      (s.devState = Dev.RECOVERY → ∃ t, exec (.testEnter c v) s = .next t ∧ t.repliesWith h St.OK ∧
        t.plant = { s.plant with testAt := some (s.frames + 1) })) ∧
    (∀ (gap : Nat) (ppm : Int) (us : Nat), ∃ t, exec (.refclkLost gap ppm us) s = .next t ∧
      (s.nat Ent.REFCLK_STATE = 1 ∨ (gap < 200 ∧ (ppm.natAbs ≤ 500 ∨ us < 10)) → t = s) ∧
      (s.nat Ent.REFCLK_STATE ≠ 1 → 200 ≤ gap ∨ (500 < ppm.natAbs ∧ 10 ≤ us) → t.nat Ent.REFCLK_STATE = 1 ∧
        s.raised t Evt.REFCLK_LOST 0 0 0 ∧ s.cellsKept t [Ent.REFCLK_STATE.key] ∧ { t with cells := s.cells, ev := s.ev } = s)) ∧
    (∀ ms : Nat, ∃ t, exec (.refclkRestored ms) s = .next t ∧
      (s.nat Ent.REFCLK_STATE ≠ 1 ∨ s.cycle ≠ 0 ∨ ms < 1000 → t = s) ∧
      (s.nat Ent.REFCLK_STATE = 1 → s.cycle = 0 → 1000 ≤ ms → t.nat Ent.REFCLK_STATE = 0 ∧ s.raised t Evt.REFCLK_RESTORED 0 0 0 ∧
        s.cellsKept t [Ent.REFCLK_STATE.key] ∧ { t with cells := s.cells, ev := s.ev } = s))

/-- A request to sleep or ship answers CONFLICT while something stands against it, else it is pending; 0 takes a request to
sleep back. A device at rest enters SLEEP with the radio silent and the mirror down; 24 sweeps after a wake the
carriers of its ropes start. A device at rest enters SHIP with its time stored and SUPPLY_EN low; a wake from SHIP
raises SUPPLY_EN and is start cause 2. -/
def Obligations.TheDeviceSleepsShipsAndWakes : Prop :=
  ∀ (s : State),
    (∀ (c : Client) (h : Held), s.accepts c Ent.SLEEP_REQUEST 0 (.num 1) h →
      (s.restConflict = true → ∃ t, exec (.sleepRequest c 1) s = .next t ∧ t.repliesWith h St.CONFLICT ∧ t.plant = s.plant) ∧
      (s.restConflict = false → ∃ t, exec (.sleepRequest c 1) s = .next t ∧ t.repliesWith h St.OK ∧ t.plant.sleep = true ∧
        t.flag Ent.SLEEP_REQUEST = true)) ∧
    (∀ (c : Client) (h : Held), s.accepts c Ent.SLEEP_REQUEST 0 (.num 0) h →
      ∃ t, exec (.sleepRequest c 0) s = .next t ∧ t.repliesWith h St.OK ∧ t.flag Ent.SLEEP_REQUEST = false ∧
        (s.devState ≠ Dev.SLEEP → t.plant.sleep = false)) ∧
    (s.plant.sleep = true → s.serving = true → s.readyToRest Com.SLEEP = true → s.plant.wakeDue = none →
      ∃ t, exec .sleepEntry s = .next t ∧ t.devState = Dev.SLEEP ∧ t.radio.cur = none ∧ t.radio.due = none ∧ t.plant.sleep = false ∧
        t.die.mirrorSync = false ∧ (∀ n, n < 8 → 0 < s.nat Ent.MONITOR_COUNT n → (t.rope n).carrier = false ∧
          t.nat Ent.ROPE_STATE n = Rope.OFF)) ∧
    (∀ b : Nat, s.plant.carrierAt = some b → b ≤ s.ticks → s.serving = true →
      ∃ t, exec .wakeCarrierStart s = .next t ∧ t.plant = { s.plant with carrierAt := none } ∧
        (∀ n, n < 8 → 0 < s.nat Ent.MONITOR_COUNT n → (s.rope n).phase = 0 → (t.rope n).carrier = true) ∧
        { t with plant := s.plant, ropes := s.ropes, out := s.out } = s) ∧
    (∀ (c : Client) (v : Nat) (h : Held), s.accepts c Ent.SHIP_REQUEST 0 (.num v) h →
      (s.restConflict = true → ∃ t, exec (.shipRequest c v) s = .next t ∧ t.repliesWith h St.CONFLICT ∧ t.plant = s.plant) ∧
      (s.restConflict = false → ∃ t, exec (.shipRequest c v) s = .next t ∧ t.repliesWith h St.OK ∧ t.plant.ship = true)) ∧
    (∀ flushes : List Flush, s.plant.ship = true → s.serving = true → s.readyToRest Com.SHIP = true →
      ∃ t, exec (.shipEntry flushes) s = .next t ∧ t.devState = Dev.SHIP ∧ t.plant.supplyEn = false ∧ t.plant.ship = false ∧
        t.time.backupSfn = s.sfn ∧ t.die.ca = .off ∧ t.die.cb = .off ∧ t.tx.conns = []) ∧
    (∀ mv ms : Nat, ∃ t, exec (.shipWake mv ms) s = .next t ∧
      (s.devState ≠ Dev.SHIP ∨ mv ≤ 1200 ∨ ms < 100 → t = s) ∧
      (s.devState = Dev.SHIP → 1200 < mv → 100 ≤ ms → t = { s with plant := { s.plant with supplyEn := true, startCause := 2 } }))

/-- An accepted CROSS_RESET with the seal closed answers CONFLICT, with the seal open and the point AGREE on M0 it answers
ALREADY_DONE, and neither changes anything but the request's own tag and answer and the list of
requests the frame has applied. In every other case it answers OK: the
point is AGREE, its BILLING_SOURCE is M0 when M0 runs and is not failed, and where the legal log has room one record
with the next sequence stands first in it. -/
def Obligations.CrossResetReturnsThePointToM0 : Prop :=
  ∀ (s : State) (c : Client) (pt v : Nat) (h : Held), s.accepts c Ent.CROSS_RESET pt (.num v) h →
    (s.flag Ent.LEGAL_SEAL_STATE = false →
      ∃ t, exec (.crossReset c pt v) s = .next t ∧ t.repliesWith h St.CONFLICT ∧
        { t with tx := s.tx, cells := s.cells, waiting := s.waiting, mirror := s.mirror } = s ∧
        t.nat Ent.CROSS_STATE pt = s.nat Ent.CROSS_STATE pt ∧ t.billSource pt = s.billSource pt) ∧
    (s.flag Ent.LEGAL_SEAL_STATE = true → s.nat Ent.CROSS_STATE pt = Cross.AGREE → s.billSource pt = 0 →
      ∃ t, exec (.crossReset c pt v) s = .next t ∧ t.repliesWith h St.ALREADY_DONE ∧
        { t with tx := s.tx, cells := s.cells, waiting := s.waiting, mirror := s.mirror } = s ∧
        t.nat Ent.CROSS_STATE pt = Cross.AGREE ∧ t.billSource pt = 0) ∧
    (s.flag Ent.LEGAL_SEAL_STATE = true → (s.nat Ent.CROSS_STATE pt ≠ Cross.AGREE ∨ s.billSource pt ≠ 0) →
      ∃ t, exec (.crossReset c pt v) s = .next t ∧ t.repliesWith h St.OK ∧ t.nat Ent.CROSS_STATE pt = Cross.AGREE ∧
        (s.meterRunning 0 = true → s.meterFailed 0 = false → t.billSource pt = 0) ∧
        (s.legalFull = false → t.legal.seq = nextSeq s.legal.seq ∧ ∃ r, t.legal.log = (nextSeq s.legal.seq, r) :: s.legal.log))

/-- For every command and every state exec answers a next state whose queue is that of the state before (log entry 12
declares the queue the model's own). Every command but CYCLE_TICK leaves the count of ticks and the cycle as they are,
and CYCLE_TICK moves each on by one, the cycle modulo 20. -/
def Obligations.EveryCommandCompletesAndOnlyTheTickMovesTheClock : Prop :=
  ∀ (c : Instr) (s : State), ∃ t, exec c s = .next t ∧ t.pending = s.pending ∧
    ((∀ x, c ≠ .cycleTick x) → t.ticks = s.ticks ∧ t.cycle = s.cycle) ∧
    (∀ x, c = .cycleTick x → t.ticks = s.ticks + 1 ∧ t.cycle = (s.cycle + 1) % 20)

/-- Whatever command stands at the front of the queue, and in every state in which the cycle is the count of ticks since
the power-up modulo 20, a step that answers a next state answers one in which it is so again. -/
def Obligations.EveryStepKeepsTheClockInStep : Prop :=
  ∀ (s t : State), s.inStep → step s = .next t → t.inStep
end

