-- ==== Sys2Proof/Laws/Clock.lean ====
section
/-!
SUPPORT. The clock of the device and the queue of commands: what a change keeps of them. Only CYCLE_TICK moves the clock, so every
other operation has one lemma here and in the files Clock*: the clock after it is the clock before it.
-/
namespace Sys2Proof.Machine
open Sys2Proof

/-- The ticks, the cycle within the frame and the commands that wait. -/
def State.clock (s : State) : Nat × Nat × List Instr := (s.ticks, s.cycle, s.pending)

@[simp] theorem State.clock_eta (s : State) : (s.ticks, s.cycle, s.pending) = s.clock := rfl
@[simp] theorem State.clock_mk {x0} {x1} {x2} {x3} {x4} {x5} {x6} {x7} {x8} {x9} {x10} {x11} {x12} {x13} {x14} {x15} {x16} {x17} {x18} {x19} {x20} {x21} {x22} {x23} {x24} {x25} {x26} {x27} {x28} {x29} {x30} {x31} {x32} {x33} {x34} {x35} {x36} {x37} {x38} {x39} {x40} {x41} {x42} {x43} {x44} {x45} {x46} {x47} {x48} {x49} {x50} {x51} {x52} {x53} {x54} {x55} {x56} {x57} {x58} :
    (State.mk x0 x1 x2 x3 x4 x5 x6 x7 x8 x9 x10 x11 x12 x13 x14 x15 x16 x17 x18 x19 x20 x21 x22 x23 x24 x25 x26 x27 x28 x29 x30 x31 x32 x33 x34 x35 x36 x37 x38 x39 x40 x41 x42 x43 x44 x45 x46 x47 x48 x49 x50 x51 x52 x53 x54 x55 x56 x57 x58).clock = (x1, x3, x0) := rfl
@[simp] theorem State.clock_ite (c : Prop) [Decidable c] (a b : State) : (if c then a else b).clock = if c then a.clock else b.clock := by
  split <;> rfl

@[simp] theorem State.each_clock {α : Type} (s : State) (l : List α) (f : State → α → State) (h : ∀ z a, (f z a).clock = z.clock) :
    (s.each l f).clock = s.clock := by
  unfold State.each
  induction l generalizing s with
  | nil => rfl
  | cons a r ih => rw [List.foldl_cons, ih, h]

@[simp] theorem State.when_clock (s : State) (c : Bool) (f : State → State) (h : ∀ z, (f z).clock = z.clock) :
    (s.when c f).clock = s.clock := by
  unfold State.when; split <;> simp [h]

/-- An operation answered beside a state keeps the clock in the projection. -/
theorem pair_clock {α : Type} {s : State} {p : State × α} {a : State} {b : α} (e : p = (a, b)) (h : p.1.clock = s.clock) :
    a.clock = s.clock := by subst e; exact h

theorem bill_clock (s : State) (b : BillSt) : ({ s with bill := b }).clock = s.clock := rfl

theorem pw_clock (s : State) (x : PowerSt) : ({ s with pw := x }).clock = s.clock := rfl
theorem time_clock (s : State) (x : TimeSt) : ({ s with time := x }).clock = s.clock := rfl
theorem alloc_clock (s : State) (x : AllocSt) : ({ s with alloc := x }).clock = s.clock := rfl
theorem bus_clock (s : State) (x : BusSt) : ({ s with bus := x }).clock = s.clock := rfl
theorem stream_clock (s : State) (x : StreamSt) : ({ s with stream := x }).clock = s.clock := rfl
theorem asks_clock (s : State) (x y) : ({ s with swapAsks := x, swapNext := y }).clock = s.clock := rfl

/-- A fold over states keeps what each step keeps. -/
theorem foldl_clock {α β : Type} (l : List α) (f : β → α → β) (g : β → Nat × Nat × List Instr) (b : β)
    (h : ∀ z a, g (f z a) = g z) : g (l.foldl f b) = g b := by
  induction l generalizing b with
  | nil => rfl
  | cons a r ih => rw [List.foldl_cons, ih, h]

end Sys2Proof.Machine
end

