-- ==== Sys2Proof/Laws/ClockDictionary.lean ====
section
/-!
SUPPORT. The clock and the queue of commands as the operations of Machine/Dictionary keep them.
-/
namespace Sys2Proof.Machine
open Sys2Proof

@[simp] theorem State.put_clock (s : State) (e : Entry) (n : ℕ) (j : ℕ) (v : Val) : (State.put s e n j v).clock = s.clock := by
  simp [State.put]

@[simp] theorem State.putShadow_clock (s : State) (e : Entry) (n : ℕ) (j : ℕ) (v : Val) : (State.putShadow s e n j v).clock = s.clock := by
  simp [State.putShadow]

@[simp] theorem State.setInt_clock (s : State) (e : Entry) (n : ℕ) (v : ℤ) (j : ℕ) : (State.setInt s e n v j).clock = s.clock := by
  simp [State.setInt]

@[simp] theorem State.setNat_clock (s : State) (e : Entry) (n : ℕ) (v : ℕ) (j : ℕ) : (State.setNat s e n v j).clock = s.clock := by
  simp [State.setNat]

@[simp] theorem State.setFlag_clock (s : State) (e : Entry) (n : ℕ) (v : Bool) (j : ℕ) : (State.setFlag s e n v j).clock = s.clock := by
  simp [State.setFlag]

@[simp] theorem State.setBytes_clock (s : State) (e : Entry) (n : ℕ) (v : List Byte) (j : ℕ) : (State.setBytes s e n v j).clock = s.clock := by
  simp [State.setBytes]

@[simp] theorem State.setRat_clock (s : State) (e : Entry) (n : ℕ) (v : ℚ) (j : ℕ) : (State.setRat s e n v j).clock = s.clock := by
  simp [State.setRat]

end Sys2Proof.Machine
end

