-- ==== Sys2Proof/Laws/ClockOps.lean ====
section
/-!
SUPPORT. The clock and the queue of commands as the operations of Machine/Ops keep them.
-/
namespace Sys2Proof.Machine
open Sys2Proof

@[simp] theorem State.takeFree_clock (s : State) : (State.takeFree s).2.clock = s.clock := by
  simp [State.takeFree]

@[simp] theorem State.takeFreeRat_clock (s : State) : (State.takeFreeRat s).2.clock = s.clock := by
  simp [State.takeFreeRat]

@[simp] theorem State.raiseWith_clock (s : State) (onBehalf : Bool) (k : EvKind) (inst : ℕ) (p1 : ℕ) (p2 : ℕ) : (State.raiseWith s onBehalf k inst p1 p2).clock = s.clock := by
  simp [State.raiseWith]

@[simp] theorem State.raise_clock (s : State) (k : EvKind) (inst : ℕ) (p1 : ℕ) (p2 : ℕ) : (State.raise s k inst p1 p2).clock = s.clock := by
  simp [State.raise]

@[simp] theorem State.send_clock (s : State) (m : Msg) : (State.send s m).clock = s.clock := by
  simp [State.send]

@[simp] theorem State.sendHeld_clock (s : State) (m : Msg) : (State.sendHeld s m).clock = s.clock := by
  simp [State.sendHeld]

@[simp] theorem State.noteIn_clock (s : State) (i : Instr) : (State.noteIn s i).clock = s.clock := by
  simp [State.noteIn]

@[simp] theorem State.bump_clock (s : State) (e : Entry) (n : ℕ) (j : ℕ) (by_ : ℕ) : (State.bump s e n j by_).clock = s.clock := by
  simp [State.bump]

@[simp] theorem State.fitNat_clock (s : State) (e : Entry) (n : ℕ) (v : ℕ) (j : ℕ) : (State.fitNat s e n v j).clock = s.clock := by
  simp [State.fitNat]

@[simp] theorem State.fitInt_clock (s : State) (e : Entry) (n : ℕ) (v : ℤ) (j : ℕ) : (State.fitInt s e n v j).clock = s.clock := by
  simp [State.fitInt]

@[simp] theorem State.eachSession_clock (s : State) (f : Sess → Sess) : (State.eachSession s f).clock = s.clock := by
  simp [State.eachSession]

theorem ok_clock (s : State) :
    ∃ t, ok s = .next t ∧ t.clock = s.clock := by
  exact ⟨_, rfl, by simp⟩

end Sys2Proof.Machine
end

