-- ==== Sys2Proof/Laws/ClockEngine.lean ====
section
/-!
SUPPORT. The clock and the queue of commands as the operations of Machine/Engine keep them.
-/
namespace Sys2Proof.Machine
open Sys2Proof

@[simp] theorem State.takeTag_clock (s : State) (tag : ℕ) (conn : Option ℕ) : (State.takeTag s tag conn).clock = s.clock := by
  simp [State.takeTag]

@[simp] theorem State.dropTag_clock (s : State) (tag : ℕ) : (State.dropTag s tag).clock = s.clock := by
  simp [State.dropTag]

@[simp] theorem State.keep_clock (s : State) (k : Kept) : (State.keep s k).clock = s.clock := by
  simp [State.keep]

@[simp] theorem State.badHeader_clock (s : State) (c : Client) (op : ℕ) : (State.badHeader s c op).clock = s.clock := by
  simp [State.badHeader]

@[simp] theorem State.refuse_clock (s : State) (h : Held) (status : ℕ) (body : List Byte) : (State.refuse s h status body).clock = s.clock := by
  simp [State.refuse]

@[simp] theorem State.answerLater_clock (s : State) (h : Held) (status : ℕ) (body : List Byte) : (State.answerLater s h status body).clock = s.clock := by
  simp [State.answerLater]

@[simp] theorem State.hold_clock (s : State) (h : Held) : (State.hold s h).clock = s.clock := by
  simp [State.hold]

@[simp] theorem State.noteApplied_clock (s : State) (h : Held) : (State.noteApplied s h).clock = s.clock := by
  simp [State.noteApplied]

@[simp] theorem State.receiveRequest_clock (s : State) (c : Client) (op : ℕ) (items : List WItem) (check : State → Held → State × ℕ × List Byte) (go : State → Held → State) (hcheck : ∀ z a, (check z a).1.clock = z.clock) (hgo : ∀ z a, (go z a).clock = z.clock) : (State.receiveRequest s c op items check go).clock = s.clock := by
  unfold State.receiveRequest
  (try dsimp only)
  (repeat' split) <;> simp [*]

@[simp] theorem State.clientCommand_clock (s : State) (c : Client) (e : Entry) (n : ℕ) (v : Val) (act : State → State × ℕ) (j : ℕ) (hact : ∀ z, (act z).1.clock = z.clock) : (State.clientCommand s c e n v act j).clock = s.clock := by
  unfold State.clientCommand; (repeat' split) <;> simp [*]

end Sys2Proof.Machine
end

