-- ==== Sys2Proof/Laws/ClockStreams.lean ====
section
/-!
SUPPORT. The clock and the queue of commands as the operations of Machine/Streams keep them.
-/
namespace Sys2Proof.Machine
open Sys2Proof

@[simp] theorem State.setStrm_clock (s : State) (t : ℕ) (q : StreamQ) : (State.setStrm s t q).clock = s.clock := by
  simp [State.setStrm]

@[simp] theorem State.reportDrops_clock (s : State) (t : ℕ) : (State.reportDrops s t).clock = s.clock := by
  simp [State.reportDrops]

@[simp] theorem State.streamRecord_clock (s : State) (t : ℕ) (r : List Byte) : (State.streamRecord s t r).clock = s.clock := by
  simp [State.streamRecord]

@[simp] theorem State.holdRecord_clock (s : State) (t : ℕ) (r : List Byte) : (State.holdRecord s t r).clock = s.clock := by
  simp [State.holdRecord]

@[simp] theorem State.streamLog_clock (s : State) (kind : ℕ) (r : List Byte) : (State.streamLog s kind r).clock = s.clock := by
  simp [State.streamLog]

@[simp] theorem State.streamEvents_clock (s : State) : (State.streamEvents s).clock = s.clock := by
  simp [State.streamEvents]

@[simp] theorem State.mirrorBus_clock (s : State) (ch : ℕ) (state : ℕ) (id : ℕ) (own : Bool) (sof : ℕ) (data : List Byte) : (State.mirrorBus s ch state id own sof data).clock = s.clock := by
  simp [State.mirrorBus]

@[simp] theorem State.streamBus_clock (s : State) : (State.streamBus s).clock = s.clock := by
  simp [State.streamBus]

@[simp] theorem State.noteRaw_clock (s : State) (w : ℕ) (radio : ℕ) (slot : ℕ) (rssi : ℤ) (good : Bool) (raw : List Byte) : (State.noteRaw s w radio slot rssi good raw).clock = s.clock := by
  simp [State.noteRaw]

@[simp] theorem State.streamSweep_clock (s : State) (w : ℕ) : (State.streamSweep s w).clock = s.clock := by
  simp [State.streamSweep]

end Sys2Proof.Machine
end

