-- ==== Sys2Proof/Laws/ClockModuleBus.lean ====
section
/-!
SUPPORT. The clock and the queue of commands as the operations of Machine/ModuleBus keep them.
-/
namespace Sys2Proof.Machine
open Sys2Proof

@[simp] theorem State.setUnitSt_clock (s : State) (u : ℕ) (x : UnitSt) : (State.setUnitSt s u x).clock = s.clock := by
  simp [State.setUnitSt]

@[simp] theorem State.setUnitNat_clock (s : State) (m : Entry) (f : Entry) (u : ℕ) (v : ℕ) : (State.setUnitNat s m f u v).clock = s.clock := by
  simp [State.setUnitNat]

@[simp] theorem State.setCan_clock (s : State) (ch : ℕ) (x : CanSt) : (State.setCan s ch x).clock = s.clock := by
  simp [State.setCan]

@[simp] theorem State.initBus_clock (s : State) (ch : ℕ) : (State.initBus s ch).clock = s.clock := by
  simp [State.initBus]

@[simp] theorem State.placeBus_clock (s : State) : (State.placeBus s).clock = s.clock := by
  simp [State.placeBus]

@[simp] theorem State.silenceBus_clock (s : State) (old : State) : (State.silenceBus s old).clock = s.clock := by
  simp [State.silenceBus]

@[simp] theorem State.enqueue_clock (s : State) (from_ : ℕ) (m : Msg) : (State.enqueue s from_ m).clock = s.clock := by
  simp [State.enqueue]

@[simp] theorem State.sendBus_clock (s : State) (m : Msg) : (State.sendBus s m).clock = s.clock := by
  simp [State.sendBus]

@[simp] theorem State.flushBus_clock (s : State) : (State.flushBus s).clock = s.clock := by
  simp [State.flushBus]

@[simp] theorem State.rerouteBus_clock (s : State) (u : ℕ) : (State.rerouteBus s u).clock = s.clock := by
  simp [State.rerouteBus]

@[simp] theorem State.placeUnits_clock (s : State) : (State.placeUnits s).clock = s.clock := by
  simp [State.placeUnits]

@[simp] theorem State.noteRehome_clock (s : State) (e : Entry) (n : ℕ) : (State.noteRehome s e n).clock = s.clock := by
  simp [State.noteRehome]

@[simp] theorem State.sendMarks_clock (s : State) : (State.sendMarks s).clock = s.clock := by
  simp [State.sendMarks]

@[simp] theorem State.setGrants_clock (s : State) (u : ℕ) (g : UnitGrant) : (State.setGrants s u g).clock = s.clock := by
  simp [State.setGrants]

@[simp] theorem State.command_clock (s : State) (m : ℕ) (sub : ℕ) (body : List Byte) : (State.command s m sub body).clock = s.clock := by
  simp [State.command]

@[simp] theorem State.target_clock (s : State) (m : ℕ) (mode : ℕ) (volts : ℕ) (amps : ℕ) : (State.target s m mode volts amps).clock = s.clock := by
  simp [State.target]

@[simp] theorem State.switchModule_clock (s : State) (m : ℕ) (outlet : ℕ) : (State.switchModule s m outlet).clock = s.clock := by
  simp [State.switchModule]

@[simp] theorem State.clearFault_clock (s : State) (m : ℕ) (code : ℕ) : (State.clearFault s m code).clock = s.clock := by
  simp [State.clearFault]

@[simp] theorem State.startXfer_clock (s : State) (u : ℕ) (write : Bool) (index : ℕ) (sub : ℕ) (type : ℕ) (value : List Byte) : (State.startXfer s u write index sub type value).clock = s.clock := by
  unfold State.startXfer; split <;> simp

@[simp] theorem State.endXfer_clock (s : State) (tag : ℕ) : (State.endXfer s tag).clock = s.clock := by
  unfold State.endXfer; dsimp only; (repeat' split) <;> simp [*]

@[simp] theorem State.writeCap_clock (s : State) (f : ℕ) (exp : Bool) : (State.writeCap s f exp).clock = s.clock := by
  simp [State.writeCap]

@[simp] theorem State.holdCap_clock (s : State) (f : ℕ) (exp : Bool) (old : ℕ) : (State.holdCap s f exp old).clock = s.clock := by
  simp [State.holdCap]

@[simp] theorem State.pendCap_clock (s : State) (f : ℕ) (exp : Bool) (old : ℕ) : (State.pendCap s f exp old).clock = s.clock := by
  simp [State.pendCap]

@[simp] theorem State.confirmCap_clock (s : State) (f : ℕ) (exp : Bool) : (State.confirmCap s f exp).clock = s.clock := by
  simp [State.confirmCap]

@[simp] theorem State.checkProfile_clock (s : State) (u : ℕ) : (State.checkProfile s u).clock = s.clock := by
  simp [State.checkProfile]

@[simp] theorem State.ringPut_clock (s : State) (r : CanRx) (row : Instr) : (State.ringPut s r row).clock = s.clock := by
  simp [State.ringPut]

@[simp] theorem State.drainRings_clock (s : State) : (State.drainRings s).clock = s.clock := by
  unfold State.drainRings
  refine State.each_clock _ _ _ fun z ch => ?_
  dsimp only
  split
  · rfl
  · exact (foldl_clock _ _ State.clock _ (fun z a => by simp)).trans (by simp)

@[simp] theorem State.hear_clock (s : State) (r : CanRx) (fits : Bool) (go : State → ℕ → State) (hgo : ∀ z a, (go z a).clock = z.clock) : (State.hear s r fits go).clock = s.clock := by
  unfold State.hear; (repeat' split) <;> simp [*]

@[simp] theorem State.receive_clock (s : State) (row : Instr) (r : CanRx) (fits : Bool) (go : State → ℕ → State) (hgo : ∀ z a, (go z a).clock = z.clock) : (State.receive s row r fits go).clock = s.clock := by
  unfold State.receive
  (try dsimp only)
  (repeat' split) <;> simp [*]

@[simp] theorem State.watchStatus_clock (s : State) : (State.watchStatus s).clock = s.clock := by
  simp [State.watchStatus]

end Sys2Proof.Machine
end

