-- ==== Sys2Proof/Laws/ClockActions.lean ====
section
/-!
SUPPORT. The clock and the queue of commands as the operations of Machine/Actions keep them.
-/
namespace Sys2Proof.Machine
open Sys2Proof

@[simp] theorem applyArm_clock (i : ℕ) (s : State) : (applyArm i s).1.clock = s.clock := by
  unfold applyArm; dsimp only; (repeat' split) <;> simp [*]

@[simp] theorem State.setGroup_clock (s : State) (i : ℕ) (g : GroupAct) : (State.setGroup s i g).clock = s.clock := by
  simp [State.setGroup]

@[simp] theorem State.sendPhase_clock (s : State) (i : ℕ) (op : ℕ) (u : ℕ) (b : List Byte) : (State.sendPhase s i op u b).clock = s.clock := by
  unfold State.sendPhase; split <;> simp

@[simp] theorem State.sendTwoPhase_clock (s : State) (i : ℕ) (op : ℕ) (units : List ℕ) : (State.sendTwoPhase s i op units).clock = s.clock := by
  simp [State.sendTwoPhase]

@[simp] theorem State.actionEvent_clock (s : State) (k : EvKind) (i : ℕ) (p2 : ℕ) : (State.actionEvent s k i p2).clock = s.clock := by
  simp [State.actionEvent]

@[simp] theorem State.cancelAction_clock (s : State) (i : ℕ) (result : ℕ) : (State.cancelAction s i result).clock = s.clock := by
  simp [State.cancelAction]

@[simp] theorem State.cancelGroup_clock (s : State) (i : ℕ) (result : ℕ) : (State.cancelGroup s i result).clock = s.clock := by
  simp [State.cancelGroup]

@[simp] theorem applyCancel_clock (i : ℕ) (s : State) : (applyCancel i s).1.clock = s.clock := by
  unfold applyCancel; dsimp only; (repeat' split) <;> simp [*]

@[simp] theorem State.dropGroup_clock (s : State) (i : ℕ) : (State.dropGroup s i).clock = s.clock := by
  unfold State.dropGroup; split <;> simp

@[simp] theorem applyFree_clock (i : ℕ) (s : State) : (applyFree i s).1.clock = s.clock := by
  unfold applyFree; dsimp only; (repeat' split) <;> simp [*]

theorem execActionArm_clock (c : Client) (i : ℕ) (s : State) :
    ∃ t, execActionArm c i s = .next t ∧ t.clock = s.clock := by
  exact ⟨_, rfl, by simp⟩

theorem execActionCancel_clock (c : Client) (i : ℕ) (s : State) :
    ∃ t, execActionCancel c i s = .next t ∧ t.clock = s.clock := by
  exact ⟨_, rfl, by simp⟩

theorem execActionFree_clock (c : Client) (i : ℕ) (s : State) :
    ∃ t, execActionFree c i s = .next t ∧ t.clock = s.clock := by
  exact ⟨_, rfl, by simp⟩

@[simp] theorem State.announce_clock (s : State) (i : ℕ) : (State.announce s i).clock = s.clock := by
  simp [State.announce]

@[simp] theorem State.writePendingCaps_clock (s : State) (i : ℕ) : (State.writePendingCaps s i).clock = s.clock := by
  simp [State.writePendingCaps]

@[simp] theorem State.pendingCapDone_clock (s : State) (f : ℕ) : (State.pendingCapDone s f).clock = s.clock := by
  unfold State.pendingCapDone; split <;> simp

theorem execAnnouncePoint_clock (i : Fin 1024) (s : State) :
    ∃ t, execAnnouncePoint i s = .next t ∧ t.clock = s.clock := by
  unfold execAnnouncePoint; (repeat' split) <;> exact ⟨_, rfl, by simp [*]⟩

@[simp] theorem State.repeatTo_clock (s : State) (i : ℕ) (op : ℕ) (silent : Part → Bool) : (State.repeatTo s i op silent).clock = s.clock := by
  simp [State.repeatTo]

theorem execAnnounceRepeat_clock (i : Fin 1024) (s : State) :
    ∃ t, execAnnounceRepeat i s = .next t ∧ t.clock = s.clock := by
  unfold execAnnounceRepeat; split <;> exact ⟨_, rfl, by simp⟩

@[simp] theorem State.notReady_clock (s : State) (i : ℕ) (units : List ℕ) (reason : ℕ) : (State.notReady s i units reason).clock = s.clock := by
  simp [State.notReady]

theorem execGoRepeat_clock (i : Fin 1024) (s : State) :
    ∃ t, execGoRepeat i s = .next t ∧ t.clock = s.clock := by
  unfold execGoRepeat; split <;> exact ⟨_, rfl, by simp⟩

theorem execCancelGuardPoint_clock (i : Fin 1024) (s : State) :
    ∃ t, execCancelGuardPoint i s = .next t ∧ t.clock = s.clock := by
  unfold execCancelGuardPoint; dsimp only; (repeat' split) <;> exact ⟨_, rfl, by simp [*]⟩

theorem execCancelRepeat_clock (i : Fin 1024) (s : State) :
    ∃ t, execCancelRepeat i s = .next t ∧ t.clock = s.clock := by
  exact ⟨_, rfl, by simp⟩

theorem execDoneCheckPoint_clock (i : Fin 1024) (s : State) :
    ∃ t, execDoneCheckPoint i s = .next t ∧ t.clock = s.clock := by
  unfold execDoneCheckPoint; split <;> exact ⟨_, rfl, by simp⟩

@[simp] theorem State.notePart_clock (s : State) (i : ℕ) (unit : ℕ) (f : Part → Part) : (State.notePart s i unit f).clock = s.clock := by
  simp [State.notePart]

@[simp] theorem State.hearPhase_clock (s : State) (row : Instr) (sub : ℕ) (m : TwoPhase) (go : State → TwoPhase → State) (hgo : ∀ z a, (go z a).clock = z.clock) : (State.hearPhase s row sub m go).clock = s.clock := by
  unfold State.hearPhase; (repeat' split) <;> simp [*]

theorem execReady_clock (i : Fin 1024) (m : TwoPhase) (s : State) :
    ∃ t, execReady i m s = .next t ∧ t.clock = s.clock := by
  exact ⟨_, rfl, by simp⟩

theorem execNotReady_clock (i : Fin 1024) (m : TwoPhase) (reason : ℕ) (s : State) :
    ∃ t, execNotReady i m reason s = .next t ∧ t.clock = s.clock := by
  exact ⟨_, rfl, by simp⟩

theorem execGoAck_clock (i : Fin 1024) (m : TwoPhase) (s : State) :
    ∃ t, execGoAck i m s = .next t ∧ t.clock = s.clock := by
  exact ⟨_, rfl, by simp⟩

theorem execCancelAck_clock (i : Fin 1024) (m : TwoPhase) (s : State) :
    ∃ t, execCancelAck i m s = .next t ∧ t.clock = s.clock := by
  exact ⟨_, rfl, by simp⟩

theorem execDone_clock (i : Fin 1024) (m : TwoPhase) (status : ℕ) (s : State) :
    ∃ t, execDone i m status s = .next t ∧ t.clock = s.clock := by
  unfold execDone; (repeat' split) <;> exact ⟨_, rfl, by simp [*]⟩

end Sys2Proof.Machine
end

