-- ==== Sys2Proof/Laws/ClockLegal.lean ====
section
/-!
SUPPORT. The clock and the queue of commands as the operations of Machine/Legal keep them.
-/
namespace Sys2Proof.Machine
open Sys2Proof

@[simp] theorem State.setMeter_clock (s : State) (d : ℕ) (pt : ℕ) (k : MeterPt) : (State.setMeter s d pt k).clock = s.clock := by
  simp [State.setMeter]

@[simp] theorem State.setPoint_clock (s : State) (pt : ℕ) (k : PointSt) : (State.setPoint s pt k).clock = s.clock := by
  simp [State.setPoint]

@[simp] theorem State.showPoint_clock (s : State) (pt : ℕ) : (State.showPoint s pt).clock = s.clock := by
  simp [State.showPoint]

@[simp] theorem State.showLegal_clock (s : State) : (State.showLegal s).clock = s.clock := by
  simp [State.showLegal]

@[simp] theorem State.legalLog_clock (s : State) (kind : ℕ) (origin : ℕ) (object : ℕ) (p1 : ℕ) (p2 : ℕ) : (State.legalLog s kind origin object p1 p2).clock = s.clock := by
  simp [State.legalLog]

@[simp] theorem State.markInterval_clock (s : State) (i : ℕ) : (State.markInterval s i).clock = s.clock := by
  simp [State.markInterval]

@[simp] theorem State.markPoint_clock (s : State) (pt : ℕ) (i : ℕ) : (State.markPoint s pt i).clock = s.clock := by
  simp [State.markPoint]

@[simp] theorem State.resumeSession_clock (s : State) (pt : ℕ) (d : ℕ) : (State.resumeSession s pt d).clock = s.clock := by
  unfold State.resumeSession; (repeat' split) <;> simp

@[simp] theorem State.logSource_clock (s : State) (pt : ℕ) : (State.logSource s pt).clock = s.clock := by
  simp [State.logSource]

@[simp] theorem State.setSource_clock (s : State) (pt : ℕ) (d : ℕ) (cause : ℕ) : (State.setSource s pt d cause).clock = s.clock := by
  simp [State.setSource]

@[simp] theorem State.abandonStagger_clock (s : State) (cause : ℕ) : (State.abandonStagger s cause).clock = s.clock := by
  unfold State.abandonStagger; split <;> simp

@[simp] theorem State.metersSingle_clock (s : State) (d : ℕ) (diag : ℕ) : (State.metersSingle s d diag).clock = s.clock := by
  simp [State.metersSingle]

end Sys2Proof.Machine
end

