-- ==== Sys2Proof/Laws/ClockMeasurement.lean ====
section
/-!
SUPPORT. The clock and the queue of commands as the operations of Machine/Measurement keep them.
-/
namespace Sys2Proof.Machine
open Sys2Proof

@[simp] theorem State.setChanSt_clock (s : State) (ch : ℕ) (c : ChanSt) : (State.setChanSt s ch c).clock = s.clock := by
  simp [State.setChanSt]

@[simp] theorem State.setBank_clock (s : State) (b : ℕ) (x : Bank) : (State.setBank s b x).clock = s.clock := by
  simp [State.setBank]

@[simp] theorem State.showBank_clock (s : State) (b : ℕ) : (State.showBank s b).clock = s.clock := by
  simp [State.showBank]

@[simp] theorem State.startBanks_clock (s : State) (d : ℕ) : (State.startBanks s d).clock = s.clock := by
  simp [State.startBanks]

@[simp] theorem State.setCorrection_clock (s : State) (b : ℕ) (i : ℕ) (offset : ℤ) (gain : ℤ) (skew : ℤ) : (State.setCorrection s b i offset gain skew).clock = s.clock := by
  simp [State.setCorrection]

@[simp] theorem State.showChan_clock (s : State) (ch : ℕ) (v0 : Bool) (v1 : Bool) (source : Bool) (c0 : ℕ) (c1 : ℕ) : (State.showChan s ch v0 v1 source c0 c1).clock = s.clock := by
  simp [State.showChan]

@[simp] theorem State.chooseSource_clock (s : State) (ch : ℕ) (v0 : Bool) (v1 : Bool) (c0 : ℕ) (c1 : ℕ) : (State.chooseSource s ch v0 v1 c0 c1).clock = s.clock := by
  simp [State.chooseSource]

@[simp] theorem State.takeWindow_clock (s : State) (d : ℕ) (w : Window) : (State.takeWindow s d w).clock = s.clock := by
  simp [State.takeWindow]

@[simp] theorem State.chooseSources_clock (s : State) : (State.chooseSources s).clock = s.clock := by
  simp [State.chooseSources]

@[simp] theorem State.accumulate_clock (s : State) : (State.accumulate s).clock = s.clock := by
  simp [State.accumulate]

@[simp] theorem State.invalidateDie_clock (s : State) (d : ℕ) : (State.invalidateDie s d).clock = s.clock := by
  simp [State.invalidateDie]

@[simp] theorem State.failMeter_clock (s : State) (d : ℕ) (diag : ℕ) : (State.failMeter s d diag).clock = s.clock := by
  simp [State.failMeter]

@[simp] theorem State.failMeterFree_clock (s : State) (d : ℕ) : (State.failMeterFree s d).clock = s.clock := by
  simp [State.failMeterFree]

@[simp] theorem State.buildSlots_clock (s : State) : (State.buildSlots s).clock = s.clock := by
  simp [State.buildSlots]

@[simp] theorem State.askRebuild_clock (s : State) (d : ℕ) : (State.askRebuild s d).clock = s.clock := by
  simp [State.askRebuild]

@[simp] theorem State.retireSlice_clock (s : State) (b : ℕ) (i : ℕ) (cause : ℕ) : (State.retireSlice s b i cause).clock = s.clock := by
  simp [State.retireSlice]

theorem execSliceRetired_clock (bank : Fin 4) (slice : Fin 9) (c : SliceCheck) (s : State) :
    ∃ t, execSliceRetired bank slice c s = .next t ∧ t.clock = s.clock := by
  unfold execSliceRetired; dsimp only; (repeat' split) <;> exact ⟨_, rfl, by simp [*]⟩

theorem execSpareDwellEnd_clock (bank : Fin 4) (r : SpareCal) (s : State) :
    ∃ t, execSpareDwellEnd bank r s = .next t ∧ t.clock = s.clock := by
  unfold execSpareDwellEnd; dsimp only; (repeat' split) <;> exact ⟨_, rfl, by simp [*]⟩

@[simp] theorem State.rebuildSlots_clock (s : State) (d : ℕ) : (State.rebuildSlots s d).clock = s.clock := by
  simp [State.rebuildSlots]

theorem execSlotTableRebuild_clock (die : Fin 2) (s : State) :
    ∃ t, execSlotTableRebuild die s = .next t ∧ t.clock = s.clock := by
  unfold execSlotTableRebuild; dsimp only; (repeat' split) <;> exact ⟨_, rfl, by simp [*]⟩

@[simp] theorem State.refuseCapture_clock (s : State) (reason : ℕ) : (State.refuseCapture s reason).clock = s.clock := by
  simp [State.refuseCapture]

@[simp] theorem State.trigger_clock (s : State) (forced : Bool) (ns : ℕ) (x : ℕ) : (State.trigger s forced ns x).clock = s.clock := by
  unfold State.trigger; (repeat' split) <;> simp

theorem execCaptureTrigger_clock (x : ℕ) (ns : ℕ) (s : State) :
    ∃ t, execCaptureTrigger x ns s = .next t ∧ t.clock = s.clock := by
  unfold execCaptureTrigger; split <;> exact ⟨_, rfl, by simp⟩

@[simp] theorem applyCaptureForce_clock (s : State) : (applyCaptureForce s).1.clock = s.clock := by
  unfold applyCaptureForce; split <;> simp

theorem execCaptureForce_clock (c : Client) (v : ℕ) (s : State) :
    ∃ t, execCaptureForce c v s = .next t ∧ t.clock = s.clock := by
  exact ⟨_, rfl, by simp⟩

theorem execCaptureDone_clock (d : CaptureData) (s : State) :
    ∃ t, execCaptureDone d s = .next t ∧ t.clock = s.clock := by
  unfold execCaptureDone; split <;> exact ⟨_, rfl, by simp⟩

end Sys2Proof.Machine
end

