-- ==== Sys2Proof/Laws/ClockTests.lean ====
section
/-!
SUPPORT. The clock and the queue of commands as the operations of Machine/Tests keep them.
-/
namespace Sys2Proof.Machine
open Sys2Proof

@[simp] theorem State.setTests_clock (s : State) (l : List QTest) : (State.setTests s l).clock = s.clock := by
  simp [State.setTests]

@[simp] theorem State.beginTest_clock (s : State) (target : ℕ) (slot : Option ℕ) : (State.beginTest s target slot).clock = s.clock := by
  simp [State.beginTest]

@[simp] theorem State.endTest_clock (s : State) (target : ℕ) (status : ℕ) : (State.endTest s target status).clock = s.clock := by
  unfold State.endTest; (repeat' split) <;> simp

@[simp] theorem State.testOrQueue_clock (s : State) (target : ℕ) (value : List Byte) (queue : Bool) (inService : Bool) (start : State → Option ℕ → State) (hstart : ∀ z a, (start z a).clock = z.clock) : (State.testOrQueue s target value queue inService start).1.clock = s.clock := by
  unfold State.testOrQueue
  (try dsimp only)
  (repeat' split) <;> simp [*]

@[simp] theorem State.cancelChannel_clock (s : State) (ch : ℕ) : (State.cancelChannel s ch).clock = s.clock := by
  unfold State.cancelChannel; dsimp only; (repeat' split) <;> simp [*]

theorem execTestExpired_clock (slot : Fin 32) (s : State) :
    ∃ t, execTestExpired slot s = .next t ∧ t.clock = s.clock := by
  unfold execTestExpired; (repeat' split) <;> exact ⟨_, rfl, by simp [*]⟩

@[simp] theorem State.changeTickLine_clock (s : State) (deviation : ℕ) : (State.changeTickLine s deviation).clock = s.clock := by
  simp [State.changeTickLine]

theorem execTickLineChange_clock (deviation : Option ℕ) (s : State) :
    ∃ t, execTickLineChange deviation s = .next t ∧ t.clock = s.clock := by
  unfold execTickLineChange; split <;> exact ⟨_, rfl, by simp⟩

end Sys2Proof.Machine
end

