-- ==== Sys2Proof/Laws/ClockAllocator.lean ====
section
/-!
SUPPORT. The clock and the queue of commands as the operations of Machine/Allocator keep them.
-/
namespace Sys2Proof.Machine
open Sys2Proof

@[simp] theorem State.freeze_clock (s : State) : (State.freeze s).clock = s.clock := by
  simp [State.freeze]

@[simp] theorem State.atFreeze_clock (s : State) : (State.atFreeze s).clock = s.clock := by
  simp [State.atFreeze]

@[simp] theorem State.refreshModule_clock (s : State) (m : ℕ) : (State.refreshModule s m).clock = s.clock := by
  unfold State.refreshModule; dsimp only; (repeat' split) <;> simp [*]

@[simp] theorem State.startMove_clock (s : State) (m : ℕ) (kind : MoveKind) (src : ℕ) (dst : ℕ) (step : ℕ) : (State.startMove s m kind src dst step).clock = s.clock := by
  simp [State.startMove]

@[simp] theorem State.abortUnitTest_clock (s : State) (u : ℕ) : (State.abortUnitTest s u).clock = s.clock := by
  unfold State.abortUnitTest; split <;> simp

@[simp] theorem State.assignModules_clock (s : State) (o : ℕ) (n : ℕ) : (State.assignModules s o n).clock = s.clock := by
  unfold State.assignModules; split <;> simp

@[simp] theorem State.decreaseTo_clock (s : State) (u : ℕ) (v : ℤ) : (State.decreaseTo s u v).clock = s.clock := by
  simp [State.decreaseTo]

@[simp] theorem State.releaseModules_clock (s : State) (o : ℕ) : (State.releaseModules s o).clock = s.clock := by
  simp [State.releaseModules]

@[simp] theorem State.beginMove_clock (s : State) (p : ℕ × ℕ × ℕ) : (State.beginMove s p).clock = s.clock := by
  simp [State.beginMove]

@[simp] theorem State.freeTested_clock (s : State) (desired : ℕ → ℤ) : (State.freeTested s desired).clock = s.clock := by
  unfold State.freeTested
  (try dsimp only)
  (repeat' first | split | (rw [State.each_clock]) | (rw [State.when_clock]) | (rw [State.clientCommand_clock]) | (rw [State.receiveRequest_clock]) | (rw [State.admitQuery_clock]) | (rw [State.receive_clock]) | (rw [State.onRequest_clock]) | (intro z a; try dsimp only) | (intro z; try dsimp only)) <;> simp [*]

@[simp] theorem State.advanceMove_clock (s : State) (m : ℕ) : (State.advanceMove s m).clock = s.clock := by
  unfold State.advanceMove; dsimp only; (repeat' split) <;> simp [*]

@[simp] theorem State.refreshUnits_clock (s : State) : (State.refreshUnits s).clock = s.clock := by
  simp [State.refreshUnits]

@[simp] theorem State.freeTestedFe_clock (s : State) (p : Supply) (short : Bool) : (State.freeTestedFe s p short).clock = s.clock := by
  unfold State.freeTestedFe; (repeat' split) <;> simp [*]

@[simp] theorem State.showRun_clock (s : State) (v : State) (k : Plan) : (State.showRun s v k).clock = s.clock := by
  simp [State.showRun]

@[simp] theorem State.allocatorRun_clock (s0 : State) : (State.allocatorRun s0).clock = s0.clock := by
  simp [State.allocatorRun]

@[simp] theorem State.publishUnit_clock (s : State) (u : ℕ) (v : ℤ) : (State.publishUnit s u v).clock = s.clock := by
  simp [State.publishUnit]

@[simp] theorem State.settleRise_clock (s : State) (u : ℕ) (launch : ℕ) (v : Option ℤ) : (State.settleRise s u launch v).clock = s.clock := by
  simp [State.settleRise]

@[simp] theorem State.noteWithheld_clock (s : State) (inst : ℕ) (w : ℤ) : (State.noteWithheld s inst w).clock = s.clock := by
  simp [State.noteWithheld]

@[simp] theorem State.releaseOutlet_clock (room : ℤ) (all : Bool) (acc : State × ℤ) (o : ℕ) : (State.releaseOutlet room all acc o).1.clock = acc.1.clock := by
  unfold State.releaseOutlet
  (try dsimp only)
  (repeat' split) <;> simp [*]

@[simp] theorem State.releaseString_clock (room : ℤ) (all : Bool) (acc : State × ℤ) (o : ℕ) : (State.releaseString room all acc o).1.clock = acc.1.clock := by
  unfold State.releaseString
  (try dsimp only)
  (repeat' split) <;> simp [*]

@[simp] theorem State.releaseFe_clock (all : Bool) (s : State) (u : ℕ) : (State.releaseFe all s u).clock = s.clock := by
  unfold State.releaseFe; split <;> simp

@[simp] theorem State.releaseCheck_clock (s : State) : (State.releaseCheck s).clock = s.clock := by
  unfold State.releaseCheck
  dsimp only
  rw [State.each_clock _ _ _ (fun z a => by simp),
    foldl_clock _ _ (fun a : State × ℤ => a.1.clock) _ (fun z a => State.releaseString_clock ..),
    foldl_clock _ _ (fun a : State × ℤ => a.1.clock) _ (fun z a => State.releaseOutlet_clock ..)]
  rfl

@[simp] theorem State.publishModule_clock (s : State) (r : Run) (m : ℕ) (v : ℤ) : (State.publishModule s r m v).clock = s.clock := by
  unfold State.publishModule; split <;> simp

@[simp] theorem State.publishRun_clock (s : State) (r : Run) : (State.publishRun s r).clock = s.clock := by
  unfold State.publishRun
  dsimp only
  simp only [State.setNat_clock, State.clock_mk, State.clock_eta]
  rw [State.each_clock]
  · simp
  · intro z m
    (repeat' split) <;> simp

@[simp] theorem State.showAlloc_clock (s : State) (published : Bool) (r : Option Run) : (State.showAlloc s published r).clock = s.clock := by
  simp [State.showAlloc]

end Sys2Proof.Machine
end

