-- ==== Sys2Proof/Laws/ClockConverter.lean ====
section
/-!
SUPPORT. The clock and the queue of commands as the operations of Machine/Converter keep them.
-/
namespace Sys2Proof.Machine
open Sys2Proof

@[simp] theorem State.setLeg_clock (s : State) (p : ℕ) (k : PhaseSt) : (State.setLeg s p k).clock = s.clock := by
  simp [State.setLeg]

@[simp] theorem State.setConv_clock (s : State) (g : ℕ) (k : GroupSt) : (State.setConv s g k).clock = s.clock := by
  simp [State.setConv]

@[simp] theorem State.setPhase_clock (s : State) (p : ℕ) (st : ℕ) : (State.setPhase s p st).clock = s.clock := by
  simp [State.setPhase]

@[simp] theorem State.showGroup_clock (s : State) (g : ℕ) : (State.showGroup s g).clock = s.clock := by
  simp [State.showGroup]

@[simp] theorem State.setStr_clock (s : State) (n : ℕ) (k : StrSt) : (State.setStr s n k).clock = s.clock := by
  simp [State.setStr]

@[simp] theorem State.followLimit_clock (s : State) (g : ℕ) (l : ℕ) : (State.followLimit s g l).clock = s.clock := by
  simp [State.followLimit]

@[simp] theorem State.groupLimits_clock (s : State) (g : ℕ) : (State.groupLimits s g).clock = s.clock := by
  simp [State.groupLimits]

@[simp] theorem State.loadLine_clock (s : State) (g : ℕ) : (State.loadLine s g).clock = s.clock := by
  simp [State.loadLine]

@[simp] theorem State.cancelPhaseTest_clock (s : State) (p : ℕ) : (State.cancelPhaseTest s p).clock = s.clock := by
  simp [State.cancelPhaseTest]

@[simp] theorem State.gatesOff_clock (s : State) (g : ℕ) (st : ℕ) : (State.gatesOff s g st).clock = s.clock := by
  simp [State.gatesOff]

@[simp] theorem State.rangeWatch_clock (s : State) (g : ℕ) : (State.rangeWatch s g).clock = s.clock := by
  simp [State.rangeWatch]

@[simp] theorem State.watchPhase_clock (s : State) (g : ℕ) (p : ℕ) : (State.watchPhase s g p).clock = s.clock := by
  simp [State.watchPhase]

@[simp] theorem State.groupCycle_clock (s : State) (g : ℕ) : (State.groupCycle s g).clock = s.clock := by
  simp [State.groupCycle]

@[simp] theorem State.latchOnTime_clock (s : State) (g : ℕ) : (State.latchOnTime s g).clock = s.clock := by
  simp [State.latchOnTime]

@[simp] theorem State.enterRing_clock (s : State) (p : ℕ) (st : ℕ) : (State.enterRing s p st).clock = s.clock := by
  simp [State.enterRing]

@[simp] theorem State.addPhases_clock (s : State) (l : List ℕ) : (State.addPhases s l).clock = s.clock := by
  simp [State.addPhases]

@[simp] theorem State.startGroup_clock (s : State) (g : ℕ) : (State.startGroup s g).clock = s.clock := by
  simp [State.startGroup]

@[simp] theorem State.stopGroup_clock (s : State) (g : ℕ) : (State.stopGroup s g).clock = s.clock := by
  simp [State.stopGroup]

@[simp] theorem State.cutGroup_clock (s : State) (g : ℕ) : (State.cutGroup s g).clock = s.clock := by
  simp [State.cutGroup]

@[simp] theorem State.disconnectGroup_clock (s : State) (g : ℕ) : (State.disconnectGroup s g).clock = s.clock := by
  simp [State.disconnectGroup]

@[simp] theorem State.loadStep_clock (s : State) (g : ℕ) : (State.loadStep s g).clock = s.clock := by
  simp [State.loadStep]

@[simp] theorem State.shedOrAdd_clock (s : State) (g : ℕ) (i : ℚ) : (State.shedOrAdd s g i).clock = s.clock := by
  simp [State.shedOrAdd]

@[simp] theorem State.latchValues_clock (s : State) (g : ℕ) : (State.latchValues s g).clock = s.clock := by
  simp [State.latchValues]

@[simp] theorem State.latchGroup_clock (s : State) (g : ℕ) : (State.latchGroup s g).clock = s.clock := by
  simp [State.latchGroup]

@[simp] theorem State.runLeg_clock (s : State) (p : ℕ) (till : ℕ) : (State.runLeg s p till).clock = s.clock := by
  simp [State.runLeg]

@[simp] theorem State.anchorGroup_clock (s : State) (g : ℕ) : (State.anchorGroup s g).clock = s.clock := by
  simp [State.anchorGroup]

@[simp] theorem State.fire_clock (s : State) (g : ℕ) (p : ℕ) (now : ℕ) : (State.fire s g p now).clock = s.clock := by
  simp [State.fire]

@[simp] theorem State.failPhase_clock (s : State) (p : ℕ) (cause : ℕ) (st : ℕ) : (State.failPhase s p cause st).clock = s.clock := by
  simp [State.failPhase]

@[simp] theorem State.placePhase_clock (s : State) (p : ℕ) : (State.placePhase s p).clock = s.clock := by
  simp [State.placePhase]

@[simp] theorem State.placeGroup_clock (s : State) (g : ℕ) : (State.placeGroup s g).clock = s.clock := by
  simp [State.placeGroup]

@[simp] theorem State.placeConverters_clock (s : State) : (State.placeConverters s).clock = s.clock := by
  simp [State.placeConverters]

@[simp] theorem State.unpowerHalf_clock (s : State) (h : ℕ) : (State.unpowerHalf s h).clock = s.clock := by
  simp [State.unpowerHalf]

@[simp] theorem State.balance_clock (s : State) (g : ℕ) (p : ℕ) : (State.balance s g p).clock = s.clock := by
  simp [State.balance]

@[simp] theorem State.countHours_clock (s : State) (p : ℕ) : (State.countHours s p).clock = s.clock := by
  simp [State.countHours]

@[simp] theorem State.groupFrame_clock (s : State) (g : ℕ) : (State.groupFrame s g).clock = s.clock := by
  simp [State.groupFrame]

end Sys2Proof.Machine
end

