-- ==== Sys2Proof/Laws/ClockLoadSwitch.lean ====
section
/-!
SUPPORT. The clock and the queue of commands as the operations of Machine/LoadSwitch keep them.
-/
namespace Sys2Proof.Machine
open Sys2Proof

@[simp] theorem State.setLc_clock (s : State) (c : ℕ) (k : LcSt) : (State.setLc s c k).clock = s.clock := by
  simp [State.setLc]

@[simp] theorem State.setHalf_clock (s : State) (h : ℕ) (x : HalfSt) : (State.setHalf s h x).clock = s.clock := by
  simp [State.setHalf]

@[simp] theorem State.loadStores_clock (s : State) : (State.loadStores s).clock = s.clock := by
  simp [State.loadStores]

@[simp] theorem State.cancelLcTest_clock (s : State) (c : ℕ) : (State.cancelLcTest s c).clock = s.clock := by
  simp [State.cancelLcTest]

@[simp] theorem State.lcUpdate_clock (s : State) (c : ℕ) : (State.lcUpdate s c).clock = s.clock := by
  unfold State.lcUpdate; dsimp only; (repeat' split) <;> simp [*]

@[simp] theorem State.showLc_clock (s : State) (c : ℕ) : (State.showLc s c).clock = s.clock := by
  simp [State.showLc]

@[simp] theorem State.lcCommand_clock (s : State) (c : ℕ) (on : Bool) : (State.lcCommand s c on).clock = s.clock := by
  simp [State.lcCommand]

@[simp] theorem State.lcDuty_clock (s : State) (c : ℕ) (q : ℚ) : (State.lcDuty s c q).clock = s.clock := by
  simp [State.lcDuty]

@[simp] theorem State.setWeld_clock (s : State) (c : ℕ) (b : Bool) : (State.setWeld s c b).clock = s.clock := by
  simp [State.setWeld]

end Sys2Proof.Machine
end

