-- ==== Sys2Proof/Laws/ClockOutlets.lean ====
section
/-!
SUPPORT. The clock and the queue of commands as the operations of Machine/Outlets keep them.
-/
namespace Sys2Proof.Machine
open Sys2Proof

@[simp] theorem State.setSess_clock (s : State) (o : ℕ) (k : Sess) : (State.setSess s o k).clock = s.clock := by
  simp [State.setSess]

@[simp] theorem State.setLine_clock (s : State) (o : ℕ) (k : LineSt) : (State.setLine s o k).clock = s.clock := by
  simp [State.setLine]

@[simp] theorem State.closeLink_clock (s : State) (o : ℕ) : (State.closeLink s o).clock = s.clock := by
  simp [State.closeLink]

@[simp] theorem State.enter_clock (s : State) (o : ℕ) (st : ℕ) : (State.enter s o st).clock = s.clock := by
  simp [State.enter]

@[simp] theorem State.showSession_clock (s : State) (o : ℕ) : (State.showSession s o).clock = s.clock := by
  simp [State.showSession]

@[simp] theorem State.refreshOutlet_clock (s : State) (o : ℕ) : (State.refreshOutlet s o).clock = s.clock := by
  simp [State.refreshOutlet]

@[simp] theorem State.targetAll_clock (s : State) (o : ℕ) (mode : ℕ) (volts : ℕ) (amps : ℕ) : (State.targetAll s o mode volts amps).clock = s.clock := by
  simp [State.targetAll]

@[simp] theorem State.toVehicle_clock (s : State) (o : ℕ) (msg : ℕ) (response : ℕ) (ongoing : ℕ) (values : List ℤ) : (State.toVehicle s o msg response ongoing values).clock = s.clock := by
  simp [State.toVehicle]

@[simp] theorem State.closeContactor_clock (s : State) (o : ℕ) : (State.closeContactor s o).clock = s.clock := by
  simp [State.closeContactor]

@[simp] theorem State.leaveWelding_clock (s : State) (o : ℕ) : (State.leaveWelding s o).clock = s.clock := by
  simp [State.leaveWelding]

@[simp] theorem State.endReservations_clock (s : State) (o : ℕ) : (State.endReservations s o).clock = s.clock := by
  simp [State.endReservations]

@[simp] theorem State.openContactor_clock (s : State) (o : ℕ) : (State.openContactor s o).clock = s.clock := by
  simp [State.openContactor]

@[simp] theorem State.deliverNothing_clock (s : State) (o : ℕ) : (State.deliverNothing s o).clock = s.clock := by
  simp [State.deliverNothing]

@[simp] theorem State.takeEnd_clock (s : State) (o : ℕ) (reason : ℕ) : (State.takeEnd s o reason).clock = s.clock := by
  simp [State.takeEnd]

@[simp] theorem State.commitEnd_clock (s : State) (o : ℕ) : (State.commitEnd s o).clock = s.clock := by
  simp [State.commitEnd]

@[simp] theorem State.commitEnds_clock (s : State) : (State.commitEnds s).clock = s.clock := by
  simp [State.commitEnds]

@[simp] theorem State.goFast_clock (s : State) (o : ℕ) : (State.goFast s o).clock = s.clock := by
  simp [State.goFast]

@[simp] theorem State.endSession_clock (s : State) (o : ℕ) (reason : ℕ) (fast : Bool) : (State.endSession s o reason fast).clock = s.clock := by
  simp [State.endSession]

@[simp] theorem State.noteTrip_clock (s : State) (o : ℕ) : (State.noteTrip s o).clock = s.clock := by
  simp [State.noteTrip]

@[simp] theorem State.trip_clock (s : State) (o : ℕ) (reason : ℕ) (value : ℕ) : (State.trip s o reason value).clock = s.clock := by
  simp [State.trip]

@[simp] theorem State.onRequest_clock (s : State) (row : Instr) (o : ℕ) (msg : ℕ) (states : List ℕ) (go : State → State) (hgo : ∀ z, (go z).clock = z.clock) : (State.onRequest s row o msg states go).clock = s.clock := by
  unfold State.onRequest
  (try dsimp only)
  (repeat' split) <;> simp [*]

@[simp] theorem State.setEv_clock (s : State) (o : ℕ) (p : EvParams) : (State.setEv s o p).clock = s.clock := by
  unfold State.setEv; split <;> simp

@[simp] theorem State.failCableCheck_clock (s : State) (o : ℕ) : (State.failCableCheck s o).clock = s.clock := by
  simp [State.failCableCheck]

@[simp] theorem State.cableCheckCycle_clock (s : State) (o : ℕ) : (State.cableCheckCycle s o).clock = s.clock := by
  simp [State.cableCheckCycle]

@[simp] theorem State.insulationWarning_clock (s : State) (o : ℕ) : (State.insulationWarning s o).clock = s.clock := by
  simp [State.insulationWarning]

@[simp] theorem State.deliver_clock (s : State) (o : ℕ) : (State.deliver s o).clock = s.clock := by
  unfold State.deliver
  split
  · simp
  · dsimp only
    exact State.fitInt_clock ..

@[simp] theorem State.targetResult_clock (s : State) (o : ℕ) : (State.targetResult s o).2.clock = s.clock := by
  unfold State.targetResult; dsimp only; (repeat' split) <;> simp [*]

@[simp] theorem State.updateTargets_clock (s : State) (o : ℕ) : (State.updateTargets s o).clock = s.clock := by
  simp [State.updateTargets]

@[simp] theorem State.serveWaiting_clock (s : State) (o : ℕ) : (State.serveWaiting s o).clock = s.clock := by
  simp [State.serveWaiting]

@[simp] theorem State.acceptAuth_clock (s : State) (o : ℕ) (cls : ℕ) (account : ℕ) (offline : Bool) : (State.acceptAuth s o cls account offline).clock = s.clock := by
  simp [State.acceptAuth]

@[simp] theorem State.cancelOutletTests_clock (s : State) (o : ℕ) : (State.cancelOutletTests s o).clock = s.clock := by
  simp [State.cancelOutletTests]

@[simp] theorem State.clearEv_clock (s : State) (o : ℕ) : (State.clearEv s o).clock = s.clock := by
  simp [State.clearEv]

@[simp] theorem State.logSession_clock (s : State) (o : ℕ) : (State.logSession s o).clock = s.clock := by
  simp [State.logSession]

@[simp] theorem applySessionLogSelect_clock (seq : ℕ) (s : State) : (applySessionLogSelect seq s).1.clock = s.clock := by
  unfold applySessionLogSelect; split <;> simp

@[simp] theorem applyOutletEnable_clock (o : ℕ) (v : ℤ) (s : State) : (applyOutletEnable o v s).1.clock = s.clock := by
  unfold applyOutletEnable; split <;> simp

@[simp] theorem applyStopRequest_clock (o : ℕ) (v : ℤ) (s : State) : (applyStopRequest o v s).1.clock = s.clock := by
  unfold applyStopRequest; (repeat' split) <;> simp

@[simp] theorem applyOutletReset_clock (o : ℕ) (s : State) : (applyOutletReset o s).1.clock = s.clock := by
  unfold applyOutletReset; split <;> simp

@[simp] theorem applyEimToken_clock (o : ℕ) (t : List Byte) (s : State) : (applyEimToken o t s).1.clock = s.clock := by
  simp [applyEimToken]

@[simp] theorem applyAuthResponse_clock (o : ℕ) (d : Decision) (s : State) : (applyAuthResponse o d s).1.clock = s.clock := by
  unfold applyAuthResponse; dsimp only; (repeat' split) <;> simp [*]

@[simp] theorem State.clearEstop_clock (s : State) : (State.clearEstop s).clock = s.clock := by
  simp [State.clearEstop]

@[simp] theorem applyEstopReset_clock (s : State) : (applyEstopReset s).1.clock = s.clock := by
  unfold applyEstopReset; (repeat' split) <;> simp

@[simp] theorem State.restartSessions_clock (s : State) : (State.restartSessions s).clock = s.clock := by
  simp [State.restartSessions]

@[simp] theorem State.linkDown_clock (s0 : State) (o : ℕ) : (State.linkDown s0 o).clock = s0.clock := by
  simp [State.linkDown]

@[simp] theorem State.watchLine_clock (s : State) (t1s : ℕ) (o : ℕ) : (State.watchLine s t1s o).clock = s.clock := by
  simp [State.watchLine]

@[simp] theorem State.watchLines_clock (s : State) (t1s : ℕ) : (State.watchLines s t1s).clock = s.clock := by
  simp [State.watchLines]

end Sys2Proof.Machine
end

