-- ==== Sys2Proof/Laws/ClockAllocRows.lean ====
section
/-!
SUPPORT. The clock and the queue of commands as the operations of Machine/AllocRows keep them.
-/
namespace Sys2Proof.Machine
open Sys2Proof

theorem execAllocatorRun_clock (us : ℕ) (s : State) :
    ∃ t, execAllocatorRun us s = .next t ∧ t.clock = s.clock := by
  unfold execAllocatorRun; split <;> exact ⟨_, rfl, by simp⟩

@[simp] theorem State.clamp_clock (s : State) (inst : ℕ) (cut : ℤ) (source : ℕ) : (State.clamp s inst cut source).clock = s.clock := by
  simp [State.clamp]

@[simp] theorem State.clampOutlet_clock (s : State) (o : ℕ) (cut : ℤ) (source : ℕ) : (State.clampOutlet s o cut source).clock = s.clock := by
  simp [State.clampOutlet]

@[simp] theorem State.cutOutlet_clock (acc : State × Run × ℤ) (o : ℕ) : (State.cutOutlet acc o).1.clock = acc.1.clock := by
  unfold State.cutOutlet
  (try dsimp only)
  (repeat' split) <;> simp [*]

@[simp] theorem State.recheckString_clock (acc : State × Run × ℤ) (o : ℕ) : (State.recheckString acc o).1.clock = acc.1.clock := by
  unfold State.recheckString
  (try dsimp only)
  (repeat' split) <;> simp [*]

@[simp] theorem State.recheckCable_clock (acc : State × Run) (o : ℕ) : (State.recheckCable acc o).1.clock = acc.1.clock := by
  unfold State.recheckCable
  (try dsimp only)
  (repeat' split) <;> simp [*]

@[simp] theorem State.recheckUnit_clock (acc : State × Run) (o : ℕ) : (State.recheckUnit acc o).1.clock = acc.1.clock := by
  unfold State.recheckUnit
  (try dsimp only)
  (repeat' split) <;> simp [*]

theorem execLimitRecheck_clock (s : State) :
    ∃ t, execLimitRecheck s = .next t ∧ t.clock = s.clock := by
  unfold execLimitRecheck
  split
  · exact ⟨_, rfl, rfl⟩
  · rename_i r
    dsimp only
    refine ⟨_, rfl, (alloc_clock _ _).trans ?_⟩
    rw [foldl_clock _ _ (fun a : State × Run => a.1.clock) _ (fun z a => State.recheckUnit_clock ..),
      foldl_clock _ _ (fun a : State × Run => a.1.clock) _ (fun z a => State.recheckCable_clock ..)]
    dsimp only
    rw [foldl_clock _ _ (fun a : State × Run × ℤ => a.1.clock) _ (fun z a => State.cutOutlet_clock ..)]
    dsimp only
    rw [foldl_clock _ _ (fun a : State × Run × ℤ => a.1.clock) _ (fun z a => State.recheckString_clock ..)]

theorem execGrantPublish_clock (s : State) :
    ∃ t, execGrantPublish s = .next t ∧ t.clock = s.clock := by
  unfold execGrantPublish; dsimp only; (repeat' split) <;> exact ⟨_, rfl, by simp [*]⟩

@[simp] theorem State.noteSent_clock (s : State) (u : ℕ) (v : ℤ) (kind : ℕ) : (State.noteSent s u v kind).clock = s.clock := by
  simp [State.noteSent]

@[simp] theorem State.sendBlocks_clock (s : State) (ch : ℕ) : (State.sendBlocks s ch).clock = s.clock := by
  simp [State.sendBlocks]

@[simp] theorem State.sendCommands_clock (s : State) (m : ℕ) : (State.sendCommands s m).clock = s.clock := by
  unfold State.sendCommands; dsimp only; (repeat' split) <;> simp [*]

theorem execSetpointTransmit_clock (s : State) :
    ∃ t, execSetpointTransmit s = .next t ∧ t.clock = s.clock := by
  unfold execSetpointTransmit; split <;> exact ⟨_, rfl, by simp⟩

@[simp] theorem State.launchUnit_clock (s : State) (u : ℕ) : (State.launchUnit s u).clock = s.clock := by
  unfold State.launchUnit; dsimp only; (repeat' split) <;> simp [*]

@[simp] theorem State.showOutletGrant_clock (s : State) (o : ℕ) : (State.showOutletGrant s o).clock = s.clock := by
  simp [State.showOutletGrant]

theorem execGrantLaunch_clock (s : State) :
    ∃ t, execGrantLaunch s = .next t ∧ t.clock = s.clock := by
  unfold execGrantLaunch; split <;> exact ⟨_, rfl, by simp⟩

theorem execModuleAckMissing_clock (m : Fin 64) (s : State) :
    ∃ t, execModuleAckMissing m s = .next t ∧ t.clock = s.clock := by
  unfold execModuleAckMissing; dsimp only; (repeat' split) <;> exact ⟨_, rfl, by simp [*]⟩

@[simp] theorem applyModuleEnable_clock (m : ℕ) (v : ℤ) (s : State) : (applyModuleEnable m v s).1.clock = s.clock := by
  unfold applyModuleEnable; dsimp only; (repeat' split) <;> simp [*]

theorem execModuleEnable_clock (c : Client) (m : ℕ) (v : ℕ) (s : State) :
    ∃ t, execModuleEnable c m v s = .next t ∧ t.clock = s.clock := by
  exact ⟨_, rfl, by simp⟩

theorem execModuleMoveFailed_clock (m : Fin 64) (s : State) :
    ∃ t, execModuleMoveFailed m s = .next t ∧ t.clock = s.clock := by
  unfold execModuleMoveFailed; dsimp only; (repeat' split) <;> exact ⟨_, rfl, by simp [*]⟩

theorem execImportOverLimit_clock (s : State) :
    ∃ t, execImportOverLimit s = .next t ∧ t.clock = s.clock := by
  unfold execImportOverLimit; split <;> exact ⟨_, rfl, by simp⟩

theorem execFeOverCap_clock (f : Fin 16) (s : State) :
    ∃ t, execFeOverCap f s = .next t ∧ t.clock = s.clock := by
  unfold execFeOverCap; split <;> exact ⟨_, rfl, by simp⟩

@[simp] theorem applyFeEnable_clock (f : ℕ) (v : ℤ) (s : State) : (applyFeEnable f v s).1.clock = s.clock := by
  unfold applyFeEnable; split <;> simp

theorem execFeEnable_clock (c : Client) (f : ℕ) (v : ℕ) (s : State) :
    ∃ t, execFeEnable c f v s = .next t ∧ t.clock = s.clock := by
  exact ⟨_, rfl, by simp⟩

end Sys2Proof.Machine
end

