-- ==== Sys2Proof/Laws/ClockConnections.lean ====
section
/-!
SUPPORT. The clock and the queue of commands as the operations of Machine/Connections keep them.
-/
namespace Sys2Proof.Machine
open Sys2Proof

theorem execConnectionOpen_clock (conn : ℕ) (o : ConnOpen) (s : State) :
    ∃ t, execConnectionOpen conn o s = .next t ∧ t.clock = s.clock := by
  unfold execConnectionOpen; dsimp only; (repeat' split) <;> exact ⟨_, rfl, by simp [*]⟩

theorem execConnectionClose_clock (conn : ℕ) (s : State) :
    ∃ t, execConnectionClose conn s = .next t ∧ t.clock = s.clock := by
  exact ⟨_, rfl, by simp⟩

theorem execPeerConnect_clock (e : Fin 32) (accepted : Bool) (s : State) :
    ∃ t, execPeerConnect e accepted s = .next t ∧ t.clock = s.clock := by
  unfold execPeerConnect; split <;> exact ⟨_, rfl, by simp⟩

@[simp] theorem State.placePeers_clock (s : State) : (State.placePeers s).clock = s.clock := by
  simp [State.placePeers]

@[simp] theorem State.admitQuery_clock (s : State) (c : Client) (op : ℕ) (go : State → Conn → ℕ → State) (hgo : ∀ z a b, (go z a b).clock = z.clock) : (State.admitQuery s c op go).clock = s.clock := by
  unfold State.admitQuery
  (try dsimp only)
  (repeat' split) <;> simp [*]

@[simp] theorem State.reply_clock (s : State) (c : Client) (op : ℕ) (tag : ℕ) (status : ℕ) (body : List Byte) (more : Bool) : (State.reply s c op tag status body more).clock = s.clock := by
  simp [State.reply]

theorem execEventRead_clock (c : Client) (first : ℕ) (count : ℕ) (s : State) :
    ∃ t, execEventRead c first count s = .next t ∧ t.clock = s.clock := by
  exact ⟨_, rfl, by simp⟩

theorem execEventSubscribe_clock (c : Client) (severity : ℕ) (s : State) :
    ∃ t, execEventSubscribe c severity s = .next t ∧ t.clock = s.clock := by
  exact ⟨_, rfl, by simp⟩

@[simp] theorem State.queueNotifications_clock (s : State) : (State.queueNotifications s).clock = s.clock := by
  simp [State.queueNotifications]

theorem execEventNotify_clock (conn : ℕ) (delivered : ℕ) (s : State) :
    ∃ t, execEventNotify conn delivered s = .next t ∧ t.clock = s.clock := by
  unfold execEventNotify; (repeat' split) <;> exact ⟨_, rfl, by simp [*]⟩

theorem execSetSwapNow_clock (c : Client) (s : State) :
    ∃ t, execSetSwapNow c s = .next t ∧ t.clock = s.clock := by
  exact ⟨_, rfl, by simp⟩

@[simp] theorem applyShadowCopy_clock (v : ℤ) (s : State) : (applyShadowCopy v s).1.clock = s.clock := by
  unfold applyShadowCopy; split <;> simp

@[simp] theorem applyShadowDefaults_clock (v : ℤ) (s : State) : (applyShadowDefaults v s).1.clock = s.clock := by
  unfold applyShadowDefaults; split <;> simp

theorem execShadowCopy_clock (c : Client) (s : State) :
    ∃ t, execShadowCopy c s = .next t ∧ t.clock = s.clock := by
  exact ⟨_, rfl, by simp⟩

theorem execShadowDefaults_clock (c : Client) (s : State) :
    ∃ t, execShadowDefaults c s = .next t ∧ t.clock = s.clock := by
  exact ⟨_, rfl, by simp⟩

end Sys2Proof.Machine
end

