-- ==== Sys2Proof/Laws/ClockReading.lean ====
section
/-!
SUPPORT. The clock and the queue of commands as the operations of Machine/Reading keep them.
-/
namespace Sys2Proof.Machine
open Sys2Proof

@[simp] theorem State.keepSeen_clock (s : State) : (State.keepSeen s).clock = s.clock := by
  simp [State.keepSeen]

end Sys2Proof.Machine
end

