-- ==== Sys2Proof/Laws/ClockCalendar.lean ====
section
/-!
SUPPORT. The clock and the queue of commands as the operations of Machine/Calendar keep them.
-/
namespace Sys2Proof.Machine
open Sys2Proof

@[simp] theorem State.formTime_clock (s : State) : (State.formTime s).clock = s.clock := by
  simp [State.formTime]

@[simp] theorem State.evalRate_clock (s : State) : (State.evalRate s).clock = s.clock := by
  unfold State.evalRate; (repeat' split) <;> simp

@[simp] theorem State.activate_clock (s : State) (c : ℕ) (cause : ℕ) : (State.activate s c cause).clock = s.clock := by
  simp [State.activate]

@[simp] theorem State.calendarStep_clock (s : State) : (State.calendarStep s).clock = s.clock := by
  simp [State.calendarStep]

theorem execCalendarActivation_clock (s : State) :
    ∃ t, execCalendarActivation s = .next t ∧ t.clock = s.clock := by
  unfold execCalendarActivation; split <;> exact ⟨_, rfl, by simp⟩

@[simp] theorem applyTariffSwitch_clock (c : ℕ) (s : State) : (applyTariffSwitch c s).1.clock = s.clock := by
  unfold applyTariffSwitch; split <;> simp

end Sys2Proof.Machine
end

