-- ==== Sys2Proof/Laws/ClockCells.lean ====
section
/-!
SUPPORT. The clock and the queue of commands as the operations of Machine/Cells keep them.
-/
namespace Sys2Proof.Machine
open Sys2Proof

@[simp] theorem State.setMon_clock (s : State) (k : ℕ) (m : MonSt) : (State.setMon s k m).clock = s.clock := by
  simp [State.setMon]

@[simp] theorem State.setRope_clock (s : State) (n : ℕ) (r : RopeSt) : (State.setRope s n r).clock = s.clock := by
  simp [State.setRope]

@[simp] theorem State.setCell_clock (s : State) (k : ℕ) (j : ℕ) (c : CellSt) : (State.setCell s k j c).clock = s.clock := by
  simp [State.setCell]

@[simp] theorem State.setRadio_clock (s : State) (r : RadioSt) : (State.setRadio s r).clock = s.clock := by
  simp [State.setRadio]

@[simp] theorem State.watchRopes_clock (s : State) (edges : ℕ) : (State.watchRopes s edges).clock = s.clock := by
  simp [State.watchRopes]

@[simp] theorem State.setCellCode_clock (s : State) (k : ℕ) (j : ℕ) (c : ℕ) : (State.setCellCode s k j c).clock = s.clock := by
  simp [State.setCellCode]

@[simp] theorem State.tellMonitor_clock (s : State) (op : ℕ) (k : ℕ) (args : List Byte) : (State.tellMonitor s op k args).clock = s.clock := by
  simp [State.tellMonitor]

@[simp] theorem State.tellAll_clock (s : State) (op : ℕ) (args : List Byte) : (State.tellAll s op args).clock = s.clock := by
  simp [State.tellAll]

@[simp] theorem State.sendParams_clock (s : State) (n : ℕ) (k : ℕ) : (State.sendParams s n k).clock = s.clock := by
  simp [State.sendParams]

@[simp] theorem State.resendParams_clock (s : State) (old : State) : (State.resendParams s old).clock = s.clock := by
  simp [State.resendParams]

@[simp] theorem State.placeMonitors_clock (s : State) : (State.placeMonitors s).clock = s.clock := by
  unfold State.placeMonitors
  rw [State.each_clock]
  intro z o
  dsimp only
  (repeat' split) <;> simp

@[simp] theorem State.resetCell_clock (s : State) (k : ℕ) (j : ℕ) : (State.resetCell s k j).clock = s.clock := by
  simp [State.resetCell]

@[simp] theorem State.cancelMonitorTest_clock (s : State) (k : ℕ) : (State.cancelMonitorTest s k).clock = s.clock := by
  unfold State.cancelMonitorTest; split <;> simp

end Sys2Proof.Machine
end

