-- ==== Sys2Proof/Laws/ClockDiePair.lean ====
section
/-!
SUPPORT. The clock and the queue of commands as the operations of Machine/DiePair keep them.
-/
namespace Sys2Proof.Machine
open Sys2Proof

@[simp] theorem State.setStanding_clock (s : State) (die : ℕ) (x : Standing) : (State.setStanding s die x).clock = s.clock := by
  simp [State.setStanding]

@[simp] theorem State.showDies_clock (s : State) : (State.showDies s).clock = s.clock := by
  simp [State.showDies]

@[simp] theorem State.endResync_clock (s : State) : (State.endResync s).clock = s.clock := by
  simp [State.endResync]

@[simp] theorem State.strand_clock (s : State) : (State.strand s).clock = s.clock := by
  unfold State.strand; split <;> simp

@[simp] theorem State.loseSync_clock (s : State) : (State.loseSync s).clock = s.clock := by
  simp [State.loseSync]

@[simp] theorem State.holdCycle_clock (s : State) : (State.holdCycle s).clock = s.clock := by
  simp [State.holdCycle]

@[simp] theorem State.holdFrame_clock (s : State) : (State.holdFrame s).clock = s.clock := by
  simp [State.holdFrame]

@[simp] theorem State.failResync_clock (s : State) : (State.failResync s).clock = s.clock := by
  unfold State.failResync; split <;> simp

@[simp] theorem State.diverge_clock (s : State) (w : ℕ) (selfTest : Bool) : (State.diverge s w selfTest).clock = s.clock := by
  simp [State.diverge]

theorem execCycleMirror_clock (crc : Bool) (digest : Bool) (diverged : Option ℕ) (selfTest : Bool) (s : State) :
    ∃ t, execCycleMirror crc digest diverged selfTest s = .next t ∧ t.clock = s.clock := by
  unfold execCycleMirror; dsimp only; (repeat' split) <;> exact ⟨_, rfl, by simp [*]⟩

theorem execMirrorMiss_clock (frame : Bool) (s : State) :
    ∃ t, execMirrorMiss frame s = .next t ∧ t.clock = s.clock := by
  unfold execMirrorMiss; dsimp only; (repeat' split) <;> exact ⟨_, rfl, by simp [*]⟩

@[simp] theorem State.release_clock (s : State) : (State.release s).clock = s.clock := by
  unfold State.release
  rw [State.each_clock]
  · rfl
  intro z m
  dsimp only
  (repeat' split) <;> simp

@[simp] theorem State.consume_clock (s : State) : (State.consume s).clock = s.clock := by
  simp [State.consume]

theorem execFrameMirror_clock (crc : Bool) (digest : Bool) (s : State) :
    ∃ t, execFrameMirror crc digest s = .next t ∧ t.clock = s.clock := by
  unfold execFrameMirror; split <;> exact ⟨_, rfl, by simp⟩

theorem execSiphonLaneLoss_clock (lane : Fin 3) (s : State) :
    ∃ t, execSiphonLaneLoss lane s = .next t ∧ t.clock = s.clock := by
  unfold execSiphonLaneLoss; dsimp only; (repeat' split) <;> exact ⟨_, rfl, by simp [*]⟩

@[simp] theorem State.countStop_clock (s : State) (die : ℕ) : (State.countStop s die).clock = s.clock := by
  simp [State.countStop]

@[simp] theorem State.sendYield_clock (s : State) (die : ℕ) (code : ℕ) : (State.sendYield s die code).clock = s.clock := by
  simp [State.sendYield]

@[simp] theorem State.selfDiagnose_clock (s : State) (die : ℕ) (code : ℕ) : (State.selfDiagnose s die code).clock = s.clock := by
  unfold State.selfDiagnose; split <;> simp

theorem execYield_clock (die : Fin 2) (code : ℕ) (ok_ : Bool) (s : State) :
    ∃ t, execYield die code ok_ s = .next t ∧ t.clock = s.clock := by
  unfold execYield; (repeat' split) <;> exact ⟨_, rfl, by simp [*]⟩

@[simp] theorem State.resumeFrame_clock (s : State) : (State.resumeFrame s).clock = s.clock := by
  unfold State.resumeFrame; split <;> simp

@[simp] theorem State.noteSwitch_clock (s : State) (w : Switch) : (State.noteSwitch s w).clock = s.clock := by
  simp [State.noteSwitch]

@[simp] theorem State.settleSwitch_clock (s : State) (w : Switch) : (State.settleSwitch s w).clock = s.clock := by
  simp [State.settleSwitch]

@[simp] theorem applySwapRequest_clock (v : ℤ) (s : State) : (applySwapRequest v s).1.clock = s.clock := by
  unfold applySwapRequest; (repeat' split) <;> simp

theorem execSwapRequest_clock (c : Client) (s : State) :
    ∃ t, execSwapRequest c s = .next t ∧ t.clock = s.clock := by
  exact ⟨_, rfl, by simp⟩

@[simp] theorem State.plannedSwitch_clock (s : State) : (State.plannedSwitch s).clock = s.clock := by
  simp [State.plannedSwitch]

theorem execPlannedSwitchOver_clock (s : State) :
    ∃ t, execPlannedSwitchOver s = .next t ∧ t.clock = s.clock := by
  unfold execPlannedSwitchOver; (repeat' split) <;> exact ⟨_, rfl, by simp [*]⟩

@[simp] theorem State.unboot_clock (s : State) (die : ℕ) : (State.unboot s die).clock = s.clock := by
  simp [State.unboot]

theorem execDieRestart_clock (die : Fin 2) (s : State) :
    ∃ t, execDieRestart die s = .next t ∧ t.clock = s.clock := by
  unfold execDieRestart; split <;> exact ⟨_, rfl, by simp⟩

@[simp] theorem State.startResync_clock (s : State) (die : ℕ) : (State.startResync s die).clock = s.clock := by
  simp [State.startResync]

theorem execResyncStart_clock (die : Fin 2) (s : State) :
    ∃ t, execResyncStart die s = .next t ∧ t.clock = s.clock := by
  unfold execResyncStart; (repeat' split) <;> exact ⟨_, rfl, by simp [*]⟩

theorem execResyncPhaseDone_clock (s : State) :
    ∃ t, execResyncPhaseDone s = .next t ∧ t.clock = s.clock := by
  unfold execResyncPhaseDone; (repeat' split) <;> exact ⟨_, rfl, by simp [*]⟩

theorem execResyncFailed_clock (s : State) :
    ∃ t, execResyncFailed s = .next t ∧ t.clock = s.clock := by
  unfold execResyncFailed; (repeat' split) <;> exact ⟨_, rfl, by simp [*]⟩

@[simp] theorem State.watchResync_clock (s : State) : (State.watchResync s).clock = s.clock := by
  unfold State.watchResync; split <;> simp

theorem execResyncRetry_clock (s : State) :
    ∃ t, execResyncRetry s = .next t ∧ t.clock = s.clock := by
  unfold execResyncRetry; (repeat' split) <;> exact ⟨_, rfl, by simp [*]⟩

@[simp] theorem applyResyncRequest_clock (v : ℤ) (s : State) : (applyResyncRequest v s).1.clock = s.clock := by
  unfold applyResyncRequest; (repeat' split) <;> simp

theorem execResyncRequest_clock (c : Client) (s : State) :
    ∃ t, execResyncRequest c s = .next t ∧ t.clock = s.clock := by
  exact ⟨_, rfl, by simp⟩

end Sys2Proof.Machine
end

