-- ==== Sys2Proof/Laws/ClockDevice.lean ====
section
/-!
SUPPORT. The clock and the queue of commands as the operations of Machine/Device keep them.
-/
namespace Sys2Proof.Machine
open Sys2Proof

@[simp] theorem State.showDevice_clock (s : State) (causes : ℕ) : (State.showDevice s causes).clock = s.clock := by
  simp [State.showDevice]

@[simp] theorem State.refreshDevice_clock (s : State) : (State.refreshDevice s).clock = s.clock := by
  simp [State.refreshDevice]

@[simp] theorem State.setDevice_clock (s : State) (st : ℕ) : (State.setDevice s st).clock = s.clock := by
  simp [State.setDevice]

@[simp] theorem State.deviceCycle_clock (s : State) : (State.deviceCycle s).clock = s.clock := by
  simp [State.deviceCycle]

@[simp] theorem State.restartBoth_clock (s : State) (cause : ℕ) : (State.restartBoth s cause).clock = s.clock := by
  simp [State.restartBoth]

@[simp] theorem State.wake_clock (s : State) (source : ℕ) (inst : ℕ) : (State.wake s source inst).clock = s.clock := by
  simp [State.wake]

end Sys2Proof.Machine
end

