-- ==== Sys2Proof/Laws/ClockStrings.lean ====
section
/-!
SUPPORT. The clock and the queue of commands as the operations of Machine/Strings keep them.
-/
namespace Sys2Proof.Machine
open Sys2Proof

@[simp] theorem State.enterStr_clock (s : State) (n : ℕ) (st : ℕ) : (State.enterStr s n st).clock = s.clock := by
  simp [State.enterStr]

@[simp] theorem State.setCoils_clock (s : State) (n : ℕ) (pos : Bool) (neg : Bool) (pre : Bool) : (State.setCoils s n pos neg pre).clock = s.clock := by
  simp [State.setCoils]

@[simp] theorem State.zeroLimits_clock (s : State) (n : ℕ) : (State.zeroLimits s n).clock = s.clock := by
  simp [State.zeroLimits]

@[simp] theorem State.settleString_clock (s : State) (n : ℕ) : (State.settleString s n).clock = s.clock := by
  simp [State.settleString]

@[simp] theorem State.openCoils_clock (s : State) (n : ℕ) (hw : Bool) : (State.openCoils s n hw).clock = s.clock := by
  simp [State.openCoils]

@[simp] theorem State.noteOpening_clock (s : State) (n : ℕ) (c : ℕ) : (State.noteOpening s n c).clock = s.clock := by
  simp [State.noteOpening]

@[simp] theorem State.stringCause_clock (s : State) (n : ℕ) (c : ℕ) (value : ℕ) : (State.stringCause s n c value).clock = s.clock := by
  simp [State.stringCause]

@[simp] theorem State.refreshDerate_clock (s : State) (n : ℕ) : (State.refreshDerate s n).clock = s.clock := by
  simp [State.refreshDerate]

@[simp] theorem State.sweepLimits_clock (s : State) (n : ℕ) : (State.sweepLimits s n).clock = s.clock := by
  simp [State.sweepLimits]

@[simp] theorem State.sweepTrips_clock (s : State) (n : ℕ) : (State.sweepTrips s n).clock = s.clock := by
  simp [State.sweepTrips]

@[simp] theorem State.stringLimits_clock (s : State) (n : ℕ) : (State.stringLimits s n).clock = s.clock := by
  simp [State.stringLimits]

@[simp] theorem State.stringIso_clock (s : State) (n : ℕ) : (State.stringIso s n).clock = s.clock := by
  simp [State.stringIso]

@[simp] theorem State.stringAmps_clock (s : State) (n : ℕ) : (State.stringAmps s n).clock = s.clock := by
  simp [State.stringAmps]

@[simp] theorem State.stringCycle_clock (s : State) (n : ℕ) : (State.stringCycle s n).clock = s.clock := by
  simp [State.stringCycle]

@[simp] theorem State.showString_clock (s : State) (n : ℕ) : (State.showString s n).clock = s.clock := by
  simp [State.showString]

@[simp] theorem State.startStep_clock (s : State) (n : ℕ) (step : ℕ) : (State.startStep s n step).clock = s.clock := by
  simp [State.startStep]

@[simp] theorem State.endCoil_clock (s : State) (n : ℕ) (pos : Bool) (neg : Bool) : (State.endCoil s n pos neg).clock = s.clock := by
  simp [State.endCoil]

@[simp] theorem State.cancelStringTest_clock (s : State) (n : ℕ) : (State.cancelStringTest s n).clock = s.clock := by
  simp [State.cancelStringTest]

theorem execStringConnectStart_clock (n : Fin 8) (s : State) :
    ∃ t, execStringConnectStart n s = .next t ∧ t.clock = s.clock := by
  unfold execStringConnectStart; dsimp only; (repeat' split) <;> exact ⟨_, rfl, by simp [*]⟩

@[simp] theorem State.weldFound_clock (s : State) (n : ℕ) (part : ℕ) : (State.weldFound s n part).clock = s.clock := by
  simp [State.weldFound]

@[simp] theorem State.prechargeFail_clock (s : State) (n : ℕ) (reason : ℕ) : (State.prechargeFail s n reason).clock = s.clock := by
  simp [State.prechargeFail]

@[simp] theorem State.startPrecharge_clock (s : State) (n : ℕ) (unchecked : Bool) : (State.startPrecharge s n unchecked).clock = s.clock := by
  simp [State.startPrecharge]

@[simp] theorem State.connected_clock (s : State) (n : ℕ) : (State.connected s n).clock = s.clock := by
  simp [State.connected]

@[simp] theorem State.endStep1_clock (s : State) (n : ℕ) : (State.endStep1 s n).clock = s.clock := by
  simp [State.endStep1]

theorem execStringConnectStep_clock (n : Fin 8) (s : State) :
    ∃ t, execStringConnectStep n s = .next t ∧ t.clock = s.clock := by
  unfold execStringConnectStep; dsimp only; (repeat' split) <;> exact ⟨_, rfl, by simp [*]⟩

@[simp] theorem applyStringRequest_clock (n : ℕ) (v : ℤ) (s : State) : (applyStringRequest n v s).1.clock = s.clock := by
  unfold applyStringRequest; split <;> simp

theorem execStringRequest_clock (c : Client) (n : ℕ) (v : ℕ) (s : State) :
    ∃ t, execStringRequest c n v s = .next t ∧ t.clock = s.clock := by
  exact ⟨_, rfl, by simp⟩

@[simp] theorem applyStringDerate_clock (n : ℕ) (v : ℤ) (s : State) : (applyStringDerate n v s).1.clock = s.clock := by
  simp [applyStringDerate]

theorem execStringDerate_clock (c : Client) (n : ℕ) (v : ℕ) (s : State) :
    ∃ t, execStringDerate c n v s = .next t ∧ t.clock = s.clock := by
  exact ⟨_, rfl, by simp⟩

theorem execStringOverCurrent_clock (n : Fin 8) (s : State) :
    ∃ t, execStringOverCurrent n s = .next t ∧ t.clock = s.clock := by
  unfold execStringOverCurrent; split <;> exact ⟨_, rfl, by simp⟩

theorem execStringInsulationFault_clock (n : Fin 8) (s : State) :
    ∃ t, execStringInsulationFault n s = .next t ∧ t.clock = s.clock := by
  unfold execStringInsulationFault; (repeat' split) <;> exact ⟨_, rfl, by simp [*]⟩

theorem execStringCurrentSenseLost_clock (n : Fin 8) (s : State) :
    ∃ t, execStringCurrentSenseLost n s = .next t ∧ t.clock = s.clock := by
  unfold execStringCurrentSenseLost; split <;> exact ⟨_, rfl, by simp⟩

theorem execStringCauseCleared_clock (n : Fin 8) (cause : Fin 17) (s : State) :
    ∃ t, execStringCauseCleared n cause s = .next t ∧ t.clock = s.clock := by
  unfold execStringCauseCleared; split <;> exact ⟨_, rfl, by simp⟩

theorem execStringCoilsOff_clock (n : Fin 8) (s : State) :
    ∃ t, execStringCoilsOff n s = .next t ∧ t.clock = s.clock := by
  unfold execStringCoilsOff; dsimp only; (repeat' split) <;> exact ⟨_, rfl, by simp [*]⟩

theorem execStringForcedOpen_clock (n : Fin 8) (s : State) :
    ∃ t, execStringForcedOpen n s = .next t ∧ t.clock = s.clock := by
  unfold execStringForcedOpen; dsimp only; (repeat' split) <;> exact ⟨_, rfl, by simp [*]⟩

theorem execWeldCheckEnd_clock (n : Fin 8) (s : State) :
    ∃ t, execWeldCheckEnd n s = .next t ∧ t.clock = s.clock := by
  unfold execWeldCheckEnd; dsimp only; (repeat' split) <;> exact ⟨_, rfl, by simp [*]⟩

@[simp] theorem State.ropeOpens_clock (s : State) (n : ℕ) : (State.ropeOpens s n).clock = s.clock := by
  simp [State.ropeOpens]

theorem execRopeCoilsOff_clock (n : Fin 8) (s : State) :
    ∃ t, execRopeCoilsOff n s = .next t ∧ t.clock = s.clock := by
  unfold execRopeCoilsOff; dsimp only; (repeat' split) <;> exact ⟨_, rfl, by simp [*]⟩

@[simp] theorem State.ropeCloses_clock (s : State) (n : ℕ) : (State.ropeCloses s n).clock = s.clock := by
  simp [State.ropeCloses]

@[simp] theorem applyStringReset_clock (n : ℕ) (s : State) : (applyStringReset n s).1.clock = s.clock := by
  unfold applyStringReset; dsimp only; (repeat' split) <;> simp [*]

theorem execStringReset_clock (c : Client) (n : ℕ) (v : ℕ) (s : State) :
    ∃ t, execStringReset c n v s = .next t ∧ t.clock = s.clock := by
  exact ⟨_, rfl, by simp⟩

@[simp] theorem State.startStringTest_clock (s : State) (n : ℕ) (slot : Option ℕ) : (State.startStringTest s n slot).clock = s.clock := by
  simp [State.startStringTest]

@[simp] theorem applyStringTest_clock (n : ℕ) (v : ℕ) (queue : Bool) (s : State) : (applyStringTest n v queue s).1.clock = s.clock := by
  simp [applyStringTest]

theorem execStringTest_clock (c : Client) (n : ℕ) (v : ℕ) (s : State) :
    ∃ t, execStringTest c n v s = .next t ∧ t.clock = s.clock := by
  exact ⟨_, rfl, by simp⟩

@[simp] theorem State.clearWeld_clock (s : State) (n : ℕ) : (State.clearWeld s n).clock = s.clock := by
  simp [State.clearWeld]

theorem execStringTestDone_clock (n : Fin 8) (s : State) :
    ∃ t, execStringTestDone n s = .next t ∧ t.clock = s.clock := by
  unfold execStringTestDone; dsimp only; (repeat' split) <;> exact ⟨_, rfl, by simp [*]⟩

@[simp] theorem State.placeStrings_clock (s : State) (old : State) : (State.placeStrings s old).clock = s.clock := by
  simp [State.placeStrings]

@[simp] theorem State.restartStrings_clock (s : State) : (State.restartStrings s).clock = s.clock := by
  simp [State.restartStrings]

end Sys2Proof.Machine
end

