-- ==== Sys2Proof/Laws/ClockLoadRows.lean ====
section
/-!
SUPPORT. The clock and the queue of commands as the operations of Machine/LoadRows keep them.
-/
namespace Sys2Proof.Machine
open Sys2Proof

@[simp] theorem State.absorb_clock (s : State) (x : Clamp) : (State.absorb s x).clock = s.clock := by
  simp [State.absorb]

@[simp] theorem State.endFailsafe_clock (s : State) (h : ℕ) : (State.endFailsafe s h).clock = s.clock := by
  simp [State.endFailsafe]

@[simp] theorem State.latchChannels_clock (s : State) : (State.latchChannels s).clock = s.clock := by
  simp [State.latchChannels]

@[simp] theorem State.countStandby_clock (s : State) : (State.countStandby s).clock = s.clock := by
  simp [State.countStandby]

@[simp] theorem State.latchPacket_clock (s : State) (clamps : List Clamp) : (State.latchPacket s clamps).clock = s.clock := by
  simp [State.latchPacket]

@[simp] theorem State.applyFailsafe_clock (s : State) (h : ℕ) : (State.applyFailsafe s h).clock = s.clock := by
  simp [State.applyFailsafe]

@[simp] theorem State.allGatesOff_clock (s : State) : (State.allGatesOff s).clock = s.clock := by
  simp [State.allGatesOff]

@[simp] theorem State.failWatchdog_clock (s : State) (h : ℕ) : (State.failWatchdog s h).clock = s.clock := by
  simp [State.failWatchdog]

theorem execFailsafeTimeout_clock (clamps : List Clamp) (s : State) :
    ∃ t, execFailsafeTimeout clamps s = .next t ∧ t.clock = s.clock := by
  unfold execFailsafeTimeout; split <;> exact ⟨_, rfl, by simp⟩

@[simp] theorem applyLcCommand_clock (c : ℕ) (v : ℕ) (s : State) : (applyLcCommand c v s).1.clock = s.clock := by
  unfold applyLcCommand; split <;> simp

@[simp] theorem applyLcDuty_clock (c : ℕ) (v : ℕ) (s : State) : (applyLcDuty c v s).1.clock = s.clock := by
  unfold applyLcDuty; split <;> simp

theorem execLcCommand_clock (c : Client) (ch : ℕ) (v : ℕ) (s : State) :
    ∃ t, execLcCommand c ch v s = .next t ∧ t.clock = s.clock := by
  exact ⟨_, rfl, by simp⟩

theorem execLcDuty_clock (c : Client) (ch : ℕ) (v : ℕ) (s : State) :
    ∃ t, execLcDuty c ch v s = .next t ∧ t.clock = s.clock := by
  exact ⟨_, rfl, by simp⟩

theorem execLcPullInEnd_clock (ch : Fin 40) (s : State) :
    ∃ t, execLcPullInEnd ch s = .next t ∧ t.clock = s.clock := by
  unfold execLcPullInEnd; dsimp only; (repeat' split) <;> exact ⟨_, rfl, by simp [*]⟩

@[simp] theorem State.latchOwner_clock (s : State) (c : ℕ) : (State.latchOwner s c).clock = s.clock := by
  unfold State.latchOwner; (repeat' split) <;> simp

@[simp] theorem State.latchOff_clock (s : State) (c : ℕ) (cause : ℕ) : (State.latchOff s c cause).clock = s.clock := by
  simp [State.latchOff]

@[simp] theorem State.shutDown_clock (s : State) (c : ℕ) (cause : ℕ) (kind : EvKind) (value : ℕ) (clamp : ℕ) : (State.shutDown s c cause kind value clamp).clock = s.clock := by
  simp [State.shutDown]

theorem execLcShortCircuit_clock (ch : Fin 40) (peak : ℕ) (clamp : ℕ) (s : State) :
    ∃ t, execLcShortCircuit ch peak clamp s = .next t ∧ t.clock = s.clock := by
  unfold execLcShortCircuit; split <;> exact ⟨_, rfl, by simp⟩

theorem execLcLimitTimeout_clock (ch : Fin 40) (peak : ℕ) (clamp : ℕ) (s : State) :
    ∃ t, execLcLimitTimeout ch peak clamp s = .next t ∧ t.clock = s.clock := by
  unfold execLcLimitTimeout; dsimp only; (repeat' split) <;> exact ⟨_, rfl, by simp [*]⟩

theorem execLcOverload_clock (ch : Fin 40) (clamp : ℕ) (s : State) :
    ∃ t, execLcOverload ch clamp s = .next t ∧ t.clock = s.clock := by
  unfold execLcOverload; split <;> exact ⟨_, rfl, by simp⟩

theorem execLcThermalLatch_clock (ch : Fin 40) (rise : ℕ) (temp : ℤ) (clamp : ℕ) (s : State) :
    ∃ t, execLcThermalLatch ch rise temp clamp s = .next t ∧ t.clock = s.clock := by
  unfold execLcThermalLatch; dsimp only; (repeat' split) <;> exact ⟨_, rfl, by simp [*]⟩

theorem execLcThermalClear_clock (ch : Fin 40) (rise : ℕ) (temp : ℤ) (s : State) :
    ∃ t, execLcThermalClear ch rise temp s = .next t ∧ t.clock = s.clock := by
  unfold execLcThermalClear; dsimp only; (repeat' split) <;> exact ⟨_, rfl, by simp [*]⟩

theorem execLcRetry_clock (ch : Fin 40) (s : State) :
    ∃ t, execLcRetry ch s = .next t ∧ t.clock = s.clock := by
  unfold execLcRetry; dsimp only; (repeat' split) <;> exact ⟨_, rfl, by simp [*]⟩

theorem execLcRetryBudgetReset_clock (ch : Fin 40) (s : State) :
    ∃ t, execLcRetryBudgetReset ch s = .next t ∧ t.clock = s.clock := by
  unfold execLcRetryBudgetReset; dsimp only; (repeat' split) <;> exact ⟨_, rfl, by simp [*]⟩

@[simp] theorem applyLcReset_clock (c : ℕ) (s : State) : (applyLcReset c s).1.clock = s.clock := by
  unfold applyLcReset; dsimp only; (repeat' split) <;> simp [*]

theorem execLcReset_clock (c : Client) (ch : ℕ) (v : ℕ) (s : State) :
    ∃ t, execLcReset c ch v s = .next t ∧ t.clock = s.clock := by
  exact ⟨_, rfl, by simp⟩

theorem execLcOpenLoad_clock (ch : Fin 40) (s : State) :
    ∃ t, execLcOpenLoad ch s = .next t ∧ t.clock = s.clock := by
  unfold execLcOpenLoad; dsimp only; (repeat' split) <;> exact ⟨_, rfl, by simp [*]⟩

theorem execLcOpenLoadClear_clock (ch : Fin 40) (s : State) :
    ∃ t, execLcOpenLoadClear ch s = .next t ∧ t.clock = s.clock := by
  unfold execLcOpenLoadClear; dsimp only; (repeat' split) <;> exact ⟨_, rfl, by simp [*]⟩

@[simp] theorem applyLcTest_clock (c : ℕ) (v : ℕ) (queue : Bool) (s : State) : (applyLcTest c v queue s).1.clock = s.clock := by
  simp [applyLcTest]

theorem execLcTest_clock (c : Client) (ch : ℕ) (v : ℕ) (s : State) :
    ∃ t, execLcTest c ch v s = .next t ∧ t.clock = s.clock := by
  exact ⟨_, rfl, by simp⟩

theorem execLcTestDone_clock (ch : Fin 40) (x : LcCheck) (s : State) :
    ∃ t, execLcTestDone ch x s = .next t ∧ t.clock = s.clock := by
  unfold execLcTestDone; dsimp only; (repeat' split) <;> exact ⟨_, rfl, by simp [*]⟩

theorem execHalfOverload_clock (half : Fin 2) (s : State) :
    ∃ t, execHalfOverload half s = .next t ∧ t.clock = s.clock := by
  unfold execHalfOverload; dsimp only; (repeat' split) <;> exact ⟨_, rfl, by simp [*]⟩

@[simp] theorem State.supplyChange_clock (s : State) (h : ℕ) (x : HalfSt) : (State.supplyChange s h x).clock = s.clock := by
  simp [State.supplyChange]

theorem execVauxUndervoltage_clock (half : Fin 2) (mv : ℤ) (s : State) :
    ∃ t, execVauxUndervoltage half mv s = .next t ∧ t.clock = s.clock := by
  unfold execVauxUndervoltage; dsimp only; (repeat' split) <;> exact ⟨_, rfl, by simp [*]⟩

theorem execVauxOvervoltage_clock (half : Fin 2) (mv : ℤ) (s : State) :
    ∃ t, execVauxOvervoltage half mv s = .next t ∧ t.clock = s.clock := by
  unfold execVauxOvervoltage; dsimp only; (repeat' split) <;> exact ⟨_, rfl, by simp [*]⟩

theorem execLoadGroundLost_clock (half : Fin 2) (mv : ℕ) (s : State) :
    ∃ t, execLoadGroundLost half mv s = .next t ∧ t.clock = s.clock := by
  unfold execLoadGroundLost; dsimp only; (repeat' split) <;> exact ⟨_, rfl, by simp [*]⟩

theorem execVauxReversed_clock (half : Fin 2) (mv : ℤ) (s : State) :
    ∃ t, execVauxReversed half mv s = .next t ∧ t.clock = s.clock := by
  unfold execVauxReversed; dsimp only; (repeat' split) <;> exact ⟨_, rfl, by simp [*]⟩

theorem execVauxRecovery_clock (half : Fin 2) (cond : Fin 5) (s : State) :
    ∃ t, execVauxRecovery half cond s = .next t ∧ t.clock = s.clock := by
  unfold execVauxRecovery; dsimp only; (repeat' split) <;> exact ⟨_, rfl, by simp [*]⟩

@[simp] theorem State.takePower_clock (s : State) (p : PowerStatus) : (State.takePower s p).clock = s.clock := by
  simp [State.takePower]

@[simp] theorem State.halfFrame_clock (s : State) (h : ℕ) : (State.halfFrame s h).clock = s.clock := by
  simp [State.halfFrame]

@[simp] theorem State.lcFrame_clock (s : State) : (State.lcFrame s).clock = s.clock := by
  simp [State.lcFrame]

@[simp] theorem State.placeChannels_clock (s : State) (old : State) : (State.placeChannels s old).clock = s.clock := by
  simp [State.placeChannels]

end Sys2Proof.Machine
end

