-- ==== Sys2Proof/Laws/ClockMeterEngine.lean ====
section
/-!
SUPPORT. The clock and the queue of commands as the operations of Machine/MeterEngine keep them.
-/
namespace Sys2Proof.Machine
open Sys2Proof

@[simp] theorem State.feedMeter_clock (s : State) (d : ℕ) (ws : List Window) : (State.feedMeter s d ws).clock = s.clock := by
  simp [State.feedMeter]

@[simp] theorem State.lateBlock_clock (s : State) (d : ℕ) (overrun : ℕ) : (State.lateBlock s d overrun).clock = s.clock := by
  simp [State.lateBlock]

@[simp] theorem State.cameBlock_clock (s : State) (d : ℕ) : (State.cameBlock s d).clock = s.clock := by
  simp [State.cameBlock]

theorem execResultBlock_clock (die : Fin 2) (b : BlockIn) (ws : List Window) (s : State) :
    ∃ t, execResultBlock die b ws s = .next t ∧ t.clock = s.clock := by
  unfold execResultBlock; dsimp only; (repeat' split) <;> exact ⟨_, rfl, by simp [*]⟩

@[simp] theorem State.compareDies_clock (s : State) : (State.compareDies s).clock = s.clock := by
  simp [State.compareDies]

@[simp] theorem State.countSilence_clock (s : State) : (State.countSilence s).clock = s.clock := by
  simp [State.countSilence]

@[simp] theorem State.closeWindow_clock (s : State) : (State.closeWindow s).clock = s.clock := by
  simp [State.closeWindow]

end Sys2Proof.Machine
end

