-- ==== Sys2Proof/Laws/ClockMetering.lean ====
section
/-!
SUPPORT. The clock and the queue of commands as the operations of Machine/Metering keep them.
-/
namespace Sys2Proof.Machine
open Sys2Proof

@[simp] theorem State.markSession_clock (s : State) (d : ℕ) (pt : ℕ) : (State.markSession s d pt).clock = s.clock := by
  simp [State.markSession]

@[simp] theorem State.watchOver_clock (s : State) (pt : ℕ) (leg : ℕ) (amps : ℚ) : (State.watchOver s pt leg amps).clock = s.clock := by
  unfold State.watchOver; dsimp only; (repeat' split) <;> simp [*]

@[simp] theorem State.showCommit_clock (s : State) (pt : ℕ) (legs : List Leg) (frameEnd : Bool) : (State.showCommit s pt legs frameEnd).clock = s.clock := by
  simp [State.showCommit]

@[simp] theorem State.commitPoint_clock (s : State) (d : ℕ) (span : ℚ) (frameEnd : Bool) (pt : ℕ) : (State.commitPoint s d span frameEnd pt).clock = s.clock := by
  simp [State.commitPoint]

@[simp] theorem State.setCommit_clock (s : State) (d : ℕ) (k : CommitSt) : (State.setCommit s d k).clock = s.clock := by
  simp [State.setCommit]

@[simp] theorem State.commitDie_clock (s : State) (d : ℕ) (now : ℕ) (frameEnd : Bool) (flush : Bool) (ws : List Window) : (State.commitDie s d now frameEnd flush ws).clock = s.clock := by
  simp [State.commitDie]

theorem execMeterCommit_clock (die : Fin 2) (ws : List Window) (s : State) :
    ∃ t, execMeterCommit die ws s = .next t ∧ t.clock = s.clock := by
  unfold execMeterCommit; dsimp only; (repeat' split) <;> exact ⟨_, rfl, by simp [*]⟩

@[simp] theorem State.energyCycle_clock (s : State) : (State.energyCycle s).clock = s.clock := by
  simp [State.energyCycle]

@[simp] theorem State.pointCycle_clock (s : State) : (State.pointCycle s).clock = s.clock := by
  simp [State.pointCycle]

@[simp] theorem State.crossFrame_clock (s : State) : (State.crossFrame s).clock = s.clock := by
  simp [State.crossFrame]

@[simp] theorem State.holdSpare_clock (s : State) (ch : ℕ) (d : ℕ) : (State.holdSpare s ch d).clock = s.clock := by
  simp [State.holdSpare]

@[simp] theorem State.showBanks_clock (s : State) : (State.showBanks s).clock = s.clock := by
  simp [State.showBanks]

@[simp] theorem State.judgeWindow_clock (s : State) (pt : ℕ) : (State.judgeWindow s pt).clock = s.clock := by
  unfold State.judgeWindow; split <;> simp

theorem execCrossCheckWindow_clock (s : State) :
    ∃ t, execCrossCheckWindow s = .next t ∧ t.clock = s.clock := by
  unfold execCrossCheckWindow; split <;> exact ⟨_, rfl, by simp⟩

@[simp] theorem State.resolvePoint_clock (s : State) (pt : ℕ) : (State.resolvePoint s pt).clock = s.clock := by
  simp [State.resolvePoint]

theorem execMeterDisagree_clock (ch : Fin 96) (s : State) :
    ∃ t, execMeterDisagree ch s = .next t ∧ t.clock = s.clock := by
  unfold execMeterDisagree; dsimp only; (repeat' split) <;> exact ⟨_, rfl, by simp [*]⟩

theorem execSpareCheckDone_clock (ch : Fin 96) (m0Bad : Bool) (m1Bad : Bool) (s : State) :
    ∃ t, execSpareCheckDone ch m0Bad m1Bad s = .next t ∧ t.clock = s.clock := by
  unfold execSpareCheckDone; dsimp only; (repeat' split) <;> exact ⟨_, rfl, by simp [*]⟩

theorem execSpareCheckRepeat_clock (ch : Fin 96) (m1 : Bool) (agrees : Bool) (s : State) :
    ∃ t, execSpareCheckRepeat ch m1 agrees s = .next t ∧ t.clock = s.clock := by
  unfold execSpareCheckRepeat; dsimp only; (repeat' split) <;> exact ⟨_, rfl, by simp [*]⟩

@[simp] theorem applyCrossReset_clock (pt : ℕ) (s : State) : (applyCrossReset pt s).1.clock = s.clock := by
  unfold applyCrossReset; (repeat' split) <;> simp

theorem execCrossReset_clock (c : Client) (pt : ℕ) (v : ℕ) (s : State) :
    ∃ t, execCrossReset c pt v s = .next t ∧ t.clock = s.clock := by
  exact ⟨_, rfl, by simp⟩

@[simp] theorem applyPeakReset_clock (pt : ℕ) (s : State) : (applyPeakReset pt s).1.clock = s.clock := by
  simp [applyPeakReset]

theorem execPeakReset_clock (c : Client) (pt : ℕ) (v : ℕ) (s : State) :
    ∃ t, execPeakReset c pt v s = .next t ∧ t.clock = s.clock := by
  exact ⟨_, rfl, by simp⟩

theorem execOvercurrent_clock (pt : Fin 17) (leg : Fin 3) (s : State) :
    ∃ t, execOvercurrent pt leg s = .next t ∧ t.clock = s.clock := by
  unfold execOvercurrent; dsimp only; (repeat' split) <;> exact ⟨_, rfl, by simp [*]⟩

theorem execOvercurrentEnd_clock (pt : Fin 17) (leg : Fin 3) (s : State) :
    ∃ t, execOvercurrentEnd pt leg s = .next t ∧ t.clock = s.clock := by
  unfold execOvercurrentEnd; dsimp only; (repeat' split) <;> exact ⟨_, rfl, by simp [*]⟩

@[simp] theorem State.watchSeal_clock (s : State) (r0 : Bool) (r1 : Bool) : (State.watchSeal s r0 r1).clock = s.clock := by
  simp [State.watchSeal]

theorem execLegalSealChange_clock (opened : Bool) (s : State) :
    ∃ t, execLegalSealChange opened s = .next t ∧ t.clock = s.clock := by
  unfold execLegalSealChange; split <;> exact ⟨_, rfl, by simp⟩

@[simp] theorem applyLegalLogArchive_clock (seq : ℕ) (s : State) : (applyLegalLogArchive seq s).1.clock = s.clock := by
  unfold applyLegalLogArchive; (repeat' split) <;> simp

theorem execLegalLogArchive_clock (c : Client) (seq : ℕ) (s : State) :
    ∃ t, execLegalLogArchive c seq s = .next t ∧ t.clock = s.clock := by
  exact ⟨_, rfl, by simp⟩

@[simp] theorem applyLegalLogSelect_clock (seq : ℕ) (s : State) : (applyLegalLogSelect seq s).1.clock = s.clock := by
  unfold applyLegalLogSelect; split <;> simp

@[simp] theorem State.displayNext_clock (s : State) (sent : Bool) : (State.displayNext s sent).clock = s.clock := by
  simp [State.displayNext]

theorem execDisplayFrame_clock (busy : Bool) (s : State) :
    ∃ t, execDisplayFrame busy s = .next t ∧ t.clock = s.clock := by
  unfold execDisplayFrame; split <;> exact ⟨_, rfl, by simp⟩

theorem execDisplayBusyTimeout_clock (busy : Bool) (s : State) :
    ∃ t, execDisplayBusyTimeout busy s = .next t ∧ t.clock = s.clock := by
  unfold execDisplayBusyTimeout; (repeat' split) <;> exact ⟨_, rfl, by simp [*]⟩

@[simp] theorem State.flushDie_clock (s : State) (offset : ℕ) (f : Flush) : (State.flushDie s offset f).clock = s.clock := by
  simp [State.flushDie]

theorem execMeterStop_clock (die : Fin 2) (ws : List Window) (s : State) :
    ∃ t, execMeterStop die ws s = .next t ∧ t.clock = s.clock := by
  unfold execMeterStop; dsimp only; (repeat' split) <;> exact ⟨_, rfl, by simp [*]⟩

@[simp] theorem State.markSessions_clock (s : State) : (State.markSessions s).clock = s.clock := by
  simp [State.markSessions]

@[simp] theorem State.resumeMeters_clock (s : State) : (State.resumeMeters s).clock = s.clock := by
  simp [State.resumeMeters]

@[simp] theorem State.meterAgain_clock (s : State) (d : ℕ) : (State.meterAgain s d).clock = s.clock := by
  simp [State.meterAgain]

@[simp] theorem State.meterFrame_clock (s : State) : (State.meterFrame s).clock = s.clock := by
  simp [State.meterFrame]

theorem execMeterDieFault_clock (m1 : Bool) (diag : ℕ) (s : State) :
    ∃ t, execMeterDieFault m1 diag s = .next t ∧ t.clock = s.clock := by
  unfold execMeterDieFault; split <;> exact ⟨_, rfl, by simp⟩

end Sys2Proof.Machine
end

