-- ==== Sys2Proof/Laws/ClockBilling.lean ====
section
/-!
SUPPORT. The clock and the queue of commands as the operations of Machine/Billing keep them.
-/
namespace Sys2Proof.Machine
open Sys2Proof

@[simp] theorem State.writeProfile_clock (s : State) (sfnClose : ℕ) (j : ℕ) (bits : ℕ) (values : List Byte) : (State.writeProfile s sfnClose j bits values).clock = s.clock := by
  simp [State.writeProfile]

@[simp] theorem State.closeDemand_clock (s : State) (bits : ℕ) (pt : ℕ) : (State.closeDemand s bits pt).clock = s.clock := by
  simp [State.closeDemand]

@[simp] theorem State.emptyIntervals_clock (s : State) (a : ℕ) (b : ℕ) (bit_ : ℕ) : (State.emptyIntervals s a b bit_).clock = s.clock := by
  unfold State.emptyIntervals
  extract_lets n skip s0
  rw [State.each_clock _ _ _ fun z j => State.writeProfile_clock ..]
  exact bill_clock s _

@[simp] theorem State.closeInterval_clock (s : State) (j : ℕ) (now : ℕ) : (State.closeInterval s j now).clock = s.clock := by
  simp [State.closeInterval]

@[simp] theorem State.intervalStep_clock (s : State) : (State.intervalStep s).clock = s.clock := by
  unfold State.intervalStep; split <;> simp

theorem execIntervalClose_clock (s : State) :
    ∃ t, execIntervalClose s = .next t ∧ t.clock = s.clock := by
  unfold execIntervalClose; split <;> exact ⟨_, rfl, by simp⟩

@[simp] theorem State.intervalFrame_clock (s : State) : (State.intervalFrame s).clock = s.clock := by
  simp [State.intervalFrame]

@[simp] theorem State.spanFrame_clock (s : State) : (State.spanFrame s).clock = s.clock := by
  simp [State.spanFrame]

@[simp] theorem State.signRecord_clock (s : State) (u : Unsigned) : (State.signRecord s u).clock = s.clock := by
  simp [State.signRecord]

@[simp] theorem State.issueRecord_clock (s : State) (u : Unsigned) : (State.issueRecord s u).clock = s.clock := by
  simp [State.issueRecord]

@[simp] theorem State.issueWaiting_clock (s : State) : (State.issueWaiting s).clock = s.clock := by
  simp [State.issueWaiting]

@[simp] theorem State.signSession_clock (s : State) (o : ℕ) : (State.signSession s o).clock = s.clock := by
  simp [State.signSession]

@[simp] theorem State.signPeriod_clock (s : State) (period : ℕ) (tops : List (ℕ × ℕ)) (pt : ℕ) : (State.signPeriod s period tops pt).clock = s.clock := by
  simp [State.signPeriod]

@[simp] theorem State.markPeriod_clock (s : State) (pt : ℕ) : (State.markPeriod s pt).clock = s.clock := by
  simp [State.markPeriod]

@[simp] theorem State.signReading_clock (s : State) (pt : ℕ) : (State.signReading s pt).clock = s.clock := by
  simp [State.signReading]

@[simp] theorem applyReadingRequest_clock (pt : ℕ) (s : State) : (applyReadingRequest pt s).1.clock = s.clock := by
  unfold applyReadingRequest; split <;> simp

theorem execReadingRequest_clock (c : Client) (pt : ℕ) (v : ℕ) (s : State) :
    ∃ t, execReadingRequest c pt v s = .next t ∧ t.clock = s.clock := by
  exact ⟨_, rfl, by simp⟩

@[simp] theorem State.closePeriod_clock (s : State) (cause : ℕ) (ends : ℕ) : (State.closePeriod s cause ends).clock = s.clock := by
  simp [State.closePeriod]

theorem execBillingPeriodClose_clock (s : State) :
    ∃ t, execBillingPeriodClose s = .next t ∧ t.clock = s.clock := by
  unfold execBillingPeriodClose; dsimp only; (repeat' split) <;> exact ⟨_, rfl, by simp [*]⟩

@[simp] theorem applyBillingClose_clock (s : State) : (applyBillingClose s).1.clock = s.clock := by
  unfold applyBillingClose; (repeat' split) <;> simp [*]

theorem execBillingClose_clock (c : Client) (v : ℕ) (s : State) :
    ∃ t, execBillingClose c v s = .next t ∧ t.clock = s.clock := by
  exact ⟨_, rfl, by simp⟩

@[simp] theorem applyProfileSelect_clock (seq : ℕ) (s : State) : (applyProfileSelect seq s).1.clock = s.clock := by
  unfold applyProfileSelect; split <;> simp

@[simp] theorem applySnapshotSelect_clock (n : ℕ) (s : State) : (applySnapshotSelect n s).1.clock = s.clock := by
  unfold applySnapshotSelect; split <;> simp

@[simp] theorem applySignedSelect_clock (seq : ℕ) (s : State) : (applySignedSelect seq s).1.clock = s.clock := by
  unfold applySignedSelect; split <;> simp

@[simp] theorem State.showReadPeriod_clock (s : State) (pt : ℕ) : (State.showReadPeriod s pt).clock = s.clock := by
  simp [State.showReadPeriod]

@[simp] theorem State.setAcct_clock (s : State) (a : ℕ) (k : AccountSt) : (State.setAcct s a k).clock = s.clock := by
  simp [State.setAcct]

@[simp] theorem State.debit_clock (s : State) (o : ℕ) : (State.debit s o).clock = s.clock := by
  simp [State.debit]

@[simp] theorem State.exhaust_clock (s : State) (o : ℕ) : (State.exhaust s o).clock = s.clock := by
  simp [State.exhaust]

@[simp] theorem State.settleAccount_clock (s : State) (a : ℕ) : (State.settleAccount s a).clock = s.clock := by
  unfold State.settleAccount; dsimp only; (repeat' split) <;> simp [*]

@[simp] theorem State.accountUpdate_clock (s : State) : (State.accountUpdate s).clock = s.clock := by
  simp [State.accountUpdate]

@[simp] theorem applyCreditTopup_clock (a : ℕ) (amount : ℤ) (reference : ℕ) (s : State) : (applyCreditTopup a amount reference s).1.clock = s.clock := by
  unfold applyCreditTopup; (repeat' split) <;> simp

theorem execCreditTopup_clock (c : Client) (a : ℕ) (amount : ℤ) (reference : ℕ) (s : State) :
    ∃ t, execCreditTopup c a amount reference s = .next t ∧ t.clock = s.clock := by
  exact ⟨_, rfl, by simp⟩

@[simp] theorem applyProtectUntil_clock (a : ℕ) (b : List Byte) (s : State) : (applyProtectUntil a b s).1.clock = s.clock := by
  unfold applyProtectUntil; split <;> simp

end Sys2Proof.Machine
end

