-- ==== Sys2Proof/Laws/ClockEusor.lean ====
section
/-!
SUPPORT. The clock and the queue of commands as the operations of Machine/Eusor keep them.
-/
namespace Sys2Proof.Machine
open Sys2Proof

@[simp] theorem State.setNode_clock (s : State) (e : ℕ) (k : NodeSt) : (State.setNode s e k).clock = s.clock := by
  simp [State.setNode]

@[simp] theorem State.askHandover_clock (s : State) (cause : ℕ) : (State.askHandover s cause).clock = s.clock := by
  simp [State.askHandover]

@[simp] theorem State.showLink_clock (s : State) (e : ℕ) : (State.showLink s e).clock = s.clock := by
  simp [State.showLink]

@[simp] theorem State.showEusor_clock (s : State) : (State.showEusor s).clock = s.clock := by
  simp [State.showEusor]

@[simp] theorem State.formLoads_clock (s : State) : (State.formLoads s).clock = s.clock := by
  simp [State.formLoads]

@[simp] theorem State.toNode_clock (s : State) (e : ℕ) (type : ℕ) (body : List Byte) : (State.toNode s e type body).clock = s.clock := by
  simp [State.toNode]

@[simp] theorem State.startFlow_clock (s : State) (e : ℕ) (kind : ℕ) (body : List Byte) (m : (Option ToneMap)) : (State.startFlow s e kind body m).clock = s.clock := by
  simp [State.startFlow]

@[simp] theorem State.markStale_clock (s : State) (e : ℕ) (back : Bool) (seg : ℕ) : (State.markStale s e back seg).clock = s.clock := by
  simp [State.markStale]

@[simp] theorem State.noteBlock_clock (s : State) (e : ℕ) (back : Bool) (seg : ℕ) (good : Bool) : (State.noteBlock s e back seg good).clock = s.clock := by
  simp [State.noteBlock]

@[simp] theorem State.noteControl_clock (s : State) (e : ℕ) (back : Bool) (seg : ℕ) (good : Bool) : (State.noteControl s e back seg good).clock = s.clock := by
  simp [State.noteControl]

@[simp] theorem State.acceptMap_clock (s : State) (e : ℕ) (back : Bool) (m : ToneMap) : (State.acceptMap s e back m).clock = s.clock := by
  simp [State.acceptMap]

@[simp] theorem State.showProxies_clock (s : State) : (State.showProxies s).clock = s.clock := by
  simp [State.showProxies]

@[simp] theorem State.useRoute_clock (s : State) (e : ℕ) (r : List ℕ) (cost : ℕ) : (State.useRoute s e r cost).clock = s.clock := by
  simp [State.useRoute]

@[simp] theorem State.setNodeState_clock (s : State) (e : ℕ) (st : ℕ) : (State.setNodeState s e st).clock = s.clock := by
  simp [State.setNodeState]

@[simp] theorem State.dropNode_clock (s : State) (e : ℕ) (st : ℕ) : (State.dropNode s e st).clock = s.clock := by
  simp [State.dropNode]

@[simp] theorem State.placeNodes_clock (s : State) (changed : ℕ → Bool) : (State.placeNodes s changed).clock = s.clock := by
  simp [State.placeNodes]

@[simp] theorem State.startEusor_clock (s : State) : (State.startEusor s).clock = s.clock := by
  simp [State.startEusor]

@[simp] theorem State.renewBeaconKey_clock (s : State) : (State.renewBeaconKey s).clock = s.clock := by
  unfold State.renewBeaconKey; split <;> simp

end Sys2Proof.Machine
end

