-- ==== Sys2Proof/Laws/ClockEusorRows.lean ====
section
/-!
SUPPORT. The clock and the queue of commands as the operations of Machine/EusorRows keep them.
-/
namespace Sys2Proof.Machine
open Sys2Proof

@[simp] theorem State.grantLoads_clock (s : State) (e : ℕ) : (State.grantLoads s e).clock = s.clock := by
  simp [State.grantLoads]

@[simp] theorem State.sendPoll_clock (s : State) (e : ℕ) (slot : ℕ) (retry : Bool) : (State.sendPoll s e slot retry).clock = s.clock := by
  simp [State.sendPoll]

@[simp] theorem State.pollNode_clock (s : State) (e : ℕ) : (State.pollNode s e).clock = s.clock := by
  simp [State.pollNode]

@[simp] theorem State.pollAll_clock (s : State) : (State.pollAll s).clock = s.clock := by
  have h : ∀ (l : List ℕ), ((l.foldl (fun (a : State × Bool) e =>
    if a.2 && decide (a.1.eus.used + 2 * a.1.hopsOf e ≤ 46) then (a.1.pollNode e, true) else (a.1, false)) (s, true)).1).clock = s.clock := by
    intro l
    refine foldl_clock l _ (fun a : State × Bool => a.1.clock) (s, true) fun z e => ?_
    split <;> simp
  unfold State.pollAll
  dsimp only
  have h1 := h s.duePolls
  generalize List.foldl _ (s, true) _ = s1 at h1 ⊢
  (repeat' split) <;> simp only [State.raise_clock, State.clock_mk, State.clock_eta, h1]

@[simp] theorem State.sendBeacon_clock (s : State) (offset : ℕ) : (State.sendBeacon s offset).clock = s.clock := by
  simp [State.sendBeacon]

@[simp] theorem State.takeMains_clock (s : State) (c1 : ℕ) (c2 : ℕ) : (State.takeMains s c1 c2).clock = s.clock := by
  simp [State.takeMains]

@[simp] theorem State.beginPeriod_clock (s : State) : (State.beginPeriod s).clock = s.clock := by
  unfold State.beginPeriod
  dsimp only
  rw [State.each_clock]
  · simp only [State.clock_mk, State.clock_eta]
    split <;> simp
  · intro z e
    (repeat' split) <;> simp

theorem execBeaconPeriodStart_clock (offset : ℕ) (c1 : ℕ) (c2 : ℕ) (heard : Bool) (s : State) :
    ∃ t, execBeaconPeriodStart offset c1 c2 heard s = .next t ∧ t.clock = s.clock := by
  unfold execBeaconPeriodStart; dsimp only; (repeat' split) <;> exact ⟨_, rfl, by simp [*]⟩

theorem execZcLost_clock (measured : ℕ) (s : State) :
    ∃ t, execZcLost measured s = .next t ∧ t.clock = s.clock := by
  unfold execZcLost; (repeat' split) <;> exact ⟨_, rfl, by simp [*]⟩

@[simp] theorem State.takePoints_clock (s : State) (e : ℕ) (pts : List NodePoint) : (State.takePoints s e pts).clock = s.clock := by
  simp [State.takePoints]

@[simp] theorem State.goodReply_clock (s : State) (e : ℕ) : (State.goodReply s e).clock = s.clock := by
  simp [State.goodReply]

@[simp] theorem State.takeReply_clock (s : State) (e : ℕ) (b : List Byte) : (State.takeReply s e b).clock = s.clock := by
  simp [State.takeReply]

@[simp] theorem State.nodeMessage_clock (s : State) (e : ℕ) (m : ℕ × List Byte) : (State.nodeMessage s e m).clock = s.clock := by
  unfold State.nodeMessage; split <;> simp

theorem execPollReply_clock (e : Fin 128) (data : List Byte) (s : State) :
    ∃ t, execPollReply e data s = .next t ∧ t.clock = s.clock := by
  unfold execPollReply; (repeat' split) <;> exact ⟨_, rfl, by simp [*]⟩

theorem execPollFail_clock (e : Fin 128) (dir : Fin 2) (s : State) :
    ∃ t, execPollFail e dir s = .next t ∧ t.clock = s.clock := by
  unfold execPollFail; dsimp only; (repeat' split) <;> exact ⟨_, rfl, by simp [*]⟩

theorem execDataFrame_clock (e : Fin 128) (start : ℕ) (blocks : List (List Byte)) (s : State) :
    ∃ t, execDataFrame e start blocks s = .next t ∧ t.clock = s.clock := by
  unfold execDataFrame; split <;> exact ⟨_, rfl, by simp⟩

@[simp] theorem State.flowDone_clock (s : State) (f : Flow) : (State.flowDone s f).clock = s.clock := by
  unfold State.flowDone; split <;> simp

@[simp] theorem State.settleAccess_clock (s : State) (f : Flow) (got : ℕ → Bool) (failed : Bool) : (State.settleAccess s f got failed).clock = s.clock := by
  have h : ∀ (l : List ((ℕ × ℕ) × ℕ)), (l.foldl (fun z x => if failed then z else z.noteBlock f.node false x.1.2 (got x.2)) s).clock = s.clock := by
    intro l
    refine foldl_clock l _ State.clock s fun z e => ?_
    split <;> simp
  unfold State.settleAccess
  dsimp only
  have h1 := h f.aired.zipIdx
  generalize List.foldl _ s _ = s1 at h1 ⊢
  (repeat' split) <;> simp only [State.flowDone_clock, State.send_clock, State.clock_mk, State.clock_eta, h1]

theorem execSelectiveAck_clock (e : Fin 128) (mask : ℕ) (s : State) :
    ∃ t, execSelectiveAck e mask s = .next t ∧ t.clock = s.clock := by
  unfold execSelectiveAck; split <;> exact ⟨_, rfl, by simp⟩

theorem execContentionAccess_clock (e : Fin 128) (start : ℕ) (failed : Bool) (s : State) :
    ∃ t, execContentionAccess e start failed s = .next t ∧ t.clock = s.clock := by
  unfold execContentionAccess; dsimp only; (repeat' split) <;> exact ⟨_, rfl, by simp [*]⟩

theorem execToneMap_clock (e : Fin 128) (m : ToneMap) (s : State) :
    ∃ t, execToneMap e m s = .next t ∧ t.clock = s.clock := by
  unfold execToneMap; split <;> exact ⟨_, rfl, by simp⟩

theorem execToneMapAgeExpiry_clock (e : Fin 128) (dir : Fin 2) (seg : Fin 6) (s : State) :
    ∃ t, execToneMapAgeExpiry e dir seg s = .next t ∧ t.clock = s.clock := by
  unfold execToneMapAgeExpiry; dsimp only; (repeat' split) <;> exact ⟨_, rfl, by simp [*]⟩

theorem execSounding_clock (e : Fin 128) (ends : List ℕ) (snr : List (List ℤ)) (s : State) :
    ∃ t, execSounding e ends snr s = .next t ∧ t.clock = s.clock := by
  unfold execSounding; split <;> exact ⟨_, rfl, by simp⟩

@[simp] theorem State.sendRoute_clock (s : State) (e : ℕ) (r : List ℕ) (cost : ℕ) : (State.sendRoute s e r cost).clock = s.clock := by
  simp [State.sendRoute]

@[simp] theorem State.reroute_clock (s : State) (all : Tab (ℕ × List ℕ)) (e : ℕ) : (State.reroute s all e).clock = s.clock := by
  unfold State.reroute; dsimp only; (repeat' split) <;> simp [*]

theorem execRouteComputation_clock (s : State) :
    ∃ t, execRouteComputation s = .next t ∧ t.clock = s.clock := by
  unfold execRouteComputation; split <;> exact ⟨_, rfl, by simp⟩

@[simp] theorem State.admitNode_clock (s : State) (e : ℕ) (j : NodeJoin) : (State.admitNode s e j).clock = s.clock := by
  simp [State.admitNode]

theorem execJoin_clock (j : NodeJoin) (s : State) :
    ∃ t, execJoin j s = .next t ∧ t.clock = s.clock := by
  unfold execJoin; dsimp only; (repeat' split) <;> exact ⟨_, rfl, by simp [*]⟩

theorem execLoadRequest_clock (e : Fin 128) (watts : ℕ) (essential : Bool) (s : State) :
    ∃ t, execLoadRequest e watts essential s = .next t ∧ t.clock = s.clock := by
  unfold execLoadRequest; dsimp only; (repeat' split) <;> exact ⟨_, rfl, by simp [*]⟩

theorem execLoadDeferExpiry_clock (e : Fin 128) (s : State) :
    ∃ t, execLoadDeferExpiry e s = .next t ∧ t.clock = s.clock := by
  unfold execLoadDeferExpiry; (repeat' split) <;> exact ⟨_, rfl, by simp [*]⟩

theorem execAuxImbalance_clock (s : State) :
    ∃ t, execAuxImbalance s = .next t ∧ t.clock = s.clock := by
  unfold execAuxImbalance; (repeat' split) <;> exact ⟨_, rfl, by simp [*]⟩

theorem execModemHandover_clock (cause : Fin 3) (s : State) :
    ∃ t, execModemHandover cause s = .next t ∧ t.clock = s.clock := by
  unfold execModemHandover; split <;> exact ⟨_, rfl, by simp⟩

end Sys2Proof.Machine
end

