-- ==== Sys2Proof/Laws/ClockKeys.lean ====
section
/-!
SUPPORT. The clock and the queue of commands as the operations of Machine/Keys keep them.
-/
namespace Sys2Proof.Machine
open Sys2Proof

@[simp] theorem State.showSlot_clock (s : State) (k : ℕ) : (State.showSlot s k).clock = s.clock := by
  simp [State.showSlot]

@[simp] theorem State.setSlot_clock (s : State) (k : ℕ) (q : SlotSt) : (State.setSlot s k q).clock = s.clock := by
  simp [State.setSlot]

@[simp] theorem State.keyFrom_clock (s : State) (m : List Byte) : (State.keyFrom s m).2.clock = s.clock := by
  unfold State.keyFrom; split <;> simp

@[simp] theorem State.keyCommitted_clock (s : State) (k : ℕ) (mode : ℕ) (usage : ℕ) : (State.keyCommitted s k mode usage).clock = s.clock := by
  simp [State.keyCommitted]

@[simp] theorem applyKeyUpdate_clock (k : ℕ) (m : List Byte) (s : State) : (applyKeyUpdate k m s).1.clock = s.clock := by
  unfold applyKeyUpdate; dsimp only; (repeat' split) <;> simp [*]

theorem execKeyUpdate_clock (c : Client) (k : ℕ) (msg : List Byte) (s : State) :
    ∃ t, execKeyUpdate c k msg s = .next t ∧ t.clock = s.clock := by
  refine ⟨_, rfl, State.receiveRequest_clock _ _ _ _ _ _ (fun z h => ?_) (fun z h => ?_)⟩
  · dsimp only
    split
    · rfl
    · split <;> simp
  · dsimp only
    split <;> simp

@[simp] theorem applyKeyChallenge_clock (k : ℕ) (v : List Byte) (s : State) : (applyKeyChallenge k v s).1.clock = s.clock := by
  simp [applyKeyChallenge]

theorem execKeyChallenge_clock (c : Client) (k : ℕ) (v : List Byte) (s : State) :
    ∃ t, execKeyChallenge c k v s = .next t ∧ t.clock = s.clock := by
  exact ⟨_, rfl, by simp⟩

@[simp] theorem State.answerChallenges_clock (s : State) : (State.answerChallenges s).clock = s.clock := by
  unfold State.answerChallenges
  rw [State.each_clock]
  intro z m
  dsimp only
  (repeat' split) <;> simp

@[simp] theorem applyKeyConfirm_clock (k : ℕ) (v : ℕ) (s : State) : (applyKeyConfirm k v s).1.clock = s.clock := by
  unfold applyKeyConfirm; dsimp only; (repeat' split) <;> simp [*]

theorem execKeyConfirm_clock (c : Client) (k : ℕ) (v : ℕ) (s : State) :
    ∃ t, execKeyConfirm c k v s = .next t ∧ t.clock = s.clock := by
  exact ⟨_, rfl, by simp⟩

@[simp] theorem applySlotCert_clock (k : ℕ) (v : List Byte) (s : State) : (applySlotCert k v s).1.clock = s.clock := by
  unfold applySlotCert; dsimp only; (repeat' split) <;> simp [*]

theorem execSlotCert_clock (c : Client) (k : ℕ) (v : List Byte) (s : State) :
    ∃ t, execSlotCert c k v s = .next t ∧ t.clock = s.clock := by
  exact ⟨_, rfl, by simp⟩

theorem execKeyPendingExpired_clock (k : Fin 64) (s : State) :
    ∃ t, execKeyPendingExpired k s = .next t ∧ t.clock = s.clock := by
  unfold execKeyPendingExpired; dsimp only; (repeat' split) <;> exact ⟨_, rfl, by simp [*]⟩

theorem execRewrapDone_clock (s : State) :
    ∃ t, execRewrapDone s = .next t ∧ t.clock = s.clock := by
  unfold execRewrapDone; (repeat' split) <;> exact ⟨_, rfl, by simp [*]⟩

@[simp] theorem State.endRewrap_clock (s : State) (keep : Bool) : (State.endRewrap s keep).clock = s.clock := by
  simp [State.endRewrap]

@[simp] theorem State.showTamper_clock (s : State) : (State.showTamper s).clock = s.clock := by
  simp [State.showTamper]

@[simp] theorem State.zeroise_clock (s : State) (all : Bool) : (State.zeroise s all).clock = s.clock := by
  simp [State.zeroise]

@[simp] theorem State.closeKeys_clock (s : State) : (State.closeKeys s).clock = s.clock := by
  simp [State.closeKeys]

@[simp] theorem State.sealGrotto_clock (s : State) : (State.sealGrotto s).clock = s.clock := by
  simp [State.sealGrotto]

@[simp] theorem State.openGrotto_clock (s : State) : (State.openGrotto s).clock = s.clock := by
  simp [State.openGrotto]

@[simp] theorem State.watchKy_clock (s : State) (k : KyIn) : (State.watchKy s k).clock = s.clock := by
  simp [State.watchKy]

@[simp] theorem State.tellTamper_clock (s : State) (x : ℕ × ℕ × ℕ) : (State.tellTamper s x).clock = s.clock := by
  simp [State.tellTamper]

@[simp] theorem State.noteTamper_clock (s : State) (c : ℕ) (act : ℕ) : (State.noteTamper s c act).clock = s.clock := by
  simp [State.noteTamper]

@[simp] theorem State.tellTampers_clock (s : State) : (State.tellTampers s).clock = s.clock := by
  simp [State.tellTampers]

theorem execTamper_clock (cause : Fin 7) (run : ℕ) (k : KyIn) (s : State) :
    ∃ t, execTamper cause run k s = .next t ∧ t.clock = s.clock := by
  unfold execTamper; dsimp only; (repeat' split) <;> exact ⟨_, rfl, by simp [*]⟩

@[simp] theorem State.issueCert_clock (s : State) (key : ℕ) : (State.issueCert s key).clock = s.clock := by
  unfold State.issueCert; split <;> simp

theorem execKeysRederived_clock (s : State) :
    ∃ t, execKeysRederived s = .next t ∧ t.clock = s.clock := by
  unfold execKeysRederived; dsimp only; (repeat' split) <;> exact ⟨_, rfl, by simp [*]⟩

end Sys2Proof.Machine
end

