-- ==== Sys2Proof/Laws/ClockBusRows.lean ====
section
/-!
SUPPORT. The clock and the queue of commands as the operations of Machine/BusRows keep them.
-/
namespace Sys2Proof.Machine
open Sys2Proof

@[simp] theorem State.ackSetpoint_clock (s : State) (u : ℕ) (ref : ℕ) : (State.ackSetpoint s u ref).clock = s.clock := by
  unfold State.ackSetpoint; dsimp only; (repeat' split) <;> simp [*]

@[simp] theorem State.endUnresponsive_clock (s : State) (m : ℕ) : (State.endUnresponsive s m).clock = s.clock := by
  simp [State.endUnresponsive]

theorem execAck_clock (r : CanRx) (s : State) :
    ∃ t, execAck r s = .next t ∧ t.clock = s.clock := by
  exact ⟨_, rfl, by simp⟩

@[simp] theorem State.finishUnitTest_clock (s : State) (u : ℕ) (status : ℕ) : (State.finishUnitTest s u status).clock = s.clock := by
  unfold State.finishUnitTest; split <;> simp

@[simp] theorem State.readLaunch_clock (s : State) (u : ℕ) (launch : ℕ) : (State.readLaunch s u launch).clock = s.clock := by
  unfold State.readLaunch; (repeat' split) <;> simp [*]

@[simp] theorem State.askResult_clock (s : State) (u : ℕ) (available : Bool) : (State.askResult s u available).clock = s.clock := by
  unfold State.askResult; split <;> simp

theorem execStatus_clock (r : CanRx) (s : State) :
    ∃ t, execStatus r s = .next t ∧ t.clock = s.clock := by
  exact ⟨_, rfl, by simp⟩

theorem execFault_clock (r : CanRx) (s : State) :
    ∃ t, execFault r s = .next t ∧ t.clock = s.clock := by
  exact ⟨_, rfl, by simp⟩

@[simp] theorem State.xferAnswer_clock (s : State) (x : Xfer) (status : ℕ) (value : ℕ) : (State.xferAnswer s x status value).clock = s.clock := by
  unfold State.xferAnswer; dsimp only; (repeat' split) <;> simp [*]

@[simp] theorem State.nextSegment_clock (s : State) (x : Xfer) (offset : ℕ) (got : List Byte) : (State.nextSegment s x offset got).clock = s.clock := by
  simp [State.nextSegment]

@[simp] theorem State.xferSegment_clock (s : State) (x : Xfer) (b : XferBody) : (State.xferSegment s x b).clock = s.clock := by
  simp [State.xferSegment]

theorem execXferResponse_clock (r : CanRx) (s : State) :
    ∃ t, execXferResponse r s = .next t ∧ t.clock = s.clock := by
  unfold execXferResponse
  (try dsimp only)
  (repeat' split) <;>
    first
    | exact ⟨_, rfl, by simp [*]⟩
    | (refine ⟨_, rfl, ?_⟩
       (repeat' first | split | (rw [State.each_clock]) | (rw [State.when_clock]) | (rw [State.clientCommand_clock]) | (rw [State.receiveRequest_clock]) | (rw [State.admitQuery_clock]) | (rw [State.receive_clock]) | (rw [State.onRequest_clock]) | (intro z a; try dsimp only) | (intro z; try dsimp only)) <;> simp [*]; done)

theorem execXferTimeout_clock (tag : Fin 256) (s : State) :
    ∃ t, execXferTimeout tag s = .next t ∧ t.clock = s.clock := by
  unfold execXferTimeout; dsimp only; (repeat' split) <;> exact ⟨_, rfl, by simp [*]⟩

@[simp] theorem State.blockAgain_clock (s : State) (ch : ℕ) (index : ℕ) : (State.blockAgain s ch index).clock = s.clock := by
  unfold State.blockAgain; dsimp only; (repeat' split) <;> simp [*]

theorem execTxReport_clock (ch : Fin 4) (cls : Fin 8) (sub : Fin 8) (node : Fin 32) (outcome : Fin 4) (start : ℤ) (data : List Byte) (s : State) :
    ∃ t, execTxReport ch cls sub node outcome start data s = .next t ∧ t.clock = s.clock := by
  unfold execTxReport; dsimp only; (repeat' split) <;> exact ⟨_, rfl, by simp [*]⟩

theorem execCanErrorPassive_clock (ch : Fin 4) (tx : ℕ) (rx : ℕ) (s : State) :
    ∃ t, execCanErrorPassive ch tx rx s = .next t ∧ t.clock = s.clock := by
  exact ⟨_, rfl, by simp⟩

theorem execCanBusOff_clock (ch : Fin 4) (s : State) :
    ∃ t, execCanBusOff ch s = .next t ∧ t.clock = s.clock := by
  unfold execCanBusOff; dsimp only; (repeat' split) <;> exact ⟨_, rfl, by simp [*]⟩

theorem execBusOffRecovery_clock (ch : Fin 4) (s : State) :
    ∃ t, execBusOffRecovery ch s = .next t ∧ t.clock = s.clock := by
  unfold execBusOffRecovery; split <;> exact ⟨_, rfl, by simp⟩

theorem execBusoffHoldEnd_clock (ch : Fin 4) (s : State) :
    ∃ t, execBusoffHoldEnd ch s = .next t ∧ t.clock = s.clock := by
  unfold execBusoffHoldEnd; dsimp only; (repeat' split) <;> exact ⟨_, rfl, by simp [*]⟩

theorem execUnitStatusMissing_clock (unit : Fin 80) (s : State) :
    ∃ t, execUnitStatusMissing unit s = .next t ∧ t.clock = s.clock := by
  unfold execUnitStatusMissing; dsimp only; (repeat' split) <;> exact ⟨_, rfl, by simp [*]⟩

theorem execUnitChannelChange_clock (unit : Fin 80) (s : State) :
    ∃ t, execUnitChannelChange unit s = .next t ∧ t.clock = s.clock := by
  unfold execUnitChannelChange; dsimp only; (repeat' split) <;> exact ⟨_, rfl, by simp [*]⟩

@[simp] theorem State.startUnitTest_clock (s : State) (u : ℕ) (asked : Option Held) (slot : Option ℕ) : (State.startUnitTest s u asked slot).clock = s.clock := by
  simp [State.startUnitTest]

@[simp] theorem State.askUnitTest_clock (s : State) (u : ℕ) (h : Held) (value : List Byte) : (State.askUnitTest s u h value).clock = s.clock := by
  simp [State.askUnitTest]

theorem execUnitTest_clock (c : Client) (unit : ℕ) (v : ℕ) (s : State) :
    ∃ t, execUnitTest c unit v s = .next t ∧ t.clock = s.clock := by
  exact ⟨_, rfl, by simp⟩

theorem execUnitTestLate_clock (unit : Fin 80) (s : State) :
    ∃ t, execUnitTestLate unit s = .next t ∧ t.clock = s.clock := by
  unfold execUnitTestLate; (repeat' split) <;> exact ⟨_, rfl, by simp [*]⟩

end Sys2Proof.Machine
end

