-- ==== Sys2Proof/Laws/ClockRequests.lean ====
section
/-!
SUPPORT. The clock and the queue of commands as the operations of Machine/Requests keep them.
-/
namespace Sys2Proof.Machine
open Sys2Proof

theorem execRead_clock (c : Client) (index : ℕ) (sub : ℕ) (s : State) :
    ∃ t, execRead c index sub s = .next t ∧ t.clock = s.clock := by
  exact ⟨_, rfl, by simp⟩

theorem execDescribe_clock (c : Client) (index : ℕ) (sub : ℕ) (s : State) :
    ∃ t, execDescribe c index sub s = .next t ∧ t.clock = s.clock := by
  exact ⟨_, rfl, by simp⟩

@[simp] theorem State.receiptNote_clock (s : State) (h : Held) (w : WItem) : (State.receiptNote s h w).clock = s.clock := by
  unfold State.receiptNote; (repeat' split) <;> simp [*]

theorem execWrite_clock (c : Client) (w : WItem) (s : State) :
    ∃ t, execWrite c w s = .next t ∧ t.clock = s.clock := by
  exact ⟨_, rfl, by simp⟩

theorem execWriteGroup_clock (c : Client) (ws : List WItem) (s : State) :
    ∃ t, execWriteGroup c ws s = .next t ∧ t.clock = s.clock := by
  unfold execWriteGroup
  (try dsimp only)
  (repeat' split) <;>
    first
    | exact ⟨_, rfl, by simp [*]⟩
    | (refine ⟨_, rfl, ?_⟩
       (repeat' first | split | (rw [State.each_clock]) | (rw [State.when_clock]) | (rw [State.clientCommand_clock]) | (rw [State.receiveRequest_clock]) | (rw [State.admitQuery_clock]) | (rw [State.receive_clock]) | (rw [State.onRequest_clock]) | (intro z a; try dsimp only) | (intro z; try dsimp only)) <;> simp [*]; done)

@[simp] theorem State.setSegment_clock (s : State) (x : Segment) : (State.setSegment s x).clock = s.clock := by
  simp [State.setSegment]

@[simp] theorem State.endSegment_clock (s : State) (tag : ℕ) : (State.endSegment s tag).clock = s.clock := by
  simp [State.endSegment]

@[simp] theorem State.readPart_clock (s : State) (c : Client) (x : Segment) (start : ℕ) : (State.readPart s c x start).clock = s.clock := by
  simp [State.readPart]

theorem execReadSegment_clock (c : Client) (index : ℕ) (sub : ℕ) (start : ℕ) (s : State) :
    ∃ t, execReadSegment c index sub start s = .next t ∧ t.clock = s.clock := by
  unfold execReadSegment; dsimp only; (repeat' split) <;> exact ⟨_, rfl, by simp [*]⟩

@[simp] theorem State.wholeWrite_clock (s : State) (c : Client) (k : Conn) (x : Segment) : (State.wholeWrite s c k x).clock = s.clock := by
  unfold State.wholeWrite; dsimp only; (repeat' split) <;> simp [*]

@[simp] theorem State.writePart_clock (s : State) (c : Client) (k : Conn) (x : Segment) (w : WItem) (start : ℕ) (more : Bool) : (State.writePart s c k x w start more).clock = s.clock := by
  simp [State.writePart]

theorem execWriteSegment_clock (c : Client) (w : WItem) (start : ℕ) (total : ℕ) (more : Bool) (s : State) :
    ∃ t, execWriteSegment c w start total more s = .next t ∧ t.clock = s.clock := by
  unfold execWriteSegment; (repeat' split) <;> exact ⟨_, rfl, by simp [*]⟩

theorem execSegmentTimeout_clock (tag : Fin 256) (s : State) :
    ∃ t, execSegmentTimeout tag s = .next t ∧ t.clock = s.clock := by
  unfold execSegmentTimeout; (repeat' split) <;> exact ⟨_, rfl, by simp [*]⟩

theorem execXferRequest_clock (r : CanRx) (s : State) :
    ∃ t, execXferRequest r s = .next t ∧ t.clock = s.clock := by
  exact ⟨_, rfl, by simp⟩

end Sys2Proof.Machine
end

