-- ==== Sys2Proof/Laws/ClockFirmware.lean ====
section
/-!
SUPPORT. The clock and the queue of commands as the operations of Machine/Firmware keep them.
-/
namespace Sys2Proof.Machine
open Sys2Proof

@[simp] theorem State.setFslot_clock (s : State) (i : ℕ) (x : FwSlot) : (State.setFslot s i x).clock = s.clock := by
  simp [State.setFslot]

@[simp] theorem State.showFw_clock (s : State) : (State.showFw s).clock = s.clock := by
  simp [State.showFw]

@[simp] theorem State.dropWrapping_clock (s : State) (i : ℕ) : (State.dropWrapping s i).clock = s.clock := by
  simp [State.dropWrapping]

@[simp] theorem State.emptySlot_clock (s : State) (i : ℕ) : (State.emptySlot s i).clock = s.clock := by
  simp [State.emptySlot]

@[simp] theorem applySlotManifest_clock (i : ℕ) (m : List Byte) (s : State) : (applySlotManifest i m s).1.clock = s.clock := by
  unfold applySlotManifest; dsimp only; (repeat' split) <;> simp [*]

theorem execSlotManifest_clock (c : Client) (i : ℕ) (v : List Byte) (s : State) :
    ∃ t, execSlotManifest c i v s = .next t ∧ t.clock = s.clock := by
  exact ⟨_, rfl, by simp⟩

@[simp] theorem State.finishImage_clock (s : State) (i : ℕ) : (State.finishImage s i).clock = s.clock := by
  simp [State.finishImage]

@[simp] theorem applySlotBlock_clock (i : ℕ) (v : List Byte) (s : State) : (applySlotBlock i v s).1.clock = s.clock := by
  unfold applySlotBlock; dsimp only; (repeat' split) <;> simp [*]

theorem execSlotBlock_clock (c : Client) (i : ℕ) (v : List Byte) (s : State) :
    ∃ t, execSlotBlock c i v s = .next t ∧ t.clock = s.clock := by
  exact ⟨_, rfl, by simp⟩

@[simp] theorem applySlotErase_clock (i : ℕ) (s : State) : (applySlotErase i s).1.clock = s.clock := by
  unfold applySlotErase; dsimp only; (repeat' split) <;> simp [*]

theorem execSlotErase_clock (c : Client) (i : ℕ) (v : ℕ) (s : State) :
    ∃ t, execSlotErase c i v s = .next t ∧ t.clock = s.clock := by
  exact ⟨_, rfl, by simp⟩

@[simp] theorem State.failPrep_clock (s : State) (p : Prep) (step : ℕ) (status : ℕ) : (State.failPrep s p step status).clock = s.clock := by
  simp [State.failPrep]

@[simp] theorem State.failLegal_clock (s : State) (p : Prep) (status : ℕ) : (State.failLegal s p status).clock = s.clock := by
  simp [State.failLegal]

@[simp] theorem State.watchPrep_clock (s : State) : (State.watchPrep s).clock = s.clock := by
  unfold State.watchPrep; dsimp only; (repeat' split) <;> simp [*]

theorem execPrepareStart_clock (i : Fin 1024) (s : State) :
    ∃ t, execPrepareStart i s = .next t ∧ t.clock = s.clock := by
  unfold execPrepareStart; dsimp only; (repeat' split) <;> exact ⟨_, rfl, by simp [*]⟩

theorem execPrepareDone_clock (s : State) :
    ∃ t, execPrepareDone s = .next t ∧ t.clock = s.clock := by
  unfold execPrepareDone; (repeat' split) <;> exact ⟨_, rfl, by simp [*]⟩

theorem execPrepareFailed_clock (step : Fin 4) (status : ℕ) (s : State) :
    ∃ t, execPrepareFailed step status s = .next t ∧ t.clock = s.clock := by
  unfold execPrepareFailed; (repeat' split) <;> exact ⟨_, rfl, by simp [*]⟩

theorem execLegalImageLoadDone_clock (die : Fin 2) (digest : List Byte) (s : State) :
    ∃ t, execLegalImageLoadDone die digest s = .next t ∧ t.clock = s.clock := by
  unfold execLegalImageLoadDone; dsimp only; (repeat' split) <;> exact ⟨_, rfl, by simp [*]⟩

@[simp] theorem State.beginTrial_clock (s : State) (p : Prep) : (State.beginTrial s p).clock = s.clock := by
  simp [State.beginTrial]

@[simp] theorem State.closeTrial_clock (s : State) (t : Trial) (die : ℕ) (confirmed : Bool) : (State.closeTrial s t die confirmed).clock = s.clock := by
  simp [State.closeTrial]

@[simp] theorem State.confirmTrial_clock (s : State) (t : Trial) (cause : ℕ) : (State.confirmTrial s t cause).clock = s.clock := by
  simp [State.confirmTrial]

@[simp] theorem State.fallBack_clock (s : State) (t : Trial) (cause : ℕ) : (State.fallBack s t cause).clock = s.clock := by
  simp [State.fallBack]

@[simp] theorem State.fallbackBoundary_clock (s : State) : (State.fallbackBoundary s).clock = s.clock := by
  unfold State.fallbackBoundary; (repeat' split) <;> simp

@[simp] theorem applyFwConfirm_clock (s : State) : (applyFwConfirm s).1.clock = s.clock := by
  unfold applyFwConfirm; dsimp only; (repeat' split) <;> simp [*]

theorem execFwConfirm_clock (c : Client) (v : ℕ) (s : State) :
    ∃ t, execFwConfirm c v s = .next t ∧ t.clock = s.clock := by
  exact ⟨_, rfl, by simp⟩

@[simp] theorem applyFwFallback_clock (s : State) : (applyFwFallback s).1.clock = s.clock := by
  unfold applyFwFallback; dsimp only; (repeat' split) <;> simp [*]

theorem execFwFallback_clock (c : Client) (v : ℕ) (s : State) :
    ∃ t, execFwFallback c v s = .next t ∧ t.clock = s.clock := by
  exact ⟨_, rfl, by simp⟩

@[simp] theorem State.trialFrame_clock (s : State) : (State.trialFrame s).clock = s.clock := by
  unfold State.trialFrame; dsimp only; (repeat' split) <;> simp [*]

theorem execTrialTimeExpiry_clock (s : State) :
    ∃ t, execTrialTimeExpiry s = .next t ∧ t.clock = s.clock := by
  unfold execTrialTimeExpiry; (repeat' split) <;> exact ⟨_, rfl, by simp [*]⟩

theorem execSwitchOver_clock (s : State) :
    ∃ t, execSwitchOver s = .next t ∧ t.clock = s.clock := by
  unfold execSwitchOver; (repeat' split) <;> exact ⟨_, rfl, by simp [*]⟩

@[simp] theorem State.changeBank_clock (s : State) (d : ℕ) (slot : ℕ) : (State.changeBank s d slot).clock = s.clock := by
  simp [State.changeBank]

theorem execLegalActivationM0_clock (s : State) :
    ∃ t, execLegalActivationM0 s = .next t ∧ t.clock = s.clock := by
  unfold execLegalActivationM0; (repeat' split) <;> exact ⟨_, rfl, by simp [*]⟩

@[simp] theorem State.activateLegal_clock (s : State) (p : Prep) : (State.activateLegal s p).clock = s.clock := by
  simp [State.activateLegal]

@[simp] theorem State.activateFw_clock (s : State) (a : ℕ) : (State.activateFw s a).1.clock = s.clock := by
  unfold State.activateFw; dsimp only; (repeat' split) <;> simp [*]

theorem execDecidePoint_clock (i : Fin 1024) (s : State) :
    ∃ t, execDecidePoint i s = .next t ∧ t.clock = s.clock := by
  unfold execDecidePoint; dsimp only; (repeat' split) <;> exact ⟨_, rfl, by simp [*]⟩

@[simp] theorem applyRecoveryBoot_clock (v : ℕ) (s : State) : (applyRecoveryBoot v s).1.clock = s.clock := by
  unfold applyRecoveryBoot; (repeat' split) <;> simp

theorem execRecoveryBoot_clock (c : Client) (v : ℕ) (s : State) :
    ∃ t, execRecoveryBoot c v s = .next t ∧ t.clock = s.clock := by
  exact ⟨_, rfl, by simp⟩

end Sys2Proof.Machine
end

