-- ==== Sys2Proof/Laws/ClockMonitors.lean ====
section
/-!
SUPPORT. The clock and the queue of commands as the operations of Machine/Monitors keep them.
-/
namespace Sys2Proof.Machine
open Sys2Proof

@[simp] theorem State.hop_clock (s : State) (w : ℕ) : (State.hop s w).clock = s.clock := by
  simp [State.hop]

@[simp] theorem State.settleCommands_clock (s : State) : (State.settleCommands s).clock = s.clock := by
  simp [State.settleCommands]

theorem execSweepStart_clock (s : State) :
    ∃ t, execSweepStart s = .next t ∧ t.clock = s.clock := by
  unfold execSweepStart; split <;> exact ⟨_, rfl, by simp⟩

@[simp] theorem State.spanCycle_clock (s : State) : (State.spanCycle s).clock = s.clock := by
  unfold State.spanCycle; split <;> simp

@[simp] theorem State.markWire_clock (s : State) (k : ℕ) (w : ℕ) (wire : ℕ) : (State.markWire s k w wire).clock = s.clock := by
  unfold State.markWire; dsimp only; (repeat' split) <;> simp [*]

@[simp] theorem State.takeReport_clock (s : State) (k : ℕ) (w : ℕ) (r : Report) : (State.takeReport s k w r).clock = s.clock := by
  unfold State.takeReport; dsimp only; (repeat' split) <;> simp [*]

@[simp] theorem State.monitorSweep_clock (s : State) (n : ℕ) (w : ℕ) (k : ℕ) : (State.monitorSweep s n w k).clock = s.clock := by
  unfold State.monitorSweep; dsimp only; (repeat' split) <;> simp [*]

@[simp] theorem State.suspect_clock (s : State) (k : ℕ) (w : ℕ) (wire : ℕ) : (State.suspect s k w wire).clock = s.clock := by
  simp [State.suspect]

@[simp] theorem State.retestWires_clock (s : State) (k : ℕ) (f : Finding) : (State.retestWires s k f).clock = s.clock := by
  simp [State.retestWires]

@[simp] theorem State.respond_clock (s : State) (n : ℕ) (w : ℕ) (k : ℕ) (f : Finding) : (State.respond s n w k f).clock = s.clock := by
  unfold State.respond; split <;> simp

@[simp] theorem State.confirmBreak_clock (s : State) (k : ℕ) (wire : ℕ) : (State.confirmBreak s k wire).clock = s.clock := by
  unfold State.confirmBreak; split <;> simp

@[simp] theorem State.clearWire_clock (s : State) (k : ℕ) (wire : ℕ) : (State.clearWire s k wire).clock = s.clock := by
  simp [State.clearWire]

@[simp] theorem State.wireResult_clock (s : State) (k : ℕ) : (State.wireResult s k).clock = s.clock := by
  unfold State.wireResult; split <;> simp

@[simp] theorem State.showSweep_clock (s : State) (n : ℕ) (w : ℕ) : (State.showSweep s n w).clock = s.clock := by
  simp [State.showSweep]

@[simp] theorem State.ropeEvent_clock (s : State) (n : ℕ) (alarming : ℕ) : (State.ropeEvent s n alarming).clock = s.clock := by
  simp [State.ropeEvent]

@[simp] theorem State.publishString_clock (s : State) (n : ℕ) (w : ℕ) : (State.publishString s n w).clock = s.clock := by
  unfold State.publishString; dsimp only; (repeat' split) <;> simp [*]

@[simp] theorem State.judgeChannel_clock (s : State) (w : ℕ) (ch : ℕ) : (State.judgeChannel s w ch).clock = s.clock := by
  simp [State.judgeChannel]

@[simp] theorem State.endMonitorTest_clock (s : State) (k : ℕ) (mask : ℕ) : (State.endMonitorTest s k mask).clock = s.clock := by
  simp [State.endMonitorTest]

@[simp] theorem State.noteResult_clock (s : State) (k : ℕ) (r : Report) : (State.noteResult s k r).clock = s.clock := by
  unfold State.noteResult; dsimp only; (repeat' split) <;> simp [*]

@[simp] theorem State.noteAck_clock (s : State) (k : ℕ) : (State.noteAck s k).clock = s.clock := by
  unfold State.noteAck; dsimp only; (repeat' split) <;> simp [*]

@[simp] theorem State.air_clock (s : State) (a : Air) (slot : ℕ) : (State.air s a slot).1.clock = s.clock := by
  unfold State.air; dsimp only; (repeat' split) <;> simp [*]

@[simp] theorem State.noteRssi_clock (s : State) (k : ℕ) (a : Air) : (State.noteRssi s k a).clock = s.clock := by
  unfold State.noteRssi; dsimp only; (repeat' split) <;> simp [*]

@[simp] theorem State.takeFrame_clock (s : State) (w : ℕ) (k : ℕ) (r : Report) : (State.takeFrame s w k r).clock = s.clock := by
  simp [State.takeFrame]

theorem execReport_clock (k : Fin 256) (a : Air) (s : State) :
    ∃ t, execReport k a s = .next t ∧ t.clock = s.clock := by
  unfold execReport
  split
  · exact ⟨_, rfl, rfl⟩
  · split
    · exact ⟨_, rfl, rfl⟩
    · have h := State.air_clock s a k.val
      split
      · rename_i e; rw [e] at h; exact ⟨_, rfl, h⟩
      · rename_i e; rw [e] at h; exact ⟨_, rfl, by simpa using h⟩

theorem execRetryCall_clock (s : State) :
    ∃ t, execRetryCall s = .next t ∧ t.clock = s.clock := by
  unfold execRetryCall; (repeat' split) <;> exact ⟨_, rfl, by simp [*]⟩

@[simp] theorem State.setJoin_clock (s : State) (n : ℕ) (b : Bool) : (State.setJoin s n b).clock = s.clock := by
  simp [State.setJoin]

@[simp] theorem State.failEnum_clock (s : State) (n : ℕ) (cause : ℕ) : (State.failEnum s n cause).clock = s.clock := by
  simp [State.failEnum]

@[simp] theorem State.enrol_clock (s : State) (n : ℕ) (k : ℕ) (pos : ℕ) (j : Join) : (State.enrol s n k pos j).clock = s.clock := by
  simp [State.enrol]

@[simp] theorem State.admitMonitor_clock (s : State) (n : ℕ) (k : ℕ) (pos : ℕ) (j : Join) : (State.admitMonitor s n k pos j).clock = s.clock := by
  simp [State.admitMonitor]

@[simp] theorem State.rejoin_clock (s : State) (n : ℕ) (j : Join) : (State.rejoin s n j).clock = s.clock := by
  unfold State.rejoin; dsimp only; (repeat' split) <;> simp [*]

@[simp] theorem State.takeJoin_clock (s : State) (m : ℕ) (j : Join) : (State.takeJoin s m j).clock = s.clock := by
  simp [State.takeJoin]

theorem execMonitorJoin_clock (n : Fin 8) (a : Air) (s : State) :
    ∃ t, execMonitorJoin n a s = .next t ∧ t.clock = s.clock := by
  unfold execMonitorJoin
  split
  · exact ⟨_, rfl, rfl⟩
  · split
    · exact ⟨_, rfl, rfl⟩
    · have h := State.air_clock s a 0xFF
      split
      · rename_i e; rw [e] at h; exact ⟨_, rfl, h⟩
      · rename_i e; rw [e] at h; exact ⟨_, rfl, by simpa using h⟩

@[simp] theorem State.endEnum_clock (s : State) (n : ℕ) : (State.endEnum s n).clock = s.clock := by
  simp [State.endEnum]

theorem execRopeClosed_clock (n : Fin 8) (s : State) :
    ∃ t, execRopeClosed n s = .next t ∧ t.clock = s.clock := by
  unfold execRopeClosed; dsimp only; (repeat' split) <;> exact ⟨_, rfl, by simp [*]⟩

theorem execRopeOpen_clock (n : Fin 8) (s : State) :
    ∃ t, execRopeOpen n s = .next t ∧ t.clock = s.clock := by
  unfold execRopeOpen; dsimp only; (repeat' split) <;> exact ⟨_, rfl, by simp [*]⟩

theorem execLostMonitorWakeBurst_clock (k : Fin 256) (s : State) :
    ∃ t, execLostMonitorWakeBurst k s = .next t ∧ t.clock = s.clock := by
  unfold execLostMonitorWakeBurst; dsimp only; (repeat' split) <;> exact ⟨_, rfl, by simp [*]⟩

@[simp] theorem applyAlarmReset_clock (k : ℕ) (s : State) : (applyAlarmReset k s).1.clock = s.clock := by
  unfold applyAlarmReset; (repeat' split) <;> simp

theorem execAlarmReset_clock (c : Client) (k : ℕ) (v : ℕ) (s : State) :
    ∃ t, execAlarmReset c k v s = .next t ∧ t.clock = s.clock := by
  exact ⟨_, rfl, by simp⟩

@[simp] theorem State.startEnum_clock (s : State) (n : ℕ) : (State.startEnum s n).clock = s.clock := by
  simp [State.startEnum]

@[simp] theorem applyRopeReenumerate_clock (n : ℕ) (s : State) : (applyRopeReenumerate n s).1.clock = s.clock := by
  unfold applyRopeReenumerate; split <;> simp

theorem execRopeReenumerate_clock (c : Client) (n : ℕ) (v : ℕ) (s : State) :
    ∃ t, execRopeReenumerate c n v s = .next t ∧ t.clock = s.clock := by
  exact ⟨_, rfl, by simp⟩

theorem execEnumWakeBurst_clock (n : Fin 8) (s : State) :
    ∃ t, execEnumWakeBurst n s = .next t ∧ t.clock = s.clock := by
  unfold execEnumWakeBurst; dsimp only; (repeat' split) <;> exact ⟨_, rfl, by simp [*]⟩

theorem execEnumCarrierStart_clock (n : Fin 8) (s : State) :
    ∃ t, execEnumCarrierStart n s = .next t ∧ t.clock = s.clock := by
  unfold execEnumCarrierStart; dsimp only; (repeat' split) <;> exact ⟨_, rfl, by simp [*]⟩

theorem execEnumFail_clock (n : Fin 8) (s : State) :
    ∃ t, execEnumFail n s = .next t ∧ t.clock = s.clock := by
  unfold execEnumFail; dsimp only; (repeat' split) <;> exact ⟨_, rfl, by simp [*]⟩

@[simp] theorem applyAcceptReplacement_clock (n : ℕ) (s : State) : (applyAcceptReplacement n s).1.clock = s.clock := by
  unfold applyAcceptReplacement; dsimp only; (repeat' split) <;> simp [*]

theorem execAcceptReplacement_clock (c : Client) (n : ℕ) (v : ℕ) (s : State) :
    ∃ t, execAcceptReplacement c n v s = .next t ∧ t.clock = s.clock := by
  exact ⟨_, rfl, by simp⟩

theorem execSenseBreakTimeout_clock (k : Fin 256) (wire : Fin 17) (s : State) :
    ∃ t, execSenseBreakTimeout k wire s = .next t ∧ t.clock = s.clock := by
  unfold execSenseBreakTimeout; dsimp only; (repeat' split) <;> exact ⟨_, rfl, by simp [*]⟩

theorem execServiceDemanded_clock (k : Fin 256) (s : State) :
    ∃ t, execServiceDemanded k s = .next t ∧ t.clock = s.clock := by
  unfold execServiceDemanded; dsimp only; (repeat' split) <;> exact ⟨_, rfl, by simp [*]⟩

@[simp] theorem State.startMonitorTest_clock (s : State) (k : ℕ) (slot : Option ℕ) : (State.startMonitorTest s k slot).clock = s.clock := by
  simp [State.startMonitorTest]

@[simp] theorem applyMonitorTest_clock (k : ℕ) (v : ℕ) (queue : Bool) (s : State) : (applyMonitorTest k v queue s).1.clock = s.clock := by
  simp [applyMonitorTest]

theorem execMonitorTest_clock (c : Client) (k : ℕ) (v : ℕ) (s : State) :
    ∃ t, execMonitorTest c k v s = .next t ∧ t.clock = s.clock := by
  exact ⟨_, rfl, by simp⟩

end Sys2Proof.Machine
end

