-- ==== Sys2Proof/Laws/ClockStreamRows.lean ====
section
/-!
SUPPORT. The clock and the queue of commands as the operations of Machine/StreamRows keep them.
-/
namespace Sys2Proof.Machine
open Sys2Proof

@[simp] theorem State.showCredits_clock (s : State) : (State.showCredits s).clock = s.clock := by
  simp [State.showCredits]

@[simp] theorem State.strmReady_clock (s : State) : (State.strmReady s).clock = s.clock := by
  simp [State.strmReady]

@[simp] theorem State.strmCredit_clock (s : State) (freed : ℕ) : (State.strmCredit s freed).clock = s.clock := by
  unfold State.strmCredit
  rw [State.clock_ite]
  split
  · exact State.bump_clock ..
  · split
    · rfl
    · dsimp only
      split
      · exact State.showCredits_clock ..
      · rw [State.setNat_clock]; exact (stream_clock _ _).trans (State.showCredits_clock _)

@[simp] theorem State.strmIn_clock (s : State) (m : List Byte) : (State.strmIn s m).clock = s.clock := by
  unfold State.strmIn; (repeat' split) <;> simp [*]

theorem execStreamReady_clock (msg : List Byte) (s : State) :
    ∃ t, execStreamReady msg s = .next t ∧ t.clock = s.clock := by
  unfold execStreamReady; (repeat' split) <;> exact ⟨_, rfl, by simp [*]⟩

theorem execStreamCredit_clock (msg : List Byte) (s : State) :
    ∃ t, execStreamCredit msg s = .next t ∧ t.clock = s.clock := by
  exact ⟨_, rfl, by simp⟩

theorem execStreamLinkDown_clock (s : State) :
    ∃ t, execStreamLinkDown s = .next t ∧ t.clock = s.clock := by
  unfold execStreamLinkDown; split <;> exact ⟨_, rfl, by simp⟩

theorem execStreamStalled_clock (s : State) :
    ∃ t, execStreamStalled s = .next t ∧ t.clock = s.clock := by
  unfold execStreamStalled; (repeat' split) <;> exact ⟨_, rfl, by simp [*]⟩

theorem execBlockTransmit_clock (s : State) :
    ∃ t, execBlockTransmit s = .next t ∧ t.clock = s.clock := by
  unfold execBlockTransmit
  split
  · exact ⟨_, rfl, rfl⟩
  · split
    · exact ⟨_, rfl, rfl⟩
    · dsimp only
      split
      · exact ⟨_, rfl, rfl⟩
      · rename_i t _ r l _
        refine ⟨_, rfl, ?_⟩
        have h : ∀ z : State, ((if z.credits == 0 then { z with stream := { z.stream with dry := some z.ticks } } else z)).clock = z.clock := by
          intro z
          split
          · exact stream_clock z _
          · rfl
        rw [h, State.showCredits_clock, State.bump_clock]
        exact (stream_clock _ _).trans ((State.send_clock ..).trans (State.setStrm_clock ..))

@[simp] theorem applyStreamMask_clock (v : ℕ) (s : State) : (applyStreamMask v s).1.clock = s.clock := by
  simp [applyStreamMask]

theorem execStreamMask_clock (c : Client) (v : ℕ) (s : State) :
    ∃ t, execStreamMask c v s = .next t ∧ t.clock = s.clock := by
  exact ⟨_, rfl, by simp⟩

@[simp] theorem State.noteWindows_clock (s : State) : (State.noteWindows s).clock = s.clock := by
  simp [State.noteWindows]

@[simp] theorem State.streamWindows_clock (s : State) (sfn : ℕ) : (State.streamWindows s sfn).clock = s.clock := by
  simp [State.streamWindows]

@[simp] theorem State.placePort_clock (s : State) : (State.placePort s).clock = s.clock := by
  simp [State.placePort]

theorem execServiceLinkChange_clock (v : Fin 3) (s : State) :
    ∃ t, execServiceLinkChange v s = .next t ∧ t.clock = s.clock := by
  unfold execServiceLinkChange; split <;> exact ⟨_, rfl, by simp⟩

theorem execDiscoveryDatagram_clock (s : State) :
    ∃ t, execDiscoveryDatagram s = .next t ∧ t.clock = s.clock := by
  unfold execDiscoveryDatagram; split <;> exact ⟨_, rfl, by simp⟩

@[simp] theorem applyRecoveryEnter_clock (digest : ℕ) (s : State) : (applyRecoveryEnter digest s).1.clock = s.clock := by
  unfold applyRecoveryEnter; split <;> simp

theorem execRecoveryEnter_clock (c : Client) (v : ℕ) (s : State) :
    ∃ t, execRecoveryEnter c v s = .next t ∧ t.clock = s.clock := by
  exact ⟨_, rfl, by simp⟩

end Sys2Proof.Machine
end

