-- ==== Sys2Proof/Laws/ClockPersist.lean ====
section
/-!
SUPPORT. The clock and the queue of commands as the operations of Machine/Persist keep them.
-/
namespace Sys2Proof.Machine
open Sys2Proof

@[simp] theorem State.persistFrame_clock (s : State) : (State.persistFrame s).clock = s.clock := by
  simp [State.persistFrame]

@[simp] theorem State.loadPersistent_clock (s : State) (full : Bool) (live : ℕ → Bool) : (State.loadPersistent s full live).clock = s.clock := by
  simp [State.loadPersistent]

end Sys2Proof.Machine
end

