-- ==== Sys2Proof/Laws/ClockEstimator.lean ====
section
/-!
SUPPORT. The clock and the queue of commands as the operations of Machine/Estimator keep them.
-/
namespace Sys2Proof.Machine
open Sys2Proof

@[simp] theorem State.setEst_clock (s : State) (n : ℕ) (k : EstSt) : (State.setEst s n k).clock = s.clock := by
  simp [State.setEst]

@[simp] theorem State.restCycle_clock (s : State) : (State.restCycle s).clock = s.clock := by
  simp [State.restCycle]

@[simp] theorem State.addLifetime_clock (s : State) (e : Entry) (n : ℕ) (part : ℚ) : (State.addLifetime s e n part).1.clock = s.clock := by
  simp [State.addLifetime]

@[simp] theorem State.countFrame_clock (s : State) (sfn n : ℕ) : (State.countFrame s sfn n).clock = s.clock := by
  unfold State.countFrame
  extract_lets k ch gone bled s1
  have hb : bled.clock = s.clock := by
    refine State.each_clock _ _ _ fun z c => ?_
    dsimp only
    split
    · rw [State.clock_ite]; split <;> simp
    · rfl
  clear_value bled
  split
  · have h1 : s1.clock = s.clock := by rw [State.setNat_clock, State.setEst_clock, hb]
    clear_value s1
    split
    · exact h1
    · rw [State.each_clock _ _ _ (fun z a => State.setCell_clock ..), h1]
  · rw [State.setEst_clock, State.when_clock _ _ _ (fun z => State.raise_clock ..), State.addLifetime_clock, State.addLifetime_clock, hb]

@[simp] theorem State.chargeCount_clock (s : State) : (State.chargeCount s).clock = s.clock := by
  simp [State.chargeCount]

@[simp] theorem State.startRun_clock (s : State) (n : ℕ) (w : ℕ) : (State.startRun s n w).clock = s.clock := by
  simp [State.startRun]

theorem execSweepPublish_clock (s : State) :
    ∃ t, execSweepPublish s = .next t ∧ t.clock = s.clock := by
  unfold execSweepPublish; (repeat' split) <;> exact ⟨_, rfl, by simp [*]⟩

@[simp] theorem State.ocvMoved_clock (s : State) (c : CellSt) (old : CellSt) (v : CellView) : (State.ocvMoved s c old v).2.clock = s.clock := by
  unfold State.ocvMoved; split <;> simp

@[simp] theorem State.anchorCell_clock (s : State) (n : ℕ) (k : ℕ) (j : ℕ) (c : CellSt) (v : CellView) (resting : Bool) : (State.anchorCell s n k j c v resting).1.clock = s.clock := by
  unfold State.anchorCell; dsimp only; (repeat' split) <;> simp [*]

@[simp] theorem State.showCell_clock (s : State) (n : ℕ) (k : ℕ) (j : ℕ) (v : CellView) : (State.showCell s n k j v).clock = s.clock := by
  simp [State.showCell]

@[simp] theorem State.healthCell_clock (s : State) (n : ℕ) (k : ℕ) (j : ℕ) : (State.healthCell s n k j).clock = s.clock := by
  simp [State.healthCell]

@[simp] theorem State.runCell_clock (s : State) (n : ℕ) (r : EstRun) (resting : Bool) (k : ℕ) (j : ℕ) : (State.runCell s n r resting k j).clock = s.clock := by
  unfold State.runCell; dsimp only; (repeat' split) <;> simp [*]

@[simp] theorem State.stringFigures_clock (s : State) (n : ℕ) : (State.stringFigures s n).clock = s.clock := by
  simp [State.stringFigures]

@[simp] theorem State.showEst_clock (s : State) (n : ℕ) : (State.showEst s n).clock = s.clock := by
  simp [State.showEst]

@[simp] theorem State.storeLearned_clock (s : State) (k : ℕ) (j : ℕ) : (State.storeLearned s k j).clock = s.clock := by
  simp [State.storeLearned]

@[simp] theorem State.fillReset_clock (s : State) (n : ℕ) (c : ℕ × ℕ) : (State.fillReset s n c).clock = s.clock := by
  simp [State.fillReset]

@[simp] theorem State.commitRun_clock (s : State) (n : ℕ) (r : EstRun) : (State.commitRun s n r).clock = s.clock := by
  simp [State.commitRun]

theorem execEstimateCommit_clock (s : State) : ∃ t, execEstimateCommit s = .next t ∧ t.clock = s.clock := by
  unfold execEstimateCommit
  split
  · exact ⟨_, rfl, rfl⟩
  · refine ⟨_, rfl, State.each_clock _ _ _ fun z n => ?_⟩
    dsimp only
    split
    · split
      · rfl
      · split <;> simp
    · rfl

@[simp] theorem State.balanceString_clock (s : State) (n : ℕ) : (State.balanceString s n).clock = s.clock := by
  unfold State.balanceString
  dsimp only
  refine State.each_clock _ _ _ fun z k => ?_
  split
  · split
    · rw [State.tellMonitor_clock, State.each_clock]
      intro z a; split <;> simp
    · rw [State.each_clock]
      intro z a; split <;> simp
  · rw [State.tellMonitor_clock, State.each_clock]
    intro z a; split <;> simp

theorem execBalanceSelection_clock (s : State) :
    ∃ t, execBalanceSelection s = .next t ∧ t.clock = s.clock := by
  unfold execBalanceSelection; split <;> exact ⟨_, rfl, by simp⟩

@[simp] theorem State.trimBleeds_clock (s : State) (n : ℕ) : (State.trimBleeds s n).clock = s.clock := by
  simp [State.trimBleeds]

@[simp] theorem State.storeRecord_clock (s : State) (k : ℕ) (j : ℕ) : (State.storeRecord s k j).clock = s.clock := by
  simp [State.storeRecord]

@[simp] theorem State.storeString_clock (s : State) (n : ℕ) : (State.storeString s n).clock = s.clock := by
  simp [State.storeString]

theorem execEstimatorStore_clock (s : State) :
    ∃ t, execEstimatorStore s = .next t ∧ t.clock = s.clock := by
  exact ⟨_, rfl, by simp⟩

@[simp] theorem applyEstReset_clock (n : ℕ) (s : State) : (applyEstReset n s).1.clock = s.clock := by
  simp [applyEstReset]

theorem execEstReset_clock (c : Client) (n : ℕ) (v : ℕ) (s : State) :
    ∃ t, execEstReset c n v s = .next t ∧ t.clock = s.clock := by
  exact ⟨_, rfl, by simp⟩

@[simp] theorem State.loadEstimator_clock (s : State) : (State.loadEstimator s).clock = s.clock := by
  simp [State.loadEstimator]

@[simp] theorem State.startCells_clock (s : State) (old : Tab PSlots) : (State.startCells s old).clock = s.clock := by
  unfold State.startCells
  (try dsimp only)
  (repeat' first | split | (rw [State.each_clock]) | (rw [State.when_clock]) | (rw [State.clientCommand_clock]) | (rw [State.receiveRequest_clock]) | (rw [State.admitQuery_clock]) | (rw [State.receive_clock]) | (rw [State.onRequest_clock]) | (intro z a; try dsimp only) | (intro z; try dsimp only)) <;> simp [*]

end Sys2Proof.Machine
end

