-- ==== Sys2Proof/Laws/ClockSiteTime.lean ====
section
/-!
SUPPORT. The clock and the queue of commands as the operations of Machine/SiteTime keep them.
-/
namespace Sys2Proof.Machine
open Sys2Proof

@[simp] theorem State.setTimeState_clock (s : State) (t : TimeState) : (State.setTimeState s t).clock = s.clock := by
  simp [State.setTimeState]

@[simp] theorem State.evalTimeError_clock (s : State) : (State.evalTimeError s).clock = s.clock := by
  unfold State.evalTimeError
  extract_lets limit high s1
  split
  · exact (State.raise_clock ..).trans (time_clock s _)
  · exact time_clock s _

@[simp] theorem State.loseMaster_clock (s : State) : (State.loseMaster s).clock = s.clock := by
  simp [State.loseMaster]

@[simp] theorem State.placeTime_clock (s : State) : (State.placeTime s).clock = s.clock := by
  simp [State.placeTime]

theorem execPtpAnnounce_clock (port : Fin 2) (a : Announce) (s : State) :
    ∃ t, execPtpAnnounce port a s = .next t ∧ t.clock = s.clock := by
  unfold execPtpAnnounce; dsimp only; (repeat' split) <;> exact ⟨_, rfl, by simp [*]⟩

@[simp] theorem State.correct_clock (s : State) (d : ℤ) : (State.correct s d).clock = s.clock := by
  simp [State.correct]

theorem execPtpSync_clock (port : Fin 2) (offset : ℤ) (s : State) :
    ∃ t, execPtpSync port offset s = .next t ∧ t.clock = s.clock := by
  unfold execPtpSync; dsimp only; (repeat' split) <;> exact ⟨_, rfl, by simp [*]⟩

theorem execPtpPdelay_clock (port : Fin 2) (m : PdelayMsg) (s : State) :
    ∃ t, execPtpPdelay port m s = .next t ∧ t.clock = s.clock := by
  unfold execPtpPdelay; (repeat' split) <;> exact ⟨_, rfl, by simp [*]⟩

@[simp] theorem State.sendPdelays_clock (s : State) : (State.sendPdelays s).clock = s.clock := by
  simp [State.sendPdelays]

theorem execAnnounceTimeout_clock (port : Fin 2) (s : State) :
    ∃ t, execAnnounceTimeout port s = .next t ∧ t.clock = s.clock := by
  unfold execAnnounceTimeout; dsimp only; (repeat' split) <;> exact ⟨_, rfl, by simp [*]⟩

theorem execPtpSyncTransmit_clock (s : State) :
    ∃ t, execPtpSyncTransmit s = .next t ∧ t.clock = s.clock := by
  unfold execPtpSyncTransmit; split <;> exact ⟨_, rfl, by simp⟩

@[simp] theorem applyTimeSet_clock (sfn : ℕ) (ns : ℕ) (s : State) : (applyTimeSet sfn ns s).1.clock = s.clock := by
  unfold applyTimeSet; split <;> simp

theorem execTimeSet_clock (c : Client) (sfn : ℕ) (ns : ℕ) (s : State) :
    ∃ t, execTimeSet c sfn ns s = .next t ∧ t.clock = s.clock := by
  exact ⟨_, rfl, by simp⟩

@[simp] theorem State.restateAll_clock (s : State) : (State.restateAll s).clock = s.clock := by
  simp [State.restateAll]

theorem execTimeStep_clock (s : State) :
    ∃ t, execTimeStep s = .next t ∧ t.clock = s.clock := by
  unfold execTimeStep; (repeat' split) <;> exact ⟨_, rfl, by simp [*]⟩

theorem execStepLastDayEnd_clock (s : State) :
    ∃ t, execStepLastDayEnd s = .next t ∧ t.clock = s.clock := by
  unfold execStepLastDayEnd; (repeat' split) <;> exact ⟨_, rfl, by simp [*]⟩

theorem execLeapSecond_clock (s : State) :
    ∃ t, execLeapSecond s = .next t ∧ t.clock = s.clock := by
  unfold execLeapSecond; dsimp only; (repeat' split) <;> exact ⟨_, rfl, by simp [*]⟩

@[simp] theorem State.writeBackup_clock (s : State) : (State.writeBackup s).clock = s.clock := by
  simp [State.writeBackup]

theorem execBackupCounterWrite_clock (s : State) :
    ∃ t, execBackupCounterWrite s = .next t ∧ t.clock = s.clock := by
  unfold execBackupCounterWrite; split <;> exact ⟨_, rfl, by simp⟩

@[simp] theorem State.frameTime_clock (s : State) : (State.frameTime s).clock = s.clock := by
  simp [State.frameTime]

end Sys2Proof.Machine
end

