-- ==== Sys2Proof/Laws/ClockPower.lean ====
section
/-!
SUPPORT. The clock and the queue of commands as the operations of Machine/Power keep them.
-/
namespace Sys2Proof.Machine
open Sys2Proof

@[simp] theorem State.setWin_clock (s : State) (m : ℕ) : (State.setWin s m).clock = s.clock := by
  simp [State.setWin]

@[simp] theorem State.setSide_clock (s : State) (x : ℕ) (b : Bool) : (State.setSide s x b).clock = s.clock := by
  simp [State.setSide]

@[simp] theorem State.setPw_clock (s : State) (h : ℕ) (b : Bool) : (State.setPw s h b).clock = s.clock := by
  simp [State.setPw]

@[simp] theorem State.setLk_clock (s : State) (h : ℕ) (b : Bool) : (State.setLk s h b).clock = s.clock := by
  simp [State.setLk]

@[simp] theorem State.setSt_clock (s : State) (h : ℕ) (b : Bool) : (State.setSt s h b).clock = s.clock := by
  simp [State.setSt]

@[simp] theorem State.losePw_clock (s : State) (h : ℕ) : (State.losePw s h).clock = s.clock := by
  simp [State.losePw]

@[simp] theorem State.loseLk_clock (s : State) (h : ℕ) : (State.loseLk s h).clock = s.clock := by
  simp [State.loseLk]

@[simp] theorem State.halfFault_clock (s : State) (half : ℕ) (diag : ℕ) : (State.halfFault s half diag).clock = s.clock := by
  unfold State.halfFault; split <;> simp

theorem execDieHalfFault_clock (half : Fin 8) (watchdog : Bool) (diag : ℕ) (s : State) :
    ∃ t, execDieHalfFault half watchdog diag s = .next t ∧ t.clock = s.clock := by
  unfold execDieHalfFault; (repeat' split) <;> exact ⟨_, rfl, by simp [*]⟩

theorem execDieHalfRestored_clock (half : Fin 8) (s : State) :
    ∃ t, execDieHalfRestored half s = .next t ∧ t.clock = s.clock := by
  unfold execDieHalfRestored; dsimp only; (repeat' split) <;> exact ⟨_, rfl, by simp [*]⟩

@[simp] theorem State.afterStop_clock (s : State) : (State.afterStop s).clock = s.clock := by
  simp [State.afterStop]

theorem execSelfDiagnosedFault_clock (die : Fin 2) (code : Fin 11) (s : State) :
    ∃ t, execSelfDiagnosedFault die code s = .next t ∧ t.clock = s.clock := by
  unfold execSelfDiagnosedFault; split <;> exact ⟨_, rfl, by simp⟩

@[simp] theorem State.darken_clock (s : State) : (State.darken s).clock = s.clock := by
  simp [State.darken]

@[simp] theorem State.goOff_clock (s : State) : (State.goOff s).clock = s.clock := by
  simp [State.goOff]

@[simp] theorem State.loseSide_clock (s : State) (x : ℕ) : (State.loseSide s x).clock = s.clock := by
  simp [State.loseSide]

@[simp] theorem State.domainEffect_clock (s : State) (d : ℕ) (mv : ℕ) : (State.domainEffect s d mv).clock = s.clock := by
  unfold State.domainEffect; split <;> simp

theorem execSupplyFault_clock (dom : Fin 15) (mv : ℕ) (s : State) :
    ∃ t, execSupplyFault dom mv s = .next t ∧ t.clock = s.clock := by
  unfold execSupplyFault; dsimp only; (repeat' split) <;> exact ⟨_, rfl, by simp [*]⟩

theorem execSupplyRestored_clock (dom : Fin 15) (mv : ℕ) (ms : ℕ) (s : State) :
    ∃ t, execSupplyRestored dom mv ms s = .next t ∧ t.clock = s.clock := by
  unfold execSupplyRestored; dsimp only; (repeat' split) <;> exact ⟨_, rfl, by simp [*]⟩

theorem execSideResetRelease_clock (sideB : Bool) (s : State) :
    ∃ t, execSideResetRelease sideB s = .next t ∧ t.clock = s.clock := by
  unfold execSideResetRelease; dsimp only; (repeat' split) <;> exact ⟨_, rfl, by simp [*]⟩

theorem execRstNAssert_clock (s : State) :
    ∃ t, execRstNAssert s = .next t ∧ t.clock = s.clock := by
  unfold execRstNAssert; split <;> exact ⟨_, rfl, by simp⟩

@[simp] theorem State.resetOutputs_clock (s : State) : (State.resetOutputs s).clock = s.clock := by
  unfold State.resetOutputs; split <;> simp

@[simp] theorem State.beginRest_clock (s : State) (op : ℕ) : (State.beginRest s op).clock = s.clock := by
  simp [State.beginRest]

@[simp] theorem applySleepRequest_clock (v : ℤ) (s : State) : (applySleepRequest v s).1.clock = s.clock := by
  unfold applySleepRequest; (repeat' split) <;> simp

theorem execSleepRequest_clock (c : Client) (v : ℕ) (s : State) :
    ∃ t, execSleepRequest c v s = .next t ∧ t.clock = s.clock := by
  exact ⟨_, rfl, by simp⟩

@[simp] theorem State.stopRopes_clock (s : State) : (State.stopRopes s).clock = s.clock := by
  simp [State.stopRopes]

theorem execSleepEntry_clock (s : State) :
    ∃ t, execSleepEntry s = .next t ∧ t.clock = s.clock := by
  unfold execSleepEntry; dsimp only; (repeat' split) <;> exact ⟨_, rfl, by simp [*]⟩

theorem execWakeCarrierStart_clock (s : State) :
    ∃ t, execWakeCarrierStart s = .next t ∧ t.clock = s.clock := by
  unfold execWakeCarrierStart; (repeat' split) <;> exact ⟨_, rfl, by simp [*]⟩

@[simp] theorem State.wokenFrame_clock (s : State) : (State.wokenFrame s).clock = s.clock := by
  unfold State.wokenFrame; split <;> simp

theorem execRopeWake_clock (n : Fin 8) (s : State) :
    ∃ t, execRopeWake n s = .next t ∧ t.clock = s.clock := by
  unfold execRopeWake; split <;> exact ⟨_, rfl, by simp⟩

@[simp] theorem applyShipRequest_clock (s : State) : (applyShipRequest s).1.clock = s.clock := by
  unfold applyShipRequest; split <;> simp

theorem execShipRequest_clock (c : Client) (v : ℕ) (s : State) :
    ∃ t, execShipRequest c v s = .next t ∧ t.clock = s.clock := by
  exact ⟨_, rfl, by simp⟩

@[simp] theorem State.stopMeter_clock (s : State) (d : ℕ) : (State.stopMeter s d).clock = s.clock := by
  simp [State.stopMeter]

theorem execShipEntry_clock (flushes : List Flush) (s : State) :
    ∃ t, execShipEntry flushes s = .next t ∧ t.clock = s.clock := by
  unfold execShipEntry; split <;> exact ⟨_, rfl, by simp⟩

theorem execShipWake_clock (mv : ℕ) (ms : ℕ) (s : State) :
    ∃ t, execShipWake mv ms s = .next t ∧ t.clock = s.clock := by
  unfold execShipWake; split <;> exact ⟨_, rfl, by simp⟩

@[simp] theorem applyRecoveryExit_clock (s : State) : (applyRecoveryExit s).1.clock = s.clock := by
  unfold applyRecoveryExit; split <;> simp

theorem execRecoveryExit_clock (c : Client) (v : ℕ) (s : State) :
    ∃ t, execRecoveryExit c v s = .next t ∧ t.clock = s.clock := by
  exact ⟨_, rfl, by simp⟩

@[simp] theorem applyTestEnter_clock (s : State) : (applyTestEnter s).1.clock = s.clock := by
  unfold applyTestEnter; split <;> simp

theorem execTestEnter_clock (c : Client) (v : ℕ) (s : State) :
    ∃ t, execTestEnter c v s = .next t ∧ t.clock = s.clock := by
  exact ⟨_, rfl, by simp⟩

@[simp] theorem State.testFrame_clock (s : State) : (State.testFrame s).clock = s.clock := by
  unfold State.testFrame; split <;> simp

theorem execRefclkLost_clock (gap : ℕ) (ppm : ℤ) (us : ℕ) (s : State) :
    ∃ t, execRefclkLost gap ppm us s = .next t ∧ t.clock = s.clock := by
  unfold execRefclkLost; split <;> exact ⟨_, rfl, by simp⟩

theorem execRefclkRestored_clock (ms : ℕ) (s : State) :
    ∃ t, execRefclkRestored ms s = .next t ∧ t.clock = s.clock := by
  unfold execRefclkRestored; split <;> exact ⟨_, rfl, by simp⟩

theorem execPfwAssert_clock (offset : ℕ) (flushes : List Flush) (s : State) :
    ∃ t, execPfwAssert offset flushes s = .next t ∧ t.clock = s.clock := by
  unfold execPfwAssert; (repeat' split) <;> exact ⟨_, rfl, by simp [*]⟩

theorem execPfwRelease_clock (s : State) :
    ∃ t, execPfwRelease s = .next t ∧ t.clock = s.clock := by
  unfold execPfwRelease; split <;> exact ⟨_, rfl, by simp⟩

end Sys2Proof.Machine
end

