-- ==== Sys2Proof/Laws/ClockStart.lean ====
section
/-!
SUPPORT. The clock and the queue of commands as the operations of Machine/Start keep them.
-/
namespace Sys2Proof.Machine
open Sys2Proof

@[simp] theorem State.loseCopy_clock (s : State) (x : CopyLoss) : (State.loseCopy s x).clock = s.clock := by
  unfold State.loseCopy; dsimp only; (repeat' split) <;> simp [*]

@[simp] theorem State.applySump_clock (s : State) (good : Bool) : (State.applySump s good).clock = s.clock := by
  unfold State.applySump; split <;> simp

@[simp] theorem State.startTime_clock (s : State) (elapsed : ℕ) : (State.startTime s elapsed).clock = s.clock := by
  simp [State.startTime]

@[simp] theorem State.startRest_clock (s : State) (before : TimeState) (last : ℕ) : (State.startRest s before last).clock = s.clock := by
  simp [State.startRest]

@[simp] theorem State.rootAttempt_clock (s : State) (half : ℕ) (r : RootTry) : (State.rootAttempt s half r).clock = s.clock := by
  simp [State.rootAttempt]

@[simp] theorem State.startRoots_clock (s : State) (b0 : BootReport) : (State.startRoots s b0).clock = s.clock := by
  unfold State.startRoots; dsimp only; (repeat' split) <;> simp [*]

@[simp] theorem State.startIdentity_clock (s : State) (b : BootReport) : (State.startIdentity s b).clock = s.clock := by
  simp [State.startIdentity]

@[simp] theorem State.startKeys_clock (s : State) : (State.startKeys s).clock = s.clock := by
  simp [State.startKeys]

@[simp] theorem State.factorySlot_clock (s : State) (slot : ℕ) (version : ℕ) (meas : List Byte) : (State.factorySlot s slot version meas).clock = s.clock := by
  simp [State.factorySlot]

@[simp] theorem State.startImages_clock (s : State) (die : ℕ) (b : BootReport) : (State.startImages s die b).clock = s.clock := by
  unfold State.startImages; dsimp only; (repeat' split) <;> simp [*]

@[simp] theorem State.lastCommit_clock (s : State) (d : ℕ) : (State.lastCommit s d).clock = s.clock := by
  simp [State.lastCommit]

@[simp] theorem State.restoreRegs_clock (s : State) (d : ℕ) (src : ℕ) : (State.restoreRegs s d src).clock = s.clock := by
  simp [State.restoreRegs]

@[simp] theorem State.leaveSingle_clock (s : State) : (State.leaveSingle s).clock = s.clock := by
  simp [State.leaveSingle]

@[simp] theorem State.startMeter_clock (s : State) (d : ℕ) (b : BootReport) : (State.startMeter s d b).clock = s.clock := by
  simp [State.startMeter]

@[simp] theorem State.startMeters_clock (s : State) (b : BootReport) : (State.startMeters s b).clock = s.clock := by
  simp [State.startMeters]

@[simp] theorem State.dropControl_clock (s : State) : (State.dropControl s).clock = s.clock := by
  simp [State.dropControl]

@[simp] theorem State.dropAll_clock (s : State) : (State.dropAll s).clock = s.clock := by
  simp [State.dropAll]

@[simp] theorem State.recoveryOutputs_clock (s : State) : (State.recoveryOutputs s).clock = s.clock := by
  simp [State.recoveryOutputs]

@[simp] theorem State.takeMap_clock (s : State) (n : ℕ) : (State.takeMap s n).clock = s.clock := by
  simp [State.takeMap]

@[simp] theorem State.adoptOutputs_clock (s : State) (full : Bool) : (State.adoptOutputs s full).clock = s.clock := by
  simp [State.adoptOutputs]

@[simp] theorem State.takeControl_clock (s : State) (die : ℕ) (b : BootReport) : (State.takeControl s die b).clock = s.clock := by
  unfold State.takeControl; dsimp only; (repeat' split) <;> simp [*]

theorem execDieBootComplete_clock (die : Fin 2) (b : BootReport) (s : State) :
    ∃ t, execDieBootComplete die b s = .next t ∧ t.clock = s.clock := by
  unfold execDieBootComplete; dsimp only; (repeat' split) <;> exact ⟨_, rfl, by simp [*]⟩

theorem execPreferredDieTimeout_clock (s : State) :
    ∃ t, execPreferredDieTimeout s = .next t ∧ t.clock = s.clock := by
  unfold execPreferredDieTimeout; dsimp only; (repeat' split) <;> exact ⟨_, rfl, by simp [*]⟩

end Sys2Proof.Machine
end

