-- ==== Sys2Proof/Laws/ClockLoops.lean ====
section
/-!
SUPPORT. The clock and the queue of commands as the operations of Machine/Loops keep them.
-/
namespace Sys2Proof.Machine
open Sys2Proof

@[simp] theorem State.setLoop_clock (s : State) (l : ℕ) (k : LoopSt) : (State.setLoop s l k).clock = s.clock := by
  simp [State.setLoop]

@[simp] theorem State.setCable_clock (s : State) (o : ℕ) (k : CableSt) : (State.setCable s o k).clock = s.clock := by
  simp [State.setCable]

@[simp] theorem State.showLoop_clock (s : State) (l : ℕ) : (State.showLoop s l).clock = s.clock := by
  simp [State.showLoop]

@[simp] theorem State.faultLoop_clock (s : State) (l : ℕ) (k : LoopSt) (sec : ℕ) : (State.faultLoop s l k sec).clock = s.clock := by
  simp [State.faultLoop]

@[simp] theorem State.driveTarget_clock (s : State) (l : ℕ) (out : ℕ) : (State.driveTarget s l out).clock = s.clock := by
  simp [State.driveTarget]

@[simp] theorem State.runLoop_clock (s : State) (l : ℕ) : (State.runLoop s l).clock = s.clock := by
  unfold State.runLoop; dsimp only; (repeat' split) <;> simp [*]

@[simp] theorem State.cableFaults_clock (s : State) (o : ℕ) : (State.cableFaults s o).clock = s.clock := by
  simp [State.cableFaults]

@[simp] theorem State.initCable_clock (s : State) (o : ℕ) : (State.initCable s o).clock = s.clock := by
  simp [State.initCable]

@[simp] theorem State.predict_clock (s : State) (o : ℕ) (p : ℕ) (cond : ℕ) (cool : ℕ) : (State.predict s o p cond cool).2.2.clock = s.clock := by
  unfold State.predict; dsimp only; (repeat' split) <;> simp [*]

@[simp] theorem State.derate_clock (s : State) (o : ℕ) : (State.derate s o).clock = s.clock := by
  unfold State.derate; dsimp only; (repeat' split) <;> simp [*]

@[simp] theorem State.showCable_clock (s : State) (o : ℕ) : (State.showCable s o).clock = s.clock := by
  simp [State.showCable]

@[simp] theorem State.finite_clock (s : State) (b : ℕ) : (State.finite s b).2.clock = s.clock := by
  unfold State.finite; split <;> simp

@[simp] theorem State.cableSpans_clock (s : State) (o : ℕ) (cond : ℕ) (pin : Option ℕ) : (State.cableSpans s o cond pin).clock = s.clock := by
  simp [State.cableSpans]

@[simp] theorem State.runCable_clock (s : State) (o : ℕ) : (State.runCable s o).clock = s.clock := by
  simp [State.runCable]

@[simp] theorem State.runEngine_clock (s : State) (ns : ℕ) (stop : Option ℕ) : (State.runEngine s ns stop).clock = s.clock := by
  unfold State.runEngine
  dsimp only
  rw [State.when_clock _ _ _ fun z => State.fitNat_clock .., State.fitNat_clock, State.each_clock _ _ _ fun z l => State.showLoop_clock .., State.each_clock, State.each_clock]
  · intro z l
    split <;> simp
  · intro z l
    (repeat' split) <;> simp

@[simp] theorem State.countSaturation_clock (s : State) : (State.countSaturation s).clock = s.clock := by
  simp [State.countSaturation]

@[simp] theorem State.swapLoop_clock (s : State) (old : State) (l : ℕ) : (State.swapLoop s old l).clock = s.clock := by
  simp [State.swapLoop]

@[simp] theorem State.retarget_clock (s : State) (old : State) (c : ℕ) : (State.retarget s old c).clock = s.clock := by
  unfold State.retarget; (repeat' split) <;> simp [*]

@[simp] theorem State.swapLoops_clock (s : State) (old : State) : (State.swapLoops s old).clock = s.clock := by
  simp [State.swapLoops]

theorem execLoopSaturated_clock (l : Fin 64) (s : State) :
    ∃ t, execLoopSaturated l s = .next t ∧ t.clock = s.clock := by
  unfold execLoopSaturated; dsimp only; (repeat' split) <;> exact ⟨_, rfl, by simp [*]⟩

@[simp] theorem applyLoopReset_clock (l : ℕ) (s : State) : (applyLoopReset l s).1.clock = s.clock := by
  unfold applyLoopReset; dsimp only; (repeat' split) <;> simp [*]

theorem execLoopReset_clock (c : Client) (l : ℕ) (v : ℕ) (s : State) :
    ∃ t, execLoopReset c l v s = .next t ∧ t.clock = s.clock := by
  exact ⟨_, rfl, by simp⟩

theorem execCableOverTemp_clock (o : Fin 8) (pin : Bool) (s : State) :
    ∃ t, execCableOverTemp o pin s = .next t ∧ t.clock = s.clock := by
  unfold execCableOverTemp; dsimp only; (repeat' split) <;> exact ⟨_, rfl, by simp [*]⟩

theorem execCoolantFlowLow_clock (o : Fin 8) (s : State) :
    ∃ t, execCoolantFlowLow o s = .next t ∧ t.clock = s.clock := by
  unfold execCoolantFlowLow; (repeat' split) <;> exact ⟨_, rfl, by simp [*]⟩

theorem execCoolantFlowRestored_clock (o : Fin 8) (s : State) :
    ∃ t, execCoolantFlowRestored o s = .next t ∧ t.clock = s.clock := by
  unfold execCoolantFlowRestored; (repeat' split) <;> exact ⟨_, rfl, by simp [*]⟩

end Sys2Proof.Machine
end

