-- ==== Sys2Proof/Laws/ClockCalibration.lean ====
section
/-!
SUPPORT. The clock and the queue of commands as the operations of Machine/Calibration keep them.
-/
namespace Sys2Proof.Machine
open Sys2Proof

@[simp] theorem State.watchChannels_clock (s : State) : (State.watchChannels s).clock = s.clock := by
  simp [State.watchChannels]

@[simp] theorem State.startCal_clock (s : State) (ch : ℕ) (command : ℕ) (dies : ℕ) (reference : ℕ) (slot : Option ℕ) : (State.startCal s ch command dies reference slot).clock = s.clock := by
  simp [State.startCal]

@[simp] theorem applyCal_clock (ch : ℕ) (command : ℕ) (dies : ℕ) (reference : ℕ) (queue : Bool) (s : State) : (applyCal ch command dies reference queue s).1.clock = s.clock := by
  unfold applyCal; (repeat' split) <;> simp

theorem execCalZero_clock (c : Client) (ch : ℕ) (dies : ℕ) (reference : ℕ) (s : State) :
    ∃ t, execCalZero c ch dies reference s = .next t ∧ t.clock = s.clock := by
  exact ⟨_, rfl, by simp⟩

theorem execCalSpan_clock (c : Client) (ch : ℕ) (dies : ℕ) (reference : ℕ) (s : State) :
    ∃ t, execCalSpan c ch dies reference s = .next t ∧ t.clock = s.clock := by
  exact ⟨_, rfl, by simp⟩

theorem execCalRestore_clock (c : Client) (ch : ℕ) (dies : ℕ) (reference : ℕ) (s : State) :
    ∃ t, execCalRestore c ch dies reference s = .next t ∧ t.clock = s.clock := by
  exact ⟨_, rfl, by simp⟩

@[simp] theorem State.storeCal_clock (s : State) (k : Calib) (d : ℕ) : (State.storeCal s k d).clock = s.clock := by
  simp [State.storeCal]

@[simp] theorem State.endCal_clock (s : State) (k : Calib) (st : ℕ) : (State.endCal s k st).clock = s.clock := by
  simp [State.endCal]

theorem execCalDone_clock (ch : Fin 96) (s : State) :
    ∃ t, execCalDone ch s = .next t ∧ t.clock = s.clock := by
  unfold execCalDone; (repeat' split) <;> exact ⟨_, rfl, by simp [*]⟩

@[simp] theorem applyMchOpenTest_clock (ch : ℕ) (v : ℕ) (queue : Bool) (s : State) : (applyMchOpenTest ch v queue s).1.clock = s.clock := by
  simp [applyMchOpenTest]

theorem execMchOpenTest_clock (c : Client) (ch : ℕ) (v : ℕ) (s : State) :
    ∃ t, execMchOpenTest c ch v s = .next t ∧ t.clock = s.clock := by
  exact ⟨_, rfl, by simp⟩

theorem execOpenTestDone_clock (ch : Fin 96) (pos : ℕ) (neg : ℕ) (s : State) :
    ∃ t, execOpenTestDone ch pos neg s = .next t ∧ t.clock = s.clock := by
  unfold execOpenTestDone; dsimp only; (repeat' split) <;> exact ⟨_, rfl, by simp [*]⟩

@[simp] theorem State.placeMeasurement_clock (s : State) (old : State) : (State.placeMeasurement s old).clock = s.clock := by
  simp [State.placeMeasurement]

end Sys2Proof.Machine
end

