-- ==== Sys2Proof/Laws/ClockConverterRows.lean ====
section
/-!
SUPPORT. The clock and the queue of commands as the operations of Machine/ConverterRows keep them.
-/
namespace Sys2Proof.Machine
open Sys2Proof

theorem execGroupRangeReturn_clock (g : Fin 8) (s : State) :
    ∃ t, execGroupRangeReturn g s = .next t ∧ t.clock = s.clock := by
  unfold execGroupRangeReturn; dsimp only; (repeat' split) <;> exact ⟨_, rfl, by simp [*]⟩

@[simp] theorem State.shedNow_clock (s : State) (g : ℕ) (p : ℕ) : (State.shedNow s g p).clock = s.clock := by
  simp [State.shedNow]

theorem execPhaseFire_clock (g : Fin 8) (at_ : ℕ) (s : State) :
    ∃ t, execPhaseFire g at_ s = .next t ∧ t.clock = s.clock := by
  unfold execPhaseFire; dsimp only; (repeat' split) <;> exact ⟨_, rfl, by simp [*]⟩

theorem execPhaseImbalance_clock (p : Fin 32) (s : State) :
    ∃ t, execPhaseImbalance p s = .next t ∧ t.clock = s.clock := by
  unfold execPhaseImbalance; dsimp only; (repeat' split) <;> exact ⟨_, rfl, by simp [*]⟩

@[simp] theorem State.tripGroup_clock (s : State) (g : ℕ) (m : ℕ) : (State.tripGroup s g m).clock = s.clock := by
  simp [State.tripGroup]

theorem execPhaseFastTrip_clock (p : Fin 32) (s : State) :
    ∃ t, execPhaseFastTrip p s = .next t ∧ t.clock = s.clock := by
  unfold execPhaseFastTrip; dsimp only; (repeat' split) <;> exact ⟨_, rfl, by simp [*]⟩

theorem execFastTripHoldEnd_clock (p : Fin 32) (s : State) :
    ∃ t, execFastTripHoldEnd p s = .next t ∧ t.clock = s.clock := by
  unfold execFastTripHoldEnd; dsimp only; (repeat' split) <;> exact ⟨_, rfl, by simp [*]⟩

@[simp] theorem applyGroupReset_clock (g : ℕ) (s : State) : (applyGroupReset g s).1.clock = s.clock := by
  unfold applyGroupReset; (repeat' split) <;> simp

theorem execGroupReset_clock (c : Client) (g : ℕ) (v : ℕ) (s : State) :
    ∃ t, execGroupReset c g v s = .next t ∧ t.clock = s.clock := by
  exact ⟨_, rfl, by simp⟩

theorem execPhaseFailed_clock (p : Fin 32) (s : State) :
    ∃ t, execPhaseFailed p s = .next t ∧ t.clock = s.clock := by
  unfold execPhaseFailed; (repeat' split) <;> exact ⟨_, rfl, by simp [*]⟩

theorem execPhaseOverload_clock (p : Fin 32) (s : State) :
    ∃ t, execPhaseOverload p s = .next t ∧ t.clock = s.clock := by
  unfold execPhaseOverload; dsimp only; (repeat' split) <;> exact ⟨_, rfl, by simp [*]⟩

theorem execStepHoldEnd_clock (g : Fin 8) (s : State) :
    ∃ t, execStepHoldEnd g s = .next t ∧ t.clock = s.clock := by
  unfold execStepHoldEnd; (repeat' split) <;> exact ⟨_, rfl, by simp [*]⟩

theorem execGroupStopComplete_clock (g : Fin 8) (s : State) :
    ∃ t, execGroupStopComplete g s = .next t ∧ t.clock = s.clock := by
  unfold execGroupStopComplete; dsimp only; (repeat' split) <;> exact ⟨_, rfl, by simp [*]⟩

@[simp] theorem State.startPhaseTest_clock (s : State) (p : ℕ) (slot : Option ℕ) : (State.startPhaseTest s p slot).clock = s.clock := by
  simp [State.startPhaseTest]

@[simp] theorem applyPhaseTest_clock (p : ℕ) (v : ℕ) (queue : Bool) (s : State) : (applyPhaseTest p v queue s).1.clock = s.clock := by
  simp [applyPhaseTest]

theorem execPhaseTest_clock (c : Client) (p : ℕ) (v : ℕ) (s : State) :
    ∃ t, execPhaseTest c p v s = .next t ∧ t.clock = s.clock := by
  exact ⟨_, rfl, by simp⟩

theorem execPhaseTestDone_clock (p : Fin 32) (comparator : Bool) (s : State) :
    ∃ t, execPhaseTestDone p comparator s = .next t ∧ t.clock = s.clock := by
  unfold execPhaseTestDone; dsimp only; (repeat' split) <;> exact ⟨_, rfl, by simp [*]⟩

@[simp] theorem applyPhaseReset_clock (p : ℕ) (s : State) : (applyPhaseReset p s).1.clock = s.clock := by
  unfold applyPhaseReset; (repeat' split) <;> simp

theorem execPhaseReset_clock (c : Client) (p : ℕ) (v : ℕ) (s : State) :
    ∃ t, execPhaseReset c p v s = .next t ∧ t.clock = s.clock := by
  exact ⟨_, rfl, by simp⟩

end Sys2Proof.Machine
end

