-- ==== Sys2Proof/Laws/ClockOutletRows.lean ====
section
/-!
SUPPORT. The clock and the queue of commands as the operations of Machine/OutletRows keep them.
-/
namespace Sys2Proof.Machine
open Sys2Proof

@[simp] theorem State.plugIn_clock (s : State) (o : ℕ) : (State.plugIn s o).clock = s.clock := by
  simp [State.plugIn]

theorem execPlugInRecognised_clock (o : Fin 8) (s : State) :
    ∃ t, execPlugInRecognised o s = .next t ∧ t.clock = s.clock := by
  unfold execPlugInRecognised; dsimp only; (repeat' split) <;> exact ⟨_, rfl, by simp [*]⟩

theorem execConfirmationLoss_clock (o : Fin 8) (s : State) :
    ∃ t, execConfirmationLoss o s = .next t ∧ t.clock = s.clock := by
  unfold execConfirmationLoss; (repeat' split) <;> exact ⟨_, rfl, by simp [*]⟩

theorem execDiscoveryRequest_clock (o : Fin 8) (tls : Bool) (s : State) :
    ∃ t, execDiscoveryRequest o tls s = .next t ∧ t.clock = s.clock := by
  unfold execDiscoveryRequest; split <;> exact ⟨_, rfl, by simp⟩

theorem execTlsHandshake_clock (o : Fin 8) (good : Bool) (cert : Bool) (s : State) :
    ∃ t, execTlsHandshake o good cert s = .next t ∧ t.clock = s.clock := by
  unfold execTlsHandshake; dsimp only; (repeat' split) <;> exact ⟨_, rfl, by simp [*]⟩

theorem execAppProtocolHandshake_clock (o : Fin 8) (offered : List Namespace) (s : State) :
    ∃ t, execAppProtocolHandshake o offered s = .next t ∧ t.clock = s.clock := by
  unfold execAppProtocolHandshake; split <;> exact ⟨_, rfl, by simp⟩

theorem execServiceDiscoveryReq_clock (o : Fin 8) (select : Option ℕ) (mode : Fin 2) (s : State) :
    ∃ t, execServiceDiscoveryReq o select mode s = .next t ∧ t.clock = s.clock := by
  unfold execServiceDiscoveryReq; split <;> exact ⟨_, rfl, by simp⟩

theorem execSessionSetupReq_clock (o : Fin 8) (random : ℕ) (s : State) :
    ∃ t, execSessionSetupReq o random s = .next t ∧ t.clock = s.clock := by
  unfold execSessionSetupReq; split <;> exact ⟨_, rfl, by simp⟩

theorem execAuthorizationReq_clock (o : Fin 8) (pnc : Bool) (chainOk : Bool) (contract : List Byte) (s : State) :
    ∃ t, execAuthorizationReq o pnc chainOk contract s = .next t ∧ t.clock = s.clock := by
  exact ⟨_, rfl, by simp⟩

@[simp] theorem State.vehicleError_clock (s : State) (o : ℕ) (p : EvParams) : (State.vehicleError s o p).clock = s.clock := by
  simp [State.vehicleError]

theorem execDcChargeParameterDiscovery_clock (o : Fin 8) (p : EvParams) (s : State) :
    ∃ t, execDcChargeParameterDiscovery o p s = .next t ∧ t.clock = s.clock := by
  exact ⟨_, rfl, by simp⟩

theorem execDcCableCheckReq_clock (o : Fin 8) (s : State) :
    ∃ t, execDcCableCheckReq o s = .next t ∧ t.clock = s.clock := by
  exact ⟨_, rfl, by simp⟩

theorem execCableCheckPass_clock (o : Fin 8) (s : State) :
    ∃ t, execCableCheckPass o s = .next t ∧ t.clock = s.clock := by
  unfold execCableCheckPass; (repeat' split) <;> exact ⟨_, rfl, by simp [*]⟩

theorem execDcPreChargeReq_clock (o : Fin 8) (target : ℕ) (s : State) :
    ∃ t, execDcPreChargeReq o target s = .next t ∧ t.clock = s.clock := by
  exact ⟨_, rfl, by simp⟩

theorem execPowerDeliveryReqStart_clock (o : Fin 8) (s : State) :
    ∃ t, execPowerDeliveryReqStart o s = .next t ∧ t.clock = s.clock := by
  exact ⟨_, rfl, by simp⟩

theorem execPowerDeliveryReqStandby_clock (o : Fin 8) (s : State) :
    ∃ t, execPowerDeliveryReqStandby o s = .next t ∧ t.clock = s.clock := by
  exact ⟨_, rfl, by simp⟩

theorem execPowerDeliveryReqStop_clock (o : Fin 8) (s : State) :
    ∃ t, execPowerDeliveryReqStop o s = .next t ∧ t.clock = s.clock := by
  exact ⟨_, rfl, by simp⟩

theorem execSessionStopReq_clock (o : Fin 8) (s : State) :
    ∃ t, execSessionStopReq o s = .next t ∧ t.clock = s.clock := by
  unfold execSessionStopReq; dsimp only; (repeat' split) <;> exact ⟨_, rfl, by simp [*]⟩

theorem execLoopRequest_clock (o : Fin 8) (p : EvParams) (s : State) :
    ∃ t, execLoopRequest o p s = .next t ∧ t.clock = s.clock := by
  exact ⟨_, rfl, by simp⟩

theorem execDcWeldingDetectionReq_clock (o : Fin 8) (finished : Bool) (s : State) :
    ∃ t, execDcWeldingDetectionReq o finished s = .next t ∧ t.clock = s.clock := by
  exact ⟨_, rfl, by simp⟩

theorem execCertificateInstallationReq_clock (o : Fin 8) (s : State) :
    ∃ t, execCertificateInstallationReq o s = .next t ∧ t.clock = s.clock := by
  unfold execCertificateInstallationReq; dsimp only; (repeat' split) <;> exact ⟨_, rfl, by simp [*]⟩

theorem execAuthResponse_clock (c : Client) (o : ℕ) (d : Decision) (s : State) :
    ∃ t, execAuthResponse c o d s = .next t ∧ t.clock = s.clock := by
  exact ⟨_, rfl, by simp⟩

theorem execEimToken_clock (c : Client) (o : ℕ) (token : List Byte) (s : State) :
    ∃ t, execEimToken c o token s = .next t ∧ t.clock = s.clock := by
  exact ⟨_, rfl, by simp⟩

@[simp] theorem State.authTimeout_clock (s : State) (o : ℕ) : (State.authTimeout s o).clock = s.clock := by
  simp [State.authTimeout]

theorem execAuthTimeout_clock (o : Fin 8) (s : State) :
    ∃ t, execAuthTimeout o s = .next t ∧ t.clock = s.clock := by
  unfold execAuthTimeout; split <;> exact ⟨_, rfl, by simp⟩

@[simp] theorem State.loopSilence_clock (s : State) (o : ℕ) : (State.loopSilence s o).clock = s.clock := by
  simp [State.loopSilence]

@[simp] theorem State.forceOpen_clock (s : State) (o : ℕ) : (State.forceOpen s o).clock = s.clock := by
  simp [State.forceOpen]

theorem execSessionStateLimit_clock (o : Fin 8) (s : State) :
    ∃ t, execSessionStateLimit o s = .next t ∧ t.clock = s.clock := by
  unfold execSessionStateLimit; dsimp only; (repeat' split) <;> exact ⟨_, rfl, by simp [*]⟩

theorem execInsulationTrip_clock (o : Fin 8) (s : State) :
    ∃ t, execInsulationTrip o s = .next t ∧ t.clock = s.clock := by
  unfold execInsulationTrip; split <;> exact ⟨_, rfl, by simp⟩

theorem execOutletTrip_clock (o : Fin 8) (k : Fin 3) (s : State) :
    ∃ t, execOutletTrip o k s = .next t ∧ t.clock = s.clock := by
  unfold execOutletTrip; dsimp only; (repeat' split) <;> exact ⟨_, rfl, by simp [*]⟩

theorem execLinkLost_clock (o : Fin 8) (silence : Bool) (s : State) :
    ∃ t, execLinkLost o silence s = .next t ∧ t.clock = s.clock := by
  unfold execLinkLost; (repeat' split) <;> exact ⟨_, rfl, by simp [*]⟩

theorem execStopRequest_clock (c : Client) (o : ℕ) (v : ℕ) (s : State) :
    ∃ t, execStopRequest c o v s = .next t ∧ t.clock = s.clock := by
  exact ⟨_, rfl, by simp⟩

theorem execOutletReset_clock (c : Client) (o : ℕ) (v : ℕ) (s : State) :
    ∃ t, execOutletReset c o v s = .next t ∧ t.clock = s.clock := by
  exact ⟨_, rfl, by simp⟩

theorem execOutletEnable_clock (c : Client) (o : ℕ) (v : ℕ) (s : State) :
    ∃ t, execOutletEnable c o v s = .next t ∧ t.clock = s.clock := by
  exact ⟨_, rfl, by simp⟩

theorem execContactorOpen_clock (o : Fin 8) (s : State) :
    ∃ t, execContactorOpen o s = .next t ∧ t.clock = s.clock := by
  unfold execContactorOpen; split <;> exact ⟨_, rfl, by simp⟩

theorem execForcedOpen_clock (o : Fin 8) (s : State) :
    ∃ t, execForcedOpen o s = .next t ∧ t.clock = s.clock := by
  exact ⟨_, rfl, by simp⟩

theorem execEmergencyStop_clock (s : State) :
    ∃ t, execEmergencyStop s = .next t ∧ t.clock = s.clock := by
  unfold execEmergencyStop; split <;> exact ⟨_, rfl, by simp⟩

@[simp] theorem State.estopOpen_clock (s : State) (h : ℕ) : (State.estopOpen s h).clock = s.clock := by
  simp [State.estopOpen]

theorem execEstopForcedOpen_clock (s : State) :
    ∃ t, execEstopForcedOpen s = .next t ∧ t.clock = s.clock := by
  unfold execEstopForcedOpen; (repeat' split) <;> exact ⟨_, rfl, by simp [*]⟩

theorem execEstopRelease_clock (s : State) :
    ∃ t, execEstopRelease s = .next t ∧ t.clock = s.clock := by
  unfold execEstopRelease; split <;> exact ⟨_, rfl, by simp⟩

theorem execEstopReset_clock (c : Client) (v : ℕ) (s : State) :
    ∃ t, execEstopReset c v s = .next t ∧ t.clock = s.clock := by
  exact ⟨_, rfl, by simp⟩

theorem execEstopAutoReset_clock (s : State) :
    ∃ t, execEstopAutoReset s = .next t ∧ t.clock = s.clock := by
  unfold execEstopAutoReset; (repeat' split) <;> exact ⟨_, rfl, by simp [*]⟩

theorem execWeldingCheck_clock (o : Fin 8) (s : State) :
    ∃ t, execWeldingCheck o s = .next t ∧ t.clock = s.clock := by
  unfold execWeldingCheck; dsimp only; (repeat' split) <;> exact ⟨_, rfl, by simp [*]⟩

theorem execReleaseLockOff_clock (o : Fin 8) (s : State) :
    ∃ t, execReleaseLockOff o s = .next t ∧ t.clock = s.clock := by
  unfold execReleaseLockOff; dsimp only; (repeat' split) <;> exact ⟨_, rfl, by simp [*]⟩

theorem execCouplerReleased_clock (o : Fin 8) (s : State) :
    ∃ t, execCouplerReleased o s = .next t ∧ t.clock = s.clock := by
  unfold execCouplerReleased; dsimp only; (repeat' split) <;> exact ⟨_, rfl, by simp [*]⟩

end Sys2Proof.Machine
end

