-- ==== Sys2Proof/Laws/ClockApply.lean ====
section
/-!
SUPPORT. The clock and the queue of commands as the operations of Machine/Apply keep them.
-/
namespace Sys2Proof.Machine
open Sys2Proof

@[simp] theorem applyUnitTest_clock (u : ℕ) (queue : Bool) (s : State) : (applyUnitTest u queue s).1.clock = s.clock := by
  simp [applyUnitTest]

@[simp] theorem applyEntry_clock (f : Found) (v : Val) (queue : Bool) (digest : ℕ) (s : State) : (applyEntry f v queue digest s).1.clock = s.clock := by
  unfold applyEntry; dsimp only; (repeat' split) <;> simp [*]

@[simp] theorem State.applyWrite_clock (s : State) (f : Found) (v : Val) (queue : Bool) (digest : ℕ) : (State.applyWrite s f v queue digest).1.clock = s.clock := by
  unfold State.applyWrite; (repeat' split) <;> simp

@[simp] theorem State.applyItem_clock (s : State) (h : Held) (w : WItem) : (State.applyItem s h w).1.clock = s.clock := by
  unfold State.applyItem; dsimp only; (repeat' split) <;> simp [*]

@[simp] theorem groupItems_clock (h : Held) (items : List WItem) (i : ℕ) (s : State) (swap : Option ℕ) :
    (groupItems h items i s swap).1.clock = s.clock := by
  induction items generalizing i s swap with
  | nil => rfl
  | cons w r ih =>
    unfold groupItems
    dsimp only
    (repeat' split) <;> simp [ih]

@[simp] theorem State.applyGroup_clock (s : State) (h : Held) : (State.applyGroup s h).clock = s.clock := by
  unfold State.applyGroup
  have g := groupItems_clock h h.items 0 s none
  extract_lets r fault
  clear_value fault
  rcases fault with _ | ⟨st, i⟩
  · dsimp only
    split
    · exact g
    · rw [State.answerLater_clock]; exact g
  · exact State.answerLater_clock ..

@[simp] theorem State.applySingle_clock (s : State) (h : Held) (w : WItem) : (State.applySingle s h w).clock = s.clock := by
  unfold State.applySingle
  (try dsimp only)
  (repeat' split) <;> simp

@[simp] theorem State.applyHeld_clock (s : State) (h : Held) : (State.applyHeld s h).clock = s.clock := by
  unfold State.applyHeld; (repeat' split) <;> simp

@[simp] theorem State.applyRequests_clock (s : State) : (State.applyRequests s).clock = s.clock := by
  simp [State.applyRequests]

@[simp] theorem State.digests_clock (s : State) : (State.digests s).clock = s.clock := by
  simp [State.digests]

@[simp] theorem State.endAction_clock (s : State) (i : ℕ) (status : ℕ) (late : Bool) : (State.endAction s i status late).clock = s.clock := by
  simp [State.endAction]

@[simp] theorem State.missAction_clock (s : State) (i : ℕ) : (State.missAction s i).clock = s.clock := by
  simp [State.missAction]

@[simp] theorem State.doAction_clock (s : State) (i : ℕ) : (State.doAction s i).1.clock = s.clock := by
  unfold State.doAction; dsimp only; (repeat' split) <;> simp [*]

@[simp] theorem State.execAction_clock (s : State) (i : ℕ) (late : Bool) : (State.execAction s i late).clock = s.clock := by
  simp [State.execAction]

@[simp] theorem State.atStep_clock (s : State) (k : ℕ) : (State.atStep s k).clock = s.clock := by
  simp [State.atStep]

theorem execActionExecution_clock (s : State) :
    ∃ t, execActionExecution s = .next t ∧ t.clock = s.clock := by
  unfold execActionExecution; split <;> exact ⟨_, rfl, by simp⟩

@[simp] theorem State.answerSwap_clock (s : State) (a : SwapAsk) (status : ℕ) : (State.answerSwap s a status).clock = s.clock := by
  unfold State.answerSwap; split <;> simp

@[simp] theorem State.adoptSet_clock (s : State) (old : State) (carried : List ℕ) : (State.adoptSet s old carried).clock = s.clock := by
  simp [State.adoptSet]

@[simp] theorem State.exchange_clock (s : State) (carried : List ℕ) : (State.exchange s carried).clock = s.clock := by
  simp [State.exchange]

theorem execSetSwap_clock (s : State) :
    ∃ t, execSetSwap s = .next t ∧ t.clock = s.clock := by
  unfold execSetSwap; dsimp only; (repeat' split) <;> exact ⟨_, rfl, by simp [*]⟩

@[simp] theorem State.startQueued_clock (s : State) (f : Found) (q : QTest) : (State.startQueued s f q).clock = s.clock := by
  simp [State.startQueued]

theorem execTestQueueStart_clock (slot : Fin 32) (s : State) :
    ∃ t, execTestQueueStart slot s = .next t ∧ t.clock = s.clock := by
  unfold execTestQueueStart; (repeat' split) <;> exact ⟨_, rfl, by simp [*]⟩

end Sys2Proof.Machine
end

