-- ==== Sys2Proof/Laws/ClockControlCycle.lean ====
section
/-!
SUPPORT. The clock and the queue of commands as the operations of Machine/ControlCycle keep them.
-/
namespace Sys2Proof.Machine
open Sys2Proof

@[simp] theorem State.missedThrice_clock (s : State) (die : ℕ) (half : ℕ) : (State.missedThrice s die half).clock = s.clock := by
  unfold State.missedThrice; split <;> simp

@[simp] theorem State.missDeadline_clock (s : State) (die : ℕ) (half : ℕ) (task : ℕ) (period : ℕ) (overrun : ℕ) : (State.missDeadline s die half task period overrun).clock = s.clock := by
  simp [State.missDeadline]

@[simp] theorem State.controlCycle_clock (s : State) (t : TickIn) : (State.controlCycle s t).clock = s.clock := by
  unfold State.controlCycle; dsimp only; (repeat' split) <;> simp [*]

@[simp] theorem State.runWork_clock (s : State) : (State.runWork s).clock = s.clock := by
  unfold State.runWork; split <;> simp

@[simp] theorem State.workOrHold_clock (s : State) (t : TickIn) : (State.workOrHold s t).clock = s.clock := by
  simp [State.workOrHold]

theorem execCommandPacket_clock (die : Fin 2) (crc : Bool) (word : Bool) (clamps : List Clamp) (s : State) :
    ∃ t, execCommandPacket die crc word clamps s = .next t ∧ t.clock = s.clock := by
  unfold execCommandPacket; dsimp only; (repeat' split) <;> exact ⟨_, rfl, by simp [*]⟩

theorem execTake_clock (die : Fin 2) (ok_ : Bool) (s : State) :
    ∃ t, execTake die ok_ s = .next t ∧ t.clock = s.clock := by
  unfold execTake; dsimp only; (repeat' split) <;> exact ⟨_, rfl, by simp [*]⟩

end Sys2Proof.Machine
end

