-- ==== Sys2Proof/Laws/ClockCycle.lean ====
section
/-!
SUPPORT. The clock and the queue of commands as the operations of Machine/Cycle keep them.
-/
namespace Sys2Proof.Machine
open Sys2Proof

@[simp] theorem State.showCycle_clock (s : State) : (State.showCycle s).clock = s.clock := by
  simp [State.showCycle]

@[simp] theorem State.showFrame_clock (s : State) : (State.showFrame s).clock = s.clock := by
  simp [State.showFrame]

@[simp] theorem State.endCycle_clock (s : State) : (State.endCycle s).clock = s.clock := by
  simp [State.endCycle]

@[simp] theorem State.advance_clock (s : State) : s.advance.clock = (s.ticks + 1, (s.cycle + 1) % 20, s.pending) := by
  unfold State.advance
  dsimp only
  split
  · rfl
  · rw [State.raise_clock]
    rfl

@[simp] theorem State.watchCommand_clock (s : State) : (State.watchCommand s).clock = s.clock := by
  simp [State.watchCommand]

@[simp] theorem State.addBusy_clock (s : State) (busy : List ℕ) : (State.addBusy s busy).clock = s.clock := by
  simp [State.addBusy]

@[simp] theorem State.resendBlocks_clock (s : State) : (State.resendBlocks s).clock = s.clock := by
  unfold State.resendBlocks
  (try dsimp only)
  (repeat' first | split | (rw [State.each_clock]) | (rw [State.when_clock]) | (rw [State.clientCommand_clock]) | (rw [State.receiveRequest_clock]) | (rw [State.admitQuery_clock]) | (rw [State.receive_clock]) | (rw [State.onRequest_clock]) | (intro z a; try dsimp only) | (intro z; try dsimp only)) <;> simp [*]

theorem tickOpen_clock (s : State) :
    s.runWork.endCycle.closeWindow.keepSeen.advance.clock = (s.ticks + 1, (s.cycle + 1) % 20, s.pending) := by
  have h : s.runWork.endCycle.closeWindow.keepSeen.clock = s.clock := by simp
  simp only [State.clock, Prod.mk.injEq] at h
  rw [State.advance_clock, h.1, h.2.1, h.2.2]

theorem tickInputs_clock (s : State) (t : TickIn) :
    ((((s.resetOutputs.watchCommand.flushBus.takePower t.power).addBusy t.busy).watchRopes t.ropes).accumulate).clock = s.clock := by
  simp

theorem tickSeals_clock (s : State) (t : TickIn) : ((s.watchSeal t.seal0 t.seal1).watchKy t.ky).clock = s.clock := by
  simp

theorem tickControl_clock (s : State) (t : TickIn) :
    ((s.when s.controlUp (fun z => z.resendBlocks.drainRings.workOrHold t)).deviceCycle).clock = s.clock := by
  simp

theorem outlets_clock (s : State) (x : OutletsSt) : ({ s with outlets := x }).clock = s.clock := rfl

theorem tickFrame_clock (s : State) :
    (if (s.cycle == 0) = true then { s.lcFrame with pw := { s.lcFrame.pw with standbyPackets := 0 } } else s).clock = s.clock := by
  split
  · exact (pw_clock _ _).trans (State.lcFrame_clock _)
  · rfl

theorem execCycleTick_clock (t : TickIn) (s : State) :
    ∃ u, execCycleTick t s = .next u ∧ u.clock = (s.ticks + 1, (s.cycle + 1) % 20, s.pending) := by
  refine ⟨_, rfl, ?_⟩
  rw [State.sendPdelays_clock, State.showCycle_clock, tickFrame_clock, tickControl_clock, tickSeals_clock, outlets_clock,
    tickInputs_clock, State.afterStop_clock, State.watchPrep_clock, State.watchResync_clock, tickOpen_clock]

@[simp] theorem State.watchImport_clock (s : State) : (State.watchImport s).clock = s.clock := by
  simp [State.watchImport]

@[simp] theorem State.watchCaps_clock (s : State) : (State.watchCaps s).clock = s.clock := by
  simp [State.watchCaps]

@[simp] theorem State.busFrame_clock (s : State) : (State.busFrame s).clock = s.clock := by
  simp [State.busFrame]

@[simp] theorem State.streamFrame_clock (s : State) : (State.streamFrame s).clock = s.clock := by
  simp [State.streamFrame]

@[simp] theorem State.internalFrame_clock (s : State) : (State.internalFrame s).clock = s.clock := by
  simp [State.internalFrame]

theorem execFrameBoundary_clock (s : State) :
    ∃ t, execFrameBoundary s = .next t ∧ t.clock = s.clock := by
  unfold execFrameBoundary
  split
  · exact ⟨_, rfl, rfl⟩
  · extract_lets s1 s2 sf bf s2' s3 s4 s5 bg
    have h1 : s1.clock = s.clock := by simp [s1]
    clear_value s1
    have h2 : s2.clock = s.clock := by simp [s2, h1]
    clear_value s2
    have hf : sf.clock = s.clock := by simp only [sf, State.showFrame_clock, h2]
    have h2' : s2'.clock = s.clock := by simp [s2', h1]
    clear_value s2'
    have h3 : s3.clock = s.clock := by
      simp only [s3, State.digests_clock, State.commitEnds_clock, State.applyRequests_clock]
      exact (asks_clock s2' _ _).trans h2'
    clear_value s3
    have h5 : s4.clock = s.clock := by simp [s4, h3]
    clear_value s4
    split
    · exact ⟨_, rfl, (bus_clock sf _).trans hf⟩
    · exact ⟨_, rfl, (bus_clock s4 _).trans h5⟩

theorem execDeadlineMiss_clock (die : Fin 6) (half : Fin 2) (task : ℕ) (period : ℕ) (overrun : ℕ) (s : State) :
    ∃ t, execDeadlineMiss die half task period overrun s = .next t ∧ t.clock = s.clock := by
  exact ⟨_, rfl, by simp⟩

end Sys2Proof.Machine
end

