-- ==== Sys2Proof/Laws/State.lean ====
section
/-!
SUPPORT. What the shared operations leave alone: one law per field of State and operation (from the list of
fields and of the fields each operation may change), so that no proof unfolds a record update.
-/
namespace Sys2Proof.Machine
open Sys2Proof

/-! The typed writes are one write of a value. -/

@[simp] theorem State.setInt_eq (s : State) (e : Entry) (n : Nat) (v : Int) (j : Nat) : s.setInt e n v j = s.put e n j (.num v) := rfl
@[simp] theorem State.setNat_eq (s : State) (e : Entry) (n : Nat) (v : Nat) (j : Nat) : s.setNat e n v j = s.put e n j (.num v) := rfl
@[simp] theorem State.setFlag_eq (s : State) (e : Entry) (n : Nat) (v : Bool) (j : Nat) : s.setFlag e n v j = s.put e n j (.num (b2n v)) := rfl
@[simp] theorem State.setBytes_eq (s : State) (e : Entry) (n : Nat) (v : List Byte) (j : Nat) : s.setBytes e n v j = s.put e n j (.bytes v) := rfl
@[simp] theorem State.raise_eq (s : State) (k : EvKind) (i p q : Nat) : s.raise k i p q = s.raiseWith false k i p q := rfl

/-! `put` changes nothing but actSet, digestStale, cells, writes. -/

@[simp] theorem State.put_pending (s : State) (e : Entry) (n j : Nat) (v : Val) : (s.put e n j v).pending = s.pending := by unfold State.put; split <;> rfl
@[simp] theorem State.put_ticks (s : State) (e : Entry) (n j : Nat) (v : Val) : (s.put e n j v).ticks = s.ticks := by unfold State.put; split <;> rfl
@[simp] theorem State.put_sfn (s : State) (e : Entry) (n j : Nat) (v : Val) : (s.put e n j v).sfn = s.sfn := by unfold State.put; split <;> rfl
@[simp] theorem State.put_cycle (s : State) (e : Entry) (n j : Nat) (v : Val) : (s.put e n j v).cycle = s.cycle := by unfold State.put; split <;> rfl
@[simp] theorem State.put_free (s : State) (e : Entry) (n j : Nat) (v : Val) : (s.put e n j v).free = s.free := by unfold State.put; split <;> rfl
@[simp] theorem State.put_shdSet (s : State) (e : Entry) (n j : Nat) (v : Val) : (s.put e n j v).shdSet = s.shdSet := by unfold State.put; split <;> rfl
@[simp] theorem State.put_nvCells (s : State) (e : Entry) (n j : Nat) (v : Val) : (s.put e n j v).nvCells = s.nvCells := by unfold State.put; split <;> rfl
@[simp] theorem State.put_nvSet0 (s : State) (e : Entry) (n j : Nat) (v : Val) : (s.put e n j v).nvSet0 = s.nvSet0 := by unfold State.put; split <;> rfl
@[simp] theorem State.put_nvSet1 (s : State) (e : Entry) (n j : Nat) (v : Val) : (s.put e n j v).nvSet1 = s.nvSet1 := by unfold State.put; split <;> rfl
@[simp] theorem State.put_setPtr (s : State) (e : Entry) (n j : Nat) (v : Val) : (s.put e n j v).setPtr = s.setPtr := by unfold State.put; split <;> rfl
@[simp] theorem State.put_nvPtr (s : State) (e : Entry) (n j : Nat) (v : Val) : (s.put e n j v).nvPtr = s.nvPtr := by unfold State.put; split <;> rfl
@[simp] theorem State.put_out (s : State) (e : Entry) (n j : Nat) (v : Val) : (s.put e n j v).out = s.out := by unfold State.put; split <;> rfl
@[simp] theorem State.put_waiting (s : State) (e : Entry) (n j : Nat) (v : Val) : (s.put e n j v).waiting = s.waiting := by unfold State.put; split <;> rfl
@[simp] theorem State.put_ev (s : State) (e : Entry) (n j : Nat) (v : Val) : (s.put e n j v).ev = s.ev := by unfold State.put; split <;> rfl
@[simp] theorem State.put_tx (s : State) (e : Entry) (n j : Nat) (v : Val) : (s.put e n j v).tx = s.tx := by unfold State.put; split <;> rfl
@[simp] theorem State.put_swapAsks (s : State) (e : Entry) (n j : Nat) (v : Val) : (s.put e n j v).swapAsks = s.swapAsks := by unfold State.put; split <;> rfl
@[simp] theorem State.put_swapNext (s : State) (e : Entry) (n j : Nat) (v : Val) : (s.put e n j v).swapNext = s.swapNext := by unfold State.put; split <;> rfl
@[simp] theorem State.put_tests (s : State) (e : Entry) (n j : Nat) (v : Val) : (s.put e n j v).tests = s.tests := by unfold State.put; split <;> rfl
@[simp] theorem State.put_running (s : State) (e : Entry) (n j : Nat) (v : Val) : (s.put e n j v).running = s.running := by unfold State.put; split <;> rfl
@[simp] theorem State.put_time (s : State) (e : Entry) (n j : Nat) (v : Val) : (s.put e n j v).time = s.time := by unfold State.put; split <;> rfl
@[simp] theorem State.put_groups (s : State) (e : Entry) (n j : Nat) (v : Val) : (s.put e n j v).groups = s.groups := by unfold State.put; split <;> rfl
@[simp] theorem State.put_die (s : State) (e : Entry) (n j : Nat) (v : Val) : (s.put e n j v).die = s.die := by unfold State.put; split <;> rfl
@[simp] theorem State.put_pw (s : State) (e : Entry) (n j : Nat) (v : Val) : (s.put e n j v).pw = s.pw := by unfold State.put; split <;> rfl
@[simp] theorem State.put_alloc (s : State) (e : Entry) (n j : Nat) (v : Val) : (s.put e n j v).alloc = s.alloc := by unfold State.put; split <;> rfl
@[simp] theorem State.put_bus (s : State) (e : Entry) (n j : Nat) (v : Val) : (s.put e n j v).bus = s.bus := by unfold State.put; split <;> rfl
@[simp] theorem State.put_outlets (s : State) (e : Entry) (n j : Nat) (v : Val) : (s.put e n j v).outlets = s.outlets := by unfold State.put; split <;> rfl
@[simp] theorem State.put_loops (s : State) (e : Entry) (n j : Nat) (v : Val) : (s.put e n j v).loops = s.loops := by unfold State.put; split <;> rfl
@[simp] theorem State.put_cables (s : State) (e : Entry) (n j : Nat) (v : Val) : (s.put e n j v).cables = s.cables := by unfold State.put; split <;> rfl
@[simp] theorem State.put_legs (s : State) (e : Entry) (n j : Nat) (v : Val) : (s.put e n j v).legs = s.legs := by unfold State.put; split <;> rfl
@[simp] theorem State.put_convs (s : State) (e : Entry) (n j : Nat) (v : Val) : (s.put e n j v).convs = s.convs := by unfold State.put; split <;> rfl
@[simp] theorem State.put_points (s : State) (e : Entry) (n j : Nat) (v : Val) : (s.put e n j v).points = s.points := by unfold State.put; split <;> rfl
@[simp] theorem State.put_mons (s : State) (e : Entry) (n j : Nat) (v : Val) : (s.put e n j v).mons = s.mons := by unfold State.put; split <;> rfl
@[simp] theorem State.put_ropes (s : State) (e : Entry) (n j : Nat) (v : Val) : (s.put e n j v).ropes = s.ropes := by unfold State.put; split <;> rfl
@[simp] theorem State.put_radio (s : State) (e : Entry) (n j : Nat) (v : Val) : (s.put e n j v).radio = s.radio := by unfold State.put; split <;> rfl
@[simp] theorem State.put_strs (s : State) (e : Entry) (n j : Nat) (v : Val) : (s.put e n j v).strs = s.strs := by unfold State.put; split <;> rfl
@[simp] theorem State.put_cellSts (s : State) (e : Entry) (n j : Nat) (v : Val) : (s.put e n j v).cellSts = s.cellSts := by unfold State.put; split <;> rfl
@[simp] theorem State.put_ests (s : State) (e : Entry) (n j : Nat) (v : Val) : (s.put e n j v).ests = s.ests := by unfold State.put; split <;> rfl
@[simp] theorem State.put_nvCellSts (s : State) (e : Entry) (n j : Nat) (v : Val) : (s.put e n j v).nvCellSts = s.nvCellSts := by unfold State.put; split <;> rfl
@[simp] theorem State.put_nvEsts (s : State) (e : Entry) (n j : Nat) (v : Val) : (s.put e n j v).nvEsts = s.nvEsts := by unfold State.put; split <;> rfl
@[simp] theorem State.put_meas (s : State) (e : Entry) (n j : Nat) (v : Val) : (s.put e n j v).meas = s.meas := by unfold State.put; split <;> rfl
@[simp] theorem State.put_meters (s : State) (e : Entry) (n j : Nat) (v : Val) : (s.put e n j v).meters = s.meters := by unfold State.put; split <;> rfl
@[simp] theorem State.put_mpoints (s : State) (e : Entry) (n j : Nat) (v : Val) : (s.put e n j v).mpoints = s.mpoints := by unfold State.put; split <;> rfl
@[simp] theorem State.put_overs (s : State) (e : Entry) (n j : Nat) (v : Val) : (s.put e n j v).overs = s.overs := by unfold State.put; split <;> rfl
@[simp] theorem State.put_legal (s : State) (e : Entry) (n j : Nat) (v : Val) : (s.put e n j v).legal = s.legal := by unfold State.put; split <;> rfl
@[simp] theorem State.put_bill (s : State) (e : Entry) (n j : Nat) (v : Val) : (s.put e n j v).bill = s.bill := by unfold State.put; split <;> rfl
@[simp] theorem State.put_lc (s : State) (e : Entry) (n j : Nat) (v : Val) : (s.put e n j v).lc = s.lc := by unfold State.put; split <;> rfl
@[simp] theorem State.put_halfA (s : State) (e : Entry) (n j : Nat) (v : Val) : (s.put e n j v).halfA = s.halfA := by unfold State.put; split <;> rfl
@[simp] theorem State.put_halfB (s : State) (e : Entry) (n j : Nat) (v : Val) : (s.put e n j v).halfB = s.halfB := by unfold State.put; split <;> rfl
@[simp] theorem State.put_eus (s : State) (e : Entry) (n j : Nat) (v : Val) : (s.put e n j v).eus = s.eus := by unfold State.put; split <;> rfl
@[simp] theorem State.put_keys (s : State) (e : Entry) (n j : Nat) (v : Val) : (s.put e n j v).keys = s.keys := by unfold State.put; split <;> rfl
@[simp] theorem State.put_fw (s : State) (e : Entry) (n j : Nat) (v : Val) : (s.put e n j v).fw = s.fw := by unfold State.put; split <;> rfl
@[simp] theorem State.put_stream (s : State) (e : Entry) (n j : Nat) (v : Val) : (s.put e n j v).stream = s.stream := by unfold State.put; split <;> rfl
@[simp] theorem State.put_plant (s : State) (e : Entry) (n j : Nat) (v : Val) : (s.put e n j v).plant = s.plant := by unfold State.put; split <;> rfl
@[simp] theorem State.put_mirror (s : State) (e : Entry) (n j : Nat) (v : Val) : (s.put e n j v).mirror = s.mirror := by unfold State.put; split <;> rfl
@[simp] theorem State.put_seen (s : State) (e : Entry) (n j : Nat) (v : Val) : (s.put e n j v).seen = s.seen := by unfold State.put; split <;> rfl

/-! `putShadow` changes nothing but shdSet, digestStale, writes. -/

@[simp] theorem State.putShadow_pending (s : State) (e : Entry) (n j : Nat) (v : Val) : (s.putShadow e n j v).pending = s.pending := rfl
@[simp] theorem State.putShadow_ticks (s : State) (e : Entry) (n j : Nat) (v : Val) : (s.putShadow e n j v).ticks = s.ticks := rfl
@[simp] theorem State.putShadow_sfn (s : State) (e : Entry) (n j : Nat) (v : Val) : (s.putShadow e n j v).sfn = s.sfn := rfl
@[simp] theorem State.putShadow_cycle (s : State) (e : Entry) (n j : Nat) (v : Val) : (s.putShadow e n j v).cycle = s.cycle := rfl
@[simp] theorem State.putShadow_free (s : State) (e : Entry) (n j : Nat) (v : Val) : (s.putShadow e n j v).free = s.free := rfl
@[simp] theorem State.putShadow_cells (s : State) (e : Entry) (n j : Nat) (v : Val) : (s.putShadow e n j v).cells = s.cells := rfl
@[simp] theorem State.putShadow_actSet (s : State) (e : Entry) (n j : Nat) (v : Val) : (s.putShadow e n j v).actSet = s.actSet := rfl
@[simp] theorem State.putShadow_nvCells (s : State) (e : Entry) (n j : Nat) (v : Val) : (s.putShadow e n j v).nvCells = s.nvCells := rfl
@[simp] theorem State.putShadow_nvSet0 (s : State) (e : Entry) (n j : Nat) (v : Val) : (s.putShadow e n j v).nvSet0 = s.nvSet0 := rfl
@[simp] theorem State.putShadow_nvSet1 (s : State) (e : Entry) (n j : Nat) (v : Val) : (s.putShadow e n j v).nvSet1 = s.nvSet1 := rfl
@[simp] theorem State.putShadow_setPtr (s : State) (e : Entry) (n j : Nat) (v : Val) : (s.putShadow e n j v).setPtr = s.setPtr := rfl
@[simp] theorem State.putShadow_nvPtr (s : State) (e : Entry) (n j : Nat) (v : Val) : (s.putShadow e n j v).nvPtr = s.nvPtr := rfl
@[simp] theorem State.putShadow_out (s : State) (e : Entry) (n j : Nat) (v : Val) : (s.putShadow e n j v).out = s.out := rfl
@[simp] theorem State.putShadow_waiting (s : State) (e : Entry) (n j : Nat) (v : Val) : (s.putShadow e n j v).waiting = s.waiting := rfl
@[simp] theorem State.putShadow_ev (s : State) (e : Entry) (n j : Nat) (v : Val) : (s.putShadow e n j v).ev = s.ev := rfl
@[simp] theorem State.putShadow_tx (s : State) (e : Entry) (n j : Nat) (v : Val) : (s.putShadow e n j v).tx = s.tx := rfl
@[simp] theorem State.putShadow_swapAsks (s : State) (e : Entry) (n j : Nat) (v : Val) : (s.putShadow e n j v).swapAsks = s.swapAsks := rfl
@[simp] theorem State.putShadow_swapNext (s : State) (e : Entry) (n j : Nat) (v : Val) : (s.putShadow e n j v).swapNext = s.swapNext := rfl
@[simp] theorem State.putShadow_tests (s : State) (e : Entry) (n j : Nat) (v : Val) : (s.putShadow e n j v).tests = s.tests := rfl
@[simp] theorem State.putShadow_running (s : State) (e : Entry) (n j : Nat) (v : Val) : (s.putShadow e n j v).running = s.running := rfl
@[simp] theorem State.putShadow_time (s : State) (e : Entry) (n j : Nat) (v : Val) : (s.putShadow e n j v).time = s.time := rfl
@[simp] theorem State.putShadow_groups (s : State) (e : Entry) (n j : Nat) (v : Val) : (s.putShadow e n j v).groups = s.groups := rfl
@[simp] theorem State.putShadow_die (s : State) (e : Entry) (n j : Nat) (v : Val) : (s.putShadow e n j v).die = s.die := rfl
@[simp] theorem State.putShadow_pw (s : State) (e : Entry) (n j : Nat) (v : Val) : (s.putShadow e n j v).pw = s.pw := rfl
@[simp] theorem State.putShadow_alloc (s : State) (e : Entry) (n j : Nat) (v : Val) : (s.putShadow e n j v).alloc = s.alloc := rfl
@[simp] theorem State.putShadow_bus (s : State) (e : Entry) (n j : Nat) (v : Val) : (s.putShadow e n j v).bus = s.bus := rfl
@[simp] theorem State.putShadow_outlets (s : State) (e : Entry) (n j : Nat) (v : Val) : (s.putShadow e n j v).outlets = s.outlets := rfl
@[simp] theorem State.putShadow_loops (s : State) (e : Entry) (n j : Nat) (v : Val) : (s.putShadow e n j v).loops = s.loops := rfl
@[simp] theorem State.putShadow_cables (s : State) (e : Entry) (n j : Nat) (v : Val) : (s.putShadow e n j v).cables = s.cables := rfl
@[simp] theorem State.putShadow_legs (s : State) (e : Entry) (n j : Nat) (v : Val) : (s.putShadow e n j v).legs = s.legs := rfl
@[simp] theorem State.putShadow_convs (s : State) (e : Entry) (n j : Nat) (v : Val) : (s.putShadow e n j v).convs = s.convs := rfl
@[simp] theorem State.putShadow_points (s : State) (e : Entry) (n j : Nat) (v : Val) : (s.putShadow e n j v).points = s.points := rfl
@[simp] theorem State.putShadow_mons (s : State) (e : Entry) (n j : Nat) (v : Val) : (s.putShadow e n j v).mons = s.mons := rfl
@[simp] theorem State.putShadow_ropes (s : State) (e : Entry) (n j : Nat) (v : Val) : (s.putShadow e n j v).ropes = s.ropes := rfl
@[simp] theorem State.putShadow_radio (s : State) (e : Entry) (n j : Nat) (v : Val) : (s.putShadow e n j v).radio = s.radio := rfl
@[simp] theorem State.putShadow_strs (s : State) (e : Entry) (n j : Nat) (v : Val) : (s.putShadow e n j v).strs = s.strs := rfl
@[simp] theorem State.putShadow_cellSts (s : State) (e : Entry) (n j : Nat) (v : Val) : (s.putShadow e n j v).cellSts = s.cellSts := rfl
@[simp] theorem State.putShadow_ests (s : State) (e : Entry) (n j : Nat) (v : Val) : (s.putShadow e n j v).ests = s.ests := rfl
@[simp] theorem State.putShadow_nvCellSts (s : State) (e : Entry) (n j : Nat) (v : Val) : (s.putShadow e n j v).nvCellSts = s.nvCellSts := rfl
@[simp] theorem State.putShadow_nvEsts (s : State) (e : Entry) (n j : Nat) (v : Val) : (s.putShadow e n j v).nvEsts = s.nvEsts := rfl
@[simp] theorem State.putShadow_meas (s : State) (e : Entry) (n j : Nat) (v : Val) : (s.putShadow e n j v).meas = s.meas := rfl
@[simp] theorem State.putShadow_meters (s : State) (e : Entry) (n j : Nat) (v : Val) : (s.putShadow e n j v).meters = s.meters := rfl
@[simp] theorem State.putShadow_mpoints (s : State) (e : Entry) (n j : Nat) (v : Val) : (s.putShadow e n j v).mpoints = s.mpoints := rfl
@[simp] theorem State.putShadow_overs (s : State) (e : Entry) (n j : Nat) (v : Val) : (s.putShadow e n j v).overs = s.overs := rfl
@[simp] theorem State.putShadow_legal (s : State) (e : Entry) (n j : Nat) (v : Val) : (s.putShadow e n j v).legal = s.legal := rfl
@[simp] theorem State.putShadow_bill (s : State) (e : Entry) (n j : Nat) (v : Val) : (s.putShadow e n j v).bill = s.bill := rfl
@[simp] theorem State.putShadow_lc (s : State) (e : Entry) (n j : Nat) (v : Val) : (s.putShadow e n j v).lc = s.lc := rfl
@[simp] theorem State.putShadow_halfA (s : State) (e : Entry) (n j : Nat) (v : Val) : (s.putShadow e n j v).halfA = s.halfA := rfl
@[simp] theorem State.putShadow_halfB (s : State) (e : Entry) (n j : Nat) (v : Val) : (s.putShadow e n j v).halfB = s.halfB := rfl
@[simp] theorem State.putShadow_eus (s : State) (e : Entry) (n j : Nat) (v : Val) : (s.putShadow e n j v).eus = s.eus := rfl
@[simp] theorem State.putShadow_keys (s : State) (e : Entry) (n j : Nat) (v : Val) : (s.putShadow e n j v).keys = s.keys := rfl
@[simp] theorem State.putShadow_fw (s : State) (e : Entry) (n j : Nat) (v : Val) : (s.putShadow e n j v).fw = s.fw := rfl
@[simp] theorem State.putShadow_stream (s : State) (e : Entry) (n j : Nat) (v : Val) : (s.putShadow e n j v).stream = s.stream := rfl
@[simp] theorem State.putShadow_plant (s : State) (e : Entry) (n j : Nat) (v : Val) : (s.putShadow e n j v).plant = s.plant := rfl
@[simp] theorem State.putShadow_mirror (s : State) (e : Entry) (n j : Nat) (v : Val) : (s.putShadow e n j v).mirror = s.mirror := rfl
@[simp] theorem State.putShadow_seen (s : State) (e : Entry) (n j : Nat) (v : Val) : (s.putShadow e n j v).seen = s.seen := rfl

/-! `raiseWith` changes nothing but ev. -/

@[simp] theorem State.raiseWith_pending (s : State) (b : Bool) (k : EvKind) (i p q : Nat) : (s.raiseWith b k i p q).pending = s.pending := by unfold State.raiseWith; split <;> rfl
@[simp] theorem State.raiseWith_ticks (s : State) (b : Bool) (k : EvKind) (i p q : Nat) : (s.raiseWith b k i p q).ticks = s.ticks := by unfold State.raiseWith; split <;> rfl
@[simp] theorem State.raiseWith_sfn (s : State) (b : Bool) (k : EvKind) (i p q : Nat) : (s.raiseWith b k i p q).sfn = s.sfn := by unfold State.raiseWith; split <;> rfl
@[simp] theorem State.raiseWith_cycle (s : State) (b : Bool) (k : EvKind) (i p q : Nat) : (s.raiseWith b k i p q).cycle = s.cycle := by unfold State.raiseWith; split <;> rfl
@[simp] theorem State.raiseWith_free (s : State) (b : Bool) (k : EvKind) (i p q : Nat) : (s.raiseWith b k i p q).free = s.free := by unfold State.raiseWith; split <;> rfl
@[simp] theorem State.raiseWith_cells (s : State) (b : Bool) (k : EvKind) (i p q : Nat) : (s.raiseWith b k i p q).cells = s.cells := by unfold State.raiseWith; split <;> rfl
@[simp] theorem State.raiseWith_actSet (s : State) (b : Bool) (k : EvKind) (i p q : Nat) : (s.raiseWith b k i p q).actSet = s.actSet := by unfold State.raiseWith; split <;> rfl
@[simp] theorem State.raiseWith_shdSet (s : State) (b : Bool) (k : EvKind) (i p q : Nat) : (s.raiseWith b k i p q).shdSet = s.shdSet := by unfold State.raiseWith; split <;> rfl
@[simp] theorem State.raiseWith_digestStale (s : State) (b : Bool) (k : EvKind) (i p q : Nat) : (s.raiseWith b k i p q).digestStale = s.digestStale := by unfold State.raiseWith; split <;> rfl
@[simp] theorem State.raiseWith_nvCells (s : State) (b : Bool) (k : EvKind) (i p q : Nat) : (s.raiseWith b k i p q).nvCells = s.nvCells := by unfold State.raiseWith; split <;> rfl
@[simp] theorem State.raiseWith_nvSet0 (s : State) (b : Bool) (k : EvKind) (i p q : Nat) : (s.raiseWith b k i p q).nvSet0 = s.nvSet0 := by unfold State.raiseWith; split <;> rfl
@[simp] theorem State.raiseWith_nvSet1 (s : State) (b : Bool) (k : EvKind) (i p q : Nat) : (s.raiseWith b k i p q).nvSet1 = s.nvSet1 := by unfold State.raiseWith; split <;> rfl
@[simp] theorem State.raiseWith_setPtr (s : State) (b : Bool) (k : EvKind) (i p q : Nat) : (s.raiseWith b k i p q).setPtr = s.setPtr := by unfold State.raiseWith; split <;> rfl
@[simp] theorem State.raiseWith_nvPtr (s : State) (b : Bool) (k : EvKind) (i p q : Nat) : (s.raiseWith b k i p q).nvPtr = s.nvPtr := by unfold State.raiseWith; split <;> rfl
@[simp] theorem State.raiseWith_writes (s : State) (b : Bool) (k : EvKind) (i p q : Nat) : (s.raiseWith b k i p q).writes = s.writes := by unfold State.raiseWith; split <;> rfl
@[simp] theorem State.raiseWith_out (s : State) (b : Bool) (k : EvKind) (i p q : Nat) : (s.raiseWith b k i p q).out = s.out := by unfold State.raiseWith; split <;> rfl
@[simp] theorem State.raiseWith_waiting (s : State) (b : Bool) (k : EvKind) (i p q : Nat) : (s.raiseWith b k i p q).waiting = s.waiting := by unfold State.raiseWith; split <;> rfl
@[simp] theorem State.raiseWith_tx (s : State) (b : Bool) (k : EvKind) (i p q : Nat) : (s.raiseWith b k i p q).tx = s.tx := by unfold State.raiseWith; split <;> rfl
@[simp] theorem State.raiseWith_swapAsks (s : State) (b : Bool) (k : EvKind) (i p q : Nat) : (s.raiseWith b k i p q).swapAsks = s.swapAsks := by unfold State.raiseWith; split <;> rfl
@[simp] theorem State.raiseWith_swapNext (s : State) (b : Bool) (k : EvKind) (i p q : Nat) : (s.raiseWith b k i p q).swapNext = s.swapNext := by unfold State.raiseWith; split <;> rfl
@[simp] theorem State.raiseWith_tests (s : State) (b : Bool) (k : EvKind) (i p q : Nat) : (s.raiseWith b k i p q).tests = s.tests := by unfold State.raiseWith; split <;> rfl
@[simp] theorem State.raiseWith_running (s : State) (b : Bool) (k : EvKind) (i p q : Nat) : (s.raiseWith b k i p q).running = s.running := by unfold State.raiseWith; split <;> rfl
@[simp] theorem State.raiseWith_time (s : State) (b : Bool) (k : EvKind) (i p q : Nat) : (s.raiseWith b k i p q).time = s.time := by unfold State.raiseWith; split <;> rfl
@[simp] theorem State.raiseWith_groups (s : State) (b : Bool) (k : EvKind) (i p q : Nat) : (s.raiseWith b k i p q).groups = s.groups := by unfold State.raiseWith; split <;> rfl
@[simp] theorem State.raiseWith_die (s : State) (b : Bool) (k : EvKind) (i p q : Nat) : (s.raiseWith b k i p q).die = s.die := by unfold State.raiseWith; split <;> rfl
@[simp] theorem State.raiseWith_pw (s : State) (b : Bool) (k : EvKind) (i p q : Nat) : (s.raiseWith b k i p q).pw = s.pw := by unfold State.raiseWith; split <;> rfl
@[simp] theorem State.raiseWith_alloc (s : State) (b : Bool) (k : EvKind) (i p q : Nat) : (s.raiseWith b k i p q).alloc = s.alloc := by unfold State.raiseWith; split <;> rfl
@[simp] theorem State.raiseWith_bus (s : State) (b : Bool) (k : EvKind) (i p q : Nat) : (s.raiseWith b k i p q).bus = s.bus := by unfold State.raiseWith; split <;> rfl
@[simp] theorem State.raiseWith_outlets (s : State) (b : Bool) (k : EvKind) (i p q : Nat) : (s.raiseWith b k i p q).outlets = s.outlets := by unfold State.raiseWith; split <;> rfl
@[simp] theorem State.raiseWith_loops (s : State) (b : Bool) (k : EvKind) (i p q : Nat) : (s.raiseWith b k i p q).loops = s.loops := by unfold State.raiseWith; split <;> rfl
@[simp] theorem State.raiseWith_cables (s : State) (b : Bool) (k : EvKind) (i p q : Nat) : (s.raiseWith b k i p q).cables = s.cables := by unfold State.raiseWith; split <;> rfl
@[simp] theorem State.raiseWith_legs (s : State) (b : Bool) (k : EvKind) (i p q : Nat) : (s.raiseWith b k i p q).legs = s.legs := by unfold State.raiseWith; split <;> rfl
@[simp] theorem State.raiseWith_convs (s : State) (b : Bool) (k : EvKind) (i p q : Nat) : (s.raiseWith b k i p q).convs = s.convs := by unfold State.raiseWith; split <;> rfl
@[simp] theorem State.raiseWith_points (s : State) (b : Bool) (k : EvKind) (i p q : Nat) : (s.raiseWith b k i p q).points = s.points := by unfold State.raiseWith; split <;> rfl
@[simp] theorem State.raiseWith_mons (s : State) (b : Bool) (k : EvKind) (i p q : Nat) : (s.raiseWith b k i p q).mons = s.mons := by unfold State.raiseWith; split <;> rfl
@[simp] theorem State.raiseWith_ropes (s : State) (b : Bool) (k : EvKind) (i p q : Nat) : (s.raiseWith b k i p q).ropes = s.ropes := by unfold State.raiseWith; split <;> rfl
@[simp] theorem State.raiseWith_radio (s : State) (b : Bool) (k : EvKind) (i p q : Nat) : (s.raiseWith b k i p q).radio = s.radio := by unfold State.raiseWith; split <;> rfl
@[simp] theorem State.raiseWith_strs (s : State) (b : Bool) (k : EvKind) (i p q : Nat) : (s.raiseWith b k i p q).strs = s.strs := by unfold State.raiseWith; split <;> rfl
@[simp] theorem State.raiseWith_cellSts (s : State) (b : Bool) (k : EvKind) (i p q : Nat) : (s.raiseWith b k i p q).cellSts = s.cellSts := by unfold State.raiseWith; split <;> rfl
@[simp] theorem State.raiseWith_ests (s : State) (b : Bool) (k : EvKind) (i p q : Nat) : (s.raiseWith b k i p q).ests = s.ests := by unfold State.raiseWith; split <;> rfl
@[simp] theorem State.raiseWith_nvCellSts (s : State) (b : Bool) (k : EvKind) (i p q : Nat) : (s.raiseWith b k i p q).nvCellSts = s.nvCellSts := by unfold State.raiseWith; split <;> rfl
@[simp] theorem State.raiseWith_nvEsts (s : State) (b : Bool) (k : EvKind) (i p q : Nat) : (s.raiseWith b k i p q).nvEsts = s.nvEsts := by unfold State.raiseWith; split <;> rfl
@[simp] theorem State.raiseWith_meas (s : State) (b : Bool) (k : EvKind) (i p q : Nat) : (s.raiseWith b k i p q).meas = s.meas := by unfold State.raiseWith; split <;> rfl
@[simp] theorem State.raiseWith_meters (s : State) (b : Bool) (k : EvKind) (i p q : Nat) : (s.raiseWith b k i p q).meters = s.meters := by unfold State.raiseWith; split <;> rfl
@[simp] theorem State.raiseWith_mpoints (s : State) (b : Bool) (k : EvKind) (i p q : Nat) : (s.raiseWith b k i p q).mpoints = s.mpoints := by unfold State.raiseWith; split <;> rfl
@[simp] theorem State.raiseWith_overs (s : State) (b : Bool) (k : EvKind) (i p q : Nat) : (s.raiseWith b k i p q).overs = s.overs := by unfold State.raiseWith; split <;> rfl
@[simp] theorem State.raiseWith_legal (s : State) (b : Bool) (k : EvKind) (i p q : Nat) : (s.raiseWith b k i p q).legal = s.legal := by unfold State.raiseWith; split <;> rfl
@[simp] theorem State.raiseWith_bill (s : State) (b : Bool) (k : EvKind) (i p q : Nat) : (s.raiseWith b k i p q).bill = s.bill := by unfold State.raiseWith; split <;> rfl
@[simp] theorem State.raiseWith_lc (s : State) (b : Bool) (k : EvKind) (i p q : Nat) : (s.raiseWith b k i p q).lc = s.lc := by unfold State.raiseWith; split <;> rfl
@[simp] theorem State.raiseWith_halfA (s : State) (b : Bool) (k : EvKind) (i p q : Nat) : (s.raiseWith b k i p q).halfA = s.halfA := by unfold State.raiseWith; split <;> rfl
@[simp] theorem State.raiseWith_halfB (s : State) (b : Bool) (k : EvKind) (i p q : Nat) : (s.raiseWith b k i p q).halfB = s.halfB := by unfold State.raiseWith; split <;> rfl
@[simp] theorem State.raiseWith_eus (s : State) (b : Bool) (k : EvKind) (i p q : Nat) : (s.raiseWith b k i p q).eus = s.eus := by unfold State.raiseWith; split <;> rfl
@[simp] theorem State.raiseWith_keys (s : State) (b : Bool) (k : EvKind) (i p q : Nat) : (s.raiseWith b k i p q).keys = s.keys := by unfold State.raiseWith; split <;> rfl
@[simp] theorem State.raiseWith_fw (s : State) (b : Bool) (k : EvKind) (i p q : Nat) : (s.raiseWith b k i p q).fw = s.fw := by unfold State.raiseWith; split <;> rfl
@[simp] theorem State.raiseWith_stream (s : State) (b : Bool) (k : EvKind) (i p q : Nat) : (s.raiseWith b k i p q).stream = s.stream := by unfold State.raiseWith; split <;> rfl
@[simp] theorem State.raiseWith_plant (s : State) (b : Bool) (k : EvKind) (i p q : Nat) : (s.raiseWith b k i p q).plant = s.plant := by unfold State.raiseWith; split <;> rfl
@[simp] theorem State.raiseWith_mirror (s : State) (b : Bool) (k : EvKind) (i p q : Nat) : (s.raiseWith b k i p q).mirror = s.mirror := by unfold State.raiseWith; split <;> rfl
@[simp] theorem State.raiseWith_seen (s : State) (b : Bool) (k : EvKind) (i p q : Nat) : (s.raiseWith b k i p q).seen = s.seen := by unfold State.raiseWith; split <;> rfl

/-! `send` changes nothing but out. -/

@[simp] theorem State.send_pending (s : State) (m : Msg) : (s.send m).pending = s.pending := rfl
@[simp] theorem State.send_ticks (s : State) (m : Msg) : (s.send m).ticks = s.ticks := rfl
@[simp] theorem State.send_sfn (s : State) (m : Msg) : (s.send m).sfn = s.sfn := rfl
@[simp] theorem State.send_cycle (s : State) (m : Msg) : (s.send m).cycle = s.cycle := rfl
@[simp] theorem State.send_free (s : State) (m : Msg) : (s.send m).free = s.free := rfl
@[simp] theorem State.send_cells (s : State) (m : Msg) : (s.send m).cells = s.cells := rfl
@[simp] theorem State.send_actSet (s : State) (m : Msg) : (s.send m).actSet = s.actSet := rfl
@[simp] theorem State.send_shdSet (s : State) (m : Msg) : (s.send m).shdSet = s.shdSet := rfl
@[simp] theorem State.send_digestStale (s : State) (m : Msg) : (s.send m).digestStale = s.digestStale := rfl
@[simp] theorem State.send_nvCells (s : State) (m : Msg) : (s.send m).nvCells = s.nvCells := rfl
@[simp] theorem State.send_nvSet0 (s : State) (m : Msg) : (s.send m).nvSet0 = s.nvSet0 := rfl
@[simp] theorem State.send_nvSet1 (s : State) (m : Msg) : (s.send m).nvSet1 = s.nvSet1 := rfl
@[simp] theorem State.send_setPtr (s : State) (m : Msg) : (s.send m).setPtr = s.setPtr := rfl
@[simp] theorem State.send_nvPtr (s : State) (m : Msg) : (s.send m).nvPtr = s.nvPtr := rfl
@[simp] theorem State.send_writes (s : State) (m : Msg) : (s.send m).writes = s.writes := rfl
@[simp] theorem State.send_waiting (s : State) (m : Msg) : (s.send m).waiting = s.waiting := rfl
@[simp] theorem State.send_ev (s : State) (m : Msg) : (s.send m).ev = s.ev := rfl
@[simp] theorem State.send_tx (s : State) (m : Msg) : (s.send m).tx = s.tx := rfl
@[simp] theorem State.send_swapAsks (s : State) (m : Msg) : (s.send m).swapAsks = s.swapAsks := rfl
@[simp] theorem State.send_swapNext (s : State) (m : Msg) : (s.send m).swapNext = s.swapNext := rfl
@[simp] theorem State.send_tests (s : State) (m : Msg) : (s.send m).tests = s.tests := rfl
@[simp] theorem State.send_running (s : State) (m : Msg) : (s.send m).running = s.running := rfl
@[simp] theorem State.send_time (s : State) (m : Msg) : (s.send m).time = s.time := rfl
@[simp] theorem State.send_groups (s : State) (m : Msg) : (s.send m).groups = s.groups := rfl
@[simp] theorem State.send_die (s : State) (m : Msg) : (s.send m).die = s.die := rfl
@[simp] theorem State.send_pw (s : State) (m : Msg) : (s.send m).pw = s.pw := rfl
@[simp] theorem State.send_alloc (s : State) (m : Msg) : (s.send m).alloc = s.alloc := rfl
@[simp] theorem State.send_bus (s : State) (m : Msg) : (s.send m).bus = s.bus := rfl
@[simp] theorem State.send_outlets (s : State) (m : Msg) : (s.send m).outlets = s.outlets := rfl
@[simp] theorem State.send_loops (s : State) (m : Msg) : (s.send m).loops = s.loops := rfl
@[simp] theorem State.send_cables (s : State) (m : Msg) : (s.send m).cables = s.cables := rfl
@[simp] theorem State.send_legs (s : State) (m : Msg) : (s.send m).legs = s.legs := rfl
@[simp] theorem State.send_convs (s : State) (m : Msg) : (s.send m).convs = s.convs := rfl
@[simp] theorem State.send_points (s : State) (m : Msg) : (s.send m).points = s.points := rfl
@[simp] theorem State.send_mons (s : State) (m : Msg) : (s.send m).mons = s.mons := rfl
@[simp] theorem State.send_ropes (s : State) (m : Msg) : (s.send m).ropes = s.ropes := rfl
@[simp] theorem State.send_radio (s : State) (m : Msg) : (s.send m).radio = s.radio := rfl
@[simp] theorem State.send_strs (s : State) (m : Msg) : (s.send m).strs = s.strs := rfl
@[simp] theorem State.send_cellSts (s : State) (m : Msg) : (s.send m).cellSts = s.cellSts := rfl
@[simp] theorem State.send_ests (s : State) (m : Msg) : (s.send m).ests = s.ests := rfl
@[simp] theorem State.send_nvCellSts (s : State) (m : Msg) : (s.send m).nvCellSts = s.nvCellSts := rfl
@[simp] theorem State.send_nvEsts (s : State) (m : Msg) : (s.send m).nvEsts = s.nvEsts := rfl
@[simp] theorem State.send_meas (s : State) (m : Msg) : (s.send m).meas = s.meas := rfl
@[simp] theorem State.send_meters (s : State) (m : Msg) : (s.send m).meters = s.meters := rfl
@[simp] theorem State.send_mpoints (s : State) (m : Msg) : (s.send m).mpoints = s.mpoints := rfl
@[simp] theorem State.send_overs (s : State) (m : Msg) : (s.send m).overs = s.overs := rfl
@[simp] theorem State.send_legal (s : State) (m : Msg) : (s.send m).legal = s.legal := rfl
@[simp] theorem State.send_bill (s : State) (m : Msg) : (s.send m).bill = s.bill := rfl
@[simp] theorem State.send_lc (s : State) (m : Msg) : (s.send m).lc = s.lc := rfl
@[simp] theorem State.send_halfA (s : State) (m : Msg) : (s.send m).halfA = s.halfA := rfl
@[simp] theorem State.send_halfB (s : State) (m : Msg) : (s.send m).halfB = s.halfB := rfl
@[simp] theorem State.send_eus (s : State) (m : Msg) : (s.send m).eus = s.eus := rfl
@[simp] theorem State.send_keys (s : State) (m : Msg) : (s.send m).keys = s.keys := rfl
@[simp] theorem State.send_fw (s : State) (m : Msg) : (s.send m).fw = s.fw := rfl
@[simp] theorem State.send_stream (s : State) (m : Msg) : (s.send m).stream = s.stream := rfl
@[simp] theorem State.send_plant (s : State) (m : Msg) : (s.send m).plant = s.plant := rfl
@[simp] theorem State.send_mirror (s : State) (m : Msg) : (s.send m).mirror = s.mirror := rfl
@[simp] theorem State.send_seen (s : State) (m : Msg) : (s.send m).seen = s.seen := rfl

/-! `sendHeld` changes nothing but waiting. -/

@[simp] theorem State.sendHeld_pending (s : State) (m : Msg) : (s.sendHeld m).pending = s.pending := rfl
@[simp] theorem State.sendHeld_ticks (s : State) (m : Msg) : (s.sendHeld m).ticks = s.ticks := rfl
@[simp] theorem State.sendHeld_sfn (s : State) (m : Msg) : (s.sendHeld m).sfn = s.sfn := rfl
@[simp] theorem State.sendHeld_cycle (s : State) (m : Msg) : (s.sendHeld m).cycle = s.cycle := rfl
@[simp] theorem State.sendHeld_free (s : State) (m : Msg) : (s.sendHeld m).free = s.free := rfl
@[simp] theorem State.sendHeld_cells (s : State) (m : Msg) : (s.sendHeld m).cells = s.cells := rfl
@[simp] theorem State.sendHeld_actSet (s : State) (m : Msg) : (s.sendHeld m).actSet = s.actSet := rfl
@[simp] theorem State.sendHeld_shdSet (s : State) (m : Msg) : (s.sendHeld m).shdSet = s.shdSet := rfl
@[simp] theorem State.sendHeld_digestStale (s : State) (m : Msg) : (s.sendHeld m).digestStale = s.digestStale := rfl
@[simp] theorem State.sendHeld_nvCells (s : State) (m : Msg) : (s.sendHeld m).nvCells = s.nvCells := rfl
@[simp] theorem State.sendHeld_nvSet0 (s : State) (m : Msg) : (s.sendHeld m).nvSet0 = s.nvSet0 := rfl
@[simp] theorem State.sendHeld_nvSet1 (s : State) (m : Msg) : (s.sendHeld m).nvSet1 = s.nvSet1 := rfl
@[simp] theorem State.sendHeld_setPtr (s : State) (m : Msg) : (s.sendHeld m).setPtr = s.setPtr := rfl
@[simp] theorem State.sendHeld_nvPtr (s : State) (m : Msg) : (s.sendHeld m).nvPtr = s.nvPtr := rfl
@[simp] theorem State.sendHeld_writes (s : State) (m : Msg) : (s.sendHeld m).writes = s.writes := rfl
@[simp] theorem State.sendHeld_out (s : State) (m : Msg) : (s.sendHeld m).out = s.out := rfl
@[simp] theorem State.sendHeld_ev (s : State) (m : Msg) : (s.sendHeld m).ev = s.ev := rfl
@[simp] theorem State.sendHeld_tx (s : State) (m : Msg) : (s.sendHeld m).tx = s.tx := rfl
@[simp] theorem State.sendHeld_swapAsks (s : State) (m : Msg) : (s.sendHeld m).swapAsks = s.swapAsks := rfl
@[simp] theorem State.sendHeld_swapNext (s : State) (m : Msg) : (s.sendHeld m).swapNext = s.swapNext := rfl
@[simp] theorem State.sendHeld_tests (s : State) (m : Msg) : (s.sendHeld m).tests = s.tests := rfl
@[simp] theorem State.sendHeld_running (s : State) (m : Msg) : (s.sendHeld m).running = s.running := rfl
@[simp] theorem State.sendHeld_time (s : State) (m : Msg) : (s.sendHeld m).time = s.time := rfl
@[simp] theorem State.sendHeld_groups (s : State) (m : Msg) : (s.sendHeld m).groups = s.groups := rfl
@[simp] theorem State.sendHeld_die (s : State) (m : Msg) : (s.sendHeld m).die = s.die := rfl
@[simp] theorem State.sendHeld_pw (s : State) (m : Msg) : (s.sendHeld m).pw = s.pw := rfl
@[simp] theorem State.sendHeld_alloc (s : State) (m : Msg) : (s.sendHeld m).alloc = s.alloc := rfl
@[simp] theorem State.sendHeld_bus (s : State) (m : Msg) : (s.sendHeld m).bus = s.bus := rfl
@[simp] theorem State.sendHeld_outlets (s : State) (m : Msg) : (s.sendHeld m).outlets = s.outlets := rfl
@[simp] theorem State.sendHeld_loops (s : State) (m : Msg) : (s.sendHeld m).loops = s.loops := rfl
@[simp] theorem State.sendHeld_cables (s : State) (m : Msg) : (s.sendHeld m).cables = s.cables := rfl
@[simp] theorem State.sendHeld_legs (s : State) (m : Msg) : (s.sendHeld m).legs = s.legs := rfl
@[simp] theorem State.sendHeld_convs (s : State) (m : Msg) : (s.sendHeld m).convs = s.convs := rfl
@[simp] theorem State.sendHeld_points (s : State) (m : Msg) : (s.sendHeld m).points = s.points := rfl
@[simp] theorem State.sendHeld_mons (s : State) (m : Msg) : (s.sendHeld m).mons = s.mons := rfl
@[simp] theorem State.sendHeld_ropes (s : State) (m : Msg) : (s.sendHeld m).ropes = s.ropes := rfl
@[simp] theorem State.sendHeld_radio (s : State) (m : Msg) : (s.sendHeld m).radio = s.radio := rfl
@[simp] theorem State.sendHeld_strs (s : State) (m : Msg) : (s.sendHeld m).strs = s.strs := rfl
@[simp] theorem State.sendHeld_cellSts (s : State) (m : Msg) : (s.sendHeld m).cellSts = s.cellSts := rfl
@[simp] theorem State.sendHeld_ests (s : State) (m : Msg) : (s.sendHeld m).ests = s.ests := rfl
@[simp] theorem State.sendHeld_nvCellSts (s : State) (m : Msg) : (s.sendHeld m).nvCellSts = s.nvCellSts := rfl
@[simp] theorem State.sendHeld_nvEsts (s : State) (m : Msg) : (s.sendHeld m).nvEsts = s.nvEsts := rfl
@[simp] theorem State.sendHeld_meas (s : State) (m : Msg) : (s.sendHeld m).meas = s.meas := rfl
@[simp] theorem State.sendHeld_meters (s : State) (m : Msg) : (s.sendHeld m).meters = s.meters := rfl
@[simp] theorem State.sendHeld_mpoints (s : State) (m : Msg) : (s.sendHeld m).mpoints = s.mpoints := rfl
@[simp] theorem State.sendHeld_overs (s : State) (m : Msg) : (s.sendHeld m).overs = s.overs := rfl
@[simp] theorem State.sendHeld_legal (s : State) (m : Msg) : (s.sendHeld m).legal = s.legal := rfl
@[simp] theorem State.sendHeld_bill (s : State) (m : Msg) : (s.sendHeld m).bill = s.bill := rfl
@[simp] theorem State.sendHeld_lc (s : State) (m : Msg) : (s.sendHeld m).lc = s.lc := rfl
@[simp] theorem State.sendHeld_halfA (s : State) (m : Msg) : (s.sendHeld m).halfA = s.halfA := rfl
@[simp] theorem State.sendHeld_halfB (s : State) (m : Msg) : (s.sendHeld m).halfB = s.halfB := rfl
@[simp] theorem State.sendHeld_eus (s : State) (m : Msg) : (s.sendHeld m).eus = s.eus := rfl
@[simp] theorem State.sendHeld_keys (s : State) (m : Msg) : (s.sendHeld m).keys = s.keys := rfl
@[simp] theorem State.sendHeld_fw (s : State) (m : Msg) : (s.sendHeld m).fw = s.fw := rfl
@[simp] theorem State.sendHeld_stream (s : State) (m : Msg) : (s.sendHeld m).stream = s.stream := rfl
@[simp] theorem State.sendHeld_plant (s : State) (m : Msg) : (s.sendHeld m).plant = s.plant := rfl
@[simp] theorem State.sendHeld_mirror (s : State) (m : Msg) : (s.sendHeld m).mirror = s.mirror := rfl
@[simp] theorem State.sendHeld_seen (s : State) (m : Msg) : (s.sendHeld m).seen = s.seen := rfl

/-! `keep` changes nothing but tx. -/

@[simp] theorem State.keep_pending (s : State) (k : Kept) : (s.keep k).pending = s.pending := rfl
@[simp] theorem State.keep_ticks (s : State) (k : Kept) : (s.keep k).ticks = s.ticks := rfl
@[simp] theorem State.keep_sfn (s : State) (k : Kept) : (s.keep k).sfn = s.sfn := rfl
@[simp] theorem State.keep_cycle (s : State) (k : Kept) : (s.keep k).cycle = s.cycle := rfl
@[simp] theorem State.keep_free (s : State) (k : Kept) : (s.keep k).free = s.free := rfl
@[simp] theorem State.keep_cells (s : State) (k : Kept) : (s.keep k).cells = s.cells := rfl
@[simp] theorem State.keep_actSet (s : State) (k : Kept) : (s.keep k).actSet = s.actSet := rfl
@[simp] theorem State.keep_shdSet (s : State) (k : Kept) : (s.keep k).shdSet = s.shdSet := rfl
@[simp] theorem State.keep_digestStale (s : State) (k : Kept) : (s.keep k).digestStale = s.digestStale := rfl
@[simp] theorem State.keep_nvCells (s : State) (k : Kept) : (s.keep k).nvCells = s.nvCells := rfl
@[simp] theorem State.keep_nvSet0 (s : State) (k : Kept) : (s.keep k).nvSet0 = s.nvSet0 := rfl
@[simp] theorem State.keep_nvSet1 (s : State) (k : Kept) : (s.keep k).nvSet1 = s.nvSet1 := rfl
@[simp] theorem State.keep_setPtr (s : State) (k : Kept) : (s.keep k).setPtr = s.setPtr := rfl
@[simp] theorem State.keep_nvPtr (s : State) (k : Kept) : (s.keep k).nvPtr = s.nvPtr := rfl
@[simp] theorem State.keep_writes (s : State) (k : Kept) : (s.keep k).writes = s.writes := rfl
@[simp] theorem State.keep_out (s : State) (k : Kept) : (s.keep k).out = s.out := rfl
@[simp] theorem State.keep_waiting (s : State) (k : Kept) : (s.keep k).waiting = s.waiting := rfl
@[simp] theorem State.keep_ev (s : State) (k : Kept) : (s.keep k).ev = s.ev := rfl
@[simp] theorem State.keep_swapAsks (s : State) (k : Kept) : (s.keep k).swapAsks = s.swapAsks := rfl
@[simp] theorem State.keep_swapNext (s : State) (k : Kept) : (s.keep k).swapNext = s.swapNext := rfl
@[simp] theorem State.keep_tests (s : State) (k : Kept) : (s.keep k).tests = s.tests := rfl
@[simp] theorem State.keep_running (s : State) (k : Kept) : (s.keep k).running = s.running := rfl
@[simp] theorem State.keep_time (s : State) (k : Kept) : (s.keep k).time = s.time := rfl
@[simp] theorem State.keep_groups (s : State) (k : Kept) : (s.keep k).groups = s.groups := rfl
@[simp] theorem State.keep_die (s : State) (k : Kept) : (s.keep k).die = s.die := rfl
@[simp] theorem State.keep_pw (s : State) (k : Kept) : (s.keep k).pw = s.pw := rfl
@[simp] theorem State.keep_alloc (s : State) (k : Kept) : (s.keep k).alloc = s.alloc := rfl
@[simp] theorem State.keep_bus (s : State) (k : Kept) : (s.keep k).bus = s.bus := rfl
@[simp] theorem State.keep_outlets (s : State) (k : Kept) : (s.keep k).outlets = s.outlets := rfl
@[simp] theorem State.keep_loops (s : State) (k : Kept) : (s.keep k).loops = s.loops := rfl
@[simp] theorem State.keep_cables (s : State) (k : Kept) : (s.keep k).cables = s.cables := rfl
@[simp] theorem State.keep_legs (s : State) (k : Kept) : (s.keep k).legs = s.legs := rfl
@[simp] theorem State.keep_convs (s : State) (k : Kept) : (s.keep k).convs = s.convs := rfl
@[simp] theorem State.keep_points (s : State) (k : Kept) : (s.keep k).points = s.points := rfl
@[simp] theorem State.keep_mons (s : State) (k : Kept) : (s.keep k).mons = s.mons := rfl
@[simp] theorem State.keep_ropes (s : State) (k : Kept) : (s.keep k).ropes = s.ropes := rfl
@[simp] theorem State.keep_radio (s : State) (k : Kept) : (s.keep k).radio = s.radio := rfl
@[simp] theorem State.keep_strs (s : State) (k : Kept) : (s.keep k).strs = s.strs := rfl
@[simp] theorem State.keep_cellSts (s : State) (k : Kept) : (s.keep k).cellSts = s.cellSts := rfl
@[simp] theorem State.keep_ests (s : State) (k : Kept) : (s.keep k).ests = s.ests := rfl
@[simp] theorem State.keep_nvCellSts (s : State) (k : Kept) : (s.keep k).nvCellSts = s.nvCellSts := rfl
@[simp] theorem State.keep_nvEsts (s : State) (k : Kept) : (s.keep k).nvEsts = s.nvEsts := rfl
@[simp] theorem State.keep_meas (s : State) (k : Kept) : (s.keep k).meas = s.meas := rfl
@[simp] theorem State.keep_meters (s : State) (k : Kept) : (s.keep k).meters = s.meters := rfl
@[simp] theorem State.keep_mpoints (s : State) (k : Kept) : (s.keep k).mpoints = s.mpoints := rfl
@[simp] theorem State.keep_overs (s : State) (k : Kept) : (s.keep k).overs = s.overs := rfl
@[simp] theorem State.keep_legal (s : State) (k : Kept) : (s.keep k).legal = s.legal := rfl
@[simp] theorem State.keep_bill (s : State) (k : Kept) : (s.keep k).bill = s.bill := rfl
@[simp] theorem State.keep_lc (s : State) (k : Kept) : (s.keep k).lc = s.lc := rfl
@[simp] theorem State.keep_halfA (s : State) (k : Kept) : (s.keep k).halfA = s.halfA := rfl
@[simp] theorem State.keep_halfB (s : State) (k : Kept) : (s.keep k).halfB = s.halfB := rfl
@[simp] theorem State.keep_eus (s : State) (k : Kept) : (s.keep k).eus = s.eus := rfl
@[simp] theorem State.keep_keys (s : State) (k : Kept) : (s.keep k).keys = s.keys := rfl
@[simp] theorem State.keep_fw (s : State) (k : Kept) : (s.keep k).fw = s.fw := rfl
@[simp] theorem State.keep_stream (s : State) (k : Kept) : (s.keep k).stream = s.stream := rfl
@[simp] theorem State.keep_plant (s : State) (k : Kept) : (s.keep k).plant = s.plant := rfl
@[simp] theorem State.keep_mirror (s : State) (k : Kept) : (s.keep k).mirror = s.mirror := rfl
@[simp] theorem State.keep_seen (s : State) (k : Kept) : (s.keep k).seen = s.seen := rfl

/-! `bump` changes nothing but actSet, digestStale, cells, free, writes. -/

@[simp] theorem State.bump_pending (s : State) (e : Entry) (n j b : Nat) : (s.bump e n j b).pending = s.pending := by unfold State.bump; dsimp only; split <;> simp [State.takeFree, State.setNat]
@[simp] theorem State.bump_ticks (s : State) (e : Entry) (n j b : Nat) : (s.bump e n j b).ticks = s.ticks := by unfold State.bump; dsimp only; split <;> simp [State.takeFree, State.setNat]
@[simp] theorem State.bump_sfn (s : State) (e : Entry) (n j b : Nat) : (s.bump e n j b).sfn = s.sfn := by unfold State.bump; dsimp only; split <;> simp [State.takeFree, State.setNat]
@[simp] theorem State.bump_cycle (s : State) (e : Entry) (n j b : Nat) : (s.bump e n j b).cycle = s.cycle := by unfold State.bump; dsimp only; split <;> simp [State.takeFree, State.setNat]
@[simp] theorem State.bump_shdSet (s : State) (e : Entry) (n j b : Nat) : (s.bump e n j b).shdSet = s.shdSet := by unfold State.bump; dsimp only; split <;> simp [State.takeFree, State.setNat]
@[simp] theorem State.bump_nvCells (s : State) (e : Entry) (n j b : Nat) : (s.bump e n j b).nvCells = s.nvCells := by unfold State.bump; dsimp only; split <;> simp [State.takeFree, State.setNat]
@[simp] theorem State.bump_nvSet0 (s : State) (e : Entry) (n j b : Nat) : (s.bump e n j b).nvSet0 = s.nvSet0 := by unfold State.bump; dsimp only; split <;> simp [State.takeFree, State.setNat]
@[simp] theorem State.bump_nvSet1 (s : State) (e : Entry) (n j b : Nat) : (s.bump e n j b).nvSet1 = s.nvSet1 := by unfold State.bump; dsimp only; split <;> simp [State.takeFree, State.setNat]
@[simp] theorem State.bump_setPtr (s : State) (e : Entry) (n j b : Nat) : (s.bump e n j b).setPtr = s.setPtr := by unfold State.bump; dsimp only; split <;> simp [State.takeFree, State.setNat]
@[simp] theorem State.bump_nvPtr (s : State) (e : Entry) (n j b : Nat) : (s.bump e n j b).nvPtr = s.nvPtr := by unfold State.bump; dsimp only; split <;> simp [State.takeFree, State.setNat]
@[simp] theorem State.bump_out (s : State) (e : Entry) (n j b : Nat) : (s.bump e n j b).out = s.out := by unfold State.bump; dsimp only; split <;> simp [State.takeFree, State.setNat]
@[simp] theorem State.bump_waiting (s : State) (e : Entry) (n j b : Nat) : (s.bump e n j b).waiting = s.waiting := by unfold State.bump; dsimp only; split <;> simp [State.takeFree, State.setNat]
@[simp] theorem State.bump_ev (s : State) (e : Entry) (n j b : Nat) : (s.bump e n j b).ev = s.ev := by unfold State.bump; dsimp only; split <;> simp [State.takeFree, State.setNat]
@[simp] theorem State.bump_tx (s : State) (e : Entry) (n j b : Nat) : (s.bump e n j b).tx = s.tx := by unfold State.bump; dsimp only; split <;> simp [State.takeFree, State.setNat]
@[simp] theorem State.bump_swapAsks (s : State) (e : Entry) (n j b : Nat) : (s.bump e n j b).swapAsks = s.swapAsks := by unfold State.bump; dsimp only; split <;> simp [State.takeFree, State.setNat]
@[simp] theorem State.bump_swapNext (s : State) (e : Entry) (n j b : Nat) : (s.bump e n j b).swapNext = s.swapNext := by unfold State.bump; dsimp only; split <;> simp [State.takeFree, State.setNat]
@[simp] theorem State.bump_tests (s : State) (e : Entry) (n j b : Nat) : (s.bump e n j b).tests = s.tests := by unfold State.bump; dsimp only; split <;> simp [State.takeFree, State.setNat]
@[simp] theorem State.bump_running (s : State) (e : Entry) (n j b : Nat) : (s.bump e n j b).running = s.running := by unfold State.bump; dsimp only; split <;> simp [State.takeFree, State.setNat]
@[simp] theorem State.bump_time (s : State) (e : Entry) (n j b : Nat) : (s.bump e n j b).time = s.time := by unfold State.bump; dsimp only; split <;> simp [State.takeFree, State.setNat]
@[simp] theorem State.bump_groups (s : State) (e : Entry) (n j b : Nat) : (s.bump e n j b).groups = s.groups := by unfold State.bump; dsimp only; split <;> simp [State.takeFree, State.setNat]
@[simp] theorem State.bump_die (s : State) (e : Entry) (n j b : Nat) : (s.bump e n j b).die = s.die := by unfold State.bump; dsimp only; split <;> simp [State.takeFree, State.setNat]
@[simp] theorem State.bump_pw (s : State) (e : Entry) (n j b : Nat) : (s.bump e n j b).pw = s.pw := by unfold State.bump; dsimp only; split <;> simp [State.takeFree, State.setNat]
@[simp] theorem State.bump_alloc (s : State) (e : Entry) (n j b : Nat) : (s.bump e n j b).alloc = s.alloc := by unfold State.bump; dsimp only; split <;> simp [State.takeFree, State.setNat]
@[simp] theorem State.bump_bus (s : State) (e : Entry) (n j b : Nat) : (s.bump e n j b).bus = s.bus := by unfold State.bump; dsimp only; split <;> simp [State.takeFree, State.setNat]
@[simp] theorem State.bump_outlets (s : State) (e : Entry) (n j b : Nat) : (s.bump e n j b).outlets = s.outlets := by unfold State.bump; dsimp only; split <;> simp [State.takeFree, State.setNat]
@[simp] theorem State.bump_loops (s : State) (e : Entry) (n j b : Nat) : (s.bump e n j b).loops = s.loops := by unfold State.bump; dsimp only; split <;> simp [State.takeFree, State.setNat]
@[simp] theorem State.bump_cables (s : State) (e : Entry) (n j b : Nat) : (s.bump e n j b).cables = s.cables := by unfold State.bump; dsimp only; split <;> simp [State.takeFree, State.setNat]
@[simp] theorem State.bump_legs (s : State) (e : Entry) (n j b : Nat) : (s.bump e n j b).legs = s.legs := by unfold State.bump; dsimp only; split <;> simp [State.takeFree, State.setNat]
@[simp] theorem State.bump_convs (s : State) (e : Entry) (n j b : Nat) : (s.bump e n j b).convs = s.convs := by unfold State.bump; dsimp only; split <;> simp [State.takeFree, State.setNat]
@[simp] theorem State.bump_points (s : State) (e : Entry) (n j b : Nat) : (s.bump e n j b).points = s.points := by unfold State.bump; dsimp only; split <;> simp [State.takeFree, State.setNat]
@[simp] theorem State.bump_mons (s : State) (e : Entry) (n j b : Nat) : (s.bump e n j b).mons = s.mons := by unfold State.bump; dsimp only; split <;> simp [State.takeFree, State.setNat]
@[simp] theorem State.bump_ropes (s : State) (e : Entry) (n j b : Nat) : (s.bump e n j b).ropes = s.ropes := by unfold State.bump; dsimp only; split <;> simp [State.takeFree, State.setNat]
@[simp] theorem State.bump_radio (s : State) (e : Entry) (n j b : Nat) : (s.bump e n j b).radio = s.radio := by unfold State.bump; dsimp only; split <;> simp [State.takeFree, State.setNat]
@[simp] theorem State.bump_strs (s : State) (e : Entry) (n j b : Nat) : (s.bump e n j b).strs = s.strs := by unfold State.bump; dsimp only; split <;> simp [State.takeFree, State.setNat]
@[simp] theorem State.bump_cellSts (s : State) (e : Entry) (n j b : Nat) : (s.bump e n j b).cellSts = s.cellSts := by unfold State.bump; dsimp only; split <;> simp [State.takeFree, State.setNat]
@[simp] theorem State.bump_ests (s : State) (e : Entry) (n j b : Nat) : (s.bump e n j b).ests = s.ests := by unfold State.bump; dsimp only; split <;> simp [State.takeFree, State.setNat]
@[simp] theorem State.bump_nvCellSts (s : State) (e : Entry) (n j b : Nat) : (s.bump e n j b).nvCellSts = s.nvCellSts := by unfold State.bump; dsimp only; split <;> simp [State.takeFree, State.setNat]
@[simp] theorem State.bump_nvEsts (s : State) (e : Entry) (n j b : Nat) : (s.bump e n j b).nvEsts = s.nvEsts := by unfold State.bump; dsimp only; split <;> simp [State.takeFree, State.setNat]
@[simp] theorem State.bump_meas (s : State) (e : Entry) (n j b : Nat) : (s.bump e n j b).meas = s.meas := by unfold State.bump; dsimp only; split <;> simp [State.takeFree, State.setNat]
@[simp] theorem State.bump_meters (s : State) (e : Entry) (n j b : Nat) : (s.bump e n j b).meters = s.meters := by unfold State.bump; dsimp only; split <;> simp [State.takeFree, State.setNat]
@[simp] theorem State.bump_mpoints (s : State) (e : Entry) (n j b : Nat) : (s.bump e n j b).mpoints = s.mpoints := by unfold State.bump; dsimp only; split <;> simp [State.takeFree, State.setNat]
@[simp] theorem State.bump_overs (s : State) (e : Entry) (n j b : Nat) : (s.bump e n j b).overs = s.overs := by unfold State.bump; dsimp only; split <;> simp [State.takeFree, State.setNat]
@[simp] theorem State.bump_legal (s : State) (e : Entry) (n j b : Nat) : (s.bump e n j b).legal = s.legal := by unfold State.bump; dsimp only; split <;> simp [State.takeFree, State.setNat]
@[simp] theorem State.bump_bill (s : State) (e : Entry) (n j b : Nat) : (s.bump e n j b).bill = s.bill := by unfold State.bump; dsimp only; split <;> simp [State.takeFree, State.setNat]
@[simp] theorem State.bump_lc (s : State) (e : Entry) (n j b : Nat) : (s.bump e n j b).lc = s.lc := by unfold State.bump; dsimp only; split <;> simp [State.takeFree, State.setNat]
@[simp] theorem State.bump_halfA (s : State) (e : Entry) (n j b : Nat) : (s.bump e n j b).halfA = s.halfA := by unfold State.bump; dsimp only; split <;> simp [State.takeFree, State.setNat]
@[simp] theorem State.bump_halfB (s : State) (e : Entry) (n j b : Nat) : (s.bump e n j b).halfB = s.halfB := by unfold State.bump; dsimp only; split <;> simp [State.takeFree, State.setNat]
@[simp] theorem State.bump_eus (s : State) (e : Entry) (n j b : Nat) : (s.bump e n j b).eus = s.eus := by unfold State.bump; dsimp only; split <;> simp [State.takeFree, State.setNat]
@[simp] theorem State.bump_keys (s : State) (e : Entry) (n j b : Nat) : (s.bump e n j b).keys = s.keys := by unfold State.bump; dsimp only; split <;> simp [State.takeFree, State.setNat]
@[simp] theorem State.bump_fw (s : State) (e : Entry) (n j b : Nat) : (s.bump e n j b).fw = s.fw := by unfold State.bump; dsimp only; split <;> simp [State.takeFree, State.setNat]
@[simp] theorem State.bump_stream (s : State) (e : Entry) (n j b : Nat) : (s.bump e n j b).stream = s.stream := by unfold State.bump; dsimp only; split <;> simp [State.takeFree, State.setNat]
@[simp] theorem State.bump_plant (s : State) (e : Entry) (n j b : Nat) : (s.bump e n j b).plant = s.plant := by unfold State.bump; dsimp only; split <;> simp [State.takeFree, State.setNat]
@[simp] theorem State.bump_mirror (s : State) (e : Entry) (n j b : Nat) : (s.bump e n j b).mirror = s.mirror := by unfold State.bump; dsimp only; split <;> simp [State.takeFree, State.setNat]
@[simp] theorem State.bump_seen (s : State) (e : Entry) (n j b : Nat) : (s.bump e n j b).seen = s.seen := by unfold State.bump; dsimp only; split <;> simp [State.takeFree, State.setNat]

/-! `fitNat` changes nothing but actSet, digestStale, cells, free, writes. -/

@[simp] theorem State.fitNat_pending (s : State) (e : Entry) (n v j : Nat) : (s.fitNat e n v j).pending = s.pending := by unfold State.fitNat; split <;> simp [State.takeFree, State.setNat]
@[simp] theorem State.fitNat_ticks (s : State) (e : Entry) (n v j : Nat) : (s.fitNat e n v j).ticks = s.ticks := by unfold State.fitNat; split <;> simp [State.takeFree, State.setNat]
@[simp] theorem State.fitNat_sfn (s : State) (e : Entry) (n v j : Nat) : (s.fitNat e n v j).sfn = s.sfn := by unfold State.fitNat; split <;> simp [State.takeFree, State.setNat]
@[simp] theorem State.fitNat_cycle (s : State) (e : Entry) (n v j : Nat) : (s.fitNat e n v j).cycle = s.cycle := by unfold State.fitNat; split <;> simp [State.takeFree, State.setNat]
@[simp] theorem State.fitNat_shdSet (s : State) (e : Entry) (n v j : Nat) : (s.fitNat e n v j).shdSet = s.shdSet := by unfold State.fitNat; split <;> simp [State.takeFree, State.setNat]
@[simp] theorem State.fitNat_nvCells (s : State) (e : Entry) (n v j : Nat) : (s.fitNat e n v j).nvCells = s.nvCells := by unfold State.fitNat; split <;> simp [State.takeFree, State.setNat]
@[simp] theorem State.fitNat_nvSet0 (s : State) (e : Entry) (n v j : Nat) : (s.fitNat e n v j).nvSet0 = s.nvSet0 := by unfold State.fitNat; split <;> simp [State.takeFree, State.setNat]
@[simp] theorem State.fitNat_nvSet1 (s : State) (e : Entry) (n v j : Nat) : (s.fitNat e n v j).nvSet1 = s.nvSet1 := by unfold State.fitNat; split <;> simp [State.takeFree, State.setNat]
@[simp] theorem State.fitNat_setPtr (s : State) (e : Entry) (n v j : Nat) : (s.fitNat e n v j).setPtr = s.setPtr := by unfold State.fitNat; split <;> simp [State.takeFree, State.setNat]
@[simp] theorem State.fitNat_nvPtr (s : State) (e : Entry) (n v j : Nat) : (s.fitNat e n v j).nvPtr = s.nvPtr := by unfold State.fitNat; split <;> simp [State.takeFree, State.setNat]
@[simp] theorem State.fitNat_out (s : State) (e : Entry) (n v j : Nat) : (s.fitNat e n v j).out = s.out := by unfold State.fitNat; split <;> simp [State.takeFree, State.setNat]
@[simp] theorem State.fitNat_waiting (s : State) (e : Entry) (n v j : Nat) : (s.fitNat e n v j).waiting = s.waiting := by unfold State.fitNat; split <;> simp [State.takeFree, State.setNat]
@[simp] theorem State.fitNat_ev (s : State) (e : Entry) (n v j : Nat) : (s.fitNat e n v j).ev = s.ev := by unfold State.fitNat; split <;> simp [State.takeFree, State.setNat]
@[simp] theorem State.fitNat_tx (s : State) (e : Entry) (n v j : Nat) : (s.fitNat e n v j).tx = s.tx := by unfold State.fitNat; split <;> simp [State.takeFree, State.setNat]
@[simp] theorem State.fitNat_swapAsks (s : State) (e : Entry) (n v j : Nat) : (s.fitNat e n v j).swapAsks = s.swapAsks := by unfold State.fitNat; split <;> simp [State.takeFree, State.setNat]
@[simp] theorem State.fitNat_swapNext (s : State) (e : Entry) (n v j : Nat) : (s.fitNat e n v j).swapNext = s.swapNext := by unfold State.fitNat; split <;> simp [State.takeFree, State.setNat]
@[simp] theorem State.fitNat_tests (s : State) (e : Entry) (n v j : Nat) : (s.fitNat e n v j).tests = s.tests := by unfold State.fitNat; split <;> simp [State.takeFree, State.setNat]
@[simp] theorem State.fitNat_running (s : State) (e : Entry) (n v j : Nat) : (s.fitNat e n v j).running = s.running := by unfold State.fitNat; split <;> simp [State.takeFree, State.setNat]
@[simp] theorem State.fitNat_time (s : State) (e : Entry) (n v j : Nat) : (s.fitNat e n v j).time = s.time := by unfold State.fitNat; split <;> simp [State.takeFree, State.setNat]
@[simp] theorem State.fitNat_groups (s : State) (e : Entry) (n v j : Nat) : (s.fitNat e n v j).groups = s.groups := by unfold State.fitNat; split <;> simp [State.takeFree, State.setNat]
@[simp] theorem State.fitNat_die (s : State) (e : Entry) (n v j : Nat) : (s.fitNat e n v j).die = s.die := by unfold State.fitNat; split <;> simp [State.takeFree, State.setNat]
@[simp] theorem State.fitNat_pw (s : State) (e : Entry) (n v j : Nat) : (s.fitNat e n v j).pw = s.pw := by unfold State.fitNat; split <;> simp [State.takeFree, State.setNat]
@[simp] theorem State.fitNat_alloc (s : State) (e : Entry) (n v j : Nat) : (s.fitNat e n v j).alloc = s.alloc := by unfold State.fitNat; split <;> simp [State.takeFree, State.setNat]
@[simp] theorem State.fitNat_bus (s : State) (e : Entry) (n v j : Nat) : (s.fitNat e n v j).bus = s.bus := by unfold State.fitNat; split <;> simp [State.takeFree, State.setNat]
@[simp] theorem State.fitNat_outlets (s : State) (e : Entry) (n v j : Nat) : (s.fitNat e n v j).outlets = s.outlets := by unfold State.fitNat; split <;> simp [State.takeFree, State.setNat]
@[simp] theorem State.fitNat_loops (s : State) (e : Entry) (n v j : Nat) : (s.fitNat e n v j).loops = s.loops := by unfold State.fitNat; split <;> simp [State.takeFree, State.setNat]
@[simp] theorem State.fitNat_cables (s : State) (e : Entry) (n v j : Nat) : (s.fitNat e n v j).cables = s.cables := by unfold State.fitNat; split <;> simp [State.takeFree, State.setNat]
@[simp] theorem State.fitNat_legs (s : State) (e : Entry) (n v j : Nat) : (s.fitNat e n v j).legs = s.legs := by unfold State.fitNat; split <;> simp [State.takeFree, State.setNat]
@[simp] theorem State.fitNat_convs (s : State) (e : Entry) (n v j : Nat) : (s.fitNat e n v j).convs = s.convs := by unfold State.fitNat; split <;> simp [State.takeFree, State.setNat]
@[simp] theorem State.fitNat_points (s : State) (e : Entry) (n v j : Nat) : (s.fitNat e n v j).points = s.points := by unfold State.fitNat; split <;> simp [State.takeFree, State.setNat]
@[simp] theorem State.fitNat_mons (s : State) (e : Entry) (n v j : Nat) : (s.fitNat e n v j).mons = s.mons := by unfold State.fitNat; split <;> simp [State.takeFree, State.setNat]
@[simp] theorem State.fitNat_ropes (s : State) (e : Entry) (n v j : Nat) : (s.fitNat e n v j).ropes = s.ropes := by unfold State.fitNat; split <;> simp [State.takeFree, State.setNat]
@[simp] theorem State.fitNat_radio (s : State) (e : Entry) (n v j : Nat) : (s.fitNat e n v j).radio = s.radio := by unfold State.fitNat; split <;> simp [State.takeFree, State.setNat]
@[simp] theorem State.fitNat_strs (s : State) (e : Entry) (n v j : Nat) : (s.fitNat e n v j).strs = s.strs := by unfold State.fitNat; split <;> simp [State.takeFree, State.setNat]
@[simp] theorem State.fitNat_cellSts (s : State) (e : Entry) (n v j : Nat) : (s.fitNat e n v j).cellSts = s.cellSts := by unfold State.fitNat; split <;> simp [State.takeFree, State.setNat]
@[simp] theorem State.fitNat_ests (s : State) (e : Entry) (n v j : Nat) : (s.fitNat e n v j).ests = s.ests := by unfold State.fitNat; split <;> simp [State.takeFree, State.setNat]
@[simp] theorem State.fitNat_nvCellSts (s : State) (e : Entry) (n v j : Nat) : (s.fitNat e n v j).nvCellSts = s.nvCellSts := by unfold State.fitNat; split <;> simp [State.takeFree, State.setNat]
@[simp] theorem State.fitNat_nvEsts (s : State) (e : Entry) (n v j : Nat) : (s.fitNat e n v j).nvEsts = s.nvEsts := by unfold State.fitNat; split <;> simp [State.takeFree, State.setNat]
@[simp] theorem State.fitNat_meas (s : State) (e : Entry) (n v j : Nat) : (s.fitNat e n v j).meas = s.meas := by unfold State.fitNat; split <;> simp [State.takeFree, State.setNat]
@[simp] theorem State.fitNat_meters (s : State) (e : Entry) (n v j : Nat) : (s.fitNat e n v j).meters = s.meters := by unfold State.fitNat; split <;> simp [State.takeFree, State.setNat]
@[simp] theorem State.fitNat_mpoints (s : State) (e : Entry) (n v j : Nat) : (s.fitNat e n v j).mpoints = s.mpoints := by unfold State.fitNat; split <;> simp [State.takeFree, State.setNat]
@[simp] theorem State.fitNat_overs (s : State) (e : Entry) (n v j : Nat) : (s.fitNat e n v j).overs = s.overs := by unfold State.fitNat; split <;> simp [State.takeFree, State.setNat]
@[simp] theorem State.fitNat_legal (s : State) (e : Entry) (n v j : Nat) : (s.fitNat e n v j).legal = s.legal := by unfold State.fitNat; split <;> simp [State.takeFree, State.setNat]
@[simp] theorem State.fitNat_bill (s : State) (e : Entry) (n v j : Nat) : (s.fitNat e n v j).bill = s.bill := by unfold State.fitNat; split <;> simp [State.takeFree, State.setNat]
@[simp] theorem State.fitNat_lc (s : State) (e : Entry) (n v j : Nat) : (s.fitNat e n v j).lc = s.lc := by unfold State.fitNat; split <;> simp [State.takeFree, State.setNat]
@[simp] theorem State.fitNat_halfA (s : State) (e : Entry) (n v j : Nat) : (s.fitNat e n v j).halfA = s.halfA := by unfold State.fitNat; split <;> simp [State.takeFree, State.setNat]
@[simp] theorem State.fitNat_halfB (s : State) (e : Entry) (n v j : Nat) : (s.fitNat e n v j).halfB = s.halfB := by unfold State.fitNat; split <;> simp [State.takeFree, State.setNat]
@[simp] theorem State.fitNat_eus (s : State) (e : Entry) (n v j : Nat) : (s.fitNat e n v j).eus = s.eus := by unfold State.fitNat; split <;> simp [State.takeFree, State.setNat]
@[simp] theorem State.fitNat_keys (s : State) (e : Entry) (n v j : Nat) : (s.fitNat e n v j).keys = s.keys := by unfold State.fitNat; split <;> simp [State.takeFree, State.setNat]
@[simp] theorem State.fitNat_fw (s : State) (e : Entry) (n v j : Nat) : (s.fitNat e n v j).fw = s.fw := by unfold State.fitNat; split <;> simp [State.takeFree, State.setNat]
@[simp] theorem State.fitNat_stream (s : State) (e : Entry) (n v j : Nat) : (s.fitNat e n v j).stream = s.stream := by unfold State.fitNat; split <;> simp [State.takeFree, State.setNat]
@[simp] theorem State.fitNat_plant (s : State) (e : Entry) (n v j : Nat) : (s.fitNat e n v j).plant = s.plant := by unfold State.fitNat; split <;> simp [State.takeFree, State.setNat]
@[simp] theorem State.fitNat_mirror (s : State) (e : Entry) (n v j : Nat) : (s.fitNat e n v j).mirror = s.mirror := by unfold State.fitNat; split <;> simp [State.takeFree, State.setNat]
@[simp] theorem State.fitNat_seen (s : State) (e : Entry) (n v j : Nat) : (s.fitNat e n v j).seen = s.seen := by unfold State.fitNat; split <;> simp [State.takeFree, State.setNat]

/-! `fitInt` changes nothing but actSet, digestStale, cells, free, writes. -/

@[simp] theorem State.fitInt_pending (s : State) (e : Entry) (n : Nat) (v : Int) (j : Nat) : (s.fitInt e n v j).pending = s.pending := by unfold State.fitInt State.takeFree; dsimp only; split <;> split <;> simp
@[simp] theorem State.fitInt_ticks (s : State) (e : Entry) (n : Nat) (v : Int) (j : Nat) : (s.fitInt e n v j).ticks = s.ticks := by unfold State.fitInt State.takeFree; dsimp only; split <;> split <;> simp
@[simp] theorem State.fitInt_sfn (s : State) (e : Entry) (n : Nat) (v : Int) (j : Nat) : (s.fitInt e n v j).sfn = s.sfn := by unfold State.fitInt State.takeFree; dsimp only; split <;> split <;> simp
@[simp] theorem State.fitInt_cycle (s : State) (e : Entry) (n : Nat) (v : Int) (j : Nat) : (s.fitInt e n v j).cycle = s.cycle := by unfold State.fitInt State.takeFree; dsimp only; split <;> split <;> simp
@[simp] theorem State.fitInt_shdSet (s : State) (e : Entry) (n : Nat) (v : Int) (j : Nat) : (s.fitInt e n v j).shdSet = s.shdSet := by unfold State.fitInt State.takeFree; dsimp only; split <;> split <;> simp
@[simp] theorem State.fitInt_nvCells (s : State) (e : Entry) (n : Nat) (v : Int) (j : Nat) : (s.fitInt e n v j).nvCells = s.nvCells := by unfold State.fitInt State.takeFree; dsimp only; split <;> split <;> simp
@[simp] theorem State.fitInt_nvSet0 (s : State) (e : Entry) (n : Nat) (v : Int) (j : Nat) : (s.fitInt e n v j).nvSet0 = s.nvSet0 := by unfold State.fitInt State.takeFree; dsimp only; split <;> split <;> simp
@[simp] theorem State.fitInt_nvSet1 (s : State) (e : Entry) (n : Nat) (v : Int) (j : Nat) : (s.fitInt e n v j).nvSet1 = s.nvSet1 := by unfold State.fitInt State.takeFree; dsimp only; split <;> split <;> simp
@[simp] theorem State.fitInt_setPtr (s : State) (e : Entry) (n : Nat) (v : Int) (j : Nat) : (s.fitInt e n v j).setPtr = s.setPtr := by unfold State.fitInt State.takeFree; dsimp only; split <;> split <;> simp
@[simp] theorem State.fitInt_nvPtr (s : State) (e : Entry) (n : Nat) (v : Int) (j : Nat) : (s.fitInt e n v j).nvPtr = s.nvPtr := by unfold State.fitInt State.takeFree; dsimp only; split <;> split <;> simp
@[simp] theorem State.fitInt_out (s : State) (e : Entry) (n : Nat) (v : Int) (j : Nat) : (s.fitInt e n v j).out = s.out := by unfold State.fitInt State.takeFree; dsimp only; split <;> split <;> simp
@[simp] theorem State.fitInt_waiting (s : State) (e : Entry) (n : Nat) (v : Int) (j : Nat) : (s.fitInt e n v j).waiting = s.waiting := by unfold State.fitInt State.takeFree; dsimp only; split <;> split <;> simp
@[simp] theorem State.fitInt_ev (s : State) (e : Entry) (n : Nat) (v : Int) (j : Nat) : (s.fitInt e n v j).ev = s.ev := by unfold State.fitInt State.takeFree; dsimp only; split <;> split <;> simp
@[simp] theorem State.fitInt_tx (s : State) (e : Entry) (n : Nat) (v : Int) (j : Nat) : (s.fitInt e n v j).tx = s.tx := by unfold State.fitInt State.takeFree; dsimp only; split <;> split <;> simp
@[simp] theorem State.fitInt_swapAsks (s : State) (e : Entry) (n : Nat) (v : Int) (j : Nat) : (s.fitInt e n v j).swapAsks = s.swapAsks := by unfold State.fitInt State.takeFree; dsimp only; split <;> split <;> simp
@[simp] theorem State.fitInt_swapNext (s : State) (e : Entry) (n : Nat) (v : Int) (j : Nat) : (s.fitInt e n v j).swapNext = s.swapNext := by unfold State.fitInt State.takeFree; dsimp only; split <;> split <;> simp
@[simp] theorem State.fitInt_tests (s : State) (e : Entry) (n : Nat) (v : Int) (j : Nat) : (s.fitInt e n v j).tests = s.tests := by unfold State.fitInt State.takeFree; dsimp only; split <;> split <;> simp
@[simp] theorem State.fitInt_running (s : State) (e : Entry) (n : Nat) (v : Int) (j : Nat) : (s.fitInt e n v j).running = s.running := by unfold State.fitInt State.takeFree; dsimp only; split <;> split <;> simp
@[simp] theorem State.fitInt_time (s : State) (e : Entry) (n : Nat) (v : Int) (j : Nat) : (s.fitInt e n v j).time = s.time := by unfold State.fitInt State.takeFree; dsimp only; split <;> split <;> simp
@[simp] theorem State.fitInt_groups (s : State) (e : Entry) (n : Nat) (v : Int) (j : Nat) : (s.fitInt e n v j).groups = s.groups := by unfold State.fitInt State.takeFree; dsimp only; split <;> split <;> simp
@[simp] theorem State.fitInt_die (s : State) (e : Entry) (n : Nat) (v : Int) (j : Nat) : (s.fitInt e n v j).die = s.die := by unfold State.fitInt State.takeFree; dsimp only; split <;> split <;> simp
@[simp] theorem State.fitInt_pw (s : State) (e : Entry) (n : Nat) (v : Int) (j : Nat) : (s.fitInt e n v j).pw = s.pw := by unfold State.fitInt State.takeFree; dsimp only; split <;> split <;> simp
@[simp] theorem State.fitInt_alloc (s : State) (e : Entry) (n : Nat) (v : Int) (j : Nat) : (s.fitInt e n v j).alloc = s.alloc := by unfold State.fitInt State.takeFree; dsimp only; split <;> split <;> simp
@[simp] theorem State.fitInt_bus (s : State) (e : Entry) (n : Nat) (v : Int) (j : Nat) : (s.fitInt e n v j).bus = s.bus := by unfold State.fitInt State.takeFree; dsimp only; split <;> split <;> simp
@[simp] theorem State.fitInt_outlets (s : State) (e : Entry) (n : Nat) (v : Int) (j : Nat) : (s.fitInt e n v j).outlets = s.outlets := by unfold State.fitInt State.takeFree; dsimp only; split <;> split <;> simp
@[simp] theorem State.fitInt_loops (s : State) (e : Entry) (n : Nat) (v : Int) (j : Nat) : (s.fitInt e n v j).loops = s.loops := by unfold State.fitInt State.takeFree; dsimp only; split <;> split <;> simp
@[simp] theorem State.fitInt_cables (s : State) (e : Entry) (n : Nat) (v : Int) (j : Nat) : (s.fitInt e n v j).cables = s.cables := by unfold State.fitInt State.takeFree; dsimp only; split <;> split <;> simp
@[simp] theorem State.fitInt_legs (s : State) (e : Entry) (n : Nat) (v : Int) (j : Nat) : (s.fitInt e n v j).legs = s.legs := by unfold State.fitInt State.takeFree; dsimp only; split <;> split <;> simp
@[simp] theorem State.fitInt_convs (s : State) (e : Entry) (n : Nat) (v : Int) (j : Nat) : (s.fitInt e n v j).convs = s.convs := by unfold State.fitInt State.takeFree; dsimp only; split <;> split <;> simp
@[simp] theorem State.fitInt_points (s : State) (e : Entry) (n : Nat) (v : Int) (j : Nat) : (s.fitInt e n v j).points = s.points := by unfold State.fitInt State.takeFree; dsimp only; split <;> split <;> simp
@[simp] theorem State.fitInt_mons (s : State) (e : Entry) (n : Nat) (v : Int) (j : Nat) : (s.fitInt e n v j).mons = s.mons := by unfold State.fitInt State.takeFree; dsimp only; split <;> split <;> simp
@[simp] theorem State.fitInt_ropes (s : State) (e : Entry) (n : Nat) (v : Int) (j : Nat) : (s.fitInt e n v j).ropes = s.ropes := by unfold State.fitInt State.takeFree; dsimp only; split <;> split <;> simp
@[simp] theorem State.fitInt_radio (s : State) (e : Entry) (n : Nat) (v : Int) (j : Nat) : (s.fitInt e n v j).radio = s.radio := by unfold State.fitInt State.takeFree; dsimp only; split <;> split <;> simp
@[simp] theorem State.fitInt_strs (s : State) (e : Entry) (n : Nat) (v : Int) (j : Nat) : (s.fitInt e n v j).strs = s.strs := by unfold State.fitInt State.takeFree; dsimp only; split <;> split <;> simp
@[simp] theorem State.fitInt_cellSts (s : State) (e : Entry) (n : Nat) (v : Int) (j : Nat) : (s.fitInt e n v j).cellSts = s.cellSts := by unfold State.fitInt State.takeFree; dsimp only; split <;> split <;> simp
@[simp] theorem State.fitInt_ests (s : State) (e : Entry) (n : Nat) (v : Int) (j : Nat) : (s.fitInt e n v j).ests = s.ests := by unfold State.fitInt State.takeFree; dsimp only; split <;> split <;> simp
@[simp] theorem State.fitInt_nvCellSts (s : State) (e : Entry) (n : Nat) (v : Int) (j : Nat) : (s.fitInt e n v j).nvCellSts = s.nvCellSts := by unfold State.fitInt State.takeFree; dsimp only; split <;> split <;> simp
@[simp] theorem State.fitInt_nvEsts (s : State) (e : Entry) (n : Nat) (v : Int) (j : Nat) : (s.fitInt e n v j).nvEsts = s.nvEsts := by unfold State.fitInt State.takeFree; dsimp only; split <;> split <;> simp
@[simp] theorem State.fitInt_meas (s : State) (e : Entry) (n : Nat) (v : Int) (j : Nat) : (s.fitInt e n v j).meas = s.meas := by unfold State.fitInt State.takeFree; dsimp only; split <;> split <;> simp
@[simp] theorem State.fitInt_meters (s : State) (e : Entry) (n : Nat) (v : Int) (j : Nat) : (s.fitInt e n v j).meters = s.meters := by unfold State.fitInt State.takeFree; dsimp only; split <;> split <;> simp
@[simp] theorem State.fitInt_mpoints (s : State) (e : Entry) (n : Nat) (v : Int) (j : Nat) : (s.fitInt e n v j).mpoints = s.mpoints := by unfold State.fitInt State.takeFree; dsimp only; split <;> split <;> simp
@[simp] theorem State.fitInt_overs (s : State) (e : Entry) (n : Nat) (v : Int) (j : Nat) : (s.fitInt e n v j).overs = s.overs := by unfold State.fitInt State.takeFree; dsimp only; split <;> split <;> simp
@[simp] theorem State.fitInt_legal (s : State) (e : Entry) (n : Nat) (v : Int) (j : Nat) : (s.fitInt e n v j).legal = s.legal := by unfold State.fitInt State.takeFree; dsimp only; split <;> split <;> simp
@[simp] theorem State.fitInt_bill (s : State) (e : Entry) (n : Nat) (v : Int) (j : Nat) : (s.fitInt e n v j).bill = s.bill := by unfold State.fitInt State.takeFree; dsimp only; split <;> split <;> simp
@[simp] theorem State.fitInt_lc (s : State) (e : Entry) (n : Nat) (v : Int) (j : Nat) : (s.fitInt e n v j).lc = s.lc := by unfold State.fitInt State.takeFree; dsimp only; split <;> split <;> simp
@[simp] theorem State.fitInt_halfA (s : State) (e : Entry) (n : Nat) (v : Int) (j : Nat) : (s.fitInt e n v j).halfA = s.halfA := by unfold State.fitInt State.takeFree; dsimp only; split <;> split <;> simp
@[simp] theorem State.fitInt_halfB (s : State) (e : Entry) (n : Nat) (v : Int) (j : Nat) : (s.fitInt e n v j).halfB = s.halfB := by unfold State.fitInt State.takeFree; dsimp only; split <;> split <;> simp
@[simp] theorem State.fitInt_eus (s : State) (e : Entry) (n : Nat) (v : Int) (j : Nat) : (s.fitInt e n v j).eus = s.eus := by unfold State.fitInt State.takeFree; dsimp only; split <;> split <;> simp
@[simp] theorem State.fitInt_keys (s : State) (e : Entry) (n : Nat) (v : Int) (j : Nat) : (s.fitInt e n v j).keys = s.keys := by unfold State.fitInt State.takeFree; dsimp only; split <;> split <;> simp
@[simp] theorem State.fitInt_fw (s : State) (e : Entry) (n : Nat) (v : Int) (j : Nat) : (s.fitInt e n v j).fw = s.fw := by unfold State.fitInt State.takeFree; dsimp only; split <;> split <;> simp
@[simp] theorem State.fitInt_stream (s : State) (e : Entry) (n : Nat) (v : Int) (j : Nat) : (s.fitInt e n v j).stream = s.stream := by unfold State.fitInt State.takeFree; dsimp only; split <;> split <;> simp
@[simp] theorem State.fitInt_plant (s : State) (e : Entry) (n : Nat) (v : Int) (j : Nat) : (s.fitInt e n v j).plant = s.plant := by unfold State.fitInt State.takeFree; dsimp only; split <;> split <;> simp
@[simp] theorem State.fitInt_mirror (s : State) (e : Entry) (n : Nat) (v : Int) (j : Nat) : (s.fitInt e n v j).mirror = s.mirror := by unfold State.fitInt State.takeFree; dsimp only; split <;> split <;> simp
@[simp] theorem State.fitInt_seen (s : State) (e : Entry) (n : Nat) (v : Int) (j : Nat) : (s.fitInt e n v j).seen = s.seen := by unfold State.fitInt State.takeFree; dsimp only; split <;> split <;> simp

/-! `takeTag` changes nothing but tx, cells, actSet, digestStale, writes. -/

@[simp] theorem State.takeTag_pending (s : State) (a : Nat) (c : Option Nat) : (s.takeTag a c).pending = s.pending := by unfold State.takeTag State.when; dsimp only; split <;> simp [State.setNat]
@[simp] theorem State.takeTag_ticks (s : State) (a : Nat) (c : Option Nat) : (s.takeTag a c).ticks = s.ticks := by unfold State.takeTag State.when; dsimp only; split <;> simp [State.setNat]
@[simp] theorem State.takeTag_sfn (s : State) (a : Nat) (c : Option Nat) : (s.takeTag a c).sfn = s.sfn := by unfold State.takeTag State.when; dsimp only; split <;> simp [State.setNat]
@[simp] theorem State.takeTag_cycle (s : State) (a : Nat) (c : Option Nat) : (s.takeTag a c).cycle = s.cycle := by unfold State.takeTag State.when; dsimp only; split <;> simp [State.setNat]
@[simp] theorem State.takeTag_free (s : State) (a : Nat) (c : Option Nat) : (s.takeTag a c).free = s.free := by unfold State.takeTag State.when; dsimp only; split <;> simp [State.setNat]
@[simp] theorem State.takeTag_shdSet (s : State) (a : Nat) (c : Option Nat) : (s.takeTag a c).shdSet = s.shdSet := by unfold State.takeTag State.when; dsimp only; split <;> simp [State.setNat]
@[simp] theorem State.takeTag_nvCells (s : State) (a : Nat) (c : Option Nat) : (s.takeTag a c).nvCells = s.nvCells := by unfold State.takeTag State.when; dsimp only; split <;> simp [State.setNat]
@[simp] theorem State.takeTag_nvSet0 (s : State) (a : Nat) (c : Option Nat) : (s.takeTag a c).nvSet0 = s.nvSet0 := by unfold State.takeTag State.when; dsimp only; split <;> simp [State.setNat]
@[simp] theorem State.takeTag_nvSet1 (s : State) (a : Nat) (c : Option Nat) : (s.takeTag a c).nvSet1 = s.nvSet1 := by unfold State.takeTag State.when; dsimp only; split <;> simp [State.setNat]
@[simp] theorem State.takeTag_setPtr (s : State) (a : Nat) (c : Option Nat) : (s.takeTag a c).setPtr = s.setPtr := by unfold State.takeTag State.when; dsimp only; split <;> simp [State.setNat]
@[simp] theorem State.takeTag_nvPtr (s : State) (a : Nat) (c : Option Nat) : (s.takeTag a c).nvPtr = s.nvPtr := by unfold State.takeTag State.when; dsimp only; split <;> simp [State.setNat]
@[simp] theorem State.takeTag_out (s : State) (a : Nat) (c : Option Nat) : (s.takeTag a c).out = s.out := by unfold State.takeTag State.when; dsimp only; split <;> simp [State.setNat]
@[simp] theorem State.takeTag_waiting (s : State) (a : Nat) (c : Option Nat) : (s.takeTag a c).waiting = s.waiting := by unfold State.takeTag State.when; dsimp only; split <;> simp [State.setNat]
@[simp] theorem State.takeTag_ev (s : State) (a : Nat) (c : Option Nat) : (s.takeTag a c).ev = s.ev := by unfold State.takeTag State.when; dsimp only; split <;> simp [State.setNat]
@[simp] theorem State.takeTag_swapAsks (s : State) (a : Nat) (c : Option Nat) : (s.takeTag a c).swapAsks = s.swapAsks := by unfold State.takeTag State.when; dsimp only; split <;> simp [State.setNat]
@[simp] theorem State.takeTag_swapNext (s : State) (a : Nat) (c : Option Nat) : (s.takeTag a c).swapNext = s.swapNext := by unfold State.takeTag State.when; dsimp only; split <;> simp [State.setNat]
@[simp] theorem State.takeTag_tests (s : State) (a : Nat) (c : Option Nat) : (s.takeTag a c).tests = s.tests := by unfold State.takeTag State.when; dsimp only; split <;> simp [State.setNat]
@[simp] theorem State.takeTag_running (s : State) (a : Nat) (c : Option Nat) : (s.takeTag a c).running = s.running := by unfold State.takeTag State.when; dsimp only; split <;> simp [State.setNat]
@[simp] theorem State.takeTag_time (s : State) (a : Nat) (c : Option Nat) : (s.takeTag a c).time = s.time := by unfold State.takeTag State.when; dsimp only; split <;> simp [State.setNat]
@[simp] theorem State.takeTag_groups (s : State) (a : Nat) (c : Option Nat) : (s.takeTag a c).groups = s.groups := by unfold State.takeTag State.when; dsimp only; split <;> simp [State.setNat]
@[simp] theorem State.takeTag_die (s : State) (a : Nat) (c : Option Nat) : (s.takeTag a c).die = s.die := by unfold State.takeTag State.when; dsimp only; split <;> simp [State.setNat]
@[simp] theorem State.takeTag_pw (s : State) (a : Nat) (c : Option Nat) : (s.takeTag a c).pw = s.pw := by unfold State.takeTag State.when; dsimp only; split <;> simp [State.setNat]
@[simp] theorem State.takeTag_alloc (s : State) (a : Nat) (c : Option Nat) : (s.takeTag a c).alloc = s.alloc := by unfold State.takeTag State.when; dsimp only; split <;> simp [State.setNat]
@[simp] theorem State.takeTag_bus (s : State) (a : Nat) (c : Option Nat) : (s.takeTag a c).bus = s.bus := by unfold State.takeTag State.when; dsimp only; split <;> simp [State.setNat]
@[simp] theorem State.takeTag_outlets (s : State) (a : Nat) (c : Option Nat) : (s.takeTag a c).outlets = s.outlets := by unfold State.takeTag State.when; dsimp only; split <;> simp [State.setNat]
@[simp] theorem State.takeTag_loops (s : State) (a : Nat) (c : Option Nat) : (s.takeTag a c).loops = s.loops := by unfold State.takeTag State.when; dsimp only; split <;> simp [State.setNat]
@[simp] theorem State.takeTag_cables (s : State) (a : Nat) (c : Option Nat) : (s.takeTag a c).cables = s.cables := by unfold State.takeTag State.when; dsimp only; split <;> simp [State.setNat]
@[simp] theorem State.takeTag_legs (s : State) (a : Nat) (c : Option Nat) : (s.takeTag a c).legs = s.legs := by unfold State.takeTag State.when; dsimp only; split <;> simp [State.setNat]
@[simp] theorem State.takeTag_convs (s : State) (a : Nat) (c : Option Nat) : (s.takeTag a c).convs = s.convs := by unfold State.takeTag State.when; dsimp only; split <;> simp [State.setNat]
@[simp] theorem State.takeTag_points (s : State) (a : Nat) (c : Option Nat) : (s.takeTag a c).points = s.points := by unfold State.takeTag State.when; dsimp only; split <;> simp [State.setNat]
@[simp] theorem State.takeTag_mons (s : State) (a : Nat) (c : Option Nat) : (s.takeTag a c).mons = s.mons := by unfold State.takeTag State.when; dsimp only; split <;> simp [State.setNat]
@[simp] theorem State.takeTag_ropes (s : State) (a : Nat) (c : Option Nat) : (s.takeTag a c).ropes = s.ropes := by unfold State.takeTag State.when; dsimp only; split <;> simp [State.setNat]
@[simp] theorem State.takeTag_radio (s : State) (a : Nat) (c : Option Nat) : (s.takeTag a c).radio = s.radio := by unfold State.takeTag State.when; dsimp only; split <;> simp [State.setNat]
@[simp] theorem State.takeTag_strs (s : State) (a : Nat) (c : Option Nat) : (s.takeTag a c).strs = s.strs := by unfold State.takeTag State.when; dsimp only; split <;> simp [State.setNat]
@[simp] theorem State.takeTag_cellSts (s : State) (a : Nat) (c : Option Nat) : (s.takeTag a c).cellSts = s.cellSts := by unfold State.takeTag State.when; dsimp only; split <;> simp [State.setNat]
@[simp] theorem State.takeTag_ests (s : State) (a : Nat) (c : Option Nat) : (s.takeTag a c).ests = s.ests := by unfold State.takeTag State.when; dsimp only; split <;> simp [State.setNat]
@[simp] theorem State.takeTag_nvCellSts (s : State) (a : Nat) (c : Option Nat) : (s.takeTag a c).nvCellSts = s.nvCellSts := by unfold State.takeTag State.when; dsimp only; split <;> simp [State.setNat]
@[simp] theorem State.takeTag_nvEsts (s : State) (a : Nat) (c : Option Nat) : (s.takeTag a c).nvEsts = s.nvEsts := by unfold State.takeTag State.when; dsimp only; split <;> simp [State.setNat]
@[simp] theorem State.takeTag_meas (s : State) (a : Nat) (c : Option Nat) : (s.takeTag a c).meas = s.meas := by unfold State.takeTag State.when; dsimp only; split <;> simp [State.setNat]
@[simp] theorem State.takeTag_meters (s : State) (a : Nat) (c : Option Nat) : (s.takeTag a c).meters = s.meters := by unfold State.takeTag State.when; dsimp only; split <;> simp [State.setNat]
@[simp] theorem State.takeTag_mpoints (s : State) (a : Nat) (c : Option Nat) : (s.takeTag a c).mpoints = s.mpoints := by unfold State.takeTag State.when; dsimp only; split <;> simp [State.setNat]
@[simp] theorem State.takeTag_overs (s : State) (a : Nat) (c : Option Nat) : (s.takeTag a c).overs = s.overs := by unfold State.takeTag State.when; dsimp only; split <;> simp [State.setNat]
@[simp] theorem State.takeTag_legal (s : State) (a : Nat) (c : Option Nat) : (s.takeTag a c).legal = s.legal := by unfold State.takeTag State.when; dsimp only; split <;> simp [State.setNat]
@[simp] theorem State.takeTag_bill (s : State) (a : Nat) (c : Option Nat) : (s.takeTag a c).bill = s.bill := by unfold State.takeTag State.when; dsimp only; split <;> simp [State.setNat]
@[simp] theorem State.takeTag_lc (s : State) (a : Nat) (c : Option Nat) : (s.takeTag a c).lc = s.lc := by unfold State.takeTag State.when; dsimp only; split <;> simp [State.setNat]
@[simp] theorem State.takeTag_halfA (s : State) (a : Nat) (c : Option Nat) : (s.takeTag a c).halfA = s.halfA := by unfold State.takeTag State.when; dsimp only; split <;> simp [State.setNat]
@[simp] theorem State.takeTag_halfB (s : State) (a : Nat) (c : Option Nat) : (s.takeTag a c).halfB = s.halfB := by unfold State.takeTag State.when; dsimp only; split <;> simp [State.setNat]
@[simp] theorem State.takeTag_eus (s : State) (a : Nat) (c : Option Nat) : (s.takeTag a c).eus = s.eus := by unfold State.takeTag State.when; dsimp only; split <;> simp [State.setNat]
@[simp] theorem State.takeTag_keys (s : State) (a : Nat) (c : Option Nat) : (s.takeTag a c).keys = s.keys := by unfold State.takeTag State.when; dsimp only; split <;> simp [State.setNat]
@[simp] theorem State.takeTag_fw (s : State) (a : Nat) (c : Option Nat) : (s.takeTag a c).fw = s.fw := by unfold State.takeTag State.when; dsimp only; split <;> simp [State.setNat]
@[simp] theorem State.takeTag_stream (s : State) (a : Nat) (c : Option Nat) : (s.takeTag a c).stream = s.stream := by unfold State.takeTag State.when; dsimp only; split <;> simp [State.setNat]
@[simp] theorem State.takeTag_plant (s : State) (a : Nat) (c : Option Nat) : (s.takeTag a c).plant = s.plant := by unfold State.takeTag State.when; dsimp only; split <;> simp [State.setNat]
@[simp] theorem State.takeTag_mirror (s : State) (a : Nat) (c : Option Nat) : (s.takeTag a c).mirror = s.mirror := by unfold State.takeTag State.when; dsimp only; split <;> simp [State.setNat]
@[simp] theorem State.takeTag_seen (s : State) (a : Nat) (c : Option Nat) : (s.takeTag a c).seen = s.seen := by unfold State.takeTag State.when; dsimp only; split <;> simp [State.setNat]

/-! `dropTag` changes nothing but tx, cells, actSet, digestStale, writes. -/

@[simp] theorem State.dropTag_pending (s : State) (a : Nat) : (s.dropTag a).pending = s.pending := by simp [State.dropTag, State.setNat]
@[simp] theorem State.dropTag_ticks (s : State) (a : Nat) : (s.dropTag a).ticks = s.ticks := by simp [State.dropTag, State.setNat]
@[simp] theorem State.dropTag_sfn (s : State) (a : Nat) : (s.dropTag a).sfn = s.sfn := by simp [State.dropTag, State.setNat]
@[simp] theorem State.dropTag_cycle (s : State) (a : Nat) : (s.dropTag a).cycle = s.cycle := by simp [State.dropTag, State.setNat]
@[simp] theorem State.dropTag_free (s : State) (a : Nat) : (s.dropTag a).free = s.free := by simp [State.dropTag, State.setNat]
@[simp] theorem State.dropTag_shdSet (s : State) (a : Nat) : (s.dropTag a).shdSet = s.shdSet := by simp [State.dropTag, State.setNat]
@[simp] theorem State.dropTag_nvCells (s : State) (a : Nat) : (s.dropTag a).nvCells = s.nvCells := by simp [State.dropTag, State.setNat]
@[simp] theorem State.dropTag_nvSet0 (s : State) (a : Nat) : (s.dropTag a).nvSet0 = s.nvSet0 := by simp [State.dropTag, State.setNat]
@[simp] theorem State.dropTag_nvSet1 (s : State) (a : Nat) : (s.dropTag a).nvSet1 = s.nvSet1 := by simp [State.dropTag, State.setNat]
@[simp] theorem State.dropTag_setPtr (s : State) (a : Nat) : (s.dropTag a).setPtr = s.setPtr := by simp [State.dropTag, State.setNat]
@[simp] theorem State.dropTag_nvPtr (s : State) (a : Nat) : (s.dropTag a).nvPtr = s.nvPtr := by simp [State.dropTag, State.setNat]
@[simp] theorem State.dropTag_out (s : State) (a : Nat) : (s.dropTag a).out = s.out := by simp [State.dropTag, State.setNat]
@[simp] theorem State.dropTag_waiting (s : State) (a : Nat) : (s.dropTag a).waiting = s.waiting := by simp [State.dropTag, State.setNat]
@[simp] theorem State.dropTag_ev (s : State) (a : Nat) : (s.dropTag a).ev = s.ev := by simp [State.dropTag, State.setNat]
@[simp] theorem State.dropTag_swapAsks (s : State) (a : Nat) : (s.dropTag a).swapAsks = s.swapAsks := by simp [State.dropTag, State.setNat]
@[simp] theorem State.dropTag_swapNext (s : State) (a : Nat) : (s.dropTag a).swapNext = s.swapNext := by simp [State.dropTag, State.setNat]
@[simp] theorem State.dropTag_tests (s : State) (a : Nat) : (s.dropTag a).tests = s.tests := by simp [State.dropTag, State.setNat]
@[simp] theorem State.dropTag_running (s : State) (a : Nat) : (s.dropTag a).running = s.running := by simp [State.dropTag, State.setNat]
@[simp] theorem State.dropTag_time (s : State) (a : Nat) : (s.dropTag a).time = s.time := by simp [State.dropTag, State.setNat]
@[simp] theorem State.dropTag_groups (s : State) (a : Nat) : (s.dropTag a).groups = s.groups := by simp [State.dropTag, State.setNat]
@[simp] theorem State.dropTag_die (s : State) (a : Nat) : (s.dropTag a).die = s.die := by simp [State.dropTag, State.setNat]
@[simp] theorem State.dropTag_pw (s : State) (a : Nat) : (s.dropTag a).pw = s.pw := by simp [State.dropTag, State.setNat]
@[simp] theorem State.dropTag_alloc (s : State) (a : Nat) : (s.dropTag a).alloc = s.alloc := by simp [State.dropTag, State.setNat]
@[simp] theorem State.dropTag_bus (s : State) (a : Nat) : (s.dropTag a).bus = s.bus := by simp [State.dropTag, State.setNat]
@[simp] theorem State.dropTag_outlets (s : State) (a : Nat) : (s.dropTag a).outlets = s.outlets := by simp [State.dropTag, State.setNat]
@[simp] theorem State.dropTag_loops (s : State) (a : Nat) : (s.dropTag a).loops = s.loops := by simp [State.dropTag, State.setNat]
@[simp] theorem State.dropTag_cables (s : State) (a : Nat) : (s.dropTag a).cables = s.cables := by simp [State.dropTag, State.setNat]
@[simp] theorem State.dropTag_legs (s : State) (a : Nat) : (s.dropTag a).legs = s.legs := by simp [State.dropTag, State.setNat]
@[simp] theorem State.dropTag_convs (s : State) (a : Nat) : (s.dropTag a).convs = s.convs := by simp [State.dropTag, State.setNat]
@[simp] theorem State.dropTag_points (s : State) (a : Nat) : (s.dropTag a).points = s.points := by simp [State.dropTag, State.setNat]
@[simp] theorem State.dropTag_mons (s : State) (a : Nat) : (s.dropTag a).mons = s.mons := by simp [State.dropTag, State.setNat]
@[simp] theorem State.dropTag_ropes (s : State) (a : Nat) : (s.dropTag a).ropes = s.ropes := by simp [State.dropTag, State.setNat]
@[simp] theorem State.dropTag_radio (s : State) (a : Nat) : (s.dropTag a).radio = s.radio := by simp [State.dropTag, State.setNat]
@[simp] theorem State.dropTag_strs (s : State) (a : Nat) : (s.dropTag a).strs = s.strs := by simp [State.dropTag, State.setNat]
@[simp] theorem State.dropTag_cellSts (s : State) (a : Nat) : (s.dropTag a).cellSts = s.cellSts := by simp [State.dropTag, State.setNat]
@[simp] theorem State.dropTag_ests (s : State) (a : Nat) : (s.dropTag a).ests = s.ests := by simp [State.dropTag, State.setNat]
@[simp] theorem State.dropTag_nvCellSts (s : State) (a : Nat) : (s.dropTag a).nvCellSts = s.nvCellSts := by simp [State.dropTag, State.setNat]
@[simp] theorem State.dropTag_nvEsts (s : State) (a : Nat) : (s.dropTag a).nvEsts = s.nvEsts := by simp [State.dropTag, State.setNat]
@[simp] theorem State.dropTag_meas (s : State) (a : Nat) : (s.dropTag a).meas = s.meas := by simp [State.dropTag, State.setNat]
@[simp] theorem State.dropTag_meters (s : State) (a : Nat) : (s.dropTag a).meters = s.meters := by simp [State.dropTag, State.setNat]
@[simp] theorem State.dropTag_mpoints (s : State) (a : Nat) : (s.dropTag a).mpoints = s.mpoints := by simp [State.dropTag, State.setNat]
@[simp] theorem State.dropTag_overs (s : State) (a : Nat) : (s.dropTag a).overs = s.overs := by simp [State.dropTag, State.setNat]
@[simp] theorem State.dropTag_legal (s : State) (a : Nat) : (s.dropTag a).legal = s.legal := by simp [State.dropTag, State.setNat]
@[simp] theorem State.dropTag_bill (s : State) (a : Nat) : (s.dropTag a).bill = s.bill := by simp [State.dropTag, State.setNat]
@[simp] theorem State.dropTag_lc (s : State) (a : Nat) : (s.dropTag a).lc = s.lc := by simp [State.dropTag, State.setNat]
@[simp] theorem State.dropTag_halfA (s : State) (a : Nat) : (s.dropTag a).halfA = s.halfA := by simp [State.dropTag, State.setNat]
@[simp] theorem State.dropTag_halfB (s : State) (a : Nat) : (s.dropTag a).halfB = s.halfB := by simp [State.dropTag, State.setNat]
@[simp] theorem State.dropTag_eus (s : State) (a : Nat) : (s.dropTag a).eus = s.eus := by simp [State.dropTag, State.setNat]
@[simp] theorem State.dropTag_keys (s : State) (a : Nat) : (s.dropTag a).keys = s.keys := by simp [State.dropTag, State.setNat]
@[simp] theorem State.dropTag_fw (s : State) (a : Nat) : (s.dropTag a).fw = s.fw := by simp [State.dropTag, State.setNat]
@[simp] theorem State.dropTag_stream (s : State) (a : Nat) : (s.dropTag a).stream = s.stream := by simp [State.dropTag, State.setNat]
@[simp] theorem State.dropTag_plant (s : State) (a : Nat) : (s.dropTag a).plant = s.plant := by simp [State.dropTag, State.setNat]
@[simp] theorem State.dropTag_mirror (s : State) (a : Nat) : (s.dropTag a).mirror = s.mirror := by simp [State.dropTag, State.setNat]
@[simp] theorem State.dropTag_seen (s : State) (a : Nat) : (s.dropTag a).seen = s.seen := by simp [State.dropTag, State.setNat]

/-! `answerLater` changes nothing but tx, waiting. -/

@[simp] theorem State.answerLater_pending (s : State) (h : Held) (a : Nat) (b : List Byte) : (s.answerLater h a b).pending = s.pending := by simp [State.answerLater]
@[simp] theorem State.answerLater_ticks (s : State) (h : Held) (a : Nat) (b : List Byte) : (s.answerLater h a b).ticks = s.ticks := by simp [State.answerLater]
@[simp] theorem State.answerLater_sfn (s : State) (h : Held) (a : Nat) (b : List Byte) : (s.answerLater h a b).sfn = s.sfn := by simp [State.answerLater]
@[simp] theorem State.answerLater_cycle (s : State) (h : Held) (a : Nat) (b : List Byte) : (s.answerLater h a b).cycle = s.cycle := by simp [State.answerLater]
@[simp] theorem State.answerLater_free (s : State) (h : Held) (a : Nat) (b : List Byte) : (s.answerLater h a b).free = s.free := by simp [State.answerLater]
@[simp] theorem State.answerLater_cells (s : State) (h : Held) (a : Nat) (b : List Byte) : (s.answerLater h a b).cells = s.cells := by simp [State.answerLater]
@[simp] theorem State.answerLater_actSet (s : State) (h : Held) (a : Nat) (b : List Byte) : (s.answerLater h a b).actSet = s.actSet := by simp [State.answerLater]
@[simp] theorem State.answerLater_shdSet (s : State) (h : Held) (a : Nat) (b : List Byte) : (s.answerLater h a b).shdSet = s.shdSet := by simp [State.answerLater]
@[simp] theorem State.answerLater_digestStale (s : State) (h : Held) (a : Nat) (b : List Byte) : (s.answerLater h a b).digestStale = s.digestStale := by simp [State.answerLater]
@[simp] theorem State.answerLater_nvCells (s : State) (h : Held) (a : Nat) (b : List Byte) : (s.answerLater h a b).nvCells = s.nvCells := by simp [State.answerLater]
@[simp] theorem State.answerLater_nvSet0 (s : State) (h : Held) (a : Nat) (b : List Byte) : (s.answerLater h a b).nvSet0 = s.nvSet0 := by simp [State.answerLater]
@[simp] theorem State.answerLater_nvSet1 (s : State) (h : Held) (a : Nat) (b : List Byte) : (s.answerLater h a b).nvSet1 = s.nvSet1 := by simp [State.answerLater]
@[simp] theorem State.answerLater_setPtr (s : State) (h : Held) (a : Nat) (b : List Byte) : (s.answerLater h a b).setPtr = s.setPtr := by simp [State.answerLater]
@[simp] theorem State.answerLater_nvPtr (s : State) (h : Held) (a : Nat) (b : List Byte) : (s.answerLater h a b).nvPtr = s.nvPtr := by simp [State.answerLater]
@[simp] theorem State.answerLater_writes (s : State) (h : Held) (a : Nat) (b : List Byte) : (s.answerLater h a b).writes = s.writes := by simp [State.answerLater]
@[simp] theorem State.answerLater_out (s : State) (h : Held) (a : Nat) (b : List Byte) : (s.answerLater h a b).out = s.out := by simp [State.answerLater]
@[simp] theorem State.answerLater_ev (s : State) (h : Held) (a : Nat) (b : List Byte) : (s.answerLater h a b).ev = s.ev := by simp [State.answerLater]
@[simp] theorem State.answerLater_swapAsks (s : State) (h : Held) (a : Nat) (b : List Byte) : (s.answerLater h a b).swapAsks = s.swapAsks := by simp [State.answerLater]
@[simp] theorem State.answerLater_swapNext (s : State) (h : Held) (a : Nat) (b : List Byte) : (s.answerLater h a b).swapNext = s.swapNext := by simp [State.answerLater]
@[simp] theorem State.answerLater_tests (s : State) (h : Held) (a : Nat) (b : List Byte) : (s.answerLater h a b).tests = s.tests := by simp [State.answerLater]
@[simp] theorem State.answerLater_running (s : State) (h : Held) (a : Nat) (b : List Byte) : (s.answerLater h a b).running = s.running := by simp [State.answerLater]
@[simp] theorem State.answerLater_time (s : State) (h : Held) (a : Nat) (b : List Byte) : (s.answerLater h a b).time = s.time := by simp [State.answerLater]
@[simp] theorem State.answerLater_groups (s : State) (h : Held) (a : Nat) (b : List Byte) : (s.answerLater h a b).groups = s.groups := by simp [State.answerLater]
@[simp] theorem State.answerLater_die (s : State) (h : Held) (a : Nat) (b : List Byte) : (s.answerLater h a b).die = s.die := by simp [State.answerLater]
@[simp] theorem State.answerLater_pw (s : State) (h : Held) (a : Nat) (b : List Byte) : (s.answerLater h a b).pw = s.pw := by simp [State.answerLater]
@[simp] theorem State.answerLater_alloc (s : State) (h : Held) (a : Nat) (b : List Byte) : (s.answerLater h a b).alloc = s.alloc := by simp [State.answerLater]
@[simp] theorem State.answerLater_bus (s : State) (h : Held) (a : Nat) (b : List Byte) : (s.answerLater h a b).bus = s.bus := by simp [State.answerLater]
@[simp] theorem State.answerLater_outlets (s : State) (h : Held) (a : Nat) (b : List Byte) : (s.answerLater h a b).outlets = s.outlets := by simp [State.answerLater]
@[simp] theorem State.answerLater_loops (s : State) (h : Held) (a : Nat) (b : List Byte) : (s.answerLater h a b).loops = s.loops := by simp [State.answerLater]
@[simp] theorem State.answerLater_cables (s : State) (h : Held) (a : Nat) (b : List Byte) : (s.answerLater h a b).cables = s.cables := by simp [State.answerLater]
@[simp] theorem State.answerLater_legs (s : State) (h : Held) (a : Nat) (b : List Byte) : (s.answerLater h a b).legs = s.legs := by simp [State.answerLater]
@[simp] theorem State.answerLater_convs (s : State) (h : Held) (a : Nat) (b : List Byte) : (s.answerLater h a b).convs = s.convs := by simp [State.answerLater]
@[simp] theorem State.answerLater_points (s : State) (h : Held) (a : Nat) (b : List Byte) : (s.answerLater h a b).points = s.points := by simp [State.answerLater]
@[simp] theorem State.answerLater_mons (s : State) (h : Held) (a : Nat) (b : List Byte) : (s.answerLater h a b).mons = s.mons := by simp [State.answerLater]
@[simp] theorem State.answerLater_ropes (s : State) (h : Held) (a : Nat) (b : List Byte) : (s.answerLater h a b).ropes = s.ropes := by simp [State.answerLater]
@[simp] theorem State.answerLater_radio (s : State) (h : Held) (a : Nat) (b : List Byte) : (s.answerLater h a b).radio = s.radio := by simp [State.answerLater]
@[simp] theorem State.answerLater_strs (s : State) (h : Held) (a : Nat) (b : List Byte) : (s.answerLater h a b).strs = s.strs := by simp [State.answerLater]
@[simp] theorem State.answerLater_cellSts (s : State) (h : Held) (a : Nat) (b : List Byte) : (s.answerLater h a b).cellSts = s.cellSts := by simp [State.answerLater]
@[simp] theorem State.answerLater_ests (s : State) (h : Held) (a : Nat) (b : List Byte) : (s.answerLater h a b).ests = s.ests := by simp [State.answerLater]
@[simp] theorem State.answerLater_nvCellSts (s : State) (h : Held) (a : Nat) (b : List Byte) : (s.answerLater h a b).nvCellSts = s.nvCellSts := by simp [State.answerLater]
@[simp] theorem State.answerLater_nvEsts (s : State) (h : Held) (a : Nat) (b : List Byte) : (s.answerLater h a b).nvEsts = s.nvEsts := by simp [State.answerLater]
@[simp] theorem State.answerLater_meas (s : State) (h : Held) (a : Nat) (b : List Byte) : (s.answerLater h a b).meas = s.meas := by simp [State.answerLater]
@[simp] theorem State.answerLater_meters (s : State) (h : Held) (a : Nat) (b : List Byte) : (s.answerLater h a b).meters = s.meters := by simp [State.answerLater]
@[simp] theorem State.answerLater_mpoints (s : State) (h : Held) (a : Nat) (b : List Byte) : (s.answerLater h a b).mpoints = s.mpoints := by simp [State.answerLater]
@[simp] theorem State.answerLater_overs (s : State) (h : Held) (a : Nat) (b : List Byte) : (s.answerLater h a b).overs = s.overs := by simp [State.answerLater]
@[simp] theorem State.answerLater_legal (s : State) (h : Held) (a : Nat) (b : List Byte) : (s.answerLater h a b).legal = s.legal := by simp [State.answerLater]
@[simp] theorem State.answerLater_bill (s : State) (h : Held) (a : Nat) (b : List Byte) : (s.answerLater h a b).bill = s.bill := by simp [State.answerLater]
@[simp] theorem State.answerLater_lc (s : State) (h : Held) (a : Nat) (b : List Byte) : (s.answerLater h a b).lc = s.lc := by simp [State.answerLater]
@[simp] theorem State.answerLater_halfA (s : State) (h : Held) (a : Nat) (b : List Byte) : (s.answerLater h a b).halfA = s.halfA := by simp [State.answerLater]
@[simp] theorem State.answerLater_halfB (s : State) (h : Held) (a : Nat) (b : List Byte) : (s.answerLater h a b).halfB = s.halfB := by simp [State.answerLater]
@[simp] theorem State.answerLater_eus (s : State) (h : Held) (a : Nat) (b : List Byte) : (s.answerLater h a b).eus = s.eus := by simp [State.answerLater]
@[simp] theorem State.answerLater_keys (s : State) (h : Held) (a : Nat) (b : List Byte) : (s.answerLater h a b).keys = s.keys := by simp [State.answerLater]
@[simp] theorem State.answerLater_fw (s : State) (h : Held) (a : Nat) (b : List Byte) : (s.answerLater h a b).fw = s.fw := by simp [State.answerLater]
@[simp] theorem State.answerLater_stream (s : State) (h : Held) (a : Nat) (b : List Byte) : (s.answerLater h a b).stream = s.stream := by simp [State.answerLater]
@[simp] theorem State.answerLater_plant (s : State) (h : Held) (a : Nat) (b : List Byte) : (s.answerLater h a b).plant = s.plant := by simp [State.answerLater]
@[simp] theorem State.answerLater_mirror (s : State) (h : Held) (a : Nat) (b : List Byte) : (s.answerLater h a b).mirror = s.mirror := by simp [State.answerLater]
@[simp] theorem State.answerLater_seen (s : State) (h : Held) (a : Nat) (b : List Byte) : (s.answerLater h a b).seen = s.seen := by simp [State.answerLater]

/-! `refuse` changes nothing but tx, out, cells, actSet, digestStale, writes. -/

@[simp] theorem State.refuse_pending (s : State) (h : Held) (a : Nat) (b : List Byte) : (s.refuse h a b).pending = s.pending := by simp [State.refuse]
@[simp] theorem State.refuse_ticks (s : State) (h : Held) (a : Nat) (b : List Byte) : (s.refuse h a b).ticks = s.ticks := by simp [State.refuse]
@[simp] theorem State.refuse_sfn (s : State) (h : Held) (a : Nat) (b : List Byte) : (s.refuse h a b).sfn = s.sfn := by simp [State.refuse]
@[simp] theorem State.refuse_cycle (s : State) (h : Held) (a : Nat) (b : List Byte) : (s.refuse h a b).cycle = s.cycle := by simp [State.refuse]
@[simp] theorem State.refuse_free (s : State) (h : Held) (a : Nat) (b : List Byte) : (s.refuse h a b).free = s.free := by simp [State.refuse]
@[simp] theorem State.refuse_shdSet (s : State) (h : Held) (a : Nat) (b : List Byte) : (s.refuse h a b).shdSet = s.shdSet := by simp [State.refuse]
@[simp] theorem State.refuse_nvCells (s : State) (h : Held) (a : Nat) (b : List Byte) : (s.refuse h a b).nvCells = s.nvCells := by simp [State.refuse]
@[simp] theorem State.refuse_nvSet0 (s : State) (h : Held) (a : Nat) (b : List Byte) : (s.refuse h a b).nvSet0 = s.nvSet0 := by simp [State.refuse]
@[simp] theorem State.refuse_nvSet1 (s : State) (h : Held) (a : Nat) (b : List Byte) : (s.refuse h a b).nvSet1 = s.nvSet1 := by simp [State.refuse]
@[simp] theorem State.refuse_setPtr (s : State) (h : Held) (a : Nat) (b : List Byte) : (s.refuse h a b).setPtr = s.setPtr := by simp [State.refuse]
@[simp] theorem State.refuse_nvPtr (s : State) (h : Held) (a : Nat) (b : List Byte) : (s.refuse h a b).nvPtr = s.nvPtr := by simp [State.refuse]
@[simp] theorem State.refuse_waiting (s : State) (h : Held) (a : Nat) (b : List Byte) : (s.refuse h a b).waiting = s.waiting := by simp [State.refuse]
@[simp] theorem State.refuse_ev (s : State) (h : Held) (a : Nat) (b : List Byte) : (s.refuse h a b).ev = s.ev := by simp [State.refuse]
@[simp] theorem State.refuse_swapAsks (s : State) (h : Held) (a : Nat) (b : List Byte) : (s.refuse h a b).swapAsks = s.swapAsks := by simp [State.refuse]
@[simp] theorem State.refuse_swapNext (s : State) (h : Held) (a : Nat) (b : List Byte) : (s.refuse h a b).swapNext = s.swapNext := by simp [State.refuse]
@[simp] theorem State.refuse_tests (s : State) (h : Held) (a : Nat) (b : List Byte) : (s.refuse h a b).tests = s.tests := by simp [State.refuse]
@[simp] theorem State.refuse_running (s : State) (h : Held) (a : Nat) (b : List Byte) : (s.refuse h a b).running = s.running := by simp [State.refuse]
@[simp] theorem State.refuse_time (s : State) (h : Held) (a : Nat) (b : List Byte) : (s.refuse h a b).time = s.time := by simp [State.refuse]
@[simp] theorem State.refuse_groups (s : State) (h : Held) (a : Nat) (b : List Byte) : (s.refuse h a b).groups = s.groups := by simp [State.refuse]
@[simp] theorem State.refuse_die (s : State) (h : Held) (a : Nat) (b : List Byte) : (s.refuse h a b).die = s.die := by simp [State.refuse]
@[simp] theorem State.refuse_pw (s : State) (h : Held) (a : Nat) (b : List Byte) : (s.refuse h a b).pw = s.pw := by simp [State.refuse]
@[simp] theorem State.refuse_alloc (s : State) (h : Held) (a : Nat) (b : List Byte) : (s.refuse h a b).alloc = s.alloc := by simp [State.refuse]
@[simp] theorem State.refuse_bus (s : State) (h : Held) (a : Nat) (b : List Byte) : (s.refuse h a b).bus = s.bus := by simp [State.refuse]
@[simp] theorem State.refuse_outlets (s : State) (h : Held) (a : Nat) (b : List Byte) : (s.refuse h a b).outlets = s.outlets := by simp [State.refuse]
@[simp] theorem State.refuse_loops (s : State) (h : Held) (a : Nat) (b : List Byte) : (s.refuse h a b).loops = s.loops := by simp [State.refuse]
@[simp] theorem State.refuse_cables (s : State) (h : Held) (a : Nat) (b : List Byte) : (s.refuse h a b).cables = s.cables := by simp [State.refuse]
@[simp] theorem State.refuse_legs (s : State) (h : Held) (a : Nat) (b : List Byte) : (s.refuse h a b).legs = s.legs := by simp [State.refuse]
@[simp] theorem State.refuse_convs (s : State) (h : Held) (a : Nat) (b : List Byte) : (s.refuse h a b).convs = s.convs := by simp [State.refuse]
@[simp] theorem State.refuse_points (s : State) (h : Held) (a : Nat) (b : List Byte) : (s.refuse h a b).points = s.points := by simp [State.refuse]
@[simp] theorem State.refuse_mons (s : State) (h : Held) (a : Nat) (b : List Byte) : (s.refuse h a b).mons = s.mons := by simp [State.refuse]
@[simp] theorem State.refuse_ropes (s : State) (h : Held) (a : Nat) (b : List Byte) : (s.refuse h a b).ropes = s.ropes := by simp [State.refuse]
@[simp] theorem State.refuse_radio (s : State) (h : Held) (a : Nat) (b : List Byte) : (s.refuse h a b).radio = s.radio := by simp [State.refuse]
@[simp] theorem State.refuse_strs (s : State) (h : Held) (a : Nat) (b : List Byte) : (s.refuse h a b).strs = s.strs := by simp [State.refuse]
@[simp] theorem State.refuse_cellSts (s : State) (h : Held) (a : Nat) (b : List Byte) : (s.refuse h a b).cellSts = s.cellSts := by simp [State.refuse]
@[simp] theorem State.refuse_ests (s : State) (h : Held) (a : Nat) (b : List Byte) : (s.refuse h a b).ests = s.ests := by simp [State.refuse]
@[simp] theorem State.refuse_nvCellSts (s : State) (h : Held) (a : Nat) (b : List Byte) : (s.refuse h a b).nvCellSts = s.nvCellSts := by simp [State.refuse]
@[simp] theorem State.refuse_nvEsts (s : State) (h : Held) (a : Nat) (b : List Byte) : (s.refuse h a b).nvEsts = s.nvEsts := by simp [State.refuse]
@[simp] theorem State.refuse_meas (s : State) (h : Held) (a : Nat) (b : List Byte) : (s.refuse h a b).meas = s.meas := by simp [State.refuse]
@[simp] theorem State.refuse_meters (s : State) (h : Held) (a : Nat) (b : List Byte) : (s.refuse h a b).meters = s.meters := by simp [State.refuse]
@[simp] theorem State.refuse_mpoints (s : State) (h : Held) (a : Nat) (b : List Byte) : (s.refuse h a b).mpoints = s.mpoints := by simp [State.refuse]
@[simp] theorem State.refuse_overs (s : State) (h : Held) (a : Nat) (b : List Byte) : (s.refuse h a b).overs = s.overs := by simp [State.refuse]
@[simp] theorem State.refuse_legal (s : State) (h : Held) (a : Nat) (b : List Byte) : (s.refuse h a b).legal = s.legal := by simp [State.refuse]
@[simp] theorem State.refuse_bill (s : State) (h : Held) (a : Nat) (b : List Byte) : (s.refuse h a b).bill = s.bill := by simp [State.refuse]
@[simp] theorem State.refuse_lc (s : State) (h : Held) (a : Nat) (b : List Byte) : (s.refuse h a b).lc = s.lc := by simp [State.refuse]
@[simp] theorem State.refuse_halfA (s : State) (h : Held) (a : Nat) (b : List Byte) : (s.refuse h a b).halfA = s.halfA := by simp [State.refuse]
@[simp] theorem State.refuse_halfB (s : State) (h : Held) (a : Nat) (b : List Byte) : (s.refuse h a b).halfB = s.halfB := by simp [State.refuse]
@[simp] theorem State.refuse_eus (s : State) (h : Held) (a : Nat) (b : List Byte) : (s.refuse h a b).eus = s.eus := by simp [State.refuse]
@[simp] theorem State.refuse_keys (s : State) (h : Held) (a : Nat) (b : List Byte) : (s.refuse h a b).keys = s.keys := by simp [State.refuse]
@[simp] theorem State.refuse_fw (s : State) (h : Held) (a : Nat) (b : List Byte) : (s.refuse h a b).fw = s.fw := by simp [State.refuse]
@[simp] theorem State.refuse_stream (s : State) (h : Held) (a : Nat) (b : List Byte) : (s.refuse h a b).stream = s.stream := by simp [State.refuse]
@[simp] theorem State.refuse_plant (s : State) (h : Held) (a : Nat) (b : List Byte) : (s.refuse h a b).plant = s.plant := by simp [State.refuse]
@[simp] theorem State.refuse_mirror (s : State) (h : Held) (a : Nat) (b : List Byte) : (s.refuse h a b).mirror = s.mirror := by simp [State.refuse]
@[simp] theorem State.refuse_seen (s : State) (h : Held) (a : Nat) (b : List Byte) : (s.refuse h a b).seen = s.seen := by simp [State.refuse]
/-! `noteApplied` and `noteIn` change nothing but mirror. -/

@[simp] theorem State.noteApplied_pending (s : State) (h : Held) : (s.noteApplied h).pending = s.pending := rfl
@[simp] theorem State.noteApplied_ticks (s : State) (h : Held) : (s.noteApplied h).ticks = s.ticks := rfl
@[simp] theorem State.noteApplied_sfn (s : State) (h : Held) : (s.noteApplied h).sfn = s.sfn := rfl
@[simp] theorem State.noteApplied_cycle (s : State) (h : Held) : (s.noteApplied h).cycle = s.cycle := rfl
@[simp] theorem State.noteApplied_free (s : State) (h : Held) : (s.noteApplied h).free = s.free := rfl
@[simp] theorem State.noteApplied_cells (s : State) (h : Held) : (s.noteApplied h).cells = s.cells := rfl
@[simp] theorem State.noteApplied_actSet (s : State) (h : Held) : (s.noteApplied h).actSet = s.actSet := rfl
@[simp] theorem State.noteApplied_shdSet (s : State) (h : Held) : (s.noteApplied h).shdSet = s.shdSet := rfl
@[simp] theorem State.noteApplied_digestStale (s : State) (h : Held) : (s.noteApplied h).digestStale = s.digestStale := rfl
@[simp] theorem State.noteApplied_nvCells (s : State) (h : Held) : (s.noteApplied h).nvCells = s.nvCells := rfl
@[simp] theorem State.noteApplied_nvSet0 (s : State) (h : Held) : (s.noteApplied h).nvSet0 = s.nvSet0 := rfl
@[simp] theorem State.noteApplied_nvSet1 (s : State) (h : Held) : (s.noteApplied h).nvSet1 = s.nvSet1 := rfl
@[simp] theorem State.noteApplied_setPtr (s : State) (h : Held) : (s.noteApplied h).setPtr = s.setPtr := rfl
@[simp] theorem State.noteApplied_nvPtr (s : State) (h : Held) : (s.noteApplied h).nvPtr = s.nvPtr := rfl
@[simp] theorem State.noteApplied_writes (s : State) (h : Held) : (s.noteApplied h).writes = s.writes := rfl
@[simp] theorem State.noteApplied_out (s : State) (h : Held) : (s.noteApplied h).out = s.out := rfl
@[simp] theorem State.noteApplied_waiting (s : State) (h : Held) : (s.noteApplied h).waiting = s.waiting := rfl
@[simp] theorem State.noteApplied_ev (s : State) (h : Held) : (s.noteApplied h).ev = s.ev := rfl
@[simp] theorem State.noteApplied_tx (s : State) (h : Held) : (s.noteApplied h).tx = s.tx := rfl
@[simp] theorem State.noteApplied_swapAsks (s : State) (h : Held) : (s.noteApplied h).swapAsks = s.swapAsks := rfl
@[simp] theorem State.noteApplied_swapNext (s : State) (h : Held) : (s.noteApplied h).swapNext = s.swapNext := rfl
@[simp] theorem State.noteApplied_tests (s : State) (h : Held) : (s.noteApplied h).tests = s.tests := rfl
@[simp] theorem State.noteApplied_running (s : State) (h : Held) : (s.noteApplied h).running = s.running := rfl
@[simp] theorem State.noteApplied_time (s : State) (h : Held) : (s.noteApplied h).time = s.time := rfl
@[simp] theorem State.noteApplied_groups (s : State) (h : Held) : (s.noteApplied h).groups = s.groups := rfl
@[simp] theorem State.noteApplied_die (s : State) (h : Held) : (s.noteApplied h).die = s.die := rfl
@[simp] theorem State.noteApplied_pw (s : State) (h : Held) : (s.noteApplied h).pw = s.pw := rfl
@[simp] theorem State.noteApplied_alloc (s : State) (h : Held) : (s.noteApplied h).alloc = s.alloc := rfl
@[simp] theorem State.noteApplied_bus (s : State) (h : Held) : (s.noteApplied h).bus = s.bus := rfl
@[simp] theorem State.noteApplied_outlets (s : State) (h : Held) : (s.noteApplied h).outlets = s.outlets := rfl
@[simp] theorem State.noteApplied_loops (s : State) (h : Held) : (s.noteApplied h).loops = s.loops := rfl
@[simp] theorem State.noteApplied_cables (s : State) (h : Held) : (s.noteApplied h).cables = s.cables := rfl
@[simp] theorem State.noteApplied_legs (s : State) (h : Held) : (s.noteApplied h).legs = s.legs := rfl
@[simp] theorem State.noteApplied_convs (s : State) (h : Held) : (s.noteApplied h).convs = s.convs := rfl
@[simp] theorem State.noteApplied_points (s : State) (h : Held) : (s.noteApplied h).points = s.points := rfl
@[simp] theorem State.noteApplied_mons (s : State) (h : Held) : (s.noteApplied h).mons = s.mons := rfl
@[simp] theorem State.noteApplied_ropes (s : State) (h : Held) : (s.noteApplied h).ropes = s.ropes := rfl
@[simp] theorem State.noteApplied_radio (s : State) (h : Held) : (s.noteApplied h).radio = s.radio := rfl
@[simp] theorem State.noteApplied_strs (s : State) (h : Held) : (s.noteApplied h).strs = s.strs := rfl
@[simp] theorem State.noteApplied_cellSts (s : State) (h : Held) : (s.noteApplied h).cellSts = s.cellSts := rfl
@[simp] theorem State.noteApplied_ests (s : State) (h : Held) : (s.noteApplied h).ests = s.ests := rfl
@[simp] theorem State.noteApplied_nvCellSts (s : State) (h : Held) : (s.noteApplied h).nvCellSts = s.nvCellSts := rfl
@[simp] theorem State.noteApplied_nvEsts (s : State) (h : Held) : (s.noteApplied h).nvEsts = s.nvEsts := rfl
@[simp] theorem State.noteApplied_meas (s : State) (h : Held) : (s.noteApplied h).meas = s.meas := rfl
@[simp] theorem State.noteApplied_meters (s : State) (h : Held) : (s.noteApplied h).meters = s.meters := rfl
@[simp] theorem State.noteApplied_mpoints (s : State) (h : Held) : (s.noteApplied h).mpoints = s.mpoints := rfl
@[simp] theorem State.noteApplied_overs (s : State) (h : Held) : (s.noteApplied h).overs = s.overs := rfl
@[simp] theorem State.noteApplied_legal (s : State) (h : Held) : (s.noteApplied h).legal = s.legal := rfl
@[simp] theorem State.noteApplied_bill (s : State) (h : Held) : (s.noteApplied h).bill = s.bill := rfl
@[simp] theorem State.noteApplied_lc (s : State) (h : Held) : (s.noteApplied h).lc = s.lc := rfl
@[simp] theorem State.noteApplied_halfA (s : State) (h : Held) : (s.noteApplied h).halfA = s.halfA := rfl
@[simp] theorem State.noteApplied_halfB (s : State) (h : Held) : (s.noteApplied h).halfB = s.halfB := rfl
@[simp] theorem State.noteApplied_eus (s : State) (h : Held) : (s.noteApplied h).eus = s.eus := rfl
@[simp] theorem State.noteApplied_keys (s : State) (h : Held) : (s.noteApplied h).keys = s.keys := rfl
@[simp] theorem State.noteApplied_fw (s : State) (h : Held) : (s.noteApplied h).fw = s.fw := rfl
@[simp] theorem State.noteApplied_stream (s : State) (h : Held) : (s.noteApplied h).stream = s.stream := rfl
@[simp] theorem State.noteApplied_plant (s : State) (h : Held) : (s.noteApplied h).plant = s.plant := rfl
@[simp] theorem State.noteApplied_seen (s : State) (h : Held) : (s.noteApplied h).seen = s.seen := rfl
@[simp] theorem State.noteIn_pending (s : State) (i : Instr) : (s.noteIn i).pending = s.pending := by unfold State.noteIn; split <;> rfl
@[simp] theorem State.noteIn_ticks (s : State) (i : Instr) : (s.noteIn i).ticks = s.ticks := by unfold State.noteIn; split <;> rfl
@[simp] theorem State.noteIn_sfn (s : State) (i : Instr) : (s.noteIn i).sfn = s.sfn := by unfold State.noteIn; split <;> rfl
@[simp] theorem State.noteIn_cycle (s : State) (i : Instr) : (s.noteIn i).cycle = s.cycle := by unfold State.noteIn; split <;> rfl
@[simp] theorem State.noteIn_free (s : State) (i : Instr) : (s.noteIn i).free = s.free := by unfold State.noteIn; split <;> rfl
@[simp] theorem State.noteIn_cells (s : State) (i : Instr) : (s.noteIn i).cells = s.cells := by unfold State.noteIn; split <;> rfl
@[simp] theorem State.noteIn_actSet (s : State) (i : Instr) : (s.noteIn i).actSet = s.actSet := by unfold State.noteIn; split <;> rfl
@[simp] theorem State.noteIn_shdSet (s : State) (i : Instr) : (s.noteIn i).shdSet = s.shdSet := by unfold State.noteIn; split <;> rfl
@[simp] theorem State.noteIn_digestStale (s : State) (i : Instr) : (s.noteIn i).digestStale = s.digestStale := by unfold State.noteIn; split <;> rfl
@[simp] theorem State.noteIn_nvCells (s : State) (i : Instr) : (s.noteIn i).nvCells = s.nvCells := by unfold State.noteIn; split <;> rfl
@[simp] theorem State.noteIn_nvSet0 (s : State) (i : Instr) : (s.noteIn i).nvSet0 = s.nvSet0 := by unfold State.noteIn; split <;> rfl
@[simp] theorem State.noteIn_nvSet1 (s : State) (i : Instr) : (s.noteIn i).nvSet1 = s.nvSet1 := by unfold State.noteIn; split <;> rfl
@[simp] theorem State.noteIn_setPtr (s : State) (i : Instr) : (s.noteIn i).setPtr = s.setPtr := by unfold State.noteIn; split <;> rfl
@[simp] theorem State.noteIn_nvPtr (s : State) (i : Instr) : (s.noteIn i).nvPtr = s.nvPtr := by unfold State.noteIn; split <;> rfl
@[simp] theorem State.noteIn_writes (s : State) (i : Instr) : (s.noteIn i).writes = s.writes := by unfold State.noteIn; split <;> rfl
@[simp] theorem State.noteIn_out (s : State) (i : Instr) : (s.noteIn i).out = s.out := by unfold State.noteIn; split <;> rfl
@[simp] theorem State.noteIn_waiting (s : State) (i : Instr) : (s.noteIn i).waiting = s.waiting := by unfold State.noteIn; split <;> rfl
@[simp] theorem State.noteIn_ev (s : State) (i : Instr) : (s.noteIn i).ev = s.ev := by unfold State.noteIn; split <;> rfl
@[simp] theorem State.noteIn_tx (s : State) (i : Instr) : (s.noteIn i).tx = s.tx := by unfold State.noteIn; split <;> rfl
@[simp] theorem State.noteIn_swapAsks (s : State) (i : Instr) : (s.noteIn i).swapAsks = s.swapAsks := by unfold State.noteIn; split <;> rfl
@[simp] theorem State.noteIn_swapNext (s : State) (i : Instr) : (s.noteIn i).swapNext = s.swapNext := by unfold State.noteIn; split <;> rfl
@[simp] theorem State.noteIn_tests (s : State) (i : Instr) : (s.noteIn i).tests = s.tests := by unfold State.noteIn; split <;> rfl
@[simp] theorem State.noteIn_running (s : State) (i : Instr) : (s.noteIn i).running = s.running := by unfold State.noteIn; split <;> rfl
@[simp] theorem State.noteIn_time (s : State) (i : Instr) : (s.noteIn i).time = s.time := by unfold State.noteIn; split <;> rfl
@[simp] theorem State.noteIn_groups (s : State) (i : Instr) : (s.noteIn i).groups = s.groups := by unfold State.noteIn; split <;> rfl
@[simp] theorem State.noteIn_die (s : State) (i : Instr) : (s.noteIn i).die = s.die := by unfold State.noteIn; split <;> rfl
@[simp] theorem State.noteIn_pw (s : State) (i : Instr) : (s.noteIn i).pw = s.pw := by unfold State.noteIn; split <;> rfl
@[simp] theorem State.noteIn_alloc (s : State) (i : Instr) : (s.noteIn i).alloc = s.alloc := by unfold State.noteIn; split <;> rfl
@[simp] theorem State.noteIn_bus (s : State) (i : Instr) : (s.noteIn i).bus = s.bus := by unfold State.noteIn; split <;> rfl
@[simp] theorem State.noteIn_outlets (s : State) (i : Instr) : (s.noteIn i).outlets = s.outlets := by unfold State.noteIn; split <;> rfl
@[simp] theorem State.noteIn_loops (s : State) (i : Instr) : (s.noteIn i).loops = s.loops := by unfold State.noteIn; split <;> rfl
@[simp] theorem State.noteIn_cables (s : State) (i : Instr) : (s.noteIn i).cables = s.cables := by unfold State.noteIn; split <;> rfl
@[simp] theorem State.noteIn_legs (s : State) (i : Instr) : (s.noteIn i).legs = s.legs := by unfold State.noteIn; split <;> rfl
@[simp] theorem State.noteIn_convs (s : State) (i : Instr) : (s.noteIn i).convs = s.convs := by unfold State.noteIn; split <;> rfl
@[simp] theorem State.noteIn_points (s : State) (i : Instr) : (s.noteIn i).points = s.points := by unfold State.noteIn; split <;> rfl
@[simp] theorem State.noteIn_mons (s : State) (i : Instr) : (s.noteIn i).mons = s.mons := by unfold State.noteIn; split <;> rfl
@[simp] theorem State.noteIn_ropes (s : State) (i : Instr) : (s.noteIn i).ropes = s.ropes := by unfold State.noteIn; split <;> rfl
@[simp] theorem State.noteIn_radio (s : State) (i : Instr) : (s.noteIn i).radio = s.radio := by unfold State.noteIn; split <;> rfl
@[simp] theorem State.noteIn_strs (s : State) (i : Instr) : (s.noteIn i).strs = s.strs := by unfold State.noteIn; split <;> rfl
@[simp] theorem State.noteIn_cellSts (s : State) (i : Instr) : (s.noteIn i).cellSts = s.cellSts := by unfold State.noteIn; split <;> rfl
@[simp] theorem State.noteIn_ests (s : State) (i : Instr) : (s.noteIn i).ests = s.ests := by unfold State.noteIn; split <;> rfl
@[simp] theorem State.noteIn_nvCellSts (s : State) (i : Instr) : (s.noteIn i).nvCellSts = s.nvCellSts := by unfold State.noteIn; split <;> rfl
@[simp] theorem State.noteIn_nvEsts (s : State) (i : Instr) : (s.noteIn i).nvEsts = s.nvEsts := by unfold State.noteIn; split <;> rfl
@[simp] theorem State.noteIn_meas (s : State) (i : Instr) : (s.noteIn i).meas = s.meas := by unfold State.noteIn; split <;> rfl
@[simp] theorem State.noteIn_meters (s : State) (i : Instr) : (s.noteIn i).meters = s.meters := by unfold State.noteIn; split <;> rfl
@[simp] theorem State.noteIn_mpoints (s : State) (i : Instr) : (s.noteIn i).mpoints = s.mpoints := by unfold State.noteIn; split <;> rfl
@[simp] theorem State.noteIn_overs (s : State) (i : Instr) : (s.noteIn i).overs = s.overs := by unfold State.noteIn; split <;> rfl
@[simp] theorem State.noteIn_legal (s : State) (i : Instr) : (s.noteIn i).legal = s.legal := by unfold State.noteIn; split <;> rfl
@[simp] theorem State.noteIn_bill (s : State) (i : Instr) : (s.noteIn i).bill = s.bill := by unfold State.noteIn; split <;> rfl
@[simp] theorem State.noteIn_lc (s : State) (i : Instr) : (s.noteIn i).lc = s.lc := by unfold State.noteIn; split <;> rfl
@[simp] theorem State.noteIn_halfA (s : State) (i : Instr) : (s.noteIn i).halfA = s.halfA := by unfold State.noteIn; split <;> rfl
@[simp] theorem State.noteIn_halfB (s : State) (i : Instr) : (s.noteIn i).halfB = s.halfB := by unfold State.noteIn; split <;> rfl
@[simp] theorem State.noteIn_eus (s : State) (i : Instr) : (s.noteIn i).eus = s.eus := by unfold State.noteIn; split <;> rfl
@[simp] theorem State.noteIn_keys (s : State) (i : Instr) : (s.noteIn i).keys = s.keys := by unfold State.noteIn; split <;> rfl
@[simp] theorem State.noteIn_fw (s : State) (i : Instr) : (s.noteIn i).fw = s.fw := by unfold State.noteIn; split <;> rfl
@[simp] theorem State.noteIn_stream (s : State) (i : Instr) : (s.noteIn i).stream = s.stream := by unfold State.noteIn; split <;> rfl
@[simp] theorem State.noteIn_plant (s : State) (i : Instr) : (s.noteIn i).plant = s.plant := by unfold State.noteIn; split <;> rfl
@[simp] theorem State.noteIn_seen (s : State) (i : Instr) : (s.noteIn i).seen = s.seen := by unfold State.noteIn; split <;> rfl

end Sys2Proof.Machine
end

