-- ==== Sys2Proof/Laws/Tab.lean ====
section
/-!
SUPPORT. The laws of the sparse table: what a read finds after a write, that a write leaves every other key alone, and that
both keep the canonical form.
-/
namespace Sys2Proof.Machine
open Sys2Proof

@[simp] theorem Tab.find_nil {α : Type} (k : Nat) : Tab.find ([] : Tab α) k = none := rfl

/-- A read after a write of the same key gives the value written. -/
@[simp] theorem Tab.find_set_same {α : Type} (t : Tab α) (k : Nat) (v : α) : Tab.find (Tab.set t k v) k = some v := by
  induction t with
  | nil => simp [Tab.set, Tab.find]
  | cons p r ih =>
    obtain ⟨i, w⟩ := p
    by_cases h1 : k < i
    · simp [Tab.set, Tab.find, h1]
    · by_cases h2 : k = i
      · simp [Tab.set, Tab.find, h2]
      · have h3 : ¬ i = k := fun h => h2 h.symm
        simp [Tab.set, Tab.find, h1, h2, h3, ih]

/-- A write leaves every other key alone. -/
theorem Tab.find_set_ne {α : Type} (t : Tab α) (k j : Nat) (v : α) (h : j ≠ k) : Tab.find (Tab.set t k v) j = Tab.find t j := by
  have hk : ¬ k = j := fun e => h e.symm
  induction t with
  | nil => simp [Tab.set, Tab.find, hk]
  | cons p r ih =>
    obtain ⟨i, w⟩ := p
    by_cases h1 : k < i
    · simp [Tab.set, Tab.find, h1, hk]
    · by_cases h2 : k = i
      · subst h2; simp [Tab.set, Tab.find, hk]
      · simp only [Tab.set, h1, h2, if_false, Tab.find, beq_iff_eq, ih]

/-- Nothing is found at an erased key. -/
@[simp] theorem Tab.find_erase_same {α : Type} (t : Tab α) (k : Nat) : Tab.find (Tab.erase t k) k = none := by
  induction t with
  | nil => rfl
  | cons p r ih =>
    obtain ⟨i, w⟩ := p
    by_cases h : i = k
    · simp [Tab.erase, h, ih]
    · simp [Tab.erase, Tab.find, h, ih]

/-- Erasing a key leaves every other key alone. -/
theorem Tab.find_erase_ne {α : Type} (t : Tab α) (k j : Nat) (h : j ≠ k) : Tab.find (Tab.erase t k) j = Tab.find t j := by
  have hk : ¬ k = j := fun e => h e.symm
  induction t with
  | nil => rfl
  | cons p r ih =>
    obtain ⟨i, w⟩ := p
    by_cases h2 : i = k
    · subst h2; simp [Tab.erase, Tab.find, hk, ih]
    · simp [Tab.erase, Tab.find, h2, ih]

@[simp] theorem Tab.get_set_same {α : Type} (d : α) (t : Tab α) (k : Nat) (v : α) : Tab.get d (Tab.set t k v) k = v := by
  simp [Tab.get]

theorem Tab.get_set_ne {α : Type} (d : α) (t : Tab α) (k j : Nat) (v : α) (h : j ≠ k) :
    Tab.get d (Tab.set t k v) j = Tab.get d t j := by
  simp [Tab.get, Tab.find_set_ne t k j v h]

/-- The keys of a canonical table are strictly rising. -/
theorem Tab.wf_iff {α : Type} (t : Tab α) : Tab.wf t = true ↔ (t.map Prod.fst).Pairwise (· < ·) := by
  induction t with
  | nil => simp [Tab.wf]
  | cons p r ih =>
    obtain ⟨i, v⟩ := p
    cases r with
    | nil => simp [Tab.wf]
    | cons q r =>
      obtain ⟨j, w⟩ := q
      simp only [Tab.wf, Bool.and_eq_true, decide_eq_true_eq, ih, List.map_cons, List.pairwise_cons]
      constructor
      · rintro ⟨hij, hj, hp⟩
        refine ⟨?_, hj, hp⟩
        intro a ha
        rcases List.mem_cons.mp ha with rfl | h'
        · exact hij
        · exact Nat.lt_trans hij (hj a h')
      · rintro ⟨hi, hj, hp⟩
        exact ⟨hi j (by simp), hj, hp⟩

/-- The keys after a write. -/
theorem Tab.mem_keys_set {α : Type} (t : Tab α) (k : Nat) (v : α) (a : Nat) :
    a ∈ (Tab.set t k v).map Prod.fst → a = k ∨ a ∈ t.map Prod.fst := by
  induction t with
  | nil => simp [Tab.set]
  | cons p r ih =>
    obtain ⟨i, w⟩ := p
    by_cases h1 : k < i
    · simp [Tab.set, h1]
    · by_cases h2 : k = i
      · simp only [Tab.set, h1, h2, if_false, List.map_cons, List.mem_cons]
        simp
      · simp only [Tab.set, h1, h2, if_false, List.map_cons, List.mem_cons, beq_iff_eq]
        rintro (rfl | h)
        · simp
        · rcases ih h with rfl | h'
          · simp
          · exact Or.inr (Or.inr h')

/-- A write keeps the canonical form. -/
theorem Tab.wf_set {α : Type} (t : Tab α) (k : Nat) (v : α) (h : Tab.wf t = true) : Tab.wf (Tab.set t k v) = true := by
  rw [Tab.wf_iff] at h ⊢
  induction t with
  | nil => simp [Tab.set]
  | cons p r ih =>
    obtain ⟨i, w⟩ := p
    simp only [List.map_cons, List.pairwise_cons] at h
    by_cases h1 : k < i
    · simp only [Tab.set, h1, if_true, List.map_cons, List.pairwise_cons, List.mem_cons]
      refine ⟨?_, h.1, h.2⟩
      rintro a (rfl | ha)
      · exact h1
      · exact Nat.lt_trans h1 (h.1 a ha)
    · by_cases h2 : k = i
      · subst h2
        simpa [Tab.set] using h
      · simp only [Tab.set, h1, h2, if_false, beq_iff_eq, List.map_cons, List.pairwise_cons]
        refine ⟨?_, ih h.2⟩
        intro a ha
        rcases Tab.mem_keys_set r k v a ha with rfl | ha'
        · omega
        · exact h.1 a ha'

/-- Erasing keeps the canonical form. -/
theorem Tab.wf_erase {α : Type} (t : Tab α) (k : Nat) (h : Tab.wf t = true) : Tab.wf (Tab.erase t k) = true := by
  have hf : ∀ u : Tab α, Tab.erase u k = u.filter (fun p => p.1 != k) := by
    intro u
    induction u with
    | nil => rfl
    | cons p r ih =>
      obtain ⟨i, w⟩ := p
      by_cases h : i = k <;> simp [Tab.erase, h, ih]
  rw [Tab.wf_iff] at h ⊢
  rw [hf]
  exact h.sublist ((List.filter_sublist).map Prod.fst)

end Sys2Proof.Machine
end

