-- ==== Sys2Proof/Laws/Dictionary.lean ====
section
/-!
SUPPORT. The laws of the object dictionary: a read after a write of the same entry, a write leaves every other key alone, and
both keep the canonical form of the three tables.
-/
namespace Sys2Proof.Machine
open Sys2Proof

/-- What stands at a key after a value is put there. -/
theorem Tab.get_putVal_same (t : Tab Val) (e : Entry) (n j : Nat) (v : Val) :
    Tab.get (e.default n) (Tab.putVal t e n j v) (e.key n j) = v := by
  unfold Tab.putVal
  split
  · next h => simp [Tab.get, h]
  · simp

/-- A value put leaves every other key alone. -/
theorem Tab.find_putVal_ne (t : Tab Val) (e : Entry) (n j k : Nat) (v : Val) (h : k ≠ e.key n j) :
    Tab.find (Tab.putVal t e n j v) k = Tab.find t k := by
  unfold Tab.putVal
  split
  · exact Tab.find_erase_ne t _ _ h
  · exact Tab.find_set_ne t _ _ v h

theorem Tab.wf_putVal (t : Tab Val) (e : Entry) (n j : Nat) (v : Val) (h : Tab.wf t = true) : Tab.wf (Tab.putVal t e n j v) = true := by
  unfold Tab.putVal
  split
  · exact Tab.wf_erase t _ h
  · exact Tab.wf_set t _ v h

/-- An entry outside the sets writes the table of the device's own values, one within them the active set. -/
theorem State.put_cells (s : State) (e : Entry) (n j : Nat) (v : Val) (h : e.inSets = false) :
    s.put e n j v = { s with cells := Tab.putVal s.cells e n j v, writes := s.noteWrite 0 e n j v } := by
  simp [State.put, h]

theorem State.put_act (s : State) (e : Entry) (n j : Nat) (v : Val) (h : e.inSets = true) :
    s.put e n j v =
      { s with actSet := Tab.putVal s.actSet e n j v, digestStale := true, writes := s.noteWrite s.actStore e n j v } := by
  simp [State.put, h]

/-- An entry that is not kept over a loss of power waits for no store in ST. -/
theorem State.noteWrite_volatile (s : State) (table : Nat) (e : Entry) (n j : Nat) (v : Val) (h : e.persist ≠ .persistent) :
    s.noteWrite table e n j v = s.writes := by
  simp [State.noteWrite, h]

/-- A read after a write of the same entry gives the value written. -/
@[simp] theorem State.val_put_same (s : State) (e : Entry) (n j : Nat) (v : Val) : (s.put e n j v).val e n j = v := by
  unfold State.put State.val
  split <;> simp_all [Tab.get_putVal_same]

/-- A write leaves an entry with another key alone. -/
theorem State.val_put_ne (s : State) (e f : Entry) (n j m i : Nat) (v : Val) (h : f.key m i ≠ e.key n j) :
    (s.put e n j v).val f m i = s.val f m i := by
  unfold State.put State.val Tab.get
  by_cases h1 : e.inSets = true <;> by_cases h2 : f.inSets = true <;>
    simp [h1, h2, Tab.find_putVal_ne _ _ _ _ _ _ h]

/-- A write leaves the own value at another key alone. -/
theorem State.find_cells_put_ne (s : State) (e : Entry) (n j k : Nat) (v : Val) (h : k ≠ e.key n j) :
    Tab.find (s.put e n j v).cells k = Tab.find s.cells k := by
  unfold State.put
  split
  · rfl
  · exact Tab.find_putVal_ne _ _ _ _ _ _ h

/-- A write to the sets leaves the own values alone. -/
theorem State.cells_put_act (s : State) (e : Entry) (n j : Nat) (v : Val) (h : e.inSets = true) : (s.put e n j v).cells = s.cells := by
  simp [State.put, h]

/-- The active set is written by entries of the sets only. -/
theorem State.actSet_put (s : State) (e : Entry) (n j : Nat) (v : Val) (h : e.inSets = false) : (s.put e n j v).actSet = s.actSet := by
  simp [State.put, h]

/-- Writes keep the tables canonical. -/
theorem State.put_wf (s : State) (e : Entry) (n j : Nat) (v : Val) (h1 : Tab.wf s.cells = true) (h2 : Tab.wf s.actSet = true) :
    Tab.wf (s.put e n j v).cells = true ∧ Tab.wf (s.put e n j v).actSet = true := by
  unfold State.put
  split
  · exact ⟨h1, Tab.wf_putVal _ _ _ _ _ h2⟩
  · exact ⟨Tab.wf_putVal _ _ _ _ _ h1, h2⟩

/-! What the other shared operations leave in the dictionary. -/

@[simp] theorem State.val_raiseWith (s : State) (b : Bool) (k : EvKind) (i p q : Nat) (e : Entry) (n j : Nat) :
    (s.raiseWith b k i p q).val e n j = s.val e n j := by simp [State.val]
@[simp] theorem State.val_send (s : State) (m : Msg) (e : Entry) (n j : Nat) : (s.send m).val e n j = s.val e n j := rfl
@[simp] theorem State.val_sendHeld (s : State) (m : Msg) (e : Entry) (n j : Nat) : (s.sendHeld m).val e n j = s.val e n j := rfl
@[simp] theorem State.val_answerLater (s : State) (h : Held) (a : Nat) (b : List Byte) (e : Entry) (n j : Nat) :
    (s.answerLater h a b).val e n j = s.val e n j := by simp [State.val]

/-- Taking a tag changes TAGS_IN_USE and TAGS_HIGH_WATER only. -/
theorem State.val_takeTag (s : State) (a : Nat) (c : Option Nat) (e : Entry) (n j : Nat)
    (h1 : e.key n j ≠ Ent.TAGS_IN_USE.key 0 0) (h2 : e.key n j ≠ Ent.TAGS_HIGH_WATER.key 0 0) :
    (s.takeTag a c).val e n j = s.val e n j := by
  unfold State.takeTag State.when
  dsimp only
  split
  · rw [State.setNat_eq, State.val_put_ne _ _ _ _ _ _ _ _ h2, State.setNat_eq, State.val_put_ne _ _ _ _ _ _ _ _ h1]; rfl
  · rw [State.setNat_eq, State.val_put_ne _ _ _ _ _ _ _ _ h1]; rfl

/-! The typed reads are one read of a value. -/

theorem State.nat_def (s : State) (e : Entry) (n j : Nat) : s.nat e n j = (s.val e n j).toInt.toNat := rfl
theorem State.int_def (s : State) (e : Entry) (n j : Nat) : s.int e n j = (s.val e n j).toInt := rfl
theorem State.flag_def (s : State) (e : Entry) (n j : Nat) : s.flag e n j = ((s.val e n j).toInt != 0) := rfl
theorem State.bytes_def (s : State) (e : Entry) (n j : Nat) : s.bytes e n j = (s.val e n j).toBytes := rfl
@[simp] theorem Val.toInt_num (n : Int) : (Val.num n).toInt = n := rfl
@[simp] theorem Val.toBytes_bytes (b : List Byte) : (Val.bytes b).toBytes = b := rfl

/-- A change for each element of a list keeps what one change keeps. -/
theorem State.each_keeps {α β : Type} (s : State) (l : List α) (f : State → α → State) (g : State → β)
    (h : ∀ z a, g (f z a) = g z) : g (s.each l f) = g s := by
  unfold State.each
  induction l generalizing s with
  | nil => rfl
  | cons a r ih => rw [List.foldl_cons, ih, h]

/-- What each change of a list keeps true stays true. -/
theorem State.each_inv {α : Type} (s : State) (l : List α) (f : State → α → State) (P : State → Prop) (h0 : P s)
    (h : ∀ z a, P z → P (f z a)) : P (s.each l f) := by
  unfold State.each
  induction l generalizing s with
  | nil => exact h0
  | cons a r ih => exact ih (f s a) (h s a h0)

/-- A conditional change keeps what the change keeps. -/
theorem State.when_keeps {β : Type} (s : State) (c : Bool) (f : State → State) (g : State → β) (h : ∀ z, g (f z) = g z) :
    g (s.when c f) = g s := by
  unfold State.when; split <;> simp [h]

end Sys2Proof.Machine
end

