-- ==== Sys2Proof/Laws/Requests.lean ====
section
/-!
SUPPORT. A client's write of one entry, said once: what an accepted request comes to.
-/
namespace Sys2Proof.Machine
open Sys2Proof

/-- Taking a tag leaves the step of the boundary. -/
@[simp] theorem State.takeTag_step (s : State) (a : Nat) (c : Option Nat) : (s.takeTag a c).tx.step = s.tx.step := by
  unfold State.takeTag State.when; dsimp only; split <;> simp [State.setNat]

/-- An accepted write takes effect in the state with its tag taken, and its status is answered after the mirror. -/
theorem State.clientCommand_accepted {s : State} {c : Client} {e : Entry} {n : Nat} {v : Val} {h : Held} {j : Nat}
    (act : State → State × Nat) (ha : s.accepts c e n v h j) :
    s.clientCommand c e n v act j = (act (s.taken h)).1.answerLater h (act (s.taken h)).2 [] := by
  obtain ⟨k, t, hc, hh, hk, ht, ha, rfl, hr⟩ := ha
  have ha' : (s.takeTag t (some c.conn)).applying = true := by simpa [State.applying] using ha
  simp [State.clientCommand, State.receiveRequest, hc, hh, hk, ht, hr, ha', State.taken]

/-- The answer to an accepted write stands last among the messages held for the mirror. -/
theorem State.answerLater_repliesWith (s : State) (h : Held) (st : Nat) : (s.answerLater h st []).repliesWith h st := by
  simp [State.repliesWith, State.answerLater, State.sendHeld, Held.answer]

/-- An entry keeps its value while the tag is taken, but for the two counters of tags. -/
theorem State.val_taken (s : State) (h : Held) (e : Entry) (n j : Nat)
    (h1 : e.key n j ≠ Ent.TAGS_IN_USE.key 0 0) (h2 : e.key n j ≠ Ent.TAGS_HIGH_WATER.key 0 0) :
    (s.taken h).val e n j = s.val e n j := State.val_takeTag s _ _ e n j h1 h2

/-- Taking a tag changes the engine, the two counters of tags and the requests kept for the mirror. -/
theorem State.taken_frame (s : State) (h : Held) : { s.taken h with tx := s.tx, cells := s.cells, mirror := s.mirror } = s := by
  unfold State.taken State.takeTag State.when State.noteApplied
  dsimp only
  split <;> rfl

end Sys2Proof.Machine
end

