-- ==== Sys2Proof/WellFormed.lean ====
section
/-!
DEFINITION. Which commands are well formed: every operand fits the field that carries it (the header of Table 4-3, the item of Table
4-4, the messages of chapters 2, 6, 7, 10, 16 and 17), an instance is one the entry has, an offset lies in its frame.
-/
namespace Sys2Proof

/-- The fields of Client fit their widths. -/
def Client.wf (x : Client) : Bool := decide (x.conn < 2 ^ 16) &&
  decide (x.version < 2 ^ 8) &&
  decide (x.length < 2 ^ 16) &&
  decide (x.reqId < 2 ^ 32) &&
  decide (x.offset < 1000000) &&
  x.badOp.all (fun o => decide (o < 2 ^ 8))

/-- The fields of WItem fit their widths. -/
def WItem.wf (x : WItem) : Bool := decide (x.index < 2 ^ 16) &&
  decide (x.sub < 2 ^ 8) &&
  decide (x.type < 2 ^ 8) &&
  decide (x.bytes.length ≤ 2048)

/-- The fields of Announce fit their widths. -/
def Announce.wf (x : Announce) : Bool := decide (x.clockId < 2 ^ 64) &&
  decide (x.priority1 < 2 ^ 8) &&
  decide (x.clockClass < 2 ^ 8) &&
  decide (x.accuracy < 2 ^ 8) &&
  decide (x.variance < 2 ^ 16) &&
  decide (x.priority2 < 2 ^ 8) &&
  decide (x.stepsRemoved < 2 ^ 16) &&
  decide (x.domain < 2 ^ 8)

/-- The fields of CanRx fit their widths. -/
def CanRx.wf (x : CanRx) : Bool := decide (x.id < 2 ^ 11) &&
  decide (x.data.length ≤ 64) &&
  decide (x.sof < 1000000)

/-- The fields of TwoPhase fit their widths. -/
def TwoPhase.wf (x : TwoPhase) : Bool := decide (x.unit < 2 ^ 16) && decide (x.group < 2 ^ 16) && decide (x.sfnLow < 2 ^ 32) &&
  (match x.frame with | some r => r.wf | none => true)

/-- The fields of ConnOpen fit their widths. -/
def ConnOpen.wf (x : ConnOpen) : Bool := decide (x.identity.length ≤ 2048) && decide (x.port < 2 ^ 16)

/-- The fields of XferBody fit their widths. -/
def XferBody.wf (x : XferBody) : Bool := decide (x.tag < 2 ^ 8) &&
  decide (x.status < 2 ^ 16) &&
  decide (x.index < 2 ^ 16) &&
  decide (x.sub < 2 ^ 8) &&
  decide (x.type < 2 ^ 8) &&
  decide (x.offset < 2 ^ 16) &&
  decide (x.total < 2 ^ 16) &&
  decide (x.value.length ≤ 2048)

/-- The fields of EvParams fit their widths. -/
def EvParams.wf (x : EvParams) : Bool := decide (x.maxPower < 2 ^ 32) &&
  decide (x.maxCurrent < 2 ^ 16) &&
  decide (x.maxVoltage < 2 ^ 16) &&
  decide (x.targetCurrent < 2 ^ 16) &&
  decide (x.maxDischargePower < 2 ^ 32) &&
  decide (x.maxDischargeCurrent < 2 ^ 16)

/-- The fields of Namespace fit their widths. -/
def Namespace.wf (x : Namespace) : Bool := decide (x.major < 2 ^ 32) && decide (x.minor < 2 ^ 32)

/-- The fields of Decision fit their widths. -/
def Decision.wf (x : Decision) : Bool := decide (x.number < 2 ^ 32) &&
  decide (x.result < 2 ^ 8) &&
  decide (x.cls < 2 ^ 8) &&
  decide (x.account < 2 ^ 16)

/-- A copy of a Prebex frame holds the 24 bytes of a report or a join (R243, R245). -/
def AirCopy.wf (x : AirCopy) : Bool := x.bytes.length == 24 && decide (x.crc < 2 ^ 24)

/-- The fields of Air fit their widths. -/
def Air.wf (x : Air) : Bool := x.copy0.all AirCopy.wf && x.copy1.all AirCopy.wf

/-- A conversion: a slice of the die, a 16-bit code, a stamp within the frame. -/
def Conv.wf (x : Conv) : Bool := decide (x.slice < 18) && decide (-32768 ≤ x.code) && decide (x.code ≤ 32767) && decide (x.at_ < 400000)

/-- The fields of Window fit their widths. -/
def Window.wf (x : Window) : Bool := decide (x.ch < 96) && x.convs.all (fun x => x.wf) && x.samples.all (fun x => x.wf)

/-- The samples of a capture (R318, R319, Table 13-3): 16-bit codes, at most 4,000 of the capture, the first 300 to 312 ns after the trigger. -/
def CaptureData.wf (x : CaptureData) : Bool :=
  let code (c : Int) : Bool := decide (-32768 ≤ c) && decide (c ≤ 32767)
  decide (300 ≤ x.firstNs) && decide (x.firstNs ≤ 312) && decide (x.main.length ≤ 4000) && (x.pre ++ x.main).all code

/-- The fields of BlockIn fit their widths. -/
def BlockIn.wf (x : BlockIn) : Bool := decide (x.sfn < 2 ^ 64) && decide (x.cycle < 20)

/-- The fields of Flush fit their widths. -/
def Flush.wf (x : Flush) : Bool := x.ws.all (fun x => x.wf)

/-- The fields of LcSample fit their widths. -/
def LcSample.wf (x : LcSample) : Bool := decide (x.ch < 2 ^ 6)

/-- The fields of Clamp fit their widths. -/
def Clamp.wf (x : Clamp) : Bool := decide (x.ch < 2 ^ 6)

/-- The fields of PowerStatus fit their widths. -/
def PowerStatus.wf (x : PowerStatus) : Bool := x.chans.all (fun x => x.wf) && x.clamps.all (fun x => x.wf)

/-- The fields of SegMap fit their widths. -/
def SegMap.wf (x : SegMap) : Bool := decide (x.codes.length ≤ 2048)

/-- 1 to 6 segments of the mains cycle by their ends in 1/24 of it (R400). -/
def endsWf (ends : List Nat) : Bool :=
  decide (ends.length ≤ 6) && ends.getLast? == some 24 && (List.range ends.length).all (fun i => decide (i == 0 ∨ ends.getD (i - 1) 0 < ends.getD i 0)) &&
    decide (0 < ends.getD 0 0)

/-- The fields of ToneMap fit their widths. -/
def ToneMap.wf (x : ToneMap) : Bool := endsWf x.ends && x.maps.all (fun x => x.wf)

/-- The fields of NodeJoin fit their widths. -/
def NodeJoin.wf (x : NodeJoin) : Bool := decide (x.uid < 2 ^ 64) &&
  decide (x.version < 2 ^ 8) &&
  decide (x.tag.length ≤ 2048) &&
  decide (x.via < 2 ^ 8) && decide (x.nonce < 2 ^ 64)

/-- The fields of CopyLoss fit their widths. -/
def CopyLoss.wf (x : CopyLoss) : Bool := decide (x.key < 2 ^ 24)

/-- The fields of BootReport fit their widths. -/
def BootReport.wf (x : BootReport) : Bool := [x.boot1, x.boot2, x.main, x.legalM0, x.legalM1].all (fun d => d.length == 48) &&
  x.losses.all (fun x => x.wf)

/-- The fields of TickIn fit their widths. -/
def TickIn.wf (x : TickIn) : Bool := x.power.wf && decide (x.t1s < 2 ^ 8) && decide (x.ropes < 2 ^ 8) && decide (x.ky.loops < 2 ^ 4)

/-- A well-formed command: one arm for each constructor. -/
def Instr.wf (i : Instr) : Bool :=
  match i with
  | .cycleTick t => t.wf
  | .deadlineMiss _ _ task _ overrun => decide (task < 2 ^ 16) && decide (overrun < 2 ^ 32)
  | .tickLineChange _ => true
  | .resultBlock _ b ws => b.wf && ws.all (fun x => x.wf)
  | .commandPacket _ _ _ clamps => clamps.all (fun x => x.wf)
  | .failsafeTimeout clamps => clamps.all (fun x => x.wf)
  | .testQueueStart _ => true
  | .testExpired _ => true
  | .ptpSync _ _ => true
  | .ptpAnnounce _ a => a.wf
  | .ptpPdelay _ _ => true
  | .announceTimeout _ => true
  | .timeSet c sfn ns => c.wf && decide (sfn < 2 ^ 64) && decide (ns < 1000000)
  | .actionArm c i => c.wf && decide (i < 1024)
  | .actionCancel c i => c.wf && decide (i < 1024)
  | .actionFree c i => c.wf && decide (i < 1024)
  | .announcePoint _ => true
  | .announceRepeat _ => true
  | .decidePoint _ => true
  | .goRepeat _ => true
  | .cancelGuardPoint _ => true
  | .cancelRepeat _ => true
  | .doneCheckPoint _ => true
  | .ready _ m => m.wf
  | .notReady _ m reason => m.wf && decide (reason < 2 ^ 16)
  | .goAck _ m => m.wf
  | .cancelAck _ m => m.wf
  | .done _ m code => m.wf && decide (code < 2 ^ 16)
  | .cycleMirror _ _ _ _ => true
  | .mirrorMiss _ => true
  | .frameMirror _ _ => true
  | .selfDiagnosedFault _ _ => true
  | .yield _ code _ => decide (code < 2 ^ 32)
  | .take _ _ => true
  | .swapRequest c => c.wf
  | .dieRestart _ => true
  | .resyncStart _ => true
  | .resyncRequest c => c.wf
  | .dieBootComplete _ b => b.wf
  | .meterDisagree _ => true
  | .spareCheckDone _ _ _ => true
  | .meterDieFault _ _ => true
  | .connectionOpen conn o => decide (conn < 2 ^ 16) && o.wf
  | .connectionClose conn => decide (conn < 2 ^ 16)
  | .read c index sub => c.wf && decide (index < 2 ^ 16) && decide (sub < 2 ^ 8)
  | .write c w => c.wf && w.wf
  | .writeGroup c ws => c.wf && ws.all (fun x => x.wf)
  | .readSegment c index sub start => c.wf && decide (index < 2 ^ 16) && decide (sub < 2 ^ 8) && decide (start < 2 ^ 32)
  | .writeSegment c w start total _ => c.wf && w.wf && decide (start < 2 ^ 32) && decide (total < 2 ^ 32)
  | .segmentTimeout _ => true
  | .describe c index sub => c.wf && decide (index < 2 ^ 16) && decide (sub < 2 ^ 8)
  | .eventRead c first count => c.wf && decide (first < 2 ^ 32) && decide (count < 2 ^ 16)
  | .eventSubscribe c severity => c.wf && decide (severity < 2 ^ 8)
  | .eventNotify conn _ => decide (conn < 2 ^ 16)
  | .setSwapNow c => c.wf
  | .shadowCopy c => c.wf
  | .shadowDefaults c => c.wf
  | .allocatorRun _ => true
  | .ack r => r.wf
  | .moduleAckMissing _ => true
  | .moduleEnable c m v => c.wf && decide (m < 64) && decide (v < 2 ^ 8)
  | .moduleMoveFailed _ => true
  | .feOverCap _ => true
  | .feEnable c f v => c.wf && decide (f < 16) && decide (v < 2 ^ 8)
  | .fault r => r.wf
  | .status r => r.wf
  | .xferResponse r => r.wf
  | .xferRequest r => r.wf
  | .xferTimeout _ => true
  | .txReport _ _ _ _ _ _ data => decide (data.length ≤ 2048)
  | .canErrorPassive _ tx rx => decide (tx < 2 ^ 8) && decide (rx < 2 ^ 8)
  | .canBusOff _ => true
  | .busOffRecovery _ => true
  | .busoffHoldEnd _ => true
  | .unitStatusMissing _ => true
  | .unitChannelChange _ => true
  | .unitTest c unit v => c.wf && decide (unit < 80) && decide (v < 2 ^ 8)
  | .unitTestLate _ => true
  | .plugInRecognised _ => true
  | .confirmationLoss _ => true
  | .discoveryRequest _ _ => true
  | .tlsHandshake _ _ _ => true
  | .appProtocolHandshake _ offered => offered.all (fun x => x.wf)
  | .sessionSetupReq _ _ => true
  | .authorizationReq _ _ _ contract => decide (contract.length ≤ 2048)
  | .dcChargeParameterDiscovery _ p => p.wf
  | .dcCableCheckReq _ => true
  | .cableCheckPass _ => true
  | .dcPreChargeReq _ _ => true
  | .powerDeliveryReqStart _ => true
  | .powerDeliveryReqStandby _ => true
  | .powerDeliveryReqStop _ => true
  | .sessionStopReq _ => true
  | .loopRequest _ p => p.wf
  | .dcWeldingDetectionReq _ _ => true
  | .certificateInstallationReq _ => true
  | .authResponse c o d => c.wf && decide (o < 8) && d.wf
  | .eimToken c o token => c.wf && decide (o < 8) && decide (token.length ≤ 2048)
  | .authTimeout _ => true
  | .sessionStateLimit _ => true
  | .insulationTrip _ => true
  | .outletTrip _ _ => true
  | .linkLost _ _ => true
  | .stopRequest c o v => c.wf && decide (o < 8) && decide (v < 2 ^ 8)
  | .outletReset c o v => c.wf && decide (o < 8) && decide (v < 2 ^ 8)
  | .outletEnable c o v => c.wf && decide (o < 8) && decide (v < 2 ^ 8)
  | .contactorOpen _ => true
  | .forcedOpen _ => true
  | .estopReset c v => c.wf && decide (v < 2 ^ 8)
  | .weldingCheck _ => true
  | .releaseLockOff _ => true
  | .couplerReleased _ => true
  | .loopSaturated _ => true
  | .loopReset c l v => c.wf && decide (l < 64) && decide (v < 2 ^ 8)
  | .cableOverTemp _ _ => true
  | .coolantFlowLow _ => true
  | .coolantFlowRestored _ => true
  | .groupRangeReturn _ => true
  | .phaseFire _ _ => true
  | .phaseImbalance _ => true
  | .phaseFastTrip _ => true
  | .fastTripHoldEnd _ => true
  | .groupReset c g v => c.wf && decide (g < 8) && decide (v < 2 ^ 8)
  | .phaseFailed _ => true
  | .phaseOverload _ => true
  | .stepHoldEnd _ => true
  | .groupStopComplete _ => true
  | .phaseTest c p v => c.wf && decide (p < 32) && decide (v < 2 ^ 8)
  | .phaseTestDone _ _ => true
  | .phaseReset c p v => c.wf && decide (p < 32) && decide (v < 2 ^ 8)
  | .report _ a => a.wf
  | .monitorJoin _ a => a.wf
  | .ropeClosed _ => true
  | .ropeOpen _ => true
  | .ropeCoilsOff _ => true
  | .ropeWake _ => true
  | .lostMonitorWakeBurst _ => true
  | .alarmReset c k v => c.wf && decide (k < 256) && decide (v < 2 ^ 8)
  | .ropeReenumerate c n v => c.wf && decide (n < 8) && decide (v < 2 ^ 8)
  | .enumWakeBurst _ => true
  | .enumCarrierStart _ => true
  | .enumFail _ => true
  | .acceptReplacement c n v => c.wf && decide (n < 8) && decide (v < 2 ^ 8)
  | .serviceDemanded _ => true
  | .monitorTest c k v => c.wf && decide (k < 256) && decide (v < 2 ^ 8)
  | .stringConnectStart _ => true
  | .stringConnectStep _ => true
  | .stringRequest c n v => c.wf && decide (n < 8) && decide (v < 2 ^ 8)
  | .stringDerate c n v => c.wf && decide (n < 8) && decide (v < 2 ^ 8)
  | .stringOverCurrent _ => true
  | .stringInsulationFault _ => true
  | .stringCurrentSenseLost _ => true
  | .stringCauseCleared _ _ => true
  | .stringCoilsOff _ => true
  | .stringForcedOpen _ => true
  | .weldCheckEnd _ => true
  | .stringReset c n v => c.wf && decide (n < 8) && decide (v < 2 ^ 8)
  | .stringTest c n v => c.wf && decide (n < 8) && decide (v < 2 ^ 8)
  | .stringTestDone _ => true
  | .estReset c n v => c.wf && decide (n < 8) && decide (v < 2 ^ 8)
  | .spareDwellEnd _ _ => true
  | .slotTableRebuild _ => true
  | .captureTrigger _ ns => decide (ns < 1000000)
  | .captureForce c v => c.wf && decide (v < 2 ^ 8)
  | .captureDone d => d.wf
  | .calZero c ch dies reference => c.wf && decide (ch < 96) && decide (dies < 2 ^ 8) && decide (reference < 2 ^ 32)
  | .calSpan c ch dies reference => c.wf && decide (ch < 96) && decide (dies < 2 ^ 8) && decide (reference < 2 ^ 32)
  | .calRestore c ch dies reference => c.wf && decide (ch < 96) && decide (dies < 2 ^ 8) && decide (reference < 2 ^ 32)
  | .calDone _ => true
  | .mchOpenTest c ch v => c.wf && decide (ch < 96) && decide (v < 2 ^ 8)
  | .openTestDone _ _ _ => true
  | .meterCommit _ ws => ws.all (fun x => x.wf)
  | .crossReset c pt v => c.wf && decide (pt < 17) && decide (v < 2 ^ 8)
  | .peakReset c pt v => c.wf && decide (pt < 17) && decide (v < 2 ^ 8)
  | .overcurrent _ _ => true
  | .overcurrentEnd _ _ => true
  | .legalSealChange _ => true
  | .legalLogArchive c seq => c.wf && decide (seq < 2 ^ 32)
  | .displayFrame _ => true
  | .displayBusyTimeout _ => true
  | .pfwAssert offset flushes => decide (offset < 1000000) && flushes.all (fun x => x.wf)
  | .meterStop _ ws => ws.all (fun x => x.wf)
  | .billingClose c v => c.wf && decide (v < 2 ^ 8)
  | .creditTopup c a _ reference => c.wf && decide (a < 256) && decide (reference < 2 ^ 32)
  | .readingRequest c pt v => c.wf && decide (pt < 17) && decide (v < 2 ^ 8)
  | .lcCommand c ch v => c.wf && decide (ch < 40) && decide (v < 2 ^ 8)
  | .lcDuty c ch v => c.wf && decide (ch < 40) && decide (v < 2 ^ 32)
  | .lcPullInEnd _ => true
  | .lcShortCircuit _ _ _ => true
  | .lcLimitTimeout _ _ _ => true
  | .lcOverload _ _ => true
  | .lcThermalLatch _ _ _ _ => true
  | .lcThermalClear _ _ _ => true
  | .lcRetry _ => true
  | .lcRetryBudgetReset _ => true
  | .lcReset c ch v => c.wf && decide (ch < 40) && decide (v < 2 ^ 8)
  | .lcOpenLoad _ => true
  | .lcOpenLoadClear _ => true
  | .lcTest c ch v => c.wf && decide (ch < 40) && decide (v < 2 ^ 8)
  | .lcTestDone _ _ => true
  | .halfOverload _ => true
  | .vauxUndervoltage _ _ => true
  | .vauxOvervoltage _ _ => true
  | .loadGroundLost _ _ => true
  | .vauxRecovery _ _ => true
  | .beaconPeriodStart offset _ _ _ => decide (offset < 1000000)
  | .zcLost _ => true
  | .pollReply _ data => decide (data.length ≤ 512)
  | .pollFail _ _ => true
  | .dataFrame _ _ blocks => decide (blocks.length ≤ 32) && blocks.all (fun b => b.length == 520)
  | .selectiveAck _ mask => decide (mask < 2 ^ 32)
  | .toneMap _ m => m.wf
  | .join j => j.wf
  | .loadRequest _ watts _ => decide (watts < 2 ^ 32)
  | .loadDeferExpiry _ => true
  | .keyUpdate c k msg => c.wf && decide (k < 64) && decide (msg.length ≤ 2048)
  | .keyChallenge c k v => c.wf && decide (k < 64) && decide (v.length ≤ 2048)
  | .keyConfirm c k v => c.wf && decide (k < 64) && decide (v < 2 ^ 64)
  | .slotCert c k v => c.wf && decide (k < 64) && decide (v.length ≤ 2048)
  | .keyPendingExpired _ => true
  | .tamper _ _ k => decide (k.loops < 2 ^ 4)
  | .slotManifest c i v => c.wf && decide (i < 4) && decide (v.length ≤ 2048)
  | .slotBlock c i v => c.wf && decide (i < 4) && decide (v.length ≤ 2048)
  | .slotErase c i v => c.wf && decide (i < 4) && decide (v < 2 ^ 8)
  | .prepareStart _ => true
  | .prepareFailed _ st => decide (1 ≤ st) && decide (st ≤ 12)
  | .fwConfirm c v => c.wf && decide (v < 2 ^ 8)
  | .fwFallback c v => c.wf && decide (v < 2 ^ 8)
  | .recoveryBoot c v => c.wf && decide (v < 2 ^ 8)
  | .streamReady msg => msg.length == 12
  | .streamCredit msg => msg.length == 12
  | .streamMask c v => c.wf && decide (v < 2 ^ 8)
  | .serviceLinkChange _ => true
  | .recoveryEnter c v => c.wf && decide (v < 2 ^ 8)
  | .recoveryExit c v => c.wf && decide (v < 2 ^ 8)
  | .testEnter c v => c.wf && decide (v < 2 ^ 8)
  | .supplyFault _ _ => true
  | .supplyRestored _ _ _ => true
  | .sideResetRelease _ => true
  | .sleepRequest c v => c.wf && decide (v < 2 ^ 8)
  | .shipRequest c v => c.wf && decide (v < 2 ^ 8)
  | .shipEntry flushes => flushes.all (fun x => x.wf)
  | .dieHalfFault _ _ _ => true
  | .dieHalfRestored _ => true
  | .serviceDiscoveryReq _ _ _ => true
  | .siphonLaneLoss _ => true
  | .spareCheckRepeat _ _ _ => true
  | .peerConnect _ _ => true
  | .senseBreakTimeout _ _ => true
  | .sliceRetired _ _ _ => true
  | .vauxReversed _ _ => true
  | .toneMapAgeExpiry _ _ _ => true
  | .modemHandover _ => true
  | .sounding _ _ _ => true
  | .contentionAccess _ _ _ => true
  | .legalImageLoadDone _ digest => digest.length == 48
  | .frameBoundary => true
  | .ptpSyncTransmit => true
  | .timeStep => true
  | .stepLastDayEnd => true
  | .leapSecond => true
  | .backupCounterWrite => true
  | .actionExecution => true
  | .switchOver => true
  | .plannedSwitchOver => true
  | .resyncPhaseDone => true
  | .resyncFailed => true
  | .resyncRetry => true
  | .preferredDieTimeout => true
  | .setSwap => true
  | .limitRecheck => true
  | .grantPublish => true
  | .setpointTransmit => true
  | .grantLaunch => true
  | .importOverLimit => true
  | .emergencyStop => true
  | .estopForcedOpen => true
  | .estopRelease => true
  | .estopAutoReset => true
  | .sweepStart => true
  | .retryCall => true
  | .sweepPublish => true
  | .estimateCommit => true
  | .balanceSelection => true
  | .estimatorStore => true
  | .crossCheckWindow => true
  | .pfwRelease => true
  | .calendarActivation => true
  | .intervalClose => true
  | .billingPeriodClose => true
  | .routeComputation => true
  | .auxImbalance => true
  | .rewrapDone => true
  | .keysRederived => true
  | .prepareDone => true
  | .trialTimeExpiry => true
  | .legalActivationM0 => true
  | .streamLinkDown => true
  | .streamStalled => true
  | .blockTransmit => true
  | .discoveryDatagram => true
  | .rstNAssert => true
  | .sleepEntry => true
  | .wakeCarrierStart => true
  | .shipWake _ _ => true
  | .refclkLost _ _ _ => true
  | .refclkRestored _ => true

end Sys2Proof
end

