-- ==== Sys2Proof/Tests/Slice0.lean ====
section
/-!
SUPPORT. Tests. First ill-formed terms, one for each check of WellFormed.lean, which the check refuses beside a well-formed one
that it takes, and a few published values. Then, for every statement that has hypotheses, a concrete state and operands that meet all
of them together: one theorem `witness_<statement>` for each, clause by clause; a clause whose hypotheses are the first of another's is
met by the other's witness. Where a hypothesis rests on a free value (a signature, a public key), the witness says under which value.
-/
open Sys2Proof Sys2Proof.Machine
namespace Sys2Proof.Tests
-- One theorem after the other: each holds its states in memory while it is checked.
set_option Elab.async false
set_option linter.unusedVariables false
set_option linter.unusedSimpArgs false

/-- A device in RUN as the witnesses take it: both sides up, die CA active with CB in step, every half and metering die
working, a connection of an engineer on the site interface (0) and one on the service port (1), site time SET. -/
def rig : State :=
  { State.reset with
    ticks := 2000000000
    sfn := 800000000000
    tx := { State.reset.tx with step := 2, conns := [(0, ⟨false, .engineer, [1#8], 1, none, []⟩), (1, ⟨true, .service, [2#8], 2, none, []⟩)] }
    time := { State.reset.time with state := .set }
    die := { State.reset.die with
      ca := .active, cb := .standby, mirrorSync := true, m0Running := true, m1Running := true, pwA := true, pwB := true,
      lkA := true, lkB := true, kyA := true, kyB := true, st0 := true, st1 := true }
    keys := { State.reset.keys with held := true }
    plant := { State.reset.plant with inWindow := 0xFFF, sideA := true, sideB := true }
    cells := [(Ent.DEVICE_STATE.key, .num Dev.RUN)] }

/-- A request of the engineer, and one on the service port. -/
def site : Client := ⟨0, 1, 64, 7, false, false, 0, none⟩
def port : Client := ⟨1, 1, 64, 7, false, false, 0, none⟩

/-- A value of the greatest length a field carries, and one byte more. -/
def longest : List Byte := List.replicate 2048 0
def tooLong : List Byte := List.replicate 2049 0

/-- The header of Table 4-3 at the top of each field, and one past it. -/
theorem test_wf_client :
    ((⟨65535, 255, 65535, 4294967295, false, false, 999999, none⟩ : Client)).wf = true ∧
    ((⟨65536, 255, 65535, 4294967295, false, false, 999999, none⟩ : Client)).wf = false ∧
    ((⟨65535, 256, 65535, 4294967295, false, false, 999999, none⟩ : Client)).wf = false ∧
    ((⟨65535, 255, 65536, 4294967295, false, false, 999999, none⟩ : Client)).wf = false ∧
    ((⟨65535, 255, 65535, 4294967296, false, false, 999999, none⟩ : Client)).wf = false ∧
    ((⟨65535, 255, 65535, 4294967295, false, false, 1000000, none⟩ : Client)).wf = false ∧
    ((⟨65535, 255, 65535, 4294967295, false, false, 999999, some 256⟩ : Client)).wf = false := by
  decide +kernel

/-- The item of Table 4-4; a value holds at most 2,048 bytes. -/
theorem test_wf_witem :
    ((⟨65535, 255, 255, longest⟩ : WItem)).wf = true ∧
    ((⟨65536, 255, 255, longest⟩ : WItem)).wf = false ∧
    ((⟨65535, 256, 255, longest⟩ : WItem)).wf = false ∧
    ((⟨65535, 255, 256, longest⟩ : WItem)).wf = false ∧
    ((⟨65535, 255, 255, tooLong⟩ : WItem)).wf = false := by
  decide +kernel

/-- The fields of a PTP Announce (Table 2-2). -/
theorem test_wf_announce :
    ((⟨18446744073709551615, 255, 255, 255, 65535, 255, 65535, 255, 37, false, false⟩ : Announce)).wf = true ∧
    ((⟨18446744073709551616, 255, 255, 255, 65535, 255, 65535, 255, 37, false, false⟩ : Announce)).wf = false ∧
    ((⟨18446744073709551615, 256, 255, 255, 65535, 255, 65535, 255, 37, false, false⟩ : Announce)).wf = false ∧
    ((⟨18446744073709551615, 255, 256, 255, 65535, 255, 65535, 255, 37, false, false⟩ : Announce)).wf = false ∧
    ((⟨18446744073709551615, 255, 255, 256, 65535, 255, 65535, 255, 37, false, false⟩ : Announce)).wf = false ∧
    ((⟨18446744073709551615, 255, 255, 255, 65536, 255, 65535, 255, 37, false, false⟩ : Announce)).wf = false ∧
    ((⟨18446744073709551615, 255, 255, 255, 65535, 256, 65535, 255, 37, false, false⟩ : Announce)).wf = false ∧
    ((⟨18446744073709551615, 255, 255, 255, 65535, 255, 65536, 255, 37, false, false⟩ : Announce)).wf = false ∧
    ((⟨18446744073709551615, 255, 255, 255, 65535, 255, 65535, 256, 37, false, false⟩ : Announce)).wf = false := by
  decide +kernel

/-- A two-phase message (R53). -/
theorem test_wf_two_phase :
    ((⟨65535, 65535, 4294967295, none⟩ : TwoPhase)).wf = true ∧
    ((⟨65536, 65535, 4294967295, none⟩ : TwoPhase)).wf = false ∧
    ((⟨65535, 65536, 4294967295, none⟩ : TwoPhase)).wf = false ∧
    ((⟨65535, 65535, 4294967296, none⟩ : TwoPhase)).wf = false ∧
    ((⟨65535, 65535, 4294967295, some ⟨0, true, 2048, [], 0⟩⟩ : TwoPhase)).wf = false := by
  decide +kernel

/-- A client's identity and the port it opened. -/
theorem test_wf_conn_open :
    ((⟨false, none, true, 0, [], 65535⟩ : ConnOpen)).wf = true ∧
    ((⟨false, none, true, 0, tooLong, 65535⟩ : ConnOpen)).wf = false ∧
    ((⟨false, none, true, 0, [], 65536⟩ : ConnOpen)).wf = false := by
  decide +kernel

/-- A CAN frame (R135, R141): an identifier of 11 bits, at most 64 bytes. -/
theorem test_wf_can_rx :
    ((⟨0, true, 2047, [], 999999⟩ : CanRx)).wf = true ∧
    ((⟨0, true, 2048, [], 999999⟩ : CanRx)).wf = false ∧
    ((⟨0, true, 2047, List.replicate 65 0, 999999⟩ : CanRx)).wf = false ∧
    ((⟨0, true, 2047, [], 1000000⟩ : CanRx)).wf = false := by
  decide +kernel

/-- An XFER body (R155). -/
theorem test_wf_xfer_body :
    ((⟨255, 65535, 65535, 255, 255, 65535, 65535, []⟩ : XferBody)).wf = true ∧
    ((⟨256, 65535, 65535, 255, 255, 65535, 65535, []⟩ : XferBody)).wf = false ∧
    ((⟨255, 65536, 65535, 255, 255, 65535, 65535, []⟩ : XferBody)).wf = false ∧
    ((⟨255, 65535, 65536, 255, 255, 65535, 65535, []⟩ : XferBody)).wf = false ∧
    ((⟨255, 65535, 65535, 256, 255, 65535, 65535, []⟩ : XferBody)).wf = false ∧
    ((⟨255, 65535, 65535, 255, 256, 65535, 65535, []⟩ : XferBody)).wf = false ∧
    ((⟨255, 65535, 65535, 255, 255, 65536, 65535, []⟩ : XferBody)).wf = false ∧
    ((⟨255, 65535, 65535, 255, 255, 65535, 65536, []⟩ : XferBody)).wf = false ∧
    ((⟨255, 65535, 65535, 255, 255, 65535, 65535, tooLong⟩ : XferBody)).wf = false := by
  decide +kernel

/-- What a vehicle declares. -/
theorem test_wf_ev_params :
    ((⟨4294967295, 65535, 65535, 65535, 4294967295, 65535, none, false, false⟩ : EvParams)).wf = true ∧
    ((⟨4294967296, 65535, 65535, 65535, 4294967295, 65535, none, false, false⟩ : EvParams)).wf = false ∧
    ((⟨4294967295, 65536, 65535, 65535, 4294967295, 65535, none, false, false⟩ : EvParams)).wf = false ∧
    ((⟨4294967295, 65535, 65536, 65535, 4294967295, 65535, none, false, false⟩ : EvParams)).wf = false ∧
    ((⟨4294967295, 65535, 65535, 65536, 4294967295, 65535, none, false, false⟩ : EvParams)).wf = false ∧
    ((⟨4294967295, 65535, 65535, 65535, 4294967296, 65535, none, false, false⟩ : EvParams)).wf = false ∧
    ((⟨4294967295, 65535, 65535, 65535, 4294967295, 65536, none, false, false⟩ : EvParams)).wf = false := by
  decide +kernel

/-- A namespace offered. -/
theorem test_wf_namespace :
    ((⟨true, 4294967295, 4294967295⟩ : Namespace)).wf = true ∧
    ((⟨true, 4294967296, 4294967295⟩ : Namespace)).wf = false ∧
    ((⟨true, 4294967295, 4294967296⟩ : Namespace)).wf = false := by
  decide +kernel

/-- AUTH_RESPONSE (Table 7-4). -/
theorem test_wf_decision :
    ((⟨4294967295, 255, 255, 65535⟩ : Decision)).wf = true ∧
    ((⟨4294967296, 255, 255, 65535⟩ : Decision)).wf = false ∧
    ((⟨4294967295, 256, 255, 65535⟩ : Decision)).wf = false ∧
    ((⟨4294967295, 255, 256, 65535⟩ : Decision)).wf = false ∧
    ((⟨4294967295, 255, 255, 65536⟩ : Decision)).wf = false := by
  decide +kernel

/-- A copy of a Prebex frame: 24 bytes and a CRC of 24 bits (R240, R243). -/
theorem test_wf_air :
    ((⟨some ⟨0, List.replicate 24 0, 16777215⟩, none⟩ : Air)).wf = true ∧
    ((⟨some ⟨0, List.replicate 23 0, 0⟩, none⟩ : Air)).wf = false ∧
    ((⟨none, some ⟨0, List.replicate 24 0, 16777216⟩⟩ : Air)).wf = false := by
  decide +kernel

/-- A conversion of a window (R307, R316): one of 18 slices, a code of 16 bits, a stamp within the frame; alone and in a flush. -/
theorem test_wf_window :
    ((⟨95, [⟨17, -32768, 399999⟩], true, false, 0, []⟩ : Window)).wf = true ∧
    ((⟨96, [], true, false, 0, []⟩ : Window)).wf = false ∧
    ((⟨0, [⟨18, 0, 0⟩], true, false, 0, []⟩ : Window)).wf = false ∧
    ((⟨0, [⟨0, 32768, 0⟩], true, false, 0, []⟩ : Window)).wf = false ∧
    ((⟨0, [⟨0, -32769, 0⟩], true, false, 0, []⟩ : Window)).wf = false ∧
    ((⟨0, [], true, false, 0, [⟨0, 0, 400000⟩]⟩ : Window)).wf = false ∧
    ((⟨0, 0, [⟨96, [], true, false, 0, []⟩]⟩ : Flush)).wf = false := by
  decide +kernel

/-- The stamp of a result block (R14). -/
theorem test_wf_block :
    ((⟨true, 18446744073709551615, 19, 5000⟩ : BlockIn)).wf = true ∧
    ((⟨true, 18446744073709551616, 0, 0⟩ : BlockIn)).wf = false ∧
    ((⟨true, 0, 20, 0⟩ : BlockIn)).wf = false := by
  decide +kernel

/-- Samples of a capture (R318, R319): 300 to 312 ns after the trigger, codes of 16 bits. -/
theorem test_wf_capture :
    ((⟨312, [-32768], [32767], false⟩ : CaptureData)).wf = true ∧
    ((⟨299, [], [], false⟩ : CaptureData)).wf = false ∧
    ((⟨313, [], [], false⟩ : CaptureData)).wf = false ∧
    ((⟨300, [32768], [], false⟩ : CaptureData)).wf = false ∧
    ((⟨300, [], [-32769], false⟩ : CaptureData)).wf = false ∧
    ((⟨300, [], List.replicate 4001 0, false⟩ : CaptureData)).wf = false := by
  decide +kernel

/-- A load channel's number of 6 bits, in a sample, in a status packet and at a clamp. -/
theorem test_wf_power_status :
    ((⟨63, 0, 0, false, none⟩ : LcSample)).wf = true ∧
    ((⟨64, 0, 0, false, none⟩ : LcSample)).wf = false ∧
    ((⟨[⟨64, 0, 0, false, none⟩], 0, 0, 0, 0, 0, 0, []⟩ : PowerStatus)).wf = false ∧
    ((⟨[], 0, 0, 0, 0, 0, 0, [⟨64, 0⟩]⟩ : PowerStatus)).wf = false ∧
    ((⟨64, 0⟩ : Clamp)).wf = false := by
  decide +kernel

/-- What a tick finds: its packet, the inputs of 8 lines, the four tamper loops. -/
theorem test_wf_tick_in :
    ((⟨⟨[], 0, 0, 0, 0, 0, 0, []⟩, [], 0, none, false, 255, 255, false, false, ⟨15, 0, 0, false⟩⟩ : TickIn)).wf = true ∧
    ((⟨⟨[⟨64, 0, 0, false, none⟩], 0, 0, 0, 0, 0, 0, []⟩, [], 0, none, false, 0, 0, false, false, ⟨0, 0, 0, false⟩⟩ : TickIn)).wf = false ∧
    ((⟨⟨[], 0, 0, 0, 0, 0, 0, []⟩, [], 0, none, false, 256, 0, false, false, ⟨0, 0, 0, false⟩⟩ : TickIn)).wf = false ∧
    ((⟨⟨[], 0, 0, 0, 0, 0, 0, []⟩, [], 0, none, false, 0, 256, false, false, ⟨0, 0, 0, false⟩⟩ : TickIn)).wf = false ∧
    ((⟨⟨[], 0, 0, 0, 0, 0, 0, []⟩, [], 0, none, false, 0, 0, false, false, ⟨16, 0, 0, false⟩⟩ : TickIn)).wf = false := by
  decide +kernel

/-- Segments of a tone map: 1 to 6, rising, to the end of the mains cycle (R400); the codes of a map. -/
theorem test_wf_tone_map :
    ((⟨[4, 8, 12, 16, 20, 24], [⟨0, [], true⟩]⟩ : ToneMap)).wf = true ∧
    ((⟨[], []⟩ : ToneMap)).wf = false ∧
    ((⟨[12], []⟩ : ToneMap)).wf = false ∧
    ((⟨[12, 12, 24], []⟩ : ToneMap)).wf = false ∧
    ((⟨[0, 24], []⟩ : ToneMap)).wf = false ∧
    ((⟨[1, 2, 3, 4, 5, 6, 24], []⟩ : ToneMap)).wf = false ∧
    ((⟨0, tooLong, true⟩ : SegMap)).wf = false := by
  decide +kernel

/-- A node's JOIN (R407): a UID of 64 bits. -/
theorem test_wf_node_join :
    ((⟨18446744073709551615, false, 255, 0, [], 255, 18446744073709551615⟩ : NodeJoin)).wf = true ∧
    ((⟨18446744073709551616, false, 255, 0, [], 255, 18446744073709551615⟩ : NodeJoin)).wf = false ∧
    ((⟨18446744073709551615, false, 256, 0, [], 255, 18446744073709551615⟩ : NodeJoin)).wf = false ∧
    ((⟨18446744073709551615, false, 255, 0, tooLong, 255, 18446744073709551615⟩ : NodeJoin)).wf = false ∧
    ((⟨18446744073709551615, false, 255, 0, [], 256, 18446744073709551615⟩ : NodeJoin)).wf = false ∧
    ((⟨18446744073709551615, false, 255, 0, [], 255, 18446744073709551616⟩ : NodeJoin)).wf = false := by
  decide +kernel

/-- What a boot found: measurements of 48 bytes, and keys of 24 bits. -/
theorem test_wf_boot_report :
    ((⟨⟨true, 0, 0⟩, none, List.replicate 48 0, List.replicate 48 0, List.replicate 48 0, List.replicate 48 0, List.replicate 48 0, true, true, true, true, 0, 0, true, [⟨0, 16777215, true, true⟩], 0⟩ : BootReport)).wf = true ∧
    ((⟨⟨true, 0, 0⟩, none, [], List.replicate 48 0, List.replicate 48 0, List.replicate 48 0, List.replicate 48 0, true, true, true, true, 0, 0, true, [⟨0, 16777215, true, true⟩], 0⟩ : BootReport)).wf = false ∧
    ((⟨⟨true, 0, 0⟩, none, List.replicate 48 0, [], List.replicate 48 0, List.replicate 48 0, List.replicate 48 0, true, true, true, true, 0, 0, true, [⟨0, 16777215, true, true⟩], 0⟩ : BootReport)).wf = false ∧
    ((⟨⟨true, 0, 0⟩, none, List.replicate 48 0, List.replicate 48 0, [], List.replicate 48 0, List.replicate 48 0, true, true, true, true, 0, 0, true, [⟨0, 16777215, true, true⟩], 0⟩ : BootReport)).wf = false ∧
    ((⟨⟨true, 0, 0⟩, none, List.replicate 48 0, List.replicate 48 0, List.replicate 48 0, [], List.replicate 48 0, true, true, true, true, 0, 0, true, [⟨0, 16777215, true, true⟩], 0⟩ : BootReport)).wf = false ∧
    ((⟨⟨true, 0, 0⟩, none, List.replicate 48 0, List.replicate 48 0, List.replicate 48 0, List.replicate 48 0, [], true, true, true, true, 0, 0, true, [⟨0, 16777215, true, true⟩], 0⟩ : BootReport)).wf = false ∧
    ((⟨⟨true, 0, 0⟩, none, List.replicate 48 0, List.replicate 48 0, List.replicate 48 0, List.replicate 48 0, List.replicate 48 0, true, true, true, true, 0, 0, true, [⟨0, 16777216, true, true⟩], 0⟩ : BootReport)).wf = false := by
  decide +kernel

/-- Cycle and time commands. -/
theorem test_wf_cycle_commands :
    ((.timeSet site 18446744073709551615 999999 : Instr)).wf = true ∧
    ((.cycleTick ⟨⟨[⟨64, 0, 0, false, none⟩], 0, 0, 0, 0, 0, 0, []⟩, [], 0, none, false, 0, 0, false, false, ⟨0, 0, 0, false⟩⟩ : Instr)).wf = false ∧
    ((.deadlineMiss 0 0 65536 0 0 : Instr)).wf = false ∧
    ((.deadlineMiss 0 0 0 0 4294967296 : Instr)).wf = false ∧
    ((.resultBlock 0 ⟨true, 0, 20, 0⟩ [] : Instr)).wf = false ∧
    ((.resultBlock 0 ⟨true, 0, 0, 0⟩ [⟨96, [], true, false, 0, []⟩] : Instr)).wf = false ∧
    ((.commandPacket 0 true true [⟨64, 0⟩] : Instr)).wf = false ∧
    ((.failsafeTimeout [⟨64, 0⟩] : Instr)).wf = false ∧
    ((.ptpAnnounce 0 ⟨0, 256, 0, 0, 0, 0, 0, 0, 0, false, false⟩ : Instr)).wf = false ∧
    ((.timeSet site 18446744073709551616 0 : Instr)).wf = false ∧
    ((.timeSet site 0 1000000 : Instr)).wf = false ∧
    ((.timeSet ⟨65536, 1, 64, 7, false, false, 0, none⟩ 0 0 : Instr)).wf = false := by
  decide +kernel

/-- Armed actions: the number is one of 1,024, the message in range. -/
theorem test_wf_action_commands :
    ((.actionArm site 1023 : Instr)).wf = true ∧
    ((.actionArm site 1024 : Instr)).wf = false ∧
    ((.actionCancel site 1024 : Instr)).wf = false ∧
    ((.actionFree site 1024 : Instr)).wf = false ∧
    ((.ready 0 ⟨65536, 0, 0, none⟩ : Instr)).wf = false ∧
    ((.notReady 0 ⟨65536, 0, 0, none⟩ 0 : Instr)).wf = false ∧
    ((.notReady 0 ⟨0, 0, 0, none⟩ 65536 : Instr)).wf = false ∧
    ((.goAck 0 ⟨65536, 0, 0, none⟩ : Instr)).wf = false ∧
    ((.cancelAck 0 ⟨65536, 0, 0, none⟩ : Instr)).wf = false ∧
    ((.done 0 ⟨65536, 0, 0, none⟩ 0 : Instr)).wf = false ∧
    ((.done 0 ⟨0, 0, 0, none⟩ 65536 : Instr)).wf = false := by
  decide +kernel

/-- Die and connection commands. -/
theorem test_wf_die_commands :
    ((.yield 0 4294967295 true : Instr)).wf = true ∧
    ((.yield 0 4294967296 true : Instr)).wf = false ∧
    ((.swapRequest ⟨65536, 1, 64, 7, false, false, 0, none⟩ : Instr)).wf = false ∧
    ((.resyncRequest ⟨65536, 1, 64, 7, false, false, 0, none⟩ : Instr)).wf = false ∧
    ((.dieBootComplete 0 ⟨⟨true, 0, 0⟩, none, [], [], [], [], [], true, true, true, true, 0, 0, true, [], 0⟩ : Instr)).wf = false ∧
    ((.connectionOpen 65536 ⟨false, none, true, 0, [], 0⟩ : Instr)).wf = false ∧
    ((.connectionOpen 0 ⟨false, none, true, 0, tooLong, 0⟩ : Instr)).wf = false ∧
    ((.connectionClose 65536 : Instr)).wf = false := by
  decide +kernel

/-- Dictionary commands: index, sub-index, segment positions, event numbers. -/
theorem test_wf_dictionary_commands :
    ((.read site 65535 255 : Instr)).wf = true ∧
    ((.read site 65536 0 : Instr)).wf = false ∧
    ((.read site 0 256 : Instr)).wf = false ∧
    ((.read ⟨65536, 1, 64, 7, false, false, 0, none⟩ 0 0 : Instr)).wf = false ∧
    ((.write site ⟨65536, 0, 0, []⟩ : Instr)).wf = false ∧
    ((.writeGroup site [⟨0, 0, 0, []⟩, ⟨65536, 0, 0, []⟩] : Instr)).wf = false ∧
    ((.readSegment site 0 0 4294967296 : Instr)).wf = false ∧
    ((.writeSegment site ⟨65536, 0, 0, []⟩ 0 0 true : Instr)).wf = false ∧
    ((.writeSegment site ⟨0, 0, 0, []⟩ 4294967296 0 true : Instr)).wf = false ∧
    ((.writeSegment site ⟨0, 0, 0, []⟩ 0 4294967296 true : Instr)).wf = false ∧
    ((.describe site 65536 0 : Instr)).wf = false ∧
    ((.describe site 0 256 : Instr)).wf = false ∧
    ((.eventRead site 4294967296 0 : Instr)).wf = false ∧
    ((.eventRead site 0 65536 : Instr)).wf = false ∧
    ((.eventSubscribe site 256 : Instr)).wf = false ∧
    ((.eventNotify 65536 0 : Instr)).wf = false ∧
    ((.setSwapNow ⟨65536, 1, 64, 7, false, false, 0, none⟩ : Instr)).wf = false ∧
    ((.shadowCopy ⟨65536, 1, 64, 7, false, false, 0, none⟩ : Instr)).wf = false ∧
    ((.shadowDefaults ⟨65536, 1, 64, 7, false, false, 0, none⟩ : Instr)).wf = false := by
  decide +kernel

/-- Module bus commands: 64 modules, 16 front-end units, 80 units. -/
theorem test_wf_module_bus_commands :
    ((.moduleEnable site 63 255 : Instr)).wf = true ∧
    ((.ack ⟨0, true, 2048, [], 0⟩ : Instr)).wf = false ∧
    ((.moduleEnable site 64 1 : Instr)).wf = false ∧
    ((.moduleEnable site 0 256 : Instr)).wf = false ∧
    ((.feEnable site 16 1 : Instr)).wf = false ∧
    ((.feEnable site 0 256 : Instr)).wf = false ∧
    ((.fault ⟨0, true, 2048, [], 0⟩ : Instr)).wf = false ∧
    ((.status ⟨0, true, 2048, [], 0⟩ : Instr)).wf = false ∧
    ((.xferResponse ⟨0, true, 2048, [], 0⟩ : Instr)).wf = false ∧
    ((.xferRequest ⟨0, true, 2048, [], 0⟩ : Instr)).wf = false ∧
    ((.txReport 0 0 0 0 0 0 (tooLong) : Instr)).wf = false ∧
    ((.canErrorPassive 0 256 0 : Instr)).wf = false ∧
    ((.canErrorPassive 0 0 256 : Instr)).wf = false ∧
    ((.unitTest site 80 1 : Instr)).wf = false ∧
    ((.unitTest site 0 256 : Instr)).wf = false := by
  decide +kernel

/-- Outlet commands: 8 outlets. -/
theorem test_wf_outlet_commands :
    ((.stopRequest site 7 255 : Instr)).wf = true ∧
    ((.appProtocolHandshake 0 [⟨true, 4294967296, 0⟩] : Instr)).wf = false ∧
    ((.authorizationReq 0 true true (tooLong) : Instr)).wf = false ∧
    ((.dcChargeParameterDiscovery 0 ⟨4294967296, 0, 0, 0, 0, 0, none, false, false⟩ : Instr)).wf = false ∧
    ((.loopRequest 0 ⟨4294967296, 0, 0, 0, 0, 0, none, false, false⟩ : Instr)).wf = false ∧
    ((.authResponse site 8 ⟨0, 0, 0, 0⟩ : Instr)).wf = false ∧
    ((.authResponse site 0 ⟨0, 256, 0, 0⟩ : Instr)).wf = false ∧
    ((.eimToken site 8 [] : Instr)).wf = false ∧
    ((.eimToken site 0 (tooLong) : Instr)).wf = false ∧
    ((.stopRequest site 8 1 : Instr)).wf = false ∧
    ((.outletReset site 8 1 : Instr)).wf = false ∧
    ((.outletEnable site 8 1 : Instr)).wf = false ∧
    ((.outletEnable site 0 256 : Instr)).wf = false ∧
    ((.estopReset site 256 : Instr)).wf = false := by
  decide +kernel

/-- Loops (64), converter groups (8), phases (32), monitors (256), strings (8). -/
theorem test_wf_plant_commands :
    ((.monitorTest site 255 1 : Instr)).wf = true ∧
    ((.loopReset site 64 1 : Instr)).wf = false ∧
    ((.groupReset site 8 1 : Instr)).wf = false ∧
    ((.phaseTest site 32 1 : Instr)).wf = false ∧
    ((.phaseReset site 32 1 : Instr)).wf = false ∧
    ((.report 0 ⟨some ⟨0, [], 0⟩, none⟩ : Instr)).wf = false ∧
    ((.monitorJoin 0 ⟨some ⟨0, [], 0⟩, none⟩ : Instr)).wf = false ∧
    ((.alarmReset site 256 1 : Instr)).wf = false ∧
    ((.ropeReenumerate site 8 1 : Instr)).wf = false ∧
    ((.acceptReplacement site 8 1 : Instr)).wf = false ∧
    ((.monitorTest site 256 1 : Instr)).wf = false ∧
    ((.stringRequest site 8 1 : Instr)).wf = false ∧
    ((.stringDerate site 8 1 : Instr)).wf = false ∧
    ((.stringReset site 8 1 : Instr)).wf = false ∧
    ((.stringTest site 8 1 : Instr)).wf = false ∧
    ((.estReset site 8 1 : Instr)).wf = false ∧
    ((.estReset site 0 256 : Instr)).wf = false := by
  decide +kernel

/-- Measurement channels (96), metering points (17), tariff accounts (256), offsets within a frame. -/
theorem test_wf_metering_commands :
    ((.calZero site 95 255 4294967295 : Instr)).wf = true ∧
    ((.captureTrigger 0 1000000 : Instr)).wf = false ∧
    ((.captureForce site 256 : Instr)).wf = false ∧
    ((.captureDone ⟨299, [], [], false⟩ : Instr)).wf = false ∧
    ((.calZero site 96 1 0 : Instr)).wf = false ∧
    ((.calSpan site 96 1 0 : Instr)).wf = false ∧
    ((.calRestore site 96 1 0 : Instr)).wf = false ∧
    ((.calRestore site 0 256 0 : Instr)).wf = false ∧
    ((.calSpan site 0 1 4294967296 : Instr)).wf = false ∧
    ((.mchOpenTest site 96 1 : Instr)).wf = false ∧
    ((.meterCommit 0 [⟨96, [], true, false, 0, []⟩] : Instr)).wf = false ∧
    ((.crossReset site 17 1 : Instr)).wf = false ∧
    ((.peakReset site 17 1 : Instr)).wf = false ∧
    ((.legalLogArchive site 4294967296 : Instr)).wf = false ∧
    ((.pfwAssert 1000000 [] : Instr)).wf = false ∧
    ((.pfwAssert 0 [⟨0, 0, [⟨96, [], true, false, 0, []⟩]⟩] : Instr)).wf = false ∧
    ((.meterStop 0 [⟨96, [], true, false, 0, []⟩] : Instr)).wf = false ∧
    ((.billingClose site 256 : Instr)).wf = false ∧
    ((.creditTopup site 256 0 0 : Instr)).wf = false ∧
    ((.creditTopup site 0 0 4294967296 : Instr)).wf = false ∧
    ((.readingRequest site 17 1 : Instr)).wf = false := by
  decide +kernel

/-- Load channels (40) and Eusor nodes. -/
theorem test_wf_load_commands :
    ((.lcCommand site 39 255 : Instr)).wf = true ∧
    ((.lcCommand site 40 1 : Instr)).wf = false ∧
    ((.lcDuty site 40 0 : Instr)).wf = false ∧
    ((.lcDuty site 0 4294967296 : Instr)).wf = false ∧
    ((.lcReset site 40 1 : Instr)).wf = false ∧
    ((.lcTest site 40 1 : Instr)).wf = false ∧
    ((.beaconPeriodStart 1000000 0 0 true : Instr)).wf = false ∧
    ((.pollReply 0 (List.replicate 513 0) : Instr)).wf = false ∧
    ((.dataFrame 0 0 [[]] : Instr)).wf = false ∧
    ((.dataFrame 0 0 (List.replicate 33 (List.replicate 520 0)) : Instr)).wf = false ∧
    ((.selectiveAck 0 4294967296 : Instr)).wf = false ∧
    ((.toneMap 0 ⟨[], [⟨0, tooLong, true⟩]⟩ : Instr)).wf = false ∧
    ((.join ⟨0, false, 256, 0, [], 0, 0⟩ : Instr)).wf = false ∧
    ((.loadRequest 0 4294967296 true : Instr)).wf = false := by
  decide +kernel

/-- Keys (64), image slots (4), streams and the device's own commands. -/
theorem test_wf_key_commands :
    ((.keyConfirm site 63 18446744073709551615 : Instr)).wf = true ∧
    ((.keyUpdate site 64 [] : Instr)).wf = false ∧
    ((.keyUpdate site 0 (tooLong) : Instr)).wf = false ∧
    ((.keyChallenge site 64 [] : Instr)).wf = false ∧
    ((.keyConfirm site 64 0 : Instr)).wf = false ∧
    ((.keyConfirm site 0 18446744073709551616 : Instr)).wf = false ∧
    ((.slotCert site 64 [] : Instr)).wf = false ∧
    ((.slotManifest site 4 [] : Instr)).wf = false ∧
    ((.slotBlock site 4 [] : Instr)).wf = false ∧
    ((.slotBlock site 0 (tooLong) : Instr)).wf = false ∧
    ((.slotErase site 4 1 : Instr)).wf = false ∧
    ((.fwConfirm site 256 : Instr)).wf = false ∧
    ((.fwFallback site 256 : Instr)).wf = false ∧
    ((.recoveryBoot site 256 : Instr)).wf = false ∧
    ((.tamper 0 0 ⟨16, 0, 0, false⟩ : Instr)).wf = false ∧
    ((.prepareFailed 0 0 : Instr)).wf = false ∧
    ((.prepareFailed 0 13 : Instr)).wf = false ∧
    ((.streamReady [] : Instr)).wf = false ∧
    ((.streamCredit [] : Instr)).wf = false ∧
    ((.streamMask site 256 : Instr)).wf = false ∧
    ((.recoveryEnter site 256 : Instr)).wf = false ∧
    ((.recoveryExit site 256 : Instr)).wf = false ∧
    ((.testEnter site 256 : Instr)).wf = false ∧
    ((.sleepRequest site 256 : Instr)).wf = false ∧
    ((.shipRequest site 256 : Instr)).wf = false ∧
    ((.shipEntry [⟨0, 0, [⟨96, [], true, false, 0, []⟩]⟩] : Instr)).wf = false := by
  decide +kernel

/-- Published values: the check value of the CRC-32 of IEEE 802.3 (R455), the digests of "abc" of FIPS 180-4 (R415, R437), the binary32
patterns of 0.1 and of −2.5 (R87), and the date that starts the day count. -/
theorem test_published_values :
    crc32 (asciiBytes [49, 50, 51, 52, 53, 54, 55, 56, 57]) = 0xCBF43926 ∧
    sha256 [0x61#8, 0x62#8, 0x63#8] =
      [0xba#8, 0x78#8, 0x16#8, 0xbf#8, 0x8f#8, 0x01#8, 0xcf#8, 0xea#8, 0x41#8, 0x41#8, 0x40#8, 0xde#8, 0x5d#8, 0xae#8, 0x22#8, 0x23#8, 0xb0#8, 0x03#8, 0x61#8, 0xa3#8, 0x96#8, 0x17#8, 0x7a#8, 0x9c#8, 0xb4#8, 0x10#8, 0xff#8, 0x61#8, 0xf2#8, 0x00#8, 0x15#8, 0xad#8] ∧
    (sha384 [0x61#8, 0x62#8, 0x63#8]).take 8 = [0xcb#8, 0x00#8, 0x75#8, 0x3f#8, 0x45#8, 0xa3#8, 0x5e#8, 0x8b#8] ∧
    F32.ofRat (1 / 10) = 0x3DCCCCCD ∧ F32.ofRat (-5 / 2) = 0xC0200000 ∧ dayNumber 2000 1 1 = 0 := by
  decide +kernel

/-- Outlet 7 with its channels bound, enabled. -/
def outlet7 : State := (((((((rig.setNat Ent.VOLTAGE_MCH 7 10).setNat Ent.CURRENT_MCH 7 11).setNat Ent.IMD_MCH 7 12).setNat Ent.CONFIRM_MCH 7 13).setNat Ent.CONTACTOR_CHANNEL 7 4).setNat Ent.LOCK_CHANNEL 7 5).setNat Ent.OUTLET_ENABLE 7 1)

/-- String 7 with its channels bound and two monitors, enabled. -/
def string7 : State := (((((((((((rig.setNat Ent.MONITOR_COUNT 7 2).setNat Ent.POS_CHANNEL 7 30).setNat Ent.NEG_CHANNEL 7 31).setNat Ent.PRE_CHANNEL 7 32).setNat Ent.STRING_ENABLE 7 1).setNat Ent.GROUP_ENABLE 7 1).setNat Ent.STRING_V_MCH 7 40).setNat Ent.STRING_I_MCH 7 41).setNat Ent.STRING_IMD_MCH 7 42).setNat Ent.STRING_SIDE_V_MCH 7 43).setNat Ent.BUS_V_MCH 7 44)

/-- Group 7 with phases 30 and 31, at 1,000 V and 800 V. -/
def phase7 : State := (((((((((rig.setNat Ent.PHASE_GROUP 30 7).setNat Ent.PHASE_GROUP 31 7).setNat Ent.FIRE_POSITION 31 1).setNat Ent.PHASE_I_MCH 30 20).setNat Ent.PHASE_I_MCH 31 21).setNat Ent.BUS_V_MCH 7 22).setNat Ent.STRING_SIDE_V_MCH 7 23).setRat Ent.MCH_VALUE 22 1000).setRat Ent.MCH_VALUE 23 800)

/-- Module 5 and a front end on CAN channel 1. -/
def buses : State := ((((((rig.setNat Ent.CHANNEL_STATE 1 Can.ERROR_ACTIVE).setNat Ent.CHANNEL_ENABLE 1 1).setNat Ent.MODULE_BUS_CHANNEL 5 1).setNat Ent.MODULE_BUS_NODE 5 9).setNat Ent.FE_BUS_CHANNEL 2 1).setNat Ent.FE_BUS_NODE 2 10)

/-- Node 127 enabled with its UID, the network key and the join key held. -/
def eusor127 : State := { (((rig.setNat Ent.EUSOR_ENABLE 0 1).setNat Ent.NODE_ENABLE 127 1).setNat Ent.NODE_UID 127 0x123456789A) with keys := { rig.keys with slots := [(3, ⟨3, 1, some ⟨List.replicate 16 1#8, false, []⟩, none, 1, 0, 0, none⟩), (4, ⟨4, 1, some ⟨List.replicate 16 2#8, false, []⟩, none, 1, 0, 0, none⟩)] } }

/-- The request as which a write of one entry is taken in. -/
def heldOf (s : State) (c : Client) (e : Entry) (n : Nat) (v : Val) (j : Nat := 0) : Held :=
  let k := (Tab.find s.tx.conns c.conn).getD ⟨false, .reader, [], 0, none, []⟩
  ⟨s.sfn, c.offset, (s.tx.freeTag c.conn).getD 0, c.conn, k.role, k.service, k.identity, c.reqId, Op.WRITE, c.shadow, c.queue, [e.item n v j]⟩

/-- The checks of `State.accepts` on that request. -/
def passes (s : State) (c : Client) (e : Entry) (n : Nat) (v : Val) (j : Nat := 0) : Bool :=
  let h := heldOf s c e n v j
  decide (headerStatus c = St.OK) && (Tab.find s.tx.conns c.conn).isSome && (s.keptFor h.identity c.reqId).isNone &&
    (s.tx.freeTag c.conn).isSome && s.applying && decide ((s.takeTag h.tag (some c.conn)).clientReceipt e n (e.item n v j) h = St.OK)

theorem accepts_of_passes (s : State) (c : Client) (e : Entry) (n : Nat) (v : Val) (j : Nat) (hp : passes s c e n v j = true) :
    s.accepts c e n v (heldOf s c e n v j) j := by
  simp only [passes, Bool.and_eq_true, decide_eq_true_eq, Option.isSome_iff_exists, Option.isNone_iff_eq_none] at hp
  obtain ⟨⟨⟨⟨⟨h1, k, hk⟩, h3⟩, t, ht⟩, h5⟩, h6⟩ := hp
  refine ⟨k, t, hk, h1, ?_, ht, h5, ?_, ?_⟩
  · simpa [heldOf, hk] using h3
  · simp [heldOf, hk, ht]
  · simpa [heldOf, hk, ht] using h6

/-- A device under signed key updates with a key manager of certificate [9], and an update signed by it. -/
def keyRig : State := ((((rig.setNat Ent.KEY_WRITE_MODE 0 (0)).setNat Ent.ANCHOR_ENABLE 0 (1)).setNat Ent.ANCHOR_ROLE 0 (4)).setBytes Ent.ANCHOR_CERT 0 ([9#8]))
def keyMsg : List Byte := ([1#8, 63#8, 4#8, 1#8, 1#8, 0#8, 0#8, 0#8, 1#8] ++ List.replicate 311 0#8)

theorem issuer_known (a : (sha256 (Config.certKey [9#8])).take 8 = List.replicate 8 0#8) :
    keyRig.issuerKey ((keyMsg.drop 20).take 8) = some (Config.certKey [9#8]) := by
  have e : keyRig.bytes Ent.ANCHOR_CERT 0 = [9#8] := by decide +kernel
  have p : (keyRig.flag Ent.ANCHOR_ENABLE 0 && keyRig.nat Ent.ANCHOR_ROLE 0 == 4 &&
      (sha256 (Config.certKey (keyRig.bytes Ent.ANCHOR_CERT 0))).take 8 == (keyMsg.drop 20).take 8) = true := by
    rw [e, a]; decide +kernel
  unfold State.issuerKey
  rw [show List.range 16 = 0 :: List.range' 1 15 from rfl]
  simp only [List.find?_cons, p]
  simp only [Option.map_some, e]

/-- Under an issuer key and a signature as assumed of the free values, the update passes. -/
theorem keyStatus_ok (a : (sha256 (Config.certKey [9#8])).take 8 = List.replicate 8 0#8)
    (b : Config.verifies (Config.certKey [9#8]) (keyMsg.take 224) (keyMsg.drop 224) = true) : keyRig.keyStatus 63 keyMsg = St.OK := by
  simp only [State.keyStatus, issuer_known a, Option.getD_some, Option.isNone_some, b]
  decide +kernel

/-- A manifest of one block for a main slot. -/
def mainManifest : List Byte := ([1#8, 1#8, 0#8, 0#8, 0#8, 0#8, 0#8, 0#8, 3#8, 0#8, 0#8, 0#8, 1#8, 0#8, 0#8, 0#8, 66#8, 49#8] ++ List.replicate 366 0#8)

theorem manifestStatus_ok (a : (sha256 (Config.imageKey 1)).take 8 = List.replicate 8 0#8)
    (b : Config.verifies (Config.imageKey 1) (mainManifest.take 288) (mainManifest.drop 288) = true) :
    rig.manifestStatus 1 mainManifest = St.OK := by
  simp only [State.manifestStatus, show leAt mainManifest 1 1 = 1 by decide +kernel, show mainManifest.length - 96 = 288 by decide +kernel, a, b]
  decide +kernel

/-- States and operands that meet the hypotheses of StepRunsTheFrontCommand, clause by clause. -/
theorem witness_StepRunsTheFrontCommand :
    (∃ s : State, ∃ m : Instr, ∃ rest : List Instr, s.pending = [] ∧ s.mirror.again = m :: rest) ∧
    (∃ s : State, s.pending = [] ∧ s.mirror.again = []) :=
  ⟨⟨{ rig with mirror := { rig.mirror with again := [.stepLastDayEnd, .streamLinkDown] } }, .stepLastDayEnd, [.streamLinkDown], by decide +kernel⟩,
   ⟨rig, by decide +kernel⟩⟩

/-- States and operands that meet the hypotheses of TickAdvancesTheClock, clause by clause. -/
theorem witness_TickAdvancesTheClock :
    (∃ s : State, s.cycle = 0 ∧ s.tx.step = 0 ∧ s.controlUp = true) ∧
    (∃ s : State, (s.cycle ≠ 0 ∨ s.tx.step ≠ 0)) ∧
    (∃ s : State, ∃ die : Fin 6, ∃ half : Fin 2, ∃ task : Nat, ∃ period : Nat, ∃ overrun : Nat, let key := die.val * 65536 + low 16 task; let before := Tab.get (0, 0) s.die.misses key; let last := if 0 < period ∧ before.1 + period = s.ticks then before.2 else 0; (Tab.find s.die.misses key).map Prod.fst ≠ some s.ticks ∧ s.die.switchFrame ≠ some s.sfn ∧ last ≠ 2 ∧ s.nat Ent.DEADLINE_MISS_COUNT + 1 < 2 ^ 32) ∧
    (∃ s : State, ∃ die : Fin 6, ∃ half : Fin 2, ∃ task : Nat, ∃ period : Nat, ∃ overrun : Nat, let key := die.val * 65536 + low 16 task; let before := Tab.get (0, 0) s.die.misses key; let last := if 0 < period ∧ before.1 + period = s.ticks then before.2 else 0; (Tab.find s.die.misses key).map Prod.fst ≠ some s.ticks ∧ s.die.switchFrame = some s.sfn) :=
  ⟨⟨{ rig with tx := { rig.tx with step := 0 } }, by decide +kernel⟩,
   ⟨rig, by decide +kernel⟩,
   ⟨{ rig with die := { rig.die with misses := [(5, (1999999990, 1))] } }, 0, 0, 5, 10, 4, by decide +kernel⟩,
   ⟨{ rig with die := { rig.die with switchFrame := some 800000000000 } }, 5, 1, 65535, 0, 4294967295, by decide +kernel⟩⟩

/-- States and operands that meet the hypotheses of SiteTimeEntersItsStates, clause by clause. -/
theorem witness_SiteTimeEntersItsStates :
    (∃ s : State, ∃ port : Fin 2, ∃ a : Announce, a.domain = s.nat Ent.PTP_DOMAIN ∧ s.time.master = none ∧ (s.nat Ent.TIME_SOURCE_MODE = 2 ∨ (s.nat Ent.TIME_SOURCE_MODE = 1 ∧ betterClock (announceKey a) s.ownKey = true))) ∧
    (∃ s : State, ∃ port : Fin 2, ∃ a : Announce, (s.nat Ent.TIME_SOURCE_MODE = 0 ∨ a.domain ≠ s.nat Ent.PTP_DOMAIN)) ∧
    (∃ s : State, ∃ port : Fin 2, ∃ offset : Int, s.nat Ent.TIME_SOURCE_MODE ≠ 0 ∧ s.time.master.isSome ∧ s.time.upstream = port.val + 1 ∧ s.time.state = .acquiring ∧ offset.natAbs < 1000 ∧ 15 ≤ s.time.syncRun) ∧
    (∃ s : State, ∃ port : Fin 2, ∃ offset : Int, s.nat Ent.TIME_SOURCE_MODE ≠ 0 ∧ s.time.master.isSome ∧ s.time.upstream = port.val + 1 ∧ s.time.state = .acquiring ∧ offset.natAbs < 1000 ∧ s.time.syncRun < 15) ∧
    (∃ s : State, ∃ port : Fin 2, ∃ offset : Int, s.nat Ent.TIME_SOURCE_MODE ≠ 0 ∧ s.time.master.isSome ∧ s.time.upstream = port.val + 1 ∧ s.time.state = .acquiring ∧ 1000 ≤ offset.natAbs ∧ (s.time.slewNs ≠ 0 ∨ s.time.stepNs.isSome)) ∧
    (∃ s : State, ∃ port : Fin 2, ∃ offset : Int, s.nat Ent.TIME_SOURCE_MODE ≠ 0 ∧ s.time.master.isSome ∧ s.time.upstream = port.val + 1 ∧ s.time.state = .acquiring ∧ 1000 ≤ offset.natAbs ∧ s.time.slewNs = 0 ∧ s.time.stepNs = none) ∧
    (∃ s : State, ∃ port : Fin 2, s.portUp port = true) ∧
    (∃ s : State, ∃ port : Fin 2, s.time.master.isSome ∧ s.time.upstream = port.val + 1 ∧ let other := if port.val = 0 then s.time.heard1 else s.time.heard0; (∀ h, other = some h → h + 60000 < s.ticks) ∧ s.time.state = .locked) ∧
    (∃ s : State, ∃ port : Fin 2, s.time.master.isSome ∧ s.time.upstream = port.val + 1 ∧ let other := if port.val = 0 then s.time.heard1 else s.time.heard0; (∀ h, other = some h → h + 60000 < s.ticks) ∧ s.time.state ≠ .locked) ∧
    (∃ s : State, ∃ port : Fin 2, s.time.master.isSome ∧ s.time.upstream = port.val + 1 ∧ let other := if port.val = 0 then s.time.heard1 else s.time.heard0; ∃ h : _, other = some h ∧ s.ticks ≤ h + 60000) :=
  ⟨⟨rig.setNat Ent.TIME_SOURCE_MODE 0 2, 1, (⟨5, 1, 6, 33, 100, 2, 0, 0, 37, true, false⟩), by decide +kernel⟩,
   ⟨rig.setNat Ent.TIME_SOURCE_MODE 0 0, 1, (⟨5, 1, 6, 33, 100, 2, 0, 0, 37, true, false⟩), by decide +kernel⟩,
   ⟨{ (rig.setNat Ent.TIME_SOURCE_MODE 0 1) with time := { rig.time with master := some ⟨5, 1, 6, 33, 100, 2, 0, 0, 37, true, false⟩, upstream := 2, state := .acquiring, syncRun := 15, heard0 := none, heard1 := none } }, 1, -999, by decide +kernel⟩,
   ⟨{ (rig.setNat Ent.TIME_SOURCE_MODE 0 1) with time := { rig.time with master := some ⟨5, 1, 6, 33, 100, 2, 0, 0, 37, true, false⟩, upstream := 2, state := .acquiring, syncRun := 14, heard0 := none, heard1 := none } }, 1, 999, by decide +kernel⟩,
   ⟨{ (rig.setNat Ent.TIME_SOURCE_MODE 0 1) with time := { rig.time with master := some ⟨5, 1, 6, 33, 100, 2, 0, 0, 37, true, false⟩, upstream := 2, state := .acquiring, syncRun := 15, heard0 := none, heard1 := none, slewNs := 5 } }, 1, 1000, by decide +kernel⟩,
   ⟨{ (rig.setNat Ent.TIME_SOURCE_MODE 0 1) with time := { rig.time with master := some ⟨5, 1, 6, 33, 100, 2, 0, 0, 37, true, false⟩, upstream := 2, state := .acquiring, syncRun := 15, heard0 := none, heard1 := none } }, 1, -1000, by decide +kernel⟩,
   ⟨rig, 1, by decide +kernel⟩,
   ⟨{ (rig.setNat Ent.TIME_SOURCE_MODE 0 1) with time := { rig.time with master := some ⟨5, 1, 6, 33, 100, 2, 0, 0, 37, true, false⟩, upstream := 2, state := .locked, syncRun := 15, heard0 := some 1999939999, heard1 := none } }, 1, by decide +kernel, by decide +kernel, by simp +decide [rig], by decide +kernel⟩,
   ⟨{ (rig.setNat Ent.TIME_SOURCE_MODE 0 1) with time := { rig.time with master := some ⟨5, 1, 6, 33, 100, 2, 0, 0, 37, true, false⟩, upstream := 2, state := .acquiring, syncRun := 15, heard0 := some 1999939999, heard1 := none } }, 1, by decide +kernel, by decide +kernel, by simp +decide [rig], by decide +kernel⟩,
   ⟨{ (rig.setNat Ent.TIME_SOURCE_MODE 0 1) with time := { rig.time with master := some ⟨5, 1, 6, 33, 100, 2, 0, 0, 37, true, false⟩, upstream := 2, state := .locked, syncRun := 15, heard0 := some 1999940000, heard1 := none } }, 1, by decide +kernel, by decide +kernel, 1999940000, by decide +kernel⟩⟩

/-- States and operands that meet the hypotheses of TimeSetStartsACorrection, clause by clause. -/
theorem witness_TimeSetStartsACorrection :
    (∃ s : State, ∃ c : Client, ∃ sfn : Nat, ∃ ns : Nat, ∃ h : Held, s.accepts c Ent.TIME_SET 0 (.bytes (time64 sfn ns)) h ∧ (s.nat Ent.TIME_SOURCE_MODE = 0 ∨ (s.nat Ent.TIME_SOURCE_MODE = 1 ∧ s.time.master = none))) ∧
    (∃ s : State, ∃ c : Client, ∃ sfn : Nat, ∃ ns : Nat, ∃ h : Held, s.accepts c Ent.TIME_SET 0 (.bytes (time64 sfn ns)) h ∧ (¬(s.nat Ent.TIME_SOURCE_MODE = 0 ∨ (s.nat Ent.TIME_SOURCE_MODE = 1 ∧ s.time.master = none)))) :=
  ⟨⟨rig, site, 800000000001, 999999, _, accepts_of_passes _ _ _ _ _ _ (by decide +kernel), by decide +kernel⟩,
   ⟨rig.setNat Ent.TIME_SOURCE_MODE 0 2, site, 800000000001, 999999, _, accepts_of_passes _ _ _ _ _ _ (by decide +kernel), by decide +kernel⟩⟩

/-- States and operands that meet the hypotheses of TimeStepRenumbersTheFrames, clause by clause. -/
theorem witness_TimeStepRenumbersTheFrames :
    (∃ s : State, ∃ d : Int, ∃ b : Nat, s.time.stepNs = some (d, b) ∧ s.cycle = 0 ∧ b + 20 ≤ s.ticks) ∧
    (∃ s : State, ∃ b : Nat, s.time.stepDay = some b ∧ b + 86400 * 20000 ≤ s.ticks) ∧
    (∃ s : State, s.int Ent.LEAP_PENDING ≠ 0 ∧ -32768 ≤ s.int Ent.TAI_UTC_OFFSET + s.int Ent.LEAP_PENDING ∧ s.int Ent.TAI_UTC_OFFSET + s.int Ent.LEAP_PENDING ≤ 32767) ∧
    (∃ s : State, (s.time.state = .locked ∨ s.time.state = .set)) ∧
    (∃ s : State, s.isGrandmaster = true) ∧
    (∃ s : State, s.isGrandmaster = false) :=
  ⟨⟨{ rig with time := { rig.time with stepNs := some (30000500000, 1999999980) } }, 30000500000, 1999999980, by decide +kernel⟩,
   ⟨{ rig with time := { rig.time with stepDay := some 272000000 } }, 272000000, by decide +kernel⟩,
   ⟨rig.setInt Ent.LEAP_PENDING 0 (-1), by decide +kernel⟩,
   ⟨rig, by decide +kernel⟩,
   ⟨rig.setNat Ent.TIME_SOURCE_MODE 0 0, by decide +kernel⟩,
   ⟨rig.setNat Ent.TIME_SOURCE_MODE 0 2, by decide +kernel⟩⟩

/-- States and operands that meet the hypotheses of ScheduledActionsAreArmedCancelledFreed, clause by clause. -/
theorem witness_ScheduledActionsAreArmedCancelledFreed :
    (∃ s : State, ∃ c : Client, ∃ i : Nat, ∃ h : Held, s.accepts c Ent.ACTION_CONTROL i (.num 1) h ∧ s.aState i = Act.FREE ∧ s.aGroup i = 0 ∧ (s.taken h).armStatus i = St.OK) ∧
    (∃ s : State, ∃ c : Client, ∃ i : Nat, ∃ h : Held, s.accepts c Ent.ACTION_CONTROL i (.num 1) h ∧ s.aState i = Act.ARMED) ∧
    (∃ s : State, ∃ c : Client, ∃ i : Nat, ∃ h : Held, s.accepts c Ent.ACTION_CONTROL i (.num 2) h ∧ s.aState i = Act.ARMED ∧ s.aGroup i = 0) ∧
    (∃ s : State, ∃ c : Client, ∃ i : Nat, ∃ h : Held, s.accepts c Ent.ACTION_CONTROL i (.num 3) h ∧ Act.GO < s.aState i) ∧
    (∃ s : State, ∃ c : Client, ∃ i : Nat, ∃ h : Held, s.accepts c Ent.ACTION_CONTROL i (.num 3) h ∧ s.aState i = Act.ARMED) :=
  ⟨⟨(((rig.setNat Ent.ACTION_STATE 3 Act.FREE).setNat Ent.ACTION_TYPE 3 ActType.MARK).setNat Ent.ACTION_SFN 3 800000020000), site, 3, _, accepts_of_passes _ _ _ _ _ _ (by decide +kernel), by decide +kernel⟩,
   ⟨((rig.setNat Ent.ACTION_STATE 3 Act.ARMED).setNat Ent.ACTION_SFN 3 800000020000), site, 3, _, accepts_of_passes _ _ _ _ _ _ (by decide +kernel), by decide +kernel⟩,
   ⟨((rig.setNat Ent.ACTION_STATE 1023 Act.ARMED).setNat Ent.ACTION_SFN 1023 800000020000), site, 1023, _, accepts_of_passes _ _ _ _ _ _ (by decide +kernel), by decide +kernel⟩,
   ⟨(rig.setNat Ent.ACTION_STATE 0 Act.EXECUTED), site, 0, _, accepts_of_passes _ _ _ _ _ _ (by decide +kernel), by decide +kernel⟩,
   ⟨(rig.setNat Ent.ACTION_STATE 0 Act.ARMED), site, 0, _, accepts_of_passes _ _ _ _ _ _ (by decide +kernel), by decide +kernel⟩⟩

/-- States and operands that meet the hypotheses of TwoPhaseAnswersAreNoted, clause by clause. -/
theorem witness_TwoPhaseAnswersAreNoted :
    (∃ s : State, ∃ i : Fin 1024, ∃ m : TwoPhase, m.frame = none ∧ s.answers i m = true ∧ s.aState i = Act.ANNOUNCED) ∧
    (∃ s : State, ∃ i : Fin 1024, ∃ m : TwoPhase, m.frame = none ∧ s.answers i m = true ∧ s.aState i = Act.GO) ∧
    (∃ s : State, ∃ i : Fin 1024, ∃ m : TwoPhase, m.frame = none ∧ s.answers i m = true ∧ ∃ status : Nat, s.aType i ≠ ActType.SET_SWAP) ∧
    (∃ s : State, ∃ i : Fin 1024, ∃ m : TwoPhase, m.frame = none ∧ s.answers i m = true ∧ ∃ reason : Nat, (s.aState i = Act.ANNOUNCED ∨ s.aState i = Act.GO) ∧ s.sfn + s.nat Ent.ACTION_CANCEL_GUARD i ≤ s.aSfn i ∧ (s.group i).locked = false) ∧
    (∃ s : State, ∃ i : Fin 1024, ∃ m : TwoPhase, m.frame = none ∧ ∃ k : _, k ∈ s.records i ∧ (s.group k).gid = m.group ∧ low 32 (s.group k).sfn = m.sfnLow) ∧
    (∃ s : State, ∃ i : Fin 1024, ∃ m : TwoPhase, m.frame = none ∧ s.answers i m = false) ∧
    (∃ s : State, ∃ i : Fin 1024, ∃ m : TwoPhase, ∃ r : CanRx, ∃ u : Nat, m.frame = some r ∧ s.hears r u ∧ let a : TwoPhase := ⟨if u < 64 then 0x1000 + u else 0x2000 + (u - 64), leAt r.data 0 2, leAt r.data 4 4, none⟩; s.answers i a = true ∧ s.aState i = Act.ANNOUNCED ∧ frameIs r 6 1 12 64 = true) ∧
    (∃ s : State, ∃ i : Fin 1024, ∃ m : TwoPhase, ∃ r : CanRx, ∃ u : Nat, m.frame = some r ∧ s.hears r u ∧ let a : TwoPhase := ⟨if u < 64 then 0x1000 + u else 0x2000 + (u - 64), leAt r.data 0 2, leAt r.data 4 4, none⟩; s.answers i a = true ∧ (s.aState i = Act.ANNOUNCED ∨ s.aState i = Act.GO) ∧ frameIs r 6 2 12 64 = true ∧ s.sfn + s.nat Ent.ACTION_CANCEL_GUARD i ≤ s.aSfn i ∧ (s.group i).locked = false) ∧
    (∃ s : State, ∃ i : Fin 1024, ∃ m : TwoPhase, ∃ r : CanRx, ∃ u : Nat, m.frame = some r ∧ s.hears r u ∧ let a : TwoPhase := ⟨if u < 64 then 0x1000 + u else 0x2000 + (u - 64), leAt r.data 0 2, leAt r.data 4 4, none⟩; s.answers i a = true ∧ s.aState i = Act.GO ∧ frameIs r 6 4 12 64 = true) ∧
    (∃ s : State, ∃ i : Fin 1024, ∃ m : TwoPhase, ∃ r : CanRx, ∃ u : Nat, m.frame = some r ∧ s.hears r u ∧ let a : TwoPhase := ⟨if u < 64 then 0x1000 + u else 0x2000 + (u - 64), leAt r.data 0 2, leAt r.data 4 4, none⟩; frameIs r 6 6 12 64 = true ∧ ∃ k : _, k ∈ s.records i ∧ (s.group k).gid = a.group ∧ low 32 (s.group k).sfn = a.sfnLow) ∧
    (∃ s : State, ∃ i : Fin 1024, ∃ m : TwoPhase, ∃ r : CanRx, ∃ u : Nat, m.frame = some r ∧ s.hears r u ∧ let a : TwoPhase := ⟨if u < 64 then 0x1000 + u else 0x2000 + (u - 64), leAt r.data 0 2, leAt r.data 4 4, none⟩; s.answers i a = true ∧ s.aType i ≠ ActType.SET_SWAP ∧ frameIs r 6 7 12 64 = true) :=
  ⟨⟨{ ((((rig.setNat Ent.ACTION_STATE 5 Act.ANNOUNCED).setNat Ent.ACTION_GROUP_ID 5 9).setNat Ent.ACTION_SFN 5 800000020000).setNat Ent.ACTION_TYPE 5 ActType.MARK) with groups := [(5, ⟨9, 800000020000, [⟨0x3001, false, false, false, none⟩, ⟨0x3002, true, true, true, some 0⟩], true, false, false, 99999900⟩)] }, 5, (⟨0x3001, 9, low 32 800000020000, none⟩), by decide +kernel⟩,
   ⟨{ ((((rig.setNat Ent.ACTION_STATE 5 Act.GO).setNat Ent.ACTION_GROUP_ID 5 9).setNat Ent.ACTION_SFN 5 800000020000).setNat Ent.ACTION_TYPE 5 ActType.MARK) with groups := [(5, ⟨9, 800000020000, [⟨0x3001, true, false, false, none⟩, ⟨0x3002, true, true, true, some 0⟩], true, false, false, 99999900⟩)] }, 5, (⟨0x3001, 9, low 32 800000020000, none⟩), by decide +kernel⟩,
   ⟨{ ((((rig.setNat Ent.ACTION_STATE 5 Act.EXECUTED).setNat Ent.ACTION_GROUP_ID 5 9).setNat Ent.ACTION_SFN 5 800000020000).setNat Ent.ACTION_TYPE 5 ActType.MARK) with groups := [(5, ⟨9, 800000020000, [⟨0x3001, true, true, false, none⟩, ⟨0x3002, true, true, true, some 0⟩], true, false, false, 99999900⟩)] }, 5, (⟨0x3001, 9, low 32 800000020000, none⟩), by decide +kernel, by decide +kernel, 0, by decide +kernel⟩,
   ⟨{ ((((rig.setNat Ent.ACTION_STATE 5 Act.ANNOUNCED).setNat Ent.ACTION_GROUP_ID 5 9).setNat Ent.ACTION_SFN 5 800000000500).setNat Ent.ACTION_TYPE 5 ActType.MARK) with groups := [(5, ⟨9, 800000000500, [⟨0x3001, true, false, false, none⟩, ⟨0x3002, true, true, true, some 0⟩], true, false, false, 99999900⟩)] }, 5, (⟨0x3001, 9, low 32 800000000500, none⟩), by decide +kernel, by decide +kernel, 4, by decide +kernel⟩,
   ⟨{ ((((rig.setNat Ent.ACTION_STATE 5 Act.CANCELLED).setNat Ent.ACTION_GROUP_ID 5 9).setNat Ent.ACTION_SFN 5 800000020000).setNat Ent.ACTION_TYPE 5 ActType.MARK) with groups := [(5, ⟨9, 800000020000, [⟨0x3001, true, false, false, none⟩, ⟨0x3002, true, true, true, some 0⟩], true, true, false, 99999900⟩)] }, 5, (⟨0x3001, 9, low 32 800000020000, none⟩), by decide +kernel, 5, by decide +kernel⟩,
   ⟨rig, 5, (⟨0x3001, 9, low 32 800000020000, none⟩), by decide +kernel⟩,
   ⟨{ ((((((((((rig.setNat Ent.ACTION_STATE 5 Act.ANNOUNCED).setNat Ent.ACTION_GROUP_ID 5 9).setNat Ent.ACTION_SFN 5 800000020000).setNat Ent.ACTION_TYPE 5 ActType.MARK).setNat Ent.CHANNEL_STATE 1 Can.ERROR_ACTIVE).setNat Ent.CHANNEL_ENABLE 1 1).setNat Ent.MODULE_BUS_CHANNEL 5 1).setNat Ent.MODULE_BUS_NODE 5 9).setNat Ent.FE_BUS_CHANNEL 2 1).setNat Ent.FE_BUS_NODE 2 10) with groups := [(5, ⟨9, 800000020000, [⟨0x1005, false, false, false, none⟩, ⟨0x3002, true, true, true, some 0⟩], true, false, false, 99999900⟩)] }, 5, (⟨0, 0, 0, some ⟨1, true, 1577, (leBytes 2 9 ++ leBytes 2 0 ++ leBytes 4 (low 32 800000020000) ++ leBytes 4 0), 77⟩⟩), (⟨1, true, 1577, (leBytes 2 9 ++ leBytes 2 0 ++ leBytes 4 (low 32 800000020000) ++ leBytes 4 0), 77⟩), 5, by decide +kernel, by simp only [State.hears]; decide +kernel, by decide +kernel⟩,
   ⟨{ ((((((((((rig.setNat Ent.ACTION_STATE 5 Act.ANNOUNCED).setNat Ent.ACTION_GROUP_ID 5 9).setNat Ent.ACTION_SFN 5 800000000500).setNat Ent.ACTION_TYPE 5 ActType.MARK).setNat Ent.CHANNEL_STATE 1 Can.ERROR_ACTIVE).setNat Ent.CHANNEL_ENABLE 1 1).setNat Ent.MODULE_BUS_CHANNEL 5 1).setNat Ent.MODULE_BUS_NODE 5 9).setNat Ent.FE_BUS_CHANNEL 2 1).setNat Ent.FE_BUS_NODE 2 10) with groups := [(5, ⟨9, 800000000500, [⟨0x1005, false, false, false, none⟩, ⟨0x3002, true, true, true, some 0⟩], true, false, false, 99999900⟩)] }, 5, (⟨0, 0, 0, some ⟨1, true, 1609, (leBytes 2 9 ++ leBytes 2 0 ++ leBytes 4 (low 32 800000000500) ++ leBytes 4 0), 77⟩⟩), (⟨1, true, 1609, (leBytes 2 9 ++ leBytes 2 0 ++ leBytes 4 (low 32 800000000500) ++ leBytes 4 0), 77⟩), 5, by decide +kernel, by simp only [State.hears]; decide +kernel, by decide +kernel⟩,
   ⟨{ ((((((((((rig.setNat Ent.ACTION_STATE 5 Act.GO).setNat Ent.ACTION_GROUP_ID 5 9).setNat Ent.ACTION_SFN 5 800000020000).setNat Ent.ACTION_TYPE 5 ActType.MARK).setNat Ent.CHANNEL_STATE 1 Can.ERROR_ACTIVE).setNat Ent.CHANNEL_ENABLE 1 1).setNat Ent.MODULE_BUS_CHANNEL 5 1).setNat Ent.MODULE_BUS_NODE 5 9).setNat Ent.FE_BUS_CHANNEL 2 1).setNat Ent.FE_BUS_NODE 2 10) with groups := [(5, ⟨9, 800000020000, [⟨0x1005, true, false, false, none⟩, ⟨0x3002, true, true, true, some 0⟩], true, false, false, 99999900⟩)] }, 5, (⟨0, 0, 0, some ⟨1, true, 1673, (leBytes 2 9 ++ leBytes 2 0 ++ leBytes 4 (low 32 800000020000) ++ leBytes 4 0), 77⟩⟩), (⟨1, true, 1673, (leBytes 2 9 ++ leBytes 2 0 ++ leBytes 4 (low 32 800000020000) ++ leBytes 4 0), 77⟩), 5, by decide +kernel, by simp only [State.hears]; decide +kernel, by decide +kernel⟩,
   ⟨{ ((((((((((rig.setNat Ent.ACTION_STATE 5 Act.CANCELLED).setNat Ent.ACTION_GROUP_ID 5 9).setNat Ent.ACTION_SFN 5 800000020000).setNat Ent.ACTION_TYPE 5 ActType.MARK).setNat Ent.CHANNEL_STATE 1 Can.ERROR_ACTIVE).setNat Ent.CHANNEL_ENABLE 1 1).setNat Ent.MODULE_BUS_CHANNEL 5 1).setNat Ent.MODULE_BUS_NODE 5 9).setNat Ent.FE_BUS_CHANNEL 2 1).setNat Ent.FE_BUS_NODE 2 10) with groups := [(5, ⟨9, 800000020000, [⟨0x1005, false, false, false, none⟩, ⟨0x3002, true, true, true, some 0⟩], true, true, false, 99999900⟩)] }, 5, (⟨0, 0, 0, some ⟨1, true, 1737, (leBytes 2 9 ++ leBytes 2 0 ++ leBytes 4 (low 32 800000020000) ++ leBytes 4 0), 77⟩⟩), (⟨1, true, 1737, (leBytes 2 9 ++ leBytes 2 0 ++ leBytes 4 (low 32 800000020000) ++ leBytes 4 0), 77⟩), 5, by decide +kernel, by simp only [State.hears]; decide +kernel, by decide +kernel, 5, by decide +kernel⟩,
   ⟨{ ((((((((((rig.setNat Ent.ACTION_STATE 5 Act.EXECUTED).setNat Ent.ACTION_GROUP_ID 5 9).setNat Ent.ACTION_SFN 5 800000020000).setNat Ent.ACTION_TYPE 5 ActType.MARK).setNat Ent.CHANNEL_STATE 1 Can.ERROR_ACTIVE).setNat Ent.CHANNEL_ENABLE 1 1).setNat Ent.MODULE_BUS_CHANNEL 5 1).setNat Ent.MODULE_BUS_NODE 5 9).setNat Ent.FE_BUS_CHANNEL 2 1).setNat Ent.FE_BUS_NODE 2 10) with groups := [(5, ⟨9, 800000020000, [⟨0x1005, true, true, false, none⟩, ⟨0x3002, true, true, true, some 0⟩], true, false, false, 99999900⟩)] }, 5, (⟨0, 0, 0, some ⟨1, true, 1769, (leBytes 2 9 ++ leBytes 2 0 ++ leBytes 4 (low 32 800000020000) ++ leBytes 4 0), 77⟩⟩), (⟨1, true, 1769, (leBytes 2 9 ++ leBytes 2 0 ++ leBytes 4 (low 32 800000020000) ++ leBytes 4 0), 77⟩), 5, by decide +kernel, by simp only [State.hears]; decide +kernel, by decide +kernel⟩⟩

/-- States and operands that meet the hypotheses of TwoPhasePointsOfTheCoordinator, clause by clause. -/
theorem witness_TwoPhasePointsOfTheCoordinator :
    (∃ s : State, ∃ i : Fin 1024, s.aState i = Act.ARMED ∧ s.aGroup i ≠ 0 ∧ s.aSfn i ≤ s.sfn + s.nat Ent.ACTION_ANNOUNCE_LEAD i ∧ s.sfn < s.aSfn i ∧ s.bus.pendingCaps.any (fun p => p.1 == i.val) = false ∧ (s.aType i ≠ ActType.SET_SWAP ∨ s.feParts i = [])) ∧
    (∃ s : State, ∃ i : Fin 1024, s.aState i = Act.ARMED ∧ s.aGroup i ≠ 0 ∧ s.aSfn i ≤ s.sfn + s.nat Ent.ACTION_ANNOUNCE_LEAD i ∧ s.sfn < s.aSfn i ∧ s.bus.pendingCaps.any (fun p => p.1 == i.val) = false ∧ s.aType i = ActType.SET_SWAP ∧ s.feParts i ≠ []) ∧
    (∃ s : State, ∃ i : Fin 1024, s.aState i = Act.ANNOUNCED ∧ s.aSfn i ≤ s.sfn + s.nat Ent.ACTION_DECIDE_LEAD i ∧ (s.group i).parts.all Part.ready = true ∧ s.prepared i = true) ∧
    (∃ s : State, ∃ i : Fin 1024, s.aState i = Act.ANNOUNCED ∧ s.aSfn i ≤ s.sfn + s.nat Ent.ACTION_DECIDE_LEAD i ∧ ((s.group i).parts.all Part.ready = false ∨ s.prepared i = false)) ∧
    (∃ s : State, ∃ i : Fin 1024, s.aState i = Act.ARMED ∧ s.aGroup i ≠ 0 ∧ s.aSfn i ≤ s.sfn + s.nat Ent.ACTION_DECIDE_LEAD i ∧ s.bus.pendingCaps.any (fun p => p.1 == i.val) = true) ∧
    (∃ s : State, ∃ i : Fin 1024, s.aState i = Act.GO ∧ (s.group i).locked = false ∧ s.aSfn i ≤ s.sfn + s.nat Ent.ACTION_CANCEL_GUARD i ∧ (s.group i).parts.all Part.goAck = true) ∧
    (∃ s : State, ∃ i : Fin 1024, s.aState i = Act.GO ∧ (s.group i).locked = false ∧ s.aSfn i ≤ s.sfn + s.nat Ent.ACTION_CANCEL_GUARD i ∧ (s.group i).parts.all Part.goAck = false) ∧
    (∃ s : State, ∃ i : Fin 1024, s.aState i = Act.EXECUTED ∧ s.aGroup i ≠ 0 ∧ s.aSfn i + 100 ≤ s.sfn ∧ (∀ p ∈ (s.group i).parts, p.done = some St.OK)) :=
  ⟨⟨((((rig.setNat Ent.ACTION_STATE 5 Act.ARMED).setNat Ent.ACTION_GROUP_ID 5 9).setNat Ent.ACTION_SFN 5 800000010000).setNat Ent.ACTION_TYPE 5 ActType.MARK), 5, by decide +kernel⟩,
   ⟨{ ((((((((((rig.setNat Ent.ACTION_STATE 5 Act.ARMED).setNat Ent.ACTION_GROUP_ID 5 9).setNat Ent.ACTION_SFN 5 800000010000).setNat Ent.ACTION_TYPE 5 ActType.SET_SWAP).setNat Ent.CHANNEL_STATE 1 Can.ERROR_ACTIVE).setNat Ent.CHANNEL_ENABLE 1 1).setNat Ent.MODULE_BUS_CHANNEL 5 1).setNat Ent.MODULE_BUS_NODE 5 9).setNat Ent.FE_BUS_CHANNEL 2 1).setNat Ent.FE_BUS_NODE 2 10) with groups := [(5, ⟨9, 800000010000, [⟨0x2002, false, false, false, none⟩], false, false, false, 0⟩)] }, 5, by decide +kernel⟩,
   ⟨{ ((((rig.setNat Ent.ACTION_STATE 5 Act.ANNOUNCED).setNat Ent.ACTION_GROUP_ID 5 9).setNat Ent.ACTION_SFN 5 800000002000).setNat Ent.ACTION_TYPE 5 ActType.MARK) with groups := [(5, ⟨9, 800000002000, [⟨0x3001, true, false, false, none⟩, ⟨0x3002, true, true, true, some 0⟩], true, false, false, 99999900⟩)] }, 5, by decide +kernel⟩,
   ⟨{ ((((rig.setNat Ent.ACTION_STATE 5 Act.ANNOUNCED).setNat Ent.ACTION_GROUP_ID 5 9).setNat Ent.ACTION_SFN 5 800000002000).setNat Ent.ACTION_TYPE 5 ActType.MARK) with groups := [(5, ⟨9, 800000002000, [⟨0x3001, false, false, false, none⟩, ⟨0x3002, true, true, true, some 0⟩], true, false, false, 99999900⟩)] }, 5, by decide +kernel⟩,
   ⟨{ ((((rig.setNat Ent.ACTION_STATE 5 Act.ARMED).setNat Ent.ACTION_GROUP_ID 5 9).setNat Ent.ACTION_SFN 5 800000002000).setNat Ent.ACTION_TYPE 5 ActType.SET_SWAP) with bus := { rig.bus with pendingCaps := [(5, 66)] } }, 5, by decide +kernel⟩,
   ⟨{ ((((rig.setNat Ent.ACTION_STATE 5 Act.GO).setNat Ent.ACTION_GROUP_ID 5 9).setNat Ent.ACTION_SFN 5 800000000500).setNat Ent.ACTION_TYPE 5 ActType.MARK) with groups := [(5, ⟨9, 800000000500, [⟨0x3001, true, true, false, none⟩, ⟨0x3002, true, true, true, some 0⟩], true, false, false, 99999900⟩)] }, 5, by decide +kernel⟩,
   ⟨{ ((((rig.setNat Ent.ACTION_STATE 5 Act.GO).setNat Ent.ACTION_GROUP_ID 5 9).setNat Ent.ACTION_SFN 5 800000000500).setNat Ent.ACTION_TYPE 5 ActType.MARK) with groups := [(5, ⟨9, 800000000500, [⟨0x3001, true, false, false, none⟩, ⟨0x3002, true, true, true, some 0⟩], true, false, false, 99999900⟩)] }, 5, by decide +kernel⟩,
   ⟨{ ((((rig.setNat Ent.ACTION_STATE 5 Act.EXECUTED).setNat Ent.ACTION_GROUP_ID 5 9).setNat Ent.ACTION_SFN 5 799999999900).setNat Ent.ACTION_TYPE 5 ActType.MARK) with groups := [(5, ⟨9, 799999999900, [⟨0x3001, true, true, false, some 0⟩, ⟨0x3002, true, true, true, some 0⟩], true, false, false, 99999900⟩)] }, 5, by decide +kernel, by decide +kernel, by decide +kernel, by decide +kernel⟩⟩

/-- States and operands that meet the hypotheses of TwoPhaseMessagesAreRepeated, clause by clause. -/
theorem witness_TwoPhaseMessagesAreRepeated :
    (∃ s : State, ∃ i : Fin 1024, s.aState i = Act.ANNOUNCED ∧ (s.group i).lastSent + 100 ≤ s.frames) ∧
    (∃ s : State, ∃ i : Fin 1024, s.aState i = Act.ANNOUNCED ∧ s.frames < (s.group i).lastSent + 100) ∧
    (∃ s : State, ∃ i : Fin 1024, s.aState i = Act.GO ∧ (s.group i).locked = false ∧ (s.group i).lastSent + 100 ≤ s.frames) ∧
    (∃ s : State, ∃ i : Fin 1024, s.aState i = Act.GO ∧ (s.group i).locked = false ∧ s.frames < (s.group i).lastSent + 100) ∧
    (∃ s : State, ∃ i : Fin 1024, (s.group i).cancelSent = true ∧ s.sfn < (s.group i).sfn ∧ (s.group i).lastSent + 100 ≤ s.frames ∧ s.records i = [i.val]) :=
  ⟨⟨{ ((((rig.setNat Ent.ACTION_STATE 5 Act.ANNOUNCED).setNat Ent.ACTION_GROUP_ID 5 9).setNat Ent.ACTION_SFN 5 800000020000).setNat Ent.ACTION_TYPE 5 ActType.MARK) with groups := [(5, ⟨9, 800000020000, [⟨0x3001, false, false, false, none⟩, ⟨0x3002, true, true, true, some 0⟩], true, false, false, 99999900⟩)] }, 5, by decide +kernel⟩,
   ⟨{ ((((rig.setNat Ent.ACTION_STATE 5 Act.ANNOUNCED).setNat Ent.ACTION_GROUP_ID 5 9).setNat Ent.ACTION_SFN 5 800000020000).setNat Ent.ACTION_TYPE 5 ActType.MARK) with groups := [(5, ⟨9, 800000020000, [⟨0x3001, false, false, false, none⟩, ⟨0x3002, true, true, true, some 0⟩], true, false, false, 99999901⟩)] }, 5, by decide +kernel⟩,
   ⟨{ ((((rig.setNat Ent.ACTION_STATE 5 Act.GO).setNat Ent.ACTION_GROUP_ID 5 9).setNat Ent.ACTION_SFN 5 800000020000).setNat Ent.ACTION_TYPE 5 ActType.MARK) with groups := [(5, ⟨9, 800000020000, [⟨0x3001, true, false, false, none⟩, ⟨0x3002, true, true, true, some 0⟩], true, false, false, 99999900⟩)] }, 5, by decide +kernel⟩,
   ⟨{ ((((rig.setNat Ent.ACTION_STATE 5 Act.GO).setNat Ent.ACTION_GROUP_ID 5 9).setNat Ent.ACTION_SFN 5 800000020000).setNat Ent.ACTION_TYPE 5 ActType.MARK) with groups := [(5, ⟨9, 800000020000, [⟨0x3001, true, false, false, none⟩, ⟨0x3002, true, true, true, some 0⟩], true, false, false, 99999901⟩)] }, 5, by decide +kernel⟩,
   ⟨{ ((((rig.setNat Ent.ACTION_STATE 5 Act.CANCELLED).setNat Ent.ACTION_GROUP_ID 5 9).setNat Ent.ACTION_SFN 5 800000020000).setNat Ent.ACTION_TYPE 5 ActType.MARK) with groups := [(5, ⟨9, 800000020000, [⟨0x3001, true, false, false, none⟩, ⟨0x3002, true, true, true, some 0⟩], true, true, false, 99999900⟩)] }, 5, by decide +kernel⟩⟩

/-- States and operands that meet the hypotheses of BoundaryActionsAndSwapEnd, clause by clause. -/
theorem witness_BoundaryActionsAndSwapEnd :
    (∃ s : State, ∃ i : Nat, s.cycle = 0 ∧ s.tx.step = 3 ∧ s.armed = [i] ∧ s.aState i = Act.ARMED ∧ s.aType i = ActType.MARK ∧ s.aGroup i = 0 ∧ s.aSfn i = s.sfn ∧ s.acting = true ∧ s.time.known = true ∧ s.bill.still = true ∧ s.outlets.sess = []) ∧
    (∃ s : State, s.cycle = 0 ∧ s.tx.step = 3 ∧ s.time.known = false ∧ s.bill.still = true ∧ s.outlets.sess = []) ∧
    (∃ s : State, (s.cycle ≠ 0 ∨ s.tx.step ≠ 3)) ∧
    (∃ s : State, ∃ l : List SwapAsk, ∃ h : Held, ∃ k : Nat, s.cycle = 0 ∧ s.tx.step = 2 ∧ s.swapAsks = l ++ [⟨some h, k⟩] ∧ h.op = Op.WRITE) ∧
    (∃ s : State, (s.cycle ≠ 0 ∨ s.tx.step = 0 ∨ 3 ≤ s.tx.step)) ∧
    (∃ s : State, ∃ slot : Fin 32, ∃ q : QTest, s.tests.find? (fun x => x.slot == slot.val) = some q ∧ q.since + s.nat Ent.TEST_QUEUE_EXPIRY * 20000 ≤ s.ticks) ∧
    (∃ s : State, ∃ slot : Fin 32, ∃ q : QTest, s.tests.find? (fun x => x.slot == slot.val) = some q ∧ ∃ f : Found, findEntry (q.target / 256) (q.target % 256) = some f ∧ s.testBusy f = false ∧ (f.e = Ent.MCH_OPEN_TEST ∨ f.e = Ent.LC_TEST)) ∧
    (∃ s : State, ∃ slot : Fin 32, ∃ q : QTest, s.tests.find? (fun x => x.slot == slot.val) = some q ∧ ∃ f : Found, findEntry (q.target / 256) (q.target % 256) = some f ∧ s.testBusy f = true) ∧
    (∃ s : State, ∃ dev : Option Nat, (∀ d, dev = some d → 100 < d)) ∧
    (∃ s : State, ∃ d : Nat, d ≤ 100) :=
  ⟨⟨{ (((rig.setNat Ent.ACTION_STATE 5 Act.ARMED).setNat Ent.ACTION_TYPE 5 ActType.MARK).setNat Ent.ACTION_SFN 5 800000000000) with tx := { rig.tx with step := 3 }, time := { rig.time with known := true }, bill := { rig.bill with still := true } }, 5, by decide +kernel⟩,
   ⟨{ rig with tx := { rig.tx with step := 3 }, time := { rig.time with known := false }, bill := { rig.bill with still := true } }, by decide +kernel⟩,
   ⟨rig, by decide +kernel⟩,
   ⟨{ rig with swapAsks := [⟨some (heldOf rig site Ent.SET_SWAP_NOW 0 (.num 1)), 0⟩] }, [], ((heldOf rig site Ent.SET_SWAP_NOW 0 (.num 1))), 0, by decide +kernel⟩,
   ⟨{ rig with tx := { rig.tx with step := 0 } }, by decide +kernel⟩,
   ⟨{ rig with tests := [⟨31, Ent.MCH_OPEN_TEST.target 95, [1#8], 272000000⟩] }, 31, (⟨31, Ent.MCH_OPEN_TEST.target 95, [1#8], 272000000⟩), by decide +kernel⟩,
   ⟨{ rig with tests := [⟨31, Ent.MCH_OPEN_TEST.target 95, [1#8], 272000000⟩] }, 31, (⟨31, Ent.MCH_OPEN_TEST.target 95, [1#8], 272000000⟩), by decide +kernel, (⟨Ent.MCH_OPEN_TEST, 95, 0⟩), by decide +kernel, by decide +kernel⟩,
   ⟨{ rig with running := [⟨Ent.MCH_OPEN_TEST.target 95, none, 5⟩], tests := [⟨31, Ent.MCH_OPEN_TEST.target 95, [1#8], 272000000⟩] }, 31, (⟨31, Ent.MCH_OPEN_TEST.target 95, [1#8], 272000000⟩), by decide +kernel, (⟨Ent.MCH_OPEN_TEST, 95, 0⟩), by decide +kernel, by decide +kernel⟩,
   ⟨rig, ((some 101)), by simp⟩,
   ⟨rig, 100, by decide +kernel⟩⟩

/-- States and operands that meet the hypotheses of MirrorsKeepTheStandbyInStep, clause by clause. -/
theorem witness_MirrorsKeepTheStandbyInStep :
    (∃ s : State, s.die.mirrorSync = true ∧ s.isQuiet s.activeDie = false ∧ s.die.resync.map Resync.phase ≠ some 3 ∧ s.die.lanes = 3 ∧ s.fw.trial = none ∧ s.fw.main.map Prep.done ≠ some true ∧ ∃ w : Nat, ∃ selfTest : Bool, s.nat Ent.DIVERGENCE_COUNT + 1 < 2 ^ 32 ∧ s.die.diverged < 2) ∧
    (∃ s : State, s.die.mirrorSync = true ∧ s.isQuiet s.activeDie = false ∧ s.die.resync.map Resync.phase ≠ some 3 ∧ s.die.lanes = 3 ∧ s.fw.trial = none ∧ s.fw.main.map Prep.done ≠ some true ∧ ∃ w : Nat, ∃ selfTest : Bool, s.nat Ent.DIVERGENCE_COUNT + 1 < 2 ^ 32 ∧ 2 ≤ s.die.diverged) ∧
    (∃ s : State, s.die.mirrorSync = true ∧ s.isQuiet s.activeDie = false ∧ s.die.resync.map Resync.phase ≠ some 3 ∧ s.die.lanes ≠ 3) ∧
    (∃ s : State, s.isQuiet s.activeDie = true) ∧
    (∃ s : State, s.die.mirrorSync = true ∧ s.cycle = 19 ∧ s.isQuiet s.activeDie = false) ∧
    (∃ s : State, ∃ c : Bool, ∃ g : Bool, (c = false ∨ g = false ∨ s.cycle ≠ 19 ∨ s.die.mirrorSync = false)) ∧
    (∃ s : State, s.nat Ent.MIRROR_MISS_COUNT + 1 < 2 ^ 32) ∧
    (∃ s : State, s.die.frameMisses = 0) ∧
    (∃ s : State, 1 ≤ s.die.frameMisses) ∧
    (∃ s : State, s.die.resync = none) ∧
    (∃ s : State, ∃ lane : Fin 3, lane.val < 2 ∧ setBit s.die.lanes lane false ≠ 0) :=
  ⟨⟨{ rig with die := { rig.die with diverged := 1 } }, by decide +kernel, by decide +kernel, by decide +kernel, by decide +kernel, by decide +kernel, by decide +kernel, 3, true, by decide +kernel⟩,
   ⟨{ rig with die := { rig.die with diverged := 2 } }, by decide +kernel, by decide +kernel, by decide +kernel, by decide +kernel, by decide +kernel, by decide +kernel, 3, true, by decide +kernel⟩,
   ⟨{ rig with die := { rig.die with lanes := 1 } }, by decide +kernel⟩,
   ⟨{ rig with die := { rig.die with quiet := some (0, 1, 1) } }, by decide +kernel⟩,
   ⟨{ rig with cycle := 19, ticks := 2000000019, waiting := [⟨.client, 0, .answer, [], []⟩, ⟨.can, 1, .moduleTarget, [], []⟩] }, by decide +kernel⟩,
   ⟨rig, true, true, by decide +kernel⟩,
   ⟨rig, by decide +kernel⟩,
   ⟨rig, by decide +kernel⟩,
   ⟨{ rig with die := { rig.die with frameMisses := 1 } }, by decide +kernel⟩,
   ⟨rig, by decide +kernel⟩,
   ⟨rig, 1, by decide +kernel⟩⟩

/-- States and operands that meet the hypotheses of PowerDieArbitrates, clause by clause. -/
theorem witness_PowerDieArbitrates :
    (∃ s : State, ∃ die : Fin 2, ∃ code : Nat, s.die.mirrorSync = true ∧ s.pw.active = die.val) ∧
    (∃ s : State, let u := s.runWork; ∃ die : Fin 2, die.val ≠ u.pw.active ∧ (u.freshYield.isSome ∨ u.pw.latched = false) ∧ u.die.mirrorSync = true) ∧
    (∃ s : State, let u := s.runWork; ∃ die : Fin 2, (die.val = u.pw.active ∨ (u.freshYield = none ∧ u.pw.latched = true)) ∧ u.nat Ent.STANDBY_PACKET_COUNT + 1 < 2 ^ 32) ∧
    (∃ s : State, ∃ die : Fin 2, ∃ code : Fin 11, code.val ≠ 0 ∧ s.die.unserved = none ∧ s.standing die.val = .active ∧ s.isQuiet die.val = false ∧ s.die.mirrorSync = true) ∧
    (∃ s : State, ∃ die : Fin 2, ∃ code : Fin 11, code.val ≠ 0 ∧ s.die.unserved = none ∧ s.standing die.val = .active ∧ s.isQuiet die.val = false ∧ s.die.mirrorSync = false ∧ 4 < code.val) ∧
    (∃ s : State, ∃ die : Fin 2, ∃ code : Fin 11, code.val ≠ 0 ∧ s.die.unserved = none ∧ s.standing die.val = .standby ∧ s.die.quiet = none) ∧
    (∃ s : State, ∃ w : Switch, s.die.switch = some w ∧ s.cycle = 0 ∧ s.fw.trial = none ∧ (∀ p, s.fw.main = some p → p.done = false)) :=
  ⟨⟨rig, 0, 4, by decide +kernel⟩,
   ⟨rig, 1, by decide +kernel⟩,
   ⟨{ rig with pw := { rig.pw with latched := true } }, 1, by decide +kernel⟩,
   ⟨rig, 0, 4, by decide +kernel⟩,
   ⟨{ rig with die := { rig.die with mirrorSync := false, cb := .off } }, 0, 5, by decide +kernel⟩,
   ⟨rig, 1, 10, by decide +kernel⟩,
   ⟨{ rig with die := { rig.die with switch := some ⟨800000000000, 19, 1, 0, 1, 1, 0⟩ } }, (⟨800000000000, 19, 1, 0, 1, 1, 0⟩), by decide +kernel, by decide +kernel, by decide +kernel, by decide +kernel⟩⟩

/-- States and operands that meet the hypotheses of PlannedSwitchOverSwapsTheDies, clause by clause. -/
theorem witness_PlannedSwitchOverSwapsTheDies :
    (∃ s : State, ∃ c : Client, ∃ h : Held, s.accepts c Ent.SWAP_REQUEST 0 (.num 1) h ∧ s.die.mirrorSync = true) ∧
    (∃ s : State, ∃ c : Client, ∃ h : Held, s.accepts c Ent.SWAP_REQUEST 0 (.num 1) h ∧ s.die.mirrorSync = false) ∧
    (∃ s : State, ∃ f : Nat, s.die.swapAt = some f ∧ s.cycle = 0 ∧ f ≤ s.frames ∧ s.die.mirrorSync = true ∧ s.activeDie ≤ 1) ∧
    (∃ s : State, ∃ f : Nat, s.die.swapAt = some f ∧ s.cycle = 0 ∧ f ≤ s.frames ∧ s.die.mirrorSync = false) ∧
    (∃ s : State, ∃ f : Nat, s.die.swapAt = some f ∧ s.frames < f) :=
  ⟨⟨rig, site, _, accepts_of_passes _ _ _ _ _ _ (by decide +kernel), by decide +kernel⟩,
   ⟨{ rig with die := { rig.die with mirrorSync := false, cb := .off } }, site, _, accepts_of_passes _ _ _ _ _ _ (by decide +kernel), by decide +kernel⟩,
   ⟨{ rig with die := { rig.die with swapAt := some 100000000 } }, 100000000, by decide +kernel⟩,
   ⟨{ rig with die := { rig.die with swapAt := some 100000000, mirrorSync := false, cb := .off } }, 100000000, by decide +kernel⟩,
   ⟨{ rig with die := { rig.die with swapAt := some 100000001 } }, 100000001, by decide +kernel⟩⟩

/-- States and operands that meet the hypotheses of ResynchronisationRunsItsPhases, clause by clause. -/
theorem witness_ResynchronisationRunsItsPhases :
    (∃ s : State, ∃ die : Fin 2, s.standing die.val = .failed ∧ s.blocked die.val = false) ∧
    (∃ s : State, ∃ die : Fin 2, s.standing die.val = .off ∧ s.standing (1 - die.val) = .active ∧ s.die.resync = none ∧ s.die.lanes ≠ 0 ∧ s.blocked die.val = false ∧ s.booted die.val = true ∧ s.imageFits die.val = true ∧ (∀ r, s.die.resyncRetry = some r → r.2 ≤ s.ticks) ∧ s.nat Ent.DEVICE_STATE ≠ Dev.SLEEP) ∧
    (∃ s : State, ∃ r : Resync, s.die.resync = some r ∧ r.phase < 3) ∧
    (∃ s : State, ∃ r : Resync, s.die.resync = some r ∧ 3 ≤ r.phase ∧ s.preparingMain = false) ∧
    (∃ s : State, ∃ r : Resync, s.die.resync = some r ∧ s.preparingMain = false) ∧
    (∃ s : State, ∃ r : Resync, s.die.resync = some r ∧ s.preparingMain = true) ∧
    (∃ s : State, ∃ die : Nat, ∃ b : Nat, s.die.resyncRetry = some (die, b) ∧ b ≤ s.ticks ∧ s.die.resync = none ∧ s.standing die = .off ∧ s.standing (1 - die) = .active ∧ s.die.lanes ≠ 0) ∧
    (∃ s : State, ∃ c : Client, ∃ h : Held, s.accepts c Ent.RESYNC_REQUEST 0 (.num 1) h ∧ s.die.mirrorSync = false ∧ s.die.ca = .failed) ∧
    (∃ s : State, ∃ c : Client, ∃ h : Held, s.accepts c Ent.RESYNC_REQUEST 0 (.num 1) h ∧ s.die.mirrorSync = true) :=
  ⟨⟨{ rig with die := { rig.die with cb := .failed, mirrorSync := false } }, 1, by decide +kernel⟩,
   ⟨{ rig with die := { rig.die with cb := .off, mirrorSync := false, bootB := some 5 } }, 1, by decide +kernel, by decide +kernel, by decide +kernel, by decide +kernel, by decide +kernel, by decide +kernel, by decide +kernel, by decide +kernel, by decide +kernel⟩,
   ⟨{ rig with die := { rig.die with cb := .off, mirrorSync := false, resync := some ⟨1, 2, 1999990000, 1999995000, 1⟩ } }, (⟨1, 2, 1999990000, 1999995000, 1⟩), by decide +kernel⟩,
   ⟨{ rig with die := { rig.die with cb := .off, mirrorSync := false, resync := some ⟨1, 3, 1999990000, 1999995000, 1⟩ } }, (⟨1, 3, 1999990000, 1999995000, 1⟩), by decide +kernel⟩,
   ⟨{ rig with die := { rig.die with cb := .off, mirrorSync := false, resync := some ⟨1, 2, 1999990000, 1999995000, 1⟩ } }, (⟨1, 2, 1999990000, 1999995000, 1⟩), by decide +kernel⟩,
   ⟨{ rig with die := { rig.die with cb := .off, mirrorSync := false, resync := some ⟨1, 2, 1999990000, 1999995000, 1⟩ }, fw := { rig.fw with main := some ⟨0, 5, 99999000, false, false, false, false⟩ } }, (⟨1, 2, 1999990000, 1999995000, 1⟩), by decide +kernel⟩,
   ⟨{ rig with die := { rig.die with cb := .off, mirrorSync := false, bootB := some 5, resyncRetry := some (1, 2000000000) } }, 1, 2000000000, by decide +kernel⟩,
   ⟨(({ rig with die := { rig.die with ca := .failed, cb := .active, mirrorSync := false } } : State).setNat Ent.ACTIVE_CONTROL_DIE 0 1), site, _, accepts_of_passes _ _ _ _ _ _ (by decide +kernel), by decide +kernel⟩,
   ⟨rig, site, _, accepts_of_passes _ _ _ _ _ _ (by decide +kernel), by decide +kernel⟩⟩

/-- States and operands that meet the hypotheses of StartsAndHalvesOfDies, clause by clause. -/
theorem witness_StartsAndHalvesOfDies :
    (∃ s : State, ∃ die : Fin 2, ∃ b : BootReport, s.sideUp die.val = true ∧ s.standing die.val = .off ∧ s.blocked die.val = false ∧ s.standing (1 - die.val) = .active ∧ s.meterRunning die.val = true ∧ s.fw.main = none) ∧
    (∃ s : State, ∃ die : Fin 2, ∃ b : BootReport, s.sideUp die.val = true ∧ s.standing die.val = .off ∧ s.blocked die.val = false ∧ s.standing (1 - die.val) ≠ .active ∧ s.devState = Dev.START ∧ (s.plant.startCause = 5 ∨ s.preferredDie = die.val)) ∧
    (∃ s : State, ∃ die : Fin 2, ∃ b : BootReport, s.sideUp die.val = true ∧ s.standing die.val = .off ∧ s.blocked die.val = false ∧ s.standing (1 - die.val) ≠ .active ∧ s.devState = Dev.START ∧ s.plant.startCause ≠ 5 ∧ s.preferredDie ≠ die.val) ∧
    (∃ s : State, ∃ d : Nat, ∃ b : BootReport, ∃ a : Nat, s.plant.waitingBoot = some (d, b) ∧ (if d = 0 then s.die.bootA else s.die.bootB) = some a ∧ s.devState = Dev.START ∧ s.standing d = .off ∧ s.sideUp d = true ∧ a + 5 * 20000 ≤ s.ticks) ∧
    (∃ s : State, ∃ half : Fin 8, ∃ diag : Nat, let h := half.val % 2; ∃ w : Bool, 6 ≤ half.val ∧ s.stUp h = true) ∧
    (∃ s : State, ∃ half : Fin 8, ∃ diag : Nat, let h := half.val % 2; ∃ w : Bool, half.val / 2 = 1 ∧ s.lkUp h = true) ∧
    (∃ s : State, ∃ half : Fin 8, ∃ diag : Nat, let h := half.val % 2; ∃ w : Bool, half.val / 2 = 2) ∧
    (∃ s : State, ∃ half : Fin 8, ∃ diag : Nat, let h := half.val % 2; half.val < 2 ∧ s.pwOk h = true ∧ (s.half h).watchdog = false) ∧
    (∃ s : State, ∃ half : Fin 8, ∃ diag : Nat, let h := half.val % 2; s.sideUp h = true ∧ 6 ≤ half.val) ∧
    (∃ s : State, ∃ half : Fin 8, ∃ diag : Nat, let h := half.val % 2; s.sideUp h = true ∧ half.val / 2 = 1) ∧
    (∃ s : State, ∃ half : Fin 8, ∃ diag : Nat, let h := half.val % 2; s.sideUp h = true ∧ half.val / 2 = 2) ∧
    (∃ s : State, ∃ half : Fin 8, ∃ diag : Nat, let h := half.val % 2; s.sideUp h = true ∧ half.val < 2 ∧ (s.half h).watchdog = true) ∧
    (∃ s : State, ∃ half : Fin 8, ∃ diag : Nat, let h := half.val % 2; s.sideUp h = true ∧ half.val < 2 ∧ (s.half h).watchdog = false) :=
  ⟨⟨{ rig with die := { rig.die with cb := .off, mirrorSync := false } }, 1, (⟨⟨true, 300, 0⟩, none, [1#8], [2#8], [3#8], [4#8], [5#8], true, true, true, true, 0, 0, true, [], 100⟩), by decide +kernel⟩,
   ⟨{ (rig.setNat Ent.DEVICE_STATE 0 Dev.START) with die := { rig.die with ca := .off, cb := .off, mirrorSync := false, bootA := none, bootB := none }, plant := { rig.plant with startCause := 0, waitingBoot := none } }, 0, (⟨⟨true, 300, 0⟩, none, [1#8], [2#8], [3#8], [4#8], [5#8], true, true, true, true, 0, 0, true, [], 100⟩), by decide +kernel⟩,
   ⟨{ (rig.setNat Ent.DEVICE_STATE 0 Dev.START) with die := { rig.die with ca := .off, cb := .off, mirrorSync := false, bootA := none, bootB := none }, plant := { rig.plant with startCause := 0, waitingBoot := none } }, 1, (⟨⟨true, 300, 0⟩, none, [1#8], [2#8], [3#8], [4#8], [5#8], true, true, true, true, 0, 0, true, [], 100⟩), by decide +kernel⟩,
   ⟨{ (rig.setNat Ent.DEVICE_STATE 0 Dev.START) with die := { rig.die with ca := .off, cb := .off, mirrorSync := false, bootA := none, bootB := some 1999900000 }, plant := { rig.plant with startCause := 0, waitingBoot := some (1, ⟨⟨true, 300, 0⟩, none, [1#8], [2#8], [3#8], [4#8], [5#8], true, true, true, true, 0, 0, true, [], 100⟩) } }, 1, (⟨⟨true, 300, 0⟩, none, [1#8], [2#8], [3#8], [4#8], [5#8], true, true, true, true, 0, 0, true, [], 100⟩), 1999900000, by decide +kernel⟩,
   ⟨rig, 7, 5, true, by decide +kernel⟩,
   ⟨rig, 3, 5, true, by decide +kernel⟩,
   ⟨rig, 5, 5, false, by decide +kernel⟩,
   ⟨rig, 0, 5, by decide +kernel⟩,
   ⟨{ rig with die := { rig.die with st1 := false } }, 7, 0, by decide +kernel⟩,
   ⟨{ rig with die := { rig.die with lkA := false } }, 2, 0, by decide +kernel⟩,
   ⟨{ rig with keys := { rig.keys with lost := 2 } }, 5, 0, by decide +kernel⟩,
   ⟨{ rig with halfB := { rig.halfB with watchdog := true } }, 1, 0, by decide +kernel⟩,
   ⟨{ rig with die := { rig.die with pwA := false } }, 0, 0, by decide +kernel⟩⟩

/-- States and operands that meet the hypotheses of MeteringDiesAreCompared, clause by clause. -/
theorem witness_MeteringDiesAreCompared :
    (∃ s : State, ∃ ch : Fin 96, 20 ≤ Tab.get 0 s.die.apart ch.val) ∧
    (∃ s : State, ∃ ch : Fin 96, Tab.get 0 s.die.apart ch.val < 20) ∧
    (∃ s : State, ∃ ch : Fin 96, ∃ m0Bad : Bool, ∃ m1Bad : Bool, ∃ diff : Nat, s.die.spareChecks.find? (fun x => x.1 == ch.val) = some (ch.val, diff) ∧ Tab.get 0 s.die.checkFrom ch.val + 8 ≤ s.ticks ∧ m0Bad = true ∧ s.spareFor 0 ch.val = true) ∧
    (∃ s : State, ∃ ch : Fin 96, ∃ m0Bad : Bool, ∃ m1Bad : Bool, ∃ diff : Nat, s.die.spareChecks.find? (fun x => x.1 == ch.val) = some (ch.val, diff) ∧ Tab.get 0 s.die.checkFrom ch.val + 8 ≤ s.ticks ∧ m1Bad = true ∧ s.spareFor 1 ch.val = true) ∧
    (∃ s : State, ∃ ch : Fin 96, ∃ m0Bad : Bool, ∃ m1Bad : Bool, ∃ diff : Nat, s.die.spareChecks.find? (fun x => x.1 == ch.val) = some (ch.val, diff) ∧ Tab.get 0 s.die.checkFrom ch.val + 8 ≤ s.ticks ∧ (m0Bad = false ∨ s.spareFor 0 ch.val = false)) ∧
    (∃ s : State, ∃ ch : Fin 96, ∃ m0Bad : Bool, ∃ m1Bad : Bool, ∃ diff : Nat, s.die.spareChecks.find? (fun x => x.1 == ch.val) = some (ch.val, diff) ∧ Tab.get 0 s.die.checkFrom ch.val + 8 ≤ s.ticks ∧ (m1Bad = false ∨ s.spareFor 1 ch.val = false)) ∧
    (∃ s : State, ∃ ch : Fin 96, ∃ m1 : Bool, ch.val ∈ (if m1 then s.die.flagged1 else s.die.flagged0) ∧ s.spareFor (b2n m1) ch.val = true ∧ Tab.get 0 s.die.checkedAt (2 * ch.val + b2n m1) + 20000 ≤ s.ticks) ∧
    (∃ s : State, ∃ m1 : Bool, ∃ diag : Nat, s.meterRunning (b2n m1) = true ∧ s.meterFailed (b2n m1) = false) :=
  ⟨⟨{ rig with die := { rig.die with apart := [(95, 20)] } }, 95, by decide +kernel⟩,
   ⟨{ rig with die := { rig.die with apart := [(95, 19)] } }, 95, by decide +kernel⟩,
   ⟨{ rig with die := { rig.die with spareChecks := [(95, 12)], checkFrom := [(95, 1999999992)] }, meas := { rig.meas with slots0 := 0, banks := [(0, ⟨some 9, 5⟩), (1, ⟨some 9, 5⟩), (2, ⟨some 9, 5⟩), (3, ⟨some 9, 5⟩)] } }, 95, true, false, 12, by decide +kernel⟩,
   ⟨{ rig with die := { rig.die with spareChecks := [(95, 12)], checkFrom := [(95, 1999999992)] }, meas := { rig.meas with slots0 := 0, banks := [(0, ⟨some 9, 5⟩), (1, ⟨some 9, 5⟩), (2, ⟨some 9, 5⟩), (3, ⟨some 9, 5⟩)] } }, 95, false, true, 12, by decide +kernel⟩,
   ⟨{ rig with die := { rig.die with spareChecks := [(95, 12)], checkFrom := [(95, 1999999992)] }, meas := { rig.meas with slots0 := 0, banks := [(0, ⟨some 9, 5⟩), (1, ⟨some 9, 5⟩), (2, ⟨some 9, 5⟩), (3, ⟨some 9, 5⟩)] } }, 95, false, true, 12, by decide +kernel⟩,
   ⟨{ rig with die := { rig.die with spareChecks := [(95, 12)], checkFrom := [(95, 1999999992)] }, meas := { rig.meas with slots0 := 0, banks := [(0, ⟨some 9, 5⟩), (1, ⟨some 9, 5⟩), (2, ⟨some 9, 5⟩), (3, ⟨some 9, 5⟩)] } }, 95, true, false, 12, by decide +kernel⟩,
   ⟨{ rig with die := { rig.die with flagged0 := [95, 1] }, meas := { rig.meas with slots0 := 0, banks := [(0, ⟨some 9, 5⟩), (1, ⟨some 9, 5⟩), (2, ⟨some 9, 5⟩), (3, ⟨some 9, 5⟩)] } }, 95, false, by decide +kernel⟩,
   ⟨rig, true, 3, by decide +kernel⟩⟩

/-- States and operands that meet the hypotheses of QueriesAreAnsweredAtOnce, clause by clause. -/
theorem witness_QueriesAreAnsweredAtOnce :
    (∃ s : State, ∃ c : Client, ∃ k : Conn, ∃ tag : Nat, s.acceptsQuery c k tag ∧ ∃ index : Nat, ∃ sub : Nat, let s1 := s.takeTag tag (some c.conn); s1.barred k.service index = false ∧ (s1.asRead.readEntry c.shadow index sub).1 = St.OK ∧ (s1.asRead.readEntry c.shadow index sub).2.2.length ≤ 1024) ∧
    (∃ s : State, ∃ c : Client, ∃ k : Conn, ∃ tag : Nat, s.acceptsQuery c k tag ∧ ∃ index : Nat, ∃ sub : Nat, let s1 := s.takeTag tag (some c.conn); s1.barred k.service index = false ∧ (s1.asRead.readEntry c.shadow index sub).1 ≠ St.OK) ∧
    (∃ s : State, ∃ c : Client, ∃ k : Conn, ∃ tag : Nat, s.acceptsQuery c k tag ∧ ∃ index : Nat, ∃ sub : Nat, (s.takeTag tag (some c.conn)).barred k.service index = false) ∧
    (∃ s : State, ∃ c : Client, ∃ k : Conn, ∃ tag : Nat, s.acceptsQuery c k tag ∧ ∃ first : Nat, ∃ count : Nat, count ≤ 36) ∧
    (∃ s : State, ∃ c : Client, ∃ k : Conn, ∃ tag : Nat, s.acceptsQuery c k tag ∧ ∃ severity : Nat, severity ≤ 3) :=
  ⟨⟨rig, site, (⟨false, .engineer, [1#8], 1, none, []⟩), 0, by simp only [State.acceptsQuery]; decide +kernel, 0x1000, 0x01, by decide +kernel⟩,
   ⟨rig, site, (⟨false, .engineer, [1#8], 1, none, []⟩), 0, by simp only [State.acceptsQuery]; decide +kernel, 0x9999, 0x01, by decide +kernel⟩,
   ⟨rig, site, (⟨false, .engineer, [1#8], 1, none, []⟩), 0, by simp only [State.acceptsQuery]; decide +kernel, 0x1000, 0x01, by decide +kernel⟩,
   ⟨rig, site, (⟨false, .engineer, [1#8], 1, none, []⟩), 0, by simp only [State.acceptsQuery]; decide +kernel, 0, 36, by decide +kernel⟩,
   ⟨rig, site, (⟨false, .engineer, [1#8], 1, none, []⟩), 0, by simp only [State.acceptsQuery]; decide +kernel, 3, by decide +kernel⟩⟩

/-- States and operands that meet the hypotheses of WritesWaitForTheirBoundary, clause by clause. -/
theorem witness_WritesWaitForTheirBoundary :
    (∃ s : State, ∃ c : Client, ∃ k : Conn, ∃ tag : Nat, Tab.find s.tx.conns c.conn = some k ∧ headerStatus c = St.OK ∧ s.keptFor k.identity c.reqId = none ∧ s.tx.freeTag c.conn = some tag ∧ let s1 := s.takeTag tag (some c.conn); let h (op : Nat) (ws : List WItem) : Held := ⟨s.sfn, c.offset, tag, c.conn, k.role, k.service, k.identity, c.reqId, op, c.shadow, c.queue, ws⟩; ∃ w : WItem, w.bytes.length ≤ 1024 ∧ s1.itemReceipt (h Op.WRITE [w]) w = St.OK) ∧
    (∃ s : State, ∃ c : Client, ∃ k : Conn, ∃ tag : Nat, Tab.find s.tx.conns c.conn = some k ∧ headerStatus c = St.OK ∧ s.keptFor k.identity c.reqId = none ∧ s.tx.freeTag c.conn = some tag ∧ let s1 := s.takeTag tag (some c.conn); let h (op : Nat) (ws : List WItem) : Held := ⟨s.sfn, c.offset, tag, c.conn, k.role, k.service, k.identity, c.reqId, op, c.shadow, c.queue, ws⟩; ∃ w : WItem, s1.itemReceipt (h Op.WRITE [w]) w ≠ St.OK) ∧
    (∃ s : State, ∃ c : Client, ∃ k : Conn, ∃ tag : Nat, Tab.find s.tx.conns c.conn = some k ∧ headerStatus c = St.OK ∧ s.keptFor k.identity c.reqId = none ∧ s.tx.freeTag c.conn = some tag ∧ let s1 := s.takeTag tag (some c.conn); let h (op : Nat) (ws : List WItem) : Held := ⟨s.sfn, c.offset, tag, c.conn, k.role, k.service, k.identity, c.reqId, op, c.shadow, c.queue, ws⟩; ∃ ws : List WItem, ws ≠ [] ∧ ws.length ≤ 32 ∧ (∀ w ∈ ws, s1.itemReceipt (h Op.WRITE_GROUP ws) w = St.OK)) ∧
    (∃ s : State, ∃ c : Client, ∃ k : Conn, ∃ tag : Nat, Tab.find s.tx.conns c.conn = some k ∧ headerStatus c = St.OK ∧ s.keptFor k.identity c.reqId = none ∧ s.tx.freeTag c.conn = some tag ∧ let s1 := s.takeTag tag (some c.conn); let h (op : Nat) (ws : List WItem) : Held := ⟨s.sfn, c.offset, tag, c.conn, k.role, k.service, k.identity, c.reqId, op, c.shadow, c.queue, ws⟩; ∃ ws : List WItem, (ws = [] ∨ 32 < ws.length)) ∧
    (∃ s : State, ∃ c : Client, ∃ k : Conn, ∃ tag : Nat, Tab.find s.tx.conns c.conn = some k ∧ headerStatus c = St.OK ∧ s.keptFor k.identity c.reqId = none ∧ s.tx.freeTag c.conn = some tag ∧ let s1 := s.takeTag tag (some c.conn); let h (op : Nat) (ws : List WItem) : Held := ⟨s.sfn, c.offset, tag, c.conn, k.role, k.service, k.identity, c.reqId, op, c.shadow, c.queue, ws⟩; ∃ e : Entry, ∃ n : Nat, ∃ v : Val, s.applying = false ∧ s1.clientReceipt e n (e.item n v) (h Op.WRITE [e.item n v]) = St.OK ∧ let held : State := { s1 with tx := { s1.tx with held := s.tx.held ++ [h Op.WRITE [e.item n v]] } }; ∃ sfn : Nat, ∃ ns : Nat, e = Ent.TIME_SET ∧ n = 0 ∧ v = .bytes (time64 sfn ns)) ∧
    (∃ s : State, ∃ c : Client, ∃ k : Conn, ∃ tag : Nat, Tab.find s.tx.conns c.conn = some k ∧ headerStatus c = St.OK ∧ s.keptFor k.identity c.reqId = none ∧ s.tx.freeTag c.conn = some tag ∧ let s1 := s.takeTag tag (some c.conn); let h (op : Nat) (ws : List WItem) : Held := ⟨s.sfn, c.offset, tag, c.conn, k.role, k.service, k.identity, c.reqId, op, c.shadow, c.queue, ws⟩; ∃ e : Entry, ∃ n : Nat, ∃ v : Val, s.applying = false ∧ s1.clientReceipt e n (e.item n v) (h Op.WRITE [e.item n v]) = St.OK ∧ let held : State := { s1 with tx := { s1.tx with held := s.tx.held ++ [h Op.WRITE [e.item n v]] } }; e = Ent.ACTION_CONTROL ∧ v = .num 1) ∧
    (∃ s : State, ∃ c : Client, ∃ k : Conn, ∃ tag : Nat, Tab.find s.tx.conns c.conn = some k ∧ headerStatus c = St.OK ∧ s.keptFor k.identity c.reqId = none ∧ s.tx.freeTag c.conn = some tag ∧ let s1 := s.takeTag tag (some c.conn); let h (op : Nat) (ws : List WItem) : Held := ⟨s.sfn, c.offset, tag, c.conn, k.role, k.service, k.identity, c.reqId, op, c.shadow, c.queue, ws⟩; ∃ e : Entry, ∃ n : Nat, ∃ v : Val, s.applying = false ∧ s1.clientReceipt e n (e.item n v) (h Op.WRITE [e.item n v]) = St.OK ∧ let held : State := { s1 with tx := { s1.tx with held := s.tx.held ++ [h Op.WRITE [e.item n v]] } }; e = Ent.SWAP_REQUEST ∧ n = 0 ∧ v = .num 1) ∧
    (∃ s : State, ∃ c : Client, ∃ k : Conn, ∃ tag : Nat, Tab.find s.tx.conns c.conn = some k ∧ headerStatus c = St.OK ∧ s.keptFor k.identity c.reqId = none ∧ s.tx.freeTag c.conn = some tag ∧ let s1 := s.takeTag tag (some c.conn); let h (op : Nat) (ws : List WItem) : Held := ⟨s.sfn, c.offset, tag, c.conn, k.role, k.service, k.identity, c.reqId, op, c.shadow, c.queue, ws⟩; ∃ e : Entry, ∃ n : Nat, ∃ v : Val, s.applying = false ∧ s1.clientReceipt e n (e.item n v) (h Op.WRITE [e.item n v]) = St.OK ∧ let held : State := { s1 with tx := { s1.tx with held := s.tx.held ++ [h Op.WRITE [e.item n v]] } }; e = Ent.SHADOW_COPY ∧ n = 0 ∧ v = .num 1) ∧
    (∃ s : State, ∃ c : Client, ∃ k : Conn, ∃ tag : Nat, Tab.find s.tx.conns c.conn = some k ∧ headerStatus c = St.OK ∧ s.keptFor k.identity c.reqId = none ∧ s.tx.freeTag c.conn = some tag ∧ let s1 := s.takeTag tag (some c.conn); let h (op : Nat) (ws : List WItem) : Held := ⟨s.sfn, c.offset, tag, c.conn, k.role, k.service, k.identity, c.reqId, op, c.shadow, c.queue, ws⟩; ∃ e : Entry, ∃ n : Nat, ∃ v : Val, s.applying = false ∧ s1.clientReceipt e n (e.item n v) (h Op.WRITE [e.item n v]) = St.OK ∧ let held : State := { s1 with tx := { s1.tx with held := s.tx.held ++ [h Op.WRITE [e.item n v]] } }; e = Ent.SET_SWAP_NOW ∧ n = 0 ∧ v = .num 1) ∧
    (∃ s : State, ∃ c : Client, ∃ k : Conn, ∃ tag : Nat, Tab.find s.tx.conns c.conn = some k ∧ headerStatus c = St.OK ∧ s.keptFor k.identity c.reqId = none ∧ s.tx.freeTag c.conn = some tag ∧ let s1 := s.takeTag tag (some c.conn); let h (op : Nat) (ws : List WItem) : Held := ⟨s.sfn, c.offset, tag, c.conn, k.role, k.service, k.identity, c.reqId, op, c.shadow, c.queue, ws⟩; ∃ e : Entry, ∃ n : Nat, ∃ v : Val, s.applying = false ∧ s1.clientReceipt e n (e.item n v) (h Op.WRITE [e.item n v]) = St.OK ∧ let held : State := { s1 with tx := { s1.tx with held := s.tx.held ++ [h Op.WRITE [e.item n v]] } }; ∃ o : Nat, ∃ x : Nat, e = Ent.STOP_REQUEST ∧ n = o ∧ v = .num x) :=
  ⟨⟨rig, site, (⟨false, .engineer, [1#8], 1, none, []⟩), 0, by decide +kernel, by decide +kernel, by decide +kernel, by decide +kernel, (Ent.ACTION_SFN.item 3 (.num 5)), by decide +kernel⟩,
   ⟨rig, site, (⟨false, .engineer, [1#8], 1, none, []⟩), 0, by decide +kernel, by decide +kernel, by decide +kernel, by decide +kernel, (⟨0xFFF0, 1, 3, [0#8]⟩), by decide +kernel⟩,
   ⟨rig, site, (⟨false, .engineer, [1#8], 1, none, []⟩), 0, by decide +kernel, by decide +kernel, by decide +kernel, by decide +kernel, ([Ent.ACTION_SFN.item 3 (.num 5), Ent.ACTION_TYPE.item 1023 (.num 3)]), by decide +kernel, by decide +kernel, by decide +kernel⟩,
   ⟨rig, site, (⟨false, .engineer, [1#8], 1, none, []⟩), 0, by decide +kernel, by decide +kernel, by decide +kernel, by decide +kernel, [], by decide +kernel⟩,
   ⟨{ rig with tx := { rig.tx with step := 0 } }, site, (⟨false, .engineer, [1#8], 1, none, []⟩), 0, by decide +kernel, by decide +kernel, by decide +kernel, by decide +kernel, Ent.TIME_SET, 0, ((.bytes (time64 800000000001 999999))), by decide +kernel, by decide +kernel, 800000000001, 999999, by decide +kernel⟩,
   ⟨{ ((rig.setNat Ent.ACTION_TYPE 3 ActType.MARK).setNat Ent.ACTION_SFN 3 800000020000) with tx := { rig.tx with step := 0 } }, site, (⟨false, .engineer, [1#8], 1, none, []⟩), 0, by decide +kernel, by decide +kernel, by decide +kernel, by decide +kernel, Ent.ACTION_CONTROL, 3, ((.num 1)), by decide +kernel⟩,
   ⟨{ rig with tx := { rig.tx with step := 0 } }, site, (⟨false, .engineer, [1#8], 1, none, []⟩), 0, by decide +kernel, by decide +kernel, by decide +kernel, by decide +kernel, Ent.SWAP_REQUEST, 0, ((.num 1)), by decide +kernel⟩,
   ⟨{ rig with tx := { rig.tx with step := 0 } }, site, (⟨false, .engineer, [1#8], 1, none, []⟩), 0, by decide +kernel, by decide +kernel, by decide +kernel, by decide +kernel, Ent.SHADOW_COPY, 0, ((.num 1)), by decide +kernel⟩,
   ⟨{ rig with tx := { rig.tx with step := 0 } }, site, (⟨false, .engineer, [1#8], 1, none, []⟩), 0, by decide +kernel, by decide +kernel, by decide +kernel, by decide +kernel, Ent.SET_SWAP_NOW, 0, ((.num 1)), by decide +kernel⟩,
   ⟨{ rig with tx := { rig.tx with step := 0 } }, site, (⟨false, .engineer, [1#8], 1, none, []⟩), 0, by decide +kernel, by decide +kernel, by decide +kernel, by decide +kernel, Ent.STOP_REQUEST, 7, ((.num 1)), by decide +kernel, by decide +kernel, 7, 1, by decide +kernel⟩⟩

/-- States and operands that meet the hypotheses of SegmentsMoveLongValues, clause by clause. -/
theorem witness_SegmentsMoveLongValues :
    (∃ s : State, ∃ c : Client, ∃ k : Conn, ∃ tag : Nat, ∃ index : Nat, ∃ sub : Nat, s.acceptsQuery c k tag ∧ s.segment c false = none ∧ let s1 := s.takeTag tag (some c.conn); s1.barred k.service index = false ∧ (s1.asRead.readEntry c.shadow index sub).1 = St.OK) ∧
    (∃ s : State, ∃ c : Client, ∃ k : Conn, ∃ tag : Nat, ∃ total : Nat, ∃ w : WItem, s.acceptsQuery c k tag ∧ s.segment c true = none ∧ w.bytes.length ≤ 1024 ∧ w.bytes.length ≤ total) ∧
    (∃ s : State, ∃ tag : Fin 256, ∃ x : Segment, s.tx.segments.find? (fun y => y.tag == tag.val) = some x ∧ x.last + s.nat Ent.SEGMENT_TIMEOUT * 20 ≤ s.ticks) :=
  ⟨⟨rig, site, (⟨false, .engineer, [1#8], 1, none, []⟩), 0, 0x1000, 0x01, by simp only [State.acceptsQuery]; decide +kernel, by decide +kernel⟩,
   ⟨rig, site, (⟨false, .engineer, [1#8], 1, none, []⟩), 0, 8, (⟨0xE003, 6, 11, [1#8, 2#8]⟩), by simp only [State.acceptsQuery]; decide +kernel, by decide +kernel⟩,
   ⟨{ rig with tx := { rig.tx with tags := [(9, some 0)], segments := [⟨9, 0, 7, true, ⟨0xE003, 6, 11, []⟩, 8, [1#8], 1000⟩] } }, 9, (⟨9, 0, 7, true, ⟨0xE003, 6, 11, []⟩, 8, [1#8], 1000⟩), by decide +kernel⟩⟩

/-- States and operands that meet the hypotheses of ConnectionsAndSubscriptions, clause by clause. -/
theorem witness_ConnectionsAndSubscriptions :
    (∃ s : State, ∃ conn : Nat, ∃ o : ConnOpen, ∃ r : Role, s.mayServe o.service = true ∧ o.port = s.nat Ent.DICT_PORT ∧ s.chainRefusal o = none ∧ Tab.find s.tx.conns conn = none ∧ o.anchor.bind s.chainRole = some r ∧ (s.tx.conns.filter (fun k => k.2.service == o.service)).length < (if o.service then 1 else 16)) ∧
    (∃ s : State, ∃ conn : Nat, ∃ cause : Nat, ∃ o : ConnOpen, s.mayServe o.service = true ∧ o.port = s.nat Ent.DICT_PORT ∧ s.chainRefusal o = some cause) ∧
    (∃ s : State, ∃ conn : Nat, ∃ o : ConnOpen, (s.mayServe o.service = false ∨ o.port ≠ s.nat Ent.DICT_PORT)) ∧
    (∃ s : State, ∃ conn : Nat, ∃ delivered : Nat, ∃ k : Conn, Tab.find s.tx.conns conn = some k ∧ k.subscription.isSome) ∧
    (∃ s : State, ∃ e : Fin 32, ∃ accepted : Bool, s.flag Ent.PEER_ENABLED e = true) ∧
    (∃ s : State, ∃ e : Fin 32, ∃ accepted : Bool, s.flag Ent.PEER_ENABLED e = false) :=
  ⟨⟨((rig.setNat Ent.ANCHOR_ROLE 3 2).setNat Ent.ANCHOR_ENABLE 3 1), 5, (⟨false, some 3, true, 77, [9#8], rig.nat Ent.DICT_PORT⟩), .engineer, by decide +kernel⟩,
   ⟨rig, 5, 0, (⟨false, none, true, 77, [9#8], rig.nat Ent.DICT_PORT⟩), by decide +kernel⟩,
   ⟨rig, 5, (⟨false, none, true, 77, [9#8], 5⟩), by decide +kernel⟩,
   ⟨{ rig with tx := { rig.tx with conns := [(0, ⟨false, .engineer, [1#8], 1, some 0, List.replicate 257 ⟨1, 2, 3, 4, 5, 0, false, false, false, 0, 0⟩⟩)] } }, 0, 36, (⟨false, .engineer, [1#8], 1, some 0, List.replicate 257 ⟨1, 2, 3, 4, 5, 0, false, false, false, 0, 0⟩⟩), by decide +kernel⟩,
   ⟨(rig.setNat Ent.PEER_ENABLED 31 1), 31, true, by decide +kernel⟩,
   ⟨rig, 31, true, by decide +kernel⟩⟩

/-- States and operands that meet the hypotheses of ShadowSetCommands, clause by clause. -/
theorem witness_ShadowSetCommands :
    (∃ s : State, ∃ c : Client, ∃ h : Held, s.accepts c Ent.SHADOW_COPY 0 (.num 1) h) ∧
    (∃ s : State, ∃ c : Client, ∃ h : Held, s.accepts c Ent.SHADOW_DEFAULTS 0 (.num 1) h) ∧
    (∃ s : State, ∃ c : Client, ∃ h : Held, s.accepts c Ent.SET_SWAP_NOW 0 (.num 1) h) :=
  ⟨⟨rig, site, _, accepts_of_passes _ _ _ _ _ _ (by decide +kernel)⟩,
   ⟨rig, site, _, accepts_of_passes _ _ _ _ _ _ (by decide +kernel)⟩,
   ⟨rig, site, _, accepts_of_passes _ _ _ _ _ _ (by decide +kernel)⟩⟩

/-- States and operands that meet the hypotheses of AllocatorRunsChecksAndPublishes, clause by clause. -/
theorem witness_AllocatorRunsChecksAndPublishes :
    (∃ s : State, ∃ us : Nat, s.controlUp = true ∧ s.cycle = 1 ∧ us < 2 ^ Ent.ALLOC_COMPUTE_LAST.type.bits ∧ s.nat Ent.ALLOC_COMPUTE_MAX < us) ∧
    (∃ s : State, ∃ us : Nat, (s.controlUp = false ∨ s.cycle ≠ 1)) ∧
    (∃ s : State, ∃ r : Run, s.alloc.run = some r ∧ s.controlUp = true ∧ s.cycle = 12) ∧
    (∃ s : State, (s.controlUp = false ∨ s.cycle ≠ 12 ∨ s.alloc.run = none)) ∧
    (∃ s : State, s.controlUp = true ∧ s.cycle = 13) ∧
    (∃ s : State, (s.controlUp = false ∨ s.cycle ≠ 13)) ∧
    (∃ s : State, ∃ ch : Nat, s.controlUp = true ∧ 14 ≤ s.cycle ∧ s.cycle ≤ 18 ∧ s.alloc.sentAt ≠ some s.frames ∧ ch < 4 ∧ s.canUp ch = true ∧ s.dueSetpoints ch ≠ []) ∧
    (∃ s : State, (s.controlUp = false ∨ s.cycle < 14 ∨ 18 < s.cycle ∨ s.alloc.sentAt = some s.frames)) ∧
    (∃ s : State, ∃ u : Nat, ∃ f : Nat, ∃ v : Int, ∃ g : UnitGrant, s.cycle = 0 ∧ s.tx.step = 4 ∧ u < 64 ∧ Tab.find s.alloc.units u = some g ∧ g.plan = [(f, v)] ∧ f ≤ s.frames ∧ (∀ x ∈ s.alloc.units, x.1 < 104)) ∧
    (∃ s : State, (s.cycle ≠ 0 ∨ s.tx.step ≠ 4)) :=
  ⟨⟨{ buses with cycle := 1, ticks := 2000000001 }, 65535, by decide +kernel⟩,
   ⟨rig, 5, by decide +kernel⟩,
   ⟨{ buses with alloc := { rig.alloc with run := some ⟨[], [], [], [], 0, 0, 0, 0, 0, [], [], [], false, false, [], []⟩ }, cycle := 12, ticks := 2000000012 }, (⟨[], [], [], [], 0, 0, 0, 0, 0, [], [], [], false, false, [], []⟩), by decide +kernel⟩,
   ⟨rig, by decide +kernel⟩,
   ⟨{ buses with alloc := { rig.alloc with run := some ⟨[], [], [], [], 0, 0, 0, 0, 0, [], [], [], false, false, [], []⟩ }, cycle := 13, ticks := 2000000013 }, by decide +kernel⟩,
   ⟨rig, by decide +kernel⟩,
   ⟨{ buses with alloc := { rig.alloc with units := [(5, { UnitGrant.none with plan := [(100000002, 5000)] })] }, cycle := 14, ticks := 2000000014 }, 1, by decide +kernel⟩,
   ⟨rig, by decide +kernel⟩,
   ⟨{ buses with tx := { rig.tx with step := 4 }, alloc := { rig.alloc with units := [(5, { UnitGrant.none with plan := [(100000000, 5000)] })] } }, 5, 100000000, 5000, ({ UnitGrant.none with plan := [(100000000, 5000)] }), by decide +kernel, by decide +kernel, by decide +kernel, by decide +kernel, by decide +kernel, by decide +kernel, by decide +kernel⟩,
   ⟨rig, by decide +kernel⟩⟩

/-- States and operands that meet the hypotheses of ModulesAndFrontEndsLeaveService, clause by clause. -/
theorem witness_ModulesAndFrontEndsLeaveService :
    (∃ s : State, ∃ m : Fin 64, s.unacked m ≠ [] ∧ 12 ≤ s.cycle ∧ s.nat Ent.ACK_MISS_LIMIT ≤ (s.grants m).missFrames + 1 ∧ s.nat Ent.MODULE_STATE m ≠ Mod.UNRESPONSIVE) ∧
    (∃ s : State, ∃ c : Client, ∃ m : Nat, ∃ v : Nat, ∃ h : Held, s.accepts c Ent.MODULE_ENABLE m (.num v) h ∧ v ≤ 1 ∧ v = 0 ∧ s.nat Ent.MODULE_STATE m = Mod.UNRESPONSIVE) ∧
    (∃ s : State, ∃ m : Fin 64, s.switchFailed m = true) ∧
    (∃ s : State, 3 ≤ s.alloc.importOver) ∧
    (∃ s : State, ∃ f : Fin 16, 3 ≤ Tab.get 0 s.alloc.feOver f ∧ f.val ∉ s.alloc.feOut) ∧
    (∃ s : State, ∃ c : Client, ∃ f : Nat, ∃ v : Nat, ∃ h : Held, s.accepts c Ent.FE_ENABLE f (.num v) h ∧ v ≤ 1 ∧ v = 0 ∧ f ∈ s.alloc.feOut) ∧
    (∃ s : State, ∃ c : Client, ∃ f : Nat, ∃ v : Nat, ∃ h : Held, s.accepts c Ent.FE_ENABLE f (.num v) h ∧ v ≤ 1 ∧ v = 1 ∧ f ∈ s.alloc.feRearm) :=
  ⟨⟨{ (buses.setNat Ent.ACK_MISS_LIMIT 0 1) with alloc := { rig.alloc with units := [(63, { UnitGrant.none with sent := [⟨100000001, 5000, 99999999, false⟩] })] }, cycle := 12, ticks := 2000000012 }, 63, by decide +kernel⟩,
   ⟨(rig.setNat Ent.MODULE_STATE 63 Mod.UNRESPONSIVE), site, 63, 0, _, accepts_of_passes _ _ _ _ _ _ (by decide +kernel), by decide +kernel⟩,
   ⟨{ buses with alloc := { rig.alloc with units := [(5, { UnitGrant.none with move := some ⟨.move, 1, 2, 1, 99999000, 99999960, 0, 0, 0⟩ })] } }, 5, by decide +kernel⟩,
   ⟨({ rig with alloc := { rig.alloc with importOver := 3 } } : State), by decide +kernel⟩,
   ⟨({ rig with alloc := { rig.alloc with feOver := [(15, 3)] } } : State), 15, by decide +kernel⟩,
   ⟨{ rig with alloc := { rig.alloc with feOut := [15] } }, site, 15, 0, _, accepts_of_passes _ _ _ _ _ _ (by decide +kernel), by decide +kernel⟩,
   ⟨{ rig with alloc := { rig.alloc with feOut := [15], feRearm := [15] } }, site, 15, 1, _, accepts_of_passes _ _ _ _ _ _ (by decide +kernel), by decide +kernel⟩⟩

/-- States and operands that meet the hypotheses of UnitMessagesAreTakenIn, clause by clause. -/
theorem witness_UnitMessagesAreTakenIn :
    (∃ s : State, ∃ r : CanRx, ∃ u : Nat, s.hears r u ∧ frameIs r 3 0 4 4 = true ∧ u < 64 ∧ leAt r.data 2 1 = 1 ∧ ∃ c ∈ (s.grants u).cmds, c.seq = low 8 (leAt r.data 0 2)) ∧
    (∃ s : State, ∃ r : CanRx, ∃ u : Nat, s.hears r u ∧ frameIs r 3 0 4 4 = true ∧ u < 64 ∧ ∃ x : Sent, leAt r.data 2 1 ≠ 1 ∧ (s.grants u).sent.find? (fun y => low 16 (s.sfn + y.launch - s.frames) == low 16 (leAt r.data 0 2)) = some x) ∧
    (∃ s : State, ∃ r : CanRx, ∃ u : Nat, s.hears r u ∧ frameIs r 5 0 12 12 = true ∧ let st := if u < 64 then moduleStatus r.data else feStatus r.data; (s.unitSt u).heard = true ∧ (s.unitSt u).missing = false ∧ (64 ≤ u ∨ s.nat Ent.MODULE_STATE u ≠ Mod.UNRESPONSIVE)) ∧
    (∃ s : State, ∃ r : CanRx, ∃ u : Nat, s.hears r u ∧ frameIs r 1 0 8 8 = true ∧ (∀ p ∈ (s.unitSt u).faults, p.1 ≠ leAt r.data 0 2) ∧ leAt r.data 2 1 = 2) ∧
    (∃ s : State, ∃ r : CanRx, ∃ u : Nat, s.hears r u ∧ ∃ x : Xfer, frameIs r 7 1 64 64 = true ∧ xferOp r.data = 0x81 ∧ let b := xferOf r.data; s.bus.xfers.find? (fun y => y.tag == b.tag && y.unit == u && y.index == b.index && y.sub == b.sub && xferOp r.data == (if y.write then 0x82 else 0x81)) = some x ∧ b.status = St.OK ∧ b.offset = x.got.length ∧ b.total ≤ (x.got ++ b.value).length ∧ x.index = 1 ∧ x.sub = 5) ∧
    (∃ s : State, ∃ r : CanRx, ∃ u : Nat, s.hears r u ∧ frameIs r 7 2 64 64 = true ∧ let b := xferOf r.data; xferOp r.data = 2) ∧
    (∃ s : State, ∃ r : CanRx, ∃ u : Nat, s.hears r u ∧ frameIs r 7 2 64 64 = true ∧ let b := xferOf r.data; xferOp r.data = 1) ∧
    (∃ s : State, ∃ r : CanRx, s.mirror.replay = false ∧ s.canUp r.ch.val = false) :=
  ⟨⟨{ buses with alloc := { rig.alloc with units := [(5, { UnitGrant.none with cmds := [⟨1, 7, [2#8, 0#8, 0#8, 0#8, 0#8, 0#8], some 99999999, 1, false⟩] })] } }, (⟨1, true, 777, [7#8, 0#8, 1#8, 0#8], 77⟩), 5, by simp only [State.hears]; decide +kernel, by decide +kernel⟩,
   ⟨{ buses with alloc := { rig.alloc with units := [(5, { UnitGrant.none with sent := [⟨100000001, 5000, 99999999, false⟩] })] } }, (⟨1, true, 777, (leBytes 2 (low 16 800000000001) ++ [0#8, 0#8]), 77⟩), 5, by simp only [State.hears]; decide +kernel, by decide +kernel, by decide +kernel, (⟨100000001, 5000, 99999999, false⟩), by decide +kernel⟩,
   ⟨{ buses with bus := { rig.bus with units := [(5, { UnitSt.none with heard := true, at_ := 99999980 })] } }, (⟨1, true, 1289, (List.replicate 12 0#8), 77⟩), 5, by simp only [State.hears]; decide +kernel, by decide +kernel⟩,
   ⟨buses, (⟨1, true, 265, [5#8, 0#8, 2#8, 0#8, 0#8, 0#8, 0#8, 0#8], 77⟩), 5, by simp only [State.hears]; decide +kernel, by decide +kernel, by decide +kernel, by decide +kernel⟩,
   ⟨{ buses with bus := { rig.bus with xfers := [⟨240, 5, false, 1, 5, 1, [], 99999990, 1, 0, []⟩] } }, (⟨1, true, 1833, ([129#8, 240#8, 0#8, 0#8, 1#8, 0#8, 5#8, 1#8, 0#8, 0#8, 1#8, 0#8, 7#8] ++ List.replicate 51 0#8), 77⟩), 5, by simp only [State.hears]; decide +kernel, (⟨240, 5, false, 1, 5, 1, [], 99999990, 1, 0, []⟩), by decide +kernel⟩,
   ⟨buses, (⟨1, true, 1865, ([2#8, 1#8, 0#8, 0#8, 0#8, 16#8, 1#8, 10#8, 0#8, 0#8, 0#8, 0#8] ++ List.replicate 52 0#8), 77⟩), 5, by simp only [State.hears]; decide +kernel, by decide +kernel⟩,
   ⟨buses, (⟨1, true, 1865, ([1#8, 1#8, 0#8, 0#8, 0#8, 16#8, 1#8, 10#8, 0#8, 0#8, 0#8, 0#8] ++ List.replicate 52 0#8), 77⟩), 5, by simp only [State.hears]; decide +kernel, by decide +kernel⟩,
   ⟨rig.setNat Ent.CHANNEL_STATE 1 Can.BUS_OFF, (⟨1, true, 777, (List.replicate 4 0#8), 77⟩), by decide +kernel⟩⟩

/-- States and operands that meet the hypotheses of BusChannelsAndTheirErrors, clause by clause. -/
theorem witness_BusChannelsAndTheirErrors :
    (∃ s : State, ∃ ch : Fin 4, ∃ cls : Fin 8, ∃ sub : Fin 8, ∃ node : Fin 32, ∃ outcome : Fin 4, ∃ start : Int, ∃ data : List Byte, outcome.val ≠ 0 ∧ cls.val ≠ 2 ∧ s.unitAt ch node = none ∧ s.nat Ent.TX_DROPPED ch + 1 < 2 ^ Ent.TX_DROPPED.type.bits) ∧
    (∃ s : State, ∃ ch : Fin 4, ∃ cls : Fin 8, ∃ sub : Fin 8, ∃ node : Fin 32, ∃ outcome : Fin 4, ∃ start : Int, ∃ data : List Byte, ∃ u : Nat, ∃ k : MsgKind, outcome.val ≠ 0 ∧ cls.val ≠ 2 ∧ s.unitAt ch node = some u ∧ s.sentKind u cls sub data = some k ∧ s.nat Ent.TX_DROPPED ch + 1 < 2 ^ Ent.TX_DROPPED.type.bits) ∧
    (∃ s : State, ∃ ch : Fin 4, ∃ sub : Fin 8, ∃ node : Fin 32, ∃ outcome : Fin 4, ∃ start : Int, ∃ data : List Byte, ∃ m : Msg, outcome.val ≠ 0 ∧ s.alloc.sentAt = some s.frames ∧ Tab.find (s.can ch).blocks sub = some m ∧ s.cycle ≠ 19 ∧ s.nat Ent.TX_DROPPED ch + 1 < 2 ^ Ent.TX_DROPPED.type.bits) ∧
    (∃ s : State, ∃ ch : Fin 4, s.nat Ent.BUSOFF_COUNT ch + 1 < 2 ^ Ent.BUSOFF_COUNT.type.bits ∧ let recent := s.ticks :: (s.can ch).busoffs.filter (fun b => decide (s.ticks < b + 20000)); recent.length < 3) ∧
    (∃ s : State, ∃ ch : Fin 4, s.nat Ent.BUSOFF_COUNT ch + 1 < 2 ^ Ent.BUSOFF_COUNT.type.bits ∧ let recent := s.ticks :: (s.can ch).busoffs.filter (fun b => decide (s.ticks < b + 20000)); 3 ≤ recent.length) ∧
    (∃ s : State, ∃ ch : Fin 4, s.nat Ent.CHANNEL_STATE ch = Can.BUS_OFF) ∧
    (∃ s : State, ∃ ch : Fin 4, ∃ b : Nat, (s.can ch).hold = some b ∧ b ≤ s.ticks) ∧
    (∃ s : State, ∃ tag : Fin 256, ∃ x : Xfer, s.bus.xfers.find? (fun y => y.tag == tag.val) = some x ∧ x.frame + 10 ≤ s.frames ∧ x.sends < 3) ∧
    (∃ s : State, ∃ tag : Fin 256, ∃ x : Xfer, s.bus.xfers.find? (fun y => y.tag == tag.val) = some x ∧ x.frame + 10 ≤ s.frames ∧ 3 ≤ x.sends ∧ x.index ≠ 3) :=
  ⟨⟨buses, 1, 4, 1, 31, 3, 500, [], by decide +kernel⟩,
   ⟨{ buses with alloc := { rig.alloc with units := [(5, { UnitGrant.none with cmds := [⟨1, 7, [2#8, 0#8, 0#8, 0#8, 0#8, 0#8], some 99999999, 1, false⟩] })] } }, 1, 4, 1, 9, 3, 500, ([7#8, 0#8]), 5, .switchOutlet, by decide +kernel⟩,
   ⟨{ buses with alloc := { rig.alloc with sentAt := some 100000000 }, bus := { rig.bus with cans := [(1, { rig.can 1 with blocks := [(2, ⟨.can, 1, .setpoint, [], [1#8]⟩)] })] }, cycle := 14, ticks := 2000000014 }, 1, 2, 9, 3, 500, [], (⟨.can, 1, .setpoint, [], [1#8]⟩), by decide +kernel⟩,
   ⟨{ buses with bus := { rig.bus with cans := [(1, { rig.can 1 with busoffs := [1999990000, 1999980000] })] } }, 1, by decide +kernel⟩,
   ⟨{ buses with bus := { rig.bus with cans := [(1, { rig.can 1 with busoffs := [1999990000, 1999980001] })] } }, 1, by decide +kernel⟩,
   ⟨((((((rig.setNat Ent.CHANNEL_STATE 1 Can.ERROR_ACTIVE).setNat Ent.MODULE_BUS_CHANNEL 5 1).setNat Ent.MODULE_BUS_NODE 5 9).setNat Ent.FE_BUS_CHANNEL 2 1).setNat Ent.FE_BUS_NODE 2 10).setNat Ent.CHANNEL_STATE 1 Can.BUS_OFF), 1, by decide +kernel⟩,
   ⟨{ (buses.setNat Ent.CHANNEL_STATE 1 Can.HELD) with bus := { rig.bus with cans := [(1, { rig.can 1 with hold := some 2000000000 })] } }, 1, 2000000000, by decide +kernel⟩,
   ⟨{ buses with bus := { rig.bus with xfers := [⟨240, 5, false, 1, 5, 1, [], 99999990, 1, 0, []⟩] } }, 240, (⟨240, 5, false, 1, 5, 1, [], 99999990, 1, 0, []⟩), by decide +kernel⟩,
   ⟨{ buses with bus := { rig.bus with xfers := [⟨240, 5, false, 1, 5, 1, [], 99999990, 3, 0, []⟩] } }, 240, (⟨240, 5, false, 1, 5, 1, [], 99999990, 3, 0, []⟩), by decide +kernel⟩⟩

/-- States and operands that meet the hypotheses of UnitsGoMissingMoveAndAreTested, clause by clause. -/
theorem witness_UnitsGoMissingMoveAndAreTested :
    (∃ s : State, ∃ unit : Fin 80, s.fitted unit.val = true ∧ (s.unitSt unit.val).missing = false ∧ s.missingFor unit.val (s.statusAllowance unit.val) = true) ∧
    (∃ s : State, ∃ unit : Fin 80, s.missingFor unit.val (s.statusAllowance unit.val) = false) ∧
    (∃ s : State, ∃ unit : Fin 80, s.fitted unit.val = true ∧ (s.unitSt unit.val).alt = false ∧ let ac := s.unitNat Ent.MODULE_BUS_ALT_CHANNEL Ent.FE_BUS_ALT_CHANNEL unit.val; ac ≠ 0xFF ∧ s.canUp ac = true ∧ (s.busLost (s.unitNat Ent.MODULE_BUS_CHANNEL Ent.FE_BUS_CHANNEL unit.val) = true ∨ s.missingFor unit.val 10 = true)) ∧
    (∃ s : State, ∃ c : Client, ∃ m : Nat, ∃ v : Nat, ∃ h : Held, m < 64 ∧ s.accepts c Ent.MODULE_UNIT_TEST m (.num v) h ∧ (∀ r ∈ s.running, r.target ≠ Ent.MODULE_UNIT_TEST.target m) ∧ s.nat Ent.MODULE_STATE m = Mod.IDLE) ∧
    (∃ s : State, ∃ c : Client, ∃ m : Nat, ∃ v : Nat, ∃ h : Held, m < 64 ∧ s.accepts c Ent.MODULE_UNIT_TEST m (.num v) h ∧ (∀ r ∈ s.running, r.target ≠ Ent.MODULE_UNIT_TEST.target m) ∧ s.nat Ent.MODULE_STATE m ≠ Mod.IDLE ∧ c.queue = false) ∧
    (∃ s : State, ∃ c : Client, ∃ f : Nat, ∃ v : Nat, ∃ h : Held, f < 16 ∧ s.accepts c Ent.FE_UNIT_TEST f (.num v) h ∧ (∀ r ∈ s.running, r.target ≠ Ent.FE_UNIT_TEST.target f) ∧ s.unitInService (64 + f) = false) ∧
    (∃ s : State, ∃ unit : Fin 80, ∃ x : UnitTestSt, ∃ n : Nat, s.bus.tests.find? (fun y => y.unit == unit.val) = some x ∧ x.time = some n ∧ x.started + n + 100 ≤ s.frames) :=
  ⟨⟨{ (buses.setNat Ent.STATUS_DIVIDER 1 5) with bus := { rig.bus with units := [(5, { UnitSt.none with heard := true, due := some 99999985 })] } }, 5, by decide +kernel⟩,
   ⟨{ buses with bus := { rig.bus with units := [(5, { UnitSt.none with heard := true, due := some 99999999 })] } }, 5, by decide +kernel⟩,
   ⟨(((((((rig.setNat Ent.CHANNEL_STATE 1 Can.BUS_OFF).setNat Ent.CHANNEL_STATE 2 Can.ERROR_PASSIVE).setNat Ent.CHANNEL_ENABLE 2 1).setNat Ent.MODULE_BUS_CHANNEL 5 1).setNat Ent.MODULE_BUS_NODE 5 9).setNat Ent.MODULE_BUS_ALT_CHANNEL 5 2).setNat Ent.MODULE_BUS_ALT_NODE 5 3), 5, by decide +kernel⟩,
   ⟨((((((rig.setNat Ent.CHANNEL_STATE 1 Can.ERROR_ACTIVE).setNat Ent.MODULE_BUS_CHANNEL 5 1).setNat Ent.MODULE_BUS_NODE 5 9).setNat Ent.FE_BUS_CHANNEL 2 1).setNat Ent.FE_BUS_NODE 2 10).setNat Ent.MODULE_STATE 5 Mod.IDLE), site, 5, 1, _, by decide +kernel, accepts_of_passes _ _ _ _ _ _ (by decide +kernel), by decide +kernel, by decide +kernel⟩,
   ⟨((((((rig.setNat Ent.CHANNEL_STATE 1 Can.ERROR_ACTIVE).setNat Ent.MODULE_BUS_CHANNEL 5 1).setNat Ent.MODULE_BUS_NODE 5 9).setNat Ent.FE_BUS_CHANNEL 2 1).setNat Ent.FE_BUS_NODE 2 10).setNat Ent.MODULE_STATE 5 Mod.ASSIGNED), site, 5, 1, _, by decide +kernel, accepts_of_passes _ _ _ _ _ _ (by decide +kernel), by decide +kernel, by decide +kernel⟩,
   ⟨buses, site, 2, 1, _, by decide +kernel, accepts_of_passes _ _ _ _ _ _ (by decide +kernel), by decide +kernel, by decide +kernel⟩,
   ⟨({ (((((rig.setNat Ent.CHANNEL_STATE 1 Can.ERROR_ACTIVE).setNat Ent.MODULE_BUS_CHANNEL 5 1).setNat Ent.MODULE_BUS_NODE 5 9).setNat Ent.FE_BUS_CHANNEL 2 1).setNat Ent.FE_BUS_NODE 2 10) with bus := { ((((((rig.setNat Ent.CHANNEL_STATE 1 Can.ERROR_ACTIVE).setNat Ent.MODULE_BUS_CHANNEL 5 1).setNat Ent.MODULE_BUS_NODE 5 9).setNat Ent.FE_BUS_CHANNEL 2 1).setNat Ent.FE_BUS_NODE 2 10)).bus with tests := [⟨5, some 50, 99999850, none, true⟩] } } : State), 5, (⟨5, some 50, 99999850, none, true⟩), 50, by decide +kernel⟩⟩

/-- States and operands that meet the hypotheses of SessionsAreSetUp, clause by clause. -/
theorem witness_SessionsAreSetUp :
    (∃ s : State, ∃ o : Fin 8, (s.sesState o = Ses.IDLE ∨ (s.sesState o = Ses.UNAVAILABLE ∧ s.onlyCalibrating o = true)) ∧ (if o.val < 4 then s.die.lkA else s.die.lkB) = true ∧ Dev.SLEEP ≤ s.devState ∧ s.devState ≠ Dev.RECOVERY ∧ frames20 ≤ (s.line o).connected) ∧
    (∃ s : State, ∃ o : Fin 8, s.sesState o = Ses.UNAVAILABLE ∧ s.onlyCalibrating o = false ∧ (if o.val < 4 then s.die.lkA else s.die.lkB) = true ∧ Dev.SLEEP ≤ s.devState ∧ s.devState ≠ Dev.RECOVERY ∧ frames20 ≤ (s.line o).connected) ∧
    (∃ s : State, ∃ o : Fin 8, ∃ good : Bool, ∃ cert : Bool, s.sesLive o = true ∧ (s.sess o).committed = false ∧ (s.sess o).closed = false ∧ good = true ∧ s.seccReady o = true) ∧
    (∃ s : State, ∃ o : Fin 8, ∃ good : Bool, ∃ cert : Bool, s.sesLive o = true ∧ (s.sess o).committed = false ∧ (s.sess o).closed = false ∧ (good = false ∨ s.seccReady o = false)) ∧
    (∃ s : State, ∃ o : Fin 8, ∃ l : List Namespace, s.sesState o = Ses.HANDSHAKE ∧ s.linked o = true ∧ ∃ m : _, commonMinor l = some m) ∧
    (∃ s : State, ∃ o : Fin 8, ∃ l : List Namespace, s.sesState o = Ses.HANDSHAKE ∧ s.linked o = true ∧ commonMinor l = none ∧ (s.sess o).committed = false ∧ (s.sess o).closed = false) ∧
    (∃ s : State, ∃ o : Fin 8, ∃ l : List Namespace, s.sesLive o = true ∧ s.linked o = true ∧ s.sesState o ≠ Ses.HANDSHAKE ∧ (s.sess o).committed = false ∧ (s.sess o).closed = false) ∧
    (∃ s : State, ∃ o : Fin 8, ∃ l : List Namespace, s.sesLive o = true ∧ s.linked o = false) ∧
    (∃ s : State, ∃ o : Fin 8, ∃ random : Nat, s.sesState o = Ses.SETUP ∧ s.linked o = true ∧ (s.sess o).setup = false ∧ (s.sess o).committed = false ∧ s.outletCalibrating o = false ∧ s.nat Ent.SESSION_COUNTER + 1 < 2 ^ Ent.SESSION_COUNTER.type.bits) ∧
    (∃ s : State, ∃ o : Fin 8, ∃ select : Option Nat, ∃ mode : Fin 2, s.sesState o = Ses.SETUP ∧ s.linked o = true ∧ (s.sess o).setup = true ∧ select = none) ∧
    (∃ s : State, ∃ o : Fin 8, s.sesLive o = true ∧ (s.sess o).recorded = false ∧ (s.sess o).committed = false ∧ 3 ≤ (s.line o).lost ∧ (s.sess o).closed = true) ∧
    (∃ s : State, ∃ o : Fin 8, (s.line o).lost < 3) :=
  ⟨⟨{ outlet7 with outlets := { rig.outlets with sess := [(7, { Sess.none with state := Ses.IDLE, plugAt := 1999000000, stateAt := 1999900000 })], lines := [(7, { LineSt.none with connected := 400 })] } }, 7, by decide +kernel⟩,
   ⟨{ outlet7 with outlets := { rig.outlets with sess := [(7, { Sess.none with state := Ses.UNAVAILABLE, plugAt := 1999000000, stateAt := 1999900000 })], lines := [(7, { LineSt.none with connected := 400 })] } }, 7, by decide +kernel⟩,
   ⟨((({ outlet7 with outlets := { rig.outlets with sess := [(7, { Sess.none with state := Ses.HANDSHAKE, plugAt := 1999000000, stateAt := 1999900000 })] } } : State).setBytes Ent.SLOT_INFO 5 (leBytes 1 2 ++ leBytes 1 2 ++ leBytes 1 1 ++ List.replicate 29 0#8)).setNat Ent.SECC_SLOT 0 5 7), 7, true, true, by decide +kernel⟩,
   ⟨{ outlet7 with outlets := { rig.outlets with sess := [(7, { Sess.none with state := Ses.HANDSHAKE, plugAt := 1999000000, stateAt := 1999900000 })] } }, 7, false, true, by decide +kernel⟩,
   ⟨{ outlet7 with outlets := { rig.outlets with sess := [(7, { Sess.none with state := Ses.HANDSHAKE, plugAt := 1999000000, stateAt := 1999900000 })], lines := [(7, { LineSt.none with tcp := true, tls := true })] } }, 7, ([⟨true, 1, 0⟩]), by decide +kernel, by decide +kernel, 0, by decide +kernel⟩,
   ⟨{ outlet7 with outlets := { rig.outlets with sess := [(7, { Sess.none with state := Ses.HANDSHAKE, plugAt := 1999000000, stateAt := 1999900000 })], lines := [(7, { LineSt.none with tcp := true, tls := true })] } }, 7, ([⟨true, 2, 0⟩, ⟨false, 1, 0⟩]), by decide +kernel⟩,
   ⟨{ outlet7 with outlets := { rig.outlets with sess := [(7, { Sess.none with state := Ses.SETUP, plugAt := 1999000000, stateAt := 1999900000 })], lines := [(7, { LineSt.none with tcp := true, tls := true })] } }, 7, ([⟨true, 1, 0⟩]), by decide +kernel⟩,
   ⟨{ outlet7 with outlets := { rig.outlets with sess := [(7, { Sess.none with state := Ses.HANDSHAKE, plugAt := 1999000000, stateAt := 1999900000 })] } }, 7, ([⟨true, 1, 0⟩]), by decide +kernel⟩,
   ⟨{ outlet7 with outlets := { rig.outlets with sess := [(7, { Sess.none with state := Ses.SETUP, plugAt := 1999000000, stateAt := 1999900000 })], lines := [(7, { LineSt.none with tcp := true, tls := true })] } }, 7, 99, by decide +kernel⟩,
   ⟨{ outlet7 with outlets := { rig.outlets with sess := [(7, { Sess.none with state := Ses.SETUP, plugAt := 1999000000, stateAt := 1999900000, setup := true })], lines := [(7, { LineSt.none with tcp := true, tls := true })] } }, 7, none, 1, by decide +kernel⟩,
   ⟨{ outlet7 with outlets := { rig.outlets with sess := [(7, { Sess.none with state := Ses.TRANSFER, plugAt := 1999000000, stateAt := 1999900000, closed := true })], lines := [(7, { LineSt.none with tcp := true, tls := true, lost := 3 })] } }, 7, by decide +kernel⟩,
   ⟨{ outlet7 with outlets := { rig.outlets with sess := [(7, { Sess.none with state := Ses.TRANSFER, plugAt := 1999000000, stateAt := 1999900000 })], lines := [(7, { LineSt.none with tcp := true, tls := true, lost := 2 })] } }, 7, by decide +kernel⟩⟩

/-- States and operands that meet the hypotheses of SessionsAreAuthorisedAndChecked, clause by clause. -/
theorem witness_SessionsAreAuthorisedAndChecked :
    (∃ s : State, ∃ o : Fin 8, ∃ ok_ : Bool, ∃ contract : List Byte, s.sesState o = Ses.SETUP ∧ s.linked o = true ∧ (s.sess o).setup = true ∧ ok_ = true ∧ (s.line o).cert = true ∧ s.time.state ≠ .unset) ∧
    (∃ s : State, ∃ o : Fin 8, ∃ ok_ : Bool, ∃ contract : List Byte, s.sesState o = Ses.SETUP ∧ s.linked o = true ∧ (s.sess o).setup = true ∧ (ok_ = false ∨ (s.line o).cert = false ∨ s.time.state = .unset) ∧ (s.sess o).committed = false ∧ (s.sess o).closed = false) ∧
    (∃ s : State, ∃ o : Fin 8, ∃ c : Client, ∃ token : List Byte, ∃ h : Held, s.accepts c Ent.EIM_TOKEN o (.bytes token) h ∧ s.sesLive o = true ∧ s.nat Ent.AUTH_KIND o = 1 ∧ (s.sess o).decided = false) ∧
    (∃ s : State, ∃ o : Fin 8, ∃ c : Client, ∃ d : Decision, ∃ h : Held, s.accepts c Ent.AUTH_RESPONSE o (.bytes (decisionBytes d)) h ∧ d.number < 2 ^ 32 ∧ d.result ≤ 1 ∧ (d.cls ≤ 3 ∨ d.cls = 0xFF) ∧ (d.account ≤ 255 ∨ d.account = 0xFFFF) ∧ (d.number < s.nat Ent.SESSION_NUMBER o ∨ (d.number = s.nat Ent.SESSION_NUMBER o ∧ (s.sesLive o = false ∨ (s.sess o).setup = false ∨ (s.sess o).decided = true ∨ (s.sess o).committed = true)))) ∧
    (∃ s : State, ∃ o : Fin 8, ∃ c : Client, ∃ d : Decision, ∃ h : Held, s.accepts c Ent.AUTH_RESPONSE o (.bytes (decisionBytes d)) h ∧ d.number < 2 ^ 32 ∧ d.result ≤ 1 ∧ (d.cls ≤ 3 ∨ d.cls = 0xFF) ∧ (d.account ≤ 255 ∨ d.account = 0xFFFF) ∧ s.nat Ent.SESSION_NUMBER o < d.number) ∧
    (∃ s : State, ∃ o : Fin 8, ∃ c : Client, ∃ d : Decision, ∃ h : Held, s.accepts c Ent.AUTH_RESPONSE o (.bytes (decisionBytes d)) h ∧ d.number < 2 ^ 32 ∧ d.result ≤ 1 ∧ (d.cls ≤ 3 ∨ d.cls = 0xFF) ∧ (d.account ≤ 255 ∨ d.account = 0xFFFF) ∧ d.number = s.nat Ent.SESSION_NUMBER o ∧ s.sesState o = Ses.AUTHORISING ∧ (s.sess o).setup = true ∧ (s.sess o).decided = false ∧ (s.sess o).committed = false ∧ d.result = 0) ∧
    (∃ s : State, ∃ o : Fin 8, ∃ c : Client, ∃ d : Decision, ∃ h : Held, s.accepts c Ent.AUTH_RESPONSE o (.bytes (decisionBytes d)) h ∧ d.number < 2 ^ 32 ∧ d.result ≤ 1 ∧ (d.cls ≤ 3 ∨ d.cls = 0xFF) ∧ (d.account ≤ 255 ∨ d.account = 0xFFFF) ∧ d.number = s.nat Ent.SESSION_NUMBER o ∧ s.sesState o = Ses.AUTHORISING ∧ (s.sess o).setup = true ∧ (s.sess o).decided = false ∧ (s.sess o).committed = false ∧ d.result = 1 ∧ (s.sess o).closed = false) ∧
    (∃ s : State, ∃ o : Fin 8, s.sesState o = Ses.AUTHORISING ∧ (s.sess o).committed = false ∧ (s.sess o).closed = false ∧ (s.sess o).stateAt + secTicks (s.nat Ent.AUTH_TIMEOUT) ≤ s.ticks ∧ (s.nat Ent.AUTH_OFFLINE_POLICY = 2 ∨ (s.nat Ent.AUTH_OFFLINE_POLICY = 1 ∧ (s.sess o).verified = true))) ∧
    (∃ s : State, ∃ o : Fin 8, s.sesState o = Ses.AUTHORISING ∧ (s.sess o).committed = false ∧ (s.sess o).closed = false ∧ (s.sess o).stateAt + secTicks (s.nat Ent.AUTH_TIMEOUT) ≤ s.ticks ∧ (s.nat Ent.AUTH_OFFLINE_POLICY = 0 ∨ (s.nat Ent.AUTH_OFFLINE_POLICY = 1 ∧ (s.sess o).verified = false))) ∧
    (∃ s : State, ∃ o : Fin 8, ∃ p : EvParams, s.sesState o = Ses.PARAMETERS ∧ s.linked o = true ∧ p.maxPower < 2 ^ Ent.EV_MAX_POWER.type.bits ∧ p.error = true ∧ (s.sess o).committed = false ∧ (s.sess o).closed = false) ∧
    (∃ s : State, ∃ o : Fin 8, s.sesState o = Ses.PARAMETERS ∧ s.linked o = true ∧ (s.modulesOf o).filter s.steady = []) ∧
    (∃ s : State, ∃ o : Fin 8, s.sesState o = Ses.PARAMETERS ∧ s.linked o = true ∧ (s.modulesOf o).filter s.steady ≠ []) ∧
    (∃ s : State, ∃ o : Fin 8, s.sesState o = Ses.CABLE_CHECK ∧ s.linked o = true) ∧
    (∃ s : State, ∃ o : Fin 8, ∃ b : Nat, (s.sess o).bandSince = some b ∧ s.sesState o = Ses.CABLE_CHECK ∧ b + secTicks 1 ≤ s.ticks) ∧
    (∃ s : State, ∃ o : Fin 8, s.sesLive o = true ∧ s.linked o = true) :=
  ⟨⟨{ outlet7 with outlets := { rig.outlets with sess := [(7, { Sess.none with state := Ses.SETUP, plugAt := 1999000000, stateAt := 1999900000, setup := true })], lines := [(7, { LineSt.none with tcp := true, tls := true, cert := true })] } }, 7, true, [1#8], by decide +kernel⟩,
   ⟨{ outlet7 with outlets := { rig.outlets with sess := [(7, { Sess.none with state := Ses.SETUP, plugAt := 1999000000, stateAt := 1999900000, setup := true })], lines := [(7, { LineSt.none with tcp := true, tls := true })] } }, 7, true, [1#8], by decide +kernel⟩,
   ⟨{ (outlet7.setNat Ent.AUTH_KIND 7 1) with outlets := { rig.outlets with sess := [(7, { Sess.none with state := Ses.AUTHORISING, plugAt := 1999000000, stateAt := 1999900000 })], lines := [(7, { LineSt.none with tcp := true, tls := true })] } }, 7, site, ([1#8, 2#8]), _, accepts_of_passes _ _ _ _ _ _ (by decide +kernel), by decide +kernel⟩,
   ⟨{ (outlet7.setNat Ent.SESSION_NUMBER 7 42) with outlets := { rig.outlets with sess := [(7, { Sess.none with state := Ses.AUTHORISING, plugAt := 1999000000, stateAt := 1999900000, setup := true })], lines := [(7, { LineSt.none with tcp := true, tls := true })] } }, 7, site, (⟨41, 0, 3, 255⟩), _, accepts_of_passes _ _ _ _ _ _ (by decide +kernel), by decide +kernel⟩,
   ⟨{ (outlet7.setNat Ent.SESSION_NUMBER 7 42) with outlets := { rig.outlets with sess := [(7, { Sess.none with state := Ses.AUTHORISING, plugAt := 1999000000, stateAt := 1999900000, setup := true })], lines := [(7, { LineSt.none with tcp := true, tls := true })] } }, 7, site, (⟨43, 0, 3, 255⟩), _, accepts_of_passes _ _ _ _ _ _ (by decide +kernel), by decide +kernel⟩,
   ⟨{ (outlet7.setNat Ent.SESSION_NUMBER 7 42) with outlets := { rig.outlets with sess := [(7, { Sess.none with state := Ses.AUTHORISING, plugAt := 1999000000, stateAt := 1999900000, setup := true })], lines := [(7, { LineSt.none with tcp := true, tls := true })] } }, 7, site, (⟨42, 0, 3, 255⟩), _, accepts_of_passes _ _ _ _ _ _ (by decide +kernel), by decide +kernel⟩,
   ⟨{ (outlet7.setNat Ent.SESSION_NUMBER 7 42) with outlets := { rig.outlets with sess := [(7, { Sess.none with state := Ses.AUTHORISING, plugAt := 1999000000, stateAt := 1999900000, setup := true })], lines := [(7, { LineSt.none with tcp := true, tls := true })] } }, 7, site, (⟨42, 1, 3, 255⟩), _, accepts_of_passes _ _ _ _ _ _ (by decide +kernel), by decide +kernel⟩,
   ⟨{ (outlet7.setNat Ent.AUTH_OFFLINE_POLICY 0 1) with outlets := { rig.outlets with sess := [(7, { Sess.none with state := Ses.AUTHORISING, plugAt := 1999000000, stateAt := 1000, verified := true })], lines := [(7, { LineSt.none with tcp := true, tls := true })] } }, 7, by decide +kernel⟩,
   ⟨{ (outlet7.setNat Ent.AUTH_OFFLINE_POLICY 0 1) with outlets := { rig.outlets with sess := [(7, { Sess.none with state := Ses.AUTHORISING, plugAt := 1999000000, stateAt := 1000, verified := false })], lines := [(7, { LineSt.none with tcp := true, tls := true })] } }, 7, by decide +kernel⟩,
   ⟨{ outlet7 with outlets := { rig.outlets with sess := [(7, { Sess.none with state := Ses.PARAMETERS, plugAt := 1999000000, stateAt := 1999900000 })], lines := [(7, { LineSt.none with tcp := true, tls := true })] } }, 7, (⟨3000000, 20000, 10000, 5000, 0, 0, some 50, false, true⟩), by decide +kernel⟩,
   ⟨{ outlet7 with outlets := { rig.outlets with sess := [(7, { Sess.none with state := Ses.PARAMETERS, plugAt := 1999000000, stateAt := 1999900000 })], lines := [(7, { LineSt.none with tcp := true, tls := true })] } }, 7, by decide +kernel⟩,
   ⟨{ ((outlet7.setNat Ent.ASSIGNED_OUTLET 5 7).setNat Ent.MODULE_STATE 5 Mod.ASSIGNED) with outlets := { rig.outlets with sess := [(7, { Sess.none with state := Ses.PARAMETERS, plugAt := 1999000000, stateAt := 1999900000 })], lines := [(7, { LineSt.none with tcp := true, tls := true })] } }, 7, by decide +kernel⟩,
   ⟨{ outlet7 with outlets := { rig.outlets with sess := [(7, { Sess.none with state := Ses.CABLE_CHECK, plugAt := 1999000000, stateAt := 1999900000 })], lines := [(7, { LineSt.none with tcp := true, tls := true })] } }, 7, by decide +kernel⟩,
   ⟨(outlet7.setSess 7 { Sess.none with state := Ses.CABLE_CHECK, plugAt := 1999000000, stateAt := 1999900000, bandSince := some 1999980000 }), 7, 1999980000, by decide +kernel⟩,
   ⟨{ outlet7 with outlets := { rig.outlets with sess := [(7, { Sess.none with state := Ses.SETUP, plugAt := 1999000000, stateAt := 1999900000 })], lines := [(7, { LineSt.none with tcp := true, tls := true })] } }, 7, by decide +kernel⟩⟩

/-- States and operands that meet the hypotheses of SessionsTransferAndPause, clause by clause. -/
theorem witness_SessionsTransferAndPause :
    (∃ s : State, ∃ o : Fin 8, s.linked o = true ∧ ∃ target : Nat, ((s.sesState o = Ses.CABLE_CHECK ∧ (s.sess o).passed = true) ∨ s.sesState o = Ses.PAUSED)) ∧
    (∃ s : State, ∃ o : Fin 8, s.linked o = true ∧ s.sesState o = Ses.PRE_CHARGE ∧ let off := ratAbs (s.oVolts o - (((s.sess o).target : Nat) : Rat) / 10); off ≤ 20) ∧
    (∃ s : State, ∃ o : Fin 8, s.linked o = true ∧ s.sesState o = Ses.PRE_CHARGE ∧ let off := ratAbs (s.oVolts o - (((s.sess o).target : Nat) : Rat) / 10); 20 < off ∧ (s.sess o).committed = false ∧ (s.sess o).closed = true) ∧
    (∃ s : State, ∃ o : Fin 8, s.linked o = true ∧ s.sesState o = Ses.PAUSED) ∧
    (∃ s : State, ∃ o : Fin 8, s.linked o = true ∧ s.sesState o = Ses.TRANSFER) ∧
    (∃ s : State, ∃ o : Fin 8, s.linked o = true ∧ (s.sesState o = Ses.PRE_CHARGE ∨ s.sesState o = Ses.TRANSFER ∨ s.sesState o = Ses.PAUSED) ∧ (s.sess o).committed = false ∧ (s.sess o).reason = 0xFF ∧ (s.sess o).closed = true) ∧
    (∃ s : State, ∃ o : Fin 8, s.linked o = true ∧ ∃ p : EvParams, s.sesState o = Ses.TRANSFER ∧ p.error = false) ∧
    (∃ s : State, ∃ o : Fin 8, s.linked o = true ∧ ∃ p : EvParams, s.sesState o = Ses.TRANSFER ∧ p.error = true ∧ (s.sess o).committed = false ∧ (s.sess o).closed = true) ∧
    (∃ s : State, ∃ o : Fin 8, s.linked o = true ∧ ∃ finished : Bool, (s.sesState o = Ses.STOPPING ∨ s.sesState o = Ses.RELEASE ∨ s.sesState o = Ses.WELDING_CHECK)) ∧
    (∃ s : State, ∃ o : Fin 8, s.linked o = true ∧ s.sesLive o = true ∧ (s.sess o).committed = false ∧ (s.sess o).recorded = false ∧ (s.sess o).closed = true) :=
  ⟨⟨{ outlet7 with outlets := { rig.outlets with sess := [(7, { Sess.none with state := Ses.CABLE_CHECK, plugAt := 1999000000, stateAt := 1999900000, passed := true })], lines := [(7, { LineSt.none with tcp := true, tls := true })] } }, 7, by decide +kernel, 9000, by decide +kernel⟩,
   ⟨{ (outlet7.setRat Ent.MCH_VALUE 10 920) with outlets := { rig.outlets with sess := [(7, { Sess.none with state := Ses.PRE_CHARGE, plugAt := 1999000000, stateAt := 1999900000, target := 9000, closed := true })], lines := [(7, { LineSt.none with tcp := true, tls := true })] } }, 7, by decide +kernel⟩,
   ⟨{ (outlet7.setRat Ent.MCH_VALUE 10 921) with outlets := { rig.outlets with sess := [(7, { Sess.none with state := Ses.PRE_CHARGE, plugAt := 1999000000, stateAt := 1999900000, target := 9000, closed := true })], lines := [(7, { LineSt.none with tcp := true, tls := true })] } }, 7, by decide +kernel⟩,
   ⟨{ outlet7 with outlets := { rig.outlets with sess := [(7, { Sess.none with state := Ses.PAUSED, plugAt := 1999000000, stateAt := 1999900000 })], lines := [(7, { LineSt.none with tcp := true, tls := true })] } }, 7, by decide +kernel⟩,
   ⟨{ outlet7 with outlets := { rig.outlets with sess := [(7, { Sess.none with state := Ses.TRANSFER, plugAt := 1999000000, stateAt := 1999900000, closed := true })], lines := [(7, { LineSt.none with tcp := true, tls := true })] } }, 7, by decide +kernel⟩,
   ⟨{ outlet7 with outlets := { rig.outlets with sess := [(7, { Sess.none with state := Ses.PAUSED, plugAt := 1999000000, stateAt := 1999900000, closed := true })], lines := [(7, { LineSt.none with tcp := true, tls := true })] } }, 7, by decide +kernel⟩,
   ⟨{ outlet7 with outlets := { rig.outlets with sess := [(7, { Sess.none with state := Ses.TRANSFER, plugAt := 1999000000, stateAt := 1999900000 })], lines := [(7, { LineSt.none with tcp := true, tls := true })] } }, 7, by decide +kernel, (⟨3000000, 20000, 10000, 5000, 0, 0, some 50, false, false⟩), by decide +kernel⟩,
   ⟨{ outlet7 with outlets := { rig.outlets with sess := [(7, { Sess.none with state := Ses.TRANSFER, plugAt := 1999000000, stateAt := 1999900000, closed := true })], lines := [(7, { LineSt.none with tcp := true, tls := true })] } }, 7, by decide +kernel, (⟨3000000, 20000, 10000, 5000, 0, 0, some 50, false, true⟩), by decide +kernel⟩,
   ⟨{ outlet7 with outlets := { rig.outlets with sess := [(7, { Sess.none with state := Ses.RELEASE, plugAt := 1999000000, stateAt := 1999900000 })], lines := [(7, { LineSt.none with tcp := true, tls := true })] } }, 7, by decide +kernel, false, by decide +kernel⟩,
   ⟨{ outlet7 with outlets := { rig.outlets with sess := [(7, { Sess.none with state := Ses.TRANSFER, plugAt := 1999000000, stateAt := 1999900000, closed := true })], lines := [(7, { LineSt.none with tcp := true, tls := true })] } }, 7, by decide +kernel⟩⟩

/-- States and operands that meet the hypotheses of SessionsAreTrippedAndStopped, clause by clause. -/
theorem witness_SessionsAreTrippedAndStopped :
    (∃ s : State, ∃ o : Fin 8, (s.sesState o = Ses.CONNECTED ∨ s.sesState o = Ses.HANDSHAKE ∨ s.sesState o = Ses.SETUP) ∧ (s.sess o).committed = false ∧ (s.sess o).closed = false ∧ (s.sess o).plugAt + msTicks (s.nat Ent.SETUP_TIMEOUT) ≤ s.ticks) ∧
    (∃ s : State, ∃ o : Fin 8, s.sesState o = Ses.PARAMETERS ∧ (s.sess o).committed = false ∧ (s.sess o).closed = false ∧ (s.sess o).stateAt + secTicks (s.nat Ent.MODULE_WAIT_TIMEOUT) ≤ s.ticks) ∧
    (∃ s : State, ∃ o : Fin 8, s.sesState o = Ses.WELDING_CHECK ∧ (s.sess o).stateAt + secTicks 10 ≤ s.ticks) ∧
    (∃ s : State, ∃ o : Fin 8, s.sesLive o = true ∧ (s.sess o).committed = false ∧ (s.sess o).closed = true ∧ frames10 ≤ (s.line o).iso) ∧
    (∃ s : State, ∃ o : Fin 8, s.sesLive o = true ∧ (s.sess o).committed = false ∧ (s.sess o).closed = true ∧ 2 ≤ (s.line o).overV) ∧
    (∃ s : State, ∃ o : Fin 8, s.sesLive o = true ∧ (s.sess o).committed = false ∧ (s.sess o).closed = true ∧ frames10 ≤ (s.line o).overI) ∧
    (∃ s : State, ∃ o : Fin 8, s.sesLive o = true ∧ (s.sess o).committed = false ∧ (s.sess o).closed = true ∧ s.modulesOf o ≠ [] ∧ (∀ m ∈ s.modulesOf o, (s.unitSt m).outputOff = true ∨ s.nat Ent.MODULE_STATE m = Mod.UNRESPONSIVE)) ∧
    (∃ s : State, ∃ o : Fin 8, s.sesLive o = true ∧ (s.sess o).committed = false ∧ (s.sess o).closed = true ∧ frames10 ≤ (s.line o).down ∧ (s.sess o).recorded = false) ∧
    (∃ s : State, ∃ o : Fin 8, s.sesLive o = true ∧ (s.sess o).committed = false ∧ (s.sess o).closed = true ∧ s.sesState o = Ses.TRANSFER ∧ (s.sess o).loopAt + msTicks (s.nat Ent.LOOP_SILENCE_TIMEOUT) ≤ s.ticks) ∧
    (∃ s : State, ∃ o : Fin 8, ∃ c : Client, ∃ v : Nat, ∃ h : Held, s.accepts c Ent.STOP_REQUEST o (.num v) h ∧ s.sesLive o = false) ∧
    (∃ s : State, ∃ o : Fin 8, ∃ c : Client, ∃ v : Nat, ∃ h : Held, s.accepts c Ent.STOP_REQUEST o (.num v) h ∧ s.sesLive o = true ∧ (s.sess o).committed = true) ∧
    (∃ s : State, ∃ o : Fin 8, ∃ c : Client, ∃ v : Nat, ∃ h : Held, s.accepts c Ent.STOP_REQUEST o (.num v) h ∧ s.sesLive o = true ∧ (s.sess o).committed = false) ∧
    (∃ s : State, ∃ o : Fin 8, s.sesState o = Ses.STOPPING ∧ 2 ≤ (s.line o).lowI) ∧
    (∃ s : State, ∃ o : Fin 8, s.sesState o = Ses.STOPPING ∧ (s.sess o).stateAt + msTicks (if (s.sess o).fast then s.nat Ent.FORCED_OPEN_DELAY else s.nat Ent.STOP_TIMEOUT) ≤ s.ticks) ∧
    (∃ s : State, ∃ o : Fin 8, s.sesState o = Ses.WELDING_CHECK ∧ (s.sess o).ownCheck = false ∧ (s.sess o).openAt + msTicks 500 ≤ s.ticks ∧ 60 < s.oVolts o ∧ s.oVolts o / 2 < ((s.moduleSide o : Nat) : Rat) / 10) ∧
    (∃ s : State, ∃ o : Fin 8, s.sesState o = Ses.WELDING_CHECK ∧ (s.sess o).ownCheck = false ∧ (s.sess o).openAt + msTicks 500 ≤ s.ticks ∧ (s.oVolts o ≤ 60 ∨ ((s.moduleSide o : Nat) : Rat) / 10 ≤ s.oVolts o / 2)) :=
  ⟨⟨(outlet7.setSess 7 { Sess.none with state := Ses.SETUP, plugAt := 1000, stateAt := 1999900000 }), 7, by decide +kernel⟩,
   ⟨(outlet7.setSess 7 { Sess.none with state := Ses.PARAMETERS, plugAt := 1999000000, stateAt := 1000 }), 7, by decide +kernel⟩,
   ⟨(outlet7.setSess 7 { Sess.none with state := Ses.WELDING_CHECK, plugAt := 1999000000, stateAt := 1999800000 }), 7, by decide +kernel⟩,
   ⟨{ outlet7 with outlets := { rig.outlets with sess := [(7, { Sess.none with state := Ses.TRANSFER, plugAt := 1999000000, stateAt := 1999900000, closed := true })], lines := [(7, { LineSt.none with tcp := true, tls := true, iso := 200 })] } }, 7, by decide +kernel⟩,
   ⟨{ outlet7 with outlets := { rig.outlets with sess := [(7, { Sess.none with state := Ses.TRANSFER, plugAt := 1999000000, stateAt := 1999900000, closed := true })], lines := [(7, { LineSt.none with tcp := true, tls := true, overV := 2 })] } }, 7, by decide +kernel⟩,
   ⟨{ outlet7 with outlets := { rig.outlets with sess := [(7, { Sess.none with state := Ses.TRANSFER, plugAt := 1999000000, stateAt := 1999900000, closed := true })], lines := [(7, { LineSt.none with tcp := true, tls := true, overI := 200 })] } }, 7, by decide +kernel⟩,
   ⟨(((outlet7.setSess 7 { Sess.none with state := Ses.TRANSFER, plugAt := 1999000000, stateAt := 1999900000, closed := true }).setNat Ent.ASSIGNED_OUTLET 5 7).setUnitSt 5 { UnitSt.none with faults := [(0x17, 2)] }), 7, by decide +kernel, by decide +kernel, by decide +kernel, by decide +kernel, by decide +kernel⟩,
   ⟨{ outlet7 with outlets := { rig.outlets with sess := [(7, { Sess.none with state := Ses.TRANSFER, plugAt := 1999000000, stateAt := 1999900000, closed := true })], lines := [(7, { LineSt.none with tcp := true, tls := true, down := 200 })] } }, 7, by decide +kernel⟩,
   ⟨(outlet7.setSess 7 { Sess.none with state := Ses.TRANSFER, plugAt := 1999000000, stateAt := 1999900000, closed := true }), 7, by decide +kernel⟩,
   ⟨rig, 7, site, 2, _, accepts_of_passes _ _ _ _ _ _ (by decide +kernel), by decide +kernel⟩,
   ⟨{ outlet7 with outlets := { rig.outlets with sess := [(7, { Sess.none with state := Ses.STOPPING, plugAt := 1999000000, stateAt := 1999900000, committed := true, reason := 3 })], lines := [(7, { LineSt.none with tcp := true, tls := true })] } }, 7, site, 2, _, accepts_of_passes _ _ _ _ _ _ (by decide +kernel), by decide +kernel⟩,
   ⟨(outlet7.setSess 7 { Sess.none with state := Ses.TRANSFER, plugAt := 1999000000, stateAt := 1999900000, closed := true }), 7, site, 2, _, accepts_of_passes _ _ _ _ _ _ (by decide +kernel), by decide +kernel⟩,
   ⟨{ outlet7 with outlets := { rig.outlets with sess := [(7, { Sess.none with state := Ses.STOPPING, plugAt := 1999000000, stateAt := 1999900000, closed := true })], lines := [(7, { LineSt.none with tcp := true, tls := true, lowI := 2 })] } }, 7, by decide +kernel⟩,
   ⟨(outlet7.setSess 7 { Sess.none with state := Ses.STOPPING, plugAt := 1999000000, stateAt := 1999999400, closed := true, fast := true }), 7, by decide +kernel⟩,
   ⟨((((outlet7.setSess 7 { Sess.none with state := Ses.WELDING_CHECK, plugAt := 1999000000, stateAt := 1999900000, openAt := 1999990000 }).setNat Ent.ASSIGNED_OUTLET 5 7).setRat Ent.MCH_VALUE 10 400).setUnitSt 5 { UnitSt.none with volts := 4000 }), 7, by decide +kernel⟩,
   ⟨{ (outlet7.setRat Ent.MCH_VALUE 10 50) with outlets := { rig.outlets with sess := [(7, { Sess.none with state := Ses.WELDING_CHECK, plugAt := 1999000000, stateAt := 1999900000, openAt := 1999990000 })], lines := [(7, { LineSt.none with tcp := true, tls := true })] } }, 7, by decide +kernel⟩⟩

/-- States and operands that meet the hypotheses of OutletsAreReleasedAndTheEmergencyStopActs, clause by clause. -/
theorem witness_OutletsAreReleasedAndTheEmergencyStopActs :
    (∃ s : State, ∃ o : Fin 8, s.sesState o = Ses.RELEASE ∧ (s.sess o).ended = true ∧ (s.sess o).recorded = false ∧ s.oVolts o < 60) ∧
    (∃ s : State, ∃ o : Fin 8, s.sesState o = Ses.RELEASE ∧ (s.sess o).recorded = true ∧ frames20 ≤ (s.line o).open_) ∧
    (∃ s : State, ∃ o : Fin 8, s.sesState o = Ses.UNAVAILABLE ∧ s.unavailableCause o = false ∧ frames20 ≤ (s.line o).open_) ∧
    (∃ s : State, ∃ o : Fin 8, (s.line o).open_ < frames20) ∧
    (∃ s : State, ∃ c : Client, ∃ o : Fin 8, ∃ v : Nat, ∃ h : Held, s.accepts c Ent.OUTLET_RESET o (.num v) h ∧ (s.sesState o ≠ Ses.FAULTED ∨ s.band o ≠ 0 ∨ (s.lcs (s.nat Ent.CONTACTOR_CHANNEL o)).weld = true)) ∧
    (∃ s : State, ∃ c : Client, ∃ o : Fin 8, ∃ v : Nat, ∃ h : Held, s.accepts c Ent.OUTLET_RESET o (.num v) h ∧ s.sesState o = Ses.FAULTED ∧ s.band o = 0 ∧ (s.lcs (s.nat Ent.CONTACTOR_CHANNEL o)).weld = false) ∧
    (∃ s : State, ∃ c : Client, ∃ o : Fin 8, ∃ v : Nat, ∃ h : Held, s.accepts c Ent.OUTLET_ENABLE o (.num v) h ∧ v = 0 ∧ s.sesState o = Ses.IDLE) ∧
    (∃ s : State, ∃ c : Client, ∃ o : Fin 8, ∃ v : Nat, ∃ h : Held, s.accepts c Ent.OUTLET_ENABLE o (.num v) h ∧ v ≠ 0 ∧ s.outletResourcesOk o = true) ∧
    (∃ s : State, ∃ c : Client, ∃ o : Fin 8, ∃ v : Nat, ∃ h : Held, s.accepts c Ent.OUTLET_ENABLE o (.num v) h ∧ v ≠ 0 ∧ s.outletResourcesOk o = false) ∧
    (∃ s : State, s.outlets.estopLow = false ∧ 2 ≤ s.outlets.estopRun) ∧
    (∃ s : State, ∃ b : Nat, s.outlets.estopOpenA = some b ∧ b ≤ s.ticks ∧ s.outlets.estopLatched = true ∧ s.pwOk 0 = true) ∧
    (∃ s : State, ∃ b : Nat, s.outlets.estopOpenB = some b ∧ b ≤ s.ticks ∧ s.outlets.estopLatched = true ∧ s.pwOk 1 = true) ∧
    (∃ s : State, s.outlets.estopLow = true ∧ s.outlets.estopRun = 0) ∧
    (∃ s : State, ∃ c : Client, ∃ v : Nat, ∃ h : Held, s.accepts c Ent.ESTOP_RESET 0 (.num v) h ∧ s.outlets.estopLow = true) ∧
    (∃ s : State, ∃ c : Client, ∃ v : Nat, ∃ h : Held, s.accepts c Ent.ESTOP_RESET 0 (.num v) h ∧ s.outlets.estopLow = false ∧ s.outlets.estopLatched = false) ∧
    (∃ s : State, ∃ c : Client, ∃ v : Nat, ∃ h : Held, s.accepts c Ent.ESTOP_RESET 0 (.num v) h ∧ s.outlets.estopLow = false ∧ s.outlets.estopLatched = true) ∧
    (∃ s : State, ∃ b : Nat, s.outlets.estopHighAt = some b ∧ s.flag Ent.ESTOP_AUTO_RESET = true ∧ s.outlets.estopLatched = true ∧ s.outlets.estopLow = false ∧ b + secTicks 1 ≤ s.ticks) :=
  ⟨⟨((outlet7.setSess 7 { Sess.none with state := Ses.RELEASE, plugAt := 1999000000, stateAt := 1999900000, ended := true, committed := true, reason := 1 }).setRat Ent.MCH_VALUE 10 59), 7, by decide +kernel⟩,
   ⟨{ outlet7 with outlets := { rig.outlets with sess := [(7, { Sess.none with state := Ses.RELEASE, plugAt := 1999000000, stateAt := 1999900000, recorded := true })], lines := [(7, { LineSt.none with tcp := true, tls := true, open_ := 400 })] } }, 7, by decide +kernel⟩,
   ⟨{ outlet7 with outlets := { rig.outlets with sess := [(7, { Sess.none with state := Ses.UNAVAILABLE, plugAt := 1999000000, stateAt := 1999900000 })], lines := [(7, { LineSt.none with tcp := true, tls := true, open_ := 400 })] } }, 7, by decide +kernel⟩,
   ⟨{ outlet7 with outlets := { rig.outlets with sess := [(7, { Sess.none with state := Ses.RELEASE, plugAt := 1999000000, stateAt := 1999900000, recorded := true })], lines := [(7, { LineSt.none with tcp := true, tls := true, open_ := 399 })] } }, 7, by decide +kernel⟩,
   ⟨{ outlet7 with outlets := { rig.outlets with sess := [(7, { Sess.none with state := Ses.IDLE, plugAt := 1999000000, stateAt := 1999900000 })], lines := [(7, { LineSt.none with tcp := true, tls := true })] } }, site, 7, 1, _, accepts_of_passes _ _ _ _ _ _ (by decide +kernel), by decide +kernel⟩,
   ⟨((outlet7.setSess 7 { Sess.none with state := Ses.FAULTED, plugAt := 1999000000, stateAt := 1999900000 }).setRat Ent.MCH_VALUE 13 5), site, 7, 1, _, accepts_of_passes _ _ _ _ _ _ (by decide +kernel), by decide +kernel⟩,
   ⟨outlet7, site, 7, 0, _, accepts_of_passes _ _ _ _ _ _ (by decide +kernel), by decide +kernel⟩,
   ⟨{ outlet7 with outlets := { rig.outlets with sess := [(7, { Sess.none with state := Ses.IDLE, plugAt := 1999000000, stateAt := 1999900000 })], lines := [(7, { LineSt.none with tcp := true, tls := true })] } }, site, 7, 1, _, accepts_of_passes _ _ _ _ _ _ (by decide +kernel), by decide +kernel⟩,
   ⟨rig, site, 7, 1, _, accepts_of_passes _ _ _ _ _ _ (by decide +kernel), by decide +kernel⟩,
   ⟨{ rig with outlets := { rig.outlets with estopRun := 2 } }, by decide +kernel⟩,
   ⟨{ rig with outlets := { rig.outlets with estopOpenA := some 2000000000, estopLow := true, estopLatched := true } }, 2000000000, by decide +kernel⟩,
   ⟨{ rig with outlets := { rig.outlets with estopOpenB := some 2000000000, estopLow := true, estopLatched := true } }, 2000000000, by decide +kernel⟩,
   ⟨({ rig with outlets := { rig.outlets with estopLow := true, estopLatched := true } } : State), by decide +kernel⟩,
   ⟨({ rig with outlets := { rig.outlets with estopLow := true, estopLatched := true } } : State), site, 1, _, accepts_of_passes _ _ _ _ _ _ (by decide +kernel), by decide +kernel⟩,
   ⟨rig, site, 1, _, accepts_of_passes _ _ _ _ _ _ (by decide +kernel), by decide +kernel⟩,
   ⟨({ rig with outlets := { rig.outlets with estopLatched := true } } : State), site, 1, _, accepts_of_passes _ _ _ _ _ _ (by decide +kernel), by decide +kernel⟩,
   ⟨(({ rig with outlets := { rig.outlets with estopLatched := true, estopHighAt := some 1999980000 } } : State).setNat Ent.ESTOP_AUTO_RESET 0 1), 1999980000, by decide +kernel⟩⟩

/-- States and operands that meet the hypotheses of LoopsAndCablesReport, clause by clause. -/
theorem witness_LoopsAndCablesReport :
    (∃ s : State, ∃ l : Fin 64, 1000 ≤ (s.loop l).satFrames ∧ (s.loop l).told = false) ∧
    (∃ s : State, ∃ c : Client, ∃ l : Nat, ∃ v : Nat, ∃ h : Held, s.accepts c Ent.LOOP_RESET l (.num v) h ∧ (s.loop l).fault = false) ∧
    (∃ s : State, ∃ c : Client, ∃ l : Nat, ∃ v : Nat, ∃ h : Held, s.accepts c Ent.LOOP_RESET l (.num v) h ∧ (s.loop l).fault = true) ∧
    (∃ s : State, ∃ o : Fin 8, (s.cable o).overTemp = false ∧ s.cableRuns o = true ∧ s.rat Ent.CABLE_TRIP_TEMP o < F32.toRat (s.nat Ent.T_COND o) ∧ msTicks 20 ≤ (s.cable o).condRun ∧ s.sesLive o = true ∧ (s.sess o).committed = false) ∧
    (∃ s : State, ∃ o : Fin 8, (s.cable o).overTemp = false ∧ s.cableRuns o = true ∧ ∃ p : Nat, (s.cableTemps o).2.2.2 = some p ∧ s.rat Ent.PIN_TRIP_TEMP o < F32.toRat p ∧ msTicks 10 ≤ (s.cable o).pinRun) ∧
    (∃ s : State, ∃ o : Fin 8, ∃ f : Rat, s.measuredFlow o = some f ∧ (s.cable o).flowLow = false ∧ s.lasts5 (s.cable o).pumpAt = true ∧ 1 / 5 ≤ s.pumpDuty o ∧ f < s.rat Ent.FLOW_MIN o) ∧
    (∃ s : State, ∃ o : Fin 8, ∃ f : Rat, s.measuredFlow o = some f ∧ (s.cable o).flowLow = true ∧ s.lasts5 (s.cable o).flowAt = true ∧ s.rat Ent.FLOW_MIN o ≤ f) :=
  ⟨⟨(rig.setLoop 63 { LoopSt.none with satFrames := 1000 }), 63, by decide +kernel⟩,
   ⟨rig, site, 63, 1, _, accepts_of_passes _ _ _ _ _ _ (by decide +kernel), by decide +kernel⟩,
   ⟨(rig.setLoop 63 { LoopSt.none with fault := true }), site, 63, 1, _, accepts_of_passes _ _ _ _ _ _ (by decide +kernel), by decide +kernel⟩,
   ⟨({ (outlet7.setRat Ent.T_COND 7 101) with outlets := { rig.outlets with sess := [(7, { Sess.none with state := Ses.TRANSFER, plugAt := 1999000000, stateAt := 1999900000 })], lines := [(7, { LineSt.none with tcp := true, tls := true })] } } : State).setCable 7 { CableSt.none with condRun := 400 }, 7, by decide +kernel⟩,
   ⟨({ (((outlet7.setNat Ent.PIN_TEMP_SOURCE 7 0x01000014).setNat Ent.MCH_STATUS 20 1).setRat Ent.MCH_VALUE 20 95) with outlets := { rig.outlets with sess := [(7, { Sess.none with state := Ses.TRANSFER, plugAt := 1999000000, stateAt := 1999900000 })], lines := [(7, { LineSt.none with tcp := true, tls := true })] } } : State).setCable 7 { CableSt.none with pinRun := 200 }, 7, by decide +kernel, by decide +kernel, ((F32.ofRat 95)), by decide +kernel⟩,
   ⟨(({ ((((outlet7.setNat Ent.FLOW_SOURCE 7 0x01000014).setNat Ent.MCH_STATUS 20 1).setNat Ent.PUMP_CHANNEL 7 6).setRat Ent.MCH_VALUE 20 2) with outlets := { rig.outlets with sess := [(7, { Sess.none with state := Ses.TRANSFER, plugAt := 1999000000, stateAt := 1999900000 })], lines := [(7, { LineSt.none with tcp := true, tls := true })] } } : State).setCable 7 { CableSt.none with pumpAt := some 1999900000 }).setLc 6 { LcSt.none with cmd := true }, 7, 2, by decide +kernel⟩,
   ⟨({ ((((outlet7.setNat Ent.FLOW_SOURCE 7 0x01000014).setNat Ent.MCH_STATUS 20 1).setNat Ent.PUMP_CHANNEL 7 6).setRat Ent.MCH_VALUE 20 5) with outlets := { rig.outlets with sess := [(7, { Sess.none with state := Ses.TRANSFER, plugAt := 1999000000, stateAt := 1999900000 })], lines := [(7, { LineSt.none with tcp := true, tls := true })] } } : State).setCable 7 { CableSt.none with flowLow := true, flowAt := some 1999900000 }, 7, 5, by decide +kernel⟩⟩

/-- States and operands that meet the hypotheses of GroupsRunAndFire, clause by clause. -/
theorem witness_GroupsRunAndFire :
    (∃ s : State, ∃ g : Fin 8, (s.conv g).st = Grp.OUT_OF_RANGE ∧ s.inRange g = true ∧ 20 ≤ (s.conv g).inFrames) ∧
    (∃ s : State, ∃ g : Fin 8, ∃ at_ : Nat, ∃ p : Nat, ((s.conv g).st = Grp.RUN ∨ (s.conv g).st = Grp.STOPPING ∨ (s.conv g).st = Grp.OUT_OF_RANGE) ∧ s.nextPhase g = some p ∧ s.atValley g p (s.steps + at_) = true ∧ (s.conv g).shed ≠ some p ∧ (s.leg p).lowAt + cdiv ((s.conv g).minOff * 2) 5 ≤ s.steps + at_) ∧
    (∃ s : State, ∃ g : Fin 8, ∃ p : Fin 32, 1000 ≤ (s.leg p).trimRun ∧ (s.leg p).trimTold = false) ∧
    (∃ s : State, ∃ g : Fin 8, ∃ b : Nat, (s.conv g).stepHold = some b ∧ b ≤ s.ticks) ∧
    (∃ s : State, ∃ g : Fin 8, ∃ b : Nat, (s.conv g).stopAt = some b ∧ (s.conv g).st = Grp.STOPPING ∧ (b + 40 ≤ s.ticks ∨ ratAbs (s.groupAmps g) < ((s.nAv g : Nat) : Rat) * s.rat Ent.PHASE_I_RATED g / 50)) ∧
    (∃ s : State, ∃ g : Fin 8, ∃ c : Client, ∃ v : Nat, ∃ h : Held, s.accepts c Ent.GROUP_RESET g (.num v) h ∧ ∃ p ∈ s.phasesOf g, s.rat Ent.PHI_TRIP p < ratAbs (s.legAmps p)) ∧
    (∃ s : State, ∃ g : Fin 8, ∃ c : Client, ∃ v : Nat, ∃ h : Held, s.accepts c Ent.GROUP_RESET g (.num v) h ∧ (∀ p ∈ s.phasesOf g, ¬ s.rat Ent.PHI_TRIP p < ratAbs (s.legAmps p)) ∧ (s.conv g).st ≠ Grp.TRIPPED) ∧
    (∃ s : State, ∃ g : Fin 8, ∃ c : Client, ∃ v : Nat, ∃ h : Held, s.accepts c Ent.GROUP_RESET g (.num v) h ∧ (∀ p ∈ s.phasesOf g, ¬ s.rat Ent.PHI_TRIP p < ratAbs (s.legAmps p)) ∧ (s.conv g).st = Grp.TRIPPED) :=
  ⟨⟨(phase7.setConv 7 { GroupSt.none with st := Grp.OUT_OF_RANGE, inFrames := 20 }), 7, by decide +kernel⟩,
   ⟨((((((phase7.setNat Ent.PHASE_STATE 30 Pha.ON).setNat Ent.PHASE_STATE 31 Pha.ON) : State).setLeg 30 { PhaseSt.none with grp := 7, pos := 0, ready := true }).setLeg 31 { PhaseSt.none with grp := 7, pos := 1, ready := true }).setConv 7 { GroupSt.none with st := Grp.RUN, ptr := 30 }), 7, 100, 31, by decide +kernel⟩,
   ⟨((((((((rig.setNat Ent.PHASE_GROUP 30 7).setNat Ent.PHASE_GROUP 31 7).setNat Ent.FIRE_POSITION 31 1).setNat Ent.PHASE_I_MCH 30 20).setNat Ent.PHASE_I_MCH 31 21).setNat Ent.BUS_V_MCH 7 22).setNat Ent.STRING_SIDE_V_MCH 7 23).setLeg 31 { PhaseSt.none with trimRun := 1000 }), 7, 31, by decide +kernel⟩,
   ⟨((((((((rig.setNat Ent.PHASE_GROUP 30 7).setNat Ent.PHASE_GROUP 31 7).setNat Ent.FIRE_POSITION 31 1).setNat Ent.PHASE_I_MCH 30 20).setNat Ent.PHASE_I_MCH 31 21).setNat Ent.BUS_V_MCH 7 22).setNat Ent.STRING_SIDE_V_MCH 7 23).setConv 7 { GroupSt.none with st := Grp.RUN, stepHold := some 2000000000 }), 7, 2000000000, by decide +kernel⟩,
   ⟨((((((((rig.setNat Ent.PHASE_GROUP 30 7).setNat Ent.PHASE_GROUP 31 7).setNat Ent.FIRE_POSITION 31 1).setNat Ent.PHASE_I_MCH 30 20).setNat Ent.PHASE_I_MCH 31 21).setNat Ent.BUS_V_MCH 7 22).setNat Ent.STRING_SIDE_V_MCH 7 23).setConv 7 { GroupSt.none with st := Grp.STOPPING, stopAt := some 1999999960 }), 7, 1999999960, by decide +kernel⟩,
   ⟨((((((((((rig.setNat Ent.PHASE_GROUP 30 7).setNat Ent.PHASE_GROUP 31 7).setNat Ent.FIRE_POSITION 31 1).setNat Ent.PHASE_I_MCH 30 20).setNat Ent.PHASE_I_MCH 31 21).setNat Ent.BUS_V_MCH 7 22).setNat Ent.STRING_SIDE_V_MCH 7 23).setConv 7 { GroupSt.none with st := Grp.TRIPPED }).setRat Ent.PHI_TRIP 30 300).setRat Ent.MCH_VALUE 20 301), 7, site, 1, _, accepts_of_passes _ _ _ _ _ _ (by decide +kernel), by decide +kernel⟩,
   ⟨((((((((((rig.setNat Ent.PHASE_GROUP 30 7).setNat Ent.PHASE_GROUP 31 7).setNat Ent.FIRE_POSITION 31 1).setNat Ent.PHASE_I_MCH 30 20).setNat Ent.PHASE_I_MCH 31 21).setNat Ent.BUS_V_MCH 7 22).setNat Ent.STRING_SIDE_V_MCH 7 23).setConv 7 { GroupSt.none with st := Grp.RUN }).setRat Ent.PHI_TRIP 30 300).setRat Ent.MCH_VALUE 20 300), 7, site, 1, _, accepts_of_passes _ _ _ _ _ _ (by decide +kernel), by decide +kernel, by decide +kernel⟩,
   ⟨((((((((((rig.setNat Ent.PHASE_GROUP 30 7).setNat Ent.PHASE_GROUP 31 7).setNat Ent.FIRE_POSITION 31 1).setNat Ent.PHASE_I_MCH 30 20).setNat Ent.PHASE_I_MCH 31 21).setNat Ent.BUS_V_MCH 7 22).setNat Ent.STRING_SIDE_V_MCH 7 23).setConv 7 { GroupSt.none with st := Grp.TRIPPED }).setRat Ent.PHI_TRIP 30 300).setRat Ent.MCH_VALUE 20 300), 7, site, 1, _, accepts_of_passes _ _ _ _ _ _ (by decide +kernel), by decide +kernel, by decide +kernel⟩⟩

/-- States and operands that meet the hypotheses of PhasesTripFailAndAreTested, clause by clause. -/
theorem witness_PhasesTripFailAndAreTested :
    (∃ s : State, ∃ p : Fin 32, s.firing p = true ∧ s.phaseGroup p < 8 ∧ s.nat Ent.FAST_TRIP_COUNT p + 1 < 2 ^ Ent.FAST_TRIP_COUNT.type.bits ∧ (s.conv (s.phaseGroup p)).trip = none ∧ let trips := s.ticks :: (s.leg p).trips.filter (fun b => decide (s.ticks < b + secTicks 10)); trips.length < s.nat Ent.FAST_RETRY_LIMIT (s.phaseGroup p) ∧ s.mayRaise) ∧
    (∃ s : State, ∃ p : Fin 32, s.phase p = Pha.TRIPPED ∧ (s.leg p).tripFrame + s.nat Ent.FAST_TRIP_HOLD (s.nat Ent.PHASE_GROUP p) ≤ s.frames ∧ let g := s.nat Ent.PHASE_GROUP p; (s.conv g).st = Grp.RUN) ∧
    (∃ s : State, ∃ p : Fin 32, s.phase p = Pha.TRIPPED ∧ (s.leg p).tripFrame + s.nat Ent.FAST_TRIP_HOLD (s.nat Ent.PHASE_GROUP p) ≤ s.frames ∧ let g := s.nat Ent.PHASE_GROUP p; (s.conv g).st = Grp.TRIPPED) ∧
    (∃ s : State, ∃ p : Fin 32, s.phase p = Pha.TRIPPED ∧ (s.leg p).tripFrame + s.nat Ent.FAST_TRIP_HOLD (s.nat Ent.PHASE_GROUP p) ≤ s.frames ∧ let g := s.nat Ent.PHASE_GROUP p; (s.conv g).st ≠ Grp.RUN ∧ (s.conv g).st ≠ Grp.TRIPPED) ∧
    (∃ s : State, ∃ p : Fin 32, ∃ cause : Nat, sickCause (s.leg p).sick = some cause ∧ s.phase p = Pha.ON ∧ s.mayRaise) ∧
    (∃ s : State, ∃ p : Fin 32, s.firing p = true ∧ msTicks (s.nat Ent.OVERLOAD_TIME (s.phaseGroup p)) ≤ (s.leg p).overRun) ∧
    (∃ s : State, ∃ p : Fin 32, ∃ c : Client, ∃ v : Nat, ∃ h : Held, s.accepts c Ent.PHASE_TEST p (.num v) h ∧ (∀ r ∈ s.running, r.target ≠ Ent.PHASE_TEST.target p) ∧ s.phaseInService p = false) ∧
    (∃ s : State, ∃ p : Fin 32, ∃ c : Client, ∃ v : Nat, ∃ h : Held, s.accepts c Ent.PHASE_TEST p (.num v) h ∧ (∀ r ∈ s.running, r.target ≠ Ent.PHASE_TEST.target p) ∧ s.phaseInService p = true ∧ c.queue = false) ∧
    (∃ s : State, ∃ p : Fin 32, ∃ comparator : Bool, s.phase p = Pha.TESTING ∧ let want := (s.vHigh (s.phaseGroup p) - s.vLow (s.phaseGroup p)) * 2 / 1000000 / s.rat Ent.L_PHASE p; let got := s.chanMax (s.nat Ent.PHASE_I_MCH p); let good := comparator = true ∧ ratAbs (got - want) ≤ ratAbs want * 3 / 10; good) ∧
    (∃ s : State, ∃ p : Fin 32, ∃ comparator : Bool, s.phase p = Pha.TESTING ∧ let want := (s.vHigh (s.phaseGroup p) - s.vLow (s.phaseGroup p)) * 2 / 1000000 / s.rat Ent.L_PHASE p; let got := s.chanMax (s.nat Ent.PHASE_I_MCH p); let good := comparator = true ∧ ratAbs (got - want) ≤ ratAbs want * 3 / 10; ¬ good) ∧
    (∃ s : State, ∃ p : Fin 32, ∃ c : Client, ∃ v : Nat, ∃ h : Held, s.accepts c Ent.PHASE_RESET p (.num v) h ∧ s.phase p ≠ Pha.FAILED) ∧
    (∃ s : State, ∃ p : Fin 32, ∃ c : Client, ∃ v : Nat, ∃ h : Held, s.accepts c Ent.PHASE_RESET p (.num v) h ∧ s.phase p = Pha.FAILED ∧ ((s.leg p).passed = true ∨ (s.conv (s.phaseGroup p)).st ≠ Grp.RUN)) ∧
    (∃ s : State, ∃ p : Fin 32, ∃ c : Client, ∃ v : Nat, ∃ h : Held, s.accepts c Ent.PHASE_RESET p (.num v) h ∧ s.phase p = Pha.FAILED ∧ (s.leg p).passed = false ∧ (s.conv (s.phaseGroup p)).st = Grp.RUN) :=
  ⟨⟨(((((phase7.setNat Ent.PHASE_STATE 30 Pha.ON).setNat Ent.PHASE_STATE 31 Pha.ON).setLeg 30 { PhaseSt.none with grp := 7, pos := 0 }).setLeg 31 { PhaseSt.none with grp := 7, pos := 1 }).setConv 7 { GroupSt.none with st := Grp.RUN }), 31, by decide +kernel, by decide +kernel, by decide +kernel, by decide +kernel, by decide +kernel, by simp only [State.mayRaise]; decide +kernel⟩,
   ⟨((((((((((rig.setNat Ent.PHASE_GROUP 30 7).setNat Ent.PHASE_GROUP 31 7).setNat Ent.FIRE_POSITION 31 1).setNat Ent.PHASE_I_MCH 30 20).setNat Ent.PHASE_I_MCH 31 21).setNat Ent.BUS_V_MCH 7 22).setNat Ent.STRING_SIDE_V_MCH 7 23).setConv 7 { GroupSt.none with st := Grp.RUN }).setNat Ent.PHASE_STATE 31 Pha.TRIPPED).setLeg 31 { PhaseSt.none with tripFrame := 99999900 }), 31, by decide +kernel⟩,
   ⟨((((phase7.setNat Ent.PHASE_STATE 31 Pha.TRIPPED) : State).setLeg 31 { PhaseSt.none with tripFrame := 99999900 }).setConv 7 { GroupSt.none with st := Grp.TRIPPED }), 31, by decide +kernel⟩,
   ⟨((((phase7.setNat Ent.PHASE_STATE 31 Pha.TRIPPED) : State).setLeg 31 { PhaseSt.none with tripFrame := 99999900 }).setConv 7 { GroupSt.none with st := Grp.OFF }), 31, by decide +kernel⟩,
   ⟨((((((((((rig.setNat Ent.PHASE_GROUP 30 7).setNat Ent.PHASE_GROUP 31 7).setNat Ent.FIRE_POSITION 31 1).setNat Ent.PHASE_I_MCH 30 20).setNat Ent.PHASE_I_MCH 31 21).setNat Ent.BUS_V_MCH 7 22).setNat Ent.STRING_SIDE_V_MCH 7 23).setConv 7 { GroupSt.none with st := Grp.RUN }).setNat Ent.PHASE_STATE 31 Pha.ON).setLeg 31 { PhaseSt.none with grp := 7, sick := [0, 0, 20, 0, 0, 0] }), 31, 1, by decide +kernel, by decide +kernel, by simp only [State.mayRaise]; decide +kernel⟩,
   ⟨((((((((((rig.setNat Ent.PHASE_GROUP 30 7).setNat Ent.PHASE_GROUP 31 7).setNat Ent.FIRE_POSITION 31 1).setNat Ent.PHASE_I_MCH 30 20).setNat Ent.PHASE_I_MCH 31 21).setNat Ent.BUS_V_MCH 7 22).setNat Ent.STRING_SIDE_V_MCH 7 23).setConv 7 { GroupSt.none with st := Grp.RUN }).setNat Ent.PHASE_STATE 31 Pha.ON).setLeg 31 { PhaseSt.none with grp := 7, overRun := 2000 }), 31, by decide +kernel⟩,
   ⟨(((phase7.setNat Ent.PHASE_STATE 31 Pha.SHED) : State).setConv 7 { GroupSt.none with st := Grp.RUN }), 31, site, 1, _, accepts_of_passes _ _ _ _ _ _ (by decide +kernel), by decide +kernel, by decide +kernel⟩,
   ⟨(((phase7.setNat Ent.PHASE_STATE 31 Pha.ON) : State).setConv 7 { GroupSt.none with st := Grp.RUN }), 31, site, 1, _, accepts_of_passes _ _ _ _ _ _ (by decide +kernel), by decide +kernel, by decide +kernel⟩,
   ⟨((((((phase7.setNat Ent.PHASE_STATE 31 Pha.TESTING).setRat Ent.MCH_MAX 21 8).setRat Ent.L_PHASE 31 ((1/20000 : Rat))) : State).setLeg 31 { PhaseSt.none with prior := Pha.SHED }).setConv 7 { GroupSt.none with st := Grp.RUN }), 31, true, by decide +kernel⟩,
   ⟨((((((phase7.setNat Ent.PHASE_STATE 31 Pha.TESTING).setRat Ent.MCH_MAX 21 8).setRat Ent.L_PHASE 31 ((1/20000 : Rat))) : State).setLeg 31 { PhaseSt.none with prior := Pha.SHED }).setConv 7 { GroupSt.none with st := Grp.RUN }), 31, false, by decide +kernel⟩,
   ⟨((((((((rig.setNat Ent.PHASE_GROUP 30 7).setNat Ent.PHASE_GROUP 31 7).setNat Ent.FIRE_POSITION 31 1).setNat Ent.PHASE_I_MCH 30 20).setNat Ent.PHASE_I_MCH 31 21).setNat Ent.BUS_V_MCH 7 22).setNat Ent.STRING_SIDE_V_MCH 7 23).setConv 7 { GroupSt.none with st := Grp.RUN }), 31, site, 1, _, accepts_of_passes _ _ _ _ _ _ (by decide +kernel), by decide +kernel⟩,
   ⟨((((((((((rig.setNat Ent.PHASE_GROUP 30 7).setNat Ent.PHASE_GROUP 31 7).setNat Ent.FIRE_POSITION 31 1).setNat Ent.PHASE_I_MCH 30 20).setNat Ent.PHASE_I_MCH 31 21).setNat Ent.BUS_V_MCH 7 22).setNat Ent.STRING_SIDE_V_MCH 7 23).setConv 7 { GroupSt.none with st := Grp.RUN }).setNat Ent.PHASE_STATE 31 Pha.FAILED).setLeg 31 { PhaseSt.none with passed := true }), 31, site, 1, _, accepts_of_passes _ _ _ _ _ _ (by decide +kernel), by decide +kernel⟩,
   ⟨(((phase7.setNat Ent.PHASE_STATE 31 Pha.FAILED) : State).setConv 7 { GroupSt.none with st := Grp.RUN }), 31, site, 1, _, accepts_of_passes _ _ _ _ _ _ (by decide +kernel), by decide +kernel⟩⟩

/-- States and operands that meet the hypotheses of SweepsAreCalledReportedAndPublished, clause by clause. -/
theorem witness_SweepsAreCalledReportedAndPublished :
    (∃ s : State, s.cycle = 0 ∧ s.tx.step = 5 ∧ s.sfn % 50 = 0 ∧ s.serving = true ∧ (s.die.lkA = true ∨ s.die.lkB = true)) ∧
    (∃ s : State, s.cycle = 0 ∧ s.tx.step = 5 ∧ s.sfn % 50 = 0 ∧ s.serving = true ∧ s.die.lkA = true) ∧
    (∃ s : State, s.cycle = 0 ∧ s.tx.step = 5 ∧ s.sfn % 50 = 0 ∧ s.serving = true ∧ s.die.lkB = true) ∧
    (∃ s : State, ∃ k : Fin 256, ∃ a : Air, ∃ w : Nat, ∃ ch : Nat, s.radio.cur = some (w, ch) ∧ s.enrolled k = true ∧ s.reportSlot w k = true ∧ (s.air a k).2 = none) ∧
    (∃ s : State, ∃ w : Nat, ∃ ch : Nat, s.radio.cur = some (w, ch) ∧ s.sweepCycle w = 881 ∧ let missed := ((List.range 256).filter s.enrolled).filter (fun k => ((s.mon k).got.map Prod.fst) != some w); let body := leBytes 36 (pack [(0, 16, w), (16, 256, ofBits missed), (272, 8, s.radio.joinMask)]); s.die.lkA = true) ∧
    (∃ s : State, ∃ w : Nat, ∃ ch : Nat, s.radio.cur = some (w, ch) ∧ s.sweepCycle w = 881 ∧ let missed := ((List.range 256).filter s.enrolled).filter (fun k => ((s.mon k).got.map Prod.fst) != some w); let body := leBytes 36 (pack [(0, 16, w), (16, 256, ofBits missed), (272, 8, s.radio.joinMask)]); s.die.lkB = true) ∧
    (∃ s : State, ∃ n : Fin 8, ∃ a : Air, ∃ b : List Byte, ∃ w : Nat, ∃ ch : Nat, s.radio.cur = some (w, ch) ∧ bit s.radio.joinMask n = true ∧ s.inSlot w (890 + 3 * (26 + n)) = true ∧ (s.air a 0xFF).2 = some b ∧ ((joinOf b).string ≠ n.val ∨ (joinOf b).version ≠ 3)) ∧
    (∃ s : State, ∃ n : Fin 8, ∃ a : Air, ∃ b : List Byte, ∃ w : Nat, ∃ ch : Nat, s.radio.cur = some (w, ch) ∧ bit s.radio.joinMask n = true ∧ s.inSlot w (890 + 3 * (26 + n)) = true ∧ (s.air a 0xFF).2 = some b ∧ ∃ k : Nat, k = s.nat Ent.MONITOR_FIRST n + (s.rope n).joined ∧ k < 256 ∧ (joinOf b).string = n.val ∧ (joinOf b).version = 3 ∧ s.nat Ent.ROPE_STATE n = Rope.ENUMERATING ∧ (s.rope n).joined < s.nat Ent.MONITOR_COUNT n ∧ (s.nat Ent.MONITOR_UID k = 0 ∨ s.nat Ent.MONITOR_UID k = (joinOf b).uid ∨ s.flag Ent.MONITOR_LOCK n = false)) ∧
    (∃ s : State, ∃ w : Nat, ∃ ch : Nat, s.cycle = 0 ∧ s.radio.due = some (w, ch) ∧ s.sfn = 50 * w + 52 ∧ (∀ n, n < 8 → s.nat Ent.MONITOR_COUNT n = 0)) ∧
    (∃ s : State, ∃ k : Fin 256, s.nat Ent.MONITOR_STATE k = Mon.LOST ∧ (s.mon k).burstAt + secTicks 10 ≤ s.ticks) :=
  ⟨⟨{ rig with tx := { rig.tx with step := 5 } }, by decide +kernel⟩,
   ⟨{ rig with tx := { rig.tx with step := 5 } }, by decide +kernel⟩,
   ⟨{ rig with tx := { rig.tx with step := 5 } }, by decide +kernel⟩,
   ⟨{ (rig.setNat Ent.MONITOR_STATE 255 2) with radio := { rig.radio with cur := some (16000000000, 7) }, sfn := 800000000043, cycle := 17 }, 255, (⟨none, none⟩), 16000000000, 7, by decide +kernel⟩,
   ⟨{ (rig.setNat Ent.MONITOR_STATE 255 2) with radio := { rig.radio with cur := some (16000000000, 7) }, sfn := 800000000044, cycle := 1 }, 16000000000, 7, by decide +kernel⟩,
   ⟨{ (rig.setNat Ent.MONITOR_STATE 255 2) with radio := { rig.radio with cur := some (16000000000, 7) }, sfn := 800000000044, cycle := 1 }, 16000000000, 7, by decide +kernel⟩,
   ⟨{ rig with radio := { rig.radio with cur := some (16000000000, 7), joinMask := 128 }, sfn := 800000000049, cycle := 9 }, 7, (⟨(some ⟨-60, (leBytes 6 0x123456 ++ [6#8, 13#8, 3#8, 1#8] ++ leBytes 2 0x0204), crc24 (rig.nat Ent.NETWORK_ID) 255 (leBytes 6 0x123456 ++ [6#8, 13#8, 3#8, 1#8] ++ leBytes 2 0x0204)⟩), none⟩), ((leBytes 6 0x123456 ++ [6#8, 13#8, 3#8, 1#8] ++ leBytes 2 0x0204)), 16000000000, 7, by decide +kernel⟩,
   ⟨({ (((rig.setNat Ent.ROPE_STATE 7 Rope.ENUMERATING).setNat Ent.MONITOR_COUNT 7 2).setNat Ent.MONITOR_FIRST 7 224) with radio := { rig.radio with cur := some (16000000000, 7), joinMask := 128 }, sfn := 800000000049, cycle := 9 } : State).setRope 7 { RopeSt.none with joined := 1 }, 7, (⟨none, (some ⟨-60, (leBytes 6 0x123456 ++ [7#8, 13#8, 3#8, 1#8] ++ leBytes 2 0x0204), crc24 (rig.nat Ent.NETWORK_ID) 255 (leBytes 6 0x123456 ++ [7#8, 13#8, 3#8, 1#8] ++ leBytes 2 0x0204)⟩)⟩), ((leBytes 6 0x123456 ++ [7#8, 13#8, 3#8, 1#8] ++ leBytes 2 0x0204)), 16000000000, 7, by decide +kernel, by decide +kernel, by decide +kernel, by decide +kernel, 225, by decide +kernel⟩,
   ⟨{ rig with radio := { rig.radio with due := some (15999999999, 7) }, sfn := 800000000002 }, 15999999999, 7, by decide +kernel, by decide +kernel, by decide +kernel, by decide +kernel⟩,
   ⟨(((rig.setNat Ent.MONITOR_COUNT 7 2).setNat Ent.MONITOR_STATE 225 Mon.LOST).setMon 225 { MonSt.none with burstAt := 1999800000 }), 225, by decide +kernel⟩⟩

/-- States and operands that meet the hypotheses of RopesCloseOpenAndEnumerate, clause by clause. -/
theorem witness_RopesCloseOpenAndEnumerate :
    (∃ s : State, ∃ n : Fin 8, msTicks 20 ≤ (s.rope n).run ∧ (s.nat Ent.ROPE_STATE n = Rope.OPEN ∨ (s.nat Ent.ROPE_STATE n = Rope.OFF ∧ (s.rope n).phase = 0))) ∧
    (∃ s : State, ∃ n : Fin 8, msTicks 20 ≤ (s.rope n).run ∧ s.nat Ent.ROPE_STATE n = Rope.ENUMERATING ∧ (s.rope n).joined = s.nat Ent.MONITOR_COUNT n ∧ (s.rope n).cells ≤ 416 ∧ (List.range 8).foldl (fun a m => a + (if m == n.val then (s.rope n).cells else (s.cellsOf m).length)) 0 ≤ 3328) ∧
    (∃ s : State, ∃ n : Fin 8, s.nat Ent.ROPE_STATE n = Rope.CLOSED ∧ s.ropeSeen n = false) ∧
    (∃ s : State, ∃ n : Fin 8, ∃ b : Nat, (s.str n).ropeOff = some b ∧ b ≤ s.ticks) ∧
    (∃ s : State, ∃ n : Fin 8, s.devState = Dev.SLEEP) ∧
    (∃ s : State, ∃ n : Fin 8, ∃ c : Client, ∃ v : Nat, ∃ h : Held, s.accepts c Ent.ROPE_REENUMERATE n (.num v) h ∧ ∃ x ∈ s.coilsInUse n, s.lcOn x = true) ∧
    (∃ s : State, ∃ n : Fin 8, ∃ c : Client, ∃ v : Nat, ∃ h : Held, s.accepts c Ent.ROPE_REENUMERATE n (.num v) h ∧ (∀ x ∈ s.coilsInUse n, s.lcOn x = false)) ∧
    (∃ s : State, ∃ n : Fin 8, (s.rope n).phase = 1 ∧ (s.rope n).phaseAt + msTicks 10 ≤ s.ticks ∧ (∀ c ∈ s.radio.cmds, c.op = Com.ENUM_RESET → c.args = leBytes 1 n → 3 ≤ c.sends)) ∧
    (∃ s : State, ∃ n : Fin 8, (s.rope n).phase = 2 ∧ (s.rope n).phaseAt + msTicks 1200 ≤ s.ticks) ∧
    (∃ s : State, ∃ n : Fin 8, s.nat Ent.ROPE_STATE n = Rope.ENUMERATING ∧ (s.rope n).joinAt + secTicks 2 ≤ s.ticks) ∧
    (∃ s : State, ∃ n : Fin 8, ∃ c : Client, ∃ v : Nat, ∃ h : Held, s.accepts c Ent.ACCEPT_REPLACEMENT n (.num v) h ∧ (s.rope n).held = none) ∧
    (∃ s : State, ∃ n : Fin 8, ∃ c : Client, ∃ v : Nat, ∃ h : Held, s.accepts c Ent.ACCEPT_REPLACEMENT n (.num v) h ∧ ∃ k : Nat, ∃ j : Join, (s.rope n).held = some (k, j) ∧ k < 256) :=
  ⟨⟨(((rig.setNat Ent.MONITOR_COUNT 7 2).setNat Ent.ROPE_STATE 7 Rope.OPEN) : State).setRope 7 { RopeSt.none with run := 400 }, 7, by decide +kernel⟩,
   ⟨(((rig.setNat Ent.MONITOR_COUNT 7 2).setNat Ent.ROPE_STATE 7 Rope.ENUMERATING) : State).setRope 7 { RopeSt.none with run := 400, joined := 2, cells := 26 }, 7, by decide +kernel⟩,
   ⟨((rig.setNat Ent.MONITOR_COUNT 7 2).setNat Ent.ROPE_STATE 7 Rope.CLOSED), 7, by decide +kernel⟩,
   ⟨((string7.setNat Ent.STRING_STATE 7 Str.CONNECTED).setStr 7 { StrSt.none with stateAt := 1999000000, ropeOff := some 2000000000 }), 7, 2000000000, by decide +kernel⟩,
   ⟨(({ rig with die := { rig.die with cb := .off, mirrorSync := false } } : State).setNat Ent.DEVICE_STATE 0 Dev.SLEEP), 7, by decide +kernel⟩,
   ⟨(((string7.setNat Ent.STRING_STATE 7 Str.OPEN).setStr 7 { StrSt.none with stateAt := 1999000000 }).setLc 30 { LcSt.none with on := true }), 7, site, 1, _, accepts_of_passes _ _ _ _ _ _ (by decide +kernel), by decide +kernel⟩,
   ⟨((string7.setNat Ent.STRING_STATE 7 Str.OPEN).setStr 7 { StrSt.none with stateAt := 1999000000 }), 7, site, 1, _, accepts_of_passes _ _ _ _ _ _ (by decide +kernel), by decide +kernel⟩,
   ⟨((rig.setNat Ent.MONITOR_COUNT 7 2).setRope 7 { RopeSt.none with phase := 1, phaseAt := 1999999800 }), 7, by decide +kernel, by decide +kernel, by decide +kernel⟩,
   ⟨((rig.setNat Ent.MONITOR_COUNT 7 2).setRope 7 { RopeSt.none with phase := 2, phaseAt := 1999976000 }), 7, by decide +kernel⟩,
   ⟨(((rig.setNat Ent.MONITOR_COUNT 7 2).setNat Ent.ROPE_STATE 7 Rope.ENUMERATING).setRope 7 { RopeSt.none with joinAt := 1999960000, phase := 3 }), 7, by decide +kernel⟩,
   ⟨(rig.setNat Ent.MONITOR_COUNT 7 2), 7, site, 1, _, accepts_of_passes _ _ _ _ _ _ (by decide +kernel), by decide +kernel⟩,
   ⟨((rig.setNat Ent.MONITOR_COUNT 7 2).setRope 7 { RopeSt.none with held := some (225, ⟨0x123456, 7, 13, 3, 1, 0x0204⟩) }), 7, site, 1, _, accepts_of_passes _ _ _ _ _ _ (by decide +kernel), 225, (⟨0x123456, 7, 13, 3, 1, 0x0204⟩), by decide +kernel⟩⟩

/-- States and operands that meet the hypotheses of MonitorsAreResetTestedAndJudged, clause by clause. -/
theorem witness_MonitorsAreResetTestedAndJudged :
    (∃ s : State, ∃ k : Fin 256, ∃ c : Client, ∃ v : Nat, ∃ h : Held, s.accepts c Ent.ALARM_RESET k (.num v) h ∧ (s.mon k).alarm = false) ∧
    (∃ s : State, ∃ k : Fin 256, ∃ c : Client, ∃ v : Nat, ∃ h : Held, s.accepts c Ent.ALARM_RESET k (.num v) h ∧ ∃ n : _, (s.mon k).alarm = true ∧ s.stringOf k = some n ∧ s.beyondLimits n k = true) ∧
    (∃ s : State, ∃ k : Fin 256, ∃ c : Client, ∃ v : Nat, ∃ h : Held, s.accepts c Ent.ALARM_RESET k (.num v) h ∧ (s.mon k).alarm = true ∧ (∀ n, s.stringOf k = some n → s.beyondLimits n k = false)) ∧
    (∃ s : State, ∃ k : Fin 256, ∃ c : Client, ∃ v : Nat, ∃ h : Held, s.accepts c Ent.MONITOR_TEST k (.num v) h ∧ (∀ r ∈ s.running, r.target ≠ Ent.MONITOR_TEST.target k) ∧ (∀ n, s.stringOf k = some n → carrying (s.strState n) = false ∧ s.strState n ≠ Str.WELD_CHECK)) ∧
    (∃ s : State, ∃ k : Fin 256, ∃ c : Client, ∃ v : Nat, ∃ h : Held, s.accepts c Ent.MONITOR_TEST k (.num v) h ∧ (∀ r ∈ s.running, r.target ≠ Ent.MONITOR_TEST.target k) ∧ ∃ n : _, s.stringOf k = some n ∧ s.strState n = Str.CONNECTED ∧ c.queue = false) ∧
    (∃ s : State, ∃ k : Fin 256, ∃ wire : Fin 17, ∃ x : Suspect, ∃ w : Nat, ∃ ch : Nat, (s.mon k).suspects.find? (fun y => y.wire == wire.val) = some x ∧ s.radio.cur = some (w, ch) ∧ x.sweep + 10 ≤ w ∧ s.stringOf k = none) ∧
    (∃ s : State, ∃ k : Fin 256, ∃ n : _, s.stringOf k = some n ∧ bitsOf 17 (s.nat Ent.WIRE_STATE k) ≠ [] ∧ s.nat Ent.BREAK_SFN k + 86400000 ≤ s.sfn ∧ 9 ∉ (s.str n).causes ∧ s.strState n = Str.DISABLED) ∧
    (∃ s : State, ∃ k : Fin 256, ∃ n : _, s.stringOf k = some n ∧ bitsOf 17 (s.nat Ent.WIRE_STATE k) ≠ [] ∧ s.nat Ent.BREAK_SFN k + 86400000 ≤ s.sfn ∧ 9 ∉ (s.str n).causes ∧ s.strState n ≠ Str.DISABLED) :=
  ⟨⟨(rig.setNat Ent.MONITOR_COUNT 7 2), 225, site, 1, _, accepts_of_passes _ _ _ _ _ _ (by decide +kernel), by decide +kernel⟩,
   ⟨((((rig.setNat Ent.MONITOR_COUNT 7 2).setNat Ent.MONITOR_STATE 225 Mon.OK).setNat Ent.CELL_COUNT 225 1).setMon 225 { MonSt.none with alarm := true }), 225, site, 1, _, accepts_of_passes _ _ _ _ _ _ (by decide +kernel), 7, by decide +kernel⟩,
   ⟨(((((rig.setNat Ent.MONITOR_COUNT 7 2).setNat Ent.MONITOR_STATE 225 Mon.OK).setNat Ent.CELL_COUNT 225 1).setNat Ent.CELL_V 225 36000) : State).setMon 225 { MonSt.none with alarm := true }, 225, site, 1, _, accepts_of_passes _ _ _ _ _ _ (by decide +kernel), by decide +kernel, by decide +kernel⟩,
   ⟨((((rig.setNat Ent.MONITOR_COUNT 7 2).setNat Ent.MONITOR_STATE 225 Mon.OK).setNat Ent.CELL_COUNT 225 1).setNat Ent.CELL_V 225 36000), 225, site, 1, _, accepts_of_passes _ _ _ _ _ _ (by decide +kernel), by decide +kernel, by decide +kernel⟩,
   ⟨(((((rig.setNat Ent.MONITOR_COUNT 7 2).setNat Ent.MONITOR_STATE 225 Mon.OK).setNat Ent.CELL_COUNT 225 1).setNat Ent.STRING_STATE 7 Str.CONNECTED).setStr 7 { StrSt.none with stateAt := 1999000000 }), 225, site, 1, _, accepts_of_passes _ _ _ _ _ _ (by decide +kernel), by decide +kernel, 7, by decide +kernel⟩,
   ⟨({ rig with radio := { rig.radio with cur := some (16000000000, 7) } } : State).setMon 225 { MonSt.none with suspects := [⟨16, 15999999990, 30000⟩] }, 225, 16, (⟨16, 15999999990, 30000⟩), 16000000000, 7, by decide +kernel⟩,
   ⟨(((((((rig.setNat Ent.MONITOR_COUNT 7 2).setNat Ent.MONITOR_STATE 225 Mon.OK).setNat Ent.CELL_COUNT 225 1).setNat Ent.WIRE_STATE 225 4).setNat Ent.BREAK_SFN 225 799913600000).setNat Ent.STRING_STATE 7 Str.DISABLED).setStr 7 { StrSt.none with stateAt := 1999000000 }), 225, 7, by decide +kernel⟩,
   ⟨(((((((rig.setNat Ent.MONITOR_COUNT 7 2).setNat Ent.MONITOR_STATE 225 Mon.OK).setNat Ent.CELL_COUNT 225 1).setNat Ent.CELL_V 225 36000).setNat Ent.WIRE_STATE 225 4).setNat Ent.BREAK_SFN 225 799913600000).setNat Ent.STRING_STATE 7 Str.OPEN), 225, 7, by decide +kernel⟩⟩

/-- States and operands that meet the hypotheses of StringsConnectAndOpen, clause by clause. -/
theorem witness_StringsConnectAndOpen :
    (∃ s : State, ∃ n : Fin 8, ∃ c : Client, ∃ h : Held, s.accepts c Ent.STRING_REQUEST n (.num 0) h ∧ s.strState n = Str.CONNECTED ∧ 1 ∉ (s.str n).causes) ∧
    (∃ s : State, ∃ n : Fin 8, ∃ c : Client, ∃ h : Held, s.accepts c Ent.STRING_REQUEST n (.num 1) h ∧ s.devState ≠ Dev.SLEEP) ∧
    (∃ s : State, ∃ n : Fin 8, ∃ c : Client, ∃ v : Nat, ∃ h : Held, s.accepts c Ent.STRING_DERATE n (.num v) h) ∧
    (∃ s : State, ∃ n : Fin 8, s.cycle = 0 ∧ s.mayConnect n true = true ∧ s.holdoffOver n = true ∧ s.strState n = Str.OPEN) ∧
    (∃ s : State, ∃ n : Fin 8, (s.str n).step = 1 ∧ s.strState n = Str.CHECKING ∧ (s.str n).stepAt + msTicks 100 ≤ s.ticks ∧ let off := ratAbs (s.strVolts n - s.cellSum n); ((s.nat Ent.STRING_TOL : Nat) : Rat) / 1000 < off ∧ (s.str n).lock = 0 ∧ s.strEnabled n = true) ∧
    (∃ s : State, ∃ n : Fin 8, (s.str n).step = 1 ∧ s.strState n = Str.CHECKING ∧ (s.str n).stepAt + msTicks 100 ≤ s.ticks ∧ let off := ratAbs (s.strVolts n - s.cellSum n); off ≤ ((s.nat Ent.STRING_TOL : Nat) : Rat) / 1000 ∧ s.strVolts n - s.vString n < 60) ∧
    (∃ s : State, ∃ n : Fin 8, (s.str n).step = 1 ∧ s.strState n = Str.CHECKING ∧ (s.str n).stepAt + msTicks 100 ≤ s.ticks ∧ let off := ratAbs (s.strVolts n - s.cellSum n); off ≤ ((s.nat Ent.STRING_TOL : Nat) : Rat) / 1000 ∧ 60 ≤ s.strVolts n - s.vString n) ∧
    (∃ s : State, ∃ n : Fin 8, ((s.str n).step = 2 ∨ (s.str n).step = 3) ∧ s.strState n = Str.CHECKING ∧ ((s.str n).rose = true ∨ s.risesNow n = true) ∧ (s.str n).lock = 0) ∧
    (∃ s : State, ∃ n : Fin 8, (s.str n).step = 3 ∧ s.strState n = Str.CHECKING ∧ (s.str n).rose = false ∧ s.risesNow n = false ∧ (s.str n).stepAt + msTicks 100 ≤ s.ticks) ∧
    (∃ s : State, ∃ n : Fin 8, (s.str n).step = 4 ∧ s.strState n = Str.PRECHARGING ∧ s.charged n = true ∧ (s.str n).reached = none ∧ (s.str n).stepAt + msTicks (s.nat Ent.PRECHARGE_T_MIN n) ≤ s.ticks) ∧
    (∃ s : State, ∃ n : Fin 8, ∃ b : Nat, (s.str n).step = 5 ∧ s.strState n = Str.CLOSING ∧ s.charged n = true ∧ (s.str n).offAt = some b ∧ b + msTicks 20 ≤ s.ticks ∧ s.nat Ent.CONNECT_COUNT n + 1 < 2 ^ Ent.CONNECT_COUNT.type.bits) ∧
    (∃ s : State, ∃ n : Fin 8, s.strState n = Str.OPENING ∧ (s.str n).ropeOff = none ∧ 60 ≤ s.strVolts n - s.strFloor n ∧ 2 ≤ (s.str n).lowRun) ∧
    (∃ s : State, ∃ n : Fin 8, s.strState n = Str.OPENING ∧ (s.str n).ropeOff = none ∧ 60 ≤ s.strVolts n - s.strFloor n ∧ (s.str n).openAt + msTicks (s.nat Ent.OPEN_TIMEOUT n) ≤ s.ticks ∧ s.mayRaise) ∧
    (∃ s : State, ∃ n : Fin 8, s.strState n = Str.WELD_CHECK ∧ (s.str n).stateAt + msTicks (s.nat Ent.WELD_CHECK_TIME n) ≤ s.ticks ∧ (s.str n).lock = 0 ∧ (s.strVolts n - s.strFloor n) / 2 < s.vString n - s.strFloor n) ∧
    (∃ s : State, ∃ n : Fin 8, s.strState n = Str.WELD_CHECK ∧ (s.str n).stateAt + msTicks (s.nat Ent.WELD_CHECK_TIME n) ≤ s.ticks ∧ (s.str n).lock = 0 ∧ s.vString n - s.strFloor n ≤ (s.strVolts n - s.strFloor n) / 2) :=
  ⟨⟨((string7.setNat Ent.STRING_STATE 7 Str.CONNECTED).setStr 7 { StrSt.none with stateAt := 1999000000 }), 7, site, _, accepts_of_passes _ _ _ _ _ _ (by decide +kernel), by decide +kernel⟩,
   ⟨((string7.setNat Ent.STRING_STATE 7 Str.OPEN).setStr 7 { StrSt.none with stateAt := 1999000000 }), 7, site, _, accepts_of_passes _ _ _ _ _ _ (by decide +kernel), by decide +kernel⟩,
   ⟨((string7.setNat Ent.STRING_STATE 7 Str.OPEN).setStr 7 { StrSt.none with stateAt := 1999000000 }), 7, site, 1, _, accepts_of_passes _ _ _ _ _ _ (by decide +kernel)⟩,
   ⟨(((((((((string7.setConv 7 { GroupSt.none with st := Grp.READY }).setNat Ent.STRING_REQUEST 7 1).setNat Ent.ROPE_STATE 7 Rope.CLOSED).setNat Ent.SWEEP_STATUS 7 1).setNat Ent.MCH_STATUS 42 1).setRat Ent.MCH_VALUE 42 20).setRat Ent.MCH_VALUE 40 900).setNat Ent.STRING_STATE 7 Str.OPEN).setStr 7 { StrSt.none with stateAt := 1999000000, lastOpen := some 1000 }), 7, by decide +kernel⟩,
   ⟨(((string7.setRat Ent.MCH_VALUE 40 900).setNat Ent.STRING_STATE 7 Str.CHECKING).setStr 7 { StrSt.none with stateAt := 1999000000, step := 1, stepAt := 1999998000 }), 7, by decide +kernel⟩,
   ⟨((((((((((((((((((((((string7.setNat Ent.MONITOR_STATE 224 Mon.OK).setNat Ent.CELL_COUNT 224 16).setNat Ent.CELL_V 224 56250 0).setNat Ent.CELL_V 224 56250 1).setNat Ent.CELL_V 224 56250 2).setNat Ent.CELL_V 224 56250 3).setNat Ent.CELL_V 224 56250 4).setNat Ent.CELL_V 224 56250 5).setNat Ent.CELL_V 224 56250 6).setNat Ent.CELL_V 224 56250 7).setNat Ent.CELL_V 224 56250 8).setNat Ent.CELL_V 224 56250 9).setNat Ent.CELL_V 224 56250 10).setNat Ent.CELL_V 224 56250 11).setNat Ent.CELL_V 224 56250 12).setNat Ent.CELL_V 224 56250 13).setNat Ent.CELL_V 224 56250 14).setNat Ent.CELL_V 224 56250 15).setRat Ent.MCH_VALUE 40 90).setRat Ent.MCH_VALUE 43 31).setNat Ent.STRING_STATE 7 Str.CHECKING).setStr 7 { StrSt.none with stateAt := 1999000000, step := 1, stepAt := 1999998000 }), 7, by decide +kernel⟩,
   ⟨((((((((((((((((((((((string7.setNat Ent.MONITOR_STATE 224 Mon.OK).setNat Ent.CELL_COUNT 224 16).setNat Ent.CELL_V 224 56250 0).setNat Ent.CELL_V 224 56250 1).setNat Ent.CELL_V 224 56250 2).setNat Ent.CELL_V 224 56250 3).setNat Ent.CELL_V 224 56250 4).setNat Ent.CELL_V 224 56250 5).setNat Ent.CELL_V 224 56250 6).setNat Ent.CELL_V 224 56250 7).setNat Ent.CELL_V 224 56250 8).setNat Ent.CELL_V 224 56250 9).setNat Ent.CELL_V 224 56250 10).setNat Ent.CELL_V 224 56250 11).setNat Ent.CELL_V 224 56250 12).setNat Ent.CELL_V 224 56250 13).setNat Ent.CELL_V 224 56250 14).setNat Ent.CELL_V 224 56250 15).setRat Ent.MCH_VALUE 40 90).setRat Ent.MCH_VALUE 43 30).setNat Ent.STRING_STATE 7 Str.CHECKING).setStr 7 { StrSt.none with stateAt := 1999000000, step := 1, stepAt := 1999998000 }), 7, by decide +kernel⟩,
   ⟨((string7.setNat Ent.STRING_STATE 7 Str.CHECKING) : State).setStr 7 { StrSt.none with stateAt := 1999000000, step := 3, stepAt := 1999990000, rose := true }, 7, by decide +kernel⟩,
   ⟨((((string7.setRat Ent.MCH_VALUE 40 900).setRat Ent.MCH_VALUE 43 31).setNat Ent.STRING_STATE 7 Str.CHECKING) : State).setStr 7 { StrSt.none with stateAt := 1999000000, step := 3, stepAt := 1999990000, vc0 := 30 }, 7, by decide +kernel⟩,
   ⟨((((string7.setRat Ent.MCH_VALUE 40 900).setRat Ent.MCH_VALUE 43 900).setNat Ent.STRING_STATE 7 Str.PRECHARGING).setStr 7 { StrSt.none with stateAt := 1999000000, step := 4, stepAt := 1999000000 }), 7, by decide +kernel⟩,
   ⟨((((string7.setRat Ent.MCH_VALUE 40 900).setRat Ent.MCH_VALUE 43 899).setNat Ent.STRING_STATE 7 Str.CLOSING) : State).setStr 7 { StrSt.none with stateAt := 1999000000, step := 5, stepAt := 1999990000, offAt := some 1999999600 }, 7, 1999999600, by decide +kernel⟩,
   ⟨(((string7.setRat Ent.MCH_VALUE 40 60).setNat Ent.STRING_STATE 7 Str.OPENING).setStr 7 { StrSt.none with stateAt := 1999000000, lowRun := 2 }), 7, by decide +kernel⟩,
   ⟨(((string7.setRat Ent.MCH_VALUE 40 60).setNat Ent.STRING_STATE 7 Str.OPENING).setStr 7 { StrSt.none with stateAt := 1999000000, openAt := 1000 }), 7, by decide +kernel, by decide +kernel, by decide +kernel, by decide +kernel, by simp only [State.mayRaise]; decide +kernel⟩,
   ⟨((((string7.setRat Ent.MCH_VALUE 40 900).setRat Ent.MCH_VALUE 43 451).setNat Ent.STRING_STATE 7 Str.WELD_CHECK).setStr 7 { StrSt.none with stateAt := 1000 }), 7, by decide +kernel⟩,
   ⟨((((string7.setRat Ent.MCH_VALUE 40 900).setRat Ent.MCH_VALUE 43 450).setNat Ent.STRING_STATE 7 Str.WELD_CHECK).setStr 7 { StrSt.none with stateAt := 1000 }), 7, by decide +kernel⟩⟩

/-- States and operands that meet the hypotheses of StringsTripAndAreReset, clause by clause. -/
theorem witness_StringsTripAndAreReset :
    (∃ s : State, ∃ n : Fin 8, s.strState n = Str.CONNECTED ∧ 10 ≤ (s.str n).overRun ∧ 6 ∉ (s.str n).causes ∧ (s.str n).lock = 0) ∧
    (∃ s : State, ∃ n : Fin 8, s.strState n = Str.CONNECTED ∧ ∃ b : Nat, (s.str n).isoLow = some b ∧ b + secTicks (s.nat Ent.ISO_FAULT_TIME n) ≤ s.ticks ∧ 10 ∉ (s.str n).causes) ∧
    (∃ s : State, ∃ n : Fin 8, s.strState n = Str.CONNECTED ∧ 20 ≤ (s.str n).badRun ∧ 11 ∉ (s.str n).causes) ∧
    (∃ s : State, ∃ n : Fin 8, ∃ cause : Fin 17, s.causeCleared n cause = true ∧ latching cause = false) ∧
    (∃ s : State, ∃ n : Fin 8, ∃ c : Client, ∃ v : Nat, ∃ h : Held, s.accepts c Ent.STRING_RESET n (.num v) h ∧ s.strState n ≠ Str.LOCKED_OUT) ∧
    (∃ s : State, ∃ n : Fin 8, ∃ c : Client, ∃ v : Nat, ∃ h : Held, s.accepts c Ent.STRING_RESET n (.num v) h ∧ s.strState n = Str.LOCKED_OUT ∧ 13 ∈ (s.str n).causes ∧ (s.str n).tested = false) ∧
    (∃ s : State, ∃ n : Fin 8, ∃ c : Client, ∃ v : Nat, ∃ h : Held, s.accepts c Ent.STRING_RESET n (.num v) h ∧ s.strState n = Str.LOCKED_OUT ∧ (∀ x ∈ (s.str n).causes, x = 13 ∨ (latching x = false ∧ x ≠ 12)) ∧ (13 ∈ (s.str n).causes → (s.str n).tested = true)) ∧
    (∃ s : State, ∃ n : Fin 8, ∃ c : Client, ∃ v : Nat, ∃ h : Held, s.accepts c Ent.STRING_TEST n (.num v) h ∧ (∀ r ∈ s.running, r.target ≠ Ent.STRING_TEST.target n) ∧ s.strInService n = false) ∧
    (∃ s : State, ∃ n : Fin 8, ∃ c : Client, ∃ v : Nat, ∃ h : Held, s.accepts c Ent.STRING_TEST n (.num v) h ∧ (∀ r ∈ s.running, r.target ≠ Ent.STRING_TEST.target n) ∧ s.strInService n = true ∧ c.queue = false) ∧
    (∃ s : State, ∃ n : Fin 8, s.strState n = Str.TESTING ∧ (s.str n).step = 4 ∧ (s.str n).rises = 0) ∧
    (∃ s : State, ∃ n : Fin 8, s.strState n = Str.TESTING ∧ (s.str n).step = 4 ∧ (s.str n).lock = 0) ∧
    (∃ s : State, ∃ n : Fin 8, s.strState n = Str.TESTING ∧ (s.str n).step = 4 ∧ (s.str n).lock ≠ 0) :=
  ⟨⟨((string7.setNat Ent.STRING_STATE 7 Str.CONNECTED).setStr 7 { StrSt.none with stateAt := 1999000000, overRun := 10 }), 7, by decide +kernel⟩,
   ⟨((string7.setNat Ent.STRING_STATE 7 Str.CONNECTED).setStr 7 { StrSt.none with stateAt := 1999000000, isoLow := some 1000 }), 7, by decide +kernel, 1000, by decide +kernel⟩,
   ⟨((string7.setNat Ent.STRING_STATE 7 Str.CONNECTED).setStr 7 { StrSt.none with stateAt := 1999000000, badRun := 20 }), 7, by decide +kernel⟩,
   ⟨((string7.setNat Ent.STRING_STATE 7 Str.OPEN).setStr 7 { StrSt.none with stateAt := 1999000000, causes := [14] }), 7, 14, by decide +kernel⟩,
   ⟨((string7.setNat Ent.STRING_STATE 7 Str.OPEN).setStr 7 { StrSt.none with stateAt := 1999000000 }), 7, site, 1, _, accepts_of_passes _ _ _ _ _ _ (by decide +kernel), by decide +kernel⟩,
   ⟨((string7.setNat Ent.STRING_STATE 7 Str.LOCKED_OUT).setStr 7 { StrSt.none with stateAt := 1999000000, lock := 13, causes := [13] }), 7, site, 1, _, accepts_of_passes _ _ _ _ _ _ (by decide +kernel), by decide +kernel⟩,
   ⟨((string7.setNat Ent.STRING_STATE 7 Str.LOCKED_OUT) : State).setStr 7 { StrSt.none with stateAt := 1999000000, lock := 13, causes := [13], tested := true }, 7, site, 1, _, accepts_of_passes _ _ _ _ _ _ (by decide +kernel), by decide +kernel, by decide +kernel, by decide +kernel⟩,
   ⟨((string7.setNat Ent.STRING_STATE 7 Str.OPEN).setStr 7 { StrSt.none with stateAt := 1999000000 }), 7, site, 1, _, accepts_of_passes _ _ _ _ _ _ (by decide +kernel), by decide +kernel, by decide +kernel⟩,
   ⟨((string7.setNat Ent.STRING_STATE 7 Str.CONNECTED).setStr 7 { StrSt.none with stateAt := 1999000000 }), 7, site, 1, _, accepts_of_passes _ _ _ _ _ _ (by decide +kernel), by decide +kernel, by decide +kernel⟩,
   ⟨((string7.setNat Ent.STRING_STATE 7 Str.TESTING).setStr 7 { StrSt.none with stateAt := 1999000000, step := 4 }), 7, by decide +kernel⟩,
   ⟨((string7.setNat Ent.STRING_STATE 7 Str.TESTING).setStr 7 { StrSt.none with stateAt := 1999000000, step := 4 }), 7, by decide +kernel⟩,
   ⟨((string7.setNat Ent.STRING_STATE 7 Str.TESTING) : State).setStr 7 { StrSt.none with stateAt := 1999000000, step := 4, lock := 9 }, 7, by decide +kernel⟩⟩

/-- States and operands that meet the hypotheses of EstimatesAreCommittedAndStored, clause by clause. -/
theorem witness_EstimatesAreCommittedAndStored :
    (∃ s : State, ∃ c : Client, ∃ n : Nat, ∃ v : Nat, ∃ h : Held, s.accepts c Ent.EST_RESET n (.num v) h) ∧
    (∃ s : State, s.cycle = 0) ∧
    (∃ s : State, s.serving = true) :=
  ⟨⟨(((rig.setNat Ent.MONITOR_COUNT 7 2).setNat Ent.MONITOR_STATE 225 Mon.OK).setNat Ent.CELL_COUNT 225 1), site, 7, 1, _, accepts_of_passes _ _ _ _ _ _ (by decide +kernel)⟩,
   ⟨rig, by decide +kernel⟩,
   ⟨((rig.setNat Ent.MONITOR_COUNT 7 2).setNat Ent.BALANCE_ENABLE 7 1), by decide +kernel⟩⟩

/-- States and operands that meet the hypotheses of ConversionsBanksAndCaptures, clause by clause. -/
theorem witness_ConversionsBanksAndCaptures :
    (∃ s : State, ∃ die : Fin 2, ∃ b : BlockIn, ∃ ws : List Window, s.meterRunning die = true ∧ s.meterFailed die = false ∧ s.blockGood b = true ∧ b.arrived ≤ 4000) ∧
    (∃ s : State, ∃ die : Fin 2, ∃ b : BlockIn, ∃ ws : List Window, s.meterRunning die = true ∧ s.meterFailed die = false ∧ s.blockGood b = true ∧ 4000 < b.arrived ∧ s.nat Ent.DEADLINE_MISS_COUNT + 1 < 2 ^ Ent.DEADLINE_MISS_COUNT.type.bits) ∧
    (∃ s : State, ∃ die : Fin 2, ∃ b : BlockIn, ∃ ws : List Window, s.meterRunning die = true ∧ s.meterFailed die = false ∧ s.blockGood b = false) ∧
    (∃ s : State, ∃ bank : Fin 4, ∃ r : SpareCal, ∃ i : Nat, (s.bank bank).spare = some i ∧ s.cycle = 0 ∧ (s.bank bank).dwell + 20 * s.nat Ent.SPARE_DWELL ≤ s.ticks ∧ r.skew.natAbs ≤ 200 ∧ r.refDiff ≤ 500) ∧
    (∃ s : State, ∃ bank : Fin 4, ∃ r : SpareCal, ∃ i : Nat, (s.bank bank).spare = some i ∧ s.cycle = 0 ∧ (s.bank bank).dwell + 20 * s.nat Ent.SPARE_DWELL ≤ s.ticks ∧ r.skew.natAbs ≤ 200 ∧ 500 < r.refDiff ∧ s.meterFailed (bank / 2) = false) ∧
    (∃ s : State, ∃ die : Fin 2, (if die.val = 0 then s.meas.rebuild0 else s.meas.rebuild1) = true ∧ s.cycle = 0 ∧ let full := demandOf (fun ch => s.nat Ent.MCH_CLASS ch) false; full ≤ 240 * s.dieSlices die ∧ full < 2 ^ Ent.DEMAND_M0.type.bits) ∧
    (∃ s : State, ∃ die : Fin 2, (if die.val = 0 then s.meas.rebuild0 else s.meas.rebuild1) = true ∧ s.cycle = 0 ∧ let full := demandOf (fun ch => s.nat Ent.MCH_CLASS ch) false; 240 * s.dieSlices die < full) ∧
    (∃ s : State, ∃ bank : Fin 4, ∃ slice : Fin 9, ∃ k : SliceCheck, ∃ cause : Nat, retireCause k = some cause ∧ s.meterRunning (bank / 2) = true ∧ s.checkable bank slice k = true ∧ s.retired bank slice = false) ∧
    (∃ s : State, ∃ x : Nat, ∃ ns : Nat, ∃ d : Nat, s.flag Ent.CAPTURE_ARM = true ∧ F32.special x = false ∧ s.rat Ent.CAPTURE_LEVEL ≤ ratAbs (F32.toRat x) ∧ (s.ticks < s.meas.captureHold ∨ s.meas.capture.isSome = true)) ∧
    (∃ s : State, ∃ x : Nat, ∃ ns : Nat, ∃ d : Nat, s.flag Ent.CAPTURE_ARM = true ∧ F32.special x = false ∧ s.rat Ent.CAPTURE_LEVEL ≤ ratAbs (F32.toRat x) ∧ s.meas.captureHold ≤ s.ticks ∧ s.meas.capture = none ∧ s.idleDie = some d ∧ (s.activeSlices (2 * d)).length = 8 ∧ (s.activeSlices (2 * d + 1)).length = 8 ∧ s.meas.rebuild0 = false ∧ s.meas.rebuild1 = false) ∧
    (∃ s : State, ∃ c : Client, ∃ v : Nat, ∃ h : Held, s.accepts c Ent.CAPTURE_FORCE 0 (.num v) h ∧ s.flag Ent.CAPTURE_ARM = false) ∧
    (∃ s : State, ∃ d : CaptureData, ∃ k : Capture, s.meas.capture = some k ∧ s.nat Ent.CAPTURE_COUNT + 1 < 2 ^ Ent.CAPTURE_COUNT.type.bits) :=
  ⟨⟨rig, 1, (⟨true, 800000000000, 0, 4000⟩), ([⟨95, [⟨0, 5, 1⟩], false, true, 0, []⟩]), by decide +kernel⟩,
   ⟨rig, 1, (⟨true, 800000000000, 0, 4001⟩), ([⟨95, [⟨0, 5, 1⟩], false, true, 0, []⟩]), by decide +kernel⟩,
   ⟨rig, 1, (⟨true, 799999999999, 0, 4000⟩), ([⟨95, [⟨0, 5, 1⟩], false, true, 0, []⟩]), by decide +kernel⟩,
   ⟨(rig.setBank 3 ⟨some 8, 1000⟩), 3, (⟨1, 2, 3, 500⟩), 8, by decide +kernel⟩,
   ⟨(rig.setBank 3 ⟨some 8, 1000⟩), 3, (⟨1, 2, 3, 501⟩), 8, by decide +kernel⟩,
   ⟨{ rig with meas := { rig.meas with rebuild0 := true, rebuild1 := true } }, 1, by decide +kernel⟩,
   ⟨{ (((rig.setNat Ent.RETIRED_MASK 2 511).setNat Ent.RETIRED_MASK 3 511).setNat Ent.MCH_CLASS 95 1) with meas := { rig.meas with rebuild0 := true, rebuild1 := true } }, 1, by decide +kernel⟩,
   ⟨(rig.setBank 3 ⟨some 8, 1000⟩), 3, 5, ((.shadow 0 501 0)), 1, by decide +kernel⟩,
   ⟨({ ((rig.setNat Ent.CAPTURE_ARM 0 1).setNat Ent.CAPTURE_CHANNEL 0 95) with meas := { rig.meas with captureHold := 2000000001 } } : State), 0x3f800000, 999999, 0, by decide +kernel⟩,
   ⟨({ ((((((rig.setNat Ent.CAPTURE_ARM 0 1).setNat Ent.CAPTURE_CHANNEL 0 95).setBank 0 ⟨some 0, 0⟩).setBank 1 ⟨some 0, 0⟩).setBank 2 ⟨some 0, 0⟩).setBank 3 ⟨some 0, 0⟩) with meas := { (((((((rig.setNat Ent.CAPTURE_ARM 0 1).setNat Ent.CAPTURE_CHANNEL 0 95).setBank 0 ⟨some 0, 0⟩).setBank 1 ⟨some 0, 0⟩).setBank 2 ⟨some 0, 0⟩).setBank 3 ⟨some 0, 0⟩)).meas with captureHold := 2000000000 } } : State), 0x3f800000, 999999, 1, by decide +kernel⟩,
   ⟨rig, site, 1, _, accepts_of_passes _ _ _ _ _ _ (by decide +kernel), by decide +kernel⟩,
   ⟨({ rig with meas := { rig.meas with capture := some ⟨1, 95, false, 799999999999, 5, 7⟩ } } : State), (⟨-5, [1], [2, 3], false⟩), (⟨1, 95, false, 799999999999, 5, 7⟩), by decide +kernel⟩⟩

/-- States and operands that meet the hypotheses of ChannelsAreCalibratedAndTested, clause by clause. -/
theorem witness_ChannelsAreCalibratedAndTested :
    (∃ s : State, ∃ c : Client, ∃ ch : Nat, ∃ dies : Nat, ∃ reference : Nat, ∃ h : Held, F32.special (low 32 reference) = false ∧ s.accepts c Ent.MCH_CAL_REQUEST ch (.bytes (calBytes 1 dies reference)) h ∧ s.mayCal ch dies ∧ s.chanInService ch = false) ∧
    (∃ s : State, ∃ c : Client, ∃ ch : Nat, ∃ dies : Nat, ∃ reference : Nat, ∃ h : Held, F32.special (low 32 reference) = false ∧ s.accepts c Ent.MCH_CAL_REQUEST ch (.bytes (calBytes 1 dies reference)) h ∧ s.mayCal ch dies ∧ s.flag Ent.MCH_LEGAL ch = false ∧ s.chanInService ch = true ∧ c.queue = false) ∧
    (∃ s : State, ∃ c : Client, ∃ ch : Nat, ∃ dies : Nat, ∃ reference : Nat, ∃ h : Held, F32.special (low 32 reference) = false ∧ s.accepts c Ent.MCH_CAL_REQUEST ch (.bytes (calBytes 1 dies reference)) h ∧ ¬ (1 ≤ dies ∧ dies ≤ 3)) ∧
    (∃ s : State, ∃ c : Client, ∃ ch : Nat, ∃ dies : Nat, ∃ reference : Nat, ∃ h : Held, F32.special (low 32 reference) = false ∧ s.accepts c Ent.MCH_CAL_REQUEST ch (.bytes (calBytes 1 dies reference)) h ∧ 1 ≤ dies ∧ dies ≤ 3 ∧ s.flag Ent.MCH_LEGAL ch = true ∧ s.flag Ent.LEGAL_SEAL_STATE = false) ∧
    (∃ s : State, ∃ c : Client, ∃ ch : Nat, ∃ dies : Nat, ∃ reference : Nat, ∃ h : Held, F32.special (low 32 reference) = false ∧ s.accepts c Ent.MCH_CAL_REQUEST ch (.bytes (calBytes 2 dies reference)) h ∧ s.mayCal ch dies ∧ s.chanInService ch = false) ∧
    (∃ s : State, ∃ c : Client, ∃ ch : Nat, ∃ dies : Nat, ∃ reference : Nat, ∃ h : Held, F32.special (low 32 reference) = false ∧ s.accepts c Ent.MCH_CAL_REQUEST ch (.bytes (calBytes 2 dies reference)) h ∧ s.mayCal ch dies ∧ s.flag Ent.MCH_LEGAL ch = false ∧ s.chanInService ch = true ∧ c.queue = false) ∧
    (∃ s : State, ∃ c : Client, ∃ ch : Nat, ∃ dies : Nat, ∃ reference : Nat, ∃ h : Held, F32.special (low 32 reference) = false ∧ s.accepts c Ent.MCH_CAL_REQUEST ch (.bytes (calBytes 2 dies reference)) h ∧ ¬ (1 ≤ dies ∧ dies ≤ 3)) ∧
    (∃ s : State, ∃ c : Client, ∃ ch : Nat, ∃ dies : Nat, ∃ reference : Nat, ∃ h : Held, F32.special (low 32 reference) = false ∧ s.accepts c Ent.MCH_CAL_REQUEST ch (.bytes (calBytes 2 dies reference)) h ∧ 1 ≤ dies ∧ dies ≤ 3 ∧ s.flag Ent.MCH_LEGAL ch = true ∧ s.flag Ent.LEGAL_SEAL_STATE = false) ∧
    (∃ s : State, ∃ c : Client, ∃ ch : Nat, ∃ dies : Nat, ∃ reference : Nat, ∃ h : Held, F32.special (low 32 reference) = false ∧ s.accepts c Ent.MCH_CAL_REQUEST ch (.bytes (calBytes 3 dies reference)) h ∧ s.mayCal ch dies ∧ s.chanInService ch = false) ∧
    (∃ s : State, ∃ c : Client, ∃ ch : Nat, ∃ dies : Nat, ∃ reference : Nat, ∃ h : Held, F32.special (low 32 reference) = false ∧ s.accepts c Ent.MCH_CAL_REQUEST ch (.bytes (calBytes 3 dies reference)) h ∧ s.mayCal ch dies ∧ s.flag Ent.MCH_LEGAL ch = false ∧ s.chanInService ch = true ∧ c.queue = false) ∧
    (∃ s : State, ∃ c : Client, ∃ ch : Nat, ∃ dies : Nat, ∃ reference : Nat, ∃ h : Held, F32.special (low 32 reference) = false ∧ s.accepts c Ent.MCH_CAL_REQUEST ch (.bytes (calBytes 3 dies reference)) h ∧ ¬ (1 ≤ dies ∧ dies ≤ 3)) ∧
    (∃ s : State, ∃ c : Client, ∃ ch : Nat, ∃ dies : Nat, ∃ reference : Nat, ∃ h : Held, F32.special (low 32 reference) = false ∧ s.accepts c Ent.MCH_CAL_REQUEST ch (.bytes (calBytes 3 dies reference)) h ∧ 1 ≤ dies ∧ dies ≤ 3 ∧ s.flag Ent.MCH_LEGAL ch = true ∧ s.flag Ent.LEGAL_SEAL_STATE = false) ∧
    (∃ s : State, ∃ ch : Fin 96, ∃ k : Calib, s.meas.calibs.find? (fun x => x.ch == ch.val) = some k ∧ s.cycle = 0 ∧ (∀ d ∈ k.named, k.frames ≤ (k.means d).length) ∧ ∃ d ∈ k.named, (s.calResult k d).2.2 = false) ∧
    (∃ s : State, ∃ ch : Fin 96, ∃ k : Calib, s.meas.calibs.find? (fun x => x.ch == ch.val) = some k ∧ s.cycle = 0 ∧ (∀ d ∈ k.named, k.frames ≤ (k.means d).length) ∧ (∀ d ∈ k.named, (s.calResult k d).2.2 = true) ∧ s.calAgrees k = true) ∧
    (∃ s : State, ∃ c : Client, ∃ ch : Nat, ∃ v : Nat, ∃ h : Held, s.accepts c Ent.MCH_OPEN_TEST ch (.num v) h ∧ s.chanTested ch = false ∧ s.chanInService ch = false) ∧
    (∃ s : State, ∃ c : Client, ∃ ch : Nat, ∃ v : Nat, ∃ h : Held, s.accepts c Ent.MCH_OPEN_TEST ch (.num v) h ∧ s.chanTested ch = false ∧ s.chanInService ch = true ∧ c.queue = false) ∧
    (∃ s : State, ∃ ch : Fin 96, ∃ pos : Nat, ∃ neg : Nat, ∃ r : RunTest, s.running.find? (fun x => x.target == Ent.MCH_OPEN_TEST.target ch) = some r ∧ r.since + 400 ≤ s.ticks ∧ let open_ := b2n (decide (50000 < pos)) + 2 * b2n (decide (50000 < neg)); r.slot = none) :=
  ⟨⟨rig, site, 95, 3, 0x3f800000, _, by decide +kernel, accepts_of_passes _ _ _ _ _ _ (by decide +kernel), by simp only [State.mayCal]; decide +kernel, by decide +kernel⟩,
   ⟨{ (outlet7.setNat Ent.VOLTAGE_MCH 7 95) with outlets := { rig.outlets with sess := [(7, { Sess.none with state := Ses.TRANSFER, plugAt := 1999000000, stateAt := 1999900000 })], lines := [(7, { LineSt.none with tcp := true, tls := true })] } }, site, 95, 3, 0x3f800000, _, by decide +kernel, accepts_of_passes _ _ _ _ _ _ (by decide +kernel), by simp only [State.mayCal]; decide +kernel, by decide +kernel⟩,
   ⟨rig, site, 95, 0, 0x3f800000, _, by decide +kernel, accepts_of_passes _ _ _ _ _ _ (by decide +kernel), by decide +kernel⟩,
   ⟨(rig.setNat Ent.MCH_LEGAL 95 1), site, 95, 3, 0x3f800000, _, by decide +kernel, accepts_of_passes _ _ _ _ _ _ (by decide +kernel), by decide +kernel⟩,
   ⟨rig, site, 95, 3, 0x3f800000, _, by decide +kernel, accepts_of_passes _ _ _ _ _ _ (by decide +kernel), by simp only [State.mayCal]; decide +kernel, by decide +kernel⟩,
   ⟨{ (outlet7.setNat Ent.VOLTAGE_MCH 7 95) with outlets := { rig.outlets with sess := [(7, { Sess.none with state := Ses.TRANSFER, plugAt := 1999000000, stateAt := 1999900000 })], lines := [(7, { LineSt.none with tcp := true, tls := true })] } }, site, 95, 3, 0x3f800000, _, by decide +kernel, accepts_of_passes _ _ _ _ _ _ (by decide +kernel), by simp only [State.mayCal]; decide +kernel, by decide +kernel⟩,
   ⟨rig, site, 95, 0, 0x3f800000, _, by decide +kernel, accepts_of_passes _ _ _ _ _ _ (by decide +kernel), by decide +kernel⟩,
   ⟨(rig.setNat Ent.MCH_LEGAL 95 1), site, 95, 3, 0x3f800000, _, by decide +kernel, accepts_of_passes _ _ _ _ _ _ (by decide +kernel), by decide +kernel⟩,
   ⟨rig, site, 95, 3, 0x3f800000, _, by decide +kernel, accepts_of_passes _ _ _ _ _ _ (by decide +kernel), by simp only [State.mayCal]; decide +kernel, by decide +kernel⟩,
   ⟨{ (outlet7.setNat Ent.VOLTAGE_MCH 7 95) with outlets := { rig.outlets with sess := [(7, { Sess.none with state := Ses.TRANSFER, plugAt := 1999000000, stateAt := 1999900000 })], lines := [(7, { LineSt.none with tcp := true, tls := true })] } }, site, 95, 3, 0x3f800000, _, by decide +kernel, accepts_of_passes _ _ _ _ _ _ (by decide +kernel), by simp only [State.mayCal]; decide +kernel, by decide +kernel⟩,
   ⟨rig, site, 95, 0, 0x3f800000, _, by decide +kernel, accepts_of_passes _ _ _ _ _ _ (by decide +kernel), by decide +kernel⟩,
   ⟨(rig.setNat Ent.MCH_LEGAL 95 1), site, 95, 3, 0x3f800000, _, by decide +kernel, accepts_of_passes _ _ _ _ _ _ (by decide +kernel), by decide +kernel⟩,
   ⟨{ rig with meas := { rig.meas with calibs := [⟨95, 1, 2, 0x3f800000, 2, [], [5, 5], 0, 0, 0, 0⟩] } }, 95, (⟨95, 1, 2, 0x3f800000, 2, [], [5, 5], 0, 0, 0, 0⟩), by decide +kernel, by decide +kernel, by decide +kernel, by decide +kernel⟩,
   ⟨{ rig with meas := { rig.meas with calibs := [⟨95, 1, 2, 0x3f800000, 2, [], [0, 0], 0, 0, 0, 0⟩] } }, 95, (⟨95, 1, 2, 0x3f800000, 2, [], [0, 0], 0, 0, 0, 0⟩), by decide +kernel, by decide +kernel, by decide +kernel, by decide +kernel, by decide +kernel⟩,
   ⟨rig, site, 95, 1, _, accepts_of_passes _ _ _ _ _ _ (by decide +kernel), by decide +kernel⟩,
   ⟨{ (outlet7.setNat Ent.VOLTAGE_MCH 7 95) with outlets := { rig.outlets with sess := [(7, { Sess.none with state := Ses.TRANSFER, plugAt := 1999000000, stateAt := 1999900000 })], lines := [(7, { LineSt.none with tcp := true, tls := true })] } }, site, 95, 1, _, accepts_of_passes _ _ _ _ _ _ (by decide +kernel), by decide +kernel⟩,
   ⟨{ rig with running := [⟨Ent.MCH_OPEN_TEST.target 95, none, 1999999600⟩] }, 95, 50001, 50000, (⟨Ent.MCH_OPEN_TEST.target 95, none, 1999999600⟩), by decide +kernel⟩⟩

/-- States and operands that meet the hypotheses of MetersCommitCompareAndFlush, clause by clause. -/
theorem witness_MetersCommitCompareAndFlush :
    (∃ s : State, ∃ die : Fin 2, ∃ ws : List Window, s.metering die = true ∧ s.commitsNow = true ∧ (s.commitOf die).ns < s.instant 50000) ∧
    (∃ s : State, ∃ die : Fin 2, ∃ ws : List Window, s.metering die = false) ∧
    (∃ s : State, s.legal.crossFrames < s.nat Ent.CROSS_WINDOW) ∧
    (∃ s : State, s.nat Ent.CROSS_WINDOW ≤ s.legal.crossFrames) ∧
    (∃ s : State, ∃ c : Client, ∃ pt : Nat, ∃ v : Nat, ∃ h : Held, s.accepts c Ent.PEAK_RESET pt (.num v) h) ∧
    (∃ s : State, ∃ pt : Fin 17, ∃ leg : Fin 3, ∃ x : OverSt, Tab.find s.overs (4 * pt.val + leg.val) = some x ∧ x.now = true ∧ x.told = false ∧ x.since + msTicks (s.nat Ent.OC_TIME pt) ≤ s.ticks ∧ s.nat Ent.OC_COUNT pt + 1 < 2 ^ Ent.OC_COUNT.type.bits) ∧
    (∃ s : State, ∃ pt : Fin 17, ∃ leg : Fin 3, ∃ x : OverSt, Tab.find s.overs (4 * pt.val + leg.val) = some x ∧ x.told = true ∧ x.now = false) ∧
    (∃ s : State, ∃ offset : Nat, ∃ flushes : List Flush, s.legal.pfw = none ∧ s.devState ≠ Dev.OFF ∧ s.devState ≠ Dev.SHIP ∧ (s.die.ca = .active ∨ s.die.cb = .active)) ∧
    (∃ s : State, ∃ die : Fin 2, ∃ ws : List Window, ∃ b : Nat, ∃ off : Nat, s.legal.pfw = some (b, off) ∧ b + 96 ≤ s.ticks ∧ s.metering die = true) ∧
    (∃ s : State, s.legal.pfw.isSome = true) :=
  ⟨⟨{ rig with cycle := 19, ticks := 2000000019 }, 1, [], by decide +kernel⟩,
   ⟨({ rig with die := { rig.die with m1Failed := true } } : State), 1, [], by decide +kernel⟩,
   ⟨rig, by decide +kernel⟩,
   ⟨{ rig with legal := { rig.legal with crossFrames := 1000 } }, by decide +kernel⟩,
   ⟨rig, site, 16, 1, _, accepts_of_passes _ _ _ _ _ _ (by decide +kernel)⟩,
   ⟨({ rig with overs := [(66, ⟨1999000000, true, 0, false⟩)] } : State), 16, 2, (⟨1999000000, true, 0, false⟩), by decide +kernel⟩,
   ⟨({ rig with overs := [(66, ⟨1999000000, false, 1999999999, true⟩)] } : State), 16, 2, (⟨1999000000, false, 1999999999, true⟩), by decide +kernel⟩,
   ⟨rig, 999999, ([⟨0, 1000, []⟩]), by decide +kernel⟩,
   ⟨{ rig with legal := { rig.legal with pfw := some (1999999904, 7) } }, 1, [], 1999999904, 7, by decide +kernel⟩,
   ⟨({ rig with legal := { rig.legal with pfw := some (1999999904, 7), stop0 := true } } : State), by decide +kernel⟩⟩

/-- States and operands that meet the hypotheses of LegalLogSealAndDisplay, clause by clause. -/
theorem witness_LegalLogSealAndDisplay :
    (∃ s : State, ∃ opened : Bool, s.sealOpen = opened ∧ s.flag Ent.LEGAL_SEAL_STATE = opened) ∧
    (∃ s : State, ∃ opened : Bool, s.sealOpen = opened ∧ s.flag Ent.LEGAL_SEAL_STATE ≠ opened) ∧
    (∃ s : State, ∃ opened : Bool, s.sealOpen ≠ opened) ∧
    (∃ s : State, ∃ c : Client, ∃ seq : Nat, ∃ h : Held, s.accepts c Ent.LEGAL_LOG_ARCHIVE 0 (.num seq) h ∧ s.flag Ent.LEGAL_SEAL_STATE = false) ∧
    (∃ s : State, ∃ c : Client, ∃ seq : Nat, ∃ h : Held, s.accepts c Ent.LEGAL_LOG_ARCHIVE 0 (.num seq) h ∧ s.flag Ent.LEGAL_SEAL_STATE = true ∧ (∀ x ∈ s.legal.log, x.1 ≠ seq)) ∧
    (∃ s : State, ∃ c : Client, ∃ seq : Nat, ∃ h : Held, s.accepts c Ent.LEGAL_LOG_ARCHIVE 0 (.num seq) h ∧ s.flag Ent.LEGAL_SEAL_STATE = true ∧ ∃ x ∈ s.legal.log, x.1 = seq) ∧
    (∃ s : State, ∃ d : Nat, s.displayDie = some d ∧ s.legal.itemAt + secTicks (s.nat Ent.DISPLAY_PERIOD) ≤ s.ticks) ∧
    (∃ s : State, ∃ b : Nat, s.legal.busy = some b ∧ b + msTicks 100 ≤ s.ticks) ∧
    (∃ s : State, ∃ b : Nat, s.legal.busy = some b ∧ s.ticks < b + msTicks 100) :=
  ⟨⟨{ (rig.setNat Ent.LEGAL_SEAL_STATE 0 1) with legal := { rig.legal with seal1 := ⟨true, 0⟩ } }, true, by decide +kernel⟩,
   ⟨{ (rig.setNat Ent.LEGAL_SEAL_STATE 0 0) with legal := { rig.legal with seal1 := ⟨true, 0⟩ } }, true, by decide +kernel⟩,
   ⟨{ (rig.setNat Ent.LEGAL_SEAL_STATE 0 0) with legal := { rig.legal with seal1 := ⟨true, 0⟩ } }, false, by decide +kernel⟩,
   ⟨rig, site, 3, _, accepts_of_passes _ _ _ _ _ _ (by decide +kernel), by decide +kernel⟩,
   ⟨({ (rig.setNat Ent.LEGAL_SEAL_STATE 0 1) with legal := { rig.legal with log := [(5, []), (4, []), (3, [])], seq := 5 } } : State), site, 2, _, accepts_of_passes _ _ _ _ _ _ (by decide +kernel), by decide +kernel, by decide +kernel⟩,
   ⟨({ (rig.setNat Ent.LEGAL_SEAL_STATE 0 1) with legal := { rig.legal with log := [(5, []), (4, []), (3, [])], seq := 5 } } : State), site, 4, _, accepts_of_passes _ _ _ _ _ _ (by decide +kernel), by decide +kernel⟩,
   ⟨{ rig with legal := { rig.legal with itemAt := 1999800000 } }, 0, by decide +kernel⟩,
   ⟨({ rig with legal := { rig.legal with itemAt := 1999800000, busy := some 1999998000 } } : State), 1999998000, by decide +kernel⟩,
   ⟨({ rig with legal := { rig.legal with itemAt := 1999800000, busy := some 1999998001 } } : State), 1999998001, by decide +kernel⟩⟩

/-- States and operands that meet the hypotheses of BillingPeriodsIntervalsAndCredit, clause by clause. -/
theorem witness_BillingPeriodsIntervalsAndCredit :
    (∃ s : State, ∃ c : Client, ∃ v : Nat, ∃ h : Held, s.accepts c Ent.BILLING_CLOSE 0 (.num v) h ∧ s.bill.closedAt = some s.frames) ∧
    (∃ s : State, ∃ c : Client, ∃ v : Nat, ∃ h : Held, s.accepts c Ent.BILLING_CLOSE 0 (.num v) h ∧ s.bill.closedAt ≠ some s.frames ∧ s.bill.still = true) ∧
    (∃ s : State, ∃ c : Client, ∃ v : Nat, ∃ h : Held, s.accepts c Ent.BILLING_CLOSE 0 (.num v) h ∧ s.bill.closedAt ≠ some s.frames ∧ s.bill.still = false ∧ s.nat Ent.PERIOD_NUMBER + 1 < 2 ^ Ent.PERIOD_NUMBER.type.bits) ∧
    (∃ s : State, s.cycle = 0 ∧ s.tx.step = 0 ∧ s.metersUp = true ∧ let z := s.formTime.intervalStep; z.bill.still = false ∧ z.endsUpTo z.bill.settled < z.endsUpTo z.localMs ∧ z.bill.lastDay ≠ some (dayOf z.localMs) ∧ z.nat Ent.PERIOD_NUMBER + 1 < 2 ^ Ent.PERIOD_NUMBER.type.bits) ∧
    (∃ s : State, s.cycle = 0 ∧ s.tx.step = 3 ∧ s.bill.still = false ∧ s.metersUp = true) ∧
    (∃ s : State, ∃ c : Client, ∃ a : Nat, ∃ amount : Int, ∃ reference : Nat, ∃ h : Held, s.accepts c Ent.CREDIT_TOPUP a (.bytes (topupBytes amount reference)) h ∧ amount.natAbs < 2 ^ 63 ∧ reference < 2 ^ 32 ∧ s.flag Ent.ACCOUNT_ENABLE a = false) ∧
    (∃ s : State, ∃ c : Client, ∃ a : Nat, ∃ amount : Int, ∃ reference : Nat, ∃ h : Held, s.accepts c Ent.CREDIT_TOPUP a (.bytes (topupBytes amount reference)) h ∧ amount.natAbs < 2 ^ 63 ∧ reference < 2 ^ 32 ∧ s.flag Ent.ACCOUNT_ENABLE a = true ∧ reference = s.nat Ent.LAST_TOPUP_REF a) ∧
    (∃ s : State, ∃ c : Client, ∃ a : Nat, ∃ amount : Int, ∃ reference : Nat, ∃ h : Held, s.accepts c Ent.CREDIT_TOPUP a (.bytes (topupBytes amount reference)) h ∧ amount.natAbs < 2 ^ 63 ∧ reference < 2 ^ 32 ∧ s.flag Ent.ACCOUNT_ENABLE a = true ∧ reference ≠ s.nat Ent.LAST_TOPUP_REF a ∧ (amount = 0 ∨ 10 ^ 12 < amount.natAbs)) ∧
    (∃ s : State, ∃ c : Client, ∃ a : Nat, ∃ amount : Int, ∃ reference : Nat, ∃ h : Held, s.accepts c Ent.CREDIT_TOPUP a (.bytes (topupBytes amount reference)) h ∧ amount.natAbs < 2 ^ 63 ∧ reference < 2 ^ 32 ∧ s.flag Ent.ACCOUNT_ENABLE a = true ∧ reference ≠ s.nat Ent.LAST_TOPUP_REF a ∧ amount ≠ 0 ∧ amount.natAbs ≤ 10 ^ 12) ∧
    (∃ s : State, ∃ c : Client, ∃ pt : Nat, ∃ v : Nat, ∃ h : Held, s.accepts c Ent.READING_REQUEST pt (.num v) h ∧ s.flag Ent.POINT_ENABLE pt = false) ∧
    (∃ s : State, ∃ c : Client, ∃ pt : Nat, ∃ v : Nat, ∃ h : Held, s.accepts c Ent.READING_REQUEST pt (.num v) h ∧ s.flag Ent.POINT_ENABLE pt = true ∧ s.keys.held = false) :=
  ⟨⟨({ rig with bill := { rig.bill with closedAt := some 100000000 } } : State), site, 1, _, accepts_of_passes _ _ _ _ _ _ (by decide +kernel), by decide +kernel⟩,
   ⟨{ rig with bill := { rig.bill with still := true } }, site, 1, _, accepts_of_passes _ _ _ _ _ _ (by decide +kernel), by decide +kernel⟩,
   ⟨({ rig with bill := { rig.bill with closedAt := some 99999999 } } : State), site, 1, _, accepts_of_passes _ _ _ _ _ _ (by decide +kernel), by decide +kernel⟩,
   ⟨{ (rig.setNat Ent.METER_TIME 0 800000000000) with tx := { rig.tx with step := 0 }, bill := { rig.bill with mtFrame := some 100000000, settled := 797000000000 } }, by decide +kernel⟩,
   ⟨{ (rig.setNat Ent.METER_TIME 0 800000000000) with tx := { rig.tx with step := 3 }, bill := { rig.bill with mtFrame := some 100000000 } }, by decide +kernel⟩,
   ⟨rig, site, 255, 5, 9, _, accepts_of_passes _ _ _ _ _ _ (by decide +kernel), by decide +kernel⟩,
   ⟨((rig.setNat Ent.ACCOUNT_ENABLE 255 1).setNat Ent.LAST_TOPUP_REF 255 9), site, 255, 5, 9, _, accepts_of_passes _ _ _ _ _ _ (by decide +kernel), by decide +kernel⟩,
   ⟨((rig.setNat Ent.ACCOUNT_ENABLE 255 1).setNat Ent.LAST_TOPUP_REF 255 9), site, 255, (-1000000000001), 10, _, accepts_of_passes _ _ _ _ _ _ (by decide +kernel), by decide +kernel⟩,
   ⟨((rig.setNat Ent.ACCOUNT_ENABLE 255 1).setNat Ent.LAST_TOPUP_REF 255 9), site, 255, (-1000000000000), 10, _, accepts_of_passes _ _ _ _ _ _ (by decide +kernel), by decide +kernel⟩,
   ⟨rig, site, 16, 1, _, accepts_of_passes _ _ _ _ _ _ (by decide +kernel), by decide +kernel⟩,
   ⟨({ (rig.setNat Ent.POINT_ENABLE 16 1) with keys := { rig.keys with held := false } } : State), site, 16, 1, _, accepts_of_passes _ _ _ _ _ _ (by decide +kernel), by decide +kernel⟩⟩

/-- States and operands that meet the hypotheses of PacketsCommandTheLoadChannels, clause by clause. -/
theorem witness_PacketsCommandTheLoadChannels :
    (∃ s : State, ∃ die : Fin 2, ∃ crc : Bool, ∃ word : Bool, ∃ clamps : List Clamp, let z := s.runWork; (crc = false ∨ z.isQuiet die.val = true)) ∧
    (∃ s : State, ∃ die : Fin 2, ∃ crc : Bool, ∃ word : Bool, ∃ clamps : List Clamp, let z := s.runWork; crc = true ∧ z.isQuiet die.val = false ∧ die.val ≠ z.pw.active ∧ z.nat Ent.STANDBY_PACKET_COUNT + 1 < 2 ^ Ent.STANDBY_PACKET_COUNT.type.bits) ∧
    (∃ s : State, ∃ die : Fin 2, ∃ crc : Bool, ∃ word : Bool, ∃ clamps : List Clamp, let z := s.runWork; crc = true ∧ z.isQuiet die.val = false ∧ die.val = z.pw.active ∧ word = false ∧ z.nat Ent.WATCHDOG_REJECTS + 1 < 2 ^ Ent.WATCHDOG_REJECTS.type.bits) ∧
    (∃ s : State, ∃ die : Fin 2, ∃ crc : Bool, ∃ word : Bool, ∃ clamps : List Clamp, let z := s.runWork; crc = true ∧ z.isQuiet die.val = false ∧ die.val = z.pw.active ∧ word = true ∧ z.halfA.failsafe = false ∧ z.halfB.failsafe = false) ∧
    (∃ s : State, ∃ clamps : List Clamp, s.pw.silent < 4) ∧
    (∃ s : State, ∃ clamps : List Clamp, 4 ≤ s.pw.silent ∧ s.pwOk 0 = true ∧ s.halfA.failsafe = false) ∧
    (∃ s : State, ∃ c : Client, ∃ ch : Nat, ∃ v : Nat, ∃ h : Held, s.accepts c Ent.LC_COMMAND ch (.num v) h ∧ ch < 40 ∧ s.lcOwner ch ≠ 0) ∧
    (∃ s : State, ∃ c : Client, ∃ ch : Nat, ∃ v : Nat, ∃ h : Held, s.accepts c Ent.LC_COMMAND ch (.num v) h ∧ ch < 40 ∧ s.lcOwner ch = 0) ∧
    (∃ s : State, ∃ c : Client, ∃ ch : Nat, ∃ v : Nat, ∃ h : Held, s.accepts c Ent.LC_DUTY ch (.num v) h ∧ ch < 40 ∧ s.lcOwner ch ≠ 0) ∧
    (∃ s : State, ∃ c : Client, ∃ ch : Nat, ∃ v : Nat, ∃ h : Held, s.accepts c Ent.LC_DUTY ch (.num v) h ∧ ch < 40 ∧ s.lcOwner ch = 0) ∧
    (∃ s : State, ∃ ch : Fin 40, (s.lcs ch).on = true ∧ (s.lcs ch).pullIn = true ∧ (s.lcs ch).onAt + msTicks (s.nat Ent.LC_PULL_IN_TIME ch) ≤ s.ticks) ∧
    (∃ s : State, ∃ ch : Fin 40, ∃ b : Nat, (s.lcs ch).wait = some b ∧ b ≤ s.ticks ∧ (s.lcs ch).thermal = false) ∧
    (∃ s : State, ∃ ch : Fin 40, ∃ b : Nat, (s.lcs ch).span = some b ∧ (s.lcs ch).on = true ∧ (s.lcs ch).limiting = false ∧ b + msTicks (s.nat Ent.LC_RETRY_CLEAR_TIME ch) ≤ s.ticks) :=
  ⟨⟨rig, 1, false, true, [], by decide +kernel⟩,
   ⟨rig, 1, true, true, [], by decide +kernel⟩,
   ⟨rig, 0, true, false, [], by decide +kernel⟩,
   ⟨rig, 0, true, true, ([⟨39, 5⟩]), by decide +kernel⟩,
   ⟨{ rig with pw := { rig.pw with silent := 3 } }, [], by decide +kernel⟩,
   ⟨{ rig with pw := { rig.pw with silent := 4 } }, ([⟨39, 5⟩]), by decide +kernel⟩,
   ⟨(rig.setNat Ent.CONTACTOR_CHANNEL 7 39), site, 39, 1, _, accepts_of_passes _ _ _ _ _ _ (by decide +kernel), by decide +kernel⟩,
   ⟨rig, site, 39, 1, _, accepts_of_passes _ _ _ _ _ _ (by decide +kernel), by decide +kernel⟩,
   ⟨(rig.setNat Ent.CONTACTOR_CHANNEL 7 39), site, 39, 0x3f000000, _, accepts_of_passes _ _ _ _ _ _ (by decide +kernel), by decide +kernel⟩,
   ⟨rig, site, 39, 0x3f000000, _, accepts_of_passes _ _ _ _ _ _ (by decide +kernel), by decide +kernel⟩,
   ⟨(rig.setLc 39 { LcSt.none with on := true, pullIn := true, onAt := 1000 }), 39, by decide +kernel⟩,
   ⟨(rig.setLc 39 { LcSt.none with wait := some 2000000000 }), 39, 2000000000, by decide +kernel⟩,
   ⟨(rig.setLc 39 { LcSt.none with span := some 1000, on := true }), 39, 1000, by decide +kernel⟩⟩

/-- States and operands that meet the hypotheses of LoadChannelsShutDownAndAreReset, clause by clause. -/
theorem witness_LoadChannelsShutDownAndAreReset :
    (∃ s : State, ∃ ch : Fin 40, (s.lcs ch).on = true ∧ (s.lcs ch).thermal = false ∧ (s.lcs ch).latchedOff = false ∧ s.nat Ent.LC_RETRIES_USED ch + 1 < 2 ^ Ent.LC_RETRIES_USED.type.bits ∧ s.nat Ent.LC_TRIP_COUNT ch + 1 < 2 ^ Ent.LC_TRIP_COUNT.type.bits ∧ ∃ peak : Nat, ∃ clamp : Nat, 20000 ≤ peak) ∧
    (∃ s : State, ∃ ch : Fin 40, (s.lcs ch).on = true ∧ (s.lcs ch).thermal = false ∧ (s.lcs ch).latchedOff = false ∧ s.nat Ent.LC_RETRIES_USED ch + 1 < 2 ^ Ent.LC_RETRIES_USED.type.bits ∧ s.nat Ent.LC_TRIP_COUNT ch + 1 < 2 ^ Ent.LC_TRIP_COUNT.type.bits ∧ ∃ peak : Nat, ∃ clamp : Nat, (s.lcs ch).limiting = true ∧ s.nat Ent.LC_LIMIT_TIME ch ≤ (s.ticks + 2 - (s.lcs ch).limAt) * 50) ∧
    (∃ s : State, ∃ ch : Fin 40, (s.lcs ch).on = true ∧ (s.lcs ch).thermal = false ∧ (s.lcs ch).latchedOff = false ∧ s.nat Ent.LC_RETRIES_USED ch + 1 < 2 ^ Ent.LC_RETRIES_USED.type.bits ∧ s.nat Ent.LC_TRIP_COUNT ch + 1 < 2 ^ Ent.LC_TRIP_COUNT.type.bits ∧ ∃ clamp : Nat, 1000 ≤ (s.lcs ch).hot) ∧
    (∃ s : State, ∃ ch : Fin 40, ∃ rise : Nat, ∃ temp : Int, ∃ clamp : Nat, (s.lcs ch).thermal = false ∧ (600 < rise ∨ 1700 ≤ temp) ∧ let sets := s.ticks :: (s.lcs ch).thermals.filter (fun b => decide (s.ticks < b + secTicks 600)); 5 ≤ sets.length) ∧
    (∃ s : State, ∃ ch : Fin 40, ∃ rise : Nat, ∃ temp : Int, (s.lcs ch).thermal = true ∧ rise ≤ 400 ∧ temp ≤ 1500) ∧
    (∃ s : State, ∃ ch : Fin 40, ∃ c : Client, ∃ v : Nat, ∃ h : Held, s.accepts c Ent.LC_RESET ch (.num v) h ∧ (s.lcs ch).thermal = true) ∧
    (∃ s : State, ∃ ch : Fin 40, ∃ c : Client, ∃ v : Nat, ∃ h : Held, s.accepts c Ent.LC_RESET ch (.num v) h ∧ (s.lcs ch).thermal = false ∧ s.bucketNow ch ≤ ((s.nat Ent.LC_CLAMP_BUDGET ch * 250 : Nat) : Rat) ∧ ((s.lcs ch).latchedOff = true ∨ (s.lcs ch).lockout = true ∨ s.nat Ent.LC_RETRIES_USED ch ≠ 0)) ∧
    (∃ s : State, ∃ ch : Fin 40, ∃ c : Client, ∃ v : Nat, ∃ h : Held, s.accepts c Ent.LC_RESET ch (.num v) h ∧ (s.lcs ch).thermal = false ∧ s.bucketNow ch ≤ ((s.nat Ent.LC_CLAMP_BUDGET ch * 250 : Nat) : Rat) ∧ (s.lcs ch).latchedOff = false ∧ (s.lcs ch).lockout = false ∧ s.nat Ent.LC_RETRIES_USED ch = 0) :=
  ⟨⟨(rig : State).setLc 39 { LcSt.none with on := true }, 39, by decide +kernel, by decide +kernel, by decide +kernel, by decide +kernel, by decide +kernel, 20000, 5, by decide +kernel⟩,
   ⟨(rig : State).setLc 39 { LcSt.none with on := true, limiting := true, limAt := 1999999000 }, 39, by decide +kernel, by decide +kernel, by decide +kernel, by decide +kernel, by decide +kernel, 20000, 5, by decide +kernel⟩,
   ⟨(rig : State).setLc 39 { LcSt.none with on := true, hot := 1000 }, 39, by decide +kernel, by decide +kernel, by decide +kernel, by decide +kernel, by decide +kernel, 5, by decide +kernel⟩,
   ⟨(rig : State).setLc 39 { LcSt.none with on := true, thermals := [1999000000, 1999000001, 1999000002, 1999000003] }, 39, 601, 1200, 5, by decide +kernel⟩,
   ⟨(rig : State).setLc 39 { LcSt.none with thermal := true }, 39, 400, 1500, by decide +kernel⟩,
   ⟨(rig.setLc 39 { LcSt.none with thermal := true }), 39, site, 1, _, accepts_of_passes _ _ _ _ _ _ (by decide +kernel), by decide +kernel⟩,
   ⟨(rig.setLc 39 { LcSt.none with latchedOff := true }), 39, site, 1, _, accepts_of_passes _ _ _ _ _ _ (by decide +kernel), by decide +kernel⟩,
   ⟨rig, 39, site, 1, _, accepts_of_passes _ _ _ _ _ _ (by decide +kernel), by decide +kernel⟩⟩

/-- States and operands that meet the hypotheses of LoadChannelsAreWatchedAndSupplied, clause by clause. -/
theorem witness_LoadChannelsAreWatchedAndSupplied :
    (∃ s : State, ∃ ch : Fin 40, s.openLoadDue ch = true ∧ (s.lcs ch).openLoad = false) ∧
    (∃ s : State, ∃ ch : Fin 40, s.openLoadDue ch = true ∧ (s.lcs ch).openLoad = true) ∧
    (∃ s : State, ∃ c : Client, ∃ ch : Nat, ∃ v : Nat, ∃ h : Held, s.accepts c Ent.LC_TEST ch (.num v) h ∧ (∀ r ∈ s.running, r.target ≠ Ent.LC_TEST.target ch) ∧ s.lcInService ch = false) ∧
    (∃ s : State, ∃ c : Client, ∃ ch : Nat, ∃ v : Nat, ∃ h : Held, s.accepts c Ent.LC_TEST ch (.num v) h ∧ (∀ r ∈ s.running, r.target ≠ Ent.LC_TEST.target ch) ∧ s.lcInService ch = true ∧ c.queue = false) ∧
    (∃ s : State, ∃ ch : Fin 40, ∃ x : LcCheck, ∃ r : RunTest, s.running.find? (fun y => y.target == Ent.LC_TEST.target ch) = some r ∧ r.since + msTicks 20 ≤ s.ticks ∧ r.slot = none) ∧
    (∃ s : State, ∃ half : Fin 2, 1000 ≤ (s.half half).heavy ∧ (s.half half).told = false) ∧
    (∃ s : State, ∃ half : Fin 2, ∃ mv : Int, mv < 8500 ∧ (s.half half).under = false) ∧
    (∃ s : State, ∃ half : Fin 2, ∃ mv : Int, 48000 < mv ∧ (s.half half).dump = false) ∧
    (∃ s : State, ∃ half : Fin 2, ∃ mv : Int, 38000 < mv ∧ mv ≤ 48000 ∧ (s.half half).surge = false) ∧
    (∃ s : State, ∃ half : Fin 2, ∃ mv : Int, mv < -500 ∧ (s.half half).reversed = false) ∧
    (∃ s : State, ∃ half : Fin 2, ∃ mv : Nat, 1000 < mv ∧ (s.half half).ground = false) ∧
    (∃ s : State, ∃ half : Fin 2, msTicks 10 ≤ (s.half half).okLow) ∧
    (∃ s : State, ∃ half : Fin 2, msTicks 10 ≤ (s.half half).okHigh) ∧
    (∃ s : State, ∃ half : Fin 2, msTicks 10 ≤ (s.half half).okGround) :=
  ⟨⟨(rig : State).setLc 39 { LcSt.none with on := true, openT := 100000 }, 39, by decide +kernel⟩,
   ⟨(rig : State).setLc 39 { LcSt.none with on := true, openLoad := true, openT := 100000 }, 39, by decide +kernel⟩,
   ⟨rig, site, 39, 1, _, accepts_of_passes _ _ _ _ _ _ (by decide +kernel), by decide +kernel, by decide +kernel⟩,
   ⟨(rig.setLc 39 { LcSt.none with on := true }), site, 39, 1, _, accepts_of_passes _ _ _ _ _ _ (by decide +kernel), by decide +kernel, by decide +kernel⟩,
   ⟨{ rig with running := [⟨Ent.LC_TEST.target 39, none, 1999999600⟩] }, 39, (⟨5, none, some 6, 0, 0⟩), (⟨Ent.LC_TEST.target 39, none, 1999999600⟩), by decide +kernel⟩,
   ⟨({ rig with halfB := { rig.halfB with heavy := 1000 } } : State), 1, by decide +kernel⟩,
   ⟨rig, 1, 8499, by decide +kernel⟩,
   ⟨rig, 1, 48001, by decide +kernel⟩,
   ⟨rig, 1, 48000, by decide +kernel⟩,
   ⟨rig, 1, (-501), by decide +kernel⟩,
   ⟨rig, 1, 1001, by decide +kernel⟩,
   ⟨{ rig with halfB := { rig.halfB with under := true, surge := true, dump := true, ground := true, reversed := true, okLow := 200 } }, 1, by decide +kernel⟩,
   ⟨{ rig with halfB := { rig.halfB with under := true, surge := true, dump := true, ground := true, reversed := true, okHigh := 200 } }, 1, by decide +kernel⟩,
   ⟨{ rig with halfB := { rig.halfB with under := true, surge := true, dump := true, ground := true, reversed := true, okGround := 200 } }, 1, by decide +kernel⟩⟩

/-- States and operands that meet the hypotheses of PowerlinePeriodsPollsAndAccesses, clause by clause. -/
theorem witness_PowerlinePeriodsPollsAndAccesses :
    (∃ s : State, ∃ offset : Nat, ∃ c1 : Nat, ∃ c2 : Nat, ∃ heard : Bool, s.flag Ent.EUSOR_ENABLE = false) ∧
    (∃ s : State, ∃ offset : Nat, ∃ c1 : Nat, ∃ c2 : Nat, ∃ heard : Bool, s.flag Ent.EUSOR_ENABLE = true ∧ s.eus.handover.isSome = true) ∧
    (∃ s : State, ∃ offset : Nat, ∃ c1 : Nat, ∃ c2 : Nat, ∃ heard : Bool, s.flag Ent.EUSOR_ENABLE = true ∧ s.eus.handover = none ∧ s.modemUp = true ∧ (s.keyOf 3).isSome = true) ∧
    (∃ s : State, ∃ measured : Nat, s.flag Ent.EUSOR_ENABLE = true ∧ s.mainsOk (1000 * measured) = false ∧ s.eus.lost = false) ∧
    (∃ s : State, ∃ measured : Nat, s.flag Ent.EUSOR_ENABLE = true ∧ s.mainsOk (1000 * measured) = false ∧ s.eus.lost = true) ∧
    (∃ s : State, ∃ e : Fin 128, ∃ data : List Byte, (s.node e).polled = false) ∧
    (∃ s : State, ∃ e : Fin 128, ∃ data : List Byte, (s.node e).polled = true ∧ s.nodeState e = Node.LOST) ∧
    (∃ s : State, ∃ e : Fin 128, ∃ dir : Fin 2, (s.node e).polled = false) ∧
    (∃ s : State, ∃ e : Fin 128, ∃ dir : Fin 2, (s.node e).polled = true ∧ s.nat Ent.POLL_FAILS e + 1 < 2 ^ Ent.POLL_FAILS.type.bits ∧ (s.node e).retries < 2 ∧ s.eus.reserve + 2 * s.hopsOf e ≤ 8) ∧
    (∃ s : State, ∃ e : Fin 128, ∃ dir : Fin 2, (s.node e).polled = true ∧ s.nat Ent.POLL_FAILS e + 1 < 2 ^ Ent.POLL_FAILS.type.bits ∧ 2 ≤ (s.node e).retries) ∧
    (∃ s : State, ∃ e : Fin 128, ∃ start : Nat, ∃ blocks : List (List Byte), Node.ADMITTING ≤ s.nodeState e ∧ s.eusorOn = true) ∧
    (∃ s : State, ∃ e : Fin 128, ∃ mask : Nat, s.airedFlow e = none) ∧
    (∃ s : State, ∃ e : Fin 128, ∃ mask : Nat, ∃ f : Flow, s.airedFlow e = some f ∧ let acked := (f.aired.zipIdx).filterMap (fun x => if bit mask x.2 then some x.1.1 else none); let again : List (Nat × Nat) := (f.blocks.filter (fun b => !acked.contains b.1)).map (fun b => if f.aired.any (fun a => a.1 == b.1) then (b.1, b.2 + 1) else b); again ≠ [] ∧ (∀ b ∈ again, b.2 ≤ 3)) ∧
    (∃ s : State, ∃ e : Fin 128, ∃ start : Nat, ∃ f : Flow, s.eusorOn = true ∧ s.airedFlow e = none ∧ s.eus.flows.find? (fun x => x.node == e.val) = some f ∧ 23000000 ≤ start ∧ let air := s.airPlan (s.node e).out (f.blocks.take 32) (start + frameHead) s.dataLimit; f.kind ≠ 1 ∧ f.kind ≠ 2 ∧ air ≠ []) ∧
    (∃ s : State, ∃ e : Fin 128, ∃ start : Nat, ∃ f : Flow, s.eusorOn = true ∧ s.airedFlow e = none ∧ s.eus.flows.find? (fun x => x.node == e.val) = some f ∧ 23000000 ≤ start ∧ let air := s.airPlan (s.node e).out (f.blocks.take 32) (start + frameHead) s.dataLimit; (f.kind = 1 ∨ f.kind = 2)) ∧
    (∃ s : State, ∃ cause : Fin 3, s.flag Ent.EUSOR_ENABLE = true ∧ (if s.eus.modem = 0 then s.die.lkB else s.die.lkA) = true ∧ s.eus.handover = none ∧ (cause.val = 0 → s.modemUp = false) ∧ (cause.val = 1 → 2 ≤ s.eus.deaf)) :=
  ⟨⟨rig, 5, 1, 2, true, by decide +kernel⟩,
   ⟨({ (((rig.setNat Ent.EUSOR_ENABLE 0 1).setNat Ent.NODE_ENABLE 127 1).setNat Ent.NODE_UID 127 0x123456789A) with keys := { rig.keys with slots := [(3, ⟨3, 1, some ⟨List.replicate 16 1#8, false, []⟩, none, 1, 0, 0, none⟩), (4, ⟨4, 1, some ⟨List.replicate 16 2#8, false, []⟩, none, 1, 0, 0, none⟩)] }, eus := { rig.eus with handover := some 1 } } : State), 5, 1, 2, true, by decide +kernel⟩,
   ⟨eusor127, 5, 1, 2, true, by decide +kernel⟩,
   ⟨eusor127, 39999999, by decide +kernel⟩,
   ⟨({ eusor127 with eus := { eusor127.eus with lost := true, crossings := 9 } } : State), 39999999, by decide +kernel⟩,
   ⟨({ ((((rig.setNat Ent.EUSOR_ENABLE 0 1).setNat Ent.NODE_ENABLE 127 1).setNat Ent.NODE_UID 127 0x123456789A).setNat Ent.NODE_STATE 127 Node.ONLINE) with keys := { rig.keys with slots := [(3, ⟨3, 1, some ⟨List.replicate 16 1#8, false, []⟩, none, 1, 0, 0, none⟩), (4, ⟨4, 1, some ⟨List.replicate 16 2#8, false, []⟩, none, 1, 0, 0, none⟩)] } } : State), 127, ([5#8, 1#8]), by decide +kernel⟩,
   ⟨({ ((((rig.setNat Ent.EUSOR_ENABLE 0 1).setNat Ent.NODE_ENABLE 127 1).setNat Ent.NODE_UID 127 0x123456789A).setNat Ent.NODE_STATE 127 Node.LOST) with keys := { rig.keys with slots := [(3, ⟨3, 1, some ⟨List.replicate 16 1#8, false, []⟩, none, 1, 0, 0, none⟩), (4, ⟨4, 1, some ⟨List.replicate 16 2#8, false, []⟩, none, 1, 0, 0, none⟩)] } } : State).setNode 127 { NodeSt.none with polled := true, runs := 3 }, 127, ([5#8, 1#8]), by decide +kernel⟩,
   ⟨({ ((((rig.setNat Ent.EUSOR_ENABLE 0 1).setNat Ent.NODE_ENABLE 127 1).setNat Ent.NODE_UID 127 0x123456789A).setNat Ent.NODE_STATE 127 Node.ONLINE) with keys := { rig.keys with slots := [(3, ⟨3, 1, some ⟨List.replicate 16 1#8, false, []⟩, none, 1, 0, 0, none⟩), (4, ⟨4, 1, some ⟨List.replicate 16 2#8, false, []⟩, none, 1, 0, 0, none⟩)] } } : State), 127, 1, by decide +kernel⟩,
   ⟨({ ((((rig.setNat Ent.EUSOR_ENABLE 0 1).setNat Ent.NODE_ENABLE 127 1).setNat Ent.NODE_UID 127 0x123456789A).setNat Ent.NODE_STATE 127 Node.ONLINE) with keys := { rig.keys with slots := [(3, ⟨3, 1, some ⟨List.replicate 16 1#8, false, []⟩, none, 1, 0, 0, none⟩), (4, ⟨4, 1, some ⟨List.replicate 16 2#8, false, []⟩, none, 1, 0, 0, none⟩)] } } : State).setNode 127 { NodeSt.none with polled := true }, 127, 0, by decide +kernel⟩,
   ⟨({ ((((rig.setNat Ent.EUSOR_ENABLE 0 1).setNat Ent.NODE_ENABLE 127 1).setNat Ent.NODE_UID 127 0x123456789A).setNat Ent.NODE_STATE 127 Node.ONLINE) with keys := { rig.keys with slots := [(3, ⟨3, 1, some ⟨List.replicate 16 1#8, false, []⟩, none, 1, 0, 0, none⟩), (4, ⟨4, 1, some ⟨List.replicate 16 2#8, false, []⟩, none, 1, 0, 0, none⟩)] } } : State).setNode 127 { NodeSt.none with polled := true, retries := 2 }, 127, 1, by decide +kernel⟩,
   ⟨({ ((((rig.setNat Ent.EUSOR_ENABLE 0 1).setNat Ent.NODE_ENABLE 127 1).setNat Ent.NODE_UID 127 0x123456789A).setNat Ent.NODE_STATE 127 Node.ADMITTING) with keys := { rig.keys with slots := [(3, ⟨3, 1, some ⟨List.replicate 16 1#8, false, []⟩, none, 1, 0, 0, none⟩), (4, ⟨4, 1, some ⟨List.replicate 16 2#8, false, []⟩, none, 1, 0, 0, none⟩)] } } : State), 127, 1000, ([List.replicate 516 0#8 ++ leBytes 4 (crc32 (List.replicate 516 0#8)), [1#8]]), by decide +kernel⟩,
   ⟨eusor127, 127, 5, by decide +kernel⟩,
   ⟨({ ((eusor127.setNat Ent.NODE_STATE 127 Node.ONLINE).setNode 127 { NodeSt.none with due := 0 }) with eus := { (((eusor127.setNat Ent.NODE_STATE 127 Node.ONLINE).setNode 127 { NodeSt.none with due := 0 })).eus with flows := [⟨127, 4, [1#8], [(0, 3), (1, 2)], [(0, 1), (1, 1)], 32, none⟩] } } : State), 127, 1, (⟨127, 4, [1#8], [(0, 3), (1, 2)], [(0, 1), (1, 1)], 32, none⟩), by decide +kernel, by decide +kernel, by decide +kernel⟩,
   ⟨{ ({ ((((rig.setNat Ent.EUSOR_ENABLE 0 1).setNat Ent.NODE_ENABLE 127 1).setNat Ent.NODE_UID 127 0x123456789A).setNat Ent.NODE_STATE 127 Node.ONLINE) with keys := { rig.keys with slots := [(3, ⟨3, 1, some ⟨List.replicate 16 1#8, false, []⟩, none, 1, 0, 0, none⟩), (4, ⟨4, 1, some ⟨List.replicate 16 2#8, false, []⟩, none, 1, 0, 0, none⟩)] } } : State).setNode 127 { NodeSt.none with out := ⟨[24], [(0, { SegSt.none with map := some ⟨0, List.replicate 553 0x77#8, false⟩ })], none⟩ } with eus := { (({ ((((rig.setNat Ent.EUSOR_ENABLE 0 1).setNat Ent.NODE_ENABLE 127 1).setNat Ent.NODE_UID 127 0x123456789A).setNat Ent.NODE_STATE 127 Node.ONLINE) with keys := { rig.keys with slots := [(3, ⟨3, 1, some ⟨List.replicate 16 1#8, false, []⟩, none, 1, 0, 0, none⟩), (4, ⟨4, 1, some ⟨List.replicate 16 2#8, false, []⟩, none, 1, 0, 0, none⟩)] } } : State).setNode 127 { NodeSt.none with out := ⟨[24], [(0, { SegSt.none with map := some ⟨0, List.replicate 553 0x77#8, false⟩ })], none⟩ }).eus with flows := [⟨127, 4, [1#8], [(0, 0)], [], 32, none⟩] } }, 127, 23000000, (⟨127, 4, [1#8], [(0, 0)], [], 32, none⟩), by decide +kernel⟩,
   ⟨{ ({ ((((rig.setNat Ent.EUSOR_ENABLE 0 1).setNat Ent.NODE_ENABLE 127 1).setNat Ent.NODE_UID 127 0x123456789A).setNat Ent.NODE_STATE 127 Node.ONLINE) with keys := { rig.keys with slots := [(3, ⟨3, 1, some ⟨List.replicate 16 1#8, false, []⟩, none, 1, 0, 0, none⟩), (4, ⟨4, 1, some ⟨List.replicate 16 2#8, false, []⟩, none, 1, 0, 0, none⟩)] } } : State).setNode 127 { NodeSt.none with out := ⟨[24], [(0, { SegSt.none with map := some ⟨0, List.replicate 553 0x77#8, false⟩ })], none⟩ } with eus := { (({ ((((rig.setNat Ent.EUSOR_ENABLE 0 1).setNat Ent.NODE_ENABLE 127 1).setNat Ent.NODE_UID 127 0x123456789A).setNat Ent.NODE_STATE 127 Node.ONLINE) with keys := { rig.keys with slots := [(3, ⟨3, 1, some ⟨List.replicate 16 1#8, false, []⟩, none, 1, 0, 0, none⟩), (4, ⟨4, 1, some ⟨List.replicate 16 2#8, false, []⟩, none, 1, 0, 0, none⟩)] } } : State).setNode 127 { NodeSt.none with out := ⟨[24], [(0, { SegSt.none with map := some ⟨0, List.replicate 553 0x77#8, false⟩ })], none⟩ }).eus with flows := [⟨127, 1, [1#8], [], [], 32, none⟩] } }, 127, 23000000, (⟨127, 1, [1#8], [], [], 32, none⟩), by decide +kernel⟩,
   ⟨eusor127, 2, by decide +kernel⟩⟩

/-- States and operands that meet the hypotheses of PowerlineNodesJoinAndAskForLoads, clause by clause. -/
theorem witness_PowerlineNodesJoinAndAskForLoads :
    (∃ s : State, ∃ j : NodeJoin, s.eusorOn = true ∧ s.keyOf 4 = none) ∧
    (∃ s : State, ∃ j : NodeJoin, s.eusorOn = true ∧ ∃ k : _, s.keyOf 4 = some k ∧ Config.joinTag (nodeKey k (low 48 j.uid)) (low 48 j.uid) j.lineToLine j.version j.zc (s.nat Ent.EUSOR_NETWORK_ID) (low 16 s.eus.count) = j.tag ∧ j.version ≠ 1) ∧
    (∃ s : State, ∃ j : NodeJoin, s.eusorOn = true ∧ ∃ k : _, s.keyOf 4 = some k ∧ Config.joinTag (nodeKey k (low 48 j.uid)) (low 48 j.uid) j.lineToLine j.version j.zc (s.nat Ent.EUSOR_NETWORK_ID) (low 16 s.eus.count) = j.tag ∧ j.version = 1 ∧ (∀ x, x < 128 → s.flag Ent.NODE_ENABLE x = true → s.nat Ent.NODE_UID x ≠ low 48 j.uid)) ∧
    (∃ s : State, ∃ j : NodeJoin, s.eusorOn = true ∧ ∃ k : _, s.keyOf 4 = some k ∧ Config.joinTag (nodeKey k (low 48 j.uid)) (low 48 j.uid) j.lineToLine j.version j.zc (s.nat Ent.EUSOR_NETWORK_ID) (low 16 s.eus.count) = j.tag ∧ ∃ e : _, j.version = 1 ∧ 128 ≤ j.via ∧ (List.range 128).find? (fun x => s.flag Ent.NODE_ENABLE x && s.nat Ent.NODE_UID x == low 48 j.uid) = some e) ∧
    (∃ s : State, ∃ e : Fin 128, ∃ m : ToneMap, Node.ADMITTING ≤ s.nodeState e ∧ s.eusorOn = true) ∧
    (∃ s : State, ∃ e : Fin 128, ∃ dir : Fin 2, ∃ seg : Fin 6, let dirs (z : State) : LinkMap := if dir.val = 1 then (z.node e).back else (z.node e).out; ((dirs s).seg seg).map.isSome = true ∧ ((dirs s).seg seg).at_ + secTicks (s.nat Ent.TM_MAX_AGE) < s.ticks ∧ ((dirs s).seg seg).stale = none) ∧
    (∃ s : State, ∃ e : Fin 128, ∃ ends : List Nat, ∃ snr : List (List Int), Node.ADMITTING ≤ s.nodeState e ∧ s.eusorOn = true) ∧
    (∃ s : State, (s.flag Ent.EUSOR_ENABLE = false ∨ s.eus.count < s.eus.routedAt + s.nat Ent.ROUTE_PERIOD)) ∧
    (∃ s : State, s.flag Ent.EUSOR_ENABLE = true ∧ s.eus.routedAt + s.nat Ent.ROUTE_PERIOD ≤ s.eus.count) ∧
    (∃ s : State, ∃ e : Fin 128, ∃ watts : Nat, s.nodeState e = Node.ONLINE ∧ let others := s.eus.loads.filter (fun l => l.node != e.val); let granted : EusorSt := { s.eus with loads := others, queue := s.eus.queue ++ [(e.val, s.frames, 0x05, leBytes 4 (low 32 watts))] }; ({ s with eus := { s.eus with loads := others } }.loadFits e (low 32 watts) = true)) ∧
    (∃ s : State, ∃ e : Fin 128, ∃ watts : Nat, s.nodeState e = Node.ONLINE ∧ let others := s.eus.loads.filter (fun l => l.node != e.val); let granted : EusorSt := { s.eus with loads := others, queue := s.eus.queue ++ [(e.val, s.frames, 0x05, leBytes 4 (low 32 watts))] }; ({ s with eus := { s.eus with loads := others } }.loadFits e (low 32 watts) = false)) ∧
    (∃ s : State, ∃ e : Fin 128, ∃ l : LoadAsk, s.eus.loads.find? (fun x => x.node == e.val) = some l ∧ l.at_ + secTicks (s.nat Ent.AUX_DEFER_MAX) ≤ s.ticks) ∧
    (∃ s : State, ∃ b : Nat, s.eus.heavySince = some b ∧ s.eus.heavyTold = false ∧ b + secTicks 60 ≤ s.ticks) :=
  ⟨⟨{ (((rig.setNat Ent.EUSOR_ENABLE 0 1).setNat Ent.NODE_ENABLE 127 1).setNat Ent.NODE_UID 127 0x123456789A) with keys := { rig.keys with slots := [(3, ⟨3, 1, some ⟨List.replicate 16 1#8, false, []⟩, none, 1, 0, 0, none⟩)] } }, (⟨0x123456789A, false, 1, 5, [], 255, 9⟩), by decide +kernel⟩,
   ⟨eusor127, (⟨0x123456789A, false, 2, 5, (Config.joinTag (nodeKey (List.replicate 16 2#8) (low 48 0x123456789A)) (low 48 0x123456789A) false 2 5 (eusor127.nat Ent.EUSOR_NETWORK_ID) (low 16 eusor127.eus.count)), 255, 9⟩), by decide +kernel, ((List.replicate 16 2#8)), by decide +kernel, rfl, by decide +kernel⟩,
   ⟨eusor127, (⟨0x77, false, 1, 5, (Config.joinTag (nodeKey (List.replicate 16 2#8) (low 48 0x77)) (low 48 0x77) false 1 5 (eusor127.nat Ent.EUSOR_NETWORK_ID) (low 16 eusor127.eus.count)), 255, 9⟩), by decide +kernel, ((List.replicate 16 2#8)), by decide +kernel, rfl, by decide +kernel, by decide +kernel⟩,
   ⟨eusor127, (⟨0x123456789A, false, 1, 5, (Config.joinTag (nodeKey (List.replicate 16 2#8) (low 48 0x123456789A)) (low 48 0x123456789A) false 1 5 (eusor127.nat Ent.EUSOR_NETWORK_ID) (low 16 eusor127.eus.count)), 255, 9⟩), by decide +kernel, ((List.replicate 16 2#8)), by decide +kernel, rfl, 127, by decide +kernel⟩,
   ⟨((eusor127.setNat Ent.NODE_STATE 127 Node.ADMITTING).setNode 127 { NodeSt.none with due := 0 }), 127, (⟨[12, 24], [⟨0, [0x11#8], true⟩]⟩), by decide +kernel⟩,
   ⟨({ ((((rig.setNat Ent.EUSOR_ENABLE 0 1).setNat Ent.NODE_ENABLE 127 1).setNat Ent.NODE_UID 127 0x123456789A).setNat Ent.NODE_STATE 127 Node.ONLINE) with keys := { rig.keys with slots := [(3, ⟨3, 1, some ⟨List.replicate 16 1#8, false, []⟩, none, 1, 0, 0, none⟩), (4, ⟨4, 1, some ⟨List.replicate 16 2#8, false, []⟩, none, 1, 0, 0, none⟩)] } } : State).setNode 127 { NodeSt.none with out := ⟨[24], [(0, { SegSt.none with map := some ⟨0, [10#8], false⟩, at_ := 1000 })], none⟩ }, 127, 0, 0, by decide +kernel⟩,
   ⟨((eusor127.setNat Ent.NODE_STATE 127 Node.ONLINE).setNode 127 { NodeSt.none with due := 0 }), 127, ([12, 24]), ([[10, 20], [5]]), by decide +kernel⟩,
   ⟨rig, by decide +kernel⟩,
   ⟨({ ((((rig.setNat Ent.EUSOR_ENABLE 0 1).setNat Ent.NODE_ENABLE 127 1).setNat Ent.NODE_UID 127 0x123456789A).setNat Ent.NODE_STATE 127 Node.ONLINE) with keys := { rig.keys with slots := [(3, ⟨3, 1, some ⟨List.replicate 16 1#8, false, []⟩, none, 1, 0, 0, none⟩), (4, ⟨4, 1, some ⟨List.replicate 16 2#8, false, []⟩, none, 1, 0, 0, none⟩)] }, eus := { rig.eus with count := 1000 } } : State).setNode 127 { NodeSt.none with asked := true }, by decide +kernel⟩,
   ⟨({ (((((rig.setNat Ent.EUSOR_ENABLE 0 1).setNat Ent.NODE_ENABLE 127 1).setNat Ent.NODE_UID 127 0x123456789A).setNat Ent.NODE_STATE 127 Node.ONLINE).setNat Ent.NODE_STATUS 127 1) with keys := { rig.keys with slots := [(3, ⟨3, 1, some ⟨List.replicate 16 1#8, false, []⟩, none, 1, 0, 0, none⟩), (4, ⟨4, 1, some ⟨List.replicate 16 2#8, false, []⟩, none, 1, 0, 0, none⟩)] } } : State), 127, 500, by decide +kernel⟩,
   ⟨({ (((((rig.setNat Ent.EUSOR_ENABLE 0 1).setNat Ent.NODE_ENABLE 127 1).setNat Ent.NODE_UID 127 0x123456789A).setNat Ent.NODE_STATE 127 Node.ONLINE).setNat Ent.NODE_STATUS 127 1) with keys := { rig.keys with slots := [(3, ⟨3, 1, some ⟨List.replicate 16 1#8, false, []⟩, none, 1, 0, 0, none⟩), (4, ⟨4, 1, some ⟨List.replicate 16 2#8, false, []⟩, none, 1, 0, 0, none⟩)] } } : State), 127, 100000, by decide +kernel⟩,
   ⟨({ ((eusor127.setNat Ent.NODE_STATE 127 Node.ONLINE).setNode 127 { NodeSt.none with due := 0 }) with eus := { (((eusor127.setNat Ent.NODE_STATE 127 Node.ONLINE).setNode 127 { NodeSt.none with due := 0 })).eus with loads := [⟨127, 5000, 1000⟩] } } : State), 127, (⟨127, 5000, 1000⟩), by decide +kernel⟩,
   ⟨({ eusor127 with eus := { eusor127.eus with heavySince := some 1998800000 } } : State), 1998800000, by decide +kernel⟩⟩

/-- States and operands that meet the hypotheses of KeySlotsAndTamper, clause by clause. -/
theorem witness_KeySlotsAndTamper :
    (∃ s : State, ∃ c : Client, ∃ k : Nat, ∃ msg : List Byte, ∃ h : Held, s.accepts c Ent.KEY_UPDATE k (.bytes msg) h ∧ k < 64 ∧ let st := s.keyStatus k msg; st ≠ St.OK) ∧
    (∃ s : State, ∃ c : Client, ∃ k : Nat, ∃ msg : List Byte, ∃ h : Held, s.accepts c Ent.KEY_UPDATE k (.bytes msg) h ∧ k < 64 ∧ let st := s.keyStatus k msg; st = St.OK ∧ kuErase msg = true) ∧
    (((sha256 (Config.certKey [9#8])).take 8 = List.replicate 8 0#8 ∧ Config.verifies (Config.certKey [9#8]) (keyMsg.take 224) (keyMsg.drop 224) = true) → ∃ s : State, ∃ c : Client, ∃ k : Nat, ∃ msg : List Byte, ∃ h : Held, s.accepts c Ent.KEY_UPDATE k (.bytes msg) h ∧ k < 64 ∧ let st := s.keyStatus k msg; st = St.OK ∧ kuErase msg = false ∧ s.nat Ent.KEY_WRITE_MODE = 0) ∧
    (∃ s : State, ∃ c : Client, ∃ k : Nat, ∃ msg : List Byte, ∃ h : Held, s.accepts c Ent.KEY_UPDATE k (.bytes msg) h ∧ k < 64 ∧ let st := s.keyStatus k msg; st = St.OK ∧ kuErase msg = false ∧ s.nat Ent.KEY_WRITE_MODE ≠ 0) ∧
    (∃ s : State, ∃ c : Client, ∃ k : Nat, ∃ v : List Byte, ∃ h : Held, s.accepts c Ent.KEY_CHALLENGE k (.bytes v) h ∧ k < 64) ∧
    (∃ s : State, ∃ c : Client, ∃ k : Nat, ∃ v : Nat, ∃ h : Held, s.accepts c Ent.KEY_CONFIRM k (.num v) h ∧ k < 64 ∧ (s.slot k).pending = none) ∧
    (∃ s : State, ∃ c : Client, ∃ k : Nat, ∃ v : Nat, ∃ h : Held, s.accepts c Ent.KEY_CONFIRM k (.num v) h ∧ k < 64 ∧ ∃ m : KeyMat, (s.slot k).pending = some m ∧ (s.bytes Ent.KEY_RESPONSE k = [] ∨ (((s.slot k).usage = 1 ∨ (s.slot k).usage = 2) ∧ m.cert = []))) ∧
    (∃ s : State, ∃ c : Client, ∃ k : Nat, ∃ v : Nat, ∃ h : Held, s.accepts c Ent.KEY_CONFIRM k (.num v) h ∧ k < 64 ∧ ∃ m : KeyMat, (s.slot k).pending = some m ∧ s.bytes Ent.KEY_RESPONSE k ≠ [] ∧ (((s.slot k).usage ≠ 1 ∧ (s.slot k).usage ≠ 2) ∨ m.cert ≠ []) ∧ v ≠ leAt (sha256 (s.bytes Ent.KEY_RESPONSE k)) 0 8) ∧
    (∃ s : State, ∃ c : Client, ∃ k : Nat, ∃ v : Nat, ∃ h : Held, s.accepts c Ent.KEY_CONFIRM k (.num v) h ∧ k < 64 ∧ ∃ m : KeyMat, (s.slot k).pending = some m ∧ s.bytes Ent.KEY_RESPONSE k ≠ [] ∧ (((s.slot k).usage ≠ 1 ∧ (s.slot k).usage ≠ 2) ∨ m.cert ≠ []) ∧ v = leAt (sha256 (s.bytes Ent.KEY_RESPONSE k)) 0 8) ∧
    (Config.publicOf 2 [5#8] = Config.certKey [48#8, 9#8] → ∃ s : State, ∃ c : Client, ∃ k : Nat, ∃ v : List Byte, ∃ h : Held, s.accepts c Ent.SLOT_CERT k (.bytes v) h ∧ k < 64 ∧ let fits (x : Option KeyMat) : Bool := (x.map (fun m => (s.slot k).alg != 1 && publicKey (s.slot k).alg m == Config.certKey v)).getD false; fits (s.slot k).active = true) ∧
    (Config.publicOf 2 [5#8] = Config.certKey [48#8, 9#8] → ∃ s : State, ∃ c : Client, ∃ k : Nat, ∃ v : List Byte, ∃ h : Held, s.accepts c Ent.SLOT_CERT k (.bytes v) h ∧ k < 64 ∧ let fits (x : Option KeyMat) : Bool := (x.map (fun m => (s.slot k).alg != 1 && publicKey (s.slot k).alg m == Config.certKey v)).getD false; fits (s.slot k).active = false ∧ fits (s.slot k).pending = true) ∧
    (∃ s : State, ∃ c : Client, ∃ k : Nat, ∃ v : List Byte, ∃ h : Held, s.accepts c Ent.SLOT_CERT k (.bytes v) h ∧ k < 64 ∧ let fits (x : Option KeyMat) : Bool := (x.map (fun m => (s.slot k).alg != 1 && publicKey (s.slot k).alg m == Config.certKey v)).getD false; fits (s.slot k).active = false ∧ fits (s.slot k).pending = false) ∧
    (∃ s : State, ∃ k : Fin 64, (s.slot k).pending.isSome = true ∧ (s.slot k).pendingAt + secTicks (s.nat Ent.KEY_PENDING_TIMEOUT) ≤ s.ticks) ∧
    (∃ s : State, ∃ cause : Fin 7, ∃ run : Nat, ∃ k : KyIn, let cfg := if cause.val < 4 then s.nat Ent.TAMPER_CONFIG 0 cause else s.nat Ent.TAMPER_ENV_ACTION; let w := s.watchKy k; s.tampered cause run k = false) ∧
    (∃ s : State, ∃ cause : Fin 7, ∃ run : Nat, ∃ k : KyIn, let cfg := if cause.val < 4 then s.nat Ent.TAMPER_CONFIG 0 cause else s.nat Ent.TAMPER_ENV_ACTION; let w := s.watchKy k; s.tampered cause run k = true ∧ cfg = 0) ∧
    (∃ s : State, ∃ cause : Fin 7, ∃ run : Nat, ∃ k : KyIn, let cfg := if cause.val < 4 then s.nat Ent.TAMPER_CONFIG 0 cause else s.nat Ent.TAMPER_ENV_ACTION; let w := s.watchKy k; s.tampered cause run k = true ∧ cfg = 3 ∧ s.devState ≠ Dev.OFF ∧ s.devState ≠ Dev.SHIP) ∧
    (∃ s : State, ∃ cause : Fin 7, ∃ run : Nat, ∃ k : KyIn, let cfg := if cause.val < 4 then s.nat Ent.TAMPER_CONFIG 0 cause else s.nat Ent.TAMPER_ENV_ACTION; let w := s.watchKy k; s.tampered cause run k = true ∧ (cfg = 1 ∨ cfg = 2) ∧ cfg = 2) ∧
    (∃ s : State, ∃ cause : Fin 7, ∃ run : Nat, ∃ k : KyIn, let cfg := if cause.val < 4 then s.nat Ent.TAMPER_CONFIG 0 cause else s.nat Ent.TAMPER_ENV_ACTION; let w := s.watchKy k; s.tampered cause run k = true ∧ (cfg = 1 ∨ cfg = 2) ∧ cfg = 1 ∧ s.keys.epoch < 63) ∧
    (∃ s : State, ∃ i : Nat, s.fw.wrapping = some i ∧ s.keys.held = true) ∧
    (∃ s : State, ∃ b : Nat, s.keys.lostAt = some b ∧ (s.keys.burnt = true ∨ s.devState = Dev.OFF ∨ s.devState = Dev.SHIP ∨ s.inRecovery = true)) ∧
    (∃ s : State, ∃ b : Nat, s.keys.lostAt = some b ∧ s.keys.burnt = false ∧ s.devState ≠ Dev.OFF ∧ s.devState ≠ Dev.SHIP ∧ s.inRecovery = false) :=
  ⟨⟨rig, site, 63, (([1#8, 62#8, 5#8, 1#8, 1#8] ++ List.replicate 315 0#8)), _, accepts_of_passes _ _ _ _ _ _ (by decide +kernel), by decide +kernel⟩,
   ⟨(rig.setNat Ent.KEY_WRITE_MODE 0 1), site, 63, (([1#8, 63#8, 4#8, 1#8, 2#8] ++ List.replicate 315 0#8)), _, accepts_of_passes _ _ _ _ _ _ (by decide +kernel), by decide +kernel⟩,
   fun a => ⟨keyRig, site, 63, keyMsg, _, accepts_of_passes _ _ _ _ _ _ (by decide +kernel), by decide +kernel, keyStatus_ok a.1 a.2, by decide +kernel⟩,
   ⟨(rig.setNat Ent.KEY_WRITE_MODE 0 1), site, 63, (([1#8, 63#8, 4#8, 1#8, 1#8] ++ List.replicate 315 0#8)), _, accepts_of_passes _ _ _ _ _ _ (by decide +kernel), by decide +kernel⟩,
   ⟨eusor127, site, 63, ((List.replicate 32 7#8)), _, accepts_of_passes _ _ _ _ _ _ (by decide +kernel), by decide +kernel⟩,
   ⟨eusor127, site, 63, 5, _, accepts_of_passes _ _ _ _ _ _ (by decide +kernel), by decide +kernel⟩,
   ⟨{ rig with keys := { rig.keys with slots := [(63, ⟨4, 2, none, some ⟨[5#8], false, []⟩, 1, 0, 1000, some [1#8]⟩)] } }, site, 63, 0, _, accepts_of_passes _ _ _ _ _ _ (by decide +kernel), by decide +kernel, (⟨[5#8], false, []⟩), by decide +kernel⟩,
   ⟨({ (rig.setBytes Ent.KEY_RESPONSE 63 [9#8]) with keys := { rig.keys with slots := [(63, ⟨4, 1, none, some ⟨[5#8], false, []⟩, 1, 0, 1000, some [1#8]⟩)] } } : State), site, 63, 0, _, accepts_of_passes _ _ _ _ _ _ (by decide +kernel), by decide +kernel, (⟨[5#8], false, []⟩), by decide +kernel⟩,
   ⟨({ (rig.setBytes Ent.KEY_RESPONSE 63 [9#8]) with keys := { rig.keys with slots := [(63, ⟨4, 1, none, some ⟨[5#8], false, []⟩, 1, 0, 1000, some [1#8]⟩)] } } : State), site, 63, ((leAt (sha256 [9#8]) 0 8)), _, accepts_of_passes _ _ _ _ _ _ (by decide +kernel), by decide +kernel, (⟨[5#8], false, []⟩), by decide +kernel⟩,
   fun a => ⟨{ rig with keys := { rig.keys with slots := [(63, ⟨4, 2, some ⟨[5#8], false, []⟩, none, 1, 0, 1000, some [1#8]⟩)] } }, site, 63, ([48#8, 9#8]), _, accepts_of_passes _ _ _ _ _ _ (by decide +kernel), by decide +kernel, by simp [show ({ rig with keys := { rig.keys with slots := [(63, ⟨4, 2, some ⟨[5#8], false, []⟩, none, 1, 0, 1000, some [1#8]⟩)] } } : State).slot 63 = ⟨4, 2, some ⟨[5#8], false, []⟩, none, 1, 0, 1000, some [1#8]⟩ by decide +kernel, publicKey, a]⟩,
   fun a => ⟨{ rig with keys := { rig.keys with slots := [(63, ⟨4, 2, none, some ⟨[5#8], false, []⟩, 1, 0, 1000, some [1#8]⟩)] } }, site, 63, ([48#8, 9#8]), _, accepts_of_passes _ _ _ _ _ _ (by decide +kernel), by decide +kernel, by decide +kernel, by simp [show ({ rig with keys := { rig.keys with slots := [(63, ⟨4, 2, none, some ⟨[5#8], false, []⟩, 1, 0, 1000, some [1#8]⟩)] } } : State).slot 63 = ⟨4, 2, none, some ⟨[5#8], false, []⟩, 1, 0, 1000, some [1#8]⟩ by decide +kernel, publicKey, a]⟩,
   ⟨{ rig with keys := { rig.keys with slots := [(63, ⟨4, 2, none, none, 1, 0, 1000, some [1#8]⟩)] } }, site, 63, ([48#8, 9#8]), _, accepts_of_passes _ _ _ _ _ _ (by decide +kernel), by decide +kernel⟩,
   ⟨({ (rig.setBytes Ent.KEY_RESPONSE 63 [9#8]) with keys := { rig.keys with slots := [(63, ⟨4, 1, none, some ⟨[5#8], false, []⟩, 1, 0, 1000, some [1#8]⟩)] } } : State), 63, by decide +kernel⟩,
   ⟨rig, 1, 2, (⟨0, 3000, 250, false⟩), by decide +kernel⟩,
   ⟨(rig.setNat Ent.TAMPER_CONFIG 0 0 1), 1, 2, (⟨2, 3000, 250, false⟩), by decide +kernel⟩,
   ⟨(rig.setNat Ent.TAMPER_CONFIG 0 3 1), 1, 2, (⟨2, 3000, 250, false⟩), by decide +kernel⟩,
   ⟨(rig.setNat Ent.TAMPER_CONFIG 0 2 1), 1, 2, (⟨2, 3000, 250, false⟩), by decide +kernel⟩,
   ⟨(rig.setNat Ent.TAMPER_CONFIG 0 1 1), 1, 2, (⟨2, 3000, 250, false⟩), by decide +kernel⟩,
   ⟨({ rig with fw := { rig.fw with wrapping := some 1 } } : State), 1, by decide +kernel⟩,
   ⟨{ rig with keys := { rig.keys with held := false, burnt := true, lostAt := some 1000 } }, 1000, by decide +kernel⟩,
   ⟨{ rig with keys := { rig.keys with held := false, lostAt := some 1000 } }, 1000, by decide +kernel⟩⟩

/-- States and operands that meet the hypotheses of ImagesAreReceivedAndPrepared, clause by clause. -/
theorem witness_ImagesAreReceivedAndPrepared :
    (∃ s : State, ∃ c : Client, ∃ i : Nat, ∃ v : List Byte, ∃ h : Held, s.accepts c Ent.SLOT_MANIFEST i (.bytes v) h ∧ i < 4 ∧ let st := s.manifestStatus i v; st ≠ St.OK) ∧
    (((sha256 (Config.imageKey 1)).take 8 = List.replicate 8 0#8 ∧ Config.verifies (Config.imageKey 1) (mainManifest.take 288) (mainManifest.drop 288) = true) → ∃ s : State, ∃ c : Client, ∃ i : Nat, ∃ v : List Byte, ∃ h : Held, s.accepts c Ent.SLOT_MANIFEST i (.bytes v) h ∧ i < 4 ∧ let st := s.manifestStatus i v; st = St.OK) ∧
    (∃ s : State, ∃ c : Client, ∃ i : Nat, ∃ v : List Byte, ∃ h : Held, s.accepts c Ent.SLOT_BLOCK i (.bytes v) h ∧ i < 4 ∧ let k := leAt v 0 2; let m := s.manifest i; s.nat Ent.SLOT_STATE i ≠ Img.RECEIVING) ∧
    (∃ s : State, ∃ c : Client, ∃ i : Nat, ∃ v : List Byte, ∃ h : Held, s.accepts c Ent.SLOT_BLOCK i (.bytes v) h ∧ i < 4 ∧ let k := leAt v 0 2; let m := s.manifest i; s.nat Ent.SLOT_STATE i = Img.RECEIVING ∧ (v.length < 2 ∨ mfBlocks m ≤ k ∨ (v.drop 2).length ≠ mfBlockLen m k)) ∧
    (∃ s : State, ∃ c : Client, ∃ i : Nat, ∃ v : List Byte, ∃ h : Held, s.accepts c Ent.SLOT_BLOCK i (.bytes v) h ∧ i < 4 ∧ let k := leAt v 0 2; let m := s.manifest i; s.nat Ent.SLOT_STATE i = Img.RECEIVING ∧ 2 ≤ v.length ∧ k < mfBlocks m ∧ (v.drop 2).length = mfBlockLen m k ∧ sha256 (v.drop 2) ≠ mfBlockHash m k) ∧
    (∃ s : State, ∃ c : Client, ∃ i : Nat, ∃ v : List Byte, ∃ h : Held, s.accepts c Ent.SLOT_BLOCK i (.bytes v) h ∧ i < 4 ∧ let k := leAt v 0 2; let m := s.manifest i; s.nat Ent.SLOT_STATE i = Img.RECEIVING ∧ 2 ≤ v.length ∧ k < mfBlocks m ∧ (v.drop 2).length = mfBlockLen m k ∧ sha256 (v.drop 2) = mfBlockHash m k ∧ (Tab.find (s.fslot i).blocks k).isSome = true) ∧
    (∃ s : State, ∃ c : Client, ∃ i : Nat, ∃ v : List Byte, ∃ h : Held, s.accepts c Ent.SLOT_BLOCK i (.bytes v) h ∧ i < 4 ∧ let k := leAt v 0 2; let m := s.manifest i; s.nat Ent.SLOT_STATE i = Img.RECEIVING ∧ 2 ≤ v.length ∧ k < mfBlocks m ∧ (v.drop 2).length = mfBlockLen m k ∧ sha256 (v.drop 2) = mfBlockHash m k ∧ Tab.find (s.fslot i).blocks k = none ∧ let bs := Tab.set (s.fslot i).blocks k (v.drop 2); let image := (List.range (mfBlocks m)).flatMap (fun j => (Tab.find bs j).getD []); bs.length ≠ mfBlocks m) ∧
    (∃ s : State, ∃ c : Client, ∃ i : Nat, ∃ v : List Byte, ∃ h : Held, s.accepts c Ent.SLOT_BLOCK i (.bytes v) h ∧ i < 4 ∧ let k := leAt v 0 2; let m := s.manifest i; s.nat Ent.SLOT_STATE i = Img.RECEIVING ∧ 2 ≤ v.length ∧ k < mfBlocks m ∧ (v.drop 2).length = mfBlockLen m k ∧ sha256 (v.drop 2) = mfBlockHash m k ∧ Tab.find (s.fslot i).blocks k = none ∧ let bs := Tab.set (s.fslot i).blocks k (v.drop 2); let image := (List.range (mfBlocks m)).flatMap (fun j => (Tab.find bs j).getD []); bs.length = mfBlocks m ∧ sha384 image = (m.drop 32).take 48) ∧
    (∃ s : State, ∃ c : Client, ∃ i : Nat, ∃ v : List Byte, ∃ h : Held, s.accepts c Ent.SLOT_BLOCK i (.bytes v) h ∧ i < 4 ∧ let k := leAt v 0 2; let m := s.manifest i; s.nat Ent.SLOT_STATE i = Img.RECEIVING ∧ 2 ≤ v.length ∧ k < mfBlocks m ∧ (v.drop 2).length = mfBlockLen m k ∧ sha256 (v.drop 2) = mfBlockHash m k ∧ Tab.find (s.fslot i).blocks k = none ∧ let bs := Tab.set (s.fslot i).blocks k (v.drop 2); let image := (List.range (mfBlocks m)).flatMap (fun j => (Tab.find bs j).getD []); bs.length = mfBlocks m ∧ sha384 image ≠ (m.drop 32).take 48) ∧
    (∃ s : State, ∃ c : Client, ∃ i : Nat, ∃ v : Nat, ∃ h : Held, s.accepts c Ent.SLOT_ERASE i (.num v) h ∧ i < 4 ∧ s.nat Ent.SLOT_STATE i = Img.EMPTY) ∧
    (∃ s : State, ∃ c : Client, ∃ i : Nat, ∃ v : Nat, ∃ h : Held, s.accepts c Ent.SLOT_ERASE i (.num v) h ∧ i < 4 ∧ (s.nat Ent.SLOT_STATE i = Img.RECEIVING ∨ s.nat Ent.SLOT_STATE i = Img.VERIFIED)) ∧
    (∃ s : State, ∃ c : Client, ∃ i : Nat, ∃ v : Nat, ∃ h : Held, s.accepts c Ent.SLOT_ERASE i (.num v) h ∧ i < 4 ∧ Img.RUNNING ≤ s.nat Ent.SLOT_STATE i) ∧
    (∃ s : State, ∃ i : Fin 1024, s.aType i = ActType.FW_ACTIVATE ∧ i.val ∈ s.armed ∧ s.aSfn i ≤ s.sfn + (if s.aGroup i = 0 then s.nat Ent.PREPARE_LEAD else s.nat Ent.ACTION_ANNOUNCE_LEAD i) ∧ s.sfn < s.aSfn i ∧ (i.val, s.aSfn i) ∉ s.fw.started ∧ let p : Prep := ⟨s.actSlot i, i, s.frames, false, false, false, false⟩; s.actSlot i < 2 ∧ s.nat Ent.SLOT_STATE (s.actSlot i) = Img.VERIFIED ∧ s.die.mirrorSync = true ∧ s.fw.main = none) ∧
    (∃ s : State, ∃ i : Fin 1024, s.aType i = ActType.FW_ACTIVATE ∧ i.val ∈ s.armed ∧ s.aSfn i ≤ s.sfn + (if s.aGroup i = 0 then s.nat Ent.PREPARE_LEAD else s.nat Ent.ACTION_ANNOUNCE_LEAD i) ∧ s.sfn < s.aSfn i ∧ (i.val, s.aSfn i) ∉ s.fw.started ∧ let p : Prep := ⟨s.actSlot i, i, s.frames, false, false, false, false⟩; 2 ≤ s.actSlot i ∧ s.actSlot i < 4 ∧ s.nat Ent.SLOT_STATE (s.actSlot i) = Img.VERIFIED ∧ s.fw.legal = none ∧ s.fw.stagger = none) ∧
    (∃ s : State, ∃ i : Fin 1024, s.aType i = ActType.FW_ACTIVATE ∧ i.val ∈ s.armed ∧ s.aSfn i ≤ s.sfn + (if s.aGroup i = 0 then s.nat Ent.PREPARE_LEAD else s.nat Ent.ACTION_ANNOUNCE_LEAD i) ∧ s.sfn < s.aSfn i ∧ (i.val, s.aSfn i) ∉ s.fw.started ∧ let p : Prep := ⟨s.actSlot i, i, s.frames, false, false, false, false⟩; s.actSlot i < 4 ∧ s.nat Ent.SLOT_STATE (s.actSlot i) ≠ Img.VERIFIED) ∧
    (∃ s : State, ∃ p : Prep, s.fw.main = some p ∧ ∃ r : Resync, s.die.resync = some r ∧ 3 ≤ r.phase ∧ p.done = false ∧ s.frames ≤ p.since + 3000) ∧
    (∃ s : State, ∃ p : Prep, s.fw.main = some p ∧ ∃ step : Fin 4, ∃ status : Nat, s.fw.trial = none ∧ (step.val = 1 ∨ step.val = 2)) ∧
    (∃ s : State, ∃ p : Prep, s.fw.legal = some p ∧ ∃ die : Fin 2, ∃ digest : List Byte, measureOf [digest] = s.bytes Ent.SLOT_MEASUREMENT p.slot ∧ die.val = 0) ∧
    (∃ s : State, ∃ p : Prep, s.fw.legal = some p ∧ ∃ die : Fin 2, ∃ digest : List Byte, measureOf [digest] = s.bytes Ent.SLOT_MEASUREMENT p.slot ∧ die.val = 1) ∧
    (∃ s : State, ∃ p : Prep, s.fw.legal = some p ∧ ∃ die : Fin 2, ∃ digest : List Byte, measureOf [digest] ≠ s.bytes Ent.SLOT_MEASUREMENT p.slot) :=
  ⟨⟨rig, port, 3, ((List.replicate 512 0#8)), _, accepts_of_passes _ _ _ _ _ _ (by decide +kernel), by decide +kernel⟩,
   fun a => ⟨rig, port, 1, mainManifest, _, accepts_of_passes _ _ _ _ _ _ (by decide +kernel), by decide +kernel, manifestStatus_ok a.1 a.2⟩,
   ⟨rig, port, 1, ([0#8, 0#8, 5#8]), _, accepts_of_passes _ _ _ _ _ _ (by decide +kernel), by decide +kernel⟩,
   ⟨(rig.setNat Ent.SLOT_STATE 1 Img.RECEIVING).setFslot 1 ⟨(List.replicate 8 0#8 ++ leBytes 4 32771 ++ leBytes 2 2 ++ List.replicate 242 0#8 ++ List.replicate 32 0#8 ++ sha256 [1#8, 2#8, 3#8]), []⟩, port, 1, ([1#8, 0#8, 5#8]), _, accepts_of_passes _ _ _ _ _ _ (by decide +kernel), by decide +kernel⟩,
   ⟨((rig.setNat Ent.SLOT_STATE 1 Img.RECEIVING).setFslot 1 ⟨(List.replicate 8 0#8 ++ leBytes 4 32771 ++ leBytes 2 2 ++ List.replicate 242 0#8 ++ List.replicate 32 0#8 ++ sha256 [1#8, 2#8, 3#8]), []⟩), port, 1, ([1#8, 0#8, 1#8, 2#8, 4#8]), _, accepts_of_passes _ _ _ _ _ _ (by decide +kernel), by decide +kernel⟩,
   ⟨(rig.setNat Ent.SLOT_STATE 1 Img.RECEIVING).setFslot 1 ⟨(List.replicate 8 0#8 ++ leBytes 4 32771 ++ leBytes 2 2 ++ List.replicate 242 0#8 ++ List.replicate 32 0#8 ++ sha256 [1#8, 2#8, 3#8]), [(1, [1#8, 2#8, 3#8])]⟩, port, 1, ([1#8, 0#8, 1#8, 2#8, 3#8]), _, accepts_of_passes _ _ _ _ _ _ (by decide +kernel), by decide +kernel⟩,
   ⟨(rig.setNat Ent.SLOT_STATE 1 Img.RECEIVING).setFslot 1 ⟨(List.replicate 8 0#8 ++ leBytes 4 32771 ++ leBytes 2 2 ++ List.replicate 242 0#8 ++ List.replicate 32 0#8 ++ sha256 [1#8, 2#8, 3#8]), []⟩, port, 1, ([1#8, 0#8, 1#8, 2#8, 3#8]), _, accepts_of_passes _ _ _ _ _ _ (by decide +kernel), by decide +kernel⟩,
   ⟨(rig.setNat Ent.SLOT_STATE 1 Img.RECEIVING).setFslot 1 ⟨(List.replicate 8 0#8 ++ leBytes 4 3 ++ leBytes 2 1 ++ List.replicate 18 0#8 ++ sha384 [1#8, 2#8, 3#8] ++ List.replicate 176 0#8 ++ sha256 [1#8, 2#8, 3#8]), []⟩, port, 1, ([0#8, 0#8, 1#8, 2#8, 3#8]), _, accepts_of_passes _ _ _ _ _ _ (by decide +kernel), by decide +kernel⟩,
   ⟨(rig.setNat Ent.SLOT_STATE 1 Img.RECEIVING).setFslot 1 ⟨(List.replicate 8 0#8 ++ leBytes 4 3 ++ leBytes 2 1 ++ List.replicate 18 0#8 ++ List.replicate 48 0#8 ++ List.replicate 176 0#8 ++ sha256 [1#8, 2#8, 3#8]), []⟩, port, 1, ([0#8, 0#8, 1#8, 2#8, 3#8]), _, accepts_of_passes _ _ _ _ _ _ (by decide +kernel), by decide +kernel⟩,
   ⟨rig, port, 3, 1, _, accepts_of_passes _ _ _ _ _ _ (by decide +kernel), by decide +kernel⟩,
   ⟨((rig.setNat Ent.SLOT_STATE 1 Img.RECEIVING).setFslot 1 ⟨(List.replicate 8 0#8 ++ leBytes 4 32771 ++ leBytes 2 2 ++ List.replicate 242 0#8 ++ List.replicate 32 0#8 ++ sha256 [1#8, 2#8, 3#8]), []⟩), port, 1, 1, _, accepts_of_passes _ _ _ _ _ _ (by decide +kernel), by decide +kernel⟩,
   ⟨(rig.setNat Ent.SLOT_STATE 1 Img.RUNNING), port, 1, 1, _, accepts_of_passes _ _ _ _ _ _ (by decide +kernel), by decide +kernel⟩,
   ⟨(((((rig.setNat Ent.ACTION_STATE 1023 Act.ARMED).setNat Ent.ACTION_TYPE 1023 ActType.FW_ACTIVATE).setNat Ent.ACTION_SFN 1023 800000005000).setBytes Ent.ACTION_VALUE 1023 [1#8]).setNat Ent.SLOT_STATE 1 Img.VERIFIED), 1023, by decide +kernel⟩,
   ⟨((((rig.setNat Ent.ACTION_STATE 1023 Act.ARMED).setNat Ent.ACTION_TYPE 1023 ActType.FW_ACTIVATE).setNat Ent.ACTION_SFN 1023 800000005000).setBytes Ent.ACTION_VALUE 1023 [3#8]).setNat Ent.SLOT_STATE 3 Img.VERIFIED, 1023, by decide +kernel⟩,
   ⟨((((rig.setNat Ent.ACTION_STATE 1023 Act.ARMED).setNat Ent.ACTION_TYPE 1023 ActType.FW_ACTIVATE).setNat Ent.ACTION_SFN 1023 800000005000).setBytes Ent.ACTION_VALUE 1023 [1#8]), 1023, by decide +kernel⟩,
   ⟨{ rig with fw := { rig.fw with main := some ⟨1, 1023, 99997000, false, false, false, false⟩ }, die := { rig.die with resync := some ⟨1, 3, 1999990000, 1999990000, 1⟩ } }, (⟨1, 1023, 99997000, false, false, false, false⟩), by decide +kernel, (⟨1, 3, 1999990000, 1999990000, 1⟩), by decide +kernel⟩,
   ⟨{ rig with fw := { rig.fw with main := some ⟨1, 1023, 99997000, false, false, false, false⟩ } }, (⟨1, 1023, 99997000, false, false, false, false⟩), by decide +kernel, 1, 5, by decide +kernel⟩,
   ⟨({ rig with fw := { rig.fw with legal := some ⟨3, 1023, 99997000, false, false, false, false⟩ } } : State).setBytes Ent.SLOT_MEASUREMENT 3 (measureOf [[7#8, 8#8]]), (⟨3, 1023, 99997000, false, false, false, false⟩), by decide +kernel, 0, ([7#8, 8#8]), by decide +kernel⟩,
   ⟨({ rig with fw := { rig.fw with legal := some ⟨3, 1023, 99997000, false, false, false, false⟩ } } : State).setBytes Ent.SLOT_MEASUREMENT 3 (measureOf [[7#8, 8#8]]), (⟨3, 1023, 99997000, false, false, false, false⟩), by decide +kernel, 1, ([7#8, 8#8]), by decide +kernel⟩,
   ⟨({ rig with fw := { rig.fw with legal := some ⟨3, 1023, 99997000, false, false, false, false⟩ } } : State).setBytes Ent.SLOT_MEASUREMENT 3 ([1#8]), (⟨3, 1023, 99997000, false, false, false, false⟩), by decide +kernel, 1, ([7#8, 8#8]), by decide +kernel⟩⟩

/-- States and operands that meet the hypotheses of TrialsEndAndImagesRun, clause by clause. -/
theorem witness_TrialsEndAndImagesRun :
    (∃ s : State, ∃ c : Client, ∃ v : Nat, ∃ h : Held, s.accepts c Ent.FW_CONFIRM 0 (.num v) h ∧ s.fw.trial = none) ∧
    (∃ s : State, ∃ c : Client, ∃ v : Nat, ∃ h : Held, s.accepts c Ent.FW_CONFIRM 0 (.num v) h ∧ ∃ x : Trial, s.fw.trial = some x ∧ x.back.isSome = true) ∧
    (∃ s : State, ∃ c : Client, ∃ v : Nat, ∃ h : Held, s.accepts c Ent.FW_CONFIRM 0 (.num v) h ∧ ∃ x : Trial, s.fw.trial = some x ∧ x.back = none ∧ x.slot < 2 ∧ x.old < 2 ∧ x.slot ≠ x.old) ∧
    (∃ s : State, ∃ c : Client, ∃ v : Nat, ∃ h : Held, s.accepts c Ent.FW_FALLBACK 0 (.num v) h ∧ s.fw.trial = none) ∧
    (∃ s : State, ∃ c : Client, ∃ v : Nat, ∃ h : Held, s.accepts c Ent.FW_FALLBACK 0 (.num v) h ∧ ∃ x : Trial, s.fw.trial = some x ∧ x.back.isSome = true) ∧
    (∃ s : State, ∃ c : Client, ∃ v : Nat, ∃ h : Held, s.accepts c Ent.FW_FALLBACK 0 (.num v) h ∧ ∃ x : Trial, s.fw.trial = some x ∧ x.back = none ∧ s.die.mirrorSync = false) ∧
    (∃ s : State, ∃ c : Client, ∃ v : Nat, ∃ h : Held, s.accepts c Ent.FW_FALLBACK 0 (.num v) h ∧ ∃ x : Trial, s.fw.trial = some x ∧ x.back = none ∧ s.die.mirrorSync = true) ∧
    (∃ s : State, ∃ x : Trial, s.fw.trial = some x ∧ x.back = none ∧ x.left = 0 ∧ s.nat Ent.TRIAL_POLICY ≠ 1) ∧
    (∃ s : State, ∃ x : Trial, s.fw.trial = some x ∧ x.back = none ∧ x.left = 0 ∧ s.nat Ent.TRIAL_POLICY = 1 ∧ x.slot ≠ x.old) ∧
    (∃ s : State, ∃ c : Client, ∃ v : Nat, ∃ h : Held, s.accepts c Ent.RECOVERY_BOOT 0 (.num v) h ∧ v < 2 ∧ (s.inRecovery = false ∨ s.nat Ent.SLOT_STATE v ≠ Img.VERIFIED)) ∧
    (∃ s : State, ∃ c : Client, ∃ v : Nat, ∃ h : Held, s.accepts c Ent.RECOVERY_BOOT 0 (.num v) h ∧ v < 2 ∧ s.inRecovery = true ∧ s.nat Ent.SLOT_STATE v = Img.VERIFIED) ∧
    (∃ s : State, ∃ g : Stagger, s.fw.stagger = some g ∧ s.cycle = 0 ∧ g.till ≤ s.sfn ∧ g.slot < 4 ∧ g.old < 4 ∧ g.slot ≠ g.old) :=
  ⟨⟨({ rig with fw := { rig.fw with ended := some 100000000 } } : State), site, 1, _, accepts_of_passes _ _ _ _ _ _ (by decide +kernel), by decide +kernel⟩,
   ⟨{ rig with fw := { rig.fw with trial := some ⟨1, 0, 1023, 0, 5, 1000, some 100000000⟩ } }, site, 1, _, accepts_of_passes _ _ _ _ _ _ (by decide +kernel), (⟨1, 0, 1023, 0, 5, 1000, some 100000000⟩), by decide +kernel⟩,
   ⟨({ rig with fw := { rig.fw with trial := some ⟨1, 0, 1023, 0, 5, 1000, none⟩ } } : State), site, 1, _, accepts_of_passes _ _ _ _ _ _ (by decide +kernel), (⟨1, 0, 1023, 0, 5, 1000, none⟩), by decide +kernel⟩,
   ⟨({ rig with fw := { rig.fw with ended := some 100000000 } } : State), site, 1, _, accepts_of_passes _ _ _ _ _ _ (by decide +kernel), by decide +kernel⟩,
   ⟨{ rig with fw := { rig.fw with trial := some ⟨1, 0, 1023, 0, 5, 1000, some 100000000⟩ } }, site, 1, _, accepts_of_passes _ _ _ _ _ _ (by decide +kernel), (⟨1, 0, 1023, 0, 5, 1000, some 100000000⟩), by decide +kernel⟩,
   ⟨({ ({ rig with fw := { rig.fw with trial := some ⟨1, 0, 1023, 0, 5, 1000, none⟩ } } : State) with die := { rig.die with mirrorSync := false, cb := .off } } : State), site, 1, _, accepts_of_passes _ _ _ _ _ _ (by decide +kernel), (⟨1, 0, 1023, 0, 5, 1000, none⟩), by decide +kernel⟩,
   ⟨({ rig with fw := { rig.fw with trial := some ⟨1, 0, 1023, 0, 5, 1000, none⟩ } } : State), site, 1, _, accepts_of_passes _ _ _ _ _ _ (by decide +kernel), (⟨1, 0, 1023, 0, 5, 1000, none⟩), by decide +kernel⟩,
   ⟨({ rig with fw := { rig.fw with trial := some ⟨1, 0, 1023, 0, 0, 1000, none⟩ } } : State), (⟨1, 0, 1023, 0, 0, 1000, none⟩), by decide +kernel⟩,
   ⟨(({ rig with fw := { rig.fw with trial := some ⟨1, 0, 1023, 0, 0, 1000, none⟩ } } : State).setNat Ent.TRIAL_POLICY 0 1), (⟨1, 0, 1023, 0, 0, 1000, none⟩), by decide +kernel⟩,
   ⟨rig, port, 1, _, accepts_of_passes _ _ _ _ _ _ (by decide +kernel), by decide +kernel⟩,
   ⟨((rig.setNat Ent.DEVICE_STATE 0 Dev.RECOVERY).setNat Ent.SLOT_STATE 1 Img.VERIFIED), port, 1, _, accepts_of_passes _ _ _ _ _ _ (by decide +kernel), by decide +kernel⟩,
   ⟨({ rig with fw := { rig.fw with stagger := some ⟨3, 2, 1023, 100000000⟩ } } : State), (⟨3, 2, 1023, 100000000⟩), by decide +kernel⟩⟩

/-- States and operands that meet the hypotheses of StreamsFlowAndServiceAnswers, clause by clause. -/
theorem witness_StreamsFlowAndServiceAnswers :
    (∃ s : State, s.die.lkB = true ∧ s.portState ≠ Port.OFF ∧ ∃ msg : List Byte, strmMessage msg = none ∧ s.nat Ent.IN_ERRORS + 1 < 2 ^ Ent.IN_ERRORS.type.bits) ∧
    (∃ s : State, s.die.lkB = true ∧ s.portState ≠ Port.OFF ∧ ∃ msg : List Byte, ∃ freed : Nat, strmMessage msg = some (1, freed)) ∧
    (∃ s : State, s.die.lkB = true ∧ s.portState ≠ Port.OFF ∧ ∃ msg : List Byte, ∃ freed : Nat, strmMessage msg = some (2, freed) ∧ s.linkUp = true ∧ (freed + 2 ^ 32 - s.stream.freed % 2 ^ 32) % 2 ^ 32 ≤ s.stream.inFlight) ∧
    (∃ s : State, s.die.lkB = true ∧ s.portState ≠ Port.OFF ∧ ∃ msg : List Byte, ∃ freed : Nat, strmMessage msg = some (2, freed) ∧ s.linkUp = true ∧ s.stream.inFlight < (freed + 2 ^ 32 - s.stream.freed % 2 ^ 32) % 2 ^ 32 ∧ s.nat Ent.IN_ERRORS + 1 < 2 ^ Ent.IN_ERRORS.type.bits) ∧
    (∃ s : State, ∃ c : Client, ∃ v : Nat, ∃ h : Held, s.accepts c Ent.STREAM_MASK 0 (.num v) h) ∧
    (∃ s : State, s.linkUp = true ∧ s.stream.heard + msTicks 1 ≤ s.ticks) ∧
    (∃ s : State, ∃ b : Nat, s.stream.dry = some b ∧ s.portState = Port.UP ∧ b + msTicks 10 ≤ s.ticks) ∧
    (∃ s : State, ∃ k : Nat, ∃ r : List Byte, ∃ rest : List (List Byte), s.portState = Port.UP ∧ s.die.lkB = true ∧ s.credits ≠ 0 ∧ s.stream.busy < 50000 ∧ s.nextStream = some k ∧ (s.strm k).recs = r :: rest) ∧
    (∃ s : State, ∃ v : Fin 3, s.nat Ent.SERVICE_LINK = v) ∧
    (∃ s : State, ∃ v : Fin 3, s.nat Ent.SERVICE_LINK ≠ v) ∧
    (∃ s : State, s.die.lkA = true ∧ (s.flag Ent.SERVICE_PORT_ENABLE = true ∨ s.inRecovery = true)) ∧
    (∃ s : State, ∃ c : Client, ∃ v : Nat, ∃ h : Held, s.accepts c Ent.RECOVERY_ENTER 0 (.num v) h ∧ s.atRest = false) ∧
    (∃ s : State, ∃ c : Client, ∃ v : Nat, ∃ h : Held, s.accepts c Ent.RECOVERY_ENTER 0 (.num v) h ∧ s.atRest = true) :=
  ⟨⟨{ (rig.setNat Ent.PORT_STATE 0 Port.WAITING) with stream := { rig.stream with sent := 100, freed := 90 } }, by decide +kernel, by decide +kernel, ((List.replicate 12 0#8)), by decide +kernel⟩,
   ⟨{ (rig.setNat Ent.PORT_STATE 0 Port.WAITING) with stream := { rig.stream with sent := 100, freed := 90 } }, by decide +kernel, by decide +kernel, (([1#8, 0#8, 0#8, 0#8] ++ leBytes 4 5 ++ leBytes 4 (crc32 ([1#8, 0#8, 0#8, 0#8] ++ leBytes 4 5)))), 5, by decide +kernel⟩,
   ⟨{ (rig.setNat Ent.PORT_STATE 0 Port.UP) with stream := { rig.stream with sent := 100, freed := 90 } }, by decide +kernel, by decide +kernel, (([2#8, 0#8, 0#8, 0#8] ++ leBytes 4 100 ++ leBytes 4 (crc32 ([2#8, 0#8, 0#8, 0#8] ++ leBytes 4 100)))), 100, by decide +kernel⟩,
   ⟨{ (rig.setNat Ent.PORT_STATE 0 Port.UP) with stream := { rig.stream with sent := 100, freed := 90 } }, by decide +kernel, by decide +kernel, (([2#8, 0#8, 0#8, 0#8] ++ leBytes 4 101 ++ leBytes 4 (crc32 ([2#8, 0#8, 0#8, 0#8] ++ leBytes 4 101)))), 101, by decide +kernel⟩,
   ⟨rig, site, 127, _, accepts_of_passes _ _ _ _ _ _ (by decide +kernel)⟩,
   ⟨({ (rig.setNat Ent.PORT_STATE 0 Port.UP) with stream := { rig.stream with sent := 100, freed := 90, heard := 1999999980 } } : State), by decide +kernel⟩,
   ⟨({ (rig.setNat Ent.PORT_STATE 0 Port.UP) with stream := { rig.stream with sent := 100, freed := 90, dry := some 1999999800 } } : State), 1999999800, by decide +kernel⟩,
   ⟨({ (rig.setNat Ent.PORT_STATE 0 Port.UP) with stream := { rig.stream with sent := 153, freed := 90, qs := [(2, ⟨[[1#8, 2#8]], 0, 5, true, false, some 1999999980, 0, none, 0⟩)] } } : State), 2, ([1#8, 2#8]), [], by decide +kernel⟩,
   ⟨rig, 0, by decide +kernel⟩,
   ⟨rig, 2, by decide +kernel⟩,
   ⟨rig, by decide +kernel⟩,
   ⟨(string7.setLc 30 { LcSt.none with on := true }), port, 1, _, accepts_of_passes _ _ _ _ _ _ (by decide +kernel), by decide +kernel⟩,
   ⟨rig, port, 1, _, accepts_of_passes _ _ _ _ _ _ (by decide +kernel), by decide +kernel⟩⟩

/-- States and operands that meet the hypotheses of SuppliesResetsAndClocks, clause by clause. -/
theorem witness_SuppliesResetsAndClocks :
    (∃ s : State, ∃ dom : Fin 15, ∃ mv : Nat, inSupplyWindow dom mv = true) ∧
    (∃ s : State, ∃ dom : Fin 15, ∃ mv : Nat, inSupplyWindow dom mv = false ∧ s.inWin dom = false ∧ dom.val < 14) ∧
    (∃ s : State, ∃ dom : Fin 15, ∃ mv : Nat, inSupplyWindow dom mv = false ∧ s.inWin dom = true ∧ s.devState ≠ Dev.OFF ∧ s.devState ≠ Dev.SHIP ∧ (s.plant.sideA = true ∨ s.plant.sideB = true) ∧ dom.val < 4 ∧ s.allLost = false ∧ ({ s with plant := { s.plant with inWindow := setBit s.plant.inWindow dom false } }.allLost = true)) ∧
    (∃ s : State, ∃ dom : Fin 15, ∃ mv : Nat, inSupplyWindow dom mv = false ∧ s.inWin dom = true ∧ s.devState ≠ Dev.OFF ∧ s.devState ≠ Dev.SHIP ∧ (s.plant.sideA = true ∨ s.plant.sideB = true) ∧ (dom.val / 2 = 2 ∨ dom.val / 2 = 4)) ∧
    (∃ s : State, ∃ dom : Fin 15, ∃ mv : Nat, inSupplyWindow dom mv = false ∧ s.inWin dom = true ∧ s.devState ≠ Dev.OFF ∧ s.devState ≠ Dev.SHIP ∧ (s.plant.sideA = true ∨ s.plant.sideB = true) ∧ dom.val / 2 = 3 ∧ s.meterRunning (dom.val % 2) = true) ∧
    (∃ s : State, ∃ dom : Fin 15, ∃ mv : Nat, inSupplyWindow dom mv = false ∧ s.inWin dom = true ∧ s.devState ≠ Dev.OFF ∧ s.devState ≠ Dev.SHIP ∧ (s.plant.sideA = true ∨ s.plant.sideB = true) ∧ 10 ≤ dom.val ∧ dom.val < 14) ∧
    (∃ s : State, ∃ dom : Fin 15, ∃ mv : Nat, inSupplyWindow dom mv = false ∧ s.inWin dom = true ∧ s.devState ≠ Dev.OFF ∧ s.devState ≠ Dev.SHIP ∧ (s.plant.sideA = true ∨ s.plant.sideB = true) ∧ dom.val = 14 ∧ mv < 2300) ∧
    (∃ s : State, ∃ dom : Fin 15, ∃ mv : Nat, inSupplyWindow dom mv = false ∧ s.inWin dom = true ∧ s.devState ≠ Dev.OFF ∧ s.devState ≠ Dev.SHIP ∧ (s.plant.sideA = true ∨ s.plant.sideB = true) ∧ dom.val = 14 ∧ 2300 ≤ mv) ∧
    (∃ s : State, ∃ dom : Fin 15, ∃ mv : Nat, ∃ ms : Nat, (s.inWin dom = true ∨ inSupplyWindow dom mv = false ∨ ms < 10)) ∧
    (∃ s : State, ∃ dom : Fin 15, ∃ mv : Nat, ∃ ms : Nat, s.inWin dom = false ∧ inSupplyWindow dom mv = true ∧ 10 ≤ ms ∧ (s.plant.sideA = true ∨ s.plant.sideB = true)) ∧
    (∃ s : State, ∃ sideB : Bool, s.sideUp (b2n sideB) = false ∧ s.plant.supplyEn = true ∧ s.inWin vbkpBit = true ∧ (sideDomains (b2n sideB)).all s.inWin = true ∧ s.devState = Dev.OFF) ∧
    (∃ s : State, s.devState ≠ Dev.OFF ∧ s.devState ≠ Dev.SHIP) ∧
    (∃ s : State, ∃ c : Client, ∃ v : Nat, ∃ h : Held, s.accepts c Ent.RECOVERY_EXIT 0 (.num v) h ∧ s.inRecovery = false) ∧
    (∃ s : State, ∃ c : Client, ∃ v : Nat, ∃ h : Held, s.accepts c Ent.RECOVERY_EXIT 0 (.num v) h ∧ s.inRecovery = true ∧ s.keys.burnt = false) ∧
    (∃ s : State, ∃ c : Client, ∃ v : Nat, ∃ h : Held, s.accepts c Ent.TEST_ENTER 0 (.num v) h ∧ s.devState ≠ Dev.RECOVERY) ∧
    (∃ s : State, ∃ c : Client, ∃ v : Nat, ∃ h : Held, s.accepts c Ent.TEST_ENTER 0 (.num v) h ∧ s.devState = Dev.RECOVERY) ∧
    (∃ s : State, ∃ gap : Nat, ∃ ppm : Int, ∃ us : Nat, (s.nat Ent.REFCLK_STATE = 1 ∨ (gap < 200 ∧ (ppm.natAbs ≤ 500 ∨ us < 10)))) ∧
    (∃ s : State, ∃ gap : Nat, ∃ ppm : Int, ∃ us : Nat, s.nat Ent.REFCLK_STATE ≠ 1 ∧ (200 ≤ gap ∨ (500 < ppm.natAbs ∧ 10 ≤ us))) ∧
    (∃ s : State, ∃ ms : Nat, (s.nat Ent.REFCLK_STATE ≠ 1 ∨ s.cycle ≠ 0 ∨ ms < 1000)) ∧
    (∃ s : State, ∃ ms : Nat, s.nat Ent.REFCLK_STATE = 1 ∧ s.cycle = 0 ∧ 1000 ≤ ms) :=
  ⟨⟨{ rig with plant := { rig.plant with inWindow := 0x7FFF } }, 14, 3300, by decide +kernel⟩,
   ⟨{ rig with plant := { rig.plant with inWindow := 0 } }, 13, 5, by decide +kernel⟩,
   ⟨{ rig with plant := { rig.plant with inWindow := 0x000A } }, 3, 5, by decide +kernel⟩,
   ⟨{ rig with plant := { rig.plant with inWindow := 0x7FFF } }, 9, 5, by decide +kernel⟩,
   ⟨{ rig with plant := { rig.plant with inWindow := 0x7FFF } }, 7, 5, by decide +kernel⟩,
   ⟨{ rig with plant := { rig.plant with inWindow := 0x7FFF } }, 13, 5, by decide +kernel⟩,
   ⟨{ rig with plant := { rig.plant with inWindow := 0x7FFF } }, 14, 2299, by decide +kernel⟩,
   ⟨{ rig with plant := { rig.plant with inWindow := 0x7FFF } }, 14, 4000, by decide +kernel⟩,
   ⟨{ rig with plant := { rig.plant with inWindow := 0x7FFF } }, 14, 3300, 10, by decide +kernel⟩,
   ⟨{ rig with plant := { rig.plant with inWindow := 0x3FFF } }, 14, 3300, 10, by decide +kernel⟩,
   ⟨({ State.reset with plant := { State.reset.plant with inWindow := 0x7FFF } } : State).setNat Ent.DEVICE_STATE 0 Dev.OFF, true, by decide +kernel⟩,
   ⟨rig, by decide +kernel⟩,
   ⟨rig, port, 1, _, accepts_of_passes _ _ _ _ _ _ (by decide +kernel), by decide +kernel⟩,
   ⟨(rig.setNat Ent.DEVICE_STATE 0 Dev.RECOVERY), port, 1, _, accepts_of_passes _ _ _ _ _ _ (by decide +kernel), by decide +kernel⟩,
   ⟨rig, port, 1, _, accepts_of_passes _ _ _ _ _ _ (by decide +kernel), by decide +kernel⟩,
   ⟨(rig.setNat Ent.DEVICE_STATE 0 Dev.RECOVERY), port, 1, _, accepts_of_passes _ _ _ _ _ _ (by decide +kernel), by decide +kernel⟩,
   ⟨rig, 199, 501, 9, by decide +kernel⟩,
   ⟨rig, 200, 0, 0, by decide +kernel⟩,
   ⟨(rig.setNat Ent.REFCLK_STATE 0 1), 999, by decide +kernel⟩,
   ⟨(rig.setNat Ent.REFCLK_STATE 0 1), 1000, by decide +kernel⟩⟩

/-- States and operands that meet the hypotheses of TheDeviceSleepsShipsAndWakes, clause by clause. -/
theorem witness_TheDeviceSleepsShipsAndWakes :
    (∃ s : State, ∃ c : Client, ∃ h : Held, s.accepts c Ent.SLEEP_REQUEST 0 (.num 1) h ∧ s.restConflict = true) ∧
    (∃ s : State, ∃ c : Client, ∃ h : Held, s.accepts c Ent.SLEEP_REQUEST 0 (.num 1) h ∧ s.restConflict = false) ∧
    (∃ s : State, ∃ c : Client, ∃ h : Held, s.accepts c Ent.SLEEP_REQUEST 0 (.num 0) h ∧ s.devState ≠ Dev.SLEEP) ∧
    (∃ s : State, s.plant.sleep = true ∧ s.serving = true ∧ s.readyToRest Com.SLEEP = true ∧ s.plant.wakeDue = none) ∧
    (∃ s : State, ∃ b : Nat, s.plant.carrierAt = some b ∧ b ≤ s.ticks ∧ s.serving = true) ∧
    (∃ s : State, ∃ c : Client, ∃ v : Nat, ∃ h : Held, s.accepts c Ent.SHIP_REQUEST 0 (.num v) h ∧ s.restConflict = true) ∧
    (∃ s : State, ∃ c : Client, ∃ v : Nat, ∃ h : Held, s.accepts c Ent.SHIP_REQUEST 0 (.num v) h ∧ s.restConflict = false) ∧
    (∃ s : State, ∃ flushes : List Flush, s.plant.ship = true ∧ s.serving = true ∧ s.readyToRest Com.SHIP = true) ∧
    (∃ s : State, ∃ mv : Nat, ∃ ms : Nat, (s.devState ≠ Dev.SHIP ∨ mv ≤ 1200 ∨ ms < 100)) ∧
    (∃ s : State, ∃ mv : Nat, ∃ ms : Nat, s.devState = Dev.SHIP ∧ 1200 < mv ∧ 100 ≤ ms) :=
  ⟨⟨(outlet7.setSess 7 { Sess.none with state := Ses.TRANSFER, plugAt := 1999000000, stateAt := 1999900000 }), site, _, accepts_of_passes _ _ _ _ _ _ (by decide +kernel), by decide +kernel⟩,
   ⟨rig, site, _, accepts_of_passes _ _ _ _ _ _ (by decide +kernel), by decide +kernel⟩,
   ⟨rig, site, _, accepts_of_passes _ _ _ _ _ _ (by decide +kernel), by decide +kernel⟩,
   ⟨({ rig with plant := { rig.plant with sleep := true } } : State), by decide +kernel⟩,
   ⟨({ rig with plant := { rig.plant with carrierAt := some 2000000000 } } : State), 2000000000, by decide +kernel⟩,
   ⟨(outlet7.setSess 7 { Sess.none with state := Ses.TRANSFER, plugAt := 1999000000, stateAt := 1999900000 }), site, 1, _, accepts_of_passes _ _ _ _ _ _ (by decide +kernel), by decide +kernel⟩,
   ⟨rig, site, 1, _, accepts_of_passes _ _ _ _ _ _ (by decide +kernel), by decide +kernel⟩,
   ⟨({ rig with plant := { rig.plant with ship := true } } : State), ([⟨1, 1000, []⟩]), by decide +kernel⟩,
   ⟨(rig.setNat Ent.DEVICE_STATE 0 Dev.SHIP), 1200, 100, by decide +kernel⟩,
   ⟨(rig.setNat Ent.DEVICE_STATE 0 Dev.SHIP), 1201, 100, by decide +kernel⟩⟩

/-- States and operands that meet the hypotheses of CrossResetReturnsThePointToM0, clause by clause. -/
theorem witness_CrossResetReturnsThePointToM0 :
    (∃ s : State, ∃ c : Client, ∃ pt : Nat, ∃ v : Nat, ∃ h : Held, s.accepts c Ent.CROSS_RESET pt (.num v) h ∧ s.flag Ent.LEGAL_SEAL_STATE = false) ∧
    (∃ s : State, ∃ c : Client, ∃ pt : Nat, ∃ v : Nat, ∃ h : Held, s.accepts c Ent.CROSS_RESET pt (.num v) h ∧ s.flag Ent.LEGAL_SEAL_STATE = true ∧ s.nat Ent.CROSS_STATE pt = Cross.AGREE ∧ s.billSource pt = 0) ∧
    (∃ s : State, ∃ c : Client, ∃ pt : Nat, ∃ v : Nat, ∃ h : Held, s.accepts c Ent.CROSS_RESET pt (.num v) h ∧ s.flag Ent.LEGAL_SEAL_STATE = true ∧ (s.nat Ent.CROSS_STATE pt ≠ Cross.AGREE ∨ s.billSource pt ≠ 0) ∧ s.meterRunning 0 = true ∧ s.meterFailed 0 = false) ∧
    (∃ s : State, ∃ c : Client, ∃ pt : Nat, ∃ v : Nat, ∃ h : Held, s.accepts c Ent.CROSS_RESET pt (.num v) h ∧ s.flag Ent.LEGAL_SEAL_STATE = true ∧ (s.nat Ent.CROSS_STATE pt ≠ Cross.AGREE ∨ s.billSource pt ≠ 0) ∧ s.legalFull = false) :=
  ⟨⟨rig, site, 16, 1, _, accepts_of_passes _ _ _ _ _ _ (by decide +kernel), by decide +kernel⟩,
   ⟨(rig.setNat Ent.LEGAL_SEAL_STATE 0 1), site, 16, 1, _, accepts_of_passes _ _ _ _ _ _ (by decide +kernel), by decide +kernel⟩,
   ⟨((rig.setNat Ent.LEGAL_SEAL_STATE 0 1).setNat Ent.CROSS_STATE 16 Cross.DISPUTED), site, 16, 1, _, accepts_of_passes _ _ _ _ _ _ (by decide +kernel), by decide +kernel⟩,
   ⟨((rig.setNat Ent.LEGAL_SEAL_STATE 0 1).setNat Ent.CROSS_STATE 16 Cross.DISPUTED), site, 16, 1, _, accepts_of_passes _ _ _ _ _ _ (by decide +kernel), by decide +kernel⟩⟩

/-- States and operands that meet the hypotheses of EveryCommandCompletesAndOnlyTheTickMovesTheClock, clause by clause. -/
theorem witness_EveryCommandCompletesAndOnlyTheTickMovesTheClock :
    (∃ s : State, ∃ c : Instr, (∀ x, c ≠ .cycleTick x)) :=
  ⟨rig, .estimateCommit, by intro x h; cases h⟩

/-- States and operands that meet the hypotheses of EveryStepKeepsTheClockInStep, clause by clause. -/
theorem witness_EveryStepKeepsTheClockInStep :
    (∃ s : State, ∃ t : State, s.inStep ∧ step s = .next t) :=
  ⟨{ rig with pending := [.deadlineMiss 0 0 7 20 99] }, _, by simp only [State.inStep]; decide +kernel, rfl⟩

end Sys2Proof.Tests
end

section
/-!
PROOFS. The clock and the queue of commands along a step (O59, O60), from the laws of Laws/Clock*: every command but CYCLE_TICK
keeps them, CYCLE_TICK moves the clock by one cycle.
-/
namespace Sys2Proof.Machine
open Sys2Proof

/-- Each arm of the dispatch is one operation, and each operation has its law of the clock. -/
theorem exec_keeps_clock (c : Instr) (s : State) (hc : ∀ x, c ≠ .cycleTick x) :
    ∃ t, exec c s = .next t ∧ t.clock = s.clock := by
  cases c with
  | cycleTick x => exact absurd rfl (hc x)
  | deadlineMiss => exact execDeadlineMiss_clock ..
  | tickLineChange => exact execTickLineChange_clock ..
  | resultBlock => exact execResultBlock_clock ..
  | commandPacket => exact execCommandPacket_clock ..
  | failsafeTimeout => exact execFailsafeTimeout_clock ..
  | testQueueStart => exact execTestQueueStart_clock ..
  | testExpired => exact execTestExpired_clock ..
  | ptpSync => exact execPtpSync_clock ..
  | ptpAnnounce => exact execPtpAnnounce_clock ..
  | ptpPdelay => exact execPtpPdelay_clock ..
  | announceTimeout => exact execAnnounceTimeout_clock ..
  | timeSet => exact execTimeSet_clock ..
  | actionArm => exact execActionArm_clock ..
  | actionCancel => exact execActionCancel_clock ..
  | actionFree => exact execActionFree_clock ..
  | announcePoint => exact execAnnouncePoint_clock ..
  | announceRepeat => exact execAnnounceRepeat_clock ..
  | decidePoint => exact execDecidePoint_clock ..
  | goRepeat => exact execGoRepeat_clock ..
  | cancelGuardPoint => exact execCancelGuardPoint_clock ..
  | cancelRepeat => exact execCancelRepeat_clock ..
  | doneCheckPoint => exact execDoneCheckPoint_clock ..
  | ready => exact execReady_clock ..
  | notReady => exact execNotReady_clock ..
  | goAck => exact execGoAck_clock ..
  | cancelAck => exact execCancelAck_clock ..
  | done => exact execDone_clock ..
  | cycleMirror => exact execCycleMirror_clock ..
  | mirrorMiss => exact execMirrorMiss_clock ..
  | frameMirror => exact execFrameMirror_clock ..
  | selfDiagnosedFault => exact execSelfDiagnosedFault_clock ..
  | yield => exact execYield_clock ..
  | take => exact execTake_clock ..
  | swapRequest => exact execSwapRequest_clock ..
  | dieRestart => exact execDieRestart_clock ..
  | resyncStart => exact execResyncStart_clock ..
  | resyncRequest => exact execResyncRequest_clock ..
  | dieBootComplete => exact execDieBootComplete_clock ..
  | meterDisagree => exact execMeterDisagree_clock ..
  | spareCheckDone => exact execSpareCheckDone_clock ..
  | meterDieFault => exact execMeterDieFault_clock ..
  | connectionOpen => exact execConnectionOpen_clock ..
  | connectionClose => exact execConnectionClose_clock ..
  | read => exact execRead_clock ..
  | write => exact execWrite_clock ..
  | writeGroup => exact execWriteGroup_clock ..
  | readSegment => exact execReadSegment_clock ..
  | writeSegment => exact execWriteSegment_clock ..
  | segmentTimeout => exact execSegmentTimeout_clock ..
  | describe => exact execDescribe_clock ..
  | eventRead => exact execEventRead_clock ..
  | eventSubscribe => exact execEventSubscribe_clock ..
  | eventNotify => exact execEventNotify_clock ..
  | setSwapNow => exact execSetSwapNow_clock ..
  | shadowCopy => exact execShadowCopy_clock ..
  | shadowDefaults => exact execShadowDefaults_clock ..
  | allocatorRun => exact execAllocatorRun_clock ..
  | ack => exact execAck_clock ..
  | moduleAckMissing => exact execModuleAckMissing_clock ..
  | moduleEnable => exact execModuleEnable_clock ..
  | moduleMoveFailed => exact execModuleMoveFailed_clock ..
  | feOverCap => exact execFeOverCap_clock ..
  | feEnable => exact execFeEnable_clock ..
  | fault => exact execFault_clock ..
  | status => exact execStatus_clock ..
  | xferResponse => exact execXferResponse_clock ..
  | xferRequest => exact execXferRequest_clock ..
  | xferTimeout => exact execXferTimeout_clock ..
  | txReport => exact execTxReport_clock ..
  | canErrorPassive => exact execCanErrorPassive_clock ..
  | canBusOff => exact execCanBusOff_clock ..
  | busOffRecovery => exact execBusOffRecovery_clock ..
  | busoffHoldEnd => exact execBusoffHoldEnd_clock ..
  | unitStatusMissing => exact execUnitStatusMissing_clock ..
  | unitChannelChange => exact execUnitChannelChange_clock ..
  | unitTest => exact execUnitTest_clock ..
  | unitTestLate => exact execUnitTestLate_clock ..
  | plugInRecognised => exact execPlugInRecognised_clock ..
  | confirmationLoss => exact execConfirmationLoss_clock ..
  | discoveryRequest => exact execDiscoveryRequest_clock ..
  | tlsHandshake => exact execTlsHandshake_clock ..
  | appProtocolHandshake => exact execAppProtocolHandshake_clock ..
  | sessionSetupReq => exact execSessionSetupReq_clock ..
  | authorizationReq => exact execAuthorizationReq_clock ..
  | dcChargeParameterDiscovery => exact execDcChargeParameterDiscovery_clock ..
  | dcCableCheckReq => exact execDcCableCheckReq_clock ..
  | cableCheckPass => exact execCableCheckPass_clock ..
  | dcPreChargeReq => exact execDcPreChargeReq_clock ..
  | powerDeliveryReqStart => exact execPowerDeliveryReqStart_clock ..
  | powerDeliveryReqStandby => exact execPowerDeliveryReqStandby_clock ..
  | powerDeliveryReqStop => exact execPowerDeliveryReqStop_clock ..
  | sessionStopReq => exact execSessionStopReq_clock ..
  | loopRequest => exact execLoopRequest_clock ..
  | dcWeldingDetectionReq => exact execDcWeldingDetectionReq_clock ..
  | certificateInstallationReq => exact execCertificateInstallationReq_clock ..
  | authResponse => exact execAuthResponse_clock ..
  | eimToken => exact execEimToken_clock ..
  | authTimeout => exact execAuthTimeout_clock ..
  | sessionStateLimit => exact execSessionStateLimit_clock ..
  | insulationTrip => exact execInsulationTrip_clock ..
  | outletTrip => exact execOutletTrip_clock ..
  | linkLost => exact execLinkLost_clock ..
  | stopRequest => exact execStopRequest_clock ..
  | outletReset => exact execOutletReset_clock ..
  | outletEnable => exact execOutletEnable_clock ..
  | contactorOpen => exact execContactorOpen_clock ..
  | forcedOpen => exact execForcedOpen_clock ..
  | estopReset => exact execEstopReset_clock ..
  | weldingCheck => exact execWeldingCheck_clock ..
  | releaseLockOff => exact execReleaseLockOff_clock ..
  | couplerReleased => exact execCouplerReleased_clock ..
  | loopSaturated => exact execLoopSaturated_clock ..
  | loopReset => exact execLoopReset_clock ..
  | cableOverTemp => exact execCableOverTemp_clock ..
  | coolantFlowLow => exact execCoolantFlowLow_clock ..
  | coolantFlowRestored => exact execCoolantFlowRestored_clock ..
  | groupRangeReturn => exact execGroupRangeReturn_clock ..
  | phaseFire => exact execPhaseFire_clock ..
  | phaseImbalance => exact execPhaseImbalance_clock ..
  | phaseFastTrip => exact execPhaseFastTrip_clock ..
  | fastTripHoldEnd => exact execFastTripHoldEnd_clock ..
  | groupReset => exact execGroupReset_clock ..
  | phaseFailed => exact execPhaseFailed_clock ..
  | phaseOverload => exact execPhaseOverload_clock ..
  | stepHoldEnd => exact execStepHoldEnd_clock ..
  | groupStopComplete => exact execGroupStopComplete_clock ..
  | phaseTest => exact execPhaseTest_clock ..
  | phaseTestDone => exact execPhaseTestDone_clock ..
  | phaseReset => exact execPhaseReset_clock ..
  | report => exact execReport_clock ..
  | monitorJoin => exact execMonitorJoin_clock ..
  | ropeClosed => exact execRopeClosed_clock ..
  | ropeOpen => exact execRopeOpen_clock ..
  | ropeCoilsOff => exact execRopeCoilsOff_clock ..
  | ropeWake => exact execRopeWake_clock ..
  | lostMonitorWakeBurst => exact execLostMonitorWakeBurst_clock ..
  | alarmReset => exact execAlarmReset_clock ..
  | ropeReenumerate => exact execRopeReenumerate_clock ..
  | enumWakeBurst => exact execEnumWakeBurst_clock ..
  | enumCarrierStart => exact execEnumCarrierStart_clock ..
  | enumFail => exact execEnumFail_clock ..
  | acceptReplacement => exact execAcceptReplacement_clock ..
  | serviceDemanded => exact execServiceDemanded_clock ..
  | monitorTest => exact execMonitorTest_clock ..
  | stringConnectStart => exact execStringConnectStart_clock ..
  | stringConnectStep => exact execStringConnectStep_clock ..
  | stringRequest => exact execStringRequest_clock ..
  | stringDerate => exact execStringDerate_clock ..
  | stringOverCurrent => exact execStringOverCurrent_clock ..
  | stringInsulationFault => exact execStringInsulationFault_clock ..
  | stringCurrentSenseLost => exact execStringCurrentSenseLost_clock ..
  | stringCauseCleared => exact execStringCauseCleared_clock ..
  | stringCoilsOff => exact execStringCoilsOff_clock ..
  | stringForcedOpen => exact execStringForcedOpen_clock ..
  | weldCheckEnd => exact execWeldCheckEnd_clock ..
  | stringReset => exact execStringReset_clock ..
  | stringTest => exact execStringTest_clock ..
  | stringTestDone => exact execStringTestDone_clock ..
  | estReset => exact execEstReset_clock ..
  | spareDwellEnd => exact execSpareDwellEnd_clock ..
  | slotTableRebuild => exact execSlotTableRebuild_clock ..
  | captureTrigger => exact execCaptureTrigger_clock ..
  | captureForce => exact execCaptureForce_clock ..
  | captureDone => exact execCaptureDone_clock ..
  | calZero => exact execCalZero_clock ..
  | calSpan => exact execCalSpan_clock ..
  | calRestore => exact execCalRestore_clock ..
  | calDone => exact execCalDone_clock ..
  | mchOpenTest => exact execMchOpenTest_clock ..
  | openTestDone => exact execOpenTestDone_clock ..
  | meterCommit => exact execMeterCommit_clock ..
  | crossReset => exact execCrossReset_clock ..
  | peakReset => exact execPeakReset_clock ..
  | overcurrent => exact execOvercurrent_clock ..
  | overcurrentEnd => exact execOvercurrentEnd_clock ..
  | legalSealChange => exact execLegalSealChange_clock ..
  | legalLogArchive => exact execLegalLogArchive_clock ..
  | displayFrame => exact execDisplayFrame_clock ..
  | displayBusyTimeout => exact execDisplayBusyTimeout_clock ..
  | pfwAssert => exact execPfwAssert_clock ..
  | meterStop => exact execMeterStop_clock ..
  | billingClose => exact execBillingClose_clock ..
  | creditTopup => exact execCreditTopup_clock ..
  | readingRequest => exact execReadingRequest_clock ..
  | lcCommand => exact execLcCommand_clock ..
  | lcDuty => exact execLcDuty_clock ..
  | lcPullInEnd => exact execLcPullInEnd_clock ..
  | lcShortCircuit => exact execLcShortCircuit_clock ..
  | lcLimitTimeout => exact execLcLimitTimeout_clock ..
  | lcOverload => exact execLcOverload_clock ..
  | lcThermalLatch => exact execLcThermalLatch_clock ..
  | lcThermalClear => exact execLcThermalClear_clock ..
  | lcRetry => exact execLcRetry_clock ..
  | lcRetryBudgetReset => exact execLcRetryBudgetReset_clock ..
  | lcReset => exact execLcReset_clock ..
  | lcOpenLoad => exact execLcOpenLoad_clock ..
  | lcOpenLoadClear => exact execLcOpenLoadClear_clock ..
  | lcTest => exact execLcTest_clock ..
  | lcTestDone => exact execLcTestDone_clock ..
  | halfOverload => exact execHalfOverload_clock ..
  | vauxUndervoltage => exact execVauxUndervoltage_clock ..
  | vauxOvervoltage => exact execVauxOvervoltage_clock ..
  | loadGroundLost => exact execLoadGroundLost_clock ..
  | vauxRecovery => exact execVauxRecovery_clock ..
  | beaconPeriodStart => exact execBeaconPeriodStart_clock ..
  | zcLost => exact execZcLost_clock ..
  | pollReply => exact execPollReply_clock ..
  | pollFail => exact execPollFail_clock ..
  | dataFrame => exact execDataFrame_clock ..
  | selectiveAck => exact execSelectiveAck_clock ..
  | toneMap => exact execToneMap_clock ..
  | join => exact execJoin_clock ..
  | loadRequest => exact execLoadRequest_clock ..
  | loadDeferExpiry => exact execLoadDeferExpiry_clock ..
  | keyUpdate => exact execKeyUpdate_clock ..
  | keyChallenge => exact execKeyChallenge_clock ..
  | keyConfirm => exact execKeyConfirm_clock ..
  | slotCert => exact execSlotCert_clock ..
  | keyPendingExpired => exact execKeyPendingExpired_clock ..
  | tamper => exact execTamper_clock ..
  | slotManifest => exact execSlotManifest_clock ..
  | slotBlock => exact execSlotBlock_clock ..
  | slotErase => exact execSlotErase_clock ..
  | prepareStart => exact execPrepareStart_clock ..
  | prepareFailed => exact execPrepareFailed_clock ..
  | fwConfirm => exact execFwConfirm_clock ..
  | fwFallback => exact execFwFallback_clock ..
  | recoveryBoot => exact execRecoveryBoot_clock ..
  | streamReady => exact execStreamReady_clock ..
  | streamCredit => exact execStreamCredit_clock ..
  | streamMask => exact execStreamMask_clock ..
  | serviceLinkChange => exact execServiceLinkChange_clock ..
  | recoveryEnter => exact execRecoveryEnter_clock ..
  | recoveryExit => exact execRecoveryExit_clock ..
  | testEnter => exact execTestEnter_clock ..
  | supplyFault => exact execSupplyFault_clock ..
  | supplyRestored => exact execSupplyRestored_clock ..
  | sideResetRelease => exact execSideResetRelease_clock ..
  | sleepRequest => exact execSleepRequest_clock ..
  | shipRequest => exact execShipRequest_clock ..
  | shipEntry => exact execShipEntry_clock ..
  | dieHalfFault => exact execDieHalfFault_clock ..
  | dieHalfRestored => exact execDieHalfRestored_clock ..
  | serviceDiscoveryReq => exact execServiceDiscoveryReq_clock ..
  | siphonLaneLoss => exact execSiphonLaneLoss_clock ..
  | spareCheckRepeat => exact execSpareCheckRepeat_clock ..
  | peerConnect => exact execPeerConnect_clock ..
  | senseBreakTimeout => exact execSenseBreakTimeout_clock ..
  | sliceRetired => exact execSliceRetired_clock ..
  | vauxReversed => exact execVauxReversed_clock ..
  | toneMapAgeExpiry => exact execToneMapAgeExpiry_clock ..
  | modemHandover => exact execModemHandover_clock ..
  | sounding => exact execSounding_clock ..
  | contentionAccess => exact execContentionAccess_clock ..
  | legalImageLoadDone => exact execLegalImageLoadDone_clock ..
  | frameBoundary => exact execFrameBoundary_clock ..
  | ptpSyncTransmit => exact execPtpSyncTransmit_clock ..
  | timeStep => exact execTimeStep_clock ..
  | stepLastDayEnd => exact execStepLastDayEnd_clock ..
  | leapSecond => exact execLeapSecond_clock ..
  | backupCounterWrite => exact execBackupCounterWrite_clock ..
  | actionExecution => exact execActionExecution_clock ..
  | switchOver => exact execSwitchOver_clock ..
  | plannedSwitchOver => exact execPlannedSwitchOver_clock ..
  | resyncPhaseDone => exact execResyncPhaseDone_clock ..
  | resyncFailed => exact execResyncFailed_clock ..
  | resyncRetry => exact execResyncRetry_clock ..
  | preferredDieTimeout => exact execPreferredDieTimeout_clock ..
  | setSwap => exact execSetSwap_clock ..
  | limitRecheck => exact execLimitRecheck_clock ..
  | grantPublish => exact execGrantPublish_clock ..
  | setpointTransmit => exact execSetpointTransmit_clock ..
  | grantLaunch => exact execGrantLaunch_clock ..
  | importOverLimit => exact execImportOverLimit_clock ..
  | emergencyStop => exact execEmergencyStop_clock ..
  | estopForcedOpen => exact execEstopForcedOpen_clock ..
  | estopRelease => exact execEstopRelease_clock ..
  | estopAutoReset => exact execEstopAutoReset_clock ..
  | sweepStart => exact execSweepStart_clock ..
  | retryCall => exact execRetryCall_clock ..
  | sweepPublish => exact execSweepPublish_clock ..
  | estimateCommit => exact execEstimateCommit_clock ..
  | balanceSelection => exact execBalanceSelection_clock ..
  | estimatorStore => exact execEstimatorStore_clock ..
  | crossCheckWindow => exact execCrossCheckWindow_clock ..
  | pfwRelease => exact execPfwRelease_clock ..
  | calendarActivation => exact execCalendarActivation_clock ..
  | intervalClose => exact execIntervalClose_clock ..
  | billingPeriodClose => exact execBillingPeriodClose_clock ..
  | routeComputation => exact execRouteComputation_clock ..
  | auxImbalance => exact execAuxImbalance_clock ..
  | rewrapDone => exact execRewrapDone_clock ..
  | keysRederived => exact execKeysRederived_clock ..
  | prepareDone => exact execPrepareDone_clock ..
  | trialTimeExpiry => exact execTrialTimeExpiry_clock ..
  | legalActivationM0 => exact execLegalActivationM0_clock ..
  | streamLinkDown => exact execStreamLinkDown_clock ..
  | streamStalled => exact execStreamStalled_clock ..
  | blockTransmit => exact execBlockTransmit_clock ..
  | discoveryDatagram => exact execDiscoveryDatagram_clock ..
  | rstNAssert => exact execRstNAssert_clock ..
  | sleepEntry => exact execSleepEntry_clock ..
  | wakeCarrierStart => exact execWakeCarrierStart_clock ..
  | shipWake => exact execShipWake_clock ..
  | refclkLost => exact execRefclkLost_clock ..
  | refclkRestored => exact execRefclkRestored_clock ..

/-- Equal clocks are equal ticks, cycles and queues. -/
theorem State.clock_eq_iff {s : State} {k j : Nat} {q : List Instr} :
    s.clock = (k, j, q) ↔ s.ticks = k ∧ s.cycle = j ∧ s.pending = q := by
  simp only [State.clock, Prod.mk.injEq]

/-- Settles O59: CYCLE_TICK by its law of the clock, every other command because it keeps the clock. -/
theorem everyCommandCompletesAndOnlyTheTickMovesTheClock :
    Obligations.EveryCommandCompletesAndOnlyTheTickMovesTheClock := by
  intro c s
  by_cases hc : ∃ x, c = .cycleTick x
  · obtain ⟨x, rfl⟩ := hc
    obtain ⟨t, ht, hclock⟩ := execCycleTick_clock x s
    obtain ⟨hticks, hcycle, hpending⟩ := State.clock_eq_iff.1 hclock
    exact ⟨t, ht, hpending, fun h => absurd rfl (h x), fun _ _ => ⟨hticks, hcycle⟩⟩
  · have hne : ∀ x, c ≠ .cycleTick x := fun x h => hc ⟨x, h⟩
    obtain ⟨t, ht, hclock⟩ := exec_keeps_clock c s hne
    obtain ⟨hticks, hcycle, hpending⟩ := State.clock_eq_iff.1 hclock
    exact ⟨t, ht, hpending, fun _ => ⟨hticks, hcycle⟩, fun x h => absurd h (hne x)⟩

/-- Being in step is a matter of the ticks and the cycle alone. -/
theorem State.inStep_of_eq {s t : State} (hs : s.inStep) (hticks : t.ticks = s.ticks) (hcycle : t.cycle = s.cycle) : t.inStep := by
  rw [State.inStep, hticks, hcycle]; exact hs

/-- One tick on, the cycle is again the count of ticks modulo 20. -/
theorem State.inStep_of_tick {s t : State} (hs : s.inStep) (hticks : t.ticks = s.ticks + 1) (hcycle : t.cycle = (s.cycle + 1) % 20) :
    t.inStep := by
  have hs : s.cycle = s.ticks % 20 := hs
  rw [State.inStep, hticks, hcycle, hs]
  omega

theorem exec_keeps_inStep {c : Instr} {s t : State} (hs : s.inStep) (ht : exec c s = .next t) : t.inStep := by
  obtain ⟨u, hu, -, hother, htick⟩ := everyCommandCompletesAndOnlyTheTickMovesTheClock c s
  obtain rfl : u = t := by rw [hu] at ht; exact Host.Outcome.next.inj ht
  by_cases hc : ∃ x, c = .cycleTick x
  · obtain ⟨x, hx⟩ := hc
    obtain ⟨hticks, hcycle⟩ := htick x hx
    exact State.inStep_of_tick hs hticks hcycle
  · obtain ⟨hticks, hcycle⟩ := hother fun x h => hc ⟨x, h⟩
    exact State.inStep_of_eq hs hticks hcycle

/-- A message delivered again runs as its command does; only the mark of the replay is put around it. -/
theorem deliverAgain_keeps_inStep {m : Instr} {s t : State} (hs : s.inStep) (ht : deliverAgain m s = .next t) : t.inStep := by
  unfold deliverAgain at ht
  split at ht
  next u hu =>
    obtain rfl := Host.Outcome.next.inj ht
    exact State.inStep_of_eq (exec_keeps_inStep (s := { s with mirror := { s.mirror with replay := true } }) hs hu) rfl rfl
  next hno => exact absurd ht (hno t)

/-- Settles O60: the step runs a command, delivers a message again, or idles, and each keeps the cycle in step. -/
theorem everyStepKeepsTheClockInStep : Obligations.EveryStepKeepsTheClockInStep := by
  intro s t hs ht
  unfold step at ht
  split at ht
  next c rest _ => exact exec_keeps_inStep (s := { s with pending := rest }) hs ht
  next =>
    split at ht
    next => exact Host.Outcome.next.inj ht ▸ hs
    next m rest _ => exact deliverAgain_keeps_inStep (s := { s with mirror := { s.mirror with again := rest } }) hs ht

/-- With no entry written every read finds the default. -/
theorem State.reset_val (e : Entry) (n j : Nat) : State.reset.val e n j = e.default n := by
  unfold State.val
  split <;> rfl

/-- Settles O2: each part of the reset state is written out in its definition, and the cycle and the ticks are both 0. -/
theorem resetIsStartWithNothingPending : Obligations.ResetIsStartWithNothingPending := by
  refine ⟨rfl, ?_, rfl, rfl, rfl, rfl, rfl, rfl, rfl, rfl, State.reset_val, rfl⟩
  decide +kernel

end Sys2Proof.Machine
end

section
/-!
PROOFS. The queries of the dictionary service (O18): a query taken in is answered at once and changes the engine, the messages and the
counters of tags only (R96, R102).
-/
namespace Sys2Proof.Machine
open Sys2Proof

/-- A query taken in runs with its tag occupied, and the tag is released behind it. -/
theorem State.admitQuery_accepted {s : State} {c : Client} {k : Conn} {tag : Nat} (op : Nat) (go : State → Conn → Nat → State)
    (h : s.acceptsQuery c k tag) : s.admitQuery c op go = (go (s.takeTag tag (some c.conn)) k tag).dropTag tag := by
  obtain ⟨hconn, hheader, htag⟩ := h
  simp [State.admitQuery, hconn, hheader, htag]

/-- Taking a tag changes the engine and the two counters of tags. -/
theorem State.takeTag_frame (s : State) (tag : Nat) (conn : Option Nat) :
    { s.takeTag tag conn with tx := s.tx, cells := s.cells } = s := by
  unfold State.takeTag State.when
  dsimp only
  split <;> rfl

/-- The tag released stands no more among those in use. -/
theorem State.dropTag_frees (s : State) (tag : Nat) : ∀ x ∈ (s.dropTag tag).tx.tags, x.1 ≠ tag := by
  simp [State.dropTag]

@[simp] theorem State.dropTag_conns (s : State) (tag : Nat) : (s.dropTag tag).tx.conns = s.tx.conns := by
  simp [State.dropTag]

@[simp] theorem State.reply_out (s : State) (c : Client) (op tag st : Nat) (body : List Byte) (more : Bool) :
    (s.reply c op tag st body more).out = s.out ++ [answerMsg c.conn op c.reqId st tag false body more] := rfl

@[simp] theorem State.reply_tx (s : State) (c : Client) (op tag st : Nat) (body : List Byte) (more : Bool) :
    (s.reply c op tag st body more).tx = s.tx := rfl

/-- The state `t` answers a query of `s`: its answer is the last message sent, its tag is free, and outside the engine, the messages and
the cells nothing has changed. -/
def State.answersQuery (s t : State) (c : Client) (op tag st : Nat) (body : List Byte) : Prop :=
  t.out = s.out ++ [answerMsg c.conn op c.reqId st tag false body] ∧ (∀ x ∈ t.tx.tags, x.1 ≠ tag) ∧
    { t with out := s.out, tx := s.tx, cells := s.cells } = s

/-- A reply from a state that differs in the engine and the cells alone, with its tag released, answers the query. -/
theorem State.answersQuery_of_reply {s u : State} (hout : u.out = s.out) (hframe : { u with tx := s.tx, cells := s.cells } = s)
    (c : Client) (op tag st : Nat) (body : List Byte) :
    s.answersQuery ((u.reply c op tag st body).dropTag tag) c op tag st body := by
  refine ⟨by simp [hout], State.dropTag_frees _ tag, ?_⟩
  calc { (u.reply c op tag st body).dropTag tag with out := s.out, tx := s.tx, cells := s.cells }
      = { ({ u with tx := s.tx, cells := s.cells } : State) with out := s.out } := rfl
    _ = { s with out := s.out } := by rw [hframe]
    _ = s := rfl

/-- A query whose work is to reply, once its tag is taken, is answered. -/
theorem State.admitQuery_replies {s : State} {c : Client} {k : Conn} {tag op st : Nat} {body : List Byte}
    {go : State → Conn → Nat → State} (h : s.acceptsQuery c k tag)
    (hgo : go (s.takeTag tag (some c.conn)) k tag = (s.takeTag tag (some c.conn)).reply c op tag st body) :
    s.answersQuery (s.admitQuery c op go) c op tag st body := by
  rw [State.admitQuery_accepted op go h, hgo]
  exact State.answersQuery_of_reply (State.takeTag_out ..) (State.takeTag_frame ..) c op tag st body

section Queries
variable {s : State} {c : Client} {k : Conn} {tag : Nat} (h : s.acceptsQuery c k tag)
include h

/-- READ of an entry that passes its check, with a value one message moves (R20). -/
theorem execRead_answers_value {index sub : Nat} {r : Nat × Nat × List Byte}
    (hbar : (s.takeTag tag (some c.conn)).barred k.service index = false)
    (hr : (s.takeTag tag (some c.conn)).asRead.readEntry c.shadow index sub = r) (hok : r.1 = St.OK) (hlen : r.2.2.length ≤ 1024) :
    ∃ t, execRead c index sub s = .next t ∧ s.answersQuery t c Op.READ tag St.OK (readBody r.2.1 r.2.2 r.2.2.length) := by
  have hlimit : ¬ messageLimit < r.2.2.length := Nat.not_lt.2 hlen
  exact ⟨_, rfl, State.admitQuery_replies h (by simp [hbar, hr, hok, hlimit])⟩

/-- READ of an entry that does not pass its check. -/
theorem execRead_answers_status {index sub : Nat} {r : Nat × Nat × List Byte}
    (hbar : (s.takeTag tag (some c.conn)).barred k.service index = false)
    (hr : (s.takeTag tag (some c.conn)).asRead.readEntry c.shadow index sub = r) (hbad : r.1 ≠ St.OK) :
    ∃ t, execRead c index sub s = .next t ∧ s.answersQuery t c Op.READ tag r.1 [] :=
  ⟨_, rfl, State.admitQuery_replies h (by simp [hbar, hr, hbad])⟩

theorem execDescribe_answers {index sub : Nat} {r : Nat × List Byte}
    (hbar : (s.takeTag tag (some c.conn)).barred k.service index = false) (hr : describeEntry index sub = r) :
    ∃ t, execDescribe c index sub s = .next t ∧ s.answersQuery t c Op.DESCRIBE tag r.1 r.2 :=
  ⟨_, rfl, State.admitQuery_replies h (by simp [hbar, hr])⟩

/-- EVENT_READ within the records one answer holds (R103). -/
theorem execEventRead_answers (first : Nat) {count : Nat} (hcount : count ≤ 36) :
    ∃ t, execEventRead c first count s = .next t ∧
      s.answersQuery t c Op.EVENT_READ tag St.OK (recordBody (s.ev.from_ first count)) :=
  ⟨_, rfl, State.admitQuery_replies h (by simp [Nat.not_lt.2 hcount])⟩

/-- EVENT_SUBSCRIBE with a severity of Table 4-7: the connection holds it as its subscription. -/
theorem execEventSubscribe_answers {severity : Nat} (hsev : severity ≤ 3) :
    ∃ t k1, execEventSubscribe c severity s = .next t ∧ Tab.find t.tx.conns c.conn = some k1 ∧ k1.subscription = some severity ∧
      s.answersQuery t c Op.EVENT_SUBSCRIBE tag St.OK [] := by
  have hrange : ¬ severity > 3 := Nat.not_lt.2 hsev
  have hnotEnd : severity ≠ 0xFF := by omega
  refine ⟨_, { k with subscription := some severity }, rfl, ?_, rfl, ?_⟩ <;>
    simp only [State.admitQuery_accepted _ _ h, hrange, hnotEnd, decide_false, Bool.false_and, Bool.false_eq_true, if_false, beq_iff_eq]
  · simp
  · refine State.answersQuery_of_reply ?_ ?_ c _ tag _ _
    · exact State.takeTag_out s tag (some c.conn)
    · exact State.takeTag_frame s tag (some c.conn)

end Queries

/-- Settles O18: each query's own answer, taken apart into the clauses. -/
theorem queriesAreAnsweredAtOnce : Obligations.QueriesAreAnsweredAtOnce := by
  intro s c k tag h
  refine ⟨fun index sub hbar hok hlen => ?_, fun index sub hbar hbad => ?_, fun index sub hbar => ?_, fun first count hcount => ?_,
    fun severity hsev => ?_⟩
  · exact execRead_answers_value h hbar rfl hok hlen
  · obtain ⟨t, ht, hout, -, hframe⟩ := execRead_answers_status h hbar rfl hbad
    exact ⟨t, ht, hout, hframe⟩
  · exact execDescribe_answers h hbar rfl
  · obtain ⟨t, ht, hout, -, hframe⟩ := execEventRead_answers h first hcount
    exact ⟨t, ht, hout, hframe⟩
  · obtain ⟨t, k1, ht, hconn, hsub, hout, -, hframe⟩ := execEventSubscribe_answers h hsev
    exact ⟨t, k1, ht, hconn, hsub, hout, hframe⟩

end Sys2Proof.Machine
end

section
/-!
PROOFS. The load channels under command packets and fail-safe (O47): what the power die holds of them (its own state, the two halves,
FAILSAFE_ACTIVE and the channels) under the operations of a latch, and what one decision of a channel's output keeps of it.
-/
namespace Sys2Proof.Machine
open Sys2Proof

/-- What a packet or its absence moves of the power die, beside its channels. -/
def State.powerSide (s : State) : PowerSt × HalfSt × HalfSt × Val := (s.pw, s.halfA, s.halfB, s.val Ent.FAILSAFE_ACTIVE)

/-- The channels as well: no operation of a converter group reaches them. -/
def State.loadSide (s : State) : Tab LcSt × PowerSt × HalfSt × HalfSt × Val := (s.lc, s.powerSide)

theorem State.powerSide_eq_iff {s t : State} : t.powerSide = s.powerSide ↔
    t.pw = s.pw ∧ t.halfA = s.halfA ∧ t.halfB = s.halfB ∧ t.val Ent.FAILSAFE_ACTIVE = s.val Ent.FAILSAFE_ACTIVE := by
  simp only [State.powerSide, Prod.mk.injEq]

theorem State.loadSide_eq_iff {s t : State} : t.loadSide = s.loadSide ↔ t.lc = s.lc ∧ t.powerSide = s.powerSide := by
  simp only [State.loadSide, Prod.mk.injEq]

@[simp] theorem State.setRat_eq (s : State) (e : Entry) (n : Nat) (v : Rat) (j : Nat) :
    s.setRat e n v j = s.put e n j (.num (F32.ofRat v)) := rfl

/-- The sub-index alone keeps every row of an entry apart from FAILSAFE_ACTIVE. -/
theorem Entry.key_ne_failsafeActive {e : Entry} (h : e.sub < 256 ∧ e.sub ≠ 6) (n : Nat) :
    Ent.FAILSAFE_ACTIVE.key 0 0 ≠ e.key n 0 := by
  have hkey : Ent.FAILSAFE_ACTIVE.key 0 0 = 0x9040 * 256 + 6 := rfl
  rw [hkey, Entry.key]
  omega

theorem State.put_loadSide (s : State) (e : Entry) (n : Nat) (v : Val) (h : e.sub < 256 ∧ e.sub ≠ 6) :
    (s.put e n 0 v).loadSide = s.loadSide := by
  simp [State.loadSide, State.powerSide, State.val_put_ne _ _ _ _ _ _ _ _ (Entry.key_ne_failsafeActive h n)]

theorem State.raiseWith_loadSide (s : State) (b : Bool) (k : EvKind) (i p q : Nat) : (s.raiseWith b k i p q).loadSide = s.loadSide := by
  simp [State.loadSide, State.powerSide]

theorem State.bump_loadSide (s : State) (e : Entry) (n m : Nat) (h : e.sub < 256 ∧ e.sub ≠ 6) :
    (s.bump e n 0 m).loadSide = s.loadSide := by
  unfold State.bump
  dsimp only
  split
  · exact State.put_loadSide _ _ _ _ h
  · exact State.put_loadSide _ _ _ _ h

/-! ## The operations of a converter group -/

theorem State.setConv_loadSide (s : State) (g : Nat) (k : GroupSt) : (s.setConv g k).loadSide = s.loadSide := rfl
theorem State.setLeg_loadSide (s : State) (p : Nat) (k : PhaseSt) : (s.setLeg p k).loadSide = s.loadSide := rfl

theorem State.endTest_loadSide (s : State) (target status : Nat) : (s.endTest target status).loadSide = s.loadSide := by
  unfold State.endTest
  split
  · rfl
  · dsimp only
    split
    · exact State.raiseWith_loadSide ..
    · rfl

theorem State.setPhase_loadSide (s : State) (p st : Nat) : (s.setPhase p st).loadSide = s.loadSide := by
  unfold State.setPhase
  split
  · rfl
  · exact State.put_loadSide _ _ _ _ (by decide)

theorem State.cancelPhaseTest_loadSide (s : State) (p : Nat) : (s.cancelPhaseTest p).loadSide = s.loadSide := by
  unfold State.cancelPhaseTest
  split
  · rw [State.raise_eq, State.raiseWith_loadSide, State.setPhase_loadSide, State.setNat_eq, State.put_loadSide _ _ _ _ (by decide),
      State.endTest_loadSide]
  · rfl

theorem State.gatesOff_loadSide (s : State) (g st : Nat) : (s.gatesOff g st).loadSide = s.loadSide := by
  unfold State.gatesOff
  dsimp only
  rw [State.setInt_eq, State.put_loadSide _ _ _ _ (by decide), State.setNat_eq, State.put_loadSide _ _ _ _ (by decide),
    State.setConv_loadSide, State.each_keeps _ _ _ _ (fun z p => z.setPhase_loadSide p _),
    State.each_keeps _ _ _ _ State.cancelPhaseTest_loadSide]

theorem State.disconnectGroup_loadSide (s : State) (g : Nat) : (s.disconnectGroup g).loadSide = s.loadSide := by
  unfold State.disconnectGroup
  dsimp only
  split
  · exact State.gatesOff_loadSide ..
  · rfl

theorem State.allGatesOff_loadSide (s : State) : s.allGatesOff.loadSide = s.loadSide :=
  State.each_keeps _ _ _ _ State.disconnectGroup_loadSide

theorem State.showGroup_loadSide (s : State) (g : Nat) : (s.showGroup g).loadSide = s.loadSide := by
  unfold State.showGroup
  dsimp only
  rw [State.setNat_eq, State.put_loadSide _ _ _ _ (by decide), State.setNat_eq, State.put_loadSide _ _ _ _ (by decide)]

theorem State.latchOnTime_loadSide (s : State) (g : Nat) : (s.latchOnTime g).loadSide = s.loadSide := by
  unfold State.latchOnTime
  dsimp only
  rw [State.setNat_eq, State.put_loadSide _ _ _ _ (by decide), State.setConv_loadSide]

theorem State.latchValues_loadSide (s : State) (g : Nat) : (s.latchValues g).loadSide = s.loadSide :=
  State.each_keeps _ _ _ _ (fun z p => z.setLeg_loadSide p _)

theorem State.enterRing_loadSide (s : State) (p st : Nat) : (s.enterRing p st).loadSide = s.loadSide :=
  State.setPhase_loadSide ..

theorem State.addPhases_loadSide (s : State) (l : List Nat) : (s.addPhases l).loadSide = s.loadSide :=
  State.each_keeps _ _ _ _ (fun z p => ((z.cancelPhaseTest p).enterRing_loadSide p _).trans (z.cancelPhaseTest_loadSide p))

theorem State.loadStep_loadSide (s : State) (g : Nat) : (s.loadStep g).loadSide = s.loadSide := by
  unfold State.loadStep
  dsimp only
  rw [State.bump_loadSide _ _ _ _ (by decide), State.setConv_loadSide, State.addPhases_loadSide]

theorem State.shedOrAdd_loadSide (s : State) (g : Nat) (i : Rat) : (s.shedOrAdd g i).loadSide = s.loadSide := by
  unfold State.shedOrAdd
  dsimp only
  split
  · exact State.addPhases_loadSide ..
  split
  · exact State.addPhases_loadSide ..
  split
  · split <;> rfl
  · rfl

theorem State.latchGroup_loadSide (s : State) (g : Nat) : (s.latchGroup g).loadSide = s.loadSide := by
  have hlatch : ((s.setRat Ent.I_REF g (s.iRefOf g)).latchOnTime g).loadSide = s.loadSide := by
    rw [State.latchOnTime_loadSide, State.setRat_eq, State.put_loadSide _ _ _ _ (by decide)]
  unfold State.latchGroup
  dsimp only
  split
  · rw [State.showGroup_loadSide, State.gatesOff_loadSide, hlatch]
  split
  · rw [State.showGroup_loadSide, State.gatesOff_loadSide, hlatch]
  split
  · rw [State.showGroup_loadSide, State.latchValues_loadSide, hlatch]
  rw [State.showGroup_loadSide, State.latchValues_loadSide, State.shedOrAdd_loadSide]
  split
  · rw [State.loadStep_loadSide, hlatch]
  · exact hlatch

theorem State.anchorGroup_loadSide (s : State) (g : Nat) : (s.anchorGroup g).loadSide = s.loadSide :=
  State.each_keeps _ _ _ _ (fun _ _ => rfl)

/-! ## One decision of a channel's output -/

/-- What is ordered of a channel: the command and duty to send, those latched, and the wait of a retry. -/
def LcSt.orders (k : LcSt) : Bool × Nat × Bool × Nat × Option Nat := (k.cmd, k.duty, k.got, k.gotDuty, k.wait)

theorem State.lcs_setLc_same (s : State) (c : Nat) (k : LcSt) : (s.setLc c k).lcs c = k := Tab.get_set_same ..

theorem State.lcs_setLc_ne (s : State) {c d : Nat} (k : LcSt) (h : d ≠ c) : (s.setLc c k).lcs d = s.lcs d := Tab.get_set_ne _ _ _ _ _ h

@[simp] theorem State.lcs_put (s : State) (e : Entry) (n j : Nat) (v : Val) (c : Nat) : (s.put e n j v).lcs c = s.lcs c := by
  simp [State.lcs]

@[simp] theorem State.lcs_raiseWith (s : State) (b : Bool) (k : EvKind) (i p q : Nat) (c : Nat) :
    (s.raiseWith b k i p q).lcs c = s.lcs c := by
  simp [State.lcs]

/-- A channel's orders after another record of it with the same orders is put in its place. -/
theorem State.orders_setLc (s : State) {c : Nat} {k : LcSt} (h : k.orders = (s.lcs c).orders) (d : Nat) :
    ((s.setLc c k).lcs d).orders = (s.lcs d).orders := by
  by_cases hd : d = c
  · subst hd; rw [State.lcs_setLc_same, h]
  · rw [State.lcs_setLc_ne s k hd]

theorem State.cancelLcTest_loadSide (s : State) (c : Nat) : (s.cancelLcTest c).loadSide = s.loadSide := by
  unfold State.cancelLcTest
  split
  · rw [State.raise_eq, State.raiseWith_loadSide, State.setNat_eq, State.put_loadSide _ _ _ _ (by decide), State.endTest_loadSide]
  · rfl

/-- A decision of a channel's output (R389) writes the channel's record and LC_STATE, after a test of it has been cancelled or not: the
record keeps its orders, and a pull-in that is over does not begin again while the channel is on. -/
theorem State.lcUpdate_eq (s : State) (c : Nat) : ∃ (z : State) (k : LcSt) (v : Nat), s.lcUpdate c = (z.setLc c k).setNat Ent.LC_STATE c v ∧
    z.loadSide = s.loadSide ∧ k.orders = (s.lcs c).orders ∧ ((s.lcs c).on = true → (s.lcs c).pullIn = false → k.pullIn = false) := by
  have hcancel (b : Bool) : (if b then s.cancelLcTest c else s).loadSide = s.loadSide := by
    split
    · exact State.cancelLcTest_loadSide ..
    · rfl
  unfold State.lcUpdate
  dsimp only
  split
  next => exact ⟨_, _, _, rfl, rfl, rfl, fun _ _ => rfl⟩
  next => exact ⟨_, _, _, rfl, hcancel _, rfl, fun hon hpull => by simp [hon, hpull]⟩

theorem State.lcs_of_loadSide {s t : State} (h : t.loadSide = s.loadSide) (c : Nat) : t.lcs c = s.lcs c := by
  rw [State.lcs, State.lcs, (State.loadSide_eq_iff.1 h).1]

theorem State.setLc_powerSide (s : State) (c : Nat) (k : LcSt) : (s.setLc c k).powerSide = s.powerSide := rfl

theorem State.put_powerSide (s : State) (e : Entry) (n : Nat) (v : Val) (h : e.sub < 256 ∧ e.sub ≠ 6) :
    (s.put e n 0 v).powerSide = s.powerSide := (State.loadSide_eq_iff.1 (s.put_loadSide e n v h)).2

theorem State.raiseWith_powerSide (s : State) (b : Bool) (k : EvKind) (i p q : Nat) :
    (s.raiseWith b k i p q).powerSide = s.powerSide := (State.loadSide_eq_iff.1 (s.raiseWith_loadSide b k i p q)).2

theorem State.lcUpdate_powerSide (s : State) (c : Nat) : (s.lcUpdate c).powerSide = s.powerSide := by
  obtain ⟨z, k, v, hu, hz, -, -⟩ := s.lcUpdate_eq c
  rw [hu, State.setNat_eq, State.put_powerSide _ _ _ _ (by decide), State.setLc_powerSide]
  exact (State.loadSide_eq_iff.1 hz).2

theorem State.lcUpdate_orders (s : State) (c d : Nat) : ((s.lcUpdate c).lcs d).orders = (s.lcs d).orders := by
  obtain ⟨z, k, v, hu, hz, hk, -⟩ := s.lcUpdate_eq c
  rw [hu, State.setNat_eq, State.lcs_put, State.orders_setLc, State.lcs_of_loadSide hz]
  rw [hk, State.lcs_of_loadSide hz]

/-- A pull-in that is over does not begin again while the channel is on. -/
theorem State.lcUpdate_pullIn (s : State) (c : Nat) (hon : (s.lcs c).on = true) (hpull : (s.lcs c).pullIn = false) :
    ((s.lcUpdate c).lcs c).pullIn = false := by
  obtain ⟨z, k, v, hu, -, -, hk⟩ := s.lcUpdate_eq c
  rw [hu, State.setNat_eq, State.lcs_put, State.lcs_setLc_same]
  exact hk hon hpull

/-- A clamp's energy moves the channel's bucket and lockout, and with them its output (R383). -/
theorem State.absorb_powerSide (s : State) (x : Clamp) : (s.absorb x).powerSide = s.powerSide := by
  unfold State.absorb
  dsimp only
  split
  · rfl
  split
  · rw [State.lcUpdate_powerSide, State.raise_eq, State.raiseWith_powerSide]
    rfl
  · rfl

theorem State.absorb_orders (s : State) (x : Clamp) (d : Nat) : ((s.absorb x).lcs d).orders = (s.lcs d).orders := by
  unfold State.absorb
  dsimp only
  split
  · rfl
  have hbucket : ∀ d, ((s.setLc x.ch { s.lcs x.ch with bucket := s.bucketNow x.ch + ((x.energy : Nat) : Rat), bucketAt := s.ticks }).lcs
      d).orders = (s.lcs d).orders := State.orders_setLc s rfl
  generalize s.setLc x.ch { s.lcs x.ch with bucket := s.bucketNow x.ch + ((x.energy : Nat) : Rat), bucketAt := s.ticks } = z at *
  split
  · have hlock : ((z.setLc x.ch { z.lcs x.ch with lockout := true }).lcs d).orders = (z.lcs d).orders := 
      State.orders_setLc z (k := { z.lcs x.ch with lockout := true }) rfl d
    rw [State.lcUpdate_orders, State.raise_eq, State.lcs_raiseWith, hlock, hbucket]
  · exact hbucket d

/-! ## A packet latched -/

/-- A channel's latch of one packet (R375). -/
def State.latchChannel (s : State) (c : Nat) : State :=
  (s.setLc c { s.lcs c with got := (s.lcs c).cmd, gotDuty := (s.lcs c).duty }).lcUpdate c

theorem State.latchChannels_eq (s : State) : s.latchChannels = s.each (List.range 40) State.latchChannel := rfl

/-- The power die holds for a channel what the control die commands. -/
def LcSt.inForce (k : LcSt) : Prop := k.got = k.cmd ∧ k.gotDuty = k.duty

theorem LcSt.orders_eq_iff {k l : LcSt} : k.orders = l.orders ↔
    k.cmd = l.cmd ∧ k.duty = l.duty ∧ k.got = l.got ∧ k.gotDuty = l.gotDuty ∧ k.wait = l.wait := by
  simp only [LcSt.orders, Prod.mk.injEq]

theorem State.latchChannel_powerSide (s : State) (c : Nat) : (s.latchChannel c).powerSide = s.powerSide := by
  rw [State.latchChannel, State.lcUpdate_powerSide, State.setLc_powerSide]

/-- One channel's latch leaves every command, brings that channel's into force, and leaves those in force. -/
theorem State.latchChannel_commands (s : State) (c d : Nat) :
    ((s.latchChannel c).lcs d).cmd = (s.lcs d).cmd ∧ ((s.latchChannel c).lcs d).duty = (s.lcs d).duty ∧
      (d = c ∨ (s.lcs d).inForce → ((s.latchChannel c).lcs d).inForce) := by
  obtain ⟨hcmd, hduty, hgot, hgotDuty, -⟩ := LcSt.orders_eq_iff.1 (State.lcUpdate_orders
    (s.setLc c { s.lcs c with got := (s.lcs c).cmd, gotDuty := (s.lcs c).duty }) c d)
  simp only [State.latchChannel, LcSt.inForce, hcmd, hduty, hgot, hgotDuty]
  by_cases hd : d = c
  · subst hd
    simp [State.lcs_setLc_same]
  · simp [State.lcs_setLc_ne _ _ hd, hd]

/-- The latch of a list of channels: the commands stay, and each channel of the list has its command in force. -/
theorem State.each_latchChannel (l : List Nat) (s : State) (d : Nat) :
    ((s.each l State.latchChannel).lcs d).cmd = (s.lcs d).cmd ∧ ((s.each l State.latchChannel).lcs d).duty = (s.lcs d).duty ∧
      (d ∈ l ∨ (s.lcs d).inForce → ((s.each l State.latchChannel).lcs d).inForce) := by
  induction l generalizing s with
  | nil => exact ⟨rfl, rfl, fun h => h.resolve_left (List.not_mem_nil)⟩
  | cons c l ih =>
    obtain ⟨hcmd, hduty, hforce⟩ := s.latchChannel_commands c d
    obtain ⟨ihcmd, ihduty, ihforce⟩ := ih (s.latchChannel c)
    refine ⟨ihcmd.trans hcmd, ihduty.trans hduty, fun h => ihforce ?_⟩
    rcases h with h | h
    · rcases List.mem_cons.1 h with h | h
      · exact Or.inr (hforce (Or.inl h))
      · exact Or.inl h
    · exact Or.inr (hforce (Or.inr h))

theorem State.endFailsafe_of_not (s : State) (h : Nat) (hf : (s.half h).failsafe = false) : s.endFailsafe h = s := by
  simp [State.endFailsafe, hf]

/-- The end of fail-safe moves the half, not what the power die holds of its packets. -/
theorem State.endFailsafe_pw (s : State) (h : Nat) : (s.endFailsafe h).pw = s.pw := by
  have hhalf : ∀ (z : State) (x : HalfSt), (z.setHalf h x).pw = z.pw := fun z x => by unfold State.setHalf; split <;> rfl
  unfold State.endFailsafe
  dsimp only
  split
  · rfl
  · rw [State.raise_eq, State.raiseWith_pw, State.setNat_eq, State.put_pw, hhalf]
    exact State.each_keeps _ _ _ State.pw (fun _ _ => rfl)

/-- What follows the latch of the channels in a packet: the clamps and the groups. -/
def State.afterLatch (s : State) (clamps : List Clamp) : State :=
  (s.each clamps State.absorb).each (List.range 8) (fun z g => (z.anchorGroup g).latchGroup g)

/-- The power die holds a valid packet for the cycle. -/
def State.packetHeld (s : State) : State := { s with pw := { s.pw with latched := true, silent := 0 } }

theorem State.latchPacket_eq (s : State) (clamps : List Clamp) :
    s.latchPacket clamps = ((s.packetHeld.endFailsafe 0).endFailsafe 1).latchChannels.afterLatch clamps := rfl

theorem State.latchGroups_loadSide (s : State) : (s.each (List.range 8) (fun z g => (z.anchorGroup g).latchGroup g)).loadSide = s.loadSide :=
  State.each_keeps _ _ _ _ (fun z g => ((z.anchorGroup g).latchGroup_loadSide g).trans (z.anchorGroup_loadSide g))

theorem State.afterLatch_powerSide (s : State) (clamps : List Clamp) : (s.afterLatch clamps).powerSide = s.powerSide := by
  rw [State.afterLatch, (State.loadSide_eq_iff.1 (State.latchGroups_loadSide _)).2]
  exact State.each_keeps _ _ _ _ State.absorb_powerSide

theorem State.afterLatch_orders (s : State) (clamps : List Clamp) (d : Nat) :
    ((s.afterLatch clamps).lcs d).orders = (s.lcs d).orders := by
  rw [State.afterLatch, State.lcs_of_loadSide (State.latchGroups_loadSide _)]
  exact State.each_keeps _ _ _ (fun z => (z.lcs d).orders) (fun z x => z.absorb_orders x d)

/-- A packet latched ends the silence (R12, R16). -/
theorem State.latchPacket_pw (s : State) (clamps : List Clamp) :
    (s.latchPacket clamps).pw = { s.pw with latched := true, silent := 0 } := by
  rw [State.latchPacket_eq, (State.powerSide_eq_iff.1 (State.afterLatch_powerSide _ clamps)).1, State.latchChannels_eq,
    (State.powerSide_eq_iff.1 (State.each_keeps _ _ _ _ State.latchChannel_powerSide)).1, State.endFailsafe_pw, State.endFailsafe_pw]
  rfl

/-- Outside fail-safe a packet latched brings every channel's command and duty into force (R375). -/
theorem State.latchPacket_got (s : State) (clamps : List Clamp) (ha : s.halfA.failsafe = false) (hb : s.halfB.failsafe = false)
    {c : Nat} (hc : c < 40) :
    ((s.latchPacket clamps).lcs c).got = (s.lcs c).cmd ∧ ((s.latchPacket clamps).lcs c).gotDuty = (s.lcs c).duty := by
  rw [State.latchPacket_eq, State.endFailsafe_of_not s.packetHeld 0 ha, State.endFailsafe_of_not s.packetHeld 1 hb, State.latchChannels_eq]
  obtain ⟨hcmd, hduty, hforce⟩ := State.each_latchChannel (List.range 40) s.packetHeld c
  obtain ⟨hgot, hgotDuty⟩ := hforce (Or.inl (List.mem_range.2 hc))
  obtain ⟨-, -, hkeep, hkeepDuty, -⟩ := LcSt.orders_eq_iff.1 (State.afterLatch_orders
    (s.packetHeld.each (List.range 40) State.latchChannel) clamps c)
  exact ⟨hkeep.trans (hgot.trans hcmd), hkeepDuty.trans (hgotDuty.trans hduty)⟩

/-! ## Fail-safe -/

theorem bit_setBit_same (n i : Nat) : bit (setBit n i true) i = true := by
  unfold setBit
  split
  next h => simpa using h
  next h =>
    have hbit : ¬ n / 2 ^ i % 2 = 1 := by simpa [bit] using h
    have hadd : (n + 2 ^ i) / 2 ^ i = n / 2 ^ i + 1 := Nat.add_div_right n (Nat.two_pow_pos i)
    simp only [bit, if_true, hadd, beq_iff_eq]
    omega

/-- Setting a bit above the lowest leaves the lowest. -/
theorem bit_zero_setBit_one (n : Nat) : bit (setBit n 1 true) 0 = bit n 0 := by
  unfold setBit
  split
  · rfl
  · simp [bit]

/-- A healthy half that is not in fail-safe enters it: its own record and its bit of FAILSAFE_ACTIVE, and the other half stays. -/
theorem State.applyFailsafe_powerSide (s : State) (h : Nat) (hf : (s.half h).failsafe = false) (hok : s.pwOk h = true) :
    (s.applyFailsafe h).powerSide =
      (s.pw, (s.setHalf h { s.half h with failsafe := true, failSince := s.ticks }).halfA,
        (s.setHalf h { s.half h with failsafe := true, failSince := s.ticks }).halfB,
        .num (setBit (s.nat Ent.FAILSAFE_ACTIVE) h true : Nat)) := by
  have hpw : ∀ x : HalfSt, (s.setHalf h x).pw = s.pw := fun x => by unfold State.setHalf; split <;> rfl
  have hbump : ∀ z : State, (z.bump Ent.FAILSAFE_COUNT).powerSide = z.powerSide := fun z =>
    (State.loadSide_eq_iff.1 (z.bump_loadSide Ent.FAILSAFE_COUNT 0 1 (by decide))).2
  unfold State.applyFailsafe
  simp only [hf, hok, Bool.not_true, Bool.or_false, Bool.false_eq_true, if_false]
  generalize hx : ({ s.half h with failsafe := true, failSince := s.ticks } : HalfSt) = x
  obtain ⟨hz, hA, hB, -⟩ := State.powerSide_eq_iff.1 (State.each_keeps (s.setHalf h x) (halfChannels h) (fun z c => z.lcUpdate c)
    State.powerSide State.lcUpdate_powerSide)
  rw [State.raise_eq, State.raiseWith_powerSide, hbump]
  simp only [State.powerSide, State.setNat_eq, State.put_pw, State.put_halfA, State.put_halfB, State.val_put_same, hz, hA, hB, hpw]

/-- Half A applies its fail-safe states since `k`, and FAILSAFE_ACTIVE shows it. -/
def State.failsafeA (s : State) (k : Nat) : Prop :=
  s.halfA.failsafe = true ∧ s.halfA.failSince = k ∧ bit (s.nat Ent.FAILSAFE_ACTIVE) 0 = true

theorem State.failsafeA_of_powerSide {s t : State} {k : Nat} (h : t.powerSide = s.powerSide) (hs : s.failsafeA k) : t.failsafeA k := by
  obtain ⟨-, hA, -, hval⟩ := State.powerSide_eq_iff.1 h
  simpa only [State.failsafeA, hA, State.nat_def, hval] using hs

theorem State.applyFailsafe_failsafeA (s : State) (hf : s.halfA.failsafe = false) (hok : s.pwOk 0 = true) :
    (s.applyFailsafe 0).failsafeA s.ticks := by
  have h := s.applyFailsafe_powerSide 0 hf hok
  simp only [State.powerSide, Prod.mk.injEq] at h
  obtain ⟨-, hA, -, hval⟩ := h
  rw [State.failsafeA, hA, State.nat_def, hval]
  exact ⟨rfl, rfl, bit_setBit_same _ 0⟩

/-- Half B's fail-safe leaves half A's. -/
theorem State.applyFailsafe_one_failsafeA {s : State} {k : Nat} (hs : s.failsafeA k) : (s.applyFailsafe 1).failsafeA k := by
  by_cases hkept : (s.half 1).failsafe = false ∧ s.pwOk 1 = true
  · have h := s.applyFailsafe_powerSide 1 hkept.1 hkept.2
    simp only [State.powerSide, Prod.mk.injEq] at h
    obtain ⟨-, hA, -, hval⟩ := h
    obtain ⟨hfail, hsince, hbit⟩ := hs
    rw [State.failsafeA, hA, State.nat_def, hval]
    exact ⟨hfail, hsince, (bit_zero_setBit_one _).trans hbit⟩
  · have hid : s.applyFailsafe 1 = s := by
      unfold State.applyFailsafe
      refine if_pos ?_
      cases hf : (s.half 1).failsafe <;> simp_all
    rwa [hid]

/-! ## The commands -/

/-- A counter whose sum fits its entry shows the sum. -/
theorem State.bump_of_fits {s : State} {e : Entry} {n j m : Nat} (h : s.nat e n j + m < 2 ^ e.type.bits) :
    s.bump e n j m = s.setNat e n (s.nat e n j + m) j := if_pos h

theorem State.nat_setNat_same (s : State) (e : Entry) (n v j : Nat) : (s.setNat e n v j).nat e n j = v := by
  simp [State.nat_def]

/-- An event's record rests on the log, the frame, the cycle and the state of site time. -/
theorem State.raise_ev_congr {s t : State} (hev : t.ev = s.ev) (hsfn : t.sfn = s.sfn) (hcycle : t.cycle = s.cycle) (htime : t.time = s.time)
    (k : EvKind) (i p q : Nat) : (t.raise k i p q).ev = (s.raise k i p q).ev := by
  simp only [State.raise, State.raiseWith, State.record, hev, hsfn, hcycle, htime]
  split <;> rfl

/-- A command packet on the state after the control work of the cycle: discarded, of the standby, rejected, or latched (R12, R66, R386). -/
theorem execCommandPacket_eq (die : Fin 2) (crc word : Bool) (clamps : List Clamp) (s : State) :
    execCommandPacket die crc word clamps s = .next
      (if crc = false ∨ s.runWork.isQuiet die.val = true then s.runWork
       else if die.val ≠ s.runWork.pw.active then
         s.runWork.countStandby.raise Evt.STANDBY_PACKET die.val s.runWork.countStandby.pw.standbyPackets 0
       else if word = false then s.runWork.bump Ent.WATCHDOG_REJECTS
       else s.runWork.latchPacket clamps) := by
  have houter : ((!crc || s.runWork.isQuiet die.val) = true) ↔ (crc = false ∨ s.runWork.isQuiet die.val = true) := by simp
  have hactive : ((die.val != s.runWork.pw.active) = true) ↔ die.val ≠ s.runWork.pw.active := by simp
  have hword : ((!word) = true) ↔ word = false := by simp
  unfold execCommandPacket
  simp only [houter, hactive, hword, ok]
  split
  · rfl
  split
  · rfl
  split <;> rfl

/-- A packet of the standby, counted and reported (R12). -/
theorem State.countStandby_raise {z : State} (die : Nat)
    (hfit : z.nat Ent.STANDBY_PACKET_COUNT + 1 < 2 ^ Ent.STANDBY_PACKET_COUNT.type.bits) :
    let t := z.countStandby.raise Evt.STANDBY_PACKET die z.countStandby.pw.standbyPackets 0
    t.pw = { z.pw with standbyPackets := z.pw.standbyPackets + 1 } ∧
      t.nat Ent.STANDBY_PACKET_COUNT = z.nat Ent.STANDBY_PACKET_COUNT + 1 ∧
      z.raised t Evt.STANDBY_PACKET die (z.pw.standbyPackets + 1) 0 ∧ { t with pw := z.pw, cells := z.cells, ev := z.ev } = z := by
  intro t
  have hcount : z.countStandby = ({ z with pw := { z.pw with standbyPackets := z.pw.standbyPackets + 1 } } : State).setNat
      Ent.STANDBY_PACKET_COUNT 0 (z.nat Ent.STANDBY_PACKET_COUNT + 1) := State.bump_of_fits hfit
  have hpackets : z.countStandby.pw.standbyPackets = z.pw.standbyPackets + 1 := by rw [hcount]; simp
  have ht : t = z.countStandby.raise Evt.STANDBY_PACKET die (z.pw.standbyPackets + 1) 0 := by rw [← hpackets]
  rw [ht, hcount]
  refine ⟨by simp, ?_, State.raise_ev_congr (by simp) (by simp) (by simp) (by simp) .., ?_⟩
  · rw [State.nat_def, State.raise_eq, State.val_raiseWith, ← State.nat_def, State.nat_setNat_same]
  · unfold State.raise State.raiseWith
    split <;> rfl

/-- A packet of the active die with a wrong service word, counted (R386). -/
theorem State.bump_watchdogRejects {z : State} (hfit : z.nat Ent.WATCHDOG_REJECTS + 1 < 2 ^ Ent.WATCHDOG_REJECTS.type.bits) :
    (z.bump Ent.WATCHDOG_REJECTS).nat Ent.WATCHDOG_REJECTS = z.nat Ent.WATCHDOG_REJECTS + 1 ∧
      z.cellsKept (z.bump Ent.WATCHDOG_REJECTS) [Ent.WATCHDOG_REJECTS.key] ∧
      { z.bump Ent.WATCHDOG_REJECTS with cells := z.cells } = z := by
  rw [State.bump_of_fits hfit]
  refine ⟨State.nat_setNat_same .., fun k hk => ?_, rfl⟩
  rw [State.setNat_eq]
  exact State.find_cells_put_ne _ _ _ _ _ _ (fun h => hk (List.mem_singleton.2 h))

theorem execFailsafeTimeout_silent {s : State} (clamps : List Clamp) (hsilent : 4 ≤ s.pw.silent) :
    execFailsafeTimeout clamps s = .next ((((s.applyFailsafe 0).applyFailsafe 1).allGatesOff).each clamps State.absorb) :=
  if_neg (Nat.not_lt.2 hsilent)

/-- After four silent cycles a healthy half A stands in fail-safe, and the gates and clamps that follow leave it there (R16, R388). -/
theorem State.failsafeTimeout_failsafeA {s : State} (clamps : List Clamp) (hok : s.pwOk 0 = true) (hf : s.halfA.failsafe = false) :
    ((((s.applyFailsafe 0).applyFailsafe 1).allGatesOff).each clamps State.absorb).failsafeA s.ticks := by
  have hfirst := State.applyFailsafe_one_failsafeA (s.applyFailsafe_failsafeA hf hok)
  refine State.failsafeA_of_powerSide ?_ hfirst
  exact (State.each_keeps _ _ _ _ State.absorb_powerSide).trans (State.loadSide_eq_iff.1 (State.allGatesOff_loadSide _)).2

/-- The owner of a channel rests on the active set (R377). -/
theorem State.lcOwner_of_actSet {s t : State} (h : t.actSet = s.actSet) (c : Nat) : t.lcOwner c = s.lcOwner c := by
  have hnat (e : Entry) (he : e.inSets = true) (n : Nat) : t.nat e n = s.nat e n := by
    simp only [State.nat, State.int, State.val, he, if_true, h]
  simp only [State.lcOwner, ownerOf, hnat Ent.CONTACTOR_CHANNEL (by decide), hnat Ent.LOCK_CHANNEL (by decide),
    hnat Ent.POS_CHANNEL (by decide), hnat Ent.NEG_CHANNEL (by decide), hnat Ent.PRE_CHANNEL (by decide),
    hnat Ent.LOOP_ENABLE (by decide), hnat Ent.OUT_TARGET (by decide)]

theorem State.taken_actSet (s : State) (h : Held) : (s.taken h).actSet = s.actSet := (congrArg State.actSet (s.taken_frame h) :)
theorem State.taken_lc (s : State) (h : Held) : (s.taken h).lc = s.lc := (congrArg State.lc (s.taken_frame h) :)

theorem State.taken_lcOwner (s : State) (h : Held) (c : Nat) : (s.taken h).lcOwner c = s.lcOwner c :=
  State.lcOwner_of_actSet (s.taken_actSet h) c

/-- A write that an effect refuses is answered with its status, and the channels stay. -/
theorem State.clientCommand_refused {s : State} {c : Client} {e : Entry} {n : Nat} {v : Val} {h : Held}
    (act : State → State × Nat) {st : Nat} (ha : s.accepts c e n v h) (hact : act (s.taken h) = (s.taken h, st)) :
    (s.clientCommand c e n v act).repliesWith h st ∧ (s.clientCommand c e n v act).lc = s.lc := by
  rw [State.clientCommand_accepted act ha, hact]
  exact ⟨State.answerLater_repliesWith .., (State.answerLater_lc ..).trans (s.taken_lc h)⟩

theorem applyLcCommand_owned {s : State} {c : Nat} (v : Nat) (h : s.lcOwner c ≠ 0) : applyLcCommand c v s = (s, St.CONFLICT) := by
  simp [applyLcCommand, h]

theorem applyLcCommand_free {s : State} {c : Nat} (v : Nat) (h : s.lcOwner c = 0) :
    applyLcCommand c v s = ((s.setNat Ent.LC_COMMAND c v).lcCommand c (v == 1), St.OK) := by
  simp [applyLcCommand, h]

theorem applyLcDuty_owned {s : State} {c : Nat} (v : Nat) (h : s.lcOwner c ≠ 0) : applyLcDuty c v s = (s, St.CONFLICT) := by
  simp [applyLcDuty, h]

theorem applyLcDuty_free {s : State} {c : Nat} (v : Nat) (h : s.lcOwner c = 0) :
    applyLcDuty c v s = ((s.setNat Ent.LC_DUTY c v).lcDuty c (F32.toRat v), St.OK) := by
  simp [applyLcDuty, h]

theorem State.answerLater_lcs (s : State) (h : Held) (st : Nat) (body : List Byte) (c : Nat) :
    (s.answerLater h st body).lcs c = s.lcs c := by
  rw [State.lcs, State.lcs, State.answerLater_lc]

/-- The command of a channel, taken (R375, R377). -/
theorem State.lcCommand_taken {s : State} {c : Nat} (v : Nat) (on : Bool) (hc : c < 40) :
    ((s.setNat Ent.LC_COMMAND c v).lcCommand c on).nat Ent.LC_COMMAND c = v ∧
      ((s.setNat Ent.LC_COMMAND c v).lcCommand c on).lcs c = { s.lcs c with cmd := on } := by
  rw [State.lcCommand, if_pos hc]
  exact ⟨State.nat_setNat_same s Ent.LC_COMMAND c v 0, by rw [State.lcs_setLc_same, State.setNat_eq, State.lcs_put]⟩

theorem State.lcDuty_taken {s : State} {c : Nat} (v : Nat) (q : Rat) (hc : c < 40) :
    (((s.setNat Ent.LC_DUTY c v).lcDuty c q).lcs c).duty = dutySteps q := by
  rw [State.lcDuty, if_pos hc, State.lcs_setLc_same]

theorem execLcPullInEnd_due {s : State} {ch : Fin 40} (hon : (s.lcs ch).on = true) (hpull : (s.lcs ch).pullIn = true)
    (hdue : (s.lcs ch).onAt + msTicks (s.nat Ent.LC_PULL_IN_TIME ch) ≤ s.ticks) :
    execLcPullInEnd ch s = .next ((s.setLc ch { s.lcs ch with pullIn := false }).lcUpdate ch) := by
  simp [execLcPullInEnd, hon, hpull, hdue, ok]

theorem execLcRetry_due {s : State} {ch : Fin 40} {b : Nat} (hwait : (s.lcs ch).wait = some b) (hdue : b ≤ s.ticks)
    (hcool : (s.lcs ch).thermal = false) :
    execLcRetry ch s = .next ((s.setLc ch { s.lcs ch with wait := none }).lcUpdate ch) := by
  simp [execLcRetry, hwait, hdue, hcool, ok]

theorem execLcRetryBudgetReset_due {s : State} {ch : Fin 40} {b : Nat} (hspan : (s.lcs ch).span = some b) (hon : (s.lcs ch).on = true)
    (hlimit : (s.lcs ch).limiting = false) (hdue : b + msTicks (s.nat Ent.LC_RETRY_CLEAR_TIME ch) ≤ s.ticks) :
    execLcRetryBudgetReset ch s = .next (s.setNat Ent.LC_RETRIES_USED ch 0) := by
  simp [execLcRetryBudgetReset, hspan, hon, hlimit, hdue, ok]

/-- Settles O47: the branches of a packet, the fail-safe of half A, the two writes, and the ends of a channel's times. -/
theorem packetsCommandTheLoadChannels : Obligations.PacketsCommandTheLoadChannels := by
  intro s
  refine ⟨fun die crc word clamps => ?_, fun clamps => ?_, fun c ch v h ha hch => ⟨fun hown => ?_, fun hfree => ?_⟩,
    fun c ch v h ha hch => ⟨fun hown => ?_, fun hfree => ?_⟩, fun ch hon hpull hdue => ?_, fun ch b hwait hdue hcool => ?_,
    fun ch b hspan hon hlimit hdue => ?_⟩
  · refine ⟨_, execCommandPacket_eq die crc word clamps s, fun hdrop => if_pos hdrop, ?_, ?_, ?_⟩
    · intro hcrc hquiet hstandby hfit
      rw [if_neg (by simp [hcrc, hquiet]), if_pos hstandby]
      exact State.countStandby_raise die.val hfit
    · intro hcrc hquiet hactive hword hfit
      rw [if_neg (by simp [hcrc, hquiet]), if_neg (not_not.2 hactive), if_pos hword]
      exact State.bump_watchdogRejects hfit
    · intro hcrc hquiet hactive hword
      rw [if_neg (by simp [hcrc, hquiet]), if_neg (not_not.2 hactive), if_neg (by simp [hword])]
      exact ⟨State.latchPacket_pw _ clamps, fun hA hB c hc => State.latchPacket_got _ clamps hA hB hc⟩
  · by_cases hsilent : s.pw.silent < 4
    · exact ⟨s, if_pos hsilent, fun _ => rfl, fun h => absurd hsilent (Nat.not_lt.2 h)⟩
    · exact ⟨_, execFailsafeTimeout_silent clamps (Nat.not_lt.1 hsilent), fun h => absurd h hsilent,
        fun _ hok hf => State.failsafeTimeout_failsafeA clamps hok hf⟩
  · exact ⟨_, rfl, State.clientCommand_refused _ ha (applyLcCommand_owned v (by rwa [State.taken_lcOwner]))⟩
  · refine ⟨_, rfl, ?_⟩
    rw [State.clientCommand_accepted _ ha, applyLcCommand_free v (by rwa [State.taken_lcOwner])]
    obtain ⟨hnat, hlcs⟩ := (s.taken h).lcCommand_taken v (v == 1) hch
    refine ⟨State.answerLater_repliesWith .., ?_, ?_⟩
    · rwa [State.nat_def, State.val_answerLater]
    · rw [State.answerLater_lcs, hlcs, State.lcs, State.lcs, State.taken_lc]
  · exact ⟨_, rfl, State.clientCommand_refused _ ha (applyLcDuty_owned v (by rwa [State.taken_lcOwner]))⟩
  · refine ⟨_, rfl, ?_⟩
    rw [State.clientCommand_accepted _ ha, applyLcDuty_free v (by rwa [State.taken_lcOwner])]
    exact ⟨State.answerLater_repliesWith .., by rw [State.answerLater_lcs]; exact State.lcDuty_taken v _ hch⟩
  · refine ⟨_, execLcPullInEnd_due hon hpull hdue, State.lcUpdate_pullIn _ _ ?_ ?_⟩ <;> rw [State.lcs_setLc_same]
    exact hon
  · refine ⟨_, execLcRetry_due hwait hdue hcool, ?_⟩
    obtain ⟨-, -, -, -, hkept⟩ := LcSt.orders_eq_iff.1 (State.lcUpdate_orders (s.setLc ch { s.lcs ch with wait := none }) ch ch)
    rw [hkept, State.lcs_setLc_same]
  · refine ⟨_, execLcRetryBudgetReset_due hspan hon hlimit hdue, State.nat_setNat_same .., fun k hk => ?_, rfl⟩
    rw [State.setNat_eq]
    exact State.find_cells_put_ne _ _ _ _ _ _ (fun h => hk (List.mem_singleton.2 h))

end Sys2Proof.Machine
end

section
/-!
PROOFS. The step of the frame boundary that is done (R19) stands among the engine's state. Only the boundary's own commands move it, the
tick takes it back to 0, and a start of every die resets it: every operation of the cycle and of steps 1 and 2 keeps it. One law an
operation, as in Laws/Clock.
-/
namespace Sys2Proof.Machine
open Sys2Proof

@[simp] theorem State.step_ite (c : Prop) [Decidable c] (a b : State) : (if c then a else b).tx.step = if c then a.tx.step else b.tx.step := by
  split <;> rfl

@[simp] theorem State.each_step {α : Type} (s : State) (l : List α) (f : State → α → State) (h : ∀ z a, (f z a).tx.step = z.tx.step) :
    (s.each l f).tx.step = s.tx.step := State.each_keeps s l f (fun z => z.tx.step) h

@[simp] theorem State.when_step (s : State) (c : Bool) (f : State → State) (h : ∀ z, (f z).tx.step = z.tx.step) :
    (s.when c f).tx.step = s.tx.step := State.when_keeps s c f (fun z => z.tx.step) h

/-- Messages sent for each element of a list. -/
@[simp] theorem State.each_send_step {α : Type} (s : State) (l : List α) (m : State → α → Msg) :
    (s.each l (fun z a => z.send (m z a))).tx.step = s.tx.step := State.each_keeps s l _ (fun z => z.tx.step) (fun _ _ => rfl)

/-! ### Machine/Ops -/

@[simp] theorem State.takeFree_step (s : State) : s.takeFree.2.tx.step = s.tx.step := by simp [State.takeFree]

/-! ### Machine/Engine -/

@[simp] theorem State.keep_step (s : State) (k : Kept) : (s.keep k).tx.step = s.tx.step := by simp [State.keep]

@[simp] theorem State.answerLater_step (s : State) (h : Held) (status : Nat) (body : List Byte) :
    (s.answerLater h status body).tx.step = s.tx.step := by simp [State.answerLater]

/-! ### Machine/Streams -/

@[simp] theorem State.setStrm_step (s : State) (t : Nat) (q : StreamQ) : (s.setStrm t q).tx.step = s.tx.step := by simp [State.setStrm]
@[simp] theorem State.reportDrops_step (s : State) (t : Nat) : (s.reportDrops t).tx.step = s.tx.step := by simp [State.reportDrops]

@[simp] theorem State.streamRecord_step (s : State) (t : Nat) (r : List Byte) : (s.streamRecord t r).tx.step = s.tx.step := by
  simp [State.streamRecord]

@[simp] theorem State.holdRecord_step (s : State) (t : Nat) (r : List Byte) : (s.holdRecord t r).tx.step = s.tx.step := by
  simp [State.holdRecord]

@[simp] theorem State.streamLog_step (s : State) (kind : Nat) (r : List Byte) : (s.streamLog kind r).tx.step = s.tx.step := by
  simp [State.streamLog]

/-! ### Machine/ModuleBus -/

@[simp] theorem State.setUnitSt_step (s : State) (u : Nat) (x : UnitSt) : (s.setUnitSt u x).tx.step = s.tx.step := by simp [State.setUnitSt]

@[simp] theorem State.setUnitNat_step (s : State) (m f : Entry) (u v : Nat) : (s.setUnitNat m f u v).tx.step = s.tx.step := by
  simp [State.setUnitNat]

@[simp] theorem State.setCan_step (s : State) (ch : Nat) (x : CanSt) : (s.setCan ch x).tx.step = s.tx.step := by simp [State.setCan]
@[simp] theorem State.initBus_step (s : State) (ch : Nat) : (s.initBus ch).tx.step = s.tx.step := by simp [State.initBus]
@[simp] theorem State.placeBus_step (s : State) : s.placeBus.tx.step = s.tx.step := by simp [State.placeBus]
@[simp] theorem State.enqueue_step (s : State) (from_ : Nat) (m : Msg) : (s.enqueue from_ m).tx.step = s.tx.step := by simp [State.enqueue]
@[simp] theorem State.sendBus_step (s : State) (m : Msg) : (s.sendBus m).tx.step = s.tx.step := by simp [State.sendBus]
@[simp] theorem State.flushBus_step (s : State) : s.flushBus.tx.step = s.tx.step := by simp [State.flushBus]

@[simp] theorem State.noteRehome_step (s : State) (e : Entry) (n : Nat) : (s.noteRehome e n).tx.step = s.tx.step := by
  simp [State.noteRehome]

@[simp] theorem State.sendMarks_step (s : State) : s.sendMarks.tx.step = s.tx.step := by simp [State.sendMarks]

@[simp] theorem State.setGrants_step (s : State) (u : Nat) (g : UnitGrant) : (s.setGrants u g).tx.step = s.tx.step := by
  simp [State.setGrants]

@[simp] theorem State.command_step (s : State) (m sub : Nat) (body : List Byte) : (s.command m sub body).tx.step = s.tx.step := by
  simp [State.command]

@[simp] theorem State.target_step (s : State) (m mode volts amps : Nat) : (s.target m mode volts amps).tx.step = s.tx.step := by
  simp [State.target]

@[simp] theorem State.startXfer_step (s : State) (u : Nat) (write : Bool) (index sub type : Nat) (value : List Byte) :
    (s.startXfer u write index sub type value).tx.step = s.tx.step := by
  unfold State.startXfer
  split <;> simp

@[simp] theorem State.drainRings_step (s : State) : s.drainRings.tx.step = s.tx.step := by
  refine State.each_step _ _ _ fun z ch => ?_
  dsimp only
  split
  · rfl
  · exact State.each_keeps _ _ State.noteIn (fun z => z.tx.step) (fun z i => by simp)

/-! ### Machine/Actions -/

@[simp] theorem applyArm_step (i : Nat) (s : State) : (applyArm i s).1.tx.step = s.tx.step := by
  unfold applyArm
  dsimp only
  (repeat' split) <;> simp [*]

@[simp] theorem State.setGroup_step (s : State) (i : Nat) (g : GroupAct) : (s.setGroup i g).tx.step = s.tx.step := by simp [State.setGroup]

@[simp] theorem State.sendPhase_step (s : State) (i op u : Nat) (b : List Byte) : (s.sendPhase i op u b).tx.step = s.tx.step := by
  unfold State.sendPhase
  split <;> simp

@[simp] theorem State.sendTwoPhase_step (s : State) (i op : Nat) (units : List Nat) : (s.sendTwoPhase i op units).tx.step = s.tx.step := by
  simp [State.sendTwoPhase]

@[simp] theorem State.actionEvent_step (s : State) (k : EvKind) (i p2 : Nat) : (s.actionEvent k i p2).tx.step = s.tx.step := by
  simp [State.actionEvent]

@[simp] theorem State.cancelAction_step (s : State) (i result : Nat) : (s.cancelAction i result).tx.step = s.tx.step := by
  simp [State.cancelAction]

@[simp] theorem State.cancelGroup_step (s : State) (i result : Nat) : (s.cancelGroup i result).tx.step = s.tx.step := by
  simp [State.cancelGroup]

@[simp] theorem applyCancel_step (i : Nat) (s : State) : (applyCancel i s).1.tx.step = s.tx.step := by
  unfold applyCancel
  dsimp only
  (repeat' split) <;> simp [*]

@[simp] theorem State.dropGroup_step (s : State) (i : Nat) : (s.dropGroup i).tx.step = s.tx.step := by
  unfold State.dropGroup
  split <;> simp

@[simp] theorem applyFree_step (i : Nat) (s : State) : (applyFree i s).1.tx.step = s.tx.step := by
  unfold applyFree
  dsimp only
  (repeat' split) <;> simp [*]

/-! ### Machine/Legal -/

@[simp] theorem State.setPoint_step (s : State) (pt : Nat) (k : PointSt) : (s.setPoint pt k).tx.step = s.tx.step := by simp [State.setPoint]
@[simp] theorem State.showPoint_step (s : State) (pt : Nat) : (s.showPoint pt).tx.step = s.tx.step := by simp [State.showPoint]
@[simp] theorem State.showLegal_step (s : State) : s.showLegal.tx.step = s.tx.step := by simp [State.showLegal]

@[simp] theorem State.legalLog_step (s : State) (kind origin object p1 p2 : Nat) :
    (s.legalLog kind origin object p1 p2).tx.step = s.tx.step := by simp [State.legalLog]

@[simp] theorem State.markInterval_step (s : State) (i : Nat) : (s.markInterval i).tx.step = s.tx.step := by simp [State.markInterval]
@[simp] theorem State.markPoint_step (s : State) (pt i : Nat) : (s.markPoint pt i).tx.step = s.tx.step := by simp [State.markPoint]

@[simp] theorem State.resumeSession_step (s : State) (pt d : Nat) : (s.resumeSession pt d).tx.step = s.tx.step := by
  unfold State.resumeSession
  (repeat' split) <;> simp

@[simp] theorem State.logSource_step (s : State) (pt : Nat) : (s.logSource pt).tx.step = s.tx.step := by simp [State.logSource]

@[simp] theorem State.setSource_step (s : State) (pt d cause : Nat) : (s.setSource pt d cause).tx.step = s.tx.step := by
  simp [State.setSource]

@[simp] theorem State.abandonStagger_step (s : State) (cause : Nat) : (s.abandonStagger cause).tx.step = s.tx.step := by
  unfold State.abandonStagger
  split <;> simp

@[simp] theorem State.metersSingle_step (s : State) (d diag : Nat) : (s.metersSingle d diag).tx.step = s.tx.step := by
  simp [State.metersSingle]

/-! ### Machine/Measurement -/

@[simp] theorem State.showChan_step (s : State) (ch : Nat) (v0 v1 source : Bool) (c0 c1 : Nat) :
    (s.showChan ch v0 v1 source c0 c1).tx.step = s.tx.step := by simp [State.showChan]

@[simp] theorem State.chooseSource_step (s : State) (ch : Nat) (v0 v1 : Bool) (c0 c1 : Nat) :
    (s.chooseSource ch v0 v1 c0 c1).tx.step = s.tx.step := by simp [State.chooseSource]

@[simp] theorem State.accumulate_step (s : State) : s.accumulate.tx.step = s.tx.step := by simp [State.accumulate]
@[simp] theorem State.invalidateDie_step (s : State) (d : Nat) : (s.invalidateDie d).tx.step = s.tx.step := by simp [State.invalidateDie]
@[simp] theorem State.failMeter_step (s : State) (d diag : Nat) : (s.failMeter d diag).tx.step = s.tx.step := by simp [State.failMeter]

@[simp] theorem State.refuseCapture_step (s : State) (reason : Nat) : (s.refuseCapture reason).tx.step = s.tx.step := by
  simp [State.refuseCapture]

@[simp] theorem State.trigger_step (s : State) (forced : Bool) (ns x : Nat) : (s.trigger forced ns x).tx.step = s.tx.step := by
  unfold State.trigger
  (repeat' split) <;> simp

@[simp] theorem applyCaptureForce_step (s : State) : (applyCaptureForce s).1.tx.step = s.tx.step := by
  unfold applyCaptureForce
  split <;> simp

/-! ### Machine/Tests -/

@[simp] theorem State.setTests_step (s : State) (l : List QTest) : (s.setTests l).tx.step = s.tx.step := by simp [State.setTests]

@[simp] theorem State.beginTest_step (s : State) (target : Nat) (slot : Option Nat) : (s.beginTest target slot).tx.step = s.tx.step := by
  simp [State.beginTest]

@[simp] theorem State.endTest_step (s : State) (target status : Nat) : (s.endTest target status).tx.step = s.tx.step := by
  unfold State.endTest
  (repeat' split) <;> simp

@[simp] theorem State.testOrQueue_step (s : State) (target : Nat) (value : List Byte) (queue inService : Bool)
    (start : State → Option Nat → State) (hstart : ∀ z a, (start z a).tx.step = z.tx.step) :
    (s.testOrQueue target value queue inService start).1.tx.step = s.tx.step := by
  unfold State.testOrQueue
  (repeat' split) <;> simp [*]

@[simp] theorem State.cancelChannel_step (s : State) (ch : Nat) : (s.cancelChannel ch).tx.step = s.tx.step := by
  unfold State.cancelChannel
  dsimp only
  (repeat' split) <;> simp [*]

@[simp] theorem State.changeTickLine_step (s : State) (deviation : Nat) : (s.changeTickLine deviation).tx.step = s.tx.step := by
  simp [State.changeTickLine]

/-! ### Machine/Allocator -/

@[simp] theorem State.startMove_step (s : State) (m : Nat) (kind : MoveKind) (src dst step : Nat) :
    (s.startMove m kind src dst step).tx.step = s.tx.step := by simp [State.startMove]

@[simp] theorem State.abortUnitTest_step (s : State) (u : Nat) : (s.abortUnitTest u).tx.step = s.tx.step := by
  unfold State.abortUnitTest
  split <;> simp

@[simp] theorem State.decreaseTo_step (s : State) (u : Nat) (v : Int) : (s.decreaseTo u v).tx.step = s.tx.step := by simp [State.decreaseTo]

/-! ### Machine/Converter -/

@[simp] theorem State.setLeg_step (s : State) (p : Nat) (k : PhaseSt) : (s.setLeg p k).tx.step = s.tx.step := by simp [State.setLeg]
@[simp] theorem State.setConv_step (s : State) (g : Nat) (k : GroupSt) : (s.setConv g k).tx.step = s.tx.step := by simp [State.setConv]
@[simp] theorem State.setPhase_step (s : State) (p st : Nat) : (s.setPhase p st).tx.step = s.tx.step := by simp [State.setPhase]
@[simp] theorem State.setStr_step (s : State) (n : Nat) (k : StrSt) : (s.setStr n k).tx.step = s.tx.step := by simp [State.setStr]
@[simp] theorem State.followLimit_step (s : State) (g l : Nat) : (s.followLimit g l).tx.step = s.tx.step := by simp [State.followLimit]
@[simp] theorem State.groupLimits_step (s : State) (g : Nat) : (s.groupLimits g).tx.step = s.tx.step := by simp [State.groupLimits]
@[simp] theorem State.loadLine_step (s : State) (g : Nat) : (s.loadLine g).tx.step = s.tx.step := by simp [State.loadLine]

@[simp] theorem State.cancelPhaseTest_step (s : State) (p : Nat) : (s.cancelPhaseTest p).tx.step = s.tx.step := by
  simp [State.cancelPhaseTest]

@[simp] theorem State.gatesOff_step (s : State) (g st : Nat) : (s.gatesOff g st).tx.step = s.tx.step := by simp [State.gatesOff]
@[simp] theorem State.rangeWatch_step (s : State) (g : Nat) : (s.rangeWatch g).tx.step = s.tx.step := by simp [State.rangeWatch]
@[simp] theorem State.watchPhase_step (s : State) (g p : Nat) : (s.watchPhase g p).tx.step = s.tx.step := by simp [State.watchPhase]
@[simp] theorem State.groupCycle_step (s : State) (g : Nat) : (s.groupCycle g).tx.step = s.tx.step := by simp [State.groupCycle]
@[simp] theorem State.stopGroup_step (s : State) (g : Nat) : (s.stopGroup g).tx.step = s.tx.step := by simp [State.stopGroup]
@[simp] theorem State.cutGroup_step (s : State) (g : Nat) : (s.cutGroup g).tx.step = s.tx.step := by simp [State.cutGroup]

@[simp] theorem State.disconnectGroup_step (s : State) (g : Nat) : (s.disconnectGroup g).tx.step = s.tx.step := by
  simp [State.disconnectGroup]

@[simp] theorem State.failPhase_step (s : State) (p cause st : Nat) : (s.failPhase p cause st).tx.step = s.tx.step := by
  simp [State.failPhase]

@[simp] theorem State.unpowerHalf_step (s : State) (h : Nat) : (s.unpowerHalf h).tx.step = s.tx.step := by simp [State.unpowerHalf]

/-! ### Machine/LoadSwitch -/

@[simp] theorem State.setLc_step (s : State) (c : Nat) (k : LcSt) : (s.setLc c k).tx.step = s.tx.step := by simp [State.setLc]
@[simp] theorem State.setHalf_step (s : State) (h : Nat) (x : HalfSt) : (s.setHalf h x).tx.step = s.tx.step := by simp [State.setHalf]
@[simp] theorem State.cancelLcTest_step (s : State) (c : Nat) : (s.cancelLcTest c).tx.step = s.tx.step := by simp [State.cancelLcTest]

@[simp] theorem State.lcUpdate_step (s : State) (c : Nat) : (s.lcUpdate c).tx.step = s.tx.step := by
  unfold State.lcUpdate
  dsimp only
  (repeat' split) <;> simp [*]

@[simp] theorem State.showLc_step (s : State) (c : Nat) : (s.showLc c).tx.step = s.tx.step := by simp [State.showLc]
@[simp] theorem State.lcCommand_step (s : State) (c : Nat) (on : Bool) : (s.lcCommand c on).tx.step = s.tx.step := by simp [State.lcCommand]
@[simp] theorem State.lcDuty_step (s : State) (c : Nat) (q : Rat) : (s.lcDuty c q).tx.step = s.tx.step := by simp [State.lcDuty]
@[simp] theorem State.setWeld_step (s : State) (c : Nat) (b : Bool) : (s.setWeld c b).tx.step = s.tx.step := by simp [State.setWeld]

/-! ### Machine/Outlets -/

@[simp] theorem State.setSess_step (s : State) (o : Nat) (k : Sess) : (s.setSess o k).tx.step = s.tx.step := by simp [State.setSess]
@[simp] theorem State.setLine_step (s : State) (o : Nat) (k : LineSt) : (s.setLine o k).tx.step = s.tx.step := by simp [State.setLine]
@[simp] theorem State.closeLink_step (s : State) (o : Nat) : (s.closeLink o).tx.step = s.tx.step := by simp [State.closeLink]
@[simp] theorem State.enter_step (s : State) (o st : Nat) : (s.enter o st).tx.step = s.tx.step := by simp [State.enter]
@[simp] theorem State.showSession_step (s : State) (o : Nat) : (s.showSession o).tx.step = s.tx.step := by simp [State.showSession]
@[simp] theorem State.refreshOutlet_step (s : State) (o : Nat) : (s.refreshOutlet o).tx.step = s.tx.step := by simp [State.refreshOutlet]

@[simp] theorem State.targetAll_step (s : State) (o mode volts amps : Nat) : (s.targetAll o mode volts amps).tx.step = s.tx.step := by
  simp [State.targetAll]

@[simp] theorem State.deliverNothing_step (s : State) (o : Nat) : (s.deliverNothing o).tx.step = s.tx.step := by simp [State.deliverNothing]
@[simp] theorem State.takeEnd_step (s : State) (o reason : Nat) : (s.takeEnd o reason).tx.step = s.tx.step := by simp [State.takeEnd]
@[simp] theorem State.commitEnd_step (s : State) (o : Nat) : (s.commitEnd o).tx.step = s.tx.step := by simp [State.commitEnd]
@[simp] theorem State.commitEnds_step (s : State) : s.commitEnds.tx.step = s.tx.step := by simp [State.commitEnds]
@[simp] theorem State.goFast_step (s : State) (o : Nat) : (s.goFast o).tx.step = s.tx.step := by simp [State.goFast]

@[simp] theorem State.endSession_step (s : State) (o reason : Nat) (fast : Bool) : (s.endSession o reason fast).tx.step = s.tx.step := by
  simp [State.endSession]

@[simp] theorem State.noteTrip_step (s : State) (o : Nat) : (s.noteTrip o).tx.step = s.tx.step := by simp [State.noteTrip]
@[simp] theorem State.failCableCheck_step (s : State) (o : Nat) : (s.failCableCheck o).tx.step = s.tx.step := by simp [State.failCableCheck]

@[simp] theorem State.cableCheckCycle_step (s : State) (o : Nat) : (s.cableCheckCycle o).tx.step = s.tx.step := by
  simp [State.cableCheckCycle]

@[simp] theorem State.insulationWarning_step (s : State) (o : Nat) : (s.insulationWarning o).tx.step = s.tx.step := by
  simp [State.insulationWarning]

@[simp] theorem State.targetResult_step (s : State) (o : Nat) : (s.targetResult o).2.tx.step = s.tx.step := by
  unfold State.targetResult
  dsimp only
  (repeat' split) <;> simp [*]

@[simp] theorem State.updateTargets_step (s : State) (o : Nat) : (s.updateTargets o).tx.step = s.tx.step := by simp [State.updateTargets]

@[simp] theorem State.acceptAuth_step (s : State) (o cls account : Nat) (offline : Bool) :
    (s.acceptAuth o cls account offline).tx.step = s.tx.step := by simp [State.acceptAuth]

@[simp] theorem applySessionLogSelect_step (seq : Nat) (s : State) : (applySessionLogSelect seq s).1.tx.step = s.tx.step := by
  unfold applySessionLogSelect
  split <;> simp

@[simp] theorem applyOutletEnable_step (o : Nat) (v : Int) (s : State) : (applyOutletEnable o v s).1.tx.step = s.tx.step := by
  unfold applyOutletEnable
  split <;> simp

@[simp] theorem applyStopRequest_step (o : Nat) (v : Int) (s : State) : (applyStopRequest o v s).1.tx.step = s.tx.step := by
  unfold applyStopRequest
  (repeat' split) <;> simp

@[simp] theorem applyOutletReset_step (o : Nat) (s : State) : (applyOutletReset o s).1.tx.step = s.tx.step := by
  unfold applyOutletReset
  split <;> simp

@[simp] theorem applyEimToken_step (o : Nat) (t : List Byte) (s : State) : (applyEimToken o t s).1.tx.step = s.tx.step := by
  simp [applyEimToken]

@[simp] theorem applyAuthResponse_step (o : Nat) (d : Decision) (s : State) : (applyAuthResponse o d s).1.tx.step = s.tx.step := by
  unfold applyAuthResponse
  dsimp only
  (repeat' split) <;> simp [*]

@[simp] theorem State.clearEstop_step (s : State) : s.clearEstop.tx.step = s.tx.step := by simp [State.clearEstop]

@[simp] theorem applyEstopReset_step (s : State) : (applyEstopReset s).1.tx.step = s.tx.step := by
  unfold applyEstopReset
  (repeat' split) <;> simp

@[simp] theorem State.linkDown_step (s0 : State) (o : Nat) : (State.linkDown s0 o).tx.step = s0.tx.step := by simp [State.linkDown]
@[simp] theorem State.watchLine_step (s : State) (t1s o : Nat) : (s.watchLine t1s o).tx.step = s.tx.step := by simp [State.watchLine]
@[simp] theorem State.watchLines_step (s : State) (t1s : Nat) : (s.watchLines t1s).tx.step = s.tx.step := by simp [State.watchLines]

/-! ### Machine/AllocRows -/

@[simp] theorem applyModuleEnable_step (m : Nat) (v : Int) (s : State) : (applyModuleEnable m v s).1.tx.step = s.tx.step := by
  unfold applyModuleEnable
  dsimp only
  (repeat' split) <;> simp [*]

@[simp] theorem applyFeEnable_step (f : Nat) (v : Int) (s : State) : (applyFeEnable f v s).1.tx.step = s.tx.step := by
  unfold applyFeEnable
  split <;> simp

/-! ### Machine/Connections -/

@[simp] theorem State.placePeers_step (s : State) : s.placePeers.tx.step = s.tx.step := by simp [State.placePeers]

@[simp] theorem applyShadowCopy_step (v : Int) (s : State) : (applyShadowCopy v s).1.tx.step = s.tx.step := by
  unfold applyShadowCopy
  split <;> simp

@[simp] theorem applyShadowDefaults_step (v : Int) (s : State) : (applyShadowDefaults v s).1.tx.step = s.tx.step := by
  unfold applyShadowDefaults
  split <;> simp

/-! ### Machine/Cells -/

@[simp] theorem State.setMon_step (s : State) (k : Nat) (m : MonSt) : (s.setMon k m).tx.step = s.tx.step := by simp [State.setMon]
@[simp] theorem State.setRope_step (s : State) (n : Nat) (r : RopeSt) : (s.setRope n r).tx.step = s.tx.step := by simp [State.setRope]
@[simp] theorem State.setCell_step (s : State) (k j : Nat) (c : CellSt) : (s.setCell k j c).tx.step = s.tx.step := by simp [State.setCell]
@[simp] theorem State.setRadio_step (s : State) (r : RadioSt) : (s.setRadio r).tx.step = s.tx.step := by simp [State.setRadio]
@[simp] theorem State.watchRopes_step (s : State) (edges : Nat) : (s.watchRopes edges).tx.step = s.tx.step := by simp [State.watchRopes]

@[simp] theorem State.tellMonitor_step (s : State) (op k : Nat) (args : List Byte) : (s.tellMonitor op k args).tx.step = s.tx.step := by
  simp [State.tellMonitor]

@[simp] theorem State.tellAll_step (s : State) (op : Nat) (args : List Byte) : (s.tellAll op args).tx.step = s.tx.step := by
  simp [State.tellAll]

@[simp] theorem State.sendParams_step (s : State) (n k : Nat) : (s.sendParams n k).tx.step = s.tx.step := by simp [State.sendParams]
@[simp] theorem State.resetCell_step (s : State) (k j : Nat) : (s.resetCell k j).tx.step = s.tx.step := by simp [State.resetCell]

/-! ### Machine/DiePair -/

@[simp] theorem State.setStanding_step (s : State) (die : Nat) (x : Standing) : (s.setStanding die x).tx.step = s.tx.step := by
  simp [State.setStanding]

@[simp] theorem State.endResync_step (s : State) : s.endResync.tx.step = s.tx.step := by simp [State.endResync]

@[simp] theorem State.strand_step (s : State) : s.strand.tx.step = s.tx.step := by
  unfold State.strand
  split <;> simp

@[simp] theorem State.loseSync_step (s : State) : s.loseSync.tx.step = s.tx.step := by simp [State.loseSync]

@[simp] theorem State.failResync_step (s : State) : s.failResync.tx.step = s.tx.step := by
  unfold State.failResync
  split <;> simp

@[simp] theorem State.countStop_step (s : State) (die : Nat) : (s.countStop die).tx.step = s.tx.step := by simp [State.countStop]
@[simp] theorem State.sendYield_step (s : State) (die code : Nat) : (s.sendYield die code).tx.step = s.tx.step := by simp [State.sendYield]

@[simp] theorem State.selfDiagnose_step (s : State) (die code : Nat) : (s.selfDiagnose die code).tx.step = s.tx.step := by
  unfold State.selfDiagnose
  split <;> simp

@[simp] theorem applySwapRequest_step (v : Int) (s : State) : (applySwapRequest v s).1.tx.step = s.tx.step := by
  unfold applySwapRequest
  (repeat' split) <;> simp

@[simp] theorem State.unboot_step (s : State) (die : Nat) : (s.unboot die).tx.step = s.tx.step := by simp [State.unboot]

@[simp] theorem State.watchResync_step (s : State) : s.watchResync.tx.step = s.tx.step := by
  unfold State.watchResync
  split <;> simp

@[simp] theorem applyResyncRequest_step (v : Int) (s : State) : (applyResyncRequest v s).1.tx.step = s.tx.step := by
  unfold applyResyncRequest
  (repeat' split) <;> simp

/-! ### Machine/Device -/

@[simp] theorem State.showDevice_step (s : State) (causes : Nat) : (s.showDevice causes).tx.step = s.tx.step := by simp [State.showDevice]
@[simp] theorem State.refreshDevice_step (s : State) : s.refreshDevice.tx.step = s.tx.step := by simp [State.refreshDevice]
@[simp] theorem State.setDevice_step (s : State) (st : Nat) : (s.setDevice st).tx.step = s.tx.step := by simp [State.setDevice]
@[simp] theorem State.deviceCycle_step (s : State) : s.deviceCycle.tx.step = s.tx.step := by simp [State.deviceCycle]
@[simp] theorem State.restartBoth_step (s : State) (cause : Nat) : (s.restartBoth cause).tx.step = s.tx.step := by simp [State.restartBoth]
@[simp] theorem State.wake_step (s : State) (source inst : Nat) : (s.wake source inst).tx.step = s.tx.step := by simp [State.wake]

/-! ### Machine/Strings -/

@[simp] theorem State.enterStr_step (s : State) (n st : Nat) : (s.enterStr n st).tx.step = s.tx.step := by simp [State.enterStr]

@[simp] theorem State.setCoils_step (s : State) (n : Nat) (pos neg pre : Bool) : (s.setCoils n pos neg pre).tx.step = s.tx.step := by
  simp [State.setCoils]

@[simp] theorem State.zeroLimits_step (s : State) (n : Nat) : (s.zeroLimits n).tx.step = s.tx.step := by simp [State.zeroLimits]
@[simp] theorem State.settleString_step (s : State) (n : Nat) : (s.settleString n).tx.step = s.tx.step := by simp [State.settleString]
@[simp] theorem State.openCoils_step (s : State) (n : Nat) (hw : Bool) : (s.openCoils n hw).tx.step = s.tx.step := by simp [State.openCoils]
@[simp] theorem State.noteOpening_step (s : State) (n c : Nat) : (s.noteOpening n c).tx.step = s.tx.step := by simp [State.noteOpening]

@[simp] theorem State.stringCause_step (s : State) (n c value : Nat) : (s.stringCause n c value).tx.step = s.tx.step := by
  simp [State.stringCause]

@[simp] theorem State.refreshDerate_step (s : State) (n : Nat) : (s.refreshDerate n).tx.step = s.tx.step := by simp [State.refreshDerate]
@[simp] theorem State.stringLimits_step (s : State) (n : Nat) : (s.stringLimits n).tx.step = s.tx.step := by simp [State.stringLimits]
@[simp] theorem State.stringIso_step (s : State) (n : Nat) : (s.stringIso n).tx.step = s.tx.step := by simp [State.stringIso]
@[simp] theorem State.stringAmps_step (s : State) (n : Nat) : (s.stringAmps n).tx.step = s.tx.step := by simp [State.stringAmps]
@[simp] theorem State.stringCycle_step (s : State) (n : Nat) : (s.stringCycle n).tx.step = s.tx.step := by simp [State.stringCycle]
@[simp] theorem State.startStep_step (s : State) (n step : Nat) : (s.startStep n step).tx.step = s.tx.step := by simp [State.startStep]

@[simp] theorem applyStringRequest_step (n : Nat) (v : Int) (s : State) : (applyStringRequest n v s).1.tx.step = s.tx.step := by
  unfold applyStringRequest
  split <;> simp

@[simp] theorem applyStringDerate_step (n : Nat) (v : Int) (s : State) : (applyStringDerate n v s).1.tx.step = s.tx.step := by
  simp [applyStringDerate]

@[simp] theorem applyStringReset_step (n : Nat) (s : State) : (applyStringReset n s).1.tx.step = s.tx.step := by
  unfold applyStringReset
  dsimp only
  (repeat' split) <;> simp [*]

@[simp] theorem State.startStringTest_step (s : State) (n : Nat) (slot : Option Nat) : (s.startStringTest n slot).tx.step = s.tx.step := by
  simp [State.startStringTest]

@[simp] theorem applyStringTest_step (n v : Nat) (queue : Bool) (s : State) : (applyStringTest n v queue s).1.tx.step = s.tx.step := by
  simp [applyStringTest]

/-! ### Machine/LoadRows -/

@[simp] theorem State.absorb_step (s : State) (x : Clamp) : (s.absorb x).tx.step = s.tx.step := by simp [State.absorb]

@[simp] theorem applyLcCommand_step (c v : Nat) (s : State) : (applyLcCommand c v s).1.tx.step = s.tx.step := by
  unfold applyLcCommand
  split <;> simp

@[simp] theorem applyLcDuty_step (c v : Nat) (s : State) : (applyLcDuty c v s).1.tx.step = s.tx.step := by
  unfold applyLcDuty
  split <;> simp

@[simp] theorem applyLcReset_step (c : Nat) (s : State) : (applyLcReset c s).1.tx.step = s.tx.step := by
  unfold applyLcReset
  dsimp only
  (repeat' split) <;> simp [*]

@[simp] theorem applyLcTest_step (c v : Nat) (queue : Bool) (s : State) : (applyLcTest c v queue s).1.tx.step = s.tx.step := by
  simp [applyLcTest]

@[simp] theorem State.takePower_step (s : State) (p : PowerStatus) : (s.takePower p).tx.step = s.tx.step := by simp [State.takePower]
@[simp] theorem State.halfFrame_step (s : State) (h : Nat) : (s.halfFrame h).tx.step = s.tx.step := by simp [State.halfFrame]
@[simp] theorem State.lcFrame_step (s : State) : s.lcFrame.tx.step = s.tx.step := by simp [State.lcFrame]

/-! ### Machine/Metering -/

@[simp] theorem State.energyCycle_step (s : State) : s.energyCycle.tx.step = s.tx.step := by simp [State.energyCycle]
@[simp] theorem State.pointCycle_step (s : State) : s.pointCycle.tx.step = s.tx.step := by simp [State.pointCycle]

@[simp] theorem applyCrossReset_step (pt : Nat) (s : State) : (applyCrossReset pt s).1.tx.step = s.tx.step := by
  unfold applyCrossReset
  (repeat' split) <;> simp

@[simp] theorem applyPeakReset_step (pt : Nat) (s : State) : (applyPeakReset pt s).1.tx.step = s.tx.step := by simp [applyPeakReset]
@[simp] theorem State.watchSeal_step (s : State) (r0 r1 : Bool) : (s.watchSeal r0 r1).tx.step = s.tx.step := by simp [State.watchSeal]

@[simp] theorem applyLegalLogArchive_step (seq : Nat) (s : State) : (applyLegalLogArchive seq s).1.tx.step = s.tx.step := by
  unfold applyLegalLogArchive
  (repeat' split) <;> simp

@[simp] theorem applyLegalLogSelect_step (seq : Nat) (s : State) : (applyLegalLogSelect seq s).1.tx.step = s.tx.step := by
  unfold applyLegalLogSelect
  split <;> simp

/-! ### Machine/Billing -/

@[simp] theorem State.signRecord_step (s : State) (u : Unsigned) : (s.signRecord u).tx.step = s.tx.step := by simp [State.signRecord]
@[simp] theorem State.issueRecord_step (s : State) (u : Unsigned) : (s.issueRecord u).tx.step = s.tx.step := by simp [State.issueRecord]

@[simp] theorem State.signPeriod_step (s : State) (period : Nat) (tops : List (Nat × Nat)) (pt : Nat) :
    (s.signPeriod period tops pt).tx.step = s.tx.step := by simp [State.signPeriod]

@[simp] theorem State.markPeriod_step (s : State) (pt : Nat) : (s.markPeriod pt).tx.step = s.tx.step := by simp [State.markPeriod]
@[simp] theorem State.signReading_step (s : State) (pt : Nat) : (s.signReading pt).tx.step = s.tx.step := by simp [State.signReading]

@[simp] theorem applyReadingRequest_step (pt : Nat) (s : State) : (applyReadingRequest pt s).1.tx.step = s.tx.step := by
  unfold applyReadingRequest
  split <;> simp

@[simp] theorem State.closePeriod_step (s : State) (cause ends : Nat) : (s.closePeriod cause ends).tx.step = s.tx.step := by
  simp [State.closePeriod]

@[simp] theorem applyBillingClose_step (s : State) : (applyBillingClose s).1.tx.step = s.tx.step := by
  unfold applyBillingClose
  (repeat' split) <;> simp [*]

@[simp] theorem applyProfileSelect_step (seq : Nat) (s : State) : (applyProfileSelect seq s).1.tx.step = s.tx.step := by
  unfold applyProfileSelect
  split <;> simp

@[simp] theorem applySnapshotSelect_step (n : Nat) (s : State) : (applySnapshotSelect n s).1.tx.step = s.tx.step := by
  unfold applySnapshotSelect
  split <;> simp

@[simp] theorem applySignedSelect_step (seq : Nat) (s : State) : (applySignedSelect seq s).1.tx.step = s.tx.step := by
  unfold applySignedSelect
  split <;> simp

@[simp] theorem State.setAcct_step (s : State) (a : Nat) (k : AccountSt) : (s.setAcct a k).tx.step = s.tx.step := by simp [State.setAcct]

@[simp] theorem applyCreditTopup_step (a : Nat) (amount : Int) (reference : Nat) (s : State) :
    (applyCreditTopup a amount reference s).1.tx.step = s.tx.step := by
  unfold applyCreditTopup
  (repeat' split) <;> simp

@[simp] theorem applyProtectUntil_step (a : Nat) (b : List Byte) (s : State) : (applyProtectUntil a b s).1.tx.step = s.tx.step := by
  unfold applyProtectUntil
  split <;> simp

/-! ### Machine/Eusor -/

@[simp] theorem State.askHandover_step (s : State) (cause : Nat) : (s.askHandover cause).tx.step = s.tx.step := by simp [State.askHandover]

@[simp] theorem State.toNode_step (s : State) (e type : Nat) (body : List Byte) : (s.toNode e type body).tx.step = s.tx.step := by
  simp [State.toNode]

@[simp] theorem State.renewBeaconKey_step (s : State) : s.renewBeaconKey.tx.step = s.tx.step := by
  unfold State.renewBeaconKey
  split <;> simp

/-! ### Machine/Keys -/

@[simp] theorem State.showSlot_step (s : State) (k : Nat) : (s.showSlot k).tx.step = s.tx.step := by simp [State.showSlot]
@[simp] theorem State.setSlot_step (s : State) (k : Nat) (q : SlotSt) : (s.setSlot k q).tx.step = s.tx.step := by simp [State.setSlot]

@[simp] theorem State.keyFrom_step (s : State) (m : List Byte) : (s.keyFrom m).2.tx.step = s.tx.step := by
  unfold State.keyFrom
  split <;> simp

@[simp] theorem State.keyCommitted_step (s : State) (k mode usage : Nat) : (s.keyCommitted k mode usage).tx.step = s.tx.step := by
  simp [State.keyCommitted]

@[simp] theorem applyKeyUpdate_step (k : Nat) (m : List Byte) (s : State) : (applyKeyUpdate k m s).1.tx.step = s.tx.step := by
  unfold applyKeyUpdate
  dsimp only
  (repeat' split) <;> simp [*]

@[simp] theorem applyKeyChallenge_step (k : Nat) (v : List Byte) (s : State) : (applyKeyChallenge k v s).1.tx.step = s.tx.step := by
  simp [applyKeyChallenge]

@[simp] theorem applyKeyConfirm_step (k v : Nat) (s : State) : (applyKeyConfirm k v s).1.tx.step = s.tx.step := by
  unfold applyKeyConfirm
  dsimp only
  (repeat' split) <;> simp [*]

@[simp] theorem applySlotCert_step (k : Nat) (v : List Byte) (s : State) : (applySlotCert k v s).1.tx.step = s.tx.step := by
  unfold applySlotCert
  dsimp only
  (repeat' split) <;> simp [*]

@[simp] theorem State.endRewrap_step (s : State) (keep : Bool) : (s.endRewrap keep).tx.step = s.tx.step := by simp [State.endRewrap]
@[simp] theorem State.watchKy_step (s : State) (k : KyIn) : (s.watchKy k).tx.step = s.tx.step := by simp [State.watchKy]

/-! ### Machine/BusRows -/

@[simp] theorem State.startUnitTest_step (s : State) (u : Nat) (asked : Option Held) (slot : Option Nat) :
    (s.startUnitTest u asked slot).tx.step = s.tx.step := by simp [State.startUnitTest]

@[simp] theorem State.askUnitTest_step (s : State) (u : Nat) (h : Held) (value : List Byte) :
    (s.askUnitTest u h value).tx.step = s.tx.step := by simp [State.askUnitTest]

/-! ### Machine/Firmware -/

@[simp] theorem State.setFslot_step (s : State) (i : Nat) (x : FwSlot) : (s.setFslot i x).tx.step = s.tx.step := by simp [State.setFslot]
@[simp] theorem State.showFw_step (s : State) : s.showFw.tx.step = s.tx.step := by simp [State.showFw]
@[simp] theorem State.dropWrapping_step (s : State) (i : Nat) : (s.dropWrapping i).tx.step = s.tx.step := by simp [State.dropWrapping]
@[simp] theorem State.emptySlot_step (s : State) (i : Nat) : (s.emptySlot i).tx.step = s.tx.step := by simp [State.emptySlot]

@[simp] theorem applySlotManifest_step (i : Nat) (m : List Byte) (s : State) : (applySlotManifest i m s).1.tx.step = s.tx.step := by
  unfold applySlotManifest
  dsimp only
  (repeat' split) <;> simp [*]

@[simp] theorem State.finishImage_step (s : State) (i : Nat) : (s.finishImage i).tx.step = s.tx.step := by simp [State.finishImage]

@[simp] theorem applySlotBlock_step (i : Nat) (v : List Byte) (s : State) : (applySlotBlock i v s).1.tx.step = s.tx.step := by
  unfold applySlotBlock
  dsimp only
  (repeat' split) <;> simp [*]

@[simp] theorem applySlotErase_step (i : Nat) (s : State) : (applySlotErase i s).1.tx.step = s.tx.step := by
  unfold applySlotErase
  dsimp only
  (repeat' split) <;> simp [*]

@[simp] theorem State.failPrep_step (s : State) (p : Prep) (step status : Nat) : (s.failPrep p step status).tx.step = s.tx.step := by
  simp [State.failPrep]

@[simp] theorem State.failLegal_step (s : State) (p : Prep) (status : Nat) : (s.failLegal p status).tx.step = s.tx.step := by
  simp [State.failLegal]

@[simp] theorem State.watchPrep_step (s : State) : s.watchPrep.tx.step = s.tx.step := by
  unfold State.watchPrep
  dsimp only
  (repeat' split) <;> simp [*]

@[simp] theorem State.closeTrial_step (s : State) (t : Trial) (die : Nat) (confirmed : Bool) :
    (s.closeTrial t die confirmed).tx.step = s.tx.step := by simp [State.closeTrial]

@[simp] theorem State.confirmTrial_step (s : State) (t : Trial) (cause : Nat) : (s.confirmTrial t cause).tx.step = s.tx.step := by
  simp [State.confirmTrial]

@[simp] theorem applyFwConfirm_step (s : State) : (applyFwConfirm s).1.tx.step = s.tx.step := by
  unfold applyFwConfirm
  dsimp only
  (repeat' split) <;> simp [*]

@[simp] theorem applyFwFallback_step (s : State) : (applyFwFallback s).1.tx.step = s.tx.step := by
  unfold applyFwFallback
  dsimp only
  (repeat' split) <;> simp [*]

@[simp] theorem applyRecoveryBoot_step (v : Nat) (s : State) : (applyRecoveryBoot v s).1.tx.step = s.tx.step := by
  unfold applyRecoveryBoot
  (repeat' split) <;> simp

/-! ### Machine/Monitors -/

@[simp] theorem State.spanCycle_step (s : State) : s.spanCycle.tx.step = s.tx.step := by
  unfold State.spanCycle
  split <;> simp

@[simp] theorem State.setJoin_step (s : State) (n : Nat) (b : Bool) : (s.setJoin n b).tx.step = s.tx.step := by simp [State.setJoin]
@[simp] theorem State.enrol_step (s : State) (n k pos : Nat) (j : Join) : (s.enrol n k pos j).tx.step = s.tx.step := by simp [State.enrol]

@[simp] theorem applyAlarmReset_step (k : Nat) (s : State) : (applyAlarmReset k s).1.tx.step = s.tx.step := by
  unfold applyAlarmReset
  (repeat' split) <;> simp

@[simp] theorem State.startEnum_step (s : State) (n : Nat) : (s.startEnum n).tx.step = s.tx.step := by simp [State.startEnum]

@[simp] theorem applyRopeReenumerate_step (n : Nat) (s : State) : (applyRopeReenumerate n s).1.tx.step = s.tx.step := by
  unfold applyRopeReenumerate
  split <;> simp

@[simp] theorem applyAcceptReplacement_step (n : Nat) (s : State) : (applyAcceptReplacement n s).1.tx.step = s.tx.step := by
  unfold applyAcceptReplacement
  dsimp only
  (repeat' split) <;> simp [*]

@[simp] theorem State.startMonitorTest_step (s : State) (k : Nat) (slot : Option Nat) : (s.startMonitorTest k slot).tx.step = s.tx.step := by
  simp [State.startMonitorTest]

@[simp] theorem applyMonitorTest_step (k v : Nat) (queue : Bool) (s : State) : (applyMonitorTest k v queue s).1.tx.step = s.tx.step := by
  simp [applyMonitorTest]

/-! ### Machine/StreamRows -/

@[simp] theorem applyStreamMask_step (v : Nat) (s : State) : (applyStreamMask v s).1.tx.step = s.tx.step := by simp [applyStreamMask]
@[simp] theorem State.placePort_step (s : State) : s.placePort.tx.step = s.tx.step := by simp [State.placePort]

@[simp] theorem applyRecoveryEnter_step (digest : Nat) (s : State) : (applyRecoveryEnter digest s).1.tx.step = s.tx.step := by
  unfold applyRecoveryEnter
  split <;> simp

/-! ### Machine/Estimator -/

@[simp] theorem State.setEst_step (s : State) (n : Nat) (k : EstSt) : (s.setEst n k).tx.step = s.tx.step := by simp [State.setEst]
@[simp] theorem State.restCycle_step (s : State) : s.restCycle.tx.step = s.tx.step := by simp [State.restCycle]
@[simp] theorem applyEstReset_step (n : Nat) (s : State) : (applyEstReset n s).1.tx.step = s.tx.step := by simp [applyEstReset]

/-! ### Machine/SiteTime -/

@[simp] theorem State.setTimeState_step (s : State) (t : TimeState) : (s.setTimeState t).tx.step = s.tx.step := by simp [State.setTimeState]

@[simp] theorem State.evalTimeError_step (s : State) : s.evalTimeError.tx.step = s.tx.step := by
  unfold State.evalTimeError
  extract_lets limit high s1
  split
  · rw [State.raise_eq, State.raiseWith_tx]
  · rfl

@[simp] theorem State.correct_step (s : State) (d : Int) : (s.correct d).tx.step = s.tx.step := by simp [State.correct]
@[simp] theorem State.sendPdelays_step (s : State) : s.sendPdelays.tx.step = s.tx.step := by simp [State.sendPdelays]

@[simp] theorem applyTimeSet_step (sfn ns : Nat) (s : State) : (applyTimeSet sfn ns s).1.tx.step = s.tx.step := by
  unfold applyTimeSet
  split <;> simp

/-! ### Machine/Power -/

@[simp] theorem State.setPw_step (s : State) (h : Nat) (b : Bool) : (s.setPw h b).tx.step = s.tx.step := by simp [State.setPw]
@[simp] theorem State.setLk_step (s : State) (h : Nat) (b : Bool) : (s.setLk h b).tx.step = s.tx.step := by simp [State.setLk]
@[simp] theorem State.setSt_step (s : State) (h : Nat) (b : Bool) : (s.setSt h b).tx.step = s.tx.step := by simp [State.setSt]
@[simp] theorem State.losePw_step (s : State) (h : Nat) : (s.losePw h).tx.step = s.tx.step := by simp [State.losePw]
@[simp] theorem State.loseLk_step (s : State) (h : Nat) : (s.loseLk h).tx.step = s.tx.step := by simp [State.loseLk]

@[simp] theorem State.halfFault_step (s : State) (half diag : Nat) : (s.halfFault half diag).tx.step = s.tx.step := by
  unfold State.halfFault
  split <;> simp

@[simp] theorem State.afterStop_step (s : State) : s.afterStop.tx.step = s.tx.step := by simp [State.afterStop]

@[simp] theorem State.resetOutputs_step (s : State) : s.resetOutputs.tx.step = s.tx.step := by
  unfold State.resetOutputs
  split <;> simp

@[simp] theorem State.beginRest_step (s : State) (op : Nat) : (s.beginRest op).tx.step = s.tx.step := by simp [State.beginRest]

@[simp] theorem applySleepRequest_step (v : Int) (s : State) : (applySleepRequest v s).1.tx.step = s.tx.step := by
  unfold applySleepRequest
  (repeat' split) <;> simp

@[simp] theorem applyShipRequest_step (s : State) : (applyShipRequest s).1.tx.step = s.tx.step := by
  unfold applyShipRequest
  split <;> simp

@[simp] theorem applyRecoveryExit_step (s : State) : (applyRecoveryExit s).1.tx.step = s.tx.step := by
  unfold applyRecoveryExit
  split <;> simp

@[simp] theorem applyTestEnter_step (s : State) : (applyTestEnter s).1.tx.step = s.tx.step := by
  unfold applyTestEnter
  split <;> simp

/-! ### Machine/Loops -/

@[simp] theorem State.setLoop_step (s : State) (l : Nat) (k : LoopSt) : (s.setLoop l k).tx.step = s.tx.step := by simp [State.setLoop]
@[simp] theorem State.setCable_step (s : State) (o : Nat) (k : CableSt) : (s.setCable o k).tx.step = s.tx.step := by simp [State.setCable]
@[simp] theorem State.showLoop_step (s : State) (l : Nat) : (s.showLoop l).tx.step = s.tx.step := by simp [State.showLoop]

@[simp] theorem State.faultLoop_step (s : State) (l : Nat) (k : LoopSt) (sec : Nat) : (s.faultLoop l k sec).tx.step = s.tx.step := by
  simp [State.faultLoop]

@[simp] theorem State.driveTarget_step (s : State) (l out : Nat) : (s.driveTarget l out).tx.step = s.tx.step := by simp [State.driveTarget]

@[simp] theorem State.runLoop_step (s : State) (l : Nat) : (s.runLoop l).tx.step = s.tx.step := by
  unfold State.runLoop
  dsimp only
  (repeat' split) <;> simp [*]

@[simp] theorem State.cableFaults_step (s : State) (o : Nat) : (s.cableFaults o).tx.step = s.tx.step := by simp [State.cableFaults]
@[simp] theorem State.initCable_step (s : State) (o : Nat) : (s.initCable o).tx.step = s.tx.step := by simp [State.initCable]

@[simp] theorem State.predict_step (s : State) (o p cond cool : Nat) : (s.predict o p cond cool).2.2.tx.step = s.tx.step := by
  unfold State.predict
  dsimp only
  (repeat' split) <;> simp [*]

@[simp] theorem State.derate_step (s : State) (o : Nat) : (s.derate o).tx.step = s.tx.step := by
  unfold State.derate
  dsimp only
  (repeat' split) <;> simp [*]

@[simp] theorem State.showCable_step (s : State) (o : Nat) : (s.showCable o).tx.step = s.tx.step := by simp [State.showCable]

@[simp] theorem State.finite_step (s : State) (b : Nat) : (s.finite b).2.tx.step = s.tx.step := by
  unfold State.finite
  split <;> simp

@[simp] theorem State.cableSpans_step (s : State) (o cond : Nat) (pin : Option Nat) : (s.cableSpans o cond pin).tx.step = s.tx.step := by
  simp [State.cableSpans]

@[simp] theorem State.runCable_step (s : State) (o : Nat) : (s.runCable o).tx.step = s.tx.step := by simp [State.runCable]

@[simp] theorem State.runEngine_step (s : State) (ns : Nat) (stop : Option Nat) : (s.runEngine ns stop).tx.step = s.tx.step := by
  unfold State.runEngine
  dsimp only
  rw [State.when_step _ _ _ fun z => by simp, State.fitNat_tx, State.each_step _ _ _ State.showLoop_step, State.each_step, State.each_step]
  · intro z l
    split <;> simp
  · intro z l
    (repeat' split) <;> simp

@[simp] theorem applyLoopReset_step (l : Nat) (s : State) : (applyLoopReset l s).1.tx.step = s.tx.step := by
  unfold applyLoopReset
  dsimp only
  (repeat' split) <;> simp [*]

/-! ### Machine/Calibration -/

@[simp] theorem State.watchChannels_step (s : State) : s.watchChannels.tx.step = s.tx.step := by simp [State.watchChannels]

@[simp] theorem State.startCal_step (s : State) (ch command dies reference : Nat) (slot : Option Nat) :
    (s.startCal ch command dies reference slot).tx.step = s.tx.step := by simp [State.startCal]

@[simp] theorem applyCal_step (ch command dies reference : Nat) (queue : Bool) (s : State) :
    (applyCal ch command dies reference queue s).1.tx.step = s.tx.step := by
  unfold applyCal
  (repeat' split) <;> simp

@[simp] theorem applyMchOpenTest_step (ch v : Nat) (queue : Bool) (s : State) : (applyMchOpenTest ch v queue s).1.tx.step = s.tx.step := by
  simp [applyMchOpenTest]

/-! ### Machine/ConverterRows -/

@[simp] theorem applyGroupReset_step (g : Nat) (s : State) : (applyGroupReset g s).1.tx.step = s.tx.step := by
  unfold applyGroupReset
  (repeat' split) <;> simp

@[simp] theorem State.startPhaseTest_step (s : State) (p : Nat) (slot : Option Nat) : (s.startPhaseTest p slot).tx.step = s.tx.step := by
  simp [State.startPhaseTest]

@[simp] theorem applyPhaseTest_step (p v : Nat) (queue : Bool) (s : State) : (applyPhaseTest p v queue s).1.tx.step = s.tx.step := by
  simp [applyPhaseTest]

@[simp] theorem applyPhaseReset_step (p : Nat) (s : State) : (applyPhaseReset p s).1.tx.step = s.tx.step := by
  unfold applyPhaseReset
  (repeat' split) <;> simp

/-! ### Machine/Apply -/

@[simp] theorem applyUnitTest_step (u : Nat) (queue : Bool) (s : State) : (applyUnitTest u queue s).1.tx.step = s.tx.step := by
  simp [applyUnitTest]

@[simp] theorem applyEntry_step (f : Found) (v : Val) (queue : Bool) (digest : Nat) (s : State) :
    (applyEntry f v queue digest s).1.tx.step = s.tx.step := by
  unfold applyEntry
  dsimp only
  (repeat' split) <;> simp [*]

@[simp] theorem State.applyWrite_step (s : State) (f : Found) (v : Val) (queue : Bool) (digest : Nat) :
    (s.applyWrite f v queue digest).1.tx.step = s.tx.step := by
  unfold State.applyWrite
  (repeat' split) <;> simp

@[simp] theorem State.applyItem_step (s : State) (h : Held) (w : WItem) : (s.applyItem h w).1.tx.step = s.tx.step := by
  unfold State.applyItem
  dsimp only
  (repeat' split) <;> simp [*]

@[simp] theorem groupItems_step (h : Held) (items : List WItem) (i : Nat) (s : State) (swap : Option Nat) :
    (groupItems h items i s swap).1.tx.step = s.tx.step := by
  induction items generalizing i s swap with
  | nil => rfl
  | cons w r ih =>
    unfold groupItems
    dsimp only
    (repeat' split) <;> simp [ih]

@[simp] theorem State.applyGroup_step (s : State) (h : Held) : (s.applyGroup h).tx.step = s.tx.step := by
  unfold State.applyGroup
  have g := groupItems_step h h.items 0 s none
  extract_lets r fault
  clear_value fault
  rcases fault with _ | ⟨st, i⟩
  · dsimp only
    split
    · exact g
    · rw [State.answerLater_step]; exact g
  · exact State.answerLater_step ..

@[simp] theorem State.applySingle_step (s : State) (h : Held) (w : WItem) : (s.applySingle h w).tx.step = s.tx.step := by
  unfold State.applySingle
  (repeat' split) <;> simp

@[simp] theorem State.applyHeld_step (s : State) (h : Held) : (s.applyHeld h).tx.step = s.tx.step := by
  unfold State.applyHeld
  (repeat' split) <;> simp

@[simp] theorem State.applyRequests_step (s : State) : s.applyRequests.tx.step = s.tx.step := by simp [State.applyRequests]
@[simp] theorem State.digests_step (s : State) : s.digests.tx.step = s.tx.step := by simp [State.digests]

/-! ### Machine/ControlCycle -/

@[simp] theorem State.missedThrice_step (s : State) (die half : Nat) : (s.missedThrice die half).tx.step = s.tx.step := by
  unfold State.missedThrice
  split <;> simp

@[simp] theorem State.missDeadline_step (s : State) (die half task period overrun : Nat) :
    (s.missDeadline die half task period overrun).tx.step = s.tx.step := by simp [State.missDeadline]

@[simp] theorem State.controlCycle_step (s : State) (t : TickIn) : (s.controlCycle t).tx.step = s.tx.step := by
  unfold State.controlCycle
  dsimp only
  (repeat' split) <;> simp [*]

@[simp] theorem State.workOrHold_step (s : State) (t : TickIn) : (s.workOrHold t).tx.step = s.tx.step := by simp [State.workOrHold]

/-! ### Machine/Cycle -/

@[simp] theorem State.showCycle_step (s : State) : s.showCycle.tx.step = s.tx.step := by simp [State.showCycle]
@[simp] theorem State.showFrame_step (s : State) : s.showFrame.tx.step = s.tx.step := by simp [State.showFrame]

@[simp] theorem State.watchCommand_step (s : State) : s.watchCommand.tx.step = s.tx.step := by
  unfold State.watchCommand
  extract_lets standby powered take told s0 s1
  have hs0 : s0.tx.step = s.tx.step := State.when_step _ _ _ fun _ => rfl
  have hs1 : s1.tx.step = s0.tx.step := State.when_step _ _ _ fun _ => rfl
  exact hs1.trans hs0

@[simp] theorem State.addBusy_step (s : State) (busy : List Nat) : (s.addBusy busy).tx.step = s.tx.step := by simp [State.addBusy]

@[simp] theorem State.resendBlocks_step (s : State) : s.resendBlocks.tx.step = s.tx.step := by
  unfold State.resendBlocks
  split
  · rfl
  · refine State.each_step _ _ _ fun z ch => ?_
    dsimp only
    split
    · rfl
    · rw [State.when_step _ _ _ fun y => State.each_send_step y _ fun _ m => m]
      rfl

@[simp] theorem State.busFrame_step (s : State) : s.busFrame.tx.step = s.tx.step := by simp [State.busFrame]

end Sys2Proof.Machine
end

section
/-!
PROOFS. The tick, the frame boundary and a missed deadline (O3): the tick ends with the entries that show the state (R20), the boundary
serves the link die when a control die serves (R19, R67), and a miss is noted with the run of its task (R17, R72).
-/
namespace Sys2Proof.Machine
open Sys2Proof

/-! ### The tick -/

theorem State.val_fitNat_ne (s : State) {e f : Entry} {n j m i : Nat} (v : Nat) (h : f.key m i ≠ e.key n j) :
    (s.fitNat e n v j).val f m i = s.val f m i := by
  unfold State.fitNat
  split <;> exact State.val_put_ne _ _ _ _ _ _ _ _ h

theorem State.val_fitInt_ne (s : State) {e f : Entry} {n j m i : Nat} (v : Int) (h : f.key m i ≠ e.key n j) :
    (s.fitInt e n v j).val f m i = s.val f m i := by
  unfold State.fitInt
  extract_lets w fits
  split
  · exact State.val_put_ne _ _ _ _ _ _ _ _ h
  · exact State.val_put_ne s.takeFree.2 _ _ _ _ _ _ _ h

/-- The sub-index alone keeps every row of an entry apart from SITE_TIME. -/
theorem Entry.key_ne_siteTime {e : Entry} (h : e.sub < 256 ∧ e.sub ≠ 1) (n : Nat) : Ent.SITE_TIME.key 0 0 ≠ e.key n 0 := by
  have hkey : Ent.SITE_TIME.key 0 0 = 0x1010 * 256 + 1 := rfl
  rw [hkey, Entry.key]
  omega

/-- SITE_TIME is the first entry shown, and no other shares its key. -/
theorem State.showCycle_siteTime (s : State) : s.showCycle.bytes Ent.SITE_TIME = time64 s.sfn (s.cycle * 50000) := by
  unfold State.showCycle
  dsimp only
  rw [State.bytes_def, State.each_keeps _ _ _ (fun z => z.val Ent.SITE_TIME)]
  · rw [State.setNat_eq, State.val_put_ne _ _ _ _ _ _ _ _ (by decide), State.val_fitNat_ne _ _ (by decide),
      State.setNat_eq, State.val_put_ne _ _ _ _ _ _ _ _ (by decide), State.setNat_eq, State.val_put_ne _ _ _ _ _ _ _ _ (by decide),
      State.setNat_eq, State.val_put_ne _ _ _ _ _ _ _ _ (by decide), State.setNat_eq, State.val_put_ne _ _ _ _ _ _ _ _ (by decide),
      State.setNat_eq, State.val_put_ne _ _ _ _ _ _ _ _ (by decide), State.setBytes_eq, State.val_put_same, Val.toBytes_bytes]
  · intro z o
    rw [State.val_fitInt_ne _ _ (Entry.key_ne_siteTime (by decide) o), State.val_fitInt_ne _ _ (Entry.key_ne_siteTime (by decide) o)]

theorem State.showCycle_sfn (s : State) : s.showCycle.sfn = s.sfn := by
  unfold State.showCycle
  dsimp only
  rw [State.each_keeps _ _ _ State.sfn (fun z o => by simp)]
  simp

/-- What the two path delay requests of a second leave: all but the messages sent. -/
theorem State.sendPdelays_keeps {β : Type} (g : State → β) (h : ∀ z m, g (z.send m) = g z) (s : State) : g s.sendPdelays = g s :=
  State.when_keeps _ _ _ g (fun z => State.each_keeps z _ _ g (fun y _ => h y _))

theorem State.showCycle_cycle (s : State) : s.showCycle.cycle = s.cycle :=
  congrArg (fun k : Nat × Nat × List Instr => k.2.1) s.showCycle_clock

/-- What a tick shows last is the site time of its own frame and cycle. -/
theorem State.shown_siteTime (s : State) :
    s.showCycle.sendPdelays.bytes Ent.SITE_TIME = time64 s.showCycle.sendPdelays.sfn (s.showCycle.sendPdelays.cycle * 50000) := by
  rw [State.sendPdelays_keeps (fun z => z.bytes Ent.SITE_TIME) (fun _ _ => rfl), State.sendPdelays_keeps State.sfn (fun _ _ => rfl),
    State.sendPdelays_keeps State.cycle (fun _ _ => rfl), State.showCycle_siteTime, State.showCycle_sfn, State.showCycle_cycle]

/-- A new cycle begins with no step of the boundary done (R19). -/
theorem State.advance_step (s : State) : s.advance.tx.step = 0 := by
  unfold State.advance
  dsimp only
  split
  · rfl
  · rw [State.raise_eq, State.raiseWith_tx]

/-! What a tick does after its clock has moved keeps the step, part by part as execCycleTick puts them together. -/

theorem tickInputs_step (s : State) (x : TickIn) :
    ((((s.resetOutputs.watchCommand.flushBus.takePower x.power).addBusy x.busy).watchRopes x.ropes).accumulate).tx.step = s.tx.step := by
  simp

theorem tickSeals_step (s : State) (x : TickIn) : ((s.watchSeal x.seal0 x.seal1).watchKy x.ky).tx.step = s.tx.step := by simp

theorem tickControl_step (s : State) (x : TickIn) :
    ((s.when s.controlUp (fun z => z.resendBlocks.drainRings.workOrHold x)).deviceCycle).tx.step = s.tx.step := by
  simp

theorem tickFrame_step (s : State) :
    (if (s.cycle == 0) = true then { s.lcFrame with pw := { s.lcFrame.pw with standbyPackets := 0 } } else s).tx.step = s.tx.step := by
  split
  · exact s.lcFrame_step
  · rfl

theorem outlets_step (s : State) (x : OutletsSt) : ({ s with outlets := x }).tx.step = s.tx.step := rfl

/-- CYCLE_TICK shows the site time of its cycle and begins it with no step of the boundary done. -/
theorem execCycleTick_shown (x : TickIn) (s : State) :
    ∃ t, execCycleTick x s = .next t ∧ t.bytes Ent.SITE_TIME = time64 t.sfn (t.cycle * 50000) ∧ t.tx.step = 0 := by
  refine ⟨_, rfl, State.shown_siteTime _, ?_⟩
  rw [State.sendPdelays_step, State.showCycle_step, tickFrame_step, tickControl_step, tickSeals_step, outlets_step, tickInputs_step,
    State.afterStop_step, State.watchPrep_step, State.watchResync_step, State.advance_step]

/-! ### The frame boundary -/

/-- The requests of a boundary and what follows them keep its step (R19). -/
theorem State.served_step (s : State) :
    ({ s with swapAsks := s.swapAsks ++ s.swapNext, swapNext := [] }.applyRequests.commitEnds.digests
      |>.placeBus.placePeers.sendMarks.flushBus.busFrame.showFrame.each (List.range 8) State.showSession).tx.step = s.tx.step := by
  simp

theorem State.atStep_step (s : State) (k : Nat) : (s.atStep k).tx.step = k := rfl

theorem bus_step (s : State) (x : BusSt) : ({ s with bus := x }).tx.step = s.tx.step := rfl

/-- FRAME_BOUNDARY at cycle 0, once in it: the link die is served when a control die serves, and step 2 is then under way (R19). -/
theorem execFrameBoundary_served {s : State} (hcycle : s.cycle = 0) (hstep : s.tx.step = 0) :
    ∃ t, execFrameBoundary s = .next t ∧ t.bus.served = s.controlUp ∧ (s.controlUp = true → t.tx.step = 2) := by
  unfold execFrameBoundary
  rw [if_neg (by simp [hcycle, hstep])]
  cases s.controlUp with
  | false => exact ⟨_, rfl, rfl, fun h => absurd h Bool.false_ne_true⟩
  | true =>
    refine ⟨_, rfl, rfl, fun _ => ?_⟩
    rw [bus_step, State.served_step, State.atStep_step]

theorem execFrameBoundary_idle {s : State} (h : s.cycle ≠ 0 ∨ s.tx.step ≠ 0) : execFrameBoundary s = .next s := by
  unfold execFrameBoundary
  exact if_pos (by simpa using h)

/-! ### A missed deadline -/

/-- The misses in a row of a task before this one: those of its last tick, when this tick is the next of its period (R17). -/
def State.missesBefore (s : State) (key period : Nat) : Nat :=
  let before := Tab.get (0, 0) s.die.misses key
  if 0 < period ∧ before.1 + period = s.ticks then before.2 else 0

/-- A task's run of misses noted at this tick. -/
def State.noteMiss (s : State) (key run : Nat) : State :=
  { s with die := { s.die with misses := Tab.set s.die.misses key (s.ticks, run) } }

/-- A task not reported at this tick before is not taken for one reported. -/
theorem State.miss_not_repeated {s : State} {key : Nat} (hnew : (Tab.find s.die.misses key).map Prod.fst ≠ some s.ticks) (run : Nat) :
    (Tab.find s.die.misses key == some (s.ticks, run)) = false :=
  beq_eq_false_iff_ne.2 fun h => hnew (by rw [h]; rfl)

/-- In the frame of a switch-over a miss is noted alone (R72). -/
theorem State.missDeadline_exempt {s : State} (die half : Nat) {task : Nat} (period overrun : Nat)
    (hnew : (Tab.find s.die.misses (die * 65536 + low 16 task)).map Prod.fst ≠ some s.ticks)
    (hswitch : s.die.switchFrame = some s.sfn) :
    s.missDeadline die half task period overrun =
      s.noteMiss (die * 65536 + low 16 task) (s.missesBefore (die * 65536 + low 16 task) period) := by
  simp [State.missDeadline, State.miss_not_repeated hnew, hswitch, State.noteMiss, State.missesBefore, b2n]

/-- Outside it a miss that is not the third in a row is noted, raised and counted (R17). -/
theorem State.missDeadline_counted {s : State} (die half : Nat) {task period : Nat} (overrun : Nat)
    (hnew : (Tab.find s.die.misses (die * 65536 + low 16 task)).map Prod.fst ≠ some s.ticks)
    (hswitch : s.die.switchFrame ≠ some s.sfn) (hrun : s.missesBefore (die * 65536 + low 16 task) period ≠ 2) :
    s.missDeadline die half task period overrun =
      ((s.noteMiss (die * 65536 + low 16 task) (s.missesBefore (die * 65536 + low 16 task) period + 1)).raise
        Evt.DEADLINE_MISS die (low 16 task) (low 32 overrun)).bump Ent.DEADLINE_MISS_COUNT := by
  simp only [State.missesBefore] at hrun
  simp [State.missDeadline, State.miss_not_repeated hnew, hswitch, hrun, State.noteMiss, State.missesBefore, b2n]

theorem State.noteMiss_find (s : State) (key run : Nat) : Tab.find (s.noteMiss key run).die.misses key = some (s.ticks, run) :=
  Tab.find_set_same ..

/-- A miss noted, raised and counted where the counter's sum fits. -/
theorem State.missCounted {s : State} (key run inst p q : Nat) (hfit : s.nat Ent.DEADLINE_MISS_COUNT + 1 < 2 ^ 32) :
    let t := ((s.noteMiss key run).raise Evt.DEADLINE_MISS inst p q).bump Ent.DEADLINE_MISS_COUNT
    Tab.find t.die.misses key = some (s.ticks, run) ∧ t.nat Ent.DEADLINE_MISS_COUNT = s.nat Ent.DEADLINE_MISS_COUNT + 1 ∧
      s.raised t Evt.DEADLINE_MISS inst p q ∧ s.cellsKept t [Ent.DEADLINE_MISS_COUNT.key] ∧
      { t with ev := s.ev, cells := s.cells, writes := s.writes, die := s.die } = s := by
  intro t
  have hnat : ((s.noteMiss key run).raise Evt.DEADLINE_MISS inst p q).nat Ent.DEADLINE_MISS_COUNT = s.nat Ent.DEADLINE_MISS_COUNT := by
    rw [State.nat_def, State.raise_eq, State.val_raiseWith]
    rfl
  have ht : t = ((s.noteMiss key run).raise Evt.DEADLINE_MISS inst p q).setNat Ent.DEADLINE_MISS_COUNT 0
      (s.nat Ent.DEADLINE_MISS_COUNT + 1) := by
    rw [← hnat]
    exact State.bump_of_fits (by rw [hnat]; exact hfit)
  rw [ht]
  refine ⟨?_, State.nat_setNat_same .., ?_, fun k hk => ?_, ?_⟩
  · rw [State.setNat_eq, State.put_die, State.raise_eq, State.raiseWith_die, State.noteMiss_find]
  · rw [State.raised, State.setNat_eq, State.put_ev]
    exact State.raise_ev_congr (s := s) (t := s.noteMiss key run) rfl rfl rfl rfl ..
  · rw [State.setNat_eq, State.find_cells_put_ne _ _ _ _ _ _ (fun h => hk (List.mem_singleton.2 h)), State.raise_eq, State.raiseWith_cells]
    rfl
  · unfold State.raise State.raiseWith
    split <;> rfl

/-- Settles O3: the tick, the boundary served and idle, and the miss of a task with its event or in the frame of a switch-over. -/
theorem tickAdvancesTheClock : Obligations.TickAdvancesTheClock := by
  intro s
  refine ⟨fun x => execCycleTick_shown x s, fun hcycle hstep => execFrameBoundary_served hcycle hstep,
    fun h => execFrameBoundary_idle h, ?_⟩
  intro die half task period overrun key before last hnew
  refine ⟨fun hswitch hlast hfit => ?_, fun hswitch => ?_⟩
  · exact ⟨_, congrArg Host.Outcome.next (State.missDeadline_counted die half overrun hnew hswitch hlast),
      State.missCounted key (last + 1) die (low 16 task) (low 32 overrun) hfit⟩
  · exact ⟨_, congrArg Host.Outcome.next (State.missDeadline_exempt die half period overrun hnew hswitch), State.noteMiss_find .., rfl⟩

end Sys2Proof.Machine
end

section
/-!
PROOFS. The rules the site frame's commands rest on (O4 to O11): which own values of the dictionary a write, an event or a message keeps,
and what the entries read after them.
-/
namespace Sys2Proof.Machine
open Sys2Proof

/-! ### Own values kept -/

theorem State.cellsKept_of_cells {s t : State} (h : t.cells = s.cells) (keys : List Nat) : s.cellsKept t keys :=
  fun k _ => by rw [h]

theorem State.cellsKept_congr {s z t : State} {keys : List Nat} (hz : s.cellsKept z keys) (h : t.cells = z.cells) : s.cellsKept t keys :=
  fun k hk => by rw [h, hz k hk]

/-- A write at a listed key keeps the rest. -/
theorem State.cellsKept_put {s z : State} {keys : List Nat} (hz : s.cellsKept z keys) {e : Entry} {n j : Nat} (v : Val)
    (hk : e.key n j ∈ keys) : s.cellsKept (z.put e n j v) keys := by
  intro k hkeys
  rw [State.find_cells_put_ne _ _ _ _ _ _ fun h => hkeys (by rw [h]; exact hk), hz k hkeys]

theorem State.cellsKept_fitNat {s z : State} {keys : List Nat} (hz : s.cellsKept z keys) {e : Entry} {n j : Nat} (v : Nat)
    (hk : e.key n j ∈ keys) : s.cellsKept (z.fitNat e n v j) keys := by
  unfold State.fitNat
  split
  · exact State.cellsKept_put hz _ hk
  · exact State.cellsKept_put (z := z.takeFree.2) hz _ hk

theorem State.cellsKept_fitInt {s z : State} {keys : List Nat} (hz : s.cellsKept z keys) {e : Entry} {n j : Nat} (v : Int)
    (hk : e.key n j ∈ keys) : s.cellsKept (z.fitInt e n v j) keys := by
  unfold State.fitInt
  extract_lets w fits
  split
  · exact State.cellsKept_put hz _ hk
  · exact State.cellsKept_put (z := z.takeFree.2) hz _ hk

/-- Taking a tag writes the two counters of tags only. -/
theorem State.cellsKept_taken {s : State} {keys : List Nat} (h : Held) (hu : Ent.TAGS_IN_USE.key ∈ keys)
    (hw : Ent.TAGS_HIGH_WATER.key ∈ keys) : s.cellsKept (s.taken h) keys := by
  intro k hk
  have hne1 : k ≠ Ent.TAGS_IN_USE.key := fun e => hk (e ▸ hu)
  have hne2 : k ≠ Ent.TAGS_HIGH_WATER.key := fun e => hk (e ▸ hw)
  rw [State.taken, State.noteApplied_cells]
  unfold State.takeTag State.when
  dsimp only
  split
  · rw [State.setNat_eq, State.find_cells_put_ne _ _ _ _ _ _ hne2, State.setNat_eq, State.find_cells_put_ne _ _ _ _ _ _ hne1]
  · rw [State.setNat_eq, State.find_cells_put_ne _ _ _ _ _ _ hne1]

/-! ### What an entry reads -/

theorem State.nat_congr {s t : State} {e : Entry} {n j : Nat} (h : t.val e n j = s.val e n j) : t.nat e n j = s.nat e n j := by
  rw [State.nat_def, State.nat_def, h]

theorem State.int_setInt_same (s : State) (e : Entry) (n j : Nat) (v : Int) : (s.setInt e n v j).int e n j = v := by
  simp [State.int_def]

theorem State.nat_put_ne (s : State) {e f : Entry} {n j m i : Nat} (v : Val) (h : f.key m i ≠ e.key n j) :
    (s.put e n j v).nat f m i = s.nat f m i :=
  State.nat_congr (State.val_put_ne _ _ _ _ _ _ _ _ h)

/-- The sub-index alone keeps the rows of two entries apart. -/
theorem Entry.key_ne_of_sub {e f : Entry} (h : e.sub < 256 ∧ f.sub < 256 ∧ e.sub ≠ f.sub) (n m : Nat) : e.key n 0 ≠ f.key m 0 := by
  rw [Entry.key, Entry.key]
  omega

/-- The scheduled actions stand above every entry of a lower index. -/
theorem Entry.key_ne_of_base {e f : Entry} {n m : Nat} (h : f.sub < 256 ∧ f.base + m < e.base) : e.key n 0 ≠ f.key m 0 := by
  rw [Entry.key, Entry.key]
  omega

/-- Taking a tag leaves the scheduled actions. -/
theorem State.nat_taken_action (s : State) (h : Held) {e : Entry} (he : 0xE000 ≤ e.base) (n : Nat) :
    (s.taken h).nat e n = s.nat e n := by
  have hbase : Ent.TAGS_IN_USE.base + 0 < 0xE000 ∧ Ent.TAGS_HIGH_WATER.base + 0 < 0xE000 := by decide
  exact State.nat_congr (State.val_taken s h e n 0
    (Entry.key_ne_of_base ⟨by decide, Nat.lt_of_lt_of_le hbase.1 he⟩)
    (Entry.key_ne_of_base ⟨by decide, Nat.lt_of_lt_of_le hbase.2 he⟩))

theorem State.nat_answerLater (s : State) (h : Held) (st : Nat) (body : List Byte) (e : Entry) (n j : Nat) :
    (s.answerLater h st body).nat e n j = s.nat e n j :=
  State.nat_congr (State.val_answerLater ..)

theorem State.nat_raise (s : State) (k : EvKind) (i p q : Nat) (e : Entry) (n j : Nat) : (s.raise k i p q).nat e n j = s.nat e n j :=
  State.nat_congr (State.val_raiseWith ..)

/-- An event's record takes of site time only whether it was stepped and whether its error is high. -/
theorem State.raise_ev_of_stamp {s t : State} (hev : t.ev = s.ev) (hsfn : t.sfn = s.sfn) (hcycle : t.cycle = s.cycle)
    (hstep : t.time.stepDay = s.time.stepDay) (hhigh : t.time.errorHigh = s.time.errorHigh) (k : EvKind) (i p q : Nat) :
    (t.raise k i p q).ev = (s.raise k i p q).ev := by
  simp only [State.raise, State.raiseWith, State.record, hev, hsfn, hcycle, hstep, hhigh]
  split <;> rfl

/-- An event changes the log alone. -/
theorem State.raise_frame (s : State) (k : EvKind) (i p q : Nat) (e : EventSt) : { s.raise k i p q with ev := e } = { s with ev := e } := by
  unfold State.raise State.raiseWith
  split <;> rfl

/-! ### What comes of a list of changes -/

/-- Where every change of a list keeps `P`, and one of them brings it about from any state that meets an invariant, it holds after
them all. -/
theorem State.each_reaches {α : Type} {s : State} {l : List α} {f : State → α → State} (P Q : State → Prop) {a : α} (ha : a ∈ l)
    (hs : Q s) (hinv : ∀ z b, Q z → Q (f z b)) (hkeep : ∀ z b, P z → P (f z b)) (hat : ∀ z, Q z → P (f z a)) : P (s.each l f) := by
  obtain ⟨l1, l2, rfl⟩ := List.append_of_mem ha
  have hsplit : s.each (l1 ++ a :: l2) f = (f (s.each l1 f) a).each l2 f := by simp [State.each]
  rw [hsplit]
  exact State.each_inv _ _ _ P (hat _ (State.each_inv _ _ _ Q hs hinv)) hkeep

end Sys2Proof.Machine
end

section
/-!
PROOFS. The messages of the two-phase protocol (O10): what sending one leaves alone, and that a repeat reaches every participant that has
not answered (R54, R55).
-/
namespace Sys2Proof.Machine
open Sys2Proof

/-! ### Sending -/

/-- A two-phase message waits for the mirror or for a node's next poll; nothing else changes. -/
theorem State.sendPhase_frame (s : State) (i op u : Nat) (b : List Byte) (w : List Msg) (e : EusorSt) :
    { s.sendPhase i op u b with waiting := w, eus := e } = { s with waiting := w, eus := e } := by
  unfold State.sendPhase
  split <;> rfl

theorem State.sendTwoPhase_frame (s : State) (i op : Nat) (units : List Nat) (w : List Msg) (e : EusorSt) :
    { s.sendTwoPhase i op units with waiting := w, eus := e } = { s with waiting := w, eus := e } :=
  State.each_keeps s units _ (fun z => { z with waiting := w, eus := e }) fun z u =>
    State.each_keeps z _ _ (fun y => { y with waiting := w, eus := e }) fun y b => y.sendPhase_frame i op u b w e

/-- What is read of no waiting message and no node is read the same after sending. -/
theorem State.sendTwoPhase_keeps {β : Type} (g : State → β) (hg : ∀ (z : State) w e, g { z with waiting := w, eus := e } = g z)
    (s : State) (i op : Nat) (units : List Nat) : g (s.sendTwoPhase i op units) = g s := by
  rw [← hg (s.sendTwoPhase i op units) [] s.eus, State.sendTwoPhase_frame, hg]

@[simp] theorem State.sendTwoPhase_cells (s : State) (i op : Nat) (units : List Nat) : (s.sendTwoPhase i op units).cells = s.cells :=
  State.sendTwoPhase_keeps State.cells (fun _ _ _ => rfl) s i op units

theorem State.sendTwoPhase_nat (s : State) (i op : Nat) (units : List Nat) (e : Entry) (n : Nat) :
    (s.sendTwoPhase i op units).nat e n = s.nat e n :=
  State.sendTwoPhase_keeps (fun z => z.nat e n) (fun _ _ _ => rfl) s i op units

/-- A message stands among those that wait for the mirror. -/
def State.awaits (t : State) (port : Port) (dest : Nat) (kind : MsgKind) : Prop :=
  ∃ m ∈ t.waiting, m.port = port ∧ m.dest = dest ∧ m.kind = kind

theorem State.awaits_sendPhase_keep {s : State} {port : Port} {dest : Nat} {kind : MsgKind} (h : s.awaits port dest kind)
    (i op u : Nat) (b : List Byte) : (s.sendPhase i op u b).awaits port dest kind := by
  obtain ⟨m, hm, hport, hdest, hkind⟩ := h
  refine ⟨m, ?_, hport, hdest, hkind⟩
  unfold State.sendPhase
  split
  · exact hm
  · exact List.mem_append_left _ hm
  · exact List.mem_append_left _ hm

/-- Where the two-phase messages of a unit leave: a peer of the network by its number, a unit of the module bus by its channel. -/
def State.phaseRoute (s : State) (u : Nat) : Port × Nat :=
  if u / 4096 = 4 then (.peer, u % 4096) else (.can, s.unitChannel (u % 4096))

/-- A message to a peer or to an outlet module waits on its route. -/
theorem State.awaits_sendPhase (s : State) (i op : Nat) {u : Nat} (b : List Byte) (hu : u / 4096 = 4 ∨ u / 4096 = 1) :
    (s.sendPhase i op u b).awaits (s.phaseRoute u).1 (s.phaseRoute u).2 (twoKind op) := by
  unfold State.sendPhase State.phaseRoute
  rcases hu with hu | hu
  · simp only [hu, if_true]
    exact ⟨_, List.mem_append_right _ (List.mem_singleton.2 rfl), rfl, rfl, rfl⟩
  · simp only [hu, Nat.reduceEqDiff, if_false]
    exact ⟨_, List.mem_append_right _ (List.mem_singleton.2 rfl), rfl, rfl, rfl⟩

/-- Every two-phase message has at least one body. -/
theorem State.twoPhaseBodies_ne_nil (s : State) (key u op : Nat) : s.twoPhaseBodies key u op ≠ [] := by
  unfold State.twoPhaseBodies
  extract_lets
  (repeat' split) <;> exact List.cons_ne_nil _ _

/-- Every unit told has its message waiting on its route. -/
theorem State.awaits_sendTwoPhase (s : State) (i op : Nat) {units : List Nat} {u : Nat} (hmem : u ∈ units)
    (hu : u / 4096 = 4 ∨ u / 4096 = 1) :
    (s.sendTwoPhase i op units).awaits (s.phaseRoute u).1 (s.phaseRoute u).2 (twoKind op) := by
  have hroute (z : State) (v : Nat) (b : List Byte) : (z.sendPhase i op v b).phaseRoute u = z.phaseRoute u :=
    (congrArg (fun y => State.phaseRoute y u) (z.sendPhase_frame i op v b [] z.eus) :)
  refine State.each_reaches (fun z => z.awaits (s.phaseRoute u).1 (s.phaseRoute u).2 (twoKind op))
    (fun z => z.phaseRoute u = s.phaseRoute u) hmem rfl
    (fun z v hz => (State.each_keeps z _ _ (fun y => y.phaseRoute u) fun y b => hroute y v b).trans hz)
    (fun z v hz => State.each_inv z _ _ (fun y => y.awaits (s.phaseRoute u).1 (s.phaseRoute u).2 (twoKind op)) hz
      fun y b hy => State.awaits_sendPhase_keep hy i op v b) fun z hz => ?_
  obtain ⟨b, hb⟩ := List.exists_mem_of_ne_nil _ (z.twoPhaseBodies_ne_nil i u op)
  refine State.each_reaches (fun y => y.awaits (s.phaseRoute u).1 (s.phaseRoute u).2 (twoKind op))
    (fun y => y.phaseRoute u = s.phaseRoute u) hb hz (fun y c hy => (hroute y u c).trans hy)
    (fun y c hy => State.awaits_sendPhase_keep hy i op u c) fun y hy => ?_
  rw [← hy]
  exact State.awaits_sendPhase y i op b hu

/-! ### The coordinator's record -/

@[simp] theorem State.group_setGroup_same (s : State) (i : Nat) (g : GroupAct) : (s.setGroup i g).group i = g :=
  Tab.get_set_same ..

theorem State.group_setGroup_ne (s : State) {i k : Nat} (g : GroupAct) (h : k ≠ i) : (s.setGroup i g).group k = s.group k :=
  Tab.get_set_ne _ _ _ _ _ h

/-! ### Repeats -/

theorem State.repeatTo_early {s : State} {i : Nat} (op : Nat) (silent : Part → Bool) (h : s.frames < (s.group i).lastSent + 100) :
    s.repeatTo i op silent = s := if_neg (Nat.not_le.2 h)

/-- After 100 frames the message goes again to each participant on the network or the module bus that is silent, and the frame of
sending is noted. -/
theorem State.repeatTo_due {s : State} {i : Nat} (op : Nat) (silent : Part → Bool) (h : (s.group i).lastSent + 100 ≤ s.frames) :
    ((s.repeatTo i op silent).group i).lastSent = s.frames ∧
      (∀ p ∈ (s.group i).parts, silent p = true → p.unit / 4096 = 4 ∨ p.unit / 4096 = 1 →
        (s.repeatTo i op silent).awaits (s.phaseRoute p.unit).1 (s.phaseRoute p.unit).2 (twoKind op)) ∧
      { s.repeatTo i op silent with groups := s.groups, waiting := s.waiting, eus := s.eus } = s := by
  have heq : s.repeatTo i op silent = (s.sendTwoPhase i op (((s.group i).parts.filter silent).map Part.unit)).setGroup i
      { s.group i with lastSent := s.frames } := if_pos h
  rw [heq]
  refine ⟨by rw [State.group_setGroup_same], fun p hp hsilent hunit => ?_, ?_⟩
  · exact State.awaits_sendTwoPhase s i op (List.mem_map_of_mem (List.mem_filter.2 ⟨hp, hsilent⟩)) hunit
  · exact congrArg (fun z : State => { z with groups := s.groups }) (State.sendTwoPhase_frame s i op _ s.waiting s.eus)

theorem State.awaits_peer {s t : State} {u : Nat} {kind : MsgKind} (h : t.awaits (s.phaseRoute u).1 (s.phaseRoute u).2 kind)
    (hu : u / 4096 = 4) : ∃ m ∈ t.waiting, m.port = .peer ∧ m.dest = u % 4096 ∧ m.kind = kind := by
  rwa [State.phaseRoute, if_pos hu] at h

theorem State.awaits_can {s t : State} {u : Nat} {kind : MsgKind} (h : t.awaits (s.phaseRoute u).1 (s.phaseRoute u).2 kind)
    (hu : u / 4096 = 1) : ∃ m ∈ t.waiting, m.port = .can ∧ m.dest = s.unitChannel (u % 4096) ∧ m.kind = kind := by
  rwa [State.phaseRoute, if_neg (by omega)] at h

theorem execAnnounceRepeat_announced {s : State} {i : Fin 1024} (h : s.aState i = Act.ANNOUNCED) :
    execAnnounceRepeat i s = .next (s.repeatTo i Two.ANNOUNCE fun p => !p.ready) := if_pos (beq_iff_eq.2 h)

theorem execGoRepeat_unlocked {s : State} {i : Fin 1024} (h : s.aState i = Act.GO) (hlock : (s.group i).locked = false) :
    execGoRepeat i s = .next (s.repeatTo i Two.GO fun p => !p.goAck) := if_pos (by simp [h, hlock])

/-- With one record of the action, whose CANCEL has gone out before its frame, CANCEL is repeated for it. -/
theorem execCancelRepeat_one {s : State} {i : Fin 1024} (hsent : (s.group i).cancelSent = true) (hsfn : s.sfn < (s.group i).sfn)
    (hone : s.records i = [i.val]) : execCancelRepeat i s = .next (s.repeatTo i Two.CANCEL fun p => !p.cancelAck) := by
  simp [execCancelRepeat, hone, State.each, hsent, hsfn, ok]

/-- Settles O10: each repeat is one repeat to the silent participants, of its own message. -/
theorem twoPhaseMessagesAreRepeated : Obligations.TwoPhaseMessagesAreRepeated := by
  intro s i
  refine ⟨fun hstate hdue => ?_, fun hstate hearly => ?_, fun hstate hlock hdue => ?_, fun hstate hlock hearly => ?_,
    fun hsent hsfn hdue hone => ?_⟩
  · obtain ⟨hlast, htold, hframe⟩ := State.repeatTo_due Two.ANNOUNCE (fun p => !p.ready) hdue
    exact ⟨_, execAnnounceRepeat_announced hstate, hlast,
      fun p hp hsilent hu => State.awaits_peer (htold p hp (by simp [hsilent]) (.inl hu)) hu,
      fun p hp hsilent hu => State.awaits_can (htold p hp (by simp [hsilent]) (.inr hu)) hu, hframe⟩
  · exact (execAnnounceRepeat_announced hstate).trans (congrArg Host.Outcome.next (State.repeatTo_early _ _ hearly))
  · obtain ⟨hlast, htold, hframe⟩ := State.repeatTo_due Two.GO (fun p => !p.goAck) hdue
    exact ⟨_, execGoRepeat_unlocked hstate hlock, hlast,
      fun p hp hsilent hu => State.awaits_peer (htold p hp (by simp [hsilent]) (.inl hu)) hu,
      fun p hp hsilent hu => State.awaits_can (htold p hp (by simp [hsilent]) (.inr hu)) hu, hframe⟩
  · exact (execGoRepeat_unlocked hstate hlock).trans (congrArg Host.Outcome.next (State.repeatTo_early _ _ hearly))
  · obtain ⟨hlast, htold, hframe⟩ := State.repeatTo_due Two.CANCEL (fun p => !p.cancelAck) hdue
    exact ⟨_, execCancelRepeat_one hsent hsfn hone, hlast,
      fun p hp hsilent hu => State.awaits_peer (htold p hp (by simp [hsilent]) (.inl hu)) hu, hframe⟩

end Sys2Proof.Machine
end

section
/-!
PROOFS. The points of a coordinator (O9): announcing, going, locking and cancelling an action of several units, and the pending caps of a
SET_SWAP that come before its announcement (R54, R159).
-/
namespace Sys2Proof.Machine
open Sys2Proof

theorem State.aState_setState (s : State) (i v : Nat) : (s.setNat Ent.ACTION_STATE i v).aState i = v := State.nat_setNat_same ..

theorem State.cellsKept_setState (s : State) {keys : List Nat} (i v : Nat) (h : Ent.ACTION_STATE.key i ∈ keys) :
    s.cellsKept (s.setNat Ent.ACTION_STATE i v) keys := by
  rw [State.setNat_eq]
  exact State.cellsKept_put (State.cellsKept_of_cells rfl _) _ h

/-! ### Cancelling -/

/-- An action cancelled shows it with its result, and nothing but its event comes of it (R48). -/
theorem State.cancelAction_ends (s : State) (i r : Nat) :
    (s.cancelAction i r).aState i = Act.CANCELLED ∧ (s.cancelAction i r).nat Ent.ACTION_RESULT i = r ∧
      s.cellsKept (s.cancelAction i r) [Ent.ACTION_STATE.key i, Ent.ACTION_RESULT.key i] ∧
      { s.cancelAction i r with cells := s.cells, writes := s.writes, ev := s.ev } = s := by
  have hapart : Ent.ACTION_STATE.key i 0 ≠ Ent.ACTION_RESULT.key i 0 := Entry.key_ne_of_sub (by decide) i i
  unfold State.cancelAction State.actionEvent
  refine ⟨?_, ?_, ?_, ?_⟩
  · rw [State.aState, State.nat_raise, State.setNat_eq, State.nat_put_ne _ _ hapart, State.nat_setNat_same]
  · rw [State.nat_raise, State.nat_setNat_same]
  · refine State.cellsKept_congr (z := (s.setNat Ent.ACTION_STATE i Act.CANCELLED).setNat Ent.ACTION_RESULT i r) ?_
      (by rw [State.raise_eq, State.raiseWith_cells])
    rw [State.setNat_eq]
    exact State.cellsKept_put (s.cellsKept_setState i _ (by simp)) _ (by simp)
  · exact congrArg (fun z : State => { z with cells := s.cells, writes := s.writes }) (State.raise_frame _ _ _ _ _ s.ev)

/-- What is read of no entry's value and no event is read the same after an action is cancelled. -/
theorem State.cancelAction_keeps {β : Type} (g : State → β)
    (hg : ∀ (z : State) c w e, g { z with cells := c, writes := w, ev := e } = g z) (s : State) (i r : Nat) :
    g (s.cancelAction i r) = g s := by
  obtain ⟨-, -, -, hframe⟩ := s.cancelAction_ends i r
  rw [← hg (s.cancelAction i r) s.cells s.writes s.ev, hframe]

/-- An action of several units cancelled: it shows it with its result, and its record says that CANCEL has gone out (R55). -/
theorem State.cancelGroup_ends (s : State) (i r : Nat) :
    (s.cancelGroup i r).aState i = Act.CANCELLED ∧ (s.cancelGroup i r).nat Ent.ACTION_RESULT i = r ∧
      ((s.cancelGroup i r).group i).cancelSent = true ∧
      s.cellsKept (s.cancelGroup i r) [Ent.ACTION_STATE.key i, Ent.ACTION_RESULT.key i] ∧
      (s.cancelGroup i r).bus = s.bus := by
  unfold State.cancelGroup
  extract_lets g
  generalize hz : (s.sendTwoPhase i Two.CANCEL (g.parts.map Part.unit)).setGroup i { g with cancelSent := true, lastSent := s.frames } = z
  have hcells : z.cells = s.cells := by rw [← hz, State.setGroup, State.sendTwoPhase_cells]
  have hbus : z.bus = s.bus := by
    rw [← hz]
    exact State.sendTwoPhase_keeps State.bus (fun _ _ _ => rfl) ..
  obtain ⟨hstate, hresult, hkept, -⟩ := z.cancelAction_ends i r
  refine ⟨hstate, hresult, ?_, fun k hk => by rw [hkept k hk, hcells], ?_⟩
  · rw [State.cancelAction_keeps (fun y => (y.group i).cancelSent) (fun _ _ _ _ => rfl), ← hz, State.group_setGroup_same]
  · rw [State.cancelAction_keeps State.bus (fun _ _ _ _ => rfl), hbus]

/-- Reporting the units that were not ready changes the event log alone. -/
theorem State.notReady_frame (s : State) (i : Nat) (units : List Nat) (r : Nat) (e : EventSt) :
    { s.notReady i units r with ev := e } = { s with ev := e } :=
  State.each_keeps s units _ (fun z => { z with ev := e }) fun z _ => z.raise_frame _ _ _ _ e

theorem State.notReady_keeps {β : Type} (g : State → β) (hg : ∀ (z : State) e, g { z with ev := e } = g z) (s : State) (i : Nat)
    (units : List Nat) (r : Nat) : g (s.notReady i units r) = g s := by
  rw [← hg (s.notReady i units r) s.ev, State.notReady_frame, hg]

/-- The units that were not ready reported, the action is cancelled with the reason (R54). -/
theorem State.notReady_cancelGroup (s : State) (i : Nat) (units : List Nat) (r : Nat) :
    ((s.notReady i units r).cancelGroup i r).aState i = Act.CANCELLED ∧
      ((s.notReady i units r).cancelGroup i r).nat Ent.ACTION_RESULT i = r ∧
      (((s.notReady i units r).cancelGroup i r).group i).cancelSent = true ∧
      s.cellsKept ((s.notReady i units r).cancelGroup i r) [Ent.ACTION_STATE.key i, Ent.ACTION_RESULT.key i] ∧
      ((s.notReady i units r).cancelGroup i r).bus = s.bus := by
  obtain ⟨hstate, hresult, hsent, hkept, hbus⟩ := (s.notReady i units r).cancelGroup_ends i r
  refine ⟨hstate, hresult, hsent, fun k hk => ?_, ?_⟩
  · rw [hkept k hk, State.notReady_keeps State.cells fun _ _ => rfl]
  · rw [hbus, State.notReady_keeps State.bus fun _ _ => rfl]

/-! ### Going on -/

/-- An action goes on to a state, its message to every participant given out and its record put in place of the old. -/
theorem State.goOn (s : State) (i st op : Nat) (units : List Nat) (g : GroupAct) :
    let t := ((s.setNat Ent.ACTION_STATE i st).sendTwoPhase i op units).setGroup i g
    t.aState i = st ∧ t.group i = g ∧ s.cellsKept t [Ent.ACTION_STATE.key i] ∧
      { t with cells := s.cells, writes := s.writes, groups := s.groups, waiting := s.waiting, eus := s.eus } = s := by
  intro t
  refine ⟨?_, State.group_setGroup_same .., ?_, ?_⟩
  · exact (State.sendTwoPhase_nat _ i op units Ent.ACTION_STATE i).trans (s.aState_setState i st)
  · exact State.cellsKept_congr (s.cellsKept_setState i st (List.mem_singleton.2 rfl)) (State.sendTwoPhase_cells ..)
  · exact congrArg (fun z : State => { z with cells := s.cells, writes := s.writes, groups := s.groups })
      (State.sendTwoPhase_frame (s.setNat Ent.ACTION_STATE i st) i op units s.waiting s.eus)

/-! ### Pending caps -/

theorem State.sendBus_keeps {β : Type} (g : State → β) (hout : ∀ (z : State) o, g { z with out := o } = g z)
    (hqueue : ∀ (z : State) q, g { z with bus := { z.bus with queue := q } } = g z) (s : State) (m : Msg) : g (s.sendBus m) = g s := by
  unfold State.sendBus
  split
  · exact hout ..
  · exact hqueue ..

/-- What a transfer to a unit leaves of the actions: the state of each, the coordinator's records and the caps that wait. -/
def State.actionSide (s : State) (i : Nat) : Nat × Tab GroupAct × List (Nat × Nat) := (s.aState i, s.groups, s.bus.pendingCaps)

theorem State.takeTag_actionSide (s : State) (tag : Nat) (conn : Option Nat) (i : Nat) :
    (s.takeTag tag conn).actionSide i = s.actionSide i := by
  have hval : (s.takeTag tag conn).val Ent.ACTION_STATE i 0 = s.val Ent.ACTION_STATE i 0 :=
    State.val_takeTag s tag conn _ i 0 (Entry.key_ne_of_base (by decide)) (Entry.key_ne_of_base (by decide))
  simp only [State.actionSide, State.aState, State.nat_congr hval, State.takeTag_groups, State.takeTag_bus]

theorem State.startXfer_actionSide (s : State) (u : Nat) (write : Bool) (index sub type : Nat) (value : List Byte) (i : Nat) :
    (s.startXfer u write index sub type value).actionSide i = s.actionSide i := by
  unfold State.startXfer
  split
  · dsimp only
    rw [State.sendBus_keeps (fun z => z.actionSide i) (fun _ _ => rfl) (fun _ _ => rfl), State.takeTag_actionSide]
    rfl
  · rfl

/-- The pending caps of an action's front-end units are written and awaited (R159). -/
theorem State.writePendingCaps_awaits (s : State) (i : Nat) :
    (s.writePendingCaps i).aState i = s.aState i ∧ (s.writePendingCaps i).groups = s.groups ∧
      (s.writePendingCaps i).bus.pendingCaps = s.bus.pendingCaps ++ [(i, 2 * (s.feParts i).length)] := by
  unfold State.writePendingCaps
  extract_lets fs s1
  have hside : s1.actionSide i = s.actionSide i := State.each_keeps s fs _ (fun z => z.actionSide i) fun z f => by
    rw [State.startXfer_actionSide, State.startXfer_actionSide]
  simp only [State.actionSide, Prod.mk.injEq] at hside
  obtain ⟨hstate, hgroups, hcaps⟩ := hside
  exact ⟨hstate, hgroups, congrArg (· ++ [(i, 2 * fs.length)]) hcaps⟩

/-! ### The points -/

section Announce
variable {s : State} {i : Fin 1024} (harmed : s.aState i = Act.ARMED) (hgroup : s.aGroup i ≠ 0)
  (hlead : s.aSfn i ≤ s.sfn + s.nat Ent.ACTION_ANNOUNCE_LEAD i) (hearly : s.sfn < s.aSfn i)
  (hcaps : s.bus.pendingCaps.any (fun p => p.1 == i.val) = false)
include harmed hgroup hlead hearly hcaps

theorem execAnnouncePoint_announces (h : s.aType i ≠ ActType.SET_SWAP ∨ s.feParts i = []) :
    execAnnouncePoint i s = .next (s.announce i) := by
  have hdirect : (s.aType i == ActType.SET_SWAP && !(s.feParts i).isEmpty) = false := by
    rcases h with h | h <;> simp [h]
  simp [execAnnouncePoint, harmed, hgroup, hlead, hearly, hcaps, hdirect, ok]

theorem execAnnouncePoint_writesCaps (htype : s.aType i = ActType.SET_SWAP) (hfe : s.feParts i ≠ []) :
    execAnnouncePoint i s = .next (s.writePendingCaps i) := by
  simp [execAnnouncePoint, harmed, hgroup, hlead, hearly, hcaps, htype, hfe, ok]

end Announce

section Decide
variable {s : State} {i : Fin 1024} (hstate : s.aState i = Act.ANNOUNCED) (hlead : s.aSfn i ≤ s.sfn + s.nat Ent.ACTION_DECIDE_LEAD i)
include hstate hlead

theorem execDecidePoint_goes (hready : (s.group i).parts.all Part.ready = true) (hprep : s.prepared i = true) :
    execDecidePoint i s = .next (((s.setNat Ent.ACTION_STATE i Act.GO).sendTwoPhase i Two.GO ((s.group i).parts.map Part.unit)).setGroup i
      { s.group i with lastSent := s.frames }) := by
  have hnot : ¬ Act.ANNOUNCED = Act.ARMED := by decide
  simp only [execDecidePoint, hstate, hlead, hready, hprep, ok, beq_iff_eq, hnot, decide_true, Bool.and_true, Bool.and_eq_true,
    false_and, if_false, if_true]

theorem execDecidePoint_cancels (h : (s.group i).parts.all Part.ready = false ∨ s.prepared i = false) :
    execDecidePoint i s = .next ((s.notReady i (((s.group i).parts.filter (fun p => !p.ready)).map Part.unit) St.BUSY).cancelGroup i
      St.BUSY) := by
  have hnot : ¬ Act.ANNOUNCED = Act.ARMED := by decide
  have hboth : ((s.group i).parts.all Part.ready && s.prepared i) = false := by
    rcases h with h | h <;> simp [h]
  simp only [execDecidePoint, hstate, hlead, hboth, ok, beq_iff_eq, hnot, decide_true, Bool.and_eq_true, false_and, if_false, if_true,
    and_true, Bool.false_eq_true]

end Decide

/-- The caps of a SET_SWAP not all answered at the decision, its wait ends and it is cancelled (R159). -/
theorem execDecidePoint_capsLate {s : State} {i : Fin 1024} (harmed : s.aState i = Act.ARMED) (hgroup : s.aGroup i ≠ 0)
    (hlead : s.aSfn i ≤ s.sfn + s.nat Ent.ACTION_DECIDE_LEAD i) (hcaps : s.bus.pendingCaps.any (fun p => p.1 == i.val) = true) :
    execDecidePoint i s = .next
      ((({ s with bus := { s.bus with pendingCaps := s.bus.pendingCaps.filter (fun p => p.1 != i.val) } } : State).notReady i
        ((s.group i).parts.map Part.unit) St.BUSY).cancelGroup i St.BUSY) := by
  simp only [execDecidePoint, harmed, hcaps, hlead, ok, beq_self_eq_true, bne_iff_ne.2 hgroup, decide_true, Bool.and_self, if_true]

theorem execCancelGuardPoint_due {s : State} {i : Fin 1024} (hstate : s.aState i = Act.GO) (hlock : (s.group i).locked = false)
    (hguard : s.aSfn i ≤ s.sfn + s.nat Ent.ACTION_CANCEL_GUARD i) :
    execCancelGuardPoint i s = if (s.group i).parts.all Part.goAck then .next (s.setGroup i { s.group i with locked := true })
      else .next ((s.notReady i (((s.group i).parts.filter (fun p => !p.goAck)).map Part.unit) St.BUSY).cancelGroup i St.BUSY) := by
  simp [execCancelGuardPoint, hstate, hlock, hguard, ok]

/-- The split units of an executed action, reported at the end of its record. -/
def State.reportSplit (s : State) (i : Nat) : State :=
  s.each ((s.group i).parts.filter (fun p => p.done != some St.OK)) fun z p => z.raise Evt.GROUP_SPLIT i p.unit (p.done.getD St.LATE)

theorem State.reportSplit_frame (s : State) (i : Nat) (e : EventSt) : { s.reportSplit i with ev := e } = { s with ev := e } :=
  State.each_keeps s _ _ (fun z => { z with ev := e }) fun z _ => z.raise_frame _ _ _ _ e

theorem State.reportSplit_none {s : State} {i : Nat} (h : ∀ p ∈ (s.group i).parts, p.done = some St.OK) : s.reportSplit i = s := by
  have hnone : (s.group i).parts.filter (fun p => p.done != some St.OK) = [] :=
    List.filter_eq_nil_iff.2 fun p hp => by simp [h p hp]
  rw [State.reportSplit, hnone]
  rfl

theorem execDoneCheckPoint_due {s : State} {i : Fin 1024} (hstate : s.aState i = Act.EXECUTED) (hgroup : s.aGroup i ≠ 0)
    (hdue : s.aSfn i + 100 ≤ s.sfn) :
    execDoneCheckPoint i s = .next { s.reportSplit i with groups := Tab.erase (s.reportSplit i).groups i } := by
  simp [execDoneCheckPoint, hstate, hgroup, hdue, ok, State.reportSplit]

/-- Settles O9: each point's outcome, with what the action goes on to or how it is cancelled. -/
theorem twoPhasePointsOfTheCoordinator : Obligations.TwoPhasePointsOfTheCoordinator := by
  intro s i
  refine ⟨fun harmed hgroup hlead hearly hcaps => ⟨fun hdirect => ?_, fun htype hfe => ?_⟩,
    fun hstate hlead => ⟨fun hready hprep => ?_, fun hno => ?_⟩, fun harmed hgroup hlead hcaps => ?_,
    fun hstate hlock hguard => ⟨fun hall => ?_, fun hmissing => ?_⟩, fun hstate hgroup hdue => ?_⟩
  · obtain ⟨hstate, hrecord, hkept, hframe⟩ := s.goOn i Act.ANNOUNCED Two.ANNOUNCE ((s.group i).parts.map Part.unit)
      { s.group i with announced := true, lastSent := s.frames }
    exact ⟨_, execAnnouncePoint_announces harmed hgroup hlead hearly hcaps hdirect, hstate, congrArg GroupAct.announced hrecord,
      congrArg GroupAct.lastSent hrecord, hkept, hframe⟩
  · obtain ⟨hstate, hgroups, hpending⟩ := s.writePendingCaps_awaits i
    exact ⟨_, execAnnouncePoint_writesCaps harmed hgroup hlead hearly hcaps htype hfe, hstate.trans harmed, hgroups, hpending⟩
  · obtain ⟨hgo, hrecord, hkept, hframe⟩ := s.goOn i Act.GO Two.GO ((s.group i).parts.map Part.unit) { s.group i with lastSent := s.frames }
    exact ⟨_, execDecidePoint_goes hstate hlead hready hprep, hgo, congrArg GroupAct.lastSent hrecord, hkept, hframe⟩
  · obtain ⟨hcancelled, hresult, hsent, hkept, -⟩ :=
      s.notReady_cancelGroup i (((s.group i).parts.filter (fun p => !p.ready)).map Part.unit) St.BUSY
    exact ⟨_, execDecidePoint_cancels hstate hlead hno, hcancelled, hresult, hsent, hkept⟩
  · refine ⟨_, execDecidePoint_capsLate harmed hgroup hlead hcaps, ?_⟩
    obtain ⟨hcancelled, hresult, -, -, hbus⟩ :=
      ({ s with bus := { s.bus with pendingCaps := s.bus.pendingCaps.filter (fun p => p.1 != i.val) } } : State).notReady_cancelGroup i
        ((s.group i).parts.map Part.unit) St.BUSY
    refine ⟨hcancelled, hresult, ?_⟩
    rw [hbus]
    simp
  · exact ⟨_, (execCancelGuardPoint_due hstate hlock hguard).trans (if_pos hall), by rw [State.group_setGroup_same], rfl⟩
  · obtain ⟨hcancelled, hresult, hsent, -, -⟩ :=
      s.notReady_cancelGroup i (((s.group i).parts.filter (fun p => !p.goAck)).map Part.unit) St.BUSY
    exact ⟨_, (execCancelGuardPoint_due hstate hlock hguard).trans (if_neg (by simp [hmissing])), hcancelled, hresult, hsent⟩
  · refine ⟨_, execDoneCheckPoint_due hstate hgroup hdue, ?_, fun hall => by rw [State.reportSplit_none hall], ?_⟩
    · exact (congrArg (fun z : State => Tab.erase z.groups i) (s.reportSplit_frame i s.ev) :)
    · exact congrArg (fun z : State => { z with groups := s.groups }) (s.reportSplit_frame i s.ev)

end Sys2Proof.Machine
end

section
/-!
PROOFS. The participants' answers (O8): a message of the network as it is, and a GROUP frame of the module bus by what its bytes say, both
come down to an answer heard in a state that differs in what the link die, the ring and the bus mirror keep (R53 to R55, R138, R158).
-/
namespace Sys2Proof.Machine
open Sys2Proof

/-! ### Hearing -/

theorem State.noteIn_frame (s : State) (row : Instr) : { s.noteIn row with mirror := s.mirror } = s := by
  unfold State.noteIn
  split <;> rfl

/-- A message of a row takes effect as the answer `a` in the state `z`, which is `s` but for what the link die, the ring and the bus
mirror keep of the message. -/
def State.hearsAs (s : State) (row : Instr) (sub : Nat) (m : TwoPhase) (z : State) (a : TwoPhase) : Prop :=
  (∀ go, s.hearPhase row sub m go = go z a) ∧ { z with mirror := s.mirror, bus := s.bus, stream := s.stream } = s

/-- A peer's or a node's message is its own answer. -/
theorem State.hearsAs_message (s : State) (row : Instr) (sub : Nat) {m : TwoPhase} (hm : m.frame = none) :
    s.hearsAs row sub m (s.noteIn row) m :=
  ⟨fun go => by simp only [State.hearPhase, hm],
    congrArg (fun z : State => { z with bus := s.bus, stream := s.stream }) (s.noteIn_frame row)⟩

/-- The answer a GROUP frame of a unit carries (R158). -/
def frameAnswer (r : CanRx) (u : Nat) : TwoPhase :=
  ⟨if u < 64 then 0x1000 + u else 0x2000 + (u - 64), leAt r.data 0 2, leAt r.data 4 4, none⟩

/-- The bus mirror keeps a frame in the streaming port's record alone. -/
theorem State.mirrorBus_frame (s : State) (ch st id : Nat) (own : Bool) (sof : Nat) (d : List Byte) (x : StreamSt) :
    { s.mirrorBus ch st id own sof d with stream := x } = { s with stream := x } := by
  unfold State.mirrorBus
  split <;> rfl

/-- Into an empty ring a frame goes as its one entry, and nothing overflows (R138). -/
theorem State.ringPut_empty {s : State} {r : CanRx} (row : Instr) (hring : (s.can r.ch.val).ring = []) :
    ((s.ringPut r row).can r.ch.val).ring.length = 1 ∧ { s.ringPut r row with bus := s.bus, stream := s.stream } = s := by
  have hmirror (st : Nat) := s.mirrorBus_frame r.ch.val st r.id false r.sof r.data
  have hcan (st : Nat) : (s.mirrorBus r.ch.val st r.id false r.sof r.data).can r.ch.val = s.can r.ch.val :=
    (congrArg (fun z => State.can z r.ch.val) (hmirror st s.stream) :)
  unfold State.ringPut
  dsimp only
  simp only [hcan, hring, List.length_nil, ringCapacity, Nat.reduceLeDiff, decide_false, State.when, Bool.false_eq_true, if_false]
  refine ⟨?_, ?_⟩
  · rw [State.can, State.setCan, Tab.get_set_same]
    rfl
  · exact congrArg (fun z : State => { z with bus := s.bus }) (hmirror _ s.stream)

/-- The state in which a frame that is alone in its ring takes effect: drained, and noted by the link die. -/
def State.drained (s : State) (row : Instr) (r : CanRx) : State :=
  ((s.ringPut r row).setCan r.ch.val { (s.ringPut r row).can r.ch.val with ring := [] }).noteIn row

theorem State.drained_frame {s : State} {r : CanRx} (row : Instr) (hring : (s.can r.ch.val).ring = []) :
    { s.drained row r with mirror := s.mirror, bus := s.bus, stream := s.stream } = s := by
  obtain ⟨-, hput⟩ := State.ringPut_empty row hring
  have hmirror : (s.ringPut r row).mirror = s.mirror := (congrArg State.mirror hput :)
  have hnote := State.noteIn_frame ((s.ringPut r row).setCan r.ch.val { (s.ringPut r row).can r.ch.val with ring := [] }) row
  have hset : ((s.ringPut r row).setCan r.ch.val { (s.ringPut r row).can r.ch.val with ring := [] }).mirror = s.mirror := hmirror
  rw [hset] at hnote
  calc { s.drained row r with mirror := s.mirror, bus := s.bus, stream := s.stream }
      = { (s.ringPut r row) with bus := s.bus, stream := s.stream } :=
        congrArg (fun z : State => { z with bus := s.bus, stream := s.stream }) hnote
    _ = s := hput

/-- A GROUP frame that the device hears is the answer its bytes give, when its class, SUB and length fit (R141, R158). -/
theorem State.hearsAs_frame {s : State} {r : CanRx} {u : Nat} (row : Instr) {sub : Nat} {m : TwoPhase} (hm : m.frame = some r)
    (hh : s.hears r u) (hfits : frameIs r 6 sub 12 64 = true) : s.hearsAs row sub m (s.drained row r) (frameAnswer r u) := by
  obtain ⟨hup, hiso, hcontrol, hring, hreplay, hunit⟩ := hh
  obtain ⟨hone, hput⟩ := State.ringPut_empty row hring
  have hframe := State.drained_frame row hring
  have hserves : (s.ringPut r row).controlUp = true := (congrArg State.controlUp hput :).trans hcontrol
  have hsender : (s.drained row r).unitAt r.ch.val (r.id % 32) = some u :=
    (congrArg (fun z => State.unitAt z r.ch.val (r.id % 32)) hframe :).trans hunit
  refine ⟨fun go => ?_, hframe⟩
  have hhear (go : State → Nat → State) : (s.drained row r).hear r true go = go (s.drained row r) u := by
    simp only [State.hear, hsender, Bool.not_true, Bool.false_eq_true, if_false]
  simp only [State.hearPhase, hm, State.receive, hreplay, hup, hiso, hserves, hone, hfits, Bool.not_true, Bool.false_eq_true, if_false,
    bne_self_eq_false, Bool.or_self]
  exact hhear _

/-- What an answer does not write is read in the state it takes effect in as it was before. -/
theorem State.hearsAs_keeps {β : Type} (g : State → β) (hg : ∀ (z : State) m b x, g { z with mirror := m, bus := b, stream := x } = g z)
    {s z : State} {row : Instr} {sub : Nat} {m a : TwoPhase} (h : s.hearsAs row sub m z a) : g z = g s := by
  rw [← hg z s.mirror s.bus s.stream, h.2]

section Heard
variable {s z : State} {row : Instr} {sub : Nat} {m a : TwoPhase} (h : s.hearsAs row sub m z a)
include h

theorem State.hearsAs_answers (i : Nat) : z.answers i a = s.answers i a := State.hearsAs_keeps (fun y => y.answers i a) (fun _ _ _ _ => rfl) h
theorem State.hearsAs_aState (i : Nat) : z.aState i = s.aState i := State.hearsAs_keeps (fun y => y.aState i) (fun _ _ _ _ => rfl) h
theorem State.hearsAs_aType (i : Nat) : z.aType i = s.aType i := State.hearsAs_keeps (fun y => y.aType i) (fun _ _ _ _ => rfl) h
theorem State.hearsAs_aSfn (i : Nat) : z.aSfn i = s.aSfn i := State.hearsAs_keeps (fun y => y.aSfn i) (fun _ _ _ _ => rfl) h
theorem State.hearsAs_groups : z.groups = s.groups := State.hearsAs_keeps State.groups (fun _ _ _ _ => rfl) h
theorem State.hearsAs_group (i : Nat) : z.group i = s.group i := by rw [State.group, State.group, State.hearsAs_groups h]
theorem State.hearsAs_records (i : Nat) : z.records i = s.records i := by rw [State.records, State.records, State.hearsAs_groups h]

end Heard

/-! ### Noting an answer -/

/-- A list of participants with one of them changed. -/
def markPart (unit : Nat) (f : Part → Part) (l : List Part) : List Part := l.map fun p => if p.unit = unit then f p else p

/-- A change that leaves the participant's unit and is the same done twice marks a list once. -/
theorem markPart_markPart {unit : Nat} {f : Part → Part} (hunit : ∀ p, (f p).unit = p.unit) (htwice : ∀ p, f (f p) = f p) (l : List Part) :
    markPart unit f (markPart unit f l) = markPart unit f l := by
  simp only [markPart, List.map_map]
  refine List.map_congr_left fun p _ => ?_
  by_cases hp : p.unit = unit <;> simp [hp, hunit, htwice]

theorem State.notePart_parts (s : State) (i unit : Nat) (f : Part → Part) :
    ((s.notePart i unit f).group i).parts = markPart unit f (s.group i).parts := by
  simp [State.notePart, markPart]

theorem State.notePart_group_ne (s : State) {i k : Nat} (unit : Nat) (f : Part → Part) (h : k ≠ i) :
    (s.notePart i unit f).group k = s.group k := State.group_setGroup_ne _ _ h

/-- An answer noted in the state it takes effect in. -/
theorem State.hearsAs_notePart {s z : State} {row : Instr} {sub : Nat} {m a : TwoPhase} (h : s.hearsAs row sub m z a) (i : Nat)
    (f : Part → Part) :
    ((z.notePart i a.unit f).group i).parts = markPart a.unit f (s.group i).parts ∧
      { z.notePart i a.unit f with groups := s.groups, mirror := s.mirror, bus := s.bus, stream := s.stream } = s :=
  ⟨by rw [State.notePart_parts, State.hearsAs_group h], congrArg (fun y : State => { y with groups := s.groups }) h.2⟩

/-- Marking each record of a list marks every one listed, once however often it is listed. -/
theorem State.each_notePart {s : State} {l : List Nat} {k : Nat} (hk : k ∈ l) {unit : Nat} {f : Part → Part}
    (hunit : ∀ p, (f p).unit = p.unit) (htwice : ∀ p, f (f p) = f p) :
    ((s.each l fun y j => y.notePart j unit f).group k).parts = markPart unit f (s.group k).parts := by
  have hmark (z : State) (j : Nat) : ((z.notePart j unit f).group k).parts = (z.group k).parts ∨
      ((z.notePart j unit f).group k).parts = markPart unit f (z.group k).parts := by
    by_cases hj : k = j
    · subst hj
      exact .inr (State.notePart_parts ..)
    · exact .inl (by rw [State.notePart_group_ne _ _ _ hj])
  have hsame (z : State) (hz : (z.group k).parts = markPart unit f (s.group k).parts) :
      markPart unit f (z.group k).parts = markPart unit f (s.group k).parts := by
    rw [hz, markPart_markPart hunit htwice]
  refine State.each_reaches (fun z => (z.group k).parts = markPart unit f (s.group k).parts)
    (fun z => (z.group k).parts = (s.group k).parts ∨ (z.group k).parts = markPart unit f (s.group k).parts) hk (.inl rfl)
    (fun z j hz => ?_) (fun z j hz => ?_) fun z hz => ?_
  · rcases hmark z j with hj | hj <;> rcases hz with hz | hz
    · exact .inl (hj.trans hz)
    · exact .inr (hj.trans hz)
    · exact .inr (by rw [hj, hz])
    · exact .inr (hj.trans (hsame z hz))
  · rcases hmark z j with hj | hj
    · exact hj.trans hz
    · exact hj.trans (hsame z hz)
  · rw [State.notePart_parts]
    rcases hz with hz | hz
    · rw [hz]
    · exact hsame z hz

theorem State.each_notePart_frame (s : State) (l : List Nat) (unit : Nat) (f : Part → Part) (g : Tab GroupAct) :
    { s.each l (fun y j => y.notePart j unit f) with groups := g } = { s with groups := g } :=
  State.each_keeps s l (fun y j => y.notePart j unit f) (fun z => { z with groups := g }) fun _ _ => rfl

/-! ### The answers -/

section Commands
variable {s z : State} {i : Fin 1024} {m a : TwoPhase}

theorem execReady_noted (h : s.hearsAs (.ready i m) 1 m z a) (hans : s.answers i a = true) (hstate : s.aState i = Act.ANNOUNCED) :
    execReady i m s = .next (z.notePart i a.unit fun p => { p with ready := true }) := by
  simp only [execReady, ok, h.1, State.hearsAs_answers h, State.hearsAs_aState h, hans, hstate, beq_self_eq_true, Bool.and_self, if_true]

theorem execReady_other (h : s.hearsAs (.ready i m) 1 m z a) (hans : s.answers i a = false) : execReady i m s = .next z := by
  simp only [execReady, ok, h.1, State.hearsAs_answers h, hans, Bool.false_and, Bool.false_eq_true, if_false]

theorem execGoAck_noted (h : s.hearsAs (.goAck i m) 4 m z a) (hans : s.answers i a = true) (hstate : s.aState i = Act.GO) :
    execGoAck i m s = .next (z.notePart i a.unit fun p => { p with goAck := true }) := by
  simp only [execGoAck, ok, h.1, State.hearsAs_answers h, State.hearsAs_aState h, hans, hstate, beq_self_eq_true, Bool.and_self, if_true]

theorem execGoAck_other (h : s.hearsAs (.goAck i m) 4 m z a) (hans : s.answers i a = false) : execGoAck i m s = .next z := by
  simp only [execGoAck, ok, h.1, State.hearsAs_answers h, hans, Bool.false_and, Bool.false_eq_true, if_false]

theorem execDone_noted {x : Nat} (h : s.hearsAs (.done i m x) 7 m z a) (hans : s.answers i a = true)
    (htype : s.aType i ≠ ActType.SET_SWAP) :
    execDone i m x s = .next (z.notePart i a.unit fun p => { p with done := some (twoCode m x) }) := by
  simp only [execDone, ok, h.1, State.hearsAs_answers h, State.hearsAs_aType h, hans, beq_eq_false_iff_ne.2 htype, Bool.false_and,
    Bool.false_eq_true, if_false, if_true]

theorem execDone_other {x : Nat} (h : s.hearsAs (.done i m x) 7 m z a) (hans : s.answers i a = false) : execDone i m x s = .next z := by
  simp only [execDone, ok, h.1, State.hearsAs_answers h, hans, Bool.false_eq_true, if_false]

/-- NOT_READY in time cancels the action with its reason (R54). -/
theorem execNotReady_cancels {x : Nat} (h : s.hearsAs (.notReady i m x) 2 m z a) (hans : s.answers i a = true)
    (hstate : s.aState i = Act.ANNOUNCED ∨ s.aState i = Act.GO) (hguard : s.sfn + s.nat Ent.ACTION_CANCEL_GUARD i ≤ s.aSfn i)
    (hlock : (s.group i).locked = false) :
    ∃ t, execNotReady i m x s = .next t ∧ t.aState i = Act.CANCELLED ∧ t.nat Ent.ACTION_RESULT i = twoCode m x ∧
      (t.group i).cancelSent = true ∧ s.cellsKept t [Ent.ACTION_STATE.key i, Ent.ACTION_RESULT.key i] := by
  have hstate' : (s.aState i == Act.ANNOUNCED || s.aState i == Act.GO) = true := by simpa using hstate
  have hsfn : z.sfn = s.sfn := State.hearsAs_keeps State.sfn (fun _ _ _ _ => rfl) h
  have hlead : z.nat Ent.ACTION_CANCEL_GUARD i = s.nat Ent.ACTION_CANCEL_GUARD i :=
    State.hearsAs_keeps (fun y => y.nat Ent.ACTION_CANCEL_GUARD i) (fun _ _ _ _ => rfl) h
  have hcells : z.cells = s.cells := State.hearsAs_keeps State.cells (fun _ _ _ _ => rfl) h
  obtain ⟨hcancelled, hresult, hsent, hkept, -⟩ := z.notReady_cancelGroup i [a.unit] (twoCode m x)
  refine ⟨_, ?_, hcancelled, hresult, hsent, fun k hk => by rw [hkept k hk, hcells]⟩
  simp only [execNotReady, ok, h.1, State.hearsAs_answers h, State.hearsAs_aState h, State.hearsAs_aSfn h, State.hearsAs_group h, hsfn,
    hlead, hans, hstate', hguard, hlock, decide_true, Bool.not_false, Bool.and_self, if_true]

theorem execNotReady_other {x : Nat} (h : s.hearsAs (.notReady i m x) 2 m z a) (hans : s.answers i a = false) :
    execNotReady i m x s = .next z := by
  simp only [execNotReady, ok, h.1, State.hearsAs_answers h, hans, Bool.false_and, Bool.false_eq_true, if_false]

/-- CANCEL_ACK marks its participant in every record of its group and frame (R55). -/
theorem execCancelAck_noted {k : Nat} (h : s.hearsAs (.cancelAck i m) 6 m z a) (hk : k ∈ s.records i) (hgid : (s.group k).gid = a.group)
    (hsfn : low 32 (s.group k).sfn = a.sfnLow) :
    ∃ t, execCancelAck i m s = .next t ∧ (t.group k).parts = markPart a.unit (fun p => { p with cancelAck := true }) (s.group k).parts ∧
      { t with groups := s.groups } = { z with groups := s.groups } := by
  have hlisted : k ∈ (z.records i).filter (fun k => (z.group k).gid == a.group && low 32 (z.group k).sfn == a.sfnLow) := by
    refine List.mem_filter.2 ⟨by rw [State.hearsAs_records h]; exact hk, ?_⟩
    simp [State.hearsAs_group h, hgid, hsfn]
  refine ⟨_, congrArg Host.Outcome.next (h.1 _), ?_, State.each_notePart_frame ..⟩
  rw [State.each_notePart hlisted (f := fun p => { p with cancelAck := true }) (fun _ => rfl) (fun _ => rfl), State.hearsAs_group h]

end Commands

theorem twoCode_message {m : TwoPhase} (hm : m.frame = none) (x : Nat) : twoCode m x = low 16 x := by simp only [twoCode, hm]

theorem twoCode_frame {m : TwoPhase} {r : CanRx} (hm : m.frame = some r) (x : Nat) : twoCode m x = leAt r.data 8 2 := by
  simp only [twoCode, hm]

/-- A participant marked by a peer's or a node's message: the coordinator's record and what the link die keeps change. -/
theorem State.noteIn_notePart_frame (s : State) (row : Instr) (i unit : Nat) (f : Part → Part) :
    { (s.noteIn row).notePart i unit f with groups := s.groups, mirror := s.mirror } = s :=
  congrArg (fun z : State => { z with groups := s.groups }) (s.noteIn_frame row)

/-- Settles O8: each answer noted, heard as a message of the network and as a frame of the module bus. -/
theorem twoPhaseAnswersAreNoted : Obligations.TwoPhaseAnswersAreNoted := by
  intro s i m
  refine ⟨fun hm => ⟨fun hans => ⟨fun hstate => ?_, fun hstate => ?_, fun x htype => ?_, fun x hstate hguard hlock => ?_⟩,
    fun k hk hgid hsfn => ?_, fun hans => ⟨?_, ?_, fun x => ⟨?_, ?_⟩⟩⟩, fun r u hm hh => ?_⟩
  · have h := s.hearsAs_message (.ready i m) 1 hm
    exact ⟨_, execReady_noted h hans hstate, (State.hearsAs_notePart h i _).1, s.noteIn_notePart_frame ..⟩
  · have h := s.hearsAs_message (.goAck i m) 4 hm
    exact ⟨_, execGoAck_noted h hans hstate, (State.hearsAs_notePart h i _).1, s.noteIn_notePart_frame ..⟩
  · have h := s.hearsAs_message (.done i m x) 7 hm
    rw [← twoCode_message hm x]
    exact ⟨_, execDone_noted h hans htype, (State.hearsAs_notePart h i _).1, s.noteIn_notePart_frame ..⟩
  · rw [← twoCode_message hm x]
    exact execNotReady_cancels (s.hearsAs_message (.notReady i m x) 2 hm) hans hstate hguard hlock
  · obtain ⟨t, ht, hparts, hframe⟩ := execCancelAck_noted (s.hearsAs_message (.cancelAck i m) 6 hm) hk hgid hsfn
    refine ⟨t, ht, hparts, ?_⟩
    calc { t with groups := s.groups, mirror := s.mirror }
        = { s.noteIn (.cancelAck i m) with groups := s.groups, mirror := s.mirror } :=
          congrArg (fun z : State => { z with mirror := s.mirror }) hframe
      _ = s := congrArg (fun z : State => { z with groups := s.groups }) (s.noteIn_frame (.cancelAck i m))
  · exact execReady_other (s.hearsAs_message _ 1 hm) hans
  · exact execGoAck_other (s.hearsAs_message _ 4 hm) hans
  · exact execDone_other (s.hearsAs_message _ 7 hm) hans
  · exact execNotReady_other (s.hearsAs_message _ 2 hm) hans
  · refine ⟨fun hans hstate hfits => ?_, fun hans hstate hfits hguard hlock x => ?_, fun hans hstate hfits => ?_,
      fun hfits k hk hgid hsfn => ?_, fun hans htype hfits x => ?_⟩
    · have h := State.hearsAs_frame (.ready i m) hm hh hfits
      obtain ⟨hparts, hframe⟩ := State.hearsAs_notePart h i fun p => { p with ready := true }
      exact ⟨_, execReady_noted h hans hstate, hparts, hframe⟩
    · obtain ⟨t, ht, hcancelled, hresult, -, -⟩ :=
        execNotReady_cancels (State.hearsAs_frame (.notReady i m x) hm hh hfits) hans hstate hguard hlock
      exact ⟨t, ht, hcancelled, hresult.trans (twoCode_frame hm x)⟩
    · have h := State.hearsAs_frame (.goAck i m) hm hh hfits
      exact ⟨_, execGoAck_noted h hans hstate, (State.hearsAs_notePart h i _).1⟩
    · obtain ⟨t, ht, hparts, -⟩ := execCancelAck_noted (State.hearsAs_frame (.cancelAck i m) hm hh hfits) hk hgid hsfn
      exact ⟨t, ht, hparts⟩
    · have h := State.hearsAs_frame (.done i m x) hm hh hfits
      rw [← twoCode_frame hm x]
      exact ⟨_, execDone_noted h hans htype, (State.hearsAs_notePart h i _).1⟩

end Sys2Proof.Machine
end

section
/-!
PROOFS. A client's writes of CONTROL (O7): arming, cancelling and freeing a local action once its write is taken in (R44, R48, R510).
-/
namespace Sys2Proof.Machine
open Sys2Proof

/-- An accepted write whose effect on the state with its tag taken is known: it is answered with the effect's status. -/
theorem State.clientCommand_effect {s z u : State} {c : Client} {e : Entry} {n st : Nat} {v : Val} {h : Held} {act : State → State × Nat}
    (ha : s.accepts c e n v h) (hz : z = s.taken h) (hact : act z = (u, st)) : s.clientCommand c e n v act = u.answerLater h st [] := by
  rw [State.clientCommand_accepted act ha, ← hz, hact]

theorem State.cellsKept_answerLater {s u : State} {keys : List Nat} (h : s.cellsKept u keys) (r : Held) (st : Nat) :
    s.cellsKept (u.answerLater r st []) keys := State.cellsKept_congr h rfl

theorem State.aState_answerLater (s : State) (h : Held) (st i : Nat) : (s.answerLater h st []).aState i = s.aState i :=
  State.nat_answerLater ..

theorem State.aState_taken (s : State) (h : Held) (i : Nat) : (s.taken h).aState i = s.aState i :=
  s.nat_taken_action h (by decide) i
theorem State.aGroup_taken (s : State) (h : Held) (i : Nat) : (s.taken h).aGroup i = s.aGroup i :=
  s.nat_taken_action h (by decide) i
theorem State.aSfn_taken (s : State) (h : Held) (i : Nat) : (s.taken h).aSfn i = s.aSfn i :=
  s.nat_taken_action h (by decide) i

/-! ### The effects -/

theorem applyArm_local {s : State} {i : Nat} (hfree : s.aState i = Act.FREE) (hgroup : s.aGroup i = 0) (hst : s.armStatus i = St.OK) :
    applyArm i s = (s.setNat Ent.ACTION_STATE i Act.ARMED, St.OK) := by
  simp only [applyArm, hfree, hgroup, hst, beq_self_eq_true, bne_self_eq_false, Bool.false_eq_true, if_false, if_true]

theorem applyArm_armed {s : State} {i : Nat} (h : s.aState i = Act.ARMED) : applyArm i s = (s, St.ALREADY_DONE) := by
  rw [applyArm, h]
  rfl

theorem applyCancel_local {s : State} {i : Nat} (harmed : s.aState i = Act.ARMED) (hgroup : s.aGroup i = 0) :
    applyCancel i s = (s.cancelAction i St.CANCELLED, St.OK) := by
  rw [applyCancel, harmed, hgroup]
  rfl

theorem applyFree_ended {s : State} {i : Nat} (h : Act.GO < s.aState i) :
    applyFree i s = ((s.setNat Ent.ACTION_STATE i Act.FREE).dropGroup i, St.OK) := by
  have hnotFree : (s.aState i == Act.FREE) = false := beq_eq_false_iff_ne.2 (Nat.ne_of_gt (Nat.zero_lt_of_lt h))
  simp only [applyFree, hnotFree, Nat.not_le.2 h, Bool.false_eq_true, if_false]

theorem applyFree_armed {s : State} {i : Nat} (h : s.aState i = Act.ARMED) : applyFree i s = (s, St.CONFLICT) := by
  rw [applyFree, h]
  rfl

/-- Dropping an action's record changes the coordinator's records alone (R55). -/
theorem State.dropGroup_frame (s : State) (i : Nat) (g : Tab GroupAct) : { s.dropGroup i with groups := g } = { s with groups := g } := by
  unfold State.dropGroup
  dsimp only
  split
  · split <;> rfl
  · rfl

theorem State.dropGroup_keeps {β : Type} (f : State → β) (hf : ∀ (z : State) g, f { z with groups := g } = f z) (s : State) (i : Nat) :
    f (s.dropGroup i) = f s := by
  rw [← hf (s.dropGroup i) s.groups, State.dropGroup_frame, hf]

/-- The keys a CONTROL write of action `i` may write: those given and the two counters of tags. -/
theorem State.cellsKept_effect {s z u : State} {h : Held} {own : List Nat} (hz : z = s.taken h) (hu : z.cellsKept u own) :
    s.cellsKept u (own ++ [Ent.TAGS_IN_USE.key, Ent.TAGS_HIGH_WATER.key]) := by
  intro k hk
  obtain ⟨hown, htags⟩ := not_or.1 fun e => hk (List.mem_append.2 e)
  rw [hu k hown, hz]
  exact State.cellsKept_taken h (by simp) (by simp) k htags

/-- A tag taken leaves what an event's record is made of. -/
theorem State.raise_taken_ev (s : State) (h : Held) (k : EvKind) (i p q : Nat) :
    ((s.taken h).raise k i p q).ev = (s.raise k i p q).ev :=
  have hkeeps {β : Type} (g : State → β) (hg : ∀ (y : State) x c m, g { y with tx := x, cells := c, mirror := m } = g y) :
      g (s.taken h) = g s := by
    rw [← hg (s.taken h) s.tx s.cells s.mirror, s.taken_frame h]
  State.raise_ev_congr (hkeeps State.ev fun _ _ _ _ => rfl) (hkeeps State.sfn fun _ _ _ _ => rfl) (hkeeps State.cycle fun _ _ _ _ => rfl)
    (hkeeps State.time fun _ _ _ _ => rfl) k i p q

/-- The event of a cancelled action names its frame and its result (R48). -/
theorem State.cancelAction_raises (s : State) (i r : Nat) : s.raised (s.cancelAction i r) Evt.ACTION_CANCELLED i (low 32 (s.aSfn i)) r := by
  have hsfn : ((s.setNat Ent.ACTION_STATE i Act.CANCELLED).setNat Ent.ACTION_RESULT i r).aSfn i = s.aSfn i := by
    rw [State.aSfn, State.setNat_eq, State.nat_put_ne _ _ (Entry.key_ne_of_sub (by decide) i i), State.setNat_eq,
      State.nat_put_ne _ _ (Entry.key_ne_of_sub (by decide) i i), State.aSfn]
  unfold State.raised State.cancelAction State.actionEvent
  rw [hsfn]
  exact State.raise_ev_congr (s := s) (t := (s.setNat Ent.ACTION_STATE i Act.CANCELLED).setNat Ent.ACTION_RESULT i r) rfl rfl rfl rfl ..

/-- Settles O7: the effect of each write of CONTROL in the state with its tag taken, and its answer. -/
theorem scheduledActionsAreArmedCancelledFreed : Obligations.ScheduledActionsAreArmedCancelledFreed := by
  intro s c i h
  obtain ⟨z, hz⟩ : ∃ z, z = s.taken h := ⟨_, rfl⟩
  have hrest : { z with tx := s.tx, cells := s.cells, mirror := s.mirror } = s := by rw [hz, s.taken_frame h]
  have hstate : z.aState i = s.aState i := by rw [hz, State.aState_taken]
  have hgroup : z.aGroup i = s.aGroup i := by rw [hz, State.aGroup_taken]
  have hsfn : z.aSfn i = s.aSfn i := by rw [hz, State.aSfn_taken]
  refine ⟨fun ha hfree hnone hst => ?_, fun ha harmed => ?_, fun ha harmed hnone => ?_, fun ha hended => ?_, fun ha harmed => ?_⟩
  · rw [← hz] at hst
    refine ⟨_, congrArg Host.Outcome.next (State.clientCommand_effect ha hz (applyArm_local (hstate.trans hfree) (hgroup.trans hnone) hst)),
      ?_, State.answerLater_repliesWith .., ?_, ?_⟩
    · rw [State.aState_answerLater, State.aState_setState]
    · exact State.cellsKept_answerLater (State.cellsKept_effect hz (z.cellsKept_setState i _ (List.mem_singleton.2 rfl))) h St.OK
    · exact congrArg (fun y : State => { y with writes := s.writes, waiting := s.waiting }) hrest
  · refine ⟨_, congrArg Host.Outcome.next (State.clientCommand_effect ha hz (applyArm_armed (hstate.trans harmed))),
      State.answerLater_repliesWith .., ?_⟩
    rw [State.aState_answerLater, hstate, harmed]
  · obtain ⟨hend, hresult, hkept, hframe⟩ := z.cancelAction_ends i St.CANCELLED
    refine ⟨_, congrArg Host.Outcome.next (State.clientCommand_effect ha hz (applyCancel_local (hstate.trans harmed) (hgroup.trans hnone))),
      ?_, ?_, ?_, State.answerLater_repliesWith .., ?_, ?_⟩
    · rw [State.aState_answerLater, hend]
    · rw [State.nat_answerLater, hresult]
    · refine (z.cancelAction_raises i St.CANCELLED).trans ?_
      rw [hsfn, hz, State.raise_taken_ev]
    · exact State.cellsKept_answerLater (State.cellsKept_effect hz hkept) h St.OK
    · exact (congrArg (fun y : State =>
        { y with tx := s.tx, cells := s.cells, writes := s.writes, ev := s.ev, waiting := s.waiting, mirror := s.mirror }) hframe).trans
        (congrArg (fun y : State => { y with writes := s.writes, ev := s.ev, waiting := s.waiting }) hrest)
  · refine ⟨_, congrArg Host.Outcome.next (State.clientCommand_effect ha hz (applyFree_ended (hended.trans_eq hstate.symm))),
      ?_, State.answerLater_repliesWith .., ?_, ?_⟩
    · rw [State.aState_answerLater, State.dropGroup_keeps (fun y => y.aState i) (fun _ _ => rfl), State.aState_setState]
    · refine State.cellsKept_answerLater (State.cellsKept_effect hz (State.cellsKept_congr
        (z.cellsKept_setState i Act.FREE (List.mem_singleton.2 rfl)) ?_)) h St.OK
      exact State.dropGroup_keeps State.cells (fun _ _ => rfl) ..
    · exact (congrArg (fun y : State => { y with tx := s.tx, cells := s.cells, writes := s.writes, waiting := s.waiting, mirror := s.mirror })
        (State.dropGroup_frame (z.setNat Ent.ACTION_STATE i Act.FREE) i s.groups)).trans
        (congrArg (fun y : State => { y with writes := s.writes, groups := s.groups, waiting := s.waiting }) hrest)
  · refine ⟨_, congrArg Host.Outcome.next (State.clientCommand_effect ha hz (applyFree_armed (hstate.trans harmed))),
      State.answerLater_repliesWith .., ?_⟩
    rw [State.aState_answerLater, hstate, harmed]

end Sys2Proof.Machine
end

section
/-!
PROOFS. Site time (O4, O5): what a change of its state, its error estimate and a correction set, and what they leave (R28, R29, R36, R37).
-/
namespace Sys2Proof.Machine
open Sys2Proof

/-! ### Writes that fit or take a free value -/

/-- A value fitted into an own value of the device changes the own values, what is stored and the free values used. -/
theorem State.fitNat_frame {e : Entry} (he : e.inSets = false) (s : State) (n v j : Nat) (c : Tab Val) (w : List (Nat × Nat × Val)) (f : Nat) :
    { s.fitNat e n v j with cells := c, writes := w, free := f } = { s with cells := c, writes := w, free := f } := by
  unfold State.fitNat State.takeFree State.setNat State.put
  rw [he]
  split <;> rfl

theorem State.fitInt_frame {e : Entry} (he : e.inSets = false) (s : State) (n : Nat) (v : Int) (j : Nat) (c : Tab Val)
    (w : List (Nat × Nat × Val)) (f : Nat) :
    { s.fitInt e n v j with cells := c, writes := w, free := f } = { s with cells := c, writes := w, free := f } := by
  unfold State.fitInt State.takeFree State.setInt State.put
  rw [he]
  dsimp only
  split <;> split <;> rfl

/-! ### State and error estimate -/

/-- An event changes the log alone. -/
theorem State.raise_log (s : State) (k : EvKind) (i p q : Nat) : ∃ e, s.raise k i p q = { s with ev := e } :=
  ⟨(s.raise k i p q).ev, s.raise_frame k i p q (s.raise k i p q).ev⟩

/-- Site time in the state `t`: the error estimate it is entered with, and whether it has been set (R28, R29). -/
def TimeSt.entered (x : TimeSt) (t : TimeState) : TimeSt :=
  { x with state := t, errorPs := entryErrorPs t x.errorPs, known := x.known || t == .set || t == .locked }

/-- Site time enters a state: beside it the event log alone changes. -/
theorem State.setTimeState_enters (s : State) (t : TimeState) : ∃ e, s.setTimeState t = { s with time := s.time.entered t, ev := e } := by
  unfold State.setTimeState
  extract_lets s1
  split
  · exact ⟨s.ev, rfl⟩
  · exact State.raise_log ..

/-- Judging the error estimate changes whether it is high and the event log (R29). -/
theorem State.evalTimeError_judges (s : State) :
    ∃ b e, s.evalTimeError = { s with time := { s.time with errorHigh := b, errorDue := false }, ev := e } := by
  unfold State.evalTimeError
  extract_lets limit high s1
  refine ⟨high, ?_⟩
  split
  · exact State.raise_log ..
  · exact ⟨s.ev, rfl⟩

/-! ### Corrections -/

/-- A correction of `d` ns is slewed (R36): it, and it with those of the last 24 h, stay within 30 s. -/
abbrev State.slews (s : State) (d : Int) : Prop := d.natAbs ≤ 30000000000 ∧ d.natAbs + corrSum s.liveCorrections ≤ 30000000000

/-- Site time with a correction of `d` ns to make (R36, R37). -/
def State.timeCorrected (s : State) (d : Int) : TimeSt :=
  { s.time with
    corrections := (s.ticks, d.natAbs) :: s.liveCorrections
    slewNs := if s.slews d then d else 0
    stepNs := if s.slews d then s.time.stepNs else some (d, s.ticks) }

/-- A correction changes site time and shows the sum of the day's corrections. -/
theorem State.correct_starts (s : State) (d : Int) :
    ∃ c w f, s.correct d = { s with time := s.timeCorrected d, cells := c, writes := w, free := f } := by
  have hcorrect : s.correct d =
      { s with time := s.timeCorrected d }.fitNat Ent.CORRECTION_24H 0 (corrSum ((s.ticks, d.natAbs) :: s.liveCorrections) / 1000000) := by
    unfold State.correct State.timeCorrected
    simp only [Bool.and_eq_true, decide_eq_true_eq]
  rw [hcorrect]
  exact ⟨_, _, _, State.fitNat_frame rfl _ _ _ _ _ _ _⟩

theorem State.cellsKept_correct (s : State) (d : Int) : s.cellsKept (s.correct d) [Ent.CORRECTION_24H.key] :=
  State.cellsKept_fitNat (State.cellsKept_of_cells rfl _) _ (List.mem_singleton.2 rfl)

/-! ### TIME_SET -/

theorem State.timeSetAllowed_iff (s : State) :
    s.timeSetAllowed = true ↔ s.nat Ent.TIME_SOURCE_MODE = 0 ∨ (s.nat Ent.TIME_SOURCE_MODE = 1 ∧ s.time.master = none) := by
  simp only [State.timeSetAllowed, State.isGrandmaster, Bool.or_eq_true, Bool.and_eq_true, beq_iff_eq, Option.isNone_iff_eq_none]
  by_cases hmode : s.nat Ent.TIME_SOURCE_MODE = 0 <;> simp [hmode]

theorem applyTimeSet_allowed {s : State} (h : s.timeSetAllowed = true) (sfn ns : Nat) :
    applyTimeSet sfn ns s = (((s.correct (((sfn : Int) - s.sfn) * 1000000 + ns)).setTimeState .set).evalTimeError, St.OK) := by
  simp only [applyTimeSet, h, Bool.not_true, Bool.false_eq_true, if_false]

theorem applyTimeSet_refused {s : State} (h : s.timeSetAllowed = false) (sfn ns : Nat) : applyTimeSet sfn ns s = (s, St.CONFLICT) := by
  rw [applyTimeSet, h]
  rfl

/-- What a TIME_SET that is allowed does to site time, and what it leaves (R35 to R37). -/
theorem State.timeSet_effect (s : State) (d : Int) :
    ∃ x c w e f, ((s.correct d).setTimeState .set).evalTimeError = { s with time := x, cells := c, writes := w, ev := e, free := f } ∧
      x.state = .set ∧ x.slewNs = (if s.slews d then d else 0) ∧ x.stepNs = (if s.slews d then s.time.stepNs else some (d, s.ticks)) := by
  obtain ⟨c, w, f, hcorrect⟩ := s.correct_starts d
  obtain ⟨e, henter⟩ := (s.correct d).setTimeState_enters .set
  obtain ⟨b, e', hjudge⟩ := ((s.correct d).setTimeState .set).evalTimeError_judges
  generalize (s.correct d).setTimeState .set = u at henter hjudge ⊢
  generalize s.correct d = y at hcorrect henter
  subst hcorrect henter
  exact ⟨_, c, w, e', f, hjudge, rfl, rfl, rfl⟩

/-- Settles O5: the correction against site time as the tag is taken, and the answer. -/
theorem timeSetStartsACorrection : Obligations.TimeSetStartsACorrection := by
  intro s c sfn ns h ha
  obtain ⟨z, hz⟩ : ∃ z, z = s.taken h := ⟨_, rfl⟩
  have hrest : { z with tx := s.tx, cells := s.cells, mirror := s.mirror } = s := by rw [hz, s.taken_frame h]
  have htime : z.time = s.time := (congrArg State.time hrest :)
  have hsfn : z.sfn = s.sfn := (congrArg State.sfn hrest :)
  have hticks : z.ticks = s.ticks := (congrArg State.ticks hrest :)
  have hlive : z.liveCorrections = s.liveCorrections := by rw [State.liveCorrections, htime, hticks, State.liveCorrections]
  have hmode : z.nat Ent.TIME_SOURCE_MODE = s.nat Ent.TIME_SOURCE_MODE := by
    rw [hz]
    exact State.nat_congr (s.val_taken h _ 0 0 (Entry.key_ne_of_sub (by decide) 0 0) (Entry.key_ne_of_sub (by decide) 0 0))
  have hiff := z.timeSetAllowed_iff
  rw [hmode, htime] at hiff
  rw [← hiff]
  refine ⟨fun hallowed => ?_, fun hrefused => ?_⟩
  · extract_lets d
    have hact : applyTimeSet sfn ns z = (((z.correct d).setTimeState .set).evalTimeError, St.OK) := by
      rw [applyTimeSet_allowed hallowed, hsfn]
    clear_value d
    obtain ⟨x, cells, w, e, f, heffect, hstate, hslew, hstep⟩ := z.timeSet_effect d
    rw [heffect] at hact
    refine ⟨_, congrArg Host.Outcome.next (State.clientCommand_effect ha hz hact), hstate, State.answerLater_repliesWith .., ?_, ?_⟩
    · rw [← hlive, ← hticks, ← htime]
      split
      · next hd => exact ⟨hslew.trans (if_pos hd), hstep.trans (if_pos hd)⟩
      · next hd => exact ⟨hslew.trans (if_neg hd), hstep.trans (if_neg hd)⟩
    · exact congrArg (fun y : State => { y with writes := s.writes, time := s.time, ev := s.ev, waiting := s.waiting, free := s.free }) hrest
  · refine ⟨_, congrArg Host.Outcome.next (State.clientCommand_effect ha hz (applyTimeSet_refused (Bool.eq_false_iff.2 hrefused) sfn ns)),
      State.answerLater_repliesWith .., htime, ?_⟩
    exact congrArg (fun y : State => { y with waiting := s.waiting }) hrest

end Sys2Proof.Machine
end

section
/-!
PROOFS. What moves site time (O4): the Announce that selects a clock, the offsets that lock onto it, the neighbour's path delay and the
silence that gives the clock up (R27 to R33, R36).
-/
namespace Sys2Proof.Machine
open Sys2Proof

/-! ### Announce -/

/-- The leap indicators of an Announce, as LEAP_PENDING shows them (R33). -/
def leapShown (a : Announce) : Int := if a.leap61 then 1 else if a.leap59 then -1 else 0

/-- Site time that follows the clock of an Announce just heard on a port (R27, R32). -/
def State.following (s : State) (port : Fin 2) (a : Announce) : TimeSt :=
  { s.time with
    master := some a
    upstream := s.bestPort port + 1
    syncRun := 0
    heard0 := if port.val == 0 then some s.ticks else none
    heard1 := if port.val == 1 then some s.ticks else none }

/-- With no clock followed, an Announce that the mode accepts is followed (R27): the acquisition begins, and the offset and leap
indicators are taken over. -/
theorem execPtpAnnounce_follows {s : State} {a : Announce} (port : Fin 2) (hdomain : a.domain = s.nat Ent.PTP_DOMAIN)
    (hfree : s.time.master = none)
    (hmode : s.nat Ent.TIME_SOURCE_MODE = 2 ∨ (s.nat Ent.TIME_SOURCE_MODE = 1 ∧ betterClock (announceKey a) s.ownKey = true)) :
    execPtpAnnounce port a s =
      .next (((({ s with time := s.following port a } : State).setTimeState .acquiring).fitInt Ent.TAI_UTC_OFFSET 0 a.utcOffset).setInt
        Ent.LEAP_PENDING 0 (leapShown a)) := by
  have hmode0 : (s.nat Ent.TIME_SOURCE_MODE == 0) = false := by
    rcases hmode with h | ⟨h, -⟩ <;> simp [h]
  have hbetter : (s.nat Ent.TIME_SOURCE_MODE == 2 || betterClock (announceKey a) s.ownKey) = true := by
    rcases hmode with h | ⟨-, h⟩ <;> simp [h]
  simp only [execPtpAnnounce, hmode0, hdomain, hfree, hbetter, bne_self_eq_false, Bool.or_self, Bool.false_and, Bool.false_or,
    Bool.not_true, Bool.false_eq_true, if_false, ok, State.following, leapShown]

/-- What following a clock leaves beside site time and its two entries. -/
theorem State.follow_frame (s : State) (x : TimeSt) (offset leap : Int) :
    let t := (((({ s with time := x } : State).setTimeState .acquiring).fitInt Ent.TAI_UTC_OFFSET 0 offset).setInt Ent.LEAP_PENDING 0 leap)
    t.time = x.entered .acquiring ∧ t.int Ent.LEAP_PENDING = leap ∧ s.cellsKept t [Ent.LEAP_PENDING.key, Ent.TAI_UTC_OFFSET.key] ∧
      { t with time := s.time, cells := s.cells, writes := s.writes, ev := s.ev, free := s.free } = s := by
  intro t
  obtain ⟨e, henter⟩ := State.setTimeState_enters { s with time := x } .acquiring
  refine ⟨?_, State.int_setInt_same .., ?_, ?_⟩
  · simp only [t, State.setInt_eq, State.put_time, State.fitInt_time, henter]
  · simp only [t, State.setInt_eq, henter]
    exact State.cellsKept_put (State.cellsKept_fitInt (State.cellsKept_of_cells rfl _) _ (by simp)) _ (by simp)
  · simp only [t, henter]
    exact congrArg (fun z : State => { z with time := s.time, ev := s.ev })
      (State.fitInt_frame (e := Ent.TAI_UTC_OFFSET) rfl _ 0 offset 0 s.cells s.writes s.free)

/-! ### Sync -/

/-- A Sync of the followed clock, while site time acquires it on the port it is followed on, is judged by its offset. -/
theorem execPtpSync_acquiring {s : State} {port : Fin 2} (hmode : s.nat Ent.TIME_SOURCE_MODE ≠ 0) (hmaster : s.time.master.isSome)
    (hport : s.time.upstream = port.val + 1) (hstate : s.time.state = .acquiring) (offset : Int) :
    execPtpSync port offset s =
      (if offset.natAbs < 1000 then
        (if 16 ≤ s.time.syncRun + 1 then
          ok ((({ s with time := { s.time with syncRun := s.time.syncRun + 1 } } : State).setTimeState .locked).evalTimeError)
        else ok { s with time := { s.time with syncRun := s.time.syncRun + 1 } })
      else if (s.time.slewNs == 0 && s.time.stepNs.isNone) = true then
        ok (({ s with time := { s.time with syncRun := 0 } } : State).correct (-offset))
      else ok { s with time := { s.time with syncRun := 0 } }) := by
  obtain ⟨m, hm⟩ := Option.isSome_iff_exists.1 hmaster
  have hmode0 : (s.nat Ent.TIME_SOURCE_MODE == 0) = false := beq_eq_false_iff_ne.2 hmode
  simp only [execPtpSync, hmode0, hm, hport, hstate, Option.isNone_some, bne_self_eq_false, Bool.or_self, Bool.false_eq_true, if_false, ge_iff_le]

/-- The sixteenth offset of a run locks site time with an error of 1 µs (R28, R29). -/
theorem State.lock_effect (s : State) (x : TimeSt) :
    let t := (({ s with time := x } : State).setTimeState .locked).evalTimeError
    t.time.state = .locked ∧ t.time.errorPs = 1000000 ∧ { t with time := s.time, ev := s.ev } = s := by
  intro t
  obtain ⟨e, henter⟩ := State.setTimeState_enters { s with time := x } .locked
  obtain ⟨b, e', hjudge⟩ := (({ s with time := x } : State).setTimeState .locked).evalTimeError_judges
  simp only [t, hjudge, henter]
  exact ⟨rfl, rfl, trivial⟩

/-- A larger offset with no correction under way is corrected, and the count begins anew (R28, R36). -/
theorem State.offset_effect (s : State) (d : Int) :
    let t := ({ s with time := { s.time with syncRun := 0 } } : State).correct d
    t.time.syncRun = 0 ∧ t.time.state = s.time.state ∧
      (if s.slews d then t.time.slewNs = d ∧ t.time.stepNs = s.time.stepNs else t.time.slewNs = 0 ∧ t.time.stepNs = some (d, s.ticks)) ∧
      s.cellsKept t [Ent.CORRECTION_24H.key] ∧ { t with time := s.time, cells := s.cells, writes := s.writes, free := s.free } = s := by
  intro t
  have hkept : s.cellsKept t [Ent.CORRECTION_24H.key] := State.cellsKept_correct { s with time := { s.time with syncRun := 0 } } d
  obtain ⟨c, w, f, hcorrect⟩ := State.correct_starts { s with time := { s.time with syncRun := 0 } } d
  simp only [t] at hkept ⊢
  rw [hcorrect] at hkept ⊢
  refine ⟨rfl, rfl, ?_, hkept, rfl⟩
  split
  · next hd => exact ⟨if_pos hd, if_pos hd⟩
  · next hd => exact ⟨if_neg hd, if_neg hd⟩

/-! ### Silence -/

/-- Site time that follows no clock. -/
def TimeSt.lost (x : TimeSt) : TimeSt := { x with master := none, upstream := 0, syncRun := 0, heard0 := none, heard1 := none }

/-- An event's record takes nothing of the state of site time. -/
theorem State.raise_time_ev (s : State) {x : TimeSt} (hstep : x.stepDay = s.time.stepDay) (hhigh : x.errorHigh = s.time.errorHigh)
    (k : EvKind) (i p q : Nat) : (({ s with time := x } : State).raise k i p q).ev = (s.raise k i p q).ev :=
  State.raise_ev_of_stamp (s := s) (t := { s with time := x }) rfl rfl rfl hstep hhigh ..

/-- Entering another state raises TIME_STATE_CHANGE with the codes of both. -/
theorem State.setTimeState_ev {s : State} {t : TimeState} (h : s.time.state ≠ t) :
    (s.setTimeState t).ev = (s.raise Evt.TIME_STATE_CHANGE 0 s.time.state.code t.code).ev := by
  unfold State.setTimeState
  dsimp only
  rw [if_neg h]
  exact s.raise_time_ev (x := s.time.entered t) rfl rfl ..

/-- A clock given up while site time is LOCKED leaves it in HOLDOVER, with the event (R28). -/
theorem State.loseMaster_locked {s : State} (h : s.time.state = .locked) :
    s.loseMaster.time.state = .holdover ∧ s.loseMaster.time.master = none ∧ s.loseMaster.time.upstream = 0 ∧
      s.raised s.loseMaster Evt.TIME_STATE_CHANGE 0 3 4 ∧ { s.loseMaster with time := s.time, ev := s.ev } = s := by
  have hlost : s.loseMaster = ({ s with time := s.time.lost } : State).setTimeState .holdover := by
    rw [State.loseMaster, h]
    rfl
  have hraised : s.raised s.loseMaster Evt.TIME_STATE_CHANGE 0 3 4 := by
    rw [hlost, State.raised, State.setTimeState_ev (by simp [TimeSt.lost, h])]
    rw [show ({ s with time := s.time.lost } : State).time.state = .locked from h]
    exact s.raise_time_ev (x := s.time.lost) rfl rfl _ _ 3 4
  obtain ⟨e, henter⟩ := State.setTimeState_enters { s with time := s.time.lost } .holdover
  rw [hlost] at hraised ⊢
  refine ⟨?_, ?_, ?_, hraised, ?_⟩ <;> rw [henter] <;> rfl

/-- A clock given up in another state leaves that state. -/
theorem State.loseMaster_other {s : State} (h : s.time.state ≠ .locked) :
    s.loseMaster = { s with time := s.time.lost } := by
  rw [State.loseMaster, beq_eq_false_iff_ne.2 h]
  rfl

/-- The port that still hears the followed clock 3 s on (R32). -/
theorem execAnnounceTimeout_heard {s : State} {port : Fin 2} (hmaster : s.time.master.isSome) (hport : s.time.upstream = port.val + 1) {h : Nat}
    (hother : (if port.val = 0 then s.time.heard1 else s.time.heard0) = some h) (hlate : s.ticks ≤ h + 60000) :
    execAnnounceTimeout port s = .next { s with time := { s.time with upstream := 2 - port.val } } := by
  obtain ⟨m, hm⟩ := Option.isSome_iff_exists.1 hmaster
  have hsec : secTicks 3 = 60000 := by decide
  simp only [execAnnounceTimeout, hm, hport, beq_iff_eq, hother, hsec, hlate, Option.isNone_some, bne_self_eq_false, Bool.or_self,
    Bool.false_eq_true, if_false, decide_true, if_true, ok]

/-- Where the other port has not heard it for 3 s, the clock is given up. -/
theorem execAnnounceTimeout_silent {s : State} {port : Fin 2} (hmaster : s.time.master.isSome) (hport : s.time.upstream = port.val + 1)
    (hother : ∀ h, (if port.val = 0 then s.time.heard1 else s.time.heard0) = some h → h + 60000 < s.ticks) :
    execAnnounceTimeout port s = .next s.loseMaster := by
  obtain ⟨m, hm⟩ := Option.isSome_iff_exists.1 hmaster
  have hsec : secTicks 3 = 60000 := by decide
  simp only [execAnnounceTimeout, hm, hport, beq_iff_eq, hsec, Option.isNone_some, bne_self_eq_false, Bool.or_self, Bool.false_eq_true, if_false]
  cases hheard : (if port.val = 0 then s.time.heard1 else s.time.heard0) with
  | none => rfl
  | some h => simp only [Nat.not_le.2 (hother h hheard), decide_false, Bool.false_eq_true, if_false, ok]

/-- Settles O4, message by message. -/
theorem siteTimeEntersItsStates : Obligations.SiteTimeEntersItsStates := by
  intro s
  refine ⟨fun port a hdomain hfree hmode => ?_, fun port a hnot => ?_, fun port offset hmode hmaster hport hstate => ⟨fun hsmall hrun => ?_,
    fun hsmall hrun => ?_, fun hlarge hunder => ?_, fun hlarge hslew hstep => ?_⟩, fun port hup => ?_, fun delay => ⟨?_, ?_⟩,
    fun port hmaster hport => ⟨fun hother hlocked => ?_, fun hother hnot => ?_, fun h hother hlate => ?_⟩⟩
  · have hexec := execPtpAnnounce_follows port hdomain hfree hmode
    obtain ⟨htime, hleap, hkept, hframe⟩ := s.follow_frame (s.following port a) a.utcOffset (leapShown a)
    exact ⟨_, hexec, by rw [htime]; rfl, by rw [htime]; rfl, by rw [htime]; rfl, hleap, hkept, hframe⟩
  · have hcond : (s.nat Ent.TIME_SOURCE_MODE == 0 || a.domain != s.nat Ent.PTP_DOMAIN) = true := by simpa using hnot
    exact if_pos hcond
  · have hexec := execPtpSync_acquiring hmode hmaster hport hstate offset
    rw [if_pos hsmall, if_pos (by omega)] at hexec
    exact ⟨_, hexec, s.lock_effect _⟩
  · have hexec := execPtpSync_acquiring hmode hmaster hport hstate offset
    rw [if_pos hsmall, if_neg (by omega)] at hexec
    exact hexec
  · have hexec := execPtpSync_acquiring hmode hmaster hport hstate offset
    rw [if_neg (by omega), if_neg ?_] at hexec
    · exact hexec
    · simpa [Option.isSome_iff_ne_none, Classical.or_iff_not_imp_left] using hunder
  · have hexec := execPtpSync_acquiring hmode hmaster hport hstate offset
    rw [if_neg (by omega), if_pos (by simp [hslew, hstep])] at hexec
    obtain ⟨hrun, hkeeps, hcorrection, hkept, hframe⟩ := s.offset_effect (-offset)
    refine ⟨_, hexec, hrun, hkeeps.trans hstate, ?_, hkept, hframe⟩
    rw [hstep] at hcorrection
    simp only [State.slews, Int.natAbs_neg] at hcorrection
    exact hcorrection
  · exact congrArg ok (if_pos hup)
  · exact ⟨_, rfl, rfl, rfl⟩
  · exact ⟨_, rfl, rfl, rfl⟩
  · obtain ⟨hstate, hm, hup, hraised, hframe⟩ := State.loseMaster_locked hlocked
    exact ⟨_, execAnnounceTimeout_silent hmaster hport hother, hstate, hm, hup, hraised, hframe⟩
  · refine ⟨_, execAnnounceTimeout_silent hmaster hport hother, ?_⟩
    rw [State.loseMaster_other hnot]
    exact ⟨rfl, rfl, rfl, rfl⟩
  · exact execAnnounceTimeout_heard hmaster hport hother hlate

end Sys2Proof.Machine
end

section
/-!
PROOFS. What comes of a step, a day, a leap second and a second of site time (O6): TIME_STEP, STEP_LAST_DAY_END, LEAP_SECOND,
BACKUP_COUNTER_WRITE and PTP_SYNC_TRANSMIT (R32 to R34, R37).
-/
namespace Sys2Proof.Machine
open Sys2Proof

/-! ### The time step -/

/-- What a step sets: the frame's number, site time, the sweep under way and the mark of the billing records. -/
def State.stepSide (s : State) : Nat × TimeSt × RadioSt × BillSt := (s.sfn, s.time, s.radio, s.bill)

@[simp] theorem State.raise_stepSide (s : State) (k : EvKind) (i p q : Nat) : (s.raise k i p q).stepSide = s.stepSide := by
  simp only [State.stepSide, State.raise_eq, State.raiseWith_sfn, State.raiseWith_time, State.raiseWith_radio, State.raiseWith_bill]

@[simp] theorem State.setNat_stepSide (s : State) (e : Entry) (n v j : Nat) : (s.setNat e n v j).stepSide = s.stepSide := by
  simp only [State.stepSide, State.setNat_eq, State.put_sfn, State.put_time, State.put_radio, State.put_bill]

@[simp] theorem State.bump_stepSide (s : State) (e : Entry) (n j b : Nat) : (s.bump e n j b).stepSide = s.stepSide := by
  simp only [State.stepSide, State.bump_sfn, State.bump_time, State.bump_radio, State.bump_bill]

@[simp] theorem State.setStrm_stepSide (s : State) (t : Nat) (q : StreamQ) : (s.setStrm t q).stepSide = s.stepSide := rfl

@[simp] theorem State.reportDrops_stepSide (s : State) (t : Nat) : (s.reportDrops t).stepSide = s.stepSide := by
  unfold State.reportDrops
  extract_lets q due
  split
  · rw [State.raise_stepSide, State.setStrm_stepSide]
  · rfl

@[simp] theorem State.streamRecord_stepSide (s : State) (t : Nat) (r : List Byte) : (s.streamRecord t r).stepSide = s.stepSide := by
  simp [State.streamRecord, apply_ite State.stepSide]

theorem State.legalLog_stepSide (s : State) (kind origin object p q : Nat) :
    (s.legalLog kind origin object p q).stepSide = s.stepSide := by
  unfold State.legalLog
  split
  · exact State.bump_stepSide ..
  · dsimp only
    rw [State.when_keeps _ _ _ State.stepSide fun z => z.raise_stepSide .., State.when_keeps _ _ _ State.stepSide fun z => z.raise_stepSide ..,
      State.streamLog, if_neg (by decide), State.streamRecord_stepSide, State.showLegal, State.setNat_stepSide, State.setNat_stepSide]
    rfl

theorem State.restateAll_stepSide (s : State) : s.restateAll.stepSide = s.stepSide := by
  refine State.each_keeps s _ _ State.stepSide fun z u => ?_
  dsimp only
  split <;> rfl

/-- The state as a step has just been made (R37, R40): the frame renumbered by `k`, the rest of the correction `r` to be slewed. -/
def State.renumbered (s : State) (k r : Int) : State :=
  { s with
    sfn := ((s.sfn : Int) + k).toNat % 2 ^ 64
    time := { s.time with stepNs := none, stepDay := some s.ticks, slewNs := r, flagMark := 15, flagEusor := true, flagPrebex := true }
    radio := { s.radio with cur := none, due := none } }

/-- What a step tells the sessions, the units and the logs, and the mark it leaves on the billing records. -/
def State.stepTold (s y : State) (p q : Nat) : State :=
  let z := ((y.eachSession (fun k => { k with stepped := true })).restateAll.raise Evt.TIME_SHIFT 0 p q).legalLog 11 4 0xFFFF p q
  { z with bill := { z.bill with stepped := true } }.each s.enabledPoints (fun z pt => z.markPoint pt 5)

theorem State.stepTold_keeps (s y : State) (p q : Nat) :
    (s.stepTold y p q).sfn = y.sfn ∧ (s.stepTold y p q).time = y.time ∧ (s.stepTold y p q).radio = y.radio ∧
      (s.stepTold y p q).bill.stepped = true := by
  unfold State.stepTold
  extract_lets z
  have hz : z.stepSide = y.stepSide := by
    rw [State.legalLog_stepSide, State.raise_stepSide, State.restateAll_stepSide]
    rfl
  simp only [State.stepSide, Prod.mk.injEq] at hz
  obtain ⟨hsfn, htime, hradio, -⟩ := hz
  have hmarks := State.each_keeps { z with bill := { z.bill with stepped := true } } s.enabledPoints (fun z pt => z.markPoint pt 5)
    State.stepSide fun _ _ => rfl
  simp only [State.stepSide, Prod.mk.injEq] at hmarks
  obtain ⟨hsfn', htime', hradio', hbill⟩ := hmarks
  exact ⟨hsfn'.trans hsfn, htime'.trans htime, hradio'.trans hradio, by rw [hbill]⟩

/-- A step that is due is made in its frame's cycle 0. -/
theorem execTimeStep_due {s : State} {d : Int} {b : Nat} (hstep : s.time.stepNs = some (d, b)) (hcycle : s.cycle = 0) (hdue : b + 20 ≤ s.ticks) :
    ∃ p q, execTimeStep s = .next (s.stepTold
      (s.renumbered (ratRound ((d : Rat) / 1000000)) (d - ratRound ((d : Rat) / 1000000) * 1000000)) p q) := by
  have hnow : ¬((s.cycle != 0 || decide (s.ticks < b + 20)) = true) := by simp [hcycle, hdue]
  unfold execTimeStep
  rw [hstep]
  refine ⟨word 32 (max (-2147483647) (min 2147483647 (ratRound ((d : Rat) / 1000000)))), low 32 (s.sfn + (2 ^ 64 - 1)), (if_neg hnow).trans ?_⟩
  extract_lets k ms x x' s1 s2
  have hs1 : s1 = s.renumbered k (d - k * 1000000) := rfl
  clear_value s1
  subst hs1
  rfl

/-! ### Leap seconds -/

/-- A value within an entry's format is written as it is. -/
theorem State.fitInt_of_fits {e : Entry} (he : e.type = .i16) {v : Int} (hv : -32768 ≤ v ∧ v ≤ 32767) (s : State) (n j : Nat) :
    s.fitInt e n v j = s.setInt e n v j := by
  have hfits : -(2 ^ (16 - 1) : Int) ≤ v ∧ v < (2 ^ (16 - 1) : Int) := ⟨hv.1, Int.lt_add_one_of_le hv.2⟩
  unfold State.fitInt
  rw [he]
  exact if_pos (decide_eq_true hfits)

theorem State.int_setInt_ne (s : State) {e f : Entry} {n m : Nat} {v : Int} (h : f.key m ≠ e.key n) :
    (s.setInt e n v).int f m = s.int f m := by
  rw [State.int_def, State.int_def, State.setInt_eq, State.val_put_ne _ _ _ _ _ _ _ _ h]

theorem State.int_raise (s : State) (k : EvKind) (i p q : Nat) (e : Entry) (n j : Nat) : (s.raise k i p q).int e n j = s.int e n j := by
  rw [State.int_def, State.int_def, State.raise_eq, State.val_raiseWith]

/-- A leap second changes the offset and takes the announcement away (R33). -/
theorem execLeapSecond_counts {s : State} (hleap : s.int Ent.LEAP_PENDING ≠ 0) :
    ∃ p q, execLeapSecond s = .next (((s.fitInt Ent.TAI_UTC_OFFSET 0 (s.int Ent.TAI_UTC_OFFSET + s.int Ent.LEAP_PENDING)).setInt
      Ent.LEAP_PENDING 0 0).raise Evt.LEAP_SECOND 0 p q) := by
  unfold execLeapSecond
  dsimp only
  rw [beq_eq_false_iff_ne.2 hleap]
  exact ⟨_, _, rfl⟩

/-! ### The grandmaster's messages -/

/-- The Sync of a grandmaster on a port (R32). -/
def State.syncMsg (s : State) (p : Nat) : Msg := ⟨.ptp, p, .sync, [s.nat Ent.PTP_DOMAIN, s.sfn, s.cycle * 50000], []⟩

/-- Its Announce. -/
def State.announceMsg (s : State) (p : Nat) : Msg :=
  ⟨.ptp, p, .announcePtp, [s.nat Ent.PTP_DOMAIN, s.nat Ent.PTP_PRIORITY1, s.clockClass, Config.clockAccuracy,
      Config.clockVariance, s.nat Ent.PTP_PRIORITY2, Config.clockIdentity, 0, 0xA0,
      s.int Ent.TAI_UTC_OFFSET, b2n (decide (s.int Ent.LEAP_PENDING > 0)), b2n (decide (s.int Ent.LEAP_PENDING < 0))], []⟩

/-- The ports whose link die half works. -/
def State.upPorts (s : State) : List Nat := [0, 1].filter s.portUp

/-- Two messages sent for each element of a list. -/
theorem State.each_sends {α : Type} (f g : α → Msg) (s : State) (l : List α) :
    s.each l (fun z p => (z.send (f p)).send (g p)) = { s with out := s.out ++ l.flatMap (fun p => [f p, g p]) } := by
  induction l generalizing s with
  | nil => simp [State.each]
  | cons p l ih =>
    refine (ih ((s.send (f p)).send (g p))).trans ?_
    simp [State.send]

theorem execPtpSyncTransmit_sends {s : State} (h : s.isGrandmaster = true) :
    execPtpSyncTransmit s = .next { s with out := s.out ++ s.upPorts.flatMap (fun p => [s.syncMsg p, s.announceMsg p]) } := by
  rw [← State.each_sends, execPtpSyncTransmit, h]
  rfl

theorem State.mem_upPorts (s : State) (p : Nat) : p ∈ s.upPorts ↔ (p = 0 ∨ p = 1) ∧ s.portUp p = true := by
  simp [State.upPorts]

theorem State.length_upPorts (s : State) : s.upPorts.length = b2n s.die.lkA + b2n s.die.lkB := by
  have hA : s.portUp 0 = s.die.lkA := rfl
  have hB : s.portUp 1 = s.die.lkB := rfl
  cases h : s.die.lkA <;> cases h' : s.die.lkB <;> simp [State.upPorts, hA, hB, h, h', b2n]

/-- Settles O6, instruction by instruction. -/
theorem timeStepRenumbersTheFrames : Obligations.TimeStepRenumbersTheFrames := by
  intro s
  refine ⟨fun d b hstep hcycle hdue => ?_, fun b hday hover => ?_, fun hleap hlow hhigh => ?_, fun hstate => ?_,
    fun hmaster => ?_, fun hnot => ?_⟩
  · obtain ⟨p, q, hexec⟩ := execTimeStep_due hstep hcycle hdue
    have hkeeps := s.stepTold_keeps (s.renumbered (ratRound ((d : Rat) / 1000000)) (d - ratRound ((d : Rat) / 1000000) * 1000000)) p q
    generalize hk : ratRound ((d : Rat) / 1000000) = k at hexec hkeeps ⊢
    generalize hr : d - k * 1000000 = r at hexec hkeeps ⊢
    obtain ⟨hsfn, htime, hradio, hbill⟩ := hkeeps
    refine ⟨_, hexec, hsfn, ?_⟩
    rw [htime, hradio, hbill]
    exact ⟨rfl, rfl, rfl, rfl, rfl, rfl, rfl, rfl⟩
  · unfold exec execStepLastDayEnd
    rw [hday]
    exact if_pos hover
  · obtain ⟨p, q, hexec⟩ := execLeapSecond_counts hleap
    rw [State.fitInt_of_fits rfl ⟨hlow, hhigh⟩] at hexec
    refine ⟨_, hexec, ?_, ?_, ?_, ?_, ?_, ?_⟩
    · rw [State.int_raise, State.int_setInt_ne _ (Entry.key_ne_of_sub (by decide) 0 0), State.int_setInt_same]
    · rw [State.int_raise, State.int_setInt_same]
    · simp only [State.raise_eq, State.raiseWith_sfn, State.setInt_eq, State.put_sfn]
    · simp only [State.raise_eq, State.raiseWith_time, State.setInt_eq, State.put_time]
    · intro k hk
      rw [State.raise_eq, State.raiseWith_cells]
      exact State.cellsKept_put (State.cellsKept_put (State.cellsKept_of_cells rfl _) _ (by simp)) _ (by simp) k hk
    · exact congrArg (fun z : State => { z with cells := s.cells, writes := s.writes }) (State.raise_frame _ _ _ _ _ s.ev)
  · have hcond : (s.time.state == .locked || s.time.state == .set) = true := by simpa using hstate
    exact ⟨_, if_pos hcond, rfl, rfl, rfl, rfl, rfl⟩
  · refine ⟨_, execPtpSyncTransmit_sends hmaster, ?_, fun p hp hup => ?_, rfl⟩
    · simp only [List.length_append, List.length_flatMap, List.length_cons, List.length_nil, List.map_const', List.sum_replicate,
        State.length_upPorts, smul_eq_mul, Nat.mul_comm]
    · have hin := (s.mem_upPorts p).2 ⟨hp, hup⟩
      refine ⟨List.mem_append_right _ (List.mem_flatMap.2 ⟨p, hin, List.mem_cons_self ..⟩), s.announceMsg p,
        List.mem_append_right _ (List.mem_flatMap.2 ⟨p, hin, by simp⟩), rfl, rfl, rfl, rfl⟩
  · unfold exec execPtpSyncTransmit
    rw [hnot]
    rfl

end Sys2Proof.Machine
end

section
/-!
PROOFS. The boundary's own part of the state (R19, R23, R88): the queued tests, the swaps asked for, the set pointer and the step of the
boundary that is done. A swap that every consumer takes over, and a test that starts, leave it. One law an operation, as in Laws/Clock.
-/
namespace Sys2Proof.Machine
open Sys2Proof

/-- The tests in the queue, the swaps asked for, the set pointer and the step of the boundary that is done. -/
def State.boundarySide (s : State) : List QTest × List SwapAsk × Bool × Nat := (s.tests, s.swapAsks, s.setPtr, s.tx.step)

@[simp] theorem State.boundarySide_eta (s : State) : (s.tests, s.swapAsks, s.setPtr, s.tx.step) = s.boundarySide := rfl

@[simp] theorem State.boundarySide_mk
    {x0 x1 x2 x3 x4 x5 x6 x7 x8 x9 x10 x11 x12 x13 x14 x15 x16 x17 x18 x19 x20 x21 x22 x23 x24 x25 x26 x27 x28 x29 x30 x31 x32 x33 x34
     x35 x36 x37 x38 x39 x40 x41 x42 x43 x44 x45 x46 x47 x48 x49 x50 x51 x52 x53 x54 x55 x56 x57 x58} :
    (State.mk x0 x1 x2 x3 x4 x5 x6 x7 x8 x9 x10 x11 x12 x13 x14 x15 x16 x17 x18 x19 x20 x21 x22 x23 x24 x25 x26 x27 x28 x29 x30 x31 x32 x33 x34
      x35 x36 x37 x38 x39 x40 x41 x42 x43 x44 x45 x46 x47 x48 x49 x50 x51 x52 x53 x54 x55 x56 x57 x58).boundarySide =
      (x21, x19, x12, x18.step) := rfl

theorem State.boundarySide_of {s t : State} (htests : t.tests = s.tests) (hasks : t.swapAsks = s.swapAsks) (hptr : t.setPtr = s.setPtr)
    (hstep : t.tx.step = s.tx.step) : t.boundarySide = s.boundarySide := by
  rw [State.boundarySide, htests, hasks, hptr, hstep, State.boundarySide]

@[simp] theorem State.boundarySide_ite (c : Prop) [Decidable c] (a b : State) :
    (if c then a else b).boundarySide = if c then a.boundarySide else b.boundarySide := by
  split <;> rfl

@[simp] theorem State.each_boundarySide {α : Type} (s : State) (l : List α) (f : State → α → State)
    (h : ∀ z a, (f z a).boundarySide = z.boundarySide) : (s.each l f).boundarySide = s.boundarySide :=
  State.each_keeps s l f State.boundarySide h

@[simp] theorem State.when_boundarySide (s : State) (c : Bool) (f : State → State) (h : ∀ z, (f z).boundarySide = z.boundarySide) :
    (s.when c f).boundarySide = s.boundarySide :=
  State.when_keeps s c f State.boundarySide h

/-! ### Machine/Dictionary -/

@[simp] theorem State.put_boundarySide (s : State) (e : Entry) (n j : Nat) (v : Val) : (s.put e n j v).boundarySide = s.boundarySide := by
  simp [State.put]

@[simp] theorem State.setNat_boundarySide (s : State) (e : Entry) (n v j : Nat) : (s.setNat e n v j).boundarySide = s.boundarySide := by
  simp [State.setNat]

/-! ### Machine/Ops -/

@[simp] theorem State.takeFree_boundarySide (s : State) : s.takeFree.2.boundarySide = s.boundarySide := by simp [State.takeFree]
@[simp] theorem State.raiseWith_boundarySide (s : State) (onBehalf : Bool) (k : EvKind) (inst p1 p2 : Nat) :
    (s.raiseWith onBehalf k inst p1 p2).boundarySide = s.boundarySide := by
  simp [State.raiseWith]

@[simp] theorem State.raise_boundarySide (s : State) (k : EvKind) (inst p1 p2 : Nat) : (s.raise k inst p1 p2).boundarySide = s.boundarySide := by
  simp [State.raise]

@[simp] theorem State.send_boundarySide (s : State) (m : Msg) : (s.send m).boundarySide = s.boundarySide := by simp [State.send]
@[simp] theorem State.sendHeld_boundarySide (s : State) (m : Msg) : (s.sendHeld m).boundarySide = s.boundarySide := by simp [State.sendHeld]
@[simp] theorem State.bump_boundarySide (s : State) (e : Entry) (n j by_ : Nat) : (s.bump e n j by_).boundarySide = s.boundarySide := by
  simp [State.bump]

@[simp] theorem State.fitNat_boundarySide (s : State) (e : Entry) (n v j : Nat) : (s.fitNat e n v j).boundarySide = s.boundarySide := by
  simp [State.fitNat]

/-! ### Machine/Engine -/

@[simp] theorem State.takeTag_boundarySide (s : State) (tag : Nat) (conn : Option Nat) : (s.takeTag tag conn).boundarySide = s.boundarySide := by
  simp [State.takeTag]

/-! ### Machine/Streams -/

@[simp] theorem State.setStrm_boundarySide (s : State) (t : Nat) (q : StreamQ) : (s.setStrm t q).boundarySide = s.boundarySide := by
  simp [State.setStrm]

@[simp] theorem State.reportDrops_boundarySide (s : State) (t : Nat) : (s.reportDrops t).boundarySide = s.boundarySide := by simp [State.reportDrops]
@[simp] theorem State.streamRecord_boundarySide (s : State) (t : Nat) (r : List Byte) : (s.streamRecord t r).boundarySide = s.boundarySide := by
  simp [State.streamRecord]

@[simp] theorem State.holdRecord_boundarySide (s : State) (t : Nat) (r : List Byte) : (s.holdRecord t r).boundarySide = s.boundarySide := by
  simp [State.holdRecord]

@[simp] theorem State.streamLog_boundarySide (s : State) (kind : Nat) (r : List Byte) : (s.streamLog kind r).boundarySide = s.boundarySide := by
  simp [State.streamLog]

/-! ### Machine/ModuleBus -/

@[simp] theorem State.setUnitNat_boundarySide (s : State) (m f : Entry) (u v : Nat) : (s.setUnitNat m f u v).boundarySide = s.boundarySide := by
  simp [State.setUnitNat]

@[simp] theorem State.setCan_boundarySide (s : State) (ch : Nat) (x : CanSt) : (s.setCan ch x).boundarySide = s.boundarySide := by simp [State.setCan]
@[simp] theorem State.initBus_boundarySide (s : State) (ch : Nat) : (s.initBus ch).boundarySide = s.boundarySide := by simp [State.initBus]
@[simp] theorem State.placeBus_boundarySide (s : State) : s.placeBus.boundarySide = s.boundarySide := by simp [State.placeBus]
@[simp] theorem State.silenceBus_boundarySide (s : State) (old : State) : (s.silenceBus old).boundarySide = s.boundarySide := by
  simp [State.silenceBus]

@[simp] theorem State.enqueue_boundarySide (s : State) (from_ : Nat) (m : Msg) : (s.enqueue from_ m).boundarySide = s.boundarySide := by
  simp [State.enqueue]

@[simp] theorem State.sendBus_boundarySide (s : State) (m : Msg) : (s.sendBus m).boundarySide = s.boundarySide := by simp [State.sendBus]
@[simp] theorem State.placeUnits_boundarySide (s : State) : s.placeUnits.boundarySide = s.boundarySide := by
  have hrehomed := s.each_boundarySide s.bus.rehome (fun z u => z.setUnitSt u { z.unitSt u with alt := false }) fun _ _ => rfl
  exact (State.each_boundarySide _ _ _ fun z u => by simp).trans hrehomed

@[simp] theorem State.setGrants_boundarySide (s : State) (u : Nat) (g : UnitGrant) : (s.setGrants u g).boundarySide = s.boundarySide := by
  simp [State.setGrants]

@[simp] theorem State.command_boundarySide (s : State) (m sub : Nat) (body : List Byte) : (s.command m sub body).boundarySide = s.boundarySide := by
  simp [State.command]

@[simp] theorem State.startXfer_boundarySide (s : State) (u : Nat) (write : Bool) (index sub type : Nat) (value : List Byte) :
    (s.startXfer u write index sub type value).boundarySide = s.boundarySide := by
  unfold State.startXfer; split <;> simp

@[simp] theorem State.writeCap_boundarySide (s : State) (f : Nat) (exp : Bool) : (s.writeCap f exp).boundarySide = s.boundarySide := by
  simp [State.writeCap]

@[simp] theorem State.holdCap_boundarySide (s : State) (f : Nat) (exp : Bool) (old : Nat) : (s.holdCap f exp old).boundarySide = s.boundarySide := by
  simp [State.holdCap]

@[simp] theorem State.pendCap_boundarySide (s : State) (f : Nat) (exp : Bool) (old : Nat) : (s.pendCap f exp old).boundarySide = s.boundarySide := by
  simp [State.pendCap]

/-! ### Machine/Legal -/

@[simp] theorem State.setPoint_boundarySide (s : State) (pt : Nat) (k : PointSt) : (s.setPoint pt k).boundarySide = s.boundarySide := by
  simp [State.setPoint]

@[simp] theorem State.showPoint_boundarySide (s : State) (pt : Nat) : (s.showPoint pt).boundarySide = s.boundarySide := by simp [State.showPoint]
@[simp] theorem State.showLegal_boundarySide (s : State) : s.showLegal.boundarySide = s.boundarySide := by simp [State.showLegal]
@[simp] theorem State.legalLog_boundarySide (s : State) (kind origin object p1 p2 : Nat) :
    (s.legalLog kind origin object p1 p2).boundarySide = s.boundarySide := by
  simp [State.legalLog]

@[simp] theorem State.markInterval_boundarySide (s : State) (i : Nat) : (s.markInterval i).boundarySide = s.boundarySide := by
  simp [State.markInterval]

@[simp] theorem State.markPoint_boundarySide (s : State) (pt i : Nat) : (s.markPoint pt i).boundarySide = s.boundarySide := by simp [State.markPoint]
@[simp] theorem State.resumeSession_boundarySide (s : State) (pt d : Nat) : (s.resumeSession pt d).boundarySide = s.boundarySide := by
  unfold State.resumeSession; (repeat' split) <;> simp

@[simp] theorem State.logSource_boundarySide (s : State) (pt : Nat) : (s.logSource pt).boundarySide = s.boundarySide := by simp [State.logSource]
@[simp] theorem State.setSource_boundarySide (s : State) (pt d cause : Nat) : (s.setSource pt d cause).boundarySide = s.boundarySide := by
  simp [State.setSource]

@[simp] theorem State.abandonStagger_boundarySide (s : State) (cause : Nat) : (s.abandonStagger cause).boundarySide = s.boundarySide := by
  unfold State.abandonStagger; split <;> simp

@[simp] theorem State.metersSingle_boundarySide (s : State) (d diag : Nat) : (s.metersSingle d diag).boundarySide = s.boundarySide := by
  simp [State.metersSingle]

/-! ### Machine/Measurement -/

@[simp] theorem State.showChan_boundarySide (s : State) (ch : Nat) (v0 v1 source : Bool) (c0 c1 : Nat) :
    (s.showChan ch v0 v1 source c0 c1).boundarySide = s.boundarySide := by
  simp [State.showChan]

@[simp] theorem State.chooseSource_boundarySide (s : State) (ch : Nat) (v0 v1 : Bool) (c0 c1 : Nat) :
    (s.chooseSource ch v0 v1 c0 c1).boundarySide = s.boundarySide := by
  simp [State.chooseSource]

@[simp] theorem State.invalidateDie_boundarySide (s : State) (d : Nat) : (s.invalidateDie d).boundarySide = s.boundarySide := by
  simp [State.invalidateDie]

@[simp] theorem State.failMeter_boundarySide (s : State) (d diag : Nat) : (s.failMeter d diag).boundarySide = s.boundarySide := by
  simp [State.failMeter]

@[simp] theorem State.failMeterFree_boundarySide (s : State) (d : Nat) : (s.failMeterFree d).boundarySide = s.boundarySide := by
  simp [State.failMeterFree]

@[simp] theorem State.buildSlots_boundarySide (s : State) : s.buildSlots.boundarySide = s.boundarySide := by simp [State.buildSlots]
@[simp] theorem State.rebuildSlots_boundarySide (s : State) (d : Nat) : (s.rebuildSlots d).boundarySide = s.boundarySide := by
  simp [State.rebuildSlots]

/-! ### Machine/Tests -/

@[simp] theorem State.beginTest_boundarySide (s : State) (target : Nat) (slot : Option Nat) :
    (s.beginTest target slot).boundarySide = s.boundarySide := by
  simp [State.beginTest]

@[simp] theorem State.endTest_boundarySide (s : State) (target status : Nat) : (s.endTest target status).boundarySide = s.boundarySide := by
  unfold State.endTest; (repeat' split) <;> simp

/-! ### Machine/Converter -/

@[simp] theorem State.setLeg_boundarySide (s : State) (p : Nat) (k : PhaseSt) : (s.setLeg p k).boundarySide = s.boundarySide := by simp [State.setLeg]
@[simp] theorem State.setConv_boundarySide (s : State) (g : Nat) (k : GroupSt) : (s.setConv g k).boundarySide = s.boundarySide := by
  simp [State.setConv]

@[simp] theorem State.setPhase_boundarySide (s : State) (p st : Nat) : (s.setPhase p st).boundarySide = s.boundarySide := by simp [State.setPhase]
@[simp] theorem State.setStr_boundarySide (s : State) (n : Nat) (k : StrSt) : (s.setStr n k).boundarySide = s.boundarySide := by simp [State.setStr]
@[simp] theorem State.cancelPhaseTest_boundarySide (s : State) (p : Nat) : (s.cancelPhaseTest p).boundarySide = s.boundarySide := by
  simp [State.cancelPhaseTest]

@[simp] theorem State.gatesOff_boundarySide (s : State) (g st : Nat) : (s.gatesOff g st).boundarySide = s.boundarySide := by simp [State.gatesOff]
@[simp] theorem State.stopGroup_boundarySide (s : State) (g : Nat) : (s.stopGroup g).boundarySide = s.boundarySide := by simp [State.stopGroup]
@[simp] theorem State.cutGroup_boundarySide (s : State) (g : Nat) : (s.cutGroup g).boundarySide = s.boundarySide := by simp [State.cutGroup]
@[simp] theorem State.disconnectGroup_boundarySide (s : State) (g : Nat) : (s.disconnectGroup g).boundarySide = s.boundarySide := by
  simp [State.disconnectGroup]

@[simp] theorem State.placePhase_boundarySide (s : State) (p : Nat) : (s.placePhase p).boundarySide = s.boundarySide := by simp [State.placePhase]
@[simp] theorem State.placeGroup_boundarySide (s : State) (g : Nat) : (s.placeGroup g).boundarySide = s.boundarySide := by simp [State.placeGroup]
@[simp] theorem State.placeConverters_boundarySide (s : State) : s.placeConverters.boundarySide = s.boundarySide := by simp [State.placeConverters]

/-! ### Machine/LoadSwitch -/

@[simp] theorem State.setLc_boundarySide (s : State) (c : Nat) (k : LcSt) : (s.setLc c k).boundarySide = s.boundarySide := by simp [State.setLc]
@[simp] theorem State.setHalf_boundarySide (s : State) (h : Nat) (x : HalfSt) : (s.setHalf h x).boundarySide = s.boundarySide := by
  simp [State.setHalf]

@[simp] theorem State.loadStores_boundarySide (s : State) : s.loadStores.boundarySide = s.boundarySide := by simp [State.loadStores]
@[simp] theorem State.cancelLcTest_boundarySide (s : State) (c : Nat) : (s.cancelLcTest c).boundarySide = s.boundarySide := by
  simp [State.cancelLcTest]

@[simp] theorem State.lcUpdate_boundarySide (s : State) (c : Nat) : (s.lcUpdate c).boundarySide = s.boundarySide := by
  unfold State.lcUpdate; dsimp only; (repeat' split) <;> simp [*]

@[simp] theorem State.lcCommand_boundarySide (s : State) (c : Nat) (on : Bool) : (s.lcCommand c on).boundarySide = s.boundarySide := by
  simp [State.lcCommand]

@[simp] theorem State.lcDuty_boundarySide (s : State) (c : Nat) (q : Rat) : (s.lcDuty c q).boundarySide = s.boundarySide := by simp [State.lcDuty]

/-! ### Machine/Outlets -/

@[simp] theorem State.setSess_boundarySide (s : State) (o : Nat) (k : Sess) : (s.setSess o k).boundarySide = s.boundarySide := by simp [State.setSess]
@[simp] theorem State.enter_boundarySide (s : State) (o st : Nat) : (s.enter o st).boundarySide = s.boundarySide := by simp [State.enter]
@[simp] theorem State.refreshOutlet_boundarySide (s : State) (o : Nat) : (s.refreshOutlet o).boundarySide = s.boundarySide := by
  simp [State.refreshOutlet]

/-! ### Machine/Loops -/

@[simp] theorem State.setLoop_boundarySide (s : State) (l : Nat) (k : LoopSt) : (s.setLoop l k).boundarySide = s.boundarySide := by
  simp [State.setLoop]

@[simp] theorem State.showLoop_boundarySide (s : State) (l : Nat) : (s.showLoop l).boundarySide = s.boundarySide := by simp [State.showLoop]
@[simp] theorem State.swapLoop_boundarySide (s : State) (old : State) (l : Nat) : (s.swapLoop old l).boundarySide = s.boundarySide := by
  simp [State.swapLoop]

@[simp] theorem State.retarget_boundarySide (s : State) (old : State) (c : Nat) : (s.retarget old c).boundarySide = s.boundarySide := by
  unfold State.retarget; (repeat' split) <;> simp [*]

@[simp] theorem State.swapLoops_boundarySide (s : State) (old : State) : (s.swapLoops old).boundarySide = s.boundarySide := by
  simp [State.swapLoops, -State.setNat_eq]

/-! ### Machine/Cells -/

@[simp] theorem State.setMon_boundarySide (s : State) (k : Nat) (m : MonSt) : (s.setMon k m).boundarySide = s.boundarySide := by simp [State.setMon]
@[simp] theorem State.setRadio_boundarySide (s : State) (r : RadioSt) : (s.setRadio r).boundarySide = s.boundarySide := by simp [State.setRadio]
@[simp] theorem State.tellMonitor_boundarySide (s : State) (op k : Nat) (args : List Byte) :
    (s.tellMonitor op k args).boundarySide = s.boundarySide := by
  simp [State.tellMonitor]

@[simp] theorem State.sendParams_boundarySide (s : State) (n k : Nat) : (s.sendParams n k).boundarySide = s.boundarySide := by simp [State.sendParams]
@[simp] theorem State.resendParams_boundarySide (s : State) (old : State) : (s.resendParams old).boundarySide = s.boundarySide := by
  simp [State.resendParams]

@[simp] theorem State.placeMonitors_boundarySide (s : State) : s.placeMonitors.boundarySide = s.boundarySide := by
  unfold State.placeMonitors
  rw [State.each_boundarySide]
  intro z o
  dsimp only
  (repeat' split) <;> simp

/-! ### Machine/Strings -/

@[simp] theorem State.enterStr_boundarySide (s : State) (n st : Nat) : (s.enterStr n st).boundarySide = s.boundarySide := by simp [State.enterStr]
@[simp] theorem State.setCoils_boundarySide (s : State) (n : Nat) (pos neg pre : Bool) :
    (s.setCoils n pos neg pre).boundarySide = s.boundarySide := by
  simp [State.setCoils]

@[simp] theorem State.zeroLimits_boundarySide (s : State) (n : Nat) : (s.zeroLimits n).boundarySide = s.boundarySide := by simp [State.zeroLimits]
@[simp] theorem State.settleString_boundarySide (s : State) (n : Nat) : (s.settleString n).boundarySide = s.boundarySide := by
  simp [State.settleString]

@[simp] theorem State.openCoils_boundarySide (s : State) (n : Nat) (hw : Bool) : (s.openCoils n hw).boundarySide = s.boundarySide := by
  simp [State.openCoils]

@[simp] theorem State.noteOpening_boundarySide (s : State) (n c : Nat) : (s.noteOpening n c).boundarySide = s.boundarySide := by
  simp [State.noteOpening]

@[simp] theorem State.stringCause_boundarySide (s : State) (n c value : Nat) : (s.stringCause n c value).boundarySide = s.boundarySide := by
  simp [State.stringCause]

@[simp] theorem State.startStep_boundarySide (s : State) (n step : Nat) : (s.startStep n step).boundarySide = s.boundarySide := by
  simp [State.startStep]

@[simp] theorem State.cancelStringTest_boundarySide (s : State) (n : Nat) : (s.cancelStringTest n).boundarySide = s.boundarySide := by
  simp [State.cancelStringTest]

@[simp] theorem State.startStringTest_boundarySide (s : State) (n : Nat) (slot : Option Nat) :
    (s.startStringTest n slot).boundarySide = s.boundarySide := by
  simp [State.startStringTest]

@[simp] theorem State.placeStrings_boundarySide (s : State) (old : State) : (s.placeStrings old).boundarySide = s.boundarySide := by
  simp [State.placeStrings]

/-! ### Machine/LoadRows -/

@[simp] theorem State.placeChannels_boundarySide (s : State) (old : State) : (s.placeChannels old).boundarySide = s.boundarySide := by
  simp [State.placeChannels]

/-! ### Machine/Calibration -/

@[simp] theorem State.startCal_boundarySide (s : State) (ch command dies reference : Nat) (slot : Option Nat) :
    (s.startCal ch command dies reference slot).boundarySide = s.boundarySide := by
  simp [State.startCal]

@[simp] theorem State.endCal_boundarySide (s : State) (k : Calib) (st : Nat) : (s.endCal k st).boundarySide = s.boundarySide := by simp [State.endCal]
@[simp] theorem State.placeMeasurement_boundarySide (s : State) (old : State) : (s.placeMeasurement old).boundarySide = s.boundarySide := by
  simp [State.placeMeasurement]

/-! ### Machine/Monitors -/

@[simp] theorem State.startMonitorTest_boundarySide (s : State) (k : Nat) (slot : Option Nat) :
    (s.startMonitorTest k slot).boundarySide = s.boundarySide := by
  simp [State.startMonitorTest]

/-! ### Machine/Eusor -/

@[simp] theorem State.showEusor_boundarySide (s : State) : s.showEusor.boundarySide = s.boundarySide := by simp [State.showEusor]
@[simp] theorem State.formLoads_boundarySide (s : State) : s.formLoads.boundarySide = s.boundarySide := by simp [State.formLoads]
@[simp] theorem State.showProxies_boundarySide (s : State) : s.showProxies.boundarySide = s.boundarySide := by simp [State.showProxies]
@[simp] theorem State.setNodeState_boundarySide (s : State) (e st : Nat) : (s.setNodeState e st).boundarySide = s.boundarySide := by
  simp [State.setNodeState]

@[simp] theorem State.dropNode_boundarySide (s : State) (e st : Nat) : (s.dropNode e st).boundarySide = s.boundarySide := by simp [State.dropNode]
@[simp] theorem State.placeNodes_boundarySide (s : State) (changed : Nat → Bool) : (s.placeNodes changed).boundarySide = s.boundarySide := by
  simp [State.placeNodes]

/-! ### Machine/Billing -/

@[simp] theorem State.showReadPeriod_boundarySide (s : State) (pt : Nat) : (s.showReadPeriod pt).boundarySide = s.boundarySide := by
  simp [State.showReadPeriod]

/-! ### Machine/SiteTime -/

@[simp] theorem State.setTimeState_boundarySide (s : State) (t : TimeState) : (s.setTimeState t).boundarySide = s.boundarySide := by
  simp [State.setTimeState]

@[simp] theorem State.loseMaster_boundarySide (s : State) : s.loseMaster.boundarySide = s.boundarySide := by simp [State.loseMaster]
@[simp] theorem State.placeTime_boundarySide (s : State) : s.placeTime.boundarySide = s.boundarySide := by simp [State.placeTime]

/-! ### Machine/Connections -/

@[simp] theorem State.placePeers_boundarySide (s : State) : s.placePeers.boundarySide = s.boundarySide := by simp [State.placePeers]

/-! ### Machine/StreamRows -/

@[simp] theorem State.placePort_boundarySide (s : State) : s.placePort.boundarySide = s.boundarySide := by simp [State.placePort]

/-! ### Machine/ConverterRows -/

@[simp] theorem State.startPhaseTest_boundarySide (s : State) (p : Nat) (slot : Option Nat) :
    (s.startPhaseTest p slot).boundarySide = s.boundarySide := by
  simp [State.startPhaseTest]

/-! ### Machine/BusRows -/

@[simp] theorem State.startUnitTest_boundarySide (s : State) (u : Nat) (asked : Option Held) (slot : Option Nat) :
    (s.startUnitTest u asked slot).boundarySide = s.boundarySide := by
  simp [State.startUnitTest, State.beginTest]

/-! ### Machine/Apply -/

@[simp] theorem State.digests_boundarySide (s : State) : s.digests.boundarySide = s.boundarySide := by simp [State.digests]
@[simp] theorem State.adoptSet_boundarySide (s : State) (old : State) (carried : List Nat) :
    (s.adoptSet old carried).boundarySide = s.boundarySide := by
  simp [State.adoptSet]

/-- The exchange moves the set pointer and nothing else of it. -/
theorem State.exchange_boundarySide (s : State) (carried : List Nat) :
    (s.exchange carried).boundarySide = (s.tests, s.swapAsks, !s.setPtr, s.tx.step) := by simp [State.exchange]

@[simp] theorem State.startQueued_boundarySide (s : State) (f : Found) (q : QTest) : (s.startQueued f q).boundarySide = s.boundarySide := by
  simp [State.startQueued]

end Sys2Proof.Machine
end

section
/-!
PROOFS. Step 4 of the boundary (O11): the calendar ahead of the actions, an action that ends, and the sessions' ends after them (R45, R47,
R356).
-/
namespace Sys2Proof.Machine
open Sys2Proof

/-! ### What the calendar and the sessions' ends leave of the actions -/

/-- The frame's number, the step of the boundary and what an entry reads. -/
def State.reads (s : State) (e : Entry) (n : Nat) : Nat × Nat × Nat := (s.sfn, s.tx.step, s.nat e n)

/-- An entry of the table of actions, as no entry before the table nor the end reason of an outlet is kept. -/
abbrev Entry.ofAction (e : Entry) : Prop := 0xE000 ≤ e.base ∧ e.sub < 0x17

theorem State.raise_reads (s : State) (k : EvKind) (i p q : Nat) (e : Entry) (n : Nat) : (s.raise k i p q).reads e n = s.reads e n := by
  rw [State.reads, State.nat_raise, State.raise_eq, State.raiseWith_sfn, State.raiseWith_tx, State.reads]

theorem State.setNat_reads (s : State) {f e : Entry} {m n : Nat} (v : Nat) (h : e.key n ≠ f.key m) :
    (s.setNat f m v).reads e n = s.reads e n := by
  rw [State.reads, State.setNat_eq, State.nat_put_ne _ _ h, State.put_sfn, State.put_tx, State.reads]

theorem State.activate_reads (s : State) (c cause : Nat) {e : Entry} (he : e.ofAction) (n : Nat) :
    (s.activate c cause).reads e n = s.reads e n := by
  have hbelow : Ent.ACTIVE_CALENDAR.base + 0 < 0xE000 := by decide
  unfold State.activate
  split
  · rfl
  · rw [State.raise_reads, State.setNat_reads _ _ (Entry.key_ne_of_base ⟨by decide, Nat.lt_of_lt_of_le hbelow he.1⟩)]

theorem State.evalRate_reads (s : State) {e : Entry} (he : e.ofAction) (n : Nat) : s.evalRate.reads e n = s.reads e n := by
  have hbelow : Ent.ACTIVE_RATE.base + 0 < 0xE000 := by decide
  unfold State.evalRate
  split
  · rfl
  · split
    · rfl
    · dsimp only
      split
      · rfl
      · rw [State.raise_reads, State.setNat_reads _ _ (Entry.key_ne_of_base ⟨by decide, Nat.lt_of_lt_of_le hbelow he.1⟩)]

theorem State.calendarStep_reads (s : State) {e : Entry} (he : e.ofAction) (n : Nat) : s.calendarStep.reads e n = s.reads e n := by
  unfold State.calendarStep
  split
  · rfl
  · dsimp only
    rw [State.evalRate_reads _ he]
    exact State.each_keeps s _ _ (fun z => z.reads e n) fun z x => z.activate_reads _ _ he n

theorem State.commitEnd_reads (s : State) (o : Nat) {e : Entry} (he : e.ofAction) (n : Nat) : (s.commitEnd o).reads e n = s.reads e n := by
  unfold State.commitEnd
  dsimp only
  split
  · rw [State.raise_reads, State.setNat_reads _ _ (Entry.key_ne_of_sub ⟨Nat.lt_trans he.2 (by decide), by decide, Nat.ne_of_lt he.2⟩ n o)]
    rfl
  · rfl

theorem State.commitEnds_reads (s : State) {e : Entry} (he : e.ofAction) (n : Nat) : s.commitEnds.reads e n = s.reads e n :=
  State.each_keeps s _ _ (fun z => z.reads e n) fun z o => z.commitEnd_reads o he n

theorem State.calendarStep_still {s : State} (h : s.bill.still = true) : s.calendarStep = s := by
  rw [State.calendarStep, h]
  rfl

/-- Without a session nothing is committed. -/
theorem State.commitEnds_none {s : State} (h : s.outlets.sess = []) : s.commitEnds = s := by
  have hnone (o : Nat) : s.commitEnd o = s := by
    unfold State.commitEnd State.sess
    rw [h]
    rfl
  exact State.each_inv s _ _ (fun z => z = s) rfl fun z o hz => by rw [hz, hnone]

/-! ### An action that ends -/

/-- An action executed (R47): its state, result and frame are written, and its event follows; a late one has said so first. -/
theorem State.endAction_ok (s : State) (i : Nat) (late : Bool) :
    ∃ e k p q, s.endAction i St.OK late = (((({ s with ev := e } : State).setNat Ent.ACTION_STATE i Act.EXECUTED).setNat
      Ent.ACTION_RESULT i St.OK).setNat Ent.ACTION_EXEC_SFN i s.sfn).raise k i p q := by
  obtain ⟨e, hlate⟩ : ∃ e, s.when late (fun z => z.actionEvent Evt.ACTION_LATE i St.OK) = { s with ev := e } := by
    unfold State.when
    split
    · exact s.raise_log ..
    · exact ⟨s.ev, rfl⟩
  unfold State.endAction
  rw [if_pos (by rfl)]
  dsimp only
  rw [hlate]
  split
  · exact ⟨e, _, _, _, rfl⟩
  · exact ⟨e, _, _, _, rfl⟩

/-- An action failed: its state and result are written, and its event follows. -/
theorem State.endAction_failed (s : State) (i : Nat) {st : Nat} (late : Bool) (h : st ≠ St.OK) :
    ∃ p, s.endAction i st late = ((s.setNat Ent.ACTION_STATE i Act.FAILED).setNat Ent.ACTION_RESULT i st).raise Evt.ACTION_FAILED i p st := by
  rw [State.endAction, if_neg (by simpa using h)]
  exact ⟨_, rfl⟩

/-- The entries of an action that has ended change, and the event log. -/
theorem State.endAction_frame (s : State) (i st : Nat) (late : Bool) (c : Tab Val) (w : List (Nat × Nat × Val)) (e : EventSt) :
    { s.endAction i st late with cells := c, writes := w, ev := e } = { s with cells := c, writes := w, ev := e } := by
  by_cases h : st = St.OK
  · obtain ⟨e', k, p, q, hend⟩ := s.endAction_ok i late
    rw [h, hend]
    exact congrArg (fun z : State => { z with cells := c, writes := w }) (State.raise_frame _ _ _ _ _ e)
  · obtain ⟨p, hend⟩ := s.endAction_failed i late h
    rw [hend]
    exact congrArg (fun z : State => { z with cells := c, writes := w }) (State.raise_frame _ _ _ _ _ e)

/-- The state an action ends in (R47). -/
def endState (st : Nat) : Nat := if st = St.OK then Act.EXECUTED else Act.FAILED

theorem State.endAction_ends (s : State) (i st : Nat) (late : Bool) : (s.endAction i st late).aState i = endState st := by
  have hresult : Ent.ACTION_STATE.key i 0 ≠ Ent.ACTION_RESULT.key i 0 := Entry.key_ne_of_sub (by decide) i i
  have hframe : Ent.ACTION_STATE.key i 0 ≠ Ent.ACTION_EXEC_SFN.key i 0 := Entry.key_ne_of_sub (by decide) i i
  by_cases h : st = St.OK
  · obtain ⟨e, k, p, q, hend⟩ := s.endAction_ok i late
    rw [h, hend, State.aState, State.nat_raise, State.setNat_eq, State.nat_put_ne _ _ hframe, State.setNat_eq,
      State.nat_put_ne _ _ hresult, State.nat_setNat_same]
    rfl
  · obtain ⟨p, hend⟩ := s.endAction_failed i late h
    rw [hend, State.aState, State.nat_raise, State.setNat_eq, State.nat_put_ne _ _ hresult, State.nat_setNat_same, endState, if_neg h]

/-- The entry of another action keeps its value. -/
theorem State.endAction_other (s : State) {i j : Nat} (st : Nat) (late : Bool) (h : j ≠ i) : (s.endAction i st late).aState j = s.aState j := by
  have hstate : Ent.ACTION_STATE.key j 0 ≠ Ent.ACTION_STATE.key i 0 := by
    simp only [Entry.key, ne_eq]
    omega
  have hresult : Ent.ACTION_STATE.key j 0 ≠ Ent.ACTION_RESULT.key i 0 := Entry.key_ne_of_sub (by decide) j i
  have hframe : Ent.ACTION_STATE.key j 0 ≠ Ent.ACTION_EXEC_SFN.key i 0 := Entry.key_ne_of_sub (by decide) j i
  by_cases hst : st = St.OK
  · obtain ⟨e, k, p, q, hend⟩ := s.endAction_ok i late
    rw [hst, hend, State.aState, State.nat_raise, State.setNat_eq, State.nat_put_ne _ _ hframe, State.setNat_eq,
      State.nat_put_ne _ _ hresult, State.setNat_eq, State.nat_put_ne _ _ hstate]
    rfl
  · obtain ⟨p, hend⟩ := s.endAction_failed i late hst
    rw [hend, State.aState, State.nat_raise, State.setNat_eq, State.nat_put_ne _ _ hresult, State.setNat_eq,
      State.nat_put_ne _ _ hstate, State.aState]

/-- An action executed on its frame shows it with its result and the frame. -/
theorem State.endAction_executed (s : State) (i : Nat) :
    (s.endAction i St.OK false).nat Ent.ACTION_RESULT i = St.OK ∧ (s.endAction i St.OK false).nat Ent.ACTION_EXEC_SFN i = s.sfn ∧
      s.cellsKept (s.endAction i St.OK false) [Ent.ACTION_STATE.key i, Ent.ACTION_RESULT.key i, Ent.ACTION_EXEC_SFN.key i] := by
  obtain ⟨e, k, p, q, hend⟩ := s.endAction_ok i false
  rw [hend]
  refine ⟨?_, ?_, fun key hkey => ?_⟩
  · rw [State.nat_raise, State.setNat_eq, State.nat_put_ne _ _ (Entry.key_ne_of_sub (by decide) i i), State.nat_setNat_same]
  · rw [State.nat_raise, State.nat_setNat_same]
  · have hkept : s.cellsKept ({ s with ev := e } : State) [Ent.ACTION_STATE.key i, Ent.ACTION_RESULT.key i, Ent.ACTION_EXEC_SFN.key i] :=
      State.cellsKept_of_cells rfl _
    rw [State.raise_eq, State.raiseWith_cells]
    exact State.cellsKept_put (State.cellsKept_put (State.cellsKept_put hkept _ (by simp)) _ (by simp)) _ (by simp) key hkey

/-! ### ACTION_EXECUTION -/

/-- One action armed, and due on its frame: it alone is executed, between the calendar and the sessions' ends. -/
theorem execActionExecution_single {s : State} {i : Nat} (hcycle : s.cycle = 0) (hstep : s.tx.step = 3) (harmed : s.armed = [i])
    (htype : s.aType i ≠ ActType.SET_SWAP) (hdue : s.due i = .onTime) :
    execActionExecution s = .next ((s.calendarStep.atStep 4).execAction i false).commitEnds := by
  have hhere : [i].filter (fun i => s.aType i != ActType.SET_SWAP) = [i] := by simp [htype]
  have honTime : [i].filter (fun i => s.due i == .onTime) = [i] := by simp [hdue]
  have hlate : [i].filter (fun i => s.due i == .late) = [] := by simp [hdue]
  have hgone : [i].filter (fun i => s.due i == .tooLate) = [] := by simp [hdue]
  simp only [execActionExecution, hcycle, hstep, hhere, honTime, hlate, harmed, hgone, bne_self_eq_false, Bool.or_self, Bool.false_eq_true,
    if_false, State.lateOrder, List.filter_nil, State.inOrder, sortBy, insertBy, List.append_nil, List.take_nil, State.each, List.foldl_nil,
    List.foldl_cons, ok]

/-- A MARK does nothing but end. -/
theorem State.execAction_mark {s : State} {i : Nat} (h : s.aType i = ActType.MARK) (late : Bool) :
    s.execAction i late = s.endAction i St.OK late := by
  have hdo : s.doAction i = (s, St.OK) := by
    unfold State.doAction
    rw [h]
    rfl
  rw [State.execAction, hdo]
  rfl

theorem State.due_local {s : State} {i : Nat} (harmed : s.aState i = Act.ARMED) (hgroup : s.aGroup i = 0) (hframe : s.aSfn i = s.sfn)
    (hacting : s.acting = true) (hknown : s.time.known = true) : s.due i = .onTime := by
  simp [State.due, harmed, hgroup, hframe, hacting, hknown]

/-- Until site time has been set no action is due (R51). -/
theorem State.due_unknown {s : State} (h : s.time.known = false) (i : Nat) : s.due i = .no := by
  simp [State.due, h]

theorem execActionExecution_unknown {s : State} (hcycle : s.cycle = 0) (hstep : s.tx.step = 3) (hknown : s.time.known = false) :
    execActionExecution s = .next (s.calendarStep.atStep 4).commitEnds := by
  have hnone (l : List Nat) {d : Due} (hd : d ≠ .no) : l.filter (fun i => s.due i == d) = [] := by
    simp [State.due_unknown hknown, hd.symm]
  simp only [execActionExecution, hcycle, hstep, hnone _ (d := .onTime) (by decide), hnone _ (d := .late) (by decide),
    hnone _ (d := .tooLate) (by decide), bne_self_eq_false, Bool.or_self, Bool.false_eq_true, if_false, State.lateOrder, List.filter_nil,
    State.inOrder, sortBy, List.append_nil, List.take_nil, State.each, List.foldl_nil, ok]

/-- A MARK of no group on its frame, on a device that runs its table: the four entries and the step read what it leaves (R45, R47). -/
theorem execActionExecution_mark {s : State} {i : Nat} (hcycle : s.cycle = 0) (hstep : s.tx.step = 3) (harmed : s.armed = [i])
    (htype : s.aType i = ActType.MARK) (hdue : s.due i = .onTime) :
    execActionExecution s = .next ((s.calendarStep.atStep 4).endAction i St.OK false).commitEnds := by
  have hsame : (s.calendarStep.atStep 4).aType i = s.aType i := by
    have hreads := s.calendarStep_reads (e := Ent.ACTION_TYPE) (by decide) i
    simp only [State.reads, Prod.mk.injEq] at hreads
    exact hreads.2.2
  rw [execActionExecution_single hcycle hstep harmed (by rw [htype]; decide) hdue, State.execAction_mark (hsame.trans htype)]

theorem State.endAction_tx (s : State) (i st : Nat) (late : Bool) : (s.endAction i st late).tx = s.tx :=
  (congrArg State.tx (s.endAction_frame i st late s.cells s.writes s.ev) :)

theorem State.marked_reads (s : State) (i : Nat) :
    let t := ((s.calendarStep.atStep 4).endAction i St.OK false).commitEnds
    t.aState i = Act.EXECUTED ∧ t.nat Ent.ACTION_RESULT i = St.OK ∧ t.nat Ent.ACTION_EXEC_SFN i = s.sfn ∧ t.tx.step = 4 := by
  intro t
  obtain ⟨z, hz⟩ : ∃ z, z = s.calendarStep.atStep 4 := ⟨_, rfl⟩
  have hsfn : z.sfn = s.sfn := by
    have hreads := s.calendarStep_reads (e := Ent.ACTION_STATE) (by decide) i
    simp only [State.reads, Prod.mk.injEq] at hreads
    rw [hz]
    exact hreads.1
  have hstep : z.tx.step = 4 := by rw [hz]; rfl
  obtain ⟨hresult, hexec, -⟩ := z.endAction_executed i
  have hends {e : Entry} (he : e.ofAction) : t.reads e i = (z.endAction i St.OK false).reads e i := by
    rw [hz]
    exact State.commitEnds_reads _ he i
  have h1 := hends (e := Ent.ACTION_STATE) (by decide)
  have h2 := hends (e := Ent.ACTION_RESULT) (by decide)
  have h3 := hends (e := Ent.ACTION_EXEC_SFN) (by decide)
  simp only [State.reads, Prod.mk.injEq] at h1 h2 h3
  obtain ⟨-, htx, hstate⟩ := h1
  exact ⟨hstate.trans (z.endAction_ends i St.OK false), h2.2.2.trans hresult, (h3.2.2.trans hexec).trans hsfn,
    htx.trans ((congrArg EngineSt.step (z.endAction_tx ..)).trans hstep)⟩

end Sys2Proof.Machine
end

section
/-!
PROOFS. Steps 3 and 4 of the boundary, the queue of tests and the tick lines (O11): the one swap of a boundary and its answers (R88 to R90),
a queued test that starts or expires (R23), and the move to the other tick line (R13).
-/
namespace Sys2Proof.Machine
open Sys2Proof

/-! ### The answers and the actions of a swap -/

/-- The answers to the requests for a swap change the engine, what waits for the mirror and nothing else. -/
theorem State.answerSwap_frame (s : State) (a : SwapAsk) (st : Nat) (x : EngineSt) (w : List Msg) :
    { s.answerSwap a st with tx := x, waiting := w } = { s with tx := x, waiting := w } := by
  unfold State.answerSwap
  split <;> rfl

theorem State.answerSwap_boundarySide (s : State) (a : SwapAsk) (st : Nat) : (s.answerSwap a st).boundarySide = s.boundarySide := by
  unfold State.answerSwap
  split
  · rfl
  · exact State.boundarySide_of (State.answerLater_tests ..) (State.answerLater_swapAsks ..) (State.answerLater_setPtr ..)
      (State.answerLater_step ..)

/-- The last request for a swap, a write, has its answer last. -/
theorem State.answerSwaps_last (s : State) (l : List SwapAsk) {h : Held} (k st : Nat) (hop : h.op = Op.WRITE) :
    (s.each (l ++ [⟨some h, k⟩]) (fun z a => z.answerSwap a st)).repliesWith h st := by
  have hsplit : s.each (l ++ [⟨some h, k⟩]) (fun z a => z.answerSwap a st) =
      (s.each l (fun z a => z.answerSwap a st)).answerSwap ⟨some h, k⟩ st := by
    simp [State.each]
  have hgroup : (h.op == Op.WRITE_GROUP) = false := by rw [hop]; rfl
  rw [hsplit, State.answerSwap]
  dsimp only
  rw [hgroup]
  exact State.answerLater_repliesWith ..

/-- What a swap gives each of its requests and actions: the answers first, then the ends. -/
def State.settleSwap (s : State) (asks : List SwapAsk) (acts : List Nat) (late : Nat → Bool) (st : Nat) : State :=
  (s.each asks (fun z a => z.answerSwap a st)).each acts (fun z i => z.endAction i st (late i))

theorem State.settleSwap_ends (s : State) (asks : List SwapAsk) {acts : List Nat} (late : Nat → Bool) (st : Nat) {i : Nat} (hi : i ∈ acts) :
    (s.settleSwap asks acts late st).aState i = endState st := by
  refine State.each_reaches (fun z => z.aState i = endState st) (fun _ => True) hi trivial (fun _ _ _ => trivial) (fun z j hz => ?_)
    fun z _ => z.endAction_ends i st (late i)
  by_cases hij : i = j
  · rw [hij]
    exact z.endAction_ends j st (late j)
  · exact (z.endAction_other st (late j) hij).trans hz

/-- What reads no entry, no event and nothing of the answers is the same after the swap is settled. -/
theorem State.settleSwap_keeps {β : Type} (g : State → β)
    (hend : ∀ (z : State) c w e, g { z with cells := c, writes := w, ev := e } = g z) (s : State) (asks : List SwapAsk) (acts : List Nat)
    (late : Nat → Bool) (st : Nat) (hanswer : ∀ z a, g (State.answerSwap z a st) = g z) : g (s.settleSwap asks acts late st) = g s := by
  refine (State.each_keeps _ acts _ g fun z i => ?_).trans (State.each_keeps _ asks _ g fun z a => hanswer z a)
  rw [← hend (z.endAction i st (late i)) z.cells z.writes z.ev, State.endAction_frame, hend]

theorem State.settleSwap_replies (s : State) (l : List SwapAsk) {h : Held} (k : Nat) (acts : List Nat) (late : Nat → Bool) (st : Nat)
    (hop : h.op = Op.WRITE) : (s.settleSwap (l ++ [⟨some h, k⟩]) acts late st).repliesWith h st := by
  have hwaiting : (s.settleSwap (l ++ [⟨some h, k⟩]) acts late st).waiting =
      (s.each (l ++ [⟨some h, k⟩]) (fun z a => z.answerSwap a st)).waiting := by
    refine State.each_keeps _ acts _ State.waiting fun z i => ?_
    exact (congrArg State.waiting (z.endAction_frame i st (late i) z.cells z.writes z.ev) :)
  rw [State.repliesWith, hwaiting]
  exact s.answerSwaps_last l k st hop

/-- A swap settled for a boundary whose last request is a client's write. -/
theorem State.settleSwap_settles {s : State} {l : List SwapAsk} {h : Held} {tests : List QTest} {p : Bool} {n : Nat} (k : Nat)
    (acts : List Nat) (late : Nat → Bool) (st : Nat) (hop : h.op = Op.WRITE) (hside : s.boundarySide = (tests, [], p, n)) :
    let t := s.settleSwap (l ++ [⟨some h, k⟩]) acts late st
    t.repliesWith h st ∧ t.swapAsks = [] ∧ t.tx.step = n ∧ t.setPtr = p ∧ ∀ i ∈ acts, t.aState i = endState st := by
  intro t
  have hkept : t.boundarySide = (tests, [], p, n) :=
    (State.settleSwap_keeps State.boundarySide (fun _ _ _ _ => rfl) s _ acts late st fun z a => z.answerSwap_boundarySide a st).trans hside
  simp only [State.boundarySide, Prod.mk.injEq] at hkept
  obtain ⟨-, hasks, hptr, hstep⟩ := hkept
  exact ⟨s.settleSwap_replies l k acts late st hop, hasks, hstep, hptr, fun i hi => s.settleSwap_ends _ late st hi⟩

/-! ### SET_SWAP -/

/-- Step 3 of the boundary begun: the requests are in hand. -/
def State.swapBegun (s : State) : State := { s.atStep 3 with swapAsks := [] }

theorem State.swapBegun_boundarySide (s : State) : s.swapBegun.boundarySide = (s.tests, [], s.setPtr, 3) := rfl

/-- A swap refused for the constraint of an entry (R89). -/
def State.swapRefused (s : State) (t : Nat) : State :=
  ((s.setNat Ent.SWAP_REFUSED_ENTRY 0 t).setNat Ent.SWAP_REFUSED_STATUS 0 St.RANGE).raise Evt.SWAP_REFUSED 0 t St.RANGE

theorem State.swapRefused_frame (s : State) (t : Nat) (c : Tab Val) (w : List (Nat × Nat × Val)) (e : EventSt) :
    { s.swapRefused t with cells := c, writes := w, ev := e } = { s with cells := c, writes := w, ev := e } :=
  congrArg (fun z : State => { z with cells := c, writes := w }) (State.raise_frame _ _ _ _ _ e)

theorem State.swapRefused_boundarySide (s : State) (t : Nat) : (s.swapRefused t).boundarySide = s.boundarySide := by
  rw [State.swapRefused, State.raise_boundarySide, State.setNat_boundarySide, State.setNat_boundarySide]

section
variable {s : State} {l : List SwapAsk} {a : SwapAsk} (hcycle : s.cycle = 0) (hstep : s.tx.step = 2) (hasks : s.swapAsks = l ++ [a])
include hcycle hstep hasks

/-- With a request in hand the swap is judged. -/
theorem execSetSwap_refused {t : Nat} (hfails : s.swapBegun.swapFails = some t) :
    execSetSwap s = .next ((s.swapBegun.swapRefused t).settleSwap s.swapAsks s.swapActions (fun i => s.due i == .late) St.RANGE) := by
  have hplace : ¬((s.cycle != 0 || s.tx.step == 0 || decide (3 ≤ s.tx.step)) = true) := by simp [hcycle, hstep]
  have hasked : ¬((s.tx.step == 1 || (s.swapAsks.isEmpty && s.swapActions.isEmpty)) = true) := by simp [hstep, hasks]
  unfold State.swapBegun at hfails
  unfold execSetSwap
  dsimp only
  rw [if_neg hplace, if_neg hasked, hfails]
  rfl

theorem execSetSwap_made (hfails : s.swapBegun.swapFails = none) :
    execSetSwap s = .next ((s.swapBegun.exchange (s.swapActions.flatMap s.feParts)).settleSwap s.swapAsks s.swapActions
      (fun i => s.due i == .late) St.OK) := by
  have hplace : ¬((s.cycle != 0 || s.tx.step == 0 || decide (3 ≤ s.tx.step)) = true) := by simp [hcycle, hstep]
  have hasked : ¬((s.tx.step == 1 || (s.swapAsks.isEmpty && s.swapActions.isEmpty)) = true) := by simp [hstep, hasks]
  unfold State.swapBegun at hfails
  unfold execSetSwap
  dsimp only
  rw [if_neg hplace, if_neg hasked, hfails]
  rfl

end

/-- The answer, the set pointer and the actions of a swap asked for by a client's write (R88, R89). -/
theorem execSetSwap_settles {s : State} {l : List SwapAsk} {h : Held} {k : Nat} (hcycle : s.cycle = 0) (hstep : s.tx.step = 2)
    (hasks : s.swapAsks = l ++ [⟨some h, k⟩]) (hop : h.op = Op.WRITE) :
    let fails := s.swapBegun.swapFails.isSome
    ∃ t, execSetSwap s = .next t ∧ t.repliesWith h (if fails then St.RANGE else St.OK) ∧ t.swapAsks = [] ∧ t.tx.step = 3 ∧
      (if fails then t.actSet = s.actSet ∧ t.shdSet = s.shdSet ∧ t.setPtr = s.setPtr else t.setPtr = !s.setPtr) ∧
      (∀ i ∈ s.swapActions, t.aState i = if fails then Act.FAILED else Act.EXECUTED) := by
  cases hjudged : s.swapBegun.swapFails with
  | some f =>
    have hexec := execSetSwap_refused hcycle hstep hasks hjudged
    have hside : (s.swapBegun.swapRefused f).boundarySide = (s.tests, [], s.setPtr, 3) :=
      (s.swapBegun.swapRefused_boundarySide f).trans s.swapBegun_boundarySide
    have hsets : (s.swapBegun.swapRefused f).actSet = s.actSet ∧ (s.swapBegun.swapRefused f).shdSet = s.shdSet := by
      have hframe := s.swapBegun.swapRefused_frame f [] [] s.ev
      exact ⟨(congrArg State.actSet hframe :), (congrArg State.shdSet hframe :)⟩
    generalize s.swapBegun.swapRefused f = z at hexec hside hsets
    have hact : (z.settleSwap s.swapAsks s.swapActions (fun i => s.due i == .late) St.RANGE).actSet = z.actSet :=
      State.settleSwap_keeps State.actSet (fun _ _ _ _ => rfl) z _ _ _ _ fun y a =>
        (congrArg State.actSet (y.answerSwap_frame a St.RANGE y.tx y.waiting) :)
    have hshd : (z.settleSwap s.swapAsks s.swapActions (fun i => s.due i == .late) St.RANGE).shdSet = z.shdSet :=
      State.settleSwap_keeps State.shdSet (fun _ _ _ _ => rfl) z _ _ _ _ fun y a =>
        (congrArg State.shdSet (y.answerSwap_frame a St.RANGE y.tx y.waiting) :)
    rw [hasks] at hexec hact hshd
    obtain ⟨hreply, hnone, hdone, hptr, hends⟩ := State.settleSwap_settles k s.swapActions (fun i => s.due i == .late) St.RANGE hop hside
    exact ⟨_, hexec, hreply, hnone, hdone, ⟨hact.trans hsets.1, hshd.trans hsets.2, hptr⟩, hends⟩
  | none =>
    have hexec := execSetSwap_made hcycle hstep hasks hjudged
    have hside := s.swapBegun.exchange_boundarySide (s.swapActions.flatMap s.feParts)
    rw [hasks] at hexec
    obtain ⟨hreply, hnone, hdone, hptr, hends⟩ := State.settleSwap_settles k s.swapActions (fun i => s.due i == .late) St.OK hop hside
    exact ⟨_, hexec, hreply, hnone, hdone, hptr, hends⟩

/-! ### The queue of tests -/

theorem execTestExpired_due {s : State} {slot : Fin 32} {q : QTest} (hq : s.tests.find? (fun x => x.slot == slot.val) = some q)
    (hdue : q.since + s.nat Ent.TEST_QUEUE_EXPIRY * 20000 ≤ s.ticks) :
    execTestExpired slot s = .next ((s.setTests (s.tests.filter (fun x => x.slot != slot.val))).raise Evt.TEST_EXPIRED slot.val q.target
      St.CANCELLED) := by
  unfold execTestExpired
  rw [hq]
  exact if_pos hdue

/-- A queued test removed with its event (R23). -/
theorem State.testRemoved (s : State) (l : List QTest) (slot target : Nat) :
    let t := (s.setTests l).raise Evt.TEST_EXPIRED slot target St.CANCELLED
    t.tests = l ∧ t.nat Ent.TEST_QUEUE_DEPTH = t.tests.length ∧ s.raised t Evt.TEST_EXPIRED slot target St.CANCELLED ∧
      s.cellsKept t [Ent.TEST_QUEUE_DEPTH.key] ∧ { t with tests := s.tests, cells := s.cells, ev := s.ev } = s := by
  intro t
  have htests : t.tests = l := State.raiseWith_tests ..
  refine ⟨htests, ?_, ?_, fun key hkey => ?_, ?_⟩
  · rw [htests, State.nat_raise]
    exact State.nat_setNat_same ..
  · exact State.raise_ev_congr (s := s) (t := s.setTests l) rfl rfl rfl rfl ..
  · have hcells : t.cells = (s.setTests l).cells := State.raiseWith_cells ..
    rw [hcells]
    exact State.cellsKept_put (z := { s with tests := l }) (State.cellsKept_of_cells rfl _) _ (List.mem_singleton.2 rfl) key hkey
  · exact congrArg (fun z : State => { z with tests := s.tests, cells := s.cells }) (State.raise_frame _ _ _ _ _ s.ev)

theorem execTestQueueStart_idle {s : State} {slot : Fin 32} {q : QTest} {f : Found}
    (hq : s.tests.find? (fun x => x.slot == slot.val) = some q) (hf : findEntry (q.target / 256) (q.target % 256) = some f)
    (hidle : s.testBusy f = false) :
    execTestQueueStart slot s = .next ((s.setTests (s.tests.filter (fun x => x.slot != slot.val))).startQueued f q) := by
  unfold execTestQueueStart
  rw [hq]
  dsimp only
  rw [hf]
  dsimp only
  rw [hidle]
  rfl

theorem execTestQueueStart_busy {s : State} {slot : Fin 32} {q : QTest} {f : Found}
    (hq : s.tests.find? (fun x => x.slot == slot.val) = some q) (hf : findEntry (q.target / 256) (q.target % 256) = some f)
    (hbusy : s.testBusy f = true) : execTestQueueStart slot s = .next s := by
  unfold execTestQueueStart
  rw [hq]
  dsimp only
  rw [hf]
  exact if_pos hbusy

theorem State.startQueued_tests (s : State) (f : Found) (q : QTest) : (s.startQueued f q).tests = s.tests := by
  have hside := s.startQueued_boundarySide f q
  simp only [State.boundarySide, Prod.mk.injEq] at hside
  exact hside.1

/-- An open test of a measurement channel or of a load channel runs under its queue slot, with nothing more to set up. -/
theorem State.startQueued_openTest (s : State) {f : Found} (q : QTest) (h : f.e = Ent.MCH_OPEN_TEST ∨ f.e = Ent.LC_TEST) :
    s.startQueued f q = s.beginTest q.target (some q.slot) := by
  unfold State.startQueued
  rcases h with h | h <;> rw [h] <;> rfl

/-! ### The tick lines -/

/-- The device moves to the other tick line, with its event (R13). -/
theorem State.changeTickLine_moves (s : State) (d : Nat) :
    (s.changeTickLine d).die.tickB = !s.die.tickB ∧ s.raised (s.changeTickLine d) Evt.TICK_LINE_CHANGE (if s.die.tickB then 0 else 1) d 0 ∧
      { s.changeTickLine d with ev := s.ev, die := { (s.changeTickLine d).die with tickB := s.die.tickB } } = s := by
  have hline : b2n (!s.die.tickB) = if s.die.tickB then 0 else 1 := by cases s.die.tickB <;> rfl
  have hraised : s.raised (s.changeTickLine d) Evt.TICK_LINE_CHANGE (if s.die.tickB then 0 else 1) d 0 := by
    rw [← hline]
    exact State.raise_ev_congr (s := s) (t := { s with die := { s.die with tickB := !s.die.tickB } }) rfl rfl rfl rfl ..
  obtain ⟨e, hlog⟩ : ∃ e, s.changeTickLine d = { s with die := { s.die with tickB := !s.die.tickB }, ev := e } := State.raise_log ..
  refine ⟨?_, hraised, ?_⟩
  · rw [hlog]
  · rw [hlog]

theorem execTickLineChange_off {s : State} {dev : Option Nat} (h : ∀ d, dev = some d → 100 < d) :
    execTickLineChange dev s = .next (s.changeTickLine (dev.getD 0xFFFFFFFF)) := by
  have hoff : dev.getD (2 ^ 32) > 100 := by
    cases dev with
    | none => decide
    | some d => exact h d rfl
  exact if_pos hoff

/-- Settles O11, clause by clause. -/
theorem boundaryActionsAndSwapEnd : Obligations.BoundaryActionsAndSwapEnd := by
  intro s
  refine ⟨fun i hcycle hstep harmed hstate htype hgroup hframe hacting hknown => ⟨?_, fun hstill hsess => ?_⟩,
    fun hcycle hstep hknown hstill hsess => ?_, fun hplace => ?_, fun l h k hcycle hstep hasks hop => ?_, fun hplace => ?_,
    fun slot q hq => ⟨fun hdue => ?_, fun f hf hidle => ?_, fun f hf hbusy => ?_⟩, fun dev hdev => ?_, fun d hd => ?_⟩
  · exact ⟨_, execActionExecution_mark hcycle hstep harmed htype (State.due_local hstate hgroup hframe hacting hknown), s.marked_reads i⟩
  · have hexec := execActionExecution_mark hcycle hstep harmed htype (State.due_local hstate hgroup hframe hacting hknown)
    rw [State.calendarStep_still hstill] at hexec
    have hframe' := (s.atStep 4).endAction_frame i St.OK false s.cells s.writes s.ev
    obtain ⟨-, -, hkept⟩ := (s.atStep 4).endAction_executed i
    generalize (s.atStep 4).endAction i St.OK false = z at hexec hframe' hkept
    have hsess' : z.outlets.sess = [] := (congrArg (fun y : State => y.outlets.sess) hframe').trans hsess
    rw [State.commitEnds_none hsess'] at hexec
    exact ⟨z, hexec, hkept, congrArg (fun y : State => { y with tx := s.tx }) hframe'⟩
  · have hexec := execActionExecution_unknown hcycle hstep hknown
    rw [State.calendarStep_still hstill, State.commitEnds_none (s := s.atStep 4) hsess] at hexec
    exact hexec
  · have hcond : (s.cycle != 0 || s.tx.step != 3) = true := by simpa using hplace
    exact if_pos hcond
  · exact execSetSwap_settles hcycle hstep hasks hop
  · have hcond : (s.cycle != 0 || s.tx.step == 0 || decide (3 ≤ s.tx.step)) = true := by simpa [or_assoc] using hplace
    exact if_pos hcond
  · exact ⟨_, execTestExpired_due hq hdue, s.testRemoved ..⟩
  · refine ⟨_, execTestQueueStart_idle hq hf hidle, State.startQueued_tests .., fun hopen => ?_⟩
    rw [State.startQueued_openTest _ _ hopen]
    exact List.mem_cons_self ..
  · exact execTestQueueStart_busy hq hf hbusy
  · exact ⟨_, execTickLineChange_off hdev, s.changeTickLine_moves _⟩
  · exact if_neg (Nat.not_lt.2 hd)

end Sys2Proof.Machine
end

section
/-!
PROOFS. The step of the machine (O1): the queue's front command, a message due again after a switch-over (R73), or nothing.
-/
namespace Sys2Proof.Machine
open Sys2Proof

/-- Settles O1: the three branches of `step`, by the queue and by the messages due again. -/
theorem stepRunsTheFrontCommand : Obligations.StepRunsTheFrontCommand := by
  intro s
  refine ⟨fun _ _ => rfl, fun m rest hqueue hagain => ?_, fun hqueue hagain => ?_⟩
  · simp only [step, hqueue, hagain]
  · simp only [step, hqueue, hagain]

end Sys2Proof.Machine
end

section
/-!
PROOFS. The record of the control die pair (R58 to R83): what the standing of a die, the loss of its step, a stop counted and a failed
attempt set in it, and what they leave.
-/
namespace Sys2Proof.Machine
open Sys2Proof

/-! ### The standing of a die -/

/-- The pair's record with another standing of a die. -/
def DieSt.stand (y : DieSt) (d : Nat) (x : Standing) : DieSt := if d == 0 then { y with ca := x } else { y with cb := x }

/-- How the pair is linked: MIRROR_SYNC, the lanes, the frame mirrors missed and the mismatches in a row. -/
def DieSt.link (y : DieSt) : Bool × Nat × Nat × Nat := (y.mirrorSync, y.lanes, y.frameMisses, y.diverged)

theorem State.setStanding_eq (s : State) (d : Nat) (x : Standing) : s.setStanding d x = { s with die := s.die.stand d x } := by
  unfold State.setStanding DieSt.stand
  split <;> rfl

theorem DieSt.link_stand (y : DieSt) (d : Nat) (x : Standing) : (y.stand d x).link = y.link := by
  unfold DieSt.stand
  split <;> rfl

theorem DieSt.mirrorSync_stand (y : DieSt) (d : Nat) (x : Standing) : (y.stand d x).mirrorSync = y.mirrorSync :=
  congrArg Prod.fst (y.link_stand d x)

/-- A standing rests on the pair's record alone. -/
theorem State.standing_of_die {s t : State} (h : t.die = s.die) (d : Nat) : t.standing d = s.standing d := by
  rw [State.standing, h, State.standing]

theorem State.standing_setStanding_same (s : State) (d : Nat) (x : Standing) : (s.setStanding d x).standing d = x := by
  unfold State.setStanding State.standing
  split <;> rfl

/-! ### The loss of synchronisation -/

/-- A fault left without a standby changes the pair's record, not the link; with no die gone quiet it changes nothing (R67, R76). -/
theorem State.strand_eq (s : State) :
    ∃ y, s.strand = { s with die := y } ∧ y.link = s.die.link ∧ (s.die.quiet = none → y = s.die) ∧
      (s.die.resync = none → y.resync = none) := by
  unfold State.strand
  split
  next q code cls hquiet _ =>
    rw [State.setStanding_eq]
    exact ⟨_, rfl, DieSt.link_stand .., fun h => absurd (hquiet.symm.trans h) (Option.some_ne_none _), fun _ => rfl⟩
  next => exact ⟨s.die, rfl, rfl, fun _ => rfl, id⟩

/-- The standby leaves its standing with its step (R60). -/
theorem State.leaves_standby (s : State) (d : Nat) :
    ∃ y, (if s.standing d == .standby then s.setStanding d .off else s) = { s with die := y } ∧ y.link = s.die.link ∧
      y.quiet = s.die.quiet ∧ y.unserved = s.die.unserved ∧ y.resync = s.die.resync := by
  split
  · unfold State.setStanding
    split <;> exact ⟨_, rfl, rfl, rfl, rfl, rfl⟩
  · exact ⟨s.die, rfl, rfl, rfl, rfl, rfl⟩

/-- The loss of synchronisation (R60): MIRROR_SYNC falls, nothing is held for a switch-over any more, and the rest of the state stays. -/
theorem State.loseSync_eq (s : State) :
    ∃ y, s.loseSync = { s with die := y, mirror := { s.mirror with applied := [], inbox := [] } } ∧
      y.link = (false, s.die.lanes, s.die.frameMisses, s.die.diverged) ∧ (s.die.quiet = none → y.unserved = s.die.unserved) ∧
      (s.die.resync = none → y.resync = none) := by
  obtain ⟨y, hleave, hlink, hquiet, hunserved, hresync⟩ := State.leaves_standby
    { s with die := { s.die with mirrorSync := false }, mirror := { s.mirror with applied := [], inbox := [] } } (1 - s.activeDie)
  obtain ⟨x, hstrand, hlink', hsame, hnone⟩ := ({ s with die := y, mirror := { s.mirror with applied := [], inbox := [] } } : State).strand_eq
  refine ⟨x, ?_, hlink'.trans hlink, fun h => ?_, fun h => hnone (hresync.trans h)⟩
  · exact (congrArg State.strand hleave).trans hstrand
  · rw [hsame (hquiet.trans h)]
    exact hunserved

/-- An event of a state that differs in the pair's record alone. -/
theorem State.raise_of_die (s : State) (y : DieSt) (k : EvKind) (i p q : Nat) :
    ({ s with die := y } : State).raise k i p q = { s with die := y, ev := (s.raise k i p q).ev } := by
  unfold State.raise State.raiseWith State.record
  split <;> rfl

/-- An event raised where the log and the stamp of a record are those of `s` is the one `s` would raise. -/
theorem State.raised_raise {s z : State} (hev : z.ev = s.ev) (hsfn : z.sfn = s.sfn) (hcycle : z.cycle = s.cycle) (htime : z.time = s.time)
    (k : EvKind) (i p q : Nat) : s.raised (z.raise k i p q) k i p q :=
  State.raise_ev_congr hev hsfn hcycle htime k i p q

/-! ### A stop counted, and a failed attempt -/

/-- A stop counted (R77) changes the stops of the day, whether the die stays failed, and the event log. -/
theorem State.countStop_eq (s : State) (d : Nat) :
    ∃ sa sb ba bb e, s.countStop d = { s with die := { s.die with stopsA := sa, stopsB := sb, blockedA := ba, blockedB := bb }, ev := e } := by
  unfold State.countStop
  dsimp only
  split
  · split <;> exact ⟨_, _, _, _, _, State.raise_of_die s _ _ _ _ _⟩
  · split <;> exact ⟨_, _, _, _, s.ev, rfl⟩

theorem State.failResync_none {s : State} (h : s.die.resync = none) : s.failResync = s := by
  unfold State.failResync
  rw [h]

/-- The pair's record after a failed attempt (R79): tried again after 1 s, and after the third the die is failed for good. -/
def DieSt.failed (y : DieSt) (r : Resync) (ticks : Nat) : DieSt :=
  let y1 := { y with resync := none, resyncFails := r.attempt }
  if 3 ≤ r.attempt then
    (if r.die == 0 then { y1.stand r.die .failed with blockedA := true } else { y1.stand r.die .failed with blockedB := true })
  else { y1 with resyncRetry := some (r.die, ticks + secTicks 1) }

theorem DieSt.link_failed (y : DieSt) (r : Resync) (ticks : Nat) : (y.failed r ticks).link = y.link := by
  unfold DieSt.failed DieSt.stand
  split
  · split <;> rfl
  · rfl

theorem State.failResync_attempt {s : State} {r : Resync} (hr : s.die.resync = some r) (hmain : s.preparingMain = false) :
    s.failResync = { s with die := s.die.failed r s.ticks, ev := (s.raise Evt.RESYNC_FAILED r.die r.phase r.attempt).ev } := by
  unfold State.failResync DieSt.failed DieSt.stand State.setStanding
  simp only [hr, hmain, Bool.false_eq_true, if_false, State.raise_of_die, ge_iff_le]
  split
  · split <;> rfl
  · rfl

theorem State.failResync_preparing {s : State} {r : Resync} (hr : s.die.resync = some r) (hmain : s.preparingMain = true) :
    s.failResync =
      { s with die := { s.die with resync := none }, fw := { s.fw with main := s.fw.main.map (fun p => { p with failed := true }) } } := by
  unfold State.failResync
  simp only [hr, hmain, if_true]

/-- A failed attempt leaves the link of the pair. -/
theorem State.failResync_link (s : State) : s.failResync.die.link = s.die.link := by
  cases hr : s.die.resync with
  | none => rw [State.failResync_none hr]
  | some r =>
    cases hmain : s.preparingMain with
    | false => rw [State.failResync_attempt hr hmain]; exact DieSt.link_failed ..
    | true => rw [State.failResync_preparing hr hmain]; rfl

end Sys2Proof.Machine
end

section
/-!
PROOFS. A failed die restarts and is brought back to a synchronised standby (O15): restart, attempts, phases and the client's request
(R77 to R79).
-/
namespace Sys2Proof.Machine
open Sys2Proof

/-! ### Restart and phases -/

/-- A die that restarts is starting and has not booted; the other keeps its standing (R77). -/
theorem execDieRestart_failed {s : State} {die : Fin 2} (hfailed : s.standing die.val = .failed) (hfree : s.blocked die.val = false) :
    execDieRestart die s = .next ((s.setStanding die.val .off).unboot die.val) := by
  simp [execDieRestart, hfailed, hfree, ok]

theorem State.restarted (s : State) (die : Fin 2) :
    let t := (s.setStanding die.val .off).unboot die.val
    t.standing die.val = .off ∧ t.booted die.val = false ∧ t.standing (1 - die.val) = s.standing (1 - die.val) ∧
      { t with die := { t.die with ca := s.die.ca, cb := s.die.cb, bootA := s.die.bootA, bootB := s.die.bootB } } = s := by
  match die with
  | 0 => exact ⟨rfl, rfl, rfl, rfl⟩
  | 1 => exact ⟨rfl, rfl, rfl, rfl⟩

/-- An attempt begins (R78): its phase 0 now, its number after the failures before, and its event. -/
theorem State.startResync_eq (s : State) (d : Nat) :
    s.startResync d =
      { s with die := { s.die with resync := some ⟨d, 0, s.ticks, s.ticks, s.die.resyncFails + 1⟩, resyncRetry := none },
               ev := (s.raise Evt.RESYNC_START d (s.die.resyncFails + 1) s.lanesUp).ev } :=
  State.raise_of_die s _ _ _ _ _

theorem execResyncStart_ready {s : State} {die : Fin 2} (hoff : s.standing die.val = .off) (hother : s.standing (1 - die.val) = .active)
    (hnone : s.die.resync = none) (hlanes : s.die.lanes ≠ 0) (hfree : s.blocked die.val = false) (hboot : s.booted die.val = true)
    (himage : s.imageFits die.val = true) (hretry : ∀ r, s.die.resyncRetry = some r → r.2 ≤ s.ticks)
    (hawake : s.nat Ent.DEVICE_STATE ≠ Dev.SLEEP) : execResyncStart die s = .next (s.startResync die.val) := by
  cases hr : s.die.resyncRetry with
  | none => simp [execResyncStart, hoff, hother, hnone, hlanes, hfree, hboot, himage, hr, hawake, ok]
  | some r => simp [execResyncStart, hoff, hother, hnone, hlanes, hfree, hboot, himage, hr, hretry r hr, hawake, ok]

theorem execResyncRetry_due {s : State} {d b : Nat} (hretry : s.die.resyncRetry = some (d, b)) (hdue : b ≤ s.ticks)
    (hnone : s.die.resync = none) (hoff : s.standing d = .off) (hother : s.standing (1 - d) = .active) (hlanes : s.die.lanes ≠ 0) :
    execResyncRetry s = .next (s.startResync d) := by
  simp [execResyncRetry, hretry, hdue, hnone, hoff, hother, hlanes, ok]

theorem execResyncPhaseDone_next {s : State} {r : Resync} (hr : s.die.resync = some r) (hphase : r.phase < 3) :
    execResyncPhaseDone s =
      .next { s with die := { s.die with resync := some { r with phase := r.phase + 1, phaseStart := s.ticks } } } := by
  have hnot : ¬ 3 ≤ r.phase := Nat.not_le.2 hphase
  simp [execResyncPhaseDone, hr, hphase, hnot, ok]

/-- The pair's record once an attempt's check phase is done (R78). -/
def DieSt.resynced (y : DieSt) (d : Nat) : DieSt :=
  { y.stand d .standby with resync := none, resyncFails := 0, mirrorSync := true, frameMisses := 0, diverged := 0 }

/-- The standby in step: it holds the frame state whole, and its event is raised. -/
theorem execResyncPhaseDone_last {s : State} {r : Resync} (hr : s.die.resync = some r) (hphase : 3 ≤ r.phase)
    (hmain : s.preparingMain = false) :
    execResyncPhaseDone s = .next
      ((({ s with die := s.die.resynced r.die } : State).holdFrame.consume).raise Evt.RESYNC_DONE r.die ((s.ticks - r.started) / 20)
        r.attempt) := by
  have hnot : ¬ r.phase < 3 := Nat.not_lt.2 hphase
  simp only [execResyncPhaseDone, hr, hmain, hnot, Bool.and_false, Bool.false_eq_true, if_false, State.setStanding_eq, ok,
    DieSt.resynced]

/-- The check phase done: the die is standby and in step (R78). -/
theorem State.resynced (s : State) (r : Resync) (p : Nat) :
    let t := (({ s with die := s.die.resynced r.die } : State).holdFrame.consume).raise Evt.RESYNC_DONE r.die p r.attempt
    t.standing r.die = .standby ∧ t.die.mirrorSync = true ∧ t.die.resync = none ∧ s.raised t Evt.RESYNC_DONE r.die p r.attempt ∧
      { t with ev := s.ev, die := s.die, mirror := s.mirror } = s := by
  intro t
  have hdie : t.die = s.die.resynced r.die := State.raiseWith_die ..
  refine ⟨?_, by rw [hdie]; rfl, by rw [hdie]; rfl, State.raised_raise (by rfl) (by rfl) (by rfl) (by rfl) .., ?_⟩
  · rw [State.standing, hdie]
    unfold DieSt.resynced DieSt.stand
    split <;> rfl
  · exact congrArg (fun y : State => { y with die := s.die, mirror := s.mirror }) (State.raise_frame _ _ _ _ _ s.ev)

/-! ### A failed attempt, and the client's request -/

theorem DieSt.failed_resync (y : DieSt) (r : Resync) (k : Nat) : (y.failed r k).resync = none := by
  unfold DieSt.failed DieSt.stand
  dsimp only
  split
  · split <;> rfl
  · rfl

/-- A failed attempt but the third is tried again after 1 s; the third leaves the die failed (R79). -/
theorem State.failed_next (s : State) (r : Resync) :
    if r.attempt < 3 then (s.die.failed r s.ticks).resyncRetry = some (r.die, s.ticks + 20000)
    else ({ s with die := s.die.failed r s.ticks } : State).standing r.die = .failed := by
  split
  next hagain => rw [DieSt.failed, if_neg (Nat.not_le.2 hagain)]; rfl
  next hlast =>
    rw [State.standing, DieSt.failed, if_pos (Nat.not_lt.1 hlast)]
    unfold DieSt.stand
    split <;> rfl

theorem applyResyncRequest_synced {s : State} (h : s.die.mirrorSync = true) : applyResyncRequest 1 s = (s, St.ALREADY_DONE) := by
  simp [applyResyncRequest, h]

/-- The pair's record once a client has asked that the failed dies start (R77, Table 3-6). -/
theorem applyResyncRequest_failed {s : State} (hsync : s.die.mirrorSync = false) (hfailed : s.die.ca = .failed) :
    ∃ y, applyResyncRequest 1 s = ({ s with die := y }, St.OK) ∧ y.ca = .off ∧ y.stopsA = [] ∧ y.blockedA = false := by
  simp only [applyResyncRequest, hsync, hfailed, beq_self_eq_true, if_true, Bool.false_eq_true, if_false]
  rw [if_neg (by decide)]
  split <;> exact ⟨_, rfl, rfl, rfl, rfl⟩

/-- Settles O15: each command in its place, and the client's request on the state with its tag taken. -/
theorem resynchronisationRunsItsPhases : Obligations.ResynchronisationRunsItsPhases := by
  intro s
  refine ⟨fun die hfailed hfree => ?_, fun die hoff hother hnone hlanes hfree hboot himage hretry hawake => ?_,
    fun r hr hphase => execResyncPhaseDone_next hr hphase, fun r hr hphase hmain => ?_, fun r hr => ⟨fun hmain => ?_, fun hmain => ?_⟩,
    fun d b hretry hdue hnone hoff hother hlanes => ?_, fun c h ha => ?_⟩
  · exact ⟨_, execDieRestart_failed hfailed hfree, s.restarted die⟩
  · have hexec := execResyncStart_ready hoff hother hnone hlanes hfree hboot himage hretry hawake
    rw [State.startResync_eq] at hexec
    exact ⟨_, hexec, rfl, rfl, rfl⟩
  · exact ⟨_, execResyncPhaseDone_last hr hphase hmain, s.resynced r _⟩
  · have hexec : exec .resyncFailed s = .next _ := congrArg Host.Outcome.next (State.failResync_attempt hr hmain)
    exact ⟨_, hexec, DieSt.failed_resync .., rfl, s.failed_next r, rfl⟩
  · have hexec : exec .resyncFailed s = .next _ := congrArg Host.Outcome.next (State.failResync_preparing hr hmain)
    exact ⟨_, hexec, rfl, rfl, rfl⟩
  · have hexec := execResyncRetry_due hretry hdue hnone hoff hother hlanes
    rw [State.startResync_eq] at hexec
    exact ⟨_, hexec, rfl, rfl, rfl⟩
  · obtain ⟨z, hz⟩ : ∃ z, z = s.taken h := ⟨_, rfl⟩
    have hrest : { z with tx := s.tx, cells := s.cells, mirror := s.mirror } = s := by rw [hz, s.taken_frame h]
    have hdie : z.die = s.die := (congrArg State.die hrest :)
    refine ⟨fun hsync hfailed => ?_, fun hsync => ?_⟩
    · rw [← hdie] at hsync hfailed
      obtain ⟨y, hact, hstands, hstops, hblocked⟩ := applyResyncRequest_failed hsync hfailed
      exact ⟨_, congrArg Host.Outcome.next (State.clientCommand_effect ha hz hact), hstands, hstops, hblocked,
        State.answerLater_repliesWith .., congrArg (fun x : State => { x with waiting := s.waiting, die := s.die }) hrest⟩
    · rw [← hdie] at hsync
      exact ⟨_, congrArg Host.Outcome.next (State.clientCommand_effect ha hz (applyResyncRequest_synced hsync)), hdie,
        State.answerLater_repliesWith ..⟩

end Sys2Proof.Machine
end

section
/-!
PROOFS. Switch-over planned by a client (O14): the swap set for the next boundary, made there or abandoned (R71, R74), and what every
switch-over records.
-/
namespace Sys2Proof.Machine
open Sys2Proof

/-! ### Reads after a count, and the records of a switch-over -/

/-- A counter leaves every entry with another key. -/
theorem State.val_bump_ne (s : State) {e f : Entry} {n j m i : Nat} (k : Nat) (h : f.key m i ≠ e.key n j) :
    (s.bump e n j k).val f m i = s.val f m i := by
  unfold State.bump
  dsimp only
  split
  · exact State.val_put_ne _ _ _ _ _ _ _ _ h
  · exact State.val_put_ne s.takeFree.2 _ _ _ _ _ _ _ h

@[simp] theorem State.eachSession_die (s : State) (f : Sess → Sess) : (s.eachSession f).die = s.die := rfl
@[simp] theorem State.eachSession_pw (s : State) (f : Sess → Sess) : (s.eachSession f).pw = s.pw := rfl
@[simp] theorem State.noteSwitch_die (s : State) (w : Switch) : (s.noteSwitch w).die = s.die := by simp [State.noteSwitch]
@[simp] theorem State.noteSwitch_pw (s : State) (w : Switch) : (s.noteSwitch w).pw = s.pw := by simp [State.noteSwitch]
@[simp] theorem State.showDies_die (s : State) : s.showDies.die = s.die := by simp [State.showDies]
@[simp] theorem State.showDies_pw (s : State) : s.showDies.pw = s.pw := by simp [State.showDies]

/-- Showing the dies' standings writes DIE_STATUS alone. -/
theorem State.val_showDies (s : State) {e : Entry} {n j : Nat} (h : e.key n j ≠ Ent.DIE_STATUS.key) : s.showDies.val e n j = s.val e n j :=
  State.val_put_ne _ _ _ _ _ _ _ _ h

/-- Every switch-over records the new active die and LAST_SWITCHOVER (R71). -/
theorem State.noteSwitch_records (s : State) (w : Switch) :
    (s.noteSwitch w).showDies.nat Ent.ACTIVE_CONTROL_DIE = w.toDie ∧
      (s.noteSwitch w).showDies.bytes Ent.LAST_SWITCHOVER = switchRecord w := by
  constructor
  · rw [State.nat_def, State.val_showDies _ (by decide), State.noteSwitch, State.raise_eq, State.val_raiseWith, State.setBytes_eq,
      State.val_put_ne _ _ _ _ _ _ _ _ (by decide), State.val_bump_ne _ _ (by decide), State.setNat_eq, State.val_put_same]
    rfl
  · rw [State.bytes_def, State.val_showDies _ (by decide), State.noteSwitch, State.raise_eq, State.val_raiseWith, State.setBytes_eq,
      State.val_put_same]
    rfl

/-! ### The request and its boundary -/

theorem applySwapRequest_synced {s : State} (h : s.die.mirrorSync = true) :
    applySwapRequest 1 s = ({ s with die := { s.die with swapAt := some (s.frames + 1) } }, St.OK) := by
  simp [applySwapRequest, h]

theorem applySwapRequest_unsynced {s : State} (h : s.die.mirrorSync = false) : applySwapRequest 1 s = (s, St.CONFLICT) := by
  simp [applySwapRequest, h]

/-- The pair's record, and the power die's, as a planned switch-over leaves them (R74, R75). -/
def State.swapped (s : State) : DieSt :=
  { (s.die.stand s.activeDie .standby).stand (1 - s.activeDie) .active with switchFrame := some s.sfn }

theorem State.plannedSwitch_die (s : State) : s.plannedSwitch.die = s.swapped := by
  simp only [State.plannedSwitch, State.showDies_die, State.noteSwitch_die, State.setStanding_eq]
  rfl

theorem State.plannedSwitch_pw (s : State) :
    s.plannedSwitch.pw.active = 1 - s.activeDie ∧
      (if s.activeDie = 0 then s.plannedSwitch.pw.yieldA else s.plannedSwitch.pw.yieldB) = some (0, s.ticks) := by
  simp only [State.plannedSwitch, State.showDies_pw, State.noteSwitch_pw, beq_iff_eq]
  refine ⟨trivial, ?_⟩
  split <;> rfl

/-- The planned switch-over exchanges the dies' standings and keeps them in step. -/
theorem State.swapped_stands {s t : State} (hdie : t.die = s.swapped) (hpair : s.activeDie ≤ 1) :
    t.standing (1 - s.activeDie) = .active ∧ t.standing s.activeDie = .standby ∧ t.die.swapAt = s.die.swapAt ∧
      t.die.mirrorSync = s.die.mirrorSync := by
  unfold State.standing
  rw [hdie, State.swapped]
  obtain h | h := Nat.le_one_iff_eq_zero_or_eq_one.1 hpair <;> rw [h] <;> exact ⟨rfl, rfl, rfl, rfl⟩

/-- The pair's record once the boundary of the swap has come. -/
def DieSt.swapDue (y : DieSt) : DieSt := { y with swapAt := none }

theorem execPlannedSwitchOver_made {s : State} {f : Nat} (hswap : s.die.swapAt = some f) (hcycle : s.cycle = 0) (hdue : f ≤ s.frames)
    (hsync : s.die.mirrorSync = true) : execPlannedSwitchOver s = .next ({ s with die := s.die.swapDue } : State).plannedSwitch := by
  simp [execPlannedSwitchOver, hswap, hcycle, Nat.not_lt.2 hdue, hsync, ok, DieSt.swapDue]

theorem execPlannedSwitchOver_abandoned {s : State} {f : Nat} (hswap : s.die.swapAt = some f) (hcycle : s.cycle = 0) (hdue : f ≤ s.frames)
    (hsync : s.die.mirrorSync = false) :
    execPlannedSwitchOver s =
      .next { s with die := s.die.swapDue, ev := (s.raise Evt.SWAP_ABANDONED s.activeDie (low 32 s.sfn) 0).ev } := by
  rw [← State.raise_of_die]
  simp [execPlannedSwitchOver, hswap, hcycle, Nat.not_lt.2 hdue, hsync, ok, DieSt.swapDue]

theorem execPlannedSwitchOver_early {s : State} {f : Nat} (hswap : s.die.swapAt = some f) (h : s.frames < f) :
    execPlannedSwitchOver s = .next s := by
  simp [execPlannedSwitchOver, hswap, h, ok]

/-- Settles O14: the request on the state with its tag taken, and the boundary with and without a synchronised standby. -/
theorem plannedSwitchOverSwapsTheDies : Obligations.PlannedSwitchOverSwapsTheDies := by
  intro s
  refine ⟨fun c h ha => ?_, fun f hswap hcycle hdue => ?_, fun f hswap hearly => execPlannedSwitchOver_early hswap hearly⟩
  · obtain ⟨z, hz⟩ : ∃ z, z = s.taken h := ⟨_, rfl⟩
    have hrest : { z with tx := s.tx, cells := s.cells, mirror := s.mirror } = s := by rw [hz, s.taken_frame h]
    have hdie : z.die = s.die := (congrArg State.die hrest :)
    have hframes : z.frames = s.frames := (congrArg State.frames hrest :)
    refine ⟨fun hsync => ?_, fun hsync => ?_⟩ <;> rw [← hdie] at hsync
    · exact ⟨_, congrArg Host.Outcome.next (State.clientCommand_effect ha hz (applySwapRequest_synced hsync)), by rw [← hframes]; rfl,
        State.answerLater_repliesWith .., congrArg (fun x : State => { x with waiting := s.waiting, die := { x.die with swapAt := s.die.swapAt } }) hrest⟩
    · exact ⟨_, congrArg Host.Outcome.next (State.clientCommand_effect ha hz (applySwapRequest_unsynced hsync)), hdie,
        State.answerLater_repliesWith .., congrArg (fun x : State => { x with waiting := s.waiting }) hrest⟩
  · refine ⟨fun hsync hpair => ?_, fun hsync => ?_⟩
    · obtain ⟨hactive, hyield⟩ := State.plannedSwitch_pw { s with die := s.die.swapDue }
      obtain ⟨hnew, hold, hswapped, hkept⟩ := State.swapped_stands (State.plannedSwitch_die { s with die := s.die.swapDue }) hpair
      exact ⟨_, execPlannedSwitchOver_made hswap hcycle hdue hsync, (State.noteSwitch_records ..).1, hactive, hyield, hnew, hold, hswapped,
        hkept.trans hsync⟩
    · exact ⟨_, execPlannedSwitchOver_abandoned hswap hcycle hdue hsync, rfl, rfl, rfl⟩

end Sys2Proof.Machine
end

section
/-!
PROOFS. Mirroring (O12): the cycle mirror and its comparison, the frame mirror and what it releases, mirrors missed and lanes lost
(R61 to R65, R73).
-/
namespace Sys2Proof.Machine
open Sys2Proof

/-! ### Counting and raising, field by field -/

/-- A count of the device's own changes the own values, what is stored and the free values used. -/
theorem State.bump_eq {e : Entry} (he : e.inSets = false) (s : State) (n j k : Nat) :
    ∃ c w f, s.bump e n j k = { s with cells := c, writes := w, free := f } := by
  unfold State.bump State.takeFree State.setNat State.put
  rw [he]
  dsimp only
  split <;> exact ⟨_, _, _, rfl⟩

/-- An event changes the log, to what the log becomes. -/
theorem State.raise_eq_ev (s : State) (k : EvKind) (i p q : Nat) : s.raise k i p q = { s with ev := (s.raise k i p q).ev } :=
  s.raise_frame k i p q (s.raise k i p q).ev

/-- An event of a state with the log and the stamp of `s`. -/
theorem State.raise_eq_of_stamp {s z : State} (hev : z.ev = s.ev) (hsfn : z.sfn = s.sfn) (hcycle : z.cycle = s.cycle)
    (htime : z.time = s.time) (k : EvKind) (i p q : Nat) : z.raise k i p q = { z with ev := (s.raise k i p q).ev } := by
  rw [← State.raise_ev_congr hev hsfn hcycle htime]
  exact z.raise_eq_ev k i p q

/-! ### The cycle mirror -/

/-- The standby holds the cycle state, and its acknowledgement has gone out (R61). -/
def State.acked (s : State) : State :=
  { s.holdCycle with out := s.out ++ [⟨.siphon, s.activeDie, .mirrorAck, [(s.sfn : Int), s.cycle], []⟩] }

/-- The standby's own command packet against the mirrored one (R64): `d` is the first word that differs. -/
def State.compared (s : State) (d : Option Nat) (selfTest : Bool) : State :=
  match d with
  | none => { s with die := { s.die with diverged := 0 } }
  | some w => s.diverge w selfTest

section Mirrored
variable {s : State} (hsync : s.die.mirrorSync = true) (hspeaks : s.isQuiet s.activeDie = false)
  (hphase : s.die.resync.map Resync.phase ≠ some 3)
include hsync hspeaks hphase

/-- A checked mirror is acknowledged and held, and on two lanes, beside a standby that runs the same image, compared (R61, R64). -/
theorem execCycleMirror_checked (hlanes : s.die.lanes = 3) (htrial : s.fw.trial = none) (hmain : s.fw.main.map Prep.done ≠ some true)
    (d : Option Nat) (x : Bool) : execCycleMirror true true d x s = .next (s.acked.compared d x) := by
  have hsame : (s.fw.trial.isSome || (s.fw.main.map Prep.done) == some true || s.die.lanes != 3) = false := by
    simp [hlanes, htrial, hmain]
  unfold execCycleMirror
  dsimp only
  rw [if_neg (by simp [hspeaks]), if_neg (by simpa using hphase), if_neg (by simp [hsync]), if_neg (by decide), hsame]
  cases d <;> rfl

/-- On two lanes a digest that differs changes nothing; on one it ends the standby's step (R65). -/
theorem execCycleMirror_badDigest (d : Option Nat) (x : Bool) :
    execCycleMirror true false d x s = .next (if s.die.lanes = 3 then s else s.loseSync) := by
  simp [execCycleMirror, hsync, hspeaks, hphase, ok]

end Mirrored

theorem execCycleMirror_unheard {s : State} {crc : Bool} (h : crc = false ∨ s.isQuiet s.activeDie = true) (g : Bool) (d : Option Nat)
    (x : Bool) : execCycleMirror crc g d x s = .next s := by
  rcases h with h | h <;> simp [execCycleMirror, h, ok]

/-- A mismatch counted (R64). -/
def State.mismatched (s : State) (run : Nat) : State :=
  ({ s with die := { s.die with diverged := run } } : State).setNat Ent.DIVERGENCE_COUNT 0 (s.nat Ent.DIVERGENCE_COUNT + 1)

theorem State.mismatched_count (s : State) (run : Nat) : (s.mismatched run).nat Ent.DIVERGENCE_COUNT = s.nat Ent.DIVERGENCE_COUNT + 1 :=
  State.nat_setNat_same ..

section Diverged
variable {s : State} (hfit : s.nat Ent.DIVERGENCE_COUNT + 1 < 2 ^ 32)
include hfit

theorem State.bump_divergence (run : Nat) :
    ({ s with die := { s.die with diverged := run } } : State).bump Ent.DIVERGENCE_COUNT = s.mismatched run :=
  State.bump_of_fits hfit

theorem State.diverge_few (w : Nat) (x : Bool) (h : s.die.diverged < 2) : s.diverge w x = s.mismatched (s.die.diverged + 1) := by
  have hrun : s.die.diverged + 1 < 3 := by omega
  simp only [State.diverge, State.bump_divergence hfit, hrun, if_true]

theorem State.diverge_third (w : Nat) (x : Bool) (h : 2 ≤ s.die.diverged) :
    s.diverge w x =
      if x = true then (s.mismatched 0).raise Evt.STANDBY_DIVERGENCE (1 - s.activeDie) (s.die.diverged + 1) w
      else (s.mismatched 0).loseSync.setStanding (1 - s.activeDie) .failed := by
  have hrun : ¬ s.die.diverged + 1 < 3 := by omega
  simp only [State.diverge, State.bump_divergence hfit, hrun, if_false]
  rfl

end Diverged

/-- A standby whose self-test fails is held failed and out of step; the count and the cycle state it held stay (R64). -/
theorem State.selfTest_failed (s : State) :
    let t := (s.mismatched 0).loseSync.setStanding (1 - s.activeDie) .failed
    t.nat Ent.DIVERGENCE_COUNT = s.nat Ent.DIVERGENCE_COUNT + 1 ∧ t.mirror.cycle = s.mirror.cycle ∧ t.die.diverged = 0 ∧
      t.die.mirrorSync = false ∧ t.standing (1 - s.activeDie) = .failed := by
  intro t
  obtain ⟨y, hlose, hlink, -, -⟩ := (s.mismatched 0).loseSync_eq
  have hlink' := (DieSt.link_stand y (1 - s.activeDie) .failed).trans hlink
  have ht : t = _ := (congrArg (fun z : State => z.setStanding (1 - s.activeDie) .failed) hlose).trans (State.setStanding_eq ..)
  simp only [DieSt.link, Prod.mk.injEq] at hlink'
  obtain ⟨hsync, -, -, hrun⟩ := hlink'
  refine ⟨?_, ?_, ?_, ?_, State.standing_setStanding_same ..⟩
  · rw [ht]; exact s.mismatched_count 0
  · rw [ht]; rfl
  · rw [ht]; exact hrun
  · rw [ht]; exact hsync

/-! ### Mirrors missed, and lanes -/

/-- Two failed frame mirrors in a row, or no lane: MIRROR_SYNC falls. -/
theorem State.loseSync_link (s : State) : s.loseSync.die.link = (false, s.die.lanes, s.die.frameMisses, s.die.diverged) := by
  obtain ⟨y, hlose, hlink, -, -⟩ := s.loseSync_eq
  rw [hlose]
  exact hlink

theorem State.loseSync_mirrorSync (s : State) : s.loseSync.die.mirrorSync = false := congrArg Prod.fst s.loseSync_link

/-- A miss of a mirror, counted and reported (R63). -/
def State.missReported (s : State) (frame : Nat) : State :=
  (s.bump Ent.MIRROR_MISS_COUNT).raise Evt.MIRROR_MISS (1 - s.activeDie) frame s.cycle

/-- A miss of the frame mirror: counted in its row, the blocks sent again (R63). -/
def State.frameMissed (s : State) : State :=
  { s.missReported 1 with
    die := { s.die with frameMisses := s.die.frameMisses + 1 }, mirror := { s.mirror with resend := true } }

theorem State.missReported_die (s : State) (frame : Nat) : (s.missReported frame).die = s.die := by
  simp [State.missReported]

theorem State.missReported_mirror (s : State) (frame : Nat) : (s.missReported frame).mirror = s.mirror := by
  simp [State.missReported]

theorem execMirrorMiss_frame (s : State) :
    execMirrorMiss true s = .next (if 1 ≤ s.die.frameMisses then s.frameMissed.loseSync else s.frameMissed) := by
  have hiff : s.die.frameMisses + 1 ≥ 2 ↔ 1 ≤ s.die.frameMisses := by omega
  have hframe : s.frameMissed = { s.missReported 1 with
      die := { (s.missReported 1).die with frameMisses := s.die.frameMisses + 1 }
      mirror := { (s.missReported 1).mirror with resend := true } } := by
    rw [State.missReported_die, State.missReported_mirror]; rfl
  rw [hframe]
  simp only [execMirrorMiss, hiff, if_true, ok]
  split <;> rfl

/-- A miss of a cycle mirror where its count fits: counted and reported, and the standby goes on with its own cycle state (R63). -/
theorem execMirrorMiss_cycle {s : State} (hfit : s.nat Ent.MIRROR_MISS_COUNT + 1 < 2 ^ 32) :
    ∃ m, execMirrorMiss false s = .next
      { (s.setNat Ent.MIRROR_MISS_COUNT 0 (s.nat Ent.MIRROR_MISS_COUNT + 1)) with
        ev := (s.raise Evt.MIRROR_MISS (1 - s.activeDie) 0 s.cycle).ev, die := { s.die with mirrorMissed := true }, mirror := m } := by
  have hreport : s.missReported 0 = { (s.setNat Ent.MIRROR_MISS_COUNT 0 (s.nat Ent.MIRROR_MISS_COUNT + 1)) with
      ev := (s.raise Evt.MIRROR_MISS (1 - s.activeDie) 0 s.cycle).ev } := by
    rw [State.missReported, State.bump_of_fits hfit]
    exact State.raise_eq_of_stamp (by rfl) (by rfl) (by rfl) (by rfl) ..
  have hexec : execMirrorMiss false s =
      .next (({ (s.missReported 0) with die := { (s.missReported 0).die with mirrorMissed := true } } : State).when
        (s.missReported 0).die.mirrorSync State.holdCycle) := rfl
  rw [hexec, hreport]
  unfold State.when
  split <;> exact ⟨_, rfl⟩

/-! ### What the frame mirror releases -/

/-- Drops that are reported move the streams and the event log (R459). -/
theorem State.reportDrops_eq (s : State) (k : Nat) : ∃ x e, s.reportDrops k = { s with stream := x, ev := e } := by
  unfold State.reportDrops
  extract_lets q due
  split
  · exact ⟨_, _, State.raise_eq_ev ..⟩
  · exact ⟨_, _, rfl⟩

/-- A record of a stream moves the streams, their counters and the event log (R459). -/
theorem State.streamRecord_eq (s : State) (k : Nat) (r : List Byte) :
    ∃ x c w e f, s.streamRecord k r = { s with stream := x, cells := c, writes := w, ev := e, free := f } := by
  unfold State.streamRecord
  dsimp only
  split
  · exact ⟨_, _, _, _, _, rfl⟩
  split
  · exact ⟨_, _, _, _, _, rfl⟩
  split
  · exact ⟨_, _, _, _, _, rfl⟩
  · obtain ⟨c, w, f, hbump⟩ := State.bump_eq (e := Ent.STREAM_DROPPED) rfl s 0 (k - 1) 1
    obtain ⟨x, e, hreport⟩ := State.reportDrops_eq (({ s with cells := c, writes := w, free := f } : State).setStrm k
      { s.strm k with gap := true, drops := (s.strm k).drops + 1 }) k
    rw [hbump, hreport]
    exact ⟨_, _, _, _, _, rfl⟩

/-- A held message on its way: a record enters its stream, a bus message waits for a window, any other leaves (R73, Table 6-3). -/
def State.letOut (s : State) (m : Msg) : State :=
  if m.port == .stream then s.streamRecord m.dest m.body
  else if m.port == .can then { s with bus := { s.bus with queue := s.bus.queue ++ [(s.frames, m)] } } else s.send m

/-- One held message released: an answer gives its tag back as well. -/
def State.releaseOne (s : State) (m : Msg) : State :=
  match m.kind, m.args with
  | .answer, _ :: _ :: _ :: _ :: _ :: tag :: _ => (s.letOut m).dropTag tag.toNat
  | _, _ => s.letOut m

theorem State.release_eq (s : State) : s.release = ({ s with waiting := [] } : State).each s.waiting State.releaseOne := rfl

/-- What no tag released changes is read as after the message has been let out. -/
theorem State.releaseOne_reads {β : Type} (g : State → β) (hg : ∀ (z : State) a, g (z.dropTag a) = g z) (s : State) (m : Msg) :
    g (s.releaseOne m) = g (s.letOut m) := by
  unfold State.releaseOne
  split
  · exact hg ..
  · rfl

/-- What a release leaves alone. -/
def State.releaseKept (s : State) : DieSt × MirrorSt × List Msg := (s.die, s.mirror, s.waiting)

theorem State.letOut_kept (s : State) (m : Msg) : (s.letOut m).releaseKept = s.releaseKept := by
  unfold State.letOut
  split
  · obtain ⟨x, c, w, e, f, hrecord⟩ := s.streamRecord_eq m.dest m.body
    rw [hrecord]; rfl
  · split <;> rfl

theorem State.release_kept (s : State) : s.release.releaseKept = (s.die, s.mirror, []) := by
  rw [State.release_eq]
  exact State.each_keeps _ _ _ State.releaseKept fun z m =>
    (State.releaseOne_reads State.releaseKept (fun y a => by simp [State.releaseKept]) z m).trans (z.letOut_kept m)

/-- What has been sent, and what waits for the bus, stays so while more is let out. -/
theorem State.letOut_out_subset (s : State) (m : Msg) : s.out ⊆ (s.letOut m).out := by
  unfold State.letOut
  split
  · obtain ⟨x, c, w, e, f, hrecord⟩ := s.streamRecord_eq m.dest m.body
    rw [hrecord]; exact List.Subset.refl _
  · split
    · exact List.Subset.refl _
    · exact List.subset_append_left ..

theorem State.letOut_queue_subset (s : State) (m : Msg) : s.bus.queue ⊆ (s.letOut m).bus.queue := by
  unfold State.letOut
  split
  · obtain ⟨x, c, w, e, f, hrecord⟩ := s.streamRecord_eq m.dest m.body
    rw [hrecord]; exact List.Subset.refl _
  · split
    · exact List.subset_append_left ..
    · exact List.Subset.refl _

/-- A held message that is neither a record nor for the bus has left after the release. -/
theorem State.release_sends (s : State) {m : Msg} (hm : m ∈ s.waiting) (hcan : m.port ≠ .can) (hstream : m.port ≠ .stream) :
    m ∈ s.release.out := by
  have hreads := State.releaseOne_reads State.out (fun y a => State.dropTag_out y a)
  rw [State.release_eq]
  refine State.each_reaches (fun z => m ∈ z.out) (fun _ => True) hm trivial (fun _ _ _ => trivial) (fun z b hz => ?_) (fun z _ => ?_)
  · rw [hreads]
    exact z.letOut_out_subset b hz
  · rw [hreads, State.letOut, if_neg (by simpa using hstream), if_neg (by simpa using hcan)]
    exact List.mem_append_right _ (List.mem_singleton.2 rfl)

/-- A held message for the module bus waits for its window after the release. -/
theorem State.release_queues (s : State) {m : Msg} (hm : m ∈ s.waiting) (hcan : m.port = .can) : ∃ f, (f, m) ∈ s.release.bus.queue := by
  have hreads := State.releaseOne_reads State.bus (fun y a => State.dropTag_bus y a)
  rw [State.release_eq]
  refine State.each_reaches (fun z => ∃ f, (f, m) ∈ z.bus.queue) (fun _ => True) hm trivial (fun _ _ _ => trivial) (fun z b hz => ?_)
    (fun z _ => ⟨z.frames, ?_⟩)
  · obtain ⟨f, hf⟩ := hz
    rw [hreads]
    exact ⟨f, z.letOut_queue_subset b hf⟩
  · rw [hreads, State.letOut, if_neg (by simp [hcan]), if_pos (by simp [hcan])]
    exact List.mem_append_right _ (List.mem_singleton.2 rfl)

theorem execFrameMirror_checked {s : State} (hsync : s.die.mirrorSync = true) (hcycle : s.cycle = 19)
    (hspeaks : s.isQuiet s.activeDie = false) :
    execFrameMirror true true s = .next ({ s with die := { s.die with frameMisses := 0 } } : State).holdFrame.consume.release := by
  simp [-State.mk.injEq, execFrameMirror, hsync, hcycle, hspeaks, ok]

theorem execFrameMirror_unchecked {s : State} {c g : Bool} (h : c = false ∨ g = false ∨ s.cycle ≠ 19 ∨ s.die.mirrorSync = false) :
    execFrameMirror c g s = .next s := by
  rcases h with h | h | h | h <;> simp [execFrameMirror, h, ok]

/-! ### Lanes -/

/-- A lane lost, with its event (R65). -/
def State.laneLost (s : State) (lanes lane up : Nat) : State :=
  { s with die := { s.die with lanes := lanes }, ev := (s.raise Evt.SIPHON_LANE_LOSS 0 lane up).ev }

theorem execSiphonLaneLoss_both (s : State) :
    execSiphonLaneLoss 2 s = .next (s.laneLost 0 2 0).loseSync.failResync := by
  rw [State.laneLost, ← State.raise_of_die]
  simp [-State.mk.injEq, execSiphonLaneLoss, State.lanesUp, bit, b2n, ok]

theorem execSiphonLaneLoss_one {s : State} {lane : Fin 3} (hlane : lane.val < 2) (hleft : setBit s.die.lanes lane false ≠ 0) :
    execSiphonLaneLoss lane s = .next (s.laneLost (setBit s.die.lanes lane false) lane
      ({ s with die := { s.die with lanes := setBit s.die.lanes lane false } } : State).lanesUp) := by
  rw [State.laneLost, ← State.raise_of_die]
  simp [-State.mk.injEq, execSiphonLaneLoss, Nat.ne_of_lt hlane, hleft, ok]

/-- With no lane left and no attempt under way the pair's record, the mirror's and the log change (R65). -/
theorem State.laneLost_both {s : State} (hnone : s.die.resync = none) :
    ∃ y m, (s.laneLost 0 2 0).loseSync.failResync = { s.laneLost 0 2 0 with die := y, mirror := m } := by
  obtain ⟨y, hlose, -, -, hresync⟩ := (s.laneLost 0 2 0).loseSync_eq
  refine ⟨y, { s.mirror with applied := [], inbox := [] }, ?_⟩
  rw [State.failResync_none, hlose]
  · rfl
  · rw [hlose]; exact hresync hnone

/-- Settles O12: each mirror and each loss, the comparison by how many mismatches came before. -/
theorem mirrorsKeepTheStandbyInStep : Obligations.MirrorsKeepTheStandbyInStep := by
  intro s
  refine ⟨fun hsync hspeaks hphase hlanes htrial hmain => ⟨fun x => ?_, fun w x hfit => ?_, fun d x => ?_⟩,
    fun hsync hspeaks hphase hlanes d x => ?_, fun g d x => execCycleMirror_unheard (.inl rfl) g d x,
    fun hquiet c g d x => execCycleMirror_unheard (.inr hquiet) g d x, fun hsync hcycle hspeaks => ?_,
    fun c g h => execFrameMirror_unchecked h, fun hfit => ?_, fun hfirst => ?_, fun hagain => ?_, ?_, fun lane hlane hleft => ?_⟩
  · exact execCycleMirror_checked hsync hspeaks hphase hlanes htrial hmain none x
  · have hexec := execCycleMirror_checked hsync hspeaks hphase hlanes htrial hmain (some w) x
    have hfit' : s.acked.nat Ent.DIVERGENCE_COUNT + 1 < 2 ^ 32 := hfit
    by_cases hfew : s.die.diverged < 2
    · rw [State.compared, State.diverge_few hfit' w x hfew] at hexec
      exact ⟨_, hexec, State.mismatched_count .., rfl, fun _ => ⟨rfl, hsync, rfl⟩, fun h => absurd hfew (Nat.not_lt.2 h)⟩
    · rw [State.compared, State.diverge_third hfit' w x (Nat.not_lt.1 hfew)] at hexec
      cases x
      · obtain ⟨hcount, hcycle, hrun, hlost, hfailed⟩ := s.acked.selfTest_failed
        exact ⟨_, hexec, hcount, hcycle, fun h => absurd h hfew, fun _ => ⟨hrun, hlost, hfailed⟩⟩
      · rw [if_pos rfl, State.raise_eq_of_stamp (s := s) (by rfl) (by rfl) (by rfl) (by rfl)] at hexec
        exact ⟨_, hexec, State.mismatched_count .., rfl, fun h => absurd h hfew, fun _ => ⟨rfl, hsync, rfl⟩⟩
  · have hexec := execCycleMirror_badDigest hsync hspeaks hphase d x
    rwa [if_pos hlanes] at hexec
  · have hexec := execCycleMirror_badDigest hsync hspeaks hphase d x
    rw [if_neg hlanes] at hexec
    exact ⟨_, hexec, s.loseSync_mirrorSync⟩
  · have hkept := State.release_kept ({ s with die := { s.die with frameMisses := 0 } } : State).holdFrame.consume
    simp only [State.releaseKept, Prod.mk.injEq] at hkept
    obtain ⟨hdie, hmirror, hwaiting⟩ := hkept
    refine ⟨_, execFrameMirror_checked hsync hcycle hspeaks, hwaiting, by rw [hdie]; rfl, by rw [hmirror]; rfl, by rw [hmirror]; rfl,
      by rw [hmirror]; rfl, fun m hm hcan hstream => ?_, fun m hm hcan => ?_⟩
    · exact State.release_sends _ hm hcan hstream
    · exact State.release_queues _ hm hcan
  · obtain ⟨m, hexec⟩ := execMirrorMiss_cycle hfit
    refine ⟨_, hexec, rfl, s.nat_setNat_same Ent.MIRROR_MISS_COUNT 0 (s.nat Ent.MIRROR_MISS_COUNT + 1) 0, rfl, ?_, rfl⟩
    exact State.cellsKept_put (State.cellsKept_of_cells rfl _) _ (List.mem_singleton.2 rfl)
  · have hexec := execMirrorMiss_frame s
    rw [if_neg (by omega)] at hexec
    exact ⟨_, hexec, rfl, by rw [State.frameMissed, hfirst], rfl, rfl⟩
  · have hexec := execMirrorMiss_frame s
    have hlink := s.frameMissed.loseSync_link
    simp only [DieSt.link, Prod.mk.injEq] at hlink
    obtain ⟨hlost, -, hmisses, -⟩ := hlink
    rw [if_pos hagain] at hexec
    exact ⟨_, hexec, hlost, hmisses⟩
  · have hlink := (State.failResync_link _).trans (s.laneLost 0 2 0).loseSync_link
    simp only [DieSt.link, Prod.mk.injEq] at hlink
    obtain ⟨hlost, hlanes, -, -⟩ := hlink
    refine ⟨_, execSiphonLaneLoss_both s, hlanes, hlost, fun hnone => ?_⟩
    obtain ⟨y, m, hboth⟩ := State.laneLost_both hnone
    rw [hboth]
    exact ⟨rfl, rfl⟩
  · exact ⟨_, execSiphonLaneLoss_one hlane hleft, rfl, rfl, rfl⟩

end Sys2Proof.Machine
end

section
/-!
PROOFS. The power die as arbiter (O13): what the latch of a packet leaves alone, TAKE accepted and refused, a die that diagnoses itself
and the records of a switch-over (R66 to R73).
-/
namespace Sys2Proof.Machine
open Sys2Proof

/-! ### What a packet's latch leaves alone -/

/-- A reading of the state in which nothing shows that the latch of a packet changes: the own values, what is stored, the free values
used, the log, the running tests, the phases, groups and channels, and the power die halves. -/
structure PacketBlind {β : Type} (g : State → β) : Prop where
  write : ∀ (s : State) c w f, g { s with cells := c, writes := w, free := f } = g s
  event : ∀ (s : State) e, g { s with ev := e } = g s
  tests : ∀ (s : State) r, g { s with running := r } = g s
  legs : ∀ (s : State) l, g { s with legs := l } = g s
  convs : ∀ (s : State) c, g { s with convs := c } = g s
  channels : ∀ (s : State) c, g { s with lc := c } = g s
  halves : ∀ (s : State) a b, g { s with halfA := a, halfB := b } = g s

section Blind
variable {β : Type} {g : State → β} (hg : PacketBlind g)
include hg

theorem State.put_blind {e : Entry} (he : e.inSets = false) (s : State) (n j : Nat) (v : Val) : g (s.put e n j v) = g s := by
  unfold State.put
  rw [he]
  exact hg.write ..

theorem State.setNat_blind {e : Entry} (he : e.inSets = false) (s : State) (n v j : Nat) : g (s.setNat e n v j) = g s :=
  State.put_blind hg he ..

theorem State.setInt_blind {e : Entry} (he : e.inSets = false) (s : State) (n : Nat) (v : Int) (j : Nat) : g (s.setInt e n v j) = g s :=
  State.put_blind hg he ..

theorem State.setRat_blind {e : Entry} (he : e.inSets = false) (s : State) (n : Nat) (v : Rat) (j : Nat) : g (s.setRat e n v j) = g s :=
  State.put_blind hg he ..

theorem State.raise_blind (s : State) (k : EvKind) (i p q : Nat) : g (s.raise k i p q) = g s := by
  rw [State.raise_eq_ev]
  exact hg.event ..

theorem State.bump_blind {e : Entry} (he : e.inSets = false) (s : State) (n j k : Nat) : g (s.bump e n j k) = g s := by
  obtain ⟨c, w, f, hbump⟩ := State.bump_eq he s n j k
  rw [hbump]
  exact hg.write ..

theorem State.setHalf_blind (s : State) (h : Nat) (x : HalfSt) : g (s.setHalf h x) = g s := by
  unfold State.setHalf
  split <;> exact hg.halves ..

theorem State.setLeg_blind (s : State) (p : Nat) (k : PhaseSt) : g (s.setLeg p k) = g s := hg.legs ..
theorem State.setConv_blind (s : State) (n : Nat) (k : GroupSt) : g (s.setConv n k) = g s := hg.convs ..
theorem State.setLc_blind (s : State) (c : Nat) (k : LcSt) : g (s.setLc c k) = g s := hg.channels ..

theorem State.setPhase_blind (s : State) (p st : Nat) : g (s.setPhase p st) = g s := by
  unfold State.setPhase
  split
  · rfl
  · rw [State.setNat_blind hg rfl, State.setLeg_blind hg]

theorem State.endTest_blind (s : State) (target status : Nat) : g (s.endTest target status) = g s := by
  unfold State.endTest
  split
  · rfl
  · dsimp only
    split
    · rw [State.raise_blind hg]; exact hg.tests ..
    · exact hg.tests ..

theorem State.cancelPhaseTest_blind (s : State) (p : Nat) : g (s.cancelPhaseTest p) = g s := by
  unfold State.cancelPhaseTest
  split
  · rw [State.raise_blind hg, State.setPhase_blind hg, State.setNat_blind hg rfl, State.endTest_blind hg]
  · rfl

theorem State.gatesOff_blind (s : State) (n st : Nat) : g (s.gatesOff n st) = g s := by
  unfold State.gatesOff
  dsimp only
  rw [State.setInt_blind hg rfl, State.setNat_blind hg rfl, State.setConv_blind hg,
    State.each_keeps _ _ _ _ (fun z p => State.setPhase_blind hg z p _), State.each_keeps _ _ _ _ (State.cancelPhaseTest_blind hg)]

theorem State.showGroup_blind (s : State) (n : Nat) : g (s.showGroup n) = g s := by
  unfold State.showGroup
  dsimp only
  rw [State.setNat_blind hg rfl, State.setNat_blind hg rfl]

theorem State.latchOnTime_blind (s : State) (n : Nat) : g (s.latchOnTime n) = g s := by
  unfold State.latchOnTime
  dsimp only
  rw [State.setNat_blind hg rfl, State.setConv_blind hg]

theorem State.addPhases_blind (s : State) (l : List Nat) : g (s.addPhases l) = g s :=
  State.each_keeps _ _ _ _ fun z p => by
    rw [State.enterRing, State.setPhase_blind hg, State.setLeg_blind hg, State.cancelPhaseTest_blind hg]

theorem State.loadStep_blind (s : State) (n : Nat) : g (s.loadStep n) = g s := by
  unfold State.loadStep
  dsimp only
  rw [State.bump_blind hg rfl, State.setConv_blind hg, State.addPhases_blind hg]

theorem State.shedOrAdd_blind (s : State) (n : Nat) (i : Rat) : g (s.shedOrAdd n i) = g s := by
  unfold State.shedOrAdd
  dsimp only
  split
  · exact State.addPhases_blind hg ..
  split
  · rw [State.setConv_blind hg, State.addPhases_blind hg]
  split
  · split <;> exact State.setConv_blind hg ..
  · exact State.setConv_blind hg ..

theorem State.latchValues_blind (s : State) (n : Nat) : g (s.latchValues n) = g s :=
  (State.each_keeps _ _ _ _ fun z p => State.setLeg_blind hg z p _).trans (State.setConv_blind hg ..)

theorem State.latchGroup_blind (s : State) (n : Nat) : g (s.latchGroup n) = g s := by
  have hlatch : g ((s.setRat Ent.I_REF n (s.iRefOf n)).latchOnTime n) = g s := by
    rw [State.latchOnTime_blind hg, State.setRat_blind hg rfl]
  unfold State.latchGroup
  dsimp only
  split
  · rw [State.showGroup_blind hg, State.gatesOff_blind hg, hlatch]
  split
  · rw [State.showGroup_blind hg, State.gatesOff_blind hg, hlatch]
  split
  · rw [State.showGroup_blind hg, State.latchValues_blind hg, hlatch]
  rw [State.showGroup_blind hg, State.latchValues_blind hg, State.shedOrAdd_blind hg]
  split
  · rw [State.loadStep_blind hg, hlatch]
  · exact hlatch

theorem State.anchorGroup_blind (s : State) (n : Nat) : g (s.anchorGroup n) = g s :=
  State.each_keeps _ _ _ _ fun z p => by
    rw [State.setLeg_blind hg, State.runLeg, State.setLeg_blind hg]

theorem State.cancelLcTest_blind (s : State) (c : Nat) : g (s.cancelLcTest c) = g s := by
  unfold State.cancelLcTest
  split
  · rw [State.raise_blind hg, State.setNat_blind hg rfl, State.endTest_blind hg]
  · rfl

theorem State.lcUpdate_blind (s : State) (c : Nat) : g (s.lcUpdate c) = g s := by
  have hcancel (b : Bool) : g (if b then s.cancelLcTest c else s) = g s := by
    cases b
    · rfl
    · exact State.cancelLcTest_blind hg ..
  unfold State.lcUpdate
  dsimp only
  split
  · rw [State.setNat_blind hg rfl, State.setLc_blind hg]
  · rw [State.setNat_blind hg rfl, State.setLc_blind hg, hcancel]

theorem State.absorb_blind (s : State) (x : Clamp) : g (s.absorb x) = g s := by
  unfold State.absorb
  dsimp only
  split
  · rfl
  split
  · rw [State.lcUpdate_blind hg, State.raise_blind hg, State.setLc_blind hg, State.setLc_blind hg]
  · exact State.setLc_blind hg ..

theorem State.endFailsafe_blind (s : State) (h : Nat) : g (s.endFailsafe h) = g s := by
  unfold State.endFailsafe
  dsimp only
  split
  · rfl
  · rw [State.raise_blind hg, State.setNat_blind hg rfl, State.setHalf_blind hg]
    exact State.each_keeps _ _ _ _ fun z c => State.setLc_blind hg z c _

theorem State.latchChannel_blind (s : State) (c : Nat) : g (s.latchChannel c) = g s := by
  rw [State.latchChannel, State.lcUpdate_blind hg, State.setLc_blind hg]

/-- Beside the power die's note of the packet a latch moves only what a blind reading does not see. -/
theorem State.latchPacket_blind (s : State) (clamps : List Clamp) : g (s.latchPacket clamps) = g s.packetHeld := by
  rw [State.latchPacket_eq, State.afterLatch, State.latchChannels_eq,
    State.each_keeps _ _ _ _ (fun z n => (State.latchGroup_blind hg _ n).trans (State.anchorGroup_blind hg z n)),
    State.each_keeps _ _ _ _ (State.absorb_blind hg), State.each_keeps _ _ _ _ (State.latchChannel_blind hg),
    State.endFailsafe_blind hg, State.endFailsafe_blind hg]

end Blind

/-- What a TAKE hands on, none of it touched by the latch that follows: the frame, what is held or delivered again, the configuration. -/
def State.handedOn (s : State) : Nat × List Msg × List Held × List Instr × Tab Val := (s.sfn, s.waiting, s.tx.held, s.mirror.again, s.actSet)

theorem State.handedOn_blind : PacketBlind State.handedOn :=
  ⟨fun _ _ _ _ => rfl, fun _ _ => rfl, fun _ _ => rfl, fun _ _ => rfl, fun _ _ => rfl, fun _ _ => rfl, fun _ _ _ => rfl⟩

theorem execYield_checked (s : State) (die : Fin 2) (code : Nat) :
    ∃ t, execYield die code true s = .next t ∧
      (if die.val = 0 then t.pw.yieldA else t.pw.yieldB) = some (low 32 code, s.ticks) ∧
      (s.die.mirrorSync = true → s.pw.active = die.val → t.die.takeDue = true) ∧ { t with pw := s.pw, die := s.die } = s := by
  have hdue (h : ¬ (s.die.mirrorSync && s.pw.active == die.val) = true) (hsync : s.die.mirrorSync = true) (hactive : s.pw.active = die.val) :
      s.die.takeDue = true := absurd (by simp [hsync, hactive]) h
  unfold execYield
  obtain rfl | rfl : die = 0 ∨ die = 1 := by omega
  all_goals
    rw [if_neg (by decide)]
    dsimp only
    split
    next => exact ⟨_, rfl, rfl, fun _ _ => rfl, rfl⟩
    next h => exact ⟨_, rfl, rfl, fun hsync hactive => hdue h hsync hactive, rfl⟩

/-! ### TAKE -/

/-- A session's times shifted by the switch-over. -/
def Sess.late (k : Sess) : Sess :=
  { k with plugAt := k.plugAt + switchDelay, stateAt := k.stateAt + switchDelay, loopAt := k.loopAt + switchDelay }

/-- The state the new active die goes on from: with its step, from the frame state it holds (R71, R73). -/
def State.resumed (s : State) : State := (s.when s.die.mirrorSync State.resumeFrame).eachSession Sess.late

/-- What the power die notes of an accepted TAKE of `die` (R69). -/
def State.switchTo (s : State) (die : Nat) : Switch :=
  ⟨s.sfn, s.cycle, if s.freshYield.isSome then 0 else 1, s.pw.active, die, min 1 s.pw.silent, s.freshYield.getD 0⟩

theorem execTake_eq (s : State) (die : Fin 2) :
    execTake die true s = .next
      (if die.val ≠ s.runWork.pw.active ∧ (s.runWork.freshYield.isSome = true ∨ s.runWork.pw.latched = false) then
        let z := s.runWork.resumed.latchPacket []
        { z with
          pw := { z.pw with active := die.val }
          die := { z.die with switch := some (s.runWork.switchTo die.val), switchFrame := some s.runWork.sfn, takeDue := false } }
      else s.runWork.countStandby.raise Evt.TAKE_REFUSED die.val (low 32 s.runWork.sfn) s.runWork.cycle) := by
  have hiff : ((die.val != s.runWork.pw.active && (s.runWork.freshYield.isSome || !s.runWork.pw.latched)) = true) ↔
      die.val ≠ s.runWork.pw.active ∧ (s.runWork.freshYield.isSome = true ∨ s.runWork.pw.latched = false) := by simp
  unfold execTake State.resumed Sess.late State.switchTo
  dsimp only
  rw [if_neg (by decide)]
  by_cases h : die.val ≠ s.runWork.pw.active ∧ (s.runWork.freshYield.isSome = true ∨ s.runWork.pw.latched = false)
  · rw [if_pos (hiff.2 h), if_pos h]
    rfl
  · rw [if_neg (mt hiff.1 h), if_neg h]
    rfl

/-- The frame goes on, and the latch of the packet leaves what is handed on. -/
theorem State.resumed_sfn (s : State) : s.resumed.sfn = s.sfn := by
  unfold State.resumed State.when
  split
  · unfold State.resumeFrame
    cases s.mirror.frame <;> rfl
  · rfl

/-- With its step and a frame state held, the lost frame's work is dropped (R73). -/
theorem State.resumed_handedOn {s : State} {f : FrameImg} (hsync : s.die.mirrorSync = true) (hframe : s.mirror.frame = some f) :
    s.resumed.handedOn = (s.sfn, [], s.mirror.applied ++ s.tx.held, s.mirror.inbox, f.actSet) := by
  unfold State.resumed State.when State.resumeFrame
  rw [hsync, hframe]
  rfl

/-- A TAKE refused is counted as a packet of the standby and reported. -/
theorem State.takeRefused {z : State} (die : Nat)
    (hfit : z.nat Ent.STANDBY_PACKET_COUNT + 1 < 2 ^ Ent.STANDBY_PACKET_COUNT.type.bits) :
    let t := z.countStandby.raise Evt.TAKE_REFUSED die (low 32 z.sfn) z.cycle
    t.nat Ent.STANDBY_PACKET_COUNT = z.nat Ent.STANDBY_PACKET_COUNT + 1 ∧ z.raised t Evt.TAKE_REFUSED die (low 32 z.sfn) z.cycle ∧
      { t with cells := z.cells, writes := z.writes, ev := z.ev, pw := z.pw } = z := by
  intro t
  have hcount : z.countStandby = ({ z with pw := { z.pw with standbyPackets := z.pw.standbyPackets + 1 } } : State).setNat
      Ent.STANDBY_PACKET_COUNT 0 (z.nat Ent.STANDBY_PACKET_COUNT + 1) := State.bump_of_fits hfit
  have ht : t = _ := (congrArg (fun y : State => y.raise Evt.TAKE_REFUSED die (low 32 z.sfn) z.cycle) hcount).trans (State.raise_eq_ev ..)
  refine ⟨?_, ?_, by rw [ht]; rfl⟩
  · rw [ht]
    exact State.nat_setNat_same ({ z with pw := { z.pw with standbyPackets := z.pw.standbyPackets + 1 } } : State)
      Ent.STANDBY_PACKET_COUNT 0 (z.nat Ent.STANDBY_PACKET_COUNT + 1) 0
  · exact State.raised_raise (by rw [hcount]; rfl) (by rw [hcount]; rfl) (by rw [hcount]; rfl) (by rw [hcount]; rfl) ..

/-! ### A die that diagnoses itself -/

theorem State.afterStop_served {s : State} (h : s.die.unserved = none) : s.afterStop = s := by
  simp [State.afterStop, h]

theorem execSelfDiagnosedFault_eq (s : State) (die : Fin 2) {code : Fin 11} (hcode : code.val ≠ 0) :
    execSelfDiagnosedFault die code s = .next (s.selfDiagnose die code).afterStop := if_neg (by simpa using hcode)

/-- An active die with a synchronised standby goes quiet with its code and the class of its condition (R66, R67). -/
theorem State.selfDiagnose_active {s : State} {d code : Nat} (hstands : s.standing d = .active) (hspeaks : s.isQuiet d = false)
    (hsync : s.die.mirrorSync = true) :
    (s.selfDiagnose d code).die.quiet = some (d, if code = 3 ∨ code = 4 then 0 else code, if code ≤ 4 then 1 else 0) ∧
      (s.selfDiagnose d code).die.unserved = s.die.unserved ∧ (s.selfDiagnose d code).cells = s.cells := by
  have hcode : (if (decide (code != 3) && decide (code != 4)) = true then code else 0) = if code = 3 ∨ code = 4 then 0 else code := by
    by_cases h3 : code = 3 <;> by_cases h4 : code = 4 <;> simp [h3, h4]
  unfold State.selfDiagnose
  rw [hstands]
  simp only [hspeaks, hsync, Bool.not_true, Bool.and_false, Bool.false_eq_true, if_false, if_true, hcode, diagClass]
  obtain ⟨sa, sb, ba, bb, e, hcount⟩ := State.countStop_eq _ d
  rw [hcount]
  split <;> exact ⟨rfl, rfl, rfl⟩

/-- Without a synchronised standby a condition that would make the die yield is reported alone (Table 3-5). -/
theorem State.selfDiagnose_alone {s : State} {d code : Nat} (hstands : s.standing d = .active) (hspeaks : s.isQuiet d = false)
    (hsync : s.die.mirrorSync = false) (hyields : 4 < code) : s.selfDiagnose d code = s.raise Evt.DIE_YIELD d code 2 := by
  have hcls : diagClass code = 0 := if_neg (by omega)
  unfold State.selfDiagnose
  rw [hstands]
  simp [-State.mk.injEq, hspeaks, hsync, hcls]

/-- A condition of the standby fails it, and the pair is out of step. -/
theorem State.selfDiagnose_standby {s : State} {d code : Nat} (hstands : s.standing d = .standby) (hquiet : s.die.quiet = none) :
    let t := s.selfDiagnose d code
    t.standing d = .failed ∧ t.die.mirrorSync = false ∧ t.die.unserved = s.die.unserved ∧ t.cells = s.cells := by
  intro t
  obtain ⟨y, hlose, hlink, hunserved, -⟩ := s.loseSync_eq
  obtain ⟨sa, sb, ba, bb, e, hcount⟩ := State.countStop_eq ((s.loseSync.setStanding d .failed).raiseWith true Evt.DIE_YIELD d code (diagClass code)) d
  have ht : t = _ := (show t = State.countStop _ d by simp only [t, State.selfDiagnose, hstands]).trans hcount
  have hdie : ((s.loseSync.setStanding d .failed).raiseWith true Evt.DIE_YIELD d code (diagClass code)).die = y.stand d .failed := by
    rw [State.raiseWith_die, State.setStanding_eq, hlose]
  have hun : (y.stand d .failed).unserved = y.unserved := by unfold DieSt.stand; split <;> rfl
  rw [ht, hdie]
  refine ⟨?_, ?_, hun.trans (hunserved hquiet), ?_⟩
  · have hfailed := State.standing_setStanding_same { s with die := y } d .failed
    rw [State.setStanding_eq] at hfailed
    exact hfailed
  · exact (y.mirrorSync_stand d .failed).trans (congrArg Prod.fst hlink)
  · rw [State.setStanding_eq, hlose]
    simp

/-! ### The switch-over recorded -/

/-- What the next cycle 0 records (R71): the event of the old die, then the switch, of a state in which the new die is active. -/
theorem State.settleSwitch_eq (s : State) (w : Switch) :
    ∃ (z : State) (c k : Nat), s.settleSwitch w = ((z.raiseWith true Evt.DIE_YIELD w.fromDie c k).noteSwitch w).showDies ∧
      z.die.mirrorSync = false ∧ z.die.switch = none ∧ z.standing w.toDie = .active := by
  have hstands := State.standing_setStanding_same (s.setStanding w.fromDie .failed) w.toDie .active
  unfold State.settleSwitch
  dsimp only
  split
  · obtain ⟨sa, sb, ba, bb, e, hcount⟩ := State.countStop_eq _ w.fromDie
    rw [hcount]
    exact ⟨_, _, _, rfl, rfl, rfl, hstands⟩
  · exact ⟨_, _, _, rfl, rfl, rfl, hstands⟩

/-- Outside a trial and without a prepared image the switch-over is recorded and nothing more. -/
theorem execSwitchOver_records {s : State} {w : Switch} (hswitch : s.die.switch = some w) (hcycle : s.cycle = 0)
    (htrial : s.fw.trial = none) (hmain : ∀ p, s.fw.main = some p → p.done = false) :
    execSwitchOver s = .next (s.settleSwitch w) := by
  unfold execSwitchOver
  rw [hswitch, htrial]
  cases hfw : s.fw.main with
  | none => simp [-State.mk.injEq, hcycle, ok]
  | some p => simp [-State.mk.injEq, hcycle, hmain p hfw, ok]

/-- Settles O13: YIELD, TAKE by its three outcomes, self-diagnosis by the die's standing, and the records of the switch-over. -/
theorem powerDieArbitrates : Obligations.PowerDieArbitrates := by
  intro s
  refine ⟨fun die code => ⟨execYield_checked s die code, rfl⟩, ⟨fun die hother hfresh => ?_, fun die hrefused hfit => ?_, fun die => rfl⟩,
    fun die code hcode hserved => ⟨fun hstands hspeaks hsync => ?_, fun hstands hspeaks hsync hyields => ?_, fun hstands hquiet => ?_⟩,
    fun w hswitch hcycle htrial hmain => ?_⟩
  · have hexec := execTake_eq s die
    rw [if_pos ⟨hother, hfresh⟩] at hexec
    have hpw := s.runWork.resumed.latchPacket_pw []
    have hhanded : (s.runWork.resumed.latchPacket []).handedOn = s.runWork.resumed.handedOn :=
      State.latchPacket_blind State.handedOn_blind ..
    have hsfn := (congrArg Prod.fst hhanded).trans s.runWork.resumed_sfn
    generalize s.runWork.resumed.latchPacket [] = z at hexec hpw hhanded hsfn
    refine ⟨_, hexec, rfl, congrArg PowerSt.silent hpw, congrArg PowerSt.latched hpw, congrArg some hsfn.symm, rfl, rfl, fun hsync f hframe => ?_⟩
    have hall := hhanded.trans (State.resumed_handedOn hsync hframe)
    simp only [State.handedOn, Prod.mk.injEq] at hall
    exact hall.2
  · have hexec := execTake_eq s die
    rw [if_neg (by rcases hrefused with h | ⟨hnone, hlatched⟩ <;> simp_all)] at hexec
    obtain ⟨hcount, hraised, hrest⟩ := State.takeRefused die.val hfit
    exact ⟨_, hexec, hcount, hraised, hrest⟩
  · have hexec := execSelfDiagnosedFault_eq s die hcode
    obtain ⟨hquiet, hunserved, hcells⟩ := State.selfDiagnose_active (code := code) hstands hspeaks hsync
    rw [State.afterStop_served (hunserved.trans hserved)] at hexec
    exact ⟨_, hexec, hquiet, hcells⟩
  · have hexec := execSelfDiagnosedFault_eq s die hcode
    rw [State.selfDiagnose_alone hstands hspeaks hsync hyields, State.afterStop_served ((congrArg DieSt.unserved (by simp)).trans hserved)] at hexec
    exact ⟨_, hexec, rfl, by rw [State.raise_eq_ev]⟩
  · have hexec := execSelfDiagnosedFault_eq s die hcode
    obtain ⟨hfailed, hlost, hunserved, hcells⟩ := State.selfDiagnose_standby (code := code) hstands hquiet
    rw [State.afterStop_served (hunserved.trans hserved)] at hexec
    exact ⟨_, hexec, hfailed, hlost, hcells⟩
  · obtain ⟨z, c, k, hsettle, hsync, hnone, hstands⟩ := s.settleSwitch_eq w
    have hdie : (s.settleSwitch w).die = z.die := by rw [hsettle]; simp
    have hexec := execSwitchOver_records hswitch hcycle htrial hmain
    obtain ⟨hactive, hlast⟩ := State.noteSwitch_records (z.raiseWith true Evt.DIE_YIELD w.fromDie c k) w
    rw [← hsettle] at hactive hlast
    exact ⟨_, hexec, hactive, (State.standing_of_die hdie _).trans hstands, by rw [hdie]; exact hnone, by rw [hdie]; exact hsync, hlast⟩

end Sys2Proof.Machine
end

section
/-!
PROOFS. The two metering dies compared (O17): what a bank shown, a record of the legal log and a change of a point's source leave of the
die pair's record and of the configuration, then the spare check from its beginning to its flag (R80, R81, R340).
-/
namespace Sys2Proof.Machine
open Sys2Proof

/-! ### What metering leaves of the pair -/

/-- The record of the dies and the configuration in force: no operation on points, banks or the legal log reaches them. -/
def State.pairSide (s : State) : DieSt × Tab Val := (s.die, s.actSet)

theorem State.put_pairSide {e : Entry} (he : e.inSets = false) (s : State) (n j : Nat) (v : Val) : (s.put e n j v).pairSide = s.pairSide := by
  rw [State.pairSide, State.put_die, State.actSet_put _ _ _ _ _ he, State.pairSide]

theorem State.setNat_pairSide {e : Entry} (he : e.inSets = false) (s : State) (n v j : Nat) : (s.setNat e n v j).pairSide = s.pairSide :=
  State.put_pairSide he ..

theorem State.raise_pairSide (s : State) (k : EvKind) (i p q : Nat) : (s.raise k i p q).pairSide = s.pairSide := by
  rw [State.raise_eq_ev]
  rfl

theorem State.bump_pairSide {e : Entry} (he : e.inSets = false) (s : State) (n j k : Nat) : (s.bump e n j k).pairSide = s.pairSide := by
  obtain ⟨c, w, f, hbump⟩ := State.bump_eq he s n j k
  rw [hbump]
  rfl

theorem State.fitNat_pairSide {e : Entry} (he : e.inSets = false) (s : State) (n v j : Nat) : (s.fitNat e n v j).pairSide = s.pairSide := by
  unfold State.fitNat
  split
  · exact State.setNat_pairSide he ..
  · exact State.setNat_pairSide he s.takeFree.2 ..

theorem State.showPoint_pairSide (s : State) (pt : Nat) : (s.showPoint pt).pairSide = s.pairSide := by
  refine (State.each_keeps _ _ _ State.pairSide fun z k => ?_).trans (State.each_keeps _ _ _ State.pairSide fun z r => ?_)
  · rw [State.fitNat_pairSide rfl, State.fitNat_pairSide rfl]
  · rw [State.setNat_pairSide rfl, State.fitNat_pairSide rfl, State.fitNat_pairSide rfl, State.fitNat_pairSide rfl]

theorem State.streamLog_pairSide (s : State) {kind : Nat} (h : kind ≠ 1) (r : List Byte) : (s.streamLog kind r).pairSide = s.pairSide := by
  unfold State.streamLog
  dsimp only
  rw [if_neg (by simpa using h)]
  obtain ⟨x, c, w, e, f, hrecord⟩ := s.streamRecord_eq 2 (leBytes 1 kind ++ [0#8] ++ leBytes 2 r.length ++ r)
  rw [hrecord]
  rfl

/-- A record of the legal log moves the log, its stream, its counters and the events. -/
theorem State.legalLog_pairSide (s : State) (kind origin object p q : Nat) : (s.legalLog kind origin object p q).pairSide = s.pairSide := by
  unfold State.legalLog
  dsimp only
  split
  · exact State.bump_pairSide rfl ..
  · rw [State.when_keeps _ _ _ State.pairSide (fun z => z.raise_pairSide ..), State.when_keeps _ _ _ State.pairSide (fun z => z.raise_pairSide ..),
      State.streamLog_pairSide _ (by decide), State.showLegal, State.setNat_pairSide rfl, State.setNat_pairSide rfl]
    rfl

theorem State.resumeSession_pairSide (s : State) (pt d : Nat) : (s.resumeSession pt d).pairSide = s.pairSide := by
  unfold State.resumeSession
  split
  · rfl
  · split <;> rfl

theorem State.logSource_pairSide (s : State) (pt : Nat) : (s.logSource pt).pairSide = s.pairSide := State.legalLog_pairSide ..

theorem State.setSource_pairSide (s : State) (pt d cause : Nat) : (s.setSource pt d cause).pairSide = s.pairSide := by
  have hopen (z : State) : (z.markInterval 9).pairSide = z.pairSide := rfl
  have hmark (z : State) : (z.markPoint pt 3).pairSide = z.pairSide := rfl
  unfold State.setSource
  dsimp only
  split
  · rfl
  · rw [State.showPoint_pairSide, State.when_keeps _ _ _ State.pairSide (fun z => hopen z), State.resumeSession_pairSide, hmark, State.raise_pairSide,
      State.setNat_pairSide rfl]

/-- A point that may bill from the other die from now on. -/
theorem State.sourceIf_pairSide (s : State) (c : Bool) (pt d cause : Nat) :
    (if c then (s.setSource pt d cause).logSource pt else s).pairSide = s.pairSide := by
  cases c
  · rfl
  · exact (State.logSource_pairSide ..).trans (State.setSource_pairSide ..)

theorem State.abandonStagger_pairSide (s : State) (cause : Nat) : (s.abandonStagger cause).pairSide = s.pairSide := by
  unfold State.abandonStagger
  split
  · rfl
  · dsimp only
    rw [State.legalLog_pairSide, State.raise_pairSide, State.setNat_pairSide rfl, State.setBytes_eq, State.put_pairSide rfl]
    rfl

/-! ### The spare check -/

/-- A check holds a bank's spare: its dwell and BANK_STATUS change (R80, R324). -/
theorem State.holdSpare_eq (s : State) (ch d : Nat) : ∃ m c w, s.holdSpare ch d = { s with meas := m, cells := c, writes := w } := by
  unfold State.holdSpare
  dsimp only
  split
  · exact ⟨_, _, _, rfl⟩
  · exact ⟨_, _, _, rfl⟩

/-- The newest event after one is raised where a cycle has room for it. -/
theorem State.newest_raise {s : State} (h : s.mayRaise) (k : EvKind) {i p q : Nat} (hi : i < 2 ^ 16) (hq : q < 2 ^ 32) :
    (s.raise k i p q).newest k i (low 32 p) q := by
  rw [State.raise_eq, State.raiseWith, if_pos (show s.ev.count < 64 from h)]
  exact ⟨_, rfl, rfl, rfl, Nat.mod_eq_of_lt hi, rfl, Nat.mod_eq_of_lt hq⟩

/-- With the means 20 cycles apart the check is listed with their difference, on both dies' spares, and no die is named (R80). -/
theorem execMeterDisagree_begins {s : State} {ch : Fin 96} (hapart : 20 ≤ Tab.get 0 s.die.apart ch.val) :
    ∃ (diff : Nat) (z : State), execMeterDisagree ch s = .next (z.raise Evt.METER_DISAGREE ch.val diff none32) ∧ z.ev = s.ev ∧ z.actSet = s.actSet ∧
      z.meters = s.meters ∧
      z.die = { s.die with
        spareChecks := (ch.val, diff) :: s.die.spareChecks.filter (fun x => x.1 != ch.val)
        apart := Tab.erase s.die.apart ch.val
        checkFrom := Tab.set s.die.checkFrom ch.val s.ticks } := by
  unfold execMeterDisagree
  extract_lets c d fs diff s1
  rw [if_neg (Nat.not_lt.2 hapart)]
  obtain ⟨m0, c0, w0, h0⟩ := s1.holdSpare_eq c 0
  obtain ⟨m1, c1, w1, h1⟩ := (s1.holdSpare c 0).holdSpare_eq c 1
  rw [h1, h0]
  exact ⟨diff, _, rfl, rfl, rfl, rfl, rfl⟩

theorem execMeterDisagree_short {s : State} {ch : Fin 96} (h : Tab.get 0 s.die.apart ch.val < 20) : execMeterDisagree ch s = .next s := if_pos h

theorem State.showBanks_pairSide (s : State) : s.showBanks.pairSide = s.pairSide :=
  State.each_keeps _ _ _ State.pairSide fun _ _ => State.setNat_pairSide rfl ..

theorem State.resolvePoint_pairSide (s : State) (pt : Nat) : (s.resolvePoint pt).pairSide = s.pairSide := by
  unfold State.resolvePoint
  dsimp only
  split
  · rfl
  split
  · rw [State.sourceIf_pairSide, State.setNat_pairSide rfl]
  · rw [State.abandonStagger_pairSide, State.legalLog_pairSide, State.raise_pairSide, State.setNat_pairSide rfl]

/-- The list of a die's flagged channels after a check of one of them in which its spare stood `bad`. -/
def flagIf (bad : Bool) (ch : Nat) (l : List Nat) : List Nat := if bad then ch :: l.filter (· != ch) else l

/-- A check that is done leaves the list, and each die flags the channel where its spare was bad (R80). -/
theorem execSpareCheckDone_ends {s : State} {ch : Fin 96} {diff : Nat} (m0Bad m1Bad : Bool)
    (hcheck : s.die.spareChecks.find? (fun x => x.1 == ch.val) = some (ch.val, diff)) (hdue : Tab.get 0 s.die.checkFrom ch.val + 8 ≤ s.ticks) :
    ∃ t, execSpareCheckDone ch m0Bad m1Bad s = .next t ∧ t.die.spareChecks = s.die.spareChecks.filter (fun x => x.1 != ch.val) ∧
      t.die.flagged0 = flagIf (m0Bad && s.spareFor 0 ch.val) ch.val s.die.flagged0 ∧
      t.die.flagged1 = flagIf (m1Bad && s.spareFor 1 ch.val) ch.val s.die.flagged1 ∧ t.actSet = s.actSet := by
  unfold execSpareCheckDone
  dsimp only
  rw [hcheck]
  dsimp only
  rw [if_neg (Nat.not_lt.2 hdue)]
  have hkept (z : State) (l : List Nat) (p : Nat) :
      ((z.showBanks.raise Evt.METER_DISAGREE ch.val diff p).each l (fun y pt => y.resolvePoint pt)).pairSide = z.pairSide := by
    rw [State.each_keeps _ _ _ State.pairSide State.resolvePoint_pairSide, State.raise_pairSide, State.showBanks_pairSide]
  refine ⟨_, rfl, ?_, ?_, ?_, ?_⟩
  · exact (congrArg (fun x => x.1.spareChecks) (hkept ..) :)
  · exact (congrArg (fun x => x.1.flagged0) (hkept ..) :)
  · exact (congrArg (fun x => x.1.flagged1) (hkept ..) :)
  · exact (congrArg Prod.snd (hkept ..) :)

section Repeated
variable {s : State} {ch : Fin 96} {m1 : Bool} (hflag : ch.val ∈ (if m1 then s.die.flagged1 else s.die.flagged0))
  (hspare : s.spareFor (b2n m1) ch.val = true) (hdue : Tab.get 0 s.die.checkedAt (2 * ch.val + b2n m1) + 20000 ≤ s.ticks)
include hflag hspare hdue

/-- A flagged channel with a spare is checked again after 1,000 frames: the flag goes or the check is dated (R80). -/
theorem execSpareCheckRepeat_due (agrees : Bool) :
    execSpareCheckRepeat ch m1 agrees s = .next { s.holdSpare ch.val (b2n m1) with
      die :=
        if agrees = false then { s.die with checkedAt := Tab.set s.die.checkedAt (2 * ch.val + b2n m1) (s.holdSpare ch.val (b2n m1)).ticks }
        else if m1 then { s.die with
          flagged1 := s.die.flagged1.filter (· != ch.val), checkedAt := Tab.erase s.die.checkedAt (2 * ch.val + b2n m1) }
        else { s.die with
          flagged0 := s.die.flagged0.filter (· != ch.val), checkedAt := Tab.erase s.die.checkedAt (2 * ch.val + b2n m1) } } := by
  have hpast : ¬ s.ticks < Tab.get 0 s.die.checkedAt (2 * ch.val + b2n m1) + 20000 := Nat.not_lt.2 hdue
  have hguard : (!(if m1 then s.die.flagged1 else s.die.flagged0).contains ch.val || !s.spareFor (b2n m1) ch.val ||
      decide (s.ticks < Tab.get 0 s.die.checkedAt (2 * ch.val + b2n m1) + 20000)) = false := by
    simp [hflag, hspare, hpast]
  unfold execSpareCheckRepeat
  dsimp only
  rw [hguard]
  cases agrees <;> cases m1 <;> rfl

end Repeated

/-! ### A metering die that fails -/

theorem State.showChan_die (s : State) (ch : Nat) (v0 v1 source : Bool) (c0 c1 : Nat) : (s.showChan ch v0 v1 source c0 c1).die = s.die :=
  State.put_die ..

theorem State.chooseSource_die (s : State) (ch : Nat) (v0 v1 : Bool) (c0 c1 : Nat) : (s.chooseSource ch v0 v1 c0 c1).die = s.die := by
  unfold State.chooseSource
  dsimp only
  rw [State.setNat_eq, State.put_die, State.setNat_eq, State.put_die, State.setNat_eq, State.put_die,
    State.when_keeps _ _ _ State.die (fun z => by simp), State.showChan_die]

theorem State.invalidateDie_die (s : State) (d : Nat) : (s.invalidateDie d).die = s.die :=
  State.each_keeps _ _ _ State.die fun z ch => by
    dsimp only
    split <;> exact State.chooseSource_die ..

theorem State.metersSingle_die (s : State) (d diag : Nat) : (s.metersSingle d diag).die = s.die := by
  refine congrArg Prod.fst (show (s.metersSingle d diag).pairSide = s.pairSide from ?_)
  unfold State.metersSingle
  dsimp only
  rw [State.when_keeps _ _ _ State.pairSide (fun z => z.abandonStagger_pairSide 0), State.each_keeps _ _ _ State.pairSide (fun z pt => ?_),
    State.legalLog_pairSide]
  rw [State.sourceIf_pairSide, State.setNat_pairSide rfl]

/-- A running metering die that fails is marked, the other is left (R81). -/
theorem State.failMeter_marks {s : State} (m1 : Bool) (diag : Nat) (h : s.meterFailed (b2n m1) = false) :
    (s.failMeter (b2n m1) diag).meterFailed (b2n m1) = true ∧
      (s.failMeter (b2n m1) diag).meterFailed (1 - b2n m1) = s.meterFailed (1 - b2n m1) := by
  have hdie : (s.failMeter (b2n m1) diag).die =
      if m1 then { s.die with m1Failed := true } else { s.die with m0Failed := true } := by
    unfold State.failMeter
    rw [h]
    cases m1 <;> simp [State.metersSingle_die, State.invalidateDie_die, b2n]
  unfold State.meterFailed
  rw [hdie]
  cases m1 <;> exact ⟨rfl, rfl⟩

/-- Settles O17: the check's beginning, its end, its repetition, and the failure of a metering die. -/
theorem meteringDiesAreCompared : Obligations.MeteringDiesAreCompared := by
  intro s
  refine ⟨fun ch hapart => ?_, fun ch hshort => execMeterDisagree_short hshort, fun ch m0Bad m1Bad diff hcheck hdue => ?_,
    fun ch m1 hflag hspare hdue => ⟨?_, ?_⟩, fun m1 diag hrun hwell => ?_⟩
  · obtain ⟨diff, z, hexec, hev, hact, hmeters, hdie⟩ := execMeterDisagree_begins hapart
    have hraised : (z.raise Evt.METER_DISAGREE ch.val diff none32).die = z.die := by simp
    refine ⟨_, hexec, ⟨diff, ?_, fun hroom => ?_⟩, ?_, ?_, ?_, ?_⟩
    · rw [hraised, hdie]; exact List.mem_cons_self
    · exact State.newest_raise (show z.ev.count < 64 by rw [hev]; exact hroom) _ (by omega) (by decide)
    · rw [hraised, hdie]
    · rw [hraised, hdie]
    · simpa using hact
    · simpa using hmeters
  · obtain ⟨t, hexec, hlist, hflag0, hflag1, hact⟩ := execSpareCheckDone_ends m0Bad m1Bad hcheck hdue
    refine ⟨t, hexec, fun x hx => ?_, fun hbad hspare => ?_, fun hbad hspare => ?_, fun hgood => ?_, fun hgood => ?_, hact⟩
    · rw [hlist] at hx
      simpa using (List.mem_filter.1 hx).2
    · rw [hflag0, hbad, hspare]; exact List.mem_cons_self
    · rw [hflag1, hbad, hspare]; exact List.mem_cons_self
    · rw [hflag0, Bool.and_eq_false_iff.2 hgood]; rfl
    · rw [hflag1, Bool.and_eq_false_iff.2 hgood]; rfl
  · have hexec := execSpareCheckRepeat_due hflag hspare hdue true
    cases m1 <;> exact ⟨_, hexec, rfl, rfl⟩
  · obtain ⟨m, c, w, hhold⟩ := s.holdSpare_eq ch.val (b2n m1)
    have hticks : (s.holdSpare ch.val (b2n m1)).ticks = s.ticks := by rw [hhold]
    exact ⟨_, execSpareCheckRepeat_due hflag hspare hdue false, rfl, rfl, (Tab.get_set_same ..).trans hticks⟩
  · obtain ⟨hfailed, hother⟩ := State.failMeter_marks m1 diag hwell
    exact ⟨_, if_pos hrun, hfailed, hother⟩

end Sys2Proof.Machine
end

section
/-!
PROOFS. The record of the die pair as the operations of a start and of a lost half keep it (O16): only a die's own commands move it. One
law an operation, as in Laws/Clock.
-/
namespace Sys2Proof.Machine
open Sys2Proof

@[simp] theorem State.die_ite (c : Prop) [Decidable c] (a b : State) : (if c then a else b).die = if c then a.die else b.die := by
  split <;> rfl

@[simp] theorem State.each_die {α : Type} (s : State) (l : List α) (f : State → α → State) (h : ∀ z a, (f z a).die = z.die) :
    (s.each l f).die = s.die := State.each_keeps s l f State.die h

@[simp] theorem State.when_die (s : State) (c : Bool) (f : State → State) (h : ∀ z, (f z).die = z.die) : (s.when c f).die = s.die :=
  State.when_keeps s c f State.die h

theorem State.raise_die (s : State) (k : EvKind) (i p q : Nat) : (s.raise k i p q).die = s.die := State.raiseWith_die ..

/-! ### Machine/ModuleBus -/

@[simp] theorem State.setUnitSt_die (s : State) (u : Nat) (x : UnitSt) : (s.setUnitSt u x).die = s.die := rfl
@[simp] theorem State.setUnitNat_die (s : State) (m f : Entry) (u v : Nat) : (s.setUnitNat m f u v).die = s.die := by simp [State.setUnitNat]
@[simp] theorem State.sendBus_die (s : State) (m : Msg) : (s.sendBus m).die = s.die := by simp [State.sendBus, State.enqueue]
@[simp] theorem State.command_die (s : State) (m sub : Nat) (body : List Byte) : (s.command m sub body).die = s.die := by
  simp [State.command, State.setGrants]

@[simp] theorem State.target_die (s : State) (m mode volts amps : Nat) : (s.target m mode volts amps).die = s.die := by simp [State.target]
@[simp] theorem State.placeUnits_die (s : State) : s.placeUnits.die = s.die := by
  have hrehomed := s.each_die s.bus.rehome (fun z u => z.setUnitSt u { z.unitSt u with alt := false }) fun _ _ => rfl
  exact (State.each_die _ _ _ fun z u => by simp).trans hrehomed

/-! ### Machine/Converters and Machine/LoadChannels -/

/-- The pair's record is a reading that the latch of a packet does not move. -/
theorem State.die_blind : PacketBlind State.die :=
  ⟨fun _ _ _ _ => rfl, fun _ _ => rfl, fun _ _ => rfl, fun _ _ => rfl, fun _ _ => rfl, fun _ _ => rfl, fun _ _ _ => rfl⟩

@[simp] theorem State.setLeg_die (s : State) (p : Nat) (k : PhaseSt) : (s.setLeg p k).die = s.die := rfl
@[simp] theorem State.setConv_die (s : State) (g : Nat) (k : GroupSt) : (s.setConv g k).die = s.die := rfl
@[simp] theorem State.setLc_die (s : State) (c : Nat) (k : LcSt) : (s.setLc c k).die = s.die := rfl
@[simp] theorem State.setStr_die (s : State) (n : Nat) (k : StrSt) : (s.setStr n k).die = s.die := rfl
@[simp] theorem State.setHalf_die (s : State) (h : Nat) (x : HalfSt) : (s.setHalf h x).die = s.die := State.setHalf_blind State.die_blind ..
@[simp] theorem State.setPhase_die (s : State) (p st : Nat) : (s.setPhase p st).die = s.die := State.setPhase_blind State.die_blind ..
@[simp] theorem State.cancelPhaseTest_die (s : State) (p : Nat) : (s.cancelPhaseTest p).die = s.die :=
  State.cancelPhaseTest_blind State.die_blind ..

@[simp] theorem State.gatesOff_die (s : State) (g st : Nat) : (s.gatesOff g st).die = s.die := State.gatesOff_blind State.die_blind ..
@[simp] theorem State.lcUpdate_die (s : State) (c : Nat) : (s.lcUpdate c).die = s.die := State.lcUpdate_blind State.die_blind ..
@[simp] theorem State.followLimit_die (s : State) (g l : Nat) : (s.followLimit g l).die = s.die := by simp [State.followLimit]
@[simp] theorem State.groupLimits_die (s : State) (g : Nat) : (s.groupLimits g).die = s.die := by simp [State.groupLimits]
@[simp] theorem State.loadLine_die (s : State) (g : Nat) : (s.loadLine g).die = s.die := by simp [State.loadLine]
@[simp] theorem State.stopGroup_die (s : State) (g : Nat) : (s.stopGroup g).die = s.die := by simp [State.stopGroup]
@[simp] theorem State.cutGroup_die (s : State) (g : Nat) : (s.cutGroup g).die = s.die := by simp [State.cutGroup]
@[simp] theorem State.disconnectGroup_die (s : State) (g : Nat) : (s.disconnectGroup g).die = s.die := by simp [State.disconnectGroup]
@[simp] theorem State.allGatesOff_die (s : State) : s.allGatesOff.die = s.die := by simp [State.allGatesOff]
@[simp] theorem State.failPhase_die (s : State) (p cause st : Nat) : (s.failPhase p cause st).die = s.die := by simp [State.failPhase]
@[simp] theorem State.placePhase_die (s : State) (p : Nat) : (s.placePhase p).die = s.die := by simp [State.placePhase]
@[simp] theorem State.placeGroup_die (s : State) (g : Nat) : (s.placeGroup g).die = s.die := by simp [State.placeGroup]
@[simp] theorem State.placeConverters_die (s : State) : s.placeConverters.die = s.die := by simp [State.placeConverters]
@[simp] theorem State.unpowerHalf_die (s : State) (h : Nat) : (s.unpowerHalf h).die = s.die := by simp [State.unpowerHalf]
@[simp] theorem State.loadStores_die (s : State) : s.loadStores.die = s.die := by simp [State.loadStores]
@[simp] theorem State.lcCommand_die (s : State) (c : Nat) (on : Bool) : (s.lcCommand c on).die = s.die := by simp [State.lcCommand]
@[simp] theorem State.applyFailsafe_die (s : State) (h : Nat) : (s.applyFailsafe h).die = s.die := by simp [State.applyFailsafe]
@[simp] theorem State.failWatchdog_die (s : State) (h : Nat) : (s.failWatchdog h).die = s.die := by simp [State.failWatchdog]

/-! ### Machine/Outlets -/

@[simp] theorem State.setSess_die (s : State) (o : Nat) (k : Sess) : (s.setSess o k).die = s.die := rfl
@[simp] theorem State.closeLink_die (s : State) (o : Nat) : (s.closeLink o).die = s.die := rfl
@[simp] theorem State.enter_die (s : State) (o st : Nat) : (s.enter o st).die = s.die := rfl
@[simp] theorem State.takeEnd_die (s : State) (o reason : Nat) : (s.takeEnd o reason).die = s.die := rfl
@[simp] theorem State.toVehicle_die (s : State) (o msg response ongoing : Nat) (values : List Int) :
    (s.toVehicle o msg response ongoing values).die = s.die := rfl

@[simp] theorem State.refreshOutlet_die (s : State) (o : Nat) : (s.refreshOutlet o).die = s.die := by simp [State.refreshOutlet]
@[simp] theorem State.targetAll_die (s : State) (o mode volts amps : Nat) : (s.targetAll o mode volts amps).die = s.die := by
  simp [State.targetAll]

@[simp] theorem State.deliverNothing_die (s : State) (o : Nat) : (s.deliverNothing o).die = s.die := by simp [State.deliverNothing]
@[simp] theorem State.commitEnd_die (s : State) (o : Nat) : (s.commitEnd o).die = s.die := by simp [State.commitEnd]
@[simp] theorem State.goFast_die (s : State) (o : Nat) : (s.goFast o).die = s.die := by simp [State.goFast]
@[simp] theorem State.endSession_die (s : State) (o reason : Nat) (fast : Bool) : (s.endSession o reason fast).die = s.die := by
  simp [State.endSession]

@[simp] theorem State.noteTrip_die (s : State) (o : Nat) : (s.noteTrip o).die = s.die := by simp [State.noteTrip]
@[simp] theorem State.restartSessions_die (s : State) : s.restartSessions.die = s.die := by
  refine State.each_die _ _ _ fun z o => ?_
  dsimp only
  rw [State.when_die _ _ _ (fun x => x.toVehicle_die ..), State.commitEnd_die, State.endSession_die]

@[simp] theorem State.linkDown_die (s : State) (o : Nat) : (s.linkDown o).die = s.die := by simp [State.linkDown]

/-! ### Machine/Monitors and Machine/Strings -/

@[simp] theorem State.setRope_die (s : State) (n : Nat) (r : RopeSt) : (s.setRope n r).die = s.die := rfl
@[simp] theorem State.tellAll_die (s : State) (op : Nat) (args : List Byte) : (s.tellAll op args).die = s.die := rfl
@[simp] theorem State.setJoin_die (s : State) (n : Nat) (b : Bool) : (s.setJoin n b).die = s.die := rfl
@[simp] theorem State.placeMonitors_die (s : State) : s.placeMonitors.die = s.die :=
  State.each_die _ _ _ fun z k => by
    dsimp only
    split <;> simp

@[simp] theorem State.startEnum_die (s : State) (n : Nat) : (s.startEnum n).die = s.die := by simp [State.startEnum]
@[simp] theorem State.enterStr_die (s : State) (n st : Nat) : (s.enterStr n st).die = s.die := by simp [State.enterStr]
@[simp] theorem State.setCoils_die (s : State) (n : Nat) (pos neg pre : Bool) : (s.setCoils n pos neg pre).die = s.die := by simp [State.setCoils]
@[simp] theorem State.zeroLimits_die (s : State) (n : Nat) : (s.zeroLimits n).die = s.die := by simp [State.zeroLimits]
@[simp] theorem State.settleString_die (s : State) (n : Nat) : (s.settleString n).die = s.die := by simp [State.settleString]
@[simp] theorem State.openCoils_die (s : State) (n : Nat) (hw : Bool) : (s.openCoils n hw).die = s.die := by simp [State.openCoils]
@[simp] theorem State.noteOpening_die (s : State) (n c : Nat) : (s.noteOpening n c).die = s.die := by simp [State.noteOpening]
@[simp] theorem State.stringCause_die (s : State) (n c value : Nat) : (s.stringCause n c value).die = s.die := by simp [State.stringCause]
@[simp] theorem State.ropeCloses_die (s : State) (n : Nat) : (s.ropeCloses n).die = s.die := by simp [State.ropeCloses]
@[simp] theorem State.restartStrings_die (s : State) : s.restartStrings.die = s.die := by simp [State.restartStrings]

/-! ### Machine/Eusor, the device and the outputs of a start -/

@[simp] theorem State.showEusor_die (s : State) : s.showEusor.die = s.die := by simp [State.showEusor]
@[simp] theorem State.formLoads_die (s : State) : s.formLoads.die = s.die := by simp [State.formLoads]
@[simp] theorem State.showProxies_die (s : State) : s.showProxies.die = s.die := by simp [State.showProxies]
@[simp] theorem State.dropNode_die (s : State) (e st : Nat) : (s.dropNode e st).die = s.die := by simp [State.dropNode, State.setNodeState]
@[simp] theorem State.placeNodes_die (s : State) (changed : Nat → Bool) : (s.placeNodes changed).die = s.die := by simp [State.placeNodes]
@[simp] theorem State.startEusor_die (s : State) : s.startEusor.die = s.die := by simp [State.startEusor]
@[simp] theorem State.askHandover_die (s : State) (cause : Nat) : (s.askHandover cause).die = s.die := by simp [State.askHandover]
@[simp] theorem State.closeKeys_die (s : State) : s.closeKeys.die = s.die := rfl
@[simp] theorem State.placePort_die (s : State) : s.placePort.die = s.die := by simp [State.placePort]
@[simp] theorem State.setWin_die (s : State) (m : Nat) : (s.setWin m).die = s.die := by simp [State.setWin]
@[simp] theorem State.refreshDevice_die (s : State) : s.refreshDevice.die = s.die := by simp [State.refreshDevice, State.showDevice]
@[simp] theorem State.setDevice_die (s : State) (st : Nat) : (s.setDevice st).die = s.die := by simp [State.setDevice]
@[simp] theorem State.recoveryOutputs_die (s : State) : s.recoveryOutputs.die = s.die := by
  unfold State.recoveryOutputs
  dsimp only
  rw [State.each_die _ _ _ (fun z n => z.enterStr_die ..), State.each_die _ _ _ (fun z c => z.setLc_die ..), State.allGatesOff_die]

@[simp] theorem State.takeMap_die (s : State) (n : Nat) : (s.takeMap n).die = s.die := by simp [State.takeMap]
@[simp] theorem State.adoptOutputs_die (s : State) (full : Bool) : (s.adoptOutputs full).die = s.die := by simp [State.adoptOutputs]

end Sys2Proof.Machine
end

section
/-!
PROOFS. The start of a control die and the halves of the power, link and ST dies (O16): who takes control at a boot, what takeover enters,
and which half works after its fault and its return (R59, R82, R472).
-/
namespace Sys2Proof.Machine
open Sys2Proof

/-! ### The state a device is set to -/

/-- DEVICE_STATUS shows the device's state, it does not set it. -/
theorem State.devState_refreshDevice (s : State) : s.refreshDevice.devState = s.devState := by
  rw [State.devState, State.refreshDevice, State.showDevice, State.setNat_eq, State.nat_def, State.val_put_ne _ _ _ _ _ _ _ _ (by decide),
    ← State.nat_def, State.devState]

theorem State.devState_setDevice (s : State) (st : Nat) : (s.setDevice st).devState = st := by
  unfold State.setDevice
  dsimp only
  split
  next h => rw [State.devState_refreshDevice]; exact beq_iff_eq.1 h
  next =>
    rw [State.devState_refreshDevice, State.devState, State.raise_eq, State.nat_def, State.val_raiseWith, ← State.nat_def]
    exact State.nat_setNat_same ..

/-! ### Control taken -/

/-- A state with an active die `die` set to what a takeover ends in: RECOVERY, or the state a start goes on in (R472). -/
def State.endsStart (s : State) (die : Nat) (t : State) : Prop :=
  t.standing die = .active ∧ (t.devState = Dev.RECOVERY ∨ t.devState = (if s.plant.toSleep then Dev.SLEEP else Dev.DEGRADED))

theorem State.standing_setDevice (s : State) (st d : Nat) : (s.setDevice st).standing d = s.standing d := State.standing_of_die (s.setDevice_die st) d

/-- From START a die that takes control is active, and the device leaves START. -/
theorem State.takeControl_endsStart {s : State} (hstart : s.devState = Dev.START) (die : Nat) (b : BootReport) :
    s.endsStart die (s.takeControl die b) := by
  unfold State.takeControl
  extract_lets cause full before lastSfn s1 s2 s3 s4 s5 keyed pw5 plant5 s6 s7 s8 die8 s9 recover st z
  clear_value s6
  have h8 : s8.standing die = .active := by
    have hdie : s8.die = (s6.setStanding die .active).die := by simp [s8, s7]
    exact (State.standing_of_die hdie die).trans (State.standing_setStanding_same ..)
  clear_value s8
  have h9 : s9.standing die = .active := by
    have hkept (x : State) (h : x.die.ca = s8.die.ca ∧ x.die.cb = s8.die.cb) : x.standing die = .active := by
      rw [← h8, State.standing, h.1, h.2, State.standing]
    refine hkept s9 ?_
    unfold s9
    split <;> simp [die8]
  clear_value s9
  have hst : (st == Dev.RECOVERY || st == Dev.TEST) = false := by
    show (s.devState == Dev.RECOVERY || s.devState == Dev.TEST) = false
    rw [hstart]
    rfl
  rw [hst, if_neg Bool.false_ne_true]
  split
  · refine ⟨(State.standing_setDevice ..).trans ((State.standing_of_die ?_ die).trans h9), .inl (State.devState_setDevice ..)⟩
    simp
  · refine ⟨(State.standing_setDevice ..).trans ((State.standing_of_die ?_ die).trans h9), .inr (State.devState_setDevice ..)⟩
    simp [z]

/-! ### The boot of a die -/

/-- A die's boot noted, with the image it runs. -/
def State.bootNoted (s : State) (die : Nat) (b : BootReport) : State :=
  if die == 0 then { s with die := { s.die with bootA := some s.ticks, imageA := mainMeasure b } }
  else { s with die := { s.die with bootB := some s.ticks, imageB := mainMeasure b } }

theorem State.bootNoted_eq (s : State) (die : Nat) (b : BootReport) :
    (if die = 0 then (s.bootNoted die b).die.bootA else (s.bootNoted die b).die.bootB) = some s.ticks ∧
      (s.bootNoted die b).imageOf die = mainMeasure b ∧ (s.bootNoted die b).fw = s.fw ∧ (s.bootNoted die b).plant = s.plant ∧
      (s.bootNoted die b).devState = s.devState ∧
      { s.bootNoted die b with
        die := { (s.bootNoted die b).die with bootA := s.die.bootA, bootB := s.die.bootB, imageA := s.die.imageA, imageB := s.die.imageB } } = s := by
  unfold State.bootNoted State.imageOf
  by_cases h : die = 0
  · subst h; exact ⟨rfl, rfl, rfl, rfl, rfl, rfl⟩
  · simp only [beq_iff_eq, h, if_false]
    exact ⟨trivial, trivial, trivial, trivial, rfl, trivial⟩

section Boot
variable {s : State} {die : Fin 2} (b : BootReport) (hside : s.sideUp die.val = true) (hoff : s.standing die.val = .off)
  (hfree : s.blocked die.val = false)
include hside hoff hfree

/-- Beside an active die the boot is noted. -/
theorem execDieBootComplete_beside (hother : s.standing (1 - die.val) = .active) (hmeter : s.meterRunning die.val = true)
    (hmain : s.fw.main = none) : execDieBootComplete die b s = .next (s.bootNoted die.val b) := by
  obtain ⟨-, -, hfw, -, -, -⟩ := s.bootNoted_eq die.val b
  have hguard : (!s.sideUp die.val || s.standing die.val != .off || s.blocked die.val) = false := by simp [hside, hoff, hfree]
  unfold execDieBootComplete
  dsimp only
  rw [hguard, if_neg Bool.false_ne_true, hother, if_pos (by rfl), hmeter, if_pos rfl]
  split
  next p hp =>
    have hprep : s.fw.main = some p := (congrArg FwSt.main hfw).symm.trans hp
    exact absurd (hmain.symm.trans hprep) (Option.some_ne_none p).symm
  next => rfl

/-- In START, without an active die, the die takes control where it is preferred or follows a stop, and waits otherwise. -/
theorem execDieBootComplete_start (hother : s.standing (1 - die.val) ≠ .active) (hstart : s.devState = Dev.START) :
    execDieBootComplete die b s = .next
      (if s.plant.startCause = 5 ∨ s.preferredDie = die.val then (s.bootNoted die.val b).takeControl die.val b
       else { s.bootNoted die.val b with plant := { (s.bootNoted die.val b).plant with waitingBoot := some (die.val, b) } }) := by
  have hguard : (!s.sideUp die.val || s.standing die.val != .off || s.blocked die.val) = false := by simp [hside, hoff, hfree]
  have hserving : (s.devState != Dev.START && s.die.unserved.isNone) = false := by simp [hstart]
  have htakes : (s.plant.startCause == 5 || s.devState != Dev.START || s.preferredDie == die.val) = true ↔
      (s.plant.startCause = 5 ∨ s.preferredDie = die.val) := by simp [hstart]
  unfold execDieBootComplete
  dsimp only
  rw [hguard, if_neg Bool.false_ne_true, if_neg (by simpa using hother), hserving, if_neg Bool.false_ne_true]
  by_cases h : s.plant.startCause = 5 ∨ s.preferredDie = die.val
  · rw [if_pos (htakes.2 h), if_pos h]; rfl
  · rw [if_neg (mt htakes.1 h), if_neg h]; rfl

end Boot

/-- A boot noted leaves what a takeover ends in. -/
theorem State.bootNoted_endsStart {s : State} (hstart : s.devState = Dev.START) (die : Nat) (b : BootReport) :
    s.endsStart die ((s.bootNoted die b).takeControl die b) := by
  obtain ⟨-, -, -, hplant, hdev, -⟩ := s.bootNoted_eq die b
  have h := State.takeControl_endsStart (hdev.trans hstart) die b
  rwa [State.endsStart, hplant] at h

/-- 5 s after its boot the waiting die takes control (R59). -/
theorem execPreferredDieTimeout_due {s : State} {d a : Nat} {b : BootReport} (hwaits : s.plant.waitingBoot = some (d, b))
    (hboot : (if d = 0 then s.die.bootA else s.die.bootB) = some a) (hstart : s.devState = Dev.START) (hoff : s.standing d = .off)
    (hside : s.sideUp d = true) (hdue : a + 5 * 20000 ≤ s.ticks) : execPreferredDieTimeout s = .next (s.takeControl d b) := by
  have hboot' : (if d == 0 then s.die.bootA else s.die.bootB) = some a := by simpa using hboot
  have hsecs : a + secTicks 5 ≤ s.ticks := hdue
  unfold execPreferredDieTimeout
  rw [hwaits]
  dsimp only
  rw [hboot']
  simp only [hstart, hoff, hside, ge_iff_le, hsecs, decide_true, Bool.and_true, beq_self_eq_true, if_true]
  rfl

/-! ### Halves -/

theorem State.stUp_setSt (s : State) (h : Nat) (b : Bool) : (s.setSt h b).stUp h = b := by
  unfold State.setSt State.stUp
  split <;> rfl

theorem State.setSt_frame (s : State) (h : Nat) (b : Bool) :
    { s.setSt h b with die := { (s.setSt h b).die with st0 := s.die.st0, st1 := s.die.st1 } } = s := by
  unfold State.setSt
  split <;> rfl

/-- The standing of an ST half alone: an event is raised on it as on the state before. -/
theorem State.setSt_raised (s : State) (h : Nat) (b : Bool) (k : EvKind) (i p q : Nat) : s.raised ((s.setSt h b).raise k i p q) k i p q := by
  unfold State.setSt
  split <;> exact State.raised_raise (by rfl) (by rfl) (by rfl) (by rfl) ..

theorem State.lkUp_setLk (s : State) (h : Nat) (b : Bool) : (s.setLk h b).lkUp h = b := by
  unfold State.setLk State.lkUp
  split <;> rfl

theorem State.lkUp_of_die {s t : State} (hdie : t.die = s.die) (h : Nat) : t.lkUp h = s.lkUp h := by
  rw [State.lkUp, hdie, State.lkUp]

theorem State.pwOk_of_die {s t : State} (hdie : t.die = s.die) (h : Nat) : t.pwOk h = s.pwOk h := by
  rw [State.pwOk, hdie, State.pwOk]

theorem State.pwOk_setPw (s : State) (h : Nat) (b : Bool) : (s.setPw h b).pwOk h = b := by
  unfold State.setPw State.pwOk
  split <;> rfl

theorem State.pwOk_setPw_other (s : State) {h : Nat} (hpair : h ≤ 1) (b : Bool) : (s.setPw h b).pwOk (1 - h) = s.pwOk (1 - h) := by
  obtain rfl | rfl := Nat.le_one_iff_eq_zero_or_eq_one.1 hpair <;> rfl

theorem State.half_setHalf_same (s : State) (h : Nat) (x : HalfSt) : (s.setHalf h x).half h = x := by
  unfold State.setHalf State.half
  split <;> rfl

/-- The tick line moves the pair's record, not its link halves (R13). -/
theorem State.changeTickLine_lkUp (s : State) (deviation h : Nat) : (s.changeTickLine deviation).lkUp h = s.lkUp h :=
  State.lkUp_of_die (s := { s with die := { s.die with tickB := !s.die.tickB } }) (by simp [State.changeTickLine]) h

theorem State.loseLk_lkUp (s : State) (h : Nat) : (s.loseLk h).lkUp h = false := by
  unfold State.loseLk
  extract_lets s1 tx2 s2 s3
  have h1 : s1.lkUp h = false := (State.lkUp_of_die (State.each_die _ _ _ fun z o => z.linkDown_die o) h).trans (s.lkUp_setLk h false)
  have h2 : s2.lkUp h = false := (State.lkUp_of_die (by simp [s2]) h).trans h1
  have h3 : s3.lkUp h = false := (State.when_keeps _ _ _ (fun z => z.lkUp h) fun z => z.changeTickLine_lkUp none32 h).trans h2
  exact (State.lkUp_of_die (by simp) h).trans h3

theorem State.losePw_die (s : State) (h : Nat) : (s.losePw h).die = (s.setPw h false).die := by simp [State.losePw]

section Halves
variable {s : State} {half : Fin 8}

/-- A fault that is not of a PW half's watchdog alone is one of the half. -/
theorem execDieHalfFault_half {w : Bool} (h : w = false ∨ 2 ≤ half.val) (diag : Nat) :
    execDieHalfFault half w diag s = .next (s.halfFault half.val diag) := by
  refine if_neg ?_
  rcases h with h | h
  · simp [h]
  · simp [Nat.not_lt.2 h]

theorem execDieHalfFault_watchdog (hpw : half.val < 2) (hok : s.pwOk half.val = true) (hwell : (s.half half.val).watchdog = false) (diag : Nat) :
    execDieHalfFault half true diag s = .next ((s.raise Evt.DIE_HALF_FAULT 4 half.val diag).failWatchdog half.val) := by
  simp [-State.mk.injEq, execDieHalfFault, hpw, hok, hwell, ok]

theorem State.halfFault_pw {n : Nat} (hkind : n / 2 = 0) (hok : s.pwOk (n % 2) = true) (diag : Nat) :
    s.halfFault n diag = (s.losePw (n % 2)).raise Evt.DIE_HALF_FAULT 4 (n % 2) diag := by
  unfold State.halfFault
  rw [hkind]
  exact if_pos hok

theorem State.halfFault_lk {n : Nat} (hkind : n / 2 = 1) (hup : s.lkUp (n % 2) = true) (diag : Nat) :
    s.halfFault n diag = (s.loseLk (n % 2)).raise Evt.DIE_HALF_FAULT 5 (n % 2) diag := by
  unfold State.halfFault
  rw [hkind]
  exact if_pos hup

/-- A KY half's fault is noted without event (R414). -/
theorem State.halfFault_ky {n : Nat} (hkind : n / 2 = 2) (diag : Nat) :
    s.halfFault n diag = { s with keys := { s.keys with lost := setBit s.keys.lost (n % 2) true } } := by
  unfold State.halfFault
  rw [hkind]
  rfl

theorem State.halfFault_st {n : Nat} (hkind : n / 2 = 3) (hup : s.stUp (n % 2) = true) (diag : Nat) :
    s.halfFault n diag = (s.setSt (n % 2) false).raise Evt.DIE_HALF_FAULT 7 (n % 2) diag := by
  unfold State.halfFault
  rw [hkind]
  exact if_pos hup

/-! A half whose side is up works again, by its kind (R82). -/

theorem execDieHalfRestored_watchdog (hside : s.sideUp (half.val % 2) = true) (hkind : half.val / 2 = 0) (hfailed : (s.half (half.val % 2)).watchdog = true) :
    execDieHalfRestored half s = .next (s.setHalf (half.val % 2) { s.half (half.val % 2) with watchdog := false }) := by
  unfold execDieHalfRestored
  dsimp only
  rw [hside, if_neg (by decide), hkind]
  exact if_pos hfailed

theorem execDieHalfRestored_pw (hside : s.sideUp (half.val % 2) = true) (hkind : half.val / 2 = 0) (hwell : (s.half (half.val % 2)).watchdog = false) :
    execDieHalfRestored half s = .next 
      (if s.pwOk (half.val % 2) = true then s
       else (s.setPw (half.val % 2) true).each (halfChannels (half.val % 2)) (fun z c => z.lcUpdate c)) := by
  unfold execDieHalfRestored
  dsimp only
  rw [hside, if_neg (by decide), hkind]
  refine (if_neg (by rw [hwell]; decide)).trans ?_
  split <;> rfl

theorem execDieHalfRestored_lk (hside : s.sideUp (half.val % 2) = true) (hkind : half.val / 2 = 1) :
    execDieHalfRestored half s = .next (s.setLk (half.val % 2) true).placePort := by
  unfold execDieHalfRestored
  dsimp only
  rw [hside, if_neg (by decide), hkind]
  rfl

/-- A KY half's return shows at the next start. -/
theorem execDieHalfRestored_ky (hside : s.sideUp (half.val % 2) = true) (hkind : half.val / 2 = 2) :
    execDieHalfRestored half s = .next { s with keys := { s.keys with lost := setBit s.keys.lost (half.val % 2) false } } := by
  unfold execDieHalfRestored
  dsimp only
  rw [hside, if_neg (by decide), hkind]
  rfl

theorem execDieHalfRestored_st (hside : s.sideUp (half.val % 2) = true) (hkind : half.val / 2 = 3) :
    execDieHalfRestored half s = .next (s.setSt (half.val % 2) true) := by
  unfold execDieHalfRestored
  dsimp only
  rw [hside, if_neg (by decide), hkind]
  rfl

end Halves

/-- The half whose serial watchdog fails is powered still, at its fail-safe states (R82). -/
theorem State.failWatchdog_half (s : State) (h : Nat) : ((s.failWatchdog h).half h).watchdog = true := by
  rw [State.failWatchdog, State.half_setHalf_same]

/-- Settles O16: the boot and its time-out, then faults and returns by the kind of half. -/
theorem startsAndHalvesOfDies : Obligations.StartsAndHalvesOfDies := by
  intro s
  refine ⟨fun die b hside hoff hfree => ⟨fun hother hmeter hmain => ?_, fun hother hstart htakes => ?_, fun hother hstart hcause hpref => ?_⟩,
    fun d b a hwaits hboot hstart hoff hside hdue => ?_, ?_⟩
  · obtain ⟨hboot, himage, -, -, -, hframe⟩ := s.bootNoted_eq die.val b
    exact ⟨_, execDieBootComplete_beside b hside hoff hfree hother hmeter hmain, hboot, himage, hframe⟩
  · have hexec := execDieBootComplete_start b hside hoff hfree hother hstart
    rw [if_pos htakes] at hexec
    exact ⟨_, hexec, State.bootNoted_endsStart hstart die.val b⟩
  · have hexec := execDieBootComplete_start b hside hoff hfree hother hstart
    rw [if_neg (not_or.2 ⟨hcause, hpref⟩)] at hexec
    obtain ⟨-, -, -, hplant, -, hframe⟩ := s.bootNoted_eq die.val b
    refine ⟨_, hexec, rfl, ?_⟩
    rw [hplant]
    exact congrArg (fun z : State => { z with plant := s.plant }) hframe
  · exact ⟨_, execPreferredDieTimeout_due hwaits hboot hstart hoff hside hdue, (State.takeControl_endsStart hstart d b).2⟩
  · intro half diag h
    have hst (hkind : 6 ≤ half.val) : half.val / 2 = 3 := by omega
    have hpw (hkind : half.val < 2) : half.val / 2 = 0 := by omega
    refine ⟨fun w hkind hup => ?_, fun w hkind hup => ?_, fun w hkind => ?_, fun hkind hok => ⟨?_, fun hwell => ?_⟩,
      fun hside => ⟨fun hkind => ?_, fun hkind => ?_, fun hkind => ?_, fun hkind => ⟨fun hfailed => ?_, fun hwell => ?_⟩⟩⟩
    · have hexec := execDieHalfFault_half (s := s) (w := w) (.inr (show 2 ≤ half.val by omega)) diag
      rw [State.halfFault_st (hst hkind) hup] at hexec
      refine ⟨_, hexec, ?_, ?_, ?_⟩
      · exact (congrArg (fun y : DieSt => if h == 0 then y.st0 else y.st1) (State.raise_die ..)).trans (s.stUp_setSt h false)
      · exact s.setSt_raised ..
      · rw [State.raise_eq_ev]
        exact congrArg (fun z : State => { z with ev := s.ev }) (s.setSt_frame h false)
    · have hexec := execDieHalfFault_half (s := s) (w := w) (.inr (show 2 ≤ half.val by omega)) diag
      rw [State.halfFault_lk hkind hup] at hexec
      exact ⟨_, hexec, (State.lkUp_of_die (State.raise_die ..) h).trans (s.loseLk_lkUp h)⟩
    · rw [← State.halfFault_ky hkind diag]
      exact execDieHalfFault_half (.inr (by omega)) diag
    · have hexec := execDieHalfFault_half (s := s) (w := false) (half := half) (.inl rfl) diag
      rw [State.halfFault_pw (hpw hkind) hok] at hexec
      have hdie : ((s.losePw h).raise Evt.DIE_HALF_FAULT 4 h diag).die = (s.setPw h false).die := by simp [State.losePw_die]
      exact ⟨_, hexec, (State.pwOk_of_die hdie h).trans (s.pwOk_setPw h false),
        (State.pwOk_of_die hdie _).trans (s.pwOk_setPw_other (by omega) false)⟩
    · have hh : h = half.val := Nat.mod_eq_of_lt hkind
      rw [hh] at hok hwell ⊢
      exact ⟨_, execDieHalfFault_watchdog hkind hok hwell diag, (State.pwOk_of_die (by simp) _).trans hok, State.failWatchdog_half ..⟩
    · exact ⟨_, execDieHalfRestored_st hside (hst hkind), s.stUp_setSt h true, s.setSt_frame h true⟩
    · exact ⟨_, execDieHalfRestored_lk hside hkind, (State.lkUp_of_die (State.placePort_die _) h).trans (s.lkUp_setLk h true)⟩
    · exact execDieHalfRestored_ky hside hkind
    · exact ⟨_, execDieHalfRestored_watchdog hside (hpw hkind) hfailed, by rw [State.half_setHalf_same], State.setHalf_die ..⟩
    · have hexec := execDieHalfRestored_pw hside (hpw hkind) hwell
      by_cases hok : s.pwOk h = true
      · rw [if_pos hok] at hexec
        exact ⟨_, hexec, hok⟩
      · rw [if_neg hok] at hexec
        exact ⟨_, hexec, (State.pwOk_of_die (State.each_die _ _ _ State.lcUpdate_die) h).trans (s.pwOk_setPw h true)⟩

end Sys2Proof.Machine
end

section
/-!
PROOFS. The commands on the configuration sets (O22): what a write of 1 makes of the shadow set, and the request of a swap (R88, R92).
-/
namespace Sys2Proof.Machine
open Sys2Proof

theorem applyShadowCopy_one (s : State) :
    applyShadowCopy 1 s = ({ s with shdSet := s.actSet, digestStale := true, writes := s.rewrite s.shdSet s.actSet }, St.OK) := rfl

theorem applyShadowDefaults_one (s : State) :
    applyShadowDefaults 1 s =
      ({ s with
          shdSet := s.shdSet.filter (fun x => isLegKey x.1)
          digestStale := true
          writes := s.rewrite (s.shdSet.filter (fun x => !isLegKey x.1)) (s.shdSet.filter (fun x => isLegKey x.1)) }, St.OK) := rfl

/-- An accepted SET_SWAP_NOW joins the requests of this boundary in the state with its tag taken. -/
theorem execSetSwapNow_accepted {s : State} {c : Client} {h : Held} (ha : s.accepts c Ent.SET_SWAP_NOW 0 (.num 1) h) :
    execSetSwapNow c s = .next { s.taken h with swapAsks := (s.taken h).swapAsks ++ [⟨some h, 0⟩] } := by
  obtain ⟨k, t, hconn, hheader, hnew, htag, happly, rfl, hpass⟩ := ha
  have happly' : (s.takeTag t (some c.conn)).applying = true := by simpa [State.applying] using happly
  simp [execSetSwapNow, State.receiveRequest, hconn, hheader, hnew, htag, hpass, happly', State.taken, ok]

/-- Settles O22: the effect of each write on the state with its tag taken, and its answer. -/
theorem shadowSetCommands : Obligations.ShadowSetCommands := by
  intro s c h
  obtain ⟨z, hz⟩ : ∃ z, z = s.taken h := ⟨_, rfl⟩
  have hrest : { z with tx := s.tx, cells := s.cells, mirror := s.mirror } = s := by rw [hz, s.taken_frame h]
  have hact : z.actSet = s.actSet := (congrArg State.actSet hrest :)
  have hshd : z.shdSet = s.shdSet := (congrArg State.shdSet hrest :)
  have hasks : z.swapAsks = s.swapAsks := (congrArg State.swapAsks hrest :)
  have hframe : { z with tx := s.tx, cells := s.cells, waiting := s.waiting, mirror := s.mirror, writes := s.writes, shdSet := s.shdSet,
                         digestStale := s.digestStale } = s :=
    congrArg (fun x : State => { x with waiting := s.waiting, writes := s.writes, shdSet := s.shdSet, digestStale := s.digestStale }) hrest
  refine ⟨fun ha => ?_, fun ha => ?_, fun ha => ?_⟩
  · exact ⟨_, congrArg Host.Outcome.next (State.clientCommand_effect ha hz (applyShadowCopy_one z)), hact, hact,
      State.answerLater_repliesWith .., hframe⟩
  · exact ⟨_, congrArg Host.Outcome.next (State.clientCommand_effect ha hz (applyShadowDefaults_one z)),
      congrArg (fun x : Tab Val => x.filter fun y : Nat × Val => isLegKey y.1) hshd, hact, State.answerLater_repliesWith .., hframe⟩
  · have hexec := execSetSwapNow_accepted ha
    rw [← hz] at hexec
    exact ⟨_, hexec, congrArg (· ++ [⟨some h, 0⟩]) hasks, congrArg (fun x : State => { x with swapAsks := s.swapAsks }) hrest⟩

end Sys2Proof.Machine
end

section
/-!
PROOFS. Segmented transfers (O20): the first segment of a read and of a write, and a transfer that has been silent (R96, R99).
-/
namespace Sys2Proof.Machine
open Sys2Proof

/-! ### The transfers in progress -/

@[simp] theorem State.setSegment_out (s : State) (x : Segment) : (s.setSegment x).out = s.out := rfl

theorem State.mem_setSegment (s : State) (x : Segment) : x ∈ (s.setSegment x).tx.segments := List.mem_cons_self

/-- An ended transfer stands no more among those in progress, nor its tag among those in use. -/
theorem State.endSegment_frees (s : State) (tag : Nat) :
    (∀ y ∈ (s.endSegment tag).tx.segments, y.tag ≠ tag) ∧ ∀ y ∈ (s.endSegment tag).tx.tags, y.1 ≠ tag :=
  ⟨by simp [State.endSegment, State.dropTag], State.dropTag_frees _ tag⟩

/-! ### The first segments -/

/-- A read's answer at offset 0: up to 1,024 bytes of the snapshot, and whether more follow. -/
theorem State.readPart_start (s : State) (c : Client) (x : Segment) :
    (s.readPart c x 0).out = s.out ++ [answerMsg c.conn Op.READ_SEGMENT c.reqId St.OK x.tag false
        (readBody x.item.type (x.data.take 1024) (x.data.take 1024).length ++ leBytes 4 0 ++ leBytes 4 x.data.length)
        (decide ((x.data.take 1024).length < x.data.length))] ∧
      ∀ (out : List Msg) (tx : EngineSt) (cells : Tab Val),
        { s.readPart c x 0 with out := out, tx := tx, cells := cells } = { s with out := out, tx := tx, cells := cells } := by
  simp only [State.readPart, Nat.not_lt_zero, if_false, List.drop_zero, Nat.zero_add, messageLimit]
  split
  · exact ⟨rfl, fun _ _ _ => rfl⟩
  · exact ⟨rfl, fun _ _ _ => rfl⟩

/-- A first segment of a write that is not the last: its bytes are kept under the tag. -/
theorem State.writePart_start (s : State) (c : Client) (k : Conn) {w : WItem} {tag total : Nat} (hlimit : w.bytes.length ≤ 1024)
    (hfits : w.bytes.length ≤ total) :
    s.writePart c k ⟨tag, c.conn, c.reqId, true, { w with bytes := [] }, total, [], s.ticks⟩ w 0 true =
      (s.reply c Op.WRITE_SEGMENT tag St.OK []).setSegment
        ⟨tag, c.conn, c.reqId, true, { w with bytes := [] }, total, w.bytes, s.ticks⟩ := by
  simp [State.writePart, messageLimit, hlimit, hfits]

section Transfers
variable {s : State} {c : Client} {k : Conn} {tag : Nat} (h : s.acceptsQuery c k tag)
include h

/-- READ_SEGMENT with no transfer under way, of an entry that passes its check: the snapshot's first part. -/
theorem execReadSegment_start {index sub : Nat} {r : Nat × Nat × List Byte} (hnone : s.segment c false = none)
    (hbar : (s.takeTag tag (some c.conn)).barred k.service index = false)
    (hr : (s.takeTag tag (some c.conn)).asRead.readEntry c.shadow index sub = r) (hok : r.1 = St.OK) :
    execReadSegment c index sub 0 s = .next ((s.takeTag tag (some c.conn)).readPart c
      ⟨tag, c.conn, c.reqId, false, ⟨index, sub, r.2.1, []⟩, r.2.2.length, r.2.2, (s.takeTag tag (some c.conn)).ticks⟩ 0) := by
  obtain ⟨hconn, hheader, htag⟩ := h
  simp [execReadSegment, hconn, hheader, hnone, htag, hbar, hr, hok, ok]

/-- WRITE_SEGMENT with no transfer under way: its bytes begin one. -/
theorem execWriteSegment_start {w : WItem} {total : Nat} (hnone : s.segment c true = none) (hlimit : w.bytes.length ≤ 1024)
    (hfits : w.bytes.length ≤ total) :
    execWriteSegment c w 0 total true s = .next (((s.takeTag tag (some c.conn)).reply c Op.WRITE_SEGMENT tag St.OK []).setSegment
      ⟨tag, c.conn, c.reqId, true, { w with bytes := [] }, total, w.bytes, s.ticks⟩) := by
  obtain ⟨hconn, hheader, htag⟩ := h
  have hstart := (s.takeTag tag (some c.conn)).writePart_start c k (tag := tag) hlimit hfits
  rw [State.takeTag_ticks] at hstart
  simp [execWriteSegment, hconn, hheader, hnone, htag, hstart, ok]

end Transfers

theorem execSegmentTimeout_due {s : State} {tag : Fin 256} {x : Segment} (hx : s.tx.segments.find? (fun y => y.tag == tag.val) = some x)
    (hdue : x.last + s.nat Ent.SEGMENT_TIMEOUT * 20 ≤ s.ticks) :
    execSegmentTimeout tag s = .next ((s.send (answerMsg x.conn (if x.write then Op.WRITE_SEGMENT else Op.READ_SEGMENT) x.reqId
      St.CANCELLED x.tag false [])).endSegment x.tag) := by
  simp [execSegmentTimeout, hx, msTicks, hdue, ok]

/-- Settles O20: the first segment of each direction on the state with its tag taken, and the silent transfer's end. -/
theorem segmentsMoveLongValues : Obligations.SegmentsMoveLongValues := by
  intro s
  refine ⟨fun c k tag index sub h hnone => ?_, fun c k tag total w h hnone hlimit hfits => ?_, fun tag x hx hdue => ?_⟩
  · intro s1 hbar hok v
    have htaken : { s1 with tx := s.tx, cells := s.cells } = s := s.takeTag_frame tag (some c.conn)
    have hout : s1.out = s.out := (congrArg State.out htaken :)
    refine ⟨_, execReadSegment_start h hnone hbar rfl hok, ?_, ?_⟩
    · rw [(State.readPart_start ..).1, ← hout]
    · rw [(State.readPart_start ..).2, ← hout, htaken]
  · refine ⟨_, _, execWriteSegment_start h hnone hlimit hfits, State.mem_setSegment .., rfl, rfl, rfl, ?_, ?_⟩
    · rw [State.setSegment_out, State.reply_out, State.takeTag_out]
    · exact congrArg (fun y : State => { y with out := s.out }) (s.takeTag_frame tag (some c.conn))
  · obtain ⟨hsegments, htags⟩ := State.endSegment_frees (s.send (answerMsg x.conn
      (if x.write then Op.WRITE_SEGMENT else Op.READ_SEGMENT) x.reqId St.CANCELLED x.tag false [])) x.tag
    exact ⟨_, execSegmentTimeout_due hx hdue, hsegments, htags, rfl, rfl⟩

end Sys2Proof.Machine
end

section
/-!
PROOFS. Connections, notifications and peers (O21): a connection opened, refused and closed, the records a subscription takes, and
PEER_STATE (R101, R103, R104, R425).
-/
namespace Sys2Proof.Machine
open Sys2Proof

/-! ### Opening and closing -/

section Open
variable {s : State} (conn : Nat) {o : ConnOpen}

/-- A chain is judged where its interface is served and its port is the dictionary's. -/
theorem connectionGuard_passes (hserve : s.mayServe o.service = true) (hport : o.port = s.nat Ent.DICT_PORT) :
    (!s.mayServe o.service || o.port != s.nat Ent.DICT_PORT) = false := by
  simp [hserve, hport]

/-- An accepted chain opens its connection while its interface has room. -/
theorem execConnectionOpen_accepted {r : Role} (hserve : s.mayServe o.service = true) (hport : o.port = s.nat Ent.DICT_PORT)
    (hchain : s.chainRefusal o = none) (hnew : Tab.find s.tx.conns conn = none) (hrole : o.anchor.bind s.chainRole = some r)
    (hroom : (s.tx.conns.filter (fun k => k.2.service == o.service)).length < (if o.service then 1 else 16)) :
    execConnectionOpen conn o s =
      .next { s with tx := { s.tx with conns := Tab.set s.tx.conns conn ⟨o.service, r, o.identity, o.digest, none, []⟩ } } := by
  simp only [execConnectionOpen, connectionGuard_passes hserve hport, Bool.false_eq_true, if_false, hchain, hnew, Option.isSome_none,
    Bool.false_or, decide_eq_true_eq, ge_iff_le, Nat.not_le.2 hroom, hrole, ok]

/-- A refused chain opens nothing and raises its event. -/
theorem execConnectionOpen_refused {cause : Nat} (hserve : s.mayServe o.service = true) (hport : o.port = s.nat Ent.DICT_PORT)
    (hchain : s.chainRefusal o = some cause) :
    execConnectionOpen conn o s = .next (s.raise Evt.CLIENT_REFUSED (b2n o.service) cause (low 32 o.digest)) := by
  simp only [execConnectionOpen, connectionGuard_passes hserve hport, Bool.false_eq_true, if_false, hchain, ok]

theorem execConnectionOpen_unserved (h : s.mayServe o.service = false ∨ o.port ≠ s.nat Ent.DICT_PORT) :
    execConnectionOpen conn o s = .next s := by
  have hguard : (!s.mayServe o.service || o.port != s.nat Ent.DICT_PORT) = true := by simpa using h
  rw [execConnectionOpen, hguard]
  rfl

end Open

/-! ### Notifications -/

theorem execEventNotify_overrun {s : State} {conn : Nat} {k : Conn} (delivered : Nat) (hk : Tab.find s.tx.conns conn = some k)
    (hsub : k.subscription.isSome) (hfar : 256 < k.behind.length) :
    execEventNotify conn delivered s =
      .next (({ s with tx := { s.tx with conns := Tab.set s.tx.conns conn { k with subscription := none, behind := [] } } } : State).send
        ⟨.client, conn, .eventNotify, [(St.CANCELLED : Int)], []⟩) := by
  have hopen : k.subscription.isNone = false := by rw [← Option.not_isSome, hsub]; rfl
  simp [execEventNotify, hk, hopen, hfar, ok]

theorem execEventNotify_delivers {s : State} {conn : Nat} {k : Conn} (delivered : Nat) (hk : Tab.find s.tx.conns conn = some k)
    (hsub : k.subscription.isSome) (hnear : ¬ 256 < k.behind.length) :
    execEventNotify conn delivered s =
      .next (({ s with tx := { s.tx with conns := Tab.set s.tx.conns conn { k with behind := k.behind.drop (min 36 delivered) } } } : State).send
        ⟨.client, conn, .eventNotify, [(St.OK : Int)], recordBody (k.behind.take (min 36 delivered))⟩) := by
  have hopen : k.subscription.isNone = false := by rw [← Option.not_isSome, hsub]; rfl
  simp [execEventNotify, hk, hopen, hnear, ok]

/-! ### Peers -/

/-- PEER_STATE written: it reads the value, and nothing else changes. -/
theorem State.setNat_peerState (s : State) (e : Fin 32) (v : Nat) :
    (s.setNat Ent.PEER_STATE e v).nat Ent.PEER_STATE e = v ∧ s.cellsKept (s.setNat Ent.PEER_STATE e v) [Ent.PEER_STATE.key e] ∧
      { s.setNat Ent.PEER_STATE e v with cells := s.cells } = s :=
  ⟨State.nat_setNat_same .., State.cellsKept_put (State.cellsKept_of_cells rfl _) _ (List.mem_singleton.2 rfl), rfl⟩

theorem execPeerConnect_enabled {s : State} {e : Fin 32} (accepted : Bool) (h : s.flag Ent.PEER_ENABLED e = true) :
    execPeerConnect e accepted s = .next (s.setNat Ent.PEER_STATE e (if accepted then 2 else 3)) := by
  rw [execPeerConnect, h, if_pos rfl, ok]

theorem execPeerConnect_disabled {s : State} {e : Fin 32} (accepted : Bool) (h : s.flag Ent.PEER_ENABLED e = false) :
    execPeerConnect e accepted s = .next (s.setNat Ent.PEER_STATE e 0) := by
  rw [execPeerConnect, h, if_neg Bool.false_ne_true, ok]

/-- Settles O21: each command by its branch, with what the table of connections holds after it. -/
theorem connectionsAndSubscriptions : Obligations.ConnectionsAndSubscriptions := by
  intro s
  refine ⟨fun conn o r hserve hport hchain hnew hrole hroom => ?_, fun conn cause o hserve hport hchain => ?_,
    fun conn o h => execConnectionOpen_unserved conn h, fun conn => ?_, fun conn delivered k hk hsub => ?_,
    fun e accepted h => ⟨_, execPeerConnect_enabled accepted h, s.setNat_peerState e _⟩,
    fun e accepted h => ⟨_, execPeerConnect_disabled accepted h, s.setNat_peerState e _⟩⟩
  · exact ⟨_, execConnectionOpen_accepted conn hserve hport hchain hnew hrole hroom, Tab.find_set_same ..,
      fun j hj => Tab.find_set_ne _ _ _ _ hj, rfl⟩
  · exact ⟨_, execConnectionOpen_refused conn hserve hport hchain, State.raiseWith_tx .., rfl, s.raise_frame _ _ _ _ s.ev⟩
  · exact ⟨_, rfl, Tab.find_erase_same .., fun j hj => Tab.find_erase_ne _ _ _ hj, rfl⟩
  · by_cases hfar : 256 < k.behind.length
    · refine ⟨_, execEventNotify_overrun delivered hk hsub hfar, ?_, rfl⟩
      rw [if_pos hfar]
      exact ⟨Tab.find_set_same .., rfl⟩
    · refine ⟨_, execEventNotify_delivers delivered hk hsub hfar, ?_, rfl⟩
      rw [if_neg hfar]
      exact ⟨Tab.find_set_same .., rfl⟩

end Sys2Proof.Machine
end

section
/-!
PROOFS. A write refused on receipt (O19): a KEY_UPDATE that fails its own checks is answered at once and logged (R97, R421), so a refused
write may change the event log.
-/
namespace Sys2Proof.Machine
open Sys2Proof

/-- A raised event is logged or counted as dropped (R107): either way the log's record changes. -/
theorem State.raise_ev_ne (s : State) (k : EvKind) (i p q : Nat) : (s.raise k i p q).ev ≠ s.ev := by
  intro heq
  rw [State.raise, State.raiseWith] at heq
  split at heq
  · have hcount : s.ev.count + 1 = s.ev.count := congrArg EventSt.count heq
    omega
  · have hdropped : s.ev.dropped + 1 = s.ev.dropped := congrArg EventSt.dropped heq
    omega

/-- A client's WRITE as the engine holds it, under a tag. -/
def State.heldWrite (s : State) (c : Client) (k : Conn) (tag : Nat) (w : WItem) : Held :=
  ⟨s.sfn, c.offset, tag, c.conn, k.role, k.service, k.identity, c.reqId, Op.WRITE, c.shadow, c.queue, [w]⟩

/-- A write that fails its receipt checks is refused from the state its note leaves. -/
theorem execWrite_refused {s : State} {c : Client} {k : Conn} {tag : Nat} {w : WItem}
    (hconn : Tab.find s.tx.conns c.conn = some k) (hheader : headerStatus c = St.OK) (hnew : s.keptFor k.identity c.reqId = none)
    (htag : s.tx.freeTag c.conn = some tag) (hfail : (s.takeTag tag (some c.conn)).itemReceipt (s.heldWrite c k tag w) w ≠ St.OK) :
    execWrite c w s = .next (((s.takeTag tag (some c.conn)).receiptNote (s.heldWrite c k tag w) w).refuse (s.heldWrite c k tag w)
      ((s.takeTag tag (some c.conn)).itemReceipt (s.heldWrite c k tag w) w) []) := by
  unfold State.heldWrite at hfail ⊢
  simp [execWrite, State.receiveRequest, hconn, hheader, hnew, htag, hfail, ok]

section KeyUpdate
variable {s : State} {h : Held} {w : WItem} {n j : Nat} (hbar : s.barred h.service w.index = false)
  (hpass : s.receiptStatus h.role h.service h.shadow w = St.OK) (hfound : findEntry w.index w.sub = some ⟨Ent.KEY_UPDATE, n, j⟩)
  (hkey : s.keyStatus n w.bytes ≠ St.OK)
include hkey

theorem applyKeyUpdate_refused :
    applyKeyUpdate n w.bytes s = (s.raise Evt.KEY_REFUSED n (s.keyStatus n w.bytes) (kuCounter w.bytes), s.keyStatus n w.bytes) := by
  simp only [applyKeyUpdate, bne_iff_ne, ne_eq, hkey, not_false_eq_true, if_true]

include hbar hpass hfound

/-- A KEY_UPDATE that passes R97 and fails R421 has the status of R421. -/
theorem State.itemReceipt_keyUpdate : s.itemReceipt h w = s.keyStatus n w.bytes := by
  rw [State.itemReceipt, hbar, hpass, hfound]
  exact congrArg Prod.snd (applyKeyUpdate_refused hkey)

/-- It leaves its event (R421). -/
theorem State.receiptNote_keyUpdate :
    s.receiptNote h w = s.raise Evt.KEY_REFUSED n (s.keyStatus n w.bytes) (kuCounter w.bytes) := by
  simp [State.receiptNote, hbar, hpass, hfound, applyKeyUpdate_refused hkey, hkey]

end KeyUpdate

/-- A WRITE of KEY_UPDATE refused by R421 raises its event, with the slot, the status and the counter of the message. -/
theorem execWrite_keyUpdate_raises {s t : State} {c : Client} {k : Conn} {tag n j : Nat} {w : WItem}
    (hconn : Tab.find s.tx.conns c.conn = some k) (hheader : headerStatus c = St.OK) (hnew : s.keptFor k.identity c.reqId = none)
    (htag : s.tx.freeTag c.conn = some tag) (hbar : (s.takeTag tag (some c.conn)).barred k.service w.index = false)
    (hpass : (s.takeTag tag (some c.conn)).receiptStatus k.role k.service c.shadow w = St.OK)
    (hfound : findEntry w.index w.sub = some ⟨Ent.KEY_UPDATE, n, j⟩) (hkey : (s.takeTag tag (some c.conn)).keyStatus n w.bytes ≠ St.OK)
    (ht : execWrite c w s = .next t) :
    s.raised t Evt.KEY_REFUSED n ((s.takeTag tag (some c.conn)).keyStatus n w.bytes) (kuCounter w.bytes) := by
  have hstatus := State.itemReceipt_keyUpdate (h := s.heldWrite c k tag w) hbar hpass hfound hkey
  have hexec := execWrite_refused hconn hheader hnew htag (hstatus.trans_ne hkey)
  rw [State.raised, ← Host.Outcome.next.inj (hexec.symm.trans ht), State.refuse_ev,
    State.receiptNote_keyUpdate (h := s.heldWrite c k tag w) hbar hpass hfound hkey]
  exact State.raise_ev_congr (State.takeTag_ev ..) (State.takeTag_sfn ..) (State.takeTag_cycle ..) (State.takeTag_time ..) ..

/-- Refutes O19: a KEY_UPDATE of 320 zero bytes, written by an engineer to a device in RUN, passes R97 and fails the form check of R421.
Its refusal is logged as event 0xB007, where the statement leaves no change of the event log. -/
theorem not_writesWaitForTheirBoundary : ¬ Obligations.WritesWaitForTheirBoundary := by
  intro hall
  obtain ⟨s, c, k, w, hconn, hheader, hnew, htag, hbar, hpass, hfound, hkey⟩ :
      ∃ (s : State) (c : Client) (k : Conn) (w : WItem), Tab.find s.tx.conns c.conn = some k ∧ headerStatus c = St.OK ∧
        s.keptFor k.identity c.reqId = none ∧ s.tx.freeTag c.conn = some 0 ∧
        (s.takeTag 0 (some c.conn)).barred k.service w.index = false ∧
        (s.takeTag 0 (some c.conn)).receiptStatus k.role k.service c.shadow w = St.OK ∧
        findEntry w.index w.sub = some ⟨Ent.KEY_UPDATE, 0, 0⟩ ∧ (s.takeTag 0 (some c.conn)).keyStatus 0 w.bytes ≠ St.OK :=
    ⟨{ State.reset with
        tx := { State.reset.tx with conns := [(0, ⟨false, .engineer, [1#8], 1, none, []⟩)] }
        cells := [(Ent.DEVICE_STATE.key, .num Dev.RUN)] },
      ⟨0, 1, 332, 7, false, false, 0, none⟩, ⟨false, .engineer, [1#8], 1, none, []⟩, ⟨0xB100, 4, 11, List.replicate 320 0#8⟩,
      by decide +kernel⟩
  have hstatus := State.itemReceipt_keyUpdate (h := s.heldWrite c k 0 w) hbar hpass hfound hkey
  obtain ⟨-, hrefused, -⟩ := hall s c k 0 hconn hheader hnew htag
  obtain ⟨t, ht, -, -, hframe⟩ := hrefused w (hstatus.trans_ne hkey)
  have hraised := execWrite_keyUpdate_raises hconn hheader hnew htag hbar hpass hfound hkey ht
  have hkept : t.ev = s.ev := (congrArg State.ev hframe :)
  exact State.raise_ev_ne _ _ _ _ _ (Eq.trans hraised.symm hkept)

end Sys2Proof.Machine
end

section
/-!
PROOFS. What the rows of the power allocator leave alone (O23, O24): the grants of the other units, the run awaiting publication and the
units as the bus shows them, along the operations of Machine/ModuleBus and Machine/Allocator these rows use.
-/
namespace Sys2Proof.Machine
open Sys2Proof

/-! ### Lists of changes -/

/-- What each change of a list keeps true, for the elements of that list, stays true. -/
theorem State.each_inv_of_mem {α : Type} {s : State} {l : List α} {f : State → α → State} (P : State → Prop) (hs : P s)
    (h : ∀ z, ∀ a ∈ l, P z → P (f z a)) : P (s.each l f) := by
  unfold State.each
  induction l generalizing s with
  | nil => exact hs
  | cons a r ih => exact ih (h s a List.mem_cons_self hs) fun z b hb => h z b (List.mem_cons_of_mem _ hb)

/-- Where every change of a list keeps `Q` and `P`, and that of one element brings `P` about from `Q`, `P` holds after them all. -/
theorem State.each_reaches_of_mem {α : Type} {s : State} {l : List α} {f : State → α → State} (P Q : State → Prop) {a : α} (ha : a ∈ l)
    (hs : Q s) (hinv : ∀ z, ∀ b ∈ l, Q z → Q (f z b)) (hkeep : ∀ z, ∀ b ∈ l, P z → P (f z b)) (hat : ∀ z, Q z → P (f z a)) :
    P (s.each l f) := by
  obtain ⟨l1, l2, rfl⟩ := List.append_of_mem ha
  have hsplit : s.each (l1 ++ a :: l2) f = (f (s.each l1 f) a).each l2 f := by simp [State.each]
  rw [hsplit]
  refine State.each_inv_of_mem P (hat _ (State.each_inv_of_mem Q hs fun z b hb => hinv z b (List.mem_append_left _ hb)))
    fun z b hb => hkeep z b (List.mem_append_right _ (List.mem_cons_of_mem _ hb))

/-- Messages sent for a list all stand among those sent. -/
theorem State.each_send_out {α : Type} (s : State) (l : List α) (m : α → Msg) :
    (s.each l fun z a => z.send (m a)).out = s.out ++ l.map m := by
  unfold State.each
  induction l generalizing s with
  | nil => simp
  | cons a r ih => rw [List.foldl_cons, ih]; simp [State.send]

/-! ### Grants -/

@[simp] theorem State.grants_setGrants_same (s : State) (u : Nat) (g : UnitGrant) : (s.setGrants u g).grants u = g :=
  Tab.get_set_same ..

theorem State.grants_setGrants_ne (s : State) {u w : Nat} (g : UnitGrant) (h : u ≠ w) : (s.setGrants w g).grants u = s.grants u :=
  Tab.get_set_ne _ _ _ _ _ h

/-- A unit's grants stand in the allocator's table. -/
theorem State.grants_congr {s t : State} (h : t.alloc = s.alloc) (u : Nat) : t.grants u = s.grants u := by
  rw [State.grants, State.grants, h]

@[simp] theorem State.grants_put (s : State) (e : Entry) (n j : Nat) (v : Val) (u : Nat) : (s.put e n j v).grants u = s.grants u :=
  State.grants_congr (State.put_alloc ..) u

@[simp] theorem State.grants_raise (s : State) (k : EvKind) (i p q u : Nat) : (s.raise k i p q).grants u = s.grants u :=
  State.grants_congr (State.raiseWith_alloc ..) u

@[simp] theorem State.unitSt_setUnitSt_same (s : State) (u : Nat) (x : UnitSt) : (s.setUnitSt u x).unitSt u = x :=
  Tab.get_set_same ..

/-! ### An aborted self-test -/

/-- An entry of the engine's tags, a unit's state, outlet or test result, by its sub-index: what the abort of a self-test writes is among
these. -/
def Entry.ofUnitTest (e : Entry) : Prop := e.sub ∈ [0x01, 0x02, 0x22, 0x23, 0x38]

section Blind
variable {β : Type} (g : State → β) (hput : ∀ (z : State) (e : Entry) n v, e.ofUnitTest → g (z.put e n 0 v) = g z)
  (hraise : ∀ (z : State) k i p q, g (z.raise k i p q) = g z)
  (hrest : ∀ (z : State) o t r x l q,
    g { z with out := o, tx := t, running := r, bus := { z.bus with xfers := x, tests := l, queue := q } } = g z)

include hput hrest in
/-- A tag taken moves the engine and its two counters. -/
theorem State.takeTag_blind (s : State) (a : Nat) (c : Option Nat) : g (s.takeTag a c) = g s := by
  have hin : Ent.TAGS_IN_USE.ofUnitTest := by unfold Entry.ofUnitTest; decide
  have hhigh : Ent.TAGS_HIGH_WATER.ofUnitTest := by unfold Entry.ofUnitTest; decide
  unfold State.takeTag State.when
  extract_lets tx s1 k
  have h1 : g (s1.setNat Ent.TAGS_IN_USE 0 k) = g s := (hput s1 _ _ _ hin).trans (hrest s _ _ _ _ _ _)
  split
  · exact (hput _ _ _ _ hhigh).trans h1
  · exact h1

include hput hrest in
/-- A transfer to a unit is the bus's and the engine's. -/
theorem State.startXfer_blind (s : State) (u : Nat) (write : Bool) (index sub type : Nat) (value : List Byte) :
    g (s.startXfer u write index sub type value) = g s := by
  unfold State.startXfer
  split
  · exact (State.sendBus_keeps g (fun z o => hrest z o _ _ _ _ _) (fun z q => hrest z _ _ _ _ _ q) _ _).trans
      ((State.takeTag_blind g hput hrest _ _ _).trans (hrest s _ _ _ _ _ _))
  · exact hrest s _ _ _ _ _ _

include hraise hrest in
theorem State.endTest_reads (s : State) (target status : Nat) : g (s.endTest target status) = g s := by
  unfold State.endTest
  split
  · rfl
  · dsimp only
    split
    · exact (hraise _ _ _ _ _).trans (hrest s _ _ _ _ _ _)
    · exact hrest s _ _ _ _ _ _

include hput hraise hrest in
/-- The abort of a unit's self-test (R157) leaves what reads neither the bus's transfers and tests, nor those entries, nor the log. -/
theorem State.abortUnitTest_blind (s : State) (u : Nat) : g (s.abortUnitTest u) = g s := by
  have hmodule : Ent.MODULE_UNIT_TEST_RESULT.ofUnitTest ∧ Ent.MODULE_STATE.ofUnitTest := by unfold Entry.ofUnitTest; decide
  have hfe : Ent.FE_UNIT_TEST_RESULT.ofUnitTest ∧ Ent.FE_STATE.ofUnitTest := by unfold Entry.ofUnitTest; decide
  unfold State.abortUnitTest
  split
  · rfl
  · next t _ =>
    extract_lets target bus s1 s2 s3 s4
    have h2 : g s2 = g s := by
      simp only [s2]
      split
      · exact (State.startXfer_blind g hput hrest ..).trans (hrest s _ _ _ _ _ _)
      · exact hrest s _ _ _ _ _ _
    have h3 : g s3 = g s2 := by
      simp only [s3, State.setUnitNat]
      split
      · exact hput _ _ _ _ hmodule.1
      · exact hput _ _ _ _ hfe.1
    have h4 : g s4 = g s := (hraise _ _ _ _ _).trans ((State.endTest_reads g hraise hrest ..).trans (h3.trans h2))
    split
    · exact (hput _ _ _ _ hmodule.2).trans h4
    · exact (hput _ _ _ _ hfe.2).trans h4

end Blind

theorem State.unitSt_congr {s t : State} (h : t.bus = s.bus) (u : Nat) : t.unitSt u = s.unitSt u := by
  rw [State.unitSt, State.unitSt, h]

/-! ### The run, the units and the last set-points -/

/-- The run awaiting publication, the frame of the last set-point blocks, and the units as their messages show them. -/
def State.unitSide (s : State) : Option Run × Option Nat × Tab UnitSt := (s.alloc.run, s.alloc.sentAt, s.bus.units)

section UnitSide
variable {s t : State} (h : t.unitSide = s.unitSide)
include h

theorem State.run_of_unitSide : t.alloc.run = s.alloc.run := congrArg Prod.fst h
theorem State.sentAt_of_unitSide : t.alloc.sentAt = s.alloc.sentAt := congrArg (fun x => x.2.1) h
theorem State.unitSt_of_unitSide (u : Nat) : t.unitSt u = s.unitSt u :=
  congrArg (fun x : Option Run × Option Nat × Tab UnitSt => Tab.get UnitSt.none x.2.2 u) h

end UnitSide

@[simp] theorem State.put_unitSide (s : State) (e : Entry) (n j : Nat) (v : Val) : (s.put e n j v).unitSide = s.unitSide := by
  rw [State.unitSide, State.put_alloc, State.put_bus, State.unitSide]

@[simp] theorem State.raiseWith_unitSide (s : State) (b : Bool) (k : EvKind) (i p q : Nat) :
    (s.raiseWith b k i p q).unitSide = s.unitSide := by
  rw [State.unitSide, State.raiseWith_alloc, State.raiseWith_bus, State.unitSide]

@[simp] theorem State.setGrants_unitSide (s : State) (u : Nat) (g : UnitGrant) : (s.setGrants u g).unitSide = s.unitSide := rfl

@[simp] theorem State.sendBus_unitSide (s : State) (m : Msg) : (s.sendBus m).unitSide = s.unitSide :=
  State.sendBus_keeps State.unitSide (fun _ _ => rfl) (fun _ _ => rfl) s m

@[simp] theorem State.command_unitSide (s : State) (m sub : Nat) (body : List Byte) : (s.command m sub body).unitSide = s.unitSide := by
  simp [State.command]

@[simp] theorem State.switchModule_unitSide (s : State) (m o : Nat) : (s.switchModule m o).unitSide = s.unitSide :=
  State.command_unitSide ..

@[simp] theorem State.startMove_unitSide (s : State) (m : Nat) (kind : MoveKind) (src dst step : Nat) :
    (s.startMove m kind src dst step).unitSide = s.unitSide := by
  simp [State.startMove]

@[simp] theorem State.abortUnitTest_unitSide (s : State) (u : Nat) : (s.abortUnitTest u).unitSide = s.unitSide :=
  State.abortUnitTest_blind State.unitSide (fun _ _ _ _ _ => State.put_unitSide ..) (fun _ _ _ _ _ => State.raiseWith_unitSide ..)
    (fun _ _ _ _ _ _ _ => rfl) s u

@[simp] theorem State.assignModules_unitSide (s : State) (o n : Nat) : (s.assignModules o n).unitSide = s.unitSide := by
  have hassigned (l : List Nat) : (s.each l fun z m => (z.startMove m .assign 0xFF o 1).switchModule m o).unitSide = s.unitSide :=
    State.each_keeps _ _ _ State.unitSide fun z m => by simp
  unfold State.assignModules
  dsimp only
  split
  · split
    · rw [State.abortUnitTest_unitSide, hassigned]
    · exact hassigned _
  · exact hassigned _

@[simp] theorem State.serveWaiting_unitSide (s : State) (o : Nat) : (s.serveWaiting o).unitSide = s.unitSide := by
  unfold State.serveWaiting
  dsimp only
  split
  · exact State.assignModules_unitSide ..
  · rfl

@[simp] theorem State.sendCommands_unitSide (s : State) (m : Nat) : (s.sendCommands m).unitSide = s.unitSide := by
  unfold State.sendCommands
  dsimp only
  refine (State.each_keeps _ _ _ State.unitSide fun z c => State.sendBus_unitSide ..).trans ?_
  rw [State.setGrants_unitSide]
  split
  · split
    · exact State.switchModule_unitSide ..
    · rfl
  · rfl

end Sys2Proof.Machine
end

section
/-!
PROOFS. The run of the allocator from its computation to its publication (O23): ALLOCATOR_RUN, LIMIT_RECHECK and GRANT_PUBLISH, in their
cycle and out of it (R111, R117, R118).
-/
namespace Sys2Proof.Machine
open Sys2Proof

/-! ### ALLOCATOR_RUN -/

theorem State.fitNat_of_fits {e : Entry} {v : Nat} (h : v < 2 ^ e.type.bits) (s : State) (n j : Nat) : s.fitNat e n v j = s.setNat e n v j :=
  if_pos h

theorem execAllocatorRun_due {s : State} (us : Nat) (hup : s.controlUp = true) (hcycle : s.cycle = 1) :
    execAllocatorRun us s = .next (((s.allocatorRun.each (List.range 8) fun z o => z.serveWaiting o).fitNat Ent.ALLOC_COMPUTE_LAST 0 us).when
      (decide (us > s.nat Ent.ALLOC_COMPUTE_MAX)) fun z => z.fitNat Ent.ALLOC_COMPUTE_MAX 0 us) := by
  rw [execAllocatorRun, hup, hcycle]
  rfl

theorem execAllocatorRun_idle {s : State} (us : Nat) (h : s.controlUp = false ∨ s.cycle ≠ 1) : execAllocatorRun us s = .next s :=
  if_pos (by simpa using h)

/-- A run computes what awaits publication (R111). -/
theorem State.allocatorRun_run (s : State) : ∃ r, s.allocatorRun.alloc.run = some r := ⟨_, rfl⟩

/-- What serves the waiting sessions leaves the run that was computed. -/
theorem State.serveAll_run (z : State) : (z.each (List.range 8) fun y o => y.serveWaiting o).alloc.run = z.alloc.run :=
  State.run_of_unitSide (State.each_keeps z _ _ State.unitSide fun y o => y.serveWaiting_unitSide o)

/-- The compute time is shown as the last, and as the greatest where it is (Table 5-6). -/
theorem State.showCompute (z : State) {us max : Nat} (hfits : us < 2 ^ Ent.ALLOC_COMPUTE_LAST.type.bits) :
    let t := (z.fitNat Ent.ALLOC_COMPUTE_LAST 0 us).when (decide (us > max)) fun y => y.fitNat Ent.ALLOC_COMPUTE_MAX 0 us
    t.alloc = z.alloc ∧ t.nat Ent.ALLOC_COMPUTE_LAST = us ∧ (max < us → t.nat Ent.ALLOC_COMPUTE_MAX = us) := by
  have hmax : us < 2 ^ Ent.ALLOC_COMPUTE_MAX.type.bits := hfits
  have hapart : Ent.ALLOC_COMPUTE_LAST.key 0 0 ≠ Ent.ALLOC_COMPUTE_MAX.key 0 0 := Entry.key_ne_of_sub (by decide) 0 0
  intro t
  by_cases hlonger : max < us
  · have ht : t = (z.setNat Ent.ALLOC_COMPUTE_LAST 0 us).setNat Ent.ALLOC_COMPUTE_MAX 0 us := by
      simp only [t, State.when, State.fitNat_of_fits hfits, State.fitNat_of_fits hmax, gt_iff_lt, hlonger, decide_true, if_true]
    rw [ht]
    refine ⟨by simp, ?_, fun _ => State.nat_setNat_same ..⟩
    rw [State.setNat_eq, State.nat_put_ne _ _ hapart, State.nat_setNat_same]
  · have ht : t = z.setNat Ent.ALLOC_COMPUTE_LAST 0 us := by
      simp only [t, State.when, State.fitNat_of_fits hfits, gt_iff_lt, hlonger, decide_false, Bool.false_eq_true, if_false]
    rw [ht]
    exact ⟨by simp, State.nat_setNat_same .., fun h => absurd h hlonger⟩

/-! ### LIMIT_RECHECK -/

/-- A fault report read again takes the grant of its module, and of no other (R117). -/
theorem State.recheckUnit_modules (acc : State × Run) (u m : Nat) :
    Tab.get 0 (State.recheckUnit acc u).2.modules m = if m = u ∧ u < 64 then 0 else Tab.get 0 acc.2.modules m := by
  unfold State.recheckUnit
  dsimp only
  by_cases hmodule : u < 64
  · simp only [hmodule, if_true, and_true]
    split
    · next h => rw [h, Tab.get_set_same]
    · next h => rw [Tab.get_set_ne _ _ _ _ _ h]
  · simp only [hmodule, if_false, and_false]

/-- After the reports are read every module among them has no grant. -/
theorem State.recheckUnits_modules {u : Nat} (hmodule : u < 64) (l : List Nat) (acc : State × Run)
    (h : u ∈ l ∨ Tab.get 0 acc.2.modules u = 0) : Tab.get 0 (l.foldl State.recheckUnit acc).2.modules u = 0 := by
  induction l generalizing acc with
  | nil => exact h.resolve_left List.not_mem_nil
  | cons w r ih =>
    refine ih _ ?_
    rw [State.recheckUnit_modules]
    split
    · exact .inr rfl
    · next hother =>
      refine h.imp_left fun hmem => (List.mem_cons.1 hmem).resolve_left fun huw => hother ⟨huw, huw ▸ hmodule⟩

/-- The recheck ends with the fault reports, read on the state and run the strings and cables have come to. -/
theorem execLimitRecheck_due {s : State} {r : Run} (hrun : s.alloc.run = some r) (hup : s.controlUp = true) (hcycle : s.cycle = 12) :
    ∃ acc : State × Run, ∃ z r1, s.alloc.faulted.foldl State.recheckUnit acc = (z, r1) ∧
      execLimitRecheck s = .next { z with alloc := { z.alloc with run := some r1, faulted := [] } } := by
  have hdue : (if s.controlUp && s.cycle == 12 then s.alloc.run else none) = some r := by rw [hup, hcycle, hrun]; rfl
  unfold execLimitRecheck
  rw [hdue]
  dsimp only
  exact ⟨_, _, _, rfl, rfl⟩

theorem execLimitRecheck_idle {s : State} (h : s.controlUp = false ∨ s.cycle ≠ 12 ∨ s.alloc.run = none) : execLimitRecheck s = .next s := by
  have hnone : (if s.controlUp && s.cycle == 12 then s.alloc.run else none) = none := by
    rcases h with h | h | h <;> simp [h]
  unfold execLimitRecheck
  rw [hnone]
  rfl

/-! ### GRANT_PUBLISH -/

/-- ALLOC_STATUS is shown beside the allocator's own record (R134). -/
theorem State.showAlloc_alloc (s : State) (published : Bool) (r : Option Run) : (s.showAlloc published r).alloc = s.alloc :=
  State.put_alloc ..

theorem execGrantPublish_due {s : State} (hup : s.controlUp = true) (hcycle : s.cycle = 13) :
    ∃ t, execGrantPublish s = .next t ∧ t.alloc.run = none := by
  have hopen : ¬ (!s.controlUp || s.cycle != 13) = true := by simp [hup, hcycle]
  unfold execGrantPublish
  rw [if_neg hopen]
  refine ⟨_, rfl, ?_⟩
  rw [State.showAlloc_alloc]

theorem execGrantPublish_idle {s : State} (h : s.controlUp = false ∨ s.cycle ≠ 13) : execGrantPublish s = .next s :=
  if_pos (by simpa using h)

end Sys2Proof.Machine
end

section
/-!
PROOFS. The set-points of the module bus (O23): what is due on a channel stays due while the other channels' blocks go out, and what has
gone out stays sent (R145).
-/
namespace Sys2Proof.Machine
open Sys2Proof

/-! ### Messages sent stay sent -/

theorem State.sendBus_out_subset (s : State) (m : Msg) : s.out ⊆ (s.sendBus m).out := by
  unfold State.sendBus
  split
  · exact List.subset_append_left ..
  · exact List.Subset.refl _

theorem State.command_out_subset (s : State) (m sub : Nat) (body : List Byte) : s.out ⊆ (s.command m sub body).out :=
  State.sendBus_out_subset (s.setGrants m _) _

theorem State.each_out_subset {α : Type} (s : State) (l : List α) (f : State → α → State) (h : ∀ z a, z.out ⊆ (f z a).out) :
    s.out ⊆ (s.each l f).out :=
  State.each_inv s l f (fun z => s.out ⊆ z.out) (List.Subset.refl _) fun z a hz => List.Subset.trans hz (h z a)

theorem State.sendCommands_out_subset (s : State) (m : Nat) : s.out ⊆ (s.sendCommands m).out := by
  unfold State.sendCommands
  dsimp only
  refine List.Subset.trans ?_ (State.each_out_subset _ _ _ fun z c => State.sendBus_out_subset ..)
  split
  · split
    · exact State.command_out_subset ..
    · exact List.Subset.refl _
  · exact List.Subset.refl _

theorem State.flushBus_out_subset (s : State) : s.out ⊆ s.flushBus.out := List.subset_append_left ..

/-! ### One channel's blocks -/

/-- A set-point block has gone out on a channel. -/
def State.sentSetpoint (s : State) (ch : Nat) : Prop := ∃ m ∈ s.out, m.port = .can ∧ m.dest = ch ∧ m.kind = .setpoint

theorem State.sentSetpoint_of_subset {s t : State} {ch : Nat} (h : s.sentSetpoint ch) (hout : s.out ⊆ t.out) : t.sentSetpoint ch := by
  obtain ⟨m, hm, hblock⟩ := h
  exact ⟨m, hout hm, hblock⟩

theorem State.out_noteSents (s : State) (l : List (Nat × Nat × Int × Nat)) :
    (s.each l fun z x => z.noteSent x.1 x.2.2.1 x.2.2.2).out = s.out :=
  State.each_keeps _ _ _ State.out fun _ _ => rfl

/-- The blocks of a channel are set-points to it. -/
theorem State.mem_blocks {s : State} {ch seq : Nat} {l : List (Nat × Nat × Int × Nat)} {b : Nat × Msg} (hb : b ∈ s.blocks ch seq l) :
    b.2.port = .can ∧ b.2.dest = ch ∧ b.2.kind = .setpoint := by
  obtain ⟨i, -, rfl⟩ := List.mem_map.1 hb
  exact ⟨rfl, rfl, rfl⟩

/-- Entries fill one block at least. -/
theorem State.blocks_ne_nil (s : State) (ch seq : Nat) {l : List (Nat × Nat × Int × Nat)} (hl : l ≠ []) : s.blocks ch seq l ≠ [] := by
  have hsome : 0 < l.length := List.length_pos_iff.2 hl
  have hlength : 0 < cdiv l.length 15 := Nat.div_pos (by omega) (by decide)
  simpa [State.blocks] using Nat.ne_of_gt hlength

theorem State.sendBlocks_none {s : State} {ch : Nat} (h : (s.dueSetpoints ch).take 30 = []) : s.sendBlocks ch = s := by
  unfold State.sendBlocks
  dsimp only
  rw [h]
  rfl

/-- What a channel's blocks change: the messages sent, the channel, and the grants of what was due. -/
theorem State.sendBlocks_some {s : State} {ch : Nat} (h : (s.dueSetpoints ch).take 30 ≠ []) :
    ∃ x : CanSt, s.sendBlocks ch = ((s.setCan ch x).each (if s.canUp ch then s.blocks ch (s.can ch).seq ((s.dueSetpoints ch).take 30) else [])
      fun z b => z.send b.2).each ((s.dueSetpoints ch).take 30) fun z x => z.noteSent x.1 x.2.2.1 x.2.2.2 := by
  unfold State.sendBlocks
  dsimp only
  rw [if_neg (by simpa using h)]
  exact ⟨_, rfl⟩

theorem State.sendBlocks_out_subset (s : State) (ch : Nat) : s.out ⊆ (s.sendBlocks ch).out := by
  by_cases hdue : (s.dueSetpoints ch).take 30 = []
  · rw [State.sendBlocks_none hdue]
    exact List.Subset.refl _
  · obtain ⟨x, hx⟩ := State.sendBlocks_some hdue
    rw [hx, State.out_noteSents, State.each_send_out]
    exact List.subset_append_left ..

/-- On a channel that carries frames, what is due goes out. -/
theorem State.sendBlocks_sends {s : State} {ch : Nat} (hup : s.canUp ch = true) (hdue : s.dueSetpoints ch ≠ []) :
    (s.sendBlocks ch).sentSetpoint ch := by
  have htake : (s.dueSetpoints ch).take 30 ≠ [] := by simpa using hdue
  obtain ⟨x, hx⟩ := State.sendBlocks_some htake
  obtain ⟨b, hb⟩ := List.exists_mem_of_ne_nil _ (s.blocks_ne_nil ch (s.can ch).seq htake)
  refine ⟨b.2, ?_, State.mem_blocks hb⟩
  rw [hx, State.out_noteSents, State.each_send_out, if_pos hup]
  exact List.mem_append_right _ (List.mem_map_of_mem hb)

/-! ### The other channels' blocks -/

/-- The channel a grant's set-points go out on: a front-end unit's grant to the grid stands 16 above its grant from it. -/
def State.grantChannel (s : State) (u : Nat) : Nat := s.unitChannel (if u < 80 then u else u - 16)

/-- What is due of one grant, for its unit. -/
def State.dueFor (s : State) (u unit base kind : Nat) (late : Bool) : List (Nat × Nat × Int × Nat) :=
  (if (s.grants u).restate then [(u, unit, s.inForce u, base)] else []) ++
    (if s.planned u (s.frames + 2) != s.planned u (s.frames + 1) || (s.grants u).resend || late ||
        ((s.grants u).restate && s.planned u (s.frames + 2) != s.inForce u) then
      [(u, unit, s.planned u (s.frames + 2), kind)] else [])

/-- What is due to one unit. -/
def State.dueOf (s : State) (u : Nat) : List (Nat × Nat × Int × Nat) :=
  if u < 64 then s.dueFor u u 0 (b2n (s.grants u).move.isSome) false
  else s.dueFor u u 2 2 (s.feLate u || s.feLate (u + 16)) ++ s.dueFor (u + 16) u 3 3 (s.feLate (u + 16))

theorem State.dueSetpoints_eq (s : State) (ch : Nat) :
    s.dueSetpoints ch = (List.range 80).flatMap fun u => if !s.fitted u || s.unitChannel u != ch then [] else s.dueOf u := rfl

theorem State.fst_of_mem_dueFor {s : State} {u unit base kind : Nat} {late : Bool} {x : Nat × Nat × Int × Nat}
    (hx : x ∈ s.dueFor u unit base kind late) : x.1 = u := by
  rcases List.mem_append.1 hx with h | h <;> (split at h; exacts [by rw [List.mem_singleton.1 h], absurd h List.not_mem_nil])

/-- What is due on a channel is of units on that channel. -/
theorem State.grantChannel_of_due {s : State} {ch : Nat} {x : Nat × Nat × Int × Nat} (hx : x ∈ s.dueSetpoints ch) :
    s.grantChannel x.1 = ch := by
  rw [State.dueSetpoints_eq] at hx
  obtain ⟨u, hu, hx⟩ := List.mem_flatMap.1 hx
  have hunit : u < 80 := List.mem_range.1 hu
  split at hx
  · exact absurd hx List.not_mem_nil
  · next hother =>
    obtain ⟨-, hch⟩ : s.fitted u = true ∧ s.unitChannel u = ch := by simpa using hother
    unfold State.dueOf at hx
    split at hx
    · rw [State.fst_of_mem_dueFor hx, State.grantChannel, if_pos hunit, hch]
    · rcases List.mem_append.1 hx with h | h
      · rw [State.fst_of_mem_dueFor h, State.grantChannel, if_pos hunit, hch]
      · rw [State.fst_of_mem_dueFor h, State.grantChannel, if_neg (by omega), Nat.add_sub_cancel, hch]

/-- A state that has sent, taken up channels and noted set-points, but none of channel `ch`. -/
def State.keepsChannel (s z : State) (ch : Nat) : Prop :=
  { z with out := s.out, bus := { z.bus with cans := s.bus.cans }, alloc := { z.alloc with units := s.alloc.units } } = s ∧
    z.can ch = s.can ch ∧ ∀ u, s.grantChannel u = ch → z.grants u = s.grants u

section KeepsChannel
variable {s z : State} {ch : Nat} (h : s.keepsChannel z ch)
include h

/-- What reads neither messages nor channels nor grants is as it was. -/
theorem State.keepsChannel.reads {β : Type} (g : State → β) (hg : ∀ (y : State) o c a,
    g { y with out := o, bus := { y.bus with cans := c }, alloc := { y.alloc with units := a } } = g y) : g z = g s := by
  rw [← hg z s.out s.bus.cans s.alloc.units, h.1]

theorem State.keepsChannel.frames_eq : z.frames = s.frames := h.reads State.frames fun _ _ _ _ => rfl
theorem State.keepsChannel.val_eq (e : Entry) (n j : Nat) : z.val e n j = s.val e n j := h.reads (fun y => y.val e n j) fun _ _ _ _ => rfl
theorem State.keepsChannel.grantChannel_eq (u : Nat) : z.grantChannel u = s.grantChannel u :=
  h.reads (fun y => y.grantChannel u) fun _ _ _ _ => rfl

theorem State.keepsChannel.trans {w : State} (hw : z.keepsChannel w ch) : s.keepsChannel w ch := by
  refine ⟨?_, hw.2.1.trans h.2.1, fun u hu => (hw.2.2 u ((h.grantChannel_eq u).trans hu)).trans (h.2.2 u hu)⟩
  refine (congrArg (fun y : State => { y with
    out := s.out, bus := { y.bus with cans := s.bus.cans }, alloc := { y.alloc with units := s.alloc.units } }) hw.1).trans h.1

theorem State.keepsChannel.inForce_eq {u : Nat} (hu : s.grantChannel u = ch) : z.inForce u = s.inForce u := by
  simp only [State.inForce, State.int_def, h.val_eq, h.2.2 u hu, h.frames_eq]

theorem State.keepsChannel.planned_eq {u : Nat} (f : Nat) (hu : s.grantChannel u = ch) : z.planned u f = s.planned u f := by
  rw [State.planned, h.inForce_eq hu, h.2.2 u hu, State.planned]

theorem State.keepsChannel.dueFor_eq {u : Nat} (unit base kind : Nat) (late : Bool) (hu : s.grantChannel u = ch) :
    z.dueFor u unit base kind late = s.dueFor u unit base kind late := by
  simp only [State.dueFor, h.2.2 u hu, h.inForce_eq hu, h.planned_eq _ hu, h.frames_eq]

theorem State.keepsChannel.feLate_eq {u : Nat} (hu : s.grantChannel u = ch) : z.feLate u = s.feLate u := by
  rw [State.feLate, h.2.2 u hu, h.frames_eq]
  rfl

theorem State.keepsChannel.dueOf_eq {u : Nat} (hunit : u < 80) (hu : s.unitChannel u = ch) : z.dueOf u = s.dueOf u := by
  have himport : s.grantChannel u = ch := by rw [State.grantChannel, if_pos hunit, hu]
  unfold State.dueOf
  split
  · rw [h.dueFor_eq _ _ _ _ himport, h.2.2 u himport]
  · have hexport : s.grantChannel (u + 16) = ch := by rw [State.grantChannel, if_neg (by omega), Nat.add_sub_cancel, hu]
    rw [h.dueFor_eq _ _ _ _ himport, h.dueFor_eq _ _ _ _ hexport, h.feLate_eq himport, h.feLate_eq hexport]

/-- What is due on the channel is still due. -/
theorem State.keepsChannel.dueSetpoints_eq : z.dueSetpoints ch = s.dueSetpoints ch := by
  rw [State.dueSetpoints_eq, State.dueSetpoints_eq]
  refine List.flatMap_congr fun u hu => ?_
  rw [h.reads (fun y => y.fitted u) fun _ _ _ _ => rfl, h.reads (fun y => y.unitChannel u) fun _ _ _ _ => rfl]
  split
  · rfl
  · next hon =>
    obtain ⟨-, hch⟩ : s.fitted u = true ∧ s.unitChannel u = ch := by simpa using hon
    exact h.dueOf_eq (List.mem_range.1 hu) hch

/-- The channel still carries frames. -/
theorem State.keepsChannel.canUp_eq : z.canUp ch = s.canUp ch := by
  simp only [State.canUp, State.nat_def, State.flag_def, h.val_eq, h.2.1, h.frames_eq, h.reads State.die fun _ _ _ _ => rfl]

end KeepsChannel

theorem State.keepsChannel_refl (s : State) (ch : Nat) : s.keepsChannel s ch := ⟨rfl, rfl, fun _ _ => rfl⟩

theorem State.keepsChannel_setCan (s : State) {c ch : Nat} (x : CanSt) (hne : ch ≠ c) : s.keepsChannel (s.setCan c x) ch :=
  ⟨rfl, Tab.get_set_ne _ _ _ _ _ hne, fun _ _ => rfl⟩

theorem State.keepsChannel_sends (s : State) (ch : Nat) (l : List (Nat × Msg)) : s.keepsChannel (s.each l fun z b => z.send b.2) ch :=
  State.each_inv _ _ _ (fun z => s.keepsChannel z ch) (s.keepsChannel_refl ch) fun _ _ hz => ⟨hz.1, hz.2.1, hz.2.2⟩

theorem State.keepsChannel_noteSent (s : State) {u ch : Nat} (v : Int) (kind : Nat) (hu : s.grantChannel u ≠ ch) :
    s.keepsChannel (s.noteSent u v kind) ch :=
  ⟨rfl, rfl, fun _ hw => State.grants_setGrants_ne _ _ fun h => hu (h ▸ hw)⟩

/-- Blocks on one channel leave another channel's set-points. -/
theorem State.keepsChannel_sendBlocks (s : State) {c ch : Nat} (hne : c ≠ ch) : s.keepsChannel (s.sendBlocks c) ch := by
  by_cases hdue : (s.dueSetpoints c).take 30 = []
  · rw [State.sendBlocks_none hdue]
    exact s.keepsChannel_refl ch
  · obtain ⟨x, hx⟩ := State.sendBlocks_some hdue
    rw [hx]
    have hsent := (s.keepsChannel_setCan x hne.symm).trans (State.keepsChannel_sends _ ch
      (if s.canUp c then s.blocks c (s.can c).seq ((s.dueSetpoints c).take 30) else []))
    refine State.each_inv_of_mem (fun z => s.keepsChannel z ch) hsent fun z y hy hz => hz.trans (z.keepsChannel_noteSent _ _ ?_)
    rw [hz.grantChannel_eq, State.grantChannel_of_due (List.mem_of_mem_take hy)]
    exact hne

/-- Of the four channels each that carries frames sends what is due on it. -/
theorem State.sendAllBlocks_sends {s : State} {ch : Nat} (hch : ch < 4) (hup : s.canUp ch = true) (hdue : s.dueSetpoints ch ≠ []) :
    (s.each (List.range 4) fun z c => z.sendBlocks c).sentSetpoint ch := by
  have hat {z : State} (hz : s.keepsChannel z ch) : (z.sendBlocks ch).sentSetpoint ch :=
    State.sendBlocks_sends (hz.canUp_eq.trans hup) (by rw [hz.dueSetpoints_eq]; exact hdue)
  have hkeep (z : State) (c : Nat) (hz : z.sentSetpoint ch) : (z.sendBlocks c).sentSetpoint ch :=
    State.sentSetpoint_of_subset hz (z.sendBlocks_out_subset c)
  refine State.each_reaches (fun z => z.sentSetpoint ch) (fun z => s.keepsChannel z ch ∨ z.sentSetpoint ch) (List.mem_range.2 hch)
    (.inl (s.keepsChannel_refl ch)) (fun z c hz => ?_) hkeep (fun z hz => hz.elim hat (hkeep z ch))
  rcases hz with hz | hz
  · by_cases hc : c = ch
    · exact .inr (by rw [hc]; exact hat hz)
    · exact .inl (hz.trans (z.keepsChannel_sendBlocks hc))
  · exact .inr (hkeep z c hz)

/-! ### SETPOINT_TRANSMIT -/

theorem execSetpointTransmit_due {s : State} (hup : s.controlUp = true) (hfrom : 14 ≤ s.cycle) (hto : s.cycle ≤ 18)
    (hsent : s.alloc.sentAt ≠ some s.frames) :
    ∃ z : State, z = s.each (List.range 4) (fun z c => z.sendBlocks c) ∧ execSetpointTransmit s = .next
      (({ z with alloc := { z.alloc with sentAt := some z.frames } } : State).each ((List.range 64).filter s.fitted)
        fun y m => y.sendCommands m).flushBus := by
  have hopen : ¬ (!s.controlUp || decide (s.cycle < 14) || decide (18 < s.cycle) || s.alloc.sentAt == some s.frames) = true := by
    simp [hup, hsent, Nat.not_lt.2 hfrom, Nat.not_lt.2 hto]
  unfold execSetpointTransmit
  rw [if_neg hopen]
  exact ⟨_, rfl, rfl⟩

theorem execSetpointTransmit_idle {s : State} (h : s.controlUp = false ∨ s.cycle < 14 ∨ 18 < s.cycle ∨ s.alloc.sentAt = some s.frames) :
    execSetpointTransmit s = .next s := by
  refine if_pos ?_
  rcases h with h | h | h | h <;> simp [h]

theorem State.sendAllBlocks_frames (s : State) : (s.each (List.range 4) fun z c => z.sendBlocks c).frames = s.frames :=
  State.each_keeps _ _ _ State.frames fun z c => congrArg (fun x : Nat × Nat × List Instr => x.1 / 20) (z.sendBlocks_clock c)

/-- The frame is noted as the last whose blocks went out, and what went out before the commands has gone out. -/
theorem State.sendAllCommands (z : State) (l : List Nat) {ch : Nat} (hz : z.sentSetpoint ch) :
    let t := (z.each l fun y m => y.sendCommands m).flushBus
    t.alloc.sentAt = z.alloc.sentAt ∧ t.sentSetpoint ch := by
  have hside : (z.each l fun y m => y.sendCommands m).unitSide = z.unitSide :=
    State.each_keeps _ _ _ State.unitSide fun y m => State.sendCommands_unitSide ..
  refine ⟨State.sentAt_of_unitSide hside, State.sentSetpoint_of_subset hz ?_⟩
  exact List.Subset.trans (z.each_out_subset l _ fun y m => y.sendCommands_out_subset m) (State.flushBus_out_subset _)

end Sys2Proof.Machine
end

section
/-!
PROOFS. Step 5 of the boundary (O23): a module's only planned grant, come due, is the grant in force (R19, R118), and what is shown of the
outlets and sent to the modules after it leaves it.
-/
namespace Sys2Proof.Machine
open Sys2Proof

/-! ### One unit -/

/-- A module's only planned grant, come due. -/
theorem State.launchUnit_due {s : State} {u f : Nat} {v : Int} (hu : u < 64) (hplan : (s.grants u).plan = [(f, v)]) (hdue : f ≤ s.frames) :
    s.launchUnit u = (s.setGrants u { s.grants u with plan := [] }).setInt Ent.MODULE_GRANT u v := by
  simp [State.launchUnit, hplan, hdue, Nat.not_lt.2 hdue, hu]

theorem State.launchUnit_unplanned {s : State} {u : Nat} (hplan : (s.grants u).plan = []) : s.launchUnit u = s := by
  simp [State.launchUnit, hplan]

/-- MODULE_GRANT of a module, what is planned for it, and the frame. -/
def State.grantSide (s : State) (u : Nat) : Int × UnitGrant × Nat := (s.int Ent.MODULE_GRANT u, s.grants u, s.frames)

theorem State.setGrants_put_grantSide (s : State) {u w : Nat} (g : UnitGrant) {e : Entry} {n j : Nat} (v : Val) (hw : u ≠ w)
    (hkey : Ent.MODULE_GRANT.key u ≠ e.key n j) : ((s.setGrants w g).put e n j v).grantSide u = s.grantSide u := by
  have hint : ((s.setGrants w g).put e n j v).int Ent.MODULE_GRANT u = s.int Ent.MODULE_GRANT u :=
    congrArg Val.toInt (State.val_put_ne _ _ _ _ _ _ _ _ hkey)
  have hgrants : ((s.setGrants w g).put e n j v).grants u = s.grants u :=
    (State.grants_put ..).trans (State.grants_setGrants_ne _ _ hw)
  rw [State.grantSide, hint, hgrants, State.frames, State.put_ticks]
  rfl

/-- The launch of another unit leaves a module's grant: front-end units and strings have entries of their own. -/
theorem State.launchUnit_grantSide (s : State) {u w : Nat} (hu : u < 64) (hw : w < 104) (hne : u ≠ w) :
    (s.launchUnit w).grantSide u = s.grantSide u := by
  have hmodule : Ent.MODULE_GRANT.key u ≠ Ent.MODULE_GRANT.key w := fun h => hne (by simpa [Entry.key] using h)
  have hfe (h : w < 80) : Ent.MODULE_GRANT.key u ≠ Ent.FE_GRANT.key (w - 64) := by
    simp only [Entry.key, Ent.MODULE_GRANT, Ent.FE_GRANT]; omega
  have hstring : Ent.MODULE_GRANT.key u ≠ Ent.STRING_GRANT.key 0 (w - 96) := by
    simp only [Entry.key, Ent.MODULE_GRANT, Ent.STRING_GRANT]; omega
  unfold State.launchUnit
  dsimp only
  split
  · rfl
  split
  · exact State.setGrants_put_grantSide _ _ _ hne hmodule
  split
  · next hlt => exact State.setGrants_put_grantSide _ _ _ hne (hfe hlt)
  split
  · rw [State.grantSide, State.grants_setGrants_ne _ _ hne]
    rfl
  · exact State.setGrants_put_grantSide _ _ _ hne hstring

/-! ### The table of units -/

/-- The module holds its grant and plans no other. -/
def State.launched (s : State) (u : Nat) (v : Int) : Prop := s.int Ent.MODULE_GRANT u = v ∧ (s.grants u).plan = []

theorem State.launched_of_grantSide {s t : State} {u : Nat} {v : Int} (h : t.grantSide u = s.grantSide u) (hs : s.launched u v) :
    t.launched u v := by
  simp only [State.grantSide, Prod.mk.injEq] at h
  obtain ⟨hint, hgrants, -⟩ := h
  rw [State.launched, hint, hgrants]
  exact hs

/-- Among all units' launches, whatever else is planned, the module comes to hold its grant. -/
theorem State.launchUnits_launched {s : State} {u f : Nat} {v : Int} {l : List Nat} (hu : u < 64) (hplan : (s.grants u).plan = [(f, v)])
    (hdue : f ≤ s.frames) (hl : ∀ w ∈ l, w < 104) (hmem : u ∈ l) : (s.each l fun z w => z.launchUnit w).launched u v := by
  have hat {z : State} (hz : z.grantSide u = s.grantSide u) : (z.launchUnit u).launched u v := by
    simp only [State.grantSide, Prod.mk.injEq] at hz
    obtain ⟨-, hgrants, hframes⟩ := hz
    rw [State.launchUnit_due hu (by rw [hgrants, hplan]) (by rw [hframes]; exact hdue)]
    exact ⟨State.int_setInt_same .., by simp⟩
  have hkeep (z : State) (w : Nat) (hw : w ∈ l) (hz : z.launched u v) : (z.launchUnit w).launched u v := by
    by_cases hself : u = w
    · rw [← hself, State.launchUnit_unplanned hz.2]
      exact hz
    · exact State.launched_of_grantSide (z.launchUnit_grantSide hu (hl w hw) hself) hz
  refine State.each_reaches_of_mem (fun z => z.launched u v) (fun z => z.grantSide u = s.grantSide u ∨ z.launched u v) hmem (.inl rfl)
    (fun z w hw hz => ?_) hkeep fun z hz => hz.elim hat (hkeep z u hmem)
  rcases hz with hz | hz
  · by_cases hself : u = w
    · exact .inr (by rw [← hself]; exact hat hz)
    · exact .inl ((z.launchUnit_grantSide hu (hl w hw) hself).trans hz)
  · exact .inr (hkeep z w hw hz)

@[simp] theorem State.launchUnit_step (s : State) (u : Nat) : (s.launchUnit u).tx.step = s.tx.step := by
  unfold State.launchUnit
  dsimp only
  split
  · rfl
  · simp

/-! ### What follows the launch -/

@[simp] theorem State.showOutletGrant_step (s : State) (o : Nat) : (s.showOutletGrant o).tx.step = s.tx.step := by
  simp [State.showOutletGrant]

theorem State.showOutletGrant_moduleGrant (s : State) (o u : Nat) :
    (s.showOutletGrant o).int Ent.MODULE_GRANT u = s.int Ent.MODULE_GRANT u := by
  unfold State.showOutletGrant
  exact congrArg Val.toInt ((State.val_put_ne _ _ _ _ _ _ _ _ (Entry.key_ne_of_sub (by decide) u o)).trans
    (State.val_put_ne _ _ _ _ _ _ _ _ (Entry.key_ne_of_sub (by decide) u o)))

/-- A command to a module is no entry. -/
theorem State.command_val (s : State) (m sub : Nat) (body : List Byte) (e : Entry) (n j : Nat) :
    (s.command m sub body).val e n j = s.val e n j :=
  State.sendBus_keeps (fun z => z.val e n j) (fun _ _ => rfl) (fun _ _ => rfl) (s.setGrants m _) _

theorem State.targetResult_val (s : State) (o : Nat) (e : Entry) (n j : Nat) : (s.targetResult o).2.val e n j = s.val e n j := by
  unfold State.targetResult
  dsimp only
  split <;> rfl

/-- The targets that follow the grants change no entry (R179). -/
theorem State.updateTargets_val (s : State) (o : Nat) (e : Entry) (n j : Nat) : (s.updateTargets o).val e n j = s.val e n j := by
  unfold State.updateTargets
  split
  · rfl
  dsimp only
  split
  · exact State.targetResult_val ..
  · exact (State.each_keeps _ _ _ (fun z => z.val e n j) fun _ _ => State.command_val ..).trans (State.targetResult_val ..)

/-- After the launch the outlets' grants are shown and, with a control die serving, the sessions' targets follow (R19, R179). -/
def State.afterLaunch (s : State) : State :=
  let z := s.each (List.range 8) fun y o => y.showOutletGrant o
  if z.controlUp then z.each (List.range 8) fun y o => y.updateTargets o else z

theorem State.afterLaunch_keeps {β : Type} (s : State) (g : State → β) (hshow : ∀ (z : State) o, g (z.showOutletGrant o) = g z)
    (htarget : ∀ (z : State) o, g (z.updateTargets o) = g z) : g s.afterLaunch = g s := by
  unfold State.afterLaunch
  extract_lets z
  have hz : g z = g s := State.each_keeps _ _ _ g hshow
  split
  · exact (State.each_keeps _ _ _ g htarget).trans hz
  · exact hz

/-! ### GRANT_LAUNCH -/

theorem execGrantLaunch_due {s : State} (hcycle : s.cycle = 0) (hstep : s.tx.step = 4) :
    execGrantLaunch s = .next (({ s with tx := { s.tx with step := 5 } } : State).each (s.alloc.units.map Prod.fst)
      fun z u => z.launchUnit u).afterLaunch := by
  rw [execGrantLaunch, hcycle, hstep]
  rfl

theorem execGrantLaunch_idle {s : State} (h : s.cycle ≠ 0 ∨ s.tx.step ≠ 4) : execGrantLaunch s = .next s :=
  if_pos (by simpa using h)

/-- What is found in a table stands under one of its keys. -/
theorem Tab.mem_keys_of_find {α : Type} {t : Tab α} {k : Nat} {v : α} (h : Tab.find t k = some v) : k ∈ t.map Prod.fst := by
  induction t with
  | nil => exact absurd h (by simp)
  | cons p r ih =>
    obtain ⟨i, w⟩ := p
    by_cases hi : i = k
    · exact List.mem_cons.2 (.inl hi.symm)
    · exact List.mem_cons_of_mem _ (ih (by simpa [Tab.find, hi] using h))

theorem execGrantLaunch_launches {s : State} {u f : Nat} {v : Int} {g : UnitGrant} (hcycle : s.cycle = 0) (hstep : s.tx.step = 4)
    (hu : u < 64) (hfind : Tab.find s.alloc.units u = some g) (hplan : g.plan = [(f, v)]) (hdue : f ≤ s.frames)
    (hunits : ∀ x ∈ s.alloc.units, x.1 < 104) :
    ∃ t, execGrantLaunch s = .next t ∧ t.int Ent.MODULE_GRANT u = v ∧ t.tx.step = 5 := by
  have hgrants : s.grants u = g := by rw [State.grants, Tab.get, hfind]; rfl
  have hkeys : ∀ w ∈ s.alloc.units.map Prod.fst, w < 104 := List.forall_mem_map.2 hunits
  have hlaunched := State.launchUnits_launched (s := { s with tx := { s.tx with step := 5 } }) hu
    ((congrArg UnitGrant.plan hgrants).trans hplan) hdue hkeys (Tab.mem_keys_of_find hfind)
  refine ⟨_, execGrantLaunch_due hcycle hstep, ?_, ?_⟩
  · rw [State.afterLaunch_keeps _ (fun z => z.int Ent.MODULE_GRANT u) (fun z o => State.showOutletGrant_moduleGrant ..)
      fun z o => congrArg Val.toInt (State.updateTargets_val ..)]
    exact hlaunched.1
  · rw [State.afterLaunch_keeps _ (fun z => z.tx.step) (fun z o => State.showOutletGrant_step ..) fun z o => State.updateTargets_step ..]
    exact State.each_step _ _ _ fun z w => z.launchUnit_step w

/-- Settles O23: each command in its cycle by what it computes, and out of it by its guard. -/
theorem allocatorRunsChecksAndPublishes : Obligations.AllocatorRunsChecksAndPublishes := by
  intro s
  refine ⟨fun us hup hcycle hfits => ?_, fun us => execAllocatorRun_idle us, fun r hrun hup hcycle => ?_, execLimitRecheck_idle,
    execGrantPublish_due, execGrantPublish_idle, fun ch hup hfrom hto hsent hch hcan hdue => ?_, execSetpointTransmit_idle,
    fun u f v g hcycle hstep hu hfind hplan hdue hunits => execGrantLaunch_launches hcycle hstep hu hfind hplan hdue hunits,
    execGrantLaunch_idle⟩
  · obtain ⟨halloc, hlast, hmax⟩ := State.showCompute (s.allocatorRun.each (List.range 8) fun z o => z.serveWaiting o)
      (max := s.nat Ent.ALLOC_COMPUTE_MAX) hfits
    refine ⟨_, execAllocatorRun_due us hup hcycle, ?_, hlast, hmax⟩
    obtain ⟨r, hr⟩ := s.allocatorRun_run
    rw [halloc, State.serveAll_run, hr, Option.isSome_some]
  · obtain ⟨acc, z, r1, hfold, hexec⟩ := execLimitRecheck_due hrun hup hcycle
    refine ⟨_, r1, hexec, rfl, rfl, fun u hu hmodule => ?_⟩
    have hzero := State.recheckUnits_modules hmodule s.alloc.faulted acc (.inl hu)
    rwa [hfold] at hzero
  · obtain ⟨z, hz, hexec⟩ := execSetpointTransmit_due hup hfrom hto hsent
    have hblock : z.sentSetpoint ch := by rw [hz]; exact State.sendAllBlocks_sends hch hcan hdue
    have hframes : z.frames = s.frames := by rw [hz, State.sendAllBlocks_frames]
    obtain ⟨hat, m, hm, hport, hdest, hkind⟩ := State.sendAllCommands ({ z with alloc := { z.alloc with sentAt := some z.frames } } : State)
      ((List.range 64).filter s.fitted) hblock
    exact ⟨_, m, hexec, hat.trans (congrArg some hframes), hm, hport, hdest, hkind⟩

end Sys2Proof.Machine
end

section
/-!
PROOFS. Units that leave service and come back (O24): modules that do not acknowledge, are disabled or fail to move (R121, R128, R130), the
-/
namespace Sys2Proof.Machine
open Sys2Proof

/-! ### Messages not acknowledged -/

/-- Each message of a module that was due is counted and reported (R121). -/
def State.countMisses (s : State) (m : Nat) (l : List Nat) : State :=
  s.each l fun z p => (z.bump Ent.ACK_MISS m).raise Evt.MODULE_ACK_MISSING m p ((z.bump Ent.ACK_MISS m).nat Ent.ACK_MISS m)

theorem State.countMisses_alloc (s : State) (m : Nat) (l : List Nat) : (s.countMisses m l).alloc = s.alloc :=
  State.each_keeps _ _ _ State.alloc fun _ _ => (State.raiseWith_alloc ..).trans (State.bump_alloc ..)

theorem State.countMisses_moduleState (s : State) (m : Nat) (l : List Nat) :
    (s.countMisses m l).nat Ent.MODULE_STATE m = s.nat Ent.MODULE_STATE m :=
  State.each_keeps _ _ _ (fun z => z.nat Ent.MODULE_STATE m) fun _ _ =>
    (State.nat_raise ..).trans (State.nat_congr (State.val_bump_ne _ _ (Entry.key_ne_of_sub (by decide) m m)))

/-- The frame counted, and whether the last set-point is to go out again. -/
def State.missFrame (s : State) (m : Nat) (resend : Bool) : State :=
  s.setGrants m { s.grants m with missFrames := (s.grants m).missFrames + 1, resend := resend }

/-- A module from which ACK_MISS_LIMIT frames came without an acknowledgement is UNRESPONSIVE. -/
theorem execModuleAckMissing_due {s : State} {m : Fin 64} (hmissed : s.unacked m ≠ []) (hcycle : 12 ≤ s.cycle) :
    ∃ resend p q, execModuleAckMissing m s = .next
      (if (((s.countMisses m (s.unacked m)).grants m).missFrames + 1 ≥ s.nat Ent.ACK_MISS_LIMIT &&
          ((s.countMisses m (s.unacked m)).missFrame m resend).nat Ent.MODULE_STATE m != Mod.UNRESPONSIVE) = true then
        (((s.countMisses m (s.unacked m)).missFrame m resend).setNat Ent.MODULE_STATE m Mod.UNRESPONSIVE).raise
          Evt.MODULE_UNRESPONSIVE m p q
      else (s.countMisses m (s.unacked m)).missFrame m resend) := by
  have hopen : ¬ ((s.unacked m).isEmpty || decide (s.cycle < 12)) = true := by simp [hmissed, hcycle]
  unfold execModuleAckMissing
  dsimp only
  rw [if_neg hopen]
  exact ⟨_, _, _, (apply_ite ok _ _ _).symm⟩

theorem execModuleAckMissing_counts {s : State} {m : Fin 64} (hmissed : s.unacked m ≠ []) (hcycle : 12 ≤ s.cycle) :
    ∃ t, execModuleAckMissing m s = .next t ∧ (t.grants m).missFrames = (s.grants m).missFrames + 1 ∧
      (s.nat Ent.ACK_MISS_LIMIT ≤ (s.grants m).missFrames + 1 → s.nat Ent.MODULE_STATE m ≠ Mod.UNRESPONSIVE →
        t.nat Ent.MODULE_STATE m = Mod.UNRESPONSIVE) := by
  obtain ⟨resend, p, q, hexec⟩ := execModuleAckMissing_due hmissed hcycle
  have hgrants : (s.countMisses m (s.unacked m)).grants m = s.grants m := State.grants_congr (State.countMisses_alloc ..) _
  have hstate : ((s.countMisses m (s.unacked m)).missFrame m resend).nat Ent.MODULE_STATE m = s.nat Ent.MODULE_STATE m :=
    State.countMisses_moduleState ..
  have hcount : (((s.countMisses m (s.unacked m)).missFrame m resend).grants m).missFrames = (s.grants m).missFrames + 1 := by
    rw [State.missFrame, State.grants_setGrants_same, hgrants]
  rw [hgrants, hstate] at hexec
  refine ⟨_, hexec, ?_, fun hlimit hnot => ?_⟩
  · split
    · rw [State.grants_raise, State.setNat_eq, State.grants_put, hcount]
    · exact hcount
  · rw [if_pos (by simp [hlimit, hnot]), State.nat_raise, State.nat_setNat_same]

/-! ### MODULE_ENABLE -/

/-- MODULE_ENABLE stands apart from what an aborted self-test, a module's state and its outlet are written to. -/
theorem State.put_moduleEnable (s : State) {e : Entry} (he : e.ofUnitTest) (m k : Nat) (v : Val) :
    (s.put e k 0 v).val Ent.MODULE_ENABLE m = s.val Ent.MODULE_ENABLE m := by
  have hsub : Ent.MODULE_ENABLE.sub < 256 ∧ e.sub < 256 ∧ Ent.MODULE_ENABLE.sub ≠ e.sub := by
    simp only [Entry.ofUnitTest, List.mem_cons, List.not_mem_nil, or_false] at he
    simp only [Ent.MODULE_ENABLE]
    omega
  exact State.val_put_ne _ _ _ _ _ _ _ _ (Entry.key_ne_of_sub hsub m k)

theorem State.abortUnitTest_moduleEnable (s : State) (u m : Nat) :
    (s.abortUnitTest u).val Ent.MODULE_ENABLE m = s.val Ent.MODULE_ENABLE m :=
  State.abortUnitTest_blind (fun z => z.val Ent.MODULE_ENABLE m) (fun z _ n v he => z.put_moduleEnable he m n v)
    (fun _ _ _ _ _ => State.val_raiseWith ..) (fun _ _ _ _ _ _ _ => rfl) s u

theorem State.startMove_moduleEnable (s : State) (m : Nat) (kind : MoveKind) (src dst step : Nat) :
    (s.startMove m kind src dst step).val Ent.MODULE_ENABLE m = s.val Ent.MODULE_ENABLE m := by
  have hstate : Ent.MODULE_STATE.ofUnitTest ∧ Ent.ASSIGNED_OUTLET.ofUnitTest := by unfold Entry.ofUnitTest; decide
  exact (State.put_moduleEnable _ hstate.1 _ _ _).trans (State.put_moduleEnable _ hstate.2 _ _ _)

theorem State.decreaseTo_val (s : State) (u : Nat) (v : Int) (e : Entry) (n j : Nat) : (s.decreaseTo u v).val e n j = s.val e n j := rfl

/-- A write of MODULE_ENABLE takes its value whatever the module comes to, and answers OK. -/
theorem applyModuleEnable_ok (m : Nat) (v : Int) (s : State) :
    (applyModuleEnable m v s).2 = St.OK ∧ (applyModuleEnable m v s).1.val Ent.MODULE_ENABLE m = .num v := by
  have hwritten : Ent.MODULE_STATE.ofUnitTest := by unfold Entry.ofUnitTest; decide
  have hvalue : (s.setInt Ent.MODULE_ENABLE m v).val Ent.MODULE_ENABLE m = .num v := State.val_put_same ..
  have hstate (z : State) (st : Nat) (hz : z.val Ent.MODULE_ENABLE m = .num v) :
      (z.setNat Ent.MODULE_STATE m st).val Ent.MODULE_ENABLE m = .num v :=
    (z.put_moduleEnable hwritten m m _).trans hz
  unfold applyModuleEnable
  extract_lets s1 st g s2 s3
  split
  · split
    · exact ⟨rfl, hvalue⟩
    split
    · exact ⟨rfl, hstate _ _ hvalue⟩
    split
    · refine ⟨rfl, hstate _ _ ?_⟩
      simp only [s2]
      split
      · exact (s1.abortUnitTest_moduleEnable m m).trans hvalue
      · exact hvalue
    · exact ⟨rfl, (State.decreaseTo_val ..).trans ((s1.startMove_moduleEnable m ..).trans hvalue)⟩
  · split
    · exact ⟨rfl, hstate _ _ hvalue⟩
    · exact ⟨rfl, hvalue⟩

/-- An UNRESPONSIVE module is DISABLED at once (R121). -/
theorem applyModuleEnable_unresponsive {m : Nat} {s : State} (h : s.nat Ent.MODULE_STATE m = Mod.UNRESPONSIVE) :
    (applyModuleEnable m 0 s).1.nat Ent.MODULE_STATE m = Mod.DISABLED := by
  have hnot : (Mod.UNRESPONSIVE == Mod.DISABLED) = false := rfl
  simp only [applyModuleEnable, h, hnot, beq_self_eq_true, if_true, Bool.false_eq_true, if_false, State.nat_setNat_same]

/-- A write accepted that always answers OK. -/
theorem State.clientCommand_ok {s : State} {c : Client} {e : Entry} {n : Nat} {v : Val} {h : Held} {act : State → State × Nat}
    (ha : s.accepts c e n v h) (hok : (act (s.taken h)).2 = St.OK) :
    s.clientCommand c e n v act = (act (s.taken h)).1.answerLater h St.OK [] :=
  State.clientCommand_effect ha rfl (Prod.ext rfl hok)

theorem State.nat_taken_moduleState (s : State) (h : Held) (m : Nat) : (s.taken h).nat Ent.MODULE_STATE m = s.nat Ent.MODULE_STATE m :=
  State.nat_congr (s.val_taken h _ m 0 (Entry.key_ne_of_sub (by decide) m 0) (Entry.key_ne_of_sub (by decide) m 0))

/-! ### A failed move -/

/-- What a failed switch makes of a module, with its grants from then on: UNAVAILABLE and off its outlet (R128). -/
def State.dropModule (s : State) (m : Nat) (g : UnitGrant) : State :=
  (((s.setGrants m g).setUnitSt m { s.unitSt m with moveFailed := true }).setNat Ent.MODULE_STATE m Mod.UNAVAILABLE).setNat
    Ent.ASSIGNED_OUTLET m 0xFF

theorem State.dropModule_reads (s : State) (m : Nat) (g : UnitGrant) :
    ((s.dropModule m g).unitSt m).moveFailed = true ∧ (s.dropModule m g).nat Ent.MODULE_STATE m = Mod.UNAVAILABLE ∧
      (s.dropModule m g).nat Ent.ASSIGNED_OUTLET m = 0xFF ∧ (s.dropModule m g).grants m = g := by
  have hapart : Ent.MODULE_STATE.key m 0 ≠ Ent.ASSIGNED_OUTLET.key m 0 := Entry.key_ne_of_sub (by decide) m m
  have hbus : (s.dropModule m g).bus = ((s.setGrants m g).setUnitSt m { s.unitSt m with moveFailed := true }).bus :=
    (State.put_bus ..).trans (State.put_bus ..)
  have halloc : (s.dropModule m g).alloc = (s.setGrants m g).alloc := (State.put_alloc ..).trans (State.put_alloc ..)
  refine ⟨?_, ?_, State.nat_setNat_same .., ?_⟩
  · rw [State.unitSt_congr hbus, State.unitSt_setUnitSt_same]
  · rw [State.dropModule, State.setNat_eq, State.nat_put_ne _ _ hapart, State.nat_setNat_same]
  · rw [State.grants_congr halloc, State.grants_setGrants_same]

theorem State.move_of_switchFailed {s : State} {m : Nat} (h : s.switchFailed m = true) : ∃ k, (s.grants m).move = some k := by
  unfold State.switchFailed at h
  dsimp only at h
  split at h
  · next k hk => exact ⟨k, hk⟩
  · exact absurd h Bool.false_ne_true

/-- A module that was to join a session is replaced by another (R128). -/
theorem execModuleMoveFailed_failed {s : State} {m : Fin 64} {k : Move} (h : s.switchFailed m = true) (hk : (s.grants m).move = some k) :
    ∃ z g, g.move = none ∧ execModuleMoveFailed m s = .next
      (if (k.kind == .assign && decide (k.toOutlet < 8)) = true then (State.dropModule z m g).assignModules k.toOutlet 1
        else State.dropModule z m g) := by
  have hopen : ¬ (!s.switchFailed m) = true := by simp [h]
  unfold execModuleMoveFailed
  rw [if_neg hopen]
  dsimp only
  rw [hk]
  exact ⟨_, _, rfl, (apply_ite ok _ _ _).symm⟩

/-! ### The import limit and the front-end units -/

theorem execImportOverLimit_over {s : State} (h : 3 ≤ s.alloc.importOver) :
    ∃ t, execImportOverLimit s = .next t ∧ t.alloc.importOver = 0 ∧
      t.alloc.importScale = some (s.nat Ent.GRID_IMPORT_LIMIT, (ratFloor s.gridImport).toNat) ∧ { t with ev := s.ev, alloc := s.alloc } = s := by
  unfold execImportOverLimit
  rw [if_neg (Nat.not_lt.2 h)]
  extract_lets imp limit s1 s2
  refine ⟨_, rfl, ?_⟩
  refine State.each_inv _ _ _ (fun z : State => z.alloc.importOver = 0 ∧
    z.alloc.importScale = some (s.nat Ent.GRID_IMPORT_LIMIT, (ratFloor s.gridImport).toNat) ∧ { z with ev := s.ev, alloc := s.alloc } = s)
    ⟨rfl, rfl, ?_⟩ fun z f hz => ?_
  · exact congrArg (fun y : State => { y with alloc := s.alloc }) (s.raise_frame Evt.IMPORT_OVER_LIMIT 0 (imp / 1000) (limit / 1000) s.ev)
  · dsimp only
    split
    · exact hz
    · exact hz

/-- A front-end unit put out of service, its grants falling to 0 (R126). -/
def State.putOut (s : State) (f : Nat) : State :=
  (({ s with alloc := { s.alloc with feOut := f :: s.alloc.feOut } } : State).decreaseTo (feImport f) 0).decreaseTo (feExport f) 0

theorem State.decreaseTo_feOut (s : State) (u : Nat) (v : Int) : (s.decreaseTo u v).alloc.feOut = s.alloc.feOut := rfl

/-- A fall of a grant changes the allocator's record only. -/
theorem State.decreaseTo_frame (s : State) (u : Nat) (v : Int) (a : AllocSt) : { s.decreaseTo u v with alloc := a } = { s with alloc := a } := rfl

theorem State.putOut_feOut (s : State) (f : Nat) : (s.putOut f).alloc.feOut = f :: s.alloc.feOut := by
  rw [State.putOut, State.decreaseTo_feOut, State.decreaseTo_feOut]

theorem State.putOut_frame (s : State) (f : Nat) : { s.putOut f with alloc := s.alloc } = s := by
  rw [State.putOut, State.decreaseTo_frame, State.decreaseTo_frame]

theorem execFeOverCap_over {s : State} {f : Fin 16} (hover : 3 ≤ Tab.get 0 s.alloc.feOver f) (hin : f.val ∉ s.alloc.feOut) :
    ∃ st : Nat, execFeOverCap f s = .next (((s.raise Evt.FE_OVER_CAP f (word 32 (s.unitSt (64 + f)).power)
      (s.nat Ent.FE_CAP_CONFIRMED f)).putOut f).setNat Ent.FE_STATE f st) := by
  have hopen : ¬ (Tab.get 0 s.alloc.feOver f < 3 || s.alloc.feOut.contains f.val) = true := by simp [hover, hin]
  unfold execFeOverCap
  rw [if_neg hopen]
  exact ⟨_, rfl⟩

/-- A write of FE_ENABLE takes its value and answers OK; 0 notes a unit that was out, and 1 after it puts the unit back (R126). -/
theorem applyFeEnable_ok (f : Nat) (v : Int) (s : State) :
    (applyFeEnable f v s).2 = St.OK ∧ (applyFeEnable f v s).1.val Ent.FE_ENABLE f = .num v ∧
      (v = 0 → f ∈ s.alloc.feOut → f ∈ (applyFeEnable f v s).1.alloc.feRearm) ∧
      (v ≠ 0 → f ∈ s.alloc.feRearm → f ∉ (applyFeEnable f v s).1.alloc.feOut) := by
  have hapart : Ent.FE_ENABLE.key f 0 ≠ Ent.FE_STATE.key f 0 := Entry.key_ne_of_sub (by decide) f f
  have hvalue : (s.setInt Ent.FE_ENABLE f v).val Ent.FE_ENABLE f = .num v := State.val_put_same ..
  have hstate (z : State) (st : Nat) (hz : z.val Ent.FE_ENABLE f = .num v) : (z.setNat Ent.FE_STATE f st).val Ent.FE_ENABLE f = .num v :=
    (State.val_put_ne _ _ _ _ _ _ _ _ hapart).trans hz
  by_cases hzero : v = 0
  · rw [applyFeEnable, if_pos (by simpa using hzero)]
    refine ⟨rfl, hstate _ _ hvalue, fun _ hout => ?_, fun h => absurd hzero h⟩
    simp [State.decreaseTo, State.setGrants, hout]
  · rw [applyFeEnable, if_neg (by simpa using hzero)]
    refine ⟨rfl, hstate _ _ ?_, fun h => absurd h hzero, fun _ hrearm => ?_⟩
    · split
      · exact hvalue
      · exact hvalue
    · simp [hrearm]

theorem State.taken_alloc (s : State) (h : Held) : (s.taken h).alloc = s.alloc := (congrArg State.alloc (s.taken_frame h) :)

/-- Settles O24: each command by what its rule gives it, on the state with its tag taken where a client writes it. -/
theorem modulesAndFrontEndsLeaveService : Obligations.ModulesAndFrontEndsLeaveService := by
  intro s
  refine ⟨fun m hmissed hcycle => execModuleAckMissing_counts hmissed hcycle, fun c m v h ha _ => ?_, fun m hfailed => ?_,
    execImportOverLimit_over, fun f hover hin => ?_, fun c f v h ha _ => ?_⟩
  · obtain ⟨hok, hvalue⟩ := applyModuleEnable_ok m v (s.taken h)
    refine ⟨_, congrArg Host.Outcome.next (State.clientCommand_ok ha hok), ?_, State.answerLater_repliesWith .., fun hv hst => ?_⟩
    · rw [State.nat_answerLater, State.nat_def, hvalue, Val.toInt_num, Int.toNat_natCast]
    · rw [State.nat_answerLater, hv]
      exact applyModuleEnable_unresponsive ((s.nat_taken_moduleState h m).trans hst)
  · obtain ⟨k, hk⟩ := State.move_of_switchFailed hfailed
    obtain ⟨z, g, hmove, hexec⟩ := execModuleMoveFailed_failed hfailed hk
    obtain ⟨hunit, hstate, houtlet, hgrants⟩ := z.dropModule_reads m g
    refine ⟨_, hexec, ?_, fun k' hk' hkind => ?_⟩
    · split
      · rw [State.unitSt_of_unitSide (State.assignModules_unitSide ..), hunit]
      · exact hunit
    · have hsame : k = k' := Option.some.inj (hk.symm.trans hk')
      rw [if_neg (by simp [hsame, hkind])]
      exact ⟨hstate, houtlet, by rw [hgrants, hmove]⟩
  · obtain ⟨st, hexec⟩ := execFeOverCap_over hover hin
    generalize hz : s.raise Evt.FE_OVER_CAP f (word 32 (s.unitSt (64 + f)).power) (s.nat Ent.FE_CAP_CONFIRMED f) = z at hexec
    have hframe := z.putOut_frame f
    have hrest : { z with ev := s.ev } = s := by rw [← hz, State.raise_frame]
    have hcells : (z.putOut f).cells = s.cells := (congrArg State.cells hframe :).trans (congrArg State.cells hrest :)
    refine ⟨_, hexec, ?_, ?_, ?_, ?_⟩
    · rw [State.setNat_eq, State.put_alloc, State.putOut_feOut]
      exact List.mem_cons_self
    · rw [State.raised, hz]
      exact (State.put_ev ..).trans (congrArg State.ev hframe :)
    · exact State.cellsKept_put (State.cellsKept_of_cells hcells _) _ (List.mem_singleton.2 rfl)
    · exact (congrArg (fun y : State => { y with ev := s.ev, cells := s.cells, alloc := s.alloc }) hframe).trans
        (congrArg (fun y : State => { y with cells := s.cells, alloc := s.alloc }) hrest)
  · obtain ⟨hok, hvalue, hrearm, hback⟩ := applyFeEnable_ok f v (s.taken h)
    rw [State.taken_alloc] at hrearm hback
    refine ⟨_, congrArg Host.Outcome.next (State.clientCommand_ok ha hok), ?_, State.answerLater_repliesWith .., fun hv => ?_, fun hv => ?_⟩
    · rw [State.nat_answerLater, State.nat_def, hvalue, Val.toInt_num, Int.toNat_natCast]
    · exact hrearm (by rw [hv]; rfl)
    · exact hback (by rw [hv]; decide)

end Sys2Proof.Machine
end

section
/-!
PROOFS. The messages of a unit on the module bus (O25): the state in which a frame that is heard takes effect, then what each message leaves
of its unit (R138, R148 to R156).
-/
namespace Sys2Proof.Machine
open Sys2Proof

/-! ### Hearing a frame -/

/-- A frame into the ring leaves of the bus all but the channels. -/
theorem State.ringPut_bus (s : State) (r : CanRx) (row : Instr) : ∃ c, (s.ringPut r row).bus = { s.bus with cans := c } := by
  unfold State.ringPut
  extract_lets ch st s1 k full s2
  have hmirror : s1.bus = s.bus := (congrArg State.bus (s.mirrorBus_frame ch st r.id false r.sof r.data s.stream) :)
  have hput : s2.bus = { s.bus with cans := s2.bus.cans } := congrArg (fun b : BusSt => { b with cans := s2.bus.cans }) hmirror
  exact ⟨_, (State.when_keeps _ _ _ State.bus fun _ => State.bump_bus ..).trans hput⟩

/-- A frame that takes effect has changed the channels, what the link die keeps and the bus mirror. -/
theorem State.drained_keeps {β : Type} (g : State → β)
    (hg : ∀ (z : State) m c x, g { z with mirror := m, bus := { z.bus with cans := c }, stream := x } = g z)
    {s : State} {r : CanRx} (hring : (s.can r.ch.val).ring = []) (row : Instr) : g (s.drained row r) = g s := by
  obtain ⟨c, hput⟩ := s.ringPut_bus r row
  have hbus : { (s.drained row r).bus with cans := s.bus.cans } = s.bus := by
    rw [State.drained, State.noteIn_bus, State.setCan, hput]
  have hframe := State.drained_frame row hring
  rw [← hg (s.drained row r) s.mirror s.bus.cans s.stream, hbus, hframe]

/-- A frame heard from a unit that fits its row is acted on in the drained state (R138, R141). -/
theorem State.receive_of_hears {s : State} {r : CanRx} {u : Nat} (hh : s.hears r u) (row : Instr) {fits : Bool} (hfits : fits = true)
    (go : State → Nat → State) : s.receive row r fits go = go (s.drained row r) u := by
  obtain ⟨hup, hiso, hcontrol, hring, hreplay, hunit⟩ := hh
  obtain ⟨hone, hput⟩ := State.ringPut_empty row hring
  have hdie : (s.ringPut r row).die = s.die := (congrArg State.die hput :)
  have hserves : (s.ringPut r row).controlUp = true := by rwa [State.controlUp, hdie]
  have hsender : (s.drained row r).unitAt r.ch.val (r.id % 32) = some u :=
    (State.drained_keeps (fun z => z.unitAt r.ch.val (r.id % 32)) (fun _ _ _ _ => rfl) hring row).trans hunit
  have hhear : (s.drained row r).hear r true go = go (s.drained row r) u := by
    simp only [State.hear, hsender, Bool.not_true, Bool.false_eq_true, if_false]
  simp only [State.receive, hreplay, hup, hiso, hserves, hone, hfits, Bool.not_true, Bool.false_eq_true, if_false,
    bne_self_eq_false, Bool.or_self]
  exact hhear

/-- On a channel that is off nothing arrives (R140). -/
theorem State.receive_of_off {s : State} {r : CanRx} (hreplay : s.mirror.replay = false) (hoff : s.canUp r.ch.val = false) (row : Instr)
    (fits : Bool) (go : State → Nat → State) : s.receive row r fits go = s := by
  simp only [State.receive, hreplay, hoff, Bool.not_false, Bool.false_eq_true, if_false, if_true]

section Heard
variable {s : State} {r : CanRx} {u : Nat} (hh : s.hears r u) (row : Instr)
include hh

theorem State.drained_of_hears {β : Type} (g : State → β)
    (hg : ∀ (z : State) m c x, g { z with mirror := m, bus := { z.bus with cans := c }, stream := x } = g z) :
    g (s.drained row r) = g s := by
  obtain ⟨-, -, -, hring, -⟩ := hh
  exact State.drained_keeps g hg hring row

theorem State.drained_grants (w : Nat) : (s.drained row r).grants w = s.grants w :=
  State.drained_of_hears hh row (fun z => z.grants w) fun _ _ _ _ => rfl

theorem State.drained_unitSt (w : Nat) : (s.drained row r).unitSt w = s.unitSt w :=
  State.drained_of_hears hh row (fun z => z.unitSt w) fun _ _ _ _ => rfl

end Heard

/-! ### Acknowledgements -/

/-- What a unit's grants become when the commands of a SEQ are acknowledged (R148). -/
def UnitGrant.acknowledge (g : UnitGrant) (seq : Nat) : UnitGrant :=
  { g with cmds := g.cmds.map (fun c => if c.seq == seq then { c with acked := true } else c), missFrames := 0 }

theorem UnitGrant.acknowledge_acked (g : UnitGrant) (seq : Nat) : ∀ c ∈ (g.acknowledge seq).cmds, c.seq = seq → c.acked = true := by
  intro c hc hseq
  obtain ⟨d, -, rfl⟩ := List.mem_map.1 hc
  by_cases hd : d.seq = seq
  · simp [hd]
  · simp [hd] at hseq

/-- The end of a reservation leaves the grants of a module without misses. -/
theorem State.endUnresponsive_grants {s : State} {m : Nat} (h : (s.grants m).missFrames = 0) :
    (s.endUnresponsive m).grants m = s.grants m := by
  unfold State.endUnresponsive
  dsimp only
  split
  · rw [State.setNat_eq, State.grants_put, State.grants_setGrants_same, ← h]
  · rfl

theorem State.endUnresponsive_nat (s : State) (m : Nat) {e : Entry} (he : e.sub < 256 ∧ e.sub ≠ 0x22) (n : Nat) :
    (s.endUnresponsive m).nat e n = s.nat e n := by
  unfold State.endUnresponsive
  dsimp only
  split
  · exact State.nat_put_ne _ _ (Entry.key_ne_of_sub ⟨he.1, by decide, he.2⟩ n m)
  · rfl

/-- A set-point found by its launch frame is shown, and the count of misses ends (R148). -/
theorem State.ackSetpoint_found {s : State} {u ref : Nat} {x : Sent} (hu : u < 64)
    (hx : (s.grants u).sent.find? (fun y => low 16 (s.sfn + y.launch - s.frames) == low 16 ref) = some x) :
    (s.ackSetpoint u ref).nat Ent.ACK_SFN u = s.sfn + x.launch - s.frames ∧ (s.ackSetpoint u ref).nat Ent.ACK_MISS u = 0 ∧
      ((s.ackSetpoint u ref).grants u).missFrames = 0 := by
  unfold State.ackSetpoint
  dsimp only
  rw [hx]
  dsimp only
  rw [if_pos hu]
  refine ⟨?_, State.nat_setNat_same .., ?_⟩
  · rw [State.setNat_eq, State.nat_put_ne _ _ (Entry.key_ne_of_sub (by decide) u u), State.nat_setNat_same]
  · rw [State.setNat_eq, State.grants_put, State.setNat_eq, State.grants_put, State.grants_setGrants_same]

section Ack
variable {s : State} {r : CanRx} {u : Nat} (hh : s.hears r u) (hfits : frameIs r 3 0 4 4 = true) (hu : u < 64)
include hh hfits hu

theorem execAck_command (hop : leAt r.data 2 1 = 1) (hcmd : ∃ c ∈ (s.grants u).cmds, c.seq = low 8 (leAt r.data 0 2)) :
    execAck r s = .next ((((s.drained (.ack r) r).setGrants u ((s.grants u).acknowledge (low 8 (leAt r.data 0 2)))).setNat
      Ent.ACK_MISS u 0).endUnresponsive u) := by
  have hany : (s.grants u).cmds.any (fun c => c.seq == low 8 (leAt r.data 0 2)) = true := by simpa using hcmd
  unfold execAck
  dsimp only
  rw [State.receive_of_hears hh _ hfits, if_neg (Nat.not_le.2 hu), if_pos (by simpa using hop), State.drained_grants hh, if_pos hany]
  rfl

theorem execAck_setpoint (hop : leAt r.data 2 1 ≠ 1) :
    execAck r s = .next (((s.drained (.ack r) r).ackSetpoint u (leAt r.data 0 2)).endUnresponsive u) := by
  unfold execAck
  dsimp only
  rw [State.receive_of_hears hh _ hfits, if_neg (Nat.not_le.2 hu), if_neg (by simpa using hop)]
  rfl

theorem execAck_marksCommand (hop : leAt r.data 2 1 = 1) (hcmd : ∃ c ∈ (s.grants u).cmds, c.seq = low 8 (leAt r.data 0 2)) :
    ∃ t, execAck r s = .next t ∧ (∀ c ∈ (t.grants u).cmds, c.seq = low 8 (leAt r.data 0 2) → c.acked = true) ∧
      (t.grants u).missFrames = 0 ∧ t.nat Ent.ACK_MISS u = 0 := by
  have hgrants (z : State) (g : UnitGrant) : ((z.setGrants u g).setNat Ent.ACK_MISS u 0).grants u = g := by
    rw [State.setNat_eq, State.grants_put, State.grants_setGrants_same]
  refine ⟨_, execAck_command hh hfits hu hop hcmd, ?_, ?_, ?_⟩
  · rw [State.endUnresponsive_grants (congrArg UnitGrant.missFrames (hgrants ..)), hgrants]
    exact UnitGrant.acknowledge_acked _ _
  · rw [State.endUnresponsive_grants (congrArg UnitGrant.missFrames (hgrants ..)), hgrants]
    rfl
  · rw [State.endUnresponsive_nat _ _ (by decide), State.nat_setNat_same]

theorem execAck_showsSetpoint {x : Sent} (hop : leAt r.data 2 1 ≠ 1)
    (hx : (s.grants u).sent.find? (fun y => low 16 (s.sfn + y.launch - s.frames) == low 16 (leAt r.data 0 2)) = some x) :
    ∃ t, execAck r s = .next t ∧ t.nat Ent.ACK_SFN u = s.sfn + x.launch - s.frames ∧ t.nat Ent.ACK_MISS u = 0 ∧
      (t.grants u).missFrames = 0 := by
  obtain ⟨z, hz⟩ : ∃ z, z = s.drained (.ack r) r := ⟨_, rfl⟩
  have hexec := execAck_setpoint hh hfits hu hop
  have hgrants : z.grants u = s.grants u := hz ▸ State.drained_grants hh _ u
  have hsfn : z.sfn = s.sfn := hz ▸ State.drained_of_hears hh _ State.sfn fun _ _ _ _ => rfl
  have hframes : z.frames = s.frames := hz ▸ State.drained_of_hears hh _ State.frames fun _ _ _ _ => rfl
  rw [← hgrants, ← hsfn, ← hframes] at hx
  obtain ⟨hshown, hmiss, hcount⟩ := State.ackSetpoint_found hu hx
  rw [← hz] at hexec
  refine ⟨_, hexec, ?_, ?_, ?_⟩
  · rw [State.endUnresponsive_nat _ _ (by decide), hshown, hsfn, hframes]
  · rw [State.endUnresponsive_nat _ _ (by decide), hmiss]
  · rw [State.endUnresponsive_grants hcount, hcount]

end Ack

/-! ### Per-unit entries -/

@[simp] theorem State.unitNat_setUnitNat_same (s : State) (m f : Entry) (u v : Nat) : (s.setUnitNat m f u v).unitNat m f u = v := by
  unfold State.setUnitNat State.unitNat
  split
  · exact State.nat_setNat_same ..
  · exact State.nat_setNat_same ..

/-- A per-unit entry keeps its value through a write of another sub-index. -/
theorem State.unitNat_put_ne (s : State) {m f e : Entry} (he : e.sub < 256) (hm : m.sub < 256 ∧ m.sub ≠ e.sub)
    (hf : f.sub < 256 ∧ f.sub ≠ e.sub) (u n : Nat) (v : Val) : (s.put e n 0 v).unitNat m f u = s.unitNat m f u := by
  unfold State.unitNat
  split
  · exact State.nat_put_ne _ _ (Entry.key_ne_of_sub ⟨hm.1, he, hm.2⟩ u n)
  · exact State.nat_put_ne _ _ (Entry.key_ne_of_sub ⟨hf.1, he, hf.2⟩ (u - 64) n)

@[simp] theorem State.setUnitNat_bus (s : State) (m f : Entry) (u v : Nat) : (s.setUnitNat m f u v).bus = s.bus := by
  unfold State.setUnitNat
  split
  · exact State.put_bus ..
  · exact State.put_bus ..

@[simp] theorem State.setUnitNat_ev (s : State) (m f : Entry) (u v : Nat) : (s.setUnitNat m f u v).ev = s.ev := by
  unfold State.setUnitNat
  split
  · exact State.put_ev ..
  · exact State.put_ev ..

@[simp] theorem State.unitSt_raise (s : State) (k : EvKind) (i p q u : Nat) : (s.raise k i p q).unitSt u = s.unitSt u :=
  State.unitSt_congr (State.raiseWith_bus ..) u

/-! ### Status -/

/-- What a status leaves once it is recorded: the unit as its messages show it, the frame of its last status, and the event log. -/
def State.statusSide (s : State) (u : Nat) : UnitSt × Nat × EventSt :=
  (s.unitSt u, s.unitNat Ent.MODULE_LAST_STATUS_SFN Ent.FE_LAST_STATUS_SFN u, s.ev)

theorem State.put_statusSide (s : State) {e : Entry} (he : e.sub < 256 ∧ e.sub ≠ 0x35) (n u : Nat) (v : Val) :
    (s.put e n 0 v).statusSide u = s.statusSide u := by
  rw [State.statusSide, State.unitSt_congr (State.put_bus ..), State.put_ev,
    State.unitNat_put_ne _ he.1 ⟨by decide, he.2.symm⟩ ⟨by decide, he.2.symm⟩, State.statusSide]

theorem State.startXfer_statusSide (s : State) (w : Nat) (write : Bool) (index sub type : Nat) (value : List Byte) (u : Nat) :
    (s.startXfer w write index sub type value).statusSide u = s.statusSide u := by
  refine State.startXfer_blind (fun z => z.statusSide u) (fun z e n v he => z.put_statusSide ?_ n u v) (fun _ _ _ _ _ _ _ => rfl) ..
  simp only [Entry.ofUnitTest, List.mem_cons, List.not_mem_nil, or_false] at he
  omega

theorem State.checkProfile_statusSide (s : State) (w u : Nat) : (s.checkProfile w).statusSide u = s.statusSide u := by
  unfold State.checkProfile
  dsimp only
  split
  · simp only [State.startXfer_statusSide]
  · simp only [State.startXfer_statusSide]

theorem State.ackSetpoint_statusSide (s : State) (w ref u : Nat) : (s.ackSetpoint w ref).statusSide u = s.statusSide u := by
  unfold State.ackSetpoint
  dsimp only
  split
  · rfl
  · split
    · exact (State.put_statusSide _ (by decide) ..).trans (State.put_statusSide _ (by decide) ..)
    · rfl

theorem State.endUnresponsive_statusSide (s : State) (m u : Nat) : (s.endUnresponsive m).statusSide u = s.statusSide u := by
  unfold State.endUnresponsive
  dsimp only
  split
  · exact State.put_statusSide _ (by decide) ..
  · rfl

theorem State.readLaunch_statusSide (s : State) (w launch u : Nat) : (s.readLaunch w launch).statusSide u = s.statusSide u := by
  unfold State.readLaunch
  split
  · rw [State.ackSetpoint_statusSide, State.ackSetpoint_statusSide]
  · split
    · split
      · rw [State.endUnresponsive_statusSide, State.ackSetpoint_statusSide]
      · rfl
    · rfl

theorem State.askResult_statusSide (s : State) (w : Nat) (available : Bool) (u : Nat) :
    (s.askResult w available).statusSide u = s.statusSide u := by
  unfold State.askResult
  split
  · split
    · exact State.startXfer_statusSide ..
    · rfl
  · rfl

/-- A status heard is recorded with its frame, and nothing is raised (R149, R151). -/
theorem execStatus_records {s : State} {r : CanRx} {u : Nat} (hh : s.hears r u) (hfits : frameIs r 5 0 12 12 = true) :
    ∃ t, execStatus r s = .next t ∧ t.statusSide u =
      ((s.unitSt u).report (if u < 64 then moduleStatus r.data else feStatus r.data) s.frames, s.sfn, s.ev) := by
  obtain ⟨z, hz⟩ : ∃ z, z = s.drained (.status r) r := ⟨_, rfl⟩
  have hunit : z.unitSt u = s.unitSt u := hz ▸ State.drained_unitSt hh _ u
  have hstamp : (z.frames, z.sfn, z.ev) = (s.frames, s.sfn, s.ev) :=
    hz ▸ State.drained_of_hears hh _ (fun y => (y.frames, y.sfn, y.ev)) fun _ _ _ _ => rfl
  simp only [Prod.mk.injEq] at hstamp
  obtain ⟨hframes, hsfn, hev⟩ := hstamp
  have hrecorded (st : UnitStatus) :
      ((z.setUnitSt u ((z.unitSt u).report st z.frames)).setUnitNat Ent.MODULE_LAST_STATUS_SFN Ent.FE_LAST_STATUS_SFN u z.sfn).statusSide u =
        ((s.unitSt u).report st s.frames, s.sfn, s.ev) := by
    rw [State.statusSide, State.unitSt_congr (State.setUnitNat_bus ..), State.unitSt_setUnitSt_same, State.unitNat_setUnitNat_same,
      State.setUnitNat_ev, hunit, hframes, hsfn]
    exact congrArg (fun e => (_, _, e)) hev
  unfold execStatus
  rw [State.receive_of_hears hh _ hfits, ← hz]
  refine ⟨_, rfl, ?_⟩
  dsimp only
  rw [State.askResult_statusSide, State.readLaunch_statusSide]
  split
  · rw [State.checkProfile_statusSide, hrecorded]
  · exact hrecorded _

/-! ### Fault reports -/

/-- A unit with a fault reported first: it joins the active list unless the report is a clearing (R152). -/
def UnitSt.withFault (x : UnitSt) (code severity : Nat) : UnitSt :=
  { x with faults := if severity == 3 then x.faults else (code, severity) :: x.faults }

/-- What a first report of a fault records (R152): the fault of the unit, the worst shown in UNIT_FAULT, the event unless it is a clearing,
and a fault of severity 2 for the allocator. -/
def State.firstFault (s : State) (u code severity detail : Nat) : State :=
  let s1 := s.setUnitSt u ((s.unitSt u).withFault code severity)
  let s2 := s1.setUnitNat Ent.MODULE_UNIT_FAULT Ent.FE_UNIT_FAULT u ((s.unitSt u).withFault code severity).worst
  let s3 := if severity != 3 then s2.raise Evt.UNIT_FAULT_REPORT u (pack [(0, 16, code), (16, 8, severity)]) detail else s2
  if severity == 2 then { s3 with alloc := { s3.alloc with faulted := s3.alloc.faulted ++ [u] } } else s3

theorem State.firstFault_unitSt (s : State) (u code severity detail : Nat) :
    (s.firstFault u code severity detail).unitSt u = (s.unitSt u).withFault code severity := by
  unfold State.firstFault
  extract_lets s1 s2 s3
  have hraised : s3.bus = s1.bus := by
    simp only [s3]
    split
    · exact (State.raiseWith_bus ..).trans (State.setUnitNat_bus ..)
    · exact State.setUnitNat_bus ..
  have hunit : s3.unitSt u = (s.unitSt u).withFault code severity :=
    (State.unitSt_congr hraised u).trans (State.unitSt_setUnitSt_same ..)
  split
  · exact hunit
  · exact hunit

theorem State.firstFault_faulted (s : State) (u code detail : Nat) : u ∈ (s.firstFault u code 2 detail).alloc.faulted :=
  List.mem_append_right _ (List.mem_singleton.2 rfl)

/-- A report of a fault that is not active is a first report. -/
theorem execFault_first {s : State} {r : CanRx} {u : Nat} (hh : s.hears r u) (hfits : frameIs r 1 0 8 8 = true)
    (hfirst : ∀ p ∈ (s.unitSt u).faults, p.1 ≠ leAt r.data 0 2) :
    execFault r s = .next ((s.drained (.fault r) r).firstFault u (leAt r.data 0 2) (leAt r.data 2 1) (leAt r.data 4 4)) := by
  have hold : (s.unitSt u).faults.find? (fun p => p.1 == leAt r.data 0 2) = none :=
    List.find?_eq_none.2 fun p hp => by simpa using hfirst p hp
  have hrest : (s.unitSt u).faults.filter (fun p => p.1 != leAt r.data 0 2) = (s.unitSt u).faults :=
    List.filter_eq_self.2 fun p hp => by simpa using hfirst p hp
  unfold execFault State.firstFault
  dsimp only
  rw [State.receive_of_hears hh _ hfits, State.drained_unitSt hh, hold, hrest]
  dsimp only
  by_cases hclear : leAt r.data 2 1 = 3
  · simp only [hclear, ok]
    rfl
  · have hreport : (leAt r.data 2 1 != 3) = true := by simpa using hclear
    simp only [hreport, Bool.and_true, ok]
    rfl

/-! ### The answer to a REACH read -/

theorem State.xferAnswer_reach (s : State) {x : Xfer} (hread : x.write = false) (hindex : x.index = 1) (hsub : x.sub = 5) (status value : Nat) :
    ((s.xferAnswer x status value).unitSt x.unit).reach = some value := by
  obtain ⟨tag, u, write, index, sub, type, bytes, frame, sends, offset, got⟩ := x
  dsimp only at hread hindex hsub ⊢
  subst hread hindex hsub
  simp only [State.xferAnswer]
  split
  · rw [State.unitSt_raise, State.unitSt_setUnitSt_same]
  · rw [State.unitSt_setUnitSt_same]

/-- The last segment of a read ends its transfer with the whole value (R155). -/
theorem State.xferSegment_last (s : State) {x : Xfer} {b : XferBody} (hok : b.status = St.OK) (hread : x.write = false)
    (hplace : b.offset = x.got.length) (hwhole : b.total ≤ (x.got ++ b.value).length) :
    s.xferSegment x b = (s.endXfer x.tag).xferAnswer x b.status (leNat (x.got ++ b.value)) := by
  unfold State.xferSegment
  simp only [hok, hread, hplace, bne_self_eq_false, Bool.false_eq_true, if_false, Nat.not_lt.2 hwhole, decide_false, Bool.false_and]

/-! ### A unit's request -/

theorem State.sendBus_onBus (s : State) (m : Msg) : (s.sendBus m).onBus m := by
  unfold State.sendBus State.onBus
  split
  · exact .inl (by simp [State.send])
  · exact .inr ⟨s.frames, by simp [State.enqueue]⟩

theorem State.sendBus_cells (s : State) (m : Msg) : (s.sendBus m).cells = s.cells :=
  State.sendBus_keeps State.cells (fun _ _ => rfl) (fun _ _ => rfl) s m

/-- The answer of a REACH read, whole with its last segment, is noted of its unit (R155, R156). -/
theorem execXferResponse_reach {s : State} {r : CanRx} {u : Nat} {x : Xfer} (hh : s.hears r u) (hfits : frameIs r 7 1 64 64 = true)
    (hop : xferOp r.data = 0x81)
    (hx : s.bus.xfers.find? (fun y => y.tag == (xferOf r.data).tag && y.unit == u && y.index == (xferOf r.data).index &&
      y.sub == (xferOf r.data).sub && xferOp r.data == (if y.write then 0x82 else 0x81)) = some x)
    (hok : (xferOf r.data).status = St.OK) (hplace : (xferOf r.data).offset = x.got.length)
    (hwhole : (xferOf r.data).total ≤ (x.got ++ (xferOf r.data).value).length) (hindex : x.index = 1) (hsub : x.sub = 5) :
    ∃ t, execXferResponse r s = .next t ∧ (t.unitSt u).reach = some (leNat (x.got ++ (xferOf r.data).value)) := by
  have hfound := List.find?_some hx
  simp only [hop, Bool.and_eq_true, beq_iff_eq] at hfound
  obtain ⟨⟨⟨⟨-, hunit⟩, -⟩, -⟩, hdir⟩ := hfound
  have hread : x.write = false := by
    cases hw : x.write
    · rfl
    · simp [hw] at hdir
  have hxfers : (s.drained (.xferResponse r) r).bus.xfers = s.bus.xfers :=
    State.drained_of_hears hh _ (fun z => z.bus.xfers) fun _ _ _ _ => rfl
  unfold execXferResponse
  dsimp only
  rw [State.receive_of_hears hh _ hfits, hxfers, hx]
  dsimp only
  rw [State.xferSegment_last _ hok hread hplace hwhole]
  exact ⟨_, rfl, hunit ▸ State.xferAnswer_reach _ hread hindex hsub _ _⟩

/-- A unit's request is answered on its channel with what its rule lets it read (R155). -/
theorem execXferRequest_answers {s : State} {r : CanRx} {u : Nat} (hh : s.hears r u) (hfits : frameIs r 7 2 64 64 = true)
    (hop : xferOp r.data = 1 ∨ xferOp r.data = 2) :
    ∃ t m own, execXferRequest r s = .next t ∧ t.onBus m ∧ m.kind = .xferResponse ∧ m.dest = s.unitChannel u ∧
      m.body = xferBody ((s.drained (.xferRequest r) r).unitRead own (xferOp r.data == 2) (xferOf r.data)) (xferOp r.data + 0x80) ∧
      t.cells = s.cells := by
  have hopen : (frameIs r 7 2 64 64 && (xferOp r.data == 1 || xferOp r.data == 2)) = true := by simpa [hfits] using hop
  have hchannel : (s.drained (.xferRequest r) r).unitChannel u = s.unitChannel u :=
    State.drained_of_hears hh _ (fun z => z.unitChannel u) fun _ _ _ _ => rfl
  have hcells : (s.drained (.xferRequest r) r).cells = s.cells := State.drained_of_hears hh _ State.cells fun _ _ _ _ => rfl
  unfold execXferRequest
  dsimp only
  rw [State.receive_of_hears hh _ hopen]
  exact ⟨_, _, _, rfl, State.sendBus_onBus .., rfl, hchannel, rfl, (State.sendBus_cells ..).trans hcells⟩

theorem State.unitRead_write (s : State) (own : Nat) (b : XferBody) :
    s.unitRead own true b = { b with status := St.DENIED_ACCESS, total := 0, value := [] } := by
  simp [State.unitRead, St.DENIED_ACCESS, St.OK]

/-- Settles O25: each message on the state in which it takes effect, and a frame on a channel that is off. -/
theorem unitMessagesAreTakenIn : Obligations.UnitMessagesAreTakenIn := by
  intro s r
  refine ⟨fun u hh => ⟨fun hfits hu => ⟨?_, ?_⟩, fun hfits => ?_, fun hfits hfirst => ?_, ?_,
    fun hfits => ⟨fun hop => ?_, fun hop => ?_⟩⟩, fun hreplay hoff => ?_⟩
  · exact execAck_marksCommand hh hfits hu
  · exact fun x => execAck_showsSetpoint hh hfits hu
  · obtain ⟨t, hexec, hside⟩ := execStatus_records hh hfits
    simp only [State.statusSide, Prod.mk.injEq] at hside
    obtain ⟨hunit, hframe, hev⟩ := hside
    exact ⟨t, hexec, hunit, hframe, fun _ _ _ => hev⟩
  · refine ⟨_, execFault_first hh hfits hfirst, ?_, fun hsevere => ?_⟩
    · rw [State.firstFault_unitSt, State.drained_unitSt hh, UnitSt.withFault]
      simp only [beq_iff_eq]
    · rw [hsevere]
      exact State.firstFault_faulted ..
  · exact fun x hfits hop hx hok hplace hwhole => execXferResponse_reach hh hfits hop hx hok hplace hwhole
  · obtain ⟨t, m, own, hexec, hbus, hkind, hdest, hbody, hcells⟩ := execXferRequest_answers hh hfits (.inr hop)
    refine ⟨t, m, hexec, hbus, hkind, hdest, ?_, hcells⟩
    rw [hbody, hop, beq_self_eq_true, State.unitRead_write]
  · obtain ⟨t, m, own, hexec, hbus, hkind, hdest, -, hcells⟩ := execXferRequest_answers hh hfits (.inl hop)
    exact ⟨t, m, hexec, hbus, hkind, hdest, hcells⟩
  · have hsilent (row : Instr) (fits : Bool) (go : State → Nat → State) : ok (s.receive row r fits go) = .next s :=
      congrArg Host.Outcome.next (State.receive_of_off hreplay hoff row fits go)
    exact ⟨hsilent .., hsilent .., hsilent .., hsilent .., hsilent ..⟩

end Sys2Proof.Machine
end

section
/-!
PROOFS. The channels of the module bus and their errors (O26): transmission reports, error-passive, bus-off and its recovery, and a
dictionary request without an answer (R139, R140, R155).
-/
namespace Sys2Proof.Machine
open Sys2Proof

theorem State.can_setCan_same (s : State) (ch : Nat) (k : CanSt) : (s.setCan ch k).can ch = k := Tab.get_set_same ..

theorem State.can_congr {s t : State} (h : t.bus = s.bus) (ch : Nat) : t.can ch = s.can ch := by
  rw [State.can, State.can, h]

theorem State.can_setNat (s : State) (e : Entry) (n v j ch : Nat) : (s.setNat e n v j).can ch = s.can ch :=
  State.can_congr (State.put_bus ..) ch

theorem State.can_raise (s : State) (k : EvKind) (i p q ch : Nat) : (s.raise k i p q).can ch = s.can ch :=
  State.can_congr (State.raiseWith_bus ..) ch

/-! ### Transmission reports -/

/-- A report other than SENT is counted (R139). -/
def State.countDropped (s : State) (ch : Fin 4) : State := s.setNat Ent.TX_DROPPED ch (s.nat Ent.TX_DROPPED ch + 1)

theorem State.countDropped_reads (s : State) (ch : Fin 4) :
    (s.countDropped ch).nat Ent.TX_DROPPED ch = s.nat Ent.TX_DROPPED ch + 1 ∧
      s.cellsKept (s.countDropped ch) [Ent.TX_DROPPED.key ch] ∧ { s.countDropped ch with cells := s.cells } = s :=
  ⟨State.nat_setNat_same .., State.cellsKept_put (State.cellsKept_of_cells rfl _) _ (List.mem_singleton.2 rfl), rfl⟩

theorem State.bump_countDropped {s : State} {ch : Fin 4} (hfit : s.nat Ent.TX_DROPPED ch + 1 < 2 ^ Ent.TX_DROPPED.type.bits) :
    s.bump Ent.TX_DROPPED ch = s.countDropped ch := State.bump_of_fits hfit

/-- What does not read the device's own values is as it was before the count. -/
theorem State.countDropped_keeps {β : Type} (g : State → β) (hg : ∀ (z : State) c, g { z with cells := c } = g z) (s : State)
    (ch : Fin 4) : g (s.countDropped ch) = g s := hg s _

section Dropped
variable {s : State} {ch : Fin 4} {cls sub : Fin 8} {node : Fin 32} {outcome : Fin 4} (start : Int) (data : List Byte)
  (hout : outcome.val ≠ 0) (hfit : s.nat Ent.TX_DROPPED ch + 1 < 2 ^ Ent.TX_DROPPED.type.bits)
include hout hfit

/-- A set-point block that was not sent is counted and kept for cycle 19. -/
theorem execTxReport_block : execTxReport ch 2 sub node outcome start data s = .next ((s.countDropped ch).blockAgain ch.val sub.val) := by
  unfold execTxReport
  rw [if_neg (by simpa using hout), State.bump_countDropped hfit]
  rfl

theorem execTxReport_stranger (hcls : cls.val ≠ 2) (hunit : s.unitAt ch node = none) :
    execTxReport ch cls sub node outcome start data s = .next (s.countDropped ch) := by
  have hcounted : (s.countDropped ch).unitAt ch node = none :=
    (State.countDropped_keeps (fun z => z.unitAt ch node) (fun _ _ => rfl) s ch).trans hunit
  unfold execTxReport
  rw [if_neg (by simpa using hout), State.bump_countDropped hfit]
  dsimp only
  rw [if_neg (by simpa using hcls), hcounted]
  rfl

/-- A message to a unit that was not sent is counted and goes again in the next frame. -/
theorem execTxReport_again {u : Nat} {k : MsgKind} (hcls : cls.val ≠ 2) (hunit : s.unitAt ch node = some u)
    (hkind : s.sentKind u cls sub data = some k) :
    execTxReport ch cls sub node outcome start data s = .next ((s.countDropped ch).enqueue (s.frames + 1)
      ⟨.can, ch.val, k, [(canId cls.val sub.val node.val : Int), u], data⟩) := by
  have hcounted : (s.countDropped ch).unitAt ch node = some u :=
    (State.countDropped_keeps (fun z => z.unitAt ch node) (fun _ _ => rfl) s ch).trans hunit
  have hsent : (s.countDropped ch).sentKind u cls sub data = some k :=
    (State.countDropped_keeps (fun z => z.sentKind u cls sub data) (fun _ _ => rfl) s ch).trans hkind
  unfold execTxReport
  rw [if_neg (by simpa using hout), State.bump_countDropped hfit]
  dsimp only
  rw [if_neg (by simpa using hcls), hcounted]
  dsimp only
  rw [hsent]
  rfl

end Dropped

theorem State.mem_enqueue (s : State) (f : Nat) (m : Msg) : (f, m) ∈ (s.enqueue f m).bus.queue :=
  List.mem_append_right _ (List.mem_singleton.2 rfl)

/-- A block of this frame goes once more in its cycle 19 (Table 6-3). -/
theorem State.blockAgain_waits {s : State} {ch index : Nat} {m : Msg} (hsent : s.alloc.sentAt = some s.frames)
    (hm : Tab.find (s.can ch).blocks index = some m) (hcycle : s.cycle ≠ 19) :
    s.blockAgain ch index =
      s.setCan ch { s.can ch with blocks := Tab.erase (s.can ch).blocks index, again := (s.can ch).again ++ [m] } := by
  unfold State.blockAgain
  dsimp only
  rw [if_pos (by simp [hsent]), hm]
  dsimp only
  rw [if_neg (by simpa using hcycle)]

/-- SENT of a frame mark dates it (R139, R143). -/
theorem execTxReport_mark {s : State} {ch : Fin 4} (sub : Fin 8) (node : Fin 32) (start : Int) (data : List Byte) :
    ∃ t, execTxReport ch 0 sub node 0 start data s = .next t ∧ (t.can ch).mark = some (s.frames, start) ∧
      { t with bus := s.bus, stream := s.stream } = s := by
  have hmirror := s.mirrorBus_frame ch.val (s.nat Ent.CHANNEL_STATE ch) (canId 0 sub.val node.val) true start.toNat data s.stream
  refine ⟨_, rfl, ?_, ?_⟩
  · rw [State.can_setCan_same]
    exact congrArg (fun f => some (f, start)) (congrArg State.frames hmirror :)
  · exact congrArg (fun z : State => { z with bus := s.bus }) hmirror

/-! ### Error-passive and bus-off -/

/-- An event raised in a state with the log and the stamp of `s`. -/
theorem State.raised_of_raise {s z : State} {k : EvKind} {i p q : Nat} (hev : z.ev = s.ev) (hsfn : z.sfn = s.sfn) (hcycle : z.cycle = s.cycle)
    (htime : z.time = s.time) : s.raised (z.raise k i p q) k i p q := State.raise_ev_congr hev hsfn hcycle htime k i p q

theorem execCanErrorPassive_shows (s : State) (ch : Fin 4) (tx rx : Nat) :
    ∃ t, execCanErrorPassive ch tx rx s = .next t ∧ t.nat Ent.CHANNEL_STATE ch = Can.ERROR_PASSIVE ∧
      t.nat Ent.TX_ERROR_COUNT ch = low 8 tx ∧ t.nat Ent.RX_ERROR_COUNT ch = low 8 rx ∧
      s.raised t Evt.CAN_ERROR_PASSIVE ch (low 8 tx) (low 8 rx) ∧ { t with cells := s.cells, ev := s.ev } = s := by
  refine ⟨_, rfl, ?_, ?_, ?_, ?_, ?_⟩
  · rw [State.nat_raise, State.setNat_eq, State.nat_put_ne _ _ (Entry.key_ne_of_sub (by decide) _ _), State.setNat_eq,
      State.nat_put_ne _ _ (Entry.key_ne_of_sub (by decide) _ _), State.nat_setNat_same]
  · rw [State.nat_raise, State.setNat_eq, State.nat_put_ne _ _ (Entry.key_ne_of_sub (by decide) _ _), State.nat_setNat_same]
  · rw [State.nat_raise, State.nat_setNat_same]
  · exact State.raised_of_raise rfl rfl rfl rfl
  · exact congrArg (fun z : State => { z with cells := s.cells }) (State.raise_frame _ _ _ _ _ s.ev)

/-- The bus-offs of a channel within the last second, the present one first. -/
def State.recentBusoffs (s : State) (ch : Nat) : List Nat :=
  s.ticks :: (s.can ch).busoffs.filter (fun b => decide (s.ticks < b + secTicks 1))

/-- A channel held off until a tick, its bus-offs forgotten (R140). -/
def CanSt.heldUntil (k : CanSt) (tick : Nat) : CanSt := { k with busoffs := [], hold := some tick }

/-- A bus-off counted, with its event. -/
def State.countBusoff (s : State) (ch : Fin 4) : State :=
  (s.setNat Ent.BUSOFF_COUNT ch (s.nat Ent.BUSOFF_COUNT ch + 1)).raise Evt.CAN_BUS_OFF ch (s.nat Ent.BUSOFF_COUNT ch + 1) 0

theorem State.countBusoff_count (s : State) (ch : Fin 4) : (s.countBusoff ch).nat Ent.BUSOFF_COUNT ch = s.nat Ent.BUSOFF_COUNT ch + 1 := by
  rw [State.countBusoff, State.nat_raise, State.nat_setNat_same]

theorem State.countBusoff_frame (s : State) (ch : Fin 4) : { s.countBusoff ch with cells := s.cells, ev := s.ev } = s :=
  congrArg (fun z : State => { z with cells := s.cells })
    ((s.setNat Ent.BUSOFF_COUNT ch (s.nat Ent.BUSOFF_COUNT ch + 1)).raise_frame Evt.CAN_BUS_OFF ch (s.nat Ent.BUSOFF_COUNT ch + 1) 0 s.ev)

/-- An event leaves all but the log. -/
theorem State.frame_of_raise {s z : State} (hz : { z with cells := s.cells, ev := s.ev, bus := s.bus } = s) (k : EvKind) (i p q : Nat) :
    { z.raise k i p q with cells := s.cells, ev := s.ev, bus := s.bus } = s :=
  (congrArg (fun y : State => { y with cells := s.cells, bus := s.bus }) (z.raise_frame k i p q s.ev)).trans hz

section BusOff
variable {s : State} {ch : Fin 4} (hfit : s.nat Ent.BUSOFF_COUNT ch + 1 < 2 ^ Ent.BUSOFF_COUNT.type.bits)
include hfit

theorem execCanBusOff_off (hfew : (s.recentBusoffs ch).length < 3) :
    execCanBusOff ch s = .next (((s.countBusoff ch).setCan ch { s.can ch with busoffs := s.recentBusoffs ch }).setNat
      Ent.CHANNEL_STATE ch Can.BUS_OFF) := by
  unfold execCanBusOff
  dsimp only
  rw [State.bump_of_fits hfit, State.nat_setNat_same]
  exact if_neg (Nat.not_le.2 hfew)

theorem execCanBusOff_held (hmany : 3 ≤ (s.recentBusoffs ch).length) :
    execCanBusOff ch s = .next ((((s.countBusoff ch).setCan ch
      ((s.can ch).heldUntil (s.ticks + msTicks (s.nat Ent.BUSOFF_HOLD ch)))).setNat Ent.CHANNEL_STATE ch Can.HELD).raise
      Evt.CAN_BUS_HELD ch (s.nat Ent.BUSOFF_HOLD ch) 0) := by
  unfold execCanBusOff
  dsimp only
  rw [State.bump_of_fits hfit, State.nat_setNat_same]
  exact if_pos hmany

end BusOff

/-- What the state of a channel is set to keeps its count of bus-offs. -/
theorem State.busoffCount_setState (s : State) (ch : Fin 4) (st : Nat) :
    (s.setNat Ent.CHANNEL_STATE ch st).nat Ent.BUSOFF_COUNT ch = s.nat Ent.BUSOFF_COUNT ch :=
  State.nat_put_ne _ _ (Entry.key_ne_of_sub (by decide) _ _)

/-- What the state of a channel is set to leaves all but the own values. -/
theorem State.setChannelState_frame (s : State) (ch : Fin 4) (st : Nat) (c : Tab Val) :
    { s.setNat Ent.CHANNEL_STATE ch st with cells := c } = { s with cells := c } := rfl

/-- A bus-off counted, with the channel's record and state set from it. -/
theorem State.countBusoff_set (s : State) (ch : Fin 4) (k : CanSt) (st : Nat) :
    let t := ((s.countBusoff ch).setCan ch k).setNat Ent.CHANNEL_STATE ch st
    t.nat Ent.BUSOFF_COUNT ch = s.nat Ent.BUSOFF_COUNT ch + 1 ∧ t.nat Ent.CHANNEL_STATE ch = st ∧ t.can ch = k ∧
      { t with cells := s.cells, ev := s.ev, bus := s.bus } = s := by
  refine ⟨?_, State.nat_setNat_same .., ?_, ?_⟩
  · rw [State.busoffCount_setState]
    exact s.countBusoff_count ch
  · rw [State.can_setNat, State.can_setCan_same]
  · have hset := congrArg (fun z : State => { z with ev := s.ev, bus := s.bus })
      (((s.countBusoff ch).setCan ch k).setChannelState_frame ch st s.cells)
    exact hset.trans (congrArg (fun z : State => { z with bus := s.bus }) (s.countBusoff_frame ch))

theorem execCanBusOff_counts {s : State} {ch : Fin 4} (hfit : s.nat Ent.BUSOFF_COUNT ch + 1 < 2 ^ Ent.BUSOFF_COUNT.type.bits) :
    ∃ t, execCanBusOff ch s = .next t ∧ t.nat Ent.BUSOFF_COUNT ch = s.nat Ent.BUSOFF_COUNT ch + 1 ∧
      ((s.recentBusoffs ch).length < 3 → t.nat Ent.CHANNEL_STATE ch = Can.BUS_OFF ∧ (t.can ch).busoffs = s.recentBusoffs ch) ∧
      (3 ≤ (s.recentBusoffs ch).length →
        t.nat Ent.CHANNEL_STATE ch = Can.HELD ∧ (t.can ch).hold = some (s.ticks + s.nat Ent.BUSOFF_HOLD ch * 20)) ∧
      { t with cells := s.cells, ev := s.ev, bus := s.bus } = s := by
  rcases Nat.lt_or_ge (s.recentBusoffs ch).length 3 with hfew | hmany
  · obtain ⟨hcount, hstate, hcan, hframe⟩ := s.countBusoff_set ch { s.can ch with busoffs := s.recentBusoffs ch } Can.BUS_OFF
    exact ⟨_, execCanBusOff_off hfit hfew, hcount, fun _ => ⟨hstate, congrArg CanSt.busoffs hcan⟩,
      fun h => absurd h (Nat.not_le.2 hfew), hframe⟩
  · obtain ⟨hcount, hstate, hcan, hframe⟩ := s.countBusoff_set ch
      ((s.can ch).heldUntil (s.ticks + msTicks (s.nat Ent.BUSOFF_HOLD ch))) Can.HELD
    refine ⟨_, execCanBusOff_held hfit hmany, ?_, fun h => absurd hmany (Nat.not_le.2 h), fun _ => ⟨?_, ?_⟩, ?_⟩
    · rw [State.nat_raise, hcount]
    · rw [State.nat_raise, hstate]
    · rw [State.can_raise, hcan]
      rfl
    · exact State.frame_of_raise hframe _ _ _ _

/-! ### Recovery -/

/-- A channel set to a state keeps every other own value. -/
theorem State.setChannelState_kept {s z : State} (hz : z.cells = s.cells) (ch : Fin 4) (st : Nat) :
    s.cellsKept (z.setNat Ent.CHANNEL_STATE ch st) [Ent.CHANNEL_STATE.key ch] :=
  State.cellsKept_put (State.cellsKept_of_cells hz _) _ (List.mem_singleton.2 rfl)

theorem execBusOffRecovery_off {s : State} {ch : Fin 4} (h : s.nat Ent.CHANNEL_STATE ch = Can.BUS_OFF) :
    execBusOffRecovery ch s = .next (s.setNat Ent.CHANNEL_STATE ch Can.ERROR_ACTIVE) := by
  simp [execBusOffRecovery, h, ok]

theorem execBusoffHoldEnd_due {s : State} {ch : Fin 4} {b : Nat} (hhold : (s.can ch).hold = some b) (hdue : b ≤ s.ticks) :
    execBusoffHoldEnd ch s =
      .next ((s.setCan ch { s.can ch with hold := none }).setNat Ent.CHANNEL_STATE ch Can.ERROR_ACTIVE) := by
  unfold execBusoffHoldEnd
  dsimp only
  rw [hhold]
  exact if_pos hdue

/-! ### A request without an answer -/

/-- A transfer's next sending (R155). -/
def Xfer.resent (x : Xfer) (frame : Nat) : Xfer := { x with frame := frame, sends := x.sends + 1 }

section TimeOut
variable {s : State} {tag : Fin 256} {x : Xfer} (hx : s.bus.xfers.find? (fun y => y.tag == tag.val) = some x)
  (hdue : x.frame + 10 ≤ s.frames)
include hx hdue

theorem execXferTimeout_again (hsends : x.sends < 3) :
    ∃ t, execXferTimeout tag s = .next t ∧ t.onBus (s.xferMsg (x.resent s.frames)) ∧ x.resent s.frames ∈ t.bus.xfers ∧
      { t with bus := s.bus, out := s.out } = s := by
  have hmem : x ∈ s.bus.xfers := List.mem_of_find?_eq_some hx
  have hresent : x.resent s.frames ∈ s.bus.xfers.map (fun q => if q.tag == x.tag then x.resent s.frames else q) :=
    List.mem_map.2 ⟨x, hmem, by simp⟩
  unfold execXferTimeout
  rw [hx]
  dsimp only
  rw [if_neg (Nat.not_lt.2 hdue), if_pos hsends]
  refine ⟨_, rfl, State.sendBus_onBus .., ?_, ?_⟩
  · rw [State.sendBus_keeps (fun z => z.bus.xfers) (fun _ _ => rfl) (fun _ _ => rfl)]
    exact hresent
  · exact State.sendBus_keeps (fun z : State => { z with bus := s.bus, out := s.out }) (fun _ _ => rfl) (fun _ _ => rfl) _ _

theorem execXferTimeout_ends (hsends : 3 ≤ x.sends) (hindex : x.index ≠ 3) : execXferTimeout tag s = .next (s.endXfer x.tag) := by
  unfold execXferTimeout
  rw [hx]
  dsimp only
  rw [if_neg (Nat.not_lt.2 hdue), if_neg (Nat.not_lt.2 hsends), if_neg (by simpa using hindex)]
  rfl

end TimeOut

/-- Settles O26: each report, error and end of a channel's silence, and the request resent or ended. -/
theorem busChannelsAndTheirErrors : Obligations.BusChannelsAndTheirErrors := by
  intro s
  refine ⟨fun ch cls sub node outcome start data hout hcls hunit hfit => ?_,
    fun ch cls sub node outcome start data u k hout hcls hunit hkind hfit => ?_,
    fun ch sub node outcome start data m hout hsent hm hcycle hfit => ?_, fun ch sub node start data => execTxReport_mark sub node start data,
    fun ch tx rx => execCanErrorPassive_shows s ch tx rx, fun ch hfit => execCanBusOff_counts hfit, fun ch hoff => ?_,
    fun ch b hhold hdue => ?_, fun tag x hx hdue hsends => execXferTimeout_again hx hdue hsends,
    fun tag x hx hdue hsends hindex => execXferTimeout_ends hx hdue hsends hindex⟩
  · exact ⟨_, execTxReport_stranger start data hout hfit hcls hunit, s.countDropped_reads ch⟩
  · obtain ⟨hcount, -, hframe⟩ := s.countDropped_reads ch
    exact ⟨_, execTxReport_again start data hout hfit hcls hunit hkind, hcount, State.mem_enqueue ..,
      congrArg (fun z : State => { z with bus := s.bus }) hframe⟩
  · obtain ⟨hcount, -, hframe⟩ := s.countDropped_reads ch
    have hwaits : (s.countDropped ch).blockAgain ch.val sub.val = (s.countDropped ch).setCan ch.val
        { s.can ch with blocks := Tab.erase (s.can ch).blocks sub, again := (s.can ch).again ++ [m] } :=
      State.blockAgain_waits hsent hm hcycle
    refine ⟨_, execTxReport_block start data hout hfit, ?_⟩
    rw [hwaits]
    exact ⟨hcount, by rw [State.can_setCan_same], congrArg (fun z : State => { z with bus := s.bus }) hframe⟩
  · exact ⟨_, execBusOffRecovery_off hoff, State.nat_setNat_same .., State.setChannelState_kept rfl ch _, rfl⟩
  · refine ⟨_, execBusoffHoldEnd_due hhold hdue, State.nat_setNat_same .., ?_, State.setChannelState_kept rfl ch _, rfl⟩
    rw [State.can_setNat, State.can_setCan_same]

end Sys2Proof.Machine
end

section
/-!
PROOFS. Units that go missing, move to their alternate attachment and are tested (O27): a status past its allowance (R151), the other channel
(R161), and a unit's self-test from its request to its time-out (R157).
-/
namespace Sys2Proof.Machine
open Sys2Proof

/-! ### A status that does not come -/

/-- A module's state shown anew is a write of MODULE_STATE at most. -/
theorem State.refreshModule_keeps {β : Type} (g : State → β) (hput : ∀ (z : State) m v, g (z.setNat Ent.MODULE_STATE m v) = g z)
    (s : State) (m : Nat) : g (s.refreshModule m) = g s := by
  unfold State.refreshModule
  dsimp only
  split
  · rfl
  · split
    · exact hput ..
    · split
      · split
        · rfl
        · exact hput ..
      · exact hput ..

/-- A unit taken out of service, with its event (R151). -/
def State.missUnit (s : State) (u : Nat) : State :=
  (s.setUnitSt u { s.unitSt u with missing := true }).raise Evt.UNIT_STATUS_MISSING u (s.frames - (s.unitSt u).due.getD 0) (s.unitChannel u)

theorem State.missUnit_reads (s : State) (u : Nat) :
    ((s.missUnit u).unitSt u).missing = true ∧
      s.raised (s.missUnit u) Evt.UNIT_STATUS_MISSING u (s.frames - (s.unitSt u).due.getD 0) (s.unitChannel u) ∧
      { s.missUnit u with cells := s.cells, ev := s.ev, bus := s.bus } = s := by
  refine ⟨?_, State.raised_of_raise rfl rfl rfl rfl, State.frame_of_raise rfl _ _ _ _⟩
  rw [State.missUnit, State.unitSt_raise, State.unitSt_setUnitSt_same]

theorem execUnitStatusMissing_due {s : State} {unit : Fin 80} (hfitted : s.fitted unit.val = true) (hthere : (s.unitSt unit.val).missing = false)
    (hdue : s.missingFor unit.val (s.statusAllowance unit.val) = true) :
    execUnitStatusMissing unit s = .next (if unit.val < 64 then (s.missUnit unit.val).refreshModule unit.val
      else (s.missUnit unit.val).setNat Ent.FE_STATE (unit.val - 64) ((s.missUnit unit.val).feState (unit.val - 64))) := by
  unfold execUnitStatusMissing
  dsimp only
  rw [if_pos (by simp [hfitted, hthere, hdue])]
  rfl

theorem execUnitStatusMissing_missing {s : State} {unit : Fin 80} (hfitted : s.fitted unit.val = true)
    (hthere : (s.unitSt unit.val).missing = false) (hdue : s.missingFor unit.val (s.statusAllowance unit.val) = true) :
    ∃ t, execUnitStatusMissing unit s = .next t ∧ (t.unitSt unit.val).missing = true ∧
      s.raised t Evt.UNIT_STATUS_MISSING unit.val (s.frames - (s.unitSt unit.val).due.getD 0) (s.unitChannel unit.val) ∧
      { t with cells := s.cells, ev := s.ev, bus := s.bus } = s := by
  obtain ⟨hmissing, hraised, hframe⟩ := s.missUnit_reads unit.val
  refine ⟨_, execUnitStatusMissing_due hfitted hthere hdue, ?_⟩
  split
  · rw [State.unitSt_congr (State.refreshModule_keeps State.bus (fun _ _ _ => State.put_bus ..) _ _), State.raised,
      State.refreshModule_keeps State.ev (fun _ _ _ => State.put_ev ..)]
    exact ⟨hmissing, hraised, (State.refreshModule_keeps (fun z : State => { z with cells := s.cells, ev := s.ev, bus := s.bus })
      (fun _ _ _ => rfl) _ _).trans hframe⟩
  · rw [State.setNat_eq, State.unitSt_congr (State.put_bus ..), State.raised, State.put_ev]
    exact ⟨hmissing, hraised, hframe⟩

theorem execUnitStatusMissing_early {s : State} {unit : Fin 80} (h : s.missingFor unit.val (s.statusAllowance unit.val) = false) :
    execUnitStatusMissing unit s = .next s := by
  unfold execUnitStatusMissing
  dsimp only
  rw [if_neg (by simp [h])]
  rfl

/-! ### The other channel -/

/-- A unit reached by its alternate attachment on a channel, what waits for it following (R161). -/
def State.moveToAlternate (s : State) (u ch : Nat) : State :=
  ((s.setUnitSt u { s.unitSt u with alt := true }).setUnitNat Ent.MODULE_BUS_IN_USE Ent.FE_BUS_IN_USE u ch).rerouteBus u

theorem State.moveToAlternate_reads (s : State) (u ch : Nat) :
    ((s.moveToAlternate u ch).unitSt u).alt = true ∧
      (s.moveToAlternate u ch).unitNat Ent.MODULE_BUS_IN_USE Ent.FE_BUS_IN_USE u = ch ∧
      { s.moveToAlternate u ch with cells := s.cells, ev := s.ev, bus := s.bus } = s := by
  have hunits (z : State) : (z.rerouteBus u).unitSt u = z.unitSt u := rfl
  refine ⟨?_, State.unitNat_setUnitNat_same .., ?_⟩
  · rw [State.moveToAlternate, hunits, State.unitSt_congr (State.setUnitNat_bus ..), State.unitSt_setUnitSt_same]
  · unfold State.moveToAlternate State.setUnitNat
    split
    · rfl
    · rfl

theorem State.unitNat_raise (s : State) (k : EvKind) (i p q : Nat) (m f : Entry) (u : Nat) :
    (s.raise k i p q).unitNat m f u = s.unitNat m f u := by
  unfold State.unitNat
  rw [State.nat_raise, State.nat_raise]

/-- The grant in force is to be sent again (R161). -/
def State.restateGrant (s : State) (u : Nat) : State := s.setGrants u { s.grants u with restate := true }

theorem State.restateGrant_grants (s : State) (u : Nat) : ((s.restateGrant u).grants u).restate = true := by
  rw [State.restateGrant, State.grants_setGrants_same]

/-- A grant restated is the allocator's record alone. -/
theorem State.frame_of_restate {s z : State} (hz : { z with cells := s.cells, ev := s.ev, bus := s.bus } = s) (u : Nat) :
    { z.restateGrant u with cells := s.cells, ev := s.ev, bus := s.bus, alloc := s.alloc } = s :=
  congrArg (fun y : State => { y with alloc := s.alloc }) hz

theorem execUnitChannelChange_moves {s : State} {unit : Fin 80} {ch : Nat} (hfitted : s.fitted unit.val = true)
    (hprimary : (s.unitSt unit.val).alt = false) (hch : s.unitNat Ent.MODULE_BUS_ALT_CHANNEL Ent.FE_BUS_ALT_CHANNEL unit.val = ch)
    (hother : ch ≠ 0xFF) (hup : s.canUp ch = true)
    (hlost : s.busLost (s.unitNat Ent.MODULE_BUS_CHANNEL Ent.FE_BUS_CHANNEL unit.val) = true ∨ s.missingFor unit.val 10 = true) :
    execUnitChannelChange unit s = .next (((s.moveToAlternate unit.val ch).raise Evt.UNIT_CHANNEL_CHANGE unit.val ch
      (s.unitNat Ent.MODULE_BUS_ALT_NODE Ent.FE_BUS_ALT_NODE unit.val)).restateGrant unit.val) := by
  unfold execUnitChannelChange
  dsimp only
  rw [hch, if_pos (by simpa [hfitted, hprimary, hother, hup] using hlost)]
  rfl

/-! ### Self-tests of units -/

/-- The target of a unit's self-test (R157). -/
def unitTestTarget (u : Nat) : Nat := if u < 64 then Ent.MODULE_UNIT_TEST.target u else Ent.FE_UNIT_TEST.target (u - 64)

theorem State.startXfer_starts (s : State) (u : Nat) (write : Bool) (index sub type : Nat) (value : List Byte) :
    (s.startXfer u write index sub type value).bus.tests = s.bus.tests ∧
      ∃ x ∈ (s.startXfer u write index sub type value).bus.xfers, x.unit = u ∧ x.write = write ∧ x.index = index ∧ x.sub = sub := by
  unfold State.startXfer
  split
  · next t _ =>
    dsimp only
    rw [State.sendBus_keeps (fun z => z.bus.tests) (fun _ _ => rfl) (fun _ _ => rfl),
      State.sendBus_keeps (fun z => z.bus.xfers) (fun _ _ => rfl) (fun _ _ => rfl), State.takeTag_bus]
    exact ⟨rfl, _, List.mem_append_right _ (List.mem_singleton.2 rfl), rfl, rfl, rfl, rfl⟩
  · exact ⟨rfl, _, List.mem_append_right _ (List.mem_singleton.2 rfl), rfl, rfl, rfl, rfl⟩

/-- A self-test begins with the read of its time (R157). -/
theorem State.startUnitTest_starts (s : State) (u : Nat) (asked : Option Held) (slot : Option Nat) :
    ⟨u, none, s.frames, asked, false⟩ ∈ (s.startUnitTest u asked slot).bus.tests ∧
      ∃ x ∈ (s.startUnitTest u asked slot).bus.xfers, x.unit = u ∧ x.write = false ∧ x.index = 3 ∧ x.sub = 3 := by
  unfold State.startUnitTest
  extract_lets target s1 bus s2
  obtain ⟨htests, hxfer⟩ := s2.startXfer_starts u false 3 3 EType.u16.code []
  refine ⟨?_, hxfer⟩
  rw [htests]
  exact List.mem_append_right _ (List.mem_singleton.2 rfl)

theorem State.askUnitTest_idle {s : State} {u : Nat} {h : Held} {value : List Byte} (hidle : s.unitInService u = false)
    (hfree : ∀ r ∈ s.running, r.target ≠ unitTestTarget u) : s.askUnitTest u h value = s.startUnitTest u (some h) none := by
  have hnone : s.running.any (fun r => r.target == unitTestTarget u) = false := by simpa using hfree
  unfold State.askUnitTest
  exact if_neg (by simpa [hidle, unitTestTarget] using hnone)

theorem State.askUnitTest_conflict {s : State} {u : Nat} {h : Held} {value : List Byte} (hbusy : s.unitInService u = true)
    (hqueue : h.queue = false) : s.askUnitTest u h value = s.answerLater h St.CONFLICT [] := by
  simp [State.askUnitTest, State.testOrQueue, hbusy, hqueue]

/-- A client's write of UNIT_TEST that is accepted is asked for in the state with its tag taken. -/
theorem execUnitTest_accepted {s : State} {c : Client} {e : Entry} {u n v : Nat} {h : Held}
    (he : (if u < 64 then Ent.MODULE_UNIT_TEST else Ent.FE_UNIT_TEST) = e) (hn : (if u < 64 then u else u - 64) = n)
    (ha : s.accepts c e n (.num v) h) :
    execUnitTest c u v s = .next ((s.taken h).askUnitTest u h (leBytes 1 v)) ∧ h.queue = c.queue := by
  obtain ⟨k, t, hconn, hheader, hnew, htag, happly, rfl, hpass⟩ := ha
  have happly' : (s.takeTag t (some c.conn)).applying = true := by simpa [State.applying] using happly
  refine ⟨?_, rfl⟩
  unfold execUnitTest
  rw [he, hn]
  simp [State.receiveRequest, hconn, hheader, hnew, htag, hpass, happly', State.taken, ok]

theorem State.taken_keeps {β : Type} (g : State → β) (hg : ∀ (z : State) x c m, g { z with tx := x, cells := c, mirror := m } = g z)
    (s : State) (h : Held) : g (s.taken h) = g s := by
  rw [← hg (s.taken h) s.tx s.cells s.mirror, s.taken_frame h]

/-- What a front-end unit is granted, now and by its plan, is not the tags' to change. -/
theorem State.inForce_taken (s : State) (h : Held) {u : Nat} (hlow : 64 ≤ u) (hhigh : u < 96) : (s.taken h).inForce u = s.inForce u := by
  have hgrant : (s.taken h).val Ent.FE_GRANT (u - 64) = s.val Ent.FE_GRANT (u - 64) :=
    s.val_taken h _ _ _ (Entry.key_ne_of_sub (by decide) _ _) (Entry.key_ne_of_sub (by decide) _ _)
  have hplan : ((s.taken h).grants u, (s.taken h).frames) = (s.grants u, s.frames) :=
    State.taken_keeps (fun z => (z.grants u, z.frames)) (fun _ _ _ _ => rfl) s h
  simp only [Prod.mk.injEq] at hplan
  obtain ⟨hgrants, hframes⟩ := hplan
  unfold State.inForce
  rw [if_neg (Nat.not_lt.2 hlow), if_neg (Nat.not_lt.2 hlow), State.int_def, hgrant, hgrants, hframes, if_pos hhigh, if_pos hhigh]
  rfl

theorem State.unitInService_taken_fe (s : State) (h : Held) {f : Nat} (hf : f < 16) :
    (s.taken h).unitInService (64 + f) = s.unitInService (64 + f) := by
  have hframes : (s.taken h).frames = s.frames := State.taken_keeps State.frames (fun _ _ _ _ => rfl) s h
  have hgrants (u : Nat) : (s.taken h).grants u = s.grants u := State.taken_keeps (fun z => z.grants u) (fun _ _ _ _ => rfl) s h
  have himport := s.inForce_taken h (u := feImport f) (by simp [feImport]) (by simp [feImport]; omega)
  have hexport := s.inForce_taken h (u := feExport f) (by simp [feExport]; omega) (by simp [feExport]; omega)
  unfold State.unitInService State.planned
  rw [Nat.add_sub_cancel_left, himport, hexport, hgrants, hgrants, hframes, if_neg (by omega), if_neg (by omega)]

theorem State.unitInService_taken_module (s : State) (h : Held) {m : Nat} (hm : m < 64) :
    (s.taken h).unitInService m = (s.nat Ent.MODULE_STATE m != Mod.IDLE) := by
  rw [State.unitInService, if_pos hm, s.nat_taken_moduleState h m]

/-- A test accepted for an idle unit begins, its answer waiting for the unit's time (R157). -/
theorem execUnitTest_idle {s : State} {c : Client} {e : Entry} {u n v : Nat} {h : Held}
    (he : (if u < 64 then Ent.MODULE_UNIT_TEST else Ent.FE_UNIT_TEST) = e) (hn : (if u < 64 then u else u - 64) = n)
    (ha : s.accepts c e n (.num v) h) (hidle : (s.taken h).unitInService u = false) (hfree : ∀ r ∈ s.running, r.target ≠ e.target n) :
    ∃ t, execUnitTest c u v s = .next t ∧ ⟨u, none, s.frames, some h, false⟩ ∈ t.bus.tests ∧
      ∃ x ∈ t.bus.xfers, x.unit = u ∧ x.write = false ∧ x.index = 3 ∧ x.sub = 3 := by
  have htarget : e.target n = unitTestTarget u := by
    rw [← he, ← hn, unitTestTarget]
    split
    · rfl
    · rfl
  have hrun : (s.taken h).running = s.running := State.taken_keeps State.running (fun _ _ _ _ => rfl) s h
  have hframes : (s.taken h).frames = s.frames := State.taken_keeps State.frames (fun _ _ _ _ => rfl) s h
  have hask := State.askUnitTest_idle (h := h) (value := leBytes 1 v) hidle (by rwa [hrun, ← htarget])
  obtain ⟨hexec, -⟩ := execUnitTest_accepted he hn ha
  refine ⟨_, hexec, ?_⟩
  rw [hask, ← hframes]
  exact State.startUnitTest_starts ..

/-! ### A test past its time -/

section EndTest
variable {β : Type} (g : State → β) (hraise : ∀ (z : State) k i p q, g (z.raise k i p q) = g z)
  (hrunning : ∀ (z : State) r, g { z with running := r } = g z)
include hraise hrunning

/-- The end of a test takes it from those running and raises its event. -/
theorem State.endTest_keeps (s : State) (target status : Nat) : g (s.endTest target status) = g s := by
  unfold State.endTest
  split
  · rfl
  · dsimp only
    split
    · exact (hraise ..).trans (hrunning ..)
    · exact hrunning ..

end EndTest

/-- The unit's test is over and its result is shown (R157). -/
theorem State.finishUnitTest_ends {s : State} {u : Nat} {x : UnitTestSt} (hx : s.bus.tests.find? (fun y => y.unit == u) = some x)
    (status : Nat) :
    (∀ y ∈ (s.finishUnitTest u status).bus.tests, y.unit ≠ u) ∧
      (s.finishUnitTest u status).unitNat Ent.MODULE_UNIT_TEST_RESULT Ent.FE_UNIT_TEST_RESULT u = status := by
  unfold State.finishUnitTest
  split
  · next hnone => exact absurd (hx.symm.trans hnone) (Option.some_ne_none x)
  extract_lets target bus s1 s2 s3
  have htests : s3.bus.tests = s.bus.tests.filter (fun y => y.unit != u) := by
    rw [State.endTest_keeps State.bus (fun _ _ _ _ _ => State.raiseWith_bus ..) (fun _ _ => rfl)]
    exact congrArg BusSt.tests ((State.raiseWith_bus ..).trans (State.setUnitNat_bus ..))
  have hresult : s3.unitNat Ent.MODULE_UNIT_TEST_RESULT Ent.FE_UNIT_TEST_RESULT u = status := by
    rw [State.endTest_keeps (fun z => z.unitNat Ent.MODULE_UNIT_TEST_RESULT Ent.FE_UNIT_TEST_RESULT u)
      (fun _ _ _ _ _ => State.unitNat_raise ..) (fun _ _ => rfl)]
    exact (State.unitNat_raise ..).trans (State.unitNat_setUnitNat_same ..)
  have hgone : ∀ y ∈ s.bus.tests.filter (fun y => y.unit != u), y.unit ≠ u := fun y hy => by simpa using (List.mem_filter.1 hy).2
  split
  · rw [State.setNat_eq, State.put_bus, htests, State.unitNat_put_ne _ (by decide) (by decide) (by decide), hresult]
    exact ⟨hgone, rfl⟩
  · rw [State.setNat_eq, State.put_bus, htests, State.unitNat_put_ne _ (by decide) (by decide) (by decide), hresult]
    exact ⟨hgone, rfl⟩

theorem execUnitTestLate_due {s : State} {unit : Fin 80} {x : UnitTestSt} {n : Nat}
    (hx : s.bus.tests.find? (fun y => y.unit == unit.val) = some x) (htime : x.time = some n) (hdue : x.started + n + 100 ≤ s.frames) :
    execUnitTestLate unit s = .next (s.finishUnitTest unit.val St.LATE) := by
  unfold execUnitTestLate
  rw [hx]
  dsimp only
  rw [htime]
  exact if_pos hdue

/-- Settles O27: the missing unit, the move to the other channel, the requests on the state with the tag taken, and the late test. -/
theorem unitsGoMissingMoveAndAreTested : Obligations.UnitsGoMissingMoveAndAreTested := by
  intro s
  refine ⟨fun unit hfitted hthere hdue => execUnitStatusMissing_missing hfitted hthere hdue, fun unit h => execUnitStatusMissing_early h,
    fun unit hfitted hprimary hother hup hlost => ?_, fun c m v h hm ha hfree => ⟨fun hidle => ?_, fun hbusy hqueue => ?_⟩,
    fun c f v h hf ha hfree hidle => ?_, fun unit x n hx htime hdue => ?_⟩
  · obtain ⟨halt, hinuse, hframe⟩ := s.moveToAlternate_reads unit.val
      (s.unitNat Ent.MODULE_BUS_ALT_CHANNEL Ent.FE_BUS_ALT_CHANNEL unit.val)
    refine ⟨_, execUnitChannelChange_moves hfitted hprimary rfl hother hup hlost, ?_, State.restateGrant_grants .., ?_, ?_⟩
    · exact (congrArg UnitSt.alt (State.unitSt_raise ..)).trans halt
    · exact (State.unitNat_raise ..).trans hinuse
    · exact State.frame_of_restate (State.frame_of_raise hframe _ _ _ _) _
  · refine execUnitTest_idle (if_pos hm) (if_pos hm) ha ?_ hfree
    rw [State.unitInService_taken_module s h hm, hidle, bne_self_eq_false]
  · obtain ⟨hexec, hasked⟩ := execUnitTest_accepted (if_pos hm) (if_pos hm) ha
    have hserves : (s.taken h).unitInService m = true := by
      rw [State.unitInService_taken_module s h hm]
      simpa using hbusy
    rw [State.askUnitTest_conflict hserves (hasked.trans hqueue)] at hexec
    exact ⟨_, hexec, State.answerLater_repliesWith ..,
      (State.answerLater_bus ..).trans (State.taken_keeps State.bus (fun _ _ _ _ => rfl) s h)⟩
  · have hfe : ¬ 64 + f < 64 := by omega
    exact execUnitTest_idle (if_neg hfe) ((if_neg hfe).trans (Nat.add_sub_cancel_left ..)) ha
      ((s.unitInService_taken_fe h hf).trans hidle) hfree
  · exact ⟨_, execUnitTestLate_due hx htime hdue, State.finishUnitTest_ends hx St.LATE⟩

end Sys2Proof.Machine
end

section
/-!
PROOFS. What the operations of a session leave alone (O29 to O32): the records of the outlets, the vehicle's requests and their replies, the
frames sent to an outlet's modules, and the end of a session by its first source (R167, R182 to R184).
-/
namespace Sys2Proof.Machine
open Sys2Proof

/-! ### The records of the outlets -/

@[simp] theorem State.sess_setSess_same (s : State) (o : Nat) (k : Sess) : (s.setSess o k).sess o = k := Tab.get_set_same ..

theorem State.sess_setSess_ne (s : State) {o p : Nat} (k : Sess) (h : p ≠ o) : (s.setSess o k).sess p = s.sess p :=
  Tab.get_set_ne _ _ _ _ _ h

theorem State.sess_congr {s t : State} (h : t.outlets = s.outlets) (o : Nat) : t.sess o = s.sess o := by rw [State.sess, State.sess, h]

@[simp] theorem State.sess_put (s : State) (e : Entry) (n j : Nat) (v : Val) (o : Nat) : (s.put e n j v).sess o = s.sess o :=
  State.sess_congr (State.put_outlets ..) o

@[simp] theorem State.sess_raiseWith (s : State) (b : Bool) (k : EvKind) (i p q o : Nat) : (s.raiseWith b k i p q).sess o = s.sess o :=
  State.sess_congr (State.raiseWith_outlets ..) o

@[simp] theorem State.sess_toVehicle (s : State) (o msg r g : Nat) (values : List Int) (p : Nat) :
    (s.toVehicle o msg r g values).sess p = s.sess p := rfl

@[simp] theorem State.sess_answerLater (s : State) (h : Held) (st : Nat) (body : List Byte) (o : Nat) :
    (s.answerLater h st body).sess o = s.sess o := rfl

@[simp] theorem State.sess_enter_same (s : State) (o st : Nat) :
    (s.enter o st).sess o = { s.sess o with state := st, stateAt := s.ticks } := State.sess_setSess_same ..

theorem State.sess_enter_ne (s : State) {o p : Nat} (st : Nat) (h : p ≠ o) : (s.enter o st).sess p = s.sess p :=
  State.sess_setSess_ne _ _ h

@[simp] theorem State.setSess_ticks (s : State) (o : Nat) (k : Sess) : (s.setSess o k).ticks = s.ticks := rfl
@[simp] theorem State.enter_ticks (s : State) (o st : Nat) : (s.enter o st).ticks = s.ticks := rfl

@[simp] theorem State.line_setLine_same (s : State) (o : Nat) (k : LineSt) : (s.setLine o k).line o = k := Tab.get_set_same ..

theorem State.sesState_eq (s : State) (o : Nat) : s.sesState o = (s.sess o).state := rfl

/-- A session exists while its outlet stands in none of the three states without one. -/
theorem State.sesLive_iff (s : State) (o : Nat) :
    s.sesLive o = true ↔ s.sesState o ≠ Ses.IDLE ∧ s.sesState o ≠ Ses.FAULTED ∧ s.sesState o ≠ Ses.UNAVAILABLE := by
  simp [State.sesLive, and_assoc]

theorem State.sesLive_congr {s t : State} {o : Nat} (h : t.sesState o = s.sesState o) : t.sesLive o = s.sesLive o := by
  rw [State.sesLive, State.sesLive, h]

/-- From CONNECTED to RELEASE a session exists. -/
theorem State.sesLive_of_state {s : State} {o st : Nat} (h : s.sesState o = st) (hst : 1 ≤ st ∧ st ≤ 12) : s.sesLive o = true := by
  rw [State.sesLive_iff, h]
  refine ⟨?_, ?_, ?_⟩ <;> simp only [Ses.IDLE, Ses.FAULTED, Ses.UNAVAILABLE] <;> omega

/-! ### Requests of the vehicle and what they are told -/

theorem State.noteIn_mirror (s : State) (row : Instr) : ∃ m, s.noteIn row = { s with mirror := m } := by
  unfold State.noteIn
  split
  · exact ⟨_, rfl⟩
  · exact ⟨s.mirror, rfl⟩

/-- A request over the connection, in one of its states, takes effect: but for the note of it the state is that before (R167). -/
theorem State.onRequest_passes {s : State} {o : Nat} {states : List Nat} (row : Instr) (msg : Nat) (go : State → State)
    (hlive : s.sesLive o = true) (hlinked : s.linked o = true) (hstate : states.contains (s.sesState o) = true) :
    ∃ m, s.onRequest row o msg states go = go { s with mirror := m } := by
  obtain ⟨m, hm⟩ := s.noteIn_mirror row
  have hlive' : ({ s with mirror := m } : State).sesLive o = true := hlive
  have hlinked' : ({ s with mirror := m } : State).linked o = true := hlinked
  have hstate' : states.contains (({ s with mirror := m } : State).sesState o) = true := hstate
  refine ⟨m, ?_⟩
  unfold State.onRequest
  rw [hm]
  simp only [hlive', hlinked', hstate', Bool.not_true, Bool.or_false, Bool.false_eq_true, if_false, if_true]

/-- What a request in one of its states brings about, from what its effect is on that state. -/
theorem State.onRequest_next {s : State} {o : Nat} {states : List Nat} {row : Instr} {msg : Nat} {go : State → State} {P : State → Prop}
    (hlive : s.sesLive o = true) (hlinked : s.linked o = true) (hstate : states.contains (s.sesState o) = true)
    (h : ∀ m, P (go { s with mirror := m })) : ∃ t, ok (s.onRequest row o msg states go) = .next t ∧ P t := by
  obtain ⟨m, hm⟩ := State.onRequest_passes row msg go hlive hlinked hstate
  exact ⟨_, congrArg Host.Outcome.next hm, h m⟩

theorem State.tellsVehicle_toVehicle (s : State) (o msg r g : Nat) (values : List Int) :
    (s.toVehicle o msg r g values).tellsVehicle o msg r g values := by
  simp [State.tellsVehicle, State.toVehicle, State.sendHeld]

theorem State.tellsVehicle_congr {s t : State} {o msg r g : Nat} {values : List Int} (hs : s.tellsVehicle o msg r g values)
    (h : t.waiting = s.waiting) : t.tellsVehicle o msg r g values := by
  rw [State.tellsVehicle, h]
  exact hs

/-- A session entering a state, told to the vehicle, is nothing of the dictionary. -/
theorem State.val_enter_toVehicle (s : State) (o st msg r g : Nat) (values : List Int) (e : Entry) (n j : Nat) :
    ((s.enter o st).toVehicle o msg r g values).val e n j = s.val e n j := rfl

theorem State.ev_enter_toVehicle (s : State) (o st msg r g : Nat) (values : List Int) :
    ((s.enter o st).toVehicle o msg r g values).ev = s.ev := rfl

/-- An event of a state whose log and stamp are those of another is an event of the other. -/
theorem State.raised_congr {s z t : State} {k : EvKind} {i p q : Nat} (hz : s.raised z k i p q) (h : t.ev = z.ev) :
    s.raised t k i p q := h.trans hz

/-- The note of a request is no part of an event's stamp. -/
theorem State.raised_of_mirror {s t : State} {m : MirrorSt} {k : EvKind} {i p q : Nat}
    (h : ({ s with mirror := m } : State).raised t k i p q) : s.raised t k i p q :=
  h.trans (State.raise_ev_congr (s := s) (t := { s with mirror := m }) rfl rfl rfl rfl ..)

/-! ### The state in which a client's write takes effect -/

theorem State.taken_outlets (s : State) (h : Held) : (s.taken h).outlets = s.outlets :=
  State.taken_keeps State.outlets (fun _ _ _ _ => rfl) s h

@[simp] theorem State.sess_taken (s : State) (h : Held) (o : Nat) : (s.taken h).sess o = s.sess o :=
  State.sess_congr (s.taken_outlets h) o

/-- The counters of tags stand below the entries of the outlets. -/
theorem State.val_taken_of_base (s : State) (h : Held) {e : Entry} (he : 0x1031 ≤ e.base) (n : Nat) :
    (s.taken h).val e n 0 = s.val e n 0 :=
  s.val_taken h e n 0 (Entry.key_ne_of_base ⟨by decide, he⟩) (Entry.key_ne_of_base ⟨by decide, he⟩)

theorem State.nat_taken_of_base (s : State) (h : Held) {e : Entry} (he : 0x1031 ≤ e.base) (n : Nat) :
    (s.taken h).nat e n = s.nat e n := State.nat_congr (s.val_taken_of_base h he n)

/-- A write refused with a status changes no outlet. -/
theorem State.clientCommand_unmoved {s : State} {c : Client} {e : Entry} {n st : Nat} {v : Val} {h : Held} {act : State → State × Nat}
    (ha : s.accepts c e n v h) (hact : act (s.taken h) = (s.taken h, st)) :
    (s.clientCommand c e n v act).repliesWith h st ∧ (s.clientCommand c e n v act).outlets = s.outlets := by
  rw [State.clientCommand_effect ha rfl hact]
  exact ⟨State.answerLater_repliesWith .., (State.answerLater_outlets ..).trans (s.taken_outlets h)⟩

/-! ### Frames to the modules -/

/-- A state with another allocator, module bus and messages sent: what commands to units leave. -/
def State.withBus (s : State) (a : AllocSt) (b : BusSt) (u : List Msg) : State := { s with alloc := a, bus := b, out := u }

theorem State.target_withBus (s : State) (m mode volts amps : Nat) : ∃ a b u, s.target m mode volts amps = s.withBus a b u := by
  unfold State.target State.command State.sendBus
  dsimp only
  split
  · exact ⟨_, _, _, rfl⟩
  · exact ⟨_, _, _, rfl⟩

theorem State.targetAll_withBus (s : State) (o mode volts amps : Nat) : ∃ a b u, s.targetAll o mode volts amps = s.withBus a b u := by
  refine State.each_inv s _ _ (fun z => ∃ a b u, z = s.withBus a b u) ⟨s.alloc, s.bus, s.out, rfl⟩ ?_
  rintro z m ⟨a, b, u, rfl⟩
  obtain ⟨a', b', u', h⟩ := (s.withBus a b u).target_withBus m mode volts amps
  exact ⟨a', b', u', h⟩

theorem State.targetAll_keeps {β : Type} (g : State → β) (hg : ∀ (z : State) a b u, g (z.withBus a b u) = g z) (s : State)
    (o mode volts amps : Nat) : g (s.targetAll o mode volts amps) = g s := by
  obtain ⟨a, b, u, h⟩ := s.targetAll_withBus o mode volts amps
  rw [h, hg]

@[simp] theorem State.sess_targetAll (s : State) (o mode volts amps p : Nat) : (s.targetAll o mode volts amps).sess p = s.sess p :=
  State.targetAll_keeps (fun z => z.sess p) (fun _ _ _ _ => rfl) ..

/-! ### The end of a session -/

/-- The session as its first source ends it (R182, R183): by way of STOPPING while the contactor is closed, else in RELEASE. -/
def Sess.endedFor (k : Sess) (reason : Nat) (fast : Bool) (sfn tick : Nat) : Sess :=
  { k with committed := true, reason := reason, endSfn := sfn, state := if k.closed then Ses.STOPPING else Ses.RELEASE, stateAt := tick,
           fast := (k.closed && fast) || k.fast }

/-- Every field of a session but those an end of it writes. -/
def Sess.blindToEnd {β : Type} (g : Sess → β) : Prop :=
  ∀ (k : Sess) c r f n st at_ q, g { k with committed := c, reason := r, endSfn := f, secondary := n, state := st, stateAt := at_, fast := q } = g k

section EndKeeps
variable {β : Type} (g : State → β) (hsess : ∀ (z : State) l, g { z with outlets := { z.outlets with sess := l } } = g z)
  (hbus : ∀ (z : State) a b u, g (z.withBus a b u) = g z)
include hsess hbus

theorem State.goFast_keeps (s : State) (o : Nat) : g (s.goFast o) = g s :=
  (State.targetAll_keeps g hbus ..).trans (hsess ..)

/-- An end of a session writes the outlet's record, its request for power and what goes to its modules. -/
theorem State.endSession_keeps (o : Nat) (hrequest : ∀ (z : State) v, g (z.put Ent.REQUEST_POWER o 0 v) = g z) (s : State) (reason : Nat)
    (fast : Bool) : g (s.endSession o reason fast) = g s := by
  have hset (z : State) (k : Sess) : g (z.setSess o k) = g z := hsess ..
  have henter (z : State) (st : Nat) : g (z.enter o st) = g z := hset ..
  have htaken (z : State) : g ((z.takeEnd o reason).deliverNothing o) = g z := (hrequest ..).trans (hset ..)
  unfold State.endSession
  dsimp only
  split
  · rfl
  split
  · split
    · rw [State.goFast_keeps g hsess hbus]
      split
      · exact hset ..
      · rfl
    · split
      · exact hset ..
      · rfl
  split
  · split
    · rw [State.goFast_keeps g hsess hbus, henter, htaken]
    · rw [State.targetAll_keeps g hbus, henter, htaken]
  · rw [henter, htaken]

end EndKeeps

theorem State.endSession_waiting (s : State) (o reason : Nat) (fast : Bool) : (s.endSession o reason fast).waiting = s.waiting :=
  State.endSession_keeps State.waiting (fun _ _ => rfl) (fun _ _ _ _ => rfl) o (fun _ _ => rfl) ..

theorem State.endSession_ev (s : State) (o reason : Nat) (fast : Bool) : (s.endSession o reason fast).ev = s.ev :=
  State.endSession_keeps State.ev (fun _ _ => rfl) (fun _ _ _ _ => rfl) o (fun _ _ => rfl) ..

theorem State.endSession_linked (s : State) (o reason : Nat) (fast : Bool) (p : Nat) :
    (s.endSession o reason fast).linked p = s.linked p :=
  State.endSession_keeps (fun z => z.linked p) (fun _ _ => rfl) (fun _ _ _ _ => rfl) o (fun _ _ => rfl) ..

/-- Of the dictionary an end of a session writes REQUEST_POWER alone. -/
theorem State.val_endSession (s : State) {o : Nat} (reason : Nat) (fast : Bool) {e : Entry} {n j : Nat}
    (h : e.key n j ≠ Ent.REQUEST_POWER.key o) : (s.endSession o reason fast).val e n j = s.val e n j :=
  State.endSession_keeps (fun z => z.val e n j) (fun _ _ => rfl) (fun _ _ _ _ => rfl) o (fun _ _ => State.val_put_ne _ _ _ _ _ _ _ _ h) ..

theorem State.endedBy_congr {s t : State} {o reason st : Nat} (hs : s.endedBy o reason st) (h : t.sess o = s.sess o) :
    t.endedBy o reason st := by
  rw [State.endedBy, State.sesState_eq, h]
  exact hs

/-- The first source to end a session (R182, R183). -/
theorem State.sess_endSession_first {s : State} {o : Nat} (reason : Nat) (fast : Bool) (hlive : s.sesLive o = true)
    (hfree : (s.sess o).committed = false) :
    (s.endSession o reason fast).sess o = (s.sess o).endedFor reason fast s.sfn s.ticks := by
  unfold State.endSession Sess.endedFor
  dsimp only
  rw [hlive, hfree]
  cases hclosed : (s.sess o).closed
  · simp [State.takeEnd, State.deliverNothing, hclosed]
  · cases fast
    · simp [State.takeEnd, State.deliverNothing, hclosed]
    · simp [State.goFast, State.takeEnd, State.deliverNothing, hclosed]

theorem State.endSession_ends {s : State} {o : Nat} (reason : Nat) (fast : Bool) (hlive : s.sesLive o = true)
    (hfree : (s.sess o).committed = false) :
    (s.endSession o reason fast).endedBy o reason (if (s.sess o).closed then Ses.STOPPING else Ses.RELEASE) := by
  rw [State.endedBy, State.sesState_eq, State.sess_endSession_first reason fast hlive hfree]
  exact ⟨rfl, rfl, rfl⟩

theorem State.endSession_ends_open {s : State} {o : Nat} (reason : Nat) (fast : Bool) (hlive : s.sesLive o = true)
    (hfree : (s.sess o).committed = false) (hopen : (s.sess o).closed = false) :
    (s.endSession o reason fast).endedBy o reason Ses.RELEASE := by
  have h := State.endSession_ends reason fast hlive hfree
  rwa [hopen] at h

theorem State.endSession_ends_closed {s : State} {o : Nat} (reason : Nat) (fast : Bool) (hlive : s.sesLive o = true)
    (hfree : (s.sess o).committed = false) (hclosed : (s.sess o).closed = true) :
    (s.endSession o reason fast).endedBy o reason Ses.STOPPING := by
  have h := State.endSession_ends reason fast hlive hfree
  rwa [hclosed] at h

/-- An end of a session is no change of another's. -/
theorem State.sess_endSession_ne (s : State) {o p : Nat} (reason : Nat) (fast : Bool) (h : p ≠ o) :
    (s.endSession o reason fast).sess p = s.sess p := by
  unfold State.endSession State.goFast State.takeEnd State.deliverNothing
  dsimp only
  repeat' split
  all_goals simp [State.sess_setSess_ne _ _ h, State.sess_enter_ne _ _ h]

/-- What an end does not write of the session stays. -/
theorem State.sess_endSession_keeps {β : Type} {g : Sess → β} (hg : Sess.blindToEnd g) (s : State) (o reason : Nat) (fast : Bool) :
    g ((s.endSession o reason fast).sess o) = g (s.sess o) := by
  unfold State.endSession State.goFast State.takeEnd State.deliverNothing
  dsimp only
  repeat' split
  all_goals simp [hg _]

/-! ### An error the vehicle reports -/

theorem State.vehicleError_waiting (s : State) (o : Nat) (p : EvParams) : (s.vehicleError o p).waiting = s.waiting := by
  unfold State.vehicleError
  split
  · exact State.endSession_waiting ..
  · rfl

theorem State.val_vehicleError (s : State) {o : Nat} (p : EvParams) {e : Entry} {n j : Nat} (h : e.key n j ≠ Ent.REQUEST_POWER.key o) :
    (s.vehicleError o p).val e n j = s.val e n j := by
  unfold State.vehicleError
  split
  · exact State.val_endSession _ _ _ h
  · rfl

theorem State.sess_vehicleError_keeps {β : Type} {g : Sess → β} (hg : Sess.blindToEnd g) (s : State) (o : Nat) (p : EvParams) :
    g ((s.vehicleError o p).sess o) = g (s.sess o) := by
  unfold State.vehicleError
  split
  · exact State.sess_endSession_keeps hg ..
  · rfl

theorem State.vehicleError_of_error {p : EvParams} (h : p.error = true) (s : State) (o : Nat) :
    s.vehicleError o p = s.endSession o End.VEHICLE_ERROR false := if_pos h

theorem State.vehicleError_of_none {p : EvParams} (h : p.error = false) (s : State) (o : Nat) : s.vehicleError o p = s :=
  if_neg (by simp [h])

end Sys2Proof.Machine
end

section
/-!
PROOFS. Authorisation and the cable check (O29): the first authorization request and its decision (R171 to R173), the vehicle's parameters
(R174), the cable check (R175) and the refused installation of a certificate (R426).
-/
namespace Sys2Proof.Machine
open Sys2Proof

/-! ### The first authorization request -/

/-- The identification of a session shown and its decision asked for (R171). -/
def State.askAuth (s : State) (o kind : Nat) (identity : List Byte) (verified : Bool) : State :=
  let shown := (s.setNat Ent.AUTH_KIND o kind).setBytes Ent.AUTH_IDENTITY o identity
  (shown.raise Evt.AUTH_REQUEST o (shown.sess o).number kind).setSess o { shown.sess o with verified := verified }

theorem State.askAuth_kind (s : State) (o kind : Nat) (identity : List Byte) (verified : Bool) :
    (s.askAuth o kind identity verified).nat Ent.AUTH_KIND o = kind :=
  (State.nat_raise ..).trans ((State.nat_put_ne _ _ (Entry.key_ne_of_sub (by decide) o o)).trans (State.nat_setNat_same ..))

theorem State.askAuth_identity (s : State) (o kind : Nat) (identity : List Byte) (verified : Bool) :
    (s.askAuth o kind identity verified).bytes Ent.AUTH_IDENTITY o = identity :=
  congrArg Val.toBytes ((State.val_raiseWith ..).trans (State.val_put_same ..))

theorem State.askAuth_raised (s : State) (o kind : Nat) (identity : List Byte) (verified : Bool) :
    s.raised (s.askAuth o kind identity verified) Evt.AUTH_REQUEST o (s.sess o).number kind :=
  State.raised_of_raise (s := s) (z := (s.setNat Ent.AUTH_KIND o kind).setBytes Ent.AUTH_IDENTITY o identity) rfl rfl rfl rfl

@[simp] theorem State.askAuth_sess (s : State) (o kind : Nat) (identity : List Byte) (verified : Bool) :
    (s.askAuth o kind identity verified).sess o = { s.sess o with verified := verified } := by
  simp [State.askAuth]

/-- What the first authorization request comes to: of a contract chain that does not verify the end of the session, else AUTHORISING. -/
def State.firstAuth (s : State) (o : Nat) (pnc chain : Bool) (contract : List Byte) : State :=
  let z := s.askAuth o (if pnc then 2 else 1) (if pnc then (if chain then contract else []) else (s.sess o).token) (pnc && chain)
  if pnc && !chain then (z.toVehicle o Req.AUTHORIZATION 1 0 []).endSession o End.SECURITY_FAILURE false
  else (z.enter o Ses.AUTHORISING).toVehicle o Req.AUTHORIZATION 0 1 []

theorem execAuthorizationReq_first {s : State} {o : Fin 8} (pnc good : Bool) (contract : List Byte) (hstate : s.sesState o = Ses.SETUP)
    (hlinked : s.linked o = true) (hsetup : (s.sess o).setup = true) {P : State → Prop}
    (h : ∀ m, P (({ s with mirror := m } : State).firstAuth o pnc (good && (s.line o).cert && s.time.state != .unset) contract)) :
    ∃ t, execAuthorizationReq o pnc good contract s = .next t ∧ P t := by
  have hafter : (s.afterSetup o [Ses.SETUP, Ses.AUTHORISING, Ses.PARAMETERS]).contains (s.sesState o) = true := by
    rw [State.afterSetup, if_pos hsetup, hstate]
    rfl
  refine State.onRequest_next (State.sesLive_of_state hstate (by decide)) hlinked hafter fun m => ?_
  have hparameters : (({ s with mirror := m } : State).sesState o == Ses.PARAMETERS) = false := by
    rw [show ({ s with mirror := m } : State).sesState o = Ses.SETUP from hstate]; rfl
  have hauthorising : (({ s with mirror := m } : State).sesState o == Ses.AUTHORISING) = false := by
    rw [show ({ s with mirror := m } : State).sesState o = Ses.SETUP from hstate]; rfl
  dsimp only
  rw [if_neg (ne_true_of_eq_false hparameters), if_neg (ne_true_of_eq_false hauthorising)]
  exact h m

/-- A session whose decision is asked for waits in AUTHORISING. -/
theorem State.askAuth_waits (s : State) (o kind : Nat) (identity : List Byte) (verified : Bool) :
    let t := ((s.askAuth o kind identity verified).enter o Ses.AUTHORISING).toVehicle o Req.AUTHORIZATION 0 1 []
    t.sesState o = Ses.AUTHORISING ∧ t.nat Ent.AUTH_KIND o = kind ∧ t.bytes Ent.AUTH_IDENTITY o = identity ∧
      (t.sess o).verified = verified ∧ s.raised t Evt.AUTH_REQUEST o (s.sess o).number kind ∧ t.tellsVehicle o Req.AUTHORIZATION 0 1 [] := by
  refine ⟨?_, (State.nat_congr (State.val_enter_toVehicle ..)).trans (s.askAuth_kind ..),
    (congrArg Val.toBytes (State.val_enter_toVehicle ..)).trans (s.askAuth_identity ..), ?_,
    State.raised_congr (s.askAuth_raised ..) (State.ev_enter_toVehicle ..), State.tellsVehicle_toVehicle ..⟩
  · rw [State.sesState_eq, State.sess_toVehicle, State.sess_enter_same]
  · rw [State.sess_toVehicle, State.sess_enter_same, State.askAuth_sess]

section FirstRequest
variable {s : State} {o : Fin 8} {contract : List Byte} (hstate : s.sesState o = Ses.SETUP) (hlinked : s.linked o = true)
  (hsetup : (s.sess o).setup = true)
include hstate hlinked hsetup

theorem execAuthorizationReq_token (good : Bool) :
    ∃ t, execAuthorizationReq o false good contract s = .next t ∧ t.sesState o = Ses.AUTHORISING ∧ t.nat Ent.AUTH_KIND o = 1 ∧
      t.bytes Ent.AUTH_IDENTITY o = (s.sess o).token ∧ s.raised t Evt.AUTH_REQUEST o (s.sess o).number 1 ∧
      t.tellsVehicle o Req.AUTHORIZATION 0 1 [] := by
  refine execAuthorizationReq_first false good contract hstate hlinked hsetup fun m => ?_
  obtain ⟨hst, hkind, hid, -, hev, htell⟩ := State.askAuth_waits { s with mirror := m } o 1 (s.sess o).token false
  exact ⟨hst, hkind, hid, State.raised_of_mirror hev, htell⟩

theorem execAuthorizationReq_contract {good : Bool} (hchain : (good && (s.line o).cert && s.time.state != .unset) = true) :
    ∃ t, execAuthorizationReq o true good contract s = .next t ∧ t.sesState o = Ses.AUTHORISING ∧ t.nat Ent.AUTH_KIND o = 2 ∧
      t.bytes Ent.AUTH_IDENTITY o = contract ∧ (t.sess o).verified = true ∧ s.raised t Evt.AUTH_REQUEST o (s.sess o).number 2 ∧
      t.tellsVehicle o Req.AUTHORIZATION 0 1 [] := by
  refine execAuthorizationReq_first true good contract hstate hlinked hsetup fun m => ?_
  rw [hchain]
  obtain ⟨hst, hkind, hid, hverified, hev, htell⟩ := State.askAuth_waits { s with mirror := m } o 2 contract true
  exact ⟨hst, hkind, hid, hverified, State.raised_of_mirror hev, htell⟩

theorem execAuthorizationReq_unverified {good : Bool} (hchain : (good && (s.line o).cert && s.time.state != .unset) = false)
    (hfree : (s.sess o).committed = false) (hopen : (s.sess o).closed = false) :
    ∃ t, execAuthorizationReq o true good contract s = .next t ∧ t.endedBy o End.SECURITY_FAILURE Ses.RELEASE ∧
      t.tellsVehicle o Req.AUTHORIZATION 1 0 [] := by
  refine execAuthorizationReq_first true good contract hstate hlinked hsetup fun m => ?_
  rw [hchain]
  have hsess := State.askAuth_sess { s with mirror := m } o 2 [] false
  refine ⟨State.endSession_ends_open _ _ (State.sesLive_of_state (st := Ses.SETUP) ?_ (by decide)) ?_ ?_,
    State.tellsVehicle_congr (State.tellsVehicle_toVehicle ..) (State.endSession_waiting ..)⟩
  · exact (congrArg Sess.state hsess).trans hstate
  · exact (congrArg Sess.committed hsess).trans hfree
  · exact (congrArg Sess.closed hsess).trans hopen

end FirstRequest

/-! ### The decision -/

theorem decisionOf_decisionBytes {d : Decision} (hnumber : d.number < 2 ^ 32) (hresult : d.result < 256) (hcls : d.cls < 256)
    (haccount : d.account < 65536) : decisionOf (decisionBytes d) = d := by
  obtain ⟨n, r, c, a⟩ := d
  simp only [decisionOf, decisionBytes, leAt, leBytes, leNat, List.cons_append, List.nil_append, List.drop, List.take, BitVec.toNat_ofNat,
    Decision.mk.injEq] at *
  omega

theorem applyEimToken_sess (o : Nat) (token : List Byte) (s : State) : ((applyEimToken o token s).1.sess o).token = token := by
  unfold applyEimToken
  dsimp only
  split
  · simp
  · simp

/-- The token of a session in progress is its identity until it is decided (R171). -/
theorem applyEimToken_identity {s : State} {o : Nat} (token : List Byte) (hlive : s.sesLive o = true) (hkind : s.nat Ent.AUTH_KIND o = 1)
    (hopen : (s.sess o).decided = false) : (applyEimToken o token s).1.bytes Ent.AUTH_IDENTITY o = token := by
  simp [applyEimToken, hlive, hkind, hopen, State.bytes_def]

section Decision
variable {s : State} {o : Nat} {d : Decision}

/-- A decision for a session that is over or decided is late (R172). -/
theorem applyAuthResponse_late (h : d.number < s.nat Ent.SESSION_NUMBER o ∨ (d.number = s.nat Ent.SESSION_NUMBER o ∧
    (s.sesLive o = false ∨ (s.sess o).setup = false ∨ (s.sess o).decided = true ∨ (s.sess o).committed = true))) :
    applyAuthResponse o d s = (s, St.ALREADY_DONE) := by
  unfold applyAuthResponse
  extract_lets k n
  rcases h with hpast | ⟨hsame, hover⟩
  · exact if_pos hpast
  · have hdone : (!s.sesLive o || !k.setup || k.decided || k.committed) = true := by
      rcases hover with h | h | h | h <;> simp [k, h]
    rw [if_neg (by omega), if_neg (by omega), if_pos hdone]

/-- A decision for a session to come has nothing to decide (R172). -/
theorem applyAuthResponse_early (h : s.nat Ent.SESSION_NUMBER o < d.number) : applyAuthResponse o d s = (s, St.CONFLICT) := by
  unfold applyAuthResponse
  extract_lets k n
  rw [if_neg (by omega), if_pos h]

/-- A decision for the session that waits for it (R172). -/
theorem applyAuthResponse_decides (hnumber : d.number = s.nat Ent.SESSION_NUMBER o) (hstate : s.sesState o = Ses.AUTHORISING)
    (hsetup : (s.sess o).setup = true) (hopen : (s.sess o).decided = false) (hfree : (s.sess o).committed = false) (hresult : d.result ≤ 1)
    (hcls : d.cls ≤ 3 ∨ d.cls = 0xFF) (haccount : d.account ≤ 255 ∨ d.account = 0xFFFF) :
    applyAuthResponse o d s =
      if d.result = 1 then ((s.setSess o { s.sess o with decided := true }).endSession o End.AUTH_REFUSED false, St.OK)
      else (s.acceptAuth o (if d.cls = 0xFF then s.nat Ent.AUTH_DEFAULT_CLASS else d.cls) d.account false, St.OK) := by
  have hlive : s.sesLive o = true := State.sesLive_of_state hstate (by decide)
  unfold applyAuthResponse
  extract_lets k n
  have hwaits : ¬ (!s.sesLive o || !k.setup || k.decided || k.committed) = true := by simp [k, hlive, hsetup, hopen, hfree]
  have hrange : ¬ (decide (d.result > 1) || (decide (d.cls > 3) && d.cls != 0xFF) || (decide (d.account > 255) && d.account != 0xFFFF)) = true := by
    simp only [Bool.or_eq_true, Bool.and_eq_true, decide_eq_true_eq, bne_iff_ne]
    omega
  have hplace : ¬ (s.sesState o != Ses.AUTHORISING) = true := by simp [hstate]
  rw [if_neg (by omega), if_neg (by omega), if_neg hwaits, if_neg hrange, if_neg hplace]
  simp only [beq_iff_eq, k]

end Decision

/-- An authorisation accepted (R172, R173). -/
theorem State.acceptAuth_reads (s : State) (o cls account : Nat) (offline : Bool) :
    (s.acceptAuth o cls account offline).sesState o = Ses.PARAMETERS ∧ (s.acceptAuth o cls account offline).nat Ent.CLASS o = cls ∧
      ((s.acceptAuth o cls account offline).sess o).account = account ∧ ((s.acceptAuth o cls account offline).sess o).offline = offline := by
  have hsess : (s.acceptAuth o cls account offline).sess o =
      { s.sess o with decided := true, offline := offline, account := account, state := Ses.PARAMETERS, stateAt := s.ticks } := by
    simp [State.acceptAuth]
  refine ⟨?_, State.nat_setNat_same (s.setSess o _) .., ?_, ?_⟩
  · rw [State.sesState_eq, hsess]
  · rw [hsess]
  · rw [hsess]

theorem execEimToken_accepted {s : State} {o : Fin 8} {c : Client} {token : List Byte} {h : Held}
    (ha : s.accepts c Ent.EIM_TOKEN o (.bytes token) h) :
    ∃ t, execEimToken c o token s = .next t ∧ (t.sess o).token = token ∧ t.repliesWith h St.OK ∧
      (s.sesLive o = true → s.nat Ent.AUTH_KIND o = 1 → (s.sess o).decided = false → t.bytes Ent.AUTH_IDENTITY o = token) := by
  have hok : (applyEimToken o token (s.taken h)).2 = St.OK := rfl
  refine ⟨_, congrArg Host.Outcome.next (State.clientCommand_ok ha hok), ?_, State.answerLater_repliesWith .., fun hlive hkind hopen => ?_⟩
  · rw [State.sess_answerLater, applyEimToken_sess]
  · rw [State.bytes_def, State.val_answerLater, ← State.bytes_def]
    refine applyEimToken_identity token ?_ ((s.nat_taken_of_base h (by decide) o).trans hkind) (by rw [s.sess_taken h, hopen])
    exact (State.sesLive_congr (congrArg Sess.state (s.sess_taken h o))).trans hlive

section AcceptedDecision
variable {s : State} {o : Fin 8} {c : Client} {d : Decision} {h : Held} (hnumber : d.number = s.nat Ent.SESSION_NUMBER o)
  (hstate : s.sesState o = Ses.AUTHORISING) (hsetup : (s.sess o).setup = true) (hopen : (s.sess o).decided = false)
  (hfree : (s.sess o).committed = false) (hcls : d.cls ≤ 3 ∨ d.cls = 0xFF) (haccount : d.account ≤ 255 ∨ d.account = 0xFFFF)
  (ha : s.accepts c Ent.AUTH_RESPONSE o (.bytes (decisionBytes d)) h)
include hnumber hstate hsetup hopen hfree hcls haccount

/-- A decision in its place is taken on the state with the tag taken (R172). -/
theorem applyAuthResponse_taken (hresult : d.result ≤ 1) :
    applyAuthResponse o d (s.taken h) =
      if d.result = 1 then (((s.taken h).setSess o { s.sess o with decided := true }).endSession o End.AUTH_REFUSED false, St.OK)
      else ((s.taken h).acceptAuth o (if d.cls = 0xFF then s.nat Ent.AUTH_DEFAULT_CLASS else d.cls) d.account false, St.OK) := by
  have hsess : (s.taken h).sess o = s.sess o := s.sess_taken h o
  rw [applyAuthResponse_decides (hnumber.trans (s.nat_taken_of_base h (by decide) o).symm) ((congrArg Sess.state hsess).trans hstate)
    (by rw [hsess, hsetup]) (by rw [hsess, hopen]) (by rw [hsess, hfree]) hresult hcls haccount, hsess, s.nat_taken_of_base h (by decide)]

include ha

theorem clientCommand_authAccepted (haccepts : d.result = 0) :
    let t := s.clientCommand c Ent.AUTH_RESPONSE o (.bytes (decisionBytes d)) (applyAuthResponse o d)
    t.sesState o = Ses.PARAMETERS ∧ (t.sess o).account = d.account ∧ t.repliesWith h St.OK ∧
      t.nat Ent.CLASS o = (if d.cls = 0xFF then s.nat Ent.AUTH_DEFAULT_CLASS else d.cls) := by
  have hact := applyAuthResponse_taken (h := h) hnumber hstate hsetup hopen hfree hcls haccount (by omega)
  rw [if_neg (by omega)] at hact
  rw [State.clientCommand_effect ha rfl hact]
  obtain ⟨hst, hclass, hacc, -⟩ := (s.taken h).acceptAuth_reads o (if d.cls = 0xFF then s.nat Ent.AUTH_DEFAULT_CLASS else d.cls) d.account false
  refine ⟨?_, ?_, State.answerLater_repliesWith .., (State.nat_answerLater ..).trans hclass⟩
  · rw [State.sesState_eq, State.sess_answerLater, ← State.sesState_eq, hst]
  · rw [State.sess_answerLater, hacc]

theorem clientCommand_authRefused (hrefuses : d.result = 1) (hclosed : (s.sess o).closed = false) :
    let t := s.clientCommand c Ent.AUTH_RESPONSE o (.bytes (decisionBytes d)) (applyAuthResponse o d)
    t.endedBy o End.AUTH_REFUSED Ses.RELEASE ∧ t.repliesWith h St.OK := by
  have hact := applyAuthResponse_taken (h := h) hnumber hstate hsetup hopen hfree hcls haccount (by omega)
  rw [if_pos hrefuses] at hact
  rw [State.clientCommand_effect ha rfl hact]
  have hsess := State.sess_setSess_same (s.taken h) o { s.sess o with decided := true }
  refine ⟨State.endedBy_congr (State.endSession_ends_open End.AUTH_REFUSED false
    (State.sesLive_of_state ((congrArg Sess.state hsess).trans hstate) (by decide)) ?_ ?_) (State.sess_answerLater ..),
    State.answerLater_repliesWith ..⟩
  · exact (congrArg Sess.committed hsess).trans hfree
  · exact (congrArg Sess.closed hsess).trans hclosed

end AcceptedDecision

theorem execAuthResponse_decision {s : State} {o : Fin 8} {d : Decision} (c : Client) (hnumber : d.number < 2 ^ 32) (hresult : d.result ≤ 1)
    (hcls : d.cls ≤ 3 ∨ d.cls = 0xFF) (haccount : d.account ≤ 255 ∨ d.account = 0xFFFF) :
    execAuthResponse c o d s = .next (s.clientCommand c Ent.AUTH_RESPONSE o (.bytes (decisionBytes d)) (applyAuthResponse o d)) := by
  rw [execAuthResponse, decisionOf_decisionBytes hnumber (by omega) (by omega) (by omega)]
  rfl

/-! ### No decision -/

theorem execAuthTimeout_due {s : State} {o : Fin 8} (hstate : s.sesState o = Ses.AUTHORISING)
    (hdue : (s.sess o).stateAt + secTicks (s.nat Ent.AUTH_TIMEOUT) ≤ s.ticks) : execAuthTimeout o s = .next (s.authTimeout o) :=
  if_pos (by simp [hstate, hdue])

/-- No decision, and the policy accepts what it may (R173). -/
theorem State.authTimeout_accepts {s : State} {o : Nat}
    (h : s.nat Ent.AUTH_OFFLINE_POLICY = 2 ∨ (s.nat Ent.AUTH_OFFLINE_POLICY = 1 ∧ (s.sess o).verified = true)) :
    s.authTimeout o = s.acceptAuth o (s.nat Ent.AUTH_DEFAULT_CLASS) 0xFFFF true :=
  if_pos (by simpa using h)

/-- No decision, and the policy refuses (R173). -/
theorem State.authTimeout_refuses {s : State} {o : Nat}
    (h : s.nat Ent.AUTH_OFFLINE_POLICY = 0 ∨ (s.nat Ent.AUTH_OFFLINE_POLICY = 1 ∧ (s.sess o).verified = false)) :
    s.authTimeout o = s.endSession o End.AUTH_TIMEOUT false := by
  refine if_neg ?_
  rcases h with h | ⟨h, hplain⟩
  · simp [h]
  · simp [h, hplain]

/-! ### The vehicle's parameters -/

/-- The entries in which a vehicle declares what it asks for, but EV_MAX_POWER. -/
def Entry.ofVehicle (e : Entry) : Prop := 0x0B ≤ e.sub ∧ e.sub ≤ 0x10

/-- Beyond EV_MAX_POWER, what a vehicle declares goes to its other entries. -/
theorem State.setEv_keeps {β : Type} (g : State → β) {o : Nat} (hfit : ∀ (z : State) (e : Entry) v, e.ofVehicle → g (z.fitNat e o v) = g z)
    (s : State) (p : EvParams) : g (s.setEv o p) = g (s.fitNat Ent.EV_MAX_POWER o p.maxPower) := by
  have hof : Ent.EV_MAX_CURRENT.ofVehicle ∧ Ent.EV_MAX_VOLTAGE.ofVehicle ∧ Ent.EV_TARGET_CURRENT.ofVehicle ∧
      Ent.EV_MAX_DISCHARGE_POWER.ofVehicle ∧ Ent.EV_MAX_DISCHARGE_CURRENT.ofVehicle ∧ Ent.EV_SOC.ofVehicle := by
    unfold Entry.ofVehicle
    decide
  obtain ⟨hcurrent, hvoltage, htarget, hpower, hdischarge, hsoc⟩ := hof
  unfold State.setEv
  extract_lets s1 s2
  have hlimits : g s2 = g (s.fitNat Ent.EV_MAX_POWER o p.maxPower) := by
    simp only [s2, s1]
    rw [hfit _ _ _ hdischarge, hfit _ _ _ hpower, hfit _ _ _ htarget, hfit _ _ _ hvoltage, hfit _ _ _ hcurrent]
  split
  · exact (hfit _ _ _ hsoc).trans hlimits
  · exact hlimits

@[simp] theorem State.sess_setEv (s : State) (o : Nat) (p : EvParams) (q : Nat) : (s.setEv o p).sess q = s.sess q :=
  (State.setEv_keeps (fun z => z.sess q) (fun _ _ _ _ => State.sess_congr (State.fitNat_outlets ..) q) s p).trans
    (State.sess_congr (State.fitNat_outlets ..) q)

theorem State.val_setEv (s : State) (o : Nat) (p : EvParams) {e : Entry} (he : e.sub < 256 ∧ ¬ e.ofVehicle) (n : Nat) :
    (s.setEv o p).val e n 0 = (s.fitNat Ent.EV_MAX_POWER o p.maxPower).val e n 0 :=
  State.setEv_keeps (fun z => z.val e n 0) (fun _ f _ hf => State.val_fitNat_ne _ _
    (Entry.key_ne_of_sub ⟨he.1, by unfold Entry.ofVehicle at hf; omega, fun h => he.2 (by unfold Entry.ofVehicle at hf ⊢; omega)⟩ n o)) s p

theorem State.setEv_maxPower (s : State) (o : Nat) {p : EvParams} (hfit : p.maxPower < 2 ^ Ent.EV_MAX_POWER.type.bits) :
    (s.setEv o p).nat Ent.EV_MAX_POWER o = p.maxPower := by
  rw [State.nat_congr (s.val_setEv o p (by unfold Entry.ofVehicle; decide) o), State.fitNat, if_pos hfit, State.nat_setNat_same]

theorem State.setEv_powerLimit (s : State) (o n : Nat) (p : EvParams) :
    (s.setEv o p).nat Ent.OUTLET_POWER_LIMIT n = s.nat Ent.OUTLET_POWER_LIMIT n :=
  State.nat_congr ((s.val_setEv o p (by unfold Entry.ofVehicle; decide) n).trans
    (State.val_fitNat_ne _ _ (Entry.key_ne_of_sub (by decide) n o)))

section Assign
variable {β : Type} (g : State → β) (hput : ∀ (z : State) (e : Entry) n v, e.ofUnitTest → g (z.put e n 0 v) = g z)
  (hraise : ∀ (z : State) k i p q, g (z.raise k i p q) = g z)
  (hrest : ∀ (z : State) o t r b a, g { z with out := o, tx := t, running := r, bus := b, alloc := a } = g z)
include hput hraise hrest

/-- The assignment of modules (R128) is the allocator's and the bus's, with the states and outlets of modules and a self-test's end. -/
theorem State.assignModules_keeps (s : State) (o n : Nat) : g (s.assignModules o n) = g s := by
  have hmodule : Ent.ASSIGNED_OUTLET.ofUnitTest ∧ Ent.MODULE_STATE.ofUnitTest := by unfold Entry.ofUnitTest; decide
  have hgrants (z : State) m k : g (z.setGrants m k) = g z := hrest z _ _ _ _ _
  have hcommand (z : State) m sub body : g (z.command m sub body) = g z :=
    (State.sendBus_keeps g (fun y u => hrest y u _ _ _ _) (fun y q => hrest y _ _ _ { y.bus with queue := q } _) _ _).trans (hgrants ..)
  have hmove (z : State) m : g ((z.startMove m .assign 0xFF o 1).switchModule m o) = g z :=
    (hcommand ..).trans ((hput _ _ _ _ hmodule.2).trans ((hput _ _ _ _ hmodule.1).trans (hgrants ..)))
  have hassigned (l : List Nat) : g (s.each l fun z m => (z.startMove m .assign 0xFF o 1).switchModule m o) = g s :=
    State.each_keeps _ _ _ g hmove
  unfold State.assignModules
  dsimp only
  split
  · split
    · exact (State.abortUnitTest_blind g hput hraise (fun z u t r x l q => hrest z u t r { z.bus with xfers := x, tests := l, queue := q } _) _ _).trans
        (hassigned _)
    · exact hassigned _
  · exact hassigned _

end Assign

@[simp] theorem State.sess_assignModules (s : State) (o n p : Nat) : (s.assignModules o n).sess p = s.sess p :=
  State.assignModules_keeps (fun z => z.sess p) (fun _ _ _ _ _ => State.sess_put ..) (fun _ _ _ _ _ => State.sess_raiseWith ..)
    (fun _ _ _ _ _ _ => rfl) s o n

theorem Entry.ofUnitTest.sub_ne {e : Entry} (h : e.ofUnitTest) : e.sub < 256 ∧ e.sub ≠ Ent.EV_MAX_POWER.sub := by
  have hsub : Ent.EV_MAX_POWER.sub = 0x0A := rfl
  simp only [Entry.ofUnitTest, List.mem_cons, List.not_mem_nil, or_false] at h
  omega

theorem State.assignModules_maxPower (s : State) (o n p : Nat) : (s.assignModules o n).nat Ent.EV_MAX_POWER p = s.nat Ent.EV_MAX_POWER p :=
  State.assignModules_keeps (fun z => z.nat Ent.EV_MAX_POWER p)
    (fun _ _ m _ he => State.nat_put_ne _ _ (Entry.key_ne_of_sub ⟨by decide, he.sub_ne.1, he.sub_ne.2.symm⟩ p m))
    (fun _ _ _ _ _ => State.nat_raise ..) (fun _ _ _ _ _ _ => rfl) s o n

/-- The vehicle's limits taken and modules asked for (R174). -/
def State.declare (s : State) (o : Nat) (p : EvParams) : State :=
  let z := s.setEv o p
  let n := z.modulesWanted o
  (z.setSess o { z.sess o with wanted := n }).assignModules o (n - (z.modulesOf o).length)

theorem State.declare_sess (s : State) (o : Nat) {p : EvParams} (hfit : p.maxPower < 2 ^ Ent.EV_MAX_POWER.type.bits) :
    (s.declare o p).sess o =
      { s.sess o with wanted := max 1 (cdiv (min p.maxPower (s.nat Ent.OUTLET_POWER_LIMIT o)) 375000) } := by
  rw [State.declare, State.sess_assignModules, State.sess_setSess_same, State.sess_setEv, State.modulesWanted, s.setEv_maxPower o hfit,
    State.setEv_powerLimit]

theorem State.declare_maxPower (s : State) (o : Nat) {p : EvParams} (hfit : p.maxPower < 2 ^ Ent.EV_MAX_POWER.type.bits) :
    (s.declare o p).nat Ent.EV_MAX_POWER o = p.maxPower :=
  (State.assignModules_maxPower ..).trans (s.setEv_maxPower o hfit)

theorem execDcChargeParameterDiscovery_taken {s : State} {o : Fin 8} {p : EvParams} (hstate : s.sesState o = Ses.PARAMETERS)
    (hlinked : s.linked o = true) (hfit : p.maxPower < 2 ^ Ent.EV_MAX_POWER.type.bits) :
    ∃ t, execDcChargeParameterDiscovery o p s = .next t ∧ t.nat Ent.EV_MAX_POWER o = p.maxPower ∧
      (t.sess o).wanted = max 1 (cdiv (min p.maxPower (s.nat Ent.OUTLET_POWER_LIMIT o)) 375000) ∧
      t.tellsVehicle o Req.PARAMETER_DISCOVERY 0 0 [3000, 12500] ∧
      (p.error = true → (s.sess o).committed = false → (s.sess o).closed = false → t.endedBy o End.VEHICLE_ERROR Ses.RELEASE) := by
  refine State.onRequest_next (State.sesLive_of_state hstate (by decide)) hlinked (by rw [hstate]; rfl) fun m => ?_
  have hsess := State.declare_sess { s with mirror := m } o hfit
  have hmax := State.declare_maxPower { s with mirror := m } o hfit
  have heffect (z : State) (hz : z = State.declare { s with mirror := m } o p) :
      let t := (z.toVehicle o Req.PARAMETER_DISCOVERY 0 0 [3000, 12500]).vehicleError o p
      t.nat Ent.EV_MAX_POWER o = p.maxPower ∧
        (t.sess o).wanted = max 1 (cdiv (min p.maxPower (s.nat Ent.OUTLET_POWER_LIMIT o)) 375000) ∧
        t.tellsVehicle o Req.PARAMETER_DISCOVERY 0 0 [3000, 12500] ∧
        (p.error = true → (s.sess o).committed = false → (s.sess o).closed = false → t.endedBy o End.VEHICLE_ERROR Ses.RELEASE) := by
    rw [← hz] at hsess hmax
    refine ⟨?_, ?_, State.tellsVehicle_congr (State.tellsVehicle_toVehicle ..) (State.vehicleError_waiting ..), fun herror hfree hopen => ?_⟩
    · exact (State.nat_congr (State.val_vehicleError _ _ (Entry.key_ne_of_sub (by decide) _ _))).trans hmax
    · rw [State.sess_vehicleError_keeps (g := Sess.wanted) (fun _ _ _ _ _ _ _ _ => rfl), State.sess_toVehicle, hsess]
      rfl
    · rw [State.vehicleError_of_error herror]
      refine State.endSession_ends_open _ _ (State.sesLive_of_state (st := Ses.PARAMETERS) ?_ (by decide)) ?_ ?_
      · exact (congrArg Sess.state hsess).trans hstate
      · exact (congrArg Sess.committed hsess).trans hfree
      · exact (congrArg Sess.closed hsess).trans hopen
  exact heffect _ rfl

/-! ### The cable check -/

section CableCheck
variable {s : State} {o : Fin 8} (hlinked : s.linked o = true)
include hlinked

/-- No module is there yet: Ongoing (R174). -/
theorem execDcCableCheckReq_waits (hstate : s.sesState o = Ses.PARAMETERS) (hnone : (s.modulesOf o).filter s.steady = []) :
    ∃ t, execDcCableCheckReq o s = .next t ∧ t.tellsVehicle o Req.CABLE_CHECK 0 1 (s.present o) ∧
      { t with waiting := s.waiting, mirror := s.mirror } = s := by
  refine State.onRequest_next (State.sesLive_of_state hstate (by decide)) hlinked (by rw [hstate]; rfl) fun m => ?_
  have hstate' : ({ s with mirror := m } : State).sesState o = Ses.PARAMETERS := hstate
  have hnone' : ((({ s with mirror := m } : State).modulesOf o).filter ({ s with mirror := m } : State).steady).isEmpty = true := by
    rw [show (({ s with mirror := m } : State).modulesOf o).filter ({ s with mirror := m } : State).steady = [] from hnone]; rfl
  rw [if_neg (by rw [hstate']; decide), if_pos hnone']
  exact ⟨State.tellsVehicle_toVehicle .., rfl⟩

/-- A module is assigned: the contactor closes (R175). -/
theorem execDcCableCheckReq_closes (hstate : s.sesState o = Ses.PARAMETERS) (hsome : (s.modulesOf o).filter s.steady ≠ []) :
    ∃ t, execDcCableCheckReq o s = .next t ∧ t.tellsVehicle o Req.CABLE_CHECK 0 1 (s.present o) ∧ t.sesState o = Ses.CABLE_CHECK ∧
      (t.sess o).closed = true ∧ (t.sess o).closeSfn = s.sfn := by
  refine State.onRequest_next (State.sesLive_of_state hstate (by decide)) hlinked (by rw [hstate]; rfl) fun m => ?_
  have hstate' : ({ s with mirror := m } : State).sesState o = Ses.PARAMETERS := hstate
  have hsome' : ¬ ((({ s with mirror := m } : State).modulesOf o).filter ({ s with mirror := m } : State).steady).isEmpty = true := by
    rw [List.isEmpty_iff]; exact hsome
  rw [if_neg (by rw [hstate']; decide), if_neg hsome']
  refine ⟨State.tellsVehicle_toVehicle .., ?_, ?_, ?_⟩
  · rw [State.sesState_eq, State.sess_toVehicle, State.sess_targetAll, State.sess_enter_same]
  · simp [State.closeContactor]
  · simp [State.closeContactor]

/-- While the check runs, it is told whether it has passed (R175). -/
theorem execDcCableCheckReq_asks (hstate : s.sesState o = Ses.CABLE_CHECK) :
    ∃ t, execDcCableCheckReq o s = .next t ∧ t.tellsVehicle o Req.CABLE_CHECK 0 (b2n (!(s.sess o).passed)) (s.present o) ∧
      { t with waiting := s.waiting, mirror := s.mirror } = s := by
  refine State.onRequest_next (State.sesLive_of_state hstate (by decide)) hlinked (by rw [hstate]; rfl) fun m => ?_
  have hstate' : ({ s with mirror := m } : State).sesState o = Ses.CABLE_CHECK := hstate
  rw [if_pos (by rw [hstate']; decide)]
  exact ⟨State.tellsVehicle_toVehicle .., rfl⟩

end CableCheck

theorem execCableCheckPass_held {s : State} {o : Fin 8} {b : Nat} (hsince : (s.sess o).bandSince = some b)
    (hstate : s.sesState o = Ses.CABLE_CHECK) (hdue : b + secTicks 1 ≤ s.ticks) :
    execCableCheckPass o s = .next (s.setSess o { s.sess o with passed := true }) := by
  unfold execCableCheckPass
  rw [hsince]
  exact if_pos (by simp [hstate, hdue])

theorem execCertificateInstallationReq_refused {s : State} {o : Fin 8} (hlive : s.sesLive o = true) (hlinked : s.linked o = true) :
    ∃ t, execCertificateInstallationReq o s = .next t ∧ t.tellsVehicle o Req.CERTIFICATE_INSTALLATION 1 0 [] ∧
      { t with waiting := s.waiting, mirror := s.mirror } = s := by
  obtain ⟨m, hm⟩ := s.noteIn_mirror (.certificateInstallationReq o)
  have hserved : (({ s with mirror := m } : State).sesLive o && ({ s with mirror := m } : State).linked o) = true :=
    Bool.and_eq_true_iff.2 ⟨hlive, hlinked⟩
  unfold execCertificateInstallationReq
  dsimp only
  rw [hm, if_pos hserved]
  exact ⟨_, rfl, State.tellsVehicle_toVehicle .., rfl⟩

/-- Settles O29: each request in its state, the client's two writes on the state with the tag taken, and the two times. -/
theorem sessionsAreAuthorisedAndChecked : Obligations.SessionsAreAuthorisedAndChecked := by
  intro s o
  refine ⟨fun good contract hstate hlinked hsetup => execAuthorizationReq_token hstate hlinked hsetup good,
    fun good contract hstate hlinked hsetup => ⟨fun hgood hcert htime => ?_, fun hbad hfree hopen => ?_⟩,
    fun c token h ha => execEimToken_accepted ha, fun c d h ha hnumber hresult hcls haccount => ?_, fun hstate hfree hopen hdue => ?_,
    fun p hstate hlinked hfit => execDcChargeParameterDiscovery_taken hstate hlinked hfit, fun hstate hlinked => ?_,
    fun hstate hlinked => execDcCableCheckReq_asks hlinked hstate,
    fun b hsince hstate hdue => ⟨_, execCableCheckPass_held hsince hstate hdue, State.sess_setSess_same .., rfl⟩,
    fun hlive hlinked => execCertificateInstallationReq_refused hlive hlinked⟩
  · exact execAuthorizationReq_contract hstate hlinked hsetup (by simp [hgood, hcert, htime])
  · exact execAuthorizationReq_unverified hstate hlinked hsetup (by rcases hbad with h | h | h <;> simp [h]) hfree hopen
  · have hlast : (s.taken h).nat Ent.SESSION_NUMBER o = s.nat Ent.SESSION_NUMBER o := s.nat_taken_of_base h (by decide) o
    have hlive : (s.taken h).sesLive o = s.sesLive o := State.sesLive_congr (congrArg Sess.state (s.sess_taken h o))
    refine ⟨_, execAuthResponse_decision c hnumber hresult hcls haccount, fun hlate => ?_, fun hearly => ?_,
      fun hnow hstate hsetup hopen hfree => ⟨?_, ?_⟩⟩
    · exact State.clientCommand_unmoved ha (applyAuthResponse_late (by rwa [hlast, hlive, s.sess_taken h]))
    · exact State.clientCommand_unmoved ha (applyAuthResponse_early (by rwa [hlast]))
    · exact clientCommand_authAccepted hnow hstate hsetup hopen hfree hcls haccount ha
    · exact clientCommand_authRefused hnow hstate hsetup hopen hfree hcls haccount ha
  · refine ⟨_, execAuthTimeout_due hstate hdue, fun haccepts => ?_, fun hrefuses => ?_⟩
    · rw [State.authTimeout_accepts haccepts]
      obtain ⟨hst, hclass, -, hoffline⟩ := s.acceptAuth_reads o (s.nat Ent.AUTH_DEFAULT_CLASS) 0xFFFF true
      exact ⟨hst, hclass, hoffline⟩
    · rw [State.authTimeout_refuses hrefuses]
      exact State.endSession_ends_open _ _ (State.sesLive_of_state hstate (by decide)) hfree hopen
  · by_cases hsome : (s.modulesOf o).filter s.steady = []
    · obtain ⟨t, ht, htell, hframe⟩ := execDcCableCheckReq_waits hlinked hstate hsome
      exact ⟨t, ht, htell, fun _ => hframe, fun h => absurd hsome h⟩
    · obtain ⟨t, ht, htell, hst, hclosed, hsfn⟩ := execDcCableCheckReq_closes hlinked hstate hsome
      exact ⟨t, ht, htell, fun h => absurd h hsome, fun _ => ⟨hst, hclosed, hsfn⟩⟩

end Sys2Proof.Machine
end

section
/-!
PROOFS. Energy transfer (O30): pre-charge, start, standby and stop (R176, R181, R182), the loop requests (R178, R180), welding detection and
the session's stop (R188, R189).
-/
namespace Sys2Proof.Machine
open Sys2Proof

/-! ### Pre-charge -/

section PreCharge
variable {s : State} {o : Fin 8} (hlinked : s.linked o = true)
include hlinked

/-- Pre-charge begins after the cable check and after a pause (R176, R181). -/
theorem execDcPreChargeReq_begins (target : Nat)
    (h : (s.sesState o = Ses.CABLE_CHECK ∧ (s.sess o).passed = true) ∨ s.sesState o = Ses.PAUSED) :
    ∃ t, execDcPreChargeReq o target s = .next t ∧ t.sesState o = Ses.PRE_CHARGE ∧ (t.sess o).target = low 16 target ∧
      (t.sess o).stateAt = s.ticks ∧ t.tellsVehicle o Req.PRE_CHARGE 0 0 (s.present o) := by
  have hbefore : (s.sesState o == Ses.PRE_CHARGE) = false := by
    rcases h with ⟨h, -⟩ | h <;> rw [h] <;> rfl
  have hlive : s.sesLive o = true := (s.sesLive_iff o).2 (by rcases h with ⟨h, -⟩ | h <;> rw [h] <;> decide)
  have hstates : (if s.sesState o == Ses.CABLE_CHECK && !(s.sess o).passed then [] else [Ses.CABLE_CHECK, Ses.PRE_CHARGE, Ses.PAUSED]).contains
      (s.sesState o) = true := by
    rcases h with ⟨h, hpassed⟩ | h
    · rw [hpassed, h]; rfl
    · rw [h]; rfl
  refine State.onRequest_next hlive hlinked hstates fun m => ?_
  have hbefore' : (({ s with mirror := m } : State).sesState o == Ses.PRE_CHARGE) = false := hbefore
  simp only [hbefore', Bool.false_and, Bool.false_eq_true, if_false]
  refine ⟨?_, ?_, ?_, State.tellsVehicle_toVehicle ..⟩
  · simp [State.sesState_eq]
  · simp
  · simp

/-! ### Power delivery -/

omit hlinked in
/-- A session that enters a state, as its request is answered, is the outlet's own. -/
theorem State.entered_frame (s : State) (o : Nat) (m : MirrorSt) (k : Sess) (st msg r g : Nat) (values : List Int) :
    { (((({ s with mirror := m } : State).setSess o k).enter o st).toVehicle o msg r g values) with
      outlets := s.outlets, waiting := s.waiting, mirror := s.mirror } = s := by
  simp only [State.toVehicle, State.sendHeld, State.enter, State.setSess]

theorem execPowerDeliveryReqStart_within (hstate : s.sesState o = Ses.PRE_CHARGE)
    (hoff : ratAbs (s.oVolts o - (((s.sess o).target : Nat) : Rat) / 10) ≤ 20) :
    ∃ t, execPowerDeliveryReqStart o s = .next t ∧ t.sesState o = Ses.TRANSFER ∧ (t.sess o).loopAt = s.ticks ∧
      t.tellsVehicle o Req.POWER_DELIVERY 0 0 [] ∧ { t with outlets := s.outlets, waiting := s.waiting, mirror := s.mirror } = s := by
  refine State.onRequest_next (State.sesLive_of_state hstate (by decide)) hlinked (by rw [hstate]; rfl) fun m => ?_
  have hnear : decide (20 < ratAbs (({ s with mirror := m } : State).oVolts o - (((({ s with mirror := m } : State).sess o).target : Nat) : Rat) / 10)) =
      false := decide_eq_false (not_lt.2 hoff)
  dsimp only
  rw [hnear, Bool.and_false, if_neg (by decide)]
  exact ⟨by simp [State.sesState_eq], by simp, State.tellsVehicle_toVehicle .., State.entered_frame ..⟩

theorem execPowerDeliveryReqStart_off (hstate : s.sesState o = Ses.PRE_CHARGE)
    (hoff : 20 < ratAbs (s.oVolts o - (((s.sess o).target : Nat) : Rat) / 10)) (hfree : (s.sess o).committed = false)
    (hclosed : (s.sess o).closed = true) :
    ∃ t, execPowerDeliveryReqStart o s = .next t ∧ t.endedBy o End.PRECHARGE_FAILED Ses.STOPPING ∧
      s.raised t Evt.PRECHARGE_FAIL o (tenths (s.oVolts o)) (s.sess o).target := by
  refine State.onRequest_next (State.sesLive_of_state hstate (by decide)) hlinked (by rw [hstate]; rfl) fun m => ?_
  have hfar : (({ s with mirror := m } : State).sesState o == Ses.PRE_CHARGE && decide (20 < ratAbs (({ s with mirror := m } : State).oVolts o -
      (((({ s with mirror := m } : State).sess o).target : Nat) : Rat) / 10))) = true :=
    Bool.and_eq_true_iff.2 ⟨beq_iff_eq.2 hstate, decide_eq_true hoff⟩
  dsimp only
  rw [if_pos hfar]
  have hsess (z : State) (p q : Nat) : ((z.toVehicle o Req.POWER_DELIVERY 1 0 []).raise Evt.PRECHARGE_FAIL o p q).sess o = z.sess o :=
    State.sess_raiseWith ..
  refine ⟨State.endSession_ends_closed _ _ (State.sesLive_of_state (st := Ses.PRE_CHARGE) ?_ (by decide)) ?_ ?_, ?_⟩
  · exact (congrArg Sess.state (hsess ..)).trans hstate
  · exact (congrArg Sess.committed (hsess ..)).trans hfree
  · exact (congrArg Sess.closed (hsess ..)).trans hclosed
  · refine (State.endSession_ev ..).trans (State.raise_ev_congr ?_ ?_ ?_ ?_ ..) <;> rfl

theorem execPowerDeliveryReqStart_resumes (hstate : s.sesState o = Ses.PAUSED) :
    ∃ t, execPowerDeliveryReqStart o s = .next t ∧ t.sesState o = Ses.TRANSFER ∧ (t.sess o).loopAt = s.ticks ∧
      t.tellsVehicle o Req.POWER_DELIVERY 0 0 [] := by
  refine State.onRequest_next (State.sesLive_of_state hstate (by decide)) hlinked (by rw [hstate]; rfl) fun m => ?_
  have hpaused : (({ s with mirror := m } : State).sesState o == Ses.PRE_CHARGE) = false := by
    rw [show ({ s with mirror := m } : State).sesState o = Ses.PAUSED from hstate]; rfl
  dsimp only
  rw [hpaused, Bool.false_and, if_neg (by decide)]
  exact ⟨by simp [State.sesState_eq], by simp, State.tellsVehicle_toVehicle ..⟩

theorem execPowerDeliveryReqStandby_pauses (hstate : s.sesState o = Ses.TRANSFER) :
    ∃ t, execPowerDeliveryReqStandby o s = .next t ∧ t.sesState o = Ses.PAUSED ∧ t.int Ent.REQUEST_POWER o = 0 ∧
      t.tellsVehicle o Req.POWER_DELIVERY 0 0 [] := by
  refine State.onRequest_next (State.sesLive_of_state hstate (by decide)) hlinked (by rw [hstate]; rfl) fun m => ?_
  refine ⟨by simp [State.sesState_eq, State.deliverNothing], ?_, State.tellsVehicle_toVehicle ..⟩
  exact (State.targetAll_keeps (fun z => z.int Ent.REQUEST_POWER o) (fun _ _ _ _ => rfl) ..).trans (State.int_setInt_same ..)

theorem execPowerDeliveryReqStop_ends (h : s.sesState o = Ses.PRE_CHARGE ∨ s.sesState o = Ses.TRANSFER ∨ s.sesState o = Ses.PAUSED)
    (hfree : (s.sess o).committed = false) (hreason : (s.sess o).reason = 0xFF) (hclosed : (s.sess o).closed = true) :
    ∃ t, execPowerDeliveryReqStop o s = .next t ∧ t.endedBy o End.COMPLETED_BY_VEHICLE Ses.STOPPING ∧
      t.tellsVehicle o Req.POWER_DELIVERY 0 0 [] := by
  have hlive : s.sesLive o = true := (s.sesLive_iff o).2 (by rcases h with h | h | h <;> rw [h] <;> decide)
  refine State.onRequest_next hlive hlinked (by rcases h with h | h | h <;> rw [h] <;> rfl) fun m => ?_
  have hnew : ((({ s with mirror := m } : State).sess o).reason == End.COMPLETED_BY_VEHICLE) = false := by
    rw [show (({ s with mirror := m } : State).sess o).reason = 0xFF from hreason]; rfl
  dsimp only
  rw [hnew, if_neg (by decide)]
  exact ⟨State.endSession_ends_closed _ _ hlive hfree hclosed,
    State.tellsVehicle_congr (State.tellsVehicle_toVehicle ..) (State.endSession_waiting ..)⟩

/-! ### Loop requests -/

/-- What a loop request in TRANSFER leaves of the session (R178): its tick and its direction noted. -/
theorem execLoopRequest_transfer (p : EvParams) (hstate : s.sesState o = Ses.TRANSFER) :
    ∃ t, execLoopRequest o p s = .next t ∧ (t.sess o).loopAt = s.ticks ∧ (t.sess o).discharge = p.discharge ∧
      (p.error = false → t.sesState o = Ses.TRANSFER) ∧
      (p.error = true → (s.sess o).committed = false → (s.sess o).closed = true → t.endedBy o End.VEHICLE_ERROR Ses.STOPPING) ∧
      t.tellsVehicle o Req.LOOP 0 0 (s.present o ++ [s.int Ent.GRANT o,
        ratFloor ((if s.rat Ent.CABLE_CURRENT_LIMIT o < 3000 then s.rat Ent.CABLE_CURRENT_LIMIT o else 3000) * 10), 12500,
        b2n (s.sess o).ended]) := by
  refine State.onRequest_next (State.sesLive_of_state hstate (by decide)) hlinked (by rw [hstate]; rfl) fun m => ?_
  have htransfer : (({ s with mirror := m } : State).sesState o == Ses.TRANSFER) = true := beq_iff_eq.2 hstate
  dsimp only
  rw [if_pos htransfer]
  generalize hz : State.toVehicle _ _ _ _ _ _ = z
  have hsess : z.sess o = { s.sess o with loopAt := s.ticks, discharge := p.discharge } := by
    rw [← hz, State.sess_toVehicle, State.sess_setSess_same, State.sess_setEv]
    rfl
  refine ⟨?_, ?_, fun hnone => ?_, fun herror hfree hclosed => ?_, ?_⟩
  · rw [State.sess_vehicleError_keeps (g := Sess.loopAt) (fun _ _ _ _ _ _ _ _ => rfl), hsess]
  · rw [State.sess_vehicleError_keeps (g := Sess.discharge) (fun _ _ _ _ _ _ _ _ => rfl), hsess]
  · rw [State.vehicleError_of_none hnone, State.sesState_eq, hsess]
    exact hstate
  · rw [State.vehicleError_of_error herror]
    refine State.endSession_ends_closed _ _ (State.sesLive_of_state (st := Ses.TRANSFER) ?_ (by decide)) ?_ ?_
    · exact (congrArg Sess.state hsess).trans hstate
    · exact (congrArg Sess.committed hsess).trans hfree
    · exact (congrArg Sess.closed hsess).trans hclosed
  · refine State.tellsVehicle_congr ?_ (State.vehicleError_waiting ..)
    rw [← hz]
    exact State.tellsVehicle_toVehicle ..

end PreCharge

/-! ### Welding detection and the session's stop -/

/-- WELDING_CHECK is left for RELEASE once both its halves are done (R188). -/
theorem State.leaveWelding_sess (s : State) (o : Nat) :
    (s.leaveWelding o).sess o = if s.sesState o = Ses.WELDING_CHECK ∧ (s.sess o).ownCheck = true ∧ (s.sess o).vehicleCheck = true then
      { s.sess o with state := Ses.RELEASE, stateAt := s.ticks } else s.sess o := by
  unfold State.leaveWelding
  dsimp only
  split
  · next h => rw [State.sess_enter_same, if_pos (by simpa [and_assoc] using h)]
  · next h => rw [if_neg (by simpa [and_assoc] using h)]

theorem State.leaveWelding_waiting (s : State) (o : Nat) : (s.leaveWelding o).waiting = s.waiting := by
  unfold State.leaveWelding
  dsimp only
  split
  · rfl
  · rfl

section Stop
variable {s : State} {o : Fin 8} (hlinked : s.linked o = true)
include hlinked

/-- Welding detection is answered with the outlet voltage; finished, it completes the vehicle's half (R188). -/
theorem execDcWeldingDetectionReq_answers (finished : Bool)
    (h : s.sesState o = Ses.STOPPING ∨ s.sesState o = Ses.RELEASE ∨ s.sesState o = Ses.WELDING_CHECK) :
    ∃ t, execDcWeldingDetectionReq o finished s = .next t ∧ t.tellsVehicle o Req.WELDING_DETECTION 0 0 [(tenths (s.oVolts o) : Int)] ∧
      (t.sess o).vehicleCheck = (finished || (s.sess o).vehicleCheck) ∧
      t.sesState o = (if s.sesState o = Ses.WELDING_CHECK ∧ finished = true ∧ (s.sess o).ownCheck = true then Ses.RELEASE
        else s.sesState o) := by
  have hlive : s.sesLive o = true := (s.sesLive_iff o).2 (by rcases h with h | h | h <;> rw [h] <;> decide)
  refine State.onRequest_next hlive hlinked (by rcases h with h | h | h <;> rw [h] <;> rfl) fun m => ?_
  dsimp only
  generalize hz : State.toVehicle _ _ _ _ _ _ = z
  have htell : z.tellsVehicle o Req.WELDING_DETECTION 0 0 [(tenths (s.oVolts o) : Int)] := by
    rw [← hz]
    exact State.tellsVehicle_toVehicle ..
  have hsess : z.sess o = s.sess o := by
    rw [← hz]
    exact State.sess_toVehicle ..
  cases finished with
  | false =>
    refine ⟨htell, ?_, ?_⟩
    · rw [if_neg (by decide), hsess, Bool.false_or]
    · rw [if_neg (by decide), State.sesState_eq, hsess, if_neg (by simp)]
      rfl
  | true =>
    rw [if_pos rfl]
    refine ⟨State.tellsVehicle_congr htell (State.leaveWelding_waiting ..), ?_, ?_⟩
    · rw [State.leaveWelding_sess]
      split
      · simp
      · simp
    · rw [State.sesState_eq, State.leaveWelding_sess, State.sesState_eq, State.sess_setSess_same, hsess]
      by_cases hdone : (s.sess o).state = Ses.WELDING_CHECK ∧ (s.sess o).ownCheck = true
      · simp [State.sesState_eq, hdone]
      · simp [State.sesState_eq, hdone]

/-- The session's stop ends it, is noted and completes the vehicle's half of the welding check (R182, R189). -/
theorem execSessionStopReq_ends (hlive : s.sesLive o = true) (hfree : (s.sess o).committed = false) (hopen : (s.sess o).recorded = false)
    (hclosed : (s.sess o).closed = true) :
    ∃ t, execSessionStopReq o s = .next t ∧ t.endedBy o End.COMPLETED_BY_VEHICLE Ses.STOPPING ∧ (t.sess o).stopAsked = true ∧
      (t.sess o).vehicleCheck = true := by
  obtain ⟨m, hm⟩ := s.noteIn_mirror (.sessionStopReq o)
  unfold execSessionStopReq
  rw [hm]
  have hserved : ¬ (!({ s with mirror := m } : State).sesLive o || !({ s with mirror := m } : State).linked o) = true := by
    rw [show ({ s with mirror := m } : State).sesLive o = true from hlive, show ({ s with mirror := m } : State).linked o = true from hlinked]
    decide
  have hfirst : ¬ (({ s with mirror := m } : State).sess o).committed = true := ne_true_of_eq_false hfree
  have hsess := State.sess_endSession_first (s := { s with mirror := m }) (o := o) End.COMPLETED_BY_VEHICLE false hlive hfree
  dsimp only
  rw [if_neg hserved, if_neg hfirst]
  generalize State.endSession _ _ _ _ = z at hsess ⊢
  have hrecorded : ¬ (z.sess o).recorded = true := by rw [hsess]; exact ne_true_of_eq_false hopen
  rw [if_neg hrecorded]
  have hstopping : (z.sess o).state = Ses.STOPPING := by
    rw [hsess]
    exact if_pos hclosed
  have hleft : ((z.setSess o { z.sess o with stopAsked := true, vehicleCheck := true }).leaveWelding o).sess o =
      { z.sess o with stopAsked := true, vehicleCheck := true } := by
    rw [State.leaveWelding_sess, State.sesState_eq, State.sess_setSess_same, if_neg (fun h => by
      have := h.1.symm.trans hstopping
      exact absurd this (by decide))]
  refine ⟨_, rfl, ?_, ?_, ?_⟩
  · rw [State.endedBy, State.sesState_eq, hleft]
    exact ⟨congrArg Sess.committed hsess, congrArg Sess.reason hsess, hstopping⟩
  · rw [hleft]
  · rw [hleft]

end Stop

/-- Settles O30: each request in its states, over the vehicle's connection. -/
theorem sessionsTransferAndPause : Obligations.SessionsTransferAndPause := by
  intro s o hlinked
  exact ⟨fun target h => execDcPreChargeReq_begins hlinked target h,
    fun hstate => ⟨fun hoff => execPowerDeliveryReqStart_within hlinked hstate hoff,
      fun hoff hfree hclosed => execPowerDeliveryReqStart_off hlinked hstate hoff hfree hclosed⟩,
    fun hstate => execPowerDeliveryReqStart_resumes hlinked hstate, fun hstate => execPowerDeliveryReqStandby_pauses hlinked hstate,
    fun h hfree hreason hclosed => execPowerDeliveryReqStop_ends hlinked h hfree hreason hclosed,
    fun p hstate => execLoopRequest_transfer hlinked p hstate, fun finished h => execDcWeldingDetectionReq_answers hlinked finished h,
    fun hlive hfree hopen hclosed => execSessionStopReq_ends hlinked hlive hfree hopen hclosed⟩

end Sys2Proof.Machine
end

section
/-!
PROOFS. Trips and stops (O31): the limits of a session's states (Table 7-3), the trips of Table 7-6 with the loss of the link (R177), a client's
request for a stop (R183), and the contactor's opening with the check for a weld (R184, R188).
-/
namespace Sys2Proof.Machine
open Sys2Proof

/-! ### Limits of the states -/

theorem execSessionStateLimit_setup {s : State} {o : Fin 8}
    (h : s.sesState o = Ses.CONNECTED ∨ s.sesState o = Ses.HANDSHAKE ∨ s.sesState o = Ses.SETUP)
    (hdue : (s.sess o).plugAt + msTicks (s.nat Ent.SETUP_TIMEOUT) ≤ s.ticks) :
    execSessionStateLimit o s = .next (s.endSession o End.SEQUENCE_TIMEOUT false) := by
  unfold execSessionStateLimit
  rcases h with h | h | h
  · rw [h]
    exact if_pos (decide_eq_true hdue)
  · rw [h]
    exact if_pos (decide_eq_true hdue)
  · rw [h]
    exact if_pos (decide_eq_true hdue)

theorem execSessionStateLimit_parameters {s : State} {o : Fin 8} (h : s.sesState o = Ses.PARAMETERS)
    (hdue : (s.sess o).stateAt + secTicks (s.nat Ent.MODULE_WAIT_TIMEOUT) ≤ s.ticks) :
    execSessionStateLimit o s = .next (s.endSession o End.NO_MODULES false) := by
  unfold execSessionStateLimit
  rw [h]
  exact if_pos (decide_eq_true hdue)

theorem execSessionStateLimit_welding {s : State} {o : Fin 8} (h : s.sesState o = Ses.WELDING_CHECK)
    (hdue : (s.sess o).stateAt + secTicks 10 ≤ s.ticks) : execSessionStateLimit o s = .next (s.enter o Ses.RELEASE) := by
  unfold execSessionStateLimit
  rw [h]
  exact if_pos (decide_eq_true hdue)

/-! ### Trips -/

/-- A trip may leave the outlet FAULTED after its release (Table 7-6). -/
theorem State.noteTrip_sess (s : State) (o : Nat) : ∃ b, (s.noteTrip o).sess o = { s.sess o with faultAfter := b } := by
  unfold State.noteTrip
  split
  · exact ⟨true, State.sess_setSess_same ..⟩
  · exact ⟨_, rfl⟩

theorem State.noteTrip_keeps {β : Type} (g : State → β) (hsess : ∀ (z : State) l, g { z with outlets := { z.outlets with sess := l } } = g z)
    (s : State) (o : Nat) : g (s.noteTrip o) = g s := by
  unfold State.noteTrip
  split
  · exact hsess ..
  · rfl

/-- An end that a trip brings about while the contactor is closed. -/
theorem State.noteTrip_endSession {s : State} {o : Nat} (reason : Nat) (fast : Bool) (hlive : s.sesLive o = true)
    (hfree : (s.sess o).committed = false) (hclosed : (s.sess o).closed = true) :
    let t := (s.noteTrip o).endSession o reason fast
    t.endedBy o reason Ses.STOPPING ∧ (fast = true → (t.sess o).fast = true) ∧ t.ev = s.ev ∧ t.free = s.free ∧ t.linked o = s.linked o := by
  obtain ⟨b, hsess⟩ := s.noteTrip_sess o
  have hstate : (s.noteTrip o).sesState o = s.sesState o := by rw [State.sesState_eq, hsess, State.sesState_eq]
  have hlive' : (s.noteTrip o).sesLive o = true := (State.sesLive_congr hstate).trans hlive
  have hfree' : ((s.noteTrip o).sess o).committed = false := (congrArg Sess.committed hsess).trans hfree
  have hclosed' : ((s.noteTrip o).sess o).closed = true := (congrArg Sess.closed hsess).trans hclosed
  refine ⟨State.endSession_ends_closed _ _ hlive' hfree' hclosed', fun hfast => ?_, ?_, ?_, ?_⟩
  · rw [State.sess_endSession_first _ _ hlive' hfree', Sess.endedFor, hclosed', hfast]
    rfl
  · rw [State.endSession_ev, State.noteTrip_keeps State.ev (fun _ _ => rfl)]
  · exact (State.endSession_keeps State.free (fun _ _ => rfl) (fun _ _ _ _ => rfl) o (fun _ _ => rfl) ..).trans
      (State.noteTrip_keeps State.free (fun _ _ => rfl) ..)
  · rw [State.endSession_linked, State.noteTrip_keeps (fun z => z.linked o) (fun _ _ => rfl)]

section Tripped
variable {s : State} {o : Fin 8} (hlive : s.sesLive o = true) (hfree : (s.sess o).committed = false) (hclosed : (s.sess o).closed = true)
include hlive hfree hclosed

/-- An event with which an end comes while the contactor is closed. -/
theorem State.raise_noteTrip_endSession (k : EvKind) (i p q reason : Nat) (fast : Bool) :
    let t := ((s.raise k i p q).noteTrip o).endSession o reason fast
    t.endedBy o reason Ses.STOPPING ∧ (fast = true → (t.sess o).fast = true) ∧ s.raised t k i p q ∧ t.free = s.free ∧
      t.linked o = s.linked o := by
  have hsess : (s.raise k i p q).sess o = s.sess o := State.sess_raiseWith ..
  obtain ⟨hends, hquick, hev, hfree', hlinked⟩ := State.noteTrip_endSession (s := s.raise k i p q) (o := o) reason fast
    ((State.sesLive_congr (congrArg Sess.state hsess)).trans hlive) ((congrArg Sess.committed hsess).trans hfree)
    ((congrArg Sess.closed hsess).trans hclosed)
  refine ⟨hends, hquick, hev, hfree'.trans (State.raiseWith_free ..), hlinked.trans ?_⟩
  rw [State.linked, State.line, State.raise_eq, State.raiseWith_outlets]
  rfl

theorem execInsulationTrip_trips (hrun : frames10 ≤ (s.line o).iso) :
    ∃ t, execInsulationTrip o s = .next t ∧ t.endedBy o End.INSULATION_FAULT Ses.STOPPING ∧ (t.sess o).fast = true ∧
      s.raised t Evt.OUTLET_TRIP o End.INSULATION_FAULT (kohms (s.insulation o)) := by
  obtain ⟨hends, hquick, hev, -, -⟩ := State.raise_noteTrip_endSession hlive hfree hclosed Evt.OUTLET_TRIP o End.INSULATION_FAULT
    (kohms (s.insulation o)) End.INSULATION_FAULT true
  exact ⟨_, if_pos (by rw [hclosed, decide_eq_true hrun]; rfl), hends, hquick rfl, hev⟩

theorem execOutletTrip_overVoltage (hrun : 2 ≤ (s.line o).overV) :
    ∃ t, execOutletTrip o 0 s = .next t ∧ t.endedBy o End.OVER_VOLTAGE Ses.STOPPING ∧ (t.sess o).fast = true ∧
      s.raised t Evt.OUTLET_TRIP o End.OVER_VOLTAGE (tenths (s.oVolts o)) := by
  obtain ⟨hends, hquick, hev, -, -⟩ := State.raise_noteTrip_endSession hlive hfree hclosed Evt.OUTLET_TRIP o End.OVER_VOLTAGE
    (tenths (s.oVolts o)) End.OVER_VOLTAGE true
  exact ⟨_, (if_neg (by simp [hclosed])).trans (if_pos hrun), hends, hquick rfl, hev⟩

theorem execOutletTrip_overCurrent (hrun : frames10 ≤ (s.line o).overI) :
    ∃ t, execOutletTrip o 1 s = .next t ∧ t.endedBy o End.OVER_CURRENT Ses.STOPPING ∧ (t.sess o).fast = true ∧
      s.raised t Evt.OUTLET_TRIP o End.OVER_CURRENT (tenths (s.oAmps o)) := by
  have hmagnitude (q : Rat) : tenths (ratAbs q) = tenths q := by
    have hidem : ratAbs (ratAbs q) = ratAbs q := by
      rcases lt_or_ge q 0 with h | h
      · rw [show ratAbs q = -q from if_pos h]
        exact if_neg (by linarith)
      · rw [show ratAbs q = q from if_neg (not_lt.2 h)]
        exact if_neg (not_lt.2 h)
    rw [tenths, hidem, tenths]
  obtain ⟨hends, hquick, hev, -, -⟩ := State.raise_noteTrip_endSession hlive hfree hclosed Evt.OUTLET_TRIP o End.OVER_CURRENT
    (tenths (ratAbs (s.oAmps o))) End.OVER_CURRENT true
  exact ⟨_, (if_neg (by simp [hclosed])).trans (if_pos hrun), hends, hquick rfl,
    hev.trans (congrArg (fun v => (s.raise Evt.OUTLET_TRIP o End.OVER_CURRENT v).ev) (hmagnitude _))⟩

theorem execOutletTrip_modules (hsome : s.modulesOf o ≠ [])
    (hall : ∀ m ∈ s.modulesOf o, (s.unitSt m).outputOff = true ∨ s.nat Ent.MODULE_STATE m = Mod.UNRESPONSIVE) :
    ∃ t, execOutletTrip o 2 s = .next t ∧ t.endedBy o End.MODULE_FAULT Ses.STOPPING ∧ t.free = s.free + 1 := by
  have hdown : (!(s.modulesOf o).isEmpty && (s.modulesOf o).all
      (fun m => (s.unitSt m).outputOff || s.nat Ent.MODULE_STATE m == Mod.UNRESPONSIVE)) = true := by
    simpa [hsome] using hall
  obtain ⟨hends, -, -, hfree', -⟩ := State.raise_noteTrip_endSession (s := s.takeFree.2) hlive hfree hclosed Evt.OUTLET_TRIP o
    End.MODULE_FAULT (low 32 s.takeFree.1) End.MODULE_FAULT true
  exact ⟨_, (if_neg (by simp [hclosed])).trans (if_pos hdown), hends, hfree'⟩

theorem execLinkLost_down (hrun : frames10 ≤ (s.line o).down) (hopen : (s.sess o).recorded = false) :
    ∃ t, execLinkLost o false s = .next t ∧ t.endedBy o End.LINK_LOST Ses.STOPPING ∧ (t.sess o).fast = true ∧ t.linked o = false ∧
      s.raised t Evt.LINK_LOST o 0 (s.sess o).number := by
  have hcut : (s.closeLink o).linked o = false := by
    rw [State.linked, State.closeLink, State.line_setLine_same]
    rfl
  obtain ⟨hends, hquick, hev, -, hlinked⟩ := State.raise_noteTrip_endSession (s := s.closeLink o) hlive hfree hclosed Evt.LINK_LOST o 0
    (s.sess o).number End.LINK_LOST true
  have hserved : ((s.closeLink o).sesLive o && !((s.closeLink o).sess o).recorded) = true := by
    rw [show (s.closeLink o).sesLive o = true from hlive, show ((s.closeLink o).sess o).recorded = false from hopen]
    rfl
  refine ⟨_, (if_neg (by decide)).trans ((if_pos hrun).trans (congrArg Host.Outcome.next (if_pos hserved))), hends, hquick rfl,
    hlinked.trans hcut, hev.trans (State.raise_ev_congr ?_ ?_ ?_ ?_ ..)⟩ <;> rfl

theorem execLinkLost_silent (hstate : s.sesState o = Ses.TRANSFER)
    (hdue : (s.sess o).loopAt + msTicks (s.nat Ent.LOOP_SILENCE_TIMEOUT) ≤ s.ticks) :
    ∃ t, execLinkLost o true s = .next t ∧ t.endedBy o End.LINK_LOST Ses.STOPPING ∧ s.raised t Evt.LINK_LOST o 1 (s.sess o).number := by
  obtain ⟨hends, -, hev, -, -⟩ := State.raise_noteTrip_endSession hlive hfree hclosed Evt.LINK_LOST o 1 (s.sess o).number End.LINK_LOST false
  exact ⟨_, (if_pos rfl).trans (congrArg Host.Outcome.next (if_pos (by rw [hstate, decide_eq_true hdue]; rfl))), hends, hev⟩

end Tripped

/-! ### A client's request for a stop -/

theorem applyStopRequest_none {s : State} {o : Nat} (v : Int) (h : s.sesLive o = false) : applyStopRequest o v s = (s, St.CONFLICT) :=
  if_pos (by simp [h])

theorem applyStopRequest_ended {s : State} {o : Nat} (v : Int) (hlive : s.sesLive o = true) (h : (s.sess o).committed = true) :
    applyStopRequest o v s = (s, St.ALREADY_DONE) :=
  (if_neg (by simp [hlive])).trans (if_pos h)

theorem applyStopRequest_ends {s : State} {o : Nat} (v : Nat) (hlive : s.sesLive o = true) (hfree : (s.sess o).committed = false) :
    applyStopRequest o v s = (s.endSession o v false, St.OK) :=
  (if_neg (by simp [hlive])).trans (if_neg (ne_true_of_eq_false hfree))

/-! ### The contactor -/

theorem State.lcCommand_keeps {β : Type} (g : State → β) (hlc : ∀ (z : State) l, g { z with lc := l } = g z) (s : State) (c : Nat) (on : Bool) :
    g (s.lcCommand c on) = g s := by
  unfold State.lcCommand
  split
  · exact hlc ..
  · rfl

theorem State.setWeld_keeps {β : Type} (g : State → β) (hlc : ∀ (z : State) l, g { z with lc := l } = g z) (s : State) (c : Nat) (b : Bool) :
    g (s.setWeld c b) = g s := by
  unfold State.setWeld
  split
  · exact hlc ..
  · rfl

theorem State.endReservations_keeps {β : Type} (g : State → β) (hput : ∀ (z : State) m v, g (z.put Ent.MODULE_STATE m 0 v) = g z)
    (halloc : ∀ (z : State) a, g { z with alloc := a } = g z) (s : State) (o : Nat) : g (s.endReservations o) = g s :=
  State.each_keeps _ _ _ g fun _ _ => (hput ..).trans (halloc ..)

theorem State.leaveWelding_keeps {β : Type} (g : State → β)
    (hsess : ∀ (z : State) l, g { z with outlets := { z.outlets with sess := l } } = g z) (s : State) (o : Nat) :
    g (s.leaveWelding o) = g s := by
  unfold State.leaveWelding
  dsimp only
  split
  · exact hsess ..
  · rfl

/-- The session as its contactor opens (R188): in WELDING_CHECK, its own check skipped where the vehicle side reads below 60 V. -/
def State.openedSess (s : State) (o : Nat) : Sess :=
  { s.sess o with closed := false, openSfn := s.sfn, openAt := s.ticks, vehicleHigh := decide (60 ≤ s.oVolts o),
                  ownCheck := !decide (60 ≤ s.oVolts o), delivered1 := s.outletDelivered o, received1 := s.outletReceived o,
                  state := Ses.WELDING_CHECK, stateAt := s.ticks }

theorem State.openContactor_sess (s : State) (o : Nat) :
    (s.openContactor o).sess o = if s.oVolts o < 60 ∧ (s.sess o).vehicleCheck = true then { s.openedSess o with state := Ses.RELEASE }
      else s.openedSess o := by
  unfold State.openContactor
  extract_lets high k s1
  have hticks : s1.ticks = s.ticks := State.lcCommand_keeps State.ticks (fun _ _ => rfl) ..
  have hsess : ((s1.enter o Ses.WELDING_CHECK).endReservations o).sess o = s.openedSess o := by
    rw [State.endReservations_keeps (fun z => z.sess o) (fun _ _ _ => State.sess_put ..) (fun _ _ => rfl), State.sess_enter_same,
      State.sess_setSess_same, hticks]
    rfl
  have hticks' : ((s1.enter o Ses.WELDING_CHECK).endReservations o).ticks = s.ticks :=
    (State.endReservations_keeps State.ticks (fun _ _ _ => State.put_ticks ..) (fun _ _ => rfl) ..).trans hticks
  have hbelow : (s.openedSess o).ownCheck = true ↔ s.oVolts o < 60 := by
    rw [State.openedSess, Bool.not_eq_true', decide_eq_false_iff_not, not_le]
  rw [State.leaveWelding_sess, State.sesState_eq, hsess, hticks']
  by_cases hskip : s.oVolts o < 60 ∧ (s.sess o).vehicleCheck = true
  · rw [if_pos hskip, if_pos ⟨rfl, hbelow.2 hskip.1, hskip.2⟩]
    rfl
  · rw [if_neg hskip, if_neg fun h => hskip ⟨hbelow.1 h.2.1, h.2.2⟩]

section OpenKeeps
variable {β : Type} (g : State → β) (hlc : ∀ (z : State) l, g { z with lc := l } = g z)
  (hsess : ∀ (z : State) l, g { z with outlets := { z.outlets with sess := l } } = g z)
  (hput : ∀ (z : State) m v, g (z.put Ent.MODULE_STATE m 0 v) = g z) (halloc : ∀ (z : State) a, g { z with alloc := a } = g z)
include hlc hsess hput halloc

/-- The contactor's opening writes its channel, the outlet's record and the reservations it ends. -/
theorem State.openContactor_keeps (s : State) (o : Nat) : g (s.openContactor o) = g s := by
  unfold State.openContactor
  dsimp only
  rw [State.leaveWelding_keeps g hsess, State.endReservations_keeps g hput halloc]
  exact (hsess ..).trans ((hsess ..).trans (State.lcCommand_keeps g hlc ..))

end OpenKeeps

theorem execContactorOpen_opens {s : State} {o : Fin 8} (hstate : s.sesState o = Ses.STOPPING) (hlow : 2 ≤ (s.line o).lowI) :
    ∃ t, execContactorOpen o s = .next t ∧ (t.sess o).closed = false ∧ (t.sess o).openSfn = s.sfn ∧
      (t.sess o).delivered1 = s.outletDelivered o ∧
      t.sesState o = (if s.oVolts o < 60 ∧ (s.sess o).vehicleCheck = true then Ses.RELEASE else Ses.WELDING_CHECK) := by
  refine ⟨_, if_pos (by rw [hstate, decide_eq_true hlow]; rfl), ?_⟩
  rw [State.sesState_eq, State.openContactor_sess]
  split
  · exact ⟨rfl, rfl, rfl, rfl⟩
  · exact ⟨rfl, rfl, rfl, rfl⟩

theorem execForcedOpen_opens {s : State} {o : Fin 8} (hstate : s.sesState o = Ses.STOPPING)
    (hdue : (s.sess o).stateAt + msTicks (if (s.sess o).fast then s.nat Ent.FORCED_OPEN_DELAY else s.nat Ent.STOP_TIMEOUT) ≤ s.ticks) :
    ∃ t, execForcedOpen o s = .next t ∧ (t.sess o).closed = false ∧
      s.raised t Evt.FORCED_OPEN o (tenths (s.oAmps o)) (s.sess o).number := by
  refine ⟨_, congrArg Host.Outcome.next (if_pos (by rw [hstate, decide_eq_true hdue]; rfl)), ?_, ?_⟩
  · rw [State.raise_eq, State.sess_raiseWith, State.openContactor_sess]
    split
    · rfl
    · rfl
  · have hkeeps {β : Type} (g : State → β) (hlc : ∀ (z : State) l, g { z with lc := l } = g z)
        (hsess : ∀ (z : State) l, g { z with outlets := { z.outlets with sess := l } } = g z)
        (hput : ∀ (z : State) m v, g (z.put Ent.MODULE_STATE m 0 v) = g z) (halloc : ∀ (z : State) a, g { z with alloc := a } = g z) :
        g (s.openContactor o) = g s := State.openContactor_keeps g hlc hsess hput halloc s o
    exact State.raised_of_raise (hkeeps State.ev (fun _ _ => rfl) (fun _ _ => rfl) (fun _ _ _ => State.put_ev ..) (fun _ _ => rfl))
      (hkeeps State.sfn (fun _ _ => rfl) (fun _ _ => rfl) (fun _ _ _ => State.put_sfn ..) (fun _ _ => rfl))
      (hkeeps State.cycle (fun _ _ => rfl) (fun _ _ => rfl) (fun _ _ _ => State.put_cycle ..) (fun _ _ => rfl))
      (hkeeps State.time (fun _ _ => rfl) (fun _ _ => rfl) (fun _ _ _ => State.put_time ..) (fun _ _ => rfl))

/-! ### The check for a weld -/

/-- A module side above half of an outlet voltage of more than 60 V (R188). -/
def State.weldSeen (s : State) (o : Nat) : Bool :=
  decide (60 < s.oVolts o) && decide (s.oVolts o / 2 < ((s.moduleSide o : Nat) : Rat) / 10)

/-- The session after its own check, with what that has seen. -/
def Sess.checked (k : Sess) (weld : Bool) : Sess :=
  { k with ownCheck := true, welded := k.welded || weld, faultAfter := k.faultAfter || weld }

/-- The outlet's own check done, a weld reported (R188). -/
def State.weldChecked (s : State) (o : Nat) : State :=
  let z := s.setSess o ((s.sess o).checked (s.weldSeen o))
  if s.weldSeen o then
    ((z.raise Evt.CONTACTOR_WELDED o (tenths (s.oVolts o)) (s.moduleSide o)).setWeld (s.nat Ent.CONTACTOR_CHANNEL o) true).targetAll o 0 0 0
  else z

theorem execWeldingCheck_due {s : State} {o : Fin 8} (hstate : s.sesState o = Ses.WELDING_CHECK) (hopen : (s.sess o).ownCheck = false)
    (hdue : (s.sess o).openAt + msTicks 500 ≤ s.ticks) : execWeldingCheck o s = .next ((s.weldChecked o).leaveWelding o) :=
  if_pos (by rw [hstate, hopen, decide_eq_true hdue]; rfl)

theorem State.weldChecked_sess (s : State) (o : Nat) : (s.weldChecked o).sess o = (s.sess o).checked (s.weldSeen o) := by
  unfold State.weldChecked
  extract_lets z
  have hz : z.sess o = (s.sess o).checked (s.weldSeen o) := State.sess_setSess_same ..
  split
  · rw [State.sess_targetAll, State.setWeld_keeps (fun y => y.sess o) (fun _ _ => rfl), State.raise_eq, State.sess_raiseWith, hz]
  · exact hz

theorem State.weldChecked_raised {s : State} {o : Nat} (h : s.weldSeen o = true) :
    s.raised (s.weldChecked o) Evt.CONTACTOR_WELDED o (tenths (s.oVolts o)) (s.moduleSide o) := by
  rw [State.raised, State.weldChecked, if_pos h, State.targetAll_keeps State.ev (fun _ _ _ _ => rfl),
    State.setWeld_keeps State.ev (fun _ _ => rfl)]
  refine State.raise_ev_congr ?_ ?_ ?_ ?_ .. <;> rfl

theorem State.weldChecked_quiet {s : State} {o : Nat} (h : s.weldSeen o = false) : (s.weldChecked o).ev = s.ev := by
  rw [State.weldChecked, if_neg (ne_true_of_eq_false h)]
  rfl

/-- The flags of the check stay as WELDING_CHECK is left. -/
theorem State.leaveWelding_flags (s : State) (o : Nat) :
    ((s.leaveWelding o).sess o).ownCheck = (s.sess o).ownCheck ∧ ((s.leaveWelding o).sess o).welded = (s.sess o).welded ∧
      ((s.leaveWelding o).sess o).faultAfter = (s.sess o).faultAfter := by
  rw [State.leaveWelding_sess]
  split
  · exact ⟨rfl, rfl, rfl⟩
  · exact ⟨rfl, rfl, rfl⟩

theorem execWeldingCheck_checks {s : State} {o : Fin 8} (hstate : s.sesState o = Ses.WELDING_CHECK) (hopen : (s.sess o).ownCheck = false)
    (hdue : (s.sess o).openAt + msTicks 500 ≤ s.ticks) :
    ∃ t, execWeldingCheck o s = .next t ∧ (t.sess o).ownCheck = true ∧
      (60 < s.oVolts o → s.oVolts o / 2 < ((s.moduleSide o : Nat) : Rat) / 10 →
        (t.sess o).welded = true ∧ (t.sess o).faultAfter = true ∧
        s.raised t Evt.CONTACTOR_WELDED o (tenths (s.oVolts o)) (s.moduleSide o)) ∧
      (s.oVolts o ≤ 60 ∨ ((s.moduleSide o : Nat) : Rat) / 10 ≤ s.oVolts o / 2 → (t.sess o).welded = (s.sess o).welded ∧ t.ev = s.ev) := by
  obtain ⟨hown, hwelded, hfault⟩ := (s.weldChecked o).leaveWelding_flags o
  have hev : ((s.weldChecked o).leaveWelding o).ev = (s.weldChecked o).ev := State.leaveWelding_keeps State.ev (fun _ _ => rfl) ..
  rw [State.weldChecked_sess] at hown hwelded hfault
  refine ⟨_, execWeldingCheck_due hstate hopen hdue, hown, fun hvolts hside => ?_, fun hsound => ?_⟩
  · have hseen : s.weldSeen o = true := Bool.and_eq_true_iff.2 ⟨decide_eq_true hvolts, decide_eq_true hside⟩
    rw [hseen] at hwelded hfault
    exact ⟨hwelded.trans (Bool.or_true _), hfault.trans (Bool.or_true _), State.raised_congr (State.weldChecked_raised hseen) hev⟩
  · have hunseen : s.weldSeen o = false := by
      rcases hsound with h | h
      · rw [State.weldSeen, decide_eq_false (not_lt.2 h), Bool.false_and]
      · rw [State.weldSeen, decide_eq_false (not_lt.2 h), Bool.and_false]
    rw [hunseen] at hwelded
    exact ⟨hwelded.trans (Bool.or_false _), hev.trans (State.weldChecked_quiet hunseen)⟩

/-- Settles O31: each limit and trip by its end, a client's request on the state with the tag taken, and the contactor's opening and check. -/
theorem sessionsAreTrippedAndStopped : Obligations.SessionsAreTrippedAndStopped := by
  intro s o
  refine ⟨fun hstate hfree hopen hdue => ⟨_, execSessionStateLimit_setup hstate hdue, ?_⟩,
    fun hstate hfree hopen hdue => ⟨_, execSessionStateLimit_parameters hstate hdue,
      State.endSession_ends_open _ _ (State.sesLive_of_state hstate (by decide)) hfree hopen⟩,
    fun hstate hdue => ⟨_, execSessionStateLimit_welding hstate hdue, ?_, rfl⟩,
    fun hlive hfree hclosed => ⟨fun hrun => execInsulationTrip_trips hlive hfree hclosed hrun,
      fun hrun => execOutletTrip_overVoltage hlive hfree hclosed hrun, fun hrun => execOutletTrip_overCurrent hlive hfree hclosed hrun,
      fun hsome hall => execOutletTrip_modules hlive hfree hclosed hsome hall,
      fun hrun hopen => execLinkLost_down hlive hfree hclosed hrun hopen,
      fun hstate hdue => execLinkLost_silent hlive hfree hclosed hstate hdue⟩,
    fun c v h ha => ⟨_, rfl, fun hnone => ?_, fun hlive hended => ?_, fun hlive hfree => ?_⟩,
    fun hstate hlow => execContactorOpen_opens hstate hlow, fun hstate hdue => execForcedOpen_opens hstate hdue,
    fun hstate hopen hdue => execWeldingCheck_checks hstate hopen hdue⟩
  · refine State.endSession_ends_open _ _ ((s.sesLive_iff o).2 ?_) hfree hopen
    rcases hstate with h | h | h <;> rw [h] <;> decide
  · rw [State.sesState_eq, State.sess_enter_same]
  all_goals
    have hlive' : (s.taken h).sesLive o = s.sesLive o := State.sesLive_congr (congrArg Sess.state (s.sess_taken h o))
  · exact State.clientCommand_unmoved ha (applyStopRequest_none _ (hlive'.trans hnone))
  · exact State.clientCommand_unmoved ha (applyStopRequest_ended _ (hlive'.trans hlive) (by rw [s.sess_taken h, hended]))
  · rw [State.clientCommand_effect ha rfl (applyStopRequest_ends v (hlive'.trans hlive) (by rw [s.sess_taken h, hfree]))]
    have hends := State.endSession_ends v false (hlive'.trans hlive) (by rw [s.sess_taken h, hfree])
    rw [s.sess_taken h] at hends
    exact ⟨State.answerLater_repliesWith .., State.endedBy_congr hends (State.sess_answerLater ..)⟩

end Sys2Proof.Machine
end

section
/-!
PROOFS. The release of an outlet (O32): the session recorded (R188, R189), the coupler released, and a client's reset and enabling of the
outlet (R163, R186).
-/
namespace Sys2Proof.Machine
open Sys2Proof

/-! ### What leaves the outlets alone -/

/-- The outlets are a reading that the latch of a packet does not move. -/
theorem State.outlets_blind : PacketBlind State.outlets :=
  ⟨fun _ _ _ _ => rfl, fun _ _ => rfl, fun _ _ => rfl, fun _ _ => rfl, fun _ _ => rfl, fun _ _ => rfl, fun _ _ _ => rfl⟩

theorem State.streamLog_outlets (s : State) (kind : Nat) (r : List Byte) : (s.streamLog kind r).outlets = s.outlets := by
  unfold State.streamLog
  dsimp only
  split
  · unfold State.holdRecord
    split
    · rfl
    · rfl
  · obtain ⟨x, c, w, e, f, h⟩ := s.streamRecord_eq 2 (leBytes 1 kind ++ [0#8] ++ leBytes 2 r.length ++ r)
    rw [h]

theorem State.signRecord_outlets (s : State) (u : Unsigned) : (s.signRecord u).outlets = s.outlets := by
  unfold State.signRecord
  dsimp only
  rw [State.raise_blind State.outlets_blind, State.when_keeps _ _ _ State.outlets fun z => State.bump_blind State.outlets_blind rfl z 0 0 1,
    State.setNat_blind State.outlets_blind rfl, State.setNat_blind State.outlets_blind rfl, State.streamLog_outlets]

theorem State.signSession_outlets (s : State) (o : Nat) : (s.signSession o).outlets = s.outlets := by
  unfold State.signSession State.issueRecord
  dsimp only
  split
  · rfl
  split
  · exact State.signRecord_outlets ..
  · rfl

theorem State.releaseModules_outlets (s : State) (o : Nat) : (s.releaseModules o).outlets = s.outlets := by
  have hset (z : State) (e : Entry) (m v : Nat) : (z.setNat e m v).outlets = z.outlets := State.put_outlets ..
  refine State.each_keeps _ _ _ State.outlets fun z m => ?_
  split
  · exact hset ..
  · exact (hset ..).trans (hset ..)

/-! ### The session recorded -/

/-- The record of the session goes to the head of the session log (R189). -/
theorem State.logSession_outlets (s : State) (o : Nat) :
    (s.logSession o).outlets = { s.outlets with
      log := ((nextSeq ((s.outlets.log.head?.map Prod.fst).getD 0), s.sessionRecord o) :: s.outlets.log).take 8192 } := by
  unfold State.logSession
  dsimp only
  rw [State.setNat_blind State.outlets_blind rfl, State.setNat_blind State.outlets_blind rfl, State.streamLog_outlets]

/-- The state in which the session's record is made (R189): the coupler's lock off, a stop that was asked for answered. -/
def State.lockOff (s : State) (o : Nat) : State :=
  let z := s.lcCommand (s.nat Ent.LOCK_CHANNEL o) false
  if (s.sess o).stopAsked then z.toVehicle o Req.SESSION_STOP 0 0 [] else z

theorem State.lockOff_sess (s : State) (o : Nat) : (s.lockOff o).sess o = s.sess o := by
  have hlock : (s.lcCommand (s.nat Ent.LOCK_CHANNEL o) false).sess o = s.sess o :=
    State.lcCommand_keeps (fun z => z.sess o) (fun _ _ => rfl) ..
  unfold State.lockOff
  dsimp only
  split
  · exact (State.sess_toVehicle ..).trans hlock
  · exact hlock

theorem execReleaseLockOff_due {s : State} {o : Fin 8} (hstate : s.sesState o = Ses.RELEASE) (hended : (s.sess o).ended = true)
    (hopen : (s.sess o).recorded = false) (hlow : s.oVolts o < 60) :
    execReleaseLockOff o s = .next (((((s.lockOff o).logSession o).signSession o).setSess o
      { (s.lockOff o).sess o with recorded := true }).releaseModules o) :=
  if_pos (by rw [hstate, hended, hopen, decide_eq_true hlow]; rfl)

theorem execReleaseLockOff_records {s : State} {o : Fin 8} (hstate : s.sesState o = Ses.RELEASE) (hended : (s.sess o).ended = true)
    (hopen : (s.sess o).recorded = false) (hlow : s.oVolts o < 60) :
    ∃ t, execReleaseLockOff o s = .next t ∧ (t.sess o).recorded = true ∧ t.sesState o = Ses.RELEASE ∧
      t.outlets.log.head?.map Prod.snd = some ((s.lockOff o).sessionRecord o) := by
  refine ⟨_, execReleaseLockOff_due hstate hended hopen hlow, ?_⟩
  generalize hz : State.setSess _ _ _ = z
  have hsess : (z.releaseModules o).sess o = { s.sess o with recorded := true } := by
    rw [State.sess_congr (z.releaseModules_outlets o), ← hz, State.sess_setSess_same, State.lockOff_sess]
  have hlog : z.outlets.log = (((s.lockOff o).logSession o).signSession o).outlets.log := by
    rw [← hz]
    rfl
  refine ⟨congrArg Sess.recorded hsess, (congrArg Sess.state hsess).trans hstate, ?_⟩
  rw [State.releaseModules_outlets, hlog, State.signSession_outlets, State.logSession_outlets, List.head?_take]
  rfl

/-! ### The coupler released -/

theorem execCouplerReleased_recorded {s : State} {o : Fin 8} (hstate : s.sesState o = Ses.RELEASE) (hrecorded : (s.sess o).recorded = true)
    (hopen : frames20 ≤ (s.line o).open_) :
    execCouplerReleased o s = .next (((s.closeLink o).setSess o { s.sess o with stopAsked := false }).enter o
      (if (s.sess o).faultAfter then Ses.FAULTED else if s.unavailableCause o then Ses.UNAVAILABLE else Ses.IDLE)) :=
  (if_neg (not_lt.2 hopen)).trans (if_pos (by rw [hstate, hrecorded]; rfl))

theorem State.closeLink_setSess_enter_frame (s : State) (o st : Nat) (k : Sess) :
    { ((s.closeLink o).setSess o k).enter o st with outlets := s.outlets } = s := by
  simp only [State.enter, State.setSess, State.closeLink, State.setLine]

/-- The connection ends with the session, whatever the outlet enters. -/
theorem State.linked_closeLink_enter (s : State) (o st : Nat) (k : Sess) :
    (((s.closeLink o).setSess o k).enter o st).linked o = false := by
  have hline : (((s.closeLink o).setSess o k).enter o st).line o = (s.closeLink o).line o := rfl
  rw [State.linked, hline, State.closeLink, State.line_setLine_same]
  rfl

theorem execCouplerReleased_available {s : State} {o : Fin 8} (hstate : s.sesState o = Ses.UNAVAILABLE) (hcause : s.unavailableCause o = false)
    (hopen : frames20 ≤ (s.line o).open_) : execCouplerReleased o s = .next (s.enter o Ses.IDLE) := by
  refine (if_neg (not_lt.2 hopen)).trans ((if_neg ?_).trans (if_pos ?_))
  · rw [hstate]
    exact Bool.false_ne_true
  · rw [hstate, hcause]
    rfl

/-! ### An outlet UNAVAILABLE and available -/

theorem State.refreshOutlet_keeps {β : Type} (g : State → β) (hsess : ∀ (z : State) l, g { z with outlets := { z.outlets with sess := l } } = g z)
    (s : State) (o : Nat) : g (s.refreshOutlet o) = g s := by
  unfold State.refreshOutlet
  dsimp only
  split
  · exact hsess ..
  split
  · exact hsess ..
  · rfl

theorem State.refreshOutlet_idle {s : State} {o : Nat} (h : s.sesState o = Ses.IDLE) :
    (s.refreshOutlet o).sesState o = if s.unavailableCause o then Ses.UNAVAILABLE else Ses.IDLE := by
  unfold State.refreshOutlet
  rw [h]
  cases s.unavailableCause o
  · exact h
  · exact congrArg Sess.state (State.sess_enter_same ..)

/-- The outlets change with their resources only while no session stands there. -/
theorem State.refreshOutlet_session {s : State} {o : Nat} (hidle : s.sesState o ≠ Ses.IDLE) (hun : s.sesState o ≠ Ses.UNAVAILABLE) :
    s.refreshOutlet o = s := by
  simp [State.refreshOutlet, hidle, hun]

theorem State.unavailableCause_enter (s : State) (o p st : Nat) : (s.enter p st).unavailableCause o = s.unavailableCause o := rfl

/-- The tag a write takes is no cause of an outlet's being UNAVAILABLE. -/
theorem State.unavailableCause_taken (s : State) (h : Held) (o : Nat) : (s.taken h).unavailableCause o = s.unavailableCause o := by
  have hnat (e : Entry) (he : 0x1031 ≤ e.base) (n : Nat) : (s.taken h).nat e n = s.nat e n := s.nat_taken_of_base h he n
  have hflag (e : Entry) (he : 0x1031 ≤ e.base) (n : Nat) : (s.taken h).flag e n = s.flag e n := by
    rw [State.flag_def, State.flag_def, s.val_taken_of_base h he n]
  have hmeas : (s.taken h).meas = s.meas := State.taken_keeps State.meas (fun _ _ _ _ => rfl) s h
  simp only [State.unavailableCause, State.outletCalibrating, hmeas, State.taken_outlets, hflag Ent.OUTLET_ENABLE (by decide),
    hflag Ent.MCH_LEGAL (by decide), hnat Ent.VOLTAGE_MCH (by decide), hnat Ent.CURRENT_MCH (by decide), hnat Ent.CONFIRM_MCH (by decide),
    hnat Ent.IMD_MCH (by decide), hnat Ent.DEVICE_STATE (by decide)]

theorem State.band_taken (s : State) (h : Held) (o : Nat) : (s.taken h).band o = s.band o := by
  have hnat (e : Entry) (he : 0x1031 ≤ e.base) (n : Nat) : (s.taken h).nat e n = s.nat e n := s.nat_taken_of_base h he n
  have hchan (n : Nat) : (s.taken h).chan n = s.chan n := by rw [State.chan, State.chan, State.rat, State.rat, hnat _ (by decide)]
  rw [State.band, State.band, hnat Ent.CONFIRM_MCH (by decide), hnat Ent.CONFIRM_OPEN (by decide), hnat Ent.CONFIRM_LOW (by decide),
    hnat Ent.CONFIRM_HIGH (by decide), hchan]

theorem State.outletResourcesOk_taken (s : State) (h : Held) (o : Nat) : (s.taken h).outletResourcesOk o = s.outletResourcesOk o := by
  have hnat (e : Entry) (he : 0x1031 ≤ e.base) (n : Nat) : (s.taken h).nat e n = s.nat e n := s.nat_taken_of_base h he n
  have hflag (n : Nat) : (s.taken h).flag Ent.OUTLET_ENABLE n = s.flag Ent.OUTLET_ENABLE n := by
    rw [State.flag_def, State.flag_def, s.val_taken_of_base h (by decide) n]
  have hresources : (resourcesOf fun e n => (s.taken h).nat e n) = resourcesOf fun e n => s.nat e n := by
    funext p
    simp only [resourcesOf, hnat Ent.CONTACTOR_CHANNEL (by decide), hnat Ent.LOCK_CHANNEL (by decide), hnat Ent.CONFIRM_MCH (by decide),
      hnat Ent.VOLTAGE_MCH (by decide), hnat Ent.CURRENT_MCH (by decide), hnat Ent.IMD_MCH (by decide)]
  unfold State.outletResourcesOk
  rw [hresources]
  simp only [hflag]

/-! ### A client's reset of an outlet -/

theorem applyOutletReset_refused {s : State} {o : Nat}
    (h : s.sesState o ≠ Ses.FAULTED ∨ s.band o ≠ 0 ∨ (s.lcs (s.nat Ent.CONTACTOR_CHANNEL o)).weld = true) :
    applyOutletReset o s = (s, St.CONFLICT) := by
  refine if_neg fun hall => ?_
  simp only [Bool.and_eq_true, beq_iff_eq, Bool.not_eq_true'] at hall
  obtain ⟨⟨hfaulted, hband⟩, hweld⟩ := hall
  rcases h with h | h | h
  · exact h hfaulted
  · exact h hband
  · exact Bool.false_ne_true (hweld.symm.trans h)

theorem applyOutletReset_faulted {s : State} {o : Nat} (hstate : s.sesState o = Ses.FAULTED) (hband : s.band o = 0)
    (hweld : (s.lcs (s.nat Ent.CONTACTOR_CHANNEL o)).weld = false) :
    applyOutletReset o s = ((s.enter o Ses.IDLE).refreshOutlet o, St.OK) :=
  if_pos (by rw [hstate, hband, hweld]; rfl)

section Writes
variable {s : State} {c : Client} {o : Fin 8} {v : Nat} {h : Held}

theorem execOutletReset_answers (ha : s.accepts c Ent.OUTLET_RESET o (.num v) h) :
    (s.sesState o ≠ Ses.FAULTED ∨ s.band o ≠ 0 ∨ (s.lcs (s.nat Ent.CONTACTOR_CHANNEL o)).weld = true →
      ∃ t, execOutletReset c o v s = .next t ∧ t.repliesWith h St.CONFLICT ∧ t.outlets = s.outlets) ∧
    (s.sesState o = Ses.FAULTED → s.band o = 0 → (s.lcs (s.nat Ent.CONTACTOR_CHANNEL o)).weld = false →
      ∃ t, execOutletReset c o v s = .next t ∧ t.repliesWith h St.OK ∧
        t.sesState o = (if s.unavailableCause o then Ses.UNAVAILABLE else Ses.IDLE)) := by
  have hstate : (s.taken h).sesState o = s.sesState o := congrArg Sess.state (s.sess_taken h o)
  have hband : (s.taken h).band o = s.band o := s.band_taken h o
  have hlcs : (s.taken h).lcs ((s.taken h).nat Ent.CONTACTOR_CHANNEL o) = s.lcs (s.nat Ent.CONTACTOR_CHANNEL o) := by
    rw [s.nat_taken_of_base h (by decide), State.lcs, s.taken_lc h]
    rfl
  refine ⟨fun hrefused => ⟨_, rfl, State.clientCommand_unmoved ha (applyOutletReset_refused (by rwa [hstate, hband, hlcs]))⟩,
    fun hfaulted hopen hweld => ⟨_, rfl, ?_⟩⟩
  rw [State.clientCommand_effect ha rfl (applyOutletReset_faulted (hstate.trans hfaulted) (hband.trans hopen)
    ((congrArg LcSt.weld hlcs).trans hweld))]
  have hidle := State.refreshOutlet_idle (s := (s.taken h).enter o Ses.IDLE) (o := o) (congrArg Sess.state (State.sess_enter_same ..))
  rw [State.unavailableCause_enter, State.unavailableCause_taken] at hidle
  exact ⟨State.answerLater_repliesWith .., (congrArg Sess.state (State.sess_answerLater ..)).trans hidle⟩

/-! ### A client's enabling of an outlet -/

theorem applyOutletEnable_refused {s : State} {o v : Nat} (hv : v ≠ 0) (hnone : s.outletResourcesOk o = false) :
    applyOutletEnable o v s = (s, St.CONFLICT) :=
  if_pos (by simp [hv, hnone])

theorem applyOutletEnable_taken {s : State} {o v : Nat} (hv : v ≠ 0 → s.outletResourcesOk o = true) :
    applyOutletEnable o v s = ((s.setInt Ent.OUTLET_ENABLE o v).refreshOutlet o, St.OK) := by
  refine if_neg ?_
  by_cases hzero : v = 0
  · simp [hzero]
  · simp [hv hzero]

theorem State.refreshOutlet_setInt_nat (s : State) (o v : Nat) :
    ((s.setInt Ent.OUTLET_ENABLE o v).refreshOutlet o).nat Ent.OUTLET_ENABLE o = v :=
  (State.refreshOutlet_keeps (fun z => z.nat Ent.OUTLET_ENABLE o) (fun _ _ => rfl) ..).trans (State.nat_setNat_same ..)

/-- An idle outlet not enabled becomes UNAVAILABLE (R163). -/
theorem State.refreshOutlet_disabled {s : State} {o : Nat} (h : s.sesState o = Ses.IDLE) :
    ((s.setInt Ent.OUTLET_ENABLE o 0).refreshOutlet o).sesState o = Ses.UNAVAILABLE := by
  have hflag : (s.setInt Ent.OUTLET_ENABLE o 0).flag Ent.OUTLET_ENABLE o = false := by
    rw [State.flag, State.int_setInt_same]
    rfl
  have hidle : (s.setInt Ent.OUTLET_ENABLE o 0).sesState o = Ses.IDLE := (congrArg Sess.state (State.sess_put ..)).trans h
  rw [State.refreshOutlet_idle hidle, State.unavailableCause, hflag]
  rfl

theorem execOutletEnable_answers (ha : s.accepts c Ent.OUTLET_ENABLE o (.num v) h) :
    (v = 0 → ∃ t, execOutletEnable c o v s = .next t ∧ t.repliesWith h St.OK ∧ t.nat Ent.OUTLET_ENABLE o = 0 ∧
      (s.sesState o = Ses.IDLE → t.sesState o = Ses.UNAVAILABLE)) ∧
    (v ≠ 0 → s.outletResourcesOk o = true →
      ∃ t, execOutletEnable c o v s = .next t ∧ t.repliesWith h St.OK ∧ t.nat Ent.OUTLET_ENABLE o = v) ∧
    (v ≠ 0 → s.outletResourcesOk o = false →
      ∃ t, execOutletEnable c o v s = .next t ∧ t.repliesWith h St.CONFLICT ∧ t.actSet = s.actSet) := by
  have hok : (s.taken h).outletResourcesOk o = s.outletResourcesOk o := s.outletResourcesOk_taken h o
  have htaken (hv : v ≠ 0 → s.outletResourcesOk o = true) := State.clientCommand_effect ha rfl
    (applyOutletEnable_taken (s := s.taken h) (o := o) (v := v) fun hne => hok.trans (hv hne))
  have henable : (((s.taken h).setInt Ent.OUTLET_ENABLE o v).refreshOutlet o).nat Ent.OUTLET_ENABLE o = v :=
    State.refreshOutlet_setInt_nat ..
  refine ⟨fun hzero => ⟨_, rfl, ?_⟩, fun hne hres => ⟨_, rfl, ?_⟩, fun hne hres => ⟨_, rfl, ?_⟩⟩
  · rw [htaken (fun hne => absurd hzero hne)]
    refine ⟨State.answerLater_repliesWith .., ((State.nat_answerLater ..).trans henable).trans hzero, fun hidle => ?_⟩
    subst hzero
    exact (congrArg Sess.state (State.sess_answerLater ..)).trans (State.refreshOutlet_disabled ((congrArg Sess.state (s.sess_taken h o)).trans hidle))
  · rw [htaken (fun _ => hres)]
    exact ⟨State.answerLater_repliesWith .., (State.nat_answerLater ..).trans henable⟩
  · rw [State.clientCommand_effect ha rfl (applyOutletEnable_refused hne (hok.trans hres))]
    exact ⟨State.answerLater_repliesWith .., s.taken_actSet h⟩

end Writes

end Sys2Proof.Machine
end

section
/-!
PROOFS. The emergency stop (O32): latched (R185), the contactors opened by the halves' stores, released and reset (R186 and the text after
Table 7-9).
-/
namespace Sys2Proof.Machine
open Sys2Proof

/-! ### A channel's output decided anew -/

/-- A decision of a channel's output (R389) may cancel a test of it, and writes its record and LC_STATE; the mark of the emergency stop on
the record stays. -/
theorem State.lcUpdate_writes (s : State) (c : Nat) : ∃ (b : Bool) (k : LcSt) (v : Nat),
    s.lcUpdate c = ((s.when b (fun z => z.cancelLcTest c)).setLc c k).setNat Ent.LC_STATE c v ∧ k.estop = (s.lcs c).estop := by
  unfold State.lcUpdate State.when
  dsimp only
  split
  · exact ⟨false, _, _, rfl, rfl⟩
  · exact ⟨_, _, _, rfl, rfl⟩

section LcKeeps
variable {β : Type} (g : State → β) (hlc : ∀ (z : State) l, g { z with lc := l } = g z)
  (hstate : ∀ (z : State) c v, g (z.put Ent.LC_STATE c 0 v) = g z) (hresult : ∀ (z : State) c v, g (z.put Ent.LC_TEST_RESULT c 0 v) = g z)
  (hraise : ∀ (z : State) k i p q, g (z.raise k i p q) = g z) (hrunning : ∀ (z : State) r, g { z with running := r } = g z)
include hlc hstate hresult hraise hrunning

theorem State.lcUpdate_keeps (s : State) (c : Nat) : g (s.lcUpdate c) = g s := by
  obtain ⟨b, k, v, hwrites, -⟩ := s.lcUpdate_writes c
  rw [hwrites]
  refine (hstate ..).trans ((hlc ..).trans (State.when_keeps _ _ _ g fun z => ?_))
  unfold State.cancelLcTest
  split
  · exact (hraise ..).trans ((hresult ..).trans (State.endTest_keeps g hraise hrunning ..))
  · rfl

end LcKeeps

/-- The mark of the emergency stop on a channel is no matter of its output. -/
theorem State.lcUpdate_estop (s : State) (c d : Nat) : ((s.lcUpdate c).lcs d).estop = (s.lcs d).estop := by
  obtain ⟨b, k, v, hwrites, hk⟩ := s.lcUpdate_writes c
  have hcancel : ((s.when b (fun z => z.cancelLcTest c)).lcs d) = s.lcs d :=
    State.lcs_of_loadSide (State.when_keeps _ _ _ State.loadSide fun z => z.cancelLcTest_loadSide c) d
  rw [hwrites, State.setNat_eq, State.lcs_put]
  by_cases hd : d = c
  · subst hd
    rw [State.lcs_setLc_same, hk]
  · rw [State.lcs_setLc_ne _ _ hd, hcancel]

/-! ### What the emergency stop is -/

/-- The emergency stop: its input, its latch, its times, and what ESTOP_STATE shows. -/
def State.stopSide (s : State) : Bool × Bool × Option Nat × Option Nat × Option Nat × Val :=
  (s.outlets.estopLow, s.outlets.estopLatched, s.outlets.estopHighAt, s.outlets.estopOpenA, s.outlets.estopOpenB, s.val Ent.ESTOP_STATE)

theorem State.stopSide_eq_iff {s t : State} : t.stopSide = s.stopSide ↔
    t.outlets.estopLow = s.outlets.estopLow ∧ t.outlets.estopLatched = s.outlets.estopLatched ∧
      t.outlets.estopHighAt = s.outlets.estopHighAt ∧ t.outlets.estopOpenA = s.outlets.estopOpenA ∧
      t.outlets.estopOpenB = s.outlets.estopOpenB ∧ t.val Ent.ESTOP_STATE = s.val Ent.ESTOP_STATE := by
  simp only [State.stopSide, Prod.mk.injEq]

theorem State.put_stopSide (s : State) {e : Entry} (n : Nat) (v : Val) (h : Ent.ESTOP_STATE.key ≠ e.key n) :
    (s.put e n 0 v).stopSide = s.stopSide := by
  simp only [State.stopSide, State.put_outlets, State.val_put_ne _ _ _ _ _ _ _ _ h]

theorem State.raise_stopSide (s : State) (k : EvKind) (i p q : Nat) : (s.raise k i p q).stopSide = s.stopSide := by
  simp only [State.stopSide, State.raise_eq, State.raiseWith_outlets, State.val_raiseWith]

theorem State.lcUpdate_stopSide (s : State) (c : Nat) : (s.lcUpdate c).stopSide = s.stopSide :=
  State.lcUpdate_keeps State.stopSide (fun _ _ => rfl)
    (fun z d v => z.put_stopSide d v (Entry.key_ne_of_base (e := Ent.LC_STATE) (n := d) ⟨by decide, by decide⟩).symm)
    (fun z d v => z.put_stopSide d v (Entry.key_ne_of_sub (by decide) 0 d)) State.raise_stopSide (fun _ _ => rfl) s c

theorem State.refreshOutlet_stopSide (s : State) (o : Nat) : (s.refreshOutlet o).stopSide = s.stopSide :=
  State.refreshOutlet_keeps State.stopSide (fun _ _ => rfl) s o

theorem State.endSession_stopSide (s : State) (o reason : Nat) (fast : Bool) : (s.endSession o reason fast).stopSide = s.stopSide :=
  State.endSession_keeps State.stopSide (fun _ _ => rfl) (fun _ _ _ _ => rfl) o
    (fun z v => z.put_stopSide o v (Entry.key_ne_of_sub (by decide) 0 o)) s reason fast

/-! ### The stop latched -/

/-- The session ended by the emergency stop, its contactor to open within FORCED_OPEN_DELAY. -/
def State.stopped (s : State) (o : Nat) : Prop := s.endedBy o End.EMERGENCY_STOP Ses.STOPPING ∧ (s.sess o).fast = true

theorem State.stopped_congr {s t : State} {o : Nat} (hs : s.stopped o) (h : t.sess o = s.sess o) : t.stopped o :=
  ⟨State.endedBy_congr hs.1 h, (congrArg Sess.fast h).trans hs.2⟩

theorem State.endSession_stopped {s : State} {o : Nat} (hlive : s.sesLive o = true) (hfree : (s.sess o).committed = false)
    (hclosed : (s.sess o).closed = true) : (s.endSession o End.EMERGENCY_STOP true).stopped o := by
  refine ⟨State.endSession_ends_closed _ _ hlive hfree hclosed, ?_⟩
  rw [State.sess_endSession_first _ _ hlive hfree, Sess.endedFor, hclosed]
  rfl

/-- A further source adds at most its reason to an end that is fast already (R183). -/
theorem State.stopped_endSession {s : State} {o : Nat} (h : s.stopped o) (p reason : Nat) (fast : Bool) :
    (s.endSession p reason fast).stopped o := by
  by_cases hp : o = p
  · subst hp
    obtain ⟨⟨hcommitted, hreason, hstate⟩, hfast⟩ := h
    have hend : s.endSession o reason fast = if (s.sess o).secondary == 0xFF && !(s.sess o).recorded then
        s.setSess o { s.sess o with secondary := reason } else s := by
      simp only [State.endSession, State.sesLive_of_state hstate (by decide), hcommitted, hfast, Bool.not_true, Bool.and_false, Bool.false_and,
        Bool.false_eq_true, if_false, if_true]
    have hsess : ∃ n, (s.endSession o reason fast).sess o = { s.sess o with secondary := n } := by
      rw [hend]
      split
      · exact ⟨reason, State.sess_setSess_same ..⟩
      · exact ⟨(s.sess o).secondary, rfl⟩
    obtain ⟨n, hn⟩ := hsess
    rw [State.stopped, State.endedBy, State.sesState_eq, hn]
    exact ⟨⟨hcommitted, hreason, hstate⟩, hfast⟩
  · exact State.stopped_congr h (State.sess_endSession_ne _ _ _ hp)

theorem State.stopped_refreshOutlet {s : State} {o : Nat} (h : s.stopped o) (p : Nat) : (s.refreshOutlet p).stopped o := by
  by_cases hp : o = p
  · subst hp
    have hstate : s.sesState o = Ses.STOPPING := h.1.2.2
    rwa [State.refreshOutlet_session (by rw [hstate]; decide) (by rw [hstate]; decide)]
  · refine State.stopped_congr h ?_
    unfold State.refreshOutlet
    dsimp only
    split
    · exact State.sess_enter_ne _ _ hp
    split
    · exact State.sess_enter_ne _ _ hp
    · rfl

/-- The stop latched and raised, before the sessions hear of it (R185). -/
def State.stopRaised (s : State) : State :=
  (({ s with outlets := { s.outlets with estopLow := true, estopLatched := true, estopHighAt := none
                                         estopOpenA := some (s.ticks + msTicks s.halfA.openDelay)
                                         estopOpenB := some (s.ticks + msTicks s.halfB.openDelay) } } : State).setNat Ent.ESTOP_STATE 0 1).raise
    Evt.EMERGENCY_STOP 8 1 s.sessionMask

theorem State.stopRaised_sess (s : State) (o : Nat) : s.stopRaised.sess o = s.sess o :=
  (State.sess_raiseWith ..).trans (State.sess_put ..)

/-- Every live session ends. -/
def State.stopSessions (s : State) : State :=
  s.stopRaised.each ((List.range 8).filter s.sesLive) fun z o => z.endSession o End.EMERGENCY_STOP true

theorem execEmergencyStop_latches {s : State} (hhigh : s.outlets.estopLow = false) (hrun : 2 ≤ s.outlets.estopRun) :
    execEmergencyStop s = .next (s.stopSessions.each (List.range 8) fun z o => z.refreshOutlet o) :=
  if_neg (by rw [hhigh, decide_eq_false (not_lt.2 hrun)]; decide)

theorem State.stopSessions_stopped {s : State} {o : Nat} (ho : o < 8) (hlive : s.sesLive o = true) (hfree : (s.sess o).committed = false)
    (hclosed : (s.sess o).closed = true) : s.stopSessions.stopped o := by
  have hat (z : State) (hz : z.sess o = s.sess o ∨ z.stopped o) : (z.endSession o End.EMERGENCY_STOP true).stopped o := by
    rcases hz with hz | hz
    · exact State.endSession_stopped ((State.sesLive_congr (congrArg Sess.state hz)).trans hlive) ((congrArg Sess.committed hz).trans hfree)
        ((congrArg Sess.closed hz).trans hclosed)
    · exact State.stopped_endSession hz o _ _
  refine State.each_reaches_of_mem (fun z => z.stopped o) (fun z => z.sess o = s.sess o ∨ z.stopped o)
    (List.mem_filter.2 ⟨List.mem_range.2 ho, hlive⟩) (.inl (s.stopRaised_sess o)) (fun z p _ hz => ?_)
    (fun z p _ hz => State.stopped_endSession hz p _ _) hat
  by_cases hp : o = p
  · subst hp
    exact .inr (hat z hz)
  · exact hz.imp (State.sess_endSession_ne _ _ _ hp).trans fun h => State.stopped_endSession h p _ _

/-- The stop latched (R185): its record and event are those raised at first, and each live session whose contactor is closed stops. -/
theorem execEmergencyStop_stops {s : State} (hhigh : s.outlets.estopLow = false) (hrun : 2 ≤ s.outlets.estopRun) :
    ∃ t, execEmergencyStop s = .next t ∧ t.outlets.estopLow = true ∧ t.outlets.estopLatched = true ∧
      t.outlets.estopOpenA = some (s.ticks + msTicks s.halfA.openDelay) ∧
      t.outlets.estopOpenB = some (s.ticks + msTicks s.halfB.openDelay) ∧ t.nat Ent.ESTOP_STATE = 1 ∧
      s.raised t Evt.EMERGENCY_STOP 8 1 s.sessionMask ∧
      (∀ o, o < 8 → s.sesLive o = true → (s.sess o).committed = false → (s.sess o).closed = true →
        t.endedBy o End.EMERGENCY_STOP Ses.STOPPING ∧ (t.sess o).fast = true) := by
  refine ⟨_, execEmergencyStop_latches hhigh hrun, ?_⟩
  generalize ht : State.each _ _ _ = t
  have hside : t.stopSide = s.stopRaised.stopSide := by
    rw [← ht, State.each_keeps _ _ _ State.stopSide State.refreshOutlet_stopSide]
    exact State.each_keeps _ _ _ State.stopSide fun z o => z.endSession_stopSide o _ _
  have hraised : s.stopRaised.outlets = { s.outlets with
      estopLow := true, estopLatched := true, estopHighAt := none, estopOpenA := some (s.ticks + msTicks s.halfA.openDelay),
      estopOpenB := some (s.ticks + msTicks s.halfB.openDelay) } :=
    (State.raiseWith_outlets ..).trans (State.put_outlets ..)
  have hev : t.ev = s.stopRaised.ev := by
    rw [← ht, State.each_keeps _ _ _ State.ev (State.refreshOutlet_keeps State.ev fun _ _ => rfl)]
    exact State.each_keeps _ _ _ State.ev fun z o => z.endSession_ev o _ _
  have hshown : s.stopRaised.nat Ent.ESTOP_STATE = 1 := (State.nat_raise ..).trans (State.nat_setNat_same ..)
  obtain ⟨hlow, hlatched, -, hopenA, hopenB, hstate⟩ := State.stopSide_eq_iff.1 hside
  rw [hraised] at hlow hlatched hopenA hopenB
  refine ⟨hlow, hlatched, hopenA, hopenB, (State.nat_congr hstate).trans hshown,
    State.raised_congr (State.raised_of_raise ?_ ?_ ?_ ?_) hev, fun o ho hlive hfree hclosed => ?_⟩
  · exact State.put_ev ..
  · exact State.put_sfn ..
  · exact State.put_cycle ..
  · exact State.put_time ..
  · rw [← ht]
    exact State.each_inv _ _ _ (fun z => z.stopped o) (State.stopSessions_stopped ho hlive hfree hclosed)
      fun z p hz => State.stopped_refreshOutlet hz p

/-! ### The contactors opened by the halves -/

/-- A channel that the store of its half names as a contactor, opened at the half's time (R185). -/
def State.openByStop (s : State) (c : Nat) : State :=
  (s.setLc c (if s.outlets.estopLatched then { s.lcs c with estop := true } else { s.lcs c with cmd := false })).lcUpdate c

theorem State.estopOpen_ok {s : State} {h : Nat} (hok : s.pwOk h = true) :
    s.estopOpen h = s.each ((s.half h).store.filter fun i => i.kind == 1) fun z i => z.openByStop i.ch :=
  if_neg (by simp [hok])

theorem State.openByStop_outlets (s : State) (c : Nat) : (s.openByStop c).outlets = s.outlets :=
  State.lcUpdate_blind State.outlets_blind ..

theorem State.openByStop_half (s : State) (c h : Nat) : (s.openByStop c).half h = s.half h := by
  have hpower : (s.openByStop c).powerSide = s.powerSide := (State.lcUpdate_powerSide ..).trans (State.setLc_powerSide ..)
  obtain ⟨-, hA, hB, -⟩ := State.powerSide_eq_iff.1 hpower
  rw [State.half, State.half, hA, hB]

theorem State.openByStop_pwOk (s : State) (c h : Nat) : (s.openByStop c).pwOk h = s.pwOk h := by
  have hdie : (s.openByStop c).die = s.die := (State.lcUpdate_die ..).trans (State.setLc_die ..)
  rw [State.pwOk, State.pwOk, hdie]

theorem State.openByStop_estop_same {s : State} (hlatched : s.outlets.estopLatched = true) (c : Nat) :
    ((s.openByStop c).lcs c).estop = true := by
  rw [State.openByStop, State.lcUpdate_estop, State.lcs_setLc_same, if_pos hlatched]

theorem State.openByStop_estop {s : State} (hlatched : s.outlets.estopLatched = true) (c : Nat) {d : Nat}
    (h : (s.lcs d).estop = true) : ((s.openByStop c).lcs d).estop = true := by
  by_cases hd : d = c
  · subst hd
    exact State.openByStop_estop_same hlatched d
  · rw [State.openByStop, State.lcUpdate_estop, State.lcs_setLc_ne _ _ hd, h]

/-- What no opening of a channel changes, no half changes as it opens its own. -/
theorem State.estopOpen_keeps {β : Type} (g : State → β) (hopen : ∀ (z : State) c, g (z.openByStop c) = g z) (s : State) (h : Nat) :
    g (s.estopOpen h) = g s := by
  cases hok : s.pwOk h with
  | false => rw [State.estopOpen, hok]; rfl
  | true => rw [State.estopOpen_ok hok]; exact State.each_keeps _ _ _ g fun z i => hopen z i.ch

theorem State.estopOpen_outlets (s : State) (h : Nat) : (s.estopOpen h).outlets = s.outlets :=
  State.estopOpen_keeps State.outlets State.openByStop_outlets s h

/-- The emergency stop is latched, and holds the channel open. -/
def State.heldByStop (s : State) (c : Nat) : Prop := s.outlets.estopLatched = true ∧ (s.lcs c).estop = true

theorem State.heldByStop_openByStop {s : State} {c : Nat} (h : s.heldByStop c) (d : Nat) : (s.openByStop d).heldByStop c :=
  ⟨(congrArg OutletsSt.estopLatched (s.openByStop_outlets d)).trans h.1, State.openByStop_estop h.1 d h.2⟩

theorem State.heldByStop_estopOpen {s : State} {c : Nat} (hs : s.heldByStop c) (h : Nat) : (s.estopOpen h).heldByStop c := by
  cases hok : s.pwOk h with
  | false => rw [State.estopOpen, hok]; exact hs
  | true =>
    rw [State.estopOpen_ok hok]
    exact State.each_inv _ _ _ (fun z => z.heldByStop c) hs fun z i hz => State.heldByStop_openByStop hz i.ch

/-- A sound half opens each channel that its store names as a contactor. -/
theorem State.estopOpen_opens {s : State} {h : Nat} {i : FailItem} (hlatched : s.outlets.estopLatched = true) (hok : s.pwOk h = true)
    (hi : i ∈ (s.half h).store) (hkind : i.kind = 1) : (s.estopOpen h).heldByStop i.ch := by
  have hkeep (z : State) (c : Nat) (hz : z.outlets.estopLatched = true) : (z.openByStop c).outlets.estopLatched = true := by
    rw [State.openByStop_outlets, hz]
  rw [State.estopOpen_ok hok]
  exact State.each_reaches_of_mem (fun z => z.heldByStop i.ch) (fun z => z.outlets.estopLatched = true)
    (List.mem_filter.2 ⟨hi, beq_iff_eq.2 hkind⟩) hlatched (fun z j _ hz => hkeep z j.ch hz)
    (fun z j _ hz => State.heldByStop_openByStop hz j.ch) (fun z hz => ⟨hkeep z i.ch hz, State.openByStop_estop_same hz i.ch⟩)

/-- The halves whose times have passed open their channels, each once. -/
def State.stopTimesOver (s : State) (a b : Bool) : State :=
  { s with outlets := { s.outlets with estopOpenA := if a then none else s.outlets.estopOpenA
                                       estopOpenB := if b then none else s.outlets.estopOpenB } }

def State.forcedOpen (s : State) (a b : Bool) : State :=
  ((s.stopTimesOver a b).when a fun z => z.estopOpen 0).when b fun z => z.estopOpen 1

theorem State.forcedOpen_outlets (s : State) (a b : Bool) : (s.forcedOpen a b).outlets = (s.stopTimesOver a b).outlets :=
  (State.when_keeps _ _ _ State.outlets fun z => z.estopOpen_outlets 1).trans
    (State.when_keeps _ _ _ State.outlets fun z => z.estopOpen_outlets 0)

theorem execEstopForcedOpen_eq (s : State) : ∃ a b : Bool, execEstopForcedOpen s = .next (s.forcedOpen a b) ∧
    (∀ x, s.outlets.estopOpenA = some x → x ≤ s.ticks → a = true) ∧ (∀ x, s.outlets.estopOpenB = some x → x ≤ s.ticks → b = true) := by
  refine ⟨_, _, rfl, fun x hx hdue => ?_, fun x hx hdue => ?_⟩
  · rw [hx]
    exact decide_eq_true hdue
  · rw [hx]
    exact decide_eq_true hdue

theorem execEstopForcedOpen_first {s : State} {x : Nat} (hx : s.outlets.estopOpenA = some x) (hdue : x ≤ s.ticks)
    (hlatched : s.outlets.estopLatched = true) :
    ∃ t, execEstopForcedOpen s = .next t ∧ t.outlets.estopOpenA = none ∧
      (s.pwOk 0 = true → ∀ i ∈ s.halfA.store, i.kind = 1 → (t.lcs i.ch).estop = true) := by
  obtain ⟨a, b, hexec, ha, -⟩ := execEstopForcedOpen_eq s
  obtain rfl := ha x hx hdue
  refine ⟨_, hexec, congrArg OutletsSt.estopOpenA (s.forcedOpen_outlets true b), fun hok i hi hkind => ?_⟩
  have hfirst : ((s.stopTimesOver true b).estopOpen 0).heldByStop i.ch := State.estopOpen_opens hlatched hok hi hkind
  cases b with
  | false => exact hfirst.2
  | true => exact (State.heldByStop_estopOpen hfirst 1).2

theorem execEstopForcedOpen_second {s : State} {x : Nat} (hx : s.outlets.estopOpenB = some x) (hdue : x ≤ s.ticks)
    (hlatched : s.outlets.estopLatched = true) :
    ∃ t, execEstopForcedOpen s = .next t ∧ t.outlets.estopOpenB = none ∧
      (s.pwOk 1 = true → ∀ i ∈ s.halfB.store, i.kind = 1 → (t.lcs i.ch).estop = true) := by
  obtain ⟨a, b, hexec, -, hb⟩ := execEstopForcedOpen_eq s
  obtain rfl := hb x hx hdue
  refine ⟨_, hexec, congrArg OutletsSt.estopOpenB (s.forcedOpen_outlets a true), fun hok i hi hkind => ?_⟩
  have hbefore {β : Type} (g : State → β) (hopen : ∀ (z : State) c, g (z.openByStop c) = g z) :
      g ((s.stopTimesOver a true).when a fun z => z.estopOpen 0) = g (s.stopTimesOver a true) :=
    State.when_keeps _ _ _ g fun z => State.estopOpen_keeps g hopen z 0
  refine (State.estopOpen_opens ?_ ?_ ?_ hkind).2
  · exact (congrArg OutletsSt.estopLatched (hbefore State.outlets State.openByStop_outlets)).trans hlatched
  · exact (hbefore (fun z => z.pwOk 1) fun z c => z.openByStop_pwOk c 1).trans hok
  · rw [hbefore (fun z => z.half 1) fun z c => z.openByStop_half c 1]
    exact hi

/-! ### The stop released and reset -/

theorem execEstopRelease_high {s : State} (hlow : s.outlets.estopLow = true) (hrun : s.outlets.estopRun = 0) :
    execEstopRelease s = .next { s with outlets := { s.outlets with estopLow := false, estopHighAt := some s.ticks } } :=
  if_pos (by rw [hlow, hrun]; rfl)

/-- The latch cleared and raised, before channels and outlets come back (R186). -/
def State.stopCleared (s : State) : State :=
  (({ s with outlets := { s.outlets with estopLatched := false, estopHighAt := none } } : State).setNat Ent.ESTOP_STATE 0 0).raise
    Evt.EMERGENCY_STOP 8 0 s.sessionMask

theorem State.clearEstop_stopSide (s : State) : s.clearEstop.stopSide = s.stopCleared.stopSide := by
  refine (State.each_keeps _ _ _ State.stopSide State.refreshOutlet_stopSide).trans (State.each_keeps _ _ _ State.stopSide fun z c => ?_)
  split
  · exact State.lcUpdate_stopSide ..
  · rfl

theorem State.clearEstop_clears (s : State) : s.clearEstop.outlets.estopLatched = false ∧ s.clearEstop.nat Ent.ESTOP_STATE = 0 := by
  obtain ⟨-, hlatched, -, -, -, hstate⟩ := State.stopSide_eq_iff.1 s.clearEstop_stopSide
  have hcleared : s.stopCleared.outlets = { s.outlets with estopLatched := false, estopHighAt := none } :=
    (State.raiseWith_outlets ..).trans (State.put_outlets ..)
  have hshown : s.stopCleared.nat Ent.ESTOP_STATE = 0 := (State.nat_raise ..).trans (State.nat_setNat_same ..)
  exact ⟨hlatched.trans (congrArg OutletsSt.estopLatched hcleared), (State.nat_congr hstate).trans hshown⟩

theorem applyEstopReset_low {s : State} (h : s.outlets.estopLow = true) : applyEstopReset s = (s, St.CONFLICT) := if_pos h

theorem applyEstopReset_none {s : State} (hhigh : s.outlets.estopLow = false) (h : s.outlets.estopLatched = false) :
    applyEstopReset s = (s, St.ALREADY_DONE) :=
  (if_neg (ne_true_of_eq_false hhigh)).trans (if_pos (by rw [h]; rfl))

theorem applyEstopReset_clears {s : State} (hhigh : s.outlets.estopLow = false) (h : s.outlets.estopLatched = true) :
    applyEstopReset s = (s.clearEstop, St.OK) :=
  (if_neg (ne_true_of_eq_false hhigh)).trans (if_neg (by rw [h]; decide))

theorem execEstopReset_answers {s : State} {c : Client} {v : Nat} {h : Held} (ha : s.accepts c Ent.ESTOP_RESET 0 (.num v) h) :
    (s.outlets.estopLow = true →
      ∃ t, execEstopReset c v s = .next t ∧ t.repliesWith h St.CONFLICT ∧ t.outlets = s.outlets) ∧
    (s.outlets.estopLow = false → s.outlets.estopLatched = false →
      ∃ t, execEstopReset c v s = .next t ∧ t.repliesWith h St.ALREADY_DONE ∧ t.outlets = s.outlets) ∧
    (s.outlets.estopLow = false → s.outlets.estopLatched = true →
      ∃ t, execEstopReset c v s = .next t ∧ t.repliesWith h St.OK ∧ t.outlets.estopLatched = false ∧ t.nat Ent.ESTOP_STATE = 0) := by
  have hlow : (s.taken h).outlets.estopLow = s.outlets.estopLow := congrArg OutletsSt.estopLow (s.taken_outlets h)
  have hlatched : (s.taken h).outlets.estopLatched = s.outlets.estopLatched := congrArg OutletsSt.estopLatched (s.taken_outlets h)
  refine ⟨fun h1 => ⟨_, rfl, State.clientCommand_unmoved ha (applyEstopReset_low (hlow.trans h1))⟩,
    fun h1 h2 => ⟨_, rfl, State.clientCommand_unmoved ha (applyEstopReset_none (hlow.trans h1) (hlatched.trans h2))⟩,
    fun h1 h2 => ⟨_, rfl, ?_⟩⟩
  obtain ⟨hcleared, hshown⟩ := (s.taken h).clearEstop_clears
  rw [State.clientCommand_effect ha rfl (applyEstopReset_clears (hlow.trans h1) (hlatched.trans h2))]
  exact ⟨State.answerLater_repliesWith .., (congrArg OutletsSt.estopLatched (State.answerLater_outlets ..)).trans hcleared,
    (State.nat_answerLater ..).trans hshown⟩

theorem execEstopAutoReset_due {s : State} {b : Nat} (hb : s.outlets.estopHighAt = some b) (hauto : s.flag Ent.ESTOP_AUTO_RESET = true)
    (hlatched : s.outlets.estopLatched = true) (hhigh : s.outlets.estopLow = false) (hdue : b + secTicks 1 ≤ s.ticks) :
    execEstopAutoReset s = .next s.clearEstop := by
  unfold execEstopAutoReset
  rw [hb]
  exact if_pos (by rw [hauto, hlatched, hhigh, decide_eq_true hdue]; rfl)

/-- Settles O32: the outlet's release, a client's reset and enabling on the state with the tag taken, and the emergency stop from its
latching to its reset. -/
theorem outletsAreReleasedAndTheEmergencyStopActs : Obligations.OutletsAreReleasedAndTheEmergencyStopActs := by
  intro s
  refine ⟨fun o hstate hended hopen hlow => execReleaseLockOff_records hstate hended hopen hlow,
    fun o hstate hrecorded hopen => ⟨_, execCouplerReleased_recorded hstate hrecorded hopen, ?_, State.linked_closeLink_enter ..,
      State.closeLink_setSess_enter_frame .., congrArg Sess.state (State.sess_enter_same ..)⟩,
    fun o hstate hcause hopen => ⟨_, execCouplerReleased_available hstate hcause hopen, congrArg Sess.state (State.sess_enter_same ..), rfl⟩,
    fun o hclosed => if_pos hclosed, fun c o v h ha => execOutletReset_answers ha, fun c o v h ha => execOutletEnable_answers ha,
    fun hhigh hrun => execEmergencyStop_stops hhigh hrun, fun b hb hdue hlatched => execEstopForcedOpen_first hb hdue hlatched,
    fun b hb hdue hlatched => execEstopForcedOpen_second hb hdue hlatched,
    fun hlow hrun => ⟨_, execEstopRelease_high hlow hrun, rfl, rfl, rfl⟩, fun c v h ha => execEstopReset_answers ha,
    fun b hb hauto hlatched hhigh hdue =>
      ⟨_, execEstopAutoReset_due hb hauto hlatched hhigh hdue, s.clearEstop_clears⟩⟩
  rw [State.sess_enter_same, State.sess_setSess_same]

end Sys2Proof.Machine
end

section
/-!
PROOFS. Loops and cables (O33): what their shown entries leave alone, a saturation reported (R198), a faulted loop reset (R200), a cable
over its trip level (R209) and the coolant's flow (R205).
-/
namespace Sys2Proof.Machine
open Sys2Proof

/-! ### The records of loops and cables -/

@[simp] theorem State.loop_setLoop_same (s : State) (l : Nat) (k : LoopSt) : (s.setLoop l k).loop l = k := Tab.get_set_same ..

@[simp] theorem State.cable_setCable_same (s : State) (o : Nat) (k : CableSt) : (s.setCable o k).cable o = k := Tab.get_set_same ..

@[simp] theorem State.setCable_cells (s : State) (o : Nat) (k : CableSt) : (s.setCable o k).cells = s.cells := rfl

theorem State.loop_congr {s t : State} (h : t.loops = s.loops) (l : Nat) : t.loop l = s.loop l := by rw [State.loop, State.loop, h]

theorem State.cable_congr {s t : State} (h : t.cables = s.cables) (o : Nat) : t.cable o = s.cable o := by rw [State.cable, State.cable, h]

/-- The loop's entries are shown without a change of its record. -/
theorem State.loop_showLoop (s : State) (l m : Nat) : (s.showLoop l).loop m = s.loop m := State.loop_congr rfl m

/-- CABLE_STATUS shown is one write of the own values: the cable's record stays. -/
theorem State.cable_showCable (s : State) (o p : Nat) : (s.showCable o).cable p = s.cable p := State.cable_congr rfl p

theorem State.sess_showCable (s : State) (o p : Nat) : (s.showCable o).sess p = s.sess p := State.sess_congr rfl p

theorem State.cable_raise (s : State) (k : EvKind) (i p q o : Nat) : (s.raise k i p q).cable o = s.cable o :=
  State.cable_congr (State.raiseWith_cables ..) o

theorem State.cellsKept_showCable {s z : State} {keys : List Nat} (hz : s.cellsKept z keys) {o : Nat} (hk : Ent.CABLE_STATUS.key o ∈ keys) :
    s.cellsKept (z.showCable o) keys := State.cellsKept_put hz _ hk

theorem State.nat_showCable_ne (s : State) {e : Entry} (o n : Nat) (h : e.key n ≠ Ent.CABLE_STATUS.key o) :
    (s.showCable o).nat e n = s.nat e n := State.nat_put_ne _ _ h

/-! ### A loop's saturation -/

theorem execLoopSaturated_reports {s : State} {l : Fin 64} (hrun : 1000 ≤ (s.loop l).satFrames) (htold : (s.loop l).told = false) :
    ∃ t, execLoopSaturated l s = .next t ∧ t.loop l = { s.loop l with told := true } ∧
      s.raised t Evt.LOOP_SATURATED l (s.loop l).out (b2n (s.loop l).satHigh) ∧ { t with ev := s.ev, loops := s.loops } = s := by
  refine ⟨_, if_pos (by rw [htold, decide_eq_true hrun]; rfl), ?_, State.raised_of_raise rfl rfl rfl rfl, ?_⟩
  · exact (State.loop_congr (State.raiseWith_loops ..) l).trans (State.loop_setLoop_same ..)
  · rw [State.raise_eq_ev]
    rfl

/-! ### A client's reset of a loop -/

theorem State.loops_taken (s : State) (h : Held) : (s.taken h).loops = s.loops := State.taken_keeps State.loops (fun _ _ _ _ => rfl) s h

theorem applyLoopReset_sound {s : State} {l : Nat} (h : (s.loop l).fault = false) : applyLoopReset l s = (s, St.ALREADY_DONE) :=
  if_pos (by rw [h]; rfl)

/-- The loop as its reset leaves it, with the integrator `i` (R200). -/
def LoopSt.afterReset (k : LoopSt) (i : Nat) : LoopSt :=
  { k with fault := false, s1 := List.replicate 8 0, s2 := List.replicate 8 0, i := i, preset := false }

theorem applyLoopReset_faulted {s : State} {l : Nat} (h : (s.loop l).fault = true) :
    (applyLoopReset l s).2 = St.OK ∧ ∃ i, (applyLoopReset l s).1.loop l = (s.loop l).afterReset i := by
  have hresets : applyLoopReset l s = _ := if_neg (by rw [h]; decide)
  rw [hresets]
  exact ⟨rfl, _, (State.loop_showLoop ..).trans (State.loop_setLoop_same ..)⟩

section Reset
variable {s : State} {c : Client} {l v : Nat} {h : Held} (ha : s.accepts c Ent.LOOP_RESET l (.num v) h)
include ha

theorem execLoopReset_sound (hsound : (s.loop l).fault = false) :
    ∃ t, execLoopReset c l v s = .next t ∧ t.repliesWith h St.ALREADY_DONE ∧ t.loops = s.loops := by
  have hloop : (s.taken h).loop l = s.loop l := State.loop_congr (s.loops_taken h) l
  refine ⟨_, rfl, ?_⟩
  rw [State.clientCommand_effect ha rfl (applyLoopReset_sound ((congrArg LoopSt.fault hloop).trans hsound))]
  exact ⟨State.answerLater_repliesWith .., (State.answerLater_loops ..).trans (s.loops_taken h)⟩

theorem execLoopReset_faulted (hfault : (s.loop l).fault = true) :
    ∃ t, execLoopReset c l v s = .next t ∧ t.repliesWith h St.OK ∧ (t.loop l).fault = false ∧ (t.loop l).s1 = List.replicate 8 0 ∧
      (t.loop l).s2 = List.replicate 8 0 ∧ (t.loop l).out = (s.loop l).out ∧ (t.loop l).preset = false := by
  have hloop : (s.taken h).loop l = s.loop l := State.loop_congr (s.loops_taken h) l
  obtain ⟨hok, i, hreset⟩ := applyLoopReset_faulted ((congrArg LoopSt.fault hloop).trans hfault)
  have hafter (st : Nat) : ((applyLoopReset l (s.taken h)).1.answerLater h st []).loop l = (s.loop l).afterReset i :=
    (State.loop_congr (State.answerLater_loops ..) l).trans (hreset.trans (congrArg (fun k => k.afterReset i) hloop))
  refine ⟨_, rfl, ?_⟩
  rw [State.clientCommand_ok ha hok, hafter]
  exact ⟨State.answerLater_repliesWith .., rfl, rfl, rfl, rfl, rfl⟩

end Reset

/-! ### A cable over its trip level -/

/-- The cable over its trip level at `temp`, of its pin or its conductor (R209): no current allowed, reported and shown. -/
def State.cableTripped (s : State) (o temp : Nat) (pin : Bool) : State :=
  (((s.setCable o { s.cable o with overTemp := true }).setNat Ent.CABLE_CURRENT_LIMIT o 0).raise Evt.CABLE_OVER_TEMP o (deci temp)
    (b2n pin)).showCable o

theorem execCableOverTemp_conductor {s : State} {o : Fin 8} (hcool : (s.cable o).overTemp = false) (hruns : s.cableRuns o = true)
    (hhot : s.rat Ent.CABLE_TRIP_TEMP o < F32.toRat (s.nat Ent.T_COND o)) (hrun : msTicks 20 ≤ (s.cable o).condRun) :
    execCableOverTemp o false s = .next ((s.cableTripped o (s.nat Ent.T_COND o) false).endSession o End.CABLE_OVER_TEMPERATURE false) :=
  if_neg (by simp [hcool, hruns, hhot, hrun])

theorem execCableOverTemp_pin {s : State} {o : Fin 8} {p : Nat} (hcool : (s.cable o).overTemp = false) (hruns : s.cableRuns o = true)
    (hp : (s.cableTemps o).2.2.2 = some p) (hhot : s.rat Ent.PIN_TRIP_TEMP o < F32.toRat p) (hrun : msTicks 10 ≤ (s.cable o).pinRun) :
    execCableOverTemp o true s = .next ((s.cableTripped o p true).endSession o End.CABLE_OVER_TEMPERATURE false) := by
  unfold execCableOverTemp State.cableTripped
  dsimp only
  rw [hp]
  exact if_neg (by simp [hcool, hruns, hhot, hrun])

section Tripped
variable (s : State) (o temp : Nat) (pin : Bool)

theorem State.cable_cableTripped : ((s.cableTripped o temp pin).cable o).overTemp = true := by
  rw [State.cableTripped, State.cable_showCable, State.cable_raise]
  exact congrArg CableSt.overTemp (State.cable_setCable_same ..)

theorem State.cableTripped_limit : (s.cableTripped o temp pin).nat Ent.CABLE_CURRENT_LIMIT o = 0 := by
  rw [State.cableTripped, State.nat_showCable_ne _ _ _ (Entry.key_ne_of_sub (by decide) o o), State.nat_raise, State.nat_setNat_same]

theorem State.cableTripped_raised : s.raised (s.cableTripped o temp pin) Evt.CABLE_OVER_TEMP o (deci temp) (b2n pin) :=
  State.raised_of_raise rfl rfl rfl rfl

theorem State.sess_cableTripped (p : Nat) : (s.cableTripped o temp pin).sess p = s.sess p := by
  rw [State.cableTripped, State.sess_showCable, State.raise_eq, State.sess_raiseWith, State.setNat_eq, State.sess_put]
  rfl

/-- The end of the session leaves the cable's trip standing. -/
theorem State.cableTripped_endSession (reason : Nat) (fast : Bool) :
    let t := (s.cableTripped o temp pin).endSession o reason fast
    (t.cable o).overTemp = true ∧ t.nat Ent.CABLE_CURRENT_LIMIT o = 0 ∧ s.raised t Evt.CABLE_OVER_TEMP o (deci temp) (b2n pin) := by
  have hcable (z : State) : (z.endSession o reason fast).cable o = z.cable o :=
    State.endSession_keeps (fun y => y.cable o) (fun _ _ => rfl) (fun _ _ _ _ => rfl) o (fun _ _ => rfl) ..
  have hlimit (z : State) : (z.endSession o reason fast).nat Ent.CABLE_CURRENT_LIMIT o = z.nat Ent.CABLE_CURRENT_LIMIT o :=
    State.nat_congr (State.val_endSession _ _ _ (Entry.key_ne_of_sub (by decide) o o))
  exact ⟨(congrArg CableSt.overTemp (hcable _)).trans (s.cable_cableTripped o temp pin), (hlimit _).trans (s.cableTripped_limit o temp pin),
    State.raised_congr (s.cableTripped_raised o temp pin) (State.endSession_ev ..)⟩

end Tripped

theorem State.cableTripped_ends {s : State} {o : Nat} (temp : Nat) (pin : Bool) (reason : Nat) (fast : Bool) (hlive : s.sesLive o = true)
    (hfree : (s.sess o).committed = false) :
    ((s.cableTripped o temp pin).endSession o reason fast).endedBy o reason (if (s.sess o).closed then Ses.STOPPING else Ses.RELEASE) := by
  have hsess := s.sess_cableTripped o temp pin o
  rw [← hsess]
  exact State.endSession_ends _ _ ((State.sesLive_congr (congrArg Sess.state hsess)).trans hlive) ((congrArg Sess.committed hsess).trans hfree)

/-! ### The coolant's flow -/

theorem execCoolantFlowLow_due {s : State} {o : Fin 8} {f : Rat} (hf : s.measuredFlow o = some f) (hquiet : (s.cable o).flowLow = false)
    (hlasts : s.lasts5 (s.cable o).pumpAt = true) (hpump : 1 / 5 ≤ s.pumpDuty o) (hlow : f < s.rat Ent.FLOW_MIN o) :
    execCoolantFlowLow o s = .next (((s.setCable o { s.cable o with flowLow := true }).raise Evt.COOLANT_FLOW_LOW o (tenths f)
      (ratRound (s.pumpDuty o * 1000)).toNat).showCable o) := by
  unfold execCoolantFlowLow
  rw [hf]
  exact if_pos (by rw [hquiet, hlasts, decide_eq_true hpump, decide_eq_true hlow]; rfl)

theorem execCoolantFlowLow_reports {s : State} {o : Fin 8} {f : Rat} (hf : s.measuredFlow o = some f) (hquiet : (s.cable o).flowLow = false)
    (hlasts : s.lasts5 (s.cable o).pumpAt = true) (hpump : 1 / 5 ≤ s.pumpDuty o) (hlow : f < s.rat Ent.FLOW_MIN o) :
    ∃ t, execCoolantFlowLow o s = .next t ∧ (t.cable o).flowLow = true ∧
      s.raised t Evt.COOLANT_FLOW_LOW o (tenths f) (ratRound (s.pumpDuty o * 1000)).toNat ∧
      s.cellsKept t [Ent.CABLE_STATUS.key o] ∧ { t with ev := s.ev, cells := s.cells, cables := s.cables } = s := by
  refine ⟨_, execCoolantFlowLow_due hf hquiet hlasts hpump hlow, ?_, State.raised_of_raise rfl rfl rfl rfl,
    State.cellsKept_showCable (State.cellsKept_of_cells (State.raiseWith_cells ..) _) (List.mem_singleton_self _), ?_⟩
  · rw [State.cable_showCable, State.cable_raise, State.cable_setCable_same]
  · rw [State.raise_eq_ev]
    rfl

theorem execCoolantFlowRestored_clears {s : State} {o : Fin 8} {f : Rat} (hf : s.measuredFlow o = some f)
    (hshown : (s.cable o).flowLow = true) (hlasts : s.lasts5 (s.cable o).flowAt = true) (hflow : s.rat Ent.FLOW_MIN o ≤ f) :
    ∃ t, execCoolantFlowRestored o s = .next t ∧ (t.cable o).flowLow = false ∧ s.cellsKept t [Ent.CABLE_STATUS.key o] ∧
      { t with cells := s.cells, cables := s.cables } = s := by
  have hclears : execCoolantFlowRestored o s = .next ((s.setCable o { s.cable o with flowLow := false }).showCable o) := by
    unfold execCoolantFlowRestored
    rw [hf]
    exact if_pos (by rw [hshown, hlasts, decide_eq_true hflow]; rfl)
  refine ⟨_, hclears, ?_, State.cellsKept_showCable (State.cellsKept_of_cells (State.setCable_cells ..) _) (List.mem_singleton_self _), rfl⟩
  rw [State.cable_showCable, State.cable_setCable_same]

/-- Settles O33: the saturation, a client's reset on the state with the tag taken, the cable's trip with the end of its session, and the
coolant's flow. -/
theorem loopsAndCablesReport : Obligations.LoopsAndCablesReport := by
  intro s
  refine ⟨fun l hrun htold => execLoopSaturated_reports hrun htold,
    fun c l v h ha => ⟨execLoopReset_sound ha, execLoopReset_faulted ha⟩,
    fun o hcool hruns => ⟨fun hhot hrun => ⟨_, execCableOverTemp_conductor hcool hruns hhot hrun, ?_⟩,
      fun p hp hhot hrun => ⟨_, execCableOverTemp_pin hcool hruns hp hhot hrun, State.cableTripped_endSession ..⟩⟩,
    fun o f hf hquiet hlasts hpump hlow => execCoolantFlowLow_reports hf hquiet hlasts hpump hlow,
    fun o f hf hshown hlasts hflow => execCoolantFlowRestored_clears hf hshown hlasts hflow⟩
  obtain ⟨htripped, hlimit, hraised⟩ := s.cableTripped_endSession o (s.nat Ent.T_COND o) false End.CABLE_OVER_TEMPERATURE false
  exact ⟨htripped, hlimit, hraised, fun hlive hfree => State.cableTripped_ends _ _ _ _ hlive hfree⟩

end Sys2Proof.Machine
end

section
/-!
PROOFS. Converter groups at work (O34): the records of groups and phases, a group back in range (R212), a phase fired (R215), a trim at its
bound (R216), the ends of a step hold and of a stop (R221, R225), and a client's reset of a group (R228).
-/
namespace Sys2Proof.Machine
open Sys2Proof

/-! ### The records of groups and phases -/

@[simp] theorem State.conv_setConv_same (s : State) (g : Nat) (k : GroupSt) : (s.setConv g k).conv g = k := Tab.get_set_same ..

@[simp] theorem State.leg_setLeg_same (s : State) (p : Nat) (k : PhaseSt) : (s.setLeg p k).leg p = k := Tab.get_set_same ..

theorem State.conv_congr {s t : State} (h : t.convs = s.convs) (g : Nat) : t.conv g = s.conv g := by rw [State.conv, State.conv, h]

@[simp] theorem State.conv_put (s : State) (e : Entry) (n j : Nat) (v : Val) (g : Nat) : (s.put e n j v).conv g = s.conv g :=
  State.conv_congr (State.put_convs ..) g

theorem State.leg_congr {s t : State} (h : t.legs = s.legs) (p : Nat) : t.leg p = s.leg p := by rw [State.leg, State.leg, h]

theorem State.setPhase_convs (s : State) (p st : Nat) : (s.setPhase p st).convs = s.convs := by
  unfold State.setPhase
  split
  · rfl
  · exact State.put_convs ..

theorem State.setPhase_ev (s : State) (p st : Nat) : (s.setPhase p st).ev = s.ev := by
  unfold State.setPhase
  split
  · rfl
  · exact State.put_ev ..

/-- Of a phase's record a change of PHASE_STATE moves the tick of that change only. -/
theorem State.leg_setPhase (s : State) (p st : Nat) : ∃ tick, (s.setPhase p st).leg p = { s.leg p with since := tick } := by
  unfold State.setPhase
  split
  · exact ⟨_, rfl⟩
  · exact ⟨_, (State.leg_congr (State.put_legs ..) p).trans (State.leg_setLeg_same ..)⟩

@[simp] theorem State.phase_setPhase_same (s : State) (p st : Nat) : (s.setPhase p st).phase p = st := by
  unfold State.setPhase
  split
  · next h => exact beq_iff_eq.1 h
  · exact State.nat_setNat_same ..

theorem State.phase_setPhase_ne (s : State) {p q : Nat} (st : Nat) (h : q ≠ p) : (s.setPhase p st).phase q = s.phase q := by
  have hkey : Ent.PHASE_STATE.key q ≠ Ent.PHASE_STATE.key p := by
    rw [Entry.key, Entry.key]
    omega
  unfold State.setPhase
  split
  · rfl
  · exact State.nat_put_ne _ _ hkey

/-! ### A group back in range -/

theorem State.startGroup_runs {s : State} {g : Nat} (h : (s.conv g).st = Grp.OUT_OF_RANGE) :
    ((s.startGroup g).conv g).st = Grp.RUN ∧ (s.startGroup g).nat Ent.I_REF g = 0 := by
  have hstarts : s.startGroup g = _ := if_neg (by rw [h]; decide)
  rw [hstarts]
  dsimp only
  refine ⟨?_, State.nat_setNat_same ..⟩
  rw [State.setNat_eq, State.conv_put, State.conv_setConv_same]

theorem execGroupRangeReturn_runs {s : State} {g : Fin 8} (hst : (s.conv g).st = Grp.OUT_OF_RANGE) (hrange : s.inRange g = true)
    (hframes : 20 ≤ (s.conv g).inFrames) :
    ∃ t, execGroupRangeReturn g s = .next t ∧ (t.conv g).st = Grp.RUN ∧ t.nat Ent.I_REF g = 0 :=
  ⟨_, if_pos (by rw [hst, hrange, decide_eq_true hframes]; rfl), State.startGroup_runs hst⟩

/-! ### A phase fires -/

/-- The phase at the pointer fires, at the valley and with its switch low for MIN_OFF; one marked for shedding would leave the ring. -/
theorem execPhaseFire_fires {s : State} {g : Fin 8} {at_ p : Nat}
    (hst : (s.conv g).st = Grp.RUN ∨ (s.conv g).st = Grp.STOPPING ∨ (s.conv g).st = Grp.OUT_OF_RANGE) (hnext : s.nextPhase g = some p)
    (hvalley : s.atValley g p (s.steps + at_) = true) (hkept : (s.conv g).shed ≠ some p)
    (hlow : (s.leg p).lowAt + cdiv ((s.conv g).minOff * 2) 5 ≤ s.steps + at_) :
    execPhaseFire g at_ s = .next (s.fire g p (s.steps + at_)) := by
  have hruns : ((s.conv g).st != Grp.RUN && (s.conv g).st != Grp.STOPPING && (s.conv g).st != Grp.OUT_OF_RANGE) = false := by
    rcases hst with h | h | h <;> rw [h] <;> rfl
  have hshed : ((s.conv g).shed == some p) = false := beq_false_of_ne hkept
  simp only [execPhaseFire, hruns, hnext, hvalley, hshed, Bool.not_true, Bool.false_eq_true, if_false]
  exact if_pos hlow

/-- What a firing leaves: the pointer and the count of the group, the instants of the phase's switches, and no event. -/
theorem State.fire_reads (s : State) (g p now : Nat) :
    ((s.fire g p now).conv g).ptr = p ∧ ((s.fire g p now).conv g).firings = (s.conv g).firings + 1 ∧
      ((s.fire g p now).leg p).fired = true ∧
      ((s.fire g p now).leg p).lowAt = ((s.fire g p now).leg p).offAt + cdiv ((s.conv g).dead * 2) 5 ∧
      now ≤ ((s.fire g p now).leg p).offAt ∧ (s.fire g p now).ev = s.ev := by
  unfold State.fire
  extract_lets s1 on k done c0 per s2 c s3
  have hconv : s3.conv g = { c with ptr := p, firings := c.firings + 1 } := State.conv_setConv_same ..
  have hleg : s3.leg p = _ := State.leg_setLeg_same s1 p _
  split
  · obtain ⟨tick, hsince⟩ := s3.leg_setPhase p Pha.ON
    rw [State.conv_congr (State.setPhase_convs ..), State.setPhase_ev, hsince, hconv, hleg]
    exact ⟨rfl, rfl, rfl, rfl, Nat.le_add_right .., rfl⟩
  · rw [hconv, hleg]
    exact ⟨rfl, rfl, rfl, rfl, Nat.le_add_right .., rfl⟩

/-! ### A trim at its bound -/

theorem execPhaseImbalance_reports {s : State} {p : Fin 32} (hrun : 1000 ≤ (s.leg p).trimRun) (htold : (s.leg p).trimTold = false) :
    ∃ t, execPhaseImbalance p s = .next t ∧ t.leg p = { s.leg p with trimTold := true } ∧
      s.raised t Evt.PHASE_IMBALANCE p (s.nat Ent.PHASE_TRIM p) (word 32 (ratRound (s.sign (s.phaseGroup p) * s.legMean p * 10))) ∧
      { t with ev := s.ev, legs := s.legs } = s := by
  refine ⟨_, if_pos (by rw [htold, decide_eq_true hrun]; rfl), ?_, State.raised_of_raise rfl rfl rfl rfl, ?_⟩
  · exact (State.leg_congr (State.raiseWith_legs ..) p).trans (State.leg_setLeg_same ..)
  · rw [State.raise_eq_ev]
    rfl

/-! ### The ends of a step hold and of a stop -/

theorem execStepHoldEnd_ends {s : State} {g : Fin 8} {b : Nat} (hhold : (s.conv g).stepHold = some b) (hdue : b ≤ s.ticks) :
    ∃ t, execStepHoldEnd g s = .next t ∧ t.conv g = { s.conv g with stepHold := none } ∧ { t with convs := s.convs } = s := by
  have hends : execStepHoldEnd g s = .next (s.setConv g { s.conv g with stepHold := none }) := by
    unfold execStepHoldEnd
    rw [hhold]
    exact if_pos hdue
  exact ⟨_, hends, State.conv_setConv_same .., rfl⟩

theorem State.gatesOff_reads (s : State) (g st : Nat) :
    ((s.gatesOff g st).conv g).st = st ∧ ((s.gatesOff g st).conv g).stopAt = none ∧ (s.gatesOff g st).nat Ent.I_REF g = 0 ∧
      (s.gatesOff g st).int Ent.P_CMD g = 0 := by
  unfold State.gatesOff
  extract_lets s0 ps s1
  rw [State.setInt_eq, State.setNat_eq, State.conv_put, State.conv_put, State.conv_setConv_same]
  refine ⟨rfl, rfl, ?_, State.int_setInt_same ..⟩
  rw [State.nat_put_ne _ _ (Entry.key_ne_of_sub (by decide) g g)]
  exact State.nat_setNat_same ..

theorem execGroupStopComplete_ready {s : State} {g : Fin 8} {b : Nat} (hstop : (s.conv g).stopAt = some b)
    (hst : (s.conv g).st = Grp.STOPPING)
    (hdone : b + 40 ≤ s.ticks ∨ ratAbs (s.groupAmps g) < ((s.nAv g : Nat) : Rat) * s.rat Ent.PHASE_I_RATED g / 50) :
    execGroupStopComplete g s = .next (s.gatesOff g Grp.READY) := by
  unfold execGroupStopComplete
  dsimp only
  rw [hstop]
  refine if_pos ?_
  rw [hst, beq_self_eq_true, Bool.true_and, Bool.or_eq_true, decide_eq_true_iff, decide_eq_true_iff]
  exact hdone.symm

/-! ### A client's reset of a group -/

/-! A tag taken moves no entry and no record of the converters. -/

theorem State.conv_taken (s : State) (h : Held) (g : Nat) : (s.taken h).conv g = s.conv g :=
  State.taken_keeps (fun z => z.conv g) (fun _ _ _ _ => rfl) s h

theorem State.leg_taken (s : State) (h : Held) (p : Nat) : (s.taken h).leg p = s.leg p :=
  State.taken_keeps (fun z => z.leg p) (fun _ _ _ _ => rfl) s h

theorem State.phase_taken (s : State) (h : Held) (p : Nat) : (s.taken h).phase p = s.phase p := s.nat_taken_of_base h (by decide) p

theorem State.phaseGroup_taken (s : State) (h : Held) (p : Nat) : (s.taken h).phaseGroup p = s.phaseGroup p := by
  unfold State.phaseGroup State.firing
  rw [s.phase_taken, s.leg_taken, s.nat_taken_of_base h (by decide)]

theorem State.phasesOf_taken (s : State) (h : Held) (g : Nat) : (s.taken h).phasesOf g = s.phasesOf g :=
  List.filter_congr fun p _ => congrArg (· == g) (s.phaseGroup_taken h p)

theorem State.rat_taken_of_base (s : State) (h : Held) {e : Entry} (he : 0x1031 ≤ e.base) (n : Nat) :
    (s.taken h).rat e n = s.rat e n := congrArg F32.toRat (s.nat_taken_of_base h he n)

theorem State.legAmps_taken (s : State) (h : Held) (p : Nat) : (s.taken h).legAmps p = s.legAmps p := by
  unfold State.legAmps State.chan
  rw [s.nat_taken_of_base h (by decide), s.rat_taken_of_base h (by decide)]

/-- A phase of the group carries a current above its trip level (R228). -/
def State.groupLive (s : State) (g : Nat) : Prop := ∃ p ∈ s.phasesOf g, s.rat Ent.PHI_TRIP p < ratAbs (s.legAmps p)

theorem State.groupLive_taken (s : State) (h : Held) (g : Nat) : (s.taken h).groupLive g ↔ s.groupLive g := by
  simp only [State.groupLive, s.phasesOf_taken, s.rat_taken_of_base h (e := Ent.PHI_TRIP) (by decide), s.legAmps_taken]

theorem State.groupLive_iff (s : State) (g : Nat) :
    (s.phasesOf g).any (fun p => decide (s.rat Ent.PHI_TRIP p < ratAbs (s.legAmps p))) = true ↔ s.groupLive g := by
  simp only [List.any_eq_true, decide_eq_true_iff, State.groupLive]

theorem applyGroupReset_live {s : State} {g : Nat} (h : s.groupLive g) : applyGroupReset g s = (s, St.CONFLICT) :=
  if_pos ((s.groupLive_iff g).2 h)

theorem applyGroupReset_untripped {s : State} {g : Nat} (hdead : ¬ s.groupLive g) (hst : (s.conv g).st ≠ Grp.TRIPPED) :
    applyGroupReset g s = (s, St.ALREADY_DONE) :=
  (if_neg (mt (s.groupLive_iff g).1 hdead)).trans (if_pos (bne_iff_ne.2 hst))

/-- A tripped group is reset: READY, or OFF when it is disabled, its trip forgotten and its tripped phases OFF (R228). -/
theorem applyGroupReset_tripped {s : State} {g : Nat} (hdead : ¬ s.groupLive g) (hst : (s.conv g).st = Grp.TRIPPED) :
    (applyGroupReset g s).2 = St.OK ∧ ((applyGroupReset g s).1.conv g).trip = none ∧
      ((applyGroupReset g s).1.conv g).st = (if s.flag Ent.GROUP_ENABLE g then Grp.READY else Grp.OFF) ∧
      ∀ p ∈ s.phasesOf g, s.phase p = Pha.TRIPPED → (applyGroupReset g s).1.phase p = Pha.OFF := by
  have hresets : applyGroupReset g s = _ := (if_neg (mt (s.groupLive_iff g).1 hdead)).trans (if_neg (by rw [hst]; decide))
  rw [hresets]
  dsimp only
  rw [State.conv_setConv_same]
  refine ⟨rfl, rfl, rfl, fun p hp htripped => ?_⟩
  refine State.each_reaches (fun z => z.phase p = Pha.OFF) (fun _ => True) (a := p)
    (List.mem_filter.2 ⟨hp, beq_iff_eq.2 htripped⟩) trivial (fun _ _ _ => trivial) (fun z q hz => ?_) (fun z _ => z.phase_setPhase_same ..)
  by_cases hq : p = q
  · rw [hq, State.phase_setPhase_same]
  · rw [State.phase_setPhase_ne _ _ hq, hz]

section Reset
variable {s : State} {c : Client} {g v : Nat} {h : Held} (ha : s.accepts c Ent.GROUP_RESET g (.num v) h)
include ha

/-- A reset refused with a status leaves the groups. -/
theorem execGroupReset_refused {st : Nat} (hrefuses : applyGroupReset g (s.taken h) = (s.taken h, st)) :
    ∃ t, execGroupReset c g v s = .next t ∧ t.repliesWith h st ∧ t.convs = s.convs := by
  refine ⟨_, rfl, ?_⟩
  rw [State.clientCommand_effect ha rfl hrefuses]
  exact ⟨State.answerLater_repliesWith .., (State.answerLater_convs ..).trans (State.taken_keeps State.convs (fun _ _ _ _ => rfl) s h)⟩

theorem execGroupReset_live (hlive : s.groupLive g) :
    ∃ t, execGroupReset c g v s = .next t ∧ t.repliesWith h St.CONFLICT ∧ t.convs = s.convs :=
  execGroupReset_refused ha (applyGroupReset_live ((s.groupLive_taken h g).2 hlive))

theorem execGroupReset_untripped (hdead : ¬ s.groupLive g) (hst : (s.conv g).st ≠ Grp.TRIPPED) :
    ∃ t, execGroupReset c g v s = .next t ∧ t.repliesWith h St.ALREADY_DONE ∧ t.convs = s.convs :=
  execGroupReset_refused ha (applyGroupReset_untripped (mt (s.groupLive_taken h g).1 hdead) (by rwa [s.conv_taken]))

theorem execGroupReset_tripped (hdead : ¬ s.groupLive g) (hst : (s.conv g).st = Grp.TRIPPED) :
    ∃ t, execGroupReset c g v s = .next t ∧ t.repliesWith h St.OK ∧ (t.conv g).trip = none ∧
      (t.conv g).st = (if s.flag Ent.GROUP_ENABLE g then Grp.READY else Grp.OFF) ∧
      ∀ p ∈ s.phasesOf g, s.phase p = Pha.TRIPPED → t.phase p = Pha.OFF := by
  have henable : (s.taken h).flag Ent.GROUP_ENABLE g = s.flag Ent.GROUP_ENABLE g := by
    rw [State.flag_def, State.flag_def, s.val_taken_of_base h (by decide)]
  obtain ⟨hok, htrip, hstate, hoff⟩ := applyGroupReset_tripped (mt (s.groupLive_taken h g).1 hdead) ((s.conv_taken h g).symm ▸ hst)
  rw [henable] at hstate
  rw [s.phasesOf_taken] at hoff
  refine ⟨_, rfl, ?_⟩
  rw [State.clientCommand_ok ha hok, State.conv_congr (State.answerLater_convs ..)]
  exact ⟨State.answerLater_repliesWith .., htrip, hstate,
    fun p hp htripped => (State.nat_answerLater ..).trans (hoff p hp ((s.phase_taken h p).trans htripped))⟩

end Reset

/-- Settles O34: each command in the place its rule gives it, and a client's reset on the state with the tag taken. -/
theorem groupsRunAndFire : Obligations.GroupsRunAndFire := by
  intro s g
  refine ⟨execGroupRangeReturn_runs,
    fun at_ p hst hnext hvalley hkept hlow => ⟨_, execPhaseFire_fires hst hnext hvalley hkept hlow, s.fire_reads ..⟩,
    fun p => execPhaseImbalance_reports, fun b => execStepHoldEnd_ends,
    fun b hstop hst hdone => ⟨_, execGroupStopComplete_ready hstop hst hdone, s.gatesOff_reads ..⟩,
    fun c v h ha => ⟨execGroupReset_live ha, fun hdead => ?_, fun hdead => ?_⟩⟩
  · exact execGroupReset_untripped ha fun ⟨p, hp, hlive⟩ => hdead p hp hlive
  · exact execGroupReset_tripped ha fun ⟨p, hp, hlive⟩ => hdead p hp hlive

end Sys2Proof.Machine
end

section
/-!
PROOFS. Phases that trip (O35): the parameters of an event's record are words of 32 bits (R107), so the event of a fast trip (R226) cannot
carry a count of trips that leaves them.
-/
namespace Sys2Proof.Machine
open Sys2Proof

/-! ### Events hold words -/

/-- The first parameter of every event logged is a word of 32 bits. -/
def State.logsWords (s : State) : Prop := ∀ r ∈ s.ev.log, r.param1 < 2 ^ 32

theorem State.logsWords_congr {s t : State} (h : t.ev = s.ev) (hs : s.logsWords) : t.logsWords := by rwa [State.logsWords, h]

/-- An event raised is cut to the words of its record (Table 4-7). -/
theorem State.raise_logsWords {s : State} (hs : s.logsWords) (k : EvKind) (i p q : Nat) : (s.raise k i p q).logsWords := by
  unfold State.raise State.raiseWith
  split
  · intro r hr
    rcases List.mem_cons.1 hr with rfl | hold
    · exact Nat.mod_lt _ (by decide)
    · split at hold
      · exact hs r (List.mem_of_mem_dropLast hold)
      · exact hs r hold
  · exact hs

theorem State.followLimit_ev (s : State) (g l : Nat) : (s.followLimit g l).ev = s.ev := by
  simp only [State.followLimit, State.setStr, State.setNat_eq, State.put_ev]

theorem State.setLeg_ev (s : State) (p : Nat) (k : PhaseSt) : (s.setLeg p k).ev = s.ev := rfl

theorem State.setLeg_convs (s : State) (p : Nat) (k : PhaseSt) : (s.setLeg p k).convs = s.convs := rfl

theorem State.setConv_ev (s : State) (g : Nat) (k : GroupSt) : (s.setConv g k).ev = s.ev := rfl

theorem State.groupLimits_logsWords {s : State} (hs : s.logsWords) (g : Nat) : (s.groupLimits g).logsWords := by
  unfold State.groupLimits
  extract_lets l n s1
  have hs1 : s1.logsWords := State.logsWords_congr (by simp only [s1, State.followLimit_ev, State.setNat_eq, State.put_ev]) hs
  by_cases hn : (n == (s.conv g).nAv) = true
  · rw [if_pos hn]
    exact hs1
  · rw [if_neg hn]
    exact State.raise_logsWords (State.logsWords_congr (State.setConv_ev ..) hs1) _ _ _ _

theorem State.loadLine_ev (s : State) (g : Nat) : (s.loadLine g).ev = s.ev := by
  unfold State.loadLine
  dsimp only
  split
  · rfl
  · exact State.fitInt_ev ..

/-! ### A fast trip -/

/-- The ticks of a phase's trips within 10 s, with one now (R227). -/
def State.tripsNow (s : State) (p : Nat) : List Nat := s.ticks :: (s.leg p).trips.filter (fun b => decide (s.ticks < b + secTicks 10))

/-- A phase in the ring is not under test, so a trip ends none. -/
theorem State.cancelPhaseTest_firing {s : State} {p : Nat} (h : s.firing p = true) : s.cancelPhaseTest p = s := by
  refine if_neg fun htest => ?_
  rw [State.firing, beq_iff_eq.1 htest] at h
  exact absurd h (by decide)

section FirstTrip
variable {s : State} {p : Fin 32} (hfiring : s.firing p = true) (hgroup : s.phaseGroup p < 8)
  (hfirst : (s.conv (s.phaseGroup p)).trip = none) (hfew : (s.tripsNow p).length < s.nat Ent.FAST_RETRY_LIMIT (s.phaseGroup p))
include hfiring hgroup hfirst hfew

/-- The first trip of a group, of a phase below FAST_RETRY_LIMIT, is its event, then the group's limits and its load line (R226). -/
theorem execPhaseFastTrip_first : ∃ z : State, z.ev = s.ev ∧
    execPhaseFastTrip p s = .next (((z.raise Evt.PHASE_FAST_TRIP p (s.tripsNow p).length (s.phaseGroup p)).groupLimits
      (s.phaseGroup p)).loadLine (s.phaseGroup p)) := by
  unfold execPhaseFastTrip
  extract_lets m g st s0 k trips s1 c second shed s2 s3 s4
  have hs0 : s0 = s.bump Ent.FAST_TRIP_COUNT p :=
    congrArg (fun z => z.bump Ent.FAST_TRIP_COUNT p) (State.cancelPhaseTest_firing hfiring)
  have hk : k = s.leg p := State.leg_congr ((congrArg State.legs hs0).trans (State.bump_legs ..)) p
  have htrips : trips = s.tripsNow p := by simp only [trips, hk, State.tripsNow]
  have hconvs : s1.convs = s.convs := by simp only [s1, State.setLeg_convs, State.setPhase_convs, hs0, State.bump_convs]
  have hc : c = s.conv g := State.conv_congr (t := s1) hconvs g
  have hsecond : second = false := by simp only [second, hc, g, m, hfirst]
  have hs4 : s4 = s3 := if_neg (Nat.not_le.2 (htrips ▸ hfew))
  have hev : s2.ev = s.ev := by
    refine (State.when_keeps _ _ _ State.ev fun _ => State.bump_ev ..).trans ?_
    simp only [State.setConv_ev, s1, State.setLeg_ev, State.setPhase_ev, hs0, State.bump_ev]
  have hguard : ¬ ((!(s.firing m || st == Pha.SHED || st == Pha.TESTING) || decide (g ≥ 8)) = true) := by
    have hring : s.firing m = true := hfiring
    rw [hring, decide_eq_false (Nat.not_le.2 hgroup)]
    exact Bool.false_ne_true
  refine ⟨s2, hev, ?_⟩
  rw [if_neg hguard, hsecond, hs4, ← htrips, Bool.false_and, if_neg Bool.false_ne_true, ok]

theorem execPhaseFastTrip_logsWords {t : State} (hs : s.logsWords) (ht : execPhaseFastTrip p s = .next t) : t.logsWords := by
  obtain ⟨z, hz, hexec⟩ := execPhaseFastTrip_first hfiring hgroup hfirst hfew
  have hraised := State.raise_logsWords (State.logsWords_congr hz hs) Evt.PHASE_FAST_TRIP p (s.tripsNow p).length (s.phaseGroup p)
  rw [← Host.Outcome.next.inj (hexec.symm.trans ht)]
  exact State.logsWords_congr (State.loadLine_ev ..) (State.groupLimits_logsWords hraised _)

end FirstTrip

/-- Refutes O35: a phase with 2^32 − 1 trips within 10 s trips once more, below a FAST_RETRY_LIMIT of 2^32 + 1. The count of its trips is
2^32, which the word of the event's record does not hold: no record of the log has it as a parameter. The statement ranges over every state;
the limit of this one lies outside the range of its entry, which is 1 to 10. -/
theorem not_phasesTripFailAndAreTested : ¬ Obligations.PhasesTripFailAndAreTested := by
  intro hall
  obtain ⟨s, hfiring, hgroup, hcount, hfirst, htrips, hlimit, hroom, hlog⟩ :
      ∃ s : State, s.firing (0 : Fin 32) = true ∧ s.phaseGroup (0 : Fin 32) < 8 ∧
        s.nat Ent.FAST_TRIP_COUNT (0 : Fin 32) + 1 < 2 ^ Ent.FAST_TRIP_COUNT.type.bits ∧
        (s.conv (s.phaseGroup (0 : Fin 32))).trip = none ∧
        (s.leg (0 : Fin 32)).trips = List.replicate (2 ^ 32 - 1) s.ticks ∧
        s.nat Ent.FAST_RETRY_LIMIT (s.phaseGroup (0 : Fin 32)) = 2 ^ 32 + 1 ∧ s.mayRaise ∧ s.ev.log = [] :=
    ⟨{ State.reset with
        legs := [(0, { PhaseSt.none with grp := 0, trips := List.replicate (2 ^ 32 - 1) 0 })]
        cells := [(Ent.PHASE_STATE.key, .num Pha.ON)]
        actSet := [(Ent.FAST_RETRY_LIMIT.key, .num (2 ^ 32 + 1))] },
      by decide +kernel, by decide +kernel, by decide +kernel, by decide +kernel, rfl, by decide +kernel, Nat.zero_lt_succ _, rfl⟩
  have hlength : (s.tripsNow (0 : Fin 32)).length = 2 ^ 32 := by
    have hrecent : decide (s.ticks < s.ticks + secTicks 10) = true := decide_eq_true (Nat.lt_add_of_pos_right (by decide))
    rw [State.tripsNow, htrips, List.filter_replicate_of_pos (p := fun b => decide (s.ticks < b + secTicks 10)) hrecent, List.length_cons,
      List.length_replicate, Nat.sub_add_cancel (by decide)]
  have hfew : (s.tripsNow (0 : Fin 32)).length < s.nat Ent.FAST_RETRY_LIMIT (s.phaseGroup (0 : Fin 32)) := by
    rw [hlength, hlimit]
    decide
  have hwords : s.logsWords := by
    intro r hr
    rw [hlog] at hr
    cases hr
  obtain ⟨t, ht, -, -, -, -, hevent, -⟩ := (hall s 0).1 hfiring hgroup hcount hfirst hfew
  obtain ⟨r, hr, -, -, hparam, -⟩ := hevent hroom
  have hword : r.param1 < 2 ^ 32 := execPhaseFastTrip_logsWords hfiring hgroup hfirst hfew hwords ht r hr
  exact Nat.lt_irrefl (2 ^ 32) (hlength ▸ hparam ▸ hword)

end Sys2Proof.Machine
end

section
/-!
PROOFS. The records of monitors, ropes, strings and the radio (O36 to O38): what a record reads after it is put in its place, and the
entries it leaves alone.
-/
namespace Sys2Proof.Machine
open Sys2Proof

/-! ### The records of monitors, ropes and strings -/

@[simp] theorem State.mon_setMon_same (s : State) (k : Nat) (m : MonSt) : (s.setMon k m).mon k = m := Tab.get_set_same ..

@[simp] theorem State.str_setStr_same (s : State) (n : Nat) (k : StrSt) : (s.setStr n k).str n = k := Tab.get_set_same ..

@[simp] theorem State.rope_setRope_same (s : State) (n : Nat) (r : RopeSt) : (s.setRope n r).rope n = r := Tab.get_set_same ..

theorem State.mon_congr {s t : State} (h : t.mons = s.mons) (k : Nat) : t.mon k = s.mon k := by rw [State.mon, State.mon, h]

theorem State.str_congr {s t : State} (h : t.strs = s.strs) (n : Nat) : t.str n = s.str n := by rw [State.str, State.str, h]

theorem State.rope_congr {s t : State} (h : t.ropes = s.ropes) (n : Nat) : t.rope n = s.rope n := by rw [State.rope, State.rope, h]

@[simp] theorem State.mon_put (s : State) (e : Entry) (n j : Nat) (v : Val) (k : Nat) : (s.put e n j v).mon k = s.mon k :=
  State.mon_congr (State.put_mons ..) k

@[simp] theorem State.nat_setRope (s : State) (i : Nat) (r : RopeSt) (e : Entry) (n j : Nat) : (s.setRope i r).nat e n j = s.nat e n j := rfl

@[simp] theorem State.nat_setRadio (s : State) (r : RadioSt) (e : Entry) (n j : Nat) : (s.setRadio r).nat e n j = s.nat e n j := rfl

@[simp] theorem State.nat_setMon (s : State) (k : Nat) (m : MonSt) (e : Entry) (n j : Nat) : (s.setMon k m).nat e n j = s.nat e n j := rfl

theorem State.cmds_tellMonitor (s : State) (op k : Nat) (args : List Byte) :
    (s.tellMonitor op k args).radio.cmds = s.radio.cmds ++ [⟨op, k, args, false, 0, false⟩] := rfl

/-! ### What an entry reads -/

theorem State.nat_of_cells {s t : State} {e : Entry} (he : e.inSets = false) (h : t.cells = s.cells) (n j : Nat) : t.nat e n j = s.nat e n j := by
  simp [State.nat_def, State.val, he, h]

theorem State.nat_of_actSet {s t : State} {e : Entry} (he : e.inSets = true) (h : t.actSet = s.actSet) (n j : Nat) : t.nat e n j = s.nat e n j := by
  simp [State.nat_def, State.val, he, h]

/-- A write leaves the entries with another sub-index. -/
theorem State.nat_put_sub (s : State) {e f : Entry} (h : f.sub < 256 ∧ e.sub < 256 ∧ f.sub ≠ e.sub) (n m : Nat) (v : Val) :
    (s.put e n 0 v).nat f m = s.nat f m := State.nat_put_ne _ _ (Entry.key_ne_of_sub h m n)

end Sys2Proof.Machine
end

section
/-!
PROOFS. Sweeps (O36): a sweep begun (R239), its reports (R240, R243), the retry call (R244), joins (R245, R253), publication (R248) and
the wake bursts of a lost monitor (R249).
-/
namespace Sys2Proof.Machine
open Sys2Proof

/-! ### What both radios send -/

/-- A message from each link die that is up. -/
def State.sendBoth (s : State) (m0 m1 : Msg) : State := (s.when s.die.lkA (fun z => z.send m0)).when s.die.lkB (fun z => z.send m1)

theorem State.sendBoth_frame (s : State) (m0 m1 : Msg) : { s.sendBoth m0 m1 with out := s.out } = s := by
  unfold State.sendBoth State.when
  split <;> split <;> rfl

theorem State.sendBoth_mem (s : State) (m0 m1 : Msg) :
    (s.die.lkA = true → m0 ∈ (s.sendBoth m0 m1).out) ∧ (s.die.lkB = true → m1 ∈ (s.sendBoth m0 m1).out) := by
  unfold State.sendBoth State.when
  refine ⟨fun ha => ?_, fun hb => ?_⟩
  · rw [if_pos ha]
    split <;> simp [State.send]
  · rw [if_pos hb]
    simp [State.send]

/-- The second radio's message is formed after the first has gone out, which is no matter to a message formed without those sent. -/
theorem State.sends_eq_sendBoth (s : State) (f0 f1 : State → Msg) (h : ∀ l, f1 { s with out := l } = f1 s) :
    (s.when s.die.lkA (fun z => z.send (f0 z))).when (s.when s.die.lkA (fun z => z.send (f0 z))).die.lkB (fun z => z.send (f1 z)) =
      s.sendBoth (f0 s) (f1 s) := by
  unfold State.sendBoth State.when
  by_cases ha : s.die.lkA = true
  · have hf1 : f1 (s.send (f0 s)) = f1 s := h _
    rw [if_pos ha]
    dsimp only
    rw [State.send_die, hf1]
  · rw [if_neg ha]

/-! ### A sweep begins -/

theorem State.each_raise_frame {α : Type} (s : State) (l : List α) (k : EvKind) (i p q : α → Nat) :
    ∃ e, s.each l (fun z a => z.raise k (i a) (p a) (q a)) = { s with ev := e } := by
  refine State.each_inv _ _ _ (fun z => ∃ e, z = { s with ev := e }) ⟨s.ev, rfl⟩ fun z a hz => ?_
  obtain ⟨e, rfl⟩ := hz
  exact ⟨_, State.raise_eq_ev ..⟩

/-- The commands of the sweep before settled: of the radio its commands move, and events are raised. -/
theorem State.settleCommands_frame (s : State) : ∃ l e, s.settleCommands = { s with radio := { s.radio with cmds := l }, ev := e } := by
  obtain ⟨e, he⟩ := State.each_raise_frame (α := MonCmd) _ _ Evt.COMMAND_UNACKED MonCmd.mon MonCmd.op MonCmd.sends
  exact ⟨_, e, he⟩

/-- The hop map at the start of a sweep: the radio's map and its changes move, and HOP_MAP_IN_USE shows the map. -/
theorem State.hop_shows (s : State) (w : Nat) :
    ∃ r : RadioSt, s.hop w = (s.setRadio r).setNat Ent.HOP_MAP_IN_USE 0 r.map ∧ r.cur = s.radio.cur := by
  unfold State.hop
  extract_lets r ex r1 want r2
  have hr1 : r1.cur = s.radio.cur := by
    simp only [r1]
    split
    · split <;> rfl
    · rfl
  refine ⟨r2, rfl, ?_⟩
  simp only [r2]
  split
  · exact hr1
  · exact hr1

/-- Sweep `w` is under way, in a state with its hop map: the radio's record of it, and the current over its span begun anew. -/
def State.openSweep (s : State) (w : Nat) : State :=
  (s.setRadio { s.radio with cur := some (w, hopChannel s.radio.map w), due := s.radio.cur, cmds := pickCommands 4 [] s.radio.cmds
                             start := s.nat Ent.SAMPLE_START, window := s.nat Ent.AVG_WINDOW }).each
    (List.range 8) (fun z n => z.setRope n { z.rope n with span := Span.none, spanLast := (z.rope n).span })

/-- The beacon a radio sends on a channel. -/
def State.beaconMsg (s : State) (radio ch idle : Nat) : Msg := s.airMsg radio ch .beacon (s.beacon radio idle)

/-- The flag for Prebex of a time step has gone out with the beacons (Table 10-3). -/
def State.flagSent (s : State) : State := { s with time := { s.time with flagPrebex := s.time.flagPrebex && !s.die.lkA && !s.die.lkB } }

/-- The state in which a sweep opens: the commands settled and the map chosen. -/
def State.sweepReady (s : State) : State := (s.takeFree.2.settleCommands).hop (s.sfn / 50)

/-- The state in which the sweep of the frame is under way, its beacons not yet sent. -/
def State.sweepOpen (s : State) : State := s.sweepReady.openSweep (s.sfn / 50)

theorem execSweepStart_due {s : State} (hcycle : s.cycle = 0) (hstep : s.tx.step = 5) (hsfn : s.sfn % 50 = 0) (hserving : s.serving = true) :
    ∃ m0 m1, execSweepStart s = .next (s.sweepOpen.sendBoth m0 m1).flagSent ∧
      (m0.port = .prebex ∧ m0.dest = 0 ∧ m0.kind = .beacon) ∧ (m1.port = .prebex ∧ m1.dest = 1 ∧ m1.kind = .beacon) := by
  have hdue : execSweepStart s = _ := if_pos (by rw [hcycle, hstep, hsfn, hserving]; rfl)
  let beacon (radio : Nat) (z : State) : Msg := z.beaconMsg radio (hopChannel s.sweepReady.radio.map (s.sfn / 50)) s.takeFree.1
  refine ⟨beacon 0 s.sweepOpen, beacon 1 s.sweepOpen, ?_, ⟨rfl, rfl, rfl⟩, ⟨rfl, rfl, rfl⟩⟩
  rw [hdue, ← State.sends_eq_sendBoth s.sweepOpen (beacon 0) (beacon 1) fun _ => rfl]
  rfl

/-- The settled commands and the map leave the sweep under way and the sampling window, and HOP_MAP_IN_USE shows the map. -/
theorem State.sweepReady_reads (s : State) :
    s.sweepReady.radio.cur = s.radio.cur ∧ s.sweepReady.nat Ent.HOP_MAP_IN_USE = s.sweepReady.radio.map ∧
      s.sweepReady.nat Ent.SAMPLE_START = s.nat Ent.SAMPLE_START ∧ s.sweepReady.nat Ent.AVG_WINDOW = s.nat Ent.AVG_WINDOW ∧
      s.sweepReady.die = s.die := by
  obtain ⟨l, e, hsettled⟩ := s.takeFree.2.settleCommands_frame
  obtain ⟨r, hhop, hcur⟩ := s.takeFree.2.settleCommands.hop_shows (s.sfn / 50)
  have hready : s.sweepReady = (s.takeFree.2.settleCommands.setRadio r).put Ent.HOP_MAP_IN_USE 0 0 (.num r.map) := hhop
  have hradio : s.sweepReady.radio = r := hready ▸ State.put_radio ..
  have hnat {f : Entry} (h : f.key ≠ Ent.HOP_MAP_IN_USE.key) : s.sweepReady.nat f = s.nat f := by
    rw [hready, State.nat_put_ne _ _ h, hsettled]
    rfl
  refine ⟨?_, ?_, hnat (by decide), hnat (by decide), ?_⟩
  · rw [hradio, hcur, hsettled]
    rfl
  · rw [hradio, hready]
    exact State.nat_setNat_same ..
  · rw [hready, State.put_die, hsettled]
    rfl

theorem State.openSweep_radio (s : State) (w : Nat) : (s.openSweep w).radio =
    { s.radio with cur := some (w, hopChannel s.radio.map w), due := s.radio.cur, cmds := pickCommands 4 [] s.radio.cmds
                   start := s.nat Ent.SAMPLE_START, window := s.nat Ent.AVG_WINDOW } :=
  State.each_keeps _ _ _ State.radio fun _ _ => rfl

theorem State.openSweep_cells (s : State) (w : Nat) : (s.openSweep w).cells = s.cells := State.each_keeps _ _ _ State.cells fun _ _ => rfl

theorem State.openSweep_die (s : State) (w : Nat) : (s.openSweep w).die = s.die := State.each_keeps _ _ _ State.die fun _ _ => rfl

theorem execSweepStart_begins {s : State} (hcycle : s.cycle = 0) (hstep : s.tx.step = 5) (hsfn : s.sfn % 50 = 0) (hserving : s.serving = true) :
    ∃ t, execSweepStart s = .next t ∧ t.radio.cur = some (s.sfn / 50, hopChannel t.radio.map (s.sfn / 50)) ∧
      t.radio.due = s.radio.cur ∧ t.radio.start = s.nat Ent.SAMPLE_START ∧ t.radio.window = s.nat Ent.AVG_WINDOW ∧
      t.nat Ent.HOP_MAP_IN_USE = t.radio.map ∧ (s.die.lkA = true ∨ s.die.lkB = true → t.time.flagPrebex = false) ∧
      (s.die.lkA = true → ∃ m ∈ t.out, m.port = .prebex ∧ m.dest = 0 ∧ m.kind = .beacon) ∧
      (s.die.lkB = true → ∃ m ∈ t.out, m.port = .prebex ∧ m.dest = 1 ∧ m.kind = .beacon) := by
  obtain ⟨hcur, hmap, hstart, hwindow, hdie⟩ := s.sweepReady_reads
  obtain ⟨m0, m1, hdue, hm0, hm1⟩ := execSweepStart_due hcycle hstep hsfn hserving
  have hframe := s.sweepOpen.sendBoth_frame m0 m1
  have hopened : s.sweepOpen.die = s.die := (State.openSweep_die ..).trans hdie
  have hradio : (s.sweepOpen.sendBoth m0 m1).flagSent.radio = _ := (congrArg State.radio hframe).trans (State.openSweep_radio ..)
  have hcells : (s.sweepOpen.sendBoth m0 m1).flagSent.cells = s.sweepReady.cells :=
    (congrArg State.cells hframe).trans (State.openSweep_cells ..)
  have hsent : (s.sweepOpen.sendBoth m0 m1).die = s.die := (congrArg State.die hframe).trans hopened
  obtain ⟨ha, hb⟩ := s.sweepOpen.sendBoth_mem m0 m1
  rw [hopened] at ha hb
  refine ⟨_, hdue, ?_⟩
  rw [State.nat_of_cells rfl hcells, hradio]
  refine ⟨rfl, hcur, hstart, hwindow, hmap, fun hup => ?_, fun h => ⟨m0, ha h, hm0⟩, fun h => ⟨m1, hb h, hm1⟩⟩
  rw [State.flagSent, hsent]
  rcases hup with hA | hB
  · simp [hA]
  · simp [hB]

/-! ### The retry call -/

/-- The monitors enrolled that sweep `w` has not heard, a bit each. -/
def State.missedIn (s : State) (w : Nat) : Nat :=
  ofBits (((List.range 256).filter s.enrolled).filter (fun k => ((s.mon k).got.map Prod.fst) != some w))

/-- The body of the retry call of sweep `w` (R244). -/
def State.retryBody (s : State) (w : Nat) : List Byte := leBytes 36 (pack [(0, 16, w), (16, 256, s.missedIn w), (272, 8, s.radio.joinMask)])

theorem execRetryCall_due {s : State} {w ch : Nat} (hcur : s.radio.cur = some (w, ch)) (hcycle : s.sweepCycle w = 881) :
    execRetryCall s = .next ((s.setRadio { s.radio with retry := some (w, s.missedIn w) }).sendBoth
      (s.airMsg 0 ch .retryCall (s.retryBody w)) (s.airMsg 1 ch .retryCall (s.retryBody w))) := by
  unfold execRetryCall
  rw [hcur]
  dsimp only
  rw [hcycle, if_neg (by decide)]
  exact congrArg ok (State.sends_eq_sendBoth _ (fun z => z.airMsg 0 ch .retryCall (s.retryBody w))
    (fun z => z.airMsg 1 ch .retryCall (s.retryBody w)) fun _ => rfl)

theorem execRetryCall_calls {s : State} {w ch : Nat} (hcur : s.radio.cur = some (w, ch)) (hcycle : s.sweepCycle w = 881) :
    ∃ t, execRetryCall s = .next t ∧ t.radio.retry = some (w, s.missedIn w) ∧
      (s.die.lkA = true → s.airMsg 0 ch .retryCall (s.retryBody w) ∈ t.out) ∧
      (s.die.lkB = true → s.airMsg 1 ch .retryCall (s.retryBody w) ∈ t.out) ∧ { t with out := s.out, radio := s.radio } = s := by
  refine ⟨_, execRetryCall_due hcur hcycle, ?_⟩
  generalize s.airMsg 0 ch .retryCall (s.retryBody w) = m0
  generalize s.airMsg 1 ch .retryCall (s.retryBody w) = m1
  obtain ⟨ha, hb⟩ := (s.setRadio { s.radio with retry := some (w, s.missedIn w) }).sendBoth_mem m0 m1
  have hframe := (s.setRadio { s.radio with retry := some (w, s.missedIn w) }).sendBoth_frame m0 m1
  refine ⟨congrArg (fun z : State => z.radio.retry) hframe, ha, hb, congrArg (fun z : State => { z with radio := s.radio }) hframe⟩

/-! ### A frame heard -/

/-- What the hearing of a frame moves: the raw copies, the counters of frames received and the free values. -/
theorem State.air_keeps {β : Type} (g : State → β) (hstream : ∀ (z : State) x, g { z with stream := x } = g z)
    (hcount : ∀ (z : State), ∀ e ∈ [Ent.RX_OK_0, Ent.RX_OK_1, Ent.RX_CONFLICT], g (z.bump e) = g z) (s : State) (a : Air) (slot : Nat) :
    g (s.air a slot).1 = g s := by
  unfold State.air
  extract_lets c0 c1 w hear s1
  have hhear (z : State) (radio : Nat) (c : Option AirCopy) {e : Entry} (he : e ∈ [Ent.RX_OK_0, Ent.RX_OK_1, Ent.RX_CONFLICT]) :
      g (hear z radio c e) = g z := by
    cases c with
    | none => rfl
    | some x =>
      refine (State.when_keeps _ _ _ g fun y => hcount y e he).trans ?_
      unfold State.noteRaw
      split
      · exact hstream ..
      · rfl
  have hs1 : g s1 = g s := (hhear _ _ _ (by decide)).trans (hhear _ _ _ (by decide))
  split
  · split
    · exact hs1
    · exact (hcount _ _ (by decide)).trans hs1
  · exact hs1
  · exact hs1
  · exact hs1

/-! ### What a report's results leave alone -/

/-- A reading of the state in which nothing shows that the results of a report move: of monitor `k` its entries from CELL_FLAGS on and its
record but for the report held and the alarm; the radio, the ropes, the log and the running tests. -/
structure ReportBlind {β : Type} (g : State → β) (k : Nat) : Prop where
  write : ∀ (s : State) (e : Entry) (j : Nat) (v : Val), e.base = 0x5000 → 0x0E ≤ e.sub + j * e.step → e.sub + j * e.step < 256 →
    g (s.put e k j v) = g s
  record : ∀ (s : State) (m : MonSt), m.got = (s.mon k).got → m.alarm = (s.mon k).alarm → g (s.setMon k m) = g s
  radio : ∀ (s : State) r, g { s with radio := r } = g s
  ropes : ∀ (s : State) r, g { s with ropes := r } = g s
  event : ∀ (s : State) e, g { s with ev := e } = g s
  tests : ∀ (s : State) r, g { s with running := r } = g s

/-- The cells a wire of a monitor adjoins are among its 16. -/
theorem wireCells_le {n wire j : Nat} (hwire : wire < 17) (h : j ∈ wireCells n wire) : j ≤ 16 := by
  unfold wireCells at h
  split at h
  · simp_all
  split at h
  · next hlast =>
    rw [List.mem_singleton] at h
    omega
  · rw [List.mem_cons, List.mem_singleton] at h
    omega

section ReportBlind
variable {β : Type} {g : State → β} {k : Nat} (hg : ReportBlind g k)
include hg

theorem State.raise_reportBlind (s : State) (e : EvKind) (i p q : Nat) : g (s.raise e i p q) = g s := by
  rw [State.raise_eq_ev]
  exact hg.event ..

theorem State.setNat_reportBlind (e : Entry) (he : e.base = 0x5000 ∧ 0x0E ≤ e.sub ∧ e.sub < 256) (s : State) (v : Nat) :
    g (s.setNat e k v) = g s := by
  obtain ⟨hbase, hlow, hhigh⟩ := he
  exact hg.write _ _ _ _ hbase (by omega) (by omega)

theorem State.setCellCode_reportBlind (s : State) (j c : Nat) : g (s.setCellCode k j c) = g s :=
  State.setNat_reportBlind hg Ent.CELL_FLAGS (by decide) ..

theorem State.clearWire_reportBlind (s : State) {wire : Nat} (hwire : wire < 17) : g (s.clearWire k wire) = g s := by
  unfold State.clearWire
  split
  · rfl
  extract_lets m s1 s2
  have hs1 : g s1 = g s := (State.setNat_reportBlind hg Ent.SUSPECT_WIRES (by decide) ..).trans
    (State.setNat_reportBlind hg Ent.WIRE_STATE (by decide) ..)
  have hm : s1.mon k = s.mon k := (State.mon_put ..).trans (State.mon_put ..)
  have hs2 : g s2 = g s := (State.raise_reportBlind hg ..).trans ((hg.record _ _ (hm ▸ rfl) (hm ▸ rfl)).trans hs1)
  refine State.each_inv_of_mem (fun z => g z = g s) hs2 fun z j hj hz => ?_
  have hj16 : j ≤ 16 := wireCells_le hwire hj
  split
  · exact hz
  · refine (hg.write _ Ent.CELL_BOUND _ _ rfl ?_ ?_).trans ((State.setCellCode_reportBlind hg ..).trans hz)
    · exact Nat.le_trans (by decide) (Nat.le_add_right ..)
    · show 0x40 + j * 1 < 256
      omega

theorem State.endMonitorTest_reportBlind (s : State) (mask : Nat) : g (s.endMonitorTest k mask) = g s := by
  unfold State.endMonitorTest
  extract_lets m s1 old s2 s3 st
  have hs1 : g s1 = g s := hg.record _ _ rfl rfl
  have hs2 : g s2 = g s := by
    refine State.each_inv_of_mem (fun z => g z = g s) hs1 fun z wire hwire hz => ?_
    exact (State.clearWire_reportBlind hg z (List.mem_range.1 (List.mem_filter.1 hwire).1)).trans hz
  have hs3 : g s3 = g s := (State.when_keeps _ _ _ g fun z => State.setNat_reportBlind hg Ent.BREAK_SFN (by decide) z _).trans
    ((State.setNat_reportBlind hg Ent.WIRE_STATE (by decide) ..).trans hs2)
  exact (State.raise_reportBlind hg ..).trans ((State.setNat_reportBlind hg Ent.MONITOR_TEST_RESULT (by decide) ..).trans
    ((State.endTest_keeps g (State.raise_reportBlind hg) hg.tests ..).trans hs3))

theorem State.noteResult_reportBlind (s : State) (r : Report) : g (s.noteResult k r) = g s := by
  unfold State.noteResult
  split
  · split
    · rfl
    extract_lets m s1
    have hs1 : g s1 = g s := hg.record _ _ rfl rfl
    split
    · extract_lets m2 s2
      have hs2 : g s2 = g s := by
        refine (hg.record _ _ ?_ ?_).trans hs1
        · rfl
        · rfl
      split
      · exact (State.endMonitorTest_reportBlind hg ..).trans hs2
      · exact hs2
    · exact hs1
  · rfl

theorem State.tellMonitor_reportBlind (s : State) (op i : Nat) (args : List Byte) : g (s.tellMonitor op i args) = g s := hg.radio ..

theorem State.noteAck_reportBlind (s : State) : g (s.noteAck k) = g s := by
  unfold State.noteAck
  extract_lets mine wire r s1 m
  have hs1 : g s1 = g s := hg.radio ..
  clear_value wire
  cases wire with
  | none => exact hs1
  | some i =>
    dsimp -zeta only
    extract_lets s2
    have hs2 : g s2 = g s := by
      refine (hg.record _ _ ?_ ?_).trans hs1
      · rfl
      · rfl
    split
    · exact (State.tellMonitor_reportBlind hg ..).trans hs2
    · exact hs2

theorem State.ropeEvent_reportBlind (s : State) (n alarming : Nat) : g (s.ropeEvent n alarming) = g s :=
  (State.raise_reportBlind hg ..).trans (hg.ropes ..)

/-- The monitor's record holds a valid report of sweep `w` (R243). -/
def State.holdReport (s : State) (w k : Nat) (r : Report) : State :=
  s.setMon k { s.mon k with got := some (w, r), alarm := r.alarm
                            cause := if w % 8 == 7 then field r.aux 0 4 else (s.mon k).cause
                            bleeding := if w % 8 == 7 then bit r.aux 4 else (s.mon k).bleeding
                            carrierIn := if w % 8 == 7 then bit r.aux 5 else (s.mon k).carrierIn }

theorem State.takeFrame_reportBlind (s : State) (w : Nat) (r : Report) : g (s.takeFrame w k r) = g (s.holdReport w k r) := by
  unfold State.takeFrame
  extract_lets m item7 s1 s2 s3 n
  have hs2 : g s2 = g s1 := State.noteResult_reportBlind hg ..
  have hs3 : g s3 = g s1 := by
    simp only [s3]
    split
    · exact (State.noteAck_reportBlind hg ..).trans hs2
    · exact hs2
  split
  · exact (State.ropeEvent_reportBlind hg ..).trans hs3
  · exact hs3

end ReportBlind

/-- The report held and the alarm are what a report's results leave of a monitor's record. -/
theorem State.held_reportBlind (k : Nat) : ReportBlind (fun s => ((s.mon k).got, (s.mon k).alarm)) k where
  write s e j v _ _ _ := by simp
  record s m hgot halarm := by simp [hgot, halarm]
  radio _ _ := rfl
  ropes _ _ := rfl
  event _ _ := rfl
  tests _ _ := rfl

/-- No entry below CELL_FLAGS, of whatever index, is one the results of a report write. -/
theorem State.val_reportBlind (k : Nat) {e : Entry} (he : e.sub < 0x0E) (n : Nat) : ReportBlind (fun s => s.val e n 0) k where
  write s f j v _ hlow hhigh := State.val_put_ne _ _ _ _ _ _ _ _ (by rw [Entry.key, Entry.key]; omega)
  record _ _ _ _ := rfl
  radio _ _ := rfl
  ropes _ _ := rfl
  event _ _ := rfl
  tests _ _ := rfl

/-! ### A report -/

theorem State.takeFrame_holds (s : State) (w k : Nat) (r : Report) :
    ((s.takeFrame w k r).mon k).got = some (w, r) ∧ ((s.takeFrame w k r).mon k).alarm = r.alarm := by
  have hheld := State.takeFrame_reportBlind (State.held_reportBlind k) s w r
  rw [State.holdReport, State.mon_setMon_same] at hheld
  exact Prod.mk.inj hheld

theorem State.noteAck_settles (s : State) (k : Nat) :
    ∀ c ∈ (s.noteAck k).radio.cmds, c.aired = true → c.broadcast = false → c.mon ≠ k := by
  have hkept : ∀ c ∈ s.radio.cmds.filter (fun c => !(c.aired && !c.broadcast && c.mon == k)),
      c.aired = true → c.broadcast = false → c.mon ≠ k := by
    intro c hc haired hbroadcast
    have hmine := (List.mem_filter.1 hc).2
    rw [haired, hbroadcast] at hmine
    simpa using hmine
  unfold State.noteAck
  extract_lets mine wire r s1 m
  clear_value wire
  cases wire with
  | none => exact hkept
  | some i =>
    dsimp -zeta only
    extract_lets s2
    split
    · intro c hc haired
      rw [State.cmds_tellMonitor] at hc
      rcases List.mem_append.1 hc with hold | hnew
      · exact hkept c hold haired
      · rw [List.mem_singleton.1 hnew] at haired
        cases haired
    · exact hkept

/-- A report that acknowledges, of a monitor without an accepted wire test (no wire), leaves it no command of the beacon (R242). -/
theorem State.takeFrame_settles {s : State} {w k : Nat} {r : Report} (hack : r.ack = true) (hwire : (s.mon k).wire = none) :
    ∀ c ∈ (s.takeFrame w k r).radio.cmds, c.aired = true → c.broadcast = false → c.mon ≠ k := by
  have hidle {z : State} (hz : (z.mon k).wire = none) : z.noteResult k r = z := by rw [State.noteResult, hz]
  unfold State.takeFrame
  extract_lets m item7 s1 s2 s3 n
  have hs1 : (s1.mon k).wire = none := (congrArg MonSt.wire (State.mon_setMon_same ..)).trans hwire
  have hs3 : s3 = s1.noteAck k := by simp only [s3, hack, if_true, s2, hidle hs1]
  have hradio : (if r.alarm && decide (n < 8) && (s3.rope n).alarmTill.isSome then s3.ropeEvent n k else s3).radio = (s1.noteAck k).radio := by
    rw [← hs3]
    split
    · exact State.raiseWith_radio ..
    · rfl
  rw [hradio]
  exact s1.noteAck_settles k

/-- A frame heard moves no entry but the three counters of frames received. -/
theorem State.val_air (s : State) (a : Air) (slot : Nat) {e : Entry} (he : e.sub < 0x0D) (n : Nat) :
    (s.air a slot).1.val e n 0 = s.val e n 0 := by
  refine State.air_keeps (fun z => z.val e n 0) (fun _ _ => rfl) (fun z f hf => State.val_bump_ne _ _ (Entry.key_ne_of_sub ?_ _ _)) s a slot
  rcases List.mem_cons.1 hf with rfl | hf
  · exact ⟨by omega, by decide, by show _ ≠ 0x0D; omega⟩
  rcases List.mem_cons.1 hf with rfl | hf
  · exact ⟨by omega, by decide, by show _ ≠ 0x0E; omega⟩
  · rw [List.mem_singleton.1 hf]
    exact ⟨by omega, by decide, by show _ ≠ 0x0F; omega⟩

theorem State.nat_air (s : State) (a : Air) (slot : Nat) {e : Entry} (he : e.sub < 0x0D) (n : Nat) :
    (s.air a slot).1.nat e n = s.nat e n := State.nat_congr (s.val_air a slot he n)

theorem State.air_mons (s : State) (a : Air) (slot : Nat) : (s.air a slot).1.mons = s.mons :=
  State.air_keeps State.mons (fun _ _ => rfl) (fun _ _ _ => State.bump_mons ..) s a slot

theorem State.air_ropes (s : State) (a : Air) (slot : Nat) : (s.air a slot).1.ropes = s.ropes :=
  State.air_keeps State.ropes (fun _ _ => rfl) (fun _ _ _ => State.bump_ropes ..) s a slot

theorem State.air_die (s : State) (a : Air) (slot : Nat) : (s.air a slot).1.die = s.die :=
  State.air_keeps State.die (fun _ _ => rfl) (fun _ _ _ => State.bump_die ..) s a slot

section FirstRadio
variable {s : State} {a : Air} {slot : Nat} {x : AirCopy} (hfirst : a.copy0 = some x) (hsecond : a.copy1 = none)
  (hgood : s.copyOk slot x = true) (hup : s.die.lkA = true)
include hfirst hsecond hgood hup

/-- A frame that only the first radio hears, its CRC good: counted, and its payload valid (R240). -/
theorem State.air_first : s.air a slot =
    ((s.noteRaw ((s.radio.cur.map Prod.fst).getD 0) 0 slot x.rssi true x.bytes).bump Ent.RX_OK_0, some x.bytes) := by
  unfold State.air
  extract_lets c0 c1 w hear s1
  have hc0 : c0 = some x := (if_pos hup).trans hfirst
  have hc1 : c1 = none := by simp only [c1, hsecond, ite_self]
  have hs1 : s1 = (s.noteRaw w 0 slot x.rssi true x.bytes).bump Ent.RX_OK_0 := by
    simp only [s1, hear, hc0, hc1, hgood, State.when, if_true]
  rw [hc0, hc1, hs1, Option.filter_some, if_pos hgood]
  rfl

theorem State.air_counts (hfit : s.nat Ent.RX_OK_0 + 1 < 2 ^ Ent.RX_OK_0.type.bits) :
    (s.air a slot).1.nat Ent.RX_OK_0 = s.nat Ent.RX_OK_0 + 1 := by
  rw [State.air_first hfirst hsecond hgood hup]
  have hraw : (s.noteRaw ((s.radio.cur.map Prod.fst).getD 0) 0 slot x.rssi true x.bytes).nat Ent.RX_OK_0 = s.nat Ent.RX_OK_0 := by
    unfold State.noteRaw
    split <;> rfl
  dsimp only
  rw [State.bump_of_fits (by rwa [hraw]), hraw]
  exact State.nat_setNat_same ..

end FirstRadio

/-- The signal strengths of a monitor are two entries of its own. -/
theorem State.noteRssi_keeps {β : Type} (g : State → β) (k : Nat)
    (hput : ∀ (z : State) v, g (z.put Ent.RSSI_0 k 0 v) = g z ∧ g (z.put Ent.RSSI_1 k 0 v) = g z) (s : State) (a : Air) :
    g (s.noteRssi k a) = g s := by
  unfold State.noteRssi
  extract_lets set
  have hset (z : State) (up : Bool) (c : Option AirCopy) {e : Entry} (he : ∀ (y : State) v, g (y.put e k 0 v) = g y) : g (set z up c e) = g z := by
    cases c with
    | none => rfl
    | some x => exact State.when_keeps _ _ _ g fun y => he y _
  exact (hset _ _ _ fun y v => (hput y v).2).trans (hset _ _ _ fun y v => (hput y v).1)

theorem State.noteRssi_mons (s : State) (k : Nat) (a : Air) : (s.noteRssi k a).mons = s.mons :=
  State.noteRssi_keeps State.mons k (fun _ _ => ⟨State.put_mons .., State.put_mons ..⟩) s a

/-- The strength at the first radio is the one of the copy it received. -/
theorem State.noteRssi_first {s : State} {k : Nat} {a : Air} {x : AirCopy} (hfirst : a.copy0 = some x) (hsecond : a.copy1 = none)
    (hgood : s.copyOk k x = true) (hup : s.die.lkA = true) :
    (s.noteRssi k a).int Ent.RSSI_0 k = signed 16 (word 16 x.rssi) := by
  have hset : s.noteRssi k a = s.setInt Ent.RSSI_0 k (signed 16 (word 16 x.rssi)) := by
    simp only [State.noteRssi, hfirst, hsecond, hgood, hup, Bool.and_self, State.when, if_true]
  rw [hset, State.int_setInt_same]

section Reported
variable {s : State} {k : Fin 256} {a : Air} {w ch : Nat} (hcur : s.radio.cur = some (w, ch)) (henrolled : s.enrolled k = true)
  (hslot : s.reportSlot w k = true)
include hcur henrolled hslot

theorem execReport_eq : execReport k a s = ok (match (s.air a k).2 with
    | some b => ((s.air a k).1.noteRssi k a).takeFrame w k (reportOf b)
    | none => (s.air a k).1) := by
  unfold execReport
  rw [hcur]
  dsimp only
  rw [henrolled, hslot, if_neg (by decide)]
  generalize s.air a k = heard
  obtain ⟨z, o⟩ := heard
  cases o <;> rfl

theorem execReport_takes : ∃ t, execReport k a s = .next t ∧
    (∀ b : List Byte, (s.air a k).2 = some b → (t.mon k).got = some (w, reportOf b) ∧ (t.mon k).alarm = (reportOf b).alarm ∧
      ((reportOf b).ack = true → (s.mon k).wire = none →
        ∀ c ∈ t.radio.cmds, c.aired = true → c.broadcast = false → c.mon ≠ k.val)) ∧
    ((s.air a k).2 = none → t = (s.air a k).1) ∧
    (∀ x : AirCopy, a.copy0 = some x → a.copy1 = none → s.copyOk k x = true → s.die.lkA = true →
      s.nat Ent.RX_OK_0 + 1 < 2 ^ Ent.RX_OK_0.type.bits →
      t.nat Ent.RX_OK_0 = s.nat Ent.RX_OK_0 + 1 ∧ t.int Ent.RSSI_0 k = signed 16 (word 16 x.rssi)) := by
  refine ⟨_, execReport_eq hcur henrolled hslot, fun b hb => ?_, fun hnone => by rw [hnone], fun x hfirst hsecond hgood hup hfit => ?_⟩
  · rw [hb]
    obtain ⟨hgot, halarm⟩ := ((s.air a k).1.noteRssi k a).takeFrame_holds w k (reportOf b)
    have hmon : ((s.air a k).1.noteRssi k a).mon k = s.mon k := State.mon_congr ((State.noteRssi_mons ..).trans (State.air_mons ..)) k
    exact ⟨hgot, halarm, fun hack hwire => State.takeFrame_settles hack (hmon ▸ hwire)⟩
  · have hpayload : (s.air a k).2 = some x.bytes := congrArg Prod.snd (State.air_first hfirst hsecond hgood hup)
    have hgood' : (s.air a k).1.copyOk k x = true := by
      rw [State.copyOk, State.nat_air _ _ _ (by decide)]
      exact hgood
    have hup' : (s.air a k).1.die.lkA = true := (State.air_die s a k).symm ▸ hup
    have hcount : ((s.air a k).1.noteRssi k a).val Ent.RX_OK_0 = (s.air a k).1.val Ent.RX_OK_0 :=
      State.noteRssi_keeps (fun z => z.val Ent.RX_OK_0) k (fun z v => ⟨State.val_put_ne _ _ _ _ _ _ _ _ (Entry.key_ne_of_sub (by decide) 0 k),
        State.val_put_ne _ _ _ _ _ _ _ _ (Entry.key_ne_of_sub (by decide) 0 k)⟩) _ a
    have hrssi := State.noteRssi_first hfirst hsecond hgood' hup'
    have hheld (e : Entry) (he : e.sub < 0x0E) (n : Nat) := State.takeFrame_reportBlind (State.val_reportBlind k he n)
      ((s.air a k).1.noteRssi k a) w (reportOf x.bytes)
    rw [hpayload]
    refine ⟨(State.nat_congr ((hheld Ent.RX_OK_0 (by decide) 0).trans hcount)).trans (State.air_counts hfirst hsecond hgood hup hfit), ?_⟩
    rw [State.int_def, hheld Ent.RSSI_0 (by decide) k]
    exact hrssi

end Reported

/-! ### A join -/

/-- Enumeration failed shows FAILED (R254). -/
theorem State.failEnum_state (s : State) (n cause : Nat) : (s.failEnum n cause).nat Ent.ROPE_STATE n = Rope.FAILED := by
  rw [State.failEnum, State.nat_raise, State.nat_setRope, State.setJoin, State.nat_setRadio, State.nat_setNat_same]

/-- What a monitor's entries read once it is enrolled, and the joins its rope has counted (R253). -/
def State.enrolledAs (t : State) (n k : Nat) (j : Join) (joined : Nat) : Prop :=
  t.nat Ent.MONITOR_UID k = j.uid ∧ t.nat Ent.MONITOR_STATE k = Mon.OK ∧ t.nat Ent.MONITOR_STRING k = n ∧
    t.nat Ent.CELL_COUNT k = min 16 j.cells ∧ (t.rope n).joined = joined

theorem State.enrolledAs_of_entries {s t : State} {n k joined : Nat} {j : Join} (h : s.enrolledAs n k j joined)
    (hval : ∀ e : Entry, t.val e k = s.val e k) (hrope : t.ropes = s.ropes) : t.enrolledAs n k j joined := by
  simpa only [State.enrolledAs, State.nat_def, hval, State.rope_congr hrope] using h

theorem State.enrol_reads (s : State) (n k pos : Nat) (j : Join) : (s.enrol n k pos j).enrolledAs n k j ((s.rope n).joined + 1) := by
  unfold State.enrol
  extract_lets old cells s1 s2 flags s3 s4 r s5
  have hs3 : s3.nat Ent.MONITOR_UID k = j.uid ∧ s3.nat Ent.MONITOR_STATE k = Mon.OK ∧ s3.nat Ent.MONITOR_STRING k = n ∧
      s3.nat Ent.CELL_COUNT k = cells := by
    simp (disch := decide) only [s3, s2, s1, State.nat_setMon, State.setNat_eq, State.nat_put_sub]
    exact ⟨State.nat_setNat_same .., State.nat_setNat_same .., State.nat_setNat_same .., State.nat_setNat_same ..⟩
  have hr : s3.ropes = s.ropes := by simp [s3, s2, s1, State.setMon]
  clear_value s3
  have hs5 : s5.enrolledAs n k j ((s.rope n).joined + 1) := by
    obtain ⟨huid, hstate, hstring, hcells⟩ := hs3
    refine ⟨huid, hstate, hstring, hcells, ?_⟩
    simp only [s5, State.rope_setRope_same, r]
    rw [State.rope_congr (s := s) (t := s4) hr]
  clear_value s5
  split
  · refine State.enrolledAs_of_entries hs5 (fun e => ?_) ?_
    · exact (State.val_raiseWith ..).trans (State.each_keeps _ _ _ (fun z => z.val e k) fun _ _ => rfl)
    · exact (State.raiseWith_ropes ..).trans (State.each_keeps _ _ _ State.ropes fun _ _ => rfl)
  · exact hs5

theorem State.flag_raise (s : State) (k : EvKind) (i p q : Nat) (e : Entry) (n j : Nat) : (s.raise k i p q).flag e n j = s.flag e n j := by
  rw [State.flag_def, State.flag_def, State.raise_eq, State.val_raiseWith]

/-- A monitor that joins where none, or itself, was, or where no replacement is locked, is enrolled (R255). -/
theorem State.admitMonitor_enrols {s : State} {n k : Nat} {j : Join}
    (h : s.nat Ent.MONITOR_UID k = 0 ∨ s.nat Ent.MONITOR_UID k = j.uid ∨ s.flag Ent.MONITOR_LOCK n = false) (pos : Nat) :
    (s.admitMonitor n k pos j).enrolledAs n k j ((s.rope n).joined + 1) := by
  unfold State.admitMonitor
  extract_lets old s1
  split
  · next hother =>
    obtain ⟨hfitted, hnew⟩ := Bool.and_eq_true_iff.1 hother
    have hflag : s.flag Ent.MONITOR_LOCK n = false := (h.resolve_left (bne_iff_ne.1 hfitted)).resolve_left (bne_iff_ne.1 hnew)
    have hlock : s1.flag Ent.MONITOR_LOCK n = false := (State.flag_raise ..).trans hflag
    have hrope : s1.rope n = s.rope n := State.rope_congr (State.raiseWith_ropes ..) n
    rw [hlock, ← hrope]
    exact s1.enrol_reads ..
  · exact s.enrol_reads ..

/-- A join of another string or another protocol version fails the enumeration (R254). -/
theorem State.takeJoin_fails (s : State) {n : Nat} {j : Join} (h : j.string ≠ n ∨ j.version ≠ 3) :
    (s.takeJoin n j).nat Ent.ROPE_STATE n = Rope.FAILED := by
  unfold State.takeJoin
  by_cases hstring : j.string = n
  · rw [if_neg (by simp [hstring]), if_pos (bne_iff_ne.2 (h.resolve_left (not_not_intro hstring)))]
    exact s.failEnum_state ..
  · rw [if_pos (bne_iff_ne.2 hstring)]
    exact s.failEnum_state ..

theorem State.takeJoin_admits {s : State} {n : Nat} {j : Join} (hstring : j.string = n) (hversion : j.version = 3)
    (hstate : s.nat Ent.ROPE_STATE n = Rope.ENUMERATING) (hroom : (s.rope n).joined < s.nat Ent.MONITOR_COUNT n) :
    s.takeJoin n j = s.admitMonitor n (s.nat Ent.MONITOR_FIRST n + (s.rope n).joined) (s.rope n).joined j := by
  unfold State.takeJoin
  rw [hstring, hversion, hstate, if_neg (by simp), if_neg (by decide), if_neg (by decide), if_pos (by decide)]
  exact if_neg (Nat.not_le.2 hroom)

section Joined
variable {s : State} {n : Fin 8} {a : Air} {b : List Byte} {w ch : Nat} (hcur : s.radio.cur = some (w, ch))
  (hopen : bit s.radio.joinMask n = true) (hslot : s.inSlot w (890 + 3 * (26 + n)) = true) (hheard : (s.air a 0xFF).2 = some b)
include hcur hopen hslot hheard

theorem execMonitorJoin_eq : execMonitorJoin n a s = .next ((s.air a 0xFF).1.takeJoin n (joinOf b)) := by
  unfold execMonitorJoin
  rw [hcur]
  dsimp only
  rw [hopen, hslot, if_neg (by decide)]
  generalize s.air a 0xFF = heard at hheard
  obtain ⟨z, o⟩ := heard
  rw [show o = some b from hheard]
  rfl

theorem execMonitorJoin_fails (h : (joinOf b).string ≠ n.val ∨ (joinOf b).version ≠ 3) :
    ∃ t, execMonitorJoin n a s = .next t ∧ t.nat Ent.ROPE_STATE n = Rope.FAILED :=
  ⟨_, execMonitorJoin_eq hcur hopen hslot hheard, State.takeJoin_fails _ h⟩

theorem execMonitorJoin_enrols {k : Nat} (hk : k = s.nat Ent.MONITOR_FIRST n + (s.rope n).joined) (hstring : (joinOf b).string = n.val)
    (hversion : (joinOf b).version = 3) (hstate : s.nat Ent.ROPE_STATE n = Rope.ENUMERATING)
    (hroom : (s.rope n).joined < s.nat Ent.MONITOR_COUNT n)
    (hfree : s.nat Ent.MONITOR_UID k = 0 ∨ s.nat Ent.MONITOR_UID k = (joinOf b).uid ∨ s.flag Ent.MONITOR_LOCK n = false) :
    ∃ t, execMonitorJoin n a s = .next t ∧ t.enrolledAs n k (joinOf b) ((s.rope n).joined + 1) := by
  have hnat {e : Entry} (he : e.sub < 0x0D) (i : Nat) := s.nat_air a 0xFF he i
  have hlock : (s.air a 0xFF).1.flag Ent.MONITOR_LOCK n = s.flag Ent.MONITOR_LOCK n := by
    rw [State.flag_def, State.flag_def, s.val_air _ _ (by decide)]
  have hrope : (s.air a 0xFF).1.rope n = s.rope n := State.rope_congr (s.air_ropes a 0xFF) n
  rw [← hnat (e := Ent.MONITOR_UID) (by decide), ← hlock] at hfree
  rw [← hnat (e := Ent.MONITOR_COUNT) (by decide), ← hrope] at hroom
  refine ⟨_, execMonitorJoin_eq hcur hopen hslot hheard, ?_⟩
  rw [State.takeJoin_admits hstring hversion ((hnat (by decide) n).trans hstate) hroom, hnat (by decide), hrope, ← hk, ← hrope]
  exact State.admitMonitor_enrols hfree _

end Joined

/-! ### A lost monitor -/

theorem execLostMonitorWakeBurst_bursts {s : State} {k : Fin 256} (hlost : s.nat Ent.MONITOR_STATE k = Mon.LOST)
    (hdue : (s.mon k).burstAt + secTicks 10 ≤ s.ticks) :
    ∃ t, execLostMonitorWakeBurst k s = .next t ∧ (t.mon k).burstAt = s.ticks ∧
      t.out = s.out ++ [⟨.rope, s.nat Ent.MONITOR_STRING k, .wakeBurst, [], []⟩] ∧ { t with mons := s.mons, out := s.out } = s := by
  have hbursts : execLostMonitorWakeBurst k s = _ := if_pos (by simp [hlost, hdue])
  exact ⟨_, hbursts, congrArg MonSt.burstAt (State.mon_setMon_same ..), rfl, rfl⟩

/-! ### Publication -/

section StreamKeeps
variable {β : Type} (g : State → β) (hstream : ∀ (z : State) x, g { z with stream := x } = g z)
  (hcells : ∀ (z : State) c, g { z with cells := c } = g z) (hevent : ∀ (z : State) e, g { z with ev := e } = g z)
  (hfree : ∀ (z : State) f, g { z with free := f } = g z)

include hcells hfree in
/-- A counter that is kept over no loss of power stores nothing. -/
theorem State.bump_keeps_of_volatile {e : Entry} (he : e.inSets = false ∧ e.persist ≠ .persistent) (s : State) (n j k : Nat) :
    g (s.bump e n j k) = g s := by
  obtain ⟨hset, hpersist⟩ := he
  have hput (z : State) (v : Nat) : g (z.setNat e n v j) = g z := by
    rw [State.setNat_eq, State.put_cells _ _ _ _ _ hset, State.noteWrite_volatile _ _ _ _ _ _ hpersist]
    exact hcells ..
  unfold State.bump
  dsimp only
  split
  · exact hput ..
  · exact (hput ..).trans (hfree ..)

include hstream hcells hevent hfree

/-- A record of a stream moves the streams, their counter and the log (R459). -/
theorem State.streamRecord_keeps (s : State) (k : Nat) (r : List Byte) : g (s.streamRecord k r) = g s := by
  have hreports (z : State) : g (z.reportDrops k) = g z := by
    obtain ⟨x, e, hreport⟩ := z.reportDrops_eq k
    rw [hreport]
    exact (hevent ({ z with stream := x } : State) e).trans (hstream z x)
  unfold State.streamRecord
  extract_lets q
  split
  · rfl
  split
  · exact hstream ..
  split
  · exact hstream ..
  · exact (hreports _).trans ((hstream ..).trans (State.bump_keeps_of_volatile g hcells hfree (e := Ent.STREAM_DROPPED) (by decide) ..))

theorem State.streamSweep_keeps (s : State) (w : Nat) : g (s.streamSweep w) = g s :=
  (State.streamRecord_keeps g hstream hcells hevent hfree ..).trans (hstream ..)

end StreamKeeps

theorem State.judgeChannel_keeps {β : Type} (g : State → β) (hradio : ∀ (z : State) r, g { z with radio := r } = g z)
    (hevent : ∀ (z : State) e, g { z with ev := e } = g z) (s : State) (w ch : Nat) : g (s.judgeChannel w ch) = g s := by
  unfold State.judgeChannel
  extract_lets all res l r s1 bad inUse r2 s2
  have hs1 : g s1 = g s := hradio ..
  split
  · rw [State.raise_eq_ev]
    exact (hevent ..).trans ((hradio ..).trans hs1)
  · exact hs1

theorem State.publishString_unmonitored {s : State} {n w : Nat} (h : s.nat Ent.MONITOR_COUNT n = 0) : s.publishString n w = s :=
  if_pos (beq_iff_eq.2 h)

/-- The strings whose publication is in time. -/
def State.publishedNow (s : State) : List Nat := (List.range 8).filter (fun n => !s.late (0x0500 + n))

/-- Sweep `w` published on its channel, for the strings in time, and their runs begun (R248, R284). -/
def State.published (s : State) (w ch : Nat) : State :=
  let s1 := (s.each s.publishedNow (fun z n => z.publishString n w)).streamSweep w
  (s1.each (s.publishedNow.filter (fun n => s1.nat Ent.MONITOR_COUNT n != 0)) (fun z n => z.startRun n w)).judgeChannel w ch

/-- The sweep published is no more due. -/
def State.sweepOver (s : State) (w : Nat) : State :=
  s.setRadio { s.radio with due := none, cur := if (s.radio.cur.map Prod.fst) == some w then none else s.radio.cur }

theorem execSweepPublish_due {s : State} {w ch : Nat} (hcycle : s.cycle = 0) (hdue : s.radio.due = some (w, ch)) (hsfn : s.sfn = 50 * w + 52) :
    execSweepPublish s = .next ((s.published w ch).sweepOver w) := by
  unfold execSweepPublish
  extract_lets pick now
  have hpick : pick = some (w, ch) := by
    simp only [pick, hdue]
    exact if_pos (beq_iff_eq.2 hsfn)
  rw [hpick]
  dsimp -zeta only
  rw [if_neg (by simp [hcycle])]
  extract_lets s1 s2 s3 r
  have hpublished : s3 = s.published w ch := rfl
  clear_value s3
  subst hpublished
  rfl

/-- With no string monitored a publication moves the radio, the streams, their counter and the log. -/
theorem State.published_unmonitored {s : State} (h : ∀ n, n < 8 → s.nat Ent.MONITOR_COUNT n = 0) (w ch : Nat) :
    { s.published w ch with radio := s.radio, stream := s.stream, cells := s.cells, ev := s.ev, free := s.free } = s := by
  have hnow (n : Nat) (hn : n ∈ s.publishedNow) : s.nat Ent.MONITOR_COUNT n = 0 := h n (List.mem_range.1 (List.mem_filter.1 hn).1)
  have hstrings : s.each s.publishedNow (fun z n => z.publishString n w) = s :=
    State.each_inv_of_mem (fun z => z = s) rfl fun z n hn hz => by rw [hz, State.publishString_unmonitored (hnow n hn)]
  have hactSet : (s.streamSweep w).actSet = s.actSet :=
    State.streamSweep_keeps State.actSet (fun _ _ => rfl) (fun _ _ => rfl) (fun _ _ => rfl) (fun _ _ => rfl) s w
  have hruns : s.publishedNow.filter (fun n => (s.streamSweep w).nat Ent.MONITOR_COUNT n != 0) = [] := by
    refine List.filter_eq_nil_iff.2 fun n hn => ?_
    rw [State.nat_of_actSet rfl hactSet, hnow n hn]
    decide
  have hpublished : s.published w ch = (s.streamSweep w).judgeChannel w ch := by
    unfold State.published
    rw [hstrings]
    dsimp only
    rw [hruns]
    rfl
  let rest (z : State) : State := { z with radio := s.radio, stream := s.stream, cells := s.cells, ev := s.ev, free := s.free }
  have hjudged : rest ((s.streamSweep w).judgeChannel w ch) = rest (s.streamSweep w) :=
    State.judgeChannel_keeps rest (fun _ _ => rfl) (fun _ _ => rfl) ..
  have hstreamed : rest (s.streamSweep w) = rest s :=
    State.streamSweep_keeps rest (fun _ _ => rfl) (fun _ _ => rfl) (fun _ _ => rfl) (fun _ _ => rfl) s w
  rw [hpublished]
  exact hjudged.trans hstreamed

theorem execSweepPublish_publishes {s : State} {w ch : Nat} (hcycle : s.cycle = 0) (hdue : s.radio.due = some (w, ch))
    (hsfn : s.sfn = 50 * w + 52) :
    ∃ t, execSweepPublish s = .next t ∧ t.radio.due = none ∧
      ((∀ n, n < 8 → s.nat Ent.MONITOR_COUNT n = 0) →
        { t with radio := s.radio, stream := s.stream, cells := s.cells, ev := s.ev, free := s.free } = s) := by
  refine ⟨_, execSweepPublish_due hcycle hdue hsfn, rfl, fun h => ?_⟩
  have hrest := State.published_unmonitored h w ch
  generalize s.published w ch = z at hrest ⊢
  exact hrest

/-- Settles O36: each command of the monitor radio in the place its rule gives it. -/
theorem sweepsAreCalledReportedAndPublished : Obligations.SweepsAreCalledReportedAndPublished := by
  intro s
  refine ⟨execSweepStart_begins, fun k a w ch => execReport_takes, fun w ch => execRetryCall_calls,
    fun n a b w ch hcur hopen hslot hheard => ⟨execMonitorJoin_fails hcur hopen hslot hheard,
      fun k hk _ hstring hversion hstate hroom hfree => ?_⟩,
    fun w ch => execSweepPublish_publishes, fun k => execLostMonitorWakeBurst_bursts⟩
  exact execMonitorJoin_enrols hcur hopen hslot hheard hk hstring hversion hstate hroom hfree

end Sys2Proof.Machine
end

section
/-!
PROOFS. Ropes (O37): a rope that closes lets the coils go that its half holds for the string (R274), and no other channel.
-/
namespace Sys2Proof.Machine
open Sys2Proof

/-! ### The coils a closing rope lets go -/

theorem State.lcs_setStr (s : State) (n : Nat) (k : StrSt) (c : Nat) : (s.setStr n k).lcs c = s.lcs c := rfl

/-- The decision of a channel's output leaves what is held of another channel. -/
theorem State.lcs_lcUpdate_ne (s : State) {c d : Nat} (h : c ≠ d) : (s.lcUpdate d).lcs c = s.lcs c := by
  obtain ⟨z, k, v, hwrites, hside, -, -⟩ := s.lcUpdate_eq d
  rw [hwrites, State.setNat_eq, State.lcs_put, State.lcs_setLc_ne _ _ h, State.lcs_of_loadSide hside]

/-- A channel that its half does not hold for the string stays as it is when the string's rope closes. -/
theorem State.lcs_ropeCloses_of_unheld {s : State} {n c : Nat} (h : c ∉ s.heldCoils n) : (s.ropeCloses n).lcs c = s.lcs c := by
  unfold State.ropeCloses
  refine State.each_inv_of_mem (fun z => z.lcs c = s.lcs c) (State.lcs_setStr ..) fun z d hd hz => ?_
  have hne : c ≠ d := fun hcd => h (hcd ▸ hd)
  rw [State.lcs_lcUpdate_ne _ hne, State.lcs_setLc_ne _ _ hne, hz]

theorem execRopeClosed_lcs_of_unheld {s : State} {n : Fin 8} (hrun : msTicks 20 ≤ (s.rope n).run)
    (hopen : s.nat Ent.ROPE_STATE n = Rope.OPEN) {c : Nat} (h : c ∉ s.heldCoils n) :
    ∃ t, execRopeClosed n s = .next t ∧ t.lcs c = s.lcs c := by
  have hcloses : execRopeClosed n s = .next (((s.setNat Ent.ROPE_STATE n Rope.CLOSED).setJoin n false).ropeCloses n) := by
    unfold execRopeClosed
    dsimp only
    rw [hopen, if_neg (Nat.not_lt.2 hrun)]
    rfl
  have hheld : ((s.setNat Ent.ROPE_STATE n Rope.CLOSED).setJoin n false).heldCoils n = s.heldCoils n := rfl
  exact ⟨_, hcloses, State.lcs_ropeCloses_of_unheld (hheld ▸ h)⟩

/-- Refutes O37: string 0 is in WELD_CHECK after a connection on the channels 0 to 2, which its open rope holds off, and half A holds the
channels 3 to 5 for it. The rope closes, and channel 0 stays held off: the half lets the coils go that its store gives the string, where the
statement names those of the connection. The statement ranges over every state, and no hypothesis of it makes the two the same. -/
theorem not_ropesCloseOpenAndEnumerate : ¬ Obligations.RopesCloseOpenAndEnumerate := by
  intro hall
  obtain ⟨s, hrun, hopen, huse, hheld, hoff⟩ :
      ∃ s : State, msTicks 20 ≤ (s.rope (0 : Fin 8)).run ∧ s.nat Ent.ROPE_STATE (0 : Fin 8) = Rope.OPEN ∧
        0 ∈ s.coilsInUse (0 : Fin 8) ∧ 0 ∉ s.heldCoils (0 : Fin 8) ∧ (s.lcs 0).rope = true :=
    ⟨{ State.reset with
        cells := [(Ent.STRING_STATE.key, .num Str.WELD_CHECK), (Ent.ROPE_STATE.key, .num Rope.OPEN)]
        strs := [(0, { StrSt.none with coils := [0, 1, 2] })]
        ropes := [(0, { RopeSt.none with carrier := true, run := msTicks 20 })]
        lc := [(0, { LcSt.none with rope := true }), (1, { LcSt.none with rope := true }), (2, { LcSt.none with rope := true })]
        halfA := { State.reset.halfA with strCoils := [[3, 4, 5], [], [], []] } },
      by decide +kernel, by decide +kernel, by decide +kernel, by decide +kernel, by decide +kernel⟩
  obtain ⟨t, ht, hkept⟩ := execRopeClosed_lcs_of_unheld hrun hopen hheld
  obtain ⟨u, hu, -, -, -, hfree⟩ := (hall s 0).1 hrun (.inl hopen)
  have htu : t = u := Host.Outcome.next.inj (ht.symm.trans hu)
  have hchannel : (u.lcs 0).rope = false := hfree 0 huse (by decide)
  rw [← htu, hkept, hoff] at hchannel
  cases hchannel

end Sys2Proof.Machine
end

section
/-!
PROOFS. Monitors (O38): what a taken tag leaves of the monitors, an alarm reset (R252), a monitor test begun (R260), a break confirmed
(R258) and the service a break demands (R259).
-/
namespace Sys2Proof.Machine
open Sys2Proof

/-! ### What a tag taken leaves of the monitors -/

theorem State.radio_taken (s : State) (h : Held) : (s.taken h).radio = s.radio := State.taken_keeps State.radio (fun _ _ _ _ => rfl) s h

theorem State.mons_taken (s : State) (h : Held) : (s.taken h).mons = s.mons := State.taken_keeps State.mons (fun _ _ _ _ => rfl) s h

theorem State.running_taken (s : State) (h : Held) : (s.taken h).running = s.running :=
  State.taken_keeps State.running (fun _ _ _ _ => rfl) s h

theorem State.mon_taken (s : State) (h : Held) (k : Nat) : (s.taken h).mon k = s.mon k := State.mon_congr (s.mons_taken h) k

/-- The counters of tags stand below every sub-index of the entries from the outlets on. -/
theorem State.val_taken_sub (s : State) (h : Held) {e : Entry} (he : 0x1031 ≤ e.base) (n j : Nat) : (s.taken h).val e n j = s.val e n j := by
  have hkey : 0x103100 ≤ e.key n j := by
    rw [Entry.key]
    omega
  exact s.val_taken h e n j (Nat.ne_of_gt (Nat.lt_of_lt_of_le (by decide) hkey)) (Nat.ne_of_gt (Nat.lt_of_lt_of_le (by decide) hkey))

/-- Which string owns a monitor is a matter of the active set. -/
theorem State.stringOf_of_actSet {s t : State} (h : t.actSet = s.actSet) (k : Nat) : t.stringOf k = s.stringOf k := by
  simp only [State.stringOf, State.monitorsOf, State.nat_of_actSet (e := Ent.MONITOR_COUNT) rfl h,
    State.nat_of_actSet (e := Ent.MONITOR_FIRST) rfl h]

theorem State.stringOf_taken (s : State) (h : Held) (k : Nat) : (s.taken h).stringOf k = s.stringOf k :=
  State.stringOf_of_actSet (s.taken_actSet h) k

theorem State.strState_taken (s : State) (h : Held) (n : Nat) : (s.taken h).strState n = s.strState n := s.nat_taken_of_base h (by decide) n

theorem State.beyondLimits_taken (s : State) (h : Held) (n k : Nat) : (s.taken h).beyondLimits n k = s.beyondLimits n k := by
  have hnat {e : Entry} (he : 0x1031 ≤ e.base) (i j : Nat) : (s.taken h).nat e i j = s.nat e i j := State.nat_congr (s.val_taken_sub h he i j)
  have hint {e : Entry} (he : 0x1031 ≤ e.base) (i j : Nat) : (s.taken h).int e i j = s.int e i j := by
    rw [State.int_def, State.int_def, s.val_taken_sub h he]
  simp only [State.beyondLimits, State.fittedCells, s.mon_taken, hnat (e := Ent.CELL_OV_LOCAL) (by decide),
    hnat (e := Ent.CELL_UV_LOCAL) (by decide), hnat (e := Ent.CELL_COUNT) (by decide), hnat (e := Ent.CELL_V) (by decide),
    hint (e := Ent.TEMP) (by decide), hint (e := Ent.CELL_OT_LOCAL) (by decide)]

/-! ### An alarm reset -/

theorem applyAlarmReset_quiet {s : State} {k : Nat} (h : (s.mon k).alarm = false) : applyAlarmReset k s = (s, St.ALREADY_DONE) :=
  if_pos (by rw [h]; rfl)

theorem applyAlarmReset_beyond {s : State} {k n : Nat} (h : (s.mon k).alarm = true) (hn : s.stringOf k = some n)
    (hbeyond : s.beyondLimits n k = true) : applyAlarmReset k s = (s, St.CONFLICT) := by
  unfold applyAlarmReset
  rw [h, hn]
  exact if_pos hbeyond

theorem applyAlarmReset_within {s : State} {k : Nat} (h : (s.mon k).alarm = true)
    (hwithin : ∀ n, s.stringOf k = some n → s.beyondLimits n k = false) :
    applyAlarmReset k s = (s.tellMonitor Com.RESET_ALARM k [], St.OK) := by
  unfold applyAlarmReset
  rw [h]
  cases hn : s.stringOf k with
  | none => rfl
  | some n =>
    dsimp only
    rw [hwithin n hn]
    rfl

section AlarmReset
variable {s : State} {c : Client} {k v : Nat} {h : Held} (ha : s.accepts c Ent.ALARM_RESET k (.num v) h)
include ha

/-- A reset refused with a status leaves the radio. -/
theorem execAlarmReset_refused {st : Nat} (hrefuses : applyAlarmReset k (s.taken h) = (s.taken h, st)) :
    ∃ t, execAlarmReset c k v s = .next t ∧ t.repliesWith h st ∧ t.radio = s.radio := by
  refine ⟨_, rfl, ?_⟩
  rw [State.clientCommand_effect ha rfl hrefuses]
  exact ⟨State.answerLater_repliesWith .., (State.answerLater_radio ..).trans (s.radio_taken h)⟩

theorem execAlarmReset_queues (halarm : (s.mon k).alarm = true) (hwithin : ∀ n, s.stringOf k = some n → s.beyondLimits n k = false) :
    ∃ t, execAlarmReset c k v s = .next t ∧ t.repliesWith h St.OK ∧
      t.radio.cmds = s.radio.cmds ++ [⟨Com.RESET_ALARM, k, [], false, 0, false⟩] := by
  have halarm' : ((s.taken h).mon k).alarm = true := (s.mon_taken h k).symm ▸ halarm
  have hwithin' (n : Nat) (hn : (s.taken h).stringOf k = some n) : (s.taken h).beyondLimits n k = false :=
    (s.beyondLimits_taken h n k).trans (hwithin n ((s.stringOf_taken h k).symm.trans hn))
  refine ⟨_, rfl, ?_⟩
  rw [State.clientCommand_effect ha rfl (applyAlarmReset_within halarm' hwithin'), State.answerLater_radio, State.cmds_tellMonitor,
    s.radio_taken]
  exact ⟨State.answerLater_repliesWith .., rfl⟩

end AlarmReset

/-! ### A monitor test -/

/-- The string of a monitor is in service: it may carry current, or is checked for a weld (R260). -/
def State.monitorBusy (s : State) (k : Nat) : Bool :=
  match s.stringOf k with
  | some n => carrying (s.strState n) || s.strState n == Str.WELD_CHECK
  | none => false

theorem State.monitorBusy_taken (s : State) (h : Held) (k : Nat) : (s.taken h).monitorBusy k = s.monitorBusy k := by
  simp only [State.monitorBusy, s.stringOf_taken, s.strState_taken]

theorem State.monitorBusy_of_string {s : State} {k n : Nat} (h : s.stringOf k = some n) :
    s.monitorBusy k = (carrying (s.strState n) || s.strState n == Str.WELD_CHECK) := by
  rw [State.monitorBusy, h]

theorem State.monitorBusy_of_connected {s : State} {k n : Nat} (h : s.stringOf k = some n) (hst : s.strState n = Str.CONNECTED) :
    s.monitorBusy k = true := by
  rw [State.monitorBusy_of_string h, hst]
  decide

theorem State.monitorBusy_of_disconnected {s : State} {k : Nat}
    (h : ∀ n, s.stringOf k = some n → carrying (s.strState n) = false ∧ s.strState n ≠ Str.WELD_CHECK) : s.monitorBusy k = false := by
  cases hn : s.stringOf k with
  | none => rw [State.monitorBusy, hn]
  | some n =>
    obtain ⟨hoff, hweld⟩ := h n hn
    rw [State.monitorBusy_of_string hn, hoff, beq_eq_false_iff_ne.2 hweld]
    rfl

theorem State.mon_startMonitorTest (s : State) (k : Nat) (slot : Option Nat) :
    (s.startMonitorTest k slot).mon k = { s.mon k with test := some 0 } := State.mon_setMon_same ..

theorem State.running_startMonitorTest (s : State) (k : Nat) (slot : Option Nat) :
    (s.startMonitorTest k slot).running = ⟨Ent.MONITOR_TEST.target k, slot, s.ticks⟩ :: s.running := rfl

theorem State.cmds_startMonitorTest (s : State) (k : Nat) (slot : Option Nat) :
    (s.startMonitorTest k slot).radio.cmds = s.radio.cmds ++ [⟨Com.OPEN_WIRE_TEST, k, leBytes 1 0, false, 0, false⟩] := rfl

theorem applyMonitorTest_eq (k v : Nat) (queue : Bool) (s : State) : applyMonitorTest k v queue s =
    s.testOrQueue (Ent.MONITOR_TEST.target k) (leBytes 1 v) queue (s.monitorBusy k) (fun z slot => z.startMonitorTest k slot) := rfl

theorem applyMonitorTest_begins {s : State} {k v : Nat} {queue : Bool} (hbusy : s.monitorBusy k = false)
    (hfree : ∀ r ∈ s.running, r.target ≠ Ent.MONITOR_TEST.target k) :
    applyMonitorTest k v queue s = (s.startMonitorTest k none, St.OK) := by
  rw [applyMonitorTest_eq, State.testOrQueue, hbusy]
  refine if_neg ?_
  rw [Bool.false_or, List.any_eq_true]
  exact fun ⟨r, hr, htarget⟩ => hfree r hr (beq_iff_eq.1 htarget)

theorem applyMonitorTest_busy {s : State} {k v : Nat} (hbusy : s.monitorBusy k = true) :
    applyMonitorTest k v false s = (s, St.CONFLICT) := by
  rw [applyMonitorTest_eq, State.testOrQueue, hbusy]
  rfl

section MonitorTest
variable {s : State} {c : Client} {k v : Nat} {h : Held} (ha : s.accepts c Ent.MONITOR_TEST k (.num v) h)
include ha

theorem execMonitorTest_begins (hfree : ∀ r ∈ s.running, r.target ≠ Ent.MONITOR_TEST.target k)
    (hoff : ∀ n, s.stringOf k = some n → carrying (s.strState n) = false ∧ s.strState n ≠ Str.WELD_CHECK) :
    ∃ t, execMonitorTest c k v s = .next t ∧ t.repliesWith h St.OK ∧ (t.mon k).test = some 0 ∧
      t.running = ⟨Ent.MONITOR_TEST.target k, none, s.ticks⟩ :: s.running ∧
      t.radio.cmds = s.radio.cmds ++ [⟨Com.OPEN_WIRE_TEST, k, leBytes 1 0, false, 0, false⟩] := by
  have hbegins := applyMonitorTest_begins (v := v) (queue := c.queue)
    ((s.monitorBusy_taken h k).trans (State.monitorBusy_of_disconnected hoff)) ((s.running_taken h).symm ▸ hfree)
  have hticks : (s.taken h).ticks = s.ticks := State.taken_keeps State.ticks (fun _ _ _ _ => rfl) s h
  refine ⟨_, rfl, ?_⟩
  rw [State.clientCommand_effect ha rfl hbegins, State.answerLater_radio, State.answerLater_running, State.mon_congr (State.answerLater_mons ..),
    State.mon_startMonitorTest, State.running_startMonitorTest, State.cmds_startMonitorTest, s.running_taken, s.radio_taken, hticks]
  exact ⟨State.answerLater_repliesWith .., rfl, rfl, rfl⟩

theorem execMonitorTest_conflicts {n : Nat} (hn : s.stringOf k = some n) (hst : s.strState n = Str.CONNECTED) (hqueue : c.queue = false) :
    ∃ t, execMonitorTest c k v s = .next t ∧ t.repliesWith h St.CONFLICT ∧ t.mons = s.mons ∧ t.running = s.running := by
  have hbusy : applyMonitorTest k v c.queue (s.taken h) = (s.taken h, St.CONFLICT) :=
    hqueue.symm ▸ applyMonitorTest_busy ((s.monitorBusy_taken h k).trans (State.monitorBusy_of_connected hn hst))
  refine ⟨_, rfl, ?_⟩
  rw [State.clientCommand_effect ha rfl hbusy, State.answerLater_mons, State.answerLater_running]
  exact ⟨State.answerLater_repliesWith .., s.mons_taken h, s.running_taken h⟩

end MonitorTest

/-! ### A break confirmed -/

/-- The derating causes shown are one entry of the string and an event. -/
theorem State.nat_refreshDerate (s : State) (n : Nat) {e : Entry}
    (he : e.sub < 256 ∧ Ent.DERATE_CAUSES.sub < 256 ∧ e.sub ≠ Ent.DERATE_CAUSES.sub) (m : Nat) : (s.refreshDerate n).nat e m = s.nat e m := by
  unfold State.refreshDerate
  dsimp only
  split
  · rfl
  · rw [State.nat_raise, State.setNat_eq, State.nat_put_sub _ he]

theorem State.refreshDerate_mons (s : State) (n : Nat) : (s.refreshDerate n).mons = s.mons := by
  unfold State.refreshDerate
  dsimp only
  split
  · rfl
  · rw [State.raise_eq, State.raiseWith_mons, State.setNat_eq, State.put_mons]

theorem State.confirmBreak_actSet (s : State) (k wire : Nat) : (s.confirmBreak k wire).actSet = s.actSet := by
  unfold State.confirmBreak
  split
  · rfl
  · exact State.raiseWith_actSet ..

/-- What a suspicion confirmed stores of its wire (R258). -/
theorem State.confirmBreak_reads {s : State} {k wire : Nat} {x : Suspect}
    (h : (s.mon k).suspects.find? (fun y => y.wire == wire) = some x) :
    (s.confirmBreak k wire).nat Ent.WIRE_STATE k = setBit (s.nat Ent.WIRE_STATE k) wire true ∧
      (s.confirmBreak k wire).nat Ent.BREAK_SFN k = s.sfn ∧ (∀ y ∈ ((s.confirmBreak k wire).mon k).suspects, y.wire ≠ wire) ∧
      s.raised (s.confirmBreak k wire) Evt.SENSE_BREAK k wire (word 32 x.bound) := by
  unfold State.confirmBreak
  rw [h]
  dsimp only
  simp only [State.nat_raise, State.nat_setMon]
  refine ⟨?_, State.nat_setNat_same .., ?_, State.raised_of_raise ?_ ?_ ?_ ?_⟩
  · rw [State.setNat_eq, State.nat_put_sub _ (by decide)]
    exact State.nat_setNat_same ..
  · rw [State.raise_eq, State.mon_congr (State.raiseWith_mons ..), State.mon_setMon_same]
    intro y hy
    exact bne_iff_ne.1 (List.mem_filter.1 hy).2
  all_goals simp [State.setMon]

theorem execSenseBreakTimeout_confirms {s : State} {k : Fin 256} {wire : Fin 17} {x : Suspect} {w ch : Nat}
    (hx : (s.mon k).suspects.find? (fun y => y.wire == wire.val) = some x) (hcur : s.radio.cur = some (w, ch)) (hdue : x.sweep + 10 ≤ w) :
    ∃ t, execSenseBreakTimeout k wire s = .next t ∧ t.nat Ent.WIRE_STATE k = setBit (s.nat Ent.WIRE_STATE k) wire true ∧
      t.nat Ent.BREAK_SFN k = s.sfn ∧ (∀ y ∈ (t.mon k).suspects, y.wire ≠ wire.val) ∧
      (s.stringOf k = none → s.raised t Evt.SENSE_BREAK k wire (word 32 x.bound)) := by
  obtain ⟨hwires, hsfn, hgone, hraised⟩ := State.confirmBreak_reads hx
  have hstring : (s.confirmBreak k wire).stringOf k = s.stringOf k := State.stringOf_of_actSet (s.confirmBreak_actSet k wire) k
  have hconfirms : execSenseBreakTimeout k wire s = .next (match (s.confirmBreak k wire).stringOf k with
      | some n => (s.confirmBreak k wire).refreshDerate n
      | none => s.confirmBreak k wire) := by
    unfold execSenseBreakTimeout
    rw [hx, hcur]
    exact if_pos hdue
  refine ⟨_, hconfirms, ?_⟩
  rw [hstring]
  cases hn : s.stringOf k with
  | none => exact ⟨hwires, hsfn, hgone, fun _ => hraised⟩
  | some n =>
    dsimp only
    rw [State.nat_refreshDerate _ _ (by decide), State.nat_refreshDerate _ _ (by decide), State.mon_congr (State.refreshDerate_mons ..)]
    exact ⟨hwires, hsfn, hgone, fun hnone => by cases hnone⟩

/-! ### The causes of a string -/

theorem State.strs_blind : PacketBlind State.strs :=
  ⟨fun _ _ _ _ => rfl, fun _ _ => rfl, fun _ _ => rfl, fun _ _ => rfl, fun _ _ => rfl, fun _ _ => rfl, fun _ _ _ => rfl⟩

theorem State.disconnectGroup_strs (s : State) (g : Nat) : (s.disconnectGroup g).strs = s.strs := by
  unfold State.disconnectGroup
  dsimp only
  split
  · exact State.gatesOff_blind State.strs_blind ..
  · rfl

theorem State.stopGroup_strs (s : State) (g : Nat) : (s.stopGroup g).strs = s.strs := by
  unfold State.stopGroup
  split
  · exact State.setInt_blind State.strs_blind rfl ..
  split
  · exact State.gatesOff_blind State.strs_blind ..
  · rfl

theorem State.cutGroup_strs (s : State) (g : Nat) : (s.cutGroup g).strs = s.strs := by
  unfold State.cutGroup
  dsimp only
  split
  · exact s.stopGroup_strs g
  · exact s.stopGroup_strs g

theorem State.setCoils_strs (s : State) (n : Nat) (pos neg pre : Bool) : (s.setCoils n pos neg pre).strs = s.strs :=
  State.each_keeps _ _ _ State.strs fun z c => z.lcCommand_keeps State.strs (fun _ _ => rfl) c.1 c.2

theorem mem_insertBy {α : Type} {le : α → α → Bool} {a b : α} {l : List α} : b ∈ insertBy le a l ↔ b = a ∨ b ∈ l := by
  induction l with
  | nil => simp [insertBy]
  | cons x l ih =>
    unfold insertBy
    split
    · simp
    · simp only [List.mem_cons, ih]
      exact or_left_comm

theorem mem_sortBy {α : Type} {le : α → α → Bool} {b : α} {l : List α} : b ∈ sortBy le l ↔ b ∈ l := by
  induction l with
  | nil => simp [sortBy]
  | cons x l ih => rw [sortBy, mem_insertBy, ih, List.mem_cons]

/-- The cause `c` of string `n` is active. -/
def State.hasCause (s : State) (n c : Nat) : Prop := c ∈ (s.str n).causes

section Causes
variable {s : State} {n c : Nat}

theorem State.hasCause_congr {t : State} (hs : s.hasCause n c) (h : t.strs = s.strs) : t.hasCause n c := by
  rwa [State.hasCause, State.str_congr h]

theorem State.setStr_hasCause {k : StrSt} (h : c ∈ k.causes) : (s.setStr n k).hasCause n c := by
  rwa [State.hasCause, State.str_setStr_same]

theorem State.raise_hasCause (hs : s.hasCause n c) (k : EvKind) (i p q : Nat) : (s.raise k i p q).hasCause n c :=
  State.hasCause_congr hs (State.raiseWith_strs ..)

variable (hs : s.hasCause n c)
include hs

theorem State.enterStr_hasCause (st : Nat) : (s.enterStr n st).hasCause n c := State.setStr_hasCause hs

theorem State.noteOpening_hasCause (why : Nat) : (s.noteOpening n why).hasCause n c := State.setStr_hasCause hs

theorem State.zeroLimits_hasCause : (s.zeroLimits n).hasCause n c := State.setStr_hasCause hs

/-- A string at rest forgets the opening it was asked for and the loss of its enabling, no other cause (R271). -/
theorem State.settleString_hasCause (h1 : c ≠ 1) (h14 : c ≠ 14) : (s.settleString n).hasCause n c := by
  have hkept : c ∈ (s.str n).causes.filter (fun x => x != 1 && !(x == 14 && s.strEnabled n)) :=
    List.mem_filter.2 ⟨hs, by simp [h1, h14]⟩
  unfold State.settleString
  dsimp only
  split
  · split
    · exact State.setStr_hasCause hkept
    · exact State.raise_hasCause (State.enterStr_hasCause (State.setStr_hasCause hkept) _) _ _ _ _
  · exact State.enterStr_hasCause (State.setStr_hasCause hkept) _

theorem State.openCoils_hasCause (h1 : c ≠ 1) (h14 : c ≠ 14) (hw : Bool) : (s.openCoils n hw).hasCause n c := by
  have hoff : (((s.setCoils n false false false).disconnectGroup n).zeroLimits n).hasCause n c :=
    State.zeroLimits_hasCause (State.hasCause_congr hs ((State.disconnectGroup_strs ..).trans (s.setCoils_strs ..)))
  unfold State.openCoils
  dsimp only
  generalize ((s.setCoils n false false false).disconnectGroup n).zeroLimits n = z at hoff ⊢
  split
  · refine State.enterStr_hasCause (State.setStr_hasCause ?_) _
    exact hoff
  · refine State.settleString_hasCause (State.setStr_hasCause ?_) h1 h14
    exact hoff

end Causes

/-- A cause that is new to a string in use stands among its causes, whatever the string's state (R271). -/
theorem State.stringCause_hasCause {s : State} {n c : Nat} (hnew : c ∉ (s.str n).causes) (hst : s.strState n ≠ Str.DISABLED) (h1 : c ≠ 1)
    (h14 : c ≠ 14) (value : Nat) : (s.stringCause n c value).hasCause n c := by
  have hguard : ¬ (((s.activeCauses n).contains c || s.strState n == Str.DISABLED) = true) := by
    have hinactive : c ∉ s.activeCauses n := fun h => hnew (List.mem_filter.1 h).1
    simp [hinactive, hst]
  unfold State.stringCause
  extract_lets k st s1 s2 noted kNoted limited opened kOpened connected rest
  rw [if_neg hguard]
  have hs1 : s1.hasCause n c :=
    State.setStr_hasCause (k := { k with causes := _, lock := _ }) (mem_sortBy.2 (List.mem_append_right _ (List.mem_singleton_self c)))
  have hs2 : s2.hasCause n c := by
    simp only [s2]
    split
    · exact State.raise_hasCause hs1 _ _ _ _
    split
    · exact hs1
    · exact State.raise_hasCause hs1 _ _ _ _
  have hnoted : noted.hasCause n c := State.noteOpening_hasCause hs2 c
  have hlimited : limited.hasCause n c := State.zeroLimits_hasCause hnoted
  have hopened : opened.hasCause n c := State.enterStr_hasCause hlimited _
  have hconnected : connected.hasCause n c := State.setStr_hasCause hopened
  have hrest : rest.hasCause n c := by
    unfold rest State.when
    split
    · exact State.noteOpening_hasCause hs2 c
    · exact hs2
  clear_value s2 noted limited connected rest
  by_cases hconnecting : connecting st = true
  · rw [if_pos hconnecting]
    split
    · exact State.setStr_hasCause hnoted
    · exact State.openCoils_hasCause hnoted h1 h14 false
  rw [if_neg hconnecting]
  by_cases hcarries : (st == Str.CONNECTED) = true
  · rw [if_pos hcarries]
    split
    · exact State.openCoils_hasCause hlimited h1 h14 false
    split
    · exact State.hasCause_congr hconnected (State.disconnectGroup_strs ..)
    split
    · exact State.hasCause_congr hconnected (State.cutGroup_strs ..)
    · exact State.hasCause_congr hconnected (State.stopGroup_strs ..)
  rw [if_neg hcarries]
  split
  · exact State.openCoils_hasCause hrest h1 h14 false
  split
  · exact State.settleString_hasCause hrest h1 h14
  split
  · exact State.hasCause_congr hrest (State.cutGroup_strs ..)
  · exact hrest

/-! ### Service demanded -/

theorem execServiceDemanded_due {s : State} {k : Fin 256} {n : Nat} (hn : s.stringOf k = some n)
    (hwires : bitsOf 17 (s.nat Ent.WIRE_STATE k) ≠ []) (hdue : s.nat Ent.BREAK_SFN k + 86400000 ≤ s.sfn) (hnew : 9 ∉ (s.str n).causes) :
    execServiceDemanded k s =
      .next ((s.raise Evt.SERVICE_DEMANDED n k ((bitsOf 17 (s.nat Ent.WIRE_STATE k)).headD 0)).stringCause n 9 0) := by
  unfold execServiceDemanded
  rw [hn]
  exact if_pos (by simp [hwires, hdue, hnew])

theorem State.stringCause_disabled {s : State} {n : Nat} (hst : s.strState n = Str.DISABLED) (c value : Nat) :
    s.stringCause n c value = s := if_pos (by simp [hst])

theorem execServiceDemanded_demands {s : State} {k : Fin 256} {n : Nat} (hn : s.stringOf k = some n)
    (hwires : bitsOf 17 (s.nat Ent.WIRE_STATE k) ≠ []) (hdue : s.nat Ent.BREAK_SFN k + 86400000 ≤ s.sfn) (hnew : 9 ∉ (s.str n).causes) :
    ∃ t, execServiceDemanded k s = .next t ∧
      (s.strState n = Str.DISABLED →
        s.raised t Evt.SERVICE_DEMANDED n k ((bitsOf 17 (s.nat Ent.WIRE_STATE k)).headD 0) ∧ { t with ev := s.ev } = s) ∧
      (s.strState n ≠ Str.DISABLED → 9 ∈ (t.str n).causes) := by
  have hstate (e : EvKind) (i p q : Nat) : (s.raise e i p q).strState n = s.strState n := s.nat_raise e i p q Ent.STRING_STATE n 0
  refine ⟨_, execServiceDemanded_due hn hwires hdue hnew, fun hst => ?_, fun hst => ?_⟩
  · rw [State.stringCause_disabled ((hstate ..).trans hst)]
    exact ⟨State.raised_of_raise rfl rfl rfl rfl, s.raise_frame ..⟩
  · refine State.stringCause_hasCause ?_ ((hstate ..).trans_ne hst) (by decide) (by decide) 0
    rwa [State.raise_eq, State.str_congr (State.raiseWith_strs ..)]

/-- Settles O38: a client's writes on the state with the tag taken, the suspicion confirmed, and the cause of the service demanded in
whatever state the string is. -/
theorem monitorsAreResetTestedAndJudged : Obligations.MonitorsAreResetTestedAndJudged := by
  intro s k
  refine ⟨fun c v h ha => ⟨fun halarm => ?_, fun n halarm hn hbeyond => ?_, execAlarmReset_queues ha⟩,
    fun c v h ha hfree => ⟨execMonitorTest_begins ha hfree, fun n => execMonitorTest_conflicts ha⟩,
    fun wire x w ch => execSenseBreakTimeout_confirms, fun n => execServiceDemanded_demands⟩
  · exact execAlarmReset_refused ha (applyAlarmReset_quiet ((s.mon_taken h k).symm ▸ halarm))
  · exact execAlarmReset_refused ha (applyAlarmReset_beyond ((s.mon_taken h k).symm ▸ halarm)
      ((s.stringOf_taken h k).trans hn) ((s.beyondLimits_taken h n k).trans hbeyond))

end Sys2Proof.Machine
end

section
/-!
PROOFS. What a string shows (O39, O40): STRING_STATE and the other entries of a string under the operations of its record, its coils and
its converter group, and what a string comes to rest with (R271, R273).
-/
namespace Sys2Proof.Machine
open Sys2Proof

/-! ### The record and the entries of a string -/

@[simp] theorem State.nat_setStr (s : State) (i : Nat) (k : StrSt) (e : Entry) (n j : Nat) : (s.setStr i k).nat e n j = s.nat e n j := rfl

@[simp] theorem State.strState_enterStr (s : State) (n st : Nat) : (s.enterStr n st).strState n = st :=
  State.nat_setNat_same s Ent.STRING_STATE n st 0

theorem State.nat_enterStr (s : State) (n st : Nat) {e : Entry} (he : e.sub < 256 ∧ Ent.STRING_STATE.sub < 256 ∧ e.sub ≠ Ent.STRING_STATE.sub)
    (m : Nat) : (s.enterStr n st).nat e m = s.nat e m := s.nat_put_sub he n m _

@[simp] theorem State.str_enterStr (s : State) (n st : Nat) : (s.enterStr n st).str n = { s.str n with stateAt := s.ticks } :=
  State.str_setStr_same ..

theorem State.str_zeroLimits (s : State) (n : Nat) :
    (s.zeroLimits n).str n = { s.str n with limDis := 0, limChg := 0, srcDis := 3, srcChg := 3 } := State.str_setStr_same ..

theorem State.nat_zeroLimits (s : State) (n : Nat) {e : Entry}
    (he : e.sub < 256 ∧ e.sub ≠ Ent.STRING_LIMIT_DIS.sub ∧ e.sub ≠ Ent.STRING_LIMIT_CHG.sub) (m : Nat) :
    (s.zeroLimits n).nat e m = s.nat e m := by
  unfold State.zeroLimits
  rw [State.nat_setStr, State.setNat_eq, State.nat_put_sub _ ⟨he.1, by decide, he.2.2⟩, State.setNat_eq,
    State.nat_put_sub _ ⟨he.1, by decide, he.2.1⟩]

theorem State.str_noteOpening (s : State) (n c : Nat) : (s.noteOpening n c).str n = { s.str n with why := c, openAt := s.ticks } :=
  State.str_setStr_same ..

theorem State.nat_noteOpening (s : State) (n c : Nat) : (s.noteOpening n c).nat Ent.LAST_OPEN_CAUSE n = c := by
  unfold State.noteOpening
  rw [State.nat_setStr, State.setNat_eq, State.nat_put_sub _ (by decide), State.nat_setNat_same]

/-- A tag taken leaves the records of the strings. -/
theorem State.strs_taken (s : State) (h : Held) : (s.taken h).strs = s.strs := State.taken_keeps State.strs (fun _ _ _ _ => rfl) s h

theorem State.str_taken (s : State) (h : Held) (n : Nat) : (s.taken h).str n = s.str n := State.str_congr (s.strs_taken h) n

/-- Whether a string is in use rests on the active set. -/
theorem State.strEnabled_of_actSet {s t : State} (h : t.actSet = s.actSet) (n : Nat) : t.strEnabled n = s.strEnabled n := by
  have hflag {e : Entry} (he : e.inSets = true) : t.flag e n = s.flag e n := by simp only [State.flag_def, State.val, he, if_true, h]
  rw [State.strEnabled, State.strEnabled, hflag rfl, hflag rfl]

theorem State.coilsOf_of_actSet {s t : State} (h : t.actSet = s.actSet) (n : Nat) : t.coilsOf n = s.coilsOf n := by
  simp only [State.coilsOf, State.nat_of_actSet (e := Ent.POS_CHANNEL) rfl h, State.nat_of_actSet (e := Ent.NEG_CHANNEL) rfl h,
    State.nat_of_actSet (e := Ent.PRE_CHANNEL) rfl h]

/-- The coils are commanded through their channels alone. -/
theorem State.setCoils_keeps {β : Type} (g : State → β) (hlc : ∀ (z : State) l, g { z with lc := l } = g z) (s : State) (n : Nat)
    (pos neg pre : Bool) : g (s.setCoils n pos neg pre) = g s :=
  State.each_keeps _ _ _ g fun z c => z.lcCommand_keeps g hlc c.1 c.2

/-! ### The converter group of a string -/

section Group
variable {e : Entry} {m : Nat} (he : e.sub < 256 ∧ e.base + m < 0x6000)
include he

/-- The entries below those of the converters stay as a phase and its group change. -/
theorem State.nat_put_converter (s : State) {f : Entry} (hf : 0x6000 ≤ f.base) (n : Nat) (v : Val) : (s.put f n 0 v).nat e m = s.nat e m :=
  State.nat_put_ne _ _ (Entry.key_ne_of_base ⟨he.1, Nat.lt_of_lt_of_le he.2 hf⟩).symm

theorem State.nat_setPhase (s : State) (p st : Nat) : (s.setPhase p st).nat e m = s.nat e m := by
  unfold State.setPhase
  split
  · rfl
  · exact State.nat_put_converter he _ (by decide) _ _

theorem State.nat_cancelPhaseTest (s : State) (p : Nat) : (s.cancelPhaseTest p).nat e m = s.nat e m := by
  unfold State.cancelPhaseTest
  split
  · rw [State.nat_raise, State.nat_setPhase he, State.setNat_eq, State.nat_put_converter he _ (by decide)]
    exact State.endTest_keeps (fun z => z.nat e m) (fun _ _ _ _ _ => State.nat_raise ..) (fun _ _ => rfl) ..
  · rfl

theorem State.nat_gatesOff (s : State) (g st : Nat) : (s.gatesOff g st).nat e m = s.nat e m := by
  unfold State.gatesOff
  extract_lets s0 ps s1
  have hs0 : s0.nat e m = s.nat e m := State.each_keeps _ _ _ (fun z => z.nat e m) (State.nat_cancelPhaseTest he)
  have hs1 : s1.nat e m = s0.nat e m := State.each_keeps _ _ _ (fun z => z.nat e m) fun z p => State.nat_setPhase he z p _
  rw [State.setInt_eq, State.nat_put_converter he _ (by decide), State.setNat_eq, State.nat_put_converter he _ (by decide)]
  exact hs1.trans hs0

theorem State.nat_stopGroup (s : State) (g : Nat) : (s.stopGroup g).nat e m = s.nat e m := by
  unfold State.stopGroup
  split
  · exact State.nat_put_converter he _ (by decide) _ _
  split
  · exact State.nat_gatesOff he ..
  · rfl

theorem State.nat_cutGroup (s : State) (g : Nat) : (s.cutGroup g).nat e m = s.nat e m := by
  unfold State.cutGroup
  dsimp only
  split
  · exact State.nat_stopGroup he s g
  · exact State.nat_stopGroup he s g

end Group

/-! ### Coming to rest -/

/-- Coming to rest leaves whether a test passed since the weld (R279). -/
theorem State.tested_settleString (s : State) (n : Nat) : ((s.settleString n).str n).tested = (s.str n).tested := by
  unfold State.settleString
  dsimp only
  split
  · split
    · rw [State.str_setStr_same]
    · rw [State.raise_eq, State.str_congr (State.raiseWith_strs ..), State.str_enterStr, State.str_setStr_same]
  · rw [State.str_enterStr, State.str_setStr_same]

theorem State.nat_settleString (s : State) (n : Nat) {e : Entry}
    (he : e.sub < 256 ∧ Ent.STRING_STATE.sub < 256 ∧ e.sub ≠ Ent.STRING_STATE.sub) (m : Nat) : (s.settleString n).nat e m = s.nat e m := by
  unfold State.settleString
  dsimp only
  split
  · split
    · rfl
    · rw [State.nat_raise, State.nat_enterStr _ _ _ he, State.nat_setStr]
  · rw [State.nat_enterStr _ _ _ he, State.nat_setStr]

theorem State.strState_settleString_free {s : State} {n : Nat} (h : (s.str n).lock = 0) :
    (s.settleString n).strState n = if s.strEnabled n then Str.OPEN else Str.DISABLED := by
  unfold State.settleString
  dsimp only
  rw [if_neg (by simp [h]), State.strState_enterStr]

theorem State.strState_settleString_locked {s : State} {n : Nat} (h : (s.str n).lock ≠ 0) :
    (s.settleString n).strState n = Str.LOCKED_OUT := by
  unfold State.settleString
  dsimp only
  rw [if_pos (bne_iff_ne.2 h)]
  split
  · next hlocked => exact beq_iff_eq.1 hlocked
  · exact (State.nat_raise ..).trans (State.strState_enterStr ..)

end Sys2Proof.Machine
end

section
/-!
PROOFS. The causes of an opening, STRING_RESET and STRING_TEST (O40): the opening of a connected string (R271, R272), a cause that clears,
a client's reset (R279), and a string test begun and done (R280).
-/
namespace Sys2Proof.Machine
open Sys2Proof

/-! ### A connected string opens -/

/-- A cause new to a connected string begins its opening as the first cause of it, but for the hardware path, which turns the gates off at
once, and a lost half, which turns the coils off (R271, R272). -/
theorem State.stringCause_opens {s : State} {n c : Nat} (hn : n < 8) (hst : s.strState n = Str.CONNECTED) (hnew : c ∉ (s.str n).causes)
    (h2 : c ≠ 2) (h16 : c ≠ 16) (value : Nat) :
    (s.stringCause n c value).strState n = Str.OPENING ∧ (s.stringCause n c value).nat Ent.LAST_OPEN_CAUSE n = c ∧
      ((s.stringCause n c value).str n).why = c ∧
      ((s.stringCause n c value).str n).lock = if latching c && (s.str n).lock == 0 then c else (s.str n).lock := by
  have hguard : ¬ (((s.activeCauses n).contains c || s.strState n == Str.DISABLED) = true) := by
    have hinactive : c ∉ s.activeCauses n := fun h => hnew (List.mem_filter.1 h).1
    simp [hinactive, hst, Str.CONNECTED, Str.DISABLED]
  have hidle : ¬ connecting (s.strState n) = true := by
    rw [hst]
    decide
  unfold State.stringCause
  extract_lets k st s1 s2 noted kNoted limited opened kOpened connected rest
  rw [if_neg hguard, if_neg hidle, if_pos (beq_iff_eq.2 hst), if_neg (by simpa using h16), if_neg (by simpa using h2)]
  have hs2 : s2.str n = s1.str n := by
    simp only [s2]
    split
    · exact State.str_congr (State.raiseWith_strs ..) n
    split
    · rfl
    · exact State.str_congr (State.raiseWith_strs ..) n
  have hstate : connected.strState n = Str.OPENING := (State.nat_setStr ..).trans (State.strState_enterStr ..)
  have hcause : connected.nat Ent.LAST_OPEN_CAUSE n = c := by
    rw [State.nat_setStr, State.nat_enterStr _ _ _ (by decide), State.nat_zeroLimits _ _ (by decide), State.nat_noteOpening]
  have hrecord : connected.str n = { s1.str n with why := c, openAt := s2.ticks, limDis := 0, limChg := 0, srcDis := 3, srcChg := 3,
                                                   stateAt := limited.ticks, lowRun := 0 } := by
    simp only [connected, kOpened, opened, limited, State.str_setStr_same, State.str_enterStr, State.str_zeroLimits,
      State.str_noteOpening, hs2]
  have hends {t : State} (hstrs : t.strs = connected.strs)
      (hnat : ∀ {e : Entry}, e.sub < 256 ∧ e.base + n < 0x6000 → t.nat e n = connected.nat e n) :
      t.strState n = Str.OPENING ∧ t.nat Ent.LAST_OPEN_CAUSE n = c ∧ (t.str n).why = c ∧
        (t.str n).lock = if latching c && (s.str n).lock == 0 then c else (s.str n).lock := by
    have hbelow {e : Entry} (he : e.base = 0x4000) : e.base + n < 0x6000 := by omega
    rw [State.str_congr hstrs, hrecord]
    refine ⟨(hnat ⟨by decide, hbelow rfl⟩).trans hstate, (hnat ⟨by decide, hbelow rfl⟩).trans hcause, rfl, ?_⟩
    simp only [s1, State.str_setStr_same]
    rfl
  split
  · exact hends (State.cutGroup_strs ..) fun he => State.nat_cutGroup he ..
  · exact hends (State.stopGroup_strs ..) fun he => State.nat_stopGroup he ..

theorem execStringOverCurrent_opens {s : State} {n : Fin 8} (hst : s.strState n = Str.CONNECTED) (hover : 10 ≤ (s.str n).overRun)
    (hnew : 6 ∉ (s.str n).causes) (hfree : (s.str n).lock = 0) :
    ∃ t, execStringOverCurrent n s = .next t ∧ t.strState n = Str.OPENING ∧ 6 ∈ (t.str n).causes ∧ (t.str n).lock = 6 ∧
      t.nat Ent.LAST_OPEN_CAUSE n = 6 := by
  obtain ⟨hstate, hcause, -, hlock⟩ := State.stringCause_opens n.isLt hst hnew (by decide) (by decide) (tenthWord (ratAbs (s.strAmps n)))
  rw [hfree] at hlock
  exact ⟨_, if_pos hover, hstate, State.stringCause_hasCause hnew (hst.trans_ne (by decide)) (by decide) (by decide) _, hlock, hcause⟩

theorem execStringInsulationFault_opens {s : State} {n : Fin 8} {b : Nat} (hst : s.strState n = Str.CONNECTED)
    (hlow : (s.str n).isoLow = some b) (hdue : b + secTicks (s.nat Ent.ISO_FAULT_TIME n) ≤ s.ticks) (hnew : 10 ∉ (s.str n).causes) :
    ∃ t, execStringInsulationFault n s = .next t ∧ t.strState n = Str.OPENING ∧ 10 ∈ (t.str n).causes ∧ (t.str n).why = 10 := by
  obtain ⟨hstate, -, hwhy, -⟩ := State.stringCause_opens n.isLt hst hnew (by decide) (by decide) 0
  have hopens : execStringInsulationFault n s = .next (s.stringCause n 10 0) := by
    unfold execStringInsulationFault
    rw [hlow]
    exact if_pos hdue
  exact ⟨_, hopens, hstate, State.stringCause_hasCause hnew (hst.trans_ne (by decide)) (by decide) (by decide) _, hwhy⟩

theorem execStringCurrentSenseLost_opens {s : State} {n : Fin 8} (hst : s.strState n = Str.CONNECTED) (hbad : 20 ≤ (s.str n).badRun)
    (hnew : 11 ∉ (s.str n).causes) :
    ∃ t, execStringCurrentSenseLost n s = .next t ∧ t.strState n = Str.OPENING ∧ 11 ∈ (t.str n).causes ∧
      t.nat Ent.LAST_OPEN_CAUSE n = 11 := by
  obtain ⟨hstate, hcause, -, -⟩ := State.stringCause_opens n.isLt hst hnew (by decide) (by decide) 0
  exact ⟨_, if_pos hbad, hstate, State.stringCause_hasCause hnew (hst.trans_ne (by decide)) (by decide) (by decide) _, hcause⟩

theorem execStringCauseCleared_clears {s : State} {n : Fin 8} {cause : Fin 17} (hclear : s.causeCleared n cause = true)
    (hfree : latching cause = false) :
    ∃ t, execStringCauseCleared n cause s = .next t ∧ cause.val ∉ (t.str n).causes ∧ { t with strs := s.strs } = s := by
  refine ⟨_, if_pos (by rw [hclear, hfree]; rfl), ?_, rfl⟩
  rw [State.str_setStr_same]
  simp

/-! ### A client's reset of a string -/

theorem applyStringReset_unlocked {s : State} {n : Nat} (h : s.strState n ≠ Str.LOCKED_OUT) : applyStringReset n s = (s, St.ALREADY_DONE) :=
  if_pos (bne_iff_ne.2 h)

theorem applyStringReset_welded {s : State} {n : Nat} (h : s.strState n = Str.LOCKED_OUT) (hweld : 13 ∈ (s.str n).causes)
    (htest : (s.str n).tested = false) : applyStringReset n s = (s, St.CONFLICT) := by
  unfold applyStringReset
  dsimp only
  rw [if_neg (by simp [h])]
  refine if_pos (List.any_eq_true.2 ⟨13, hweld, ?_⟩)
  rw [htest]
  rfl

/-- Without a condition still present the lock goes, with the causes that locked and the failures counted (R279). -/
theorem applyStringReset_unlocks {s : State} {n : Nat} (h : s.strState n = Str.LOCKED_OUT)
    (hcauses : ∀ x ∈ (s.str n).causes, x = 13 ∨ (latching x = false ∧ x ≠ 12)) (hweld : 13 ∈ (s.str n).causes → (s.str n).tested = true) :
    ∃ z : State, applyStringReset n s = (z.enterStr n (if s.strEnabled n then Str.OPEN else Str.DISABLED), St.OK) ∧
      (z.str n).lock = 0 ∧ (z.str n).fails = [] := by
  unfold applyStringReset
  extract_lets k present z
  refine ⟨z, ?_, by simp [z], by simp [z]⟩
  rw [if_neg (by simp [h]), if_neg]
  rw [List.any_eq_true]
  rintro ⟨x, hx, hpresent⟩
  rcases hcauses x hx with rfl | ⟨hlatch, h12⟩
  · simp [present, k, hweld hx] at hpresent
  · simp [hlatch, h12] at hpresent

section Reset
variable {s : State} {c : Client} {n v : Nat} {h : Held} (ha : s.accepts c Ent.STRING_RESET n (.num v) h)
include ha

theorem execStringReset_refused {st : Nat} (hrefuses : applyStringReset n (s.taken h) = (s.taken h, st)) :
    ∃ t, execStringReset c n v s = .next t ∧ t.repliesWith h st ∧ t.strs = s.strs := by
  refine ⟨_, rfl, ?_⟩
  rw [State.clientCommand_effect ha rfl hrefuses]
  exact ⟨State.answerLater_repliesWith .., (State.answerLater_strs ..).trans (s.strs_taken h)⟩

theorem execStringReset_unlocks (hst : s.strState n = Str.LOCKED_OUT)
    (hcauses : ∀ x ∈ (s.str n).causes, x = 13 ∨ (latching x = false ∧ x ≠ 12)) (hweld : 13 ∈ (s.str n).causes → (s.str n).tested = true) :
    ∃ t, execStringReset c n v s = .next t ∧ t.repliesWith h St.OK ∧ (t.str n).lock = 0 ∧ (t.str n).fails = [] ∧
      t.strState n = (if s.strEnabled n then Str.OPEN else Str.DISABLED) := by
  obtain ⟨z, hunlocks, hlock, hfails⟩ := applyStringReset_unlocks ((s.strState_taken h n).trans hst)
    ((s.str_taken h n).symm ▸ hcauses) ((s.str_taken h n).symm ▸ hweld)
  refine ⟨_, rfl, ?_⟩
  rw [State.clientCommand_effect ha rfl hunlocks, State.str_congr (State.answerLater_strs ..), State.str_enterStr]
  exact ⟨State.answerLater_repliesWith .., hlock, hfails, (State.nat_answerLater ..).trans ((State.strState_enterStr ..).trans
    (by rw [State.strEnabled_of_actSet (s.taken_actSet h)]))⟩

end Reset

/-! ### A string test begun -/

theorem State.strInService_taken (s : State) (h : Held) (n : Nat) : (s.taken h).strInService n = s.strInService n := by
  have hon : (s.taken h).lcOn = s.lcOn := funext fun c => by rw [State.lcOn, State.lcOn, State.lcs, State.lcs, s.taken_lc]
  rw [State.strInService, State.strInService, State.coilsInUse, State.coilsInUse, hon, s.str_taken, s.strState_taken,
    State.coilsOf_of_actSet (s.taken_actSet h)]

theorem applyStringTest_begins {s : State} {n v : Nat} {queue : Bool} (hidle : s.strInService n = false)
    (hfree : ∀ r ∈ s.running, r.target ≠ Ent.STRING_TEST.target n) :
    applyStringTest n v queue s = (s.startStringTest n none, St.OK) := by
  unfold applyStringTest State.testOrQueue
  rw [hidle]
  refine if_neg ?_
  rw [Bool.false_or, List.any_eq_true]
  exact fun ⟨r, hr, htarget⟩ => hfree r hr (beq_iff_eq.1 htarget)

theorem applyStringTest_busy {s : State} {n v : Nat} (hbusy : s.strInService n = true) : applyStringTest n v false s = (s, St.CONFLICT) := by
  unfold applyStringTest State.testOrQueue
  rw [hbusy]
  rfl

theorem State.startStringTest_starts (s : State) (n : Nat) (slot : Option Nat) :
    (s.startStringTest n slot).strState n = Str.TESTING ∧ ((s.startStringTest n slot).str n).step = 1 ∧
      (s.startStringTest n slot).running = ⟨Ent.STRING_TEST.target n, slot, s.ticks⟩ :: s.running := by
  refine ⟨State.strState_enterStr (s.beginTest (Ent.STRING_TEST.target n) slot) n Str.TESTING, ?_, ?_⟩
  · exact congrArg StrSt.step (State.str_setStr_same ..)
  · exact State.put_running (s.beginTest (Ent.STRING_TEST.target n) slot) Ent.STRING_STATE n 0 (.num Str.TESTING)

section Test
variable {s : State} {c : Client} {n v : Nat} {h : Held} (ha : s.accepts c Ent.STRING_TEST n (.num v) h)
include ha

theorem execStringTest_begins (hfree : ∀ r ∈ s.running, r.target ≠ Ent.STRING_TEST.target n) (hidle : s.strInService n = false) :
    ∃ t, execStringTest c n v s = .next t ∧ t.repliesWith h St.OK ∧ t.strState n = Str.TESTING ∧ (t.str n).step = 1 ∧
      t.running = ⟨Ent.STRING_TEST.target n, none, s.ticks⟩ :: s.running := by
  have hbegins := applyStringTest_begins (v := v) (queue := c.queue) ((s.strInService_taken h n).trans hidle)
    ((s.running_taken h).symm ▸ hfree)
  have hticks : (s.taken h).ticks = s.ticks := State.taken_keeps State.ticks (fun _ _ _ _ => rfl) s h
  obtain ⟨hstate, hstep, hrunning⟩ := (s.taken h).startStringTest_starts n none
  refine ⟨_, rfl, ?_⟩
  rw [State.clientCommand_effect ha rfl hbegins, State.str_congr (State.answerLater_strs ..), State.answerLater_running, hrunning,
    s.running_taken, hticks]
  exact ⟨State.answerLater_repliesWith .., (State.nat_answerLater ..).trans hstate, hstep, rfl⟩

theorem execStringTest_conflicts (hbusy : s.strInService n = true) (hqueue : c.queue = false) :
    ∃ t, execStringTest c n v s = .next t ∧ t.repliesWith h St.CONFLICT ∧ t.strs = s.strs ∧ t.running = s.running := by
  have hconflict : applyStringTest n v c.queue (s.taken h) = (s.taken h, St.CONFLICT) :=
    hqueue.symm ▸ applyStringTest_busy ((s.strInService_taken h n).trans hbusy)
  refine ⟨_, rfl, ?_⟩
  rw [State.clientCommand_effect ha rfl hconflict, State.answerLater_strs, State.answerLater_running]
  exact ⟨State.answerLater_repliesWith .., s.strs_taken h, s.running_taken h⟩

end Test

/-! ### A string test done -/

/-- The end of a test changes the coils' channels, the tests running, its result and the log, and nothing else (R280). -/
theorem State.stringTestEnd_keeps {β : Type} (g : State → β) (hlc : ∀ (z : State) l, g { z with lc := l } = g z)
    (hraise : ∀ (z : State) k i p q, g (z.raise k i p q) = g z) (hrunning : ∀ (z : State) r, g { z with running := r } = g z)
    (hput : ∀ (z : State) n v, g (z.setNat Ent.STRING_TEST_RESULT n v) = g z) (s : State) (n target st rises : Nat) :
    g ((((s.setCoils n false false false).endTest target st).setNat Ent.STRING_TEST_RESULT n st).raise Evt.STRING_TEST_DONE n st rises) = g s :=
  (hraise ..).trans ((hput ..).trans ((State.endTest_keeps g hraise hrunning ..).trans (State.setCoils_keeps g hlc ..)))

/-- A passed test is noted in the string's record and on the main coils' channels, and nowhere else (R279, R391). -/
theorem State.clearWeld_keeps {β : Type} (g : State → β) (hlc : ∀ (z : State) l, g { z with lc := l } = g z)
    (hstr : ∀ (z : State) l, g { z with strs := l } = g z) (s : State) (n : Nat) : g (s.clearWeld n) = g s :=
  (hstr ..).trans ((State.setWeld_keeps g hlc ..).trans (State.setWeld_keeps g hlc ..))

theorem State.str_clearWeld (s : State) (n : Nat) : (s.clearWeld n).str n = { s.str n with tested := true } := State.str_setStr_same ..

theorem execStringTestDone_ends {s : State} {n : Fin 8} (hst : s.strState n = Str.TESTING) (hstep : (s.str n).step = 4) :
    ∃ t, execStringTestDone n s = .next t ∧ t.nat Ent.STRING_TEST_RESULT n = (if (s.str n).rises = 0 then St.OK else St.RANGE) ∧
      ((s.str n).rises = 0 → (t.str n).tested = true) ∧
      ((s.str n).lock = 0 → t.strState n = (if s.strEnabled n then Str.OPEN else Str.DISABLED)) ∧
      ((s.str n).lock ≠ 0 → t.strState n = Str.LOCKED_OUT) := by
  unfold execStringTestDone
  extract_lets m k st s1 s2
  rw [if_pos (by simp [m, k, hst, hstep])]
  let z := s1.raise Evt.STRING_TEST_DONE m st k.rises
  have hstrs : z.strs = s.strs :=
    State.stringTestEnd_keeps State.strs (fun _ _ => rfl) (fun _ _ _ _ _ => State.raiseWith_strs ..) (fun _ _ => rfl)
      (fun _ _ _ => State.put_strs ..) ..
  have hset : z.actSet = s.actSet :=
    State.stringTestEnd_keeps State.actSet (fun _ _ => rfl) (fun _ _ _ _ _ => State.raiseWith_actSet ..) (fun _ _ => rfl)
      (fun _ _ _ => State.actSet_put _ _ _ _ _ rfl) ..
  have hresult : z.nat Ent.STRING_TEST_RESULT n = st := (State.nat_raise ..).trans (State.nat_setNat_same ..)
  have hs2 : s2.nat Ent.STRING_TEST_RESULT n = st ∧ s2.actSet = s.actSet ∧ (s2.str n).lock = (s.str n).lock ∧
      (st = St.OK → (s2.str n).tested = true) := by
    simp only [s2, State.when]
    split
    · rw [State.str_clearWeld, State.str_congr hstrs, State.clearWeld_keeps State.actSet (fun _ _ => rfl) (fun _ _ => rfl),
        State.clearWeld_keeps (fun y => y.nat Ent.STRING_TEST_RESULT n) (fun _ _ => rfl) (fun _ _ => rfl)]
      exact ⟨hresult, hset, rfl, fun _ => rfl⟩
    · next hfail => exact ⟨hresult, hset, by rw [State.str_congr hstrs], fun hok => absurd (beq_iff_eq.2 hok) hfail⟩
  obtain ⟨hresult2, hset2, hlock, htested⟩ := hs2
  refine ⟨_, rfl, ?_, fun hnone => ?_, fun hfree => ?_, fun hlocked => ?_⟩
  · rw [State.nat_settleString _ _ (by decide), hresult2]
    simp only [st, beq_iff_eq, k, m]
  · exact (s2.tested_settleString n).trans (htested (if_pos (beq_iff_eq.2 hnone)))
  · rw [State.strState_settleString_free (hlock.trans hfree), State.strEnabled_of_actSet hset2]
  · exact State.strState_settleString_locked (hlock.trans_ne hlocked)

/-- Settles O40: the three causes that open a connected string, the cause that clears, a client's reset and test on the state with the tag
taken, and the end of a test by the rises it found. -/
theorem stringsTripAndAreReset : Obligations.StringsTripAndAreReset := by
  intro s n
  refine ⟨fun hst => ⟨execStringOverCurrent_opens hst, fun b => execStringInsulationFault_opens hst, execStringCurrentSenseLost_opens hst⟩,
    fun cause => execStringCauseCleared_clears, fun c v h ha => ⟨fun hst => ?_, fun hst hweld htest => ?_, execStringReset_unlocks ha⟩,
    fun c v h ha hfree => ⟨execStringTest_begins ha hfree, execStringTest_conflicts ha⟩, execStringTestDone_ends⟩
  · exact execStringReset_refused ha (applyStringReset_unlocked ((s.strState_taken h n).trans_ne hst))
  · exact execStringReset_refused ha (applyStringReset_welded ((s.strState_taken h n).trans hst)
      ((s.str_taken h n).symm ▸ hweld) ((s.str_taken h n).symm ▸ htest))

end Sys2Proof.Machine
end

section
/-!
PROOFS. A forced opening (O39): the record of its event holds the first cause cut to a word (R272, Table 4-7).
-/
namespace Sys2Proof.Machine
open Sys2Proof

theorem State.disconnectGroup_off {s : State} {g : Nat} (h : (s.conv g).st = Grp.OFF) : s.disconnectGroup g = s :=
  if_neg (by rw [h]; decide)

theorem State.zeroLimits_ev (s : State) (n : Nat) : (s.zeroLimits n).ev = s.ev := by
  simp only [State.zeroLimits, State.setStr, State.setNat_eq, State.put_ev]

/-- The opening of a live string whose converter group is off raises no event. -/
theorem State.openCoils_ev {s : State} {n : Nat} (hgroup : (s.conv n).st = Grp.OFF) (hlive : 60 ≤ s.strVolts n - s.strFloor n) (hw : Bool) :
    (s.openCoils n hw).ev = s.ev := by
  have hconv : (s.setCoils n false false false).conv n = s.conv n := State.setCoils_keeps (fun z => z.conv n) (fun _ _ => rfl) ..
  unfold State.openCoils
  dsimp only
  rw [if_pos hlive, State.disconnectGroup_off (hconv ▸ hgroup)]
  simp only [State.enterStr, State.setStr, State.setNat_eq, State.put_ev, State.zeroLimits_ev]
  exact State.setCoils_keeps State.ev (fun _ _ => rfl) ..

/-- The second parameter of a record is a word of 32 bits (Table 4-7). -/
theorem State.raise_param2_word {s : State} (hs : ∀ r ∈ s.ev.log, r.param2 < 2 ^ 32) (k : EvKind) (i p q : Nat) :
    ∀ r ∈ (s.raise k i p q).ev.log, r.param2 < 2 ^ 32 := by
  unfold State.raise State.raiseWith
  split
  · intro r hr
    rcases List.mem_cons.1 hr with rfl | hold
    · exact Nat.mod_lt _ (by decide)
    · split at hold
      · exact hs r (List.mem_of_mem_dropLast hold)
      · exact hs r hold
  · exact hs

/-- A forced opening logs its event with a word for the first cause. -/
theorem execStringForcedOpen_logsWord {s t : State} {n : Fin 8} (hst : s.strState n = Str.OPENING) (hrope : (s.str n).ropeOff = none)
    (hdue : (s.str n).openAt + msTicks (s.nat Ent.OPEN_TIMEOUT n) ≤ s.ticks) (hlive : 60 ≤ s.strVolts n - s.strFloor n)
    (hgroup : (s.conv n).st = Grp.OFF) (hlog : ∀ r ∈ s.ev.log, r.param2 < 2 ^ 32) (ht : execStringForcedOpen n s = .next t)
    {q : EventRec} (hq : q ∈ t.ev.log) : q.param2 < 2 ^ 32 := by
  have hopens : execStringForcedOpen n s =
      .next ((s.raise Evt.STRING_FORCED_OPEN n (tenthWord (s.strAmps n)) (s.str n).why).openCoils n false) :=
    if_pos (by simp [hst, hrope, hdue])
  have hev : t.ev = (s.raise Evt.STRING_FORCED_OPEN n (tenthWord (s.strAmps n)) (s.str n).why).ev := by
    rw [← Host.Outcome.next.inj (hopens.symm.trans ht)]
    refine State.openCoils_ev ?_ ?_ false
    · rw [State.raise_eq, State.conv_congr (State.raiseWith_convs ..), hgroup]
    · simpa only [State.strVolts, State.strFloor, State.vBus, State.chan, State.rat, State.nat_raise] using hlive
  rw [hev] at hq
  exact State.raise_param2_word hlog _ _ _ _ q hq

/-- Refutes O39: string 0 is being opened for a first cause of 2^32, which no cause of Table 11-2 is, at 60 V and past OPEN_TIMEOUT. The
record of its forced opening holds the cause cut to a word of 32 bits, 0. The statement ranges over every state, and no hypothesis of it
makes the first cause a word. -/
theorem not_stringsConnectAndOpen : ¬ Obligations.StringsConnectAndOpen := by
  intro hall
  obtain ⟨s, hst, hrope, hlive, hdue, hgroup, hroom, hlog, hwhy⟩ :
      ∃ s : State, s.strState (0 : Fin 8) = Str.OPENING ∧ (s.str (0 : Fin 8)).ropeOff = none ∧
        60 ≤ s.strVolts (0 : Fin 8) - s.strFloor (0 : Fin 8) ∧
        (s.str (0 : Fin 8)).openAt + msTicks (s.nat Ent.OPEN_TIMEOUT (0 : Fin 8)) ≤ s.ticks ∧ (s.conv (0 : Fin 8)).st = Grp.OFF ∧
        s.mayRaise ∧ s.ev.log = [] ∧ (s.str (0 : Fin 8)).why = 2 ^ 32 :=
    ⟨{ State.reset with
        ticks := 2000
        cells := [(Ent.STRING_STATE.key, .num Str.OPENING), (Ent.MCH_VALUE.key, .num 0x42700000)]
        actSet := [(Ent.STRING_V_MCH.key, .num 0)]
        strs := [(0, { StrSt.none with why := 2 ^ 32 })] },
      by decide +kernel, by decide +kernel, by decide +kernel, by decide +kernel, by decide +kernel, Nat.zero_lt_succ _, rfl,
      by decide +kernel⟩
  obtain ⟨-, -, -, -, -, -, -, -, -, hopening, -⟩ := hall s 0
  obtain ⟨-, hforced⟩ := hopening hst hrope hlive
  obtain ⟨t, ht, -, hevent⟩ := hforced hdue
  obtain ⟨q, hq, -, -, -, hcause⟩ := hevent hroom
  have hword : q.param2 < 2 ^ 32 := execStringForcedOpen_logsWord hst hrope hdue hlive hgroup (by simp [hlog]) ht hq
  exact Nat.lt_irrefl (2 ^ 32) (hwhy ▸ hcause ▸ hword)

end Sys2Proof.Machine
end

section
/-!
PROOFS. What an own value of the device shows of the writes, events and free values beside it, and CROSS_RESET (O58): the point's
cross-check state, its billing source and the legal log (R341).
-/
namespace Sys2Proof.Machine
open Sys2Proof

/-! ### Readings that own values, events and free values do not show -/

/-- A reading of the state that shows no event, no free value used and no own value whose key is in `K`. -/
structure OwnBlind {β : Type} (g : State → β) (K : Nat → Prop) : Prop where
  put : ∀ (s : State) (e : Entry) (n j : Nat) (v : Val), e.inSets = false → K (e.key n j) → g (s.put e n j v) = g s
  event : ∀ (s : State) x, g { s with ev := x } = g s
  free : ∀ (s : State) x, g { s with free := x } = g s

section OwnBlind
variable {β : Type} {g : State → β} {K : Nat → Prop} (hg : OwnBlind g K)
include hg

theorem State.raise_own (s : State) (k : EvKind) (i p q : Nat) : g (s.raise k i p q) = g s := by
  rw [State.raise_eq_ev]
  exact hg.event ..

theorem State.fitNat_own {e : Entry} (he : e.inSets = false) {n j : Nat} (hk : K (e.key n j)) (s : State) (v : Nat) :
    g (s.fitNat e n v j) = g s := by
  unfold State.fitNat
  split
  · exact hg.put _ _ _ _ _ he hk
  · exact (hg.put s.takeFree.2 _ _ _ _ he hk).trans (hg.free ..)

theorem State.fitInt_own {e : Entry} (he : e.inSets = false) {n j : Nat} (hk : K (e.key n j)) (s : State) (v : Int) :
    g (s.fitInt e n v j) = g s := by
  unfold State.fitInt
  extract_lets w fits
  split
  · exact hg.put _ _ _ _ _ he hk
  · exact (hg.put s.takeFree.2 _ _ _ _ he hk).trans (hg.free ..)

theorem State.bump_own {e : Entry} (he : e.inSets = false) {n j : Nat} (hk : K (e.key n j)) (s : State) (m : Nat) :
    g (s.bump e n j m) = g s := by
  unfold State.bump
  dsimp only
  split
  · exact hg.put _ _ _ _ _ he hk
  · exact (hg.put s.takeFree.2 _ _ _ _ he hk).trans (hg.free ..)

end OwnBlind

/-- An own value shows no write at another key. -/
theorem OwnBlind.val (e : Entry) (n j : Nat) : OwnBlind (fun s => s.val e n j) (· ≠ e.key n j) where
  put _ _ _ _ _ _ hk := State.val_put_ne _ _ _ _ _ _ _ _ (Ne.symm hk)
  event _ _ := rfl
  free _ _ := rfl

theorem OwnBlind.nat (e : Entry) (n j : Nat) : OwnBlind (fun s => s.nat e n j) (· ≠ e.key n j) where
  put _ _ _ _ _ _ hk := State.nat_put_ne _ _ (Ne.symm hk)
  event _ _ := rfl
  free _ _ := rfl

/-- What no own value shows: a field of the state beside them. -/
theorem OwnBlind.legal : OwnBlind State.legal fun _ => True where
  put _ _ _ _ _ _ _ := State.put_legal ..
  event _ _ := rfl
  free _ _ := rfl

/-! ### The legal log and a point's source -/

/-- A reading that shows nothing of the streams to the host. -/
structure StreamBlind {β : Type} (g : State → β) (K : Nat → Prop) : Prop extends OwnBlind g K where
  stream : ∀ (s : State) x, g { s with stream := x } = g s

section StreamBlind
variable {β : Type} {g : State → β} {K : Nat → Prop} (hg : StreamBlind g K)
include hg

theorem State.setStrm_blind (s : State) (t : Nat) (q : StreamQ) : g (s.setStrm t q) = g s := hg.stream ..

theorem State.reportDrops_blind (s : State) (t : Nat) : g (s.reportDrops t) = g s := by
  unfold State.reportDrops
  extract_lets q due
  split
  · exact (State.raise_own hg.toOwnBlind ..).trans (State.setStrm_blind hg ..)
  · rfl

theorem State.streamRecord_blind {t : Nat} (hK : K (Ent.STREAM_DROPPED.key 0 (t - 1))) (s : State) (r : List Byte) :
    g (s.streamRecord t r) = g s := by
  unfold State.streamRecord
  extract_lets q
  split
  · rfl
  split
  · exact State.setStrm_blind hg ..
  split
  · exact State.setStrm_blind hg ..
  · exact (State.reportDrops_blind hg ..).trans ((State.setStrm_blind hg ..).trans (State.bump_own hg.toOwnBlind rfl hK ..))

end StreamBlind

/-- A reading that shows nothing of the legal log's records and of the stream its records leave by. -/
structure LegalBlind {β : Type} (g : State → β) (K : Nat → Prop) : Prop extends StreamBlind g K where
  legal : ∀ (s : State) x y n, g { s with legal := { s.legal with log := x, last := y, seq := n } } = g s

/-- The own values a record of the legal log moves: its bounds, its losses, and the records its stream drops. -/
def ofLegalLog (k : Nat) : Prop :=
  k = Ent.LEGAL_LOG_NEWEST.key ∨ k = Ent.LEGAL_LOG_OLDEST.key ∨ k = Ent.LEGAL_LOG_LOST.key ∨ k = Ent.STREAM_DROPPED.key 0 1

section LegalBlind
variable {β : Type} {g : State → β} {K : Nat → Prop} (hg : LegalBlind g K)
include hg

theorem State.showLegal_blind (hK : ∀ k, ofLegalLog k → K k) (s : State) : g s.showLegal = g s :=
  (hg.put _ _ _ _ _ rfl (hK _ (.inr (.inl rfl)))).trans (hg.put _ _ _ _ _ rfl (hK _ (.inl rfl)))

/-- A record of the legal log of both dies leaves by the log stream, kind 2 (Table 20-2). -/
theorem State.legalLog_blind (hK : ∀ k, ofLegalLog k → K k) (s : State) (kind origin object p q : Nat) :
    g (s.legalLog kind origin object p q) = g s := by
  unfold State.legalLog
  split
  · exact State.bump_own hg.toOwnBlind rfl (hK _ (.inr (.inr (.inl rfl)))) ..
  dsimp only
  refine (State.when_keeps _ _ _ g fun z => State.raise_own hg.toOwnBlind ..).trans
    ((State.when_keeps _ _ _ g fun z => State.raise_own hg.toOwnBlind ..).trans ?_)
  exact (State.streamRecord_blind (t := 2) hg.toStreamBlind (hK _ (.inr (.inr (.inr rfl)))) ..).trans
    ((State.showLegal_blind hg hK _).trans (hg.legal ..))

end LegalBlind

/-- An own value that is none of the legal log's shows none of its records. -/
theorem LegalBlind.nat {e : Entry} {n j : Nat} : LegalBlind (fun s => s.nat e n j) (· ≠ e.key n j) where
  toOwnBlind := OwnBlind.nat e n j
  stream _ _ := rfl
  legal _ _ _ _ := rfl

/-- A record of the legal log finds no place, or stands first in it with the next sequence (R345, R509). -/
theorem State.legalLog_log (s : State) (kind origin object p q : Nat) :
    if s.legalFull || (kind == 4 && s.legalLow) then (s.legalLog kind origin object p q).legal = s.legal
    else (s.legalLog kind origin object p q).legal.seq = nextSeq s.legal.seq ∧
      ∃ r, (s.legalLog kind origin object p q).legal.log = (nextSeq s.legal.seq, r) :: s.legal.log := by
  have hblind : StreamBlind State.legal fun _ => True := { OwnBlind.legal with stream := fun _ _ => rfl }
  have hlegal (z : State) (r : List Byte) : ((z.showLegal).streamLog 2 r).legal = z.legal :=
    (State.streamRecord_blind (t := 2) hblind trivial ..).trans
      ((OwnBlind.legal.put _ _ _ _ _ rfl trivial).trans (OwnBlind.legal.put _ _ _ _ _ rfl trivial))
  unfold State.legalLog
  dsimp only
  split
  · exact State.bump_own OwnBlind.legal rfl trivial ..
  · rw [State.when_keeps _ _ _ State.legal fun z => State.raise_own OwnBlind.legal .., State.when_keeps _ _ _ State.legal fun z =>
      State.raise_own OwnBlind.legal .., hlegal]
    exact ⟨rfl, _, rfl⟩

theorem State.legalLog_enters {s : State} (h : s.legalFull = false) {kind : Nat} (hkind : kind ≠ 4) (origin object p q : Nat) :
    (s.legalLog kind origin object p q).legal.seq = nextSeq s.legal.seq ∧
      ∃ r, (s.legalLog kind origin object p q).legal.log = (nextSeq s.legal.seq, r) :: s.legal.log := by
  have hlog := s.legalLog_log kind origin object p q
  rwa [if_neg (by simp [h, hkind])] at hlog

/-- A reading that shows nothing of a point's record, of its session's energies and of the open interval. -/
structure PointBlind {β : Type} (g : State → β) (K : Nat → Prop) : Prop extends OwnBlind g K where
  points : ∀ (s : State) x, g { s with mpoints := x } = g s
  sessions : ∀ (s : State) x, g { s with outlets := { s.outlets with sess := x } } = g s
  bill : ∀ (s : State) x, g { s with bill := x } = g s

/-- The views of a point's registers (R332, R358, R365). -/
def pointViews : List Entry := [Ent.REGISTER_M0, Ent.REGISTER_M1, Ent.REGISTER, Ent.VIEW_32, Ent.TARIFF_REG0, Ent.TARIFF_REG1]

/-- The views stand beside a point's source and its cross-check state. -/
theorem pointViews_key_ne {e : Entry} (he : e ∈ pointViews) {j : Nat} (hj : j < e.subs) (n k : Nat)
    (hk : k % 256 = 0x0C ∨ k % 256 = 0x0D) : e.key n j ≠ k := by
  have hspan : ∀ e ∈ pointViews, e.step = 1 ∧ e.sub + e.subs ≤ 256 ∧ (e.sub + e.subs ≤ 0x0C ∨ 0x0E ≤ e.sub) := by decide
  obtain ⟨hstep, hhigh, hbeside⟩ := hspan e he
  rw [Entry.key, hstep]
  omega

section PointBlind
variable {β : Type} {g : State → β} {K : Nat → Prop} (hg : PointBlind g K) {pt : Nat}
  (hviews : ∀ e ∈ pointViews, ∀ j < e.subs, K (e.key pt j))
include hg hviews

theorem State.showPoint_blind (s : State) : g (s.showPoint pt) = g s := by
  unfold State.showPoint
  extract_lets src s1
  have hs1 : g s1 = g s := by
    refine State.each_inv_of_mem (fun z => g z = g s) rfl fun z r hr hz => ?_
    have hr14 : r < 14 := List.mem_range.1 hr
    calc g _ = g _ := hg.put _ Ent.VIEW_32 _ _ _ rfl (hviews _ (by decide) r hr14)
      _ = g _ := State.fitNat_own hg.toOwnBlind (e := Ent.REGISTER) rfl (hviews _ (by decide) r hr14) ..
      _ = g _ := State.fitNat_own hg.toOwnBlind (e := Ent.REGISTER_M1) rfl (hviews _ (by decide) r hr14) ..
      _ = g _ := State.fitNat_own hg.toOwnBlind (e := Ent.REGISTER_M0) rfl (hviews _ (by decide) r hr14) ..
      _ = g s := hz
  refine State.each_inv_of_mem (fun z => g z = g s) hs1 fun z k hk hz => ?_
  have hk8 : k < 8 := List.mem_range.1 hk
  calc g _ = g _ := State.fitNat_own hg.toOwnBlind (e := Ent.TARIFF_REG1) rfl (hviews _ (by decide) k hk8) ..
    _ = g _ := State.fitNat_own hg.toOwnBlind (e := Ent.TARIFF_REG0) rfl (hviews _ (by decide) k hk8) ..
    _ = g s := hz

omit hviews in
theorem State.resumeSession_blind (s : State) (d : Nat) : g (s.resumeSession pt d) = g s := by
  unfold State.resumeSession
  split
  · rfl
  · split
    · rfl
    · exact hg.sessions ..

/-- A source that changes writes BILLING_SOURCE first; what follows shows in no reading that is blind to it (R340). -/
theorem State.setSource_blind {s : State} {d : Nat} (h : s.billSource pt ≠ d) (cause : Nat) :
    g (s.setSource pt d cause) = g (s.setNat Ent.BILLING_SOURCE pt d) := by
  unfold State.setSource
  rw [if_neg (by simpa using h)]
  dsimp only
  exact (State.showPoint_blind hg hviews _).trans ((State.when_keeps _ _ _ g fun z => hg.bill ..).trans
    ((State.resumeSession_blind hg ..).trans ((hg.points ..).trans (State.raise_own hg.toOwnBlind ..))))

end PointBlind

theorem State.setSource_same {s : State} {pt d : Nat} (h : s.billSource pt = d) (cause : Nat) : s.setSource pt d cause = s :=
  if_pos (by simpa using h)

theorem PointBlind.nat (e : Entry) (n j : Nat) : PointBlind (fun s => s.nat e n j) (· ≠ e.key n j) where
  toOwnBlind := OwnBlind.nat e n j
  points _ _ := rfl
  sessions _ _ := rfl
  bill _ _ := rfl

theorem PointBlind.legal : PointBlind State.legal fun _ => True where
  toOwnBlind := OwnBlind.legal
  points _ _ := rfl
  sessions _ _ := rfl
  bill _ _ := rfl

/-- After a change of source a point bills from it. -/
theorem State.billSource_setSource (s : State) (pt d cause : Nat) : (s.setSource pt d cause).billSource pt = d := by
  by_cases h : s.billSource pt = d
  · rw [State.setSource_same h, h]
  · have hsub : Ent.BILLING_SOURCE.key pt % 256 = 0x0C := by
      rw [Entry.key]
      simp only [Ent.BILLING_SOURCE]
      omega
    exact (State.setSource_blind (PointBlind.nat Ent.BILLING_SOURCE pt 0) (fun e he j hj => pointViews_key_ne he hj _ _ (.inl hsub)) h cause).trans
      (State.nat_setNat_same ..)

/-- A change of source leaves the cross-check's state and the legal log. -/
theorem State.setSource_leaves (s : State) (pt d cause : Nat) :
    (s.setSource pt d cause).nat Ent.CROSS_STATE pt = s.nat Ent.CROSS_STATE pt ∧ (s.setSource pt d cause).legal = s.legal := by
  by_cases h : s.billSource pt = d
  · rw [State.setSource_same h]
    exact ⟨rfl, rfl⟩
  · have hsub : Ent.CROSS_STATE.key pt % 256 = 0x0D := by
      rw [Entry.key]
      simp only [Ent.CROSS_STATE]
      omega
    refine ⟨?_, (State.setSource_blind PointBlind.legal (fun _ _ _ _ => trivial) h cause).trans (State.put_legal ..)⟩
    exact (State.setSource_blind (PointBlind.nat Ent.CROSS_STATE pt 0) (fun e he j hj => pointViews_key_ne he hj _ _ (.inr hsub)) h cause).trans
      (State.nat_put_sub _ (by decide) _ _ _)

/-- A record of the legal log leaves the first entries of a point. -/
theorem State.nat_logSource (s : State) (pt : Nat) {e : Entry} (he : 0x8001 ≤ e.base ∧ e.sub < 0x12) (n : Nat) :
    (s.logSource pt).nat e n = s.nat e n := by
  obtain ⟨hbase, hsub⟩ := he
  have hlog : ∀ k, ofLegalLog k → k < 0x8001 * 256 ∨ k % 256 = 0x12 := by
    rintro k (rfl | rfl | rfl | rfl) <;> decide
  refine State.legalLog_blind LegalBlind.nat (fun k hk => ?_) ..
  have hplace := hlog k hk
  rw [Entry.key]
  omega

/-! ### CROSS_RESET -/

theorem applyCrossReset_sealed {s : State} (pt : Nat) (h : s.flag Ent.LEGAL_SEAL_STATE = false) : applyCrossReset pt s = (s, St.CONFLICT) := by
  simp [applyCrossReset, h]

theorem applyCrossReset_agreed {s : State} {pt : Nat} (h : s.flag Ent.LEGAL_SEAL_STATE = true) (hagree : s.nat Ent.CROSS_STATE pt = Cross.AGREE)
    (hsource : s.billSource pt = 0) : applyCrossReset pt s = (s, St.ALREADY_DONE) := by
  simp [applyCrossReset, h, hagree, hsource]

/-- The point agrees again, on M0 where it is valid (R341). -/
def State.agreeOnM0 (s : State) (pt : Nat) : State :=
  ((s.setNat Ent.CROSS_STATE pt Cross.AGREE).setPoint pt { s.mpoint pt with agree := 0, disagree := 0 }).when
    (s.meterRunning 0 && !s.meterFailed 0) fun z => z.setSource pt 0 2

theorem applyCrossReset_returns {s : State} {pt : Nat} (h : s.flag Ent.LEGAL_SEAL_STATE = true)
    (hapart : s.nat Ent.CROSS_STATE pt ≠ Cross.AGREE ∨ s.billSource pt ≠ 0) :
    applyCrossReset pt s = ((s.agreeOnM0 pt).logSource pt, St.OK) := by
  have hnot : (s.nat Ent.CROSS_STATE pt == Cross.AGREE && s.billSource pt == 0) = false := by
    simpa [or_iff_not_imp_left] using hapart
  simp only [applyCrossReset, h, hnot, Bool.not_true, Bool.false_eq_true, if_false]
  rfl

theorem State.agreeOnM0_agrees (s : State) (pt : Nat) :
    (s.agreeOnM0 pt).nat Ent.CROSS_STATE pt = Cross.AGREE ∧ (s.agreeOnM0 pt).legal = s.legal ∧
      (s.meterRunning 0 = true → s.meterFailed 0 = false → (s.agreeOnM0 pt).billSource pt = 0) := by
  have hagree : ((s.setNat Ent.CROSS_STATE pt Cross.AGREE).setPoint pt { s.mpoint pt with agree := 0, disagree := 0 }).nat Ent.CROSS_STATE pt =
      Cross.AGREE := s.nat_setNat_same Ent.CROSS_STATE pt Cross.AGREE 0
  unfold State.agreeOnM0 State.when
  split
  · obtain ⟨hcross, hlegal⟩ := State.setSource_leaves ((s.setNat Ent.CROSS_STATE pt Cross.AGREE).setPoint pt
      { s.mpoint pt with agree := 0, disagree := 0 }) pt 0 2
    exact ⟨hcross.trans hagree, hlegal, fun _ _ => State.billSource_setSource ..⟩
  · next hinvalid =>
    exact ⟨hagree, rfl, fun hrun hsound => absurd (by simp [hrun, hsound]) hinvalid⟩

/-- Settles O58: the three answers, and what the point and the legal log show after the last. -/
theorem crossResetReturnsThePointToM0 : Obligations.CrossResetReturnsThePointToM0 := by
  intro s c pt v h ha
  obtain ⟨z, hz⟩ : ∃ z, z = s.taken h := ⟨_, rfl⟩
  have hrest : { z with tx := s.tx, cells := s.cells, mirror := s.mirror } = s := by rw [hz, s.taken_frame h]
  have hframe : { z with tx := s.tx, cells := s.cells, waiting := s.waiting, mirror := s.mirror } = s :=
    congrArg (fun y : State => { y with waiting := s.waiting }) hrest
  have hseal : z.flag Ent.LEGAL_SEAL_STATE = s.flag Ent.LEGAL_SEAL_STATE := by
    rw [hz, State.flag_def, State.flag_def, s.val_taken_of_base h (by decide)]
  have hcross : z.nat Ent.CROSS_STATE pt = s.nat Ent.CROSS_STATE pt := by rw [hz, s.nat_taken_of_base h (by decide)]
  have hsource : z.billSource pt = s.billSource pt := by rw [hz, State.billSource, s.nat_taken_of_base h (by decide), State.billSource]
  have hlegal : z.legal = s.legal := (congrArg State.legal hrest :)
  refine ⟨fun hclosed => ?_, fun hopen hagree hm0 => ?_, fun hopen hapart => ?_⟩
  · refine ⟨_, congrArg Host.Outcome.next (State.clientCommand_effect ha hz (applyCrossReset_sealed pt (hseal.trans hclosed))),
      State.answerLater_repliesWith .., hframe, ?_, ?_⟩
    · rw [State.nat_answerLater, hcross]
    · rw [State.billSource, State.nat_answerLater]
      exact hsource
  · refine ⟨_, congrArg Host.Outcome.next (State.clientCommand_effect ha hz (applyCrossReset_agreed (hseal.trans hopen) (hcross.trans hagree)
      (hsource.trans hm0))), State.answerLater_repliesWith .., hframe, ?_, ?_⟩
    · rw [State.nat_answerLater, hcross, hagree]
    · rw [State.billSource, State.nat_answerLater]
      exact hsource.trans hm0
  · obtain ⟨hdone, hkept, hbills⟩ := z.agreeOnM0_agrees pt
    rw [← hcross, ← hsource] at hapart
    refine ⟨_, congrArg Host.Outcome.next (State.clientCommand_effect ha hz (applyCrossReset_returns (hseal.trans hopen) hapart)),
      State.answerLater_repliesWith .., ?_, fun hrun hsound => ?_, fun hroom => ?_⟩
    · rw [State.nat_answerLater, State.nat_logSource _ _ (by decide), hdone]
    · rw [State.billSource, State.nat_answerLater, State.nat_logSource _ _ (by decide)]
      have hdie : z.die = s.die := (congrArg State.die hrest :)
      exact hbills (by rw [State.meterRunning, hdie]; exact hrun) (by rw [State.meterFailed, hdie]; exact hsound)
    · have hfull : (z.agreeOnM0 pt).legalFull = false := by
        rw [State.legalFull, State.legalFree, hkept, hlegal]
        exact hroom
      have henter := State.legalLog_enters hfull (kind := 6) (by decide) 4 pt (low 32 (((z.agreeOnM0 pt).meter 0 pt).reg 0))
        (low 32 (((z.agreeOnM0 pt).meter 1 pt).reg 0))
      rw [hkept, hlegal] at henter
      exact henter

end Sys2Proof.Machine
end

section
/-!
PROOFS. The legal seal, the archive of the legal log and the display (O45): what a recognised level, a write of LEGAL_LOG_ARCHIVE and a
display item leave (R343 to R347, R498).
-/
namespace Sys2Proof.Machine
open Sys2Proof

/-! ### The seal -/

/-- The seal's state is none of the entries of the legal log. -/
theorem State.flag_legalLog_seal (s : State) (kind origin object p q : Nat) :
    (s.legalLog kind origin object p q).flag Ent.LEGAL_SEAL_STATE = s.flag Ent.LEGAL_SEAL_STATE := by
  have hseal : LegalBlind (fun s => s.flag Ent.LEGAL_SEAL_STATE) (· ≠ Ent.LEGAL_SEAL_STATE.key) :=
    { put := fun _ _ _ _ _ _ hk => by rw [State.flag_def, State.val_put_ne _ _ _ _ _ _ _ _ (Ne.symm hk), State.flag_def]
      event := fun _ _ => rfl
      free := fun _ _ => rfl
      stream := fun _ _ => rfl
      legal := fun _ _ _ _ => rfl }
  refine State.legalLog_blind hseal (fun k hk => ?_) ..
  rcases hk with rfl | rfl | rfl | rfl <;> decide

theorem State.openings_legalLog (s : State) (kind origin object p q : Nat) :
    (s.legalLog kind origin object p q).legal.openings = s.legal.openings := by
  have hopenings : LegalBlind (fun s => s.legal.openings) fun _ => True :=
    { put := fun _ _ _ _ _ _ _ => by rw [State.put_legal]
      event := fun _ _ => rfl
      free := fun _ _ => rfl
      stream := fun _ _ => rfl
      legal := fun _ _ _ _ => rfl }
  exact State.legalLog_blind hopenings (fun _ _ => trivial) ..

theorem execLegalSealChange_same {s : State} {opened : Bool} (h : s.flag Ent.LEGAL_SEAL_STATE = opened ∨ s.sealOpen ≠ opened) :
    execLegalSealChange opened s = .next s := if_pos (by simpa using h)

/-- Another level than the one shown is shown, and an opening counted (R344, R345). -/
theorem execLegalSealChange_moves {s : State} {opened : Bool} (hread : s.sealOpen = opened) (h : s.flag Ent.LEGAL_SEAL_STATE ≠ opened) :
    ∃ t, execLegalSealChange opened s = .next t ∧ t.flag Ent.LEGAL_SEAL_STATE = opened ∧
      t.legal.openings = s.legal.openings + b2n opened := by
  refine ⟨_, if_neg (by simp [hread, h]), ?_, ?_⟩
  · rw [State.flag_legalLog_seal, State.flag_raise, State.flag_def, State.setFlag_eq, State.val_put_same]
    cases opened <;> rfl
  · rw [State.openings_legalLog, State.raise_own OwnBlind.legal, State.setFlag_eq, State.put_legal]
    cases opened <;> rfl

/-! ### The archive -/

theorem applyLegalLogArchive_sealed {s : State} (seq : Nat) (h : s.flag Ent.LEGAL_SEAL_STATE = false) :
    applyLegalLogArchive seq s = (s, St.CONFLICT) := by
  simp [applyLegalLogArchive, h]

theorem applyLegalLogArchive_unknown {s : State} {seq : Nat} (h : s.flag Ent.LEGAL_SEAL_STATE = true) (hnone : ∀ x ∈ s.legal.log, x.1 ≠ seq) :
    applyLegalLogArchive seq s = (s, St.RANGE) := by
  have hany : (s.legal.log.any fun x => x.1 == seq) = false := by simpa using fun x y hx => hnone (x, y) hx
  simp only [applyLegalLogArchive, h, hany, Bool.not_true, Bool.not_false, Bool.false_eq_true, if_false, if_true]

/-- The records up to the one named leave, the younger stay, and at most the record of the archiving comes (R347). -/
theorem applyLegalLogArchive_keeps {s : State} {seq : Nat} (h : s.flag Ent.LEGAL_SEAL_STATE = true) (hsome : ∃ x ∈ s.legal.log, x.1 = seq) :
    ∃ u, applyLegalLogArchive seq s = (u, St.OK) ∧ (∀ x ∈ s.legal.log.takeWhile (fun y => y.1 != seq), x ∈ u.legal.log) ∧
      u.legal.log.length ≤ (s.legal.log.takeWhile (fun y => y.1 != seq)).length + 1 := by
  have hany : (s.legal.log.any fun x => x.1 == seq) = true := by
    obtain ⟨x, hx, hseq⟩ := hsome
    exact List.any_eq_true.2 ⟨x, hx, by simpa using hseq⟩
  obtain ⟨younger, hyounger⟩ : ∃ l, l = s.legal.log.takeWhile (fun y => y.1 != seq) := ⟨_, rfl⟩
  rw [← hyounger]
  obtain ⟨z, hz⟩ : ∃ z, z = State.showLegal { s with legal := { s.legal with log := younger } } := ⟨_, rfl⟩
  have hlog : z.legal.log = younger := by rw [hz, State.showLegal, State.setNat_eq, State.setNat_eq, State.put_legal, State.put_legal]
  refine ⟨z.legalLog 13 4 0xFFFF seq (s.legal.log.length - younger.length), ?_, ?_⟩
  · simp only [applyLegalLogArchive, h, hany, Bool.not_true, Bool.false_eq_true, if_false, hz, hyounger]
  · have henter := z.legalLog_log 13 4 0xFFFF seq (s.legal.log.length - younger.length)
    split at henter
    · rw [henter, hlog]
      exact ⟨fun x hx => hx, Nat.le_succ _⟩
    · obtain ⟨-, r, hr⟩ := henter
      rw [hr, hlog]
      exact ⟨fun x hx => List.mem_cons_of_mem _ hx, Nat.le_refl _⟩

/-! ### The display -/

/-- The display's state with the rotation gone on. -/
def State.displayMoved (s : State) : LegalSt := { s.legal with item := (s.legal.item + 1) % s.displayItems.length, busy := none }

/-- An item sent goes from the die that drives the display, and the rotation goes on (R343). -/
theorem State.displayNext_sends (s : State) :
    ∃ m, s.displayNext true = { s with legal := s.displayMoved, out := s.out ++ [m] } ∧ m.port = .display ∧ m.kind = .displayFrame ∧
      m.dest = b2n s.die.m0Failed := ⟨_, rfl, rfl, rfl, rfl⟩

/-- A dropped item moves the rotation alone. -/
theorem State.displayNext_drops (s : State) : s.displayNext false = { s with legal := s.displayMoved } := rfl

theorem execDisplayFrame_due {s : State} {d : Nat} (hdie : s.displayDie = some d)
    (hdue : s.legal.itemAt + secTicks (s.nat Ent.DISPLAY_PERIOD) ≤ s.ticks) :
    execDisplayFrame false s = .next ({ s with legal := { s.legal with itemAt := s.ticks } }.displayNext true) ∧
      execDisplayFrame true s = .next { s with legal := { s.legal with itemAt := s.ticks, busy := some s.ticks } } := by
  have hgo : ¬(s.displayDie.isNone || decide (s.ticks < s.legal.itemAt + secTicks (s.nat Ent.DISPLAY_PERIOD))) = true := by
    simpa [hdie] using hdue
  exact ⟨if_neg hgo, if_neg hgo⟩

theorem State.displayDie_eq {s : State} {d : Nat} (h : s.displayDie = some d) : b2n s.die.m0Failed = d := by
  unfold State.displayDie at h
  extract_lets k at h
  split at h
  · exact Option.some.inj h
  · cases h

theorem execDisplayBusyTimeout_free {s : State} {b : Nat} (h : s.legal.busy = some b) :
    execDisplayBusyTimeout false s = .next (s.displayNext true) := by
  simp [execDisplayBusyTimeout, h, ok]

theorem execDisplayBusyTimeout_busy {s : State} {b : Nat} (h : s.legal.busy = some b) :
    execDisplayBusyTimeout true s = .next (if b + msTicks 100 ≤ s.ticks then s.displayNext false else s) := by
  simp only [execDisplayBusyTimeout, h, ok, Bool.not_true, Bool.false_eq_true, if_false, ge_iff_le]
  split <;> rfl

/-- Settles O45: a level of the seal, the three answers of an archiving, and the display free and busy. -/
theorem legalLogSealAndDisplay : Obligations.LegalLogSealAndDisplay := by
  intro s
  refine ⟨fun opened hread => ?_, fun opened hread => execLegalSealChange_same (.inr hread), fun c seq h ha => ?_, fun d hdie hdue => ?_,
    fun b hbusy => ?_⟩
  · by_cases hsame : s.flag Ent.LEGAL_SEAL_STATE = opened
    · exact ⟨s, execLegalSealChange_same (.inl hsame), hsame, fun _ => rfl, fun hne => absurd hsame hne⟩
    · obtain ⟨t, ht, hshown, hcount⟩ := execLegalSealChange_moves hread hsame
      exact ⟨t, ht, hshown, fun heq => absurd heq hsame, fun _ => hcount⟩
  · obtain ⟨z, hz⟩ : ∃ z, z = s.taken h := ⟨_, rfl⟩
    have hseal : z.flag Ent.LEGAL_SEAL_STATE = s.flag Ent.LEGAL_SEAL_STATE := by
      rw [hz, State.flag_def, State.flag_def, s.val_taken_of_base h (by decide)]
    have hlegal : z.legal = s.legal := hz ▸ State.taken_keeps State.legal (fun _ _ _ _ => rfl) s h
    rw [← hseal, ← hlegal]
    refine ⟨fun hclosed => ?_, fun hopen hnone => ?_, fun hopen hsome => ?_⟩
    · exact ⟨_, congrArg Host.Outcome.next (State.clientCommand_effect ha hz (applyLegalLogArchive_sealed seq hclosed)),
        State.answerLater_repliesWith .., rfl⟩
    · exact ⟨_, congrArg Host.Outcome.next (State.clientCommand_effect ha hz (applyLegalLogArchive_unknown hopen hnone)),
        State.answerLater_repliesWith .., rfl⟩
    · obtain ⟨u, hu, hkept, hlen⟩ := applyLegalLogArchive_keeps hopen hsome
      exact ⟨_, congrArg Host.Outcome.next (State.clientCommand_effect ha hz hu), State.answerLater_repliesWith .., hkept, hlen⟩
  · obtain ⟨hfree, hheld⟩ := execDisplayFrame_due hdie hdue
    obtain ⟨m, hm, hport, hkind, hdest⟩ := State.displayNext_sends { s with legal := { s.legal with itemAt := s.ticks } }
    rw [hm] at hfree
    exact ⟨⟨_, m, hfree, rfl, hport, hkind, hdest.trans (State.displayDie_eq hdie), rfl, rfl, rfl⟩, ⟨_, hheld, rfl, rfl⟩⟩
  · obtain ⟨m, hm, hport, -, -⟩ := s.displayNext_sends
    have hheld := execDisplayBusyTimeout_busy hbusy
    refine ⟨⟨_, m, (execDisplayBusyTimeout_free hbusy).trans (congrArg Host.Outcome.next hm), rfl, hport, rfl⟩, fun hlate => ?_,
      fun hearly => ?_⟩
    · rw [if_pos hlate, State.displayNext_drops] at hheld
      exact ⟨_, hheld, rfl, rfl, rfl⟩
    · rw [if_neg (Nat.not_le.2 hearly)] at hheld
      exact ⟨s, hheld, rfl⟩

end Sys2Proof.Machine
end

section
/-!
PROOFS. The watch on the load channels and their supply (O49): open load, the channel test, the sum of a half and the conditions of VAUX (R374,
R384, R385, R390).
-/
namespace Sys2Proof.Machine
open Sys2Proof

/-! ### Halves -/

theorem State.setHalf_frame (s : State) (h : Nat) (x a b : HalfSt) : { s.setHalf h x with halfA := a, halfB := b } = { s with halfA := a, halfB := b } := by
  unfold State.setHalf
  split <;> rfl

/-- What no half shows is read the same after one is written. -/
theorem State.setHalf_keeps {β : Type} (g : State → β) (hg : ∀ (z : State) a b, g { z with halfA := a, halfB := b } = g z) (s : State)
    (h : Nat) (x : HalfSt) : g (s.setHalf h x) = g s := by
  rw [← hg (s.setHalf h x) s.halfA s.halfB, State.setHalf_frame, hg]

theorem mem_halfChannels {h c : Nat} : c ∈ halfChannels h ↔ c / 20 = h := by
  unfold halfChannels
  rw [List.mem_map]
  constructor
  · rintro ⟨i, hi, rfl⟩
    have := List.mem_range.1 hi
    omega
  · intro hc
    exact ⟨c % 20, List.mem_range.2 (Nat.mod_lt _ (by decide)), by omega⟩

theorem State.half_of_powerSide {s t : State} (h : t.powerSide = s.powerSide) (n : Nat) : t.half n = s.half n := by
  obtain ⟨-, hA, hB, -⟩ := State.powerSide_eq_iff.1 h
  rw [State.half, State.half, hA, hB]

/-! ### A half's supply cut off -/

/-- A half whose supply is cut holds each of its channels off (Table 16-3). -/
theorem State.lcUpdate_cut {s : State} {c : Nat} (h : (s.half (c / 20)).cut = true) :
    ∃ k v, s.lcUpdate c = (s.setLc c k).setNat Ent.LC_STATE c v ∧ k.on = false := by
  have hheld : ∃ code, s.heldOff c (s.lcs c) = some code := by
    unfold State.heldOff
    dsimp only
    split
    · exact ⟨_, rfl⟩
    · exact ⟨8, rfl⟩
  obtain ⟨code, hcode⟩ := hheld
  unfold State.lcUpdate
  simp only [hcode]
  exact ⟨_, _, rfl, rfl⟩

/-- A condition that cuts the supply off: every channel of the half is off, and no event is raised for them. -/
theorem State.supplyChange_cut (s : State) {h : Nat} {x : HalfSt} (hx : x.cut = true) :
    (∀ c, c / 20 = h → ((s.supplyChange h x).lcs c).on = false) ∧ (s.supplyChange h x).ev = s.ev := by
  have hev : (s.setHalf h x).ev = s.ev := State.setHalf_keeps State.ev (fun _ _ _ => rfl) ..
  have hstep (z : State) (d : Nat) (hz : z.half h = x ∧ z.ev = s.ev) (hd : d ∈ halfChannels h) :
      ((z.lcUpdate d).half h = x ∧ (z.lcUpdate d).ev = s.ev) ∧ ((z.lcUpdate d).lcs d).on = false ∧
        ∀ c, (z.lcs c).on = false → ((z.lcUpdate d).lcs c).on = false := by
    obtain ⟨hhalf, hsame⟩ := hz
    have hcut : (z.half (d / 20)).cut = true := by rw [mem_halfChannels.1 hd, hhalf, hx]
    have hkept : (z.lcUpdate d).half h = x := (State.half_of_powerSide (z.lcUpdate_powerSide d) h).trans hhalf
    obtain ⟨k, v, hk, hoff⟩ := State.lcUpdate_cut hcut
    have hown : ((z.lcUpdate d).lcs d).on = false := by rw [hk, State.setNat_eq, State.lcs_put, State.lcs_setLc_same, hoff]
    refine ⟨⟨hkept, by rw [hk, State.setNat_eq, State.put_ev]; exact hsame⟩, hown, fun c hc => ?_⟩
    by_cases hcd : c = d
    · exact hcd ▸ hown
    · rw [hk, State.setNat_eq, State.lcs_put, State.lcs_setLc_ne _ _ hcd, hc]
  refine ⟨fun c hc => ?_, ?_⟩
  · refine (State.each_reaches_of_mem (f := fun z d => z.lcUpdate d) (fun z => (z.half h = x ∧ z.ev = s.ev) ∧ (z.lcs c).on = false)
      (fun z => z.half h = x ∧ z.ev = s.ev) (mem_halfChannels.2 hc) ⟨State.half_setHalf_same .., hev⟩ (fun z d hd hz => (hstep z d hz hd).1)
      (fun z d hd hz => ?_) fun z hz => ?_).2
    · obtain ⟨hkept, -, hoff⟩ := hstep z d hz.1 hd
      exact ⟨hkept, hoff c hz.2⟩
    · obtain ⟨hkept, hown, -⟩ := hstep z c hz (mem_halfChannels.2 hc)
      exact ⟨hkept, hown⟩
  · exact (State.each_inv_of_mem (f := fun z c => z.lcUpdate c) (fun z => z.half h = x ∧ z.ev = s.ev) ⟨State.half_setHalf_same .., hev⟩
      fun z d hd hz => (hstep z d hz hd).1).2

/-- A condition of a half set or cleared shows in its record. -/
theorem State.half_supplyChange (s : State) (h : Nat) (x : HalfSt) : (s.supplyChange h x).half h = x :=
  (State.each_keeps _ _ _ (fun z => z.half h) fun z c => State.half_of_powerSide (z.lcUpdate_powerSide c) h).trans (State.half_setHalf_same ..)

/-- An event, and then a condition that cuts the half's supply off. -/
theorem State.struck_cut (s : State) (h : Nat) {x : HalfSt} (hx : x.cut = true) (k : EvKind) (i p q : Nat) :
    ((s.raise k i p q).supplyChange h x).half h = x ∧
      (∀ c, c < 40 → c / 20 = h → (((s.raise k i p q).supplyChange h x).lcs c).on = false) ∧
      s.raised ((s.raise k i p q).supplyChange h x) k i p q :=
  ⟨State.half_supplyChange .., fun c _ hc => (State.supplyChange_cut _ hx).1 c hc, (State.supplyChange_cut _ hx).2⟩

/-- What an event's record is made of (Table 4-7). -/
def State.stamp (s : State) : EventSt × Nat × Nat × TimeSt := (s.ev, s.sfn, s.cycle, s.time)

/-- An event raised where nothing it records has moved. -/
theorem State.raised_of_stamp {s z : State} (h : z.stamp = s.stamp) (k : EvKind) (i p q : Nat) : s.raised (z.raise k i p q) k i p q := by
  simp only [State.stamp, Prod.mk.injEq] at h
  obtain ⟨hev, hsfn, hcycle, htime⟩ := h
  exact State.raised_of_raise hev hsfn hcycle htime

theorem State.put_stamp (s : State) (e : Entry) (n j : Nat) (v : Val) : (s.put e n j v).stamp = s.stamp := by
  simp only [State.stamp, State.put_ev, State.put_sfn, State.put_cycle, State.put_time]

/-! ### The channel test -/

/-- A listing of a table that takes nothing from the key written. -/
theorem Tab.filterMap_set {α β : Type} (f : Nat × α → Option β) (t : Tab α) (k : Nat) (v : α) (h : ∀ w, f (k, w) = none) :
    (Tab.set t k v).filterMap f = t.filterMap f := by
  induction t with
  | nil => simp [Tab.set, h]
  | cons p r ih =>
    obtain ⟨i, w⟩ := p
    unfold Tab.set
    split
    · rw [List.filterMap_cons, h]
    split
    · next hki =>
      obtain rfl : k = i := by simpa using hki
      rw [List.filterMap_cons, List.filterMap_cons, h, h]
    · rw [List.filterMap_cons, List.filterMap_cons, ih]

theorem Tab.filterMap_erase {α β : Type} (f : Nat × α → Option β) (t : Tab α) (k : Nat) (h : ∀ w, f (k, w) = none) :
    (Tab.erase t k).filterMap f = t.filterMap f := by
  induction t with
  | nil => rfl
  | cons p r ih =>
    obtain ⟨i, w⟩ := p
    unfold Tab.erase
    split
    · next hki =>
      obtain rfl : i = k := by simpa using hki
      rw [List.filterMap_cons, h, ih]
    · rw [List.filterMap_cons, List.filterMap_cons, ih]

/-- A value written below the scheduled actions leaves which are armed. -/
theorem State.armed_put {e : Entry} (he : e.inSets = false) (s : State) {n j : Nat} (h : e.key n j < 0xE000 * 256) (v : Val) :
    (s.put e n j v).armed = s.armed := by
  have hnone (w : Val) : (if decide (0xE000 * 256 ≤ e.key n j) && decide (e.key n j < 0xE400 * 256) && e.key n j % 256 == 1 &&
      (w == .num 1 || w == .num 2 || w == .num 3) then some (e.key n j / 256 - 0xE000) else none) = none := by
    rw [decide_eq_false (Nat.not_le.2 h)]
    rfl
  unfold State.armed State.put Tab.putVal
  rw [he, if_neg Bool.false_ne_true]
  split
  · exact Tab.filterMap_erase _ _ _ hnone
  · exact Tab.filterMap_set _ _ _ _ hnone

theorem State.armed_taken (s : State) (h : Held) : (s.taken h).armed = s.armed := by
  have hput (z : State) (v : Val) : (z.put Ent.TAGS_IN_USE 0 0 v).armed = z.armed ∧ (z.put Ent.TAGS_HIGH_WATER 0 0 v).armed = z.armed :=
    ⟨State.armed_put rfl _ (by decide) _, State.armed_put rfl _ (by decide) _⟩
  unfold State.taken State.takeTag
  exact (State.when_keeps _ _ _ State.armed fun z => (hput z _).2).trans (hput _ _).1

theorem State.bytes_taken_of_base (s : State) (h : Held) {e : Entry} (he : 0x1031 ≤ e.base) (n : Nat) :
    (s.taken h).bytes e n = s.bytes e n := by rw [State.bytes_def, State.bytes_def, s.val_taken_of_base h he]

/-- Whether a channel is in service is not the tags' to change. -/
theorem State.lcInService_taken (s : State) (h : Held) (c : Nat) : (s.taken h).lcInService c = s.lcInService c := by
  have hlc : (s.taken h).lcs c = s.lcs c := State.taken_keeps (fun z => z.lcs c) (fun _ _ _ _ => rfl) s h
  have hclock : (s.taken h).ticks = s.ticks ∧ (s.taken h).sfn = s.sfn :=
    ⟨State.taken_keeps State.ticks (fun _ _ _ _ => rfl) s h, State.taken_keeps State.sfn (fun _ _ _ _ => rfl) s h⟩
  simp only [State.lcInService, State.lcOrdered, hlc, hclock.1, hclock.2, s.armed_taken h, State.aType, State.aSfn,
    s.nat_taken_of_base h (e := Ent.LC_MODE) (by decide), s.nat_taken_of_base h (e := Ent.ACTION_TYPE) (by decide),
    s.nat_taken_of_base h (e := Ent.ACTION_SFN) (by decide), s.nat_taken_of_base h (e := Ent.ACTION_TARGET) (by decide),
    s.bytes_taken_of_base h (e := Ent.ACTION_VALUE) (by decide)]
  rfl

/-- A test asked of a resource without one, in its idle window, starts; outside it a request that does not queue is refused (R22). -/
theorem State.testOrQueue_starts {s : State} {target : Nat} (hnone : ∀ r ∈ s.running, r.target ≠ target) (value : List Byte) (queue : Bool)
    (start : State → Option Nat → State) : s.testOrQueue target value queue false start = (start s none, St.OK) := by
  have hany : (s.running.any fun r => r.target == target) = false := List.any_eq_false.2 fun r hr => by simpa using hnone r hr
  simp only [State.testOrQueue, hany, Bool.or_self, Bool.false_eq_true, if_false]

theorem State.testOrQueue_busy (s : State) (target : Nat) (value : List Byte) (start : State → Option Nat → State) :
    s.testOrQueue target value false true start = (s, St.CONFLICT) := rfl

/-- The end of a test takes it from those that run. -/
theorem State.running_endTest (s : State) (target status : Nat) : ∀ y ∈ (s.endTest target status).running, y.target ≠ target := by
  unfold State.endTest
  split
  · next hnone => exact fun y hy => by simpa using List.find?_eq_none.1 hnone y hy
  · have hleft : ∀ y ∈ s.running.filter (fun x => x.target != target), y.target ≠ target :=
      fun y hy => by simpa using (List.mem_filter.1 hy).2
    dsimp only
    split
    · rw [State.raise_eq, State.raiseWith_running]
      exact hleft
    · exact hleft

/-- A test that was not queued ends without an event of its own (R23). -/
theorem State.endTest_direct {s : State} {target : Nat} {r : RunTest} (h : s.running.find? (fun y => y.target == target) = some r)
    (hslot : r.slot = none) (status : Nat) :
    s.endTest target status = { s with running := s.running.filter fun x => x.target != target } := by
  simp only [State.endTest, h, hslot]

/-- A channel test ends after 20 ms with the first step that fails (R385). -/
theorem execLcTestDone_due {s : State} {ch : Fin 40} {r : RunTest} (x : LcCheck)
    (h : s.running.find? (fun y => y.target == Ent.LC_TEST.target ch) = some r) (hdue : r.since + msTicks 20 ≤ s.ticks) :
    execLcTestDone ch x s = .next (((s.endTest (Ent.LC_TEST.target ch) (if failingStep x = 0 then St.OK else St.RANGE)).setNat
      Ent.LC_TEST_RESULT ch (if failingStep x = 0 then St.OK else St.RANGE)).raise Evt.LC_TEST_DONE ch
        (if failingStep x = 0 then St.OK else St.RANGE) (failingStep x)) := by
  unfold execLcTestDone
  simp only [h, ge_iff_le, hdue, if_true, beq_iff_eq]
  rfl

/-! ### The conditions of a half -/

/-- A condition recovered is cleared in the half's record, where it has held for 10 ms. -/
theorem execVauxRecovery_clears {s : State} {half : Fin 2} :
    (msTicks 10 ≤ (s.half half).okLow →
      (∃ t, execVauxRecovery half 0 s = .next t ∧ t.half half = { s.half half with under := false }) ∧
        (∃ t, execVauxRecovery half 4 s = .next t ∧ t.half half = { s.half half with reversed := false })) ∧
      (msTicks 10 ≤ (s.half half).okHigh →
        (∃ t, execVauxRecovery half 1 s = .next t ∧ t.half half = { s.half half with surge := false }) ∧
          (∃ t, execVauxRecovery half 2 s = .next t ∧ t.half half = { s.half half with dump := false })) ∧
      (msTicks 10 ≤ (s.half half).okGround →
        ∃ t, execVauxRecovery half 3 s = .next t ∧ t.half half = { s.half half with ground := false }) := by
  refine ⟨fun hheld => ⟨⟨_, if_neg (Nat.not_lt.2 hheld), ?_⟩, ⟨_, if_neg (Nat.not_lt.2 hheld), ?_⟩⟩,
    fun hheld => ⟨⟨_, if_neg (Nat.not_lt.2 hheld), ?_⟩, ⟨_, if_neg (Nat.not_lt.2 hheld), ?_⟩⟩,
    fun hheld => ⟨_, if_neg (Nat.not_lt.2 hheld), ?_⟩⟩
  all_goals exact State.half_supplyChange ..

/-- Settles O49: each watch and each condition at its limit. -/
theorem loadChannelsAreWatchedAndSupplied : Obligations.LoadChannelsAreWatchedAndSupplied := by
  intro s
  refine ⟨fun ch hdue => ⟨fun hclear => ?_, fun hset => ?_⟩, fun c ch v h ha hnone => ?_, fun ch x r hrun hdue => ?_,
    fun half => ⟨fun hheavy htold => ?_, fun mv hlow hnot => ?_, fun mv hhigh hnot => ?_, fun mv hhigh hbelow hnot => ?_,
      fun mv hlow hnot => ?_, fun mv hhigh hnot => ?_, execVauxRecovery_clears⟩⟩
  · refine ⟨_, if_pos (by simp [hclear, hdue]), ?_, ?_, ?_⟩
    · rw [State.raise_eq, State.lcs_raiseWith, State.lcs_setLc_same]
    · exact State.raised_of_stamp (by rfl) ..
    · exact congrArg (fun z : State => { z with lc := s.lc }) (State.raise_frame _ _ _ _ _ s.ev)
  · refine ⟨_, if_pos (by simp [hset, hdue]), ?_, ?_, ?_⟩
    · rw [State.raise_eq, State.lcs_raiseWith, State.lcs_setLc_same]
    · exact State.raised_of_stamp (by rfl) ..
    · exact congrArg (fun z : State => { z with lc := s.lc }) (State.raise_frame _ _ _ _ _ s.ev)
  · obtain ⟨z, hz⟩ : ∃ z, z = s.taken h := ⟨_, rfl⟩
    have hservice : z.lcInService ch = s.lcInService ch := hz ▸ s.lcInService_taken h ch
    have hrunning : z.running = s.running := hz ▸ State.taken_keeps State.running (fun _ _ _ _ => rfl) s h
    have hlc : z.lc = s.lc := hz ▸ State.taken_keeps State.lc (fun _ _ _ _ => rfl) s h
    have hticks : z.ticks = s.ticks := hz ▸ State.taken_keeps State.ticks (fun _ _ _ _ => rfl) s h
    rw [← hservice]
    refine ⟨fun hidle => ?_, fun hbusy hqueue => ?_⟩
    · have hact : applyLcTest ch v c.queue z = (z.beginTest (Ent.LC_TEST.target ch) none, St.OK) := by
        rw [applyLcTest, hidle, State.testOrQueue_starts (by rwa [hrunning])]
      refine ⟨_, congrArg Host.Outcome.next (State.clientCommand_effect ha hz hact), State.answerLater_repliesWith .., ?_, hlc⟩
      rw [State.answerLater_running, State.beginTest, hrunning, hticks]
    · have hact : applyLcTest ch v c.queue z = (z, St.CONFLICT) := by
        rw [applyLcTest, hbusy, hqueue, State.testOrQueue_busy]
      exact ⟨_, congrArg Host.Outcome.next (State.clientCommand_effect ha hz hact), State.answerLater_repliesWith .., hrunning⟩
  · refine ⟨_, execLcTestDone_due x hrun hdue, fun y hy => ?_, ?_, fun hslot => ?_⟩
    · rw [State.raise_eq, State.raiseWith_running, State.setNat_eq, State.put_running] at hy
      exact State.running_endTest _ _ _ y hy
    · rw [State.nat_raise, State.nat_setNat_same]
    · rw [State.endTest_direct hrun hslot]
      exact State.raised_of_stamp (by exact State.put_stamp ..) ..
  · refine ⟨_, if_pos (by simp [hheavy, htold]), ?_, ?_, ?_⟩
    · rw [State.raise_eq, State.half, State.raiseWith_halfA, State.raiseWith_halfB]
      exact State.half_setHalf_same ..
    · simp only [beq_iff_eq]
      exact State.raised_of_stamp (State.setHalf_keeps State.stamp (fun _ _ _ => rfl) ..) ..
    · exact (congrArg (fun z : State => { z with halfA := s.halfA, halfB := s.halfB }) (State.raise_frame _ _ _ _ _ s.ev)).trans
        (congrArg (fun z : State => { z with ev := s.ev }) (State.setHalf_frame s half.val { s.half half.val with told := true } s.halfA s.halfB))
  · refine ⟨_, if_neg (by simp [hlow, hnot]), State.struck_cut _ _ ?_ ..⟩
    simp [HalfSt.cut]
  · refine ⟨_, if_pos (by simp [hhigh, hnot]), State.struck_cut _ _ ?_ ..⟩
    simp [HalfSt.cut]
  · refine ⟨_, (if_neg ?_).trans (if_pos ?_), State.half_supplyChange ..⟩
    · simp [hbelow]
    · simp [hhigh, hnot]
  · refine ⟨_, if_neg (by simp [hlow, hnot]), State.struck_cut _ _ ?_ ..⟩
    simp [HalfSt.cut]
  · refine ⟨_, if_neg (by simp [hhigh, hnot]), State.struck_cut _ _ ?_ ..⟩
    simp [HalfSt.cut]

end Sys2Proof.Machine
end

section
/-!
PROOFS. The streaming port and the service port (O55): messages of the host, the mask, the link's silence and stall, a block, the service
link and the entry to recovery (R456 to R464).
-/
namespace Sys2Proof.Machine
open Sys2Proof

/-! ### Volatile own values -/

/-- A volatile own value written changes the own values alone. -/
theorem State.put_frame_of_volatile {e : Entry} (he : e.inSets = false ∧ e.persist ≠ .persistent) (s : State) (n j : Nat) (v : Val)
    (c : Tab Val) : { s.put e n j v with cells := c } = { s with cells := c } := by
  rw [State.put, he.1, if_neg Bool.false_ne_true, State.noteWrite_volatile _ _ _ _ _ _ he.2]

theorem State.cellsKept_setNat (s : State) (e : Entry) (n v : Nat) : s.cellsKept (s.setNat e n v) [e.key n] :=
  State.cellsKept_put (State.cellsKept_of_cells rfl _) _ (List.mem_singleton.2 rfl)

/-- A volatile counter that has room counts one and changes nothing else. -/
theorem State.bump_counts {e : Entry} (he : e.inSets = false ∧ e.persist ≠ .persistent) (s : State)
    (hfit : s.nat e + 1 < 2 ^ e.type.bits) :
    (s.bump e).nat e = s.nat e + 1 ∧ s.cellsKept (s.bump e) [e.key] ∧ { s.bump e with cells := s.cells } = s := by
  rw [State.bump_of_fits hfit]
  exact ⟨State.nat_setNat_same .., s.cellsKept_setNat _ _ _, State.put_frame_of_volatile he ..⟩

/-- A volatile state of the device changes, with its event: the own value, the log, and nothing else. -/
theorem State.setNat_raise {e : Entry} (he : e.inSets = false ∧ e.persist ≠ .persistent) (s : State) (n v : Nat) (k : EvKind) (i p q : Nat) :
    ((s.setNat e n v).raise k i p q).nat e n = v ∧ s.raised ((s.setNat e n v).raise k i p q) k i p q ∧
      s.cellsKept ((s.setNat e n v).raise k i p q) [e.key n] ∧ { (s.setNat e n v).raise k i p q with cells := s.cells, ev := s.ev } = s := by
  refine ⟨?_, State.raised_of_stamp (State.put_stamp ..) .., ?_, ?_⟩
  · rw [State.nat_raise, State.nat_setNat_same]
  · exact State.cellsKept_congr (s.cellsKept_setNat _ _ _) (State.raiseWith_cells ..)
  · exact (congrArg (fun z : State => { z with cells := s.cells }) (State.raise_frame _ _ _ _ _ s.ev)).trans
      (congrArg (fun z : State => { z with ev := s.ev }) (State.put_frame_of_volatile he s n 0 (.num v) s.cells))

/-- An event raised by a request stands as its answer is given to the link die. -/
theorem State.raised_answerLater {s u : State} {k : EvKind} {i p q : Nat} (hu : s.raised u k i p q) (h : Held) (st : Nat) :
    s.raised (u.answerLater h st []) k i p q := (State.answerLater_ev ..).trans hu

/-! ### Messages on STRM_IN -/

section Messages
variable {s : State} {msg : List Byte}

section Open
variable (hlink : s.die.lkB = true) (hon : s.portState ≠ Port.OFF)
include hlink hon

theorem State.strmIn_bad (h : strmMessage msg = none) : s.strmIn msg = s.bump Ent.IN_ERRORS := by
  rw [State.strmIn, if_neg (by simp [hlink, hon]), h]

theorem State.strmIn_ready {freed : Nat} (h : strmMessage msg = some (1, freed)) : s.strmIn msg = s.strmReady := by
  rw [State.strmIn, if_neg (by simp [hlink, hon]), h]
  rfl

theorem State.strmIn_credit {freed : Nat} (h : strmMessage msg = some (2, freed)) : s.strmIn msg = s.strmCredit freed := by
  rw [State.strmIn, if_neg (by simp [hlink, hon])]
  split
  · next hbad => simp [h] at hbad
  · next hready => simp [h] at hready
  · next hcredit =>
    rw [h] at hcredit
    cases hcredit
    rfl

end Open

/-- A READY restarts the port's counts (R457). -/
theorem State.strmReady_restarts (s : State) :
    s.strmReady.portState = Port.UP ∧ s.strmReady.stream.sent = 0 ∧ s.strmReady.stream.freed = 0 ∧ s.strmReady.stream.heard = s.ticks ∧
      s.strmReady.nat Ent.STREAM_BLOCKS_SENT = 0 ∧ s.raised s.strmReady Evt.STREAM_LINK_UP 0 (b2n s.linkUp) 0 := by
  have hport (z : State) (v : Nat) : (z.setNat Ent.CREDITS_AVAILABLE 0 v).portState = z.portState := State.nat_put_sub _ (by decide) ..
  have hsent (z : State) (v : Nat) : (z.setNat Ent.CREDITS_AVAILABLE 0 v).nat Ent.STREAM_BLOCKS_SENT = z.nat Ent.STREAM_BLOCKS_SENT :=
    State.nat_put_sub _ (by decide) ..
  unfold State.strmReady State.showCredits
  extract_lets again st s1
  refine ⟨?_, ?_, ?_, ?_, ?_, ?_⟩
  · rw [State.portState, State.nat_raise]
    exact (hport ..).trans (State.nat_setNat_same ..)
  · rw [State.raise_eq, State.raiseWith_stream, State.setNat_eq, State.put_stream]
    rfl
  · rw [State.raise_eq, State.raiseWith_stream, State.setNat_eq, State.put_stream]
    rfl
  · rw [State.raise_eq, State.raiseWith_stream, State.setNat_eq, State.put_stream]
    rfl
  · rw [State.nat_raise, hsent]
    exact (State.nat_put_sub _ (by decide) ..).trans (State.nat_setNat_same ..)
  · refine State.raised_of_stamp ?_ _ _ _ _
    exact (State.put_stamp ..).trans ((State.put_stamp ..).trans (State.put_stamp ..))

/-- A credit beyond the blocks in flight is counted (R456). -/
theorem State.strmCredit_beyond {freed : Nat} (h : s.stream.inFlight < (freed + 2 ^ 32 - s.stream.freed % 2 ^ 32) % 2 ^ 32) :
    s.strmCredit freed = s.bump Ent.IN_ERRORS := if_pos h

/-- The stream's state with a credit taken in, and shown. -/
def State.credited (s : State) (freed : Nat) : State :=
  State.showCredits { s with stream := { s.stream with freed := freed, heard := s.ticks } }

/-- With credit the port is up, and the count of R458's 10 ms is over. -/
def State.portResumed (s : State) : State :=
  if s.credits == 0 then s else { s with stream := { s.stream with dry := none } }.setNat Ent.PORT_STATE 0 Port.UP

theorem State.credits_congr {s t : State} (hsent : t.stream.sent = s.stream.sent) (hfreed : t.stream.freed = s.stream.freed) :
    t.credits = s.credits := by
  rw [State.credits, State.credits, StreamSt.inFlight, StreamSt.inFlight, hsent, hfreed]

theorem State.credited_shows (s : State) (freed : Nat) :
    (s.credited freed).nat Ent.CREDITS_AVAILABLE = (s.credited freed).credits := by
  have hshown (z : State) : z.showCredits.nat Ent.CREDITS_AVAILABLE = z.credits := State.nat_setNat_same ..
  exact (hshown _).trans (State.credits_congr (t := { s with stream := { s.stream with freed := freed, heard := s.ticks } }) rfl rfl)

theorem State.portResumed_up (s : State) : s.portResumed.credits = s.credits ∧
    (s.credits ≠ 0 → s.portResumed.portState = Port.UP ∧ s.portResumed.stream.dry = none) ∧
    s.portResumed.nat Ent.CREDITS_AVAILABLE = s.nat Ent.CREDITS_AVAILABLE ∧ s.portResumed.stream.freed = s.stream.freed ∧
    s.portResumed.stream.heard = s.stream.heard ∧ s.portResumed.ev = s.ev := by
  unfold State.portResumed
  split
  · next hdry => exact ⟨rfl, fun hcredit => absurd (beq_iff_eq.1 hdry) hcredit, rfl, rfl, rfl, rfl⟩
  · exact ⟨State.credits_congr rfl rfl, fun _ => ⟨State.nat_setNat_same .., rfl⟩, State.nat_put_sub _ (by decide) .., rfl, rfl, rfl⟩

/-- A credit within them moves FREED on, and with credit the port is up again (R458). -/
theorem State.strmCredit_within {freed : Nat} (hup : s.linkUp = true)
    (h : (freed + 2 ^ 32 - s.stream.freed % 2 ^ 32) % 2 ^ 32 ≤ s.stream.inFlight) : s.strmCredit freed = (s.credited freed).portResumed := by
  unfold State.strmCredit
  rw [if_neg (Nat.not_lt.2 h), if_neg (by simp [hup])]
  rfl

theorem State.portResumed_credited (s : State) (freed : Nat) :
    (s.credited freed).portResumed.stream.freed = freed ∧ (s.credited freed).portResumed.stream.heard = s.ticks ∧
      (s.credited freed).portResumed.nat Ent.CREDITS_AVAILABLE = (s.credited freed).portResumed.credits ∧
      ((s.credited freed).portResumed.credits ≠ 0 →
        (s.credited freed).portResumed.portState = Port.UP ∧ (s.credited freed).portResumed.stream.dry = none) ∧
      (s.credited freed).portResumed.ev = s.ev := by
  obtain ⟨hcredits, hup, hshown, hfreed, hheard, hev⟩ := (s.credited freed).portResumed_up
  have hstream : (s.credited freed).stream = { s.stream with freed := freed, heard := s.ticks } := State.put_stream ..
  rw [hcredits, hshown, hfreed, hheard, hev, hstream]
  exact ⟨rfl, rfl, s.credited_shows freed, hup, State.put_ev ..⟩

end Messages

/-! ### The mask -/

@[simp] theorem State.strm_setStrm_same (s : State) (t : Nat) (q : StreamQ) : (s.setStrm t q).strm t = q := Tab.get_set_same ..

theorem State.strm_setStrm_ne (s : State) {t k : Nat} (q : StreamQ) (h : k ≠ t) : (s.setStrm t q).strm k = s.strm k :=
  Tab.get_set_ne _ _ _ _ _ h

/-- One stream follows its bit of STREAM_MASK (R459). -/
def State.maskStream (old v : Nat) (z : State) (t : Nat) : State :=
  if bit old (t - 1) && !bit v (t - 1) then z.setStrm t { z.strm t with recs := [], pos := 0, resent := false, since := none }
  else if bit v (t - 1) && !bit old (t - 1) then z.setStrm t { z.strm t with from_ := z.frames } else z

theorem applyStreamMask_eq (v : Nat) (s : State) :
    applyStreamMask v s = ((s.setNat Ent.STREAM_MASK 0 v).each ((List.range 7).map (· + 1)) (State.maskStream (s.nat Ent.STREAM_MASK) v), St.OK) := rfl

theorem State.maskStream_cells (old v : Nat) (z : State) (t : Nat) : (z.maskStream old v t).cells = z.cells := by
  unfold State.maskStream
  split
  · rfl
  · split <;> rfl

theorem State.maskStream_ne (old v : Nat) (z : State) {t k : Nat} (h : k ≠ t) : (z.maskStream old v t).strm k = z.strm k := by
  unfold State.maskStream
  split
  · exact State.strm_setStrm_ne _ _ h
  · split
    · exact State.strm_setStrm_ne _ _ h
    · rfl

theorem State.maskStream_cleared {old v k : Nat} (hwas : bit old (k - 1) = true) (his : bit v (k - 1) = false) (z : State) :
    ((z.maskStream old v k).strm k).recs = [] := by
  rw [State.maskStream, if_pos (by simp [hwas, his]), State.strm_setStrm_same]

theorem State.maskStream_same {old v k : Nat} (h : bit old (k - 1) = bit v (k - 1)) (z : State) : z.maskStream old v k = z := by
  rw [State.maskStream, if_neg (by simp [h]), if_neg (by simp [h])]

theorem mem_streams {k : Nat} (hlow : 1 ≤ k) (hhigh : k ≤ 7) : k ∈ (List.range 7).map (· + 1) :=
  List.mem_map.2 ⟨k - 1, List.mem_range.2 (by omega), by omega⟩

/-- The streams after the mask is written: those cleared are empty, those whose bit stays are as they were. -/
theorem State.each_maskStream (s : State) (old v : Nat) {k : Nat} (hlow : 1 ≤ k) (hhigh : k ≤ 7) :
    (bit old (k - 1) = true → bit v (k - 1) = false → ((s.each ((List.range 7).map (· + 1)) (State.maskStream old v)).strm k).recs = []) ∧
      (bit old (k - 1) = bit v (k - 1) → (s.each ((List.range 7).map (· + 1)) (State.maskStream old v)).strm k = s.strm k) := by
  refine ⟨fun hwas his => ?_, fun hsame => ?_⟩
  · refine State.each_reaches_of_mem (fun z => (z.strm k).recs = []) (fun _ => True) (mem_streams hlow hhigh) trivial (fun _ _ _ _ => trivial)
      (fun z t _ hz => ?_) fun z _ => State.maskStream_cleared hwas his z
    by_cases ht : k = t
    · exact ht ▸ State.maskStream_cleared hwas his z
    · rw [State.maskStream_ne _ _ _ ht, hz]
  · refine State.each_keeps _ _ _ (fun z => z.strm k) fun z t => ?_
    by_cases ht : k = t
    · rw [← ht, State.maskStream_same hsame]
    · exact State.maskStream_ne _ _ _ ht

/-! ### A block -/

/-- The block sent, its stream gone on. -/
def State.blockSent (s : State) (k : Nat) (r : List Byte) : State :=
  (s.setStrm k ((s.strm k).sentBlock r s.ticks)).send
    ⟨.stream, k, .block, [], (List.range 4).flatMap (laneChars (blockBytes k (s.strm k) r))⟩

/-- The port after a block: its counts, and its credits shown. -/
def State.portMoved (s : State) : State :=
  ({ s with stream := { s.stream with sent := (s.stream.sent + 1) % 2 ^ 32, busy := s.stream.busy + blockTime } }.bump
    Ent.STREAM_BLOCKS_SENT).showCredits

/-- Without credit the 10 ms of R458 begin. -/
def State.noteDry (s : State) : State :=
  if s.credits == 0 then { s with stream := { s.stream with dry := some s.ticks } } else s

theorem execBlockTransmit_sends {s : State} {k : Nat} {r : List Byte} {rest : List (List Byte)} (hup : s.portState = Port.UP)
    (hlink : s.die.lkB = true) (hcredit : s.credits ≠ 0) (hfree : s.stream.busy < 50000) (hnext : s.nextStream = some k)
    (hrecs : (s.strm k).recs = r :: rest) : execBlockTransmit s = .next (s.blockSent k r).portMoved.noteDry := by
  unfold execBlockTransmit
  rw [if_neg (by simpa [hup, hlink, hcredit] using hfree), hnext]
  dsimp only
  rw [hrecs]
  rfl

theorem State.noteDry_leaves (s : State) : s.noteDry.out = s.out ∧ s.noteDry.stream.sent = s.stream.sent ∧
    s.noteDry.stream.busy = s.stream.busy ∧ s.noteDry.stream.qs = s.stream.qs := by
  unfold State.noteDry
  split
  · exact ⟨rfl, rfl, rfl, rfl⟩
  · exact ⟨rfl, rfl, rfl, rfl⟩

theorem State.portMoved_counts (s : State) : s.portMoved.out = s.out ∧ s.portMoved.stream.sent = (s.stream.sent + 1) % 2 ^ 32 ∧
    s.portMoved.stream.busy = s.stream.busy + blockTime ∧ s.portMoved.stream.qs = s.stream.qs := by
  unfold State.portMoved State.showCredits
  obtain ⟨c, w, f, hbump⟩ := State.bump_eq (e := Ent.STREAM_BLOCKS_SENT) rfl { s with
    stream := { s.stream with sent := (s.stream.sent + 1) % 2 ^ 32, busy := s.stream.busy + blockTime } } 0 0 1
  rw [hbump, State.setNat_eq, State.put_out, State.put_stream]
  exact ⟨rfl, rfl, rfl, rfl⟩

/-! ### The entry to recovery -/

theorem State.coilsInUse_taken (s : State) (h : Held) (n : Nat) : (s.taken h).coilsInUse n = s.coilsInUse n := by
  rw [State.coilsInUse, State.coilsInUse, s.str_taken, State.coilsOf, State.coilsOf, s.nat_taken_of_base h (by decide),
    s.nat_taken_of_base h (by decide), s.nat_taken_of_base h (by decide)]

/-- Whether the device rests is not the tags' to change. -/
theorem State.atRest_taken (s : State) (h : Held) : (s.taken h).atRest = s.atRest := by
  have hlc (c : Nat) : (s.taken h).lcOn c = s.lcOn c := State.taken_keeps (fun z => z.lcOn c) (fun _ _ _ _ => rfl) s h
  have houtlets : (s.taken h).outletIdle = s.outletIdle := State.taken_keeps State.outletIdle (fun _ _ _ _ => rfl) s h
  simp only [State.atRest, s.strState_taken h, s.coilsInUse_taken h, houtlets, funext hlc]

theorem applyRecoveryEnter_busy {s : State} (h : s.atRest = false) (digest : Nat) : applyRecoveryEnter digest s = (s, St.CONFLICT) := by
  rw [applyRecoveryEnter, h]
  rfl

theorem applyRecoveryEnter_rests {s : State} (h : s.atRest = true) (digest : Nat) :
    applyRecoveryEnter digest s =
      ({ s with plant := { s.plant with toRecovery := true } }.raise Evt.RECOVERY_REQUESTED 0 (low 32 digest) 0, St.OK) := by
  rw [applyRecoveryEnter, h]
  rfl

/-- Settles O55: each message, the port's states, a block, and the service port. -/
theorem streamsFlowAndServiceAnswers : Obligations.StreamsFlowAndServiceAnswers := by
  intro s
  refine ⟨fun hlink hon msg => ⟨fun hbad hfit => ?_, fun freed hready => ?_, fun freed hcredit hup => ⟨fun hwithin => ?_, fun hbeyond hfit => ?_⟩⟩,
    fun c v h ha => ?_, fun hup hsilent => ?_, fun b hdry hup hlate => ?_, fun k r rest hup hlink hcredit hfree hnext hrecs => ?_,
    fun v => ⟨fun hsame => ?_, fun hother => ?_⟩, fun hlink hserved => ?_, fun c v h ha => ?_⟩
  · have hin : s.strmIn msg = s.bump Ent.IN_ERRORS := State.strmIn_bad hlink hon hbad
    have hcount := s.bump_counts (e := Ent.IN_ERRORS) (by decide) hfit
    exact ⟨⟨_, congrArg Host.Outcome.next hin, hcount⟩, ⟨_, congrArg Host.Outcome.next hin, hcount⟩⟩
  · have hin : s.strmIn msg = s.strmReady := State.strmIn_ready hlink hon hready
    exact ⟨_, congrArg Host.Outcome.next hin, s.strmReady_restarts⟩
  · have hin : s.strmIn msg = (s.credited freed).portResumed := 
      (State.strmIn_credit hlink hon hcredit).trans (State.strmCredit_within hup hwithin)
    exact ⟨_, congrArg Host.Outcome.next hin, s.portResumed_credited freed⟩
  · have hin : s.strmIn msg = s.bump Ent.IN_ERRORS := 
      (State.strmIn_credit hlink hon hcredit).trans (State.strmCredit_beyond hbeyond)
    obtain ⟨hcount, -, hframe⟩ := s.bump_counts (e := Ent.IN_ERRORS) (by decide) hfit
    exact ⟨_, congrArg Host.Outcome.next hin, hcount, (congrArg State.stream hframe :)⟩
  · obtain ⟨z, hz⟩ : ∃ z, z = s.taken h := ⟨_, rfl⟩
    have hold : z.nat Ent.STREAM_MASK = s.nat Ent.STREAM_MASK := hz ▸ s.nat_taken_of_base h (by decide) 0
    have hstrm (k : Nat) : z.strm k = s.strm k := hz ▸ State.taken_keeps (fun y => y.strm k) (fun _ _ _ _ => rfl) s h
    have hset (k : Nat) : (z.setNat Ent.STREAM_MASK 0 v).strm k = s.strm k := hstrm k
    refine ⟨_, congrArg Host.Outcome.next (State.clientCommand_effect ha hz (applyStreamMask_eq v z)), State.answerLater_repliesWith .., ?_,
      fun k hlow hhigh hwas his => ?_, fun k hlow hhigh hsame => ?_⟩
    · rw [State.nat_answerLater]
      refine (State.each_keeps _ _ _ (fun y => y.nat Ent.STREAM_MASK) fun y t => ?_).trans (State.nat_setNat_same ..)
      exact State.nat_of_cells rfl (State.maskStream_cells ..) ..
    · exact (State.each_maskStream (z.setNat Ent.STREAM_MASK 0 v) (z.nat Ent.STREAM_MASK) v hlow hhigh).1 (hold ▸ hwas) his
    · exact ((State.each_maskStream (z.setNat Ent.STREAM_MASK 0 v) (z.nat Ent.STREAM_MASK) v hlow hhigh).2 (hold ▸ hsame)).trans (hset k)
  · obtain ⟨hport, hraised, hcells, hframe⟩ := s.setNat_raise (e := Ent.PORT_STATE) (by decide) 0 Port.WAITING Evt.STREAM_LINK_DOWN 0
      (low 32 (s.nat Ent.STREAM_BLOCKS_SENT)) (s.nat Ent.IN_ERRORS)
    exact ⟨_, if_pos (by simp [hup, hsilent]), hport, hraised, hcells, hframe⟩
  · refine ⟨s.setNat Ent.PORT_STATE 0 Port.STALLED, ?_, State.nat_setNat_same .., s.cellsKept_setNat _ _ _, State.put_frame_of_volatile (by decide) ..⟩
    unfold exec execStreamStalled
    rw [hdry]
    exact if_pos (by simp [hup, hlate])
  · obtain ⟨hout, hsent, hbusy, hqs⟩ := (s.blockSent k r).portMoved.noteDry_leaves
    obtain ⟨hout', hsent', hbusy', hqs'⟩ := (s.blockSent k r).portMoved_counts
    refine ⟨_, execBlockTransmit_sends hup hlink hcredit hfree hnext hrecs, hout.trans hout', hsent.trans hsent', hbusy.trans hbusy', ?_⟩
    rw [State.strm, hqs.trans hqs']
    exact s.strm_setStrm_same k _
  · exact ⟨s, if_pos (beq_iff_eq.2 hsame), rfl⟩
  · exact ⟨_, if_neg (by simpa using hother), s.setNat_raise (e := Ent.SERVICE_LINK) (by decide) ..⟩
  · exact ⟨_, if_pos (by simpa [hlink] using hserved), rfl⟩
  · obtain ⟨z, hz⟩ : ∃ z, z = s.taken h := ⟨_, rfl⟩
    have hplant : z.plant = s.plant := hz ▸ State.taken_keeps State.plant (fun _ _ _ _ => rfl) s h
    have hstamp : z.stamp = s.stamp := hz ▸ State.taken_keeps State.stamp (fun _ _ _ _ => rfl) s h
    have hatRest : z.atRest = s.atRest := hz ▸ s.atRest_taken h
    rw [← hatRest, ← hplant]
    refine ⟨fun hbusy => ?_, fun hrests => ?_⟩
    · exact ⟨_, congrArg Host.Outcome.next (State.clientCommand_effect ha hz (applyRecoveryEnter_busy hbusy _)),
        State.answerLater_repliesWith .., rfl⟩
    · refine ⟨_, congrArg Host.Outcome.next (State.clientCommand_effect ha hz (applyRecoveryEnter_rests hrests _)),
        State.answerLater_repliesWith .., ?_, ?_⟩
      · rw [State.answerLater_plant, State.raise_eq, State.raiseWith_plant]
      · exact State.raised_answerLater (State.raised_of_stamp (z := { z with plant := { z.plant with toRecovery := true } }) hstamp ..) h _

end Sys2Proof.Machine
end

section
/-!
PROOFS. What the opening of a string and the loss of its converter's phases leave alone (R219, R232, R271, R272): the rules the supplies, the
rest of the device and the load channels go through.
-/
namespace Sys2Proof.Machine
open Sys2Proof

/-- The keys of the strings, the monitors, the phases and the groups. -/
def ofStrings (k : Nat) : Prop := 0x4000 * 256 ≤ k ∧ k < 0x6200 * 256

theorem Entry.key_ofStrings {e : Entry} {n : Nat} (h : 0x4000 ≤ e.base ∧ e.base + n < 0x6200 ∧ e.sub < 256) : ofStrings (e.key n) := by
  unfold ofStrings Entry.key
  omega

/-- A reading of the state that shows nothing of the strings, of the converters and of what the channels are commanded. -/
structure StringBlind {β : Type} (g : State → β) : Prop extends OwnBlind g ofStrings where
  tests : ∀ (s : State) x, g { s with running := x } = g s
  legs : ∀ (s : State) x, g { s with legs := x } = g s
  convs : ∀ (s : State) x, g { s with convs := x } = g s
  strings : ∀ (s : State) x, g { s with strs := x } = g s
  command : ∀ (s : State) c b, g (s.lcCommand c b) = g s

section StringBlind
variable {β : Type} {g : State → β} (hg : StringBlind g)
include hg

theorem State.setNat_strings {e : Entry} {n : Nat} (he : e.inSets = false ∧ 0x4000 ≤ e.base ∧ e.base + n < 0x6200 ∧ e.sub < 256)
    (s : State) (v : Nat) : g (s.setNat e n v) = g s := hg.put _ _ _ _ _ he.1 (Entry.key_ofStrings he.2)

theorem State.setInt_strings {e : Entry} {n : Nat} (he : e.inSets = false ∧ 0x4000 ≤ e.base ∧ e.base + n < 0x6200 ∧ e.sub < 256)
    (s : State) (v : Int) : g (s.setInt e n v) = g s := hg.put _ _ _ _ _ he.1 (Entry.key_ofStrings he.2)

theorem State.raise_strings (s : State) (k : EvKind) (i p q : Nat) : g (s.raise k i p q) = g s := State.raise_own hg.toOwnBlind ..

theorem State.setLeg_strings (s : State) (p : Nat) (k : PhaseSt) : g (s.setLeg p k) = g s := hg.legs ..
theorem State.setConv_strings (s : State) (n : Nat) (k : GroupSt) : g (s.setConv n k) = g s := hg.convs ..
theorem State.setStr_strings (s : State) (n : Nat) (k : StrSt) : g (s.setStr n k) = g s := hg.strings ..

/-! ### Phases and groups -/

theorem State.setPhase_strings {p : Nat} (hp : p < 32) (s : State) (st : Nat) : g (s.setPhase p st) = g s := by
  unfold State.setPhase
  split
  · rfl
  · exact (State.setNat_strings hg ⟨rfl, by decide, Nat.lt_trans (Nat.add_lt_add_left hp _) (by decide), by decide⟩ ..).trans
      (State.setLeg_strings hg ..)

theorem State.cancelPhaseTest_strings {p : Nat} (hp : p < 32) (s : State) : g (s.cancelPhaseTest p) = g s := by
  unfold State.cancelPhaseTest
  split
  · refine (State.raise_strings hg ..).trans ((State.setPhase_strings hg hp ..).trans ((State.setNat_strings hg ?_ ..).trans
      (State.endTest_keeps g (State.raise_strings hg) hg.tests ..)))
    exact ⟨rfl, by decide, Nat.lt_trans (Nat.add_lt_add_left hp _) (by decide), by decide⟩
  · rfl

omit hg in
theorem State.phasesOf_lt {s : State} {n p : Nat} (h : p ∈ s.phasesOf n) : p < 32 := List.mem_range.1 (List.mem_filter.1 h).1

theorem State.gatesOff_strings {n : Nat} (hn : n < 8) (s : State) (st : Nat) : g (s.gatesOff n st) = g s := by
  unfold State.gatesOff
  extract_lets s0 ps s1
  have h0 : g s0 = g s := State.each_inv_of_mem (f := fun z p => z.cancelPhaseTest p) (fun z => g z = g s) rfl
    fun z p hp hz => (State.cancelPhaseTest_strings hg (State.phasesOf_lt hp) z).trans hz
  have h1 : g s1 = g s := State.each_inv_of_mem (f := fun z p => z.setPhase p Pha.OFF) (fun z => g z = g s) h0
    fun z p hp hz => (State.setPhase_strings hg (State.phasesOf_lt (List.mem_filter.1 hp).1) z _).trans hz
  have hkey {e : Entry} (hbase : e.base = 0x6100) : 0x4000 ≤ e.base ∧ e.base + n < 0x6200 := by omega
  exact (State.setInt_strings hg ⟨rfl, (hkey rfl).1, (hkey rfl).2, by decide⟩ ..).trans
    ((State.setNat_strings hg ⟨rfl, (hkey rfl).1, (hkey rfl).2, by decide⟩ ..).trans ((State.setConv_strings hg ..).trans h1))

theorem State.disconnectGroup_strings {n : Nat} (hn : n < 8) (s : State) : g (s.disconnectGroup n) = g s := by
  unfold State.disconnectGroup
  dsimp only
  split
  · exact State.gatesOff_strings hg hn ..
  · rfl

theorem State.allGatesOff_strings (s : State) : g s.allGatesOff = g s :=
  State.each_inv_of_mem (f := fun z n => z.disconnectGroup n) (fun z => g z = g s) rfl
    fun z _ hn hz => (State.disconnectGroup_strings hg (List.mem_range.1 hn) z).trans hz

theorem State.stopGroup_strings {n : Nat} (hn : n < 8) (s : State) : g (s.stopGroup n) = g s := by
  unfold State.stopGroup
  split
  · refine (State.setInt_strings hg ⟨rfl, by decide, ?_, by decide⟩ ..).trans (State.setConv_strings hg ..)
    exact Nat.lt_trans (Nat.add_lt_add_left hn _) (by decide)
  split
  · exact State.gatesOff_strings hg hn ..
  · rfl

theorem State.cutGroup_strings {n : Nat} (hn : n < 8) (s : State) : g (s.cutGroup n) = g s := by
  unfold State.cutGroup
  dsimp only
  split
  · exact (State.setConv_strings hg ..).trans (State.stopGroup_strings hg hn s)
  · exact State.stopGroup_strings hg hn s

/-! ### The opening of a string -/

section String
variable {n : Nat} (hn : n < 8)
include hn

/-- An entry of a string is one of the strings'. -/
theorem State.setNat_string {e : Entry} (he : e.inSets = false ∧ e.base = 0x4000 ∧ e.sub < 256) (s : State) (v : Nat) :
    g (s.setNat e n v) = g s :=
  State.setNat_strings hg ⟨he.1, Nat.le_of_eq he.2.1.symm, by omega, he.2.2⟩ ..

theorem State.enterStr_strings (s : State) (st : Nat) : g (s.enterStr n st) = g s :=
  (State.setStr_strings hg ..).trans (State.setNat_string hg hn (by decide) ..)

theorem State.zeroLimits_strings (s : State) : g (s.zeroLimits n) = g s :=
  (State.setStr_strings hg ..).trans ((State.setNat_string hg hn (by decide) ..).trans (State.setNat_string hg hn (by decide) ..))

theorem State.noteOpening_strings (s : State) (c : Nat) : g (s.noteOpening n c) = g s :=
  (State.setStr_strings hg ..).trans ((State.setNat_string hg hn (by decide) ..).trans (State.setNat_string hg hn (by decide) ..))

theorem State.settleString_strings (s : State) : g (s.settleString n) = g s := by
  unfold State.settleString
  extract_lets k s1
  have h1 : g s1 = g s := State.setStr_strings hg ..
  split
  · split
    · exact h1
    · exact (State.raise_strings hg ..).trans ((State.enterStr_strings hg hn ..).trans h1)
  · exact (State.enterStr_strings hg hn ..).trans h1

omit hn in
theorem State.setCoils_strings (s : State) (pos neg pre : Bool) : g (s.setCoils n pos neg pre) = g s :=
  State.each_keeps _ _ _ g fun z c => hg.command z c.1 c.2

theorem State.openCoils_strings (s : State) (hw : Bool) : g (s.openCoils n hw) = g s := by
  unfold State.openCoils
  extract_lets s1 opened s2
  have h1 : g s1 = g s :=
    (State.zeroLimits_strings hg hn ..).trans ((State.disconnectGroup_strings hg hn ..).trans (State.setCoils_strings hg ..))
  have h2 : g s2 = g s := (State.setStr_strings hg ..).trans h1
  split
  · exact (State.enterStr_strings hg hn ..).trans h2
  · exact (State.settleString_strings hg hn ..).trans h2

/-- A cause of a string, its event and the opening it begins (R271, R272). -/
theorem State.stringCause_strings (s : State) (c value : Nat) : g (s.stringCause n c value) = g s := by
  unfold State.stringCause
  extract_lets k st s1 s2 noted kNoted limited opened kOpened connected rest
  have h1 : g s1 = g s := State.setStr_strings hg ..
  have h2 : g s2 = g s := by
    simp only [s2]
    split
    · exact (State.raise_strings hg ..).trans h1
    split
    · exact h1
    · exact (State.raise_strings hg ..).trans h1
  have hnoted : g noted = g s := (State.noteOpening_strings hg hn ..).trans h2
  have hlimited : g limited = g s := (State.zeroLimits_strings hg hn ..).trans hnoted
  have hconnected : g connected = g s := (State.setStr_strings hg ..).trans ((State.enterStr_strings hg hn ..).trans hlimited)
  have hrest : g rest = g s := (State.when_keeps _ _ _ g fun z => State.noteOpening_strings hg hn z c).trans h2
  split
  · rfl
  split
  · split
    · exact (State.setStr_strings hg ..).trans ((State.enterStr_strings hg hn ..).trans hnoted)
    · exact (State.openCoils_strings hg hn ..).trans hnoted
  split
  · split
    · exact (State.openCoils_strings hg hn ..).trans hlimited
    split
    · exact (State.disconnectGroup_strings hg hn ..).trans hconnected
    split
    · exact (State.cutGroup_strings hg hn ..).trans hconnected
    · exact (State.stopGroup_strings hg hn ..).trans hconnected
  split
  · exact (State.openCoils_strings hg hn ..).trans hrest
  split
  · exact (State.settleString_strings hg hn ..).trans hrest
  split
  · exact (State.cutGroup_strings hg hn ..).trans hrest
  · exact hrest

end String

/-! ### A half without power -/

theorem State.groupLimits_strings {n : Nat} (hn : n < 8) (s : State) : g (s.groupLimits n) = g s := by
  have hstring {e : Entry} (he : e.inSets = false ∧ e.base = 0x4000 ∧ e.sub < 256) (z : State) (v : Nat) : g (z.setNat e n v) = g z :=
    State.setNat_string hg hn he z v
  have hgroup {e : Entry} (he : e.inSets = false ∧ e.base = 0x6100 ∧ e.sub < 256) (z : State) (v : Nat) : g (z.setNat e n v) = g z :=
    State.setNat_strings hg ⟨he.1, by omega, by omega, he.2.2⟩ z v
  have hfollow (z : State) (l : Nat) : g (z.followLimit n l) = g z :=
    (State.setStr_strings hg ..).trans ((hstring (by decide) ..).trans (hstring (by decide) ..))
  unfold State.groupLimits
  extract_lets l av s1
  have h1 : g s1 = g s := (hfollow ..).trans ((hgroup (by decide) ..).trans (hgroup (by decide) ..))
  split
  · exact h1
  · exact (State.raise_strings hg ..).trans ((State.setConv_strings hg ..).trans h1)

theorem State.loadLine_strings {n : Nat} (hn : n < 8) (s : State) : g (s.loadLine n) = g s := by
  unfold State.loadLine
  dsimp only
  split
  · rfl
  · refine (State.fitInt_own hg.toOwnBlind rfl (Entry.key_ofStrings ⟨by decide, ?_, by decide⟩) ..).trans (State.setConv_strings hg ..)
    exact Nat.lt_trans (Nat.add_lt_add_left hn _) (by decide)

theorem State.failPhase_strings {p : Nat} (hp : p < 32) (s : State) (cause st : Nat) : g (s.failPhase p cause st) = g s := by
  unfold State.failPhase
  extract_lets n s0 sp leg s1 k drop
  have h0 : g s0 = g s := State.cancelPhaseTest_strings hg hp s
  have hp' : g sp = g s := (State.setPhase_strings hg hp ..).trans h0
  have h1 : g s1 = g s := by
    refine (State.raise_strings hg ..).trans ((State.setLeg_strings hg ..).trans ((State.setNat_strings hg ?_ ..).trans hp'))
    exact ⟨rfl, by decide, Nat.lt_trans (Nat.add_lt_add_left hp _) (by decide), by decide⟩
  split
  · next hn =>
    exact (State.loadLine_strings hg hn ..).trans ((State.groupLimits_strings hg hn ..).trans ((State.setConv_strings hg ..).trans h1))
  · exact h1

/-- The phases of a power die half that is without power (R232). -/
theorem State.unpowerHalf_strings {h : Nat} (hh : h < 2) (s : State) : g (s.unpowerHalf h) = g s := by
  refine State.each_inv_of_mem (fun z => g z = g s) rfl fun z p hp hz => ?_
  obtain ⟨i, hi, rfl⟩ := List.mem_map.1 hp
  have hi16 := List.mem_range.1 hi
  split
  · exact hz
  · exact (State.failPhase_strings hg (by omega) z _ _).trans hz

end StringBlind

end Sys2Proof.Machine
end

section
/-!
PROOFS. Sleep and ship (O57): what the requests, the entries and the wakes set, and what the rest of the device leaves of it (R476 to R481).
-/
namespace Sys2Proof.Machine
open Sys2Proof

/-! ### The state of the device -/

/-- Its state shown changes the own values, what is stored and nothing else. -/
theorem State.refreshDevice_eq (s : State) : ∃ c w, s.refreshDevice = { s with cells := c, writes := w } := ⟨_, _, rfl⟩

theorem State.setDevice_eq (s : State) (st : Nat) : ∃ c w e, s.setDevice st = { s with cells := c, writes := w, ev := e } := by
  unfold State.setDevice
  extract_lets old
  split
  · exact ⟨_, _, _, rfl⟩
  · rw [State.raise_eq_ev]
    exact ⟨_, _, _, rfl⟩

/-- The state shown leaves the entries beside DEVICE_STATE and DEVICE_STATUS. -/
theorem State.val_refreshDevice (s : State) {e : Entry} {n j : Nat} (h : e.key n j ≠ Ent.DEVICE_STATUS.key) :
    s.refreshDevice.val e n j = s.val e n j := State.val_put_ne _ _ _ _ _ _ _ _ h

theorem State.val_setDevice (s : State) (st : Nat) {e : Entry} {n j : Nat}
    (h : e.key n j ≠ Ent.DEVICE_STATE.key ∧ e.key n j ≠ Ent.DEVICE_STATUS.key) : (s.setDevice st).val e n j = s.val e n j := by
  unfold State.setDevice
  extract_lets old
  split
  · exact s.val_refreshDevice h.2
  · rw [State.val_refreshDevice _ h.2, State.raise_eq, State.val_raiseWith, State.setNat_eq, State.val_put_ne _ _ _ _ _ _ _ _ h.1]

theorem State.flag_setDevice (s : State) (st : Nat) {e : Entry} {n j : Nat}
    (h : e.key n j ≠ Ent.DEVICE_STATE.key ∧ e.key n j ≠ Ent.DEVICE_STATUS.key) : (s.setDevice st).flag e n j = s.flag e n j := by
  rw [State.flag_def, State.val_setDevice s st h, State.flag_def]

/-! ### Readings of the device itself -/

theorem StringBlind.val {e : Entry} {n j : Nat} (h : ¬ofStrings (e.key n j)) : StringBlind fun s => s.val e n j where
  put _ _ _ _ _ _ hk := State.val_put_ne _ _ _ _ _ _ _ _ (ne_of_mem_of_not_mem (s := {k | ofStrings k}) hk h).symm
  event _ _ := rfl
  free _ _ := rfl
  tests _ _ := rfl
  legs _ _ := rfl
  convs _ _ := rfl
  strings _ _ := rfl
  command s c b := State.lcCommand_keeps (fun z => z.val e n j) (fun _ _ => rfl) s c b

/-- What stands of supplies, sleep and starts, of site time, of the connections and of the keys. -/
def State.deviceSide (s : State) : PlantSt × TimeSt × EngineSt × KeySt := (s.plant, s.time, s.tx, s.keys)

theorem State.put_deviceSide (s : State) (e : Entry) (n j : Nat) (v : Val) : (s.put e n j v).deviceSide = s.deviceSide := by
  simp only [State.deviceSide, State.put_plant, State.put_time, State.put_tx, State.put_keys]

theorem StringBlind.deviceSide : StringBlind State.deviceSide where
  put _ _ _ _ _ _ _ := State.put_deviceSide ..
  event _ _ := rfl
  free _ _ := rfl
  tests _ _ := rfl
  legs _ _ := rfl
  convs _ _ := rfl
  strings _ _ := rfl
  command s c b := State.lcCommand_keeps State.deviceSide (fun _ _ => rfl) s c b

/-! ### Load channels -/

/-- The keys of the load channels. -/
def ofChannels (k : Nat) : Prop := 0x9000 * 256 ≤ k ∧ k < 0x9028 * 256

/-- A reading that shows nothing of the load channels. -/
structure ChannelBlind {β : Type} (g : State → β) : Prop extends OwnBlind g ofChannels where
  tests : ∀ (s : State) x, g { s with running := x } = g s
  channels : ∀ (s : State) x, g { s with lc := x } = g s

theorem ChannelBlind.val {e : Entry} {n j : Nat} (h : ¬ofChannels (e.key n j)) : ChannelBlind fun s => s.val e n j where
  put _ _ _ _ _ _ hk := State.val_put_ne _ _ _ _ _ _ _ _ (ne_of_mem_of_not_mem (s := {k | ofChannels k}) hk h).symm
  event _ _ := rfl
  free _ _ := rfl
  tests _ _ := rfl
  channels _ _ := rfl

theorem ChannelBlind.deviceSide : ChannelBlind State.deviceSide where
  put _ _ _ _ _ _ _ := State.put_deviceSide ..
  event _ _ := rfl
  free _ _ := rfl
  tests _ _ := rfl
  channels _ _ := rfl

section ChannelBlind
variable {β : Type} {g : State → β} (hg : ChannelBlind g) {c : Nat} (hc : c < 40)
include hg hc

theorem State.setNat_channel {e : Entry} (he : e.inSets = false ∧ e.base = 0x9000 ∧ e.sub < 256) (s : State) (v : Nat) :
    g (s.setNat e c v) = g s := by
  refine hg.put _ _ _ _ _ he.1 ?_
  unfold ofChannels Entry.key
  omega

theorem State.cancelLcTest_channel (s : State) : g (s.cancelLcTest c) = g s := by
  unfold State.cancelLcTest
  split
  · exact (State.raise_own hg.toOwnBlind ..).trans ((State.setNat_channel hg hc (by decide) ..).trans
      (State.endTest_keeps g (State.raise_own hg.toOwnBlind) hg.tests ..))
  · rfl

/-- A decision of a channel's output (R389). -/
theorem State.lcUpdate_channel (s : State) : g (s.lcUpdate c) = g s := by
  have hset (z : State) (k : LcSt) (v : Nat) : g ((z.setLc c k).setNat Ent.LC_STATE c v) = g z :=
    (State.setNat_channel hg hc (by decide) ..).trans (hg.channels ..)
  have hcancel (b : Bool) : g (if b then s.cancelLcTest c else s) = g s := by
    cases b
    · rfl
    · exact State.cancelLcTest_channel hg hc s
  unfold State.lcUpdate
  dsimp only
  split
  · exact hset ..
  · exact (hset ..).trans (hcancel _)

end ChannelBlind

/-! ### The dies without power -/

/-- The control dies stopped, the dies' standing and the connections gone. -/
def State.diesDown (s : State) : State :=
  let s1 := { s with die := { s.die with
    ca := .off, cb := .off, mirrorSync := false, m0Running := false, m1Running := false, m0Failed := false, m1Failed := false
    pwA := false, pwB := false, lkA := false, lkB := false, st0 := false, st1 := false, resync := none, resyncRetry := none
    switch := none, swapAt := none, quiet := none, takeDue := false, unserved := none, bootA := none, bootB := none } }
  { s1 with plant := { s1.plant with sideA := false, sideB := false, waitingBoot := none, testAt := none, carrierAt := none
                                     broadcastAt := none, wakeDue := none, wokenAt := none, rstAt := none }
            tx := { s1.tx with conns := [] } }

theorem State.darken_eq (s : State) :
    s.darken = (((s.diesDown.unpowerHalf 0).unpowerHalf 1).allGatesOff.closeKeys).each (List.range 40) fun z c => z.lcUpdate c := rfl

/-- The outputs that go off show in no reading of the device but that of its keys. -/
theorem State.darken_reads {β : Type} {g : State → β} (hstring : StringBlind g) (hchannel : ChannelBlind g)
    (hkeys : ∀ (z : State) k, g { z with keys := k } = g z) (s : State) : g s.darken = g s.diesDown := by
  rw [State.darken_eq]
  refine State.each_inv_of_mem (f := fun z c => z.lcUpdate c) (fun z => g z = g s.diesDown) ?_
    fun z c hc hz => (State.lcUpdate_channel hchannel (List.mem_range.1 hc) z).trans hz
  exact (hkeys ..).trans ((State.allGatesOff_strings hstring _).trans ((State.unpowerHalf_strings hstring (by decide) _).trans
    (State.unpowerHalf_strings hstring (by decide) _)))

/-- What stands of supplies, of site time and of the connections. -/
def State.plantSide (s : State) : PlantSt × TimeSt × EngineSt := (s.plant, s.time, s.tx)

theorem State.plantSide_of_deviceSide {s t : State} (h : t.deviceSide = s.deviceSide) : t.plantSide = s.plantSide := by
  simp only [State.deviceSide, Prod.mk.injEq] at h
  obtain ⟨hplant, htime, htx, -⟩ := h
  rw [State.plantSide, hplant, htime, htx, State.plantSide]

theorem State.darken_plantSide (s : State) : s.darken.plantSide = s.diesDown.plantSide :=
  State.darken_reads (g := State.plantSide)
    { put := fun s e n j v _ _ => State.plantSide_of_deviceSide (s.put_deviceSide e n j v)
      event := fun _ _ => rfl
      free := fun _ _ => rfl
      tests := fun _ _ => rfl
      legs := fun _ _ => rfl
      convs := fun _ _ => rfl
      strings := fun _ _ => rfl
      command := fun s c b => State.lcCommand_keeps State.plantSide (fun _ _ => rfl) s c b }
    { put := fun s e n j v _ _ => State.plantSide_of_deviceSide (s.put_deviceSide e n j v)
      event := fun _ _ => rfl
      free := fun _ _ => rfl
      tests := fun _ _ => rfl
      channels := fun _ _ => rfl }
    (fun _ _ => rfl) s

theorem State.darken_devState (s : State) : s.darken.devState = s.devState := by
  have hval : s.darken.val Ent.DEVICE_STATE = s.diesDown.val Ent.DEVICE_STATE :=
    State.darken_reads (StringBlind.val (by unfold ofStrings; decide)) (ChannelBlind.val (by unfold ofChannels; decide)) (fun _ _ => rfl) s
  exact State.nat_congr hval

theorem State.darken_die (s : State) : s.darken.die = s.diesDown.die := by simp [State.darken_eq]

/-! ### The requests -/

/-- Whether something stands against a request is not the tags' to change. -/
theorem State.restConflict_taken (s : State) (h : Held) : (s.taken h).restConflict = s.restConflict := by
  have hplant : (s.taken h).plant = s.plant := State.taken_keeps State.plant (fun _ _ _ _ => rfl) s h
  have houtlets : (s.taken h).outletIdle = s.outletIdle := State.taken_keeps State.outletIdle (fun _ _ _ _ => rfl) s h
  simp only [State.restConflict, State.serving, hplant, houtlets, s.nat_taken_of_base h (e := Ent.DEVICE_STATE) (by decide),
    s.nat_taken_of_base h (e := Ent.FW_UPDATE_STATUS) (by decide)]

/-- Strings open and the broadcast goes out: of the supplies the broadcast's time alone changes (R476, R480). -/
theorem State.beginRest_leaves (s : State) (op : Nat) :
    (s.beginRest op).plant = { s.plant with broadcastAt := some s.ticks } ∧
      (s.beginRest op).flag Ent.SLEEP_REQUEST = s.flag Ent.SLEEP_REQUEST := by
  have hopen {β : Type} {g : State → β} (hg : StringBlind g) : g (s.each ((List.range 8).filter fun n =>
      connecting (s.strState n) || s.strState n == Str.CONNECTED) fun z n => z.stringCause n 15 0) = g s :=
    State.each_inv_of_mem (f := fun z n => z.stringCause n 15 0) (fun z => g z = g s) rfl
      fun z n hn hz => (State.stringCause_strings hg (List.mem_range.1 (List.mem_filter.1 hn).1) z 15 0).trans hz
  have hplant := congrArg Prod.fst (hopen StringBlind.deviceSide)
  have hflag := hopen (StringBlind.val (e := Ent.SLEEP_REQUEST) (n := 0) (j := 0) (by unfold ofStrings; decide))
  unfold State.beginRest
  extract_lets s1 s2
  refine ⟨?_, ?_⟩
  · obtain ⟨c, w, hshow⟩ := State.refreshDevice_eq { s2 with plant := { s2.plant with broadcastAt := some s.ticks } }
    rw [hshow]
    exact congrArg (fun x : PlantSt => { x with broadcastAt := some s.ticks }) hplant
  · rw [State.flag_def, State.val_refreshDevice _ (by decide), State.flag_def]
    exact congrArg (fun v : Val => v.toInt != 0) hflag

theorem applySleepRequest_refused {s : State} (h : s.restConflict = true) : applySleepRequest 1 s = (s, St.CONFLICT) := by
  rw [applySleepRequest, h]
  rfl

theorem applySleepRequest_pending {s : State} (h : s.restConflict = false) :
    ∃ u, applySleepRequest 1 s = (u, St.OK) ∧ u.plant.sleep = true ∧ u.flag Ent.SLEEP_REQUEST = true := by
  obtain ⟨hplant, hflag⟩ := (State.setFlag { s with plant := { s.plant with sleep := true } } Ent.SLEEP_REQUEST 0 true).beginRest_leaves Com.SLEEP
  refine ⟨_, by rw [applySleepRequest, h]; rfl, ?_, ?_⟩
  · rw [hplant, State.setFlag_eq, State.put_plant]
  · rw [hflag, State.flag_def, State.setFlag_eq, State.val_put_same]
    rfl

theorem State.flag_setFlag_false (s : State) (e : Entry) : (s.setFlag e 0 false).flag e = false := by
  rw [State.flag_def, State.setFlag_eq, State.val_put_same]
  rfl

theorem State.wake_asleep {s : State} (h : s.devState = Dev.SLEEP) (source inst : Nat) :
    (s.wake source inst).flag Ent.SLEEP_REQUEST = false := by
  unfold State.wake
  rw [if_pos (beq_iff_eq.2 h)]
  extract_lets s1 s2
  have h1 : s1.flag Ent.SLEEP_REQUEST = false := by
    rw [State.flag_raise]
    exact s.flag_setFlag_false _
  have h2 : s2.flag Ent.SLEEP_REQUEST = false := by
    refine Eq.trans ?_ h1
    exact State.each_keeps s1 _ _ (fun z => z.flag Ent.SLEEP_REQUEST) fun _ _ => rfl
  clear_value s2
  exact (State.flag_setDevice _ _ (by decide)).trans h2

/-- SLEEP_REQUEST 0 shows 0 and ends a request that is pending (R478, R485). -/
theorem State.wake_client (s : State) (inst : Nat) (h : s.flag Ent.SLEEP_REQUEST = false) :
    (s.wake 2 inst).flag Ent.SLEEP_REQUEST = false ∧ (s.devState ≠ Dev.SLEEP → (s.wake 2 inst).plant.sleep = false) := by
  by_cases hsleeps : s.devState = Dev.SLEEP
  · exact ⟨State.wake_asleep hsleeps 2 inst, fun hawake => absurd hsleeps hawake⟩
  unfold State.wake
  rw [if_neg (mt beq_iff_eq.1 hsleeps)]
  split
  · rw [if_neg (by decide)]
    obtain ⟨z, hz⟩ : ∃ z : State, z = { s with plant := { s.plant with sleep := false, broadcastAt := none, wakeDue := none } } := ⟨_, rfl⟩
    obtain ⟨c, w, hshow⟩ := State.refreshDevice_eq ((z.setFlag Ent.SLEEP_REQUEST 0 false).raise Evt.DEVICE_WAKE inst 2 0)
    rw [← hz]
    refine ⟨?_, fun _ => ?_⟩
    · rw [State.flag_def, State.val_refreshDevice _ (by decide), ← State.flag_def, State.flag_raise]
      exact z.flag_setFlag_false _
    · rw [hshow, State.raise_eq]
      simp only [State.raiseWith_plant, State.setFlag_eq, State.put_plant, hz]
  · next hnot => exact ⟨h, fun _ => by simpa using hnot⟩

theorem applyShipRequest_refused {s : State} (h : s.restConflict = true) : applyShipRequest s = (s, St.CONFLICT) := by
  rw [applyShipRequest, h]
  rfl

theorem applyShipRequest_pending {s : State} (h : s.restConflict = false) :
    ∃ u, applyShipRequest s = (u, St.OK) ∧ u.plant.ship = true := by
  obtain ⟨hplant, -⟩ := State.beginRest_leaves { s with plant := { s.plant with ship := true } } Com.SHIP
  refine ⟨_, by rw [applyShipRequest, h]; rfl, ?_⟩
  rw [hplant]

/-! ### The ropes -/

/-- One rope stops and its monitors sleep (R251). -/
def State.stopRope (s : State) (n : Nat) : State :=
  let z1 := ((s.setRope n { s.rope n with carrier := false, phase := 0 }).setNat Ent.ROPE_STATE n Rope.OFF).setJoin n false
  (z1.each (z1.enrolledOf n) (fun y k => y.setNat Ent.MONITOR_STATE k Mon.SLEEPING)).send (carrierMsg n false)

theorem State.stopRopes_eq (s : State) :
    s.stopRopes = s.each ((List.range 8).filter fun n => decide (0 < s.nat Ent.MONITOR_COUNT n)) State.stopRope := rfl

/-- A reading that shows nothing of the ropes, of the radio, of what is sent and of the own values. -/
theorem State.stopRopes_keeps {β : Type} (g : State → β) (hput : ∀ (z : State) (e : Entry) n v, g (z.put e n 0 v) = g z)
    (hrest : ∀ (z : State) r x o, g { z with ropes := r, radio := x, out := o } = g z) (s : State) : g s.stopRopes = g s := by
  rw [State.stopRopes_eq]
  refine State.each_keeps s _ State.stopRope g fun z n => ?_
  exact (hrest ..).trans ((State.each_keeps _ _ _ g fun y k => hput ..).trans ((hrest ..).trans ((hput ..).trans (hrest ..))))

theorem State.rope_setRope_ne (s : State) {n m : Nat} (r : RopeSt) (h : m ≠ n) : (s.setRope n r).rope m = s.rope m :=
  Tab.get_set_ne _ _ _ _ _ h

/-- The rope stopped has no carrier and is OFF, and none gets a carrier by it or leaves OFF. -/
theorem State.stopRope_stops (s : State) (n m : Nat) (h : m = n ∨ ((s.rope m).carrier = false ∧ s.nat Ent.ROPE_STATE m = Rope.OFF)) :
    ((s.stopRope n).rope m).carrier = false ∧ (s.stopRope n).nat Ent.ROPE_STATE m = Rope.OFF := by
  obtain ⟨z1, hz1⟩ : ∃ z1, z1 = ((s.setRope n { s.rope n with carrier := false, phase := 0 }).setNat Ent.ROPE_STATE n Rope.OFF).setJoin n false :=
    ⟨_, rfl⟩
  have hrope : (s.stopRope n).rope m = z1.rope m := by
    rw [hz1]
    exact State.each_keeps _ _ _ (fun y => y.rope m) fun y k => congrArg (fun r => Tab.get RopeSt.none r m) (State.put_ropes ..)
  have hstate : (s.stopRope n).nat Ent.ROPE_STATE m = z1.nat Ent.ROPE_STATE m := by
    rw [hz1]
    exact State.each_keeps _ _ _ (fun y => y.nat Ent.ROPE_STATE m) fun y k => State.nat_put_sub _ (by decide) _ _ _
  rw [hrope, hstate, hz1]
  by_cases hm : m = n
  · subst hm
    exact ⟨congrArg RopeSt.carrier (s.rope_setRope_same m _), State.nat_setNat_same (s.setRope m _) Ent.ROPE_STATE m Rope.OFF 0⟩
  · obtain ⟨hcarrier, hoff⟩ := h.resolve_left hm
    refine ⟨(congrArg RopeSt.carrier (s.rope_setRope_ne _ hm)).trans hcarrier, ?_⟩
    refine Eq.trans (State.nat_put_ne (s.setRope n _) _ ?_) hoff
    rw [Entry.key, Entry.key]
    omega

theorem State.stopRopes_stops (s : State) {n : Nat} (hn : n < 8) (hfitted : 0 < s.nat Ent.MONITOR_COUNT n) :
    (s.stopRopes.rope n).carrier = false ∧ s.stopRopes.nat Ent.ROPE_STATE n = Rope.OFF := by
  have hmem : n ∈ (List.range 8).filter fun n => decide (0 < s.nat Ent.MONITOR_COUNT n) :=
    List.mem_filter.2 ⟨List.mem_range.2 hn, by simpa using hfitted⟩
  exact State.each_reaches (f := State.stopRope) (fun z => (z.rope n).carrier = false ∧ z.nat Ent.ROPE_STATE n = Rope.OFF) (fun _ => True) hmem
    trivial (fun _ _ _ => trivial) (fun z m hz => z.stopRope_stops m n (.inr hz)) fun z _ => z.stopRope_stops n n (.inl rfl)

/-! ### The entries -/

/-- The device in SLEEP, before a burst that came meanwhile (R476, R477). -/
def State.asleep (s : State) : State :=
  let s1 := s.stopRopes
  let s2 := { s1 with
    radio := { s1.radio with cur := none, due := none }
    cellSts := s1.cellSts.map (fun (x : Nat × CellSt) => (x.1, { x.2 with bleedTill := none }))
    die := { s1.die with mirrorSync := false, resync := none, resyncRetry := none }
    plant := { s1.plant with sleep := false, broadcastAt := none } }
  (s2.setStanding (1 - s2.activeDie) .off).setDevice Dev.SLEEP

theorem State.setStanding_frame (s : State) (d : Nat) (x : Standing) (y : DieSt) : { s.setStanding d x with die := y } = { s with die := y } := by
  unfold State.setStanding
  split <;> rfl

theorem State.setStanding_keeps {β : Type} (g : State → β) (hg : ∀ (z : State) y, g { z with die := y } = g z) (s : State) (d : Nat)
    (x : Standing) : g (s.setStanding d x) = g s := by
  rw [← hg (s.setStanding d x) s.die, State.setStanding_frame, hg]

theorem State.asleep_rests (s : State) : s.asleep.devState = Dev.SLEEP ∧ s.asleep.radio.cur = none ∧ s.asleep.radio.due = none ∧
    s.asleep.plant = { s.plant with sleep := false, broadcastAt := none } ∧ s.asleep.die.mirrorSync = false ∧
    (∀ n, s.asleep.rope n = s.stopRopes.rope n) ∧ ∀ n, s.asleep.nat Ent.ROPE_STATE n = s.stopRopes.nat Ent.ROPE_STATE n := by
  have hplant : s.stopRopes.plant = s.plant := State.stopRopes_keeps State.plant (fun _ _ _ _ => State.put_plant ..) (fun _ _ _ _ => rfl) s
  unfold State.asleep
  extract_lets s1 radio die plant s2
  have hstanding {β : Type} (g : State → β) (hg : ∀ (z : State) y, g { z with die := y } = g z) :=
    State.setStanding_keeps g hg s2 (1 - s2.activeDie) .off
  obtain ⟨c, w, e, hdev⟩ := (s2.setStanding (1 - s2.activeDie) .off).setDevice_eq Dev.SLEEP
  have hradio := hstanding State.radio fun _ _ => rfl
  refine ⟨State.devState_setDevice .., ?_, ?_, ?_, ?_, fun n => ?_, fun n => ?_⟩
  · rw [hdev, hradio]
  · rw [hdev, hradio]
  · rw [hdev]
    refine (hstanding State.plant fun _ _ => rfl).trans ?_
    show ({ s.stopRopes.plant with sleep := false, broadcastAt := none } : PlantSt) = _
    rw [hplant]
  · rw [hdev]
    show (s2.setStanding (1 - s2.activeDie) .off).die.mirrorSync = false
    unfold State.setStanding
    split <;> rfl
  · rw [hdev]
    exact hstanding (fun z => z.rope n) fun _ _ => rfl
  · refine (State.nat_congr (State.val_setDevice _ _ ⟨?_, ?_⟩)).trans (hstanding (fun z => z.nat Ent.ROPE_STATE n) fun _ _ => rfl)
    · exact Entry.key_ne_of_sub (by decide) _ _
    · exact Entry.key_ne_of_sub (by decide) _ _

theorem execSleepEntry_rests {s : State} (hsleep : s.plant.sleep = true) (hserving : s.serving = true)
    (hready : s.readyToRest Com.SLEEP = true) (hburst : s.plant.wakeDue = none) : execSleepEntry s = .next s.asleep := by
  obtain ⟨-, -, -, hplant, -, -, -⟩ := s.asleep_rests
  have hdue : s.asleep.plant.wakeDue = none := by rw [hplant, hburst]
  unfold execSleepEntry
  rw [if_neg (by simp [hsleep, hserving, hready])]
  show (match s.asleep.plant.wakeDue with | some w => ok (s.asleep.wake w.1 w.2) | none => ok s.asleep) = _
  rw [hdue]
  rfl

/-! ### The carriers after a wake -/

/-- A rope's carrier starts (R478). -/
def State.startCarrier (s : State) (n : Nat) : State := (s.setRope n { s.rope n with carrier := true }).send (carrierMsg n true)

theorem State.startCarrier_starts (s : State) (n m : Nat) (h : m = n ∨ (s.rope m).carrier = true) : ((s.startCarrier n).rope m).carrier = true := by
  by_cases hm : m = n
  · subst hm
    exact congrArg RopeSt.carrier (s.rope_setRope_same m _)
  · exact (congrArg RopeSt.carrier (s.rope_setRope_ne _ hm)).trans (h.resolve_left hm)

/-- The ropes whose carrier starts: those with monitors that are silent. -/
def State.silentRopes (s : State) : List Nat :=
  (List.range 8).filter fun n => decide (0 < s.nat Ent.MONITOR_COUNT n) && (s.rope n).phase == 0 && !(s.rope n).carrier

theorem execWakeCarrierStart_due {s : State} {b : Nat} (hat : s.plant.carrierAt = some b) (hdue : b ≤ s.ticks) (hserving : s.serving = true) :
    execWakeCarrierStart s = .next (State.each { s with plant := { s.plant with carrierAt := none } } s.silentRopes State.startCarrier) := by
  unfold execWakeCarrierStart
  rw [hat]
  exact if_neg (by simpa [hserving] using hdue)

theorem State.each_startCarrier (s : State) {n : Nat} (hn : n < 8) (hfitted : 0 < s.nat Ent.MONITOR_COUNT n) (hphase : (s.rope n).phase = 0)
    (z : State) (hz : z.ropes = s.ropes) : ((z.each s.silentRopes State.startCarrier).rope n).carrier = true := by
  by_cases hcarrier : (s.rope n).carrier = true
  · refine State.each_inv _ _ State.startCarrier (fun y => (y.rope n).carrier = true) ?_ fun y m hy => y.startCarrier_starts m n (.inr hy)
    rw [State.rope, hz]
    exact hcarrier
  · have hmem : n ∈ s.silentRopes := List.mem_filter.2 ⟨List.mem_range.2 hn, by simp [hfitted, hphase, hcarrier]⟩
    exact State.each_reaches (f := State.startCarrier) (fun y => (y.rope n).carrier = true) (fun _ => True) hmem trivial (fun _ _ _ => trivial)
      (fun y m hy => y.startCarrier_starts m n (.inr hy)) fun y _ => y.startCarrier_starts n n (.inl rfl)

/-! ### Site time while the meters stop -/

/-- A reading that shows nothing of what a commit of a metering die moves. -/
structure CommitBlind {β : Type} (g : State → β) : Prop extends PointBlind g (fun _ => True) where
  meters : ∀ (s : State) x, g { s with meters := x } = g s
  overs : ∀ (s : State) x, g { s with overs := x } = g s
  legal : ∀ (s : State) x, g { s with legal := x } = g s
  stream : ∀ (s : State) x, g { s with stream := x } = g s

section CommitBlind
variable {β : Type} {g : State → β} (hg : CommitBlind g)
include hg

theorem State.feedMeter_commit (s : State) (d : Nat) (ws : List Window) : g (s.feedMeter d ws) = g s := by
  unfold State.feedMeter
  split
  · rfl
  · exact State.each_keeps _ _ _ g fun z pt => hg.meters ..

theorem State.watchOver_commit (s : State) (pt leg : Nat) (amps : Rat) : g (s.watchOver pt leg amps) = g s := by
  unfold State.watchOver
  extract_lets key high
  split
  · split
    · exact hg.overs ..
    split
    · split
      · exact hg.overs ..
      · rfl
    · exact hg.overs ..
  · split
    · exact hg.overs ..
    · rfl

theorem State.setRat_commit {e : Entry} (he : e.inSets = false) (s : State) (n : Nat) (v : Rat) : g (s.setRat e n v) = g s :=
  hg.put _ _ _ _ _ he trivial

theorem State.showCommit_commit (s : State) (pt : Nat) (legs : List Leg) (frameEnd : Bool) : g (s.showCommit pt legs frameEnd) = g s := by
  unfold State.showCommit
  extract_lets p s1 s2 p2
  have h1 : g s1 = g s := by
    simp only [s1]
    split
    · split
      · exact (State.setRat_commit hg rfl ..).trans (State.setRat_commit hg rfl ..)
      · exact (State.setRat_commit hg rfl ..).trans (State.setRat_commit hg rfl ..)
    · rfl
  have h2 : g s2 = g s := by
    simp only [s2]
    split
    · exact (hg.put _ _ _ _ _ rfl trivial).trans ((State.setRat_commit hg rfl ..).trans h1)
    · exact h1
  exact (State.each_keeps _ _ _ g fun z x => State.watchOver_commit hg ..).trans ((hg.points ..).trans h2)

theorem State.markSession_commit (s : State) (d pt : Nat) : g (s.markSession d pt) = g s := by
  have hpoint (z : State) (k : PointSt) : g (z.setPoint pt k) = g z := hg.points ..
  have hsess (z : State) (k : Sess) : g (z.setSess (pt - 1) k) = g z := hg.sessions ..
  unfold State.markSession
  split
  · rfl
  extract_lets o k m own p p1 z s1 p2 z2
  have hz : g z = g s := hpoint ..
  have h1 : g s1 = g s := by
    simp only [s1]
    split
    · split
      · exact (hsess ..).trans hz
      · exact hz
    · rfl
  have hz2 : g z2 = g s := (hpoint ..).trans h1
  split
  · split
    · exact (hsess ..).trans hz2
    · exact hz2
  · exact h1

theorem State.commitPoint_commit (s : State) (d : Nat) (span : Rat) (frameEnd : Bool) (pt : Nat) :
    g (s.commitPoint d span frameEnd pt) = g s := by
  unfold State.commitPoint
  extract_lets m engines legs incs k s1 s2
  have h1 : g s1 = g s := (State.showPoint_blind hg.toPointBlind (fun _ _ _ _ => trivial) _).trans (hg.meters ..)
  have h2 : g s2 = g s := (State.markSession_commit hg ..).trans h1
  split
  · exact (State.showCommit_commit hg ..).trans h2
  · exact h2

/-- A commit moves the meters, their points and their views (R327, R334). -/
theorem State.commitDie_commit (s : State) (d now : Nat) (frameEnd flush : Bool) (ws : List Window) :
    g (s.commitDie d now frameEnd flush ws) = g s := by
  have hset (z : State) (k : CommitSt) : g (z.setCommit d k) = g z := by
    unfold State.setCommit
    split <;> exact hg.legal ..
  unfold State.commitDie
  extract_lets k span s1
  exact (hg.put _ _ _ _ _ rfl trivial).trans ((hset ..).trans ((State.each_keeps _ _ _ g fun z pt => State.commitPoint_commit hg ..).trans
    (State.feedMeter_commit hg ..)))

theorem State.stopMeter_commit (s : State) (d : Nat) : g (s.stopMeter d) = g s := by
  have hlegal : LegalBlind g fun _ => True := { hg.toOwnBlind with stream := hg.stream, legal := fun _ _ _ _ => hg.legal .. }
  unfold State.stopMeter
  split
  · rfl
  · have hlog := State.legalLog_blind hlegal (fun _ _ => trivial) s 9 (2 + d) 0xFFFF (s.cycle * 50000) 1
    split
    · exact (hg.legal ..).trans hlog
    · exact (hg.legal ..).trans hlog

end CommitBlind

theorem CommitBlind.time : CommitBlind State.time where
  put _ _ _ _ _ _ _ := State.put_time ..
  event _ _ := rfl
  free _ _ := rfl
  points _ _ := rfl
  sessions _ _ := rfl
  bill _ _ := rfl
  meters _ _ := rfl
  overs _ _ := rfl
  legal _ _ := rfl
  stream _ _ := rfl

/-! ### The entry to ship -/

/-- The stores complete, the time kept and the meters stopped (R480). -/
def State.storedForShip (s : State) (flushes : List Flush) : State :=
  ((((s.stopRopes.persistFrame.sealGrotto.writeBackup.each flushes fun z f =>
    if z.metering f.die.val then z.commitDie f.die.val (z.instant 50000) false true f.ws else z).stopMeter 0).stopMeter 1).persistFrame)

theorem State.sealGrotto_sfn (s : State) : s.sealGrotto.sfn = s.sfn := by
  unfold State.sealGrotto
  split <;> rfl

theorem State.storedForShip_time (s : State) (flushes : List Flush) : (s.storedForShip flushes).time.backupSfn = s.sfn := by
  have hsfn : s.stopRopes.persistFrame.sealGrotto.sfn = s.sfn :=
    (State.sealGrotto_sfn _).trans (State.stopRopes_keeps State.sfn (fun _ _ _ _ => State.put_sfn ..) (fun _ _ _ _ => rfl) s)
  refine Eq.trans (congrArg TimeSt.backupSfn (a₂ := s.stopRopes.persistFrame.sealGrotto.writeBackup.time) ?_) hsfn
  refine (State.stopMeter_commit CommitBlind.time ..).trans ((State.stopMeter_commit CommitBlind.time ..).trans ?_)
  refine State.each_keeps _ flushes _ State.time fun z f => ?_
  split
  · exact State.commitDie_commit CommitBlind.time ..
  · rfl

/-- The device in SHIP, its outputs off. -/
def State.shipped (s : State) (flushes : List Flush) : State :=
  (State.setDevice { s.storedForShip flushes with plant := { (s.storedForShip flushes).plant with ship := false, broadcastAt := none } }
    Dev.SHIP).darken

theorem execShipEntry_ships {s : State} (flushes : List Flush) (hship : s.plant.ship = true) (hserving : s.serving = true)
    (hready : s.readyToRest Com.SHIP = true) :
    execShipEntry flushes s = .next (State.setWin { s.shipped flushes with plant := { (s.shipped flushes).plant with supplyEn := false } }
      (if s.inWin vbkpBit then 2 ^ vbkpBit else 0)).refreshDevice := by
  unfold execShipEntry
  rw [if_neg (by simp [hship, hserving, hready])]
  unfold State.shipped State.storedForShip
  dsimp only
  rfl

theorem State.shipped_rests (s : State) (flushes : List Flush) :
    (s.shipped flushes).devState = Dev.SHIP ∧ (s.shipped flushes).plant.ship = false ∧ (s.shipped flushes).time.backupSfn = s.sfn ∧
      (s.shipped flushes).die.ca = .off ∧ (s.shipped flushes).die.cb = .off ∧ (s.shipped flushes).tx.conns = [] := by
  obtain ⟨z, hz⟩ : ∃ z, z = { s.storedForShip flushes with plant :=
    { (s.storedForShip flushes).plant with ship := false, broadcastAt := none } } := ⟨_, rfl⟩
  have heq : s.shipped flushes = (z.setDevice Dev.SHIP).darken := by rw [State.shipped, ← hz]
  obtain ⟨c, w, e, hdev⟩ := z.setDevice_eq Dev.SHIP
  have hside := (z.setDevice Dev.SHIP).darken_plantSide
  simp only [State.plantSide, Prod.mk.injEq] at hside
  obtain ⟨hplant, htime, htx⟩ := hside
  have hdie := (z.setDevice Dev.SHIP).darken_die
  rw [heq, State.darken_devState, hplant, htime, htx, hdie]
  refine ⟨State.devState_setDevice .., ?_, ?_, rfl, rfl, rfl⟩
  · rw [hdev, hz]
    rfl
  · rw [hdev, hz]
    exact s.storedForShip_time flushes

/-- Settles O57: the two requests, the two entries and the two wakes. -/
theorem theDeviceSleepsShipsAndWakes : Obligations.TheDeviceSleepsShipsAndWakes := by
  intro s
  have hconflict (h : Held) : (s.taken h).restConflict = s.restConflict := s.restConflict_taken h
  have hplant (h : Held) : (s.taken h).plant = s.plant := State.taken_keeps State.plant (fun _ _ _ _ => rfl) s h
  have hflag (u : State) (h : Held) : (u.answerLater h St.OK []).flag Ent.SLEEP_REQUEST = u.flag Ent.SLEEP_REQUEST := by
    rw [State.flag_def, State.val_answerLater, State.flag_def]
  refine ⟨fun c h ha => ⟨fun hstands => ?_, fun hfree => ?_⟩, fun c h ha => ?_, fun hsleep hserving hready hburst => ?_,
    fun b hat hdue hserving => ?_, fun c v h ha => ⟨fun hstands => ?_, fun hfree => ?_⟩, fun flushes hship hserving hready => ?_, fun mv ms => ?_⟩
  · exact ⟨_, congrArg Host.Outcome.next (State.clientCommand_effect ha rfl (applySleepRequest_refused ((hconflict h).trans hstands))),
      State.answerLater_repliesWith .., hplant h⟩
  · obtain ⟨u, hu, hsleep, hshown⟩ := applySleepRequest_pending ((hconflict h).trans hfree)
    exact ⟨_, congrArg Host.Outcome.next (State.clientCommand_effect ha rfl hu), State.answerLater_repliesWith .., hsleep,
      (hflag u h).trans hshown⟩
  · obtain ⟨hshown, hends⟩ := ((s.taken h).setFlag Ent.SLEEP_REQUEST 0 false).wake_client 0 (by
      rw [State.flag_def, State.setFlag_eq, State.val_put_same]
      rfl)
    have hdev : ((s.taken h).setFlag Ent.SLEEP_REQUEST 0 false).devState = s.devState :=
      (State.nat_put_ne _ _ (by decide)).trans (s.nat_taken_of_base h (by decide) 0)
    exact ⟨_, congrArg Host.Outcome.next (State.clientCommand_effect ha rfl rfl), State.answerLater_repliesWith .., (hflag _ h).trans hshown,
      fun hawake => hends (hdev.trans_ne hawake)⟩
  · obtain ⟨hdev, hcur, hdue, hplant, hmirror, hrope, hstate⟩ := s.asleep_rests
    refine ⟨_, execSleepEntry_rests hsleep hserving hready hburst, hdev, hcur, hdue, by rw [hplant], hmirror, fun n hn hfitted => ?_⟩
    rw [hrope, hstate]
    exact s.stopRopes_stops hn hfitted
  · refine ⟨_, execWakeCarrierStart_due hat hdue hserving, ?_, fun n hn hfitted hphase => s.each_startCarrier hn hfitted hphase _ rfl, ?_⟩
    · exact State.each_keeps _ _ _ State.plant fun _ _ => rfl
    · exact State.each_keeps { s with plant := { s.plant with carrierAt := none } } s.silentRopes State.startCarrier
        (fun z : State => { z with plant := s.plant, ropes := s.ropes, out := s.out }) fun _ _ => rfl
  · exact ⟨_, congrArg Host.Outcome.next (State.clientCommand_effect ha rfl (applyShipRequest_refused ((hconflict h).trans hstands))),
      State.answerLater_repliesWith .., hplant h⟩
  · obtain ⟨u, hu, hship⟩ := applyShipRequest_pending ((hconflict h).trans hfree)
    exact ⟨_, congrArg Host.Outcome.next (State.clientCommand_effect ha rfl hu), State.answerLater_repliesWith .., hship⟩
  · obtain ⟨hdev, hended, hsfn, hca, hcb, hconns⟩ := s.shipped_rests flushes
    refine ⟨_, execShipEntry_ships flushes hship hserving hready, ?_⟩
    generalize s.shipped flushes = z at *
    refine ⟨?_, rfl, hended, hsfn, hca, hcb, hconns⟩
    rw [State.devState_refreshDevice]
    exact (State.nat_put_ne _ _ (by decide)).trans hdev
  · by_cases hwakes : s.devState = Dev.SHIP ∧ 1200 < mv ∧ 100 ≤ ms
    · obtain ⟨hship, hmv, hms⟩ := hwakes
      exact ⟨_, if_pos (by simp [hship, hmv, hms]), fun hnot => by omega, fun _ _ _ => rfl⟩
    · refine ⟨s, if_neg ?_, fun _ => rfl, fun hship hmv hms => absurd ⟨hship, hmv, hms⟩ hwakes⟩
      simpa [and_assoc] using hwakes

end Sys2Proof.Machine
end

section
/-!
PROOFS. Supplies, resets and clocks (O56): what a domain that leaves its window takes with it, and that none of it moves the windows shown
(R466 to R468, R474, R475, R489).
-/
namespace Sys2Proof.Machine
open Sys2Proof

theorem OwnBlind.mono {β : Type} {g : State → β} {K L : Nat → Prop} (hg : OwnBlind g K) (h : ∀ k, L k → K k) : OwnBlind g L where
  put _ _ _ _ _ he hk := hg.put _ _ _ _ _ he (h _ hk)
  event := hg.event
  free := hg.free

/-! ### The windows, as they stand and as they show -/

/-- The domains in their windows, the sides out of reset and SUPPLY_STATUS. -/
def State.supplies (s : State) : Nat × Bool × Bool × Val := (s.plant.inWindow, s.plant.sideA, s.plant.sideB, s.val Ent.SUPPLY_STATUS)

theorem State.supplies_own : OwnBlind State.supplies (· ≠ Ent.SUPPLY_STATUS.key) where
  put _ _ _ _ _ _ hk := by simp only [State.supplies, State.put_plant, State.val_put_ne _ _ _ _ _ _ _ _ (Ne.symm hk)]
  event _ _ := rfl
  free _ _ := rfl

/-- Beside that key an own value moves none of it. -/
theorem State.put_supplies {e : Entry} (h : e.inSets = false ∧ e.sub < 256 ∧ e.sub ≠ 3) (s : State) (n : Nat) (v : Val) :
    (s.put e n 0 v).supplies = s.supplies :=
  State.supplies_own.put _ _ _ _ _ h.1 (Entry.key_ne_of_sub (f := Ent.SUPPLY_STATUS) ⟨h.2.1, by decide, h.2.2⟩ n 0)

theorem State.raise_supplies (s : State) (k : EvKind) (i p q : Nat) : (s.raise k i p q).supplies = s.supplies :=
  State.raise_own State.supplies_own ..

theorem State.raiseWith_supplies (s : State) (b : Bool) (k : EvKind) (i p q : Nat) : (s.raiseWith b k i p q).supplies = s.supplies := by
  simp only [State.supplies, State.raiseWith_plant, State.val_raiseWith]

theorem ne_supplyStatus_of_lt {k : Nat} (h : k < 0xC002 * 256) : k ≠ Ent.SUPPLY_STATUS.key :=
  (Nat.lt_of_lt_of_le h (by decide)).ne

theorem State.supplies_strings : StringBlind State.supplies where
  toOwnBlind := State.supplies_own.mono fun k hk => ne_supplyStatus_of_lt (hk.2.trans (by decide))
  tests _ _ := rfl
  legs _ _ := rfl
  convs _ _ := rfl
  strings _ _ := rfl
  command s c b := State.lcCommand_keeps State.supplies (fun _ _ => rfl) s c b

theorem State.supplies_channels : ChannelBlind State.supplies where
  toOwnBlind := State.supplies_own.mono fun k hk => ne_supplyStatus_of_lt (hk.2.trans (by decide))
  tests _ _ := rfl
  channels _ _ := rfl

/-! ### A metering die that fails -/

/-- The own values a metering die's failure moves: some below index 0xC000, and of every channel what it shows of its source (R15). -/
def ofMeterFault (k : Nat) : Prop := k < 0xC000 * 256 ∨ k % 256 ∈ [Ent.MCH_STATUS.sub, Ent.MCH_VALUE.sub, Ent.MCH_MIN.sub, Ent.MCH_MAX.sub]

theorem ofMeterFault_channel {e : Entry} (h : e.sub ∈ [Ent.MCH_STATUS.sub, Ent.MCH_VALUE.sub, Ent.MCH_MIN.sub, Ent.MCH_MAX.sub] ∧ e.sub < 256)
    (ch : Nat) : ofMeterFault (e.key ch) := by
  obtain ⟨hsub, hlow⟩ := h
  have hkey : e.key ch % 256 = e.sub := by
    rw [Entry.key]
    omega
  exact .inr (hkey ▸ hsub)

theorem ofMeterFault_point {e : Entry} (h : e.base < 0xB000 ∧ e.step = 1 ∧ e.sub + e.subs ≤ 256 ∧ 0 < e.subs) {pt : Nat} (hpt : pt < 17)
    {j : Nat} (hj : j < e.subs) : ofMeterFault (e.key pt j) := by
  obtain ⟨hbase, hstep, hhigh, -⟩ := h
  refine .inl ?_
  rw [Entry.key, hstep]
  omega

/-- What neither such a value shows, nor the points, the logs and the fault flags of the dies. -/
structure MeterBlind {β : Type} (g : State → β) : Prop extends LegalBlind g ofMeterFault, PointBlind g ofMeterFault where
  dies : ∀ (s : State) x, g { s with die := x } = g s
  images : ∀ (s : State) x, g { s with fw := x } = g s

section MeterBlind
variable {β : Type} {g : State → β} (hg : MeterBlind g)
include hg

theorem State.legalLog_meter (s : State) (kind origin object p q : Nat) : g (s.legalLog kind origin object p q) = g s :=
  State.legalLog_blind hg.toLegalBlind (fun k hk => .inl (by obtain rfl | rfl | rfl | rfl := hk <;> decide)) ..

theorem State.setSource_meter {pt : Nat} (hpt : pt < 17) (s : State) (d cause : Nat) : g (s.setSource pt d cause) = g s := by
  have hviews : ∀ e ∈ pointViews, ∀ j < e.subs, ofMeterFault (e.key pt j) := by
    have hplace : ∀ e ∈ pointViews, e.base < 0xB000 ∧ e.step = 1 ∧ e.sub + e.subs ≤ 256 ∧ 0 < e.subs := by decide
    exact fun e he j hj => ofMeterFault_point (hplace e he) hpt hj
  by_cases h : s.billSource pt = d
  · rw [State.setSource_same h]
  · exact (State.setSource_blind hg.toPointBlind hviews h cause).trans
      (hg.put _ _ _ _ _ rfl (ofMeterFault_point (e := Ent.BILLING_SOURCE) (by decide) hpt (by decide)))

theorem State.abandonStagger_meter (s : State) (cause : Nat) : g (s.abandonStagger cause) = g s := by
  unfold State.abandonStagger
  split
  · rfl
  · exact (State.legalLog_meter hg ..).trans ((State.raise_own hg.toOwnBlind ..).trans
      ((hg.put _ Ent.LEGAL_CHECK_VALUE_M1 _ _ _ rfl (.inl (by decide))).trans
        ((hg.put _ Ent.MEAS_LEGAL_M1 _ _ _ rfl (.inl (by decide))).trans (hg.images ..))))

theorem State.metersSingle_meter (s : State) (d diag : Nat) : g (s.metersSingle d diag) = g s := by
  unfold State.metersSingle
  extract_lets other alive s1
  refine (State.when_keeps _ _ _ g fun z => State.abandonStagger_meter hg z 0).trans ?_
  refine State.each_inv_of_mem (fun z => g z = g s) (State.legalLog_meter hg ..) fun z pt hmem hz => ?_
  have hpt : pt < 17 := List.mem_range.1 (List.mem_filter.1 hmem).1
  have hcross : g (z.setNat Ent.CROSS_STATE pt Cross.SINGLE) = g s :=
    (hg.put _ _ _ _ _ rfl (ofMeterFault_point (e := Ent.CROSS_STATE) (by decide) hpt (by decide))).trans hz
  dsimp only
  split
  · exact (State.legalLog_meter hg ..).trans ((State.setSource_meter hg hpt ..).trans hcross)
  · exact hcross

theorem State.chooseSource_meter (s : State) (ch : Nat) (v0 v1 : Bool) (c0 c1 : Nat) : g (s.chooseSource ch v0 v1 c0 c1) = g s := by
  unfold State.chooseSource
  extract_lets old src s1 s2 k
  have hshown : g s1 = g s := hg.put _ Ent.MCH_STATUS _ _ _ rfl (ofMeterFault_channel (by decide) ch)
  have hnoted : g s2 = g s1 := State.when_keeps _ _ _ g fun z => State.raise_own hg.toOwnBlind ..
  exact (hg.put _ Ent.MCH_MAX _ _ _ rfl (ofMeterFault_channel (by decide) ch)).trans
    ((hg.put _ Ent.MCH_MIN _ _ _ rfl (ofMeterFault_channel (by decide) ch)).trans
      ((hg.put _ Ent.MCH_VALUE _ _ _ rfl (ofMeterFault_channel (by decide) ch)).trans (hnoted.trans hshown)))

theorem State.failMeter_meter (s : State) (d diag : Nat) : g (s.failMeter d diag) = g s := by
  unfold State.failMeter
  split
  · rfl
  · refine (State.metersSingle_meter hg ..).trans ((State.each_keeps _ _ _ g fun z ch => ?_).trans ((State.raise_own hg.toOwnBlind ..).trans ?_))
    · dsimp only
      split
      · exact State.chooseSource_meter hg ..
      · exact State.chooseSource_meter hg ..
    · split
      · exact hg.dies ..
      · exact hg.dies ..

end MeterBlind

theorem State.supplies_meter : MeterBlind State.supplies where
  toOwnBlind := State.supplies_own.mono fun k hk => hk.elim (fun hlow => ne_supplyStatus_of_lt (hlow.trans (by decide))) fun hsub heq =>
    absurd (heq ▸ hsub) (by decide)
  stream _ _ := rfl
  legal _ _ _ _ := rfl
  points _ _ := rfl
  sessions _ _ := rfl
  bill _ _ := rfl
  dies _ _ := rfl
  images _ _ := rfl

theorem State.failMeter_supplies (s : State) (d diag : Nat) : (s.failMeter d diag).supplies = s.supplies :=
  State.failMeter_meter State.supplies_meter ..

/-! ### A half that fails -/

theorem State.setDevice_supplies (s : State) (st : Nat) : (s.setDevice st).supplies = s.supplies := by
  have hplant : (s.setDevice st).plant = s.plant := by
    obtain ⟨c, w, e, h⟩ := s.setDevice_eq st
    rw [h]
  rw [State.supplies, hplant, State.val_setDevice _ _ (by decide), State.supplies]

theorem State.linkDown_supplies (s : State) {o : Nat} : (s.linkDown o).supplies = s.supplies := by
  have hend (z : State) (reason : Nat) (fast : Bool) : (z.endSession o reason fast).supplies = z.supplies :=
    State.endSession_keeps State.supplies (fun _ _ => rfl) (fun _ _ _ _ => rfl) o (fun _ _ => State.put_supplies (by decide) ..) ..
  have htrip (z : State) : (z.noteTrip o).supplies = z.supplies := by
    unfold State.noteTrip
    split
    · rfl
    · rfl
  unfold State.linkDown
  extract_lets s1
  split
  · exact (hend ..).trans ((htrip _).trans (State.raise_supplies ..))
  · rfl

theorem State.placePort_supplies (s : State) : s.placePort.supplies = s.supplies := by
  unfold State.placePort
  extract_lets on stream s1
  have h1 : s1.supplies = s.supplies := by
    simp only [s1]
    split
    · rfl
    · rfl
  split
  · split
    · exact (State.put_supplies (by decide) ..).trans h1
    · exact h1
  · exact (State.put_supplies (by decide) ..).trans h1

theorem State.askHandover_supplies (s : State) (cause : Nat) : (s.askHandover cause).supplies = s.supplies := by
  unfold State.askHandover
  generalize (if s.eus.modem == 0 then s.die.lkB else s.die.lkA) = up
  split
  · rfl
  · rfl

theorem State.changeTickLine_supplies (s : State) (deviation : Nat) : (s.changeTickLine deviation).supplies = s.supplies :=
  State.raise_supplies ..

theorem State.loseLk_supplies (s : State) (h : Nat) : (s.loseLk h).supplies = s.supplies := by
  unfold State.loseLk
  extract_lets s1 tx2 s2 s3
  have hset : (s.setLk h false).supplies = s.supplies := by
    unfold State.setLk
    split
    · rfl
    · rfl
  have h1 : s1.supplies = s.supplies :=
    (State.each_keeps (s.setLk h false) _ (fun z o => z.linkDown o) State.supplies fun z o => z.linkDown_supplies).trans hset
  clear_value s1
  have h2 : s2.supplies = s.supplies := by
    simp only [s2]
    split
    · exact h1
    · exact h1
  have h3 : s3.supplies = s.supplies := (State.when_keeps _ _ _ State.supplies fun z => z.changeTickLine_supplies none32).trans h2
  exact (State.placePort_supplies _).trans ((State.when_keeps _ _ _ State.supplies fun z => z.askHandover_supplies 0).trans h3)

theorem State.losePw_supplies {h : Nat} (hh : h < 2) (s : State) : (s.losePw h).supplies = s.supplies := by
  have hset : (s.setPw h false).supplies = s.supplies := by
    unfold State.setPw
    split
    · rfl
    · rfl
  unfold State.losePw
  extract_lets s1
  have h1 : s1.supplies = s.supplies := by
    refine State.each_inv_of_mem (f := fun z c => z.lcUpdate c) (fun z => z.supplies = s.supplies)
      ((State.unpowerHalf_strings State.supplies_strings hh _).trans hset) fun z c hc hz => ?_
    exact (State.lcUpdate_channel State.supplies_channels (by have := mem_halfChannels.1 hc; omega) z).trans hz
  refine State.each_inv_of_mem (f := fun z n => z.stringCause n 16 0) (fun z => z.supplies = s.supplies) h1 fun z n hn hz => ?_
  have hn8 : n < 8 := List.mem_range.1 (List.mem_filter.1 (List.mem_filter.1 hn).1).1
  exact (State.stringCause_strings State.supplies_strings hn8 z 16 0).trans hz

theorem State.halfFault_supplies (s : State) (half diag : Nat) : (s.halfFault half diag).supplies = s.supplies := by
  have hh : half % 2 < 2 := Nat.mod_lt _ (by decide)
  unfold State.halfFault
  extract_lets h told
  split
  · split
    · exact (State.raise_supplies ..).trans (State.losePw_supplies hh s)
    · rfl
  · split
    · exact (State.raise_supplies ..).trans (State.loseLk_supplies ..)
    · rfl
  · rfl
  · split
    · refine (State.raise_supplies ..).trans ?_
      unfold State.setSt
      split
      · rfl
      · rfl
    · rfl

/-! ### A side that fails -/

theorem State.setStanding_supplies (s : State) (d : Nat) (x : Standing) : (s.setStanding d x).supplies = s.supplies :=
  State.setStanding_keeps State.supplies (fun _ _ => rfl) ..

theorem State.strand_supplies (s : State) : s.strand.supplies = s.supplies := by
  unfold State.strand
  split
  · exact State.setStanding_supplies ..
  · rfl

theorem State.loseSync_supplies (s : State) : s.loseSync.supplies = s.supplies := by
  unfold State.loseSync
  extract_lets other s1
  refine (State.strand_supplies _).trans ?_
  split
  · exact State.setStanding_supplies ..
  · rfl

theorem State.countStop_supplies (s : State) (die : Nat) : (s.countStop die).supplies = s.supplies := by
  unfold State.countStop
  extract_lets recent limit block l dies s1
  have h1 : s1.supplies = s.supplies := by
    simp only [s1]
    split
    · rfl
    · rfl
  split
  · exact (State.raise_supplies ..).trans h1
  · exact h1

theorem State.selfDiagnose_supplies (s : State) (die code : Nat) : (s.selfDiagnose die code).supplies = s.supplies := by
  unfold State.selfDiagnose
  dsimp only
  split
  · split
    · rfl
    split
    · exact State.raise_supplies ..
    have hquiet (b : Bool) (z : State) : ((if b then z.sendYield die code else z).countStop die).supplies = z.supplies := by
      refine (State.countStop_supplies ..).trans ?_
      split
      · rfl
      · rfl
    split
    · exact hquiet ..
    · exact (State.strand_supplies _).trans (hquiet ..)
  · refine (State.countStop_supplies ..).trans ((State.raiseWith_supplies ..).trans ((State.setStanding_supplies ..).trans s.loseSync_supplies))
  · rfl

theorem State.afterStop_supplies (s : State) : s.afterStop.supplies = s.supplies := by
  unfold State.afterStop
  split
  · exact State.setDevice_supplies ..
  · rfl

theorem State.loseSide_supplies (s : State) (x : Nat) : (s.loseSide x).supplies = (s.setSide x false).supplies := by
  unfold State.loseSide
  extract_lets s1
  exact (State.halfFault_supplies ..).trans ((State.when_keeps _ _ _ State.supplies fun z => z.failMeter_supplies x 3).trans
    ((State.afterStop_supplies _).trans (State.selfDiagnose_supplies ..)))

/-! ### A domain that leaves its window -/

theorem bit_setBit_false (n i : Nat) : bit (setBit n i false) i = false := by
  unfold setBit
  split
  · next h => exact beq_iff_eq.1 h
  · next h =>
    rw [if_neg Bool.false_ne_true]
    have hodd : n / 2 ^ i % 2 = 1 := by simpa [bit] using h
    have hless : (n - 2 ^ i * 1) / 2 ^ i = n / 2 ^ i - 1 := Nat.sub_mul_div ..
    rw [Nat.mul_one] at hless
    simp only [bit, hless, beq_eq_false_iff_ne]
    omega

/-- What stands after a change that leaves the windows as `z` has them. -/
theorem State.supplies_eq {t z : State} (h : t.supplies = z.supplies) : t.plant.inWindow = z.plant.inWindow ∧ (∀ x, t.sideUp x = z.sideUp x) ∧
    t.nat Ent.SUPPLY_STATUS = z.nat Ent.SUPPLY_STATUS := by
  simp only [State.supplies, Prod.mk.injEq] at h
  obtain ⟨hwin, ha, hb, hval⟩ := h
  exact ⟨hwin, fun x => by rw [State.sideUp, ha, hb, State.sideUp], State.nat_congr hval⟩

/-- The domain's bit falls, with its event. -/
def State.leftWindow (s : State) (d mv : Nat) : State := (s.setWin (setBit s.plant.inWindow d false)).raise Evt.SUPPLY_FAULT d mv 0

theorem State.setWin_plant (s : State) (m : Nat) : (s.setWin m).plant = { s.plant with inWindow := m } := State.put_plant ..

theorem State.leftWindow_plant (s : State) (d mv : Nat) :
    (s.leftWindow d mv).plant = { s.plant with inWindow := setBit s.plant.inWindow d false } := (State.raiseWith_plant ..).trans (State.setWin_plant ..)

theorem State.inWin_leftWindow (s : State) (d mv : Nat) : (s.leftWindow d mv).inWin d = false := by
  rw [State.inWin, State.leftWindow_plant]
  exact bit_setBit_false ..

/-- The windows moved show in SUPPLY_STATUS, and the event is the state's own. -/
theorem State.setWin_raise (s : State) (m : Nat) (k : EvKind) (i p q : Nat) :
    ((s.setWin m).raise k i p q).nat Ent.SUPPLY_STATUS = m ∧ s.raised ((s.setWin m).raise k i p q) k i p q ∧
      { (s.setWin m).raise k i p q with plant := s.plant, cells := s.cells, ev := s.ev } = s := by
  obtain ⟨hnat, hraised, -, hframe⟩ := State.setNat_raise (e := Ent.SUPPLY_STATUS) (by decide)
    { s with plant := { s.plant with inWindow := m } } 0 m k i p q
  exact ⟨hnat, hraised.trans (State.raise_ev_congr (by rfl) (by rfl) (by rfl) (by rfl) ..), congrArg (fun z : State => { z with plant := s.plant }) hframe⟩

theorem State.leftWindow_shows (s : State) (d mv : Nat) : (s.leftWindow d mv).nat Ent.SUPPLY_STATUS = (s.leftWindow d mv).plant.inWindow := by
  rw [State.leftWindow_plant]
  exact (s.setWin_raise _ _ _ _ _).1

theorem execSupplyFault_effect {s : State} {dom : Fin 15} {mv : Nat} (hout : inSupplyWindow dom mv = false) (hin : s.inWin dom = true)
    (hoff : s.devState ≠ Dev.OFF) (hship : s.devState ≠ Dev.SHIP) (hside : s.plant.sideA = true ∨ s.plant.sideB = true) :
    execSupplyFault dom mv s = .next (
      if decide (dom.val < 4) && ((s.leftWindow dom mv).domainEffect dom mv).allLost && !s.allLost then
        ((s.leftWindow dom mv).domainEffect dom mv).goOff
      else (s.leftWindow dom mv).domainEffect dom mv) := by
  have hup : (s.plant.sideA || s.plant.sideB) = true := by simpa using hside
  unfold execSupplyFault
  dsimp only
  rw [if_neg (by simp [hout]), if_neg (by simp [hin]), if_neg (by simp [hoff, hship]), hup, hin, Bool.true_and]
  rfl

/-- A domain without a side behind it leaves the windows alone. -/
theorem State.domainEffect_supplies {d : Nat} (hd : 4 ≤ d) (s : State) (mv : Nat) : (s.domainEffect d mv).supplies = s.supplies := by
  unfold State.domainEffect
  extract_lets x
  split
  · omega
  · omega
  · exact State.halfFault_supplies ..
  · exact State.halfFault_supplies ..
  · exact State.when_keeps _ _ _ State.supplies fun z => z.failMeter_supplies ..
  · split
    · rfl
    · rfl
  · rfl

theorem State.domainEffect_side {d : Nat} (hd : d < 4) (s : State) (mv : Nat) :
    (s.domainEffect d mv).supplies = (s.setSide (d % 2) false).supplies := by
  have hkind : d / 2 = 0 ∨ d / 2 = 1 := by omega
  unfold State.domainEffect
  obtain hkind | hkind := hkind
  · rw [hkind]
    exact State.loseSide_supplies ..
  · rw [hkind]
    exact (State.halfFault_supplies ..).trans (State.loseSide_supplies ..)

theorem State.sideUp_setSide (s : State) (x : Nat) (b : Bool) : (s.setSide x b).sideUp x = b := by
  unfold State.setSide State.sideUp
  split
  · rfl
  · rfl

theorem State.setSide_inWindow (s : State) (x : Nat) (b : Bool) : (s.setSide x b).plant.inWindow = s.plant.inWindow := by
  unfold State.setSide
  split
  · rfl
  · rfl

theorem State.goOff_off (s : State) : s.goOff.devState = Dev.OFF ∧ s.goOff.plant.inWindow = s.plant.inWindow ∧ ∀ x, s.goOff.sideUp x = false := by
  have hside := s.darken_plantSide
  simp only [State.plantSide, Prod.mk.injEq] at hside
  obtain ⟨hplant, -, -⟩ := hside
  unfold State.goOff
  generalize s.darken = y at hplant ⊢
  dsimp only
  obtain ⟨z, hz⟩ : ∃ z : State, z = { y with plant := { y.plant with
    offFrom := some s.devState, sleep := false, ship := false, toSleep := false, toRecovery := false
    startCause := 0, supplyEn := y.inWin vbkpBit } } := ⟨_, rfl⟩
  rw [← hz]
  have hplace : ((z.setNat Ent.DEVICE_STATE 0 Dev.OFF).refreshDevice).plant = z.plant := (State.put_plant ..).trans (State.put_plant ..)
  refine ⟨(State.devState_refreshDevice _).trans (State.nat_setNat_same ..), ?_, fun x => ?_⟩
  · rw [hplace, hz]
    dsimp only
    rw [hplant]
    rfl
  · rw [State.sideUp, hplace, hz]
    dsimp only
    rw [hplant]
    exact ite_self _

theorem State.allLost_congr {s t : State} (h : t.plant.inWindow = s.plant.inWindow) : t.allLost = s.allLost := by
  simp only [State.allLost, State.inWin, h]

/-- Without its VCORE or its VIO a side is down, and with no side left the device is OFF (R466). -/
theorem execSupplyFault_side {s : State} {dom : Fin 15} {mv : Nat} (hout : inSupplyWindow dom mv = false) (hin : s.inWin dom = true)
    (hoff : s.devState ≠ Dev.OFF) (hship : s.devState ≠ Dev.SHIP) (hside : s.plant.sideA = true ∨ s.plant.sideB = true) (hdom : dom.val < 4) :
    ∃ t, execSupplyFault dom mv s = .next t ∧ t.inWin dom = false ∧ t.sideUp (dom.val % 2) = false ∧
      (s.allLost = false → { s with plant := { s.plant with inWindow := setBit s.plant.inWindow dom false } }.allLost = true →
        t.devState = Dev.OFF) := by
  obtain ⟨hwin, hdown, -⟩ := State.supplies_eq (State.domainEffect_side hdom (s.leftWindow dom mv) mv)
  rw [State.setSide_inWindow] at hwin
  have hfell (t : State) (ht : t.plant.inWindow = ((s.leftWindow dom mv).domainEffect dom mv).plant.inWindow) : t.inWin dom = false := by
    rw [State.inWin, ht, hwin]
    exact s.inWin_leftWindow dom mv
  refine ⟨_, execSupplyFault_effect hout hin hoff hship hside, ?_⟩
  split
  · obtain ⟨hdev, hkept, hsides⟩ := ((s.leftWindow dom mv).domainEffect dom mv).goOff_off
    exact ⟨hfell _ hkept, hsides _, fun _ _ => hdev⟩
  · next hnot =>
    refine ⟨hfell _ rfl, (hdown _).trans (State.sideUp_setSide ..), fun hwas hlost => absurd ?_ hnot⟩
    have hlost' : ((s.leftWindow dom mv).domainEffect dom mv).allLost = true :=
      (State.allLost_congr (hwin.trans (congrArg PlantSt.inWindow (s.leftWindow_plant dom mv)))).trans hlost
    simp [hdom, hlost', hwas]

/-- A domain of no control die shows as it leaves, and what it supplies goes (R466). -/
theorem execSupplyFault_domain {s : State} {dom : Fin 15} {mv : Nat} (hout : inSupplyWindow dom mv = false) (hin : s.inWin dom = true)
    (hoff : s.devState ≠ Dev.OFF) (hship : s.devState ≠ Dev.SHIP) (hside : s.plant.sideA = true ∨ s.plant.sideB = true) (hdom : 4 ≤ dom.val) :
    execSupplyFault dom mv s = .next ((s.leftWindow dom mv).domainEffect dom mv) ∧
      ((s.leftWindow dom mv).domainEffect dom mv).inWin dom = false ∧
      ((s.leftWindow dom mv).domainEffect dom mv).nat Ent.SUPPLY_STATUS = ((s.leftWindow dom mv).domainEffect dom mv).plant.inWindow := by
  obtain ⟨hwin, -, hshown⟩ := State.supplies_eq (State.domainEffect_supplies hdom (s.leftWindow dom mv) mv)
  refine ⟨?_, ?_, ?_⟩
  · rw [execSupplyFault_effect hout hin hoff hship hside, if_neg (by simp [Nat.not_lt.2 hdom])]
  · rw [State.inWin, hwin]
    exact s.inWin_leftWindow dom mv
  · rw [hshown, hwin]
    exact s.leftWindow_shows dom mv

/-- A link die half is down after its fault. -/
theorem State.halfFault_lkUp (s : State) {half : Nat} (h : half / 2 = 1) (diag : Nat) : (s.halfFault half diag).lkUp (half % 2) = false := by
  by_cases hup : s.lkUp (half % 2) = true
  · rw [State.halfFault_lk h hup]
    exact (State.lkUp_of_die (State.raise_die ..) _).trans (s.loseLk_lkUp _)
  · unfold State.halfFault
    rw [h]
    simp [hup]

theorem State.domainEffect_link {d : Nat} (h : d / 2 = 2 ∨ d / 2 = 4) (s : State) (mv : Nat) :
    s.domainEffect d mv = s.halfFault (2 + d % 2) 3 := by
  unfold State.domainEffect
  obtain h | h := h
  · rw [h]
    rfl
  · rw [h]
    rfl

theorem State.domainEffect_meter {d : Nat} (h : d / 2 = 3) (s : State) (mv : Nat) :
    s.domainEffect d mv = s.when (s.meterRunning (d % 2)) fun z => z.failMeter (d % 2) 3 := by
  unfold State.domainEffect
  rw [h]
  rfl

theorem State.domainEffect_none {d : Nat} (h : d / 2 = 5 ∨ d / 2 = 6) (s : State) (mv : Nat) : s.domainEffect d mv = s := by
  unfold State.domainEffect
  obtain h | h := h
  · rw [h]
    rfl
  · rw [h]
    rfl

/-- VBKP that falls below 2.3 V invalidates the backup counter and does nothing else (R34). -/
theorem State.domainEffect_vbkp {d : Nat} (h : d = 14) (s : State) (mv : Nat) :
    (s.domainEffect d mv).time = (if mv < 2300 then { s.time with backupValid := false } else s.time) ∧ (s.domainEffect d mv).ev = s.ev ∧
      { s.domainEffect d mv with time := s.time } = s := by
  have heffect : s.domainEffect d mv = if mv < 2300 then { s with time := { s.time with backupValid := false } } else s := by
    rw [h]
    rfl
  rw [heffect]
  split
  · exact ⟨rfl, rfl, rfl⟩
  · exact ⟨rfl, rfl, rfl⟩

theorem State.failMeter_failed (s : State) (m1 : Bool) (diag : Nat) : (s.failMeter (b2n m1) diag).meterFailed (b2n m1) = true := by
  cases h : s.meterFailed (b2n m1) with
  | false => exact (State.failMeter_marks m1 diag h).1
  | true =>
    rw [State.failMeter, if_pos h]
    exact h

/-- A metering die whose domain leaves is failed, when it ran. -/
theorem State.domainEffect_meterFailed {d : Nat} (h : d / 2 = 3) (s : State) (mv : Nat) (hrun : s.meterRunning (d % 2) = true) :
    (s.domainEffect d mv).meterFailed (d % 2) = true := by
  rw [State.domainEffect_meter h, hrun]
  obtain hx | hx := Nat.mod_two_eq_zero_or_one d
  · rw [hx]
    exact s.failMeter_failed false 3
  · rw [hx]
    exact s.failMeter_failed true 3

/-! ### A domain that is back -/

/-- The domain's bit rises; VBKP raises SUPPLY_EN of a device in OFF. -/
def State.backInWindow (s : State) (d : Nat) : State :=
  let s1 := s.setWin (setBit s.plant.inWindow d true)
  if d == vbkpBit && s.devState == Dev.OFF then { s1 with plant := { s1.plant with supplyEn := true } } else s1

theorem State.backInWindow_eq (s : State) (d : Nat) :
    ∃ p : PlantSt, p.inWindow = setBit s.plant.inWindow d true ∧
      s.backInWindow d = { s.setWin (setBit s.plant.inWindow d true) with plant := p } := by
  have hwin := congrArg PlantSt.inWindow (s.setWin_plant (setBit s.plant.inWindow d true))
  unfold State.backInWindow
  generalize s.setWin (setBit s.plant.inWindow d true) = s1 at hwin ⊢
  dsimp only
  split
  · exact ⟨{ s1.plant with supplyEn := true }, hwin, rfl⟩
  · exact ⟨_, hwin, rfl⟩

theorem execSupplyRestored_back {s : State} {dom : Fin 15} {mv ms : Nat} (hgone : s.inWin dom = false)
    (hwithin : inSupplyWindow dom mv = true) (hms : 10 ≤ ms) :
    execSupplyRestored dom mv ms s =
      .next ((s.backInWindow dom).when (s.plant.sideA || s.plant.sideB) fun z => z.raise Evt.SUPPLY_RESTORED dom mv 0) := by
  unfold execSupplyRestored
  dsimp only
  rw [if_neg (by simp [hgone, hwithin, hms])]
  rfl

theorem State.backInWindow_shows (s : State) (d : Nat) :
    (s.backInWindow d).inWin d = true ∧ (s.backInWindow d).nat Ent.SUPPLY_STATUS = (s.backInWindow d).plant.inWindow ∧
      (s.backInWindow d).stamp = s.stamp ∧ { s.backInWindow d with plant := s.plant, cells := s.cells } = s := by
  obtain ⟨p, hp, hback⟩ := s.backInWindow_eq d
  have hframe : { s.setWin (setBit s.plant.inWindow d true) with cells := s.cells } =
      { s with plant := { s.plant with inWindow := setBit s.plant.inWindow d true } } :=
    State.put_frame_of_volatile (e := Ent.SUPPLY_STATUS) (by decide) { s with plant := { s.plant with inWindow := setBit s.plant.inWindow d true } }
      0 0 _ s.cells
  rw [hback]
  refine ⟨?_, ?_, State.put_stamp .., congrArg (fun z : State => { z with plant := s.plant }) hframe⟩
  · show bit p.inWindow d = true
    rw [hp, bit_setBit_same]
  · exact (State.nat_setNat_same ..).trans hp.symm

/-- A domain back in its window shows it, with its event where a side is up (R466). -/
theorem State.backInWindow_told (s : State) (d : Nat) (up : Bool) (mv : Nat) :
    ((s.backInWindow d).when up fun z => z.raise Evt.SUPPLY_RESTORED d mv 0).inWin d = true ∧
      ((s.backInWindow d).when up fun z => z.raise Evt.SUPPLY_RESTORED d mv 0).nat Ent.SUPPLY_STATUS =
        ((s.backInWindow d).when up fun z => z.raise Evt.SUPPLY_RESTORED d mv 0).plant.inWindow ∧
      (up = true → s.raised ((s.backInWindow d).when up fun z => z.raise Evt.SUPPLY_RESTORED d mv 0) Evt.SUPPLY_RESTORED d mv 0) ∧
      { (s.backInWindow d).when up fun z => z.raise Evt.SUPPLY_RESTORED d mv 0 with plant := s.plant, cells := s.cells, ev := s.ev } = s := by
  obtain ⟨hin, hshown, hstamp, hframe⟩ := s.backInWindow_shows d
  have hplant (z : State) : (z.raise Evt.SUPPLY_RESTORED d mv 0).plant = z.plant := State.raiseWith_plant ..
  cases up with
  | false => exact ⟨hin, hshown, nofun, congrArg (fun z : State => { z with ev := s.ev }) hframe⟩
  | true =>
    refine ⟨?_, ?_, fun _ => State.raised_of_stamp hstamp .., ?_⟩
    · rw [State.inWin, State.when, if_pos rfl, hplant]
      exact hin
    · rw [State.when, if_pos rfl, hplant, State.nat_raise]
      exact hshown
    · exact (congrArg (fun z : State => { z with plant := s.plant, cells := s.cells }) (State.raise_frame _ _ _ _ _ s.ev)).trans
        (congrArg (fun z : State => { z with ev := s.ev }) hframe)

/-! ### A side that leaves reset and RST_N -/

/-- A side's dies leave reset (R467). -/
def State.sideReleased (s : State) (x : Nat) : State :=
  let s1 := (((s.setSide x true).setPw x true).setLk x true).setSt x true
  let s2 := if x == 0 then { s1 with die := { s1.die with ca := .off, m0Running := false, m0Failed := false } }
            else { s1 with die := { s1.die with cb := .off, m1Running := false, m1Failed := false } }
  { s2 with plant := { s2.plant with released := s.ticks } }

theorem State.sideReleased_released (s : State) (b : Bool) :
    (s.sideReleased (b2n b)).sideUp (b2n b) = true ∧ (s.sideReleased (b2n b)).plant.released = s.ticks := by
  cases b
  · exact ⟨rfl, rfl⟩
  · exact ⟨rfl, rfl⟩

/-- The OFF the device comes out of is told. -/
def State.offTold (s : State) : State :=
  match s.plant.offFrom with
  | some o => State.when { s with plant := { s.plant with offFrom := none } } (o != Dev.OFF) fun z => z.raise Evt.STATE_CHANGE 0 o Dev.OFF
  | none => s

theorem State.offTold_plant (s : State) : s.offTold.plant = { s.plant with offFrom := none } := by
  unfold State.offTold
  split
  · exact State.when_keeps _ _ _ State.plant fun z => State.raiseWith_plant ..
  · next hnone => rw [← hnone]

theorem execSideResetRelease_off {s : State} {b : Bool} (hdown : s.sideUp (b2n b) = false) (hen : s.plant.supplyEn = true)
    (hkept : s.inWin vbkpBit = true) (hwhole : (sideDomains (b2n b)).all s.inWin = true) (hoff : s.devState = Dev.OFF) :
    execSideResetRelease b s = .next ((s.sideReleased (b2n b)).offTold.setDevice Dev.START) := by
  unfold execSideResetRelease
  dsimp only
  rw [if_neg (by simp [hdown, hen, hkept, hwhole]), if_pos (by simp [hoff])]
  rfl

theorem State.restartBoth_starts (s : State) (cause : Nat) : (s.restartBoth cause).devState = Dev.START ∧
    (s.restartBoth cause).plant = { s.plant with startCause := cause, released := s.ticks, sleep := false, ship := false, carrierAt := none
                                                 broadcastAt := none, wakeDue := none, wokenAt := none, testAt := none } ∧
    (s.restartBoth cause).die.ca = .off ∧ (s.restartBoth cause).die.cb = .off ∧ (s.restartBoth cause).keys = s.keys := by
  unfold State.restartBoth
  extract_lets die fw plant s1
  obtain ⟨c, w, e, h⟩ := s1.setDevice_eq Dev.START
  refine ⟨State.devState_setDevice .., ?_⟩
  rw [h]
  exact ⟨rfl, rfl, rfl, rfl⟩

/-- Before the reset of the dies an RST_N takes every gate off and restarts the control dies (R468). -/
theorem execRstNAssert_resets {s : State} (hoff : s.devState ≠ Dev.OFF) (hship : s.devState ≠ Dev.SHIP) :
    ∃ t, execRstNAssert s = .next t ∧ t.devState = Dev.START ∧ t.die.ca = .off ∧ t.die.cb = .off ∧ t.die.lkA = false ∧
      t.die.lkB = false ∧ t.plant.startCause = 1 ∧ t.plant.rstAt = some (s.ticks + 20) ∧ t.tx.conns = [] ∧ t.keys = s.keys := by
  obtain ⟨hdev, hplant, hca, hcb, hkeys⟩ := s.allGatesOff.restartBoth_starts 1
  have hgates := State.allGatesOff_strings StringBlind.deviceSide s
  simp only [State.deviceSide, Prod.mk.injEq] at hgates
  obtain ⟨-, -, -, hgates⟩ := hgates
  unfold execRstNAssert
  dsimp only
  rw [if_neg (by simp [hoff, hship])]
  generalize s.allGatesOff.restartBoth 1 = y at hdev hplant hca hcb hkeys ⊢
  exact ⟨_, rfl, hdev, hca, hcb, rfl, rfl, congrArg PlantSt.startCause hplant, rfl, rfl, hkeys.trans hgates⟩

/-! ### The requests in RECOVERY and the reference clock -/

theorem applyRecoveryExit_refused {s : State} (h : s.inRecovery = false) : applyRecoveryExit s = (s, St.CONFLICT) := if_pos (by simp [h])

theorem applyRecoveryExit_restarts {s : State} (h : s.inRecovery = true) (hroots : s.keys.burnt = false) :
    applyRecoveryExit s = (State.restartBoth { s with plant := { s.plant with toRecovery := false } } 3, St.OK) := if_neg (by simp [h, hroots])

theorem applyTestEnter_refused {s : State} (h : s.devState ≠ Dev.RECOVERY) : applyTestEnter s = (s, St.CONFLICT) := if_pos (by simp [h])

theorem applyTestEnter_due {s : State} (h : s.devState = Dev.RECOVERY) :
    applyTestEnter s = ({ s with plant := { s.plant with testAt := some (s.frames + 1) } }, St.OK) := if_neg (by simp [h])

/-- Settles O56: a domain's fault by what it supplies, its return, and what resets, RECOVERY's requests and the reference clock do. -/
theorem suppliesResetsAndClocks : Obligations.SuppliesResetsAndClocks := by
  intro s
  have hplant (h : Held) : (s.taken h).plant = s.plant := State.taken_keeps State.plant (fun _ _ _ _ => rfl) s h
  have hdev (h : Held) : (s.taken h).devState = s.devState := s.nat_taken_of_base h (e := Ent.DEVICE_STATE) (by decide) 0
  have hrecovery (h : Held) : (s.taken h).inRecovery = s.inRecovery := by
    rw [State.inRecovery, s.nat_taken_of_base h (e := Ent.DEVICE_STATE) (by decide), State.inRecovery]
  refine ⟨fun dom mv => ⟨fun hwithin => ⟨s, if_pos hwithin, rfl⟩, fun hout hgone hother => ?_, fun hout hin hoff hship hside => ?_⟩,
    fun dom mv ms => ⟨fun hnot => ⟨s, if_pos ?_, rfl⟩, fun hgone hwithin hms => ?_⟩, fun sideB hdown hen hkept hwhole hoff => ?_,
    execRstNAssert_resets, fun c v h ha => ⟨fun hrun => ?_, fun hin hroots => ?_⟩, fun c v h ha => ⟨fun hrun => ?_, fun hin => ?_⟩,
    fun gap ppm us => ?_, fun ms => ?_⟩
  · have hd : dom.val ≠ vbkpBit := Nat.ne_of_lt hother
    refine ⟨s, ?_, rfl⟩
    show execSupplyFault dom mv s = .next s
    simp [execSupplyFault, hout, hgone, hd, ok]
  · have hdomain (hdom : 4 ≤ dom.val) := execSupplyFault_domain hout hin hoff hship hside hdom
    refine ⟨execSupplyFault_side hout hin hoff hship hside, fun hlink => ?_, fun hmeter => ?_, fun hlow hhigh => ?_, fun hlast => ?_⟩
    · obtain ⟨hexec, hgone, hshown⟩ := hdomain (by omega)
      refine ⟨_, hexec, hgone, hshown, ?_⟩
      have hup := (s.leftWindow dom mv).halfFault_lkUp (half := 2 + dom.val % 2) (by omega) 3
      rwa [← State.domainEffect_link hlink (s.leftWindow dom mv) mv, Nat.add_mod_left, Nat.mod_mod] at hup
    · obtain ⟨hexec, hgone, hshown⟩ := hdomain (by omega)
      refine ⟨_, hexec, hgone, hshown, fun hrun => (s.leftWindow dom mv).domainEffect_meterFailed hmeter mv ?_⟩
      have hdie : (s.leftWindow dom mv).die = s.die := (State.raise_die ..).trans (State.setWin_die ..)
      rwa [State.meterRunning, hdie]
    · obtain ⟨hexec, hgone, hshown⟩ := hdomain (by omega)
      have hsame := (s.leftWindow dom mv).domainEffect_none (d := dom) (by omega) mv
      obtain ⟨-, hraised, hframe⟩ := s.setWin_raise (setBit s.plant.inWindow dom false) Evt.SUPPLY_FAULT dom mv 0
      rw [hsame] at hexec hgone hshown
      exact ⟨_, hexec, hgone, hshown, hraised, hframe⟩
    · obtain ⟨hexec, hgone, hshown⟩ := hdomain (by omega)
      obtain ⟨-, hraised, hframe⟩ := s.setWin_raise (setBit s.plant.inWindow dom false) Evt.SUPPLY_FAULT dom mv 0
      obtain ⟨htime, hev, hrest⟩ := (s.leftWindow dom mv).domainEffect_vbkp hlast mv
      refine ⟨_, hexec, hgone, hshown, fun hdead => ?_, fun halive => ?_, State.raised_congr hraised hev, ?_⟩
      · rw [htime, if_pos hdead]
      · rw [htime, if_neg (Nat.not_lt.2 halive)]
        exact (congrArg State.time hframe :)
      · exact (congrArg (fun z : State => { z with plant := s.plant, cells := s.cells, ev := s.ev, time := s.time }) hrest).trans
          (congrArg (fun z : State => { z with time := s.time }) hframe)
  · rcases hnot with h | h | h
    · simp [h]
    · simp [h]
    · simp [h]
  · obtain ⟨hin, hshown, hraised, hframe⟩ := s.backInWindow_told dom (s.plant.sideA || s.plant.sideB) mv
    exact ⟨_, execSupplyRestored_back hgone hwithin hms, hin, hshown, fun hup => hraised (by simpa using hup), hframe⟩
  · obtain ⟨hup, hreleased⟩ := s.sideReleased_released sideB
    obtain ⟨z, hz⟩ : ∃ z, z = s.sideReleased (b2n sideB) := ⟨_, rfl⟩
    obtain ⟨c, w, e, hset⟩ := z.offTold.setDevice_eq Dev.START
    have hkeptPlant : (z.offTold.setDevice Dev.START).plant = { z.plant with offFrom := none } := by
      rw [hset]
      exact z.offTold_plant
    rw [← hz] at hup hreleased
    refine ⟨_, (execSideResetRelease_off hdown hen hkept hwhole hoff).trans (by rw [← hz]), ?_, State.devState_setDevice .., ?_, ?_⟩
    · rw [State.sideUp, hkeptPlant]
      exact hup
    · rw [hkeptPlant]
      exact hreleased
    · rw [hkeptPlant]
  · exact ⟨_, congrArg Host.Outcome.next (State.clientCommand_effect ha rfl (applyRecoveryExit_refused ((hrecovery h).trans hrun))),
      State.answerLater_repliesWith .., hplant h⟩
  · have hkeys : (s.taken h).keys = s.keys := State.taken_keeps State.keys (fun _ _ _ _ => rfl) s h
    have hexit := applyRecoveryExit_restarts ((hrecovery h).trans hin) ((congrArg KeySt.burnt hkeys).trans hroots)
    obtain ⟨hstart, hcause, hca, hcb, -⟩ := State.restartBoth_starts
      { s.taken h with plant := { (s.taken h).plant with toRecovery := false } } 3
    refine ⟨_, congrArg Host.Outcome.next (State.clientCommand_effect ha rfl hexit), State.answerLater_repliesWith .., ?_, ?_, ?_, ?_, ?_⟩
    · rw [State.devState, State.nat_answerLater]
      exact hstart
    · rw [State.answerLater_plant, hcause]
    · rw [State.answerLater_plant, hcause]
    · rw [State.answerLater_die, hca]
    · rw [State.answerLater_die, hcb]
  · exact ⟨_, congrArg Host.Outcome.next (State.clientCommand_effect ha rfl (applyTestEnter_refused ((hdev h).trans_ne hrun))),
      State.answerLater_repliesWith .., hplant h⟩
  · refine ⟨_, congrArg Host.Outcome.next (State.clientCommand_effect ha rfl (applyTestEnter_due ((hdev h).trans hin))),
      State.answerLater_repliesWith .., ?_⟩
    have hframes : (s.taken h).frames = s.frames := State.taken_keeps State.frames (fun _ _ _ _ => rfl) s h
    rw [State.answerLater_plant, hplant, hframes]
  · by_cases hlost : s.nat Ent.REFCLK_STATE = 1 ∨ (gap < 200 ∧ (ppm.natAbs ≤ 500 ∨ us < 10))
    · refine ⟨s, if_pos ?_, fun _ => rfl, fun hstate hgap => by omega⟩
      simpa [imp_iff_not_or, not_or] using hlost
    · refine ⟨_, if_neg ?_, fun h => absurd h hlost, fun _ _ => State.setNat_raise (by decide) s 0 1 Evt.REFCLK_LOST 0 0 0⟩
      simpa [imp_iff_not_or, not_or] using hlost
  · by_cases hback : s.nat Ent.REFCLK_STATE = 1 ∧ s.cycle = 0 ∧ 1000 ≤ ms
    · obtain ⟨hlost, hcycle, hms⟩ := hback
      exact ⟨_, if_pos (by simp [hlost, hcycle, hms]), fun hnot => by omega, fun _ _ _ =>
        State.setNat_raise (by decide) s 0 0 Evt.REFCLK_RESTORED 0 0 0⟩
    · refine ⟨s, if_neg ?_, fun _ => rfl, fun hlost hcycle hms => absurd ⟨hlost, hcycle, hms⟩ hback⟩
      simpa [and_assoc] using hback

end Sys2Proof.Machine
end

section
/-!
PROOFS. Load channels shut down and reset (O48): what a protective shutdown, the thermal latch and LC_RESET leave of a channel, past the
owner the latch reaches (R379 to R382, R391).
-/
namespace Sys2Proof.Machine
open Sys2Proof

/-! ### A channel's record after its output is decided -/

/-- A decision moves the output of a channel and its times, and a channel that is held is off (R389). -/
theorem State.lcUpdate_lcs (s : State) (c : Nat) : ∃ on onAt offAt pull span limiting,
    (s.lcUpdate c).lcs c = { s.lcs c with on := on, onAt := onAt, offAt := offAt, pullIn := pull, span := span, limiting := limiting } ∧
      ((s.heldOff c (s.lcs c)).isSome = true → on = false) := by
  unfold State.lcUpdate
  dsimp only
  split
  · exact ⟨_, _, _, _, _, _, (State.lcs_put ..).trans (State.lcs_setLc_same ..), fun _ => rfl⟩
  · next hfree =>
    exact ⟨_, _, _, _, _, _, (State.lcs_put ..).trans (State.lcs_setLc_same ..), fun hheld => by simp [hfree] at hheld⟩

/-- A latch, a lockout and a wait each hold a channel (Table 16-3). -/
theorem State.heldOff_latched (s : State) (c : Nat) {k : LcSt}
    (h : k.thermal = true ∨ k.lockout = true ∨ k.latchedOff = true ∨ k.wait.isSome = true) : (s.heldOff c k).isSome = true := by
  unfold State.heldOff
  dsimp only
  split
  · rfl
  split
  · rfl
  split
  · rfl
  split
  · rfl
  split
  · rfl
  split
  · rfl
  · simp_all

/-- What a protective shutdown settles of a channel: its output, its wait and its latches. -/
def LcSt.shut (k : LcSt) : Bool × Option Nat × Bool × Nat × Bool × List Nat := (k.on, k.wait, k.latchedOff, k.cause, k.thermal, k.thermals)

/-- With the counts of its retries and its trips. -/
def State.shut (c : Nat) (s : State) : (Bool × Option Nat × Bool × Nat × Bool × List Nat) × Val × Val :=
  ((s.lcs c).shut, s.val Ent.LC_RETRIES_USED c, s.val Ent.LC_TRIP_COUNT c)

theorem State.shut_eq {s t : State} {c : Nat} (h : t.shut c = s.shut c) :
    (t.lcs c).shut = (s.lcs c).shut ∧ t.nat Ent.LC_RETRIES_USED c = s.nat Ent.LC_RETRIES_USED c ∧
      t.nat Ent.LC_TRIP_COUNT c = s.nat Ent.LC_TRIP_COUNT c := by
  simp only [State.shut, Prod.mk.injEq] at h
  obtain ⟨hshut, hused, htrips⟩ := h
  exact ⟨hshut, State.nat_congr hused, State.nat_congr htrips⟩

theorem State.put_shut {e : Entry} {n : Nat} {c : Nat} (h : e.key n ≠ Ent.LC_RETRIES_USED.key c ∧ e.key n ≠ Ent.LC_TRIP_COUNT.key c)
    (s : State) (v : Val) : (s.put e n 0 v).shut c = s.shut c := by
  simp only [State.shut, State.lcs_put, State.val_put_ne _ _ _ _ _ _ _ _ h.1.symm, State.val_put_ne _ _ _ _ _ _ _ _ h.2.symm]

theorem State.put_shut_sub {e : Entry} (h : e.sub < 256 ∧ e.sub ≠ 0x18 ∧ e.sub ≠ 0x1A) (s : State) (n c : Nat) (v : Val) :
    (s.put e n 0 v).shut c = s.shut c :=
  State.put_shut ⟨Entry.key_ne_of_sub (f := Ent.LC_RETRIES_USED) ⟨h.1, by decide, h.2.1⟩ _ _,
    Entry.key_ne_of_sub (f := Ent.LC_TRIP_COUNT) ⟨h.1, by decide, h.2.2⟩ _ _⟩ s v

/-- The counts stand as they are past a decision of the output. -/
theorem State.lcUpdate_counts (s : State) (c : Nat) :
    (s.lcUpdate c).val Ent.LC_RETRIES_USED c = s.val Ent.LC_RETRIES_USED c ∧ (s.lcUpdate c).val Ent.LC_TRIP_COUNT c = s.val Ent.LC_TRIP_COUNT c := by
  have hval {e : Entry} (he : e.sub < 256 ∧ e.sub ≠ 0x12 ∧ e.sub ≠ 0x1C) : (s.lcUpdate c).val e c = s.val e c := by
    refine State.lcUpdate_keeps (fun z => z.val e c) (fun _ _ => rfl) (fun z d v => State.val_put_ne _ _ _ _ _ _ _ _ ?_)
      (fun z d v => State.val_put_ne _ _ _ _ _ _ _ _ ?_) (fun z k i p q => by rw [State.raise_eq, State.val_raiseWith]) (fun _ _ => rfl) s c
    · exact Entry.key_ne_of_sub (f := Ent.LC_STATE) ⟨he.1, by decide, he.2.1⟩ _ _
    · exact Entry.key_ne_of_sub (f := Ent.LC_TEST_RESULT) ⟨he.1, by decide, he.2.2⟩ _ _
  exact ⟨hval (by decide), hval (by decide)⟩

/-- A held channel's decision turns it off, and leaves the rest of what a shutdown settles. -/
theorem State.lcUpdate_shut {s : State} {c : Nat} (h : (s.heldOff c (s.lcs c)).isSome = true) :
    (s.lcUpdate c).shut c = ({ s.lcs c with on := false }.shut, s.val Ent.LC_RETRIES_USED c, s.val Ent.LC_TRIP_COUNT c) := by
  obtain ⟨on, onAt, offAt, pull, span, limiting, hlcs, hoff⟩ := s.lcUpdate_lcs c
  obtain ⟨hused, htrips⟩ := s.lcUpdate_counts c
  rw [State.shut, hlcs, hoff h, hused, htrips]
  rfl

/-! ### The owner a latch reaches -/

theorem ofStrings_ne_counts {k c : Nat} (h : ofStrings k) : k ≠ Ent.LC_RETRIES_USED.key c ∧ k ≠ Ent.LC_TRIP_COUNT.key c := by
  have hlow : k < 0x9000 * 256 := h.2.trans (by decide)
  refine ⟨(Nat.lt_of_lt_of_le hlow ?_).ne, (Nat.lt_of_lt_of_le hlow ?_).ne⟩
  · rw [Entry.key]
    simp only [Ent.LC_RETRIES_USED]
    omega
  · rw [Entry.key]
    simp only [Ent.LC_TRIP_COUNT]
    omega

/-- What a channel is commanded is no part of how it is shut. -/
theorem State.lcCommand_shut (s : State) (c d : Nat) (b : Bool) : (s.lcCommand d b).shut c = s.shut c := by
  have hlcs : ((s.lcCommand d b).lcs c).shut = (s.lcs c).shut := by
    unfold State.lcCommand
    split
    · by_cases hd : c = d
      · rw [hd, State.lcs_setLc_same]
        rfl
      · rw [State.lcs_setLc_ne _ _ hd]
    · rfl
  have hval (e : Entry) : (s.lcCommand d b).val e c = s.val e c := State.lcCommand_keeps (fun z => z.val e c) (fun _ _ => rfl) s d b
  rw [State.shut, hlcs, hval, hval, State.shut]

theorem StringBlind.shut (c : Nat) : StringBlind (State.shut c) where
  put s e n j v _ hk := by
    obtain ⟨hused, htrips⟩ := ofStrings_ne_counts (c := c) hk
    simp only [State.shut, State.lcs_put, State.val_put_ne _ _ _ _ _ _ _ _ hused.symm, State.val_put_ne _ _ _ _ _ _ _ _ htrips.symm]
  event _ _ := rfl
  free _ _ := rfl
  tests _ _ := rfl
  legs _ _ := rfl
  convs _ _ := rfl
  strings _ _ := rfl
  command s d b := s.lcCommand_shut c d b

/-- The session that ends and the string that opens leave the channel as it is shut (R391). -/
theorem State.latchOwner_shut (s : State) (c : Nat) : (s.latchOwner c).shut c = s.shut c := by
  unfold State.latchOwner
  split
  · split
    · exact (State.endSession_keeps (State.shut c) (fun _ _ => rfl) (fun _ _ _ _ => rfl) _ (fun z v => z.put_shut_sub (by decide) _ c v) ..).trans rfl
    · rfl
  · split
    · next n hn =>
      have hn8 : n < 8 := List.mem_range.1 (List.mem_of_find?_eq_some hn)
      exact (State.stringCause_strings (StringBlind.shut c) hn8 ..).trans rfl
    · rfl

/-! ### Latched off, and the energy of the clamp -/

theorem State.latchOff_shut {s : State} {c : Nat} (h : (s.lcs c).latchedOff = false) (cause : Nat) :
    (s.latchOff c cause).shut c = ({ s.lcs c with on := false, latchedOff := true, cause := cause, wait := none }.shut,
      s.val Ent.LC_RETRIES_USED c, s.val Ent.LC_TRIP_COUNT c) := by
  unfold State.latchOff
  rw [if_neg (by simp [h]), State.latchOwner_shut]
  obtain ⟨z, hz⟩ : ∃ z, z = (s.setLc c { s.lcs c with latchedOff := true, cause := cause, wait := none }).raise Evt.LC_RETRY_EXHAUSTED c cause
    (s.nat Ent.LC_TRIP_COUNT c) := ⟨_, rfl⟩
  have hlcs : z.lcs c = { s.lcs c with latchedOff := true, cause := cause, wait := none } := by
    rw [hz, State.raise_eq, State.lcs_raiseWith, State.lcs_setLc_same]
  have hval (e : Entry) : z.val e c = s.val e c := by
    rw [hz, State.raise_eq, State.val_raiseWith]
    rfl
  rw [← hz, State.lcUpdate_shut (State.heldOff_latched z c (.inr (.inr (.inl (by rw [hlcs]))))), hlcs, hval, hval]

/-- The clamp's energy counts against the channel's budget; a lockout keeps a channel that is off so (R383). -/
theorem State.absorb_shut {s : State} {c : Nat} (h : (s.lcs c).on = false) (energy : Nat) : (s.absorb ⟨c, energy⟩).shut c = s.shut c := by
  have hbucket (z : State) (b : Rat) (a : Nat) (hz : (z.lcs c).on = false) :
      (z.setLc c { z.lcs c with bucket := b, bucketAt := a }).shut c = z.shut c ∧
        ((z.setLc c { z.lcs c with bucket := b, bucketAt := a }).lcs c).on = false := by
    refine ⟨?_, ?_⟩
    · rw [State.shut, State.lcs_setLc_same]
      rfl
    · rw [State.lcs_setLc_same]
      exact hz
  unfold State.absorb
  split
  · rfl
  · extract_lets b k s1
    obtain ⟨hs1, hoff⟩ : s1.shut c = s.shut c ∧ (s1.lcs c).on = false := hbucket s _ _ h
    clear_value s1
    split
    · obtain ⟨z, hz⟩ : ∃ z, z = (s1.setLc c { s1.lcs c with lockout := true }).raise Evt.LC_CLAMP_LOCKOUT c
        (ratRound (((energy : Nat) : Rat) / 1000)).toNat (ratRound (b / 1000)).toNat := ⟨_, rfl⟩
      have hlcs : z.lcs c = { s1.lcs c with lockout := true } := by
        rw [hz, State.raise_eq, State.lcs_raiseWith, State.lcs_setLc_same]
      have hval (e : Entry) : z.val e c = s1.val e c := by
        rw [hz, State.raise_eq, State.val_raiseWith]
        rfl
      rw [← hz, State.lcUpdate_shut (State.heldOff_latched z c (.inr (.inl (by rw [hlcs])))), hlcs, hval, hval, ← hs1]
      simp only [State.shut, LcSt.shut, hoff]
    · exact hs1

/-! ### A protective shutdown -/

/-- The retry and the trip counted, with the event of the shutdown. -/
def State.tripCounted (s : State) (c : Nat) (kind : EvKind) (value : Nat) : State :=
  ((s.bump Ent.LC_RETRIES_USED c).bump Ent.LC_TRIP_COUNT c).raise kind c (s.nat Ent.LC_RETRIES_USED c + 1) value

theorem State.tripCounted_counts {s : State} {c : Nat} (hused : s.nat Ent.LC_RETRIES_USED c + 1 < 2 ^ Ent.LC_RETRIES_USED.type.bits)
    (htrips : s.nat Ent.LC_TRIP_COUNT c + 1 < 2 ^ Ent.LC_TRIP_COUNT.type.bits) (kind : EvKind) (value : Nat) :
    (s.tripCounted c kind value).lcs c = s.lcs c ∧
      (s.tripCounted c kind value).nat Ent.LC_RETRIES_USED c = s.nat Ent.LC_RETRIES_USED c + 1 ∧
      (s.tripCounted c kind value).nat Ent.LC_TRIP_COUNT c = s.nat Ent.LC_TRIP_COUNT c + 1 := by
  have hother : (s.setNat Ent.LC_RETRIES_USED c (s.nat Ent.LC_RETRIES_USED c + 1)).nat Ent.LC_TRIP_COUNT c = s.nat Ent.LC_TRIP_COUNT c :=
    State.nat_put_sub _ (by decide) _ _ _
  unfold State.tripCounted
  rw [State.bump_of_fits hused, State.bump_of_fits (by rwa [hother]), hother]
  refine ⟨?_, ?_, ?_⟩
  · rw [State.raise_eq, State.lcs_raiseWith, State.setNat_eq, State.lcs_put, State.setNat_eq, State.lcs_put]
  · rw [State.nat_raise]
    exact (State.nat_put_sub _ (by decide) _ _ _).trans (State.nat_setNat_same ..)
  · rw [State.nat_raise, State.nat_setNat_same]

/-- The channel past a shutdown, before its clamp's energy is taken: it waits, or is latched off. -/
def State.shutOff (s : State) (c cause n limit until_ : Nat) : State :=
  if n > limit then s.latchOff c cause else (s.setLc c { s.lcs c with wait := some until_ }).lcUpdate c

theorem State.shutOff_shut {s : State} {c : Nat} (hfree : (s.lcs c).latchedOff = false) (cause n limit until_ : Nat) :
    ∃ k : LcSt, k.on = false ∧ (n ≤ limit → k.wait = some until_ ∧ k.latchedOff = false) ∧
      (limit < n → k.latchedOff = true ∧ k.cause = cause) ∧
      (s.shutOff c cause n limit until_).shut c = (k.shut, s.val Ent.LC_RETRIES_USED c, s.val Ent.LC_TRIP_COUNT c) := by
  unfold State.shutOff
  split
  · next hmany =>
    exact ⟨_, rfl, fun hfew => absurd hfew (Nat.not_le.2 hmany), fun _ => ⟨rfl, rfl⟩, State.latchOff_shut hfree cause⟩
  · next hfew =>
    have hlcs := s.lcs_setLc_same c { s.lcs c with wait := some until_ }
    refine ⟨{ s.lcs c with on := false, wait := some until_ }, rfl, fun _ => ⟨rfl, hfree⟩, fun hmany => absurd hmany hfew, ?_⟩
    rw [State.lcUpdate_shut (State.heldOff_latched _ c (.inr (.inr (.inr (by rw [hlcs]; rfl))))), hlcs]
    rfl

theorem State.shutDown_eq {s : State} {c : Nat} (hon : (s.lcs c).on = true) (hcool : (s.lcs c).thermal = false) (cause : Nat) (kind : EvKind)
    (value clamp : Nat) : s.shutDown c cause kind value clamp =
      ((s.tripCounted c kind value).shutOff c cause (s.nat Ent.LC_RETRIES_USED c + 1) (s.retryLimit c)
        (s.ticks + msTicks (s.nat Ent.LC_RETRY_DELAY c * 2 ^ s.nat Ent.LC_RETRIES_USED c))).absorb ⟨c, clamp⟩ :=
  if_neg (by simp [hon, hcool])

/-- A shutdown counts a retry and a trip; within its retries the channel waits, beyond them it is latched off (R379, R381). -/
theorem State.shutDown_shuts {s : State} {c : Nat} (hon : (s.lcs c).on = true) (hcool : (s.lcs c).thermal = false)
    (hfree : (s.lcs c).latchedOff = false) (hused : s.nat Ent.LC_RETRIES_USED c + 1 < 2 ^ Ent.LC_RETRIES_USED.type.bits)
    (htrips : s.nat Ent.LC_TRIP_COUNT c + 1 < 2 ^ Ent.LC_TRIP_COUNT.type.bits) (cause : Nat) (kind : EvKind) (value clamp : Nat) :
    s.shutFor (s.shutDown c cause kind value clamp) c cause := by
  obtain ⟨hlcs, hcounted, htripped⟩ := State.tripCounted_counts hused htrips kind value
  rw [State.shutDown_eq hon hcool]
  generalize s.tripCounted c kind value = z at hlcs hcounted htripped ⊢
  obtain ⟨k, hoff, hwaits, hlatches, hshut⟩ := State.shutOff_shut (s := z) (c := c) (by rw [hlcs, hfree]) cause
    (s.nat Ent.LC_RETRIES_USED c + 1) (s.retryLimit c) (s.ticks + msTicks (s.nat Ent.LC_RETRY_DELAY c * 2 ^ s.nat Ent.LC_RETRIES_USED c))
  generalize z.shutOff c cause _ _ _ = y at hshut ⊢
  simp only [State.shut, Prod.mk.injEq] at hshut
  obtain ⟨hk, hyUsed, hyTrips⟩ := hshut
  simp only [LcSt.shut, Prod.mk.injEq] at hk
  obtain ⟨hyOn, hyWait, hyLatched, hyCause, -⟩ := hk
  obtain ⟨ht, htUsed, htTrips⟩ := State.shut_eq (State.absorb_shut (hyOn.trans hoff) clamp)
  simp only [LcSt.shut, Prod.mk.injEq] at ht
  obtain ⟨htOn, htWait, htLatched, htCause, -⟩ := ht
  refine ⟨htOn.trans (hyOn.trans hoff), ?_, ?_, fun hfew => ?_, fun hmany => ?_⟩
  · rw [htUsed, State.nat_congr hyUsed, hcounted]
  · rw [htTrips, State.nat_congr hyTrips, htripped]
  · obtain ⟨hwait, hopen⟩ := hwaits hfew
    exact ⟨htWait.trans (hyWait.trans hwait), htLatched.trans (hyLatched.trans hopen)⟩
  · obtain ⟨hlatched, hcause⟩ := hlatches hmany
    exact ⟨htLatched.trans (hyLatched.trans hlatched), htCause.trans (hyCause.trans hcause)⟩

/-! ### The thermal latch -/

/-- The latch set and its event, and the channel off (R380). -/
def State.thermalSet (s : State) (c rise : Nat) (temp : Int) : State :=
  ((s.setLc c { s.lcs c with thermal := true, thermals := s.ticks :: (s.lcs c).thermals.filter fun t => decide (s.ticks < t + secTicks 600) }).raise
    Evt.LC_THERMAL_LATCH c rise (word 32 temp)).lcUpdate c

theorem State.thermalSet_shut (s : State) (c rise : Nat) (temp : Int) : ((s.thermalSet c rise temp).lcs c).shut =
    { s.lcs c with
      on := false, thermal := true
      thermals := s.ticks :: (s.lcs c).thermals.filter fun t => decide (s.ticks < t + secTicks 600) }.shut := by
  unfold State.thermalSet
  generalize hk : ({ s.lcs c with
    thermal := true
    thermals := s.ticks :: (s.lcs c).thermals.filter fun t => decide (s.ticks < t + secTicks 600) } : LcSt) = k
  have hlcs : ((s.setLc c k).raise Evt.LC_THERMAL_LATCH c rise (word 32 temp)).lcs c = k := by
    rw [State.raise_eq, State.lcs_raiseWith, State.lcs_setLc_same]
  have hheld := State.heldOff_latched ((s.setLc c k).raise Evt.LC_THERMAL_LATCH c rise (word 32 temp)) c (k := k) (.inl (by rw [← hk]))
  have hshut := congrArg Prod.fst (State.lcUpdate_shut (by rw [hlcs]; exact hheld))
  rw [hlcs] at hshut
  rw [← hk] at hshut ⊢
  exact hshut

/-- What a clamp's energy and the fifth setting leave of a channel whose thermal latch is set. -/
theorem State.thermal_latches {s : State} {c : Nat} (hoff : (s.lcs c).on = false) (b many : Bool) (clamp cause : Nat) :
    let t := (s.when b fun z => z.absorb ⟨c, clamp⟩).when many fun z => z.latchOff c cause
    (t.lcs c).on = false ∧ (t.lcs c).thermal = (s.lcs c).thermal ∧ (t.lcs c).thermals = (s.lcs c).thermals ∧
      (many = true → (t.lcs c).latchedOff = true) := by
  have hclamped : ((s.when b fun z => z.absorb ⟨c, clamp⟩).lcs c).shut = (s.lcs c).shut := by
    cases b
    · rfl
    · exact congrArg Prod.fst (State.absorb_shut hoff clamp)
  generalize (s.when b fun z => z.absorb ⟨c, clamp⟩) = y at hclamped ⊢
  simp only [LcSt.shut, Prod.mk.injEq] at hclamped
  obtain ⟨hyOn, -, -, -, hyHot, hySets⟩ := hclamped
  cases many with
  | false => exact ⟨hyOn.trans hoff, hyHot, hySets, nofun⟩
  | true =>
    show ((y.latchOff c cause).lcs c).on = false ∧ ((y.latchOff c cause).lcs c).thermal = _ ∧ ((y.latchOff c cause).lcs c).thermals = _ ∧
      (true = true → ((y.latchOff c cause).lcs c).latchedOff = true)
    by_cases hlatched : (y.lcs c).latchedOff = true
    · rw [State.latchOff, if_pos hlatched]
      exact ⟨hyOn.trans hoff, hyHot, hySets, fun _ => hlatched⟩
    · have hshut := congrArg Prod.fst (State.latchOff_shut (s := y) (c := c) (by simpa using hlatched) cause)
      simp only [State.shut, LcSt.shut, Prod.mk.injEq] at hshut
      obtain ⟨ht, -, htLatched, -, htHot, htSets⟩ := hshut
      exact ⟨ht, htHot.trans hyHot, htSets.trans hySets, fun _ => htLatched⟩

theorem execLcThermalLatch_latches {s : State} {ch : Fin 40} {rise : Nat} {temp : Int} (clamp : Nat) (hcool : (s.lcs ch).thermal = false)
    (hhot : 600 < rise ∨ 1700 ≤ temp) : execLcThermalLatch ch rise temp clamp s =
      .next (((s.thermalSet ch rise temp).when (s.lcs ch).on fun z => z.absorb ⟨ch, clamp⟩).when
        (decide (5 ≤ (s.ticks :: (s.lcs ch).thermals.filter fun t => decide (s.ticks < t + secTicks 600)).length)) fun z => z.latchOff ch 3) := by
  unfold execLcThermalLatch
  dsimp only
  rw [if_neg (by simpa [hcool, or_iff_not_imp_left] using hhot)]
  simp only [State.when, decide_eq_true_eq]
  rfl

theorem execLcThermalClear_clears {s : State} {ch : Fin 40} {rise : Nat} {temp : Int} (hset : (s.lcs ch).thermal = true) (hrise : rise ≤ 400)
    (htemp : temp ≤ 1500) : ∃ t, execLcThermalClear ch rise temp s = .next t ∧ (t.lcs ch).thermal = false ∧
      (t.lcs ch).latchedOff = (s.lcs ch).latchedOff := by
  unfold execLcThermalClear
  dsimp only
  rw [if_neg (by simp [hset, Nat.not_lt.2 hrise, Int.not_lt.2 htemp])]
  refine ⟨_, rfl, ?_⟩
  obtain ⟨on, onAt, offAt, pull, span, limiting, hlcs, -⟩ := State.lcUpdate_lcs _ _
  rw [hlcs, State.raise_eq, State.lcs_raiseWith, State.lcs_setLc_same]
  exact ⟨rfl, rfl⟩

/-! ### LC_RESET -/

theorem applyLcReset_hot {s : State} {c : Nat} (h : (s.lcs c).thermal = true) : applyLcReset c s = (s, St.CONFLICT) := by
  unfold applyLcReset
  exact if_pos (by simp [h])

/-- The weld noted goes with a reset its owner has made (R382). -/
def State.weldCleared (s : State) (c : Nat) : State := if s.ownerReset c then s.setWeld c false else s

theorem applyLcReset_idle {s : State} {c : Nat} (hcool : (s.lcs c).thermal = false)
    (hbucket : s.bucketNow c ≤ ((s.nat Ent.LC_CLAMP_BUDGET c * 250 : Nat) : Rat)) (hfree : (s.lcs c).latchedOff = false)
    (hopen : (s.lcs c).lockout = false) (hused : s.nat Ent.LC_RETRIES_USED c = 0) :
    applyLcReset c s = (s.weldCleared c, St.ALREADY_DONE) := by
  unfold applyLcReset
  dsimp only
  rw [if_neg (by simpa [hcool] using hbucket), if_pos (by simp [hfree, hopen, hused])]
  rfl

theorem applyLcReset_clears {s : State} {c : Nat} (hcool : (s.lcs c).thermal = false)
    (hbucket : s.bucketNow c ≤ ((s.nat Ent.LC_CLAMP_BUDGET c * 250 : Nat) : Rat))
    (hstands : (s.lcs c).latchedOff = true ∨ (s.lcs c).lockout = true ∨ s.nat Ent.LC_RETRIES_USED c ≠ 0) :
    ∃ u, applyLcReset c s = (u, St.OK) ∧ (u.lcs c).latchedOff = false ∧ (u.lcs c).lockout = false ∧ u.nat Ent.LC_RETRIES_USED c = 0 := by
  have hnot : (!(s.lcs c).latchedOff && !(s.lcs c).lockout && s.nat Ent.LC_RETRIES_USED c == 0) = false := by
    rcases hstands with h | h | h
    · simp [h]
    · simp [h]
    · simp [h]
  unfold applyLcReset
  dsimp only
  rw [if_neg (by simpa [hcool] using hbucket), hnot]
  refine ⟨_, rfl, ?_⟩
  generalize (if s.ownerReset c = true then s.setWeld c false else s) = y
  obtain ⟨z, hz⟩ : ∃ z, z = ((y.setLc c { y.lcs c with latchedOff := false, lockout := false, thermals := [] }).setNat Ent.LC_RETRIES_USED c 0).raise
    Evt.LC_RESET_DONE c (s.nat Ent.LC_STATE c) (s.nat Ent.LC_RETRIES_USED c) := ⟨_, rfl⟩
  rw [← hz]
  have hlcs : z.lcs c = { y.lcs c with latchedOff := false, lockout := false, thermals := [] } := by
    rw [hz, State.raise_eq, State.lcs_raiseWith, State.setNat_eq, State.lcs_put, State.lcs_setLc_same]
  obtain ⟨on, onAt, offAt, pull, span, limiting, hupdated, -⟩ := z.lcUpdate_lcs c
  refine ⟨by rw [hupdated, hlcs], by rw [hupdated, hlcs], (State.nat_congr (z.lcUpdate_counts c).1).trans ?_⟩
  rw [hz, State.nat_raise, State.nat_setNat_same]

/-- Settles O48: the three shutdowns, the thermal latch and its end, and the answers of LC_RESET. -/
theorem loadChannelsShutDownAndAreReset : Obligations.LoadChannelsShutDownAndAreReset := by
  intro s ch
  refine ⟨fun hon hcool hfree hused htrips => ⟨fun peak clamp hpeak => ?_, fun peak clamp hlimits hlong => ?_, fun clamp hhot => ?_⟩,
    fun rise temp clamp hcool hhot => ?_, fun rise temp hset hrise htemp => execLcThermalClear_clears hset hrise htemp, fun c v h ha => ?_⟩
  · exact ⟨_, if_neg (Nat.not_lt.2 hpeak), State.shutDown_shuts hon hcool hfree hused htrips ..⟩
  · exact ⟨_, if_neg (by simp [hlimits, Nat.not_lt.2 hlong]), State.shutDown_shuts hon hcool hfree hused htrips ..⟩
  · exact ⟨_, if_pos hhot, State.shutDown_shuts hon hcool hfree hused htrips ..⟩
  · have hshut := s.thermalSet_shut ch rise temp
    simp only [LcSt.shut, Prod.mk.injEq] at hshut
    obtain ⟨hoff, -, -, -, hhotNow, hsets⟩ := hshut
    obtain ⟨htOff, htHot, htSets, htLatched⟩ := State.thermal_latches hoff (s.lcs ch).on
      (decide (5 ≤ (s.ticks :: (s.lcs ch).thermals.filter fun t => decide (s.ticks < t + secTicks 600)).length)) clamp 3
    exact ⟨_, execLcThermalLatch_latches clamp hcool hhot, htHot.trans hhotNow, htOff, htSets.trans hsets,
      fun hmany => htLatched (decide_eq_true hmany)⟩
  · have hlc : (s.taken h).lc = s.lc := State.taken_keeps State.lc (fun _ _ _ _ => rfl) s h
    have hlcs : (s.taken h).lcs ch = s.lcs ch := by rw [State.lcs, hlc, State.lcs]
    have hticks : (s.taken h).ticks = s.ticks := State.taken_keeps State.ticks (fun _ _ _ _ => rfl) s h
    have hnat {e : Entry} (he : 0x1031 ≤ e.base) : (s.taken h).nat e ch = s.nat e ch := s.nat_taken_of_base h he ch
    have hbucketNow : (s.taken h).bucketNow ch = s.bucketNow ch := by
      simp only [State.bucketNow, hlcs, hticks, hnat (e := Ent.LC_CLAMP_LEAK) (by decide)]
    have hused : (s.taken h).nat Ent.LC_RETRIES_USED ch = s.nat Ent.LC_RETRIES_USED ch := hnat (by decide)
    refine ⟨fun hhot => ?_, fun hcool hbucket => ?_⟩
    · exact ⟨_, congrArg Host.Outcome.next (State.clientCommand_effect ha rfl (applyLcReset_hot (by rw [hlcs, hhot]))),
        State.answerLater_repliesWith .., (State.answerLater_lc ..).trans hlc⟩
    have hcool' : ((s.taken h).lcs ch).thermal = false := by rw [hlcs, hcool]
    have hbucket' : (s.taken h).bucketNow ch ≤ (((s.taken h).nat Ent.LC_CLAMP_BUDGET ch * 250 : Nat) : Rat) := by
      rwa [hbucketNow, hnat (e := Ent.LC_CLAMP_BUDGET) (by decide)]
    refine ⟨fun hstands => ?_, fun hfree hopen hnone => ?_⟩
    · obtain ⟨u, hu, hlatched, hlockout, hzero⟩ := applyLcReset_clears hcool' hbucket' (by rwa [hlcs, hused])
      have hsame : (u.answerLater h St.OK []).lcs ch = u.lcs ch := by rw [State.lcs, State.answerLater_lc, State.lcs]
      refine ⟨_, congrArg Host.Outcome.next (State.clientCommand_effect ha rfl hu), State.answerLater_repliesWith .., ?_, ?_, ?_⟩
      · rw [hsame, hlatched]
      · rw [hsame, hlockout]
      · rw [State.nat_answerLater, hzero]
    · exact ⟨_, congrArg Host.Outcome.next (State.clientCommand_effect ha rfl (applyLcReset_idle hcool' hbucket' (by rw [hlcs, hfree])
        (by rw [hlcs, hopen]) (by rw [hused, hnone]))), State.answerLater_repliesWith ..⟩

end Sys2Proof.Machine
end

section
/-!
PROOFS. Calibration and test of a metering channel (O43): the answers of the three commands, the end of a calibration and of an open-input
test (R320 to R323).
-/
namespace Sys2Proof.Machine
open Sys2Proof

/-! ### What a request reads of a channel -/

theorem State.flag_taken_of_base (s : State) (h : Held) {e : Entry} (he : 0x1031 ≤ e.base) (n : Nat) : (s.taken h).flag e n = s.flag e n := by
  rw [State.flag_def, s.val_taken_of_base h he, State.flag_def]

/-- Who reads a channel is not the tags' to change. -/
theorem State.chanConsumed_taken (s : State) (h : Held) (ch : Nat) : (s.taken h).chanConsumed ch = s.chanConsumed ch := by
  have hsessions (o : Nat) : (s.taken h).sesLive o = s.sesLive o := State.taken_keeps (fun z => z.sesLive o) (fun _ _ _ _ => rfl) s h
  have hconvs (g : Nat) : (s.taken h).conv g = s.conv g := State.taken_keeps (fun z => z.conv g) (fun _ _ _ _ => rfl) s h
  simp (disch := decide) only [State.chanConsumed, State.outletMchs, State.stringMchs, State.strState, State.firing, State.phase, hsessions,
    hconvs, State.nat_taken_of_base, State.flag_taken_of_base]

theorem State.chanInService_taken (s : State) (h : Held) (ch : Nat) : (s.taken h).chanInService ch = s.chanInService ch := by
  have hpoints (pt : Nat) : (s.taken h).mpoint pt = s.mpoint pt := State.taken_keeps (fun z => z.mpoint pt) (fun _ _ _ _ => rfl) s h
  have hticks : (s.taken h).ticks = s.ticks := State.taken_keeps State.ticks (fun _ _ _ _ => rfl) s h
  simp (disch := decide) only [State.chanInService, State.chanConsumed_taken, State.pointsOfChannel, State.pointChannels, State.pointAmpsCh,
    State.outletMchs, State.stringMchs, hpoints, hticks, State.nat_taken_of_base]

/-- What a calibration asked of a channel reads, and what it may move, past the tag it takes. -/
theorem State.taken_measures (s : State) (h : Held) : (s.taken h).meas = s.meas ∧ (s.taken h).running = s.running ∧ (s.taken h).ticks = s.ticks ∧
    (s.taken h).legalLow = s.legalLow ∧ ∀ ch, (s.taken h).chanTested ch = s.chanTested ch :=
  ⟨State.taken_keeps State.meas (fun _ _ _ _ => rfl) s h, State.taken_keeps State.running (fun _ _ _ _ => rfl) s h,
    State.taken_keeps State.ticks (fun _ _ _ _ => rfl) s h, State.taken_keeps State.legalLow (fun _ _ _ _ => rfl) s h,
    fun ch => State.taken_keeps (fun z => z.chanTested ch) (fun _ _ _ _ => rfl) s h⟩

theorem State.not_running_of_untested {s : State} {ch : Nat} (h : s.chanTested ch = false) :
    (∀ r ∈ s.running, r.target ≠ Ent.MCH_OPEN_TEST.target ch) ∧ ∀ r ∈ s.running, r.target ≠ Ent.MCH_CAL_REQUEST.target ch := by
  simp only [State.chanTested, Bool.or_eq_false_iff, State.testing, List.any_eq_false, beq_iff_eq] at h
  exact h

/-! ### The answers of a calibration -/

section Answers
variable {s : State} {ch command dies reference : Nat} {queue : Bool}

theorem applyCal_noDie (h : ¬(1 ≤ dies ∧ dies ≤ 3)) : applyCal ch command dies reference queue s = (s, St.RANGE) :=
  if_pos (by omega)

theorem applyCal_sealed (hcommand : 1 ≤ command ∧ command ≤ 3) (hdies : 1 ≤ dies ∧ dies ≤ 3) (hfinite : F32.special (low 32 reference) = false)
    (hlegal : s.flag Ent.MCH_LEGAL ch = true) (hseal : s.flag Ent.LEGAL_SEAL_STATE = false) :
    applyCal ch command dies reference queue s = (s, St.DENIED_SEAL) := by
  unfold applyCal
  rw [if_neg (by simp only [hfinite, Bool.false_eq_true, or_false]; omega), if_pos (by simp [hlegal, hseal])]

/-- What is left to a calibration that no range and no seal refuses is the channel's own standing (R22). -/
theorem applyCal_allowed (hcommand : 1 ≤ command ∧ command ≤ 3) (hmay : s.mayCal ch dies) (hfinite : F32.special (low 32 reference) = false) :
    applyCal ch command dies reference queue s = s.testOrQueue (Ent.MCH_CAL_REQUEST.target ch) (calBytes command dies reference) queue
      (s.chanInService ch) fun z slot => z.startCal ch command dies reference slot := by
  obtain ⟨hdies, hseal, htested⟩ := hmay
  unfold applyCal
  rw [if_neg (by simp only [hfinite, Bool.false_eq_true, or_false]; omega), htested, Bool.or_false]
  obtain hnot | ⟨hopen, hroom⟩ := hseal
  · rw [if_neg (by simp [hnot]), if_neg (by simp [hnot])]
  · rw [if_neg (by simp [hopen]), if_neg (by simp [hroom])]

end Answers

/-- The availability of an outlet is a state of its session. -/
theorem State.refreshOutlet_sess (s : State) (o : Nat) : ∃ l, s.refreshOutlet o = { s with outlets := { s.outlets with sess := l } } := by
  unfold State.refreshOutlet
  dsimp only
  split
  · exact ⟨_, rfl⟩
  split
  · exact ⟨_, rfl⟩
  · exact ⟨s.outlets.sess, rfl⟩

theorem State.refreshOutlets_keeps {β : Type} (g : State → β) (hg : ∀ (z : State) l, g { z with outlets := { z.outlets with sess := l } } = g z)
    (s : State) : g (s.each (List.range 8) fun z o => z.refreshOutlet o) = g s :=
  State.each_keeps _ _ _ g fun z o => by
    obtain ⟨l, h⟩ := z.refreshOutlet_sess o
    rw [h, hg]

theorem State.startCal_starts (s : State) (ch command dies reference : Nat) :
    (s.startCal ch command dies reference none).meas.calibs =
        ⟨ch, command, dies, reference, if command = 3 then 1 else s.nat Ent.CAL_FRAMES, [], [], 0, 0, 0, 0⟩ :: s.meas.calibs ∧
      (s.startCal ch command dies reference none).running = ⟨Ent.MCH_CAL_REQUEST.target ch, none, s.ticks⟩ :: s.running := by
  unfold State.startCal
  extract_lets k meas s1
  refine ⟨?_, State.refreshOutlets_keeps State.running (fun _ _ => rfl) s1⟩
  rw [State.refreshOutlets_keeps State.meas (fun _ _ => rfl) s1]
  show k :: s.meas.calibs = _
  simp only [k, beq_iff_eq]

/-- A calibration's four answers, whichever its command (R320, R22). -/
theorem State.cal_answers {s : State} {c : Client} {ch command dies reference : Nat} {h : Held} (hcommand : 1 ≤ command ∧ command ≤ 3)
    (hfinite : F32.special (low 32 reference) = false)
    (ha : s.accepts c Ent.MCH_CAL_REQUEST ch (.bytes (calBytes command dies reference)) h) :
    let t := s.clientCommand c Ent.MCH_CAL_REQUEST ch (.bytes (calBytes command dies reference)) (applyCal ch command dies reference c.queue)
    (s.mayCal ch dies → s.chanInService ch = false → s.startsCal t h ch command dies reference) ∧
      (s.mayCal ch dies → s.flag Ent.MCH_LEGAL ch = false → s.chanInService ch = true → c.queue = false → s.refusesCal t h St.CONFLICT) ∧
      (¬(1 ≤ dies ∧ dies ≤ 3) → s.refusesCal t h St.RANGE) ∧
      (1 ≤ dies → dies ≤ 3 → s.flag Ent.MCH_LEGAL ch = true → s.flag Ent.LEGAL_SEAL_STATE = false → s.refusesCal t h St.DENIED_SEAL) := by
  obtain ⟨hmeas, hrunning, hticks, hlow, htested⟩ := s.taken_measures h
  have hlegal := s.flag_taken_of_base h (e := Ent.MCH_LEGAL) (by decide) ch
  have hseal := s.flag_taken_of_base h (e := Ent.LEGAL_SEAL_STATE) (by decide) 0
  have hservice := s.chanInService_taken h ch
  have hframes := s.nat_taken_of_base h (e := Ent.CAL_FRAMES) (by decide) 0
  have hmay (hfree : s.mayCal ch dies) : (s.taken h).mayCal ch dies := by rwa [State.mayCal, hlegal, hseal, hlow, htested]
  have hrefused {status : Nat} (hact : applyCal ch command dies reference c.queue (s.taken h) = (s.taken h, status)) :
      s.refusesCal (s.clientCommand c Ent.MCH_CAL_REQUEST ch (.bytes (calBytes command dies reference))
        (applyCal ch command dies reference c.queue)) h status := by
    rw [State.clientCommand_effect ha rfl hact]
    exact ⟨State.answerLater_repliesWith .., hmeas, hrunning⟩
  refine ⟨fun hfree hidle => ?_, fun hfree _ hbusy hqueue => hrefused ?_, fun hnone => hrefused (applyCal_noDie hnone),
    fun hone hthree his hclosed => hrefused (applyCal_sealed hcommand ⟨hone, hthree⟩ hfinite (hlegal.trans his) (hseal.trans hclosed))⟩
  · have hnone := (State.not_running_of_untested ((htested ch).trans hfree.2.2)).2
    have hact : applyCal ch command dies reference c.queue (s.taken h) = ((s.taken h).startCal ch command dies reference none, St.OK) := by
      rw [applyCal_allowed hcommand (hmay hfree) hfinite, hservice, hidle, State.testOrQueue_starts hnone]
    obtain ⟨hcalibs, hruns⟩ := (s.taken h).startCal_starts ch command dies reference
    rw [State.clientCommand_effect ha rfl hact]
    refine ⟨State.answerLater_repliesWith .., ?_, ?_⟩
    · rw [State.answerLater_meas, hcalibs, hframes, hmeas]
    · rw [State.answerLater_running, hruns, hticks, hrunning]
  · rw [applyCal_allowed hcommand (hmay hfree) hfinite, hservice, hbusy, hqueue, State.testOrQueue_busy]

/-! ### The end of a calibration -/

theorem State.endCal_ends (s : State) (k : Calib) (st : Nat) :
    (∀ x ∈ (s.endCal k st).meas.calibs, x.ch ≠ k.ch) ∧ (s.endCal k st).nat Ent.MCH_CAL_RESULT k.ch = st ∧
      ∀ n, (s.endCal k st).nat Ent.CAL_SFN n = s.nat Ent.CAL_SFN n := by
  unfold State.endCal
  extract_lets meas s1 s2
  have hmeas : s2.meas = s1.meas := (State.raiseWith_meas ..).trans ((State.put_meas ..).trans
    (State.endTest_keeps State.meas (fun _ _ _ _ _ => State.raiseWith_meas ..) (fun _ _ => rfl) ..))
  have hsfn (n : Nat) : s2.nat Ent.CAL_SFN n = s1.nat Ent.CAL_SFN n := by
    refine (State.nat_raise ..).trans ((State.nat_put_ne _ _ (Entry.key_ne_of_sub (by decide) _ _)).trans ?_)
    exact State.endTest_keeps (fun z => z.nat Ent.CAL_SFN n) (fun _ _ _ _ _ => State.nat_raise ..) (fun _ _ => rfl) ..
  have hresult : s2.nat Ent.MCH_CAL_RESULT k.ch = st := (State.nat_raise ..).trans (State.nat_setNat_same ..)
  refine ⟨fun x hx => ?_, ?_, fun n => ?_⟩
  · rw [State.refreshOutlets_keeps State.meas (fun _ _ => rfl), hmeas] at hx
    simpa using (List.mem_filter.1 hx).2
  · exact (State.refreshOutlets_keeps (fun z => z.nat Ent.MCH_CAL_RESULT k.ch) (fun _ _ => rfl) _).trans hresult
  · exact (State.refreshOutlets_keeps (fun z => z.nat Ent.CAL_SFN n) (fun _ _ => rfl) _).trans (hsfn n)

/-- The values stored and dated, and the legal log's record of a legal channel (R322). -/
def State.calStored (s : State) (k : Calib) : State :=
  let s1 := (s.each k.named (fun z d => z.storeCal k d)).setNat Ent.CAL_SFN k.ch s.sfn
  let s2 := { s1 with legal := { s1.legal with calNow := k.ch :: s1.legal.calNow } }
  let first := if bit k.dies 0 then 0 else 1
  s2.when (s.flag Ent.MCH_LEGAL k.ch) (fun z =>
    z.legalLog 4 (if k.dies == 3 then 4 else 2 + first) k.ch (k.command + 256 * k.dies)
      (z.nat (if first == 0 then Ent.CAL_GAIN_M0 else Ent.CAL_GAIN_M1) k.ch))

theorem State.calStored_sfn (s : State) {k : Calib} (hch : k.ch < 96) : (s.calStored k).nat Ent.CAL_SFN k.ch = s.sfn := by
  have hlog : ∀ x, ofLegalLog x → x ≠ Ent.CAL_SFN.key k.ch := by
    have hplace : ∀ x, ofLegalLog x → x < 0x8100 * 256 ∨ 0x8200 * 256 ≤ x := by
      rintro x (rfl | rfl | rfl | rfl) <;> decide
    intro x hx
    have hx := hplace x hx
    rw [Entry.key]
    simp only [Ent.CAL_SFN]
    omega
  refine (State.when_keeps _ _ _ (fun z => z.nat Ent.CAL_SFN k.ch) fun z => State.legalLog_blind LegalBlind.nat hlog ..).trans ?_
  exact State.nat_setNat_same ..

theorem execCalDone_due {s : State} {ch : Fin 96} {k : Calib} (h : s.meas.calibs.find? (fun x => x.ch == ch.val) = some k) (hcycle : s.cycle = 0)
    (hframes : ∀ d ∈ k.named, k.frames ≤ (k.means d).length) : execCalDone ch s =
      .next (if k.named.all (fun d => (s.calResult k d).2.2) && s.calAgrees k then (s.calStored k).endCal k St.OK else s.endCal k St.RANGE) := by
  have hall : (k.named.all fun d => decide (k.frames ≤ (k.means d).length)) = true := List.all_eq_true.2 fun d hd => decide_eq_true (hframes d hd)
  unfold execCalDone
  rw [h]
  dsimp only
  rw [if_neg (by simp [hcycle, hall])]
  cases hgood : k.named.all (fun d => (s.calResult k d).2.2) && s.calAgrees k with
  | false => rfl
  | true => rfl

/-- An open-input test ends after 400 ticks with the inputs found open (R323). -/
theorem execOpenTestDone_due {s : State} {ch : Fin 96} {r : RunTest} (pos neg : Nat)
    (h : s.running.find? (fun x => x.target == Ent.MCH_OPEN_TEST.target ch) = some r) (hdue : r.since + 400 ≤ s.ticks) :
    let open_ := b2n (decide (50000 < pos)) + 2 * b2n (decide (50000 < neg))
    execOpenTestDone ch pos neg s = .next (((s.endTest (Ent.MCH_OPEN_TEST.target ch) (if open_ = 0 then St.OK else St.RANGE)).setNat
      Ent.MCH_TEST_RESULT ch (if open_ = 0 then St.OK else St.RANGE)).raise Evt.OPEN_TEST_DONE ch (if open_ = 0 then St.OK else St.RANGE) open_) := by
  have hfound : pack [(0, 1, b2n (decide (50000 < pos))), (1, 1, b2n (decide (50000 < neg)))] =
      b2n (decide (50000 < pos)) + 2 * b2n (decide (50000 < neg)) := by
    cases decide (50000 < pos)
    · cases decide (50000 < neg)
      · rfl
      · rfl
    · cases decide (50000 < neg)
      · rfl
      · rfl
  unfold execOpenTestDone
  simp only [h, ge_iff_le, hdue, if_true, beq_iff_eq, hfound]
  rfl

/-- Settles O43: the answers of each command, the end of a calibration and the open-input test. -/
theorem channelsAreCalibratedAndTested : Obligations.ChannelsAreCalibratedAndTested := by
  intro s
  refine ⟨fun c ch dies reference h hfinite => ⟨fun ha => ?_, fun ha => ?_, fun ha => ?_⟩, fun ch k hfind hcycle hframes => ?_,
    fun c ch v h ha huntested => ?_, fun ch pos neg r hrun hdue => ?_⟩
  · obtain ⟨hstarts, hbusy, hrange, hsealed⟩ := State.cal_answers (by decide) hfinite ha
    exact ⟨fun hmay hidle => ⟨_, rfl, hstarts hmay hidle⟩, fun hmay hfree hin hqueue => ⟨_, rfl, hbusy hmay hfree hin hqueue⟩,
      fun hnone => ⟨_, rfl, hrange hnone⟩, fun hone hthree hlegal hclosed => ⟨_, rfl, hsealed hone hthree hlegal hclosed⟩⟩
  · obtain ⟨hstarts, hbusy, hrange, hsealed⟩ := State.cal_answers (by decide) hfinite ha
    exact ⟨fun hmay hidle => ⟨_, rfl, hstarts hmay hidle⟩, fun hmay hfree hin hqueue => ⟨_, rfl, hbusy hmay hfree hin hqueue⟩,
      fun hnone => ⟨_, rfl, hrange hnone⟩, fun hone hthree hlegal hclosed => ⟨_, rfl, hsealed hone hthree hlegal hclosed⟩⟩
  · obtain ⟨hstarts, hbusy, hrange, hsealed⟩ := State.cal_answers (by decide) hfinite ha
    exact ⟨fun hmay hidle => ⟨_, rfl, hstarts hmay hidle⟩, fun hmay hfree hin hqueue => ⟨_, rfl, hbusy hmay hfree hin hqueue⟩,
      fun hnone => ⟨_, rfl, hrange hnone⟩, fun hone hthree hlegal hclosed => ⟨_, rfl, hsealed hone hthree hlegal hclosed⟩⟩
  · obtain ⟨hch, -⟩ : k.ch = ch.val ∧ k ∈ s.meas.calibs := ⟨by simpa using List.find?_some hfind, List.mem_of_find?_eq_some hfind⟩
    refine ⟨_, execCalDone_due hfind hcycle hframes, ?_⟩
    rw [← hch]
    split
    · next hgood =>
      obtain ⟨hover, hresult, hsfn⟩ := (s.calStored k).endCal_ends k St.OK
      simp only [Bool.and_eq_true, List.all_eq_true] at hgood
      refine ⟨hover, fun ⟨d, hd, hbad⟩ => absurd (hgood.1 d hd) (by simp [hbad]), fun _ _ => ⟨hresult, ?_⟩⟩
      exact (hsfn k.ch).trans (s.calStored_sfn (hch ▸ ch.isLt))
    · next hbad =>
      obtain ⟨hover, hresult, -⟩ := s.endCal_ends k St.RANGE
      refine ⟨hover, fun _ => hresult, fun hall hagree => absurd ?_ hbad⟩
      simpa [hagree] using hall
  · obtain ⟨hmeas, hrunning, hticks, -, htested⟩ := s.taken_measures h
    have hservice := s.chanInService_taken h ch
    refine ⟨fun hidle => ?_, fun hbusy hqueue => ?_⟩
    · have hact : applyMchOpenTest ch v c.queue (s.taken h) = ((s.taken h).beginTest (Ent.MCH_OPEN_TEST.target ch) none, St.OK) := by
        rw [applyMchOpenTest, hservice, hidle, htested, huntested]
        exact State.testOrQueue_starts (State.not_running_of_untested ((htested ch).trans huntested)).1 ..
      refine ⟨_, congrArg Host.Outcome.next (State.clientCommand_effect ha rfl hact), State.answerLater_repliesWith .., ?_,
        (State.answerLater_meas ..).trans hmeas⟩
      rw [State.answerLater_running, State.beginTest, hrunning, hticks]
    · have hact : applyMchOpenTest ch v c.queue (s.taken h) = (s.taken h, St.CONFLICT) := by
        rw [applyMchOpenTest, hservice, hbusy, hqueue, Bool.true_or, State.testOrQueue_busy]
      exact ⟨_, congrArg Host.Outcome.next (State.clientCommand_effect ha rfl hact), State.answerLater_repliesWith .., hrunning⟩
  · intro open_
    refine ⟨_, execOpenTestDone_due pos neg hrun hdue, fun x hx => ?_, ?_, fun hslot => ?_⟩
    · rw [State.raise_eq, State.raiseWith_running, State.setNat_eq, State.put_running] at hx
      exact State.running_endTest _ _ _ x hx
    · rw [State.nat_raise, State.nat_setNat_same]
    · rw [State.endTest_direct hrun hslot]
      exact State.raised_of_stamp (by exact State.put_stamp ..) ..

end Sys2Proof.Machine
end

section
/-!
PROOFS. Billing periods, intervals, calendars and credit (O46): the close of a period past the records it signs, the close of an interval,
the activation of a calendar, credit and readings (R356 to R370).
-/
namespace Sys2Proof.Machine
open Sys2Proof

/-! ### What a period's close settles -/

/-- The last close, the snapshots, the period ends settled and the period's number. -/
def State.billed (s : State) : Option Nat × List (Nat × List Byte) × Int × Option Int × Val :=
  (s.bill.closedAt, s.bill.snaps, s.bill.settled, s.bill.lastDay, s.val Ent.PERIOD_NUMBER)

theorem State.billed_eq {s t : State} (h : t.billed = s.billed) : t.bill.closedAt = s.bill.closedAt ∧ t.bill.snaps = s.bill.snaps ∧
    t.bill.settled = s.bill.settled ∧ t.bill.lastDay = s.bill.lastDay ∧ t.nat Ent.PERIOD_NUMBER = s.nat Ent.PERIOD_NUMBER := by
  simp only [State.billed, Prod.mk.injEq] at h
  obtain ⟨hclosed, hsnaps, hsettled, hday, hval⟩ := h
  exact ⟨hclosed, hsnaps, hsettled, hday, State.nat_congr hval⟩

theorem State.billed_blind : StreamBlind State.billed (· ≠ Ent.PERIOD_NUMBER.key) where
  put _ _ _ _ _ _ hk := by simp only [State.billed, State.put_bill, State.val_put_ne _ _ _ _ _ _ _ _ (Ne.symm hk)]
  event _ _ := rfl
  free _ _ := rfl
  stream _ _ := rfl

theorem State.put_billed (s : State) {e : Entry} {n j : Nat} (h : e.inSets = false ∧ e.key n j ≠ Ent.PERIOD_NUMBER.key) (v : Val) :
    (s.put e n j v).billed = s.billed := State.billed_blind.put _ _ _ _ _ h.1 h.2

/-- A record signed, or kept until the keys return, is no part of a period's standing (R371, R430). -/
theorem State.issueRecord_billed (s : State) (u : Unsigned) : (s.issueRecord u).billed = s.billed := by
  unfold State.issueRecord
  split
  · unfold State.signRecord
    extract_lets seq alg body r full l bill s1 s2
    have h1 : s1.billed = s.billed := State.streamRecord_blind (t := 2) State.billed_blind (by decide) ..
    have h2 : s2.billed = s.billed := (State.put_billed _ (by decide) _).trans ((State.put_billed _ (by decide) _).trans h1)
    refine (State.raise_own State.billed_blind.toOwnBlind ..).trans ((State.when_keeps _ _ _ State.billed fun z => ?_).trans h2)
    exact State.bump_own State.billed_blind.toOwnBlind (e := Ent.SIGNED_OVERWRITTEN) rfl (by decide) ..
  · rfl

/-- A period's close is dated, numbered and kept first among the snapshots (R364). -/
theorem State.closePeriod_closes {s : State} (hfit : s.nat Ent.PERIOD_NUMBER + 1 < 2 ^ Ent.PERIOD_NUMBER.type.bits) (cause ends : Nat) :
    (s.closePeriod cause ends).bill.closedAt = some s.frames ∧ (s.closePeriod cause ends).bill.settled = s.bill.settled ∧
      (s.closePeriod cause ends).bill.lastDay = s.bill.lastDay ∧
      (s.closePeriod cause ends).nat Ent.PERIOD_NUMBER = s.nat Ent.PERIOD_NUMBER + 1 ∧
      (s.closePeriod cause ends).bill.snaps.head?.map Prod.fst = some (s.nat Ent.PERIOD_NUMBER) := by
  unfold State.closePeriod
  extract_lets n snap tops held s1 s2
  have hdemands (z : State) {pt : Nat} (hpt : pt < 17) :
      (z.each (List.range 8) fun y k => (y.setNat Ent.MAX_DEMAND pt 0 k).setNat Ent.MAX_DEMAND_TIME pt 0 k).billed = z.billed := by
    have hbeside {e : Entry} (he : e.base = 0x8840 ∧ e.sub < 0x80 ∧ e.step = 1) {k : Nat} (hk : k < 8) : e.key pt k ≠ Ent.PERIOD_NUMBER.key := by
      rw [Entry.key, Entry.key, he.1, he.2.2]
      simp only [Ent.PERIOD_NUMBER]
      omega
    refine State.each_inv_of_mem (fun y => y.billed = z.billed) rfl fun y k hk hy => ?_
    have hk8 := List.mem_range.1 hk
    exact (State.put_billed _ (e := Ent.MAX_DEMAND_TIME) ⟨rfl, hbeside (by decide) hk8⟩ _).trans
      ((State.put_billed _ (e := Ent.MAX_DEMAND) ⟨rfl, hbeside (by decide) hk8⟩ _).trans hy)
  have h2 : s2.billed = s1.billed := State.each_inv_of_mem (fun z => z.billed = s1.billed) rfl
    fun z pt hpt hz => (hdemands z (List.mem_range.1 hpt)).trans hz
  have hsigned := State.each_keeps s2 s2.enabledPoints (fun z pt => z.signPeriod n tops pt) State.billed fun z pt => z.issueRecord_billed _
  have hmarked := State.each_keeps (s2.each s2.enabledPoints fun z pt => z.signPeriod n tops pt) (List.range 17) State.markPeriod State.billed
    fun _ _ => rfl
  have hclosed := State.billed_eq ((State.raise_own State.billed_blind.toOwnBlind _ Evt.PERIOD_CLOSED 0 (s1.nat Ent.PERIOD_NUMBER) cause).trans
    (hmarked.trans (hsigned.trans h2)))
  obtain ⟨hat, hsnaps, hsettled, hday, hnumber⟩ := hclosed
  have hs1 : s1 = State.setNat { s with bill := { s.bill with snaps := ((n, snap) :: s.bill.snaps).take 120, closedAt := some s.frames } }
      Ent.PERIOD_NUMBER 0 (n + 1) := State.bump_of_fits (by exact hfit)
  have hbill : s1.bill = { s.bill with snaps := ((n, snap) :: s.bill.snaps).take 120, closedAt := some s.frames } := by
    rw [hs1]
    exact State.put_bill ..
  rw [hat, hsettled, hday, hnumber, hsnaps, hbill]
  refine ⟨rfl, rfl, rfl, ?_, rfl⟩
  rw [hs1]
  exact State.nat_setNat_same ..

/-! ### Meter time and the interval -/

/-- Meter time formed is a matter of its own fields of billing (R352). -/
theorem State.formTime_bill (s : State) : ∃ f p b, s.formTime.bill = { s.bill with mtFrame := f, mtPrev := p, still := b } := by
  unfold State.formTime
  split
  · exact ⟨s.bill.mtFrame, s.bill.mtPrev, s.bill.still, rfl⟩
  · extract_lets old u still mt left bill s1 s2
    refine ⟨some s.frames, old, still, (State.when_keeps _ _ _ State.bill fun z => State.raiseWith_bill ..).trans ?_⟩
    exact (State.put_bill ..).trans ((State.fitNat_bill ..).trans (State.put_bill ..))

theorem State.closeInterval_begins (s : State) (j now : Nat) : (s.closeInterval j now).bill.index = some now ∧
    (s.closeInterval j now).bill.stepped = false ∧ (s.closeInterval j now).bill.restarted = false := by
  unfold State.closeInterval
  extract_lets b bits0 bits s1 s2 s3 passed flagged fresh held s4
  have h4 : (s4.when (decide (0 < flagged)) fun z => z.raise Evt.INTERVALS_FLAGGED 0 flagged (low 11 s3.newestBits)).bill = s4.bill :=
    State.when_keeps _ _ _ State.bill fun z => State.raiseWith_bill ..
  rw [h4]
  exact ⟨rfl, rfl, rfl⟩

theorem State.intervalStep_frames (s : State) : s.formTime.intervalStep.frames = s.frames := by
  have hclock : s.formTime.intervalStep.clock = s.clock := by simp
  exact congrArg (fun x : Nat × Nat × List Instr => x.1 / 20) hclock

/-! ### Calendars -/

theorem State.activate_calendar (s : State) (c cause : Nat) : (s.activate c cause).nat Ent.ACTIVE_CALENDAR = c ∧
    (s.activate c cause).nat Ent.METER_TIME = s.nat Ent.METER_TIME := by
  unfold State.activate
  split
  · next h => exact ⟨beq_iff_eq.1 h, rfl⟩
  · rw [State.nat_raise, State.nat_raise]
    exact ⟨State.nat_setNat_same .., State.nat_put_ne _ _ (by decide)⟩

/-- The rate evaluated is no matter of the calendar nor of what meter time has passed. -/
theorem State.evalRate_leaves (s : State) : s.evalRate.nat Ent.ACTIVE_CALENDAR = s.nat Ent.ACTIVE_CALENDAR ∧ s.evalRate.bill = s.bill := by
  unfold State.evalRate
  split
  · exact ⟨rfl, rfl⟩
  split
  · exact ⟨rfl, rfl⟩
  dsimp only
  split
  · exact ⟨rfl, rfl⟩
  · exact ⟨(State.nat_raise ..).trans (State.nat_put_ne _ _ (by decide)), (State.raiseWith_bill ..).trans (State.put_bill ..)⟩

/-- The calendars due become active, and meter time is settled up to now (R356). -/
theorem State.calendarStep_activates {s : State} (hruns : s.bill.still = false) (hup : s.metersUp = true) :
    s.calendarStep.bill.mtPrev = s.nat Ent.METER_TIME ∧ ∀ x c, s.activationsDue = [(x, c)] → s.calendarStep.nat Ent.ACTIVE_CALENDAR = c := by
  unfold State.calendarStep
  rw [if_neg (by simp [hruns, hup])]
  extract_lets order s1 held
  obtain ⟨hcalendar, hbill⟩ := State.evalRate_leaves { s1 with bill := { s1.bill with mtPrev := s1.nat Ent.METER_TIME } }
  rw [hbill, hcalendar]
  refine ⟨?_, fun x c hdue => ?_⟩
  · exact State.each_keeps _ _ _ (fun z => z.nat Ent.METER_TIME) fun z x => (z.activate_calendar x.2 0).2
  · have horder : order = [(x, c)] := by
      simp only [order, hdue]
      rfl
    show s1.nat Ent.ACTIVE_CALENDAR = c
    simp only [s1, horder]
    exact (s.activate_calendar c 0).1

/-! ### Credit -/

/-- An amount of 64 bits comes as it was sent. -/
theorem signed_word {i : Int} (h : i.natAbs < 2 ^ 63) : signed 64 (word 64 i) = i := by
  unfold signed word low
  split <;> omega

theorem State.setAcct_balance (s : State) (a : Nat) (k : AccountSt) : (s.setAcct a k).acct a = k ∧ (s.setAcct a k).stamp = s.stamp := by
  unfold State.setAcct
  extract_lets held s1
  have hbill : (((s1.fitInt Ent.BALANCE a (ratFloor k.balance)).fitNat Ent.ENERGY_DELIVERED a (wholeOf k.delivered)).fitNat Ent.CREDIT_USED a
      (wholeOf k.used)).bill = s1.bill := (State.fitNat_bill ..).trans ((State.fitNat_bill ..).trans (State.fitInt_bill ..))
  refine ⟨?_, ?_⟩
  · rw [State.acct, hbill]
    exact Tab.get_set_same ..
  · simp only [State.stamp, State.fitNat_ev, State.fitInt_ev, State.fitNat_sfn, State.fitInt_sfn, State.fitNat_cycle, State.fitInt_cycle,
      State.fitNat_time, State.fitInt_time]
    rfl

section Credit
variable {s : State} {a : Nat} {amount : Int} {reference : Nat}

theorem applyCreditTopup_disabled (h : s.flag Ent.ACCOUNT_ENABLE a = false) : applyCreditTopup a amount reference s = (s, St.CONFLICT) :=
  if_pos (by simp [h])

theorem applyCreditTopup_again (h : s.flag Ent.ACCOUNT_ENABLE a = true) (hsame : reference = s.nat Ent.LAST_TOPUP_REF a) :
    applyCreditTopup a amount reference s = (s, St.ALREADY_DONE) := by
  unfold applyCreditTopup
  rw [if_neg (by simp [h]), if_pos (by simp [hsame])]

theorem applyCreditTopup_outside (h : s.flag Ent.ACCOUNT_ENABLE a = true) (hnew : reference ≠ s.nat Ent.LAST_TOPUP_REF a)
    (hbound : amount = 0 ∨ 10 ^ 12 < amount.natAbs) : applyCreditTopup a amount reference s = (s, St.RANGE) := by
  unfold applyCreditTopup
  rw [if_neg (by simp [h]), if_neg (by simpa using hnew), if_pos (by simpa using hbound)]

theorem applyCreditTopup_credits (h : s.flag Ent.ACCOUNT_ENABLE a = true) (hnew : reference ≠ s.nat Ent.LAST_TOPUP_REF a) (hnonzero : amount ≠ 0)
    (hbound : amount.natAbs ≤ 10 ^ 12) : ∃ u, applyCreditTopup a amount reference s = (u, St.OK) ∧
      (u.acct a).balance = (s.acct a).balance + (amount : Rat) ∧ u.nat Ent.LAST_TOPUP_REF a = reference ∧
      s.raised u Evt.CREDIT_TOPUP a reference (word 32 amount) := by
  obtain ⟨hacct, hstamp⟩ := s.setAcct_balance a { s.acct a with balance := (s.acct a).balance + (amount : Rat) }
  unfold applyCreditTopup
  rw [if_neg (by simp [h]), if_neg (by simpa using hnew), if_neg (by simpa using ⟨hnonzero, hbound⟩)]
  dsimp only
  generalize s.setAcct a _ = y at hacct hstamp ⊢
  refine ⟨_, rfl, ?_, ?_, State.raised_of_stamp ((State.put_stamp ..).trans hstamp) ..⟩
  · rw [State.acct, State.raise_eq, State.raiseWith_bill, State.setNat_eq, State.put_bill]
    exact congrArg AccountSt.balance hacct
  · rw [State.nat_raise, State.nat_setNat_same]

end Credit

/-! ### The requests -/

section Requests
variable {s : State}

theorem applyBillingClose_again (h : s.bill.closedAt = some s.frames) : applyBillingClose s = (s, St.ALREADY_DONE) := if_pos (by simp [h])

theorem applyBillingClose_still (h : s.bill.closedAt ≠ some s.frames) (hstill : s.bill.still = true) :
    applyBillingClose s = (s, St.CONFLICT) := by
  unfold applyBillingClose
  rw [if_neg (by simpa using h), if_pos hstill]

theorem applyBillingClose_closes (h : s.bill.closedAt ≠ some s.frames) (hruns : s.bill.still = false) :
    applyBillingClose s = (s.closePeriod 1 0, St.OK) := by
  unfold applyBillingClose
  rw [if_neg (by simpa using h), if_neg (by simp [hruns])]

theorem applyReadingRequest_disabled {pt : Nat} (h : s.flag Ent.POINT_ENABLE pt = false) : applyReadingRequest pt s = (s, St.CONFLICT) :=
  if_neg (by simp [h])

theorem applyReadingRequest_issues {pt : Nat} (h : s.flag Ent.POINT_ENABLE pt = true) : applyReadingRequest pt s = (s.signReading pt, St.OK) :=
  if_pos h

/-- Without the meter keys a reading waits for them (R430). -/
theorem State.signReading_waits (hkeys : s.keys.held = false) (pt : Nat) :
    (s.signReading pt).bill.unsigned.length = s.bill.unsigned.length + 1 := by
  unfold State.signReading State.issueRecord
  dsimp only
  rw [if_neg (by simp [hkeys])]
  exact List.length_append

end Requests

/-- A period end reached closes the period once on its local date (R363). -/
theorem execBillingPeriodClose_closes {s z : State} (hcycle : s.cycle = 0) (hstep : s.tx.step = 0) (hup : s.metersUp = true)
    (hz : z = s.formTime.intervalStep) (hruns : z.bill.still = false) (hreached : z.endsUpTo z.bill.settled < z.endsUpTo z.localMs)
    (hday : z.bill.lastDay ≠ some (dayOf z.localMs)) (hfit : z.nat Ent.PERIOD_NUMBER + 1 < 2 ^ Ent.PERIOD_NUMBER.type.bits) :
    ∃ t, execBillingPeriodClose s = .next t ∧ t.bill.settled = z.localMs ∧ t.bill.lastDay = some (dayOf z.localMs) ∧
      t.bill.closedAt = some s.frames ∧ t.nat Ent.PERIOD_NUMBER = z.nat Ent.PERIOD_NUMBER + 1 := by
  have hframes : z.frames = s.frames := hz ▸ s.intervalStep_frames
  have hends : ¬z.endsUpTo z.localMs - z.endsUpTo z.bill.settled ≤ 0 := by omega
  unfold execBillingPeriodClose
  dsimp only
  rw [if_neg (by simp [hcycle, hstep, hup]), ← hz, if_neg (by simp [hruns, hends]), if_neg (by simpa using hday)]
  obtain ⟨y, hy⟩ : ∃ y : State, y = { z with bill := { z.bill with settled := z.localMs, lastDay := some (dayOf z.localMs) } } := ⟨_, rfl⟩
  rw [← hy]
  have hyBill : y.bill.settled = z.localMs ∧ y.bill.lastDay = some (dayOf z.localMs) := by
    rw [hy]
    exact ⟨rfl, rfl⟩
  have hyNumber : y.nat Ent.PERIOD_NUMBER = z.nat Ent.PERIOD_NUMBER := by
    rw [hy]
    rfl
  have hyFrames : y.frames = z.frames := by
    rw [hy]
    rfl
  obtain ⟨hat, hsettled, hlast, hcount, -⟩ := State.closePeriod_closes (s := y) (by rwa [hyNumber]) 0
    (z.endsUpTo z.localMs - z.endsUpTo z.bill.settled).toNat
  refine ⟨_, rfl, hsettled.trans hyBill.1, hlast.trans hyBill.2, ?_, ?_⟩
  · rw [hat, hyFrames, hframes]
  · rw [hcount, hyNumber]

/-- Settles O46: the closes of a period and an interval, a calendar's activation, credit and readings. -/
theorem billingPeriodsIntervalsAndCredit : Obligations.BillingPeriodsIntervalsAndCredit := by
  intro s
  have hbill (h : Held) : (s.taken h).bill = s.bill := State.taken_keeps State.bill (fun _ _ _ _ => rfl) s h
  have hframes (h : Held) : (s.taken h).frames = s.frames := State.taken_keeps State.frames (fun _ _ _ _ => rfl) s h
  refine ⟨fun c v h ha => ⟨fun hagain => ?_, fun hfirst hstill => ?_, fun hfirst hruns hfit => ?_⟩,
    fun hcycle hstep hup => execBillingPeriodClose_closes hcycle hstep hup rfl, fun hcycle hstep hup => ⟨_, if_neg (by simp [hcycle, hstep, hup]), ?_, ?_⟩,
    fun hcycle hstep hruns hup => ⟨_, if_neg (by simp [hcycle, hstep]), State.calendarStep_activates hruns hup⟩,
    fun c a amount reference h ha hamount hreference => ?_, fun c pt v h ha => ?_⟩
  · exact ⟨_, congrArg Host.Outcome.next (State.clientCommand_effect ha rfl (applyBillingClose_again (by rw [hbill, hframes, hagain]))),
      State.answerLater_repliesWith .., (State.answerLater_bill ..).trans (hbill h)⟩
  · exact ⟨_, congrArg Host.Outcome.next (State.clientCommand_effect ha rfl (applyBillingClose_still (by rwa [hbill, hframes])
      (by rw [hbill, hstill]))), State.answerLater_repliesWith .., (State.answerLater_bill ..).trans (hbill h)⟩
  · have hnumber : (s.taken h).nat Ent.PERIOD_NUMBER = s.nat Ent.PERIOD_NUMBER := s.nat_taken_of_base h (by decide) 0
    obtain ⟨hat, -, -, hcount, hsnap⟩ := State.closePeriod_closes (s := s.taken h) (by rwa [hnumber]) 1 0
    refine ⟨_, congrArg Host.Outcome.next (State.clientCommand_effect ha rfl (applyBillingClose_closes (by rwa [hbill, hframes])
      (by rw [hbill, hruns]))), State.answerLater_repliesWith .., ?_, ?_, ?_⟩
    · rw [State.answerLater_bill, hat, hframes]
    · rw [State.nat_answerLater, hcount, hnumber]
    · rw [State.answerLater_bill, hsnap, hnumber]
  · intro j hj hends
    obtain ⟨f, p, b, hformed⟩ := s.formTime_bill
    unfold State.intervalStep
    rw [hformed]
    simp only [hj]
    rw [if_pos (by simpa [or_assoc] using hends)]
    exact State.closeInterval_begins ..
  · intro j hj hsame hstepped hrestarted
    obtain ⟨f, p, b, hformed⟩ := s.formTime_bill
    unfold State.intervalStep
    rw [hformed]
    simp only [hj]
    rw [if_neg (by simp [hsame, hstepped, hrestarted])]
  · have hexec : exec (.creditTopup c a amount reference) s = .next (s.clientCommand c Ent.CREDIT_TOPUP a
        (.bytes (topupBytes amount reference)) (applyCreditTopup a amount reference)) := by
      have hlow : low 32 reference = reference := Nat.mod_eq_of_lt hreference
      show execCreditTopup c a amount reference s = _
      rw [execCreditTopup, signed_word hamount, hlow]
      rfl
    have henabled := s.flag_taken_of_base h (e := Ent.ACCOUNT_ENABLE) (by decide) a
    have hlast := s.nat_taken_of_base h (e := Ent.LAST_TOPUP_REF) (by decide) a
    have hrefused {st : Nat} (hact : applyCreditTopup a amount reference (s.taken h) = (s.taken h, st)) :
        ∃ t, exec (.creditTopup c a amount reference) s = .next t ∧ t.repliesWith h st ∧ t.bill = s.bill :=
      ⟨_, hexec.trans (congrArg Host.Outcome.next (State.clientCommand_effect ha rfl hact)), State.answerLater_repliesWith ..,
        (State.answerLater_bill ..).trans (hbill h)⟩
    refine ⟨fun hoff => hrefused (applyCreditTopup_disabled (henabled.trans hoff)), fun hon hsame =>
      hrefused (applyCreditTopup_again (henabled.trans hon) (hsame.trans hlast.symm)), fun hon hnew => ⟨fun hbound =>
      hrefused (applyCreditTopup_outside (henabled.trans hon) (hlast.symm ▸ hnew) hbound), fun hnonzero hbound => ?_⟩⟩
    obtain ⟨u, hu, hbalance, href, hraised⟩ := applyCreditTopup_credits (henabled.trans hon) (hlast.symm ▸ hnew) hnonzero hbound
    have hstamp : (s.taken h).stamp = s.stamp := State.taken_keeps State.stamp (fun _ _ _ _ => rfl) s h
    refine ⟨_, hexec.trans (congrArg Host.Outcome.next (State.clientCommand_effect ha rfl hu)), State.answerLater_repliesWith .., ?_, ?_,
      State.raised_answerLater (hraised.trans (State.raised_of_stamp hstamp ..)) h _⟩
    · rw [State.acct, State.answerLater_bill, ← State.acct, hbalance, State.acct, hbill, ← State.acct]
    · rw [State.nat_answerLater, href]
  · have henabled := s.flag_taken_of_base h (e := Ent.POINT_ENABLE) (by decide) pt
    refine ⟨fun hoff => ?_, fun hon => ?_⟩
    · exact ⟨_, congrArg Host.Outcome.next (State.clientCommand_effect ha rfl (applyReadingRequest_disabled (henabled.trans hoff))),
        State.answerLater_repliesWith .., (State.answerLater_bill ..).trans (hbill h)⟩
    · refine ⟨_, congrArg Host.Outcome.next (State.clientCommand_effect ha rfl (applyReadingRequest_issues (henabled.trans hon))),
        State.answerLater_repliesWith .., fun hkeys => ?_⟩
      have hheld : (s.taken h).keys.held = false := (congrArg KeySt.held (State.taken_keeps State.keys (fun _ _ _ _ => rfl) s h)).trans hkeys
      rw [State.answerLater_bill, State.signReading_waits hheld, hbill]

end Sys2Proof.Machine
end

section
/-!
PROOFS. Images received and prepared (O53): the manifest, the blocks and the erasure of a slot, and the preparations of a main and of a legal
image (R437 to R441, R449).
-/
namespace Sys2Proof.Machine
open Sys2Proof

/-! ### The content of a slot -/

theorem State.showSlot_keeps {β : Type} (g : State → β) (hput : ∀ (z : State) (e : Entry) n v, g (z.put e n 0 v) = g z) (s : State) (k : Nat) :
    g (s.showSlot k) = g s := by
  unfold State.showSlot
  exact (hput ..).trans ((hput ..).trans ((hput ..).trans (hput ..)))

/-- The end of a wrapping forgets it, with one of the seals (R423); the rest of it only shows. -/
theorem State.endRewrap_forgets {β : Type} (g : State → β) (hput : ∀ (z : State) (e : Entry) n v, g (z.put e n 0 v) = g z) (s : State)
    (keep : Bool) : ∃ l, g (s.endRewrap keep) =
      g { s with fw := { s.fw with wrapping := none }, keys := { s.keys with rewrap := none, seals := l } } := by
  unfold State.endRewrap
  exact ⟨_, (State.each_keeps _ _ _ g fun z k => State.showSlot_keeps g hput z k).trans (hput ..)⟩

/-- The end of a wrapping shows in the key slots and in nothing the other fields hold (R423). -/
theorem State.endRewrap_keeps {β : Type} (g : State → β) (hput : ∀ (z : State) (e : Entry) n v, g (z.put e n 0 v) = g z)
    (hrest : ∀ (z : State) w k, g { z with fw := { z.fw with wrapping := w }, keys := k } = g z)
    (s : State) (keep : Bool) : g (s.endRewrap keep) = g s := by
  obtain ⟨l, h⟩ := State.endRewrap_forgets g hput s keep
  exact h.trans (hrest ..)

theorem State.dropWrapping_keeps {β : Type} (g : State → β) (hput : ∀ (z : State) (e : Entry) n v, g (z.put e n 0 v) = g z)
    (hrest : ∀ (z : State) w k, g { z with fw := { z.fw with wrapping := w }, keys := k } = g z)
    (s : State) (i : Nat) : g (s.dropWrapping i) = g s := by
  unfold State.dropWrapping
  split
  · exact State.endRewrap_keeps g hput hrest s false
  · rfl

/-- The records of a slot gone and its entries empty. -/
def State.clearSlot (s : State) (i : Nat) : State :=
  (((State.setNat { s with fw := { s.fw with slots := Tab.erase s.fw.slots i } } Ent.SLOT_STATE i Img.EMPTY).setNat Ent.SLOT_VERSION i 0).setNat
    Ent.SLOT_BLOCKS_OK i 0).setBytes Ent.SLOT_MEASUREMENT i (List.replicate 48 0#8)

theorem State.emptySlot_eq (s : State) (i : Nat) : s.emptySlot i = (s.dropWrapping i).clearSlot i := rfl

theorem State.clearSlot_fw (s : State) (i : Nat) : (s.clearSlot i).fw = { s.fw with slots := Tab.erase s.fw.slots i } :=
  (State.put_fw ..).trans ((State.put_fw ..).trans ((State.put_fw ..).trans (State.put_fw ..)))

theorem State.clearSlot_stamp (s : State) (i : Nat) : (s.clearSlot i).stamp = s.stamp :=
  (State.put_stamp ..).trans ((State.put_stamp ..).trans ((State.put_stamp ..).trans (State.put_stamp ..)))

theorem State.emptySlot_stamp (s : State) (i : Nat) : (s.emptySlot i).stamp = s.stamp :=
  (State.clearSlot_stamp ..).trans (State.dropWrapping_keeps State.stamp (fun _ _ _ _ => State.put_stamp ..) (fun _ _ _ => rfl) s i)

/-- An emptied slot holds no manifest and no block (R439). -/
theorem State.emptySlot_empties (s : State) (i : Nat) : (s.emptySlot i).nat Ent.SLOT_STATE i = Img.EMPTY ∧
    (s.emptySlot i).nat Ent.SLOT_BLOCKS_OK i = 0 ∧ (s.emptySlot i).fslot i = ⟨[], []⟩ := by
  rw [State.emptySlot_eq]
  generalize s.dropWrapping i = z
  refine ⟨?_, ?_, ?_⟩
  · exact (State.nat_put_sub _ (by decide) _ _ _).trans ((State.nat_put_sub _ (by decide) _ _ _).trans
      ((State.nat_put_sub _ (by decide) _ _ _).trans (State.nat_setNat_same ..)))
  · exact (State.nat_put_sub _ (by decide) _ _ _).trans (State.nat_setNat_same ..)
  · rw [State.fslot, State.clearSlot_fw]
    simp [Tab.get]

theorem State.fslot_setFslot (s : State) (i : Nat) (x : FwSlot) : (s.setFslot i x).fslot i = x := Tab.get_set_same ..

theorem State.fslot_put (s : State) (e : Entry) (n j : Nat) (v : Val) (i : Nat) : (s.put e n j v).fslot i = s.fslot i := by
  rw [State.fslot, State.put_fw, State.fslot]

theorem State.fw_raise (s : State) (k : EvKind) (a p q : Nat) : (s.raise k a p q).fw = s.fw := by rw [State.raise_eq_ev]

theorem State.fslot_raise (s : State) (k : EvKind) (a p q i : Nat) : (s.raise k a p q).fslot i = s.fslot i := by
  rw [State.raise_eq_ev]
  rfl

/-! ### The manifest -/

/-- What a request for a slot reads of the images past the tag it takes. -/
theorem State.taken_images (s : State) (h : Held) : (s.taken h).fw = s.fw ∧ (s.taken h).stamp = s.stamp ∧
    (∀ i, (s.taken h).fslot i = s.fslot i) ∧ ∀ i, (s.taken h).nat Ent.SLOT_STATE i = s.nat Ent.SLOT_STATE i :=
  ⟨State.taken_keeps State.fw (fun _ _ _ _ => rfl) s h, State.taken_keeps State.stamp (fun _ _ _ _ => rfl) s h,
    fun i => State.taken_keeps (fun z => z.fslot i) (fun _ _ _ _ => rfl) s h, fun i => s.nat_taken_of_base h (by decide) i⟩

theorem State.manifestStatus_taken (s : State) (h : Held) (i : Nat) (m : List Byte) : (s.taken h).manifestStatus i m = s.manifestStatus i m := by
  obtain ⟨hfw, -, -, -⟩ := s.taken_images h
  have hlow : (s.taken h).legalLow = s.legalLow := State.taken_keeps State.legalLow (fun _ _ _ _ => rfl) s h
  have hversion : (s.taken h).nat Ent.FW_MAIN_VERSION = s.nat Ent.FW_MAIN_VERSION :=
    State.nat_congr (s.val_taken h _ 0 0 (by decide) (by decide))
  have hpreparing : (s.taken h).preparing i = s.preparing i := State.taken_keeps (fun z => z.preparing i) (fun _ _ _ _ => rfl) s h
  simp (disch := decide) only [State.manifestStatus, hpreparing, hfw, hlow, hversion, State.nat_taken_of_base, State.flag_taken_of_base]

theorem applySlotManifest_refused {s : State} {i : Nat} {m : List Byte} (h : s.manifestStatus i m ≠ St.OK) :
    applySlotManifest i m s = (s.setNat Ent.SLOT_RESULT i (s.manifestStatus i m), s.manifestStatus i m) :=
  if_pos (by simpa using h)

/-- A manifest that passes replaces the slot's content (R437). -/
theorem applySlotManifest_received {s : State} {i : Nat} {m : List Byte} (h : s.manifestStatus i m = St.OK) :
    ∃ u, applySlotManifest i m s = (u, St.OK) ∧ u.nat Ent.SLOT_RESULT i = St.OK ∧ u.nat Ent.SLOT_STATE i = Img.RECEIVING ∧
      u.fslot i = ⟨m, []⟩ ∧ u.nat Ent.SLOT_VERSION i = mfVersion m ∧ u.nat Ent.SLOT_BLOCKS_OK i = 0 ∧
      u.bytes Ent.SLOT_MEASUREMENT i = declared m := by
  obtain ⟨-, hblocks, -⟩ := s.emptySlot_empties i
  unfold applySlotManifest
  dsimp only
  rw [if_neg (by simp [h])]
  refine ⟨_, rfl, State.nat_setNat_same .., ?_, ?_, ?_, ?_, ?_⟩
  · exact (State.nat_put_sub _ (by decide) _ _ _).trans ((State.nat_put_sub _ (by decide) _ _ _).trans
      ((State.nat_put_sub _ (by decide) _ _ _).trans (State.nat_setNat_same ..)))
  · refine (State.fslot_put ..).trans ((State.fslot_put ..).trans ((State.fslot_put ..).trans ((State.fslot_put ..).trans ?_)))
    exact State.fslot_setFslot ..
  · exact (State.nat_put_sub _ (by decide) _ _ _).trans ((State.nat_put_sub _ (by decide) _ _ _).trans (State.nat_setNat_same ..))
  · exact (State.nat_put_sub _ (by decide) _ _ _).trans ((State.nat_put_sub _ (by decide) _ _ _).trans
      ((State.nat_put_sub _ (by decide) _ _ _).trans ((State.nat_put_sub _ (by decide) _ _ _).trans hblocks)))
  · rw [State.bytes_def, State.setNat_eq, State.val_put_ne _ _ _ _ _ _ _ _ (Entry.key_ne_of_sub (by decide) _ _), State.setBytes_eq,
      State.val_put_same]
    rfl

/-! ### The blocks -/

/-- The slot with a block more (R438). -/
def State.blockStored (s : State) (i : Nat) (bs : Tab (List Byte)) : State :=
  ((s.setFslot i ⟨s.manifest i, bs⟩).setNat Ent.SLOT_BLOCKS_OK i bs.length).setNat Ent.SLOT_RESULT i St.OK

theorem State.blockStored_stores (s : State) (i : Nat) (bs : Tab (List Byte)) : (s.blockStored i bs).fslot i = ⟨s.manifest i, bs⟩ ∧
    (s.blockStored i bs).nat Ent.SLOT_BLOCKS_OK i = bs.length ∧ (s.blockStored i bs).stamp = s.stamp := by
  refine ⟨?_, ?_, ?_⟩
  · exact (State.fslot_put ..).trans ((State.fslot_put ..).trans (State.fslot_setFslot ..))
  · exact (State.nat_put_sub _ (by decide) _ _ _).trans (State.nat_setNat_same ..)
  · exact (State.put_stamp ..).trans (State.put_stamp ..)

section Blocks
variable {s : State} {i : Nat} {v : List Byte}

theorem applySlotBlock_unasked (h : s.nat Ent.SLOT_STATE i ≠ Img.RECEIVING) :
    applySlotBlock i v s = (s.setNat Ent.SLOT_RESULT i St.CONFLICT, St.CONFLICT) := if_pos (by simpa using h)

variable (h : s.nat Ent.SLOT_STATE i = Img.RECEIVING)
include h

theorem applySlotBlock_outside
    (hout : v.length < 2 ∨ mfBlocks (s.manifest i) ≤ leAt v 0 2 ∨ (v.drop 2).length ≠ mfBlockLen (s.manifest i) (leAt v 0 2)) :
    applySlotBlock i v s = (s.setNat Ent.SLOT_RESULT i St.RANGE, St.RANGE) := by
  unfold applySlotBlock
  dsimp only
  rw [if_neg (by simp [h]), if_pos]
  simpa [State.manifest, or_assoc] using hout

variable (hlong : 2 ≤ v.length) (hblock : leAt v 0 2 < mfBlocks (s.manifest i))
  (hlen : (v.drop 2).length = mfBlockLen (s.manifest i) (leAt v 0 2))
include hlong hblock hlen

theorem applySlotBlock_within : applySlotBlock i v s =
    if sha256 (v.drop 2) != mfBlockHash (s.manifest i) (leAt v 0 2) then
      ((s.setNat Ent.SLOT_RESULT i St.RANGE).raise Evt.IMAGE_REFUSED i St.RANGE (leAt v 0 2), St.RANGE)
    else if (Tab.find (s.fslot i).blocks (leAt v 0 2)).isSome then (s.setNat Ent.SLOT_RESULT i St.OK, St.OK)
    else
      let bs := Tab.set (s.fslot i).blocks (leAt v 0 2) (v.drop 2)
      (if bs.length == mfBlocks (s.manifest i) then (s.blockStored i bs).finishImage i else s.blockStored i bs, St.OK) := by
  have hfits : (decide (v.length < 2) || decide (leAt v 0 2 ≥ mfBlocks (s.manifest i)) ||
      (v.drop 2).length != mfBlockLen (s.manifest i) (leAt v 0 2)) = false := by
    rw [hlen]
    simp [hblock]
    omega
  unfold applySlotBlock
  dsimp only
  rw [if_neg (by simp [h])]
  exact if_neg (by rw [show (s.fslot i).manifest = s.manifest i from rfl, hfits]; decide)

end Blocks

/-- A whole image with its digest is verified (R438). -/
theorem State.finishImage_verified {s : State} {i : Nat} {x : FwSlot} (hx : s.fslot i = x)
    (h : sha384 ((List.range (mfBlocks x.manifest)).flatMap fun j => (Tab.find x.blocks j).getD []) = (x.manifest.drop 32).take 48) :
    (s.finishImage i).fslot i = x ∧ (s.finishImage i).nat Ent.SLOT_STATE i = Img.VERIFIED ∧
      s.raised (s.finishImage i) Evt.IMAGE_VERIFIED i (mfVersion x.manifest) (leAt (declared x.manifest) 0 4) := by
  obtain ⟨z, hz⟩ : ∃ z, z = (s.setNat Ent.SLOT_STATE i Img.VERIFIED).raise Evt.IMAGE_VERIFIED i (mfVersion x.manifest)
    (leAt (declared x.manifest) 0 4) := ⟨_, rfl⟩
  have hslot : z.fslot i = x := by
    rw [hz, State.fslot_raise]
    exact (State.fslot_put ..).trans hx
  have hstate : z.nat Ent.SLOT_STATE i = Img.VERIFIED := by rw [hz, State.nat_raise, State.nat_setNat_same]
  have hraised : s.raised z Evt.IMAGE_VERIFIED i (mfVersion x.manifest) (leAt (declared x.manifest) 0 4) := by
    rw [hz]
    exact State.raised_of_stamp (State.put_stamp ..) ..
  unfold State.finishImage
  dsimp only
  rw [hx, if_pos (by simpa using h), ← hz]
  split
  · exact ⟨hslot, hstate, hraised⟩
  · exact ⟨hslot, hstate, hraised⟩

/-- A whole image with another digest empties the slot (R438). -/
theorem State.finishImage_refused {s : State} {i : Nat} {x : FwSlot} (hx : s.fslot i = x)
    (h : sha384 ((List.range (mfBlocks x.manifest)).flatMap fun j => (Tab.find x.blocks j).getD []) ≠ (x.manifest.drop 32).take 48) :
    (s.finishImage i).fslot i = ⟨[], []⟩ ∧ (s.finishImage i).nat Ent.SLOT_STATE i = Img.EMPTY ∧
      s.raised (s.finishImage i) Evt.IMAGE_REFUSED i St.RANGE 0xFFFF := by
  obtain ⟨hstate, -, hslot⟩ := s.emptySlot_empties i
  unfold State.finishImage
  dsimp only
  rw [hx, if_neg (by simpa using h)]
  refine ⟨?_, ?_, State.raised_of_stamp ((State.put_stamp ..).trans (s.emptySlot_stamp i)) ..⟩
  · rw [State.fslot_raise]
    exact (State.fslot_put ..).trans hslot
  · rw [State.nat_raise]
    exact (State.nat_put_sub _ (by decide) _ _ _).trans hstate

/-! ### The erasure -/

section Erase
variable {s : State} {i : Nat}

theorem applySlotErase_empty (h : s.nat Ent.SLOT_STATE i = Img.EMPTY) : applySlotErase i s = (s, St.ALREADY_DONE) := if_pos (by simp [h])

theorem applySlotErase_erases (h : s.nat Ent.SLOT_STATE i = Img.RECEIVING ∨ s.nat Ent.SLOT_STATE i = Img.VERIFIED) :
    applySlotErase i s = ((s.emptySlot i).setNat Ent.SLOT_RESULT i St.OK, St.OK) := by
  unfold applySlotErase
  obtain h | h := h
  · rw [h]
    rfl
  · rw [h]
    rfl

theorem applySlotErase_inUse (h : Img.RUNNING ≤ s.nat Ent.SLOT_STATE i) : applySlotErase i s = (s, St.CONFLICT) := by
  have hthree : 3 ≤ s.nat Ent.SLOT_STATE i := h
  unfold applySlotErase
  dsimp only
  rw [if_neg, if_neg]
  · simp only [Img.RECEIVING, Img.VERIFIED, Bool.or_eq_true, beq_iff_eq]
    omega
  · simp only [Img.EMPTY, beq_iff_eq]
    omega

end Erase

/-! ### Preparations -/

/-- FW_UPDATE_STATUS shown is an own value (Table 19-5). -/
theorem State.showFw_eq (s : State) : ∃ v, s.showFw = s.put Ent.FW_UPDATE_STATUS 0 0 v := ⟨_, rfl⟩

theorem State.showFw_keeps {β : Type} (g : State → β) (hput : ∀ (z : State) v, g (z.put Ent.FW_UPDATE_STATUS 0 0 v) = g z) (s : State) :
    g s.showFw = g s := by
  obtain ⟨v, h⟩ := s.showFw_eq
  rw [h, hput]

theorem State.unboot_keeps {β : Type} (g : State → β) (hdie : ∀ (z : State) d, g { z with die := d } = g z) (s : State) (d : Nat) :
    g (s.unboot d) = g s := by
  unfold State.unboot
  split
  · exact hdie ..
  · exact hdie ..

theorem State.strand_keeps {β : Type} (g : State → β) (hdie : ∀ (z : State) d, g { z with die := d } = g z) (s : State) : g s.strand = g s := by
  unfold State.strand
  split
  · exact (hdie ..).trans ((State.setStanding_keeps g hdie ..).trans (hdie ..))
  · rfl

/-- The mirror lost is a matter of the pair and of the mirror (R60). -/
theorem State.loseSync_keeps {β : Type} (g : State → β) (hdie : ∀ (z : State) d, g { z with die := d } = g z)
    (hmirror : ∀ (z : State) m, g { z with mirror := m } = g z) (s : State) : g s.loseSync = g s := by
  unfold State.loseSync
  extract_lets other die mirror s1
  have h1 : g s1 = g s := (hmirror { s with die := { s.die with mirrorSync := false } } _).trans (hdie ..)
  refine (State.strand_keeps g hdie _).trans ?_
  split
  · exact (State.setStanding_keeps g hdie ..).trans h1
  · exact h1

theorem State.mirrorSync_setStanding (s : State) (d : Nat) (x : Standing) : (s.setStanding d x).die.mirrorSync = s.die.mirrorSync := by
  unfold State.setStanding
  split
  · rfl
  · rfl

theorem State.mirrorSync_unboot (s : State) (d : Nat) : (s.unboot d).die.mirrorSync = s.die.mirrorSync := by
  unfold State.unboot
  split
  · rfl
  · rfl

theorem State.mirrorSync_loseSync (s : State) : s.loseSync.die.mirrorSync = false := by
  have hstrand (z : State) : z.strand.die.mirrorSync = z.die.mirrorSync := by
    unfold State.strand
    split
    · exact State.mirrorSync_setStanding ..
    · rfl
  unfold State.loseSync
  extract_lets other die mirror s1
  rw [hstrand]
  split
  · exact State.mirrorSync_setStanding ..
  · rfl

/-- The standby out of step and down: what a preparation begins and ends with (R440, R441). -/
def State.standbyDown (s : State) : State := (s.loseSync.setStanding (1 - s.activeDie) .off).unboot (1 - s.activeDie)

theorem State.standbyDown_down (s : State) : s.standbyDown.die.mirrorSync = false ∧ s.standbyDown.fw = s.fw ∧ s.standbyDown.stamp = s.stamp := by
  have hkeeps {β : Type} (g : State → β) (hdie : ∀ (z : State) d, g { z with die := d } = g z)
      (hmirror : ∀ (z : State) m, g { z with mirror := m } = g z) : g s.standbyDown = g s :=
    (State.unboot_keeps g hdie ..).trans ((State.setStanding_keeps g hdie ..).trans (State.loseSync_keeps g hdie hmirror s))
  refine ⟨?_, hkeeps State.fw (fun _ _ => rfl) (fun _ _ => rfl), hkeeps State.stamp (fun _ _ => rfl) (fun _ _ => rfl)⟩
  rw [State.standbyDown, State.mirrorSync_unboot, State.mirrorSync_setStanding, State.mirrorSync_loseSync]

/-- A start noted, with those of actions still armed (R440). -/
def State.startNoted (s : State) (i : Fin 1024) : State :=
  { s with fw := { s.fw with started := (i.val, s.aSfn i) :: s.fw.started.filter fun x => s.armed.contains x.1 && s.aSfn x.1 == x.2 } }

section Start
variable {s : State} {i : Fin 1024} (htype : s.aType i = ActType.FW_ACTIVATE) (harmed : i.val ∈ s.armed)
  (hlead : s.aSfn i ≤ s.sfn + (if s.aGroup i = 0 then s.nat Ent.PREPARE_LEAD else s.nat Ent.ACTION_ANNOUNCE_LEAD i))
  (hahead : s.sfn < s.aSfn i) (hfirst : (i.val, s.aSfn i) ∉ s.fw.started)
include htype harmed hlead hahead hfirst

/-- Within its lead an activation that has not started does so (R440). -/
theorem execPrepareStart_due : ¬((s.aType i != ActType.FW_ACTIVATE || !(s.armed.contains i.val) ||
    decide (s.aSfn i > s.sfn + (if s.aGroup i == 0 then s.nat Ent.PREPARE_LEAD else s.nat Ent.ACTION_ANNOUNCE_LEAD i)) ||
      decide (s.aSfn i ≤ s.sfn) || s.fw.started.contains (i.val, s.aSfn i)) = true) := by
  simp only [htype, List.contains_iff_mem, harmed, hfirst, beq_iff_eq, Bool.or_eq_true, bne_self_eq_false, Bool.false_eq_true, false_or,
    decide_eq_true_eq, not_or, Bool.not_eq_true', Bool.not_eq_false, gt_iff_lt, not_lt, not_le]
  exact ⟨⟨⟨trivial, hlead⟩, hahead⟩, not_false⟩

/-- A verified main image takes the standby out of step (R440). -/
theorem execPrepareStart_main (hslot : s.actSlot i < 2) (hstate : s.nat Ent.SLOT_STATE (s.actSlot i) = Img.VERIFIED)
    (hsync : s.die.mirrorSync = true) (hfree : s.fw.main = none) : execPrepareStart i s =
      .next { (s.startNoted i).standbyDown with
        fw := { (s.startNoted i).standbyDown.fw with main := some ⟨s.actSlot i, i, s.frames, false, false, false, false⟩ } }.showFw := by
  have hgood : decide (s.actSlot i < 4) = true := by simp; omega
  unfold execPrepareStart
  dsimp only
  rw [if_neg (execPrepareStart_due htype harmed hlead hahead hfirst), if_neg (by simp [hslot, hgood, hstate, hsync, hfree]),
    if_pos (by simpa using hslot)]
  rfl

/-- A verified legal image begins to load in both metering dies (R449). -/
theorem execPrepareStart_legal (hslot : 2 ≤ s.actSlot i) (hwithin : s.actSlot i < 4) (hstate : s.nat Ent.SLOT_STATE (s.actSlot i) = Img.VERIFIED)
    (hfree : s.fw.legal = none) (hstill : s.fw.stagger = none) : execPrepareStart i s =
      .next (State.showFw { s.startNoted i with
        fw := { (s.startNoted i).fw with legal := some ⟨s.actSlot i, i, s.frames, false, false, false, false⟩ } }) := by
  have hlegal : ¬ s.actSlot i < 2 := by omega
  unfold execPrepareStart
  dsimp only
  rw [if_neg (execPrepareStart_due htype harmed hlead hahead hfirst), if_neg (by simp [hlegal, hwithin, hstate, hfree, hstill]),
    if_neg (by simpa using hlegal)]
  rfl

theorem execPrepareStart_refused (hwithin : s.actSlot i < 4) (hstate : s.nat Ent.SLOT_STATE (s.actSlot i) ≠ Img.VERIFIED) :
    execPrepareStart i s = .next ((s.startNoted i).raise Evt.PREPARE_FAILED (s.actSlot i) 0 St.CONFLICT) := by
  unfold execPrepareStart
  dsimp only
  rw [if_neg (execPrepareStart_due htype harmed hlead hahead hfirst), if_pos (by simp [hstate]), if_pos hwithin]
  rfl

end Start

/-- FW_UPDATE_STATUS shown is beside the images, the pair and the log. -/
theorem State.showFw_leaves (s : State) : s.showFw.fw = s.fw ∧ s.showFw.die = s.die ∧ s.showFw.stamp = s.stamp :=
  ⟨State.showFw_keeps State.fw (fun _ _ => State.put_fw ..) s, State.showFw_keeps State.die (fun _ _ => State.put_die ..) s,
    State.showFw_keeps State.stamp (fun _ _ => State.put_stamp ..) s⟩

section Preparation
variable {s : State} {p : Prep}

/-- The conversion complete, the standby stands in step on the staged image (R441). -/
theorem execPrepareDone_done (hp : s.fw.main = some p) {r : Resync} (hr : s.die.resync = some r) (hphase : 3 ≤ r.phase) (hopen : p.done = false)
    (htime : s.frames ≤ p.since + 3000) :
    ∃ t, execPrepareDone s = .next t ∧ t.fw = { s.fw with main := some { p with done := true } } ∧ t.die.mirrorSync = true ∧
      t.die.resync = none ∧ s.raised t Evt.PREPARE_DONE p.slot (s.frames - p.since) (mfFormat (s.manifest p.slot)) := by
  have htimely : ¬((p.done || s.prepLate p || decide (r.phase < 3)) = true) := by
    simp [State.prepLate, hopen]
    omega
  unfold execPrepareDone
  rw [hp, hr]
  dsimp only
  rw [if_neg htimely]
  generalize hs1 : s.setStanding r.die .standby = s1
  have hfw : s1.fw = s.fw := hs1 ▸ State.setStanding_keeps State.fw (fun _ _ => rfl) s r.die .standby
  have hstamp : s1.stamp = s.stamp := hs1 ▸ State.setStanding_keeps State.stamp (fun _ _ => rfl) s r.die .standby
  generalize hs2 : (({ s1 with
    die := { s1.die with mirrorSync := true, resync := none, resyncFails := 0, frameMisses := 0, diverged := 0 }
    fw := { s1.fw with main := some { p with done := true } } } : State).holdFrame).consume = s2
  obtain ⟨hshown, hdie, hlog⟩ := s2.showFw_leaves
  refine ⟨_, rfl, ?_, ?_, ?_, State.raised_of_stamp (hlog.trans ?_) ..⟩
  · rw [State.fw_raise, hshown, ← hs2, ← hfw]
    rfl
  · rw [State.raise_die, hdie, ← hs2]
    rfl
  · rw [State.raise_die, hdie, ← hs2]
    rfl
  · rw [← hs2, ← hstamp]
    rfl

/-- A main preparation that fails leaves the standby down and out of step (R441). -/
theorem State.failPrep_fails (s : State) (p : Prep) (step status : Nat) : (s.failPrep p step status).fw = { s.fw with main := none } ∧
    (s.failPrep p step status).die.mirrorSync = false ∧ s.raised (s.failPrep p step status) Evt.PREPARE_FAILED p.slot step status := by
  obtain ⟨hsync, hfw, hstamp⟩ := s.standbyDown_down
  unfold State.failPrep
  rw [← State.standbyDown]
  dsimp only
  generalize hs2 : ({ s.standbyDown with
    die := { s.standbyDown.die with resync := none, resyncFails := 0 }
    fw := { s.standbyDown.fw with main := none } } : State) = s2
  obtain ⟨hshown, hdie, hlog⟩ := s2.showFw_leaves
  refine ⟨?_, ?_, State.raised_of_stamp (hlog.trans ?_) ..⟩
  · rw [State.fw_raise, hshown, ← hs2, ← hfw]
  · rw [State.raise_die, hdie, ← hs2]
    exact hsync
  · rw [← hs2, ← hstamp]
    rfl

theorem execPrepareFailed_main (hp : s.fw.main = some p) (hidle : s.fw.trial = none) (step : Fin 4) (status : Nat)
    (hstep : step.val = 1 ∨ step.val = 2) : execPrepareFailed step status s = .next (s.failPrep p step status) := by
  unfold execPrepareFailed
  obtain h | h := hstep
  · simp only [h, hp, hidle, Option.isSome_none, Bool.false_eq_true, if_false, ok]
  · simp only [h, hp, hidle, Option.isSome_none, Bool.false_eq_true, if_false, ok]

/-- A legal preparation that fails is over, with its event (R449). -/
theorem State.failLegal_fails (s : State) (p : Prep) (status : Nat) : (s.failLegal p status).fw = { s.fw with legal := none } ∧
    s.raised (s.failLegal p status) Evt.PREPARE_FAILED p.slot 3 status := by
  obtain ⟨hshown, -, hlog⟩ := State.showFw_leaves { s with fw := { s.fw with legal := none } }
  exact ⟨(State.fw_raise ..).trans hshown, State.raised_of_stamp (s := s) hlog ..⟩

theorem State.failLegal_free (s : State) (p : Prep) (status : Nat) : (s.failLegal p status).free = s.free := by
  rw [State.failLegal, State.raise_eq_ev]
  exact State.showFw_keeps State.free (fun _ _ => State.put_free ..) _

theorem execPrepareFailed_legal (hp : s.fw.legal = some p) (status : Nat) : execPrepareFailed 3 status s = .next (s.failLegal p status) := by
  simp only [execPrepareFailed, hp, ok]
  rfl

/-- A load that measures as declared is noted of its die; both make the preparation done (R449). -/
theorem execLegalImageLoadDone_loads (hp : s.fw.legal = some p) {die : Fin 2} {digest : List Byte}
    (h : measureOf [digest] = s.bytes Ent.SLOT_MEASUREMENT p.slot) : ∃ t, execLegalImageLoadDone die digest s = .next t ∧ t.ev = s.ev ∧
      (die.val = 0 → t.fw = { s.fw with legal := some { p with loaded0 := true, done := p.loaded1 } }) ∧
      (die.val = 1 → t.fw = { s.fw with legal := some { p with loaded1 := true, done := p.loaded0 } }) := by
  unfold execLegalImageLoadDone
  rw [hp]
  dsimp only
  rw [if_neg (by simp [h])]
  refine ⟨_, rfl, State.showFw_keeps State.ev (fun _ _ => State.put_ev ..) _, fun hdie => ?_, fun hdie => ?_⟩
  · rw [(State.showFw_leaves _).1, hdie]
    simp
  · rw [(State.showFw_leaves _).1, hdie]
    simp

theorem execLegalImageLoadDone_fails (hp : s.fw.legal = some p) (die : Fin 2) {digest : List Byte}
    (h : measureOf [digest] ≠ s.bytes Ent.SLOT_MEASUREMENT p.slot) : execLegalImageLoadDone die digest s =
      .next (s.takeFree.2.failLegal p (freeStatus s.takeFree.1)) := by
  unfold execLegalImageLoadDone
  rw [hp]
  exact if_pos (by simpa using h)

end Preparation

/-- A request the slots refuse answers with its status and keeps the images. -/
theorem State.slotRequest_keeps {s u : State} {c : Client} {e : Entry} {n st : Nat} {v : Val} {h : Held} {act : State → State × Nat}
    (ha : s.accepts c e n v h) (hact : act (s.taken h) = (u, st)) (hu : u.fw = (s.taken h).fw) :
    ∃ t, ok (s.clientCommand c e n v act) = .next t ∧ t.repliesWith h st ∧ t.fw = s.fw :=
  ⟨_, congrArg Host.Outcome.next (State.clientCommand_effect ha rfl hact), State.answerLater_repliesWith ..,
    (State.answerLater_fw ..).trans (hu.trans (s.taken_images h).1)⟩

section Requests
variable {s : State} {c : Client} {i : Nat} {h : Held}

theorem execSlotManifest_answers {v : List Byte} (ha : s.accepts c Ent.SLOT_MANIFEST i (.bytes v) h) {st : Nat} (hst : st = s.manifestStatus i v) :
    ∃ t, execSlotManifest c i v s = .next t ∧ t.repliesWith h st ∧ t.nat Ent.SLOT_RESULT i = st ∧ (st ≠ St.OK → t.fw = s.fw) ∧
      (st = St.OK → t.nat Ent.SLOT_STATE i = Img.RECEIVING ∧ t.fslot i = ⟨v, []⟩ ∧ t.nat Ent.SLOT_VERSION i = mfVersion v ∧
        t.nat Ent.SLOT_BLOCKS_OK i = 0 ∧ t.bytes Ent.SLOT_MEASUREMENT i = declared v) := by
  obtain ⟨hfw, -⟩ := s.taken_images h
  have htaken : (s.taken h).manifestStatus i v = st := (s.manifestStatus_taken h i v).trans hst.symm
  by_cases hok : st = St.OK
  · obtain ⟨u, hu, hresult, hstate, hslot, hversion, hblocks, hmeasure⟩ := applySlotManifest_received (htaken.trans hok)
    refine ⟨_, congrArg Host.Outcome.next (State.clientCommand_effect ha rfl hu), ?_, ?_, fun hno => absurd hok hno, fun _ =>
      ⟨?_, ?_, ?_, ?_, ?_⟩⟩
    · rw [hok]
      exact State.answerLater_repliesWith ..
    · rw [State.nat_answerLater, hresult, hok]
    · rw [State.nat_answerLater, hstate]
    · rw [State.fslot, State.answerLater_fw, ← State.fslot, hslot]
    · rw [State.nat_answerLater, hversion]
    · rw [State.nat_answerLater, hblocks]
    · rw [State.bytes_def, State.val_answerLater, ← State.bytes_def, hmeasure]
  · refine ⟨_, congrArg Host.Outcome.next (State.clientCommand_effect ha rfl (applySlotManifest_refused (by rwa [htaken]))), ?_, ?_, fun _ =>
      (State.answerLater_fw ..).trans ((State.put_fw ..).trans hfw), fun hyes => absurd hyes hok⟩
    · rw [htaken]
      exact State.answerLater_repliesWith ..
    · rw [State.nat_answerLater, State.nat_setNat_same, htaken]

section Block
variable {v : List Byte} (ha : s.accepts c Ent.SLOT_BLOCK i (.bytes v) h) (hstate : s.nat Ent.SLOT_STATE i = Img.RECEIVING)
  (hlong : 2 ≤ v.length) (hblock : leAt v 0 2 < mfBlocks (s.manifest i)) (hlen : (v.drop 2).length = mfBlockLen (s.manifest i) (leAt v 0 2))
include ha hstate hlong hblock hlen

theorem execSlotBlock_otherDigest (hdigest : sha256 (v.drop 2) ≠ mfBlockHash (s.manifest i) (leAt v 0 2)) :
    ∃ t, execSlotBlock c i v s = .next t ∧ t.repliesWith h St.RANGE ∧ t.fw = s.fw ∧ s.raised t Evt.IMAGE_REFUSED i St.RANGE (leAt v 0 2) := by
  obtain ⟨hfw, hstamp, hslot, hshown⟩ := s.taken_images h
  have hmanifest : (s.taken h).manifest i = s.manifest i := congrArg FwSlot.manifest (hslot i)
  have hact := applySlotBlock_within ((hshown i).trans hstate) hlong (hmanifest ▸ hblock) (hmanifest ▸ hlen)
  rw [hmanifest, if_pos (by simpa using hdigest)] at hact
  refine ⟨_, congrArg Host.Outcome.next (State.clientCommand_effect ha rfl hact), State.answerLater_repliesWith .., ?_,
    State.raised_answerLater (State.raised_of_stamp ((State.put_stamp ..).trans hstamp) ..) ..⟩
  rw [State.answerLater_fw, State.fw_raise, State.setNat_eq, State.put_fw, hfw]

variable (hdigest : sha256 (v.drop 2) = mfBlockHash (s.manifest i) (leAt v 0 2))
include hdigest

theorem execSlotBlock_again (hagain : (Tab.find (s.fslot i).blocks (leAt v 0 2)).isSome = true) :
    ∃ t, execSlotBlock c i v s = .next t ∧ t.repliesWith h St.OK ∧ t.fw = s.fw := by
  obtain ⟨-, -, hslot, hshown⟩ := s.taken_images h
  have hmanifest : (s.taken h).manifest i = s.manifest i := congrArg FwSlot.manifest (hslot i)
  have hact := applySlotBlock_within ((hshown i).trans hstate) hlong (hmanifest ▸ hblock) (hmanifest ▸ hlen)
  rw [hmanifest, hslot, if_neg (by simp [hdigest]), if_pos hagain] at hact
  exact State.slotRequest_keeps ha hact (State.put_fw ..)

variable (hnew : Tab.find (s.fslot i).blocks (leAt v 0 2) = none) {bs : Tab (List Byte)} (hbs : bs = Tab.set (s.fslot i).blocks (leAt v 0 2) (v.drop 2))
include hnew hbs

/-- A new block is stored; the last one ends the image (R438). -/
theorem execSlotBlock_new : execSlotBlock c i v s = .next (State.answerLater
    (if bs.length == mfBlocks (s.manifest i) then ((s.taken h).blockStored i bs).finishImage i else (s.taken h).blockStored i bs) h St.OK []) := by
  obtain ⟨-, -, hslot, hshown⟩ := s.taken_images h
  have hmanifest : (s.taken h).manifest i = s.manifest i := congrArg FwSlot.manifest (hslot i)
  have hact := applySlotBlock_within ((hshown i).trans hstate) hlong (hmanifest ▸ hblock) (hmanifest ▸ hlen)
  rw [hmanifest, hslot, if_neg (by simp [hdigest]), if_neg (by simp [hnew]), ← hbs] at hact
  exact congrArg Host.Outcome.next (State.clientCommand_effect ha rfl hact)

end Block
end Requests

/-- Settles O53: each request of a slot by what it meets, and each end of a preparation. -/
theorem imagesAreReceivedAndPrepared : Obligations.ImagesAreReceivedAndPrepared := by
  unfold Obligations.ImagesAreReceivedAndPrepared
  intro s
  refine ⟨fun c i v h ha _ => execSlotManifest_answers ha rfl, ?_, ?_, ?_, ?_, ?_⟩
  · intro c i v h ha hi k m
    obtain ⟨hfw, hstamp, hslot, hshown⟩ := s.taken_images h
    have hmanifest : (s.taken h).manifest i = s.manifest i := congrArg FwSlot.manifest (hslot i)
    refine ⟨fun hstate => ?_, fun hstate hout => ?_, fun hstate hlong hblock hlen => ⟨execSlotBlock_otherDigest ha hstate hlong hblock hlen,
      execSlotBlock_again ha hstate hlong hblock hlen, ?_⟩⟩
    · exact State.slotRequest_keeps ha (applySlotBlock_unasked (by rwa [hshown])) (State.put_fw ..)
    · exact State.slotRequest_keeps ha (applySlotBlock_outside (by rwa [hshown]) (by rwa [hmanifest])) (State.put_fw ..)
    · intro hdigest hnew bs image
      obtain ⟨hstored, hcount, hlog⟩ := State.blockStored_stores (s.taken h) i bs
      rw [hmanifest] at hstored
      have hexec := execSlotBlock_new ha hstate hlong hblock hlen hdigest hnew (bs := bs) rfl
      have hslot' (z : State) : (z.answerLater h St.OK []).fslot i = z.fslot i := by rw [State.fslot, State.answerLater_fw, State.fslot]
      refine ⟨fun hpart => ?_, fun hlast hgood => ?_, fun hlast hbad => ?_⟩
      · rw [if_neg (by simpa using hpart)] at hexec
        exact ⟨_, hexec, State.answerLater_repliesWith .., (hslot' _).trans hstored, (State.nat_answerLater ..).trans hcount⟩
      · rw [if_pos (by simpa using hlast)] at hexec
        obtain ⟨hkept, hverified, hraised⟩ := State.finishImage_verified hstored hgood
        exact ⟨_, hexec, State.answerLater_repliesWith .., (hslot' _).trans hkept, (State.nat_answerLater ..).trans hverified,
          State.raised_answerLater (hraised.trans (State.raised_of_stamp (hlog.trans hstamp) ..)) ..⟩
      · rw [if_pos (by simpa using hlast)] at hexec
        obtain ⟨hkept, hempty, hraised⟩ := State.finishImage_refused hstored hbad
        exact ⟨_, hexec, State.answerLater_repliesWith .., (hslot' _).trans hkept, (State.nat_answerLater ..).trans hempty,
          State.raised_answerLater (hraised.trans (State.raised_of_stamp (hlog.trans hstamp) ..)) ..⟩
  · intro c i v h ha hi
    obtain ⟨-, -, -, hshown⟩ := s.taken_images h
    refine ⟨fun hempty => State.slotRequest_keeps ha (applySlotErase_empty (by rwa [hshown])) rfl, fun hheld => ?_, fun huse =>
      State.slotRequest_keeps ha (applySlotErase_inUse (by rwa [hshown])) rfl⟩
    obtain ⟨hstate, -, hslot⟩ := (s.taken h).emptySlot_empties i
    refine ⟨_, congrArg Host.Outcome.next (State.clientCommand_effect ha rfl (applySlotErase_erases (by rwa [hshown]))),
      State.answerLater_repliesWith .., ?_, ?_⟩
    · rw [State.nat_answerLater, State.setNat_eq, State.nat_put_sub _ (by decide), hstate]
    · rw [State.fslot, State.answerLater_fw, State.setNat_eq, State.put_fw, ← State.fslot, hslot]
  · intro i htype harmed hlead hahead hfirst p
    have hnoted : (i.val, s.aSfn i) ∈ (s.startNoted i).fw.started := List.mem_cons_self
    refine ⟨fun hslot hstate hsync hfree => ?_, fun hslot hwithin hstate hfree hstill => ?_, fun hwithin hstate => ?_⟩
    · obtain ⟨hdown, hfw, hstamp⟩ := (s.startNoted i).standbyDown_down
      refine ⟨_, execPrepareStart_main htype harmed hlead hahead hfirst hslot hstate hsync hfree, ?_⟩
      obtain ⟨hshown, hdie, hlog⟩ := State.showFw_leaves
        { (s.startNoted i).standbyDown with fw := { (s.startNoted i).standbyDown.fw with main := some p } }
      refine ⟨?_, ?_, ?_, ?_⟩
      · rw [hshown, hfw]
        rfl
      · rw [hshown, hfw]
        exact hnoted
      · rw [hdie]
        exact hdown
      · exact (congrArg Prod.fst hlog).trans (congrArg Prod.fst hstamp)
    · refine ⟨_, execPrepareStart_legal htype harmed hlead hahead hfirst hslot hwithin hstate hfree hstill, ?_⟩
      obtain ⟨hshown, hdie, hlog⟩ := State.showFw_leaves { s.startNoted i with fw := { (s.startNoted i).fw with legal := some p } }
      refine ⟨?_, ?_, ?_, ?_⟩
      · rw [hshown]
        rfl
      · rw [hshown]
        exact hnoted
      · exact hdie
      · exact congrArg Prod.fst hlog
    · refine ⟨_, execPrepareStart_refused htype harmed hlead hahead hfirst hwithin hstate,
        State.raised_of_stamp (s := s) (z := s.startNoted i) rfl .., ?_, ?_⟩
      · rw [State.fw_raise]
        exact hnoted
      · rw [State.raise_eq_ev]
        rfl
  · exact fun p hp => ⟨fun r hr hphase hopen htime => execPrepareDone_done hp hr hphase hopen htime, fun step status hidle hstep =>
      ⟨_, execPrepareFailed_main hp hidle step status hstep, s.failPrep_fails p step status⟩⟩
  · refine fun p hp => ⟨fun status => ⟨_, execPrepareFailed_legal hp status, s.failLegal_fails p status⟩, fun die digest =>
      ⟨execLegalImageLoadDone_loads hp, fun hother => ?_⟩⟩
    obtain ⟨hfw, -⟩ := s.takeFree.2.failLegal_fails p (freeStatus s.takeFree.1)
    exact ⟨_, execLegalImageLoadDone_fails hp die hother, hfw, State.failLegal_free ..⟩

end Sys2Proof.Machine
end

section
/-!
PROOFS. Trials end and images run (O54): confirmation, fallback and the time of a trial, the boot from RECOVERY, and the change of the
metering dies (R445, R448, R450).
-/
namespace Sys2Proof.Machine
open Sys2Proof

/-! ### A slot emptied with no wrapping under way -/

/-- With no wrapping under way an emptied slot is only cleared. -/
theorem State.emptySlot_settled {s : State} (hfw : s.fw.wrapping = none) (hkeys : s.keys.rewrap = none) (i : Nat) :
    s.emptySlot i = s.clearSlot i := by
  rw [State.emptySlot_eq, State.dropWrapping, if_neg (by simp [hfw, hkeys])]

theorem State.nat_clearSlot (s : State) (i : Nat) {e : Entry} {n : Nat} (h : e.key n 0 ≠ Ent.SLOT_STATE.key i 0 ∧
    e.key n 0 ≠ Ent.SLOT_VERSION.key i 0 ∧ e.key n 0 ≠ Ent.SLOT_BLOCKS_OK.key i 0 ∧ e.key n 0 ≠ Ent.SLOT_MEASUREMENT.key i 0) :
    (s.clearSlot i).nat e n = s.nat e n := by
  obtain ⟨hstate, hversion, hblocks, hmeasurement⟩ := h
  exact (State.nat_put_ne _ _ hmeasurement).trans ((State.nat_put_ne _ _ hblocks).trans ((State.nat_put_ne _ _ hversion).trans
    (State.nat_put_ne _ _ hstate)))

/-- The values of the firmware stand below those of its slots. -/
theorem State.nat_clearSlot_low (s : State) (i : Nat) {e : Entry} (h : e.sub < 256 ∧ e.base < 0xD010) : (s.clearSlot i).nat e = s.nat e :=
  have hlow {f : Entry} (hf : f.base = 0xD010) : e.key 0 0 ≠ f.key i 0 := by
    rw [Entry.key, Entry.key, hf]
    omega
  s.nat_clearSlot i ⟨hlow rfl, hlow rfl, hlow rfl, hlow rfl⟩

theorem Entry.key_ne_of_instance {e : Entry} {n m : Nat} (h : n ≠ m) : e.key n 0 ≠ e.key m 0 := by
  rw [Entry.key, Entry.key]
  omega

theorem State.nat_clearSlot_other (s : State) {i n : Nat} (h : n ≠ i) : (s.clearSlot i).nat Ent.SLOT_STATE n = s.nat Ent.SLOT_STATE n :=
  s.nat_clearSlot i ⟨Entry.key_ne_of_instance h, Entry.key_ne_of_sub (by decide) _ _, Entry.key_ne_of_sub (by decide) _ _,
    Entry.key_ne_of_sub (by decide) _ _⟩

/-! ### The end of a trial -/

/-- A trial closed is over in its frame, and no wrapping is under way (R445, R423). -/
theorem State.closeTrial_ends (s : State) (t : Trial) (die : Nat) (confirmed : Bool) :
    (s.closeTrial t die confirmed).fw.trial = none ∧ (s.closeTrial t die confirmed).fw.ended = some s.frames ∧
      (s.closeTrial t die confirmed).fw.wrapping = none ∧ (s.closeTrial t die confirmed).keys.rewrap = none ∧
      (s.closeTrial t die confirmed).stamp = s.stamp := by
  unfold State.closeTrial
  dsimp only
  generalize hs1 : (if s.standing die == .failed then s else s.setStanding die .off).unboot die = s1
  have h1 : s1.stamp = s.stamp := by
    rw [← hs1, State.unboot_keeps State.stamp (fun _ _ => rfl)]
    split
    · rfl
    · exact State.setStanding_keeps State.stamp (fun _ _ => rfl) ..
  generalize hs2 : ({ s1 with
    fw := { s1.fw with trial := none, main := none, ended := some s.frames, confirming := confirmed
                       format := if confirmed then mfFormat (s.manifest t.slot) else s1.fw.format }
    die := { s1.die with mirrorSync := false, resync := none, resyncFails := 0 } } : State) = s2
  obtain ⟨l, hrest⟩ := State.endRewrap_forgets (fun z => (z.fw, z.keys, z.stamp))
    (fun z e n v => by simp only [State.put_fw, State.put_keys, State.put_stamp]) s2 confirmed
  simp only [Prod.mk.injEq] at hrest
  obtain ⟨hfw, hkeys, hstamp⟩ := hrest
  refine ⟨?_, ?_, ?_, ?_, ?_⟩
  · rw [State.setNat_eq, State.put_fw, hfw, ← hs2]
  · rw [State.setNat_eq, State.put_fw, hfw, ← hs2]
  · rw [State.setNat_eq, State.put_fw, hfw]
  · rw [State.setNat_eq, State.put_keys, hkeys]
  · rw [State.setNat_eq, State.put_stamp, hstamp, ← hs2]
    exact h1

/-- FW_UPDATE_STATUS shown stands below the slots' values and beside the other ones of the firmware. -/
theorem State.nat_showFw (s : State) {e : Entry} {n : Nat} (he : e.sub < 256 ∧ (e.sub ≠ 1 ∨ 0xD000 < e.base)) : s.showFw.nat e n = s.nat e n := by
  refine State.showFw_keeps (fun y => y.nat e n) (fun y v => State.nat_put_ne _ _ ?_) s
  rw [Entry.key, Entry.key]
  simp only [Ent.FW_UPDATE_STATUS]
  omega

/-- A trial confirmed: its slot runs and the old one is emptied (R445, Table 19-2). -/
theorem State.confirmTrial_runs (s : State) {t : Trial} (hne : t.slot ≠ t.old) (cause : Nat) :
    (s.confirmTrial t cause).fw.trial = none ∧ (s.confirmTrial t cause).fw.ended = some s.frames ∧
      (s.confirmTrial t cause).nat Ent.RUNNING_SLOT = t.slot ∧ (s.confirmTrial t cause).nat Ent.SLOT_STATE t.slot = Img.RUNNING ∧
      (s.confirmTrial t cause).nat Ent.SLOT_STATE t.old = Img.EMPTY ∧
      s.raised (s.confirmTrial t cause) Evt.FW_CONFIRMED t.slot (mfVersion (s.manifest t.slot)) cause := by
  obtain ⟨htrial, hended, hwrapping, hrewrap, hstamp⟩ := s.closeTrial_ends t (1 - t.die) true
  unfold State.confirmTrial
  dsimp only
  generalize s.closeTrial t (1 - t.die) true = s1 at htrial hended hwrapping hrewrap hstamp ⊢
  generalize hz : (s1.setNat Ent.SLOT_STATE t.slot Img.RUNNING).setNat Ent.RUNNING_SLOT 0 t.slot = z
  have hzfw : z.fw = s1.fw := hz ▸ (State.put_fw ..).trans (State.put_fw ..)
  have hzkeys : z.keys = s1.keys := hz ▸ (State.put_keys ..).trans (State.put_keys ..)
  have hzstamp : z.stamp = s1.stamp := hz ▸ (State.put_stamp ..).trans (State.put_stamp ..)
  have hzrunning : z.nat Ent.RUNNING_SLOT = t.slot := hz ▸ State.nat_setNat_same ..
  have hzstate : z.nat Ent.SLOT_STATE t.slot = Img.RUNNING :=
    hz ▸ (State.nat_put_sub _ (by decide) _ _ _).trans (State.nat_setNat_same ..)
  obtain ⟨hempty, -⟩ := z.emptySlot_empties t.old
  rw [State.emptySlot_settled ((congrArg FwSt.wrapping hzfw).trans hwrapping) ((congrArg KeySt.rewrap hzkeys).trans hrewrap)] at hempty ⊢
  have hrunning := (z.nat_clearSlot_low t.old (e := Ent.RUNNING_SLOT) (by decide)).trans hzrunning
  have hstate := (z.nat_clearSlot_other hne).trans hzstate
  have hfw := z.clearSlot_fw t.old
  have hlog := (z.clearSlot_stamp t.old).trans (hzstamp.trans hstamp)
  generalize z.clearSlot t.old = s2 at hempty hrunning hstate hfw hlog ⊢
  generalize hs3 : State.setNat { s2 with fw := { s2.fw with rollMain := max s2.fw.rollMain (mfRollback (s2.manifest t.slot)) } }
    Ent.ROLLBACK_MAIN 0 (max s2.fw.rollMain (mfRollback (s2.manifest t.slot))) = s3
  have h3fw : s3.fw = { s2.fw with rollMain := max s2.fw.rollMain (mfRollback (s2.manifest t.slot)) } := hs3 ▸ State.put_fw ..
  have h3nat {e : Entry} {n : Nat} (he : e.sub < 256 ∧ e.sub ≠ 5) : s3.nat e n = s2.nat e n :=
    hs3 ▸ State.nat_put_sub _ ⟨he.1, by decide, he.2⟩ _ _ _
  have h3stamp : s3.stamp = s2.stamp := hs3 ▸ State.put_stamp ..
  obtain ⟨hshown, -, hshownLog⟩ := s3.showFw_leaves
  refine ⟨?_, ?_, ?_, ?_, ?_, State.raised_of_stamp (hshownLog.trans (h3stamp.trans hlog)) ..⟩
  · rw [State.fw_raise, hshown, h3fw, hfw, hzfw, htrial]
  · rw [State.fw_raise, hshown, h3fw, hfw, hzfw, hended]
  · rw [State.nat_raise, s3.nat_showFw (by decide), h3nat (by decide), hrunning]
  · rw [State.nat_raise, s3.nat_showFw (by decide), h3nat (by decide), hstate]
  · rw [State.nat_raise, s3.nat_showFw (by decide), h3nat (by decide), hempty]

/-! ### What a request meets -/

theorem State.trialStatus_none {s : State} (h : s.fw.trial = none) :
    s.trialStatus = if s.fw.ended = some s.frames then St.ALREADY_DONE else St.CONFLICT := by
  simp only [State.trialStatus, h, beq_iff_eq]

theorem State.trialStatus_some {s : State} {x : Trial} (h : s.fw.trial = some x) :
    s.trialStatus = if x.back.isSome then St.ALREADY_DONE else St.OK := by
  simp only [State.trialStatus, h]

section Requests
variable {s : State}

theorem applyFwConfirm_without (h : s.fw.trial = none) :
    applyFwConfirm s = (s, if s.fw.ended = some s.frames then St.ALREADY_DONE else St.CONFLICT) := by
  simp only [applyFwConfirm, h, State.trialStatus_none h]

theorem applyFwFallback_without (h : s.fw.trial = none) :
    applyFwFallback s = (s, if s.fw.ended = some s.frames then St.ALREADY_DONE else St.CONFLICT) := by
  simp only [applyFwFallback, h, State.trialStatus_none h]

variable {x : Trial} (h : s.fw.trial = some x)
include h

theorem applyFwConfirm_back (hback : x.back.isSome = true) : applyFwConfirm s = (s, St.ALREADY_DONE) := by
  simp only [applyFwConfirm, h, State.trialStatus_some h, hback, if_true]
  rfl

theorem applyFwConfirm_confirms (hback : x.back = none) : applyFwConfirm s = (s.confirmTrial x 0, St.OK) := by
  simp only [applyFwConfirm, h, State.trialStatus_some h, hback]
  rfl

theorem applyFwFallback_back (hback : x.back.isSome = true) : applyFwFallback s = (s, St.ALREADY_DONE) := by
  simp only [applyFwFallback, h, State.trialStatus_some h, hback, if_true]
  rfl

theorem applyFwFallback_alone (hback : x.back = none) (hsync : s.die.mirrorSync = false) : applyFwFallback s = (s, St.CONFLICT) := by
  simp only [applyFwFallback, h, State.trialStatus_some h, hback, hsync]
  rfl

theorem applyFwFallback_due (hback : x.back = none) (hsync : s.die.mirrorSync = true) :
    applyFwFallback s = ({ s with fw := { s.fw with trial := some { x with back := some 0 } } }, St.OK) := by
  simp only [applyFwFallback, h, State.trialStatus_some h, hback, hsync]
  rfl

theorem execTrialTimeExpiry_back (hback : x.back = none) (hleft : x.left = 0) (hpolicy : s.nat Ent.TRIAL_POLICY ≠ 1) :
    execTrialTimeExpiry s = .next { s with fw := { s.fw with trial := some { x with back := some 2 } } } := by
  simp [execTrialTimeExpiry, h, hback, hleft, hpolicy, ok]

theorem execTrialTimeExpiry_confirms (hback : x.back = none) (hleft : x.left = 0) (hpolicy : s.nat Ent.TRIAL_POLICY = 1) :
    execTrialTimeExpiry s = .next (s.confirmTrial x 1) := by
  simp [execTrialTimeExpiry, h, hback, hleft, hpolicy, ok]

end Requests

/-! ### The boot from RECOVERY -/

/-- A slot is the running one, with the version and the format of a manifest and without a trial (R448). -/
def State.boots (s : State) (v : Nat) (m : List Byte) : Prop :=
  s.nat Ent.RUNNING_SLOT = v ∧ s.nat Ent.SLOT_STATE v = Img.RUNNING ∧ s.nat Ent.FW_MAIN_VERSION = mfVersion m ∧ s.fw.format = mfFormat m ∧
    s.fw.trial = none

theorem State.boots_setState {s : State} {v i : Nat} {m : List Byte} (h : s.boots v m) (hne : v ≠ i) (x : Nat) :
    (s.setNat Ent.SLOT_STATE i x).boots v m := by
  obtain ⟨hrunning, hstate, hversion, hformat, htrial⟩ := h
  refine ⟨?_, ?_, ?_, ?_, ?_⟩
  · exact (State.nat_put_sub _ (by decide) _ _ _).trans hrunning
  · exact (State.nat_put_ne _ _ (Entry.key_ne_of_instance hne)).trans hstate
  · exact (State.nat_put_sub _ (by decide) _ _ _).trans hversion
  · exact (congrArg FwSt.format (State.put_fw ..)).trans hformat
  · exact (congrArg FwSt.trial (State.put_fw ..)).trans htrial

theorem State.boots_clearSlot {s : State} {v i : Nat} {m : List Byte} (h : s.boots v m) (hne : v ≠ i) : (s.clearSlot i).boots v m := by
  obtain ⟨hrunning, hstate, hversion, hformat, htrial⟩ := h
  refine ⟨?_, ?_, ?_, ?_, ?_⟩
  · exact (s.nat_clearSlot_low i (e := Ent.RUNNING_SLOT) (by decide)).trans hrunning
  · exact (s.nat_clearSlot_other hne).trans hstate
  · exact (s.nat_clearSlot_low i (e := Ent.FW_MAIN_VERSION) (by decide)).trans hversion
  · rw [State.clearSlot_fw, hformat]
  · rw [State.clearSlot_fw, htrial]

/-- The restart of the control dies keeps the slot that runs. -/
theorem State.boots_restartBoth {s : State} {v : Nat} {m : List Byte} (h : s.boots v m) (cause : Nat) : (s.restartBoth cause).boots v m := by
  obtain ⟨hrunning, hstate, hversion, hformat, htrial⟩ := h
  unfold State.restartBoth
  extract_lets die fw plant s1
  obtain ⟨c, w, e, heq⟩ := s1.setDevice_eq Dev.START
  have hfw : (s1.setDevice Dev.START).fw = s1.fw := heq ▸ rfl
  have hnat {f : Entry} {n : Nat} (hf : f.key n 0 ≠ Ent.DEVICE_STATE.key 0 0 ∧ f.key n 0 ≠ Ent.DEVICE_STATUS.key 0 0) :
      (s1.setDevice Dev.START).nat f n = s.nat f n := State.nat_congr (s1.val_setDevice Dev.START hf)
  refine ⟨?_, ?_, ?_, ?_, ?_⟩
  · exact (hnat (by decide)).trans hrunning
  · exact (hnat ⟨Entry.key_ne_of_base (by decide), Entry.key_ne_of_base (by decide)⟩).trans hstate
  · exact (hnat (by decide)).trans hversion
  · rw [hfw]
    exact hformat
  · rw [hfw]
    exact htrial

section Boot
variable {s : State} {v : Nat}

theorem applyRecoveryBoot_refused (hv : v < 2) (h : s.inRecovery = false ∨ s.nat Ent.SLOT_STATE v ≠ Img.VERIFIED) :
    applyRecoveryBoot v s = (s, St.CONFLICT) := by
  unfold applyRecoveryBoot
  rw [if_neg (by omega), if_pos]
  simpa [State.inRecovery, State.devState, Bool.or_eq_true, imp_iff_not_or] using h

theorem applyRecoveryBoot_boots (hv : v < 2) (hin : s.inRecovery = true) (hstate : s.nat Ent.SLOT_STATE v = Img.VERIFIED) :
    ∃ y : State, y.boots v (s.manifest v) ∧ applyRecoveryBoot v s = (y.restartBoth 4, St.OK) := by
  obtain ⟨l, hrest⟩ := State.endRewrap_forgets (fun z => (z.fw, z.keys)) (fun z e n x => by simp only [State.put_fw, State.put_keys]) s
    (s.keys.rewrap == some (declared (s.manifest v)))
  simp only [Prod.mk.injEq] at hrest
  obtain ⟨-, hkeys⟩ := hrest
  unfold applyRecoveryBoot
  rw [if_neg (by omega), if_neg (by simpa [State.inRecovery, State.devState, hstate, or_iff_not_imp_left] using hin)]
  dsimp only
  generalize hs2 : ((((State.setNat _ Ent.ROLLBACK_MAIN 0 _).setNat Ent.SLOT_STATE v Img.RUNNING).setNat Ent.RUNNING_SLOT 0 v).setNat
    Ent.FW_MAIN_VERSION 0 (mfVersion (s.manifest v))) = s2
  have hboots : s2.boots v (s.manifest v) := by
    rw [← hs2]
    refine ⟨?_, ?_, State.nat_setNat_same .., ?_, ?_⟩
    · exact (State.nat_put_sub _ (by decide) _ _ _).trans (State.nat_setNat_same ..)
    · exact (State.nat_put_sub _ (by decide) _ _ _).trans ((State.nat_put_sub _ (by decide) _ _ _).trans (State.nat_setNat_same ..))
    · simp only [State.setNat_eq, State.put_fw]
    · simp only [State.setNat_eq, State.put_fw]
  have hwrapping : s2.fw.wrapping = none := by
    rw [← hs2]
    simp only [State.setNat_eq, State.put_fw]
  have hrewrap : s2.keys.rewrap = none := by
    rw [← hs2]
    simp only [State.setNat_eq, State.put_keys, hkeys]
  clear hs2
  have hplant (y : State) (p : PlantSt) (hy : y.boots v (s.manifest v)) : State.boots { y with plant := p } v (s.manifest v) := hy
  refine ⟨_, hplant _ _ ?_, rfl⟩
  split
  · exact hboots
  · next hold =>
    have hne : v ≠ s.nat Ent.RUNNING_SLOT := fun h => hold (by simp [h])
    split
    · exact State.boots_setState hboots hne _
    · rw [State.emptySlot_settled hwrapping hrewrap]
      exact State.boots_clearSlot hboots hne

end Boot

/-! ### The change of the metering dies -/

/-- The images and the stagger are no part of a certificate or of the legal log. -/
theorem LegalBlind.fw : LegalBlind State.fw fun _ => True where
  put _ _ _ _ _ _ _ := State.put_fw ..
  event _ _ := rfl
  free _ _ := rfl
  stream _ _ := rfl
  legal _ _ _ _ := rfl

theorem State.issueCert_fw (s : State) (k : Nat) : (s.issueCert k).fw = s.fw := by
  unfold State.issueCert
  extract_lets pub subject body e
  split
  · rfl
  · rw [State.fw_raise, State.setBytes_eq, State.put_fw]

theorem State.changeBank_fw (s : State) (slot : Nat) : (s.changeBank 0 slot).fw = { s.fw with bank0 := slot } := by
  unfold State.changeBank
  dsimp only
  rw [State.fw_raise, State.legalLog_blind LegalBlind.fw fun _ _ => trivial, State.when_keeps _ _ _ State.fw fun z => z.issueCert_fw _]
  rw [if_pos (by decide), State.setNat_eq, State.put_fw, State.setBytes_eq, State.put_fw]

/-- At the stagger's end M0 changes and the legal slot is the running one (R450). -/
theorem execLegalActivationM0_changes {s : State} {g : Stagger} (hg : s.fw.stagger = some g) (hcycle : s.cycle = 0) (htill : g.till ≤ s.sfn)
    (hne : g.slot ≠ g.old) : ∃ t, execLegalActivationM0 s = .next t ∧ t.fw.stagger = none ∧ t.fw.bank0 = g.slot ∧
      t.nat Ent.RUNNING_LEGAL_SLOT = g.slot ∧ t.nat Ent.FW_LEGAL_VERSION = mfVersion (s.manifest g.slot) ∧
      t.nat Ent.SLOT_STATE g.slot = Img.RUNNING ∧ t.nat Ent.SLOT_STATE g.old = Img.VERIFIED := by
  have hbank := s.changeBank_fw g.slot
  unfold execLegalActivationM0
  rw [hg]
  dsimp only
  rw [if_neg (by simp [hcycle, htill])]
  generalize s.changeBank 0 g.slot = s0 at hbank ⊢
  generalize hs1 : s0.setNat Ent.FW_LEGAL_VERSION 0 (mfVersion (s.manifest g.slot)) = s1
  have h1 : s1.fw = s0.fw ∧ s1.nat Ent.FW_LEGAL_VERSION = mfVersion (s.manifest g.slot) := hs1 ▸ ⟨State.put_fw .., State.nat_setNat_same ..⟩
  obtain ⟨hfw, hversion⟩ := h1
  generalize hs2 : State.setNat { s1 with fw := { s1.fw with stagger := none, rollLegal := max s.fw.rollLegal (mfRollback (s.manifest g.slot)) } }
    Ent.ROLLBACK_LEGAL 0 (max s.fw.rollLegal (mfRollback (s.manifest g.slot))) = s2
  have h2 : s2.fw.stagger = none ∧ s2.fw.bank0 = g.slot ∧ s2.nat Ent.FW_LEGAL_VERSION = mfVersion (s.manifest g.slot) := by
    rw [← hs2]
    refine ⟨?_, ?_, (State.nat_put_sub _ (by decide) _ _ _).trans hversion⟩
    · rw [State.setNat_eq, State.put_fw]
    · rw [State.setNat_eq, State.put_fw, hfw, hbank]
  obtain ⟨hstagger, hbank0, hversion2⟩ := h2
  generalize hs3 : ((s2.setNat Ent.SLOT_STATE g.slot Img.RUNNING).setNat Ent.SLOT_STATE g.old Img.VERIFIED).setNat Ent.RUNNING_LEGAL_SLOT 0 g.slot
    = s3
  have h3fw : s3.fw = s2.fw := hs3 ▸ (State.put_fw ..).trans ((State.put_fw ..).trans (State.put_fw ..))
  have h3version : s3.nat Ent.FW_LEGAL_VERSION = s2.nat Ent.FW_LEGAL_VERSION := hs3 ▸ (State.nat_put_sub _ (by decide) _ _ _).trans
    ((State.nat_put_sub _ (by decide) _ _ _).trans (State.nat_put_sub _ (by decide) _ _ _))
  have h3running : s3.nat Ent.RUNNING_LEGAL_SLOT = g.slot := hs3 ▸ State.nat_setNat_same ..
  have h3slot : s3.nat Ent.SLOT_STATE g.slot = Img.RUNNING := hs3 ▸ (State.nat_put_sub _ (by decide) _ _ _).trans
    ((State.nat_put_ne _ _ (Entry.key_ne_of_instance hne)).trans (State.nat_setNat_same ..))
  have h3old : s3.nat Ent.SLOT_STATE g.old = Img.VERIFIED := hs3 ▸ (State.nat_put_sub _ (by decide) _ _ _).trans (State.nat_setNat_same ..)
  obtain ⟨hshown, -, -⟩ := s3.showFw_leaves
  refine ⟨_, rfl, ?_, ?_, ?_, ?_, ?_, ?_⟩
  · rw [hshown, h3fw, hstagger]
  · rw [hshown, h3fw, hbank0]
  · rw [s3.nat_showFw (by decide), h3running]
  · rw [s3.nat_showFw (by decide), h3version, hversion2]
  · rw [s3.nat_showFw (by decide), h3slot]
  · rw [s3.nat_showFw (by decide), h3old]

/-- Settles O54: both requests by the trial they meet, the trial's time by its policy, the boot and the change of M0. -/
theorem trialsEndAndImagesRun : Obligations.TrialsEndAndImagesRun := by
  unfold Obligations.TrialsEndAndImagesRun
  intro s
  have hfw (h : Held) : (s.taken h).fw = s.fw := (s.taken_images h).1
  have hframes (h : Held) : (s.taken h).frames = s.frames := State.taken_keeps State.frames (fun _ _ _ _ => rfl) s h
  have hdie (h : Held) : (s.taken h).die = s.die := State.taken_keeps State.die (fun _ _ _ _ => rfl) s h
  refine ⟨fun c v h ha => ⟨fun hidle => ?_, fun x hx => ⟨fun hback => ?_, fun hback hslot hold hne => ?_⟩⟩,
    fun c v h ha => ⟨fun hidle => ?_, fun x hx => ⟨fun hback => ?_, fun hback hsync => ?_, fun hback hsync => ?_⟩⟩,
    fun x hx hback hleft => ⟨fun hpolicy => ⟨_, execTrialTimeExpiry_back hx hback hleft hpolicy, rfl⟩, fun hpolicy hne => ?_⟩,
    fun c v h ha hv => ⟨fun hno => ?_, fun hin hstate => ?_⟩, fun g hg hcycle htill _ _ hne => execLegalActivationM0_changes hg hcycle htill hne⟩
  · obtain ⟨t, hexec, hreply, hkept⟩ := State.slotRequest_keeps ha (applyFwConfirm_without ((congrArg FwSt.trial (hfw h)).trans hidle)) rfl
    rw [hfw, hframes] at hreply
    exact ⟨t, hexec, hkept, hreply⟩
  · obtain ⟨t, hexec, hreply, hkept⟩ := State.slotRequest_keeps ha (applyFwConfirm_back ((congrArg FwSt.trial (hfw h)).trans hx) hback) rfl
    exact ⟨t, hexec, hkept, hreply⟩
  · obtain ⟨htrial, hended, hrunning, hstate, hempty, -⟩ := (s.taken h).confirmTrial_runs hne 0
    refine ⟨_, congrArg Host.Outcome.next (State.clientCommand_effect ha rfl (applyFwConfirm_confirms ((congrArg FwSt.trial (hfw h)).trans hx) hback)),
      State.answerLater_repliesWith .., ?_, ?_, ?_, ?_, ?_⟩
    · rw [State.answerLater_fw, htrial]
    · rw [State.answerLater_fw, hended, hframes]
    · rw [State.nat_answerLater, hrunning]
    · rw [State.nat_answerLater, hstate]
    · rw [State.nat_answerLater, hempty]
  · obtain ⟨t, hexec, hreply, hkept⟩ := State.slotRequest_keeps ha (applyFwFallback_without ((congrArg FwSt.trial (hfw h)).trans hidle)) rfl
    rw [hfw, hframes] at hreply
    exact ⟨t, hexec, hkept, hreply⟩
  · obtain ⟨t, hexec, hreply, hkept⟩ := State.slotRequest_keeps ha (applyFwFallback_back ((congrArg FwSt.trial (hfw h)).trans hx) hback) rfl
    exact ⟨t, hexec, hkept, hreply⟩
  · exact State.slotRequest_keeps ha (applyFwFallback_alone ((congrArg FwSt.trial (hfw h)).trans hx) hback
      ((congrArg DieSt.mirrorSync (hdie h)).trans hsync)) rfl
  · refine ⟨_, congrArg Host.Outcome.next (State.clientCommand_effect ha rfl (applyFwFallback_due ((congrArg FwSt.trial (hfw h)).trans hx) hback
      ((congrArg DieSt.mirrorSync (hdie h)).trans hsync))), State.answerLater_repliesWith .., ?_⟩
    rw [State.answerLater_fw, hfw]
  · obtain ⟨htrial, -, hrunning, -, -, hraised⟩ := s.confirmTrial_runs hne 1
    exact ⟨_, execTrialTimeExpiry_confirms hx hback hleft hpolicy, htrial, hrunning, hraised⟩
  · have hin : (s.taken h).inRecovery = s.inRecovery := by
      simp (disch := decide) only [State.inRecovery, State.nat_taken_of_base]
    have hact := applyRecoveryBoot_refused (s := s.taken h) hv (by rwa [hin, s.nat_taken_of_base h (by decide)])
    refine ⟨_, congrArg Host.Outcome.next (State.clientCommand_effect ha rfl hact), State.answerLater_repliesWith .., ?_, ?_⟩
    · rw [State.answerLater_fw, hfw]
    · rw [State.answerLater_die, hdie]
  · have hin' : (s.taken h).inRecovery = true := by
      rw [← hin]
      simp (disch := decide) only [State.inRecovery, State.nat_taken_of_base]
    obtain ⟨y, hy, hact⟩ := applyRecoveryBoot_boots (s := s.taken h) hv hin' (by rwa [s.nat_taken_of_base h (by decide)])
    have hmanifest : (s.taken h).manifest v = s.manifest v := congrArg FwSlot.manifest ((s.taken_images h).2.2.1 v)
    rw [hmanifest] at hy
    obtain ⟨hrunning, hrun, hversion, hformat, htrial⟩ := State.boots_restartBoth hy 4
    obtain ⟨hstart, hplant, hca, hcb, -⟩ := y.restartBoth_starts 4
    refine ⟨_, congrArg Host.Outcome.next (State.clientCommand_effect ha rfl hact), State.answerLater_repliesWith .., ?_, ?_, ?_, ?_, ?_, ?_, ?_, ?_, ?_⟩
    · rw [State.nat_answerLater, hrunning]
    · rw [State.nat_answerLater, hrun]
    · rw [State.nat_answerLater, hversion]
    · rw [State.answerLater_fw, hformat]
    · rw [State.answerLater_fw, htrial]
    · rw [State.answerLater_die, hca]
    · rw [State.answerLater_die, hcb]
    · rw [State.answerLater_plant, hplant]
    · exact (State.nat_answerLater ..).trans hstart

end Sys2Proof.Machine
end

section
/-!
PROOFS. The powerline network (O50, O51): what the shows of nodes, routes and loads leave, the tone maps of a link, and how nodes join, ask
for loads and get their routes (R394 to R410).
-/
namespace Sys2Proof.Machine
open Sys2Proof

/-! ### What shows of nodes, routes and loads -/

/-- A reading apart from own values of `K`, from the proxies and from the time of an imbalance. -/
structure NodeBlind {β : Type} (g : State → β) (K : Nat → Prop) : Prop extends OwnBlind g K where
  proxies : ∀ (s : State) x, g { s with eus := { s.eus with proxies := x } } = g s
  heavy : ∀ (s : State) x y, g { s with eus := { s.eus with heavySince := x, heavyTold := y } } = g s

section NodeBlind
variable {β : Type} {g : State → β} {K : Nat → Prop} (hg : NodeBlind g K)
include hg

theorem State.showLink_blind {e : Nat} (h : K (Ent.NODE_STATUS.key e)) (s : State) : g (s.showLink e) = g s := by
  unfold State.showLink
  exact hg.put _ _ _ _ _ rfl h

theorem State.showEusor_blind (h : K Ent.EUSOR_STATUS.key) (s : State) : g s.showEusor = g s := by
  unfold State.showEusor
  exact hg.put _ _ _ _ _ rfl h

theorem State.setNodeState_blind {e : Nat} (h : K (Ent.NODE_STATE.key e)) (hshow : K Ent.EUSOR_STATUS.key) (s : State) (st : Nat) :
    g (s.setNodeState e st) = g s := by
  unfold State.setNodeState
  exact (State.showEusor_blind hg hshow _).trans (hg.put _ _ _ _ _ rfl h)

theorem State.showProxies_blind (h : ∀ e, K (Ent.NODE_STATUS.key e)) (s : State) : g s.showProxies = g s := by
  unfold State.showProxies
  refine (State.each_keeps _ _ _ g fun z e => ?_).trans (hg.proxies ..)
  split
  · rfl
  · exact hg.put _ _ _ _ _ rfl (h e)

/-- A route that comes into use shows in three values of its node and in the proxies (R406). -/
theorem State.useRoute_blind {e : Nat} (hproxies : ∀ i, K (Ent.NODE_STATUS.key i))
    (hroute : K (Ent.ROUTE.key e) ∧ K (Ent.HOPS.key e) ∧ K (Ent.ROUTE_COST.key e)) (s : State) (r : List Nat) (cost : Nat) :
    g (s.useRoute e r cost) = g s := by
  obtain ⟨hpath, hhops, hcost⟩ := hroute
  unfold State.useRoute
  exact (State.showProxies_blind hg hproxies _).trans ((State.fitNat_own hg.toOwnBlind rfl hcost ..).trans
    ((hg.put _ _ _ _ _ rfl hhops).trans (hg.put _ _ _ _ _ rfl hpath)))

/-- The loads of the phases show in three values (R409). -/
theorem State.formLoads_blind (h : K Ent.PHASE_LOAD_L1.key ∧ K Ent.PHASE_LOAD_L2.key ∧ K Ent.PHASE_LOAD_L3.key) (s : State) :
    g s.formLoads = g s := by
  obtain ⟨hone, htwo, hthree⟩ := h
  unfold State.formLoads
  exact (hg.heavy ..).trans ((State.fitNat_own hg.toOwnBlind rfl hthree ..).trans ((State.fitNat_own hg.toOwnBlind rfl htwo ..).trans
    (State.fitNat_own hg.toOwnBlind rfl hone ..)))

end NodeBlind

/-- An entry as it shows, apart from the other ones. -/
theorem NodeBlind.val (e : Entry) (n j : Nat) : NodeBlind (fun s => s.val e n j) (· ≠ e.key n j) where
  toOwnBlind := OwnBlind.val e n j
  proxies _ _ := rfl
  heavy _ _ _ := rfl

/-- The nodes of the network, its flows and its count. -/
def State.network (s : State) : Tab NodeSt × List Flow × Nat := (s.eus.nodes, s.eus.flows, s.eus.count)

theorem NodeBlind.network : NodeBlind State.network fun _ => True where
  put _ _ _ _ _ _ _ := by rw [State.network, State.put_eus, State.network]
  event _ _ := rfl
  free _ _ := rfl
  proxies _ _ := rfl
  heavy _ _ _ := rfl

theorem NodeBlind.count : NodeBlind (fun s => s.eus.count) fun _ => True where
  put _ _ _ _ _ _ _ := by rw [State.put_eus]
  event _ _ := rfl
  free _ _ := rfl
  proxies _ _ := rfl
  heavy _ _ _ := rfl

theorem State.node_of_network {s t : State} (h : t.network = s.network) (e : Nat) : t.node e = s.node e :=
  congrArg (fun x : Tab NodeSt × List Flow × Nat => Tab.get NodeSt.none x.1 e) h

theorem State.node_setNode_same (s : State) (e : Nat) (k : NodeSt) : (s.setNode e k).node e = k := Tab.get_set_same ..

theorem State.node_setNode_ne (s : State) {e i : Nat} (h : i ≠ e) (k : NodeSt) : (s.setNode e k).node i = s.node i := Tab.get_set_ne _ _ _ _ _ h

theorem State.node_startFlow (s : State) (e kind : Nat) (body : List Byte) (m : Option ToneMap) (i : Nat) :
    (s.startFlow e kind body m).node i = s.node i := rfl

/-! ### Joins -/

/-- A value of the network and a node's value of another kind stand apart. -/
theorem Entry.key_ne_of_network {e f : Entry} (h : f.base = 0xA180 ∧ e.base = 0xA200 ∧ f.sub < 256) (n : Nat) : f.key 0 0 ≠ e.key n 0 := by
  obtain ⟨hf, he, hsub⟩ := h
  rw [Entry.key, Entry.key, hf, he]
  omega

/-- A dropped node stands in its new state, and the count goes on (R410). -/
theorem State.dropNode_stands (s : State) (e st : Nat) : (s.dropNode e st).nodeState e = st ∧ (s.dropNode e st).eus.count = s.eus.count := by
  have hnet {f : Entry} (hf : f.base = 0xA180 ∧ f.sub < 256) : f.key ≠ Ent.NODE_STATE.key e := Entry.key_ne_of_network ⟨hf.1, rfl, hf.2⟩ e
  constructor
  · unfold State.dropNode
    exact (State.nat_congr (State.formLoads_blind (NodeBlind.val Ent.NODE_STATE e 0)
      ⟨hnet (by decide), hnet (by decide), hnet (by decide)⟩ _)).trans ((State.nat_congr (State.showEusor_blind
      (NodeBlind.val Ent.NODE_STATE e 0) (hnet (by decide)) _)).trans (State.nat_setNat_same ..))
  · unfold State.dropNode
    refine (State.formLoads_blind NodeBlind.count ⟨trivial, trivial, trivial⟩ _).trans ((State.setNodeState_blind NodeBlind.count trivial trivial ..).trans
      ((State.showProxies_blind NodeBlind.count (fun _ => trivial) _).trans ?_))
    simp only [State.setNat_eq, State.setBytes_eq, State.put_eus]

/-- A route in use shows with its length (R406). -/
theorem State.useRoute_shows (s : State) (e : Nat) (r : List Nat) (cost : Nat) :
    (s.useRoute e r cost).bytes Ent.ROUTE e = r.map (BitVec.ofNat 8) ∧ (s.useRoute e r cost).nat Ent.HOPS e = r.length := by
  have hstatus {f : Entry} (hf : f.sub < 256 ∧ f.sub ≠ 5) (i : Nat) : Ent.NODE_STATUS.key i ≠ f.key e :=
    Entry.key_ne_of_sub ⟨by decide, hf.1, hf.2.symm⟩ i e
  have hval {f : Entry} (hf : f.sub < 256 ∧ f.sub ≠ 5 ∧ f.sub ≠ 8) (z : State) :
      (z.fitNat Ent.ROUTE_COST e cost).showProxies.val f e 0 = z.val f e 0 :=
    (State.showProxies_blind (NodeBlind.val f e 0) (hstatus ⟨hf.1, hf.2.1⟩) _).trans (State.fitNat_own (OwnBlind.val f e 0) rfl
      (Entry.key_ne_of_sub ⟨by decide, hf.1, hf.2.2.symm⟩ e e) ..)
  unfold State.useRoute
  constructor
  · rw [State.bytes_def, hval (by decide), State.setNat_eq, State.val_put_ne _ _ _ _ _ _ _ _ (Entry.key_ne_of_sub (by decide) e e),
      State.setBytes_eq, State.val_put_same]
    rfl
  · exact (State.nat_congr (hval (by decide) _)).trans (State.nat_setNat_same ..)

/-- A node that heard the device itself is admitted with the route of itself (R407). -/
theorem State.admitNode_admits (s : State) (e : Nat) {j : NodeJoin} (hvia : 128 ≤ j.via) :
    (s.admitNode e j).nodeState e = Node.ADMITTING ∧ ((s.admitNode e j).node e).due = s.eus.count + 1 ∧
      (s.admitNode e j).bytes Ent.ROUTE e = [BitVec.ofNat 8 e] ∧ (s.admitNode e j).nat Ent.HOPS e = 1 := by
  obtain ⟨hstate, hcount⟩ := s.dropNode_stands e Node.ADMITTING
  have hfar : ¬ j.via < 128 := by omega
  unfold State.admitNode
  simp only [hfar, if_false]
  generalize s.dropNode e Node.ADMITTING = s0 at hstate hcount ⊢
  generalize hs1 : s0.takeFree.2 = s1
  generalize hs3 : State.setNat _ Ent.NODE_STATUS e _ = s3
  have h3state : s3.nodeState e = Node.ADMITTING := by
    rw [← hs3, ← hs1]
    exact (State.nat_put_sub _ (by decide) _ _ _).trans hstate
  have h3due : (s3.node e).due = s.eus.count + 1 := by
    rw [← hs3, State.node, State.setNat_eq, State.put_eus, ← State.node, State.node_setNode_same, ← hcount, ← hs1]
    rfl
  clear hs3
  generalize hs4 : s3.useRoute e [e] _ = s4
  obtain ⟨hroute, hhops⟩ : s4.bytes Ent.ROUTE e = [BitVec.ofNat 8 e] ∧ s4.nat Ent.HOPS e = 1 := hs4 ▸ s3.useRoute_shows e [e] _
  have h4state : s4.nodeState e = Node.ADMITTING := by
    have hne {f : Entry} (hf : f.sub < 256 ∧ f.sub ≠ 4) (i : Nat) : f.key i ≠ Ent.NODE_STATE.key e :=
      Entry.key_ne_of_sub ⟨hf.1, by decide, hf.2⟩ i e
    rw [← h3state, ← hs4]
    exact State.nat_congr (State.useRoute_blind (NodeBlind.val Ent.NODE_STATE e 0) (hne (by decide))
      ⟨hne (by decide) e, hne (by decide) e, hne (by decide) e⟩ ..)
  have h4due : (s4.node e).due = s.eus.count + 1 := by
    rw [← h3due, ← hs4]
    exact congrArg NodeSt.due (State.node_of_network (State.useRoute_blind NodeBlind.network (fun _ => trivial) ⟨trivial, trivial, trivial⟩ ..) e)
  have hval {f : Entry} (hf : f.sub < 256 ∧ f.sub ≠ 5) (z : State) : (z.showLink e).val f e 0 = z.val f e 0 :=
    State.showLink_blind (NodeBlind.val f e 0) (Entry.key_ne_of_sub ⟨by decide, hf.1, hf.2.symm⟩ e e) z
  have hnode (z : State) : (z.showLink e).node e = z.node e := State.node_of_network (State.showLink_blind NodeBlind.network trivial z) e
  refine ⟨?_, ?_, ?_, ?_⟩
  · exact (State.nat_congr (hval (by decide) _)).trans h4state
  · rw [hnode, State.node_startFlow, State.node_startFlow, State.node_startFlow, h4due]
  · rw [State.bytes_def, hval (by decide)]
    exact hroute
  · exact (State.nat_congr (hval (by decide) _)).trans hhops

section Join
variable {s : State} {j : NodeJoin} (hon : s.eusorOn = true)
include hon

theorem execJoin_unknown (hkey : s.keyOf 4 = none) :
    execJoin j s = .next (s.raise Evt.NODE_REFUSED 0xFFFF (low 32 (low 48 j.uid)) St.DENIED_ACCESS) := by
  unfold execJoin
  dsimp only
  rw [if_neg (by simp [hon]), hkey]
  rfl

variable {k : List Byte} (hkey : s.keyOf 4 = some k)
  (htag : Config.joinTag (nodeKey k (low 48 j.uid)) (low 48 j.uid) j.lineToLine j.version j.zc (s.nat Ent.EUSOR_NETWORK_ID)
    (low 16 s.eus.count) = j.tag)
include hkey htag

theorem execJoin_version (hversion : j.version ≠ 1) :
    execJoin j s = .next (s.raise Evt.NODE_REFUSED 0xFFFF (low 32 (low 48 j.uid)) St.NOT_SUPPORTED) := by
  unfold execJoin
  dsimp only
  rw [if_neg (by simp [hon]), hkey, if_neg (by simp [htag]), if_pos (by simpa using hversion)]
  rfl

variable (hversion : j.version = 1)
include hversion

theorem execJoin_noEntry (hnone : ∀ x, x < 128 → s.flag Ent.NODE_ENABLE x = true → s.nat Ent.NODE_UID x ≠ low 48 j.uid) :
    execJoin j s = .next (s.raise Evt.NODE_REFUSED 0xFFFF (low 32 (low 48 j.uid)) St.NO_ENTRY) := by
  have hfind : (List.range 128).find? (fun x => s.flag Ent.NODE_ENABLE x && s.nat Ent.NODE_UID x == low 48 j.uid) = none := by
    simpa using hnone
  unfold execJoin
  dsimp only
  rw [if_neg (by simp [hon]), hkey, if_neg (by simp [htag]), if_neg (by simp [hversion]), hfind]
  rfl

theorem execJoin_admits {e : Nat} (hvia : 128 ≤ j.via)
    (hfind : (List.range 128).find? (fun x => s.flag Ent.NODE_ENABLE x && s.nat Ent.NODE_UID x == low 48 j.uid) = some e) :
    execJoin j s = .next (s.admitNode e j) := by
  have hfar : ¬ j.via < 128 := by omega
  unfold execJoin
  dsimp only
  rw [if_neg (by simp [hon]), hkey, if_neg (by simp [htag]), if_neg (by simp [hversion]), hfind]
  exact if_neg (by simp [hfar])

end Join

/-! ### Tone maps -/

/-- One direction of a node's link: toward the device, or toward the node. -/
def State.link (s : State) (e : Nat) (back : Bool) : LinkMap := if back then (s.node e).back else (s.node e).out

def State.setLink (s : State) (e : Nat) (back : Bool) (l : LinkMap) : State :=
  s.setNode e (if back then { (s.node e) with back := l } else { (s.node e) with out := l })

theorem State.link_setLink_same (s : State) (e : Nat) (back : Bool) (l : LinkMap) : (s.setLink e back l).link e back = l := by
  rw [State.link, State.setLink, State.node_setNode_same]
  cases back
  · rfl
  · rfl

theorem State.link_startFlow (s : State) (e kind : Nat) (body : List Byte) (m : Option ToneMap) (i : Nat) (back : Bool) :
    (s.startFlow e kind body m).link i back = s.link i back := rfl

theorem State.markStale_eq (s : State) (e : Nat) (back : Bool) (seg : Nat) : s.markStale e back seg =
    if ((s.link e back).seg seg).map.isNone || ((s.link e back).seg seg).stale.isSome then s
    else (s.setLink e back ((s.link e back).setSeg seg { ((s.link e back).seg seg) with stale := some (s.eus.count + 1) })).startFlow e
      (if back then 2 else 1) [] := rfl

theorem LinkMap.seg_setSeg_same (l : LinkMap) (i : Nat) (g : SegSt) : (l.setSeg i g).seg i = g := Tab.get_set_same ..

/-- A map in force marked stale stays so, and a fresh mark sounds the link again (R401). -/
theorem State.markStale_marks {s : State} {e : Nat} {back : Bool} {seg : Nat} (hmap : ((s.link e back).seg seg).map.isSome = true) :
    (((s.markStale e back seg).link e back).seg seg).stale.isSome = true ∧ (((s.link e back).seg seg).stale = none →
      (((s.markStale e back seg).link e back).seg seg).stale = some (s.eus.count + 1) ∧
      ∃ f, (s.markStale e back seg).eus.flows = s.eus.flows ++ [f] ∧ f.node = e ∧ f.kind = if back then 2 else 1) := by
  rw [State.markStale_eq]
  cases hstale : ((s.link e back).seg seg).stale with
  | some p =>
    rw [if_pos (by simp)]
    exact ⟨by simp [hstale], fun h => absurd h (by simp)⟩
  | none =>
    rw [if_neg (by simpa [Option.isSome_iff_ne_none] using hmap), State.link_startFlow, State.link_setLink_same, LinkMap.seg_setSeg_same]
    exact ⟨rfl, fun _ => ⟨rfl, _, rfl, rfl, rfl⟩⟩

/-- Maps accepted serve from the next period; their events are all that shows (R400, R401). -/
theorem State.acceptMap_serves (s : State) (e : Nat) (back : Bool) (m : ToneMap) :
    ((s.acceptMap e back m).link e back).next = some (s.eus.count + 1, m) ∧ (s.acceptMap e back m).out = s.out := by
  obtain ⟨s1, hs1⟩ : ∃ s1, s1 = s.setLink e back { (s.link e back) with next := some (s.eus.count + 1, m) } := ⟨_, rfl⟩
  have hkeeps {β : Type} (g : State → β) (hev : ∀ (z : State) v, g { z with ev := v } = g z) : g (s.acceptMap e back m) = g s1 := by
    rw [hs1]
    exact State.each_keeps _ _ _ g fun z x => by rw [State.raise_eq_ev, hev]
  constructor
  · rw [hkeeps (fun z => (z.link e back).next) (fun _ _ => rfl), hs1, State.link_setLink_same]
  · rw [hkeeps State.out (fun _ _ => rfl), hs1]
    rfl

theorem execToneMapAgeExpiry_stale {s : State} {e : Fin 128} {dir : Fin 2} {seg : Fin 6}
    (hmap : ((s.link e (dir.val == 1)).seg seg).map.isSome = true)
    (hage : ((s.link e (dir.val == 1)).seg seg).at_ + secTicks (s.nat Ent.TM_MAX_AGE) < s.ticks) :
    execToneMapAgeExpiry e dir seg s = .next (s.markStale e (dir.val == 1) seg) := by
  unfold execToneMapAgeExpiry
  exact if_pos (Bool.and_eq_true_iff.2 ⟨hmap, decide_eq_true hage⟩)

/-! ### Routes -/

theorem State.reroute_count (s : State) (all : Tab (Nat × List Nat)) (e : Nat) : (s.reroute all e).eus.count = s.eus.count := by
  have hsend (r : List Nat) (cost : Nat) : (s.sendRoute e r cost).eus.count = s.eus.count := rfl
  unfold State.reroute
  split
  · rfl
  · extract_lets needs pick broken
    clear_value pick
    obtain _ | ⟨cost, r⟩ := pick
    · exact (State.raise_own NodeBlind.count.toOwnBlind ..).trans (State.setNodeState_blind NodeBlind.count trivial trivial ..)
    · dsimp only
      split
      · exact State.fitNat_own NodeBlind.count.toOwnBlind rfl trivial ..
      · split
        · exact hsend ..
        · rfl

/-- Every node is again to be asked for its neighbours (R406). -/
def State.unasked (s : State) : State := s.each (Tab.keys s.eus.nodes) fun z e => z.setNode e { (z.node e) with asked := false }

theorem State.unasked_asks (s : State) : ∀ e ∈ Tab.keys s.unasked.eus.nodes, (s.unasked.node e).asked = false := by
  have hkeys : ∀ x ∈ Tab.keys s.unasked.eus.nodes, x ∈ Tab.keys s.eus.nodes := by
    refine State.each_inv_of_mem (fun z => ∀ x ∈ Tab.keys z.eus.nodes, x ∈ Tab.keys s.eus.nodes) (fun _ h => h) fun z e he hz x hx => ?_
    obtain rfl | hold := Tab.mem_keys_set _ _ _ _ hx
    · exact he
    · exact hz x hold
  intro e he
  refine State.each_reaches (fun z => (z.node e).asked = false) (fun _ => True) (hkeys e he) trivial (fun _ _ _ => trivial) (fun z b hz => ?_)
    fun z _ => ?_
  · by_cases hb : e = b
    · rw [hb, State.node_setNode_same]
    · rw [State.node_setNode_ne _ hb, hz]
  · rw [State.node_setNode_same]

theorem execRouteComputation_waits {s : State} (h : s.flag Ent.EUSOR_ENABLE = false ∨ s.eus.count < s.eus.routedAt + s.nat Ent.ROUTE_PERIOD) :
    execRouteComputation s = .next s := if_pos (by simpa using h)

theorem execRouteComputation_computes {s : State} (hon : s.flag Ent.EUSOR_ENABLE = true)
    (hdue : s.eus.routedAt + s.nat Ent.ROUTE_PERIOD ≤ s.eus.count) : ∃ t, execRouteComputation s = .next t ∧ t.eus.routedAt = s.eus.count ∧
      ∀ e ∈ Tab.keys t.eus.nodes, (t.node e).asked = false := by
  unfold execRouteComputation
  rw [if_neg (by simp [hon, hdue])]
  dsimp only
  generalize hs1 : s.each s.nodesOnline (fun z e => z.reroute (s.routes s.nodesOnline s.nodesOnline) e) = s1
  have hcount : s1.eus.count = s.eus.count := by
    rw [← hs1]
    exact State.each_keeps s _ _ (fun z => z.eus.count) fun z e => z.reroute_count _ e
  refine ⟨State.unasked { s1 with eus := { s1.eus with routedAt := s1.eus.count } }, rfl, ?_, State.unasked_asks _⟩
  rw [← hcount]
  exact State.each_keeps _ _ _ (fun z => z.eus.routedAt) fun _ _ => rfl

/-! ### Loads -/

section Loads
variable {s : State} {e : Fin 128} {watts : Nat}

/-- The other nodes' requests, with this one's taken away (R409). -/
def State.dropAsk (s : State) (e : Nat) : State := { s with eus := { s.eus with loads := s.eus.loads.filter fun l => l.node != e } }

theorem execLoadRequest_granted (hnode : s.nodeState e = Node.ONLINE) {essential : Bool}
    (h : essential = true ∨ (s.dropAsk e).loadFits e (low 32 watts) = true) :
    execLoadRequest e watts essential s = .next ((s.dropAsk e).toNode e 0x05 (leBytes 4 (low 32 watts))) := by
  unfold execLoadRequest
  rw [if_neg (by simp [hnode])]
  exact if_pos (Bool.or_eq_true_iff.2 h)

theorem execLoadRequest_deferred (hnode : s.nodeState e = Node.ONLINE) (h : (s.dropAsk e).loadFits e (low 32 watts) = false) :
    execLoadRequest e watts false s = .next (State.raise
      { s with eus := { s.eus with loads := s.eus.loads.filter (fun l => l.node != e.val) ++ [⟨e.val, low 32 watts, s.ticks⟩] } }
      Evt.LOAD_DEFERRED e (low 32 watts) (ratFloor (imbalanceOf s.phaseLoads)).toNat) := by
  unfold execLoadRequest
  rw [if_neg (by simp [hnode])]
  exact if_neg (Bool.not_eq_true _ ▸ h)

theorem execLoadDeferExpiry_granted {l : LoadAsk} (hfind : s.eus.loads.find? (fun x => x.node == e.val) = some l)
    (hage : l.at_ + secTicks (s.nat Ent.AUX_DEFER_MAX) ≤ s.ticks) : execLoadDeferExpiry e s =
      .next (State.toNode { s with eus := { s.eus with loads := s.eus.loads.filter fun x => x != l } } e 0x05 (leBytes 4 l.watts)) := by
  unfold execLoadDeferExpiry
  rw [hfind]
  exact if_neg (by omega)

theorem execAuxImbalance_told {b : Nat} (hsince : s.eus.heavySince = some b) (hfirst : s.eus.heavyTold = false)
    (hage : b + secTicks 60 ≤ s.ticks) : execAuxImbalance s = .next (State.raise { s with eus := { s.eus with heavyTold := true } }
      Evt.AUX_IMBALANCE 0 (s.phaseLoads.findIdx (fun x => decide (x = s.phaseLoads.foldl max 0)) + 1)
      (ratFloor (imbalanceOf s.phaseLoads)).toNat) := by
  unfold execAuxImbalance
  rw [hsince]
  exact if_neg (by simp [hfirst, hage])

end Loads

/-- Settles O51: each message of a node by what it meets, with the ages and the periods. -/
theorem powerlineNodesJoinAndAskForLoads : Obligations.PowerlineNodesJoinAndAskForLoads := by
  unfold Obligations.PowerlineNodesJoinAndAskForLoads
  intro s
  refine ⟨fun j hon => ⟨fun hkey => ?_, fun k hkey htag => ⟨fun hversion => ?_, fun hversion hnone => ?_, fun e hversion hvia hfind => ?_⟩⟩,
    fun e m hnode hon => ?_, ?_, fun e ends snr hnode hon => ?_, ?_, fun e watts hnode => ⟨?_, ?_, ?_⟩,
    fun e l hfind hage => ⟨_, execLoadDeferExpiry_granted hfind hage, rfl, rfl⟩, fun b hsince hfirst hage => ?_⟩
  · exact ⟨_, execJoin_unknown hon hkey, rfl, State.raise_frame ..⟩
  · exact ⟨_, execJoin_version hon hkey htag hversion, rfl, State.raise_frame ..⟩
  · exact ⟨_, execJoin_noEntry hon hkey htag hversion hnone, rfl, State.raise_frame ..⟩
  · exact ⟨_, execJoin_admits hon hkey htag hversion hvia hfind, s.admitNode_admits e hvia⟩
  · obtain ⟨hnext, hout⟩ := s.acceptMap_serves e false m
    have hadmitted : ¬ s.nodeState e < Node.ADMITTING := Nat.not_lt.2 hnode
    exact ⟨_, _, if_neg (by simp [hadmitted, hon]), hnext, congrArg (· ++ [_]) hout, rfl, rfl, rfl⟩
  · intro e dir seg dirs hmap hage
    have hdirs (z : State) : dirs z = z.link e (dir.val == 1) := by simp [dirs, State.link]
    rw [hdirs] at hmap hage
    obtain ⟨hstale, hfresh⟩ := State.markStale_marks hmap
    refine ⟨_, execToneMapAgeExpiry_stale hmap hage, ?_⟩
    rw [hdirs, hdirs]
    refine ⟨hstale, fun hnone => ?_⟩
    obtain ⟨hmark, f, hflows, hnode, hkind⟩ := hfresh hnone
    refine ⟨hmark, f, hflows, hnode, hkind.trans ?_⟩
    obtain h | h : dir.val = 0 ∨ dir.val = 1 := by omega
    · rw [h]
      rfl
    · rw [h]
      rfl
  · have hadmitted : ¬ s.nodeState e < Node.ADMITTING := Nat.not_lt.2 hnode
    exact ⟨_, _, if_neg (by simp [hadmitted, hon]), rfl, rfl, rfl, rfl, rfl⟩
  · by_cases hwait : s.flag Ent.EUSOR_ENABLE = false ∨ s.eus.count < s.eus.routedAt + s.nat Ent.ROUTE_PERIOD
    · refine ⟨s, execRouteComputation_waits hwait, fun _ => rfl, fun hon hdue => ?_⟩
      obtain hoff | hearly := hwait
      · simp [hon] at hoff
      · omega
    · obtain ⟨hon, hdue⟩ := not_or.1 hwait
      obtain ⟨t, hexec, hafter⟩ := execRouteComputation_computes (s := s) (by simpa using hon) (by omega)
      exact ⟨t, hexec, fun h => absurd h hwait, fun _ _ => hafter⟩
  · exact ⟨_, execLoadRequest_granted hnode (.inl rfl), rfl, rfl⟩
  · exact fun hfits => ⟨_, execLoadRequest_granted hnode (.inr hfits), rfl, rfl⟩
  · refine fun hfull => ⟨_, execLoadRequest_deferred hnode hfull, ?_, State.raised_of_stamp (by rfl) .., ?_⟩
    · rw [State.raise_eq_ev]
    · rw [State.raise_eq_ev]
  · refine ⟨_, execAuxImbalance_told hsince hfirst hage, ?_, State.raised_of_stamp (by rfl) .., ?_⟩
    · rw [State.raise_eq_ev]
    · rw [State.raise_eq_ev]

end Sys2Proof.Machine
end

section
/-!
PROOFS. The powerline network (O50): the start of a beacon period, polls and their replies, data frames, the accesses of the contention region
and the hand-over of the modem (R394 to R405).
-/
namespace Sys2Proof.Machine
open Sys2Proof

/-! ### The outcomes of blocks -/

theorem State.noteBlock_eq (s : State) (e : Nat) (back : Bool) (seg : Nat) (good : Bool) : s.noteBlock e back seg good =
    if decide (((good :: ((s.link e back).seg seg).blocks).take 8 |>.filter (fun b => !b)).length ≥ 3) then
      (s.setLink e back ((s.link e back).setSeg seg { ((s.link e back).seg seg) with
        blocks := (good :: ((s.link e back).seg seg).blocks).take 8 })).markStale e back seg
    else s.setLink e back ((s.link e back).setSeg seg { ((s.link e back).seg seg) with
      blocks := (good :: ((s.link e back).seg seg).blocks).take 8 }) := rfl

section Outcomes
variable {β : Type} (g : State → β) {e : Nat} (hlink : ∀ (z : State) b l, g (z.setLink e b l) = g z)
  (hflow : ∀ (z : State) kind, g (z.startFlow e kind []) = g z)
include hlink hflow

/-- A mark touches the map of a segment and asks for a sounding (R401). -/
theorem State.markStale_keeps (s : State) (back : Bool) (seg : Nat) : g (s.markStale e back seg) = g s := by
  rw [State.markStale_eq]
  split
  · rfl
  · exact (hflow ..).trans (hlink ..)

theorem State.noteBlock_keeps (s : State) (back : Bool) (seg : Nat) (good : Bool) : g (s.noteBlock e back seg good) = g s := by
  rw [State.noteBlock_eq]
  split
  · exact (State.markStale_keeps g hlink hflow ..).trans (hlink ..)
  · exact hlink ..

theorem State.noteControl_keeps (s : State) (back : Bool) (seg : Nat) (good : Bool) : g (s.noteControl e back seg good) = g s := by
  unfold State.noteControl
  extract_lets s0 k l g0 g1 l1 s2
  have h1 : g s2 = g s := (hlink s0 back l1).trans (State.noteBlock_keeps g hlink hflow ..)
  split
  · exact (State.markStale_keeps g hlink hflow ..).trans h1
  · exact h1

end Outcomes

/-! ### The start of a period -/

/-- What a period's start settles: the count, the start, the modem, and what lets it send. -/
def State.period (s : State) : Nat × Nat × Nat × Option Nat × Val × DieSt × KeySt :=
  (s.eus.count, s.eus.startTick, s.eus.modem, s.eus.handover, s.val Ent.EUSOR_ENABLE, s.die, s.keys)

theorem NodeBlind.period : NodeBlind State.period (· ≠ Ent.EUSOR_ENABLE.key) where
  put _ _ _ _ _ _ hk := by
    simp only [State.period, State.put_eus, State.put_die, State.put_keys, State.val_put_ne _ _ _ _ _ _ _ _ (Ne.symm hk)]
  event _ _ := rfl
  free _ _ := rfl
  proxies _ _ := rfl
  heavy _ _ _ := rfl

theorem State.takeMains_period (s : State) (c1 c2 : Nat) : (s.takeMains c1 c2).period =
    (s.eus.count, s.ticks, s.eus.modem, s.eus.handover, s.val Ent.EUSOR_ENABLE, s.die, s.keys) := by
  unfold State.takeMains
  exact NodeBlind.period.put _ Ent.BEACON_PERIOD_NS _ _ _ rfl (by decide)

/-- A period begins with its count, on the modem handed over to (R397, R399). -/
theorem State.beginPeriod_period (s : State) : s.beginPeriod.period = ((s.eus.count + 1) % 2 ^ 48, s.eus.startTick,
    if s.eus.handover.isSome then 1 - s.eus.modem else s.eus.modem, none, s.val Ent.EUSOR_ENABLE, s.die, s.keys) := by
  have hnode {f : Entry} (hf : f.base = 0xA200) (n : Nat) : f.key n ≠ Ent.EUSOR_ENABLE.key := by
    rw [Entry.key, Entry.key, hf]
    simp only [Ent.EUSOR_ENABLE]
    omega
  unfold State.beginPeriod
  extract_lets eus s0 m eus1 s1 key eus2 s2
  have h1 : s1.period = ((s.eus.count + 1) % 2 ^ 48, s.eus.startTick, if s.eus.handover.isSome then 1 - s.eus.modem else s.eus.modem, none,
      s.val Ent.EUSOR_ENABLE, s.die, s.keys) := by
    have hs0 : s0.period =
        ((s.eus.count + 1) % 2 ^ 48, s.eus.startTick, s.eus.modem, s.eus.handover, s.val Ent.EUSOR_ENABLE, s.die, s.keys) := rfl
    simp only [s1]
    split
    · next hover =>
      rw [hs0, show s.eus.handover = none from hover]
      rfl
    · next cause hover =>
      rw [State.raise_own NodeBlind.period.toOwnBlind, show s.eus.handover = some cause from hover]
      rfl
  refine (State.each_keeps s2 _ _ State.period fun z e => ?_).trans h1
  extract_lets k k1 z1
  have hz1 : z1.period = z.period := rfl
  split
  · split
    · exact (State.raise_own NodeBlind.period.toOwnBlind ..).trans (State.useRoute_blind NodeBlind.period (hnode rfl)
        ⟨hnode rfl e, hnode rfl e, hnode rfl e⟩ ..)
    · exact hz1
  · exact (State.showLink_blind NodeBlind.period (hnode rfl e) _).trans hz1

section Polls
variable {P : State → Prop}
  (heus : ∀ z q l n u o, P z → P { z with eus := { z.eus with queue := q, loads := l, nodes := n, used := u, overrunAt := o } })
  (hsend : ∀ (z : State) m, P z → P (z.send m)) (hev : ∀ (z : State) v, P z → P { z with ev := v })
include heus hsend

theorem State.pollNode_inv (s : State) (e : Nat) (h : P s) : P (s.pollNode e) := by
  have hgrant : P (s.grantLoads e) := by
    refine State.each_inv _ _ _ P h fun z l hz => ?_
    split
    · exact heus z _ _ _ _ _ hz
    · exact hz
  unfold State.pollNode
  exact hsend _ _ (heus (s.grantLoads e) _ _ _ _ _ hgrant)

include hev

/-- The polls of a period touch the nodes, what waits for them, the slots and the messages sent (R402). -/
theorem State.pollAll_inv (s : State) (h : P s) : P s.pollAll := by
  unfold State.pollAll
  extract_lets due want s1
  have h1 : P s1 := by
    refine List.foldlRecOn (motive := fun a : State × Bool => P a.1) due _ h fun a ha e _ => ?_
    split
    · exact State.pollNode_inv heus hsend _ e ha
    · exact ha
  have hover : P (State.raise { s1 with eus := { s1.eus with overrunAt := some s.ticks } } Evt.POLL_OVERRUN 0 want 46) := by
    rw [State.raise_eq_ev]
    exact hev _ _ (heus s1 _ _ _ _ _ h1)
  split
  · exact h1
  · split
    · split
      · exact h1
      · exact hover
    · exact hover

end Polls

/-- The device beacon has gone out, and its flag is told (R396). -/
def State.beaconed (s : State) (p : Nat × Nat × Nat × Option Nat) (m : Msg) : Prop :=
  (s.eus.count, s.eus.startTick, s.eus.modem, s.eus.handover) = p ∧ s.time.flagEusor = false ∧ m ∈ s.out

theorem State.beaconed_pollAll {s : State} {p : Nat × Nat × Nat × Option Nat} {m : Msg} (h : s.beaconed p m) : s.pollAll.beaconed p m :=
  State.pollAll_inv (P := fun z => z.beaconed p m) (fun _ _ _ _ _ _ hz => hz)
    (fun _ _ hz => ⟨hz.1, hz.2.1, List.mem_append_left _ hz.2.2⟩) (fun _ _ hz => hz) s h

theorem State.showEusor_keeps {β : Type} (g : State → β) (hput : ∀ (z : State) v, g (z.put Ent.EUSOR_STATUS 0 0 v) = g z) (s : State) :
    g s.showEusor = g s := hput ..

theorem execBeaconPeriodStart_off {s : State} (h : s.flag Ent.EUSOR_ENABLE = false) (offset c1 c2 : Nat) (heard : Bool) :
    execBeaconPeriodStart offset c1 c2 heard s = .next s := if_pos (by simp [h])

/-- A period start of an enabled network (R395 to R399). -/
theorem execBeaconPeriodStart_on {s : State} (h : s.flag Ent.EUSOR_ENABLE = true) (offset c1 c2 : Nat) (heard : Bool) :
    ∃ t, execBeaconPeriodStart offset c1 c2 heard s = .next t ∧ t.eus.count = (s.eus.count + 1) % 2 ^ 48 ∧ t.eus.startTick = s.ticks ∧
      (s.eus.handover.isSome = true → t.eus.modem = 1 - s.eus.modem) ∧ t.eus.handover = none ∧
      (s.eus.handover = none → s.modemUp = true → (s.keyOf 3).isSome = true →
        t.time.flagEusor = false ∧ ∃ m ∈ t.out, m.port = .eusor ∧ m.dest = 0xFF ∧ m.kind = .beacon) := by
  unfold execBeaconPeriodStart
  rw [if_neg (by simp [h])]
  dsimp only
  generalize hs0 : State.takeMains { s with eus := { s.eus with deaf := if heard then 0 else s.eus.deaf + 1 } } c1 c2 = s0
  have h0 : s0.period = (s.eus.count, s.ticks, s.eus.modem, s.eus.handover, s.val Ent.EUSOR_ENABLE, s.die, s.keys) :=
    hs0 ▸ State.takeMains_period ..
  have h1 := s0.beginPeriod_period
  generalize s0.beginPeriod = s1 at h1 ⊢
  simp only [State.period, Prod.mk.injEq] at h0 h1
  obtain ⟨hcount0, hstart0, hmodem0, hover0, hval0, hdie0, hkeys0⟩ := h0
  obtain ⟨hcount1, hstart1, hmodem1, hover1, hval1, hdie1, hkeys1⟩ := h1
  rw [hcount0] at hcount1
  rw [hstart0] at hstart1
  rw [hmodem0, hover0] at hmodem1
  have hmodem : s.eus.handover.isSome = true → s1.eus.modem = 1 - s.eus.modem := fun hsome => by rw [hmodem1, if_pos hsome]
  cases hon : s1.eusorOn with
  | false =>
    rw [if_pos (by simp)]
    have heus : s1.showEusor.eus = s1.eus := State.showEusor_keeps State.eus (fun _ _ => State.put_eus ..) s1
    refine ⟨_, rfl, ?_, ?_, ?_, ?_, fun hnone hup hkey => absurd hon ?_⟩
    · rw [heus, hcount1]
    · rw [heus, hstart1]
    · rw [heus]
      exact hmodem
    · rw [heus, hover1]
    · have hflag : s1.flag Ent.EUSOR_ENABLE = true := by
        rw [State.flag_def, hval1, hval0, ← State.flag_def, h]
      have hup1 : s1.modemUp = s.modemUp := by
        rw [State.modemUp, hmodem1, hnone, hdie1, hdie0]
        rfl
      have hkey1 : s1.keyOf 3 = s.keyOf 3 := by rw [State.keyOf, hkeys1, hkeys0, State.keyOf]
      simp [State.eusorOn, hflag, hup1, hup, hkey1, hkey]
  | true =>
    rw [if_neg (by simp)]
    have hsent : ∃ m : Msg, m.port = .eusor ∧ m.dest = 0xFF ∧ m.kind = .beacon ∧
        (s1.sendBeacon (offset % 1000000)).beaconed (s1.eus.count, s1.eus.startTick, s1.eus.modem, s1.eus.handover) m :=
      ⟨_, rfl, rfl, rfl, rfl, rfl, List.mem_append_right _ (List.mem_singleton_self _)⟩
    obtain ⟨m, hport, hdest, hkind, hbeacon⟩ := hsent
    obtain ⟨hnet, htold, hmem⟩ := State.beaconed_pollAll hbeacon
    generalize (s1.sendBeacon (offset % 1000000)).pollAll = s2 at hnet htold hmem ⊢
    simp only [Prod.mk.injEq] at hnet
    obtain ⟨hcount2, hstart2, hmodem2, hover2⟩ := hnet
    have heus : s2.showEusor.eus = s2.eus := State.showEusor_keeps State.eus (fun _ _ => State.put_eus ..) s2
    have htime : s2.showEusor.time = s2.time := State.showEusor_keeps State.time (fun _ _ => State.put_time ..) s2
    have hout : s2.showEusor.out = s2.out := State.showEusor_keeps State.out (fun _ _ => State.put_out ..) s2
    refine ⟨_, rfl, ?_, ?_, ?_, ?_, fun _ _ _ => ⟨?_, m, ?_, hport, hdest, hkind⟩⟩
    · rw [heus, hcount2, hcount1]
    · rw [heus, hstart2, hstart1]
    · rw [heus, hmodem2]
      exact hmodem
    · rw [heus, hover2, hover1]
    · rw [htime, htold]
    · rwa [hout]

/-! ### The mains -/

section Mains
variable {s : State} {measured : Nat} (hon : s.flag Ent.EUSOR_ENABLE = true) (hbad : s.mainsOk (1000 * measured) = false)
include hon hbad

theorem execZcLost_again (h : s.eus.lost = true) : execZcLost measured s = .next { s with eus := { s.eus with crossings := 0 } } := by
  unfold execZcLost
  rw [if_neg (by simp [hon, hbad]), if_pos h]
  rfl

/-- The crossings lost show, with their event (R395). -/
theorem execZcLost_told (h : s.eus.lost = false) : ∃ t, execZcLost measured s = .next t ∧
    t.eus = { s.eus with lost := true, crossings := 0, periodNs := s.nominalPeriod } ∧ s.raised t Evt.ZC_LOST 0 measured 0 ∧
      s.cellsKept t [Ent.EUSOR_STATUS.key] := by
  unfold execZcLost
  rw [if_neg (by simp [hon, hbad]), if_neg (by simp [h])]
  generalize hz : ({ s with eus := { s.eus with lost := true, crossings := 0, periodNs := s.nominalPeriod } } : State) = z
  have hstamp : z.showEusor.stamp = s.stamp := (State.showEusor_keeps State.stamp (fun _ _ => State.put_stamp ..) z).trans (hz ▸ rfl)
  refine ⟨_, rfl, ?_, State.raised_of_stamp hstamp .., ?_⟩
  · rw [State.raise_eq_ev]
    exact (State.showEusor_keeps State.eus (fun _ _ => State.put_eus ..) z).trans (hz ▸ rfl)
  · unfold State.showEusor
    exact State.cellsKept_congr (State.cellsKept_put (State.cellsKept_of_cells (hz ▸ rfl) _) _ (List.mem_singleton_self _)) (State.raiseWith_cells ..)

end Mains

/-! ### Polls -/

/-- Where a node stands with its polls. -/
def State.polling (s : State) (e : Nat) : Bool × Nat × Val := ((s.node e).polled, (s.node e).runs, s.val Ent.NODE_STATE e)

theorem NodeBlind.polling (e : Nat) : NodeBlind (fun s => s.polling e) (· ≠ Ent.NODE_STATE.key e) where
  put _ _ _ _ _ _ hk := by simp only [State.polling, State.node, State.put_eus, State.val_put_ne _ _ _ _ _ _ _ _ (Ne.symm hk)]
  event _ _ := rfl
  free _ _ := rfl
  proxies _ _ := rfl
  heavy _ _ _ := rfl

theorem State.polling_setNode {s : State} {e : Nat} {k : NodeSt} (h : k.polled = (s.node e).polled ∧ k.runs = (s.node e).runs) :
    (s.setNode e k).polling e = s.polling e := by
  have hval : (s.setNode e k).val Ent.NODE_STATE e = s.val Ent.NODE_STATE e := rfl
  rw [State.polling, State.node_setNode_same, h.1, h.2, hval, State.polling]

theorem Entry.key_ne_nodeState {f : Entry} (h : f.sub < 256 ∧ f.sub ≠ 4) (n m : Nat) : f.key n ≠ Ent.NODE_STATE.key m :=
  Entry.key_ne_of_sub ⟨h.1, by decide, h.2⟩ n m

theorem State.formLoads_polling (s : State) (e : Nat) : s.formLoads.polling e = s.polling e :=
  State.formLoads_blind (NodeBlind.polling e) ⟨Entry.key_ne_nodeState (by decide) 0 e, Entry.key_ne_nodeState (by decide) 0 e,
    Entry.key_ne_nodeState (by decide) 0 e⟩ s

/-- A reply's messages leave where the node stands with its polls (R402). -/
theorem State.nodeMessage_polling (s : State) (e : Nat) (m : Nat × List Byte) : (s.nodeMessage e m).polling e = s.polling e := by
  have hpoints (z : State) (pts : List NodePoint) : (z.takePoints e pts).polling e = z.polling e := by
    unfold State.takePoints
    exact State.each_keeps z pts _ (fun y => y.polling e) fun y p => State.polling_setNode ⟨rfl, rfl⟩
  unfold State.nodeMessage
  split
  · unfold State.takeReply
    have hstatus (z : State) (v : Val) : (z.put Ent.NODE_STATUS e 0 v).polling e = z.polling e :=
      (NodeBlind.polling e).put z Ent.NODE_STATUS e 0 v rfl (Entry.key_ne_nodeState (f := Ent.NODE_STATUS) (by decide) e e)
    have hload (z : State) (v : Nat) : (z.fitNat Ent.AUX_LOAD e v).polling e = z.polling e :=
      State.fitNat_own (NodeBlind.polling e).toOwnBlind rfl (Entry.key_ne_nodeState (f := Ent.AUX_LOAD) (by decide) e e) z v
    rw [State.formLoads_polling, hpoints, State.setNat_eq, hstatus, hload]
  · exact State.polling_setNode ⟨rfl, rfl⟩
  · extract_lets op
    split
    · rfl
    · rfl
  · rfl

/-- A good reply ends the poll, and a lost node is online (R402, R403). -/
theorem State.goodReply_ends (s : State) (e : Nat) : ((s.goodReply e).node e).polled = false ∧ ((s.goodReply e).node e).runs = 0 ∧
    (s.nodeState e = Node.LOST → (s.goodReply e).nodeState e = Node.ONLINE) := by
  unfold State.goodReply
  extract_lets k rn s1 eus s2 st
  have hnode : s2.node e = { k with runs := 0, sent := [], polled := false, routeNext := rn, rxCount := k.rxCount + 1 } :=
    State.node_setNode_same s e _
  have hset (x : Nat) : ((s2.setNodeState e x).node e = s2.node e) ∧ (s2.setNodeState e x).nodeState e = x :=
    ⟨State.node_of_network (State.setNodeState_blind NodeBlind.network trivial trivial ..) e,
      (State.nat_congr (State.showEusor_blind (NodeBlind.val Ent.NODE_STATE e 0) (Entry.key_ne_of_network (by decide) e) _)).trans
        (State.nat_setNat_same ..)⟩
  have hst : st = s.nodeState e := rfl
  obtain ⟨hkept, honline⟩ := hset Node.ONLINE
  clear_value s2
  split
  · next hadmitting =>
    have hraise : ((s2.setNodeState e Node.ONLINE).raise Evt.NODE_ADMITTED e (low 32 (s2.nat Ent.NODE_UID e)) (s2.nat Ent.HOPS e)).node e =
        (s2.setNodeState e Node.ONLINE).node e :=
      State.node_of_network (State.raise_own NodeBlind.network.toOwnBlind ..) e
    rw [hraise, hkept, hnode]
    refine ⟨rfl, rfl, fun hlost => ?_⟩
    rw [hst, hlost] at hadmitting
    exact absurd hadmitting (by decide)
  · split
    · rw [hkept, hnode]
      exact ⟨rfl, rfl, fun _ => honline⟩
    · next hlost =>
      rw [hnode]
      exact ⟨rfl, rfl, fun h => absurd (by rw [hst, h]; rfl) hlost⟩

theorem execPollReply_answers {s : State} {e : Fin 128} (h : (s.node e).polled = true) (data : List Byte) :
    ∃ t, execPollReply e data s = .next t ∧ (t.node e).polled = false ∧ (t.node e).runs = 0 ∧
      (s.nodeState e = Node.LOST → t.nodeState e = Node.ONLINE) := by
  unfold execPollReply
  rw [if_neg (by simp [h])]
  dsimp only
  generalize hs0 : (s.noteControl e false (s.pollSeg e) true).noteControl e true (s.replySeg e) true = s0
  have hstate : s0.nodeState e = s.nodeState e := by
    rw [← hs0]
    exact (State.noteControl_keeps (fun z => z.nodeState e) (fun _ _ _ => rfl) (fun _ _ => rfl) ..).trans
      (State.noteControl_keeps (fun z => z.nodeState e) (fun _ _ _ => rfl) (fun _ _ => rfl) ..)
  obtain ⟨hpolled, hruns, honline⟩ := s0.goodReply_ends e
  generalize s0.goodReply e = s1 at hpolled hruns honline ⊢
  obtain ⟨t, ht⟩ : ∃ t, t = (s1.each (nodeMessages 256 data) fun z m => z.nodeMessage e m).showLink e := ⟨_, rfl⟩
  have hpolling : t.polling e = s1.polling e := by
    rw [ht]
    exact (State.showLink_blind (NodeBlind.polling e) (Entry.key_ne_nodeState (by decide) e e) _).trans
      (State.each_keeps s1 _ _ (fun z => z.polling e) fun z m => z.nodeMessage_polling e m)
  simp only [State.polling, Prod.mk.injEq] at hpolling
  obtain ⟨hpolled1, hruns1, hval⟩ := hpolling
  refine ⟨t, congrArg Host.Outcome.next ht.symm, hpolled1.trans hpolled, hruns1.trans hruns, fun hlost => ?_⟩
  exact (State.nat_congr hval).trans (honline (hstate.trans hlost))

/-- What a failed poll counts on: the node's retries and runs, the reserve, its hops, its failures. -/
def State.failing (s : State) (e : Nat) : Nat × Nat × Nat × Val × Val :=
  ((s.node e).retries, (s.node e).runs, s.eus.reserve, s.val Ent.HOPS e, s.val Ent.POLL_FAILS e)

theorem State.failing_setLink (s : State) (e : Nat) (back : Bool) (l : LinkMap) : (s.setLink e back l).failing e = s.failing e := by
  have hnode : ((s.setLink e back l).node e).retries = (s.node e).retries ∧ ((s.setLink e back l).node e).runs = (s.node e).runs := by
    rw [State.setLink, State.node_setNode_same]
    cases back
    · exact ⟨rfl, rfl⟩
    · exact ⟨rfl, rfl⟩
  have hrest : (s.setLink e back l).eus.reserve = s.eus.reserve ∧ (s.setLink e back l).val Ent.HOPS e = s.val Ent.HOPS e ∧
      (s.setLink e back l).val Ent.POLL_FAILS e = s.val Ent.POLL_FAILS e := ⟨rfl, rfl, rfl⟩
  rw [State.failing, hnode.1, hnode.2, hrest.1, hrest.2.1, hrest.2.2, State.failing]

/-- A poll sent again in the reserve slots (R402). -/
def State.retried (s : State) (e : Nat) : State :=
  State.sendPoll (State.setNode { s with eus := { s.eus with reserve := s.eus.reserve + 2 * s.hopsOf e } } e
    { (s.node e) with retries := (s.node e).retries + 1 }) e s.eus.reserve true

theorem State.retried_retries (s : State) (e : Nat) : ((s.retried e).node e).retries = (s.node e).retries + 1 ∧
    ((s.retried e).node e).polled = true ∧ (s.retried e).eus.reserve = s.eus.reserve + 2 * s.hopsOf e ∧
    (s.retried e).nat Ent.POLL_FAILS e = s.nat Ent.POLL_FAILS e := by
  have hsend (z : State) (slot : Nat) : ((z.sendPoll e slot true).node e).retries = (z.node e).retries ∧
      ((z.sendPoll e slot true).node e).polled = true := by
    unfold State.sendPoll
    have hout (y : State) (m : Msg) : (y.send m).node e = y.node e := rfl
    dsimp only
    rw [hout, State.node_setNode_same]
    exact ⟨rfl, rfl⟩
  obtain ⟨hretries, hpolled⟩ := hsend (State.setNode { s with eus := { s.eus with reserve := s.eus.reserve + 2 * s.hopsOf e } } e
    { (s.node e) with retries := (s.node e).retries + 1 }) s.eus.reserve
  refine ⟨hretries.trans ?_, hpolled, rfl, rfl⟩
  rw [State.node_setNode_same]

/-- A poll that failed for good; ten in a row lose the node (R403). -/
def State.pollFailed (s : State) (e : Nat) : State :=
  let s2 := s.setNode e { (s.node e) with runs := (s.node e).runs + 1, polled := false }
  if (s.node e).runs + 1 == 10 && (s2.nodeState e == Node.ONLINE || s2.nodeState e == Node.ADMITTING) then
    ((s2.setNodeState e Node.LOST).formLoads).raise Evt.NODE_LOST e ((s.node e).runs + 1) (s2.nat Ent.HOPS e)
  else s2

theorem State.pollFailed_fails (s : State) (e : Nat) : ((s.pollFailed e).node e).runs = (s.node e).runs + 1 ∧
    ((s.pollFailed e).node e).polled = false ∧ (s.pollFailed e).nat Ent.POLL_FAILS e = s.nat Ent.POLL_FAILS e := by
  unfold State.pollFailed
  extract_lets k s2
  have hnode : s2.node e = { (s.node e) with runs := (s.node e).runs + 1, polled := false } := State.node_setNode_same ..
  have hfails : s2.nat Ent.POLL_FAILS e = s.nat Ent.POLL_FAILS e := rfl
  clear_value s2
  split
  · have hkept {β : Type} {g : State → β} {K : Nat → Prop} (hg : NodeBlind g K) (hstate : K (Ent.NODE_STATE.key e))
        (hnet : ∀ f : Entry, f.base = 0xA180 ∧ f.sub < 256 → K f.key) (n p q : Nat) :
        g (((s2.setNodeState e Node.LOST).formLoads).raise Evt.NODE_LOST n p q) = g s2 :=
      (State.raise_own hg.toOwnBlind ..).trans ((State.formLoads_blind hg ⟨hnet _ (by decide), hnet _ (by decide), hnet _ (by decide)⟩ _).trans
        (State.setNodeState_blind hg hstate (hnet _ (by decide)) ..))
    rw [State.node_of_network (hkept NodeBlind.network trivial (fun _ _ => trivial) ..), hnode]
    refine ⟨rfl, rfl, (State.nat_congr (hkept (NodeBlind.val Ent.POLL_FAILS e 0) ?_ (fun f hf => ?_) ..)).trans hfails⟩
    · exact Entry.key_ne_of_sub (by decide) e e
    · exact Entry.key_ne_of_network ⟨hf.1, rfl, hf.2⟩ e
  · rw [hnode]
    exact ⟨rfl, rfl, hfails⟩

/-- A failure counted for the node, its segment and the links of its route (R403, R401, R406). -/
def State.countFail (s : State) (e : Nat) (back : Bool) : State :=
  let s0 := (s.noteControl e back (if back then s.replySeg e else s.pollSeg e) false).bump Ent.POLL_FAILS e
  { s0 with eus := { s0.eus with links := (routeLinks (s.routeOf e)).foldl (fun t l => Tab.set t l (Tab.get 0 t l + 1)) s0.eus.links } }

theorem execPollFail_eq {s : State} {e : Fin 128} (h : (s.node e).polled = true) (dir : Fin 2) {z : State}
    (hz : z = s.countFail e (dir.val == 1)) : execPollFail e dir s = .next
      (if (z.node e).retries < 2 && decide (z.eus.reserve + 2 * z.hopsOf e ≤ 8) then z.retried e else z.pollFailed e) := by
  unfold execPollFail
  rw [if_neg (by simp [h]), apply_ite Host.Outcome.next, State.pollFailed, apply_ite Host.Outcome.next, hz]
  rfl

theorem State.countFail_counts {s : State} {e : Nat} (hfit : s.nat Ent.POLL_FAILS e + 1 < 2 ^ Ent.POLL_FAILS.type.bits) (back : Bool) :
    ((s.countFail e back).node e).retries = (s.node e).retries ∧ ((s.countFail e back).node e).runs = (s.node e).runs ∧
      (s.countFail e back).eus.reserve = s.eus.reserve ∧ (s.countFail e back).hopsOf e = s.hopsOf e ∧
      (s.countFail e back).nat Ent.POLL_FAILS e = s.nat Ent.POLL_FAILS e + 1 := by
  unfold State.countFail
  dsimp only
  generalize hs0 : s.noteControl e back (if back then s.replySeg e else s.pollSeg e) false = s0
  have h0 : s0.failing e = s.failing e := hs0 ▸ State.noteControl_keeps (fun z => z.failing e) (fun z b l => z.failing_setLink e b l)
    (fun _ _ => rfl) ..
  simp only [State.failing, Prod.mk.injEq] at h0
  obtain ⟨hretries, hruns, hreserve, hhops, hfails⟩ := h0
  have hfails0 : s0.nat Ent.POLL_FAILS e = s.nat Ent.POLL_FAILS e := State.nat_congr hfails
  rw [State.bump_of_fits (by rwa [hfails0]), hfails0]
  generalize hs1 : s0.setNat Ent.POLL_FAILS e (s.nat Ent.POLL_FAILS e + 1) = s1
  have heus : s1.eus = s0.eus := hs1 ▸ State.put_eus ..
  have hnode : s1.node e = s0.node e := by rw [State.node, heus, State.node]
  have hhops1 : s1.nat Ent.HOPS e = s.nat Ent.HOPS e := hs1 ▸ (State.nat_put_sub _ (by decide) _ _ _).trans (State.nat_congr hhops)
  have hcount : s1.nat Ent.POLL_FAILS e = s.nat Ent.POLL_FAILS e + 1 := hs1 ▸ State.nat_setNat_same ..
  exact ⟨(congrArg NodeSt.retries hnode).trans hretries, (congrArg NodeSt.runs hnode).trans hruns, (congrArg EusorSt.reserve heus).trans hreserve,
    congrArg (max 1) hhops1, hcount⟩

/-- A failed poll is counted, and retried while the reserve holds it (R403). -/
theorem execPollFail_fails {s : State} {e : Fin 128} (h : (s.node e).polled = true)
    (hfit : s.nat Ent.POLL_FAILS e + 1 < 2 ^ Ent.POLL_FAILS.type.bits) (dir : Fin 2) :
    ∃ t, execPollFail e dir s = .next t ∧ t.nat Ent.POLL_FAILS e = s.nat Ent.POLL_FAILS e + 1 ∧
      ((s.node e).retries < 2 → s.eus.reserve + 2 * s.hopsOf e ≤ 8 → (t.node e).retries = (s.node e).retries + 1 ∧
        (t.node e).polled = true ∧ t.eus.reserve = s.eus.reserve + 2 * s.hopsOf e) ∧
      (2 ≤ (s.node e).retries → (t.node e).runs = (s.node e).runs + 1 ∧ (t.node e).polled = false) := by
  have hexec := execPollFail_eq h dir rfl
  obtain ⟨hretries, hruns, hreserve, hhops, hcount⟩ := State.countFail_counts hfit (dir.val == 1)
  generalize s.countFail e (dir.val == 1) = z at hexec hretries hruns hreserve hhops hcount
  rw [hretries, hreserve, hhops] at hexec
  by_cases hroom : (s.node e).retries < 2 ∧ s.eus.reserve + 2 * s.hopsOf e ≤ 8
  · rw [if_pos (by simp [hroom])] at hexec
    obtain ⟨hagain, hpolled, hused, hkept⟩ := z.retried_retries e
    exact ⟨_, hexec, hkept.trans hcount, fun _ _ => ⟨by rw [hagain, hretries], hpolled, by rw [hused, hreserve, hhops]⟩,
      fun hmany => absurd hroom.1 (by omega)⟩
  · rw [if_neg (by simpa using hroom)] at hexec
    obtain ⟨hrun, hended, hkept⟩ := z.pollFailed_fails e
    exact ⟨_, hexec, hkept.trans hcount, fun hfew hfree => absurd ⟨hfew, hfree⟩ hroom, fun _ => ⟨by rw [hrun, hruns], hended⟩⟩

/-! ### Frames and accesses -/

theorem execDataFrame_answers {s : State} {e : Fin 128} (hnode : Node.ADMITTING ≤ s.nodeState e) (hon : s.eusorOn = true) (start : Nat)
    (blocks : List (List Byte)) {mask : Nat}
    (hmask : mask = ofBits (((blocks.take 32).zipIdx).filterMap (fun b => if blockOk b.1 then some b.2 else none))) :
    ∃ t, execDataFrame e start blocks s = .next t ∧ t.out = s.out ++ [⟨.eusor, e, .selectiveAck, [(mask : Int)], leBytes 4 mask⟩] := by
  have hadmitted : ¬ s.nodeState e < Node.ADMITTING := Nat.not_lt.2 hnode
  unfold execDataFrame
  rw [if_neg (by simp [hadmitted, hon])]
  dsimp only
  rw [← hmask]
  generalize hs1 : s.each (s.airPlan (s.node e).back (blocks.take 32) start (2 * s.mainsCycle))
    (fun (z : State) (b : List Byte × Nat) => z.noteBlock e true b.2 (blockOk b.1)) = s1
  have hout : s1.out = s.out := by
    rw [← hs1]
    exact State.each_keeps s _ _ State.out fun z b => State.noteBlock_keeps State.out (fun _ _ _ => rfl) (fun _ _ => rfl) z true _ _
  refine ⟨_, rfl, ?_⟩
  unfold State.showLink
  rw [State.setNat_eq, State.put_out]
  exact congrArg (· ++ [_]) hout

theorem State.mem_flows_noteBlock {s : State} {f : Flow} (h : f ∈ s.eus.flows) (e : Nat) (back : Bool) (seg : Nat) (good : Bool) :
    f ∈ (s.noteBlock e back seg good).eus.flows := by
  rw [State.noteBlock_eq]
  split
  · rw [State.markStale_eq]
    split
    · exact h
    · exact List.mem_append_left _ h
  · exact h

theorem mem_map_replace {α : Type} [DecidableEq α] {l : List α} {a : α} (h : a ∈ l) (b : α) : b ∈ l.map fun x => if x == a then b else x :=
  List.mem_map.2 ⟨a, h, if_pos (by simp)⟩

theorem State.showLink_leaves (s : State) (e : Nat) : (s.showLink e).eus = s.eus ∧ (s.showLink e).out = s.out ∧
    (s.showLink e).free = s.free := by
  unfold State.showLink
  exact ⟨State.put_eus .., State.put_out .., State.put_free ..⟩

/-- The blocks a flow has left after an access (R394). -/
def Flow.again (f : Flow) (mask : Nat) : List (Nat × Nat) :=
  (f.blocks.filter fun b => !((f.aired.zipIdx).filterMap (fun x => if bit mask x.2 then some x.1.1 else none)).contains b.1).map fun b =>
    if f.aired.any (fun a => a.1 == b.1) then (b.1, b.2 + 1) else b

/-- Blocks not acknowledged wait for another access (R394, R405). -/
theorem State.settleAccess_waits {s : State} {f : Flow} (hmem : f ∈ s.eus.flows) {mask : Nat} (hsome : f.again mask ≠ [])
    (hfew : ∀ b ∈ f.again mask, b.2 ≤ 3) :
    { f with blocks := f.again mask, aired := [], cw := if f.kind = 4 then 16 else 8 } ∈ (s.settleAccess f (bit mask) false).eus.flows ∧
      (s.settleAccess f (bit mask) false).out = s.out := by
  unfold State.settleAccess
  extract_lets acked again base g s1 spent rest
  have hspent : spent = false := by
    rw [List.any_eq_false]
    intro b hb
    have := hfew b hb
    simp
    omega
  have hkept : f ∈ s1.eus.flows ∧ s1.out = s.out := by
    refine List.foldlRecOn (motive := fun z : State => f ∈ z.eus.flows ∧ z.out = s.out) _ _ ⟨hmem, rfl⟩ fun z hz x _ => ?_
    exact ⟨State.mem_flows_noteBlock hz.1 .., (State.noteBlock_keeps State.out (fun _ _ _ => rfl) (fun _ _ => rfl) ..).trans hz.2⟩
  rw [if_neg (show ¬ again.isEmpty = true from fun h => hsome (List.isEmpty_iff.1 h)), if_neg (by simp [hspent])]
  refine ⟨?_, hkept.2⟩
  have hg : g = { f with blocks := f.again mask, aired := [], cw := if f.kind = 4 then 16 else 8 } := by
    simp only [g, base, beq_iff_eq]
    rfl
  rw [← hg]
  exact mem_map_replace hkept.1 g

theorem State.airedFlow_mem {s : State} {e : Nat} {f : Flow} (h : s.airedFlow e = some f) : f ∈ s.eus.flows := List.mem_of_find?_eq_some h

section Access
variable {s : State} {e : Fin 128} {start : Nat} {f : Flow} (hon : s.eusorOn = true) (hquiet : s.airedFlow e = none)
  (hflow : s.eus.flows.find? (fun x => x.node == e.val) = some f) (hstart : 23000000 ≤ start)
include hquiet hflow

/-- With none on air to the node its oldest flow is not on air. -/
theorem aired_of_quiet : f.aired.isEmpty = true := by
  have hall := List.find?_eq_none.1 hquiet f (List.mem_of_find?_eq_some hflow)
  have hnode := List.find?_some (p := fun x : Flow => x.node == e.val) hflow
  simpa [hnode] using hall

include hon hstart

/-- An access in the contention region sends what ends before the guard, and a sounding sends no block (R405). -/
theorem execContentionAccess_eq (failed : Bool) {sounds : Bool} (hsounds : sounds = (f.kind == 1 || f.kind == 2)) {air : List ((Nat × Nat) × Nat)}
    (hair : air = if sounds then [] else s.airPlan (s.node e).out (f.blocks.take 32) (start + frameHead) s.dataLimit)
    (hsends : (air.isEmpty && !sounds) = false) {s0 s1 : State} (hs0 : s0 = s.takeFree.2)
    (hs1 : s1 = (((s0.bump Ent.NODE_BLOCKS_SENT e 0 air.length).bump Ent.BLOCKS_RESENT e 0 (air.filter fun x => decide (0 < x.1.2)).length).setNode e
      { (s0.node e) with txCount := (s0.node e).txCount + 1 }).send ⟨.eusor, e, flowKind f.kind,
        (s.takeFree.1 % f.cw : Nat) :: (f.kind : Int) :: air.map (fun x => (x.1.1 : Int)),
        air.flatMap fun x => dataBlock x.1.1 ((f.body.drop (512 * x.1.1)).take 512)⟩) :
    execContentionAccess e start failed s = .next (
      if failed then { s0 with eus := { s0.eus with flows := s0.eus.flows.map fun x => if x == f then { f with cw := min 64 (f.cw * 2) } else x } }
      else if sounds then { s1 with eus := { s1.eus with flows := s1.eus.flows.erase f } }
      else { s1 with eus := { s1.eus with flows := s1.eus.flows.map fun x =>
        if x == f then { f with aired := air.map fun x => (x.1.1, x.2) } else x } }) := by
  have hidle := aired_of_quiet hquiet hflow
  have hin : decide (start < 23000000) = false := by simp [hstart]
  unfold execContentionAccess
  rw [if_neg (by simp [hon]), hquiet]
  dsimp only
  rw [hflow]
  dsimp only
  rw [if_neg (by simp [hidle]), if_neg (by simp [hidle, hin]), ← hsounds, ← hair, if_neg (by simp [hsends]), apply_ite Host.Outcome.next,
    apply_ite Host.Outcome.next, hs1, hs0]
  rfl

end Access

/-- What an access sends beside its message: two counters and the node's frame count. -/
theorem State.bumps_leave (s : State) (e a b : Nat) (k : NodeSt) (m : Msg) :
    ((((s.bump Ent.NODE_BLOCKS_SENT e 0 a).bump Ent.BLOCKS_RESENT e 0 b).setNode e k).send m).eus.flows = s.eus.flows ∧
    ((((s.bump Ent.NODE_BLOCKS_SENT e 0 a).bump Ent.BLOCKS_RESENT e 0 b).setNode e k).send m).out = s.out ++ [m] := by
  have heus (z : State) (f : Entry) (v : Nat) : (z.bump f e 0 v).eus = z.eus ∧ (z.bump f e 0 v).out = z.out := by simp
  obtain ⟨heus1, hout1⟩ := heus s Ent.NODE_BLOCKS_SENT a
  obtain ⟨heus2, hout2⟩ := heus (s.bump Ent.NODE_BLOCKS_SENT e 0 a) Ent.BLOCKS_RESENT b
  have hflows := congrArg EusorSt.flows (heus2.trans heus1)
  exact ⟨hflows, congrArg (· ++ [m]) (hout2.trans hout1)⟩

theorem execModemHandover_due {s : State} {cause : Fin 3} (hon : s.flag Ent.EUSOR_ENABLE = true)
    (hhalf : (if s.eus.modem = 0 then s.die.lkB else s.die.lkA) = true) (hnone : s.eus.handover = none) (hfailed : cause.val = 0 → s.modemUp = false)
    (hdeaf : cause.val = 1 → 2 ≤ s.eus.deaf) :
    execModemHandover cause s = .next { s with eus := { s.eus with handover := some cause.val } } := by
  have hreason : ¬((cause.val == 0 && s.modemUp) || (cause.val == 1 && decide (s.eus.deaf < 2))) = true := by
    simp only [Bool.or_eq_true, Bool.and_eq_true, beq_iff_eq, decide_eq_true_eq, not_or, not_and]
    exact ⟨fun h => by simp [hfailed h], fun h => Nat.not_lt.2 (hdeaf h)⟩
  unfold execModemHandover
  rw [if_neg hreason]
  exact congrArg Host.Outcome.next (if_pos (by simpa [hon, hnone] using hhalf))

/-- Settles O50: each command by what it meets. -/
theorem powerlinePeriodsPollsAndAccesses : Obligations.PowerlinePeriodsPollsAndAccesses := by
  unfold Obligations.PowerlinePeriodsPollsAndAccesses
  intro s
  refine ⟨fun offset c1 c2 heard => ?_, fun measured hon hbad => ⟨execZcLost_told hon hbad, fun hlost => ⟨_, execZcLost_again hon hbad hlost, rfl⟩⟩,
    fun e data => ?_, fun e dir => ⟨fun hidle => ⟨s, if_pos (by simp [hidle]), rfl⟩, fun hpolled hfit => execPollFail_fails hpolled hfit dir⟩,
    fun e start blocks hnode hon => execDataFrame_answers hnode hon start blocks rfl, fun e mask => ⟨fun hquiet => ?_, ?_⟩,
    ?_, fun cause hon hhalf hnone hfailed hdeaf => ⟨_, execModemHandover_due hon hhalf hnone hfailed hdeaf, rfl⟩⟩
  · cases hon : s.flag Ent.EUSOR_ENABLE with
    | false => exact ⟨s, execBeaconPeriodStart_off hon offset c1 c2 heard, fun _ => rfl, fun h => absurd h (by decide)⟩
    | true =>
      obtain ⟨t, hexec, hcount, hstart, hmodem, hover, hbeacon⟩ := execBeaconPeriodStart_on hon offset c1 c2 heard
      exact ⟨t, hexec, fun h => absurd h (by decide), fun _ => ⟨hcount, hstart, fun hsome => ⟨hmodem hsome, hover⟩, hbeacon⟩⟩
  · cases hpolled : (s.node e).polled with
    | false => exact ⟨s, if_pos (by simp [hpolled]), fun _ => rfl, fun h => absurd h (by decide)⟩
    | true =>
      obtain ⟨t, hexec, hanswered⟩ := execPollReply_answers hpolled data
      exact ⟨t, hexec, fun h => absurd h (by decide), fun _ => hanswered⟩
  · exact ⟨s, by simp only [exec, execSelectiveAck, hquiet, ok], rfl⟩
  · intro f haired acked again
    obtain ⟨heus, hout, -⟩ := (s.settleAccess f (bit mask) false).showLink_leaves e
    refine ⟨(s.settleAccess f (bit mask) false).showLink e, by simp only [exec, execSelectiveAck, haired, ok], fun hsome hfew => ?_⟩
    obtain ⟨hmem, hsent⟩ := State.settleAccess_waits (State.airedFlow_mem haired) hsome hfew
    exact ⟨heus ▸ hmem, hout.trans hsent⟩
  · intro e start f hon hquiet hflow hstart air
    have hmem : f ∈ s.eus.flows := List.mem_of_find?_eq_some hflow
    refine ⟨fun hmap hsound hair => ?_, fun hsounds => ?_⟩
    · have hexec (failed : Bool) := execContentionAccess_eq hon hquiet hflow hstart failed (sounds := false) (air := air)
        (by simp [hmap, hsound]) rfl (by simpa using hair) rfl rfl
      obtain ⟨hflows, hout⟩ := State.bumps_leave s.takeFree.2 e air.length (air.filter fun x => decide (0 < x.1.2)).length
        { (s.takeFree.2.node e) with txCount := (s.takeFree.2.node e).txCount + 1 } ⟨.eusor, e, flowKind f.kind,
          (s.takeFree.1 % f.cw : Nat) :: (f.kind : Int) :: air.map (fun x => (x.1.1 : Int)),
          air.flatMap fun x => dataBlock x.1.1 ((f.body.drop (512 * x.1.1)).take 512)⟩
      refine ⟨⟨_, hexec true, mem_map_replace hmem _, rfl, rfl⟩, ⟨_, _, hexec false, hout, rfl, rfl, rfl, ?_⟩⟩
      refine mem_map_replace (a := f) ?_ _
      rw [hflows]
      exact hmem
    · have hexec := execContentionAccess_eq hon hquiet hflow hstart false (sounds := true) (air := []) (by simpa using hsounds) rfl rfl rfl rfl
      obtain ⟨hflows, hout⟩ := State.bumps_leave s.takeFree.2 e 0 0
        { (s.takeFree.2.node e) with txCount := (s.takeFree.2.node e).txCount + 1 } ⟨.eusor, e, flowKind f.kind,
          [(s.takeFree.1 % f.cw : Nat), (f.kind : Int)], []⟩
      refine ⟨_, _, hexec, hout, rfl, rfl, ?_, congrArg (List.erase · f) hflows⟩
      obtain h | h := hsounds
      · rw [h]
        rfl
      · rw [h]
        rfl

end Sys2Proof.Machine
end

section
/-!
PROOFS. Key slots and tamper (O52): updates, challenges, confirmations and certificates of a slot, the tamper causes and what they
take, and the keys that return (R420 to R430).
-/
namespace Sys2Proof.Machine
open Sys2Proof

/-! ### A slot changed -/

/-- A slot as it is kept: one that holds nothing forgets its usage (R421). -/
def SlotSt.kept (q : SlotSt) : SlotSt := if q.active.isNone && q.pending.isNone then { q with usage := 0, alg := 0, activeSfn := 0 } else q

theorem SlotSt.kept_of_active {q : SlotSt} (h : q.active.isSome = true) : q.kept = q := by
  rw [SlotSt.kept, if_neg]
  obtain ⟨m, hm⟩ := Option.isSome_iff_exists.1 h
  simp [hm]

theorem SlotSt.kept_of_pending {q : SlotSt} (h : q.pending.isSome = true) : q.kept = q := by
  rw [SlotSt.kept, if_neg]
  obtain ⟨m, hm⟩ := Option.isSome_iff_exists.1 h
  simp [hm]

theorem SlotSt.kept_of_none {q : SlotSt} (ha : q.active = none) (hp : q.pending = none) :
    q.kept = { q with usage := 0, alg := 0, activeSfn := 0 } := by
  rw [SlotSt.kept, if_pos (by simp [ha, hp])]

/-- What a slot holds does not go with its usage. -/
theorem SlotSt.kept_holds (q : SlotSt) : q.kept.active = q.active ∧ q.kept.pending = q.pending ∧ q.kept.counter = q.counter ∧
    q.kept.challenge = q.challenge := by
  unfold SlotSt.kept
  split
  · exact ⟨rfl, rfl, rfl, rfl⟩
  · exact ⟨rfl, rfl, rfl, rfl⟩

theorem State.slot_of_keys {s t : State} (h : t.keys = s.keys) (k : Nat) : t.slot k = s.slot k :=
  congrArg (fun x : KeySt => Tab.get SlotSt.empty x.slots k) h

theorem State.setSlot_slot (s : State) (k : Nat) (q : SlotSt) : (s.setSlot k q).slot k = q.kept := by
  unfold State.setSlot
  rw [State.slot_of_keys (State.showSlot_keeps State.keys (fun _ _ _ _ => State.put_keys ..) _ k)]
  exact Tab.get_set_same ..

/-- Another slot set shows in the slots' keys alone. -/
theorem State.setSlot_keeps {β : Type} (g : State → β) (hput : ∀ (z : State) (e : Entry) n v, g (z.put e n 0 v) = g z)
    (hkeys : ∀ (z : State) x, g { z with keys := x } = g z) (s : State) (k : Nat) (q : SlotSt) : g (s.setSlot k q) = g s := by
  unfold State.setSlot
  exact (State.showSlot_keeps g hput ..).trans (hkeys ..)

theorem State.slot_setBytes (s : State) (e : Entry) (n k : Nat) (v : List Byte) : (s.setBytes e n v).slot k = s.slot k :=
  State.slot_of_keys (State.put_keys ..) k

theorem State.slot_answerLater (s : State) (h : Held) (st k : Nat) : (s.answerLater h st []).slot k = s.slot k :=
  State.slot_of_keys (State.answerLater_keys ..) k

theorem State.bytes_setBytes_same (s : State) (e : Entry) (n : Nat) (v : List Byte) : (s.setBytes e n v).bytes e n = v := by
  rw [State.bytes_def, State.setBytes_eq, State.val_put_same]
  rfl

/-- A key committed is an event, and the beacon key that follows it (R427). -/
theorem State.keyCommitted_keeps {β : Type} (g : State → β) (hev : ∀ (z : State) x, g { z with ev := x } = g z)
    (heus : ∀ (z : State) x, g { z with eus := x } = g z) (s : State) (k mode usage : Nat) : g (s.keyCommitted k mode usage) = g s := by
  have hraise (z : State) (i p q : Nat) : g (z.raise Evt.KEY_WRITTEN i p q) = g z := by rw [State.raise_eq_ev, hev]
  have hrenew (z : State) : g z.renewBeaconKey = g z := by
    unfold State.renewBeaconKey
    split
    · exact heus ..
    · extract_lets b
      split
      · exact heus ..
      · exact (State.each_keeps _ _ _ g fun y e => heus ..).trans (heus ..)
  unfold State.keyCommitted
  extract_lets s1
  split
  · exact (hrenew _).trans (hraise ..)
  · exact hraise ..

/-! ### A key update -/

/-- The checks of an update read the keys and the values from the key store on (R421). -/
theorem State.keyStatus_congr {s z : State} (hkeys : z.keys = s.keys) (hval : ∀ e n, 0xB000 ≤ e.base → z.val e n = s.val e n) (k : Nat)
    (m : List Byte) : z.keyStatus k m = s.keyStatus k m := by
  have hnat {e : Entry} (he : 0xB000 ≤ e.base) (n : Nat) : z.nat e n = s.nat e n := State.nat_congr (hval e n he)
  have hflag {e : Entry} (he : 0xB000 ≤ e.base) (n : Nat) : z.flag e n = s.flag e n := by rw [State.flag_def, hval e n he, State.flag_def]
  have hbytes {e : Entry} (he : 0xB000 ≤ e.base) (n : Nat) : z.bytes e n = s.bytes e n := by rw [State.bytes_def, hval e n he, State.bytes_def]
  have hissuer (id : List Byte) : z.issuerKey id = s.issuerKey id := by
    simp (disch := decide) only [State.issuerKey, hnat, hflag, hbytes]
  have hunwrap : z.unwrap m = s.unwrap m := by simp (disch := decide) only [State.unwrap, hnat]
  simp (disch := decide) only [State.keyStatus, hissuer, hunwrap, hnat, State.slot_of_keys hkeys, hkeys]

theorem Entry.key_ne_tags {e : Entry} (he : 0xB000 ≤ e.base) (n : Nat) :
    e.key n 0 ≠ Ent.TAGS_IN_USE.key 0 0 ∧ e.key n 0 ≠ Ent.TAGS_HIGH_WATER.key 0 0 := by
  rw [Entry.key, Entry.key, Entry.key]
  simp only [Ent.TAGS_IN_USE, Ent.TAGS_HIGH_WATER]
  omega

/-- The checks of an update do not see the tag it takes. -/
theorem State.keyStatus_takeTag (s : State) (a : Nat) (c : Option Nat) (k : Nat) (m : List Byte) :
    (s.takeTag a c).keyStatus k m = s.keyStatus k m :=
  State.keyStatus_congr (State.takeTag_keys ..) (fun e n he => s.val_takeTag a c e n 0 (Entry.key_ne_tags he n).1 (Entry.key_ne_tags he n).2) k m

theorem State.keyStatus_taken (s : State) (h : Held) (k : Nat) (m : List Byte) : (s.taken h).keyStatus k m = s.keyStatus k m :=
  State.keyStatus_congr (State.taken_keeps State.keys (fun _ _ _ _ => rfl) s h)
    (fun e n he => s.val_taken h e n 0 (Entry.key_ne_tags he n).1 (Entry.key_ne_tags he n).2) k m

/-- The key of an update is the message's or one made on the device; only the free value goes with it. -/
theorem State.keyFrom_state (s : State) (m : List Byte) : (s.keyFrom m).2.keys = s.keys ∧ (s.keyFrom m).2.sfn = s.sfn ∧
    (s.keyFrom m).2.ticks = s.ticks := by
  unfold State.keyFrom
  split
  · exact ⟨rfl, rfl, rfl⟩
  · exact ⟨rfl, rfl, rfl⟩

section Update
variable {s : State} {k : Nat} {m : List Byte}

theorem applyKeyUpdate_denied (h : s.keyStatus k m ≠ St.OK) :
    applyKeyUpdate k m s = (s.raise Evt.KEY_REFUSED k (s.keyStatus k m) (kuCounter m), s.keyStatus k m) := if_pos (by simpa using h)

variable (h : s.keyStatus k m = St.OK)
include h

/-- An erasing update empties the slot, which keeps its counter or takes the message's (R421). -/
theorem applyKeyUpdate_erases (herase : kuErase m = true) : ∃ u, applyKeyUpdate k m s = (u, St.OK) ∧ (u.slot k).active = none ∧
    (u.slot k).pending = none ∧ (u.slot k).usage = 0 ∧
    (u.slot k).counter = if s.nat Ent.KEY_WRITE_MODE = 0 then kuCounter m else (s.slot k).counter := by
  unfold applyKeyUpdate
  dsimp only
  rw [if_neg (by simp [h]), if_pos herase]
  have hslot (z : State) (mode usage : Nat) : (z.keyCommitted k mode usage).slot k = z.slot k :=
    State.slot_of_keys (State.keyCommitted_keeps State.keys (fun _ _ => rfl) (fun _ _ => rfl) ..) k
  refine ⟨_, rfl, ?_⟩
  rw [hslot, State.slot_setBytes, State.setSlot_slot, SlotSt.kept_of_none rfl rfl]
  exact ⟨rfl, rfl, rfl, by simp only [beq_iff_eq]⟩

/-- Under a signed update the key is active at once (R421). -/
theorem applyKeyUpdate_signed (hkey : kuErase m = false) (hmode : s.nat Ent.KEY_WRITE_MODE = 0) : ∃ u, applyKeyUpdate k m s = (u, St.OK) ∧
    (u.slot k).active.isSome = true ∧ (u.slot k).usage = kuUsage m ∧ (u.slot k).alg = kuAlg m ∧ (u.slot k).counter = kuCounter m ∧
    (u.slot k).activeSfn = s.sfn := by
  obtain ⟨-, hsfn, -⟩ := s.keyFrom_state m
  unfold applyKeyUpdate
  dsimp only
  rw [if_neg (by simp [h]), if_neg (by simp [hkey]), if_pos (by simp [hmode])]
  have hslot (z : State) (mode usage : Nat) : (z.keyCommitted k mode usage).slot k = z.slot k :=
    State.slot_of_keys (State.keyCommitted_keeps State.keys (fun _ _ => rfl) (fun _ _ => rfl) ..) k
  refine ⟨_, rfl, ?_⟩
  rw [hslot, State.setSlot_slot, SlotSt.kept_of_active rfl]
  exact ⟨rfl, rfl, rfl, rfl, hsfn⟩

/-- Under dual control the key is pending (R422). -/
theorem applyKeyUpdate_dual (hkey : kuErase m = false) (hmode : s.nat Ent.KEY_WRITE_MODE ≠ 0) : ∃ u, applyKeyUpdate k m s = (u, St.OK) ∧
    (u.slot k).pending.isSome = true ∧ (u.slot k).pendingAt = s.ticks ∧ (u.slot k).active = (s.slot k).active := by
  obtain ⟨-, -, hticks⟩ := s.keyFrom_state m
  unfold applyKeyUpdate
  dsimp only
  rw [if_neg (by simp [h]), if_neg (by simp [hkey]), if_neg (by simpa using hmode)]
  have hraise (z : State) (a p q : Nat) : (z.raise Evt.KEY_PENDING a p q).slot k = z.slot k := by
    rw [State.raise_eq_ev]
    rfl
  refine ⟨_, rfl, ?_⟩
  rw [hraise, State.slot_setBytes, State.setSlot_slot, SlotSt.kept_of_pending rfl]
  exact ⟨rfl, hticks, rfl⟩

end Update

theorem applyKeyUpdate_status (s : State) (k : Nat) (m : List Byte) : (applyKeyUpdate k m s).2 = s.keyStatus k m := by
  by_cases h : s.keyStatus k m = St.OK
  · rw [h]
    cases herase : kuErase m with
    | true =>
      obtain ⟨u, hu, -⟩ := applyKeyUpdate_erases h herase
      rw [hu]
    | false =>
      by_cases hmode : s.nat Ent.KEY_WRITE_MODE = 0
      · obtain ⟨u, hu, -⟩ := applyKeyUpdate_signed h herase hmode
        rw [hu]
      · obtain ⟨u, hu, -⟩ := applyKeyUpdate_dual h herase hmode
        rw [hu]
  · rw [applyKeyUpdate_denied h]

section Receipt
variable {s : State} {c : Client} {k : Nat} {msg : List Byte} {h : Held} (ha : s.accepts c Ent.KEY_UPDATE k (.bytes msg) h)
include ha

/-- A refused update is answered on receipt, with its event (R421). -/
theorem execKeyUpdate_refused (hst : s.keyStatus k msg ≠ St.OK) : ∃ t, execKeyUpdate c k msg s = .next t ∧ t.keys = s.keys ∧
    t.out.getLast? = some (h.answer (s.keyStatus k msg)) ∧ s.raised t Evt.KEY_REFUSED k (s.keyStatus k msg) (kuCounter msg) := by
  obtain ⟨x, tag, hconn, hheader, hnew, htag, -, rfl, hpass⟩ := ha
  have hact := applyKeyUpdate_denied (s := s.takeTag tag (some c.conn)) (k := k) (m := msg) (by rwa [State.keyStatus_takeTag])
  rw [State.keyStatus_takeTag] at hact
  generalize hz : (s.takeTag tag (some c.conn)).raise Evt.KEY_REFUSED k (s.keyStatus k msg) (kuCounter msg) = z at hact
  refine ⟨_, by simp [execKeyUpdate, State.receiveRequest, hconn, hheader, hnew, htag, hpass, hact, hst, ok]; rfl, ?_, ?_, ?_⟩
  · rw [State.refuse_keys, ← hz, State.raise_eq_ev]
    exact State.takeTag_keys ..
  · simp [State.refuse, State.send, Held.answer]
  · rw [State.raised, State.refuse_ev, ← hz]
    exact State.raised_of_stamp (by simp [State.stamp]) ..

theorem execKeyUpdate_applies (hst : s.keyStatus k msg = St.OK) {u : State} (hact : applyKeyUpdate k msg (s.taken h) = (u, St.OK)) :
    execKeyUpdate c k msg s = .next (u.answerLater h St.OK []) := by
  obtain ⟨x, tag, hconn, hheader, hnew, htag, happly, rfl, hpass⟩ := ha
  have happly' : (s.takeTag tag (some c.conn)).applying = true := by simpa [State.applying] using happly
  have hcheck : (applyKeyUpdate k msg (s.takeTag tag (some c.conn))).2 = St.OK := by rw [applyKeyUpdate_status, State.keyStatus_takeTag, hst]
  rw [State.taken] at hact
  simp [execKeyUpdate, State.receiveRequest, hconn, hheader, hnew, htag, hpass, hcheck, happly', hact, ok]

end Receipt

/-! ### The other requests of a slot -/

/-- A challenge is held by its slot, and the response awaits it (R422). -/
theorem applyKeyChallenge_held (k : Nat) (v : List Byte) (s : State) : ∃ u, applyKeyChallenge k v s = (u, St.OK) ∧
    (u.slot k).challenge = some v ∧ (u.slot k).active = (s.slot k).active ∧ (u.slot k).pending = (s.slot k).pending ∧
    (u.slot k).counter = (s.slot k).counter ∧ u.bytes Ent.KEY_RESPONSE k = [] := by
  obtain ⟨hactive, hpending, hcounter, hchallenge⟩ := SlotSt.kept_holds { (s.slot k) with challenge := some v }
  refine ⟨_, rfl, ?_, ?_, ?_, ?_, State.bytes_setBytes_same ..⟩
  · rw [State.slot_setBytes, State.setSlot_slot, hchallenge]
  · rw [State.slot_setBytes, State.setSlot_slot, hactive]
  · rw [State.slot_setBytes, State.setSlot_slot, hpending]
  · rw [State.slot_setBytes, State.setSlot_slot, hcounter]

section Confirm
variable {s : State} {k v : Nat}

theorem applyKeyConfirm_idle (h : (s.slot k).pending = none) : applyKeyConfirm k v s = (s, St.CONFLICT) := by
  simp only [applyKeyConfirm, h]

theorem not_early_of_ready {m : KeyMat} (hresponse : s.bytes Ent.KEY_RESPONSE k ≠ [])
    (hcert : ((s.slot k).usage ≠ 1 ∧ (s.slot k).usage ≠ 2) ∨ m.cert ≠ []) :
    ¬((s.bytes Ent.KEY_RESPONSE k).isEmpty || (((s.slot k).usage == 1 || (s.slot k).usage == 2) && m.cert.isEmpty)) = true := by
  simp only [Bool.or_eq_true, Bool.and_eq_true, beq_iff_eq, List.isEmpty_iff, not_or, not_and]
  refine ⟨hresponse, fun husage hempty => ?_⟩
  obtain ⟨hone, htwo⟩ | hheld := hcert
  · exact husage.elim hone htwo
  · exact hheld hempty

variable {m : KeyMat} (h : (s.slot k).pending = some m)
include h

theorem applyKeyConfirm_early
    (hearly : s.bytes Ent.KEY_RESPONSE k = [] ∨ (((s.slot k).usage = 1 ∨ (s.slot k).usage = 2) ∧ m.cert = [])) :
    applyKeyConfirm k v s = (s, St.CONFLICT) := by
  unfold applyKeyConfirm
  simp only [h]
  exact if_pos (by simpa using hearly)

variable (hresponse : s.bytes Ent.KEY_RESPONSE k ≠ []) (hcert : ((s.slot k).usage ≠ 1 ∧ (s.slot k).usage ≠ 2) ∨ m.cert ≠ [])
include hresponse hcert

theorem applyKeyConfirm_other (hother : v ≠ leAt (sha256 (s.bytes Ent.KEY_RESPONSE k)) 0 8) : applyKeyConfirm k v s = (s, St.RANGE) := by
  have hready := not_early_of_ready hresponse hcert
  unfold applyKeyConfirm
  simp only [h]
  rw [if_neg hready]
  exact if_pos (by simpa using hother)

/-- A confirmed key is the active one (R422). -/
theorem applyKeyConfirm_confirms (hsame : v = leAt (sha256 (s.bytes Ent.KEY_RESPONSE k)) 0 8) : ∃ u, applyKeyConfirm k v s = (u, St.OK) ∧
    (u.slot k).active = some m ∧ (u.slot k).pending = none ∧ (u.slot k).counter = low 32 ((s.slot k).counter + 1) := by
  have hready := not_early_of_ready hresponse hcert
  have hslot (z : State) (mode usage : Nat) : (z.keyCommitted k mode usage).slot k = z.slot k :=
    State.slot_of_keys (State.keyCommitted_keeps State.keys (fun _ _ => rfl) (fun _ _ => rfl) ..) k
  unfold applyKeyConfirm
  simp only [h]
  rw [if_neg hready, if_neg (by simp [hsame])]
  refine ⟨_, rfl, ?_⟩
  rw [hslot, State.slot_setBytes, State.setSlot_slot, SlotSt.kept_of_active rfl]
  exact ⟨rfl, rfl, rfl⟩

end Confirm

section Certificate
variable {s : State} {k : Nat} {v : List Byte}

/-- A certificate fits the key its leaf's public key is of. -/
def SlotSt.fits (q : SlotSt) (v : List Byte) (x : Option KeyMat) : Bool :=
  (x.map fun m => q.alg != 1 && publicKey q.alg m == Config.certKey v).getD false

theorem applySlotCert_eq (k : Nat) (v : List Byte) (s : State) : applySlotCert k v s =
    if (s.slot k).fits v (s.slot k).active then
      (s.setSlot k { (s.slot k) with active := (s.slot k).active.map fun m => { m with cert := v } }, St.OK)
    else if (s.slot k).fits v (s.slot k).pending then
      (s.setSlot k { (s.slot k) with pending := (s.slot k).pending.map fun m => { m with cert := v } }, St.OK)
    else (s, St.RANGE) := by
  unfold applySlotCert
  extract_lets q leaf fits with_
  have hfits (x : Option KeyMat) : fits x = q.fits v x := by
    cases x with
    | none => rfl
    | some m => rfl
  rw [hfits, hfits]

theorem applySlotCert_active (h : (s.slot k).fits v (s.slot k).active = true) : ∃ u, applySlotCert k v s = (u, St.OK) ∧
    (u.slot k).active = (s.slot k).active.map (fun m => { m with cert := v }) ∧ (u.slot k).pending = (s.slot k).pending := by
  rw [applySlotCert_eq, if_pos h]
  obtain ⟨hactive, hpending, -, -⟩ :=
    SlotSt.kept_holds { (s.slot k) with active := (s.slot k).active.map fun m => { m with cert := v } }
  exact ⟨_, rfl, by rw [State.setSlot_slot, hactive], by rw [State.setSlot_slot, hpending]⟩

variable (h : (s.slot k).fits v (s.slot k).active = false)
include h

theorem applySlotCert_pending (hpending : (s.slot k).fits v (s.slot k).pending = true) : ∃ u, applySlotCert k v s = (u, St.OK) ∧
    (u.slot k).active = (s.slot k).active ∧ (u.slot k).pending = (s.slot k).pending.map (fun m => { m with cert := v }) := by
  rw [applySlotCert_eq, if_neg (by simp [h]), if_pos hpending]
  obtain ⟨hactive, hheld, -, -⟩ :=
    SlotSt.kept_holds { (s.slot k) with pending := (s.slot k).pending.map fun m => { m with cert := v } }
  exact ⟨_, rfl, by rw [State.setSlot_slot, hactive], by rw [State.setSlot_slot, hheld]⟩

theorem applySlotCert_other (hpending : (s.slot k).fits v (s.slot k).pending = false) : applySlotCert k v s = (s, St.RANGE) := by
  rw [applySlotCert_eq, if_neg (by simp [h]), if_neg (by simp [hpending])]

end Certificate

/-- A pending key expires with its event (R422). -/
theorem execKeyPendingExpired_expires {s : State} {k : Fin 64} (h : (s.slot k).pending.isSome = true)
    (hage : (s.slot k).pendingAt + secTicks (s.nat Ent.KEY_PENDING_TIMEOUT) ≤ s.ticks) : ∃ t, execKeyPendingExpired k s = .next t ∧
      (t.slot k).pending = none ∧ (t.slot k).challenge = none ∧ (t.slot k).active = (s.slot k).active ∧
      (t.slot k).counter = (s.slot k).counter ∧
      s.raised t Evt.KEY_PENDING_EXPIRED k (low 32 (keyId (s.slot k).alg (s.slot k).pending)) 0 := by
  obtain ⟨hactive, hpending, hcounter, hchallenge⟩ := SlotSt.kept_holds { (s.slot k) with pending := none, challenge := none }
  have hraise (z : State) (a p q : Nat) : (z.raise Evt.KEY_PENDING_EXPIRED a p q).slot k = z.slot k := by
    rw [State.raise_eq_ev]
    rfl
  have hstamp : ((s.setSlot k { (s.slot k) with pending := none, challenge := none }).setBytes Ent.KEY_RESPONSE k []).stamp = s.stamp :=
    (State.put_stamp ..).trans (State.setSlot_keeps State.stamp (fun _ _ _ _ => State.put_stamp ..) (fun _ _ => rfl) ..)
  unfold execKeyPendingExpired
  dsimp only
  rw [if_pos (by simp [h, hage])]
  refine ⟨_, rfl, ?_, ?_, ?_, ?_, State.raised_of_stamp hstamp ..⟩
  · rw [hraise, State.slot_setBytes, State.setSlot_slot, hpending]
  · rw [hraise, State.slot_setBytes, State.setSlot_slot, hchallenge]
  · rw [hraise, State.slot_setBytes, State.setSlot_slot, hactive]
  · rw [hraise, State.slot_setBytes, State.setSlot_slot, hcounter]

/-! ### Tamper -/

/-- The keys, the connections and the powerline key. -/
def State.secrets (s : State) : KeySt × Tab Conn × List Byte := (s.keys, s.tx.conns, s.eus.key)

theorem State.put_secrets (s : State) (e : Entry) (n j : Nat) (v : Val) : (s.put e n j v).secrets = s.secrets := by
  simp only [State.secrets, State.put_keys, State.put_tx, State.put_eus]

/-- Zeroise takes every key, the connections and the powerline key, and moves the epoch (R430). -/
theorem State.zeroise_clears (s : State) (all : Bool) : (s.zeroise all).secrets =
    ({ s.keys with slots := [], held := false, burnt := s.keys.burnt || all, lostAt := some s.ticks, zeroised := true, rewrap := none
                   epoch := min 63 (s.keys.epoch + 1) }, [], []) := by
  have hend (z : State) (o : Nat) : (if z.sesLive o then z.endSession o End.SECURITY_FAILURE true else z).secrets = z.secrets := by
    split
    · exact State.endSession_keeps State.secrets (fun _ _ => rfl) (fun _ _ _ _ => rfl) o (fun _ _ => State.put_secrets ..) ..
    · rfl
  unfold State.zeroise
  refine (State.each_keeps _ _ _ State.secrets hend).trans ((State.put_secrets ..).trans ((State.put_secrets ..).trans ?_))
  exact State.each_keeps _ _ _ State.secrets fun z k => (State.put_secrets ..).trans
    (State.showSlot_keeps State.secrets (fun _ _ _ _ => State.put_secrets ..) z k)

/-- A tamper told is a matter of the event log (R429). -/
theorem State.tellTamper_keeps {β : Type} (g : State → β) (hev : ∀ (z : State) x, g { z with ev := x } = g z) (s : State) (x : Nat × Nat × Nat) :
    g (s.tellTamper x) = g s := by
  have hraise (z : State) (k : EvKind) (i p q : Nat) : g (z.raise k i p q) = g z := by rw [State.raise_eq_ev, hev]
  unfold State.tellTamper
  exact (State.when_keeps _ _ _ g fun z => hraise ..).trans (hraise ..)

/-- KY's own log takes a tamper, and nothing else of the keys' standing moves (R429). -/
theorem State.noteTamper_secrets (s : State) (c act : Nat) : ∃ n, (s.noteTamper c act).secrets =
    ({ s.keys with log := (c, act, s.keys.epoch) :: s.keys.log, untold := n }, s.tx.conns, s.eus.key) := by
  unfold State.noteTamper
  extract_lets x st dark keys s1
  refine ⟨s1.keys.untold, ?_⟩
  split
  · rfl
  · exact State.tellTamper_keeps State.secrets (fun _ _ => rfl) s1 x

/-- A tamper logged where the device is powered (R429). -/
theorem State.noteTamper_logged {s : State} (hoff : s.devState ≠ Dev.OFF) (hship : s.devState ≠ Dev.SHIP) (c : Nat) :
    s.noteTamper c 3 = State.raise { s with keys := { s.keys with log := (c, 3, s.keys.epoch) :: s.keys.log } } Evt.TAMPER c 3 s.keys.epoch := by
  have hlit : (s.nat Ent.DEVICE_STATE == Dev.OFF || s.nat Ent.DEVICE_STATE == Dev.SHIP) = false := by
    simpa [State.devState] using ⟨hoff, hship⟩
  unfold State.noteTamper
  simp only [hlit]
  rfl

section Tamper
variable {s : State} {cause : Fin 7} {run : Nat} {k : KyIn}

theorem execTamper_unmet (h : s.tampered cause run k = false) : execTamper cause run k s = .next s := if_pos (by simp [h])

variable (h : s.tampered cause run k = true) {cfg : Nat}
  (hcfg : cfg = if cause.val < 4 then s.nat Ent.TAMPER_CONFIG 0 cause else s.nat Ent.TAMPER_ENV_ACTION)
include h hcfg

/-- A cause whose condition holds acts as configured; without an epoch left the keys are lost for good (R429, R430). -/
theorem execTamper_acts {act : Nat} (hact : act = if cfg == 1 && s.keys.epoch ≥ 63 then 2 else cfg) : execTamper cause run k s =
    .next (if act == 0 then s.watchKy k else if act == 3 then (s.watchKy k).noteTamper cause 3
      else ((s.watchKy k).zeroise (act == 2)).noteTamper cause act) := by
  unfold execTamper
  dsimp only
  rw [if_neg (by simp [h]), ← hcfg, ← hact, apply_ite Host.Outcome.next, apply_ite Host.Outcome.next]
  rfl

theorem execTamper_ignored (hzero : cfg = 0) : execTamper cause run k s = .next (s.watchKy k) := by
  rw [execTamper_acts h hcfg rfl, hzero]
  rfl

theorem execTamper_logged (hthree : cfg = 3) : execTamper cause run k s = .next ((s.watchKy k).noteTamper cause 3) := by
  rw [execTamper_acts h hcfg rfl, hthree]
  rfl

/-- The keys are lost and the epoch moves (R430). -/
theorem execTamper_zeroises (hlose : cfg = 1 ∨ cfg = 2) : ∃ t, execTamper cause run k s = .next t ∧ t.keys.slots = [] ∧ t.keys.held = false ∧
    t.keys.zeroised = true ∧ t.keys.epoch = min 63 (s.keys.epoch + 1) ∧ t.keys.lostAt = some s.ticks ∧ t.tx.conns = [] ∧ t.eus.key = [] ∧
    (cfg = 2 → t.keys.burnt = true) ∧ (cfg = 1 → s.keys.epoch < 63 → t.keys.burnt = s.keys.burnt) := by
  obtain ⟨act, hact⟩ : ∃ act, act = if cfg == 1 && s.keys.epoch ≥ 63 then 2 else cfg := ⟨_, rfl⟩
  have hloses : act = 1 ∨ act = 2 := by
    rw [hact]
    split
    · exact .inr rfl
    · exact hlose
  have hburns : cfg = 2 → act = 2 := fun htwo => by
    rw [hact, htwo]
    rfl
  have hkeeps : cfg = 1 → s.keys.epoch < 63 → act = 1 := fun hone hleft => by
    rw [hact, hone, if_neg]
    simpa using hleft
  have hexec := execTamper_acts h hcfg hact
  rw [if_neg (by simp; omega), if_neg (by simp; omega)] at hexec
  have hclear := (s.watchKy k).zeroise_clears (act == 2)
  obtain ⟨n, hnote⟩ := ((s.watchKy k).zeroise (act == 2)).noteTamper_secrets cause act
  generalize (s.watchKy k).zeroise (act == 2) = z at hexec hclear hnote
  generalize z.noteTamper cause act = t at hexec hnote
  simp only [State.secrets, Prod.mk.injEq] at hclear hnote
  obtain ⟨hkeys, hconns, hkey⟩ := hclear
  obtain ⟨hkeys', hconns', hkey'⟩ := hnote
  rw [hkeys] at hkeys'
  refine ⟨t, hexec, by rw [hkeys'], by rw [hkeys'], by rw [hkeys'], by rw [hkeys']; rfl, by rw [hkeys']; rfl, hconns'.trans hconns,
    hkey'.trans hkey, fun htwo => ?_, fun hone hleft => ?_⟩
  · rw [hkeys', hburns htwo]
    exact Bool.or_true _
  · rw [hkeys', hkeeps hone hleft]
    exact Bool.or_false _

end Tamper

/-! ### Keys wrapped anew and derived again -/

/-- A rewrap done shows in its state and in every slot (R423). -/
theorem execRewrapDone_shows {s : State} {i : Nat} (hwrap : s.fw.wrapping = some i) (hheld : s.keys.held = true) :
    ∃ t, execRewrapDone s = .next t ∧ t.fw = { s.fw with wrapping := none } ∧ t.nat Ent.REWRAP_STATE = 1 ∧
      t.keys = { s.keys with rewrap := some (declared (s.manifest i))
                             seals := s.keys.seals.take 1 ++ [sealKey (s.bytes Ent.MEAS_BOOT) (declared (s.manifest i)) s.keys.epoch] } := by
  have hslot (z : State) (k : Nat) : (z.showSlot k).nat Ent.REWRAP_STATE = z.nat Ent.REWRAP_STATE := by
    unfold State.showSlot
    exact (State.nat_put_ne _ _ (Entry.key_ne_of_base (by decide)).symm).trans ((State.nat_put_ne _ _ (Entry.key_ne_of_base (by decide)).symm).trans
      ((State.nat_put_ne _ _ (Entry.key_ne_of_base (by decide)).symm).trans (State.nat_put_ne _ _ (Entry.key_ne_of_base (by decide)).symm)))
  unfold execRewrapDone
  rw [hwrap]
  dsimp only
  rw [if_neg (by simp [hheld])]
  generalize hs1 : ({ s with fw := { s.fw with wrapping := none }, keys := { s.keys with
    rewrap := some (declared (Tab.get ⟨[], []⟩ s.fw.slots i).manifest)
    seals := s.keys.seals.take 1 ++ [sealKey (s.bytes Ent.MEAS_BOOT) (declared (Tab.get ⟨[], []⟩ s.fw.slots i).manifest) s.keys.epoch] } } :
      State) = s1
  refine ⟨_, rfl, ?_, ?_, ?_⟩
  · rw [State.fw_raise, State.each_keeps _ _ _ State.fw fun z k => State.showSlot_keeps State.fw (fun _ _ _ _ => State.put_fw ..) z k, ← hs1]
    exact State.put_fw ..
  · rw [State.nat_raise, State.each_keeps _ _ _ (fun z => z.nat Ent.REWRAP_STATE) hslot, State.nat_setNat_same]
  · rw [State.raise_eq_ev]
    refine (State.each_keeps _ _ _ State.keys fun z k => State.showSlot_keeps State.keys (fun _ _ _ _ => State.put_keys ..) z k).trans ?_
    rw [← hs1]
    exact State.put_keys ..

/-- The keys derived, when they were lost, and the records that wait for them. -/
def State.derived (s : State) : Bool × Option Nat × List Unsigned := (s.keys.held, s.keys.lostAt, s.bill.unsigned)

theorem State.derived_blind : StreamBlind State.derived fun _ => True where
  put _ _ _ _ _ _ _ := by simp only [State.derived, State.put_keys, State.put_bill]
  event _ _ := rfl
  free _ _ := rfl
  stream _ _ := rfl

theorem State.put_derived (s : State) {e : Entry} (he : e.inSets = false) (n : Nat) (v : Val) : (s.put e n 0 v).derived = s.derived :=
  State.derived_blind.put _ _ _ _ _ he trivial

theorem State.signRecord_derived (s : State) (u : Unsigned) : (s.signRecord u).derived = s.derived := by
  unfold State.signRecord
  extract_lets seq alg body r full l bill s1 s2
  have h1 : s1.derived = s.derived := State.streamRecord_blind (t := 2) State.derived_blind trivial ..
  have h2 : s2.derived = s.derived := (State.put_derived _ rfl _ _).trans ((State.put_derived _ rfl _ _).trans h1)
  exact (State.raise_own State.derived_blind.toOwnBlind ..).trans ((State.when_keeps _ _ _ State.derived fun z =>
    State.bump_own State.derived_blind.toOwnBlind (e := Ent.SIGNED_OVERWRITTEN) rfl trivial ..).trans h2)

theorem State.issueCert_derived (s : State) (k : Nat) : (s.issueCert k).derived = s.derived := by
  unfold State.issueCert
  extract_lets pub subject body e
  split
  · rfl
  · rw [State.raise_own State.derived_blind.toOwnBlind, State.setBytes_eq, State.derived, State.put_keys, State.put_bill, State.derived]

theorem State.openGrotto_holds (s : State) : s.openGrotto.keys.held = true ∧ s.openGrotto.keys.lostAt = s.keys.lostAt := by
  unfold State.openGrotto
  extract_lets key keys s1
  have h1 : s1.keys.held = true ∧ s1.keys.lostAt = s.keys.lostAt := by
    simp only [s1]
    split
    · exact ⟨rfl, rfl⟩
    · exact ⟨rfl, rfl⟩
  have hkeys := State.each_keeps s1 (Tab.keys s.keys.stored) _ State.keys fun z k =>
    State.showSlot_keeps State.keys (fun _ _ _ _ => State.put_keys ..) z k
  rw [hkeys]
  exact h1

theorem State.issueWaiting_derived (s : State) : s.issueWaiting.derived = (s.keys.held, s.keys.lostAt, []) :=
  State.each_keeps { s with bill := { s.bill with unsigned := [] } } s.bill.unsigned _ State.derived fun z u => z.signRecord_derived u

theorem Dev.contains_iff {x : Nat} : [Dev.OFF, Dev.SHIP, Dev.RECOVERY, Dev.TEST].contains x = true ↔
    x = Dev.OFF ∨ x = Dev.SHIP ∨ x = Dev.RECOVERY ∨ x = Dev.TEST := by simp

section Rederive
variable {s : State} {b : Nat} (hlost : s.keys.lostAt = some b)
include hlost

theorem execKeysRederived_not (h : s.keys.burnt = true ∨ s.devState = Dev.OFF ∨ s.devState = Dev.SHIP ∨ s.inRecovery = true) :
    execKeysRederived s = .next s := by
  unfold execKeysRederived
  rw [hlost]
  dsimp only
  rw [if_pos]
  · rfl
  · rw [Bool.or_eq_true, Dev.contains_iff]
    simpa [State.inRecovery, State.devState] using h

/-- Lost keys return where the device runs and the roots stand (R430). -/
theorem execKeysRederived_returns (hroots : s.keys.burnt = false) (hoff : s.devState ≠ Dev.OFF) (hship : s.devState ≠ Dev.SHIP)
    (hrun : s.inRecovery = false) : ∃ t, execKeysRederived s = .next t ∧ t.keys.held = true ∧ t.keys.lostAt = none ∧ t.bill.unsigned = [] := by
  have hup : ¬(s.keys.burnt || [Dev.OFF, Dev.SHIP, Dev.RECOVERY, Dev.TEST].contains (s.nat Ent.DEVICE_STATE)) = true := by
    rw [Bool.or_eq_true, Dev.contains_iff]
    simp only [State.inRecovery, Bool.or_eq_false_iff, beq_eq_false_iff_ne] at hrun
    simp only [hroots, Bool.false_eq_true, false_or, not_or]
    exact ⟨hoff, hship, hrun.1, hrun.2⟩
  unfold execKeysRederived
  rw [hlost]
  dsimp only
  rw [if_neg hup]
  obtain ⟨hheld, hback⟩ := State.openGrotto_holds { s with keys := { s.keys with lostAt := none } }
  generalize State.openGrotto { s with keys := { s.keys with lostAt := none } } = s1 at hheld hback ⊢
  generalize hs2 : s1.each [0, 1, 2, 3] (fun z k => z.issueCert k) = s2
  have h2 : s2.derived = s1.derived := hs2 ▸ State.each_keeps s1 _ _ State.derived fun z k => z.issueCert_derived k
  have hend := (State.raise_own State.derived_blind.toOwnBlind s2.issueWaiting Evt.KEYS_REDERIVED 0 ((s.ticks - b) / 20) s2.keys.epoch).trans
    s2.issueWaiting_derived
  generalize s2.issueWaiting.raise Evt.KEYS_REDERIVED 0 ((s.ticks - b) / 20) s2.keys.epoch = t at hend ⊢
  simp only [State.derived, Prod.mk.injEq] at h2 hend
  obtain ⟨hheld2, hlost2, -⟩ := h2
  obtain ⟨hheld3, hlost3, hempty⟩ := hend
  exact ⟨t, rfl, hheld3.trans (hheld2.trans hheld), hlost3.trans (hlost2.trans hback), hempty⟩

end Rederive

/-- An accepted write answered with a status, from what its effect leaves of the keys. -/
theorem State.keyRequest_keeps {s u : State} {c : Client} {e : Entry} {n st : Nat} {v : Val} {h : Held} {act : State → State × Nat}
    (ha : s.accepts c e n v h) (hact : act (s.taken h) = (u, st)) (hu : u.keys = (s.taken h).keys) :
    ∃ t, ok (s.clientCommand c e n v act) = .next t ∧ t.repliesWith h st ∧ t.keys = s.keys :=
  ⟨_, congrArg Host.Outcome.next (State.clientCommand_effect ha rfl hact), State.answerLater_repliesWith ..,
    (State.answerLater_keys ..).trans (hu.trans (State.taken_keeps State.keys (fun _ _ _ _ => rfl) s h))⟩

/-- Settles O52: each request of a slot, the tamper causes by their action, and the keys wrapped anew and returned. -/
theorem keySlotsAndTamper : Obligations.KeySlotsAndTamper := by
  unfold Obligations.KeySlotsAndTamper
  intro s
  have hslot (h : Held) (k : Nat) : (s.taken h).slot k = s.slot k :=
    State.slot_of_keys (State.taken_keeps State.keys (fun _ _ _ _ => rfl) s h) k
  have hresponse (h : Held) (k : Nat) : (s.taken h).bytes Ent.KEY_RESPONSE k = s.bytes Ent.KEY_RESPONSE k := s.bytes_taken_of_base h (by decide) k
  have hmode (h : Held) : (s.taken h).nat Ent.KEY_WRITE_MODE = s.nat Ent.KEY_WRITE_MODE := s.nat_taken_of_base h (by decide) 0
  refine ⟨?_, fun c k v h ha _ => ?_, fun c k v h ha _ => ⟨fun hidle => ?_, fun m hm => ⟨fun hearly => ?_, fun hready hcert => ⟨fun hother => ?_,
    fun hsame => ?_⟩⟩⟩, ?_, fun k hpending hage => execKeyPendingExpired_expires hpending hage, ?_,
    fun i hwrap hheld => execRewrapDone_shows hwrap hheld, fun b hlost => ?_⟩
  · intro c k msg h ha _ st
    have hstatus (hst : st = St.OK) : (s.taken h).keyStatus k msg = St.OK := (s.keyStatus_taken h k msg).trans hst
    refine ⟨fun hst => execKeyUpdate_refused ha hst, fun hst herase => ?_, fun hst hkey hsigned => ?_, fun hst hkey hdual => ?_⟩
    · obtain ⟨u, hu, hactive, hpending, husage, hcounter⟩ := applyKeyUpdate_erases (hstatus hst) herase
      rw [hmode, hslot] at hcounter
      refine ⟨_, execKeyUpdate_applies ha hst hu, State.answerLater_repliesWith .., ?_⟩
      rw [State.slot_answerLater]
      exact ⟨hactive, hpending, husage, hcounter⟩
    · obtain ⟨u, hu, hnew⟩ := applyKeyUpdate_signed (hstatus hst) hkey ((hmode h).trans hsigned)
      rw [show (s.taken h).sfn = s.sfn from State.taken_keeps State.sfn (fun _ _ _ _ => rfl) s h] at hnew
      refine ⟨_, execKeyUpdate_applies ha hst hu, State.answerLater_repliesWith .., ?_⟩
      rw [State.slot_answerLater]
      exact hnew
    · obtain ⟨u, hu, hnew⟩ := applyKeyUpdate_dual (hstatus hst) hkey (by rwa [hmode])
      rw [show (s.taken h).ticks = s.ticks from State.taken_keeps State.ticks (fun _ _ _ _ => rfl) s h, hslot] at hnew
      refine ⟨_, execKeyUpdate_applies ha hst hu, State.answerLater_repliesWith .., ?_⟩
      rw [State.slot_answerLater]
      exact hnew
  · obtain ⟨u, hu, hchallenge, hactive, hpending, hcounter, hempty⟩ := applyKeyChallenge_held k v (s.taken h)
    refine ⟨_, congrArg Host.Outcome.next (State.clientCommand_effect ha rfl hu), State.answerLater_repliesWith .., ?_⟩
    rw [State.slot_answerLater, State.bytes_def, State.val_answerLater, ← State.bytes_def, hactive, hpending, hcounter, hslot]
    exact ⟨hchallenge, rfl, rfl, rfl, hempty⟩
  · exact State.keyRequest_keeps ha (applyKeyConfirm_idle (by rwa [hslot])) rfl
  · exact State.keyRequest_keeps ha (applyKeyConfirm_early (by rwa [hslot]) (by rwa [hslot, hresponse])) rfl
  · exact State.keyRequest_keeps ha (applyKeyConfirm_other (by rwa [hslot]) (by rwa [hresponse]) (by rwa [hslot]) (by rwa [hresponse])) rfl
  · obtain ⟨u, hu, hnew⟩ := applyKeyConfirm_confirms (s := s.taken h) (k := k) (v := v) (m := m) (by rwa [hslot]) (by rwa [hresponse])
      (by rwa [hslot]) (by rwa [hresponse])
    rw [hslot] at hnew
    refine ⟨_, congrArg Host.Outcome.next (State.clientCommand_effect ha rfl hu), State.answerLater_repliesWith .., ?_⟩
    rw [State.slot_answerLater]
    exact hnew
  · intro c k v h ha _ fits
    refine ⟨fun hfits => ?_, fun hno hfits => ?_, fun hno hneither => State.keyRequest_keeps ha (applySlotCert_other (by rw [hslot]; exact hno)
      (by rw [hslot]; exact hneither)) rfl⟩
    · obtain ⟨u, hu, hnew⟩ := applySlotCert_active (s := s.taken h) (k := k) (v := v) (by rw [hslot]; exact hfits)
      rw [hslot] at hnew
      refine ⟨_, congrArg Host.Outcome.next (State.clientCommand_effect ha rfl hu), State.answerLater_repliesWith .., ?_⟩
      rw [State.slot_answerLater]
      exact hnew
    · obtain ⟨u, hu, hnew⟩ := applySlotCert_pending (s := s.taken h) (k := k) (v := v) (by rw [hslot]; exact hno) (by rw [hslot]; exact hfits)
      rw [hslot] at hnew
      refine ⟨_, congrArg Host.Outcome.next (State.clientCommand_effect ha rfl hu), State.answerLater_repliesWith .., ?_⟩
      rw [State.slot_answerLater]
      exact hnew
  · intro cause run k cfg w
    refine ⟨fun hno => ⟨s, execTamper_unmet hno, rfl⟩, fun hmet => ⟨fun hzero => ⟨w, execTamper_ignored hmet rfl hzero, rfl⟩,
      fun hthree hoff hship => ?_, fun hlose => execTamper_zeroises hmet rfl hlose⟩⟩
    have hexec := execTamper_logged hmet rfl hthree
    rw [State.noteTamper_logged (s := s.watchKy k) hoff hship] at hexec
    refine ⟨_, hexec, ?_, State.raised_of_stamp (by rfl) .., ?_⟩
    · rw [State.raise_eq_ev]
      rfl
    · rw [State.raise_eq_ev]
      rfl
  · by_cases hnot : s.keys.burnt = true ∨ s.devState = Dev.OFF ∨ s.devState = Dev.SHIP ∨ s.inRecovery = true
    · refine ⟨s, execKeysRederived_not hlost hnot, fun _ => rfl, fun hroots hoff hship hrun => ?_⟩
      simp [hroots, hoff, hship, hrun] at hnot
    · obtain ⟨hroots, hoff, hship, hrun⟩ : s.keys.burnt = false ∧ s.devState ≠ Dev.OFF ∧ s.devState ≠ Dev.SHIP ∧ s.inRecovery = false := by
        simpa [not_or] using hnot
      obtain ⟨t, hexec, hback⟩ := execKeysRederived_returns hlost hroots hoff hship hrun
      exact ⟨t, hexec, fun h => absurd h hnot, fun _ _ _ _ => hback⟩

end Sys2Proof.Machine
end

section
/-!
PROOFS. Conversions, spare slices, slot tables and captures (O42): what a result block brings into its channels, and what of the measurement
stands when a dwell ends, a table is built, a slice retires and a capture starts or ends (R308 to R319, R14, R15).
-/
namespace Sys2Proof.Machine
open Sys2Proof

/-! ### Readings that a metering die's failure leaves -/

theorem State.meas_meter : MeterBlind State.meas where
  put _ _ _ _ _ _ _ := State.put_meas ..
  event _ _ := rfl
  free _ _ := rfl
  stream _ _ := rfl
  legal _ _ _ _ := rfl
  points _ _ := rfl
  sessions _ _ := rfl
  bill _ _ := rfl
  dies _ _ := rfl
  images _ _ := rfl

/-- Neither does a value count it that stands above those it moves. -/
theorem MeterBlind.nat {e : Entry} {n : Nat} (h : ¬ofMeterFault (e.key n)) : MeterBlind fun s => s.nat e n where
  toOwnBlind := (OwnBlind.nat e n 0).mono fun _ hk hkey => h (hkey ▸ hk)
  stream _ _ := rfl
  legal _ _ _ _ := rfl
  points _ _ := rfl
  sessions _ _ := rfl
  bill _ _ := rfl
  dies _ _ := rfl
  images _ _ := rfl

/-- What is measured shows no own value at all, whatever its key. -/
theorem State.meas_own : OwnBlind State.meas fun _ => True where
  put _ _ _ _ _ _ _ := State.put_meas ..
  event _ _ := rfl
  free _ _ := rfl

theorem State.failMeterFree_meas (s : State) (d : Nat) : (s.failMeterFree d).meas = s.meas := by
  unfold State.failMeterFree
  split
  · rfl
  · exact State.failMeter_meter State.meas_meter s.takeFree.2 ..

/-! ### Result blocks -/

/-- A die's own meter takes its conversions, and nothing else moves (R327). -/
theorem State.feedMeter_eq (s : State) (d : Nat) (ws : List Window) : ∃ m, s.feedMeter d ws = { s with meters := m } := by
  unfold State.feedMeter
  split
  · exact ⟨s.meters, rfl⟩
  · refine State.each_inv s s.enabledPoints _ (fun z => ∃ m, z = { s with meters := m }) ⟨s.meters, rfl⟩ fun z pt hz => ?_
    obtain ⟨m, rfl⟩ := hz
    exact ⟨_, rfl⟩

/-- A window is taken into its own channel, on its die's side (R14, R314). -/
theorem State.takeWindow_chans (s : State) (d : Nat) {w : Window} (hch : w.ch < 96) :
    ∃ k : DieChan, k.conversions = w.convs.length ∧ k.at_ = s.ticks ∧ (w.sequence = true → k.sequence = some s.ticks) ∧
      (s.takeWindow d w).meas.chans = Tab.set s.meas.chans w.ch ((s.chanSt w.ch).setDie d k) := by
  unfold State.takeWindow
  rw [if_neg (by omega)]
  extract_lets c k again latched cause ok off m was us xs all e k1 s1 s2 s3 src s4 s5 code
  refine ⟨k1, rfl, rfl, fun hsequence => if_pos hsequence, ?_⟩
  have h2 : s2.meas = s1.meas := by
    simp only [s2]
    split
    · rfl
    · exact State.put_meas ..
  have h3 : s3.meas = s2.meas := by
    simp only [s3]
    split
    · exact State.raise_own State.meas_own ..
    split
    · exact State.raise_own State.meas_own ..
    · rfl
  have h5 : s5.meas = s4.meas := by
    simp only [s5]
    split
    · rfl
    · exact State.bump_own State.meas_own rfl trivial ..
  have hchans : s5.meas.chans = Tab.set s.meas.chans w.ch (c.setDie d k1) := by
    rw [h5]
    show s3.meas.chans = _
    rw [h3, h2]
    rfl
  split
  · exact (congrArg MeasSt.chans (State.put_meas s5 Ent.MCH_STATUS ..)).trans hchans
  · exact (congrArg MeasSt.chans (State.put_meas s5 Ent.MCH_STATUS ..)).trans hchans

theorem State.takeWindow_other (s : State) (d : Nat) {w : Window} {ch : Nat} (h : w.ch ≠ ch) : (s.takeWindow d w).chanSt ch = s.chanSt ch := by
  by_cases hch : w.ch < 96
  · obtain ⟨k, -, -, -, hchans⟩ := s.takeWindow_chans d hch
    rw [State.chanSt, hchans, Tab.get_set_ne _ _ _ _ _ h.symm, State.chanSt]
  · rw [State.takeWindow, if_pos (by omega)]

theorem State.takeWindow_ticks (s : State) (d : Nat) (w : Window) : (s.takeWindow d w).ticks = s.ticks :=
  congrArg Prod.fst (State.takeWindow_clock s d w)

theorem ChanSt.die_setDie (c : ChanSt) (d : Nat) (k : DieChan) : (c.setDie d k).die d = k := by
  unfold ChanSt.die ChanSt.setDie
  split
  · rfl
  · rfl

/-- Of a list of windows a channel shows the one that is its own. -/
theorem State.takeWindows_own (s : State) (d : Nat) {l : List Window} {w : Window} (hch : w.ch < 96)
    (hone : l.filter (fun x => x.ch == w.ch) = [w]) :
    let k := ((s.each l fun z x => z.takeWindow d x).chanSt w.ch).die d
    k.conversions = w.convs.length ∧ k.at_ = s.ticks ∧ (w.sequence = true → k.sequence = some s.ticks) := by
  obtain ⟨before, after, rfl, hbefore, -, hafter⟩ := List.filter_eq_cons_iff.1 hone
  have hsplit : s.each (before ++ w :: after) (fun z x => z.takeWindow d x) =
      ((s.each before fun z x => z.takeWindow d x).takeWindow d w).each after fun z x => z.takeWindow d x := by simp [State.each]
  have hticks : (s.each before fun z x => z.takeWindow d x).ticks = s.ticks :=
    State.each_keeps _ _ _ State.ticks fun z x => z.takeWindow_ticks d x
  rw [hsplit]
  generalize s.each before (fun z x => z.takeWindow d x) = z at hticks ⊢
  have hrest : ((z.takeWindow d w).each after fun z x => z.takeWindow d x).chanSt w.ch = (z.takeWindow d w).chanSt w.ch := by
    refine State.each_inv_of_mem (fun y => y.chanSt w.ch = (z.takeWindow d w).chanSt w.ch) rfl fun y x hx hy => ?_
    have hother : x.ch ≠ w.ch := by simpa using List.filter_eq_nil_iff.1 hafter x hx
    exact (y.takeWindow_other d hother).trans hy
  obtain ⟨k, hconversions, hat, hsequence, hchans⟩ := z.takeWindow_chans d hch
  have hown : ((z.takeWindow d w).chanSt w.ch).die d = k := by
    rw [State.chanSt, hchans, Tab.get_set_same, ChanSt.die_setDie]
  rw [hrest, hown, ← hticks]
  exact ⟨hconversions, hat, hsequence⟩

/-- The window a channel's die brings, of the conversions that count. -/
def State.liveWindow (s : State) (d : Nat) (w : Window) : Window := { w with convs := w.convs.filter fun c => s.sliceCounts d c }

theorem State.windowsOf_own (s : State) (d : Nat) {ws : List Window} {w : Window} (hmem : w ∈ ws)
    (hone : ws.filter (fun x => x.ch == w.ch) = [w]) : (s.windowsOf d ws).filter (fun x => x.ch == w.ch) = [s.liveWindow d w] := by
  have hlive : (ws.map (s.liveWindow d)).filter (fun x => x.ch == w.ch) = [s.liveWindow d w] := by
    rw [List.filter_map]
    exact congrArg (List.map (s.liveWindow d)) hone
  unfold State.windowsOf
  extract_lets live shown
  rw [List.filter_append]
  have hnone : ((((List.range 96).filter fun ch => !ws.any (fun x => x.ch == ch) && !shown ch).map fun ch =>
      (⟨ch, [], false, false, 0, []⟩ : Window)).filter fun x => x.ch == w.ch) = [] := by
    refine List.filter_eq_nil_iff.2 fun x hx hsame => ?_
    obtain ⟨ch, hch, rfl⟩ := List.mem_map.1 hx
    have hmissing : ∀ y ∈ ws, y.ch ≠ ch := by simpa using ((Bool.and_eq_true_iff.1 (List.mem_filter.1 hch).2).1)
    exact hmissing w hmem (beq_iff_eq.1 hsame).symm
  rw [hnone, List.append_nil]
  exact hlive

theorem State.cameBlock_chans (s : State) (d : Nat) : (s.cameBlock d).meas.chans = s.meas.chans := by
  unfold State.cameBlock
  split
  · rfl
  · rfl

theorem State.chooseSources_meas (s : State) : s.chooseSources.meas = s.meas :=
  State.each_keeps _ _ _ State.meas fun _ _ => State.chooseSource_meter State.meas_meter ..

/-- A good block in time brings each channel its window (R14). -/
theorem execResultBlock_taken {s : State} {die : Fin 2} {b : BlockIn} (ws : List Window) (hrun : s.meterRunning die = true)
    (hsound : s.meterFailed die = false) (hgood : s.blockGood b = true) (htime : b.arrived ≤ 4000) :
    ∃ m t, execResultBlock die b ws s = .next t ∧ t.meas.chans =
      (({ s with meters := m } : State).each (s.windowsOf die ws) fun z w => z.takeWindow die w).meas.chans := by
  obtain ⟨m, hm⟩ := s.feedMeter_eq die.val (s.windowsOf die.val ws)
  unfold execResultBlock
  dsimp only
  rw [if_neg (by simp [hrun, hsound, hgood]), if_neg (by omega), hm]
  refine ⟨m, _, rfl, ?_⟩
  exact (congrArg MeasSt.chans (State.when_keeps _ _ _ State.meas State.chooseSources_meas)).trans (State.cameBlock_chans ..)

/-- A block that comes late is a miss, and its windows are not taken (R17). -/
theorem State.lateBlock_misses {s : State} (d overrun : Nat)
    (hfits : s.nat Ent.DEADLINE_MISS_COUNT + 1 < 2 ^ Ent.DEADLINE_MISS_COUNT.type.bits) :
    (s.lateBlock d overrun).nat Ent.DEADLINE_MISS_COUNT = s.nat Ent.DEADLINE_MISS_COUNT + 1 ∧
      (s.lateBlock d overrun).meas.chans = s.meas.chans := by
  unfold State.lateBlock
  extract_lets key before run
  dsimp -zeta only [State.takeFree]
  extract_lets src s1 s2
  have hcount : s1.nat Ent.DEADLINE_MISS_COUNT = s.nat Ent.DEADLINE_MISS_COUNT := by
    simp only [s1]
    split
    · rfl
    · rfl
  have hchans : s1.meas.chans = s.meas.chans := by
    simp only [s1]
    split
    · rfl
    · rfl
  have hmissed : s2.nat Ent.DEADLINE_MISS_COUNT = s.nat Ent.DEADLINE_MISS_COUNT + 1 := by
    have hraised (k : EvKind) (i p q : Nat) : (s1.raise k i p q).nat Ent.DEADLINE_MISS_COUNT = s.nat Ent.DEADLINE_MISS_COUNT :=
      (State.nat_raise ..).trans hcount
    simp only [s2]
    rw [State.bump_of_fits (by rw [hraised]; exact hfits), State.nat_setNat_same, hraised]
  have hkept : s2.meas.chans = s.meas.chans :=
    (congrArg MeasSt.chans ((State.bump_meas ..).trans (State.raise_own State.meas_own ..))).trans hchans
  split
  · exact ⟨(State.failMeter_meter (MeterBlind.nat (e := Ent.DEADLINE_MISS_COUNT) (n := 0) (by unfold ofMeterFault; decide)) ..).trans hmissed,
      (congrArg MeasSt.chans (State.failMeter_meter State.meas_meter ..)).trans hkept⟩
  · exact ⟨hmissed, hkept⟩

/-! ### Spare slices -/

theorem State.nextSpare_congr {s z : State} {b : Nat} (h : z.nat Ent.RETIRED_MASK b = s.nat Ent.RETIRED_MASK b) (i : Nat) :
    z.nextSpare b i = s.nextSpare b i := by
  simp only [State.nextSpare, State.retired, h]

theorem State.setCorrection_eq (s : State) (b i : Nat) (offset gain skew : Int) :
    ∃ v, s.setCorrection b i offset gain skew = s.put Ent.SLICE_CORRECTION b 0 v := ⟨_, rfl⟩

/-- The spare is passed on at the end of a dwell (R308). -/
def State.passSpare (s : State) (b i : Nat) (r : SpareCal) : State :=
  (((s.setCorrection b i r.offset r.gain r.skew).setBank b ⟨s.nextSpare b i, s.ticks⟩).showBank b).when ((s.nextSpare b i).getD 0 ≤ i)
    fun z => z.bump Ent.ROTATIONS b

theorem execSpareDwellEnd_due {s : State} {bank : Fin 4} {r : SpareCal} {i : Nat} (hspare : (s.bank bank).spare = some i) (hcycle : s.cycle = 0)
    (hdue : (s.bank bank).dwell + 20 * s.nat Ent.SPARE_DWELL ≤ s.ticks) (hskew : r.skew.natAbs ≤ 200) :
    execSpareDwellEnd bank r s = .next (if r.refDiff > 500 then
      ((s.passSpare bank i r).raise Evt.REFERENCE_DISAGREE (2 + bank / 2) r.refDiff 0).failMeterFree (bank / 2) else s.passSpare bank i r) := by
  have hnext : (s.setCorrection bank i r.offset r.gain r.skew).nextSpare bank i = s.nextSpare bank i :=
    State.nextSpare_congr (State.nat_put_ne _ _ (Entry.key_ne_of_sub (by decide) _ _)) i
  have hticks : (s.setCorrection bank i r.offset r.gain r.skew).ticks = s.ticks := State.put_ticks ..
  unfold execSpareDwellEnd
  rw [apply_ite Host.Outcome.next]
  dsimp only
  rw [hspare]
  dsimp only
  rw [if_neg (by simp [hcycle, hdue]), if_neg (Nat.not_lt.2 hskew), hnext]
  by_cases hdiff : r.refDiff > 500
  · rw [if_pos hdiff, if_pos hdiff, State.passSpare, ← hticks]
    rfl
  · rw [if_neg hdiff, if_neg hdiff, State.passSpare, ← hticks]
    rfl

theorem State.passSpare_passes (s : State) (b i : Nat) (r : SpareCal) : (s.passSpare b i r).bank b = ⟨s.nextSpare b i, s.ticks⟩ ∧
    (s.passSpare b i r).ev = s.ev ∧ (s.passSpare b i r).die = s.die := by
  unfold State.passSpare
  obtain ⟨v, h⟩ := s.setCorrection_eq b i r.offset r.gain r.skew
  rw [h]
  refine ⟨?_, ?_, ?_⟩
  · rw [State.bank, State.when_keeps _ _ _ State.meas fun z => State.bump_meas .., State.showBank, State.setNat_eq, State.put_meas]
    exact Tab.get_set_same ..
  · rw [State.when_keeps _ _ _ State.ev fun z => State.bump_ev .., State.showBank, State.setNat_eq, State.put_ev]
    exact State.put_ev ..
  · rw [State.when_keeps _ _ _ State.die fun z => State.bump_die .., State.showBank, State.setNat_eq, State.put_die]
    exact State.put_die ..

theorem State.failMeterFree_failed (s : State) (m1 : Bool) : (s.failMeterFree (b2n m1)).meterFailed (b2n m1) = true := by
  unfold State.failMeterFree
  split
  · next h => exact h
  · exact s.takeFree.2.failMeter_failed m1 _

theorem exists_b2n_eq {d : Nat} (h : d < 2) : ∃ m1, b2n m1 = d := ⟨decide (d = 1), by interval_cases d <;> rfl⟩

theorem State.askRebuild_keeps {β : Type} (g : State → β) (hg : ∀ (z : State) x y,
    g { z with meas := { z.meas with rebuild0 := x, rebuild1 := y } } = g z) (s : State) (d : Nat) : g (s.askRebuild d) = g s := by
  unfold State.askRebuild
  split
  · exact hg s true s.meas.rebuild1
  · exact hg s s.meas.rebuild0 true

/-- A slice that is retired stands in its mask with its tick and cause, and its bank has no spare (R309). -/
theorem State.retireSlice_retires {s : State} {b i : Nat} (h : s.retired b i = false) (cause : Nat) :
    (s.retireSlice b i cause).nat Ent.RETIRED_MASK b = setBit (s.nat Ent.RETIRED_MASK b) i true ∧
      (s.retireSlice b i cause).bank b = ⟨none, s.ticks⟩ ∧
      Tab.find (s.retireSlice b i cause).meas.gone (9 * b + i) = some (s.ticks, cause) := by
  unfold State.retireSlice
  rw [if_neg (by simp [h])]
  extract_lets had n0 src s0 s1 s2 s3
  have hmask1 : s1.nat Ent.RETIRED_MASK b = setBit (s.nat Ent.RETIRED_MASK b) i true := (State.nat_raise ..).trans (State.nat_setNat_same ..)
  have hmeas1 : s1.meas = s0.meas := (State.raise_own State.meas_own ..).trans (State.put_meas s0 Ent.RETIRED_MASK ..)
  have hmask2 : s2.nat Ent.RETIRED_MASK b = setBit (s.nat Ent.RETIRED_MASK b) i true :=
    (State.nat_put_ne (s1.setBank b ⟨none, s.ticks⟩) _ (Entry.key_ne_of_sub (by decide) _ _)).trans hmask1
  have hmeas2 : s2.meas = (s1.setBank b ⟨none, s.ticks⟩).meas := State.put_meas (s1.setBank b ⟨none, s.ticks⟩) Ent.BANK_STATUS ..
  have hmeas3 : s3.meas = (s1.setBank b ⟨none, s.ticks⟩).meas :=
    (State.when_keeps s2 _ _ State.meas fun z => State.raise_own State.meas_own ..).trans hmeas2
  have hmask3 : s3.nat Ent.RETIRED_MASK b = setBit (s.nat Ent.RETIRED_MASK b) i true :=
    (State.when_keeps s2 _ _ (fun z => z.nat Ent.RETIRED_MASK b) fun z => State.nat_raise ..).trans hmask2
  refine ⟨?_, ?_, ?_⟩
  · exact (State.when_keeps s3 _ _ (fun z => z.nat Ent.RETIRED_MASK b) fun z =>
      z.askRebuild_keeps (fun y => y.nat Ent.RETIRED_MASK b) (fun _ _ _ => rfl) _).trans hmask3
  · have hbank : (s3.when (decide (s3.dieSlices (b / 2) < n0)) fun z => z.askRebuild (b / 2)).bank b = s3.bank b :=
      State.when_keeps s3 _ _ (fun z => z.bank b) fun z => z.askRebuild_keeps (fun y => y.bank b) (fun _ _ _ => rfl) _
    rw [hbank, State.bank, hmeas3]
    exact Tab.get_set_same ..
  · have hgone : (s3.when (decide (s3.dieSlices (b / 2) < n0)) fun z => z.askRebuild (b / 2)).meas.gone = s3.meas.gone :=
      State.when_keeps s3 _ _ (fun z => z.meas.gone) fun z => z.askRebuild_keeps (fun y => y.meas.gone) (fun _ _ _ => rfl) _
    rw [hgone, hmeas3]
    show Tab.find s1.meas.gone (9 * b + i) = some (s.ticks, cause)
    rw [hmeas1]
    exact Tab.find_set_same ..

/-! ### Slot tables -/

/-- The demand a die's slot table shows. -/
def demandEntry (d : Nat) : Entry := if d = 0 then Ent.DEMAND_M0 else Ent.DEMAND_M1

theorem demandEntry_apart (d : Nat) : (demandEntry d).sub < 256 ∧ (demandEntry d).sub ≠ Ent.MCH_STAGGER.sub ∧
    (demandEntry d).sub ≠ Ent.MCH_CLASS.sub ∧ (demandEntry d).type.bits = Ent.DEMAND_M0.type.bits := by
  unfold demandEntry
  split
  · decide
  · decide

/-- The stagger of one channel as a table is built (R313). -/
def State.placeSlot (s : State) (ch : Nat) : State :=
  if s.nat Ent.MCH_CLASS ch == 0 then s.setInt Ent.MCH_STAGGER ch 0
  else
    let (f, s1) := s.takeFree
    s1.setInt Ent.MCH_STAGGER ch (((f % 501 : Nat) : Int) - 250)

theorem State.buildSlots_eq (s : State) : s.buildSlots = s.each (List.range 96) State.placeSlot := rfl

/-- It is 0 for a channel that is OFF. -/
theorem State.placeSlot_eq (s : State) (ch : Nat) : ∃ f v, s.placeSlot ch = ({ s with free := f } : State).setInt Ent.MCH_STAGGER ch v ∧
    (s.nat Ent.MCH_CLASS ch = 0 → v = 0) := by
  unfold State.placeSlot
  split
  · exact ⟨s.free, 0, rfl, fun _ => rfl⟩
  · next hon => exact ⟨_, _, rfl, fun hoff => absurd (beq_iff_eq.2 hoff) hon⟩

theorem State.buildSlots_own {β : Type} {g : State → β} {K : Nat → Prop} (hg : OwnBlind g K) (hK : ∀ ch, K (Ent.MCH_STAGGER.key ch)) (s : State) :
    g s.buildSlots = g s :=
  State.each_keeps _ _ _ g fun z ch => by
    obtain ⟨f, v, h, -⟩ := z.placeSlot_eq ch
    exact (congrArg g h).trans ((hg.put _ _ _ _ _ rfl (hK ch)).trans (hg.free ..))

theorem State.buildSlots_ev (s : State) : s.buildSlots.ev = s.ev :=
  State.each_keeps _ _ _ State.ev fun z ch => by
    obtain ⟨f, v, h, -⟩ := z.placeSlot_eq ch
    exact (congrArg State.ev h).trans (State.put_ev ..)

/-- A channel that is OFF has no stagger in a table built (R313). -/
theorem State.buildSlots_off {s : State} {ch : Nat} (hch : ch < 96) (hoff : s.nat Ent.MCH_CLASS ch = 0) :
    s.buildSlots.int Ent.MCH_STAGGER ch = 0 := by
  have hclass (z : State) (b : Nat) : (z.placeSlot b).nat Ent.MCH_CLASS ch = z.nat Ent.MCH_CLASS ch := by
    obtain ⟨f, v, h, -⟩ := z.placeSlot_eq b
    rw [h]
    exact State.nat_put_ne _ _ (Entry.key_ne_of_sub (by decide) _ _)
  have hplaced (z : State) (hz : z.nat Ent.MCH_CLASS ch = 0) : (z.placeSlot ch).int Ent.MCH_STAGGER ch = 0 := by
    obtain ⟨f, v, h, hv⟩ := z.placeSlot_eq ch
    rw [h, hv hz, State.int_setInt_same]
  have hkept (z : State) (b : Nat) (hb : b ≠ ch) : (z.placeSlot b).int Ent.MCH_STAGGER ch = z.int Ent.MCH_STAGGER ch := by
    obtain ⟨f, v, h, -⟩ := z.placeSlot_eq b
    rw [h]
    exact State.int_setInt_ne _ (Entry.key_ne_of_instance (Ne.symm hb))
  rw [State.buildSlots_eq]
  refine (State.each_reaches (fun z => z.nat Ent.MCH_CLASS ch = 0 ∧ z.int Ent.MCH_STAGGER ch = 0) (fun z => z.nat Ent.MCH_CLASS ch = 0)
    (List.mem_range.2 hch) hoff (fun z b hz => (hclass z b).trans hz) (fun z b hz => ⟨(hclass z b).trans hz.1, ?_⟩)
    fun z hz => ⟨(hclass z ch).trans hz, hplaced z hz⟩).2
  by_cases hb : b = ch
  · subst hb
    exact hplaced z hz.1
  · exact (hkept z b hb).trans hz.2

/-- What a die's own slot table is marked with: that it is to be rebuilt, and that it runs at the reduced rate. -/
def MeasSt.rebuilt (m : MeasSt) (d : Nat) : Bool × Bool := if d = 0 then (m.rebuild0, m.reduced0) else (m.rebuild1, m.reduced1)

/-- The marks of a table being built, and the demand it is to serve. -/
def State.showDemand (s : State) (m : MeasSt) (d v : Nat) : State := ({ s with meas := m } : State).fitNat (demandEntry d) 0 v

theorem State.showDemand_meas (s : State) (m : MeasSt) (d v : Nat) : (s.showDemand m d v).meas = m := State.fitNat_meas ..

theorem State.rebuildSlots_eq (s : State) (d : Nat) : ∃ m : MeasSt,
    let full := demandOf (fun ch => s.nat Ent.MCH_CLASS ch) false
    let slow := demandOf (fun ch => s.nat Ent.MCH_CLASS ch) true
    m.rebuilt d = (false, !decide (full ≤ 240 * s.dieSlices d)) ∧
      s.rebuildSlots d = if full ≤ 240 * s.dieSlices d then (s.showDemand m d full).buildSlots
        else if slow ≤ 240 * s.dieSlices d then
          ((s.showDemand m d slow).raise Evt.REDUCED_RATE (2 + d) (240 * s.dieSlices d) full).buildSlots
        else ((s.showDemand m d slow).raise Evt.REDUCED_RATE (2 + d) (240 * s.dieSlices d) full).failMeterFree d := by
  unfold State.rebuildSlots State.showDemand demandEntry MeasSt.rebuilt
  by_cases hd : d = 0
  · subst hd
    refine ⟨{ s.meas with rebuild0 := false, slots0 := s.dieSlices 0, reduced0 := _ }, rfl, ?_⟩
    by_cases hfits : demandOf (fun ch => s.nat Ent.MCH_CLASS ch) false ≤ 240 * s.dieSlices 0
    · simp [hfits]
    · simp [hfits]
  · refine ⟨{ s.meas with rebuild1 := false, slots1 := s.dieSlices d, reduced1 := _ }, if_neg hd, ?_⟩
    by_cases hfits : demandOf (fun ch => s.nat Ent.MCH_CLASS ch) false ≤ 240 * s.dieSlices d
    · simp [hfits, hd]
    · simp [hfits, hd]

theorem State.rebuildSlots_marks (s : State) (d : Nat) :
    (s.rebuildSlots d).meas.rebuilt d = (false, !decide (demandOf (fun ch => s.nat Ent.MCH_CLASS ch) false ≤ 240 * s.dieSlices d)) := by
  obtain ⟨m, hmarked, heq⟩ := s.rebuildSlots_eq d
  have hbuilt (z : State) : z.buildSlots.meas = z.meas := State.buildSlots_own State.meas_own (fun _ => trivial) z
  rw [heq]
  split
  · rw [hbuilt, State.showDemand_meas, hmarked]
  split
  · rw [hbuilt, State.raise_own State.meas_own, State.showDemand_meas, hmarked]
  · rw [State.failMeterFree_meas, State.raise_own State.meas_own, State.showDemand_meas, hmarked]

/-- A demand that fits is shown as it is, without an event, and the channels that are OFF have no stagger (R312, R313). -/
theorem State.rebuildSlots_fits {s : State} {d full : Nat} (hfull : full = demandOf (fun ch => s.nat Ent.MCH_CLASS ch) false)
    (hfits : full ≤ 240 * s.dieSlices d) (hwidth : full < 2 ^ Ent.DEMAND_M0.type.bits) :
    (s.rebuildSlots d).nat (demandEntry d) = full ∧ (s.rebuildSlots d).ev = s.ev ∧
      ∀ ch, ch < 96 → s.nat Ent.MCH_CLASS ch = 0 → (s.rebuildSlots d).int Ent.MCH_STAGGER ch = 0 := by
  obtain ⟨m, -, heq⟩ := s.rebuildSlots_eq d
  obtain ⟨hlow, hstagger, hclass, hbits⟩ := demandEntry_apart d
  rw [heq, ← hfull, if_pos hfits, State.showDemand, State.fitNat_of_fits (by rwa [hbits])]
  refine ⟨?_, ?_, fun ch hch hoff => State.buildSlots_off hch ?_⟩
  · rw [State.buildSlots_own (OwnBlind.nat (demandEntry d) 0 0) fun ch => Entry.key_ne_of_sub ⟨by decide, hlow, hstagger.symm⟩ ch 0]
    exact State.nat_setNat_same ..
  · rw [State.buildSlots_ev]
    exact State.put_ev ..
  · exact (State.nat_put_ne ({ s with meas := m } : State) _ (Entry.key_ne_of_sub ⟨by decide, hlow, hclass.symm⟩ ch 0)).trans hoff

/-! ### Captures -/

theorem State.refuseCapture_refuses (s : State) (reason : Nat) : (s.refuseCapture reason).meas = s.meas ∧
    s.raised (s.refuseCapture reason) Evt.CAPTURE_REFUSED (s.nat Ent.CAPTURE_CHANNEL) reason 0 :=
  ⟨(State.raise_own State.meas_own ..).trans (State.bump_meas ..), State.raised_of_stamp (by
    simp only [State.stamp, State.bump_ev, State.bump_sfn, State.bump_cycle, State.bump_time]) ..⟩

theorem State.trigger_held {s : State} (h : s.ticks < s.meas.captureHold ∨ s.meas.capture.isSome = true) (forced : Bool) (ns x : Nat) :
    s.trigger forced ns x = s.refuseCapture 2 := if_pos (by simpa using h)

/-- A die that no control consumer takes a channel from, with all its slices and its table standing, may capture (R317). -/
def State.mayCapture (s : State) (d : Nat) : Prop :=
  s.idleDie = some d ∧ (s.activeSlices (2 * d)).length = 8 ∧ (s.activeSlices (2 * d + 1)).length = 8 ∧ s.meas.rebuild0 = false ∧
    s.meas.rebuild1 = false

theorem State.trigger_starts {s : State} {d : Nat} (hhold : s.meas.captureHold ≤ s.ticks) (hidle : s.meas.capture = none) (hmay : s.mayCapture d)
    (forced : Bool) (ns x : Nat) : s.trigger forced ns x =
      { s with meas := { s.meas with capture := some ⟨d, s.nat Ent.CAPTURE_CHANNEL, forced, s.sfn, ns, x⟩ } } := by
  obtain ⟨hdie, hfirst, hsecond, hzero, hone⟩ := hmay
  unfold State.trigger
  rw [if_neg (by simp [hidle, hhold]), hdie]
  dsimp only
  rw [if_neg (by simp [hfirst, hsecond, hzero, hone])]

theorem execCaptureTrigger_at {s : State} {x : Nat} (harm : s.flag Ent.CAPTURE_ARM = true) (hfinite : F32.special x = false)
    (hlevel : s.rat Ent.CAPTURE_LEVEL ≤ ratAbs (F32.toRat x)) (ns : Nat) :
    execCaptureTrigger x ns s = .next (s.trigger false ns (low 32 x)) := if_pos (by simp [harm, hfinite, hlevel])

theorem State.mayCapture_taken {s : State} (h : Held) {d : Nat} (hmay : s.mayCapture d) : (s.taken h).mayCapture d := by
  have hmeas : (s.taken h).meas = s.meas := (s.taken_measures h).1
  have hruns (x : Nat) : (s.taken h).meterRunning x = s.meterRunning x := State.taken_keeps (fun z => z.meterRunning x) (fun _ _ _ _ => rfl) s h
  have hfailed (x : Nat) : (s.taken h).meterFailed x = s.meterFailed x := State.taken_keeps (fun z => z.meterFailed x) (fun _ _ _ _ => rfl) s h
  have hactive (b : Nat) : (s.taken h).activeSlices b = s.activeSlices b := by
    simp (disch := decide) only [State.activeSlices, State.retired, State.bank, hmeas, State.nat_taken_of_base]
  have hidle : (s.taken h).idleDie = s.idleDie := by
    simp (disch := decide) only [State.idleDie, hruns, hfailed, hmeas, State.nat_taken_of_base]
  rwa [State.mayCapture, hidle, hactive, hactive, hmeas]

/-- A capture that ends is counted, kept with the last sixteen, and begins the hold-off (R319). -/
theorem execCaptureDone_counts {s : State} {k : Capture} (d : CaptureData) (h : s.meas.capture = some k)
    (hfits : s.nat Ent.CAPTURE_COUNT + 1 < 2 ^ Ent.CAPTURE_COUNT.type.bits) :
    ∃ r t, execCaptureDone d s = .next t ∧ t.nat Ent.CAPTURE_COUNT = s.nat Ent.CAPTURE_COUNT + 1 ∧
      t.meas = { s.meas with
        capture := none, captures := ((s.nat Ent.CAPTURE_COUNT + 1, r) :: s.meas.captures).take 16, lastCap := some (k.die, s.ticks)
        captureHold := s.ticks + 20 * s.nat Ent.CAPTURE_HOLDOFF } := by
  have hcount : (s.setNat Ent.CAPTURE_COUNT 0 (s.nat Ent.CAPTURE_COUNT + 1)).nat Ent.CAPTURE_COUNT = s.nat Ent.CAPTURE_COUNT + 1 :=
    State.nat_setNat_same ..
  have hmeas : (s.setNat Ent.CAPTURE_COUNT 0 (s.nat Ent.CAPTURE_COUNT + 1)).meas = s.meas := State.put_meas ..
  unfold execCaptureDone
  rw [h]
  dsimp only
  rw [State.bump_of_fits hfits]
  generalize s.setNat Ent.CAPTURE_COUNT 0 (s.nat Ent.CAPTURE_COUNT + 1) = z at hcount hmeas ⊢
  refine ⟨z.captureRecord k d, _, rfl, ?_, ?_⟩
  · exact (State.streamRecord_blind (t := 4) (LegalBlind.nat (e := Ent.CAPTURE_COUNT)).toStreamBlind (by decide) _ _).trans
      ((State.nat_raise ..).trans hcount)
  · refine (State.streamRecord_blind (t := 4) State.meas_meter.toStreamBlind (.inl (by decide)) _ _).trans
      ((State.raise_own State.meas_own ..).trans ?_)
    rw [hcount, hmeas]

/-- Settles O42: result blocks, dwells, slot tables, slices and captures. -/
theorem conversionsBanksAndCaptures : Obligations.ConversionsBanksAndCaptures := by
  intro s
  refine ⟨fun die b ws hrun hsound => ⟨fun hgood htime => ?_, fun hgood hlate hfits => ?_, fun hbad => ?_⟩,
    fun bank r i hspare hcycle hdue hskew => ?_, fun die hdue hcycle => ?_, fun bank slice k cause hcause hrun hcheck hsound => ?_,
    fun x ns d harm hfinite hlevel => ⟨fun hheld => ?_, fun hhold hidle hdie hfirst hsecond hzero hone => ?_⟩,
    fun c v h ha => ?_, fun d k hcapture hfits => ?_⟩
  · obtain ⟨m, t, hexec, hchans⟩ := execResultBlock_taken ws hrun hsound hgood htime
    refine ⟨t, hexec, fun w hw hch hone => ?_⟩
    have hown := State.takeWindows_own { s with meters := m } die (w := s.liveWindow die w) hch (s.windowsOf_own die hw hone)
    rw [State.chanSt, hchans]
    exact hown
  · obtain ⟨m, hm⟩ := s.feedMeter_eq die.val (s.windowsOf die.val ws)
    obtain ⟨hcount, hchans⟩ := State.lateBlock_misses (s := { s with meters := m }) die (b.arrived - 4000) hfits
    refine ⟨_, ?_, hcount, hchans⟩
    show execResultBlock die b ws s = _
    unfold execResultBlock
    dsimp only
    rw [if_neg (by simp [hrun, hsound, hgood]), if_pos hlate, hm]
    rfl
  · obtain ⟨m, hm⟩ := s.feedMeter_eq die.val (s.windowsOf die.val ws)
    refine ⟨_, (if_pos (by simp [hbad])), ?_⟩
    rw [hm]
  · obtain ⟨hbank, hev, hdie⟩ := s.passSpare_passes bank i r
    refine ⟨_, execSpareDwellEnd_due hspare hcycle hdue hskew, ?_, fun hsmall => ?_, fun hlarge _ => ?_⟩
    · split
      · rw [State.bank, State.failMeterFree_meas, State.raise_own State.meas_own]
        exact hbank
      · exact hbank
    · rw [if_neg (by omega)]
      exact ⟨hev, hdie⟩
    · rw [if_pos hlarge]
      obtain ⟨m1, hm1⟩ := exists_b2n_eq (d := bank / 2) (by omega)
      rw [← hm1]
      exact State.failMeterFree_failed ..
  · intro full
    have hexec : exec (.slotTableRebuild die) s = .next (s.rebuildSlots die) := by
      show execSlotTableRebuild die s = _
      simp only [execSlotTableRebuild, beq_iff_eq, hdue, hcycle]
      rfl
    have hmarks := s.rebuildSlots_marks die.val
    refine ⟨_, hexec, ?_, fun hfits hwidth => State.rebuildSlots_fits rfl hfits hwidth, fun hover => ?_⟩
    · unfold MeasSt.rebuilt at hmarks
      split at hmarks
      · next hd => exact (if_pos hd).trans (congrArg Prod.fst hmarks)
      · next hd => exact (if_neg hd).trans (congrArg Prod.fst hmarks)
    · rw [decide_eq_false (by exact Nat.not_le.2 hover)] at hmarks
      unfold MeasSt.rebuilt at hmarks
      split at hmarks
      · next hd => exact (if_pos hd).trans (congrArg Prod.snd hmarks)
      · next hd => exact (if_neg hd).trans (congrArg Prod.snd hmarks)
  · refine ⟨s.retireSlice bank slice cause, ?_, State.retireSlice_retires hsound cause⟩
    show execSliceRetired bank slice k s = _
    simp only [execSliceRetired, hcause, hrun, hcheck]
    rfl
  · obtain ⟨hmeas, hraised⟩ := s.refuseCapture_refuses 2
    exact ⟨_, (execCaptureTrigger_at harm hfinite hlevel ns).trans (congrArg Host.Outcome.next (State.trigger_held hheld ..)), hmeas, hraised⟩
  · exact ⟨_, (execCaptureTrigger_at harm hfinite hlevel ns).trans (congrArg Host.Outcome.next
      (State.trigger_starts hhold hidle ⟨hdie, hfirst, hsecond, hzero, hone⟩ ..)), rfl, rfl⟩
  · obtain ⟨hmeas, -, hticks, -, -⟩ := s.taken_measures h
    have hflag := s.flag_taken_of_base h (e := Ent.CAPTURE_ARM) (by decide) 0
    cases harm : s.flag Ent.CAPTURE_ARM with
    | false =>
      have hact : applyCaptureForce (s.taken h) = (s.taken h, St.OK) := if_neg (by simp [hflag, harm])
      refine ⟨_, congrArg Host.Outcome.next (State.clientCommand_effect ha rfl hact), State.answerLater_repliesWith .., fun _ => ⟨?_, ?_⟩,
        fun d h => absurd h (by simp)⟩
      · rw [State.answerLater_meas, hmeas]
      · rw [State.answerLater_ev]
        exact State.taken_keeps State.ev (fun _ _ _ _ => rfl) s h
    | true =>
      have hact : applyCaptureForce (s.taken h) =
          ((s.taken h).trigger true 0 ((s.taken h).nat Ent.MCH_VALUE ((s.taken h).nat Ent.CAPTURE_CHANNEL)), St.OK) := if_pos (hflag.trans harm)
      refine ⟨_, congrArg Host.Outcome.next (State.clientCommand_effect ha rfl hact), State.answerLater_repliesWith .., fun h => absurd h (by simp),
        fun d _ hhold hidle hdie hfirst hsecond hzero hone => ?_⟩
      have hsfn : (s.taken h).sfn = s.sfn := State.taken_keeps State.sfn (fun _ _ _ _ => rfl) s h
      have hmay : (s.taken h).mayCapture d := State.mayCapture_taken h ⟨hdie, hfirst, hsecond, hzero, hone⟩
      rw [State.answerLater_meas, State.trigger_starts (by rwa [hmeas, hticks]) (by rwa [hmeas]) hmay]
      simp (disch := decide) only [State.nat_taken_of_base, hsfn]
  · obtain ⟨r, t, hexec, hcount, hmeas⟩ := execCaptureDone_counts d hcapture hfits
    refine ⟨t, hexec, by rw [hmeas], hcount, by rw [hmeas], ?_, ?_⟩
    · rw [hmeas]
      rfl
    · rw [hmeas]
      exact List.length_take_le ..

end Sys2Proof.Machine
end

section
/-!
PROOFS. The cell estimator (O41): what a reset marks, what of a string's estimate stands after a commit, a balance selection and a store
(R284, R299, R300, R302).
-/
namespace Sys2Proof.Machine
open Sys2Proof

/-! ### The estimate of a string -/

theorem State.est_setEst_same (s : State) (n : Nat) (e : EstSt) : (s.setEst n e).est n = e := Tab.get_set_same ..

theorem State.est_setEst_ne (s : State) {m n : Nat} (e : EstSt) (h : m ≠ n) : (s.setEst n e).est m = s.est m := Tab.get_set_ne _ _ _ _ _ h

/-- A string's estimate shows no own value, event or free value. -/
theorem OwnBlind.est (n : Nat) : OwnBlind (fun s => s.est n) fun _ => True where
  put _ _ _ _ _ _ _ := congrArg (fun t => Tab.get EstSt.none t n) (State.put_ests ..)
  event _ _ := rfl
  free _ _ := rfl

/-! ### EST_RESET -/

theorem State.cellsOf_taken (s : State) (h : Held) (n : Nat) : (s.taken h).cellsOf n = s.cellsOf n := by
  have henrolled : (s.taken h).enrolled = s.enrolled := funext fun k => by
    simp (disch := decide) only [State.enrolled, State.nat_taken_of_base]
  simp (disch := decide) only [State.cellsOf, State.enrolledOf, State.monitorsOf, henrolled, State.fittedCells, State.nat_taken_of_base]

/-- The cells of a reset are marked (R302). -/
def State.markCell (s : State) (c : Nat × Nat) : State := s.setCell c.1 c.2 { s.cell c.1 c.2 with reset := true }

theorem State.cell_markCell (s : State) (c p : Nat × Nat) :
    (s.markCell c).cell p.1 p.2 = if p.1 * 16 + p.2 = c.1 * 16 + c.2 then { s.cell p.1 p.2 with reset := true } else s.cell p.1 p.2 := by
  unfold State.cell State.markCell State.setCell
  split
  · next h =>
    rw [h, Tab.get_set_same]
    rfl
  · next h => exact Tab.get_set_ne _ _ _ _ _ h

theorem State.each_markCell {s : State} {l : List (Nat × Nat)} {p : Nat × Nat} (hp : p ∈ l) :
    (s.each l State.markCell).cell p.1 p.2 = { s.cell p.1 p.2 with reset := true } := by
  refine State.each_reaches (fun z => z.cell p.1 p.2 = { s.cell p.1 p.2 with reset := true })
    (fun z => z.cell p.1 p.2 = s.cell p.1 p.2 ∨ z.cell p.1 p.2 = { s.cell p.1 p.2 with reset := true }) hp (.inl rfl) (fun z b hz => ?_)
    (fun z b hz => ?_) fun z hz => ?_
  · rw [State.cell_markCell]
    split
    · obtain hz | hz := hz
      · exact .inr (by rw [hz])
      · exact .inr (by rw [hz])
    · exact hz
  · rw [State.cell_markCell, hz]
    split
    · rfl
    · rfl
  · rw [State.cell_markCell, if_pos rfl]
    obtain hz | hz := hz
    · rw [hz]
    · rw [hz]

/-- The number of a string's first cell, 0 where it has none. -/
def State.firstCell (s : State) (n : Nat) : Nat :=
  match s.cellsOf n with
  | p :: _ => s.cellNumber n p.1 p.2
  | [] => 0

theorem State.firstCell_taken (s : State) (h : Held) (n : Nat) : (s.taken h).firstCell n = s.firstCell n := by
  simp only [State.firstCell, State.cellNumber, State.cellsOf_taken]

theorem applyEstReset_marks (s : State) (n : Nat) :
    applyEstReset n s = ((s.each (s.cellsOf n) State.markCell).raise Evt.CELL_STATE_RESET n (s.firstCell n) 1, St.OK) := rfl

theorem State.cell_answered (s : State) (k : EvKind) (i p q : Nat) (h : Held) (st a b : Nat) :
    ((s.raise k i p q).answerLater h st []).cell a b = s.cell a b := by
  rw [State.cell, State.answerLater_cellSts, State.raise_eq_ev]
  rfl

/-! ### A commit -/

theorem State.showCell_keeps {β : Type} {g : State → β} (hg : OwnBlind g fun _ => True) (s : State) (n k j : Nat) (v : CellView) :
    g (s.showCell n k j v) = g s := by
  unfold State.showCell
  dsimp only
  exact (hg.put _ _ _ _ _ rfl trivial).trans ((hg.put _ _ _ _ _ rfl trivial).trans ((hg.put _ _ _ _ _ rfl trivial).trans
    ((hg.put _ _ _ _ _ rfl trivial).trans ((hg.put _ _ _ _ _ rfl trivial).trans ((hg.put _ _ _ _ _ rfl trivial).trans
      (hg.put _ _ _ _ _ rfl trivial))))))

/-- A cell whose health crosses its limit is told of its own string. -/
theorem State.healthCell_est (s : State) {m n : Nat} (h : m ≠ n) (k j : Nat) : (s.healthCell n k j).est m = s.est m := by
  have hwatch (z : State) (key p : Nat) (low : Bool) : (if low && !(z.est n).healthLow.contains key then
      (z.setEst n { z.est n with healthLow := key :: (z.est n).healthLow }).raise Evt.HEALTH_LOW n (z.cellNumber n k j) p
    else if !low && (z.est n).healthLow.contains key then z.setEst n { z.est n with healthLow := (z.est n).healthLow.filter (· != key) }
    else z).est m = z.est m := by
    split
    · exact (State.raise_own (OwnBlind.est m) ..).trans (State.est_setEst_ne _ _ h)
    split
    · exact State.est_setEst_ne _ _ h
    · rfl
  exact (hwatch ..).trans (hwatch ..)

theorem State.anchorCell_est (s : State) (m n k j : Nat) (c : CellSt) (v : CellView) (resting : Bool) :
    (s.anchorCell n k j c v resting).1.est m = s.est m := by
  unfold State.anchorCell
  extract_lets high steep diff apart away
  split
  · rfl
  split
  · rfl
  split
  · rfl
  split
  · exact (State.raise_own (OwnBlind.est m) ..).trans (State.bump_own (OwnBlind.est m) rfl trivial ..)
  · rfl

theorem State.ocvMoved_est (s : State) (m : Nat) (c old : CellSt) (v : CellView) : (s.ocvMoved c old v).2.est m = s.est m := by
  unfold State.ocvMoved
  split
  · rfl
  · rfl

/-- The run's work on a cell leaves the estimates of the other strings. -/
theorem State.runCell_est (s : State) {m n : Nat} (h : m ≠ n) (r : EstRun) (resting : Bool) (k j : Nat) :
    (s.runCell n r resting k j).est m = s.est m := by
  unfold State.runCell
  extract_lets old v run0
  generalize s.countCell n _ = counted
  obtain ⟨c1, d⟩ := counted
  dsimp -zeta only
  refine (State.healthCell_est _ h ..).trans ((State.showCell_keeps (OwnBlind.est m) ..).trans ((State.anchorCell_est ..).trans
    ((State.when_keeps _ _ _ (fun z => z.est m) fun z => State.raise_own (OwnBlind.est m) ..).trans
      ((State.when_keeps _ _ _ (fun z => z.est m) fun z => State.bump_own (OwnBlind.est m) rfl trivial ..).trans ?_))))
  split
  · split
    · exact State.ocvMoved_est ..
    · rfl
  · rfl

theorem State.stringFigures_est (s : State) (m n : Nat) : (s.stringFigures n).est m = s.est m := by
  have hg := OwnBlind.est m
  unfold State.stringFigures
  extract_lets cs
  split
  · rfl
  · refine (hg.put _ Ent.STRING_SOH _ _ _ rfl trivial).trans ((hg.put _ Ent.STRING_AH_USABLE _ _ _ rfl trivial).trans
      ((hg.put _ Ent.STRING_SOC _ _ _ rfl trivial).trans ((State.fitNat_own hg (e := Ent.STRING_AH_TO_FULL) rfl trivial ..).trans
        ((State.fitNat_own hg (e := Ent.STRING_AH_AVAILABLE) rfl trivial ..).trans ?_))))
    rfl

/-- After a commit the run is the previous one and is over, and the other strings' estimates stand (R284). -/
theorem State.commitRun_est (s : State) (n : Nat) (r : EstRun) : ((s.commitRun n r).est n).run = none ∧ ((s.commitRun n r).est n).prev = some r ∧
    ∀ m, m ≠ n → (s.commitRun n r).est m = s.est m := by
  unfold State.commitRun
  extract_lets e resting cells s0 count s1 s2 gap src s3 s4
  have hlast (m : Nat) : (s4.when s4.stored fun z => z.each cells fun y c => if y.learnedMoved n c then y.storeLearned c.1 c.2 else y).est m = s3.est m := by
    refine (State.when_keeps s4 _ _ (fun z => z.est m) fun z => State.each_keeps z _ _ (fun y => y.est m) fun y c => ?_).trans
      (((OwnBlind.est m).put _ Ent.EST_STATUS _ _ _ rfl trivial).trans (State.stringFigures_est ..))
    split
    · rfl
    · rfl
  refine ⟨?_, ?_, fun m hm => (hlast m).trans ?_⟩
  · rw [hlast]
    exact congrArg EstSt.run (State.est_setEst_same ..)
  · rw [hlast]
    exact congrArg EstSt.prev (State.est_setEst_same ..)
  · refine (State.est_setEst_ne _ _ hm).trans ((State.when_keeps s1 _ _ (fun z => z.est m) fun z => State.raise_own (OwnBlind.est m) ..).trans
      ((State.each_keeps s0 _ _ (fun z => z.est m) fun z c => State.runCell_est z hm ..).trans
        (State.each_keeps s _ _ (fun z => z.est m) fun z c => ?_)))
    unfold State.fillReset
    dsimp only
    split
    · rfl
    · rfl

/-- One string's turn of the commit (R284). -/
def State.commitDue (s : State) (n : Nat) : State :=
  match (s.est n).run with
  | some r =>
    if s.sfn != 50 * r.sweep + 60 then s
    else if s.late (0x0540 + n) then
      (s.setEst n { s.est n with run := none }).setNat Ent.EST_STATUS n (setBit (s.nat Ent.EST_STATUS n) 0 false)
    else s.commitRun n r
  | none => s

theorem State.commitDue_idle {s : State} {n : Nat} (h : (s.est n).run = none) : s.commitDue n = s := by
  unfold State.commitDue
  rw [h]

theorem State.commitDue_commits {s : State} {n : Nat} {r : EstRun} (hrun : (s.est n).run = some r) (hdue : s.sfn = 50 * r.sweep + 60)
    (htime : s.late (0x0540 + n) = false) : s.commitDue n = s.commitRun n r := by
  unfold State.commitDue
  rw [hrun]
  dsimp only
  rw [if_neg (by simp [hdue]), if_neg (by simp [htime])]

theorem State.commitDue_ticks (s : State) (n : Nat) : (s.commitDue n).ticks = s.ticks := by
  unfold State.commitDue
  split
  · split
    · rfl
    split
    · exact State.put_ticks ..
    · exact congrArg Prod.fst (State.commitRun_clock ..)
  · rfl

theorem execEstimateCommit_eq {s : State} (h : s.cycle = 0) : execEstimateCommit s = .next (s.each (List.range 8) State.commitDue) := by
  unfold execEstimateCommit
  rw [if_neg (by simp [h])]
  rfl

/-- Where one string alone has a run to commit, its commit is all that happens. -/
theorem State.each_commitDue {s : State} {n : Nat} {r : EstRun} (hn : n < 8) (hrun : (s.est n).run = some r)
    (hdue : s.sfn = 50 * r.sweep + 60) (htime : s.late (0x0540 + n) = false) (hrest : ∀ m, m < 8 → m ≠ n → (s.est m).run = none) :
    s.each (List.range 8) State.commitDue = s.commitRun n r := by
  obtain ⟨hover, -, hothers⟩ := s.commitRun_est n r
  have hdone : ∀ m, m < 8 → (s.commitRun n r).commitDue m = s.commitRun n r := fun m hm => State.commitDue_idle (by
    by_cases h : m = n
    · rw [h, hover]
    · rw [hothers m h, hrest m hm h])
  have hfirst : ∀ m, m < 8 → s.commitDue m = s ∨ s.commitDue m = s.commitRun n r := fun m hm => by
    by_cases h : m = n
    · rw [h]
      exact .inr (State.commitDue_commits hrun hdue htime)
    · exact .inl (State.commitDue_idle (hrest m hm h))
  refine State.each_reaches_of_mem (fun z => z = s.commitRun n r) (fun z => z = s ∨ z = s.commitRun n r) (List.mem_range.2 hn) (.inl rfl)
    (fun z b hb hz => ?_) (fun z b hb hz => ?_) fun z hz => ?_
  · obtain rfl | rfl := hz
    · exact hfirst b (List.mem_range.1 hb)
    · exact .inr (hdone b (List.mem_range.1 hb))
  · rw [hz]
    exact hdone b (List.mem_range.1 hb)
  · obtain rfl | rfl := hz
    · exact State.commitDue_commits hrun hdue htime
    · exact hdone n hn

/-! ### Balancing -/

/-- The bleeds of a string move its cells and the commands to its monitors (R299). -/
theorem State.balanceString_eq (s : State) (n : Nat) : ∃ c x, s.balanceString n = { s with cellSts := c, radio := x } := by
  have htell (z y : State) (op k : Nat) (b : List Byte) (hy : ∃ c x, y = { z with cellSts := c, radio := x }) :
      ∃ c x, y.tellMonitor op k b = { z with cellSts := c, radio := x } := by
    obtain ⟨c, x, rfl⟩ := hy
    exact ⟨c, _, rfl⟩
  unfold State.balanceString
  extract_lets ex amps secs
  refine State.each_inv s _ _ (fun z => ∃ c x, z = { s with cellSts := c, radio := x }) ⟨_, _, rfl⟩ fun z k hz => ?_
  extract_lets mine was time z1
  have hcells : ∃ c x, z1 = { s with cellSts := c, radio := x } := by
    refine State.each_inv z _ _ (fun y => ∃ c x, y = { s with cellSts := c, radio := x }) hz fun y j hy => ?_
    obtain ⟨c, x, rfl⟩ := hy
    split
    · exact ⟨_, x, rfl⟩
    · exact ⟨_, x, rfl⟩
  split
  · split
    · exact htell _ _ _ _ _ hcells
    · exact hcells
  · exact htell _ _ _ _ _ hcells

/-- One string's turn of the selection (R299). -/
def State.selectString (s : State) (n : Nat) : State :=
  let e := s.est n
  if s.flag Ent.BALANCE_ENABLE n && bit (s.nat Ent.SWEEP_STATUS n) 0 && (e.balanceAt == 0 || decide (s.ticks ≥ e.balanceAt + secTicks 60)) then
    (s.balanceString n).setEst n { e with balanceAt := s.ticks }
  else s

/-- What a string's turn rests on. -/
def State.balanceSide (s : State) (n : Nat) : Nat × Bool × Nat := (s.ticks, s.flag Ent.BALANCE_ENABLE n, s.nat Ent.SWEEP_STATUS n)

theorem State.selectString_side (s : State) (m n : Nat) : (s.selectString m).balanceSide n = s.balanceSide n := by
  unfold State.selectString
  extract_lets e
  split
  · obtain ⟨c, x, h⟩ := s.balanceString_eq m
    rw [h]
    rfl
  · rfl

theorem State.selectString_est_ne (s : State) {m n : Nat} (h : n ≠ m) : (s.selectString m).est n = s.est n := by
  unfold State.selectString
  extract_lets e
  split
  · obtain ⟨c, x, hframe⟩ := s.balanceString_eq m
    rw [State.est_setEst_ne _ _ h, hframe]
    rfl
  · rfl

theorem State.selectString_same (s : State) (n : Nat) : ((s.selectString n).est n).balanceAt = s.ticks ∨ s.selectString n = s := by
  unfold State.selectString
  extract_lets e
  split
  · exact .inl (congrArg EstSt.balanceAt (State.est_setEst_same ..))
  · exact .inr rfl

theorem State.selectString_due {s : State} {n : Nat} (henable : s.flag Ent.BALANCE_ENABLE n = true) (hsweep : bit (s.nat Ent.SWEEP_STATUS n) 0 = true)
    (hdue : (s.est n).balanceAt = 0 ∨ (s.est n).balanceAt + secTicks 60 ≤ s.ticks) : ((s.selectString n).est n).balanceAt = s.ticks := by
  unfold State.selectString
  dsimp only
  rw [if_pos (by simpa [henable, hsweep] using hdue)]
  exact congrArg EstSt.balanceAt (State.est_setEst_same ..)

/-- A string selected in this cycle stays so. -/
theorem State.selectString_kept {s : State} {n : Nat} (h : (s.est n).balanceAt = s.ticks) (m : Nat) :
    ((s.selectString m).est n).balanceAt = s.ticks := by
  by_cases hm : n = m
  · subst hm
    obtain hnow | hsame := s.selectString_same n
    · exact hnow
    · rw [hsame, h]
  · rw [s.selectString_est_ne hm, h]

/-- Every string whose turn has come is selected (R299). -/
theorem execBalanceSelection_selects {s : State} (h : s.serving = true) : ∃ t, execBalanceSelection s = .next t ∧
    ∀ n, n < 8 → s.flag Ent.BALANCE_ENABLE n = true → bit (s.nat Ent.SWEEP_STATUS n) 0 = true →
      (s.est n).balanceAt = 0 ∨ (s.est n).balanceAt + secTicks 60 ≤ s.ticks → (t.est n).balanceAt = s.ticks := by
  have hexec : execBalanceSelection s = .next (s.each (List.range 8) State.selectString) := by
    unfold execBalanceSelection
    rw [h]
    rfl
  refine ⟨_, hexec, fun n hn henable hsweep hdue => ?_⟩
  have hticks (z : State) (hz : z.balanceSide n = s.balanceSide n) : z.ticks = s.ticks := congrArg Prod.fst hz
  have hselected (z : State) (b : Nat) (hz : z.balanceSide n = s.balanceSide n) (hat : (z.est n).balanceAt = s.ticks) :
      ((z.selectString b).est n).balanceAt = s.ticks := by
    rw [← hticks z hz] at hat ⊢
    exact State.selectString_kept hat b
  have hturn (z : State) (hz : z.balanceSide n = s.balanceSide n) (hest : z.est n = s.est n) :
      ((z.selectString n).est n).balanceAt = s.ticks := by
    have hside := hz
    simp only [State.balanceSide, Prod.mk.injEq] at hside
    obtain ⟨-, hflag, hstatus⟩ := hside
    rw [← hticks z hz] at hdue ⊢
    exact State.selectString_due (hflag.trans henable) (by rwa [hstatus]) (by rwa [hest])
  refine (State.each_reaches (fun z => z.balanceSide n = s.balanceSide n ∧ (z.est n).balanceAt = s.ticks)
    (fun z => z.balanceSide n = s.balanceSide n ∧ ((z.est n).balanceAt = s.ticks ∨ z.est n = s.est n)) (List.mem_range.2 hn)
    ⟨rfl, .inr rfl⟩ (fun z b ⟨hside, hest⟩ => ⟨(z.selectString_side b n).trans hside, ?_⟩)
    (fun z b ⟨hside, hat⟩ => ⟨(z.selectString_side b n).trans hside, hselected z b hside hat⟩) fun z ⟨hside, hest⟩ =>
      ⟨(z.selectString_side n n).trans hside, ?_⟩).2
  · obtain hat | hsame := hest
    · exact .inl (hselected z b hside hat)
    · by_cases hb : n = b
      · exact .inl (hb ▸ hturn z hside hsame)
      · exact .inr ((z.selectString_est_ne hb).trans hsame)
  · obtain hat | hsame := hest
    · exact hselected z n hside hat
    · exact hturn z hside hsame

/-! ### The store -/

/-- The store of a string writes ST and counts its runs anew (R300). -/
theorem State.storeString_eq (s : State) (n : Nat) : ∃ a b c x, s.storeString n =
    ({ s with nvCells := a, nvCellSts := b, nvEsts := c } : State).setEst n { s.est n with runs := 0, storeNext := x } := by
  unfold State.storeString
  extract_lets cells e s1 src s2 turn s3
  have h1 : ∃ a b, s1 = { s with nvCells := a, nvCellSts := b } :=
    State.each_inv s _ _ (fun z => ∃ a b, z = { s with nvCells := a, nvCellSts := b }) ⟨_, _, rfl⟩ fun z c hz => by
      obtain ⟨a, b, rfl⟩ := hz
      exact ⟨_, _, rfl⟩
  have h3 : ∃ a b c, s3 = { s with nvCells := a, nvCellSts := b, nvEsts := c } := by
    refine State.each_inv s2 _ _ (fun z => ∃ a b c, z = { s with nvCells := a, nvCellSts := b, nvEsts := c }) ?_ fun z k hz => ?_
    · obtain ⟨a, b, hs1⟩ := h1
      exact ⟨a, b, _, by rw [show s2 = { s1 with nvEsts := s2.nvEsts } from rfl, hs1]⟩
    · obtain ⟨a, b, c, rfl⟩ := hz
      split
      · exact ⟨_, _, c, rfl⟩
      · exact ⟨_, _, c, rfl⟩
  obtain ⟨a, b, c, hs3⟩ := h3
  exact ⟨a, b, c, _, congrArg (fun z : State => z.setEst n { z.est n with runs := 0, storeNext := (e.storeNext + 1) % max 1 cells.length }) hs3⟩

/-- One string's turn of the store. -/
def State.storeDue (s : State) (n : Nat) : State := if (s.est n).runs ≥ 20 && s.stored then s.storeString n else s

theorem State.storeDue_stored (s : State) (n : Nat) : (s.storeDue n).stored = s.stored := by
  unfold State.storeDue
  split
  · obtain ⟨a, b, c, x, h⟩ := s.storeString_eq n
    rw [h]
    rfl
  · rfl

theorem State.storeDue_est_ne (s : State) {m n : Nat} (h : n ≠ m) : (s.storeDue m).est n = s.est n := by
  unfold State.storeDue
  split
  · obtain ⟨a, b, c, x, hframe⟩ := s.storeString_eq m
    rw [hframe, State.est_setEst_ne _ _ h]
    rfl
  · rfl

theorem State.storeDue_waits {s : State} {n : Nat} (h : (s.est n).runs < 20 ∨ s.stored = false) : s.storeDue n = s :=
  if_neg (by
    obtain h | h := h
    · simp [Nat.not_le.2 h]
    · simp [h])

theorem State.storeDue_stores {s : State} {n : Nat} (hruns : 20 ≤ (s.est n).runs) (hstored : s.stored = true) :
    ((s.storeDue n).est n).runs = 0 ∧ ((s.storeDue n).est n).x1 = (s.est n).x1 := by
  obtain ⟨a, b, c, x, h⟩ := s.storeString_eq n
  rw [State.storeDue, if_pos (by simp [hruns, hstored]), h, State.est_setEst_same]
  exact ⟨rfl, rfl⟩

theorem execEstimatorStore_eq (s : State) : execEstimatorStore s = .next (s.each (List.range 8) State.storeDue) := rfl

/-- A string whose runs are done counts anew after its store (R300). -/
theorem State.each_storeDue_stores {s : State} {n : Nat} (hn : n < 8) (hruns : 20 ≤ (s.est n).runs) (hstored : s.stored = true) :
    ((s.each (List.range 8) State.storeDue).est n).runs = 0 ∧ ((s.each (List.range 8) State.storeDue).est n).x1 = (s.est n).x1 := by
  have hkept (z : State) (b : Nat) (hz : (z.est n).runs = 0 ∧ (z.est n).x1 = (s.est n).x1) :
      ((z.storeDue b).est n).runs = 0 ∧ ((z.storeDue b).est n).x1 = (s.est n).x1 := by
    by_cases hb : n = b
    · rw [← hb, State.storeDue_waits (.inl (by omega))]
      exact hz
    · rw [z.storeDue_est_ne hb]
      exact hz
  have hturn (z : State) (hz : z.stored = s.stored) (hest : z.est n = s.est n) :
      ((z.storeDue n).est n).runs = 0 ∧ ((z.storeDue n).est n).x1 = (s.est n).x1 := by
    rw [← hest] at hruns ⊢
    exact State.storeDue_stores hruns (hz.trans hstored)
  refine State.each_reaches (fun z => (z.est n).runs = 0 ∧ (z.est n).x1 = (s.est n).x1)
    (fun z => z.stored = s.stored ∧ (((z.est n).runs = 0 ∧ (z.est n).x1 = (s.est n).x1) ∨ z.est n = s.est n)) (List.mem_range.2 hn)
    ⟨rfl, .inr rfl⟩ (fun z b ⟨hz, hest⟩ => ⟨(z.storeDue_stored b).trans hz, ?_⟩) hkept fun z ⟨hz, hest⟩ => ?_
  · obtain hdone | hsame := hest
    · exact .inl (hkept z b hdone)
    · by_cases hb : n = b
      · exact .inl (hb ▸ hturn z hz hsame)
      · exact .inr ((z.storeDue_est_ne hb).trans hsame)
  · obtain hdone | hsame := hest
    · exact hkept z n hdone
    · exact hturn z hz hsame

/-- One whose runs are not done, or that no half of ST can take, waits (R300). -/
theorem State.each_storeDue_waits {s : State} {n : Nat} (h : (s.est n).runs < 20 ∨ s.stored = false) :
    (s.each (List.range 8) State.storeDue).est n = s.est n := by
  refine (State.each_inv s _ _ (fun z => z.stored = s.stored ∧ z.est n = s.est n) ⟨rfl, rfl⟩ fun z b ⟨hz, hest⟩ =>
    ⟨(z.storeDue_stored b).trans hz, ?_⟩).2
  by_cases hb : n = b
  · rw [← hb, State.storeDue_waits (by rwa [hest, hz]), hest]
  · rw [z.storeDue_est_ne hb, hest]

/-- Settles O41: the reset, the commit, the selection and the store. -/
theorem estimatesAreCommittedAndStored : Obligations.EstimatesAreCommittedAndStored := by
  intro s
  refine ⟨fun c n v h ha => ?_, fun hcycle => ?_, execBalanceSelection_selects, _, execEstimatorStore_eq s,
    fun n hn => ⟨State.each_storeDue_stores hn, State.each_storeDue_waits⟩⟩
  · obtain ⟨z, hz⟩ : ∃ z, z = s.taken h := ⟨_, rfl⟩
    have hcells : z.cellsOf n = s.cellsOf n := hz ▸ s.cellsOf_taken h n
    have hfirst : z.firstCell n = s.firstCell n := hz ▸ s.firstCell_taken h n
    have hcell (p : Nat × Nat) : z.cell p.1 p.2 = s.cell p.1 p.2 :=
      hz ▸ State.taken_keeps (fun z => z.cell p.1 p.2) (fun _ _ _ _ => rfl) s h
    have hstamp : (z.each (s.cellsOf n) State.markCell).stamp = s.stamp :=
      (State.each_keeps z _ State.markCell State.stamp fun _ _ => rfl).trans (hz ▸ State.taken_keeps State.stamp (fun _ _ _ _ => rfl) s h)
    have hact := applyEstReset_marks z n
    rw [hcells, hfirst] at hact
    refine ⟨_, congrArg Host.Outcome.next (State.clientCommand_effect ha hz hact), State.answerLater_repliesWith ..,
      fun p hp => ?_, State.raised_answerLater (State.raised_of_stamp hstamp ..) ..⟩
    rw [State.cell_answered, State.each_markCell hp, hcell]
  · refine ⟨_, execEstimateCommit_eq hcycle, ?_, fun n r hrun hdue htime hrest => ?_⟩
    · exact State.each_keeps s _ _ State.ticks State.commitDue_ticks
    · rw [State.each_commitDue n.isLt hrun hdue htime hrest]
      obtain ⟨hover, hprev, -⟩ := s.commitRun_est n r
      exact ⟨hover, hprev⟩

end Sys2Proof.Machine
end
